-- ==== Sys2Proof/Word.lean ====
section
/-!
DEFINITION. The words of the device: the 32-bit register word, the byte, and the 64-bit block payload. Nothing else
stands here; arithmetic on them is in Machine/Operands.lean.
-/

namespace Sys2Proof

/-- A register word (R4: BAR0 is made of 32-bit registers). -/
abbrev Word := BitVec 32

/-- A byte of a memory, a frame or a buffer. -/
abbrev Byte := BitVec 8

/-- The 64-bit payload of a 66-bit block (R97). -/
abbrev Block := BitVec 64

end Sys2Proof
end

