-- ==== Sys2Proof/Syntax.lean ====
section
/-!
DEFINITION. The commands of the block: one constructor per row of the opcode table. A command carries what only its
sender or the surroundings know: unit numbers, register values, received blocks and frames, measured values, and for
an edge the time it was stamped before the present.
-/

namespace Sys2Proof

/-- The fields of a GVSP leader that R178 tests. -/
structure Leader where
  payloadType : Nat
  pixelFormat : Nat
  sizeX : Nat
  sizeY : Nat
  offsetX : Nat
  offsetY : Nat
  padX : Nat
  padY : Nat
  deriving DecidableEq, Repr

/-- What a regulator answered to a poll (R464): VOUT_MODE, READ_VOUT, READ_IOUT, READ_TEMPERATURE_1 and STATUS_WORD. -/
structure PmbReading where
  mode : Nat
  vout : Nat
  iout : Nat
  temp : Nat
  status : Nat
  deriving DecidableEq, Repr

/-- A write on the register network (R4, R19): its master (0 MC, 1 port A, 2 port B), BAR0 offset, size in bytes and
value. -/
structure BusWrite where
  master : Fin 3
  off : Nat
  size : Nat
  value : Nat
  deriving DecidableEq, Repr

/-- A PTP request's domain and sequence number (R182). -/
structure PtpReq where
  domain : Fin 256
  seq : Nat
  deriving DecidableEq, Repr

/-- How a bundle issues: the cycles that it takes (R318), and whether what it sends comes in the CLK_CORE cycle of the
engine event before (R325). -/
structure Issue where
  cycles : Nat
  same : Bool
  deriving DecidableEq, Repr

/-- The lane whose RS_WAIT has passed (R288), and the bay store words met with a corrected and with an uncorrectable error
(R291). -/
structure RsWait where
  lane : Fin 96
  corr : List Nat
  bad : List Nat
  deriving DecidableEq, Repr

/-- A command (the rows of the opcode table, in its order). -/
inductive Instr where
  /-- REGISTER_WRITE (R4): A BAR0 or MC write to a register that has no row of its own: it is applied under the
  access types of R5, or discarded whole if its size or alignment is wrong. -/
  | registerWrite (ws : List BusWrite)
  /-- PORST_ASSERT (R68): PORST_N goes low, or VDD_AON falls below 0.70 V, and a power-on reset of the whole device
  begins. -/
  | porstAssert
  /-- PORST_RELEASE (R71): PORST_N rises and the power-on sequence runs: the straps are sampled, the release is
  synchronised and the OTP shadow is loaded. -/
  | porstRelease (mode : Fin 4) (flashIf : Bool)
  /-- SYS_RST_ASSERT (R68): SYS_RST_N goes low and starts a system reset; field outputs are released within 20 ns. -/
  | sysRstAssert
  /-- SYSTEM_RESET_RELEASE (R71): A system reset ends: the blocks leave reset and the MC boot ROM starts again. -/
  | systemResetRelease
  /-- SYS_RESET_REQUEST (R68): The MC writes SYS in GLOBAL_RESET_CTRL and so requests a system reset. -/
  | sysResetRequest (master : Fin 3)
  /-- MC_RESET_REQUEST (R68): The MC writes MC in GLOBAL_RESET_CTRL and so resets only the MC. -/
  | mcResetRequest (master : Fin 3)
  /-- MC_WATCHDOG_EXPIRY (R460): The MC watchdog expires TIMEOUT ms after its last restart and causes an MC reset
  with cause MC_WDOG. -/
  | mcWatchdogExpiry
  /-- PLL_LOSS_OF_LOCK (R55): A PLL loses lock after it first locked, and the device takes the action its row of R55
  gives: a system reset, an MC reset, a channel retirement, or a port or link going down. -/
  | pllLossOfLock (i : Fin 16)
  /-- PLL_LOCKED (R71): A PLL that was enabled reaches lock. -/
  | pllLocked (i : Fin 16)
  /-- TB_HOLDOVER_ENTRY (R56): Four consecutive 10 MHz periods pass without an edge on TB_REF_IN, so PLL_TB enters
  holdover and logs 0x9120. -/
  | tbHoldoverEntry
  /-- TB_RELOCK (R56): Firmware sets TB_RELOCK to ask PLL_TB to leave holdover once TB_REF_IN is present. -/
  | tbRelock
  /-- TB_RELOCK_COMPLETE (R56): PLL_TB has locked to TB_REF_IN again, and TB_RELOCK clears. -/
  | tbRelockComplete
  /-- TB_COARSE_EXIT (R57): After PLL_TB relocks, the counter returns to CLK_TB on the next CLK_AON tick and COARSE
  clears. -/
  | tbCoarseExit
  /-- DROOP_DETECT (R63): VDD_CORE has stayed below the threshold for 0.5 ns, so CLK_CORE and CLK_FAB are halved and
  the droop counters and log advance. -/
  | droopDetect
  /-- DROOP_RESTORE (R63): Both the hold time and the voltage recovery are satisfied, so the halved clocks are
  restored. -/
  | droopRestore
  /-- FORCE (R67): A write of FORCE starts or extends a halving of (HOLD + 1) µs. -/
  | droopForce
  /-- DROOP_WINDOW_END (R65): A droop window of length W ends, and DROOP_OVER is cleared if a whole window stayed
  within H. -/
  | droopWindowEnd
  /-- DROOP_BUDGET_EXCEEDED (R65): The halved time in a window exceeds H, so DROOP_OVER is set, the overrun is
  counted and 0x9102 is logged. -/
  | droopBudgetExceeded
  /-- BOOT_ROM_START (R72): The boot ROM starts, discovers the flash, reads the boot headers, and then selects,
  verifies and starts the firmware, or enters recovery. -/
  | bootRomStart (sfdp : Option (Nat × Nat))
  /-- FIRMWARE_START (R89): MC firmware starts: it logs GLOBAL_RESET_CAUSE, then either applies the Cut List or
  resumes against a committed device. -/
  | firmwareStart (trained : List Nat) (reread : List Nat) (bad : List (Nat × List Nat))
  /-- COMMIT_TIMEOUT_EXPIRY (R85): COMMIT_TIMEOUT expires while stage 8 waits for Sill time, so firmware logs 0x8045
  and sets OUTPUT_COMMIT. -/
  | commitTimeoutExpiry
  /-- CL_COMMIT (R85): The MC sets CL_COMMIT and the RWL fields lock. -/
  | clCommit
  /-- LINK_RELEASE (R88): The MC sets LINK_RELEASE, and the lanes, Sill ports and position channels start together on
  one CLK_FAB edge. -/
  | linkRelease
  /-- OUTPUT_COMMIT_SET (R42): OUTPUT_COMMIT is set: field outputs drive their idle levels, and sequencers, timers,
  SSI clocks and PPS_OUT start. -/
  | outputCommitSet
  /-- OUTPUT_COMMIT_CLEAR (R44): OUTPUT_COMMIT is cleared: field outputs are released, sequencers stop, and kerf
  buffers flush. -/
  | outputCommitClear
  /-- LANE_ENABLE (R112): ENABLE is set, or PERSONALITY is written non-zero while enabled, with LINK_RELEASE = 1, so
  the lane enters RESET and then a session. -/
  | laneEnable (l : Fin 96) (master : Fin 3)
  /-- LANE_DISABLE (R112): ENABLE is cleared or POWER_DOWN is set, so the lane goes to OFF at once. -/
  | laneDisable (l : Fin 96) (powerDown : Bool) (master : Fin 3)
  /-- RETRAIN (R112): RETRAIN starts a new session at S0 from any state except OFF and TEST. -/
  | retrain (l : Fin 96) (master : Fin 3)
  /-- LANE_PLL_LOCK (R108): The lane PLL locks in RESET, and a training session starts. -/
  | lanePllLock (l : Fin 96)
  /-- LANE_PLL_LOSS (R113): A lane PLL loses lock, so the lane goes to RESET and logs 0x1109. -/
  | lanePllLoss (l : Fin 96)
  /-- BLOCK_LOCK_GAIN (R102): 64 consecutive valid sync headers arrive, so BLOCK_LOCK is declared. -/
  | blockLockGain (l : Fin 96)
  /-- BLOCK_LOCK_LOSS (R102): 16 invalid headers fall within 64 blocks, so BLOCK_LOCK is lost and a relock or new
  session follows. -/
  | blockLockLoss (l : Fin 96) (invalid : Nat)
  /-- ALIGN_SEND (R101): A Tenon transmitter sends its ALIGN block after 16,383 other blocks, switching grade after
  it in STEP. -/
  | alignSend (l : Fin 96)
  /-- ALIGN_RECEIVE (R103): An ALIGN block is received: it may establish or re-anchor ALIGN_LOCK, end an exit burst,
  or switch the receiver's grade. -/
  | alignReceive (l : Fin 96) (info : Fin 256) (spaced : Bool)
  /-- ALIGN_MISS (R103): An expected ALIGN is missing or damaged, so ALIGN_MISS is set; a third consecutive miss
  drops both locks. -/
  | alignMiss (l : Fin 96)
  /-- RELOCK_TIMEOUT (R104): The lane fails to regain both locks within 1 ms in ACTIVE and starts a new training
  session. -/
  | relockTimeout (l : Fin 96)
  /-- LOS_SET (R105): The amplitude stays below 80 mV for over 100 ns, so LOS is set, which in ACTIVE ends the link.
  -/
  | losSet (l : Fin 96)
  /-- LOS_CLEAR (R105): The amplitude stays at or above 110 mV for 20 ns, so LOS clears, which starts WAKE in IDLE or
  ends an ABSENT wait. -/
  | losClear (l : Fin 96)
  /-- LOL_SET (R106): The recovered clock is more than 500 ppm off for 1 µs, so LOL is set and ACTIVE ends. -/
  | lolSet (l : Fin 96)
  /-- LOL_CLEAR (R106): The offset stays within 300 ppm for 10 µs, so LOL clears. -/
  | lolClear (l : Fin 96)
  /-- TRAIN_BLOCK_RECEIVE (R134): A TRAIN block is received and its STATUS, COEFF, REQ, ANS or CAP content is
  processed. -/
  | trainBlockReceive (l : Fin 96) (b : Block)
  /-- STEP_TIMEOUT (R110): A wait for a lock or a partner answer exceeds 10 ms, so the attempt fails. -/
  | stepTimeout (l : Fin 96)
  /-- EQUALISE_LIMIT (R110): EQUALISE at one grade reaches its 100 ms limit. -/
  | equaliseLimit (l : Fin 96)
  /-- EQUALISE_LOW_MARGIN_END (R109): The partner is READY while the device's settings have not changed for 1 ms and
  its margin is low, so EQUALISE ends with a low margin. -/
  | equaliseLowMarginEnd (l : Fin 96)
  /-- ABSENT_WAIT_EXPIRY (R111): The ABSENT back-off wait ends and a new session starts. -/
  | absentWaitExpiry (l : Fin 96)
  /-- EYE_MONITOR_CHECK (R119): Every 10 ms in ACTIVE the eye margins are measured and published, which can start a
  burst or, on the third low check, a session. -/
  | eyeMonitorCheck (l : Fin 96) (v : Nat) (h : Nat) (ctle : Nat) (dfe : Word)
  /-- MARGIN_BURST_END (R119): The 1 ms full-rate adaptation burst ends. -/
  | marginBurstEnd (l : Fin 96)
  /-- EQUALISER_FREEZE (R119): After 4,096 consecutive idle blocks the equaliser freezes and FROZEN is set. -/
  | equaliserFreeze (l : Fin 96)
  /-- EIDLE_RECEIVE (R160): A correct EIDLE block moves the lane to IDLE, or is a violation under R161. -/
  | eidleReceive (l : Fin 96) (b : Block)
  /-- EXIT_TIMEOUT (R122): The ALIGN that ends an exit burst has not arrived within 256 block times, so EXIT_FAIL is
  set and a session starts. -/
  | exitTimeout (l : Fin 96)
  /-- INJECT (R125): INJECT injects one error as INJ_MODE selects, or clears without effect. -/
  | inject (l : Fin 96) (master : Fin 3)
  /-- PRBS_PUBLISH (R124): The LANE_PRBS capture group is published every 1 ms. -/
  | prbsPublish (l : Fin 96) (bits : Nat) (errs : Nat)
  /-- LECHO_RECEIVE (R139): An LECHO matching the outstanding probe yields one latency result, and 16 results publish
  L. -/
  | lechoReceive (l : Fin 96) (b : Block) (ago : Nat)
  /-- PROBE_TIMEOUT (R139): An LPROBE gets no answer within 10 µs and is sent again with a new number. -/
  | probeTimeout (l : Fin 96)
  /-- LATENCY_MEASURE_TIMEOUT (R139): 16 latency results are not complete within 10 ms, which counts as a step
  timeout. -/
  | latencyMeasureTimeout (l : Fin 96)
  /-- LAT_TRACK_PROBE (R140): With LAT_TRACK set, an LPROBE is sent every 100 ms in ACTIVE. -/
  | latTrackProbe (l : Fin 96)
  /-- CREDIT_REFRESH (R145): A CREDIT block is sent when LIMIT has risen by 4 units, or when 10 µs have passed. -/
  | creditRefresh (l : Fin 96)
  /-- SOT_RECEIVE (R146): An SOT block opens a tile, or is a violation if a tile is open. -/
  | sotReceive (l : Fin 96) (b : Block)
  /-- TILE_HEADER_RECEIVE (R149): The 8 header blocks of a tile have arrived, and the header is checked and accepted
  or rejected. -/
  | tileHeaderReceive (l : Fin 96)
  /-- LEDGER_ENTRY_GRANT (R24): A tile header waiting for a Ledger entry receives one and is accepted. -/
  | ledgerEntryGrant (l : Fin 96)
  /-- PAYLOAD_BLOCK_RECEIVE (R152): A tile data block enters the ingress queue, or is discarded beyond LIMIT. -/
  | payloadBlockReceive (l : Fin 96) (b : Block)
  /-- EOT_RECEIVE (R152): An EOT ends the open tile, which is delivered whole or PARTIAL under R152. -/
  | eotReceive (l : Fin 96) (b : Block)
  /-- CONTROL_BLOCK_BAD_CHECK (R132): A control block with a wrong CHECK is discarded and counted, and data blocks
  may be discarded up to the next SOT. -/
  | controlBlockBadCheck (l : Fin 96) (b : Block)
  /-- UNKNOWN_TYPE_RECEIVE (R133): A control block with a TYPE not assigned to the camera is ignored as a violation.
  -/
  | unknownTypeReceive (l : Fin 96) (b : Block)
  /-- CTRL_RSP_RECEIVE (R155): A CTRL_RSP with its value block completes the outstanding camera register request, or
  is discarded as CTRL_STRAY. -/
  | ctrlRspReceive (l : Fin 96) (b : Block) (value : Option Block)
  /-- VIOL_RECEIVE (R165): A VIOL block from the camera is counted, sets PARTNER_VIOL and is logged. -/
  | violReceive (l : Fin 96) (b : Block)
  /-- TRIG_AGE_EXPIRY (R150): TRIG_AGE passes after a trigger's effective firing instant, so the trigger is retired
  unserved or its line is closed. -/
  | trigAgeExpiry (l : Fin 96) (id : Nat)
  /-- CTRL_GO (R155): GO in TENON_CTRL_CMD sends a CTRL_RD or CTRL_WR to the camera, or is refused while a request is
  outstanding. -/
  | ctrlGo (l : Fin 96)
  /-- CTRL_TIMEOUT (R155): No CTRL_RSP arrives within CTRL_TIMEOUT, so the request completes with TIMEOUT. -/
  | ctrlTimeout (l : Fin 96)
  /-- TRIG_LAUNCH (R157): The chosen block slot starts and the TRIG block leaves with its FINE offset, or late with
  FINE = 0, or is reported not sent. -/
  | trigLaunch (l : Fin 96) (ago : Nat)
  /-- BOND_FORM (R143): Every bond member is ACTIVE with matched ALIGNs within the skew limit, so BOND_UP is set and
  the first CREDIT is sent. -/
  | bondForm (l : Fin 96) (skew : Nat)
  /-- BOND_DESKEW_TIMEOUT (R143): ALIGN sequence numbers have not matched within 3 ALIGN intervals, so every member
  restarts and 0x1234 is logged. -/
  | bondDeskewTimeout (l : Fin 96)
  /-- VIOL_DEFERRED_SEND (R162): 100 µs after the last VIOL of a reason, a held violation sends one VIOL block
  covering it. -/
  | violDeferredSend (l : Fin 96) (reason : Nat)
  /-- VIOL_WINDOW_END (R164): A one-second violation window ends, and the next window starts. -/
  | violWindowEnd (l : Fin 96)
  /-- ETH_FRAME_RECEIVE (R171): An Ethernet frame is received and filtered by MAC, IPv4 and UDP rules before passing
  to GVSP, ARP, PTP or firmware. -/
  | ethFrameReceive (l : Fin 96) (f : List Byte) (fcs : Bool) (corr : Nat) (uncorr : Nat)
  /-- GVSP_LEADER_RECEIVE (R178): A GVSP leader opens a block, which is matched to an outstanding trigger or
  discarded. -/
  | gvspLeaderReceive (l : Fin 96) (ei : Bool) (id : Nat) (h : Leader) (ts : Nat)
  /-- GVSP_PAYLOAD_RECEIVE (R180): A GVSP payload packet is placed in its tiles, taking Ledger entries, and any gap
  triggers a PACKETRESEND. -/
  | gvspPayloadReceive (l : Fin 96) (ei : Bool) (id : Nat) (pid : Nat) (data : List Byte) (unavail : Bool)
  /-- GVSP_TRAILER_RECEIVE (R181): A GVSP trailer closes a complete block, or triggers resend requests for the
  missing packets. -/
  | gvspTrailerReceive (l : Fin 96) (ei : Bool) (id : Nat)
  /-- RESEND_WAIT_EXPIRY (R181): RESEND_WAIT passes, so another resend is sent or the block closes PARTIAL with FILL.
  -/
  | resendWaitExpiry (l : Fin 96) (id : Nat)
  /-- ARP_RETRY (R174): Every 100 ms firmware resends the ARP request for CAMERA_IP until it is answered. -/
  | arpRetry (l : Fin 96)
  /-- ARP_REPLY_RECEIVE (R174): An ARP answer resolves the camera's address and sets ARP_OK. -/
  | arpReplyReceive (l : Fin 96) (mac : Nat)
  /-- ARP_REQUEST_RECEIVE (R174): Firmware answers an ARP request for LANE_IP. -/
  | arpRequestReceive (l : Fin 96) (ip : Word)
  /-- CAMERA_SETUP (R175): On a lane's entry to ACTIVE, firmware runs the camera setup steps up to READY. -/
  | cameraSetup (l : Fin 96) (ok : Bool) (value : Word)
  /-- SETUP_RETRY_EXPIRY (R175): The doubling delay after a failed setup ends, and setup restarts from step 1. -/
  | setupRetryExpiry (l : Fin 96)
  /-- GVCP_ACK_TIMEOUT (R176): A GVCP command has no acknowledgement within 20 ms, so it is retried or the step
  fails. -/
  | gvcpAckTimeout (l : Fin 96)
  /-- HEARTBEAT_READ (R176): Firmware reads the camera's heartbeat register at one third of its timeout to keep
  control. -/
  | heartbeatRead (l : Fin 96) (ok : Bool)
  /-- CAM_SYNC_POLL (R177): Firmware polls the camera's IEEE 1588 status every 1 s and sets CAM_SYNCED while it
  matches. -/
  | camSyncPoll (l : Fin 96) (value : Word)
  /-- PTP_SYNC_SEND (R182): The master port sends two-step Sync and Follow_Up every 2^LOG_SYNC s. -/
  | ptpSyncSend (l : Fin 96)
  /-- PTP_ANNOUNCE_SEND (R182): The master port sends Announce every 1 s, with quality from CLASS. -/
  | ptpAnnounceSend (l : Fin 96)
  /-- DELAY_REQ_RECEIVE (R182): A Delay_Req from the camera is stamped and answered within 1 ms. -/
  | delayReqReceive (l : Fin 96) (req : PtpReq) (ago : Nat)
  /-- ACTION_CMD_SEND (R183): LEAD_US ahead of a firing instant, the lane sends ACTION_CMD, waits under QUEUE, moves
  a late action time, or reports the action not sent. -/
  | actionCmdSend (l : Fin 96)
  /-- ACTION_TIME_PASS (R184): An outstanding action's time passes and its queue slot frees for a waiting command. -/
  | actionTimePass (l : Fin 96)
  /-- ENCODER_TRANSITION (R193): An accepted quadrature or Hall transition is decoded into a count, or counted as
  illegal. -/
  | encoderTransition (c : Fin 16) (a : Bool) (b : Bool) (z : Bool) (ago : Nat)
  /-- INDEX_EVENT (R200): An index event is counted and, by INDEX_MODE, sets the reference, checks slip and wraps the
  counter. -/
  | indexEvent (c : Fin 16) (ago : Nat)
  /-- PROBE_EDGE (R208): An accepted probe edge latches the count, x and time into POS_PROBE. -/
  | probeEdge (c : Fin 16) (level : Bool) (ago : Nat)
  /-- SSI_FRAME_START (R195): At each PERIOD boundary an SSI channel clocks a frame on ENC_B. -/
  | ssiFrameStart (c : Fin 16) (idle : Bool)
  /-- SSI_FRAME_END (R196): A completed SSI frame is checked and advances the counter, fails, or is discarded as a
  jump. -/
  | ssiFrameEnd (c : Fin 16) (raw : Nat)
  /-- PRESET (R198): PRESET in POS_CMD applies the offset POS_PRESET − counter as a step. -/
  | posPreset (c : Fin 16)
  /-- POS_SNAP (R210): SNAP in POS_CMD captures the counter and the evaluated state into POS_SNAP. -/
  | posSnap (c : Fin 16)
  /-- ARM (R201): ARM arms a ONCE reference for index events from the next cycle on. -/
  | posArm (c : Fin 16)
  /-- OBS_RESET (R206): OBS_RESET restarts the observer cold. -/
  | obsReset (c : Fin 16)
  /-- OBSERVER_UPDATE (R204): Every UPD_N cycles the observer updates its state, publishes POS_OBS and judges warm or
  cold. -/
  | observerUpdate (c : Fin 16)
  /-- POS_PUBLISH (R211): At every whole microsecond a publishing channel sends its state as a Sill position burst.
  -/
  | posPublish
  /-- POS_STATE_IN_FORCE (R211): A received or published state comes into force at t_s + HOLD. -/
  | posStateInForce (c : Fin 16)
  /-- FOLLOWER_STALE (R212): No frame arrives within 4 µs of the last, so the follower sets STALE and clears WARM. -/
  | followerStale (c : Fin 16)
  /-- EXPOSURE_CENTRE_COPY (R207): The time base reaches a trigger's predicted exposure-centre time, and the channel
  copies its state into the trigger entry. -/
  | exposureCentreCopy (id : Nat)
  /-- TARGET_COMMIT (R223): The time base reaches t_f − C, and the target is committed on time, fired late or
  skipped. -/
  | targetCommit (q : Fin 128)
  /-- FIRING_INSTANT (R224): The effective firing instant arrives: a FIRE event is produced and TRIG_LAST is
  published. -/
  | firingInstant (id : Nat)
  /-- PULSE_START (R236): A path-3 firing drives its GPIO active, or extends an active pulse. -/
  | pulseStart (id : Nat)
  /-- PULSE_END (R236): A path-3 pulse ends and the GPIO returns to idle. -/
  | pulseEnd (q : Fin 128)
  /-- LIST_ENTRY_RETRY (R226): A stalled LIST sequencer rereads its invalid entry every 1 µs. -/
  | listEntryRetry (q : Fin 128)
  /-- TRIG_PUSH (R227): An aligned 64-bit write to TRIG_PUSH appends a target to the ring, or is dropped when the
  ring is full. -/
  | trigPush (q : Fin 128) (master : Fin 3) (size : Nat) (v : Nat)
  /-- FIRE (R229): FIRE in TRIG_CMD starts one firing at now + MIN_PATH in TIME or EVENT mode. -/
  | trigFire (q : Fin 128) (master : Fin 3)
  /-- RING_CLEAR (R237): RING_CLEAR empties the sequencer's ring. -/
  | ringClear (q : Fin 128) (master : Fin 3)
  /-- RESYNC (R237): RESYNC makes the sequencer choose its first target again. -/
  | resync (q : Fin 128) (master : Fin 3)
  /-- SEQUENCER_ENABLE (R237): ENABLE is set with OUTPUT_COMMIT = 1, so the sequencer starts. -/
  | sequencerEnable (q : Fin 128) (master : Fin 3)
  /-- SEQUENCER_DISABLE (R237): ENABLE is cleared, so the uncommitted target is dropped while committed firings
  leave. -/
  | sequencerDisable (q : Fin 128) (master : Fin 3)
  /-- TB_INCR_WRITE (R242): A 64-bit write, or a write of the high half, applies a new TB_INCR, clamped if needed. -/
  | tbIncrWrite (wide : Bool) (v : Nat)
  /-- SET (R244): SET replaces the time base with TB_SET_TIME as a step, or is refused above TB_STEP_MAX. -/
  | tbSet
  /-- STEP (R244): STEP adds TB_STEP to the time base, or is refused above TB_STEP_MAX. -/
  | tbStep
  /-- TB_SNAP (R248): SNAP in TB_CMD captures the time base into TB_SNAP. -/
  | tbSnap
  /-- SLEW_START (R246): A non-zero write to TB_SLEW starts a slew, discarding any slew in progress. -/
  | slewStart (v : Word)
  /-- SLEW_END (R246): The slew remainder reaches zero, so SLEWING clears. -/
  | slewEnd
  /-- SLEW_ABORT (R246): SLEW_ABORT ends the slew at once, keeping what has been applied. -/
  | slewAbort
  /-- PPS_IN_EDGE (R251): A selected PPS_IN edge is stamped into TB_PPS_IN and produces an event. -/
  | ppsInEdge (rising : Bool) (ago : Nat)
  /-- PPS_MISS (R251): No PPS_IN edge arrives within 1.1 s, so PPS_MISS is set and logged. -/
  | ppsMiss
  /-- PPS_OUT_START (R252): The time base reaches a whole second plus OFFSET_NS, and PPS_OUT goes active. -/
  | ppsOutStart
  /-- PPS_OUT_END (R252): WIDTH_US passes, and PPS_OUT returns to idle. -/
  | ppsOutEnd
  /-- ALARM_FIRE (R253): A time alarm reaches its TIME, or is passed by a step, and fires. -/
  | alarmFire (a : Fin 8)
  /-- CYCLE_TIMER_PULSE (R254): A cycle timer reaches START + k × PERIOD, emits its event and may drive its pin. -/
  | cycleTimerPulse (i : Fin 16)
  /-- CYCLE_TIMER_PULSE_END (R254): A cycle timer's pin pulse ends after WIDTH ns. -/
  | cycleTimerPulseEnd (i : Fin 16)
  /-- GPIO_EDGE_CAPTURE (R255): A selected edge on an input GPIO is stamped into its TB_GPIO_EDGE group. -/
  | gpioEdgeCapture (g : Fin 64) (rising : Bool) (ago : Nat)
  /-- EVENT_ARRIVE (R264): An event reaches an enabled consumer, which accepts it, holds it pending or loses it,
  merging coincident events. -/
  | eventArrive (c : Fin 64) (ps : List Nat) (same : Bool)
  /-- PENDING_ACCEPT (R264): The consumer becomes free and accepts its pending event in the next cycle. -/
  | pendingAccept (c : Fin 64)
  /-- SOFT (R257): A write of SOFT in EVT_CMD produces event 111. -/
  | evtSoft
  /-- EVT_PULSE_END (R265): A GPIO pulse output's WIDTH ends and the pin returns to idle. -/
  | evtPulseEnd (k : Fin 8)
  /-- CONDITIONING_START (R273): Enough payload, or the EOT, is in the queue, so the pipe starts on an accepted tile.
  -/
  | conditioningStart (l : Fin 96)
  /-- TILE_CONDITIONED (R25): A tile's last pixel, or its last resampled value, is written to the bay store and its
  entry becomes CONDITIONED. -/
  | tileConditioned (l : Fin 96) (corr : List Nat) (bad : List Nat)
  /-- RING_SPACE_FREE (R274): Every consumer releases a tile, freeing ring space and resuming a stalled lane. -/
  | ringSpaceFree (l : Fin 96)
  /-- RS_WAIT_EXPIRY (R288): The resampler's taps are not all present within RS_WAIT, so the tile is produced from
  the taps present. -/
  | rsWaitExpiry (w : RsWait)
  /-- PEAK_CLEAR (R271): PEAK_CLEAR sets PEAK to the present fill. -/
  | peakClear (l : Fin 96) (master : Fin 3)
  /-- SWAP (R283): SWAP requests a switch of the lane's table set at its next line. -/
  | tableSwap (l : Fin 96) (master : Fin 3)
  /-- SEGMENT_BURST_ARRIVE (R300): A segment burst reaches a scarf unit and opens a bent, joins one, or is a
  straggler. -/
  | segmentBurstArrive (u : Fin 16) (n : Nat) (last : Bool) (corr : Bool) (bad : List Nat)
  /-- BENT_DEADLINE (R301): BENT_WAIT passes after a bent opened, so it closes with its missing segments filled. -/
  | bentDeadline (u : Fin 16) (line : Int)
  /-- STITCH_ENABLE (R311): EN is set on a scarf unit, and CLOSED_HIGH is cleared. -/
  | stitchEnable (u : Fin 16) (master : Fin 3)
  /-- STITCH_DISABLE (R311): EN is cleared, so every open bent closes and later tiles are stragglers. -/
  | stitchDisable (u : Fin 16) (master : Fin 3)
  /-- KERF_LINE_WRITE (R307): A conditioned line of a delayed lane is written to its kerf buffer, releasing any line
  that is now due. -/
  | kerfLineWrite (l : Fin 96)
  /-- KERF_MAX_EXPIRY (R307): A held line reaches KERF_MAX_US and is released. -/
  | kerfMaxExpiry (l : Fin 96)
  /-- KERF_READBACK_DONE (R307): A released kerf line has been read back and is sent to its scarf units. -/
  | kerfReadbackDone (l : Fin 96) (corr : Bool) (bad : List Nat)
  /-- TILE_DEAL (R326): A conditioned tile is dealt to the next engine of its gang, waiting while that queue is full.
  -/
  | tileDeal (l : Fin 96)
  /-- TASK_START (R328): An idle engine selects the lowest-numbered non-empty input and starts its oldest record. -/
  | taskStart (e : Fin 192)
  /-- BUNDLE_ISSUE (R319): An engine issues one bundle of scalar, memory and vector instructions, or faults. -/
  | bundleIssue (e : Fin 192) (i : Issue) (err : Fin 5)
  /-- SIG (R334): SIG raises an engine signal producer of the event matrix. -/
  | engSig (e : Fin 192) (i : Issue)
  /-- POST (R336): POST sends a scalar value as a record to an event input of an engine of the bay. -/
  | engPost (e : Fin 192) (i : Issue)
  /-- PUSH (R335): PUSH appends a 64-bit position to a sequencer's ring, or faults PUSH. -/
  | engPush (e : Fin 192) (i : Issue)
  /-- DMA_GO (R329): DMA_GO makes a bay DMA channel look at HEAD again. -/
  | dmaGo (e : Fin 192) (cycles : Nat)
  /-- DMA_WAIT (R329): DMA_WAIT stalls the engine until the channel is idle or in error. -/
  | dmaWait (e : Fin 192) (cycles : Nat)
  /-- DMA_WAIT_RESUME (R329): The awaited DMA channel becomes idle or errors, and the stalled engine resumes. -/
  | dmaWaitResume (e : Fin 192)
  /-- OUT_OPEN (R331): OUT_OPEN takes a Ledger entry and an output slot for a stream, or stalls. -/
  | outOpen (e : Fin 192) (cycles : Nat)
  /-- OUT_OPEN_RESUME (R331): The entry and slot that a stalled OUT_OPEN waited for become free and it completes. -/
  | outOpenResume (e : Fin 192)
  /-- OUT_EMIT (R331): OUT_EMIT fixes an output's tag, makes its entry ACCEPTED and passes the slot to delivery. -/
  | outEmit (e : Fin 192) (cycles : Nat)
  /-- TKEEP (R327): TKEEP keeps the current tile and returns its handle. -/
  | tkeep (e : Fin 192) (cycles : Nat)
  /-- TREL (R327): TREL releases a kept tile. -/
  | trel (e : Fin 192) (cycles : Nat)
  /-- FENCE (R322): FENCE waits until the engine's earlier stores are visible. -/
  | engFence (e : Fin 192) (cycles : Nat)
  /-- TEND (R327): TEND ends the task and releases its tile unless the tile is kept. -/
  | tend (e : Fin 192) (cycles : Nat)
  /-- TASK_BUDGET_EXPIRY (R328): A task's cycle count reaches BUDGET, and it is aborted with fault BUDGET. -/
  | taskBudgetExpiry (e : Fin 192)
  /-- ABORT (R337): ABORT in ENG_CMD aborts the running task with fault HALT. -/
  | engAbort (e : Fin 192) (master : Fin 3)
  /-- RESTART (R339): RESTART re-verifies and reloads a quarantined engine and returns it to IDLE. -/
  | engRestart (e : Fin 192) (master : Fin 3)
  /-- DMA_DESCRIPTOR_START (R329): A valid descriptor at HEAD, with its kick if needed, starts its transfer or is
  refused with WINDOW. -/
  | dmaDescriptorStart (b : Fin 24) (c : Fin 8)
  /-- DMA_TRANSFER_DONE (R329): A descriptor's transfer completes: STATUS is written, HEAD advances and a completion
  may be posted. -/
  | dmaTransferDone (b : Fin 24) (c : Fin 8) (corr : Bool) (bad : List Nat) (same : Bool)
  /-- DDR_REFRESH (R349): Every tREFI an all-bank refresh is inserted at the holder's next break point. -/
  | ddrRefresh (_k : Fin 8)
  /-- ZQ_SHORT_CALIBRATION (R349): ZQ short calibration runs every 128 ms within a refresh. -/
  | zqShortCalibration (_k : Fin 8)
  /-- DDR_ALERT (R350): ALERT_N reports a CA parity error, so commands are reissued, and a third report in 1 ms
  retires the channel. -/
  | ddrAlert (k : Fin 8) (n : Nat)
  /-- DDR_READ_DECODE (R354): A read is decoded as clean, corrected or uncorrectable, and the requester is told. -/
  | ddrReadDecode (k : Fin 8) (addr : Nat) (req : Fin 28) (errs : List (Nat × Nat))
  /-- SCRUB_READ (R357): Every SCRUB_INTERVAL the scrubber reads a burst and rewrites a corrected codeword. -/
  | scrubRead (k : Fin 8) (words : List (List (Nat × Nat)))
  /-- DDR_ERASE_WRITE (R356): An MC write of DDR_ERASE sets erasure mode for reads decoded afterwards. -/
  | ddrEraseWrite (k : Fin 8) (master : Fin 3) (v : Word)
  /-- DDR_RETIRE (R358): RETIRE in DDR_CTRL stops grants and retires the channel in the steps of R358. -/
  | ddrRetire (k : Fin 8) (cause : Fin 8)
  /-- ARB_REQUEST_RAISE (R362): A requester raises its request, and a decision is made or the requester loses into
  back-off. -/
  | arbRequestRaise (a : Fin 10) (r : Fin 43)
  /-- ARB_REQUEST_DROP (R362): The holder drops its request after its last burst, and a decision is made. -/
  | arbRequestDrop (a : Fin 10)
  /-- ARB_BREAK_POINT (R362): A break point with a requester ahead of the holder leads to preemption and a decision.
  -/
  | arbBreakPoint (a : Fin 10)
  /-- ARB_BACKOFF_END (R363): A loser's back-off count ends and it raises its request again. -/
  | arbBackoffEnd (a : Fin 10) (r : Fin 43)
  /-- ARB_RANK_WRITE (R364): A new RANK is applied at the next decision. -/
  | arbRankWrite (a : Fin 10) (w : Fin 6) (master : Fin 3) (v : Word)
  /-- WAIT_WATCHDOG_EXPIRY (R366): A unit has waited WDOG_US, so the watchdog follows the chain and breaks a circle
  or logs a long wait. -/
  | waitWatchdogExpiry (u : Fin 9 × Nat) (res : Fin 5) (a : Fin 10) (circle : List (Fin 9 × Nat))
  /-- DELIVERY_READY (R376): A delivery becomes ready and takes the next descriptor of its stream's ring on its port.
  -/
  | deliveryReady (st : Fin 256) (p : Fin 2)
  /-- PAYLOAD_TRANSFER (R382): A granted delivery transfer writes payload to the host buffer. -/
  | payloadTransfer (p : Fin 2) (n : Nat) (credit : Bool)
  /-- DESC_TAIL_WRITE (R373): The host writes DESC_TAIL to make descriptors available, or the write is refused. -/
  | descTailWrite (st : Fin 256) (p : Fin 2) (master : Fin 3) (size : Nat) (v : Word)
  /-- DESC_FETCH (R373): The device issues a read for up to 16 available descriptors. -/
  | descFetch (st : Fin 256) (p : Fin 2)
  /-- DESC_COMPLETION_RECEIVE (R404): A descriptor read completion arrives and its descriptors are held for use. -/
  | descCompletionReceive (p : Fin 2) (t : Nat) (ok : Bool) (data : List Byte)
  /-- COMPLETION_TIMEOUT (R422): A descriptor read times out and is retried once, or the ring is withdrawn. -/
  | completionTimeout (p : Fin 2) (t : Nat)
  /-- CREDIT_WAIT_EXPIRY (R395): A delivery waits beyond CREDIT_NS, so WAITING is set and LATE_HOST applies. -/
  | creditWaitExpiry (st : Fin 256) (p : Fin 2)
  /-- DEACT_EXPIRY (R395): A wait reaches DEACT_MS, so the port's ring is withdrawn and STARVED is set. -/
  | deactExpiry (st : Fin 256) (p : Fin 2)
  /-- IRQ_MODERATION_EXPIRY (R397): IRQ_US passes since the first unsignalled tag, so the ring's vector is raised. -/
  | irqModerationExpiry (st : Fin 256) (p : Fin 2)
  /-- RATE_WINDOW_END (R396): A one-second delivery window ends, and OVERRATE is judged on it. -/
  | rateWindowEnd
  /-- FLUSH_US_EXPIRY (R376): FLUSH_US passes, so a partial event log batch becomes ready. -/
  | flushUsExpiry (st : Fin 256)
  /-- RECALL_GO (R386): GO in DLV_RECALL_REQ starts a recall walk, or is refused while BUSY. -/
  | recallGo (master : Fin 3) (v : Word)
  /-- RECALL_RECORD_READ (R387): A recall record is read, delivered on OUT if in range, and the walk continues or
  ends. -/
  | recallRecordRead (hdr : Bool) (bad : List Nat)
  /-- PERST_ASSERT (R68): PERST_N of a port goes low, resetting that port and stopping its streams. -/
  | perstAssert (p : Fin 2)
  /-- PERST_DEASSERT (R403): PERST_N rises and an enabled port begins link training. -/
  | perstDeassert (p : Fin 2)
  /-- LINK_UP (R402): A PCIe link comes up, r_link is recomputed, and 0x5201 is logged. -/
  | linkUp (p : Fin 2) (gen : Fin 7) (w : Fin 17)
  /-- LINK_DOWN (R423): A PCIe link goes down, stopping the port's streams under R20. -/
  | linkDown (p : Fin 2)
  /-- PCIE_CFG_WRITE (R403): A write of PCIE_CFG disables, retrains or re-limits the link. -/
  | pcieCfgWrite (p : Fin 2) (master : Fin 3) (v : Word)
  /-- FLR (R420): A Function Level Reset stops the port, abandons its mailbox request and restores its configuration.
  -/
  | flr (p : Fin 2)
  /-- BME_CLEAR (R419): Bus Master Enable goes to 0, so the port issues no requests and its streams stop. -/
  | bmeClear (p : Fin 2)
  /-- BME_SET (R419): Bus Master Enable returns to 1, and streams wait for a new RING_POST. -/
  | bmeSet (p : Fin 2)
  /-- D3HOT_ENTRY (R421): The function enters D3hot and acts as R419 describes. -/
  | d3hotEntry (p : Fin 2)
  /-- D0_RETURN (R421): The function returns to D0, keeping its configuration state. -/
  | d0Return (p : Fin 2)
  /-- CONFIG_REQUEST (R403): A configuration request to a port is answered. -/
  | configRequest (p : Fin 2) (write : Bool) (word : Fin 1024) (be : Fin 16) (v : Word)
  /-- PEER_REQUEST (R410): A BAR2 request is decoded against the active windows and served through PEER, or completed
  with UR. -/
  | peerRequest (p : Fin 2) (kind : Fin 3) (addr : Nat) (data : List (Option Byte)) (reqId : Nat) (tag : Nat) (ep : Bool) (bad : List Nat)
  /-- WINDOW_COMMIT (R411): WINDOW_COMMIT checks the shadow windows and sets COMMIT_PENDING, or refuses the commit.
  -/
  | windowCommit (p : Fin 2) (master : Fin 3)
  /-- WINDOW_SWITCH (R412): The last request of the old window set finishes, so the active set becomes the shadow
  set. -/
  | windowSwitch (p : Fin 2) (bads : List (List Nat))
  /-- MSIX_PENDING_SEND (R415): A masked or blocked vector's condition ends, and its pending message is sent. -/
  | msixPendingSend (p : Fin 2) (v : Fin 2048)
  /-- GET_INFO (R417): Mailbox GET_INFO returns the firmware state, STAGE and mailbox format. -/
  | getInfo (p : Fin 2)
  /-- STREAM_OPEN (R393): Mailbox STREAM_OPEN admits a new stream against the remaining capacity. -/
  | streamOpen (p : Fin 2)
  /-- STREAM_CLOSE (R393): Mailbox STREAM_CLOSE closes a mailbox stream and returns its reservation. -/
  | streamClose (p : Fin 2) (st : Fin 256)
  /-- RING_POST (R418): Mailbox RING_POST posts a ring pair on the carrying port. -/
  | ringPost (p : Fin 2)
  /-- RING_WITHDRAW (R418): Mailbox RING_WITHDRAW stops a ring from taking descriptors. -/
  | ringWithdraw (p : Fin 2)
  /-- CAMERA_ACCESS (R176): Mailbox CAMERA_ACCESS queues a camera register access or unscheduled action behind setup.
  -/
  | cameraAccess (p : Fin 2) (l : Fin 96) (op : Fin 4) (addr : Word) (value : Word)
  /-- TABLE_LOAD (R488): Mailbox TABLE_LOAD loads conditioning tables from DDR4 into a lane's inactive set. -/
  | tableLoad (p : Fin 2) (bad : List Nat)
  /-- ENGINE_RESTART (R339): Mailbox ENGINE_RESTART makes firmware set RESTART on a quarantined engine. -/
  | engineRestart (p : Fin 2) (e : Fin 192)
  /-- UNIT_RETIRE (R496): Mailbox UNIT_RETIRE retires a unit at run time and re-admits the streams. -/
  | unitRetire (p : Fin 2)
  /-- IMAGE_BEGIN (R478): Mailbox IMAGE_BEGIN chooses a target slot and starts an update record. -/
  | imageBegin (p : Fin 2)
  /-- IMAGE_CHUNK (R478): Mailbox IMAGE_CHUNK writes the next part of the image, erasing sectors as needed. -/
  | imageChunk (p : Fin 2)
  /-- IMAGE_END (R478): Mailbox IMAGE_END verifies the written slot and may activate it. -/
  | imageEnd (p : Fin 2)
  /-- CUTLIST_TRIAL (R482): Mailbox CUTLIST_TRIAL activates a received Cut List slot and performs a system reset. -/
  | cutlistTrial (p : Fin 2)
  /-- ATTEST_REPORT (R476): ATTEST with SUB 0 returns a signed attestation report for a nonce. -/
  | attestReport (p : Fin 2)
  /-- ATTEST_CERTIFICATE (R476): ATTEST with SUB 1 returns part of the identity certificate. -/
  | attestCertificate (p : Fin 2)
  /-- OTP_PROGRAM_SLOT (R485): OTP_PROGRAM with OP 1 programs an OTP slot after its checks. -/
  | otpProgramSlot (p : Fin 2)
  /-- OTP_REVOKE_SLOT (R485): OTP_PROGRAM with OP 2 revokes an OTP slot after its checks. -/
  | otpRevokeSlot (p : Fin 2)
  /-- MAILBOX_RESET (R417): Mailbox RESET writes its response and then performs a system or MC reset. -/
  | mailboxReset (p : Fin 2) (sys : Bool)
  /-- OUTPUT_HOLD (R90): Mailbox OUTPUT_HOLD clears OUTPUT_COMMIT at run time. -/
  | outputHold (p : Fin 2)
  /-- OUTPUT_RESUME (R90): Mailbox OUTPUT_RESUME sets OUTPUT_COMMIT again without reapplying the Cut List. -/
  | outputResume (p : Fin 2)
  /-- LOG_READ (R469): Mailbox LOG_READ returns log entries from the ring or from flash. -/
  | logRead (p : Fin 2)
  /-- SILL_BLOCK_LOCK (R427): A Sill port in SEEK gains block lock and moves to HELLO. -/
  | sillBlockLock (p : Fin 4)
  /-- SILL_LINK_LOSS (R427): LOS, LOL or loss of block lock sends a Sill port back to SEEK. -/
  | sillLinkLoss (p : Fin 4)
  /-- HELLO_SEND (R427): A Sill port sends HELLO every 1 µs in HELLO and every 1 ms in ACTIVE. -/
  | helloSend (p : Fin 4)
  /-- HELLO_RECEIVE (R428): A HELLO is checked, moving the port to MEASURE or to FAULT. -/
  | helloReceive (p : Fin 4) (bs : List (Bool × Block))
  /-- HELLO_TIMEOUT (R427): No two matching HELLO frames arrive within 10 ms, so the port returns to SEEK. -/
  | helloTimeout (p : Fin 4)
  /-- MEASURE_TIMEOUT (R427): The hop latency is not published within 10 ms, so the port returns to SEEK. -/
  | measureTimeout (p : Fin 4)
  /-- FAULT_HOLD_EXPIRY (R427): After 1 s in FAULT the port returns to SEEK. -/
  | faultHoldExpiry (p : Fin 4)
  /-- SILL_PROBE_SEND (R433): A Sill port sends PROBE, in MEASURE and every 1 ms in ACTIVE. -/
  | sillProbeSend (p : Fin 4)
  /-- PROBE_RECEIVE (R433): A received PROBE is answered with PECHO carrying TURN. -/
  | probeReceive (p : Fin 4) (b : Block) (turn : Nat)
  /-- PECHO_RECEIVE (R433): A PECHO yields one hop-latency result, and MEASURE ends after 16. -/
  | pechoReceive (p : Fin 4) (b : Block) (ago : Nat)
  /-- SYNC_SEND (R434): Every 10 µs each ACTIVE port sends SYNC carrying its egress time. -/
  | syncSend (p : Fin 4)
  /-- SYNC_RECEIVE (R434): A SYNC gives θ, which is published in SILL_OFS. -/
  | syncReceive (p : Fin 4) (bs : List (Bool × Block)) (ago : Nat)
  /-- TIME_SERVO (R436): Every 1 ms firmware disciplines the time base to its time parent and judges lock. -/
  | timeServo
  /-- SYNC_TIMEOUT (R436): No SYNC arrives from the parent for 10 ms, so the node enters holdover. -/
  | syncTimeout
  /-- POS_BURST_RECEIVE (R440): A position burst from the carried claim is accepted and rebuilt per slot, and
  forwarded down. -/
  | posBurstReceive (p : Fin 4) (bs : List (Bool × Block))
  /-- EVENT_FRAME_RECEIVE (R442): An EVENT frame is forwarded up or down, and delivered on its fabric line unless
  aligned. -/
  | eventFrameReceive (p : Fin 4) (bs : List (Bool × Block))
  /-- ALIGNED_EVENT_DUE (R442): At origin time + EVT_HOLD an aligned fabric event is delivered. -/
  | alignedEventDue
  /-- SCHED_GO (R443): GO in SILL_SCHED_CMD sends a SCHED frame toward the root. -/
  | schedGo (master : Fin 3)
  /-- SCHED_FRAME_RECEIVE (R443): A downward SCHED frame writes a schedule entry whole, or is rejected outside the
  window. -/
  | schedFrameReceive (p : Fin 4) (bs : List (Bool × Block))
  /-- MGMT_FRAME_RECEIVE (R444): An MGMT frame is forwarded or delivered to the MC of DEST. -/
  | mgmtFrameReceive (p : Fin 4) (bs : List (Bool × Block))
  /-- CLAIM_SEND (R446): A holder sends CLAIM every 10 µs on every DOWN port. -/
  | claimSend
  /-- CLAIM_RECEIVE (R447): A CLAIM frame is heard on an UP port, re-evaluating the carried claim. -/
  | claimReceive (p : Fin 4) (bs : List (Bool × Block))
  /-- CLAIM_WINDOW_EXPIRY (R447): A claim has not been heard within CLAIM_WINDOW and stops counting. -/
  | claimWindowExpiry
  /-- CECHO_SEND (R446): A repeater sends CECHO every 10 µs on each UP port. -/
  | cechoSend
  /-- CECHO_RECEIVE (R449): A CECHO is received, and a holder withdraws after two echo periods naming a higher claim.
  -/
  | cechoReceive (p : Fin 4) (b : Block)
  /-- BEAT_SEND (R448): A twin sends BEAT every 5 µs on its TWIN port. -/
  | beatSend
  /-- BEAT_RECEIVE (R448): A BEAT is received, cancelling a holdoff or carrying swap negotiation. -/
  | beatReceive (p : Fin 4) (bs : List (Bool × Block))
  /-- TWIN_WATCH_START (R448): A twin starts its watch when its TWIN port is ACTIVE, or 100 ms after LINK_RELEASE. -/
  | twinWatchStart
  /-- HB_LOST (R448): No BEAT has arrived for 50 µs, so HB_LOST is declared and a standby starts its holdoff. -/
  | hbLost
  /-- CLAIM_HOLDOFF_EXPIRY (R448): A standby's holdoff ends, so it becomes HOLDER and applies D_align. -/
  | claimHoldoffExpiry
  /-- SWAP_REQ (R451): SWAP_REQ in SILL_CMD proposes a swap at once. -/
  | swapReq (master : Fin 3)
  /-- SWAP_TAKING_START (R451): From T_swap − 100 µs the taker sends TAKING and the holder sends RELEASING. -/
  | swapTakingStart
  /-- SWAP_POINT (R451): At T_swap the taker becomes HOLDER and the other twin becomes STANDBY. -/
  | swapPoint
  /-- REVERT_HOLD_EXPIRY (R452): A preferred standby that has been HEALTHY for REVERT_HOLD proposes a swap. -/
  | revertHoldExpiry
  /-- SWAP_PERIOD_EXPIRY (R452): SWAP_PERIOD after becoming HOLDER, a holder proposes a periodic swap. -/
  | swapPeriodExpiry
  /-- SENSOR_PUBLISH (R461): Every 1 ms the sensors are published and the thermal thresholds are judged. -/
  | sensorPublish (temps : List Nat) (volts : List Nat)
  /-- THERMAL_TRIP (R462): A sensor stays at Tmax + 15 °C for 1 ms, so the trip logic requests a system reset. -/
  | thermalTrip
  /-- VOLT_OUT (R463): A voltage reading stays out of tolerance for 100 µs, so VOLT_OUT is set and logged. -/
  | voltOut (m : Fin 16) (mv : Fin 65536)
  /-- PMBUS_POLL (R464): Every 100 ms firmware reads each listed regulator and publishes MC_PMB. -/
  | pmbusPoll (answers : List (Option PmbReading))
  /-- PMB_ALERT (R464): PMB_ALERT_N goes low, so firmware reads, logs and clears the faults of its regulators. -/
  | pmbAlert (status : List Nat)
  /-- LOG_WRITE (R466): The log writer takes an entry from its queue and writes it into the ring. -/
  | logWrite
  /-- LOG_LIMIT_INTERVAL_END (R523): A rate limiter's 1 s interval ends, logging one entry with the count, or going
  idle. -/
  | logLimitIntervalEnd (code : Nat) (item : Nat)
  /-- LOG_FLASH_COPY (R467): Firmware copies entries of severity at least PERSIST_SEV to the flash log. -/
  | logFlashCopy
  /-- TRIAL_CONFIRM (R480): A trial slot has run 60 s under the conditions of R480, so it is confirmed and the
  rollback counter may advance. -/
  | trialConfirm
  /-- IDENTITY_KEY_READY (R474): The identity key pair has been generated, and ATTEST becomes available. -/
  | identityKeyReady
  /-- RETIRE_LANE (R495): GLOBAL_RETIRE_CMD with KIND 0 retires a lane at the retire point. -/
  | retireLane (master : Fin 3) (l : Fin 96)
  /-- RETIRE_BAY (R495): GLOBAL_RETIRE_CMD with KIND 1 retires a bay with its lanes and engines. -/
  | retireBay (master : Fin 3) (b : Fin 24)
  /-- RETIRE_ENGINE (R495): GLOBAL_RETIRE_CMD with KIND 2 retires an engine. -/
  | retireEngine (master : Fin 3) (e : Fin 192)
  /-- RETIRE_POSITION_CHANNEL (R495): GLOBAL_RETIRE_CMD with KIND 4 retires a position channel. -/
  | retirePositionChannel (master : Fin 3) (c : Fin 16)
  /-- RETIRE_SILL_PORT (R495): GLOBAL_RETIRE_CMD with KIND 5 retires a Sill port. -/
  | retireSillPort (master : Fin 3) (p : Fin 4)
  /-- PWM_PERIOD_START (R509): A PWM period starts and drives its pin active for HIGH ns. -/
  | pwmPeriodStart (k : Fin 8)
  /-- PWM_HIGH_END (R509): HIGH ns pass, and the PWM pin returns to idle. -/
  | pwmHighEnd (k : Fin 8)
  /-- EQUALISE_READY (R109): The device's receiver adaptation reaches an eye margin that meets both MARGIN_V and
  MARGIN_H, so the device reports READY and EQUALISE can end with both sides ready. -/
  | equaliseReady (l : Fin 96) (v : Nat) (h : Nat)
  /-- CHECKER_LOCK (R124): The PRBS or user-pattern checker sees 64 consecutive correct bits, sets CHK_LOCK and
  starts its bit and error totals. -/
  | checkerLock (l : Fin 96)
  /-- CHECKER_RESEED (R124): The checker sees 32 errors within 64 bits, reseeds itself and counts the reseed in
  LANE_CNT_CHKRESYNC. -/
  | checkerReseed (l : Fin 96)
  /-- IDLE_BLOCK_RECEIVE (R161): A Tenon IDLE control block is received, which after EIDLE blocks before LOS returns
  the lane to ACTIVE with an EIDLE violation, and which counts toward or breaks idle runs. -/
  | idleBlockReceive (l : Fin 96) (n : Nat)
  /-- CAMERA_SCRIPT_WAIT_EXPIRY (R177): The VALUE ms wait of an OP 3 camera script record ends, and firmware
  continues with the next record. -/
  | cameraScriptWaitExpiry (l : Fin 96)
  /-- CAM_SYNC_DELAY_EXPIRY (R177): With PTP_EN and no OP 4 record, 2 s pass after the first Delay_Req is answered,
  so CAM_SYNCED is set and setup can reach READY. -/
  | camSyncDelayExpiry (l : Fin 96)
  /-- ENC_Z_FALL (R200): The accepted ENC_Z level goes low, re-arming the channel so that a later rise can give a
  further index event. -/
  | encZFall (c : Fin 16)
  /-- ENGINE_PUSH_ARRIVE (R335): An engine push leaves the bay queue and dual-clock queue, freeing a slot for a
  stalled engine, and reaches the sequencer, which appends it or drops it if the sequencer has left LIST ring mode.
  -/
  | enginePushArrive (b : Fin 24)
  /-- FENCE_COMPLETE (R322): The engine's earlier stores become visible to DMA and the other engines, and a
  FENCE-stalled engine resumes. -/
  | fenceComplete (e : Fin 192)
  /-- FAULT_WINDOW_END (R339): A one-second engine fault-counting window, counted from OUTPUT_COMMIT, ends and the
  next window starts. -/
  | faultWindowEnd
  /-- POSTED_CREDIT_RETURN (R382): The PCIe link returns posted-write credit, so a delivery-port holder waiting on
  credit resumes its transfer. -/
  | postedCreditReturn (p : Fin 2)
  /-- PEER_READ_COMPLETE (R413): DDR4 data for a BAR2 read returns and its 64-byte completions are sent, with EP set
  on any that met an uncorrectable error. -/
  | peerReadComplete (p : Fin 2) (i : Nat) (bad : List Nat)
  /-- FLR_COMPLETE (R420): The port finishes its FLR within 1 ms, logs 0x5205 and answers configuration requests
  normally again. -/
  | flrComplete (p : Fin 2)
  /-- PCIE_LINK_ERROR (R423): A link-level error such as a receiver error, bad DLLP, replay timeout or data link
  protocol error is detected, causing a retry or retraining and being counted or reported by AER. -/
  | pcieLinkError (p : Fin 2) (kind : Fin 9)
  /-- MAILBOX_BAD_OPCODE (R417): A mailbox GO carries an opcode that is undefined or not served in the current mode,
  and is answered BAD_OPCODE and logged with 0x5301. -/
  | mailboxBadOpcode (p : Fin 2)
  /-- NO_HOLDER_TIMEOUT (R448): A STANDBY twin has received BEATs that show no HOLDER for 50 µs, so it starts its
  holdoff. -/
  | noHolderTimeout
  /-- PARTNER_TOO_NARROW (R402): Link training finds a partner that can form only ×2 or ×1, so the link is left down
  and 0x5203 is logged. -/
  | partnerTooNarrow (p : Fin 2)
  deriving DecidableEq, Repr

end Sys2Proof
end

