-- ==== Sys2Proof/Machine/Operands.lean ====
section
/-!
DEFINITION. The operand forms: bit fields of words, bytes and words of byte lists, signed readings, the two CRCs and
the small arithmetic the rules share. Nothing here reads or writes the state.
-/

namespace Sys2Proof.Machine

/-! ### Bit fields (kept as natural numbers, so that they evaluate quickly) -/

/-- The `w` bits of `x` from bit `lo` on. -/
def getBits (x lo w : Nat) : Nat := x / 2 ^ lo % 2 ^ w

/-- `x` with its `w` bits from bit `lo` on replaced by `n` (taken modulo 2^w). -/
def putBits (x lo w n : Nat) : Nat := x / 2 ^ (lo + w) * 2 ^ (lo + w) + (n % 2 ^ w) * 2 ^ lo + x % 2 ^ lo

/-- Bit `i` of `x`. -/
def bit (x i : Nat) : Bool := x / 2 ^ i % 2 == 1

/-- A flag as a number. -/
def b2n (b : Bool) : Nat := if b then 1 else 0

/-- `x` read as a two's complement number of `w` bits. -/
def sext (w x : Nat) : Int := if 2 * (x % 2 ^ w) < 2 ^ w then ((x % 2 ^ w : Nat) : Int) else (x % 2 ^ w : Nat) - (2 ^ w : Nat)

/-- The two's complement form of `i` in `w` bits. -/
def trunc (w : Nat) (i : Int) : Nat := (i % ((2 ^ w : Nat) : Int)).toNat

/-- `i` clamped to the range `lo` to `hi`. -/
def clampInt (lo hi i : Int) : Int := max lo (min hi i)

/-- Division rounded to the nearest whole number, halves away from zero. -/
def roundDiv (n d : Int) : Int := if 0 ≤ n then (2 * n + d) / (2 * d) else -((2 * (-n) + d) / (2 * d))

/-- Division rounded up, of natural numbers. -/
def ceilDiv (n d : Nat) : Nat := (n + (d - 1)) / d

/-- `n` rounded up to a multiple of `m`. -/
def roundUp (n m : Nat) : Nat := ceilDiv n m * m

/-- The number of ones among the low `w` bits of `x`. -/
def popCount (w x : Nat) : Nat := ((List.range w).filter (fun i => bit x i)).length

/-! ### Bytes -/

/-- The `k` bytes of `x`, byte 0 (the least significant) first. -/
def toBytes (k x : Nat) : List Byte := (List.range k).map (fun i => BitVec.ofNat 8 (x / 256 ^ i))

/-- The number whose bytes are given, byte 0 first. -/
def ofBytes : List Byte → Nat
  | [] => 0
  | b :: t => b.toNat + 256 * ofBytes t

/-- `k` bytes of a list from position `i` on, as a number; bytes beyond the end read as zero. -/
def bytesAt (l : List Byte) (i k : Nat) : Nat := ofBytes ((l.drop i).take k)

/-- The 8 bytes of a block's payload, in the order they are sent (R97). -/
def blockBytes (b : Block) : List Byte := toBytes 8 b.toNat

/-- Byte `i` of a block's payload. -/
def blockByte (b : Block) (i : Nat) : Nat := getBits b.toNat (8 * i) 8

/-- The block whose payload bytes are given. -/
def blockOf (l : List Byte) : Block := BitVec.ofNat 64 (ofBytes (l.take 8))

/-! ### CRCs -/

/-- One bit of a reflected CRC. -/
def crcBit (poly c : Nat) : Nat := if c % 2 = 1 then Nat.xor (c / 2) poly else c / 2

/-- One byte of a reflected CRC. -/
def crcByte (poly c : Nat) (b : Byte) : Nat := (List.range 8).foldl (fun c _ => crcBit poly c) (Nat.xor c b.toNat)

/-- A reflected CRC over a list of bytes, from an initial value. -/
def crcBytes (poly init : Nat) (l : List Byte) : Nat := l.foldl (crcByte poly) init

/-- CRC-32C (Castagnoli), as used for headers, payloads and tags. -/
def crc32c (l : List Byte) : Nat := Nat.xor (crcBytes 0x82F63B78 0xFFFFFFFF l) 0xFFFFFFFF

/-- The CHECK of a control block: the CRC-8 of R131 over bytes 0 to 6. -/
def crc8 (l : List Byte) : Nat := crcBytes 0xE0 0 l

/-- Seven bytes (padded with zeros) and their CRC-8 in byte 7, as a block (R131, R429). -/
def checkedBlock (l : List Byte) : Block :=
  let b := (l ++ List.replicate 7 0).take 7
  blockOf (b ++ [BitVec.ofNat 8 (crc8 b)])

/-- A control block: TYPE in byte 0, content in bytes 1 to 6, CHECK in byte 7 (R131). -/
def ctlBlock (type : Nat) (content : List Byte) : Block := checkedBlock (BitVec.ofNat 8 type :: content)

/-- Whether byte 7 of a block is the CRC-8 of its other bytes (R132, R429). -/
def checkOk (b : Block) : Bool := crc8 ((blockBytes b).take 7) == blockByte b 7

end Sys2Proof.Machine
end

