-- ==== Sys2Proof/Machine/Sparse.lean ====
section
/-!
DEFINITION. Sparse tables: a list of (key, value) pairs over a default function. Registers, memories and the hidden
state of replicated units are all kept in this one form. The canonical form (`cwf`) has strictly rising keys and no
entry that equals the default at its key, so that equal tables are equal lists.
-/

namespace Sys2Proof.Machine

/-- The value at key `a`: the first entry's, or the default's. -/
def cget {α : Type} (d : Nat → α) : List (Nat × α) → Nat → α
  | [], a => d a
  | (k, v) :: t, a => if a = k then v else cget d t a

/-- Put `v` at key `a`, in order of the keys, replacing an entry of that key. -/
def cput {α : Type} : List (Nat × α) → Nat → α → List (Nat × α)
  | [], a, v => [(a, v)]
  | (k, w) :: t, a, v =>
    if a = k then (a, v) :: t else if a < k then (a, v) :: (k, w) :: t else (k, w) :: cput t a v

/-- Remove the entries of key `a`. -/
def cdel {α : Type} (t : List (Nat × α)) (a : Nat) : List (Nat × α) := t.filter (fun p => !decide (p.1 = a))

/-- Store `v` at key `a` in canonical form: a value equal to the default removes the entry. -/
def cset {α : Type} [DecidableEq α] (d : Nat → α) (t : List (Nat × α)) (a : Nat) (v : α) : List (Nat × α) :=
  if v = d a then cdel t a else cput t a v

/-- Keep only the entries whose key satisfies `p`. -/
def ckeep {α : Type} (p : Nat → Bool) (t : List (Nat × α)) : List (Nat × α) := t.filter (fun e => p e.1)

/-- The canonical form: keys strictly rising, no entry equal to the default at its key. -/
abbrev cwf {α : Type} [DecidableEq α] (d : Nat → α) (t : List (Nat × α)) : Prop :=
  t.Pairwise (fun p q => p.1 < q.1) ∧ ∀ p ∈ t, p.2 ≠ d p.1

/-- `n` successive values from key `a` on. -/
def cgetN {α : Type} (d : Nat → α) (t : List (Nat × α)) (a : Nat) : Nat → List α
  | 0 => []
  | n + 1 => cget d t a :: cgetN d t (a + 1) n

/-- Store a list of values at successive keys from `a` on. -/
def csetN {α : Type} [DecidableEq α] (d : Nat → α) : List (Nat × α) → Nat → List α → List (Nat × α)
  | t, _, [] => t
  | t, a, v :: vs => csetN d (cset d t a v) (a + 1) vs

end Sys2Proof.Machine
end

