-- ==== Sys2Proof/Config.lean ====
section
/-!
DEFINITION. What one device or its surroundings fix and the spec does not: values fused at manufacture, the two
cryptographic functions the spec takes from other standards, and the free values (constants without a body, so that no
proof can rest on what they are).
-/

namespace Sys2Proof.Config

/-- The grade fused at manufacture (R503): false GW-PD9624-C, true GW-PD9624-I. -/
opaque grade : Bool
/-- The silicon revision fused at manufacture (R503). -/
opaque rev : Byte
/-- The serial number fused at manufacture (R408, R503). -/
opaque serial : Block
/-- The vendor ID of the manufacturer, which R400 names and does not give. -/
opaque vendorId : Nat
/-- SHAKE256 with 256 bits of output (FIPS 202), which R78 and R471 take as given. -/
opaque shake256 : List Byte → BitVec 256
/-- SHAKE256 with 512 bits of output over a signed object (R472). -/
opaque shake512 : List Byte → BitVec 512
/-- Falcon-1024 verification (R471, R472): key, message, signature. -/
opaque falconVerify : List Byte → List Byte → List Byte → Bool
/-- Falcon-1024 signing with the identity key (R474, R476): the signature of a message. -/
opaque falconSign : List Byte → List Byte
/-- The device's identity public key, derived from its unique secret (R474). -/
opaque identityKey : List Byte
/-- A value that the spec leaves undefined or does not state: one for every number of the state's counter of free
values. -/
opaque freeValue : Nat → Nat

end Sys2Proof.Config
end

