-- ==== Sys2Proof/Machine/Reg.lean ====
section
/-!
DEFINITION. The names of the registers: the BAR0 offset of every register of the register index (R501) and, for each
field of its field table, the place of the field. Every name is the manual's own; a replicated register takes the
numbers of its unit (and of its array) as arguments. The registers of the Ethernet personality share lane offsets
0x100 to 0x3FF with the Tenon personality but are separate storage (R507): they are kept at the offsets of the lane
plus `ethShift`.
-/

namespace Sys2Proof.Machine

/-- A field of a register: the offset of its word, its lowest bit and its width in bits. -/
structure Fld where
  off : Nat
  lo : Nat
  w : Nat
  deriving DecidableEq, Repr

/-- The storage of the Ethernet personality's registers lies this far above the lane's own (R507). -/
def ethShift : Nat := 0x1000000

namespace Reg


/-! ### GLOBAL -/

/-- GLOBAL_ID (R503). -/
def GLOBAL_ID : Nat := 0x0
def GLOBAL_ID_GRADE : Fld := ⟨GLOBAL_ID, 24, 1⟩
def GLOBAL_ID_REV : Fld := ⟨GLOBAL_ID, 16, 8⟩
def GLOBAL_ID_PART : Fld := ⟨GLOBAL_ID, 0, 16⟩
/-- GLOBAL_SERIAL (R408). -/
def GLOBAL_SERIAL : Nat := 0x8
/-- GLOBAL_FW_VERSION (R473). -/
def GLOBAL_FW_VERSION : Nat := 0x10
/-- GLOBAL_BAD_ACCESS (R504). -/
def GLOBAL_BAD_ACCESS : Nat := 0x20
/-- GLOBAL_WRITE_COLLIDE (R504). -/
def GLOBAL_WRITE_COLLIDE : Nat := 0x24
/-- GLOBAL_BAD_LAST_STATUS (R504). -/
def GLOBAL_BAD_LAST_STATUS : Nat := 0x28
/-- GLOBAL_BAD_LAST_OFFSET (R504). -/
def GLOBAL_BAD_LAST_OFFSET : Nat := 0x2c
/-- GLOBAL_BAD_LAST_INFO (R504). -/
def GLOBAL_BAD_LAST_INFO : Nat := 0x30
def GLOBAL_BAD_LAST_INFO_MASTER : Fld := ⟨GLOBAL_BAD_LAST_INFO, 0, 2⟩
def GLOBAL_BAD_LAST_INFO_CAUSE : Fld := ⟨GLOBAL_BAD_LAST_INFO, 4, 4⟩
def GLOBAL_BAD_LAST_INFO_WRITE : Fld := ⟨GLOBAL_BAD_LAST_INFO, 8, 1⟩
/-- GLOBAL_STRAPS (R40). -/
def GLOBAL_STRAPS : Nat := 0x40
def GLOBAL_STRAPS_OVERRIDDEN : Fld := ⟨GLOBAL_STRAPS, 6, 1⟩
def GLOBAL_STRAPS_FLASH_IF_EFF : Fld := ⟨GLOBAL_STRAPS, 5, 1⟩
def GLOBAL_STRAPS_BOOT_MODE_EFF : Fld := ⟨GLOBAL_STRAPS, 3, 2⟩
def GLOBAL_STRAPS_FLASH_IF_PIN : Fld := ⟨GLOBAL_STRAPS, 2, 1⟩
def GLOBAL_STRAPS_BOOT_MODE_PIN : Fld := ⟨GLOBAL_STRAPS, 0, 2⟩
/-- GLOBAL_EVENTS (R505). -/
def GLOBAL_EVENTS : Nat := 0x80
def GLOBAL_EVENTS_READMIT : Fld := ⟨GLOBAL_EVENTS, 7, 1⟩
def GLOBAL_EVENTS_BAD_ACCESS : Fld := ⟨GLOBAL_EVENTS, 6, 1⟩
def GLOBAL_EVENTS_WDOG_LONG : Fld := ⟨GLOBAL_EVENTS, 5, 1⟩
def GLOBAL_EVENTS_WDOG_ABORT : Fld := ⟨GLOBAL_EVENTS, 4, 1⟩
def GLOBAL_EVENTS_TB_HOLDOVER : Fld := ⟨GLOBAL_EVENTS, 3, 1⟩
def GLOBAL_EVENTS_PLL_LOST : Fld := ⟨GLOBAL_EVENTS, 2, 1⟩
def GLOBAL_EVENTS_DROOP_OVER : Fld := ⟨GLOBAL_EVENTS, 1, 1⟩
def GLOBAL_EVENTS_DROOP : Fld := ⟨GLOBAL_EVENTS, 0, 1⟩
/-- GLOBAL_EVENTS_EN (R505). -/
def GLOBAL_EVENTS_EN : Nat := 0x84
def GLOBAL_EVENTS_EN_EN : Fld := ⟨GLOBAL_EVENTS_EN, 0, 8⟩
/-- GLOBAL_IRQ_SUM (R506). -/
def GLOBAL_IRQ_SUM : Nat := 0xc0
/-- GLOBAL_IRQ_UNIT (R506). -/
def GLOBAL_IRQ_UNIT : Nat := 0xc4
/-- GLOBAL_IRQ_MISC (R506). -/
def GLOBAL_IRQ_MISC : Nat := 0xc8
/-- GLOBAL_IRQ_LANE (R506). -/
def GLOBAL_IRQ_LANE (i : Nat) : Nat := 0xcc + 0x4 * i
/-- GLOBAL_IRQ_ENG (R506). -/
def GLOBAL_IRQ_ENG (i : Nat) : Nat := 0xd8 + 0x4 * i
/-- GLOBAL_IRQ_TRIG (R506). -/
def GLOBAL_IRQ_TRIG (i : Nat) : Nat := 0xf0 + 0x4 * i
/-- GLOBAL_COMMIT (R85). -/
def GLOBAL_COMMIT : Nat := 0x100
def GLOBAL_COMMIT_CL_COMMIT : Fld := ⟨GLOBAL_COMMIT, 2, 1⟩
def GLOBAL_COMMIT_LINK_RELEASE : Fld := ⟨GLOBAL_COMMIT, 1, 1⟩
def GLOBAL_COMMIT_OUTPUT_COMMIT : Fld := ⟨GLOBAL_COMMIT, 0, 1⟩
/-- GLOBAL_BOOT_STATUS (R85). -/
def GLOBAL_BOOT_STATUS : Nat := 0x104
def GLOBAL_BOOT_STATUS_LAST_CODE : Fld := ⟨GLOBAL_BOOT_STATUS, 16, 16⟩
def GLOBAL_BOOT_STATUS_CL_SLOT : Fld := ⟨GLOBAL_BOOT_STATUS, 11, 1⟩
def GLOBAL_BOOT_STATUS_FW_SLOT : Fld := ⟨GLOBAL_BOOT_STATUS, 10, 1⟩
def GLOBAL_BOOT_STATUS_HELD : Fld := ⟨GLOBAL_BOOT_STATUS, 9, 1⟩
def GLOBAL_BOOT_STATUS_RECOVERY : Fld := ⟨GLOBAL_BOOT_STATUS, 8, 1⟩
def GLOBAL_BOOT_STATUS_STAGE : Fld := ⟨GLOBAL_BOOT_STATUS, 0, 4⟩
/-- GLOBAL_CUTLIST_ID (R85). -/
def GLOBAL_CUTLIST_ID : Nat := 0x108
/-- GLOBAL_OTP_GEN (R96). -/
def GLOBAL_OTP_GEN : Nat := 0x110
def GLOBAL_OTP_GEN_BOARD_LEFT : Fld := ⟨GLOBAL_OTP_GEN, 10, 4⟩
def GLOBAL_OTP_GEN_REPAIR_LEFT : Fld := ⟨GLOBAL_OTP_GEN, 7, 3⟩
def GLOBAL_OTP_GEN_OWNER_LEFT : Fld := ⟨GLOBAL_OTP_GEN, 3, 4⟩
def GLOBAL_OTP_GEN_TRUST_LEFT : Fld := ⟨GLOBAL_OTP_GEN, 0, 3⟩
/-- GLOBAL_OTP_CTR (R96). -/
def GLOBAL_OTP_CTR : Nat := 0x114
def GLOBAL_OTP_CTR_CL_CTR : Fld := ⟨GLOBAL_OTP_CTR, 16, 11⟩
def GLOBAL_OTP_CTR_FW_CTR : Fld := ⟨GLOBAL_OTP_CTR, 0, 10⟩
/-- GLOBAL_IRQ_STREAM (R506). -/
def GLOBAL_IRQ_STREAM (i : Nat) : Nat := 0x140 + 0x4 * i
/-- GLOBAL_DROOP_CTRL (R62). -/
def GLOBAL_DROOP_CTRL : Nat := 0x200
def GLOBAL_DROOP_CTRL_HOLD : Fld := ⟨GLOBAL_DROOP_CTRL, 16, 4⟩
def GLOBAL_DROOP_CTRL_THRESH : Fld := ⟨GLOBAL_DROOP_CTRL, 8, 6⟩
def GLOBAL_DROOP_CTRL_FORCE : Fld := ⟨GLOBAL_DROOP_CTRL, 1, 1⟩
def GLOBAL_DROOP_CTRL_ENABLE : Fld := ⟨GLOBAL_DROOP_CTRL, 0, 1⟩
/-- GLOBAL_DROOP_STATUS (R65). -/
def GLOBAL_DROOP_STATUS : Nat := 0x204
def GLOBAL_DROOP_STATUS_OVER_SEEN : Fld := ⟨GLOBAL_DROOP_STATUS, 3, 1⟩
def GLOBAL_DROOP_STATUS_FORCED : Fld := ⟨GLOBAL_DROOP_STATUS, 2, 1⟩
def GLOBAL_DROOP_STATUS_DROOP_OVER : Fld := ⟨GLOBAL_DROOP_STATUS, 1, 1⟩
def GLOBAL_DROOP_STATUS_HALVED : Fld := ⟨GLOBAL_DROOP_STATUS, 0, 1⟩
/-- GLOBAL_DROOP_WINDOW (R65). -/
def GLOBAL_DROOP_WINDOW : Nat := 0x208
def GLOBAL_DROOP_WINDOW_WINDOW : Fld := ⟨GLOBAL_DROOP_WINDOW, 0, 14⟩
/-- GLOBAL_DROOP_BUDGET (R65). -/
def GLOBAL_DROOP_BUDGET : Nat := 0x20c
def GLOBAL_DROOP_BUDGET_BUDGET : Fld := ⟨GLOBAL_DROOP_BUDGET, 0, 24⟩
/-- GLOBAL_DROOP_COUNT (R64). -/
def GLOBAL_DROOP_COUNT : Nat := 0x210
/-- GLOBAL_DROOP_TIME (R64). -/
def GLOBAL_DROOP_TIME : Nat := 0x218
/-- GLOBAL_DROOP_OVER_COUNT (R65). -/
def GLOBAL_DROOP_OVER_COUNT : Nat := 0x220
/-- GLOBAL_PLL_STATUS (R55). -/
def GLOBAL_PLL_STATUS : Nat := 0x240
def GLOBAL_PLL_STATUS_TB_RELOCK : Fld := ⟨GLOBAL_PLL_STATUS, 26, 1⟩
def GLOBAL_PLL_STATUS_TB_HOLDOVER : Fld := ⟨GLOBAL_PLL_STATUS, 25, 1⟩
def GLOBAL_PLL_STATUS_LOST : Fld := ⟨GLOBAL_PLL_STATUS, 16, 9⟩
def GLOBAL_PLL_STATUS_LOCKED : Fld := ⟨GLOBAL_PLL_STATUS, 0, 9⟩
/-- GLOBAL_RESET_CAUSE (R70). -/
def GLOBAL_RESET_CAUSE : Nat := 0x250
def GLOBAL_RESET_CAUSE_SYS_COUNT : Fld := ⟨GLOBAL_RESET_CAUSE, 16, 16⟩
def GLOBAL_RESET_CAUSE_MC_REQ : Fld := ⟨GLOBAL_RESET_CAUSE, 5, 1⟩
def GLOBAL_RESET_CAUSE_MC_WDOG : Fld := ⟨GLOBAL_RESET_CAUSE, 4, 1⟩
def GLOBAL_RESET_CAUSE_PLL : Fld := ⟨GLOBAL_RESET_CAUSE, 3, 1⟩
def GLOBAL_RESET_CAUSE_SYS_REQ : Fld := ⟨GLOBAL_RESET_CAUSE, 2, 1⟩
def GLOBAL_RESET_CAUSE_SYS_PIN : Fld := ⟨GLOBAL_RESET_CAUSE, 1, 1⟩
def GLOBAL_RESET_CAUSE_POWER_ON : Fld := ⟨GLOBAL_RESET_CAUSE, 0, 1⟩
/-- GLOBAL_RESET_CTRL (R69). -/
def GLOBAL_RESET_CTRL : Nat := 0x254
def GLOBAL_RESET_CTRL_MC : Fld := ⟨GLOBAL_RESET_CTRL, 1, 1⟩
def GLOBAL_RESET_CTRL_SYS : Fld := ⟨GLOBAL_RESET_CTRL, 0, 1⟩
/-- GLOBAL_WDOG_CFG (R366). -/
def GLOBAL_WDOG_CFG : Nat := 0x300
def GLOBAL_WDOG_CFG_WDOG_US : Fld := ⟨GLOBAL_WDOG_CFG, 0, 10⟩
/-- GLOBAL_WDOG_STATUS (R366). -/
def GLOBAL_WDOG_STATUS : Nat := 0x310
/-- GLOBAL_WDOG_UNIT (R366). -/
def GLOBAL_WDOG_UNIT : Nat := 0x314
def GLOBAL_WDOG_UNIT_KIND : Fld := ⟨GLOBAL_WDOG_UNIT, 12, 4⟩
def GLOBAL_WDOG_UNIT_INDEX : Fld := ⟨GLOBAL_WDOG_UNIT, 0, 12⟩
/-- GLOBAL_WDOG_RESOURCE (R366). -/
def GLOBAL_WDOG_RESOURCE : Nat := 0x318
/-- GLOBAL_WDOG_TIME (R366). -/
def GLOBAL_WDOG_TIME : Nat := 0x320
/-- GLOBAL_CNT_WDOG_ABORT (R366). -/
def GLOBAL_CNT_WDOG_ABORT : Nat := 0x330
/-- GLOBAL_CNT_WDOG_LONG (R366). -/
def GLOBAL_CNT_WDOG_LONG : Nat := 0x334
/-- MC_LOG_CFG (R465). -/
def MC_LOG_CFG : Nat := 0x400
def MC_LOG_CFG_FWD_EN : Fld := ⟨MC_LOG_CFG, 31, 1⟩
def MC_LOG_CFG_LOG_SINK : Fld := ⟨MC_LOG_CFG, 16, 10⟩
def MC_LOG_CFG_FWD_SEV : Fld := ⟨MC_LOG_CFG, 12, 3⟩
def MC_LOG_CFG_UART_SEV : Fld := ⟨MC_LOG_CFG, 8, 3⟩
def MC_LOG_CFG_PERSIST_SEV : Fld := ⟨MC_LOG_CFG, 4, 3⟩
def MC_LOG_CFG_IRQ_SEV : Fld := ⟨MC_LOG_CFG, 0, 3⟩
/-- MC_LOG_HEAD (R466). -/
def MC_LOG_HEAD : Nat := 0x404
/-- MC_LOG_FLASHED (R467). -/
def MC_LOG_FLASHED : Nat := 0x408
/-- MC_WDOG_CFG (R460). -/
def MC_WDOG_CFG : Nat := 0x40c
def MC_WDOG_CFG_TIMEOUT : Fld := ⟨MC_WDOG_CFG, 0, 16⟩
/-- MC_UPDATE_STATUS (R478). -/
def MC_UPDATE_STATUS : Nat := 0x410
def MC_UPDATE_STATUS_PORT : Fld := ⟨MC_UPDATE_STATUS, 9, 1⟩
def MC_UPDATE_STATUS_SLOT : Fld := ⟨MC_UPDATE_STATUS, 8, 1⟩
def MC_UPDATE_STATUS_TARGET : Fld := ⟨MC_UPDATE_STATUS, 6, 2⟩
def MC_UPDATE_STATUS_STATE : Fld := ⟨MC_UPDATE_STATUS, 0, 3⟩
/-- MC_UPDATE_BYTES (R478). -/
def MC_UPDATE_BYTES : Nat := 0x414
/-- MC_THERM_CFG (R462). -/
def MC_THERM_CFG : Nat := 0x418
def MC_THERM_CFG_WARN : Fld := ⟨MC_THERM_CFG, 0, 8⟩
/-- MC_EVENTS (R462). -/
def MC_EVENTS : Nat := 0x41c
def MC_EVENTS_CERT_FAIL : Fld := ⟨MC_EVENTS, 8, 1⟩
def MC_EVENTS_UPDATE_FAIL : Fld := ⟨MC_EVENTS, 7, 1⟩
def MC_EVENTS_UPDATE_DONE : Fld := ⟨MC_EVENTS, 6, 1⟩
def MC_EVENTS_WDOG : Fld := ⟨MC_EVENTS, 5, 1⟩
def MC_EVENTS_PMB_ALERT : Fld := ⟨MC_EVENTS, 4, 1⟩
def MC_EVENTS_VOLT_OUT : Fld := ⟨MC_EVENTS, 3, 1⟩
def MC_EVENTS_TRIPPED : Fld := ⟨MC_EVENTS, 2, 1⟩
def MC_EVENTS_THERM_HIGH : Fld := ⟨MC_EVENTS, 1, 1⟩
def MC_EVENTS_THERM_WARN : Fld := ⟨MC_EVENTS, 0, 1⟩
/-- MC_EVENTS_EN (R462). -/
def MC_EVENTS_EN : Nat := 0x420
def MC_EVENTS_EN_EN : Fld := ⟨MC_EVENTS_EN, 0, 9⟩
/-- MC_SENS_STATUS (R461). -/
def MC_SENS_STATUS : Nat := 0x440
/-- MC_SENS_DATA (R461). -/
def MC_SENS_DATA (i : Nat) : Nat := 0x448 + 0x4 * i
/-- MC_CNT_WDOG (R488). -/
def MC_CNT_WDOG : Nat := 0x480
/-- MC_CNT_LOG_DROP (R466). -/
def MC_CNT_LOG_DROP : Nat := 0x484
/-- MC_CNT_LOG_LOST (R467). -/
def MC_CNT_LOG_LOST : Nat := 0x488
/-- MC_CNT_PMB_ERR (R464). -/
def MC_CNT_PMB_ERR : Nat := 0x48c
/-- GLOBAL_RETIRED_LANE (R494). -/
def GLOBAL_RETIRED_LANE (i : Nat) : Nat := 0x600 + 0x4 * i
/-- GLOBAL_RETIRED_BAY (R494). -/
def GLOBAL_RETIRED_BAY : Nat := 0x60c
def GLOBAL_RETIRED_BAY_BAY : Fld := ⟨GLOBAL_RETIRED_BAY, 0, 24⟩
/-- GLOBAL_RETIRED_ENG (R494). -/
def GLOBAL_RETIRED_ENG (i : Nat) : Nat := 0x610 + 0x4 * i
/-- GLOBAL_RETIRED_MISC (R494). -/
def GLOBAL_RETIRED_MISC : Nat := 0x628
def GLOBAL_RETIRED_MISC_SILL : Fld := ⟨GLOBAL_RETIRED_MISC, 24, 4⟩
def GLOBAL_RETIRED_MISC_POS : Fld := ⟨GLOBAL_RETIRED_MISC, 8, 16⟩
def GLOBAL_RETIRED_MISC_DDR : Fld := ⟨GLOBAL_RETIRED_MISC, 0, 8⟩
/-- GLOBAL_CAP_A (R494). -/
def GLOBAL_CAP_A : Nat := 0x630
def GLOBAL_CAP_A_ENGINES : Fld := ⟨GLOBAL_CAP_A, 16, 8⟩
def GLOBAL_CAP_A_BAYS : Fld := ⟨GLOBAL_CAP_A, 8, 5⟩
def GLOBAL_CAP_A_LANES : Fld := ⟨GLOBAL_CAP_A, 0, 7⟩
/-- GLOBAL_CAP_B (R494). -/
def GLOBAL_CAP_B : Nat := 0x634
def GLOBAL_CAP_B_SILL : Fld := ⟨GLOBAL_CAP_B, 24, 3⟩
def GLOBAL_CAP_B_POS : Fld := ⟨GLOBAL_CAP_B, 16, 5⟩
def GLOBAL_CAP_B_DDR : Fld := ⟨GLOBAL_CAP_B, 8, 4⟩
def GLOBAL_CAP_B_SCARF : Fld := ⟨GLOBAL_CAP_B, 0, 5⟩
/-- GLOBAL_CAP_DDR (R494). -/
def GLOBAL_CAP_DDR : Nat := 0x638
def GLOBAL_CAP_DDR_GIB : Fld := ⟨GLOBAL_CAP_DDR, 0, 10⟩
/-- GLOBAL_READMIT (R498). -/
def GLOBAL_READMIT : Nat := 0x63c
def GLOBAL_READMIT_PENDING : Fld := ⟨GLOBAL_READMIT, 31, 1⟩
def GLOBAL_READMIT_OVERCOMMIT : Fld := ⟨GLOBAL_READMIT, 30, 1⟩
def GLOBAL_READMIT_OVER : Fld := ⟨GLOBAL_READMIT, 0, 9⟩
/-- GLOBAL_CNT_ABORTED (R491). -/
def GLOBAL_CNT_ABORTED : Nat := 0x640
/-- GLOBAL_CNT_RETIRE (R495). -/
def GLOBAL_CNT_RETIRE : Nat := 0x644
/-- GLOBAL_RETIRE_CMD (R495). -/
def GLOBAL_RETIRE_CMD : Nat := 0x648
def GLOBAL_RETIRE_CMD_GO : Fld := ⟨GLOBAL_RETIRE_CMD, 31, 1⟩
def GLOBAL_RETIRE_CMD_KIND : Fld := ⟨GLOBAL_RETIRE_CMD, 28, 3⟩
def GLOBAL_RETIRE_CMD_INDEX : Fld := ⟨GLOBAL_RETIRE_CMD, 0, 8⟩

/-! ### MC_PMB -/

/-- MC_PMB_STATUS (R464). -/
def MC_PMB_STATUS (i : Nat) : Nat := 0x500 + 0x10 * i
/-- MC_PMB_VI (R464). -/
def MC_PMB_VI (i : Nat) : Nat := 0x504 + 0x10 * i
def MC_PMB_VI_IOUT (i : Nat) : Fld := ⟨MC_PMB_VI i, 16, 16⟩
def MC_PMB_VI_VOUT (i : Nat) : Fld := ⟨MC_PMB_VI i, 0, 16⟩
/-- MC_PMB_TS (R464). -/
def MC_PMB_TS (i : Nat) : Nat := 0x508 + 0x10 * i
def MC_PMB_TS_STATUS_WORD (i : Nat) : Fld := ⟨MC_PMB_TS i, 16, 16⟩
def MC_PMB_TS_TEMP (i : Nat) : Fld := ⟨MC_PMB_TS i, 0, 16⟩

/-! ### MBOX -/

/-- MBOX_REQ (R416). -/
def MBOX_REQ (i j : Nat) : Nat := 0x10000 + 0x4000 * i + 0x4 * j
/-- MBOX_RSP (R416). -/
def MBOX_RSP (i j : Nat) : Nat := 0x11000 + 0x4000 * i + 0x4 * j
/-- MBOX_CMD (R416). -/
def MBOX_CMD (i : Nat) : Nat := 0x12000 + 0x4000 * i
def MBOX_CMD_GO (i : Nat) : Fld := ⟨MBOX_CMD i, 0, 1⟩
/-- MBOX_STATUS (R416). -/
def MBOX_STATUS (i : Nat) : Nat := 0x12004 + 0x4000 * i
def MBOX_STATUS_RESULT (i : Nat) : Fld := ⟨MBOX_STATUS i, 16, 16⟩
def MBOX_STATUS_STATE (i : Nat) : Fld := ⟨MBOX_STATUS i, 0, 2⟩

/-! ### TB -/

/-- TB_CTRL (R242). -/
def TB_CTRL : Nat := 0x20000
def TB_CTRL_PPS_EDGE : Fld := ⟨TB_CTRL, 2, 2⟩
def TB_CTRL_PPS_OUT_EN : Fld := ⟨TB_CTRL, 1, 1⟩
def TB_CTRL_REF_SEL : Fld := ⟨TB_CTRL, 0, 1⟩
/-- TB_STATUS (R243). -/
def TB_STATUS : Nat := 0x20004
def TB_STATUS_STEP_SEQ : Fld := ⟨TB_STATUS, 24, 8⟩
def TB_STATUS_CLASS : Fld := ⟨TB_STATUS, 16, 2⟩
def TB_STATUS_COARSE : Fld := ⟨TB_STATUS, 3, 1⟩
def TB_STATUS_PPS_MISS : Fld := ⟨TB_STATUS, 2, 1⟩
def TB_STATUS_SLEWING : Fld := ⟨TB_STATUS, 1, 1⟩
def TB_STATUS_HOLDOVER : Fld := ⟨TB_STATUS, 0, 1⟩
/-- TB_QUALITY (R243). -/
def TB_QUALITY : Nat := 0x20008
def TB_QUALITY_CLASS : Fld := ⟨TB_QUALITY, 0, 2⟩
/-- TB_UTC_OFFSET (R243). -/
def TB_UTC_OFFSET : Nat := 0x2000c
def TB_UTC_OFFSET_UTC : Fld := ⟨TB_UTC_OFFSET, 0, 16⟩
/-- TB_INCR (R242). -/
def TB_INCR : Nat := 0x20010
/-- TB_SLEW (R246). -/
def TB_SLEW : Nat := 0x20018
/-- TB_SLEW_STEP (R246). -/
def TB_SLEW_STEP : Nat := 0x2001c
def TB_SLEW_STEP_STEP : Fld := ⟨TB_SLEW_STEP, 0, 24⟩
/-- TB_NOW (R248). -/
def TB_NOW : Nat := 0x20020
/-- TB_SET_TIME (R244). -/
def TB_SET_TIME : Nat := 0x20030
/-- TB_STEP (R244). -/
def TB_STEP : Nat := 0x20040
/-- TB_CMD (R244). -/
def TB_CMD : Nat := 0x20048
def TB_CMD_SLEW_ABORT : Fld := ⟨TB_CMD, 3, 1⟩
def TB_CMD_SNAP : Fld := ⟨TB_CMD, 2, 1⟩
def TB_CMD_STEP : Fld := ⟨TB_CMD, 1, 1⟩
def TB_CMD_SET : Fld := ⟨TB_CMD, 0, 1⟩
/-- TB_STEP_MAX (R244). -/
def TB_STEP_MAX : Nat := 0x2004c
/-- TB_EVENTS (R244). -/
def TB_EVENTS : Nat := 0x20050
def TB_EVENTS_ALARM : Fld := ⟨TB_EVENTS, 8, 8⟩
def TB_EVENTS_ALARM_LATE : Fld := ⟨TB_EVENTS, 4, 1⟩
def TB_EVENTS_PPS_MISS : Fld := ⟨TB_EVENTS, 3, 1⟩
def TB_EVENTS_CLAMPED : Fld := ⟨TB_EVENTS, 2, 1⟩
def TB_EVENTS_REFUSED : Fld := ⟨TB_EVENTS, 1, 1⟩
def TB_EVENTS_STEPPED : Fld := ⟨TB_EVENTS, 0, 1⟩
/-- TB_EVENTS_EN (R244). -/
def TB_EVENTS_EN : Nat := 0x20054
def TB_EVENTS_EN_ALARM : Fld := ⟨TB_EVENTS_EN, 8, 8⟩
def TB_EVENTS_EN_ALARM_LATE : Fld := ⟨TB_EVENTS_EN, 4, 1⟩
def TB_EVENTS_EN_PPS_MISS : Fld := ⟨TB_EVENTS_EN, 3, 1⟩
def TB_EVENTS_EN_CLAMPED : Fld := ⟨TB_EVENTS_EN, 2, 1⟩
def TB_EVENTS_EN_REFUSED : Fld := ⟨TB_EVENTS_EN, 1, 1⟩
def TB_EVENTS_EN_STEPPED : Fld := ⟨TB_EVENTS_EN, 0, 1⟩
/-- TB_SLEW_LEFT (R246). -/
def TB_SLEW_LEFT : Nat := 0x20058
/-- TB_SNAP_STATUS (R248). -/
def TB_SNAP_STATUS : Nat := 0x20060
/-- TB_SNAP_CAPCOUNT (R248). -/
def TB_SNAP_CAPCOUNT : Nat := 0x20064
/-- TB_SNAP_TIME (R248). -/
def TB_SNAP_TIME : Nat := 0x20070
/-- TB_PPS_IN_STATUS (R251). -/
def TB_PPS_IN_STATUS : Nat := 0x20080
/-- TB_PPS_IN_CAPCOUNT (R251). -/
def TB_PPS_IN_CAPCOUNT : Nat := 0x20084
/-- TB_PPS_IN_FLAGS (R251). -/
def TB_PPS_IN_FLAGS : Nat := 0x20088
/-- TB_PPS_IN_TIME (R251). -/
def TB_PPS_IN_TIME : Nat := 0x20090
/-- TB_PPS_OUT (R252). -/
def TB_PPS_OUT : Nat := 0x200a0
def TB_PPS_OUT_WIDTH_US : Fld := ⟨TB_PPS_OUT, 0, 20⟩
/-- TB_PPS_OFFSET (R252). -/
def TB_PPS_OFFSET : Nat := 0x200a4
/-- TB_CNT_STEP (R244). -/
def TB_CNT_STEP : Nat := 0x200c0
/-- TB_CNT_REFUSED (R244). -/
def TB_CNT_REFUSED : Nat := 0x200c4
/-- TB_CNT_CLAMP (R242). -/
def TB_CNT_CLAMP : Nat := 0x200c8
/-- TB_CNT_GPIO_MERGED (R255). -/
def TB_CNT_GPIO_MERGED : Nat := 0x200cc
/-- TB_CNT_PPS_MISS (R251). -/
def TB_CNT_PPS_MISS : Nat := 0x200d0

/-! ### TB_ALARM -/

/-- TB_ALARM_CFG (R253). -/
def TB_ALARM_CFG (i : Nat) : Nat := 0x20100 + 0x20 * i
def TB_ALARM_CFG_PERIODIC (i : Nat) : Fld := ⟨TB_ALARM_CFG i, 1, 1⟩
def TB_ALARM_CFG_EN (i : Nat) : Fld := ⟨TB_ALARM_CFG i, 0, 1⟩
/-- TB_ALARM_PERIOD (R253). -/
def TB_ALARM_PERIOD (i : Nat) : Nat := 0x20108 + 0x20 * i
/-- TB_ALARM_TIME (R253). -/
def TB_ALARM_TIME (i : Nat) : Nat := 0x20110 + 0x20 * i

/-! ### TB_CYC -/

/-- TB_CYC_CFG (R254). -/
def TB_CYC_CFG (i : Nat) : Nat := 0x20200 + 0x20 * i
def TB_CYC_CFG_OUT_PIN (i : Nat) : Fld := ⟨TB_CYC_CFG i, 8, 6⟩
def TB_CYC_CFG_OUT_EN (i : Nat) : Fld := ⟨TB_CYC_CFG i, 1, 1⟩
def TB_CYC_CFG_EN (i : Nat) : Fld := ⟨TB_CYC_CFG i, 0, 1⟩
/-- TB_CYC_PERIOD (R254). -/
def TB_CYC_PERIOD (i : Nat) : Nat := 0x20204 + 0x20 * i
/-- TB_CYC_WIDTH (R254). -/
def TB_CYC_WIDTH (i : Nat) : Nat := 0x20208 + 0x20 * i
/-- TB_CYC_START (R254). -/
def TB_CYC_START (i : Nat) : Nat := 0x20210 + 0x20 * i

/-! ### TB_LANE_ASYM -/

/-- TB_LANE_IN_ASYM (R250). -/
def TB_LANE_IN_ASYM (i : Nat) : Nat := 0x21000 + 0x8 * i
/-- TB_LANE_EG_ASYM (R250). -/
def TB_LANE_EG_ASYM (i : Nat) : Nat := 0x21004 + 0x8 * i

/-! ### TB_SILL_ASYM -/

/-- TB_SILL_IN_ASYM (R250). -/
def TB_SILL_IN_ASYM (i : Nat) : Nat := 0x21400 + 0x8 * i
/-- TB_SILL_EG_ASYM (R250). -/
def TB_SILL_EG_ASYM (i : Nat) : Nat := 0x21404 + 0x8 * i

/-! ### TB_GPIO_EDGE -/

/-- TB_GPIO_EDGE_STATUS (R255). -/
def TB_GPIO_EDGE_STATUS (i : Nat) : Nat := 0x22000 + 0x20 * i
/-- TB_GPIO_EDGE_CAPCOUNT (R255). -/
def TB_GPIO_EDGE_CAPCOUNT (i : Nat) : Nat := 0x22004 + 0x20 * i
/-- TB_GPIO_EDGE_FLAGS (R255). -/
def TB_GPIO_EDGE_FLAGS (i : Nat) : Nat := 0x22008 + 0x20 * i
/-- TB_GPIO_EDGE_TIME (R255). -/
def TB_GPIO_EDGE_TIME (i : Nat) : Nat := 0x22010 + 0x20 * i

/-! ### TB_GPIO_TS -/

/-- TB_GPIO_TS_EDGE (R255). -/
def TB_GPIO_TS_EDGE (i : Nat) : Nat := 0x22800 + 0x4 * i

/-! ### EVT -/

/-- EVT_EN (R261). -/
def EVT_EN (i : Nat) : Nat := 0x30000 + 0x4 * i
/-- EVT_FAB_EN (R261). -/
def EVT_FAB_EN (i : Nat) : Nat := 0x30400 + 0x4 * i
/-- EVT_GPIO_SEL (R257). -/
def EVT_GPIO_SEL (i : Nat) : Nat := 0x30500 + 0x4 * i
def EVT_GPIO_SEL_EN (i : Nat) : Fld := ⟨EVT_GPIO_SEL i, 15, 1⟩
def EVT_GPIO_SEL_EDGE (i : Nat) : Fld := ⟨EVT_GPIO_SEL i, 8, 2⟩
def EVT_GPIO_SEL_PIN (i : Nat) : Fld := ⟨EVT_GPIO_SEL i, 0, 6⟩
/-- EVT_LANE_SEL (R257). -/
def EVT_LANE_SEL (i : Nat) : Nat := 0x30520 + 0x4 * i
def EVT_LANE_SEL_EN (i : Nat) : Fld := ⟨EVT_LANE_SEL i, 31, 1⟩
def EVT_LANE_SEL_MASK (i : Nat) : Fld := ⟨EVT_LANE_SEL i, 16, 8⟩
def EVT_LANE_SEL_LANE (i : Nat) : Fld := ⟨EVT_LANE_SEL i, 0, 7⟩
/-- EVT_QUEUE_SEL (R257). -/
def EVT_QUEUE_SEL (i : Nat) : Nat := 0x30540 + 0x4 * i
def EVT_QUEUE_SEL_EN (i : Nat) : Fld := ⟨EVT_QUEUE_SEL i, 31, 1⟩
def EVT_QUEUE_SEL_LANE (i : Nat) : Fld := ⟨EVT_QUEUE_SEL i, 0, 7⟩
/-- EVT_OUT_CFG (R265). -/
def EVT_OUT_CFG (i : Nat) : Nat := 0x30560 + 0x4 * i
def EVT_OUT_CFG_WIDTH (i : Nat) : Fld := ⟨EVT_OUT_CFG i, 8, 24⟩
def EVT_OUT_CFG_EN (i : Nat) : Fld := ⟨EVT_OUT_CFG i, 7, 1⟩
def EVT_OUT_CFG_PIN (i : Nat) : Fld := ⟨EVT_OUT_CFG i, 0, 6⟩
/-- EVT_DMA_CFG (R259). -/
def EVT_DMA_CFG (i : Nat) : Nat := 0x30580 + 0x4 * i
def EVT_DMA_CFG_EN (i : Nat) : Fld := ⟨EVT_DMA_CFG i, 15, 1⟩
def EVT_DMA_CFG_BAY (i : Nat) : Fld := ⟨EVT_DMA_CFG i, 8, 5⟩
def EVT_DMA_CFG_CHANNEL (i : Nat) : Fld := ⟨EVT_DMA_CFG i, 0, 3⟩
/-- EVT_FAB_TX (R258). -/
def EVT_FAB_TX (i : Nat) : Nat := 0x30600 + 0x4 * i
def EVT_FAB_TX_EN (i : Nat) : Fld := ⟨EVT_FAB_TX i, 15, 1⟩
def EVT_FAB_TX_PRODUCER (i : Nat) : Fld := ⟨EVT_FAB_TX i, 0, 7⟩
/-- EVT_CMD (R257). -/
def EVT_CMD : Nat := 0x30700
def EVT_CMD_SOFT : Fld := ⟨EVT_CMD, 0, 1⟩
/-- EVT_IRQ (R259). -/
def EVT_IRQ : Nat := 0x30704
def EVT_IRQ_PENDING : Fld := ⟨EVT_IRQ, 0, 1⟩
/-- EVT_IRQ_EN (R259). -/
def EVT_IRQ_EN : Nat := 0x30708
def EVT_IRQ_EN_EN : Fld := ⟨EVT_IRQ_EN, 0, 1⟩
/-- EVT_CONS_STATUS (R264). -/
def EVT_CONS_STATUS (i : Nat) : Nat := 0x30800 + 0x4 * i
def EVT_CONS_STATUS_PEND_SRC (i : Nat) : Fld := ⟨EVT_CONS_STATUS i, 16, 8⟩
def EVT_CONS_STATUS_PEND_HOP (i : Nat) : Fld := ⟨EVT_CONS_STATUS i, 12, 4⟩
def EVT_CONS_STATUS_COINCIDENT (i : Nat) : Fld := ⟨EVT_CONS_STATUS i, 4, 1⟩
def EVT_CONS_STATUS_LOST (i : Nat) : Fld := ⟨EVT_CONS_STATUS i, 3, 1⟩
def EVT_CONS_STATUS_PENDING (i : Nat) : Fld := ⟨EVT_CONS_STATUS i, 1, 1⟩
def EVT_CONS_STATUS_BUSY (i : Nat) : Fld := ⟨EVT_CONS_STATUS i, 0, 1⟩
/-- EVT_CNT_LOST (R264). -/
def EVT_CNT_LOST (i : Nat) : Nat := 0x30900 + 0x4 * i
/-- EVT_CNT_COINC (R265). -/
def EVT_CNT_COINC (i : Nat) : Nat := 0x30a00 + 0x4 * i
/-- EVT_CNT_LOOP (R266). -/
def EVT_CNT_LOOP : Nat := 0x30b00
/-- EVT_LOOP (R266). -/
def EVT_LOOP : Nat := 0x30b04
def EVT_LOOP_LOOP : Fld := ⟨EVT_LOOP, 31, 1⟩
def EVT_LOOP_PRODUCER : Fld := ⟨EVT_LOOP, 0, 8⟩

/-! ### POS -/

/-- POS_CTRL (R189). -/
def POS_CTRL (i : Nat) : Nat := 0x40000 + 0x400 * i
def POS_CTRL_FILTER (i : Nat) : Fld := ⟨POS_CTRL i, 12, 4⟩
def POS_CTRL_DECODE (i : Nat) : Fld := ⟨POS_CTRL i, 10, 2⟩
def POS_CTRL_SWAP_AB (i : Nat) : Fld := ⟨POS_CTRL i, 9, 1⟩
def POS_CTRL_INVERT_DIR (i : Nat) : Fld := ⟨POS_CTRL i, 8, 1⟩
def POS_CTRL_MODE (i : Nat) : Fld := ⟨POS_CTRL i, 1, 3⟩
def POS_CTRL_ENABLE (i : Nat) : Fld := ⟨POS_CTRL i, 0, 1⟩
/-- POS_INDEX_CFG (R200). -/
def POS_INDEX_CFG (i : Nat) : Nat := 0x40004 + 0x400 * i
def POS_INDEX_CFG_SLIP_TOL (i : Nat) : Fld := ⟨POS_INDEX_CFG i, 24, 8⟩
def POS_INDEX_CFG_DIR_HYST (i : Nat) : Fld := ⟨POS_INDEX_CFG i, 16, 8⟩
def POS_INDEX_CFG_GATE_AB (i : Nat) : Fld := ⟨POS_INDEX_CFG i, 8, 2⟩
def POS_INDEX_CFG_GATED (i : Nat) : Fld := ⟨POS_INDEX_CFG i, 7, 1⟩
def POS_INDEX_CFG_INDEX_MODE (i : Nat) : Fld := ⟨POS_INDEX_CFG i, 4, 2⟩
def POS_INDEX_CFG_SLIP_MODE (i : Nat) : Fld := ⟨POS_INDEX_CFG i, 3, 1⟩
/-- POS_INDEX_PERIOD (R202). -/
def POS_INDEX_PERIOD (i : Nat) : Nat := 0x40008 + 0x400 * i
/-- POS_INDEX_VALUE (R201). -/
def POS_INDEX_VALUE (i : Nat) : Nat := 0x40010 + 0x400 * i
/-- POS_SSI_CFG (R195). -/
def POS_SSI_CFG (i : Nat) : Nat := 0x40018 + 0x400 * i
def POS_SSI_CFG_PARITY (i : Nat) : Fld := ⟨POS_SSI_CFG i, 24, 2⟩
def POS_SSI_CFG_ERR_BIT (i : Nat) : Fld := ⟨POS_SSI_CFG i, 23, 1⟩
def POS_SSI_CFG_GRAY (i : Nat) : Fld := ⟨POS_SSI_CFG i, 22, 1⟩
def POS_SSI_CFG_BITS (i : Nat) : Fld := ⟨POS_SSI_CFG i, 16, 6⟩
def POS_SSI_CFG_FRAC_BITS (i : Nat) : Fld := ⟨POS_SSI_CFG i, 11, 5⟩
def POS_SSI_CFG_DIV (i : Nat) : Fld := ⟨POS_SSI_CFG i, 0, 11⟩
/-- POS_SSI_TIMING (R195). -/
def POS_SSI_TIMING (i : Nat) : Nat := 0x4001c + 0x400 * i
def POS_SSI_TIMING_DELAY (i : Nat) : Fld := ⟨POS_SSI_TIMING i, 24, 8⟩
def POS_SSI_TIMING_MONO (i : Nat) : Fld := ⟨POS_SSI_TIMING i, 16, 8⟩
def POS_SSI_TIMING_PERIOD (i : Nat) : Fld := ⟨POS_SSI_TIMING i, 0, 16⟩
/-- POS_SSI_MAXSTEP (R196). -/
def POS_SSI_MAXSTEP (i : Nat) : Nat := 0x40020 + 0x400 * i
/-- POS_OBS_CFG (R204). -/
def POS_OBS_CFG (i : Nat) : Nat := 0x40024 + 0x400 * i
def POS_OBS_CFG_WARM_RUN (i : Nat) : Fld := ⟨POS_OBS_CFG i, 16, 16⟩
def POS_OBS_CFG_UPD_N (i : Nat) : Fld := ⟨POS_OBS_CFG i, 0, 16⟩
/-- POS_OBS_K12 (R204). -/
def POS_OBS_K12 (i : Nat) : Nat := 0x40028 + 0x400 * i
def POS_OBS_K12_K2 (i : Nat) : Fld := ⟨POS_OBS_K12 i, 16, 16⟩
def POS_OBS_K12_K1 (i : Nat) : Fld := ⟨POS_OBS_K12 i, 0, 16⟩
/-- POS_OBS_K3 (R204). -/
def POS_OBS_K3 (i : Nat) : Nat := 0x4002c + 0x400 * i
def POS_OBS_K3_K3 (i : Nat) : Fld := ⟨POS_OBS_K3 i, 0, 16⟩
/-- POS_OBS_TOL (R206). -/
def POS_OBS_TOL (i : Nat) : Nat := 0x40030 + 0x400 * i
def POS_OBS_TOL_COLD_TOL (i : Nat) : Fld := ⟨POS_OBS_TOL i, 16, 16⟩
def POS_OBS_TOL_WARM_TOL (i : Nat) : Fld := ⟨POS_OBS_TOL i, 0, 16⟩
/-- POS_SILL_CFG (R211). -/
def POS_SILL_CFG (i : Nat) : Nat := 0x40034 + 0x400 * i
def POS_SILL_CFG_HOLD (i : Nat) : Fld := ⟨POS_SILL_CFG i, 8, 8⟩
def POS_SILL_CFG_PUBLISH (i : Nat) : Fld := ⟨POS_SILL_CFG i, 7, 1⟩
def POS_SILL_CFG_SLOT (i : Nat) : Fld := ⟨POS_SILL_CFG i, 0, 6⟩
/-- POS_PROBE_CFG (R208). -/
def POS_PROBE_CFG (i : Nat) : Nat := 0x40038 + 0x400 * i
def POS_PROBE_CFG_PROBE_EDGE (i : Nat) : Fld := ⟨POS_PROBE_CFG i, 0, 2⟩
/-- POS_PRESET (R198). -/
def POS_PRESET (i : Nat) : Nat := 0x40040 + 0x400 * i
/-- POS_CMD (R198). -/
def POS_CMD (i : Nat) : Nat := 0x40048 + 0x400 * i
def POS_CMD_OBS_RESET (i : Nat) : Fld := ⟨POS_CMD i, 3, 1⟩
def POS_CMD_SNAP (i : Nat) : Fld := ⟨POS_CMD i, 2, 1⟩
def POS_CMD_ARM (i : Nat) : Fld := ⟨POS_CMD i, 1, 1⟩
def POS_CMD_PRESET (i : Nat) : Fld := ⟨POS_CMD i, 0, 1⟩
/-- POS_STATUS (R198). -/
def POS_STATUS (i : Nat) : Nat := 0x40050 + 0x400 * i
def POS_STATUS_STEP_SEQ (i : Nat) : Fld := ⟨POS_STATUS i, 24, 8⟩
def POS_STATUS_SSI_OK (i : Nat) : Fld := ⟨POS_STATUS i, 6, 1⟩
def POS_STATUS_CARRIED (i : Nat) : Fld := ⟨POS_STATUS i, 5, 1⟩
def POS_STATUS_STALE (i : Nat) : Fld := ⟨POS_STATUS i, 4, 1⟩
def POS_STATUS_WARM (i : Nat) : Fld := ⟨POS_STATUS i, 3, 1⟩
def POS_STATUS_ARMED (i : Nat) : Fld := ⟨POS_STATUS i, 2, 1⟩
def POS_STATUS_REFERENCED (i : Nat) : Fld := ⟨POS_STATUS i, 1, 1⟩
def POS_STATUS_DIR (i : Nat) : Fld := ⟨POS_STATUS i, 0, 1⟩
/-- POS_EVENTS (R200). -/
def POS_EVENTS (i : Nat) : Nat := 0x40054 + 0x400 * i
def POS_EVENTS_STEP (i : Nat) : Fld := ⟨POS_EVENTS i, 10, 1⟩
def POS_EVENTS_REFERENCE (i : Nat) : Fld := ⟨POS_EVENTS i, 9, 1⟩
def POS_EVENTS_STALE (i : Nat) : Fld := ⟨POS_EVENTS i, 8, 1⟩
def POS_EVENTS_SSI_ERR (i : Nat) : Fld := ⟨POS_EVENTS i, 7, 1⟩
def POS_EVENTS_COLD (i : Nat) : Fld := ⟨POS_EVENTS i, 6, 1⟩
def POS_EVENTS_WARM (i : Nat) : Fld := ⟨POS_EVENTS i, 5, 1⟩
def POS_EVENTS_ILLEGAL (i : Nat) : Fld := ⟨POS_EVENTS i, 4, 1⟩
def POS_EVENTS_INDEX_SLIP (i : Nat) : Fld := ⟨POS_EVENTS i, 3, 1⟩
def POS_EVENTS_DIR_CHANGE (i : Nat) : Fld := ⟨POS_EVENTS i, 2, 1⟩
def POS_EVENTS_PROBE (i : Nat) : Fld := ⟨POS_EVENTS i, 1, 1⟩
def POS_EVENTS_INDEX (i : Nat) : Fld := ⟨POS_EVENTS i, 0, 1⟩
/-- POS_EVENTS_EN (R200). -/
def POS_EVENTS_EN (i : Nat) : Nat := 0x40058 + 0x400 * i
def POS_EVENTS_EN_EN (i : Nat) : Fld := ⟨POS_EVENTS_EN i, 0, 11⟩
/-- POS_COUNT (R197). -/
def POS_COUNT (i : Nat) : Nat := 0x40060 + 0x400 * i
/-- POS_OBS_STATUS (R210). -/
def POS_OBS_STATUS (i : Nat) : Nat := 0x40080 + 0x400 * i
/-- POS_OBS_CAPCOUNT (R210). -/
def POS_OBS_CAPCOUNT (i : Nat) : Nat := 0x40084 + 0x400 * i
/-- POS_OBS_X (R210). -/
def POS_OBS_X (i : Nat) : Nat := 0x40088 + 0x400 * i
/-- POS_OBS_V (R210). -/
def POS_OBS_V (i : Nat) : Nat := 0x40090 + 0x400 * i
/-- POS_OBS_A (R210). -/
def POS_OBS_A (i : Nat) : Nat := 0x40098 + 0x400 * i
/-- POS_OBS_TIME (R210). -/
def POS_OBS_TIME (i : Nat) : Nat := 0x400a0 + 0x400 * i
/-- POS_PROBE_STATUS (R208). -/
def POS_PROBE_STATUS (i : Nat) : Nat := 0x400c0 + 0x400 * i
/-- POS_PROBE_CAPCOUNT (R208). -/
def POS_PROBE_CAPCOUNT (i : Nat) : Nat := 0x400c4 + 0x400 * i
/-- POS_PROBE_COUNT (R208). -/
def POS_PROBE_COUNT (i : Nat) : Nat := 0x400c8 + 0x400 * i
/-- POS_PROBE_X (R208). -/
def POS_PROBE_X (i : Nat) : Nat := 0x400d0 + 0x400 * i
/-- POS_PROBE_FLAGS (R208). -/
def POS_PROBE_FLAGS (i : Nat) : Nat := 0x400d8 + 0x400 * i
/-- POS_PROBE_TIME (R208). -/
def POS_PROBE_TIME (i : Nat) : Nat := 0x400e0 + 0x400 * i
/-- POS_SLIP_STATUS (R202). -/
def POS_SLIP_STATUS (i : Nat) : Nat := 0x40100 + 0x400 * i
/-- POS_SLIP_DELTA (R202). -/
def POS_SLIP_DELTA (i : Nat) : Nat := 0x40108 + 0x400 * i
/-- POS_SLIP_EXPECTED (R202). -/
def POS_SLIP_EXPECTED (i : Nat) : Nat := 0x40110 + 0x400 * i
/-- POS_SLIP_TIME (R202). -/
def POS_SLIP_TIME (i : Nat) : Nat := 0x40120 + 0x400 * i
/-- POS_SNAP_STATUS (R210). -/
def POS_SNAP_STATUS (i : Nat) : Nat := 0x40140 + 0x400 * i
/-- POS_SNAP_CAPCOUNT (R210). -/
def POS_SNAP_CAPCOUNT (i : Nat) : Nat := 0x40144 + 0x400 * i
/-- POS_SNAP_COUNT (R210). -/
def POS_SNAP_COUNT (i : Nat) : Nat := 0x40148 + 0x400 * i
/-- POS_SNAP_X (R210). -/
def POS_SNAP_X (i : Nat) : Nat := 0x40150 + 0x400 * i
/-- POS_SNAP_V (R210). -/
def POS_SNAP_V (i : Nat) : Nat := 0x40158 + 0x400 * i
/-- POS_SNAP_A (R210). -/
def POS_SNAP_A (i : Nat) : Nat := 0x40160 + 0x400 * i
/-- POS_SNAP_TIME (R210). -/
def POS_SNAP_TIME (i : Nat) : Nat := 0x40170 + 0x400 * i
/-- POS_EDGE_STATUS (R210). -/
def POS_EDGE_STATUS (i : Nat) : Nat := 0x40180 + 0x400 * i
/-- POS_EDGE_CAPCOUNT (R210). -/
def POS_EDGE_CAPCOUNT (i : Nat) : Nat := 0x40184 + 0x400 * i
/-- POS_EDGE_COUNT (R210). -/
def POS_EDGE_COUNT (i : Nat) : Nat := 0x40188 + 0x400 * i
/-- POS_EDGE_TIME (R210). -/
def POS_EDGE_TIME (i : Nat) : Nat := 0x40190 + 0x400 * i
/-- POS_CNT_ILLEGAL (R193). -/
def POS_CNT_ILLEGAL (i : Nat) : Nat := 0x401c0 + 0x400 * i
/-- POS_CNT_DIRCHG (R203). -/
def POS_CNT_DIRCHG (i : Nat) : Nat := 0x401c4 + 0x400 * i
/-- POS_CNT_INDEX (R200). -/
def POS_CNT_INDEX (i : Nat) : Nat := 0x401c8 + 0x400 * i
/-- POS_CNT_SLIP (R202). -/
def POS_CNT_SLIP (i : Nat) : Nat := 0x401cc + 0x400 * i
/-- POS_CNT_SSIERR (R196). -/
def POS_CNT_SSIERR (i : Nat) : Nat := 0x401d0 + 0x400 * i
/-- POS_CNT_PROBE_MERGED (R208). -/
def POS_CNT_PROBE_MERGED (i : Nat) : Nat := 0x401d4 + 0x400 * i
/-- POS_CNT_LATEFRAME (R211). -/
def POS_CNT_LATEFRAME (i : Nat) : Nat := 0x401d8 + 0x400 * i
/-- POS_CNT_STALE (R212). -/
def POS_CNT_STALE (i : Nat) : Nat := 0x401dc + 0x400 * i

/-! ### TRIG -/

/-- TRIG_CTRL (R217). -/
def TRIG_CTRL (i : Nat) : Nat := 0x80000 + 0x100 * i
def TRIG_CTRL_OUT_INDEX (i : Nat) : Fld := ⟨TRIG_CTRL i, 24, 7⟩
def TRIG_CTRL_CHANNEL (i : Nat) : Fld := ⟨TRIG_CTRL i, 20, 4⟩
def TRIG_CTRL_PATH (i : Nat) : Fld := ⟨TRIG_CTRL i, 16, 2⟩
def TRIG_CTRL_MODE (i : Nat) : Fld := ⟨TRIG_CTRL i, 1, 2⟩
def TRIG_CTRL_ENABLE (i : Nat) : Fld := ⟨TRIG_CTRL i, 0, 1⟩
/-- TRIG_OPT (R218). -/
def TRIG_OPT (i : Nat) : Nat := 0x80004 + 0x100 * i
def TRIG_OPT_STEP_FOLLOW (i : Nat) : Fld := ⟨TRIG_OPT i, 8, 1⟩
def TRIG_OPT_BIDIR (i : Nat) : Fld := ⟨TRIG_OPT i, 7, 1⟩
def TRIG_OPT_CATCHUP (i : Nat) : Fld := ⟨TRIG_OPT i, 4, 3⟩
def TRIG_OPT_LATE_FIRE (i : Nat) : Fld := ⟨TRIG_OPT i, 3, 1⟩
def TRIG_OPT_WARM_MODE (i : Nat) : Fld := ⟨TRIG_OPT i, 2, 1⟩
def TRIG_OPT_LIST_SRC (i : Nat) : Fld := ⟨TRIG_OPT i, 1, 1⟩
def TRIG_OPT_KIND (i : Nat) : Fld := ⟨TRIG_OPT i, 0, 1⟩
/-- TRIG_DEV_LAT (R219). -/
def TRIG_DEV_LAT (i : Nat) : Nat := 0x80008 + 0x100 * i
def TRIG_DEV_LAT_NS (i : Nat) : Fld := ⟨TRIG_DEV_LAT i, 0, 24⟩
/-- TRIG_CENTRE (R219). -/
def TRIG_CENTRE (i : Nat) : Nat := 0x8000c + 0x100 * i
def TRIG_CENTRE_NS (i : Nat) : Fld := ⟨TRIG_CENTRE i, 0, 24⟩
/-- TRIG_TIMING (R223). -/
def TRIG_TIMING (i : Nat) : Nat := 0x80010 + 0x100 * i
def TRIG_TIMING_COMMIT_NS (i : Nat) : Fld := ⟨TRIG_TIMING i, 0, 11⟩
/-- TRIG_MIN_GAP (R219). -/
def TRIG_MIN_GAP (i : Nat) : Nat := 0x80014 + 0x100 * i
def TRIG_MIN_GAP_NS (i : Nat) : Fld := ⟨TRIG_MIN_GAP i, 0, 24⟩
/-- TRIG_PULSE (R236). -/
def TRIG_PULSE (i : Nat) : Nat := 0x80018 + 0x100 * i
def TRIG_PULSE_NS (i : Nat) : Fld := ⟨TRIG_PULSE i, 0, 24⟩
/-- TRIG_EVENT_DELAY (R229). -/
def TRIG_EVENT_DELAY (i : Nat) : Nat := 0x8001c + 0x100 * i
def TRIG_EVENT_DELAY_NS (i : Nat) : Fld := ⟨TRIG_EVENT_DELAY i, 0, 24⟩
/-- TRIG_PITCH (R220). -/
def TRIG_PITCH (i : Nat) : Nat := 0x80020 + 0x100 * i
/-- TRIG_ORIGIN (R220). -/
def TRIG_ORIGIN (i : Nat) : Nat := 0x80028 + 0x100 * i
/-- TRIG_STATION (R220). -/
def TRIG_STATION (i : Nat) : Nat := 0x80030 + 0x100 * i
/-- TRIG_LIST (R226). -/
def TRIG_LIST (i : Nat) : Nat := 0x80038 + 0x100 * i
def TRIG_LIST_LEN (i : Nat) : Fld := ⟨TRIG_LIST i, 16, 15⟩
def TRIG_LIST_BASE (i : Nat) : Fld := ⟨TRIG_LIST i, 0, 14⟩
/-- TRIG_LAP_LINES (R226). -/
def TRIG_LAP_LINES (i : Nat) : Nat := 0x8003c + 0x100 * i
/-- TRIG_LAP_DIST (R226). -/
def TRIG_LAP_DIST (i : Nat) : Nat := 0x80040 + 0x100 * i
/-- TRIG_PERIOD (R228). -/
def TRIG_PERIOD (i : Nat) : Nat := 0x80048 + 0x100 * i
/-- TRIG_START (R228). -/
def TRIG_START (i : Nat) : Nat := 0x80050 + 0x100 * i
/-- TRIG_PUSH (R227). -/
def TRIG_PUSH (i : Nat) : Nat := 0x80060 + 0x100 * i
/-- TRIG_CMD (R229). -/
def TRIG_CMD (i : Nat) : Nat := 0x80068 + 0x100 * i
def TRIG_CMD_FIRE (i : Nat) : Fld := ⟨TRIG_CMD i, 2, 1⟩
def TRIG_CMD_RING_CLEAR (i : Nat) : Fld := ⟨TRIG_CMD i, 1, 1⟩
def TRIG_CMD_RESYNC (i : Nat) : Fld := ⟨TRIG_CMD i, 0, 1⟩
/-- TRIG_STATUS (R217). -/
def TRIG_STATUS (i : Nat) : Nat := 0x8006c + 0x100 * i
def TRIG_STATUS_LIST_IDX (i : Nat) : Fld := ⟨TRIG_STATUS i, 18, 14⟩
def TRIG_STATUS_RUNNING (i : Nat) : Fld := ⟨TRIG_STATUS i, 7, 1⟩
def TRIG_STATUS_COMMITTED (i : Nat) : Fld := ⟨TRIG_STATUS i, 6, 1⟩
def TRIG_STATUS_WAIT_WARM (i : Nat) : Fld := ⟨TRIG_STATUS i, 5, 1⟩
def TRIG_STATUS_REV_HOLD (i : Nat) : Fld := ⟨TRIG_STATUS i, 4, 1⟩
def TRIG_STATUS_STALLED (i : Nat) : Fld := ⟨TRIG_STATUS i, 3, 1⟩
def TRIG_STATUS_RING_EMPTY (i : Nat) : Fld := ⟨TRIG_STATUS i, 2, 1⟩
def TRIG_STATUS_NO_SOLUTION (i : Nat) : Fld := ⟨TRIG_STATUS i, 1, 1⟩
def TRIG_STATUS_CATCHING_UP (i : Nat) : Fld := ⟨TRIG_STATUS i, 0, 1⟩
/-- TRIG_EVENTS (R232). -/
def TRIG_EVENTS (i : Nat) : Nat := 0x80070 + 0x100 * i
def TRIG_EVENTS_MERGED (i : Nat) : Fld := ⟨TRIG_EVENTS i, 10, 1⟩
def TRIG_EVENTS_SHIFTED (i : Nat) : Fld := ⟨TRIG_EVENTS i, 9, 1⟩
def TRIG_EVENTS_RING_FULL (i : Nat) : Fld := ⟨TRIG_EVENTS i, 8, 1⟩
def TRIG_EVENTS_STALLED (i : Nat) : Fld := ⟨TRIG_EVENTS i, 7, 1⟩
def TRIG_EVENTS_REV_HOLD (i : Nat) : Fld := ⟨TRIG_EVENTS i, 6, 1⟩
def TRIG_EVENTS_RESUMED (i : Nat) : Fld := ⟨TRIG_EVENTS i, 5, 1⟩
def TRIG_EVENTS_WAIT_WARM (i : Nat) : Fld := ⟨TRIG_EVENTS i, 4, 1⟩
def TRIG_EVENTS_UNSERVED (i : Nat) : Fld := ⟨TRIG_EVENTS i, 3, 1⟩
def TRIG_EVENTS_NOT_SENT (i : Nat) : Fld := ⟨TRIG_EVENTS i, 2, 1⟩
def TRIG_EVENTS_LATE (i : Nat) : Fld := ⟨TRIG_EVENTS i, 1, 1⟩
def TRIG_EVENTS_MISSED (i : Nat) : Fld := ⟨TRIG_EVENTS i, 0, 1⟩
/-- TRIG_EVENTS_EN (R232). -/
def TRIG_EVENTS_EN (i : Nat) : Nat := 0x80074 + 0x100 * i
def TRIG_EVENTS_EN_EN (i : Nat) : Fld := ⟨TRIG_EVENTS_EN i, 0, 11⟩
/-- TRIG_RING (R227). -/
def TRIG_RING (i : Nat) : Nat := 0x80078 + 0x100 * i
def TRIG_RING_WR (i : Nat) : Fld := ⟨TRIG_RING i, 16, 14⟩
def TRIG_RING_RD (i : Nat) : Fld := ⟨TRIG_RING i, 0, 14⟩
/-- TRIG_HWM (R234). -/
def TRIG_HWM (i : Nat) : Nat := 0x80080 + 0x100 * i
/-- TRIG_SHIFT (R221). -/
def TRIG_SHIFT (i : Nat) : Nat := 0x80088 + 0x100 * i
/-- TRIG_LAST_STATUS (R224). -/
def TRIG_LAST_STATUS (i : Nat) : Nat := 0x80090 + 0x100 * i
/-- TRIG_LAST_CAPCOUNT (R224). -/
def TRIG_LAST_CAPCOUNT (i : Nat) : Nat := 0x80094 + 0x100 * i
/-- TRIG_LAST_TRIG_ID (R224). -/
def TRIG_LAST_TRIG_ID (i : Nat) : Nat := 0x80098 + 0x100 * i
/-- TRIG_LAST_LEAD (R224). -/
def TRIG_LAST_LEAD (i : Nat) : Nat := 0x8009c + 0x100 * i
/-- TRIG_LAST_TARGET (R224). -/
def TRIG_LAST_TARGET (i : Nat) : Nat := 0x800a0 + 0x100 * i
/-- TRIG_LAST_LINE (R224). -/
def TRIG_LAST_LINE (i : Nat) : Nat := 0x800a8 + 0x100 * i
/-- TRIG_LAST_FLAGS (R224). -/
def TRIG_LAST_FLAGS (i : Nat) : Nat := 0x800b0 + 0x100 * i
def TRIG_LAST_FLAGS_STEP_SEQ (i : Nat) : Fld := ⟨TRIG_LAST_FLAGS i, 24, 8⟩
def TRIG_LAST_FLAGS_WARM (i : Nat) : Fld := ⟨TRIG_LAST_FLAGS i, 4, 1⟩
def TRIG_LAST_FLAGS_REVERSE (i : Nat) : Fld := ⟨TRIG_LAST_FLAGS i, 3, 1⟩
def TRIG_LAST_FLAGS_CATCHUP (i : Nat) : Fld := ⟨TRIG_LAST_FLAGS i, 2, 1⟩
def TRIG_LAST_FLAGS_COMPARE (i : Nat) : Fld := ⟨TRIG_LAST_FLAGS i, 1, 1⟩
def TRIG_LAST_FLAGS_LATE_TRIGGER (i : Nat) : Fld := ⟨TRIG_LAST_FLAGS i, 0, 1⟩
/-- TRIG_LAST_TIME (R224). -/
def TRIG_LAST_TIME (i : Nat) : Nat := 0x800c0 + 0x100 * i
/-- TRIG_CNT_FIRED (R224). -/
def TRIG_CNT_FIRED (i : Nat) : Nat := 0x800d0 + 0x100 * i
/-- TRIG_CNT_LATE (R231). -/
def TRIG_CNT_LATE (i : Nat) : Nat := 0x800d4 + 0x100 * i
/-- TRIG_CNT_MISSED (R231). -/
def TRIG_CNT_MISSED (i : Nat) : Nat := 0x800d8 + 0x100 * i
/-- TRIG_CNT_COLD (R233). -/
def TRIG_CNT_COLD (i : Nat) : Nat := 0x800dc + 0x100 * i
/-- TRIG_CNT_NOTSENT (R232). -/
def TRIG_CNT_NOTSENT (i : Nat) : Nat := 0x800e0 + 0x100 * i
/-- TRIG_CNT_UNSERVED (R232). -/
def TRIG_CNT_UNSERVED (i : Nat) : Nat := 0x800e4 + 0x100 * i
/-- TRIG_CNT_REVHOLD (R234). -/
def TRIG_CNT_REVHOLD (i : Nat) : Nat := 0x800e8 + 0x100 * i
/-- TRIG_CNT_RINGFULL (R227). -/
def TRIG_CNT_RINGFULL (i : Nat) : Nat := 0x800ec + 0x100 * i
/-- TRIG_CNT_MERGED (R236). -/
def TRIG_CNT_MERGED (i : Nat) : Nat := 0x800f0 + 0x100 * i

/-! ### SCHED -/

/-- SCHED_TARGET (R226). -/
def SCHED_TARGET (i : Nat) : Nat := 0xa0000 + 0x10 * i
/-- SCHED_LINE (R226). -/
def SCHED_LINE (i : Nat) : Nat := 0xa0008 + 0x10 * i
/-- SCHED_WORD3 (R226). -/
def SCHED_WORD3 (i : Nat) : Nat := 0xa000c + 0x10 * i
def SCHED_WORD3_END (i : Nat) : Fld := ⟨SCHED_WORD3 i, 18, 1⟩
def SCHED_WORD3_WRAP (i : Nat) : Fld := ⟨SCHED_WORD3 i, 17, 1⟩
def SCHED_WORD3_VALID (i : Nat) : Fld := ⟨SCHED_WORD3 i, 16, 1⟩
def SCHED_WORD3_PARAM (i : Nat) : Fld := ⟨SCHED_WORD3 i, 0, 16⟩

/-! ### LANE -/

/-- LANE_CTRL (R112). -/
def LANE_CTRL (i : Nat) : Nat := 0x100000 + 0x400 * i
def LANE_CTRL_RETRAIN (i : Nat) : Fld := ⟨LANE_CTRL i, 15, 1⟩
def LANE_CTRL_FREEZE_DIS (i : Nat) : Fld := ⟨LANE_CTRL i, 11, 1⟩
def LANE_CTRL_RX_INVERT (i : Nat) : Fld := ⟨LANE_CTRL i, 10, 1⟩
def LANE_CTRL_TX_INVERT (i : Nat) : Fld := ⟨LANE_CTRL i, 9, 1⟩
def LANE_CTRL_LOCK_TX (i : Nat) : Fld := ⟨LANE_CTRL i, 8, 1⟩
def LANE_CTRL_MAX_GRADE (i : Nat) : Fld := ⟨LANE_CTRL i, 5, 3⟩
def LANE_CTRL_PERSONALITY (i : Nat) : Fld := ⟨LANE_CTRL i, 2, 3⟩
def LANE_CTRL_POWER_DOWN (i : Nat) : Fld := ⟨LANE_CTRL i, 1, 1⟩
def LANE_CTRL_ENABLE (i : Nat) : Fld := ⟨LANE_CTRL i, 0, 1⟩
/-- LANE_STATUS (R108). -/
def LANE_STATUS (i : Nat) : Nat := 0x100004 + 0x400 * i
def LANE_STATUS_BACKOFF (i : Nat) : Fld := ⟨LANE_STATUS i, 24, 3⟩
def LANE_STATUS_CHK_LOCK (i : Nat) : Fld := ⟨LANE_STATUS i, 23, 1⟩
def LANE_STATUS_FROZEN (i : Nat) : Fld := ⟨LANE_STATUS i, 22, 1⟩
def LANE_STATUS_DEGRADED (i : Nat) : Fld := ⟨LANE_STATUS i, 21, 1⟩
def LANE_STATUS_ALIGN_LOCK (i : Nat) : Fld := ⟨LANE_STATUS i, 20, 1⟩
def LANE_STATUS_BLOCK_LOCK (i : Nat) : Fld := ⟨LANE_STATUS i, 19, 1⟩
def LANE_STATUS_LOL (i : Nat) : Fld := ⟨LANE_STATUS i, 18, 1⟩
def LANE_STATUS_LOS (i : Nat) : Fld := ⟨LANE_STATUS i, 17, 1⟩
def LANE_STATUS_PLL_LOCK (i : Nat) : Fld := ⟨LANE_STATUS i, 16, 1⟩
def LANE_STATUS_GRADE (i : Nat) : Fld := ⟨LANE_STATUS i, 8, 3⟩
def LANE_STATUS_STATE (i : Nat) : Fld := ⟨LANE_STATUS i, 0, 4⟩
/-- LANE_EVENTS (R129). -/
def LANE_EVENTS (i : Nat) : Nat := 0x100008 + 0x400 * i
def LANE_EVENTS_ALIGN_MISS (i : Nat) : Fld := ⟨LANE_EVENTS i, 7, 1⟩
def LANE_EVENTS_PLL_LOST (i : Nat) : Fld := ⟨LANE_EVENTS i, 6, 1⟩
def LANE_EVENTS_EXIT_FAIL (i : Nat) : Fld := ⟨LANE_EVENTS i, 5, 1⟩
def LANE_EVENTS_BURST (i : Nat) : Fld := ⟨LANE_EVENTS i, 4, 1⟩
def LANE_EVENTS_FALLBACK (i : Nat) : Fld := ⟨LANE_EVENTS i, 3, 1⟩
def LANE_EVENTS_ABSENT (i : Nat) : Fld := ⟨LANE_EVENTS i, 2, 1⟩
def LANE_EVENTS_DOWN (i : Nat) : Fld := ⟨LANE_EVENTS i, 1, 1⟩
def LANE_EVENTS_UP (i : Nat) : Fld := ⟨LANE_EVENTS i, 0, 1⟩
/-- LANE_EVENTS_EN (R129). -/
def LANE_EVENTS_EN (i : Nat) : Nat := 0x10000c + 0x400 * i
def LANE_EVENTS_EN_EN (i : Nat) : Fld := ⟨LANE_EVENTS_EN i, 0, 8⟩
/-- LANE_TXFIR (R115). -/
def LANE_TXFIR (i : Nat) : Nat := 0x100010 + 0x400 * i
def LANE_TXFIR_PRESET (i : Nat) : Fld := ⟨LANE_TXFIR i, 28, 4⟩
def LANE_TXFIR_C_MAIN (i : Nat) : Fld := ⟨LANE_TXFIR i, 16, 6⟩
def LANE_TXFIR_C_POST (i : Nat) : Fld := ⟨LANE_TXFIR i, 8, 5⟩
def LANE_TXFIR_C_PRE (i : Nat) : Fld := ⟨LANE_TXFIR i, 0, 4⟩
/-- LANE_PARTNER_FIR (R116). -/
def LANE_PARTNER_FIR (i : Nat) : Nat := 0x100014 + 0x400 * i
def LANE_PARTNER_FIR_PRESET (i : Nat) : Fld := ⟨LANE_PARTNER_FIR i, 28, 4⟩
def LANE_PARTNER_FIR_C_MAIN (i : Nat) : Fld := ⟨LANE_PARTNER_FIR i, 16, 6⟩
def LANE_PARTNER_FIR_C_POST (i : Nat) : Fld := ⟨LANE_PARTNER_FIR i, 8, 5⟩
def LANE_PARTNER_FIR_C_PRE (i : Nat) : Fld := ⟨LANE_PARTNER_FIR i, 0, 4⟩
/-- LANE_TRAIN_CFG (R118). -/
def LANE_TRAIN_CFG (i : Nat) : Nat := 0x100018 + 0x400 * i
def LANE_TRAIN_CFG_MARGIN_V (i : Nat) : Fld := ⟨LANE_TRAIN_CFG i, 24, 8⟩
def LANE_TRAIN_CFG_MARGIN_H (i : Nat) : Fld := ⟨LANE_TRAIN_CFG i, 18, 6⟩
def LANE_TRAIN_CFG_PARTNER_PRESET (i : Nat) : Fld := ⟨LANE_TRAIN_CFG i, 12, 4⟩
def LANE_TRAIN_CFG_TX_PRESET (i : Nat) : Fld := ⟨LANE_TRAIN_CFG i, 8, 4⟩
def LANE_TRAIN_CFG_CTLE_FIXED (i : Nat) : Fld := ⟨LANE_TRAIN_CFG i, 7, 1⟩
def LANE_TRAIN_CFG_CTLE_INIT (i : Nat) : Fld := ⟨LANE_TRAIN_CFG i, 0, 4⟩
/-- LANE_TX_CUSTOM (R115). -/
def LANE_TX_CUSTOM (i : Nat) : Nat := 0x10001c + 0x400 * i
def LANE_TX_CUSTOM_C_MAIN (i : Nat) : Fld := ⟨LANE_TX_CUSTOM i, 16, 6⟩
def LANE_TX_CUSTOM_C_POST (i : Nat) : Fld := ⟨LANE_TX_CUSTOM i, 8, 5⟩
def LANE_TX_CUSTOM_C_PRE (i : Nat) : Fld := ⟨LANE_TX_CUSTOM i, 0, 4⟩
/-- LANE_EYE_STATUS (R119). -/
def LANE_EYE_STATUS (i : Nat) : Nat := 0x100020 + 0x400 * i
/-- LANE_EYE_MARGIN (R119). -/
def LANE_EYE_MARGIN (i : Nat) : Nat := 0x100024 + 0x400 * i
def LANE_EYE_MARGIN_CTLE (i : Nat) : Fld := ⟨LANE_EYE_MARGIN i, 28, 4⟩
def LANE_EYE_MARGIN_H_MARGIN (i : Nat) : Fld := ⟨LANE_EYE_MARGIN i, 8, 6⟩
def LANE_EYE_MARGIN_V_MARGIN (i : Nat) : Fld := ⟨LANE_EYE_MARGIN i, 0, 8⟩
/-- LANE_EYE_DFE (R119). -/
def LANE_EYE_DFE (i : Nat) : Nat := 0x100028 + 0x400 * i
def LANE_EYE_DFE_TAP5 (i : Nat) : Fld := ⟨LANE_EYE_DFE i, 24, 6⟩
def LANE_EYE_DFE_TAP4 (i : Nat) : Fld := ⟨LANE_EYE_DFE i, 18, 6⟩
def LANE_EYE_DFE_TAP3 (i : Nat) : Fld := ⟨LANE_EYE_DFE i, 12, 6⟩
def LANE_EYE_DFE_TAP2 (i : Nat) : Fld := ⟨LANE_EYE_DFE i, 6, 6⟩
def LANE_EYE_DFE_TAP1 (i : Nat) : Fld := ⟨LANE_EYE_DFE i, 0, 6⟩
/-- LANE_TEST (R123). -/
def LANE_TEST (i : Nat) : Nat := 0x100040 + 0x400 * i
def LANE_TEST_INJ_EXP (i : Nat) : Fld := ⟨LANE_TEST i, 24, 8⟩
def LANE_TEST_INJECT (i : Nat) : Fld := ⟨LANE_TEST i, 23, 1⟩
def LANE_TEST_INJ_MODE (i : Nat) : Fld := ⟨LANE_TEST i, 20, 3⟩
def LANE_TEST_LOOPBACK (i : Nat) : Fld := ⟨LANE_TEST i, 16, 2⟩
def LANE_TEST_CHK_PATTERN (i : Nat) : Fld := ⟨LANE_TEST i, 8, 4⟩
def LANE_TEST_GEN_PATTERN (i : Nat) : Fld := ⟨LANE_TEST i, 4, 4⟩
def LANE_TEST_EN (i : Nat) : Fld := ⟨LANE_TEST i, 0, 1⟩
/-- LANE_PAT_USER (R123). -/
def LANE_PAT_USER (i : Nat) : Nat := 0x100048 + 0x400 * i
/-- LANE_PRBS_STATUS (R124). -/
def LANE_PRBS_STATUS (i : Nat) : Nat := 0x100050 + 0x400 * i
/-- LANE_PRBS_BITS (R124). -/
def LANE_PRBS_BITS (i : Nat) : Nat := 0x100058 + 0x400 * i
/-- LANE_PRBS_ERR (R124). -/
def LANE_PRBS_ERR (i : Nat) : Nat := 0x100060 + 0x400 * i
/-- LANE_CNT_LOS (R128). -/
def LANE_CNT_LOS (i : Nat) : Nat := 0x100070 + 0x400 * i
/-- LANE_CNT_LOCKLOSS (R128). -/
def LANE_CNT_LOCKLOSS (i : Nat) : Nat := 0x100074 + 0x400 * i
/-- LANE_CNT_SYNCERR (R102). -/
def LANE_CNT_SYNCERR (i : Nat) : Nat := 0x100078 + 0x400 * i
/-- LANE_CNT_TRAIN (R128). -/
def LANE_CNT_TRAIN (i : Nat) : Nat := 0x10007c + 0x400 * i
/-- LANE_CNT_FAILSTEP (R110). -/
def LANE_CNT_FAILSTEP (i : Nat) : Nat := 0x100080 + 0x400 * i
/-- LANE_CNT_BURST (R119). -/
def LANE_CNT_BURST (i : Nat) : Nat := 0x100084 + 0x400 * i
/-- LANE_CNT_EXITFAIL (R122). -/
def LANE_CNT_EXITFAIL (i : Nat) : Nat := 0x100088 + 0x400 * i
/-- LANE_CNT_CHKRESYNC (R124). -/
def LANE_CNT_CHKRESYNC (i : Nat) : Nat := 0x10008c + 0x400 * i
/-- TENON_CFG (R167). -/
def TENON_CFG (i : Nat) : Nat := 0x100100 + 0x400 * i
def TENON_CFG_LINE_PIXELS (i : Nat) : Fld := ⟨TENON_CFG i, 16, 16⟩
def TENON_CFG_FORMAT (i : Nat) : Fld := ⟨TENON_CFG i, 10, 3⟩
def TENON_CFG_BOND (i : Nat) : Fld := ⟨TENON_CFG i, 8, 2⟩
def TENON_CFG_EXP_USE (i : Nat) : Fld := ⟨TENON_CFG i, 2, 1⟩
def TENON_CFG_LAT_TRACK (i : Nat) : Fld := ⟨TENON_CFG i, 1, 1⟩
def TENON_CFG_EIDLE_EN (i : Nat) : Fld := ⟨TENON_CFG i, 0, 1⟩
/-- TENON_LIMITS (R167). -/
def TENON_LIMITS (i : Nat) : Nat := 0x100104 + 0x400 * i
def TENON_LIMITS_VIOL_LIMIT (i : Nat) : Fld := ⟨TENON_LIMITS i, 16, 16⟩
def TENON_LIMITS_TRIG_AGE (i : Nat) : Fld := ⟨TENON_LIMITS i, 8, 8⟩
/-- TENON_FILL (R167). -/
def TENON_FILL (i : Nat) : Nat := 0x100108 + 0x400 * i
def TENON_FILL_CTRL_TIMEOUT (i : Nat) : Fld := ⟨TENON_FILL i, 16, 16⟩
def TENON_FILL_FILL (i : Nat) : Fld := ⟨TENON_FILL i, 0, 16⟩
/-- TENON_STATUS (R168). -/
def TENON_STATUS (i : Nat) : Nat := 0x100110 + 0x400 * i
def TENON_STATUS_LIMIT (i : Nat) : Fld := ⟨TENON_STATUS i, 16, 16⟩
def TENON_STATUS_SKEW (i : Nat) : Fld := ⟨TENON_STATUS i, 10, 6⟩
def TENON_STATUS_TILE_OPEN (i : Nat) : Fld := ⟨TENON_STATUS i, 9, 1⟩
def TENON_STATUS_CTRL_BUSY (i : Nat) : Fld := ⟨TENON_STATUS i, 8, 1⟩
def TENON_STATUS_POSITION (i : Nat) : Fld := ⟨TENON_STATUS i, 4, 2⟩
def TENON_STATUS_BOND_UP (i : Nat) : Fld := ⟨TENON_STATUS i, 3, 1⟩
/-- TENON_PARTNER_CAP (R134). -/
def TENON_PARTNER_CAP (i : Nat) : Nat := 0x100114 + 0x400 * i
def TENON_PARTNER_CAP_VERSION (i : Nat) : Fld := ⟨TENON_PARTNER_CAP i, 24, 8⟩
def TENON_PARTNER_CAP_FORMATS (i : Nat) : Fld := ⟨TENON_PARTNER_CAP i, 18, 6⟩
def TENON_PARTNER_CAP_MAX_BOND (i : Nat) : Fld := ⟨TENON_PARTNER_CAP i, 16, 2⟩
def TENON_PARTNER_CAP_EIDLE (i : Nat) : Fld := ⟨TENON_PARTNER_CAP i, 15, 1⟩
def TENON_PARTNER_CAP_MAX_GRADE (i : Nat) : Fld := ⟨TENON_PARTNER_CAP i, 0, 3⟩
/-- TENON_PARTNER_LAT (R134). -/
def TENON_PARTNER_LAT (i : Nat) : Nat := 0x100118 + 0x400 * i
def TENON_PARTNER_LAT_TRIG_LAT (i : Nat) : Fld := ⟨TENON_PARTNER_LAT i, 0, 24⟩
/-- TENON_PARTNER_LINE (R134). -/
def TENON_PARTNER_LINE (i : Nat) : Nat := 0x10011c + 0x400 * i
def TENON_PARTNER_LINE_MAX_LINE (i : Nat) : Fld := ⟨TENON_PARTNER_LINE i, 0, 16⟩
/-- TENON_LAT_STATUS (R139). -/
def TENON_LAT_STATUS (i : Nat) : Nat := 0x100120 + 0x400 * i
/-- TENON_LAT_VALUE (R139). -/
def TENON_LAT_VALUE (i : Nat) : Nat := 0x100124 + 0x400 * i
/-- TENON_LAT_SPREAD (R139). -/
def TENON_LAT_SPREAD (i : Nat) : Nat := 0x100128 + 0x400 * i
def TENON_LAT_SPREAD_COUNT (i : Nat) : Fld := ⟨TENON_LAT_SPREAD i, 16, 16⟩
def TENON_LAT_SPREAD_SPREAD (i : Nat) : Fld := ⟨TENON_LAT_SPREAD i, 0, 16⟩
/-- TENON_CTRL_ADDR (R155). -/
def TENON_CTRL_ADDR (i : Nat) : Nat := 0x100130 + 0x400 * i
def TENON_CTRL_ADDR_ADDR (i : Nat) : Fld := ⟨TENON_CTRL_ADDR i, 0, 16⟩
/-- TENON_CTRL_WDATA (R155). -/
def TENON_CTRL_WDATA (i : Nat) : Nat := 0x100134 + 0x400 * i
/-- TENON_CTRL_CMD (R155). -/
def TENON_CTRL_CMD (i : Nat) : Nat := 0x100138 + 0x400 * i
def TENON_CTRL_CMD_WRITE (i : Nat) : Fld := ⟨TENON_CTRL_CMD i, 1, 1⟩
def TENON_CTRL_CMD_GO (i : Nat) : Fld := ⟨TENON_CTRL_CMD i, 0, 1⟩
/-- TENON_CTRL_STATUS (R155). -/
def TENON_CTRL_STATUS (i : Nat) : Nat := 0x100140 + 0x400 * i
/-- TENON_CTRL_RESULT (R155). -/
def TENON_CTRL_RESULT (i : Nat) : Nat := 0x100144 + 0x400 * i
def TENON_CTRL_RESULT_ADDR (i : Nat) : Fld := ⟨TENON_CTRL_RESULT i, 16, 16⟩
def TENON_CTRL_RESULT_TAG (i : Nat) : Fld := ⟨TENON_CTRL_RESULT i, 8, 8⟩
def TENON_CTRL_RESULT_CODE (i : Nat) : Fld := ⟨TENON_CTRL_RESULT i, 0, 4⟩
/-- TENON_CTRL_RDATA (R155). -/
def TENON_CTRL_RDATA (i : Nat) : Nat := 0x100148 + 0x400 * i
/-- TENON_EVENTS (R169). -/
def TENON_EVENTS (i : Nat) : Nat := 0x100150 + 0x400 * i
def TENON_EVENTS_PARTNER_RESTART (i : Nat) : Fld := ⟨TENON_EVENTS i, 10, 1⟩
def TENON_EVENTS_PARTNER_VIOL (i : Nat) : Fld := ⟨TENON_EVENTS i, 9, 1⟩
def TENON_EVENTS_CTRL_DONE (i : Nat) : Fld := ⟨TENON_EVENTS i, 8, 1⟩
def TENON_EVENTS_LAT_DRIFT (i : Nat) : Fld := ⟨TENON_EVENTS i, 7, 1⟩
def TENON_EVENTS_LAT_SPREAD (i : Nat) : Fld := ⟨TENON_EVENTS i, 6, 1⟩
def TENON_EVENTS_UNSERVED (i : Nat) : Fld := ⟨TENON_EVENTS i, 5, 1⟩
def TENON_EVENTS_PARTIAL_TILE (i : Nat) : Fld := ⟨TENON_EVENTS i, 4, 1⟩
def TENON_EVENTS_VIOL_LIMIT_HIT (i : Nat) : Fld := ⟨TENON_EVENTS i, 3, 1⟩
def TENON_EVENTS_VIOL (i : Nat) : Fld := ⟨TENON_EVENTS i, 2, 1⟩
def TENON_EVENTS_BOND_DOWN (i : Nat) : Fld := ⟨TENON_EVENTS i, 1, 1⟩
def TENON_EVENTS_BOND_UP (i : Nat) : Fld := ⟨TENON_EVENTS i, 0, 1⟩
/-- TENON_EVENTS_EN (R169). -/
def TENON_EVENTS_EN (i : Nat) : Nat := 0x100154 + 0x400 * i
def TENON_EVENTS_EN_EN (i : Nat) : Fld := ⟨TENON_EVENTS_EN i, 0, 11⟩
/-- TENON_VIOL_STATUS (R162). -/
def TENON_VIOL_STATUS (i : Nat) : Nat := 0x100160 + 0x400 * i
/-- TENON_VIOL_LAST (R162). -/
def TENON_VIOL_LAST (i : Nat) : Nat := 0x100164 + 0x400 * i
def TENON_VIOL_LAST_DETAIL (i : Nat) : Fld := ⟨TENON_VIOL_LAST i, 16, 16⟩
def TENON_VIOL_LAST_REASON (i : Nat) : Fld := ⟨TENON_VIOL_LAST i, 0, 8⟩
/-- TENON_CNT_TILES (R168). -/
def TENON_CNT_TILES (i : Nat) : Nat := 0x100180 + 0x400 * i
/-- TENON_CNT_VIOL (R168). -/
def TENON_CNT_VIOL (i : Nat) : Nat := 0x100184 + 0x400 * i
/-- TENON_CNT_CHECK (R168). -/
def TENON_CNT_CHECK (i : Nat) : Nat := 0x100188 + 0x400 * i
/-- TENON_CNT_DISCARD (R168). -/
def TENON_CNT_DISCARD (i : Nat) : Nat := 0x10018c + 0x400 * i
/-- TENON_CNT_HDRCRC (R168). -/
def TENON_CNT_HDRCRC (i : Nat) : Nat := 0x100190 + 0x400 * i
/-- TENON_CNT_PAYCRC (R168). -/
def TENON_CNT_PAYCRC (i : Nat) : Nat := 0x100194 + 0x400 * i
/-- TENON_CNT_PARTIAL (R168). -/
def TENON_CNT_PARTIAL (i : Nat) : Nat := 0x100198 + 0x400 * i
/-- TENON_CNT_DROPPED (R168). -/
def TENON_CNT_DROPPED (i : Nat) : Nat := 0x10019c + 0x400 * i
/-- TENON_CNT_TRIG (R168). -/
def TENON_CNT_TRIG (i : Nat) : Nat := 0x1001a0 + 0x400 * i
/-- TENON_CNT_TRIG_LATE (R168). -/
def TENON_CNT_TRIG_LATE (i : Nat) : Nat := 0x1001a4 + 0x400 * i
/-- TENON_CNT_UNSERVED (R168). -/
def TENON_CNT_UNSERVED (i : Nat) : Nat := 0x1001a8 + 0x400 * i
/-- TENON_CNT_EIDLE (R168). -/
def TENON_CNT_EIDLE (i : Nat) : Nat := 0x1001ac + 0x400 * i
/-- TENON_CNT_VIOL_RX (R168). -/
def TENON_CNT_VIOL_RX (i : Nat) : Nat := 0x1001b0 + 0x400 * i
/-- TENON_CNT_CTRL_REFUSED (R168). -/
def TENON_CNT_CTRL_REFUSED (i : Nat) : Nat := 0x1001b4 + 0x400 * i

/-! ### ETH -/

/-- ETH_CFG (R187). -/
def ETH_CFG (i : Nat) : Nat := 0x1100100 + 0x400 * i
def ETH_CFG_LINE_PIXELS (i : Nat) : Fld := ⟨ETH_CFG i, 16, 16⟩
def ETH_CFG_FORMAT (i : Nat) : Fld := ⟨ETH_CFG i, 10, 3⟩
def ETH_CFG_RESEND_MAX (i : Nat) : Fld := ⟨ETH_CFG i, 8, 2⟩
def ETH_CFG_FEC (i : Nat) : Fld := ⟨ETH_CFG i, 6, 2⟩
def ETH_CFG_TS_USE (i : Nat) : Fld := ⟨ETH_CFG i, 3, 1⟩
def ETH_CFG_TS_MATCH (i : Nat) : Fld := ⟨ETH_CFG i, 2, 1⟩
def ETH_CFG_PTP_EN (i : Nat) : Fld := ⟨ETH_CFG i, 1, 1⟩
def ETH_CFG_ACT_EN (i : Nat) : Fld := ⟨ETH_CFG i, 0, 1⟩
/-- ETH_LANE_IP (R173). -/
def ETH_LANE_IP (i : Nat) : Nat := 0x1100104 + 0x400 * i
/-- ETH_CAMERA_IP (R173). -/
def ETH_CAMERA_IP (i : Nat) : Nat := 0x1100108 + 0x400 * i
/-- ETH_SIZES (R187). -/
def ETH_SIZES (i : Nat) : Nat := 0x110010c + 0x400 * i
def ETH_SIZES_PKT_SIZE (i : Nat) : Fld := ⟨ETH_SIZES i, 16, 16⟩
def ETH_SIZES_FILL (i : Nat) : Fld := ⟨ETH_SIZES i, 0, 16⟩
/-- ETH_TIMERS (R187). -/
def ETH_TIMERS (i : Nat) : Nat := 0x1100110 + 0x400 * i
def ETH_TIMERS_RESEND_WAIT (i : Nat) : Fld := ⟨ETH_TIMERS i, 16, 16⟩
def ETH_TIMERS_TRIG_AGE (i : Nat) : Fld := ⟨ETH_TIMERS i, 8, 8⟩
def ETH_TIMERS_MATCH_US (i : Nat) : Fld := ⟨ETH_TIMERS i, 0, 8⟩
/-- ETH_ACT_CFG (R187). -/
def ETH_ACT_CFG (i : Nat) : Nat := 0x1100114 + 0x400 * i
def ETH_ACT_CFG_QUEUE (i : Nat) : Fld := ⟨ETH_ACT_CFG i, 24, 8⟩
def ETH_ACT_CFG_MIN_LEAD_US (i : Nat) : Fld := ⟨ETH_ACT_CFG i, 12, 12⟩
def ETH_ACT_CFG_LEAD_US (i : Nat) : Fld := ⟨ETH_ACT_CFG i, 0, 12⟩
/-- ETH_CAM_LAT (R187). -/
def ETH_CAM_LAT (i : Nat) : Nat := 0x1100118 + 0x400 * i
def ETH_CAM_LAT_TRIG_LAT (i : Nat) : Fld := ⟨ETH_CAM_LAT i, 0, 24⟩
/-- ETH_ACT_DEVKEY (R183). -/
def ETH_ACT_DEVKEY (i : Nat) : Nat := 0x110011c + 0x400 * i
/-- ETH_ACT_GROUPKEY (R183). -/
def ETH_ACT_GROUPKEY (i : Nat) : Nat := 0x1100120 + 0x400 * i
/-- ETH_ACT_GROUPMASK (R183). -/
def ETH_ACT_GROUPMASK (i : Nat) : Nat := 0x1100124 + 0x400 * i
/-- ETH_PTP (R182). -/
def ETH_PTP (i : Nat) : Nat := 0x1100128 + 0x400 * i
def ETH_PTP_LOG_SYNC (i : Nat) : Fld := ⟨ETH_PTP i, 8, 4⟩
def ETH_PTP_PTP_DOMAIN (i : Nat) : Fld := ⟨ETH_PTP i, 0, 8⟩
/-- ETH_STATUS (R175). -/
def ETH_STATUS (i : Nat) : Nat := 0x1100130 + 0x400 * i
def ETH_STATUS_ACT_OUT (i : Nat) : Fld := ⟨ETH_STATUS i, 24, 8⟩
def ETH_STATUS_SETUP_STEP (i : Nat) : Fld := ⟨ETH_STATUS i, 5, 3⟩
def ETH_STATUS_READY (i : Nat) : Fld := ⟨ETH_STATUS i, 4, 1⟩
def ETH_STATUS_CAM_SYNCED (i : Nat) : Fld := ⟨ETH_STATUS i, 3, 1⟩
def ETH_STATUS_CTRL_HELD (i : Nat) : Fld := ⟨ETH_STATUS i, 2, 1⟩
def ETH_STATUS_ARP_OK (i : Nat) : Fld := ⟨ETH_STATUS i, 1, 1⟩
def ETH_STATUS_FEC_LOCK (i : Nat) : Fld := ⟨ETH_STATUS i, 0, 1⟩
/-- ETH_CAM_MAC (R174). -/
def ETH_CAM_MAC (i : Nat) : Nat := 0x1100138 + 0x400 * i
/-- ETH_EVENTS (R175). -/
def ETH_EVENTS (i : Nat) : Nat := 0x1100150 + 0x400 * i
def ETH_EVENTS_OVERFLOW (i : Nat) : Fld := ⟨ETH_EVENTS i, 7, 1⟩
def ETH_EVENTS_ACT_LATE (i : Nat) : Fld := ⟨ETH_EVENTS i, 6, 1⟩
def ETH_EVENTS_UNSERVED (i : Nat) : Fld := ⟨ETH_EVENTS i, 5, 1⟩
def ETH_EVENTS_UNMATCHED (i : Nat) : Fld := ⟨ETH_EVENTS i, 4, 1⟩
def ETH_EVENTS_LOST_BLOCK (i : Nat) : Fld := ⟨ETH_EVENTS i, 3, 1⟩
def ETH_EVENTS_PARTIAL_BLOCK (i : Nat) : Fld := ⟨ETH_EVENTS i, 2, 1⟩
def ETH_EVENTS_NOT_READY (i : Nat) : Fld := ⟨ETH_EVENTS i, 1, 1⟩
def ETH_EVENTS_READY (i : Nat) : Fld := ⟨ETH_EVENTS i, 0, 1⟩
/-- ETH_EVENTS_EN (R175). -/
def ETH_EVENTS_EN (i : Nat) : Nat := 0x1100154 + 0x400 * i
def ETH_EVENTS_EN_EN (i : Nat) : Fld := ⟨ETH_EVENTS_EN i, 0, 8⟩
/-- ETH_CNT_FRAMES (R171). -/
def ETH_CNT_FRAMES (i : Nat) : Nat := 0x1100180 + 0x400 * i
/-- ETH_CNT_FCS (R171). -/
def ETH_CNT_FCS (i : Nat) : Nat := 0x1100184 + 0x400 * i
/-- ETH_CNT_FILTERED (R171). -/
def ETH_CNT_FILTERED (i : Nat) : Nat := 0x1100188 + 0x400 * i
/-- ETH_CNT_OVERFLOW (R24). -/
def ETH_CNT_OVERFLOW (i : Nat) : Nat := 0x110018c + 0x400 * i
/-- ETH_CNT_BLOCKS (R181). -/
def ETH_CNT_BLOCKS (i : Nat) : Nat := 0x1100190 + 0x400 * i
/-- ETH_CNT_RESEND_REQ (R181). -/
def ETH_CNT_RESEND_REQ (i : Nat) : Nat := 0x1100194 + 0x400 * i
/-- ETH_CNT_RESEND_RX (R181). -/
def ETH_CNT_RESEND_RX (i : Nat) : Nat := 0x1100198 + 0x400 * i
/-- ETH_CNT_PARTIAL (R181). -/
def ETH_CNT_PARTIAL (i : Nat) : Nat := 0x110019c + 0x400 * i
/-- ETH_CNT_LOSTBLK (R178). -/
def ETH_CNT_LOSTBLK (i : Nat) : Nat := 0x11001a0 + 0x400 * i
/-- ETH_CNT_UNMATCHED (R179). -/
def ETH_CNT_UNMATCHED (i : Nat) : Nat := 0x11001a4 + 0x400 * i
/-- ETH_CNT_UNSERVED (R179). -/
def ETH_CNT_UNSERVED (i : Nat) : Nat := 0x11001a8 + 0x400 * i
/-- ETH_CNT_ACT (R183). -/
def ETH_CNT_ACT (i : Nat) : Nat := 0x11001ac + 0x400 * i
/-- ETH_CNT_ACT_LATE (R185). -/
def ETH_CNT_ACT_LATE (i : Nat) : Nat := 0x11001b0 + 0x400 * i
/-- ETH_CNT_STALE (R181). -/
def ETH_CNT_STALE (i : Nat) : Nat := 0x11001b4 + 0x400 * i
/-- ETH_CNT_FEC_CORR (R186). -/
def ETH_CNT_FEC_CORR (i : Nat) : Nat := 0x11001b8 + 0x400 * i
/-- ETH_CNT_FEC_UNCORR (R186). -/
def ETH_CNT_FEC_UNCORR (i : Nat) : Nat := 0x11001bc + 0x400 * i

/-! ### BAY -/

/-- BAY_COND_EVENTS (R270). -/
def BAY_COND_EVENTS (i : Nat) : Nat := 0x140000 + 0x1000 * i
def BAY_COND_EVENTS_DEF_ORDER (i : Nat) : Fld := ⟨BAY_COND_EVENTS i, 28, 4⟩
def BAY_COND_EVENTS_MEM_UNCORR (i : Nat) : Fld := ⟨BAY_COND_EVENTS i, 24, 4⟩
def BAY_COND_EVENTS_MEM_CORR (i : Nat) : Fld := ⟨BAY_COND_EVENTS i, 20, 4⟩
def BAY_COND_EVENTS_SWAPPED (i : Nat) : Fld := ⟨BAY_COND_EVENTS i, 16, 4⟩
def BAY_COND_EVENTS_RS_PASS (i : Nat) : Fld := ⟨BAY_COND_EVENTS i, 12, 4⟩
def BAY_COND_EVENTS_STALL (i : Nat) : Fld := ⟨BAY_COND_EVENTS i, 8, 4⟩
def BAY_COND_EVENTS_Q_HIGH (i : Nat) : Fld := ⟨BAY_COND_EVENTS i, 0, 4⟩
/-- BAY_COND_EVENTS_EN (R270). -/
def BAY_COND_EVENTS_EN (i : Nat) : Nat := 0x140004 + 0x1000 * i
def BAY_COND_EVENTS_EN_HI (i : Nat) : Fld := ⟨BAY_COND_EVENTS_EN i, 8, 24⟩
def BAY_COND_EVENTS_EN_Q_HIGH (i : Nat) : Fld := ⟨BAY_COND_EVENTS_EN i, 0, 4⟩

/-! ### BAYCNT -/

/-- BAY_CNT_TILES (R25). -/
def BAY_CNT_TILES (i : Nat) : Nat := 0x140040 + 0x1000 * (i / 4) + 0x30 * (i % 4)
/-- BAY_CNT_STALL (R274). -/
def BAY_CNT_STALL (i : Nat) : Nat := 0x140044 + 0x1000 * (i / 4) + 0x30 * (i % 4)
/-- BAY_CNT_DEF_ORDER (R279). -/
def BAY_CNT_DEF_ORDER (i : Nat) : Nat := 0x140048 + 0x1000 * (i / 4) + 0x30 * (i % 4)
/-- BAY_CNT_RS_PASS (R287). -/
def BAY_CNT_RS_PASS (i : Nat) : Nat := 0x14004c + 0x1000 * (i / 4) + 0x30 * (i % 4)
/-- BAY_CNT_RS_TIMEOUT (R288). -/
def BAY_CNT_RS_TIMEOUT (i : Nat) : Nat := 0x140050 + 0x1000 * (i / 4) + 0x30 * (i % 4)
/-- BAY_CNT_MEM_CORR (R291). -/
def BAY_CNT_MEM_CORR (i : Nat) : Nat := 0x140054 + 0x1000 * (i / 4) + 0x30 * (i % 4)
/-- BAY_CNT_MEM_UNCORR (R291). -/
def BAY_CNT_MEM_UNCORR (i : Nat) : Nat := 0x140058 + 0x1000 * (i / 4) + 0x30 * (i % 4)
/-- BAY_CNT_SWAP (R283). -/
def BAY_CNT_SWAP (i : Nat) : Nat := 0x14005c + 0x1000 * (i / 4) + 0x30 * (i % 4)

/-! ### BAYLANE -/

/-- BAY_COND_CTRL (R275). -/
def BAY_COND_CTRL (i : Nat) : Nat := 0x140100 + 0x1000 * (i / 4) + 0x40 * (i % 4)
def BAY_COND_CTRL_RS_WAIT (i : Nat) : Fld := ⟨BAY_COND_CTRL i, 16, 16⟩
def BAY_COND_CTRL_RS_MODE (i : Nat) : Fld := ⟨BAY_COND_CTRL i, 8, 2⟩
def BAY_COND_CTRL_FF_SHIFT (i : Nat) : Fld := ⟨BAY_COND_CTRL i, 6, 2⟩
def BAY_COND_CTRL_OUT_MODE (i : Nat) : Fld := ⟨BAY_COND_CTRL i, 4, 2⟩
def BAY_COND_CTRL_LUT_PER_COMP (i : Nat) : Fld := ⟨BAY_COND_CTRL i, 3, 1⟩
def BAY_COND_CTRL_LUT_EN (i : Nat) : Fld := ⟨BAY_COND_CTRL i, 2, 1⟩
def BAY_COND_CTRL_DEF_EN (i : Nat) : Fld := ⟨BAY_COND_CTRL i, 1, 1⟩
def BAY_COND_CTRL_FF_EN (i : Nat) : Fld := ⟨BAY_COND_CTRL i, 0, 1⟩
/-- BAY_Q_CFG (R270). -/
def BAY_Q_CFG (i : Nat) : Nat := 0x140104 + 0x1000 * (i / 4) + 0x40 * (i % 4)
def BAY_Q_CFG_CUT_THROUGH (i : Nat) : Fld := ⟨BAY_Q_CFG i, 31, 1⟩
def BAY_Q_CFG_CUT_UNITS (i : Nat) : Fld := ⟨BAY_Q_CFG i, 24, 7⟩
def BAY_Q_CFG_HYST (i : Nat) : Fld := ⟨BAY_Q_CFG i, 11, 11⟩
def BAY_Q_CFG_THRESH (i : Nat) : Fld := ⟨BAY_Q_CFG i, 0, 11⟩
/-- BAY_COND_STATUS (R269). -/
def BAY_COND_STATUS (i : Nat) : Nat := 0x140108 + 0x1000 * (i / 4) + 0x40 * (i % 4)
def BAY_COND_STATUS_PEAK (i : Nat) : Fld := ⟨BAY_COND_STATUS i, 16, 11⟩
def BAY_COND_STATUS_ABOVE (i : Nat) : Fld := ⟨BAY_COND_STATUS i, 15, 1⟩
def BAY_COND_STATUS_STALLED (i : Nat) : Fld := ⟨BAY_COND_STATUS i, 14, 1⟩
def BAY_COND_STATUS_ACTIVE_SET (i : Nat) : Fld := ⟨BAY_COND_STATUS i, 13, 1⟩
def BAY_COND_STATUS_SWAP_WAIT (i : Nat) : Fld := ⟨BAY_COND_STATUS i, 12, 1⟩
def BAY_COND_STATUS_FILL (i : Nat) : Fld := ⟨BAY_COND_STATUS i, 0, 11⟩
/-- BAY_COND_CMD (R271). -/
def BAY_COND_CMD (i : Nat) : Nat := 0x14010c + 0x1000 * (i / 4) + 0x40 * (i % 4)
def BAY_COND_CMD_PEAK_CLEAR (i : Nat) : Fld := ⟨BAY_COND_CMD i, 1, 1⟩
def BAY_COND_CMD_SWAP (i : Nat) : Fld := ⟨BAY_COND_CMD i, 0, 1⟩
/-- BAY_FF_BASE0 (R278). -/
def BAY_FF_BASE0 (i : Nat) : Nat := 0x140110 + 0x1000 * (i / 4) + 0x40 * (i % 4)
def BAY_FF_BASE0_BASE (i : Nat) : Fld := ⟨BAY_FF_BASE0 i, 6, 15⟩
/-- BAY_FF_BASE1 (R278). -/
def BAY_FF_BASE1 (i : Nat) : Nat := 0x140114 + 0x1000 * (i / 4) + 0x40 * (i % 4)
def BAY_FF_BASE1_BASE (i : Nat) : Fld := ⟨BAY_FF_BASE1 i, 6, 15⟩
/-- BAY_DEF_BASE0 (R279). -/
def BAY_DEF_BASE0 (i : Nat) : Nat := 0x140118 + 0x1000 * (i / 4) + 0x40 * (i % 4)
def BAY_DEF_BASE0_BASE (i : Nat) : Fld := ⟨BAY_DEF_BASE0 i, 6, 15⟩
/-- BAY_DEF_BASE1 (R279). -/
def BAY_DEF_BASE1 (i : Nat) : Nat := 0x14011c + 0x1000 * (i / 4) + 0x40 * (i % 4)
def BAY_DEF_BASE1_BASE (i : Nat) : Fld := ⟨BAY_DEF_BASE1 i, 6, 15⟩
/-- BAY_LUT_BASE0 (R281). -/
def BAY_LUT_BASE0 (i : Nat) : Nat := 0x140120 + 0x1000 * (i / 4) + 0x40 * (i % 4)
def BAY_LUT_BASE0_BASE (i : Nat) : Fld := ⟨BAY_LUT_BASE0 i, 6, 15⟩
/-- BAY_LUT_BASE1 (R281). -/
def BAY_LUT_BASE1 (i : Nat) : Nat := 0x140124 + 0x1000 * (i / 4) + 0x40 * (i % 4)
def BAY_LUT_BASE1_BASE (i : Nat) : Fld := ⟨BAY_LUT_BASE1 i, 6, 15⟩
/-- BAY_HIST_BASE (R284). -/
def BAY_HIST_BASE (i : Nat) : Nat := 0x140128 + 0x1000 * (i / 4) + 0x40 * (i % 4)
def BAY_HIST_BASE_BASE (i : Nat) : Fld := ⟨BAY_HIST_BASE i, 6, 15⟩
/-- BAY_RING_BASE (R274). -/
def BAY_RING_BASE (i : Nat) : Nat := 0x14012c + 0x1000 * (i / 4) + 0x40 * (i % 4)
def BAY_RING_BASE_BASE (i : Nat) : Fld := ⟨BAY_RING_BASE i, 6, 15⟩
/-- BAY_RING_SIZE (R274). -/
def BAY_RING_SIZE (i : Nat) : Nat := 0x140130 + 0x1000 * (i / 4) + 0x40 * (i % 4)
def BAY_RING_SIZE_SIZE (i : Nat) : Fld := ⟨BAY_RING_SIZE i, 0, 22⟩
/-- BAY_COND_POST (R280). -/
def BAY_COND_POST (i : Nat) : Nat := 0x140134 + 0x1000 * (i / 4) + 0x40 * (i % 4)
def BAY_COND_POST_DEF_CONST (i : Nat) : Fld := ⟨BAY_COND_POST i, 16, 16⟩
def BAY_COND_POST_POST (i : Nat) : Fld := ⟨BAY_COND_POST i, 0, 16⟩

/-! ### BAYRS -/

/-- BAY_RS_KERNEL (R286). -/
def BAY_RS_KERNEL (i j : Nat) : Nat := 0x140200 + 0x1000 * i + 0x4 * j

/-! ### ENG -/

/-- ENG_CTRL (R339). -/
def ENG_CTRL (i : Nat) : Nat := 0x140400 + 0x1000 * (i / 8) + 0x100 * (i % 8)
def ENG_CTRL_FAULT_LIMIT (i : Nat) : Fld := ⟨ENG_CTRL i, 8, 8⟩
def ENG_CTRL_ENABLE (i : Nat) : Fld := ⟨ENG_CTRL i, 0, 1⟩
/-- ENG_STATUS (R328). -/
def ENG_STATUS (i : Nat) : Nat := 0x140404 + 0x1000 * (i / 8) + 0x100 * (i % 8)
def ENG_STATUS_OPEN_OUT (i : Nat) : Fld := ⟨ENG_STATUS i, 24, 4⟩
def ENG_STATUS_KEPT (i : Nat) : Fld := ⟨ENG_STATUS i, 16, 4⟩
def ENG_STATUS_QUEUED (i : Nat) : Fld := ⟨ENG_STATUS i, 8, 8⟩
def ENG_STATUS_KERNEL_OK (i : Nat) : Fld := ⟨ENG_STATUS i, 7, 1⟩
def ENG_STATUS_INPUT (i : Nat) : Fld := ⟨ENG_STATUS i, 4, 3⟩
def ENG_STATUS_STATE (i : Nat) : Fld := ⟨ENG_STATUS i, 0, 3⟩
/-- ENG_CMD (R339). -/
def ENG_CMD (i : Nat) : Nat := 0x140408 + 0x1000 * (i / 8) + 0x100 * (i % 8)
def ENG_CMD_RESTART (i : Nat) : Fld := ⟨ENG_CMD i, 1, 1⟩
def ENG_CMD_ABORT (i : Nat) : Fld := ⟨ENG_CMD i, 0, 1⟩
/-- ENG_EVENTS (R337). -/
def ENG_EVENTS (i : Nat) : Nat := 0x14040c + 0x1000 * (i / 8) + 0x100 * (i % 8)
def ENG_EVENTS_KERNEL_FAIL (i : Nat) : Fld := ⟨ENG_EVENTS i, 5, 1⟩
def ENG_EVENTS_QUARANTINE (i : Nat) : Fld := ⟨ENG_EVENTS i, 4, 1⟩
def ENG_EVENTS_MEM_CORR (i : Nat) : Fld := ⟨ENG_EVENTS i, 3, 1⟩
def ENG_EVENTS_LOST (i : Nat) : Fld := ⟨ENG_EVENTS i, 2, 1⟩
def ENG_EVENTS_BUDGET (i : Nat) : Fld := ⟨ENG_EVENTS i, 1, 1⟩
def ENG_EVENTS_FAULT (i : Nat) : Fld := ⟨ENG_EVENTS i, 0, 1⟩
/-- ENG_EVENTS_EN (R337). -/
def ENG_EVENTS_EN (i : Nat) : Nat := 0x140410 + 0x1000 * (i / 8) + 0x100 * (i % 8)
def ENG_EVENTS_EN_EN (i : Nat) : Fld := ⟨ENG_EVENTS_EN i, 0, 6⟩
/-- ENG_OUT_BASE (R331). -/
def ENG_OUT_BASE (i : Nat) : Nat := 0x140414 + 0x1000 * (i / 8) + 0x100 * (i % 8)
def ENG_OUT_BASE_BASE (i : Nat) : Fld := ⟨ENG_OUT_BASE i, 6, 15⟩
/-- ENG_OUT_SLOTS (R331). -/
def ENG_OUT_SLOTS (i : Nat) : Nat := 0x140418 + 0x1000 * (i / 8) + 0x100 * (i % 8)
def ENG_OUT_SLOTS_SLOTS (i : Nat) : Fld := ⟨ENG_OUT_SLOTS i, 16, 4⟩
def ENG_OUT_SLOTS_SLOT_BYTES (i : Nat) : Fld := ⟨ENG_OUT_SLOTS i, 0, 15⟩
/-- ENG_KERNEL_ID (R342). -/
def ENG_KERNEL_ID (i : Nat) : Nat := 0x14041c + 0x1000 * (i / 8) + 0x100 * (i % 8)
/-- ENG_IN_CFG (R323). -/
def ENG_IN_CFG (i k : Nat) : Nat := 0x140420 + 0x1000 * (i / 8) + 0x100 * (i % 8) + 0x4 * k
def ENG_IN_CFG_KIND (i k : Nat) : Fld := ⟨ENG_IN_CFG i k, 30, 2⟩
def ENG_IN_CFG_LANE (i k : Nat) : Fld := ⟨ENG_IN_CFG i k, 14, 2⟩
def ENG_IN_CFG_ENTRY (i k : Nat) : Fld := ⟨ENG_IN_CFG i k, 0, 13⟩
/-- ENG_IN_SRC (R323). -/
def ENG_IN_SRC (i k : Nat) : Nat := 0x140440 + 0x1000 * (i / 8) + 0x100 * (i % 8) + 0x4 * k
def ENG_IN_SRC_POST (i k : Nat) : Fld := ⟨ENG_IN_SRC i k, 24, 1⟩
def ENG_IN_SRC_DMA (i k : Nat) : Fld := ⟨ENG_IN_SRC i k, 16, 8⟩
def ENG_IN_SRC_LINES (i k : Nat) : Fld := ⟨ENG_IN_SRC i k, 0, 16⟩
/-- ENG_IN_BUDGET (R328). -/
def ENG_IN_BUDGET (i k : Nat) : Nat := 0x140460 + 0x1000 * (i / 8) + 0x100 * (i % 8) + 0x4 * k
def ENG_IN_BUDGET_BUDGET (i k : Nat) : Fld := ⟨ENG_IN_BUDGET i k, 0, 24⟩
/-- ENG_WIN (R317). -/
def ENG_WIN (i k : Nat) : Nat := 0x140480 + 0x1000 * (i / 8) + 0x100 * (i % 8) + 0x4 * k
/-- ENG_FAULT_STATUS (R337). -/
def ENG_FAULT_STATUS (i : Nat) : Nat := 0x1404a0 + 0x1000 * (i / 8) + 0x100 * (i % 8)
/-- ENG_FAULT_CAPCOUNT (R337). -/
def ENG_FAULT_CAPCOUNT (i : Nat) : Nat := 0x1404a4 + 0x1000 * (i / 8) + 0x100 * (i % 8)
/-- ENG_FAULT_INFO (R337). -/
def ENG_FAULT_INFO (i : Nat) : Nat := 0x1404a8 + 0x1000 * (i / 8) + 0x100 * (i % 8)
def ENG_FAULT_INFO_INDEX (i : Nat) : Fld := ⟨ENG_FAULT_INFO i, 16, 13⟩
def ENG_FAULT_INFO_INPUT (i : Nat) : Fld := ⟨ENG_FAULT_INFO i, 8, 3⟩
def ENG_FAULT_INFO_CODE (i : Nat) : Fld := ⟨ENG_FAULT_INFO i, 0, 8⟩
/-- ENG_FAULT_ADDR (R337). -/
def ENG_FAULT_ADDR (i : Nat) : Nat := 0x1404ac + 0x1000 * (i / 8) + 0x100 * (i % 8)
/-- ENG_FAULT_CYCLE (R337). -/
def ENG_FAULT_CYCLE (i : Nat) : Nat := 0x1404b0 + 0x1000 * (i / 8) + 0x100 * (i % 8)
/-- ENG_CNT_ACT (R328). -/
def ENG_CNT_ACT (i : Nat) : Nat := 0x1404c0 + 0x1000 * (i / 8) + 0x100 * (i % 8)
/-- ENG_CNT_FAULT (R337). -/
def ENG_CNT_FAULT (i : Nat) : Nat := 0x1404c4 + 0x1000 * (i / 8) + 0x100 * (i % 8)
/-- ENG_CNT_BUSY (R328). -/
def ENG_CNT_BUSY (i : Nat) : Nat := 0x1404c8 + 0x1000 * (i / 8) + 0x100 * (i % 8)
/-- ENG_CNT_BUDGET (R328). -/
def ENG_CNT_BUDGET (i : Nat) : Nat := 0x1404d0 + 0x1000 * (i / 8) + 0x100 * (i % 8)
/-- ENG_CNT_LOST (R325). -/
def ENG_CNT_LOST (i : Nat) : Nat := 0x1404d4 + 0x1000 * (i / 8) + 0x100 * (i % 8)
/-- ENG_CNT_COINC (R325). -/
def ENG_CNT_COINC (i : Nat) : Nat := 0x1404d8 + 0x1000 * (i / 8) + 0x100 * (i % 8)
/-- ENG_CNT_SKIPPED (R339). -/
def ENG_CNT_SKIPPED (i : Nat) : Nat := 0x1404dc + 0x1000 * (i / 8) + 0x100 * (i % 8)
/-- ENG_CNT_EMIT (R331). -/
def ENG_CNT_EMIT (i : Nat) : Nat := 0x1404e0 + 0x1000 * (i / 8) + 0x100 * (i % 8)
/-- ENG_CNT_MEM_CORR (R338). -/
def ENG_CNT_MEM_CORR (i : Nat) : Nat := 0x1404e4 + 0x1000 * (i / 8) + 0x100 * (i % 8)
/-- ENG_CNT_LOOP (R336). -/
def ENG_CNT_LOOP (i : Nat) : Nat := 0x1404e8 + 0x1000 * (i / 8) + 0x100 * (i % 8)
/-- ENG_KERNEL_ID_HI (R342). -/
def ENG_KERNEL_ID_HI (i : Nat) : Nat := 0x1404f8 + 0x1000 * (i / 8) + 0x100 * (i % 8)

/-! ### BAYDMA -/

/-- BAY_DMA_CFG (R329). -/
def BAY_DMA_CFG (i j : Nat) : Nat := 0x140c00 + 0x1000 * i + 0x20 * j
def BAY_DMA_CFG_LEN (i j : Nat) : Fld := ⟨BAY_DMA_CFG i j, 16, 12⟩
def BAY_DMA_CFG_OWNER (i j : Nat) : Fld := ⟨BAY_DMA_CFG i j, 4, 3⟩
def BAY_DMA_CFG_EN (i j : Nat) : Fld := ⟨BAY_DMA_CFG i j, 0, 1⟩
/-- BAY_DMA_BASE (R329). -/
def BAY_DMA_BASE (i j : Nat) : Nat := 0x140c04 + 0x1000 * i + 0x20 * j
def BAY_DMA_BASE_BASE (i j : Nat) : Fld := ⟨BAY_DMA_BASE i j, 5, 16⟩
/-- BAY_DMA_STATUS (R329). -/
def BAY_DMA_STATUS (i j : Nat) : Nat := 0x140c08 + 0x1000 * i + 0x20 * j
def BAY_DMA_STATUS_STATE (i j : Nat) : Fld := ⟨BAY_DMA_STATUS i j, 28, 3⟩
def BAY_DMA_STATUS_HEAD (i j : Nat) : Fld := ⟨BAY_DMA_STATUS i j, 0, 12⟩
/-- BAY_DMA_CNT_DONE (R329). -/
def BAY_DMA_CNT_DONE (i j : Nat) : Nat := 0x140c0c + 0x1000 * i + 0x20 * j
/-- BAY_DMA_CNT_ERR (R329). -/
def BAY_DMA_CNT_ERR (i j : Nat) : Nat := 0x140c10 + 0x1000 * i + 0x20 * j

/-! ### BAYWIN -/

/-- BAY_DDR_WIN_BASE (R330). -/
def BAY_DDR_WIN_BASE (i j : Nat) : Nat := 0x140d00 + 0x1000 * i + 0x10 * j
/-- BAY_DDR_WIN_SIZE (R330). -/
def BAY_DDR_WIN_SIZE (i j : Nat) : Nat := 0x140d08 + 0x1000 * i + 0x10 * j

/-! ### BAYGANG -/

/-- BAY_ENG_GANG (R326). -/
def BAY_ENG_GANG (i j : Nat) : Nat := 0x140d40 + 0x1000 * i + 0x4 * j
def BAY_ENG_GANG_MODE (i j : Nat) : Fld := ⟨BAY_ENG_GANG i j, 12, 1⟩
def BAY_ENG_GANG_INPUT (i j : Nat) : Fld := ⟨BAY_ENG_GANG i j, 8, 3⟩
def BAY_ENG_GANG_ENGINES (i j : Nat) : Fld := ⟨BAY_ENG_GANG i j, 0, 8⟩
/-- BAY_PUSH_ALLOW (R335). -/
def BAY_PUSH_ALLOW (i j : Nat) : Nat := 0x140d50 + 0x1000 * i + 0x4 * j

/-! ### STITCH -/

/-- STITCH_CTRL (R295). -/
def STITCH_CTRL (i : Nat) : Nat := 0x180000 + 0x800 * i
def STITCH_CTRL_SEGMENTS (i : Nat) : Fld := ⟨STITCH_CTRL i, 16, 7⟩
def STITCH_CTRL_COMP (i : Nat) : Fld := ⟨STITCH_CTRL i, 5, 1⟩
def STITCH_CTRL_WIDE (i : Nat) : Fld := ⟨STITCH_CTRL i, 4, 1⟩
def STITCH_CTRL_EN (i : Nat) : Fld := ⟨STITCH_CTRL i, 0, 1⟩
/-- STITCH_PIXELS (R295). -/
def STITCH_PIXELS (i : Nat) : Nat := 0x180004 + 0x800 * i
def STITCH_PIXELS_BENT_PIXELS (i : Nat) : Fld := ⟨STITCH_PIXELS i, 0, 19⟩
/-- STITCH_TIMING (R300). -/
def STITCH_TIMING (i : Nat) : Nat := 0x180008 + 0x800 * i
def STITCH_TIMING_BENT_WAIT (i : Nat) : Fld := ⟨STITCH_TIMING i, 0, 16⟩
/-- STITCH_FILL (R303). -/
def STITCH_FILL (i : Nat) : Nat := 0x18000c + 0x800 * i
def STITCH_FILL_REF_SEG (i : Nat) : Fld := ⟨STITCH_FILL i, 16, 7⟩
def STITCH_FILL_FILL (i : Nat) : Fld := ⟨STITCH_FILL i, 0, 16⟩
/-- STITCH_STATUS (R300). -/
def STITCH_STATUS (i : Nat) : Nat := 0x180010 + 0x800 * i
def STITCH_STATUS_SLOTS (i : Nat) : Fld := ⟨STITCH_STATUS i, 28, 4⟩
def STITCH_STATUS_OPEN (i : Nat) : Fld := ⟨STITCH_STATUS i, 24, 4⟩
def STITCH_STATUS_RUNNING (i : Nat) : Fld := ⟨STITCH_STATUS i, 0, 1⟩
/-- STITCH_EVENTS (R300). -/
def STITCH_EVENTS (i : Nat) : Nat := 0x180014 + 0x800 * i
def STITCH_EVENTS_MEM_UNCORR (i : Nat) : Fld := ⟨STITCH_EVENTS i, 4, 1⟩
def STITCH_EVENTS_STRAGGLER (i : Nat) : Fld := ⟨STITCH_EVENTS i, 3, 1⟩
def STITCH_EVENTS_FORCED (i : Nat) : Fld := ⟨STITCH_EVENTS i, 2, 1⟩
def STITCH_EVENTS_TIMEOUT (i : Nat) : Fld := ⟨STITCH_EVENTS i, 1, 1⟩
def STITCH_EVENTS_PARTIAL (i : Nat) : Fld := ⟨STITCH_EVENTS i, 0, 1⟩
/-- STITCH_EVENTS_EN (R300). -/
def STITCH_EVENTS_EN (i : Nat) : Nat := 0x180018 + 0x800 * i
def STITCH_EVENTS_EN_EN (i : Nat) : Fld := ⟨STITCH_EVENTS_EN i, 0, 5⟩
/-- STITCH_CLOSED_HIGH (R300). -/
def STITCH_CLOSED_HIGH (i : Nat) : Nat := 0x180020 + 0x800 * i
/-- STITCH_LAST_STATUS (R302). -/
def STITCH_LAST_STATUS (i : Nat) : Nat := 0x180040 + 0x800 * i
/-- STITCH_LAST_CAPCOUNT (R302). -/
def STITCH_LAST_CAPCOUNT (i : Nat) : Nat := 0x180044 + 0x800 * i
/-- STITCH_LAST_LINE (R302). -/
def STITCH_LAST_LINE (i : Nat) : Nat := 0x180048 + 0x800 * i
/-- STITCH_LAST_MAP (R302). -/
def STITCH_LAST_MAP (i j : Nat) : Nat := 0x180050 + 0x800 * i + 0x4 * j
/-- STITCH_LAST_FLAGS (R302). -/
def STITCH_LAST_FLAGS (i : Nat) : Nat := 0x18005c + 0x800 * i
/-- STITCH_CNT_BENTS (R302). -/
def STITCH_CNT_BENTS (i : Nat) : Nat := 0x180080 + 0x800 * i
/-- STITCH_CNT_PARTIAL (R302). -/
def STITCH_CNT_PARTIAL (i : Nat) : Nat := 0x180084 + 0x800 * i
/-- STITCH_CNT_SEG_MISSING (R302). -/
def STITCH_CNT_SEG_MISSING (i : Nat) : Nat := 0x180088 + 0x800 * i
/-- STITCH_CNT_TIMEOUT (R302). -/
def STITCH_CNT_TIMEOUT (i : Nat) : Nat := 0x18008c + 0x800 * i
/-- STITCH_CNT_FORCED (R302). -/
def STITCH_CNT_FORCED (i : Nat) : Nat := 0x180090 + 0x800 * i
/-- STITCH_CNT_STRAGGLER (R305). -/
def STITCH_CNT_STRAGGLER (i : Nat) : Nat := 0x180094 + 0x800 * i
/-- STITCH_CNT_MEM_CORR (R304). -/
def STITCH_CNT_MEM_CORR (i : Nat) : Nat := 0x180098 + 0x800 * i
/-- STITCH_CNT_MEM_UNCORR (R304). -/
def STITCH_CNT_MEM_UNCORR (i : Nat) : Nat := 0x18009c + 0x800 * i

/-! ### STSEG -/

/-- STITCH_SEG_W0 (R296). -/
def STITCH_SEG_W0 (i j : Nat) : Nat := 0x180200 + 0x800 * i + 0x10 * j
def STITCH_SEG_W0_LANE (i j : Nat) : Fld := ⟨STITCH_SEG_W0 i j, 24, 7⟩
def STITCH_SEG_W0_U_FIRST (i j : Nat) : Fld := ⟨STITCH_SEG_W0 i j, 0, 18⟩
/-- STITCH_SEG_W1 (R296). -/
def STITCH_SEG_W1 (i j : Nat) : Nat := 0x180204 + 0x800 * i + 0x10 * j
def STITCH_SEG_W1_RAMP_LEN (i j : Nat) : Fld := ⟨STITCH_SEG_W1 i j, 18, 12⟩
def STITCH_SEG_W1_U_LAST (i j : Nat) : Fld := ⟨STITCH_SEG_W1 i j, 0, 18⟩
/-- STITCH_SEG_W2 (R296). -/
def STITCH_SEG_W2 (i j : Nat) : Nat := 0x180208 + 0x800 * i + 0x10 * j
def STITCH_SEG_W2_OFFSET (i j : Nat) : Fld := ⟨STITCH_SEG_W2 i j, 0, 25⟩
/-- STITCH_SEG_W3 (R296). -/
def STITCH_SEG_W3 (i j : Nat) : Nat := 0x18020c + 0x800 * i + 0x10 * j
def STITCH_SEG_W3_SCALE (i j : Nat) : Fld := ⟨STITCH_SEG_W3 i j, 16, 16⟩
def STITCH_SEG_W3_SRC_START (i j : Nat) : Fld := ⟨STITCH_SEG_W3 i j, 0, 15⟩

/-! ### KERF -/

/-- KERF_CFG (R307). -/
def KERF_CFG (i : Nat) : Nat := 0x188000 + 0x40 * i
def KERF_CFG_DELAY_LINES (i : Nat) : Fld := ⟨KERF_CFG i, 16, 14⟩
def KERF_CFG_DEPTH (i : Nat) : Fld := ⟨KERF_CFG i, 0, 15⟩
/-- KERF_BASE (R307). -/
def KERF_BASE (i : Nat) : Nat := 0x188008 + 0x40 * i
/-- KERF_SLOT (R307). -/
def KERF_SLOT (i : Nat) : Nat := 0x188010 + 0x40 * i
def KERF_SLOT_SLOT_BYTES (i : Nat) : Fld := ⟨KERF_SLOT i, 0, 21⟩
/-- KERF_MAX_US (R307). -/
def KERF_MAX_US (i : Nat) : Nat := 0x188014 + 0x40 * i
def KERF_MAX_US_US (i : Nat) : Fld := ⟨KERF_MAX_US i, 0, 24⟩
/-- KERF_MIN_RATE (R310). -/
def KERF_MIN_RATE (i : Nat) : Nat := 0x188018 + 0x40 * i
def KERF_MIN_RATE_RATE (i : Nat) : Fld := ⟨KERF_MIN_RATE i, 0, 24⟩
/-- KERF_STATUS (R307). -/
def KERF_STATUS (i : Nat) : Nat := 0x18801c + 0x40 * i
def KERF_STATUS_HELD (i : Nat) : Fld := ⟨KERF_STATUS i, 0, 15⟩
/-- KERF_CNT_EARLY (R307). -/
def KERF_CNT_EARLY (i : Nat) : Nat := 0x188020 + 0x40 * i
/-- KERF_CNT_FLUSH (R308). -/
def KERF_CNT_FLUSH (i : Nat) : Nat := 0x188024 + 0x40 * i
/-- KERF_CNT_FULL (R309). -/
def KERF_CNT_FULL (i : Nat) : Nat := 0x188028 + 0x40 * i

/-! ### DDR -/

/-- DDR_CFG (R346). -/
def DDR_CFG (i : Nat) : Nat := 0x1c0000 + 0x1000 * i
def DDR_CFG_FAST_REFRESH (i : Nat) : Fld := ⟨DDR_CFG i, 15, 1⟩
def DDR_CFG_TYPE (i : Nat) : Fld := ⟨DDR_CFG i, 14, 1⟩
def DDR_CFG_DENSITY (i : Nat) : Fld := ⟨DDR_CFG i, 13, 1⟩
def DDR_CFG_RANKS (i : Nat) : Fld := ⟨DDR_CFG i, 12, 1⟩
def DDR_CFG_MIN_RATE (i : Nat) : Fld := ⟨DDR_CFG i, 8, 3⟩
def DDR_CFG_RATE (i : Nat) : Fld := ⟨DDR_CFG i, 4, 3⟩
def DDR_CFG_ENABLE (i : Nat) : Fld := ⟨DDR_CFG i, 0, 1⟩
/-- DDR_STATUS (R348). -/
def DDR_STATUS (i : Nat) : Nat := 0x1c0004 + 0x1000 * i
def DDR_STATUS_CAUSE (i : Nat) : Fld := ⟨DDR_STATUS i, 28, 4⟩
def DDR_STATUS_PLL_LOCK (i : Nat) : Fld := ⟨DDR_STATUS i, 10, 1⟩
def DDR_STATUS_ERASE1 (i : Nat) : Fld := ⟨DDR_STATUS i, 9, 1⟩
def DDR_STATUS_ERASE0 (i : Nat) : Fld := ⟨DDR_STATUS i, 8, 1⟩
def DDR_STATUS_TRAINED_RATE (i : Nat) : Fld := ⟨DDR_STATUS i, 4, 3⟩
def DDR_STATUS_STATE (i : Nat) : Fld := ⟨DDR_STATUS i, 0, 2⟩
/-- DDR_CTRL (R358). -/
def DDR_CTRL (i : Nat) : Nat := 0x1c0008 + 0x1000 * i
def DDR_CTRL_RETIRE (i : Nat) : Fld := ⟨DDR_CTRL i, 0, 1⟩
/-- DDR_ERASE (R356). -/
def DDR_ERASE (i : Nat) : Nat := 0x1c000c + 0x1000 * i
def DDR_ERASE_EN1 (i : Nat) : Fld := ⟨DDR_ERASE i, 15, 1⟩
def DDR_ERASE_POS1 (i : Nat) : Fld := ⟨DDR_ERASE i, 8, 5⟩
def DDR_ERASE_EN0 (i : Nat) : Fld := ⟨DDR_ERASE i, 7, 1⟩
def DDR_ERASE_POS0 (i : Nat) : Fld := ⟨DDR_ERASE i, 0, 5⟩
/-- DDR_POLICY (R356). -/
def DDR_POLICY (i : Nat) : Nat := 0x1c0010 + 0x1000 * i
def DDR_POLICY_AUTO_ERASE (i : Nat) : Fld := ⟨DDR_POLICY i, 31, 1⟩
def DDR_POLICY_UNCORR_LIMIT (i : Nat) : Fld := ⟨DDR_POLICY i, 16, 8⟩
def DDR_POLICY_ERASE_THRESH (i : Nat) : Fld := ⟨DDR_POLICY i, 0, 16⟩
/-- DDR_SCRUB (R357). -/
def DDR_SCRUB (i : Nat) : Nat := 0x1c0014 + 0x1000 * i
def DDR_SCRUB_EN (i : Nat) : Fld := ⟨DDR_SCRUB i, 31, 1⟩
def DDR_SCRUB_INTERVAL (i : Nat) : Fld := ⟨DDR_SCRUB i, 0, 16⟩
/-- DDR_EVENTS (R354). -/
def DDR_EVENTS (i : Nat) : Nat := 0x1c0018 + 0x1000 * i
def DDR_EVENTS_FALLBACK (i : Nat) : Fld := ⟨DDR_EVENTS i, 6, 1⟩
def DDR_EVENTS_ALERT (i : Nat) : Fld := ⟨DDR_EVENTS i, 5, 1⟩
def DDR_EVENTS_RETIRED (i : Nat) : Fld := ⟨DDR_EVENTS i, 4, 1⟩
def DDR_EVENTS_ERASE_ON (i : Nat) : Fld := ⟨DDR_EVENTS i, 3, 1⟩
def DDR_EVENTS_SCRUB_UNCORR (i : Nat) : Fld := ⟨DDR_EVENTS i, 2, 1⟩
def DDR_EVENTS_UNCORR (i : Nat) : Fld := ⟨DDR_EVENTS i, 1, 1⟩
def DDR_EVENTS_CORR (i : Nat) : Fld := ⟨DDR_EVENTS i, 0, 1⟩
/-- DDR_EVENTS_EN (R354). -/
def DDR_EVENTS_EN (i : Nat) : Nat := 0x1c001c + 0x1000 * i
def DDR_EVENTS_EN_EN (i : Nat) : Fld := ⟨DDR_EVENTS_EN i, 0, 7⟩
/-- DDR_SCRUB_NEXT (R357). -/
def DDR_SCRUB_NEXT (i : Nat) : Nat := 0x1c0020 + 0x1000 * i
/-- DDR_ERR_STATUS (R354). -/
def DDR_ERR_STATUS (i : Nat) : Nat := 0x1c0040 + 0x1000 * i
/-- DDR_ERR_CAPCOUNT (R354). -/
def DDR_ERR_CAPCOUNT (i : Nat) : Nat := 0x1c0044 + 0x1000 * i
/-- DDR_ERR_ADDR (R354). -/
def DDR_ERR_ADDR (i : Nat) : Nat := 0x1c0048 + 0x1000 * i
/-- DDR_ERR_INFO (R354). -/
def DDR_ERR_INFO (i : Nat) : Nat := 0x1c0050 + 0x1000 * i
/-- DDR_ERR_TIME (R354). -/
def DDR_ERR_TIME (i : Nat) : Nat := 0x1c0060 + 0x1000 * i
/-- DDR_ARB_CFG (R362). -/
def DDR_ARB_CFG (i : Nat) : Nat := 0x1c0080 + 0x1000 * i
def DDR_ARB_CFG_N (i : Nat) : Fld := ⟨DDR_ARB_CFG i, 0, 6⟩
/-- DDR_ARB_PRIV (R364). -/
def DDR_ARB_PRIV (i : Nat) : Nat := 0x1c0084 + 0x1000 * i
def DDR_ARB_PRIV_PRIV (i : Nat) : Fld := ⟨DDR_ARB_PRIV i, 0, 28⟩
/-- DDR_ARB_RANK (R362). -/
def DDR_ARB_RANK (i j : Nat) : Nat := 0x1c0090 + 0x1000 * i + 0x4 * j
def DDR_ARB_RANK_R (i j : Nat) : Fld := ⟨DDR_ARB_RANK i j, 0, 32⟩
/-- DDR_ARB_HOLD (R362). -/
def DDR_ARB_HOLD (i : Nat) : Nat := 0x1c00a0 + 0x1000 * i
def DDR_ARB_HOLD_NEXT_NTH (i : Nat) : Fld := ⟨DDR_ARB_HOLD i, 8, 6⟩
def DDR_ARB_HOLD_HOLDER (i : Nat) : Fld := ⟨DDR_ARB_HOLD i, 0, 5⟩
/-- DDR_CNT_CORR (R354). -/
def DDR_CNT_CORR (i : Nat) : Nat := 0x1c00c0 + 0x1000 * i
/-- DDR_CNT_UNCORR (R355). -/
def DDR_CNT_UNCORR (i : Nat) : Nat := 0x1c00c4 + 0x1000 * i
/-- DDR_CNT_ERASED (R356). -/
def DDR_CNT_ERASED (i : Nat) : Nat := 0x1c00c8 + 0x1000 * i
/-- DDR_CNT_SCRUB_PASS (R357). -/
def DDR_CNT_SCRUB_PASS (i : Nat) : Nat := 0x1c00cc + 0x1000 * i
/-- DDR_CNT_ALERT (R350). -/
def DDR_CNT_ALERT (i : Nat) : Nat := 0x1c00d0 + 0x1000 * i
/-- DDR_CNT_PREEMPT (R362). -/
def DDR_CNT_PREEMPT (i : Nat) : Nat := 0x1c00d4 + 0x1000 * i
/-- DDR_CNT_NTH (R362). -/
def DDR_CNT_NTH (i : Nat) : Nat := 0x1c00d8 + 0x1000 * i
/-- DDR_CNT_RMW_DROP (R355). -/
def DDR_CNT_RMW_DROP (i : Nat) : Nat := 0x1c00dc + 0x1000 * i
/-- DDR_CNT_SCRUB_DROP (R357). -/
def DDR_CNT_SCRUB_DROP (i : Nat) : Nat := 0x1c00e0 + 0x1000 * i
/-- DDR_CNT_POS (R356). -/
def DDR_CNT_POS (i j : Nat) : Nat := 0x1c0100 + 0x1000 * i + 0x4 * j
/-- DDR_CNT_LOSS (R363). -/
def DDR_CNT_LOSS (i j : Nat) : Nat := 0x1c0200 + 0x1000 * i + 0x4 * j
/-- DDR_RECALL_SEG_BASE (R360). -/
def DDR_RECALL_SEG_BASE (i : Nat) : Nat := 0x1c0300 + 0x1000 * i
/-- DDR_RECALL_SEG_SIZE (R360). -/
def DDR_RECALL_SEG_SIZE (i : Nat) : Nat := 0x1c0308 + 0x1000 * i

/-! ### DLV -/

/-- DLV_CFG (R369). -/
def DLV_CFG (i : Nat) : Nat := 0x200000 + 0x100 * i
def DLV_CFG_SOURCE (i : Nat) : Fld := ⟨DLV_CFG i, 24, 8⟩
def DLV_CFG_SHARE_A (i : Nat) : Fld := ⟨DLV_CFG i, 16, 8⟩
def DLV_CFG_REDEAL (i : Nat) : Fld := ⟨DLV_CFG i, 9, 1⟩
def DLV_CFG_RECALL (i : Nat) : Fld := ⟨DLV_CFG i, 8, 1⟩
def DLV_CFG_PORT (i : Nat) : Fld := ⟨DLV_CFG i, 4, 2⟩
def DLV_CFG_KIND (i : Nat) : Fld := ⟨DLV_CFG i, 0, 3⟩
/-- DLV_PROMISE (R388). -/
def DLV_PROMISE (i : Nat) : Nat := 0x200004 + 0x100 * i
/-- DLV_RESERVED (R381). -/
def DLV_RESERVED (i : Nat) : Nat := 0x200008 + 0x100 * i
def DLV_RESERVED_N (i : Nat) : Fld := ⟨DLV_RESERVED i, 0, 18⟩
/-- DLV_STATUS (R395). -/
def DLV_STATUS (i : Nat) : Nat := 0x20000c + 0x100 * i
def DLV_STATUS_OVER_CEILING (i : Nat) : Fld := ⟨DLV_STATUS i, 7, 1⟩
def DLV_STATUS_PROMISED (i : Nat) : Fld := ⟨DLV_STATUS i, 6, 1⟩
def DLV_STATUS_STARVED_B (i : Nat) : Fld := ⟨DLV_STATUS i, 5, 1⟩
def DLV_STATUS_STARVED_A (i : Nat) : Fld := ⟨DLV_STATUS i, 4, 1⟩
def DLV_STATUS_WAITING (i : Nat) : Fld := ⟨DLV_STATUS i, 3, 1⟩
def DLV_STATUS_ACTIVE_B (i : Nat) : Fld := ⟨DLV_STATUS i, 2, 1⟩
def DLV_STATUS_ACTIVE_A (i : Nat) : Fld := ⟨DLV_STATUS i, 1, 1⟩
def DLV_STATUS_ADMITTED (i : Nat) : Fld := ⟨DLV_STATUS i, 0, 1⟩
/-- DLV_EVENTS (R394). -/
def DLV_EVENTS (i : Nat) : Nat := 0x200010 + 0x100 * i
def DLV_EVENTS_OVERRATE (i : Nat) : Fld := ⟨DLV_EVENTS i, 5, 1⟩
def DLV_EVENTS_STARVED (i : Nat) : Fld := ⟨DLV_EVENTS i, 4, 1⟩
def DLV_EVENTS_WAITING (i : Nat) : Fld := ⟨DLV_EVENTS i, 3, 1⟩
def DLV_EVENTS_LOSS (i : Nat) : Fld := ⟨DLV_EVENTS i, 2, 1⟩
def DLV_EVENTS_BADDESC (i : Nat) : Fld := ⟨DLV_EVENTS i, 1, 1⟩
def DLV_EVENTS_BREACH (i : Nat) : Fld := ⟨DLV_EVENTS i, 0, 1⟩
/-- DLV_EVENTS_EN (R394). -/
def DLV_EVENTS_EN (i : Nat) : Nat := 0x200014 + 0x100 * i
def DLV_EVENTS_EN_EN (i : Nat) : Fld := ⟨DLV_EVENTS_EN i, 0, 6⟩
/-- DLV_IRQ (R397). -/
def DLV_IRQ (i : Nat) : Nat := 0x200018 + 0x100 * i
def DLV_IRQ_IRQ_US (i : Nat) : Fld := ⟨DLV_IRQ i, 16, 16⟩
def DLV_IRQ_IRQ_COUNT (i : Nat) : Fld := ⟨DLV_IRQ i, 0, 11⟩
/-- DLV_CNT_TAGS (R375). -/
def DLV_CNT_TAGS (i : Nat) : Nat := 0x200020 + 0x100 * i
/-- DLV_CNT_BREACH (R394). -/
def DLV_CNT_BREACH (i : Nat) : Nat := 0x200024 + 0x100 * i
/-- DLV_CNT_UNPOSTED (R395). -/
def DLV_CNT_UNPOSTED (i : Nat) : Nat := 0x200028 + 0x100 * i
/-- DLV_CNT_LOSS (R384). -/
def DLV_CNT_LOSS (i : Nat) : Nat := 0x20002c + 0x100 * i
/-- DLV_CNT_PORTLOST (R384). -/
def DLV_CNT_PORTLOST (i : Nat) : Nat := 0x200030 + 0x100 * i
/-- DLV_CNT_BADDESC (R374). -/
def DLV_CNT_BADDESC (i : Nat) : Nat := 0x200034 + 0x100 * i
/-- DLV_CNT_OVERRATE (R396). -/
def DLV_CNT_OVERRATE (i : Nat) : Nat := 0x200038 + 0x100 * i
/-- DLV_CNT_WAIT (R395). -/
def DLV_CNT_WAIT (i : Nat) : Nat := 0x20003c + 0x100 * i

/-! ### DLVRING -/

/-- DLV_DESC_BASE (R372). -/
def DLV_DESC_BASE (i j : Nat) : Nat := 0x200080 + 0x100 * i + 0x40 * j
/-- DLV_CPL_BASE (R372). -/
def DLV_CPL_BASE (i j : Nat) : Nat := 0x200088 + 0x100 * i + 0x40 * j
/-- DLV_IDX_ADDR (R372). -/
def DLV_IDX_ADDR (i j : Nat) : Nat := 0x200090 + 0x100 * i + 0x40 * j
/-- DLV_RING_CFG (R372). -/
def DLV_RING_CFG (i j : Nat) : Nat := 0x200098 + 0x100 * i + 0x40 * j
def DLV_RING_CFG_EN (i j : Nat) : Fld := ⟨DLV_RING_CFG i j, 31, 1⟩
def DLV_RING_CFG_VECTOR (i j : Nat) : Fld := ⟨DLV_RING_CFG i j, 16, 11⟩
def DLV_RING_CFG_LOG2 (i j : Nat) : Fld := ⟨DLV_RING_CFG i j, 0, 5⟩
/-- DLV_DESC_TAIL (R373). -/
def DLV_DESC_TAIL (i j : Nat) : Nat := 0x20009c + 0x100 * i + 0x40 * j
/-- DLV_DESC_HEAD (R373). -/
def DLV_DESC_HEAD (i j : Nat) : Nat := 0x2000a0 + 0x100 * i + 0x40 * j
/-- DLV_TAGS (R373). -/
def DLV_TAGS (i j : Nat) : Nat := 0x2000a4 + 0x100 * i + 0x40 * j

/-! ### LEDGER -/

/-- DLV_LEDGER_USE (R381). -/
def DLV_LEDGER_USE : Nat := 0x210000
def DLV_LEDGER_USE_N : Fld := ⟨DLV_LEDGER_USE, 0, 18⟩
/-- DLV_LEDGER_RES (R381). -/
def DLV_LEDGER_RES : Nat := 0x210004
def DLV_LEDGER_RES_N : Fld := ⟨DLV_LEDGER_RES, 0, 18⟩
/-- DLV_LEDGER_PEAK (R381). -/
def DLV_LEDGER_PEAK : Nat := 0x210008
/-- DLV_LEDGER_STATE (R398). -/
def DLV_LEDGER_STATE (i : Nat) : Nat := 0x210010 + 0x4 * i
/-- DLV_CNT_NOENTRY (R381). -/
def DLV_CNT_NOENTRY : Nat := 0x210040
/-- DLV_RECALL_REQ (R386). -/
def DLV_RECALL_REQ : Nat := 0x210100
def DLV_RECALL_REQ_GO : Fld := ⟨DLV_RECALL_REQ, 31, 1⟩
def DLV_RECALL_REQ_BUSY : Fld := ⟨DLV_RECALL_REQ, 30, 1⟩
def DLV_RECALL_REQ_KEY : Fld := ⟨DLV_RECALL_REQ, 24, 2⟩
def DLV_RECALL_REQ_OUT : Fld := ⟨DLV_RECALL_REQ, 16, 8⟩
def DLV_RECALL_REQ_STREAM : Fld := ⟨DLV_RECALL_REQ, 8, 8⟩
/-- DLV_RECALL_MAX_LINES (R386). -/
def DLV_RECALL_MAX_LINES : Nat := 0x210104
def DLV_RECALL_MAX_LINES_N : Fld := ⟨DLV_RECALL_MAX_LINES, 0, 16⟩
/-- DLV_RECALL_FROM (R386). -/
def DLV_RECALL_FROM : Nat := 0x210108
/-- DLV_RECALL_TO (R386). -/
def DLV_RECALL_TO : Nat := 0x210110
/-- DLV_RECALL_NOT_BEFORE (R386). -/
def DLV_RECALL_NOT_BEFORE : Nat := 0x210118
/-- DLV_RECALL_RES_STATUS (R386). -/
def DLV_RECALL_RES_STATUS : Nat := 0x210120
/-- DLV_RECALL_RES_FOUND (R386). -/
def DLV_RECALL_RES_FOUND : Nat := 0x210124
/-- DLV_RECALL_RES_SCANNED (R386). -/
def DLV_RECALL_RES_SCANNED : Nat := 0x210128
/-- DLV_RECALL_RES_END (R386). -/
def DLV_RECALL_RES_END : Nat := 0x21012c

/-! ### DLVARB -/

/-- DLV_ARB_CFG (R382). -/
def DLV_ARB_CFG (i : Nat) : Nat := 0x210200 + 0x40 * i
def DLV_ARB_CFG_N (i : Nat) : Fld := ⟨DLV_ARB_CFG i, 0, 6⟩
/-- DLV_ARB_PRIV (R382). -/
def DLV_ARB_PRIV (i : Nat) : Nat := 0x210208 + 0x40 * i
/-- DLV_ARB_RANK (R382). -/
def DLV_ARB_RANK (i j : Nat) : Nat := 0x210210 + 0x40 * i + 0x4 * j
def DLV_ARB_RANK_R (i j : Nat) : Fld := ⟨DLV_ARB_RANK i j, 0, 32⟩
/-- DLV_ARB_HOLD (R382). -/
def DLV_ARB_HOLD (i : Nat) : Nat := 0x210230 + 0x40 * i
def DLV_ARB_HOLD_HOLDER (i : Nat) : Fld := ⟨DLV_ARB_HOLD i, 0, 6⟩

/-! ### PCIE -/

/-- PCIE_CFG (R403). -/
def PCIE_CFG (i : Nat) : Nat := 0x244000 + 0x4000 * i
def PCIE_CFG_MAX_WIDTH (i : Nat) : Fld := ⟨PCIE_CFG i, 8, 2⟩
def PCIE_CFG_MAX_GEN (i : Nat) : Fld := ⟨PCIE_CFG i, 4, 3⟩
def PCIE_CFG_ENABLE (i : Nat) : Fld := ⟨PCIE_CFG i, 0, 1⟩
/-- PCIE_SUBSYS (R403). -/
def PCIE_SUBSYS (i : Nat) : Nat := 0x244004 + 0x4000 * i
/-- PCIE_LINK (R402). -/
def PCIE_LINK (i : Nat) : Nat := 0x244008 + 0x4000 * i
def PCIE_LINK_UP (i : Nat) : Fld := ⟨PCIE_LINK i, 31, 1⟩
def PCIE_LINK_FLIT (i : Nat) : Fld := ⟨PCIE_LINK i, 30, 1⟩
def PCIE_LINK_LTSSM (i : Nat) : Fld := ⟨PCIE_LINK i, 16, 8⟩
def PCIE_LINK_WIDTH (i : Nat) : Fld := ⟨PCIE_LINK i, 8, 5⟩
def PCIE_LINK_GEN (i : Nat) : Fld := ⟨PCIE_LINK i, 4, 3⟩
/-- PCIE_STATUS (R419). -/
def PCIE_STATUS (i : Nat) : Nat := 0x24400c + 0x4000 * i
def PCIE_STATUS_D3 (i : Nat) : Fld := ⟨PCIE_STATUS i, 3, 1⟩
def PCIE_STATUS_FLR_ACTIVE (i : Nat) : Fld := ⟨PCIE_STATUS i, 2, 1⟩
def PCIE_STATUS_BME (i : Nat) : Fld := ⟨PCIE_STATUS i, 1, 1⟩
def PCIE_STATUS_PERST (i : Nat) : Fld := ⟨PCIE_STATUS i, 0, 1⟩
/-- PCIE_EVENTS (R415). -/
def PCIE_EVENTS (i : Nat) : Nat := 0x244010 + 0x4000 * i
def PCIE_EVENTS_FETCH_FAIL (i : Nat) : Fld := ⟨PCIE_EVENTS i, 6, 1⟩
def PCIE_EVENTS_POISON (i : Nat) : Fld := ⟨PCIE_EVENTS i, 5, 1⟩
def PCIE_EVENTS_UR (i : Nat) : Fld := ⟨PCIE_EVENTS i, 4, 1⟩
def PCIE_EVENTS_COMMIT_ERR (i : Nat) : Fld := ⟨PCIE_EVENTS i, 3, 1⟩
def PCIE_EVENTS_FLR (i : Nat) : Fld := ⟨PCIE_EVENTS i, 2, 1⟩
def PCIE_EVENTS_BME_OFF (i : Nat) : Fld := ⟨PCIE_EVENTS i, 1, 1⟩
def PCIE_EVENTS_LINK_CHANGE (i : Nat) : Fld := ⟨PCIE_EVENTS i, 0, 1⟩
/-- PCIE_EVENTS_EN (R415). -/
def PCIE_EVENTS_EN (i : Nat) : Nat := 0x244014 + 0x4000 * i
def PCIE_EVENTS_EN_EN (i : Nat) : Fld := ⟨PCIE_EVENTS_EN i, 0, 7⟩
/-- PCIE_IRQ_EN (R415). -/
def PCIE_IRQ_EN (i : Nat) : Nat := 0x244018 + 0x4000 * i
def PCIE_IRQ_EN_V (i : Nat) : Fld := ⟨PCIE_IRQ_EN i, 0, 14⟩
/-- PCIE_IRQ_SRC (R415). -/
def PCIE_IRQ_SRC (i : Nat) : Nat := 0x24401c + 0x4000 * i
/-- PCIE_WIN_CMD (R411). -/
def PCIE_WIN_CMD (i : Nat) : Nat := 0x244020 + 0x4000 * i
def PCIE_WIN_CMD_WINDOW_COMMIT (i : Nat) : Fld := ⟨PCIE_WIN_CMD i, 0, 1⟩
/-- PCIE_WIN_STATUS (R411). -/
def PCIE_WIN_STATUS (i : Nat) : Nat := 0x244024 + 0x4000 * i
def PCIE_WIN_STATUS_COMMIT_PENDING (i : Nat) : Fld := ⟨PCIE_WIN_STATUS i, 31, 1⟩
def PCIE_WIN_STATUS_ERR_CAUSE (i : Nat) : Fld := ⟨PCIE_WIN_STATUS i, 8, 4⟩
def PCIE_WIN_STATUS_ERR_WINDOW (i : Nat) : Fld := ⟨PCIE_WIN_STATUS i, 0, 4⟩
/-- PCIE_UR_STATUS (R410). -/
def PCIE_UR_STATUS (i : Nat) : Nat := 0x244040 + 0x4000 * i
/-- PCIE_UR_CAPCOUNT (R410). -/
def PCIE_UR_CAPCOUNT (i : Nat) : Nat := 0x244044 + 0x4000 * i
/-- PCIE_UR_ADDR (R410). -/
def PCIE_UR_ADDR (i : Nat) : Nat := 0x244048 + 0x4000 * i
/-- PCIE_UR_INFO (R410). -/
def PCIE_UR_INFO (i : Nat) : Nat := 0x244050 + 0x4000 * i
def PCIE_UR_INFO_REQUESTER (i : Nat) : Fld := ⟨PCIE_UR_INFO i, 16, 16⟩
def PCIE_UR_INFO_WRITE (i : Nat) : Fld := ⟨PCIE_UR_INFO i, 15, 1⟩
def PCIE_UR_INFO_LENGTH (i : Nat) : Fld := ⟨PCIE_UR_INFO i, 0, 11⟩
/-- PCIE_CNT_UR (R410). -/
def PCIE_CNT_UR (i : Nat) : Nat := 0x244080 + 0x4000 * i
/-- PCIE_CNT_LATE_CPL (R422). -/
def PCIE_CNT_LATE_CPL (i : Nat) : Nat := 0x244084 + 0x4000 * i
/-- PCIE_CNT_CORR (R423). -/
def PCIE_CNT_CORR (i : Nat) : Nat := 0x244088 + 0x4000 * i
/-- PCIE_CNT_LINKDOWN (R423). -/
def PCIE_CNT_LINKDOWN (i : Nat) : Nat := 0x24408c + 0x4000 * i

/-! ### PCIEWIN -/

/-- PCIE_WIN_W0 (R411). -/
def PCIE_WIN_W0 (i j : Nat) : Nat := 0x244100 + 0x4000 * i + 0x10 * j
def PCIE_WIN_W0_EN (i j : Nat) : Fld := ⟨PCIE_WIN_W0 i j, 31, 1⟩
def PCIE_WIN_W0_WRITE (i j : Nat) : Fld := ⟨PCIE_WIN_W0 i j, 29, 1⟩
def PCIE_WIN_W0_READ (i j : Nat) : Fld := ⟨PCIE_WIN_W0 i j, 28, 1⟩
def PCIE_WIN_W0_SIZE (i j : Nat) : Fld := ⟨PCIE_WIN_W0 i j, 0, 21⟩
/-- PCIE_WIN_W1 (R411). -/
def PCIE_WIN_W1 (i j : Nat) : Nat := 0x244104 + 0x4000 * i + 0x10 * j
def PCIE_WIN_W1_BAR_OFF (i j : Nat) : Fld := ⟨PCIE_WIN_W1 i j, 0, 20⟩
/-- PCIE_WIN_W2 (R411). -/
def PCIE_WIN_W2 (i j : Nat) : Nat := 0x244108 + 0x4000 * i + 0x10 * j
def PCIE_WIN_W2_TARGET_LO (i j : Nat) : Fld := ⟨PCIE_WIN_W2 i j, 16, 16⟩
/-- PCIE_WIN_W3 (R411). -/
def PCIE_WIN_W3 (i j : Nat) : Nat := 0x24410c + 0x4000 * i + 0x10 * j
def PCIE_WIN_W3_TARGET_HI (i j : Nat) : Fld := ⟨PCIE_WIN_W3 i j, 0, 7⟩
/-- PCIE_WIN_ACTIVE_W0 (R412). -/
def PCIE_WIN_ACTIVE_W0 (i j : Nat) : Nat := 0x244200 + 0x4000 * i + 0x10 * j
def PCIE_WIN_ACTIVE_W0_EN (i j : Nat) : Fld := ⟨PCIE_WIN_ACTIVE_W0 i j, 31, 1⟩
def PCIE_WIN_ACTIVE_W0_WRITE (i j : Nat) : Fld := ⟨PCIE_WIN_ACTIVE_W0 i j, 29, 1⟩
def PCIE_WIN_ACTIVE_W0_READ (i j : Nat) : Fld := ⟨PCIE_WIN_ACTIVE_W0 i j, 28, 1⟩
def PCIE_WIN_ACTIVE_W0_SIZE (i j : Nat) : Fld := ⟨PCIE_WIN_ACTIVE_W0 i j, 0, 21⟩
/-- PCIE_WIN_ACTIVE_W1 (R412). -/
def PCIE_WIN_ACTIVE_W1 (i j : Nat) : Nat := 0x244204 + 0x4000 * i + 0x10 * j
def PCIE_WIN_ACTIVE_W1_BAR_OFF (i j : Nat) : Fld := ⟨PCIE_WIN_ACTIVE_W1 i j, 0, 20⟩
/-- PCIE_WIN_ACTIVE_W2 (R412). -/
def PCIE_WIN_ACTIVE_W2 (i j : Nat) : Nat := 0x244208 + 0x4000 * i + 0x10 * j
def PCIE_WIN_ACTIVE_W2_TARGET_LO (i j : Nat) : Fld := ⟨PCIE_WIN_ACTIVE_W2 i j, 16, 16⟩
/-- PCIE_WIN_ACTIVE_W3 (R412). -/
def PCIE_WIN_ACTIVE_W3 (i j : Nat) : Nat := 0x24420c + 0x4000 * i + 0x10 * j
def PCIE_WIN_ACTIVE_W3_TARGET_HI (i j : Nat) : Fld := ⟨PCIE_WIN_ACTIVE_W3 i j, 0, 7⟩

/-! ### SILL -/

/-- SILL_CFG (R453). -/
def SILL_CFG : Nat := 0x280000
def SILL_CFG_CLAIM : Fld := ⟨SILL_CFG, 16, 16⟩
def SILL_CFG_TWIN_ROLE : Fld := ⟨SILL_CFG, 12, 2⟩
def SILL_CFG_NODE_ID : Fld := ⟨SILL_CFG, 0, 10⟩
/-- SILL_TWIN_CFG (R453). -/
def SILL_TWIN_CFG : Nat := 0x280004
def SILL_TWIN_CFG_TWIN_CLAIM : Fld := ⟨SILL_TWIN_CFG, 16, 16⟩
def SILL_TWIN_CFG_SWAP_LEAD : Fld := ⟨SILL_TWIN_CFG, 8, 8⟩
def SILL_TWIN_CFG_CLAIM_WINDOW : Fld := ⟨SILL_TWIN_CFG, 0, 8⟩
/-- SILL_SWAP_CFG (R452). -/
def SILL_SWAP_CFG : Nat := 0x280008
def SILL_SWAP_CFG_REVERT : Fld := ⟨SILL_SWAP_CFG, 31, 1⟩
def SILL_SWAP_CFG_SWAP_EN : Fld := ⟨SILL_SWAP_CFG, 30, 1⟩
def SILL_SWAP_CFG_REVERT_HOLD : Fld := ⟨SILL_SWAP_CFG, 16, 14⟩
def SILL_SWAP_CFG_SWAP_PERIOD : Fld := ⟨SILL_SWAP_CFG, 0, 16⟩
/-- SILL_TIME_CFG (R436). -/
def SILL_TIME_CFG : Nat := 0x28000c
def SILL_TIME_CFG_LOCK : Fld := ⟨SILL_TIME_CFG, 0, 16⟩
/-- SILL_STATUS (R447). -/
def SILL_STATUS : Nat := 0x280010
def SILL_STATUS_CARRIED : Fld := ⟨SILL_STATUS, 16, 16⟩
def SILL_STATUS_HEALTHY : Fld := ⟨SILL_STATUS, 15, 1⟩
def SILL_STATUS_SINGLE_HOMED : Fld := ⟨SILL_STATUS, 14, 1⟩
def SILL_STATUS_HB_LOST : Fld := ⟨SILL_STATUS, 13, 1⟩
def SILL_STATUS_CLAIM_BLOCKED : Fld := ⟨SILL_STATUS, 12, 1⟩
def SILL_STATUS_SWAP_PENDING : Fld := ⟨SILL_STATUS, 11, 1⟩
def SILL_STATUS_TIME_LOCKED : Fld := ⟨SILL_STATUS, 10, 1⟩
def SILL_STATUS_NO_PARENT : Fld := ⟨SILL_STATUS, 9, 1⟩
def SILL_STATUS_DEPTH : Fld := ⟨SILL_STATUS, 5, 3⟩
def SILL_STATUS_TIME_PARENT : Fld := ⟨SILL_STATUS, 3, 2⟩
def SILL_STATUS_ROLE : Fld := ⟨SILL_STATUS, 0, 3⟩
/-- SILL_CMD (R451). -/
def SILL_CMD : Nat := 0x280014
def SILL_CMD_SWAP_REQ : Fld := ⟨SILL_CMD, 0, 1⟩
/-- SILL_EVENTS (R447). -/
def SILL_EVENTS : Nat := 0x280018
def SILL_EVENTS_HB_LOST : Fld := ⟨SILL_EVENTS, 17, 1⟩
def SILL_EVENTS_CARRIED_CHANGE : Fld := ⟨SILL_EVENTS, 16, 1⟩
def SILL_EVENTS_SCHED_REJECT : Fld := ⟨SILL_EVENTS, 15, 1⟩
def SILL_EVENTS_EVT_DROP : Fld := ⟨SILL_EVENTS, 14, 1⟩
def SILL_EVENTS_EVT_LATE : Fld := ⟨SILL_EVENTS, 13, 1⟩
def SILL_EVENTS_LOCK_CHANGE : Fld := ⟨SILL_EVENTS, 12, 1⟩
def SILL_EVENTS_SWAP_REFUSED : Fld := ⟨SILL_EVENTS, 11, 1⟩
def SILL_EVENTS_SWAPPED : Fld := ⟨SILL_EVENTS, 10, 1⟩
def SILL_EVENTS_WITHDREW : Fld := ⟨SILL_EVENTS, 9, 1⟩
def SILL_EVENTS_CLAIMED : Fld := ⟨SILL_EVENTS, 8, 1⟩
def SILL_EVENTS_PORT_DOWN : Fld := ⟨SILL_EVENTS, 4, 4⟩
def SILL_EVENTS_PORT_UP : Fld := ⟨SILL_EVENTS, 0, 4⟩
/-- SILL_EVENTS_EN (R447). -/
def SILL_EVENTS_EN : Nat := 0x28001c
def SILL_EVENTS_EN_EN : Fld := ⟨SILL_EVENTS_EN, 0, 18⟩
/-- SILL_SWAP_AT (R451). -/
def SILL_SWAP_AT : Nat := 0x280020
/-- SILL_TWIN_STATUS (R448). -/
def SILL_TWIN_STATUS : Nat := 0x280030
def SILL_TWIN_STATUS_TWIN_CLAIM : Fld := ⟨SILL_TWIN_STATUS, 16, 16⟩
def SILL_TWIN_STATUS_BEAT_AGE : Fld := ⟨SILL_TWIN_STATUS, 8, 8⟩
def SILL_TWIN_STATUS_TWIN_HEALTHY : Fld := ⟨SILL_TWIN_STATUS, 2, 1⟩
def SILL_TWIN_STATUS_TWIN_HOLDER : Fld := ⟨SILL_TWIN_STATUS, 1, 1⟩
def SILL_TWIN_STATUS_BEAT_OK : Fld := ⟨SILL_TWIN_STATUS, 0, 1⟩
/-- SILL_CNT_CARRIED_CHANGE (R447). -/
def SILL_CNT_CARRIED_CHANGE : Nat := 0x280040
/-- SILL_CNT_CLAIM (R448). -/
def SILL_CNT_CLAIM : Nat := 0x280044
/-- SILL_CNT_WITHDRAW (R449). -/
def SILL_CNT_WITHDRAW : Nat := 0x280048
/-- SILL_CNT_SWAP (R451). -/
def SILL_CNT_SWAP : Nat := 0x28004c
/-- SILL_CNT_SWAP_REFUSED (R451). -/
def SILL_CNT_SWAP_REFUSED : Nat := 0x280050
/-- SILL_CNT_HB_LOST (R448). -/
def SILL_CNT_HB_LOST : Nat := 0x280054
/-- SILL_CNT_EVT_LATE (R442). -/
def SILL_CNT_EVT_LATE : Nat := 0x280058
/-- SILL_CNT_SCHED_REJECT (R443). -/
def SILL_CNT_SCHED_REJECT : Nat := 0x28005c

/-! ### SILLPORT -/

/-- SILL_PORT_CFG (R427). -/
def SILL_PORT_CFG (i : Nat) : Nat := 0x280100 + 0x80 * i
def SILL_PORT_CFG_TX_PRESET (i : Nat) : Fld := ⟨SILL_PORT_CFG i, 4, 4⟩
def SILL_PORT_CFG_ROLE (i : Nat) : Fld := ⟨SILL_PORT_CFG i, 1, 2⟩
def SILL_PORT_CFG_ENABLE (i : Nat) : Fld := ⟨SILL_PORT_CFG i, 0, 1⟩
/-- SILL_PORT_STATUS (R427). -/
def SILL_PORT_STATUS (i : Nat) : Nat := 0x280104 + 0x80 * i
def SILL_PORT_STATUS_PARTNER_ID (i : Nat) : Fld := ⟨SILL_PORT_STATUS i, 16, 10⟩
def SILL_PORT_STATUS_FAULT_CAUSE (i : Nat) : Fld := ⟨SILL_PORT_STATUS i, 11, 3⟩
def SILL_PORT_STATUS_PARTNER_DEPTH (i : Nat) : Fld := ⟨SILL_PORT_STATUS i, 8, 3⟩
def SILL_PORT_STATUS_ROLE (i : Nat) : Fld := ⟨SILL_PORT_STATUS i, 6, 2⟩
def SILL_PORT_STATUS_PARTNER_LOCKED (i : Nat) : Fld := ⟨SILL_PORT_STATUS i, 5, 1⟩
def SILL_PORT_STATUS_SELECTED (i : Nat) : Fld := ⟨SILL_PORT_STATUS i, 4, 1⟩
def SILL_PORT_STATUS_LONG_HOP (i : Nat) : Fld := ⟨SILL_PORT_STATUS i, 3, 1⟩
def SILL_PORT_STATUS_STATE (i : Nat) : Fld := ⟨SILL_PORT_STATUS i, 0, 3⟩
/-- SILL_LAT_STATUS (R433). -/
def SILL_LAT_STATUS (i : Nat) : Nat := 0x280120 + 0x80 * i
/-- SILL_LAT_L (R433). -/
def SILL_LAT_L (i : Nat) : Nat := 0x280124 + 0x80 * i
/-- SILL_LAT_SPREAD (R433). -/
def SILL_LAT_SPREAD (i : Nat) : Nat := 0x280128 + 0x80 * i
def SILL_LAT_SPREAD_SPREAD (i : Nat) : Fld := ⟨SILL_LAT_SPREAD i, 0, 16⟩
/-- SILL_OFS_STATUS (R434). -/
def SILL_OFS_STATUS (i : Nat) : Nat := 0x280140 + 0x80 * i
/-- SILL_OFS_CAPCOUNT (R434). -/
def SILL_OFS_CAPCOUNT (i : Nat) : Nat := 0x280144 + 0x80 * i
/-- SILL_OFS_THETA (R434). -/
def SILL_OFS_THETA (i : Nat) : Nat := 0x280148 + 0x80 * i
/-- SILL_OFS_MEAN (R434). -/
def SILL_OFS_MEAN (i : Nat) : Nat := 0x280150 + 0x80 * i
/-- SILL_CNT_CRC (R431). -/
def SILL_CNT_CRC (i : Nat) : Nat := 0x280160 + 0x80 * i
/-- SILL_CNT_DOWN (R427). -/
def SILL_CNT_DOWN (i : Nat) : Nat := 0x280164 + 0x80 * i
/-- SILL_CNT_EVT_DROP (R442). -/
def SILL_CNT_EVT_DROP (i : Nat) : Nat := 0x280168 + 0x80 * i
/-- SILL_CNT_MGMT_DROP (R444). -/
def SILL_CNT_MGMT_DROP (i : Nat) : Nat := 0x28016c + 0x80 * i

/-! ### SILLEVT -/

/-- SILL_EVT_CFG (R442). -/
def SILL_EVT_CFG (i : Nat) : Nat := 0x280400 + 0x4 * i
def SILL_EVT_CFG_ALIGN (i : Nat) : Fld := ⟨SILL_EVT_CFG i, 31, 1⟩
def SILL_EVT_CFG_EVT_HOLD (i : Nat) : Fld := ⟨SILL_EVT_CFG i, 0, 24⟩
/-- SILL_SCHED_ALLOW (R443). -/
def SILL_SCHED_ALLOW : Nat := 0x280500
def SILL_SCHED_ALLOW_LEN : Fld := ⟨SILL_SCHED_ALLOW, 16, 15⟩
def SILL_SCHED_ALLOW_BASE : Fld := ⟨SILL_SCHED_ALLOW, 0, 14⟩
/-- SILL_SCHED_TX (R443). -/
def SILL_SCHED_TX (i : Nat) : Nat := 0x280510 + 0x4 * i
/-- SILL_SCHED_CMD (R443). -/
def SILL_SCHED_CMD : Nat := 0x280520
def SILL_SCHED_CMD_GO : Fld := ⟨SILL_SCHED_CMD, 31, 1⟩
def SILL_SCHED_CMD_INDEX : Fld := ⟨SILL_SCHED_CMD, 0, 14⟩

/-! ### GPIO -/

/-- GPIO_IN_LO (R508). -/
def GPIO_IN_LO : Nat := 0x2c0000
/-- GPIO_IN_HI (R508). -/
def GPIO_IN_HI : Nat := 0x2c0004
/-- GPIO_DRIVE_LO (R508). -/
def GPIO_DRIVE_LO : Nat := 0x2c0008
/-- GPIO_DRIVE_HI (R508). -/
def GPIO_DRIVE_HI : Nat := 0x2c000c
/-- GPIO_ACTIVE_LO (R508). -/
def GPIO_ACTIVE_LO : Nat := 0x2c0010
/-- GPIO_ACTIVE_HI (R508). -/
def GPIO_ACTIVE_HI : Nat := 0x2c0014
/-- GPIO_OWNER (R508). -/
def GPIO_OWNER (i : Nat) : Nat := 0x2c0040 + 0x4 * i
def GPIO_OWNER_BANK_OK (i : Nat) : Fld := ⟨GPIO_OWNER i, 17, 1⟩
def GPIO_OWNER_IDLE (i : Nat) : Fld := ⟨GPIO_OWNER i, 16, 1⟩
def GPIO_OWNER_RECORD (i : Nat) : Fld := ⟨GPIO_OWNER i, 15, 1⟩
def GPIO_OWNER_INDEX (i : Nat) : Fld := ⟨GPIO_OWNER i, 8, 7⟩
def GPIO_OWNER_OWNER (i : Nat) : Fld := ⟨GPIO_OWNER i, 0, 3⟩

/-! ### PWM -/

/-- GPIO_PWM_CFG (R509). -/
def GPIO_PWM_CFG (i : Nat) : Nat := 0x2c0200 + 0x10 * i
def GPIO_PWM_CFG_PIN (i : Nat) : Fld := ⟨GPIO_PWM_CFG i, 8, 6⟩
def GPIO_PWM_CFG_EN (i : Nat) : Fld := ⟨GPIO_PWM_CFG i, 0, 1⟩
/-- GPIO_PWM_PERIOD (R509). -/
def GPIO_PWM_PERIOD (i : Nat) : Nat := 0x2c0204 + 0x10 * i
def GPIO_PWM_PERIOD_NS (i : Nat) : Fld := ⟨GPIO_PWM_PERIOD i, 0, 24⟩
/-- GPIO_PWM_HIGH (R509). -/
def GPIO_PWM_HIGH (i : Nat) : Nat := 0x2c0208 + 0x10 * i
def GPIO_PWM_HIGH_NS (i : Nat) : Fld := ⟨GPIO_PWM_HIGH i, 0, 24⟩

/-! ### CAMSCRIPT -/

/-- CAM_SCRIPT (R177). -/
def CAM_SCRIPT (i : Nat) : Nat := 0x380000 + 0x4 * i
/-- PMB_LIST (R464). -/
def PMB_LIST (i : Nat) : Nat := 0x390000 + 0x4 * i

/-! ### MSIX -/

/-- MSIX_ADDR (R414). -/
def MSIX_ADDR (i j : Nat) : Nat := 0x2000000 + 0x10000 * i + 0x10 * j
/-- MSIX_DATA (R414). -/
def MSIX_DATA (i j : Nat) : Nat := 0x2000008 + 0x10000 * i + 0x10 * j
/-- MSIX_CTRL (R414). -/
def MSIX_CTRL (i j : Nat) : Nat := 0x200000c + 0x10000 * i + 0x10 * j
def MSIX_CTRL_MASK (i j : Nat) : Fld := ⟨MSIX_CTRL i j, 0, 1⟩

/-! ### MSIXPBA -/

/-- MSIX_PBA (R414). -/
def MSIX_PBA (i j : Nat) : Nat := 0x2008000 + 0x10000 * i + 0x4 * j

end Reg

end Sys2Proof.Machine
end

