-- ==== Sys2Proof/Machine/RegMap.lean ====
section
/-!
DEFINITION. The register map: for every 32-bit register word of the device its offset, its replication, its reset
value and the access types of its bits (R5), as the field tables of the spec give them. A 64-bit register is two rows
and a time value four. What no row names is reserved: it reads as zero and ignores writes (R8).
-/

namespace Sys2Proof.Machine

/-- One row of the register map. The masks say which bits have which access type of R5; a bit in no mask is RO or
reserved (an RO bit that no mask names is told from a reserved one by the device's own writes only).
`mc`: only the MC may write the register (R504). -/
structure RegRow where
  base : Nat
  dims : List (Nat × Nat)
  reset : Nat
  rw : Nat
  rwl : Nat
  w1c : Nat
  w1s : Nat
  wo : Nat
  mc : Bool
  deriving DecidableEq, Repr

/-- Whether the distance `d` from a row's base is one of its replicas: `dims` lists (count, stride), outermost first. -/
def inDims : List (Nat × Nat) → Nat → Bool
  | [], d => d == 0
  | (n, st) :: t, d => decide (d / st < n) && inDims t (d % st)

/-- Whether the row holds the word at offset `o`. -/
def RegRow.hits (r : RegRow) (o : Nat) : Bool := decide (r.base ≤ o) && inDims r.dims (o - r.base)

def rowsGlobal1 : List RegRow := [
  ⟨0x0, [], 0x9624, 0x0, 0x0, 0x0, 0x0, 0x0, false⟩, -- GLOBAL_ID
  ⟨0x8, [], 0x0, 0x0, 0x0, 0x0, 0x0, 0x0, false⟩, -- GLOBAL_SERIAL_LO
  ⟨0xc, [], 0x0, 0x0, 0x0, 0x0, 0x0, 0x0, false⟩, -- GLOBAL_SERIAL_HI
  ⟨0x10, [], 0x0, 0x0, 0x0, 0x0, 0x0, 0x0, false⟩, -- GLOBAL_FW_VERSION
  ⟨0x20, [], 0x0, 0x0, 0x0, 0x0, 0x0, 0x0, false⟩, -- GLOBAL_BAD_ACCESS
  ⟨0x24, [], 0x0, 0x0, 0x0, 0x0, 0x0, 0x0, false⟩, -- GLOBAL_WRITE_COLLIDE
  ⟨0x28, [], 0x0, 0x0, 0x0, 0x0, 0x0, 0x0, false⟩, -- GLOBAL_BAD_LAST_STATUS
  ⟨0x2c, [], 0x0, 0x0, 0x0, 0x0, 0x0, 0x0, false⟩, -- GLOBAL_BAD_LAST_OFFSET
  ⟨0x30, [], 0x0, 0x0, 0x0, 0x0, 0x0, 0x0, false⟩, -- GLOBAL_BAD_LAST_INFO
  ⟨0x40, [], 0x0, 0x0, 0x0, 0x0, 0x0, 0x0, false⟩, -- GLOBAL_STRAPS
  ⟨0x80, [], 0x0, 0x0, 0x0, 0xff, 0x0, 0x0, false⟩, -- GLOBAL_EVENTS
  ⟨0x84, [], 0x0, 0xff, 0x0, 0x0, 0x0, 0x0, false⟩, -- GLOBAL_EVENTS_EN
  ⟨0xc0, [], 0x0, 0x0, 0x0, 0x0, 0x0, 0x0, false⟩, -- GLOBAL_IRQ_SUM
  ⟨0xc4, [], 0x0, 0x0, 0x0, 0x0, 0x0, 0x0, false⟩, -- GLOBAL_IRQ_UNIT
  ⟨0xc8, [], 0x0, 0x0, 0x0, 0x0, 0x0, 0x0, false⟩, -- GLOBAL_IRQ_MISC
  ⟨0xcc, [(3, 0x4)], 0x0, 0x0, 0x0, 0x0, 0x0, 0x0, false⟩, -- GLOBAL_IRQ_LANE
  ⟨0xd8, [(6, 0x4)], 0x0, 0x0, 0x0, 0x0, 0x0, 0x0, false⟩, -- GLOBAL_IRQ_ENG
  ⟨0xf0, [(4, 0x4)], 0x0, 0x0, 0x0, 0x0, 0x0, 0x0, false⟩, -- GLOBAL_IRQ_TRIG
  ⟨0x100, [], 0x0, 0x7, 0x0, 0x0, 0x0, 0x0, true⟩, -- GLOBAL_COMMIT
  ⟨0x104, [], 0x0, 0x0, 0x0, 0x0, 0x0, 0x0, false⟩, -- GLOBAL_BOOT_STATUS
  ⟨0x108, [], 0x0, 0x0, 0x0, 0x0, 0x0, 0x0, false⟩, -- GLOBAL_CUTLIST_ID_LO
  ⟨0x10c, [], 0x0, 0x0, 0x0, 0x0, 0x0, 0x0, false⟩, -- GLOBAL_CUTLIST_ID_HI
  ⟨0x110, [], 0x2244, 0x0, 0x0, 0x0, 0x0, 0x0, false⟩, -- GLOBAL_OTP_GEN
  ⟨0x114, [], 0x0, 0x0, 0x0, 0x0, 0x0, 0x0, false⟩, -- GLOBAL_OTP_CTR
  ⟨0x140, [(8, 0x4)], 0x0, 0x0, 0x0, 0x0, 0x0, 0x0, false⟩, -- GLOBAL_IRQ_STREAM
  ⟨0x200, [], 0x2c01, 0x0, 0xf3f01, 0x0, 0x2, 0x0, false⟩, -- GLOBAL_DROOP_CTRL
  ⟨0x204, [], 0x0, 0x0, 0x0, 0x8, 0x0, 0x0, false⟩, -- GLOBAL_DROOP_STATUS
  ⟨0x208, [], 0x3e8, 0x0, 0x3fff, 0x0, 0x0, 0x0, false⟩, -- GLOBAL_DROOP_WINDOW
  ⟨0x20c, [], 0x4e20, 0x0, 0xffffff, 0x0, 0x0, 0x0, false⟩, -- GLOBAL_DROOP_BUDGET
  ⟨0x210, [], 0x0, 0x0, 0x0, 0x0, 0x0, 0x0, false⟩, -- GLOBAL_DROOP_COUNT_LO
  ⟨0x214, [], 0x0, 0x0, 0x0, 0x0, 0x0, 0x0, false⟩, -- GLOBAL_DROOP_COUNT_HI
  ⟨0x218, [], 0x0, 0x0, 0x0, 0x0, 0x0, 0x0, false⟩, -- GLOBAL_DROOP_TIME_LO
  ⟨0x21c, [], 0x0, 0x0, 0x0, 0x0, 0x0, 0x0, false⟩, -- GLOBAL_DROOP_TIME_HI
  ⟨0x220, [], 0x0, 0x0, 0x0, 0x0, 0x0, 0x0, false⟩, -- GLOBAL_DROOP_OVER_COUNT
  ⟨0x240, [], 0x0, 0x0, 0x0, 0x1ff0000, 0x4000000, 0x0, false⟩, -- GLOBAL_PLL_STATUS
  ⟨0x250, [], 0x1, 0x0, 0x0, 0x0, 0x0, 0x0, false⟩, -- GLOBAL_RESET_CAUSE
  ⟨0x254, [], 0x0, 0x0, 0x0, 0x0, 0x3, 0x0, true⟩, -- GLOBAL_RESET_CTRL
  ⟨0x300, [], 0x64, 0x0, 0x3ff, 0x0, 0x0, 0x0, false⟩, -- GLOBAL_WDOG_CFG
  ⟨0x310, [], 0x0, 0x0, 0x0, 0x0, 0x0, 0x0, false⟩, -- GLOBAL_WDOG_STATUS
  ⟨0x314, [], 0x0, 0x0, 0x0, 0x0, 0x0, 0x0, false⟩ -- GLOBAL_WDOG_UNIT
  ]

def rowsGlobal2 : List RegRow := [
  ⟨0x318, [], 0x0, 0x0, 0x0, 0x0, 0x0, 0x0, false⟩, -- GLOBAL_WDOG_RESOURCE
  ⟨0x320, [], 0x0, 0x0, 0x0, 0x0, 0x0, 0x0, false⟩, -- GLOBAL_WDOG_TIME_T0
  ⟨0x324, [], 0x0, 0x0, 0x0, 0x0, 0x0, 0x0, false⟩, -- GLOBAL_WDOG_TIME_T1
  ⟨0x328, [], 0x0, 0x0, 0x0, 0x0, 0x0, 0x0, false⟩, -- GLOBAL_WDOG_TIME_T2
  ⟨0x32c, [], 0x0, 0x0, 0x0, 0x0, 0x0, 0x0, false⟩, -- GLOBAL_WDOG_TIME_T3
  ⟨0x330, [], 0x0, 0x0, 0x0, 0x0, 0x0, 0x0, false⟩, -- GLOBAL_CNT_WDOG_ABORT
  ⟨0x334, [], 0x0, 0x0, 0x0, 0x0, 0x0, 0x0, false⟩, -- GLOBAL_CNT_WDOG_LONG
  ⟨0x400, [], 0x82423, 0x0, 0x83ff7777, 0x0, 0x0, 0x0, true⟩, -- MC_LOG_CFG
  ⟨0x404, [], 0x0, 0x0, 0x0, 0x0, 0x0, 0x0, false⟩, -- MC_LOG_HEAD
  ⟨0x408, [], 0x0, 0x0, 0x0, 0x0, 0x0, 0x0, false⟩, -- MC_LOG_FLASHED
  ⟨0x40c, [], 0x1f4, 0x0, 0xffff, 0x0, 0x0, 0x0, true⟩, -- MC_WDOG_CFG
  ⟨0x410, [], 0x0, 0x0, 0x0, 0x0, 0x0, 0x0, false⟩, -- MC_UPDATE_STATUS
  ⟨0x414, [], 0x0, 0x0, 0x0, 0x0, 0x0, 0x0, false⟩, -- MC_UPDATE_BYTES
  ⟨0x418, [], 0x0, 0x0, 0xff, 0x0, 0x0, 0x0, true⟩, -- MC_THERM_CFG
  ⟨0x41c, [], 0x0, 0x0, 0x0, 0x1ff, 0x0, 0x0, false⟩, -- MC_EVENTS
  ⟨0x420, [], 0x0, 0x1ff, 0x0, 0x0, 0x0, 0x0, false⟩, -- MC_EVENTS_EN
  ⟨0x440, [], 0x0, 0x0, 0x0, 0x0, 0x0, 0x0, false⟩, -- MC_SENS_STATUS
  ⟨0x448, [(12, 0x4)], 0x0, 0x0, 0x0, 0x0, 0x0, 0x0, false⟩, -- MC_SENS_DATA
  ⟨0x480, [], 0x0, 0x0, 0x0, 0x0, 0x0, 0x0, false⟩, -- MC_CNT_WDOG
  ⟨0x484, [], 0x0, 0x0, 0x0, 0x0, 0x0, 0x0, false⟩, -- MC_CNT_LOG_DROP
  ⟨0x488, [], 0x0, 0x0, 0x0, 0x0, 0x0, 0x0, false⟩, -- MC_CNT_LOG_LOST
  ⟨0x48c, [], 0x0, 0x0, 0x0, 0x0, 0x0, 0x0, false⟩, -- MC_CNT_PMB_ERR
  ⟨0x600, [(3, 0x4)], 0x0, 0x0, 0x0, 0x0, 0x0, 0x0, false⟩, -- GLOBAL_RETIRED_LANE
  ⟨0x60c, [], 0x0, 0x0, 0x0, 0x0, 0x0, 0x0, false⟩, -- GLOBAL_RETIRED_BAY
  ⟨0x610, [(6, 0x4)], 0x0, 0x0, 0x0, 0x0, 0x0, 0x0, false⟩, -- GLOBAL_RETIRED_ENG
  ⟨0x628, [], 0x0, 0x0, 0x0, 0x0, 0x0, 0x0, false⟩, -- GLOBAL_RETIRED_MISC
  ⟨0x630, [], 0xc01860, 0x0, 0x0, 0x0, 0x0, 0x0, false⟩, -- GLOBAL_CAP_A
  ⟨0x634, [], 0x4100810, 0x0, 0x0, 0x0, 0x0, 0x0, false⟩, -- GLOBAL_CAP_B
  ⟨0x638, [], 0x0, 0x0, 0x0, 0x0, 0x0, 0x0, false⟩, -- GLOBAL_CAP_DDR
  ⟨0x63c, [], 0x0, 0x0, 0x0, 0x0, 0x0, 0x0, false⟩, -- GLOBAL_READMIT
  ⟨0x640, [], 0x0, 0x0, 0x0, 0x0, 0x0, 0x0, false⟩, -- GLOBAL_CNT_ABORTED
  ⟨0x644, [], 0x0, 0x0, 0x0, 0x0, 0x0, 0x0, false⟩, -- GLOBAL_CNT_RETIRE
  ⟨0x648, [], 0x0, 0x700000ff, 0x0, 0x0, 0x80000000, 0x0, true⟩, -- GLOBAL_RETIRE_CMD
  ⟨0x500, [(16, 0x10)], 0x0, 0x0, 0x0, 0x0, 0x0, 0x0, false⟩, -- MC_PMB_STATUS
  ⟨0x504, [(16, 0x10)], 0x0, 0x0, 0x0, 0x0, 0x0, 0x0, false⟩, -- MC_PMB_VI
  ⟨0x508, [(16, 0x10)], 0x0, 0x0, 0x0, 0x0, 0x0, 0x0, false⟩ -- MC_PMB_TS
  ]

/-- The rows of block Global. -/
def rowsGlobal : List RegRow := rowsGlobal1 ++ rowsGlobal2

def rowsMbox : List RegRow := [
  ⟨0x10000, [(2, 0x4000), (1024, 0x4)], 0x0, 0xffffffff, 0x0, 0x0, 0x0, 0x0, false⟩, -- MBOX_REQ
  ⟨0x11000, [(2, 0x4000), (1024, 0x4)], 0x0, 0x0, 0x0, 0x0, 0x0, 0x0, false⟩, -- MBOX_RSP
  ⟨0x12000, [(2, 0x4000)], 0x0, 0x0, 0x0, 0x0, 0x1, 0x0, false⟩, -- MBOX_CMD
  ⟨0x12004, [(2, 0x4000)], 0x0, 0x0, 0x0, 0x0, 0x0, 0x0, false⟩ -- MBOX_STATUS
  ]

def rowsTb1 : List RegRow := [
  ⟨0x20000, [], 0x0, 0xe, 0x1, 0x0, 0x0, 0x0, false⟩, -- TB_CTRL
  ⟨0x20004, [], 0x0, 0x0, 0x0, 0x0, 0x0, 0x0, false⟩, -- TB_STATUS
  ⟨0x20008, [], 0x0, 0x3, 0x0, 0x0, 0x0, 0x0, false⟩, -- TB_QUALITY
  ⟨0x2000c, [], 0x0, 0xffff, 0x0, 0x0, 0x0, 0x0, false⟩, -- TB_UTC_OFFSET
  ⟨0x20010, [], 0x0, 0xffffffff, 0x0, 0x0, 0x0, 0x0, false⟩, -- TB_INCR_LO
  ⟨0x20014, [], 0x1, 0xff, 0x0, 0x0, 0x0, 0x0, false⟩, -- TB_INCR_HI
  ⟨0x20018, [], 0x0, 0xffffffff, 0x0, 0x0, 0x0, 0x0, false⟩, -- TB_SLEW
  ⟨0x2001c, [], 0x1ad, 0xffffff, 0x0, 0x0, 0x0, 0x0, false⟩, -- TB_SLEW_STEP
  ⟨0x20020, [], 0x0, 0x0, 0x0, 0x0, 0x0, 0x0, false⟩, -- TB_NOW_T0
  ⟨0x20024, [], 0x0, 0x0, 0x0, 0x0, 0x0, 0x0, false⟩, -- TB_NOW_T1
  ⟨0x20028, [], 0x0, 0x0, 0x0, 0x0, 0x0, 0x0, false⟩, -- TB_NOW_T2
  ⟨0x2002c, [], 0x0, 0x0, 0x0, 0x0, 0x0, 0x0, false⟩, -- TB_NOW_T3
  ⟨0x20030, [], 0x0, 0xffff, 0x0, 0x0, 0x0, 0x0, false⟩, -- TB_SET_TIME_T0
  ⟨0x20034, [], 0x0, 0xffffffff, 0x0, 0x0, 0x0, 0x0, false⟩, -- TB_SET_TIME_T1
  ⟨0x20038, [], 0x0, 0xffffffff, 0x0, 0x0, 0x0, 0x0, false⟩, -- TB_SET_TIME_T2
  ⟨0x2003c, [], 0x0, 0xffff, 0x0, 0x0, 0x0, 0x0, false⟩, -- TB_SET_TIME_T3
  ⟨0x20040, [], 0x0, 0xffffffff, 0x0, 0x0, 0x0, 0x0, false⟩, -- TB_STEP_LO
  ⟨0x20044, [], 0x0, 0xffffffff, 0x0, 0x0, 0x0, 0x0, false⟩, -- TB_STEP_HI
  ⟨0x20048, [], 0x0, 0x0, 0x0, 0x0, 0xf, 0x0, false⟩, -- TB_CMD
  ⟨0x2004c, [], 0x3e8, 0x0, 0xffffffff, 0x0, 0x0, 0x0, false⟩, -- TB_STEP_MAX
  ⟨0x20050, [], 0x0, 0x0, 0x0, 0xff1f, 0x0, 0x0, false⟩, -- TB_EVENTS
  ⟨0x20054, [], 0x0, 0xff1f, 0x0, 0x0, 0x0, 0x0, false⟩, -- TB_EVENTS_EN
  ⟨0x20058, [], 0x0, 0x0, 0x0, 0x0, 0x0, 0x0, false⟩, -- TB_SLEW_LEFT
  ⟨0x20060, [], 0x0, 0x0, 0x0, 0x0, 0x0, 0x0, false⟩, -- TB_SNAP_STATUS
  ⟨0x20064, [], 0x0, 0x0, 0x0, 0x0, 0x0, 0x0, false⟩, -- TB_SNAP_CAPCOUNT
  ⟨0x20070, [], 0x0, 0x0, 0x0, 0x0, 0x0, 0x0, false⟩, -- TB_SNAP_TIME_T0
  ⟨0x20074, [], 0x0, 0x0, 0x0, 0x0, 0x0, 0x0, false⟩, -- TB_SNAP_TIME_T1
  ⟨0x20078, [], 0x0, 0x0, 0x0, 0x0, 0x0, 0x0, false⟩, -- TB_SNAP_TIME_T2
  ⟨0x2007c, [], 0x0, 0x0, 0x0, 0x0, 0x0, 0x0, false⟩, -- TB_SNAP_TIME_T3
  ⟨0x20080, [], 0x0, 0x0, 0x0, 0x0, 0x0, 0x0, false⟩, -- TB_PPS_IN_STATUS
  ⟨0x20084, [], 0x0, 0x0, 0x0, 0x0, 0x0, 0x0, false⟩, -- TB_PPS_IN_CAPCOUNT
  ⟨0x20088, [], 0x0, 0x0, 0x0, 0x0, 0x0, 0x0, false⟩, -- TB_PPS_IN_FLAGS
  ⟨0x20090, [], 0x0, 0x0, 0x0, 0x0, 0x0, 0x0, false⟩, -- TB_PPS_IN_TIME_T0
  ⟨0x20094, [], 0x0, 0x0, 0x0, 0x0, 0x0, 0x0, false⟩, -- TB_PPS_IN_TIME_T1
  ⟨0x20098, [], 0x0, 0x0, 0x0, 0x0, 0x0, 0x0, false⟩, -- TB_PPS_IN_TIME_T2
  ⟨0x2009c, [], 0x0, 0x0, 0x0, 0x0, 0x0, 0x0, false⟩, -- TB_PPS_IN_TIME_T3
  ⟨0x200a0, [], 0x186a0, 0xfffff, 0x0, 0x0, 0x0, 0x0, false⟩, -- TB_PPS_OUT
  ⟨0x200a4, [], 0x0, 0xffffffff, 0x0, 0x0, 0x0, 0x0, false⟩, -- TB_PPS_OFFSET
  ⟨0x200c0, [], 0x0, 0x0, 0x0, 0x0, 0x0, 0x0, false⟩, -- TB_CNT_STEP
  ⟨0x200c4, [], 0x0, 0x0, 0x0, 0x0, 0x0, 0x0, false⟩ -- TB_CNT_REFUSED
  ]

def rowsTb2 : List RegRow := [
  ⟨0x200c8, [], 0x0, 0x0, 0x0, 0x0, 0x0, 0x0, false⟩, -- TB_CNT_CLAMP
  ⟨0x200cc, [], 0x0, 0x0, 0x0, 0x0, 0x0, 0x0, false⟩, -- TB_CNT_GPIO_MERGED
  ⟨0x200d0, [], 0x0, 0x0, 0x0, 0x0, 0x0, 0x0, false⟩, -- TB_CNT_PPS_MISS
  ⟨0x20100, [(8, 0x20)], 0x0, 0x3, 0x0, 0x0, 0x0, 0x0, false⟩, -- TB_ALARM_CFG
  ⟨0x20108, [(8, 0x20)], 0x0, 0xffffffff, 0x0, 0x0, 0x0, 0x0, false⟩, -- TB_ALARM_PERIOD_LO
  ⟨0x2010c, [(8, 0x20)], 0x0, 0xffffffff, 0x0, 0x0, 0x0, 0x0, false⟩, -- TB_ALARM_PERIOD_HI
  ⟨0x20110, [(8, 0x20)], 0x0, 0xffff, 0x0, 0x0, 0x0, 0x0, false⟩, -- TB_ALARM_TIME_T0
  ⟨0x20114, [(8, 0x20)], 0x0, 0xffffffff, 0x0, 0x0, 0x0, 0x0, false⟩, -- TB_ALARM_TIME_T1
  ⟨0x20118, [(8, 0x20)], 0x0, 0xffffffff, 0x0, 0x0, 0x0, 0x0, false⟩, -- TB_ALARM_TIME_T2
  ⟨0x2011c, [(8, 0x20)], 0x0, 0xffff, 0x0, 0x0, 0x0, 0x0, false⟩, -- TB_ALARM_TIME_T3
  ⟨0x20200, [(16, 0x20)], 0x0, 0x3f03, 0x0, 0x0, 0x0, 0x0, false⟩, -- TB_CYC_CFG
  ⟨0x20204, [(16, 0x20)], 0x0, 0xffffffff, 0x0, 0x0, 0x0, 0x0, false⟩, -- TB_CYC_PERIOD
  ⟨0x20208, [(16, 0x20)], 0x0, 0xffffffff, 0x0, 0x0, 0x0, 0x0, false⟩, -- TB_CYC_WIDTH
  ⟨0x20210, [(16, 0x20)], 0x0, 0xffff, 0x0, 0x0, 0x0, 0x0, false⟩, -- TB_CYC_START_T0
  ⟨0x20214, [(16, 0x20)], 0x0, 0xffffffff, 0x0, 0x0, 0x0, 0x0, false⟩, -- TB_CYC_START_T1
  ⟨0x20218, [(16, 0x20)], 0x0, 0xffffffff, 0x0, 0x0, 0x0, 0x0, false⟩, -- TB_CYC_START_T2
  ⟨0x2021c, [(16, 0x20)], 0x0, 0xffff, 0x0, 0x0, 0x0, 0x0, false⟩, -- TB_CYC_START_T3
  ⟨0x21000, [(96, 0x8)], 0x0, 0x0, 0xffffffff, 0x0, 0x0, 0x0, false⟩, -- TB_LANE_IN_ASYM
  ⟨0x21004, [(96, 0x8)], 0x0, 0x0, 0xffffffff, 0x0, 0x0, 0x0, false⟩, -- TB_LANE_EG_ASYM
  ⟨0x21400, [(4, 0x8)], 0x0, 0x0, 0xffffffff, 0x0, 0x0, 0x0, false⟩, -- TB_SILL_IN_ASYM
  ⟨0x21404, [(4, 0x8)], 0x0, 0x0, 0xffffffff, 0x0, 0x0, 0x0, false⟩, -- TB_SILL_EG_ASYM
  ⟨0x22000, [(64, 0x20)], 0x0, 0x0, 0x0, 0x0, 0x0, 0x0, false⟩, -- TB_GPIO_EDGE_STATUS
  ⟨0x22004, [(64, 0x20)], 0x0, 0x0, 0x0, 0x0, 0x0, 0x0, false⟩, -- TB_GPIO_EDGE_CAPCOUNT
  ⟨0x22008, [(64, 0x20)], 0x0, 0x0, 0x0, 0x0, 0x0, 0x0, false⟩, -- TB_GPIO_EDGE_FLAGS
  ⟨0x22010, [(64, 0x20)], 0x0, 0x0, 0x0, 0x0, 0x0, 0x0, false⟩, -- TB_GPIO_EDGE_TIME_T0
  ⟨0x22014, [(64, 0x20)], 0x0, 0x0, 0x0, 0x0, 0x0, 0x0, false⟩, -- TB_GPIO_EDGE_TIME_T1
  ⟨0x22018, [(64, 0x20)], 0x0, 0x0, 0x0, 0x0, 0x0, 0x0, false⟩, -- TB_GPIO_EDGE_TIME_T2
  ⟨0x2201c, [(64, 0x20)], 0x0, 0x0, 0x0, 0x0, 0x0, 0x0, false⟩, -- TB_GPIO_EDGE_TIME_T3
  ⟨0x22800, [(4, 0x4)], 0x0, 0xffffffff, 0x0, 0x0, 0x0, 0x0, false⟩ -- TB_GPIO_TS_EDGE
  ]

/-- The rows of block Tb. -/
def rowsTb : List RegRow := rowsTb1 ++ rowsTb2

def rowsEvt : List RegRow := [
  ⟨0x30000, [(256, 0x4)], 0x0, 0xffffffff, 0x0, 0x0, 0x0, 0x0, false⟩, -- EVT_EN
  ⟨0x30400, [(64, 0x4)], 0x0, 0xffffffff, 0x0, 0x0, 0x0, 0x0, false⟩, -- EVT_FAB_EN
  ⟨0x30500, [(8, 0x4)], 0x0, 0x833f, 0x0, 0x0, 0x0, 0x0, false⟩, -- EVT_GPIO_SEL
  ⟨0x30520, [(8, 0x4)], 0x0, 0x80ff007f, 0x0, 0x0, 0x0, 0x0, false⟩, -- EVT_LANE_SEL
  ⟨0x30540, [(4, 0x4)], 0x0, 0x8000007f, 0x0, 0x0, 0x0, 0x0, false⟩, -- EVT_QUEUE_SEL
  ⟨0x30560, [(8, 0x4)], 0x0, 0xffffffbf, 0x0, 0x0, 0x0, 0x0, false⟩, -- EVT_OUT_CFG
  ⟨0x30580, [(4, 0x4)], 0x0, 0x9f07, 0x0, 0x0, 0x0, 0x0, false⟩, -- EVT_DMA_CFG
  ⟨0x30600, [(32, 0x4)], 0x0, 0x807f, 0x0, 0x0, 0x0, 0x0, false⟩, -- EVT_FAB_TX
  ⟨0x30700, [], 0x0, 0x0, 0x0, 0x0, 0x1, 0x0, false⟩, -- EVT_CMD
  ⟨0x30704, [], 0x0, 0x0, 0x0, 0x1, 0x0, 0x0, false⟩, -- EVT_IRQ
  ⟨0x30708, [], 0x0, 0x1, 0x0, 0x0, 0x0, 0x0, false⟩, -- EVT_IRQ_EN
  ⟨0x30800, [(64, 0x4)], 0x0, 0x0, 0x0, 0x18, 0x0, 0x0, false⟩, -- EVT_CONS_STATUS
  ⟨0x30900, [(64, 0x4)], 0x0, 0x0, 0x0, 0x0, 0x0, 0x0, false⟩, -- EVT_CNT_LOST
  ⟨0x30a00, [(64, 0x4)], 0x0, 0x0, 0x0, 0x0, 0x0, 0x0, false⟩, -- EVT_CNT_COINC
  ⟨0x30b00, [], 0x0, 0x0, 0x0, 0x0, 0x0, 0x0, false⟩, -- EVT_CNT_LOOP
  ⟨0x30b04, [], 0x0, 0x0, 0x0, 0x80000000, 0x0, 0x0, false⟩ -- EVT_LOOP
  ]

def rowsPos1 : List RegRow := [
  ⟨0x40000, [(16, 0x400)], 0x0, 0xff0f, 0x0, 0x0, 0x0, 0x0, false⟩, -- POS_CTRL
  ⟨0x40004, [(16, 0x400)], 0x0, 0xffff03b8, 0x0, 0x0, 0x0, 0x0, false⟩, -- POS_INDEX_CFG
  ⟨0x40008, [(16, 0x400)], 0x0, 0xffffffff, 0x0, 0x0, 0x0, 0x0, false⟩, -- POS_INDEX_PERIOD
  ⟨0x40010, [(16, 0x400)], 0x0, 0xffffffff, 0x0, 0x0, 0x0, 0x0, false⟩, -- POS_INDEX_VALUE_LO
  ⟨0x40014, [(16, 0x400)], 0x0, 0xffffffff, 0x0, 0x0, 0x0, 0x0, false⟩, -- POS_INDEX_VALUE_HI
  ⟨0x40018, [(16, 0x400)], 0xb, 0x3ffffff, 0x0, 0x0, 0x0, 0x0, false⟩, -- POS_SSI_CFG
  ⟨0x4001c, [(16, 0x400)], 0x10064, 0xffffffff, 0x0, 0x0, 0x0, 0x0, false⟩, -- POS_SSI_TIMING
  ⟨0x40020, [(16, 0x400)], 0xffffffff, 0xffffffff, 0x0, 0x0, 0x0, 0x0, false⟩, -- POS_SSI_MAXSTEP
  ⟨0x40024, [(16, 0x400)], 0x1000003f, 0xffffffff, 0x0, 0x0, 0x0, 0x0, false⟩, -- POS_OBS_CFG
  ⟨0x40028, [(16, 0x400)], 0x3ff11a6f, 0xffffffff, 0x0, 0x0, 0x0, 0x0, false⟩, -- POS_OBS_K12
  ⟨0x4002c, [(16, 0x400)], 0x6222, 0xffff, 0x0, 0x0, 0x0, 0x0, false⟩, -- POS_OBS_K3
  ⟨0x40030, [(16, 0x400)], 0x8000200, 0xffffffff, 0x0, 0x0, 0x0, 0x0, false⟩, -- POS_OBS_TOL
  ⟨0x40034, [(16, 0x400)], 0x1400, 0xffbf, 0x0, 0x0, 0x0, 0x0, false⟩, -- POS_SILL_CFG
  ⟨0x40038, [(16, 0x400)], 0x0, 0x3, 0x0, 0x0, 0x0, 0x0, false⟩, -- POS_PROBE_CFG
  ⟨0x40040, [(16, 0x400)], 0x0, 0xffffffff, 0x0, 0x0, 0x0, 0x0, false⟩, -- POS_PRESET_LO
  ⟨0x40044, [(16, 0x400)], 0x0, 0xffffffff, 0x0, 0x0, 0x0, 0x0, false⟩, -- POS_PRESET_HI
  ⟨0x40048, [(16, 0x400)], 0x0, 0x0, 0x0, 0x0, 0xf, 0x0, false⟩, -- POS_CMD
  ⟨0x40050, [(16, 0x400)], 0x0, 0x0, 0x0, 0x0, 0x0, 0x0, false⟩, -- POS_STATUS
  ⟨0x40054, [(16, 0x400)], 0x0, 0x0, 0x0, 0x7ff, 0x0, 0x0, false⟩, -- POS_EVENTS
  ⟨0x40058, [(16, 0x400)], 0x0, 0x7ff, 0x0, 0x0, 0x0, 0x0, false⟩, -- POS_EVENTS_EN
  ⟨0x40060, [(16, 0x400)], 0x0, 0x0, 0x0, 0x0, 0x0, 0x0, false⟩, -- POS_COUNT_LO
  ⟨0x40064, [(16, 0x400)], 0x0, 0x0, 0x0, 0x0, 0x0, 0x0, false⟩, -- POS_COUNT_HI
  ⟨0x40080, [(16, 0x400)], 0x0, 0x0, 0x0, 0x0, 0x0, 0x0, false⟩, -- POS_OBS_STATUS
  ⟨0x40084, [(16, 0x400)], 0x0, 0x0, 0x0, 0x0, 0x0, 0x0, false⟩, -- POS_OBS_CAPCOUNT
  ⟨0x40088, [(16, 0x400)], 0x0, 0x0, 0x0, 0x0, 0x0, 0x0, false⟩, -- POS_OBS_X_LO
  ⟨0x4008c, [(16, 0x400)], 0x0, 0x0, 0x0, 0x0, 0x0, 0x0, false⟩, -- POS_OBS_X_HI
  ⟨0x40090, [(16, 0x400)], 0x0, 0x0, 0x0, 0x0, 0x0, 0x0, false⟩, -- POS_OBS_V_LO
  ⟨0x40094, [(16, 0x400)], 0x0, 0x0, 0x0, 0x0, 0x0, 0x0, false⟩, -- POS_OBS_V_HI
  ⟨0x40098, [(16, 0x400)], 0x0, 0x0, 0x0, 0x0, 0x0, 0x0, false⟩, -- POS_OBS_A_LO
  ⟨0x4009c, [(16, 0x400)], 0x0, 0x0, 0x0, 0x0, 0x0, 0x0, false⟩, -- POS_OBS_A_HI
  ⟨0x400a0, [(16, 0x400)], 0x0, 0x0, 0x0, 0x0, 0x0, 0x0, false⟩, -- POS_OBS_TIME_T0
  ⟨0x400a4, [(16, 0x400)], 0x0, 0x0, 0x0, 0x0, 0x0, 0x0, false⟩, -- POS_OBS_TIME_T1
  ⟨0x400a8, [(16, 0x400)], 0x0, 0x0, 0x0, 0x0, 0x0, 0x0, false⟩, -- POS_OBS_TIME_T2
  ⟨0x400ac, [(16, 0x400)], 0x0, 0x0, 0x0, 0x0, 0x0, 0x0, false⟩, -- POS_OBS_TIME_T3
  ⟨0x400c0, [(16, 0x400)], 0x0, 0x0, 0x0, 0x0, 0x0, 0x0, false⟩, -- POS_PROBE_STATUS
  ⟨0x400c4, [(16, 0x400)], 0x0, 0x0, 0x0, 0x0, 0x0, 0x0, false⟩, -- POS_PROBE_CAPCOUNT
  ⟨0x400c8, [(16, 0x400)], 0x0, 0x0, 0x0, 0x0, 0x0, 0x0, false⟩, -- POS_PROBE_COUNT_LO
  ⟨0x400cc, [(16, 0x400)], 0x0, 0x0, 0x0, 0x0, 0x0, 0x0, false⟩, -- POS_PROBE_COUNT_HI
  ⟨0x400d0, [(16, 0x400)], 0x0, 0x0, 0x0, 0x0, 0x0, 0x0, false⟩, -- POS_PROBE_X_LO
  ⟨0x400d4, [(16, 0x400)], 0x0, 0x0, 0x0, 0x0, 0x0, 0x0, false⟩ -- POS_PROBE_X_HI
  ]

def rowsPos2 : List RegRow := [
  ⟨0x400d8, [(16, 0x400)], 0x0, 0x0, 0x0, 0x0, 0x0, 0x0, false⟩, -- POS_PROBE_FLAGS
  ⟨0x400e0, [(16, 0x400)], 0x0, 0x0, 0x0, 0x0, 0x0, 0x0, false⟩, -- POS_PROBE_TIME_T0
  ⟨0x400e4, [(16, 0x400)], 0x0, 0x0, 0x0, 0x0, 0x0, 0x0, false⟩, -- POS_PROBE_TIME_T1
  ⟨0x400e8, [(16, 0x400)], 0x0, 0x0, 0x0, 0x0, 0x0, 0x0, false⟩, -- POS_PROBE_TIME_T2
  ⟨0x400ec, [(16, 0x400)], 0x0, 0x0, 0x0, 0x0, 0x0, 0x0, false⟩, -- POS_PROBE_TIME_T3
  ⟨0x40100, [(16, 0x400)], 0x0, 0x0, 0x0, 0x0, 0x0, 0x0, false⟩, -- POS_SLIP_STATUS
  ⟨0x40108, [(16, 0x400)], 0x0, 0x0, 0x0, 0x0, 0x0, 0x0, false⟩, -- POS_SLIP_DELTA_LO
  ⟨0x4010c, [(16, 0x400)], 0x0, 0x0, 0x0, 0x0, 0x0, 0x0, false⟩, -- POS_SLIP_DELTA_HI
  ⟨0x40110, [(16, 0x400)], 0x0, 0x0, 0x0, 0x0, 0x0, 0x0, false⟩, -- POS_SLIP_EXPECTED_LO
  ⟨0x40114, [(16, 0x400)], 0x0, 0x0, 0x0, 0x0, 0x0, 0x0, false⟩, -- POS_SLIP_EXPECTED_HI
  ⟨0x40120, [(16, 0x400)], 0x0, 0x0, 0x0, 0x0, 0x0, 0x0, false⟩, -- POS_SLIP_TIME_T0
  ⟨0x40124, [(16, 0x400)], 0x0, 0x0, 0x0, 0x0, 0x0, 0x0, false⟩, -- POS_SLIP_TIME_T1
  ⟨0x40128, [(16, 0x400)], 0x0, 0x0, 0x0, 0x0, 0x0, 0x0, false⟩, -- POS_SLIP_TIME_T2
  ⟨0x4012c, [(16, 0x400)], 0x0, 0x0, 0x0, 0x0, 0x0, 0x0, false⟩, -- POS_SLIP_TIME_T3
  ⟨0x40140, [(16, 0x400)], 0x0, 0x0, 0x0, 0x0, 0x0, 0x0, false⟩, -- POS_SNAP_STATUS
  ⟨0x40144, [(16, 0x400)], 0x0, 0x0, 0x0, 0x0, 0x0, 0x0, false⟩, -- POS_SNAP_CAPCOUNT
  ⟨0x40148, [(16, 0x400)], 0x0, 0x0, 0x0, 0x0, 0x0, 0x0, false⟩, -- POS_SNAP_COUNT_LO
  ⟨0x4014c, [(16, 0x400)], 0x0, 0x0, 0x0, 0x0, 0x0, 0x0, false⟩, -- POS_SNAP_COUNT_HI
  ⟨0x40150, [(16, 0x400)], 0x0, 0x0, 0x0, 0x0, 0x0, 0x0, false⟩, -- POS_SNAP_X_LO
  ⟨0x40154, [(16, 0x400)], 0x0, 0x0, 0x0, 0x0, 0x0, 0x0, false⟩, -- POS_SNAP_X_HI
  ⟨0x40158, [(16, 0x400)], 0x0, 0x0, 0x0, 0x0, 0x0, 0x0, false⟩, -- POS_SNAP_V_LO
  ⟨0x4015c, [(16, 0x400)], 0x0, 0x0, 0x0, 0x0, 0x0, 0x0, false⟩, -- POS_SNAP_V_HI
  ⟨0x40160, [(16, 0x400)], 0x0, 0x0, 0x0, 0x0, 0x0, 0x0, false⟩, -- POS_SNAP_A_LO
  ⟨0x40164, [(16, 0x400)], 0x0, 0x0, 0x0, 0x0, 0x0, 0x0, false⟩, -- POS_SNAP_A_HI
  ⟨0x40170, [(16, 0x400)], 0x0, 0x0, 0x0, 0x0, 0x0, 0x0, false⟩, -- POS_SNAP_TIME_T0
  ⟨0x40174, [(16, 0x400)], 0x0, 0x0, 0x0, 0x0, 0x0, 0x0, false⟩, -- POS_SNAP_TIME_T1
  ⟨0x40178, [(16, 0x400)], 0x0, 0x0, 0x0, 0x0, 0x0, 0x0, false⟩, -- POS_SNAP_TIME_T2
  ⟨0x4017c, [(16, 0x400)], 0x0, 0x0, 0x0, 0x0, 0x0, 0x0, false⟩, -- POS_SNAP_TIME_T3
  ⟨0x40180, [(16, 0x400)], 0x0, 0x0, 0x0, 0x0, 0x0, 0x0, false⟩, -- POS_EDGE_STATUS
  ⟨0x40184, [(16, 0x400)], 0x0, 0x0, 0x0, 0x0, 0x0, 0x0, false⟩, -- POS_EDGE_CAPCOUNT
  ⟨0x40188, [(16, 0x400)], 0x0, 0x0, 0x0, 0x0, 0x0, 0x0, false⟩, -- POS_EDGE_COUNT_LO
  ⟨0x4018c, [(16, 0x400)], 0x0, 0x0, 0x0, 0x0, 0x0, 0x0, false⟩, -- POS_EDGE_COUNT_HI
  ⟨0x40190, [(16, 0x400)], 0x0, 0x0, 0x0, 0x0, 0x0, 0x0, false⟩, -- POS_EDGE_TIME_T0
  ⟨0x40194, [(16, 0x400)], 0x0, 0x0, 0x0, 0x0, 0x0, 0x0, false⟩, -- POS_EDGE_TIME_T1
  ⟨0x40198, [(16, 0x400)], 0x0, 0x0, 0x0, 0x0, 0x0, 0x0, false⟩, -- POS_EDGE_TIME_T2
  ⟨0x4019c, [(16, 0x400)], 0x0, 0x0, 0x0, 0x0, 0x0, 0x0, false⟩, -- POS_EDGE_TIME_T3
  ⟨0x401c0, [(16, 0x400)], 0x0, 0x0, 0x0, 0x0, 0x0, 0x0, false⟩, -- POS_CNT_ILLEGAL
  ⟨0x401c4, [(16, 0x400)], 0x0, 0x0, 0x0, 0x0, 0x0, 0x0, false⟩, -- POS_CNT_DIRCHG
  ⟨0x401c8, [(16, 0x400)], 0x0, 0x0, 0x0, 0x0, 0x0, 0x0, false⟩, -- POS_CNT_INDEX
  ⟨0x401cc, [(16, 0x400)], 0x0, 0x0, 0x0, 0x0, 0x0, 0x0, false⟩ -- POS_CNT_SLIP
  ]

def rowsPos3 : List RegRow := [
  ⟨0x401d0, [(16, 0x400)], 0x0, 0x0, 0x0, 0x0, 0x0, 0x0, false⟩, -- POS_CNT_SSIERR
  ⟨0x401d4, [(16, 0x400)], 0x0, 0x0, 0x0, 0x0, 0x0, 0x0, false⟩, -- POS_CNT_PROBE_MERGED
  ⟨0x401d8, [(16, 0x400)], 0x0, 0x0, 0x0, 0x0, 0x0, 0x0, false⟩, -- POS_CNT_LATEFRAME
  ⟨0x401dc, [(16, 0x400)], 0x0, 0x0, 0x0, 0x0, 0x0, 0x0, false⟩ -- POS_CNT_STALE
  ]

/-- The rows of block Pos. -/
def rowsPos : List RegRow := rowsPos1 ++ rowsPos2 ++ rowsPos3

def rowsTrig1 : List RegRow := [
  ⟨0x80000, [(128, 0x100)], 0x0, 0x7ff30007, 0x0, 0x0, 0x0, 0x0, false⟩, -- TRIG_CTRL
  ⟨0x80004, [(128, 0x100)], 0x0, 0x1ff, 0x0, 0x0, 0x0, 0x0, false⟩, -- TRIG_OPT
  ⟨0x80008, [(128, 0x100)], 0x0, 0xffffff, 0x0, 0x0, 0x0, 0x0, false⟩, -- TRIG_DEV_LAT
  ⟨0x8000c, [(128, 0x100)], 0x0, 0xffffff, 0x0, 0x0, 0x0, 0x0, false⟩, -- TRIG_CENTRE
  ⟨0x80010, [(128, 0x100)], 0x200, 0x7ff, 0x0, 0x0, 0x0, 0x0, false⟩, -- TRIG_TIMING
  ⟨0x80014, [(128, 0x100)], 0x64, 0xffffff, 0x0, 0x0, 0x0, 0x0, false⟩, -- TRIG_MIN_GAP
  ⟨0x80018, [(128, 0x100)], 0x3e8, 0xffffff, 0x0, 0x0, 0x0, 0x0, false⟩, -- TRIG_PULSE
  ⟨0x8001c, [(128, 0x100)], 0x40, 0xffffff, 0x0, 0x0, 0x0, 0x0, false⟩, -- TRIG_EVENT_DELAY
  ⟨0x80020, [(128, 0x100)], 0x0, 0xffffffff, 0x0, 0x0, 0x0, 0x0, false⟩, -- TRIG_PITCH_LO
  ⟨0x80024, [(128, 0x100)], 0x0, 0xffffffff, 0x0, 0x0, 0x0, 0x0, false⟩, -- TRIG_PITCH_HI
  ⟨0x80028, [(128, 0x100)], 0x0, 0xffffffff, 0x0, 0x0, 0x0, 0x0, false⟩, -- TRIG_ORIGIN_LO
  ⟨0x8002c, [(128, 0x100)], 0x0, 0xffffffff, 0x0, 0x0, 0x0, 0x0, false⟩, -- TRIG_ORIGIN_HI
  ⟨0x80030, [(128, 0x100)], 0x0, 0xffffffff, 0x0, 0x0, 0x0, 0x0, false⟩, -- TRIG_STATION_LO
  ⟨0x80034, [(128, 0x100)], 0x0, 0xffffffff, 0x0, 0x0, 0x0, 0x0, false⟩, -- TRIG_STATION_HI
  ⟨0x80038, [(128, 0x100)], 0x0, 0x7fff3fff, 0x0, 0x0, 0x0, 0x0, false⟩, -- TRIG_LIST
  ⟨0x8003c, [(128, 0x100)], 0x0, 0xffffffff, 0x0, 0x0, 0x0, 0x0, false⟩, -- TRIG_LAP_LINES
  ⟨0x80040, [(128, 0x100)], 0x0, 0xffffffff, 0x0, 0x0, 0x0, 0x0, false⟩, -- TRIG_LAP_DIST_LO
  ⟨0x80044, [(128, 0x100)], 0x0, 0xffffffff, 0x0, 0x0, 0x0, 0x0, false⟩, -- TRIG_LAP_DIST_HI
  ⟨0x80048, [(128, 0x100)], 0x0, 0xffffffff, 0x0, 0x0, 0x0, 0x0, false⟩, -- TRIG_PERIOD_LO
  ⟨0x8004c, [(128, 0x100)], 0x0, 0xffffffff, 0x0, 0x0, 0x0, 0x0, false⟩, -- TRIG_PERIOD_HI
  ⟨0x80050, [(128, 0x100)], 0x0, 0xffff, 0x0, 0x0, 0x0, 0x0, false⟩, -- TRIG_START_T0
  ⟨0x80054, [(128, 0x100)], 0x0, 0xffffffff, 0x0, 0x0, 0x0, 0x0, false⟩, -- TRIG_START_T1
  ⟨0x80058, [(128, 0x100)], 0x0, 0xffffffff, 0x0, 0x0, 0x0, 0x0, false⟩, -- TRIG_START_T2
  ⟨0x8005c, [(128, 0x100)], 0x0, 0xffff, 0x0, 0x0, 0x0, 0x0, false⟩, -- TRIG_START_T3
  ⟨0x80060, [(128, 0x100)], 0x0, 0x0, 0x0, 0x0, 0x0, 0xffffffff, false⟩, -- TRIG_PUSH_LO
  ⟨0x80064, [(128, 0x100)], 0x0, 0x0, 0x0, 0x0, 0x0, 0xffffffff, false⟩, -- TRIG_PUSH_HI
  ⟨0x80068, [(128, 0x100)], 0x0, 0x0, 0x0, 0x0, 0x7, 0x0, false⟩, -- TRIG_CMD
  ⟨0x8006c, [(128, 0x100)], 0x0, 0x0, 0x0, 0x0, 0x0, 0x0, false⟩, -- TRIG_STATUS
  ⟨0x80070, [(128, 0x100)], 0x0, 0x0, 0x0, 0x7ff, 0x0, 0x0, false⟩, -- TRIG_EVENTS
  ⟨0x80074, [(128, 0x100)], 0x0, 0x7ff, 0x0, 0x0, 0x0, 0x0, false⟩, -- TRIG_EVENTS_EN
  ⟨0x80078, [(128, 0x100)], 0x0, 0x0, 0x0, 0x0, 0x0, 0x0, false⟩, -- TRIG_RING
  ⟨0x80080, [(128, 0x100)], 0x0, 0x0, 0x0, 0x0, 0x0, 0x0, false⟩, -- TRIG_HWM_LO
  ⟨0x80084, [(128, 0x100)], 0x0, 0x0, 0x0, 0x0, 0x0, 0x0, false⟩, -- TRIG_HWM_HI
  ⟨0x80088, [(128, 0x100)], 0x0, 0x0, 0x0, 0x0, 0x0, 0x0, false⟩, -- TRIG_SHIFT_LO
  ⟨0x8008c, [(128, 0x100)], 0x0, 0x0, 0x0, 0x0, 0x0, 0x0, false⟩, -- TRIG_SHIFT_HI
  ⟨0x80090, [(128, 0x100)], 0x0, 0x0, 0x0, 0x0, 0x0, 0x0, false⟩, -- TRIG_LAST_STATUS
  ⟨0x80094, [(128, 0x100)], 0x0, 0x0, 0x0, 0x0, 0x0, 0x0, false⟩, -- TRIG_LAST_CAPCOUNT
  ⟨0x80098, [(128, 0x100)], 0x0, 0x0, 0x0, 0x0, 0x0, 0x0, false⟩, -- TRIG_LAST_TRIG_ID
  ⟨0x8009c, [(128, 0x100)], 0x0, 0x0, 0x0, 0x0, 0x0, 0x0, false⟩, -- TRIG_LAST_LEAD
  ⟨0x800a0, [(128, 0x100)], 0x0, 0x0, 0x0, 0x0, 0x0, 0x0, false⟩ -- TRIG_LAST_TARGET_LO
  ]

def rowsTrig2 : List RegRow := [
  ⟨0x800a4, [(128, 0x100)], 0x0, 0x0, 0x0, 0x0, 0x0, 0x0, false⟩, -- TRIG_LAST_TARGET_HI
  ⟨0x800a8, [(128, 0x100)], 0x0, 0x0, 0x0, 0x0, 0x0, 0x0, false⟩, -- TRIG_LAST_LINE_LO
  ⟨0x800ac, [(128, 0x100)], 0x0, 0x0, 0x0, 0x0, 0x0, 0x0, false⟩, -- TRIG_LAST_LINE_HI
  ⟨0x800b0, [(128, 0x100)], 0x0, 0x0, 0x0, 0x0, 0x0, 0x0, false⟩, -- TRIG_LAST_FLAGS
  ⟨0x800c0, [(128, 0x100)], 0x0, 0x0, 0x0, 0x0, 0x0, 0x0, false⟩, -- TRIG_LAST_TIME_T0
  ⟨0x800c4, [(128, 0x100)], 0x0, 0x0, 0x0, 0x0, 0x0, 0x0, false⟩, -- TRIG_LAST_TIME_T1
  ⟨0x800c8, [(128, 0x100)], 0x0, 0x0, 0x0, 0x0, 0x0, 0x0, false⟩, -- TRIG_LAST_TIME_T2
  ⟨0x800cc, [(128, 0x100)], 0x0, 0x0, 0x0, 0x0, 0x0, 0x0, false⟩, -- TRIG_LAST_TIME_T3
  ⟨0x800d0, [(128, 0x100)], 0x0, 0x0, 0x0, 0x0, 0x0, 0x0, false⟩, -- TRIG_CNT_FIRED
  ⟨0x800d4, [(128, 0x100)], 0x0, 0x0, 0x0, 0x0, 0x0, 0x0, false⟩, -- TRIG_CNT_LATE
  ⟨0x800d8, [(128, 0x100)], 0x0, 0x0, 0x0, 0x0, 0x0, 0x0, false⟩, -- TRIG_CNT_MISSED
  ⟨0x800dc, [(128, 0x100)], 0x0, 0x0, 0x0, 0x0, 0x0, 0x0, false⟩, -- TRIG_CNT_COLD
  ⟨0x800e0, [(128, 0x100)], 0x0, 0x0, 0x0, 0x0, 0x0, 0x0, false⟩, -- TRIG_CNT_NOTSENT
  ⟨0x800e4, [(128, 0x100)], 0x0, 0x0, 0x0, 0x0, 0x0, 0x0, false⟩, -- TRIG_CNT_UNSERVED
  ⟨0x800e8, [(128, 0x100)], 0x0, 0x0, 0x0, 0x0, 0x0, 0x0, false⟩, -- TRIG_CNT_REVHOLD
  ⟨0x800ec, [(128, 0x100)], 0x0, 0x0, 0x0, 0x0, 0x0, 0x0, false⟩, -- TRIG_CNT_RINGFULL
  ⟨0x800f0, [(128, 0x100)], 0x0, 0x0, 0x0, 0x0, 0x0, 0x0, false⟩ -- TRIG_CNT_MERGED
  ]

/-- The rows of block Trig. -/
def rowsTrig : List RegRow := rowsTrig1 ++ rowsTrig2

def rowsSched : List RegRow := [
  ⟨0xa0000, [(16384, 0x10)], 0x0, 0xffffffff, 0x0, 0x0, 0x0, 0x0, false⟩, -- SCHED_TARGET_LO
  ⟨0xa0004, [(16384, 0x10)], 0x0, 0xffffffff, 0x0, 0x0, 0x0, 0x0, false⟩, -- SCHED_TARGET_HI
  ⟨0xa0008, [(16384, 0x10)], 0x0, 0xffffffff, 0x0, 0x0, 0x0, 0x0, false⟩, -- SCHED_LINE
  ⟨0xa000c, [(16384, 0x10)], 0x0, 0x7ffff, 0x0, 0x0, 0x0, 0x0, false⟩ -- SCHED_WORD3
  ]

def rowsLane1 : List RegRow := [
  ⟨0x100000, [(96, 0x400)], 0x2, 0xfff, 0x0, 0x0, 0x8000, 0x0, false⟩, -- LANE_CTRL
  ⟨0x100004, [(96, 0x400)], 0x20000, 0x0, 0x0, 0x0, 0x0, 0x0, false⟩, -- LANE_STATUS
  ⟨0x100008, [(96, 0x400)], 0x0, 0x0, 0x0, 0xff, 0x0, 0x0, false⟩, -- LANE_EVENTS
  ⟨0x10000c, [(96, 0x400)], 0x0, 0xff, 0x0, 0x0, 0x0, 0x0, false⟩, -- LANE_EVENTS_EN
  ⟨0x100010, [(96, 0x400)], 0x3f0000, 0x0, 0x0, 0x0, 0x0, 0x0, false⟩, -- LANE_TXFIR
  ⟨0x100014, [(96, 0x400)], 0x0, 0x0, 0x0, 0x0, 0x0, 0x0, false⟩, -- LANE_PARTNER_FIR
  ⟨0x100018, [(96, 0x400)], 0x1e30f008, 0xfffcff8f, 0x0, 0x0, 0x0, 0x0, false⟩, -- LANE_TRAIN_CFG
  ⟨0x10001c, [(96, 0x400)], 0x3f0000, 0x3f1f0f, 0x0, 0x0, 0x0, 0x0, false⟩, -- LANE_TX_CUSTOM
  ⟨0x100020, [(96, 0x400)], 0x0, 0x0, 0x0, 0x0, 0x0, 0x0, false⟩, -- LANE_EYE_STATUS
  ⟨0x100024, [(96, 0x400)], 0x0, 0x0, 0x0, 0x0, 0x0, 0x0, false⟩, -- LANE_EYE_MARGIN
  ⟨0x100028, [(96, 0x400)], 0x0, 0x0, 0x0, 0x0, 0x0, 0x0, false⟩, -- LANE_EYE_DFE
  ⟨0x100040, [(96, 0x400)], 0x0, 0xff730ff1, 0x0, 0x0, 0x800000, 0x0, false⟩, -- LANE_TEST
  ⟨0x100048, [(96, 0x400)], 0x0, 0xffffffff, 0x0, 0x0, 0x0, 0x0, false⟩, -- LANE_PAT_USER_LO
  ⟨0x10004c, [(96, 0x400)], 0x0, 0xffffffff, 0x0, 0x0, 0x0, 0x0, false⟩, -- LANE_PAT_USER_HI
  ⟨0x100050, [(96, 0x400)], 0x0, 0x0, 0x0, 0x0, 0x0, 0x0, false⟩, -- LANE_PRBS_STATUS
  ⟨0x100058, [(96, 0x400)], 0x0, 0x0, 0x0, 0x0, 0x0, 0x0, false⟩, -- LANE_PRBS_BITS_LO
  ⟨0x10005c, [(96, 0x400)], 0x0, 0x0, 0x0, 0x0, 0x0, 0x0, false⟩, -- LANE_PRBS_BITS_HI
  ⟨0x100060, [(96, 0x400)], 0x0, 0x0, 0x0, 0x0, 0x0, 0x0, false⟩, -- LANE_PRBS_ERR
  ⟨0x100070, [(96, 0x400)], 0x0, 0x0, 0x0, 0x0, 0x0, 0x0, false⟩, -- LANE_CNT_LOS
  ⟨0x100074, [(96, 0x400)], 0x0, 0x0, 0x0, 0x0, 0x0, 0x0, false⟩, -- LANE_CNT_LOCKLOSS
  ⟨0x100078, [(96, 0x400)], 0x0, 0x0, 0x0, 0x0, 0x0, 0x0, false⟩, -- LANE_CNT_SYNCERR
  ⟨0x10007c, [(96, 0x400)], 0x0, 0x0, 0x0, 0x0, 0x0, 0x0, false⟩, -- LANE_CNT_TRAIN
  ⟨0x100080, [(96, 0x400)], 0x0, 0x0, 0x0, 0x0, 0x0, 0x0, false⟩, -- LANE_CNT_FAILSTEP
  ⟨0x100084, [(96, 0x400)], 0x0, 0x0, 0x0, 0x0, 0x0, 0x0, false⟩, -- LANE_CNT_BURST
  ⟨0x100088, [(96, 0x400)], 0x0, 0x0, 0x0, 0x0, 0x0, 0x0, false⟩, -- LANE_CNT_EXITFAIL
  ⟨0x10008c, [(96, 0x400)], 0x0, 0x0, 0x0, 0x0, 0x0, 0x0, false⟩, -- LANE_CNT_CHKRESYNC
  ⟨0x100100, [(96, 0x400)], 0x0, 0xffff1f07, 0x0, 0x0, 0x0, 0x0, false⟩, -- TENON_CFG
  ⟨0x100104, [(96, 0x400)], 0x100000, 0xffffff00, 0x0, 0x0, 0x0, 0x0, false⟩, -- TENON_LIMITS
  ⟨0x100108, [(96, 0x400)], 0x0, 0xffffffff, 0x0, 0x0, 0x0, 0x0, false⟩, -- TENON_FILL
  ⟨0x100110, [(96, 0x400)], 0x0, 0x0, 0x0, 0x0, 0x0, 0x0, false⟩, -- TENON_STATUS
  ⟨0x100114, [(96, 0x400)], 0x0, 0x0, 0x0, 0x0, 0x0, 0x0, false⟩, -- TENON_PARTNER_CAP
  ⟨0x100118, [(96, 0x400)], 0x0, 0x0, 0x0, 0x0, 0x0, 0x0, false⟩, -- TENON_PARTNER_LAT
  ⟨0x10011c, [(96, 0x400)], 0x0, 0x0, 0x0, 0x0, 0x0, 0x0, false⟩, -- TENON_PARTNER_LINE
  ⟨0x100120, [(96, 0x400)], 0x0, 0x0, 0x0, 0x0, 0x0, 0x0, false⟩, -- TENON_LAT_STATUS
  ⟨0x100124, [(96, 0x400)], 0x0, 0x0, 0x0, 0x0, 0x0, 0x0, false⟩, -- TENON_LAT_VALUE
  ⟨0x100128, [(96, 0x400)], 0x0, 0x0, 0x0, 0x0, 0x0, 0x0, false⟩, -- TENON_LAT_SPREAD
  ⟨0x100130, [(96, 0x400)], 0x0, 0xffff, 0x0, 0x0, 0x0, 0x0, false⟩, -- TENON_CTRL_ADDR
  ⟨0x100134, [(96, 0x400)], 0x0, 0xffffffff, 0x0, 0x0, 0x0, 0x0, false⟩, -- TENON_CTRL_WDATA
  ⟨0x100138, [(96, 0x400)], 0x0, 0x2, 0x0, 0x0, 0x1, 0x0, false⟩, -- TENON_CTRL_CMD
  ⟨0x100140, [(96, 0x400)], 0x0, 0x0, 0x0, 0x0, 0x0, 0x0, false⟩ -- TENON_CTRL_STATUS
  ]

def rowsLane2 : List RegRow := [
  ⟨0x100144, [(96, 0x400)], 0x0, 0x0, 0x0, 0x0, 0x0, 0x0, false⟩, -- TENON_CTRL_RESULT
  ⟨0x100148, [(96, 0x400)], 0x0, 0x0, 0x0, 0x0, 0x0, 0x0, false⟩, -- TENON_CTRL_RDATA
  ⟨0x100150, [(96, 0x400)], 0x0, 0x0, 0x0, 0x7ff, 0x0, 0x0, false⟩, -- TENON_EVENTS
  ⟨0x100154, [(96, 0x400)], 0x0, 0x7ff, 0x0, 0x0, 0x0, 0x0, false⟩, -- TENON_EVENTS_EN
  ⟨0x100160, [(96, 0x400)], 0x0, 0x0, 0x0, 0x0, 0x0, 0x0, false⟩, -- TENON_VIOL_STATUS
  ⟨0x100164, [(96, 0x400)], 0x0, 0x0, 0x0, 0x0, 0x0, 0x0, false⟩, -- TENON_VIOL_LAST
  ⟨0x100180, [(96, 0x400)], 0x0, 0x0, 0x0, 0x0, 0x0, 0x0, false⟩, -- TENON_CNT_TILES
  ⟨0x100184, [(96, 0x400)], 0x0, 0x0, 0x0, 0x0, 0x0, 0x0, false⟩, -- TENON_CNT_VIOL
  ⟨0x100188, [(96, 0x400)], 0x0, 0x0, 0x0, 0x0, 0x0, 0x0, false⟩, -- TENON_CNT_CHECK
  ⟨0x10018c, [(96, 0x400)], 0x0, 0x0, 0x0, 0x0, 0x0, 0x0, false⟩, -- TENON_CNT_DISCARD
  ⟨0x100190, [(96, 0x400)], 0x0, 0x0, 0x0, 0x0, 0x0, 0x0, false⟩, -- TENON_CNT_HDRCRC
  ⟨0x100194, [(96, 0x400)], 0x0, 0x0, 0x0, 0x0, 0x0, 0x0, false⟩, -- TENON_CNT_PAYCRC
  ⟨0x100198, [(96, 0x400)], 0x0, 0x0, 0x0, 0x0, 0x0, 0x0, false⟩, -- TENON_CNT_PARTIAL
  ⟨0x10019c, [(96, 0x400)], 0x0, 0x0, 0x0, 0x0, 0x0, 0x0, false⟩, -- TENON_CNT_DROPPED
  ⟨0x1001a0, [(96, 0x400)], 0x0, 0x0, 0x0, 0x0, 0x0, 0x0, false⟩, -- TENON_CNT_TRIG
  ⟨0x1001a4, [(96, 0x400)], 0x0, 0x0, 0x0, 0x0, 0x0, 0x0, false⟩, -- TENON_CNT_TRIG_LATE
  ⟨0x1001a8, [(96, 0x400)], 0x0, 0x0, 0x0, 0x0, 0x0, 0x0, false⟩, -- TENON_CNT_UNSERVED
  ⟨0x1001ac, [(96, 0x400)], 0x0, 0x0, 0x0, 0x0, 0x0, 0x0, false⟩, -- TENON_CNT_EIDLE
  ⟨0x1001b0, [(96, 0x400)], 0x0, 0x0, 0x0, 0x0, 0x0, 0x0, false⟩, -- TENON_CNT_VIOL_RX
  ⟨0x1001b4, [(96, 0x400)], 0x0, 0x0, 0x0, 0x0, 0x0, 0x0, false⟩ -- TENON_CNT_CTRL_REFUSED
  ]

/-- The rows of block Lane. -/
def rowsLane : List RegRow := rowsLane1 ++ rowsLane2

def rowsBay1 : List RegRow := [
  ⟨0x140000, [(24, 0x1000)], 0x0, 0x0, 0x0, 0xffffff0f, 0x0, 0x0, false⟩, -- BAY_COND_EVENTS
  ⟨0x140004, [(24, 0x1000)], 0x0, 0xffffff0f, 0x0, 0x0, 0x0, 0x0, false⟩, -- BAY_COND_EVENTS_EN
  ⟨0x140040, [(24, 0x1000), (4, 0x30)], 0x0, 0x0, 0x0, 0x0, 0x0, 0x0, false⟩, -- BAY_CNT_TILES
  ⟨0x140044, [(24, 0x1000), (4, 0x30)], 0x0, 0x0, 0x0, 0x0, 0x0, 0x0, false⟩, -- BAY_CNT_STALL
  ⟨0x140048, [(24, 0x1000), (4, 0x30)], 0x0, 0x0, 0x0, 0x0, 0x0, 0x0, false⟩, -- BAY_CNT_DEF_ORDER
  ⟨0x14004c, [(24, 0x1000), (4, 0x30)], 0x0, 0x0, 0x0, 0x0, 0x0, 0x0, false⟩, -- BAY_CNT_RS_PASS
  ⟨0x140050, [(24, 0x1000), (4, 0x30)], 0x0, 0x0, 0x0, 0x0, 0x0, 0x0, false⟩, -- BAY_CNT_RS_TIMEOUT
  ⟨0x140054, [(24, 0x1000), (4, 0x30)], 0x0, 0x0, 0x0, 0x0, 0x0, 0x0, false⟩, -- BAY_CNT_MEM_CORR
  ⟨0x140058, [(24, 0x1000), (4, 0x30)], 0x0, 0x0, 0x0, 0x0, 0x0, 0x0, false⟩, -- BAY_CNT_MEM_UNCORR
  ⟨0x14005c, [(24, 0x1000), (4, 0x30)], 0x0, 0x0, 0x0, 0x0, 0x0, 0x0, false⟩, -- BAY_CNT_SWAP
  ⟨0x140100, [(24, 0x1000), (4, 0x40)], 0xc80000, 0xffff03ff, 0x0, 0x0, 0x0, 0x0, false⟩, -- BAY_COND_CTRL
  ⟨0x140104, [(24, 0x1000), (4, 0x40)], 0x800080c0, 0xff3fffff, 0x0, 0x0, 0x0, 0x0, false⟩, -- BAY_Q_CFG
  ⟨0x140108, [(24, 0x1000), (4, 0x40)], 0x0, 0x0, 0x0, 0x0, 0x0, 0x0, false⟩, -- BAY_COND_STATUS
  ⟨0x14010c, [(24, 0x1000), (4, 0x40)], 0x0, 0x0, 0x0, 0x0, 0x3, 0x0, false⟩, -- BAY_COND_CMD
  ⟨0x140110, [(24, 0x1000), (4, 0x40)], 0x0, 0x1fffc0, 0x0, 0x0, 0x0, 0x0, false⟩, -- BAY_FF_BASE0
  ⟨0x140114, [(24, 0x1000), (4, 0x40)], 0x0, 0x1fffc0, 0x0, 0x0, 0x0, 0x0, false⟩, -- BAY_FF_BASE1
  ⟨0x140118, [(24, 0x1000), (4, 0x40)], 0x0, 0x1fffc0, 0x0, 0x0, 0x0, 0x0, false⟩, -- BAY_DEF_BASE0
  ⟨0x14011c, [(24, 0x1000), (4, 0x40)], 0x0, 0x1fffc0, 0x0, 0x0, 0x0, 0x0, false⟩, -- BAY_DEF_BASE1
  ⟨0x140120, [(24, 0x1000), (4, 0x40)], 0x0, 0x1fffc0, 0x0, 0x0, 0x0, 0x0, false⟩, -- BAY_LUT_BASE0
  ⟨0x140124, [(24, 0x1000), (4, 0x40)], 0x0, 0x1fffc0, 0x0, 0x0, 0x0, 0x0, false⟩, -- BAY_LUT_BASE1
  ⟨0x140128, [(24, 0x1000), (4, 0x40)], 0x0, 0x1fffc0, 0x0, 0x0, 0x0, 0x0, false⟩, -- BAY_HIST_BASE
  ⟨0x14012c, [(24, 0x1000), (4, 0x40)], 0x0, 0x1fffc0, 0x0, 0x0, 0x0, 0x0, false⟩, -- BAY_RING_BASE
  ⟨0x140130, [(24, 0x1000), (4, 0x40)], 0x0, 0x3fffff, 0x0, 0x0, 0x0, 0x0, false⟩, -- BAY_RING_SIZE
  ⟨0x140134, [(24, 0x1000), (4, 0x40)], 0x0, 0xffffffff, 0x0, 0x0, 0x0, 0x0, false⟩, -- BAY_COND_POST
  ⟨0x140200, [(24, 0x1000), (128, 0x4)], 0x0, 0xffffffff, 0x0, 0x0, 0x0, 0x0, false⟩, -- BAY_RS_KERNEL
  ⟨0x140400, [(24, 0x1000), (8, 0x100)], 0x0, 0xff01, 0x0, 0x0, 0x0, 0x0, false⟩, -- ENG_CTRL
  ⟨0x140404, [(24, 0x1000), (8, 0x100)], 0x0, 0x0, 0x0, 0x0, 0x0, 0x0, false⟩, -- ENG_STATUS
  ⟨0x140408, [(24, 0x1000), (8, 0x100)], 0x0, 0x0, 0x0, 0x0, 0x3, 0x0, false⟩, -- ENG_CMD
  ⟨0x14040c, [(24, 0x1000), (8, 0x100)], 0x0, 0x0, 0x0, 0x3f, 0x0, 0x0, false⟩, -- ENG_EVENTS
  ⟨0x140410, [(24, 0x1000), (8, 0x100)], 0x0, 0x3f, 0x0, 0x0, 0x0, 0x0, false⟩, -- ENG_EVENTS_EN
  ⟨0x140414, [(24, 0x1000), (8, 0x100)], 0x0, 0x1fffc0, 0x0, 0x0, 0x0, 0x0, false⟩, -- ENG_OUT_BASE
  ⟨0x140418, [(24, 0x1000), (8, 0x100)], 0x0, 0xf7fff, 0x0, 0x0, 0x0, 0x0, false⟩, -- ENG_OUT_SLOTS
  ⟨0x14041c, [(24, 0x1000), (8, 0x100)], 0x0, 0x0, 0x0, 0x0, 0x0, 0x0, false⟩, -- ENG_KERNEL_ID
  ⟨0x140420, [(24, 0x1000), (8, 0x100), (8, 0x4)], 0x0, 0xc000dfff, 0x0, 0x0, 0x0, 0x0, false⟩, -- ENG_IN_CFG
  ⟨0x140440, [(24, 0x1000), (8, 0x100), (8, 0x4)], 0x0, 0x1ffffff, 0x0, 0x0, 0x0, 0x0, false⟩, -- ENG_IN_SRC
  ⟨0x140460, [(24, 0x1000), (8, 0x100), (8, 0x4)], 0x0, 0xffffff, 0x0, 0x0, 0x0, 0x0, false⟩, -- ENG_IN_BUDGET
  ⟨0x140480, [(24, 0x1000), (8, 0x100), (8, 0x4)], 0x0, 0xffffffff, 0x0, 0x0, 0x0, 0x0, false⟩, -- ENG_WIN
  ⟨0x1404a0, [(24, 0x1000), (8, 0x100)], 0x0, 0x0, 0x0, 0x0, 0x0, 0x0, false⟩, -- ENG_FAULT_STATUS
  ⟨0x1404a4, [(24, 0x1000), (8, 0x100)], 0x0, 0x0, 0x0, 0x0, 0x0, 0x0, false⟩, -- ENG_FAULT_CAPCOUNT
  ⟨0x1404a8, [(24, 0x1000), (8, 0x100)], 0x0, 0x0, 0x0, 0x0, 0x0, 0x0, false⟩ -- ENG_FAULT_INFO
  ]

def rowsBay2 : List RegRow := [
  ⟨0x1404ac, [(24, 0x1000), (8, 0x100)], 0x0, 0x0, 0x0, 0x0, 0x0, 0x0, false⟩, -- ENG_FAULT_ADDR
  ⟨0x1404b0, [(24, 0x1000), (8, 0x100)], 0x0, 0x0, 0x0, 0x0, 0x0, 0x0, false⟩, -- ENG_FAULT_CYCLE_LO
  ⟨0x1404b4, [(24, 0x1000), (8, 0x100)], 0x0, 0x0, 0x0, 0x0, 0x0, 0x0, false⟩, -- ENG_FAULT_CYCLE_HI
  ⟨0x1404c0, [(24, 0x1000), (8, 0x100)], 0x0, 0x0, 0x0, 0x0, 0x0, 0x0, false⟩, -- ENG_CNT_ACT
  ⟨0x1404c4, [(24, 0x1000), (8, 0x100)], 0x0, 0x0, 0x0, 0x0, 0x0, 0x0, false⟩, -- ENG_CNT_FAULT
  ⟨0x1404c8, [(24, 0x1000), (8, 0x100)], 0x0, 0x0, 0x0, 0x0, 0x0, 0x0, false⟩, -- ENG_CNT_BUSY_LO
  ⟨0x1404cc, [(24, 0x1000), (8, 0x100)], 0x0, 0x0, 0x0, 0x0, 0x0, 0x0, false⟩, -- ENG_CNT_BUSY_HI
  ⟨0x1404d0, [(24, 0x1000), (8, 0x100)], 0x0, 0x0, 0x0, 0x0, 0x0, 0x0, false⟩, -- ENG_CNT_BUDGET
  ⟨0x1404d4, [(24, 0x1000), (8, 0x100)], 0x0, 0x0, 0x0, 0x0, 0x0, 0x0, false⟩, -- ENG_CNT_LOST
  ⟨0x1404d8, [(24, 0x1000), (8, 0x100)], 0x0, 0x0, 0x0, 0x0, 0x0, 0x0, false⟩, -- ENG_CNT_COINC
  ⟨0x1404dc, [(24, 0x1000), (8, 0x100)], 0x0, 0x0, 0x0, 0x0, 0x0, 0x0, false⟩, -- ENG_CNT_SKIPPED
  ⟨0x1404e0, [(24, 0x1000), (8, 0x100)], 0x0, 0x0, 0x0, 0x0, 0x0, 0x0, false⟩, -- ENG_CNT_EMIT
  ⟨0x1404e4, [(24, 0x1000), (8, 0x100)], 0x0, 0x0, 0x0, 0x0, 0x0, 0x0, false⟩, -- ENG_CNT_MEM_CORR
  ⟨0x1404e8, [(24, 0x1000), (8, 0x100)], 0x0, 0x0, 0x0, 0x0, 0x0, 0x0, false⟩, -- ENG_CNT_LOOP
  ⟨0x1404f8, [(24, 0x1000), (8, 0x100)], 0x0, 0x0, 0x0, 0x0, 0x0, 0x0, false⟩, -- ENG_KERNEL_ID_HI
  ⟨0x140c00, [(24, 0x1000), (8, 0x20)], 0x0, 0xfff0071, 0x0, 0x0, 0x0, 0x0, false⟩, -- BAY_DMA_CFG
  ⟨0x140c04, [(24, 0x1000), (8, 0x20)], 0x0, 0x1fffe0, 0x0, 0x0, 0x0, 0x0, false⟩, -- BAY_DMA_BASE
  ⟨0x140c08, [(24, 0x1000), (8, 0x20)], 0x0, 0x0, 0x0, 0x0, 0x0, 0x0, false⟩, -- BAY_DMA_STATUS
  ⟨0x140c0c, [(24, 0x1000), (8, 0x20)], 0x0, 0x0, 0x0, 0x0, 0x0, 0x0, false⟩, -- BAY_DMA_CNT_DONE
  ⟨0x140c10, [(24, 0x1000), (8, 0x20)], 0x0, 0x0, 0x0, 0x0, 0x0, 0x0, false⟩, -- BAY_DMA_CNT_ERR
  ⟨0x140d00, [(24, 0x1000), (4, 0x10)], 0x0, 0xffff0003, 0x0, 0x0, 0x0, 0x0, false⟩, -- BAY_DDR_WIN_BASE_LO
  ⟨0x140d04, [(24, 0x1000), (4, 0x10)], 0x0, 0xffffffff, 0x0, 0x0, 0x0, 0x0, false⟩, -- BAY_DDR_WIN_BASE_HI
  ⟨0x140d08, [(24, 0x1000), (4, 0x10)], 0x0, 0xffffffff, 0x0, 0x0, 0x0, 0x0, false⟩, -- BAY_DDR_WIN_SIZE_LO
  ⟨0x140d0c, [(24, 0x1000), (4, 0x10)], 0x0, 0xffffffff, 0x0, 0x0, 0x0, 0x0, false⟩, -- BAY_DDR_WIN_SIZE_HI
  ⟨0x140d40, [(24, 0x1000), (4, 0x4)], 0x0, 0x17ff, 0x0, 0x0, 0x0, 0x0, false⟩, -- BAY_ENG_GANG
  ⟨0x140d50, [(24, 0x1000), (4, 0x4)], 0x0, 0xffffffff, 0x0, 0x0, 0x0, 0x0, false⟩ -- BAY_PUSH_ALLOW
  ]

/-- The rows of block Bay. -/
def rowsBay : List RegRow := rowsBay1 ++ rowsBay2

def rowsStitch : List RegRow := [
  ⟨0x180000, [(16, 0x800)], 0x0, 0x7f0031, 0x0, 0x0, 0x0, 0x0, false⟩, -- STITCH_CTRL
  ⟨0x180004, [(16, 0x800)], 0x0, 0x7ffff, 0x0, 0x0, 0x0, 0x0, false⟩, -- STITCH_PIXELS
  ⟨0x180008, [(16, 0x800)], 0x64, 0xffff, 0x0, 0x0, 0x0, 0x0, false⟩, -- STITCH_TIMING
  ⟨0x18000c, [(16, 0x800)], 0x0, 0x7fffff, 0x0, 0x0, 0x0, 0x0, false⟩, -- STITCH_FILL
  ⟨0x180010, [(16, 0x800)], 0x0, 0x0, 0x0, 0x0, 0x0, 0x0, false⟩, -- STITCH_STATUS
  ⟨0x180014, [(16, 0x800)], 0x0, 0x0, 0x0, 0x1f, 0x0, 0x0, false⟩, -- STITCH_EVENTS
  ⟨0x180018, [(16, 0x800)], 0x0, 0x1f, 0x0, 0x0, 0x0, 0x0, false⟩, -- STITCH_EVENTS_EN
  ⟨0x180020, [(16, 0x800)], 0x0, 0x0, 0x0, 0x0, 0x0, 0x0, false⟩, -- STITCH_CLOSED_HIGH_LO
  ⟨0x180024, [(16, 0x800)], 0x0, 0x0, 0x0, 0x0, 0x0, 0x0, false⟩, -- STITCH_CLOSED_HIGH_HI
  ⟨0x180040, [(16, 0x800)], 0x0, 0x0, 0x0, 0x0, 0x0, 0x0, false⟩, -- STITCH_LAST_STATUS
  ⟨0x180044, [(16, 0x800)], 0x0, 0x0, 0x0, 0x0, 0x0, 0x0, false⟩, -- STITCH_LAST_CAPCOUNT
  ⟨0x180048, [(16, 0x800)], 0x0, 0x0, 0x0, 0x0, 0x0, 0x0, false⟩, -- STITCH_LAST_LINE_LO
  ⟨0x18004c, [(16, 0x800)], 0x0, 0x0, 0x0, 0x0, 0x0, 0x0, false⟩, -- STITCH_LAST_LINE_HI
  ⟨0x180050, [(16, 0x800), (3, 0x4)], 0x0, 0x0, 0x0, 0x0, 0x0, 0x0, false⟩, -- STITCH_LAST_MAP
  ⟨0x18005c, [(16, 0x800)], 0x0, 0x0, 0x0, 0x0, 0x0, 0x0, false⟩, -- STITCH_LAST_FLAGS
  ⟨0x180080, [(16, 0x800)], 0x0, 0x0, 0x0, 0x0, 0x0, 0x0, false⟩, -- STITCH_CNT_BENTS
  ⟨0x180084, [(16, 0x800)], 0x0, 0x0, 0x0, 0x0, 0x0, 0x0, false⟩, -- STITCH_CNT_PARTIAL
  ⟨0x180088, [(16, 0x800)], 0x0, 0x0, 0x0, 0x0, 0x0, 0x0, false⟩, -- STITCH_CNT_SEG_MISSING
  ⟨0x18008c, [(16, 0x800)], 0x0, 0x0, 0x0, 0x0, 0x0, 0x0, false⟩, -- STITCH_CNT_TIMEOUT
  ⟨0x180090, [(16, 0x800)], 0x0, 0x0, 0x0, 0x0, 0x0, 0x0, false⟩, -- STITCH_CNT_FORCED
  ⟨0x180094, [(16, 0x800)], 0x0, 0x0, 0x0, 0x0, 0x0, 0x0, false⟩, -- STITCH_CNT_STRAGGLER
  ⟨0x180098, [(16, 0x800)], 0x0, 0x0, 0x0, 0x0, 0x0, 0x0, false⟩, -- STITCH_CNT_MEM_CORR
  ⟨0x18009c, [(16, 0x800)], 0x0, 0x0, 0x0, 0x0, 0x0, 0x0, false⟩, -- STITCH_CNT_MEM_UNCORR
  ⟨0x180200, [(16, 0x800), (96, 0x10)], 0x0, 0x7f03ffff, 0x0, 0x0, 0x0, 0x0, false⟩, -- STITCH_SEG_W0
  ⟨0x180204, [(16, 0x800), (96, 0x10)], 0x0, 0x3fffffff, 0x0, 0x0, 0x0, 0x0, false⟩, -- STITCH_SEG_W1
  ⟨0x180208, [(16, 0x800), (96, 0x10)], 0x0, 0x1ffffff, 0x0, 0x0, 0x0, 0x0, false⟩, -- STITCH_SEG_W2
  ⟨0x18020c, [(16, 0x800), (96, 0x10)], 0x0, 0xffff7fff, 0x0, 0x0, 0x0, 0x0, false⟩, -- STITCH_SEG_W3
  ⟨0x188000, [(96, 0x40)], 0x0, 0x3fff7fff, 0x0, 0x0, 0x0, 0x0, false⟩, -- KERF_CFG
  ⟨0x188008, [(96, 0x40)], 0x0, 0xffffffc0, 0x0, 0x0, 0x0, 0x0, false⟩, -- KERF_BASE_LO
  ⟨0x18800c, [(96, 0x40)], 0x0, 0xffffffff, 0x0, 0x0, 0x0, 0x0, false⟩, -- KERF_BASE_HI
  ⟨0x188010, [(96, 0x40)], 0x0, 0x1fffff, 0x0, 0x0, 0x0, 0x0, false⟩, -- KERF_SLOT
  ⟨0x188014, [(96, 0x40)], 0x0, 0xffffff, 0x0, 0x0, 0x0, 0x0, false⟩, -- KERF_MAX_US
  ⟨0x188018, [(96, 0x40)], 0x0, 0xffffff, 0x0, 0x0, 0x0, 0x0, false⟩, -- KERF_MIN_RATE
  ⟨0x18801c, [(96, 0x40)], 0x0, 0x0, 0x0, 0x0, 0x0, 0x0, false⟩, -- KERF_STATUS
  ⟨0x188020, [(96, 0x40)], 0x0, 0x0, 0x0, 0x0, 0x0, 0x0, false⟩, -- KERF_CNT_EARLY
  ⟨0x188024, [(96, 0x40)], 0x0, 0x0, 0x0, 0x0, 0x0, 0x0, false⟩, -- KERF_CNT_FLUSH
  ⟨0x188028, [(96, 0x40)], 0x0, 0x0, 0x0, 0x0, 0x0, 0x0, false⟩ -- KERF_CNT_FULL
  ]

def rowsDdr : List RegRow := [
  ⟨0x1c0000, [(8, 0x1000)], 0x60, 0x0, 0xf771, 0x0, 0x0, 0x0, false⟩, -- DDR_CFG
  ⟨0x1c0004, [(8, 0x1000)], 0x0, 0x0, 0x0, 0x0, 0x0, 0x0, false⟩, -- DDR_STATUS
  ⟨0x1c0008, [(8, 0x1000)], 0x0, 0x0, 0x0, 0x0, 0x1, 0x0, true⟩, -- DDR_CTRL
  ⟨0x1c000c, [(8, 0x1000)], 0x0, 0x9f9f, 0x0, 0x0, 0x0, 0x0, true⟩, -- DDR_ERASE
  ⟨0x1c0010, [(8, 0x1000)], 0x80040010, 0x0, 0x80ffffff, 0x0, 0x0, 0x0, false⟩, -- DDR_POLICY
  ⟨0x1c0014, [(8, 0x1000)], 0x800003e8, 0x0, 0x8000ffff, 0x0, 0x0, 0x0, false⟩, -- DDR_SCRUB
  ⟨0x1c0018, [(8, 0x1000)], 0x0, 0x0, 0x0, 0x7f, 0x0, 0x0, false⟩, -- DDR_EVENTS
  ⟨0x1c001c, [(8, 0x1000)], 0x0, 0x7f, 0x0, 0x0, 0x0, 0x0, false⟩, -- DDR_EVENTS_EN
  ⟨0x1c0020, [(8, 0x1000)], 0x0, 0x0, 0x0, 0x0, 0x0, 0x0, false⟩, -- DDR_SCRUB_NEXT_LO
  ⟨0x1c0024, [(8, 0x1000)], 0x0, 0x0, 0x0, 0x0, 0x0, 0x0, false⟩, -- DDR_SCRUB_NEXT_HI
  ⟨0x1c0040, [(8, 0x1000)], 0x0, 0x0, 0x0, 0x0, 0x0, 0x0, false⟩, -- DDR_ERR_STATUS
  ⟨0x1c0044, [(8, 0x1000)], 0x0, 0x0, 0x0, 0x0, 0x0, 0x0, false⟩, -- DDR_ERR_CAPCOUNT
  ⟨0x1c0048, [(8, 0x1000)], 0x0, 0x0, 0x0, 0x0, 0x0, 0x0, false⟩, -- DDR_ERR_ADDR_LO
  ⟨0x1c004c, [(8, 0x1000)], 0x0, 0x0, 0x0, 0x0, 0x0, 0x0, false⟩, -- DDR_ERR_ADDR_HI
  ⟨0x1c0050, [(8, 0x1000)], 0x0, 0x0, 0x0, 0x0, 0x0, 0x0, false⟩, -- DDR_ERR_INFO
  ⟨0x1c0060, [(8, 0x1000)], 0x0, 0x0, 0x0, 0x0, 0x0, 0x0, false⟩, -- DDR_ERR_TIME_T0
  ⟨0x1c0064, [(8, 0x1000)], 0x0, 0x0, 0x0, 0x0, 0x0, 0x0, false⟩, -- DDR_ERR_TIME_T1
  ⟨0x1c0068, [(8, 0x1000)], 0x0, 0x0, 0x0, 0x0, 0x0, 0x0, false⟩, -- DDR_ERR_TIME_T2
  ⟨0x1c006c, [(8, 0x1000)], 0x0, 0x0, 0x0, 0x0, 0x0, 0x0, false⟩, -- DDR_ERR_TIME_T3
  ⟨0x1c0080, [(8, 0x1000)], 0x8, 0x0, 0x3f, 0x0, 0x0, 0x0, false⟩, -- DDR_ARB_CFG
  ⟨0x1c0084, [(8, 0x1000)], 0x0, 0x0, 0xfffffff, 0x0, 0x0, 0x0, false⟩, -- DDR_ARB_PRIV
  ⟨0x1c0090, [(8, 0x1000), (4, 0x4)], 0x0, 0x77777777, 0x0, 0x0, 0x0, 0x0, false⟩, -- DDR_ARB_RANK
  ⟨0x1c00a0, [(8, 0x1000)], 0x1f, 0x0, 0x0, 0x0, 0x0, 0x0, false⟩, -- DDR_ARB_HOLD
  ⟨0x1c00c0, [(8, 0x1000)], 0x0, 0x0, 0x0, 0x0, 0x0, 0x0, false⟩, -- DDR_CNT_CORR
  ⟨0x1c00c4, [(8, 0x1000)], 0x0, 0x0, 0x0, 0x0, 0x0, 0x0, false⟩, -- DDR_CNT_UNCORR
  ⟨0x1c00c8, [(8, 0x1000)], 0x0, 0x0, 0x0, 0x0, 0x0, 0x0, false⟩, -- DDR_CNT_ERASED
  ⟨0x1c00cc, [(8, 0x1000)], 0x0, 0x0, 0x0, 0x0, 0x0, 0x0, false⟩, -- DDR_CNT_SCRUB_PASS
  ⟨0x1c00d0, [(8, 0x1000)], 0x0, 0x0, 0x0, 0x0, 0x0, 0x0, false⟩, -- DDR_CNT_ALERT
  ⟨0x1c00d4, [(8, 0x1000)], 0x0, 0x0, 0x0, 0x0, 0x0, 0x0, false⟩, -- DDR_CNT_PREEMPT
  ⟨0x1c00d8, [(8, 0x1000)], 0x0, 0x0, 0x0, 0x0, 0x0, 0x0, false⟩, -- DDR_CNT_NTH
  ⟨0x1c00dc, [(8, 0x1000)], 0x0, 0x0, 0x0, 0x0, 0x0, 0x0, false⟩, -- DDR_CNT_RMW_DROP
  ⟨0x1c00e0, [(8, 0x1000)], 0x0, 0x0, 0x0, 0x0, 0x0, 0x0, false⟩, -- DDR_CNT_SCRUB_DROP
  ⟨0x1c0100, [(8, 0x1000), (36, 0x4)], 0x0, 0x0, 0x0, 0x0, 0x0, 0x0, false⟩, -- DDR_CNT_POS
  ⟨0x1c0200, [(8, 0x1000), (28, 0x4)], 0x0, 0x0, 0x0, 0x0, 0x0, 0x0, false⟩, -- DDR_CNT_LOSS
  ⟨0x1c0300, [(8, 0x1000)], 0x0, 0x0, 0xffffffff, 0x0, 0x0, 0x0, false⟩, -- DDR_RECALL_SEG_BASE_LO
  ⟨0x1c0304, [(8, 0x1000)], 0x0, 0x0, 0xffffffff, 0x0, 0x0, 0x0, false⟩, -- DDR_RECALL_SEG_BASE_HI
  ⟨0x1c0308, [(8, 0x1000)], 0x0, 0x0, 0xffffffff, 0x0, 0x0, 0x0, false⟩, -- DDR_RECALL_SEG_SIZE_LO
  ⟨0x1c030c, [(8, 0x1000)], 0x0, 0x0, 0xffffffff, 0x0, 0x0, 0x0, false⟩ -- DDR_RECALL_SEG_SIZE_HI
  ]

def rowsDlv1 : List RegRow := [
  ⟨0x200000, [(256, 0x100)], 0x0, 0xffff0337, 0x0, 0x0, 0x0, 0x0, true⟩, -- DLV_CFG
  ⟨0x200004, [(256, 0x100)], 0x0, 0x0, 0x0, 0x0, 0x0, 0x0, false⟩, -- DLV_PROMISE
  ⟨0x200008, [(256, 0x100)], 0x0, 0x0, 0x0, 0x0, 0x0, 0x0, false⟩, -- DLV_RESERVED
  ⟨0x20000c, [(256, 0x100)], 0x0, 0x0, 0x0, 0x0, 0x0, 0x0, false⟩, -- DLV_STATUS
  ⟨0x200010, [(256, 0x100)], 0x0, 0x0, 0x0, 0x3f, 0x0, 0x0, false⟩, -- DLV_EVENTS
  ⟨0x200014, [(256, 0x100)], 0x0, 0x3f, 0x0, 0x0, 0x0, 0x0, false⟩, -- DLV_EVENTS_EN
  ⟨0x200018, [(256, 0x100)], 0x0, 0xffff07ff, 0x0, 0x0, 0x0, 0x0, true⟩, -- DLV_IRQ
  ⟨0x200020, [(256, 0x100)], 0x0, 0x0, 0x0, 0x0, 0x0, 0x0, false⟩, -- DLV_CNT_TAGS
  ⟨0x200024, [(256, 0x100)], 0x0, 0x0, 0x0, 0x0, 0x0, 0x0, false⟩, -- DLV_CNT_BREACH
  ⟨0x200028, [(256, 0x100)], 0x0, 0x0, 0x0, 0x0, 0x0, 0x0, false⟩, -- DLV_CNT_UNPOSTED
  ⟨0x20002c, [(256, 0x100)], 0x0, 0x0, 0x0, 0x0, 0x0, 0x0, false⟩, -- DLV_CNT_LOSS
  ⟨0x200030, [(256, 0x100)], 0x0, 0x0, 0x0, 0x0, 0x0, 0x0, false⟩, -- DLV_CNT_PORTLOST
  ⟨0x200034, [(256, 0x100)], 0x0, 0x0, 0x0, 0x0, 0x0, 0x0, false⟩, -- DLV_CNT_BADDESC
  ⟨0x200038, [(256, 0x100)], 0x0, 0x0, 0x0, 0x0, 0x0, 0x0, false⟩, -- DLV_CNT_OVERRATE
  ⟨0x20003c, [(256, 0x100)], 0x0, 0x0, 0x0, 0x0, 0x0, 0x0, false⟩, -- DLV_CNT_WAIT
  ⟨0x200080, [(256, 0x100), (2, 0x40)], 0x0, 0xffffffff, 0x0, 0x0, 0x0, 0x0, true⟩, -- DLV_DESC_BASE_LO
  ⟨0x200084, [(256, 0x100), (2, 0x40)], 0x0, 0xffffffff, 0x0, 0x0, 0x0, 0x0, true⟩, -- DLV_DESC_BASE_HI
  ⟨0x200088, [(256, 0x100), (2, 0x40)], 0x0, 0xffffffff, 0x0, 0x0, 0x0, 0x0, true⟩, -- DLV_CPL_BASE_LO
  ⟨0x20008c, [(256, 0x100), (2, 0x40)], 0x0, 0xffffffff, 0x0, 0x0, 0x0, 0x0, true⟩, -- DLV_CPL_BASE_HI
  ⟨0x200090, [(256, 0x100), (2, 0x40)], 0x0, 0xffffffff, 0x0, 0x0, 0x0, 0x0, true⟩, -- DLV_IDX_ADDR_LO
  ⟨0x200094, [(256, 0x100), (2, 0x40)], 0x0, 0xffffffff, 0x0, 0x0, 0x0, 0x0, true⟩, -- DLV_IDX_ADDR_HI
  ⟨0x200098, [(256, 0x100), (2, 0x40)], 0x0, 0x87ff001f, 0x0, 0x0, 0x0, 0x0, true⟩, -- DLV_RING_CFG
  ⟨0x20009c, [(256, 0x100), (2, 0x40)], 0x0, 0xffffffff, 0x0, 0x0, 0x0, 0x0, false⟩, -- DLV_DESC_TAIL
  ⟨0x2000a0, [(256, 0x100), (2, 0x40)], 0x0, 0x0, 0x0, 0x0, 0x0, 0x0, false⟩, -- DLV_DESC_HEAD
  ⟨0x2000a4, [(256, 0x100), (2, 0x40)], 0x0, 0x0, 0x0, 0x0, 0x0, 0x0, false⟩, -- DLV_TAGS
  ⟨0x210000, [], 0x0, 0x0, 0x0, 0x0, 0x0, 0x0, false⟩, -- DLV_LEDGER_USE
  ⟨0x210004, [], 0x0, 0x0, 0x0, 0x0, 0x0, 0x0, false⟩, -- DLV_LEDGER_RES
  ⟨0x210008, [], 0x0, 0x0, 0x0, 0x0, 0x0, 0x0, false⟩, -- DLV_LEDGER_PEAK
  ⟨0x210010, [(6, 0x4)], 0x0, 0x0, 0x0, 0x0, 0x0, 0x0, false⟩, -- DLV_LEDGER_STATE
  ⟨0x210040, [], 0x0, 0x0, 0x0, 0x0, 0x0, 0x0, false⟩, -- DLV_CNT_NOENTRY
  ⟨0x210100, [], 0x0, 0x3ffff00, 0x0, 0x0, 0x80000000, 0x0, false⟩, -- DLV_RECALL_REQ
  ⟨0x210104, [], 0x0, 0xffff, 0x0, 0x0, 0x0, 0x0, false⟩, -- DLV_RECALL_MAX_LINES
  ⟨0x210108, [], 0x0, 0xffffffff, 0x0, 0x0, 0x0, 0x0, false⟩, -- DLV_RECALL_FROM_LO
  ⟨0x21010c, [], 0x0, 0xffffffff, 0x0, 0x0, 0x0, 0x0, false⟩, -- DLV_RECALL_FROM_HI
  ⟨0x210110, [], 0x0, 0xffffffff, 0x0, 0x0, 0x0, 0x0, false⟩, -- DLV_RECALL_TO_LO
  ⟨0x210114, [], 0x0, 0xffffffff, 0x0, 0x0, 0x0, 0x0, false⟩, -- DLV_RECALL_TO_HI
  ⟨0x210118, [], 0x0, 0xffffffff, 0x0, 0x0, 0x0, 0x0, false⟩, -- DLV_RECALL_NOT_BEFORE_LO
  ⟨0x21011c, [], 0x0, 0xffffffff, 0x0, 0x0, 0x0, 0x0, false⟩, -- DLV_RECALL_NOT_BEFORE_HI
  ⟨0x210120, [], 0x0, 0x0, 0x0, 0x0, 0x0, 0x0, false⟩, -- DLV_RECALL_RES_STATUS
  ⟨0x210124, [], 0x0, 0x0, 0x0, 0x0, 0x0, 0x0, false⟩ -- DLV_RECALL_RES_FOUND
  ]

def rowsDlv2 : List RegRow := [
  ⟨0x210128, [], 0x0, 0x0, 0x0, 0x0, 0x0, 0x0, false⟩, -- DLV_RECALL_RES_SCANNED
  ⟨0x21012c, [], 0x0, 0x0, 0x0, 0x0, 0x0, 0x0, false⟩, -- DLV_RECALL_RES_END
  ⟨0x210200, [(2, 0x40)], 0x8, 0x0, 0x3f, 0x0, 0x0, 0x0, false⟩, -- DLV_ARB_CFG
  ⟨0x210208, [(2, 0x40)], 0x0, 0x0, 0x0, 0x0, 0x0, 0x0, false⟩, -- DLV_ARB_PRIV_LO
  ⟨0x21020c, [(2, 0x40)], 0x0, 0x0, 0x0, 0x0, 0x0, 0x0, false⟩, -- DLV_ARB_PRIV_HI
  ⟨0x210210, [(2, 0x40), (6, 0x4)], 0x0, 0x77777777, 0x0, 0x0, 0x0, 0x0, true⟩, -- DLV_ARB_RANK
  ⟨0x210230, [(2, 0x40)], 0x3f, 0x0, 0x0, 0x0, 0x0, 0x0, false⟩ -- DLV_ARB_HOLD
  ]

/-- The rows of block Dlv. -/
def rowsDlv : List RegRow := rowsDlv1 ++ rowsDlv2

def rowsPcie : List RegRow := [
  ⟨0x244000, [(2, 0x4000)], 0x261, 0x0, 0x371, 0x0, 0x0, 0x0, false⟩, -- PCIE_CFG
  ⟨0x244004, [(2, 0x4000)], 0x0, 0x0, 0xffffffff, 0x0, 0x0, 0x0, false⟩, -- PCIE_SUBSYS
  ⟨0x244008, [(2, 0x4000)], 0x0, 0x0, 0x0, 0x0, 0x0, 0x0, false⟩, -- PCIE_LINK
  ⟨0x24400c, [(2, 0x4000)], 0x0, 0x0, 0x0, 0x0, 0x0, 0x0, false⟩, -- PCIE_STATUS
  ⟨0x244010, [(2, 0x4000)], 0x0, 0x0, 0x0, 0x7f, 0x0, 0x0, false⟩, -- PCIE_EVENTS
  ⟨0x244014, [(2, 0x4000)], 0x0, 0x7f, 0x0, 0x0, 0x0, 0x0, false⟩, -- PCIE_EVENTS_EN
  ⟨0x244018, [(2, 0x4000)], 0x0, 0x3fff, 0x0, 0x0, 0x0, 0x0, false⟩, -- PCIE_IRQ_EN
  ⟨0x24401c, [(2, 0x4000)], 0x0, 0x0, 0x0, 0x0, 0x0, 0x0, false⟩, -- PCIE_IRQ_SRC
  ⟨0x244020, [(2, 0x4000)], 0x0, 0x0, 0x0, 0x0, 0x1, 0x0, false⟩, -- PCIE_WIN_CMD
  ⟨0x244024, [(2, 0x4000)], 0x0, 0x0, 0x0, 0x0, 0x0, 0x0, false⟩, -- PCIE_WIN_STATUS
  ⟨0x244040, [(2, 0x4000)], 0x0, 0x0, 0x0, 0x0, 0x0, 0x0, false⟩, -- PCIE_UR_STATUS
  ⟨0x244044, [(2, 0x4000)], 0x0, 0x0, 0x0, 0x0, 0x0, 0x0, false⟩, -- PCIE_UR_CAPCOUNT
  ⟨0x244048, [(2, 0x4000)], 0x0, 0x0, 0x0, 0x0, 0x0, 0x0, false⟩, -- PCIE_UR_ADDR_LO
  ⟨0x24404c, [(2, 0x4000)], 0x0, 0x0, 0x0, 0x0, 0x0, 0x0, false⟩, -- PCIE_UR_ADDR_HI
  ⟨0x244050, [(2, 0x4000)], 0x0, 0x0, 0x0, 0x0, 0x0, 0x0, false⟩, -- PCIE_UR_INFO
  ⟨0x244080, [(2, 0x4000)], 0x0, 0x0, 0x0, 0x0, 0x0, 0x0, false⟩, -- PCIE_CNT_UR
  ⟨0x244084, [(2, 0x4000)], 0x0, 0x0, 0x0, 0x0, 0x0, 0x0, false⟩, -- PCIE_CNT_LATE_CPL
  ⟨0x244088, [(2, 0x4000)], 0x0, 0x0, 0x0, 0x0, 0x0, 0x0, false⟩, -- PCIE_CNT_CORR
  ⟨0x24408c, [(2, 0x4000)], 0x0, 0x0, 0x0, 0x0, 0x0, 0x0, false⟩, -- PCIE_CNT_LINKDOWN
  ⟨0x244100, [(2, 0x4000), (16, 0x10)], 0x0, 0xb01fffff, 0x0, 0x0, 0x0, 0x0, false⟩, -- PCIE_WIN_W0
  ⟨0x244104, [(2, 0x4000), (16, 0x10)], 0x0, 0xfffff, 0x0, 0x0, 0x0, 0x0, false⟩, -- PCIE_WIN_W1
  ⟨0x244108, [(2, 0x4000), (16, 0x10)], 0x0, 0xffff0000, 0x0, 0x0, 0x0, 0x0, false⟩, -- PCIE_WIN_W2
  ⟨0x24410c, [(2, 0x4000), (16, 0x10)], 0x0, 0x7f, 0x0, 0x0, 0x0, 0x0, false⟩, -- PCIE_WIN_W3
  ⟨0x244200, [(2, 0x4000), (16, 0x10)], 0x0, 0x0, 0x0, 0x0, 0x0, 0x0, false⟩, -- PCIE_WIN_ACTIVE_W0
  ⟨0x244204, [(2, 0x4000), (16, 0x10)], 0x0, 0x0, 0x0, 0x0, 0x0, 0x0, false⟩, -- PCIE_WIN_ACTIVE_W1
  ⟨0x244208, [(2, 0x4000), (16, 0x10)], 0x0, 0x0, 0x0, 0x0, 0x0, 0x0, false⟩, -- PCIE_WIN_ACTIVE_W2
  ⟨0x24420c, [(2, 0x4000), (16, 0x10)], 0x0, 0x0, 0x0, 0x0, 0x0, 0x0, false⟩ -- PCIE_WIN_ACTIVE_W3
  ]

def rowsSill : List RegRow := [
  ⟨0x280000, [], 0x0, 0x0, 0xffff33ff, 0x0, 0x0, 0x0, false⟩, -- SILL_CFG
  ⟨0x280004, [], 0xa1e, 0x0, 0xffffffff, 0x0, 0x0, 0x0, false⟩, -- SILL_TWIN_CFG
  ⟨0x280008, [], 0xc03c003c, 0x0, 0xffffffff, 0x0, 0x0, 0x0, false⟩, -- SILL_SWAP_CFG
  ⟨0x28000c, [], 0x20, 0x0, 0xffff, 0x0, 0x0, 0x0, false⟩, -- SILL_TIME_CFG
  ⟨0x280010, [], 0x200, 0x0, 0x0, 0x0, 0x0, 0x0, false⟩, -- SILL_STATUS
  ⟨0x280014, [], 0x0, 0x0, 0x0, 0x0, 0x1, 0x0, true⟩, -- SILL_CMD
  ⟨0x280018, [], 0x0, 0x0, 0x0, 0x3ffff, 0x0, 0x0, false⟩, -- SILL_EVENTS
  ⟨0x28001c, [], 0x0, 0x3ffff, 0x0, 0x0, 0x0, 0x0, false⟩, -- SILL_EVENTS_EN
  ⟨0x280020, [], 0x0, 0x0, 0x0, 0x0, 0x0, 0x0, false⟩, -- SILL_SWAP_AT_T0
  ⟨0x280024, [], 0x0, 0x0, 0x0, 0x0, 0x0, 0x0, false⟩, -- SILL_SWAP_AT_T1
  ⟨0x280028, [], 0x0, 0x0, 0x0, 0x0, 0x0, 0x0, false⟩, -- SILL_SWAP_AT_T2
  ⟨0x28002c, [], 0x0, 0x0, 0x0, 0x0, 0x0, 0x0, false⟩, -- SILL_SWAP_AT_T3
  ⟨0x280030, [], 0x0, 0x0, 0x0, 0x0, 0x0, 0x0, false⟩, -- SILL_TWIN_STATUS
  ⟨0x280040, [], 0x0, 0x0, 0x0, 0x0, 0x0, 0x0, false⟩, -- SILL_CNT_CARRIED_CHANGE
  ⟨0x280044, [], 0x0, 0x0, 0x0, 0x0, 0x0, 0x0, false⟩, -- SILL_CNT_CLAIM
  ⟨0x280048, [], 0x0, 0x0, 0x0, 0x0, 0x0, 0x0, false⟩, -- SILL_CNT_WITHDRAW
  ⟨0x28004c, [], 0x0, 0x0, 0x0, 0x0, 0x0, 0x0, false⟩, -- SILL_CNT_SWAP
  ⟨0x280050, [], 0x0, 0x0, 0x0, 0x0, 0x0, 0x0, false⟩, -- SILL_CNT_SWAP_REFUSED
  ⟨0x280054, [], 0x0, 0x0, 0x0, 0x0, 0x0, 0x0, false⟩, -- SILL_CNT_HB_LOST
  ⟨0x280058, [], 0x0, 0x0, 0x0, 0x0, 0x0, 0x0, false⟩, -- SILL_CNT_EVT_LATE
  ⟨0x28005c, [], 0x0, 0x0, 0x0, 0x0, 0x0, 0x0, false⟩, -- SILL_CNT_SCHED_REJECT
  ⟨0x280100, [(4, 0x80)], 0x0, 0x0, 0xf7, 0x0, 0x0, 0x0, false⟩, -- SILL_PORT_CFG
  ⟨0x280104, [(4, 0x80)], 0x0, 0x0, 0x0, 0x0, 0x0, 0x0, false⟩, -- SILL_PORT_STATUS
  ⟨0x280120, [(4, 0x80)], 0x0, 0x0, 0x0, 0x0, 0x0, 0x0, false⟩, -- SILL_LAT_STATUS
  ⟨0x280124, [(4, 0x80)], 0x0, 0x0, 0x0, 0x0, 0x0, 0x0, false⟩, -- SILL_LAT_L
  ⟨0x280128, [(4, 0x80)], 0x0, 0x0, 0x0, 0x0, 0x0, 0x0, false⟩, -- SILL_LAT_SPREAD
  ⟨0x280140, [(4, 0x80)], 0x0, 0x0, 0x0, 0x0, 0x0, 0x0, false⟩, -- SILL_OFS_STATUS
  ⟨0x280144, [(4, 0x80)], 0x0, 0x0, 0x0, 0x0, 0x0, 0x0, false⟩, -- SILL_OFS_CAPCOUNT
  ⟨0x280148, [(4, 0x80)], 0x0, 0x0, 0x0, 0x0, 0x0, 0x0, false⟩, -- SILL_OFS_THETA_LO
  ⟨0x28014c, [(4, 0x80)], 0x0, 0x0, 0x0, 0x0, 0x0, 0x0, false⟩, -- SILL_OFS_THETA_HI
  ⟨0x280150, [(4, 0x80)], 0x0, 0x0, 0x0, 0x0, 0x0, 0x0, false⟩, -- SILL_OFS_MEAN_LO
  ⟨0x280154, [(4, 0x80)], 0x0, 0x0, 0x0, 0x0, 0x0, 0x0, false⟩, -- SILL_OFS_MEAN_HI
  ⟨0x280160, [(4, 0x80)], 0x0, 0x0, 0x0, 0x0, 0x0, 0x0, false⟩, -- SILL_CNT_CRC
  ⟨0x280164, [(4, 0x80)], 0x0, 0x0, 0x0, 0x0, 0x0, 0x0, false⟩, -- SILL_CNT_DOWN
  ⟨0x280168, [(4, 0x80)], 0x0, 0x0, 0x0, 0x0, 0x0, 0x0, false⟩, -- SILL_CNT_EVT_DROP
  ⟨0x28016c, [(4, 0x80)], 0x0, 0x0, 0x0, 0x0, 0x0, 0x0, false⟩, -- SILL_CNT_MGMT_DROP
  ⟨0x280400, [(32, 0x4)], 0x0, 0x80ffffff, 0x0, 0x0, 0x0, 0x0, false⟩, -- SILL_EVT_CFG
  ⟨0x280500, [], 0x0, 0x0, 0x7fff3fff, 0x0, 0x0, 0x0, false⟩, -- SILL_SCHED_ALLOW
  ⟨0x280510, [(4, 0x4)], 0x0, 0xffffffff, 0x0, 0x0, 0x0, 0x0, false⟩, -- SILL_SCHED_TX
  ⟨0x280520, [], 0x0, 0x3fff, 0x0, 0x0, 0x80000000, 0x0, false⟩ -- SILL_SCHED_CMD
  ]

def rowsGpio : List RegRow := [
  ⟨0x2c0000, [], 0x0, 0x0, 0x0, 0x0, 0x0, 0x0, false⟩, -- GPIO_IN_LO
  ⟨0x2c0004, [], 0x0, 0x0, 0x0, 0x0, 0x0, 0x0, false⟩, -- GPIO_IN_HI
  ⟨0x2c0008, [], 0x0, 0x0, 0x0, 0x0, 0x0, 0x0, false⟩, -- GPIO_DRIVE_LO
  ⟨0x2c000c, [], 0x0, 0x0, 0x0, 0x0, 0x0, 0x0, false⟩, -- GPIO_DRIVE_HI
  ⟨0x2c0010, [], 0x0, 0x0, 0x0, 0x0, 0x0, 0x0, false⟩, -- GPIO_ACTIVE_LO
  ⟨0x2c0014, [], 0x0, 0x0, 0x0, 0x0, 0x0, 0x0, false⟩, -- GPIO_ACTIVE_HI
  ⟨0x2c0040, [(64, 0x4)], 0x0, 0x0, 0x0, 0x0, 0x0, 0x0, false⟩, -- GPIO_OWNER
  ⟨0x2c0200, [(8, 0x10)], 0x0, 0x3f01, 0x0, 0x0, 0x0, 0x0, false⟩, -- GPIO_PWM_CFG
  ⟨0x2c0204, [(8, 0x10)], 0x0, 0xffffff, 0x0, 0x0, 0x0, 0x0, false⟩, -- GPIO_PWM_PERIOD
  ⟨0x2c0208, [(8, 0x10)], 0x0, 0xffffff, 0x0, 0x0, 0x0, 0x0, false⟩ -- GPIO_PWM_HIGH
  ]

def rowsTable : List RegRow := [
  ⟨0x380000, [(16384, 0x4)], 0x0, 0x0, 0xffffffff, 0x0, 0x0, 0x0, false⟩, -- CAM_SCRIPT
  ⟨0x390000, [(32, 0x4)], 0x0, 0x0, 0xffffffff, 0x0, 0x0, 0x0, false⟩ -- PMB_LIST
  ]

def rowsEth : List RegRow := [
  ⟨0x1100100, [(96, 0x400)], 0x0, 0xffff1fcf, 0x0, 0x0, 0x0, 0x0, false⟩, -- ETH_CFG
  ⟨0x1100104, [(96, 0x400)], 0x0, 0xffffffff, 0x0, 0x0, 0x0, 0x0, false⟩, -- ETH_LANE_IP
  ⟨0x1100108, [(96, 0x400)], 0x0, 0xffffffff, 0x0, 0x0, 0x0, 0x0, false⟩, -- ETH_CAMERA_IP
  ⟨0x110010c, [(96, 0x400)], 0x20300000, 0xffffffff, 0x0, 0x0, 0x0, 0x0, false⟩, -- ETH_SIZES
  ⟨0x1100110, [(96, 0x400)], 0x32000a, 0xffffffff, 0x0, 0x0, 0x0, 0x0, false⟩, -- ETH_TIMERS
  ⟨0x1100114, [(96, 0x400)], 0x8028078, 0xffffffff, 0x0, 0x0, 0x0, 0x0, false⟩, -- ETH_ACT_CFG
  ⟨0x1100118, [(96, 0x400)], 0x0, 0xffffff, 0x0, 0x0, 0x0, 0x0, false⟩, -- ETH_CAM_LAT
  ⟨0x110011c, [(96, 0x400)], 0x0, 0xffffffff, 0x0, 0x0, 0x0, 0x0, false⟩, -- ETH_ACT_DEVKEY
  ⟨0x1100120, [(96, 0x400)], 0x0, 0xffffffff, 0x0, 0x0, 0x0, 0x0, false⟩, -- ETH_ACT_GROUPKEY
  ⟨0x1100124, [(96, 0x400)], 0x0, 0xffffffff, 0x0, 0x0, 0x0, 0x0, false⟩, -- ETH_ACT_GROUPMASK
  ⟨0x1100128, [(96, 0x400)], 0xd00, 0xfff, 0x0, 0x0, 0x0, 0x0, false⟩, -- ETH_PTP
  ⟨0x1100130, [(96, 0x400)], 0x0, 0x0, 0x0, 0x0, 0x0, 0x0, false⟩, -- ETH_STATUS
  ⟨0x1100138, [(96, 0x400)], 0x0, 0x0, 0x0, 0x0, 0x0, 0x0, false⟩, -- ETH_CAM_MAC_LO
  ⟨0x110013c, [(96, 0x400)], 0x0, 0x0, 0x0, 0x0, 0x0, 0x0, false⟩, -- ETH_CAM_MAC_HI
  ⟨0x1100150, [(96, 0x400)], 0x0, 0x0, 0x0, 0xff, 0x0, 0x0, false⟩, -- ETH_EVENTS
  ⟨0x1100154, [(96, 0x400)], 0x0, 0xff, 0x0, 0x0, 0x0, 0x0, false⟩, -- ETH_EVENTS_EN
  ⟨0x1100180, [(96, 0x400)], 0x0, 0x0, 0x0, 0x0, 0x0, 0x0, false⟩, -- ETH_CNT_FRAMES
  ⟨0x1100184, [(96, 0x400)], 0x0, 0x0, 0x0, 0x0, 0x0, 0x0, false⟩, -- ETH_CNT_FCS
  ⟨0x1100188, [(96, 0x400)], 0x0, 0x0, 0x0, 0x0, 0x0, 0x0, false⟩, -- ETH_CNT_FILTERED
  ⟨0x110018c, [(96, 0x400)], 0x0, 0x0, 0x0, 0x0, 0x0, 0x0, false⟩, -- ETH_CNT_OVERFLOW
  ⟨0x1100190, [(96, 0x400)], 0x0, 0x0, 0x0, 0x0, 0x0, 0x0, false⟩, -- ETH_CNT_BLOCKS
  ⟨0x1100194, [(96, 0x400)], 0x0, 0x0, 0x0, 0x0, 0x0, 0x0, false⟩, -- ETH_CNT_RESEND_REQ
  ⟨0x1100198, [(96, 0x400)], 0x0, 0x0, 0x0, 0x0, 0x0, 0x0, false⟩, -- ETH_CNT_RESEND_RX
  ⟨0x110019c, [(96, 0x400)], 0x0, 0x0, 0x0, 0x0, 0x0, 0x0, false⟩, -- ETH_CNT_PARTIAL
  ⟨0x11001a0, [(96, 0x400)], 0x0, 0x0, 0x0, 0x0, 0x0, 0x0, false⟩, -- ETH_CNT_LOSTBLK
  ⟨0x11001a4, [(96, 0x400)], 0x0, 0x0, 0x0, 0x0, 0x0, 0x0, false⟩, -- ETH_CNT_UNMATCHED
  ⟨0x11001a8, [(96, 0x400)], 0x0, 0x0, 0x0, 0x0, 0x0, 0x0, false⟩, -- ETH_CNT_UNSERVED
  ⟨0x11001ac, [(96, 0x400)], 0x0, 0x0, 0x0, 0x0, 0x0, 0x0, false⟩, -- ETH_CNT_ACT
  ⟨0x11001b0, [(96, 0x400)], 0x0, 0x0, 0x0, 0x0, 0x0, 0x0, false⟩, -- ETH_CNT_ACT_LATE
  ⟨0x11001b4, [(96, 0x400)], 0x0, 0x0, 0x0, 0x0, 0x0, 0x0, false⟩, -- ETH_CNT_STALE
  ⟨0x11001b8, [(96, 0x400)], 0x0, 0x0, 0x0, 0x0, 0x0, 0x0, false⟩, -- ETH_CNT_FEC_CORR
  ⟨0x11001bc, [(96, 0x400)], 0x0, 0x0, 0x0, 0x0, 0x0, 0x0, false⟩ -- ETH_CNT_FEC_UNCORR
  ]

def rowsMsix : List RegRow := [
  ⟨0x2000000, [(2, 0x10000), (2048, 0x10)], 0x0, 0xffffffff, 0x0, 0x0, 0x0, 0x0, false⟩, -- MSIX_ADDR_LO
  ⟨0x2000004, [(2, 0x10000), (2048, 0x10)], 0x0, 0xffffffff, 0x0, 0x0, 0x0, 0x0, false⟩, -- MSIX_ADDR_HI
  ⟨0x2000008, [(2, 0x10000), (2048, 0x10)], 0x0, 0xffffffff, 0x0, 0x0, 0x0, 0x0, false⟩, -- MSIX_DATA
  ⟨0x200000c, [(2, 0x10000), (2048, 0x10)], 0x1, 0x1, 0x0, 0x0, 0x0, 0x0, false⟩, -- MSIX_CTRL
  ⟨0x2008000, [(2, 0x10000), (64, 0x4)], 0x0, 0x0, 0x0, 0x0, 0x0, 0x0, false⟩ -- MSIX_PBA
  ]

/-- A block of the register map: its first offset, its end and its rows (R501). -/
structure RegBlock where
  lo : Nat
  hi : Nat
  rows : List RegRow
  deriving DecidableEq, Repr

/-- The blocks of R501; the last is the Ethernet personality's own storage (R507). -/
def regBlocks : List RegBlock := [
  ⟨0x0, 0x10000, rowsGlobal⟩,
  ⟨0x10000, 0x20000, rowsMbox⟩,
  ⟨0x20000, 0x30000, rowsTb⟩,
  ⟨0x30000, 0x40000, rowsEvt⟩,
  ⟨0x40000, 0x44000, rowsPos⟩,
  ⟨0x80000, 0x88000, rowsTrig⟩,
  ⟨0xa0000, 0xe0000, rowsSched⟩,
  ⟨0x100000, 0x118000, rowsLane⟩,
  ⟨0x140000, 0x158000, rowsBay⟩,
  ⟨0x180000, 0x189800, rowsStitch⟩,
  ⟨0x1c0000, 0x1c8000, rowsDdr⟩,
  ⟨0x200000, 0x220000, rowsDlv⟩,
  ⟨0x240000, 0x24c000, rowsPcie⟩,
  ⟨0x280000, 0x290000, rowsSill⟩,
  ⟨0x2c0000, 0x2d0000, rowsGpio⟩,
  ⟨0x380000, 0x3a0000, rowsTable⟩,
  ⟨0x1100000, 0x1118000, rowsEth⟩,
  ⟨0x2000000, 0x2020000, rowsMsix⟩
  ]

/-- The row that holds the word at offset `o`, or none where the offset is reserved (R8). -/
def findRow (o : Nat) : Option RegRow :=
  match regBlocks.find? (fun b => decide (b.lo ≤ o) && decide (o < b.hi)) with
  | none => none
  | some b => b.rows.find? (fun r => r.hits o)

end Sys2Proof.Machine
end

