-- ==== Sys2Proof/Machine/State.lean ====
section
/-!
DEFINITION. The state of the device as plain data, the reasons a command can stop with, and the state after reset.
A register's home is the table `regs`, keyed by its BAR0 offset; what no register shows is in the structures below.
-/

namespace Sys2Proof.Machine

/-! ## The event log -/

/-- One 16-byte log entry as its four words: CODE, FLAGS and UNIT; SECONDS; NS; ARG (R465). -/
structure LogEntry where
  w0 : Word
  w1 : Word
  w2 : Word
  w3 : Word
  deriving DecidableEq, Repr

/-- An entry in the queue of the log writer, with the extension entries that follow it (R465, R522). -/
structure LogItem where
  main : LogEntry
  exts : List LogEntry
  deriving DecidableEq, Repr

/-- A running rate limiter (R523): its code and item, the elapsed tick at which its interval began, the occurrences counted in the present interval and the
arguments of the latest of them. A limiter that is idle is not listed. -/
structure Limiter where
  code : Nat
  item : Nat
  since : Nat
  counted : Bool
  count : Nat
  unit : Nat
  arg : Nat
  exts : List LogEntry
  deriving DecidableEq, Repr

/-- The event log: the 64-entry queue, the ring's slots, the limiters and, for the flash copy, the entries overwritten
since the last copied one (R466, R467). -/
structure Log where
  queue : List LogItem
  ring : List (Nat × LogEntry)
  limiters : List Limiter
  lostSince : Nat
  deriving DecidableEq, Repr

def Log.reset : Log := ⟨[], [], [], 0⟩

/-! ## Time, power and resets -/

/-- The time base and what it drives: the counter in units of 2^-32 ns (R241), the elapsed CLK_TB ticks (R247), the
remainder of a slew (R246), the low half of TB_INCR last written (R242), the tick of the last PPS_IN edge (R251); for
PPS_OUT the declared idle level (none without a record of KIND 2), whether it is active, the elapsed time at which its
pulse ends, the last second pulsed and the last second that was not reached by counting (R252); for each cycle timer the
number of its next pulse (R254); the elapsed time of the last accepted edge of each
GPIO in 2^-16 ns (R255); the ticks since the last
CLK_AON tick in coarse running (R57); whether the effective increment is clamped (R242); and the count that has crossed to CLK_FAB (R58, R248). -/
structure TimeBase where
  cnt : Nat
  ticks : Nat
  slewLeft : Int
  incrLow : Word
  ppsInTick : Option Nat
  ppsIdle : Option Bool
  ppsActive : Bool
  ppsEnd : Int
  ppsSec : Int
  ppsSkip : Int
  cycNext : List (Nat × Nat)
  gpioLast : List (Nat × Option Nat)
  coarseTick : Nat
  effClamped : Bool
  shown : Nat
  deriving DecidableEq, Repr

def TimeBase.reset : TimeBase := ⟨0, 0, 0, 0, none, none, false, 0, -1, -1, [], [], 0, false, 0⟩

/-- The droop response: the elapsed tick before which the clocks are not restored (R63, R67), the millisecond of the last event and the events in it (R64), and the present window: whether
windows run, the halved time in it and whether it exceeded the budget (R65), the tick at which DROOP_OVER was last 1
(R66), and the tick at which the present window began. -/
structure Droop where
  minEnd : Nat
  ms : Option Nat
  msEvents : Nat
  winOn : Bool
  winHalved : Nat
  winOver : Bool
  lastOver : Option Nat
  winFrom : Nat
  deriving DecidableEq, Repr

def Droop.reset : Droop := ⟨0, none, 0, false, 0, false, none, 0⟩

/-- Resets in progress (R68, R70): a power-on reset, a system reset; whether the MC waits for its boot ROM to start, and
whether it is in debug hold (R39); the tick at which the last reset was released. -/
structure Power where
  porst : Bool
  sysRst : Bool
  mcDown : Bool
  mcDebugHold : Bool
  releaseTick : Nat
  deriving DecidableEq, Repr

def Power.reset : Power := ⟨false, false, true, false, 0⟩

/-! ## The event matrix -/

/-- An event on its way through the matrix: its producer, its hop count (R257, R266), the consumers it has not yet met (a
bit for each), and the tick at which its producer fired. -/
structure EvtFlight where
  prod : Nat
  hop : Nat
  left : Nat
  born : Nat
  deriving DecidableEq, Repr

/-- The hidden state of the event matrix: the events under way, for each consumer the elapsed tick at which it last
accepted an event, how often the MC was woken, and for each producer that enters by a toggle the tick at which its
crossing last took an event (R58, R263). -/
structure EvtState where
  inflight : List EvtFlight
  accTick : List (Nat × Option Nat)
  mcWakes : Nat
  toggled : List (Nat × Option Nat)
  deriving DecidableEq, Repr

def EvtState.reset : EvtState := ⟨[], [], 0, []⟩

/-! ## The Sill -/

/-- A frame waiting at a Sill port: its class of R431 (0 burst, 1 link frames, 2 EVENT and SCHED, 3 MGMT), whether it
is an EVENT frame, whether it is the node's own SCHED frame, and its blocks (control or data, payload). -/
structure SillTx where
  cls : Nat
  isEvent : Bool
  ownSched : Bool
  blocks : List (Bool × Block)
  deriving DecidableEq, Repr

/-- The hidden state of a Sill port: the elapsed tick at which it entered its state, matching HELLO frames, the outstanding
PROBE and its T_out (1/256 ns), the last results of R433 (1/256 ns), the θ values of R434 (2^-16 ns), the tick of its last
SYNC, the claim its last CECHO names, the SEQ of its next SYNC, the frames that wait, and the frame in progress and the MGMT
frame begun with the blocks that they have left (R431). -/
structure SillPort where
  since : Nat
  hellos : Nat
  probeNum : Nat
  probeOut : Option Int
  results : List Int
  thetas : List Int
  syncAt : Nat
  cecho : Option Nat
  syncSeq : Nat
  txq : List SillTx
  cur : Option SillTx
  mgmt : Option SillTx
  deriving DecidableEq, Repr

def SillPort.reset : SillPort := ⟨0, 0, 0, none, [], [], 0, none, 0, [], none, none⟩

/-- A claim heard on an UP port: the most recent frame of its number, the port and the elapsed tick it came at (R446,
R447). AT is in 2^-16 ns. -/
structure Claim where
  claim : Nat
  releasing : Bool
  taking : Bool
  at_ : Nat
  port : Nat
  heard : Nat
  deriving DecidableEq, Repr

/-- What a node keeps of a position slot: the last x (fine counts), its STEP_SEQ, whether an anchor of it has been seen,
and the t_s of the last frame (R440). -/
structure Slot where
  x : Nat
  stepSeq : Nat
  anchored : Bool
  ts : Option Nat
  deriving DecidableEq, Repr

/-- A fabric event that waits for its aligned delivery (R442): line, hop count, and the instant (2^-16 ns). -/
structure AlignedEvt where
  line : Nat
  hop : Nat
  due : Nat
  deriving DecidableEq, Repr

/-- The hidden state of the Sill: ports, claims heard, slots, aligned events, the sequence numbers, the anchors sent;
whether SINGLE_HOMED was logged; the ticks at which the ports started, the twin's watch and its holdoff began, of its last
BEAT and of the last one from a HOLDER (R448); the ticks since which it is HEALTHY and at which it became HOLDER (R452); the
ticks of the last CECHO that named a claim and of the last CECHO, the tick at which the present echo period began, the ports heard in it,
whether one named the node's own claim, the highest claim named, and the bad periods in a row (R449); the lock counters
of R436; the swap that is proposed or agreed: whether this twin proposed, the answer its next BEAT carries (1 ACK, 2
ABORT), T_swap, whether it takes, whether TAKING and RELEASING are sent, and the claim whose echo completes it (R451); and
the time parent as last logged. -/
structure Sill where
  ports : List (Nat × SillPort)
  claims : List Claim
  slots : List (Nat × Slot)
  aligned : List AlignedEvt
  evtSeq : Nat
  mgmtSeq : Nat
  anchorNext : Nat
  lastAnchor : List (Nat × Nat)
  singleLogged : Bool
  released : Nat
  watch : Option Nat
  holdoff : Option Nat
  beatTick : Option Nat
  holderTick : Option Nat
  healthySince : Option Nat
  holderSince : Nat
  echoTick : Option Nat
  echoLast : Nat
  echoFrom : Option Nat
  echoPorts : List Nat
  echoOwn : Bool
  echoHigher : Nat
  echoBad : Nat
  inLock : Nat
  outLock : Nat
  swapAsked : Bool
  swapAnswer : Nat
  swapAt : Nat
  swapTaker : Bool
  swapFrames : Bool
  swapWait : Option Nat
  lastParent : Option Nat
  deriving DecidableEq, Repr

def Sill.reset : Sill where
  ports := []
  claims := []
  slots := []
  aligned := []
  evtSeq := 0
  mgmtSeq := 0
  anchorNext := 0
  lastAnchor := []
  singleLogged := false
  released := 0
  watch := none
  holdoff := none
  beatTick := none
  holderTick := none
  healthySince := none
  holderSince := 0
  echoTick := none
  echoLast := 0
  echoFrom := none
  echoPorts := []
  echoOwn := false
  echoHigher := 0
  echoBad := 0
  inLock := 0
  outLock := 0
  swapAsked := false
  swapAnswer := 0
  swapAt := 0
  swapTaker := false
  swapFrames := false
  swapWait := none
  lastParent := none

/-! ## Position channels and sequencers -/

/-- A state that answers position queries (R204): x in 2^-16 fine counts, v in 2^-24 fine counts per µs, a in 2^-32 fine
counts per µs², the time it holds at (2^-16 ns), and the WARM, REFERENCED, DIR and STEP_SEQ that go with it. -/
structure ObsState where
  x : Int
  v : Int
  a : Int
  t : Int
  warm : Bool
  ref : Bool
  dir : Bool
  stepSeq : Nat
  deriving DecidableEq, Repr

def ObsState.reset : ObsState := ⟨0, 0, 0, 0, false, false, false, 0⟩

/-- A state that comes into force later (R211): the instant, and the state. -/
structure ObsDue where
  due : Int
  st : ObsState
  deriving DecidableEq, Repr

/-- The hidden state of a position channel: whether it runs (R214), the accepted levels of its four inputs (R191), its
own observer, the published state in force for queries, the states not yet in force and whether one has come into force
(R211), the updates since the cold start and
the runs of R206, the tick and the interval of the present update interval (R204), the SSI reference, failed and jumped
frames and the frame in progress (R195, R196), the index lattice base and whether Z must go low first (R200, R201), the
candidate reversal (point and the value before it, R203), D_align (R213), the tick of the last Sill frame, the warm
frames since a stale entry (R212), the tick of the last probe edge (R209), the tick at which D_align last moved by
more than 2 counts (R450), the ticks at which the last SSI frame started and the last good one was sampled (R195, R204),
and the CLK_ENC cycles of the last POS_EDGE, POS_PROBE and POS_SNAP captures (R199). WARM, DIR and STEP_SEQ of `own` are
those of the channel's own observer; POS_STATUS shows them unless the channel follows (R211, R213). -/
structure PosChan where
  runs : Bool
  lvA : Bool
  lvB : Bool
  lvZ : Bool
  lvProbe : Bool
  own : ObsState
  force : ObsState
  due : List ObsDue
  updates : Nat
  inTol : Nat
  overTol : Nat
  lastUpd : Int
  interval : Nat
  ssiPrev : Option Nat
  ssiFails : Nat
  ssiJumps : Nat
  forced : Bool
  ssiFrame : Option Int
  ssiEnd : Option Nat
  base : Option Int
  zDone : Bool
  cand : Option (Int × Int)
  dAlign : Option Int
  lastFrame : Option Nat
  warmFrames : Nat
  lastProbe : Option Nat
  alignMoved : Option Nat
  ssiStart : Option Nat
  ssiLast : Option Nat
  edgeCyc : Option Nat
  probeCyc : Option Nat
  snapCyc : Option Nat
  deriving DecidableEq, Repr

def PosChan.reset : PosChan := ⟨false, false, false, false, false, ObsState.reset, ObsState.reset, [], 0, 0, 0, 0, 0,
  none, 0, 0, false, none, none, none, false, none, none, none, 0, none, none, none, none, none, none, none⟩

/-- The hidden state of a sequencer: the firing count (R220), the grid index or the k of TIME mode, the lap and the
entry of LIST mode as it was read, whether there is a current target, the computed instants t_f and t_c with the lead
used and whether the target was already reached (R222), the instant of the previous committed firing, the length of the
present behind run and whether it is the first one after a start (R230, R231), whether the high-water mark applies
(R234), the L and the CENTRE within the lead (R140, R179), the STEP_SEQ of the start or of the last copy (R207), and the busy time and hop count of the event accepted
last (R229, R266). -/
structure Seq where
  fired : Nat
  n : Int
  lap : Nat
  tgt : Int
  line : Int
  param : Nat
  wrap : Bool
  last : Bool
  has : Bool
  tf : Option Int
  tc : Int
  lead : Int
  lat : Int
  ctr : Int
  reached : Bool
  tprev : Option Int
  behind : Nat
  firstRun : Bool
  hwmOn : Bool
  stepSeq : Nat
  busyTo : Int
  hop : Nat
  stallLogged : Bool
  deriving DecidableEq, Repr

def Seq.reset : Seq := ⟨0, 0, 0, 0, 0, 0, false, false, false, none, 0, 0, 0, 0, false, none, 0, false, false, 0, 0, 0, false⟩

/-- A committed firing and, on a lane, the outstanding trigger it becomes (R150, R179, R224): its sequencer, trigger ID,
line number, target, firing instant (2^-16 ns, the effective one once fixed), predicted exposure-centre time, the lead
(2^-16 ns), the L and the CENTRE in it, the flags of R224, the path with its lane or pin, KIND, the pulse width (R236), the hop count,
whether the instant came from position (R245), whether it is launched (sent), and whether it has fired; then the state
copied at the exposure centre and the POS_STEP that follows from it (R207), whether a line of it is open or closed, and
for an Ethernet lane its action time. -/
structure Trigger where
  seq : Nat
  id : Nat
  line : Int
  target : Int
  tf : Int
  tc : Int
  lead : Int
  latency : Int
  centre : Int
  late : Bool
  catchup : Bool
  compare : Bool
  reverse : Bool
  warm : Bool
  stepSeq : Nat
  path : Nat
  out : Nat
  kind : Nat
  width : Nat
  hop : Nat
  fromPos : Bool
  sent : Bool
  firedNow : Bool
  copied : Option ObsState
  posStep : Bool
  actTime : Int
  deriving DecidableEq, Repr

/-- The pulse that runs on a GPIO: the elapsed time at which it ends (2^-16 ns), and who drives it: OWNER and INDEX as
GPIO_OWNER numbers them (R508). -/
structure Pulse where
  stop : Int
  owner : Nat
  index : Nat
  deriving DecidableEq, Repr

abbrev PulseEnd := Option Pulse

/-! ## Tiles and the Ledger -/

/-- The tag fields fixed before delivery (R28, R377): line number, trigger ID, position in fine counts, exposure-centre
time (2^-16 ns), the STATUS bits fixed so far (R379), byte 1 of the tag, and, for the resampler, the STEP_SEQ copied and
the grid position X_n of the line (R284, R287). -/
structure TagInfo where
  line : Int
  trigId : Nat
  pos : Int
  tc : Int
  status : Nat
  fmt : Nat
  stepSeq : Nat
  grid : Int
  deriving DecidableEq, Repr

def TagInfo.reset : TagInfo := ⟨0, 0, 0, 0, 0, 0, 0, 0⟩

/-- The conditioning settings of a line, taken at its first tile (R283, R293): the lane's BAY_COND_CTRL and BAY_COND_POST,
the table set, the format, LINE_PIXELS, the FILL value, and the kernel table where it differs from its reset (only when the line is
resampled). -/
structure CondSet where
  ctrl : Nat
  post : Nat
  set_ : Nat
  fmt : Nat
  linePx : Nat
  fill : Nat
  kernel : List (Nat × Word)
  deriving DecidableEq, Repr

def CondSet.reset : CondSet := ⟨0, 0, 0, 0, 0, 0, []⟩

/-- A line that a lane's pipe has begun and not ended (R280, R283, R291): its line number and trigger, its settings, the
last four values after flat-field of its previous tile by pixel, and the first entry of the defect list that could not be
read, from which on the list is ignored for it. -/
structure CondLine where
  line : Int
  trigId : Nat
  conf : CondSet
  prev : List (Nat × List Nat)
  cut : Nat
  deriving DecidableEq, Repr

/-- A Ledger entry with the tile it belongs to (R25): its number, its state (0 ACCEPTED to 4 COMPLETE, 5 ABORTED), the
tick of ACCEPTED, what it is (0 a camera tile, 1 a FILL tile, 2 an engine output, 3 a recalled line), its lane or engine
or stream, the stream whose reservation it took (none: the free pool), its place in the line with its TILE_COUNT, its tag
fields, the payload
received so far and its declared length, whether reception has ended, whether the pipe has started on it, the byte ranges
(start, length) that never came, its place in the bay store (offset and stored bytes), the settings of its line, the
bytes read back from a kerf buffer, and who still holds it (holder codes of Ledger). -/
structure Tile where
  num : Nat
  state : Nat
  acc : Nat
  src : Nat
  lane : Nat
  pool : Option Nat
  index : Nat
  count : Nat
  xOff : Nat
  pixels : Nat
  tag : TagInfo
  raw : List Byte
  bytes : Nat
  ended : Bool
  started : Bool
  holes : List (Nat × Nat)
  off : Nat
  stored : Nat
  cond : CondSet
  kerf : Option (List Byte)
  holders : List Nat
  deriving DecidableEq, Repr

/-- A Ledger entry with nothing in it yet. -/
def Tile.blank : Tile := ⟨0, 0, 0, 0, 0, none, 0, 1, 0, 0, TagInfo.reset, [], 0, false, false, [], 0, 0, CondSet.reset, none, []⟩

/-- The Ledger: the entries in use, the next entry's number, and for DLV_LEDGER_STATE the ticks at which entries left a
state (R25, R398). -/
structure Ledger where
  tiles : List Tile
  next : Nat
  left : List (Nat × Nat)
  deriving DecidableEq, Repr

def Ledger.reset : Ledger := ⟨[], 0, []⟩

/-! ## Lanes -/

/-- A tile header (R147). -/
structure TileHdr where
  expValid : Bool
  trigId : Nat
  index : Nat
  count : Nat
  xOff : Nat
  pixels : Nat
  bytes : Nat
  expStart : Int
  expTime : Nat
  dropped : Nat
  deriving DecidableEq, Repr

/-- The line that a lane is assembling (R153): its trigger, TILE_COUNT, the next index and X_OFFSET, the tag fields of
the line, the Ledger numbers of its tiles, and whether TRIG_AGE has passed while a tile of it is open. -/
structure LineAsm where
  trigId : Nat
  count : Nat
  next : Nat
  xNext : Nat
  tag : TagInfo
  tiles : List Nat
  aged : Bool
  deriving DecidableEq, Repr

/-- What a Tenon lane receives above the block level (R132, R146): an SOT, a data block with whether it lies beyond LIMIT
and whether it counts in the queue already, an EOT with CAM_ABORT and PAYLOAD_CRC, a control block with a wrong CHECK, or
another control block with a right one. -/
inductive RxItem where
  | sot
  | data (b : Block) (excess held : Bool)
  | eot (abort : Bool) (crc : Nat)
  | bad
  | good
  deriving DecidableEq, Repr

/-- A block of a bond's or lane's logical stream (R133, R142): SOT; a data block; an EOT; a control block with a wrong
CHECK; one of a TYPE that no camera sends; a CTRL_RSP with the value block behind it; VIOL; LECHO with the time-stamp of
its ingress; EIDLE; `n` IDLE blocks in a row; and, on a member of a bond, the ALIGN slot with its sequence number and `n`
blocks lost while a lock was clear. -/
inductive RxRaw where
  | sot
  | data (b : Block)
  | eot (b : Block)
  | bad
  | unknown
  | rsp (b : Block) (value : Option Block)
  | viol (b : Block)
  | lecho (b : Block) (tin : Int)
  | eidle
  | idle (n : Nat)
  | align (seq : Nat)
  | lost (n : Nat)
  deriving DecidableEq, Repr

/-- A complete tile that waits for its Ledger entry (R24, R153): its index, X_OFFSET, pixels and the tag of its line, the
payload (none for a FILL tile) with the byte ranges that never came, and whether it is PARTIAL. -/
structure FillWait where
  index : Nat
  xOff : Nat
  pixels : Nat
  tag : TagInfo
  raw : List Byte
  holes : List (Nat × Nat)
  part : Bool
  deriving DecidableEq, Repr

/-- The violations of one reason in the present window (R162, R164): how many, the tick of the last VIOL block, and the
DETAIL that a held violation carries. -/
structure ViolRun where
  reason : Nat
  count : Nat
  lastSent : Option Nat
  heldDetail : Option Nat
  deriving DecidableEq, Repr

/-- The hidden state of a lane's session (R108 to R111, R119, R124): the ceiling and target grade, failed attempts at the
next grade, failed SEEKs in a row, whether the grade was reached by a step, the ABSENT cycle, the tick of a lock loss under
R104, missed ALIGNs in a row, low-margin checks in a row, whether an ALIGN came since BLOCK_LOCK, what the partner has
shown (TRAIN blocks, CAP0, CAP1, CAP_OK, READY, STEP_ACK, a STEP_DOWN and its TARGET), whether the device is ready and has
asked to step, the pending switches of transmitter and receiver, the last REQ_ID answered with its answer, the numbers of
TRAIN and ALIGN blocks, the run of idle blocks, a running burst, the checker's first lock, the personality
and the lane fields latched at the session's start, whether the latency measurement of R139 runs, whether EXCHANGE has
ended in this session, the REQ_ID last used, bytes 2 and 3 of the REQ that waits for its answer, the TARGET of a STEP_DOWN
that the device has set, the CTLE setting and the DFE taps as LANE_EYE_DFE lays them out (R118), the checker's bit and error
totals, the bits that the generator has sent in TEST, and the bits it has inverted since the last publication (R124,
R125). -/
structure LanePhy where
  ceiling : Nat
  target : Nat
  attempts : Nat
  seekFails : Nat
  byStep : Bool
  absentCycle : Bool
  relock : Option Nat
  alignMiss : Nat
  lowChecks : Nat
  alignSeen : Bool
  sawTrain : Bool
  sawCap0 : Bool
  sawCap1 : Bool
  partnerCapOk : Bool
  partnerReady : Bool
  ready : Bool
  stepReq : Bool
  txSwitch : Option Nat
  rxSwitch : Option Nat
  reqId : Option Nat
  ans : Nat
  trainSeq : Nat
  alignSeq : Nat
  rxAlignInfo : Nat
  idleRun : Nat
  burst : Bool
  chkOn : Bool
  pers : Nat
  maxGrade : Nat
  lat : Bool
  exchanged : Bool
  reqSeq : Nat
  req : Option (Nat × Nat)
  down : Option Nat
  ctle : Nat
  dfe : Nat
  chkBits : Nat
  chkErrs : Nat
  genBits : Nat
  inverted : Nat
  deriving DecidableEq, Repr

def LanePhy.reset : LanePhy := ⟨5, 0, 0, 0, false, false, none, 0, 0, false, false, false, false, false, false, false,
  false, none, none, none, 0, 0, 0, 0, 0, false, false, 0, 0, false, false, 0, none, none, 8, 0, 0, 0, 0, 0⟩

/-- The hidden state of a Tenon lane or bond (R138 to R165): blocks granted and received in this session, the LIMIT last
sent, the probe number, its T_out, the results (2L in 2^-16 ns), whether the 16 were repeated, the L at entry and whether
its drift was logged; the header blocks of the open tile, the Ledger number of the tile being received, the header that
waits for an entry with what was received behind it and the FILL tiles that wait, the payload blocks received and whether
they exceed the declared ones, whether data is being discarded (1 after a bad CHECK, 2 after a rejected tile), whether the
last block was a control block with a bad CHECK outside a tile (2: and a possible value block came since), whether one
came inside the tile, the line being assembled, the violations of the window, the outstanding CTRL request (TAG, ADDR,
write), the next TAG, the data blocks in the ingress queue (R269), how many header blocks of the open tile count in it
already; and for a bond the member position whose block comes next, and on each member the blocks received that wait for
their turn (R142). -/
structure LaneTenon where
  granted : Nat
  received : Nat
  limitSent : Nat
  probeNum : Nat
  probeOut : Option Int
  results : List Int
  repeated : Bool
  entryL : Nat
  drift : Bool
  hdr : Option (List Block)
  cur : Option Nat
  wait : Option TileHdr
  items : List RxItem
  fills : List FillWait
  payload : Nat
  excess : Bool
  discard : Nat
  lastBad : Nat
  badInTile : Bool
  asm_ : Option LineAsm
  viols : List ViolRun
  violTotal : Nat
  limitHit : Bool
  ctrl : Option (Nat × Nat × Bool)
  nextTag : Nat
  queue : Nat
  hdrIn : Nat
  turn : Nat
  rxq : List RxRaw
  deriving DecidableEq, Repr

def LaneTenon.reset : LaneTenon := ⟨0, 0, 0, 0, none, [], false, 0, false, none, none, none, [], [], 0, false, 0, 0,
  false, none, [], 0, false, none, 0, 0, 0, 0, []⟩

/-- An Ethernet frame that a lane sends (R172): an ARP request or answer for an address; a GVCP command of the firmware
(0 DISCOVERY, 1 READREG, 2 WRITEREG, 3 unscheduled ACTION) with its address and value; PACKETRESEND for a block ID and a
range of packets; ACTION_CMD with its req_id, keys and action time in ns; a PTP message (0 Sync, 1 Follow_Up,
3 Delay_Resp) with its domain, its sequence number and time in 2^-16 ns; and Announce with its quality and the
ptpTimescale flag (R243). -/
inductive EthMsg where
  | arp (answer : Bool) (ip : Nat)
  | gvcp (op addr value : Nat)
  | resend (block first last : Nat)
  | action (reqId dev group mask time : Nat)
  | ptp (kind domain seq : Nat) (time : Int)
  | announce (domain seq cls accuracy source utc : Nat) (ptpTimescale : Bool)
  deriving DecidableEq, Repr

/-- A GVSP block that is open (R178 to R181): its ID, the trigger it serves, the line's tag fields, the packets received,
the packets requested again and those the camera cannot supply, how many requests were sent, whether one is waited for and
the packets it asked for, whether the trailer came, whether every packet not there counts as missing (the trailer came, or
RESEND_WAIT passed after the last packet), and for each tile of the line its Ledger entry (none: it has none yet). -/
structure EthBlock where
  id : Nat
  trigId : Nat
  tag : TagInfo
  pkts : List (Nat × List Byte)
  asked : List Nat
  gone : List Nat
  resends : Nat
  waiting : Bool
  asking : List Nat
  trailer : Bool
  ended : Bool
  tiles : List (Option Nat)
  deriving DecidableEq, Repr

/-- A GVCP command of the firmware (R176): why it is sent (0 a setup step, 1 the heartbeat, 2 the camera's IEEE 1588 status,
10 or 11 a host's access through the mailbox of port A or B, 12 one whose request was abandoned), its operation (as in
`EthMsg.gvcp`), address and value. -/
structure GvcpCmd where
  why : Nat
  op : Nat
  addr : Nat
  value : Nat
  deriving DecidableEq, Repr

/-- The hidden state of an Ethernet lane: camera setup (R175: whether it runs or waits for a retry, the failures so far in a
row, the registers of step 4 acknowledged, the retries of the present command and the ARP requests sent), the script's
position and wait and the status register it names (R177: address, mask, value), the PTP port (R182: whether it runs, the
first Delay_Req answered, sequence numbers), the triggers whose commands are outstanding (R184), the open blocks, the last
block ID, the block being discarded (R178), the GVCP commands in order, the first one sent and not yet acknowledged, the
host accesses that wait behind setup (R176), and the frames ready to be sent (R172). -/
structure EthLane where
  setup : Bool
  retryWait : Bool
  retry : Nat
  part : Nat
  tries : Nat
  arps : Nat
  script : Nat
  scriptWait : Bool
  syncReg : Option (Nat × Nat × Nat)
  ptp : Bool
  dreq : Bool
  ptpSeq : Nat
  annSeq : Nat
  actOut : List Nat
  blocks : List EthBlock
  lastId : Option Nat
  dropId : Option Nat
  gvcp : List GvcpCmd
  access : List GvcpCmd
  txq : List EthMsg
  deriving DecidableEq, Repr

def EthLane.reset : EthLane := ⟨false, false, 0, 0, 0, 0, 0, false, none, false, false, 0, 0, [], [], none, none, [], [], []⟩

/-! ## Conditioning, stitching and the kerf buffers -/

/-- A line in a resampler's history (R284): its line number and trigger, tag position, X_n, the STEP_SEQ copied, the slot
of the history it lies in, the pixel ranges (first, count) it holds, those that are FILL, those of PARTIAL tiles, and
whether it was counted as passed through (R287). -/
structure HistLine where
  line : Int
  trigId : Nat
  x : Int
  grid : Int
  stepSeq : Nat
  slot : Nat
  got : List (Nat × Nat)
  fills : List (Nat × Nat)
  parts : List (Nat × Nat)
  passed : Bool
  deriving DecidableEq, Repr

/-- The hidden state of a lane's conditioning: the lines begun and not ended, the resampler's history and the entries that
wait for taps, where the next tile goes in the ring, the entries waiting to be dealt, the rotation
of the gang, and the line dealt last with its engine (R326). -/
structure CondLane where
  lines : List CondLine
  hist : List HistLine
  wait : List Nat
  wptr : Nat
  deal : List Nat
  rot : Nat
  dealt : Option (Int × Nat × Nat)
  deriving DecidableEq, Repr

def CondLane.reset : CondLane := ⟨[], [], [], 0, [], 0, none⟩

/-- A tile that a scarf unit takes into an open bent: its segment and entry, where it lies in the lane's line, its stored
values once the last burst has come, and whether that burst has come. -/
structure BentTile where
  seg : Nat
  tile : Nat
  xOff : Nat
  pixels : Nat
  vals : List Nat
  done : Bool
  deriving DecidableEq, Repr

/-- A bent that has not left its unit (R300): its line number, a number that tells it from the unit's other bents, its slot
(which it may share with one that was forced out of it and still completes), the tick of its deadline, its tiles, whether
its close has begun and why (bit 2 TIMEOUT, bit 1 FORCED, 0 EN cleared), whether the assembly memory corrected an error in
it, and the byte offsets of the 64-bit words that could not be corrected (R304). -/
structure Bent where
  line : Int
  num : Nat
  slot : Nat
  due : Nat
  tiles : List BentTile
  closing : Option Nat
  corr : Bool
  bad : List Nat
  deriving DecidableEq, Repr

/-- The hidden state of a scarf unit: its open bents in the order they opened, for each lane the highest line number it
has delivered since EN was set (R301), and the stragglers whose transfer has begun (segment, entry). -/
structure Scarf where
  bents : List Bent
  last : List (Nat × Int)
  stray : List (Nat × Nat)
  deriving DecidableEq, Repr

def Scarf.reset : Scarf := ⟨[], [], []⟩

/-- A line in a kerf buffer (R307): its line number and trigger, its entries, its slot, and the tick it was written at. -/
structure KerfLine where
  line : Int
  trigId : Nat
  tiles : List Nat
  slot : Nat
  at_ : Nat
  deriving DecidableEq, Repr

/-- The hidden state of a kerf buffer: the lines held, oldest first, the lines released but not yet read back, and the
next slot. -/
structure Kerf where
  held : List KerfLine
  out : List KerfLine
  next : Nat
  deriving DecidableEq, Repr

def Kerf.reset : Kerf := ⟨[], [], 0⟩

/-! ## Engines -/

/-- An activation record in an input's queue (R324): its 64 bytes, its hop count, the tile it is for, for an event the
CLK_CORE cycle it came in (a count of the model's, R325), and for a post the engine that sent it. -/
structure EngRec where
  bytes : List Byte
  hop : Nat
  tile : Option Nat
  cyc : Nat
  sender : Nat
  deriving DecidableEq, Repr

/-- An output that an engine has open (R331): its slot, its Ledger entry and its stream. -/
structure EngOut where
  slot : Nat
  tile : Nat
  stream : Nat
  deriving DecidableEq, Repr

/-- What an engine stalled on: nothing, a DMA channel, an entry and slot for a stream (with the entry it has taken, and
the scalar register that takes the slot's address), the bay's push queue (with what it pushes), its own earlier stores. -/
inductive Stall where
  | none
  | dma (c : Nat)
  | out (stream d : Nat) (tile : Option Nat)
  | push (q x : Nat)
  | fence
  deriving DecidableEq, Repr

/-- The hidden state of an engine (R314): scalar, vector and predicate registers (what is not listed is zero), the input
queues, the running record, the instruction index, the loops under way (first index, last index, runs left), the cycles
since the task began (R316), whether a corrected error met the task (R332), the kept tiles by handle, the open outputs,
the slots that delivery still uses, the stall, CODE_LEN of its kernel, the outputs emitted per stream since OUTPUT_COMMIT
(R332), and the faults of the present window (R339). -/
structure Engine where
  sregs : List (Nat × Word)
  vregs : List (Nat × BitVec 512)
  pregs : List (Nat × Block)
  queues : List (Nat × List EngRec)
  run : Option EngRec
  pc : Nat
  loops : List (Nat × Nat × Nat)
  cycles : Nat
  corr : Bool
  kept : List (Nat × Nat)
  outs : List EngOut
  slots : List Nat
  stall : Stall
  codeLen : Nat
  emitted : List (Nat × Nat)
  winFaults : Nat
  deriving DecidableEq, Repr

def Engine.reset : Engine := ⟨[], [], [], [], none, 0, [], 0, false, [], [], [], .none, 0, [], 0⟩

/-- A push on its way from a bay (R335): the engine, the sequencer, the position, and the CLK_CORE cycle it was issued in. -/
structure EngPush where
  eng : Nat
  seq : Nat
  x : Nat
  cyc : Nat
  deriving DecidableEq, Repr

/-- The hidden state of a bay DMA channel (R329): whether the descriptor at HEAD has been started, the hop count of the
kick it took, and a kick that waits with its hop count. -/
structure DmaChan where
  busy : Bool
  hop : Nat
  kick : Option Nat
  deriving DecidableEq, Repr

def DmaChan.reset : DmaChan := ⟨false, 0, none⟩

/-! ## DDR4 and the arbiters -/

/-- The hidden state of a DDR4 channel: the ticks of the last ALERT_N reports (R350), the corrected reads (tick, rank,
position) and uncorrectable reads of the last hour (R356), and the scrubber's pending addresses (R357). -/
structure DdrChan where
  alerts : List Nat
  hits : List (Nat × Nat × Nat)
  uncs : List Nat
  pend : List Nat
  scrubAt : Option Nat
  deriving DecidableEq, Repr

def DdrChan.reset : DdrChan := ⟨[], [], [], [], none⟩

/-- A requester that wants a grant (R362): its number, the tick it raised its request at, whether it is in back-off, and
its next back-off count (R363). -/
structure ArbReq where
  req : Nat
  at_ : Nat
  backoff : Bool
  count : Nat
  deriving DecidableEq, Repr

/-- The hidden state of an arbiter: the requesters that want a grant, in the order they raised, the holder's request, and
the grants since reset. -/
structure Arb where
  reqs : List ArbReq
  hold : Option ArbReq
  grants : Nat
  deriving DecidableEq, Repr

def Arb.reset : Arb := ⟨[], none, 0⟩

/-! ## Delivery -/

/-- A delivery (R369): its stream, port and kind; the entries it carries and the tick of the earliest ACCEPTED among
them; the tag fields it fixes; the bytes ready for the host and whether they are all; how many were written; the
descriptor it holds (index, address, length) and the bytes written into it; the descriptors it has filled (index,
payload bytes); the tick since which it waits, the ticks it
has waited, whether CREDIT_NS was exceeded, whether it is a loss tag (R384); for an engine output the tick its reference
tile was accepted at and the engine and slot it takes from; and the node of its tag. Port 2 stands for a line that is
not delivered. -/
structure Delivery where
  num : Nat
  stream : Nat
  port : Nat
  kind : Nat
  tiles : List Nat
  acc : Nat
  tag : TagInfo
  tagStream : Nat
  unit : Nat
  segMap : Nat
  data : List Byte
  final : Bool
  sent : Nat
  desc : Option (Nat × Nat × Nat)
  inDesc : Nat
  filled : List (Nat × Nat)
  waitFrom : Option Nat
  waited : Nat
  hostLate : Bool
  loss : Bool
  refAcc : Option Nat
  slot : Option (Nat × Nat)
  nodeId : Nat
  deriving DecidableEq, Repr

/-- The hidden state of a stream: its 64-byte definition (R83, R371), whether it came through a mailbox and which
(R393), the deliveries dealt since OUTPUT_COMMIT (R383), those of the present window, the log entries of the batch that
fills (R376), and whether a closing waits for its deliveries. -/
structure Stream where
  defn : List Byte
  mbox : Option Nat
  dealt : Nat
  inWin : Nat
  batch : List LogEntry
  closing : Bool
  deriving DecidableEq, Repr

def Stream.reset : Stream := ⟨[], none, 0, 0, [], false⟩

/-- The hidden state of a stream's ring on a port (keyed by 2 × stream + port): the descriptors fetched but not yet used
(index, address, length), the read on its way (tag, first index, count, whether it is the second try), tags since the
last interrupt and the tick of the first of them (R397), whether it is being withdrawn through the mailbox, and whether a stopped port has cost it its
ring (R384). -/
structure Ring where
  descs : List (Nat × Nat × Nat)
  fetch : Option (Nat × Nat × Nat × Bool)
  unsig : Nat
  unsigAt : Nat
  withdraw : Bool
  lost : Bool
  deriving DecidableEq, Repr

def Ring.reset : Ring := ⟨[], none, 0, 0, false, false⟩

/-- The recall ring and a recall walk (R385, R386): the next record's SEQ, the address of the newest record, for each
channel's segment the next write address, the channel used last; and the walk: the record to read next, the SEQ it must
have, records examined and lines found, with the request as GO took it (key, source stream, OUT stream, FROM, TO,
NOT_BEFORE, MAX_LINES). -/
structure Recall where
  seq : Nat
  newest : Nat
  at_ : List (Nat × Nat)
  chan : Nat
  walk : Option (Nat × Option Nat)
  scanned : Nat
  found : Nat
  key : Nat
  stream : Nat
  out : Nat
  from_ : Nat
  to_ : Nat
  notBefore : Nat
  maxLines : Nat
  deriving DecidableEq, Repr

def Recall.reset : Recall := ⟨0, 0, [], 7, none, 0, 0, 0, 0, 0, 0, 0, 0, 0⟩

/-! ## The management controller -/

/-- The hidden state of the management controller: BUILD_ID of the committed Cut List (R77); the Descriptor ROM's
generation, records and their number (R407); the ports whose mailbox requests wait, in the order of their GO, and those
whose answer follows later work (R416, R418); the contents of the flash (R74) and of the OTP (R91), each by byte, and the
OTP shadow of the last power-on (R71); whether the boot ROM has handed over an image, whether firmware runs, and of its image the digest, SEC_VERSION and ROLLBACK_FLOOR
(R473); whether the identity key is ready and the certificate valid (R474, R475); whether a Cut List is being applied or
in force, with its digest and SEC_VERSION (R85); TOTAL of the update that is receiving and the image received in recovery
(R478, R484); the sensors at or above WARN and Tmax that have not re-armed (R462); the polls in a row that each regulator
missed, and its VOUT_MODE (R464); the next entry's place in the flash log, its sector's SEQ and BOOTS (R467); for each Cut List slot the
entries 0x8047 in a row (R87); the idle levels declared for ENC_B, and whether VDDIO_ENC is disabled (R51, R84);
whether the boot ROM has enabled the xSPI and UART outputs (R43); and the flash interface: its mode (0 1-1-1, 1 1S-8S-8S,
2 8S-8S-8S, 3 8D-8D-8D), its clock in units of 0.5 MHz, the opcode and the dummy cycles of a fast read (R72, R73); the
elapsed tick at which firmware started, and whether OUTPUT_COMMIT was 1 then (R460, R480); and the tick at which stage 8
began to wait (R85). -/
structure Mc where
  buildId : Nat
  romGen : Nat
  romRecs : List Byte
  romCount : Nat
  mboxOrder : List Nat
  mboxLate : List Nat
  flash : List (Nat × Byte)
  otp : List (Nat × Byte)
  shadow : List (Nat × Byte)
  fwSel : Bool
  fwOn : Bool
  fwDigest : Nat
  fwSec : Nat
  fwFloor : Bool
  keyReady : Bool
  certOk : Bool
  clOk : Bool
  clDigest : Nat
  clSec : Nat
  updTotal : Nat
  recImg : List Byte
  warned : List Nat
  hot : List Nat
  pmbFails : List (Nat × Nat)
  pmbMode : List (Nat × Nat)
  logPos : Nat
  logSeq : Nat
  boots : Nat
  badSections : List (Nat × Nat)
  encIdle : List (Nat × Bool)
  encOff : Bool
  pads : Bool
  flashMode : Nat
  flashClk : Nat
  flashOp : Nat
  flashDummy : Nat
  fwAt : Nat
  fwCommit : Bool
  waitAt : Nat
  deriving DecidableEq, Repr

def Mc.reset : Mc where
  buildId := 0
  romGen := 0
  romRecs := [0xFF, 0xFF, 0x04, 0x00]
  romCount := 1
  mboxOrder := []
  mboxLate := []
  flash := []
  otp := []
  shadow := []
  fwSel := false
  fwOn := false
  fwDigest := 0
  fwSec := 0
  fwFloor := false
  keyReady := false
  certOk := false
  clOk := false
  clDigest := 0
  clSec := 0
  updTotal := 0
  recImg := []
  warned := []
  hot := []
  pmbFails := []
  pmbMode := []
  logPos := 0
  logSeq := 0
  boots := 0
  badSections := []
  encIdle := []
  encOff := false
  pads := false
  flashMode := 0
  flashClk := 0
  flashOp := 0
  flashDummy := 0
  fwAt := 0
  fwCommit := false
  waitAt := 0

/-! ## Host ports -/

/-- A request to BAR2 (R410): a write or a read, its offset, its bytes (none: not enabled; for a read only their number
counts), the requester and tag, and EP. -/
structure PeerReq where
  write : Bool
  addr : Nat
  data : List (Option Byte)
  reqId : Nat
  tag : Nat
  ep : Bool
  deriving DecidableEq, Repr

/-- A write into DDR4 that waits for the grant of its requester: the port it came through, if any, its address, its bytes
(none: not enabled), and the 16-byte units of it whose codeword cannot be read (R16, R355). -/
structure DdrWrite where
  req : Nat
  port : Nat
  addr : Nat
  data : List (Option Byte)
  bad : List Nat
  deriving DecidableEq, Repr

/-- The hidden state of a host port: the tags of abandoned reads whose completions have not arrived (R404, R419), the
reads of BAR2 under way, the requests held undecoded during a switch (R412), and the windows committed at stage 5
(R420). -/
structure HostPort where
  late : List Nat
  reads : List PeerReq
  held : List PeerReq
  fixed : List (Nat × Word)
  deriving DecidableEq, Repr

def HostPort.reset : HostPort := ⟨[], [], [], []⟩

/-! ## What leaves the device -/

/-- What leaves the device through its links, written down in order: the model's own record, no register. -/
inductive Out where
  /-- A Tenon block sent on a lane: control or data, and its payload (R97). -/
  | block (lane : Nat) (ctl : Bool) (payload : Block)
  /-- Errors injected into what a lane sends: INJ_MODE and how many (R125). -/
  | inject (lane mode count : Nat)
  /-- An Ethernet frame sent on a lane (R172). -/
  | eth (lane : Nat) (msg : EthMsg)
  /-- Blocks of a Sill frame sent on a port (R429, R431). -/
  | sill (port : Nat) (bytes : List Byte)
  /-- A posted write into host memory (R382). -/
  | hostWrite (port : Nat) (addr : Nat) (bytes : List Byte)
  /-- A read request into host memory: tag, address and length (R404). -/
  | hostRead (port : Nat) (tag : Nat) (addr : Nat) (len : Nat)
  /-- A completion to a host (R413). -/
  | completion (port : Nat) (status : Nat) (poisoned : Bool) (bytes : List Byte)
  /-- An MSI-X message (R414). -/
  | msix (port : Nat) (vector : Nat)
  /-- A PMBus command of the MC: address, command code, data (R464). -/
  | pmbus (addr : Nat) (cmd : Nat) (data : Nat)
  /-- A line printed on the UART: INDEX, time, code, unit, argument (R468). -/
  | uart (index : Nat) (e : LogEntry)
  deriving DecidableEq, Repr

/-! ## The state -/

/-- The machine. `pending` is the queue of the commands that wait, first in, first out. -/
structure State where
  pending : List Instr
  /-- The registers, by BAR0 offset; what is not listed holds its reset value. -/
  regs : List (Nat × Word)
  /-- The model's own counter of free values taken. -/
  freeIdx : Nat
  out : List Out
  log : Log
  tb : TimeBase
  droop : Droop
  power : Power
  evt : EvtState
  sill : Sill
  /-- The configuration space of the two ports, by port × 4,096 + offset. -/
  cfg : List (Nat × Word)
  /-- The hidden state of the position channels, by channel. -/
  pos : List (Nat × PosChan)
  /-- The hidden state of the sequencers, by sequencer. -/
  seqs : List (Nat × Seq)
  /-- The committed firings and the outstanding triggers, oldest first. -/
  trigs : List Trigger
  /-- The end of the pulse that runs on each GPIO (R236). -/
  pulses : List (Nat × PulseEnd)
  ledger : Ledger
  /-- The hidden state of the lanes: the session, and the Tenon protocol. -/
  phy : List (Nat × LanePhy)
  tenon : List (Nat × LaneTenon)
  /-- The bay stores, by bay × 2^21 + offset. A byte that nothing has written reads as zero. -/
  bay : List (Nat × Byte)
  /-- The DDR4 memory, by 39-bit address. A byte that nothing has written reads as zero. -/
  ddr : List (Nat × Byte)
  /-- The hidden state of the Ethernet personality, by lane. -/
  eth : List (Nat × EthLane)
  /-- The hidden state of conditioning, by lane. -/
  cond : List (Nat × CondLane)
  /-- The hidden state of the scarf units and of the kerf buffers, by unit and by lane. -/
  scarf : List (Nat × Scarf)
  kerf : List (Nat × Kerf)
  /-- The hidden state of the engines; their instruction memories, by engine × 2^15 + byte, and data memories, by engine
  × 2^17 + byte (a byte that nothing has written reads as zero); the pushes on their way, by bay; the DMA channels, by
  bay × 8 + channel. -/
  eng : List (Nat × Engine)
  imem : List (Nat × Byte)
  dmem : List (Nat × Byte)
  pushes : List (Nat × List EngPush)
  /-- The model's own: how many CLK_CORE cycles have brought an event to an engine input (R325). -/
  coreCyc : Nat
  /-- The engine signals raised in the cycle `coreCyc`, each with its highest hop count (R334), and the tick at which the
  fault window began (R339). -/
  sigs : List (Nat × Nat)
  faultFrom : Nat
  /-- The tick at which the rate window of the streams began (R396). -/
  rateFrom : Nat
  dma : List (Nat × DmaChan)
  /-- The hidden state of the DDR4 channels, and of the arbiters: those of the channels, then 8 and 9 of the delivery
  ports. -/
  dram : List (Nat × DdrChan)
  arb : List (Nat × Arb)
  /-- The writes into DDR4 that wait for a grant, oldest first (R16). -/
  ddrOut : List DdrWrite
  /-- The deliveries that have not written their last tag, in the order in which they became ready; the next one's
  number; the streams, their rings, and recall. -/
  dlv : List Delivery
  dlvNext : Nat
  streams : List (Nat × Stream)
  rings : List (Nat × Ring)
  recl : Recall
  /-- The hidden state of the management controller. -/
  mc : Mc
  /-- The hidden state of the host ports. -/
  ports : List (Nat × HostPort)
  deriving DecidableEq, Repr

/-- The reasons a command can stop the machine with. No command of this model faults: every error the spec describes
is an effect on the state. -/
inductive Fault where
  /-- Raised by nobody: kept so that the type of outcomes has a name for it. Safe. -/
  | none
  deriving DecidableEq, Repr

/-- The reasons a command can be refused. -/
inductive Refusal where
  /-- Raised by Dispatch for a command that has no meaning in the model. Safe. -/
  | notModelled (mnemonic : String)
  deriving DecidableEq, Repr

/-- The machine right after power-on reset: every register at its reset value, every memory empty. -/
def State.reset : State where
  pending := []
  regs := []
  freeIdx := 0
  out := []
  log := Log.reset
  tb := TimeBase.reset
  droop := Droop.reset
  power := Power.reset
  evt := EvtState.reset
  sill := Sill.reset
  cfg := []
  pos := []
  seqs := []
  trigs := []
  pulses := []
  ledger := Ledger.reset
  phy := []
  tenon := []
  bay := []
  ddr := []
  eth := []
  cond := []
  scarf := []
  kerf := []
  eng := []
  imem := []
  dmem := []
  pushes := []
  coreCyc := 0
  sigs := []
  faultFrom := 0
  rateFrom := 0
  dma := []
  dram := []
  arb := []
  ddrOut := []
  dlv := []
  dlvNext := 0
  streams := []
  rings := []
  recl := Recall.reset
  mc := Mc.reset
  ports := []

end Sys2Proof.Machine
end

