-- ==== Sys2Proof/Machine/Ops.lean ====
section
/-!
DEFINITION. The named operations over registers, the event log, interrupts and time that every family shares.
-/

namespace Sys2Proof.Machine

open Reg

/-! ### Registers -/

/-- The Catmull-Rom weight of tap `k` at phase `p`, times 16,384 (R286), as a 16-bit two's complement number. -/
def catmull (p k : Nat) : Nat :=
  let q : Int := p
  let a := roundDiv (-(q * q * q) + 128 * q * q - 4096 * q) 32
  let c := roundDiv (-3 * (q * q * q) + 256 * q * q + 4096 * q) 32
  let d := roundDiv (q * q * q - 64 * q * q) 32
  trunc 16 (match k with | 0 => a | 1 => 16384 - a - c - d | 2 => c | _ => d)

/-- Tmax of the grade, in °C (R462). -/
def tmax : Nat := if Config.grade then 105 else 100

/-- The reset value of the register word at offset `o`: that of its row, but for the values fused at manufacture
(R503), the thermal threshold of the grade (R462) and the resampler's kernel table (R286). A reserved offset reads
zero (R8). -/
def regDefault (o : Nat) : Word :=
  if o = GLOBAL_ID then BitVec.ofNat 32 (0x9624 + Config.rev.toNat * 2 ^ 16 + b2n Config.grade * 2 ^ 24)
  else if o = GLOBAL_SERIAL then BitVec.ofNat 32 Config.serial.toNat
  else if o = GLOBAL_SERIAL + 4 then BitVec.ofNat 32 (Config.serial.toNat / 2 ^ 32)
  else if o = MC_THERM_CFG then BitVec.ofNat 32 (tmax - 5)
  else if 0x140000 ≤ o ∧ o < 0x158000 ∧ 0x200 ≤ o % 0x1000 ∧ o % 0x1000 < 0x400 then
    let p := (o % 0x1000 - 0x200) / 8
    let h := (o % 8) / 4
    BitVec.ofNat 32 (catmull p (2 * h) + 2 ^ 16 * catmull p (2 * h + 1))
  else match findRow o with
    | some r => BitVec.ofNat 32 r.reset
    | none => 0

/-- The register word at offset `o`. -/
def State.rd (s : State) (o : Nat) : Word := cget regDefault s.regs o

/-- The register word at offset `o` set to `v`, by the device itself (no access rule applies). -/
def State.wr (s : State) (o : Nat) (v : Word) : State := { s with regs := cset regDefault s.regs o v }

/-- A register word as a number. -/
def State.rdN (s : State) (o : Nat) : Nat := (s.rd o).toNat

/-- A register word set to a number (modulo 2^32). -/
def State.wrN (s : State) (o n : Nat) : State := s.wr o (BitVec.ofNat 32 n)

/-- A field's value. -/
def State.get (s : State) (f : Fld) : Nat := getBits (s.rdN f.off) f.lo f.w

/-- A field set to `n` (modulo its width). -/
def State.put (s : State) (f : Fld) (n : Nat) : State := s.wrN f.off (putBits (s.rdN f.off) f.lo f.w n)

/-- Whether a field is not zero. -/
def State.flag (s : State) (f : Fld) : Bool := s.get f != 0

/-- A one-bit field set to a Boolean. -/
def State.putB (s : State) (f : Fld) (b : Bool) : State := s.put f (b2n b)

/-- The bit `i` of a field of several bits set (an event bit of a unit, such as bit k of PORT_UP). -/
def Fld.sub (f : Fld) (i : Nat) : Fld := ⟨f.off, f.lo + i, 1⟩

/-- A 64-bit register. -/
def State.rd64 (s : State) (o : Nat) : Nat := s.rdN o + 2 ^ 32 * s.rdN (o + 4)

/-- A 64-bit register set to `n` (modulo 2^64). -/
def State.wr64 (s : State) (o n : Nat) : State := (s.wrN o n).wrN (o + 4) (n / 2 ^ 32)

/-- A 64-bit register as a signed number. -/
def State.rdS (s : State) (o : Nat) : Int := sext 64 (s.rd64 o)

/-- A 64-bit register set to a signed number (modulo 2^64). -/
def State.wrS (s : State) (o : Nat) (i : Int) : State := s.wr64 o (trunc 64 i)

/-- A time value (R241) in units of 2^-16 ns. -/
def State.rdTime (s : State) (o : Nat) : Nat :=
  ((getBits (s.rdN (o + 12)) 0 16 * 2 ^ 32 + s.rdN (o + 8)) * 1000000000 + s.rdN (o + 4)) * 65536 + getBits (s.rdN o) 0 16

/-- A time value (R241) stored from units of 2^-16 ns; seconds wrap modulo 2^48. -/
def State.wrTime (s : State) (o t : Nat) : State :=
  let sec := t / 65536 / 1000000000 % 2 ^ 48
  (((s.wrN o (t % 65536)).wrN (o + 4) (t / 65536 % 1000000000)).wrN (o + 8) sec).wrN (o + 12) (sec / 2 ^ 32)

/-- A 32-bit counter advanced by `n`, saturating at 0xFFFF_FFFF. -/
def State.bumpBy (s : State) (o n : Nat) : State := s.wrN o (min (s.rdN o + n) 0xFFFFFFFF)

/-- A 32-bit counter advanced by one, saturating at 0xFFFF_FFFF. -/
def State.bump (s : State) (o : Nat) : State := s.bumpBy o 1

/-- The status register of a capture group advanced: SEQ + 1 modulo 256, VALID set (R11). -/
def State.publish (s : State) (o : Nat) : State := s.wrN o ((s.rdN o + 1) % 256 + 256)

/-- A capture group with a capture count published (R11, R12). -/
def State.publishC (s : State) (o : Nat) : State := (s.publish o).wrN (o + 4) (s.rdN (o + 4) + 1)

/-! ### The hidden tables -/

/-- The value of a free value's next draw; the counter advances. -/
def State.free (s : State) : Nat × State := (Config.freeValue s.freeIdx, { s with freeIdx := s.freeIdx + 1 })

/-- What leaves the device is written down. -/
def State.emit (s : State) (o : Out) : State := { s with out := s.out ++ [o] }

/-- A step done only when a condition holds. -/
def State.iff (s : State) (c : Bool) (f : State → State) : State := if c then f s else s

/-! ### One part of the state changed -/

def State.modTrigs (s : State) (f : List Trigger → List Trigger) : State := { s with trigs := f s.trigs }
def State.modPower (s : State) (f : Power → Power) : State := { s with power := f s.power }
def State.modLog (s : State) (f : Log → Log) : State := { s with log := f s.log }
def State.modEvt (s : State) (f : EvtState → EvtState) : State := { s with evt := f s.evt }
def State.modRecl (s : State) (f : Recall → Recall) : State := { s with recl := f s.recl }
/-- The list of deliveries changed. -/
def State.modDlvs (s : State) (f : List Delivery → List Delivery) : State := { s with dlv := f s.dlv }
/-- The number of the next delivery counted on. -/
def State.countDlv (s : State) : State := { s with dlvNext := s.dlvNext + 1 }
/-- Every pulse on a GPIO ends (R42). -/
def State.dropPulses (s : State) : State := { s with pulses := [] }
/-- `n` free values drawn. -/
def State.drawn (s : State) (n : Nat) : State := { s with freeIdx := s.freeIdx + n }
def State.modMc (s : State) (f : Mc → Mc) : State := { s with mc := f s.mc }
def State.modTb (s : State) (f : TimeBase → TimeBase) : State := { s with tb := f s.tb }
def State.modDroop (s : State) (f : Droop → Droop) : State := { s with droop := f s.droop }
def State.modSill (s : State) (f : Sill → Sill) : State := { s with sill := f s.sill }
def State.modLedger (s : State) (f : Ledger → Ledger) : State := { s with ledger := f s.ledger }

/-! ### Time -/

/-- The time base in units of 2^-16 ns: its visible 96 bits (R241). -/
def State.now (s : State) : Nat := s.tb.cnt / 65536

/-- The time base as seconds, for a log entry or a tag. -/
def State.nowSec (s : State) : Nat := s.now / 65536 / 1000000000

/-- The nanoseconds of the time base within its second. -/
def State.nowNs (s : State) : Nat := s.now / 65536 % 1000000000

/-! ### The event log -/

/-- The severity of a log code (R493). -/
def severity (c : Nat) : Nat :=
  if c ∈ [0x110B, 0x1343, 0x2012, 0x2031, 0x3011, 0x3031, 0x3103, 0x4001, 0x5201, 0x5205, 0x6001, 0x6010, 0x6034,
      0x7120, 0x8060, 0x8061, 0x8063, 0x8065, 0x8066, 0x806A, 0x8071, 0x9140] then 1
  else if c ∈ [0x1101, 0x1102, 0x1106, 0x1230, 0x1231, 0x1235, 0x1240, 0x1242, 0x1243, 0x1244, 0x1245, 0x1301, 0x1302,
      0x1330, 0x2021, 0x2050, 0x3002, 0x3010, 0x3020, 0x3050, 0x4002, 0x4050, 0x5010, 0x5103, 0x5111, 0x5120, 0x5202,
      0x5204, 0x5301, 0x5302, 0x6002, 0x6005, 0x6012, 0x6033, 0x6035, 0x7110, 0x7130, 0x7304, 0x8011, 0x8020, 0x8041,
      0x8049, 0x8050, 0x8064, 0x8069, 0x806B, 0x8073, 0x8074, 0x8075, 0x9101, 0x9150, 0x9155, 0x9201] then 2
  else if c ∈ [0x1109, 0x110A, 0x4011, 0x4012, 0x4014, 0x4021, 0x6030, 0x7131, 0x7204, 0x7303, 0x7310, 0x8021, 0x8022,
      0x8032, 0x8043, 0x8046, 0x8047, 0x804A, 0x804B, 0x804C, 0x804D, 0x804E, 0x804F, 0x8054, 0x8055, 0x8056, 0x8057,
      0x8058, 0x8062, 0x8068, 0x9114, 0x9116] then 4
  else if c ∈ [0x4030, 0x8070, 0x9111, 0x9112, 0x9113, 0x9203] then 5
  else 3

/-- UNIT of an entry whose code names no unit (R465). -/
def noUnit : Nat := 0xFF

/-- A log entry (R465) made at the present time base. -/
def State.entry (s : State) (code unit arg : Nat) (cont : Bool) : LogEntry where
  w0 := BitVec.ofNat 32 (code + (severity code + 128 * b2n cont) * 2 ^ 16 + unit % 256 * 2 ^ 24)
  w1 := BitVec.ofNat 32 s.nowSec
  w2 := BitVec.ofNat 32 s.nowNs
  w3 := BitVec.ofNat 32 arg

/-- An extension entry that carries `lo` in bytes 4 to 7 and `b8` in byte 8 (R522). -/
def extEntry (lo b8 : Nat) : LogEntry := ⟨0, BitVec.ofNat 32 lo, BitVec.ofNat 32 b8, 0⟩

/-- An entry and its extensions pass into the log writer's queue; one that finds the queue full is lost and counted
(R466). -/
def State.logItem (s : State) (i : LogItem) : State :=
  if s.log.queue.length < 64 then s.modLog (fun g => { g with queue := g.queue ++ [i] })
  else s.bump MC_CNT_LOG_DROP

/-- Log `code` with its unit, its argument and its extension entries (R465, R522). -/
def State.logX (s : State) (code unit arg : Nat) (exts : List LogEntry) : State :=
  s.logItem ⟨s.entry code unit arg (exts != []), exts⟩

/-- Log `code` with its unit and its argument. -/
def State.logC (s : State) (code unit arg : Nat) : State := s.logX code unit arg []

/-- A code whose 64-bit value spreads over ARG and an extension (R522): 0x2010, 0x2050, 0x3050, 0x7203, 0x9150,
0x9151. -/
def State.log64 (s : State) (code unit : Nat) (v : Int) (b8 : Nat) : State :=
  s.logX code unit (trunc 64 v) [extEntry (trunc 64 v / 2 ^ 32) b8]

/-- Whether a limiter is the one of `code` and `item`. -/
def Limiter.isFor (l : Limiter) (code item : Nat) : Bool := l.code == code && l.item == item

/-- ARG of a rate-limited code (R522): a count alone, or in [15:0] after the value of 16 bits that is named first; else the
argument. -/
def limArg (counted : Bool) (count arg : Nat) : Nat :=
  if !counted then arg else if arg = 0 then count else arg * 65536 + min count 65535

/-- A rate-limited code for one item (R523): logged at once while its limiter is idle, else counted. With `counted`
the entry carries the count of the occurrences in ARG. -/
def State.logLim (s : State) (code item unit arg : Nat) (counted : Bool) (exts : List LogEntry) : State :=
  match s.log.limiters.find? (fun l => l.isFor code item) with
  | none =>
    let s := s.logX code unit (limArg counted 1 arg) exts
    s.modLog (fun g => { g with limiters := g.limiters ++ [⟨code, item, s.tb.ticks, counted, 0, unit, arg, exts⟩] })
  | some _ =>
    s.modLog (fun g => { g with limiters := g.limiters.map (fun l =>
      if l.isFor code item then { l with count := l.count + 1, unit := unit, arg := arg, exts := exts } else l) })

/-- A rate-limited code without a count in its entry. -/
def State.logOnce (s : State) (code item unit arg : Nat) : State := s.logLim code item unit arg false []

/-- A rate-limited code that carries its count. -/
def State.logCount (s : State) (code item unit : Nat) : State := s.logLim code item unit 0 true []

end Sys2Proof.Machine
end

