-- ==== Sys2Proof/Machine/Flags.lean ====
section
/-!
DEFINITION. The flags of the block: event bits and the interrupts they raise (R414, R415), the live summaries of R506,
and the commits that gate outputs, links and RWL fields.
-/

namespace Sys2Proof.Machine

open Reg

/-! ### The configuration space word by word (the parts that flags need; the rest is in Pcie) -/

/-- The reset value of the word at offset `o` of a port's configuration space (R400): header, Power Management at 0x40,
MSI-X at 0x50 (2,048 vectors), PCI Express at 0x70, and the extended capabilities' headers. -/
def cfgDefault (k : Nat) : Word :=
  match k % 4096 with
  | 0x00 => BitVec.ofNat 32 (0x96240000 + Config.vendorId % 2 ^ 16)
  | 0x04 => 0x00100000
  | 0x08 => BitVec.ofNat 32 (0x11800000 + Config.rev.toNat)
  | 0x10 => 0x00000004
  | 0x18 => 0x0000000C
  | 0x34 => 0x00000040
  | 0x40 => 0x00035001
  | 0x44 => 0x00000008
  | 0x50 => 0x07FF7011
  | 0x54 => 0x00250000
  | 0x58 => 0x00258000
  | 0x70 => 0x00020010
  | 0x74 => 0x10008022
  | 0x78 => 0x00002810
  | 0x94 => 0x00010013
  | 0x100 => 0x14810001
  | 0x108 => 0x00400000
  | 0x10C => 0x00462030
  | 0x114 => 0x0000E000
  | 0x118 => 0x000000A0
  | 0x148 => 0x15810003
  | 0x14C => BitVec.ofNat 32 Config.serial.toNat
  | 0x150 => BitVec.ofNat 32 (Config.serial.toNat / 2 ^ 32)
  | 0x158 => 0x17810019
  | 0x178 => 0x18410025
  | 0x184 => 0x1B010026
  | 0x1B0 => 0x1E01002A
  | 0x1E0 => 0x22010027
  | 0x220 => 0x00010031
  | _ => 0

/-- The word at offset `o` of the configuration space of port `p`. -/
def State.cfgRd (s : State) (p o : Nat) : Nat := (cget cfgDefault s.cfg (4096 * p + o)).toNat

/-- The word at offset `o` of the configuration space of port `p` set. -/
def State.cfgWr (s : State) (p o n : Nat) : State :=
  { s with cfg := cset cfgDefault s.cfg (4096 * p + o) (BitVec.ofNat 32 n) }

/-! ### Commits -/

/-- CL_COMMIT: the Cut List is committed and RWL fields are locked (R85). -/
def State.clCommit (s : State) : Bool := s.flag GLOBAL_COMMIT_CL_COMMIT
/-- LINK_RELEASE: lanes, Sill ports and position channels may run (R88). -/
def State.linkRelease (s : State) : Bool := s.flag GLOBAL_COMMIT_LINK_RELEASE
/-- OUTPUT_COMMIT: field outputs are driven (R42). -/
def State.outCommit (s : State) : Bool := s.flag GLOBAL_COMMIT_OUTPUT_COMMIT

/-! ### Interrupts -/

/-- Whether port `p` can send a message for vector `v` now: MSI-X enabled, neither the function nor the vector masked,
Bus Master Enable set and the function in D0 (R415). -/
def State.msixOpen (s : State) (p v : Nat) : Bool :=
  bit (s.cfgRd p 0x50) 31 && !bit (s.cfgRd p 0x50) 30 && !s.flag (MSIX_CTRL_MASK p v) &&
    s.flag (PCIE_STATUS_BME p) && !s.flag (PCIE_STATUS_D3 p)

/-- A message for vector `v` of port `p`: sent, or left pending (R415). -/
def State.msixSend (s : State) (p v : Nat) : State :=
  if s.msixOpen p v then s.emit (.msix p v) else s.putB ⟨MSIX_PBA p (v / 32), v % 32, 1⟩ true

/-- A status class requests an interrupt on one port, if PCIE_IRQ_EN enables it there (R415). -/
def State.irqPort (s : State) (p cls : Nat) : State :=
  s.iff (bit (s.rdN (PCIE_IRQ_EN p)) cls) (fun s => s.msixSend p cls)

/-- A status class requests an interrupt on both ports (R415). -/
def State.irq (s : State) (cls : Nat) : State := (s.irqPort 0 cls).irqPort 1 cls

/-- An event bit is set by the device. When the bit's enable (the register that follows) is 1 and the bit was 0, the
class requests an interrupt (R6, R415). -/
def State.raise (s : State) (cls : Nat) (f : Fld) : State :=
  let rises := !s.flag f && s.flag ⟨f.off + 4, f.lo, f.w⟩
  (s.putB f true).iff rises (fun s => s.irq cls)

/-- An event bit of port `p`'s own class 12 is set (R414). -/
def State.raisePcie (s : State) (p : Nat) (f : Fld) : State :=
  let rises := !s.flag f && s.flag ⟨f.off + 4, f.lo, f.w⟩
  (s.putB f true).iff rises (fun s => s.irqPort p 12)

/-- Whether an event register requests an interrupt: any bit set whose enable is set. -/
def State.asks (s : State) (o : Nat) : Bool := Nat.land (s.rdN o) (s.rdN (o + 4)) != 0

/-- A number with bit `i` set where `f i` holds, for `i` below `n`. -/
def bitsOf (n : Nat) (f : Nat → Bool) : Nat := ((List.range n).filter f).foldl (fun a i => a + 2 ^ i) 0

/-! ### The summaries of R506 -/

/-- Lane `l` requests an interrupt. -/
def State.laneAsks (s : State) (l : Nat) : Bool :=
  s.asks (LANE_EVENTS l) || s.asks (TENON_EVENTS l) || s.asks (ETH_EVENTS l)

/-- Bay `b` requests an interrupt by its conditioning events. -/
def State.bayAsks (s : State) (b : Nat) : Bool := s.asks (BAY_COND_EVENTS b)

/-- Class `v` of R414 requests an interrupt (classes 1 to 11). -/
def State.classAsks (s : State) (v : Nat) : Bool :=
  match v with
  | 1 => (List.range 96).any s.laneAsks
  | 2 => (List.range 24).any s.bayAsks || (List.range 192).any (fun e => s.asks (ENG_EVENTS e))
  | 3 => (List.range 16).any (fun u => s.asks (STITCH_EVENTS u))
  | 4 => (List.range 8).any (fun k => s.asks (DDR_EVENTS k))
  | 5 => (List.range 16).any (fun c => s.asks (POS_EVENTS c))
  | 6 => (List.range 128).any (fun q => s.asks (TRIG_EVENTS q))
  | 7 => s.asks TB_EVENTS
  | 8 => s.asks EVT_IRQ
  | 9 => (List.range 256).any (fun t => s.asks (DLV_EVENTS t))
  | 10 => s.asks SILL_EVENTS
  | 11 => s.asks GLOBAL_EVENTS || s.asks MC_EVENTS
  | _ => false

/-- PCIE_IRQ_SRC of port `p`: bit v while class v requests an interrupt; bit 0 while the port's mailbox shows a
response, bit 12 for the port's own events (R415). -/
def State.irqSrc (s : State) (p : Nat) : Nat :=
  bitsOf 14 (fun v => if v = 0 then s.get (MBOX_STATUS_STATE p) == 2
    else if v = 12 then s.asks (PCIE_EVENTS p) else s.classAsks v)

/-! ### Refused writes (R504) -/

/-- A write by `master` (0 MC, 1 port A, 2 port B) at BAR0 offset `o` that a rule refuses with `cause`: counted and
published (R504). -/
def State.badAccess (s : State) (master o cause : Nat) : State :=
  ((((s.bump GLOBAL_BAD_ACCESS).wrN GLOBAL_BAD_LAST_OFFSET o).wrN GLOBAL_BAD_LAST_INFO
    (master + 16 * cause + 256)).publish GLOBAL_BAD_LAST_STATUS).raise 11 GLOBAL_EVENTS_BAD_ACCESS

/-! ### Settings that a lane takes over at a session's start or at its entry to ACTIVE (R112, R167, R187) -/

/-- The copies in force of such registers lie this far above them. -/
def latchShift : Nat := 0x2000000
/-- The registers at `os` are taken over. -/
def State.latch (s : State) (os : List Nat) : State := os.foldl (fun s o => s.wr (o + latchShift) (s.rd o)) s
/-- A field of a Tenon or lane setting of lane `l`: as the session took it over, or, in OFF and RESET, as it stands. -/
def State.getT (s : State) (l : Nat) (f : Fld) : Nat :=
  s.get (if s.get (LANE_STATUS_STATE l) ≤ 1 then f else { f with off := f.off + latchShift })
def State.flagT (s : State) (l : Nat) (f : Fld) : Bool := s.getT l f != 0
/-- A field of an Ethernet setting of lane `l`: as the entry to ACTIVE took it over, or, outside ACTIVE, as it stands. -/
def State.getE (s : State) (l : Nat) (f : Fld) : Nat :=
  s.get (if s.get (LANE_STATUS_STATE l) = 6 then { f with off := f.off + latchShift } else f)
def State.flagE (s : State) (l : Nat) (f : Fld) : Bool := s.getE l f != 0
/-- A whole word of such a setting. -/
def State.rdE (s : State) (l o : Nat) : Nat := s.getE l ⟨o, 0, 32⟩

/-! ### Units in service (R494) -/

def State.laneRetired (s : State) (l : Nat) : Bool := bit (s.rdN (GLOBAL_RETIRED_LANE (l / 32))) (l % 32)
def State.bayRetired (s : State) (b : Nat) : Bool := bit (s.rdN GLOBAL_RETIRED_BAY) b
def State.engRetired (s : State) (e : Nat) : Bool := bit (s.rdN (GLOBAL_RETIRED_ENG (e / 32))) (e % 32)
def State.posRetired (s : State) (c : Nat) : Bool := bit (s.get GLOBAL_RETIRED_MISC_POS) c
def State.ddrRetired (s : State) (k : Nat) : Bool := bit (s.get GLOBAL_RETIRED_MISC_DDR) k
def State.sillRetired (s : State) (q : Nat) : Bool := bit (s.get GLOBAL_RETIRED_MISC_SILL) q

/-- Whether the whole device, or everything but the always-on domain, is held in reset (R68). -/
def State.held (s : State) : Bool := s.power.porst || s.power.sysRst

/-! ### Host ports: who reaches the device, and Advanced Error Reporting (R421, R423) -/

/-- AER records an uncorrectable error by its bit (R423). The first unmasked one fixes the header log, whose words no rule
states. -/
def State.aerUnc (s : State) (p b : Nat) : State :=
  let st := s.cfgRd p 0x104
  let first := Nat.land st (Nat.xor (s.cfgRd p 0x108) 0xFFFFFFFF) == 0 && !bit (s.cfgRd p 0x108) b
  let s := s.cfgWr p 0x104 (Nat.lor st (2 ^ b))
  if !first then s
  else
    let fv := fun k => Config.freeValue (s.freeIdx + k)
    let s := (List.range 4).foldl (fun s k => s.cfgWr p (0x11C + 4 * k) (fv k)) s
    (s.cfgWr p 0x118 (putBits (s.cfgRd p 0x118) 0 5 b)).drawn 4
/-- AER records a correctable error (R423). -/
def State.aerCor (s : State) (p b : Nat) : State :=
  (s.cfgWr p 0x110 (Nat.lor (s.cfgRd p 0x110) (2 ^ b))).bump (PCIE_CNT_CORR p)
/-- AER records an advisory error (R423): while its severity is non-fatal, also as Advisory Non-Fatal. PRESUMED: the bits
are those of the PCI Express Base Specification. -/
def State.aerAdv (s : State) (p b : Nat) : State :=
  (s.iff (!bit (s.cfgRd p 0x10C) b) (fun s => s.cfgWr p 0x110 (Nat.lor (s.cfgRd p 0x110) (2 ^ 13)))).aerUnc p b

/-- What a port does for a request that it completes with Unsupported Request (R410, R421, R423): counted, raised, logged
once a second, reported; for a posted request as advisory. -/
def State.urNote (s : State) (p : Nat) (posted : Bool) : State :=
  let s := ((s.bump (PCIE_CNT_UR p)).raisePcie p (PCIE_EVENTS_UR p)).logCount 0x5210 p p
  if posted then s.aerAdv p 20 else s.aerUnc p 20

/-- Whether a master's accesses reach the register network: the MC's, and those of a host whose link is up with the
function in D0 (R421). -/
def State.reaches (s : State) (master : Nat) : Bool :=
  !s.held && (master == 0 || (s.flag (PCIE_LINK_UP (master - 1)) && !s.flag (PCIE_STATUS_D3 (master - 1))))
/-- A write that does not reach it: to a port in D3hot it is an Unsupported Request (R421). -/
def State.unreached (s : State) (master : Nat) : State :=
  s.iff (!s.held && master != 0 && s.flag (PCIE_LINK_UP (master - 1))) (fun s => s.urNote (master - 1) true)

end Sys2Proof.Machine
end

