-- ==== Sys2Proof/Machine/MboxCore.lean ====
section
/-!
DEFINITION. The mailbox of a port: its request, and how a response is written (R416, R417).
-/

namespace Sys2Proof.Machine

open Reg

/-- RESULT codes (R417). -/
def rOk : Nat := 0
def rBusy : Nat := 1
def rBadOpcode : Nat := 2
def rBadArgs : Nat := 3
def rRefused : Nat := 4
def rInUse : Nat := 5
def rAuth : Nat := 6
def rAborted : Nat := 7

/-- `n` bytes of the request of port `p`, from byte `i` of REQ on. -/
def State.reqBytes (s : State) (p i n : Nat) : List Byte :=
  (List.range n).map (fun k => BitVec.ofNat 8 (getBits (s.rdN (MBOX_REQ p ((i + k) / 4))) (8 * ((i + k) % 4)) 8))
/-- `k` bytes of REQ from byte `i` on, as a number. -/
def State.reqN (s : State) (p i k : Nat) : Nat := ofBytes (s.reqBytes p i k)
/-- The payload begins at byte 16. -/
def State.payN (s : State) (p i k : Nat) : Nat := s.reqN p (16 + i) k
def State.payBytes (s : State) (p i n : Nat) : List Byte := s.reqBytes p (16 + i) n
def State.reqOpcode (s : State) (p : Nat) : Nat := s.reqN p 0 2
/-- LEN, at most 4,080. -/
def State.reqLen (s : State) (p : Nat) : Nat := min 4080 (s.reqN p 4 4)

/-- Bytes written into RSP of port `p` from byte `i` on; `i` is a multiple of 4. -/
def State.rspWrite (s : State) (p i : Nat) (l : List Byte) : State :=
  (List.range (ceilDiv l.length 4)).foldl (fun s k => s.wrN (MBOX_RSP p (i / 4 + k)) (bytesAt l (4 * k) 4)) s

/-- The mailbox of port `p` waits for nothing more. -/
def State.mboxLeave (s : State) (p : Nat) : State :=
  s.modMc (fun m => { m with
    mboxOrder := m.mboxOrder.filter (fun q => q != p), mboxLate := m.mboxLate.filter (fun q => q != p) })

/-- STATE of port `p` leaves BUSY with a result; one other than OK and BUSY is logged. -/
def State.mboxDone (s : State) (p result : Nat) : State :=
  let op := s.reqOpcode p
  let s := (((s.put (MBOX_STATUS_RESULT p) result).put (MBOX_STATUS_STATE p) 2).putB (MBOX_CMD_GO p) false).mboxLeave p
  (s.irqPort p 0).iff (decide (1 < result)) (fun s => s.logC 0x5301 p (op * 65536 + result))

/-- The response of port `p`: header, payload, STATE DONE, vector 0. -/
def State.answer (s : State) (p result detail : Nat) (payload : List Byte) : State :=
  let hdr := toBytes 2 (s.reqOpcode p) ++ toBytes 2 result ++ toBytes 4 payload.length ++ toBytes 4 (s.reqN p 8 4) ++ toBytes 4 detail
  (s.rspWrite p 0 (hdr ++ payload)).mboxDone p result

/-- A response whose DETAIL no rule states. -/
def State.answerFree (s : State) (p result : Nat) (payload : List Byte) : State :=
  let r := s.free
  r.2.answer p result r.1 payload

end Sys2Proof.Machine
end

