-- ==== Sys2Proof/Machine/Arb.lean ====
section
/-!
DEFINITION. The arbiters of the DDR4 channels and of the delivery ports (R16, R361 to R364, R382): requests, decisions
and losses.
-/

namespace Sys2Proof.Machine

open Reg

/-- The arbiter `a`, and a change of it. -/
def State.arbOf (s : State) (a : Nat) : Arb := cget (fun _ => Arb.reset) s.arb a
def State.modArb (s : State) (a : Nat) (f : Arb → Arb) : State :=
  { s with arb := cset (fun _ => Arb.reset) s.arb a (f (s.arbOf a)) }

/-- PRIV of requester `r`, its RANK, N, and the time of a burst at arbiter `a` (8 and 9 are the delivery ports). -/
def State.arbPriv (s : State) (a r : Nat) : Bool :=
  if a < 8 then bit (s.rdN (DDR_ARB_PRIV a)) r else bit (s.rd64 (DLV_ARB_PRIV (a - 8))) r
def State.arbRank (s : State) (a r : Nat) : Nat :=
  getBits (s.rdN (if a < 8 then DDR_ARB_RANK a (r / 8) else DLV_ARB_RANK (a - 8) (r / 8))) (4 * (r % 8)) 3
def State.arbN (s : State) (a : Nat) : Nat :=
  min 64 (max 2 (s.get (if a < 8 then DDR_ARB_CFG_N a else DLV_ARB_CFG_N (a - 8))))
/-- Whether requester `p` is ahead of `q` under PRIV and RANK. -/
def State.aheadOf (s : State) (a p q : Nat) : Bool :=
  (s.arbPriv a p && !s.arbPriv a q) || (s.arbPriv a p == s.arbPriv a q && decide (s.arbRank a q < s.arbRank a p))

/-- Whether request `x` is before `y` by age, ties to the lower number. -/
def older (x y : ArbReq) : Bool := decide (x.at_ < y.at_) || (x.at_ == y.at_ && decide (x.req < y.req))

/-- Whether request `x` is before `y` under the three keys. -/
def State.before (s : State) (a : Nat) (x y : ArbReq) : Bool :=
  s.aheadOf a x.req y.req || (!s.aheadOf a y.req x.req && older x y)

/-- The first of a list under an order. -/
def firstBy (f : ArbReq → ArbReq → Bool) : List ArbReq → Option ArbReq
  | [] => none
  | x :: t => match firstBy f t with
    | none => some x
    | some y => if f y x then some y else some x

/-- The holder and the grants to the next Nth one are shown. -/
def State.showArb (s : State) (a : Nat) : State :=
  let x := s.arbOf a
  if a < 8 then
    (s.put (DDR_ARB_HOLD_HOLDER a) (match x.hold with | some h => h.req | none => 31)).put (DDR_ARB_HOLD_NEXT_NTH a)
      (s.arbN a - x.grants % s.arbN a)
  else s.put (DLV_ARB_HOLD_HOLDER (a - 8)) (match x.hold with | some h => h.req | none => 63)

/-- A request loses (R363): it withdraws for its back-off count, which doubles up to 4,096. -/
def State.arbLose (s : State) (a r : Nat) : State :=
  (s.modArb a (fun x => { x with reqs := x.reqs.map (fun (q : ArbReq) =>
    if q.req == r then { q with backoff := true, count := min 4096 (2 * q.count) } else q) })).iff (decide (a < 8))
      (fun s => s.bump (DDR_CNT_LOSS a r))

/-- A decision (R362): the winner is granted, and raised unprivileged requesters that lose back off. -/
def State.decideArb (s : State) (a : Nat) : State :=
  let x := s.arbOf a
  let raised := x.reqs.filter (fun (q : ArbReq) => !q.backoff)
  let nth := (x.grants + 1) % s.arbN a == 0
  let plain := firstBy (s.before a) raised
  let win := if nth then firstBy older x.reqs else plain
  match win with
  | none => s.showArb a
  | some w =>
    let s := s.iff (nth && decide (a < 8) && (match plain with | some p => p.req != w.req | none => true)) (fun s => s.bump (DDR_CNT_NTH a))
    let s := s.modArb a (fun x => { x with
      reqs := x.reqs.filter (fun (q : ArbReq) => q.req != w.req), hold := some { w with backoff := false, count := 16 },
      grants := x.grants + 1 })
    (raised.foldl (fun s (q : ArbReq) => s.iff (q.req != w.req && !s.arbPriv a q.req) (fun s => s.arbLose a q.req)) s).showArb a

/-- A requester raises its request, now or again after back-off: a decision where the channel is idle; else it stays
raised, or loses when it is not ahead of the holder. -/
def State.arbRaised (s : State) (a r : Nat) : State :=
  match (s.arbOf a).hold with
  | none => s.decideArb a
  | some h => if s.aheadOf a r h.req || s.arbPriv a r then s else s.arbLose a r

/-- Whether an arbiter serves: a channel that runs, or a delivery port. -/
def State.arbServes (s : State) (a : Nat) : Bool := decide (8 ≤ a) || s.get (DDR_STATUS_STATE a) == 2

/-- Requester `r` asks arbiter `a` for a grant, unless it has asked or holds one, or the arbiter does not serve (R362). -/
def State.arbAsk (s : State) (a r : Nat) : State :=
  let x := s.arbOf a
  let known := x.reqs.any (fun (q : ArbReq) => q.req == r) || (match x.hold with | some h => h.req == r | none => false)
  if known || !s.arbServes a then s
  else (s.modArb a (fun x => { x with reqs := x.reqs ++ [⟨r, s.tb.ticks, false, 8⟩] })).arbRaised a r

/-- Whether a request of requester `r` at arbiter `a` still waits for its grant. -/
def State.arbWaits (s : State) (a r : Nat) : Bool := s.arbServes a && (s.arbOf a).reqs.any (fun (q : ArbReq) => q.req == r)

/-- The channel of a DDR4 address (R347). -/
def chanAt (a : Nat) : Nat := a / 2 ^ 36 % 8

/-- The requesters of a channel beside the bays (R16). -/
def reqRecall : Nat := 24
def reqPeer : Nat := 25
def reqRefload : Nat := 26
def reqMgmt : Nat := 27

end Sys2Proof.Machine
end

