-- ==== Sys2Proof/Machine/SillPath.lean ====
section
/-!
DEFINITION. The paths of the Sill that other families use: building frames (R429, R430), the ports' queues (R431) and
the way "up to the root, then down" (R432).
-/

namespace Sys2Proof.Machine

open Reg

def State.sport (s : State) (p : Nat) : SillPort := cget (fun _ => SillPort.reset) s.sill.ports p
def State.setSport (s : State) (p : Nat) (x : SillPort) : State :=
  { s with sill := { s.sill with ports := cset (fun _ => SillPort.reset) s.sill.ports p x } }
def State.modSport (s : State) (p : Nat) (f : SillPort → SillPort) : State := s.setSport p (f (s.sport p))

/-- A control block of a frame. -/
def sillC (type : Nat) (content : List Byte) : Bool × Block := (true, ctlBlock type content)
/-- A data block of a frame: content in bytes 0 to 6, CRC-8 in byte 7 (R429). -/
def sillD (content : List Byte) : Bool × Block := (false, checkedBlock content)

/-- Whether every block of a received frame has a correct CRC (R429). -/
def frameOk (bs : List (Bool × Block)) : Bool := bs.all (fun b => checkOk b.2)

/-- A frame with a failed CRC is discarded whole and counted (R429). -/
def State.sillDiscard (s : State) (p : Nat) : State := (s.bump (SILL_CNT_CRC p)).logCount 0x6020 p p

/-- The state of a port (R427). -/
def State.sillState (s : State) (p : Nat) : Nat := s.get (SILL_PORT_STATUS_STATE p)
/-- The role in force of a port: 0 unused, 1 UP, 2 DOWN, 3 TWIN (R426, R453). -/
def State.sillRole (s : State) (p : Nat) : Nat := s.get (SILL_PORT_STATUS_ROLE p)
/-- Whether a port is ACTIVE with the given role. -/
def State.sillOpen (s : State) (r p : Nat) : Bool := s.sillState p == 4 && s.sillRole p == r
/-- The node's own number. -/
def State.nodeId (s : State) : Nat := s.get SILL_CFG_NODE_ID

/-- A frame joins the queue of a port. A port holds at most 64 EVENT and 16 MGMT frames; a further one is dropped and
counted (R442, R444). -/
def State.sillTx (s : State) (p : Nat) (t : SillTx) : State :=
  let q := (s.sport p).txq
  if t.isEvent && decide (64 ≤ (q.filter (fun x => x.isEvent)).length) then
    ((s.bump (SILL_CNT_EVT_DROP p)).raise 10 SILL_EVENTS_EVT_DROP).logOnce 0x6042 p p 0
  else if t.cls == 3 && decide (16 ≤ (q.filter (fun x => x.cls == 3)).length) then s.bump (SILL_CNT_MGMT_DROP p)
  else s.modSport p (fun x => { x with txq := x.txq ++ [t] })

/-- A frame is sent on every ACTIVE port of a role. -/
def State.sillSendRole (s : State) (role : Nat) (t : SillTx) : State :=
  ((List.range 4).filter (fun p => s.sillOpen role p)).foldl (fun s p => s.sillTx p t) s

/-- The selected UP port (R447), if one is ACTIVE. -/
def State.selectedUp (s : State) : Option Nat :=
  (List.range 4).find? (fun p => s.sillOpen 1 p && s.flag (SILL_PORT_STATUS_SELECTED p))

/-- Whether this node turns frames around: the holder, or a root without a twin (R432). -/
def State.sillTurns (s : State) : Bool := s.get SILL_STATUS_ROLE == 1 || s.get SILL_STATUS_ROLE == 3

/-- A frame that travels "up to the root, then down" leaves this node: up on the selected UP port of a repeater, on the
TWIN port of a standby, and down on every DOWN port where this node turns frames around (R432). -/
def State.sillUp (s : State) (t : SillTx) : State :=
  if s.sillTurns then s.sillSendRole 2 t
  else if s.get SILL_STATUS_ROLE == 4 then s.sillSendRole 3 t
  else match s.selectedUp with
    | some p => s.sillTx p t
    | none => s

/-- The next frame of a port: the first of the lowest class (R431). -/
def nextTx (q : List SillTx) : Option SillTx :=
  (List.range 4).findSome? (fun c => q.find? (fun t => t.cls == c))

/-- The frame whose block a port sends next, and the port without it (R431): the frame in progress; else the next waiting
frame that is not MGMT; else the MGMT frame begun, which yielded; else the next MGMT frame. -/
def SillPort.pick (x : SillPort) : Option (SillTx × SillPort) :=
  match x.cur, nextTx (x.txq.filter (fun t => t.cls != 3)), x.mgmt with
  | some t, _, _ => some (t, { x with cur := none })
  | none, some t, _ => some (t, { x with txq := x.txq.erase t })
  | none, none, some t => some (t, { x with mgmt := none })
  | none, none, none => (nextTx x.txq).map (fun t => (t, { x with txq := x.txq.erase t }))

/-- The port with a frame begun whose blocks `rest` are left. -/
def SillPort.keep (x : SillPort) (t : SillTx) (rest : List (Bool × Block)) : SillPort :=
  if rest.isEmpty then x
  else if t.cls = 3 then { x with mgmt := some { t with blocks := rest } }
  else { x with cur := some { t with blocks := rest } }

/-- A port sends the next block of its next frame (R431); this is what a tick does at every port. -/
def State.sillDrain (s : State) (p : Nat) : State :=
  match (s.sport p).pick with
  | none => s
  | some (t, x) =>
    let s := (s.setSport p (x.keep t (t.blocks.drop 1))).emit (.sill p ((t.blocks.take 1).flatMap (fun b => blockBytes b.2)))
    s.iff (t.ownSched && decide (t.blocks.length ≤ 1)) (fun s => s.putB SILL_SCHED_CMD_GO false)

/-- A time's ns, fraction and seconds [7:0] as bytes, as frames carry them. -/
def timeNs (t : Nat) : Nat := t / 65536 % 1000000000
def timeSec (t : Nat) : Nat := t / 65536 / 1000000000

/-- The instant nearest to now whose ns, fraction and seconds modulo `m` are given (frames carry only the low bits of
the seconds). -/
def State.nearTime (s : State) (m ns frac sec : Nat) : Nat :=
  let base : Int := s.nowSec
  let c : Int := base - base % m + sec
  let k : Int := if decide (2 * (base - c) > m) then c + m else if decide (2 * (c - base) > m) then c - m else c
  (k.toNat * 1000000000 + ns) * 65536 + frac

/-- The EVENT frame of R442 for a line. -/
def State.eventFrame (s : State) (line hop : Nat) : SillTx where
  cls := 2
  isEvent := true
  ownSched := false
  blocks := [sillC 0x50 (toBytes 1 line ++ toBytes 1 hop ++ toBytes 2 s.nodeId ++ toBytes 1 s.sill.evtSeq),
    sillD (toBytes 4 (timeNs s.now) ++ toBytes 2 (s.now % 65536) ++ toBytes 1 (timeSec s.now))]

/-- A local event is sent on a fabric line: the frame travels up, and an aligned line also delivers the node's own
event at its origin time + EVT_HOLD (R258, R442). -/
def State.fabricSend (s : State) (line hop : Nat) : State :=
  let f := s.eventFrame line hop
  let s := (s.modSill (fun x => { x with evtSeq := (x.evtSeq + 1) % 256 })).sillUp f
  s.iff (s.flag (SILL_EVT_CFG_ALIGN line)) (fun s => s.modSill (fun x => { x with aligned := x.aligned ++
    [⟨line, hop, s.now + s.get (SILL_EVT_CFG_EVT_HOLD line) * 65536⟩] }))

end Sys2Proof.Machine
end

