-- ==== Sys2Proof/Machine/EvtCore.lean ====
section
/-!
DEFINITION. How a producer's event enters the event matrix (R257, R258, R261, R266).
-/

namespace Sys2Proof.Machine

open Reg

/-- Whether producer `p` (128 + j for fabric line j) is enabled for consumer `c` (R261). -/
def State.evtEnabled (s : State) (c p : Nat) : Bool :=
  if p < 128 then bit (s.rdN (EVT_EN (4 * c + p / 32))) (p % 32) else bit (s.rdN (EVT_FAB_EN c)) (p - 128)

/-- The fabric lines that carry the events of local producer `p` (R258). -/
def State.fabLines (s : State) (p : Nat) : List Nat :=
  (List.range 32).filter (fun j => s.flag (EVT_FAB_TX_EN j) && s.get (EVT_FAB_TX_PRODUCER j) == p && decide (p < 128))

/-- The consumers that producer `p` is enabled for. -/
def State.evtConsumers (s : State) (p : Nat) : List Nat := (List.range 64).filter (fun c => s.evtEnabled c p)

/-- `n` events are lost at a consumer (R264). -/
def State.consLost (s : State) (c n : Nat) : State :=
  (List.range n).foldl (fun s _ => ((s.bump (EVT_CNT_LOST c)).putB (EVT_CONS_STATUS_LOST c) true).logCount 0x3101 c c) s

/-- The producers that enter the matrix by a toggle (R257): lane status and queue threshold selectors, DROOP, engine
signals. -/
def byToggle (p : Nat) : Bool := (decide (97 ≤ p) && decide (p < 110)) || (decide (112 ≤ p) && decide (p < 128))

/-- Whether the toggle of producer `p` has not yet been sampled (R58). DESIGN CHOICE: sampling takes its longest time, 3
cycles of CLK_ENC. -/
def State.toggleBusy (s : State) (p : Nat) : Bool :=
  byToggle p && (match cget (fun _ => none) s.evt.toggled p with
    | some k => decide (s.tb.ticks < k + 12)
    | none => false)

/-- The events that may still reach a consumer: those with an enabled consumer that they have not met; others go when they
have been under way for longer than any crossing takes (100 ns here, a DESIGN CHOICE). -/
def State.evtAlive (s : State) (f : EvtFlight) : Bool :=
  decide (s.tb.ticks < f.born + 100) || (s.evtConsumers f.prod).any (fun c => bit f.left c)

/-- An event enters the matrix. -/
def State.evtEnter (s : State) (p hop : Nat) : State :=
  s.modEvt (fun e => { e with
    inflight := e.inflight.filter s.evtAlive ++ [⟨p, hop, 2 ^ 64 - 1, s.tb.ticks⟩],
    toggled := if byToggle p then cset (fun _ => none) e.toggled p (some s.tb.ticks) else e.toggled })

/-- Producer `p` fires with hop count `hop`: the event is on its way to the consumers and leaves on the fabric lines that
select it. At 8 hops it is dropped at the producer (R266). An event that its toggle crossing merges is lost at every
consumer that the producer is enabled for (R263). -/
def State.produce (s : State) (p hop : Nat) : State :=
  if 8 ≤ hop then
    (((s.bump EVT_CNT_LOOP).put EVT_LOOP_PRODUCER p).putB EVT_LOOP_LOOP true).logOnce 0x3102 0 p p
  else
    let s1 := if s.toggleBusy p then (s.evtConsumers p).foldl (fun s c => s.consLost c 1) s else s.evtEnter p hop
    (s.fabLines p).foldl (fun s j => s.fabricSend j hop) s1

/-- The kerf buffer of a lane (R307), and a change of it. -/
def State.krf (s : State) (l : Nat) : Kerf := cget (fun _ => Kerf.reset) s.kerf l
def State.modKrf (s : State) (l : Nat) (f : Kerf → Kerf) : State :=
  { s with kerf := cset (fun _ => Kerf.reset) s.kerf l (f (s.krf l)) }

/-- KERF_STATUS shows the lines held. -/
def State.showKerf (s : State) (l : Nat) : State := s.put (KERF_STATUS_HELD l) (s.krf l).held.length

/-- The channel a kerf buffer lies in. -/
def State.kerfChan (s : State) (l : Nat) : Nat := chanAt (s.rd64 (KERF_BASE l))

/-- The oldest `n` held lines of a kerf buffer are released: they wait to be read back, for which the bay's requester asks
the channel (R16, R307). -/
def State.kerfRelease (s : State) (l n : Nat) : State :=
  let s := (s.modKrf l (fun k => { k with held := k.held.drop n, out := k.out ++ k.held.take n })).showKerf l
  s.iff (!(s.krf l).out.isEmpty) (fun s => s.arbAsk (s.kerfChan l) (l / 4))

/-- A kerf buffer is flushed (R308): every held line is released, in order. -/
def State.kerfFlush (s : State) (l : Nat) : State :=
  let n := (s.krf l).held.length
  if s.get (KERF_CFG_DELAY_LINES l) = 0 ∨ s.bayRetired (l / 4) then s
  else ((s.kerfRelease l n).bump (KERF_CNT_FLUSH l)).logC 0x7206 l n

/-- Lane `l` records event bit `b` of LANE_EVENTS: the bit is set, class 1 may request an interrupt, and the lane status
selectors that watch it fire (R129, R257). -/
def State.laneEvent (s : State) (l b : Nat) : State :=
  (List.range 8).foldl (fun s k => s.iff (s.flag (EVT_LANE_SEL_EN k) && s.get (EVT_LANE_SEL_LANE k) == l
      && bit (s.get (EVT_LANE_SEL_MASK k)) b) (fun s => s.produce (97 + k) 0))
    (s.raise 1 ⟨LANE_EVENTS l, b, 1⟩)

end Sys2Proof.Machine
end

