-- ==== Sys2Proof/Machine/Motion.lean ====
section
/-!
DEFINITION. The motion plane's shared operations: evaluating a position state (R204, R210), predicting a firing (R222),
a sequencer's targets (R220, R225 to R229, R237), committing and skipping them (R223, R230, R231, R233), the fate of a
firing (R232), and what a channel tells its sequencers (R221, R233, R234).
-/

namespace Sys2Proof.Machine

open Reg

/-! ### Access to the hidden tables -/

def State.pch (s : State) (c : Nat) : PosChan := cget (fun _ => PosChan.reset) s.pos c
def State.modPch (s : State) (c : Nat) (f : PosChan → PosChan) : State :=
  { s with pos := cset (fun _ => PosChan.reset) s.pos c (f (s.pch c)) }
def State.sq (s : State) (q : Nat) : Seq := cget (fun _ => Seq.reset) s.seqs q
def State.modSq (s : State) (q : Nat) (f : Seq → Seq) : State :=
  { s with seqs := cset (fun _ => Seq.reset) s.seqs q (f (s.sq q)) }

/-- Nanoseconds in the time base's units of 2^-16 ns. -/
def nsT (n : Int) : Int := n * 65536

/-- The time base as a signed number of 2^-16 ns. -/
def State.nowI (s : State) : Int := s.now
/-- A transmit stamp (R249): it lies within the tick that now ends, at a place finer than the tick, which a free value
gives. -/
def State.txStamp (s : State) : Int × State :=
  let r := s.free
  (s.nowI - ((r.1 % 65536 : Nat) : Int), r.2)

/-! ### Position states (R204, R205, R210) -/

/-- 1 µs in units of 2^-16 ns. -/
def usT : Int := 65536000

/-- x of a state at time `t`, in 2^-16 fine counts: each product rounded to the nearest, halves away from zero (R204). -/
def ObsState.xAt (o : ObsState) (t : Int) : Int :=
  let d := t - o.t
  sext 80 (trunc 80 (o.x + roundDiv (o.v * d) (usT * 256) + roundDiv (o.a * d * d) (2 * usT * usT * 65536)))

/-- A position truncated to whole fine counts, rounding toward minus infinity (R205). -/
def fineOf (x : Int) : Int := x / 65536

/-- The position of a state at `t` in whole fine counts (R204). -/
def ObsState.fineAt (o : ObsState) (t : Int) : Int := fineOf (o.xAt t)

/-- v of a state advanced to `t` (R210). -/
def ObsState.vAt (o : ObsState) (t : Int) : Int := o.v + roundDiv (o.a * (t - o.t)) (usT * 256)

def State.posMode (s : State) (c : Nat) : Nat := if 4 < s.get (POS_CTRL_MODE c) then 0 else s.get (POS_CTRL_MODE c)
/-- Whether a channel follows the frames of its slot: in follow mode, or as a publisher that the fabric does not carry, once
a state has come into force (R211, R213). -/
def State.follows (s : State) (c : Nat) : Bool :=
  s.posMode c == 4 || (s.flag (POS_SILL_CFG_PUBLISH c) && !s.flag (POS_STATUS_CARRIED c) && (s.pch c).forced)
/-- The state in force of a channel, with the WARM and STEP_SEQ that go with it (R204, R211): a follower's WARM is the one
that R212 leaves, and a publisher uses its own observer until a published state has come into force. -/
def State.inForce (s : State) (c : Nat) : ObsState :=
  if s.follows c then { (s.pch c).force with warm := s.flag (POS_STATUS_WARM c) }
  else if s.flag (POS_SILL_CFG_PUBLISH c) && (s.pch c).forced then (s.pch c).force
  else { (s.pch c).own with
         warm := s.flag (POS_STATUS_WARM c), ref := s.flag (POS_STATUS_REFERENCED c),
         dir := s.flag (POS_STATUS_DIR c), stepSeq := s.get (POS_STATUS_STEP_SEQ c) }
/-- The counter of a channel, signed, in fine counts (R197). -/
def State.count (s : State) (c : Nat) : Int := s.rdS (POS_COUNT c)

/-! ### Prediction (R222) -/

/-- Whether τ is at least `h` halves of 2^-8 ns, for a distance `d` > 0 (2^-16 fine counts), v and a: exact, with no
square root taken. -/
def tauAtLeast (d v a h : Int) : Bool :=
  let q := 2 * d * 131072000 - h * v
  decide (0 ≤ q) && decide (h * h * (v * v + 2 * a * d) ≤ q * q)

/-- τ in units of 2^-8 ns, rounded to the nearest with halves rounded up: the greatest m with τ ≥ m − 1/2. -/
def tauOf (d v a : Int) : Nat :=
  (List.range 35).reverse.foldl (fun acc i => if tauAtLeast d v a (2 * (acc + 2 ^ i : Nat) - 1) then acc + 2 ^ i else acc) 0

/-- The prediction for a target at fine count `x` from state `o` in direction σ: none without a solution, else whether
the target was already reached and the time t_c. -/
def predict (o : ObsState) (x sigma : Int) : Option (Bool × Int) :=
  let d := sigma * sext 80 (trunc 80 (x * 65536 - o.x))
  let v := sigma * o.v
  let a := sigma * o.a
  if d ≤ 0 then some (true, o.t)
  else if a = 0 ∧ v ≤ 0 then none
  else if v * v + 2 * a * d < 0 then none
  else if v ≤ 0 ∧ a < 0 then none
  else
    let m := tauOf d v a
    if 2 ^ 34 < m then none else some (false, o.t + m * 256)

/-! ### A sequencer's configuration -/

def State.trMode (s : State) (q : Nat) : Nat := s.get (TRIG_CTRL_MODE q)
def State.trPath (s : State) (q : Nat) : Nat := s.get (TRIG_CTRL_PATH q)
def State.trOut (s : State) (q : Nat) : Nat := s.get (TRIG_CTRL_OUT_INDEX q)
def State.trChan (s : State) (q : Nat) : Nat := s.get (TRIG_CTRL_CHANNEL q)
def State.trRunning (s : State) (q : Nat) : Bool := s.flag (TRIG_STATUS_RUNNING q)
def State.trBidir (s : State) (q : Nat) : Bool := s.flag (TRIG_OPT_BIDIR q) && s.trMode q == 0
/-- Whether a sequencer is in LIST mode with the ring as source (R227). -/
def State.trRing (s : State) (q : Nat) : Bool := s.trMode q == 1 && s.flag (TRIG_OPT_LIST_SRC q)
/-- MIN_PATH of the path (R218). -/
def State.minPath (s : State) (q : Nat) : Int := if s.trPath q = 2 then 0 else nsT 64
/-- The commit lead C of the path (R218); COMMIT_NS below 64 acts as 64. -/
def State.commitLead (s : State) (q : Nat) : Int :=
  if s.trPath q = 2 then nsT (s.getE (s.trOut q) (ETH_ACT_CFG_LEAD_US (s.trOut q)) * 1000)
  else nsT (max 64 (s.get (TRIG_TIMING_COMMIT_NS q)))
/-- MIN_GAP of a sequencer. -/
def State.minGap (s : State) (q : Nat) : Int := nsT (s.get (TRIG_MIN_GAP_NS q))
/-- L of the lead (R218, R219): the latency published for a path-1 lane. -/
def State.latency (s : State) (q : Nat) : Int :=
  if s.trPath q = 1 then (s.rdN (TENON_LAT_VALUE (s.trOut q)) : Int) * 256 else 0
/-- DEV_LAT of the path (R218), in ns. -/
def State.devLat (s : State) (q : Nat) : Nat :=
  if s.trPath q = 1 then s.get (TENON_PARTNER_LAT_TRIG_LAT (s.trOut q))
  else if s.trPath q = 2 then s.getE (s.trOut q) (ETH_CAM_LAT_TRIG_LAT (s.trOut q)) else s.get (TRIG_DEV_LAT_NS q)
/-- LEAD = L + DEV_LAT + CENTRE (R219). -/
def State.lead (s : State) (q : Nat) : Int := s.latency q + nsT (s.devLat q + s.get (TRIG_CENTRE_NS q))
/-- LEAD with the L and the CENTRE in it, from the values in force now (R219, R140). -/
def State.leadNow (s : State) (q : Nat) : Int × Int × Int := (s.lead q, s.latency q, nsT (s.get (TRIG_CENTRE_NS q)))
/-- The direction σ in which a sequencer fires (R222, R235). -/
def State.sigma (s : State) (q : Nat) : Int := if s.trBidir q && s.flag (POS_STATUS_DIR (s.trChan q)) then -1 else 1

/-! ### Targets (R220) -/

/-- The base of the grid: ORIGIN + SHIFT + STATION. -/
def State.gridBase (s : State) (q : Nat) : Int :=
  s.rdS (TRIG_ORIGIN q) + s.rdS (TRIG_SHIFT q) + s.rdS (TRIG_STATION q)

/-- The position of the current target in fine counts, signed modulo 2^64. -/
def State.target (s : State) (q : Nat) : Int :=
  let x := s.sq q
  sext 64 (trunc 64 (match s.trMode q with
    | 0 => s.gridBase q + x.n * s.rdS (TRIG_PITCH q)
    | _ => x.tgt + s.rdS (TRIG_SHIFT q) + s.rdS (TRIG_STATION q) +
        (if s.trRing q then 0 else x.lap * s.rdS (TRIG_LAP_DIST q))))

/-- The line number of the current target. -/
def State.lineOf (s : State) (q : Nat) : Int :=
  let x := s.sq q
  match s.trMode q with
  | 0 => x.n
  | 1 => if s.trRing q then x.fired else x.line + x.lap * sext 32 (s.rdN (TRIG_LAP_LINES q))
  | _ => x.fired

/-- Whether `x` lies at or below `y`, by the signed 64-bit difference (R197). -/
def atOrBelow (x y : Int) : Bool := decide (sext 64 (trunc 64 (x - y)) ≤ 0)

/-- The first grid index beyond the counter in direction σ (R237). -/
def State.gridNext (s : State) (q : Nat) : Int :=
  let d := sext 64 (trunc 64 (s.count (s.trChan q) - s.gridBase q))
  let p := max 1 (s.rdS (TRIG_PITCH q))
  if s.sigma q = 1 then d / p + 1 else -((-d) / p) - 1

/-- The computation of t_f for the current target (R222, R223): from the state in force for PITCH and LIST, from START
and PERIOD for TIME. -/
def State.compute (s : State) (q : Nat) : State :=
  if !(s.sq q).has || !s.trRunning q then s
  else if s.trMode q = 2 then
    let t := (s.rdTime (TRIG_START q) : Int) + (s.sq q).n * (s.rd64 (TRIG_PERIOD q) : Int)
    s.modSq q (fun x => { x with
      tf := some t, tc := t + s.lead q, lead := s.lead q, lat := s.latency q, ctr := nsT (s.get (TRIG_CENTRE_NS q)), reached := false })
  else if s.trMode q = 3 then s
  else match predict (s.inForce (s.trChan q)) (s.target q) (s.sigma q) with
    | none => (s.putB (TRIG_STATUS_NO_SOLUTION q) true).modSq q (fun x => { x with tf := none })
    | some (r, tc) => (s.putB (TRIG_STATUS_NO_SOLUTION q) false).modSq q
        (fun x => { x with tf := some (tc - s.lead q), tc := tc, lead := s.lead q, lat := s.latency q, ctr := nsT (s.get (TRIG_CENTRE_NS q)), reached := r })

/-- The offset of the schedule table's entry `i`. -/
def schedAt (i : Nat) : Nat := SCHED_TARGET (i % 16384)

/-- A LIST sequencer reads entry `i` of the schedule table as its target; an invalid one stalls it (R226). -/
def State.loadEntry (s : State) (q i : Nat) : State :=
  let i := i % 16384
  let s := s.put (TRIG_STATUS_LIST_IDX q) i
  if s.flag (SCHED_WORD3_VALID i) then
    ((s.putB (TRIG_STATUS_STALLED q) false).modSq q (fun x => { x with
      tgt := s.rdS (schedAt i),
      line := sext 32 (s.rdN (SCHED_LINE i)), param := s.get (SCHED_WORD3_PARAM i), wrap := s.flag (SCHED_WORD3_WRAP i),
      last := s.flag (SCHED_WORD3_END i), has := true, stallLogged := false })).compute q
  else
    let s := (s.putB (TRIG_STATUS_STALLED q) true).modSq q (fun x => { x with has := false, tf := none })
    if (s.sq q).stallLogged then s
    else ((s.raise 6 (TRIG_EVENTS_STALLED q)).logC 0x3030 q 0).modSq q (fun x => { x with stallLogged := true })

/-- A ring sequencer takes the head entry of its ring as its target, or waits (R227). -/
def State.loadRing (s : State) (q : Nat) : State :=
  if s.get (TRIG_RING_RD q) = s.get (TRIG_RING_WR q) then
    (s.putB (TRIG_STATUS_RING_EMPTY q) true).modSq q (fun x => { x with has := false, tf := none })
  else
    let i := (s.get (TRIG_LIST_BASE q) + s.get (TRIG_RING_RD q)) % 16384
    (((s.putB (TRIG_STATUS_RING_EMPTY q) false).put (TRIG_STATUS_LIST_IDX q) i).modSq q (fun x => { x with
      tgt := s.rdS (schedAt i), line := 0, param := 0, wrap := false, last := false, has := true })).compute q

/-- A sequencer stops: RUNNING is cleared and the uncommitted target dropped (R237), and with it what TRIG_STATUS shows of
the target. -/
def State.trigStop (s : State) (q : Nat) : State :=
  let s := ((s.putB (TRIG_STATUS_RUNNING q) false).putB (TRIG_STATUS_WAIT_WARM q) false).putB (TRIG_STATUS_REV_HOLD q) false
  let s := ((s.putB (TRIG_STATUS_STALLED q) false).putB (TRIG_STATUS_RING_EMPTY q) false).putB (TRIG_STATUS_NO_SOLUTION q) false
  (s.putB (TRIG_STATUS_CATCHING_UP q) false).modSq q (fun x => { x with has := false, tf := none })

/-- The next target after a commit or a skip (R225, R226, R227, R228). -/
def State.nextTarget (s : State) (q : Nat) : State :=
  let x := s.sq q
  match s.trMode q with
  | 0 => (s.modSq q (fun x => { x with n := x.n + s.sigma q })).compute q
  | 1 =>
    if s.trRing q then
      (s.put (TRIG_RING_RD q) ((s.get (TRIG_RING_RD q) + 1) % max 1 (s.get (TRIG_LIST_LEN q)))).loadRing q
    else if x.last then (s.trigStop q).logC 0x3031 q 0
    else
      let b := s.get (TRIG_LIST_BASE q)
      let i := s.get (TRIG_STATUS_LIST_IDX q)
      if x.wrap || decide (b + s.get (TRIG_LIST_LEN q) ≤ i + 1) then
        (s.modSq q (fun x => { x with lap := x.lap + 1 })).loadEntry q b
      else s.loadEntry q (i + 1)
  | 2 => (s.modSq q (fun x => { x with n := x.n + 1 })).compute q
  | _ => s

/-- The first target, at a start or a RESYNC (R237). -/
def State.firstTarget (s : State) (q : Nat) : State :=
  let s := s.modSq q (fun x => { x with
    firstRun := true, behind := 0, lap := 0, stallLogged := false,
    stepSeq := (s.inForce (s.trChan q)).stepSeq })
  let s := s.putB (TRIG_STATUS_CATCHING_UP q) false
  match s.trMode q with
  | 0 =>
    let s := s.modSq q (fun x => { x with n := s.gridNext q, has := true, hwmOn := true })
    (s.wrS (TRIG_HWM q) (s.target q - s.rdS (TRIG_PITCH q))).compute q
  | 1 => if s.trRing q then s.loadRing q else s.loadEntry q (s.get (TRIG_LIST_BASE q))
  | 2 =>
    let p := (s.rd64 (TRIG_PERIOD q) : Int)
    let d := s.nowI + s.minPath q - (s.rdTime (TRIG_START q) : Int)
    (s.modSq q (fun x => { x with n := if d ≤ 0 ∨ p = 0 then 0 else (d + p - 1) / p, has := true })).compute q
  | _ => s

/-- Whether a sequencer may run: ENABLE and OUTPUT_COMMIT, and for PITCH and LIST its channel running (R217). -/
def State.trMayRun (s : State) (q : Nat) : Bool :=
  s.flag (TRIG_CTRL_ENABLE q) && s.outCommit && (decide (2 ≤ s.trMode q) || (s.pch (s.trChan q)).runs)

/-- The kerf buffer of the lane whose KIND-0 sequencer this is, is flushed when it starts or is resynchronised (R308). -/
def State.trigFlush (s : State) (q : Nat) : State :=
  s.iff (((s.trPath q == 1 && s.get (TRIG_OPT_KIND q) == 0) || s.trPath q == 2) && decide (s.trOut q < 96))
    (fun s => s.kerfFlush (s.trOut q))

/-- A sequencer starts if it may run and does not yet: the ring is emptied and the first target chosen (R217, R237). -/
def State.trigStart (s : State) (q : Nat) : State :=
  if s.trRunning q || !s.trMayRun q then s
  else
    let cold := decide (s.trMode q < 2) && !s.flag (POS_STATUS_WARM (s.trChan q))
    (((((s.putB (TRIG_STATUS_RUNNING q) true).putB (TRIG_STATUS_WAIT_WARM q) cold).putB (TRIG_STATUS_REV_HOLD q)
      (decide (s.trMode q < 2) && !s.trBidir q && s.flag (POS_STATUS_DIR (s.trChan q)))).put (TRIG_RING_RD q)
      (s.get (TRIG_RING_WR q))).firstTarget q).trigFlush q

/-- The sequencers of a channel. -/
def State.seqsOf (s : State) (c : Nat) : List Nat :=
  (List.range 128).filter (fun q => s.trChan q == c && decide (s.trMode q < 2))

/-! ### Firings (R224, R232) -/

/-- COMMITTED shows whether a committed firing of the sequencer has not yet left. -/
def State.showCommitted (s : State) (q : Nat) : State :=
  s.putB (TRIG_STATUS_COMMITTED q) (s.trigs.any (fun t => t.seq == q && !t.sent && !t.firedNow))

/-- A firing at `tf` is committed with the lead `ld` of its computation: it is counted, trigger ID, line number and tag
fields are fixed, and the trigger is registered with its channel and handed to its path (R223, R224). -/
def State.fire (s : State) (q : Nat) (tf : Int) (ld : Int × Int × Int) (late catchup compare : Bool) (hop : Nat) : State :=
  let x := s.sq q
  let ch := s.inForce (s.trChan q)
  let tf' := if s.trPath q = 3 then roundDiv tf 8192 * 8192 else tf
  let w := if x.param = 0 ∨ s.trMode q ≠ 1 then max 8 (s.get (TRIG_PULSE_NS q)) else x.param * 100
  let rev := s.trBidir q && s.flag (POS_STATUS_DIR (s.trChan q))
  let t : Trigger := {
    seq := q, id := q * 2 ^ 24 + x.fired % 2 ^ 24, line := s.lineOf q,
    target := if s.trMode q < 2 then s.target q else 0, tf := tf', tc := tf' + ld.1, lead := ld.1,
    latency := ld.2.1, centre := ld.2.2, late := late, catchup := catchup, compare := compare, reverse := rev,
    warm := s.flag (POS_STATUS_WARM (s.trChan q)), stepSeq := ch.stepSeq, path := s.trPath q, out := s.trOut q,
    kind := s.get (TRIG_OPT_KIND q), width := w, hop := hop, fromPos := decide (s.trMode q < 2), sent := false,
    firedNow := false, copied := none, posStep := false, actTime := tf' }
  let fwd := decide (s.trMode q < 2) && !rev
  let s := s.iff (fwd && (!x.hwmOn || !atOrBelow (s.target q) (s.rdS (TRIG_HWM q))))
    (fun s => (s.wrS (TRIG_HWM q) (s.target q)).modSq q (fun x => { x with hwmOn := true }))
  (((s.modTrigs (fun ts => ts ++ [t])).modSq q (fun x => { x with fired := x.fired + 1, tprev := some tf })).bump
    (TRIG_CNT_FIRED q)).showCommitted q

/-- A late firing is counted and logged (R231, R232). -/
def State.countLate (s : State) (q : Nat) : State :=
  ((s.bump (TRIG_CNT_LATE q)).raise 6 (TRIG_EVENTS_LATE q)).logCount 0x3002 q q

/-- A path reports a firing as late: LATE_TRIGGER and the event; R231 may have counted it already (R232). -/
def State.reportLate (s : State) (t : Trigger) : State :=
  let s := s.modTrigs (fun ts => ts.map (fun (u : Trigger) => if u.id == t.id then { u with late := true } else u))
  if t.late then s.raise 6 (TRIG_EVENTS_LATE t.seq) else s.countLate t.seq

/-- A path reports a firing as not sent: the line number is used up (R232). The trigger leaves the list. -/
def State.reportNotSent (s : State) (t : Trigger) : State :=
  (((((s.modTrigs (fun ts => ts.filter (fun (u : Trigger) => u.id != t.id))).bump (TRIG_CNT_NOTSENT t.seq)).raise 6
    (TRIG_EVENTS_NOT_SENT t.seq)).logCount 0x3003 t.seq t.seq).showCommitted t.seq)

/-- A lane reports a trigger as unserved (R150, R179, R232). The trigger leaves the list. -/
def State.reportUnserved (s : State) (t : Trigger) : State :=
  (((s.modTrigs (fun ts => ts.filter (fun (u : Trigger) => u.id != t.id))).bump (TRIG_CNT_UNSERVED t.seq)).raise 6
    (TRIG_EVENTS_UNSERVED t.seq)).logCount 0x3004 t.seq t.seq

/-- A target is skipped as behind: not counted in the first run after a start, else counted as missed (R231). -/
def State.skip (s : State) (q : Nat) : State :=
  if (s.sq q).firstRun then s else ((s.bump (TRIG_CNT_MISSED q)).raise 6 (TRIG_EVENTS_MISSED q)).logCount 0x3001 q q

/-- Whether the current target is behind for an instant `tf` (R230). -/
def State.isBehind (s : State) (q : Nat) (tf : Int) : Bool :=
  let x := s.sq q
  decide (tf < s.nowI + s.minPath q) || x.reached ||
    (match x.tprev with | some p => decide (tf < p + s.minGap q) | none => false) ||
    (decide (s.trMode q < 2) && x.hwmOn && s.sigma q == 1 && !s.trBidir q && atOrBelow (s.target q) (s.rdS (TRIG_HWM q)))

/-- Whether a target lies at or below the high-water mark, so that it never fires (R234). -/
def State.belowHwm (s : State) (q : Nat) : Bool :=
  decide (s.trMode q < 2) && (s.sq q).hwmOn && !s.trBidir q && atOrBelow (s.target q) (s.rdS (TRIG_HWM q))

/-- The commit decision for an instant `tf` (R223, R230, R231): fired on time, fired late or skipped. `keep` says that
the firing is no target of the mode (FIRE in TRIG_CMD, or an event), so that no next target is taken. -/
def State.judge (s : State) (q : Nat) (tf : Int) (compare keep : Bool) (hop : Nat) : State :=
  let x := s.sq q
  let ld := if keep || compare then s.leadNow q else (x.lead, x.lat, x.ctr)
  let next := fun (s : State) => if keep then s else s.nextTarget q
  if !s.isBehind q tf then
    let s := s.iff (!keep || s.trMode q == 3) (fun s => (s.putB (TRIG_STATUS_CATCHING_UP q) false).modSq q
      (fun x => { x with behind := 0, firstRun := false }))
    next (s.fire q tf ld false false compare hop)
  else if s.flag (TRIG_OPT_LATE_FIRE q) && !x.firstRun && !s.belowHwm q &&
      decide (x.behind < 1 + min 4 (s.get (TRIG_OPT_CATCHUP q))) then
    let at_ := max (s.nowI + s.minPath q) (match x.tprev with | some p => p + s.minGap q | none => s.nowI + s.minPath q)
    let s := (s.putB (TRIG_STATUS_CATCHING_UP q) true).modSq q (fun x => { x with behind := x.behind + 1 })
    next ((s.fire q at_ ld true (decide (0 < x.behind)) compare hop).countLate q)
  else
    let s := (s.putB (TRIG_STATUS_CATCHING_UP q) true).modSq q (fun x => { x with behind := x.behind + 1 })
    next (s.skip q)

/-- The targets of a withheld sequencer that the counter has passed are skipped and counted cold, up to `k` of them
(R233). -/
def State.coldPass (s : State) (q : Nat) : Nat → State
  | 0 => s
  | k + 1 =>
    if (s.sq q).has && decide (s.sigma q * sext 64 (trunc 64 (s.target q - s.count (s.trChan q))) < 0) then
      ((s.bump (TRIG_CNT_COLD q)).nextTarget q).coldPass q k
    else s

/-- The test of a PITCH or LIST sequencer while its channel is not warm, against the counter as a cycle leaves it
(R233): the withheld targets that the counter passes are counted cold; in COMPARE mode a target that the counter reaches
fires at once. -/
def State.coldTest (s : State) (q : Nat) : State :=
  let c := s.trChan q
  if !s.trRunning q || !(s.sq q).has || decide (2 ≤ s.trMode q) || s.flag (POS_STATUS_WARM c) then s
  else if s.flag (POS_STATUS_DIR c) && !s.trBidir q then s
  else
    let d := s.sigma q * sext 64 (trunc 64 (s.target q - s.count c))
    if s.flag (TRIG_OPT_WARM_MODE q) then
      if d ≤ 0 then (s.modSq q (fun x => { x with reached := false })).judge q (s.nowI + s.minPath q) true false 0 else s
    else s.coldPass q (if s.trMode q = 0 then d.natAbs / max 1 (s.rdS (TRIG_PITCH q)).natAbs + 1 else 65536)

/-- Entries of which nothing remains to be done leave the list: they have fired, their state is copied, and no line of a
camera answers them. -/
def State.cleanTrigs (s : State) : State :=
  s.modTrigs (fun ts => ts.filter (fun (t : Trigger) => !(t.firedNow && t.copied.isSome &&
    !(t.kind == 0 && (t.path == 1 || t.path == 2)) && (t.path != 3 || t.sent))))

/-- Elapsed time in units of 2^-16 ns: CLK_TB ticks, which no step or slew moves (R247). -/
def State.elapsed (s : State) : Int := nsT s.tb.ticks

/-! ### What a channel tells its sequencers -/

/-- A new state is in force: every sequencer of the channel computes its instant again (R223). -/
def State.recompute (s : State) (c : Nat) : State := (s.seqsOf c).foldl (fun s q => s.compute q) s

/-- The counter changed: the sequencers of a channel that is not warm test their targets (R233). -/
def State.counted (s : State) (c : Nat) : State := (s.seqsOf c).foldl (fun s q => s.coldTest q) s

/-- An offset D of the channel moves SHIFT and HWM of a sequencer, unless it is a step that STEP_FOLLOW leaves out
(R221). -/
def State.trigOffset (s : State) (d : Int) (step : Bool) (q : Nat) : State :=
  if step && !s.flag (TRIG_OPT_STEP_FOLLOW q) then s
  else
    let s := (s.wrS (TRIG_SHIFT q) (s.rdS (TRIG_SHIFT q) + d)).wrS (TRIG_HWM q) (s.rdS (TRIG_HWM q) + d)
    s.iff step (fun s => (s.raise 6 (TRIG_EVENTS_SHIFTED q)).log64 0x3050 q d 0)

/-- WARM of the channel falls: the sequencers that run wait (R233). -/
def State.trigCold (s : State) (c : Nat) : State :=
  (s.seqsOf c).foldl (fun s q => s.iff (s.trRunning q) (fun s =>
    ((s.putB (TRIG_STATUS_WAIT_WARM q) true).raise 6 (TRIG_EVENTS_WAIT_WARM q)).logC 0x3010 q 0)) s

/-- The targets that are behind as WARM rises are skipped and counted cold, up to `k` of them (R233). -/
def State.warmPass (s : State) (q : Nat) : Nat → State
  | 0 => s
  | k + 1 => match (s.sq q).tf with
    | some tf =>
      if (s.sq q).has && s.isBehind q tf then ((s.bump (TRIG_CNT_COLD q)).nextTarget q).warmPass q k else s
    | none => s

/-- WARM of the channel rises: the sequencers resume, and under WITHHOLD the targets that are behind now count as cold
(R233). -/
def State.trigWarm (s : State) (c : Nat) : State :=
  (s.seqsOf c).foldl (fun s q => s.iff (s.trRunning q) (fun s =>
    let s := ((s.putB (TRIG_STATUS_WAIT_WARM q) false).raise 6 (TRIG_EVENTS_RESUMED q)).logC 0x3011 q 0
    s.iff (!s.flag (TRIG_OPT_WARM_MODE q) && (s.trBidir q || !s.flag (POS_STATUS_DIR c)))
      (fun s => (s.compute q).warmPass q 65536))) s

/-- A declared reversal reaches the sequencers of the channel (R234, R235). -/
def State.trigReverse (s : State) (c : Nat) : State :=
  (s.seqsOf c).foldl (fun s q => s.iff (s.trRunning q) (fun s =>
    if s.trBidir q then (s.modSq q (fun x => { x with n := s.gridNext q, has := true })).compute q
    else if s.flag (POS_STATUS_DIR c) then
      (((s.putB (TRIG_STATUS_REV_HOLD q) true).raise 6 (TRIG_EVENTS_REV_HOLD q)).bump (TRIG_CNT_REVHOLD q)).logC 0x3020 q 0
    else (s.putB (TRIG_STATUS_REV_HOLD q) false).compute q)) s

/-! ### Pins -/

/-- Pin `g` drives the inverse of its idle level, or its idle level again (R508). -/
def State.pinActive (s : State) (g : Nat) (b : Bool) : State := s.putB ⟨GPIO_ACTIVE_LO + 4 * (g / 32), g % 32, 1⟩ b
/-- Whether pin `g` is driving (R42). -/
def State.pinDrives (s : State) (g : Nat) : Bool := bit (s.rdN (GPIO_DRIVE_LO + 4 * (g / 32))) (g % 32)
/-- Whether pin `g` shows its active level. -/
def State.pinIsActive (s : State) (g : Nat) : Bool := bit (s.rdN (GPIO_ACTIVE_LO + 4 * (g / 32))) (g % 32)
/-- The end of the pulse that runs on a pin. -/
def State.pulseEnd (s : State) (g : Nat) : PulseEnd := cget (fun _ => none) s.pulses g
def State.setPulseEnd (s : State) (g : Nat) (p : PulseEnd) : State :=
  { s with pulses := cset (fun _ => none) s.pulses g p }
/-- The pulses of an owner that have run their width end: each pin returns to its idle level, whatever the owner's
settings are by then. -/
def State.endPulses (s : State) (owner index : Nat) : State :=
  s.pulses.foldl (fun s (e : Nat × PulseEnd) => match e.2 with
    | some p => s.iff (p.owner == owner && p.index == index && decide (p.stop ≤ s.elapsed)) (fun s =>
        (s.setPulseEnd e.1 none).pinActive e.1 false)
    | none => s) s
/-- Whether an owner drives a pulse. -/
def State.pulsing (s : State) (owner index : Nat) : Bool :=
  s.pulses.any (fun (e : Nat × PulseEnd) => match e.2 with
    | some p => p.owner == owner && p.index == index
    | none => false)

/-- An edge stamp's distance from now, in steps of the converter's 125 ps (R249). -/
def edgeAgo (ago : Nat) : Nat := ago / 8192 * 8192

end Sys2Proof.Machine
end

