-- ==== Sys2Proof/Machine/Pos.lean ====
section
/-!
DEFINITION. The position channels: decoding, the index, SSI, the observer, captures and the channel's side of the Sill
(R189 to R216).
-/

namespace Sys2Proof.Machine

open Reg

/-! ### Shared steps -/

/-- A signed value stored in `w` bits; one that does not fit has no value in the spec and becomes a free value. -/
def State.fit (s : State) (w : Nat) (i : Int) : Int × State :=
  if sext w (trunc w i) = i then (i, s) else (sext w s.free.1, s.free.2)

/-- WARM of a channel changes (R206): status, event, log, and its sequencers (R233). -/
def State.setWarm (s : State) (c : Nat) (b : Bool) : State :=
  if s.flag (POS_STATUS_WARM c) == b then s
  else if b then (((s.putB (POS_STATUS_WARM c) true).raise 5 (POS_EVENTS_WARM c)).logC 0x2031 c 0).trigWarm c
  else (((s.putB (POS_STATUS_WARM c) false).raise 5 (POS_EVENTS_COLD c)).logC 0x2030 c 0).trigCold c

/-- The channel's own observer becomes warm or cold (R206): a cold one must pass the whole warm test again. POS_STATUS
shows it unless the channel follows. -/
def State.setOwnWarm (s : State) (c : Nat) (b : Bool) : State :=
  let s := s.modPch c (fun p => { p with own := { p.own with warm := b }, inTol := if b then p.inTol else 0 })
  s.iff (!s.follows c) (fun s => s.setWarm c b)

/-- DIR of POS_STATUS changes, and the sequencers are told (R203, R234, R235). -/
def State.setDir (s : State) (c : Nat) (b : Bool) : State :=
  if s.flag (POS_STATUS_DIR c) == b then s else (s.putB (POS_STATUS_DIR c) b).trigReverse c

/-- The update interval of a channel in CLK_ENC cycles; below 63 acts as 63 (R204). -/
def State.updN (s : State) (c : Nat) : Nat := max 63 (s.get (POS_OBS_CFG_UPD_N c))

/-- The observer starts cold at the counter, referred to time `t` (R206). -/
def State.obsStart (s : State) (c : Nat) (t : Int) : State :=
  ((s.setOwnWarm c false).modPch c (fun p => { p with
    own := { p.own with x := sext 80 (trunc 80 (s.count c * 65536)), v := 0, a := 0, t := t },
    updates := 0, inTol := 0, overTol := 0, lastUpd := s.tb.ticks, interval := s.updN c })).recompute c

/-- A declared reversal (R203): counted, flagged, and producer 18 + 3c. DIR shows it unless the channel follows: then DIR
is the frame's (R211), and the rule is judged from the counter's values beside it (DEDUCED). -/
def State.reversal (s : State) (c : Nat) : State :=
  let s := s.modPch c (fun p => { p with own := { p.own with dir := !p.own.dir } })
  let s := ((s.bump (POS_CNT_DIRCHG c)).raise 5 (POS_EVENTS_DIR_CHANGE c)).produce (18 + 3 * c) 0
  s.iff (!s.follows c) (fun s => s.setDir c (s.pch c).own.dir)

/-- The counter moved from `b` to `a` by counting: the reversal rule (R203). -/
def State.dirRule (s : State) (c : Nat) (b a : Int) : State :=
  let back : Int := if (s.pch c).own.dir then 1 else -1
  let moved := back * sext 64 (trunc 64 (a - b))
  let h := (s.get (POS_INDEX_CFG_DIR_HYST c) : Int) * 65536
  match (s.pch c).cand with
  | none =>
    if moved ≤ 0 then s
    else if h = 0 then s.reversal c
    else s.modPch c (fun p => { p with cand := some (a, b) })
  | some (pt, before) =>
    if back * sext 64 (trunc 64 (a - pt)) ≥ h then (s.modPch c (fun p => { p with cand := none })).reversal c
    else if back * sext 64 (trunc 64 (a - before)) ≤ 0 then s.modPch c (fun p => { p with cand := none })
    else s

/-- The CLK_ENC cycle of now: four ticks of CLK_TB. -/
def State.encCyc (s : State) : Nat := s.tb.ticks / 4

/-- What POS_PROBE and POS_SNAP take of a channel at the time `t` (R208, R210). -/
def State.probeTake (s : State) (c : Nat) (t : Int) : State :=
  let o := s.inForce c
  ((s.wrS (POS_PROBE_COUNT c) (s.count c)).wrS (POS_PROBE_X c) (o.fineAt t)).wrN (POS_PROBE_FLAGS c)
    (o.stepSeq * 256 + 8 * b2n o.ref + 4 * b2n o.warm + getBits (s.rdN (POS_PROBE_FLAGS c)) 0 2)
def State.snapTake (s : State) (c : Nat) (t : Int) : State :=
  let o := s.inForce c
  (((s.wrS (POS_SNAP_COUNT c) (s.count c)).wrS (POS_SNAP_X c) (o.fineAt t)).wrS (POS_SNAP_V c) (o.vAt t)).wrS (POS_SNAP_A c) o.a

/-- The counter has changed in this CLK_ENC cycle: the captures of the cycle see the change (R199). -/
def State.recapture (s : State) (c : Nat) : State :=
  let p := s.pch c
  let here := fun (k : Option Nat) => k == some s.encCyc
  let s := s.iff (here p.edgeCyc) (fun s => s.wrS (POS_EDGE_COUNT c) (s.count c))
  let s := s.iff (here p.probeCyc) (fun s => s.probeTake c (s.rdTime (POS_PROBE_TIME c)))
  s.iff (here p.snapCyc) (fun s => s.snapTake c (s.rdTime (POS_SNAP_TIME c)))

/-- The counter advances by `d` fine counts (R197, R203, R233). -/
def State.countBy (s : State) (c : Nat) (d : Int) : State :=
  let b := s.count c
  let s := s.wrS (POS_COUNT c) (b + d)
  ((s.dirRule c b (s.count c)).counted c).recapture c

/-- An offset D (R198): added to the counter, the observer, the lattice base unless it comes from the index rule, and
the copies in trigger entries; the sequencers are told. A step advances STEP_SEQ and is logged with its source; POS_STATUS
shows the frame's STEP_SEQ while the channel follows. -/
def State.offset (s : State) (c : Nat) (d : Int) (step : Option Nat) (fromIndex : Bool) : State :=
  let s := s.wrS (POS_COUNT c) (s.count c + d)
  let mv := fun (o : ObsState) => { o with x := sext 80 (trunc 80 (o.x + d * 65536)) }
  let s := s.modPch c (fun p => { p with
    own := mv p.own, base := if fromIndex then p.base else p.base.map (fun b => sext 64 (trunc 64 (b + d))),
    cand := p.cand.map (fun k => (sext 64 (trunc 64 (k.1 + d)), sext 64 (trunc 64 (k.2 + d)))) })
  let s := s.modTrigs (fun ts => ts.map (fun (t : Trigger) =>
    if s.trChan t.seq == c then { t with copied := t.copied.map mv } else t))
  let s := match step with
    | some src =>
      let s := s.modPch c (fun p => { p with own := { p.own with stepSeq := (p.own.stepSeq + 1) % 256 } })
      let s := s.iff (!s.follows c) (fun s => s.put (POS_STATUS_STEP_SEQ c) (s.pch c).own.stepSeq)
      (s.raise 5 (POS_EVENTS_STEP c)).log64 0x2050 c d src
    | none => s
  let s := ((List.range 128).filter (fun q => s.trChan q == c)).foldl (fun s q => s.trigOffset d step.isSome q) s
  ((s.recompute c).counted c).recapture c

/-- Whether a channel may run: enabled, in a mode, released and in service (R189, R214, R494). -/
def State.posMayRun (s : State) (c : Nat) : Bool :=
  s.flag (POS_CTRL_ENABLE c) && s.posMode c != 0 && s.linkRelease && !s.posRetired c

/-- A channel starts, with the counter at zero, no reference and a cold observer (R214); its sequencers may start. -/
def State.posStart (s : State) (c : Nat) : State :=
  if (s.pch c).runs || !s.posMayRun c then s
  else
    let s := ((s.wr64 (POS_COUNT c) 0).putB (POS_STATUS_REFERENCED c) false).modPch c
      (fun p => { PosChan.reset with
        runs := true, lvA := p.lvA, lvB := p.lvB, lvZ := p.lvZ, lvProbe := p.lvProbe, zDone := p.lvZ,
        own := { ObsState.reset with dir := s.flag (POS_STATUS_DIR c), stepSeq := s.get (POS_STATUS_STEP_SEQ c) } })
    let s := s.putB (POS_STATUS_CARRIED c) (s.flag (POS_SILL_CFG_PUBLISH c) && s.sillTurns)
    let s := s.obsStart c s.nowI
    (List.range 128).foldl (fun s q => s.iff (s.trChan q == c) (fun s => s.trigStart q)) s

/-- A channel stops: ENABLE cleared, or the channel retired. Its PITCH and LIST sequencers stop with it (R217). -/
def State.posStop (s : State) (c : Nat) : State :=
  (s.seqsOf c).foldl (fun s q => s.trigStop q) (s.modPch c (fun p => { p with
    runs := false, due := [], ssiFrame := none, ssiStart := none }))

/-! ### Decoding (R193, R194) -/

/-- The place of (A, B) in the forward order 00, 10, 11, 01. -/
def quadPlace (a b : Bool) : Nat := match a, b with
  | false, false => 0 | true, false => 1 | true, true => 2 | false, true => 3

/-- The count of a quadrature transition from place `i` to place `j` under DECODE: none is illegal. X2 counts the moves
between 00 and 10 and between 11 and 01; X1 those between 00 and 10. -/
def quadCount (dec i j : Nat) : Option Int :=
  let fwd := (i + 1) % 4 == j
  let back := (j + 1) % 4 == i
  let lo := if fwd then i else j
  let on := match dec with
    | 1 => lo % 2 == 0
    | 2 => lo == 0
    | _ => true
  if fwd then some (if on then 1 else 0) else if back then some (if on then -1 else 0) else none

/-- The place of (H1, H2, H3) in the forward order 100, 110, 010, 011, 001, 101; none for 000 and 111. -/
def hallPlace (a b z : Bool) : Option Nat := match a, b, z with
  | true, false, false => some 0 | true, true, false => some 1 | false, true, false => some 2
  | false, true, true => some 3 | false, false, true => some 4 | true, false, true => some 5
  | _, _, _ => none

/-- The count of a Hall transition: none is illegal. -/
def hallCount (i j : Option Nat) : Option Int := match i, j with
  | some i, some j => if (i + 1) % 6 = j then some 1 else if (j + 1) % 6 = i then some (-1) else none
  | _, _ => none

/-- An illegal transition (R192). -/
def State.illegal (s : State) (c : Nat) : State :=
  (((s.bump (POS_CNT_ILLEGAL c)).raise 5 (POS_EVENTS_ILLEGAL c)).logCount 0x2001 c c).setOwnWarm c false

/-- A decoded count of ±1 or 0 at an edge stamped `t`: the counter, and the POS_EDGE capture of a counted edge. In coarse
running no stamp is taken, so nothing is captured (R57). -/
def State.edgeCount (s : State) (c : Nat) (n : Int) (t : Int) : State :=
  if n = 0 then s
  else
    let d := if s.flag (POS_CTRL_INVERT_DIR c) then -n * 65536 else n * 65536
    let s := s.countBy c d
    s.iff (!s.flag TB_STATUS_COARSE) (fun s =>
      let s := s.modPch c (fun p => { p with edgeCyc := some s.encCyc })
      ((s.wrS (POS_EDGE_COUNT c) (s.count c)).wrTime (POS_EDGE_TIME c) t.toNat).publishC (POS_EDGE_STATUS c))

/-- Whether a level that a ball has shown since `ago` (2^-16 ns) is accepted: F samples have shown it, 4 ns apart (R191). -/
def State.filtered (s : State) (c ago : Nat) : Bool := decide (4 * 65536 * s.get (POS_CTRL_FILTER c) ≤ ago)

/-- ENCODER_TRANSITION (R191, R193, R194): the balls A, B and Z have shown the given levels since `ago` units of 2^-16 ns
before now, the stamp of the edge; they become the accepted levels once F samples have shown them. A channel that does not
run follows them only. -/
def execEncoderTransition (c : Fin 16) (a b z : Bool) (ago : Nat) (s : State) : Host.Outcome State Fault Refusal :=
  let p := s.pch c
  if s.mc.encOff || !s.filtered c ago then .next s
  else
    let t := s.nowI - edgeAgo ago
    let sw := s.flag (POS_CTRL_SWAP_AB c)
    let qp := fun (x y : Bool) => if sw then quadPlace y x else quadPlace x y
    let s1 := s.modPch c (fun p => { p with lvA := a, lvB := b, lvZ := if s.posMode c = 2 ∨ !p.runs then z else p.lvZ })
    if !p.runs then .next s1
    else .next <| match s.posMode c with
      | 1 => if p.lvA = a ∧ p.lvB = b then s else
          match quadCount (s.get (POS_CTRL_DECODE c)) (qp p.lvA p.lvB) (qp a b) with
          | some n => s1.edgeCount c n t
          | none => s1.illegal c
      | 2 => if p.lvA = a ∧ p.lvB = b ∧ p.lvZ = z then s else
          match hallCount (hallPlace p.lvA p.lvB p.lvZ) (hallPlace a b z) with
          | some n => s1.edgeCount c n t
          | none => s1.illegal c
      | _ => s

/-! ### Index (R200 to R202) -/

/-- The check of a later index event (R202). -/
def State.slipCheck (s : State) (c : Nat) (t : Int) : State :=
  let p := (s.rdN (POS_INDEX_PERIOD c) : Int) * 65536
  let mode := s.get (POS_INDEX_CFG_INDEX_MODE c)
  match (s.pch c).base with
  | none => s
  | some b =>
    if p = 0 then s
    else
      let cc := s.count c
      let k := roundDiv (sext 64 (trunc 64 (cc - b))) p
      let e := sext 64 (trunc 64 (b + k * p))
      let dl := sext 64 (trunc 64 (cc - e))
      let s := if (s.get (POS_INDEX_CFG_SLIP_TOL c) : Int) * 65536 < dl.natAbs then
          let s := s.iff (!s.flag TB_STATUS_COARSE) (fun s =>
            (((s.wrS (POS_SLIP_DELTA c) dl).wrS (POS_SLIP_EXPECTED c) e).wrTime (POS_SLIP_TIME c) t.toNat).publish (POS_SLIP_STATUS c))
          ((s.bump (POS_CNT_SLIP c)).raise 5 (POS_EVENTS_INDEX_SLIP c)).log64 0x2010 c dl 0
        else s
      let s := s.iff (!s.flag (POS_INDEX_CFG_SLIP_MODE c) && decide (dl ≠ 0)) (fun s => s.offset c (-dl) (some 2) true)
      s.iff (mode == 1 && decide (k ≠ 0)) (fun s => s.offset c (-(k * p)) none true)

/-- The reference is set by an index event (R201). -/
def State.setReference (s : State) (c : Nat) : State :=
  let v := s.rdS (POS_INDEX_VALUE c)
  let s := s.offset c (v - s.count c) (some 1) true
  ((((s.modPch c (fun p => { p with base := some v })).putB (POS_STATUS_REFERENCED c) true).putB
    (POS_STATUS_ARMED c) false).raise 5 (POS_EVENTS_REFERENCE c)).logC 0x2012 c 0

/-- INDEX_EVENT (R200): the accepted Z is high and the gate is met for the first time since Z was low. -/
def execIndexEvent (c : Fin 16) (ago : Nat) (s : State) : Host.Outcome State Fault Refusal :=
  let p := s.pch c
  let sw := s.flag (POS_CTRL_SWAP_AB c)
  let a := if sw then p.lvB else p.lvA
  let b := if sw then p.lvA else p.lvB
  let gate := !s.flag (POS_INDEX_CFG_GATED c) || s.get (POS_INDEX_CFG_GATE_AB c) == 2 * b2n a + b2n b
  if !p.runs || s.mc.encOff || s.posMode c != 1 || p.zDone || !gate || !s.filtered c ago then .next s
  else
    let s := s.modPch c (fun p => { p with zDone := true, lvZ := true })
    let s := ((s.bump (POS_CNT_INDEX c)).raise 5 (POS_EVENTS_INDEX c)).produce (16 + 3 * c) 0
    .next <| match s.get (POS_INDEX_CFG_INDEX_MODE c) with
      | 1 => if (s.pch c).base.isNone then s.setReference c else s.slipCheck c (s.nowI - edgeAgo ago)
      | 2 => if s.flag (POS_STATUS_ARMED c) then s.setReference c else s.slipCheck c (s.nowI - edgeAgo ago)
      | _ => s

/-- ENC_Z_FALL (R200): the accepted Z is low, so that a later rise can give a further index event. -/
def execEncZFall (c : Fin 16) (s : State) : Host.Outcome State Fault Refusal :=
  .next (s.iff (!s.mc.encOff) (fun s => s.modPch c (fun p => { p with lvZ := false, zDone := false })))

/-! ### Probe and snapshots (R208 to R210) -/

/-- PROBE_EDGE (R208, R209): the accepted level of ENC_PROBE changed to `level` at an edge stamped `ago` before now. In
coarse running no stamp is taken, so nothing is captured (R57). -/
def execProbeEdge (c : Fin 16) (level : Bool) (ago : Nat) (s : State) : Host.Outcome State Fault Refusal :=
  let p := s.pch c
  let s1 := s.modPch c (fun p => { p with lvProbe := level })
  let sel := bit (s.get (POS_PROBE_CFG_PROBE_EDGE c)) (if level then 0 else 1)
  if s.mc.encOff || p.lvProbe == level || !s.filtered c ago then .next s
  else if !p.runs || !sel then .next s1
  else
    let gap := 4 * max 4 (s.get (POS_CTRL_FILTER c) + 1)
    let merged := match p.lastProbe with | some k => decide (s.tb.ticks < k + gap) | none => false
    if merged then .next (s1.bump (POS_CNT_PROBE_MERGED c))
    else
      let t := s.nowI - edgeAgo ago
      let s := s1.modPch c (fun p => { p with lastProbe := some s1.tb.ticks })
      let s := s.iff (!s.flag TB_STATUS_COARSE) (fun s =>
        let s := (s.modPch c (fun p => { p with probeCyc := some s.encCyc })).wrN (POS_PROBE_FLAGS c) (if level then 1 else 2)
        ((s.probeTake c t).wrTime (POS_PROBE_TIME c) t.toNat).publishC (POS_PROBE_STATUS c))
      .next ((s.raise 5 (POS_EVENTS_PROBE c)).produce (17 + 3 * c) 0)

/-- A POS_SNAP capture of a running channel (R210). -/
def State.posSnap (s : State) (c : Nat) : State :=
  if !(s.pch c).runs then s
  else
    let s := s.modPch c (fun p => { p with snapCyc := some s.encCyc })
    ((s.snapTake c s.nowI).wrTime (POS_SNAP_TIME c) s.now).publishC (POS_SNAP_STATUS c)

/-- POS_SNAP: SNAP in POS_CMD. -/
def execPosSnap (c : Fin 16) (s : State) : Host.Outcome State Fault Refusal := .next (s.posSnap c)

/-- PRESET applies POS_PRESET − counter as a step (R198, R199). -/
def State.presetPos (s : State) (c : Nat) : State :=
  s.iff (s.pch c).runs (fun s => s.offset c (s.rdS (POS_PRESET c) - s.count c) (some 0) false)
/-- ARM: a ONCE reference is armed from the next cycle on (R201). -/
def State.armPos (s : State) (c : Nat) : State := s.iff (s.pch c).runs (fun s => s.putB (POS_STATUS_ARMED c) true)
/-- OBS_RESET: the observer restarts cold at the counter (R206). -/
def State.obsReset (s : State) (c : Nat) : State := s.iff (s.pch c).runs (fun s => s.obsStart c s.nowI)

/-- PRESET: PRESET in POS_CMD. -/
def execPreset (c : Fin 16) (s : State) : Host.Outcome State Fault Refusal := .next (s.presetPos c)
/-- ARM: ARM in POS_CMD. -/
def execArm (c : Fin 16) (s : State) : Host.Outcome State Fault Refusal := .next (s.armPos c)
/-- OBS_RESET: OBS_RESET in POS_CMD. -/
def execObsReset (c : Fin 16) (s : State) : Host.Outcome State Fault Refusal := .next (s.obsReset c)

/-! ### The observer (R204 to R206) -/

/-- The gain field `g` applied to `r`: M × 2^-(10 + E), times `n` over `d`, rounded with halves away from zero. -/
def gain (g : Nat) (r n d : Int) : Int := roundDiv ((g % 1024 : Nat) * r * n) (d * 2 ^ (10 + g / 1024))

/-- POS_OBS shows the state at its update time (R210). -/
def State.publishObs (s : State) (c : Nat) (o : ObsState) : State :=
  ((((s.wrS (POS_OBS_X c) (fineOf o.x)).wrS (POS_OBS_V c) o.v).wrS (POS_OBS_A c) o.a).wrTime (POS_OBS_TIME c)
    o.t.toNat).publishC (POS_OBS_STATUS c)

/-- One observer update with measurement `z` (fine counts) an interval `d` (2^-16 ns) after the previous one, the new
state referred to time `t`; then the warm and cold rules (R204, R205, R206). -/
def State.obsUpdate (s : State) (c : Nat) (z d t : Int) : State :=
  let o := (s.pch c).own
  let d := max 1 d
  let xp := o.x + roundDiv (o.v * d) (usT * 256) + roundDiv (o.a * d * d) (2 * usT * usT * 65536)
  let vp := o.v + roundDiv (o.a * d) (usT * 256)
  let r := clampInt (-(2 ^ 56)) (2 ^ 56) (sext 80 (trunc 80 (z * 65536 - xp)))
  let x := sext 80 (trunc 80 (xp + gain (s.get (POS_OBS_K12_K1 c)) r 1 1))
  let rv := s.fit 64 (vp + gain (s.get (POS_OBS_K12_K2 c)) r (256 * usT) d)
  let s := rv.2
  let ra := s.fit 64 (o.a + gain (s.get (POS_OBS_K3_K3 c)) r (65536 * usT * usT) (d * d))
  let s := ra.2
  let n : ObsState := { o with x := x, v := rv.1, a := ra.1, t := t }
  let p := s.pch c
  let tol := fun (k : Nat) => decide ((r.natAbs : Int) ≤ (k : Int) * 16777216)
  let good := if tol (s.get (POS_OBS_TOL_WARM_TOL c)) then p.inTol + 1 else 0
  let bad := if tol (s.get (POS_OBS_TOL_COLD_TOL c)) then 0 else p.overTol + 1
  let run := s.get (POS_OBS_CFG_WARM_RUN c)
  let s := s.modPch c (fun p => { p with own := n, updates := p.updates + 1, inTol := good, overTol := bad, lastUpd := s.tb.ticks, interval := s.updN c })
  let s := s.iff (!s.follows c) (fun s => s.publishObs c n)
  let s := if o.warm then s.iff (decide (4 ≤ bad)) (fun s => s.setOwnWarm c false)
    else s.iff (decide (run ≤ p.updates + 1) && decide (run ≤ good)) (fun s => s.setOwnWarm c true)
  s.recompute c

/-- OBSERVER_UPDATE (R204): in quadrature and Hall modes, when the update interval has elapsed. -/
def execObserverUpdate (c : Fin 16) (s : State) : Host.Outcome State Fault Refusal :=
  let p := s.pch c
  let el := (s.tb.ticks : Int) - p.lastUpd
  if !p.runs || !(s.posMode c == 1 || s.posMode c == 2) || decide (el < 4 * p.interval) then .next s
  else .next (s.obsUpdate c (s.count c) (nsT el) s.nowI)

/-! ### SSI (R195, R196) -/

/-- The SSI clock period in ns, the bits N of a frame and its duration. -/
def State.ssiClk (s : State) (c : Nat) : Nat := 8 * (s.get (POS_SSI_CFG_DIV c) + 1)
def State.ssiBits (s : State) (c : Nat) : Nat :=
  s.get (POS_SSI_CFG_BITS c) + s.get (POS_SSI_CFG_ERR_BIT c) + (if s.get (POS_SSI_CFG_PARITY c) % 3 = 0 then 0 else 1)
def State.ssiTime (s : State) (c : Nat) : Nat := (s.ssiBits c + 1) * s.ssiClk c

/-- The level at ENC_B of a channel: none is high impedance (R42, R190), else its declared idle level, or the clock of the
frame in progress, low in the first half of each period (R195). -/
def State.encB (s : State) (c : Nat) : Option Bool :=
  match s.mc.encIdle.find? (fun (e : Nat × Bool) => e.1 == c) with
  | none => none
  | some e =>
    if !s.outCommit || s.mc.encOff then none
    else match (s.pch c).ssiFrame, (s.pch c).ssiStart with
      | some _, some t =>
        let d := s.tb.ticks - t
        some (decide (s.ssiTime c ≤ d) || decide (s.ssiClk c ≤ 2 * (d % s.ssiClk c)))
      | _, _ => some e.2

/-- SSI_FRAME_START (R195): the first falling clock edge of a frame, every PERIOD µs; `idle` is the level of ENC_A in the
sample before it. No frame starts while ENC_B does not drive, inside the monoflop time or inside another frame. -/
def execSsiFrameStart (c : Fin 16) (idle : Bool) (s : State) : Host.Outcome State Fault Refusal :=
  let p := s.pch c
  let mono := match p.ssiEnd with
    | some e => decide (s.tb.ticks < e + 1000 * s.get (POS_SSI_TIMING_MONO c)) | none => false
  let early := match p.ssiStart with
    | some t => decide (s.tb.ticks < t + 1000 * s.get (POS_SSI_TIMING_PERIOD c)) | none => false
  if !p.runs || s.posMode c != 3 || (s.encB c).isNone || p.ssiFrame.isSome || mono || early then .next s
  else .next (s.modPch c (fun p => { p with ssiFrame := some s.nowI, ssiStart := some s.tb.ticks, lvA := idle }))

/-- Gray code of `w` bits read as binary. -/
def grayToBin (w g : Nat) : Nat :=
  ((List.range w).reverse.foldl (fun (acc : Nat × Nat) i =>
    let b := (acc.1 + (if bit g i then 1 else 0)) % 2
    (b, acc.2 + b * 2 ^ i)) (0, 0)).2

/-- A failed or jumped frame: counted, flagged, and the third in a row makes the observer cold (R196, R206). -/
def State.ssiBad (s : State) (c : Nat) : State :=
  let s := ((s.bump (POS_CNT_SSIERR c)).raise 5 (POS_EVENTS_SSI_ERR c)).putB (POS_STATUS_SSI_OK c) false
  let s := s.modPch c (fun p => { p with ssiFails := p.ssiFails + 1 })
  s.iff (decide (3 ≤ (s.pch c).ssiFails)) (fun s => s.setOwnWarm c false)

/-- The tick at which the last bit of the frame in progress has been sampled, DELAY samples after its falling edge, and the
clock is high again (R195). -/
def State.ssiDone (s : State) (c t : Nat) : Nat :=
  t + max (s.ssiTime c) (s.ssiBits c * s.ssiClk c + 4 * s.get (POS_SSI_TIMING_DELAY c))

/-- SSI_FRAME_END (R195, R196): the frame in progress has run its time; `raw` holds the N bits in the order received, the first in the most significant place: the
data bits, then the error bit, then the parity bit. -/
def execSsiFrameEnd (c : Fin 16) (raw : Nat) (s : State) : Host.Outcome State Fault Refusal :=
  let p := s.pch c
  match p.ssiFrame, p.ssiStart with
  | some tf, some t0 =>
    if s.tb.ticks < s.ssiDone c t0 then .next s
    else
    let par := s.get (POS_SSI_CFG_PARITY c) % 3
    let err := s.get (POS_SSI_CFG_ERR_BIT c)
    let w := s.get (POS_SSI_CFG_BITS c)
    let np := if par = 0 then 0 else 1
    let code := raw / 2 ^ (err + np) % 2 ^ w
    let errOk := err == 0 || !bit raw np
    let parOk := par == 0 || (popCount w code + raw % 2) % 2 == (if par = 1 then 0 else 1)
    let u := if s.flag (POS_SSI_CFG_GRAY c) then grayToBin w code else code
    let sh : Int := 2 ^ (16 - min 16 (s.get (POS_SSI_CFG_FRAC_BITS c)))
    let s := s.modPch c (fun p => { p with ssiFrame := none, ssiEnd := some (t0 + s.ssiBits c * s.ssiClk c + s.ssiClk c / 2) })
    let good := fun (s : State) => s.modPch c (fun p => { p with
      ssiPrev := some u, ssiFails := 0, ssiJumps := 0, ssiLast := some t0 })
    if !(p.lvA && errOk && parOk) then
      .next ((s.modPch c (fun p => { p with ssiJumps := 0 })).ssiBad c |>.logCount 0x2020 c c)
    else match p.ssiPrev with
      | none =>
        let s := good (s.wrS (POS_COUNT c) (u * sh))
        .next ((((s.putB (POS_STATUS_REFERENCED c) true).putB (POS_STATUS_SSI_OK c) true).raise 5
          (POS_EVENTS_REFERENCE c)).obsStart c tf)
      | some u0 =>
        let d := sext w (trunc w ((u : Int) - u0))
        if d.natAbs ≤ s.rdN (POS_SSI_MAXSTEP c) then
          let s := ((good s).putB (POS_STATUS_SSI_OK c) true).countBy c (d * sh)
          .next (s.obsUpdate c (s.count c) (nsT ((t0 : Int) - (p.ssiLast.getD t0 : Nat))) tf)
        else
          let s := (s.logC 0x2021 c 0).ssiBad c
          if p.ssiJumps + 1 < 3 then .next (s.modPch c (fun p => { p with ssiJumps := p.ssiJumps + 1 }))
          else
            .next (((good s).offset c (u * sh - s.count c) (some 3) false).obsStart c tf)
  | _, _ => .next s

/-! ### The Sill (R211 to R213, R438) -/

/-- The state as a burst carries it: at `t`, x to whole fine counts, v to whole fine counts per µs, a to 2^-12, each
rounded and saturated (R438). -/
def ObsState.rounded (o : ObsState) (t : Int) : ObsState :=
  { o with
    x := sext 80 (trunc 80 (roundDiv (o.xAt t) 65536 * 65536)), t := t,
    v := clampInt (-8388607) 8388607 (roundDiv (o.vAt t) 16777216) * 16777216,
    a := clampInt (-32768) 32767 (roundDiv o.a 1048576) * 1048576 }

/-- The channels that publish, with the slot of each, in ascending order of the slots. -/
def State.publishers (s : State) : List (Nat × Nat) :=
  (List.range 64).flatMap (fun k => ((List.range 16).filter (fun c => (s.pch c).runs && s.flag (POS_SILL_CFG_PUBLISH c)
    && s.get (POS_SILL_CFG_SLOT c) == k)).map (fun c => (k, c)))

/-- The state that a publisher's own observer gives. -/
def State.ownState (s : State) (c : Nat) : ObsState := { (s.pch c).own with ref := s.flag (POS_STATUS_REFERENCED c) }

/-- The instant of the state that a publication carries: the present whole microsecond (R438). -/
def State.pubTime (s : State) : Int := s.nowI / usT * usT

/-- The states published now: the slot, the channel and the rounded state of each publisher (R438, R439). -/
def State.pubStates (s : State) : List (Nat × Nat × ObsState) :=
  s.publishers.map (fun p => (p.1, p.2, (s.ownState p.2).rounded s.pubTime))

/-- The slot whose absolute position the burst anchors: the lowest whose STEP_SEQ changed since its last anchor, else the
next in rotation (R439). -/
def State.pubAnchor (s : State) : Nat :=
  let sts := s.pubStates
  let changed := sts.find? (fun p => !(s.sill.lastAnchor.any (fun l => l.1 == p.1 && l.2 == p.2.2.stepSeq)))
  let rot := match sts.find? (fun p => decide (s.sill.anchorNext ≤ p.1)) with | some p => some p | none => sts.head?
  match changed with | some p => p.1 | none => match rot with | some p => p.1 | none => 0

/-- The published state of the anchored slot. -/
def State.pubAnchored (s : State) : Option ObsState :=
  (s.pubStates.find? (fun p => p.1 == s.pubAnchor)).map (fun p => p.2.2)

/-- The burst of a publication: the header with the anchor, and two blocks a slot (R439). -/
def State.posBurst (s : State) : SillTx :=
  let ax := match s.pubAnchored with | some o => trunc 64 (fineOf o.x) | none => 0
  let hdr := [sillC 0x40 (toBytes 2 s.nodeId ++ toBytes 2 (s.get SILL_CFG_CLAIM) ++ toBytes 1 s.pubStates.length ++
      toBytes 1 s.pubAnchor), sillD (toBytes 4 (timeNs s.pubTime.toNat) ++ toBytes 3 (timeSec s.pubTime.toNat)),
    sillD (toBytes 4 (ax / 2 ^ 32))]
  let slots := s.pubStates.flatMap (fun p =>
    let o := p.2.2
    [sillC 0x41 (toBytes 1 (p.1 + 64 * b2n o.warm + 128 * b2n o.dir) ++ toBytes 1 (b2n o.ref) ++ toBytes 1 o.stepSeq ++
      toBytes 2 (trunc 16 (o.a / 1048576))),
     sillD (toBytes 4 (trunc 64 (fineOf o.x)) ++ toBytes 3 (trunc 24 (o.v / 16777216)))])
  ⟨0, false, false, hdr ++ slots⟩

/-- The anchor sent is remembered, and the rotation goes on after it (R439). -/
def State.noteAnchor (s : State) : State :=
  let a := s.pubAnchor
  let q := match s.pubAnchored with | some o => o.stepSeq | none => 0
  s.modSill (fun x => { x with anchorNext := a + 1, lastAnchor := (a, q) :: x.lastAnchor.filter (fun l => l.1 != a) })

/-- A published state waits to come into force at its own channel, HOLD after its instant, where the fabric carries the
bursts (R211). -/
def State.holdOwn (s : State) (c : Nat) (t : Int) (o : ObsState) : State :=
  s.iff (s.flag (POS_STATUS_CARRIED c)) (fun s => s.modPch c (fun p => { p with
    due := p.due ++ [⟨t + nsT (100 * s.get (POS_SILL_CFG_HOLD c)), o⟩] }))

/-- POS_PUBLISH (R211, R438, R439): the burst for the present whole microsecond leaves every DOWN and TWIN port, and the
published states come into force at t_s + HOLD at a publisher whose bursts the fabric carries. -/
def execPosPublish (s : State) : Host.Outcome State Fault Refusal :=
  if s.publishers.isEmpty then .next s
  else .next (s.pubStates.foldl (fun x p => x.holdOwn p.2.1 s.pubTime p.2.2)
    ((s.noteAnchor.sillSendRole 2 s.posBurst).sillSendRole 3 s.posBurst))

/-- What a follower shows of the state that has come into force: WARM unless it is stale, DIR and STEP_SEQ, and POS_OBS
(R211 to R213). -/
def State.showFrame (s : State) (c : Nat) (o : ObsState) : State :=
  let s := (s.put (POS_STATUS_STEP_SEQ c) o.stepSeq).setDir c o.dir
  (s.setWarm c (o.warm && !s.flag (POS_STATUS_STALE c))).publishObs c o

/-- A state comes into force at a channel (R211): its sequencers compute again. In follow mode the counter follows it, and
reversals are judged from the counter's values (R203). -/
def State.putInForce (s : State) (c : Nat) (o : ObsState) : State :=
  let first := !(s.pch c).forced
  let b := s.count c
  let s := s.modPch c (fun p => { p with
    force := o, forced := true, own := if first && s.posMode c == 4 then { p.own with dir := o.dir } else p.own })
  let s := s.iff (s.posMode c == 4) (fun s =>
    let s := (s.wrS (POS_COUNT c) (fineOf o.x)).putB (POS_STATUS_REFERENCED c) o.ref
    s.iff (!first) (fun s => s.dirRule c b (s.count c)))
  let s := (s.iff (s.follows c) (fun s => s.showFrame c o)).recompute c
  s.iff (s.posMode c == 4) (fun s => (s.counted c).recapture c)

/-- The warm frames in a row that a stale follower receives: the fourth ends STALE (R212). -/
def State.warmFrame (s : State) (c : Nat) (warm : Bool) : State :=
  if !s.flag (POS_STATUS_STALE c) then s
  else
    let k := if warm then (s.pch c).warmFrames + 1 else 0
    (s.modPch c (fun p => { p with warmFrames := k })).iff (decide (4 ≤ k)) (fun s => s.putB (POS_STATUS_STALE c) false)

/-- A frame's state for a channel (R211, R212, R213): it comes into force at t_s + HOLD, or at once when that is past.
A publisher that is not carried also computes D_align. -/
def State.posFrame (s : State) (c : Nat) (o : ObsState) : State :=
  let due := o.t + nsT (100 * s.get (POS_SILL_CFG_HOLD c))
  let s := (s.modPch c (fun p => { p with lastFrame := some s.tb.ticks })).warmFrame c o.warm
  let s := if s.flag (POS_SILL_CFG_PUBLISH c) then
      let d := sext 64 (trunc 64 (fineOf o.x - (s.ownState c).fineAt o.t))
      let moved := match (s.pch c).dAlign with | some e => decide (131072 < (d - e).natAbs) | none => false
      let s := s.iff moved (fun s => (s.logC 0x2042 c 0).modPch c (fun p => { p with alignMoved := some s.tb.ticks }))
      s.modPch c (fun p => { p with dAlign := some d })
    else s
  if due < s.nowI then ((s.bump (POS_CNT_LATEFRAME c)).logOnce 0x2040 c c 0).putInForce c o
  else s.modPch c (fun p => { p with due := p.due ++ [⟨due, o⟩] })

/-- POS_STATE_IN_FORCE (R211): the oldest waiting state whose time has come is put in force. -/
def execPosStateInForce (c : Fin 16) (s : State) : Host.Outcome State Fault Refusal :=
  match (s.pch c).due.find? (fun d => decide (d.due ≤ s.nowI)) with
  | none => .next s
  | some d =>
    if !(s.pch c).runs then .next s
    else .next ((s.modPch c (fun p => { p with due := p.due.erase d })).putInForce c d.st)

/-- FOLLOWER_STALE (R212): 4 µs without a frame at a follower. -/
def execFollowerStale (c : Fin 16) (s : State) : Host.Outcome State Fault Refusal :=
  let follows := (s.pch c).runs && (s.posMode c == 4 || (s.flag (POS_SILL_CFG_PUBLISH c) && !s.flag (POS_STATUS_CARRIED c)))
  match (s.pch c).lastFrame with
  | none => .next s
  | some k =>
    if !follows || s.flag (POS_STATUS_STALE c) || decide (s.tb.ticks < k + 4000) then .next s
    else .next (((((s.putB (POS_STATUS_STALE c) true).modPch c (fun p => { p with warmFrames := 0 })).setWarm c false).bump
      (POS_CNT_STALE c)).raise 5 (POS_EVENTS_STALE c) |>.logC 0x2041 c 0)

/-- EXPOSURE_CENTRE_COPY (R207): the time base reaches the predicted exposure centre of trigger `id`, and the channel
copies its state in force into the entry. -/
def execExposureCentreCopy (id : Nat) (s : State) : Host.Outcome State Fault Refusal :=
  match s.trigs.find? (fun t => t.id == id) with
  | none => .next s
  | some t =>
    if t.copied.isSome || decide (s.nowI < t.tc) then .next s
    else
      let o := s.inForce (s.trChan t.seq)
      let st := o.stepSeq != (s.sq t.seq).stepSeq
      let s := s.modTrigs (fun ts => ts.map (fun (u : Trigger) =>
        if u.id == id then { u with copied := some o, posStep := st } else u))
      .next (s.modSq t.seq (fun x => { x with stepSeq := o.stepSeq })).cleanTrigs

end Sys2Proof.Machine
end

