-- ==== Sys2Proof/Machine/Trig.lean ====
section
/-!
DEFINITION. The trigger sequencers' commands (R217 to R240). The shared operations stand in Motion.
-/

namespace Sys2Proof.Machine

open Reg

/-- TARGET_COMMIT (R223): sequencer `q` evaluates its current target in one CLK_ENC cycle. While its channel is not warm
the test of R233 applies; in reverse without BIDIR nothing commits (R234). -/
def execTargetCommit (q : Fin 128) (s : State) : Host.Outcome State Fault Refusal :=
  let c := s.trChan q
  if !s.trRunning q || !(s.sq q).has || s.trMode q == 3 then .next s
  else if decide (s.trMode q < 2) && !s.flag (POS_STATUS_WARM c) then .next (s.coldTest q)
  else if decide (s.trMode q < 2) && s.flag (POS_STATUS_DIR c) && !s.trBidir q then .next s
  else match (s.sq q).tf with
    | none => .next s
    | some tf => if s.nowI < tf - s.commitLead q then .next s else .next (s.judge q tf false false 0)

/-- The capture of a firing whose effective instant has come, and its FIRE event (R224). -/
def State.fired (s : State) (t : Trigger) : State :=
  let s := s.modTrigs (fun ts => ts.map (fun (u : Trigger) => if u.id == t.id then { u with firedNow := true } else u))
  let fl := t.stepSeq * 2 ^ 24 + 16 * b2n t.warm + 8 * b2n t.reverse + 4 * b2n t.catchup + 2 * b2n t.compare + b2n t.late
  let q := t.seq
  let s := ((((((s.wrN (TRIG_LAST_TRIG_ID q) t.id).wrN (TRIG_LAST_LEAD q) (t.lead / 256).toNat).wrS (TRIG_LAST_TARGET q)
    t.target).wrS (TRIG_LAST_LINE q) t.line).wrN (TRIG_LAST_FLAGS q) fl).wrTime (TRIG_LAST_TIME q) t.tf.toNat).publishC
    (TRIG_LAST_STATUS q)
  let s := s.iff (decide (q < 16)) (fun s => s.produce q t.hop)
  (s.showCommitted q).cleanTrigs

/-- FIRING_INSTANT (R224): the effective firing instant of trigger `id` arrives. A path-1 or path-2 firing fires only
once its path has fixed the instant. What OUTPUT_COMMIT stops has left the list as it cleared (R217). -/
def execFiringInstant (id : Nat) (s : State) : Host.Outcome State Fault Refusal :=
  match s.trigs.find? (fun t => t.id == id && !t.firedNow) with
  | none => .next s
  | some t =>
    if decide (s.nowI < t.tf) || ((t.path == 1 || t.path == 2) && !t.sent) then .next s
    else .next (s.fired t)

/-- PULSE_START (R236): the path-3 firing `id` drives its pin active, or extends the pulse that runs on it. No pulse starts
while OUTPUT_COMMIT is 0 (R42). -/
def execPulseStart (id : Nat) (s : State) : Host.Outcome State Fault Refusal :=
  match s.trigs.find? (fun t => t.id == id && t.path == 3 && !t.sent) with
  | none => .next s
  | some t =>
    if s.nowI < t.tf then .next s
    else
      let g := t.out % 64
      let e := s.elapsed + (t.tf - s.nowI) + nsT t.width
      let s := s.modTrigs (fun ts => ts.map (fun (u : Trigger) => if u.id == id then { u with sent := true } else u))
      let s := match s.pulseEnd g with
        | some f => ((s.setPulseEnd g (some ⟨max e f.stop, 1, t.seq⟩)).bump (TRIG_CNT_MERGED t.seq)).raise 6
            (TRIG_EVENTS_MERGED t.seq)
        | none => s.iff (s.pinDrives g) (fun s => (s.setPulseEnd g (some ⟨e, 1, t.seq⟩)).pinActive g true)
      .next (s.showCommitted t.seq).cleanTrigs

/-- PULSE_END (R236): the pulse that sequencer `q` drives ends and its pin returns to its idle level. -/
def execPulseEnd (q : Fin 128) (s : State) : Host.Outcome State Fault Refusal := .next (s.endPulses 1 q)

/-- LIST_ENTRY_RETRY (R226): a stalled sequencer reads its entry again. -/
def execListEntryRetry (q : Fin 128) (s : State) : Host.Outcome State Fault Refusal :=
  .next (s.iff (s.trRunning q && s.flag (TRIG_STATUS_STALLED q))
    (fun s => s.loadEntry q (s.get (TRIG_STATUS_LIST_IDX q))))

/-- A position is appended to the ring of a sequencer in LIST ring mode, or dropped when the ring is full (R227). -/
def State.ringPush (s : State) (q v : Nat) : State :=
  let len := max 1 (s.get (TRIG_LIST_LEN q))
  let wr := s.get (TRIG_RING_WR q)
  if (wr + 1) % len = s.get (TRIG_RING_RD q) then
    ((s.bump (TRIG_CNT_RINGFULL q)).raise 6 (TRIG_EVENTS_RING_FULL q)).logOnce 0x3040 q q 0
  else
    let i := (s.get (TRIG_LIST_BASE q) + wr) % 16384
    let s := (((s.wrS (SCHED_TARGET i) ((v : Int) - s.rdS (TRIG_SHIFT q))).wrN (SCHED_LINE i) 0).wrN (SCHED_WORD3 i)
      65536).put (TRIG_RING_WR q) ((wr + 1) % len)
    s.iff (s.trRunning q && !(s.sq q).has) (fun s => s.loadRing q)

/-- FIRE (R229): one firing at now + MIN_PATH in TIME or EVENT mode. -/
def State.fireNow (s : State) (q : Nat) : State :=
  if !s.trRunning q || decide (s.trMode q < 2) then s
  else (s.modSq q (fun x => { x with reached := false })).judge q (s.nowI + s.minPath q) false true 0

/-- RING_CLEAR (R237): the ring is emptied. -/
def State.ringClear (s : State) (q : Nat) : State :=
  let s := s.put (TRIG_RING_RD q) (s.get (TRIG_RING_WR q))
  s.iff (s.trRunning q && s.trRing q) (fun s => s.loadRing q)

/-- RESYNC (R237): the first target is chosen again; the ring is kept. -/
def State.resync (s : State) (q : Nat) : State := s.iff (s.trRunning q) (fun s => (s.firstTarget q).trigFlush q)

/-- An event accepted by consumer `q` starts a firing at the accepting cycle + EVENT_DELAY, committed at once; the
sequencer is busy until t_f + MIN_GAP (R229). The firing carries the event's hop count plus 1 (R266). -/
def State.seqAccept (s : State) (q hop : Nat) : State :=
  let t := s.nowI + max (nsT (s.get (TRIG_EVENT_DELAY_NS q))) (s.minPath q)
  let s := s.modSq q (fun x => { x with reached := false, busyTo := t + s.minGap q, hop := hop })
  s.judge q t false true (hop + 1)

end Sys2Proof.Machine
end

