-- ==== Sys2Proof/Machine/TimeBase.lean ====
section
/-!
DEFINITION. The time base: counting, the increment, steps, slews, captures, PPS, alarms, cycle timers, GPIO edges
(R241 to R256), and the droop response, which halves two clocks (R62 to R67).
-/

namespace Sys2Proof.Machine

open Reg


/-! ### Counting (R241, R242, R246, R57) -/

/-- The range of an increment, in 2^-32 ns (R242). -/
def incrMin : Int := 0x00FFBE76C9
def incrMax : Int := 0x0100418937
/-- The time base wraps with its seconds, modulo 2^48 (R241). -/
def tbMod : Nat := 2 ^ 48 * 1000000000 * 2 ^ 32

/-- The slew step of the next tick: TB_SLEW_STEP, of the sign of the remainder and no more than remains (R246). -/
def State.slewStep (s : State) : Int :=
  let st := (min 0x418937 (max 1 (s.get TB_SLEW_STEP_STEP)) : Nat)
  let l := s.tb.slewLeft
  if l = 0 then 0 else if 0 < l then min st l else max (-(st : Int)) l

/-- The effective increment: TB_INCR plus the slew step, clamped (R242). -/
def State.effIncr (s : State) : Int := clampInt incrMin incrMax (s.rd64 TB_INCR + s.slewStep)

/-- A clamp of the increment is flagged, counted and logged (R242). -/
def State.clamped (s : State) : State := ((s.bump TB_CNT_CLAMP).raise 7 TB_EVENTS_CLAMPED).logC 0x9152 noUnit 0

/-- A slew whose remainder is zero is over (R246). -/
def State.slewDone (s : State) : State := if s.tb.slewLeft = 0 then s.putB TB_STATUS_SLEWING false else s

/-- The count that crosses to CLK_FAB (R59, R248): the count 4 ns ago, 7 ns while the clocks are halved. -/
def State.crossing (s : State) : Nat := (s.tb.cnt - (if s.flag GLOBAL_DROOP_STATUS_HALVED then 7 else 4) * s.effIncr).toNat

/-- The count that has crossed follows; between two samples it never moves backwards (R58), but for the wrap of R241. -/
def State.showCount (s : State) : State :=
  s.modTb (fun t => { t with shown := if t.cnt < t.shown then s.crossing else max t.shown s.crossing })

/-- One tick of CLK_TB: the counter advances by the effective increment, or, in coarse running, by 40 of it on every
40th tick (R241, R57); a slew takes its step (R246); halved time is counted (R64, R65). -/
def State.tbTick (s : State) : State :=
  let raw := (s.rd64 TB_INCR : Int) + s.slewStep
  let eff := s.effIncr
  let cl := decide (raw ≠ eff)
  let s := s.iff (cl && !s.tb.effClamped) State.clamped
  let coarse := s.flag TB_STATUS_COARSE
  let add := if !coarse then eff else if 39 ≤ s.tb.coarseTick then 40 * eff else 0
  let left := s.tb.slewLeft - (if coarse && decide (s.tb.coarseTick < 39) then 0 else s.slewStep)
  let s := s.modTb (fun t => { t with
    cnt := (t.cnt + add.toNat) % tbMod, ticks := t.ticks + 1, slewLeft := left, effClamped := cl,
    coarseTick := if coarse then (if 39 ≤ t.coarseTick then 0 else t.coarseTick + 1) else 0 })
  let s := s.showCount.slewDone
  if s.flag GLOBAL_DROOP_STATUS_HALVED then
    let s := s.wr64 GLOBAL_DROOP_TIME (s.rd64 GLOBAL_DROOP_TIME + 1)
    s.modDroop (fun d => { d with winHalved := d.winHalved + b2n d.winOn })
  else s

/-! ### The increment and slews -/

/-- An aligned 64-bit write of `v` to TB_INCR, or a write of its high half, which brings in the low half last written
(R242). -/
def State.incrWrite (s : State) (wide : Bool) (v : Nat) : State :=
  let n : Nat := if wide then v % 2 ^ 40 else v % 2 ^ 8 * 2 ^ 32 + s.tb.incrLow.toNat
  let c := (clampInt incrMin incrMax n).toNat
  ((s.modTb (fun t => { t with incrLow := BitVec.ofNat 32 n })).wr64 TB_INCR c).iff (c != n) State.clamped

/-- TB_INCR_WRITE (R242). -/
def execTbIncrWrite (wide : Bool) (v : Nat) (s : State) : Host.Outcome State Fault Refusal :=
  if s.held then .next s else .next (s.incrWrite wide v)

/-- A non-zero write `v` to TB_SLEW starts a slew; one in progress is discarded (R246). -/
def State.slewStart (s : State) (v : Nat) : State :=
  let s := s.wrN TB_SLEW v
  if sext 32 v = 0 then s
  else (s.modTb (fun t => { t with slewLeft := sext 32 v * 65536 })).putB TB_STATUS_SLEWING true

/-- SLEW_START (R246). -/
def execSlewStart (v : Word) (s : State) : Host.Outcome State Fault Refusal :=
  if s.held then .next s else .next (s.slewStart v.toNat)

/-- SLEW_END (R246): the remainder has reached zero. -/
def execSlewEnd (s : State) : Host.Outcome State Fault Refusal := .next s.slewDone

/-- SLEW_ABORT: the slew ends at once and keeps what has been applied (R246). -/
def State.slewAbort (s : State) : State := (s.modTb (fun t => { t with slewLeft := 0 })).slewDone

/-- SLEW_ABORT (R246). -/
def execSlewAbort (s : State) : Host.Outcome State Fault Refusal := if s.held then .next s else .next s.slewAbort

/-! ### Alarms (R253) -/

/-- A periodic alarm's TIME after it fired at time `now`: the next period, or, when it fired late, the first value after
the time base. -/
def alarmNext (t p now : Int) (late : Bool) : Int :=
  if late then t + p * ((now - t) / p + 1) else t + p

/-- Alarm `a` fires; `late` when its time had passed before this tick, `step` when a step passed it. -/
def State.alarmFire (s : State) (a : Nat) (late step : Bool) : State :=
  let p := max (nsT 64) (s.rd64 (TB_ALARM_PERIOD a) : Int)
  let s1 := ((s.raise 7 (TB_EVENTS_ALARM.sub a)).iff late (fun s => s.raise 7 TB_EVENTS_ALARM_LATE)).iff step
    (fun s => s.logC 0x9155 noUnit a)
  let s2 := if s.flag (TB_ALARM_CFG_PERIODIC a) then
      s1.wrTime (TB_ALARM_TIME a) (alarmNext (s.rdTime (TB_ALARM_TIME a)) p s.nowI late).toNat
    else s1.putB (TB_ALARM_CFG_EN a) false
  s2.produce (64 + a) 0

/-- ALARM_FIRE (R253): the time base equals or exceeds TIME of an enabled alarm. -/
def execAlarmFire (a : Fin 8) (s : State) : Host.Outcome State Fault Refusal :=
  let t := s.rdTime (TB_ALARM_TIME a)
  if s.held || !s.flag (TB_ALARM_CFG_EN a) || decide (s.now < t) then .next s
  else
    let tick := if s.flag TB_STATUS_COARSE then 40 * s.effIncr else s.effIncr
    .next (s.alarmFire a (decide ((t : Int) * 65536 ≤ s.tb.cnt - tick)) false)

/-! ### Steps (R244, R245) -/

/-- The first pulse number of a cycle timer whose instant lies after `t`, in whole time-base nanoseconds (R254). -/
def State.cycFirst (s : State) (i : Nat) (t : Int) (past : Bool) : Nat :=
  let st := (s.rdTime (TB_CYC_START i) : Int) / 65536
  let p := (max 1 (s.rdN (TB_CYC_PERIOD i)) : Nat)
  let n := t / 65536
  if n < st then 0 else if past then ((n - st) / p + 1).toNat else ((n - st + p - 1) / p).toNat

/-- The instants that were derived from position move by D (R245). -/
def State.moveInstants (s : State) (d : Int) : State :=
  let mo := fun (o : ObsState) => { o with t := o.t + d }
  let s := (List.range 16).foldl (fun s c => s.iff (s.pch c).runs (fun s => s.modPch c (fun p => { p with
    own := mo p.own, force := mo p.force, due := p.due.map (fun (q : ObsDue) => ⟨q.due + d, mo q.st⟩),
    ssiFrame := p.ssiFrame.map (fun t => t + d) }))) s
  let s := s.modTrigs (fun ts => ts.map (fun (t : Trigger) =>
    let t := { t with copied := t.copied.map mo }
    if t.fromPos then { t with tf := t.tf + d, tc := t.tc + d, actTime := t.actTime + d } else t))
  let s := (List.range 128).foldl (fun s q => s.iff (decide (s.trMode q < 2) && (s.sq q).tprev.isSome)
    (fun s => s.modSq q (fun x => { x with tprev := x.tprev.map (fun p => p + d) }))) s
  (List.range 16).foldl (fun s c => s.iff (s.pch c).runs (fun s => s.recompute c)) s

/-- A TIME or EVENT firing whose instant a forward step has passed is behind (R245): fired late, or skipped, under R231. -/
def State.firingPassed (s : State) (t : Trigger) : State :=
  let q := t.seq
  let x := s.sq q
  let s := s.modSq q (fun x => { x with behind := x.behind + 1 })
  if s.flag (TRIG_OPT_LATE_FIRE q) && decide (x.behind < 1 + min 4 (s.get (TRIG_OPT_CATCHUP q))) then
    let at_ := s.nowI + s.minPath q
    (s.modTrigs (fun ts => ts.map (fun (u : Trigger) => if u.id == t.id then { u with
      tf := at_, tc := at_ + t.lead, actTime := at_, late := true, catchup := decide (0 < x.behind) } else u))).countLate q
  else
    let s := s.modTrigs (fun ts => ts.filter (fun (u : Trigger) => u.id != t.id))
    (((s.bump (TRIG_CNT_MISSED q)).raise 6 (TRIG_EVENTS_MISSED q)).logCount 0x3001 q q).showCommitted q

/-- The firings that follow no position and have not left, whose instant lies between two times. -/
def State.firingsBetween (s : State) (a b : Int) : List Trigger :=
  s.trigs.filter (fun (t : Trigger) => !t.fromPos && !t.sent && !t.firedNow && decide (a ≤ t.tf) && decide (t.tf < b))

/-- The second of PPS_OUT at a time: the whole seconds less OFFSET_NS (R252). -/
def State.ppsSecond (s : State) (t : Int) : Int := (t / 65536 - sext 32 (s.rdN TB_PPS_OFFSET)) / 1000000000

/-- What follows when a step has moved the counter by `d`: the instants derived from position move, the step is counted
and reported, the cycle timers skip what was passed, the alarms `passed` fire, and producer 110 (R244, R245, R252 to
R254). -/
def State.stepped (s : State) (d : Int) (passed : List Nat) : State :=
  let s := (s.modTb (fun t => { t with ppsSkip := s.ppsSecond s.nowI, shown := s.crossing })).moveInstants d
  let s := (s.firingsBetween (s.nowI - d) s.nowI).foldl (fun s t => s.firingPassed t) s
  let s := (((s.put TB_STATUS_STEP_SEQ (s.get TB_STATUS_STEP_SEQ + 1)).raise 7 TB_EVENTS_STEPPED).bump TB_CNT_STEP).log64
    0x9150 noUnit d 0
  let s := (List.range 16).foldl (fun s i => s.iff (s.flag (TB_CYC_CFG_EN i)) (fun s =>
    s.modTb (fun t => { t with cycNext := cset (fun _ => 0) t.cycNext i (s.cycFirst i s.nowI true) }))) s
  (passed.foldl (fun s a => s.alarmFire a true true) s).produce 110 0

/-- The enabled alarms whose TIME lies after now and not after `new`. -/
def State.alarmsPassed (s : State) (new : Int) : List Nat :=
  (List.range 8).filter (fun a => s.flag (TB_ALARM_CFG_EN a) && decide (s.now < s.rdTime (TB_ALARM_TIME a))
    && decide ((s.rdTime (TB_ALARM_TIME a) : Int) ≤ new / 65536))

/-- A step: SET, STEP, or both as one (R244). -/
def State.tbStep (s : State) (set step : Bool) : State :=
  let base : Nat := if set then s.rdTime TB_SET_TIME * 65536 else s.tb.cnt
  let new := ((base : Int) + (if step then s.rdS TB_STEP * 65536 else 0)) % (tbMod : Int)
  let d := new / 65536 - s.nowI
  if s.outCommit && decide ((s.rdN TB_STEP_MAX : Int) * 65536 < d.natAbs) then
    ((s.bump TB_CNT_REFUSED).raise 7 TB_EVENTS_REFUSED).log64 0x9151 noUnit d 0
  else (s.modTb (fun t => { t with cnt := new.toNat })).stepped d (s.alarmsPassed new)

/-- SET (R244). -/
def execSet (s : State) : Host.Outcome State Fault Refusal := if s.held then .next s else .next (s.tbStep true false)
/-- STEP (R244). -/
def execStep (s : State) : Host.Outcome State Fault Refusal := if s.held then .next s else .next (s.tbStep false true)

/-! ### Captures -/

/-- The time base is captured into TB_SNAP (R248). -/
def State.tbSnap (s : State) : State := (s.wrTime TB_SNAP_TIME s.now).publishC TB_SNAP_STATUS

/-- TB_SNAP: SNAP in TB_CMD (R248). -/
def execTbSnap (s : State) : Host.Outcome State Fault Refusal := if s.held then .next s else .next s.tbSnap

/-- PPS_IN_EDGE (R251): an edge on PPS_IN, stamped `ago` units of 2^-16 ns before now; in coarse running no stamp is taken
(R57). -/
def execPpsInEdge (rising : Bool) (ago : Nat) (s : State) : Host.Outcome State Fault Refusal :=
  if s.held || !bit (s.get TB_CTRL_PPS_EDGE) (if rising then 0 else 1) then .next s
  else
    let s := s.iff (!s.flag TB_STATUS_COARSE) (fun s =>
      ((s.wrN TB_PPS_IN_FLAGS (if rising then 1 else 2)).wrTime TB_PPS_IN_TIME (s.now - edgeAgo ago)).publishC TB_PPS_IN_STATUS)
    let s := (s.putB TB_STATUS_PPS_MISS false).modTb (fun t => { t with ppsInTick := some t.ticks })
    .next (s.produce 88 0)

/-- PPS_MISS (R251): no edge within 1.1 s of the previous one. -/
def execPpsMiss (s : State) : Host.Outcome State Fault Refusal :=
  match s.tb.ppsInTick with
  | none => .next s
  | some k =>
    if s.flag TB_STATUS_PPS_MISS || decide (s.tb.ticks < k + 1100000000) then .next s
    else .next ((((s.putB TB_STATUS_PPS_MISS true).raise 7 TB_EVENTS_PPS_MISS).bump TB_CNT_PPS_MISS).logC 0x9153 noUnit 0)

/-- GPIO_EDGE_CAPTURE (R255): the level at GPIO `g` changes; the edge was stamped `ago` before now. A selected edge of a
pin that does not drive is captured, and the GPIO edge selectors that watch it fire (R257). A bank that stage 8 left
disabled is ignored (R51); in coarse running no stamp is taken (R57). -/
def execGpioEdgeCapture (g : Fin 64) (rising : Bool) (ago : Nat) (s : State) : Host.Outcome State Fault Refusal :=
  let on := s.flag (GPIO_OWNER_BANK_OK g) || decide (s.get GLOBAL_BOOT_STATUS_STAGE < 8)
  let s := s.putB ⟨GPIO_IN_LO + 4 * (g / 32), g % 32, 1⟩ (rising && on)
  if s.held || s.pinDrives g || !on then .next s
  else
    let e := if rising then 0 else 1
    let s := (List.range 8).foldl (fun s k => s.iff (s.flag (EVT_GPIO_SEL_EN k) && s.get (EVT_GPIO_SEL_PIN k) == g.val
      && bit (s.get (EVT_GPIO_SEL_EDGE k)) e) (fun s => s.produce (89 + k) 0)) s
    if s.flag TB_STATUS_COARSE || !bit (getBits (s.rdN (TB_GPIO_TS_EDGE (g / 16))) (2 * (g % 16)) 2) e then .next s
    else
      let at_ := 65536 * s.tb.ticks - edgeAgo ago
      let near := match cget (fun _ => none) s.tb.gpioLast g with
        | some k => decide (at_ < k + 4 * 65536) | none => false
      if near then .next (s.bump TB_CNT_GPIO_MERGED)
      else
        let s := s.modTb (fun t => { t with gpioLast := cset (fun _ => none) t.gpioLast g (some at_) })
        .next (((s.wrN (TB_GPIO_EDGE_FLAGS g) (if rising then 1 else 2)).wrTime (TB_GPIO_EDGE_TIME g) (s.now - edgeAgo ago)).publishC
          (TB_GPIO_EDGE_STATUS g))

/-! ### PPS_OUT (R252) -/

/-- PPS_OUT_START: the time base has reached a whole second plus OFFSET_NS, one greater than the last one pulsed. -/
def execPpsOutStart (s : State) : Host.Outcome State Fault Refusal :=
  let k := s.ppsSecond s.nowI
  if !s.flag TB_CTRL_PPS_OUT_EN || !s.outCommit || s.tb.ppsIdle.isNone || decide (k ≤ s.tb.ppsSec) ||
      decide (k ≤ s.tb.ppsSkip) || s.tb.ppsActive then .next s
  else .next (s.modTb (fun t => { t with
    ppsActive := true, ppsSec := k, ppsEnd := s.elapsed + nsT (1000 * min 900000 (getBits (s.rdN TB_PPS_OUT) 0 20)) }))

/-- PPS_OUT_END: WIDTH_US has passed. -/
def execPpsOutEnd (s : State) : Host.Outcome State Fault Refusal :=
  if !s.tb.ppsActive || decide (s.elapsed < s.tb.ppsEnd) then .next s
  else .next (s.modTb (fun t => { t with ppsActive := false }))

/-! ### Cycle timers (R254) -/

/-- A pulse of `w` (2^-16 ns) of an owner starts on pin `g`, if the pin drives. -/
def State.pulsePin (s : State) (g : Nat) (w : Int) (owner index : Nat) : State :=
  s.iff (s.pinDrives g) (fun s => (s.setPulseEnd g (some ⟨s.elapsed + w, owner, index⟩)).pinActive g true)

/-- CYCLE_TIMER_PULSE: the time base reaches START + k × PERIOD of an enabled timer. -/
def execCycleTimerPulse (i : Fin 16) (s : State) : Host.Outcome State Fault Refusal :=
  let k := cget (fun _ => 0) s.tb.cycNext i
  let at_ := (s.rdTime (TB_CYC_START i) : Int) / 65536 + k * s.rdN (TB_CYC_PERIOD i)
  if s.held || !s.flag (TB_CYC_CFG_EN i) || decide (s.nowI / 65536 < at_) then .next s
  else
    let s := s.modTb (fun t => { t with cycNext := cset (fun _ => 0) t.cycNext i (k + 1) })
    let s := s.iff (s.flag (TB_CYC_CFG_OUT_EN i)) (fun s => s.pulsePin (s.get (TB_CYC_CFG_OUT_PIN i)) (nsT (s.rdN (TB_CYC_WIDTH i))) 2 i)
    .next (s.produce (72 + i) 0)

/-- CYCLE_TIMER_PULSE_END: WIDTH ns have passed; a pulse in progress runs its full width. -/
def execCycleTimerPulseEnd (i : Fin 16) (s : State) : Host.Outcome State Fault Refusal := .next (s.endPulses 2 i)

/-! ### Droop (R62 to R67) -/


/-- (HOLD + 1) µs in ticks. -/
def State.droopHold (s : State) : Nat := (s.get GLOBAL_DROOP_CTRL_HOLD + 1) * 1000

/-- Entry into the halved state: counted, flagged, logged for the first event of a millisecond (R64), and producer 109. -/
def State.halve (s : State) : State :=
  let ms := s.tb.ticks / 1000000
  let prev := match s.droop.ms with
    | some m => if m + 1 = ms then s.droop.msEvents else 0 | none => 0
  let same := s.droop.ms == some ms
  let s := (s.putB GLOBAL_DROOP_STATUS_HALVED true).wr64 GLOBAL_DROOP_COUNT (s.rd64 GLOBAL_DROOP_COUNT + 1)
  let s := s.iff (!same) (fun s => s.logC 0x9101 noUnit prev)
  let s := s.modDroop (fun d => { d with
    minEnd := s.tb.ticks + s.droopHold, ms := some ms, msEvents := if same then d.msEvents + 1 else 1 })
  (s.raise 11 GLOBAL_EVENTS_DROOP).produce 109 0

/-- DROOP_DETECT (R63): VDD_CORE has been below the threshold for 0.5 ns. A sag within a halving is no new event. -/
def execDroopDetect (s : State) : Host.Outcome State Fault Refusal :=
  if s.held || !s.flag GLOBAL_DROOP_CTRL_ENABLE || s.flag GLOBAL_DROOP_STATUS_HALVED then .next s
  else .next ((s.iff (!s.flag GLOBAL_DROOP_CTRL_FORCE) (fun s => s.putB GLOBAL_DROOP_STATUS_FORCED false)).halve)

/-- DROOP_RESTORE (R63): the voltage has been back for 100 ns; the clocks are restored once the hold time is over too. -/
def execDroopRestore (s : State) : Host.Outcome State Fault Refusal :=
  if !s.flag GLOBAL_DROOP_STATUS_HALVED || decide (s.tb.ticks < s.droop.minEnd) then .next s
  else .next ((s.putB GLOBAL_DROOP_STATUS_HALVED false).putB GLOBAL_DROOP_CTRL_FORCE false)

/-- FORCE starts one halving of (HOLD + 1) µs, or extends the one in progress to at least that from now (R67). -/
def State.forceHalve (s : State) : State :=
  let s := (s.putB GLOBAL_DROOP_CTRL_FORCE true).putB GLOBAL_DROOP_STATUS_FORCED true
  if s.flag GLOBAL_DROOP_STATUS_HALVED then
    s.modDroop (fun d => { d with minEnd := max d.minEnd (s.tb.ticks + s.droopHold) }) else s.halve

/-- FORCE (R67). -/
def execForce (s : State) : Host.Outcome State Fault Refusal := if s.held then .next s else .next s.forceHalve

/-- DROOP_BUDGET_EXCEEDED (R65): the halved time of the window exceeds H. Once a window. -/
def execDroopBudgetExceeded (s : State) : Host.Outcome State Fault Refusal :=
  if !s.droop.winOn || s.droop.winOver || decide (s.droop.winHalved ≤ s.get GLOBAL_DROOP_BUDGET_BUDGET) then .next s
  else .next (((((s.modDroop (fun d => { d with winOver := true })).putB GLOBAL_DROOP_STATUS_DROOP_OVER true).putB
    GLOBAL_DROOP_STATUS_OVER_SEEN true).bump GLOBAL_DROOP_OVER_COUNT).raise 11 GLOBAL_EVENTS_DROOP_OVER
    |>.logC 0x9102 noUnit 0)

/-- W in ticks: GLOBAL_DROOP_WINDOW µs, clamped to 10 to 10,000. -/
def State.droopW (s : State) : Nat := 1000 * min 10000 (max 10 (s.get GLOBAL_DROOP_WINDOW_WINDOW))

/-- DROOP_WINDOW_END (R65): a window of length W ends and the next begins; DROOP_OVER is cleared if the window stayed
within H. -/
def execDroopWindowEnd (s : State) : Host.Outcome State Fault Refusal :=
  if !s.droop.winOn || decide (s.tb.ticks < s.droop.winFrom + s.droopW) then .next s
  else
    let ok := !s.droop.winOver && decide (s.droop.winHalved ≤ s.get GLOBAL_DROOP_BUDGET_BUDGET)
    .next ((s.iff (ok && s.flag GLOBAL_DROOP_STATUS_DROOP_OVER) (fun s => (s.putB GLOBAL_DROOP_STATUS_DROOP_OVER false).modDroop
      (fun d => { d with lastOver := some s.tb.ticks }))).modDroop
      (fun d => { d with winHalved := 0, winOver := false, winFrom := d.winFrom + s.droopW }))

end Sys2Proof.Machine
end

