-- ==== Sys2Proof/Machine/Ledger.lean ====
section
/-!
DEFINITION. The Ledger and the tiles it carries (R24 to R28, R370, R381), the memories tiles lie in, and how a lane's tile
and line end (R152, R153, R181).
-/

namespace Sys2Proof.Machine

open Reg

/-! ### Bay store and DDR4 -/

/-- `n` bytes of bay `b`'s store from offset `a` on (R314). -/
def State.bayRd (s : State) (b a n : Nat) : List Byte := cgetN (fun _ => 0) s.bay (b * 2097152 + a) n
/-- Bytes stored in bay `b` from offset `a` on. -/
def State.bayWr (s : State) (b a : Nat) (l : List Byte) : State :=
  { s with bay := csetN (fun _ => 0) s.bay (b * 2097152 + a) l }
/-- `n` bytes of DDR4 from address `a` on. -/
def State.ddrRd (s : State) (a n : Nat) : List Byte := cgetN (fun _ => 0) s.ddr a n
/-- Bytes stored in DDR4 from address `a` on; a retired channel discards them (R358). -/
def State.ddrWr (s : State) (a : Nat) (l : List Byte) : State :=
  if s.get (DDR_STATUS_STATE (a / 2 ^ 36 % 8)) = 3 then s else { s with ddr := csetN (fun _ => 0) s.ddr a l }

/-- A write of the given bytes from address `a` on: codewords that it covers only in part are read and merged, and dropped
where that read cannot be corrected (`bad` judges a codeword by its number; R355). -/
def State.ddrMerge (s : State) (a : Nat) (data : List (Option Byte)) (bad : Nat → Bool) : State :=
  let n := ceilDiv (a % 16 + data.length) 16
  (List.range n).foldl (fun s i =>
    let lo := a / 16 * 16 + 16 * i
    let bytes := (List.range 16).map (fun j => if a ≤ lo + j then (data.getD (lo + j - a) none) else none)
    let whole := bytes.all (fun (b : Option Byte) => b.isSome)
    if !whole && bad (lo / 16) then
      let k := lo / 2 ^ 36 % 8
      (s.bump (DDR_CNT_RMW_DROP k)).logC 0x4012 k 0
    else (List.range 16).foldl (fun s j => match bytes.getD j none with
      | some b => s.ddrWr (lo + j) [b]
      | none => s) s) s

def State.setDdrOut (s : State) (l : List DdrWrite) : State := { s with ddrOut := l }
/-- The writes whose requester no longer waits for its channel are carried out, oldest first (R16). -/
def State.ddrLand (s : State) : State :=
  let may := fun (w : DdrWrite) => !s.arbWaits (chanAt w.addr) w.req
  (s.ddrOut.filter may).foldl (fun s w => s.ddrMerge w.addr w.data (fun u => w.bad.any (fun i => u == w.addr / 16 + i)))
    (s.setDdrOut (s.ddrOut.filter (fun w => !may w)))
/-- A requester asks for its channel with a write (R16); where that is granted at once, the write is carried out. -/
def State.ddrPost (s : State) (w : DdrWrite) : State :=
  ((s.setDdrOut (s.ddrOut ++ [w])).arbAsk (chanAt w.addr) w.req).ddrLand

/-! ### Lanes, bonds and formats -/

def State.lphy (s : State) (l : Nat) : LanePhy := cget (fun _ => LanePhy.reset) s.phy l
def State.modPhy (s : State) (l : Nat) (f : LanePhy → LanePhy) : State :=
  { s with phy := cset (fun _ => LanePhy.reset) s.phy l (f (s.lphy l)) }
def State.lten (s : State) (l : Nat) : LaneTenon := cget (fun _ => LaneTenon.reset) s.tenon l
def State.modTen (s : State) (l : Nat) (f : LaneTenon → LaneTenon) : State :=
  { s with tenon := cset (fun _ => LaneTenon.reset) s.tenon l (f (s.lten l)) }

/-- The fill of an ingress queue as it stands is judged against its threshold (R269 to R271); `was` is the fill before. -/
def State.judgeFill (s : State) (l was : Nat) : State :=
  let f := s.get (BAY_COND_STATUS_FILL l)
  let th := s.get (BAY_Q_CFG_THRESH l)
  let s := s.iff (decide (s.get (BAY_COND_STATUS_PEAK l) < f)) (fun s => s.put (BAY_COND_STATUS_PEAK l) f)
  if s.flag (BAY_COND_STATUS_ABOVE l) then
    s.iff (decide (f + s.get (BAY_Q_CFG_HYST l) ≤ th)) (fun s => s.putB (BAY_COND_STATUS_ABOVE l) false)
  else if 0 < th ∧ was < th ∧ th ≤ f then
    let s := (s.putB (BAY_COND_STATUS_ABOVE l) true).raise 2 ((BAY_COND_EVENTS_Q_HIGH (l / 4)).sub (l % 4))
    (List.range 4).foldl (fun s j => s.iff (s.flag (EVT_QUEUE_SEL_EN j) && s.get (EVT_QUEUE_SEL_LANE j) == l)
      (fun s => s.produce (105 + j) 0)) s
  else s

/-- The queue of lane `l` holds `n` data blocks from now on (R269). -/
def State.queueTo (s : State) (l n : Nat) : State :=
  let was := s.get (BAY_COND_STATUS_FILL l)
  (((s.modTen l (fun x => { x with queue := n })).put (BAY_COND_STATUS_FILL l) (ceilDiv n 32))).judgeFill l was

/-- Data blocks enter the queue. -/
def State.queuePut (s : State) (l n : Nat) : State := s.iff (n != 0) (fun s => s.queueTo l ((s.lten l).queue + n))
/-- Data blocks leave the queue without the pipe's taking them. -/
def State.queueDrop (s : State) (l n : Nat) : State := s.iff (n != 0) (fun s => s.queueTo l ((s.lten l).queue - n))

/-- The state code of a lane (R108). -/
def State.laneState (s : State) (l : Nat) : Nat := s.get (LANE_STATUS_STATE l)
/-- PERSONALITY as it stands; 4 to 7 act as 0. -/
def State.persReg (s : State) (l : Nat) : Nat := if 3 < s.get (LANE_CTRL_PERSONALITY l) then 0 else s.get (LANE_CTRL_PERSONALITY l)
/-- The personality in force: that of the session, or, in OFF, RESET and TEST, as it stands (R112). -/
def State.lanePers (s : State) (l : Nat) : Nat :=
  if s.laneState l ≤ 1 ∨ s.laneState l = 10 then s.persReg l else (s.lphy l).pers
/-- Whether a lane is in ACTIVE, IDLE or WAKE (R159). -/
def State.laneUp (s : State) (l : Nat) : Bool := decide (6 ≤ s.laneState l) && decide (s.laneState l ≤ 8)
/-- The bond width W of a lane (R141); 3 acts as 0. -/
def State.bondW (s : State) (l : Nat) : Nat := match s.getT l (TENON_CFG_BOND l) with | 1 => 2 | 2 => 4 | _ => 1
/-- The position-0 lane of the bond of lane `l`. -/
def State.boss (s : State) (l : Nat) : Nat := l / s.bondW l * s.bondW l
/-- The members of the bond of lane `l`. -/
def State.members (s : State) (l : Nat) : List Nat := (List.range (s.bondW l)).map (fun i => s.boss l + i)
/-- A field of TENON_STATUS set on every member of the bond of position-0 lane `c`, since that register is live on each
(R168). -/
def State.putBond (s : State) (c : Nat) (f : Nat → Fld) (n : Nat) : State :=
  (s.members c).foldl (fun s m => s.put (f m) n) s

/-- Whether the lane or bond of lane `l` receives and sends mission blocks (R143, R159). -/
def State.tenUp (s : State) (l : Nat) : Bool :=
  s.laneUp l && s.lanePers l == 1 && s.flag (TENON_STATUS_BOND_UP (s.boss l))

/-! ### Credit (R144, R145) -/

/-- A control block sent on lane `l`. -/
def State.sendCtl (s : State) (l type : Nat) (content : List Byte) : State := s.emit (.block l true (ctlBlock type content))

/-- A CREDIT block: LIMIT = floor(G / 32) modulo 65,536 (R145). -/
def State.sendCredit (s : State) (l : Nat) : State :=
  let lim := (s.lten l).granted / 32 % 65536
  ((s.modTen l (fun x => { x with limitSent := lim })).putBond l TENON_STATUS_LIMIT lim).sendCtl l 0x40
    (toBytes 1 0 ++ toBytes 2 lim)

/-- Q of a lane or bond in credit units (R144). -/
def State.creditQ (s : State) (l : Nat) : Nat := 256 * s.bondW l

/-- `n` blocks that consumed credit are freed: G rises, and CREDIT leaves once LIMIT has risen by 4 units since the last
one (R145). -/
def State.freeBlocks (s : State) (l n : Nat) : State :=
  let s := s.modTen l (fun x => { x with granted := x.granted + n })
  s.iff (s.tenUp l && decide (4 ≤ ((s.lten l).granted / 32 % 65536 + 65536 - (s.lten l).limitSent) % 65536)) (fun s => s.sendCredit l)

/-- `n` data blocks are discarded, counted and freed (R132, R145, R168). -/
def State.dropBlocks (s : State) (l n : Nat) : State := (s.bumpBy (TENON_CNT_DISCARD l) n).freeBlocks l n

/-- The pipe takes data blocks from the queue of a Tenon lane, which frees them (R145). -/
def State.queueTake (s : State) (l n : Nat) : State :=
  let k := min n (s.lten l).queue
  (s.queueDrop l k).freeBlocks l k

/-- The format code of a Tenon lane; 6 and 7 act as 0 (R148). -/
def State.laneFmt (s : State) (l : Nat) : Nat :=
  let f := if s.lanePers l ≤ 1 then s.getT l (TENON_CFG_FORMAT l) else s.getE l (ETH_CFG_FORMAT l)
  if 5 < f then 0 else f
/-- LINE_PIXELS of a lane. -/
def State.linePixels (s : State) (l : Nat) : Nat :=
  if s.lanePers l ≤ 1 then s.getT l (TENON_CFG_LINE_PIXELS l) else s.getE l (ETH_CFG_LINE_PIXELS l)
/-- FILL of a lane. -/
def State.laneFill (s : State) (l : Nat) : Nat :=
  if s.lanePers l ≤ 1 then s.getT l (TENON_FILL_FILL l) else s.getE l (ETH_SIZES_FILL l)

/-- Packed bytes of `n` pixels of a format (R148). -/
def packedBytes (fmt n : Nat) : Nat := match fmt with
  | 1 => ceilDiv (n * 5) 4 | 2 => ceilDiv (n * 3) 2 | 3 => 2 * n | 4 => 3 * n | 5 => 3 * n | _ => n
/-- The largest PIXELS of a tile of a format (R148). -/
def maxPixels (fmt : Nat) : Nat := match fmt with
  | 1 => 13104 | 2 => 10922 | 3 => 8192 | 4 => 5461 | 5 => 5461 | _ => 16384
/-- The multiple that PIXELS of a tile other than the last obeys (R148). -/
def pixelStep (fmt : Nat) : Nat := match fmt with | 1 => 4 | 2 => 2 | _ => 1
/-- Bits of a component of a format (R276). -/
def depth (fmt : Nat) : Nat := match fmt with | 1 => 10 | 2 => 12 | 3 => 16 | _ => 8
/-- Components of a pixel. -/
def comps (fmt : Nat) : Nat := if fmt = 4 ∨ fmt = 5 then 3 else 1

/-! ### STATUS bits of a tag (R379) -/

/-- STATUS with bit `i` set. -/
def stSet (st i : Nat) : Nat := if bit st i then st else st + 2 ^ i
def stPartial : Nat := 1
def stMemCorr : Nat := 2
def stPredicted : Nat := 3
def stWarm : Nat := 4
def stPosStep : Nat := 5
def stLateTrig : Nat := 6
def stRecalled : Nat := 7
def stStraggler : Nat := 8
def stEngFault : Nat := 9
def stLateDroop : Nat := 10
def stLateHost : Nat := 11

/-- The tag fields that a trigger fixes at the acceptance of its first tile (R28, R207): `tc` is the final
exposure-centre time, measured or predicted. A trigger whose exposure centre has not been copied yet takes the state in
force now. -/
def State.tagOf (s : State) (t : Trigger) (tc : Int) (predicted : Bool) : TagInfo :=
  let o := match t.copied with | some o => o | none => s.inForce (s.trChan t.seq)
  let st := s.get TB_QUALITY_CLASS * 4096 + 64 * b2n t.late + 32 * b2n t.posStep + 16 * b2n o.warm + 8 * b2n predicted
  { line := t.line, trigId := t.id, pos := sext 64 (trunc 64 (o.fineAt tc)), tc := tc, status := st, fmt := 0,
    stepSeq := o.stepSeq, grid := t.target }

/-! ### Entries -/

/-- The entry with a number. -/
def State.tile (s : State) (n : Nat) : Option Tile := s.ledger.tiles.find? (fun t => t.num == n)
def State.modTile (s : State) (n : Nat) (f : Tile → Tile) : State :=
  s.modLedger (fun g => { g with tiles := g.tiles.map (fun (t : Tile) => if t.num == n then f t else t) })

/-- Whether an entry is in use: neither COMPLETE nor ABORTED. -/
def Tile.inUse (t : Tile) : Bool := decide (t.state < 4)

/-- Entries in use. -/
def State.ledgerUse (s : State) : Nat := (s.ledger.tiles.filter Tile.inUse).length
/-- Entries reserved (R381). -/
def State.ledgerRes (s : State) : Nat := s.get DLV_LEDGER_RES_N
/-- Entries of the reservation of stream `st` in use. -/
def State.resUsed (s : State) (st : Nat) : Nat := (s.ledger.tiles.filter (fun t => t.inUse && t.pool == some st)).length
/-- Entries of the free pool in use. -/
def State.poolUsed (s : State) : Nat := (s.ledger.tiles.filter (fun t => t.inUse && t.pool == none)).length

/-- The streams on whose path a tile of lane `l` lies: the lane's own, the bents that hold a segment of it, and the
engines with an input that takes it (R381). -/
def State.laneStreams (s : State) (l : Nat) : List Nat :=
  (List.range 256).filter (fun st => s.flag (DLV_STATUS_ADMITTED st) && (match s.get (DLV_CFG_KIND st) with
    | 0 => s.get (DLV_CFG_SOURCE st) == l
    | 1 => let u := s.get (DLV_CFG_SOURCE st) % 16
           (List.range (s.get (STITCH_CTRL_SEGMENTS u))).any (fun g => s.get (STITCH_SEG_W0_LANE u g) == l)
    | 2 | 3 => let e := s.get (DLV_CFG_SOURCE st) % 192
               e / 8 == l / 4 && (List.range 8).any (fun i => s.get (ENG_IN_CFG_KIND e i) == 1 && s.get (ENG_IN_CFG_LANE e i) == l % 4)
    | _ => false))

/-- The pool that the next entry for streams `sts` comes from (R381): the reservation of the first promised one, or the
free pool; none when there is no entry. -/
def State.entryFor (s : State) (sts : List Nat) : Option (Option Nat) :=
  let free := if s.poolUsed < 131072 - s.ledgerRes then some none else none
  match sts.find? (fun st => s.flag (DLV_STATUS_PROMISED st)) with
  | some st => if s.resUsed st < s.get (DLV_RESERVED_N st) then some (some st) else free
  | none => free

def State.en (s : State) (e : Nat) : Engine := cget (fun _ => Engine.reset) s.eng e
def State.modEng (s : State) (e : Nat) (f : Engine → Engine) : State :=
  { s with eng := cset (fun _ => Engine.reset) s.eng e (f (s.en e)) }

/-- An entry moves to a later state (R25); the exit, and the entry into COMPLETE or ABORTED, are kept for
DLV_LEDGER_STATE. It never returns to an earlier one. An engine's slot returns to its pool when its output is POSTED (R331). -/
def State.tileTo (s : State) (n st : Nat) : State :=
  match s.tile n with
  | none => s
  | some t =>
    if st ≤ t.state ∨ 4 ≤ t.state then s
    else
      let s := s.iff (t.src == 2 && decide (3 ≤ st)) (fun s => s.modEng t.lane (fun x => { x with slots := x.slots.erase t.off }))
      (s.modTile n (fun t => { t with state := st })).modLedger (fun g => { g with
        left := (if 4 ≤ st then [(s.tb.ticks, st)] else []) ++ (s.tb.ticks, t.state) :: g.left.filter (fun e =>
          decide (s.tb.ticks < e.1 + 1000000)) })

def State.cln (s : State) (l : Nat) : CondLane := cget (fun _ => CondLane.reset) s.cond l
def State.modCln (s : State) (l : Nat) (f : CondLane → CondLane) : State :=
  { s with cond := cset (fun _ => CondLane.reset) s.cond l (f (s.cln l)) }

/-- The defect list at `base` of bay `b` (R279): its kept entries (X, METHOD), how many were out of order, and whether an
end marker was found; at most 2,048 entries. -/
def State.defects (s : State) (b base : Nat) : Nat → Nat → Option Nat → List (Nat × Nat) × Nat × Bool
  | 0, _, _ => ([], 0, false)
  | fuel + 1, i, last =>
    let e := ofBytes (s.bayRd b (base + 4 * i) 4)
    if e = 0xFFFFFFFF then ([], 0, true)
    else if i = 2048 then ([], 0, false)
    else
      let x := e % 2 ^ 16
      let later := match last with | none => true | some y => decide (y < x)
      let r := s.defects b base fuel (i + 1) (if later then some x else last)
      if later then ((x, getBits e 16 2) :: r.1, r.2) else (r.1, r.2.1 + 1, r.2.2)

/-- The defect list base of a lane's set. -/
def State.defBase (s : State) (l set_ : Nat) : Nat := s.get (if set_ = 0 then BAY_DEF_BASE0_BASE l else BAY_DEF_BASE1_BASE l) * 64

/-- A line begins on lane `l` (R283, R293): a waiting SWAP is carried out. -/
def State.swapSet (s : State) (l : Nat) : State :=
  if !s.flag (BAY_COND_CMD_SWAP l) then s
  else
    let n := 1 - s.get (BAY_COND_STATUS_ACTIVE_SET l)
    let s := (((s.put (BAY_COND_STATUS_ACTIVE_SET l) n).putB (BAY_COND_STATUS_SWAP_WAIT l) false).putB (BAY_COND_CMD_SWAP l)
      false).bump (BAY_CNT_SWAP l)
    let s := (s.raise 2 ((BAY_COND_EVENTS_SWAPPED (l / 4)).sub (l % 4))).logC 0x7120 l n
    s.iff (!(s.defects (l / 4) (s.defBase l n) 2049 0 none).2.2) (fun s => s.logC 0x7102 l 0)

/-- RS_MODE of a line's settings; 3 acts as 0 (R284). -/
def CondSet.rsMode (c : CondSet) : Nat := getBits c.ctrl 8 2 % 3
/-- OUT_MODE of a line's settings; 3 acts as 0 (R275). -/
def CondSet.outMode (c : CondSet) : Nat := getBits c.ctrl 4 2 % 3

/-- The settings that a line of lane `l` takes (R283, R293). -/
def State.condNow (s : State) (l : Nat) : CondSet :=
  let k := BAY_RS_KERNEL (l / 4) 0
  { ctrl := s.rdN (BAY_COND_CTRL l), post := s.rdN (BAY_COND_POST l), set_ := s.get (BAY_COND_STATUS_ACTIVE_SET l),
    fmt := s.laneFmt l, linePx := s.linePixels l, fill := s.laneFill l,
    kernel := if s.get (BAY_COND_CTRL_RS_MODE l) % 3 = 0 then []
      else s.regs.filter (fun (e : Nat × Word) => decide (k ≤ e.1) && decide (e.1 < k + 512)) }

/-- Whether an item belongs to the line with a number and trigger. -/
def CondLine.isFor (x : CondLine) (line : Int) (trigId : Nat) : Bool := x.line == line && x.trigId == trigId

/-- Whether tiles of a line are still to come at lane `l`, or still in its pipe: the lane assembles it, an open block serves
it, tiles of it wait for entries, or an entry of it is not CONDITIONED. -/
def State.lineOpen (s : State) (l : Nat) (x : CondLine) : Bool :=
  (match (s.lten l).asm_ with | some a => a.trigId == x.trigId | none => false) ||
    (cget (fun _ => EthLane.reset) s.eth l).blocks.any (fun (b : EthBlock) => b.trigId == x.trigId) ||
    (s.lten l).fills.any (fun (f : FillWait) => x.isFor f.tag.line f.tag.trigId) ||
    s.ledger.tiles.any (fun (t : Tile) => t.lane == l && decide (t.src ≤ 1) && t.state == 0 && x.isFor t.tag.line t.tag.trigId)

/-- A tile of a line is accepted at lane `l`: the first one begins the line. Its settings are those of its line, which stay
until the line has ended (R283, R293). -/
def State.condFor (s : State) (l : Nat) (line : Int) (trigId : Nat) : State × CondSet :=
  match (s.cln l).lines.find? (fun (x : CondLine) => x.isFor line trigId) with
  | some x => (s, x.conf)
  | none =>
    let s := s.swapSet l
    let c := s.condNow l
    (s.modCln l (fun x => { x with lines := ⟨line, trigId, c, [], 2049⟩ :: x.lines.filter (fun (y : CondLine) => s.lineOpen l y) }), c)

/-- A new entry, ACCEPTED now; its number is the next one. A camera or FILL tile takes the settings of its line. -/
def State.newTile (s : State) (t : Tile) : State :=
  let r := if t.src ≤ 1 then s.condFor t.lane t.tag.line t.tag.trigId else (s, t.cond)
  let s := r.1
  let s := s.modLedger (fun g => { g with
    tiles := g.tiles ++ [{ t with num := g.next, state := 0, acc := s.tb.ticks, cond := r.2 }], next := g.next + 1 })
  s.iff (decide (s.rdN DLV_LEDGER_PEAK < s.ledgerUse)) (fun s => s.wrN DLV_LEDGER_PEAK s.ledgerUse)

/-- Holder codes: a stream's delivery is its number; an engine, a scarf unit, a kerf buffer that has the line still to
write, the recall ring, a kerf buffer that holds the line, and a gang that has the tile still to deal follow. -/
def hEng (e : Nat) : Nat := 1000 + e
def hScarf (u : Nat) : Nat := 2000 + u
def hKerf : Nat := 3000
def hRecall : Nat := 3001
def hHeld : Nat := 3002
def hDeal : Nat := 3003

/-- Whether a tile still takes space in its ring (R274, R307): someone other than a kerf buffer that has written it, or a
scarf unit it comes to from there, holds it. -/
def Tile.inRing (t : Tile) : Bool := decide (0 < t.stored) &&
  t.holders.any (fun h => h != hHeld && !(t.kerf.isSome && decide (2000 ≤ h) && decide (h < 2016)))

/-- Whether a holder delivers, or will deliver, the tile's data (R370). -/
def delivers (h : Nat) : Bool := decide (h < 256) || (decide (2000 ≤ h) && decide (h < 2016)) || h == hKerf || h == hHeld


/-- An entry leaves the list. -/
def State.dropTile (s : State) (n : Nat) : State :=
  s.modLedger (fun g => { g with tiles := g.tiles.filter (fun (t : Tile) => t.num != n) })

/-- Holder `h` releases entry `n`. When the last delivery, or else the last consumer, has released it, the entry is
COMPLETE; when the last holder has, its ring space is free (R274, R370). -/
def State.release (s : State) (n h : Nat) : State :=
  match s.tile n with
  | none => s
  | some t =>
    let r := t.holders.erase h
    let s := s.modTile n (fun t => { t with holders := r })
    let s := s.iff ((decide (h < 256) && !r.any delivers) || r.isEmpty) (fun s => s.tileTo n 4)
    s.iff r.isEmpty (fun s => s.dropTile n)

/-- An entry goes to ABORTED (R25), unless it is COMPLETE or ABORTED already; it is counted (R491). -/
def State.tileAborted (s : State) (n : Nat) : State :=
  match s.tile n with
  | none => s
  | some t => if 4 ≤ t.state then s else (s.tileTo n 5).bump GLOBAL_CNT_ABORTED

/-- An entry goes to ABORTED, and whatever held its data holds it no more. -/
def State.abortTile (s : State) (n : Nat) : State :=
  match s.tile n with
  | none => s
  | some t => if 4 ≤ t.state then s else (s.tileAborted n).dropTile n

/-! ### How a line ends -/

/-- The segment of a unit that a lane supplies (R296). -/
def State.segOf (s : State) (u l : Nat) : Option Nat :=
  (List.range (s.get (STITCH_CTRL_SEGMENTS u))).find? (fun k => s.get (STITCH_SEG_W0_LANE u k) == l)

/-- The scarf units that a lane serves: those whose definition names it as a segment (R296), with EN set or not (R305). -/
def State.scarfUnits (s : State) (l : Nat) : List Nat := (List.range 16).filter (fun u => (s.segOf u l).isSome)

/-- The consumers that the configuration attaches to a tile of lane `l`: the camera streams that deliver it, the scarf
units that stitch it, its kerf buffer, the recall ring, and the gang that deals it to an engine. -/
def State.tileHolders (s : State) (l : Nat) : List Nat :=
  let sts := (s.laneStreams l).filter (fun st => s.get (DLV_CFG_KIND st) == 0)
  let delayed := decide (0 < s.get (KERF_CFG_DELAY_LINES l))
  let us := s.scarfUnits l
  let rec_ := s.laneStreams l |>.any (fun st => s.get (DLV_CFG_KIND st) == 0 && s.flag (DLV_CFG_RECALL st))
  let gang := decide (0 < s.get (BAY_ENG_GANG_ENGINES (l / 4) (l % 4)))
  sts ++ (if delayed then [hKerf] else us.map hScarf) ++ (if rec_ then [hRecall] else []) ++ (if gang then [hDeal] else [])

/-- A tile is delivered with PARTIAL: its tag says so, and the lane counts it (R152, R168). -/
def State.markPartial (s : State) (l n : Nat) : State :=
  let s := s.modTile n (fun t => { t with tag := { t.tag with status := stSet t.tag.status stPartial } })
  if s.lanePers l ≤ 1 then (s.bump (TENON_CNT_PARTIAL l)).raise 1 (TENON_EVENTS_PARTIAL_TILE l) else s

/-- A FILL tile, or a complete tile that waited, takes its entry (R24, R153). -/
def State.addFill (s : State) (l : Nat) (pool : Option Nat) (f : FillWait) : State :=
  let n := s.ledger.next
  let s := s.newTile { Tile.blank with
    src := b2n f.raw.isEmpty, lane := l, pool := pool, index := f.index, xOff := f.xOff,
    count := f.index + 1 + ceilDiv (s.linePixels l - (f.xOff + f.pixels)) (maxPixels (s.laneFmt l)),
    pixels := f.pixels, tag := f.tag, raw := f.raw, bytes := packedBytes (s.laneFmt l) f.pixels, ended := true,
    holes := f.holes, holders := s.tileHolders l }
  s.iff f.part (fun s => s.markPartial l n)

/-- FILL tiles take entries in order while there are any; the rest wait (R24, R153). -/
def State.addFills (s : State) (l : Nat) : List FillWait → State
  | [] => s
  | f :: t => match s.entryFor (s.laneStreams l) with
    | some p => (s.addFill l p f).addFills l t
    | none => (s.bump DLV_CNT_NOENTRY).modTen l (fun x => { x with fills := f :: t })

/-- Complete tiles join those that wait, or take their entries at once. -/
def State.queueFills (s : State) (l : Nat) (fs : List FillWait) : State :=
  if (s.lten l).fills.isEmpty then s.addFills l fs else s.modTen l (fun x => { x with fills := x.fills ++ fs })

/-- The fewest FILL tiles that hold `n` pixels from pixel `x` on, with indices from `i` on (R153). -/
def fillTiles (fmt : Nat) (tag : TagInfo) : Nat → Nat → Nat → Nat → List FillWait
  | 0, _, _, _ => []
  | fuel + 1, i, x, n => if n = 0 then [] else
      let k := min n (maxPixels fmt)
      ⟨i, x, k, tag, [], [], true⟩ :: fillTiles fmt tag fuel (i + 1) (x + k) (n - k)

/-- The line that lane `l` assembles closes: its trigger is retired, and an early close fills the pixels that no accepted
tile covers, all of them where none was accepted. The line's tiles then count the tiles actually delivered (R150, R153). -/
def State.closeLine (s : State) (l : Nat) : State :=
  match (s.lten l).asm_ with
  | none => s
  | some a =>
    let s := s.modTrigs (fun ts => ts.filter (fun (t : Trigger) => t.id != a.trigId))
    let s := s.modTen l (fun x => { x with asm_ := none })
    let fs := fillTiles (s.laneFmt l) a.tag 16 a.next a.xNext (s.linePixels l - a.xNext)
    let n := a.next + fs.length
    (a.tiles.foldl (fun s k => s.modTile k (fun t => { t with count := n })) s).queueFills l fs

/-- The tile that lane `l` receives ends (R152): with PARTIAL or not. The line closes after its last tile, or when
TRIG_AGE passed meanwhile (R153). -/
def State.endTile (s : State) (l : Nat) (part : Bool) : State :=
  match (s.lten l).cur with
  | none => s
  | some n =>
    let s := (s.modTile n (fun t => { t with ended := true })).iff part (fun s => s.markPartial l n)
    let s := (s.modTen l (fun x => { x with cur := none, payload := 0, excess := false, badInTile := false })).putBond l
      TENON_STATUS_TILE_OPEN 0
    match (s.lten l).asm_ with
    | none => s
    | some a => if a.count ≤ a.next ∨ a.aged then s.closeLine l else s

/-- Whether a received item is a data block that consumed credit, and whether it counts in the queue. -/
def RxItem.isData : RxItem → Bool
  | .data _ e h => e || h
  | _ => false
def RxItem.isHeld : RxItem → Bool
  | .data _ _ h => h
  | _ => false

/-- The header that lane `l` receives, or has received and not accepted, is given up: its blocks and what waits behind it
are discarded (R145, R149). -/
def State.dropHdr (s : State) (l : Nat) : State :=
  let x := s.lten l
  let n := (match x.hdr with | some h => h.length | none => 0) +
    (if x.wait.isSome then 8 + (x.items.filter RxItem.isData).length else 0)
  let k := x.hdrIn + (if x.wait.isSome then 8 + (x.items.filter RxItem.isHeld).length else 0)
  let s := s.modTen l (fun x => { x with hdr := none, hdrIn := 0, wait := none, items := [] })
  (s.queueDrop l k).dropBlocks l n

/-- A lane or bond leaves ACTIVE, other than into IDLE, or loses its locks (R104, R152, R153): the open tile ends with
0x1232; a tile whose header is being received, or waits for its Ledger entry, has not been accepted (R24) and is dropped;
and the line closes. -/
def State.cutTile (s : State) (l : Nat) : State :=
  let s := s.iff (s.lten l).cur.isSome (fun s => (s.logC 0x1232 l 0).endTile l true)
  let s := (s.dropHdr l).modTen l (fun x => { x with discard := 0, lastBad := 0, badInTile := false })
  (s.putBond l TENON_STATUS_TILE_OPEN 0).closeLine l

end Sys2Proof.Machine
end

