-- ==== Sys2Proof/Machine/EthCore.lean ====
section
/-!
DEFINITION. The Ethernet personality's shared operations: the block that a lane assembles and how it closes (R180, R181),
retiring triggers (R179), camera setup (R175), and what leaving ACTIVE does (R175, R181).
-/

namespace Sys2Proof.Machine

open Reg

def State.leth (s : State) (l : Nat) : EthLane := cget (fun _ => EthLane.reset) s.eth l
def State.modEth (s : State) (l : Nat) (f : EthLane → EthLane) : State :=
  { s with eth := cset (fun _ => EthLane.reset) s.eth l (f (s.leth l)) }

/-- One of the codes of R188: at most once per second per lane, with its count. -/
def State.ethLog (s : State) (l code : Nat) : State := s.logCount code l l

/-- S, the payload bytes of a packet (R180). -/
def State.ethS (s : State) (l : Nat) : Nat := max 1 (s.getE l (ETH_SIZES_PKT_SIZE l) - 48)
/-- The payload bytes of a line. -/
def State.ethBytes (s : State) (l : Nat) : Nat := packedBytes (s.laneFmt l) (s.linePixels l)
/-- The payload packets of a block. -/
def State.ethPkts (s : State) (l : Nat) : Nat := ceilDiv (s.ethBytes l) (s.ethS l)
/-- The tiles of a line (R180). -/
def State.ethTiles (s : State) (l : Nat) : Nat := ceilDiv (s.linePixels l) (maxPixels (s.laneFmt l))
/-- First byte and bytes of tile `i`. -/
def State.ethTileAt (s : State) (l i : Nat) : Nat := i * packedBytes (s.laneFmt l) (maxPixels (s.laneFmt l))
def State.ethTilePix (s : State) (l i : Nat) : Nat :=
  min (maxPixels (s.laneFmt l)) (s.linePixels l - i * maxPixels (s.laneFmt l))
def State.ethTileLen (s : State) (l i : Nat) : Nat := packedBytes (s.laneFmt l) (s.ethTilePix l i)

/-- A packet that has been received. -/
def EthBlock.packet (b : EthBlock) (p : Nat) : Option (List Byte) :=
  (b.pkts.find? (fun (q : Nat × List Byte) => q.1 == p)).map (fun q => q.2)
/-- The packets of a block that are missing, of `n`. -/
def EthBlock.missing (b : EthBlock) (n : Nat) : List Nat :=
  (List.range n).filterMap (fun i => if (b.packet (i + 1)).isNone then some (i + 1) else none)

/-- The bytes of a block from `a` to `a + n`, missing ones as zero, with the missing ranges relative to `a`; `k` packets
of `size` bytes. -/
def EthBlock.span (b : EthBlock) (size k a n : Nat) : List Byte × List (Nat × Nat) :=
  (List.range k).foldl (fun (acc : List Byte × List (Nat × Nat)) i =>
    let lo := max a (i * size)
    let hi := min (a + n) ((i + 1) * size)
    if hi ≤ lo then acc
    else
      let got := match b.packet (i + 1) with | some d => (d.drop (lo - i * size)).take (hi - lo) | none => []
      let rest := hi - lo - got.length
      (acc.1 ++ got ++ List.replicate rest 0, if rest = 0 then acc.2 else acc.2 ++ [(lo - a + got.length, rest)])) ([], [])

/-- An outstanding trigger of lane `l` is retired as unserved (R178, R179). -/
def State.ethUnserved (s : State) (l : Nat) (t : Trigger) : State :=
  ((((s.bump (ETH_CNT_UNSERVED l)).raise 1 (ETH_EVENTS_UNSERVED l)).ethLog l 0x1314).reportUnserved t)

/-- The outstanding triggers of an Ethernet lane, oldest first. -/
def State.ethOut (s : State) (l : Nat) : List Trigger :=
  s.trigs.filter (fun (t : Trigger) => t.path == 2 && t.out == l && t.sent && t.kind == 0)

/-- The open block of lane `l` with an ID. -/
def State.ethBlk (s : State) (l id : Nat) : Option EthBlock := (s.leth l).blocks.find? (fun (b : EthBlock) => b.id == id)
def State.modBlk (s : State) (l id : Nat) (f : EthBlock → EthBlock) : State :=
  s.modEth l (fun x => { x with blocks := x.blocks.map (fun (b : EthBlock) => if b.id == id then f b else b) })

/-- Whether any packet of a block that holds bytes of tile `i` has arrived. -/
def State.tileSeen (s : State) (l i : Nat) (b : EthBlock) : Bool :=
  (List.range (s.ethPkts l)).any (fun p => (b.packet (p + 1)).isSome && decide (p * s.ethS l < s.ethTileAt l i + s.ethTileLen l i)
    && decide (s.ethTileAt l i < (p + 1) * s.ethS l))

/-- The tiles of a block that have packets but no entry take theirs while there are any (R24, R180). -/
def State.ethEntries (s : State) (l id : Nat) : State :=
  match s.ethBlk l id with
  | none => s
  | some b => (List.range b.tiles.length).foldl (fun s i =>
      if (b.tiles.getD i none).isSome || !s.tileSeen l i b || !(s.lten l).fills.isEmpty then s
      else match s.entryFor (s.laneStreams l) with
        | none => s.bump DLV_CNT_NOENTRY
        | some pool =>
          let n := s.ledger.next
          let s := s.newTile { Tile.blank with
            lane := l, pool := pool, index := i, count := s.ethTiles l, xOff := i * maxPixels (s.laneFmt l), pixels := s.ethTilePix l i,
            tag := b.tag, bytes := s.ethTileLen l i, holders := s.tileHolders l }
          s.modBlk l id (fun b => { b with tiles := b.tiles.set i (some n) })) s

/-- Every tile of a block that has an entry holds the bytes received so far without a gap. -/
def State.ethRaws (s : State) (l id : Nat) : State :=
  match s.ethBlk l id with
  | none => s
  | some b => (List.range b.tiles.length).foldl (fun s i => match b.tiles.getD i none with
      | none => s
      | some n =>
        let d := b.span (s.ethS l) (s.ethPkts l) (s.ethTileAt l i) (s.ethTileLen l i)
        s.modTile n (fun t => { t with raw := match d.2.head? with | some h => d.1.take h.1 | none => d.1 })) s

/-- The fill of an Ethernet lane's queue (R269): the payload bytes received that the pipe has not taken, those of open
blocks whose tile it has not started on, those of complete tiles it has not started on, and those of tiles that wait for
an entry. -/
def State.ethQueued (s : State) (l : Nat) : Nat :=
  let going := fun (t : Tile) => t.started
  let inBlocks := ((s.leth l).blocks.map (fun (b : EthBlock) => ((List.range b.tiles.length).map (fun i =>
    let d := b.span (s.ethS l) (s.ethPkts l) (s.ethTileAt l i) (s.ethTileLen l i)
    let n := match b.tiles.getD i none with
      | some n => (match s.tile n with | some t => going t | none => false)
      | none => false
    if n then 0 else d.1.length - (d.2.map (fun (h : Nat × Nat) => h.2)).sum)).sum)).sum
  let whole := ((s.ledger.tiles.filter (fun (t : Tile) => t.lane == l && t.src == 0 && t.ended && !t.started)).map
    (fun (t : Tile) => t.raw.length - (t.holes.map (fun (h : Nat × Nat) => h.2)).sum)).sum
  let waits := ((s.lten l).fills.map (fun (f : FillWait) => f.raw.length - (f.holes.map (fun (h : Nat × Nat) => h.2)).sum)).sum
  inBlocks + whole + waits
def State.ethRefill (s : State) (l : Nat) : State := s.queueTo l (ceilDiv (s.ethQueued l) 8)

/-- The open block `id` of lane `l` closes, with PARTIAL and a log code or without (R181): each tile that has an entry
holds what was received, one that only waits for its entry takes it later, and the tiles without a packet become FILL
tiles. -/
def State.ethClose (s : State) (l id code : Nat) (part : Bool) : State :=
  match s.ethBlk l id with
  | none => s
  | some b =>
    let s := (s.modEth l (fun x => { x with blocks := x.blocks.filter (fun (b : EthBlock) => b.id != id) })).bump (ETH_CNT_BLOCKS l)
    let s := s.iff part (fun s =>
      let s := (s.bump (ETH_CNT_PARTIAL l)).raise 1 (ETH_EVENTS_PARTIAL_BLOCK l)
      if code = 0x1232 then s.logC code l 0 else s.ethLog l code)
    let s := s.modTrigs (fun ts => ts.filter (fun (t : Trigger) => t.id != b.trigId))
    ((List.range b.tiles.length).foldl (fun s i =>
      let d := b.span (s.ethS l) (s.ethPkts l) (s.ethTileAt l i) (s.ethTileLen l i)
      match b.tiles.getD i none with
      | some n => (s.modTile n (fun t => { t with raw := d.1, holes := d.2, ended := true })).iff part (fun s => s.markPartial l n)
      | none =>
        let seen := s.tileSeen l i b
        s.queueFills l [⟨i, i * maxPixels (s.laneFmt l), s.ethTilePix l i, b.tag, if seen then d.1 else [],
          if seen then d.2 else [], part || !seen⟩]) s).ethRefill l

/-- Host accesses of a lane that were sent or queued wait behind setup again (R176). -/
def EthLane.holdBack (x : EthLane) : EthLane :=
  { x with access := x.gvcp.filter (fun (c : GvcpCmd) => decide (10 ≤ c.why)) ++ x.access, gvcp := [], tries := 0, part := 0 }

/-- READY is cleared (R175). -/
def State.ethNotReady (s : State) (l : Nat) : State :=
  s.iff (s.flag (ETH_STATUS_READY l)) (fun s => (s.putB (ETH_STATUS_READY l) false).raise 1 (ETH_EVENTS_NOT_READY l))

/-- An Ethernet lane leaves ACTIVE (R175, R181). -/
def State.ethDown (s : State) (l : Nat) : State :=
  let s := ((s.leth l).blocks.foldl (fun s b => s.ethClose l b.id 0x1232 true) s).ethNotReady l
  let s := ((s.putB (ETH_STATUS_ARP_OK l) false).putB (ETH_STATUS_CTRL_HELD l) false).putB (ETH_STATUS_CAM_SYNCED l) false
  (s.kerfFlush l).modEth l (fun x => { x.holdBack with
    txq := [], setup := false, lastId := none, retryWait := false, retry := 0, arps := 0, script := 0, scriptWait := false,
    syncReg := none, ptp := false, dreq := false, dropId := none })

end Sys2Proof.Machine
end

