-- ==== Sys2Proof/Machine/Lane.lean ====
section
/-!
DEFINITION. The camera lane's physical layer and its training (R97 to R130): sessions, locks, detectors, equalisation,
the eye monitor, electrical idle and the test functions; and what a Tenon lane counts as a violation (R162 to R164),
since a violation can start a session.
-/

namespace Sys2Proof.Machine

open Reg

/-! ### Transmit coefficients (R115 to R117) -/

/-- The presets of R116: C_PRE, C_MAIN, C_POST. -/
def presetOf : Nat → Nat × Nat × Nat
  | 1 => (0, 57, 6) | 2 => (0, 51, 12) | 3 => (0, 45, 18) | 4 => (0, 42, 21) | 5 => (4, 59, 0) | 6 => (6, 57, 0)
  | 7 => (4, 47, 12) | 8 => (6, 45, 12) | 9 => (4, 43, 16) | 10 => (6, 44, 13) | _ => (0, 63, 0)

/-- Whether a coefficient set satisfies R115. -/
def firOk (pre main post : Int) : Bool :=
  decide (0 ≤ pre) && decide (pre ≤ 15) && decide (0 ≤ post) && decide (post ≤ 31) && decide (16 ≤ main) &&
    decide (main ≤ 63) && decide (pre + main + post ≤ 63) && decide (15 ≤ main - pre - post)

def State.setFir (s : State) (l preset pre main post : Nat) : State :=
  (((s.put (LANE_TXFIR_PRESET l) preset).put (LANE_TXFIR_C_PRE l) pre).put (LANE_TXFIR_C_MAIN l) main).put
    (LANE_TXFIR_C_POST l) post

/-- The coefficients at the start of a grade: TX_PRESET (11 to 14 act as 0), or the custom set, which P0 replaces when it
breaks R115 (R117). -/
def State.startFir (s : State) (l : Nat) : State :=
  let p := s.getT l (LANE_TRAIN_CFG_TX_PRESET l)
  let a := s.get (LANE_TX_CUSTOM_C_PRE l)
  let b := s.get (LANE_TX_CUSTOM_C_MAIN l)
  let c := s.get (LANE_TX_CUSTOM_C_POST l)
  if p = 15 then
    if firOk a b c then s.setFir l 15 a b c else (s.setFir l 0 0 63 0).logC 0x110A l 0
  else
    let q := if 10 < p then 0 else p
    s.setFir l q (presetOf q).1 (presetOf q).2.1 (presetOf q).2.2

/-! ### What the transmit balls of a lane carry (R108, R120, R126, R127) -/

/-- What a lane's transmit balls carry: nothing (high impedance), electrical idle, 66-bit blocks, a test pattern by its
code (R123), or the partner's own bits (R126). -/
inductive LaneTx where
  | highZ
  | idle
  | blocks
  | pattern (code : Nat)
  | partner
  deriving DecidableEq, Repr

/-- What lane `l` transmits: high impedance in OFF, electrical idle in RESET, and in TEST what LOOPBACK and GEN_PATTERN say;
blocks in every other state (R108, R120). Far-end loopback drives the partner's bits
whatever GEN_PATTERN holds (R126). -/
def State.laneTx (s : State) (l : Nat) : LaneTx :=
  match s.laneState l with
  | 0 => .highZ
  | 1 => .idle
  | 10 =>
    if s.get (LANE_TEST_LOOPBACK l) = 3 then .partner
    else
      let p := s.get (LANE_TEST_GEN_PATTERN l)
      if 1 ≤ p ∧ p ≤ 6 then .pattern p else .idle
  | _ => .blocks

/-- Whether a lane in TEST hears its own transmitter and ignores its receive balls (R126). -/
def State.hearsSelf (s : State) (l : Nat) : Bool :=
  s.laneState l == 10 && (s.get (LANE_TEST_LOOPBACK l) == 1 || s.get (LANE_TEST_LOOPBACK l) == 2)

/-! ### TRAIN blocks (R134, R135) -/

/-- A TRAIN block (R134). -/
def State.sendTrain (s : State) (l sub : Nat) (content : List Byte) : State :=
  (s.sendCtl l 0x20 (toBytes 1 (16 * sub + (s.lphy l).trainSeq) ++ content)).modPhy l
    (fun x => { x with trainSeq := (x.trainSeq + 1) % 16 })

/-- The STATUS content of a lane (R134, R136): GRADE, CAP_OK, READY, and the step asked for or the STEP_DOWN set, with its
TARGET. -/
def State.statusBytes (s : State) (l : Nat) : List Byte :=
  let x := s.lphy l
  let g := s.get (LANE_STATUS_GRADE l)
  let tgt := match x.down with | some t => t | none => if x.stepReq then g + 1 else 0
  toBytes 1 (32 * g + 16 * b2n (x.sawCap0 && x.sawCap1) + 8 * b2n x.ready + 4 * b2n (x.stepReq && x.down.isNone) +
    b2n x.down.isSome) ++ toBytes 1 tgt

/-- The device's coefficients packed as in COEFF (R134). -/
def State.firPacked (s : State) (l : Nat) : Nat :=
  s.get (LANE_TXFIR_C_PRE l) + 16 * s.get (LANE_TXFIR_C_POST l) + 512 * s.get (LANE_TXFIR_C_MAIN l)

/-- STATUS, COEFF, CAP0, CAP1, and the REQ and ANS that are repeated (R134). -/
def State.sendStatus (s : State) (l : Nat) : State := s.sendTrain l 0 (s.statusBytes l)
def State.sendCoeff (s : State) (l : Nat) : State :=
  s.sendTrain l 1 (toBytes 2 (s.firPacked l) ++ toBytes 1 (s.get (LANE_TXFIR_PRESET l)))
def State.sendCap0 (s : State) (l : Nat) : State :=
  s.sendTrain l 4 (toBytes 1 0x10 ++ toBytes 1 (128 + 16 * (if s.bondW l = 4 then 2 else if s.bondW l = 2 then 1 else 0) +
    (s.lphy l).maxGrade) ++ toBytes 3 0)
def State.sendCap1 (s : State) (l : Nat) : State := s.sendTrain l 5 (toBytes 1 0x3F ++ toBytes 2 32768 ++ toBytes 2 (s.creditQ l))
def State.sendReq (s : State) (l : Nat) : State :=
  match (s.lphy l).req with
  | some r => s.sendTrain l 2 (toBytes 1 r.1 ++ toBytes 1 r.2 ++ toBytes 1 (s.lphy l).reqSeq)
  | none => s.sendStatus l
def State.sendAns (s : State) (l : Nat) : State :=
  match (s.lphy l).reqId with
  | some id => s.sendTrain l 3 (toBytes 1 id ++ toBytes 1 (s.lphy l).ans ++ toBytes 2 (s.firPacked l))
  | none => s.sendStatus l

/-- What a lane in training puts into slot `k` of 16: STATUS, REQ and ANS at least once in every 8 TRAIN blocks, COEFF, and
CAP0 and CAP1 until the partner shows CAP_OK, once in every 16 (R135). -/
def State.trainSlot (s : State) (l k : Nat) : State :=
  if k % 8 = 1 then s.sendReq l
  else if k % 8 = 2 then s.sendAns l
  else if k = 3 then s.sendCoeff l
  else if k = 4 ∧ !(s.lphy l).partnerCapOk then s.sendCap0 l
  else if k = 5 ∧ !(s.lphy l).partnerCapOk then s.sendCap1 l
  else s.sendStatus l

/-- 16 TRAIN blocks, the pattern that fills the slots up to the next ALIGN; what the device sends is written down for one
turn of it. -/
def State.trainRound (s : State) (l : Nat) : State := (List.range 16).foldl (fun s k => s.trainSlot l k) s

/-- A new REQ with the next REQ_ID (R117, R135). -/
def State.request (s : State) (l b2 b3 : Nat) : State :=
  (s.modPhy l (fun x => { x with reqSeq := (x.reqSeq + 1) % 256, req := some (b2, b3) })).sendReq l

/-- The device's adaptation asks for the partner's taps: for each hold, increment or decrement, which the spec leaves to
it and a free value gives; all on hold asks for nothing (R109, R117). -/
def State.askTaps (s : State) (l : Nat) : State :=
  let r := s.free
  let b3 := 16 * (r.1 % 3) + 4 * (r.1 / 3 % 3) + r.1 / 9 % 3
  r.2.iff (b3 != 0) (fun s => s.request l 0 b3)

/-! ### The receiver's equaliser (R118) -/

/-- The CTLE at CTLE_INIT and the DFE at zero (R110, R114, R118). -/
def State.eqStart (s : State) (l : Nat) : State :=
  s.modPhy l (fun x => { x with ctle := s.get (LANE_TRAIN_CFG_CTLE_INIT l), dfe := 0 })

/-- Whether the equaliser adapts: not with CTLE_FIXED, not in a relock, and frozen only in a burst (R104, R118, R119). -/
def State.adapts (s : State) (l : Nat) : Bool :=
  !s.flag (LANE_TRAIN_CFG_CTLE_FIXED l) && (s.lphy l).relock.isNone && (!s.flag (LANE_STATUS_FROZEN l) || (s.lphy l).burst)

/-- A new credit account at the entry to ACTIVE (R145): what the queue holds stays held, and the first CREDIT leaves. -/
def State.startCredit (s : State) (l : Nat) : State :=
  let g := 32 * s.creditQ l - (s.lten l).queue
  (s.modTen l (fun x => { x with granted := g, received := 0 })).sendCredit l

/-! ### Sessions (R108 to R113) -/

/-- Whether a lane is Ethernet. -/
def State.laneEth (s : State) (l : Nat) : Bool := decide (2 ≤ s.lanePers l)

/-- STATE of a lane set. -/
def State.setLane (s : State) (l st : Nat) : State := s.put (LANE_STATUS_STATE l) st
/-- Both locks lost, and with them what they rest on: the FEC lock of an Ethernet lane (R102, R103, R187). -/
def State.clearLocks (s : State) (l : Nat) : State :=
  ((s.putB (LANE_STATUS_BLOCK_LOCK l) false).putB (LANE_STATUS_ALIGN_LOCK l) false).putB (ETH_STATUS_FEC_LOCK l) false

/-- SEEK begins at a grade: RETRAIN clears, the coefficients start anew, the equaliser adapts at full rate, and the cadence
of ALIGN starts with a new grade (R101, R108, R117, R119). -/
def State.seek (s : State) (l g : Nat) : State :=
  let s := (((s.setLane l 2).put (LANE_STATUS_GRADE l) g).clearLocks l).putB (LANE_CTRL_RETRAIN l) false
  ((s.startFir l).putB (LANE_STATUS_FROZEN l) false).modPhy l (fun x => { x with
    relock := none, alignMiss := 0, alignSeen := false, sawTrain := false, partnerReady := false, ready := false,
    stepReq := false, txSwitch := none, rxSwitch := none, lowChecks := 0, lat := false, req := none, down := none,
    idleRun := 0, burst := false })

/-- The hidden state of a lane without a session; the checker's totals stay (R124). -/
def LanePhy.fresh (x : LanePhy) : LanePhy := { LanePhy.reset with chkOn := x.chkOn, chkBits := x.chkBits, chkErrs := x.chkErrs }

/-- The lane is OFF (R112). DEGRADED stays as it is; DESIGN CHOICE: the spec does not say when it clears, and the model
clears it where a Tenon session starts. -/
def State.laneOff (s : State) (l : Nat) : State :=
  let s := ((((s.setLane l 0).put (LANE_STATUS_GRADE l) 0).clearLocks l).putB (LANE_STATUS_PLL_LOCK l) false).put
    (LANE_STATUS_BACKOFF l) 0
  (((s.putB (LANE_STATUS_FROZEN l) false).putB (LANE_STATUS_CHK_LOCK l) false).putB (LANE_TEST_INJECT l) false).modPhy l
    LanePhy.fresh

/-- A session starts (R108), on Tenon at S0 with all counts at zero and with `ceil` as its ceiling; the lane fields of
R112 are taken over, and the CTLE and DFE start (R114, R118). An Ethernet lane searches at S3 or S5 (R114); a lane without
a personality is OFF. DESIGN CHOICE: the ALIGN sequence number restarts at 0 (R101 gives no first value) and runs on over a
switch of grade; DEGRADED clears. -/
def State.session (s : State) (l ceil : Nat) : State :=
  match s.persReg l with
  | 0 => s.laneOff l
  | 1 =>
    let s := s.latch [TENON_CFG l, TENON_LIMITS l, TENON_FILL l, LANE_TRAIN_CFG l]
    let s := (s.bump (LANE_CNT_TRAIN l)).putB (LANE_STATUS_DEGRADED l) false
    let s := s.modPhy l (fun x => { LanePhy.reset with
      ceiling := ceil, absentCycle := x.absentCycle, pers := 1, maxGrade := min 5 (s.get (LANE_CTRL_MAX_GRADE l)),
      reqSeq := x.reqSeq })
    let s := ((s.wrN (TENON_PARTNER_CAP l) 0).setLane l 2).eqStart l
    (s.put (TENON_STATUS_POSITION l) (l - s.boss l)).seek l 0
  | p =>
    let s := (s.setLane l 2).latch [LANE_TRAIN_CFG l]
    let s := (s.bump (LANE_CNT_TRAIN l)).modPhy l (fun _ => { LanePhy.reset with pers := p })
    ((s.eqStart l).seek l (if p = 2 then 3 else 5)).logC 0x1101 l 0

/-- An Ethernet lane returns to SEEK (R114). -/
def State.ethSeek (s : State) (l : Nat) : State :=
  (s.seek l (if s.lanePers l = 2 then 3 else 5)).logC 0x1101 l 0

/-- A request outstanding at a CTRL window completes (R155). -/
def State.ctrlDone (s : State) (l code value : Nat) : State :=
  match (s.lten l).ctrl with
  | none => s
  | some (tag, addr, _) =>
    let s := ((s.wrN (TENON_CTRL_RESULT l) (addr * 2 ^ 16 + tag * 256 + code)).wrN (TENON_CTRL_RDATA l) value).publish
      (TENON_CTRL_STATUS l)
    let s := (s.putB (TENON_CTRL_CMD_GO l) false).putBond l TENON_STATUS_CTRL_BUSY 0
    (s.modTen l (fun x => { x with ctrl := none })).raise 1 (TENON_EVENTS_CTRL_DONE l)

/-- What a lane that leaves ACTIVE in state 6 records: DOWN, and its departure code (R107). -/
def State.depart (s : State) (l code arg : Nat) : State :=
  s.iff (s.laneState l == 6) (fun s => (s.laneEvent l 1).logC code l arg)

/-- The members of a bond hold no received blocks, and position 0 comes next (R142). -/
def State.rxRestart (s : State) (l : Nat) : State :=
  (s.members l).foldl (fun s m => s.modTen m (fun x => { x with rxq := [], turn := 0 })) s

/-- The protocol above a Tenon lane or formed bond ends: BOND_UP, open tile and line, CTRL request (R152, R153, R155). -/
def State.tenonDown (s : State) (l : Nat) : State :=
  ((((s.putBond l TENON_STATUS_BOND_UP 0).cutTile l).ctrlDone l 9 0).rxRestart l).kerfFlush l

/-- A lane stops being in ACTIVE, IDLE or WAKE, and its departure is recorded. The other members of a formed bond start
sessions (R143). -/
def State.laneOut (s : State) (l code arg : Nat) : State :=
  if !s.laneUp l then s
  else
    let s := (s.depart l code arg).modPhy l (fun x => { x with relock := none })
    if s.laneEth l then s.ethDown l
    else if s.bondW l = 1 then s.tenonDown l
    else
      let b := s.boss l
      if !s.flag (TENON_STATUS_BOND_UP b) then s
      else
        let s := ((s.tenonDown b).raise 1 (TENON_EVENTS_BOND_DOWN b)).logC 0x1233 b 0
        (s.members l).foldl (fun s m => s.iff (m != l && s.laneUp m) (fun s => (s.depart m 0x110C 6).session m 5)) s

/-- A lane leaves what it does and starts a session (R107, R108), or on Ethernet returns to SEEK (R114). -/
def State.restart (s : State) (l code arg : Nat) : State :=
  let s := s.laneOut l code arg
  if s.laneEth l then s.ethSeek l else s.session l 5

/-! ### Violations (R162 to R164) -/

/-- A VIOL block for the violations of a reason (R162). Outside ACTIVE, IDLE and WAKE every slot holds training content
(R135), so none leaves. -/
def State.sendViol (s : State) (l reason detail count : Nat) : State :=
  s.iff (s.laneUp l) fun s => s.sendCtl l 0x7F (toBytes 1 reason ++ toBytes 2 detail ++ toBytes 2 (min 65535 count))

/-- The violations of one reason one later: the VIOL block leaves at once, or is held until 100 µs have passed. -/
def State.violRun (s : State) (l reason detail : Nat) : State :=
  let run := match (s.lten l).viols.find? (fun (v : ViolRun) => v.reason == reason) with
    | some v => v | none => ⟨reason, 0, none, none⟩
  let rest := (s.lten l).viols.filter (fun (v : ViolRun) => v.reason != reason)
  let free := match run.lastSent with | none => true | some t => decide (t + 100000 ≤ s.tb.ticks)
  let run' : ViolRun := if free then ⟨reason, run.count + 1, some s.tb.ticks, none⟩
    else ⟨reason, run.count + 1, run.lastSent, some detail⟩
  let s := s.modTen l (fun x => { x with viols := rest ++ [run'], violTotal := x.violTotal + 1 })
  s.iff free (fun s => s.sendViol l reason detail (run.count + 1))

/-- A violation on the lane or bond whose position-0 lane is `l`: counted, published, answered and logged; past
VIOL_LIMIT in its window it starts sessions on every member (R162, R164). DESIGN CHOICE: DETAIL is 0 for every reason for
which no rule gives one (R163). -/
def State.violate (s : State) (l reason detail : Nat) : State :=
  let s := ((s.bump (TENON_CNT_VIOL l)).wrN (TENON_VIOL_LAST l) (detail % 65536 * 65536 + reason)).publish (TENON_VIOL_STATUS l)
  let s := ((s.raise 1 (TENON_EVENTS_VIOL l)).violRun l reason detail).logCount (0x1200 + reason) l l
  let lim := s.getT l (TENON_LIMITS_VIOL_LIMIT l)
  if lim = 0 ∨ (s.lten l).violTotal ≤ lim ∨ (s.lten l).limitHit then s
  else
    let s := ((s.modTen l (fun x => { x with limitHit := true })).raise 1 (TENON_EVENTS_VIOL_LIMIT_HIT l)).logC 0x1220 l 0
    let up := (s.members l).filter s.laneUp
    let s := up.foldl (fun s m => s.depart m 0x110C 3) s
    let s := s.iff (s.bondW l != 1 && s.flag (TENON_STATUS_BOND_UP l))
      (fun s => (s.raise 1 (TENON_EVENTS_BOND_DOWN l)).logC 0x1233 l 0)
    up.foldl (fun s m => s.session m 5) (s.tenonDown l)

/-- A violation inside a tile: logged, and not counted where a control block with a wrong CHECK came while the tile was
open (R152). -/
def State.tileViol (s : State) (l reason detail : Nat) (bad : Bool) : State :=
  if bad then s.logCount (0x1200 + reason) l l else s.violate l reason detail

/-! ### Entry to ACTIVE, and bonds forming (R109, R143) -/

/-- A violation window starts anew at the lane's entry to ACTIVE (R164). -/
def State.violStart (s : State) (l : Nat) : State :=
  s.modTen l (fun x => { x with viols := [], violTotal := 0, limitHit := false })

/-- The violation window and the account of a lane or bond begin (R145, R164). -/
def State.tenonUp (s : State) (l : Nat) : State :=
  let s := (((s.violStart l).modTen l (fun x => { x with
    entryL := s.rdN (TENON_LAT_VALUE l), drift := false, lastBad := 0, discard := 0 })).rxRestart l).putBond l TENON_STATUS_BOND_UP 1
  s.startCredit l

/-- Members of a bond that are all in ACTIVE but at different grades: those above the lowest start a session with it as
their ceiling (R143). -/
def State.bondGrades (s : State) (l : Nat) : State :=
  let ms := s.members l
  if !ms.all (fun m => s.laneState m == 6) then s
  else
    let low := ms.foldl (fun a m => min a (s.get (LANE_STATUS_GRADE m))) 7
    ms.foldl (fun s m => s.iff (decide (low < s.get (LANE_STATUS_GRADE m)))
      (fun s => (s.depart m 0x110C 6).session m low)) s

/-- A lane enters ACTIVE (R109, R111). -/
def State.laneActive (s : State) (l : Nat) : State :=
  let s := ((s.setLane l 6).laneEvent l 0).logC 0x110B l (s.get (LANE_STATUS_GRADE l))
  let s := (((s.put (LANE_STATUS_BACKOFF l) 0).putB (LANE_STATUS_FROZEN l) false).modPhy l (fun x => { x with
    absentCycle := false, lowChecks := 0, idleRun := 0, burst := false, alignMiss := 0, relock := none,
    lat := false, byStep := false, attempts := 0 }))
  if s.laneEth l then s.latch [ETH_CFG l, ETH_SIZES l, ETH_TIMERS l, ETH_ACT_CFG l, ETH_CAM_LAT l, ETH_ACT_DEVKEY l,
    ETH_ACT_GROUPKEY l, ETH_ACT_GROUPMASK l]
  else if s.bondW l = 1 then s.tenonUp l
  else (s.iff ((s.members l).all (fun m => m == l || !s.laneUp m)) (fun s => s.violStart (s.boss l))).bondGrades l

/-! ### The steps of a session (R109 to R111, R134 to R136) -/

/-- The lane enters ABSENT (R111). -/
def State.absent (s : State) (l : Nat) : State :=
  let s := ((s.setLane l 9).put (LANE_STATUS_GRADE l) 0).clearLocks l
  if (s.lphy l).absentCycle then s.put (LANE_STATUS_BACKOFF l) (min 4 (s.get (LANE_STATUS_BACKOFF l) + 1))
  else (((s.put (LANE_STATUS_BACKOFF l) 0).modPhy l (fun x => { x with absentCycle := true })).laneEvent l 2).logC 0x1101 l 0

/-- A SEEK at the present grade has failed, or an EQUALISE that counts as one (R110, R111). -/
def State.seekFail (s : State) (l : Nat) : State :=
  let s := s.modPhy l (fun x => { x with seekFails := x.seekFails + 1 })
  if (s.lphy l).seekFails < 3 then s.seek l (s.get (LANE_STATUS_GRADE l))
  else if s.get (LANE_STATUS_GRADE l) = 0 then s.absent l
  else s.session l 5

/-- An attempt at a grade has failed: it is counted, and the lane seeks at grade `g`, the one below (R110). -/
def State.stepFail (s : State) (l g : Nat) : State :=
  let s := (s.bump (LANE_CNT_FAILSTEP l)).modPhy l (fun x => { x with
    attempts := x.attempts + 1, seekFails := 0, byStep := false })
  s.seek l g

/-- A wait at the present grade has failed on this side (R110): at a grade reached by a step, or while asking to step, the
attempt fails; elsewhere SEEK does. A step is asked for until both directions have switched. -/
def State.waitFail (s : State) (l : Nat) : State :=
  let g := s.get (LANE_STATUS_GRADE l)
  let x := s.lphy l
  if x.byStep then s.stepFail l (g - 1)
  else if s.laneState l = 5 ∧ (x.stepReq ∨ x.txSwitch = some (g + 1) ∨ x.rxSwitch = some (g + 1)) then s.stepFail l g
  else s.seekFail l

/-- STEP toward the next grade: the device asks (R136). -/
def State.askStep (s : State) (l : Nat) : State :=
  ((s.setLane l 5).modPhy l (fun x => { x with stepReq := true, txSwitch := none, rxSwitch := none })).sendStatus l

/-- The device sends STEP_DOWN with TARGET, and both directions switch at the next ALIGN (R110, R136). -/
def State.stepDown (s : State) (l target : Nat) : State :=
  let s := s.iff (decide (target < s.get (LANE_STATUS_GRADE l))) (fun s => s.setLane l 5)
  (s.modPhy l (fun x => { x with
    stepReq := false, txSwitch := some target, rxSwitch := some target, down := some target })).sendStatus l

/-- EQUALISE begins at the present grade; the partner's preset is requested unless PARTNER_PRESET is 15, and its taps one
request at a time (R109, R117). -/
def State.equalise (s : State) (l : Nat) : State :=
  let p := s.getT l (LANE_TRAIN_CFG_PARTNER_PRESET l)
  let s := (s.setLane l 4).modPhy l (fun x => { x with ready := false, partnerReady := false, req := none })
  if p = 15 then s.askTaps l else s.request l (128 + p) 0

/-- SEEK has ended with both locks and TRAIN blocks (R109): EXCHANGE at S0, another attempt or the ceiling after a failed
step, EQUALISE at a new grade. -/
def State.seekDone (s : State) (l : Nat) : State :=
  let x := s.lphy l
  let g := s.get (LANE_STATUS_GRADE l)
  if x.byStep then s.equalise l
  else if !x.exchanged then
    ((s.setLane l 3).sendCap0 l).sendCap1 l
  else if x.attempts = 0 ∨ x.target ≤ g then s.equalise l
  else if x.attempts < 3 then s.askStep l
  else
    let s := (s.modPhy l (fun x => { x with ceiling := g, target := g })).putB (LANE_STATUS_DEGRADED l) true
    ((s.laneEvent l 3).logC 0x1102 l g).equalise l

/-- The device's latency probe (R138): the next PROBE number, and T_out as stamped, less EG_ASYM (R249, R250). -/
def State.sendProbe (s : State) (l : Nat) : State :=
  let n := ((s.lten l).probeNum + 1) % 256
  let r := s.txStamp
  let t := r.1 - sext 32 (s.rdN (TB_LANE_EG_ASYM l)) * 256
  let s := r.2
  (s.modTen l (fun x => { x with probeNum := n, probeOut := some t })).sendCtl l 0x60 (toBytes 1 n)

/-- EQUALISE has ended with both sides ready (R109): STEP below the target; at the target the latency measurement, which
a bond makes on position 0 only (R142). The measurement still belongs to the attempt at its grade, since its time limit
counts as a step timeout (R139). -/
def State.equaliseDone (s : State) (l : Nat) : State :=
  let g := s.get (LANE_STATUS_GRADE l)
  let s := s.modPhy l (fun x => { x with seekFails := 0 })
  if g < min (s.lphy l).target (s.lphy l).ceiling then
    (s.modPhy l (fun x => { x with attempts := if x.byStep then 0 else x.attempts, byStep := false })).askStep l
  else if l ≠ s.boss l then s.laneActive l
  else ((s.modPhy l (fun x => { x with lat := true })).modTen l (fun x => { x with
    results := [], repeated := false })).sendProbe l

/-- What the state of a session allows next, after something was learnt (R109, R135). -/
def State.progress (s : State) (l : Nat) : State :=
  let x := s.lphy l
  match s.laneState l with
  | 2 => s.iff (s.flag (LANE_STATUS_BLOCK_LOCK l) && s.flag (LANE_STATUS_ALIGN_LOCK l) && x.sawTrain) (fun s => s.seekDone l)
  | 3 => s.iff (x.sawCap0 && x.sawCap1 && x.partnerCapOk) (fun s =>
      (s.modPhy l (fun x => { x with
        exchanged := true, target := min x.maxGrade (min (s.get (TENON_PARTNER_CAP_MAX_GRADE l)) x.ceiling) })).equalise l)
  | 4 => s.iff (x.ready && x.partnerReady && !x.lat && x.txSwitch.isNone) (fun s => s.equaliseDone l)
  | _ => s

/-- A switch of grade is complete in both directions (R109, R110). -/
def State.switched (s : State) (l g : Nat) : State :=
  let x := s.lphy l
  let cur := s.get (LANE_STATUS_GRADE l)
  if cur < g then
    (s.modPhy l (fun x => { x with byStep := true, seekFails := 0 })).seek l g
  else if g < cur ∧ x.byStep then s.stepFail l g
  else s.seekFail l

/-- One direction has switched at its ALIGN; the lane follows when both have. -/
def State.switchTx (s : State) (l : Nat) : State :=
  match (s.lphy l).txSwitch with
  | none => s
  | some g =>
    let s := s.modPhy l (fun x => { x with txSwitch := none })
    if (s.lphy l).rxSwitch.isNone then s.switched l g else s
def State.switchRx (s : State) (l : Nat) : State :=
  match (s.lphy l).rxSwitch with
  | none => s
  | some g =>
    let s := s.modPhy l (fun x => { x with rxSwitch := none })
    if (s.lphy l).txSwitch.isNone then s.switched l g else s

/-- EQUALISE ends with a margin below threshold, or at its limit (R109, R110): the attempt fails, or SEEK at a grade that
no step has reached, where the CTLE and DFE start anew. -/
def State.equaliseLow (s : State) (l : Nat) : State :=
  let g := s.get (LANE_STATUS_GRADE l)
  if (s.lphy l).byStep then s.stepDown l (g - 1) else (s.stepDown l g).eqStart l

/-! ### The start and the end of a lane's running (R112, R113) -/

/-- Whether ENABLE, POWER_DOWN, PERSONALITY and LINK_RELEASE let a lane run, and it is in service (R88, R112, R494). -/
def State.laneMayRun (s : State) (l : Nat) : Bool :=
  s.flag (LANE_CTRL_ENABLE l) && !s.flag (LANE_CTRL_POWER_DOWN l) && s.persReg l != 0 && s.linkRelease && !s.laneRetired l

/-- A lane that may run and is OFF goes to RESET; one that may not goes to OFF (R112). `cause` is the ARG of 0x110C. -/
def State.laneUpdate (s : State) (l cause : Nat) : State :=
  if s.laneState l = 0 then s.iff (s.laneMayRun l) (fun s => s.setLane l 1)
  else if s.flag (LANE_CTRL_ENABLE l) && !s.flag (LANE_CTRL_POWER_DOWN l) && s.linkRelease && !s.laneRetired l then s
  else (s.laneOut l 0x110C cause).laneOff l

/-- RETRAIN takes effect (R112, R114): from any state but OFF and TEST; in RESET the session starts when the PLL locks. -/
def State.retrain (s : State) (l : Nat) : State :=
  let st := s.laneState l
  if st ≤ 1 ∨ st = 10 then s
  else if s.laneEth l then ((s.laneOut l 0x110C 1).logC 0x1107 l 0).session l 5
  else s.restart l 0x110C 1

/-- LANE_PLL_LOCK (R108, R127): RESET ends; a session starts, or test mode. -/
def execLanePllLock (l : Fin 96) (s : State) : Host.Outcome State Fault Refusal :=
  if s.laneState l ≠ 1 then .next s
  else
    let s := s.putB (LANE_STATUS_PLL_LOCK l) true
    if s.flag (LANE_TEST_EN l) then
      let s := (s.setLane l 10).latch [LANE_TRAIN_CFG l]
      .next ((s.put (LANE_STATUS_GRADE l) (min 5 (s.get (LANE_CTRL_MAX_GRADE l)))).startFir l)
    else .next (s.session l 5)

/-- A lane PLL loses lock (R113): RESET, PLL_LOST and 0x1109. -/
def State.lanePllLost (s : State) (l : Nat) : State :=
  if s.laneState l = 0 then s
  else
    let s := ((s.laneOut l 0x110C 5).laneEvent l 6).logC 0x1109 l 0
    let s := (((s.setLane l 1).put (LANE_STATUS_GRADE l) 0).clearLocks l).putB (LANE_STATUS_PLL_LOCK l) false
    ((s.putB (LANE_STATUS_FROZEN l) false).putB (LANE_STATUS_CHK_LOCK l) false).modPhy l (fun x => { x.fresh with
      absentCycle := x.absentCycle, reqSeq := x.reqSeq })

/-- LANE_PLL_LOSS (R113). -/
def execLanePllLoss (l : Fin 96) (s : State) : Host.Outcome State Fault Refusal := .next (s.lanePllLost l)

/-! ### Blocks received (R104, R119, R161) -/

/-- A block that is not EIDLE arrives on a Tenon lane: it ends a run of idle blocks unless it is one, and before LOS it
takes a lane in IDLE back to ACTIVE with a violation (R119, R161). DESIGN CHOICE: the checks of the eye after that return
do not follow on from those before it. -/
def State.rxBlock (s : State) (l : Nat) (idle : Bool) : State :=
  let s := s.iff (!idle && (s.flag (LANE_STATUS_FROZEN l) || decide (0 < (s.lphy l).idleRun))) (fun s =>
    (s.putB (LANE_STATUS_FROZEN l) false).modPhy l (fun x => { x with idleRun := 0 }))
  if s.laneState l = 7 ∧ !s.flag (LANE_STATUS_LOS l) then
    ((s.members l).foldl (fun s m => s.iff (s.laneState m == 7) (fun s =>
      (s.setLane m 6).modPhy m (fun x => { x with lowChecks := 0 }))) s).violate (s.boss l) 0x0A 0
  else s

/-! ### Locks (R102 to R104) -/

/-- BLOCK_LOCK_GAIN (R102, R114, R170). -/
def execBlockLockGain (l : Fin 96) (s : State) : Host.Outcome State Fault Refusal :=
  let st := s.laneState l
  if st < 2 ∨ st = 9 ∨ st = 10 ∨ s.flag (LANE_STATUS_BLOCK_LOCK l) then .next s
  else
    let s := (s.putB (LANE_STATUS_BLOCK_LOCK l) true).modPhy l (fun x => { x with alignSeen := false, alignMiss := 0 })
    if s.laneEth l then
      let s := s.iff (s.get (ETH_CFG_FEC l) == 1 || s.get (ETH_CFG_FEC l) == 2) (fun s => s.putB (ETH_STATUS_FEC_LOCK l) true)
      .next (s.iff (s.laneState l == 2) (fun s => s.laneActive l))
    else .next s

/-- Both locks are lost in the present state (R103, R104, R107, R110, R114). -/
def State.lockLost (s : State) (l : Nat) : State :=
  let st := s.laneState l
  if s.laneEth l then
    if st = 6 then s.restart l 0x1104 0 else s
  else if st = 6 then
    if s.flag (LANE_STATUS_LOS l) then s.restart l 0x1103 0
    else if s.flag (LANE_STATUS_LOL l) then s.restart l 0x1104 0
    else ((s.cutTile (s.boss l)).modPhy l (fun x => { x with relock := some s.tb.ticks, alignSeen := false }))
  else if (3 ≤ st ∧ st ≤ 5) ∨ (st = 2 ∧ (s.lphy l).byStep) then s.waitFail l
  else s

/-- BLOCK_LOCK_LOSS (R102): `invalid` invalid headers were seen while locked within 64 consecutive blocks; 16 lose the lock,
fewer are only counted. -/
def execBlockLockLoss (l : Fin 96) (invalid : Nat) (s : State) : Host.Outcome State Fault Refusal :=
  if !s.flag (LANE_STATUS_BLOCK_LOCK l) then .next s
  else
    let s := s.bumpBy (LANE_CNT_SYNCERR l) invalid
    if invalid < 16 then .next s else .next (((s.bump (LANE_CNT_LOCKLOSS l)).clearLocks l).lockLost l)

/-- An ALIGN that was expected is missing, or one came where none was expected; the third in a row drops both locks
(R103). -/
def State.alignMissed (s : State) (l : Nat) : State :=
  let s := (s.laneEvent l 7).modPhy l (fun x => { x with alignMiss := x.alignMiss + 1 })
  if (s.lphy l).alignMiss < 3 then s
  else
    let s := (((s.clearLocks l).bump (LANE_CNT_LOCKLOSS l)).logC 0x1105 l 0).modPhy l (fun x => { x with alignMiss := 0 })
    s.lockLost l

/-- The ALIGN slot of a member of a formed bond, with the sequence number of its ALIGN: what the other members still owe of
the round before it is waited for (R142). -/
def State.alignSlot (s : State) (l seq : Nat) : State :=
  s.iff (decide (1 < s.bondW l) && s.tenUp l) (fun s => s.modTen l (fun x => { x with rxq := x.rxq ++ [.align seq] }))

/-- ALIGN_MISS (R103). -/
def execAlignMiss (l : Fin 96) (s : State) : Host.Outcome State Fault Refusal :=
  if !s.flag (LANE_STATUS_ALIGN_LOCK l) || s.laneEth l || s.laneState l == 7 || s.laneState l == 8 then .next s
  else .next ((s.alignSlot l (((s.lphy l).rxAlignInfo / 16 + 1) % 16)).alignMissed l)

/-- Bits 3:0 of a lane's ALIGN INFO: the bond width and the position (R101). -/
def State.alignPos (s : State) (l : Nat) : Nat :=
  (match s.bondW l with | 4 => 8 | 2 => 4 | _ => 0) + (l - s.boss l)

/-- The ALIGN block of a lane: its fixed bytes, INFO (the sequence, the width of the bond and the position) and INFO
complemented by `mask` (R101). -/
def State.alignBlock (s : State) (l mask : Nat) : Block :=
  let info := (s.lphy l).alignSeq * 16 + s.alignPos l
  blockOf ([0x4B, 0xD2, 0x1E, 0xB4, 0x78, 0xE1] ++ toBytes 1 info ++ toBytes 1 (Nat.xor info mask))

/-- ALIGN_SEND (R101, R125): the transmitter's ALIGN, with byte 7 wrong if an injection asks for it; a switch of grade
follows it (R109), or the TRAIN blocks of a lane in training (R108, R135). -/
def execAlignSend (l : Fin 96) (s : State) : Host.Outcome State Fault Refusal :=
  let st := s.laneState l
  if st < 2 ∨ st = 10 ∨ s.lanePers l ≠ 1 then .next s
  else
    let inj := s.flag (LANE_TEST_INJECT l) && s.get (LANE_TEST_INJ_MODE l) == 4
    let s := (s.emit (.block l true (s.alignBlock l (if inj && st == 6 then 0xFE else 0xFF)))).modPhy l
      (fun x => { x with alignSeq := (x.alignSeq + 1) % 16 })
    let s := s.iff inj (fun s => s.putB (LANE_TEST_INJECT l) false)
    if (s.lphy l).txSwitch.isSome then .next (s.switchTx l)
    else .next (s.iff (decide (st ≤ 5) || st == 9) (fun s => s.trainRound l))

/-- A lane in WAKE is back in ACTIVE with the ALIGN that ends the exit burst (R122). DESIGN CHOICE: the 10 ms schedule
restarts (R119), and the checks after it do not follow on from those before IDLE. -/
def State.wakeDone (s : State) (l : Nat) : State :=
  ((s.setLane l 6).putB (LANE_STATUS_ALIGN_LOCK l) true).modPhy l (fun x => { x with
    alignMiss := 0, lowChecks := 0 })

/-- What an ALIGN does to the locks (R103, R104, R122): `spaced` says that it begins exactly 16,384 blocks after the last
one, or the position at which one was expected. A relock takes the first one with a correct INFO. -/
def State.alignLock (s : State) (l : Nat) (spaced : Bool) : State :=
  if s.laneState l = 8 then s.wakeDone l
  else if s.flag (LANE_STATUS_ALIGN_LOCK l) then s.modPhy l (fun x => { x with alignMiss := 0, relock := none })
  else if ((s.lphy l).relock.isSome ∧ (s.lphy l).rxAlignInfo % 16 = s.alignPos l) ∨
      ((s.lphy l).relock.isNone ∧ (s.lphy l).alignSeen ∧ spaced) then
    (s.putB (LANE_STATUS_ALIGN_LOCK l) true).modPhy l (fun x => { x with relock := none, alignMiss := 0 })
  else s.modPhy l (fun x => { x with alignSeen := true })

/-- Whether an ALIGN reaches the receiver: it holds BLOCK_LOCK, in a session of a Tenon lane, and the camera is not in
electrical idle. -/
def State.hearsAlign (s : State) (l : Nat) : Bool :=
  s.flag (LANE_STATUS_BLOCK_LOCK l) && s.lanePers l == 1 && decide (2 ≤ s.laneState l) && decide (s.laneState l < 9) &&
    !(s.laneState l == 7 && s.flag (LANE_STATUS_LOS l))

/-- ALIGN_RECEIVE (R103, R104, R109, R122, R143, R161): an ALIGN block with INFO arrives. At an unexpected position of a
locked lane it counts as a missed one and is otherwise ignored. -/
def execAlignReceive (l : Fin 96) (info : Fin 256) (spaced : Bool) (s : State) : Host.Outcome State Fault Refusal :=
  if !s.hearsAlign l then .next s
  else
    let s := s.rxBlock l true
    if !s.hearsAlign l then .next s
    else if s.flag (LANE_STATUS_ALIGN_LOCK l) && s.laneState l != 8 && !spaced then .next (s.alignMissed l)
    else
      let s := ((s.modPhy l (fun x => { x with rxAlignInfo := info + 256 })).alignLock l spaced).alignSlot l (info / 16)
      if decide (1 < s.bondW l) && s.laneState l == 6 && !s.flag (TENON_STATUS_BOND_UP (s.boss l)) &&
          info.val % 16 != s.alignPos l then
        .next ((s.restart l 0x110C 6).violate (s.boss l) 0x0B 0)
      else .next ((s.switchRx l).progress l)

/-- RELOCK_TIMEOUT (R104): both locks are not back within 1 ms. -/
def execRelockTimeout (l : Fin 96) (s : State) : Host.Outcome State Fault Refusal :=
  if s.laneState l = 6 ∧ (s.lphy l).relock.isSome then .next (s.restart l 0x1104 0) else .next s

/-! ### Signal detectors (R105 to R107) -/

/-- LOS_SET (R105, R107). A lane in a near-end loopback ignores its receive balls (R126). -/
def execLosSet (l : Fin 96) (s : State) : Host.Outcome State Fault Refusal :=
  if s.flag (LANE_STATUS_LOS l) || s.hearsSelf l then .next s
  else
    let st := s.laneState l
    let s := (s.putB (LANE_STATUS_LOS l) true).iff (st != 7 && st != 0) (fun s => s.bump (LANE_CNT_LOS l))
    .next (s.iff (st == 6) (fun s => s.restart l 0x1103 0))

/-- LOS_CLEAR (R105, R111, R122). -/
def execLosClear (l : Fin 96) (s : State) : Host.Outcome State Fault Refusal :=
  if !s.flag (LANE_STATUS_LOS l) || s.hearsSelf l then .next s
  else
    let s := s.putB (LANE_STATUS_LOS l) false
    match s.laneState l with
    | 7 => .next ((s.setLane l 8).clearLocks l)
    | 9 => .next (s.session l 5)
    | _ => .next s

/-- LOL_SET (R106, R107). -/
def execLolSet (l : Fin 96) (s : State) : Host.Outcome State Fault Refusal :=
  if s.flag (LANE_STATUS_LOL l) then .next s
  else
    let s := s.putB (LANE_STATUS_LOL l) true
    .next (s.iff (s.laneState l == 6) (fun s => s.restart l 0x1104 0))

/-- LOL_CLEAR (R106). -/
def execLolClear (l : Fin 96) (s : State) : Host.Outcome State Fault Refusal := .next (s.putB (LANE_STATUS_LOL l) false)

/-! ### Training inputs (R109 to R111, R117, R134) -/

/-- One tap of a request moved (R117): increments and decrements of C_PRE and C_POST are taken out of C_MAIN. -/
def tapStep (pre main post : Int) (tap op : Nat) : Int × Int × Int :=
  let d : Int := if op = 1 then 1 else if op = 2 then -1 else 0
  match tap with | 0 => (pre + d, main - d, post) | 1 => (pre, main + d, post) | _ => (pre, main - d, post + d)

/-- A tap request answered (R117): the coefficients and the three statuses, for pre, main and post in turn. DESIGN CHOICE:
operation code 3, which R134 does not define, holds the tap and is answered NOT_UPDATED. -/
def tapAnswer (lock : Bool) (pre main post : Int) (req : List (Nat × Nat)) : (Int × Int × Int) × List Nat :=
  req.foldl (fun (acc : (Int × Int × Int) × List Nat) r =>
    let c := acc.1
    let n := tapStep c.1 c.2.1 c.2.2 r.1 r.2
    if r.2 = 0 ∨ 2 < r.2 then (c, acc.2 ++ [0])
    else if lock then (c, acc.2 ++ [3])
    else if firOk n.1 n.2.1 n.2.2 then (n, acc.2 ++ [1])
    else (c, acc.2 ++ [2])) ((pre, main, post), [])

/-- A REQ with a new REQ_ID is carried out and answered (R117, R135). DESIGN CHOICE: a request for preset 11 to 15, which
R116 does not define, changes nothing and is answered AT_LIMIT on all taps. -/
def State.tapRequest (s : State) (l b2 b3 id : Nat) : State :=
  if (s.lphy l).reqId = some id then s
  else
    let lock := s.flag (LANE_CTRL_LOCK_TX l)
    let cur : Int × Int × Int := ((s.get (LANE_TXFIR_C_PRE l) : Int), (s.get (LANE_TXFIR_C_MAIN l) : Int), (s.get (LANE_TXFIR_C_POST l) : Int))
    let r : State × Nat :=
      if bit b2 7 then
        let p := b2 % 16
        if lock then (s, 0x3F)
        else if 10 < p then (s, 0x2A)
        else (s.setFir l p (presetOf p).1 (presetOf p).2.1 (presetOf p).2.2, 0x15)
      else
        let a := tapAnswer lock cur.1 cur.2.1 cur.2.2 [(0, getBits b3 4 2), (1, getBits b3 2 2), (2, getBits b3 0 2)]
        let st := a.2.foldl (fun n k => 4 * n + k) 0
        (s.iff (decide (1 ∈ a.2)) (fun s => s.setFir l 15 a.1.1.toNat a.1.2.1.toNat a.1.2.2.toNat), st)
    (r.1.modPhy l (fun x => { x with reqId := some id, ans := r.2 })).sendAns l

/-- An ANS to the REQ that waits: the request is no longer repeated, and in EQUALISE the adaptation may make its next one
(R135). One that names another REQ_ID answers nothing. -/
def State.reqAnswered (s : State) (l id : Nat) : State :=
  if (s.lphy l).req.isSome ∧ (s.lphy l).reqSeq = id then
    let s := s.modPhy l (fun x => { x with req := none })
    s.iff (s.laneState l == 4 && !(s.lphy l).ready) (fun s => s.askTaps l)
  else s

/-- CAP0 and CAP1 have both been received: STATUS shows CAP_OK from now on (R135). -/
def State.capSeen (s : State) (l : Nat) (was : Bool) : State :=
  s.iff (!was && (s.lphy l).sawCap0 && (s.lphy l).sawCap1) (fun s => s.sendStatus l)

/-- The coefficients the partner reports, packed as in COEFF (R134). -/
def State.partnerFir (s : State) (l c : Nat) : State :=
  ((s.put (LANE_PARTNER_FIR_C_PRE l) (getBits c 0 4)).put (LANE_PARTNER_FIR_C_POST l) (getBits c 4 5)).put
    (LANE_PARTNER_FIR_C_MAIN l) (getBits c 9 6)

/-- The partner's STATUS (R134, R136): CAP_OK, READY, the answer to a step, a request to step down. STEP_REQ is ignored. -/
def State.partnerStatus (s : State) (l b2 b3 : Nat) : State :=
  let s := s.modPhy l (fun x => { x with partnerCapOk := x.partnerCapOk || bit b2 4, partnerReady := bit b2 3 })
  let x := s.lphy l
  let g := s.get (LANE_STATUS_GRADE l)
  if bit b2 0 && (s.laneState l == 4 || s.laneState l == 5) && x.rxSwitch.isNone then
    let t := if x.byStep ∧ b3 % 8 < g then g - 1 else g
    (s.iff (decide (t < g)) (fun s => s.setLane l 5)).modPhy l (fun x => { x with
      stepReq := false, txSwitch := some t, rxSwitch := some t })
  else if bit b2 1 && s.laneState l == 5 && x.stepReq && x.rxSwitch.isNone then
    s.modPhy l (fun x => { x with stepReq := false, txSwitch := some (g + 1), rxSwitch := some (g + 1) })
  else s

/-- What a TRAIN block with a correct CHECK says, during training (R134). -/
def State.trainContent (s : State) (l : Nat) (b : Block) : State :=
  let y := blockByte b
  let s := s.modPhy l (fun x => { x with sawTrain := true })
  let caps := (s.lphy l).sawCap0 && (s.lphy l).sawCap1
  match y 1 / 16 with
  | 0 => s.partnerStatus l (y 2) (y 3)
  | 1 => (s.partnerFir l (y 2 + 256 * y 3)).put (LANE_PARTNER_FIR_PRESET l) (y 4)
  | 2 => s.tapRequest l (y 2) (y 3) (y 4)
  | 3 => (s.partnerFir l (y 4 + 256 * y 5)).reqAnswered l (y 2)
  | 4 => ((((((s.put (TENON_PARTNER_CAP_VERSION l) (y 2)).put (TENON_PARTNER_CAP_MAX_GRADE l) (y 3 % 8)).put
      (TENON_PARTNER_CAP_MAX_BOND l) (getBits (y 3) 4 2)).putB (TENON_PARTNER_CAP_EIDLE l) (bit (y 3) 7)).put
      (TENON_PARTNER_LAT_TRIG_LAT l) (y 4 + 256 * y 5 + 65536 * y 6)).modPhy l (fun x => { x with sawCap0 := true })).capSeen l caps
  | 5 => (((s.put (TENON_PARTNER_CAP_FORMATS l) (y 2)).put (TENON_PARTNER_LINE_MAX_LINE l) (y 3 + 256 * y 4)).modPhy l
      (fun x => { x with sawCap1 := true })).capSeen l caps
  | _ => s

/-- STEP_TIMEOUT (R110, R111): a wait for a lock or an answer has lasted 10 ms. -/
def execStepTimeout (l : Fin 96) (s : State) : Host.Outcome State Fault Refusal :=
  let st := s.laneState l
  if s.laneEth l || st < 2 || 5 < st then .next s
  else if st = 4 ∧ !(s.lphy l).lat ∧ (s.lphy l).txSwitch.isNone ∧ (s.lphy l).rxSwitch.isNone then .next s
  else .next (s.waitFail l)

/-- EQUALISE_LIMIT (R110): EQUALISE has lasted 100 ms at this grade. A device that is ready itself returns on its own; one
whose margin is low asks to step down. -/
def execEqualiseLimit (l : Fin 96) (s : State) : Host.Outcome State Fault Refusal :=
  if s.laneState l ≠ 4 ∨ s.laneEth l ∨ (s.lphy l).lat ∨ (s.lphy l).txSwitch.isSome then .next s
  else if (s.lphy l).byStep ∧ (s.lphy l).ready then .next (s.waitFail l)
  else .next (s.equaliseLow l)

/-- EQUALISE_LOW_MARGIN_END (R109): the partner is READY, the device's settings have not changed for 1 ms, and its margin
stays low. -/
def execEqualiseLowMarginEnd (l : Fin 96) (s : State) : Host.Outcome State Fault Refusal :=
  if s.laneState l ≠ 4 ∨ s.laneEth l ∨ !(s.lphy l).partnerReady ∨ (s.lphy l).ready ∨ (s.lphy l).txSwitch.isSome then .next s
  else .next (s.equaliseLow l)

/-- EQUALISE_READY (R109): the device's eye margins of `v` mV and `h`/64 UI meet both thresholds. -/
def execEqualiseReady (l : Fin 96) (v h : Nat) (s : State) : Host.Outcome State Fault Refusal :=
  if s.laneState l ≠ 4 ∨ s.laneEth l ∨ v < s.get (LANE_TRAIN_CFG_MARGIN_V l) ∨ h < s.get (LANE_TRAIN_CFG_MARGIN_H l) then .next s
  else
    let s := s.modPhy l (fun x => { x with ready := true })
    .next ((s.sendStatus l).progress l)

/-- ABSENT_WAIT_EXPIRY (R111). -/
def execAbsentWaitExpiry (l : Fin 96) (s : State) : Host.Outcome State Fault Refusal :=
  if s.laneState l ≠ 9 then .next s else .next (s.session l 5)

/-! ### Receive equalisation (R118, R119) -/

/-- What a check of the eye measures is taken and published (R118): the margins, and the CTLE setting and DFE taps that the
adaptation has reached; an equaliser that does not adapt keeps its own, and CTLE_FIXED means CTLE_INIT and a DFE of zero. -/
def State.eyeTake (s : State) (l v h ctle : Nat) (dfe : Word) : State :=
  let s := if s.flag (LANE_TRAIN_CFG_CTLE_FIXED l) then s.eqStart l
    else s.iff (s.adapts l) (fun s => s.modPhy l (fun x => { x with ctle := ctle % 16, dfe := getBits dfe.toNat 0 30 }))
  ((((s.put (LANE_EYE_MARGIN_V_MARGIN l) v).put (LANE_EYE_MARGIN_H_MARGIN l) h).put (LANE_EYE_MARGIN_CTLE l)
    (s.lphy l).ctle).wrN (LANE_EYE_DFE l) (s.lphy l).dfe).publish (LANE_EYE_STATUS l)

/-- EYE_MONITOR_CHECK (R118, R119): the margins measured, with the CTLE setting and the DFE taps as LANE_EYE_DFE holds them.
DESIGN CHOICE: the third low check in a row starts the session without a burst before it. -/
def execEyeMonitorCheck (l : Fin 96) (v h ctle : Nat) (dfe : Word) (s : State) : Host.Outcome State Fault Refusal :=
  if s.laneState l ≠ 6 then .next s
  else
    let s := s.eyeTake l v h ctle dfe
    if s.get (LANE_TRAIN_CFG_MARGIN_V l) ≤ v ∧ s.get (LANE_TRAIN_CFG_MARGIN_H l) ≤ h then
      .next (s.modPhy l (fun x => { x with lowChecks := 0 }))
    else if 2 ≤ (s.lphy l).lowChecks then
      if s.laneEth l then
        .next (((s.laneOut l 0x110C 4).logC 0x1107 l 0).session l 5)
      else .next ((s.logC 0x1107 l 0).restart l 0x110C 4)
    else
      let s := (s.modPhy l (fun x => { x with lowChecks := x.lowChecks + 1, burst := true })).bump (LANE_CNT_BURST l)
      .next ((s.laneEvent l 4).logOnce 0x1106 l l 0)

/-- MARGIN_BURST_END (R119). -/
def execMarginBurstEnd (l : Fin 96) (s : State) : Host.Outcome State Fault Refusal :=
  .next (s.modPhy l (fun x => { x with burst := false }))

/-- EQUALISER_FREEZE (R119). A Tenon lane has counted the idle blocks. DESIGN CHOICE: FREEZE_DIS bars a new freeze; one set
while FROZEN is 1 leaves it until the next block that is not idle. -/
def execEqualiserFreeze (l : Fin 96) (s : State) : Host.Outcome State Fault Refusal :=
  if s.laneState l ≠ 6 ∨ s.flag (LANE_CTRL_FREEZE_DIS l) ∨ (!s.laneEth l ∧ (s.lphy l).idleRun < 4096) then .next s
  else .next (s.putB (LANE_STATUS_FROZEN l) true)

/-! ### Electrical idle (R120 to R122, R160, R161) -/

/-- EXIT_TIMEOUT (R122). -/
def execExitTimeout (l : Fin 96) (s : State) : Host.Outcome State Fault Refusal :=
  if s.laneState l ≠ 8 then .next s
  else .next ((((s.laneEvent l 5).bump (LANE_CNT_EXITFAIL l)).logC 0x1108 l 0).restart l 0x110C 0)

/-- Whether blocks received on a Tenon lane count: locked, and in ACTIVE, IDLE or WAKE (R104, R133). -/
def State.rxOpen (s : State) (l : Nat) : Bool :=
  s.laneUp l && s.lanePers l == 1 && s.flag (LANE_STATUS_BLOCK_LOCK l) && s.flag (LANE_STATUS_ALIGN_LOCK l)

/-- A control block with a wrong CHECK is noted where it lies in the stream (R132, R152). -/
def State.noteBad (s : State) (c : Nat) : State :=
  let x := s.lten c
  let open_ := x.cur.isSome || x.hdr.isSome
  s.modTen c (fun x => { x with lastBad := b2n (!open_ && x.discard == 0), badInTile := x.badInTile || open_ })

/-- A control block with a wrong CHECK (R132): discarded and counted. -/
def State.badCheck (s : State) (l : Nat) : State :=
  let b := s.boss l
  let s := s.bump (TENON_CNT_CHECK b)
  if (s.lten b).wait.isSome then s.modTen b (fun x => { x with items := x.items ++ [.bad] }) else s.noteBad b

/-- TRAIN_BLOCK_RECEIVE (R134, R137, R161): in ACTIVE, IDLE or WAKE the camera has restarted. In a relock blocks are
discarded (R104). -/
def execTrainBlockReceive (l : Fin 96) (b : Block) (s : State) : Host.Outcome State Fault Refusal :=
  let st := s.laneState l
  if s.lanePers l ≠ 1 ∨ st < 2 ∨ 9 ≤ st ∨ !s.flag (LANE_STATUS_BLOCK_LOCK l) ∨ (st = 6 ∧ !s.rxOpen l) ∨ blockByte b 0 ≠ 0x20 then
    .next s
  else
    let s := s.rxBlock l false
    if !checkOk b then .next (s.badCheck l)
    else if s.laneUp l then
      .next (((s.raise 1 (TENON_EVENTS_PARTNER_RESTART (s.boss l))).logC 0x1221 l 0).restart l 0x110C 2)
    else .next (s.iff (decide (st < 6)) (fun s => (s.trainContent l b).progress l))

/-! ### Test functions (R123 to R127) -/

/-- INJECT takes effect (R125): it clears when the error has been sent, or at once where it cannot act. -/
def State.injectErr (s : State) (l : Nat) : State :=
  match s.get (LANE_TEST_INJ_MODE l), s.laneTx l with
  | 1, .pattern _ => ((s.emit (.inject l 1 1)).modPhy l (fun x => { x with inverted := x.inverted + 1 })).putB (LANE_TEST_INJECT l) false
  | 3, .blocks => (s.iff (s.laneState l == 6) (fun s => s.emit (.inject l 3 1))).putB (LANE_TEST_INJECT l) false
  | 4, .blocks => s.putB (LANE_TEST_INJECT l) (s.laneState l == 6 && s.lanePers l == 1)
  | _, _ => s.putB (LANE_TEST_INJECT l) false

/-- Whether the checker runs: TEST mode with a pattern to check. -/
def State.checks (s : State) (l : Nat) : Bool :=
  s.laneState l == 10 && decide (1 ≤ s.get (LANE_TEST_CHK_PATTERN l)) && decide (s.get (LANE_TEST_CHK_PATTERN l) ≤ 6)

/-- Whether the checker can lock to what it hears: in a near-end loopback, its own generator's pattern alone (R126). -/
def State.canLock (s : State) (l : Nat) : Bool :=
  s.checks l && (!s.hearsSelf l || s.laneTx l == .pattern (s.get (LANE_TEST_CHK_PATTERN l)))

/-- Bits that a lane sends in 1 ms at a grade (R99). -/
def gradeBits : Nat → Nat
  | 0 => 1250000 | 1 => 3125000 | 2 => 6250000 | 3 => 10312500 | 4 => 12500000 | _ => 25781250

/-- The generator's bits of 1 ms: with INJ_MODE 2 one bit in 2^INJ_EXP is inverted, INJ_EXP below 10 acting as 10 and above
40 as 40 (R125). -/
def State.generate (s : State) (l : Nat) : State :=
  match s.laneTx l with
  | .pattern _ =>
    let n := (s.lphy l).genBits
    let m := n + gradeBits (s.get (LANE_STATUS_GRADE l))
    let e := 2 ^ min 40 (max 10 (s.get (LANE_TEST_INJ_EXP l)))
    let k := if s.get (LANE_TEST_INJ_MODE l) = 2 then m / e - n / e else 0
    (s.modPhy l (fun x => { x with genBits := m, inverted := x.inverted + k })).iff (k != 0) (fun s => s.emit (.inject l 2 k))
  | _ => s

/-- PRBS_PUBLISH (R11, R124 to R126): `bits` more bits were compared, `errs` of them wrong, or, where the lane hears its own
generator, those that it inverted; the totals count from the first CHK_LOCK on. -/
def execPrbsPublish (l : Fin 96) (bits errs : Nat) (s : State) : Host.Outcome State Fault Refusal :=
  let s := s.generate l
  let n := if s.hearsSelf l then (s.lphy l).inverted else errs
  let s := s.modPhy l (fun x => { x with inverted := 0 })
  if !s.checks l then .next s
  else
    let s := s.modPhy l (fun x => { x with
      chkBits := if x.chkOn then x.chkBits + bits else 0, chkErrs := if x.chkOn then x.chkErrs + n else 0 })
    .next (((s.wr64 (LANE_PRBS_BITS l) (s.lphy l).chkBits).wrN (LANE_PRBS_ERR l) (min (s.lphy l).chkErrs 0xFFFFFFFF)).publish
      (LANE_PRBS_STATUS l))

/-- CHECKER_LOCK (R124): 64 consecutive correct bits; the first lock starts the totals. -/
def execCheckerLock (l : Fin 96) (s : State) : Host.Outcome State Fault Refusal :=
  if !s.canLock l then .next s
  else
    let s := s.putB (LANE_STATUS_CHK_LOCK l) true
    .next (s.iff (!(s.lphy l).chkOn) (fun s => s.modPhy l (fun x => { x with chkOn := true, chkBits := 0, chkErrs := 0 })))

/-- CHECKER_RESEED (R124): 32 errors within 64 bits. -/
def execCheckerReseed (l : Fin 96) (s : State) : Host.Outcome State Fault Refusal :=
  if !s.canLock l then .next s
  else .next ((s.bump (LANE_CNT_CHKRESYNC l)).putB (LANE_STATUS_CHK_LOCK l) false)

end Sys2Proof.Machine
end

