-- ==== Sys2Proof/Machine/Tenon.lean ====
section
/-!
DEFINITION. The Tenon protocol above the block level (R131 to R169): latency, bonds, credit, tiles and their headers,
outstanding triggers, register access to the camera, TRIG blocks and violations.
-/

namespace Sys2Proof.Machine

open Reg

/-! ### Tile headers (R147 to R151) -/

/-- The fields of a header of 64 bytes (R147). -/
def headerOf (h : List Byte) : TileHdr where
  expValid := bit (bytesAt h 2 2) 0
  trigId := bytesAt h 4 4
  index := bytesAt h 12 2
  count := bytesAt h 14 2
  xOff := bytesAt h 16 4
  pixels := bytesAt h 20 4
  bytes := bytesAt h 24 4
  expStart := sext 32 (bytesAt h 32 4)
  expTime := bytesAt h 36 4
  dropped := bytesAt h 40 4

/-- The first field of a header that fails a test of R149, by its byte offset; `line` is the line's next index, X_OFFSET
and TILE_COUNT, where it has earlier tiles. -/
def headerFault (h : List Byte) (fmt lp : Nat) (line : Option (Nat × Nat × Nat)) : Option Nat :=
  let t := headerOf h
  let next := match line with | some (n, _, _) => n | none => 0
  let x := match line with | some (_, x, _) => x | none => 0
  let cnt := match line with | some (_, _, c) => t.count == c | none => true
  let last := t.index + 1 == t.count
  if bytesAt h 0 1 ≠ 1 then some 0
  else if bytesAt h 1 1 ≠ fmt then some 1
  else if t.index ≠ next then some 12
  else if t.count = 0 ∨ 8 < t.count ∨ !cnt then some 14
  else if t.xOff ≠ x then some 16
  else if t.pixels = 0 ∨ maxPixels fmt < t.pixels ∨ (!last ∧ t.pixels % pixelStep fmt ≠ 0) ∨ lp < t.xOff + t.pixels ∨
      (last ∧ t.xOff + t.pixels ≠ lp) then some 20
  else if 16384 < t.bytes ∨ t.bytes ≠ packedBytes fmt t.pixels then some 24
  else if bytesAt h 28 4 ≠ lp then some 28
  else none

/-- The outstanding triggers of a Tenon lane, oldest first (R150). -/
def State.outstanding (s : State) (c : Nat) : List Trigger :=
  s.trigs.filter (fun (t : Trigger) => t.path == 1 && t.out == c && t.sent && t.kind == 0)

/-- A trigger is retired as unserved (R150). -/
def State.retire (s : State) (c : Nat) (t : Trigger) : State :=
  (((s.bump (TENON_CNT_UNSERVED c)).raise 1 (TENON_EVENTS_UNSERVED c)).logC 0x1241 c t.id).reportUnserved t

/-- A line whose trigger's age passed while a tile was open closes once none is (R153). -/
def State.agedClose (s : State) (c : Nat) : State :=
  match (s.lten c).asm_ with
  | some a => if a.aged then s.closeLine c else s
  | none => s

/-- The exposure-centre time of a line and whether it is predicted (R151). The effective firing instant is that of the
trigger. -/
def State.centreOf (s : State) (c : Nat) (t : Trigger) (h : TileHdr) : Int × Bool :=
  if h.expValid && s.flagT c (TENON_CFG_EXP_USE c) then
    (t.tf + t.latency + h.expStart * 8192 + h.expTime * 4096, false)
  else (t.tc, true)

/-- The header that waits takes a Ledger entry when there is one and no FILL tile waits before it: the tile is accepted,
and the first tile of a line fixes the line's tag fields (R24, R28, R149). -/
def State.tryAccept (s : State) (c : Nat) : State :=
  match (s.lten c).wait, (s.lten c).asm_ with
  | some h, some a =>
    if !(s.lten c).fills.isEmpty then s
    else match s.entryFor (s.laneStreams c) with
      | none => s
      | some pool =>
        let tag := if !a.tiles.isEmpty then a.tag else match s.trigs.find? (fun (t : Trigger) => t.id == a.trigId) with
          | some t => let e := s.centreOf c t h
                      s.tagOf t e.1 e.2
          | none => a.tag
        let n := s.ledger.next
        let s := (s.newTile { Tile.blank with
          lane := c, pool := pool, index := h.index, count := h.count, xOff := h.xOff, pixels := h.pixels, tag := tag, bytes := h.bytes,
          holders := s.tileHolders c }).bump (TENON_CNT_TILES c)
        s.modTen c (fun x => { x with
          wait := none, cur := some n, payload := 0, excess := false,
          asm_ := some { a with tag := tag, tiles := a.tiles ++ [n], next := h.index + 1, xNext := h.xOff + h.pixels } })
  | _, _ => s

/-- The rejected tile's header is dropped, and its blocks are discarded up to its EOT or the next SOT (R149). -/
def State.rejectTile (s : State) (c : Nat) : State :=
  (((s.dropHdr c).modTen c (fun x => { x with discard := 2, badInTile := false })).putBond c TENON_STATUS_TILE_OPEN 0).agedClose c

/-- The 8 header blocks of the open tile are checked (R149), and a good header is matched with its trigger and line
(R150, R153). -/
def State.checkHeader (s : State) (c : Nat) : State :=
  match (s.lten c).hdr with
  | none => s
  | some bl =>
    if bl.length < 8 then s
    else
      let h := bl.flatMap blockBytes
      let t := headerOf h
      if crc32c (h.take 60) ≠ bytesAt h 60 4 then
        ((s.bump (TENON_CNT_HDRCRC c)).logC 0x1230 c 0).rejectTile c
      else
        let line := match (s.lten c).asm_ with
          | some a => if a.trigId = t.trigId then some (a.next, a.xNext, a.count) else none
          | none => none
        match headerFault h (s.laneFmt c) (s.linePixels c) line with
        | some off => (s.rejectTile c).violate c 0x05 off
        | none =>
          match (s.outstanding c).find? (fun (u : Trigger) => u.id == t.trigId) with
          | none => (s.rejectTile c).violate c 0x08 (t.trigId % 65536)
          | some u =>
            let s := s.iff (t.dropped != 0) (fun s => (s.bumpBy (TENON_CNT_DROPPED c) t.dropped).logC 0x1244 c t.dropped)
            let s := if line.isSome then s else
              let s := s.closeLine c
              let older := (s.outstanding c).takeWhile (fun (v : Trigger) => v.id != u.id)
              let s := older.foldl (fun s v => s.retire c v) s
              s.modTen c (fun x => { x with asm_ := some ⟨u.id, t.count, 0, 0, s.tagOf u u.tc true, [], false⟩ })
            let held := (s.lten c).hdrIn
            let s := ((s.modTen c (fun x => { x with hdr := none, hdrIn := 0, wait := some t })).queuePut c (8 - held)).tryAccept c
            s.iff (s.lten c).wait.isSome (fun s => s.bump DLV_CNT_NOENTRY)

/-! ### The blocks of a tile (R146, R152) -/

/-- SOT: an open tile ends, and a new one opens (R149, R152). -/
def State.rxSot (s : State) (c : Nat) : State :=
  let x := s.lten c
  let open_ := x.cur.isSome || x.hdr.isSome
  let s := (s.iff x.cur.isSome (fun s => s.endTile c true)).dropHdr c
  let s := (s.modTen c (fun x => { x with discard := 0, lastBad := 0 })).agedClose c
  let s := (s.modTen c (fun x => { x with hdr := some [], badInTile := false })).putBond c TENON_STATUS_TILE_OPEN 1
  s.iff open_ (fun s => s.tileViol c 0x03 0 x.badInTile)

/-- A read of the camera's registers is outstanding: a data block may be its value block (R132, R154). -/
def LaneTenon.reads (x : LaneTenon) : Bool := match x.ctrl with | some (_, _, w) => !w | none => false

/-- A data block inside or outside a tile (R132, R152); `excess` says that it lay beyond LIMIT, `held` that it counts in the
queue already. -/
def State.rxData (s : State) (c : Nat) (b : Block) (excess held : Bool) : State :=
  let x := s.lten c
  let drop := fun (s : State) => (s.queueDrop c (b2n held)).dropBlocks c 1
  match x.cur, x.hdr with
  | some n, _ =>
    let need := match s.tile n with | some t => t.bytes | none => 0
    if excess then
      (drop ((s.endTile c true).modTen c (fun x => { x with discard := 2 }))).tileViol c 0x07 0 x.badInTile
    else if x.payload < ceilDiv need 8 then
      let going := match s.tile n with | some t => t.started | none => false
      let s := (s.modTile n (fun t => { t with raw := t.raw ++ (blockBytes b).take (need - 8 * x.payload) })).modTen c
        (fun x => { x with payload := x.payload + 1 })
      let s := s.queuePut c (b2n !held)
      s.iff going (fun s => s.queueTake c 1)
    else
      (drop (s.modTen c (fun x => { x with excess := true }))).iff (!x.excess) (fun s => s.tileViol c 0x06 0 x.badInTile)
  | none, some h =>
    if excess then
      let s := ((s.dropHdr c).modTen c (fun x => { x with discard := 2 })).putBond c TENON_STATUS_TILE_OPEN 0
      ((drop s).agedClose c).tileViol c 0x07 0 x.badInTile
    else s.modTen c (fun x => { x with hdr := some (h ++ [b]), hdrIn := x.hdrIn + b2n held })
  | none, none =>
    if x.discard ≠ 0 then drop s
    else if x.lastBad = 1 ∧ x.reads then s.modTen c (fun x => { x with lastBad := 2 })
    else if x.lastBad ≠ 0 then drop (s.modTen c (fun x => { x with discard := 1, lastBad := 0 }))
    else ((s.queueDrop c (b2n held)).bump (TENON_CNT_DISCARD c)).violate c 0x02 0

/-- An EOT with CAM_ABORT and PAYLOAD_CRC (R132, R149, R152). -/
def State.rxEot (s : State) (c : Nat) (abort : Bool) (crc : Nat) : State :=
  let x := s.lten c
  let s := s.modTen c (fun x => { x with lastBad := 0 })
  match x.cur, x.hdr with
  | some n, _ =>
    let raw := match s.tile n with | some t => t.raw | none => []
    let need := match s.tile n with | some t => t.bytes | none => 0
    if x.excess then s.endTile c true
    else if abort then (s.logC 0x1235 c 0).endTile c true
    else if x.payload < ceilDiv need 8 then (s.endTile c true).tileViol c 0x06 0 x.badInTile
    else if crc32c raw ≠ crc then ((s.bump (TENON_CNT_PAYCRC c)).logC 0x1231 c 0).endTile c true
    else s.endTile c false
  | none, some h =>
    (((s.dropHdr c).putBond c TENON_STATUS_TILE_OPEN 0).agedClose c).tileViol c 0x06 h.length x.badInTile
  | none, none =>
    if x.discard ≠ 0 then s.modTen c (fun x => { x with discard := 0 }) else s.violate c 0x04 0

/-- Whether the stream stands inside a tile, behind what waits for a Ledger entry. -/
def LaneTenon.inTile (x : LaneTenon) : Bool :=
  if x.wait.isSome then
    x.items.foldl (fun (a : Bool) i => match i with | .sot => true | .eot _ _ => false | _ => a) true
  else x.cur.isSome || x.hdr.isSome || decide (x.discard ≠ 0) || (decide (x.lastBad ≠ 0) && !(x.lastBad == 1 && x.reads))

/-- One item above the block level. While a header waits for its entry everything behind it waits too, its data blocks in
the queue; a complete header is checked before what follows it. -/
def State.rxItem (s : State) (c : Nat) (i : RxItem) : State :=
  let s := s.checkHeader c
  let x := s.lten c
  if x.wait.isSome then match i with
    | .data b e h =>
      let q := x.inTile && !e
      (s.queuePut c (b2n (q && !h))).modTen c (fun x => { x with items := x.items ++ [.data b e (h || q)] })
    | _ => s.modTen c (fun x => { x with items := x.items ++ [i] })
  else match i with
    | .sot => s.rxSot c
    | .data b e h => s.rxData c b e h
    | .eot a k => s.rxEot c a k
    | .bad => s.noteBad c
    | .good => s.modTen c (fun x => { x with lastBad := 0 })

/-- A data block of the stream (R144, R145): one that belongs to a tile consumes credit and is judged against the LIMIT last
sent. -/
def State.rxPayload (s : State) (c : Nat) (b : Block) : State :=
  let x := s.lten c
  let excess := x.inTile && decide (sext 16 (trunc 16 ((x.limitSent : Int) - ceilDiv (x.received + 1) 32)) < 0)
  let s := s.iff x.inTile (fun s => s.modTen c (fun x => { x with received := x.received + 1 }))
  s.rxItem c (.data b excess false)

/-- A control block other than SOT and EOT: it is noted where it lies in the stream, and takes effect (R132). -/
def State.goodCtl (s : State) (c : Nat) : State :=
  let s := s.checkHeader c
  if (s.lten c).wait.isSome then s.modTen c (fun x => { x with items := x.items ++ [.good] })
  else s.modTen c (fun x => { x with lastBad := 0 })

/-- LEDGER_ENTRY_GRANT (R24, R153): FILL tiles and a header that wait at lane `l` take entries as far as there are any,
and what was received behind the header is processed. -/
def execLedgerEntryGrant (l : Fin 96) (s : State) : Host.Outcome State Fault Refusal :=
  let c := if s.laneEth l then l.val else s.boss l
  let fs := (s.lten c).fills
  let s := s.iff (!fs.isEmpty && (s.entryFor (s.laneStreams c)).isSome) (fun s =>
    (s.modTen c (fun x => { x with fills := [] })).addFills c fs)
  if s.laneEth l then
    .next ((s.leth l).blocks.foldl (fun s b => (s.ethEntries l b.id).ethRaws l b.id) s)
  else if (s.lten c).wait.isNone then .next s
  else
    let s := s.tryAccept c
    if (s.lten c).wait.isSome then .next s
    else
      let is := (s.lten c).items
      .next (is.foldl (fun s i => s.rxItem c i) (s.modTen c (fun x => { x with items := [] })))

/-! ### Credit (R145) -/

/-- CREDIT_REFRESH (R145). -/
def execCreditRefresh (l : Fin 96) (s : State) : Host.Outcome State Fault Refusal :=
  if s.tenUp l ∧ l.val = s.boss l then .next (s.sendCredit l) else .next s

/-! ### Latency (R138 to R140) -/

/-- The results published as L and SPREAD, in 1/256 ns, each rounded to the nearest with halves up (R139). -/
def State.publishLat (s : State) (c : Nat) (rs : List Int) : State :=
  let n := (rs.length : Int)
  let sum := rs.foldl (fun a r => a + r) 0
  let mx := rs.foldl max (rs.headD 0)
  let mn := rs.foldl min (rs.headD 0)
  let lat := if n = 0 then 0 else (2 * sum + n * 512) / (n * 1024)
  let spread := min 65535 ((2 * (mx - mn) + 512) / 1024).toNat
  ((s.wrN (TENON_LAT_VALUE c) (trunc 32 lat)).wrN (TENON_LAT_SPREAD c) (rs.length * 65536 + spread)).publish (TENON_LAT_STATUS c)

/-- Whether the spread of the results exceeds 8 ns. -/
def wideSpread (rs : List Int) : Bool := decide (16 * 65536 < rs.foldl max (rs.headD 0) - rs.foldl min (rs.headD 0))

/-- One result of a probe exchange, 2L in 2^-16 ns (R138 to R140). -/
def State.latResult (s : State) (c : Nat) (r : Int) : State :=
  let s := s.modTen c (fun x => { x with probeOut := none, results := x.results ++ [r] })
  let rs := (s.lten c).results
  if (s.lphy c).lat then
    if rs.length < 16 then s.sendProbe c
    else if wideSpread rs ∧ !(s.lten c).repeated then
      (s.modTen c (fun x => { x with results := [], repeated := true })).sendProbe c
    else
      let s := s.iff (wideSpread rs) (fun s => (s.raise 1 (TENON_EVENTS_LAT_SPREAD c)).logC 0x1242 c 0)
      (s.publishLat c rs).laneActive c
  else
    let rs := rs.drop (rs.length - 16)
    let s := (s.modTen c (fun x => { x with results := rs })).publishLat c rs
    let d := sext 32 (s.rdN (TENON_LAT_VALUE c)) - sext 32 (s.lten c).entryL
    if d.natAbs ≤ 512 ∨ (s.lten c).drift then s
    else ((s.modTen c (fun x => { x with drift := true })).raise 1 (TENON_EVENTS_LAT_DRIFT c)).logC 0x1243 c 0

/-- An LECHO block, its ingress stamped at `tin` (R138, R139): the answer to the probe outstanding yields a result. -/
def State.probeAnswer (s : State) (c : Nat) (b : Block) (tin : Int) : State :=
  match (s.lten c).probeOut with
  | none => s
  | some t =>
    if (s.lten c).probeNum ≠ blockByte b 1 then s
    else s.latResult c (tin - t - ((blockByte b 2 + 256 * blockByte b 3 + 65536 * blockByte b 4 : Nat) : Int) * 8192)

/-- PROBE_TIMEOUT (R139): no answer within 10 µs; the probe is sent again with a new number. -/
def execProbeTimeout (l : Fin 96) (s : State) : Host.Outcome State Fault Refusal :=
  if (s.lten l).probeOut.isSome ∧ ((s.lphy l).lat ∨ s.tenUp l) then .next (s.sendProbe l) else .next s

/-- LATENCY_MEASURE_TIMEOUT (R139): 16 results are not complete within 10 ms, a step timeout of R110. -/
def execLatencyMeasureTimeout (l : Fin 96) (s : State) : Host.Outcome State Fault Refusal :=
  if (s.lphy l).lat then .next ((s.modTen l (fun x => { x with probeOut := none })).waitFail l) else .next s

/-- LAT_TRACK_PROBE (R140, R159): in IDLE and WAKE as in ACTIVE. -/
def execLatTrackProbe (l : Fin 96) (s : State) : Host.Outcome State Fault Refusal :=
  if s.tenUp l ∧ l.val = s.boss l ∧ s.flagT l (TENON_CFG_LAT_TRACK l) then .next (s.sendProbe l) else .next s

/-! ### Bonds (R141 to R143) -/

/-- Every member of a bond in ACTIVE, at one grade, and the bond not formed. -/
def State.bondReady (s : State) (c : Nat) : Bool :=
  decide (1 < s.bondW c) && !s.flag (TENON_STATUS_BOND_UP c) && (s.members c).all (fun m => s.laneState m == 6 &&
    s.get (LANE_STATUS_GRADE m) == s.get (LANE_STATUS_GRADE c))

/-- The bond does not form: every member starts a new session, and 0x1234 is logged (R143). -/
def State.bondFail (s : State) (c : Nat) : State :=
  (s.members c).foldl (fun s m => (s.depart m 0x110C 6).session m 5) (s.logC 0x1234 c 0)

/-- BOND_FORM (R143): ALIGN blocks with equal sequence numbers have been matched on all members, `skew` block times
apart. -/
def execBondForm (l : Fin 96) (skew : Nat) (s : State) : Host.Outcome State Fault Refusal :=
  let c := s.boss l
  let eq := (s.members c).all (fun m => decide (256 ≤ (s.lphy m).rxAlignInfo) &&
    (s.lphy m).rxAlignInfo / 16 == (s.lphy c).rxAlignInfo / 16)
  if !s.bondReady c || !eq then .next s
  else if 32 < skew then .next (s.bondFail c)
  else .next (((s.putBond c TENON_STATUS_SKEW skew).tenonUp c).raise 1 (TENON_EVENTS_BOND_UP c))

/-- BOND_DESKEW_TIMEOUT (R143). -/
def execBondDeskewTimeout (l : Fin 96) (s : State) : Host.Outcome State Fault Refusal :=
  let c := s.boss l
  if s.bondReady c then .next (s.bondFail c) else .next s

/-! ### Triggers (R150, R157) -/

/-- TRIG_AGE_EXPIRY (R150, R153, R179, R181): TRIG_AGE has passed since the effective firing instant, or the action time,
of the outstanding trigger `id`. -/
def execTrigAgeExpiry (l : Fin 96) (id : Nat) (s : State) : Host.Outcome State Fault Refusal :=
  if s.laneEth l then
    match (s.ethOut l).find? (fun (t : Trigger) => t.id == id) with
    | none => .next s
    | some t => match (s.leth l).blocks.find? (fun (b : EthBlock) => b.trigId == id) with
      | some b => .next (s.ethClose l b.id 0x1310 true)
      | none => .next (s.ethUnserved l t)
  else
    match (s.outstanding l).find? (fun (t : Trigger) => t.id == id) with
    | none => .next s
    | some t =>
      let x := s.lten l
      match x.asm_ with
      | some a =>
        if a.trigId ≠ id then .next (s.retire l t)
        else if x.cur.isSome ∨ x.hdr.isSome ∨ x.wait.isSome then
          .next (s.modTen l (fun x => { x with asm_ := some { a with aged := true } }))
        else .next (s.closeLine l)
      | none => .next (s.retire l t)

/-- The trigger that a lane launches next: the earliest instant of those handed over (R157). -/
def State.nextLaunch (s : State) (l : Nat) : Option Trigger :=
  (s.trigs.filter (fun (t : Trigger) => t.path == 1 && t.out == l && !t.sent)).foldl
    (fun (b : Option Trigger) t => match b with
      | none => some t
      | some u => if t.tf < u.tf then some t else b) none

/-- TRIG_LAUNCH (R107, R150, R157): the chosen slot starts; its stamp lies `ago` units of 2^-16 ns before now, and EG_ASYM
is taken from it (R250). -/
def execTrigLaunch (l : Fin 96) (ago : Nat) (s : State) : Host.Outcome State Fault Refusal :=
  match s.nextLaunch l with
  | none => .next s
  | some t =>
    if !s.tenUp l || l.val != s.boss l || !s.outCommit then .next (s.reportNotSent t)
    else
      let tl := s.nowI - ago - sext 32 (s.rdN (TB_LANE_EG_ASYM l)) * 256
      let d := t.tf - tl
      if 16383 * 8192 < d then .next s
      else
        let late := decide (d < 0)
        let fine := if late then 0 else min 16383 ((2 * d + 8192) / 16384).toNat
        let eff := tl + fine * 8192
        let s := s.sendCtl l 0x50 (toBytes 2 (t.kind % 4 * 16384 + fine) ++ toBytes 4 t.id)
        let s := (s.bump (TENON_CNT_TRIG l)).iff late (fun s => (s.bump (TENON_CNT_TRIG_LATE l)).reportLate t)
        let full := decide (64 ≤ (s.outstanding l).length)
        let s := s.iff (full && t.kind == 0) (fun s => match (s.outstanding l).head? with
          | some u => s.retire l u
          | none => s)
        let s := s.modTrigs (fun ts => ts.map (fun (u : Trigger) =>
          if u.id == t.id then { u with sent := true, tf := eff, tc := eff + u.lead } else u))
        .next (s.showCommitted t.seq)

/-! ### Register access to the camera (R154 to R156) -/

/-- A value block: the value, and CRC-32C over bytes 0 to 6 of the control block and the value (R154). -/
def valueBlock (ctl : Block) (v : Nat) : Block :=
  let h := (blockBytes ctl).take 7 ++ toBytes 4 v
  blockOf (toBytes 4 v ++ toBytes 4 (crc32c h))

/-- GO takes effect (R155): the request goes out, or is counted while one is outstanding. -/
def State.ctrlGo (s : State) (l : Nat) : State :=
  if (s.lten l).ctrl.isSome then s.bump (TENON_CNT_CTRL_REFUSED l)
  else
    let w := s.flag (TENON_CTRL_CMD_WRITE l)
    let a := s.get (TENON_CTRL_ADDR_ADDR l)
    let tag := (s.lten l).nextTag
    let s := s.modTen l (fun x => { x with ctrl := some (tag, a, w), nextTag := (tag + 1) % 256 })
    let s := (s.putB (TENON_CTRL_CMD_GO l) true).putBond l TENON_STATUS_CTRL_BUSY 1
    if !s.tenUp l then s.ctrlDone l 9 0
    else
      let b := ctlBlock (if w then 0x71 else 0x70) (toBytes 1 tag ++ toBytes 2 a)
      (s.emit (.block l true b)).iff w (fun s => s.emit (.block l false (valueBlock b (s.rdN (TENON_CTRL_WDATA l)))))

/-- CTRL_GO (R155). -/
def execCtrlGo (l : Fin 96) (s : State) : Host.Outcome State Fault Refusal :=
  if s.held || l.val != s.boss l then .next s else .next (s.ctrlGo l)

/-- A CTRL_RSP block with the block that follows it: it ends the access it names (R155). -/
def State.ctrlAnswer (s : State) (c : Nat) (b : Block) (value : Option Block) : State :=
  match (s.lten c).ctrl with
  | none => s.violate c 0x09 0
  | some (t, a, w) =>
    let res := blockByte b 2
    if t ≠ blockByte b 1 ∨ a ≠ blockByte b 3 + 256 * blockByte b 4 then s.violate c 0x09 0
    else if res ≠ 0 ∨ w then s.ctrlDone c (res % 16) 0
    else match value with
      | none => s.ctrlDone c 5 0
      | some v =>
        let n := getBits v.toNat 0 32
        if valueBlock b n = v then s.ctrlDone c 0 n else s.ctrlDone c 5 0

/-- CTRL_TIMEOUT (R155). -/
def execCtrlTimeout (l : Fin 96) (s : State) : Host.Outcome State Fault Refusal :=
  if (s.lten l).ctrl.isSome then .next ((s.logC 0x1240 l 0).ctrlDone l 8 0) else .next s

/-! ### Violations over time (R162, R164) -/

/-- VIOL_DEFERRED_SEND (R162): the held VIOL block of a reason leaves, with the latest DETAIL and the window's count. -/
def execViolDeferredSend (l : Fin 96) (reason : Nat) (s : State) : Host.Outcome State Fault Refusal :=
  match (s.lten l).viols.find? (fun (v : ViolRun) => v.reason == reason) with
  | some ⟨_, n, _, some d⟩ =>
    let s := s.modTen l (fun x => { x with viols := x.viols.map (fun (v : ViolRun) =>
      if v.reason == reason then { v with lastSent := some s.tb.ticks, heldDetail := none } else v) })
    .next (s.sendViol l reason d n)
  | _ => .next s

/-- VIOL_WINDOW_END (R164): the next window starts while the lane, or a member of the bond, is in ACTIVE. -/
def execViolWindowEnd (l : Fin 96) (s : State) : Host.Outcome State Fault Refusal :=
  if !(s.members l).any s.laneUp || s.lanePers l != 1 then .next s
  else .next (s.modTen l (fun x => { x with
    viols := x.viols.map (fun (v : ViolRun) => { v with count := 0 }), violTotal := 0, limitHit := false }))

/-! ### Reception (R131 to R133, R142, R160, R161) -/

/-- EIDLE in the stream (R160, R161): the lane, or every member of the bond, goes to IDLE, or a violation. -/
def State.rxEidle (s : State) (c : Nat) : State :=
  if s.laneState c ≠ 6 then s
  else if s.flag (TENON_STATUS_TILE_OPEN c) || !s.flagT c (TENON_CFG_EIDLE_EN c) || !s.flag (TENON_PARTNER_CAP_EIDLE c) then
    s.violate c 0x0A 0
  else
    ((s.members c).foldl (fun s m => s.iff (s.laneState m == 6) (fun s => ((s.setLane m 7).putB (LANE_STATUS_FROZEN m) false).modPhy m
      (fun x => { x with idleRun := 0 }))) s).bump (TENON_CNT_EIDLE c)

/-- One block of the logical stream of the lane or bond `c` takes effect. -/
def State.rxLogic (s : State) (c : Nat) (r : RxRaw) : State :=
  match r with
  | .sot => s.rxItem c .sot
  | .data b => s.rxPayload c b
  | .eot b => s.rxItem c (.eot (bit (blockByte b 1) 0) (getBits b.toNat 16 32))
  | .bad => s.badCheck c
  | .unknown => (s.goodCtl c).violate c 0x01 0
  | .rsp b v => (s.goodCtl c).ctrlAnswer c b v
  | .viol b => (((s.goodCtl c).bump (TENON_CNT_VIOL_RX c)).raise 1 (TENON_EVENTS_PARTNER_VIOL c)).logOnce 0x1245 c c
      (blockByte b 1 * 65536 + blockByte b 2 + 256 * blockByte b 3)
  | .lecho b t => (s.goodCtl c).probeAnswer c b t
  | .eidle => (s.goodCtl c).rxEidle c
  | .idle _ => s.goodCtl c
  | .align _ | .lost _ => s

/-- How many blocks an item of a member's queue stands for, and what is left of it after one. -/
def RxRaw.count : RxRaw → Nat
  | .idle n => max 1 n
  | .lost n => max 1 n
  | _ => 1
def RxRaw.rest : RxRaw → List RxRaw
  | .idle (n + 2) => [.idle (n + 1)]
  | .lost (n + 2) => [.lost (n + 1)]
  | _ => []

/-- The ALIGN slot that every member of bond `c` has reached, of those in the queue of member `p`. -/
def State.alignAll (s : State) (c p : Nat) : Option RxRaw :=
  (s.lten (c + p)).rxq.find? (fun r => (match r with | .align _ => true | _ => false) &&
    (s.members c).all (fun m => (s.lten m).rxq.contains r))

/-- Every member of bond `c` goes on behind the ALIGN slot `r`, position 0 first. -/
def State.alignPass (s : State) (c : Nat) (r : RxRaw) : State :=
  ((s.members c).foldl (fun s m => s.modTen m (fun x => { x with rxq := (x.rxq.dropWhile (fun q => q != r)).drop 1 })) s).modTen c
    (fun x => { x with turn := 0 })

/-- The members' blocks interleaved again, block j after an ALIGN at position j mod W (R142): as far as the member whose turn
it is has a block. -/
def State.rxDrain (s : State) (c : Nat) : Nat → State
  | 0 => s
  | fuel + 1 =>
    let p := (s.lten c).turn
    match (s.lten (c + p)).rxq with
    | [] => s
    | .align _ :: _ => match s.alignAll c p with
      | none => s
      | some r => (s.alignPass c r).rxDrain c fuel
    | r :: t =>
      let s := s.modTen (c + p) (fun x => { x with rxq := r.rest ++ t })
      let s := s.modTen c (fun x => { x with turn := (p + 1) % s.bondW c })
      (s.rxLogic c r).rxDrain c fuel

/-- A member's block joins the bond's stream. -/
def State.rxJoin (s : State) (l : Nat) (r : RxRaw) : State :=
  let s := s.modTen l (fun x => { x with rxq := x.rxq ++ [r] })
  s.rxDrain (s.boss l) (((s.members l).map (fun m => ((s.lten m).rxq.map RxRaw.count).sum)).sum)

/-- A block arrives on lane `l`: dropped unless the lane or bond is up, discarded while a lock is clear (R104), and else a
block of the logical stream. -/
def State.rxArrive (s : State) (l : Nat) (r : RxRaw) : State :=
  if !s.tenUp l then s
  else if !s.rxOpen l then s.iff (decide (1 < s.bondW l)) (fun s => s.rxJoin l (.lost r.count))
  else
    let idle := match r with | .idle _ => true | _ => false
    let s := if r = .eidle ∧ s.laneState l = 7 then s else s.rxBlock l idle
    if !s.tenUp l then s
    else if s.bondW l = 1 then s.rxLogic l r
    else s.rxJoin l r

/-- A received control block of TYPE `type`: what it is, or one with a wrong CHECK (R131 to R133). -/
def State.rxCtl (s : State) (l : Nat) (b : Block) (type : Nat) (r : RxRaw) : State :=
  if blockByte b 0 ≠ type then s else s.rxArrive l (if checkOk b then r else .bad)

/-- SOT_RECEIVE (R146, R152). -/
def execSotReceive (l : Fin 96) (b : Block) (s : State) : Host.Outcome State Fault Refusal := .next (s.rxCtl l b 0x30 .sot)

/-- TILE_HEADER_RECEIVE (R149): the 8 header blocks have arrived. -/
def execTileHeaderReceive (l : Fin 96) (s : State) : Host.Outcome State Fault Refusal :=
  .next (s.checkHeader (s.boss l))

/-- PAYLOAD_BLOCK_RECEIVE (R144, R145, R152): a data block arrives. -/
def execPayloadBlockReceive (l : Fin 96) (b : Block) (s : State) : Host.Outcome State Fault Refusal :=
  .next (s.rxArrive l (.data b))

/-- EOT_RECEIVE (R152). -/
def execEotReceive (l : Fin 96) (b : Block) (s : State) : Host.Outcome State Fault Refusal := .next (s.rxCtl l b 0x31 (.eot b))

/-- CONTROL_BLOCK_BAD_CHECK (R132): in training, or before a bond has formed, it is only counted. -/
def execControlBlockBadCheck (l : Fin 96) (b : Block) (s : State) : Host.Outcome State Fault Refusal :=
  let st := s.laneState l
  if checkOk b || s.lanePers l != 1 || decide (st < 2) || decide (9 ≤ st) || !s.flag (LANE_STATUS_BLOCK_LOCK l) then .next s
  else if s.tenUp l then .next (s.rxArrive l .bad)
  else if s.laneUp l && !s.rxOpen l then .next s
  else .next ((s.rxBlock l false).badCheck l)

/-- The control block types that a camera may send (R133). -/
def cameraTypes : List Nat := [0x10, 0x20, 0x30, 0x31, 0x58, 0x61, 0x72, 0x7F]

/-- UNKNOWN_TYPE_RECEIVE (R133): a control block with a correct CHECK and a TYPE that no camera sends. -/
def execUnknownTypeReceive (l : Fin 96) (b : Block) (s : State) : Host.Outcome State Fault Refusal :=
  if blockByte b 0 ∈ cameraTypes then .next s else .next (s.rxCtl l b (blockByte b 0) .unknown)

/-- VIOL_RECEIVE (R165). -/
def execViolReceive (l : Fin 96) (b : Block) (s : State) : Host.Outcome State Fault Refusal := .next (s.rxCtl l b 0x7F (.viol b))

/-- CTRL_RSP_RECEIVE (R154, R155): a response, and the value block that follows it at once when the result is OK for a
read. -/
def execCtrlRspReceive (l : Fin 96) (b : Block) (value : Option Block) (s : State) : Host.Outcome State Fault Refusal :=
  .next (s.rxCtl l b 0x72 (.rsp b value))

/-- LECHO_RECEIVE (R138, R139): the LECHO's sync header arrived `ago` units of 2^-16 ns before now; its stamp is less the
lane's IN_ASYM (R250). -/
def execLechoReceive (l : Fin 96) (b : Block) (ago : Nat) (s : State) : Host.Outcome State Fault Refusal :=
  let tin := s.nowI - ago - sext 32 (s.rdN (TB_LANE_IN_ASYM l)) * 256
  if s.lanePers l ≠ 1 ∨ blockByte b 0 ≠ 0x61 ∨ !s.flag (LANE_STATUS_BLOCK_LOCK l) then .next s
  else if (s.lphy l).lat then
    if checkOk b then .next (s.probeAnswer l b tin) else .next (s.badCheck l)
  else .next (s.rxCtl l b 0x61 (.lecho b tin))

/-- EIDLE_RECEIVE (R160, R161). -/
def execEidleReceive (l : Fin 96) (b : Block) (s : State) : Host.Outcome State Fault Refusal := .next (s.rxCtl l b 0x58 .eidle)

/-- IDLE_BLOCK_RECEIVE (R119, R161): `n` Tenon IDLE blocks in a row, with correct CHECK. -/
def execIdleBlockReceive (l : Fin 96) (n : Nat) (s : State) : Host.Outcome State Fault Refusal :=
  if n = 0 ∨ !s.rxOpen l then .next s
  else .next ((s.rxArrive l (.idle n)).iff (s.laneState l == 6) (fun s => s.modPhy l (fun x => { x with idleRun := x.idleRun + n })))

end Sys2Proof.Machine
end

