-- ==== Sys2Proof/Machine/Eth.lean ====
section
/-!
DEFINITION. The Ethernet personality's commands (R170 to R188): frames, GVSP blocks, resends, camera setup, PTP and
scheduled actions.
-/

namespace Sys2Proof.Machine

open Reg

/-- Whether lane `l` is an Ethernet lane in ACTIVE. -/
def State.ethUp (s : State) (l : Nat) : Bool := s.laneEth l && s.laneState l == 6

/-! ### Frames sent (R172) -/

/-- An Ethernet frame is ready to be sent. -/
def State.ethSend (s : State) (l : Nat) (m : EthMsg) : State := s.modEth l (fun x => { x with txq := x.txq ++ [m] })

/-- The order in which frames ready in one slot go out: action, PTP, resend, firmware traffic (R172). -/
def EthMsg.rank : EthMsg → Nat
  | .action .. => 0
  | .ptp .. => 1
  | .announce .. => 1
  | .resend .. => 2
  | _ => 3

/-- The egress stamp of lane `l`, less EG_ASYM (R249, R250): its place within the tick is a free value. -/
def State.egress (s : State) (l : Nat) : Int × State :=
  let r := s.txStamp
  (r.1 - sext 32 (s.rdN (TB_LANE_EG_ASYM l)) * 256, r.2)

/-- A frame slot of lane `l`: of the frames ready, the first one of the lowest rank leaves (R172). A Sync is stamped as it
leaves, and its Follow_Up is ready then (R182). -/
def State.ethSlot (s : State) (l : Nat) : State :=
  let q := (s.leth l).txq
  match q.find? (fun m => q.all (fun n => decide (m.rank ≤ n.rank))) with
  | none => s
  | some m =>
    let s := (s.modEth l (fun x => { x with txq := x.txq.erase m })).emit (.eth l m)
    match m with
    | .ptp 0 d n _ => let r := s.egress l
                      r.2.ethSend l (.ptp 1 d n r.1)
    | _ => s

/-- A frame slot on every lane that has a frame ready. -/
def State.ethSlots (s : State) : State :=
  (s.eth.filter (fun (e : Nat × EthLane) => !e.2.txq.isEmpty)).foldl (fun s e => s.ethSlot e.1) s

/-! ### Frames (R170 to R173) -/

/-- The lane's MAC address on node N (R172). -/
def State.laneMac (s : State) (l : Nat) : List Byte :=
  [0x02, 0x47, 0x57] ++ [BitVec.ofNat 8 (s.nodeId / 256), BitVec.ofNat 8 s.nodeId, BitVec.ofNat 8 l]

/-- `k` bytes from position `i` on, most significant first. -/
def beAt (f : List Byte) (i k : Nat) : Nat := ((f.drop i).take k).foldl (fun a b => a * 256 + b.toNat) 0

/-- The ones' complement sum of 16-bit words that IP and UDP checksums use. -/
def inetSum : List Byte → Nat
  | a :: b :: t => a.toNat * 256 + b.toNat + inetSum t
  | [a] => a.toNat * 256
  | [] => 0
/-- A sum folded to 16 bits. -/
def inetFold (n : Nat) : Nat :=
  let a := n % 65536 + n / 65536
  let b := a % 65536 + a / 65536
  b % 65536 + b / 65536

/-- Whether an IPv4 packet passes the tests of R173; packets to 224.0.1.129 at the PTP ports pass for R182. -/
def State.ipOk (s : State) (l : Nat) (p : List Byte) : Bool :=
  let total := beAt p 2 2
  let ulen := total - 20
  let u := (p.drop 20).take ulen
  let dst := beAt p 16 4
  let ptp := dst == 0xE0000181 && (beAt u 2 2 == 319 || beAt u 2 2 == 320)
  let pseudo := beAt p 12 2 + beAt p 14 2 + beAt p 16 2 + beAt p 18 2 + 17 + ulen
  beAt p 0 1 == 0x45 && inetFold (inetSum (p.take 20)) == 0xFFFF && beAt p 6 2 % 0x4000 == 0 &&
    (dst == s.rdN (ETH_LANE_IP l) || ptp) && beAt p 12 4 == s.rdN (ETH_CAMERA_IP l) && beAt p 9 1 == 17 &&
    (beAt u 6 2 == 0 || inetFold (pseudo + inetSum u) == 0xFFFF)

/-- Whether a UDP packet is not GVSP, or has the format leader, payload or trailer (R173, R178). PRESUMED: GigE Vision puts
packet_format into bits 3:0 of byte 4 of the GVSP header, 1 leader, 2 trailer, 3 payload. -/
def gvspOk (u : List Byte) : Bool :=
  beAt u 2 2 != 0xC100 || (let k := beAt u 12 1 % 16
                           decide (1 ≤ k) && decide (k ≤ 3))

/-- Whether a frame with a correct FCS is passed on (R170, R171, R173, R178). PTP of R182 comes to the MAC address of
224.0.1.129. -/
def State.frameOkFor (s : State) (l : Nat) (f : List Byte) : Bool :=
  let dst := f.take 6
  let body := if beAt f 12 2 = 0x8100 then f.drop 16 else f.drop 12
  let ty := beAt body 0 2
  let ip := body.drop 2
  let ptp := ty == 0x0800 && beAt ip 16 4 == 0xE0000181
  let mac := dst == s.laneMac l || beAt f 0 6 == 0xFFFFFFFFFFFF || (ptp && beAt f 0 6 == 0x01005E000181)
  mac && (ty == 0x0806 || (ty == 0x0800 && s.ipOk l ip && gvspOk (ip.drop 20)))

/-- ETH_FRAME_RECEIVE (R170 to R173, R24): a frame of the camera, from the destination address to the payload, with
whether its FCS is correct and the FEC blocks corrected and uncorrectable since the last frame. Its blocks are not idle, so
a frozen equaliser adapts again (R119). What passes the filter
arrives as its own command; a frame that finds the queue full is lost. -/
def execEthFrameReceive (l : Fin 96) (f : List Byte) (fcs : Bool) (corr uncorr : Nat) (s : State) :
    Host.Outcome State Fault Refusal :=
  if !s.ethUp l then .next s
  else
    let s := (s.bumpBy (ETH_CNT_FEC_CORR l) corr).iff (decide (0 < uncorr)) (fun s =>
      (s.bumpBy (ETH_CNT_FEC_UNCORR l) uncorr).ethLog l 0x1301)
    let s := (s.putB (LANE_STATUS_FROZEN l) false).iff fcs (fun s => s.bump (ETH_CNT_FRAMES l))
    let n := f.length + 4
    if !fcs || n < 64 || 9216 < n then .next ((s.bump (ETH_CNT_FCS l)).iff (!fcs) (fun s => s.ethLog l 0x1302))
    else
      if !s.frameOkFor l f then .next (s.bump (ETH_CNT_FILTERED l))
      else if 65536 < (s.lten l).queue * 8 + f.length then
        .next (((s.bump (ETH_CNT_OVERFLOW l)).raise 1 (ETH_EVENTS_OVERFLOW l)).ethLog l 0x1320)
      else .next s

/-! ### GVSP (R178 to R181) -/

/-- The pixel_format code of a FORMAT (R178). -/
def pfnc : Nat → Nat
  | 1 => 0x010A0046 | 2 => 0x010C0047 | 3 => 0x01100007 | 4 => 0x02180014 | 5 => 0x02180015 | _ => 0x01080001

/-- Whether a leader passes the tests of R178 (payload type Image is 1). -/
def State.leaderOk (s : State) (l : Nat) (h : Sys2Proof.Leader) : Bool :=
  h.payloadType == 1 && h.pixelFormat == pfnc (s.laneFmt l) && h.sizeX == s.linePixels l && s.linePixels l != 0 &&
    h.sizeY == 1 && h.offsetX == 0 && h.offsetY == 0 && h.padX == 0 && h.padY == 0

/-- The outstanding triggers that no open block serves, oldest first. -/
def State.ethFree (s : State) (l : Nat) : List Trigger :=
  (s.ethOut l).filter (fun (t : Trigger) => !(s.leth l).blocks.any (fun (b : EthBlock) => b.trigId == t.id))

/-- The matching of R179 for a leader time-stamp `ts` in ns, over the outstanding triggers: those retired, and the match
if there is one. -/
def matchTrig (useTs : Bool) (ts lat win : Int) : List Trigger → List Trigger × Option Trigger
  | [] => ([], none)
  | e :: t =>
    let at_ := e.actTime / 65536 + lat
    if !useTs || decide ((ts - at_).natAbs ≤ win.toNat) then ([], some e)
    else if at_ + win < ts then
      let r := matchTrig useTs ts lat win t
      (e :: r.1, r.2)
    else ([], none)

/-- GVSP_LEADER_RECEIVE (R178, R179): a leader of block `id`, with its extended-ID flag, its fields and its time-stamp in
ns of PTP time. -/
def execGvspLeaderReceive (l : Fin 96) (ei : Bool) (id : Nat) (h : Sys2Proof.Leader) (ts : Nat) (s : State) :
    Host.Outcome State Fault Refusal :=
  if !s.ethUp l then .next s
  else if !ei then .next (s.bump (ETH_CNT_FILTERED l))
  else if (s.ethBlk l id).isSome ∨ (s.leth l).dropId = some id then .next s
  else if (match (s.leth l).lastId with | some k => decide (id ≤ k) | none => false) then .next (s.bump (ETH_CNT_STALE l))
  else
    let skip := match (s.leth l).lastId with | some k => id - k - 1 | none => 0
    let s := s.modEth l (fun x => { x with lastId := some id })
    let s := s.iff (decide (0 < skip)) (fun s =>
      let s := (((s.bumpBy (ETH_CNT_LOSTBLK l) skip).raise 1 (ETH_EVENTS_LOST_BLOCK l)).ethLog l 0x1311)
      ((s.ethFree l).take skip).foldl (fun s t => s.ethUnserved l t) s)
    let m := matchTrig (s.flagE l (ETH_CFG_TS_MATCH l)) ts (s.getE l (ETH_CAM_LAT_TRIG_LAT l))
      (s.getE l (ETH_TIMERS_MATCH_US l) * 1000 : Nat) (s.ethFree l)
    let s := m.1.foldl (fun s t => s.ethUnserved l t) s
    let ok := s.leaderOk l h
    let s := s.iff (!ok) (fun s => s.ethLog l 0x1312)
    match m.2 with
    | none =>
      let s := s.modEth l (fun x => { x with dropId := some id })
      .next (((s.bump (ETH_CNT_UNMATCHED l)).raise 1 (ETH_EVENTS_UNMATCHED l)).ethLog l 0x1313)
    | some t =>
      if !ok then .next ((s.modEth l (fun x => { x with dropId := some id })).ethUnserved l t)
      else
        let useTs := s.flagE l (ETH_CFG_TS_USE l)
        let tc := if useTs then nsT ts + t.centre else t.tc
        let b : EthBlock := ⟨id, t.id, s.tagOf t tc (!useTs), [], [], [], 0, false, [], false, false, List.replicate (s.ethTiles l) none⟩
        .next (s.modEth l (fun x => { x with blocks := x.blocks ++ [b] }))

/-- The first contiguous range of a rising list of packet IDs. -/
def firstRange : List Nat → Option (Nat × Nat)
  | [] => none
  | a :: t => some (a, t.foldl (fun e p => if p = e + 1 then p else e) a)

/-- The packets of a block that are known to be missing (R181): below the highest packet ID received, or, once the trailer
came or RESEND_WAIT passed after the last packet, all that are not there, the trailer as the one after the payload packets.
Those the camera cannot supply are left out. -/
def State.ethMissing (s : State) (l : Nat) (b : EthBlock) : List Nat :=
  let top := b.pkts.foldl (fun a q => max a q.1) 0
  (((b.missing (s.ethPkts l)).filter (fun p => b.ended || decide (p < top))) ++ (if b.ended && !b.trailer then [s.ethPkts l + 1] else [])).filter
    (fun p => !decide (p ∈ b.gone))

/-- Whether every packet of a block is there, the trailer too. -/
def State.ethWhole (s : State) (l : Nat) (b : EthBlock) : Bool := b.trailer && (b.missing (s.ethPkts l)).isEmpty

/-- A detection of R181 for block `id`: a resend request for the range while one is left; else the block closes, unless it
is still arriving. -/
def State.ethDetect (s : State) (l id : Nat) (range : Option (Nat × Nat)) : State :=
  match s.ethBlk l id with
  | none => s
  | some b =>
    if s.ethWhole l b then s.ethClose l id 0 false
    else if b.waiting then s
    else match range with
      | none => s.iff b.ended (fun s => s.ethClose l id 0x1310 true)
      | some (lo, hi) =>
        if b.resends < s.getE l (ETH_CFG_RESEND_MAX l) then
          let s := (s.ethSend l (.resend id lo hi)).bump (ETH_CNT_RESEND_REQ l)
          let ps := (List.range (hi + 1 - lo)).map (fun k => lo + k)
          s.modBlk l id (fun b => { b with resends := b.resends + 1, waiting := true, asked := b.asked ++ ps, asking := ps })
        else s.iff b.ended (fun s => s.ethClose l id 0x1310 true)

/-- The wait for a request ends when the camera cannot supply what is still missing of its range (R181). -/
def State.ethUnwait (s : State) (l id : Nat) : State :=
  match s.ethBlk l id with
  | none => s
  | some b =>
    if b.waiting && b.asking.any (fun p => decide (p ∈ b.gone)) && b.asking.all (fun p => decide (p ∈ b.gone) || (b.packet p).isSome ||
        (b.trailer && decide (s.ethPkts l < p))) then
      (s.modBlk l id (fun b => { b with waiting := false })).ethDetect l id (firstRange (s.ethMissing l b))
    else s

/-- GVSP_PAYLOAD_RECEIVE (R178, R180, R181): payload packet `pid` of block `id` with its payload, or (`unavail`) the
camera's answer that it cannot send that packet again. -/
def execGvspPayloadReceive (l : Fin 96) (ei : Bool) (id pid : Nat) (data : List Byte) (unavail : Bool) (s : State) :
    Host.Outcome State Fault Refusal :=
  if !s.ethUp l then .next s
  else if !ei then .next (s.bump (ETH_CNT_FILTERED l))
  else match s.ethBlk l id with
    | none =>
      .next (s.iff ((s.leth l).dropId != some id && (match (s.leth l).lastId with | some k => decide (id ≤ k) | none => false))
        (fun s => s.bump (ETH_CNT_STALE l)))
    | some b =>
      let n := s.ethPkts l
      if unavail then .next ((s.modBlk l id (fun b => { b with gone := b.gone ++ [pid] })).ethUnwait l id)
      else if pid = 0 ∨ n < pid ∨ (b.packet pid).isSome ∨ (pid ≠ n ∧ data.length ≠ s.ethS l) then .next s
      else
        let top := b.pkts.foldl (fun a q => max a q.1) 0
        let s := s.iff (decide (pid ∈ b.asked)) (fun s => s.bump (ETH_CNT_RESEND_RX l))
        let s := s.modBlk l id (fun b => { b with pkts := b.pkts ++ [(pid, data)] })
        let s := ((s.ethEntries l id).ethRaws l id).ethRefill l
        let gap := if top + 1 < pid then some (top + 1, pid - 1) else none
        match gap, s.ethBlk l id with
        | none, some b => .next (if s.ethWhole l b then s.ethClose l id 0 false else s.ethUnwait l id)
        | some r, _ => .next (s.ethDetect l id (some r))
        | none, none => .next s

/-- GVSP_TRAILER_RECEIVE (R181). -/
def execGvspTrailerReceive (l : Fin 96) (ei : Bool) (id : Nat) (s : State) : Host.Outcome State Fault Refusal :=
  if !s.ethUp l then .next s
  else if !ei then .next (s.bump (ETH_CNT_FILTERED l))
  else match s.ethBlk l id with
    | none =>
      .next (s.iff ((s.leth l).dropId != some id && (match (s.leth l).lastId with | some k => decide (id ≤ k) | none => false))
        (fun s => s.bump (ETH_CNT_STALE l)))
    | some b =>
      let b' := { b with trailer := true, ended := true }
      let s := s.modBlk l id (fun _ => b')
      .next (s.ethDetect l id (firstRange (s.ethMissing l b')))

/-- RESEND_WAIT_EXPIRY (R181): RESEND_WAIT has passed after a request, or, where none is waited for, after the last packet
of an open block. -/
def execResendWaitExpiry (l : Fin 96) (id : Nat) (s : State) : Host.Outcome State Fault Refusal :=
  match s.ethBlk l id with
  | none => .next s
  | some b =>
    let b' := { b with waiting := false, ended := b.ended || !b.waiting }
    .next ((s.modBlk l id (fun _ => b')).ethDetect l id (firstRange (s.ethMissing l b')))

/-! ### ARP and camera setup (R174 to R177) -/

/-- The first GVCP command of a lane goes out, or goes out again. -/
def State.gvcpSend (s : State) (l : Nat) : State :=
  match (s.leth l).gvcp with
  | [] => s
  | c :: _ => s.ethSend l (.gvcp c.op c.addr c.value)

/-- A GVCP command joins those of the lane; it goes out when no other is waited for (R176). -/
def State.gvcpPush (s : State) (l why op addr value : Nat) : State :=
  let idle := (s.leth l).gvcp.isEmpty
  (s.modEth l (fun x => { x with gvcp := x.gvcp ++ [⟨why, op, addr, value⟩] })).iff idle (fun s => s.gvcpSend l)

/-- The first GVCP command is acknowledged or given up: the next one goes out. -/
def State.gvcpNext (s : State) (l : Nat) : State :=
  (s.modEth l (fun x => { x with gvcp := x.gvcp.drop 1, tries := 0 })).gvcpSend l

/-- Whether the GVCP command waited for was sent for `why`. -/
def State.gvcpIs (s : State) (l why : Nat) : Bool :=
  match (s.leth l).gvcp with | c :: _ => c.why == why | [] => false

/-- The request of port `p` behind a host access is answered, unless it was abandoned (R176, R416). -/
def State.accessDone (s : State) (p result : Nat) (payload : List Byte) : State :=
  s.iff (decide (p ∈ s.mc.mboxLate)) (fun s => s.answerFree p result payload)

/-- Setup starts from its first step: an ARP request for CAMERA_IP (R174, R175). -/
def State.setupBegin (s : State) (l : Nat) : State :=
  let s := s.modEth l (fun x => { x.holdBack with
    setup := true, retryWait := false, arps := 0, script := 0, scriptWait := false, syncReg := none })
  (s.put (ETH_STATUS_SETUP_STEP l) 1).ethSend l (.arp false (s.rdN (ETH_CAMERA_IP l)))

/-- A setup step fails: 0x1342 with the step, READY cleared, and a delay of 1 s that doubles up to 16 s (R175). -/
def State.setupFail (s : State) (l : Nat) : State :=
  let s := (s.logLim 0x1342 l l (s.get (ETH_STATUS_SETUP_STEP l)) true []).ethNotReady l
  s.modEth l (fun x => { x.holdBack with setup := false, retryWait := true, retry := x.retry + 1, scriptWait := false })

/-- Control of the camera is refused or lost (R176). -/
def State.controlLost (s : State) (l : Nat) : State :=
  ((s.putB (ETH_STATUS_CTRL_HELD l) false).ethLog l 0x1341)

/-- The host accesses that waited behind setup join the lane's GVCP commands (R176). -/
def State.accessGo (s : State) (l : Nat) : State :=
  (s.leth l).access.foldl (fun s c => s.gvcpPush l c.why c.op c.addr c.value) (s.modEth l (fun x => { x with access := [] }))

/-- Setup is complete: READY, and the accesses that waited go out (R175, R176). -/
def State.setupReady (s : State) (l : Nat) : State :=
  let s := (((s.put (ETH_STATUS_SETUP_STEP l) 7).putB (ETH_STATUS_READY l) true).raise 1 (ETH_EVENTS_READY l)).ethLog l 0x1343
  (s.modEth l (fun x => { x with setup := false, retry := 0 })).accessGo l

/-- Step 6: with PTP_EN the master port starts and CAM_SYNCED is awaited; else setup is complete (R175). -/
def State.setupSync (s : State) (l : Nat) : State :=
  if !s.flagE l (ETH_CFG_PTP_EN l) then s.setupReady l
  else
    let s := (s.put (ETH_STATUS_SETUP_STEP l) 6).modEth l (fun x => { x with ptp := true })
    s.iff (s.flag (ETH_STATUS_CAM_SYNCED l)) (fun s => s.setupReady l)

/-- Word `w` of record `i` of the camera script (R177). -/
def State.scriptWord (s : State) (i w : Nat) : Nat := s.rdN (CAM_SCRIPT (4 * i + w))

/-- The lane's next record from `i` on: the table ends at LANE 0xFF. -/
def State.scriptNext (s : State) (l : Nat) : Nat → Nat → Option Nat
  | 0, _ => none
  | k + 1, i => if s.scriptWord i 0 % 256 = 0xFF ∨ 4096 ≤ i then none
      else if s.scriptWord i 0 % 256 = l then some i else s.scriptNext l k (i + 1)

/-- Step 5: the lane's next script record begins; after the last one step 6 does (R175, R177). -/
def State.setupScript (s : State) (l : Nat) : Nat → State
  | 0 => s
  | k + 1 => match s.scriptNext l 4096 (s.leth l).script with
    | none => s.setupSync l
    | some i =>
      let s := s.modEth l (fun x => { x with script := i })
      let adr := s.scriptWord i 1
      let val := s.scriptWord i 2
      match getBits (s.scriptWord i 0) 8 8 with
      | 1 => s.gvcpPush l 0 2 adr val
      | 2 => s.gvcpPush l 0 1 adr 0
      | 3 => s.modEth l (fun x => { x with scriptWait := true })
      | 4 => (s.modEth l (fun x => { x with syncReg := some (adr, s.scriptWord i 3, val), script := i + 1 })).setupScript l k
      | _ => (s.modEth l (fun x => { x with script := i + 1 })).setupScript l k

/-- The registers of step 4 in order: destination address, destination port, packet size, extended block IDs (R175). -/
def State.streamRegs (s : State) (l : Nat) : List (Nat × Nat) :=
  [(0x0D18, s.rdN (ETH_LANE_IP l)), (0x0D00, 0xC100), (0x0D04, s.getE l (ETH_SIZES_PKT_SIZE l)), (0x0D24, 1)]

/-- The command of the present step is sent: DISCOVERY, the control channel privilege with exclusive access, a register of
stream channel 0, or the script's record (R175 to R177). -/
def State.setupSend (s : State) (l : Nat) : State :=
  match s.get (ETH_STATUS_SETUP_STEP l) with
  | 2 => s.gvcpPush l 0 0 0 0
  | 3 => s.gvcpPush l 0 2 0x0A00 1
  | 4 => match (s.streamRegs l)[(s.leth l).part]? with
    | some r => s.gvcpPush l 0 2 r.1 r.2
    | none => s
  | 5 => s.setupScript l 4096
  | _ => s

/-- Step `k` of the setup begins. -/
def State.setupGoto (s : State) (l k : Nat) : State :=
  ((s.modEth l (fun x => { x with part := 0 })).put (ETH_STATUS_SETUP_STEP l) k).setupSend l

/-- The setup's command has been acknowledged: `ok` says whether with success, `value` what it read (R175 to R177). -/
def State.setupAck (s : State) (l : Nat) (ok : Bool) (value : Nat) : State :=
  match s.get (ETH_STATUS_SETUP_STEP l) with
  | 2 => if ok then s.setupGoto l 3 else s.setupFail l
  | 3 => if ok then (s.putB (ETH_STATUS_CTRL_HELD l) true).setupGoto l 4 else (s.controlLost l).setupFail l
  | 4 =>
    if !ok then s.setupFail l
    else if (s.leth l).part < 3 then (s.modEth l (fun x => { x with part := x.part + 1 })).setupSend l
    else s.setupGoto l 5
  | 5 =>
    let i := (s.leth l).script
    if ok && (getBits (s.scriptWord i 0) 8 8 != 2 || Nat.land value (s.scriptWord i 3) == s.scriptWord i 2) then
      (s.modEth l (fun x => { x with script := i + 1 })).setupScript l 4096
    else s.setupFail l
  | _ => s

/-- CAMERA_SETUP (R175, R177): firmware's next step of the setup. On a lane that is in ACTIVE and neither ready nor in
setup it begins; in step 1 it goes on once ARP_OK is set; else the camera acknowledges the command waited for, `ok` saying
whether with success, and `value` what it read. -/
def execCameraSetup (l : Fin 96) (ok : Bool) (value : Word) (s : State) : Host.Outcome State Fault Refusal :=
  let x := s.leth l
  if !s.ethUp l || x.retryWait || s.flag (ETH_STATUS_READY l) then .next s
  else if !x.setup then .next (s.setupBegin l)
  else if s.get (ETH_STATUS_SETUP_STEP l) = 1 then .next (s.iff (s.flag (ETH_STATUS_ARP_OK l)) (fun s => s.setupGoto l 2))
  else .next (s.iff (s.gvcpIs l 0) (fun s => (s.gvcpNext l).setupAck l ok value.toNat))

/-- SETUP_RETRY_EXPIRY (R175). -/
def execSetupRetryExpiry (l : Fin 96) (s : State) : Host.Outcome State Fault Refusal :=
  if s.ethUp l ∧ (s.leth l).retryWait then .next (s.setupBegin l) else .next s

/-- The third failure of the GVCP command waited for (R176): a setup step fails; without its heartbeat control is lost;
a poll that nothing answers leaves the camera unsynchronised, and fails step 6 while setup waits there; a host's access is
answered REFUSED. -/
def State.gvcpFailed (s : State) (l : Nat) : State :=
  match (s.leth l).gvcp with
  | [] => s
  | c :: _ =>
    let s := s.modEth l (fun x => { x with gvcp := x.gvcp.drop 1, tries := 0 })
    match c.why with
    | 0 => s.setupFail l
    | 1 => ((s.controlLost l).ethNotReady l).setupBegin l
    | 2 =>
      let s := s.putB (ETH_STATUS_CAM_SYNCED l) false
      if (s.leth l).setup ∧ s.get (ETH_STATUS_SETUP_STEP l) = 6 then s.setupFail l else s.gvcpSend l
    | w => (s.gvcpSend l).accessDone (w - 10) rRefused []

/-- GVCP_ACK_TIMEOUT (R176): no acknowledgement within 20 ms; two retries, then it has failed. -/
def execGvcpAckTimeout (l : Fin 96) (s : State) : Host.Outcome State Fault Refusal :=
  if !s.ethUp l || (s.leth l).gvcp.isEmpty then .next s
  else if (s.leth l).tries < 2 then .next ((s.modEth l (fun x => { x with tries := x.tries + 1 })).gvcpSend l)
  else .next (s.gvcpFailed l)

/-- CAMERA_SCRIPT_WAIT_EXPIRY (R177). -/
def execCameraScriptWaitExpiry (l : Fin 96) (s : State) : Host.Outcome State Fault Refusal :=
  if !(s.leth l).scriptWait then .next s
  else .next ((s.modEth l (fun x => { x with scriptWait := false, script := x.script + 1 })).setupScript l 4096)

/-- ARP_RETRY (R174): every 100 ms until the camera answers; after 1 s without an answer 0x1340. -/
def execArpRetry (l : Fin 96) (s : State) : Host.Outcome State Fault Refusal :=
  if !s.ethUp l || !(s.leth l).setup || s.get (ETH_STATUS_SETUP_STEP l) != 1 || s.flag (ETH_STATUS_ARP_OK l) then .next s
  else
    let s := (s.modEth l (fun x => { x with arps := x.arps + 1 })).ethSend l (.arp false (s.rdN (ETH_CAMERA_IP l)))
    .next (s.iff ((s.leth l).arps % 10 == 0) (fun s => s.ethLog l 0x1340))

/-- ARP_REPLY_RECEIVE (R174): the camera's MAC address is resolved. -/
def execArpReplyReceive (l : Fin 96) (mac : Nat) (s : State) : Host.Outcome State Fault Refusal :=
  if !s.ethUp l then .next s
  else .next ((s.wr64 (ETH_CAM_MAC l) (mac % 2 ^ 48)).putB (ETH_STATUS_ARP_OK l) true)

/-- ARP_REQUEST_RECEIVE (R174): an ARP request for `ip`, answered when it is LANE_IP. -/
def execArpRequestReceive (l : Fin 96) (ip : Word) (s : State) : Host.Outcome State Fault Refusal :=
  if s.ethUp l ∧ ip = s.rd (ETH_LANE_IP l) then .next (s.ethSend l (.arp true ip.toNat)) else .next s

/-- HEARTBEAT_READ (R176): the heartbeat register is read; while that read is waited for, the camera acknowledges it, `ok`
saying whether control still stands. Control refused or lost restarts setup. -/
def execHeartbeatRead (l : Fin 96) (ok : Bool) (s : State) : Host.Outcome State Fault Refusal :=
  if !s.ethUp l || !s.flag (ETH_STATUS_CTRL_HELD l) then .next s
  else if s.gvcpIs l 1 then
    .next (if ok then s.gvcpNext l else ((s.controlLost l).ethNotReady l).setupBegin l)
  else .next (s.iff (!(s.leth l).gvcp.any (fun (c : GvcpCmd) => c.why == 1)) (fun s => s.gvcpPush l 1 1 0x0938 0))

/-- CAM_SYNC_POLL (R177): the register of the OP 4 record is read; while that read is waited for, the camera answers
`value`. -/
def execCamSyncPoll (l : Fin 96) (value : Word) (s : State) : Host.Outcome State Fault Refusal :=
  match (s.leth l).syncReg with
  | none => .next s
  | some (adr, mask, v) =>
    if !s.ethUp l then .next s
    else if s.gvcpIs l 2 then
      let s := (s.gvcpNext l).putB (ETH_STATUS_CAM_SYNCED l) (Nat.land value.toNat mask == v)
      .next (s.iff ((s.leth l).setup && s.get (ETH_STATUS_SETUP_STEP l) == 6 && s.flag (ETH_STATUS_CAM_SYNCED l))
        (fun s => s.setupReady l))
    else .next (s.iff (!(s.leth l).gvcp.any (fun (c : GvcpCmd) => c.why == 2)) (fun s => s.gvcpPush l 2 1 adr 0))

/-- Whether the lane's script has an OP 4 record from record `i` on (R177). -/
def State.hasPoll (s : State) (l : Nat) : Nat → Nat → Bool
  | 0, _ => false
  | k + 1, i =>
    if s.scriptWord i 0 % 256 = 0xFF ∨ 4096 ≤ i then false
    else (s.scriptWord i 0 % 256 == l && getBits (s.scriptWord i 0) 8 8 == 4) || s.hasPoll l k (i + 1)

/-- CAM_SYNC_DELAY_EXPIRY (R177): 2 s have passed since the first Delay_Req was answered. -/
def execCamSyncDelayExpiry (l : Fin 96) (s : State) : Host.Outcome State Fault Refusal :=
  if !s.ethUp l || !s.flagE l (ETH_CFG_PTP_EN l) || !(s.leth l).dreq || s.hasPoll l 4096 0 then .next s
  else
    let s := s.putB (ETH_STATUS_CAM_SYNCED l) true
    .next (s.iff ((s.leth l).setup && s.get (ETH_STATUS_SETUP_STEP l) == 6) (fun s => s.setupReady l))

/-! ### IEEE 1588 (R182) -/

/-- PTP_SYNC_SEND (R182): a two-step Sync in PTP_DOMAIN; its Follow_Up carries the stamp of its egress. -/
def execPtpSyncSend (l : Fin 96) (s : State) : Host.Outcome State Fault Refusal :=
  if !s.ethUp l || !(s.leth l).ptp then .next s
  else
    let n := (s.leth l).ptpSeq
    .next ((s.ethSend l (.ptp 0 (s.get (ETH_PTP_PTP_DOMAIN l)) n 0)).modEth l (fun x => { x with ptpSeq := (n + 1) % 65536 }))

/-- PTP_ANNOUNCE_SEND (R182, R243): clockClass, clockAccuracy and timeSource follow CLASS, ptpTimescale is set, and
currentUtcOffset is TB_UTC_OFFSET. -/
def execPtpAnnounceSend (l : Fin 96) (s : State) : Host.Outcome State Fault Refusal :=
  if !s.ethUp l || !(s.leth l).ptp then .next s
  else
    let n := (s.leth l).annSeq
    let f := s.free
    let utc := s.rdN TB_UTC_OFFSET
    let d := s.get (ETH_PTP_PTP_DOMAIN l)
    let m : EthMsg := match s.get TB_QUALITY_CLASS with
      | 0 => .announce d n 248 0xFE 0xA0 utc true
      | 1 => .announce d n 14 0xFE 0xA0 utc true
      | 2 => .announce d n 13 0x22 (if f.1 % 2 = 0 then 0x20 else 0x90) utc true
      | _ => .announce d n 13 0x21 0x90 utc true
    let s := if s.get TB_QUALITY_CLASS = 2 then f.2 else s
    .next ((s.ethSend l m).modEth l (fun x => { x with annSeq := (n + 1) % 65536 }))

/-- DELAY_REQ_RECEIVE (R182): a Delay_Req of PTP_DOMAIN, stamped at the PCS `ago` units of 2^-16 ns before now, is
answered. One of another domain is not this port's. -/
def execDelayReqReceive (l : Fin 96) (req : PtpReq) (ago : Nat) (s : State) : Host.Outcome State Fault Refusal :=
  if !s.ethUp l || !(s.leth l).ptp || req.domain.val != s.get (ETH_PTP_PTP_DOMAIN l) then .next s
  else
    let t := s.nowI - ago - sext 32 (s.rdN (TB_LANE_IN_ASYM l)) * 256
    .next ((s.ethSend l (.ptp 3 req.domain req.seq t)).modEth l (fun x => { x with dreq := true }))

/-! ### Scheduled actions (R183 to R185) -/

/-- QUEUE as it acts (R187). -/
def State.actQueue (s : State) (l : Nat) : Nat := min 64 (max 1 (s.getE l (ETH_ACT_CFG_QUEUE l)))

/-- The firing that lane `l` sends next: of those on its Ethernet path not yet sent, the one with the earliest firing
instant. -/
def State.nextAction (s : State) (l : Nat) : Option Trigger :=
  (s.trigs.filter (fun (t : Trigger) => t.path == 2 && t.out == l && !t.sent)).foldl
    (fun (b : Option Trigger) t => match b with
      | none => some t
      | some u => if t.tf < u.tf then some t else b) none

/-- ACTION_CMD_SEND (R183 to R185): the earliest firing handed over becomes an ACTION_CMD, waits while QUEUE commands are
outstanding, has its action time moved when it is late, or is reported not sent. -/
def execActionCmdSend (l : Fin 96) (s : State) : Host.Outcome State Fault Refusal :=
  match s.nextAction l with
  | none => .next s
  | some t =>
    if !s.ethUp l || !s.flagE l (ETH_CFG_ACT_EN l) || !s.outCommit || !s.flag (ETH_STATUS_READY l) ||
        (s.flagE l (ETH_CFG_PTP_EN l) && !s.flag (ETH_STATUS_CAM_SYNCED l)) then
      .next ((s.ethLog l 0x1331).reportNotSent t)
    else if s.actQueue l ≤ (s.leth l).actOut.length then .next s
    else
      let min_ := s.nowI + nsT (s.getE l (ETH_ACT_CFG_MIN_LEAD_US l) * 1000)
      let want := roundDiv t.tf 65536 * 65536
      let late := decide (want < min_)
      let act := if late then -(-min_ / 65536) * 65536 else want
      let s := s.iff late (fun s =>
        (((s.bump (ETH_CNT_ACT_LATE l)).raise 1 (ETH_EVENTS_ACT_LATE l)).ethLog l 0x1330).reportLate t)
      let s := (s.ethSend l (.action (t.id % 65535 + 1) (s.rdE l (ETH_ACT_DEVKEY l)) (s.rdE l (ETH_ACT_GROUPKEY l))
        (s.rdE l (ETH_ACT_GROUPMASK l)) (act / 65536).toNat)).bump (ETH_CNT_ACT l)
      let s := s.iff (decide (64 ≤ (s.ethFree l).length)) (fun s => match (s.ethFree l).head? with
        | some u => s.ethUnserved l u
        | none => s)
      let s := s.modTrigs (fun ts => ts.map (fun (u : Trigger) =>
        if u.id == t.id then { u with sent := true, tf := act, actTime := act, tc := act + u.lead } else u))
      let s := s.modEth l (fun x => { x with actOut := x.actOut ++ [t.id] })
      .next ((s.put (ETH_STATUS_ACT_OUT l) (s.leth l).actOut.length).showCommitted t.seq)

/-- ACTION_TIME_PASS (R184): the action time of the oldest outstanding command has passed. -/
def execActionTimePass (l : Fin 96) (s : State) : Host.Outcome State Fault Refusal :=
  match (s.leth l).actOut with
  | [] => .next s
  | i :: rest =>
    let soon := match s.trigs.find? (fun (t : Trigger) => t.id == i) with
      | some t => decide (s.nowI < t.actTime) | none => false
    if soon then .next s
    else .next ((s.modEth l (fun x => { x with actOut := rest })).put (ETH_STATUS_ACT_OUT l) rest.length)

end Sys2Proof.Machine
end

