-- ==== Sys2Proof/Machine/DlvCore.lean ====
section
/-!
DEFINITION. Deliveries (R369 to R384, R394 to R397): streams and their rings, dealing between the ports, the 64-byte tag,
descriptors, transfers, what a stopped port does, and the recall ring's records (R385).
-/

namespace Sys2Proof.Machine

open Reg

/-! ### Streams and rings -/

def State.strm (s : State) (st : Nat) : Stream := cget (fun _ => Stream.reset) s.streams st
def State.modStrm (s : State) (st : Nat) (f : Stream → Stream) : State :=
  { s with streams := cset (fun _ => Stream.reset) s.streams st (f (s.strm st)) }
def State.ring (s : State) (st p : Nat) : Ring := cget (fun _ => Ring.reset) s.rings (2 * st + p)
def State.modRing (s : State) (st p : Nat) (f : Ring → Ring) : State :=
  { s with rings := cset (fun _ => Ring.reset) s.rings (2 * st + p) (f (s.ring st p)) }

/-- Bytes `i` to `i + k - 1` of a stream's definition (R83, R371). -/
def State.sdef (s : State) (st i k : Nat) : Nat := bytesAt (s.strm st).defn i k
def State.lineBytes (s : State) (st : Nat) : Nat := s.sdef st 8 4
def State.lineRate (s : State) (st : Nat) : Nat := s.sdef st 12 4
def State.ceilingNs (s : State) (st : Nat) : Nat := s.sdef st 16 4
def State.creditNs (s : State) (st : Nat) : Nat := s.sdef st 20 4
def State.deactMs (s : State) (st : Nat) : Nat := s.sdef st 28 2
def State.batchOf (s : State) (st : Nat) : Nat := min 64 (max 1 (s.sdef st 32 1))

/-- ACTIVE and STARVED of a port. -/
def activeF (st p : Nat) : Fld := if p = 0 then DLV_STATUS_ACTIVE_A st else DLV_STATUS_ACTIVE_B st
def starvedF (st p : Nat) : Fld := if p = 0 then DLV_STATUS_STARVED_A st else DLV_STATUS_STARVED_B st
/-- Entries of a ring. -/
def State.ringSize (s : State) (st p : Nat) : Nat := 2 ^ s.get (DLV_RING_CFG_LOG2 st p)
/-- Whether a stream uses a port. -/
def State.usesPort (s : State) (st p : Nat) : Bool := s.get (DLV_CFG_PORT st) == p || s.get (DLV_CFG_PORT st) == 2

/-- `n` breaches of a stream's promise (R394). -/
def State.breach (s : State) (st n : Nat) : State :=
  (List.range n).foldl (fun s _ => ((s.bump (DLV_CNT_BREACH st)).raise 9 (DLV_EVENTS_BREACH st)).logCount 0x5101 st st) s

/-- Whether an interval that began at tick `acc` and ends now met DROOP_OVER (R66). -/
def State.droopMet (s : State) (acc : Nat) : Bool :=
  s.flag GLOBAL_DROOP_STATUS_DROOP_OVER || (match s.droop.lastOver with | some t => decide (acc ≤ t) | none => false)

/-- Whether an interval that began at tick `acc` breaks the promise of a stream (R394). -/
def State.breaks (s : State) (st acc : Nat) : Bool :=
  s.flag (DLV_STATUS_PROMISED st) && decide (s.rdN (DLV_PROMISE st) < s.tb.ticks - acc)

/-- Entries that stream `st` does not deliver are released; one that breaches counts all the same (R370, R394). -/
def State.unserve (s : State) (st : Nat) (ts : List Nat) : State :=
  ts.foldl (fun s n => match s.tile n with
    | none => s
    | some t => (s.iff (s.breaks st t.acc || (s.flag (DLV_STATUS_PROMISED st) && s.droopMet t.acc)) (fun s => s.breach st 1)).release n st) s

/-! ### The tag (R377 to R380) -/

/-- The STATUS of a delivery when its tags are written now. -/
def State.dlvStatus (s : State) (d : Delivery) : Nat :=
  let drp := (d.kind != 5) && s.droopMet d.acc
  let late := drp || (d.kind != 5 && s.breaks d.stream d.acc) || (match d.refAcc with | some a => s.breaks d.stream a | none => false)
  let host := d.hostLate || decide (s.creditNs d.stream < d.waited) || (match d.waitFrom with
    | some t => decide (s.creditNs d.stream < d.waited + (s.tb.ticks - t)) | none => false)
  let w := d.tag.status / 2 * 2 + b2n late
  let w := if drp then stSet w stLateDroop else w
  let w := if host then stSet w stLateHost else w
  if d.loss then stSet w stPartial else w

/-- A tag without its CRC (bytes 0 to 59). -/
def tagBody (fmt stream flags node unit : Nat) (t : TagInfo) (map len status : Nat) : List Byte :=
  let tc := t.tc.toNat
  toBytes 1 1 ++ toBytes 1 fmt ++ toBytes 1 stream ++ toBytes 1 flags ++ toBytes 2 (node % 1024) ++ toBytes 1 unit ++
    toBytes 1 0 ++ toBytes 8 (trunc 64 t.line) ++ toBytes 8 (trunc 64 t.pos) ++ toBytes 6 (tc / 65536 / 1000000000) ++
    toBytes 4 (tc / 65536 % 1000000000) ++ toBytes 2 (tc % 65536) ++ toBytes 4 t.trigId ++ toBytes 12 map ++
    toBytes 4 len ++ toBytes 4 status

/-- A tag with its CRC (R380). -/
def tagOf (body : List Byte) : List Byte := body ++ toBytes 4 (crc32c body)

/-- The tag of one descriptor of a delivery. -/
def Delivery.tagBytes (d : Delivery) (cont : Bool) (len status : Nat) : List Byte :=
  tagOf (tagBody (if d.kind = 0 ∨ d.kind = 1 ∨ d.kind = 4 then d.tag.fmt else 0) d.tagStream
    (d.kind + 8 * d.port + 16 * b2n cont + 32 * b2n d.loss) d.nodeId d.unit d.tag d.segMap len status)

/-! ### Interrupts of a ring (R397) -/

/-- The interrupt of a ring. -/
def State.ringIrq (s : State) (st p : Nat) : State :=
  if s.get (DLV_IRQ_IRQ_COUNT st) = 0 then s
  else (s.modRing st p (fun r => { r with unsig := 0 })).msixSend p (s.get (DLV_RING_CFG_VECTOR st p))

/-- A tag was written: the interrupt follows IRQ_COUNT tags, or comes at once where IRQ_US is 0. -/
def State.tagIrq (s : State) (st p : Nat) : State :=
  let n := (s.ring st p).unsig + 1
  let s := s.modRing st p (fun r => { r with unsig := n, unsigAt := if r.unsig = 0 then s.tb.ticks else r.unsigAt })
  s.iff (decide (s.get (DLV_IRQ_IRQ_COUNT st) ≤ n) || s.get (DLV_IRQ_IRQ_US st) == 0) (fun s => s.ringIrq st p)

/-- The index word of a ring is written (R375). -/
def State.indexWord (s : State) (st p : Nat) : State :=
  s.emit (.hostWrite p (s.rd64 (DLV_IDX_ADDR st p)) (toBytes 4 (s.rdN (DLV_TAGS st p)) ++
    toBytes 4 (s.get (activeF st p) + 2 * s.get (starvedF st p))))

/-! ### Deliveries -/

/-- WAITING shows whether a delivery of the stream waits beyond CREDIT_NS. -/
def State.showWaiting (s : State) (st : Nat) : State :=
  s.putB (DLV_STATUS_WAITING st) (s.dlv.any (fun (d : Delivery) => d.stream == st && d.waitFrom.isSome && d.hostLate))

def State.modDlv (s : State) (num : Nat) (f : Delivery → Delivery) : State :=
  { s with dlv := s.dlv.map (fun (d : Delivery) => if d.num == num then f d else d) }
def State.dropDlv (s : State) (num : Nat) : State := { s with dlv := s.dlv.filter (fun (d : Delivery) => d.num != num) }

/-- A delivery begins or ends a wait for a descriptor or for link credit (R394). -/
def State.startWait (s : State) (num : Nat) : State :=
  s.modDlv num (fun d => { d with waitFrom := match d.waitFrom with | none => some s.tb.ticks | w => w })
def State.endWait (s : State) (num st : Nat) : State :=
  (s.modDlv num (fun d => match d.waitFrom with
    | some t => { d with waitFrom := none, waited := d.waited + (s.tb.ticks - t) }
    | none => d)).showWaiting st

/-- The first delivery of a ring (R376). -/
def State.headDlv (s : State) (st p : Nat) : Option Delivery :=
  s.dlv.find? (fun (d : Delivery) => d.stream == st && d.port == p)

/-- The port that the next delivery of a stream goes to (R383, R384), and the state after dealing; none where it yields
no tag: on a port without a ring, or a stopped one. -/
def State.dealPort (s : State) (st : Nat) : Option Nat × State :=
  let d := (s.strm st).dealt
  let sh := s.get (DLV_CFG_SHARE_A st)
  let s1 := s.modStrm st (fun x => { x with dealt := d + 1, inWin := x.inWin + 1 })
  let first := match s.get (DLV_CFG_PORT st) with
    | 0 => 0 | 1 => 1 | _ => if d * sh / 256 < (d + 1) * sh / 256 then 0 else 1
  let split := s.get (DLV_CFG_PORT st) == 2
  let p := if split && (s.ring st first).lost && s.flag (DLV_CFG_REDEAL st) then 1 - first else first
  if s.flag (activeF st p) then (some p, s1)
  else if split && (s.ring st p).lost then (none, s1.bump (DLV_CNT_PORTLOST st))
  else (none, s1.bump (DLV_CNT_UNPOSTED st))

/-- A delivery becomes ready (R376): it joins its ring's order, or yields no tag (port 2). -/
def State.ready (s : State) (d : Delivery) : State :=
  let r := s.dealPort d.stream
  let s := r.2
  let d := { d with num := s.dlvNext, port := r.1.getD 2, nodeId := if d.kind = 4 then d.nodeId else s.nodeId }
  let s := s.countDlv
  match r.1 with
  | some _ => s.modDlvs (fun l => l ++ [{ d with waitFrom := some s.tb.ticks }])
  | none =>
    let s := s.unserve d.stream d.tiles
    if d.final then s else s.modDlvs (fun l => l ++ [{ d with tiles := [], data := [] }])

/-- A rate window begins at tick `t` (R396). -/
def State.setRateFrom (s : State) (t : Nat) : State := { s with rateFrom := t }

/-- A payload longer than LINE_BYTES (R396). -/
def State.overrate (s : State) (st : Nat) : State :=
  ((s.bump (DLV_CNT_OVERRATE st)).raise 9 (DLV_EVENTS_OVERRATE st)).logOnce 0x5103 st st 0
def State.checkLen (s : State) (st n : Nat) : State := s.iff (decide (s.lineBytes st < n)) (fun s => s.overrate st)

/-- What of a delivery the host has not been written yet. -/
def Delivery.left (d : Delivery) : Nat := d.data.length - d.sent

/-- A closing stream lets go of the rings that have nothing left to deliver (R393). -/
def State.settleClose (s : State) (st : Nat) : State :=
  if !(s.strm st).closing then s
  else
    let busy := fun p => s.dlv.any (fun (d : Delivery) => d.stream == st && d.port == p)
    let off := fun (s : State) p => if busy p then s
      else (s.putB (activeF st p) false).modRing st p (fun r => { r with descs := [], fetch := none })
    let s := off (off s 0) 1
    if busy 0 || busy 1 then s
    else s.modStrm st (fun x => if x.mbox.isSome then Stream.reset else { x with closing := false })

/-- The answer to RING_WITHDRAW on port `p`, if it waits. -/
def State.lateAnswer (s : State) (p : Nat) : State := s.iff (decide (p ∈ s.mc.mboxLate)) (fun s => s.answerFree p rOk [])

/-- A ring that RING_WITHDRAW stops is gone with its last delivery, and the response follows (R418). -/
def State.settleWithdraw (s : State) (st p : Nat) : State :=
  if !(s.ring st p).withdraw || s.dlv.any (fun (d : Delivery) => d.stream == st && d.port == p) then s
  else
    let s := s.modRing st p (fun r => { r with descs := [], fetch := none, withdraw := false })
    s.lateAnswer p

/-- A delivery whose payload is written writes its tags and index words, descriptor by descriptor, and its entries are
COMPLETE (R375, R379, R394). -/
def State.finish (s : State) (d : Delivery) : State :=
  let p := d.port
  let st := d.stream
  let s := d.tiles.foldl (fun s n => s.tileTo n 3) s
  let w := s.dlvStatus d
  let fl := d.filled
  let s := (List.range fl.length).foldl (fun s i =>
    let e := fl.getD i (0, 0)
    let s := s.emit (.hostWrite p (s.rd64 (DLV_CPL_BASE st p) + 64 * (e.1 % s.ringSize st p))
      (d.tagBytes (decide (i + 1 < fl.length)) e.2 w))
    let s := ((s.wrN (DLV_TAGS st p) (s.rdN (DLV_TAGS st p) + 1)).bump (DLV_CNT_TAGS st)).indexWord st p
    if d.loss then s.ringIrq st p else s.tagIrq st p) s
  let s := s.iff (bit w 0) (fun s => s.breach st fl.length)
  ((((d.tiles.foldl (fun s n => s.release n st) s).dropDlv d.num).showWaiting st).settleClose st).settleWithdraw st p

/-- The descriptor that a delivery holds is filled or its payload ended: it joins the filled ones, and the delivery
finishes when nothing is left. -/
def State.closeDesc (s : State) (num : Nat) : State :=
  match s.dlv.find? (fun (d : Delivery) => d.num == num) with
  | none => s
  | some d =>
    match d.desc with
    | none => s
    | some (i, _, len) =>
      if d.final && d.left == 0 then
        let d := { d with filled := d.filled ++ [(i, d.inDesc)], desc := none, inDesc := 0 }
        (s.modDlv num (fun _ => d)).finish d
      else if len ≤ d.inDesc ∧ (s.ring d.stream d.port).withdraw = true then
        let d := { d with filled := d.filled ++ [(i, d.inDesc)], desc := none, inDesc := 0, data := d.data.take d.sent, final := true }
        (s.modDlv num (fun _ => d)).finish d
      else if len ≤ d.inDesc then
        (s.modDlv num (fun d => { d with filled := d.filled ++ [(i, d.inDesc)], desc := none, inDesc := 0 })).startWait num
      else s

/-- The head delivery of a ring takes the next descriptor (R374, R376). One that breaks R373 takes no payload, and the
delivery goes on to the next. -/
def State.takeDesc (s : State) (st p : Nat) : Nat → State
  | 0 => s
  | fuel + 1 =>
    match s.headDlv st p, (s.ring st p).descs with
    | some d, (i, addr, len) :: rest =>
      if d.desc.isSome then s
      else
        let s := (s.modRing st p (fun r => { r with descs := rest })).wrN (DLV_DESC_HEAD st p) (s.rdN (DLV_DESC_HEAD st p) + 1)
        if addr % 64 ≠ 0 ∨ len % 64 ≠ 0 ∨ len < 64 then
          let s := ((s.bump (DLV_CNT_BADDESC st)).raise 9 (DLV_EVENTS_BADDESC st)).logC 0x5120 st 0
          (s.modDlv d.num (fun d => { d with filled := d.filled ++ [(i, 0)] })).takeDesc st p fuel
        else
          let s := (s.modDlv d.num (fun d => { d with desc := some (i, addr, len), inDesc := 0 })).endWait d.num st
          if d.final && d.left == 0 then s.closeDesc d.num else s
    | _, _ => s

/-- The requester of the delivery ports that carries a delivery (R382). -/
def State.dlvReq (s : State) (d : Delivery) : Nat := match d.kind with
  | 0 => s.get (DLV_CFG_SOURCE d.stream) / 4
  | 1 => 24 + s.get (DLV_CFG_SOURCE d.stream) % 16
  | 4 => 40
  | 5 => 41
  | _ => s.get (DLV_CFG_SOURCE d.stream) / 8

/-- The delivery that requester `r` of port `p` serves: the first one that holds a descriptor and has bytes for it. -/
def State.servedDlv (s : State) (p r : Nat) : Option Delivery :=
  s.dlv.find? (fun (d : Delivery) => d.port == p && d.desc.isSome && s.dlvReq d == r &&
    (decide (64 ≤ d.left) || (d.final && decide (0 < d.left))))

/-- The programmed Max_Payload_Size of a port in bytes, at most 512 (R400). -/
def State.maxPayload (s : State) (p : Nat) : Nat := 128 * 2 ^ min 2 (getBits (s.cfgRd p 0x78) 5 3)
/-- Bytes are written into host memory from `a` on, in requests of at most Max_Payload_Size (R404). -/
def State.hostPut (s : State) (p a : Nat) (l : List Byte) : State :=
  let m := s.maxPayload p
  (List.range (ceilDiv l.length m)).foldl (fun s i => s.emit (.hostWrite p (a + m * i) ((l.drop (m * i)).take m))) s

/-- Up to `n` bursts of a delivery are written (R369, R382): whole 64-byte units, the last one padded with zeros, not
across a 4 KiB boundary of the host buffer. -/
def State.transfer (s : State) (d : Delivery) (n : Nat) : State :=
  match d.desc with
  | none => s
  | some (_, addr, len) =>
    let a := addr + d.inDesc
    let room := min (min (len - d.inDesc) (4096 - a % 4096)) (64 * n)
    let have_ := if d.final then d.left else d.left / 64 * 64
    let k := min room have_
    if k = 0 then s
    else
      let part := (d.data.drop d.sent).take k
      let pad := List.replicate (roundUp k 64 - k) (0 : Byte)
      let s := s.hostPut d.port a (part ++ pad)
      (s.modDlv d.num (fun d => { d with sent := d.sent + k, inDesc := d.inDesc + k })).closeDesc d.num

/-! ### Withdrawing a ring and stopping a port (R384, R395) -/

/-- A ring is gone: its deliveries that wait complete without a tag, and its descriptors are forgotten. -/
def State.ringGone (s : State) (st p : Nat) : State :=
  let ds := s.dlv.filter (fun (d : Delivery) => d.stream == st && d.port == p)
  let late := (s.ring st p).withdraw
  let s := ds.foldl (fun s d =>
    let s := (s.bump (DLV_CNT_UNPOSTED st)).unserve st d.tiles
    if d.final then s.dropDlv d.num
    else s.modDlv d.num (fun d => { d with port := 2, tiles := [], data := [], sent := 0, desc := none, waitFrom := none })) s
  (((s.putB (activeF st p) false).modRing st p (fun r => { r with descs := [], fetch := none, withdraw := false })).showWaiting st).iff late
    (fun s => s.lateAnswer p)

/-- A ring is withdrawn by the device (R395, R422): STARVED, the index word, the interrupt. -/
def State.withdraw (s : State) (st p : Nat) : State :=
  let s := (((s.putB (starvedF st p) true).putB (activeF st p) false).raise 9 (DLV_EVENTS_STARVED st)).ringGone st p
  (s.indexWord st p).ringIrq st p

/-- An entry whose delivery on a stopped port is abandoned: ABORTED, unless another delivery still has it. The engines and
the recall ring that hold its data keep it (R20, R384). -/
def State.abandon (s : State) (st n : Nat) : State :=
  match s.tile n with
  | none => s
  | some t =>
    let r := t.holders.erase st
    if r.any delivers then s.release n st
    else ((s.modTile n (fun t => { t with holders := r })).tileAborted n).iff r.isEmpty (fun s => s.dropTile n)

/-- A delivery on a stopped port (R384): a split stream reports it on the other port with a loss tag, which for a line that
still arrives waits for its last tile. -/
def State.lose (s : State) (p : Nat) (d : Delivery) : State :=
  let st := d.stream
  let s := d.tiles.foldl (fun s n => s.abandon st n) s
  if s.get (DLV_CFG_PORT st) == 2 && s.flag (activeF st (1 - p)) then
    let s := (((s.dropDlv d.num).bump (DLV_CNT_LOSS st)).raise 9 (DLV_EVENTS_LOSS st)).logCount 0x5110 st st
    let e : Delivery := { d with num := s.dlvNext, port := 1 - p, tiles := [], data := [] }
    let e : Delivery := { e with sent := 0, desc := none, inDesc := 0, filled := [] }
    let e : Delivery := { e with waitFrom := some s.tb.ticks, waited := 0, hostLate := false, loss := true }
    (s.modDlvs (fun l => l ++ [e])).countDlv
  else if d.final then s.dropDlv d.num
  else s.modDlv d.num (fun d => { d with
    port := 2, tiles := [], data := [], sent := 0, desc := none, waitFrom := none, filled := [] })

/-- The streams of a port that are active on it. -/
def State.activeOn (s : State) (p : Nat) : List Nat := (List.range 256).filter (fun st => s.flag (activeF st p))

/-- A host port stops (R20, R384): its streams become inactive on it, and what they had not written is abandoned. -/
def State.portStop (s : State) (p : Nat) : State :=
  let s := (s.activeOn p).foldl (fun s st => (s.putB (activeF st p) false).modRing st p (fun r =>
    { r with descs := [], fetch := none, unsig := 0, withdraw := false, lost := true })) s
  let s := ((List.range 256).filter (fun st => (s.ring st p).withdraw)).foldl (fun s st => s.modRing st p (fun r =>
    { r with descs := [], fetch := none, withdraw := false })) s
  let s := (s.dlv.filter (fun (d : Delivery) => d.port == p)).foldl (fun s d => s.lose p d) s
  (((List.range 256).filter (fun st => s.flag (DLV_STATUS_WAITING st))).foldl (fun s st => s.showWaiting st) s).lateAnswer p

/-! ### What a tile's stored bytes are -/

/-- The stored bytes of a conditioned tile: what a kerf buffer gave back, or what its ring holds. -/
def State.tileData (s : State) (t : Tile) : List Byte :=
  match t.kerf with
  | some l => l
  | none => s.bayRd (t.lane / 4) t.off t.stored

/-- Whether a tile ends its line (R153, R369). -/
def Tile.endsLine (t : Tile) : Bool := decide (t.cond.linePx ≤ t.xOff + t.pixels)

/-- Byte 1 of a tile's tag (R377). -/
def Tile.fmtByte (t : Tile) : Nat := t.cond.fmt + 16 * t.cond.outMode

/-! ### Camera lines (R369) -/

/-- The open camera line delivery of a stream that a tile belongs to. -/
def State.lineDlv (s : State) (st : Nat) (t : Tile) : Option Delivery :=
  s.dlv.find? (fun (d : Delivery) => d.stream == st && d.kind == 0 && !d.final && d.tag.line == t.tag.line &&
    d.tag.trigId == t.tag.trigId)

/-- STATUS bits that a tile adds to its line's (R379). -/
def mergeStatus (a b : Nat) : Nat :=
  let a := if bit b stPartial then stSet a stPartial else a
  if bit b stMemCorr then stSet a stMemCorr else a

/-- Stream `st` takes a conditioned tile of its lane into the delivery of its line. -/
def State.cameraTile (s : State) (st n : Nat) : State :=
  match s.tile n with
  | none => s
  | some t =>
    let m := if t.src = 0 then 2 ^ t.index else 0
    let bytes := s.tileData t
    let last := t.endsLine
    match s.lineDlv st t with
    | some d =>
      if d.port = 2 then
        let s := s.unserve st [n]
        if last then s.dropDlv d.num else s
      else if d.loss then
        -- The line was dealt to a port that stopped: the tile is lost with it (R384).
        let s := (s.abandon st n).modDlv d.num (fun d => { d with segMap := d.segMap + m, final := last })
        s.iff last (fun s => s.closeDesc d.num)
      else
        let s := s.modDlv d.num (fun d => { d with
          tiles := d.tiles ++ [n], acc := min d.acc t.acc, segMap := d.segMap + m, data := d.data ++ bytes, final := last,
          tag := { d.tag with status := mergeStatus d.tag.status t.tag.status } })
        s.iff last (fun s => s.checkLen st (d.data.length + bytes.length))
    | none =>
      (s.iff last (fun s => s.checkLen st bytes.length)).ready {
        num := 0, stream := st, port := 0, kind := 0, tiles := [n], acc := t.acc, tag := { t.tag with fmt := t.fmtByte },
        tagStream := st, unit := t.lane, segMap := m, data := bytes, final := last, sent := 0, desc := none, inDesc := 0,
        filled := [], waitFrom := none, waited := 0, hostLate := false, loss := false, refAcc := none, slot := none, nodeId := 0 }

/-! ### The recall ring (R360, R385) -/

/-- The channels with a recall segment in service, in ascending order. -/
def State.recallChans (s : State) : List Nat :=
  (List.range 8).filter (fun k => s.rd64 (DDR_RECALL_SEG_SIZE k) != 0 && s.get (DDR_STATUS_STATE k) == 2)

/-- A line is recorded: header, tag and payload, whole, in the segment of the next channel; one longer than the segment
is not. -/
def State.record (s : State) (tag payload : List Byte) : State :=
  let cs := s.recallChans
  match cs with
  | [] => s
  | c0 :: _ =>
    let r := s.recl
    let c := (cs.find? (fun k => decide (r.chan < k))).getD c0
    let size := s.rd64 (DDR_RECALL_SEG_SIZE c)
    let base := c * 2 ^ 36 + s.rd64 (DDR_RECALL_SEG_BASE c) % 2 ^ 36
    let len := 128 + roundUp payload.length 64
    let at_ := cget (fun _ => 0) r.at_ c
    let at_ := if size < at_ + len then 0 else at_
    if size < len then s else
    let hdr := toBytes 8 r.seq ++ toBytes 8 r.newest ++ toBytes 4 payload.length ++ List.replicate 44 0
    let pad := List.replicate (roundUp payload.length 64 - payload.length) (0 : Byte)
    let s := s.ddrPost ⟨reqRecall, 2, base + at_, (hdr ++ tag ++ payload ++ pad).map some, []⟩
    s.modRecl (fun r => { r with
      seq := r.seq + 1, newest := base + at_, at_ := cset (fun _ => 0) r.at_ c (at_ + len), chan := c })

/-- The tag that a record keeps: LATE, RECALLED, PAYLOAD_LEN and CRC zero (R385). -/
def State.recordTag (s : State) (kind stream unit : Nat) (t : TagInfo) (map port : Nat) : List Byte :=
  tagBody t.fmt stream (kind + 8 * port) s.nodeId unit t map 0 (t.status / 2 * 2) ++ [0, 0, 0, 0]

/-- A camera line whose last tile is CONDITIONED is recorded for each of its streams marked RECALL (R385). -/
def State.recordLine (s : State) (n : Nat) : State :=
  match s.tile n with
  | none => s
  | some t =>
    if !t.endsLine || !decide (hRecall ∈ t.holders) then s
    else
      let ts := s.ledger.tiles.filter (fun (u : Tile) => u.lane == t.lane && decide (u.src ≤ 1) && u.tag.line == t.tag.line &&
        u.tag.trigId == t.tag.trigId && decide (hRecall ∈ u.holders))
      let sts := (s.laneStreams t.lane).filter (fun st => s.get (DLV_CFG_KIND st) == 0 && s.flag (DLV_CFG_RECALL st))
      let status := ts.foldl (fun a (u : Tile) => mergeStatus a u.tag.status) t.tag.status
      let map := ts.foldl (fun a (u : Tile) => a + (if u.src = 0 then 2 ^ u.index else 0)) 0
      let s := sts.foldl (fun s st => s.record (s.recordTag 0 st t.lane { t.tag with status := status, fmt := t.fmtByte } map
        (s.get (DLV_CFG_PORT st) % 2)) (ts.flatMap (fun u => s.tileData u))) s
      ts.foldl (fun s u => s.release u.num hRecall) s

end Sys2Proof.Machine
end

