-- ==== Sys2Proof/Machine/Cond.lean ====
section
/-!
DEFINITION. Ingress and pixel conditioning (R269 to R293): the pipe's stages, the tile rings, the table sets and the
along-track resampler.
-/

namespace Sys2Proof.Machine

open Reg

/-! ### Values (R275 to R277, R282) -/

/-- The stored width of a line's values in bits, and their bytes (R275). -/
def CondSet.width (c : CondSet) : Nat := match c.outMode with | 1 => 8 | 2 => 16 | _ => depth c.fmt
def CondSet.wBytes (c : CondSet) : Nat := if c.width ≤ 8 then 1 else 2
/-- Stored bytes of a pixel. -/
def CondSet.pxBytes (c : CondSet) : Nat := comps c.fmt * c.wBytes

/-- Clamping to a working value (R276). -/
def clampW (i : Int) : Nat := (clampInt 0 65535 i).toNat

/-- The output conversion to `b` bits (R277). -/
def toStored (b w : Nat) : Nat := if b = 16 then w else min ((w + 2 ^ (15 - b)) / 2 ^ (16 - b)) (2 ^ b - 1)
/-- A stored value of `b` bits as a working value. -/
def fromStored (b v : Nat) : Nat := v * 2 ^ (16 - b)

/-- The stored FILL value of a line (R152, R282). -/
def CondSet.fillStored (c : CondSet) : Nat := toStored c.width (c.fill % 2 ^ depth c.fmt * 2 ^ (16 - depth c.fmt))

/-- Component `k` (in RGB order) of pixel `i` as a working value (R148, R275, R276): the bits are packed from the least
significant on. -/
def unpackAt (fmt : Nat) (raw : List Byte) (i k : Nat) : Nat :=
  let d := depth fmt
  let j := i * comps fmt + (if fmt = 5 then 2 - k else k)
  getBits (bytesAt raw (j * d / 8) 3) (j * d % 8) d * 2 ^ (16 - d)

/-- Whether pixel `i` is FILL: a byte of it lies beyond the payload or in a range that never came (R152, R282). -/
def fillPixel (fmt : Nat) (raw : List Byte) (holes : List (Nat × Nat)) (i : Nat) : Bool :=
  let w := comps fmt * depth fmt
  let lo := i * w / 8
  let hi := ((i + 1) * w - 1) / 8
  decide (raw.length ≤ hi) || holes.any (fun (h : Nat × Nat) => decide (h.1 ≤ hi) && decide (lo < h.1 + h.2))

/-- Whether the 64-bit word that holds byte `o` of a bay store is in a list of words. -/
def badWord (bad : List Nat) (o : Nat) : Bool := bad.any (fun w => w / 8 == o / 8)

/-! ### The stages (R278 to R281) -/

/-- Flat-field correction of component `k` at pixel `x` of the line (R278). -/
def State.flatField (s : State) (l : Nat) (c : CondSet) (bad : List Nat) (x k w : Nat) : Nat :=
  if !bit c.ctrl 0 then w
  else
    let base := s.get (if c.set_ = 0 then BAY_FF_BASE0_BASE l else BAY_FF_BASE1_BASE l) * 64
    let o := base + 4 * (x / 2 ^ getBits c.ctrl 6 2 * comps c.fmt + k)
    if badWord bad o then w
    else
      let e := ofBytes (s.bayRd (l / 4) o 4)
      clampW ((((w : Int) - sext 16 e) * (e / 2 ^ 16 : Nat) + 8192) / 16384 + sext 16 c.post)

/-- The look-up table (R281). -/
def State.lut (s : State) (l : Nat) (c : CondSet) (bad : List Nat) (k w : Nat) : Nat :=
  if !bit c.ctrl 2 then w
  else
    let base := s.get (if c.set_ = 0 then BAY_LUT_BASE0_BASE l else BAY_LUT_BASE1_BASE l) * 64 +
      (if bit c.ctrl 3 then 8256 * k else 0)
    let i := w / 16
    let a := base + 2 * i
    if badWord bad a || badWord bad (a + 2) then w
    else
      let l0 : Int := ofBytes (s.bayRd (l / 4) a 2)
      let l1 : Int := ofBytes (s.bayRd (l / 4) (a + 2) 2)
      clampW (l0 + ((l1 - l0) * (w % 16 : Nat) + 8) / 16)

/-- The nearest pixel in a direction, within 4, that is neither listed nor FILL (R280, R282): `cur` gives the tile's
values, `prev` the kept ones of the line's previous tile. -/
def neighbour (listed : Nat → Bool) (cur : Nat → Option (List Nat)) (prev : List (Nat × List Nat)) (x : Nat) (left : Bool) :
    Option (List Nat) :=
  ([1, 2, 3, 4] : List Nat).findSome? (fun d =>
    if left ∧ x < d then none
    else
      let y := if left then x - d else x + d
      if listed y then none
      else match cur y with
        | some v => some v
        | none => (prev.find? (fun (e : Nat × List Nat) => e.1 == y)).map (fun e => e.2))

/-- The value of a defect pixel (R280); DEF_CONST is a working value. -/
def substitute (method const n : Nat) (a b : Option (List Nat)) : List Nat :=
  let c := List.replicate n const
  match method with
  | 0 => (a.or b).getD c
  | 1 => (b.or a).getD c
  | 2 => match a, b with
    | some u, some v => List.zipWith (fun p q => (p + q + 1) / 2) u v
    | _, _ => (a.or b).getD c
  | _ => c

/-- The line that a tile belongs to. -/
def State.condLine (s : State) (t : Tile) : Option CondLine :=
  (s.cln t.lane).lines.find? (fun (x : CondLine) => x.isFor t.tag.line t.tag.trigId)

/-- The first entry of the defect list that a tile's line cannot read: one in an uncorrectable word, in this tile or in an
earlier one of the line (R291); 2,049 for none. -/
def State.defCut (s : State) (t : Tile) (bad : List Nat) : Nat :=
  let base := s.defBase t.lane t.cond.set_
  let old := match s.condLine t with | some x => x.cut | none => 2049
  match (List.range 2049).find? (fun i => badWord bad (base + 4 * i)) with | some i => min i old | none => old

/-- The working values of a tile's pixels after every stage up to the look-up table (none: FILL), and the last four
values after flat-field that its line keeps (R280). `bad` lists the words with an uncorrectable error. -/
def State.stages (s : State) (t : Tile) (bad : List Nat) : List (Option (List Nat)) × List (Nat × List Nat) :=
  let c := t.cond
  let l := t.lane
  let n := comps c.fmt
  let ff := (List.range t.pixels).map (fun i =>
    if fillPixel c.fmt t.raw t.holes i then none
    else some ((List.range n).map (fun k => s.flatField l c bad (t.xOff + i) k (unpackAt c.fmt t.raw i k))))
  let base := s.defBase l c.set_
  let list := if bit c.ctrl 1 then (s.defects (l / 4) base (s.defCut t bad) 0 none).1 else []
  let prev := match s.condLine t with | some x => x.prev | none => []
  let listed := fun (y : Nat) => list.any (fun (e : Nat × Nat) => e.1 == y)
  let cur := fun (y : Nat) => if y < t.xOff then none else (ff.getD (y - t.xOff) none)
  let near := fun (x : Nat) (left : Bool) => neighbour listed cur prev x left
  let df := (List.range t.pixels).map (fun i => match ff.getD i none with
    | none => none
    | some v => match list.find? (fun (e : Nat × Nat) => e.1 == t.xOff + i) with
      | none => some v
      | some e => some (substitute e.2 (c.post / 2 ^ 16) n (near e.1 true) (near e.1 false)))
  let out := df.map (fun v => v.map (fun v => (List.range n).map (fun k => s.lut l c bad k (v.getD k 0))))
  let keep := (List.range 4).filterMap (fun j => if t.pixels ≤ j then none else
    (ff.getD (t.pixels - 1 - j) none).map (fun v => (t.xOff + (t.pixels - 1 - j), v)))
  (out, keep)

/-- A tile's values in stored form (R277, R282). -/
def CondSet.store (c : CondSet) (px : List (Option (List Nat))) : List Byte :=
  px.flatMap (fun v => match v with
    | none => (List.replicate (comps c.fmt) c.fillStored).flatMap (toBytes c.wBytes)
    | some v => v.flatMap (fun w => toBytes c.wBytes (toStored c.width w)))

/-! ### The ring and the queue (R272 to R274) -/

/-- Where the next tile of `size` bytes goes in the ring of lane `l`, as an offset into the ring: behind the last one, or
at the ring's base; none where it would touch a tile that is still held. -/
def State.ringPlace (s : State) (l size : Nat) : Option Nat :=
  let base := s.get (BAY_RING_BASE_BASE l) * 64
  let len := s.get (BAY_RING_SIZE_SIZE l)
  let w := (s.cln l).wptr
  let at_ := if w + size ≤ len then w else 0
  let live := s.ledger.tiles.filter (fun (t : Tile) => t.lane == l && decide (t.src ≤ 1) && t.started && t.inRing)
  if len < size ∨ live.any (fun t => decide (base + at_ < t.off + roundUp t.stored 64) && decide (t.off < base + at_ + size)) then
    none else some at_

/-- The tile in the pipe: started, not yet conditioned, and not waiting for taps. -/
def State.inPipe (s : State) (l : Nat) : Option Tile :=
  s.ledger.tiles.find? (fun (t : Tile) => t.lane == l && decide (t.src ≤ 1) && t.started && t.state == 0 &&
    !decide (t.num ∈ (s.cln l).wait))

/-- The next tile of a lane, in the order of acceptance. -/
def State.nextTile (s : State) (l : Nat) : Option Tile :=
  s.ledger.tiles.find? (fun (t : Tile) => t.lane == l && decide (t.src ≤ 1) && !t.started && t.state == 0)

/-- Whether the pipe may start on a tile (R273): it has ended, or cut-through has enough of its payload. -/
def State.mayStart (s : State) (l : Nat) (t : Tile) : Bool :=
  t.ended || (s.flag (BAY_Q_CFG_CUT_THROUGH l) && decide (min 64 (s.get (BAY_Q_CFG_CUT_UNITS l)) * 256 ≤ t.raw.length))

/-- The pipe starts on the next tile of a lane, or the lane stalls for want of ring space (R273, R274). -/
def State.condStart (s : State) (l : Nat) : State :=
  if (s.inPipe l).isSome then s
  else match s.nextTile l with
    | none => s
    | some t =>
      if !s.mayStart l t then s
      else
        let size := t.pixels * t.cond.pxBytes
        match s.ringPlace l (roundUp size 64) with
        | none =>
          if s.flag (BAY_COND_STATUS_STALLED l) then s
          else ((s.putB (BAY_COND_STATUS_STALLED l) true).bump (BAY_CNT_STALL l)).raise 2
            ((BAY_COND_EVENTS_STALL (l / 4)).sub (l % 4))
        | some at_ =>
          let s := (s.putB (BAY_COND_STATUS_STALLED l) false).modCln l (fun x => { x with wptr := at_ + roundUp size 64 })
          let s := s.modTile t.num (fun t => { t with
            started := true, off := s.get (BAY_RING_BASE_BASE l) * 64 + at_, stored := size })
          if t.src ≠ 0 then s
          else if s.laneEth l then s.ethRefill l
          else s.queueTake l (8 + ceilDiv t.raw.length 8)

/-- CONDITIONING_START (R273). -/
def execConditioningStart (l : Fin 96) (s : State) : Host.Outcome State Fault Refusal := .next (s.condStart l)

/-- RING_SPACE_FREE (R274): a stalled lane goes on when its next tile fits. -/
def execRingSpaceFree (l : Fin 96) (s : State) : Host.Outcome State Fault Refusal :=
  .next (s.iff (s.flag (BAY_COND_STATUS_STALLED l)) (fun s => s.condStart l))

/-! ### A tile is CONDITIONED (R25) -/

/-- The last value of a tile is in the ring: its entry is CONDITIONED, the camera streams that deliver it take it, its
line may be recorded, and a gang may deal it. A tile that nobody holds is released. -/
def State.conditioned (s : State) (n : Nat) : State :=
  match s.tile n with
  | none => s
  | some t =>
    let s := ((s.modTile n (fun t => { t with raw := [], holes := [] })).bump (BAY_CNT_TILES t.lane)).tileTo n 1
    let s := (t.holders.filter (fun h => decide (h < 256))).foldl (fun s st => s.cameraTile st n) s
    let s := s.recordLine n
    let s := s.iff (decide (hDeal ∈ t.holders)) (fun s => s.modCln t.lane (fun x => { x with deal := x.deal ++ [n] }))
    s.iff t.holders.isEmpty (fun s => s.release n hHeld)

/-- Values of a tile that lie in uncorrectable words of its ring space read as FILL (R291). -/
def CondSet.spoil (c : CondSet) (off : Nat) (bad : List Nat) (bytes : List Byte) : List Byte :=
  let w := c.wBytes
  (List.range (bytes.length / w)).flatMap (fun i =>
    if badWord bad (off + w * i) then toBytes w c.fillStored else (bytes.drop (w * i)).take w)

/-! ### The resampler (R284 to R289) -/

/-- History slots of a line's settings. -/
def CondSet.slots (c : CondSet) : Nat := if c.rsMode = 1 then 3 else 5
/-- The signed difference of two positions (R197). -/
def posDiff (a b : Int) : Int := sext 64 (trunc 64 (a - b))
/-- Whether ranges cover pixels `x` to `x + n - 1`. -/
def covers (rs : List (Nat × Nat)) (x n : Nat) : Bool :=
  (List.range n).all (fun i => rs.any (fun (r : Nat × Nat) => decide (r.1 ≤ x + i) && decide (x + i < r.1 + r.2)))
/-- Whether a range touches pixels `x` to `x + n - 1`. -/
def touches (rs : List (Nat × Nat)) (x n : Nat) : Bool :=
  rs.any (fun (r : Nat × Nat) => decide (r.1 < x + n) && decide (x < r.1 + r.2))

/-- The offset in the bay store of pixel `x` of a history line. -/
def State.histAt (s : State) (l : Nat) (c : CondSet) (slot x : Nat) : Nat :=
  s.get (BAY_HIST_BASE_BASE l) * 64 + slot * (c.linePx * c.pxBytes) + x * c.pxBytes

/-- Pixel `x` of a history line as working values; none: FILL, or an uncorrectable word (R291). -/
def State.histPx (s : State) (l : Nat) (c : CondSet) (bad : List Nat) (h : HistLine) (x : Nat) : Option (List Nat) :=
  let o := s.histAt l c h.slot x
  if touches h.fills x 1 || (List.range c.pxBytes).any (fun i => badWord bad (o + i)) then none
  else some ((List.range (comps c.fmt)).map (fun k =>
    fromStored c.width (ofBytes (s.bayRd (l / 4) (o + k * c.wBytes) c.wBytes))))

/-- The four taps for a line (R285): before, b, c, after; and the phase. -/
structure Taps where
  t0 : HistLine
  t1 : HistLine
  t2 : HistLine
  t3 : HistLine
  phase : Nat

/-- The pick of a list by a measure, the largest or the smallest; of equals the last one. -/
def pickBy (f : HistLine → Int) (big : Bool) : List HistLine → Option HistLine
  | [] => none
  | h :: t => match pickBy f big t with
    | none => some h
    | some g => if (if big then decide (f g < f h) else decide (f h < f g)) then some h else some g

/-- The inner taps of a line at X_n among some lines (R285). -/
def tapB (w : List HistLine) (x : Int) : Option HistLine :=
  pickBy (fun h => posDiff h.x x) true (w.filter (fun h => decide (posDiff h.x x ≤ 0)))
def tapC (w : List HistLine) (x : Int) : Option HistLine :=
  pickBy (fun h => posDiff h.x x) false (w.filter (fun h => decide (0 < posDiff h.x x)))
/-- The line before, and the line after, a line among some. -/
def lineBefore (w : List HistLine) (n : Int) : Option HistLine := pickBy (fun h => h.line) true (w.filter (fun h => decide (h.line < n)))
def lineAfter (w : List HistLine) (n : Int) : Option HistLine := pickBy (fun h => h.line) false (w.filter (fun h => decide (n < h.line)))

/-- The taps and the phase from the inner taps (R285); phase 64 is phase 0 of the pair that follows. -/
def tapsOf (w : List HistLine) (x : Int) (b c : HistLine) : Taps :=
  let d := posDiff c.x b.x
  let p := ((2 * 64 * posDiff x b.x + d) / (2 * d)).toNat
  if p = 64 then
    let n := (lineAfter w c.line).getD c
    ⟨b, c, n, (lineAfter w n.line).getD n, 0⟩
  else ⟨(lineBefore w b.line).getD b, b, c, (lineAfter w c.line).getD c, p⟩

/-- The lane's KIND-0 sequencer (R218). -/
def State.laneSeq (s : State) (l : Nat) : Option Nat :=
  (List.range 128).find? (fun q => ((s.trPath q == 1 && s.get (TRIG_OPT_KIND q) == 0) || s.trPath q == 2) && s.trOut q == l)

/-- The pitch at a line (R287): PITCH, or in LIST mode the distance to the next target of the table, or from the one
before for the last entry. -/
def State.pitchAt (s : State) (l : Nat) (line : Int) : Int :=
  match s.laneSeq l with
  | none => 0
  | some q =>
    if s.trMode q = 0 then s.rdS (TRIG_PITCH q)
    else
      let b := s.get (TRIG_LIST_BASE q)
      let n := s.get (TRIG_LIST_LEN q)
      let at_ := fun (m : Int) => ((List.range n).find? (fun i => s.flag (SCHED_WORD3_VALID (b + i)) &&
        decide ((sext 32 (s.rdN (SCHED_LINE (b + i))) - m) % sext 32 (s.rdN (TRIG_LAP_LINES q)) = 0))).map
          (fun i => s.rdS (schedAt (b + i)))
      match at_ line, at_ (line + 1), at_ (line - 1) with
      | some x, some y, _ => if posDiff y x > 0 then posDiff y x else posDiff (y + s.rdS (TRIG_LAP_DIST q)) x
      | some x, none, some w => posDiff x w
      | _, _, _ => 0

/-- Tap `j`'s weight at a phase (R286). -/
def CondSet.weight (c : CondSet) (b p j : Nat) : Int :=
  if c.rsMode = 1 then (match j with | 1 => (64 - (p : Int)) * 256 | 2 => (p : Int) * 256 | _ => 0)
  else sext 16 (getBits (cget regDefault c.kernel (BAY_RS_KERNEL b (2 * p + j / 2))).toNat (16 * (j % 2)) 16)

/-- The resampled pixel `x` of line `me` (R282, R286). -/
def State.rsPixel (s : State) (l : Nat) (c : CondSet) (bad : List Nat) (me : HistLine) (t : Taps) (x : Nat) : Option (List Nat) :=
  if touches me.fills x 1 then none
  else
    let v1 := s.histPx l c bad t.t1 x
    let v2 := s.histPx l c bad t.t2 x
    let v0 := if c.rsMode = 1 then v1 else s.histPx l c bad t.t0 x
    let v3 := if c.rsMode = 1 then v2 else s.histPx l c bad t.t3 x
    match v0, v1, v2, v3 with
    | some a0, some a1, some a2, some a3 => some ((List.range (comps c.fmt)).map (fun k =>
        clampW ((c.weight (l / 4) t.phase 0 * (a0.getD k 0 : Nat) + c.weight (l / 4) t.phase 1 * (a1.getD k 0 : Nat) +
          c.weight (l / 4) t.phase 2 * (a2.getD k 0 : Nat) + c.weight (l / 4) t.phase 3 * (a3.getD k 0 : Nat) + 8192) / 16384)))
    | _, _, _, _ => if t.phase < 32 then v1 else v2

/-- What becomes of a waiting tile: it waits on, passes through, or is resampled. -/
inductive RsPlan where
  | wait
  | pass
  | taps (t : Taps)

/-- The plan for a tile of line `me` (R285, R287, R288); with `force` from the lines that hold the range. -/
def State.rsPlan (s : State) (t : Tile) (me : HistLine) (force : Bool) : RsPlan :=
  let l := t.lane
  let hist := (s.cln l).hist
  let near := hist.filter (fun h => decide (me.line - 2 ≤ h.line) && decide (h.line ≤ me.line + 2))
  let w := if force then near.filter (fun h => covers h.got t.xOff t.pixels) else near
  let more := !force && !hist.any (fun h => decide (me.line + 2 ≤ h.line))
  match tapB w me.grid, tapC w me.grid with
  | some b, some c =>
    let ts := tapsOf w me.grid b c
    let used := if t.cond.rsMode = 1 then [ts.t1, ts.t2] else [ts.t0, ts.t1, ts.t2, ts.t3]
    if t.cond.rsMode = 2 ∧ more ∧ (lineAfter w c.line).isNone ∧ c.line < me.line + 2 then .wait
    else if !force && !used.all (fun h => covers h.got t.xOff t.pixels) then .wait
    else if 2 * s.pitchAt l me.line < posDiff c.x b.x || used.any (fun h => h.stepSeq != me.stepSeq) then .pass
    else .taps ts
  | _, some _ => .pass
  | _, none => if more then .wait else .pass

/-- A line passes through unresampled: counted once a line, raised and logged (R287). -/
def State.rsPassed (s : State) (l : Nat) (me : HistLine) : State :=
  if me.passed then s
  else
    let s := s.modCln l (fun x => { x with hist := x.hist.map (fun (h : HistLine) =>
      if h.line == me.line && h.trigId == me.trigId then { h with passed := true } else h) })
    ((s.bump (BAY_CNT_RS_PASS l)).raise 2 ((BAY_COND_EVENTS_RS_PASS (l / 4)).sub (l % 4))).logCount 0x7110 l l

/-- Whether one of some words lies in `n` bytes from offset `a` on. -/
def hitsWord (ws : List Nat) (a n : Nat) : Bool := ws.any (fun w => decide (a < w / 8 * 8 + 8) && decide (w / 8 * 8 < a + n))

/-- A tile whose values pass through corrected or uncorrectable words of the history lines it reads, or of its ring space, is
marked in its tag (R291). -/
def State.rsMarks (s : State) (t : Tile) (from_ : List HistLine) (corr bad : List Nat) : State :=
  let hit := fun (ws : List Nat) => hitsWord ws t.off t.stored ||
    from_.any (fun h => hitsWord ws (s.histAt t.lane t.cond h.slot t.xOff) (t.pixels * t.cond.pxBytes))
  let mark := fun (b : Nat) (s : State) => s.modTile t.num (fun t => { t with tag := { t.tag with status := stSet t.tag.status b } })
  (s.iff (hit corr) (mark stMemCorr)).iff (hit bad) (mark stPartial)

/-- A waiting tile is produced, if it can be or must be; `corr` and `bad` are the words with errors that are read now. -/
def State.rsTry (s : State) (n : Nat) (corr bad : List Nat) (force : Bool) : State :=
  match s.tile n with
  | none => s
  | some t =>
    let l := t.lane
    let c := t.cond
    match (s.cln l).hist.find? (fun (h : HistLine) => h.line == t.tag.line && h.trigId == t.tag.trigId) with
    | none => s
    | some me =>
      let fin := fun (s : State) (px : List (Option (List Nat))) (part : Bool) =>
        let bytes := c.spoil t.off bad (c.store px)
        let s := s.iff part (fun s => s.modTile n (fun t => { t with tag := { t.tag with status := stSet t.tag.status stPartial } }))
        let s := (s.bayWr (l / 4) t.off bytes).modCln l (fun x => { x with wait := x.wait.filter (fun m => m != n) })
        s.conditioned n
      let xs := (List.range t.pixels).map (fun i => t.xOff + i)
      match s.rsPlan t me force with
      | .wait => s
      | .pass => fin ((s.rsPassed l me).rsMarks t [me] corr bad) (xs.map (fun x => s.histPx l c bad me x)) false
      | .taps ts =>
        let used := if c.rsMode = 1 then [ts.t1, ts.t2] else [ts.t0, ts.t1, ts.t2, ts.t3]
        fin (s.rsMarks t used corr bad) (xs.map (fun x => s.rsPixel l c bad me ts x)) (used.any (fun h => touches h.parts t.xOff t.pixels))

/-- Every waiting tile of a lane is tried, oldest first. -/
def State.rsAll (s : State) (l : Nat) (corr bad : List Nat) : State :=
  (s.cln l).wait.foldl (fun s n => s.rsTry n corr bad false) s

/-- A tile's values enter the history (R284). A line that is new takes the slot of the oldest one. -/
def State.histAdd (s : State) (t : Tile) (px : List (Option (List Nat))) (corr bad : List Nat) : State :=
  let l := t.lane
  let c := t.cond
  let same := fun (h : HistLine) => h.line == t.tag.line && h.trigId == t.tag.trigId
  let s := if (s.cln l).hist.any same then s
    else
      let hist := (s.cln l).hist
      let full := c.slots ≤ hist.length
      let out := if full then hist.take 1 else []
      let s := (s.cln l).wait.foldl (fun s n => match s.tile n with
        | some u => s.iff (out.any (fun (h : HistLine) => h.line == u.tag.line && h.trigId == u.tag.trigId)) (fun s => s.rsTry n corr bad true)
        | none => s) s
      let slot := match out with
        | h :: _ => h.slot
        | [] => ((List.range c.slots).find? (fun i => !hist.any (fun (h : HistLine) => h.slot == i))).getD 0
      s.modCln l (fun x => { x with hist := (if full then x.hist.drop 1 else x.hist) ++
        [⟨t.tag.line, t.tag.trigId, t.tag.pos, t.tag.grid, t.tag.stepSeq, slot, [], [], [], false⟩] })
  match (s.cln l).hist.find? same with
  | none => s
  | some h =>
    let s := s.bayWr (l / 4) (s.histAt l c h.slot t.xOff) (c.store px)
    let fills := (List.range t.pixels).filterMap (fun i => if (px.getD i none).isNone then some (t.xOff + i, 1) else none)
    let part := bit t.tag.status stPartial
    s.modCln l (fun x => { x with
      hist := x.hist.map (fun (h : HistLine) => if same h then { h with
        got := h.got ++ [(t.xOff, t.pixels)], fills := h.fills ++ fills,
        parts := if part then h.parts ++ [(t.xOff, t.pixels)] else h.parts } else h),
      wait := x.wait ++ [t.num] })

/-! ### Bay store errors (R291) -/

/-- Corrected and uncorrectable words that tiles of lane `l` met, by bay store offset: counted, raised and logged. -/
def State.storeErrors (s : State) (l : Nat) (corr bad : List Nat) : State :=
  let k := l % 4
  let s := s.iff (!corr.isEmpty) (fun s =>
    ((s.bumpBy (BAY_CNT_MEM_CORR l) corr.length).raise 2 ((BAY_COND_EVENTS_MEM_CORR (l / 4)).sub k)).logOnce 0x7130 l l 0)
  bad.foldl (fun s o => ((s.bump (BAY_CNT_MEM_UNCORR l)).raise 2 ((BAY_COND_EVENTS_MEM_UNCORR (l / 4)).sub k)).logC 0x7131 l o) s

/-- The words of a list that lie outside the lane's history: in tables or in a tile's ring space. -/
def State.notHist (s : State) (l : Nat) (c : CondSet) (ws : List Nat) : List Nat :=
  ws.filter (fun w => c.rsMode == 0 || !hitsWord [w] (s.histAt l c 0 0) (c.slots * c.linePx * c.pxBytes))

/-- The tile in the pipe whose tables or values pass through such words is marked in its tag (R291). -/
def State.pipeMarks (s : State) (t : Tile) (corr bad : List Nat) : State :=
  let mark := fun (b : Nat) (s : State) => s.modTile t.num (fun t => { t with tag := { t.tag with status := stSet t.tag.status b } })
  (s.iff (!(s.notHist t.lane t.cond corr).isEmpty) (mark stMemCorr)).iff (!(s.notHist t.lane t.cond bad).isEmpty) (mark stPartial)

/-! ### The commands -/

/-- TILE_CONDITIONED (R25, R275 to R288): the tile in the pipe of lane `l` leaves it. Without resampling it is in its ring
and CONDITIONED; with it, its values are in the history, and every tile whose taps are there is produced. `corr` and `bad`
are the bay store words met with a corrected or an uncorrectable error. -/
def execTileConditioned (l : Fin 96) (corr bad : List Nat) (s : State) : Host.Outcome State Fault Refusal :=
  match s.inPipe l with
  | none => .next s
  | some t =>
    if !t.ended then .next s
    else
      let n := t.num
      let s := (s.storeErrors l corr bad).pipeMarks t corr bad
      let s := s.iff (bit t.cond.ctrl 1 && t.xOff == 0) (fun s =>
        let k := (s.defects (l / 4) (s.defBase l t.cond.set_) 2049 0 none).2.1
        s.iff (decide (0 < k)) (fun s => ((s.bumpBy (BAY_CNT_DEF_ORDER l) k).raise 2
          ((BAY_COND_EVENTS_DEF_ORDER (l / 4)).sub (l % 4))).logOnce 0x7101 l l 0))
      let t := (s.tile n).getD t
      let r := s.stages t bad
      let cut := s.defCut t bad
      let s := s.modCln l (fun x => { x with lines := x.lines.map (fun (y : CondLine) =>
        if y.isFor t.tag.line t.tag.trigId then { y with prev := r.2, cut := cut } else y) })
      if t.cond.rsMode = 0 then
        .next ((s.bayWr (l / 4) t.off (t.cond.spoil t.off bad (t.cond.store r.1))).conditioned n)
      else .next ((s.histAdd t r.1 corr bad).rsAll l corr bad)

/-- RS_WAIT_EXPIRY (R288): RS_WAIT has passed since the oldest waiting tile of lane `l` was conditioned; it is produced
from the taps present. `corr` and `bad` are the bay store words met with an error (R291). -/
def execRsWaitExpiry (w : RsWait) (s : State) : Host.Outcome State Fault Refusal :=
  let l := w.lane
  match (s.cln l).wait with
  | [] => .next s
  | n :: _ =>
    let s := ((s.bump (BAY_CNT_RS_TIMEOUT l)).raise 2 ((BAY_COND_EVENTS_RS_PASS (l / 4)).sub (l % 4))).logOnce 0x7111 l l 0
    .next ((s.storeErrors l w.corr w.bad).rsTry n w.corr w.bad true)

/-- PEAK_CLEAR (R271): PEAK becomes the present fill. -/
def State.clearPeak (s : State) (l : Nat) : State :=
  (s.put (BAY_COND_STATUS_PEAK l) (s.get (BAY_COND_STATUS_FILL l))).putB (BAY_COND_CMD_PEAK_CLEAR l) false

/-- SWAP (R283): a switch waits for the lane's next line. -/
def State.askSwap (s : State) (l : Nat) : State :=
  (s.putB (BAY_COND_CMD_SWAP l) true).putB (BAY_COND_STATUS_SWAP_WAIT l) true

end Sys2Proof.Machine
end

