-- ==== Sys2Proof/Machine/Stitch.lean ====
section
/-!
DEFINITION. Scarf units (R295 to R306, R311) and kerf buffers (R307 to R310).
-/

namespace Sys2Proof.Machine

open Reg

def State.scf (s : State) (u : Nat) : Scarf := cget (fun _ => Scarf.reset) s.scarf u
def State.modScf (s : State) (u : Nat) (f : Scarf → Scarf) : State :=
  { s with scarf := cset (fun _ => Scarf.reset) s.scarf u (f (s.scf u)) }

/-! ### A unit's definition (R295 to R297) -/

def State.segments (s : State) (u : Nat) : Nat := s.get (STITCH_CTRL_SEGMENTS u)
def State.segLane (s : State) (u k : Nat) : Nat := s.get (STITCH_SEG_W0_LANE u k)
def State.uFirst (s : State) (u k : Nat) : Nat := s.get (STITCH_SEG_W0_U_FIRST u k)
def State.uLast (s : State) (u k : Nat) : Nat := s.get (STITCH_SEG_W1_U_LAST u k)
def State.bentPixels (s : State) (u : Nat) : Nat := s.get (STITCH_PIXELS_BENT_PIXELS u)
/-- C and Y of a unit. -/
def State.bentC (s : State) (u : Nat) : Nat := if s.flag (STITCH_CTRL_COMP u) then 3 else 1
def State.bentY (s : State) (u : Nat) : Nat := if s.flag (STITCH_CTRL_WIDE u) then 2 else 1
def State.bentBytes (s : State) (u : Nat) : Nat := roundUp (s.bentPixels u * s.bentC u * s.bentY u) 64
/-- SLOTS (R300). -/
def State.bentSlots (s : State) (u : Nat) : Nat := min 8 (2097152 / max 1 (s.bentBytes u))

/-- STITCH_STATUS shows slots, open bents and RUNNING (EN with at least one segment). -/
def State.showScarf (s : State) (u : Nat) : State :=
  ((s.put (STITCH_STATUS_SLOTS u) (s.bentSlots u)).put (STITCH_STATUS_OPEN u)
    ((s.scf u).bents.filter (fun (b : Bent) => b.closing.isNone)).length).putB
    (STITCH_STATUS_RUNNING u) (s.flag (STITCH_CTRL_EN u) && decide (0 < s.segments u))

/-! ### Geometry (R298, R299) -/

/-- The ratio of a segment, halves up (R298). -/
def ratioOf (scale : Int) : Int := (2 * 2 ^ 32 * 1000000 + (1000000 + scale)) / (2 * (1000000 + scale))
/-- The source coordinate of bent pixel `x` in segment `k`, in 1/32 pixel (R298). -/
def State.srcAt (s : State) (u k x : Nat) : Int :=
  32 * (s.get (STITCH_SEG_W3_SRC_START u k) : Int) + ((32 * (x : Int) - sext 25 (s.get (STITCH_SEG_W2_OFFSET u k))) *
    ratioOf (sext 16 (s.get (STITCH_SEG_W3_SCALE u k))) + 2 ^ 31) / 2 ^ 32

/-- The first and the last source pixel that the span of a segment needs. -/
def State.segNeeds (s : State) (u k : Nat) : Nat × Nat :=
  let a := (s.srcAt u k (s.uFirst u k)).toNat
  let b := (s.srcAt u k (s.uLast u k)).toNat
  (a / 32, b / 32 + (if b % 32 = 0 then 0 else 1))

/-- Interpolation between two stored values (R298). -/
def lerp32 (f a b : Nat) : Nat := if f = 0 then a else ((32 - f) * a + f * b + 16) / 32

/-- The weight of segment `k + 1` at bent pixel `x` of the overlap from `a` to `b` with a ramp of `r` (R299). -/
def blendWeight (a b r x : Nat) : Nat :=
  let c := a + (b + 1 - a - r) / 2
  if x < c then 0 else if x < c + r then (256 * (2 * (x - c) + 1) + r) / (2 * r) else 256

/-- Blending (R299). -/
def blend (w p q : Nat) : Nat := ((256 - w) * p + w * q + 128) / 256

/-- Stored values of a tile, component by component. -/
def valsOf (y : Nat) (bytes : List Byte) : List Nat := (List.range (bytes.length / y)).map (fun i => bytesAt bytes (y * i) y)

/-- Component `c` of source pixel `i`, from the complete tiles of a segment of a bent. -/
def srcVal (cc : Nat) (ts : List BentTile) (i c : Nat) : Option Nat :=
  match ts.find? (fun (t : BentTile) => t.done && decide (t.xOff ≤ i) && decide (i < t.xOff + t.pixels)) with
  | some t => t.vals[(i - t.xOff) * cc + c]?
  | none => none

/-- The value of segment `k` at bent pixel `x`, from the tiles that arrived (R298, R303). -/
def State.segVal (s : State) (u k : Nat) (ts : List BentTile) (x c : Nat) : Option Nat :=
  if x < s.uFirst u k ∨ s.uLast u k < x then none
  else
    let g := s.srcAt u k x
    if g < 0 then none
    else
      let i := g.toNat / 32
      let f := g.toNat % 32
      match srcVal (s.bentC u) ts i c, (if f = 0 then some 0 else srcVal (s.bentC u) ts (i + 1) c) with
      | some a, some b => some (lerp32 f a b)
      | _, _ => none

/-- FILL of a bent, cut to the width of its lanes' stored values as R152 cuts it (R303). -/
def State.bentFill (s : State) (u : Nat) : Nat :=
  let f := s.get (STITCH_FILL_FILL u)
  if s.bentC u = 3 ∧ s.bentY u = 1 then f % 256 else f % 2 ^ (8 * s.bentY u)

/-- Component `c` of bent pixel `x` (R299, R303): where two segments cover it both are blended, and where one of them has
no value the other takes its place. -/
def State.bentVal (s : State) (u : Nat) (b : Bent) (x c : Nat) : Nat :=
  let of := fun (k : Nat) => s.segVal u k (b.tiles.filter (fun (t : BentTile) => t.seg == k)) x c
  let cov := (List.range (s.segments u)).filter (fun k => decide (s.uFirst u k ≤ x) && decide (x ≤ s.uLast u k))
  match cov with
  | [k] => (of k).getD (s.bentFill u)
  | k :: m :: _ => match of k, of m with
    | some p, some q => blend (blendWeight (s.uFirst u m) (s.uLast u k) (s.get (STITCH_SEG_W1_RAMP_LEN u k)) x) p q
    | some p, none => p
    | none, some q => q
    | none, none => s.bentFill u
  | [] => s.bentFill u

/-! ### Presence (R301) -/

/-- Whether a segment of a bent is present. -/
def State.segPresent (s : State) (u : Nat) (b : Bent) (k : Nat) : Bool :=
  let n := s.segNeeds u k
  let ts := b.tiles.filter (fun (t : BentTile) => t.seg == k && t.done)
  covers (ts.map (fun t => (t.xOff, t.pixels))) n.1 (n.2 + 1 - n.1)

/-- Whether a segment of a bent is known missing: its lane has delivered a higher line, or is outside ACTIVE, retired or
unused. -/
def State.segGone (s : State) (u : Nat) (b : Bent) (k : Nat) : Bool :=
  let l := s.segLane u k
  s.laneState l != 6 || s.laneRetired l || !s.flag (LANE_CTRL_ENABLE l) ||
    (s.scf u).last.any (fun (e : Nat × Int) => e.1 == l && decide (b.line < e.2))

/-- The stream of a unit (R295). -/
def State.unitStream (s : State) (u : Nat) : Option Nat :=
  (List.range 256).find? (fun st => s.flag (DLV_STATUS_ADMITTED st) && s.get (DLV_CFG_KIND st) == 1 && s.get (DLV_CFG_SOURCE st) == u)

/-- A scarf unit hands entries on to a delivery of its stream, or lets go of them. -/
def State.handOver (s : State) (u : Nat) (ts : List Nat) : State :=
  match s.unitStream u with
  | some st => ts.foldl (fun s n => s.modTile n (fun t => { t with holders := t.holders.map (fun h => if h = hScarf u then st else h) })) s
  | none => ts.foldl (fun s n => s.release n (hScarf u)) s

/-! ### A bent closes (R302 to R304) -/

/-- Value `i` of a bent of `y` bytes each lies in a word that cannot be corrected. -/
def Bent.spoiled (b : Bent) (y i : Nat) : Bool := badWord b.bad (y * i)

/-- The counters, events and STITCH_LAST of a bent that leaves the unit. -/
def State.bentCount (s : State) (u : Nat) (b : Bent) (gone map : Nat) (part : Bool) : State :=
  let cause := b.closing.getD 0
  let s := (s.bump (STITCH_CNT_BENTS u)).bumpBy (STITCH_CNT_SEG_MISSING u) gone
  let s := s.iff part (fun s => ((s.bump (STITCH_CNT_PARTIAL u)).raise 3 (STITCH_EVENTS_PARTIAL u)).logCount 0x7201 u u)
  let s := s.iff (bit cause 2) (fun s => (s.bump (STITCH_CNT_TIMEOUT u)).raise 3 (STITCH_EVENTS_TIMEOUT u))
  let s := b.bad.foldl (fun s _ => ((s.bump (STITCH_CNT_MEM_UNCORR u)).raise 3 (STITCH_EVENTS_MEM_UNCORR u)).logC 0x7204 u b.slot) s
  let s := (((s.wrS (STITCH_LAST_LINE u) b.line).wrN (STITCH_LAST_MAP u 0) map).wrN (STITCH_LAST_MAP u 1) (map / 2 ^ 32)).wrN
    (STITCH_LAST_MAP u 2) (map / 2 ^ 64)
  let s := (s.wrN (STITCH_LAST_FLAGS u) (gone * 256 + cause + b2n part)).publishC (STITCH_LAST_STATUS u)
  s.modScf u (fun x => { x with bents := x.bents.filter (fun (c : Bent) => c.num != b.num) })

/-- The values of a bent as bytes (R303). -/
def State.bentData (s : State) (u : Nat) (b : Bent) : List Byte :=
  let cc := s.bentC u
  let y := s.bentY u
  ((List.range (s.bentPixels u)).flatMap (fun x => (List.range cc).map (fun c =>
    if b.spoiled y (x * cc + c) then s.bentFill u else s.bentVal u b x c))).flatMap (fun v => toBytes y v)

/-- The tag of a bent: that of the reference segment's tile where it is there, else of the lowest segment's (R303). -/
def State.bentTag (s : State) (u : Nat) (b : Bent) (have_ : List Nat) : TagInfo :=
  let ref_ := s.get (STITCH_FILL_REF_SEG u)
  let src := if decide (ref_ ∈ have_) then ref_ else match have_ with
    | k :: _ => k
    | [] => (b.tiles.map (fun (t : BentTile) => t.seg)).foldl min 95
  match (b.tiles.filter (fun (t : BentTile) => t.seg == src)).findSome? (fun t => s.tile t.tile) with
  | some t => { t.tag with fmt := t.fmtByte }
  | none => TagInfo.reset

/-- The delivery of a bent becomes ready, after its record for recall. -/
def State.bentReady (s : State) (u st : Nat) (tag : TagInfo) (map acc : Nat) (tiles : List Nat) (data : List Byte) : State :=
  let s := s.iff (s.flag (DLV_CFG_RECALL st)) (fun s => s.record (s.recordTag 1 st u tag map (s.get (DLV_CFG_PORT st) % 2)) data)
  (s.checkLen st data.length).ready {
    num := 0, stream := st, port := 0, kind := 1, tiles := tiles, acc := acc, tag := tag,
    tagStream := st, unit := u, segMap := map, data := data, final := true, sent := 0, desc := none, inDesc := 0,
    filled := [], waitFrom := none, waited := 0, hostLate := false, loss := false, refAcc := none, slot := none, nodeId := 0 }

/-- A bent is written whole and leaves the unit: entries STITCHED, counters, STITCH_LAST, delivery and recall. -/
def State.emitBent (s : State) (u : Nat) (b : Bent) : State :=
  let n := s.segments u
  let have_ := (List.range n).filter (fun k => s.segPresent u b k)
  let gone := n - have_.length
  let map := have_.foldl (fun a k => a + 2 ^ k) 0
  let data := s.bentData u b
  let tiles := (b.tiles.filter (fun (t : BentTile) => t.done)).map (fun t => t.tile)
  let infos := tiles.filterMap (fun m => s.tile m)
  let part := decide (0 < gone) || infos.any (fun t => bit t.tag.status stPartial) || !b.bad.isEmpty
  let tag := s.bentTag u b have_
  let st0 := if part then stSet tag.status stPartial else tag.status
  let st0 := if b.corr || infos.any (fun t => bit t.tag.status stMemCorr) then stSet st0 stMemCorr else st0
  let acc := infos.foldl (fun a t => min a t.acc) s.tb.ticks
  let t := (((tiles.foldl (fun s m => s.tileTo m 2) s).bentCount u b gone map part).handOver u tiles).showScarf u
  match s.unitStream u with
  | none => t
  | some st => t.bentReady u st { tag with status := st0 } map acc tiles data

/-- A bent closes: CLOSED_HIGH follows (R300), and tiles whose transfer has begun are completed into it first (R301). -/
def State.closeBent (s : State) (u num cause : Nat) : State :=
  match (s.scf u).bents.find? (fun (b : Bent) => b.num == num) with
  | none => s
  | some b =>
    let b := { b with closing := some (b.closing.getD cause) }
    let s := s.iff (decide (s.rdS (STITCH_CLOSED_HIGH u) < b.line)) (fun s => s.wrS (STITCH_CLOSED_HIGH u) b.line)
    if b.tiles.any (fun (t : BentTile) => !t.done) then
      (s.modScf u (fun x => { x with bents := x.bents.map (fun (c : Bent) => if c.num == num then b else c) })).showScarf u
    else s.emitBent u b

/-- Every bent that has nothing more to wait for closes (R301, R302), the oldest first. -/
def State.settleBents (s : State) (u : Nat) : State :=
  (s.scf u).bents.foldl (fun s b =>
    if b.closing.isSome then s.iff (!b.tiles.any (fun (t : BentTile) => !t.done)) (fun s => s.emitBent u b)
    else s.iff ((List.range (s.segments u)).all (fun k => s.segPresent u b k || (s.segGone u b k &&
        !b.tiles.any (fun (t : BentTile) => t.seg == k && !t.done)))) (fun s => s.closeBent u b.num 0)) s

/-! ### Stragglers (R305) -/

/-- A straggler tile is delivered by itself. -/
def State.straggler (s : State) (u k n : Nat) : State :=
  match s.tile n with
  | none => s
  | some t =>
    let cc := s.bentC u
    let y := s.bentY u
    let bt : BentTile := ⟨k, n, t.xOff, t.pixels, valsOf y (s.tileData t), true⟩
    let xs := (List.range (s.uLast u k + 1 - s.uFirst u k)).map (fun i => s.uFirst u k + i)
    let xs := xs.filter (fun x => (s.segVal u k [bt] x 0).isSome)
    let vals := xs.flatMap (fun x => (List.range cc).map (fun c => (s.segVal u k [bt] x c).getD 0))
    let data := toBytes 4 (xs.headD 0) ++ toBytes 4 xs.length ++ vals.flatMap (fun v => toBytes y v)
    let s := (((s.tileTo n 2).bump (STITCH_CNT_STRAGGLER u)).raise 3 (STITCH_EVENTS_STRAGGLER u)).logCount 0x7202 u u
    let s := s.handOver u [n]
    match s.unitStream u with
    | none => s
    | some st => (s.checkLen st data.length).ready {
        num := 0, stream := st, port := 0, kind := 1, tiles := [n], acc := t.acc,
        tag := { t.tag with fmt := t.fmtByte, status := stSet (stSet t.tag.status stPartial) stStraggler },
        tagStream := st, unit := u, segMap := 2 ^ k, data := data, final := true, sent := 0, desc := none, inDesc := 0,
        filled := [], waitFrom := none, waited := 0, hostLate := false, loss := false, refAcc := none, slot := none, nodeId := 0 }

/-! ### Bursts (R300, R301) -/

/-- A free slot of a unit: none of its bents, open or closing, is in it. -/
def State.freeSlot (s : State) (u : Nat) : Option Nat :=
  (List.range (s.bentSlots u)).find? (fun i => !(s.scf u).bents.any (fun (b : Bent) => b.slot == i))

/-- The bent that a unit without a free slot forces out (R300): the open one that opened first. DESIGN CHOICE: where every
bent is closing already, the one of these that opened first and whose slot no newer bent has taken. -/
def State.forcedBent (s : State) (u : Nat) : Option Bent :=
  let bs := (s.scf u).bents
  (bs.find? (fun (b : Bent) => b.closing.isNone)).or
    (bs.find? (fun (b : Bent) => decide (b.slot < s.bentSlots u) && !bs.any (fun (c : Bent) => c.slot == b.slot && b.num != c.num)))

/-- A bent is forced out of its slot (R300): it closes as if its deadline had passed. -/
def State.forceOut (s : State) (u : Nat) (b : Bent) : State :=
  (((s.bump (STITCH_CNT_FORCED u)).raise 3 (STITCH_EVENTS_FORCED u)).logC 0x7203 u (trunc 32 b.line)).closeBent u b.num 2

/-- A number that no bent of a unit has. -/
def State.bentNum (s : State) (u : Nat) : Nat := (s.scf u).bents.foldl (fun n (b : Bent) => max n (b.num + 1)) 0

/-- A bent of line `line` opens in slot `i` (R300). -/
def State.openIn (s : State) (u : Nat) (line : Int) (i : Nat) : State :=
  (s.modScf u (fun x => { x with bents := x.bents ++
    [⟨line, s.bentNum u, i, s.tb.ticks + max 1 (s.get (STITCH_TIMING_BENT_WAIT u)) * 1000, [], none, false, []⟩] })).showScarf u

/-- A new bent opens in a free slot; with none free, a bent is forced out, and the new one takes its slot (R300). -/
def State.openBent (s : State) (u : Nat) (line : Int) : State :=
  match s.freeSlot u with
  | some i => s.openIn u line i
  | none => match s.forcedBent u with
    | some b => (s.forceOut u b).openIn u line b.slot
    | none => s

/-- Whether a tile is a straggler of a unit, and whether it is known to the unit at all. -/
def State.strayTile (s : State) (u n : Nat) : Bool := (s.scf u).stray.any (fun (e : Nat × Nat) => e.2 == n)
def State.knownTile (s : State) (u n : Nat) : Bool :=
  s.strayTile u n || (s.scf u).bents.any (fun (b : Bent) => b.tiles.any (fun (e : BentTile) => e.tile == n))

/-- The open bent of a line. -/
def State.openLine (s : State) (u : Nat) (line : Int) : Option Bent :=
  (s.scf u).bents.find? (fun (b : Bent) => b.line == line && b.closing.isNone)

/-- Lane `l` has delivered a tile of line `line` to the unit (R301). -/
def State.delivered (s : State) (u l : Nat) (line : Int) : State :=
  s.modScf u (fun x => { x with last := (x.last.filter (fun (e : Nat × Int) => e.1 != l)) ++
    [(l, match x.last.find? (fun (e : Nat × Int) => e.1 == l) with | some e => max e.2 line | none => line)] })

/-- The first burst of tile `t` of segment `k` (R300, R301, R305): the tile joins the open bent of its line, which opens if
it must, or else is a straggler. -/
def State.burstJoin (s : State) (u k : Nat) (t : Tile) : State :=
  let line := t.tag.line
  let s := if (s.openLine u line).isSome || !s.flag (STITCH_CTRL_EN u) || decide (line ≤ s.rdS (STITCH_CLOSED_HIGH u)) then s
    else s.openBent u line
  match s.openLine u line with
  | some b => s.modScf u (fun x => { x with bents := x.bents.map (fun (c : Bent) =>
      if c.num == b.num then { c with tiles := c.tiles ++ [⟨k, t.num, t.xOff, t.pixels, [], false⟩] } else c) })
  | none => s.modScf u (fun x => { x with stray := x.stray ++ [(k, t.num)] })

/-- Memory errors of a burst of tile `n` (R304). -/
def State.burstErrors (s : State) (u n : Nat) (corr : Bool) (bad : List Nat) : State :=
  (s.iff corr (fun s => s.bump (STITCH_CNT_MEM_CORR u))).modScf u (fun x => { x with bents := x.bents.map (fun (b : Bent) =>
    if b.tiles.any (fun (e : BentTile) => e.tile == n) then { b with corr := b.corr || corr, bad := b.bad ++ bad } else b) })

/-- The last burst of tile `n`: its values are in the bent. -/
def State.burstDone (s : State) (u n : Nat) (vs : List Nat) : State :=
  s.modScf u (fun x => { x with bents := x.bents.map (fun (b : Bent) => { b with
    tiles := b.tiles.map (fun (e : BentTile) => if e.tile == n then { e with vals := vs, done := true } else e) }) })

/-- The last burst of tile `t` of segment `k`: the lane has delivered the tile, which goes into its bent or, as a straggler,
out by itself (R301, R305). -/
def State.burstLast (s : State) (u k n : Nat) (t : Tile) : State :=
  let s := s.delivered u t.lane t.tag.line
  if s.strayTile u n then
    (s.modScf u (fun x => { x with stray := x.stray.filter (fun (e : Nat × Nat) => e.2 != n) })).straggler u k n
  else s.burstDone u n (valsOf (s.bentY u) (s.tileData t))

/-- SEGMENT_BURST_ARRIVE (R300, R301, R305): a burst of tile `n` reaches unit `u`; with `last` the whole tile has come.
`corr` says that the assembly memory corrected an error in the bent, and `bad` lists the byte offsets of words of the bent
that it could not correct (R304). DESIGN CHOICE: a tile whose segment the unit's definition no longer names is let go. -/
def execSegmentBurstArrive (u : Fin 16) (n : Nat) (last corr : Bool) (bad : List Nat) (s : State) :
    Host.Outcome State Fault Refusal :=
  match s.tile n with
  | none => .next s
  | some t =>
    match s.segOf u t.lane with
    | none => .next (s.iff (last && decide (hScarf u ∈ t.holders)) (fun s => s.release n (hScarf u)))
    | some k =>
      if !decide (hScarf u ∈ t.holders) || !t.started || (last && t.state == 0) then .next s
      else
        let s := (s.iff (!s.knownTile u n) (fun s => s.burstJoin u k t)).burstErrors u n corr bad
        .next ((s.iff last (fun s => s.burstLast u k n t)).settleBents u)

/-- BENT_DEADLINE (R301): the deadline of the open bent of line `line` passes; before that instant nothing happens. -/
def execBentDeadline (u : Fin 16) (line : Int) (s : State) : Host.Outcome State Fault Refusal :=
  match (s.scf u).bents.find? (fun (b : Bent) => b.line == line && b.closing.isNone) with
  | none => .next s
  | some b => .next (s.iff (decide (b.due ≤ s.tb.ticks)) (fun s => s.closeBent u b.num 4))

/-- EN is set (R311): CLOSED_HIGH goes to the lowest line number. -/
def State.stitchOn (s : State) (u : Nat) : State :=
  (((s.putB (STITCH_CTRL_EN u) true).wrS (STITCH_CLOSED_HIGH u) (-2 ^ 63)).modScf u (fun x => { x with last := [] })).showScarf u

/-- EN is cleared (R301, R311): every open bent closes. -/
def State.stitchOff (s : State) (u : Nat) : State :=
  let s := s.putB (STITCH_CTRL_EN u) false
  ((s.scf u).bents.foldl (fun s b => s.closeBent u b.num 0) s).showScarf u

/-! ### Kerf buffers (R307 to R309) -/

/-- The address of a slot. -/
def State.kerfAt (s : State) (l slot : Nat) : Nat := s.rd64 (KERF_BASE l) + slot * s.get (KERF_SLOT_SLOT_BYTES l)

/-- The tiles of the line of tile `t` that lane `l` has in its ring for the kerf buffer. -/
def State.kerfLine (s : State) (l : Nat) (t : Tile) : List Tile :=
  s.ledger.tiles.filter (fun (u : Tile) => u.lane == l && decide (hKerf ∈ u.holders) && u.tag.line == t.tag.line &&
    u.tag.trigId == t.tag.trigId)

/-- In a retired channel a line passes undelayed to its scarf units (R358). -/
def State.kerfPass (s : State) (l : Nat) (ts : List Tile) : State :=
  ts.foldl (fun s u => (s.modTile u.num (fun t => { t with holders := t.holders.erase hKerf ++ (s.scarfUnits l).map hScarf })).iff
    (s.scarfUnits l).isEmpty (fun s => s.release u.num hKerf)) s

/-- A line is written to the next slot of the kerf buffer, on the bay's requester (R16), and is held there. -/
def State.kerfHold (s : State) (l : Nat) (t : Tile) (ts : List Tile) : State :=
  let slot := (s.krf l).next
  let s := (s.arbAsk (s.kerfChan l) (l / 4)).ddrWr (s.kerfAt l slot) (ts.flatMap (fun u => s.tileData u))
  let s := s.modKrf l (fun k => { k with
    held := k.held ++ [⟨t.tag.line, t.tag.trigId, ts.map (fun u => u.num), slot, s.tb.ticks⟩],
    next := (slot + 1) % max 1 (s.get (KERF_CFG_DEPTH l)) })
  ts.foldl (fun s u => s.modTile u.num (fun t => { t with holders := t.holders.erase hKerf ++ [hHeld] })) s

/-- How many held lines are due once line `n` is written (R307). -/
def State.kerfDue (s : State) (l : Nat) (n : Int) : Nat :=
  ((s.krf l).held.takeWhile (fun (k : KerfLine) => decide (k.line + s.get (KERF_CFG_DELAY_LINES l) ≤ n))).length

/-- Whether the next slot of a kerf buffer still holds a line that was released and is not yet read back. -/
def State.kerfBusy (s : State) (l : Nat) : Bool := (s.krf l).out.any (fun (k : KerfLine) => k.slot == (s.krf l).next)

/-- With every slot held, the oldest line is released (R309). -/
def State.kerfFull (s : State) (l : Nat) : State :=
  s.iff (decide (max 1 (s.get (KERF_CFG_DEPTH l)) ≤ (s.krf l).held.length)) (fun s =>
    ((s.kerfRelease l 1).bump (KERF_CNT_FULL l)).logOnce 0x7207 l l 0)

/-- KERF_LINE_WRITE (R307, R309): the oldest whole conditioned line of lane `l` that is still in its ring is written to the
kerf buffer, its ring space is released, and the lines now due are released. With every slot held the oldest line is
released, and its slot is reused once that line has been read back: until then the command writes nothing. In a retired
channel the line passes undelayed (R358). -/
def execKerfLineWrite (l : Fin 96) (s : State) : Host.Outcome State Fault Refusal :=
  match s.ledger.tiles.find? (fun (t : Tile) => t.lane == l.val && decide (hKerf ∈ t.holders)) with
  | none => .next s
  | some t =>
    let ts := s.kerfLine l t
    if ts.any (fun u => u.state == 0) || !ts.any (fun u => u.endsLine) then .next s
    else if s.get (DDR_STATUS_STATE (s.kerfChan l)) = 3 then .next (s.kerfPass l ts)
    else
      let s := s.kerfFull l
      if s.kerfBusy l then .next s
      else
        let s := s.kerfHold l t ts
        .next (s.kerfRelease l (s.kerfDue l t.tag.line))

/-- KERF_MAX_EXPIRY (R307): KERF_MAX_US has passed since the oldest held line was written; before that instant nothing
happens. -/
def execKerfMaxExpiry (l : Fin 96) (s : State) : Host.Outcome State Fault Refusal :=
  match (s.krf l).held with
  | [] => .next s
  | k :: _ =>
    let w := s.get (KERF_MAX_US_US l)
    if w = 0 ∨ s.tb.ticks < k.at_ + 1000 * w then .next s
    else .next (((s.kerfRelease l 1).bump (KERF_CNT_EARLY l)).logOnce 0x7205 l l 0)

/-- Tile `n` of a released line is read back from `o` bytes behind `at_` (R307, R309): values in units that could not be
corrected become FILL, and the tile goes to the scarf units of lane `l`. Answers where the next tile lies. -/
def State.kerfTile (s : State) (l at_ o : Nat) (dead corr : Bool) (bad : List Nat) (n : Nat) : State × Nat :=
  match s.tile n with
  | none => (s, o)
  | some t =>
    let raw := s.ddrRd (at_ + o) t.stored
    let w := t.cond.wBytes
    let hit := fun (i : Nat) => dead || decide ((o + w * i) / 64 ∈ bad)
    let m := t.stored / w
    let bytes := (List.range m).flatMap (fun i => if hit i then toBytes w t.cond.fillStored else (raw.drop (w * i)).take w)
    let st := if (List.range m).any hit then stSet t.tag.status stPartial else t.tag.status
    let st := if corr then stSet st stMemCorr else st
    let us := s.scarfUnits l
    let s := s.modTile n (fun t => { t with
      kerf := some bytes, tag := { t.tag with status := st }, holders := t.holders.erase hHeld ++ us.map hScarf })
    (s.iff us.isEmpty (fun s => s.release n hHeld), o + t.stored)

/-- KERF_READBACK_DONE (R307, R309, R358): the oldest released line of lane `l` has been read back; `corr` says that a
read was corrected, and `bad` lists the 64-byte units of the line that could not be. It goes to its scarf units. In a
retired channel the whole line is uncorrectable. Nothing is read back before the bay's requester has its grant (R16). -/
def execKerfReadbackDone (l : Fin 96) (corr : Bool) (bad : List Nat) (s : State) : Host.Outcome State Fault Refusal :=
  match (s.krf l).out with
  | [] => .next s
  | k :: rest =>
    if s.arbWaits (s.kerfChan l) (l / 4) then .next s
    else
    let s := s.modKrf l (fun x => { x with out := rest })
    .next (k.tiles.foldl (fun (r : State × Nat) n => r.1.kerfTile l (s.kerfAt l k.slot) r.2
      (s.get (DDR_STATUS_STATE (s.kerfChan l)) == 3) corr bad n) (s, 0)).1

end Sys2Proof.Machine
end

