-- ==== Sys2Proof/Machine/Rom.lean ====
section
/-!
DEFINITION. What software can count on: units in service, the capacity registers (R499) and the Descriptor ROM (R407 to
R409).
-/

namespace Sys2Proof.Machine

open Reg

/-- STATE of an engine, and whether it is quarantined (R339). -/
def State.engState (s : State) (e : Nat) : Nat := s.get (ENG_STATUS_STATE e)
def State.quarantined (s : State) (e : Nat) : Bool := s.engState e == 4

/-! ### The Descriptor ROM -/

/-- Capacity of a DDR4 channel in GiB (R346). -/
def State.ddrGib (s : State) (k : Nat) : Nat :=
  (if s.flag (DDR_CFG_DENSITY k) then 32 else 16) * (if s.flag (DDR_CFG_RANKS k) then 2 else 1)
def State.ddrServes (s : State) (k : Nat) : Bool := s.get (DDR_STATUS_STATE k) == 2
def State.laneServes (s : State) (l : Nat) : Bool := !s.laneRetired l
def State.engServes (s : State) (e : Nat) : Bool := !s.engRetired e && !s.quarantined e

/-- How many of `n` units meet `f`. -/
def countOf (n : Nat) (f : Nat → Bool) : Nat := ((List.range n).filter f).length

/-- Entries of the free pool (R381). -/
def State.freePool (s : State) : Nat := 131072 - s.ledgerRes

/-- A record of the Descriptor ROM (R407). -/
def romRecord (type : Nat) (l : List Byte) : List Byte :=
  let l := l ++ List.replicate (roundUp l.length 4 - l.length) 0
  toBytes 2 type ++ toBytes 2 (l.length + 4) ++ l

/-- The entries of BLOCK_MAP (R408, R501, R502): block, offset, instances, stride. -/
def blockMap : List (Nat × Nat × Nat × Nat) :=
  [(1, 0, 1, 0), (2, 0x10000, 2, 0x4000), (3, 0x20000, 1, 0), (4, 0x30000, 1, 0), (5, 0x40000, 16, 0x400),
   (6, 0x80000, 128, 0x100), (7, 0xA0000, 16384, 16), (8, 0x100000, 96, 0x400), (9, 0x140000, 24, 0x1000),
   (10, 0x180000, 16, 0x800), (11, 0x1C0000, 8, 0x1000), (12, 0x200000, 256, 0x100), (13, 0x240000, 3, 0x4000),
   (14, 0x280000, 1, 0), (15, 0x2C0000, 1, 0), (16, 0x300000, 1, 0), (17, 0x250000, 1, 0)]

/-- A bit map of `n` units as bytes. -/
def mapBytes (k n : Nat) (f : Nat → Bool) : List Byte := toBytes k (bitsOf n f)

/-- Firmware builds a new image of the Descriptor ROM (R408, R409). -/
def State.romBuild (s : State) : State :=
  let sillN := countOf 4 (fun q => !s.sillRetired q)
  let posN := countOf 16 (fun c => !s.posRetired c)
  let recs :=
    romRecord 1 (toBytes 2 0x9624 ++ toBytes 1 (b2n Config.grade) ++ [Config.rev] ++ toBytes 2 s.nodeId ++
      toBytes 1 (s.get GLOBAL_BOOT_STATUS_FW_SLOT) ++ toBytes 1 (s.get GLOBAL_BOOT_STATUS_CL_SLOT) ++
      toBytes 8 Config.serial.toNat ++ toBytes 4 (s.rdN GLOBAL_FW_VERSION) ++ toBytes 8 s.mc.buildId) ++
    romRecord 2 (toBytes 2 (countOf 96 s.laneServes) ++ toBytes 2 (countOf 24 (fun b => !s.bayRetired b)) ++
      toBytes 2 (countOf 192 s.engServes) ++ toBytes 2 16 ++ toBytes 2 (countOf 8 (fun k => !s.ddrRetired k)) ++ toBytes 2 posN ++
      toBytes 2 128 ++ toBytes 2 sillN ++ toBytes 2 64 ++ toBytes 4 s.freePool ++
      (List.range 8).flatMap (fun k => toBytes 4 (if s.ddrServes k then s.ddrGib k * 1024 else 0))) ++
    romRecord 3 (mapBytes 12 96 s.laneServes ++ mapBytes 4 24 (fun b => !s.bayRetired b) ++ mapBytes 24 192 s.engServes ++
      toBytes 2 0xFFFF ++ mapBytes 1 8 (fun k => !s.ddrRetired k) ++ mapBytes 2 16 (fun c => !s.posRetired c) ++
      mapBytes 1 4 (fun q => !s.sillRetired q) ++ toBytes 2 0 ++ mapBytes 24 192 s.quarantined) ++
    romRecord 4 (blockMap.flatMap (fun b => toBytes 2 b.1 ++ toBytes 2 0x0100 ++ toBytes 4 b.2.1 ++ toBytes 2 b.2.2.1 ++
      toBytes 2 0 ++ toBytes 4 b.2.2.2)) ++
    romRecord 0xFFFF []
  s.modMc (fun m => { m with romGen := m.romGen + 1, romRecs := recs, romCount := 5 })

/-- The bytes of the Descriptor ROM (R407). -/
def State.romBytes (s : State) : List Byte :=
  toBytes 4 0x52445747 ++ toBytes 2 0x0100 ++ toBytes 2 s.mc.romCount ++ toBytes 4 (32 + s.mc.romRecs.length) ++
    toBytes 4 s.mc.romGen ++ toBytes 4 (crc32c s.mc.romRecs) ++ List.replicate 12 0 ++ s.mc.romRecs

/-- The capacity registers (R499). -/
def State.showCap (s : State) : State :=
  let s := (((s.put GLOBAL_CAP_A_ENGINES (countOf 192 s.engServes)).put GLOBAL_CAP_A_BAYS (countOf 24 (fun b => !s.bayRetired b))).put
    GLOBAL_CAP_A_LANES (countOf 96 s.laneServes)).put GLOBAL_CAP_B_SILL (countOf 4 (fun q => !s.sillRetired q))
  ((s.put GLOBAL_CAP_B_POS (countOf 16 (fun c => !s.posRetired c))).put GLOBAL_CAP_B_DDR (countOf 8 (fun k => !s.ddrRetired k))).put
    GLOBAL_CAP_DDR_GIB (((List.range 8).filter s.ddrServes).foldl (fun a k => a + s.ddrGib k) 0)

/-- Firmware, while it runs, builds a new image when a field of R408 has changed (R409, R499). -/
def State.romUpdate (s : State) : State :=
  s.iff (s.mc.fwOn && !s.power.mcDown && !s.held) (fun s => s.showCap.romBuild)

end Sys2Proof.Machine
end

