-- ==== Sys2Proof/Machine/EngCore.lean ====
section
/-!
DEFINITION. The pixel engines around the instruction set (R314 to R318, R323 to R339): registers and memories, activation
records, dealing, tasks, faults, quarantine, outputs, pushes and the bay DMA.
-/

namespace Sys2Proof.Machine

open Reg

/-! ### Registers and status -/

/-- Scalar register `r`; s0 reads zero (R315). -/
def Engine.sreg (x : Engine) (r : Nat) : Nat := if r = 0 then 0 else (cget (fun _ => (0 : Word)) x.sregs r).toNat
def Engine.setS (x : Engine) (r n : Nat) : Engine :=
  if r = 0 then x else { x with sregs := cset (fun _ => (0 : Word)) x.sregs r (BitVec.ofNat 32 n) }
/-- Vector register `r` as a number. -/
def Engine.vreg (x : Engine) (r : Nat) : Nat := (cget (fun _ => (0 : BitVec 512)) x.vregs r).toNat
def Engine.setV (x : Engine) (r n : Nat) : Engine :=
  { x with vregs := cset (fun _ => (0 : BitVec 512)) x.vregs r (BitVec.ofNat 512 n) }
/-- Predicate register `r` as a number; p0 reads all ones (R315). -/
def Engine.preg (x : Engine) (r : Nat) : Nat := if r = 0 then 2 ^ 64 - 1 else (cget (fun _ => (0 : Block)) x.pregs r).toNat
def Engine.setP (x : Engine) (r n : Nat) : Engine :=
  if r = 0 then x else { x with pregs := cset (fun _ => (0 : Block)) x.pregs r (BitVec.ofNat 64 n) }

/-- The queue of an input. -/
def Engine.queue (x : Engine) (i : Nat) : List EngRec := cget (fun _ => []) x.queues i
def Engine.setQueue (x : Engine) (i : Nat) (q : List EngRec) : Engine := { x with queues := cset (fun _ => []) x.queues i q }

/-- A task runs or is stalled. -/
def State.engBusy (s : State) (e : Nat) : Bool := s.engState e == 2 || s.engState e == 3

/-- ENG_STATUS shows the queues, the kept tiles and the open outputs. -/
def State.showEng (s : State) (e : Nat) : State :=
  let x := s.en e
  ((s.put (ENG_STATUS_QUEUED e) (bitsOf 8 (fun i => !(x.queue i).isEmpty))).put (ENG_STATUS_KEPT e) x.kept.length).put
    (ENG_STATUS_OPEN_OUT e) x.outs.length

def State.dch (s : State) (b c : Nat) : DmaChan := cget (fun _ => DmaChan.reset) s.dma (8 * b + c)
def State.modDch (s : State) (b c : Nat) (f : DmaChan → DmaChan) : State :=
  { s with dma := cset (fun _ => DmaChan.reset) s.dma (8 * b + c) (f (s.dch b c)) }
def State.dmemRd (s : State) (e a n : Nat) : List Byte := cgetN (fun _ => 0) s.dmem (e * 131072 + a) n
def State.dmemWr (s : State) (e a : Nat) (l : List Byte) : State :=
  { s with dmem := csetN (fun _ => 0) s.dmem (e * 131072 + a) l }
/-- The instruction at an index (R319). -/
def State.insn (s : State) (e i : Nat) : Nat := ofBytes (cgetN (fun _ => (0 : Byte)) s.imem (e * 32768 + 4 * i) 4)

/-! ### Where an engine may reach the bay store (R317) -/

/-- Window `w` of an engine: its base, size and permission (0 none, 1 read, 2 read and write). -/
def State.engWin (s : State) (e w : Nat) : Nat × Nat × Nat :=
  let r := s.rdN (ENG_WIN e (2 * w))
  (getBits r 6 15 * 64, getBits (s.rdN (ENG_WIN e (2 * w + 1))) 0 22, getBits r 30 2 % 3)

/-- The output pool: base, bytes of a slot and slots (R331). -/
def State.engPool (s : State) (e : Nat) : Nat × Nat × Nat :=
  (s.get (ENG_OUT_BASE_BASE e) * 64, s.get (ENG_OUT_SLOTS_SLOT_BYTES e) * 64, s.get (ENG_OUT_SLOTS_SLOTS e) + 1)

/-- Whether `n` bytes of the bay store from `a` lie in a window that permits the access, or in the pool. -/
def State.engReach (s : State) (e a n : Nat) (write : Bool) : Bool :=
  decide (a + n ≤ 0x200000) && ((List.range 4).any (fun w => let x := s.engWin e w
    decide (x.1 ≤ a) && decide (a + n ≤ x.1 + x.2.1) && decide ((if write then 2 else 1) ≤ x.2.2)) ||
  (let p := s.engPool e
   decide (p.1 ≤ a) && decide (a + n ≤ p.1 + p.2.1 * p.2.2)))

/-- Whether they lie in a tile that the engine may read: the running activation's, or a kept one (R317, R327). -/
def State.engTile (s : State) (e a n : Nat) : Bool :=
  let x := s.en e
  let ts := (match x.run with | some r => r.tile.toList | none => []) ++ x.kept.map (fun k => k.2)
  ts.any (fun m => match s.tile m with
    | some t => decide (t.off ≤ a) && decide (a + n ≤ t.off + roundUp t.stored 64)
    | none => false)

/-! ### Activation records (R323 to R325) -/

/-- The record of a tile for input `i` (R324). -/
def Tile.activation (t : Tile) (i : Nat) : List Byte :=
  let st := t.tag.status
  let flags := 2 * b2n (bit st stPartial) + 4 * b2n (bit st stMemCorr) + 8 * b2n (t.src == 1) +
    16 * b2n (t.index + 1 == t.count) + 32 * b2n (bit st stWarm)
  let tc := t.tag.tc.toNat
  toBytes 1 i ++ toBytes 1 1 ++ toBytes 1 flags ++ toBytes 1 0 ++ toBytes 4 (0x100000 + t.off) ++ toBytes 4 t.stored ++
    toBytes 2 t.index ++ toBytes 2 t.count ++ toBytes 8 (trunc 64 t.tag.line) ++ toBytes 4 t.xOff ++ toBytes 4 t.pixels ++
    toBytes 8 (trunc 64 t.tag.pos) ++ toBytes 4 t.tag.trigId ++ toBytes 1 t.lane ++ toBytes 1 t.fmtByte ++ toBytes 2 0 ++
    toBytes 4 (tc % 65536) ++ toBytes 4 (tc / 65536 % 1000000000) ++ toBytes 8 (tc / 65536 / 1000000000)

/-- The record of an event (R324). -/
def eventRecord (i hop sources value : Nat) (coincident : Bool) : List Byte :=
  toBytes 1 i ++ toBytes 1 2 ++ toBytes 1 (b2n coincident) ++ toBytes 1 hop ++ toBytes 4 sources ++ toBytes 4 value ++
    List.replicate 52 0

/-- An event is lost at an input (R325). -/
def State.engLost (s : State) (e : Nat) : State :=
  ((s.bump (ENG_CNT_LOST e)).raise 2 (ENG_EVENTS_LOST e)).logCount 0x7301 e e

/-- Whether a record is a post (R324). -/
def EngRec.isPost (r : EngRec) : Bool := r.tile.isNone && bit (bytesAt r.bytes 4 4) 24

/-- A record that an event of another source in cycle `cyc` joins: it came in the same cycle and is no post (R325). -/
def EngRec.joins (r : EngRec) (cyc : Nat) : Bool := r.cyc == cyc && r.tile.isNone && !r.isPost

/-- Whether record `a` of a queue stands behind a new record `r` of the same cycle: it is a post, and `r` is none or comes
from an engine with a lower number (R325). -/
def EngRec.behind (r a : EngRec) : Bool := a.cyc == r.cyc && a.isPost && (!r.isPost || decide (r.sender < a.sender))

/-- A record joins a queue (R325). -/
def EngRec.insert (r : EngRec) (q : List EngRec) : List EngRec :=
  q.takeWhile (fun a => !r.behind a) ++ r :: q.dropWhile (fun a => !r.behind a)

/-- An event reaches input `i` of engine `e` in the cycle `coreCyc`: it joins the record of that cycle unless it is a post
of engine `from_`, and makes a record or is lost otherwise (R325). A retired engine discards it (R260, R495). -/
def State.engEvent (s : State) (e i hop sources value from_ : Nat) : State :=
  if s.engRetired e then s
  else if s.quarantined e then s.bump (ENG_CNT_SKIPPED e)
  else
    let q := (s.en e).queue i
    match if bit sources 24 then none else q.find? (fun r => r.joins s.coreCyc) with
    | some r =>
      let h := max r.hop hop
      let r' : EngRec := ⟨eventRecord i h (Nat.lor (bytesAt r.bytes 4 4) sources) 0 true, h, none, s.coreCyc, 0⟩
      let s := s.modEng e (fun x => x.setQueue i (q.map (fun a => if a.joins s.coreCyc then r' else a)))
      s.iff (bytesAt r.bytes 2 1 == 0) (fun s => s.bump (ENG_CNT_COINC e))
    | none =>
      if 16 ≤ q.length then s.engLost e
      else
        let r : EngRec := ⟨eventRecord i hop sources value false, hop, none, s.coreCyc, from_⟩
        (s.modEng e (fun x => x.setQueue i (r.insert q))).showEng e

/-- The engine signals of a cycle (R334): a signal is raised with its highest hop count; `fireSigs` fires their producers. -/
def State.setSigs (s : State) (l : List (Nat × Nat)) : State := { s with sigs := l }
def State.raiseSig (s : State) (k hop : Nat) : State := s.setSigs
  (if s.sigs.any (fun g => g.1 == k) then s.sigs.map (fun g => if g.1 = k then (k, max g.2 hop) else g) else s.sigs ++ [(k, hop)])
def State.fireSigs (s : State) : State := s.sigs.foldl (fun s g => s.produce (112 + g.1) g.2) (s.setSigs [])

/-- The next cycle at the engine inputs; the signals of the one before reach the event matrix. -/
def State.cycleUp (s : State) : State := { s with coreCyc := s.coreCyc + 1 }
def State.nextCycle (s : State) : State := s.fireSigs.cycleUp

/-- The cycle of an event at the engine inputs: the one of the event before, or a later one. -/
def State.engCycle (s : State) (same : Bool) : State := s.iff (!same) (fun s => s.nextCycle)

/-- Whether input `i` of an engine is an event input. -/
def State.eventInput (s : State) (e i : Nat) : Bool := s.get (ENG_IN_CFG_KIND e i) == 2

/-- An event on task line `j` reaches every event input that takes it (R323). -/
def State.taskLine (s : State) (j hop : Nat) (same : Bool) : State :=
  (List.range 192).foldl (fun s e => (List.range 8).foldl (fun s i =>
    s.iff (s.eventInput e i && bit (s.get (ENG_IN_SRC_LINES e i)) j) (fun s => s.engEvent e i hop (2 ^ j) 0 0)) s) (s.engCycle same)

/-! ### Releasing tiles, faults and quarantine -/

/-- Engine `e` lets go of a tile, unless a handle or the running task still has it. -/
def State.engRelease (s : State) (e n : Nat) : State :=
  let x := s.en e
  let held := x.kept.any (fun k => k.2 == n) || (match x.run with | some r => r.tile == some n | none => false)
  if held then s else s.release n (hEng e)

/-- The task of an engine ends: its tile goes unless it is kept (R327). -/
def State.taskEnd (s : State) (e : Nat) : State :=
  let t := match (s.en e).run with | some r => r.tile | none => none
  let s := s.modEng e (fun x => { x with run := none, loops := [], stall := .none, corr := false })
  let s := s.put (ENG_STATUS_STATE e) (if s.engState e = 4 then 4 else 1)
  (match t with | some n => s.engRelease e n | none => s).showEng e

/-- An engine's queues are emptied: every record counts as skipped and every tile in them is released. -/
def State.flushQueues (s : State) (e : Nat) : State :=
  let rs := (List.range 8).flatMap (fun i => (s.en e).queue i)
  let s := (s.bumpBy (ENG_CNT_SKIPPED e) rs.length).modEng e (fun x => { x with queues := [] })
  (rs.foldl (fun s r => match r.tile with | some n => s.engRelease e n | none => s) s).showEng e

/-- An engine is quarantined (R339); `cause` is 1 for FAULT_LIMIT, 2 for an IMEM error, 3 for a failed load. -/
def State.quarantine (s : State) (e cause : Nat) : State :=
  if s.quarantined e then s
  else ((((s.put (ENG_STATUS_STATE e) 4).raise 2 (ENG_EVENTS_QUARANTINE e)).logC 0x7303 e cause).flushQueues e).romUpdate

/-- An output of an engine passes to delivery (R331, R332, R337): its entry becomes ACCEPTED with its tag, and it is
ready. -/
def State.emitOut (s : State) (e : Nat) (o : EngOut) (len : Nat) (ref_ : Option Tile) (status : Nat) : State :=
  let cnt := cget (fun _ => 0) (s.en e).emitted o.stream
  let tag : TagInfo := match ref_ with
    | some t => { t.tag with status := Nat.lor (t.tag.status % 2 ^ 14) status, fmt := 0 }
    | none => { TagInfo.reset with
        line := cnt, tc := s.now, status := s.get TB_QUALITY_CLASS * 4096 + status }
  let unit := match ref_ with | some t => t.lane | none => 0xFF
  let s := s.modTile o.tile (fun t => { t with acc := s.tb.ticks, tag := tag, off := o.slot, holders := [o.stream] })
  let s := s.modEng e (fun x => { x with
    outs := x.outs.filter (fun (p : EngOut) => p.slot != o.slot), emitted := cset (fun _ => 0) x.emitted o.stream (cnt + 1) })
  let s := (s.bump (ENG_CNT_EMIT e)).showEng e
  let data := s.bayRd (e / 8) o.slot len
  s.ready {
    num := 0, stream := o.stream, port := 0, kind := s.get (DLV_CFG_KIND o.stream), tiles := [o.tile], acc := s.tb.ticks,
    tag := tag, tagStream := o.stream, unit := unit, segMap := 0, data := data, final := true, sent := 0, desc := none,
    inDesc := 0, filled := [], waitFrom := none, waited := 0, hostLate := false, loss := false,
    refAcc := ref_.map (fun (t : Tile) => t.acc), slot := none, nodeId := 0 }

/-- The reference tile of the running task (R332). -/
def State.refTile (s : State) (e : Nat) : Option Tile := match (s.en e).run with
  | some r => match r.tile with | some n => s.tile n | none => none
  | none => none

/-- A fault of the running task (R337): published and counted, open outputs are emitted empty, every tile is released;
an IMEM error (`code` 0x0B with `imem`) and more faults than FAULT_LIMIT quarantine the engine (R339). -/
def State.engFault (s : State) (e code addr : Nat) (imem : Bool) : State :=
  if !s.engBusy e then s
  else
    let x := s.en e
    let s := ((s.wrN (ENG_FAULT_INFO e) (code + 256 * s.get (ENG_STATUS_INPUT e) + 65536 * (x.pc % 8192))).wrN (ENG_FAULT_ADDR e)
      addr).wrN (ENG_FAULT_CYCLE e) x.cycles
    let s := (s.publishC (ENG_FAULT_STATUS e)).bump (ENG_CNT_FAULT e)
    let s := if code = 6 then (s.bump (ENG_CNT_BUDGET e)).raise 2 (ENG_EVENTS_BUDGET e) else s.raise 2 (ENG_EVENTS_FAULT e)
    let s := s.logLim 0x7302 e e code true []
    let s := match x.stall with
      | .out _ _ (some n) => s.abortTile n
      | _ => s
    let s := x.outs.foldl (fun s o => s.emitOut e o 0 (s.refTile e)
      (2 ^ stPartial + 2 ^ stEngFault + b2n x.corr * 2 ^ stMemCorr)) s
    let kept := x.kept.map (fun k => k.2)
    let s := (s.modEng e (fun x => { x with kept := [], winFaults := x.winFaults + 1 })).taskEnd e
    let s := kept.foldl (fun s n => s.engRelease e n) s
    let s := s.showEng e
    if imem then s.quarantine e 2
    else s.iff (decide (0 < s.get (ENG_CTRL_FAULT_LIMIT e)) && decide (s.get (ENG_CTRL_FAULT_LIMIT e) < (s.en e).winFaults))
      (fun s => s.quarantine e 1)

/-! ### Dealing (R326) -/

/-- The engines of a gang that are in service, in ascending order (R495). -/
def State.gang (s : State) (l : Nat) : List Nat :=
  (List.range 8).filter (fun j => bit (s.get (BAY_ENG_GANG_ENGINES (l / 4) (l % 4))) j && !s.engRetired (8 * (l / 4) + j))

/-- The next engine of a gang after engine `j`. -/
def nextIn (g : List Nat) (j : Nat) : Nat := (g.find? (fun k => decide (j < k))).getD (g.headD 0)

/-- TILE_DEAL (R326): the oldest conditioned tile of lane `l` that waits to be dealt goes to the next engine of its gang,
or waits while that engine's queue is full. A quarantined engine skips it (R339). -/
def execTileDeal (l : Fin 96) (s : State) : Host.Outcome State Fault Refusal :=
  let g := s.gang l
  match (s.cln l).deal with
  | [] => .next s
  | n :: rest =>
    match s.tile n with
    | none => .next (s.modCln l (fun x => { x with deal := rest }))
    | some t =>
      if g.isEmpty then .next ((s.modCln l (fun x => { x with deal := rest })).release n hDeal)
      else
        let c := s.cln l
        let last := if c.rot = 0 then 8 else c.rot - 1
        let j := if s.flag (BAY_ENG_GANG_MODE (l / 4) (l % 4)) then nextIn g last
          else match c.dealt with
            | some (ln, id, j) => if ln = t.tag.line ∧ id = t.tag.trigId then j else nextIn g last
            | none => nextIn g last
        let e := 8 * (l / 4) + j
        let i := s.get (BAY_ENG_GANG_INPUT (l / 4) (l % 4))
        if !s.quarantined e && decide (16 ≤ ((s.en e).queue i).length) then .next s
        else
          let s := s.modCln l (fun x => { x with deal := rest, rot := j + 1, dealt := some (t.tag.line, t.tag.trigId, j) })
          if s.quarantined e then .next ((s.bump (ENG_CNT_SKIPPED e)).release n hDeal)
          else
            let s := s.modTile n (fun t => { t with holders := t.holders.map (fun h => if h = hDeal then hEng e else h) })
            .next ((s.modEng e (fun x => x.setQueue i (x.queue i ++ [⟨t.activation i, 0, some n, 0, 0⟩]))).showEng e)

/-! ### Tasks (R328) -/

/-- TASK_START (R328): an idle engine starts the oldest record of its lowest-numbered input that has one. -/
def execTaskStart (e : Fin 192) (s : State) : Host.Outcome State Fault Refusal :=
  let x := s.en e
  if s.engState e ≠ 1 ∨ !s.flag (ENG_CTRL_ENABLE e) ∨ !s.flag (ENG_STATUS_KERNEL_OK e) then .next s
  else match (List.range 8).find? (fun i => !(x.queue i).isEmpty) with
    | none => .next s
    | some i => match x.queue i with
      | [] => .next s
      | r :: rest =>
        let s := s.modEng e (fun x => { x.setQueue i rest with
          run := some r, pc := s.get (ENG_IN_CFG_ENTRY e i), loops := [], cycles := 0, corr := false, stall := .none })
        .next ((((s.put (ENG_STATUS_STATE e) 2).put (ENG_STATUS_INPUT e) i).bump (ENG_CNT_ACT e)).showEng e)

/-- TASK_BUDGET_EXPIRY (R328): the task's cycle count reaches BUDGET; it is aborted in the following cycle. -/
def execTaskBudgetExpiry (e : Fin 192) (s : State) : Host.Outcome State Fault Refusal :=
  let b := s.get (ENG_IN_BUDGET_BUDGET e (s.get (ENG_STATUS_INPUT e)))
  if !s.engBusy e ∨ b = 0 then .next s
  else
    let more := b + 1 - (s.en e).cycles
    let s := s.modEng e (fun x => { x with cycles := b + 1 })
    .next ((s.wr64 (ENG_CNT_BUSY e) (min (s.rd64 (ENG_CNT_BUSY e) + more) (2 ^ 64 - 1))).engFault e 6 0 false)

/-- A fault window begins at tick `t` (R339): no engine has a fault in it yet. -/
def State.setFaultFrom (s : State) (t : Nat) : State := { s with faultFrom := t }
def State.faultWindow (s : State) (t : Nat) : State :=
  (List.range 192).foldl (fun s e => s.iff (decide (0 < (s.en e).winFaults)) (fun s =>
    s.modEng e (fun x => { x with winFaults := 0 }))) (s.setFaultFrom t)

/-- FAULT_WINDOW_END (R339): the engines' window of one second ends and the next begins; before that instant nothing
happens. -/
def execFaultWindowEnd (s : State) : Host.Outcome State Fault Refusal :=
  if !s.outCommit || decide (s.tb.ticks < s.faultFrom + 1000000000) then .next s
  else .next (s.faultWindow (s.faultFrom + 1000000000))

/-! ### The bay DMA (R329, R330) -/

def State.dmaState (s : State) (b c : Nat) : Nat := s.get (BAY_DMA_STATUS_STATE b c)
/-- The offset in the bay store of the descriptor at HEAD. -/
def State.dmaAt (s : State) (b c : Nat) : Nat := s.get (BAY_DMA_BASE_BASE b c) * 32 + 32 * s.get (BAY_DMA_STATUS_HEAD b c)
/-- FLAGS of the descriptor at HEAD. -/
def State.dmaFlags (s : State) (b c : Nat) : Nat := ofBytes (s.bayRd b (s.dmaAt b c + 30) 1)

/-- A channel looks at HEAD: no VALID descriptor stops it, one with KICK_WAIT waits for a kick. -/
def State.dmaLook (s : State) (b c : Nat) : State :=
  let f := s.dmaFlags b c
  if !s.flag (BAY_DMA_CFG_EN b c) || !bit f 0 then s.put (BAY_DMA_STATUS_STATE b c) 0
  else if bit f 1 then match (s.dch b c).kick with
    | none => s.put (BAY_DMA_STATUS_STATE b c) 2
    | some h => (s.put (BAY_DMA_STATUS_STATE b c) 1).modDch b c (fun x => { x with hop := h, kick := none })
  else (s.put (BAY_DMA_STATUS_STATE b c) 1).modDch b c (fun x => { x with hop := 0 })

/-- A kick reaches a channel (R259, R329): the waiting descriptor starts, or the kick is kept. -/
def State.dmaKick (s : State) (b c hop : Nat) : State :=
  let s := s.modDch b c (fun x => { x with kick := some hop })
  s.iff (s.dmaState b c == 2) (fun s => s.dmaLook b c)

/-- HEAD advances. -/
def State.dmaStep (s : State) (b c : Nat) : State :=
  s.put (BAY_DMA_STATUS_HEAD b c) ((s.get (BAY_DMA_STATUS_HEAD b c) + 1) % max 1 (s.get (BAY_DMA_CFG_LEN b c)))

/-- DMA_GO on a channel: it looks at HEAD again; out of ERROR at the following descriptor (R329, R330). -/
def State.dmaGo (s : State) (b c : Nat) : State :=
  match s.dmaState b c with
  | 0 => s.dmaLook b c
  | 3 => (s.dmaStep b c).dmaLook b c
  | _ => s

/-- A descriptor (R329): SRC, DST, LEN, SRC_STRIDE, DST_STRIDE, ROWS. -/
structure DmaDesc where
  src : Nat
  dst : Nat
  len : Nat
  sStride : Nat
  dStride : Nat
  rows : Nat
  deriving DecidableEq, Repr

def State.dmaDesc (s : State) (b c : Nat) : DmaDesc :=
  let l := s.bayRd b (s.dmaAt b c) 32
  ⟨bytesAt l 0 8, bytesAt l 8 8, bytesAt l 16 4, bytesAt l 20 4, bytesAt l 24 4, bytesAt l 28 2⟩

/-- Whether one end of a transfer meets the conditions of its space (R330). -/
def State.dmaEnd (s : State) (b c a len stride rows : Nat) (write : Bool) : Bool :=
  let owner := 8 * b + s.get (BAY_DMA_CFG_OWNER b c)
  let span := stride * (rows - 1) + len
  match getBits a 62 2 with
  | 0 =>
    let d := getBits a 0 39
    (List.range 4).any (fun w =>
      let base := s.rd64 (BAY_DDR_WIN_BASE b w)
      let perm := base % 4
      decide (base / 65536 * 65536 ≤ d) && decide (d + span ≤ base / 65536 * 65536 + s.rd64 (BAY_DDR_WIN_SIZE b w)) &&
        bit perm (b2n write))
  | 1 => (List.range rows).all (fun r => s.engReach owner (getBits a 0 21 + r * stride) len write)
  | 2 => decide (getBits a 0 17 + span ≤ 131072)
  | _ => false

/-- Whether a descriptor meets R329 and R330. -/
def State.dmaOk (s : State) (b c : Nat) (d : DmaDesc) : Bool :=
  d.len % 8 == 0 && decide (8 ≤ d.len) && decide (d.len ≤ 1048576) && d.sStride % 8 == 0 && d.dStride % 8 == 0 &&
    decide (1 ≤ d.rows) && s.dmaEnd b c d.src d.len d.sStride d.rows false && s.dmaEnd b c d.dst d.len d.dStride d.rows true

/-- The STATUS byte of the descriptor at HEAD is written and its VALID cleared. -/
def State.dmaStatus (s : State) (b c st : Nat) : State :=
  let a := s.dmaAt b c
  s.bayWr b (a + 30) (toBytes 1 (s.dmaFlags b c / 2 * 2) ++ toBytes 1 st)

/-- The DDR4 channels that a descriptor's ends lie in, and whether the bay's requester still waits for one of them (R16). -/
def DmaDesc.chans (d : DmaDesc) : List Nat :=
  ((if getBits d.src 62 2 = 0 then [chanAt d.src] else []) ++ (if getBits d.dst 62 2 = 0 then [chanAt d.dst] else [])).eraseDups
def State.dmaWaits (s : State) (b : Nat) (d : DmaDesc) : Bool := d.chans.any (fun k => s.arbWaits k b)

/-- DMA_DESCRIPTOR_START (R329, R330): the bay's requester asks for the DDR4 channels that the transfer touches (R16). -/
def execDmaDescriptorStart (b : Fin 24) (c : Fin 8) (s : State) : Host.Outcome State Fault Refusal :=
  if s.dmaState b c ≠ 1 ∨ (s.dch b c).busy then .next s
  else if s.dmaOk b c (s.dmaDesc b c) then
    .next ((s.dmaDesc b c).chans.foldl (fun s k => s.arbAsk k b) (s.modDch b c (fun x => { x with busy := true })))
  else .next ((((s.dmaStatus b c 2).put (BAY_DMA_STATUS_STATE b c) 3).bump (BAY_DMA_CNT_ERR b c)).logC 0x7320 b c)

/-- Bytes from one end of a transfer; a DDR4 unit of 64 bytes with a codeword in `bad` reads as zero (R330). -/
def State.dmaRead (s : State) (b a n : Nat) (bad : List Nat) : List Byte := match getBits a 62 2 with
  | 0 =>
    let d := getBits a 0 39
    let l := s.ddrRd d n
    if bad.isEmpty then l
    else (List.range n).map (fun i => if bad.any (fun u => u / 4 == (d + i) / 64) then 0 else l.getD i 0)
  | 1 => s.bayRd b (getBits a 0 21) n
  | _ => s.dmemRd (8 * b + getBits a 17 3) (getBits a 0 17) n
/-- Bytes to one end of a transfer; in DDR4 a codeword covered in part is dropped where it is in `bad` (R355). -/
def State.dmaWrite (s : State) (b a : Nat) (l : List Byte) (bad : List Nat) : State := match getBits a 62 2 with
  | 0 => if bad.isEmpty then s.ddrWr (getBits a 0 39) l else s.ddrMerge (getBits a 0 39) (l.map some) (fun u => decide (u ∈ bad))
  | 1 => s.bayWr b (getBits a 0 21) l
  | _ => s.dmemWr (8 * b + getBits a 17 3) (getBits a 0 17) l

/-- A completion is posted to every event input of NOTIFY_ENG whose sources include the channel (R329). -/
def State.dmaNotify (s : State) (b c eng : Nat) (same : Bool) : State :=
  let e := 8 * b + eng
  (List.range 8).foldl (fun s i => s.iff (s.eventInput e i && bit (s.get (ENG_IN_SRC_DMA e i)) c)
    (fun s => s.engEvent e i (s.dch b c).hop (2 ^ (16 + c)) 0 0)) (s.engCycle same)

/-- A descriptor completes with a STATUS (R329). -/
def State.dmaDone (s : State) (b c st : Nat) (same : Bool) : State :=
  let f := s.dmaFlags b c
  let s := ((s.dmaStatus b c st).bump (BAY_DMA_CNT_DONE b c)).iff (st % 8 != 1) (fun s => s.bump (BAY_DMA_CNT_ERR b c))
  let s := (s.dmaStep b c).modDch b c (fun x => { x with busy := false })
  let s := s.iff (bit f 2) (fun s => s.dmaNotify b c (getBits f 3 3) same)
  s.dmaLook b c

/-- DMA_TRANSFER_DONE (R329, R330): the transfer of the descriptor at HEAD has ended. `corr` says that a DDR4 read was
corrected, `bad` lists the 16-byte codewords of DDR4 that could not be, and `same` is as in R325. A retired channel reads as
uncorrectable (R358). No transfer ends before the bay's requester has its grant (R16). -/
def execDmaTransferDone (b : Fin 24) (c : Fin 8) (corr : Bool) (bad : List Nat) (same : Bool) (s : State) :
    Host.Outcome State Fault Refusal :=
  if !(s.dch b c).busy || s.dmaWaits b (s.dmaDesc b c) then .next s
  else
    let d := s.dmaDesc b c
    let dead := getBits d.src 62 2 == 0 && s.get (DDR_STATUS_STATE (getBits d.src 36 3)) == 3
    let hit := dead || getBits d.src 62 2 == 0 && (List.range d.rows).any (fun r => bad.any (fun u =>
      decide ((getBits d.src 0 39 + r * d.sStride) / 64 ≤ u / 4) &&
        decide (u / 4 * 64 < getBits d.src 0 39 + r * d.sStride + d.len)))
    let s := (List.range d.rows).foldl (fun s r =>
      s.dmaWrite b (d.dst + r * d.dStride) (if dead then List.replicate d.len 0
        else s.dmaRead b (d.src + r * d.sStride) d.len bad) bad) s
    let s := s.iff hit (fun s => s.logC 0x7321 b c)
    .next (s.dmaDone b c ((if hit then 3 else 1) + 8 * b2n (corr && getBits d.src 62 2 == 0)) same)

/-! ### The push queue of a bay (R335) -/

def State.bayPushes (s : State) (b : Nat) : List EngPush := cget (fun _ => []) s.pushes b
def State.setPushes (s : State) (b : Nat) (l : List EngPush) : State := { s with pushes := cset (fun _ => []) s.pushes b l }

end Sys2Proof.Machine
end

