-- ==== Sys2Proof/Machine/EngIsa.lean ====
section
/-!
DEFINITION. The instruction set of the pixel engines (R315 to R322, R327, R331, R334 to R336): decoding a bundle, what it
writes, its faults, its stalls and its effect.
-/

namespace Sys2Proof.Machine

open Reg

/-! ### Fields of an instruction (R320) -/

def iCls (w : Nat) : Nat := getBits w 28 3
def iOp (w : Nat) : Nat := getBits w 22 6
def iD (w : Nat) : Nat := getBits w 17 5
def iA (w : Nat) : Nat := getBits w 12 5
def iB (w : Nat) : Nat := getBits w 7 5
def iP (w : Nat) : Nat := getBits w 4 3
/-- Bytes of a lane; 0 stands for the W that is not defined. -/
def iW (w : Nat) : Nat := match getBits w 2 2 with | 0 => 1 | 1 => 2 | 2 => 4 | _ => 0
def iSat (w : Nat) : Bool := bit w 1
def iSgn (w : Nat) : Bool := bit w 0
/-- IMM or OFF, signed. -/
def iImm (w : Nat) : Int := sext 12 (getBits w 0 12)

/-- The slot group of an instruction (R319): 0 scalar, 1 memory, 2 vector. -/
def iGroup (w : Nat) : Nat := match iCls w with | 3 => 1 | 4 => 2 | 5 => 2 | 6 => 2 | _ => 0

/-- Whether an instruction is one that R319 to R321 and R335 define. -/
def iDefined (w : Nat) : Bool :=
  let op := iOp w
  match iCls w with
  | 0 => decide (op ≤ 0x0D) && iP w == 0 && getBits w 2 2 == 0
  | 1 => decide (op ∈ [0x00, 0x02, 0x03, 0x04, 0x05, 0x06, 0x07, 0x09, 0x10])
  | 2 => decide (op ≤ 0x05) || ((op == 8 || op == 9) && getBits w 13 9 == 0) || op == 0x0A || op == 0x0C || op == 0x3F
  | 3 => decide (op ∈ [0x00, 0x01, 0x02, 0x03, 0x04, 0x08, 0x09, 0x0A, 0x10, 0x18, 0x19])
  | 4 => (decide (op ≤ 0x0F) || (decide (0x20 ≤ op) && decide (op ≤ 0x2F))) && iW w != 0
  | 5 => (decide (op ≤ 0x06) || (decide (0x20 ≤ op) && decide (op ≤ 0x23))) && iW w != 0
  | 6 => op == 0x08 || ((decide (op ≤ 2) && decide (iD w < 8) || (decide (9 ≤ op) && decide (op ≤ 0x0C)) ||
      (decide (0x10 ≤ op) && decide (op ≤ 0x14))) && iW w != 0)
  | _ => decide (op ≤ 9) && (op != 2 || iD w % 2 == 0)

/-- The registers an instruction writes: scalars as they are, vectors from 100, predicates from 200. -/
def iDests (w : Nat) : List Nat :=
  let op := iOp w
  match iCls w with
  | 0 => [iD w]
  | 1 => [iD w]
  | 2 => if op = 9 then [31] else []
  | 3 => if op ≤ 4 then [iD w] else if op = 0x10 then [100 + iD w] else []
  | 4 => [100 + iD w]
  | 5 => if op % 32 ≤ 3 then [100 + iD w] else [iD w]
  | 6 => if op ≤ 2 ∨ (0x10 ≤ op ∧ op ≤ 0x12) then [200 + iD w % 8]
    else if op = 0x0C then [100 + iD w, 101 + iD w, 102 + iD w]
    else if op ≤ 0x0B then [100 + iD w] else [iD w]
  | _ => if op = 5 ∨ op = 7 then [iD w] else []

/-! ### Arithmetic (R315) -/

/-- An exact result narrowed to `w` bits: it wraps, or with SAT saturates to the range that SIGNED selects. -/
def narrow (w : Nat) (sat sgn : Bool) (i : Int) : Nat :=
  if !sat then trunc w i
  else if sgn then trunc w (clampInt (-(2 ^ (w - 1) : Nat)) ((2 ^ (w - 1) : Nat) - 1) i)
  else trunc w (clampInt 0 ((2 ^ w : Nat) - 1) i)

/-- A value of `w` bits as SIGNED reads it. -/
def asInt (w : Nat) (sgn : Bool) (n : Nat) : Int := if sgn then sext w n else ((n % 2 ^ w : Nat) : Int)

/-- The operations that scalars and lanes share. -/
inductive AluOp where
  | add | sub | band | bor | bxor | shl | shr | min_ | max_ | slt | mul | mulh | absd
  deriving DecidableEq, Repr

/-- One result of `w` bits; `fv` is what a shift by `w` or more gives, which no rule states. -/
def alu (k : AluOp) (w : Nat) (sat sgn : Bool) (fv a b : Nat) : Nat :=
  let x := asInt w sgn a
  let y := asInt w sgn b
  match k with
  | .add => narrow w sat sgn (x + y)
  | .sub => narrow w sat sgn (x - y)
  | .band => Nat.land a b % 2 ^ w
  | .bor => Nat.lor a b % 2 ^ w
  | .bxor => Nat.xor a b % 2 ^ w
  | .shl => if w ≤ b % 2 ^ w then fv % 2 ^ w else trunc w (x * (2 ^ (b % 2 ^ w) : Nat))
  | .shr => if w ≤ b % 2 ^ w then fv % 2 ^ w else trunc w (x / ((2 ^ (b % 2 ^ w) : Nat) : Int))
  | .min_ => trunc w (min x y)
  | .max_ => trunc w (max x y)
  | .slt => if x < y then 1 else 0
  | .mul => narrow w sat sgn (x * y)
  | .mulh => trunc w (x * y / ((2 ^ w : Nat) : Int))
  | .absd => narrow w sat sgn (if x < y then y - x else x - y)

/-- Leading zeros of 32 bits. -/
def clz32 (a : Nat) : Nat := if a = 0 then 32 else 31 - Nat.log2 a

/-- What an instruction writes into a register. -/
inductive RegW where
  | s (r v : Nat)
  | v (r v : Nat)
  | p (r v : Nat)
  deriving DecidableEq, Repr

def Engine.applyW (x : Engine) : RegW → Engine
  | .s r v => x.setS r v
  | .v r v => if r < 32 then x.setV r v else x
  | .p r v => x.setP r v

/-- Classes 0 and 1 (R321). -/
def scalarW (x : Engine) (fv w : Nat) : List RegW :=
  let a := x.sreg (iA w)
  let b := x.sreg (iB w)
  let f := fun k => [RegW.s (iD w) (alu k 32 (iSat w) (iSgn w) fv a b)]
  if iCls w = 0 then match iOp w with
    | 0x00 => f .add | 0x01 => f .sub | 0x02 => f .band | 0x03 => f .bor | 0x04 => f .bxor | 0x05 => f .shl
    | 0x06 => f .shr | 0x07 => f .min_ | 0x08 => f .max_ | 0x09 => f .slt | 0x0A => f .mul | 0x0B => f .mulh
    | 0x0C => [.s (iD w) (clz32 a)]
    | _ => [.s (iD w) (popCount 32 a)]
  else
    let m := trunc 32 (iImm w)
    let g := fun k sgn => [RegW.s (iD w) (alu k 32 false sgn fv a m)]
    match iOp w with
    | 0x00 => g .add false | 0x02 => g .band false | 0x03 => g .bor false | 0x04 => g .bxor false | 0x05 => g .shl false
    | 0x06 => g .shr true | 0x07 => g .shr false | 0x09 => g .slt true
    | _ => [.s (iD w) (m * 2 ^ 20)]

/-! ### Vectors (R315, R321) -/

/-- Lane `i` of `n` bytes. -/
def laneOf (n v i : Nat) : Nat := getBits v (8 * n * i) (8 * n)

/-- A vector whose lanes of `n` bytes are `f i` where predicate `p` governs them, and those of `old` elsewhere. -/
def mergeLanes (n p old : Nat) (f : Nat → Nat) : Nat :=
  (List.range (64 / n)).foldl (fun a i =>
    a + (if bit p (n * i) then f i % 2 ^ (8 * n) else laneOf n old i) * 2 ^ (8 * n * i)) 0

/-- A predicate whose byte groups of `n` bits are `f i` where `p` governs them, and those of `old` elsewhere. -/
def mergePred (n p old : Nat) (f : Nat → Bool) : Nat :=
  (List.range 64).foldl (fun a k =>
    a + b2n (if bit p (n * (k / n)) then f k else bit old k) * 2 ^ k) 0

/-- The sum of the four 8-bit products of a 32-bit lane. -/
def dot4 (sgn : Bool) (a b : Nat) : Int :=
  (List.range 4).foldl (fun t j => t + asInt 8 sgn (getBits a (8 * j) 8) * asInt 8 sgn (getBits b (8 * j) 8)) 0

/-- Classes 4, 5 and 6. `fv` supplies the bits of results that no rule states. -/
def vectorW (x : Engine) (fv w : Nat) : List RegW :=
  let op := iOp w
  let n := max 1 (iW w)
  let bits := 8 * n
  let d := iD w
  let p := x.preg (iP w)
  let a := x.vreg (iA w)
  let sb := x.sreg (iB w)
  let b := if 0x20 ≤ op then mergeLanes n (2 ^ 64 - 1) 0 (fun _ => sb) else x.vreg (iB w)
  let old := x.vreg d
  let put := fun (m : Nat) (f : Nat → Nat) => [RegW.v d (mergeLanes m p old f)]
  let each := fun k => put n (fun i => alu k bits (iSat w) (iSgn w) (laneOf n fv i) (laneOf n a i) (laneOf n b i))
  let free := put n (fun i => laneOf n fv i)
  let gov := (List.range (64 / n)).filter (fun i => bit p (n * i))
  let vals := gov.map (fun i => asInt bits (iSgn w) (laneOf n a i))
  let red := fun (i : Int) => [RegW.s d (trunc 32 (asInt bits (iSgn w) (trunc bits i)))]
  let cmp := fun (f : Int → Int → Bool) => [RegW.p (d % 8) (mergePred n p (x.preg (d % 8)) (fun k =>
    f (asInt bits (iSgn w) (laneOf n a (k / n))) (asInt bits (iSgn w) (laneOf n b (k / n)))))]
  let pa := x.preg (iA w % 8)
  let pb := x.preg (iB w % 8)
  let pred := fun (f : Nat → Bool) => [RegW.p (d % 8) (mergePred n p (x.preg (d % 8)) f)]
  let ones := (List.range 64).filter (fun k => bit p (n * (k / n)) && bit pa k)
  match iCls w with
  | 4 => (match op % 32 with
    | 0x00 => each .add | 0x01 => each .sub | 0x02 => each .absd | 0x03 => each .min_ | 0x04 => each .max_
    | 0x05 => each .band | 0x06 => each .bor | 0x07 => each .bxor | 0x08 => each .shl | 0x09 => each .shr
    | 0x0A => [.v d (mergeLanes n p b (fun i => laneOf n a i))]
    | 0x0B => put n (fun i => laneOf n a i)
    | 0x0C => put n (fun _ => x.sreg (iA w))
    | _ => free)
  | 5 => (match op % 32 with
    | 0x00 => each .mul
    | 0x01 => each .mulh
    | 0x02 => put n (fun i => narrow bits (iSat w) (iSgn w) (asInt bits (iSgn w) (laneOf n old i) +
        asInt bits (iSgn w) (laneOf n a i) * asInt bits (iSgn w) (laneOf n b i)))
    | 0x03 =>
      let b4 := if 0x20 ≤ op then mergeLanes 4 (2 ^ 64 - 1) 0 (fun _ => sb) else b
      put 4 (fun i => narrow 32 (iSat w) (iSgn w) (asInt 32 (iSgn w) (laneOf 4 old i) +
        dot4 (iSgn w) (laneOf 4 a i) (laneOf 4 b4 i)))
    | 0x04 => let t := vals.foldl (fun a b => a + b) 0
              red (asInt bits (iSgn w) (narrow bits (iSat w) (iSgn w) t))
    | 0x05 => (match vals with | [] => [.s d fv] | v :: t => red (t.foldl min v))
    | _ => (match vals with | [] => [.s d fv] | v :: t => red (t.foldl max v)))
  | _ => (match op with
    | 0x00 => cmp (fun i j => decide (i = j))
    | 0x01 => cmp (fun i j => decide (i < j))
    | 0x02 => cmp (fun i j => decide (i ≤ j))
    | 0x08 => [.v d fv]
    | 0x0C =>
      let src := fun k => if iA w + k < 32 then x.vreg (iA w + k) else getBits fv (512 * k) 512
      let cat := src 0 + src 1 * 2 ^ 512 + src 2 * 2 ^ 1024
      (List.range 3).map (fun c => RegW.v (d + c) (mergeLanes n p (x.vreg ((d + c) % 32)) (fun i => laneOf n cat (3 * i + c))))
    | 0x10 => pred (fun k => bit pa k && bit pb k)
    | 0x11 => pred (fun k => bit pa k || bit pb k)
    | 0x12 => pred (fun k => !bit pa k)
    | 0x13 => [.s d ones.length]
    | 0x14 => [.s d (ones.headD 64)]
    | _ => free)

/-! ### Memory (R316, R317) -/

/-- Bytes of a memory instruction's access. -/
def memSize (w : Nat) : Nat := match iOp w with
  | 0x00 => 1 | 0x01 => 1 | 0x08 => 1 | 0x02 => 2 | 0x03 => 2 | 0x09 => 2 | 0x04 => 4 | 0x0A => 4 | _ => 64

/-- The address of a memory instruction: base and scaled offset, or for VSTP the base alone. -/
def memAddr (x : Engine) (w : Nat) : Nat :=
  if iOp w = 0x19 then x.sreg (iA w) else trunc 32 ((x.sreg (iA w) : Int) + iImm w * memSize w)

def memStores (w : Nat) : Bool := decide (8 ≤ iOp w) && iOp w != 0x10

/-- The fault of an access, in the order ALIGN, ADDR, PERM. -/
def State.accFault (s : State) (e a n : Nat) (write : Bool) : Option Nat :=
  if a % n ≠ 0 then some 3
  else if a + n ≤ 0x20000 then none
  else if 0x100000 ≤ a ∧ a + n ≤ 0x300000 then
    if s.engReach e (a - 0x100000) n write || (!write && s.engTile e (a - 0x100000) n) then none else some 5
  else if 0x800000 ≤ a ∧ a + n ≤ 0x800060 then if write then some 5 else none
  else some 4

/-- The read-only page of a running task (R316, R324); `fv` is BUDGET_LEFT where BUDGET is 0. -/
def State.taskPage (s : State) (e fv : Nat) : List Byte :=
  let x := s.en e
  let b := s.get (ENG_IN_BUDGET_BUDGET e (s.get (ENG_STATUS_INPUT e)))
  (match x.run with | some r => r.bytes | none => List.replicate 64 0) ++ toBytes 8 e ++ toBytes 8 x.cycles ++
    toBytes 4 (if b = 0 then fv else b - x.cycles) ++ List.replicate 12 0

def State.engLoad (s : State) (e fv a n : Nat) : Nat :=
  if a + n ≤ 0x20000 then ofBytes (s.dmemRd e a n)
  else if a < 0x800000 then ofBytes (s.bayRd (e / 8) (a - 0x100000) n)
  else bytesAt (s.taskPage e fv) (a - 0x800000) n

def State.engStore (s : State) (e a : Nat) (l : List Byte) : State :=
  if a < 0x20000 then s.dmemWr e a l else s.bayWr (e / 8) (a - 0x100000) l

/-- Class 3: what a load writes. -/
def State.loadW (s : State) (e fv w : Nat) : List RegW :=
  let a := memAddr (s.en e) w
  let v := s.engLoad e fv a (memSize w)
  match iOp w with
  | 0x00 => [.s (iD w) (trunc 32 (sext 8 v))]
  | 0x02 => [.s (iD w) (trunc 32 (sext 16 v))]
  | 0x10 => [.v (iD w) v]
  | _ => [.s (iD w) v]

/-- Class 3: what a store does; `x` is the engine before the bundle. -/
def State.storeOf (s : State) (e : Nat) (x : Engine) (w : Nat) : State :=
  let a := memAddr x w
  match iOp w with
  | 0x18 => s.engStore e a (toBytes 64 (x.vreg (iD w)))
  | 0x19 =>
    let p := x.preg (getBits w 0 3)
    let v := toBytes 64 (x.vreg (iD w))
    (List.range 64).foldl (fun s i => s.iff (bit p i) (fun s => s.engStore e (a + i) [v.getD i 0])) s
  | _ => s.engStore e a (toBytes (memSize w) (x.sreg (iD w)))

/-! ### Fetching a bundle (R319) -/

/-- The instructions of the bundle at an index, and whether its fetch leaves the code. A bundle has at most three
instructions, so a fourth is one too many. -/
def State.bundle (s : State) (e : Nat) : Nat → Nat → List (Nat × Nat) × Bool
  | 0, _ => ([], false)
  | fuel + 1, i =>
    if (s.en e).codeLen / 4 ≤ i then ([], true)
    else
      let w := s.insn e i
      if bit w 31 then ([(i, w)], false)
      else
        let r := s.bundle e fuel (i + 1)
        ((i, w) :: r.1, r.2)

/-- The bundle at the engine's instruction index. -/
def State.nextBundle (s : State) (e : Nat) : List (Nat × Nat) × Bool := s.bundle e 4 (s.en e).pc

/-- Whether a list has no entry twice. -/
def distinct : List Nat → Bool
  | [] => true
  | a :: t => !decide (a ∈ t) && distinct t

/-- Whether a bundle is legal (R319): one instruction of each group, no register written twice, all of them defined. -/
def legalBundle (b : List (Nat × Nat)) : Bool :=
  b.all (fun i => iDefined i.2) && distinct (b.map (fun i => iGroup i.2)) && distinct (b.flatMap (fun i => iDests i.2))

/-- The instruction of class 7 in a bundle. -/
def sysOf (b : List (Nat × Nat)) : Option Nat := (b.find? (fun i => iCls i.2 == 7)).map (fun i => i.2)

/-! ### The checks of system instructions -/

/-- The open output that OUT_EMIT names. -/
def outNamed (x : Engine) (w : Nat) : Option EngOut :=
  x.outs.find? (fun (o : EngOut) => 0x100000 + o.slot == x.sreg (iA w))

/-- The kept tile of a handle. -/
def keptTile (x : Engine) (h : Nat) : Option Nat := (x.kept.find? (fun k => k.1 == h)).map (fun k => k.2)

/-- The fault of a system instruction (R327, R329, R331, R335). -/
def State.sysFault (s : State) (e w : Nat) : Option Nat :=
  let x := s.en e
  let b := e / 8
  let a := x.sreg (iA w)
  let owner := s.get (BAY_DMA_CFG_OWNER b (getBits w 0 3)) == e % 8
  match iOp w with
  | 2 => if a < 128 ∧ bit (s.rdN (BAY_PUSH_ALLOW b (a / 32))) (a % 32) = true ∧ s.trRing a = true then none else some 0x0A
  | 3 => if owner then none else some 0x0D
  | 4 => if owner then none else some 0x0D
  | 5 =>
    let k := s.get (DLV_CFG_KIND a)
    if a < 256 ∧ (k = 2 ∨ k = 3) ∧ s.get (DLV_CFG_SOURCE a) = e then none else some 8
  | 6 => (match outNamed x w with
    | none => some 8
    | some o =>
      let len := x.sreg (iD w)
      if (s.engPool e).2.1 < len ∨ s.lineBytes o.stream < len ∨ (s.get (DLV_CFG_KIND o.stream) = 3 ∧ len % 32 ≠ 0) then some 9
      else if bit w 2 && (keptTile x (getBits w 3 2)).isNone then some 7
      else none)
  | 7 => if decide (x.kept.length < 4) && (match x.run with | some r => r.tile.isSome | none => false) then none else some 7
  | 8 => if (keptTile x a).isSome then none else some 7
  | _ => none

/-- The fault of a bundle, with the faulting address. -/
def State.bundleFault (s : State) (e : Nat) : Option (Nat × Nat) :=
  let b := s.nextBundle e
  let x := s.en e
  if b.2 then some (2, 0)
  else if !legalBundle b.1 then some (1, 0)
  else b.1.findSome? (fun i =>
    let w := i.2
    match iCls w with
    | 2 => if iOp w = 0x0C ∧ 2 ≤ x.loops.length then some (1, 0) else none
    | 3 => (s.accFault e (memAddr x w) (memSize w) (memStores w)).map (fun c => (c, memAddr x w))
    | 7 => (s.sysFault e w).map (fun c => (c, 0))
    | _ => none)

/-! ### Control flow (R321) -/

/-- After the instructions `lo` to `hi`: the loop that ends there runs again, or is left. -/
def loopEnd (lo hi next : Nat) : List (Nat × Nat × Nat) → Nat × List (Nat × Nat × Nat)
  | [] => (next, [])
  | (f, l, n) :: rest =>
    if lo ≤ l ∧ l ≤ hi then
      if 1 < n then (f, (f, l, n - 1) :: rest) else loopEnd lo hi next rest
    else (next, (f, l, n) :: rest)

/-- The last instruction of the bundle that holds index `i`. -/
def State.bundleEnd (s : State) (e i : Nat) : Nat :=
  match (s.bundle e 4 i).1.getLast? with | some x => x.1 | none => i

/-- The index a branch goes to. -/
def branchTo (i w : Nat) : Nat := trunc 32 ((i : Int) + iImm w)

/-- Whether a conditional branch is taken. -/
def branches (x : Engine) (w : Nat) : Bool :=
  -- Format BR holds A where REG holds D, and B where REG holds A.
  let a := x.sreg (iD w)
  let b := x.sreg (iA w)
  match iOp w with
  | 0 => a == b
  | 1 => a != b
  | 2 => decide (sext 32 a < sext 32 b)
  | 3 => decide (sext 32 b ≤ sext 32 a)
  | 4 => decide (a < b)
  | _ => decide (b ≤ a)

/-- The next index and the loops after a bundle, and the link that CALL writes. -/
def State.flow (s : State) (e : Nat) (b : List (Nat × Nat)) : Nat × List (Nat × Nat × Nat) × List RegW :=
  let x := s.en e
  let lo := x.pc
  let hi := match b.getLast? with | some i => i.1 | none => lo
  let seq := loopEnd lo hi (hi + 1) x.loops
  let leave := fun (t : Nat) => x.loops.dropWhile (fun l => decide (t < l.1) || decide (l.2.1 < t))
  match b.find? (fun i => iCls i.2 == 2) with
  | none => (seq.1, seq.2, [])
  | some (i, w) => match iOp w with
    | 0x08 => (getBits w 0 13, leave (getBits w 0 13), [])
    | 0x09 => (getBits w 0 13, x.loops, [.s 31 (hi + 1)])
    | 0x0A => (x.sreg 31, x.loops, [])
    | 0x0C =>
      let n := x.sreg (iD w)
      if n = 0 then
        let k := s.bundleEnd e (branchTo i w)
        let r := loopEnd lo k (k + 1) x.loops
        (r.1, r.2, [])
      else (hi + 1, (hi + 1, branchTo i w, n) :: x.loops, [])
    | 0x3F => (hi + 1, x.loops, [])
    | _ => if branches x w then (branchTo i w, leave (branchTo i w), []) else (seq.1, seq.2, [])

/-! ### Effect of system instructions -/

/-- The hop count that an activation gives what it raises (R334, R336). -/
def Engine.hopNext (x : Engine) : Nat := match x.run with
  | some r => r.hop + 1
  | none => 1

/-- POST (R336); `x` is the engine before the bundle. -/
def State.sysPost (s : State) (e : Nat) (x : Engine) (w : Nat) : State :=
  let t := e / 8 * 8 + x.sreg (iA w) % 8
  let i := getBits w 0 3
  if 8 ≤ x.hopNext then (s.bump (ENG_CNT_LOOP e)).logOnce 0x7305 e e 0
  else if s.engRetired t || (s.eventInput t i && s.flag (ENG_IN_SRC_POST t i)) then
    s.engEvent t i x.hopNext (2 ^ 24) (x.sreg (iD w)) e
  else (s.bump (ENG_CNT_LOST t)).raise 2 (ENG_EVENTS_LOST t)

/-- SIG (R334): the signal is raised in this cycle, once however many engines raise it, with the highest hop. -/
def State.sysSig (s : State) (x : Engine) (w : Nat) : State :=
  let tile := match x.run with | some r => r.tile.isSome | none => true
  s.raiseSig (getBits w 0 4) (if tile then 0 else x.hopNext)

/-- PUSH into the bay's queue (R335): before those of the same cycle of engines with a higher number. -/
def State.sysPush (s : State) (e : Nat) (x : Engine) (w : Nat) : State :=
  let d := iD w
  let q := s.bayPushes (e / 8)
  let behind := fun (p : EngPush) => p.cyc == s.coreCyc && decide (e < p.eng)
  s.setPushes (e / 8) (q.takeWhile (fun p => !behind p) ++
    ⟨e, x.sreg (iA w), x.sreg d + 2 ^ 32 * x.sreg ((d + 1) % 32), s.coreCyc⟩ :: q.dropWhile (fun p => !behind p))

/-- The free slot of an engine's pool that OUT_OPEN takes. -/
def State.outSlot (s : State) (e : Nat) : Option Nat :=
  let p := s.engPool e
  let used := (s.en e).slots ++ (s.en e).outs.map (fun (o : EngOut) => o.slot)
  ((List.range p.2.2).map (fun i => p.1 + i * p.2.1)).find? (fun a => !decide (a ∈ used))

/-- OUT_OPEN with its entry `n` and slot `a` (R331). -/
def State.sysOpen (s : State) (e n a : Nat) (x : Engine) (w : Nat) : State :=
  (s.modEng e (fun y => { (y.setS (iD w) (0x100000 + a)) with
    outs := y.outs ++ [⟨a, n, x.sreg (iA w)⟩], slots := y.slots ++ [a] })).showEng e

/-- OUT_EMIT (R331, R332). -/
def State.sysEmit (s : State) (e : Nat) (x : Engine) (w : Nat) : State :=
  match outNamed x w with
  | none => s
  | some o =>
    let ref_ := if bit w 2 then (match keptTile x (getBits w 3 2) with | some n => s.tile n | none => none) else s.refTile e
    s.emitOut e o (x.sreg (iD w)) ref_
      (b2n (bit w 0) * 2 ^ stPartial + b2n (bit w 1 || x.corr) * 2 ^ stMemCorr)

/-- TKEEP (R327): the lowest handle that is free. -/
def State.sysKeep (s : State) (e : Nat) (x : Engine) (w : Nat) : State :=
  match x.run with
  | some r => (match r.tile with
    | some n =>
      let h := ((List.range 4).find? (fun h => (keptTile x h).isNone)).getD 0
      (s.modEng e (fun y => { (y.setS (iD w) h) with kept := y.kept ++ [(h, n)] })).showEng e
    | none => s)
  | none => s

/-- TREL (R327). -/
def State.sysRelease (s : State) (e : Nat) (x : Engine) (w : Nat) : State :=
  match keptTile x (x.sreg (iA w)) with
  | none => s
  | some n => ((s.modEng e (fun y => { y with kept := y.kept.filter (fun k => k.1 != x.sreg (iA w)) })).engRelease e n).showEng e

/-! ### Issuing a bundle -/

/-- The bundle at the engine's index takes effect: every source is read before any write. `out` is the entry and slot
of an OUT_OPEN. -/
def State.commitBundle (s : State) (e : Nat) (out : Option (Nat × Nat)) : State :=
  let b := (s.nextBundle e).1
  let x := s.en e
  let fl := s.flow e b
  let fv := fun k => Config.freeValue (s.freeIdx + k)
  let writes := fl.2.2 ++ b.flatMap (fun i =>
    let w := i.2
    match iCls w with
    | 0 => scalarW x (fv 0) w
    | 1 => scalarW x (fv 0) w
    | 3 => if memStores w then [] else s.loadW e (fv 1) w
    | 2 => []
    | 7 => []
    | _ => vectorW x (fv 2) w)
  let s := s.drawn 3
  let s := b.foldl (fun s i => s.iff (iCls i.2 == 3 && memStores i.2) (fun s => s.storeOf e x i.2)) s
  let s := s.modEng e (fun y => writes.foldl (fun y w => y.applyW w) { y with pc := fl.1, loops := fl.2.1, stall := .none })
  let s := s.put (ENG_STATUS_STATE e) 2
  let s := match sysOf b with
    | none => s
    | some w => match iOp w with
      | 0 => s.sysSig x w
      | 1 => s.sysPost e x w
      | 2 => s.sysPush e x w
      | 3 => s.dmaGo (e / 8) (getBits w 0 3)
      | 5 => (match out with | some (n, a) => s.sysOpen e n a x w | none => s)
      | 6 => s.sysEmit e x w
      | 7 => s.sysKeep e x w
      | 8 => s.sysRelease e x w
      | _ => s
  s.iff (b.any (fun i => iCls i.2 == 2 && iOp i.2 == 0x3F)) (fun s => s.taskEnd e)

/-- The engine stalls with its bundle not yet in effect. -/
def State.stallOn (s : State) (e : Nat) (w : Stall) : State :=
  (s.modEng e (fun x => { x with stall := w })).put (ENG_STATUS_STATE e) 3

/-- OUT_OPEN takes an entry, which it may hold already, and then a slot (R331, R366). -/
def State.openOrStall (s : State) (e w : Nat) (have_ : Option Nat) : State :=
  let st := (s.en e).sreg (iA w)
  let r : Option Nat × State := match have_ with
    | some n => (some n, s)
    | none => match s.entryFor [st] with
      | some pool => (some s.ledger.next, s.newTile { Tile.blank with src := 2, lane := e, pool := pool })
      | none => (none, s.iff ((s.en e).stall == .none) (fun s => s.bump DLV_CNT_NOENTRY))
  let s := r.2
  match r.1, s.outSlot e with
  | some n, some a => s.commitBundle e (some (n, a))
  | n, _ => s.stallOn e (.out st (iD w) n)

/-- A legal bundle without a fault takes effect, or stalls first. -/
def State.commitOrStall (s : State) (e : Nat) : State :=
  match sysOf (s.nextBundle e).1 with
  | none => s.commitBundle e none
  | some w =>
    let x := s.en e
    match iOp w with
    | 2 => if 16 ≤ (s.bayPushes (e / 8)).length then
          s.stallOn e (.push (x.sreg (iA w)) (x.sreg (iD w) + 2 ^ 32 * x.sreg ((iD w + 1) % 32)))
        else s.commitBundle e none
    | 4 =>
      let st := s.dmaState (e / 8) (getBits w 0 3)
      if st = 0 ∨ st = 3 then s.commitBundle e none else s.stallOn e (.dma (getBits w 0 3))
    | 5 => s.openOrStall e w none
    | 9 => s.stallOn e .fence
    | _ => s.commitBundle e none

/-- The issue of a bundle is charged to the engine's cycles, and a corrected memory error is noted (R291, R338). -/
def State.charge (s : State) (e cycles err : Nat) : State :=
  let s := (s.modEng e (fun x => { x with cycles := (s.en e).cycles + cycles, corr := x.corr || err == 1 || err == 2 })).wr64
    (ENG_CNT_BUSY e) (min (s.rd64 (ENG_CNT_BUSY e) + cycles) (2 ^ 64 - 1))
  s.iff (err == 1) (fun s => ((s.bump (ENG_CNT_MEM_CORR e)).raise 2 (ENG_EVENTS_MEM_CORR e)).logOnce 0x7304 e e 0)

/-- A running engine issues its next bundle `cycles` after the one before. `err` is the memory error that the issue meets
(R291, R338): 0 none, 1 corrected in IMEM or DMEM, 2 corrected in the bay store, 3 uncorrectable on the IMEM fetch, 4
uncorrectable on a load. `same` says that it issues in the CLK_CORE cycle of the event or issue before (R325, R334, R335). -/
def State.issue (s : State) (e cycles err : Nat) (same : Bool) : State :=
  let b := s.get (ENG_IN_BUDGET_BUDGET e (s.get (ENG_STATUS_INPUT e)))
  let c := (s.en e).cycles + cycles
  if s.engState e ≠ 2 ∨ (b ≠ 0 ∧ b < c) then s
  else
    let s := (s.engCycle same).charge e cycles err
    let bd := s.nextBundle e
    let loads := bd.1.any (fun i => iCls i.2 == 3 && !memStores i.2 && decide (memAddr (s.en e) i.2 < 0x800000))
    if err = 3 ∧ bd.2 = false then s.engFault e 0x0B 0 true
    else match s.bundleFault e with
      | some (code, addr) => s.engFault e code addr false
      | none =>
        if err = 4 ∧ loads = true then
          s.engFault e 0x0B (((bd.1.find? (fun i => iCls i.2 == 3)).map (fun i => memAddr (s.en e) i.2)).getD 0) false
        else s.commitOrStall e

/-- The next bundle is issued only if its scalar slot holds the instruction of class `cls` and operation `op`. -/
def State.issueOp (s : State) (e cycles : Nat) (same : Bool) (cls op : Nat) : State :=
  s.iff ((s.nextBundle e).1.any (fun i => iCls i.2 == cls && iOp i.2 == op)) (fun s => s.issue e cycles 0 same)

/-- BUNDLE_ISSUE (R319, R337, R338). -/
def execBundleIssue (e : Fin 192) (i : Issue) (err : Fin 5) (s : State) : Host.Outcome State Fault Refusal :=
  .next (s.issue e i.cycles err i.same)

/-- SIG (R334): the next bundle holds SIG. -/
def execSig (e : Fin 192) (i : Issue) (s : State) : Host.Outcome State Fault Refusal :=
  .next (s.issueOp e i.cycles i.same 7 0)
/-- POST (R336). -/
def execPost (e : Fin 192) (i : Issue) (s : State) : Host.Outcome State Fault Refusal :=
  .next (s.issueOp e i.cycles i.same 7 1)
/-- PUSH (R335). -/
def execPush (e : Fin 192) (i : Issue) (s : State) : Host.Outcome State Fault Refusal :=
  .next (s.issueOp e i.cycles i.same 7 2)
/-- DMA_GO (R329). -/
def execDmaGo (e : Fin 192) (cycles : Nat) (s : State) : Host.Outcome State Fault Refusal := .next (s.issueOp e cycles true 7 3)
/-- DMA_WAIT (R329). -/
def execDmaWait (e : Fin 192) (cycles : Nat) (s : State) : Host.Outcome State Fault Refusal := .next (s.issueOp e cycles true 7 4)
/-- OUT_OPEN (R331). -/
def execOutOpen (e : Fin 192) (cycles : Nat) (s : State) : Host.Outcome State Fault Refusal := .next (s.issueOp e cycles true 7 5)
/-- OUT_EMIT (R331). -/
def execOutEmit (e : Fin 192) (cycles : Nat) (s : State) : Host.Outcome State Fault Refusal := .next (s.issueOp e cycles true 7 6)
/-- TKEEP (R327). -/
def execTkeep (e : Fin 192) (cycles : Nat) (s : State) : Host.Outcome State Fault Refusal := .next (s.issueOp e cycles true 7 7)
/-- TREL (R327). -/
def execTrel (e : Fin 192) (cycles : Nat) (s : State) : Host.Outcome State Fault Refusal := .next (s.issueOp e cycles true 7 8)
/-- FENCE (R322). -/
def execFence (e : Fin 192) (cycles : Nat) (s : State) : Host.Outcome State Fault Refusal := .next (s.issueOp e cycles true 7 9)
/-- TEND (R327). -/
def execTend (e : Fin 192) (cycles : Nat) (s : State) : Host.Outcome State Fault Refusal := .next (s.issueOp e cycles true 2 0x3F)

/-! ### The ends of stalls -/

/-- DMA_WAIT_RESUME (R329): the channel that an engine waits for is idle or in error. -/
def execDmaWaitResume (e : Fin 192) (s : State) : Host.Outcome State Fault Refusal :=
  match (s.en e).stall with
  | .dma c =>
    let st := s.dmaState (e / 8) c
    if st = 0 ∨ st = 3 then .next (s.commitBundle e none) else .next s
  | _ => .next s

/-- FENCE_COMPLETE (R322). -/
def execFenceComplete (e : Fin 192) (s : State) : Host.Outcome State Fault Refusal :=
  if (s.en e).stall = .fence then .next (s.commitBundle e none) else .next s

/-- OUT_OPEN_RESUME (R331): an entry and a slot are free, or the stall goes on. -/
def execOutOpenResume (e : Fin 192) (s : State) : Host.Outcome State Fault Refusal :=
  match (s.en e).stall, sysOf (s.nextBundle e).1 with
  | .out _ _ n, some w => .next (s.openOrStall e w n)
  | _, _ => .next s

/-- Whether an engine is stalled on its bay's push queue. -/
def Stall.isPush : Stall → Bool
  | .push _ _ => true
  | _ => false

/-- Whether a bay below `b` still has a push of the cycle of `p` for the same sequencer, which goes first (R335). -/
def State.pushAhead (s : State) (b : Nat) (p : EngPush) : Bool :=
  (List.range b).any (fun c => (s.bayPushes c).any (fun (q : EngPush) => q.cyc == p.cyc && q.seq == p.seq))

/-- ENGINE_PUSH_ARRIVE (R227, R335): the oldest push of bay `b` leaves its queue and reaches its sequencer, unless one of a
lower engine of the same cycle is still on its way; an engine that stalled on the queue goes on, the lowest-numbered one
first. -/
def execEnginePushArrive (b : Fin 24) (s : State) : Host.Outcome State Fault Refusal :=
  match s.bayPushes b with
  | [] => .next s
  | p :: rest =>
    if s.pushAhead b p then .next s
    else
    let s := (s.setPushes b rest).iff (s.trRing p.seq) (fun s => s.ringPush p.seq p.x)
    match (List.range 8).find? (fun j => (s.en (8 * b + j)).stall.isPush) with
    | none => .next s
    | some j => .next (s.commitBundle (8 * b + j) none)

end Sys2Proof.Machine
end

