-- ==== Sys2Proof/Machine/Admit.lean ====
section
/-!
DEFINITION. Admission control (R22, R23, R364, R381, R382, R388 to R393), re-admission after a retirement (R498), the
capacity registers (R499) and the Descriptor ROM (R407 to R409). Times are in femtoseconds.
-/

namespace Sys2Proof.Machine

open Reg

/-! ### Streams and their sources -/

def State.admitted (s : State) (st : Nat) : Bool := s.flag (DLV_STATUS_ADMITTED st)
def State.kindOf (s : State) (st : Nat) : Nat := s.get (DLV_CFG_KIND st)
def State.srcOf (s : State) (st : Nat) : Nat := s.get (DLV_CFG_SOURCE st)

/-- The lanes whose entries lie on a stream's paths (R388). -/
def State.pathLanes (s : State) (st : Nat) : List Nat := match s.kindOf st with
  | 0 => [s.srcOf st]
  | 1 => (List.range (s.segments (s.srcOf st % 16))).map (fun k => s.segLane (s.srcOf st % 16) k)
  | 2 | 3 =>
    let e := s.srcOf st % 192
    (((List.range 8).filter (fun i => s.get (ENG_IN_CFG_KIND e i) == 1)).map (fun i => 4 * (e / 8) + s.get (ENG_IN_CFG_LANE e i))).eraseDups
  | _ => []

/-- Whether a lane is triggered from an encoder whose bank stage 8 left disabled, so that its channel is unavailable to
admission (R51). DEDUCED: a stream needs the channel of the sequencer that triggers its lane. -/
def State.encGone (s : State) (l : Nat) : Bool :=
  s.mc.encOff && (List.range 128).any (fun q => s.flag (TRIG_CTRL_ENABLE q) && (s.trPath q == 1 || s.trPath q == 2) &&
    s.trOut q == l && decide (s.trMode q < 2) && decide (s.posMode (s.trChan q) ∈ [1, 2, 3]))

/-- Whether a unit that a stream needs is out of service (R51, R342, R495). -/
def State.sourceGone (s : State) (st : Nat) : Bool := match s.kindOf st with
  | 0 => s.laneRetired (s.srcOf st) || s.encGone (s.srcOf st)
  | 1 => (s.pathLanes st).any (fun l => s.laneRetired l || s.encGone l)
  | 2 | 3 => s.engRetired (s.srcOf st) || s.quarantined (s.srcOf st)
  | 4 => s.recallChans.isEmpty
  | _ => false

/-- The admitted streams. -/
def State.admittedAll (s : State) : List Nat := (List.range 256).filter s.admitted

/-! ### What a lane's tiles need -/

/-- Block time of a grade (R99). -/
def blockFs (g : Nat) : Nat := match g with
  | 0 => 52800000 | 1 => 21120000 | 2 => 10560000 | 3 => 6400000 | 4 => 5280000 | _ => 2560000
/-- The grade that a lane's promise uses: the one reached, or MAX_GRADE before that. -/
def State.promiseGrade (s : State) (l : Nat) : Nat :=
  if s.laneUp l then s.get (LANE_STATUS_GRADE l) else s.get (LANE_CTRL_MAX_GRADE l)
/-- Cycles of CLK_CORE at 1.2 GHz, and ns. -/
def coreFs (n : Nat) : Nat := ceilDiv (n * 10000000) 12
def nsFs (n : Nat) : Nat := n * 1000000
/-- The bytes of `n` at `r` bytes per second. -/
def bytesFs (n r : Nat) : Nat := ceilDiv (n * 10 ^ 15) (max 1 r)
/-- A Truss port's bytes per second (R15). -/
def trussRate : Nat := 64000000000

def State.tilePixels (s : State) (l : Nat) : Nat := min (s.linePixels l) (maxPixels (s.laneFmt l))
def State.tilesPerLine (s : State) (l : Nat) : Nat := ceilDiv (s.linePixels l) (maxPixels (s.laneFmt l))
/-- The largest stored tile and the stored line of a lane. -/
def State.storedTile (s : State) (l : Nat) : Nat := s.tilePixels l * (s.condNow l).pxBytes
def State.storedLine (s : State) (l : Nat) : Nat := s.linePixels l * (s.condNow l).pxBytes

/-- T_ingress (R389). -/
def State.tIngress (s : State) (l : Nat) : Nat :=
  let blk := blockFs (s.promiseGrade l)
  let x := blk * 64 / 66 + coreFs 6
  let b := packedBytes (s.laneFmt l) (s.tilePixels l)
  if s.persReg l ≤ 1 then ceilDiv ((ceilDiv b 8 + 10) * blk) (s.bondW l) + x
  else
    let n := ceilDiv b (s.ethS l)
    let rate := if s.persReg l = 2 then 10000000000 else 25000000000
    let fec := match s.get (ETH_CFG_FEC l) with | 1 => 250 | 2 => 300 | _ => 0
    ceilDiv ((b + 86 * n) * 8 * 10 ^ 15) rate + nsFs fec +
      s.get (ETH_CFG_RESEND_MAX l) * nsFs (1000 * s.get (ETH_TIMERS_RESEND_WAIT l)) + x

/-- T_cond (R290, R389). -/
def State.tCond (s : State) (l : Nat) : Nat :=
  if (s.condNow l).rsMode = 0 then coreFs 52
  else coreFs 52 + nsFs (1000 * max 1 (s.get (BAY_COND_CTRL_RS_WAIT l))) +
    coreFs (ceilDiv (s.tilePixels l * comps (s.laneFmt l)) 16)

/-- T_kerf (R310): none when it is unbounded. -/
def State.tKerf (s : State) (l : Nat) : Option Nat :=
  if s.get (KERF_CFG_DELAY_LINES l) = 0 then some 0
  else if 0 < s.get (KERF_MAX_US_US l) then some (nsFs (1000 * s.get (KERF_MAX_US_US l)))
  else if 0 < s.get (KERF_MIN_RATE_RATE l) then some (ceilDiv (s.get (KERF_CFG_DELAY_LINES l) * 10 ^ 15) (s.get (KERF_MIN_RATE_RATE l)))
  else none

/-! ### The DDR4 channels (R351) -/

/-- The rate of a code in MT/s; 7 acts as 6. -/
def rateMts (c : Nat) : Nat := match c with
  | 0 => 1600 | 1 => 1866 | 2 => 2133 | 3 => 2400 | 4 => 2666 | 5 => 2933 | _ => 3200
def State.ddrRate (s : State) (k : Nat) : Nat := rateMts (s.get (DDR_STATUS_TRAINED_RATE k))
/-- tRFC and tREFI in ns (R349). -/
def State.tRfc (s : State) (k : Nat) : Nat := if s.flag (DDR_CFG_DENSITY k) then 550 else 350
def State.tRefi (s : State) (k : Nat) : Nat := if s.flag (DDR_CFG_FAST_REFRESH k) then 3900 else 7800
def State.scrubNs (s : State) (k : Nat) : Nat := max 256 (s.get (DDR_SCRUB_INTERVAL k))
/-- The capacity C of a channel, in bytes per second. -/
def State.ddrCap (s : State) (k : Nat) : Nat :=
  s.ddrRate k * 6400000 * (s.tRefi k - s.tRfc k) / s.tRefi k -
    (if s.flag (DDR_SCRUB_EN k) then ceilDiv (64 * 10 ^ 9) (s.scrubNs k) else 0)
/-- tCK, and the time of a burst, 4 tCK. -/
def State.tCk (s : State) (k : Nat) : Nat := ceilDiv (2 * 10 ^ 9) (s.ddrRate k)
def State.burstFs (s : State) (k : Nat) : Nat := 4 * s.tCk k
/-- T_ACC (R351): tRP, tRCD and CL × tCK of the slowest speed bin at each rate (JESD79-4), 15 ns each as R351 works its
example, a burst, and 16 cycles of CLK_DDR, which are 2 tCK each (R346, R348). -/
def State.tAcc (s : State) (k : Nat) : Nat := nsFs 45 + 4 * s.tCk k + 32 * s.tCk k

/-! ### Arbiter waits (R390) -/

/-- Requesters of an arbiter: 8 and 9 are the delivery ports. -/
def arbReqs (a : Nat) : Nat := if a < 8 then 28 else 43

/-- The requester of the delivery ports that a stream uses (R382). -/
def State.streamReq (s : State) (st : Nat) : Nat := match s.kindOf st with
  | 0 => s.srcOf st / 4
  | 1 => 24 + s.srcOf st % 16
  | 4 => 40
  | 5 => 41
  | _ => s.srcOf st / 8

/-- The requesters used on an arbiter. -/
def State.arbUsed (s : State) (a : Nat) : List Nat :=
  if a < 8 then
    (List.range 24).filter (fun b =>
      (List.range 4).any (fun k => 0 < s.get (KERF_CFG_DELAY_LINES (4 * b + k)) && s.kerfChan (4 * b + k) == a) ||
      (List.range 4).any (fun w => s.rd64 (BAY_DDR_WIN_BASE b w) % 4 != 0 && s.rd64 (BAY_DDR_WIN_BASE b w) / 2 ^ 36 % 8 == a)) ++
      (if s.rd64 (DDR_RECALL_SEG_SIZE a) = 0 then [] else [24]) ++ [25, 26, 27]
  else ((s.admittedAll.filter (fun st => s.usesPort st (a - 8))).map s.streamReq ++ [42]).eraseDups

def State.arbWait (s : State) (a r g tb : Nat) : Nat :=
  if s.arbPriv a r then
    let p := countOf (arbReqs a) (fun q => q != r && s.arbPriv a q && decide (s.arbRank a r ≤ s.arbRank a q))
    (p + 2) * g * tb
  else (s.arbUsed a).length * s.arbN a * g * tb + nsFs 4096

/-- Promised streams choose the privileged requesters of a delivery port: DESC and those of the seven smallest ceilings
(R382). -/
def State.setPriv (s : State) (p : Nat) : State :=
  let sts := s.admittedAll.filter (fun st => s.usesPort st p && s.flag (DLV_STATUS_PROMISED st))
  let key := fun st => s.ceilingNs st * 64 + s.streamReq st
  let best := (sts.mergeSort (fun a b => decide (key a ≤ key b))).take 7
  s.wr64 (DLV_ARB_PRIV p) ((best.map s.streamReq).eraseDups.foldl (fun a r => a + 2 ^ r) (2 ^ 42))

/-! ### The links (R402) -/

/-- Payload bytes per second of a port's link, at most a delivery port's 64 GB/s; a link that is not up counts as the
port. -/
def State.rEff (s : State) (p : Nat) : Nat :=
  if !s.flag (PCIE_LINK_UP p) then trussRate
  else
    let lane := match s.get (PCIE_LINK_GEN p) with
      | 0 => 250 | 1 => 250 | 2 => 500 | 3 => 985 | 4 => 1969 | 5 => 3938 | _ => 7563
    let r := lane * 1000000 * s.get (PCIE_LINK_WIDTH p)
    let r := if getBits (s.cfgRd p 0x78) 5 3 = 0 then r * 88 / 100 else r
    min r trussRate

/-! ### Terms and paths (R388, R389) -/

/-- The numbers that 0x8044 carries for the terms and the checks, in the order of R389 and R392. -/
def nIngress : Nat := 0
def nIdle : Nat := 1
def nCond : Nat := 2
def nKerf : Nat := 3
def nStitch : Nat := 4
def nEng : Nat := 5
def nTruss : Nat := 6
def nDdr : Nat := 7
def nPost : Nat := 8
def nDroop : Nat := 9
def nLedger : Nat := 10
def nRing : Nat := 11
def nPriv : Nat := 12
def nBay : Nat := 13
def nScarf : Nat := 14
def nChan : Nat := 15
def nPort : Nat := 16
def nUnit : Nat := 17

/-- Pixel flows that the admitted streams put on a bay's Truss port. -/
def State.bayFlows (s : State) (b : Nat) : Nat :=
  (s.admittedAll.map (fun st => if s.kindOf st ≤ 1 then ((s.pathLanes st).filter (fun l => l / 4 == b)).length
    else if s.kindOf st ≤ 3 ∧ s.srcOf st / 8 = b then 1 else 0)).foldl (fun a n => a + n) 0

/-- T_ddr for `n` transfers of requester `r` on channel `k`. -/
def State.tDdr (s : State) (k r n : Nat) : Nat :=
  n * (s.arbWait k r 64 (s.burstFs k) + s.tAcc k + 64 * s.burstFs k) + nsFs (s.tRfc k)

/-- T_stitch of a segment (R306). -/
def State.tStitch (s : State) (u l : Nat) : Nat :=
  nsFs (1000 * max 1 (s.get (STITCH_TIMING_BENT_WAIT u))) + bytesFs (s.storedTile l * s.bayFlows (l / 4)) trussRate + nsFs 96 + 7670000

/-- T_truss, and T_post on port `p`. -/
def State.tTruss (s : State) (st : Nat) : Nat :=
  nsFs 64 + (if s.kindOf st = 0 ∨ s.kindOf st = 2 ∨ s.kindOf st = 3 then 7670000 else 0)
def State.tPost (s : State) (st p : Nat) : Nat :=
  nsFs (s.creditNs st) + s.arbWait (8 + p) (s.streamReq st) 66 (nsFs 1) + bytesFs (s.lineBytes st) (s.rEff p) +
    bytesFs 128 (s.rEff p) + nsFs 5
def State.tPostMax (s : State) (st : Nat) : Nat :=
  max (if s.usesPort st 0 then s.tPost st 0 else 0) (if s.usesPort st 1 then s.tPost st 1 else 0)

/-- T_eng of input `i` of engine `e` (R391), in CLK_CORE cycles; none when it is unbounded. -/
def engTerm (bud rate : Nat → Nat) (i : Nat) : Nat → Nat → Option Nat
  | 0, _ => none
  | fuel + 1, t =>
    let acts := fun j => 1 + ceilDiv (t * rate j) 1200000000
    let low := ((List.range 8).filter (fun j => decide (i < j))).foldl (fun a j => max a (bud j)) 0
    let high := ((List.range 8).filter (fun j => decide (j < i))).foldl (fun a j => a + bud j * acts j) 0
    let c := 2 + bud i * acts i + low + high
    if c = t then some t else engTerm bud rate i fuel c

/-- The worst engine term of the tile inputs that take lane `l`. -/
def State.tEng (s : State) (st l : Nat) : Option Nat :=
  let e := s.srcOf st % 192
  let on := fun i => s.get (ENG_IN_CFG_KIND e i) == 1 || s.get (ENG_IN_CFG_KIND e i) == 2
  if (List.range 8).any (fun i => on i && s.get (ENG_IN_BUDGET_BUDGET e i) == 0) then none
  else
    let bud := fun i => if on i then s.get (ENG_IN_BUDGET_BUDGET e i) + 1 else 0
    let rate := fun i => s.sdef st (32 + 4 * i) 4
    let is_ := (List.range 8).filter (fun i => s.get (ENG_IN_CFG_KIND e i) == 1 && 4 * (e / 8) + s.get (ENG_IN_CFG_LANE e i) == l)
    is_.foldl (fun a i => match a, engTerm bud rate i 32 0 with
      | some a, some c => some (max a (coreFs c))
      | _, _ => none) (some 0)

/-- A path's terms by number, without T_droop; none marks an unbounded term. -/
structure PathTerms where
  lane : Option Nat
  terms : List (Nat × Option Nat)
  deriving DecidableEq, Repr

/-- T_idle of a lane. -/
def State.tIdle (s : State) (l : Nat) : Nat :=
  if s.persReg l ≤ 1 ∧ s.flag (TENON_CFG_EIDLE_EN l) = true then 128 * blockFs (s.promiseGrade l) else 0

/-- The paths of a stream (R388). -/
def State.paths (s : State) (st : Nat) : List PathTerms :=
  let front := fun l => [(nIngress, some (s.tIngress l)), (nIdle, some (s.tIdle l)), (nCond, some (s.tCond l))]
  let back := [(nTruss, some (s.tTruss st)), (nPost, some (s.tPostMax st))]
  let ls := s.pathLanes st
  match s.kindOf st with
  | 0 => ls.map (fun l => ⟨some l, front l ++ back⟩)
  | 1 => ls.map (fun l =>
    let d := if s.get (KERF_CFG_DELAY_LINES l) = 0 then 0
      else s.tDdr (s.kerfChan l) (l / 4) (2 * ceilDiv (s.storedLine l) 4096)
    ⟨some l, front l ++ [(nKerf, s.tKerf l), (nStitch, some (s.tStitch (s.srcOf st % 16) l)), (nDdr, some d)] ++ back⟩)
  | 2 | 3 => ls.map (fun l => ⟨some l, front l ++ [(nEng, s.tEng st l)]⟩) ++ [⟨none, back⟩]
  | 4 =>
    let n := ceilDiv (128 + s.lineBytes st) 4096
    s.recallChans.map (fun k => ⟨none, (nDdr, some (s.tDdr k 24 n)) :: back⟩)
  | _ => [⟨none, back⟩]

/-- The sum of a path with T_droop (R65, R389), and its largest term; none with the term that is unbounded. -/
def State.pathSum (s : State) (p : PathTerms) : Option Nat × Nat :=
  match p.terms.find? (fun t => t.2.isNone) with
  | some t => (none, t.1)
  | none =>
    let b0 := p.terms.foldl (fun a t => a + t.2.getD 0) 0
    let w := nsFs (1000 * min 10000 (max 10 (s.get GLOBAL_DROOP_WINDOW_WINDOW)))
    let d := ceilDiv b0 w * 2 * nsFs (s.get GLOBAL_DROOP_BUDGET_BUDGET)
    let big := (p.terms ++ [(nDroop, some d)]).foldl (fun (a : Nat × Nat) t =>
      if a.2 < t.2.getD 0 then (t.1, t.2.getD 0) else a) (0, 0)
    (some (b0 + d), big.1)

/-- The bound of a stream in ns, rounded up to a multiple of 100 (R388), with its largest term. -/
def State.bound (s : State) (st : Nat) : Option Nat × Nat :=
  (s.paths st).foldl (fun (a : Option Nat × Nat) p =>
    let r := s.pathSum p
    match a.1, r.1 with
    | none, _ => a
    | _, none => r
    | some x, some y =>
      let y := ceilDiv y 100000000 * 100
      if x < y then (some y, r.2) else a) (some 0, 0)

/-! ### Resource checks (R23, R392) -/

/-- B_path of the path through lane `l` in ns, rounded as R388 rounds a bound; `b` stands for it where it is unbounded. -/
def State.laneBound (s : State) (st l b : Nat) : Nat :=
  match (s.paths st).find? (fun p => p.lane == some l) with
  | some p => (match (s.pathSum p).1 with | some y => ceilDiv y 100000000 * 100 | none => b)
  | none => b

/-- Ledger entries that a promise of `b` ns needs (R392). -/
def State.entriesNeeded (s : State) (st b : Nat) : Nat :=
  (s.pathLanes st).foldl (fun a l => a + (ceilDiv (s.lineRate st * s.laneBound st l b) 1000000000 + 1) * s.tilesPerLine l) 0 +
    (if s.kindOf st = 2 ∨ s.kindOf st = 3 ∨ s.kindOf st = 4 then 8 else 0)

/-- Bytes per second that a stream draws from resource `i` of kind `n`: the outbound and inbound side of a bay's Truss
port (2b, 2b + 1), a scarf unit's port, a channel, a delivery port. A line marked RECALL leaves its bay, or its scarf
unit, once more and is written to the recall ring. -/
def State.demand (s : State) (st n i : Nat) : Nat :=
  let r := s.lineRate st
  let k := s.kindOf st
  let lines := fun (f : Nat → Bool) => ((s.pathLanes st).filter f).foldl (fun a l => a + s.storedLine l * r) 0
  let delayed := fun l => decide (0 < s.get (KERF_CFG_DELAY_LINES l))
  let out := s.lineBytes st * r
  let rec_ := s.flag (DLV_CFG_RECALL st)
  if n = nBay then
    if k ≤ 1 then
      (if i % 2 = 0 then lines (fun l => l / 4 == i / 2) * (if k = 0 ∧ rec_ = true then 2 else 1) else 0) + (if k = 1 then lines (fun l => l / 4 == i / 2 && delayed l) else 0)
    else if k ≤ 3 ∧ s.srcOf st / 8 = i / 2 ∧ i % 2 = 0 then out else 0
  else if n = nScarf then if k = 1 ∧ s.srcOf st % 16 = i then lines (fun _ => true) else 0
  else if n = nChan then
    (if k = 1 then 2 * lines (fun l => delayed l && s.kerfChan l == i) else 0) +
    (if i ∈ s.recallChans ∧ (k = 4 ∨ (k ≤ 1 ∧ rec_ = true)) then
      ceilDiv (if k = 0 then lines (fun _ => true) else out) (max 1 s.recallChans.length) else 0)
  else if s.get (DLV_CFG_PORT st) = i then out
  else if s.get (DLV_CFG_PORT st) = 2 then
    let a := s.get (DLV_CFG_SHARE_A st)
    ceilDiv (out * (if i = 0 then a else 256 - a)) 256
  else 0

/-- The first resource that the admitted streams overdraw among those that stream `st` uses. -/
def State.overdrawn (s : State) (st : Nat) : Option Nat :=
  let sum := fun n i => s.admittedAll.foldl (fun a t => a + s.demand t n i) 0
  let bad := fun n k (cap : Nat → Nat) => (List.range k).any (fun i => decide (0 < s.demand st n i) && decide (cap i < sum n i))
  if bad nBay 48 (fun _ => trussRate) then some nBay
  else if bad nScarf 16 (fun _ => trussRate) then some nScarf
  else if bad nChan 8 s.ddrCap then some nChan
  else if bad nPort 2 s.rEff then some nPort
  else none

/-- The DDR4 requesters that a stream uses: channel and requester (R16, R364). -/
def State.ddrUse (s : State) (st : Nat) : List (Nat × Nat) := match s.kindOf st with
  | 1 => (((s.pathLanes st).filter (fun l => decide (0 < s.get (KERF_CFG_DELAY_LINES l)))).map (fun l => (s.kerfChan l, l / 4))).eraseDups
  | 4 => s.recallChans.map (fun k => (k, reqRecall))
  | _ => []
/-- With the requester that records the lines of a stream marked RECALL. -/
def State.ddrNeeds (s : State) (st : Nat) : List (Nat × Nat) :=
  s.ddrUse st ++ (if s.kindOf st ≤ 1 ∧ s.flag (DLV_CFG_RECALL st) = true then s.recallChans.map (fun k => (k, reqRecall)) else [])
/-- Whether a list of uses needs more than 8 privileged requesters of one channel (R364). -/
def tooPriv (l : List (Nat × Nat)) : Bool := (List.range 8).any (fun k => decide (8 < ((l.filter (fun y => y.1 == k)).eraseDups).length))

/-- The privilege check (R364). -/
def State.privOk (s : State) (st : Nat) : Bool :=
  (s.ddrNeeds st).all (fun x => s.arbPriv x.1 x.2) &&
    !tooPriv ((s.admittedAll.filter (fun t => decide (0 < s.ceilingNs t))).flatMap s.ddrNeeds)

/-- The tile-ring check (R392). -/
def State.ringsOk (s : State) (st b : Nat) : Bool :=
  (s.pathLanes st).all (fun l =>
    let rest := nsFs (s.laneBound st l b) - s.tIngress l - s.tCond l
    decide (s.storedTile l * (2 + ceilDiv (rest * s.lineRate st) (10 ^ 15)) ≤ s.get (BAY_RING_SIZE_SIZE l)))

/-- Entries reserved by all streams but `st`. -/
def State.reservedBut (s : State) (st : Nat) : Nat :=
  ((List.range 256).filter (fun t => t != st)).foldl (fun a t => a + s.get (DLV_RESERVED_N t)) 0

/-- A stream's reservation is set (R381). -/
def State.reserve (s : State) (st n : Nat) : State :=
  let s := s.put (DLV_RESERVED_N st) n
  s.put DLV_LEDGER_RES_N (s.reservedBut st + n)

/-- The check that a stream fails, or its promise in ns and its reservation; stream `st` counts as admitted in `s`. -/
def State.judgeStream (s : State) (st : Nat) : Nat ⊕ (Nat × Nat) :=
  if s.sourceGone st then .inl nUnit
  else
    let ceil := s.ceilingNs st
    match s.overdrawn st with
    | some n => .inl n
    | none =>
      if ceil = 0 then .inr (0, 0)
      else match s.bound st with
        | (none, n) => .inl n
        | (some b, n) =>
          let e := s.entriesNeeded st b
          if ceil < b then .inl n
          else if 122880 < s.reservedBut st + e then .inl nLedger
          else if !s.ringsOk st b then .inl nRing
          else if !s.privOk st then .inl nPriv
          else .inr (b, e)

/-- DLV_CFG and DLV_IRQ as a definition gives them (R83, R371). -/
def State.defineStream (s : State) (defn : List Byte) (mbox : Option Nat) : State :=
  let st := bytesAt defn 0 1
  let s := s.modStrm st (fun _ => { Stream.reset with defn := defn, mbox := mbox })
  let cfg := bytesAt defn 1 1 % 8 + 16 * (bytesAt defn 4 1 % 4) + 256 * (bytesAt defn 6 1 % 2) + 512 * (bytesAt defn 30 1 % 2) +
    65536 * bytesAt defn 5 1 + 16777216 * (bytesAt defn 2 1)
  (s.wrN (DLV_CFG st) cfg).wrN (DLV_IRQ st) (bytesAt defn 24 2 % 2048 + 65536 * bytesAt defn 26 2)

/-- Admission of a stream definition (R388): the stream is admitted, or refused with 0x8044 and the term or check that
failed, which changes no admitted stream. -/
def State.admitStream (s : State) (defn : List Byte) (mbox : Option Nat) : State × (Nat ⊕ Nat) :=
  let st := bytesAt defn 0 1
  let c := (s.defineStream defn mbox).putB (DLV_STATUS_ADMITTED st) true
  let c := ((c.putB (DLV_STATUS_PROMISED st) (decide (0 < c.ceilingNs st))).setPriv 0).setPriv 1
  match c.judgeStream st with
  | .inl n => (s.logC 0x8044 st n, .inl n)
  | .inr (b, e) => (((c.wrN (DLV_PROMISE st) b).putB (DLV_STATUS_OVER_CEILING st) false).reserve st e, .inr b)

/-- A stream is closed (R393, R498): its reservation returns to the free pool; what is ready is still delivered. -/
def State.closeStream (s : State) (st : Nat) : State :=
  let s := ((s.putB (DLV_STATUS_ADMITTED st) false).putB (DLV_STATUS_PROMISED st) false).putB (DLV_STATUS_OVER_CEILING st) false
  let s := ((s.wrN (DLV_PROMISE st) 0).reserve st 0).modStrm st (fun x => { x with closing := true, batch := [] })
  ((s.setPriv 0).setPriv 1).settleClose st

/-- The bound of an admitted stream with a promise is computed again (R393). -/
def State.rebound (s : State) (st : Nat) : State :=
  if !s.flag (DLV_STATUS_PROMISED st) then s
  else match (s.bound st).1 with
    | none => s
    | some b =>
      let excess := decide (s.ceilingNs st < b)
      let s := (s.wrN (DLV_PROMISE st) b).putB (DLV_STATUS_OVER_CEILING st) excess
      s.iff excess (fun s => s.logC 0x5140 st 0)

/-- Whether re-admission closes a stream (R498, step 1). -/
def State.closesNow (s : State) (st : Nat) : Bool := match s.kindOf st with
  | 0 => s.laneRetired (s.srcOf st)
  | 2 | 3 => s.engRetired (s.srcOf st)
  | 4 => s.recallChans.isEmpty
  | _ => false

/-- Re-admission after a run-time retirement (R498). -/
def State.readmit (s : State) : State :=
  let gone := s.admittedAll.filter s.closesNow
  let s := gone.foldl (fun s st => (s.closeStream st).logC 0x8072 st st) s
  let s := s.admittedAll.foldl (fun s st => s.rebound st) s
  let prom := s.admittedAll.filter (fun st => s.flag (DLV_STATUS_PROMISED st))
  let need := prom.map (fun st => (st, s.entriesNeeded st (s.rdN (DLV_PROMISE st))))
  let fits := decide (need.foldl (fun (a : Nat) (x : Nat × Nat) => a + x.2) 0 ≤ 122880) && s.admittedAll.all (fun st => (s.overdrawn st).isNone)
  let s := if fits then (need.foldl (fun (s : State) (x : Nat × Nat) => s.reserve x.1 x.2) s).putB GLOBAL_READMIT_OVERCOMMIT false
    else s.putB GLOBAL_READMIT_OVERCOMMIT true
  let n := (s.admittedAll.filter (fun st => s.flag (DLV_STATUS_OVER_CEILING st))).length
  let s := ((s.put GLOBAL_READMIT_OVER n).putB GLOBAL_READMIT_PENDING false).showCap
  (s.romBuild.raise 11 GLOBAL_EVENTS_READMIT).logC 0x8071 noUnit (gone.length * 65536 + n)

end Sys2Proof.Machine
end

