-- ==== Sys2Proof/Machine/Ddr.lean ====
section
/-!
DEFINITION. The DDR4 channels (R347 to R359): the symbol code, its errors, erasure mode, the scrubber and retirement; and
the arbiters of the channels and of the delivery ports with the wait watchdog (R361 to R366).
-/

namespace Sys2Proof.Machine

open Reg

/-! ### GF(16) and the code (R352, R353) -/

/-- `a` times α, with α⁴ = α + 1. -/
def gfDouble (a : Nat) : Nat := if 8 ≤ a then Nat.xor (2 * a % 16) 3 else 2 * a
/-- The product of two elements of GF(16). -/
def gfMul (a b : Nat) : Nat :=
  let a1 := gfDouble a
  let a2 := gfDouble a1
  let a3 := gfDouble a2
  let t := fun (i x : Nat) => if bit b i then x else 0
  Nat.xor (Nat.xor (t 0 a) (t 1 a1)) (Nat.xor (t 2 a2) (t 3 a3))
/-- α^n. -/
def gfPow : Nat → Nat
  | 0 => 1
  | n + 1 => gfDouble (gfPow n)

/-- A syndrome or a column: four elements of GF(16). -/
abbrev Gf4 := Nat × Nat × Nat × Nat

def gf4Add (x y : Gf4) : Gf4 := (Nat.xor x.1 y.1, Nat.xor x.2.1 y.2.1, Nat.xor x.2.2.1 y.2.2.1, Nat.xor x.2.2.2 y.2.2.2)
def gf4Mul (k : Nat) (x : Gf4) : Gf4 := (gfMul k x.1, gfMul k x.2.1, gfMul k x.2.2.1, gfMul k x.2.2.2)

/-- The column h_j (R353). -/
def column (j : Nat) : Gf4 :=
  if j < 32 then
    let a := j / 16
    let b := j % 16
    (1, a, b, Nat.xor (gfMul a a) (Nat.xor (gfMul a b) (gfMul (gfPow 3) (gfMul b b))))
  else match j with
    | 32 => (0, 0, 0, 1)
    | 33 => (1, gfPow 1, 0, gfPow 2)
    | 34 => (1, gfPow 2, gfPow 1, gfPow 13)
    | _ => (1, gfPow 1, gfPow 1, gfPow 5)

/-- The DRAM position of symbol `j`, and the two symbols of position `n` (R352). -/
def posOfSym (j : Nat) : Nat := if j < 32 then j / 2 else 16 + (j - 32) / 2
def symsOf (n : Nat) : Nat × Nat := if n < 16 then (2 * n, 2 * n + 1) else (32 + 2 * (n - 16), 33 + 2 * (n - 16))

/-- The syndrome of a codeword whose symbols `j` are off by `v` (R353). -/
def syndrome (errs : List (Nat × Nat)) : Gf4 := errs.foldl (fun a e => gf4Add a (gf4Mul (e.2 % 16) (column (e.1 % 36)))) (0, 0, 0, 0)

/-- How a codeword decodes (R354). -/
inductive Decoded where
  | clean
  | corrected (pos : Nat)
  | erased
  | uncorrectable
  deriving DecidableEq, Repr

/-- Normal mode: a syndrome that is a column times a non-zero value names the position. -/
def decodeNormal (s : Gf4) : Decoded :=
  if s = (0, 0, 0, 0) then .clean
  else match (List.range 36).find? (fun j => (List.range 15).any (fun k => gf4Mul (k + 1) (column j) == s)) with
    | some j => .corrected (posOfSym j)
    | none => .uncorrectable

/-- Erasure mode for position `n`: its two symbols are solved. -/
def decodeErased (n : Nat) (s : Gf4) : Decoded :=
  let j := symsOf n
  if s = (0, 0, 0, 0) then .clean
  else if (List.range 256).any (fun k => gf4Add (gf4Mul (k / 16) (column j.1)) (gf4Mul (k % 16) (column j.2)) == s) then .erased
  else .uncorrectable

/-! ### Errors of a channel -/

def State.drm (s : State) (k : Nat) : DdrChan := cget (fun _ => DdrChan.reset) s.dram k
def State.modDrm (s : State) (k : Nat) (f : DdrChan → DdrChan) : State :=
  { s with dram := cset (fun _ => DdrChan.reset) s.dram k (f (s.drm k)) }

/-- The rank of an offset (R347). -/
def State.rankOf (s : State) (k a : Nat) : Nat :=
  if s.flag (DDR_CFG_RANKS k) then getBits a (17 + (if s.flag (DDR_CFG_DENSITY k) then 18 else 17)) 1 else 0

/-- Erasure mode of a rank and its position (R356). -/
def State.erasing (s : State) (k r : Nat) : Option Nat :=
  if r = 0 then (if s.flag (DDR_ERASE_EN0 k) then some (s.get (DDR_ERASE_POS0 k)) else none)
  else if s.flag (DDR_ERASE_EN1 k) then some (s.get (DDR_ERASE_POS1 k)) else none

/-- DDR_STATUS shows erasure mode; its setting is an event. -/
def State.showErase (s : State) (k : Nat) (was0 was1 : Bool) : State :=
  let e0 := s.flag (DDR_ERASE_EN0 k)
  let e1 := s.flag (DDR_ERASE_EN1 k)
  ((s.putB (DDR_STATUS_ERASE0 k) e0).putB (DDR_STATUS_ERASE1 k) e1).iff ((e0 && !was0) || (e1 && !was1)) (fun s =>
    s.raise 4 (DDR_EVENTS_ERASE_ON k))

/-- The DDR_ERR group of a channel is published. -/
def State.ddrErr (s : State) (k addr req pos rank kind : Nat) : State :=
  (((s.wr64 (DDR_ERR_ADDR k) addr).wrN (DDR_ERR_INFO k) (req * 65536 + pos * 16 + rank * 4 + kind)).wrTime (DDR_ERR_TIME k)
    s.now).publishC (DDR_ERR_STATUS k)

/-- LOCKED shows DDR while the PLL of every channel that is enabled and not retired is locked (R55). DESIGN CHOICE: it
reads 0 while there is no such channel. -/
def State.showDdrLock (s : State) : State :=
  let use_ := (List.range 8).filter (fun k => s.flag (DDR_CFG_ENABLE k) && !s.ddrRetired k)
  s.putB (GLOBAL_PLL_STATUS_LOCKED.sub 3) (!use_.isEmpty && use_.all (fun k => s.flag (DDR_STATUS_PLL_LOCK k)))

/-! ### Retirement of a channel (R358) -/

/-- A channel retires: `runTime` tells a retirement while it serves from one at training. -/
def State.ddrRetire (s : State) (k cause : Nat) (runTime : Bool) : State :=
  if s.get (DDR_STATUS_STATE k) = 3 then s
  else
    let s := (((s.put (DDR_STATUS_STATE k) 3).put (DDR_STATUS_CAUSE k) cause).put GLOBAL_RETIRED_MISC_DDR
      (Nat.lor (s.get GLOBAL_RETIRED_MISC_DDR) (2 ^ k))).showDdrLock
    let s := (s.raise 4 (DDR_EVENTS_RETIRED k)).logC 0x4030 k cause
    let s := s.modArb k (fun x => { x with reqs := [], hold := none })
    let s := s.put (DDR_ARB_HOLD_HOLDER k) 31
    -- Descriptors under transfer complete with ABORTED.
    let s := (List.range 192).foldl (fun s i =>
      let b := i / 8
      let c := i % 8
      let d := s.dmaDesc b c
      let here := fun a => getBits a 62 2 == 0 && getBits a 36 3 == k
      s.iff ((s.dch b c).busy && (here d.src || here d.dst)) (fun s => s.dmaDone b c 4 false)) s
    -- Held kerf lines are released; they read back as uncorrectable.
    let s := (List.range 96).foldl (fun s l => s.iff (decide (0 < s.get (KERF_CFG_DELAY_LINES l)) && s.kerfChan l == k)
      (fun s => s.kerfRelease l (s.krf l).held.length)) s
    if runTime then
      let why := if cause = 6 then 0 else 2
      let s := ((s.bump GLOBAL_CNT_RETIRE).putB GLOBAL_READMIT_PENDING true).logC 0x8070 noUnit (3 * 2 ^ 28 + why * 2 ^ 24 + k)
      s.readmit
    else s

/-- DDR_RETIRE (R358): firmware retires channel `k` for a cause of DDR_STATUS.CAUSE; before a second failing position does, it
logs 0x4021 (R356). The command bit RETIRE clears as the retirement completes (R5). -/
def execDdrRetire (k : Fin 8) (cause : Fin 8) (s : State) : Host.Outcome State Fault Refusal :=
  .next ((s.iff (cause.val == 3 && s.get (DDR_STATUS_STATE k) != 3) (fun s => s.logC 0x4021 k 0)).ddrRetire k cause true)

/-! ### Reads (R354 to R356) -/

/-- Ticks of an hour. -/
def hourTicks : Nat := 3600000000000

/-- AUTO_ERASE judges a position that has just been corrected (R356). -/
def State.autoErase (s : State) (k r pos : Nat) : State :=
  let n := ((s.drm k).hits.filter (fun (h : Nat × Nat × Nat) => h.2.1 == r && h.2.2 == pos)).length
  if !s.flag (DDR_POLICY_AUTO_ERASE k) || decide (n < s.get (DDR_POLICY_ERASE_THRESH k)) then s
  else match s.erasing k r with
    | none =>
      let was0 := s.flag (DDR_ERASE_EN0 k)
      let was1 := s.flag (DDR_ERASE_EN1 k)
      let s := if r = 0 then (s.putB (DDR_ERASE_EN0 k) true).put (DDR_ERASE_POS0 k) pos
        else (s.putB (DDR_ERASE_EN1 k) true).put (DDR_ERASE_POS1 k) pos
      (s.showErase k was0 was1).logC 0x4020 k (r * 65536 + pos)
    | some p => if p = pos then s else (s.logC 0x4021 k (r * 65536 + pos)).ddrRetire k 3 true

/-- A corrected codeword is counted and published (R354). -/
def State.ddrCorrected (s : State) (k addr req pos : Nat) (erased : Bool) : State :=
  let r := s.rankOf k addr
  let s := ((s.bump (DDR_CNT_CORR k)).raise 4 (DDR_EVENTS_CORR k)).ddrErr k (k * 2 ^ 36 + addr) req pos r (if erased then 3 else 1)
  if erased then s.bump (DDR_CNT_ERASED k)
  else
    let s := (s.bump (DDR_CNT_POS k (18 * r + pos))).modDrm k (fun x => { x with
      hits := (s.tb.ticks, r, pos) :: x.hits.filter (fun (h : Nat × Nat × Nat) => decide (s.tb.ticks < h.1 + hourTicks)) })
    s.autoErase k r pos

/-- An uncorrectable codeword is counted, published and logged (R355 to R357). -/
def State.ddrUncorrectable (s : State) (k addr req : Nat) : State :=
  let a := k * 2 ^ 36 + addr
  let s := ((s.bump (DDR_CNT_UNCORR k)).raise 4 (if req = 28 then DDR_EVENTS_SCRUB_UNCORR k else DDR_EVENTS_UNCORR k)).ddrErr k a req 31
    (s.rankOf k addr) 2
  let ext := extEntry (a / 2 ^ 32 % 128 + (if req = 28 then 0 else 256 * req)) 0
  let s := s.logX (if req = 28 then 0x4014 else 0x4011) k (a % 2 ^ 32) [ext]
  let s := s.modDrm k (fun x => { x with uncs := s.tb.ticks :: x.uncs.filter (fun t => decide (s.tb.ticks < t + hourTicks)) })
  s.iff (s.flag (DDR_POLICY_AUTO_ERASE k) && decide (s.get (DDR_POLICY_UNCORR_LIMIT k) < (s.drm k).uncs.length))
    (fun s => s.ddrRetire k 4 true)

/-- One codeword of a read at offset `addr` is decoded. -/
def State.ddrDecode (s : State) (k addr req : Nat) (errs : List (Nat × Nat)) : State :=
  match (match s.erasing k (s.rankOf k addr) with
    | some n => decodeErased n (syndrome errs)
    | none => decodeNormal (syndrome errs)) with
  | .clean => s
  | .corrected pos => s.ddrCorrected k addr req pos false
  | .erased => s.ddrCorrected k addr req ((s.erasing k (s.rankOf k addr)).getD 31) true
  | .uncorrectable => s.ddrUncorrectable k addr req

/-- Whether it was corrected. -/
def State.ddrFixes (s : State) (k addr : Nat) (errs : List (Nat × Nat)) : Bool :=
  match (match s.erasing k (s.rankOf k addr) with
    | some n => decodeErased n (syndrome errs)
    | none => decodeNormal (syndrome errs)) with
  | .corrected _ => true
  | .erased => true
  | _ => false

/-- DDR_READ_DECODE (R354, R355): one codeword read from offset `addr` of channel `k` for requester `req`; `errs` lists
the symbols that are off and the values they are off by. A corrected address is left for the scrubber (R357). -/
def execDdrReadDecode (k : Fin 8) (addr : Nat) (req : Fin 28) (errs : List (Nat × Nat)) (s : State) :
    Host.Outcome State Fault Refusal :=
  if s.get (DDR_STATUS_STATE k) ≠ 2 then .next s
  else
    let a := addr % 2 ^ 36
    let fixes := s.ddrFixes k a errs
    let s := s.ddrDecode k a req errs
    let u := a / 64 * 64
    .next (s.iff (fixes && !decide (u ∈ (s.drm k).pend)) (fun s =>
      if (s.drm k).pend.length < 16 then s.modDrm k (fun x => { x with pend := x.pend ++ [u] }) else s.bump (DDR_CNT_SCRUB_DROP k)))

/-- A write of `n` to DDR_ERASE by the MC: erasure mode for the reads decoded from then on (R356). -/
def State.eraseWrite (s : State) (k n : Nat) : State :=
  let was0 := s.flag (DDR_ERASE_EN0 k)
  let was1 := s.flag (DDR_ERASE_EN1 k)
  let s := (s.put (DDR_ERASE_EN0 k) (getBits n 7 1)).put (DDR_ERASE_EN1 k) (getBits n 15 1)
  let s := s.iff (decide (getBits n 0 5 ≤ 17)) (fun s => s.put (DDR_ERASE_POS0 k) (getBits n 0 5))
  let s := s.iff (decide (getBits n 8 5 ≤ 17)) (fun s => s.put (DDR_ERASE_POS1 k) (getBits n 8 5))
  s.showErase k was0 was1

/-- DDR_ERASE_WRITE (R356): a write of DDR_ERASE by `master`; only the MC's take effect. -/
def execDdrEraseWrite (k : Fin 8) (master : Fin 3) (v : Word) (s : State) : Host.Outcome State Fault Refusal :=
  if !s.reaches master then .next (s.unreached master)
  else if master.val ≠ 0 then .next (s.badAccess master (DDR_ERASE k) 3)
  else .next (s.eraseWrite k v.toNat)

/-- Whether the scrubber may read: SCRUB_INTERVAL has passed since it last did (R357). -/
def State.scrubDue (s : State) (k : Nat) : Bool := match (s.drm k).scrubAt with
  | some t => decide (t + max 256 (s.get (DDR_SCRUB_INTERVAL k)) ≤ s.tb.ticks)
  | none => true

/-- SCRUB_READ (R357): the scrubber reads a burst, one every SCRUB_INTERVAL, a corrected address first, else the next one of
its walk. Each list of `words` gives the symbols of one codeword that are off. A corrected codeword is rewritten. -/
def execScrubRead (k : Fin 8) (words : List (List (Nat × Nat))) (s : State) : Host.Outcome State Fault Refusal :=
  if s.get (DDR_STATUS_STATE k) ≠ 2 ∨ !s.flag (DDR_SCRUB_EN k) ∨ !s.scrubDue k then .next s
  else
    let s := s.modDrm k (fun x => { x with scrubAt := some s.tb.ticks })
    let r : Nat × State := match (s.drm k).pend with
      | a :: rest => (a, s.modDrm k (fun x => { x with pend := rest }))
      | [] =>
        let a := s.rd64 (DDR_SCRUB_NEXT k)
        let nx := a + 64
        if s.ddrGib k * 2 ^ 30 ≤ nx then (a, (s.wr64 (DDR_SCRUB_NEXT k) 0).bump (DDR_CNT_SCRUB_PASS k))
        else (a, s.wr64 (DDR_SCRUB_NEXT k) nx)
    .next ((words.take 4).foldl (fun s errs => s.ddrDecode k r.1 28 errs) r.2)

/-- DDR_REFRESH (R349): an all-bank refresh; it delays accesses and changes nothing else. -/
def execDdrRefresh (_k : Fin 8) (s : State) : Host.Outcome State Fault Refusal := .next s
/-- ZQ_SHORT_CALIBRATION (R349): within a refresh; it changes nothing that the device shows. -/
def execZqShortCalibration (_k : Fin 8) (s : State) : Host.Outcome State Fault Refusal := .next s

/-- DDR_ALERT (R350): ALERT_N reports an error; the controller reissues `n` commands, and the third report in 1 ms retires
the channel. -/
def execDdrAlert (k : Fin 8) (n : Nat) (s : State) : Host.Outcome State Fault Refusal :=
  if s.get (DDR_STATUS_STATE k) ≠ 2 then .next s
  else
    let l := s.tb.ticks :: (s.drm k).alerts.filter (fun t => decide (s.tb.ticks < t + 1000000))
    let s := ((s.modDrm k (fun x => { x with alerts := l })).bumpBy (DDR_CNT_ALERT k) n).raise 4 (DDR_EVENTS_ALERT k)
    .next (s.iff (decide (3 ≤ l.length)) (fun s => s.ddrRetire k 2 true))

/-! ### Arbiters (R361 to R364, R382): the channels' are 0 to 7, the delivery ports' 8 and 9 -/

/-- ARB_REQUEST_RAISE (R362, R363, R382): a requester of a delivery port must hold a delivery to transfer. -/
def execArbRequestRaise (a : Fin 10) (r : Fin 43) (s : State) : Host.Outcome State Fault Refusal :=
  let wants := if a.val < 8 then decide (r.val < 28) else r.val == 42 || (s.servedDlv (a - 8) r).isSome
  .next (if wants then s.arbAsk a r else s)

/-- ARB_REQUEST_DROP (R362): the holder's last burst is granted and it drops its request. -/
def execArbRequestDrop (a : Fin 10) (s : State) : Host.Outcome State Fault Refusal :=
  match (s.arbOf a).hold with
  | none => .next s
  | some _ => .next ((s.modArb a (fun x => { x with hold := none })).decideArb a)

/-- ARB_BREAK_POINT (R362): a raised requester ahead of the holder preempts it; the holder keeps its request and age. -/
def execArbBreakPoint (a : Fin 10) (s : State) : Host.Outcome State Fault Refusal :=
  match (s.arbOf a).hold with
  | none => .next s
  | some h =>
    if (s.arbOf a).reqs.any (fun (q : ArbReq) => !q.backoff && s.aheadOf a q.req h.req) then
      let s := (s.modArb a (fun x => { x with hold := none })).iff (decide (a.val < 8)) (fun s => s.bump (DDR_CNT_PREEMPT a))
      .next ((s.decideArb a).modArb a (fun x => { x with reqs := x.reqs ++ [{ h with count := 8 }] }))
    else .next s

/-- ARB_BACKOFF_END (R363): a loser's back-off ends and it raises its request again. -/
def execArbBackoffEnd (a : Fin 10) (r : Fin 43) (s : State) : Host.Outcome State Fault Refusal :=
  if (s.arbOf a).reqs.any (fun (q : ArbReq) => q.req == r.val && q.backoff) then
    .next ((s.modArb a (fun x => { x with
      reqs := x.reqs.map (fun (q : ArbReq) => if q.req == r.val then { q with backoff := false } else q) })).arbRaised a r)
  else .next s

/-- ARB_RANK_WRITE (R364, R398, R130): a write by `master` of word `w` of an arbiter's ranks. A host changes no rank of a
privileged requester of a channel, and none of a delivery port. -/
def execArbRankWrite (a : Fin 10) (w : Fin 6) (master : Fin 3) (v : Word) (s : State) : Host.Outcome State Fault Refusal :=
  if !s.reaches master then .next (s.unreached master)
  else if a.val < 8 ∧ 4 ≤ w.val then .next s
  else if a.val < 8 then
    let o := DDR_ARB_RANK a w
    let rs := (List.range 8).filter (fun i => decide (8 * w.val + i < 28))
    let locked := fun i => master != 0 && s.arbPriv a (8 * w + i)
    let bad := rs.any (fun i => locked i && getBits (s.rdN o) (4 * i) 3 != getBits v.toNat (4 * i) 3)
    let s := rs.foldl (fun s i => if locked i then s else s.put ⟨o, 4 * i, 3⟩ (getBits v.toNat (4 * i) 3)) s
    .next (s.iff bad (fun s => s.badAccess master o 3))
  else if master ≠ 0 then .next (s.badAccess master (DLV_ARB_RANK (a - 8) w) 3)
  else
    let rs := (List.range 8).filter (fun i => decide (8 * w.val + i < 43))
    .next (rs.foldl (fun s i => s.put ⟨DLV_ARB_RANK (a - 8) w, 4 * i, 3⟩ (getBits v.toNat (4 * i) 3)) s)

/-! ### The wait watchdog (R366) -/

/-- A unit of the watchdog: its kind and index. -/
abbrev WaitUnit := Fin 9 × Nat

/-- The number of a unit in GLOBAL_WDOG. -/
def unitCode (u : WaitUnit) : Nat := u.1 * 4096 + u.2 % 4096

/-- The requester through which a unit asks an arbiter. -/
def State.unitReq (s : State) (u : WaitUnit) : Nat := match u.1.val with
  | 0 => u.2 / 4 | 1 => u.2 | 2 => u.2 / 8 | 3 => 24 + u.2 % 16 | 4 => 24 | 5 => 25 | 6 => 26 | 7 => 27
  | _ => s.streamReq (u.2 % 256)

/-- When a unit raised its request at arbiter `a`, which it waits for or holds. -/
def State.unitSince (s : State) (a : Nat) (u : WaitUnit) : Option Nat :=
  let x := s.arbOf a
  ((x.hold.toList ++ x.reqs).find? (fun (q : ArbReq) => q.req == s.unitReq u)).map (fun (q : ArbReq) => q.at_)

/-- Whether unit `u` comes after unit `v` in the order of R362 at arbiter `a`; age counts where both have a request. -/
def State.rankedBelow (s : State) (a : Nat) (u v : WaitUnit) : Bool :=
  s.aheadOf a (s.unitReq v) (s.unitReq u) || (!s.aheadOf a (s.unitReq u) (s.unitReq v) &&
    (match s.unitSince a u, s.unitSince a v with
      | some x, some y => decide (y < x) || (x == y && decide (unitCode v < unitCode u))
      | _, _ => decide (unitCode v < unitCode u)))

/-- The unit of a circle that is ranked lowest at arbiter `a`, ties to the higher unit number. -/
def State.lowestUnit (s : State) (a : Nat) : List WaitUnit → Option WaitUnit
  | [] => none
  | u :: t => match s.lowestUnit a t with
    | none => some u
    | some v => if s.rankedBelow a u v then some u else some v

/-- A unit is aborted: it releases what it holds, and its open entries go to ABORTED. -/
def State.abortUnit (s : State) (u : WaitUnit) : State :=
  let n := u.2
  let drop := fun (s : State) (r : Nat) => (List.range 8).foldl (fun s a =>
    let had := match (s.arbOf a).hold with | some h => h.req == r | none => false
    let s := s.modArb a (fun x => { x with
      reqs := x.reqs.filter (fun (q : ArbReq) => q.req != r), hold := if had then none else x.hold })
    s.iff had (fun s => s.decideArb a)) s
  match u.1.val with
  | 0 => (s.ledger.tiles.filter (fun (t : Tile) => decide (t.src ≤ 1) && t.lane == n && t.state == 0)).foldl (fun s t => s.abortTile t.num) s
  | 1 => drop ((List.range 8).foldl (fun s c => s.iff (decide (n < 24) && (s.dch n c).busy) (fun s => s.dmaDone n c 4 false)) s) n
  | 2 => s.engFault (n % 192) 0x0C 0 false
  | 3 =>
    let v := n % 16
    let s := (s.scf v).bents.foldl (fun s b => b.tiles.foldl (fun s (t : BentTile) => s.abortTile t.tile) s) s
    (s.modScf v (fun x => { x with bents := [] })).showScarf v
  | 4 => drop ((s.dlv.filter (fun (d : Delivery) => d.kind == 4)).foldl (fun s d =>
      (d.tiles.foldl (fun s t => s.abortTile t) s).dropDlv d.num) s) 24
  | 8 => (s.dlv.filter (fun (d : Delivery) => d.stream == n)).foldl (fun s d =>
      (d.tiles.foldl (fun s t => s.abandon n t) s).dropDlv d.num) s
  | r => drop s (20 + r)

/-- The channel number that the watchdog's entries carry (R368); none at a delivery port. -/
def arbChan (a : Nat) : Nat := if a < 8 then a else noUnit

/-- WAIT_WATCHDOG_EXPIRY (R366): a unit has waited WDOG_US for resource `res` of R365. `circle` is the circle that the
chain closes, if it closes one, and `a` the arbiter whose order ranks it. -/
def execWaitWatchdogExpiry (u : WaitUnit) (res : Fin 5) (a : Fin 10) (circle : List WaitUnit) (s : State) :
    Host.Outcome State Fault Refusal :=
  match s.lowestUnit a (circle.take 8) with
  | some v =>
    let s := ((s.wrN GLOBAL_WDOG_UNIT (unitCode v)).wrN GLOBAL_WDOG_RESOURCE res).wrTime GLOBAL_WDOG_TIME s.now
    let s := ((s.publish GLOBAL_WDOG_STATUS).bump GLOBAL_CNT_WDOG_ABORT).raise 11 GLOBAL_EVENTS_WDOG_ABORT
    .next ((s.logC 0x4051 (arbChan a) (unitCode v)).abortUnit v)
  | none =>
    .next (((s.bump GLOBAL_CNT_WDOG_LONG).raise 11 GLOBAL_EVENTS_WDOG_LONG).logLim 0x4050 0 (arbChan a) (unitCode u * 65536 + res) false [])

end Sys2Proof.Machine
end

