-- ==== Sys2Proof/Machine/Dlv.lean ====
section
/-!
DEFINITION. The commands of delivery (R373 to R376, R382, R394 to R397), descriptor reads (R404, R422), event-log batches
and recall (R386, R387).
-/

namespace Sys2Proof.Machine

open Reg

/-! ### Host ports -/

def State.hport (s : State) (p : Nat) : HostPort := cget (fun _ => HostPort.reset) s.ports p
def State.modHport (s : State) (p : Nat) (f : HostPort → HostPort) : State :=
  { s with ports := cset (fun _ => HostPort.reset) s.ports p (f (s.hport p)) }

/-! ### Descriptors -/

/-- DELIVERY_READY (R376): the first delivery of a ring takes the ring's next descriptor. -/
def execDeliveryReady (st : Fin 256) (p : Fin 2) (s : State) : Host.Outcome State Fault Refusal :=
  if s.flag (activeF st p) && !(s.ring st p).withdraw then .next (s.takeDesc st p ((s.ring st p).descs.length + 1)) else .next s

/-- Whether a write of `v` to DESC_TAIL keeps it between what it was and DESC_HEAD plus the ring size (R373). -/
def State.tailOk (s : State) (st p : Nat) (v : Word) : Bool :=
  let h := s.rd (DLV_DESC_HEAD st p)
  decide ((s.rd (DLV_DESC_TAIL st p) - h).toNat ≤ (v - h).toNat) && decide ((v - h).toNat ≤ s.ringSize st p)

/-- DESC_TAIL_WRITE (R373): a write of DESC_TAIL by `master`, `size` bytes wide. -/
def execDescTailWrite (st : Fin 256) (p : Fin 2) (master : Fin 3) (size : Nat) (v : Word) (s : State) :
    Host.Outcome State Fault Refusal :=
  let o := DLV_DESC_TAIL st p
  if !s.reaches master then .next (s.unreached master)
  else if size ≠ 4 then .next (s.badAccess master o 1)
  else if s.tailOk st p v then .next (s.wr o v) else .next (s.badAccess master o 3)

/-- The lowest tag of a port that no outstanding read has (R404); at most 64 reads are outstanding. -/
def State.freeTag (s : State) (p : Nat) : Option Nat :=
  (List.range 64).find? (fun t => !decide (t ∈ (s.hport p).late) &&
    s.rings.all (fun (r : Nat × Ring) => r.1 % 2 != p || (match r.2.fetch with | some f => f.1 != t | none => true)))

/-- A descriptor read is issued: `n` descriptors from index `i` on. -/
def State.readDescs (s : State) (st p i n : Nat) (second : Bool) : State :=
  match s.freeTag p with
  | none => s
  | some t => (s.emit (.hostRead p t (s.rd64 (DLV_DESC_BASE st p) + 16 * (i % s.ringSize st p)) (16 * n))).modRing st p
      (fun r => { r with fetch := some (t, i, n, second) })

/-- Whether requester `r` holds arbiter `a`. -/
def State.arbHolds (s : State) (a r : Nat) : Bool := match (s.arbOf a).hold with
  | some h => h.req == r
  | none => false

/-- DESC_FETCH (R373, R382, R404): with the port's grant to DESC, a read of up to 16 available descriptors that does not pass
the ring's end or a 4 KiB boundary. -/
def execDescFetch (st : Fin 256) (p : Fin 2) (s : State) : Host.Outcome State Fault Refusal :=
  let r := s.ring st p
  let have_ := r.descs.length
  let head := s.rdN (DLV_DESC_HEAD st p) + have_
  let avail := (s.rd (DLV_DESC_TAIL st p) - s.rd (DLV_DESC_HEAD st p)).toNat - have_
  let i := head % s.ringSize st p
  let n := min (min (16 - have_) avail) (min (s.ringSize st p - i) (256 - i % 256))
  if s.arbHolds (8 + p) 42 && s.flag (activeF st p) && !r.withdraw && r.fetch.isNone && decide (0 < n) &&
      s.flag (PCIE_STATUS_BME p) then
    .next (s.readDescs st p i n false)
  else .next s

/-- The ring whose descriptor read has tag `t` on port `p`. -/
def State.readerOf (s : State) (p t : Nat) : Option Nat :=
  (s.rings.find? (fun (r : Nat × Ring) => r.1 % 2 == p && (match r.2.fetch with | some f => f.1 == t | none => false))).map
    (fun r => r.1 / 2)

/-- A descriptor read has failed: it is issued once more, or the ring is withdrawn (R422). -/
def State.fetchFailed (s : State) (st p : Nat) : State :=
  match (s.ring st p).fetch with
  | none => s
  | some (_, i, n, second) =>
    let s := s.modRing st p (fun r => { r with fetch := none })
    if !second then s.readDescs st p i n true
    else ((s.withdraw st p).raisePcie p (PCIE_EVENTS_FETCH_FAIL p)).logC 0x5206 p st

/-- DESC_COMPLETION_RECEIVE (R404, R422, R419): the completion of the read with tag `t` arrives; `ok` tells success from
Unsupported Request or Completer Abort. -/
def execDescCompletionReceive (p : Fin 2) (t : Nat) (ok : Bool) (data : List Byte) (s : State) :
    Host.Outcome State Fault Refusal :=
  match s.readerOf p t with
  | none =>
    let s' := s.bump (PCIE_CNT_LATE_CPL p)
    if t ∈ (s.hport p).late then .next (s'.modHport p (fun x => { x with late := x.late.erase t }))
    else .next (s'.aerAdv p 16)
  | some st =>
    match (s.ring st p).fetch with
    | none => .next s
    | some (_, i, n, _) =>
      if !ok then .next (s.fetchFailed st p)
      else
        let ds := (List.range n).map (fun k => (i + k, bytesAt data (16 * k) 8, bytesAt data (16 * k + 8) 4))
        .next (s.modRing st p (fun r => { r with fetch := none, descs := r.descs ++ ds }))

/-- COMPLETION_TIMEOUT (R422): a descriptor read with tag `t` times out. -/
def execCompletionTimeout (p : Fin 2) (t : Nat) (s : State) : Host.Outcome State Fault Refusal :=
  match s.readerOf p t with
  | none => .next (s.modHport p (fun x => { x with late := x.late.erase t }))
  | some st => .next ((s.aerUnc p 14).fetchFailed st p)

/-! ### Transfers and waits (R382, R394, R395) -/

/-- PAYLOAD_TRANSFER (R382): the holder of port `p`'s arbiter writes up to `n` bursts of its delivery; without
posted-write credit it keeps its grant and waits. -/
def execPayloadTransfer (p : Fin 2) (n : Nat) (credit : Bool) (s : State) : Host.Outcome State Fault Refusal :=
  match (s.arbOf (8 + p)).hold with
  | none => .next s
  | some h => match s.servedDlv p h.req with
    | none => .next s
    | some d =>
      if !s.flag (PCIE_STATUS_BME p) then .next s
      else if !credit then .next (s.startWait d.num)
      else
        let s := s.endWait d.num d.stream
        match s.dlv.find? (fun (e : Delivery) => e.num == d.num) with
        | some d => .next (s.transfer d n)
        | none => .next s

/-- POSTED_CREDIT_RETURN (R382): credit returns, and the holder's delivery waits no longer. -/
def execPostedCreditReturn (p : Fin 2) (s : State) : Host.Outcome State Fault Refusal :=
  .next ((s.dlv.filter (fun (d : Delivery) => d.port == p.val && d.desc.isSome && d.waitFrom.isSome)).foldl
    (fun s d => s.endWait d.num d.stream) s)

/-- The oldest delivery of a ring that waits and has not exceeded CREDIT_NS. -/
def State.waiter (s : State) (st p : Nat) : Option Delivery :=
  s.dlv.find? (fun (d : Delivery) => d.stream == st && d.port == p && d.waitFrom.isSome && !d.hostLate)

/-- The ticks that a delivery has waited in all, the present wait included. -/
def State.waitedFor (s : State) (d : Delivery) : Nat := d.waited + (match d.waitFrom with | some t => s.tb.ticks - t | none => 0)

/-- CREDIT_WAIT_EXPIRY (R394, R395): a delivery has waited beyond CREDIT_NS; before that nothing happens. -/
def execCreditWaitExpiry (st : Fin 256) (p : Fin 2) (s : State) : Host.Outcome State Fault Refusal :=
  match s.waiter st p with
  | none => .next s
  | some d =>
    if s.waitedFor d ≤ s.creditNs st then .next s
    else
    let s := ((s.modDlv d.num (fun d => { d with hostLate := true })).showWaiting st).bump (DLV_CNT_WAIT st)
    .next ((s.raise 9 (DLV_EVENTS_WAITING st)).logOnce 0x5102 st st 0)

/-- DEACT_EXPIRY (R395): a wait has reached DEACT_MS; the ring is withdrawn. Before that nothing happens. -/
def execDeactExpiry (st : Fin 256) (p : Fin 2) (s : State) : Host.Outcome State Fault Refusal :=
  if s.deactMs st ≠ 0 ∧ s.flag (activeF st p) = true ∧
      (s.dlv.any (fun (d : Delivery) => d.stream == st.val && d.port == p.val && (match d.waitFrom with
        | some t => decide (t + 1000000 * s.deactMs st ≤ s.tb.ticks)
        | none => false))) = true then
    .next ((s.withdraw st p).logC 0x5104 st p)
  else .next s

/-- IRQ_MODERATION_EXPIRY (R397): IRQ_US has passed since the first tag not yet signalled; before that nothing happens. -/
def execIrqModerationExpiry (st : Fin 256) (p : Fin 2) (s : State) : Host.Outcome State Fault Refusal :=
  if (s.ring st p).unsig = 0 ∨ s.tb.ticks < (s.ring st p).unsigAt + 1000 * s.get (DLV_IRQ_IRQ_US st) then .next s else .next (s.ringIrq st p)

/-- The streams that delivered more than LINE_RATE in the window are counted, and the counts begin anew (R396). -/
def State.rateWindow (s : State) : State :=
  s.streams.foldl (fun s (x : Nat × Stream) =>
    (s.iff (s.admitted x.1 && decide (s.lineRate x.1 < x.2.inWin)) (fun s => s.overrate x.1)).iff (decide (0 < x.2.inWin))
      (fun s => s.modStrm x.1 (fun y => { y with inWin := 0 }))) s

/-- RATE_WINDOW_END (R396): a window of one second since OUTPUT_COMMIT ends and the next begins; before that instant nothing
happens. -/
def execRateWindowEnd (s : State) : Host.Outcome State Fault Refusal :=
  if !s.outCommit || decide (s.tb.ticks < s.rateFrom + 1000000000) then .next s
  else .next ((s.setRateFrom (s.rateFrom + 1000000000)).rateWindow)

/-! ### Event-log batches (R369, R376) -/

/-- The 16 bytes of a log entry (R465). -/
def LogEntry.bytes (e : LogEntry) : List Byte :=
  toBytes 4 e.w0.toNat ++ toBytes 4 e.w1.toNat ++ toBytes 4 e.w2.toNat ++ toBytes 4 e.w3.toNat

/-- The batch of an event-log stream becomes ready. The tag fields that R377 and R379 do not state for it are free. -/
def State.logBatch (s : State) (st : Nat) : State :=
  let b := (s.strm st).batch
  if b.isEmpty then s
  else
    let fv := fun k => Config.freeValue (s.freeIdx + k)
    let tag : TagInfo := { TagInfo.reset with
      line := fv 0, pos := fv 1, tc := fv 2, trigId := fv 3, status := 4096 * s.get TB_QUALITY_CLASS }
    let s := (s.modStrm st (fun x => { x with batch := [] })).drawn 4
    let data := b.flatMap (fun (e : LogEntry) => e.bytes)
    (s.checkLen st data.length).ready {
      num := 0, stream := st, port := 0, kind := 5, tiles := [], acc := s.tb.ticks, tag := tag, tagStream := st, unit := 0xFF,
      segMap := 0, data := data, final := true, sent := 0, desc := none, inDesc := 0, filled := [], waitFrom := none,
      waited := 0, hostLate := false, loss := false, refAcc := none, slot := none, nodeId := 0 }

/-- An entry of the log joins the batches of the event-log streams; a full batch becomes ready (R468). -/
def State.logToStreams (s : State) (e : LogEntry) : State :=
  (s.admittedAll.filter (fun st => s.kindOf st == 5)).foldl (fun s st =>
    let s := s.modStrm st (fun x => { x with batch := x.batch ++ [e] })
    s.iff (decide (s.batchOf st ≤ (s.strm st).batch.length)) (fun s => s.logBatch st)) s

/-- FLUSH_US_EXPIRY (R376): a partial batch becomes ready. -/
def execFlushUsExpiry (st : Fin 256) (s : State) : Host.Outcome State Fault Refusal := .next (s.logBatch st)

/-! ### Recall (R386, R387) -/

/-- A recall request ends for a reason (R386): its result is published and BUSY clears. -/
def State.recallEnd (s : State) (reason : Nat) : State :=
  let r := s.recl
  let s := s.modRecl (fun r => { r with walk := none })
  let s := (((s.wrN DLV_RECALL_RES_FOUND r.found).wrN DLV_RECALL_RES_SCANNED r.scanned).wrN DLV_RECALL_RES_END reason).publish
    DLV_RECALL_RES_STATUS
  let s := s.putB DLV_RECALL_REQ_BUSY false
  (List.range 2).foldl (fun s p => s.iff (s.flag (activeF r.out p)) (fun s => s.ringIrq r.out p)) s

/-- The request as GO takes it. -/
def State.recallRequest (s : State) (key out st : Nat) : Recall :=
  { s.recl with
    walk := some (s.recl.newest, none), scanned := 0, found := 0, key := key, stream := st, out := out,
    from_ := s.rd64 DLV_RECALL_FROM, to_ := s.rd64 DLV_RECALL_TO, notBefore := s.rd64 DLV_RECALL_NOT_BEFORE,
    maxLines := s.get DLV_RECALL_MAX_LINES_N }

/-- RECALL asks for the channel of the record that the walk reads next (R16). -/
def State.recallAsk (s : State) : State := match s.recl.walk with
  | some (a, _) => s.arbAsk (chanAt a) reqRecall
  | none => s

/-- A request starts: its walk begins at the newest record, if there is one. -/
def State.recallStart (s : State) : State :=
  let r := s.recallRequest (s.get DLV_RECALL_REQ_KEY) (s.get DLV_RECALL_REQ_OUT) (s.get DLV_RECALL_REQ_STREAM)
  let s := (s.putB DLV_RECALL_REQ_BUSY true).modRecl (fun _ => r)
  if r.seq = 0 then s.recallEnd 1 else if r.maxLines = 0 then s.recallEnd 6 else s.recallAsk

/-- RECALL_GO (R386): a write of DLV_RECALL_REQ with GO by `master`. -/
def execRecallGo (master : Fin 3) (v : Word) (s : State) : Host.Outcome State Fault Refusal :=
  if !s.reaches master then .next (s.unreached master)
  else if s.flag DLV_RECALL_REQ_BUSY then .next (s.badAccess master DLV_RECALL_REQ 3)
  else .next (((s.put DLV_RECALL_REQ_KEY (getBits v.toNat 24 2)).put DLV_RECALL_REQ_OUT (getBits v.toNat 16 8)).put
    DLV_RECALL_REQ_STREAM (getBits v.toNat 8 8)).recallStart

/-- Whether a key lies in the range of a request (R386): a line number, a time, or a position under R197; KEY 3 holds no
key. -/
def Recall.inRange (r : Recall) (line time pos : Nat) : Bool := match r.key with
  | 0 => decide (sext 64 r.from_ ≤ sext 64 line) && decide (sext 64 line ≤ sext 64 r.to_)
  | 1 => decide (r.from_ ≤ time) && decide (time ≤ r.to_)
  | 2 => decide (0 ≤ posDiff pos r.from_) && decide (0 ≤ posDiff r.to_ pos)
  | _ => false

/-- A recorded payload with what could not be read replaced by the source's FILL value (R387, R152). -/
def State.recallData (s : State) (tag data : List Byte) (bad : List Nat) : List Byte :=
  if bad.isEmpty then data
  else
    let unit := bytesAt tag 6 1
    let bent := bytesAt tag 3 1 % 8 == 1
    let w := if bent then s.bentY (unit % 16) else (s.condNow unit).wBytes
    let f := if bent then s.bentFill (unit % 16) else (s.condNow unit).fillStored
    let w := max 1 w
    (List.range data.length).map (fun i =>
      let lo := i / w * w
      if (List.range w).any (fun j => decide ((lo + j) / 64 ∈ bad)) then (toBytes w f).getD (i % w) 0 else data.getD i 0)

/-- A recorded line becomes a delivery on OUT with a new entry. -/
def State.recallLine (s : State) (pool : Option Nat) (tag data : List Byte) (bad : List Nat) : State :=
  let out := s.recl.out
  let n := s.ledger.next
  let st0 := bytesAt tag 56 4 / 2 * 2
  let st0 := stSet st0 stRecalled
  let info : TagInfo := {
    line := sext 64 (bytesAt tag 8 8), pos := sext 64 (bytesAt tag 16 8), trigId := bytesAt tag 36 4,
    tc := ((bytesAt tag 24 6 * 1000000000 + bytesAt tag 30 4) * 65536 + bytesAt tag 34 2 : Nat),
    status := if bad.isEmpty then st0 else stSet st0 stPartial, fmt := bytesAt tag 1 1, stepSeq := 0, grid := 0 }
  let s := s.newTile { Tile.blank with src := 3, lane := bytesAt tag 6 1, pool := pool, tag := info, holders := [out] }
  (s.checkLen out data.length).ready {
    num := 0, stream := out, port := 0, kind := 4, tiles := [n], acc := s.tb.ticks, tag := info, tagStream := bytesAt tag 2 1,
    unit := bytesAt tag 6 1, segMap := bytesAt tag 40 12, data := s.recallData tag data bad, final := true, sent := 0,
    desc := none, inDesc := 0, filled := [], waitFrom := none, waited := 0, hostLate := false, loss := false, refAcc := none,
    slot := none, nodeId := bytesAt tag 4 2 % 1024 }

/-- The tag and the time of a record whose first 128 bytes are `h` (R385). -/
def recordTime (h : List Byte) : Nat := bytesAt (h.drop 64) 24 6 * 1000000000 + bytesAt (h.drop 64) 30 4

/-- Whether a record is of the requested stream and in the requested range (R386). -/
def Recall.wants (r : Recall) (h : List Byte) : Bool :=
  bytesAt (h.drop 64) 2 1 == r.stream && r.inRange (bytesAt (h.drop 64) 8 8) (recordTime h) (bytesAt (h.drop 64) 16 8)

/-- The walk goes on at the record before, or ends with enough lines or with no record left (R386). -/
def State.recallOn (s : State) (prev seq : Nat) : State :=
  if s.recl.maxLines ≤ s.recl.found then s.recallEnd 6
  else if prev = 0 then s.recallEnd 1
  else (s.modRecl (fun r => { r with walk := some (prev, some (seq - 1)) })).recallAsk

/-- RECALL_RECORD_READ (R386, R387): the next record of the walk is read. `hdr` says that its header or tag could not be
corrected, and `bad` lists the 64-byte units of its payload that could not. The read waits for RECALL's grant, a line for a
Ledger entry. -/
def execRecallRecordRead (hdr : Bool) (bad : List Nat) (s : State) : Host.Outcome State Fault Refusal :=
  let s := s.ddrLand
  match s.recl.walk with
  | none => .next s
  | some (a, want) =>
    let h := s.ddrRd a 128
    let seq := bytesAt h 0 8
    let prev := bytesAt h 8 8
    if s.arbWaits (chanAt a) reqRecall then .next s
    else if s.get (DDR_STATUS_STATE (a / 2 ^ 36 % 8)) = 3 then .next (s.recallEnd 4)
    else if hdr then .next ((s.logC 0x5131 s.recl.stream 0).recallEnd 5)
    else if (match want with | some q => q != seq | none => false) then .next (s.recallEnd 2)
    else if recordTime h < s.recl.notBefore then .next (s.recallEnd 3)
    else if !s.recl.wants h then .next ((s.modRecl (fun r => { r with scanned := r.scanned + 1 })).recallOn prev seq)
    else match s.entryFor [s.recl.out] with
      | none => .next (s.bump DLV_CNT_NOENTRY)
      | some pool =>
        let s := s.modRecl (fun r => { r with scanned := r.scanned + 1, found := r.found + 1 })
        .next ((s.recallLine pool (h.drop 64) (s.ddrRd (a + 128) (bytesAt h 16 4)) bad).recallOn prev seq)

end Sys2Proof.Machine
end

