-- ==== Sys2Proof/Machine/Evt.lean ====
section
/-!
DEFINITION. The event matrix (R257 to R267) and the PWM outputs (R509). How a producer fires is in EvtCore.
-/

namespace Sys2Proof.Machine

open Reg

/-! ### Consumers (R259, R260) -/

/-- The elapsed tick at which consumer `c` last accepted an event. -/
def State.accTick (s : State) (c : Nat) : Option Nat := cget (fun _ => none) s.evt.accTick c

/-- Whether fewer than `n` ticks have passed since consumer `c` accepted an event. -/
def State.accWithin (s : State) (c n : Nat) : Bool :=
  match s.accTick c with
  | some k => decide (s.tb.ticks < k + n)
  | none => false

/-- Whether a consumer is running; an event that reaches another one is discarded (R260). -/
def State.consRuns (s : State) (c : Nat) : Bool :=
  if c < 16 then s.trRunning c && s.trMode c == 3
  else if c < 32 then (s.pch (c - 16)).runs
  else if c < 49 then true
  else if c < 57 then s.outCommit && s.flag (EVT_OUT_CFG_EN (c - 49))
  else if c < 61 then s.flag (EVT_DMA_CFG_EN (c - 57)) &&
    s.flag (BAY_DMA_CFG_EN (s.get (EVT_DMA_CFG_BAY (c - 57))) (s.get (EVT_DMA_CFG_CHANNEL (c - 57))))
  else true

/-- Whether a consumer is busy (R259): what BUSY of EVT_CONS_STATUS shows. -/
def State.consBusy (s : State) (c : Nat) : Bool :=
  if c < 16 then decide (s.nowI < (s.sq c).busyTo)
  else if c = 32 then s.accWithin 32 16
  else if 33 ≤ c ∧ c < 49 then s.accWithin c 1
  else if 49 ≤ c ∧ c < 57 then s.pulsing 3 (c - 49)
  else if 57 ≤ c ∧ c < 61 then s.flag (EVT_DMA_CFG_EN (c - 57)) &&
    (s.dch (s.get (EVT_DMA_CFG_BAY (c - 57))) (s.get (EVT_DMA_CFG_CHANNEL (c - 57)))).kick.isSome
  else if c = 63 then s.accWithin 63 1000
  else false

/-- A free consumer acts on an event of producer `p` with hop count `hop` (R259). `same` is for a task line: the event
comes in the CLK_CORE cycle of the last one. -/
def State.consAct (s : State) (c p hop : Nat) (same : Bool) : State :=
  if c < 16 then s.seqAccept c hop
  else if c < 32 then s.posSnap (c - 16)
  else if c = 32 then s.tbSnap
  else if c < 49 then s.taskLine (c - 33) hop same
  else if c < 57 then s.pulsePin (s.get (EVT_OUT_CFG_PIN (c - 49))) (nsT (max 8 (s.get (EVT_OUT_CFG_WIDTH (c - 49))))) 3 (c - 49)
  else if c < 61 then s.dmaKick (s.get (EVT_DMA_CFG_BAY (c - 57))) (s.get (EVT_DMA_CFG_CHANNEL (c - 57))) hop
  else if c = 61 then s.raise 8 EVT_IRQ_PENDING
  else if c = 62 then s.modEvt (fun e => { e with mcWakes := e.mcWakes + 1 })
  else s.logC 0x3103 p ((s.tb.ticks - s.power.releaseTick) / 4)

/-- A consumer accepts an event. -/
def State.consAccept (s : State) (c p hop : Nat) (same : Bool) : State :=
  let s := s.modEvt (fun e => { e with accTick := cset (fun _ => none) e.accTick c (some s.tb.ticks) })
  s.consAct c p hop same

/-- The pending event of a free consumer is accepted (R264). -/
def State.pendAccept (s : State) (c : Nat) : State :=
  if !s.flag (EVT_CONS_STATUS_PENDING c) || s.consBusy c then s
  else
    let p := s.get (EVT_CONS_STATUS_PEND_SRC c)
    let hop := s.get (EVT_CONS_STATUS_PEND_HOP c)
    let s := ((s.putB (EVT_CONS_STATUS_PENDING c) false).put (EVT_CONS_STATUS_PEND_SRC c) 0).put (EVT_CONS_STATUS_PEND_HOP c) 0
    if s.consRuns c then s.consAccept c p hop false else s

/-- One event, after coincidence, meets a consumer: accepted, held pending or lost (R264). -/
def State.consMeet (s : State) (c p hop : Nat) (same : Bool) : State :=
  let s := s.pendAccept c
  if s.flag (EVT_CONS_STATUS_PENDING c) then s.consLost c 1
  else if s.consBusy c then
    ((s.putB (EVT_CONS_STATUS_PENDING c) true).put (EVT_CONS_STATUS_PEND_SRC c) p).put (EVT_CONS_STATUS_PEND_HOP c) hop
  else s.consAccept c p hop same

/-- The oldest event of each producer of `ps` that is under way and has not met consumer `c` meets it: those events, and what
stays under way. -/
def takeFlights (c : Nat) : List Nat → List EvtFlight → List EvtFlight × List EvtFlight
  | [], fl => ([], fl)
  | p :: ps, fl =>
    match fl.find? (fun (f : EvtFlight) => f.prod == p && bit f.left c) with
    | none => takeFlights c ps fl
    | some f =>
      let r := takeFlights c ps (fl.replace f { f with left := f.left - 2 ^ c })
      (f :: r.1, r.2)

/-- EVENT_ARRIVE (R261 to R265): in one CLK_ENC cycle the events of the producers `ps` come through the matrix to consumer
`c`. Those whose enable bit is 1 now reach it. Events of several producers count as one, with the lowest producer and the
highest hop count (R265). -/
def execEventArrive (c : Fin 64) (ps : List Nat) (same : Bool) (s : State) : Host.Outcome State Fault Refusal :=
  let r := takeFlights c ps.eraseDups s.evt.inflight
  let s := s.modEvt (fun e => { e with inflight := r.2.filter s.evtAlive })
  match r.1.filter (fun (f : EvtFlight) => s.evtEnabled c f.prod) with
  | [] => .next s
  | f :: fs =>
    let p := fs.foldl (fun m (g : EvtFlight) => min m g.prod) f.prod
    let hop := fs.foldl (fun m (g : EvtFlight) => max m g.hop) f.hop
    if !s.consRuns c then .next s
    else
      let s := s.iff (!fs.isEmpty) (fun s => (s.putB (EVT_CONS_STATUS_COINCIDENT c) true).bump (EVT_CNT_COINC c))
      .next (s.consMeet c p hop same)

/-- PENDING_ACCEPT (R264): the consumer has become free. -/
def execPendingAccept (c : Fin 64) (s : State) : Host.Outcome State Fault Refusal := .next (s.pendAccept c)

/-- SOFT (R257): producer 111 fires. -/
def execSoft (s : State) : Host.Outcome State Fault Refusal := if s.held then .next s else .next (s.produce 111 0)

/-- EVT_PULSE_END (R265): WIDTH of pulse output `k` has passed. -/
def execEvtPulseEnd (k : Fin 8) (s : State) : Host.Outcome State Fault Refusal := .next (s.endPulses 3 k)

/-! ### PWM (R509) -/

/-- PWM_PERIOD_START: PERIOD and HIGH are taken, and the pin is active for HIGH ns: for none with 0, throughout when HIGH
is at least the period. -/
def execPwmPeriodStart (k : Fin 8) (s : State) : Host.Outcome State Fault Refusal :=
  let g := s.get (GPIO_PWM_CFG_PIN k)
  let high := s.get (GPIO_PWM_HIGH_NS k)
  if !s.flag (GPIO_PWM_CFG_EN k) || !s.outCommit then .next s
  else if high = 0 then .next ((s.setPulseEnd g none).pinActive g false)
  else if max 16 (s.get (GPIO_PWM_PERIOD_NS k)) ≤ high then
    .next ((s.setPulseEnd g none).iff (s.pinDrives g) (fun s => s.pinActive g true))
  else .next (s.pulsePin g (nsT high) 4 k)

/-- PWM_HIGH_END: HIGH ns have passed. -/
def execPwmHighEnd (k : Fin 8) (s : State) : Host.Outcome State Fault Refusal := .next (s.endPulses 4 k)

end Sys2Proof.Machine
end

