-- ==== Sys2Proof/Machine/Flash.lean ====
section
/-!
DEFINITION. What persists: the flash with its boot headers and regions (R72 to R75), the OTP with its slots and rollback
counters (R91 to R96), the signatures (R471 to R473) and the update records (R479).
-/

namespace Sys2Proof.Machine

open Reg

/-! ### The flash -/

/-- An erased byte of the flash. -/
def erased : Nat → Byte := fun _ => 0xFF
/-- `n` bytes of the flash from `a` on. -/
def State.flashRd (s : State) (a n : Nat) : List Byte := cgetN erased s.mc.flash a n
/-- `k` bytes of the flash as a number. -/
def State.flashN (s : State) (a k : Nat) : Nat := ofBytes (s.flashRd a k)
/-- Bytes are programmed into the flash: a bit goes only from 1 to 0. -/
def State.flashProg (s : State) (a : Nat) (l : List Byte) : State :=
  let old := s.flashRd a l.length
  s.modMc (fun m => { m with flash := csetN erased m.flash a ((old.zip l).map (fun (b : Byte × Byte) => b.1 &&& b.2)) })
/-- A 64 KiB sector of the flash is erased. -/
def State.flashErase (s : State) (a : Nat) : State :=
  let b := a / 65536 * 65536
  s.modMc (fun m => { m with flash := ckeep (fun k => !(decide (b ≤ k) && decide (k < b + 65536))) m.flash })

/-! ### Boot headers (R73, R74, R478) -/

/-- The default flash layout (R74). The owner area reaches to the end of the flash, of 4 Gbit here (R72). -/
def flashDefault (i : Nat) : Nat × Nat := match i with
  | 0 => (0x00010000, 0x00400000)
  | 1 => (0x00410000, 0x00400000)
  | 2 => (0x00810000, 0x02000000)
  | 3 => (0x02810000, 0x02000000)
  | 4 => (0x04810000, 0x00010000)
  | 5 => (0x04820000, 0x00400000)
  | 6 => (0x05000000, 0x04000000)
  | _ => (0x09000000, 0x17000000)
/-- Whether two ranges (start, length) are apart; an empty one overlaps nothing. -/
def apart (a b : Nat × Nat) : Bool :=
  a.2 == 0 || b.2 == 0 || decide (a.1 + a.2 ≤ b.1) || decide (b.1 + b.2 ≤ a.1)
/-- Whether all of a list of ranges are apart. -/
def allApart : List (Nat × Nat) → Bool
  | [] => true
  | a :: t => t.all (apart a) && allApart t
/-- The REGIONS of a boot header. -/
def hdrRegions (l : List Byte) : List (Nat × Nat) :=
  (List.range 8).map (fun i => (bytesAt l (20 + 8 * i) 4, bytesAt l (24 + 8 * i) 4))
/-- Whether regions keep the provisos of R74: 64 KiB-aligned, no two overlap, each at least as large as its default (the
owner area has none), all within the 512 MiB that the device addresses (R72). -/
def regionsOk (l : List (Nat × Nat)) : Bool :=
  l.all (fun (r : Nat × Nat) => r.1 % 65536 == 0 && decide (r.1 + r.2 ≤ 0x20000000)) && allApart l &&
    (List.range 7).all (fun i => decide ((flashDefault i).2 ≤ (l.getD i (0, 0)).2))
/-- Whether the boot header copy `c` (0, 1) is valid: MAGIC, FORMAT, zeros where reserved, CRC (R73). DESIGN CHOICE: a copy
whose regions break R74 is not valid. -/
def State.hdrValid (s : State) (c : Nat) : Bool :=
  let l := s.flashRd (4096 * c) 256
  bytesAt l 0 4 == 0x48425747 && bytesAt l 4 2 == 0x0100 && bytesAt l 252 4 == crc32c (l.take 252) && bytesAt l 6 2 == 0 &&
    bytesAt l 18 2 == 0 && bytesAt l 84 168 == 0 && regionsOk (hdrRegions l)
/-- The boot header copy that wins: the one with the higher HDR_SEQ when both are valid. DESIGN CHOICE: copy 0 when the
numbers are equal, which the spec leaves open. -/
def State.hdrCopy (s : State) : Option Nat :=
  match s.hdrValid 0, s.hdrValid 1 with
  | true, true => some (if s.flashN 8 4 < s.flashN 4104 4 then 1 else 0)
  | true, false => some 0
  | false, true => some 1
  | false, false => none
/-- The boot header in force. -/
def State.hdr (s : State) : List Byte :=
  match s.hdrCopy with
  | some c => s.flashRd (4096 * c) 256
  | none => []
/-- Region `i`, in the order of R74: offset and length. -/
def State.region (s : State) (i : Nat) : Nat × Nat :=
  match s.hdrCopy with
  | some c => (s.flashN (4096 * c + 20 + 8 * i) 4, s.flashN (4096 * c + 24 + 8 * i) 4)
  | none => flashDefault i
/-- ACTIVE_FW and ACTIVE_CL. -/
def State.activeFw (s : State) : Nat := bytesAt s.hdr 16 1 % 2
def State.activeCl (s : State) : Nat := bytesAt s.hdr 17 1 % 2
/-- A boot header copy with the bytes and the HDR_SEQ given. -/
def hdrBytes (l : List Byte) (seq fw cl : Nat) : List Byte :=
  let b := l.take 8 ++ toBytes 4 seq ++ (l.drop 12).take 4 ++ toBytes 1 fw ++ toBytes 1 cl ++ (l.drop 18).take 234
  b ++ toBytes 4 (crc32c b)
/-- A boot header copy rewritten: each copy has an erase sector of its own, so the other copy stays. -/
def State.hdrStore (s : State) (c : Nat) (l : List Byte) : State :=
  s.modMc (fun m => { m with flash := csetN erased m.flash (4096 * c) l })
/-- Firmware rewrites the boot header: the copy with the lower HDR_SEQ first, one above the other's, then the other
(R478). -/
def State.hdrRewrite (s : State) (fw cl : Nat) : State :=
  match s.hdrCopy with
  | none => s
  | some c =>
    let l := s.flashRd (4096 * c) 256
    let seq := bytesAt l 8 4
    let s := s.hdrStore (1 - c) (hdrBytes l (seq + 1) fw cl)
    s.hdrStore c (hdrBytes l (seq + 2) fw cl)

/-! ### The OTP (R91 to R96) -/

def noBits : Nat → Byte := fun _ => 0
def State.otpRd (s : State) (a n : Nat) : List Byte := cgetN noBits s.mc.otp a n
/-- Bytes of the OTP shadow, as the last power-on reset loaded it. -/
def State.shadowRd (s : State) (a n : Nat) : List Byte := cgetN noBits s.mc.shadow a n
/-- Bits of the OTP are programmed: a bit goes only from 0 to 1. -/
def State.otpProg (s : State) (a : Nat) (l : List Byte) : State :=
  let old := s.otpRd a l.length
  s.modMc (fun m => { m with otp := csetN noBits m.otp a ((old.zip l).map (fun (b : Byte × Byte) => b.1 ||| b.2)) })

/-- The kinds of OTP record: first byte, slot size, slots (R91). -/
def otpKind (k : Nat) : Nat × Nat × Nat := match k with
  | 0 => (0x040, 40, 4)
  | 1 => (0x0E0, 40, 8)
  | 2 => (0x220, 64, 4)
  | _ => (0x320, 32, 8)
def otpSlots (k : Nat) : Nat := (otpKind k).2.2
def otpAddr (k i : Nat) : Nat := (otpKind k).1 + (otpKind k).2.1 * i
def otpSize (k : Nat) : Nat := (otpKind k).2.1

/-- The state of a slot (R92). -/
inductive SlotState where
  | blank | candidate | bad | revoked
  deriving DecidableEq, Repr

/-- The state of a slot from its bytes (R92): content, CRC-32C, status byte, three zero bytes. -/
def slotState (l : List Byte) : SlotState :=
  let n := l.length - 8
  let st := bytesAt l (n + 4) 1
  if l.all (fun b => b == 0) then .blank
  else if bit st 1 then .revoked
  else if bit st 0 && bytesAt l n 4 == crc32c (l.take n) then .candidate
  else .bad
/-- The bytes of slot `i` of kind `k`, and its state. -/
def State.otpSlot (s : State) (k i : Nat) : List Byte := s.otpRd (otpAddr k i) (otpSize k)
def State.slotIs (s : State) (k i : Nat) : SlotState := slotState (s.otpSlot k i)
/-- The candidate in force in the shadow: the one in the highest slot; its bytes. -/
def State.shadowInForce (s : State) (k : Nat) : Option (List Byte) :=
  ((List.range (otpSlots k)).map (fun i => s.shadowRd (otpAddr k i) (otpSize k))).foldl
    (fun (m : Option (List Byte)) (l : List Byte) => if slotState l = .candidate then some l else m) none
/-- The blank slots of a kind. -/
def State.blankSlots (s : State) (k : Nat) : Nat :=
  ((List.range (otpSlots k)).filter (fun i => s.slotIs k i = .blank)).length
/-- The candidates of a kind: their digests (R92). -/
def State.candidates (s : State) (k : Nat) : List (List Byte) :=
  ((List.range (otpSlots k)).filter (fun i => s.slotIs k i = .candidate)).map (fun i => (s.otpSlot k i).take (otpSize k - 8))
/-- The value of a rollback counter of `n` bytes: the index of its highest bit plus one (R96). -/
def State.rollback (s : State) (a n : Nat) : Nat :=
  let x := ofBytes (s.otpRd a n)
  if x = 0 then 0 else Nat.log2 x + 1
def State.fwCtr (s : State) : Nat := s.rollback 0x420 64
def State.clCtr (s : State) : Nat := s.rollback 0x460 128
/-- GLOBAL_OTP_GEN and GLOBAL_OTP_CTR follow the OTP (R96). -/
def State.showOtp (s : State) : State :=
  let s := (((s.put GLOBAL_OTP_GEN_BOARD_LEFT (s.blankSlots 3)).put GLOBAL_OTP_GEN_REPAIR_LEFT (s.blankSlots 2)).put
    GLOBAL_OTP_GEN_OWNER_LEFT (s.blankSlots 1)).put GLOBAL_OTP_GEN_TRUST_LEFT (s.blankSlots 0)
  (s.put GLOBAL_OTP_CTR_CL_CTR s.clCtr).put GLOBAL_OTP_CTR_FW_CTR s.fwCtr
/-- A rollback counter advances to `v` (R480). -/
def State.advance (s : State) (a v : Nat) : State :=
  ((s.otpProg (a + (v - 1) / 8) [BitVec.ofNat 8 (2 ^ ((v - 1) % 8))]).showOtp).logC 0x8065 noUnit v

/-- The content of the board settings record and of the repair map in force (R94, R95). -/
def State.board (s : State) : List Byte := (s.shadowInForce 3).getD []
def State.repair (s : State) : List Byte := (s.shadowInForce 2).getD []
/-- The JTAG policy of the shadow: whether it is open, and whether it is closed (R487). -/
def State.jtagOpen (s : State) : Bool := ofBytes (s.shadowRd 32 1) == 0
def State.jtagClosed (s : State) : Bool := decide (1 < ofBytes (s.shadowRd 32 1))

/-- The units that the repair map retires show in the bitmaps (R494, R94); a bay takes its lanes and engines with it. -/
def State.loadRepair (s : State) : State :=
  let r := s.repair
  let bays := bytesAt r 12 3
  let lane := fun (l : Nat) => bit (bytesAt r 0 12) l || bit bays (l / 4)
  let eng := fun (e : Nat) => bit (bytesAt r 20 24) e || bit bays (e / 8)
  let word := fun (f : Nat → Bool) (w : Nat) => ((List.range 32).filter (fun i => f (32 * w + i))).foldl (fun a i => a + 2 ^ i) 0
  let s := (List.range 3).foldl (fun s w => s.wrN (GLOBAL_RETIRED_LANE w) (word lane w)) s
  let s := (List.range 6).foldl (fun s w => s.wrN (GLOBAL_RETIRED_ENG w) (word eng w)) s
  let s := s.wrN GLOBAL_RETIRED_BAY bays
  let s := ((s.put GLOBAL_RETIRED_MISC_SILL (bytesAt r 18 1)).put GLOBAL_RETIRED_MISC_POS (bytesAt r 16 2)).put
    GLOBAL_RETIRED_MISC_DDR (bytesAt r 15 1)
  (List.range 8).foldl (fun s k => s.iff (bit (bytesAt r 15 1) k) (fun s =>
    (s.put (DDR_STATUS_STATE k) 3).put (DDR_STATUS_CAUSE k) 5)) s

/-! ### Signatures (R471 to R473) -/

/-- The contexts of R472, in ASCII. -/
def ctxFw : List Byte := [0x50, 0x44, 0x39, 0x36, 0x32, 0x34, 0x46, 0x57]
def ctxCl : List Byte := [0x50, 0x44, 0x39, 0x36, 0x32, 0x34, 0x43, 0x4C]
def ctxKp : List Byte := [0x50, 0x44, 0x39, 0x36, 0x32, 0x34, 0x4B, 0x50]
def ctxId : List Byte := [0x50, 0x44, 0x39, 0x36, 0x32, 0x34, 0x49, 0x44]
def ctxAt : List Byte := [0x50, 0x44, 0x39, 0x36, 0x32, 0x34, 0x41, 0x54]
def ctxOt : List Byte := [0x50, 0x44, 0x39, 0x36, 0x32, 0x34, 0x4F, 0x54]

/-- A digest of 256 bits as bytes. -/
def digest (l : List Byte) : List Byte := toBytes 32 (Config.shake256 l).toNat
/-- The message that is signed (R472). -/
def signedMsg (ctx covered : List Byte) : List Byte := ctx ++ toBytes 64 (Config.shake512 covered).toNat
/-- Whether a key, whose digest is among the candidates, verifies a signature of length `n` over an object. -/
def verifies (cands : List (List Byte)) (ctx covered key sig : List Byte) (n : Nat) : Bool :=
  decide (1 ≤ n) && decide (n ≤ 1462) && cands.contains (digest key) && Config.falconVerify key (signedMsg ctx covered) (sig.take n)
/-- The same for an object with the trailer of R78: key, signature length at byte 2,048, signature. -/
def trailerOk (cands : List (List Byte)) (ctx covered trailer : List Byte) : Bool :=
  verifies cands ctx covered (trailer.take 1793) (trailer.drop 2050) (bytesAt trailer 2048 2)

/-- The checks of R75 and R473 on a firmware image in a slot of `slot` bytes. -/
def State.fwOk (s : State) (img : List Byte) (slot : Nat) : Bool :=
  let len := bytesAt img 8 4
  let load := bytesAt img 24 4
  bytesAt img 0 4 == 0x57465747 && bytesAt img 4 2 == 0x0100 && decide (len ≤ slot) && len == 64 + load + 4096 &&
    decide (4 ≤ load) && decide (load ≤ 458752) && bytesAt img 20 2 == 0x9624 && decide (bytesAt img 22 1 ≤ Config.rev.toNat) &&
    decide (s.fwCtr ≤ bytesAt img 12 4) && decide (bytesAt img 12 4 ≤ 512) &&
    trailerOk (s.candidates 0) ctxFw (img.take (len - 4096)) ((img.drop (len - 4096)).take 4096)
/-- The bytes of a firmware slot, as far as its LENGTH says; nothing without the MAGIC. -/
def State.fwSlot (s : State) (i : Nat) : List Byte :=
  let r := s.region i
  if s.flashN r.1 4 = 0x57465747 then s.flashRd r.1 (min r.2 (s.flashN (r.1 + 8) 4)) else []

/-! ### Update records (R479) -/

/-- The address of record `i` of update scratch. -/
def State.recAddr (s : State) (i : Nat) : Nat := (s.region 5).1 + 64 * i
/-- The current record: the last of the first 64 KiB that is not blank. -/
def State.curRec (s : State) : Option Nat :=
  let a := s.recAddr 0
  s.mc.flash.foldl (fun (m : Option Nat) (e : Nat × Byte) =>
    if a ≤ e.1 ∧ e.1 < a + 65536 ∧ e.2 ≠ 0xFF ∧ m.getD 0 ≤ (e.1 - a) / 64 then some ((e.1 - a) / 64) else m) none
/-- Byte `b` of the current record; 0xFF without one. -/
def State.recByte (s : State) (b : Nat) : Nat :=
  match s.curRec with
  | some i => s.flashN (s.recAddr i + b) 1
  | none => 255
/-- A byte of the current record is programmed to zero. -/
def State.recMark (s : State) (b : Nat) : State :=
  match s.curRec with
  | some i => s.flashProg (s.recAddr i + b) [0]
  | none => s
/-- A new record is written; a full sector is erased first and keeps the current record (R479). -/
def State.recNew (s : State) (l : List Byte) : State :=
  match s.curRec with
  | none => s.flashProg (s.recAddr 0) l
  | some i =>
    if i < 1023 then s.flashProg (s.recAddr (i + 1)) l
    else
      let old := s.flashRd (s.recAddr i) 64
      ((s.flashErase (s.recAddr 0)).flashProg (s.recAddr 0) old).flashProg (s.recAddr 1) l
/-- A state byte of the current record that is neither 0xFF nor left alone counts as 0x00 (R483). -/
def State.recDone (s : State) (b : Nat) : Bool := s.recByte b != 255
/-- Whether a slot is in trial (R480). -/
def State.inTrial (s : State) : Bool := s.recDone 17 && !s.recDone 18 && !s.recDone 19

end Sys2Proof.Machine
end

