-- ==== Sys2Proof/Machine/RegCore.lean ====
section
/-!
DEFINITION. How a write reaches the register map: the access types of R5, the lock of R7, registers that only the MC
writes, and the counting of refused writes (R504). What a write starts is in RegWrite.
-/

namespace Sys2Proof.Machine

open Reg

/-- Where the register of the word at `o` begins: only BASE and SIZE of DDR_RECALL_SEG are RWL registers of two words. -/
def regStart (o : Nat) : Nat :=
  if 0x1C0000 ≤ o ∧ o < 0x1C8000 ∧ o % 0x1000 / 16 = 0x30 then o / 8 * 8 else o

/-- 0x5010: a write reached a locked RWL field of the word at `o`, once per second per register (R7). DESIGN CHOICE: the
offset is the word's own, in the port area also for a write through the local view. -/
def State.lockLog (s : State) (o : Nat) : State := s.logOnce 0x5010 (regStart o) noUnit o

/-- The word that a write of `v` over `old` leaves in a row: `keep` masks the bits that some rule protects. -/
def RegRow.after (r : RegRow) (locked : Bool) (keep old v : Nat) : Nat :=
  let free := fun m => m - Nat.land m keep
  let m := free (Nat.lor r.rw (if locked then 0 else r.rwl))
  let x := Nat.lor (old - Nat.land old m) (Nat.land v m)
  let c := Nat.land x (Nat.land v r.w1c)
  Nat.lor (x - c) (Nat.land v (free r.w1s))

/-- A write of `v` to the register word at `o` of row `r`: RW and open RWL bits take the value, W1C bits written as 1
clear, W1S bits written as 1 are set. `whole`: a rule refuses the register to the master; `prot`: the bits that some
rule protects, which a write reaches when it would change them or start their action. The CAUSE of R504 comes with the
state: 2 for a locked RWL field, 3 for another rule, 0 when nothing is refused (R5, R7, R504). -/
def State.store (s : State) (o : Nat) (r : RegRow) (whole : Bool) (prot v : Nat) : State × Nat :=
  let old := s.rdN o
  let diff := Nat.xor old v
  let hitLock := s.clCommit && Nat.land diff r.rwl != 0
  let hitProt := Nat.land (Nat.land diff (Nat.lor r.rw r.rwl)) prot != 0 || Nat.land (Nat.land v (Nat.lor r.w1s r.wo)) prot != 0
  let s := s.iff hitLock (fun s => s.lockLog o)
  if whole then (s, if hitLock then 2 else 3)
  else (s.wrN o (r.after s.clCommit prot old v), if hitLock then 2 else if hitProt then 3 else 0)

/-- The same at an offset; a reserved one ignores the write (R8). -/
def State.storeAt (s : State) (o : Nat) (whole : Bool) (prot v : Nat) : State × Nat :=
  match findRow o with
  | some r => s.store o r whole prot v
  | none => (s, 0)

end Sys2Proof.Machine
end

