-- ==== Sys2Proof/Machine/Pcie.lean ====
section
/-!
DEFINITION. The host endpoint (R400 to R424): the links, the configuration space, function level reset and Bus Master
Enable, the peer windows of BAR2, and MSI-X.
-/

namespace Sys2Proof.Machine

open Reg

/-! ### Stopping and resetting a port (R20, R419, R420) -/

/-- The tags of a port's outstanding descriptor reads are held until their completions arrive (R404, R419). -/
def State.holdTags (s : State) (p : Nat) : State :=
  let ts := s.rings.filterMap (fun (r : Nat × Ring) => if r.1 % 2 == p then r.2.fetch.map (fun f => f.1) else none)
  s.modHport p (fun x => { x with late := x.late ++ ts })

/-- A port acts as R419 describes: it issues nothing more and its streams stop. -/
def State.portHalt (s : State) (p : Nat) : State :=
  let any := !(s.activeOn p).isEmpty
  ((s.holdTags p).portStop p).iff any (fun s => (s.raisePcie p (PCIE_EVENTS_BME_OFF p)).logC 0x5204 p 0)

/-- The 64 words of a port's active windows, by window and word. -/
def winWord (base : Nat → Nat → Nat) (p i : Nat) : Nat := base p (i / 4) + 4 * (i % 4)

/-- A port's active windows become the set of words given; what is not listed is zero. -/
def State.setActive (s : State) (p : Nat) (l : List (Nat × Word)) : State :=
  (List.range 64).foldl (fun s i => s.wr (winWord PCIE_WIN_ACTIVE_W0 p i) (cget (fun _ => 0) l i)) s
def State.setShadow (s : State) (p : Nat) (l : List (Nat × Word)) : State :=
  (List.range 64).foldl (fun s i => s.wr (winWord PCIE_WIN_W0 p i) (cget (fun _ => 0) l i)) s
/-- The words of a port's shadow windows. -/
def State.shadowWords (s : State) (p : Nat) : List (Nat × Word) :=
  (List.range 64).map (fun i => (i, s.rd (winWord PCIE_WIN_W0 p i)))

/-- The configuration space of a port and the 64 KiB of registers from `lo` on as at reset. -/
def State.dropConfig (s : State) (p lo : Nat) : State :=
  { s with
    cfg := ckeep (fun k => k / 4096 != p) s.cfg,
    regs := ckeep (fun k => !(decide (lo ≤ k) && decide (k < lo + 0x10000))) s.regs }

/-- A port's configuration space, MSI-X table and PCIE_IRQ_EN return to their reset values, and its windows to the set
committed at stage 5 (R420). -/
def State.portFresh (s : State) (p : Nat) : State :=
  let s := s.dropConfig p (MSIX_ADDR p 0)
  let s := ((s.wrN (PCIE_IRQ_EN p) 0).putB (PCIE_STATUS_BME p) false).putB (PCIE_STATUS_D3 p) false
  let s := (s.putB (PCIE_WIN_CMD_WINDOW_COMMIT p) false).putB (PCIE_WIN_STATUS_COMMIT_PENDING p) false
  let s := s.modHport p (fun x => { x with reads := [], held := [] })
  (s.setActive p (s.hport p).fixed).iff s.clCommit (fun s => s.setShadow p (s.hport p).fixed)

/-- The streams that use a port are bounded again (R402, R393). -/
def State.reboundPort (s : State) (p : Nat) : State :=
  ((List.range 256).filter (fun st => s.admitted st && s.usesPort st p)).foldl (fun s st => s.rebound st) s

/-- A port's link goes down (R20, R423): its streams stop and the port is reset. -/
def State.linkDown (s : State) (p : Nat) : State :=
  if !s.flag (PCIE_LINK_UP p) then s
  else
    let s := (((s.holdTags p).portStop p).portFresh p).wrN (PCIE_LINK p) 0
    ((s.bump (PCIE_CNT_LINKDOWN p)).raisePcie p (PCIE_EVENTS_LINK_CHANGE p)).logC 0x5202 p 0

/-- PERST_ASSERT (R68): PERST_N of a port goes low; the port is reset and its streams stop. -/
def execPerstAssert (p : Fin 2) (s : State) : Host.Outcome State Fault Refusal :=
  let s := s.linkDown p
  .next ((((s.holdTags p).portStop p).portFresh p).putB (PCIE_STATUS_PERST p) true)
/-- PERST_DEASSERT (R403, R70): PERST_N rises; an enabled port begins link training. -/
def execPerstDeassert (p : Fin 2) (s : State) : Host.Outcome State Fault Refusal :=
  .next (s.putB (PCIE_STATUS_PERST p) false)

/-! ### The link (R402, R403) -/

/-- MAX_GEN and MAX_WIDTH in lanes. -/
def State.maxGen (s : State) (p : Nat) : Nat :=
  let g := s.get (PCIE_CFG_MAX_GEN p)
  if 1 ≤ g ∧ g ≤ 6 then g else 6
def State.maxWidth (s : State) (p : Nat) : Nat := match s.get (PCIE_CFG_MAX_WIDTH p) with | 0 => 4 | 1 => 8 | _ => 16
/-- Whether a port trains its link: enabled, out of reset, PLL_PCIE locked. -/
def State.trains (s : State) (p : Nat) : Bool :=
  s.flag (PCIE_CFG_ENABLE p) && !s.flag (PCIE_STATUS_PERST p) && !s.flag (PCIE_LINK_UP p) &&
    bit (s.get GLOBAL_PLL_STATUS_LOCKED) (7 + p) && !s.held

/-- LINK_UP (R402, R423): a link comes up at speed `gen` and `w` lanes. The code of LTSSM is not stated. -/
def execLinkUp (p : Fin 2) (gen : Fin 7) (w : Fin 17) (s : State) : Host.Outcome State Fault Refusal :=
  if !s.trains p || decide (gen.val = 0) || decide (s.maxGen p < gen.val) || decide (s.maxWidth p < w.val) ||
      !decide (w.val ∈ [4, 8, 16]) then .next s
  else
    let r := s.free
    let s := r.2.wrN (PCIE_LINK p) (2 ^ 31 + 2 ^ 30 * b2n (gen == 6) + r.1 % 256 * 65536 + w * 256 + gen * 16)
    .next (((s.raisePcie p (PCIE_EVENTS_LINK_CHANGE p)).logC 0x5201 p (gen * 65536 + w)).reboundPort p)

/-- LINK_DOWN (R423). -/
def execLinkDown (p : Fin 2) (s : State) : Host.Outcome State Fault Refusal := .next (s.linkDown p)

/-- PARTNER_TOO_NARROW (R402): the partner forms only ×2 or ×1; the link stays down. -/
def execPartnerTooNarrow (p : Fin 2) (s : State) : Host.Outcome State Fault Refusal :=
  .next (s.iff (s.trains p) (fun s => s.logC 0x5203 p 0))

/-- A changed PCIE_CFG takes effect (R403). -/
def State.pcieCfgApply (s : State) (p : Nat) : State :=
  if !s.flag (PCIE_CFG_ENABLE p) then s.linkDown p
  else if s.flag (PCIE_LINK_UP p) then
    let g := min (s.get (PCIE_LINK_GEN p)) (s.maxGen p)
    ((s.put (PCIE_LINK_GEN p) g).putB (PCIE_LINK_FLIT p) (g == 6)).put (PCIE_LINK_WIDTH p)
      (min (s.get (PCIE_LINK_WIDTH p)) (s.maxWidth p))
  else s

/-- PCIE_CFG_WRITE (R403, R7): a 32-bit write of PCIE_CFG by `master`. -/
def execPcieCfgWrite (p : Fin 2) (master : Fin 3) (v : Word) (s : State) : Host.Outcome State Fault Refusal :=
  if !s.reaches master then .next (s.unreached master)
  else
    let r := s.storeAt (PCIE_CFG p) false 0 v.toNat
    .next (((r.1).pcieCfgApply p).iff (r.2 != 0) (fun s => s.badAccess master (PCIE_CFG p) r.2))

/-- The kinds of PCIE_LINK_ERROR, as AER classifies them (R423): 0 receiver error, 1 bad TLP, 2 bad DLLP, 3 replay
timeout, 4 replay rollover, 5 ECRC error, 6 malformed TLP, 7 flow control protocol error, 8 data link protocol error. An
error of the last kind retrains the link, within the ceilings of PCIE_CFG. -/
def execPcieLinkError (p : Fin 2) (kind : Fin 9) (s : State) : Host.Outcome State Fault Refusal :=
  if !s.flag (PCIE_LINK_UP p) then .next s
  else match kind.val with
    | 0 => .next (s.aerCor p 0)
    | 1 => .next (s.aerCor p 6)
    | 2 => .next (s.aerCor p 7)
    | 3 => .next (s.aerCor p 12)
    | 4 => .next (s.aerCor p 8)
    | 5 => .next (s.iff (bit (s.cfgRd p 0x118) 8) (fun s => s.aerUnc p 19))
    | 6 => .next (s.aerUnc p 18)
    | 7 => .next (s.aerUnc p 13)
    | _ => .next ((s.aerUnc p 4).pcieCfgApply p)

/-! ### FLR, Bus Master Enable and power states (R419 to R421) -/

/-- Bus Master Enable changes. -/
def State.bmeTo (s : State) (p : Nat) (b : Bool) : State :=
  if s.flag (PCIE_STATUS_BME p) = b then s
  else
    let s := s.cfgWr p 0x04 (putBits (s.cfgRd p 0x04) 2 1 (b2n b))
    if b then s.putB (PCIE_STATUS_BME p) true else (s.putB (PCIE_STATUS_BME p) false).portHalt p

/-- Whether a port takes configuration writes: its link is up and no function level reset is under way. -/
def State.cfgTakes (s : State) (p : Nat) : Bool := s.flag (PCIE_LINK_UP p) && !s.flag (PCIE_STATUS_FLR_ACTIVE p)

/-- BME_CLEAR (R419). -/
def execBmeClear (p : Fin 2) (s : State) : Host.Outcome State Fault Refusal := .next (s.iff (s.cfgTakes p) (fun s => s.bmeTo p false))
/-- BME_SET (R419): streams wait for RING_POST. -/
def execBmeSet (p : Fin 2) (s : State) : Host.Outcome State Fault Refusal := .next (s.iff (s.cfgTakes p) (fun s => s.bmeTo p true))

/-- The power state changes to D3hot or to D0; the configuration state stays. -/
def State.powerTo (s : State) (p : Nat) (d3 : Bool) : State :=
  if s.flag (PCIE_STATUS_D3 p) = d3 then s
  else
    let s := (s.cfgWr p 0x44 (putBits (s.cfgRd p 0x44) 0 2 (if d3 then 3 else 0))).putB (PCIE_STATUS_D3 p) d3
    s.iff d3 (fun s => s.portHalt p)

/-- D3HOT_ENTRY (R421). -/
def execD3hotEntry (p : Fin 2) (s : State) : Host.Outcome State Fault Refusal :=
  .next (s.iff (s.cfgTakes p) (fun s => s.powerTo p true))
/-- D0_RETURN (R421). -/
def execD0Return (p : Fin 2) (s : State) : Host.Outcome State Fault Refusal :=
  .next (s.iff (s.cfgTakes p) (fun s => s.powerTo p false))

/-- The mailbox request of a port is abandoned, with an update that it carries (R420, R483). -/
def State.mboxAbandon (s : State) (p : Nat) : State :=
  let s := s.iff (s.get (MBOX_STATUS_STATE p) == 1) (fun s => (s.mboxDone p rAborted).logC 0x5302 p 0)
  s.iff (s.get MC_UPDATE_STATUS_STATE == 1 && s.get MC_UPDATE_STATUS_PORT == p) (fun s => s.put MC_UPDATE_STATUS_STATE 0)

/-- The camera accesses of an abandoned request of port `p` go on without an answer (R420). -/
def State.orphan (s : State) (p : Nat) : State :=
  let f := fun (c : GvcpCmd) => if c.why = 10 + p then { c with why := 12 } else c
  s.eth.foldl (fun s e => s.modEth e.1 (fun x => { x with gvcp := x.gvcp.map f, access := x.access.map f })) s

/-- A function level reset of a port (R420). -/
def State.flr (s : State) (p : Nat) : State :=
  if s.flag (PCIE_STATUS_FLR_ACTIVE p) then s
  else
    let s := (s.modMc (fun m => { m with mboxLate := m.mboxLate.filter (fun q => q != p) })).orphan p
    let s := ((s.putB (PCIE_STATUS_BME p) false).portHalt p).mboxAbandon p
    let gone := (List.range 256).filter (fun st => s.admitted st && (s.strm st).mbox == some p)
    let s := (gone.foldl (fun s st => s.closeStream st) s).iff (!gone.isEmpty) State.romUpdate
    (s.portFresh p).putB (PCIE_STATUS_FLR_ACTIVE p) true

/-- FLR (R420). -/
def execFlr (p : Fin 2) (s : State) : Host.Outcome State Fault Refusal := .next (s.iff (s.cfgTakes p) (fun s => s.flr p))
/-- FLR_COMPLETE (R420): the port answers configuration requests again. -/
def execFlrComplete (p : Fin 2) (s : State) : Host.Outcome State Fault Refusal :=
  if !s.flag (PCIE_STATUS_FLR_ACTIVE p) then .next s
  else .next (((s.putB (PCIE_STATUS_FLR_ACTIVE p) false).raisePcie p (PCIE_EVENTS_FLR p)).logC 0x5205 p 0)

/-! ### Configuration requests (R400, R403) -/

/-- The writable and the W1C bits of the words of the configuration space, as the PCI Express Base Specification places
them: command, base addresses, power state, MSI-X control, device and link control, AER (R400, R405, R423). -/
def cfgMask (o : Nat) : Nat × Nat := match o with
  | 0x04 => (0x00000546, 0xF9000000)
  | 0x0C => (0x000000FF, 0)
  | 0x10 => (0xFFC00000, 0)
  | 0x14 => (0xFFFFFFFF, 0)
  | 0x1C => (0xFFFFFFF0, 0)
  | 0x30 => (0xFFF00001, 0)
  | 0x3C => (0x000000FF, 0)
  | 0x44 => (0x00000003, 0)
  | 0x50 => (0xC0000000, 0)
  | 0x78 => (0x00007FFF, 0x000F0000)
  | 0x80 => (0x00000FF8, 0)
  | 0x98 => (0x0000001F, 0)
  | 0xA0 => (0x0000FFFF, 0)
  | 0x104 => (0, 0x04FFF030)
  | 0x108 => (0x04FFF030, 0)
  | 0x10C => (0x04FFF030, 0)
  | 0x110 => (0, 0x0000F1C1)
  | 0x114 => (0x0000F1C1, 0)
  | 0x118 => (0x00000140, 0)
  | _ => (0, 0)

/-- A word of the configuration space as a read sees it: the subsystem IDs and the link's capability and status are
registers of the port. -/
def State.cfgLive (s : State) (p o : Nat) : Nat := match o with
  | 0x2C => s.rdN (PCIE_SUBSYS p)
  | 0x7C => s.maxGen p + 16 * s.maxWidth p
  | 0x80 => putBits (s.cfgRd p 0x80) 16 16 (s.get (PCIE_LINK_GEN p) + 16 * s.get (PCIE_LINK_WIDTH p))
  | _ => s.cfgRd p o

/-- The bits of the bytes that `be` enables. -/
def beMask (be : Nat) : Nat := (List.range 4).foldl (fun a i => a + (if bit be i then 255 * 256 ^ i else 0)) 0

/-- A configuration write to the word at `o`. -/
def State.cfgWrite (s : State) (p o be v : Nat) : State :=
  let en := beMask be
  let m := cfgMask o
  let old := s.cfgRd p o
  let rw := Nat.land m.1 en
  let x := Nat.lor (old - Nat.land old rw) (Nat.land v rw)
  let c := Nat.land x (Nat.land v (Nat.land m.2 en))
  let s := s.cfgWr p o (if o = 0x04 ∨ o = 0x44 then Nat.lor (x - c - Nat.land (x - c) (if o = 0x04 then 4 else 3))
    (Nat.land old (if o = 0x04 then 4 else 3)) else x - c)
  match o with
  | 0x04 => s.iff (bit en 2) (fun s => s.bmeTo p (bit v 2))
  | 0x44 => if !bit en 0 then s else if v % 4 = 3 then s.powerTo p true else if v % 4 = 0 then s.powerTo p false else s
  | 0x78 => s.iff (bit en 15 && bit v 15) (fun s => s.flr p)
  | _ => s

/-- CONFIG_REQUEST (R403): a configuration read or write of one word of a port's space, with byte enables. A port in a
function level reset does not answer until it is complete. -/
def execConfigRequest (p : Fin 2) (write : Bool) (word : Fin 1024) (be : Fin 16) (v : Word) (s : State) :
    Host.Outcome State Fault Refusal :=
  if !s.cfgTakes p then .next s
  else if write then .next ((s.cfgWrite p (4 * word) be v.toNat).emit (.completion p 0 false []))
  else .next (s.emit (.completion p 0 false (toBytes 4 (s.cfgLive p (4 * word)))))

/-! ### Peer windows (R410 to R413) -/

/-- The start and the length of a window in BAR2, and its target, from the words at `base`. -/
def State.winSpan (s : State) (base p w : Nat) : Nat × Nat × Nat :=
  let o := base + 0x4000 * p + 0x10 * w
  (getBits (s.rdN (o + 4)) 0 20 * 65536, getBits (s.rdN o) 0 21 * 65536,
    getBits (s.rdN (o + 12)) 0 7 * 2 ^ 32 + getBits (s.rdN (o + 8)) 16 16 * 65536)

/-- The active window that holds `n` bytes from offset `a` on, with the DDR4 address of the first. -/
def State.windowAt (s : State) (p a n : Nat) : Option (Nat × Nat) :=
  (List.range 16).findSome? (fun w =>
    let x := s.winSpan (PCIE_WIN_ACTIVE_W0 0 0) p w
    if s.flag (PCIE_WIN_ACTIVE_W0_EN p w) && decide (x.1 ≤ a) && decide (a + n ≤ x.1 + x.2.1) && decide (a < x.1 + x.2.1) then
      some (w, x.2.2 + (a - x.1)) else none)

/-- A request completed with Unsupported Request (R410, R421, R423). -/
def State.peerUr (s : State) (p : Nat) (r : PeerReq) : State :=
  let dw := ceilDiv (r.addr % 4 + r.data.length) 4
  let s := ((s.wr64 (PCIE_UR_ADDR p) r.addr).wrN (PCIE_UR_INFO p)
    (r.reqId % 65536 * 65536 + b2n r.write * 32768 + dw % 2048)).publishC (PCIE_UR_STATUS p)
  let s := s.urNote p r.write
  s.iff (!r.write) (fun s => s.emit (.completion p 1 false []))

/-- A request is decoded against the active windows and accepted (R410, R413): a write reaches DDR4 with the grant of
requester PEER, `bad` listing its 16-byte units whose codeword cannot be read (R355); a read waits for its data. -/
def State.peerDecode (s : State) (p : Nat) (r : PeerReq) (bad : List Nat) : State :=
  if r.write && r.ep then ((s.raisePcie p (PCIE_EVENTS_POISON p)).logC 0x5212 p 0).aerUnc p 12
  else match s.windowAt p r.addr r.data.length with
    | none => s.peerUr p r
    | some (w, a) =>
      let may := s.flag (if r.write then PCIE_WIN_ACTIVE_W0_WRITE p w else PCIE_WIN_ACTIVE_W0_READ p w)
      if !may || s.get (DDR_STATUS_STATE (a / 2 ^ 36 % 8)) == 3 then s.peerUr p r
      else if r.write then s.ddrPost ⟨reqPeer, p, a, r.data, bad⟩
      else (s.arbAsk (chanAt a) reqPeer).modHport p (fun x => { x with reads := x.reads ++ [{ r with addr := a }] })

/-- PEER_REQUEST (R401, R410, R412, R413): a request to BAR2 at byte offset `addr`, by `kind` a read (0), a write (1) or an
AtomicOp (2), which no BAR takes; `data` holds the enabled bytes of a write, and for a read as many entries as it asks for.
While a switch of windows is pending it is held. -/
def execPeerRequest (p : Fin 2) (kind : Fin 3) (addr : Nat) (data : List (Option Byte)) (reqId tag : Nat) (ep : Bool)
    (bad : List Nat) (s : State) : Host.Outcome State Fault Refusal :=
  let r : PeerReq := ⟨kind == 1, addr, data, reqId, tag, ep⟩
  if !s.cfgTakes p then .next s
  else if kind = 2 then .next ((s.aerUnc p 20).emit (.completion p 1 false []))
  else if s.flag (PCIE_STATUS_D3 p) then .next (s.peerUr p r)
  else if s.flag (PCIE_WIN_STATUS_COMMIT_PENDING p) then .next (s.modHport p (fun x => { x with held := x.held ++ [r] }))
  else .next (s.peerDecode p r bad)

/-- The completions of a read: 64-byte-aligned parts in address order; those in `bad` (by 64-byte unit of the read) carry
EP (R413). -/
def State.peerComplete (s : State) (p : Nat) (r : PeerReq) (bad : List Nat) : State :=
  let a := r.addr
  let e := a + r.data.length
  let dead := s.get (DDR_STATUS_STATE (a / 2 ^ 36 % 8)) == 3
  (List.range (ceilDiv (a % 64 + r.data.length) 64)).foldl (fun s i =>
    let lo := max a (a / 64 * 64 + 64 * i)
    let hi := min e (a / 64 * 64 + 64 * (i + 1))
    s.emit (.completion p 0 (dead || decide (i ∈ bad)) (s.ddrRd lo (hi - lo)))) s

/-- PEER_READ_COMPLETE (R413): the data of the `i`-th outstanding read of BAR2 returns, once PEER has been granted its
channel (R16). -/
def execPeerReadComplete (p : Fin 2) (i : Nat) (bad : List Nat) (s : State) : Host.Outcome State Fault Refusal :=
  match (s.hport p).reads[i]? with
  | none => .next s
  | some r =>
    if s.arbWaits (chanAt r.addr) reqPeer then .next s
    else .next ((s.ddrLand.modHport p (fun x => { x with reads := x.reads.eraseIdx i })).peerComplete p r bad)

/-- What is wrong with shadow window `w` of port `p` (R411), by ERR_CAUSE; 0 when nothing is. -/
def State.winCause (s : State) (p w : Nat) : Nat :=
  let x := s.winSpan (PCIE_WIN_W0 0 0) p w
  let k := x.2.2 / 2 ^ 36 % 8
  let off := x.2.2 % 2 ^ 36
  let over_ := (List.range 16).any (fun v => v != w && s.flag (PCIE_WIN_W0_EN p v) &&
    (let y := s.winSpan (PCIE_WIN_W0 0 0) p v; decide (x.1 < y.1 + y.2.1) && decide (y.1 < x.1 + x.2.1)))
  let kerf := (List.range 96).any (fun l => decide (0 < s.get (KERF_CFG_DELAY_LINES l)) &&
    (let b := s.rd64 (KERF_BASE l)
     decide (x.2.2 < b + s.get (KERF_CFG_DEPTH l) * s.get (KERF_SLOT_SLOT_BYTES l)) && decide (b < x.2.2 + x.2.1)))
  if 2 ^ 36 < x.1 + x.2.1 then 1
  else if over_ then 2
  else if x.2.1 = 0 then 3
  else if s.ddrGib k * 2 ^ 30 < off + x.2.1 then 4
  else if s.get (DDR_STATUS_STATE k) = 3 then 5
  else if kerf then 6
  else 0

/-- WINDOW_COMMIT of a port (R411). -/
def State.windowCommit (s : State) (p : Nat) : State :=
  match (List.range 16).find? (fun w => s.flag (PCIE_WIN_W0_EN p w) && s.winCause p w != 0) with
  | some w =>
    let c := s.winCause p w
    let s := ((s.put (PCIE_WIN_STATUS_ERR_WINDOW p) w).put (PCIE_WIN_STATUS_ERR_CAUSE p) c).putB (PCIE_WIN_CMD_WINDOW_COMMIT p) false
    (s.raisePcie p (PCIE_EVENTS_COMMIT_ERR p)).logC 0x5211 p (w * 65536 + c)
  | none => (s.putB (PCIE_WIN_CMD_WINDOW_COMMIT p) true).putB (PCIE_WIN_STATUS_COMMIT_PENDING p) true

/-- Whether `master` may write the windows of port `p` (R411): the MC, or the port's own host. -/
def ownPort (master p : Nat) : Bool := master == 0 || master == p + 1

/-- WINDOW_COMMIT: `master` writes WINDOW_COMMIT of port `p`. -/
def execWindowCommit (p : Fin 2) (master : Fin 3) (s : State) : Host.Outcome State Fault Refusal :=
  if !s.reaches master then .next (s.unreached master)
  else if !ownPort master p then .next (s.badAccess master (PCIE_WIN_CMD p) 3)
  else if s.flag (PCIE_WIN_STATUS_COMMIT_PENDING p) then .next s
  else .next (s.windowCommit p)

/-- The active set becomes the shadow set, and the held requests are decoded in arrival order (R412). -/
def State.windowSwitch (s : State) (p : Nat) (bads : List (List Nat)) : State :=
  let hs := (s.hport p).held
  let s := ((s.setActive p (s.shadowWords p)).putB (PCIE_WIN_STATUS_COMMIT_PENDING p) false).putB (PCIE_WIN_CMD_WINDOW_COMMIT p) false
  let s := s.modHport p (fun x => { x with held := [] })
  (List.range hs.length).foldl (fun s i => match hs[i]? with
    | some r => s.peerDecode p r (bads.getD i [])
    | none => s) s

/-- WINDOW_SWITCH (R412): no request of the old set is left unfinished. `bads` gives, for the held requests, the 16-byte
units whose merge meets an uncorrectable read. -/
def execWindowSwitch (p : Fin 2) (bads : List (List Nat)) (s : State) : Host.Outcome State Fault Refusal :=
  let s := s.ddrLand
  if s.flag (PCIE_WIN_STATUS_COMMIT_PENDING p) && (s.hport p).reads.isEmpty && s.ddrOut.all (fun (w : DdrWrite) => w.req != reqPeer || w.port != p)
  then .next (s.windowSwitch p bads) else .next s

/-! ### MSI-X (R415) -/

/-- MSIX_PENDING_SEND: the condition that held back the message of vector `v` has ended. -/
def execMsixPendingSend (p : Fin 2) (v : Fin 2048) (s : State) : Host.Outcome State Fault Refusal :=
  let f : Fld := ⟨MSIX_PBA p (v / 32), v % 32, 1⟩
  if s.flag f && s.msixOpen p v then .next ((s.putB f false).emit (.msix p v)) else .next s

end Sys2Proof.Machine
end

