-- ==== Sys2Proof/Machine/Sill.lean ====
section
/-!
DEFINITION. The Sill fabric and the twin masters (R425 to R456). The ports' queues and the way up and down are in
SillPath.
-/

namespace Sys2Proof.Machine

open Reg

/-! ### Ports, roles and the time parent -/

/-- The role that a port is configured for; 0 when it is not enabled or out of service. -/
def State.sillCfg (s : State) (p : Nat) : Nat :=
  if s.flag (SILL_PORT_CFG_ENABLE p) && !s.sillRetired p then s.get (SILL_PORT_CFG_ROLE p) else 0
/-- The ports configured for a role. -/
def State.sillPorts (s : State) (r : Nat) : List Nat := (List.range 4).filter (fun p => s.sillCfg p == r)
/-- Whether the node is a twin (R426). -/
def State.isTwin (s : State) : Bool := !(s.sillPorts 3).isEmpty
/-- Whether the node is a repeater (R426). -/
def State.isRepeater (s : State) : Bool := !(s.sillPorts 1).isEmpty
def State.isHolder (s : State) : Bool := s.get SILL_STATUS_ROLE == 3
def State.isStandby (s : State) : Bool := s.get SILL_STATUS_ROLE == 4
/-- The node's own claim number (R446). -/
def State.ownClaim (s : State) : Nat := s.get SILL_CFG_CLAIM
/-- Whether the firmware runs. -/
def State.fwRuns (s : State) : Bool := s.mc.fwOn && !s.power.mcDown && !s.held

/-- Entry to a state of R427. -/
def State.toSill (s : State) (p st : Nat) : State :=
  (s.put (SILL_PORT_STATUS_STATE p) st).modSport p (fun x => { x with since := s.tb.ticks })
/-- Whether a port has been in its state for `ns` nanoseconds. -/
def State.sillStayed (s : State) (p ns : Nat) : Bool := decide ((s.sport p).since + ns ≤ s.tb.ticks)

/-- The time parent (R435). A standby without its TWIN port takes a port whose partner's CECHO names a claim. -/
def State.timeParent (s : State) : Option Nat :=
  if s.get SILL_STATUS_ROLE == 2 then s.selectedUp
  else if s.isStandby then
    match (List.range 4).find? (fun p => s.sillOpen 3 p) with
    | some p => some p
    | none => (List.range 4).find? (fun p => s.sillOpen 2 p && s.flag (SILL_PORT_STATUS_PARTNER_LOCKED p) &&
        (match (s.sport p).cecho with | some c => decide (c ≠ 0) | none => false))
  else none

/-- NO_PARENT and TIME_PARENT follow the time parent; a change is logged (R435). -/
def State.showParent (s : State) : State :=
  let q := s.timeParent
  let s := (s.putB SILL_STATUS_NO_PARENT q.isNone).put SILL_STATUS_TIME_PARENT (q.getD 0)
  if q = s.sill.lastParent then s
  else (s.modSill (fun x => { x with lastParent := q })).logC 0x6012 (q.getD noUnit) 0

/-- TIME_LOCKED set or cleared (R436). -/
def State.setLocked (s : State) (b : Bool) : State :=
  if s.flag SILL_STATUS_TIME_LOCKED = b then s
  else (s.putB SILL_STATUS_TIME_LOCKED b).raise 10 SILL_EVENTS_LOCK_CHANGE

/-- HEALTHY (R450): time locked or HOLDER; every publishing channel warm with D_align at rest for a second; every DOWN
port ACTIVE (below a twin they all face repeaters of depth 1); and the firmware runs. -/
def State.healthyNow (s : State) : Bool :=
  s.fwRuns && s.isTwin && (s.flag SILL_STATUS_TIME_LOCKED || s.isHolder) &&
    s.publishers.all (fun (k : Nat × Nat) => s.flag (POS_STATUS_WARM k.2) && (match (s.pch k.2).alignMoved with
      | some t => decide (t + 1000000000 ≤ s.tb.ticks)
      | none => true)) &&
    (s.sillPorts 2).all (fun p => s.sillState p == 4)
/-- HEALTHY follows its conditions. -/
def State.showHealth (s : State) : State :=
  let h := s.healthyNow
  (s.putB SILL_STATUS_HEALTHY h).modSill (fun x => { x with healthySince := if h then some (x.healthySince.getD s.tb.ticks) else none })

/-- A port leaves ACTIVE (R427). The number that 0x6002 carries for its cause is not stated. -/
def State.sillLeave (s : State) (p st : Nat) : State :=
  let was := s.sillState p
  let s := (s.toSill p st).modSport p (fun x => { SillPort.reset with since := x.since, syncSeq := x.syncSeq, probeNum := x.probeNum })
  if was = 4 then
    let f := s.free
    (((f.2.bump (SILL_CNT_DOWN p)).raise 10 (SILL_EVENTS_PORT_DOWN.sub p)).logC 0x6002 p f.1).showParent
  else s

/-- The enabled ports leave OFF and the node takes its role: this is done when LINK_RELEASE is set (R427, R426). -/
def State.sillStart (s : State) : State :=
  let up := s.isRepeater
  let role := if (List.range 4).all (fun p => s.sillCfg p == 0) then 0 else if up then 2 else if s.isTwin then 4 else 1
  let s := (List.range 4).foldl (fun s p => s.iff (s.sillCfg p != 0 && s.sillState p == 0) (fun s =>
    (s.put (SILL_PORT_STATUS_ROLE p) (s.sillCfg p)).toSill p 1)) s
  let s := (s.put SILL_STATUS_ROLE role).modSill (fun x => { x with released := s.tb.ticks })
  (s.iff (role == 1) (fun s => s.setLocked true)).showParent

/-! ### Links (R427, R428) -/

/-- SILL_BLOCK_LOCK. -/
def execSillBlockLock (p : Fin 4) (s : State) : Host.Outcome State Fault Refusal :=
  if s.sillState p = 1 then .next ((s.toSill p 2).modSport p (fun x => { x with hellos := 0 })) else .next s

/-- SILL_LINK_LOSS: LOS, LOL or loss of block lock. -/
def execSillLinkLoss (p : Fin 4) (s : State) : Host.Outcome State Fault Refusal :=
  if s.sillState p = 4 then .next (s.sillLeave p 1) else .next s

/-- The HELLO frame of port `p` (R430). -/
def State.helloFrame (s : State) (p : Nat) : SillTx where
  cls := 1
  isEvent := false
  ownSched := false
  blocks := [sillC 0x20 (toBytes 2 s.nodeId ++ toBytes 1 (s.sillRole p) ++ toBytes 1 (s.get SILL_STATUS_DEPTH) ++
      toBytes 1 (b2n s.isTwin + 2 * b2n s.isHolder + 4 * b2n (s.flag SILL_STATUS_TIME_LOCKED)) ++ toBytes 1 0x10),
    sillD (toBytes 2 s.ownClaim)]

/-- HELLO_SEND: in HELLO and FAULT, and every 1 ms in ACTIVE. -/
def execHelloSend (p : Fin 4) (s : State) : Host.Outcome State Fault Refusal :=
  let st := s.sillState p
  if st = 2 ∨ st = 4 ∨ st = 5 then .next (s.sillTx p (s.helloFrame p)) else .next s

/-- The check of R428 on a partner's role, depth, node ID and VERSION; 0 when it passes. -/
def State.helloCause (s : State) (p role depth node ver : Nat) : Nat :=
  let r := s.sillRole p
  if !(r == 1 && role == 2 || r == 2 && role == 1 || r == 3 && role == 3) then 1
  else if decide (r = 1 ∧ 7 ≤ depth) || decide (r = 2 ∧ 7 ≤ s.get SILL_STATUS_DEPTH) ||
    (r == 1 && decide (1 < (s.sillPorts 1).length) && depth != 0) then 2
  else if node = s.nodeId then 3
  else if ver ≠ 0x10 then 4 else 0

/-- Byte `i` of block `k` of a frame. -/
def fByte (bs : List (Bool × Block)) (k i : Nat) : Nat := blockByte (bs.getD k (true, 0)).2 i
/-- `n` bytes of block `k` of a frame from byte `i` on, as a number. -/
def fNum (bs : List (Bool × Block)) (k i n : Nat) : Nat := getBits (bs.getD k (true, 0)).2.toNat (8 * i) (8 * n)
/-- Whether a frame has TYPE `t` and `n` blocks. -/
def isFrame (bs : List (Bool × Block)) (t n : Nat) : Bool := fByte bs 0 0 == t && bs.length == n

/-- The TYPEs of R430. -/
def sillTypes : List Nat :=
  [0x10, 0x20, 0x21, 0x22, 0x30, 0x40, 0x41, 0x50, 0x58, 0x60, 0x61, 0x62, 0x70]
/-- A frame that no rule of the command takes: one of another TYPE than R430 gives is discarded and counted with the CRC
errors. -/
def State.strange (s : State) (p type : Nat) : State :=
  s.iff (decide (2 ≤ s.sillState p) && !sillTypes.contains type) (fun s => s.sillDiscard p)

/-- The second matching HELLO frame: the port measures; an UP port takes its depth from the partner, and is single-homed
when it is the only one and the partner says so. -/
def State.helloDone (s : State) (p depth : Nat) (alone : Bool) : State :=
  let s := (s.toSill p 3).modSport p (fun x => { x with hellos := 0, results := [], probeOut := none })
  let s := s.iff (s.sillRole p == 1) (fun s => s.put SILL_STATUS_DEPTH (depth + 1))
  let single := s.sillRole p == 1 && decide ((s.sillPorts 1).length = 1) && alone
  let s := s.iff (s.sillRole p == 1) (fun s => s.putB SILL_STATUS_SINGLE_HOMED single)
  s.iff (single && !s.sill.singleLogged) (fun s => (s.modSill (fun x => { x with singleLogged := true })).logC 0x6005 p 0)

/-- HELLO_RECEIVE: in HELLO the frame is checked; the second that matches ends the state. In ACTIVE it renews what is
known of the partner. -/
def execHelloReceive (p : Fin 4) (bs : List (Bool × Block)) (s : State) : Host.Outcome State Fault Refusal :=
  let st := s.sillState p
  if !isFrame bs 0x20 2 || !(st == 2 || st == 4) then .next (s.strange p (fByte bs 0 0))
  else if !frameOk bs then .next (s.sillDiscard p)
  else
    let s := (s.put (SILL_PORT_STATUS_PARTNER_ID p) (fNum bs 0 1 2)).put (SILL_PORT_STATUS_PARTNER_DEPTH p) (fByte bs 0 4)
    if st = 4 then .next s
    else
      let c := s.helloCause p (fByte bs 0 3) (fByte bs 0 4) (fNum bs 0 1 2) (fByte bs 0 6)
      if c ≠ 0 then .next (((s.put (SILL_PORT_STATUS_FAULT_CAUSE p) c).toSill p 5).logC 0x6003 p c)
      else if (s.sport p).hellos = 0 then .next (s.modSport p (fun x => { x with hellos := 1 }))
      else .next (s.helloDone p (fByte bs 0 4) (bit (fByte bs 0 5) 0))

/-- HELLO_TIMEOUT: 10 ms without two matching HELLO frames. -/
def execHelloTimeout (p : Fin 4) (s : State) : Host.Outcome State Fault Refusal :=
  if s.sillState p = 2 ∧ s.sillStayed p 10000000 then .next (s.sillLeave p 1) else .next s

/-- MEASURE_TIMEOUT: L is not published within 10 ms. -/
def execMeasureTimeout (p : Fin 4) (s : State) : Host.Outcome State Fault Refusal :=
  if s.sillState p = 3 ∧ s.sillStayed p 10000000 then .next (s.sillLeave p 1) else .next s

/-- FAULT_HOLD_EXPIRY: 1 s in FAULT. -/
def execFaultHoldExpiry (p : Fin 4) (s : State) : Host.Outcome State Fault Refusal :=
  if s.sillState p = 5 ∧ s.sillStayed p 1000000000 then .next (s.sillLeave p 1) else .next s

/-! ### Hop latency and time (R433, R434) -/

/-- An egress stamp of port `p`, in 2^-16 ns, less EG_ASYM (R249, R250): its place within the tick is a free value. -/
def State.sillEgress (s : State) (p : Nat) : Int × State :=
  let r := s.txStamp
  (r.1 - sext 32 (s.rdN (TB_SILL_EG_ASYM p)) * 256, r.2)
/-- The stamp of what arrived `ago` (2^-16 ns) before now, less IN_ASYM. -/
def State.sillIngress (s : State) (p ago : Nat) : Int := s.nowI - ago - sext 32 (s.rdN (TB_SILL_IN_ASYM p)) * 256

/-- SILL_PROBE_SEND: the PROBE leaves now. -/
def execSillProbeSend (p : Fin 4) (s : State) : Host.Outcome State Fault Refusal :=
  let st := s.sillState p
  if st = 3 ∨ st = 4 then
    let n := ((s.sport p).probeNum + 1) % 256
    let r := s.sillEgress p
    .next ((r.2.modSport p (fun x => { x with probeNum := n, probeOut := some r.1 })).emit
      (.sill p (blockBytes (sillC 0x21 (toBytes 1 n)).2)))
  else .next s

/-- PROBE_RECEIVE: the PECHO leaves `turn` (1/256 ns) after the PROBE came, at the balls; TURN is the difference of the two
stamps, so it has EG_ASYM taken from it and IN_ASYM, taken from the ingress stamp, added (R250, R433). -/
def execProbeReceive (p : Fin 4) (b : Block) (turn : Nat) (s : State) : Host.Outcome State Fault Refusal :=
  let st := s.sillState p
  if blockByte b 0 ≠ 0x21 ∨ ¬ (st = 3 ∨ st = 4) then .next (s.strange p (blockByte b 0))
  else if !checkOk b then .next (s.sillDiscard p)
  else .next (s.emit (.sill p (blockBytes (sillC 0x22 (toBytes 1 (blockByte b 1) ++ toBytes 4
    (trunc 32 (turn - sext 32 (s.rdN (TB_SILL_EG_ASYM p)) + sext 32 (s.rdN (TB_SILL_IN_ASYM p)))))).2)))

/-- L and SPREAD of the last 16 results, in 1/256 ns (R433). -/
def State.publishHop (s : State) (p : Nat) (rs : List Int) : State :=
  let sum := rs.foldl (fun (a r : Int) => a + r) 0
  let mx := rs.foldl max (rs.headD 0)
  let mn := rs.foldl min (rs.headD 0)
  let l := roundDiv sum rs.length
  let s := ((s.wrN (SILL_LAT_L p) (trunc 32 l)).put (SILL_LAT_SPREAD_SPREAD p) (min 65535 (mx - mn).toNat)).publish (SILL_LAT_STATUS p)
  let long := decide (10240 < l)
  let new := long && !s.flag (SILL_PORT_STATUS_LONG_HOP p)
  (s.putB (SILL_PORT_STATUS_LONG_HOP p) long).iff new (fun s => s.logC 0x6004 p 0)

/-- A port becomes ACTIVE (R427). -/
def State.sillActive (s : State) (p : Nat) : State :=
  let l := min 65535 (s.rdN (SILL_LAT_L p))
  (((s.toSill p 4).raise 10 (SILL_EVENTS_PORT_UP.sub p)).logC 0x6001 p
    (s.get (SILL_PORT_STATUS_PARTNER_ID p) * 65536 + l)).showParent

/-- PECHO_RECEIVE: one result, L = (T_in − T_out − TURN) / 2; the sixteenth ends MEASURE. -/
def execPechoReceive (p : Fin 4) (b : Block) (ago : Nat) (s : State) : Host.Outcome State Fault Refusal :=
  let st := s.sillState p
  if blockByte b 0 ≠ 0x22 ∨ ¬ (st = 3 ∨ st = 4) then .next (s.strange p (blockByte b 0))
  else if !checkOk b then .next (s.sillDiscard p)
  else match (s.sport p).probeOut with
    | none => .next s
    | some t =>
      if (s.sport p).probeNum ≠ blockByte b 1 then .next s
      else
        let r := roundDiv (s.sillIngress p ago - t - getBits b.toNat 16 32 * 256) 512
        let rs := (s.sport p).results ++ [r]
        let rs := rs.drop (rs.length - 16)
        let s := s.modSport p (fun x => { x with probeOut := none, results := rs })
        if rs.length < 16 then .next s
        else
          let s := s.publishHop p rs
          .next (s.iff (st == 3) (fun s => s.sillActive p))

/-- SYNC_SEND: the SYNC leaves now and carries its egress time. -/
def execSyncSend (p : Fin 4) (s : State) : Host.Outcome State Fault Refusal :=
  if s.sillState p = 4 then
    let r := s.sillEgress p
    let s := r.2
    let t := r.1.toNat
    let bs := [sillC 0x30 (toBytes 1 (s.sport p).syncSeq ++ toBytes 1 (s.get TB_QUALITY_CLASS) ++
        toBytes 1 (b2n (s.flag SILL_STATUS_TIME_LOCKED)) ++ toBytes 2 (s.get SILL_STATUS_CARRIED)),
      sillD (toBytes 4 (timeNs t) ++ toBytes 2 (t % 65536)), sillD (toBytes 6 (timeSec t))]
    .next ((s.modSport p (fun x => { x with syncSeq := (x.syncSeq + 1) % 256 })).emit
      (.sill p (bs.flatMap (fun (b : Bool × Block) => blockBytes b.2))))
  else .next s

/-- SYNC_RECEIVE: θ = T_rx − T_SYNC − L, published with the mean of the last 100. -/
def execSyncReceive (p : Fin 4) (bs : List (Bool × Block)) (ago : Nat) (s : State) : Host.Outcome State Fault Refusal :=
  if !isFrame bs 0x30 3 || s.sillState p != 4 then .next (s.strange p (fByte bs 0 0))
  else if !frameOk bs then .next (s.sillDiscard p)
  else
    let t : Int := (fNum bs 2 0 6 * 1000000000 + fNum bs 1 0 4) * 65536 + fNum bs 1 4 2
    let th := s.sillIngress p ago - t - sext 32 (s.rdN (SILL_LAT_L p)) * 256
    let ths := (s.sport p).thetas ++ [th]
    let ths := ths.drop (ths.length - 100)
    let mean := roundDiv (ths.foldl (fun (a r : Int) => a + r) 0) ths.length
    let s := (s.modSport p (fun x => { x with thetas := ths, syncAt := s.tb.ticks })).putB (SILL_PORT_STATUS_PARTNER_LOCKED p) (bit (fByte bs 0 3) 0)
    .next (((s.wrS (SILL_OFS_THETA p) th).wrS (SILL_OFS_MEAN p) mean).publishC (SILL_OFS_STATUS p)).showParent

/-! ### The servo (R436) -/

/-- Firmware finds the node locked. -/
def State.lockTime (s : State) : State :=
  if s.flag SILL_STATUS_TIME_LOCKED then s else ((s.setLocked true).put TB_QUALITY_CLASS 3).logC 0x6010 noUnit 0
/-- Firmware finds the node unlocked, or without SYNC. -/
def State.unlockTime (s : State) : State := ((s.setLocked false).put TB_QUALITY_CLASS 1).logC 0x6011 noUnit 0

/-- The lock counters after a reading within LOCK, or beyond it. -/
def State.judgeLock (s : State) (within_ : Bool) : State :=
  let s := s.modSill (fun x => { x with
    inLock := if within_ then min 16 (x.inLock + 1) else 0, outLock := if within_ then 0 else min 4 (x.outLock + 1) })
  if within_ then s.iff (decide (16 ≤ s.sill.inLock)) State.lockTime
  else s.iff (decide (4 ≤ s.sill.outLock) && s.flag SILL_STATUS_TIME_LOCKED) State.unlockTime

/-- What a command of the time base, whose outcome is always a next state, leaves. -/
def State.done (s : State) (o : Host.Outcome State Fault Refusal) : State :=
  match o with
  | .next t => t
  | _ => s

/-- The rate and the slew of the servo for the mean `m`. -/
def State.servoSlew (s : State) (m : Int) : State :=
  let f := s.free
  let s := f.2.done (execTbIncrWrite true f.1 f.2)
  s.done (execSlewStart (BitVec.ofNat 32 (trunc 32 (clampInt (-0x7FFFFFFF) 0x7FFFFFFF (-m)))) s)

/-- TIME_SERVO: m is the mean θ of the time parent. Before OUTPUT_COMMIT more than 1,000 ns are stepped away; otherwise
TB_INCR takes the value of a filter that the spec does not give (a free value), and −m is slewed. -/
def execTimeServo (s : State) : Host.Outcome State Fault Refusal :=
  match s.timeParent with
  | none => .next s
  | some p =>
    if !s.fwRuns || s.sillState p != 4 || (s.sport p).thetas.isEmpty then .next s
    else
      let m := s.rdS (SILL_OFS_MEAN p)
      if !s.outCommit && decide (nsT 1000 < m.natAbs) then
        let s := (s.wrS TB_STEP (-m)).tbStep false true
        let s := s.modSill (fun x => { x with inLock := 0, outLock := 0 })
        .next ((s.modSport p (fun x => { x with thetas := [] })).iff (s.flag SILL_STATUS_TIME_LOCKED) State.unlockTime)
      else
        let s := s.servoSlew m
        .next ((s.judgeLock (decide (m.natAbs ≤ s.get SILL_TIME_CFG_LOCK * 4096))).showHealth)

/-- SYNC_TIMEOUT: no SYNC from the time parent for 10 ms; holdover. -/
def execSyncTimeout (s : State) : Host.Outcome State Fault Refusal :=
  let silent := match s.timeParent with
    | some p => decide (max (s.sport p).syncAt (s.sport p).since + 10000000 ≤ s.tb.ticks)
    | none => false
  if !silent || !s.fwRuns then .next s
  else .next ((s.modSill (fun x => { x with inLock := 0, outLock := 0 })).unlockTime).showHealth

/-! ### The carried claim (R446, R447) -/

/-- Whether a claim counts at the time `t` (2^-16 ns): heard within CLAIM_WINDOW, a RELEASING one before AT, a TAKING one
from AT on. -/
def State.claimCounts (s : State) (c : Claim) (t : Nat) : Bool :=
  decide (s.tb.ticks < c.heard + s.get SILL_TWIN_CFG_CLAIM_WINDOW * 1000) && (!c.releasing || decide (t < c.at_)) &&
    (!c.taking || decide (c.at_ ≤ t))

/-- The carried claim at the time `t`: the highest that counts, with the port it was last heard on. -/
def State.carriedAt (s : State) (t : Nat) : Option Claim :=
  (s.sill.claims.filter (fun (c : Claim) => s.claimCounts c t)).foldl (fun (m : Option Claim) (c : Claim) =>
    match m with
    | some d => if d.claim < c.claim then some c else m
    | none => some c) none

/-- The carried claim is evaluated again: CARRIED and SELECTED follow it, and a change is counted and logged (R447). -/
def State.carry (s : State) : State :=
  let c := s.carriedAt s.now
  let n := match c with | some c => c.claim | none => 0
  let old := s.get SILL_STATUS_CARRIED
  let s := (List.range 4).foldl (fun s p => s.putB (SILL_PORT_STATUS_SELECTED p)
    (match c with | some c => c.port == p | none => false)) s
  let s := s.put SILL_STATUS_CARRIED n
  (s.iff (n != old) (fun s => ((s.bump SILL_CNT_CARRIED_CHANGE).raise 10 SILL_EVENTS_CARRIED_CHANGE).logC 0x6033 noUnit n)).showParent

/-- The CLAIM frame of a holder, or of a twin that takes (R446, R451). -/
def State.claimFrame (s : State) : SillTx where
  cls := 1
  isEvent := false
  ownSched := false
  blocks :=
    let rel := s.sill.swapFrames && !s.sill.swapTaker
    let tak := s.sill.swapFrames && s.sill.swapTaker
    let t := if rel || tak then s.sill.swapAt else 0
    [sillC 0x60 (toBytes 2 s.ownClaim ++ toBytes 2 s.nodeId ++ toBytes 1 (b2n rel + 2 * b2n tak)),
      sillD (toBytes 4 (timeNs t) ++ toBytes 1 (timeSec t))]

/-- CLAIM_SEND: a holder, a root without a twin, or a twin that takes sends CLAIM on every DOWN port. -/
def execClaimSend (s : State) : Host.Outcome State Fault Refusal :=
  if s.sillTurns || (s.isStandby && s.sill.swapFrames && s.sill.swapTaker) then .next (s.sillSendRole 2 s.claimFrame)
  else .next s

/-- CLAIM_RECEIVE: the claim is heard; frames of the carried claim, and TAKING frames, go down. -/
def execClaimReceive (p : Fin 4) (bs : List (Bool × Block)) (s : State) : Host.Outcome State Fault Refusal :=
  if !isFrame bs 0x60 2 || !s.sillOpen 1 p then .next (s.strange p (fByte bs 0 0))
  else if !frameOk bs then .next (s.sillDiscard p)
  else
    let n := fNum bs 0 1 2
    let port := match s.sill.claims.find? (fun (d : Claim) => d.claim == n && d.heard == s.tb.ticks) with
      | some d => min d.port p.val
      | none => p.val
    let c : Claim := ⟨n, bit (fByte bs 0 5) 0, bit (fByte bs 0 5) 1, s.nearTime 256 (fNum bs 1 0 4) 0 (fByte bs 1 4), port, s.tb.ticks⟩
    let s := (s.modSill (fun x => { x with claims := x.claims.filter (fun (d : Claim) => d.claim != n) ++ [c] })).carry
    .next (s.iff (s.get SILL_STATUS_CARRIED == n || c.taking) (fun s => s.sillSendRole 2 ⟨1, false, false, bs⟩))

/-- CLAIM_WINDOW_EXPIRY: claims that have not been heard within CLAIM_WINDOW are forgotten. -/
def execClaimWindowExpiry (s : State) : Host.Outcome State Fault Refusal :=
  .next (s.modSill (fun x => { x with claims := x.claims.filter (fun (c : Claim) =>
    decide (s.tb.ticks < c.heard + s.get SILL_TWIN_CFG_CLAIM_WINDOW * 1000)) })).carry

/-- CECHO_SEND: a repeater names its carried claim on every UP port. -/
def execCechoSend (s : State) : Host.Outcome State Fault Refusal :=
  if s.get SILL_STATUS_ROLE ≠ 2 then .next s
  else .next (s.sillSendRole 1 ⟨1, false, false, [sillC 0x61 (toBytes 2 s.nodeId ++ toBytes 2 (s.get SILL_STATUS_CARRIED) ++
    toBytes 1 (s.get SILL_STATUS_DEPTH))]⟩)

/-! ### The twins (R448 to R452) -/

/-- The channels that publish begin to be carried: D_align is applied as an offset that is no step, STEP_SEQ goes on from
the frames', and POS_STATUS shows the own observer again (R213, R447). -/
def State.takeCarried (s : State) : State :=
  s.publishers.foldl (fun s (k : Nat × Nat) =>
    if s.flag (POS_STATUS_CARRIED k.2) then s
    else
      let c := k.2
      let p := s.pch c
      let s := s.modPch c (fun p => { p with own := { p.own with
        stepSeq := if p.forced then p.force.stepSeq else p.own.stepSeq } })
      let s := match p.dAlign with
        | some d => s.offset c d none false
        | none => s
      ((((s.putB (POS_STATUS_CARRIED c) true).putB (POS_STATUS_STALE c) false).put (POS_STATUS_STEP_SEQ c) (s.pch c).own.stepSeq).setDir c
        p.own.dir).setWarm c p.own.warm) s

/-- The twin becomes HOLDER. -/
def State.becomeHolder (s : State) : State :=
  (((s.put SILL_STATUS_ROLE 3).takeCarried.setLocked true).modSill (fun x => { x with
    holdoff := none, holderSince := s.tb.ticks, echoFrom := none, echoPorts := [], echoOwn := false, echoHigher := 0, echoBad := 0 })).showParent.showHealth
/-- The twin becomes STANDBY. -/
def State.becomeStandby (s : State) : State :=
  let s := (s.put SILL_STATUS_ROLE 4).modSill (fun x => { x with healthySince := none })
  (s.publishers.foldl (fun s (k : Nat × Nat) => s.putB (POS_STATUS_CARRIED k.2) false) s).showParent.showHealth

/-- A standby twin begins its holdoff, unless CLAIM_BLOCKED forbids it to claim. -/
def State.holdoffStart (s : State) : State :=
  if s.isStandby && !s.flag SILL_STATUS_CLAIM_BLOCKED then
    s.modSill (fun x => { x with holdoff := some (x.holdoff.getD s.tb.ticks) }) else s

/-- CLAIM_BLOCKED clears; the watch of R448 applies again (R449). -/
def State.unblock (s : State) : State :=
  if s.flag SILL_STATUS_CLAIM_BLOCKED then
    let s := s.putB SILL_STATUS_CLAIM_BLOCKED false
    s.iff (s.flag SILL_STATUS_HB_LOST) State.holdoffStart
  else s

/-- Every CECHO has named 0 for CLAIM_WINDOW: CLAIM_BLOCKED clears. -/
def State.blockedCheck (s : State) : State :=
  match s.sill.echoTick with
  | some t => if s.tb.ticks < t + s.get SILL_TWIN_CFG_CLAIM_WINDOW * 1000 then s else s.unblock
  | none => s.unblock

/-- The present echo period ends: it is bad when no CECHO named the own claim and one named a higher claim; after two
in a row a HOLDER withdraws (R449). -/
def State.echoClose (s : State) : State :=
  let bad := !s.sill.echoOwn && decide (s.ownClaim < s.sill.echoHigher)
  let hi := s.sill.echoHigher
  let n := if bad then s.sill.echoBad + 1 else 0
  let s := s.modSill (fun x => { x with echoFrom := none, echoPorts := [], echoOwn := false, echoHigher := 0, echoBad := n })
  if s.isHolder && decide (2 ≤ n) then
    (((s.putB SILL_STATUS_CLAIM_BLOCKED true).raise 10 SILL_EVENTS_WITHDREW).bump SILL_CNT_WITHDRAW).logC 0x6032 noUnit hi
      |>.becomeStandby
  else s

/-- An echo period that has lasted 10 µs ends. -/
def State.echoTime (s : State) : State :=
  match s.sill.echoFrom with
  | some t => if s.tb.ticks < t + 10000 then s else s.echoClose
  | none => s

/-- A CECHO that names the claim `n` is heard on port `p` (R447 to R449): a swap that waited for it is done, and the echo
period ends when every ACTIVE DOWN port has echoed. -/
def State.cechoHeard (s : State) (p n : Nat) : State :=
  let s := s.echoTime
  let gap := decide (s.sill.echoLast + 20000 < s.tb.ticks)
  let s := (s.modSport p (fun x => { x with cecho := some n })).modSill (fun x => { x with
    echoFrom := some (x.echoFrom.getD s.tb.ticks), echoPorts := (p :: x.echoPorts).eraseDups,
    echoOwn := x.echoOwn || n == s.ownClaim, echoHigher := max x.echoHigher n, echoBad := if gap then 0 else x.echoBad,
    echoLast := s.tb.ticks, echoTick := if n = 0 then x.echoTick else some s.tb.ticks })
  let s := s.iff (s.sill.swapWait == some n) (fun s => (((s.modSill (fun x => { x with swapWait := none })).raise 10
    SILL_EVENTS_SWAPPED).bump SILL_CNT_SWAP).logC 0x6034 noUnit 0)
  s.iff (((List.range 4).filter (fun q => s.sillOpen 2 q)).all (fun q => s.sill.echoPorts.contains q)) State.echoClose

/-- CECHO_RECEIVE: on a DOWN port. An echo period ends when every ACTIVE DOWN port has sent its CECHO, or after 10 µs. -/
def execCechoReceive (p : Fin 4) (b : Block) (s : State) : Host.Outcome State Fault Refusal :=
  if blockByte b 0 ≠ 0x61 || !s.sillOpen 2 p then .next (s.strange p (blockByte b 0))
  else if !checkOk b then .next (s.sillDiscard p)
  else .next (s.cechoHeard p (getBits b.toNat 24 16)).blockedCheck.showParent

/-- A swap is refused or abandoned (R451). The number that 0x6035 carries for the cause is not stated. -/
def State.swapRefused (s : State) : State :=
  let f := s.free
  ((f.2.raise 10 SILL_EVENTS_SWAP_REFUSED).bump SILL_CNT_SWAP_REFUSED).logC 0x6035 noUnit f.1

/-- A swap is agreed for the instant `t`. -/
def State.swapAgreed (s : State) (t : Nat) : State :=
  ((s.modSill (fun x => { x with swapAsked := false, swapAt := t, swapTaker := s.isStandby, swapFrames := false })).wrTime
    SILL_SWAP_AT t).putB SILL_STATUS_SWAP_PENDING true

/-- Whether an instant lies less than 200 µs ahead. -/
def State.tooNear (s : State) (t : Nat) : Bool := decide ((t : Int) < s.nowI + nsT 200000)

/-- A swap is proposed: T_swap is a whole microsecond at least SWAP_LEAD ahead (R451). -/
def State.propose (s : State) : State :=
  if s.flag SILL_STATUS_SWAP_PENDING then s.swapRefused
  else
    let t := ceilDiv (s.now + s.get SILL_TWIN_CFG_SWAP_LEAD * 100000 * 65536) (1000 * 65536) * (1000 * 65536)
    s.modSill (fun x => { x with swapAsked := true, swapAt := t })

/-- The BEAT frame (R450, R451): claim, role, health, and a swap's request or answer with its instant. -/
def State.beatFrame (s : State) : SillTx :=
  let req := s.sill.swapAsked && s.flag SILL_CMD_SWAP_REQ
  let fl := b2n (s.flag SILL_STATUS_HEALTHY) + 2 * b2n (s.get SILL_CFG_TWIN_ROLE == 1) + 4 * b2n req +
    8 * b2n (s.sill.swapAnswer == 1) + 16 * b2n (s.sill.swapAnswer == 2)
  let t := if req || s.sill.swapAnswer != 0 then s.sill.swapAt else 0
  ⟨1, false, false, [sillC 0x62 (toBytes 2 s.ownClaim ++ toBytes 1 (b2n s.isHolder) ++ toBytes 1 fl),
    sillD (toBytes 4 (timeNs t) ++ toBytes 1 (timeSec t))]⟩

/-- BEAT_SEND: on the TWIN port, with a swap's request and answer. -/
def execBeatSend (s : State) : Host.Outcome State Fault Refusal :=
  if !s.isTwin || !(List.range 4).any (fun p => s.sillOpen 3 p) then .next s
  else
    let s := s.showHealth
    .next (((s.sillSendRole 3 s.beatFrame).modSill (fun x => { x with swapAnswer := 0 })).putB SILL_CMD_SWAP_REQ false)

/-- The twin's request for a swap at `t` is answered (R451). -/
def State.swapRequested (s : State) (t : Nat) : State :=
  if s.flag SILL_STATUS_SWAP_PENDING then (s.modSill (fun x => { x with swapAnswer := 2 })).swapRefused
  else if s.healthyNow && !s.flag SILL_STATUS_HB_LOST && !s.tooNear t then
    (s.swapAgreed t).modSill (fun x => { x with swapAnswer := 1 })
  else (s.modSill (fun x => { x with swapAnswer := 2, swapAt := t })).swapRefused

/-- The twin's answer to this twin's proposal (R451). An agreement that comes too late is abandoned, and the twin is told
so by SWAP_ABORT; a twin that is told so of the swap it has agreed to abandons it too. -/
def State.swapAnswered (s : State) (ack : Bool) (t : Nat) : State :=
  if !s.sill.swapAsked then
    s.iff (!ack && s.flag SILL_STATUS_SWAP_PENDING && t == s.sill.swapAt) (fun s =>
      (((s.putB SILL_STATUS_SWAP_PENDING false).wrTime SILL_SWAP_AT 0).modSill (fun x => { x with swapFrames := false })).swapRefused)
  else if ack && t == s.sill.swapAt then
    if s.tooNear t then (s.modSill (fun x => { x with swapAsked := false, swapAnswer := 2 })).swapRefused else s.swapAgreed t
  else (s.modSill (fun x => { x with swapAsked := false })).swapRefused

/-- A BEAT is heard (R450): the twin's claim, health and role, and the heartbeat is there. -/
def State.beatHeard (s : State) (bs : List (Bool × Block)) : State :=
  let holder := fByte bs 0 3 == 1
  let s := s.modSill (fun x => { x with
    beatTick := some s.tb.ticks, holderTick := if holder then some s.tb.ticks else x.holderTick,
    holdoff := if holder then none else x.holdoff })
  let s := ((((s.put SILL_TWIN_STATUS_TWIN_CLAIM (fNum bs 0 1 2)).putB SILL_TWIN_STATUS_TWIN_HEALTHY (bit (fByte bs 0 4) 0)).putB
    SILL_TWIN_STATUS_TWIN_HOLDER holder).putB SILL_TWIN_STATUS_BEAT_OK true).putB SILL_STATUS_HB_LOST false
  s.putB SILL_STATUS_CLAIM_BLOCKED false

/-- BEAT_RECEIVE: heartbeat, claim, role and health of the twin, and the negotiation of a swap. -/
def execBeatReceive (p : Fin 4) (bs : List (Bool × Block)) (s : State) : Host.Outcome State Fault Refusal :=
  if !isFrame bs 0x62 2 || !s.sillOpen 3 p then .next (s.strange p (fByte bs 0 0))
  else if !frameOk bs then .next (s.sillDiscard p)
  else
    let fl := fByte bs 0 4
    let t := s.nearTime 256 (fNum bs 1 0 4) 0 (fByte bs 1 4)
    let s := (s.beatHeard bs).iff (bit fl 2) (fun s => s.swapRequested t)
    .next ((s.iff (bit fl 3 || bit fl 4) (fun s => s.swapAnswered (bit fl 3) t)).showHealth)

/-- TWIN_WATCH_START: once the TWIN port is ACTIVE, or 100 ms after LINK_RELEASE. -/
def execTwinWatchStart (s : State) : Host.Outcome State Fault Refusal :=
  if s.isTwin && s.linkRelease && s.sill.watch.isNone &&
      ((List.range 4).any (fun p => s.sillOpen 3 p) || decide (s.sill.released + 100000000 ≤ s.tb.ticks)) then
    .next (s.modSill (fun x => { x with watch := some s.tb.ticks }))
  else .next s

/-- Whether the watch has run for 50 µs since the tick `last`, if there is one. -/
def State.watched (s : State) (last : Option Nat) : Bool := match s.sill.watch with
  | some w => decide (max w (last.getD w) + 50000 ≤ s.tb.ticks)
  | none => false

/-- HB_LOST: no BEAT for 50 µs. A standby starts its holdoff; in a swap whose frames are being sent, the holder stops
RELEASING. -/
def execHbLost (s : State) : Host.Outcome State Fault Refusal :=
  if !s.watched s.sill.beatTick || s.flag SILL_STATUS_HB_LOST then .next s
  else
    let s := (((s.putB SILL_STATUS_HB_LOST true).putB SILL_TWIN_STATUS_BEAT_OK false).raise 10 SILL_EVENTS_HB_LOST).bump
      SILL_CNT_HB_LOST |>.logC 0x6030 noUnit 0
    let s := s.iff s.isHolder (fun s => s.modSill (fun x => { x with swapFrames := false }))
    .next s.holdoffStart

/-- NO_HOLDER_TIMEOUT: no BEAT from a HOLDER for 50 µs. -/
def execNoHolderTimeout (s : State) : Host.Outcome State Fault Refusal :=
  if s.watched s.sill.holderTick then .next s.holdoffStart else .next s

/-- The holdoff of a standby twin in nanoseconds (R448). -/
def State.holdoffNs (s : State) : Nat :=
  if s.get SILL_TWIN_CFG_TWIN_CLAIM < s.ownClaim then 5000 else (s.get SILL_TWIN_CFG_CLAIM_WINDOW + 10) * 1000

/-- CLAIM_HOLDOFF_EXPIRY: the standby claims. -/
def execClaimHoldoffExpiry (s : State) : Host.Outcome State Fault Refusal :=
  if !s.isStandby || (match s.sill.holdoff with | some t => decide (s.tb.ticks < t + s.holdoffNs) | none => true) then .next s
  else .next ((((s.bump SILL_CNT_CLAIM).raise 10 SILL_EVENTS_CLAIMED).logC 0x6031 noUnit 0).becomeHolder)

/-- SWAP_REQ takes effect: a twin proposes a swap at once (R451). -/
def State.swapReq (s : State) : State := if s.isTwin then s.propose.putB SILL_CMD_SWAP_REQ true else s.putB SILL_CMD_SWAP_REQ false

/-- SWAP_REQ: `master` writes SWAP_REQ; only the MC's write takes effect. -/
def execSwapReq (master : Fin 3) (s : State) : Host.Outcome State Fault Refusal :=
  if !s.reaches master then .next (s.unreached master)
  else if master.val ≠ 0 then .next (s.badAccess master SILL_CMD 3)
  else .next s.swapReq

/-- SWAP_TAKING_START: 100 µs before T_swap. -/
def execSwapTakingStart (s : State) : Host.Outcome State Fault Refusal :=
  if s.flag SILL_STATUS_SWAP_PENDING && decide ((s.sill.swapAt : Int) ≤ s.nowI + nsT 100000) then
    .next (s.modSill (fun x => { x with swapFrames := true }))
  else .next s

/-- SWAP_POINT: at T_swap the taker becomes HOLDER; the other twin becomes STANDBY if its claim was being released; every
node's carried claim is evaluated again. -/
def execSwapPoint (s : State) : Host.Outcome State Fault Refusal :=
  if s.flag SILL_STATUS_SWAP_PENDING && decide (s.sill.swapAt ≤ s.now) then
    let rel := s.sill.swapFrames
    let new := if s.sill.swapTaker then s.ownClaim else s.get SILL_TWIN_CFG_TWIN_CLAIM
    let s := ((s.putB SILL_STATUS_SWAP_PENDING false).wrTime SILL_SWAP_AT 0).modSill (fun x => { x with
      swapFrames := false, swapWait := some new })
    if s.sill.swapTaker then .next s.becomeHolder
    else .next ((s.iff (rel && s.isHolder) State.becomeStandby))
  else .next s.carry

/-- REVERT_HOLD_EXPIRY: a preferred standby that has stayed HEALTHY for REVERT_HOLD proposes a swap. DEDUCED: the hold
counts anew from the twin's becoming STANDBY, since the other twin holds the role for REVERT_HOLD (R452). -/
def execRevertHoldExpiry (s : State) : Host.Outcome State Fault Refusal :=
  let held := match s.sill.healthySince with
    | some t => decide (t + s.get SILL_SWAP_CFG_REVERT_HOLD * 1000000000 ≤ s.tb.ticks)
    | none => false
  if held && s.fwRuns && s.flag SILL_SWAP_CFG_REVERT && s.isStandby && s.get SILL_CFG_TWIN_ROLE == 1 && s.flag SILL_STATUS_HEALTHY
  then .next (s.propose.putB SILL_CMD_SWAP_REQ true) else .next s

/-- SWAP_PERIOD_EXPIRY: a holder whose twin is HEALTHY proposes the periodic swap. -/
def execSwapPeriodExpiry (s : State) : Host.Outcome State Fault Refusal :=
  if decide (s.sill.holderSince + s.get SILL_SWAP_CFG_SWAP_PERIOD * 60000000000 ≤ s.tb.ticks) && s.fwRuns &&
    s.flag SILL_SWAP_CFG_SWAP_EN && s.isHolder && s.flag SILL_TWIN_STATUS_TWIN_HEALTHY
  then .next (s.propose.putB SILL_CMD_SWAP_REQ true) else .next s

/-! ### Position bursts (R438 to R440) -/

def State.slot (s : State) (k : Nat) : Slot := cget (fun _ => ⟨0, 0, false, none⟩) s.sill.slots k
def State.setSlot (s : State) (k : Nat) (x : Slot) : State :=
  s.modSill (fun y => { y with slots := cset (fun _ => ⟨0, 0, false, none⟩) y.slots k x })

/-- The channels that take the frames of slot `k`: followers, and publishers that are not carried (R211, R213). -/
def State.slotChans (s : State) (k : Nat) : List Nat :=
  (List.range 16).filter (fun c => (s.pch c).runs && s.get (POS_SILL_CFG_SLOT c) == k &&
    (s.posMode c == 4 || (s.flag (POS_SILL_CFG_PUBLISH c) && !s.flag (POS_STATUS_CARRIED c))))

/-- One slot unit of a burst for t_s = `ts` (R440): x is rebuilt, and the channels of the slot take the state. -/
def State.slotFrame (s : State) (ts anchor xhi : Nat) (c d : Block) : State :=
  let k := getBits c.toNat 8 6
  let seq := blockByte c 3
  let lo := getBits d.toNat 0 32
  let old := s.slot k
  if old.ts = some ts then s
  else
    let isA := k == anchor
    let x := if isA then xhi * 2 ^ 32 + lo else trunc 64 (old.x + sext 32 (lo + 2 ^ 32 - old.x % 2 ^ 32))
    let anchored := isA || (old.anchored && old.stepSeq == seq)
    let s := s.setSlot k ⟨x, seq, anchored, some ts⟩
    if !anchored then s
    else
      let o : ObsState := ⟨sext 64 x * 65536, sext 24 (getBits d.toNat 32 24) * 16777216, sext 16 (getBits c.toNat 32 16) * 1048576,
        ts, bit (blockByte c 1) 6, bit (blockByte c 2) 0, bit (blockByte c 1) 7, seq⟩
      (s.slotChans k).foldl (fun s ch => s.posFrame ch o) s

/-- The slot units of a burst: pairs of blocks, each a frame of its own; one that fails its CRC is discarded (R440). The
units kept are answered too. -/
def State.slotFrames (s : State) (p ts anchor xhi : Nat) : List (Bool × Block) → State × List (Bool × Block)
  | c :: d :: rest =>
    if checkOk c.2 && checkOk d.2 && blockByte c.2 0 == 0x41 then
      let r := (s.slotFrame ts anchor xhi c.2 d.2).slotFrames p ts anchor xhi rest
      (r.1, c :: d :: r.2)
    else (s.sillDiscard p).slotFrames p ts anchor xhi rest
  | _ => (s, [])

/-- POS_BURST_RECEIVE: accepted from the selected UP port with the claim carried at t_s, or by a standby twin from its
TWIN port or reflected. A repeater sends it down, and on its other UP port. -/
def execPosBurstReceive (p : Fin 4) (bs : List (Bool × Block)) (s : State) : Host.Outcome State Fault Refusal :=
  if fByte bs 0 0 ≠ 0x40 || s.sillState p != 4 then .next (s.strange p (fByte bs 0 0))
  else if !frameOk (bs.take 3) then .next (s.sillDiscard p)
  else
    let ts := s.nearTime (2 ^ 24) (fNum bs 1 0 4) 0 (fNum bs 1 4 3)
    let carried := match s.carriedAt ts with | some c => c.claim == fNum bs 0 3 2 | none => false
    let up := s.sillRole p == 1 && s.selectedUp == some p.val && carried
    let twin := s.isStandby && (s.sillRole p == 3 || s.sillRole p == 2)
    if !up && !twin then .next s
    else
      let r := s.slotFrames p ts (fByte bs 0 6 % 64) (fNum bs 2 0 4) (bs.drop 3)
      if !up then .next r.1
      else
        let f : SillTx := ⟨0, false, false, bs.take 3 ++ r.2⟩
        let s := r.1.sillSendRole 2 f
        .next (((List.range 4).filter (fun q => q != p.val && s.sillOpen 1 q)).foldl (fun s q => s.sillTx q f) s)

/-! ### Frames that travel up to the root, then down (R432, R442 to R444) -/

/-- A frame received on port `p` is forwarded (R432); the answer says whether this node acts on it: a downward copy from
the selected UP port, or a frame that it turns around. -/
def State.sillRelay (s : State) (p : Nat) (t : SillTx) : Bool × State :=
  if s.sillRole p = 1 then
    if s.selectedUp = some p then (true, s.sillSendRole 2 t) else (false, s)
  else if s.sillTurns then (true, s.sillSendRole 2 t)
  else if s.sillRole p = 2 then (false, s.sillUp t)
  else (false, s)

/-- A fabric event is delivered on its line (R258, R442). -/
def State.fabDeliver (s : State) (line hop : Nat) : State := s.produce (128 + line) hop

/-- EVENT_FRAME_RECEIVE: forwarded, and delivered on arrival, or held until its aligned instant. A node's own events come
back to it without effect. -/
def execEventFrameReceive (p : Fin 4) (bs : List (Bool × Block)) (s : State) : Host.Outcome State Fault Refusal :=
  if !isFrame bs 0x50 2 || s.sillState p != 4 then .next (s.strange p (fByte bs 0 0))
  else if !frameOk bs then .next (s.sillDiscard p)
  else
    let r := s.sillRelay p ⟨2, true, false, bs⟩
    let s := r.2
    let line := fByte bs 0 1 % 32
    let hop := fByte bs 0 2 % 16 + 1
    if !r.1 || fNum bs 0 3 2 == s.nodeId then .next s
    else if !s.flag (SILL_EVT_CFG_ALIGN line) then .next (s.fabDeliver line hop)
    else
      let due := s.nearTime 256 (fNum bs 1 0 4) (fNum bs 1 4 2) (fByte bs 1 6) + s.get (SILL_EVT_CFG_EVT_HOLD line) * 65536
      if due < s.now then
        .next ((((s.bump SILL_CNT_EVT_LATE).raise 10 SILL_EVENTS_EVT_LATE).logOnce 0x6040 0 noUnit 0).fabDeliver line hop)
      else .next (s.modSill (fun x => { x with aligned := x.aligned ++ [⟨line, hop, due⟩] }))

/-- ALIGNED_EVENT_DUE: the oldest waiting event whose instant has come is delivered. -/
def execAlignedEventDue (s : State) : Host.Outcome State Fault Refusal :=
  match s.sill.aligned.find? (fun (e : AlignedEvt) => decide (e.due ≤ s.now)) with
  | none => .next s
  | some e => .next ((s.modSill (fun x => { x with aligned := x.aligned.erase e })).fabDeliver e.line e.hop)

/-- A SCHED frame is acted on: the entry is written whole, or rejected outside SILL_SCHED_ALLOW (R443). -/
def State.schedAccept (s : State) (bs : List (Bool × Block)) : State :=
  let i := fNum bs 0 1 2 % 16384
  let base := s.get SILL_SCHED_ALLOW_BASE
  if decide (i < base) || decide (base + s.get SILL_SCHED_ALLOW_LEN ≤ i) then
    ((s.bump SILL_CNT_SCHED_REJECT).raise 10 SILL_EVENTS_SCHED_REJECT).logOnce 0x6041 0 noUnit 0
  else
    ((s.wr64 (SCHED_TARGET i) (fNum bs 1 0 7 + fByte bs 2 0 * 2 ^ 56)).wrN (SCHED_LINE i) (fNum bs 2 1 4)).wrN (SCHED_WORD3 i)
      (fNum bs 0 3 2 + fByte bs 0 5 * 65536)

/-- GO of SILL_SCHED_CMD (R443): the entry in SILL_SCHED_TX travels to the root; the root acts on it. -/
def State.schedGo (s : State) : State :=
  let i := s.get SILL_SCHED_CMD_INDEX
  let t := s.rdN (SILL_SCHED_TX 0) + s.rdN (SILL_SCHED_TX 1) * 2 ^ 32
  let w3 := s.rdN (SILL_SCHED_TX 3)
  let bs := [sillC 0x58 (toBytes 2 i ++ toBytes 2 w3 ++ toBytes 1 (w3 / 65536)), sillD (toBytes 7 t),
    sillD (toBytes 1 (t / 2 ^ 56) ++ toBytes 4 (s.rdN (SILL_SCHED_TX 2)))]
  let s := (s.putB SILL_SCHED_CMD_GO true).sillUp ⟨2, false, true, bs⟩
  let s := s.iff s.sillTurns (fun s => s.schedAccept bs)
  let waits := (List.range 4).any (fun p => (s.sport p).txq.any (fun (x : SillTx) => x.ownSched))
  s.putB SILL_SCHED_CMD_GO waits

/-- SCHED_GO: the entry in SILL_SCHED_TX travels to the root. A GO while GO is 1 is ignored and counted. -/
def execSchedGo (master : Fin 3) (s : State) : Host.Outcome State Fault Refusal :=
  if !s.reaches master then .next (s.unreached master)
  else if s.flag SILL_SCHED_CMD_GO then .next (s.badAccess master SILL_SCHED_CMD 3)
  else .next s.schedGo

/-- SCHED_FRAME_RECEIVE. -/
def execSchedFrameReceive (p : Fin 4) (bs : List (Bool × Block)) (s : State) : Host.Outcome State Fault Refusal :=
  if !isFrame bs 0x58 3 || s.sillState p != 4 then .next (s.strange p (fByte bs 0 0))
  else if !frameOk bs then .next (s.sillDiscard p)
  else
    let r := s.sillRelay p ⟨2, false, false, bs⟩
    .next (r.2.iff r.1 (fun s => s.schedAccept bs))

/-- An MGMT frame of the MC leaves: DEST (bit 15: all nodes) and the message (R444). -/
def chunks7 : Nat → List Byte → List (Bool × Block)
  | 0, _ => []
  | n + 1, l => sillD (l.take 7) :: chunks7 n (l.drop 7)

def State.mgmtSend (s : State) (dest : Nat) (msg : List Byte) : State :=
  let bs := sillC 0x70 (toBytes 2 dest ++ toBytes 2 s.nodeId ++ toBytes 1 msg.length ++ toBytes 1 s.sill.mgmtSeq) ::
    chunks7 (ceilDiv msg.length 7) msg
  (s.modSill (fun x => { x with mgmtSeq := (x.mgmtSeq + 1) % 256 })).sillUp ⟨3, false, false, bs⟩

/-! ### What every tick does -/

/-- The carried claim, the echo period, CLAIM_BLOCKED, HEALTHY and the ports' queues at a tick (R431, R447, R449, R450). -/
def State.sillTick (s : State) : State :=
  let s := s.iff (!s.sill.claims.isEmpty || s.get SILL_STATUS_CARRIED != 0) State.carry
  let s := s.echoTime
  let s := s.iff (s.flag SILL_STATUS_CLAIM_BLOCKED) State.blockedCheck
  let s := s.iff s.isTwin State.showHealth
  (List.range 4).foldl (fun s p => s.sillDrain p) s

end Sys2Proof.Machine
end

