-- ==== Sys2Proof/Machine/Reset.lean ====
section
/-!
DEFINITION. Resets and the PLLs (R53 to R57, R68 to R71, R460).
-/

namespace Sys2Proof.Machine

open Reg

/-! ### Interface outputs (R41, R43) -/

/-- The groups of interface outputs: xSPI, UART, PMBus, JTAG_TDO, a DDR4 channel, a lane's, a Sill port's and a PCIe
port's transmitters. -/
inductive PadGroup where
  | xspi | uart | pmbus | jtag
  | ddr (k : Nat)
  | lane (l : Nat)
  | sill (p : Nat)
  | pcie (p : Nat)
  deriving DecidableEq, Repr

/-- Whether the outputs of a group have left high impedance: never in a power-on or system reset (R41), in which
DDRk_RESET_N is released too; after it once their controller enables them (R43): the boot ROM, training, a link that
begins to train. DEDUCED: PMBus while firmware runs, JTAG_TDO in no reset. -/
def State.drives (s : State) (g : PadGroup) : Bool :=
  !s.held && (match g with
  | .xspi => s.mc.pads
  | .uart => s.mc.pads
  | .pmbus => s.fwRuns
  | .jtag => true
  | .ddr k => decide (s.get (DDR_STATUS_STATE k) ∈ [1, 2])
  | .lane l => decide (2 ≤ s.laneState l)
  | .sill p => s.sillState p != 0
  | .pcie p => s.trains p || s.flag (PCIE_LINK_UP p))

/-! ### What a reset keeps (R68, R71) -/

/-- The register words that a system reset keeps: straps, OTP registers, droop counters, PLL_STATUS and RESET_CAUSE, the
log's HEAD and FLASHED, the count of watchdog resets, the time base block, and the levels at the balls. -/
def keepSys (o : Nat) : Bool :=
  decide (o ∈ [GLOBAL_STRAPS, GLOBAL_OTP_GEN, GLOBAL_OTP_CTR, GLOBAL_DROOP_COUNT, GLOBAL_DROOP_COUNT + 4, GLOBAL_DROOP_TIME,
    GLOBAL_DROOP_TIME + 4, GLOBAL_PLL_STATUS, GLOBAL_RESET_CAUSE, MC_LOG_HEAD, MC_LOG_FLASHED, MC_CNT_WDOG, GPIO_IN_LO,
    GPIO_IN_HI]) || (decide (0x20000 ≤ o) && decide (o < 0x30000))

/-- The ball PERST_N of both ports stays as it is. -/
def State.keepPerst (s t : State) : State :=
  (s.putB (PCIE_STATUS_PERST 0) (t.flag (PCIE_STATUS_PERST 0))).putB (PCIE_STATUS_PERST 1) (t.flag (PCIE_STATUS_PERST 1))

/-- What persists in the management controller over a system reset: flash, OTP, the shadow, the flash log's place. -/
def Mc.kept (m : Mc) : Mc :=
  { Mc.reset with
    flash := m.flash, otp := m.otp, shadow := m.shadow, logPos := m.logPos, logSeq := m.logSeq, boots := m.boots,
    badSections := m.badSections }

/-- The device as a system reset holds it. -/
def State.sysHeld (s : State) : State :=
  let t : State := { State.reset with
    pending := s.pending, freeIdx := s.freeIdx, out := s.out, regs := ckeep keepSys s.regs }
  let t := { t with log := ⟨s.log.queue, s.log.ring, [], 0⟩, tb := s.tb, mc := s.mc.kept }
  let t := { t with power := ⟨false, true, true, false, s.power.releaseTick⟩ }
  let t := { t with droop := { Droop.reset with ms := s.droop.ms, msEvents := s.droop.msEvents } }
  let t := t.modTb (fun b => { b with ppsActive := false, ppsIdle := none })
  let t := (List.range 8).foldl (fun t k => t.putB (DDR_STATUS_PLL_LOCK k) (s.flag (DDR_STATUS_PLL_LOCK k))) t
  ((t.keepPerst s).putB MC_EVENTS_TRIPPED (s.flag MC_EVENTS_TRIPPED)).loadRepair

/-- The bits [5:0] of GLOBAL_RESET_CAUSE are rewritten with the causes given. -/
def State.setCause (s : State) (c : Nat) : State := s.put ⟨GLOBAL_RESET_CAUSE, 0, 6⟩ c

/-- A system reset with cause bit `c` of GLOBAL_RESET_CAUSE. In a power-on reset it merges; in a system reset its cause
joins; an MC reset in progress gives way to it, and its causes stay (R70, R71). -/
def State.sysReset (s : State) (c : Nat) : State :=
  if s.power.porst then s
  else if s.power.sysRst then s.setCause (Nat.lor (s.get ⟨GLOBAL_RESET_CAUSE, 0, 6⟩) (2 ^ c))
  else
    let old := s.get ⟨GLOBAL_RESET_CAUSE, 0, 6⟩
    let t := s.sysHeld.setCause (Nat.lor (if s.power.mcDown && old % 8 = 0 then old else 0) (2 ^ c))
    t.put GLOBAL_RESET_CAUSE_SYS_COUNT (min 0xFFFF (t.get GLOBAL_RESET_CAUSE_SYS_COUNT + 1))

/-- An MC reset with cause bit `c`: it merges into one of equal or wider scope, and its cause joins (R70, R71). The data planes keep running; requests in the mailboxes are completed with BUSY, and
an update that was receiving stays incomplete (R68, R71, R416, R483). -/
def State.mcReset (s : State) (c : Nat) : State :=
  if s.power.porst then s
  else if s.power.sysRst || s.power.mcDown then s.setCause (Nat.lor (s.get ⟨GLOBAL_RESET_CAUSE, 0, 6⟩) (2 ^ c))
  else
    let s := (List.range 2).foldl (fun s p => s.iff (s.get (MBOX_STATUS_STATE p) == 1) (fun s => s.mboxDone p rBusy)) s
    let s := s.modMc (fun m => { m with
      mboxOrder := [], mboxLate := [], fwSel := false, fwOn := false, keyReady := false, certOk := false, updTotal := 0, recImg := [] })
    let s := s.modPower (fun p => { p with mcDown := true, mcDebugHold := false })
    (((s.wrN MC_UPDATE_STATUS 0).wrN MC_UPDATE_BYTES 0).putB SILL_STATUS_HEALTHY false).setCause (2 ^ c)

/-! ### Resets from the balls and by request (R68 to R71) -/

/-- PORST_ASSERT: everything but flash and OTP is lost; the balls keep their levels. -/
def execPorstAssert (s : State) : Host.Outcome State Fault Refusal :=
  let t : State := { State.reset with
    pending := s.pending, freeIdx := s.freeIdx, out := s.out,
    mc := { s.mc.kept with shadow := [], badSections := [] }, power := ⟨true, false, true, false, 0⟩ }
  .next ((t.keepPerst s).wr GPIO_IN_LO (s.rd GPIO_IN_LO) |>.wr GPIO_IN_HI (s.rd GPIO_IN_HI))

/-- The straps are sampled; the board settings record may override each (R39, R40, R95). -/
def State.sampleStraps (s : State) (mode : Nat) (flashIf : Bool) : State :=
  let o := bytesAt s.board 0 1
  let s := (s.put GLOBAL_STRAPS_BOOT_MODE_PIN mode).putB GLOBAL_STRAPS_FLASH_IF_PIN flashIf
  let s := s.put GLOBAL_STRAPS_BOOT_MODE_EFF (if bit o 0 then getBits o 1 2 else mode)
  let s := s.putB GLOBAL_STRAPS_FLASH_IF_EFF (if bit o 3 then bit o 4 else flashIf)
  s.putB GLOBAL_STRAPS_OVERRIDDEN (bit o 0 || bit o 3)

/-- PORST_RELEASE: straps, release, OTP shadow, repair map. -/
def execPorstRelease (mode : Fin 4) (flashIf : Bool) (s : State) : Host.Outcome State Fault Refusal :=
  if !s.power.porst then .next s
  else
    let s := (s.modPower (fun _ => ⟨false, false, true, false, s.tb.ticks⟩)).modMc (fun m => { m with shadow := m.otp })
    .next (((s.sampleStraps mode flashIf).loadRepair).showOtp.showCap)

/-- SYS_RST_ASSERT: SYS_RST_N goes low. -/
def execSysRstAssert (s : State) : Host.Outcome State Fault Refusal := .next (s.sysReset 1)

/-- SYSTEM_RESET_RELEASE: the blocks leave reset. -/
def execSystemResetRelease (s : State) : Host.Outcome State Fault Refusal :=
  if !s.power.sysRst then .next s
  else .next ((s.modPower (fun p => ⟨p.porst, false, true, false, s.tb.ticks⟩)).showCap)

/-- SYS_RESET_REQUEST: `master` writes SYS in GLOBAL_RESET_CTRL; a host's write is ignored and counted (R69). -/
def execSysResetRequest (master : Fin 3) (s : State) : Host.Outcome State Fault Refusal :=
  if !s.reaches master then .next (s.unreached master)
  else if master.val = 0 then .next (s.sysReset 2)
  else .next (s.badAccess master GLOBAL_RESET_CTRL 3)

/-- MC_RESET_REQUEST: `master` writes MC in GLOBAL_RESET_CTRL. -/
def execMcResetRequest (master : Fin 3) (s : State) : Host.Outcome State Fault Refusal :=
  if !s.reaches master then .next (s.unreached master)
  else if master.val = 0 then .next (s.mcReset 5)
  else .next (s.badAccess master GLOBAL_RESET_CTRL 3)

/-- MC_WATCHDOG_EXPIRY (R460): TIMEOUT ms, at least 10, have passed since firmware restarted it. It does not run in debug
hold, nor before firmware starts, and firmware's start restarts it. -/
def execMcWatchdogExpiry (s : State) : Host.Outcome State Fault Refusal :=
  if s.held || !s.mc.fwOn || s.power.mcDown || s.power.mcDebugHold ||
      decide (s.tb.ticks < s.mc.fwAt + max 10 (s.get MC_WDOG_CFG_TIMEOUT) * 1000000) then .next s
  else .next (((s.mcReset 4).bump MC_CNT_WDOG).raise 11 MC_EVENTS_WDOG)

/-! ### PLLs (R53 to R57) -/

/-- The bit of LOCKED and LOST that shows a PLL: 0 MGMT, 1 CORE, 2 FAB, 3 ENC, 4 TB, 5 SILL, 6 PCIE_A, 7 PCIE_B, 8 + k
the PLL of DDR4 channel k. -/
def pllBit (i : Nat) : Nat := if i < 3 then i else if i < 8 then i + 1 else 3

/-- Whether a PLL is locked now. -/
def State.pllLocked (s : State) (i : Nat) : Bool :=
  if i < 8 then bit (s.get GLOBAL_PLL_STATUS_LOCKED) (pllBit i) else s.flag (DDR_STATUS_PLL_LOCK (i - 8))

/-- A PLL shows locked or not. -/
def State.setLock (s : State) (i : Nat) (b : Bool) : State :=
  if i < 8 then s.putB (GLOBAL_PLL_STATUS_LOCKED.sub (pllBit i)) b else (s.putB (DDR_STATUS_PLL_LOCK (i - 8)) b).showDdrLock

/-- PLL_LOSS_OF_LOCK: a PLL that was locked loses lock (R55, R57). -/
def execPllLossOfLock (i : Fin 16) (s : State) : Host.Outcome State Fault Refusal :=
  if s.power.porst || !s.pllLocked i then .next s
  else
    let f := GLOBAL_PLL_STATUS_LOST.sub (pllBit i)
    let s := ((s.setLock i false).putB f true).iff (!s.flag f) (fun s => s.raise 11 GLOBAL_EVENTS_PLL_LOST)
    match i.val with
    | 0 => .next ((s.logC 0x9112 noUnit 0).mcReset 3)
    | 1 | 2 | 3 => .next ((s.logC 0x9111 noUnit 0).sysReset 3)
    | 4 => .next (((s.putB TB_STATUS_COARSE true).logC 0x9113 noUnit 0).sysReset 3)
    | 5 => .next ((List.range 4).foldl (fun s p => s.iff (decide (s.sillState p ≠ 0)) (fun s => s.sillLeave p 1))
        (s.logC 0x9114 noUnit 0))
    | 6 => .next ((s.logC 0x9115 0 0).linkDown 0)
    | 7 => .next ((s.logC 0x9115 1 0).linkDown 1)
    | _ => .next ((s.logC 0x9116 (i - 8) 0).ddrRetire (i - 8) 7 true)

/-- PLL_LOCKED: a PLL reaches lock. -/
def execPllLocked (i : Fin 16) (s : State) : Host.Outcome State Fault Refusal :=
  if s.power.porst then .next s else .next (s.setLock i true)

/-- TB_HOLDOVER_ENTRY (R56): four periods without an edge on TB_REF_IN, while PLL_TB runs from it. -/
def execTbHoldoverEntry (s : State) : Host.Outcome State Fault Refusal :=
  if !s.flag TB_CTRL_REF_SEL || s.flag GLOBAL_PLL_STATUS_TB_HOLDOVER then .next s
  else .next (((s.putB GLOBAL_PLL_STATUS_TB_HOLDOVER true).raise 11 GLOBAL_EVENTS_TB_HOLDOVER).logC 0x9120 noUnit 0)

/-- TB_RELOCK (R56): the bit is set; edges pull PLL_TB in. -/
def execTbRelock (s : State) : Host.Outcome State Fault Refusal :=
  if s.held then .next s else .next (s.putB GLOBAL_PLL_STATUS_TB_RELOCK true)

/-- TB_RELOCK_COMPLETE (R56): PLL_TB is locked to TB_REF_IN again. -/
def execTbRelockComplete (s : State) : Host.Outcome State Fault Refusal :=
  if !s.flag GLOBAL_PLL_STATUS_TB_RELOCK then .next s
  else .next ((s.putB GLOBAL_PLL_STATUS_TB_RELOCK false).putB GLOBAL_PLL_STATUS_TB_HOLDOVER false)

/-- TB_COARSE_EXIT (R57): PLL_TB has relocked, and the counter returns to CLK_TB. -/
def execTbCoarseExit (s : State) : Host.Outcome State Fault Refusal :=
  if !s.flag TB_STATUS_COARSE || !s.pllLocked 4 then .next s
  else .next ((s.putB TB_STATUS_COARSE false).modTb (fun t => { t with coarseTick := 0 }))

end Sys2Proof.Machine
end

