-- ==== Sys2Proof/Machine/Mc.lean ====
section
/-!
DEFINITION. What the management controller watches and keeps: sensors and PMBus (R461 to R464), the event log's ring,
flash copy and forwarding (R465 to R470, R523), messages on the Sill (R444), trials and the identity key (R474 to R480).
-/

namespace Sys2Proof.Machine

open Reg

/-! ### Sensors (R461 to R463) -/

/-- A reading against a threshold in °C: at or above it the sensor joins the list and `hit` happens once; the sensor
leaves it 3 °C below (R462). Readings are in 1/16 °C. -/
def crossed (l : List Nat) (k : Nat) (limit : Int) (t : Int) : Bool × List Nat :=
  if limit * 16 ≤ t then (if k ∈ l then (false, l) else (true, l ++ [k]))
  else if t ≤ (limit - 3) * 16 then (false, l.filter (fun j => j != k)) else (false, l)

/-- The thresholds of R462 on the reading of sensor `k`. -/
def State.therm (s : State) (k : Nat) (t : Int) : State :=
  let w := crossed s.mc.warned k (s.get MC_THERM_CFG_WARN) t
  let h := crossed s.mc.hot k tmax t
  let s := s.modMc (fun m => { m with warned := w.2, hot := h.2 })
  let s := s.iff w.1 (fun s => (s.raise 11 MC_EVENTS_THERM_WARN).logC 0x9201 noUnit k)
  s.iff h.1 (fun s => (s.raise 11 MC_EVENTS_THERM_HIGH).logC 0x9202 noUnit 0)

/-- SENSOR_PUBLISH: the eight temperatures (1/16 °C, signed) and the sixteen voltages (mV), 16 bits each. -/
def execSensorPublish (temps volts : List Nat) (s : State) : Host.Outcome State Fault Refusal :=
  if s.held then .next s
  else
    let all := ((temps ++ List.replicate 8 0).take 8 ++ (volts ++ List.replicate 16 0).take 16).map (fun v => v % 2 ^ 16)
    let s := (List.range 12).foldl (fun s i => s.wrN (MC_SENS_DATA i) (all.getD (2 * i) 0 + 2 ^ 16 * all.getD (2 * i + 1) 0)) s
    let s := s.publish MC_SENS_STATUS
    .next ((List.range 8).foldl (fun s k => s.therm k (sext 16 (all.getD k 0))) s)

/-- Temperature `k` (1/16 °C) and voltage `m` (mV) as last published. -/
def State.tempNow (s : State) (k : Nat) : Int := sext 16 (getBits (s.rdN (MC_SENS_DATA (k / 2))) (16 * (k % 2)) 16)
def State.voltNow (s : State) (m : Nat) : Nat := getBits (s.rdN (MC_SENS_DATA (4 + m / 2))) (16 * (m % 2)) 16

/-- THERMAL_TRIP: the trip logic requests a system reset; TRIPPED survives it. -/
def execThermalTrip (s : State) : Host.Outcome State Fault Refusal :=
  if s.power.porst then .next s else .next ((s.raise 11 MC_EVENTS_TRIPPED).sysReset 2)

/-- VOLT_OUT: monitor `m` has stayed out of tolerance, reading `mv` millivolts. -/
def execVoltOut (m : Fin 16) (mv : Fin 65536) (s : State) : Host.Outcome State Fault Refusal :=
  if s.held then .next s
  else .next ((s.raise 11 MC_EVENTS_VOLT_OUT).iff s.fwRuns (fun s => s.logOnce 0x9210 m noUnit (m * 65536 + mv)))

/-! ### PMBus (R464) -/

/-- Byte `i` of record `r` of the regulator list. -/
def State.pmbByte (s : State) (r i : Nat) : Nat := getBits (s.rdN (PMB_LIST (2 * r + i / 4))) (8 * (i % 4)) 8
/-- The records of the list: ADDR 0 ends it. -/
def State.pmbRecs (s : State) : List Nat := (List.range 16).takeWhile (fun r => s.pmbByte r 0 % 128 != 0)

/-- `m × 2^e × scale`, rounded to the nearest whole number. -/
def scaled (m e scale : Int) : Int :=
  if 0 ≤ e then m * scale * (2 : Int) ^ e.toNat else roundDiv (m * scale) ((2 : Int) ^ (-e).toNat)
/-- A LINEAR16 value under a VOUT_MODE, times `scale`. -/
def linear16 (mode v : Nat) (scale : Int) : Int := scaled (v % 65536) (sext 5 mode) scale
/-- A LINEAR11 value, times `scale`. -/
def linear11 (v : Nat) (scale : Int) : Int := scaled (sext 11 v) (sext 5 (v / 2048)) scale

/-- A value stored in a 16-bit field; one that the field cannot hold is not stated. -/
def State.put16 (s : State) (f : Fld) (lo hi v : Int) : State :=
  if lo ≤ v ∧ v ≤ hi then s.put f (trunc 16 v)
  else
    let r := s.free
    r.2.put f r.1

/-- What a regulator answered is published. -/
def State.pmbGood (s : State) (r : Nat) (x : PmbReading) : State :=
  let mode := cget (fun _ => x.mode) s.mc.pmbMode r
  let s := s.modMc (fun m => { m with pmbMode := cput m.pmbMode r mode, pmbFails := cset (fun _ => 0) m.pmbFails r 0 })
  let s := s.put16 (MC_PMB_VI_VOUT r) 0 65535 (linear16 mode x.vout 1000)
  let s := s.put16 (MC_PMB_VI_IOUT r) 0 65535 (linear11 x.iout 1000)
  let s := s.put16 (MC_PMB_TS_TEMP r) (-32768) 32767 (linear11 x.temp 1)
  (s.put (MC_PMB_TS_STATUS_WORD r) x.status).publish (MC_PMB_STATUS r)

/-- A regulator did not answer: the third poll in a row is logged and counted. -/
def State.pmbMiss (s : State) (r : Nat) : State :=
  let n := cget (fun _ => 0) s.mc.pmbFails r + 1
  let s := s.modMc (fun m => { m with pmbFails := cset (fun _ => 0) m.pmbFails r n })
  s.iff (n == 3) (fun s => (s.logC 0x9221 noUnit 0).bump MC_CNT_PMB_ERR)

/-- PMBUS_POLL: what each listed regulator answered, in the order of the list; none or nothing for one that failed. -/
def execPmbusPoll (answers : List (Option PmbReading)) (s : State) : Host.Outcome State Fault Refusal :=
  if !s.fwRuns then .next s
  else .next (s.pmbRecs.foldl (fun s r => match (answers.getD r none) with
    | some x => s.pmbGood r x
    | none => s.pmbMiss r) s)

/-- A regulator that shows the STATUS_WORD `w` reports a fault unless it is zero: logged, its page selected, its faults
cleared. -/
def State.pmbFault (s : State) (r w : Nat) : State :=
  let a := s.pmbByte r 0 % 128
  s.iff (w != 0) (fun s =>
    let s := (s.logC 0x9220 noUnit (a * 65536 + w)).iff (s.pmbByte r 1 != 0xFF) (fun s => s.emit (.pmbus a 0x00 (s.pmbByte r 1)))
    s.emit (.pmbus a 0x03 0))

/-- PMB_ALERT: the STATUS_WORD that each listed regulator shows; one that is not zero reports a fault. -/
def execPmbAlert (status : List Nat) (s : State) : Host.Outcome State Fault Refusal :=
  if s.held then .next s
  else
    let s := s.raise 11 MC_EVENTS_PMB_ALERT
    if !s.fwRuns then .next s
    else .next (s.pmbRecs.foldl (fun s r => s.pmbFault r (status.getD r 0 % 65536)) s)

/-! ### The ring (R465, R466, R468, R470) -/

def LogEntry.code (e : LogEntry) : Nat := getBits e.w0.toNat 0 16
def LogEntry.sev (e : LogEntry) : Nat := getBits e.w0.toNat 16 3
/-- An entry with CONT set; a forwarded one with REMOTE besides. -/
def LogEntry.cont (e : LogEntry) : LogEntry := { e with w0 := e.w0 ||| 0x00800000 }
def LogEntry.remote (e : LogEntry) : LogEntry := { e with w0 := e.w0 ||| 0x00C00000 }

/-- The entry in the slot of INDEX `i`. -/
def State.ringAt (s : State) (i : Nat) : Option LogEntry :=
  (s.log.ring.find? (fun (x : Nat × LogEntry) => x.1 == i % 4096)).map (fun (x : Nat × LogEntry) => x.2)
/-- How many entries the ring holds; they end before HEAD. -/
def State.ringHeld (s : State) : Nat := s.log.ring.length
/-- INDEX `a` lies at or after INDEX `b`, both modulo 2^32. -/
def indexGe (a b : Nat) : Bool := decide ((a + 2 ^ 32 - b % 2 ^ 32) % 2 ^ 32 < 2 ^ 31)

/-- One entry takes its INDEX and its slot. An entry overwritten before it was copied to flash, though its severity asks
for it, is counted (R467). -/
def State.ringPut (s : State) (e : LogEntry) : State :=
  let i := s.rdN MC_LOG_HEAD
  let old := s.ringAt i
  let lost := match old with
    | some o => o.code != 0 && decide (s.get MC_LOG_CFG_PERSIST_SEV ≤ o.sev) && indexGe (i + 2 ^ 32 - 4096) (s.rdN MC_LOG_FLASHED)
    | none => false
  let s := s.iff lost (fun s => (s.bump MC_CNT_LOG_LOST).modLog (fun g => { g with lostSince := g.lostSince + 1 }))
  let s := s.modLog (fun g => { g with ring := cput g.ring (i % 4096) e })
  (s.wrN MC_LOG_HEAD (i + 1)).logToStreams e

/-- A message of TYPE 1 with an entry and its extensions (R470). -/
def fwdMsg (l : List LogEntry) : List Byte :=
  toBytes 1 1 ++ toBytes 1 l.length ++ toBytes 6 0 ++ l.flatMap (fun (e : LogEntry) => e.bytes)

/-- What else the writer does with an item whose main entry is at ring index `at_`: an interrupt, the serial port, and a
message to the log sink. -/
def State.logSides (s : State) (i : LogItem) (at_ : Nat) : State :=
  let sev := i.main.sev
  let s := s.iff (decide (s.get MC_LOG_CFG_IRQ_SEV ≤ sev)) (fun s => s.irq 13)
  let s := s.iff (s.drives .uart && decide (s.get MC_LOG_CFG_UART_SEV ≤ sev)) (fun s => s.emit (.uart at_ i.main))
  s.iff (s.fwRuns && s.flag MC_LOG_CFG_FWD_EN && decide (s.get MC_LOG_CFG_FWD_SEV ≤ sev)) (fun s =>
    s.mgmtSend (s.get MC_LOG_CFG_LOG_SINK) (fwdMsg (i.main :: i.exts)))

/-- LOG_WRITE: the log writer takes one entry with its extensions from the queue. -/
def execLogWrite (s : State) : Host.Outcome State Fault Refusal :=
  if s.power.porst then .next s
  else match s.log.queue with
    | [] => .next s
    | i :: rest =>
      let s := s.modLog (fun g => { g with queue := rest })
      .next (((i.main :: i.exts).foldl (fun s e => s.ringPut e) s).logSides i (s.rdN MC_LOG_HEAD))

/-- LOG_LIMIT_INTERVAL_END: the interval of the limiter of `code` and `item` ends (R523). -/
def execLogLimitIntervalEnd (code item : Nat) (s : State) : Host.Outcome State Fault Refusal :=
  match s.log.limiters.find? (fun (l : Limiter) => l.isFor code item) with
  | none => .next s
  | some l =>
    if s.tb.ticks < l.since + 1000000000 then .next s
    else if l.count = 0 then
      .next (s.modLog (fun g => { g with limiters := g.limiters.filter (fun (m : Limiter) => !m.isFor code item) }))
    else
      let s := s.logX code l.unit (limArg l.counted l.count l.arg) l.exts
      .next (s.modLog (fun g => { g with limiters := g.limiters.map (fun (m : Limiter) =>
        if m.isFor code item then { m with count := 0, since := s.tb.ticks } else m) }))

/-! ### The flash log (R467) -/

/-- One entry is written at the next place of the flash log; a sector that begins is erased and gets its header. -/
def State.flashLog (s : State) (idx : Nat) (e : LogEntry) : State :=
  let pos := s.mc.logPos
  let sec := (s.region 6).1 + 65536 * (pos / 4092 % 1024)
  let first := pos % 4092 = 0
  let s := s.iff first (fun s =>
    let s := (s.flashErase sec).flashProg sec (toBytes 4 0x474C5747 ++ toBytes 4 s.mc.logSeq ++ toBytes 4 idx ++ toBytes 4 s.mc.boots)
    s.modMc (fun m => { m with logSeq := m.logSeq + 1 }))
  let s := s.flashProg (sec + 64 + 16 * (pos % 4092)) e.bytes
  s.modMc (fun m => { m with logPos := (m.logPos + 1) % (1024 * 4092) })

/-- The entry of INDEX `i` is copied if its severity asks for it; an extension goes with the entry before it. `on` says
whether the entry before it was copied. -/
def State.copyOne (s : State) (on : Bool) (i : Nat) : Bool × State :=
  match s.ringAt i with
  | none => (on, s)
  | some e =>
    let take := if e.code = 0 then on else decide (s.get MC_LOG_CFG_PERSIST_SEV ≤ e.sev)
    if !take then (false, s)
    else
      let s := s.iff (decide (0 < s.log.lostSince) && e.code != 0) (fun s =>
        let n := s.log.lostSince
        (s.flashLog i (s.entry 0x806B noUnit n false)).modLog (fun g => { g with lostSince := 0 }))
      (true, (s.flashLog i e).wrN MC_LOG_FLASHED (i + 1))

/-- LOG_FLASH_COPY: firmware copies the entries that are not yet in flash. -/
def execLogFlashCopy (s : State) : Host.Outcome State Fault Refusal :=
  if !s.fwRuns then .next s
  else
    let head := s.rdN MC_LOG_HEAD
    let from_ := s.rdN MC_LOG_FLASHED
    let n := s.ringHeld
    let k := min n ((head + 2 ^ 32 - from_) % 2 ^ 32)
    .next ((List.range k).foldl (fun (x : Bool × State) j => x.2.copyOne x.1 ((head + 2 ^ 32 - k + j) % 2 ^ 32)) (false, s)).2

/-! ### Messages on the Sill (R444, R470) -/

/-- A sink logs a forwarded entry with its own extensions and the origin. -/
def State.sinkLog (s : State) (origin : Nat) (e : LogEntry) (own : List LogEntry) : State :=
  s.logItem ⟨e.remote, own.map (fun (x : LogEntry) => x.cont) ++ [extEntry origin 0]⟩

/-- The entries of a message, each with the extension entries that follow it. -/
def grouped : List LogEntry → List (LogEntry × List LogEntry)
  | [] => []
  | e :: t => match grouped t with
    | [] => [(e, [])]
    | (f, x) :: r => if f.code = 0 then (e, f :: x) :: r else (e, []) :: (f, x) :: r

/-- The entry at byte `i` of a message. -/
def entryAt (l : List Byte) (i : Nat) : LogEntry :=
  ⟨BitVec.ofNat 32 (bytesAt l i 4), BitVec.ofNat 32 (bytesAt l (i + 4) 4), BitVec.ofNat 32 (bytesAt l (i + 8) 4),
    BitVec.ofNat 32 (bytesAt l (i + 12) 4)⟩

/-- A message is delivered to the MC: TYPE 1 holds log entries; any other is discarded. -/
def State.mgmtDeliver (s : State) (origin : Nat) (msg : List Byte) : State :=
  if bytesAt msg 0 1 != 1 then s
  else
    let l := (List.range (min 13 (bytesAt msg 1 1))).map (fun k => entryAt msg (8 + 16 * k))
    (grouped l).foldl (fun s (x : LogEntry × List LogEntry) => s.iff (x.1.code != 0) (fun s => s.sinkLog origin x.1 x.2)) s

/-- MGMT_FRAME_RECEIVE: an MGMT frame on port `p`, its control block and its data blocks. -/
def execMgmtFrameReceive (p : Fin 4) (bs : List (Bool × Block)) (s : State) : Host.Outcome State Fault Refusal :=
  let len := fByte bs 0 5
  if !isFrame bs 0x70 (1 + ceilDiv len 7) || len = 0 || 224 < len || s.sillState p != 4 then .next (s.strange p (fByte bs 0 0))
  else if !frameOk bs then .next ((s.sillDiscard p).bump (SILL_CNT_MGMT_DROP p))
  else
    let r := s.sillRelay p ⟨3, false, false, bs⟩
    let dest := fNum bs 0 1 2
    let msg := ((bs.drop 1).flatMap (fun (b : Bool × Block) => (blockBytes b.2).take 7)).take len
    .next (r.2.iff (r.1 && r.2.fwRuns && (bit dest 15 || dest % 1024 == s.nodeId)) (fun s => s.mgmtDeliver (fNum bs 0 3 2) msg))

/-! ### Trials and the identity key (R474, R475, R480) -/

/-- The bytes of a Cut List slot, as far as its LENGTH says; nothing without the MAGIC (R77). -/
def State.clSlot (s : State) (i : Nat) : List Byte :=
  let r := s.region (2 + i)
  if s.flashN r.1 4 = 0x4C435747 then s.flashRd r.1 (min r.2 (s.flashN (r.1 + 8) 4)) else []

/-- Whether firmware may confirm a trial (R480): it has run for 60 s, with STAGE 9 or started under OUTPUT_COMMIT. -/
def State.mayConfirm (s : State) : Bool :=
  s.fwRuns && s.inTrial && decide (s.mc.fwAt + 60000000000 ≤ s.tb.ticks) && (s.get GLOBAL_BOOT_STATUS_STAGE == 9 || s.mc.fwCommit)

/-- TRIAL_CONFIRM: the slot in trial has run for 60 s (R480). -/
def execTrialConfirm (s : State) : Host.Outcome State Fault Refusal :=
  if !s.mayConfirm then .next s
  else
    let fw := s.recByte 4 = 0
    let s := ((s.recMark 18).logC 0x8063 noUnit 0).raise 11 MC_EVENTS_UPDATE_DONE
    let s := s.put MC_UPDATE_STATUS_STATE 0
    if fw then
      .next (s.iff (s.mc.fwFloor && decide (s.fwCtr < s.mc.fwSec)) (fun s => (s.advance 0x420 s.mc.fwSec).romUpdate))
    else
      .next (s.iff (s.recDone 23 && decide (s.clCtr < s.mc.clSec)) (fun s => (s.advance 0x460 s.mc.clSec).romUpdate))

/-- Whether a certificate passes the checks of R475: its signature by a trust anchor and its key. -/
def State.certValid (s : State) (l : List Byte) : Bool :=
  trailerOk (s.candidates 0) ctxId (l.take 2048) (l.drop 2048) && (l.drop 64).take 1793 == Config.identityKey
def State.certificate (s : State) : List Byte := s.flashRd (s.region 4).1 6144

/-- IDENTITY_KEY_READY: the key pair has been generated; firmware checks the certificate. -/
def execIdentityKeyReady (s : State) : Host.Outcome State Fault Refusal :=
  if !s.fwRuns || s.mc.keyReady || (s.get GLOBAL_BOOT_STATUS_STAGE < 3 && !s.clCommit) then .next s
  else
    let ok := s.certValid s.certificate
    let s := s.modMc (fun m => { m with keyReady := true, certOk := ok })
    .next (s.iff (!ok) (fun s => (s.logC 0x8068 noUnit 0).raise 11 MC_EVENTS_CERT_FAIL))

end Sys2Proof.Machine
end

