-- ==== Sys2Proof/Machine/Retire.lean ====
section
/-!
DEFINITION. Retiring units at run time (R494 to R498).
-/

namespace Sys2Proof.Machine

open Reg

/-! ### What a retired unit leaves behind -/

/-- Bit `i` of a bitmap kept in words of 32 bits is set. -/
def State.setMapBit (s : State) (o : Nat → Nat) (i : Nat) : State := s.putB ⟨o (i / 32), i % 32, 1⟩ true

/-- An entry goes to ABORTED, and an open bent that waits for its data lets go of it (R495). -/
def State.dropEntry (s : State) (n : Nat) : State :=
  (List.range 16).foldl (fun s u => s.modScf u (fun x => { x with
    bents := x.bents.map (fun (b : Bent) => { b with tiles := b.tiles.filter (fun (t : BentTile) => t.tile != n || t.done) }),
    stray := x.stray.filter (fun (t : Nat × Nat) => t.2 != n) })) (s.abortTile n)

/-- A delivery that lost all its data writes a loss tag on its port (R497). -/
def Delivery.lost (d : Delivery) : Delivery :=
  let d := { d with tiles := [], data := [], final := true, sent := 0, inDesc := 0, filled := [], loss := true }
  d

/-- A delivery of which nothing is left in the Ledger (R497): a loss tag while its stream is active on its port. -/
def State.loseHere (s : State) (d : Delivery) : State :=
  if d.port < 2 && s.flag (activeF d.stream d.port) then
    (((s.modDlv d.num (fun d => d.lost)).bump (DLV_CNT_LOSS d.stream)).raise 9 (DLV_EVENTS_LOSS d.stream)).logCount 0x5110
      d.stream d.stream
  else s.dropDlv d.num

/-- A camera line that gets no further tile ends here, with PARTIAL (R497). -/
def State.endHere (s : State) (d : Delivery) : State :=
  if d.port < 2 then s.modDlv d.num (fun d => { d with
    final := true, tag := { d.tag with status := stSet d.tag.status stPartial } })
  else s.dropDlv d.num

/-- The deliveries after entries went to ABORTED: those that lost all their data, and the unfinished lines of lane `l`. -/
def State.afterAbort (s : State) (was : List Delivery) (l : Option Nat) : State :=
  was.foldl (fun s d =>
    if !d.tiles.isEmpty && d.tiles.all (fun n => (s.tile n).isNone) then s.loseHere d
    else s.iff (d.kind == 0 && !d.final && some d.unit == l) (fun s => s.endHere d)) s

/-! ### The kinds (R495) -/

/-- The entries of a lane that are not yet CONDITIONED. -/
def State.laneOpen (s : State) (l : Nat) : List Nat :=
  (s.ledger.tiles.filter (fun (t : Tile) => decide (t.src ≤ 1) && t.lane == l && t.state == 0)).map (fun (t : Tile) => t.num)

/-- The triggers that a lane holds. -/
def State.laneTrigs (s : State) (l : Nat) : List Trigger :=
  s.trigs.filter (fun (t : Trigger) => (t.path == 1 || t.path == 2) && t.out == l)

/-- A lane is retired. -/
def State.laneGone (s : State) (l : Nat) : State :=
  let was := s.dlv
  let s := s.setMapBit GLOBAL_RETIRED_LANE l
  let s := (s.laneOpen l).foldl (fun s n => s.dropEntry n) s
  let s := s.modTen l (fun x => { x with cur := none, wait := none, hdr := none, items := [], hdrIn := 0, fills := [], asm_ := none })
  let s := s.modEth l (fun x => { x with blocks := [] })
  let s := s.modCln l (fun x => { CondLane.reset with deal := x.deal, rot := x.rot, dealt := x.dealt, wptr := x.wptr })
  let s := if s.laneUp l then s.laneOut l 0x110C 8 else s.iff (!(s.krf l).held.isEmpty) (fun s => s.kerfFlush l)
  let s := ((s.laneOff l).queueTo l 0).afterAbort was (some l)
  let s := (s.laneTrigs l).foldl (fun s t => s.reportNotSent t) s
  (List.range 16).foldl (fun s u => s.settleBents u) s

/-- Every descriptor that a DMA channel still has completes with ABORTED. -/
def State.dmaKill (s : State) (b c : Nat) : Nat → State
  | 0 => s
  | fuel + 1 => if s.dmaState b c = 1 ∨ s.dmaState b c = 2 then ((s.dmaDone b c 4 false).dmaKill b c fuel) else s
def State.dmaAbort (s : State) (b c : Nat) : State := s.dmaKill b c (max 1 (s.get (BAY_DMA_CFG_LEN b c)))

/-- The gangs of lane `l` that have no engine left release their tiles. -/
def State.dealGone (s : State) (l : Nat) : State :=
  if !(s.gang l).isEmpty then s
  else
    let ts := (s.cln l).deal
    ts.foldl (fun s n => s.release n hDeal) (s.modCln l (fun x => { x with deal := [] }))

/-- An engine is retired. -/
def State.engGone (s : State) (e : Nat) : State :=
  let b := e / 8
  let s := s.setMapBit GLOBAL_RETIRED_ENG e
  let s := s.engFault e 0x0E 0 false
  let s := (s.en e).outs.foldl (fun s o => s.emitOut e o 0 none (2 ^ stPartial + 2 ^ stEngFault)) s
  let kept := (s.en e).kept.map (fun (k : Nat × Nat) => k.2)
  let s := kept.foldl (fun s n => s.engRelease e n) (s.modEng e (fun x => { x with kept := [] }))
  let s := s.flushQueues e
  let s := (List.range 8).foldl (fun s c => s.iff (s.get (BAY_DMA_CFG_OWNER b c) == e % 8) (fun s => s.dmaAbort b c)) s
  let s := (List.range 4).foldl (fun s i => s.dealGone (4 * b + i)) s
  s.put (ENG_STATUS_STATE e) 0

/-- The numbers of open outputs of a bay's engines: they are emitted empty. -/
def State.openOuts (s : State) (b : Nat) : List Nat :=
  (List.range 8).flatMap (fun j => (s.en (8 * b + j)).outs.map (fun (o : EngOut) => o.tile))

/-- The entries whose data lies in a bay's store or in its lanes' kerf buffers and has not reached POSTED. A stitched
tile's data lies in its bent. -/
def State.bayEntries (s : State) (b : Nat) : List Nat :=
  let out := s.openOuts b
  let inBent := fun n => (List.range 16).any (fun u => (s.scf u).bents.any (fun (x : Bent) =>
    x.tiles.any (fun (t : BentTile) => t.tile == n && t.done)))
  (s.ledger.tiles.filter (fun (t : Tile) => (decide (t.src ≤ 1) && t.lane / 4 == b && decide (t.state < 2) && !inBent t.num) ||
    (t.src == 2 && t.lane / 8 == b && decide (t.state < 3) && decide (t.num ∉ out)))).map (fun (t : Tile) => t.num)

/-- A bay's requesters drop what they ask for. -/
def State.arbForget (s : State) (r : Nat) : State :=
  (List.range 10).foldl (fun s a =>
    let had := match (s.arbOf a).hold with | some h => h.req == r | none => false
    let s := s.modArb a (fun x => { x with
      reqs := x.reqs.filter (fun (q : ArbReq) => q.req != r), hold := if had then none else x.hold })
    s.iff had (fun s => s.decideArb a)) s

/-- A bay is retired, with its lanes and engines. -/
def State.bayGone (s : State) (b : Nat) : State :=
  let was := s.dlv
  let s := s.wrN GLOBAL_RETIRED_BAY (Nat.lor (s.rdN GLOBAL_RETIRED_BAY) (2 ^ b))
  let lanes := (List.range 4).map (fun i => 4 * b + i)
  let s := (s.bayEntries b).foldl (fun s n => s.dropEntry n) s
  let s := lanes.foldl (fun s l => (s.modKrf l (fun x => { x with held := [], out := [] })).showKerf l) s
  let s := s.afterAbort was none
  let s := lanes.foldl (fun s l => s.iff (!s.laneRetired l) (fun s => s.laneGone l)) s
  let s := (List.range 8).foldl (fun s j => s.iff (!s.engRetired (8 * b + j)) (fun s => s.engGone (8 * b + j))) s
  let s := (List.range 8).foldl (fun s c => s.dmaAbort b c) s
  (s.setPushes b []).arbForget b

/-- A position channel is retired. -/
def State.posGone (s : State) (c : Nat) : State :=
  (s.put GLOBAL_RETIRED_MISC_POS (Nat.lor (s.get GLOBAL_RETIRED_MISC_POS) (2 ^ c))).posStop c

/-- A Sill port is retired: OFF, and the carried claim is evaluated again. -/
def State.sillGone (s : State) (p : Nat) : State :=
  let s := s.put GLOBAL_RETIRED_MISC_SILL (Nat.lor (s.get GLOBAL_RETIRED_MISC_SILL) (2 ^ p))
  (s.sillLeave p 0).carry

/-! ### The retire point -/

/-- Unit `i` of a kind (0 lane, 1 bay, 2 engine, 4 position channel, 5 Sill port) is already retired. -/
def State.unitGone (s : State) (kind i : Nat) : Bool := match kind with
  | 0 => s.laneRetired i || s.bayRetired (i / 4)
  | 1 => s.bayRetired i
  | 2 => s.engRetired i || s.bayRetired (i / 8)
  | 3 => s.ddrRetired i
  | 4 => s.posRetired i
  | _ => s.sillRetired i

/-- How many units a kind has. -/
def unitCount (kind : Nat) : Nat := match kind with | 0 => 96 | 1 => 24 | 2 => 192 | 3 => 8 | 4 => 16 | 5 => 4 | _ => 0

/-- A run-time retirement at the request of firmware, with the re-admission that follows (R495, R498). -/
def State.retireUnit (s : State) (kind i : Nat) : State :=
  if kind = 3 then s.ddrRetire i 6 true
  else
    let s := ((s.put GLOBAL_RETIRE_CMD_KIND kind).put GLOBAL_RETIRE_CMD_INDEX i).putB GLOBAL_RETIRE_CMD_GO false
    if s.unitGone kind i then s
    else
      let s := match kind with
        | 0 => s.laneGone i
        | 1 => s.bayGone i
        | 2 => s.engGone i
        | 4 => s.posGone i
        | _ => s.sillGone i
      let s := ((s.bump GLOBAL_CNT_RETIRE).putB GLOBAL_READMIT_PENDING true).logC 0x8070 noUnit (kind * 2 ^ 28 + i)
      s.readmit

/-- GO of GLOBAL_RETIRE_CMD as a register write sets it: KIND 3 is ignored, 6 and 7 act as no request, and so does
the number of a unit that does not exist. -/
def State.retireGo (s : State) (kind i : Nat) : State :=
  if kind = 3 ∨ unitCount kind ≤ i then s.putB GLOBAL_RETIRE_CMD_GO false else s.retireUnit kind i

/-- GLOBAL_RETIRE_CMD written by `master`: a host's write is ignored and counted. -/
def State.retireCmd (s : State) (master kind i : Nat) : State :=
  if !s.reaches master then s.unreached master
  else if master != 0 then s.badAccess master GLOBAL_RETIRE_CMD 3
  else s.retireUnit kind i

/-- RETIRE_LANE. -/
def execRetireLane (master : Fin 3) (l : Fin 96) (s : State) : Host.Outcome State Fault Refusal := .next (s.retireCmd master 0 l)
/-- RETIRE_BAY. -/
def execRetireBay (master : Fin 3) (b : Fin 24) (s : State) : Host.Outcome State Fault Refusal := .next (s.retireCmd master 1 b)
/-- RETIRE_ENGINE. -/
def execRetireEngine (master : Fin 3) (e : Fin 192) (s : State) : Host.Outcome State Fault Refusal := .next (s.retireCmd master 2 e)
/-- RETIRE_POSITION_CHANNEL. -/
def execRetirePositionChannel (master : Fin 3) (c : Fin 16) (s : State) : Host.Outcome State Fault Refusal :=
  .next (s.retireCmd master 4 c)
/-- RETIRE_SILL_PORT. -/
def execRetireSillPort (master : Fin 3) (p : Fin 4) (s : State) : Host.Outcome State Fault Refusal := .next (s.retireCmd master 5 p)

end Sys2Proof.Machine
end

