-- ==== Sys2Proof/Machine/Kernel.lean ====
section
/-!
DEFINITION. The Cut List's container (R77 to R79), kernel packages (R340 to R342), and a quarantined engine's restart
(R339).
-/

namespace Sys2Proof.Machine

open Reg

/-! ### The container -/

/-- A directory entry (R78). -/
structure ClSect where
  type : Nat
  flags : Nat
  off : Nat
  len : Nat
  digest : List Byte
  deriving DecidableEq, Repr

/-- The directory of a Cut List, with the number of each section. -/
def clSects (cl : List Byte) : List (Nat × ClSect) :=
  (List.range (bytesAt cl 6 2)).map (fun i =>
    let a := 64 + 48 * i
    (i, ⟨bytesAt cl a 2, bytesAt cl (a + 2) 2, bytesAt cl (a + 4) 4, bytesAt cl (a + 8) 4, (cl.drop (a + 16)).take 32⟩))

/-- The bytes of a section. -/
def ClSect.bytes (x : ClSect) (cl : List Byte) : List Byte := (cl.drop x.off).take x.len

/-- The bytes of the sections of a type, in file order. -/
def clOf (cl : List Byte) (type : Nat) : List (List Byte) :=
  ((clSects cl).filter (fun (x : Nat × ClSect) => x.2.type == type)).map (fun (x : Nat × ClSect) => x.2.bytes cl)

/-- The Cut List in force, read from its slot; nothing once the slot holds another build (R89). -/
def State.clInForce (s : State) : List Byte :=
  if s.mc.clOk then s.clSlot (s.get GLOBAL_BOOT_STATUS_CL_SLOT) else []

/-! ### Kernel packages (R341, R342) -/

/-- The owner key digest of a generation, if it is a candidate (R92). -/
def State.ownerKey (s : State) (slot : Nat) : List (List Byte) :=
  if slot < 8 ∧ s.slotIs 1 slot = .candidate then [(s.otpSlot 1 slot).take 32] else []

/-- Whether a KERNEL section names engine `e` (R340). -/
def named (sec : List Byte) (e : Nat) : Bool := bit (bytesAt sec (e / 8) 1) (e % 8)
/-- The engines of a KERNEL section that are in service. -/
def State.engines (s : State) (sec : List Byte) : List Nat :=
  (List.range 192).filter (fun e => named sec e && !s.engRetired e)

/-- Whether a package passes the checks of R342 for the engines given. -/
def State.kernelOk (s : State) (p : List Byte) (es : List Nat) : Bool :=
  let len := bytesAt p 8 4
  let code := bytesAt p 28 4
  let data := bytesAt p 36 4
  let body := len - 4096
  bytesAt p 0 4 == 0x4B505747 && bytesAt p 4 2 == 0x0100 && bytesAt p 6 2 == 0x0100 && decide (4160 ≤ len) &&
    decide (len ≤ p.length) && code % 4 == 0 && decide (code ≤ 32768) && decide (data ≤ 131072) &&
    decide (bytesAt p 24 4 + code ≤ body) && decide (bytesAt p 32 4 + data ≤ body) &&
    es.all (fun e => (List.range 8).all (fun i => s.get (ENG_IN_CFG_KIND e i) % 3 == 0 || decide (bytesAt p (40 + 2 * i) 2 < code / 4))) &&
    trailerOk (s.ownerKey (bytesAt p 56 1)) ctxKp (p.take body) ((p.drop body).take 4096)

/-- An engine's memories are loaded: IMEM takes the code, DMEM the data followed by zeros. -/
def State.loadMems (s : State) (p : List Byte) (e : Nat) : State :=
  let code := (p.drop (bytesAt p 24 4)).take (bytesAt p 28 4)
  let data := (p.drop (bytesAt p 32 4)).take (bytesAt p 36 4)
  let im := ckeep (fun k => k / 32768 != e) s.imem
  let dm := ckeep (fun k => k / 131072 != e) s.dmem
  let s := { s with imem := csetN (fun _ => 0) im (e * 32768) code, dmem := csetN (fun _ => 0) dm (e * 131072) data }
  s.modEng e (fun x => { x with codeLen := code.length })

/-- An engine takes a kernel (R342). -/
def State.loadKernel (s : State) (p : List Byte) (e : Nat) : State :=
  let s := (List.range 8).foldl (fun s i => s.put (ENG_IN_CFG_ENTRY e i) (bytesAt p (40 + 2 * i) 2)) (s.loadMems p e)
  let s := (s.wrN (ENG_KERNEL_ID e) (bytesAt p 16 4)).wrN (ENG_KERNEL_ID_HI e) (bytesAt p 20 4)
  (s.putB (ENG_STATUS_KERNEL_OK e) true).put (ENG_STATUS_STATE e) 1

/-- 0x7310 with an engine's number (R345); the number of the check that failed is not stated. -/
def State.logKernel (s : State) (e : Nat) : State :=
  let r := s.free
  r.2.logC 0x7310 e r.1

/-- A KERNEL section is loaded, or its engines are quarantined (R342). DESIGN CHOICE: the one entry 0x7310 of a section
carries the lowest engine of its mask. -/
def State.applyKernel (s : State) (sec : List Byte) : State :=
  let es := s.engines sec
  let p := sec.drop 64
  if s.kernelOk p es then es.foldl (fun s e => s.loadKernel p e) s
  else es.foldl (fun s e => (s.raise 2 (ENG_EVENTS_KERNEL_FAIL e)).quarantine e 3) (s.logKernel (es.headD noUnit))

/-- The KERNEL section of the Cut List in force that names an engine, if its digest still fits. -/
def State.kernelOf (s : State) (e : Nat) : Option (List Byte) :=
  let cl := s.clInForce
  match (clSects cl).find? (fun (x : Nat × ClSect) => x.2.type == 4 && named (x.2.bytes cl) e) with
  | some x => if digest (x.2.bytes cl) = x.2.digest then some (x.2.bytes cl) else none
  | none => none

/-- RESTART takes effect on a quarantined engine (R339): its memories are loaded again, or the whole kernel where its first
load had failed (R342). -/
def State.restartEng (s : State) (e : Nat) : State :=
  if !s.quarantined e || s.engRetired e then s
  else match s.kernelOf e with
    | none => s.logKernel e
    | some sec =>
      if !s.kernelOk (sec.drop 64) [e] then s.logKernel e
      else
        let s := (if s.flag (ENG_STATUS_KERNEL_OK e) then s.loadMems (sec.drop 64) e else s.loadKernel (sec.drop 64) e).flushQueues e
        let kept := (s.en e).kept.map (fun (k : Nat × Nat) => k.2)
        let s := kept.foldl (fun s n => s.engRelease e n) (s.modEng e (fun x => { x with kept := [] }))
        ((s.showEng e).put (ENG_STATUS_STATE e) 1).romUpdate

/-- RESTART (R339, R344): RESTART in ENG_CMD, written by `master`; only the MC may write it. -/
def execRestart (e : Fin 192) (master : Fin 3) (s : State) : Host.Outcome State Fault Refusal :=
  if !s.reaches master then .next (s.unreached master)
  else if master.val ≠ 0 then .next (s.badAccess master (ENG_CMD e) 3)
  else .next (s.restartEng e)

end Sys2Proof.Machine
end

