-- ==== Sys2Proof/Machine/Commit.lean ====
section
/-!
DEFINITION. The commits that let the device run: CL_COMMIT, LINK_RELEASE and OUTPUT_COMMIT (R42, R44, R85, R88, R90).
-/

namespace Sys2Proof.Machine

open Reg

/-- CL_COMMIT is set: the RWL fields lock (R85). -/
def State.setClCommit (s : State) : State := s.putB GLOBAL_COMMIT_CL_COMMIT true

/-- LINK_RELEASE is set: lanes, Sill ports and position channels start together (R88). -/
def State.setRelease (s : State) : State :=
  if s.linkRelease then s
  else
    let s := s.putB GLOBAL_COMMIT_LINK_RELEASE true
    let s := (List.range 96).foldl (fun s l => s.laneUpdate l 7) s
    (List.range 16).foldl (fun s c => s.posStart c) s.sillStart

/-- LINK_RELEASE is cleared: they are disabled (R88). -/
def State.clearRelease (s : State) : State :=
  if !s.linkRelease then s
  else
    let s := s.putB GLOBAL_COMMIT_LINK_RELEASE false
    let s := (List.range 96).foldl (fun s l => s.laneUpdate l 7) s
    let s := (List.range 16).foldl (fun s c => s.iff (s.pch c).runs (fun s => s.posStop c)) s
    ((List.range 4).foldl (fun s p => s.iff (s.sillState p != 0) (fun s => s.sillLeave p 0)) s).carry

/-- The pins that drive from OUTPUT_COMMIT on: those with a record in a bank that is not disabled (R42, R84). -/
def State.drivenPins (s : State) : List Nat :=
  (List.range 64).filter (fun g => s.flag (GPIO_OWNER_RECORD g) && s.flag (GPIO_OWNER_BANK_OK g))

/-- A cycle timer that is enabled takes the first pulse that is not past (R254). -/
def State.cycStart (s : State) (i : Nat) : State :=
  s.modTb (fun t => { t with cycNext := cset (fun _ => 0) t.cycNext i (s.cycFirst i s.nowI false) })

/-- PPS_OUT begins with the next whole second (R90, R252). -/
def State.ppsStart (s : State) : State := s.modTb (fun t => { t with ppsSkip := s.ppsSecond s.nowI })

/-- OUTPUT_COMMIT is set (R42, R90): pins drive their idle levels; sequencers, cycle timers and PPS_OUT start; windows
of R65 begin at the first commit. -/
def State.setOutputs (s : State) : State :=
  if s.outCommit then s
  else
    let s := s.putB GLOBAL_COMMIT_OUTPUT_COMMIT true
    let pins := s.drivenPins
    let word := fun w => bitsOf 32 (fun i => decide (32 * w + i ∈ pins))
    let s := ((s.wrN GPIO_DRIVE_LO (word 0)).wrN GPIO_DRIVE_HI (word 1)).wrN GPIO_ACTIVE_LO 0 |>.wrN GPIO_ACTIVE_HI 0
    let s := s.iff (!s.droop.winOn) (fun s => s.modDroop (fun d => { d with winOn := true, winHalved := 0, winOver := false, winFrom := s.tb.ticks }))
    let s := (List.range 16).foldl (fun s i => s.iff (s.flag (TB_CYC_CFG_EN i)) (fun s => s.cycStart i)) s.ppsStart
    (List.range 128).foldl (fun s q => (s.modSq q (fun x => { x with fired := 0 })).trigStart q) s

/-- The committed firings that OUTPUT_COMMIT stops (R217): on paths 0 and 3 those due now or later; on lanes those that
have not left. DEDUCED: for path 1 the launch slot decides, not the instant. -/
def State.firingsHeld (s : State) : List Trigger :=
  s.trigs.filter (fun (t : Trigger) => !t.sent && !t.firedNow && (t.path == 1 || t.path == 2 || decide (s.nowI ≤ t.tf)))

/-- OUTPUT_COMMIT is cleared (R44, R90, R217): field outputs are released, pulses are cut short, what is committed but not
due is not sent, sequencers stop, kerf buffers flush, SSI channels stop. -/
def State.clearOutputs (s : State) : State :=
  if !s.outCommit then s
  else
    let s := s.putB GLOBAL_COMMIT_OUTPUT_COMMIT false
    let s := ((s.wrN GPIO_DRIVE_LO 0).wrN GPIO_DRIVE_HI 0).wrN GPIO_ACTIVE_LO 0 |>.wrN GPIO_ACTIVE_HI 0
    let s := s.dropPulses.modTb (fun t => { t with ppsActive := false })
    let s := s.firingsHeld.foldl (fun s t => s.reportNotSent t) s
    let s := (List.range 128).foldl (fun s q => s.iff (s.trRunning q) (fun s => s.trigStop q)) s
    let s := (List.range 96).foldl (fun s l => s.kerfFlush l) s
    (List.range 16).foldl (fun s c => s.iff (s.pch c).ssiFrame.isSome (fun s => s.modPch c (fun p => { p with ssiFrame := none, ssiStart := none }))) s

end Sys2Proof.Machine
end

