-- ==== Sys2Proof/Machine/RegWrite.lean ====
section
/-!
DEFINITION. The register network: where an offset leads, which rules refuse a write (R130 and those of R504), what a
write starts, the writes of one CLK_FAB cycle (R4, R19, R406), reads (R4, R9), and the commands that are one write of a
command or enable field.
-/

namespace Sys2Proof.Machine

open Reg

/-! ### Where an offset leads -/

/-- The number of the unit and the offset within it, of `n` units of `st` bytes from `base` on. -/
def unitAt (o base n st : Nat) : Option (Nat × Nat) :=
  if base ≤ o ∧ o < base + n * st then some ((o - base) / st, (o - base) % st) else none

/-- The register word that a BAR0 offset reaches for `master`: the alias of the schedule table (R510), the local view and
the MSI-X table of the arriving port (R406), the personality of a lane (R507) and what is live in a bond (R168, R311). -/
def State.place (s : State) (master o : Nat) : Option Nat :=
  if 0x400000 ≤ o then none
  else if 0x300000 ≤ o ∧ o < 0x340000 then some (o - 0x300000 + 0xA0000)
  else if 0x240000 ≤ o ∧ o < 0x244000 then if master = 0 then none else some (o + 0x4000 * master)
  else if 0x250000 ≤ o ∧ o < 0x260000 then
    if master = 0 then none else some (0x2000000 + 0x10000 * (master - 1) + (o - 0x250000))
  else match unitAt o 0x100000 96 0x400 with
    | none => match unitAt o 0x188000 96 0x40 with
      | some (l, _) => if l = s.boss l then some o else none
      | none => some o
    | some (l, r) =>
      if r < 0x100 then some o
      else match s.lanePers l with
        | 0 => none
        | 1 => if l = s.boss l ∨ r = 0x100 ∨ r = 0x110 then some o else none
        | _ => some (o + ethShift)

/-! ### What serves an admitted stream (R130) -/

/-- A lane on the path of an admitted stream. -/
def State.laneServing (s : State) (l : Nat) : Bool := !(s.laneStreams l).isEmpty
/-- A sequencer that triggers such a lane. -/
def State.seqServing (s : State) (q : Nat) : Bool :=
  (s.trPath q == 1 || s.trPath q == 2) && decide (s.trOut q < 96) && s.laneServing (s.trOut q)
/-- A position channel with such a sequencer. -/
def State.chanServing (s : State) (c : Nat) : Bool := (List.range 128).any (fun q => s.trChan q == c && s.seqServing q)
/-- A scarf unit of an admitted stream. -/
def State.scarfServing (s : State) (u : Nat) : Bool := s.admittedAll.any (fun st => s.kindOf st == 1 && s.srcOf st % 16 == u)
/-- An engine of an admitted stream. -/
def State.engServing (s : State) (e : Nat) : Bool :=
  s.admittedAll.any (fun st => (s.kindOf st == 2 || s.kindOf st == 3) && s.srcOf st % 192 == e)

/-! ### Guards: whether a register is refused to its master, and the bits that a rule protects (R504) -/

def allBits : Nat := 0xFFFFFFFF
/-- Every bit but bit `i`. -/
def butBit (i : Nat) : Nat := allBits - 2 ^ i
/-- Every bit, if a rule protects the register now. -/
def shut (b : Bool) : Nat := if b then allBits else 0

/-- LANE, TENON and kerf-free lane registers (R127, R130, R168, R495). -/
def State.laneGuard (s : State) (host : Bool) (l r : Nat) : Bool × Nat :=
  (host && decide (r ∈ [0, 0x18, 0x1C, 0x40, 0x100, 0x104, 0x108]) && s.laneServing l,
    if r = 0 then b2n (s.laneRetired l) else if r = 0x40 ∧ s.flag (LANE_CTRL_ENABLE l) then 0x30FF1 else 0)

/-- The Ethernet registers of a lane (R187). -/
def State.ethGuard (s : State) (host : Bool) (l r : Nat) : Bool × Nat :=
  (host && decide (r ∈ [0x100, 0x10C, 0x110, 0x114, 0x118, 0x11C, 0x120, 0x124]) && s.laneServing l, 0)

/-- Whether a lane or an engine of a bay is enabled. -/
def State.bayActive (s : State) (b : Nat) : Bool :=
  (List.range 4).any (fun j => s.flag (LANE_CTRL_ENABLE (4 * b + j))) || (List.range 8).any (fun j => s.flag (ENG_CTRL_ENABLE (8 * b + j)))

/-- Conditioning and engine registers of a bay (R293, R344, R495). -/
def State.bayGuard (s : State) (host : Bool) (b r : Nat) : Bool × Nat :=
  match unitAt r 0x100 4 0x40, unitAt r 0x400 8 0x100 with
  | some (j, q), _ =>
    (host && s.laneServing (4 * b + j), shut (decide (0x10 ≤ q) && decide (q ≤ 0x30) && s.flag (LANE_CTRL_ENABLE (4 * b + j))))
  | _, some (j, q) =>
    let e := 8 * b + j
    (host && (q == 8 || s.engServing e),
      if q = 0 then b2n (s.engRetired e)
      else shut ((q == 0x14 || q == 0x18 || (decide (0x20 ≤ q) && decide (q < 0xA0))) && s.flag (ENG_CTRL_ENABLE e)))
  | none, none =>
    (host && decide (0x200 ≤ r) && decide (r < 0x400) && (List.range 4).any (fun j => s.laneServing (4 * b + j)),
      shut (decide (0xC00 ≤ r) && decide (r < 0xD60) && s.bayActive b))

/-- Registers of a scarf unit (R311). -/
def State.stitchGuard (s : State) (host : Bool) (u r : Nat) : Bool × Nat :=
  (host && s.scarfServing u,
    if !s.flag (STITCH_CTRL_EN u) then 0 else if r = 0 then butBit 0 else shut (r == 4 || r == 0xC || decide (0x200 ≤ r)))

/-- Kerf registers of a lane (R311). -/
def State.kerfGuard (s : State) (host : Bool) (l : Nat) : Bool × Nat :=
  (host && s.laneServing l, shut (s.flag (LANE_CTRL_ENABLE l)))

/-- Registers of a sequencer (R238). -/
def State.trigGuard (s : State) (host : Bool) (q r : Nat) : Bool × Nat :=
  (host && s.seqServing q,
    if !s.flag (TRIG_CTRL_ENABLE q) then 0
    else if r = 0 then butBit 0
    else shut (r == 4 || (decide (0x10 ≤ r) && decide (r < 0x60))))

/-- Registers of a position channel (R215, R495). -/
def State.posGuard (s : State) (host : Bool) (c r : Nat) : Bool × Nat :=
  (host && decide (r < 0x48) && s.chanServing c,
    if r = 0 then b2n (s.posRetired c) + (if s.flag (POS_CTRL_ENABLE c) then 0xFF0E else 0)
    else shut (decide (r ∈ [0x18, 0x1C, 0x20, 0x34, 0x38]) && s.flag (POS_CTRL_ENABLE c)))

/-- Registers of the event matrix (R261, R267): enables of sequencers, and selectors with the place of their EN. -/
def State.evtGuard (s : State) (host : Bool) (r o : Nat) : Bool × Nat :=
  let sel := fun (en : Nat) => (false, if bit (s.rdN o) en then butBit en else 0)
  if r < 0x100 then (host && s.seqServing (r / 16), 0)
  else if 0x400 ≤ r ∧ r < 0x440 then (host && s.seqServing ((r - 0x400) / 4), 0)
  else if 0x500 ≤ r ∧ r < 0x520 then sel 15
  else if 0x520 ≤ r ∧ r < 0x560 then sel 31
  else if 0x560 ≤ r ∧ r < 0x580 then sel 7
  else if (0x580 ≤ r ∧ r < 0x590) ∨ (0x600 ≤ r ∧ r < 0x680) then sel 15
  else (false, 0)

/-- The schedule table: no write reaches a ring partition (R227). -/
def State.inRingPart (s : State) (i : Nat) : Bool :=
  (List.range 128).any (fun q => s.trRing q &&
    decide ((i + 16384 - s.get (TRIG_LIST_BASE q)) % 16384 < max 1 (s.get (TRIG_LIST_LEN q))))

/-- Cycle timers and PWMs: all but EN is protected while EN is 1 (R254, R509). -/
def State.cycGuard (s : State) (i r : Nat) : Bool × Nat :=
  (false, if !s.flag (TB_CYC_CFG_EN i) then 0 else if r = 0 then butBit 0 else allBits)
def State.pwmGuard (s : State) (k r : Nat) : Bool × Nat :=
  (false, if s.flag (GPIO_PWM_CFG_EN k) ∧ r = 0 then butBit 0 else 0)

/-- DDR4 registers: ranks of privileged requesters (R130). -/
def State.ddrGuard (s : State) (host : Bool) (k r : Nat) : Bool × Nat :=
  (false, if host ∧ 0x90 ≤ r ∧ r < 0xA0 then
      ((List.range 8).filter (fun i => s.arbPriv k (2 * (r - 0x90) + i))).foldl (fun m i => m + 7 * 2 ^ (4 * i)) 0
    else 0)

/-- Registers of a port area (R411, R415). -/
def State.pcieGuard (s : State) (master p r : Nat) : Bool × Nat :=
  (if r = 0x18 ∨ r = 0x20 then !ownPort master p
    else if 0x100 ≤ r ∧ r < 0x200 then !ownPort master p || s.flag (PCIE_WIN_STATUS_COMMIT_PENDING p)
    else false, 0)

/-- A mailbox area: its own port, and only while STATE is not BUSY (R416). -/
def State.mboxGuard (s : State) (master p : Nat) : Bool × Nat :=
  (!ownPort master p, shut (s.get (MBOX_STATUS_STATE p) == 1))

/-- The guard of the register word at `o` for a write of `v` by `master`. -/
def State.guard (s : State) (master o v : Nat) : Bool × Nat :=
  let host := master != 0
  let found : Option (Bool × Nat) :=
    (unitAt o 0x10000 2 0x4000).map (fun x => s.mboxGuard master x.1) <|>
    (unitAt o 0x20200 16 0x20).map (fun x => s.cycGuard x.1 x.2) <|>
    (unitAt o 0x30000 1 0x10000).map (fun x => s.evtGuard host x.2 o) <|>
    (unitAt o 0x40000 16 0x400).map (fun x => s.posGuard host x.1 x.2) <|>
    (unitAt o 0x80000 128 0x100).map (fun x => s.trigGuard host x.1 x.2) <|>
    (unitAt o 0xA0000 16384 0x10).map (fun x => (s.inRingPart x.1, 0)) <|>
    (unitAt o 0x100000 96 0x400).map (fun x => s.laneGuard host x.1 x.2) <|>
    (unitAt o (0x100000 + ethShift) 96 0x400).map (fun x => s.ethGuard host x.1 x.2) <|>
    (unitAt o 0x140000 24 0x1000).map (fun x => s.bayGuard host x.1 x.2) <|>
    (unitAt o 0x180000 16 0x800).map (fun x => s.stitchGuard host x.1 x.2) <|>
    (unitAt o 0x188000 96 0x40).map (fun x => s.kerfGuard host x.1) <|>
    (unitAt o 0x1C0000 8 0x1000).map (fun x => s.ddrGuard host x.1 x.2) <|>
    (unitAt o 0x244000 2 0x4000).map (fun x => s.pcieGuard master x.1 x.2) <|>
    (unitAt o 0x2C0200 8 0x10).map (fun x => s.pwmGuard x.1 x.2)
  match found with
  | some g => g
  | none =>
    if o = DLV_RECALL_REQ then (false, if s.flag DLV_RECALL_REQ_BUSY then 2 ^ 31 else 0)
    else if o = SILL_SCHED_CMD then (false, if s.flag SILL_SCHED_CMD_GO then 2 ^ 31 else 0)
    else match unitAt o 0x280100 4 0x80, unitAt o 0x200080 256 0x100 with
      | some (q, 0), _ => (false, b2n (s.sillRetired q))
      | _, some (st, r) => (false, shut (r % 0x40 == 0x1C && decide (r < 0x80) && !s.tailOk st (r / 0x40) (BitVec.ofNat 32 v)))
      | _, _ => (false, 0)

/-! ### What a write starts -/

/-- Whether a port's GO is served: by firmware, or by the boot ROM in recovery, on port A (R76, R416). -/
def State.mboxServed (s : State) (p : Nat) : Bool :=
  !s.power.mcDown && (s.mc.fwOn || (s.flag GLOBAL_BOOT_STATUS_RECOVERY && p == 0))

/-- GO of a mailbox is accepted (R416): STATE is BUSY; without firmware the answer is BUSY at once. -/
def State.mboxGo (s : State) (p : Nat) : State :=
  let s := s.put (MBOX_STATUS_STATE p) 1
  if s.mboxServed p then s.modMc (fun m => { m with mboxOrder := m.mboxOrder ++ [p] }) else s.mboxDone p 1

/-- GLOBAL_COMMIT is written with `v` (R85, R88, R90); CL_COMMIT never clears but by reset. -/
def State.commitWrite (s : State) (old v : Nat) : State :=
  let s := s.wrN GLOBAL_COMMIT old
  let s := s.iff (bit v 2) State.setClCommit
  let s := if bit v 1 then s.setRelease else s.clearRelease
  if bit v 0 then s.setOutputs else s.clearOutputs

/-- A command register of several bits acts, lowest bit first, and clears. -/
def State.acts (s : State) (o act : Nat) (fs : List (State → State)) : State :=
  (List.range fs.length).foldl (fun s i => s.iff (bit act i) (fs.getD i id)) (s.wrN o 0)

/-- Whether bit `i` rose, or fell. -/
def rose (old new i : Nat) : Bool := !bit old i && bit new i
def fell (old new i : Nat) : Bool := bit old i && !bit new i

/-- What a write of a register of the GLOBAL, TB, EVT, DLV, SILL and GPIO blocks starts. -/
def State.wroteMisc (s : State) (o old act : Nat) : State :=
  let new := s.rdN o
  if o = GLOBAL_COMMIT then s.commitWrite old new
  else if o = GLOBAL_DROOP_CTRL then s.iff (bit act 1) State.forceHalve
  else if o = GLOBAL_RESET_CTRL then ((s.wrN o 0).iff (bit act 0) (fun s => s.sysReset 2)).iff (bit act 1) (fun s => s.mcReset 5)
  else if o = GLOBAL_RETIRE_CMD then s.iff (bit act 31) (fun s => s.retireGo (getBits new 28 3) (getBits new 0 8))
  else if o = TB_CTRL then s.iff (rose old new 1) State.ppsStart
  else if o = TB_SLEW then s.slewStart act
  else if o = TB_CMD then s.acts o act [(fun s => s.tbStep true (bit act 1)), (fun s => s.iff (!bit act 0) (fun s => s.tbStep false true)),
      State.tbSnap, State.slewAbort]
  else if o = EVT_CMD then s.acts o act [fun s => s.produce 111 0]
  else if o = DLV_RECALL_REQ then s.iff (bit act 31) (fun s => (s.putB DLV_RECALL_REQ_GO false).recallStart)
  else if o = SILL_CMD then s.iff (bit act 0) State.swapReq
  else if o = SILL_SCHED_CMD then s.iff (bit act 31) State.schedGo
  else match unitAt o 0x20200 16 0x20, unitAt o 0x2C0200 8 0x10 with
    | some (i, 0), _ => s.iff (rose old new 0) (fun s => s.cycStart i)
    | _, some (_, 0) => s.iff (fell old new 0) (fun s =>
        (s.setPulseEnd (getBits old 8 6) none).pinActive (getBits old 8 6) false)
    | _, _ => s

/-- What a write of a lane register starts (R112, R123 to R125, R155). -/
def State.wroteLane (s : State) (l r old act : Nat) : State :=
  let new := s.rdN (LANE_CTRL l + r)
  match r with
  | 0 => (s.laneUpdate l 7).iff (bit act 15) (fun s => s.retrain l)
  | 0x40 => (s.iff (!s.flag (LANE_CTRL_ENABLE l) || bit old 0 != bit new 0 || getBits old 8 4 != getBits new 8 4) (fun s =>
      s.modPhy l (fun x => { x with chkOn := false }))).iff (bit act 23) (fun s => s.injectErr l)
  | 0x138 => s.iff (bit act 0) (fun s => s.ctrlGo l)
  | _ => s

/-- What a write of a bay register starts (R270, R271, R283, R329, R337, R339). -/
def State.wroteBay (s : State) (b r old act : Nat) : State :=
  match unitAt r 0x100 4 0x40, unitAt r 0x400 8 0x100, unitAt r 0xC00 8 0x20 with
  | some (j, q), _, _ =>
    let l := 4 * b + j
    if q = 4 then s.judgeFill l (s.get (BAY_COND_STATUS_FILL l))
    else if q = 0xC then (s.iff (bit act 1) (fun s => s.clearPeak l)).iff (bit act 0) (fun s => s.askSwap l)
    else s
  | _, some (j, 8), _ => s.acts (ENG_CMD (8 * b + j)) act [(fun s => s.engFault (8 * b + j) 0x0E 0 false), (fun s => s.restartEng (8 * b + j))]
  | _, _, some (c, 0) => s.iff (rose old (s.rdN (BAY_DMA_CFG b c)) 0) (fun s => s.dmaLook b c)
  | _, _, _ => s

/-- What a write of a sequencer's register starts (R237). -/
def State.wroteTrig (s : State) (q r old act : Nat) : State :=
  if r = 0 then
    let new := s.rdN (TRIG_CTRL q)
    if rose old new 0 then s.trigStart q else if fell old new 0 then s.trigStop q else s
  else if r = 0x68 then s.acts (TRIG_CMD q) act [(fun s => s.resync q), (fun s => s.ringClear q), (fun s => s.fireNow q)]
  else s

/-- What a write of a position channel's register starts (R198, R214). -/
def State.wrotePos (s : State) (c r old act : Nat) : State :=
  if r = 0 then
    let new := s.rdN (POS_CTRL c)
    if fell old new 0 then s.posStop c else s.posStart c
  else if r = 0x48 then
    s.acts (POS_CMD c) act [(fun s => s.presetPos c), (fun s => s.armPos c), (fun s => s.posSnap c), (fun s => s.obsReset c)]
  else s

/-- What a write that reached the word at `o` starts; `old` is the word before, `act` the bits written that took
effect. -/
def State.wrote (s : State) (o old act : Nat) : State :=
  let found : Option State :=
    (unitAt o 0x10000 2 0x4000).map (fun x => if x.2 = 0x2000 ∧ bit act 0 then s.mboxGo x.1 else s) <|>
    (unitAt o 0x40000 16 0x400).map (fun x => s.wrotePos x.1 x.2 old act) <|>
    (unitAt o 0x80000 128 0x100).map (fun x => s.wroteTrig x.1 x.2 old act) <|>
    (unitAt o 0x100000 96 0x400).map (fun x => s.wroteLane x.1 x.2 old act) <|>
    (unitAt o 0x140000 24 0x1000).map (fun x => s.wroteBay x.1 x.2 old act) <|>
    (unitAt o 0x180000 16 0x800).map (fun x =>
      if x.2 ≠ 0 then s
      else if rose old (s.rdN o) 0 then s.stitchOn x.1 else if fell old (s.rdN o) 0 then s.stitchOff x.1 else s) <|>
    (unitAt o 0x1C0000 8 0x1000).map (fun x => if x.2 = 0 then s.showDdrLock
      else if x.2 = 8 then s.acts (DDR_CTRL x.1) act [fun s => s.ddrRetire x.1 6 true] else s) <|>
    (unitAt o 0x244000 2 0x4000).map (fun x =>
      if x.2 = 0 then s.pcieCfgApply x.1
      else if x.2 = 0x20 ∧ bit act 0 ∧ ¬ s.flag (PCIE_WIN_STATUS_COMMIT_PENDING x.1) then s.windowCommit x.1
      else s)
  found.getD (s.wroteMisc o old act)

/-! ### Writes -/

/-- Whether software can write any bit of a row. -/
def RegRow.writable (r : RegRow) : Bool := r.rw != 0 || r.rwl != 0 || r.w1c != 0 || r.w1s != 0 || r.wo != 0

/-- The sequencer whose TRIG_PUSH lies at `o`. -/
def pushAt (o : Nat) : Option Nat := match unitAt o 0x80000 128 0x100 with
  | some (q, r) => if r = 0x60 ∨ r = 0x64 then some q else none
  | none => none

/-- A 32-bit write of `v` by `master` at BAR0 offset `o`, with the CAUSE it is refused for (0: not). TB_INCR and
TRIG_PUSH take wide writes only (R227, R242). -/
def State.write32 (s : State) (master o v : Nat) : State × Nat :=
  match s.place master o with
  | none => (s, 0)
  | some a =>
    if a = TB_INCR then (s.modTb (fun t => { t with incrLow := BitVec.ofNat 32 v }), 0)
    else if a = TB_INCR + 4 then (s.incrWrite false v, 0)
    else if (pushAt a).isSome then (s, 3)
    else match findRow a with
      | none => (s, 0)
      | some r =>
        let g := s.guard master a v
        let whole := r.writable && (g.1 || (r.mc && master != 0))
        match unitAt a 0x1C0000 8 0x1000 with
        | some (k, 0xC) => if whole then (s, 3) else (s.eraseWrite k v, 0)
        | _ =>
          let x := s.store a r whole g.2 v
          if whole then x else (x.1.wrote a (s.rdN a) (v - Nat.land v g.2), x.2)

/-- The lower of two causes, 0 being none. -/
def minCause (a b : Nat) : Nat := if a = 0 then b else if b = 0 then a else min a b

/-- An aligned 64-bit write. -/
def State.write64 (s : State) (master o v : Nat) : State × Nat :=
  match pushAt o, decide (o = TB_INCR) with
  | some q, _ => if (s.guard master (TRIG_PUSH q) 0).1 || !s.trRing q then (s, 3) else (s.ringPush q v, 0)
  | _, true => (s.incrWrite true v, 0)
  | _, _ =>
    let x := s.write32 master o (v % 2 ^ 32)
    let y := x.1.write32 master (o + 4) (v / 2 ^ 32 % 2 ^ 32)
    (y.1, minCause x.2 y.2)

/-- One access of at most 8 bytes (R4): of another size or alignment it is discarded whole; refused, it is counted and
published once (R504). -/
def State.writePiece (s : State) (master o size v : Nat) : State :=
  if (size ≠ 4 ∧ size ≠ 8) ∨ o % size ≠ 0 then s.badAccess master o 1
  else
    let x := if size = 4 then s.write32 master o (v % 2 ^ 32) else s.write64 master o v
    x.1.iff (x.2 != 0) (fun s => s.badAccess master o x.2)

/-- A write: a longer one is carried out as successive 32-bit accesses (R406). -/
def State.busWrite (s : State) (w : BusWrite) : State :=
  let m := w.master.val
  if !s.reaches m then s.unreached m
  else if w.size ≤ 8 then s.writePiece m w.off w.size w.value
  else
    let first := w.off / 4
    let last := (w.off + w.size - 1) / 4
    (List.range (last + 1 - first)).foldl (fun s i =>
      let lo := max w.off (4 * (first + i))
      let hi := min (w.off + w.size) (4 * (first + i) + 4)
      s.writePiece m lo (hi - lo) (getBits w.value (8 * (lo - w.off)) 32)) s

/-- The register words that a write reaches, each with its row and the place of its bits in the value. -/
def State.piecesOf (s : State) (w : BusWrite) : List (Nat × RegRow × Nat) :=
  if !s.reaches w.master || (decide (w.size ≤ 8) && (decide (w.size ≠ 4 ∧ w.size ≠ 8) || w.off % w.size != 0)) then []
  else
    let first := (w.off + 3) / 4
    (List.range ((w.off + w.size) / 4 - first)).filterMap (fun i => (s.place w.master (4 * (first + i))).bind (fun a =>
      (findRow a).map (fun r => (a, r, 8 * (4 * (first + i) - w.off)))))

/-- The register words that a write reaches. -/
def State.wordsOf (s : State) (w : BusWrite) : List Nat := (s.piecesOf w).map (fun x => x.1)

/-- The W1C bits that a write clears: they clear first in their CLK_FAB cycle, so that what the device sets in that cycle
reads 1 afterwards (R6). -/
def State.clearsOf (s : State) (w : BusWrite) : State :=
  (s.piecesOf w).foldl (fun s (x : Nat × RegRow × Nat) =>
    let v := getBits w.value x.2.2 32
    if (s.guard w.master x.1 v).1 || (x.2.1.mc && w.master.val != 0) then s
    else s.wrN x.1 (s.rdN x.1 - Nat.land (s.rdN x.1) (Nat.land v x.2.1.w1c))) s

/-- A write without the W1C bits that it clears. -/
def State.sansClears (s : State) (w : BusWrite) : BusWrite :=
  { w with value := (s.piecesOf w).foldl (fun v (x : Nat × RegRow × Nat) =>
      v - Nat.land (getBits v x.2.2 32) x.2.1.w1c * 2 ^ x.2.2) w.value }

/-- The writes of one CLK_FAB cycle in their order (R19), each counted in GLOBAL_WRITE_COLLIDE if another master's write
to the same register follows it. -/
def State.writesInOrder : List BusWrite → State → State
  | [], s => s
  | w :: ws, s =>
    let mine := s.wordsOf w
    let hit := ws.any (fun (x : BusWrite) => x.master != w.master && (s.wordsOf x).any (fun a => decide (a ∈ mine)))
    State.writesInOrder ws ((s.iff hit (fun s => s.bump GLOBAL_WRITE_COLLIDE)).busWrite w)

/-- The writes of one cycle in the order MC, port A, port B (R19). -/
def inOrder (ws : List BusWrite) : List BusWrite :=
  let of_ := fun (m : Nat) => ws.filter (fun (w : BusWrite) => w.master.val == m)
  of_ 0 ++ of_ 1 ++ of_ 2

/-- REGISTER_WRITE (R4, R6, R19): the writes that reach the registers in one CLK_FAB cycle; the W1C bits clear first, the
rest applies in the order MC, port A, port B. -/
def execRegisterWrite (ws : List BusWrite) (s : State) : Host.Outcome State Fault Refusal :=
  .next (((inOrder ws).foldl (fun s w => s.clearsOf w) s).writesInOrder ((inOrder ws).map s.sansClears))

/-! ### Reads (R4, R9): they change nothing -/

/-- Bits of 32 units in a summary register. -/
def sumBits (w n : Nat) (f : Nat → Bool) : Nat := bitsOf 32 (fun i => decide (32 * w + i < n) && f (32 * w + i))

/-- TB_NOW trails the time base by its crossing (R248). -/
def State.tbShown (s : State) : Nat := s.tb.shown / 65536

/-- The entries in a state during the last millisecond (R398). -/
def State.ledgerSeen (s : State) (k : Nat) : Nat :=
  (s.ledger.tiles.filter (fun (t : Tile) => t.state == k && decide (k < 4))).length +
    (s.ledger.left.filter (fun (e : Nat × Nat) => e.2 == k && decide (s.tb.ticks < e.1 + 1000000))).length

/-- The word at a register word's offset, with the registers that show the device live (R243, R246, R248, R264, R398,
R448, R506). -/
def State.shown (s : State) (a : Nat) : Nat :=
  let live : Option Nat :=
    (unitAt a 0xC0 1 4).map (fun _ => bitsOf 12 s.classAsks) <|>
    (unitAt a 0xC4 1 4).map (fun _ => bitsOf 8 (fun k => s.asks (DDR_EVENTS k)) + 256 * bitsOf 24 s.bayAsks) <|>
    (unitAt a 0xC8 1 4).map (fun _ => bitsOf 16 (fun u => s.asks (STITCH_EVENTS u)) + 65536 * bitsOf 16 (fun c => s.asks (POS_EVENTS c))) <|>
    (unitAt a 0xCC 3 4).map (fun x => sumBits x.1 96 s.laneAsks) <|>
    (unitAt a 0xD8 6 4).map (fun x => sumBits x.1 192 (fun e => s.asks (ENG_EVENTS e))) <|>
    (unitAt a 0xF0 4 4).map (fun x => sumBits x.1 128 (fun q => s.asks (TRIG_EVENTS q))) <|>
    (unitAt a 0x140 8 4).map (fun x => sumBits x.1 256 (fun t => s.asks (DLV_EVENTS t))) <|>
    (unitAt a 0x24401C 1 4).map (fun _ => s.irqSrc 0) <|>
    (unitAt a 0x24801C 1 4).map (fun _ => s.irqSrc 1) <|>
    (unitAt a TB_STATUS 1 4).map (fun _ => putBits (putBits (s.rdN a) 16 2 (s.get TB_QUALITY_CLASS)) 0 1 (s.get GLOBAL_PLL_STATUS_TB_HOLDOVER)) <|>
    (unitAt a TB_SLEW_LEFT 1 4).map (fun _ => trunc 32 (s.tb.slewLeft.tdiv 65536)) <|>
    (unitAt a TB_NOW 4 4).map (fun x =>
      let t := s.tbShown
      let sec := t / 65536 / 1000000000 % 2 ^ 48
      match x.1 with | 0 => t % 65536 | 1 => t / 65536 % 1000000000 | 2 => sec % 2 ^ 32 | _ => sec / 2 ^ 32) <|>
    (unitAt a 0x30800 64 4).map (fun x => putBits (s.rdN a) 0 1 (b2n (s.consBusy x.1))) <|>
    (unitAt a DLV_LEDGER_USE 1 4).map (fun _ => s.ledgerUse) <|>
    (unitAt a 0x210010 6 4).map (fun x => s.ledgerSeen x.1) <|>
    (unitAt a SILL_TWIN_STATUS 1 4).map (fun _ => match s.sill.beatTick with
      | none => s.rdN a
      | some t => putBits (s.rdN a) 8 8 (min 255 ((s.tb.ticks - t) / 1000)))
  live.getD (s.rdN a)

/-- The byte that a read by `master` returns from BAR0 offset `o`; a host reads zero from the other port's mailbox
(R416). -/
def State.readByte (s : State) (master o : Nat) : Byte :=
  match s.place master (o / 4 * 4) with
  | none => 0
  | some a =>
    let other := match unitAt a 0x10000 2 0x4000 with | some x => !ownPort master x.1 | none => false
    if other then 0 else BitVec.ofNat 8 (s.shown a / 256 ^ (o % 4))

/-- The bytes that a read returns (R4, R9). -/
def State.busRead (s : State) (master o size : Nat) : List Byte := (List.range size).map (fun i => s.readByte master (o + i))

/-! ### Commands that are one write by `master` of an enable or command field -/

/-- Such a write: refused and counted at offset `o` by a rule (R130, R495), or carried out. -/
def State.fieldWrite (s : State) (master o : Nat) (refused : Bool) (f : State → State) : Host.Outcome State Fault Refusal :=
  if !s.reaches master then .next (s.unreached master) else if refused then .next (s.badAccess master o 3) else .next (f s)

/-- LANE_ENABLE (R112, R130, R495): ENABLE is set. -/
def execLaneEnable (l : Fin 96) (master : Fin 3) (s : State) : Host.Outcome State Fault Refusal :=
  s.fieldWrite master (LANE_CTRL l) (s.laneRetired l || (master.val != 0 && s.laneServing l))
    (fun s => (s.putB (LANE_CTRL_ENABLE l) true).laneUpdate l 7)

/-- LANE_DISABLE (R112, R130): ENABLE is cleared, or POWER_DOWN set. -/
def execLaneDisable (l : Fin 96) (powerDown : Bool) (master : Fin 3) (s : State) : Host.Outcome State Fault Refusal :=
  s.fieldWrite master (LANE_CTRL l) (master.val != 0 && s.laneServing l) (fun s =>
    (if powerDown then s.putB (LANE_CTRL_POWER_DOWN l) true else s.putB (LANE_CTRL_ENABLE l) false).laneUpdate l 7)

/-- RETRAIN (R112, R130). -/
def execRetrain (l : Fin 96) (master : Fin 3) (s : State) : Host.Outcome State Fault Refusal :=
  s.fieldWrite master (LANE_CTRL l) (master.val != 0 && s.laneServing l) (fun s => (s.putB (LANE_CTRL_RETRAIN l) true).retrain l)

/-- INJECT (R125, R130). -/
def execInject (l : Fin 96) (master : Fin 3) (s : State) : Host.Outcome State Fault Refusal :=
  s.fieldWrite master (LANE_TEST l) (master.val != 0 && s.laneServing l) (fun s => s.injectErr l)

/-- TRIG_PUSH (R227, R238): a write of `v` to TRIG_PUSH, `size` bytes wide. -/
def execTrigPush (q : Fin 128) (master : Fin 3) (size v : Nat) (s : State) : Host.Outcome State Fault Refusal :=
  if !s.reaches master then .next (s.unreached master)
  else if size ≠ 4 ∧ size ≠ 8 then .next (s.badAccess master (TRIG_PUSH q) 1)
  else s.fieldWrite master (TRIG_PUSH q) (size != 8 || !s.trRing q || (master.val != 0 && s.seqServing q)) (fun s => s.ringPush q v)

/-- FIRE (R229, R238). -/
def execFire (q : Fin 128) (master : Fin 3) (s : State) : Host.Outcome State Fault Refusal :=
  s.fieldWrite master (TRIG_CMD q) (master.val != 0 && s.seqServing q) (fun s => s.fireNow q)

/-- RING_CLEAR (R237, R238). -/
def execRingClear (q : Fin 128) (master : Fin 3) (s : State) : Host.Outcome State Fault Refusal :=
  s.fieldWrite master (TRIG_CMD q) (master.val != 0 && s.seqServing q) (fun s => s.ringClear q)

/-- RESYNC (R237, R238). -/
def execResync (q : Fin 128) (master : Fin 3) (s : State) : Host.Outcome State Fault Refusal :=
  s.fieldWrite master (TRIG_CMD q) (master.val != 0 && s.seqServing q) (fun s => s.resync q)

/-- SEQUENCER_ENABLE (R237, R238): ENABLE is set; with OUTPUT_COMMIT the sequencer starts. -/
def execSequencerEnable (q : Fin 128) (master : Fin 3) (s : State) : Host.Outcome State Fault Refusal :=
  s.fieldWrite master (TRIG_CTRL q) (master.val != 0 && s.seqServing q) (fun s => (s.putB (TRIG_CTRL_ENABLE q) true).trigStart q)

/-- SEQUENCER_DISABLE (R237, R238): ENABLE is cleared; the uncommitted target is dropped, committed firings go out. -/
def execSequencerDisable (q : Fin 128) (master : Fin 3) (s : State) : Host.Outcome State Fault Refusal :=
  s.fieldWrite master (TRIG_CTRL q) (master.val != 0 && s.seqServing q) (fun s => (s.putB (TRIG_CTRL_ENABLE q) false).trigStop q)

/-- PEAK_CLEAR (R271, R293). -/
def execPeakClear (l : Fin 96) (master : Fin 3) (s : State) : Host.Outcome State Fault Refusal :=
  s.fieldWrite master (BAY_COND_CMD l) (master.val != 0 && s.laneServing l) (fun s => s.clearPeak l)

/-- SWAP (R283, R293). -/
def execSwap (l : Fin 96) (master : Fin 3) (s : State) : Host.Outcome State Fault Refusal :=
  s.fieldWrite master (BAY_COND_CMD l) (master.val != 0 && s.laneServing l) (fun s => s.askSwap l)

/-- STITCH_ENABLE (R311): EN is set. -/
def execStitchEnable (u : Fin 16) (master : Fin 3) (s : State) : Host.Outcome State Fault Refusal :=
  s.fieldWrite master (STITCH_CTRL u) (master.val != 0 && s.scarfServing u) (fun s => if s.flag (STITCH_CTRL_EN u) then s else s.stitchOn u)

/-- STITCH_DISABLE (R301, R311): EN is cleared. -/
def execStitchDisable (u : Fin 16) (master : Fin 3) (s : State) : Host.Outcome State Fault Refusal :=
  s.fieldWrite master (STITCH_CTRL u) (master.val != 0 && s.scarfServing u) (fun s => s.stitchOff u)

/-- ABORT (R337, R344): only the MC writes ENG_CMD; the running task ends with fault HALT. -/
def execAbort (e : Fin 192) (master : Fin 3) (s : State) : Host.Outcome State Fault Refusal :=
  s.fieldWrite master (ENG_CMD e) (master.val != 0) (fun s => s.engFault e 0x0E 0 false)

end Sys2Proof.Machine
end

