-- ==== Sys2Proof/Machine/CutList.lean ====
section
/-!
DEFINITION. The Cut List: what its sections set (REG_IMAGE R80 to R82, the lane plans R128, R167, R186, FABRIC R453,
R454) and pass 1 of R85: the container (R77 to R79) and the checks that each chapter asks of it.
-/

namespace Sys2Proof.Machine

open Reg

/-! ### REG_IMAGE (R80, R81) -/

/-- A register record (R80). -/
structure RegRec where
  off : Nat
  stride : Nat
  count : Nat
  mask : Nat
  value : Nat
  deriving DecidableEq, Repr

/-- The records of a REG_IMAGE section. -/
def regRecs (l : List Byte) : List RegRec :=
  (List.range (l.length / 16)).map (fun i =>
    ⟨bytesAt l (16 * i) 4, bytesAt l (16 * i + 4) 2, bytesAt l (16 * i + 6) 2, bytesAt l (16 * i + 8) 4, bytesAt l (16 * i + 12) 4⟩)

/-- The offsets that a record reaches. -/
def RegRec.offs (r : RegRec) : List Nat := (List.range r.count).map (fun i => r.off + i * r.stride)

/-- The bits of the word at `o` that are W1C, W1S or WO. -/
def actBits (o : Nat) : Nat := match findRow o with
  | some r => Nat.lor r.w1c (Nat.lor r.w1s r.wo)
  | none => 0

/-- Whether a record's offsets pass R80 and R81. -/
def RegRec.ok (r : RegRec) : Bool :=
  r.off % 4 == 0 && r.stride % 4 == 0 && decide (1 ≤ r.count) && r.offs.all (fun o =>
    decide (o < 0x300000) && o != GLOBAL_COMMIT && o != GLOBAL_RESET_CTRL && !(decide (0x10000 ≤ o) && decide (o < 0x18000)) &&
      !(decide (0x200000 ≤ o) && decide (o < 0x210000)))

/-- The unit that a register belongs to: its kind as GLOBAL_RETIRE_CMD numbers it, and its number. -/
def unitOf (o : Nat) : Option (Nat × Nat) :=
  (unitAt o 0x100000 96 0x400).map (fun x => (0, x.1)) <|>
  (unitAt o 0x21000 96 8).map (fun x => (0, x.1)) <|>
  (unitAt o 0x188000 96 0x40).map (fun x => (0, x.1)) <|>
  (unitAt o 0x140000 24 0x1000).map (fun x =>
    match unitAt x.2 0x100 4 0x40, unitAt x.2 0x400 8 0x100 with
    | some (j, _), _ => (0, 4 * x.1 + j)
    | _, some (j, _) => (2, 8 * x.1 + j)
    | _, _ => (1, x.1)) <|>
  (unitAt o 0x1C0000 8 0x1000).map (fun x => (3, x.1)) <|>
  (unitAt o 0x40000 16 0x400).map (fun x => (4, x.1)) <|>
  (unitAt o 0x21400 4 8).map (fun x => (5, x.1)) <|>
  (unitAt o 0x280100 4 0x80).map (fun x => (5, x.1))

/-- Whether a register belongs to a unit that the repair map retires. -/
def State.reachesRetired (s : State) (o : Nat) : Bool := match unitOf o with
  | some (k, i) => s.unitGone k i
  | none => false

/-- A record is applied through the register network by the MC; fields that act when written are left alone. A record that
reaches a retired unit is not applied (R81). -/
def State.applyRec (s : State) (r : RegRec) : State :=
  if r.offs.any s.reachesRetired then s
  else r.offs.foldl (fun s o =>
    let a := (s.place 0 o).getD o
    let old := s.rdN a
    let v := Nat.lor (old - Nat.land old r.mask) (Nat.land r.value r.mask)
    let x := s.write32 0 o (v - Nat.land v (actBits a))
    x.1.iff (x.2 != 0) (fun s => s.badAccess 0 o x.2)) s

/-- Whether the records pass R80 and R81, each judged on the registers that the records before it leave in place: none sets
a MASK bit over a field that acts when written. -/
def State.recsOk : List RegRec → State → Bool
  | [], _ => true
  | r :: t, s => r.ok && r.offs.all (fun o => Nat.land r.mask (actBits ((s.place 0 o).getD o)) == 0) &&
      State.recsOk t (s.applyRec r)

/-- REG_IMAGE is applied (stage 2); a retired unit that it reaches is logged once (R81). -/
def State.applyImage (s : State) (l : List Byte) : State :=
  let gone := (((regRecs l).flatMap RegRec.offs).filter s.reachesRetired).filterMap unitOf
  let s := (regRecs l).foldl (fun s r => s.applyRec r) s
  gone.eraseDups.foldl (fun s (u : Nat × Nat) => s.logC 0x8048 u.2 (u.1 * 2 ^ 28 + u.2)) s

/-! ### Lane plans (R128, R167, R186) -/

/-- Bytes of a lane plan as a number. -/
def planN (l : List Byte) (lane i k : Nat) : Nat := bytesAt l (32 * lane + i) k

/-- The plan of a lane is written to its registers (stage 7). -/
def State.applyPlan (s : State) (p : List Byte) (l : Nat) : State :=
  let n := planN p l
  let pers := n 0 1
  let s := (((((((s.put (LANE_CTRL_PERSONALITY l) pers).put (LANE_CTRL_MAX_GRADE l) (n 1 1)).putB (LANE_CTRL_RX_INVERT l)
    (bit (n 2 1) 0)).putB (LANE_CTRL_TX_INVERT l) (bit (n 2 1) 1)).putB (LANE_CTRL_LOCK_TX l) (bit (n 2 1) 2)).putB
    (LANE_CTRL_FREEZE_DIS l) (bit (n 2 1) 3)).putB (LANE_CTRL_POWER_DOWN l) (pers == 0)).putB (LANE_CTRL_ENABLE l) (pers != 0)
  let s := (((((s.putB (LANE_TRAIN_CFG_CTLE_FIXED l) (bit (n 2 1) 4)).put (LANE_TRAIN_CFG_TX_PRESET l) (n 3 1)).put
    (LANE_TRAIN_CFG_PARTNER_PRESET l) (n 4 1)).put (LANE_TRAIN_CFG_CTLE_INIT l) (n 5 1)).put (LANE_TRAIN_CFG_MARGIN_V l) (n 6 1)).put
    (LANE_TRAIN_CFG_MARGIN_H l) (n 7 1)
  let s := ((s.put (LANE_TX_CUSTOM_C_PRE l) (n 8 1)).put (LANE_TX_CUSTOM_C_MAIN l) (n 9 1)).put (LANE_TX_CUSTOM_C_POST l) (n 10 1)
  match pers with
  | 0 => s
  | 1 =>
    let s := (((((s.put (TENON_CFG_BOND l) (n 16 1)).putB (TENON_CFG_EIDLE_EN l) (bit (n 17 1) 0)).putB (TENON_CFG_LAT_TRACK l)
      (bit (n 17 1) 1)).putB (TENON_CFG_EXP_USE l) (bit (n 17 1) 2)).put (TENON_CFG_FORMAT l) (n 18 1)).put
      (TENON_CFG_LINE_PIXELS l) (n 22 2)
    (((s.put (TENON_FILL_FILL l) (n 20 2)).put (TENON_LIMITS_VIOL_LIMIT l) (n 24 2)).put (TENON_FILL_CTRL_TIMEOUT l) (n 26 2)).put
      (TENON_LIMITS_TRIG_AGE l) (n 28 1)
  | _ =>
    let s := (((((((s.put (ETH_CFG_FEC l) (n 16 1)).putB (ETH_CFG_ACT_EN l) (bit (n 17 1) 0)).putB (ETH_CFG_PTP_EN l)
      (bit (n 17 1) 1)).putB (ETH_CFG_TS_MATCH l) (bit (n 17 1) 2)).putB (ETH_CFG_TS_USE l) (bit (n 17 1) 3)).put
      (ETH_CFG_FORMAT l) (n 18 1)).put (ETH_CFG_RESEND_MAX l) (n 19 1)).put (ETH_CFG_LINE_PIXELS l) (n 22 2)
    ((s.put (ETH_SIZES_FILL l) (n 20 2)).wrN (ETH_LANE_IP l) (n 24 4)).wrN (ETH_CAMERA_IP l) (n 28 4)

/-- LINK_PLAN is applied; the plan of a retired lane is skipped, and the lane stays powered down (R128). -/
def State.applyPlans (s : State) (p : List Byte) : State :=
  (List.range 96).foldl (fun s l => s.iff (!s.laneRetired l) (fun s => s.applyPlan p l)) s

/-! ### FABRIC (R453, R454) -/

/-- The value of a field whose zero means a default. -/
def orElse0 (n d : Nat) : Nat := if n = 0 then d else n

/-- The FABRIC section, or what stands for it, is written to the Sill registers (stage 7). -/
def State.applyFabric (s : State) (sec : Option (List Byte)) : State :=
  match sec with
  | some f =>
    let n := fun i k => bytesAt f i k
    let s := ((s.put SILL_CFG_NODE_ID (n 0 2)).put SILL_CFG_TWIN_ROLE (n 2 1)).put SILL_CFG_CLAIM (n 4 2)
    let s := ((s.putB SILL_SWAP_CFG_REVERT (bit (n 3 1) 0)).putB SILL_SWAP_CFG_SWAP_EN (bit (n 3 1) 1)).put SILL_TWIN_CFG_TWIN_CLAIM (n 6 2)
    let s := ((s.put SILL_TWIN_CFG_CLAIM_WINDOW (orElse0 (n 12 1) 30)).put SILL_TWIN_CFG_SWAP_LEAD (orElse0 (n 13 1) 10)).put
      SILL_SWAP_CFG_REVERT_HOLD (orElse0 (n 14 2) 60)
    let s := (s.put SILL_SWAP_CFG_SWAP_PERIOD (orElse0 (n 16 2) 60)).put SILL_TIME_CFG_LOCK (orElse0 (n 18 2) 32)
    (List.range 4).foldl (fun s p =>
      let b := n (8 + p) 1
      ((s.put (SILL_PORT_CFG_ROLE p) (b % 4)).putB (SILL_PORT_CFG_ENABLE p) (b % 4 != 0)).put (SILL_PORT_CFG_TX_PRESET p) (b / 16)) s
  | none =>
    let twin := bytesAt s.board 4 1
    let s := (List.range 4).foldl (fun s p => (s.put (SILL_PORT_CFG_ROLE p) 2).putB (SILL_PORT_CFG_ENABLE p) true) (s.put SILL_CFG_NODE_ID 0)
    if twin = 0 then s
    else
      (((((s.put (SILL_PORT_CFG_ROLE 3) 3).put SILL_CFG_TWIN_ROLE twin).put SILL_CFG_CLAIM (bytesAt s.board 6 2)).put
        SILL_TWIN_CFG_TWIN_CLAIM 0).putB SILL_SWAP_CFG_REVERT true).putB SILL_SWAP_CFG_SWAP_EN true

/-! ### OUTPUTS (R84) -/

/-- The records of an OUTPUTS section: KIND, INDEX, IDLE. -/
def outRecs (l : List Byte) : List (Nat × Nat × Bool) :=
  (List.range ((l.length - 5) / 4)).map (fun i => (bytesAt l (5 + 4 * i) 1, bytesAt l (6 + 4 * i) 1, bytesAt l (7 + 4 * i) 1 == 1))
/-- The declaration of a bank: 0 unused, 1 for 1.8 V, 2 for 3.3 V; banks 0 to 3 are VDDIO_A to VDDIO_D, 4 is VDDIO_ENC. -/
def bankDecl (l : List Byte) (b : Nat) : Nat := bytesAt l b 1
/-- The bank of a GPIO: 16 pins each. -/
def pinBank (g : Nat) : Nat := g / 16
/-- Whether GPIO `g` has a record of KIND 0. -/
def pinRec (l : List Byte) (g : Nat) : Bool := (outRecs l).any (fun (r : Nat × Nat × Bool) => r.1 == 0 && r.2.1 == g)
/-- Whether an OUTPUTS section keeps R84. -/
def outputsOk (l : List Byte) : Bool :=
  decide (5 ≤ l.length) && (l.length - 5) % 4 == 0 && (List.range 5).all (fun b => decide (bankDecl l b ≤ 2)) &&
    (List.range ((l.length - 5) / 4)).all (fun i => decide (bytesAt l (7 + 4 * i) 1 ≤ 1) && bytesAt l (8 + 4 * i) 1 == 0) &&
    (outRecs l).all (fun (r : Nat × Nat × Bool) => match r.1 with
      | 0 => decide (r.2.1 < 64) && bankDecl l (pinBank r.2.1) != 0
      | 1 => decide (r.2.1 < 16) && bankDecl l 4 != 0
      | 2 => true
      | _ => false)

/-! ### The container (R77 to R79) -/

/-- Whether a Cut List is one of this device and revision (0x8043). -/
def clPart (cl : List Byte) : Bool := bytesAt cl 24 2 == 0x9624 && decide (bytesAt cl 26 1 ≤ Config.rev.toNat)

/-- The checks of the header, the directory, the digests and the signature (R77 to R79, R96). -/
def State.clContainer (s : State) (cl : List Byte) (slot : Nat) : Bool :=
  let n := bytesAt cl 6 2
  let len := bytesAt cl 8 4
  let secs := clSects cl
  let ones := fun (t : Nat) => (secs.filter (fun (x : Nat × ClSect) => x.2.type == t)).length
  let zero := fun (a k : Nat) => ofBytes ((cl.drop a).take k) == 0
  let sig := bytesAt cl (len - 2048) 2
  bytesAt cl 0 4 == 0x4C435747 && bytesAt cl 4 2 == 0x0100 && decide (1 ≤ n) && decide (n ≤ 4096) && decide (len ≤ slot) &&
    decide (64 + 48 * n + 4096 ≤ len) && len == cl.length && decide (bytesAt cl 12 4 ≤ 1024) && decide (s.clCtr ≤ bytesAt cl 12 4) &&
    decide (bytesAt cl 28 2 < 4) && decide (1 ≤ bytesAt cl 30 2) && zero 32 32 &&
    (List.range n).all (fun i => zero (64 + 48 * i + 12) 4) && zero (len - 4096 + 1793) 255 && zero (len - 2046 + sig) (2046 - sig) &&
    secs.all (fun (x : Nat × ClSect) => x.2.off % 64 == 0 && decide (64 + 48 * n ≤ x.2.off) && decide (x.2.off + x.2.len + 4096 ≤ len) &&
      decide (x.2.flags < 2) && digest (x.2.bytes cl) == x.2.digest && (decide (1 ≤ x.2.type ∧ x.2.type ≤ 8) || x.2.flags == 0)) &&
    allApart (secs.map (fun (x : Nat × ClSect) => (x.2.off, x.2.len))) &&
    ones 1 == 1 && ones 5 == 1 && ones 6 == 1 && decide (ones 7 ≤ 1) && ones 8 == 1 &&
    trailerOk (s.ownerKey (bytesAt cl 27 1)) ctxCl (cl.take (len - 4096)) ((cl.drop (len - 4096)).take 4096)

/-! ### Pass 1, chapter by chapter. `s` is the device as the Cut List would leave it at stage 7. -/

/-- The bytes of the one section of a type. -/
def clOne (cl : List Byte) (t : Nat) : List Byte := ((clOf cl t).head?).getD []
/-- The stream definitions. -/
def clStreams (cl : List Byte) : List (List Byte) :=
  let l := clOne cl 5
  (List.range (l.length / 64)).map (fun i => (l.drop (64 * i)).take 64)
/-- The lanes on the path of a stream definition: its lane, those of its scarf unit, or those its engine takes tiles of. -/
def State.defLanes (s : State) (d : List Byte) : List Nat := match bytesAt d 1 1 with
  | 0 => [bytesAt d 2 2]
  | 1 => (List.range (s.segments (bytesAt d 2 2 % 16))).map (fun k => s.segLane (bytesAt d 2 2 % 16) k)
  | 2 | 3 =>
    let e := bytesAt d 2 2 % 192
    ((List.range 8).filter (fun i => s.get (ENG_IN_CFG_KIND e i) == 1)).map (fun i => 4 * (e / 8) + s.get (ENG_IN_CFG_LANE e i))
  | _ => []

/-- 0x804A: lane plans (R128, R141, R167, R170, R186). -/
def State.okPlans (s : State) (cl : List Byte) : Bool :=
  let p := clOne cl 6
  let zero := fun (l a b : Nat) => (List.range (b + 1 - a)).all (fun i => planN p l (a + i) 1 == 0)
  let px := fun (l : Nat) => decide (1 ≤ planN p l 22 2) && decide (planN p l 22 2 ≤ 32768)
  p.length == 3072 && (List.range 96).all (fun l =>
    let n := planN p l
    let preset := fun (x : Nat) => decide (x ≤ 10) || x == 15
    decide (n 0 1 ≤ 3) && decide (n 1 1 ≤ 5) && decide (n 2 1 < 32) && preset (n 3 1) && preset (n 4 1) && decide (n 5 1 ≤ 15) &&
      decide (n 7 1 ≤ 63) && decide (n 8 1 ≤ 15) && decide (n 9 1 ≤ 63) && decide (n 10 1 ≤ 31) && zero l 11 15 &&
      (match n 0 1 with
      | 0 => true
      | 1 =>
        let w := match n 16 1 with | 1 => 2 | 2 => 4 | _ => 1
        decide (n 16 1 ≤ 2) && decide (n 17 1 < 8) && decide (n 18 1 ≤ 5) && n 19 1 == 0 && px l && zero l 29 31 &&
          (List.range w).all (fun i => planN p (l / w * w + i) 0 1 == 1 && planN p (l / w * w + i) 16 1 == n 16 1)
      | g =>
        decide (n 16 1 ≤ 2) && (n 16 1 != 2 || g == 3) && decide (n 17 1 < 16) && decide (n 18 1 ≤ 5) && decide (n 19 1 ≤ 3) && px l &&
          decide (s.get (ETH_SIZES_PKT_SIZE l) + 18 ≤ 9216))) &&
    (clStreams cl).all (fun d => (s.defLanes d).all (fun l =>
      decide (96 ≤ l) || decide (s.persReg l ≤ 1) ||
        decide (s.get (ETH_ACT_CFG_MIN_LEAD_US l) * bytesAt d 12 4 ≤ min 64 (max 1 (s.get (ETH_ACT_CFG_QUEUE l))) * 1000000)))

/-- The first of `n` units that a check does not pass, none when all do. -/
def firstBad (n : Nat) (ok : Nat → Bool) : Option Nat := (List.range n).find? (fun i => !ok i)

/-- 0x804B: a position channel that breaks a range or rule (R190, R194, R195, R196, R201, R211). -/
def State.okPos (s : State) (cl : List Byte) (c : Nat) : Bool :=
  let outs := outRecs (clOne cl 8)
  (match s.posMode c with
    | 1 => s.get (POS_INDEX_CFG_INDEX_MODE c) != 1 || s.rdN (POS_INDEX_PERIOD c) != 0
    | 2 => s.get (POS_INDEX_CFG_INDEX_MODE c) == 0
    | 3 =>
      let bits := s.get (POS_SSI_CFG_BITS c)
      let div := s.get (POS_SSI_CFG_DIV c)
      outs.any (fun (r : Nat × Nat × Bool) => r == (1, c, true)) && decide (11 ≤ div) && decide (div ≤ 1249) && decide (8 ≤ bits) &&
        decide (bits ≤ 40) && decide (s.get (POS_SSI_CFG_FRAC_BITS c) ≤ 16) &&
        decide (s.ssiTime c + 1000 * s.get (POS_SSI_TIMING_MONO c) ≤ 1000 * s.get (POS_SSI_TIMING_PERIOD c))
    | _ => true) &&
    (List.range c).all (fun d =>
      !(s.flag (POS_SILL_CFG_PUBLISH c) && s.flag (POS_SILL_CFG_PUBLISH d) && s.get (POS_SILL_CFG_SLOT c) == s.get (POS_SILL_CFG_SLOT d)))

/-- The sequencers that the Cut List enables. -/
def State.seqsOn (s : State) : List Nat := (List.range 128).filter (fun q => s.flag (TRIG_CTRL_ENABLE q))
/-- How often a GPIO is named: by path-3 sequencers, cycle timers, pulse outputs and PWMs. -/
def State.pinNamed (s : State) (g : Nat) : Nat × Nat × Nat × Nat :=
  ((s.seqsOn.filter (fun q => s.trPath q == 3 && s.trOut q == g)).length,
    countOf 16 (fun i => s.flag (TB_CYC_CFG_EN i) && s.flag (TB_CYC_CFG_OUT_EN i) && s.get (TB_CYC_CFG_OUT_PIN i) == g),
    countOf 8 (fun k => s.flag (EVT_OUT_CFG_EN k) && s.get (EVT_OUT_CFG_PIN k) == g),
    countOf 8 (fun k => s.flag (GPIO_PWM_CFG_EN k) && s.get (GPIO_PWM_CFG_PIN k) == g))

/-- 0x804C: an enabled sequencer (R218, R239). -/
def State.okTrig (s : State) (cl : List Byte) (q : Nat) : Bool :=
  let on := s.seqsOn
  let l := s.trOut q
  let kind := s.get (TRIG_OPT_KIND q)
  let same := fun (k : Nat) => (on.filter (fun r => (s.trPath r == 1 || s.trPath r == 2) && s.trOut r == l && s.get (TRIG_OPT_KIND r) == k)).length
  let part := fun (r : Nat) => (s.get (TRIG_LIST_BASE r), s.get (TRIG_LIST_LEN r))
  decide (q ∉ on) || ((match s.trPath q with
    | 1 => decide (l < 96) && s.persReg l == 1 && l == s.boss l && decide (same kind ≤ 1)
    | 2 => decide (l < 96) && decide (2 ≤ s.persReg l) && kind == 0 && decide (same 0 ≤ 1)
    | 3 => decide (l < 64) && pinRec (clOne cl 8) l && (s.pinNamed l).1 == 1
    | _ => true) &&
    (match s.trMode q with
    | 0 => decide (0 < s.rdS (TRIG_PITCH q)) && s.posMode (s.trChan q) != 0
    | 1 => decide (1 ≤ s.get (TRIG_LIST_LEN q)) && decide (s.get (TRIG_LIST_BASE q) + s.get (TRIG_LIST_LEN q) ≤ 16384) &&
        s.posMode (s.trChan q) != 0 && on.all (fun r => decide (q ≤ r) || s.trMode r != 1 || apart (part r) (part q))
    | 2 => decide (s.minGap q ≤ s.rd64 (TRIG_PERIOD q))
    | _ => decide (q < 16)))

/-- 0x804D: cycle timers and PWMs (R254, R509). -/
def State.okTime (s : State) (cl : List Byte) : Bool :=
  let alone := fun (g : Nat) => let n := s.pinNamed g; n.1 + n.2.1 + n.2.2.1 + n.2.2.2 == 1
  (List.range 16).all (fun i => !s.flag (TB_CYC_CFG_EN i) ||
    (decide (max 16 (2 * s.rdN (TB_CYC_WIDTH i)) ≤ s.rdN (TB_CYC_PERIOD i)) &&
      (!s.flag (TB_CYC_CFG_OUT_EN i) || (let g := s.get (TB_CYC_CFG_OUT_PIN i)
        pinRec (clOne cl 8) g && (s.pinNamed g).1 == 0 && (s.pinNamed g).2.1 == 1)))) &&
  (List.range 8).all (fun k => !s.flag (GPIO_PWM_CFG_EN k) ||
    (pinRec (clOne cl 8) (s.get (GPIO_PWM_CFG_PIN k)) && alone (s.get (GPIO_PWM_CFG_PIN k))))

/-- 0x804E: the event matrix (R265, R267). -/
def State.okEvt (s : State) (cl : List Byte) : Bool :=
  let outs := clOne cl 8
  let lane := fun (l : Nat) => decide (l < 96) && !s.laneRetired l && s.persReg l != 0
  (List.range 8).all (fun j => !s.flag (EVT_GPIO_SEL_EN j) || bankDecl outs (pinBank (s.get (EVT_GPIO_SEL_PIN j))) != 0) &&
  (List.range 8).all (fun j => !s.flag (EVT_LANE_SEL_EN j) || lane (s.get (EVT_LANE_SEL_LANE j))) &&
  (List.range 4).all (fun j => !s.flag (EVT_QUEUE_SEL_EN j) || lane (s.get (EVT_QUEUE_SEL_LANE j))) &&
  (List.range 8).all (fun k => !s.flag (EVT_OUT_CFG_EN k) || (let g := s.get (EVT_OUT_CFG_PIN k)
    pinRec outs g && (s.pinNamed g).1 == 0 && (s.pinNamed g).2.1 == 0 && (s.pinNamed g).2.2.1 == 1)) &&
  (decide (clOf cl 7 ≠ []) || (List.range 32).all (fun j => !s.flag (EVT_FAB_TX_EN j))) &&
  (List.range 16).all (fun c => s.trMode c == 3 ||
    ((List.range 4).all (fun w => s.rdN (EVT_EN (4 * c + w)) == 0) && s.rdN (EVT_FAB_EN c) == 0))

/-! ### The bay stores (R292, R343) -/

/-- A REFERENCE section goes to its DDR4 address through MGMT and from there through REFLOAD into the bays it names; a
retired bay is skipped (R16, R82). -/
def State.loadRef (s : State) (x : List Byte) : State :=
  let d := (x.drop 32).take (bytesAt x 20 4)
  let a := bytesAt x 8 8 % 2 ^ 39
  (List.range 24).foldl (fun s b => s.iff (bit (bytesAt x 4 4) b && !s.bayRetired b) (fun s => s.bayWr b (bytesAt x 16 4) d))
    (((s.arbAsk (chanAt a) reqMgmt).ddrWr a d).arbAsk (chanAt a) reqRefload)

/-- All REFERENCE sections. -/
def State.loadRefs (s : State) (cl : List Byte) : State := (clOf cl 3).foldl (fun s x => s.loadRef x) s

/-- The bytes of the defect list at `base` of bay `b`: up to its end marker, or, in a set that is in use, the longest. -/
def State.defBytes (s : State) (b base : Nat) (use_ : Bool) : Nat :=
  match (List.range 2049).find? (fun i => ofBytes (s.bayRd b (base + 4 * i) 4) == 0xFFFFFFFF) with
  | some n => roundUp (4 * (n + 1)) 64
  | none => if use_ then roundUp (4 * 2049) 64 else 64

/-- The regions of a lane (R292): those of set 0, its history and its ring; then those of set 1, which is in use once it
has a base. -/
def State.laneRegions (s : State) (l : Nat) : List (Nat × Nat) × List (Nat × Nat) :=
  let b := l / 4
  let c := s.condNow l
  let ff := ceilDiv (s.linePixels l) (2 ^ s.get (BAY_COND_CTRL_FF_SHIFT l)) * comps c.fmt * 4
  let lut := if s.flag (BAY_COND_CTRL_LUT_PER_COMP l) then 24768 else 8256
  let opt := fun (on : Bool) (r : Nat × Nat) => if on then [r] else []
  let tables := fun (f d t : Nat) (use_ : Bool) =>
    opt (s.flag (BAY_COND_CTRL_FF_EN l)) (f * 64, ff) ++ opt (s.flag (BAY_COND_CTRL_DEF_EN l)) (d * 64, s.defBytes b (d * 64) use_) ++
      opt (s.flag (BAY_COND_CTRL_LUT_EN l)) (t * 64, lut)
  let hist := match c.rsMode with | 1 => 3 | 2 => 5 | _ => 0
  (tables (s.get (BAY_FF_BASE0_BASE l)) (s.get (BAY_DEF_BASE0_BASE l)) (s.get (BAY_LUT_BASE0_BASE l)) true ++
    [(s.get (BAY_HIST_BASE_BASE l) * 64, hist * s.storedLine l), (s.get (BAY_RING_BASE_BASE l) * 64, s.get (BAY_RING_SIZE_SIZE l))],
   tables (s.get (BAY_FF_BASE1_BASE l)) (s.get (BAY_DEF_BASE1_BASE l)) (s.get (BAY_LUT_BASE1_BASE l)) false)

/-- The lanes of a bay that take tiles: position-0 lanes of a personality, in service. -/
def State.bayLanes (s : State) (b : Nat) : List Nat :=
  ((List.range 4).map (fun j => 4 * b + j)).filter (fun l => s.persReg l != 0 && l == s.boss l && !s.laneRetired l)
/-- The regions of R292 of a lane, those of both table sets: a set that is not in use must fit too. -/
def State.allRegions (s : State) (l : Nat) : List (Nat × Nat) := (s.laneRegions l).1 ++ (s.laneRegions l).2
/-- The regions of R292 of a bay that must not overlap. -/
def State.bayRegions (s : State) (b : Nat) : List (Nat × Nat) := (s.bayLanes b).flatMap s.allRegions

/-- The KIND-0 sequencer of a lane. -/
def State.kind0Seq (s : State) (l : Nat) : Option Nat :=
  s.seqsOn.find? (fun q => (s.trPath q == 1 || s.trPath q == 2) && s.trOut q == l && s.get (TRIG_OPT_KIND q) == 0)

/-- 0x804F: conditioning and the bay store of a lane (R281, R284, R292); its regions are apart from one another and from
those of the bay's lanes before it. -/
def State.okBays (s : State) (l : Nat) : Bool :=
  let b := l / 4
  let r := s.allRegions l
  s.bayRetired b || decide (l ∉ s.bayLanes b) ||
    (allApart r && ((s.bayLanes b).filter (fun m => decide (m < l))).all (fun m => (s.allRegions m).all (fun x => r.all (apart x))) &&
      r.all (fun (x : Nat × Nat) => decide (x.1 + x.2 ≤ 2097152)) && s.get (BAY_RING_SIZE_SIZE l) % 64 == 0 &&
      decide (2 * s.storedTile l ≤ s.get (BAY_RING_SIZE_SIZE l)) &&
      !(s.flag (BAY_COND_CTRL_LUT_PER_COMP l) && comps (s.laneFmt l) == 1) &&
      ((s.condNow l).rsMode == 0 || (match s.kind0Seq l with
        | some q => (s.trMode q == 0 || (s.trMode q == 1 && !s.flag (TRIG_OPT_LIST_SRC q))) && !s.flag (TRIG_OPT_BIDIR q)
        | none => false)))

/-! ### DDR4 regions (R359) -/

/-- The kerf buffers. -/
def State.kerfRegions (s : State) : List (Nat × Nat) :=
  ((List.range 96).filter (fun l => s.get (KERF_CFG_DELAY_LINES l) != 0)).map (fun l =>
    (s.rd64 (KERF_BASE l), s.get (KERF_CFG_DEPTH l) * s.get (KERF_SLOT_SLOT_BYTES l)))
/-- The recall segments, as 39-bit addresses. -/
def State.recallRegions (s : State) : List (Nat × Nat) :=
  (List.range 8).map (fun k => (k * 2 ^ 36 + s.rd64 (DDR_RECALL_SEG_BASE k) % 2 ^ 36, s.rd64 (DDR_RECALL_SEG_SIZE k)))
/-- The copies of REFERENCE sections, and the TABLE data in DDR4. -/
def refRegions (cl : List Byte) : List (Nat × Nat) := (clOf cl 3).map (fun x => (bytesAt x 8 8, bytesAt x 20 4))
def tableRegions (cl : List Byte) : List (Nat × Nat) :=
  ((clOf cl 2).filter (fun x => bytesAt x 0 2 == 2)).map (fun x => (bytesAt x 8 8, bytesAt x 16 4))
/-- The engine DDR windows, with whether they permit reads. -/
def State.ddrWindows (s : State) : List ((Nat × Nat) × Bool) :=
  (List.range 96).map (fun i => ((s.rd64 (BAY_DDR_WIN_BASE (i / 4) (i % 4)) / 65536 * 65536, s.rd64 (BAY_DDR_WIN_SIZE (i / 4) (i % 4))),
    bit (s.rd64 (BAY_DDR_WIN_BASE (i / 4) (i % 4))) 0))

/-! ### Stitching (R312) -/

/-- 0x8054: stitching and kerf buffers (R295 to R298, R310, R312). -/
def State.okStitch (s : State) (cl : List Byte) : Bool :=
  let units := (List.range 16).filter (fun u => s.flag (STITCH_CTRL_EN u))
  let serves := fun (l : Nat) => units.filter (fun u => (List.range (s.segments u)).any (fun k => s.segLane u k == l))
  units.all (fun u =>
    let n := s.segments u
    let lanes := (List.range n).map (s.segLane u)
    decide (1 ≤ n) && decide (n ≤ 96) && decide (1 ≤ s.bentPixels u) && decide (s.bentPixels u ≤ 262144) && decide (2 ≤ s.bentSlots u) &&
      decide (s.get (STITCH_FILL_REF_SEG u) < n) && decide (lanes.Nodup) &&
      s.uFirst u 0 == 0 && s.uLast u (n - 1) + 1 == s.bentPixels u && s.get (STITCH_SEG_W1_RAMP_LEN u (n - 1)) == 0 &&
      ((clStreams cl).filter (fun d => bytesAt d 1 1 == 1 && bytesAt d 2 2 == u)).length == 1 &&
      (List.range n).all (fun k =>
        let l := s.segLane u k
        let sc := sext 16 (s.get (STITCH_SEG_W3_SCALE u k))
        let last := 32 * ((s.linePixels l : Int) - 1)
        let src := fun x => decide (0 ≤ s.srcAt u k x) && decide (s.srcAt u k x ≤ last)
        decide (l < 96) && s.persReg l != 0 && l == s.boss l && decide ((serves l).length ≤ 4) &&
          s.laneFmt l == s.laneFmt (s.segLane u 0) && (s.condNow l).outMode == (s.condNow (s.segLane u 0)).outMode &&
          (s.condNow l).pxBytes == s.bentC u * s.bentY u && comps (s.laneFmt l) == s.bentC u &&
          decide (-20000 ≤ sc) && decide (sc ≤ 20000) && decide (s.uFirst u k ≤ s.uLast u k) && src (s.uFirst u k) && src (s.uLast u k) &&
          (match s.kind0Seq l with | some q => !s.flag (TRIG_OPT_BIDIR q) | none => true) &&
          (k + 1 == n || (decide (s.uFirst u k < s.uFirst u (k + 1)) && decide (s.uFirst u (k + 1) ≤ s.uLast u k + 1) &&
            decide (s.get (STITCH_SEG_W1_RAMP_LEN u k) + s.uFirst u (k + 1) ≤ s.uLast u k + 1))) &&
          (decide (n ≤ k + 2) || decide (s.uLast u k < s.uFirst u (k + 2))))) &&
  allApart s.kerfRegions &&
  s.kerfRegions.all (fun r => (s.recallRegions ++ refRegions cl ++ tableRegions cl).all (apart r)) &&
  (List.range 96).all (fun l =>
    let d := s.get (KERF_CFG_DELAY_LINES l)
    d == 0 || (decide (d + 2 ≤ s.get (KERF_CFG_DEPTH l)) && decide (s.get (KERF_CFG_DEPTH l) ≤ 16384) && decide (roundUp (s.storedLine l) 64 ≤ s.get (KERF_SLOT_SLOT_BYTES l)) &&
      (s.get (KERF_MAX_US_US l) != 0 || s.get (KERF_MIN_RATE_RATE l) != 0)))

/-! ### Engines and DDR4 (R343, R364, R368) -/

/-- The region of the bay store that an engine may write (R343): its windows with write permission and its pool. -/
def State.engWrites (s : State) (e : Nat) : List (Nat × Nat) :=
  let p := s.engPool e
  (p.1, p.2.1 * p.2.2) :: ((List.range 4).filter (fun w => (s.engWin e w).2.2 == 2)).map (fun w => ((s.engWin e w).1, (s.engWin e w).2.1))
/-- The DMA rings of a bay. -/
def State.dmaRings (s : State) (b : Nat) : List (Nat × Nat) :=
  ((List.range 8).filter (fun c => s.flag (BAY_DMA_CFG_EN b c))).map (fun c =>
    (s.get (BAY_DMA_BASE_BASE b c) * 32, 32 * s.get (BAY_DMA_CFG_LEN b c)))

/-- 0x8055: an engine (R340, R343): at most one KERNEL section, its inputs and gangs, what it may write, its pool. -/
def State.okEng (s : State) (cl : List Byte) (e : Nat) : Bool :=
  let secs := clOf cl 4
  let b := e / 8
  let j := e % 8
  let has := secs.any (fun x => named x e)
  let writes := s.engWrites e
  decide ((secs.filter (fun x => named x e)).length ≤ 1) &&
  (List.range 8).all (fun i => s.get (ENG_IN_CFG_KIND e i) != 1 || s.get (BAY_ENG_GANG_ENGINES b (s.get (ENG_IN_CFG_LANE e i))) != 0) &&
  (List.range 4).all (fun l => !bit (s.get (BAY_ENG_GANG_ENGINES b l)) j || (has && (let n := s.get (BAY_ENG_GANG_INPUT b l)
    s.get (ENG_IN_CFG_KIND e n) == 1 && s.get (ENG_IN_CFG_LANE e n) == l))) &&
  writes.all (fun w => (s.bayRegions b).all (apart w)) &&
  (List.range j).all (fun i => (s.engWrites (8 * b + i)).all (fun w => writes.all (apart w))) &&
  (clStreams cl).all (fun d => !((bytesAt d 1 1 == 2 || bytesAt d 1 1 == 3) && bytesAt d 2 2 % 192 == e) || decide (0 < (s.engPool e).2.1))

/-- 0x8055: the lowest engine named by a KERNEL section whose bytes 24 to 63 are not zero (R340). -/
def kernelPad (cl : List Byte) : Option Nat :=
  ((clOf cl 4).find? (fun x => ofBytes ((x.drop 24).take 40) != 0)).map (fun x =>
    ((List.range 192).find? (fun e => named x e)).getD noUnit)

/-- 0x8055: what no engine of bay `b` alone breaks (R329, R335, R343): the DMA rings, the DDR windows, the push permissions. -/
def State.okDma (s : State) (b : Nat) : Bool :=
  let rs := s.bayRegions b
  let writes := (List.range 8).flatMap (fun j => s.engWrites (8 * b + j))
  (s.dmaRings b).all (fun (r : Nat × Nat) => decide (r.1 + r.2 ≤ 2097152) && rs.all (apart r) && writes.all (apart r)) &&
  allApart (s.dmaRings b) &&
  ((s.ddrWindows.drop (4 * b)).take 4).all (fun (w : (Nat × Nat) × Bool) => (s.kerfRegions ++ s.recallRegions).all (apart w.1)) &&
  (List.range 128).all (fun q => !bit (s.rdN (BAY_PUSH_ALLOW b (q / 32))) (q % 32) || s.trRing q)

/-- The first engine of the first bay that is not right (R345). DESIGN CHOICE: 0x8055 carries it for what a bay's engines
share. -/
def State.badDma (s : State) : Option Nat := ((List.range 24).find? (fun b => !s.okDma b)).map (fun b => 8 * b)

/-- 0x8056: a DDR4 channel's rates, of which code 7 acts as 6, and its privileges (R346, R364, R367). -/
def State.okDdr (s : State) (k : Nat) : Bool :=
  decide (min 6 (s.get (DDR_CFG_MIN_RATE k)) ≤ min 6 (s.get (DDR_CFG_RATE k))) &&
    decide (popCount 28 (s.rdN (DDR_ARB_PRIV k)) ≤ 8)

/-- 0x8056: the regions that lie on a channel fit it and are apart (R359, R367). -/
def State.okRegions (s : State) (cl : List Byte) (k : Nat) : Bool :=
  let on := fun (r : Nat × Nat) => r.1 / 2 ^ 36 == k || (k == 7 && decide (2 ^ 39 ≤ r.1))
  let inside := fun (r : Nat × Nat) => r.2 == 0 || (decide (r.1 < 2 ^ 39) && decide (r.1 % 2 ^ 36 + r.2 ≤ s.ddrGib (r.1 / 2 ^ 36) * 2 ^ 30))
  let hard := (s.kerfRegions ++ s.recallRegions).filter on
  let refs := (refRegions cl).filter on
  let tabs := (tableRegions cl).filter on
  let wins := s.ddrWindows.filter (fun (w : (Nat × Nat) × Bool) => on w.1)
  (hard ++ refs ++ tabs ++ wins.map (fun (w : (Nat × Nat) × Bool) => w.1)).all inside && allApart (hard ++ refs ++ tabs) &&
  hard.all (fun h => wins.all (fun (w : (Nat × Nat) × Bool) => apart h w.1)) &&
  refs.all (fun r => wins.all (fun (w : (Nat × Nat) × Bool) => w.2 || apart r w.1))

/-- Whether one stream definition keeps R83, R371 and R383. -/
def streamOk (d : List Byte) : Bool :=
  let src := bytesAt d 2 2
  let zero := fun (a n : Nat) => ofBytes ((d.drop a).take n) == 0
  decide (bytesAt d 4 1 ≤ 2) && (bytesAt d 4 1 != 2 || bytesAt d 5 1 != 0) && decide (bytesAt d 6 1 ≤ 1) && zero 7 1 && decide (bytesAt d 24 2 ≤ 1024) && decide (bytesAt d 30 1 ≤ 1) &&
    zero 31 1 && (match bytesAt d 1 1 with
    | 0 => decide (src < 96) && zero 32 32
    | 1 => decide (src < 16) && zero 32 32
    | 2 | 3 => decide (src < 192)
    | 4 => src == 0 && zero 32 32
    | 5 => src == 0 && decide (1 ≤ bytesAt d 32 1) && decide (bytesAt d 32 1 ≤ 64) && zero 33 1 && decide (1 ≤ bytesAt d 34 2) && zero 36 28
    | _ => false)

/-- 0x8057: the stream definitions (R83, R371): the number of the first that breaks them, `noUnit` for the section. -/
def badStream (cl : List Byte) : Option Nat :=
  let ds := clStreams cl
  if (clOne cl 5).length % 64 ≠ 0 ∨ 256 < ds.length then some noUnit
  else (((List.range ds.length).find? (fun i =>
    let d := ds.getD i []
    !streamOk d || (ds.take i).any (fun x => bytesAt x 0 1 == bytesAt d 0 1))).map (fun i => bytesAt (ds.getD i []) 0 1))

/-- 0x8058: the fabric (R426, R439, R455). -/
def State.okFabric (s : State) (cl : List Byte) : Bool :=
  let role := fun (p : Nat) => s.get (SILL_PORT_CFG_ROLE p)
  let n := fun (r : Nat) => countOf 4 (fun p => role p == r)
  let fits := match n 1, n 3, n 2 with
    | 0, 0, d => decide (1 ≤ d)
    | 0, 1, d => decide (1 ≤ d)
    | 1, 0, _ => true
    | 2, 0, _ => true
    | _, _, _ => false
  let publishes := (List.range 16).any (fun c => s.flag (POS_SILL_CFG_PUBLISH c))
  (n 1 == 0 || !publishes) && (match clOf cl 7 with
  | [] => true
  | f :: _ =>
    f.length == 64 && decide (bytesAt f 0 2 ≤ 1023) && decide (bytesAt f 2 1 ≤ 2) && fits &&
      (n 1 != 0 || bytesAt f 4 2 != 0) && (n 3 == 0 || bytesAt f 4 2 != bytesAt f 6 2) &&
      (List.range 4).all (fun p => decide (bytesAt f (8 + p) 1 / 16 ≤ 10) && (role p == 0 || !s.sillRetired p)))

/-- The device as the sections would leave it at stage 7. -/
def State.prospect (s : State) (cl : List Byte) : State :=
  (((s.applyImage (clOne cl 1)).applyPlans (clOne cl 6)).applyFabric ((clOf cl 7).head?)).loadRefs cl

/-- The headers of TABLE and REFERENCE sections (R82): TARGET, LENGTH, and where the data goes. -/
def loadsOk (cl : List Byte) : Bool :=
  (clOf cl 2).all (fun x =>
    let n := bytesAt x 16 4
    let dest := bytesAt x 8 8
    decide (32 + n ≤ x.length) && (match bytesAt x 0 2 with
      | 1 => decide (0x300000 ≤ dest) && decide (dest + n ≤ 0x400000)
      | 2 => true
      | _ => false)) &&
  (clOf cl 3).all (fun x =>
    let n := bytesAt x 20 4
    bytesAt x 0 2 == 3 && decide (n ≤ 2097152) && decide (32 + n ≤ x.length) && decide (bytesAt x 16 4 + n ≤ 2097152))

/-- The first of a list of checks that fails: its code and the unit that it names. -/
def firstCode : List (Nat × Option Nat) → Nat × Nat
  | [] => (0, noUnit)
  | (code, some u) :: _ => (code, u)
  | (_, none) :: t => firstCode t

/-- A check that names no unit: what `firstCode` takes for it. -/
def plainCheck (ok : Bool) : Option Nat := if ok then none else some noUnit

/-- Pass 1 (R85): 0 when the Cut List is accepted, else the code that says why, 0x8040 where no chapter names one, and the
channel, sequencer, lane, engine or stream that it carries (R216, R240, R294, R345, R368, R399). -/
def State.pass1 (s : State) (cl : List Byte) (slot : Nat) : Nat × Nat :=
  if cl = [] then (0x8040, noUnit)
  else if !clPart cl then (0x8043, noUnit)
  else if !s.clContainer cl slot || !outputsOk (clOne cl 8) || !loadsOk cl then (0x8040, noUnit)
  else if !(State.recsOk (regRecs (clOne cl 1)) s && (clOne cl 1).length % 16 == 0) then (0x8046, noUnit)
  else
    let t := s.prospect cl
    firstCode [(0x804A, plainCheck (t.okPlans cl)), (0x804B, firstBad 16 (t.okPos cl)), (0x804C, firstBad 128 (t.okTrig cl)),
      (0x804D, plainCheck (t.okTime cl)), (0x804E, plainCheck (t.okEvt cl)), (0x804F, firstBad 96 t.okBays),
      (0x8054, plainCheck (t.okStitch cl)), (0x8055, firstBad 192 (t.okEng cl)), (0x8055, kernelPad cl), (0x8055, t.badDma),
      (0x8056, firstBad 8 t.okDdr), (0x8056, firstBad 8 (t.okRegions cl)), (0x8057, badStream cl),
      (0x8058, plainCheck (t.okFabric cl))]

end Sys2Proof.Machine
end

