-- ==== Sys2Proof/Machine/Boot.lean ====
section
/-!
DEFINITION. Start-up: the boot ROM (R72 to R76, R481), the start of firmware (R57, R89, R462, R480 to R484) and the stages
of the Cut List (R85 to R88).
-/

namespace Sys2Proof.Machine

open Reg

/-! ### The boot ROM -/

/-- A start-up failure is logged with the unit that its code names, and LAST_CODE shows it. -/
def State.unitFail (s : State) (code unit : Nat) : State := (s.logC code unit 0).put GLOBAL_BOOT_STATUS_LAST_CODE code
def State.bootFail (s : State) (code : Nat) : State := s.unitFail code noUnit

/-- The boot ROM waits for an image (R76). -/
def State.toRecovery (s : State) : State :=
  (s.putB GLOBAL_BOOT_STATUS_RECOVERY true).modMc (fun m => { m with recImg := [] })

/-- The next TRY byte of the current record that is not programmed. -/
def State.tryNext (s : State) : Option Nat := [20, 21, 22].find? (fun i => !s.recDone i)

/-- Whether the current record is a trial of slot `i` of a target (R480). -/
def State.trialOf (s : State) (target i : Nat) : Bool := s.inTrial && s.recByte 4 == target && s.recByte 5 == i

/-- The values that an image shows while it runs: its version, digest, SEC_VERSION and ROLLBACK_FLOOR (R473). -/
def State.runImage (s : State) (img : List Byte) : State :=
  let s := (s.wrN GLOBAL_FW_VERSION (bytesAt img 16 4)).putB GLOBAL_BOOT_STATUS_RECOVERY false
  s.modMc (fun m => { m with
    fwSel := true, fwDigest := ofBytes (digest (img.take (bytesAt img 8 4 - 4096))), fwSec := bytesAt img 12 4,
    fwFloor := bit (bytesAt img 23 1) 1 })

/-- The boot ROM starts slot `i`; a trial consumes a TRY byte first. -/
def State.runSlot (s : State) (i : Nat) : State :=
  let s := if s.trialOf 0 i then (match s.tryNext with | some b => s.recMark b | none => s) else s
  (s.runImage (s.fwSlot i)).put GLOBAL_BOOT_STATUS_FW_SLOT i

/-- Whether slot `i` passes R75. -/
def State.fwSlotOk (s : State) (i : Nat) : Bool := s.fwOk (s.fwSlot i) (s.region i).2

/-- The boot ROM selects the firmware image (R75, R481). -/
def State.selectFw (s : State) : State :=
  let a := s.activeFw
  let spent := s.trialOf 0 a && s.tryNext.isNone
  let s := s.iff spent (fun s => s.recMark 19)
  if !spent && s.fwSlotOk a then s.runSlot a
  else
    let s := s.bootFail 0x8030
    if s.fwSlotOk (1 - a) then (s.logC 0x8031 noUnit 0).runSlot (1 - a)
    else (s.bootFail 0x8032).toRecovery

/-- The flash interface set: its mode, its clock in units of 0.5 MHz, the opcode and the dummy cycles of a fast read. -/
def State.setFlash (s : State) (mode clk op dummy : Nat) : State :=
  s.modMc (fun m => { m with flashMode := mode, flashClk := clk, flashOp := op, flashDummy := dummy })

/-- The fastest mode of the SFDP tables (`modes`: a bit for each) that is not above `top`; 1-1-1 without one. -/
def fastMode (modes top : Nat) : Nat := (([3, 2, 1] : List Nat).find? (fun m => decide (m ≤ top) && bit modes m)).getD 0

/-- The interface after the boot header is read (R72, R95): the fastest mode that the SFDP tables, PROFILE and FLASH_LIMIT
allow, its clock limited by PROFILE, by the tables (`mhz`) and by XSPI_MAX_MHZ; with FLASH_IF 1-1-1 at no more than 50 MHz.
DEDUCED: PROFILE names its fastest mode. DESIGN CHOICE: the clock is never below 12.5 MHz; opcode and dummy cycles are
PROFILE's in PROFILE's own mode, else 0, which stands for those of the tables. -/
def State.flashFit (s : State) (modes mhz : Nat) : State :=
  let profile := bytesAt s.hdr 12 4
  let limit := bytesAt s.board 1 1
  let ceil := bytesAt s.board 2 2
  let single := s.flag GLOBAL_STRAPS_FLASH_IF_EFF
  let top := min (getBits profile 16 4) (if single then 0 else if limit = 1 then 0 else if limit = 2 then 2 else 3)
  let mode := fastMode modes top
  let clk := min (min (if single then 50 else 200) (if ceil = 0 then 200 else ceil)) (min mhz (4 * getBits profile 24 8))
  let own := mode = getBits profile 16 4
  s.setFlash mode (max 25 (2 * clk)) (if own then getBits profile 0 8 else 0) (if own then getBits profile 8 8 else 0)

/-- The boot ROM runs: xSPI and UART are enabled (R43), and the flash is read with 1-1-1 commands at 12.5 MHz (R72). A
reserved BOOT_MODE is logged. DESIGN CHOICE: at every start of the boot ROM, so again after a system or MC reset (R39). -/
def State.romRuns (s : State) : State :=
  let s := ((s.modPower (fun p => { p with mcDown := false })).modMc (fun m => { m with pads := true })).setFlash 0 25 0 0
  s.iff (s.get GLOBAL_STRAPS_BOOT_MODE_EFF == 3) (fun s => s.logC 0x8011 noUnit 0)

/-- The boot ROM reads the boot header, sets the flash interface and selects firmware (R72 to R76). -/
def State.romSelect (s : State) (modes mhz : Nat) : State :=
  let s := (s.flashFit modes mhz).iff (!(s.hdrValid 0 && s.hdrValid 1)) (fun s => s.logC 0x8020 noUnit 0)
  s.selectFw

/-- BOOT_ROM_START: the MC leaves reset. `sfdp`: what the SFDP tables say, the modes they support (a bit for each) and their
fastest clock in MHz; none when they cannot be read. -/
def execBootRomStart (sfdp : Option (Nat × Nat)) (s : State) : Host.Outcome State Fault Refusal :=
  if s.held || !s.power.mcDown then .next s
  else
    let s := s.romRuns
    let mode := s.get GLOBAL_STRAPS_BOOT_MODE_EFF
    if mode = 1 then .next s.toRecovery
    else match sfdp with
    | none => .next (s.bootFail 0x8022).toRecovery
    | some (modes, mhz) =>
      if s.hdrCopy.isNone then .next (s.bootFail 0x8021).toRecovery
      else
        let s := s.romSelect modes mhz
        .next (s.iff (mode == 2 && s.jtagOpen && s.mc.fwSel) (fun s => s.modPower (fun p => { p with mcDebugHold := true })))

/-! ### Firmware starts -/

/-- The OTP slots with VALID = 1 and a wrong CRC are logged, one entry each (R92). -/
def State.logBadSlots (s : State) : State :=
  (List.range 4).foldl (fun s k => (List.range (otpSlots k)).foldl (fun s i =>
    s.iff (s.slotIs k i == .bad && bit (bytesAt (s.otpSlot k i) (otpSize k - 4) 1) 0) (fun s => s.logC 0x8051 noUnit 0)) s) s

/-- After a PLL reset that stopped PLL_TB, CLASS falls to HOLDOVER (R57). -/
def State.demoteTime (s : State) : State :=
  s.iff (bit (s.rdN GLOBAL_RESET_CAUSE) 3 && bit (s.get GLOBAL_PLL_STATUS_LOST) 5 && decide (2 ≤ s.get TB_QUALITY_CLASS))
    (fun s => s.put TB_QUALITY_CLASS 1)

/-- A trial has failed: the boot header names `fw` and `cl`, and the update is reported (R481). -/
def State.trialFailed (s : State) (fw cl : Nat) : State :=
  (((s.hdrRewrite fw cl).logC 0x8062 noUnit 0).raise 11 MC_EVENTS_UPDATE_FAIL).put MC_UPDATE_STATUS_STATE 5

/-- A record of R479. -/
def recBytes (target slot prev : Nat) (dig : List Byte) : List Byte :=
  toBytes 4 0x50555747 ++ toBytes 1 target ++ toBytes 1 slot ++ toBytes 1 prev ++ toBytes 1 0 ++ dig.take 8 ++ List.replicate 48 0xFF

/-- Bytes are written to the flash from `a` on: a sector is erased as the data enters it (R478). -/
def State.flashWrite (s : State) (a : Nat) (l : List Byte) : State :=
  let first := ceilDiv a 65536
  let n := (a + l.length + 65535) / 65536 - first
  ((List.range n).foldl (fun s i => s.flashErase (65536 * (first + i))) s).flashProg a l

/-- A slot is activated: the boot header names it (R478, R479). -/
def State.activate (s : State) (target slot : Nat) : State :=
  let s := if target = 0 then s.hdrRewrite slot s.activeCl else s.hdrRewrite s.activeFw slot
  (s.recMark 17).put MC_UPDATE_STATUS_STATE 4

/-- An image that started in recovery with RECOVERY_WRITE goes into slot A and is activated (R484). -/
def State.recoveryWrite (s : State) : State :=
  let img := s.mc.recImg
  let s := s.modMc (fun m => { m with recImg := [] })
  if img = [] ∨ bit (bytesAt img 23 1) 0 = false then s
  else
    let dig := digest (img.take (img.length - 4096))
    let s := (s.recNew (recBytes 0 0 s.activeFw dig)).flashWrite (s.region 0).1 img
    (s.recMark 16).activate 0 0

/-- What firmware does at every start, before it applies or resumes. -/
def State.fwBegin (s : State) : State :=
  let cause := s.rdN GLOBAL_RESET_CAUSE
  let s := s.logC 0x9140 noUnit cause
  let s := (s.iff (bit cause 4) (fun s => s.logC 0x8069 noUnit 0)).logBadSlots
  let s := s.modMc (fun m => { m with
    fwOn := true, fwAt := s.tb.ticks, fwCommit := s.outCommit, pmbFails := [], pmbMode := [], boots := m.boots + b2n (bit cause 0) })
  let s := s.iff (s.curRec.isSome && !s.recDone 16) (fun s => s.logC 0x8064 noUnit 0)
  let s := (s.iff (s.flag MC_EVENTS_TRIPPED) (fun s => s.logC 0x9203 noUnit 0)).demoteTime
  let failed := s.curRec.isSome && s.recByte 4 == 0 && s.recDone 19 && s.activeFw != s.get GLOBAL_BOOT_STATUS_FW_SLOT
  let s := s.iff failed (fun s => s.trialFailed (s.get GLOBAL_BOOT_STATUS_FW_SLOT) s.activeCl)
  let s := s.iff s.inTrial (fun s => ((s.put MC_UPDATE_STATUS_STATE 4).put MC_UPDATE_STATUS_TARGET (s.recByte 4)).put
    MC_UPDATE_STATUS_SLOT (s.recByte 5))
  s.recoveryWrite.romUpdate

/-- After an MC reset under CL_COMMIT = 1 firmware resumes; a slot that holds another build is not read again (R89). -/
def State.fwResume (s : State) : State :=
  let cl := s.clSlot (s.get GLOBAL_BOOT_STATUS_CL_SLOT)
  s.iff (bytesAt cl 16 8 != s.rd64 GLOBAL_CUTLIST_ID) (fun s => (s.logC 0x8050 noUnit 0).modMc (fun m => { m with clOk := false }))

/-! ### Stage 1: the slot -/

/-- The units that the repair map marks are logged once each (R500). -/
def State.logRepair (s : State) : State :=
  let r := s.repair
  let one := fun (s : State) (kind n x : Nat) => (List.range n).foldl (fun s i =>
    s.iff (bit x i) (fun s => s.logC 0x8070 noUnit (kind * 2 ^ 28 + 2 ^ 24 + i))) s
  let s := one (one (one s 0 96 (bytesAt r 0 12)) 1 24 (bytesAt r 12 3)) 2 192 (bytesAt r 20 24)
  one (one (one s 3 8 (bytesAt r 15 1)) 4 16 (bytesAt r 16 2)) 5 4 (bytesAt r 18 1)

/-- Why Cut List slot `i` cannot be used: 0 it can, 1 it is skipped after two mismatches (R87), else a log code with the
unit that it carries. -/
def State.clCheck (s : State) (i : Nat) : Nat × Nat :=
  if 2 ≤ cget (fun _ => 0) s.mc.badSections i then (1, noUnit) else s.pass1 (s.clSlot i) (s.region (2 + i)).2

/-- A slot that failed pass 1 is logged: 0x8040, and the code that says why. -/
def State.clFail (s : State) (c : Nat × Nat) : State :=
  if c.1 = 1 then s else (s.bootFail 0x8040).iff (c.1 != 0x8040) (fun s => s.unitFail c.1 c.2)

/-- Firmware holds (R86). -/
def State.hold (s : State) : State := s.putB GLOBAL_BOOT_STATUS_HELD true

/-- A trial Cut List has failed: the record is FAILED, the header names PREV, and the device resets (R481). -/
def State.clTrialFail (s : State) : State :=
  let prev := s.recByte 6 % 2
  ((s.recMark 19).trialFailed s.activeFw prev).sysReset 2

/-- Whether the slot of ACTIVE_CL is in trial. -/
def State.clTrial (s : State) : Bool := s.trialOf 1 s.activeCl

/-- Firmware selects a Cut List slot (R75, R85, R481): the slot, or none when it holds or resets. -/
def State.clSelect (s : State) : State × Option Nat :=
  let a := s.activeCl
  let c := s.clCheck a
  if s.clTrial && (s.tryNext.isNone || c.1 != 0) then ((s.clFail (if c.1 = 0 then (1, noUnit) else c)).clTrialFail, none)
  else if c.1 = 0 then (match s.clTrial, s.tryNext with
    | true, some b => (s.recMark b, some a)
    | _, _ => (s, some a))
  else
    let s := s.clFail c
    let d := s.clCheck (1 - a)
    if d.1 = 0 then (s.logC 0x8041 noUnit 0, some (1 - a)) else ((s.clFail d).hold, none)

/-! ### Stages 2 to 4 -/

/-- A DDR4 channel is trained (R348): `t` is the code of the rate reached, none of R346 when it failed at MIN_RATE. -/
def State.train (s : State) (k t : Nat) : State :=
  if !s.flag (DDR_CFG_ENABLE k) || s.ddrRetired k then s
  else if min 6 (s.get (DDR_CFG_MIN_RATE k)) ≤ t ∧ t ≤ min 6 (s.get (DDR_CFG_RATE k)) then
    let s := ((s.put (DDR_STATUS_TRAINED_RATE k) t).put (DDR_STATUS_STATE k) 2).setLock (8 + k) true
    (s.iff (decide (t < min 6 (s.get (DDR_CFG_RATE k)))) (fun s =>
      (s.raise 4 (DDR_EVENTS_FALLBACK k)).logC 0x4002 k t)).logC 0x4001 k t
  else s.ddrRetire k 1 false

/-- A TABLE section is loaded (R82): a BAR0 window word by word (nothing outside the table windows; a refused write is counted, R227), or DDR4. -/
def State.loadTable (s : State) (x : List Byte) : State :=
  let d := (x.drop 32).take (bytesAt x 16 4)
  let dest := bytesAt x 8 8
  if bytesAt x 0 2 = 2 then (s.arbAsk (chanAt dest) reqMgmt).ddrWr (dest % 2 ^ 39) d
  else (List.range (ceilDiv d.length 4)).foldl (fun s i =>
    let o := dest + 4 * i
    s.iff (decide (0x300000 ≤ o)) (fun s =>
      let x := s.write32 0 o (bytesAt d (4 * i) 4)
      x.1.iff (x.2 != 0) (fun s => s.badAccess 0 o x.2))) s

/-- A REFERENCE section whose load failed twice: the 64-byte units that were uncorrectable are zero (R355). -/
def State.badRef (s : State) (x : List Byte) (units : List Nat) : State :=
  let s := units.foldl (fun s i =>
    (List.range 24).foldl (fun s b => s.iff (bit (bytesAt x 4 4) b && !s.bayRetired b && decide (64 * i < bytesAt x 20 4))
      (fun s => s.bayWr b (bytesAt x 16 4 + 64 * i) (List.replicate (min 64 (bytesAt x 20 4 - 64 * i)) 0))) s) s
  s.iff (!units.isEmpty) (fun s => s.logC 0x4013 (bytesAt x 8 8 / 2 ^ 36 % 8) 0)

/-- A section of stage 4 is loaded. -/
def State.loadSect (s : State) (type : Nat) (x : List Byte) (units : List Nat) : State :=
  if type = 2 then s.loadTable x else if type = 3 then (s.loadRef x).badRef x units else if type = 4 then s.applyKernel x else s

/-- Pass 2: the sections in file order, up to the first whose digest differs (R87). -/
def State.pass2 (s : State) (cl : List Byte) (slot : Nat) (reread : List Nat) (bad : List (Nat × List Nat)) :
    List (Nat × ClSect) → State
  | [] => (s.put GLOBAL_BOOT_STATUS_STAGE 4).modMc (fun m => { m with badSections := cset (fun _ => 0) m.badSections slot 0 })
  | (i, x) :: t =>
    if 2 ≤ x.type ∧ x.type ≤ 4 then
      let s := s.loadSect x.type (x.bytes cl) (((bad.find? (fun (e : Nat × List Nat) => e.1 == i)).map (fun (e : Nat × List Nat) => e.2)).getD [])
      if i ∈ reread then
        let s := s.modMc (fun m => { m with
          badSections := cset (fun _ => 0) m.badSections slot (cget (fun _ => 0) m.badSections slot + 1) })
        ((s.logC 0x8047 noUnit (slot * 65536 + i)).put GLOBAL_BOOT_STATUS_LAST_CODE 0x8047).sysReset 2
      else s.pass2 cl slot reread bad t
    else s.pass2 cl slot reread bad t

/-- Stages 2 to 4 with the Cut List of a slot. -/
def State.applyCl (s : State) (slot : Nat) (trained reread : List Nat) (bad : List (Nat × List Nat)) : State :=
  let cl := s.clSlot slot
  let s := s.put GLOBAL_BOOT_STATUS_CL_SLOT slot
  let s := (clSects cl).foldl (fun s (x : Nat × ClSect) =>
    s.iff (!decide (1 ≤ x.2.type ∧ x.2.type ≤ 8)) (fun s => s.logC 0x8049 noUnit 0)) s
  let s := (s.applyImage (clOne cl 1)).put GLOBAL_BOOT_STATUS_STAGE 3
  let s := ((List.range 8).foldl (fun s k => s.train k (trained.getD k 8)) s).romUpdate
  s.pass2 cl slot reread bad (clSects cl)

/-- Whether a sensor still reads at or above WARN, or has not been read (R462). -/
def State.tooHot (s : State) : Bool :=
  !bit (s.rdN MC_SENS_STATUS) 8 || (List.range 8).any (fun k => decide ((s.get MC_THERM_CFG_WARN : Int) * 16 ≤ s.tempNow k))

/-- Stage 1 begins, and the stages up to 4 follow unless firmware waits after a thermal trip, holds or resets. -/
def State.bringUp (s : State) (trained reread : List Nat) (bad : List (Nat × List Nat)) : State :=
  if s.flag MC_EVENTS_TRIPPED && s.tooHot then s
  else
    let r := s.logRepair.clSelect
    match r.2 with
    | some slot => r.1.applyCl slot trained reread bad
    | none => r.1

/-- FIRMWARE_START: the selected image runs. `trained` gives the rate code that each channel reaches in training, `reread`
the sections whose digest differs in pass 2, `bad` the REFERENCE sections whose load failed twice, with the 64-byte units
that were uncorrectable. After a thermal trip the command comes again when the sensors have cooled. -/
def execFirmwareStart (trained reread : List Nat) (bad : List (Nat × List Nat)) (s : State) : Host.Outcome State Fault Refusal :=
  if s.held || s.power.mcDown || s.power.mcDebugHold || !s.mc.fwSel then .next s
  else if !s.mc.fwOn then
    let s := s.fwBegin
    if s.clCommit then .next s.fwResume
    else .next (((s.put GLOBAL_BOOT_STATUS_STAGE 1).putB GLOBAL_BOOT_STATUS_HELD false).bringUp trained reread bad)
  else if !s.clCommit && s.get GLOBAL_BOOT_STATUS_STAGE == 1 && !s.flag GLOBAL_BOOT_STATUS_HELD then .next (s.bringUp trained reread bad)
  else .next s

/-! ### Stages 5 and 6 -/

/-- The Cut List that is being applied, from its slot. -/
def State.clNow (s : State) : List Byte := s.clSlot (s.get GLOBAL_BOOT_STATUS_CL_SLOT)

/-- Firmware commits the shadow windows of a port (R411); they are the set that an FLR restores (R420). -/
def State.fixWindows (s : State) (p : Nat) : State :=
  let s := s.windowCommit p
  if s.flag (PCIE_WIN_STATUS_COMMIT_PENDING p) then
    let l := s.shadowWords p
    (s.windowSwitch p []).modHport p (fun x => { x with fixed := l.filter (fun (e : Nat × Word) => e.2 != 0) })
  else s

/-- Whether the streams of the Cut List with a ceiling would need more than 8 privileged requesters of one channel (R364). -/
def State.clPriv (s : State) (cl : List Byte) : Bool :=
  let t := (clStreams cl).foldl (fun s d => s.defineStream d none) s
  tooPriv ((((clStreams cl).map (fun d => bytesAt d 0 1)).filter (fun st => decide (0 < t.ceilingNs st))).flatMap t.ddrNeeds)

/-- Admission of every stream of the Cut List; the number refused. The whole set is where it needs too many privileges
(R364). -/
def State.admitAll (s : State) (cl : List Byte) : State × Nat :=
  if s.clPriv cl then ((clStreams cl).foldl (fun s d => s.logC 0x8044 (bytesAt d 0 1) nPriv) s, (clStreams cl).length)
  else (clStreams cl).foldl (fun (a : State × Nat) d =>
    let r := a.1.admitStream d none
    (r.1, a.2 + b2n r.2.isLeft)) (s, 0)

/-- The committed Cut List shows: its build, digest and SEC_VERSION, the Descriptor ROM and the capacity. -/
def State.showCl (s : State) (cl : List Byte) : State :=
  let s := s.modMc (fun m => { m with
    clOk := true, buildId := bytesAt cl 16 8, clDigest := ofBytes (digest (cl.take (cl.length - 4096))), clSec := bytesAt cl 12 4 })
  ((s.wr64 GLOBAL_CUTLIST_ID (bytesAt cl 16 8)).showCap).romBuild

/-- Stages 4 to 6 (R85): the windows are committed, every stream of the Cut List is put to admission, and what is committed
shows. Answers how many streams were refused. -/
def State.clAdmit (s : State) : State × Nat :=
  let cl := s.clNow
  let s := (List.range 2).foldl (fun s p => s.fixWindows p) s
  let r := s.admitAll cl
  ((r.1.showCl cl).put GLOBAL_BOOT_STATUS_STAGE 6, r.2)

/-- CL_COMMIT: RWL fields lock (R85); from stage 4 firmware commits the windows and runs admission. With STRICT a refused
stream ends the start. -/
def execClCommit (s : State) : Host.Outcome State Fault Refusal :=
  if s.held then .next s
  else
    let go := s.fwRuns && s.get GLOBAL_BOOT_STATUS_STAGE == 4 && !s.clCommit
    let s := s.setClCommit
    if !go then .next s
    else
      let strict := bit (bytesAt s.clNow 28 2) 0
      let r := s.clAdmit
      if strict && r.2 != 0 then .next (if r.1.clTrial then r.1.clTrialFail else r.1.hold) else .next r.1

/-! ### Stages 7 and 8 -/

/-- Stage 7 (R85, R88): the plans of lanes and fabric are applied. -/
def State.stage7 (s : State) : State :=
  let cl := s.clNow
  (((s.applyPlans (clOne cl 6)).applyFabric ((clOf cl 7).head?)).put GLOBAL_BOOT_STATUS_STAGE 7).romUpdate

/-- LINK_RELEASE: from stage 6 firmware, unless the slot holds another build (R89), applies LINK_PLAN and FABRIC; everything starts together (R85, R88). -/
def execLinkRelease (s : State) : Host.Outcome State Fault Refusal :=
  if s.held || s.flag GLOBAL_BOOT_STATUS_HELD then .next s
  else .next (s.iff (s.fwRuns && s.mc.clOk && s.get GLOBAL_BOOT_STATUS_STAGE == 6) State.stage7).setRelease

/-- Whether the voltage of a bank lies within 5 % of its declaration (R51): monitors 11 to 15. -/
def State.bankOk (s : State) (decl b : Nat) : Bool :=
  let want := if decl = 1 then 1800 else 3300
  let v := s.voltNow (11 + b)
  decl != 0 && decide (want * 95 ≤ v * 100) && decide (v * 100 ≤ want * 105)

/-- The owner of GPIO `g` in the configuration in force: OWNER and INDEX (R508). -/
def State.pinOwner (s : State) (g : Nat) : Nat × Nat :=
  let one := fun (n owner : Nat) (f : Nat → Bool) => ((List.range n).find? f).map (fun i => (owner, i))
  ((one 128 1 (fun q => s.flag (TRIG_CTRL_ENABLE q) && s.trPath q == 3 && s.trOut q == g)) <|>
    (one 16 2 (fun i => s.flag (TB_CYC_CFG_EN i) && s.flag (TB_CYC_CFG_OUT_EN i) && s.get (TB_CYC_CFG_OUT_PIN i) == g)) <|>
    (one 8 3 (fun k => s.flag (EVT_OUT_CFG_EN k) && s.get (EVT_OUT_CFG_PIN k) == g)) <|>
    (one 8 4 (fun k => s.flag (GPIO_PWM_CFG_EN k) && s.get (GPIO_PWM_CFG_PIN k) == g))).getD (0, 0)

/-- GPIO_OWNER of one pin; a pin of a disabled bank reads 0 in GPIO_IN. -/
def State.setOwner (s : State) (outs : List Byte) (ok : Nat → Bool) (g : Nat) : State :=
  let w := s.pinOwner g
  let idle := (outRecs outs).any (fun (r : Nat × Nat × Bool) => r.1 == 0 && r.2.1 == g && r.2.2)
  let s := s.wrN (GPIO_OWNER g) (w.1 + 256 * w.2 + 2 ^ 15 * b2n (pinRec outs g) + 2 ^ 16 * b2n idle + 2 ^ 17 * b2n (ok (pinBank g)))
  s.iff (!ok (pinBank g)) (fun s => s.putB ⟨GPIO_IN_LO + 4 * (g / 32), g % 32, 1⟩ false)

/-- Stage 8 begins: the banks are checked and the idle levels loaded (R51, R84). -/
def State.stage8 (s : State) (outs : List Byte) : State :=
  let ok := fun b => s.bankOk (bankDecl outs b) b
  let good := (List.range 5).filter ok
  let s := (List.range 5).foldl (fun s b => s.iff (bankDecl outs b != 0 && decide (b ∉ good)) (fun s => s.logC 0x9130 noUnit 0)) s
  let s := (List.range 64).foldl (fun s g => s.setOwner outs (fun b => decide (b ∈ good)) g) s
  let encs := ((outRecs outs).filter (fun (r : Nat × Nat × Bool) => r.1 == 1)).map (fun (r : Nat × Nat × Bool) => (r.2.1, r.2.2))
  let pps := ((outRecs outs).find? (fun (r : Nat × Nat × Bool) => r.1 == 2)).map (fun (r : Nat × Nat × Bool) => r.2.2)
  let s := s.modMc (fun m => { m with encOff := decide (4 ∉ good), encIdle := encs, waitAt := s.tb.ticks })
  (s.modTb (fun t => { t with ppsIdle := pps })).put GLOBAL_BOOT_STATUS_STAGE 8

/-- The first commit after a reset: what R332, R339 and R383 count begins here. -/
def State.firstCommit (s : State) : State :=
  let s := (List.range 256).foldl (fun s st => s.modStrm st (fun x => { x with dealt := 0, inWin := 0 })) (s.setRateFrom s.tb.ticks)
  let s := (List.range 192).foldl (fun s e => s.modEng e (fun x => { x with emitted := [] })) (s.faultWindow s.tb.ticks)
  s.setOutputs.put GLOBAL_BOOT_STATUS_STAGE 9

/-- OUTPUT_COMMIT_SET: from stage 7 firmware runs stage 8, which may wait for Sill time; else the bit is set (R42, R90). -/
def execOutputCommitSet (s : State) : Host.Outcome State Fault Refusal :=
  if s.held || s.flag GLOBAL_BOOT_STATUS_HELD then .next s
  else
    let st := s.get GLOBAL_BOOT_STATUS_STAGE
    if s.fwRuns && s.mc.clOk && (st == 7 || st == 8) then
      let cl := s.clNow
      let s := s.iff (st == 7) (fun s => s.stage8 (clOne cl 8))
      if bit (bytesAt cl 28 2) 1 && !s.flag SILL_STATUS_TIME_LOCKED then .next s else .next s.firstCommit
    else .next s.setOutputs

/-- COMMIT_TIMEOUT_EXPIRY: the wait at stage 8 ends without Sill time, COMMIT_TIMEOUT ms after it began (R77, R85). -/
def execCommitTimeoutExpiry (s : State) : Host.Outcome State Fault Refusal :=
  let due := s.mc.waitAt + bytesAt s.clNow 30 2 * 1000000
  if !s.fwRuns || s.get GLOBAL_BOOT_STATUS_STAGE != 8 || s.outCommit || decide (s.tb.ticks < due) then .next s
  else .next (s.logC 0x8045 noUnit 0).firstCommit

/-- OUTPUT_COMMIT_CLEAR: the bit is cleared (R44, R90). -/
def execOutputCommitClear (s : State) : Host.Outcome State Fault Refusal :=
  if s.held then .next s else .next s.clearOutputs

end Sys2Proof.Machine
end

