-- ==== Sys2Proof/Machine/Mbox.lean ====
section
/-!
DEFINITION. The mailbox requests (R416 to R418) and what each opcode does (R90, R176, R339, R393, R469, R476 to R488,
R496). Each command serves the request at the head of the order of GO; with another request there, nothing happens.
-/

namespace Sys2Proof.Machine

open Reg

/-! ### Serving -/

/-- The request of port `p` is next in the order of GO. -/
def State.atHead (s : State) (p : Nat) : Bool := s.mc.mboxOrder.head? == some p
/-- Firmware serves a request of opcode `op` on port `p` now. -/
def State.serves (s : State) (p op : Nat) : Bool := s.atHead p && s.fwRuns && s.reqOpcode p == op
/-- The boot ROM serves the mailbox of port A in recovery (R76). -/
def State.recovering (s : State) : Bool := s.flag GLOBAL_BOOT_STATUS_RECOVERY && !s.power.mcDown && !s.held && !s.mc.fwOn
/-- The opcodes of R417, and those that the boot ROM answers (R484). -/
def opcodes : List Nat := [0x01, 0x10, 0x11, 0x12, 0x13, 0x20, 0x30, 0x31, 0x32, 0x40, 0x41, 0x42, 0x43, 0x50, 0x58, 0x60, 0x61, 0x62, 0x70]
def bootOpcodes : List Nat := [0x40, 0x41, 0x42]

/-- MAILBOX_BAD_OPCODE (R416, R417). -/
def execMailboxBadOpcode (p : Fin 2) (s : State) : Host.Outcome State Fault Refusal :=
  let op := s.reqOpcode p
  if s.atHead p && ((s.fwRuns && decide (op ∉ opcodes)) || (s.recovering && decide (op ∉ bootOpcodes))) then
    .next (s.answerFree p rBadOpcode [])
  else .next s

/-- GET_INFO: the state of firmware, STAGE, the mailbox format (R417). The coding of the firmware's state is not stated. -/
def execGetInfo (p : Fin 2) (s : State) : Host.Outcome State Fault Refusal :=
  if !s.serves p 0x01 then .next s
  else
    let r := s.free
    .next (r.2.answerFree p rOk (toBytes 4 r.1 ++ toBytes 4 (s.get GLOBAL_BOOT_STATUS_STAGE) ++ toBytes 4 0x0100))

/-! ### Streams and rings (R393, R418) -/

/-- Whether the Cut List in force defines a stream. -/
def State.clDefines (s : State) (st : Nat) : Bool :=
  (!(s.strm st).defn.isEmpty && (s.strm st).mbox.isNone) || (s.mc.clOk && (clStreams s.clNow).any (fun d => bytesAt d 0 1 == st))

/-- STREAM_OPEN (R393, R498): DETAIL is the promise, or the term or check that failed. -/
def execStreamOpen (p : Fin 2) (s : State) : Host.Outcome State Fault Refusal :=
  if !s.serves p 0x10 then .next s
  else
    let d := s.payBytes p 0 64
    let st := bytesAt d 0 1
    if s.flag GLOBAL_READMIT_PENDING then .next (s.answerFree p rBusy [])
    else if s.reqLen p < 64 || !streamOk d || s.clDefines st then .next (s.answerFree p rBadArgs [])
    else if s.admitted st || (s.strm st).closing then .next (s.answerFree p rInUse [])
    else if !s.clCommit then .next (s.answerFree p rRefused [])
    else
      let r := s.admitStream d (some p)
      match r.2 with
      | .inl n => .next (r.1.answer p rRefused n [])
      | .inr b => .next (r.1.romUpdate.answer p rOk b [])

/-- STREAM_CLOSE of stream `st`: only a stream that came through a mailbox. -/
def execStreamClose (p : Fin 2) (st : Fin 256) (s : State) : Host.Outcome State Fault Refusal :=
  if !s.serves p 0x11 then .next s
  else if !s.admitted st || (s.strm st).mbox.isNone then .next (s.answerFree p rBadArgs [])
  else .next ((s.closeStream st).romUpdate.answerFree p rOk [])

/-- Whether a post keeps the rules of R372 and R418. -/
def State.postOk (s : State) (p : Nat) : Bool :=
  let st := s.payN p 0 1
  let v := s.payN p 2 2
  s.admitted st && s.usesPort st p && decide (4 ≤ s.payN p 1 1) && decide (s.payN p 1 1 ≤ 16) && decide (16 ≤ v) && decide (v ≤ 2047) &&
    s.payN p 4 4 == 0 && s.payN p 8 8 % 4096 == 0 && s.payN p 16 8 % 4096 == 0 && s.payN p 24 8 % 8 == 0

/-- The ring pair of a stream is posted on port `p` (R372): the stream is active there. -/
def State.postRing (s : State) (p : Nat) : State :=
  let st := s.payN p 0 1
  let s := ((s.wr64 (DLV_DESC_BASE st p) (s.payN p 8 8)).wr64 (DLV_CPL_BASE st p) (s.payN p 16 8)).wr64 (DLV_IDX_ADDR st p) (s.payN p 24 8)
  let s := s.wrN (DLV_RING_CFG st p) (s.payN p 1 1 + 65536 * s.payN p 2 2 + 2 ^ 31)
  let s := ((s.wrN (DLV_DESC_HEAD st p) 0).wrN (DLV_DESC_TAIL st p) 0).wrN (DLV_TAGS st p) 0
  ((s.putB (activeF st p) true).putB (starvedF st p) false).modRing st p (fun _ => Ring.reset)

/-- RING_POST (R372, R418). -/
def execRingPost (p : Fin 2) (s : State) : Host.Outcome State Fault Refusal :=
  if !s.serves p 0x12 then .next s
  else if !s.postOk p then .next ((s.logC 0x5111 (s.payN p 0 1) 0).answerFree p rBadArgs [])
  else if s.flag (activeF (s.payN p 0 1) p) || (s.ring (s.payN p 0 1) p).withdraw then .next (s.answerFree p rInUse [])
  else .next ((s.postRing p).answerFree p rOk [])

/-- The deliveries of a ring that hold no descriptor complete without a tag (R370, R418). -/
def State.dropWaiting (s : State) (st p : Nat) : State :=
  (s.dlv.filter (fun (d : Delivery) => d.stream == st && d.port == p && d.desc.isNone && d.filled.isEmpty)).foldl (fun s d =>
    let s := (s.bump (DLV_CNT_UNPOSTED st)).unserve st d.tiles
    if d.final then s.dropDlv d.num
    else s.modDlv d.num (fun d => { d with port := 2, tiles := [], data := [], sent := 0, waitFrom := none })) s

/-- RING_WITHDRAW (R418): the ring takes no descriptor more, and the response follows its last tag. -/
def execRingWithdraw (p : Fin 2) (s : State) : Host.Outcome State Fault Refusal :=
  if !s.serves p 0x13 then .next s
  else
    let st := s.payN p 0 1
    if !s.flag (activeF st p) then .next (s.answerFree p rBadArgs [])
    else
      let s := (s.putB (activeF st p) false).modRing st p (fun r => { r with withdraw := true })
      let s := s.modMc (fun m => { m with mboxOrder := m.mboxOrder.filter (fun q => q != p), mboxLate := m.mboxLate ++ [p.val] })
      .next (((s.dropWaiting st p).showWaiting st).settleWithdraw st p)

/-! ### Cameras, tables and engines -/

/-- CAMERA_ACCESS to lane `l` (R176): a register access (`op` 1 reads, 2 writes) or an unscheduled action (3) goes out
once the camera's setup is complete. While it is waited for, the camera acknowledges it: `op` 0 with an error, else with
success, and a read with `value`, and the request is answered. -/
def execCameraAccess (p : Fin 2) (l : Fin 96) (op : Fin 4) (addr value : Word) (s : State) : Host.Outcome State Fault Refusal :=
  if s.ethUp l && s.gvcpIs l (10 + p) && decide (p.val ∈ s.mc.mboxLate) then
    let read := match (s.leth l).gvcp with | c :: _ => c.op == 1 | [] => false
    if op.val = 0 then .next ((s.gvcpNext l).accessDone p rRefused [])
    else .next ((s.gvcpNext l).accessDone p rOk (if read then toBytes 4 value.toNat else []))
  else if !s.serves p 0x20 then .next s
  else if s.persReg l ≤ 1 || op.val == 0 then .next (s.answerFree p rBadArgs [])
  else
    let s := s.modMc (fun m => { m with mboxOrder := m.mboxOrder.filter (fun q => q != p), mboxLate := m.mboxLate ++ [p.val] })
    let s := s.modEth l (fun x => { x with access := x.access ++ [⟨10 + p.val, op, addr.toNat, value.toNat⟩] })
    .next (s.iff (s.flag (ETH_STATUS_READY l)) (fun s => s.accessGo l))

/-- The bytes of a defect list at `a` of DDR4, rounded up to 64 (R292). -/
def State.ddrDefBytes (s : State) (a : Nat) : Nat :=
  match (List.range 2049).find? (fun i => ofBytes (s.ddrRd (a + 4 * i) 4) == 0xFFFFFFFF) with
  | some n => roundUp (4 * (n + 1)) 64
  | none => roundUp (4 * 2049) 64

/-- The tables that a load names, in order: kind, DDR4 address, bay store offset, bytes (R488). -/
def State.loadParts (s : State) (l set_ kinds a : Nat) : List (Nat × Nat × Nat × Nat) :=
  let ff := ceilDiv (s.linePixels l) (2 ^ s.get (BAY_COND_CTRL_FF_SHIFT l)) * comps (s.laneFmt l) * 4
  let lut := if s.flag (BAY_COND_CTRL_LUT_PER_COMP l) then 24768 else 8256
  let base := fun (f0 f1 : Fld) => 64 * s.get (if set_ = 0 then f0 else f1)
  let p0 := if bit kinds 0 then [(0, a, base (BAY_FF_BASE0_BASE l) (BAY_FF_BASE1_BASE l), ff)] else []
  let a1 := if bit kinds 0 then roundUp (a + ff) 64 else a
  let def_ := s.ddrDefBytes a1
  let p1 := if bit kinds 1 then [(1, a1, base (BAY_DEF_BASE0_BASE l) (BAY_DEF_BASE1_BASE l), def_)] else []
  let a2 := if bit kinds 1 then a1 + def_ else a1
  p0 ++ p1 ++ (if bit kinds 2 then [(2, a2, base (BAY_LUT_BASE0_BASE l) (BAY_LUT_BASE1_BASE l), lut)] else [])

/-- Whether the bytes of a load lie within one reference copy region (R359). -/
def State.inRef (s : State) (a n : Nat) : Bool :=
  (refRegions s.clInForce).any (fun (r : Nat × Nat) => decide (r.1 ≤ a) && decide (a + n ≤ r.1 + r.2))

/-- One table is loaded through REFLOAD; the units of 64 bytes at the addresses `bad` are uncorrectable and load as zero
(R355). -/
def State.loadPart (s : State) (l : Nat) (bad : Nat → Bool) (x : Nat × Nat × Nat × Nat) : State × Bool :=
  let a := x.2.1
  let n := x.2.2.2
  let units := (List.range (ceilDiv n 64)).filter (fun i => bad (a + 64 * i))
  let s := units.foldl (fun s i => s.ddrUncorrectable (a / 2 ^ 36 % 8) ((a + 64 * i) % 2 ^ 36) 26) s
  let s := (s.arbAsk (chanAt a) reqRefload).bayWr (l / 4) x.2.2.1 (s.ddrRd a n)
  (units.foldl (fun s i => s.bayWr (l / 4) (x.2.2.1 + 64 * i) (List.replicate (min 64 (n - 64 * i)) 0)) s, !units.isEmpty)

/-- The tables are loaded one after the other; the first kind that failed. -/
def State.loadAll (s : State) (l : Nat) (bad : Nat → Bool) (xs : List (Nat × Nat × Nat × Nat)) : State × Option Nat :=
  xs.foldl (fun (r : State × Option Nat) x =>
    let y := r.1.loadPart l bad x
    (y.1, if y.2 then r.2 <|> some x.1 else r.2)) (s, none)

/-- TABLE_LOAD (R488): `bad` are the addresses of the 64-byte units that were uncorrectable. -/
def execTableLoad (p : Fin 2) (bad : List Nat) (s : State) : Host.Outcome State Fault Refusal :=
  if !s.serves p 0x30 then .next s
  else
    let l := s.payN p 0 1
    let set_ := s.payN p 1 1
    let kinds := s.payN p 2 1
    let a := s.payN p 8 8
    if 96 ≤ l || 1 < set_ || 7 < kinds || s.payN p 3 1 != 0 || s.get (BAY_COND_STATUS_ACTIVE_SET l) == set_ then
      .next (s.answerFree p rBadArgs [])
    else if s.flag (BAY_COND_STATUS_SWAP_WAIT l) then .next (s.answerFree p rInUse [])
    else
      let xs := s.loadParts l set_ kinds a
      let n := match xs.getLast? with | some x => x.2.1 + x.2.2.2 - a | none => 0
      if a % 64 != 0 || !s.inRef a n then .next (s.answerFree p rBadArgs [])
      else
        let gone := s.ddrRetired (a / 2 ^ 36 % 8)
        let r := s.loadAll l (fun b => gone || decide (b ∈ bad)) xs
        match r.2 with
        | some k => .next (r.1.answer p rRefused k [])
        | none => .next (r.1.answerFree p rOk [])

/-- ENGINE_RESTART of engine `e` (R339, R495). -/
def execEngineRestart (p : Fin 2) (e : Fin 192) (s : State) : Host.Outcome State Fault Refusal :=
  if !s.serves p 0x31 then .next s
  else if s.engRetired e then .next (s.answerFree p rRefused [])
  else .next ((s.restartEng e).answerFree p rOk [])

/-- UNIT_RETIRE (R496). -/
def execUnitRetire (p : Fin 2) (s : State) : Host.Outcome State Fault Refusal :=
  if !s.serves p 0x32 then .next s
  else
    let kind := s.payN p 0 1
    let i := s.payN p 1 1
    let no := fun (r : Nat) => (s.logC 0x8073 noUnit (kind * 2 ^ 28 + r * 2 ^ 24 + i)).answerFree p r []
    if unitCount kind ≤ i || s.payN p 2 2 != 0 then .next (no rBadArgs)
    else if s.get GLOBAL_BOOT_STATUS_STAGE != 9 then .next (no rRefused)
    else if s.unitGone kind i then .next (s.answer p rOk 1 [])
    else .next ((s.retireUnit kind i).answer p rOk 0 [])

/-! ### Updates (R478 to R484) -/

/-- Firmware, or the boot ROM in recovery on port A, serves an image opcode. -/
def State.servesImage (s : State) (p op : Nat) : Bool :=
  s.serves p op || (s.atHead p && s.recovering && p == 0 && s.reqOpcode p == op)

/-- Where a target's image is written: its flash region, or for a certificate the staging area (R74, R478). -/
def State.imageAt (s : State) (target slot : Nat) : Nat × Nat := match target with
  | 0 => s.region slot
  | 1 => s.region (2 + slot)
  | _ => ((s.region 5).1 + 65536, (s.region 4).2)

/-- MC_UPDATE_STATUS as an update begins. -/
def State.updBegin (s : State) (target slot p total : Nat) : State :=
  let s := ((((s.put MC_UPDATE_STATUS_STATE 1).put MC_UPDATE_STATUS_TARGET target).put MC_UPDATE_STATUS_SLOT slot).put
    MC_UPDATE_STATUS_PORT p).wrN MC_UPDATE_BYTES 0
  s.modMc (fun m => { m with updTotal := total, recImg := [] })

/-- IMAGE_BEGIN (R478, R484). -/
def execImageBegin (p : Fin 2) (s : State) : Host.Outcome State Fault Refusal :=
  if !s.servesImage p 0x40 then .next s
  else
    let target := s.payN p 0 1
    let total := s.payN p 4 4
    let st := s.get MC_UPDATE_STATUS_STATE
    if s.recovering then
      if st = 1 then .next (s.answerFree p rInUse [])
      else if target ≠ 0 ∨ s.payN p 1 3 ≠ 0 ∨ 462912 < total then .next (s.answerFree p rBadArgs [])
      else .next ((s.updBegin 0 0 p total).answerFree p rOk [])
    else if st == 1 || s.inTrial || ((st == 2 || st == 3) && s.get MC_UPDATE_STATUS_PORT != p) then .next (s.answerFree p rInUse [])
    else
      let prev := match target with
        | 0 => s.get GLOBAL_BOOT_STATUS_FW_SLOT
        | 1 => s.get GLOBAL_BOOT_STATUS_CL_SLOT
        | _ => 0
      let slot := if target < 2 then 1 - prev else 0
      if 2 < target ∨ s.payN p 1 3 ≠ 0 ∨ (s.imageAt target slot).2 < total then .next (s.answerFree p rBadArgs [])
      else
        let s := (s.recNew (recBytes target slot prev (List.replicate 8 0xFF))).updBegin target slot p total
        .next ((s.logC 0x8060 noUnit (target * 65536 + slot)).answer p rOk slot [])

/-- IMAGE_CHUNK (R478, R484). -/
def execImageChunk (p : Fin 2) (s : State) : Host.Outcome State Fault Refusal :=
  if !s.servesImage p 0x41 then .next s
  else
    let off := s.payN p 0 4
    let n := s.reqLen p - 4
    let got := s.rdN MC_UPDATE_BYTES
    if s.get MC_UPDATE_STATUS_STATE != 1 then .next (s.answerFree p rRefused [])
    else if s.get MC_UPDATE_STATUS_PORT != p then .next (s.answerFree p rInUse [])
    else if off ≠ got ∨ n < 1 ∨ 4076 < n ∨ s.mc.updTotal < off + n then .next (s.answerFree p rBadArgs [])
    else
      let d := s.payBytes p 4 n
      let s := if s.recovering then s.modMc (fun m => { m with recImg := m.recImg ++ d })
        else s.flashWrite ((s.imageAt (s.get MC_UPDATE_STATUS_TARGET) (s.get MC_UPDATE_STATUS_SLOT)).1 + off) d
      .next ((s.wrN MC_UPDATE_BYTES (got + n)).answerFree p rOk [])

/-- The device as stage 1 of a start would find it: what pass 1 is checked against. -/
def State.atStart (s : State) : State := s.sysHeld.modPower (fun _ => ⟨false, false, false, false, 0⟩)

/-- Whether an image that has been received passes its checks (R478). -/
def State.imageOk (s : State) (target slot : Nat) : Bool := match target with
  | 0 => s.fwSlotOk slot
  | 1 => (s.atStart.pass1 (s.clSlot slot) (s.region (2 + slot)).2).1 == 0
  | _ => s.certValid (s.flashRd (s.imageAt 2 0).1 6144)

/-- The digest that an update record names: of the covered bytes (R473, R479). -/
def State.imageDigest (s : State) (target slot : Nat) : List Byte :=
  let l := match target with
    | 0 => s.fwSlot slot
    | 1 => s.clSlot slot
    | _ => s.flashRd (s.imageAt 2 0).1 6144
  digest (l.take (l.length - 4096))

/-- A host certificate that passed takes its place in the flash (R484). -/
def State.certStore (s : State) : State :=
  let s := ((s.flashErase (s.region 4).1).flashProg (s.region 4).1 (s.flashRd (s.imageAt 2 0).1 6144)).modMc (fun m => { m with certOk := m.keyReady })
  (s.put MC_UPDATE_STATUS_STATE 0).logC 0x8061 noUnit 0

/-- The update record names the digest of the image (R479). -/
def State.recDigest (s : State) (dig : List Byte) : State := match s.curRec with
  | some i => s.flashProg (s.recAddr i + 8) dig
  | none => s

/-- An image is verified: the record shows it, and it may be activated (R478, R479). -/
def State.imageGood (s : State) (target slot : Nat) (activate adv : Bool) : State :=
  let s := ((s.recDigest ((s.imageDigest target slot).take 8)).recMark 16).iff adv (fun s => s.recMark 23)
  if target = 2 then s.certStore
  else if activate then (s.activate target slot).logC 0x8061 noUnit 0
  else s.put MC_UPDATE_STATUS_STATE 3

/-- IMAGE_END (R478, R484). -/
def execImageEnd (p : Fin 2) (s : State) : Host.Outcome State Fault Refusal :=
  if !s.servesImage p 0x42 then .next s
  else if s.get MC_UPDATE_STATUS_STATE != 1 then .next (s.answerFree p rRefused [])
  else if s.get MC_UPDATE_STATUS_PORT != p then .next (s.answerFree p rInUse [])
  else if s.rdN MC_UPDATE_BYTES ≠ s.mc.updTotal then .next (s.answerFree p rBadArgs [])
  else if s.recovering then
    let img := s.mc.recImg
    if s.fwOk img 462912 then .next (((s.put MC_UPDATE_STATUS_STATE 0).answerFree p rOk []).runImage img)
    else .next (((s.put MC_UPDATE_STATUS_STATE 5).modMc (fun m => { m with recImg := [] })).answerFree p rAuth [])
  else
    let target := s.get MC_UPDATE_STATUS_TARGET
    let slot := s.get MC_UPDATE_STATUS_SLOT
    let f := s.payN p 0 1
    if s.imageOk target slot then .next ((s.imageGood target slot (bit f 0) (bit f 1)).answerFree p rOk [])
    else .next ((s.put MC_UPDATE_STATUS_STATE 5).answerFree p rAuth [])

/-- CUTLIST_TRIAL (R482). -/
def execCutlistTrial (p : Fin 2) (s : State) : Host.Outcome State Fault Refusal :=
  if !s.serves p 0x43 then .next s
  else if s.curRec.isNone || s.recByte 4 != 1 || !s.recDone 16 || s.recDone 17 then .next (s.answerFree p rRefused [])
  else .next (((s.activate 1 (s.recByte 5 % 2)).answerFree p rOk []).sysReset 2)

/-! ### Attestation (R476, R477) -/

/-- The content of the first record of a type in the Descriptor ROM. -/
def romContent (type : Nat) : Nat → List Byte → List Byte
  | 0, _ => []
  | fuel + 1, l =>
    let n := bytesAt l 2 2
    if bytesAt l 0 2 = type then (l.drop 4).take (n - 4) else if n < 4 then [] else romContent type fuel (l.drop n)

/-- `n` bytes of a list, padded with zeros. -/
def padTo (n : Nat) (l : List Byte) : List Byte := (l ++ List.replicate n 0).take n

/-- OTP_DIGEST: it never covers the unique secret. -/
def State.otpDigest (s : State) : List Byte := digest (s.otpRd 0x20 0xFE0)

/-- The covered bytes of a report. -/
def State.reportBody (s : State) (nonce : List Byte) : List Byte :=
  let cl := fun (n : Nat) => if s.clCommit then n else 0
  let sec := s.now / 65536 / 1000000000 % 2 ^ 48
  toBytes 4 0x54415747 ++ toBytes 2 0x0100 ++ toBytes 2 s.nodeId ++ toBytes 8 Config.serial.toNat ++ padTo 32 nonce ++
    toBytes 4 (s.now % 65536) ++ toBytes 4 s.nowNs ++ toBytes 8 sec ++
    toBytes 32 s.mc.fwDigest ++ toBytes 4 (s.rdN GLOBAL_FW_VERSION) ++ toBytes 2 s.mc.fwSec ++
    toBytes 1 (s.get GLOBAL_BOOT_STATUS_FW_SLOT) ++ toBytes 1 (s.get GLOBAL_BOOT_STATUS_CL_SLOT) ++
    toBytes 32 (cl s.mc.clDigest) ++ toBytes 8 (s.rd64 GLOBAL_CUTLIST_ID) ++ toBytes 2 (cl s.mc.clSec) ++
    toBytes 2 (s.rdN GLOBAL_BOOT_STATUS) ++ s.otpDigest ++ toBytes 4 (s.rdN GLOBAL_OTP_GEN) ++ toBytes 4 (s.rdN GLOBAL_OTP_CTR) ++
    padTo 72 (romContent 3 8 s.mc.romRecs) ++
    toBytes 4 (b2n s.mc.certOk + 2 * b2n s.jtagOpen + 4 * b2n s.inTrial) ++ toBytes 8 0

/-- ATTEST_REPORT: ATTEST with SUB 0, or with a SUB that R476 does not name. -/
def execAttestReport (p : Fin 2) (s : State) : Host.Outcome State Fault Refusal :=
  if !s.serves p 0x50 || s.payN p 0 1 == 1 then .next s
  else if !s.mc.keyReady then .next (s.answerFree p rBusy [])
  else if s.payN p 0 4 ≠ 0 then .next (s.answerFree p rBadArgs [])
  else
    let body := s.reportBody (s.payBytes p 4 32)
    let sig_ := (Config.falconSign (signedMsg ctxAt body)).take 1462
    .next ((s.logC 0x806A noUnit 0).answerFree p rOk (body ++ toBytes 2 sig_.length ++ sig_))

/-- ATTEST_CERTIFICATE: ATTEST with SUB 1. -/
def execAttestCertificate (p : Fin 2) (s : State) : Host.Outcome State Fault Refusal :=
  if !s.serves p 0x50 || s.payN p 0 1 != 1 then .next s
  else if !s.mc.keyReady then .next (s.answerFree p rBusy [])
  else if s.payN p 1 3 ≠ 0 then .next (s.answerFree p rBadArgs [])
  else .next (s.answerFree p rOk ((s.certificate.drop (s.payN p 4 4)).take 4064))

/-! ### OTP programming (R485 to R487, R92, R93) -/

/-- A request that fails a check: 0x8067, whose number for the check is not stated. -/
def State.otpRefuse (s : State) (p result : Nat) : State :=
  let r := s.free
  (r.2.logC 0x8067 noUnit r.1).answerFree p result []

/-- Bytes of CONTENT that a kind uses. -/
def otpContent (kind : Nat) : Nat := match kind with | 0 => 32 | 1 => 32 | 2 => 56 | 3 => 24 | _ => 1

/-- Whether a request of an operation is well formed. -/
def State.otpForm (s : State) (p op : Nat) : Bool :=
  let kind := s.payN p 7 1
  s.payN p 0 4 == 0x544F5747 && s.payN p 4 2 == 0x0100 && s.payN p 6 1 == op && decide (kind ≤ 4) && s.payN p 9 7 == 0 &&
    (s.payBytes p (56 + otpContent kind) (64 - otpContent kind)).all (fun b => b == 0) && s.payN p 120 8 == 0

/-- The keys that may sign a request (R486). -/
def State.otpSigners (s : State) (kind : Nat) : List (List Byte) :=
  let ta := s.candidates 0
  let ow := s.candidates 1
  match kind with
  | 0 => ta
  | 2 => if ow = [] then ta else ow
  | 3 => if ow = [] then ta else ow
  | _ => ta ++ ow

/-- Whether a request names this device and its OTP as it is, and is signed (R485, R486). -/
def State.otpAuth (s : State) (p : Nat) : Bool :=
  s.payN p 16 8 == Config.serial.toNat && s.payBytes p 24 32 == s.otpDigest &&
    verifies (s.otpSigners (s.payN p 7 1)) ctxOt (s.payBytes p 0 128) (s.payBytes p 128 1793) (s.payBytes p 1923 1462) (s.payN p 1921 2)

/-- The lowest blank slot above every slot that is not blank. -/
def State.nextSlot (s : State) (kind : Nat) : Nat :=
  (List.range (otpSlots kind)).foldl (fun a i => if s.slotIs kind i = .blank then a else i + 1) 0

/-- The OTP was programmed: its registers and the Descriptor ROM follow, and 0x8066 is logged. -/
def State.otpDone (s : State) (p kind slot : Nat) : State :=
  ((s.showOtp.romUpdate).logC 0x8066 noUnit (kind * 65536 + slot)).answerFree p rOk []

/-- OTP_PROGRAM_SLOT: OP 1, or an OP that R485 does not name. -/
def execOtpProgramSlot (p : Fin 2) (s : State) : Host.Outcome State Fault Refusal :=
  if !s.serves p 0x58 || s.payN p 6 1 == 2 then .next s
  else if !s.otpForm p 1 then .next (s.otpRefuse p rBadArgs)
  else if !s.otpAuth p then .next (s.otpRefuse p rAuth)
  else
    let kind := s.payN p 7 1
    let slot := s.payN p 8 1
    let content := s.payBytes p 56 (otpContent kind)
    if kind = 4 then .next ((s.otpProg 32 content).otpDone p kind slot)
    else if s.nextSlot kind = otpSlots kind then .next ((s.logC 0x8053 noUnit 0).answerFree p rRefused [])
    else if slot ≠ s.nextSlot kind then .next (s.otpRefuse p rBadArgs)
    else .next ((s.otpProg (otpAddr kind slot) (content ++ toBytes 4 (crc32c content) ++ toBytes 4 1)).otpDone p kind slot)

/-- OTP_REVOKE_SLOT: OP 2; only trust anchors and owner keys (R486). -/
def execOtpRevokeSlot (p : Fin 2) (s : State) : Host.Outcome State Fault Refusal :=
  if !s.serves p 0x58 || s.payN p 6 1 != 2 then .next s
  else if !s.otpForm p 2 || 1 < s.payN p 7 1 then .next (s.otpRefuse p rBadArgs)
  else if !s.otpAuth p then .next (s.otpRefuse p rAuth)
  else
    let kind := s.payN p 7 1
    let slot := s.payN p 8 1
    if otpSlots kind ≤ slot ∨ s.slotIs kind slot = .blank ∨ s.slotIs kind slot = .revoked then .next (s.otpRefuse p rBadArgs)
    else if kind = 0 ∧ s.slotIs 0 slot = .candidate ∧ (s.candidates 0).length = 1 then
      .next ((s.logC 0x8052 noUnit 0).answerFree p rRefused [])
    else .next ((s.otpProg (otpAddr kind slot + otpSize kind - 4) [2]).otpDone p kind slot)

/-! ### Resets and outputs (R69, R90) -/

/-- MAILBOX_RESET: the response is written, and then the MC requests a system reset (`sys`) or an MC reset. -/
def execMailboxReset (p : Fin 2) (sys : Bool) (s : State) : Host.Outcome State Fault Refusal :=
  if !s.serves p 0x60 then .next s
  else
    let s := s.answerFree p rOk []
    .next (if sys then s.sysReset 2 else s.mcReset 5)

/-- Whether the device is neither running nor free of a hold (R90). -/
def State.notRunning (s : State) : Bool := s.get GLOBAL_BOOT_STATUS_STAGE != 9 || s.flag GLOBAL_BOOT_STATUS_HELD

/-- OUTPUT_HOLD (R90). -/
def execOutputHold (p : Fin 2) (s : State) : Host.Outcome State Fault Refusal :=
  if !s.serves p 0x61 then .next s
  else if s.notRunning then .next (s.answerFree p rRefused [])
  else if !s.outCommit then .next (s.answerFree p rOk [])
  else .next ((s.clearOutputs.logC 0x8074 noUnit 0).answerFree p rOk [])

/-- OUTPUT_RESUME (R90). -/
def execOutputResume (p : Fin 2) (s : State) : Host.Outcome State Fault Refusal :=
  if !s.serves p 0x62 then .next s
  else if s.notRunning then .next (s.answerFree p rRefused [])
  else if s.outCommit then .next (s.answerFree p rOk [])
  else .next ((s.setOutputs.logC 0x8075 noUnit 0).answerFree p rOk [])

/-! ### The log (R469) -/

/-- Entries of the ring from INDEX `start` on: the first INDEX and the entries. -/
def State.readRing (s : State) (start n : Nat) : Nat × List Byte :=
  let head := s.rdN MC_LOG_HEAD
  let held := s.ringHeld
  let back := (head + 2 ^ 32 - start) % 2 ^ 32
  let back := if back ≤ held then back else held
  let at_ := (head + 2 ^ 32 - back) % 2 ^ 32
  (at_, (List.range (min n back)).flatMap (fun i => match s.ringAt (at_ + i) with | some e => e.bytes | none => List.replicate 16 0))

/-- How many entries the flash log holds; they end before its next place. -/
def State.flashHeld (s : State) : Nat :=
  let pos := s.mc.logPos
  let secs := (List.range 1024).filter (fun i => (decide (pos % 4092 = 0) || i != pos / 4092) && s.flashN ((s.region 6).1 + 65536 * i) 4 == 0x474C5747)
  pos % 4092 + 4092 * secs.length

/-- Entries of the flash log from position `start` on (R467, R469). -/
def State.readFlash (s : State) (start n : Nat) : Nat × List Byte :=
  let size := 1024 * 4092
  let pos := s.mc.logPos
  let held := s.flashHeld
  let d := (pos + size - start % size) % size
  let d := if d = 0 then size else d
  let back := if d ≤ held then d else held
  let at_ := (pos + size - back) % size
  (at_, (List.range (min n back)).flatMap (fun i =>
    let k := (at_ + i) % size
    s.flashRd ((s.region 6).1 + 65536 * (k / 4092) + 64 + 16 * (k % 4092)) 16))

/-- LOG_READ (R469). -/
def execLogRead (p : Fin 2) (s : State) : Host.Outcome State Fault Refusal :=
  if !s.serves p 0x70 then .next s
  else
    let n := s.payN p 8 2
    if 1 < s.payN p 0 1 ∨ s.payN p 1 3 ≠ 0 ∨ n = 0 ∨ 254 < n then .next (s.answerFree p rBadArgs [])
    else
      let r := if s.payN p 0 1 = 0 then s.readRing (s.payN p 4 4) n else s.readFlash (s.payN p 4 4) n
      .next (s.answer p rOk r.1 r.2)

end Sys2Proof.Machine
end

