-- ==== Sys2Proof/Machine/Dispatch.lean ====
section
/-!
DEFINITION. One arm per command: each is a direct call of its meaning.
-/

namespace Sys2Proof.Machine

def exec (i : Instr) (s : State) : Host.Outcome State Fault Refusal :=
  match i with
  | .registerWrite ws => Sys2Proof.Machine.execRegisterWrite ws s
  | .porstAssert => Sys2Proof.Machine.execPorstAssert s
  | .porstRelease mode flashIf => Sys2Proof.Machine.execPorstRelease mode flashIf s
  | .sysRstAssert => Sys2Proof.Machine.execSysRstAssert s
  | .systemResetRelease => Sys2Proof.Machine.execSystemResetRelease s
  | .sysResetRequest master => Sys2Proof.Machine.execSysResetRequest master s
  | .mcResetRequest master => Sys2Proof.Machine.execMcResetRequest master s
  | .mcWatchdogExpiry => Sys2Proof.Machine.execMcWatchdogExpiry s
  | .pllLossOfLock idx => Sys2Proof.Machine.execPllLossOfLock idx s
  | .pllLocked idx => Sys2Proof.Machine.execPllLocked idx s
  | .tbHoldoverEntry => Sys2Proof.Machine.execTbHoldoverEntry s
  | .tbRelock => Sys2Proof.Machine.execTbRelock s
  | .tbRelockComplete => Sys2Proof.Machine.execTbRelockComplete s
  | .tbCoarseExit => Sys2Proof.Machine.execTbCoarseExit s
  | .droopDetect => Sys2Proof.Machine.execDroopDetect s
  | .droopRestore => Sys2Proof.Machine.execDroopRestore s
  | .droopForce => Sys2Proof.Machine.execForce s
  | .droopWindowEnd => Sys2Proof.Machine.execDroopWindowEnd s
  | .droopBudgetExceeded => Sys2Proof.Machine.execDroopBudgetExceeded s
  | .bootRomStart sfdp => Sys2Proof.Machine.execBootRomStart sfdp s
  | .firmwareStart trained reread bad => Sys2Proof.Machine.execFirmwareStart trained reread bad s
  | .commitTimeoutExpiry => Sys2Proof.Machine.execCommitTimeoutExpiry s
  | .clCommit => Sys2Proof.Machine.execClCommit s
  | .linkRelease => Sys2Proof.Machine.execLinkRelease s
  | .outputCommitSet => Sys2Proof.Machine.execOutputCommitSet s
  | .outputCommitClear => Sys2Proof.Machine.execOutputCommitClear s
  | .laneEnable l master => Sys2Proof.Machine.execLaneEnable l master s
  | .laneDisable l powerDown master => Sys2Proof.Machine.execLaneDisable l powerDown master s
  | .retrain l master => Sys2Proof.Machine.execRetrain l master s
  | .lanePllLock l => Sys2Proof.Machine.execLanePllLock l s
  | .lanePllLoss l => Sys2Proof.Machine.execLanePllLoss l s
  | .blockLockGain l => Sys2Proof.Machine.execBlockLockGain l s
  | .blockLockLoss l invalid => Sys2Proof.Machine.execBlockLockLoss l invalid s
  | .alignSend l => Sys2Proof.Machine.execAlignSend l s
  | .alignReceive l info spaced => Sys2Proof.Machine.execAlignReceive l info spaced s
  | .alignMiss l => Sys2Proof.Machine.execAlignMiss l s
  | .relockTimeout l => Sys2Proof.Machine.execRelockTimeout l s
  | .losSet l => Sys2Proof.Machine.execLosSet l s
  | .losClear l => Sys2Proof.Machine.execLosClear l s
  | .lolSet l => Sys2Proof.Machine.execLolSet l s
  | .lolClear l => Sys2Proof.Machine.execLolClear l s
  | .trainBlockReceive l b => Sys2Proof.Machine.execTrainBlockReceive l b s
  | .stepTimeout l => Sys2Proof.Machine.execStepTimeout l s
  | .equaliseLimit l => Sys2Proof.Machine.execEqualiseLimit l s
  | .equaliseLowMarginEnd l => Sys2Proof.Machine.execEqualiseLowMarginEnd l s
  | .absentWaitExpiry l => Sys2Proof.Machine.execAbsentWaitExpiry l s
  | .eyeMonitorCheck l v h ctle dfe => Sys2Proof.Machine.execEyeMonitorCheck l v h ctle dfe s
  | .marginBurstEnd l => Sys2Proof.Machine.execMarginBurstEnd l s
  | .equaliserFreeze l => Sys2Proof.Machine.execEqualiserFreeze l s
  | .eidleReceive l b => Sys2Proof.Machine.execEidleReceive l b s
  | .exitTimeout l => Sys2Proof.Machine.execExitTimeout l s
  | .inject l master => Sys2Proof.Machine.execInject l master s
  | .prbsPublish l bits errs => Sys2Proof.Machine.execPrbsPublish l bits errs s
  | .lechoReceive l b ago => Sys2Proof.Machine.execLechoReceive l b ago s
  | .probeTimeout l => Sys2Proof.Machine.execProbeTimeout l s
  | .latencyMeasureTimeout l => Sys2Proof.Machine.execLatencyMeasureTimeout l s
  | .latTrackProbe l => Sys2Proof.Machine.execLatTrackProbe l s
  | .creditRefresh l => Sys2Proof.Machine.execCreditRefresh l s
  | .sotReceive l b => Sys2Proof.Machine.execSotReceive l b s
  | .tileHeaderReceive l => Sys2Proof.Machine.execTileHeaderReceive l s
  | .ledgerEntryGrant l => Sys2Proof.Machine.execLedgerEntryGrant l s
  | .payloadBlockReceive l b => Sys2Proof.Machine.execPayloadBlockReceive l b s
  | .eotReceive l b => Sys2Proof.Machine.execEotReceive l b s
  | .controlBlockBadCheck l b => Sys2Proof.Machine.execControlBlockBadCheck l b s
  | .unknownTypeReceive l b => Sys2Proof.Machine.execUnknownTypeReceive l b s
  | .ctrlRspReceive l b value => Sys2Proof.Machine.execCtrlRspReceive l b value s
  | .violReceive l b => Sys2Proof.Machine.execViolReceive l b s
  | .trigAgeExpiry l id => Sys2Proof.Machine.execTrigAgeExpiry l id s
  | .ctrlGo l => Sys2Proof.Machine.execCtrlGo l s
  | .ctrlTimeout l => Sys2Proof.Machine.execCtrlTimeout l s
  | .trigLaunch l ago => Sys2Proof.Machine.execTrigLaunch l ago s
  | .bondForm l skew => Sys2Proof.Machine.execBondForm l skew s
  | .bondDeskewTimeout l => Sys2Proof.Machine.execBondDeskewTimeout l s
  | .violDeferredSend l reason => Sys2Proof.Machine.execViolDeferredSend l reason s
  | .violWindowEnd l => Sys2Proof.Machine.execViolWindowEnd l s
  | .ethFrameReceive l f fcs corr uncorr => Sys2Proof.Machine.execEthFrameReceive l f fcs corr uncorr s
  | .gvspLeaderReceive l ei id h ts => Sys2Proof.Machine.execGvspLeaderReceive l ei id h ts s
  | .gvspPayloadReceive l ei id pid data unavail => Sys2Proof.Machine.execGvspPayloadReceive l ei id pid data unavail s
  | .gvspTrailerReceive l ei id => Sys2Proof.Machine.execGvspTrailerReceive l ei id s
  | .resendWaitExpiry l id => Sys2Proof.Machine.execResendWaitExpiry l id s
  | .arpRetry l => Sys2Proof.Machine.execArpRetry l s
  | .arpReplyReceive l mac => Sys2Proof.Machine.execArpReplyReceive l mac s
  | .arpRequestReceive l ip => Sys2Proof.Machine.execArpRequestReceive l ip s
  | .cameraSetup l ok value => Sys2Proof.Machine.execCameraSetup l ok value s
  | .setupRetryExpiry l => Sys2Proof.Machine.execSetupRetryExpiry l s
  | .gvcpAckTimeout l => Sys2Proof.Machine.execGvcpAckTimeout l s
  | .heartbeatRead l ok => Sys2Proof.Machine.execHeartbeatRead l ok s
  | .camSyncPoll l value => Sys2Proof.Machine.execCamSyncPoll l value s
  | .ptpSyncSend l => Sys2Proof.Machine.execPtpSyncSend l s
  | .ptpAnnounceSend l => Sys2Proof.Machine.execPtpAnnounceSend l s
  | .delayReqReceive l req ago => Sys2Proof.Machine.execDelayReqReceive l req ago s
  | .actionCmdSend l => Sys2Proof.Machine.execActionCmdSend l s
  | .actionTimePass l => Sys2Proof.Machine.execActionTimePass l s
  | .encoderTransition c a b z ago => Sys2Proof.Machine.execEncoderTransition c a b z ago s
  | .indexEvent c ago => Sys2Proof.Machine.execIndexEvent c ago s
  | .probeEdge c level ago => Sys2Proof.Machine.execProbeEdge c level ago s
  | .ssiFrameStart c idle => Sys2Proof.Machine.execSsiFrameStart c idle s
  | .ssiFrameEnd c raw => Sys2Proof.Machine.execSsiFrameEnd c raw s
  | .posPreset c => Sys2Proof.Machine.execPreset c s
  | .posSnap c => Sys2Proof.Machine.execPosSnap c s
  | .posArm c => Sys2Proof.Machine.execArm c s
  | .obsReset c => Sys2Proof.Machine.execObsReset c s
  | .observerUpdate c => Sys2Proof.Machine.execObserverUpdate c s
  | .posPublish => Sys2Proof.Machine.execPosPublish s
  | .posStateInForce c => Sys2Proof.Machine.execPosStateInForce c s
  | .followerStale c => Sys2Proof.Machine.execFollowerStale c s
  | .exposureCentreCopy id => Sys2Proof.Machine.execExposureCentreCopy id s
  | .targetCommit q => Sys2Proof.Machine.execTargetCommit q s
  | .firingInstant id => Sys2Proof.Machine.execFiringInstant id s
  | .pulseStart id => Sys2Proof.Machine.execPulseStart id s
  | .pulseEnd q => Sys2Proof.Machine.execPulseEnd q s
  | .listEntryRetry q => Sys2Proof.Machine.execListEntryRetry q s
  | .trigPush q master size v => Sys2Proof.Machine.execTrigPush q master size v s
  | .trigFire q master => Sys2Proof.Machine.execFire q master s
  | .ringClear q master => Sys2Proof.Machine.execRingClear q master s
  | .resync q master => Sys2Proof.Machine.execResync q master s
  | .sequencerEnable q master => Sys2Proof.Machine.execSequencerEnable q master s
  | .sequencerDisable q master => Sys2Proof.Machine.execSequencerDisable q master s
  | .tbIncrWrite wide v => Sys2Proof.Machine.execTbIncrWrite wide v s
  | .tbSet => Sys2Proof.Machine.execSet s
  | .tbStep => Sys2Proof.Machine.execStep s
  | .tbSnap => Sys2Proof.Machine.execTbSnap s
  | .slewStart v => Sys2Proof.Machine.execSlewStart v s
  | .slewEnd => Sys2Proof.Machine.execSlewEnd s
  | .slewAbort => Sys2Proof.Machine.execSlewAbort s
  | .ppsInEdge rising ago => Sys2Proof.Machine.execPpsInEdge rising ago s
  | .ppsMiss => Sys2Proof.Machine.execPpsMiss s
  | .ppsOutStart => Sys2Proof.Machine.execPpsOutStart s
  | .ppsOutEnd => Sys2Proof.Machine.execPpsOutEnd s
  | .alarmFire a => Sys2Proof.Machine.execAlarmFire a s
  | .cycleTimerPulse idx => Sys2Proof.Machine.execCycleTimerPulse idx s
  | .cycleTimerPulseEnd idx => Sys2Proof.Machine.execCycleTimerPulseEnd idx s
  | .gpioEdgeCapture g rising ago => Sys2Proof.Machine.execGpioEdgeCapture g rising ago s
  | .eventArrive c ps same => Sys2Proof.Machine.execEventArrive c ps same s
  | .pendingAccept c => Sys2Proof.Machine.execPendingAccept c s
  | .evtSoft => Sys2Proof.Machine.execSoft s
  | .evtPulseEnd k => Sys2Proof.Machine.execEvtPulseEnd k s
  | .conditioningStart l => Sys2Proof.Machine.execConditioningStart l s
  | .tileConditioned l corr bad => Sys2Proof.Machine.execTileConditioned l corr bad s
  | .ringSpaceFree l => Sys2Proof.Machine.execRingSpaceFree l s
  | .rsWaitExpiry w => Sys2Proof.Machine.execRsWaitExpiry w s
  | .peakClear l master => Sys2Proof.Machine.execPeakClear l master s
  | .tableSwap l master => Sys2Proof.Machine.execSwap l master s
  | .segmentBurstArrive u n last corr bad => Sys2Proof.Machine.execSegmentBurstArrive u n last corr bad s
  | .bentDeadline u line => Sys2Proof.Machine.execBentDeadline u line s
  | .stitchEnable u master => Sys2Proof.Machine.execStitchEnable u master s
  | .stitchDisable u master => Sys2Proof.Machine.execStitchDisable u master s
  | .kerfLineWrite l => Sys2Proof.Machine.execKerfLineWrite l s
  | .kerfMaxExpiry l => Sys2Proof.Machine.execKerfMaxExpiry l s
  | .kerfReadbackDone l corr bad => Sys2Proof.Machine.execKerfReadbackDone l corr bad s
  | .tileDeal l => Sys2Proof.Machine.execTileDeal l s
  | .taskStart e => Sys2Proof.Machine.execTaskStart e s
  | .bundleIssue e issue err => Sys2Proof.Machine.execBundleIssue e issue err s
  | .engSig e issue => Sys2Proof.Machine.execSig e issue s
  | .engPost e issue => Sys2Proof.Machine.execPost e issue s
  | .engPush e issue => Sys2Proof.Machine.execPush e issue s
  | .dmaGo e cycles => Sys2Proof.Machine.execDmaGo e cycles s
  | .dmaWait e cycles => Sys2Proof.Machine.execDmaWait e cycles s
  | .dmaWaitResume e => Sys2Proof.Machine.execDmaWaitResume e s
  | .outOpen e cycles => Sys2Proof.Machine.execOutOpen e cycles s
  | .outOpenResume e => Sys2Proof.Machine.execOutOpenResume e s
  | .outEmit e cycles => Sys2Proof.Machine.execOutEmit e cycles s
  | .tkeep e cycles => Sys2Proof.Machine.execTkeep e cycles s
  | .trel e cycles => Sys2Proof.Machine.execTrel e cycles s
  | .engFence e cycles => Sys2Proof.Machine.execFence e cycles s
  | .tend e cycles => Sys2Proof.Machine.execTend e cycles s
  | .taskBudgetExpiry e => Sys2Proof.Machine.execTaskBudgetExpiry e s
  | .engAbort e master => Sys2Proof.Machine.execAbort e master s
  | .engRestart e master => Sys2Proof.Machine.execRestart e master s
  | .dmaDescriptorStart b c => Sys2Proof.Machine.execDmaDescriptorStart b c s
  | .dmaTransferDone b c corr bad same => Sys2Proof.Machine.execDmaTransferDone b c corr bad same s
  | .ddrRefresh _k => Sys2Proof.Machine.execDdrRefresh _k s
  | .zqShortCalibration _k => Sys2Proof.Machine.execZqShortCalibration _k s
  | .ddrAlert k n => Sys2Proof.Machine.execDdrAlert k n s
  | .ddrReadDecode k addr req errs => Sys2Proof.Machine.execDdrReadDecode k addr req errs s
  | .scrubRead k words => Sys2Proof.Machine.execScrubRead k words s
  | .ddrEraseWrite k master v => Sys2Proof.Machine.execDdrEraseWrite k master v s
  | .ddrRetire k cause => Sys2Proof.Machine.execDdrRetire k cause s
  | .arbRequestRaise a r => Sys2Proof.Machine.execArbRequestRaise a r s
  | .arbRequestDrop a => Sys2Proof.Machine.execArbRequestDrop a s
  | .arbBreakPoint a => Sys2Proof.Machine.execArbBreakPoint a s
  | .arbBackoffEnd a r => Sys2Proof.Machine.execArbBackoffEnd a r s
  | .arbRankWrite a w master v => Sys2Proof.Machine.execArbRankWrite a w master v s
  | .waitWatchdogExpiry u res a circle => Sys2Proof.Machine.execWaitWatchdogExpiry u res a circle s
  | .deliveryReady st p => Sys2Proof.Machine.execDeliveryReady st p s
  | .payloadTransfer p n credit => Sys2Proof.Machine.execPayloadTransfer p n credit s
  | .descTailWrite st p master size v => Sys2Proof.Machine.execDescTailWrite st p master size v s
  | .descFetch st p => Sys2Proof.Machine.execDescFetch st p s
  | .descCompletionReceive p t ok data => Sys2Proof.Machine.execDescCompletionReceive p t ok data s
  | .completionTimeout p t => Sys2Proof.Machine.execCompletionTimeout p t s
  | .creditWaitExpiry st p => Sys2Proof.Machine.execCreditWaitExpiry st p s
  | .deactExpiry st p => Sys2Proof.Machine.execDeactExpiry st p s
  | .irqModerationExpiry st p => Sys2Proof.Machine.execIrqModerationExpiry st p s
  | .rateWindowEnd => Sys2Proof.Machine.execRateWindowEnd s
  | .flushUsExpiry st => Sys2Proof.Machine.execFlushUsExpiry st s
  | .recallGo master v => Sys2Proof.Machine.execRecallGo master v s
  | .recallRecordRead hdr bad => Sys2Proof.Machine.execRecallRecordRead hdr bad s
  | .perstAssert p => Sys2Proof.Machine.execPerstAssert p s
  | .perstDeassert p => Sys2Proof.Machine.execPerstDeassert p s
  | .linkUp p gen w => Sys2Proof.Machine.execLinkUp p gen w s
  | .linkDown p => Sys2Proof.Machine.execLinkDown p s
  | .pcieCfgWrite p master v => Sys2Proof.Machine.execPcieCfgWrite p master v s
  | .flr p => Sys2Proof.Machine.execFlr p s
  | .bmeClear p => Sys2Proof.Machine.execBmeClear p s
  | .bmeSet p => Sys2Proof.Machine.execBmeSet p s
  | .d3hotEntry p => Sys2Proof.Machine.execD3hotEntry p s
  | .d0Return p => Sys2Proof.Machine.execD0Return p s
  | .configRequest p write word be v => Sys2Proof.Machine.execConfigRequest p write word be v s
  | .peerRequest p kind addr data reqId tag ep bad => Sys2Proof.Machine.execPeerRequest p kind addr data reqId tag ep bad s
  | .windowCommit p master => Sys2Proof.Machine.execWindowCommit p master s
  | .windowSwitch p bads => Sys2Proof.Machine.execWindowSwitch p bads s
  | .msixPendingSend p v => Sys2Proof.Machine.execMsixPendingSend p v s
  | .getInfo p => Sys2Proof.Machine.execGetInfo p s
  | .streamOpen p => Sys2Proof.Machine.execStreamOpen p s
  | .streamClose p st => Sys2Proof.Machine.execStreamClose p st s
  | .ringPost p => Sys2Proof.Machine.execRingPost p s
  | .ringWithdraw p => Sys2Proof.Machine.execRingWithdraw p s
  | .cameraAccess p l op addr value => Sys2Proof.Machine.execCameraAccess p l op addr value s
  | .tableLoad p bad => Sys2Proof.Machine.execTableLoad p bad s
  | .engineRestart p e => Sys2Proof.Machine.execEngineRestart p e s
  | .unitRetire p => Sys2Proof.Machine.execUnitRetire p s
  | .imageBegin p => Sys2Proof.Machine.execImageBegin p s
  | .imageChunk p => Sys2Proof.Machine.execImageChunk p s
  | .imageEnd p => Sys2Proof.Machine.execImageEnd p s
  | .cutlistTrial p => Sys2Proof.Machine.execCutlistTrial p s
  | .attestReport p => Sys2Proof.Machine.execAttestReport p s
  | .attestCertificate p => Sys2Proof.Machine.execAttestCertificate p s
  | .otpProgramSlot p => Sys2Proof.Machine.execOtpProgramSlot p s
  | .otpRevokeSlot p => Sys2Proof.Machine.execOtpRevokeSlot p s
  | .mailboxReset p sys => Sys2Proof.Machine.execMailboxReset p sys s
  | .outputHold p => Sys2Proof.Machine.execOutputHold p s
  | .outputResume p => Sys2Proof.Machine.execOutputResume p s
  | .logRead p => Sys2Proof.Machine.execLogRead p s
  | .sillBlockLock p => Sys2Proof.Machine.execSillBlockLock p s
  | .sillLinkLoss p => Sys2Proof.Machine.execSillLinkLoss p s
  | .helloSend p => Sys2Proof.Machine.execHelloSend p s
  | .helloReceive p bs => Sys2Proof.Machine.execHelloReceive p bs s
  | .helloTimeout p => Sys2Proof.Machine.execHelloTimeout p s
  | .measureTimeout p => Sys2Proof.Machine.execMeasureTimeout p s
  | .faultHoldExpiry p => Sys2Proof.Machine.execFaultHoldExpiry p s
  | .sillProbeSend p => Sys2Proof.Machine.execSillProbeSend p s
  | .probeReceive p b turn => Sys2Proof.Machine.execProbeReceive p b turn s
  | .pechoReceive p b ago => Sys2Proof.Machine.execPechoReceive p b ago s
  | .syncSend p => Sys2Proof.Machine.execSyncSend p s
  | .syncReceive p bs ago => Sys2Proof.Machine.execSyncReceive p bs ago s
  | .timeServo => Sys2Proof.Machine.execTimeServo s
  | .syncTimeout => Sys2Proof.Machine.execSyncTimeout s
  | .posBurstReceive p bs => Sys2Proof.Machine.execPosBurstReceive p bs s
  | .eventFrameReceive p bs => Sys2Proof.Machine.execEventFrameReceive p bs s
  | .alignedEventDue => Sys2Proof.Machine.execAlignedEventDue s
  | .schedGo master => Sys2Proof.Machine.execSchedGo master s
  | .schedFrameReceive p bs => Sys2Proof.Machine.execSchedFrameReceive p bs s
  | .mgmtFrameReceive p bs => Sys2Proof.Machine.execMgmtFrameReceive p bs s
  | .claimSend => Sys2Proof.Machine.execClaimSend s
  | .claimReceive p bs => Sys2Proof.Machine.execClaimReceive p bs s
  | .claimWindowExpiry => Sys2Proof.Machine.execClaimWindowExpiry s
  | .cechoSend => Sys2Proof.Machine.execCechoSend s
  | .cechoReceive p b => Sys2Proof.Machine.execCechoReceive p b s
  | .beatSend => Sys2Proof.Machine.execBeatSend s
  | .beatReceive p bs => Sys2Proof.Machine.execBeatReceive p bs s
  | .twinWatchStart => Sys2Proof.Machine.execTwinWatchStart s
  | .hbLost => Sys2Proof.Machine.execHbLost s
  | .claimHoldoffExpiry => Sys2Proof.Machine.execClaimHoldoffExpiry s
  | .swapReq master => Sys2Proof.Machine.execSwapReq master s
  | .swapTakingStart => Sys2Proof.Machine.execSwapTakingStart s
  | .swapPoint => Sys2Proof.Machine.execSwapPoint s
  | .revertHoldExpiry => Sys2Proof.Machine.execRevertHoldExpiry s
  | .swapPeriodExpiry => Sys2Proof.Machine.execSwapPeriodExpiry s
  | .sensorPublish temps volts => Sys2Proof.Machine.execSensorPublish temps volts s
  | .thermalTrip => Sys2Proof.Machine.execThermalTrip s
  | .voltOut m mv => Sys2Proof.Machine.execVoltOut m mv s
  | .pmbusPoll answers => Sys2Proof.Machine.execPmbusPoll answers s
  | .pmbAlert status => Sys2Proof.Machine.execPmbAlert status s
  | .logWrite => Sys2Proof.Machine.execLogWrite s
  | .logLimitIntervalEnd code item => Sys2Proof.Machine.execLogLimitIntervalEnd code item s
  | .logFlashCopy => Sys2Proof.Machine.execLogFlashCopy s
  | .trialConfirm => Sys2Proof.Machine.execTrialConfirm s
  | .identityKeyReady => Sys2Proof.Machine.execIdentityKeyReady s
  | .retireLane master l => Sys2Proof.Machine.execRetireLane master l s
  | .retireBay master b => Sys2Proof.Machine.execRetireBay master b s
  | .retireEngine master e => Sys2Proof.Machine.execRetireEngine master e s
  | .retirePositionChannel master c => Sys2Proof.Machine.execRetirePositionChannel master c s
  | .retireSillPort master p => Sys2Proof.Machine.execRetireSillPort master p s
  | .pwmPeriodStart k => Sys2Proof.Machine.execPwmPeriodStart k s
  | .pwmHighEnd k => Sys2Proof.Machine.execPwmHighEnd k s
  | .equaliseReady l v h => Sys2Proof.Machine.execEqualiseReady l v h s
  | .checkerLock l => Sys2Proof.Machine.execCheckerLock l s
  | .checkerReseed l => Sys2Proof.Machine.execCheckerReseed l s
  | .idleBlockReceive l n => Sys2Proof.Machine.execIdleBlockReceive l n s
  | .cameraScriptWaitExpiry l => Sys2Proof.Machine.execCameraScriptWaitExpiry l s
  | .camSyncDelayExpiry l => Sys2Proof.Machine.execCamSyncDelayExpiry l s
  | .encZFall c => Sys2Proof.Machine.execEncZFall c s
  | .enginePushArrive b => Sys2Proof.Machine.execEnginePushArrive b s
  | .fenceComplete e => Sys2Proof.Machine.execFenceComplete e s
  | .faultWindowEnd => Sys2Proof.Machine.execFaultWindowEnd s
  | .postedCreditReturn p => Sys2Proof.Machine.execPostedCreditReturn p s
  | .peerReadComplete p idx bad => Sys2Proof.Machine.execPeerReadComplete p idx bad s
  | .flrComplete p => Sys2Proof.Machine.execFlrComplete p s
  | .pcieLinkError p kind => Sys2Proof.Machine.execPcieLinkError p kind s
  | .mailboxBadOpcode p => Sys2Proof.Machine.execMailboxBadOpcode p s
  | .noHolderTimeout => Sys2Proof.Machine.execNoHolderTimeout s
  | .partnerTooNarrow p => Sys2Proof.Machine.execPartnerTooNarrow p s

end Sys2Proof.Machine
end

