-- ==== Sys2Proof/Machine/Tick.lean ====
section
/-!
DEFINITION. What happens by itself at a tick of CLK_TB: the time base, the Sill's queues and periods, and the bents that
have nothing more to wait for.
-/

namespace Sys2Proof.Machine

open Reg

/-- Whether the counter of the time base advances: PLL_TB is locked, or CLK_AON carries it in coarse running (R57, R71). -/
def State.clockRuns (s : State) : Bool := bit (s.get GLOBAL_PLL_STATUS_LOCKED) 5 || s.flag TB_STATUS_COARSE

/-- One tick of CLK_TB. In a power-on reset nothing runs; in a system reset only the time base does (R68, R71). -/
def State.tick (s : State) : State :=
  if s.power.porst || !s.clockRuns then s
  else if s.power.sysRst then s.tbTick
  else (List.range 16).foldl (fun s u => s.settleBents u) s.ddrLand.fireSigs.tbTick.sillTick.ethSlots

end Sys2Proof.Machine
end

