-- ==== Sys2Proof/WellFormed.lean ====
section
/-!
DEFINITION. Which commands can come: the ranges of operands that their types leave wider than the links, buses and
sensors they come from. Unit numbers are in range by their types.
-/

namespace Sys2Proof

/-- A write of at most 4,096 bytes into BAR0, whose value fits its size (R4, R406). -/
def writeOk (w : BusWrite) : Bool :=
  decide (1 ≤ w.size) && decide (w.size ≤ 4096) && decide (w.off < 0x400000) && decide (w.value < 256 ^ w.size)

/-- A wrong symbol of a codeword: one of 36, off by a value of GF(16) that is not zero (R353). -/
def symbolOk (e : Nat × Nat) : Bool := decide (e.1 < 36) && decide (0 < e.2) && decide (e.2 < 16)

/-- An answer of a regulator: words of 16 bits, or none (R464). -/
def pollOk (x : Option PmbReading) : Bool := match x with
  | some r => [r.mode, r.vout, r.iout, r.temp, r.status].all (fun v => decide (v < 2 ^ 16))
  | none => true

/-- A Sill frame starts with a control block, and data blocks follow (R429). -/
def frameStarts (bs : List (Bool × Block)) : Bool := match bs with
  | [] => false
  | b :: t => b.1 && t.all (fun (x : Bool × Block) => !x.1)

/-- Whether a command is one that its sender or the surroundings can bring. -/
def Instr.wf (i : Instr) : Bool :=
  match i with
  | .registerWrite ws => ws.all writeOk
  | .firmwareStart trained _ bad => trained.length == 8 && bad.all (fun (x : Nat × List Nat) => decide (x.1 < 4096))
  | .prbsPublish _ bits errs => decide (errs ≤ bits)
  | .violDeferredSend _ reason => decide (reason < 256)
  | .ethFrameReceive _ f _ _ _ => decide (14 ≤ f.length) && decide (f.length ≤ 9216)
  | .gvspLeaderReceive _ _ id _ ts => decide (id < 2 ^ 64) && decide (ts < 2 ^ 64)
  | .gvspPayloadReceive _ _ id pid _ _ => decide (id < 2 ^ 64) && decide (pid < 2 ^ 32)
  | .gvspTrailerReceive _ _ id => decide (id < 2 ^ 64)
  | .arpReplyReceive _ mac => decide (mac < 2 ^ 48)
  | .delayReqReceive _ req _ => decide (req.seq < 2 ^ 16)
  | .ssiFrameEnd _ raw => decide (raw < 2 ^ 42)
  | .trigPush _ _ size v => decide (1 ≤ size) && decide (size ≤ 8) && decide (v < 256 ^ size)
  | .tbIncrWrite wide v => decide (v < if wide then 2 ^ 64 else 2 ^ 32)
  | .eventArrive _ ps _ => !ps.isEmpty && ps.all (fun p => decide (p < 160))
  | .ddrReadDecode _ addr _ errs => decide (addr < 2 ^ 36) && errs.all symbolOk
  | .scrubRead _ words => words.all (fun (e : List (Nat × Nat)) => e.all symbolOk)
  | .waitWatchdogExpiry u _ _ circle => decide (u.2 < 4096) && circle.all (fun (x : Fin 9 × Nat) => decide (x.2 < 4096))
  | .descTailWrite _ _ _ size _ => decide (1 ≤ size) && decide (size ≤ 8)
  | .descCompletionReceive _ t _ _ => decide (t < 1024)
  | .completionTimeout _ t => decide (t < 1024)
  | .peerRequest _ _ _ data reqId tag _ _ => !data.isEmpty && decide (data.length ≤ 4096) && decide (reqId < 2 ^ 16) && decide (tag < 2 ^ 14)
  | .helloReceive _ bs => frameStarts bs
  | .syncReceive _ bs _ => frameStarts bs
  | .posBurstReceive _ bs => frameStarts bs
  | .eventFrameReceive _ bs => frameStarts bs
  | .schedFrameReceive _ bs => frameStarts bs
  | .mgmtFrameReceive _ bs => frameStarts bs
  | .claimReceive _ bs => frameStarts bs
  | .beatReceive _ bs => frameStarts bs
  | .sensorPublish temps volts => temps.length == 8 && volts.length == 16 && (temps ++ volts).all (fun v => decide (v < 2 ^ 16))
  | .pmbusPoll answers => answers.all pollOk
  | .pmbAlert status => status.all (fun v => decide (v < 2 ^ 16))
  | .logLimitIntervalEnd code _ => decide (code < 2 ^ 16)
  | .porstAssert | .porstRelease _ _ | .sysRstAssert | .systemResetRelease | .sysResetRequest _ | .mcResetRequest _
  | .mcWatchdogExpiry | .pllLossOfLock _ | .pllLocked _ | .tbHoldoverEntry | .tbRelock | .tbRelockComplete
  | .tbCoarseExit | .droopDetect | .droopRestore | .droopForce | .droopWindowEnd | .droopBudgetExceeded
  | .bootRomStart _ | .commitTimeoutExpiry | .clCommit | .linkRelease | .outputCommitSet | .outputCommitClear
  | .laneEnable _ _ | .laneDisable _ _ _ | .retrain _ _ | .lanePllLock _ | .lanePllLoss _ | .blockLockGain _
  | .blockLockLoss _ _ | .alignSend _ | .alignReceive _ _ _ | .alignMiss _ | .relockTimeout _ | .losSet _
  | .losClear _ | .lolSet _ | .lolClear _ | .trainBlockReceive _ _ | .stepTimeout _ | .equaliseLimit _
  | .equaliseLowMarginEnd _ | .absentWaitExpiry _ | .eyeMonitorCheck _ _ _ _ _ | .marginBurstEnd _
  | .equaliserFreeze _ | .eidleReceive _ _ | .exitTimeout _ | .inject _ _ | .lechoReceive _ _ _ | .probeTimeout _
  | .latencyMeasureTimeout _ | .latTrackProbe _ | .creditRefresh _ | .sotReceive _ _ | .tileHeaderReceive _
  | .ledgerEntryGrant _ | .payloadBlockReceive _ _ | .eotReceive _ _ | .controlBlockBadCheck _ _
  | .unknownTypeReceive _ _ | .ctrlRspReceive _ _ _ | .violReceive _ _ | .trigAgeExpiry _ _ | .ctrlGo _
  | .ctrlTimeout _ | .trigLaunch _ _ | .bondForm _ _ | .bondDeskewTimeout _ | .violWindowEnd _
  | .resendWaitExpiry _ _ | .arpRetry _ | .arpRequestReceive _ _ | .cameraSetup _ _ _ | .setupRetryExpiry _
  | .gvcpAckTimeout _ | .heartbeatRead _ _ | .camSyncPoll _ _ | .ptpSyncSend _ | .ptpAnnounceSend _
  | .actionCmdSend _ | .actionTimePass _ | .encoderTransition _ _ _ _ _ | .indexEvent _ _ | .probeEdge _ _ _
  | .ssiFrameStart _ _ | .posPreset _ | .posSnap _ | .posArm _ | .obsReset _ | .observerUpdate _ | .posPublish
  | .posStateInForce _ | .followerStale _ | .exposureCentreCopy _ | .targetCommit _ | .firingInstant _
  | .pulseStart _ | .pulseEnd _ | .listEntryRetry _ | .trigFire _ _ | .ringClear _ _ | .resync _ _
  | .sequencerEnable _ _ | .sequencerDisable _ _ | .tbSet | .tbStep | .tbSnap | .slewStart _ | .slewEnd
  | .slewAbort | .ppsInEdge _ _ | .ppsMiss | .ppsOutStart | .ppsOutEnd | .alarmFire _ | .cycleTimerPulse _
  | .cycleTimerPulseEnd _ | .gpioEdgeCapture _ _ _ | .pendingAccept _ | .evtSoft | .evtPulseEnd _
  | .conditioningStart _ | .tileConditioned _ _ _ | .ringSpaceFree _ | .rsWaitExpiry _ | .peakClear _ _
  | .tableSwap _ _ | .segmentBurstArrive _ _ _ _ _ | .bentDeadline _ _ | .stitchEnable _ _ | .stitchDisable _ _
  | .kerfLineWrite _ | .kerfMaxExpiry _ | .kerfReadbackDone _ _ _ | .tileDeal _ | .taskStart _ | .bundleIssue _ _ _
  | .engSig _ _ | .engPost _ _ | .engPush _ _ | .dmaGo _ _ | .dmaWait _ _ | .dmaWaitResume _ | .outOpen _ _
  | .outOpenResume _ | .outEmit _ _ | .tkeep _ _ | .trel _ _ | .engFence _ _ | .tend _ _ | .taskBudgetExpiry _
  | .engAbort _ _ | .engRestart _ _ | .dmaDescriptorStart _ _ | .dmaTransferDone _ _ _ _ _ | .ddrRefresh _
  | .zqShortCalibration _ | .ddrAlert _ _ | .ddrEraseWrite _ _ _ | .ddrRetire _ _ | .arbRequestRaise _ _
  | .arbRequestDrop _ | .arbBreakPoint _ | .arbBackoffEnd _ _ | .arbRankWrite _ _ _ _ | .deliveryReady _ _
  | .payloadTransfer _ _ _ | .descFetch _ _ | .creditWaitExpiry _ _ | .deactExpiry _ _ | .irqModerationExpiry _ _
  | .rateWindowEnd | .flushUsExpiry _ | .recallGo _ _ | .recallRecordRead _ _ | .perstAssert _ | .perstDeassert _
  | .linkUp _ _ _ | .linkDown _ | .pcieCfgWrite _ _ _ | .flr _ | .bmeClear _ | .bmeSet _ | .d3hotEntry _
  | .d0Return _ | .configRequest _ _ _ _ _ | .windowCommit _ _ | .windowSwitch _ _ | .msixPendingSend _ _
  | .getInfo _ | .streamOpen _ | .streamClose _ _ | .ringPost _ | .ringWithdraw _ | .cameraAccess _ _ _ _ _
  | .tableLoad _ _ | .engineRestart _ _ | .unitRetire _ | .imageBegin _ | .imageChunk _ | .imageEnd _
  | .cutlistTrial _ | .attestReport _ | .attestCertificate _ | .otpProgramSlot _ | .otpRevokeSlot _
  | .mailboxReset _ _ | .outputHold _ | .outputResume _ | .logRead _ | .sillBlockLock _ | .sillLinkLoss _
  | .helloSend _ | .helloTimeout _ | .measureTimeout _ | .faultHoldExpiry _ | .sillProbeSend _
  | .probeReceive _ _ _ | .pechoReceive _ _ _ | .syncSend _ | .timeServo | .syncTimeout | .alignedEventDue
  | .schedGo _ | .claimSend | .claimWindowExpiry | .cechoSend | .cechoReceive _ _ | .beatSend | .twinWatchStart
  | .hbLost | .claimHoldoffExpiry | .swapReq _ | .swapTakingStart | .swapPoint | .revertHoldExpiry
  | .swapPeriodExpiry | .thermalTrip | .voltOut _ _ | .logWrite | .logFlashCopy | .trialConfirm | .identityKeyReady
  | .retireLane _ _ | .retireBay _ _ | .retireEngine _ _ | .retirePositionChannel _ _ | .retireSillPort _ _
  | .pwmPeriodStart _ | .pwmHighEnd _ | .equaliseReady _ _ _ | .checkerLock _ | .checkerReseed _
  | .idleBlockReceive _ _ | .cameraScriptWaitExpiry _ | .camSyncDelayExpiry _ | .encZFall _ | .enginePushArrive _
  | .fenceComplete _ | .faultWindowEnd | .postedCreditReturn _ | .peerReadComplete _ _ _ | .flrComplete _
  | .pcieLinkError _ _ | .mailboxBadOpcode _ | .noHolderTimeout | .partnerTooNarrow _ => true

end Sys2Proof
end

