-- ==== Sys2Proof/Safety.lean ====
section
/-!
DEFINITION. What holds of the device at every step, in the terms the claims use: the tables that hold registers and
memories are in canonical form, every waiting command is one that can come, and the OTP only ever gains bits (R91). The ordinary conditions under which a
Tenon lane receives.
-/

namespace Sys2Proof.Machine

open Sys2Proof.Machine.Reg

/-- The register table, the configuration spaces and the memories (bay stores, DDR4, engine memories, flash and OTP) are
in canonical form: keys strictly rising, no entry equal to what an unlisted key reads as. -/
def State.memOk (s : State) : Prop :=
  cwf regDefault s.regs ∧ cwf cfgDefault s.cfg ∧ cwf (fun _ => (0 : Byte)) s.bay ∧ cwf (fun _ => (0 : Byte)) s.ddr ∧
    cwf (fun _ => (0 : Byte)) s.imem ∧ cwf (fun _ => (0 : Byte)) s.dmem ∧ cwf erased s.mc.flash ∧ cwf noBits s.mc.otp

/-- Every waiting command is well formed. -/
abbrev State.queueOk (s : State) : Prop := s.pending.all Instr.wf = true

/-- A byte of the OTP (R91). -/
def State.otpByte (s : State) (a : Nat) : Byte := cget noBits s.mc.otp a

/-- Every bit of the OTP that is 1 in `s` is 1 in `t`. -/
def State.otpGrows (s t : State) : Prop := ∀ a, s.otpByte a &&& t.otpByte a = s.otpByte a

/-- The invariant of the machine. -/
def State.Ok (s : State) : Prop := s.memOk ∧ s.queueOk

/-- Lane `l` receives by itself, without a bond: in ACTIVE with both locks and its protocol up, its equaliser free and no
run of idle blocks behind it. -/
abbrev State.receivesAlone (s : State) (l : Nat) : Prop :=
  s.laneState l = 6 ∧ s.tenUp l = true ∧ s.rxOpen l = true ∧ s.flag (LANE_STATUS_FROZEN l) = false ∧ (s.lphy l).idleRun = 0 ∧
    s.bondW l = 1

/-- Lane `l` stands between tiles: none is open or waits, nothing is being discarded, and the last block was good. -/
abbrev State.betweenTiles (s : State) (l : Nat) : Prop :=
  (s.lten l).cur = none ∧ (s.lten l).hdr = none ∧ (s.lten l).wait = none ∧ (s.lten l).discard = 0 ∧ (s.lten l).lastBad = 0

end Sys2Proof.Machine
end

