-- ==== Sys2Proof/Certificates/Slice0/Obligations.lean ====
section
/-!
DEFINITION. The statements about the model, for the provers.
-/

open Sys2Proof Sys2Proof.Machine Sys2Proof.Machine.Reg

/-- Each clause below holds for every state that meets its hypotheses, and concludes that exec of the command answers
  exactly the next state written in it. (1) PORST_ASSERT, in every state: the state after reset with a power-on reset
  in progress, keeping only flash, OTP and the other items that Mc.kept names (not the OTP shadow, not the bad
  sections), the PERST_N balls, the GPIO input levels, the model's queue, free values and output record. (2)
  PORST_RELEASE during a power-on reset: power-on reset and system reset end with the controller down, the OTP shadow
  is loaded from the OTP, the straps are sampled, the repair map is loaded, and the OTP and capability registers are
  shown. (3) SYS_RST_ASSERT with no reset of the system in progress: the held device sysHeld, with bit 1 set in the
  cause bits, to which the causes of an MC reset in progress are kept, and SYS_COUNT up by one to at most 0xFFFF. (4)
  SYS_RST_ASSERT during a system reset: bit 1 joins the cause bits, nothing else. (5) SYSTEM_RESET_RELEASE during a
  system reset: it ends with the controller down and the release tick noted, and the capabilities are shown. (6)
  SYS_RESET_REQUEST of the MC, out of reset: the model's system reset sysReset with cause bit 2. (7)
  SYS_RESET_REQUEST of a host whose accesses reach the registers: refused and counted as a bad access with cause 3.
  (8) MC_RESET_REQUEST of the MC, out of reset: the model's mcReset with cause bit 5. (9) MC_RESET_REQUEST of a host
  whose accesses reach the registers: refused and counted likewise. (10) MC_WATCHDOG_EXPIRY with firmware running, no
  debug hold and TIMEOUT ms (at least 10) since it started: mcReset with cause bit 4, MC_CNT_WDOG counted, WDOG
  raised. Two facts about the operations named, with no reset in progress: sysReset with cause bit c sets the system
  reset and takes the controller down, shows that cause alone, keeps the time base count, the log ring and queue,
  flash, OTP, shadow and the model's queue, and leaves no delivery, trigger or lane PHY state; mcReset with cause bit
  c takes the controller down, stops the firmware, drops the identity key, shows that cause alone, and keeps the time
  base, lane PHY state, triggers, deliveries, streams, flash and OTP. (R68, R69, R70, R71, R460) -/
def Obligations.ResetsComplete : Prop :=
  (∀ (s : State), exec (.porstAssert) s = .next (((({ State.reset with
    pending := s.pending, freeIdx := s.freeIdx, out := s.out,
    mc := { s.mc.kept with shadow := [], badSections := [] }, power := ⟨true, false, true, false, 0⟩ } :
    State).keepPerst s).wr GPIO_IN_LO (s.rd GPIO_IN_LO)).wr GPIO_IN_HI (s.rd GPIO_IN_HI))) ∧
  (∀ (s : State) (mode : Fin 4) (f : Bool), s.power.porst = true → exec (.porstRelease mode f) s = .next
    ((((((s.modPower (fun _ => ⟨false, false, true, false, s.tb.ticks⟩)).modMc (fun m =>
    { m with shadow := m.otp })).sampleStraps mode f).loadRepair).showOtp).showCap)) ∧
  (∀ (s : State), s.power.porst = false → s.power.sysRst = false → exec (.sysRstAssert) s = .next
    (((s.sysHeld.setCause (Nat.lor (if s.power.mcDown && decide (s.get ⟨GLOBAL_RESET_CAUSE, 0, 6⟩ % 8 = 0) then s.get
    ⟨GLOBAL_RESET_CAUSE, 0, 6⟩ else 0) 2)).put GLOBAL_RESET_CAUSE_SYS_COUNT (min 0xFFFF ((s.sysHeld.setCause (Nat.lor
    (if s.power.mcDown && decide (s.get ⟨GLOBAL_RESET_CAUSE, 0, 6⟩ % 8 = 0) then s.get ⟨GLOBAL_RESET_CAUSE, 0, 6⟩
    else 0) 2)).get GLOBAL_RESET_CAUSE_SYS_COUNT + 1))))) ∧
  (∀ (s : State), s.power.porst = false → s.power.sysRst = true → exec (.sysRstAssert) s = .next (s.setCause (Nat.lor
    (s.get ⟨GLOBAL_RESET_CAUSE, 0, 6⟩) 2))) ∧
  (∀ (s : State), s.power.sysRst = true → exec (.systemResetRelease) s = .next ((s.modPower (fun p => ⟨p.porst,
    false, true, false, s.tb.ticks⟩)).showCap)) ∧
  (∀ (s : State), s.held = false → exec (.sysResetRequest 0) s = .next (s.sysReset 2)) ∧
  (∀ (s : State) (m : Fin 3), s.reaches m = true → m ≠ 0 → exec (.sysResetRequest m) s = .next (s.badAccess m
    GLOBAL_RESET_CTRL 3)) ∧
  (∀ (s : State), s.held = false → exec (.mcResetRequest 0) s = .next (s.mcReset 5)) ∧
  (∀ (s : State) (m : Fin 3), s.reaches m = true → m ≠ 0 → exec (.mcResetRequest m) s = .next (s.badAccess m
    GLOBAL_RESET_CTRL 3)) ∧
  (∀ (s : State), s.held = false → s.mc.fwOn = true → s.power.mcDown = false → s.power.mcDebugHold = false →
    s.mc.fwAt + max 10 (s.get MC_WDOG_CFG_TIMEOUT) * 1000000 ≤ s.tb.ticks → exec (.mcWatchdogExpiry) s = .next
    (((s.mcReset 4).bump MC_CNT_WDOG).raise 11 MC_EVENTS_WDOG)) ∧
  (∀ (s : State) (c : Nat), c < 6 → s.power.porst = false → s.power.sysRst = false → s.power.mcDown = false →
    (s.sysReset c).power.sysRst = true ∧ (s.sysReset c).power.mcDown = true ∧ (s.sysReset c).get ⟨GLOBAL_RESET_CAUSE, 0, 6⟩ = 2 ^ c ∧
    (s.sysReset c).tb.cnt = s.tb.cnt ∧ (s.sysReset c).log.ring = s.log.ring ∧ (s.sysReset c).log.queue = s.log.queue ∧
    (s.sysReset c).mc.flash = s.mc.flash ∧ (s.sysReset c).mc.otp = s.mc.otp ∧ (s.sysReset c).mc.shadow = s.mc.shadow ∧
    (s.sysReset c).dlv = [] ∧ (s.sysReset c).trigs = [] ∧ (s.sysReset c).phy = [] ∧ (s.sysReset c).pending = s.pending) ∧
  (∀ (s : State) (c : Nat), c < 6 → s.power.porst = false → s.power.sysRst = false → s.power.mcDown = false →
    (s.mcReset c).power.mcDown = true ∧ (s.mcReset c).mc.fwOn = false ∧ (s.mcReset c).mc.keyReady = false ∧
    (s.mcReset c).get ⟨GLOBAL_RESET_CAUSE, 0, 6⟩ = 2 ^ c ∧ (s.mcReset c).tb = s.tb ∧ (s.mcReset c).phy = s.phy ∧
    (s.mcReset c).trigs = s.trigs ∧ (s.mcReset c).dlv = s.dlv ∧ (s.mcReset c).streams = s.streams ∧
    (s.mcReset c).mc.flash = s.mc.flash ∧ (s.mcReset c).mc.otp = s.mc.otp)

/-- Each clause below holds for every state and PLL that meet its hypotheses, and concludes that exec of the command
  answers exactly the next state written in it. In the first six, "shown" is: LOCKED of the PLL clear, LOST of the
  PLL set, and PLL_LOST of GLOBAL_EVENTS raised if LOST was clear. (1) Loss of PLL_MGMT (0) when locked: shown,
  logged 0x9112, mcReset with cause bit 3. (2) Loss of PLL_CORE, PLL_FAB or PLL_ENC (1 to 3): shown, logged 0x9111,
  sysReset with cause bit 3. (3) Loss of PLL_TB (4): shown, COARSE set, logged 0x9113, sysReset with cause bit 3. (4)
  Loss of PLL_SILL (5): shown, logged 0x9114, and every Sill port in a state other than 0 leaves for state 1 by
  sillLeave. (5) Loss of PLL_PCIE_A or PLL_PCIE_B (6, 7): shown, logged 0x9115 with the port, and linkDown of the
  port. (6) Loss of the PLL of a DDR4 channel (8 and up): shown, logged 0x9116 with the channel, and ddrRetire of the
  channel with cause 7 at run time. (7) PLL_LOCKED of PLL 0 to 7: its LOCKED bit set. (8) PLL_LOCKED of a channel's
  PLL: PLL_LOCK of the channel set and the shared DDR bit of LOCKED shown anew. (9) TB_HOLDOVER_ENTRY with REF_SEL
  set and TB_HOLDOVER clear: TB_HOLDOVER set, its event raised, 0x9120 logged. (10) TB_RELOCK out of reset: TB_RELOCK
  set. (11) TB_RELOCK_COMPLETE with TB_RELOCK set: TB_RELOCK and TB_HOLDOVER cleared. (12) TB_COARSE_EXIT with COARSE
  set and PLL_TB locked: COARSE cleared and the coarse phase zeroed. (R53, R55, R56, R57) -/
def Obligations.PllsComplete : Prop :=
  (∀ (s : State) (i : Fin 16), s.power.porst = false → s.pllLocked i = true → i.val = 0 → exec (.pllLossOfLock i) s =
    .next (((((s.setLock i false).putB (GLOBAL_PLL_STATUS_LOST.sub (pllBit i)) true).iff (!s.flag
    (GLOBAL_PLL_STATUS_LOST.sub (pllBit i))) (fun x => x.raise 11 GLOBAL_EVENTS_PLL_LOST)).logC 0x9112 noUnit
    0).mcReset 3)) ∧
  (∀ (s : State) (i : Fin 16), s.power.porst = false → s.pllLocked i = true → (i.val = 1 ∨ i.val = 2 ∨ i.val = 3) →
    exec (.pllLossOfLock i) s = .next (((((s.setLock i false).putB (GLOBAL_PLL_STATUS_LOST.sub (pllBit i)) true).iff
    (!s.flag (GLOBAL_PLL_STATUS_LOST.sub (pllBit i))) (fun x => x.raise 11 GLOBAL_EVENTS_PLL_LOST)).logC 0x9111
    noUnit 0).sysReset 3)) ∧
  (∀ (s : State) (i : Fin 16), s.power.porst = false → s.pllLocked i = true → i.val = 4 → exec (.pllLossOfLock i) s =
    .next ((((((s.setLock i false).putB (GLOBAL_PLL_STATUS_LOST.sub (pllBit i)) true).iff (!s.flag
    (GLOBAL_PLL_STATUS_LOST.sub (pllBit i))) (fun x => x.raise 11 GLOBAL_EVENTS_PLL_LOST)).putB TB_STATUS_COARSE
    true).logC 0x9113 noUnit 0).sysReset 3)) ∧
  (∀ (s : State) (i : Fin 16), s.power.porst = false → s.pllLocked i = true → i.val = 5 → exec (.pllLossOfLock i) s =
    .next ((List.range 4).foldl (fun x p => x.iff (decide (x.sillState p ≠ 0)) (fun y => y.sillLeave p 1))
    ((((s.setLock i false).putB (GLOBAL_PLL_STATUS_LOST.sub (pllBit i)) true).iff (!s.flag
    (GLOBAL_PLL_STATUS_LOST.sub (pllBit i))) (fun x => x.raise 11 GLOBAL_EVENTS_PLL_LOST)).logC 0x9114 noUnit 0))) ∧
  (∀ (s : State) (i : Fin 16), s.power.porst = false → s.pllLocked i = true → (i.val = 6 ∨ i.val = 7) → exec
    (.pllLossOfLock i) s = .next (((((s.setLock i false).putB (GLOBAL_PLL_STATUS_LOST.sub (pllBit i)) true).iff
    (!s.flag (GLOBAL_PLL_STATUS_LOST.sub (pllBit i))) (fun x => x.raise 11 GLOBAL_EVENTS_PLL_LOST)).logC 0x9115
    (i.val - 6) 0).linkDown (i.val - 6))) ∧
  (∀ (s : State) (i : Fin 16), s.power.porst = false → s.pllLocked i = true → 8 ≤ i.val → exec (.pllLossOfLock i) s =
    .next (((((s.setLock i false).putB (GLOBAL_PLL_STATUS_LOST.sub (pllBit i)) true).iff (!s.flag
    (GLOBAL_PLL_STATUS_LOST.sub (pllBit i))) (fun x => x.raise 11 GLOBAL_EVENTS_PLL_LOST)).logC 0x9116 (i.val - 8)
    0).ddrRetire (i.val - 8) 7 true)) ∧
  (∀ (s : State) (i : Fin 16), s.power.porst = false → i.val < 8 → exec (.pllLocked i) s = .next (s.putB
    (GLOBAL_PLL_STATUS_LOCKED.sub (pllBit i)) true)) ∧
  (∀ (s : State) (i : Fin 16), s.power.porst = false → 8 ≤ i.val → exec (.pllLocked i) s = .next ((s.putB
    (DDR_STATUS_PLL_LOCK (i.val - 8)) true).showDdrLock)) ∧
  (∀ (s : State), s.flag TB_CTRL_REF_SEL = true → s.flag GLOBAL_PLL_STATUS_TB_HOLDOVER = false → exec
    (.tbHoldoverEntry) s = .next (((s.putB GLOBAL_PLL_STATUS_TB_HOLDOVER true).raise 11
    GLOBAL_EVENTS_TB_HOLDOVER).logC 0x9120 noUnit 0)) ∧
  (∀ (s : State), s.held = false → exec (.tbRelock) s = .next (s.putB GLOBAL_PLL_STATUS_TB_RELOCK true)) ∧
  (∀ (s : State), s.flag GLOBAL_PLL_STATUS_TB_RELOCK = true → exec (.tbRelockComplete) s = .next ((s.putB
    GLOBAL_PLL_STATUS_TB_RELOCK false).putB GLOBAL_PLL_STATUS_TB_HOLDOVER false)) ∧
  (∀ (s : State), s.flag TB_STATUS_COARSE = true → s.pllLocked 4 = true → exec (.tbCoarseExit) s = .next ((s.putB
    TB_STATUS_COARSE false).modTb (fun t => { t with coarseTick := 0 })))

/-- Each clause below holds for every state that meets its hypotheses, and concludes that exec of the command answers
  exactly the next state written in it. "Halve" is the model's one operation halve: HALVED set, the event counted,
  logged for the first of a millisecond, raised and produced, the hold time set. (1) DROOP_DETECT with ENABLE set and
  HALVED clear: FORCED cleared unless FORCE is set, then halve. (2) DROOP_RESTORE with HALVED set and the hold time
  over: HALVED and FORCE cleared. (3) DROOP_BUDGET_EXCEEDED in a window whose halved time is above BUDGET for the
  first time: the window is over, DROOP_OVER and OVER_SEEN set, DROOP_OVER_COUNT counted, the event raised, 0x9102
  logged. (4) DROOP_WINDOW_END of a window that has run its length and stayed within BUDGET, with DROOP_OVER set:
  DROOP_OVER cleared, the instant noted, and the next window begins. (5) DROOP_WINDOW_END of a window that has run
  its length and went over, or with DROOP_OVER clear: the next window begins, nothing else. (6) DROOP_FORCE with
  HALVED clear: FORCE and FORCED set, then halve. (7) DROOP_FORCE with HALVED set: FORCE and FORCED set, and the hold
  extended to at least (HOLD + 1) us from now. (R63, R64, R65, R67) -/
def Obligations.DroopComplete : Prop :=
  (∀ (s : State), s.held = false → s.flag GLOBAL_DROOP_CTRL_ENABLE = true → s.flag GLOBAL_DROOP_STATUS_HALVED = false
    → exec (.droopDetect) s = .next ((s.iff (!s.flag GLOBAL_DROOP_CTRL_FORCE) (fun x => x.putB
    GLOBAL_DROOP_STATUS_FORCED false)).halve)) ∧
  (∀ (s : State), s.flag GLOBAL_DROOP_STATUS_HALVED = true → s.droop.minEnd ≤ s.tb.ticks → exec (.droopRestore) s =
    .next ((s.putB GLOBAL_DROOP_STATUS_HALVED false).putB GLOBAL_DROOP_CTRL_FORCE false)) ∧
  (∀ (s : State), s.droop.winOn = true → s.droop.winOver = false → s.get GLOBAL_DROOP_BUDGET_BUDGET <
    s.droop.winHalved → exec (.droopBudgetExceeded) s = .next ((((((s.modDroop (fun d =>
    { d with winOver := true })).putB GLOBAL_DROOP_STATUS_DROOP_OVER true).putB GLOBAL_DROOP_STATUS_OVER_SEEN
    true).bump GLOBAL_DROOP_OVER_COUNT).raise 11 GLOBAL_EVENTS_DROOP_OVER).logC 0x9102 noUnit 0)) ∧
  (∀ (s : State), s.droop.winOn = true → s.droop.winFrom + s.droopW ≤ s.tb.ticks → s.droop.winOver = false →
    s.droop.winHalved ≤ s.get GLOBAL_DROOP_BUDGET_BUDGET → s.flag GLOBAL_DROOP_STATUS_DROOP_OVER = true → exec
    (.droopWindowEnd) s = .next (((s.putB GLOBAL_DROOP_STATUS_DROOP_OVER false).modDroop (fun d =>
    { d with lastOver := some s.tb.ticks })).modDroop (fun d =>
    { d with winHalved := 0, winOver := false, winFrom := d.winFrom + s.droopW }))) ∧
  (∀ (s : State), s.droop.winOn = true → s.droop.winFrom + s.droopW ≤ s.tb.ticks → (s.droop.winOver = true ∨ s.get
    GLOBAL_DROOP_BUDGET_BUDGET < s.droop.winHalved ∨ s.flag GLOBAL_DROOP_STATUS_DROOP_OVER = false) → exec
    (.droopWindowEnd) s = .next (s.modDroop (fun d =>
    { d with winHalved := 0, winOver := false, winFrom := d.winFrom + s.droopW }))) ∧
  (∀ (s : State), s.held = false → s.flag GLOBAL_DROOP_STATUS_HALVED = false → exec (.droopForce) s = .next (((s.putB
    GLOBAL_DROOP_CTRL_FORCE true).putB GLOBAL_DROOP_STATUS_FORCED true).halve)) ∧
  (∀ (s : State), s.held = false → s.flag GLOBAL_DROOP_STATUS_HALVED = true → exec (.droopForce) s = .next (((s.putB
    GLOBAL_DROOP_CTRL_FORCE true).putB GLOBAL_DROOP_STATUS_FORCED true).modDroop (fun d =>
    { d with minEnd := max d.minEnd (s.tb.ticks + s.droopHold) })))

/-- Each clause below holds for every state and all operands that meet its hypotheses, and concludes that exec of the
  command answers exactly the next state written in it. (1) TB_INCR_WRITE of all 64 bits with a value of the range of
  R242: TB_INCR takes it, and its low half is noted. (2) TB_INCR_WRITE of all 64 bits below the range: TB_INCR takes
  0x00FFBE76C9, the clamp is counted, raised and logged 0x9152. (3) TB_INCR_WRITE of all 64 bits above the range and
  within 40 bits: TB_INCR takes 0x0100418937, the clamp is counted, raised and logged likewise. (4) TB_INCR_WRITE of
  the high half where it makes, with the low half noted, a value of the range: TB_INCR takes that value. (5)
  SLEW_START with 0: TB_SLEW holds 0, nothing else. (6) SLEW_START with another value: TB_SLEW holds it, that many ns
  are left to slew, SLEWING is set. (7) SLEW_END with nothing left to slew: SLEWING cleared. (8) SLEW_ABORT: nothing
  is left to slew and SLEWING is cleared. (9) SET under OUTPUT_COMMIT, further than STEP_MAX: refused, which is
  counted, raised and logged 0x9151 with the distance. (10) SET otherwise: the counter takes TB_SET_TIME, and the
  model's operation stepped follows with the distance and the alarms passed. (11) STEP that is not refused (no
  OUTPUT_COMMIT, or within STEP_MAX): the counter moves by TB_STEP modulo its range, and stepped follows likewise.
  (12) SNAP: TB_SNAP_TIME takes the visible time and the capture is published. (R241, R242, R244, R246, R248) -/
def Obligations.TimeBaseSteeringComplete : Prop :=
  (∀ (s : State) (v : Nat), s.held = false → 0x00FFBE76C9 ≤ v → v ≤ 0x0100418937 → exec (.tbIncrWrite true v) s =
    .next ((s.modTb (fun t => { t with incrLow := BitVec.ofNat 32 v })).wr64 TB_INCR v)) ∧
  (∀ (s : State) (v : Nat), s.held = false → v < 0x00FFBE76C9 → exec (.tbIncrWrite true v) s = .next ((((((s.modTb
    (fun t => { t with incrLow := BitVec.ofNat 32 v })).wr64 TB_INCR 0x00FFBE76C9).bump TB_CNT_CLAMP).raise 7
    TB_EVENTS_CLAMPED).logC 0x9152 noUnit 0))) ∧
  (∀ (s : State) (v : Nat), s.held = false → 0x0100418937 < v → v < 2 ^ 40 → exec (.tbIncrWrite true v) s = .next
    ((((((s.modTb (fun t => { t with incrLow := BitVec.ofNat 32 v })).wr64 TB_INCR 0x0100418937).bump
    TB_CNT_CLAMP).raise 7 TB_EVENTS_CLAMPED).logC 0x9152 noUnit 0))) ∧
  (∀ (s : State) (v : Nat), s.held = false → 0x00FFBE76C9 ≤ v % 2 ^ 8 * 2 ^ 32 + s.tb.incrLow.toNat → v % 2 ^ 8 * 2 ^
    32 + s.tb.incrLow.toNat ≤ 0x0100418937 → exec (.tbIncrWrite false v) s = .next ((s.modTb (fun t =>
    { t with incrLow := BitVec.ofNat 32 (v % 2 ^ 8 * 2 ^ 32 + s.tb.incrLow.toNat) })).wr64 TB_INCR (v % 2 ^ 8 * 2 ^
    32 + s.tb.incrLow.toNat))) ∧
  (∀ (s : State) (v : Word), s.held = false → sext 32 v.toNat = 0 → exec (.slewStart v) s = .next (s.wrN TB_SLEW
    v.toNat)) ∧
  (∀ (s : State) (v : Word), s.held = false → sext 32 v.toNat ≠ 0 → exec (.slewStart v) s = .next (((s.wrN TB_SLEW
    v.toNat).modTb (fun t => { t with slewLeft := sext 32 v.toNat * 65536 })).putB TB_STATUS_SLEWING true)) ∧
  (∀ (s : State), s.tb.slewLeft = 0 → exec (.slewEnd) s = .next (s.putB TB_STATUS_SLEWING false)) ∧
  (∀ (s : State), s.held = false → exec (.slewAbort) s = .next ((s.modTb (fun t => { t with slewLeft := 0 })).putB
    TB_STATUS_SLEWING false)) ∧
  (∀ (s : State) (n : Int), s.held = false → n = ((s.rdTime TB_SET_TIME * 65536 : Nat) : Int) % (tbMod : Int) →
    s.outCommit = true → s.rdN TB_STEP_MAX * 65536 < (n / 65536 - s.nowI).natAbs → exec (.tbSet) s = .next (((s.bump
    TB_CNT_REFUSED).raise 7 TB_EVENTS_REFUSED).log64 0x9151 noUnit (n / 65536 - s.nowI) 0)) ∧
  (∀ (s : State) (n : Int), s.held = false → n = ((s.rdTime TB_SET_TIME * 65536 : Nat) : Int) % (tbMod : Int) →
    (s.outCommit = false ∨ (n / 65536 - s.nowI).natAbs ≤ s.rdN TB_STEP_MAX * 65536) → exec (.tbSet) s = .next
    ((s.modTb (fun t => { t with cnt := n.toNat })).stepped (n / 65536 - s.nowI) (s.alarmsPassed n))) ∧
  (∀ (s : State) (n : Int), s.held = false → n = ((s.tb.cnt : Int) + s.rdS TB_STEP * 65536) % (tbMod : Int) →
    (s.outCommit = false ∨ (n / 65536 - s.nowI).natAbs ≤ s.rdN TB_STEP_MAX * 65536) → exec (.tbStep) s = .next
    ((s.modTb (fun t => { t with cnt := n.toNat })).stepped (n / 65536 - s.nowI) (s.alarmsPassed n))) ∧
  (∀ (s : State), s.held = false → exec (.tbSnap) s = .next ((s.wrTime TB_SNAP_TIME s.now).publishC TB_SNAP_STATUS))

/-- Each clause below holds for every state and all operands that meet its hypotheses, and concludes that exec of the
  command answers exactly the next state written in it. "Produced" is the model's one operation produce, which sends
  an event of that producer with hop count 0 into the matrix; edgeAgo rounds a distance down to steps of 125 ps. (1)
  ALARM_FIRE of an enabled one-time alarm whose TIME the present tick has reached: its bit raised, EN cleared,
  producer 64 + a produced. (2) ALARM_FIRE of one whose TIME had already passed before this tick: ALARM_LATE is
  raised too. (3) ALARM_FIRE of an enabled periodic alarm whose TIME the present tick has reached: its bit raised,
  TIME moved on by PERIOD (at least 64 ns), producer 64 + a produced. (4) PPS_IN_EDGE of a selected edge, not in
  coarse running: edge and stamp captured and published, PPS_MISS cleared, the tick noted, producer 88 produced. (5)
  PPS_IN_EDGE of a selected edge in coarse running: the same without the capture. (6) PPS_MISS 1.1 s after the last
  edge, once: PPS_MISS set, raised, counted and logged 0x9153. (7) PPS_OUT_START with PPS_OUT_EN, OUTPUT_COMMIT and a
  declared idle level, at a second later than the last one pulsed and than the one a step skips, with no pulse
  running: the pulse runs, with its second and its end after WIDTH_US (at most 900,000). (8) PPS_OUT_END at the end
  of that pulse: it is over. (9) CYCLE_TIMER_PULSE of an enabled timer without a pin, at START + k x PERIOD: k
  advances and producer 72 + i is produced. (10) CYCLE_TIMER_PULSE of one with a pin: the same, and a pulse of WIDTH
  ns of owner 2 starts on the pin if it drives (pulsePin). (11) CYCLE_TIMER_PULSE_END where the only pulse is this
  timer's and its width has passed: the pulse is forgotten and its pin returns to inactive. (12) GPIO_EDGE_CAPTURE of
  a selected rising edge of a pin of a usable bank that does not drive, that no enabled selector watches, first of
  its pin: the level shown, the tick noted, edge and stamp captured and published. (R247, R251, R252, R253, R254,
  R255, R257) -/
def Obligations.TimeBaseEventsComplete : Prop :=
  (∀ (s : State) (a : Fin 8), s.held = false → s.flag (TB_ALARM_CFG_EN a) = true → s.flag (TB_ALARM_CFG_PERIODIC a) =
    false → s.rdTime (TB_ALARM_TIME a) ≤ s.now → s.tb.cnt - (if s.flag TB_STATUS_COARSE then 40 * s.effIncr else
    s.effIncr) < (s.rdTime (TB_ALARM_TIME a) : Int) * 65536 → exec (.alarmFire a) s = .next (((s.raise 7
    (TB_EVENTS_ALARM.sub a)).putB (TB_ALARM_CFG_EN a) false).produce (64 + a) 0)) ∧
  (∀ (s : State) (a : Fin 8), s.held = false → s.flag (TB_ALARM_CFG_EN a) = true → s.flag (TB_ALARM_CFG_PERIODIC a) =
    false → s.rdTime (TB_ALARM_TIME a) ≤ s.now → (s.rdTime (TB_ALARM_TIME a) : Int) * 65536 ≤ s.tb.cnt - (if s.flag
    TB_STATUS_COARSE then 40 * s.effIncr else s.effIncr) → exec (.alarmFire a) s = .next ((((s.raise 7
    (TB_EVENTS_ALARM.sub a)).raise 7 TB_EVENTS_ALARM_LATE).putB (TB_ALARM_CFG_EN a) false).produce (64 + a) 0)) ∧
  (∀ (s : State) (a : Fin 8), s.held = false → s.flag (TB_ALARM_CFG_EN a) = true → s.flag (TB_ALARM_CFG_PERIODIC a) =
    true → s.rdTime (TB_ALARM_TIME a) ≤ s.now → s.tb.cnt - (if s.flag TB_STATUS_COARSE then 40 * s.effIncr else
    s.effIncr) < (s.rdTime (TB_ALARM_TIME a) : Int) * 65536 → exec (.alarmFire a) s = .next (((s.raise 7
    (TB_EVENTS_ALARM.sub a)).wrTime (TB_ALARM_TIME a) ((s.rdTime (TB_ALARM_TIME a) : Int) + max (nsT 64) (s.rd64
    (TB_ALARM_PERIOD a) : Int)).toNat).produce (64 + a) 0)) ∧
  (∀ (s : State) (r : Bool) (ago : Nat), s.held = false → bit (s.get TB_CTRL_PPS_EDGE) (if r then 0 else 1) = true →
    s.flag TB_STATUS_COARSE = false → exec (.ppsInEdge r ago) s = .next ((((((s.wrN TB_PPS_IN_FLAGS (if r then 1 else
    2)).wrTime TB_PPS_IN_TIME (s.now - edgeAgo ago)).publishC TB_PPS_IN_STATUS).putB TB_STATUS_PPS_MISS false).modTb
    (fun t => { t with ppsInTick := some t.ticks })).produce 88 0)) ∧
  (∀ (s : State) (r : Bool) (ago : Nat), s.held = false → bit (s.get TB_CTRL_PPS_EDGE) (if r then 0 else 1) = true →
    s.flag TB_STATUS_COARSE = true → exec (.ppsInEdge r ago) s = .next (((s.putB TB_STATUS_PPS_MISS false).modTb (fun
    t => { t with ppsInTick := some t.ticks })).produce 88 0)) ∧
  (∀ (s : State) (k : Nat), s.tb.ppsInTick = some k → s.flag TB_STATUS_PPS_MISS = false → k + 1100000000 ≤ s.tb.ticks
    → exec (.ppsMiss) s = .next ((((s.putB TB_STATUS_PPS_MISS true).raise 7 TB_EVENTS_PPS_MISS).bump
    TB_CNT_PPS_MISS).logC 0x9153 noUnit 0)) ∧
  (∀ (s : State), s.flag TB_CTRL_PPS_OUT_EN = true → s.outCommit = true → s.tb.ppsIdle.isSome = true → s.tb.ppsSec <
    s.ppsSecond s.nowI → s.tb.ppsSkip < s.ppsSecond s.nowI → s.tb.ppsActive = false → exec (.ppsOutStart) s = .next
    (s.modTb (fun t => { t with
    ppsActive := true, ppsSec := s.ppsSecond s.nowI,
    ppsEnd := s.elapsed + nsT (1000 * min 900000 (getBits (s.rdN TB_PPS_OUT) 0 20)) }))) ∧
  (∀ (s : State), s.tb.ppsActive = true → s.tb.ppsEnd ≤ s.elapsed → exec (.ppsOutEnd) s = .next (s.modTb (fun t =>
    { t with ppsActive := false }))) ∧
  (∀ (s : State) (i : Fin 16), s.held = false → s.flag (TB_CYC_CFG_EN i) = true → s.flag (TB_CYC_CFG_OUT_EN i) =
    false → (s.rdTime (TB_CYC_START i) : Int) / 65536 + cget (fun _ => 0) s.tb.cycNext i * s.rdN (TB_CYC_PERIOD i) ≤
    s.nowI / 65536 → exec (.cycleTimerPulse i) s = .next ((s.modTb (fun t =>
    { t with cycNext := cset (fun _ => 0) t.cycNext i (cget (fun _ => 0) s.tb.cycNext i + 1) })).produce (72 + i) 0)) ∧
  (∀ (s : State) (i : Fin 16), s.held = false → s.flag (TB_CYC_CFG_EN i) = true → s.flag (TB_CYC_CFG_OUT_EN i) = true
    → (s.rdTime (TB_CYC_START i) : Int) / 65536 + cget (fun _ => 0) s.tb.cycNext i * s.rdN (TB_CYC_PERIOD i) ≤ s.nowI
    / 65536 → exec (.cycleTimerPulse i) s = .next (((s.modTb (fun t => { t with
    cycNext := cset (fun _ => 0) t.cycNext i (cget (fun _ => 0) s.tb.cycNext i + 1) })).pulsePin (s.get
    (TB_CYC_CFG_OUT_PIN i)) (nsT (s.rdN (TB_CYC_WIDTH i))) 2 i).produce (72 + i) 0)) ∧
  (∀ (s : State) (i : Fin 16) (g : Nat) (p : Pulse), s.pulses = [(g, some p)] → p.owner = 2 → p.index = i.val →
    p.stop ≤ s.elapsed → exec (.cycleTimerPulseEnd i) s = .next ((s.setPulseEnd g none).pinActive g false)) ∧
  (∀ (s : State) (g : Fin 64) (ago : Nat), s.held = false → s.flag TB_STATUS_COARSE = false → s.flag
    (GPIO_OWNER_BANK_OK g) = true → s.pinDrives g = false → (∀ k < 8, s.flag (EVT_GPIO_SEL_EN k) = false) → bit
    (getBits (s.rdN (TB_GPIO_TS_EDGE (g / 16))) (2 * (g % 16)) 2) 0 = true → cget (fun _ => none) s.tb.gpioLast g =
    none → exec (.gpioEdgeCapture g true ago) s = .next (((((s.putB ⟨GPIO_IN_LO + 4 * (g / 32), g % 32, 1⟩
    true).modTb (fun t => { t with
    gpioLast := cset (fun _ => none) t.gpioLast g (some (65536 * t.ticks - edgeAgo ago)) })).wrN (TB_GPIO_EDGE_FLAGS
    g) 1).wrTime (TB_GPIO_EDGE_TIME g) (s.now - edgeAgo ago)).publishC (TB_GPIO_EDGE_STATUS g)))

/-- Each clause below holds for every state and all operands that meet its hypotheses, and concludes that exec of the
  command answers exactly the next state written in it. In the first three the event under way is the only one, has
  not met the consumer, is enabled for it and finds it running; "met" means that its mark for the consumer is taken
  off, and that it is dropped when it can meet no other (evtAlive). (1) EVENT_ARRIVE at a busy consumer with an event
  pending: the event is met, and lost at the consumer. (2) EVENT_ARRIVE at a busy consumer with none pending: met,
  and held pending with its producer and hop count. (3) EVENT_ARRIVE at a free consumer with none pending: met, and
  accepted (consAccept). (4) EVENT_ARRIVE of two producers in one cycle, both enabled, the only events under way:
  COINCIDENT set and counted, and one event with the lower producer and the higher hop count meets the consumer
  (consMeet: the three cases above). (5) PENDING_ACCEPT of a free consumer that runs: the pending event is taken out
  with its source and hop count and accepted. (6) PENDING_ACCEPT of a free consumer that does not run: the pending
  event is taken out, nothing else. (7) SOFT out of reset: producer 111 is produced with hop count 0. (8)
  EVT_PULSE_END where the only pulse is this output's and its width has passed: the pulse is forgotten and its pin
  returns to inactive. (9) PWM_PERIOD_START of an enabled output under OUTPUT_COMMIT with HIGH above 0 and below the
  period (at least 16), on a driving pin: a pulse of HIGH ns of owner 4 runs and the pin is active. (10)
  PWM_PERIOD_START with HIGH not 0 and at least the period: no pulse ends it, and the pin is active if it drives.
  (11) PWM_PERIOD_START with HIGH 0: no pulse, and the pin is inactive. (12) PWM_HIGH_END where the only pulse is
  this output's and its width has passed: as EVT_PULSE_END. (R257, R259, R261, R263, R264, R265, R508) -/
def Obligations.EventMatrixComplete : Prop :=
  (∀ (s : State) (c : Fin 64) (f : EvtFlight) (same : Bool), s.evt.inflight = [f] → bit f.left c = true →
    s.evtEnabled c f.prod = true → s.consRuns c = true → s.flag (EVT_CONS_STATUS_PENDING c) = true → s.consBusy c =
    true → exec (.eventArrive c [f.prod] same) s = .next ((s.modEvt (fun e =>
    { e with inflight := [{ f with left := f.left - 2 ^ c.val }].filter s.evtAlive })).consLost c 1)) ∧
  (∀ (s : State) (c : Fin 64) (f : EvtFlight) (same : Bool), s.evt.inflight = [f] → bit f.left c = true →
    s.evtEnabled c f.prod = true → s.consRuns c = true → s.flag (EVT_CONS_STATUS_PENDING c) = false → s.consBusy c =
    true → exec (.eventArrive c [f.prod] same) s = .next (((s.modEvt (fun e =>
    { e with inflight := [{ f with left := f.left - 2 ^ c.val }].filter s.evtAlive })).putB (EVT_CONS_STATUS_PENDING
    c) true).put (EVT_CONS_STATUS_PEND_SRC c) f.prod |>.put (EVT_CONS_STATUS_PEND_HOP c) f.hop)) ∧
  (∀ (s : State) (c : Fin 64) (f : EvtFlight) (same : Bool), s.evt.inflight = [f] → bit f.left c = true →
    s.evtEnabled c f.prod = true → s.consRuns c = true → s.flag (EVT_CONS_STATUS_PENDING c) = false → s.consBusy c =
    false → exec (.eventArrive c [f.prod] same) s = .next ((s.modEvt (fun e =>
    { e with inflight := [{ f with left := f.left - 2 ^ c.val }].filter s.evtAlive })).consAccept c f.prod f.hop
    same)) ∧
  (∀ (s : State) (c : Fin 64) (f g : EvtFlight) (same : Bool), s.evt.inflight = [f, g] → f.prod ≠ g.prod → bit f.left
    c = true → bit g.left c = true → s.evtEnabled c f.prod = true → s.evtEnabled c g.prod = true → s.consRuns c =
    true → exec (.eventArrive c [f.prod, g.prod] same) s = .next ((((s.modEvt (fun e => { e with
    inflight := [{ f with left := f.left - 2 ^ c.val }, { g with left := g.left - 2 ^ c.val }].filter s.evtAlive })).putB
    (EVT_CONS_STATUS_COINCIDENT c) true).bump (EVT_CNT_COINC c)).consMeet c (min f.prod g.prod) (max f.hop g.hop)
    same)) ∧
  (∀ (s : State) (c : Fin 64) (x : State), s.flag (EVT_CONS_STATUS_PENDING c) = true → s.consBusy c = false → x =
    ((s.putB (EVT_CONS_STATUS_PENDING c) false).put (EVT_CONS_STATUS_PEND_SRC c) 0).put (EVT_CONS_STATUS_PEND_HOP c)
    0 → x.consRuns c = true → exec (.pendingAccept c) s = .next (x.consAccept c (s.get (EVT_CONS_STATUS_PEND_SRC c))
    (s.get (EVT_CONS_STATUS_PEND_HOP c)) false)) ∧
  (∀ (s : State) (c : Fin 64) (x : State), s.flag (EVT_CONS_STATUS_PENDING c) = true → s.consBusy c = false → x =
    ((s.putB (EVT_CONS_STATUS_PENDING c) false).put (EVT_CONS_STATUS_PEND_SRC c) 0).put (EVT_CONS_STATUS_PEND_HOP c)
    0 → x.consRuns c = false → exec (.pendingAccept c) s = .next (x)) ∧
  (∀ (s : State), s.held = false → exec (.evtSoft) s = .next (s.produce 111 0)) ∧
  (∀ (s : State) (k : Fin 8) (g : Nat) (p : Pulse), s.pulses = [(g, some p)] → p.owner = 3 → p.index = k.val → p.stop
    ≤ s.elapsed → exec (.evtPulseEnd k) s = .next ((s.setPulseEnd g none).pinActive g false)) ∧
  (∀ (s : State) (k : Fin 8), s.flag (GPIO_PWM_CFG_EN k) = true → s.outCommit = true → 0 < s.get (GPIO_PWM_HIGH_NS k)
    → s.get (GPIO_PWM_HIGH_NS k) < max 16 (s.get (GPIO_PWM_PERIOD_NS k)) → s.pinDrives (s.get (GPIO_PWM_CFG_PIN k)) =
    true → exec (.pwmPeriodStart k) s = .next ((s.setPulseEnd (s.get (GPIO_PWM_CFG_PIN k)) (some ⟨s.elapsed + nsT
    (s.get (GPIO_PWM_HIGH_NS k)), 4, k⟩)).pinActive (s.get (GPIO_PWM_CFG_PIN k)) true)) ∧
  (∀ (s : State) (k : Fin 8), s.flag (GPIO_PWM_CFG_EN k) = true → s.outCommit = true → s.get (GPIO_PWM_HIGH_NS k) ≠ 0
    → max 16 (s.get (GPIO_PWM_PERIOD_NS k)) ≤ s.get (GPIO_PWM_HIGH_NS k) → exec (.pwmPeriodStart k) s = .next
    ((s.setPulseEnd (s.get (GPIO_PWM_CFG_PIN k)) none).iff (s.pinDrives (s.get (GPIO_PWM_CFG_PIN k))) (fun x =>
    x.pinActive (s.get (GPIO_PWM_CFG_PIN k)) true))) ∧
  (∀ (s : State) (k : Fin 8), s.flag (GPIO_PWM_CFG_EN k) = true → s.outCommit = true → s.get (GPIO_PWM_HIGH_NS k) = 0
    → exec (.pwmPeriodStart k) s = .next ((s.setPulseEnd (s.get (GPIO_PWM_CFG_PIN k)) none).pinActive (s.get
    (GPIO_PWM_CFG_PIN k)) false)) ∧
  (∀ (s : State) (k : Fin 8) (g : Nat) (p : Pulse), s.pulses = [(g, some p)] → p.owner = 4 → p.index = k.val → p.stop
    ≤ s.elapsed → exec (.pwmHighEnd k) s = .next ((s.setPulseEnd g none).pinActive g false))

/-- Each clause below holds for every state and all operands that meet its hypotheses, and concludes that exec of the
  command answers exactly the next state written in it. (1) TARGET_COMMIT of a running PITCH or LIST sequencer with a
  target, a warm channel, forward or BIDIR, once the lead C before the target's instant is reached: the model's
  commit decision judge for that instant. (2) TARGET_COMMIT of one whose channel is not warm: the test coldTest. (3)
  TARGET_COMMIT of a running TIME sequencer with a target once the lead is reached: judge. (4) FIRING_INSTANT of a
  trigger not yet fired, at or after its instant, on path 0 or 3 or already sent: the model's operation fired
  (capture, event, counts). (5) PULSE_START of a path-3 trigger not yet sent, at or after its instant, on a driving
  pin without a pulse: it is sent, its pulse of WIDTH from its instant runs and the pin is active. (6) PULSE_START
  where a pulse runs on the pin: that pulse is extended to the later end and the merge is counted and raised. (7)
  PULSE_END where the only pulse is this sequencer's and its width has passed: the pulse is forgotten and its pin
  returns to inactive. (8) LIST_ENTRY_RETRY of a running, stalled sequencer: it reads its entry again (loadEntry).
  (9) EXPOSURE_CENTRE_COPY of a trigger not yet copied, at or after its centre: the channel's state in force is
  copied into it, POS_STEP tells whether STEP_SEQ changed since the sequencer's last copy, and spent triggers leave
  the list. (R207, R217, R222, R223, R224, R226, R231, R233, R234, R236) -/
def Obligations.TriggersComplete : Prop :=
  (∀ (s : State) (q : Fin 128) (tf : Int), s.trRunning q = true → (s.sq q).has = true → s.trMode q < 2 → s.flag
    (POS_STATUS_WARM (s.trChan q)) = true → (s.flag (POS_STATUS_DIR (s.trChan q)) = false ∨ s.trBidir q = true) →
    (s.sq q).tf = some tf → tf - s.commitLead q ≤ s.nowI → exec (.targetCommit q) s = .next (s.judge q tf false false
    0)) ∧
  (∀ (s : State) (q : Fin 128), s.trRunning q = true → (s.sq q).has = true → s.trMode q < 2 → s.flag (POS_STATUS_WARM
    (s.trChan q)) = false → exec (.targetCommit q) s = .next (s.coldTest q)) ∧
  (∀ (s : State) (q : Fin 128) (tf : Int), s.trRunning q = true → (s.sq q).has = true → s.trMode q = 2 → (s.sq q).tf
    = some tf → tf - s.commitLead q ≤ s.nowI → exec (.targetCommit q) s = .next (s.judge q tf false false 0)) ∧
  (∀ (s : State) (i : Nat) (tr : Trigger), s.trigs.find? (fun t => t.id == i && !t.firedNow) = some tr → tr.tf ≤
    s.nowI → ((tr.path ≠ 1 ∧ tr.path ≠ 2) ∨ tr.sent = true) → exec (.firingInstant i) s = .next (s.fired tr)) ∧
  (∀ (s : State) (i : Nat) (tr : Trigger), s.trigs.find? (fun t => t.id == i && t.path == 3 && !t.sent) = some tr →
    tr.tf ≤ s.nowI → s.pulseEnd (tr.out % 64) = none → s.pinDrives (tr.out % 64) = true → exec (.pulseStart i) s =
    .next (((((s.modTrigs (fun ts => ts.map (fun (u : Trigger) => if u.id == i then { u with sent := true } else
    u))).setPulseEnd (tr.out % 64) (some ⟨s.elapsed + (tr.tf - s.nowI) + nsT tr.width, 1, tr.seq⟩)).pinActive (tr.out
    % 64) true).showCommitted tr.seq).cleanTrigs)) ∧
  (∀ (s : State) (i : Nat) (tr : Trigger) (p : Pulse), s.trigs.find? (fun t => t.id == i && t.path == 3 && !t.sent) =
    some tr → tr.tf ≤ s.nowI → s.pulseEnd (tr.out % 64) = some p → exec (.pulseStart i) s = .next ((((((s.modTrigs
    (fun ts => ts.map (fun (u : Trigger) => if u.id == i then { u with sent := true } else u))).setPulseEnd (tr.out %
    64) (some ⟨max (s.elapsed + (tr.tf - s.nowI) + nsT tr.width) p.stop, 1, tr.seq⟩)).bump (TRIG_CNT_MERGED
    tr.seq)).raise 6 (TRIG_EVENTS_MERGED tr.seq)).showCommitted tr.seq).cleanTrigs)) ∧
  (∀ (s : State) (q : Fin 128) (g : Nat) (p : Pulse), s.pulses = [(g, some p)] → p.owner = 1 → p.index = q.val →
    p.stop ≤ s.elapsed → exec (.pulseEnd q) s = .next ((s.setPulseEnd g none).pinActive g false)) ∧
  (∀ (s : State) (q : Fin 128), s.trRunning q = true → s.flag (TRIG_STATUS_STALLED q) = true → exec (.listEntryRetry
    q) s = .next (s.loadEntry q (s.get (TRIG_STATUS_LIST_IDX q)))) ∧
  (∀ (s : State) (i : Nat) (tr : Trigger), s.trigs.find? (fun t => t.id == i) = some tr → tr.copied = none → tr.tc ≤
    s.nowI → exec (.exposureCentreCopy i) s = .next (((s.modTrigs (fun ts => ts.map (fun (u : Trigger) => if u.id ==
    i then { u with
    copied := some (s.inForce (s.trChan tr.seq)),
    posStep := (s.inForce (s.trChan tr.seq)).stepSeq != (s.sq tr.seq).stepSeq } else u))).modSq tr.seq (fun x =>
    { x with stepSeq := (s.inForce (s.trChan tr.seq)).stepSeq })).cleanTrigs))

/-- Each clause below holds for every state and all operands that meet its hypotheses, and concludes that exec of the
  command answers exactly the next state written in it. "Filtered" means that the level has been shown for F = FILTER
  + 1 samples at 4 ns. (1) ENCODER_TRANSITION in quadrature mode without SWAP_AB, filtered, of a legal step: the
  levels are taken and the count of the table is applied and captured (edgeCount) with the edge's stamp. (2)
  ENCODER_TRANSITION likewise of an illegal step: the levels are taken, it is counted, raised and logged 0x2001, and
  the channel's own WARM ends. (3) ENCODER_TRANSITION with SWAP_AB of a legal step: as the first case with A and B
  exchanged. (4) ENCODER_TRANSITION with SWAP_AB of an illegal step: as the second case (illegal), with A and B
  exchanged. (5) ENCODER_TRANSITION in Hall mode of a legal step by the Hall table over three levels: the levels are
  taken and the count applied and captured. (6) ENCODER_TRANSITION in Hall mode of an illegal step: the levels are
  taken and the step is illegal as in the second case. (7) INDEX_EVENT in quadrature mode, ungated, INDEX_MODE 0, the
  first since Z was low: counted, raised, and producer 16 + 3c produced. (8) ENC_Z_FALL: Z is low and a further index
  may come. (9) PROBE_EDGE of a selected edge, filtered, the first of the channel, not in coarse running: edge,
  counter, position and stamp are captured and published, the event raised, and producer 17 + 3c produced. (10) SNAP
  of a running channel: counter, position, speed, acceleration and time captured and published. (11) PRESET of a
  running channel: the offset operation with POS_PRESET less the counter, as a step of source 0. (12) ARM of a
  running channel: ARMED set. (13) OBS_RESET of a running channel: the observer starts cold now (obsStart). (R191,
  R192, R193, R194, R198, R199, R200, R201, R206, R208, R209, R210) -/
def Obligations.PositionInputsComplete : Prop :=
  (∀ (s : State) (c : Fin 16) (a b z : Bool) (ago : Nat) (n : Int), (s.pch c).runs = true → s.mc.encOff = false →
    s.filtered c ago = true → s.posMode c = 1 → s.flag (POS_CTRL_SWAP_AB c) = false → ((s.pch c).lvA, (s.pch c).lvB)
    ≠ (a, b) → quadCount (s.get (POS_CTRL_DECODE c)) (quadPlace (s.pch c).lvA (s.pch c).lvB) (quadPlace a b) = some n
    → exec (.encoderTransition c a b z ago) s = .next ((s.modPch c (fun p =>
    { p with lvA := a, lvB := b })).edgeCount c n (s.nowI - edgeAgo ago))) ∧
  (∀ (s : State) (c : Fin 16) (a b z : Bool) (ago : Nat), (s.pch c).runs = true → s.mc.encOff = false → s.filtered c
    ago = true → s.posMode c = 1 → s.flag (POS_CTRL_SWAP_AB c) = false → ((s.pch c).lvA, (s.pch c).lvB) ≠ (a, b) →
    quadCount (s.get (POS_CTRL_DECODE c)) (quadPlace (s.pch c).lvA (s.pch c).lvB) (quadPlace a b) = none → exec
    (.encoderTransition c a b z ago) s = .next (((((s.modPch c (fun p => { p with lvA := a, lvB := b })).bump
    (POS_CNT_ILLEGAL c)).raise 5 (POS_EVENTS_ILLEGAL c)).logCount 0x2001 c c).setOwnWarm c false)) ∧
  (∀ (s : State) (c : Fin 16) (a b z : Bool) (ago : Nat) (n : Int), (s.pch c).runs = true → s.mc.encOff = false →
    s.filtered c ago = true → s.posMode c = 1 → s.flag (POS_CTRL_SWAP_AB c) = true → ((s.pch c).lvA, (s.pch c).lvB) ≠
    (a, b) → quadCount (s.get (POS_CTRL_DECODE c)) (quadPlace (s.pch c).lvB (s.pch c).lvA) (quadPlace b a) = some n →
    exec (.encoderTransition c a b z ago) s = .next ((s.modPch c (fun p => { p with lvA := a, lvB := b })).edgeCount
    c n (s.nowI - edgeAgo ago))) ∧
  (∀ (s : State) (c : Fin 16) (a b z : Bool) (ago : Nat), (s.pch c).runs = true → s.mc.encOff = false → s.filtered c
    ago = true → s.posMode c = 1 → s.flag (POS_CTRL_SWAP_AB c) = true → ((s.pch c).lvA, (s.pch c).lvB) ≠ (a, b) →
    quadCount (s.get (POS_CTRL_DECODE c)) (quadPlace (s.pch c).lvB (s.pch c).lvA) (quadPlace b a) = none → exec
    (.encoderTransition c a b z ago) s = .next ((s.modPch c (fun p => { p with lvA := a, lvB := b })).illegal c)) ∧
  (∀ (s : State) (c : Fin 16) (a b z : Bool) (ago : Nat) (n : Int), (s.pch c).runs = true → s.mc.encOff = false →
    s.filtered c ago = true → s.posMode c = 2 → ((s.pch c).lvA, (s.pch c).lvB, (s.pch c).lvZ) ≠ (a, b, z) → hallCount
    (hallPlace (s.pch c).lvA (s.pch c).lvB (s.pch c).lvZ) (hallPlace a b z) = some n → exec (.encoderTransition c a b
    z ago) s = .next ((s.modPch c (fun p => { p with lvA := a, lvB := b, lvZ := z })).edgeCount c n (s.nowI - edgeAgo
    ago))) ∧
  (∀ (s : State) (c : Fin 16) (a b z : Bool) (ago : Nat), (s.pch c).runs = true → s.mc.encOff = false → s.filtered c
    ago = true → s.posMode c = 2 → ((s.pch c).lvA, (s.pch c).lvB, (s.pch c).lvZ) ≠ (a, b, z) → hallCount (hallPlace
    (s.pch c).lvA (s.pch c).lvB (s.pch c).lvZ) (hallPlace a b z) = none → exec (.encoderTransition c a b z ago) s =
    .next ((s.modPch c (fun p => { p with lvA := a, lvB := b, lvZ := z })).illegal c)) ∧
  (∀ (s : State) (c : Fin 16) (ago : Nat) (x : State), (s.pch c).runs = true → s.mc.encOff = false → s.filtered c ago
    = true → s.posMode c = 1 → (s.pch c).zDone = false → s.flag (POS_INDEX_CFG_GATED c) = false → x = (((s.modPch c
    (fun p => { p with zDone := true, lvZ := true })).bump (POS_CNT_INDEX c)).raise 5 (POS_EVENTS_INDEX c)).produce
    (16 + 3 * c) 0 → x.get (POS_INDEX_CFG_INDEX_MODE c) = 0 → exec (.indexEvent c ago) s = .next (x)) ∧
  (∀ (s : State) (c : Fin 16), s.mc.encOff = false → exec (.encZFall c) s = .next (s.modPch c (fun p =>
    { p with lvZ := false, zDone := false }))) ∧
  (∀ (s : State) (c : Fin 16) (lv : Bool) (ago : Nat) (x : State), (s.pch c).runs = true → s.mc.encOff = false →
    s.filtered c ago = true → (s.pch c).lvProbe ≠ lv → bit (s.get (POS_PROBE_CFG_PROBE_EDGE c)) (if lv then 0 else 1)
    = true → (s.pch c).lastProbe = none → s.flag TB_STATUS_COARSE = false → x = (((s.modPch c (fun p =>
    { p with lvProbe := lv })).modPch c (fun p => { p with lastProbe := some s.tb.ticks })).modPch c (fun p =>
    { p with probeCyc := some s.encCyc })).wrN (POS_PROBE_FLAGS c) (if lv then 1 else 2) → exec (.probeEdge c lv ago)
    s = .next (((((x.probeTake c (s.nowI - edgeAgo ago)).wrTime (POS_PROBE_TIME c) (s.nowI - edgeAgo
    ago).toNat).publishC (POS_PROBE_STATUS c)).raise 5 (POS_EVENTS_PROBE c)).produce (17 + 3 * c) 0)) ∧
  (∀ (s : State) (c : Fin 16), (s.pch c).runs = true → exec (.posSnap c) s = .next ((((s.modPch c (fun p =>
    { p with snapCyc := some s.encCyc })).snapTake c s.nowI).wrTime (POS_SNAP_TIME c) s.now).publishC
    (POS_SNAP_STATUS c))) ∧
  (∀ (s : State) (c : Fin 16), (s.pch c).runs = true → exec (.posPreset c) s = .next (s.offset c (s.rdS (POS_PRESET
    c) - s.count c) (some 0) false)) ∧
  (∀ (s : State) (c : Fin 16), (s.pch c).runs = true → exec (.posArm c) s = .next (s.putB (POS_STATUS_ARMED c) true)) ∧
  (∀ (s : State) (c : Fin 16), (s.pch c).runs = true → exec (.obsReset c) s = .next (s.obsStart c s.nowI))

/-- Each clause below holds for every state and all operands that meet its hypotheses, and concludes that exec of the
  command answers exactly the next state written in it. (1) SSI_FRAME_START of a running channel in SSI mode whose
  ENC_B drives, the first frame: the frame starts now, with the idle level of ENC_A seen. (2) SSI_FRAME_START after
  an earlier frame, once MONO µs have passed since its end and PERIOD µs since its start: the same. (3)
  SSI_FRAME_START while ENC_B is high-impedance (no ENC_B record, or OUTPUT_COMMIT 0): nothing. (4) SSI_FRAME_END
  once the frame's time has run, where the idle level was wrong: the frame ends and is counted and logged 0x2020 as
  bad. (5) SSI_FRAME_END once the frame's time has run, the first good frame of a channel without GRAY, error bit or
  parity: the counter takes the value shifted to 16 fraction bits, REFERENCED and SSI_OK are set and raised, and the
  observer starts cold at the frame's instant. (6) OBSERVER_UPDATE of a running channel in quadrature or Hall mode,
  once the update interval has elapsed: the update of R204 with the counter and the interval elapsed. (7) POS_PUBLISH
  without a publisher: nothing. (8) POS_PUBLISH with publishers: the burst goes to the DOWN and TWIN ports, the
  anchor is noted, and each publisher that the fabric carries holds its state until HOLD has passed. (9)
  POS_STATE_IN_FORCE of a running channel: the first waiting state whose time has come is taken from the list and put
  in force. (10) FOLLOWER_STALE of a running follower 4 µs after its last frame: STALE, not WARM, counted, raised and
  logged 0x2041. (11) FOLLOWER_STALE of a running publisher that the fabric does not carry: the same. (R195, R196,
  R204, R211, R212, R438, R439) -/
def Obligations.PositionStatesComplete : Prop :=
  (∀ (s : State) (c : Fin 16) (idle b : Bool), (s.pch c).runs = true → s.posMode c = 3 → s.encB c = some b → (s.pch
    c).ssiFrame = none → (s.pch c).ssiEnd = none → (s.pch c).ssiStart = none → exec (.ssiFrameStart c idle) s = .next
    (s.modPch c (fun p => { p with ssiFrame := some s.nowI, ssiStart := some s.tb.ticks, lvA := idle }))) ∧
  (∀ (s : State) (c : Fin 16) (idle b : Bool) (e t : Nat), (s.pch c).runs = true → s.posMode c = 3 → s.encB c = some
    b → (s.pch c).ssiFrame = none → (s.pch c).ssiEnd = some e → (s.pch c).ssiStart = some t → e + 1000 * s.get
    (POS_SSI_TIMING_MONO c) ≤ s.tb.ticks → t + 1000 * s.get (POS_SSI_TIMING_PERIOD c) ≤ s.tb.ticks → exec
    (.ssiFrameStart c idle) s = .next (s.modPch c (fun p =>
    { p with ssiFrame := some s.nowI, ssiStart := some s.tb.ticks, lvA := idle }))) ∧
  (∀ (s : State) (c : Fin 16) (idle : Bool), s.encB c = none → exec (.ssiFrameStart c idle) s = .next (s)) ∧
  (∀ (s : State) (c : Fin 16) (raw t : Nat) (tf : Int), (s.pch c).ssiFrame = some tf → (s.pch c).ssiStart = some t →
    s.ssiDone c t ≤ s.tb.ticks → (s.pch c).lvA = false → exec (.ssiFrameEnd c raw) s = .next ((((s.modPch c (fun p =>
    { p with ssiFrame := none, ssiEnd := some (t + s.ssiBits c * s.ssiClk c + s.ssiClk c / 2) })).modPch c (fun p =>
    { p with ssiJumps := 0 })).ssiBad c).logCount 0x2020 c c)) ∧
  (∀ (s : State) (c : Fin 16) (raw t : Nat) (tf : Int) (x : State), (s.pch c).ssiFrame = some tf → (s.pch c).ssiStart
    = some t → s.ssiDone c t ≤ s.tb.ticks → (s.pch c).lvA = true → s.get (POS_SSI_CFG_PARITY c) = 0 → s.get
    (POS_SSI_CFG_ERR_BIT c) = 0 → s.flag (POS_SSI_CFG_GRAY c) = false → (s.pch c).ssiPrev = none → x = (((s.modPch c
    (fun p => { p with ssiFrame := none, ssiEnd := some (t + s.ssiBits c * s.ssiClk c + s.ssiClk c / 2) })).wrS
    (POS_COUNT c) ((raw % 2 ^ s.get (POS_SSI_CFG_BITS c) : Nat) * 2 ^ (16 - min 16 (s.get (POS_SSI_CFG_FRAC_BITS
    c))))).modPch c (fun p => { p with
    ssiPrev := some (raw % 2 ^ s.get (POS_SSI_CFG_BITS c)), ssiFails := 0, ssiJumps := 0, ssiLast := some t })) →
    exec (.ssiFrameEnd c raw) s = .next ((((x.putB (POS_STATUS_REFERENCED c) true).putB (POS_STATUS_SSI_OK c)
    true).raise 5 (POS_EVENTS_REFERENCE c)).obsStart c tf)) ∧
  (∀ (s : State) (c : Fin 16), (s.pch c).runs = true → (s.posMode c = 1 ∨ s.posMode c = 2) → 4 * (s.pch c).interval ≤
    (s.tb.ticks : Int) - (s.pch c).lastUpd → exec (.observerUpdate c) s = .next (s.obsUpdate c (s.count c) (nsT
    ((s.tb.ticks : Int) - (s.pch c).lastUpd)) s.nowI)) ∧
  (∀ (s : State), s.publishers = [] → exec (.posPublish) s = .next (s)) ∧
  (∀ (s : State), s.publishers ≠ [] → exec (.posPublish) s = .next (s.pubStates.foldl (fun x p => x.holdOwn p.2.1
    s.pubTime p.2.2) ((s.noteAnchor.sillSendRole 2 s.posBurst).sillSendRole 3 s.posBurst))) ∧
  (∀ (s : State) (c : Fin 16) (d : ObsDue), (s.pch c).runs = true → (s.pch c).due.find? (fun d => decide (d.due ≤
    s.nowI)) = some d → exec (.posStateInForce c) s = .next ((s.modPch c (fun p =>
    { p with due := p.due.erase d })).putInForce c d.st)) ∧
  (∀ (s : State) (c : Fin 16) (k : Nat), (s.pch c).runs = true → s.posMode c = 4 → (s.pch c).lastFrame = some k →
    s.flag (POS_STATUS_STALE c) = false → k + 4000 ≤ s.tb.ticks → exec (.followerStale c) s = .next ((((((s.putB
    (POS_STATUS_STALE c) true).modPch c (fun p => { p with warmFrames := 0 })).setWarm c false).bump (POS_CNT_STALE
    c)).raise 5 (POS_EVENTS_STALE c)).logC 0x2041 c 0)) ∧
  (∀ (s : State) (c : Fin 16) (k : Nat), (s.pch c).runs = true → s.flag (POS_SILL_CFG_PUBLISH c) = true → s.flag
    (POS_STATUS_CARRIED c) = false → (s.pch c).lastFrame = some k → s.flag (POS_STATUS_STALE c) = false → k + 4000 ≤
    s.tb.ticks → exec (.followerStale c) s = .next ((((((s.putB (POS_STATUS_STALE c) true).modPch c (fun p =>
    { p with warmFrames := 0 })).setWarm c false).bump (POS_CNT_STALE c)).raise 5 (POS_EVENTS_STALE c)).logC 0x2041 c
    0))

/-- Each clause below holds for every state and all operands that meet its hypotheses, and concludes that exec of the
  command answers exactly the next state written in it. In the near-end loopback of TEST a lane hears itself
  (hearsSelf) and its receive balls are ignored. (1) LOS_SET in any state but OFF, ACTIVE and IDLE, where the lane
  does not hear itself: LOS, counted. (2) LOS_SET in ACTIVE: LOS, counted, and the lane leaves with departure code
  0x1103 and starts anew (restart). (3) LOS_SET in OFF or IDLE: LOS alone. (4) LOS_SET while LOS stands, or while the
  lane hears itself: nothing. (5) LOS_CLEAR in IDLE: the lane goes to WAKE without locks. (6) LOS_CLEAR in ABSENT: a
  session starts with S5 as its ceiling. (7) LOS_CLEAR in any other state: LOS alone. (8) LOS_CLEAR without LOS, or
  while the lane hears itself: nothing. (9) LOL_SET outside ACTIVE: LOL alone. (10) LOL_SET in ACTIVE: LOL, and the
  lane leaves with departure code 0x1104 and starts anew. (11) LOL_CLEAR: LOL ends. (12) RELOCK_TIMEOUT in a relock
  of ACTIVE: the lane leaves with departure code 0x1104 and starts anew. (13) EXIT_TIMEOUT in WAKE: lane event 5,
  counted, logged 0x1108, and the lane leaves with departure code 0x110C. (14) ABSENT_WAIT_EXPIRY in ABSENT: a
  session starts. (15) MARGIN_BURST_END: the burst of adaptation ends. (R104, R105, R106, R107, R111, R119, R122,
  R126) -/
def Obligations.LaneDetectorsComplete : Prop :=
  (∀ (s : State) (l : Fin 96), s.flag (LANE_STATUS_LOS l) = false → s.hearsSelf l = false → s.laneState l ≠ 0 →
    s.laneState l ≠ 6 → s.laneState l ≠ 7 → exec (.losSet l) s = .next ((s.putB (LANE_STATUS_LOS l) true).bump
    (LANE_CNT_LOS l))) ∧
  (∀ (s : State) (l : Fin 96), s.flag (LANE_STATUS_LOS l) = false → s.laneState l = 6 → exec (.losSet l) s = .next
    (((s.putB (LANE_STATUS_LOS l) true).bump (LANE_CNT_LOS l)).restart l 0x1103 0)) ∧
  (∀ (s : State) (l : Fin 96), s.flag (LANE_STATUS_LOS l) = false → (s.laneState l = 0 ∨ s.laneState l = 7) → exec
    (.losSet l) s = .next (s.putB (LANE_STATUS_LOS l) true)) ∧
  (∀ (s : State) (l : Fin 96), (s.flag (LANE_STATUS_LOS l) = true ∨ s.hearsSelf l = true) → exec (.losSet l) s =
    .next (s)) ∧
  (∀ (s : State) (l : Fin 96), s.flag (LANE_STATUS_LOS l) = true → s.laneState l = 7 → exec (.losClear l) s = .next
    (((s.putB (LANE_STATUS_LOS l) false).setLane l 8).clearLocks l)) ∧
  (∀ (s : State) (l : Fin 96), s.flag (LANE_STATUS_LOS l) = true → s.laneState l = 9 → exec (.losClear l) s = .next
    ((s.putB (LANE_STATUS_LOS l) false).session l 5)) ∧
  (∀ (s : State) (l : Fin 96), s.flag (LANE_STATUS_LOS l) = true → s.hearsSelf l = false → s.laneState l ≠ 7 →
    s.laneState l ≠ 9 → exec (.losClear l) s = .next (s.putB (LANE_STATUS_LOS l) false)) ∧
  (∀ (s : State) (l : Fin 96), (s.flag (LANE_STATUS_LOS l) = false ∨ s.hearsSelf l = true) → exec (.losClear l) s =
    .next (s)) ∧
  (∀ (s : State) (l : Fin 96), s.flag (LANE_STATUS_LOL l) = false → s.laneState l ≠ 6 → exec (.lolSet l) s = .next
    (s.putB (LANE_STATUS_LOL l) true)) ∧
  (∀ (s : State) (l : Fin 96), s.flag (LANE_STATUS_LOL l) = false → s.laneState l = 6 → exec (.lolSet l) s = .next
    ((s.putB (LANE_STATUS_LOL l) true).restart l 0x1104 0)) ∧
  (∀ (s : State) (l : Fin 96), exec (.lolClear l) s = .next (s.putB (LANE_STATUS_LOL l) false)) ∧
  (∀ (s : State) (l : Fin 96), s.laneState l = 6 → (s.lphy l).relock.isSome = true → exec (.relockTimeout l) s =
    .next (s.restart l 0x1104 0)) ∧
  (∀ (s : State) (l : Fin 96), s.laneState l = 8 → exec (.exitTimeout l) s = .next ((((s.laneEvent l 5).bump
    (LANE_CNT_EXITFAIL l)).logC 0x1108 l 0).restart l 0x110C 0)) ∧
  (∀ (s : State) (l : Fin 96), s.laneState l = 9 → exec (.absentWaitExpiry l) s = .next (s.session l 5)) ∧
  (∀ (s : State) (l : Fin 96), exec (.marginBurstEnd l) s = .next (s.modPhy l (fun x => { x with burst := false })))

/-- Each clause below holds for every state and all operands that meet its hypotheses, and concludes that exec of the
  command answers exactly the next state written in it. (1) LANE_PLL_LOCK in RESET without test mode: PLL_LOCK, and a
  session starts. (2) LANE_PLL_LOCK in RESET with TEST_EN: PLL_LOCK, TEST with the transmit settings as written, at
  MAX_GRADE, S5 at most, and the transmit taps start. (3) LANE_PLL_LOSS in any state but OFF: the lane leaves what it
  does with departure code 0x110C, lane event 6 and 0x1109, goes to RESET at S0 without its locks, and its session's
  hidden state starts anew. (4) LANE_PLL_LOSS in OFF: nothing. (5) BLOCK_LOCK_GAIN on a Tenon lane in a session:
  BLOCK_LOCK, and the search for ALIGN starts. (6) BLOCK_LOCK_GAIN on an Ethernet lane without FEC in SEEK:
  BLOCK_LOCK, and the lane goes to ACTIVE (laneActive). (7) BLOCK_LOCK_LOSS with 16 or more invalid headers: they and
  the loss are counted, both locks clear, and the loss acts as lockLost says. (8) BLOCK_LOCK_LOSS with fewer: they
  are counted. (9) ALIGN_MISS on a locked single Tenon lane in ACTIVE, of the first or second in a row: lane event 7,
  and one more missed. (10) ALIGN_MISS on any locked Tenon lane outside IDLE and WAKE: the slot of the ALIGN passes,
  and the miss counts (alignMissed). (11) ALIGN_SEND in ACTIVE, IDLE or WAKE without an injection and without a
  pending switch: the ALIGN block leaves and the sequence number rises by 1 modulo 16. (12) ALIGN_SEND in ACTIVE with
  INJECT in mode 4: byte 7 is wrong in its lowest bit, and INJECT clears. (13) ALIGN_SEND in SEEK to STEP without a
  pending switch: the ALIGN block leaves, then the TRAIN blocks up to the next one (trainRound). (14) ALIGN_SEND in
  SEEK to STEP with a pending switch of the transmitter: the ALIGN block leaves, then the switch is made. (15)
  ALIGN_RECEIVE at its expected place on a locked single lane in ACTIVE: INFO is held and no miss stands. (16)
  ALIGN_RECEIVE at an unexpected place on a locked lane in ACTIVE: it counts as a missed one and is otherwise
  ignored. (17) ALIGN_RECEIVE where no ALIGN reaches the receiver (hearsAlign): nothing. (R101, R102, R103, R104,
  R108, R109, R113, R114, R125, R127, R143, R161) -/
def Obligations.LaneLocksComplete : Prop :=
  (∀ (s : State) (l : Fin 96), s.laneState l = 1 → s.flag (LANE_TEST_EN l) = false → exec (.lanePllLock l) s = .next
    ((s.putB (LANE_STATUS_PLL_LOCK l) true).session l 5)) ∧
  (∀ (s : State) (l : Fin 96) (x : State), s.laneState l = 1 → s.flag (LANE_TEST_EN l) = true → x = ((s.putB
    (LANE_STATUS_PLL_LOCK l) true).setLane l 10).latch [LANE_TRAIN_CFG l] → exec (.lanePllLock l) s = .next ((x.put
    (LANE_STATUS_GRADE l) (min 5 (x.get (LANE_CTRL_MAX_GRADE l)))).startFir l)) ∧
  (∀ (s : State) (l : Fin 96), s.laneState l ≠ 0 → exec (.lanePllLoss l) s = .next ((((((((((s.laneOut l 0x110C
    5).laneEvent l 6).logC 0x1109 l 0).setLane l 1).put (LANE_STATUS_GRADE l) 0).clearLocks l).putB
    (LANE_STATUS_PLL_LOCK l) false).putB (LANE_STATUS_FROZEN l) false).putB (LANE_STATUS_CHK_LOCK l) false).modPhy l
    (fun x => { x.fresh with absentCycle := x.absentCycle, reqSeq := x.reqSeq }))) ∧
  (∀ (s : State) (l : Fin 96), s.laneState l = 0 → exec (.lanePllLoss l) s = .next (s)) ∧
  (∀ (s : State) (l : Fin 96) (x : State), 2 ≤ s.laneState l → s.laneState l < 9 → s.flag (LANE_STATUS_BLOCK_LOCK l)
    = false → x = (s.putB (LANE_STATUS_BLOCK_LOCK l) true).modPhy l (fun x =>
    { x with alignSeen := false, alignMiss := 0 }) → x.laneEth l = false → exec (.blockLockGain l) s = .next (x)) ∧
  (∀ (s : State) (l : Fin 96) (x : State), s.laneState l = 2 → s.flag (LANE_STATUS_BLOCK_LOCK l) = false → x =
    (s.putB (LANE_STATUS_BLOCK_LOCK l) true).modPhy l (fun x => { x with alignSeen := false, alignMiss := 0 }) →
    x.laneEth l = true → x.laneState l = 2 → x.get (ETH_CFG_FEC l) = 0 → exec (.blockLockGain l) s = .next
    (x.laneActive l)) ∧
  (∀ (s : State) (l : Fin 96) (n : Nat), s.flag (LANE_STATUS_BLOCK_LOCK l) = true → 16 ≤ n → exec (.blockLockLoss l
    n) s = .next ((((s.bumpBy (LANE_CNT_SYNCERR l) n).bump (LANE_CNT_LOCKLOSS l)).clearLocks l).lockLost l)) ∧
  (∀ (s : State) (l : Fin 96) (n : Nat), s.flag (LANE_STATUS_BLOCK_LOCK l) = true → n < 16 → exec (.blockLockLoss l
    n) s = .next (s.bumpBy (LANE_CNT_SYNCERR l) n)) ∧
  (∀ (s : State) (l : Fin 96) (x : State), s.flag (LANE_STATUS_ALIGN_LOCK l) = true → s.laneState l = 6 → s.bondW l =
    1 → s.laneEth l = false → x = (s.laneEvent l 7).modPhy l (fun x => { x with alignMiss := x.alignMiss + 1 }) →
    (x.lphy l).alignMiss < 3 → exec (.alignMiss l) s = .next (x)) ∧
  (∀ (s : State) (l : Fin 96), s.flag (LANE_STATUS_ALIGN_LOCK l) = true → s.laneEth l = false → s.laneState l ≠ 7 →
    s.laneState l ≠ 8 → exec (.alignMiss l) s = .next ((s.alignSlot l (((s.lphy l).rxAlignInfo / 16 + 1) %
    16)).alignMissed l)) ∧
  (∀ (s : State) (l : Fin 96), 6 ≤ s.laneState l → s.laneState l < 9 → s.lanePers l = 1 → s.flag (LANE_TEST_INJECT l)
    = false → (s.lphy l).txSwitch = none → exec (.alignSend l) s = .next ((s.emit (.block l true (s.alignBlock l
    0xFF))).modPhy l (fun x => { x with alignSeq := (x.alignSeq + 1) % 16 }))) ∧
  (∀ (s : State) (l : Fin 96), s.laneState l = 6 → s.lanePers l = 1 → s.flag (LANE_TEST_INJECT l) = true → s.get
    (LANE_TEST_INJ_MODE l) = 4 → (s.lphy l).txSwitch = none → exec (.alignSend l) s = .next (((s.emit (.block l true
    (s.alignBlock l 0xFE))).modPhy l (fun x => { x with alignSeq := (x.alignSeq + 1) % 16 })).putB (LANE_TEST_INJECT
    l) false)) ∧
  (∀ (s : State) (l : Fin 96), 2 ≤ s.laneState l → s.laneState l ≤ 5 → s.lanePers l = 1 → s.flag (LANE_TEST_INJECT l)
    = false → (s.lphy l).txSwitch = none → exec (.alignSend l) s = .next (((s.emit (.block l true (s.alignBlock l
    0xFF))).modPhy l (fun x => { x with alignSeq := (x.alignSeq + 1) % 16 })).trainRound l)) ∧
  (∀ (s : State) (l : Fin 96) (g : Nat), 2 ≤ s.laneState l → s.laneState l ≤ 5 → s.lanePers l = 1 → s.flag
    (LANE_TEST_INJECT l) = false → (s.lphy l).txSwitch = some g → exec (.alignSend l) s = .next (((s.emit (.block l
    true (s.alignBlock l 0xFF))).modPhy l (fun x => { x with alignSeq := (x.alignSeq + 1) % 16 })).switchTx l)) ∧
  (∀ (s : State) (l : Fin 96) (info : Fin 256), s.laneState l = 6 → s.flag (LANE_STATUS_FROZEN l) = false → (s.lphy
    l).idleRun = 0 → s.flag (LANE_STATUS_BLOCK_LOCK l) = true → s.flag (LANE_STATUS_ALIGN_LOCK l) = true → (s.lphy
    l).pers = 1 → s.bondW l = 1 → (s.lphy l).rxSwitch = none → exec (.alignReceive l info true) s = .next ((s.modPhy
    l (fun x => { x with rxAlignInfo := info + 256 })).modPhy l (fun x =>
    { x with alignMiss := 0, relock := none }))) ∧
  (∀ (s : State) (l : Fin 96) (info : Fin 256), s.laneState l = 6 → s.flag (LANE_STATUS_FROZEN l) = false → (s.lphy
    l).idleRun = 0 → s.flag (LANE_STATUS_BLOCK_LOCK l) = true → s.flag (LANE_STATUS_ALIGN_LOCK l) = true → (s.lphy
    l).pers = 1 → exec (.alignReceive l info false) s = .next (s.alignMissed l)) ∧
  (∀ (s : State) (l : Fin 96) (info : Fin 256) (p : Bool), s.hearsAlign l = false → exec (.alignReceive l info p) s =
    .next (s))

/-- Each clause below holds for every state and all operands that meet its hypotheses, and concludes that exec of the
  command answers exactly the next state written in it. (1) STEP_TIMEOUT in SEEK, EXCHANGE or STEP, or in EQUALISE
  while it waits for the latency or a switch: the wait has failed (waitFail). (2) EQUALISE_LIMIT at a grade reached
  by a step, where the device is ready itself: the wait has failed. (3) EQUALISE_LIMIT at a grade reached by a step,
  where it is not: STEP_DOWN to the grade below. (4) EQUALISE_LIMIT at a grade not reached by a step: STEP_DOWN with
  the present grade, and the CTLE and DFE start anew. (5) EQUALISE_LOW_MARGIN_END at a grade reached by a step:
  STEP_DOWN to the grade below. (6) EQUALISE_LOW_MARGIN_END at a grade not reached by a step: STEP_DOWN with the
  present grade, and the CTLE and DFE start anew. (7) EQUALISE_READY with both margins at their thresholds or above:
  READY, the STATUS is sent, and the training goes on (progress). (8) TRAIN_BLOCK_RECEIVE with a good CHECK in ACTIVE
  with both locks: the event PARTNER_RESTART, 0x1221, and the lane leaves with departure code 0x110C and starts anew.
  (9) TRAIN_BLOCK_RECEIVE with a good CHECK in SEEK to STEP: its content is taken (trainContent) and the training
  goes on. (10) TRAIN_BLOCK_RECEIVE with a wrong CHECK in SEEK to STEP: discarded and counted (badCheck). (11)
  EYE_MONITOR_CHECK in ACTIVE with both margins at their thresholds or above: the measures are taken and published
  (eyeTake) and no low check stands. (12) EYE_MONITOR_CHECK with a low margin, the first or second in a row: the
  measures are published, one more low check, a burst of adaptation begins and is counted, lane event 4, and 0x1106.
  (13) EYE_MONITOR_CHECK with the third low margin in a row on a Tenon lane: 0x1107, and the lane leaves with
  departure code 0x110C and starts anew. (14) EYE_MONITOR_CHECK with the third low margin in a row on an Ethernet
  lane: it leaves with departure code 0x110C, 0x1107, and a session starts. (15) EQUALISER_FREEZE in ACTIVE without
  FREEZE_DIS, on an Ethernet lane or after 4,096 idle blocks: FROZEN. (R104, R109, R110, R118, R119, R134, R136,
  R137) -/
def Obligations.LaneTrainingComplete : Prop :=
  (∀ (s : State) (l : Fin 96), s.laneEth l = false → 2 ≤ s.laneState l → s.laneState l ≤ 5 → (s.laneState l ≠ 4 ∨
    (s.lphy l).lat = true ∨ (s.lphy l).txSwitch.isSome = true ∨ (s.lphy l).rxSwitch.isSome = true) → exec
    (.stepTimeout l) s = .next (s.waitFail l)) ∧
  (∀ (s : State) (l : Fin 96), s.laneState l = 4 → s.laneEth l = false → (s.lphy l).lat = false → (s.lphy l).txSwitch
    = none → (s.lphy l).byStep = true → (s.lphy l).ready = true → exec (.equaliseLimit l) s = .next (s.waitFail l)) ∧
  (∀ (s : State) (l : Fin 96), s.laneState l = 4 → s.laneEth l = false → (s.lphy l).lat = false → (s.lphy l).txSwitch
    = none → (s.lphy l).byStep = true → (s.lphy l).ready = false → exec (.equaliseLimit l) s = .next (s.stepDown l
    (s.get (LANE_STATUS_GRADE l) - 1))) ∧
  (∀ (s : State) (l : Fin 96), s.laneState l = 4 → s.laneEth l = false → (s.lphy l).lat = false → (s.lphy l).txSwitch
    = none → (s.lphy l).byStep = false → exec (.equaliseLimit l) s = .next ((s.stepDown l (s.get (LANE_STATUS_GRADE
    l))).eqStart l)) ∧
  (∀ (s : State) (l : Fin 96), s.laneState l = 4 → s.laneEth l = false → (s.lphy l).partnerReady = true → (s.lphy
    l).ready = false → (s.lphy l).txSwitch = none → (s.lphy l).byStep = true → exec (.equaliseLowMarginEnd l) s =
    .next (s.stepDown l (s.get (LANE_STATUS_GRADE l) - 1))) ∧
  (∀ (s : State) (l : Fin 96), s.laneState l = 4 → s.laneEth l = false → (s.lphy l).partnerReady = true → (s.lphy
    l).ready = false → (s.lphy l).txSwitch = none → (s.lphy l).byStep = false → exec (.equaliseLowMarginEnd l) s =
    .next ((s.stepDown l (s.get (LANE_STATUS_GRADE l))).eqStart l)) ∧
  (∀ (s : State) (l : Fin 96) (v h : Nat), s.laneState l = 4 → s.laneEth l = false → s.get (LANE_TRAIN_CFG_MARGIN_V
    l) ≤ v → s.get (LANE_TRAIN_CFG_MARGIN_H l) ≤ h → exec (.equaliseReady l v h) s = .next (((s.modPhy l (fun x =>
    { x with ready := true })).sendStatus l).progress l)) ∧
  (∀ (s : State) (l : Fin 96) (b : Block), s.laneState l = 6 → s.rxOpen l = true → s.lanePers l = 1 → s.flag
    (LANE_STATUS_BLOCK_LOCK l) = true → s.flag (LANE_STATUS_FROZEN l) = false → (s.lphy l).idleRun = 0 → blockByte b
    0 = 0x20 → checkOk b = true → exec (.trainBlockReceive l b) s = .next (((s.raise 1 (TENON_EVENTS_PARTNER_RESTART
    (s.boss l))).logC 0x1221 l 0).restart l 0x110C 2)) ∧
  (∀ (s : State) (l : Fin 96) (b : Block), 2 ≤ s.laneState l → s.laneState l ≤ 5 → s.lanePers l = 1 → s.flag
    (LANE_STATUS_BLOCK_LOCK l) = true → s.flag (LANE_STATUS_FROZEN l) = false → (s.lphy l).idleRun = 0 → blockByte b
    0 = 0x20 → checkOk b = true → exec (.trainBlockReceive l b) s = .next ((s.trainContent l b).progress l)) ∧
  (∀ (s : State) (l : Fin 96) (b : Block), 2 ≤ s.laneState l → s.laneState l ≤ 5 → s.lanePers l = 1 → s.flag
    (LANE_STATUS_BLOCK_LOCK l) = true → s.flag (LANE_STATUS_FROZEN l) = false → (s.lphy l).idleRun = 0 → blockByte b
    0 = 0x20 → checkOk b = false → exec (.trainBlockReceive l b) s = .next (s.badCheck l)) ∧
  (∀ (s : State) (l : Fin 96) (v h ctle : Nat) (dfe : Word) (x : State), s.laneState l = 6 → x = s.eyeTake l v h ctle
    dfe → x.get (LANE_TRAIN_CFG_MARGIN_V l) ≤ v → x.get (LANE_TRAIN_CFG_MARGIN_H l) ≤ h → exec (.eyeMonitorCheck l v
    h ctle dfe) s = .next (x.modPhy l (fun x => { x with lowChecks := 0 }))) ∧
  (∀ (s : State) (l : Fin 96) (v h ctle : Nat) (dfe : Word) (x : State), s.laneState l = 6 → x = s.eyeTake l v h ctle
    dfe → (v < x.get (LANE_TRAIN_CFG_MARGIN_V l) ∨ h < x.get (LANE_TRAIN_CFG_MARGIN_H l)) → (x.lphy l).lowChecks < 2
    → exec (.eyeMonitorCheck l v h ctle dfe) s = .next ((((x.modPhy l (fun x =>
    { x with lowChecks := x.lowChecks + 1, burst := true })).bump (LANE_CNT_BURST l)).laneEvent l 4).logOnce 0x1106 l
    l 0)) ∧
  (∀ (s : State) (l : Fin 96) (v h ctle : Nat) (dfe : Word) (x : State), s.laneState l = 6 → x = s.eyeTake l v h ctle
    dfe → (v < x.get (LANE_TRAIN_CFG_MARGIN_V l) ∨ h < x.get (LANE_TRAIN_CFG_MARGIN_H l)) → 2 ≤ (x.lphy l).lowChecks
    → x.laneEth l = false → exec (.eyeMonitorCheck l v h ctle dfe) s = .next ((x.logC 0x1107 l 0).restart l 0x110C
    4)) ∧
  (∀ (s : State) (l : Fin 96) (v h ctle : Nat) (dfe : Word) (x : State), s.laneState l = 6 → x = s.eyeTake l v h ctle
    dfe → (v < x.get (LANE_TRAIN_CFG_MARGIN_V l) ∨ h < x.get (LANE_TRAIN_CFG_MARGIN_H l)) → 2 ≤ (x.lphy l).lowChecks
    → x.laneEth l = true → exec (.eyeMonitorCheck l v h ctle dfe) s = .next (((x.laneOut l 0x110C 4).logC 0x1107 l
    0).session l 5)) ∧
  (∀ (s : State) (l : Fin 96), s.laneState l = 6 → s.flag (LANE_CTRL_FREEZE_DIS l) = false → (s.laneEth l = true ∨
    4096 ≤ (s.lphy l).idleRun) → exec (.equaliserFreeze l) s = .next (s.putB (LANE_STATUS_FROZEN l) true))

/-- Each clause below holds for every state and all operands that meet its hypotheses, and concludes that exec of the
  command answers exactly the next state written in it. (1) EIDLE_RECEIVE of a block of TYPE 0x58 with a good CHECK:
  EIDLE arrives (rxArrive). (2) EIDLE_RECEIVE of a block of TYPE 0x58 with a wrong CHECK: a bad block arrives. (3)
  EIDLE_RECEIVE on a single lane in ACTIVE that is up with both locks: the block after a bad one counts as good, and
  EIDLE acts as rxEidle says. (4) IDLE_BLOCK_RECEIVE of one or more blocks in ACTIVE with both locks: they arrive and
  add to the run of idle blocks. (5) IDLE_BLOCK_RECEIVE on a single lane in ACTIVE that is up with both locks: the
  block after a bad one counts as good, and the run of idle blocks grows by their number. (6) PRBS_PUBLISH while the
  checker runs on the receive balls and has locked: the generator's bits pass, the totals take the bits and errors
  and are published. (7) PRBS_PUBLISH while no checker runs: the generator's bits pass alone. (8) CHECKER_LOCK where
  the checker can lock, the first time: CHK_LOCK, and the totals start at 0. (9) CHECKER_LOCK later: CHK_LOCK alone.
  (10) CHECKER_RESEED where the checker can lock: counted, and CHK_LOCK clears. (R10, R11, R104, R119, R124, R125,
  R126, R132, R160, R161) -/
def Obligations.LaneIdleAndTestComplete : Prop :=
  (∀ (s : State) (l : Fin 96) (b : Block), blockByte b 0 = 0x58 → checkOk b = true → exec (.eidleReceive l b) s =
    .next (s.rxArrive l .eidle)) ∧
  (∀ (s : State) (l : Fin 96) (b : Block), blockByte b 0 = 0x58 → checkOk b = false → exec (.eidleReceive l b) s =
    .next (s.rxArrive l .bad)) ∧
  (∀ (s : State) (l : Fin 96) (b : Block), s.laneState l = 6 → s.tenUp l = true → s.rxOpen l = true → s.flag
    (LANE_STATUS_FROZEN l) = false → (s.lphy l).idleRun = 0 → s.bondW l = 1 → blockByte b 0 = 0x58 → checkOk b = true
    → exec (.eidleReceive l b) s = .next ((s.goodCtl l).rxEidle l)) ∧
  (∀ (s : State) (l : Fin 96) (n : Nat) (x : State), n ≠ 0 → s.rxOpen l = true → s.laneState l = 6 → x = s.rxArrive l
    (.idle n) → exec (.idleBlockReceive l n) s = .next (x.modPhy l (fun x => { x with idleRun := x.idleRun + n }))) ∧
  (∀ (s : State) (l : Fin 96) (n : Nat), s.receivesAlone l → n ≠ 0 → exec (.idleBlockReceive l n) s = .next
    ((s.goodCtl l).modPhy l (fun x => { x with idleRun := x.idleRun + n }))) ∧
  (∀ (s : State) (l : Fin 96) (n e : Nat) (x y : State), x = (s.generate l).modPhy l (fun p =>
    { p with inverted := 0 }) → x.checks l = true → (s.generate l).hearsSelf l = false → (x.lphy l).chkOn = true → y
    = x.modPhy l (fun p => { p with chkBits := p.chkBits + n, chkErrs := p.chkErrs + e }) → exec (.prbsPublish l n e)
    s = .next (((y.wr64 (LANE_PRBS_BITS l) (y.lphy l).chkBits).wrN (LANE_PRBS_ERR l) (min (y.lphy l).chkErrs
    0xFFFFFFFF)).publish (LANE_PRBS_STATUS l))) ∧
  (∀ (s : State) (l : Fin 96) (n e : Nat) (x : State), x = (s.generate l).modPhy l (fun p =>
    { p with inverted := 0 }) → x.checks l = false → exec (.prbsPublish l n e) s = .next (x)) ∧
  (∀ (s : State) (l : Fin 96), s.canLock l = true → (s.lphy l).chkOn = false → exec (.checkerLock l) s = .next
    ((s.putB (LANE_STATUS_CHK_LOCK l) true).modPhy l (fun x =>
    { x with chkOn := true, chkBits := 0, chkErrs := 0 }))) ∧
  (∀ (s : State) (l : Fin 96), s.canLock l = true → (s.lphy l).chkOn = true → exec (.checkerLock l) s = .next (s.putB
    (LANE_STATUS_CHK_LOCK l) true)) ∧
  (∀ (s : State) (l : Fin 96), s.canLock l = true → exec (.checkerReseed l) s = .next ((s.bump (LANE_CNT_CHKRESYNC
    l)).putB (LANE_STATUS_CHK_LOCK l) false))

/-- Each clause below holds for every state and all operands that meet its hypotheses, and concludes that exec of the
  command answers exactly the next state written in it. "Arrives" is rxArrive: a block counts on a lane or bond that
  is up with both locks, goes to the bond's interleave, or takes effect at once on a lane that receives alone
  (receivesAlone); "between tiles" is betweenTiles. (1) SOT_RECEIVE of a block of TYPE 0x30 with a good CHECK: an SOT
  arrives. (2) SOT_RECEIVE of a block of TYPE 0x30 with a wrong CHECK: a bad block arrives. (3) SOT_RECEIVE with a
  good CHECK on a lane that receives alone, between tiles and between lines: a new header is begun, TILE_OPEN shows,
  nothing is discarded any more. (4) TILE_HEADER_RECEIVE of 8 blocks whose CRC is wrong: counted, logged 0x1230, and
  the tile is rejected. (5) TILE_HEADER_RECEIVE of a good CRC for a new line, with a field at fault: the tile is
  rejected, with a violation of reason 5 that carries the field's offset. (6) TILE_HEADER_RECEIVE of good fields
  whose trigger is not outstanding: the tile is rejected, with a violation of reason 8 that carries the trigger's
  lower 16 bits. (7) TILE_HEADER_RECEIVE of good fields for the oldest outstanding trigger, without dropped lines,
  where a ledger entry is to be had: the line begins with the trigger's tag, the blocks of the header enter the
  queue, and the tile takes its entry (tryAccept). (8) TILE_HEADER_RECEIVE of fewer than 8 blocks: nothing. (9)
  LEDGER_ENTRY_GRANT on a Tenon lane whose header can now be accepted, with nothing behind it: the tile takes its
  entry. (10) LEDGER_ENTRY_GRANT on a Tenon lane for whose header there is none still: nothing. (11)
  LEDGER_ENTRY_GRANT on an Ethernet lane without waiting FILL tiles: the open blocks take entries for the tiles that
  have packets, and those tiles hold their bytes. (12) PAYLOAD_BLOCK_RECEIVE: a data block arrives. (13)
  PAYLOAD_BLOCK_RECEIVE within the credit on a lane that receives alone, inside a header that is not complete: it is
  counted as received and joins the header. (14) PAYLOAD_BLOCK_RECEIVE on a lane that receives alone, between tiles:
  counted as discarded, with a violation of reason 2. (15) EOT_RECEIVE of a block of TYPE 0x31 with a good CHECK: an
  EOT arrives. (16) EOT_RECEIVE of a block of TYPE 0x31 with a wrong CHECK: a bad block arrives. (17) EOT_RECEIVE
  with a good CHECK on a lane that receives alone, between tiles: a violation of reason 4. (18) EOT_RECEIVE with a
  good CHECK on a lane that receives alone, for an open tile whose payload is complete and matches PAYLOAD_CRC,
  without CAM_ABORT: the tile ends whole. (19) CONTROL_BLOCK_BAD_CHECK on a lane that receives alone: discarded and
  counted (badCheck). (20) CONTROL_BLOCK_BAD_CHECK in SEEK to STEP with BLOCK_LOCK: a block that is not idle came,
  and is discarded and counted. (21) CONTROL_BLOCK_BAD_CHECK of a block whose CHECK is right: nothing. (22)
  UNKNOWN_TYPE_RECEIVE of a TYPE that no camera sends with a good CHECK: an unknown block arrives. (23)
  UNKNOWN_TYPE_RECEIVE of such a TYPE with a wrong CHECK: a bad block arrives. (24) UNKNOWN_TYPE_RECEIVE with a good
  CHECK on a lane that receives alone, between tiles: a violation of reason 1. (R24, R132, R133, R144, R145, R146,
  R149, R150, R152, R153) -/
def Obligations.TenonTilesComplete : Prop :=
  (∀ (s : State) (l : Fin 96) (b : Block), blockByte b 0 = 0x30 → checkOk b = true → exec (.sotReceive l b) s = .next
    (s.rxArrive l .sot)) ∧
  (∀ (s : State) (l : Fin 96) (b : Block), blockByte b 0 = 0x30 → checkOk b = false → exec (.sotReceive l b) s =
    .next (s.rxArrive l .bad)) ∧
  (∀ (s : State) (l : Fin 96) (b : Block), s.receivesAlone l → s.betweenTiles l → (s.lten l).hdrIn = 0 → (s.lten
    l).items = [] → (s.lten l).asm_ = none → blockByte b 0 = 0x30 → checkOk b = true → exec (.sotReceive l b) s =
    .next ((((s.dropHdr l).modTen l (fun x => { x with discard := 0, lastBad := 0 })).modTen l (fun x =>
    { x with hdr := some [], badInTile := false })).putBond l TENON_STATUS_TILE_OPEN 1)) ∧
  (∀ (s : State) (l : Fin 96) (bl : List Block), (s.lten (s.boss l)).hdr = some bl → bl.length = 8 → crc32c
    ((bl.flatMap blockBytes).take 60) ≠ bytesAt (bl.flatMap blockBytes) 60 4 → exec (.tileHeaderReceive l) s = .next
    (((s.bump (TENON_CNT_HDRCRC (s.boss l))).logC 0x1230 (s.boss l) 0).rejectTile (s.boss l))) ∧
  (∀ (s : State) (l : Fin 96) (bl : List Block) (o : Nat), (s.lten (s.boss l)).hdr = some bl → bl.length = 8 → crc32c
    ((bl.flatMap blockBytes).take 60) = bytesAt (bl.flatMap blockBytes) 60 4 → (s.lten (s.boss l)).asm_ = none →
    headerFault (bl.flatMap blockBytes) (s.laneFmt (s.boss l)) (s.linePixels (s.boss l)) none = some o → exec
    (.tileHeaderReceive l) s = .next ((s.rejectTile (s.boss l)).violate (s.boss l) 0x05 o)) ∧
  (∀ (s : State) (l : Fin 96) (bl : List Block), (s.lten (s.boss l)).hdr = some bl → bl.length = 8 → crc32c
    ((bl.flatMap blockBytes).take 60) = bytesAt (bl.flatMap blockBytes) 60 4 → (s.lten (s.boss l)).asm_ = none →
    headerFault (bl.flatMap blockBytes) (s.laneFmt (s.boss l)) (s.linePixels (s.boss l)) none = none → (s.outstanding
    (s.boss l)).find? (fun (u : Trigger) => u.id == (headerOf (bl.flatMap blockBytes)).trigId) = none → exec
    (.tileHeaderReceive l) s = .next ((s.rejectTile (s.boss l)).violate (s.boss l) 0x08 ((headerOf (bl.flatMap
    blockBytes)).trigId % 65536))) ∧
  (∀ (s : State) (l : Fin 96) (bl : List Block) (u : Trigger) (x : State), (s.lten (s.boss l)).hdr = some bl →
    bl.length = 8 → crc32c ((bl.flatMap blockBytes).take 60) = bytesAt (bl.flatMap blockBytes) 60 4 → (s.lten (s.boss
    l)).asm_ = none → headerFault (bl.flatMap blockBytes) (s.laneFmt (s.boss l)) (s.linePixels (s.boss l)) none =
    none → (headerOf (bl.flatMap blockBytes)).dropped = 0 → (s.outstanding (s.boss l)).head? = some u → u.id =
    (headerOf (bl.flatMap blockBytes)).trigId → x = (((s.modTen (s.boss l) (fun y => { y with
    asm_ := some ⟨u.id, (headerOf (bl.flatMap blockBytes)).count, 0, 0, s.tagOf u u.tc true, [], false⟩ })).modTen
    (s.boss l) (fun y =>
    { y with hdr := none, hdrIn := 0, wait := some (headerOf (bl.flatMap blockBytes)) })).queuePut (s.boss l) (8 -
    (s.lten (s.boss l)).hdrIn)).tryAccept (s.boss l) → (x.lten (s.boss l)).wait = none → exec (.tileHeaderReceive l)
    s = .next (x)) ∧
  (∀ (s : State) (l : Fin 96) (bl : List Block), (s.lten (s.boss l)).hdr = some bl → bl.length < 8 → exec
    (.tileHeaderReceive l) s = .next (s)) ∧
  (∀ (s : State) (l : Fin 96) (h : TileHdr) (x : State), s.laneEth l = false → (s.lten (s.boss l)).fills = [] →
    (s.lten (s.boss l)).wait = some h → x = s.tryAccept (s.boss l) → (x.lten (s.boss l)).wait = none → (x.lten
    (s.boss l)).items = [] → exec (.ledgerEntryGrant l) s = .next (x.modTen (s.boss l) (fun y =>
    { y with items := [] }))) ∧
  (∀ (s : State) (l : Fin 96) (h : TileHdr) (a : LineAsm), s.laneEth l = false → (s.lten (s.boss l)).fills = [] →
    (s.lten (s.boss l)).wait = some h → (s.lten (s.boss l)).asm_ = some a → s.entryFor (s.laneStreams (s.boss l)) =
    none → exec (.ledgerEntryGrant l) s = .next (s)) ∧
  (∀ (s : State) (l : Fin 96), s.laneEth l = true → (s.lten l).fills = [] → exec (.ledgerEntryGrant l) s = .next
    ((s.leth l).blocks.foldl (fun s b => (s.ethEntries l b.id).ethRaws l b.id) s)) ∧
  (∀ (s : State) (l : Fin 96) (b : Block), exec (.payloadBlockReceive l b) s = .next (s.rxArrive l (.data b))) ∧
  (∀ (s : State) (l : Fin 96) (b : Block) (h : List Block), s.receivesAlone l → (s.lten l).cur = none → (s.lten
    l).wait = none → (s.lten l).hdr = some h → h.length < 8 → (decide (sext 16 (trunc 16 (((s.lten l).limitSent :
    Int) - ceilDiv ((s.lten l).received + 1) 32)) < 0)) = false → exec (.payloadBlockReceive l b) s = .next
    ((s.modTen l (fun x => { x with received := x.received + 1 })).modTen l (fun x =>
    { x with hdr := some (h ++ [b]), hdrIn := x.hdrIn + 0 }))) ∧
  (∀ (s : State) (l : Fin 96) (b : Block), s.receivesAlone l → s.betweenTiles l → exec (.payloadBlockReceive l b) s =
    .next ((s.bump (TENON_CNT_DISCARD l)).violate l 0x02 0)) ∧
  (∀ (s : State) (l : Fin 96) (b : Block), blockByte b 0 = 0x31 → checkOk b = true → exec (.eotReceive l b) s = .next
    (s.rxArrive l (.eot b))) ∧
  (∀ (s : State) (l : Fin 96) (b : Block), blockByte b 0 = 0x31 → checkOk b = false → exec (.eotReceive l b) s =
    .next (s.rxArrive l .bad)) ∧
  (∀ (s : State) (l : Fin 96) (b : Block), s.receivesAlone l → s.betweenTiles l → blockByte b 0 = 0x31 → checkOk b =
    true → exec (.eotReceive l b) s = .next ((s.modTen l (fun x => { x with lastBad := 0 })).violate l 0x04 0)) ∧
  (∀ (s : State) (l : Fin 96) (b : Block) (n : Nat) (u : Tile), s.receivesAlone l → (s.lten l).hdr = none → (s.lten
    l).wait = none → (s.lten l).cur = some n → (s.lten l).excess = false → s.tile n = some u → ceilDiv u.bytes 8 ≤
    (s.lten l).payload → crc32c u.raw = getBits b.toNat 16 32 → bit (blockByte b 1) 0 = false → blockByte b 0 = 0x31
    → checkOk b = true → exec (.eotReceive l b) s = .next ((s.modTen l (fun x => { x with lastBad := 0 })).endTile l
    false)) ∧
  (∀ (s : State) (l : Fin 96) (b : Block), checkOk b = false → s.lanePers l = 1 → s.flag (LANE_STATUS_BLOCK_LOCK l) =
    true → s.receivesAlone l → exec (.controlBlockBadCheck l b) s = .next (s.badCheck l)) ∧
  (∀ (s : State) (l : Fin 96) (b : Block), checkOk b = false → s.lanePers l = 1 → 2 ≤ s.laneState l → s.laneState l ≤
    5 → s.flag (LANE_STATUS_BLOCK_LOCK l) = true → exec (.controlBlockBadCheck l b) s = .next ((s.rxBlock l
    false).badCheck l)) ∧
  (∀ (s : State) (l : Fin 96) (b : Block), checkOk b = true → exec (.controlBlockBadCheck l b) s = .next (s)) ∧
  (∀ (s : State) (l : Fin 96) (b : Block), blockByte b 0 ∉ cameraTypes → checkOk b = true → exec (.unknownTypeReceive
    l b) s = .next (s.rxArrive l .unknown)) ∧
  (∀ (s : State) (l : Fin 96) (b : Block), blockByte b 0 ∉ cameraTypes → checkOk b = false → exec
    (.unknownTypeReceive l b) s = .next (s.rxArrive l .bad)) ∧
  (∀ (s : State) (l : Fin 96) (b : Block), s.receivesAlone l → s.betweenTiles l → blockByte b 0 ∉ cameraTypes →
    checkOk b = true → exec (.unknownTypeReceive l b) s = .next ((s.modTen l (fun x =>
    { x with lastBad := 0 })).violate l 0x01 0))

/-- Each clause below holds for every state and all operands that meet its hypotheses, and concludes that exec of the
  command answers exactly the next state written in it. "Arrives" is rxArrive, as in the statement about tiles. (1)
  VIOL_RECEIVE of a block of TYPE 0x7F with a good CHECK: it arrives. (2) VIOL_RECEIVE of a block of TYPE 0x7F with a
  wrong CHECK: a bad block arrives. (3) VIOL_RECEIVE with a good CHECK on a lane that receives alone, between tiles:
  counted, PARTNER_VIOL raised, and 0x1245 with the reason and DETAIL. (4) CREDIT_REFRESH on the position-0 lane of a
  lane or bond that is up: a CREDIT block leaves (sendCredit). (5) LECHO_RECEIVE with a good CHECK during the
  measurement, of the probe outstanding: one result, from the stamp less IN_ASYM, the probe's egress and TURN
  (latResult). (6) LECHO_RECEIVE with a wrong CHECK during the measurement: discarded and counted. (7) LECHO_RECEIVE
  with a good CHECK on a lane that receives alone, between tiles, of the probe outstanding: one result in the same
  way. (8) PROBE_TIMEOUT of an outstanding probe on a lane that is up or measures: a probe leaves with the next
  number (sendProbe). (9) LATENCY_MEASURE_TIMEOUT during the measurement: no probe is outstanding, and the wait has
  failed. (10) LAT_TRACK_PROBE with LAT_TRACK on the position-0 lane of a lane or bond that is up: a probe leaves.
  (11) BOND_FORM with equal sequence numbers at every member and a skew of at most 32: SKEW shows at every member,
  the bond is up (tenonUp), and BOND_UP is raised. (12) BOND_FORM with equal sequence numbers and a larger skew:
  0x1234, and every member leaves with departure code 0x110C and starts a session. (13) BOND_DESKEW_TIMEOUT of a bond
  that waits to form: the same. (14) CTRL_GO of a read with no request outstanding on a lane that is up: the tag and
  address are outstanding, CTRL_BUSY and GO show, and the CTRL_READ block leaves. (15) CTRL_GO with no request
  outstanding on a lane that is not up: the access completes with code 9. (16) CTRL_GO while a request is
  outstanding: counted as refused. (17) CTRL_RSP_RECEIVE of a block of TYPE 0x72 with a good CHECK: it arrives. (18)
  CTRL_RSP_RECEIVE of a block of TYPE 0x72 with a wrong CHECK: a bad block arrives. (19) CTRL_RSP_RECEIVE with a good
  CHECK on a lane that receives alone, between tiles, with the tag and address of the write outstanding: the access
  completes with the result. (20) CTRL_RSP_RECEIVE likewise for a read outstanding, with the result OK and a value
  block of the right form: the access completes with that value. (21) CTRL_TIMEOUT of a request outstanding: 0x1240,
  and the access completes with code 8. (22) VIOL_DEFERRED_SEND of a reason whose block was held back: it leaves with
  the latest DETAIL and the window's count. (23) VIOL_WINDOW_END on a Tenon lane while it or a member of its bond is
  up: the counts of the window start anew. (R138, R139, R140, R143, R145, R154, R155, R159, R162, R164, R165, R250)
  -/
def Obligations.TenonControlComplete : Prop :=
  (∀ (s : State) (l : Fin 96) (b : Block), blockByte b 0 = 0x7F → checkOk b = true → exec (.violReceive l b) s =
    .next (s.rxArrive l (.viol b))) ∧
  (∀ (s : State) (l : Fin 96) (b : Block), blockByte b 0 = 0x7F → checkOk b = false → exec (.violReceive l b) s =
    .next (s.rxArrive l .bad)) ∧
  (∀ (s : State) (l : Fin 96) (b : Block), s.receivesAlone l → s.betweenTiles l → blockByte b 0 = 0x7F → checkOk b =
    true → exec (.violReceive l b) s = .next ((((s.modTen l (fun x => { x with lastBad := 0 })).bump
    (TENON_CNT_VIOL_RX l)).raise 1 (TENON_EVENTS_PARTNER_VIOL l)).logOnce 0x1245 l l (blockByte b 1 * 65536 +
    blockByte b 2 + 256 * blockByte b 3))) ∧
  (∀ (s : State) (l : Fin 96), s.tenUp l = true → s.boss l = l.val → exec (.creditRefresh l) s = .next (s.sendCredit
    l)) ∧
  (∀ (s : State) (l : Fin 96) (b : Block) (ago : Nat) (o : Int), s.lanePers l = 1 → s.flag (LANE_STATUS_BLOCK_LOCK l)
    = true → (s.lphy l).lat = true → blockByte b 0 = 0x61 → checkOk b = true → (s.lten l).probeOut = some o → (s.lten
    l).probeNum = blockByte b 1 → exec (.lechoReceive l b ago) s = .next (s.latResult l (s.nowI - ago - sext 32
    (s.rdN (TB_LANE_IN_ASYM l)) * 256 - o - (blockByte b 2 + 256 * blockByte b 3 + 65536 * blockByte b 4 : Nat) *
    8192))) ∧
  (∀ (s : State) (l : Fin 96) (b : Block) (ago : Nat), s.lanePers l = 1 → s.flag (LANE_STATUS_BLOCK_LOCK l) = true →
    (s.lphy l).lat = true → blockByte b 0 = 0x61 → checkOk b = false → exec (.lechoReceive l b ago) s = .next
    (s.badCheck l)) ∧
  (∀ (s : State) (l : Fin 96) (b : Block) (ago : Nat) (o : Int), s.receivesAlone l → s.betweenTiles l → s.lanePers l
    = 1 → s.flag (LANE_STATUS_BLOCK_LOCK l) = true → (s.lphy l).lat = false → blockByte b 0 = 0x61 → checkOk b = true
    → (s.lten l).probeOut = some o → (s.lten l).probeNum = blockByte b 1 → exec (.lechoReceive l b ago) s = .next
    ((s.modTen l (fun x => { x with lastBad := 0 })).latResult l (s.nowI - ago - sext 32 (s.rdN (TB_LANE_IN_ASYM l))
    * 256 - o - (blockByte b 2 + 256 * blockByte b 3 + 65536 * blockByte b 4 : Nat) * 8192))) ∧
  (∀ (s : State) (l : Fin 96), (s.lten l).probeOut.isSome = true → (s.tenUp l = true ∨ (s.lphy l).lat = true) → exec
    (.probeTimeout l) s = .next (s.sendProbe l)) ∧
  (∀ (s : State) (l : Fin 96), (s.lphy l).lat = true → exec (.latencyMeasureTimeout l) s = .next ((s.modTen l (fun x
    => { x with probeOut := none })).waitFail l)) ∧
  (∀ (s : State) (l : Fin 96), s.tenUp l = true → s.boss l = l.val → s.flagT l (TENON_CFG_LAT_TRACK l) = true → exec
    (.latTrackProbe l) s = .next (s.sendProbe l)) ∧
  (∀ (s : State) (l : Fin 96) (skew : Nat), s.bondReady (s.boss l) = true → (∀ m ∈ s.members (s.boss l), 256 ≤
    (s.lphy m).rxAlignInfo ∧ (s.lphy m).rxAlignInfo / 16 = (s.lphy (s.boss l)).rxAlignInfo / 16) → skew ≤ 32 → exec
    (.bondForm l skew) s = .next (((s.putBond (s.boss l) TENON_STATUS_SKEW skew).tenonUp (s.boss l)).raise 1
    (TENON_EVENTS_BOND_UP (s.boss l)))) ∧
  (∀ (s : State) (l : Fin 96) (skew : Nat), s.bondReady (s.boss l) = true → (∀ m ∈ s.members (s.boss l), 256 ≤
    (s.lphy m).rxAlignInfo ∧ (s.lphy m).rxAlignInfo / 16 = (s.lphy (s.boss l)).rxAlignInfo / 16) → 32 < skew → exec
    (.bondForm l skew) s = .next ((s.members (s.boss l)).foldl (fun s m => (s.depart m 0x110C 6).session m 5) (s.logC
    0x1234 (s.boss l) 0))) ∧
  (∀ (s : State) (l : Fin 96), s.bondReady (s.boss l) = true → exec (.bondDeskewTimeout l) s = .next ((s.members
    (s.boss l)).foldl (fun s m => (s.depart m 0x110C 6).session m 5) (s.logC 0x1234 (s.boss l) 0))) ∧
  (∀ (s : State) (l : Fin 96) (x : State), s.held = false → s.boss l = l.val → (s.lten l).ctrl = none → s.flag
    (TENON_CTRL_CMD_WRITE l) = false → x = ((s.modTen l (fun x => { x with
    ctrl := some ((s.lten l).nextTag, s.get (TENON_CTRL_ADDR_ADDR l), false),
    nextTag := ((s.lten l).nextTag + 1) % 256 })).putB (TENON_CTRL_CMD_GO l) true).putBond l TENON_STATUS_CTRL_BUSY 1
    → x.tenUp l = true → exec (.ctrlGo l) s = .next (x.emit (.block l true (ctlBlock 0x70 (toBytes 1 (s.lten
    l).nextTag ++ toBytes 2 (s.get (TENON_CTRL_ADDR_ADDR l))))))) ∧
  (∀ (s : State) (l : Fin 96) (x : State), s.held = false → s.boss l = l.val → (s.lten l).ctrl = none → x =
    ((s.modTen l (fun x => { x with
    ctrl := some ((s.lten l).nextTag, s.get (TENON_CTRL_ADDR_ADDR l), s.flag (TENON_CTRL_CMD_WRITE l)),
    nextTag := ((s.lten l).nextTag + 1) % 256 })).putB (TENON_CTRL_CMD_GO l) true).putBond l TENON_STATUS_CTRL_BUSY 1
    → x.tenUp l = false → exec (.ctrlGo l) s = .next (x.ctrlDone l 9 0)) ∧
  (∀ (s : State) (l : Fin 96), s.held = false → s.boss l = l.val → (s.lten l).ctrl.isSome = true → exec (.ctrlGo l) s
    = .next (s.bump (TENON_CNT_CTRL_REFUSED l))) ∧
  (∀ (s : State) (l : Fin 96) (b : Block) (v : Option Block), blockByte b 0 = 0x72 → checkOk b = true → exec
    (.ctrlRspReceive l b v) s = .next (s.rxArrive l (.rsp b v))) ∧
  (∀ (s : State) (l : Fin 96) (b : Block) (v : Option Block), blockByte b 0 = 0x72 → checkOk b = false → exec
    (.ctrlRspReceive l b v) s = .next (s.rxArrive l .bad)) ∧
  (∀ (s : State) (l : Fin 96) (b : Block) (v : Option Block) (tg a : Nat), s.receivesAlone l → s.betweenTiles l →
    blockByte b 0 = 0x72 → checkOk b = true → (s.lten l).ctrl = some (tg, a, true) → tg = blockByte b 1 → a =
    blockByte b 3 + 256 * blockByte b 4 → exec (.ctrlRspReceive l b v) s = .next ((s.modTen l (fun x =>
    { x with lastBad := 0 })).ctrlDone l (blockByte b 2 % 16) 0)) ∧
  (∀ (s : State) (l : Fin 96) (b v : Block) (tg a : Nat), s.receivesAlone l → s.betweenTiles l → blockByte b 0 = 0x72
    → checkOk b = true → (s.lten l).ctrl = some (tg, a, false) → tg = blockByte b 1 → a = blockByte b 3 + 256 *
    blockByte b 4 → blockByte b 2 = 0 → valueBlock b (getBits v.toNat 0 32) = v → exec (.ctrlRspReceive l b (some v))
    s = .next ((s.modTen l (fun x => { x with lastBad := 0 })).ctrlDone l 0 (getBits v.toNat 0 32))) ∧
  (∀ (s : State) (l : Fin 96), (s.lten l).ctrl.isSome = true → exec (.ctrlTimeout l) s = .next ((s.logC 0x1240 l
    0).ctrlDone l 8 0)) ∧
  (∀ (s : State) (l : Fin 96) (r n d : Nat) (ls : Option Nat), (s.lten l).viols.find? (fun (v : ViolRun) => v.reason
    == r) = some ⟨r, n, ls, some d⟩ → exec (.violDeferredSend l r) s = .next ((s.modTen l (fun x => { x with
    viols := x.viols.map (fun (v : ViolRun) => if v.reason == r then { v with lastSent := some s.tb.ticks, heldDetail := none } else v) })).sendViol
    l r d n)) ∧
  (∀ (s : State) (l : Fin 96), (s.members l).any s.laneUp = true → s.lanePers l = 1 → exec (.violWindowEnd l) s =
    .next (s.modTen l (fun x => { x with
    viols := x.viols.map (fun (v : ViolRun) => { v with count := 0 }), violTotal := 0, limitHit := false })))

/-- Each clause below holds for every state and all operands that meet its hypotheses, and concludes that exec of the
  command answers exactly the next state written in it. The launch instant tl is the stamp of the slot less the
  lane's EG_ASYM. (1) TRIG_LAUNCH without a trigger handed over: nothing. (2) TRIG_LAUNCH on a lane that is not up,
  or while OUTPUT_COMMIT is 0: the trigger is reported not sent. (3) TRIG_LAUNCH on a lane that is up, of a trigger
  at or after tl within 16,383 steps of 125 ps, with fewer than 64 outstanding: the TRIG block leaves with the fine
  delay rounded to the nearest step, is counted, and the trigger's instant becomes the one sent. (4) TRIG_LAUNCH of a
  trigger further ahead than that: nothing. (5) TRIG_LAUNCH of a trigger before tl, with fewer than 64 outstanding:
  it leaves with no fine delay, is counted as sent and as late, and is reported late. (6) TRIG_AGE_EXPIRY of an
  outstanding trigger on a Tenon lane that assembles no line: it is retired, counted, raised, logged 0x1241 and
  reported unserved. (7) TRIG_AGE_EXPIRY of the trigger of the line that is assembled, with no tile open: the line
  closes. (8) TRIG_AGE_EXPIRY of the trigger of the line that is assembled, inside a tile: the line is marked to
  close when the tile ends. (9) TRIG_AGE_EXPIRY on an Ethernet lane of a trigger without a block: it is reported
  unserved there. (10) TRIG_AGE_EXPIRY on an Ethernet lane of a trigger with an open block: the block closes with
  0x1310. (R107, R150, R153, R157, R179, R181, R250) -/
def Obligations.TenonTriggersComplete : Prop :=
  (∀ (s : State) (l : Fin 96) (ago : Nat), s.nextLaunch l = none → exec (.trigLaunch l ago) s = .next (s)) ∧
  (∀ (s : State) (l : Fin 96) (ago : Nat) (tr : Trigger), s.nextLaunch l = some tr → (s.tenUp l = false ∨ s.outCommit
    = false) → exec (.trigLaunch l ago) s = .next (s.reportNotSent tr)) ∧
  (∀ (s : State) (l : Fin 96) (ago : Nat) (tr : Trigger) (tl : Int) (n : Nat), s.nextLaunch l = some tr → s.tenUp l =
    true → s.boss l = l.val → s.outCommit = true → tl = s.nowI - ago - sext 32 (s.rdN (TB_LANE_EG_ASYM l)) * 256 → 0
    ≤ tr.tf - tl → tr.tf - tl ≤ 16383 * 8192 → n = min 16383 ((2 * (tr.tf - tl) + 8192) / 16384).toNat →
    (s.outstanding l).length < 64 → exec (.trigLaunch l ago) s = .next ((((s.sendCtl l 0x50 (toBytes 2 (tr.kind % 4 *
    16384 + n) ++ toBytes 4 tr.id)).bump (TENON_CNT_TRIG l)).modTrigs (fun ts => ts.map (fun (u : Trigger) => if u.id
    == tr.id then { u with sent := true, tf := tl + n * 8192, tc := tl + n * 8192 + u.lead } else u))).showCommitted
    tr.seq)) ∧
  (∀ (s : State) (l : Fin 96) (ago : Nat) (tr : Trigger) (tl : Int), s.nextLaunch l = some tr → s.tenUp l = true →
    s.boss l = l.val → s.outCommit = true → tl = s.nowI - ago - sext 32 (s.rdN (TB_LANE_EG_ASYM l)) * 256 → 16383 *
    8192 < tr.tf - tl → exec (.trigLaunch l ago) s = .next (s)) ∧
  (∀ (s : State) (l : Fin 96) (ago : Nat) (tr : Trigger) (tl : Int) (x : State), s.nextLaunch l = some tr → s.tenUp l
    = true → s.boss l = l.val → s.outCommit = true → tl = s.nowI - ago - sext 32 (s.rdN (TB_LANE_EG_ASYM l)) * 256 →
    tr.tf - tl < 0 → x = ((((s.sendCtl l 0x50 (toBytes 2 (tr.kind % 4 * 16384 + 0) ++ toBytes 4 tr.id)).bump
    (TENON_CNT_TRIG l)).bump (TENON_CNT_TRIG_LATE l)).reportLate tr) → (x.outstanding l).length < 64 → exec
    (.trigLaunch l ago) s = .next ((x.modTrigs (fun ts => ts.map (fun (u : Trigger) => if u.id == tr.id then
    { u with sent := true, tf := tl + (0 : Nat) * 8192, tc := tl + (0 : Nat) * 8192 + u.lead } else
    u))).showCommitted tr.seq)) ∧
  (∀ (s : State) (l : Fin 96) (i : Nat) (tr : Trigger), s.laneEth l = false → (s.outstanding l).find? (fun (t :
    Trigger) => t.id == i) = some tr → (s.lten l).asm_ = none → exec (.trigAgeExpiry l i) s = .next ((((s.bump
    (TENON_CNT_UNSERVED l)).raise 1 (TENON_EVENTS_UNSERVED l)).logC 0x1241 l tr.id).reportUnserved tr)) ∧
  (∀ (s : State) (l : Fin 96) (i : Nat) (tr : Trigger) (a : LineAsm), s.laneEth l = false → (s.outstanding l).find?
    (fun (t : Trigger) => t.id == i) = some tr → (s.lten l).asm_ = some a → a.trigId = i → (s.lten l).cur = none →
    (s.lten l).hdr = none → (s.lten l).wait = none → exec (.trigAgeExpiry l i) s = .next (s.closeLine l)) ∧
  (∀ (s : State) (l : Fin 96) (i : Nat) (tr : Trigger) (a : LineAsm), s.laneEth l = false → (s.outstanding l).find?
    (fun (t : Trigger) => t.id == i) = some tr → (s.lten l).asm_ = some a → a.trigId = i → (s.lten l).cur.isSome =
    true → exec (.trigAgeExpiry l i) s = .next (s.modTen l (fun x =>
    { x with asm_ := some { a with aged := true } }))) ∧
  (∀ (s : State) (l : Fin 96) (i : Nat) (tr : Trigger), s.laneEth l = true → (s.ethOut l).find? (fun (t : Trigger) =>
    t.id == i) = some tr → (s.leth l).blocks.find? (fun (b : EthBlock) => b.trigId == i) = none → exec
    (.trigAgeExpiry l i) s = .next (s.ethUnserved l tr)) ∧
  (∀ (s : State) (l : Fin 96) (i : Nat) (tr : Trigger) (b : EthBlock), s.laneEth l = true → (s.ethOut l).find? (fun
    (t : Trigger) => t.id == i) = some tr → (s.leth l).blocks.find? (fun (b : EthBlock) => b.trigId == i) = some b →
    exec (.trigAgeExpiry l i) s = .next (s.ethClose l b.id 0x1310 true))

/-- Each clause below holds for every state and all operands that meet its hypotheses, and concludes that exec of the
  command answers exactly the next state written in it. (1) ETH_FRAME_RECEIVE with a wrong FCS, no block
  uncorrectable: corrections counted, the equaliser adapts again, counted, logged 0x1302. (2) ETH_FRAME_RECEIVE of 64
  to 9,216 bytes with the FCS, correct, that passes the filter and finds room: counted as a frame alone. (3)
  ETH_FRAME_RECEIVE of such a frame that the filter discards: counted as filtered too. (4) ETH_FRAME_RECEIVE of such
  a frame that passes the filter and finds no room: counted, raised and logged 0x1320 as an overflow too. (5)
  ETH_FRAME_RECEIVE of a shorter or longer frame with a correct FCS: counted as a frame and in ETH_CNT_FCS. (6)
  GVSP_LEADER_RECEIVE of the first block, with one outstanding trigger, without TS_MATCH and TS_USE, and with fields
  that pass: the block opens for that trigger, with its tag. (7) GVSP_LEADER_RECEIVE of the first block without an
  outstanding trigger: the block is dropped, counted, raised and logged 0x1313 as unmatched. (8) GVSP_LEADER_RECEIVE
  without extended IDs: counted as filtered. (9) GVSP_LEADER_RECEIVE of a block ID at or below the last one: counted
  as stale. (10) GVSP_PAYLOAD_RECEIVE of the first packet of a block that is not complete with it: it joins the
  block, tiles take entries and hold their bytes, the queue shows them. (11) GVSP_PAYLOAD_RECEIVE of the answer that
  a packet cannot be sent again: it is noted, and the wait may end (ethUnwait). (12) GVSP_PAYLOAD_RECEIVE without
  extended IDs: counted as filtered. (13) GVSP_PAYLOAD_RECEIVE for a block that is not open, at or below the last ID:
  counted as stale. (14) GVSP_TRAILER_RECEIVE of an open block: it has ended, and what is missing is detected
  (ethDetect). (15) GVSP_TRAILER_RECEIVE without extended IDs: counted as filtered. (16) RESEND_WAIT_EXPIRY of an
  open block: no request is waited for, a block that was not waiting has ended, and what is missing is detected.
  (R24, R119, R170, R171, R173, R178, R179, R180, R181) -/
def Obligations.EthernetBlocksComplete : Prop :=
  (∀ (s : State) (l : Fin 96) (f : List Byte) (corr : Nat), s.ethUp l = true → exec (.ethFrameReceive l f false corr
    0) s = .next ((((s.bumpBy (ETH_CNT_FEC_CORR l) corr).putB (LANE_STATUS_FROZEN l) false).bump (ETH_CNT_FCS
    l)).ethLog l 0x1302)) ∧
  (∀ (s : State) (l : Fin 96) (f : List Byte) (corr : Nat) (x : State), s.ethUp l = true → 60 ≤ f.length → f.length ≤
    9212 → x = ((s.bumpBy (ETH_CNT_FEC_CORR l) corr).putB (LANE_STATUS_FROZEN l) false).bump (ETH_CNT_FRAMES l) →
    x.frameOkFor l f = true → (x.lten l).queue * 8 + f.length ≤ 65536 → exec (.ethFrameReceive l f true corr 0) s =
    .next (x)) ∧
  (∀ (s : State) (l : Fin 96) (f : List Byte) (corr : Nat) (x : State), s.ethUp l = true → 60 ≤ f.length → f.length ≤
    9212 → x = ((s.bumpBy (ETH_CNT_FEC_CORR l) corr).putB (LANE_STATUS_FROZEN l) false).bump (ETH_CNT_FRAMES l) →
    x.frameOkFor l f = false → exec (.ethFrameReceive l f true corr 0) s = .next (x.bump (ETH_CNT_FILTERED l))) ∧
  (∀ (s : State) (l : Fin 96) (f : List Byte) (corr : Nat) (x : State), s.ethUp l = true → 60 ≤ f.length → f.length ≤
    9212 → x = ((s.bumpBy (ETH_CNT_FEC_CORR l) corr).putB (LANE_STATUS_FROZEN l) false).bump (ETH_CNT_FRAMES l) →
    x.frameOkFor l f = true → 65536 < (x.lten l).queue * 8 + f.length → exec (.ethFrameReceive l f true corr 0) s =
    .next (((x.bump (ETH_CNT_OVERFLOW l)).raise 1 (ETH_EVENTS_OVERFLOW l)).ethLog l 0x1320)) ∧
  (∀ (s : State) (l : Fin 96) (f : List Byte) (corr : Nat), s.ethUp l = true → (f.length < 60 ∨ 9212 < f.length) →
    exec (.ethFrameReceive l f true corr 0) s = .next (((((s.bumpBy (ETH_CNT_FEC_CORR l) corr).putB
    (LANE_STATUS_FROZEN l) false).bump (ETH_CNT_FRAMES l)).bump (ETH_CNT_FCS l)))) ∧
  (∀ (s : State) (l : Fin 96) (i : Nat) (h : Sys2Proof.Leader) (ts : Nat) (tr : Trigger) (x : State), s.ethUp l =
    true → s.ethBlk l i = none → (s.leth l).dropId = none → (s.leth l).lastId = none → x = s.modEth l (fun y =>
    { y with lastId := some i }) → x.ethFree l = [tr] → x.flagE l (ETH_CFG_TS_MATCH l) = false → x.flagE l
    (ETH_CFG_TS_USE l) = false → x.leaderOk l h = true → exec (.gvspLeaderReceive l true i h ts) s = .next (x.modEth
    l (fun y => { y with
    blocks := y.blocks ++ [⟨i, tr.id, x.tagOf tr tr.tc true, [], [], [], 0, false, [], false, false, List.replicate (x.ethTiles l) none⟩] }))) ∧
  (∀ (s : State) (l : Fin 96) (i : Nat) (h : Sys2Proof.Leader) (ts : Nat) (x : State), s.ethUp l = true → s.ethBlk l
    i = none → (s.leth l).dropId = none → (s.leth l).lastId = none → x = s.modEth l (fun y =>
    { y with lastId := some i }) → x.ethFree l = [] → x.leaderOk l h = true → exec (.gvspLeaderReceive l true i h ts)
    s = .next ((((x.modEth l (fun y => { y with dropId := some i })).bump (ETH_CNT_UNMATCHED l)).raise 1
    (ETH_EVENTS_UNMATCHED l)).ethLog l 0x1313)) ∧
  (∀ (s : State) (l : Fin 96) (i : Nat) (h : Sys2Proof.Leader) (ts : Nat), s.ethUp l = true → exec
    (.gvspLeaderReceive l false i h ts) s = .next (s.bump (ETH_CNT_FILTERED l))) ∧
  (∀ (s : State) (l : Fin 96) (i k : Nat) (h : Sys2Proof.Leader) (ts : Nat), s.ethUp l = true → s.ethBlk l i = none →
    (s.leth l).dropId = none → (s.leth l).lastId = some k → i ≤ k → exec (.gvspLeaderReceive l true i h ts) s = .next
    (s.bump (ETH_CNT_STALE l))) ∧
  (∀ (s : State) (l : Fin 96) (i pid : Nat) (data : List Byte) (b b' : EthBlock) (x : State), s.ethUp l = true →
    s.ethBlk l i = some b → b.pkts = [] → b.asked = [] → pid = 1 → 1 < s.ethPkts l → data.length = s.ethS l → x =
    (((s.modBlk l i (fun b => { b with pkts := b.pkts ++ [(pid, data)] })).ethEntries l i).ethRaws l i).ethRefill l →
    x.ethBlk l i = some b' → x.ethWhole l b' = false → b'.waiting = false → exec (.gvspPayloadReceive l true i pid
    data false) s = .next (x)) ∧
  (∀ (s : State) (l : Fin 96) (i pid : Nat) (data : List Byte), s.ethUp l = true → (s.ethBlk l i).isSome = true →
    exec (.gvspPayloadReceive l true i pid data true) s = .next ((s.modBlk l i (fun b =>
    { b with gone := b.gone ++ [pid] })).ethUnwait l i)) ∧
  (∀ (s : State) (l : Fin 96) (i pid : Nat) (data : List Byte) (u : Bool), s.ethUp l = true → exec
    (.gvspPayloadReceive l false i pid data u) s = .next (s.bump (ETH_CNT_FILTERED l))) ∧
  (∀ (s : State) (l : Fin 96) (i pid k : Nat) (data : List Byte) (u : Bool), s.ethUp l = true → s.ethBlk l i = none →
    (s.leth l).dropId = none → (s.leth l).lastId = some k → i ≤ k → exec (.gvspPayloadReceive l true i pid data u) s
    = .next (s.bump (ETH_CNT_STALE l))) ∧
  (∀ (s : State) (l : Fin 96) (i : Nat) (b : EthBlock), s.ethUp l = true → s.ethBlk l i = some b → exec
    (.gvspTrailerReceive l true i) s = .next ((s.modBlk l i (fun _ =>
    { b with trailer := true, ended := true })).ethDetect l i (firstRange ((s.modBlk l i (fun _ =>
    { b with trailer := true, ended := true })).ethMissing l { b with trailer := true, ended := true })))) ∧
  (∀ (s : State) (l : Fin 96) (i : Nat), s.ethUp l = true → exec (.gvspTrailerReceive l false i) s = .next (s.bump
    (ETH_CNT_FILTERED l))) ∧
  (∀ (s : State) (l : Fin 96) (i : Nat) (b b' : EthBlock), s.ethBlk l i = some b → b' =
    { b with waiting := false, ended := b.ended || !b.waiting } → exec (.resendWaitExpiry l i) s = .next ((s.modBlk l
    i (fun _ => b')).ethDetect l i (firstRange (s.ethMissing l b'))))

/-- Each clause below holds for every state and all operands that meet its hypotheses, and concludes that exec of the
  command answers exactly the next state written in it. A GVCP command is waited for when it is the first of the
  lane's list; gvcpIs says why it was sent (0 a setup step, 1 the heartbeat, 2 the poll of the synchronisation
  register). (1) CAMERA_SETUP on a lane that is up, not ready, and neither in setup nor waiting to retry: setup
  begins with ARP. (2) CAMERA_SETUP in step 1 once the camera's MAC address is known: step 2 begins. (3) CAMERA_SETUP
  in another step while its command is waited for: the next command goes out, and the acknowledgement acts as its
  step says (setupAck). (4) CAMERA_SETUP on a lane that is ready: nothing. (5) SETUP_RETRY_EXPIRY on a lane that
  waits to retry: setup begins again. (6) GVCP_ACK_TIMEOUT of a command tried at most twice: it goes out again. (7)
  GVCP_ACK_TIMEOUT of a command tried three times: it has failed (gvcpFailed). (8) GVCP_ACK_TIMEOUT with no command
  waited for: nothing. (9) CAMERA_SCRIPT_WAIT_EXPIRY in a wait of the script: the script goes on with its next
  record. (10) ARP_RETRY in step 1 without an answer: an ARP request leaves. (11) ARP_RETRY in step 1 without an
  answer at every tenth request: 0x1340 too. (12) ARP_REPLY_RECEIVE: the camera's MAC address is kept, and ARP_OK
  shows. (13) ARP_REQUEST_RECEIVE for LANE_IP: an ARP reply leaves. (14) ARP_REQUEST_RECEIVE for another address:
  nothing. (15) HEARTBEAT_READ with control held and no heartbeat under way: the read joins the lane's GVCP commands.
  (16) HEARTBEAT_READ while its read is waited for, with control confirmed: the next command goes out. (17)
  HEARTBEAT_READ while its read is waited for, with control refused: control is lost, the camera is not ready, and
  setup begins again. (18) CAM_SYNC_POLL with a status register and no poll under way: the read joins the lane's GVCP
  commands. (19) CAM_SYNC_POLL while its read is waited for, outside setup: the next command goes out, and CAM_SYNCED
  follows the value under its mask. (20) CAM_SYNC_POLL while its read is waited for, in step 6 of setup with the
  value that is asked for: the camera becomes ready too. (21) CAM_SYNC_DELAY_EXPIRY with PTP, a Delay_Req answered
  and no poll in the script, outside setup: CAM_SYNCED. (22) CAM_SYNC_DELAY_EXPIRY likewise in step 6 of setup: the
  camera becomes ready too. (R174, R175, R176, R177) -/
def Obligations.EthernetSetupComplete : Prop :=
  (∀ (s : State) (l : Fin 96) (ok : Bool) (v : Word), s.ethUp l = true → (s.leth l).retryWait = false → s.flag
    (ETH_STATUS_READY l) = false → (s.leth l).setup = false → exec (.cameraSetup l ok v) s = .next (s.setupBegin l)) ∧
  (∀ (s : State) (l : Fin 96) (ok : Bool) (v : Word), s.ethUp l = true → (s.leth l).retryWait = false → s.flag
    (ETH_STATUS_READY l) = false → (s.leth l).setup = true → s.get (ETH_STATUS_SETUP_STEP l) = 1 → s.flag
    (ETH_STATUS_ARP_OK l) = true → exec (.cameraSetup l ok v) s = .next (s.setupGoto l 2)) ∧
  (∀ (s : State) (l : Fin 96) (ok : Bool) (v : Word), s.ethUp l = true → (s.leth l).retryWait = false → s.flag
    (ETH_STATUS_READY l) = false → (s.leth l).setup = true → s.get (ETH_STATUS_SETUP_STEP l) ≠ 1 → s.gvcpIs l 0 =
    true → exec (.cameraSetup l ok v) s = .next ((s.gvcpNext l).setupAck l ok v.toNat)) ∧
  (∀ (s : State) (l : Fin 96) (ok : Bool) (v : Word), s.flag (ETH_STATUS_READY l) = true → exec (.cameraSetup l ok v)
    s = .next (s)) ∧
  (∀ (s : State) (l : Fin 96), s.ethUp l = true → (s.leth l).retryWait = true → exec (.setupRetryExpiry l) s = .next
    (s.setupBegin l)) ∧
  (∀ (s : State) (l : Fin 96), s.ethUp l = true → (s.leth l).gvcp ≠ [] → (s.leth l).tries < 2 → exec (.gvcpAckTimeout
    l) s = .next ((s.modEth l (fun x => { x with tries := x.tries + 1 })).gvcpSend l)) ∧
  (∀ (s : State) (l : Fin 96), s.ethUp l = true → (s.leth l).gvcp ≠ [] → 2 ≤ (s.leth l).tries → exec (.gvcpAckTimeout
    l) s = .next (s.gvcpFailed l)) ∧
  (∀ (s : State) (l : Fin 96), (s.leth l).gvcp = [] → exec (.gvcpAckTimeout l) s = .next (s)) ∧
  (∀ (s : State) (l : Fin 96), (s.leth l).scriptWait = true → exec (.cameraScriptWaitExpiry l) s = .next ((s.modEth l
    (fun x => { x with scriptWait := false, script := x.script + 1 })).setupScript l 4096)) ∧
  (∀ (s : State) (l : Fin 96), s.ethUp l = true → (s.leth l).setup = true → s.get (ETH_STATUS_SETUP_STEP l) = 1 →
    s.flag (ETH_STATUS_ARP_OK l) = false → ((s.leth l).arps + 1) % 10 ≠ 0 → exec (.arpRetry l) s = .next ((s.modEth l
    (fun x => { x with arps := x.arps + 1 })).ethSend l (.arp false (s.rdN (ETH_CAMERA_IP l))))) ∧
  (∀ (s : State) (l : Fin 96), s.ethUp l = true → (s.leth l).setup = true → s.get (ETH_STATUS_SETUP_STEP l) = 1 →
    s.flag (ETH_STATUS_ARP_OK l) = false → ((s.leth l).arps + 1) % 10 = 0 → exec (.arpRetry l) s = .next (((s.modEth
    l (fun x => { x with arps := x.arps + 1 })).ethSend l (.arp false (s.rdN (ETH_CAMERA_IP l)))).ethLog l 0x1340)) ∧
  (∀ (s : State) (l : Fin 96) (mac : Nat), s.ethUp l = true → exec (.arpReplyReceive l mac) s = .next ((s.wr64
    (ETH_CAM_MAC l) (mac % 2 ^ 48)).putB (ETH_STATUS_ARP_OK l) true)) ∧
  (∀ (s : State) (l : Fin 96) (ip : Word), s.ethUp l = true → ip = s.rd (ETH_LANE_IP l) → exec (.arpRequestReceive l
    ip) s = .next (s.ethSend l (.arp true ip.toNat))) ∧
  (∀ (s : State) (l : Fin 96) (ip : Word), s.ethUp l = true → ip ≠ s.rd (ETH_LANE_IP l) → exec (.arpRequestReceive l
    ip) s = .next (s)) ∧
  (∀ (s : State) (l : Fin 96) (ok : Bool), s.ethUp l = true → s.flag (ETH_STATUS_CTRL_HELD l) = true → (s.leth
    l).gvcp.any (fun (c : GvcpCmd) => c.why == 1) = false → s.gvcpIs l 1 = false → exec (.heartbeatRead l ok) s =
    .next (s.gvcpPush l 1 1 0x0938 0)) ∧
  (∀ (s : State) (l : Fin 96), s.ethUp l = true → s.flag (ETH_STATUS_CTRL_HELD l) = true → s.gvcpIs l 1 = true → exec
    (.heartbeatRead l true) s = .next (s.gvcpNext l)) ∧
  (∀ (s : State) (l : Fin 96), s.ethUp l = true → s.flag (ETH_STATUS_CTRL_HELD l) = true → s.gvcpIs l 1 = true → exec
    (.heartbeatRead l false) s = .next (((s.controlLost l).ethNotReady l).setupBegin l)) ∧
  (∀ (s : State) (l : Fin 96) (v : Word) (a m w : Nat), s.ethUp l = true → (s.leth l).syncReg = some (a, m, w) →
    s.gvcpIs l 2 = false → (s.leth l).gvcp.any (fun (c : GvcpCmd) => c.why == 2) = false → exec (.camSyncPoll l v) s
    = .next (s.gvcpPush l 2 1 a 0)) ∧
  (∀ (s : State) (l : Fin 96) (v : Word) (a m w : Nat) (x : State), s.ethUp l = true → (s.leth l).syncReg = some (a,
    m, w) → s.gvcpIs l 2 = true → x = (s.gvcpNext l).putB (ETH_STATUS_CAM_SYNCED l) (Nat.land v.toNat m == w) →
    (x.leth l).setup = false → exec (.camSyncPoll l v) s = .next (x)) ∧
  (∀ (s : State) (l : Fin 96) (v : Word) (a m w : Nat) (x : State), s.ethUp l = true → (s.leth l).syncReg = some (a,
    m, w) → s.gvcpIs l 2 = true → x = (s.gvcpNext l).putB (ETH_STATUS_CAM_SYNCED l) (Nat.land v.toNat m == w) →
    (x.leth l).setup = true → x.get (ETH_STATUS_SETUP_STEP l) = 6 → x.flag (ETH_STATUS_CAM_SYNCED l) = true → exec
    (.camSyncPoll l v) s = .next (x.setupReady l)) ∧
  (∀ (s : State) (l : Fin 96) (x : State), s.ethUp l = true → s.flagE l (ETH_CFG_PTP_EN l) = true → s.hasPoll l 4096
    0 = false → (s.leth l).dreq = true → x = s.putB (ETH_STATUS_CAM_SYNCED l) true → (x.leth l).setup = false → exec
    (.camSyncDelayExpiry l) s = .next (x)) ∧
  (∀ (s : State) (l : Fin 96) (x : State), s.ethUp l = true → s.flagE l (ETH_CFG_PTP_EN l) = true → s.hasPoll l 4096
    0 = false → (s.leth l).dreq = true → x = s.putB (ETH_STATUS_CAM_SYNCED l) true → (x.leth l).setup = true → x.get
    (ETH_STATUS_SETUP_STEP l) = 6 → exec (.camSyncDelayExpiry l) s = .next (x.setupReady l))

/-- Each clause below holds for every state and all operands that meet its hypotheses, and concludes that exec of the
  command answers exactly the next state written in it. A frame "joins those ready to be sent" by ethSend. (1)
  PTP_SYNC_SEND at a running port: a two-step Sync of PTP_DOMAIN joins those ready to be sent, and the sequence
  number rises by 1 modulo 65,536. (2) PTP_ANNOUNCE_SEND at a running port in CLASS 0: an Announce with clockClass
  248, clockAccuracy 0xFE and timeSource 0xA0. (3) PTP_ANNOUNCE_SEND in CLASS 1: clockClass 14, clockAccuracy 0xFE,
  timeSource 0xA0. (4) PTP_ANNOUNCE_SEND in CLASS 2: clockClass 13, clockAccuracy 0x22, and timeSource 0x20 or 0x90
  by a free value. (5) PTP_ANNOUNCE_SEND in CLASS 3: clockClass 13, clockAccuracy 0x21, timeSource 0x90. (6)
  DELAY_REQ_RECEIVE of PTP_DOMAIN at a running port: a Delay_Resp with the stamp less IN_ASYM joins those ready to be
  sent, and a first request has been answered. (7) DELAY_REQ_RECEIVE of another domain: nothing. (8) ACTION_CMD_SEND
  on a lane that cannot send: 0x1331, and the trigger is reported not sent. (9) ACTION_CMD_SEND on a lane that can,
  without PTP, with room in the camera's queue and for an instant far enough ahead: the ACTION_CMD for the instant
  rounded to whole ns joins those ready to be sent, is counted, and is outstanding. (10) ACTION_CMD_SEND while QUEUE
  commands are outstanding: nothing. (11) ACTION_TIME_PASS of a command whose trigger is gone: it is no longer
  outstanding. (12) ACTION_TIME_PASS of the oldest command once its action time has come: the same. (13)
  ACTION_TIME_PASS before its action time: nothing. (R182, R183, R184, R185, R243, R250) -/
def Obligations.EthernetTimeComplete : Prop :=
  (∀ (s : State) (l : Fin 96), s.ethUp l = true → (s.leth l).ptp = true → exec (.ptpSyncSend l) s = .next ((s.ethSend
    l (.ptp 0 (s.get (ETH_PTP_PTP_DOMAIN l)) (s.leth l).ptpSeq 0)).modEth l (fun x =>
    { x with ptpSeq := ((s.leth l).ptpSeq + 1) % 65536 }))) ∧
  (∀ (s : State) (l : Fin 96), s.ethUp l = true → (s.leth l).ptp = true → s.get TB_QUALITY_CLASS = 0 → exec
    (.ptpAnnounceSend l) s = .next ((s.ethSend l (.announce (s.get (ETH_PTP_PTP_DOMAIN l)) (s.leth l).annSeq 248 0xFE
    0xA0 (s.rdN TB_UTC_OFFSET) true)).modEth l (fun x => { x with annSeq := ((s.leth l).annSeq + 1) % 65536 }))) ∧
  (∀ (s : State) (l : Fin 96), s.ethUp l = true → (s.leth l).ptp = true → s.get TB_QUALITY_CLASS = 1 → exec
    (.ptpAnnounceSend l) s = .next ((s.ethSend l (.announce (s.get (ETH_PTP_PTP_DOMAIN l)) (s.leth l).annSeq 14 0xFE
    0xA0 (s.rdN TB_UTC_OFFSET) true)).modEth l (fun x => { x with annSeq := ((s.leth l).annSeq + 1) % 65536 }))) ∧
  (∀ (s : State) (l : Fin 96), s.ethUp l = true → (s.leth l).ptp = true → s.get TB_QUALITY_CLASS = 2 → exec
    (.ptpAnnounceSend l) s = .next ((s.free.2.ethSend l (.announce (s.get (ETH_PTP_PTP_DOMAIN l)) (s.leth l).annSeq
    13 0x22 (if s.free.1 % 2 = 0 then 0x20 else 0x90) (s.rdN TB_UTC_OFFSET) true)).modEth l (fun x =>
    { x with annSeq := ((s.leth l).annSeq + 1) % 65536 }))) ∧
  (∀ (s : State) (l : Fin 96), s.ethUp l = true → (s.leth l).ptp = true → s.get TB_QUALITY_CLASS = 3 → exec
    (.ptpAnnounceSend l) s = .next ((s.ethSend l (.announce (s.get (ETH_PTP_PTP_DOMAIN l)) (s.leth l).annSeq 13 0x21
    0x90 (s.rdN TB_UTC_OFFSET) true)).modEth l (fun x => { x with annSeq := ((s.leth l).annSeq + 1) % 65536 }))) ∧
  (∀ (s : State) (l : Fin 96) (d : Fin 256) (n ago : Nat), s.ethUp l = true → (s.leth l).ptp = true → d.val = s.get
    (ETH_PTP_PTP_DOMAIN l) → exec (.delayReqReceive l ⟨d, n⟩ ago) s = .next ((s.ethSend l (.ptp 3 d n (s.nowI - ago -
    sext 32 (s.rdN (TB_LANE_IN_ASYM l)) * 256))).modEth l (fun x => { x with dreq := true }))) ∧
  (∀ (s : State) (l : Fin 96) (d : Fin 256) (n ago : Nat), d.val ≠ s.get (ETH_PTP_PTP_DOMAIN l) → exec
    (.delayReqReceive l ⟨d, n⟩ ago) s = .next (s)) ∧
  (∀ (s : State) (l : Fin 96) (tr : Trigger), s.nextAction l = some tr → (s.ethUp l = false ∨ s.flagE l
    (ETH_CFG_ACT_EN l) = false ∨ s.outCommit = false ∨ s.flag (ETH_STATUS_READY l) = false) → exec (.actionCmdSend l)
    s = .next ((s.ethLog l 0x1331).reportNotSent tr)) ∧
  (∀ (s : State) (l : Fin 96) (tr : Trigger) (a : Int) (x y : State), s.nextAction l = some tr → s.ethUp l = true →
    s.flagE l (ETH_CFG_ACT_EN l) = true → s.outCommit = true → s.flag (ETH_STATUS_READY l) = true → s.flagE l
    (ETH_CFG_PTP_EN l) = false → (s.leth l).actOut.length < s.actQueue l → a = roundDiv tr.tf 65536 * 65536 → s.nowI
    + nsT (s.getE l (ETH_ACT_CFG_MIN_LEAD_US l) * 1000) ≤ a → x = (s.ethSend l (.action (tr.id % 65535 + 1) (s.rdE l
    (ETH_ACT_DEVKEY l)) (s.rdE l (ETH_ACT_GROUPKEY l)) (s.rdE l (ETH_ACT_GROUPMASK l)) (a / 65536).toNat)).bump
    (ETH_CNT_ACT l) → (x.ethFree l).length < 64 → y = (x.modTrigs (fun ts => ts.map (fun (u : Trigger) => if u.id ==
    tr.id then { u with sent := true, tf := a, actTime := a, tc := a + u.lead } else u))).modEth l (fun z =>
    { z with actOut := z.actOut ++ [tr.id] }) → exec (.actionCmdSend l) s = .next ((y.put (ETH_STATUS_ACT_OUT l)
    (y.leth l).actOut.length).showCommitted tr.seq)) ∧
  (∀ (s : State) (l : Fin 96) (tr : Trigger), s.nextAction l = some tr → s.ethUp l = true → s.flagE l (ETH_CFG_ACT_EN
    l) = true → s.outCommit = true → s.flag (ETH_STATUS_READY l) = true → s.flagE l (ETH_CFG_PTP_EN l) = false →
    s.actQueue l ≤ (s.leth l).actOut.length → exec (.actionCmdSend l) s = .next (s)) ∧
  (∀ (s : State) (l : Fin 96) (i : Nat) (r : List Nat), (s.leth l).actOut = i :: r → s.trigs.find? (fun (t : Trigger)
    => t.id == i) = none → exec (.actionTimePass l) s = .next ((s.modEth l (fun x => { x with actOut := r })).put
    (ETH_STATUS_ACT_OUT l) r.length)) ∧
  (∀ (s : State) (l : Fin 96) (i : Nat) (r : List Nat) (tr : Trigger), (s.leth l).actOut = i :: r → s.trigs.find?
    (fun (t : Trigger) => t.id == i) = some tr → tr.actTime ≤ s.nowI → exec (.actionTimePass l) s = .next ((s.modEth
    l (fun x => { x with actOut := r })).put (ETH_STATUS_ACT_OUT l) r.length)) ∧
  (∀ (s : State) (l : Fin 96) (i : Nat) (r : List Nat) (tr : Trigger), (s.leth l).actOut = i :: r → s.trigs.find?
    (fun (t : Trigger) => t.id == i) = some tr → s.nowI < tr.actTime → exec (.actionTimePass l) s = .next (s))

/-- Each clause below holds for every state and all operands that meet its hypotheses, and concludes that exec of the
  command answers exactly the next state written in it. A tile's size is its stored bytes rounded up to 64. (1)
  CONDITIONING_START with the pipe free, a camera tile next that may start, and room in the ring, on a Tenon lane:
  the lane is not stalled, the ring's write position lies behind the tile, the tile has started at its place, and its
  header and payload blocks leave the lane's queue. (2) CONDITIONING_START likewise on an Ethernet lane: the queue
  shows what is left of it (ethRefill). (3) CONDITIONING_START likewise of a FILL tile: nothing leaves the queue. (4)
  CONDITIONING_START without room in the ring, on a lane that is not stalled: STALLED, counted and raised. (5)
  CONDITIONING_START with a tile in the pipe, or with none to start: nothing. (6) RING_SPACE_FREE on a stalled lane:
  the pipe tries its next tile (condStart). (7) RING_SPACE_FREE on a lane that is not stalled: nothing. (8)
  TILE_CONDITIONED of a tile that has ended, without DEF_EN and without resampling: the errors met are counted and
  marked, the line keeps the last values and the defect list's cut, the tile's values go to its place in the ring,
  and it is CONDITIONED. (9) TILE_CONDITIONED likewise with resampling: the values go to the history, and every tile
  that can be produced is (rsAll). (10) TILE_CONDITIONED with DEF_EN of a line's first tile, without resampling:
  entries out of order are counted, raised and logged 0x7101 if there are any, and the rest as without DEF_EN. (11)
  TILE_CONDITIONED with no tile in the pipe: nothing. (12) RS_WAIT_EXPIRY with tiles that wait: counted, raised,
  logged 0x7111, the errors met are counted, and the oldest tile is produced from the taps there are (rsTry). (13)
  RS_WAIT_EXPIRY with none: nothing. (R25, R273, R274, R275, R279, R280, R288, R291) -/
def Obligations.ConditioningComplete : Prop :=
  (∀ (s : State) (l : Fin 96) (u : Tile) (a : Nat) (x y : State), s.inPipe l = none → s.nextTile l = some u →
    s.mayStart l u = true → s.ringPlace l (roundUp (u.pixels * u.cond.pxBytes) 64) = some a → u.src = 0 → x = (s.putB
    (BAY_COND_STATUS_STALLED l) false).modCln l (fun x =>
    { x with wptr := a + roundUp (u.pixels * u.cond.pxBytes) 64 }) → y = x.modTile u.num (fun t => { t with
    started := true, off := x.get (BAY_RING_BASE_BASE l) * 64 + a, stored := u.pixels * u.cond.pxBytes }) → y.laneEth
    l = false → exec (.conditioningStart l) s = .next (y.queueTake l (8 + ceilDiv u.raw.length 8))) ∧
  (∀ (s : State) (l : Fin 96) (u : Tile) (a : Nat) (x y : State), s.inPipe l = none → s.nextTile l = some u →
    s.mayStart l u = true → s.ringPlace l (roundUp (u.pixels * u.cond.pxBytes) 64) = some a → u.src = 0 → x = (s.putB
    (BAY_COND_STATUS_STALLED l) false).modCln l (fun x =>
    { x with wptr := a + roundUp (u.pixels * u.cond.pxBytes) 64 }) → y = x.modTile u.num (fun t => { t with
    started := true, off := x.get (BAY_RING_BASE_BASE l) * 64 + a, stored := u.pixels * u.cond.pxBytes }) → y.laneEth
    l = true → exec (.conditioningStart l) s = .next (y.ethRefill l)) ∧
  (∀ (s : State) (l : Fin 96) (u : Tile) (a : Nat) (x : State), s.inPipe l = none → s.nextTile l = some u →
    s.mayStart l u = true → s.ringPlace l (roundUp (u.pixels * u.cond.pxBytes) 64) = some a → u.src ≠ 0 → x = (s.putB
    (BAY_COND_STATUS_STALLED l) false).modCln l (fun x =>
    { x with wptr := a + roundUp (u.pixels * u.cond.pxBytes) 64 }) → exec (.conditioningStart l) s = .next (x.modTile
    u.num (fun t => { t with
    started := true, off := x.get (BAY_RING_BASE_BASE l) * 64 + a, stored := u.pixels * u.cond.pxBytes }))) ∧
  (∀ (s : State) (l : Fin 96) (u : Tile), s.inPipe l = none → s.nextTile l = some u → s.mayStart l u = true →
    s.ringPlace l (roundUp (u.pixels * u.cond.pxBytes) 64) = none → s.flag (BAY_COND_STATUS_STALLED l) = false → exec
    (.conditioningStart l) s = .next (((s.putB (BAY_COND_STATUS_STALLED l) true).bump (BAY_CNT_STALL l)).raise 2
    ((BAY_COND_EVENTS_STALL (l / 4)).sub (l % 4)))) ∧
  (∀ (s : State) (l : Fin 96), (s.inPipe l).isSome = true ∨ s.nextTile l = none → exec (.conditioningStart l) s =
    .next (s)) ∧
  (∀ (s : State) (l : Fin 96), s.flag (BAY_COND_STATUS_STALLED l) = true → exec (.ringSpaceFree l) s = .next
    (s.condStart l)) ∧
  (∀ (s : State) (l : Fin 96), s.flag (BAY_COND_STATUS_STALLED l) = false → exec (.ringSpaceFree l) s = .next (s)) ∧
  (∀ (s : State) (l : Fin 96) (u v : Tile) (corr bad : List Nat) (x : State), s.inPipe l = some u → u.ended = true →
    x = (s.storeErrors l corr bad).pipeMarks u corr bad → bit u.cond.ctrl 1 = false → v = (x.tile u.num).getD u →
    v.cond.rsMode = 0 → exec (.tileConditioned l corr bad) s = .next (((x.modCln l (fun z => { z with
    lines := z.lines.map (fun (y : CondLine) => if y.isFor v.tag.line v.tag.trigId then { y with prev := (x.stages v bad).2, cut := x.defCut v bad } else y) })).bayWr
    (l / 4) v.off (v.cond.spoil v.off bad (v.cond.store (x.stages v bad).1))).conditioned u.num)) ∧
  (∀ (s : State) (l : Fin 96) (u v : Tile) (corr bad : List Nat) (x : State), s.inPipe l = some u → u.ended = true →
    x = (s.storeErrors l corr bad).pipeMarks u corr bad → bit u.cond.ctrl 1 = false → v = (x.tile u.num).getD u →
    v.cond.rsMode ≠ 0 → exec (.tileConditioned l corr bad) s = .next (((x.modCln l (fun z => { z with
    lines := z.lines.map (fun (y : CondLine) => if y.isFor v.tag.line v.tag.trigId then { y with prev := (x.stages v bad).2, cut := x.defCut v bad } else y) })).histAdd
    v (x.stages v bad).1 corr bad).rsAll l corr bad)) ∧
  (∀ (s : State) (l : Fin 96) (u v : Tile) (corr bad : List Nat) (x y : State) (k : Nat), s.inPipe l = some u →
    u.ended = true → x = (s.storeErrors l corr bad).pipeMarks u corr bad → bit u.cond.ctrl 1 = true → u.xOff = 0 → k
    = (x.defects (l / 4) (x.defBase l u.cond.set_) 2049 0 none).2.1 → y = x.iff (decide (0 < k)) (fun s => ((s.bumpBy
    (BAY_CNT_DEF_ORDER l) k).raise 2 ((BAY_COND_EVENTS_DEF_ORDER (l / 4)).sub (l % 4))).logOnce 0x7101 l l 0) → v =
    (y.tile u.num).getD u → v.cond.rsMode = 0 → exec (.tileConditioned l corr bad) s = .next (((y.modCln l (fun z =>
    { z with
    lines := z.lines.map (fun (w : CondLine) => if w.isFor v.tag.line v.tag.trigId then { w with prev := (y.stages v bad).2, cut := y.defCut v bad } else w) })).bayWr
    (l / 4) v.off (v.cond.spoil v.off bad (v.cond.store (y.stages v bad).1))).conditioned u.num)) ∧
  (∀ (s : State) (l : Fin 96) (corr bad : List Nat), s.inPipe l = none → exec (.tileConditioned l corr bad) s = .next
    (s)) ∧
  (∀ (s : State) (l : Fin 96) (n : Nat) (r : List Nat) (corr bad : List Nat), (s.cln l).wait = n :: r → exec
    (.rsWaitExpiry ⟨l, corr, bad⟩) s = .next (((((s.bump (BAY_CNT_RS_TIMEOUT l)).raise 2 ((BAY_COND_EVENTS_RS_PASS (l
    / 4)).sub (l % 4))).logOnce 0x7111 l l 0).storeErrors l corr bad).rsTry n corr bad true)) ∧
  (∀ (s : State) (l : Fin 96) (corr bad : List Nat), (s.cln l).wait = [] → exec (.rsWaitExpiry ⟨l, corr, bad⟩) s =
    .next (s))

/-- Each clause below holds for every state and all operands that meet its hypotheses, and concludes that exec of the
  command answers exactly the next state written in it. After each burst the bents that wait for nothing more close
  (settleBents). (1) SEGMENT_BURST_ARRIVE of a started tile that the unit holds and does not know yet, not its last
  burst: the tile joins the open bent of its line or is a straggler (burstJoin), and errors of the assembly memory
  are noted. (2) SEGMENT_BURST_ARRIVE of a tile that the unit knows, not its last burst: the errors are noted. (3)
  SEGMENT_BURST_ARRIVE of the last burst of a conditioned tile in a bent: the lane has delivered the line, and the
  tile's values go into the bent. (4) SEGMENT_BURST_ARRIVE of the last burst of a conditioned straggler: it is
  delivered by itself. (5) SEGMENT_BURST_ARRIVE of a conditioned tile whose first burst is its last: it joins, and
  its last burst acts (burstLast). (6) SEGMENT_BURST_ARRIVE of the last burst of a tile of a lane that no segment of
  the unit names: the unit lets it go. (7) SEGMENT_BURST_ARRIVE of a tile that is not in the Ledger: nothing. (8)
  BENT_DEADLINE of the open bent of a line once its deadline has passed: it closes with cause 4, TIMEOUT. (9)
  BENT_DEADLINE before its deadline: nothing. (R300, R301, R302, R304, R305) -/
def Obligations.ScarfComplete : Prop :=
  (∀ (s : State) (u : Fin 16) (n k : Nat) (v : Tile) (corr : Bool) (bad : List Nat), s.tile n = some v → s.segOf u
    v.lane = some k → hScarf u ∈ v.holders → v.started = true → s.knownTile u n = false → exec (.segmentBurstArrive u
    n false corr bad) s = .next (((s.burstJoin u k v).burstErrors u n corr bad).settleBents u)) ∧
  (∀ (s : State) (u : Fin 16) (n k : Nat) (v : Tile) (corr : Bool) (bad : List Nat), s.tile n = some v → s.segOf u
    v.lane = some k → hScarf u ∈ v.holders → v.started = true → s.knownTile u n = true → exec (.segmentBurstArrive u
    n false corr bad) s = .next ((s.burstErrors u n corr bad).settleBents u)) ∧
  (∀ (s : State) (u : Fin 16) (n k : Nat) (v : Tile) (corr : Bool) (bad : List Nat) (y : State), s.tile n = some v →
    s.segOf u v.lane = some k → hScarf u ∈ v.holders → v.started = true → v.state ≠ 0 → s.knownTile u n = true → y =
    (s.burstErrors u n corr bad).delivered u v.lane v.tag.line → y.strayTile u n = false → exec (.segmentBurstArrive
    u n true corr bad) s = .next ((y.burstDone u n (valsOf (y.bentY u) (y.tileData v))).settleBents u)) ∧
  (∀ (s : State) (u : Fin 16) (n k : Nat) (v : Tile) (corr : Bool) (bad : List Nat) (y : State), s.tile n = some v →
    s.segOf u v.lane = some k → hScarf u ∈ v.holders → v.started = true → v.state ≠ 0 → s.knownTile u n = true → y =
    (s.burstErrors u n corr bad).delivered u v.lane v.tag.line → y.strayTile u n = true → exec (.segmentBurstArrive u
    n true corr bad) s = .next (((y.modScf u (fun x =>
    { x with stray := x.stray.filter (fun (e : Nat × Nat) => e.2 != n) })).straggler u k n).settleBents u)) ∧
  (∀ (s : State) (u : Fin 16) (n k : Nat) (v : Tile) (corr : Bool) (bad : List Nat), s.tile n = some v → s.segOf u
    v.lane = some k → hScarf u ∈ v.holders → v.started = true → v.state ≠ 0 → s.knownTile u n = false → exec
    (.segmentBurstArrive u n true corr bad) s = .next ((((s.burstJoin u k v).burstErrors u n corr bad).burstLast u k
    n v).settleBents u)) ∧
  (∀ (s : State) (u : Fin 16) (n : Nat) (v : Tile) (corr : Bool) (bad : List Nat), s.tile n = some v → s.segOf u
    v.lane = none → hScarf u ∈ v.holders → exec (.segmentBurstArrive u n true corr bad) s = .next (s.release n
    (hScarf u))) ∧
  (∀ (s : State) (u : Fin 16) (n : Nat) (last corr : Bool) (bad : List Nat), s.tile n = none → exec
    (.segmentBurstArrive u n last corr bad) s = .next (s)) ∧
  (∀ (s : State) (u : Fin 16) (line : Int) (b : Bent), (s.scf u).bents.find? (fun (b : Bent) => b.line == line &&
    b.closing.isNone) = some b → b.due ≤ s.tb.ticks → exec (.bentDeadline u line) s = .next (s.closeBent u b.num 4)) ∧
  (∀ (s : State) (u : Fin 16) (line : Int) (b : Bent), (s.scf u).bents.find? (fun (b : Bent) => b.line == line &&
    b.closing.isNone) = some b → s.tb.ticks < b.due → exec (.bentDeadline u line) s = .next (s))

/-- Each clause below holds for every state and all operands that meet its hypotheses, and concludes that exec of the
  command answers exactly the next state written in it. (1) KERF_LINE_WRITE of the oldest whole conditioned line that
  waits, in a channel in service, whose slot is free once a full buffer has released its oldest line (kerfFull): the
  line is written and held, and the lines now due are released. (2) KERF_LINE_WRITE where that slot still waits for
  its read-back: the oldest line of a full buffer is released alone. (3) KERF_LINE_WRITE in a retired channel: the
  line passes undelayed (kerfPass). (4) KERF_LINE_WRITE with no tile waiting for the buffer: nothing. (5)
  KERF_MAX_EXPIRY once KERF_MAX_US has passed since the oldest line was written: it is released, counted and logged
  0x7205. (6) KERF_MAX_EXPIRY with KERF_MAX_US of 0, or before: nothing. (7) KERF_READBACK_DONE once the bay's
  request is granted: the oldest released line goes tile by tile to its scarf units (kerfTile). (8)
  KERF_READBACK_DONE before the grant: nothing. (R16, R307, R309, R358) -/
def Obligations.KerfComplete : Prop :=
  (∀ (s : State) (l : Fin 96) (v : Tile) (x y : State), s.ledger.tiles.find? (fun (w : Tile) => w.lane == l.val &&
    decide (hKerf ∈ w.holders)) = some v → (s.kerfLine l v).any (fun w => w.state == 0) = false → (s.kerfLine l
    v).any (fun w => w.endsLine) = true → s.get (DDR_STATUS_STATE (s.kerfChan l)) ≠ 3 → x = s.kerfFull l → x.kerfBusy
    l = false → y = x.kerfHold l v (s.kerfLine l v) → exec (.kerfLineWrite l) s = .next (y.kerfRelease l (y.kerfDue l
    v.tag.line))) ∧
  (∀ (s : State) (l : Fin 96) (v : Tile) (x : State), s.ledger.tiles.find? (fun (w : Tile) => w.lane == l.val &&
    decide (hKerf ∈ w.holders)) = some v → (s.kerfLine l v).any (fun w => w.state == 0) = false → (s.kerfLine l
    v).any (fun w => w.endsLine) = true → s.get (DDR_STATUS_STATE (s.kerfChan l)) ≠ 3 → x = s.kerfFull l → x.kerfBusy
    l = true → exec (.kerfLineWrite l) s = .next (x)) ∧
  (∀ (s : State) (l : Fin 96) (v : Tile), s.ledger.tiles.find? (fun (w : Tile) => w.lane == l.val && decide (hKerf ∈
    w.holders)) = some v → (s.kerfLine l v).any (fun w => w.state == 0) = false → (s.kerfLine l v).any (fun w =>
    w.endsLine) = true → s.get (DDR_STATUS_STATE (s.kerfChan l)) = 3 → exec (.kerfLineWrite l) s = .next (s.kerfPass
    l (s.kerfLine l v))) ∧
  (∀ (s : State) (l : Fin 96), s.ledger.tiles.find? (fun (w : Tile) => w.lane == l.val && decide (hKerf ∈ w.holders))
    = none → exec (.kerfLineWrite l) s = .next (s)) ∧
  (∀ (s : State) (l : Fin 96) (k : KerfLine) (r : List KerfLine), (s.krf l).held = k :: r → s.get (KERF_MAX_US_US l)
    ≠ 0 → k.at_ + 1000 * s.get (KERF_MAX_US_US l) ≤ s.tb.ticks → exec (.kerfMaxExpiry l) s = .next (((s.kerfRelease l
    1).bump (KERF_CNT_EARLY l)).logOnce 0x7205 l l 0)) ∧
  (∀ (s : State) (l : Fin 96) (k : KerfLine) (r : List KerfLine), (s.krf l).held = k :: r → (s.get (KERF_MAX_US_US l)
    = 0 ∨ s.tb.ticks < k.at_ + 1000 * s.get (KERF_MAX_US_US l)) → exec (.kerfMaxExpiry l) s = .next (s)) ∧
  (∀ (s : State) (l : Fin 96) (k : KerfLine) (r : List KerfLine) (corr : Bool) (bad : List Nat) (x : State), (s.krf
    l).out = k :: r → s.arbWaits (s.kerfChan l) (l / 4) = false → x = s.modKrf l (fun y => { y with out := r }) →
    exec (.kerfReadbackDone l corr bad) s = .next ((k.tiles.foldl (fun (y : State × Nat) n => y.1.kerfTile l
    (x.kerfAt l k.slot) y.2 (x.get (DDR_STATUS_STATE (x.kerfChan l)) == 3) corr bad n) (x, 0)).1)) ∧
  (∀ (s : State) (l : Fin 96) (k : KerfLine) (r : List KerfLine) (corr : Bool) (bad : List Nat), (s.krf l).out = k ::
    r → s.arbWaits (s.kerfChan l) (l / 4) = true → exec (.kerfReadbackDone l corr bad) s = .next (s))

/-- Each clause below holds for every state and all operands that meet its hypotheses, and concludes that exec of the
  command answers exactly the next state written in it. The gang's next engine is j of the lane's bay. (1) TILE_DEAL
  by tiles to an engine of the gang in service with room: the rotation moves on, the engine holds the tile, and its
  activation record joins the input's queue. (2) TILE_DEAL to a quarantined engine: counted as skipped, and the tile
  is let go. (3) TILE_DEAL to an engine whose queue is full: nothing. (4) TILE_DEAL of a lane without a gang: the
  tile is let go. (5) TASK_START of an idle, enabled engine with a kernel and records: the oldest record of its
  lowest-numbered input that has one runs from that input's entry, with a fresh cycle count. (6) TASK_START of any
  other engine: nothing. (7) TASK_BUDGET_EXPIRY of a task with a budget: its cycles end one above it, and the task
  ends with fault 6. (8) FAULT_WINDOW_END once a second has passed since the window began, with OUTPUT_COMMIT: the
  next window begins, with no faults counted at any engine. (9) FAULT_WINDOW_END before that, or without
  OUTPUT_COMMIT: nothing. (10) DMA_DESCRIPTOR_START of a channel that looks at a descriptor that meets its
  conditions: the transfer has started, and asks for the DDR4 channels it touches. (11) DMA_DESCRIPTOR_START of a
  channel that looks at one that does not: STATUS 2, the channel in ERROR, counted, 0x7320. (12) DMA_TRANSFER_DONE
  from the bay store or an engine memory, with its grants: every row is read and written, and the descriptor
  completes with STATUS 1. (13) DMA_TRANSFER_DONE from a DDR4 channel that is not retired, without an uncorrectable
  error, with its grants: the same, with bit 3 of STATUS for a corrected one. (14) DMA_TRANSFER_DONE without a
  transfer, or before its grants: nothing. (15) ENG_RESTART by the MC: the engine's restart is carried out
  (restartEng). (16) ENG_RESTART by another master that reaches the registers: a bad access of cause 3. (17)
  ENG_RESTART by a master that does not: its unreached access. (18) ENG_ABORT by the MC: the task ends with fault
  0x0E. (19) ENG_ABORT by another master that reaches the registers: a bad access of cause 3. (20) ENG_ABORT by a
  master that does not: its unreached access. (R16, R323, R326, R328, R329, R330, R337, R339) -/
def Obligations.EngineTasksComplete : Prop :=
  (∀ (s : State) (l : Fin 96) (n j : Nat) (r : List Nat) (v : Tile), (s.cln l).deal = n :: r → s.tile n = some v →
    s.gang l ≠ [] → s.flag (BAY_ENG_GANG_MODE (l / 4) (l % 4)) = true → j = nextIn (s.gang l) (if (s.cln l).rot = 0
    then 8 else (s.cln l).rot - 1) → s.quarantined (8 * (l / 4) + j) = false → ((s.en (8 * (l / 4) + j)).queue (s.get
    (BAY_ENG_GANG_INPUT (l / 4) (l % 4)))).length < 16 → exec (.tileDeal l) s = .next (((((s.modCln l (fun x =>
    { x with deal := r, rot := j + 1, dealt := some (v.tag.line, v.tag.trigId, j) })).modTile n (fun y => { y with
    holders := y.holders.map (fun h => if h = hDeal then hEng (8 * (l / 4) + j) else h) })).modEng (8 * (l / 4) + j)
    (fun x => x.setQueue (s.get (BAY_ENG_GANG_INPUT (l / 4) (l % 4))) (x.queue (s.get (BAY_ENG_GANG_INPUT (l / 4) (l
    % 4))) ++ [⟨v.activation (s.get (BAY_ENG_GANG_INPUT (l / 4) (l % 4))), 0, some n, 0, 0⟩]))).showEng (8 * (l / 4)
    + j)))) ∧
  (∀ (s : State) (l : Fin 96) (n j : Nat) (r : List Nat) (v : Tile), (s.cln l).deal = n :: r → s.tile n = some v →
    s.gang l ≠ [] → s.flag (BAY_ENG_GANG_MODE (l / 4) (l % 4)) = true → j = nextIn (s.gang l) (if (s.cln l).rot = 0
    then 8 else (s.cln l).rot - 1) → s.quarantined (8 * (l / 4) + j) = true → exec (.tileDeal l) s = .next
    ((((s.modCln l (fun x => { x with deal := r, rot := j + 1, dealt := some (v.tag.line, v.tag.trigId, j) })).bump
    (ENG_CNT_SKIPPED (8 * (l / 4) + j))).release n hDeal))) ∧
  (∀ (s : State) (l : Fin 96) (n j : Nat) (r : List Nat) (v : Tile), (s.cln l).deal = n :: r → s.tile n = some v →
    s.gang l ≠ [] → s.flag (BAY_ENG_GANG_MODE (l / 4) (l % 4)) = true → j = nextIn (s.gang l) (if (s.cln l).rot = 0
    then 8 else (s.cln l).rot - 1) → s.quarantined (8 * (l / 4) + j) = false → 16 ≤ ((s.en (8 * (l / 4) + j)).queue
    (s.get (BAY_ENG_GANG_INPUT (l / 4) (l % 4)))).length → exec (.tileDeal l) s = .next (s)) ∧
  (∀ (s : State) (l : Fin 96) (n : Nat) (r : List Nat) (v : Tile), (s.cln l).deal = n :: r → s.tile n = some v →
    s.gang l = [] → exec (.tileDeal l) s = .next ((s.modCln l (fun x => { x with deal := r })).release n hDeal)) ∧
  (∀ (s : State) (e : Fin 192) (i : Nat) (a : EngRec) (r : List EngRec), s.engState e = 1 → s.flag (ENG_CTRL_ENABLE
    e) = true → s.flag (ENG_STATUS_KERNEL_OK e) = true → (List.range 8).find? (fun k => !((s.en e).queue k).isEmpty)
    = some i → (s.en e).queue i = a :: r → exec (.taskStart e) s = .next ((((((s.modEng e (fun x =>
    { x.setQueue i r with
    run := some a, pc := s.get (ENG_IN_CFG_ENTRY e i), loops := [], cycles := 0, corr := false,
    stall := .none })).put (ENG_STATUS_STATE e) 2).put (ENG_STATUS_INPUT e) i).bump (ENG_CNT_ACT e)).showEng e))) ∧
  (∀ (s : State) (e : Fin 192), (s.engState e ≠ 1 ∨ s.flag (ENG_CTRL_ENABLE e) = false ∨ s.flag (ENG_STATUS_KERNEL_OK
    e) = false) → exec (.taskStart e) s = .next (s)) ∧
  (∀ (s : State) (e : Fin 192) (b : Nat) (x : State), s.engBusy e = true → b = s.get (ENG_IN_BUDGET_BUDGET e (s.get
    (ENG_STATUS_INPUT e))) → b ≠ 0 → x = s.modEng e (fun x => { x with cycles := b + 1 }) → exec (.taskBudgetExpiry
    e) s = .next ((x.wr64 (ENG_CNT_BUSY e) (min (x.rd64 (ENG_CNT_BUSY e) + (b + 1 - (s.en e).cycles)) (2 ^ 64 -
    1))).engFault e 6 0 false)) ∧
  (∀ (s : State), s.outCommit = true → s.faultFrom + 1000000000 ≤ s.tb.ticks → exec (.faultWindowEnd) s = .next
    ((List.range 192).foldl (fun x e => x.iff (decide (0 < (x.en e).winFaults)) (fun y => y.modEng e (fun z =>
    { z with winFaults := 0 }))) (s.setFaultFrom (s.faultFrom + 1000000000)))) ∧
  (∀ (s : State), (s.outCommit = false ∨ s.tb.ticks < s.faultFrom + 1000000000) → exec (.faultWindowEnd) s = .next
    (s)) ∧
  (∀ (s : State) (b : Fin 24) (c : Fin 8), s.dmaState b c = 1 → (s.dch b c).busy = false → s.dmaOk b c (s.dmaDesc b
    c) = true → exec (.dmaDescriptorStart b c) s = .next ((s.dmaDesc b c).chans.foldl (fun s k => s.arbAsk k b)
    (s.modDch b c (fun x => { x with busy := true })))) ∧
  (∀ (s : State) (b : Fin 24) (c : Fin 8), s.dmaState b c = 1 → (s.dch b c).busy = false → s.dmaOk b c (s.dmaDesc b
    c) = false → exec (.dmaDescriptorStart b c) s = .next (((((s.dmaStatus b c 2).put (BAY_DMA_STATUS_STATE b c)
    3).bump (BAY_DMA_CNT_ERR b c)).logC 0x7320 b c))) ∧
  (∀ (s : State) (b : Fin 24) (c : Fin 8) (corr : Bool) (bad : List Nat) (same : Bool) (d : DmaDesc), d = s.dmaDesc b
    c → (s.dch b c).busy = true → s.dmaWaits b d = false → getBits d.src 62 2 ≠ 0 → exec (.dmaTransferDone b c corr
    bad same) s = .next (((List.range d.rows).foldl (fun x r => x.dmaWrite b (d.dst + r * d.dStride) (x.dmaRead b
    (d.src + r * d.sStride) d.len bad) bad) s).dmaDone b c 1 same)) ∧
  (∀ (s : State) (b : Fin 24) (c : Fin 8) (corr same : Bool) (d : DmaDesc), d = s.dmaDesc b c → (s.dch b c).busy =
    true → s.dmaWaits b d = false → getBits d.src 62 2 = 0 → s.get (DDR_STATUS_STATE (getBits d.src 36 3)) ≠ 3 → exec
    (.dmaTransferDone b c corr [] same) s = .next (((List.range d.rows).foldl (fun x r => x.dmaWrite b (d.dst + r *
    d.dStride) (x.dmaRead b (d.src + r * d.sStride) d.len []) []) s).dmaDone b c (1 + 8 * b2n corr) same)) ∧
  (∀ (s : State) (b : Fin 24) (c : Fin 8) (corr : Bool) (bad : List Nat) (same : Bool), (s.dch b c).busy = false ∨
    s.dmaWaits b (s.dmaDesc b c) = true → exec (.dmaTransferDone b c corr bad same) s = .next (s)) ∧
  (∀ (s : State) (e : Fin 192), s.reaches 0 = true → exec (.engRestart e 0) s = .next (s.restartEng e)) ∧
  (∀ (s : State) (e : Fin 192) (m : Fin 3), s.reaches m = true → m.val ≠ 0 → exec (.engRestart e m) s = .next
    (s.badAccess m (ENG_CMD e) 3)) ∧
  (∀ (s : State) (e : Fin 192) (m : Fin 3), s.reaches m = false → exec (.engRestart e m) s = .next (s.unreached m)) ∧
  (∀ (s : State) (e : Fin 192), s.reaches 0 = true → exec (.engAbort e 0) s = .next (s.engFault e 0x0E 0 false)) ∧
  (∀ (s : State) (e : Fin 192) (m : Fin 3), s.reaches m = true → m.val ≠ 0 → exec (.engAbort e m) s = .next
    (s.badAccess m (ENG_CMD e) 3)) ∧
  (∀ (s : State) (e : Fin 192) (m : Fin 3), s.reaches m = false → exec (.engAbort e m) s = .next (s.unreached m))

/-- Each clause below holds for every state and all operands that meet its hypotheses, and concludes that exec of the
  command answers exactly the next state written in it. "Runs in its budget" says that the engine runs, and that the
  input's budget is 0 or not below the cycles after this issue; x is the state with the cycle begun and the issue
  charged; "takes effect" is commitBundle, which reads every source before any write. (1) SIG of an engine that runs
  in its budget, in a bundle without a fault: it takes effect. (2) POST of an engine that runs in its budget, in a
  bundle without a fault: it takes effect. (3) PUSH of an engine that runs in its budget, in a bundle without a
  fault, with room in the bay's push queue: it takes effect. (4) PUSH likewise with the queue full: the engine stalls
  on it with what it pushes. (5) DMA_GO of an engine that runs in its budget, in a bundle without a fault: it takes
  effect. (6) DMA_WAIT of an engine that runs in its budget, in a bundle without a fault, for a channel that is idle
  or in error: it takes effect. (7) DMA_WAIT likewise for a channel at work: the engine stalls on it. (8) OUT_OPEN of
  an engine that runs in its budget, in a bundle without a fault, with a Ledger entry and an output slot to be had:
  it takes the entry and the slot, and takes effect. (9) OUT_OPEN likewise without an entry: counted, and the engine
  stalls on it. (10) OUT_EMIT of an engine that runs in its budget, in a bundle without a fault: it takes effect.
  (11) TKEEP of an engine that runs in its budget, in a bundle without a fault: it takes effect. (12) TREL of an
  engine that runs in its budget, in a bundle without a fault: it takes effect. (13) FENCE of an engine that runs in
  its budget, in a bundle without a fault: the engine stalls until its earlier stores are done. (14) TEND of an
  engine that runs in its budget, in a bundle without a fault and without a system instruction: it takes effect,
  which ends the task. (15) BUNDLE_ISSUE of a bundle without a fault and without a system instruction, of an engine
  that runs in its budget, with no memory error or a corrected one: it takes effect. (16) BUNDLE_ISSUE of a bundle
  with a fault: the task ends with that fault. (17) BUNDLE_ISSUE with an uncorrectable error on the fetch: the task
  ends with fault 0x0B. (18) DMA_WAIT_RESUME of an engine whose channel is idle or in error: its bundle takes effect.
  (19) FENCE_COMPLETE of an engine that stalls on a fence: its bundle takes effect. (20) FENCE_COMPLETE of another
  engine: nothing. (21) OUT_OPEN_RESUME of an engine that holds its entry and finds a slot: its bundle takes effect.
  (22) ENGINE_PUSH_ARRIVE of the oldest push of a bay, with none of a lower bay of the same cycle ahead and no engine
  that stalls on the queue: it reaches its sequencer's ring. (23) ENGINE_PUSH_ARRIVE likewise with an engine that
  stalls on the queue: the lowest-numbered one goes on too. (24) ENGINE_PUSH_ARRIVE of a push that must wait for one
  of a lower bay: nothing. (R319, R322, R327, R329, R331, R334, R335, R336, R337, R338) -/
def Obligations.EngineInstructionsComplete : Prop :=
  (∀ (s : State) (e : Fin 192) (cycles w : Nat) (same : Bool) (x : State), s.engState e = 2 → (s.get
    (ENG_IN_BUDGET_BUDGET e (s.get (ENG_STATUS_INPUT e))) = 0 ∨ (s.en e).cycles + cycles ≤ s.get
    (ENG_IN_BUDGET_BUDGET e (s.get (ENG_STATUS_INPUT e)))) → sysOf (s.nextBundle e).1 = some w → iOp w = 0 → x =
    (s.engCycle same).charge e cycles 0 → sysOf (x.nextBundle e).1 = some w → x.bundleFault e = none → exec (.engSig
    e ⟨cycles, same⟩) s = .next (x.commitBundle e none)) ∧
  (∀ (s : State) (e : Fin 192) (cycles w : Nat) (same : Bool) (x : State), s.engState e = 2 → (s.get
    (ENG_IN_BUDGET_BUDGET e (s.get (ENG_STATUS_INPUT e))) = 0 ∨ (s.en e).cycles + cycles ≤ s.get
    (ENG_IN_BUDGET_BUDGET e (s.get (ENG_STATUS_INPUT e)))) → sysOf (s.nextBundle e).1 = some w → iOp w = 1 → x =
    (s.engCycle same).charge e cycles 0 → sysOf (x.nextBundle e).1 = some w → x.bundleFault e = none → exec (.engPost
    e ⟨cycles, same⟩) s = .next (x.commitBundle e none)) ∧
  (∀ (s : State) (e : Fin 192) (cycles w : Nat) (same : Bool) (x : State), s.engState e = 2 → (s.get
    (ENG_IN_BUDGET_BUDGET e (s.get (ENG_STATUS_INPUT e))) = 0 ∨ (s.en e).cycles + cycles ≤ s.get
    (ENG_IN_BUDGET_BUDGET e (s.get (ENG_STATUS_INPUT e)))) → sysOf (s.nextBundle e).1 = some w → iOp w = 2 → x =
    (s.engCycle same).charge e cycles 0 → sysOf (x.nextBundle e).1 = some w → x.bundleFault e = none → (x.bayPushes
    (e / 8)).length < 16 → exec (.engPush e ⟨cycles, same⟩) s = .next (x.commitBundle e none)) ∧
  (∀ (s : State) (e : Fin 192) (cycles w : Nat) (same : Bool) (x : State), s.engState e = 2 → (s.get
    (ENG_IN_BUDGET_BUDGET e (s.get (ENG_STATUS_INPUT e))) = 0 ∨ (s.en e).cycles + cycles ≤ s.get
    (ENG_IN_BUDGET_BUDGET e (s.get (ENG_STATUS_INPUT e)))) → sysOf (s.nextBundle e).1 = some w → iOp w = 2 → x =
    (s.engCycle same).charge e cycles 0 → sysOf (x.nextBundle e).1 = some w → x.bundleFault e = none → 16 ≤
    (x.bayPushes (e / 8)).length → exec (.engPush e ⟨cycles, same⟩) s = .next (x.stallOn e (.push ((x.en e).sreg (iA
    w)) ((x.en e).sreg (iD w) + 2 ^ 32 * (x.en e).sreg ((iD w + 1) % 32))))) ∧
  (∀ (s : State) (e : Fin 192) (cycles w : Nat) (x : State), s.engState e = 2 → (s.get (ENG_IN_BUDGET_BUDGET e (s.get
    (ENG_STATUS_INPUT e))) = 0 ∨ (s.en e).cycles + cycles ≤ s.get (ENG_IN_BUDGET_BUDGET e (s.get (ENG_STATUS_INPUT
    e)))) → sysOf (s.nextBundle e).1 = some w → iOp w = 3 → x = s.charge e cycles 0 → sysOf (x.nextBundle e).1 = some
    w → x.bundleFault e = none → exec (.dmaGo e cycles) s = .next (x.commitBundle e none)) ∧
  (∀ (s : State) (e : Fin 192) (cycles w : Nat) (x : State), s.engState e = 2 → (s.get (ENG_IN_BUDGET_BUDGET e (s.get
    (ENG_STATUS_INPUT e))) = 0 ∨ (s.en e).cycles + cycles ≤ s.get (ENG_IN_BUDGET_BUDGET e (s.get (ENG_STATUS_INPUT
    e)))) → sysOf (s.nextBundle e).1 = some w → iOp w = 4 → x = s.charge e cycles 0 → sysOf (x.nextBundle e).1 = some
    w → x.bundleFault e = none → (x.dmaState (e / 8) (getBits w 0 3) = 0 ∨ x.dmaState (e / 8) (getBits w 0 3) = 3) →
    exec (.dmaWait e cycles) s = .next (x.commitBundle e none)) ∧
  (∀ (s : State) (e : Fin 192) (cycles w : Nat) (x : State), s.engState e = 2 → (s.get (ENG_IN_BUDGET_BUDGET e (s.get
    (ENG_STATUS_INPUT e))) = 0 ∨ (s.en e).cycles + cycles ≤ s.get (ENG_IN_BUDGET_BUDGET e (s.get (ENG_STATUS_INPUT
    e)))) → sysOf (s.nextBundle e).1 = some w → iOp w = 4 → x = s.charge e cycles 0 → sysOf (x.nextBundle e).1 = some
    w → x.bundleFault e = none → x.dmaState (e / 8) (getBits w 0 3) ≠ 0 → x.dmaState (e / 8) (getBits w 0 3) ≠ 3 →
    exec (.dmaWait e cycles) s = .next (x.stallOn e (.dma (getBits w 0 3)))) ∧
  (∀ (s : State) (e : Fin 192) (cycles w : Nat) (x : State) (pool : Option Nat) (a : Nat), s.engState e = 2 → (s.get
    (ENG_IN_BUDGET_BUDGET e (s.get (ENG_STATUS_INPUT e))) = 0 ∨ (s.en e).cycles + cycles ≤ s.get
    (ENG_IN_BUDGET_BUDGET e (s.get (ENG_STATUS_INPUT e)))) → sysOf (s.nextBundle e).1 = some w → iOp w = 5 → x =
    s.charge e cycles 0 → sysOf (x.nextBundle e).1 = some w → x.bundleFault e = none → x.entryFor [(x.en e).sreg (iA
    w)] = some pool → (x.newTile { Tile.blank with src := 2, lane := e, pool := pool }).outSlot e = some a → exec
    (.outOpen e cycles) s = .next ((x.newTile { Tile.blank with src := 2, lane := e, pool := pool }).commitBundle e
    (some (x.ledger.next, a)))) ∧
  (∀ (s : State) (e : Fin 192) (cycles w : Nat) (x : State) (y : State), s.engState e = 2 → (s.get
    (ENG_IN_BUDGET_BUDGET e (s.get (ENG_STATUS_INPUT e))) = 0 ∨ (s.en e).cycles + cycles ≤ s.get
    (ENG_IN_BUDGET_BUDGET e (s.get (ENG_STATUS_INPUT e)))) → sysOf (s.nextBundle e).1 = some w → iOp w = 5 → x =
    s.charge e cycles 0 → sysOf (x.nextBundle e).1 = some w → x.bundleFault e = none → x.entryFor [(x.en e).sreg (iA
    w)] = none → (x.en e).stall = .none → y = x.bump DLV_CNT_NOENTRY → exec (.outOpen e cycles) s = .next (y.stallOn
    e (.out ((x.en e).sreg (iA w)) (iD w) none))) ∧
  (∀ (s : State) (e : Fin 192) (cycles w : Nat) (x : State), s.engState e = 2 → (s.get (ENG_IN_BUDGET_BUDGET e (s.get
    (ENG_STATUS_INPUT e))) = 0 ∨ (s.en e).cycles + cycles ≤ s.get (ENG_IN_BUDGET_BUDGET e (s.get (ENG_STATUS_INPUT
    e)))) → sysOf (s.nextBundle e).1 = some w → iOp w = 6 → x = s.charge e cycles 0 → sysOf (x.nextBundle e).1 = some
    w → x.bundleFault e = none → exec (.outEmit e cycles) s = .next (x.commitBundle e none)) ∧
  (∀ (s : State) (e : Fin 192) (cycles w : Nat) (x : State), s.engState e = 2 → (s.get (ENG_IN_BUDGET_BUDGET e (s.get
    (ENG_STATUS_INPUT e))) = 0 ∨ (s.en e).cycles + cycles ≤ s.get (ENG_IN_BUDGET_BUDGET e (s.get (ENG_STATUS_INPUT
    e)))) → sysOf (s.nextBundle e).1 = some w → iOp w = 7 → x = s.charge e cycles 0 → sysOf (x.nextBundle e).1 = some
    w → x.bundleFault e = none → exec (.tkeep e cycles) s = .next (x.commitBundle e none)) ∧
  (∀ (s : State) (e : Fin 192) (cycles w : Nat) (x : State), s.engState e = 2 → (s.get (ENG_IN_BUDGET_BUDGET e (s.get
    (ENG_STATUS_INPUT e))) = 0 ∨ (s.en e).cycles + cycles ≤ s.get (ENG_IN_BUDGET_BUDGET e (s.get (ENG_STATUS_INPUT
    e)))) → sysOf (s.nextBundle e).1 = some w → iOp w = 8 → x = s.charge e cycles 0 → sysOf (x.nextBundle e).1 = some
    w → x.bundleFault e = none → exec (.trel e cycles) s = .next (x.commitBundle e none)) ∧
  (∀ (s : State) (e : Fin 192) (cycles w : Nat) (x : State), s.engState e = 2 → (s.get (ENG_IN_BUDGET_BUDGET e (s.get
    (ENG_STATUS_INPUT e))) = 0 ∨ (s.en e).cycles + cycles ≤ s.get (ENG_IN_BUDGET_BUDGET e (s.get (ENG_STATUS_INPUT
    e)))) → sysOf (s.nextBundle e).1 = some w → iOp w = 9 → x = s.charge e cycles 0 → sysOf (x.nextBundle e).1 = some
    w → x.bundleFault e = none → exec (.engFence e cycles) s = .next (x.stallOn e .fence)) ∧
  (∀ (s : State) (e : Fin 192) (cycles : Nat) (x : State), s.engState e = 2 → (s.get (ENG_IN_BUDGET_BUDGET e (s.get
    (ENG_STATUS_INPUT e))) = 0 ∨ (s.en e).cycles + cycles ≤ s.get (ENG_IN_BUDGET_BUDGET e (s.get (ENG_STATUS_INPUT
    e)))) → (s.nextBundle e).1.any (fun i => iCls i.2 == 2 && iOp i.2 == 0x3F) = true → x = s.charge e cycles 0 →
    sysOf (x.nextBundle e).1 = none → x.bundleFault e = none → exec (.tend e cycles) s = .next (x.commitBundle e
    none)) ∧
  (∀ (s : State) (e : Fin 192) (cycles : Nat) (err : Fin 5) (same : Bool) (x : State), s.engState e = 2 → (s.get
    (ENG_IN_BUDGET_BUDGET e (s.get (ENG_STATUS_INPUT e))) = 0 ∨ (s.en e).cycles + cycles ≤ s.get
    (ENG_IN_BUDGET_BUDGET e (s.get (ENG_STATUS_INPUT e)))) → err.val ≠ 3 → err.val ≠ 4 → x = (s.engCycle same).charge
    e cycles err → x.bundleFault e = none → sysOf (x.nextBundle e).1 = none → exec (.bundleIssue e ⟨cycles, same⟩
    err) s = .next (x.commitBundle e none)) ∧
  (∀ (s : State) (e : Fin 192) (cycles : Nat) (same : Bool) (x : State) (code addr : Nat), s.engState e = 2 → (s.get
    (ENG_IN_BUDGET_BUDGET e (s.get (ENG_STATUS_INPUT e))) = 0 ∨ (s.en e).cycles + cycles ≤ s.get
    (ENG_IN_BUDGET_BUDGET e (s.get (ENG_STATUS_INPUT e)))) → x = (s.engCycle same).charge e cycles 0 → x.bundleFault
    e = some (code, addr) → exec (.bundleIssue e ⟨cycles, same⟩ 0) s = .next (x.engFault e code addr false)) ∧
  (∀ (s : State) (e : Fin 192) (cycles : Nat) (same : Bool) (x : State), s.engState e = 2 → (s.get
    (ENG_IN_BUDGET_BUDGET e (s.get (ENG_STATUS_INPUT e))) = 0 ∨ (s.en e).cycles + cycles ≤ s.get
    (ENG_IN_BUDGET_BUDGET e (s.get (ENG_STATUS_INPUT e)))) → x = (s.engCycle same).charge e cycles 3 → (x.nextBundle
    e).2 = false → exec (.bundleIssue e ⟨cycles, same⟩ 3) s = .next (x.engFault e 0x0B 0 true)) ∧
  (∀ (s : State) (e : Fin 192) (c : Nat), (s.en e).stall = .dma c → (s.dmaState (e / 8) c = 0 ∨ s.dmaState (e / 8) c
    = 3) → exec (.dmaWaitResume e) s = .next (s.commitBundle e none)) ∧
  (∀ (s : State) (e : Fin 192), (s.en e).stall = .fence → exec (.fenceComplete e) s = .next (s.commitBundle e none)) ∧
  (∀ (s : State) (e : Fin 192), (s.en e).stall ≠ .fence → exec (.fenceComplete e) s = .next (s)) ∧
  (∀ (s : State) (e : Fin 192) (st d n w a : Nat), (s.en e).stall = .out st d (some n) → sysOf (s.nextBundle e).1 =
    some w → s.outSlot e = some a → exec (.outOpenResume e) s = .next (s.commitBundle e (some (n, a)))) ∧
  (∀ (s : State) (b : Fin 24) (p : EngPush) (r : List EngPush) (x : State), s.bayPushes b = p :: r → s.pushAhead b p
    = false → s.trRing p.seq = true → x = (s.setPushes b r).ringPush p.seq p.x → (List.range 8).find? (fun j => (x.en
    (8 * b + j)).stall.isPush) = none → exec (.enginePushArrive b) s = .next (x)) ∧
  (∀ (s : State) (b : Fin 24) (p : EngPush) (r : List EngPush) (j : Nat) (x : State), s.bayPushes b = p :: r →
    s.pushAhead b p = false → s.trRing p.seq = true → x = (s.setPushes b r).ringPush p.seq p.x → (List.range 8).find?
    (fun j => (x.en (8 * b + j)).stall.isPush) = some j → exec (.enginePushArrive b) s = .next (x.commitBundle (8 * b
    + j) none)) ∧
  (∀ (s : State) (b : Fin 24) (p : EngPush) (r : List EngPush), s.bayPushes b = p :: r → s.pushAhead b p = true →
    exec (.enginePushArrive b) s = .next (s))

/-- Each clause below holds for every state and all operands that meet its hypotheses, and concludes that exec of the
  command answers exactly the next state written in it. (1) DDR_REFRESH: an all-bank refresh changes nothing that the
  device shows. (2) ZQ_SHORT_CALIBRATION changes nothing that the device shows. (3) DDR_ALERT on a channel that runs:
  its reissued commands are counted and ALERT is raised; t holds this report and those of the last 1 ms. (4)
  DDR_ALERT, the third within 1 ms: the channel also retires, for cause 2. (5) DDR_ALERT on a channel that does not
  run: nothing. (6) DDR_READ_DECODE of a codeword that needs no correction, or of a burst that already waits for the
  scrubber: it decodes (ddrDecode: its counters, events, retirement). (7) DDR_READ_DECODE of a codeword that is
  corrected: its burst also joins the scrubber's pending addresses. (8) DDR_READ_DECODE of a codeword that is
  corrected while 16 addresses wait: the address is dropped and DDR_CNT_SCRUB_DROP counts it. (9) DDR_READ_DECODE on
  a channel that does not run: nothing. (10) SCRUB_READ with SCRUB_INTERVAL past and a pending address: that burst is
  read, its codewords decode for requester 28, and it leaves the list; x is s with the time of this read. (11)
  SCRUB_READ with no pending address: the next burst of the walk is read, and SCRUB_NEXT moves on by 64. (12)
  SCRUB_READ of the last burst of the channel: the walk begins again at 0 and the pass is counted. (13) SCRUB_READ on
  a channel that does not run, with the scrubber off, or before SCRUB_INTERVAL has passed: nothing. (14)
  DDR_ERASE_WRITE by the MC: the erasure mode and position are written (eraseWrite). (15) DDR_ERASE_WRITE by a host:
  a bad access of cause 3, with no other effect. (16) DDR_ERASE_WRITE by a master whose writes do not reach the
  registers: only the Unsupported Request, where its link is up. (17) DDR_RETIRE by firmware: the channel retires for
  that cause. (18) DDR_RETIRE for a second failing position: 0x4021 is logged first. (R349, R350, R354, R355, R356,
  R357, R358) -/
def Obligations.DramComplete : Prop :=
  (∀ (s : State) (k : Fin 8), exec (.ddrRefresh k) s = .next (s)) ∧
  (∀ (s : State) (k : Fin 8), exec (.zqShortCalibration k) s = .next (s)) ∧
  (∀ (s : State) (k : Fin 8) (m : Nat) (t : List Nat), s.get (DDR_STATUS_STATE k) = 2 → t = s.tb.ticks :: (s.drm
    k).alerts.filter (fun x => decide (s.tb.ticks < x + 1000000)) → t.length < 3 → exec (.ddrAlert k m) s = .next
    (((s.modDrm k (fun x => { x with alerts := t })).bumpBy (DDR_CNT_ALERT k) m).raise 4 (DDR_EVENTS_ALERT k))) ∧
  (∀ (s : State) (k : Fin 8) (m : Nat) (t : List Nat), s.get (DDR_STATUS_STATE k) = 2 → t = s.tb.ticks :: (s.drm
    k).alerts.filter (fun x => decide (s.tb.ticks < x + 1000000)) → 3 ≤ t.length → exec (.ddrAlert k m) s = .next
    ((((s.modDrm k (fun x => { x with alerts := t })).bumpBy (DDR_CNT_ALERT k) m).raise 4 (DDR_EVENTS_ALERT
    k)).ddrRetire k 2 true)) ∧
  (∀ (s : State) (k : Fin 8) (m : Nat), s.get (DDR_STATUS_STATE k) ≠ 2 → exec (.ddrAlert k m) s = .next (s)) ∧
  (∀ (s : State) (k : Fin 8) (addr : Nat) (req : Fin 28) (errs : List (Nat × Nat)) (x : State), s.get
    (DDR_STATUS_STATE k) = 2 → x = s.ddrDecode k (addr % 2 ^ 36) req errs → (s.ddrFixes k (addr % 2 ^ 36) errs =
    false ∨ addr % 2 ^ 36 / 64 * 64 ∈ (x.drm k).pend) → exec (.ddrReadDecode k addr req errs) s = .next (x)) ∧
  (∀ (s : State) (k : Fin 8) (addr : Nat) (req : Fin 28) (errs : List (Nat × Nat)) (x : State), s.get
    (DDR_STATUS_STATE k) = 2 → x = s.ddrDecode k (addr % 2 ^ 36) req errs → s.ddrFixes k (addr % 2 ^ 36) errs = true
    → addr % 2 ^ 36 / 64 * 64 ∉ (x.drm k).pend → (x.drm k).pend.length < 16 → exec (.ddrReadDecode k addr req errs) s
    = .next (x.modDrm k (fun y => { y with pend := y.pend ++ [addr % 2 ^ 36 / 64 * 64] }))) ∧
  (∀ (s : State) (k : Fin 8) (addr : Nat) (req : Fin 28) (errs : List (Nat × Nat)) (x : State), s.get
    (DDR_STATUS_STATE k) = 2 → x = s.ddrDecode k (addr % 2 ^ 36) req errs → s.ddrFixes k (addr % 2 ^ 36) errs = true
    → addr % 2 ^ 36 / 64 * 64 ∉ (x.drm k).pend → 16 ≤ (x.drm k).pend.length → exec (.ddrReadDecode k addr req errs) s
    = .next (x.bump (DDR_CNT_SCRUB_DROP k))) ∧
  (∀ (s : State) (k : Fin 8) (addr : Nat) (req : Fin 28) (errs : List (Nat × Nat)), s.get (DDR_STATUS_STATE k) ≠ 2 →
    exec (.ddrReadDecode k addr req errs) s = .next (s)) ∧
  (∀ (s : State) (k : Fin 8) (words : List (List (Nat × Nat))) (x : State) (a : Nat) (r : List Nat), s.get
    (DDR_STATUS_STATE k) = 2 → s.flag (DDR_SCRUB_EN k) = true → s.scrubDue k = true → x = s.modDrm k (fun y =>
    { y with scrubAt := some s.tb.ticks }) → (x.drm k).pend = a :: r → exec (.scrubRead k words) s = .next
    ((words.take 4).foldl (fun y errs => y.ddrDecode k a 28 errs) (x.modDrm k (fun y => { y with pend := r })))) ∧
  (∀ (s : State) (k : Fin 8) (words : List (List (Nat × Nat))) (x : State) (a : Nat), s.get (DDR_STATUS_STATE k) = 2
    → s.flag (DDR_SCRUB_EN k) = true → s.scrubDue k = true → x = s.modDrm k (fun y =>
    { y with scrubAt := some s.tb.ticks }) → (x.drm k).pend = [] → a = x.rd64 (DDR_SCRUB_NEXT k) → a + 64 < x.ddrGib
    k * 2 ^ 30 → exec (.scrubRead k words) s = .next ((words.take 4).foldl (fun y errs => y.ddrDecode k a 28 errs)
    (x.wr64 (DDR_SCRUB_NEXT k) (a + 64)))) ∧
  (∀ (s : State) (k : Fin 8) (words : List (List (Nat × Nat))) (x : State) (a : Nat), s.get (DDR_STATUS_STATE k) = 2
    → s.flag (DDR_SCRUB_EN k) = true → s.scrubDue k = true → x = s.modDrm k (fun y =>
    { y with scrubAt := some s.tb.ticks }) → (x.drm k).pend = [] → a = x.rd64 (DDR_SCRUB_NEXT k) → x.ddrGib k * 2 ^
    30 ≤ a + 64 → exec (.scrubRead k words) s = .next ((words.take 4).foldl (fun y errs => y.ddrDecode k a 28 errs)
    ((x.wr64 (DDR_SCRUB_NEXT k) 0).bump (DDR_CNT_SCRUB_PASS k)))) ∧
  (∀ (s : State) (k : Fin 8) (words : List (List (Nat × Nat))), (s.get (DDR_STATUS_STATE k) ≠ 2 ∨ s.flag
    (DDR_SCRUB_EN k) = false ∨ s.scrubDue k = false) → exec (.scrubRead k words) s = .next (s)) ∧
  (∀ (s : State) (k : Fin 8) (v : Word), s.reaches 0 = true → exec (.ddrEraseWrite k 0 v) s = .next (s.eraseWrite k
    v.toNat)) ∧
  (∀ (s : State) (k : Fin 8) (m : Fin 3) (v : Word), s.reaches m = true → m ≠ 0 → exec (.ddrEraseWrite k m v) s =
    .next (s.badAccess m (DDR_ERASE k) 3)) ∧
  (∀ (s : State) (k : Fin 8) (m : Fin 3) (v : Word), s.reaches m = false → exec (.ddrEraseWrite k m v) s = .next
    (s.unreached m)) ∧
  (∀ (s : State) (k cause : Fin 8), (cause ≠ 3 ∨ s.get (DDR_STATUS_STATE k) = 3) → exec (.ddrRetire k cause) s =
    .next (s.ddrRetire k cause true)) ∧
  (∀ (s : State) (k cause : Fin 8), cause = 3 → s.get (DDR_STATUS_STATE k) ≠ 3 → exec (.ddrRetire k cause) s = .next
    ((s.logC 0x4021 k 0).ddrRetire k cause true))

/-- Each clause below holds for every state and all operands that meet its hypotheses, and concludes that exec of the
  command answers exactly the next state written in it. (1) ARB_REQUEST_RAISE at a channel that runs and grants
  nobody: the requester joins and is decided on. (2) ARB_REQUEST_RAISE while another requester holds the channel: it
  joins, and stays raised or loses by rank. (3) ARB_REQUEST_RAISE at a delivery port by the event ring or by a stream
  that has a delivery to transfer: it joins and is decided on. (4) ARB_REQUEST_RAISE at an arbiter that does not
  serve, by a requester that has raised already, that holds the grant, that the arbiter does not have, or that has no
  delivery to transfer: nothing. (5) ARB_REQUEST_DROP by the holder: the next grant is decided. (6) ARB_REQUEST_DROP
  with nobody holding: nothing. (7) ARB_BREAK_POINT at a channel with a raised requester ahead of the holder: the
  holder is preempted, counted, and keeps its request and age. (8) ARB_BREAK_POINT at a delivery port: the same,
  without the count. (9) ARB_BREAK_POINT with no raised requester ahead of the holder: the grant goes on. (10)
  ARB_BREAK_POINT with nobody holding: nothing. (11) ARB_BACKOFF_END: the loser raises its request again. (12)
  ARB_BACKOFF_END of a requester that is not in back-off: nothing. (13) ARB_RANK_WRITE by the MC at a channel: every
  requester of the word takes its rank. (14) ARB_RANK_WRITE by a host at a channel, with no change of a privileged
  rank: every other requester of the word takes its rank. (15) ARB_RANK_WRITE by a host that would change a
  privileged rank: those stay, the write counts as a bad access of cause 3, the others are written. (16)
  ARB_RANK_WRITE of a word that a channel does not have: nothing. (17) ARB_RANK_WRITE by the MC at a delivery port:
  every requester of the word takes its rank. (18) ARB_RANK_WRITE by a host at a delivery port: a bad access of cause
  3, with no other effect. (19) ARB_RANK_WRITE by a master whose writes do not reach the registers: only the
  Unsupported Request, where its link is up. (20) WAIT_WATCHDOG_EXPIRY of a wait that closes a circle: GLOBAL_WDOG_*
  publish the lowest unit of the circle, it is counted, raised, logged 0x4051 and aborted. (21) WAIT_WATCHDOG_EXPIRY
  of a wait that closes no circle: counted, raised and logged 0x4050. (R130, R361, R362, R363, R364, R365, R366,
  R368, R382) -/
def Obligations.ArbitersComplete : Prop :=
  (∀ (s : State) (a : Fin 10) (r : Fin 43), a.val < 8 → r.val < 28 → s.arbServes a = true → (s.arbOf a).hold = none →
    (s.arbOf a).reqs.any (fun (q : ArbReq) => q.req == r.val) = false → exec (.arbRequestRaise a r) s = .next
    ((s.modArb a (fun x => { x with reqs := x.reqs ++ [⟨r, s.tb.ticks, false, 8⟩] })).arbRaised a r)) ∧
  (∀ (s : State) (a : Fin 10) (r : Fin 43) (h : ArbReq), a.val < 8 → r.val < 28 → s.arbServes a = true → (s.arbOf
    a).hold = some h → h.req ≠ r.val → (s.arbOf a).reqs.any (fun (q : ArbReq) => q.req == r.val) = false → exec
    (.arbRequestRaise a r) s = .next ((s.modArb a (fun x =>
    { x with reqs := x.reqs ++ [⟨r, s.tb.ticks, false, 8⟩] })).arbRaised a r)) ∧
  (∀ (s : State) (a : Fin 10) (r : Fin 43), 8 ≤ a.val → (r.val = 42 ∨ (s.servedDlv (a - 8) r).isSome = true) →
    (s.arbOf a).hold = none → (s.arbOf a).reqs.any (fun (q : ArbReq) => q.req == r.val) = false → exec
    (.arbRequestRaise a r) s = .next ((s.modArb a (fun x =>
    { x with reqs := x.reqs ++ [⟨r, s.tb.ticks, false, 8⟩] })).arbRaised a r)) ∧
  (∀ (s : State) (a : Fin 10) (r : Fin 43), (s.arbServes a = false ∨ (s.arbOf a).reqs.any (fun (q : ArbReq) => q.req
    == r.val) = true ∨ (∃ h, (s.arbOf a).hold = some h ∧ h.req = r.val) ∨ (a.val < 8 ∧ 28 ≤ r.val) ∨ (8 ≤ a.val ∧
    r.val ≠ 42 ∧ (s.servedDlv (a - 8) r).isSome = false)) → exec (.arbRequestRaise a r) s = .next (s)) ∧
  (∀ (s : State) (a : Fin 10) (h : ArbReq), (s.arbOf a).hold = some h → exec (.arbRequestDrop a) s = .next ((s.modArb
    a (fun x => { x with hold := none })).decideArb a)) ∧
  (∀ (s : State) (a : Fin 10), (s.arbOf a).hold = none → exec (.arbRequestDrop a) s = .next (s)) ∧
  (∀ (s : State) (a : Fin 10) (h : ArbReq), a.val < 8 → (s.arbOf a).hold = some h → (s.arbOf a).reqs.any (fun (q :
    ArbReq) => !q.backoff && s.aheadOf a q.req h.req) = true → exec (.arbBreakPoint a) s = .next ((((s.modArb a (fun
    x => { x with hold := none })).bump (DDR_CNT_PREEMPT a)).decideArb a).modArb a (fun x =>
    { x with reqs := x.reqs ++ [{ h with count := 8 }] }))) ∧
  (∀ (s : State) (a : Fin 10) (h : ArbReq), 8 ≤ a.val → (s.arbOf a).hold = some h → (s.arbOf a).reqs.any (fun (q :
    ArbReq) => !q.backoff && s.aheadOf a q.req h.req) = true → exec (.arbBreakPoint a) s = .next (((s.modArb a (fun x
    => { x with hold := none })).decideArb a).modArb a (fun x =>
    { x with reqs := x.reqs ++ [{ h with count := 8 }] }))) ∧
  (∀ (s : State) (a : Fin 10) (h : ArbReq), (s.arbOf a).hold = some h → (s.arbOf a).reqs.any (fun (q : ArbReq) =>
    !q.backoff && s.aheadOf a q.req h.req) = false → exec (.arbBreakPoint a) s = .next (s)) ∧
  (∀ (s : State) (a : Fin 10), (s.arbOf a).hold = none → exec (.arbBreakPoint a) s = .next (s)) ∧
  (∀ (s : State) (a : Fin 10) (r : Fin 43), (s.arbOf a).reqs.any (fun (q : ArbReq) => q.req == r.val && q.backoff) =
    true → exec (.arbBackoffEnd a r) s = .next ((s.modArb a (fun x => { x with
    reqs := x.reqs.map (fun (q : ArbReq) => if q.req == r.val then { q with backoff := false } else q) })).arbRaised
    a r)) ∧
  (∀ (s : State) (a : Fin 10) (r : Fin 43), (s.arbOf a).reqs.any (fun (q : ArbReq) => q.req == r.val && q.backoff) =
    false → exec (.arbBackoffEnd a r) s = .next (s)) ∧
  (∀ (s : State) (a : Fin 10) (w : Fin 6) (v : Word), s.reaches 0 = true → a.val < 8 → w.val < 4 → exec
    (.arbRankWrite a w 0 v) s = .next (((List.range 8).filter (fun i => decide (8 * w.val + i < 28))).foldl (fun x i
    => x.put ⟨DDR_ARB_RANK a w, 4 * i, 3⟩ (getBits v.toNat (4 * i) 3)) s)) ∧
  (∀ (s : State) (a : Fin 10) (w : Fin 6) (m : Fin 3) (v : Word) (y : State), s.reaches m = true → m ≠ 0 → a.val < 8
    → w.val < 4 → y = ((List.range 8).filter (fun i => decide (8 * w.val + i < 28))).foldl (fun x i => if s.arbPriv a
    (8 * w.val + i) then x else x.put ⟨DDR_ARB_RANK a w, 4 * i, 3⟩ (getBits v.toNat (4 * i) 3)) s → ((List.range
    8).filter (fun i => decide (8 * w.val + i < 28))).any (fun i => s.arbPriv a (8 * w.val + i) && getBits (s.rdN
    (DDR_ARB_RANK a w)) (4 * i) 3 != getBits v.toNat (4 * i) 3) = false → exec (.arbRankWrite a w m v) s = .next (y)) ∧
  (∀ (s : State) (a : Fin 10) (w : Fin 6) (m : Fin 3) (v : Word) (y : State), s.reaches m = true → m ≠ 0 → a.val < 8
    → w.val < 4 → y = ((List.range 8).filter (fun i => decide (8 * w.val + i < 28))).foldl (fun x i => if s.arbPriv a
    (8 * w.val + i) then x else x.put ⟨DDR_ARB_RANK a w, 4 * i, 3⟩ (getBits v.toNat (4 * i) 3)) s → ((List.range
    8).filter (fun i => decide (8 * w.val + i < 28))).any (fun i => s.arbPriv a (8 * w.val + i) && getBits (s.rdN
    (DDR_ARB_RANK a w)) (4 * i) 3 != getBits v.toNat (4 * i) 3) = true → exec (.arbRankWrite a w m v) s = .next
    (y.badAccess m (DDR_ARB_RANK a w) 3)) ∧
  (∀ (s : State) (a : Fin 10) (w : Fin 6) (m : Fin 3) (v : Word), s.reaches m = true → a.val < 8 → 4 ≤ w.val → exec
    (.arbRankWrite a w m v) s = .next (s)) ∧
  (∀ (s : State) (a : Fin 10) (w : Fin 6) (v : Word), s.reaches 0 = true → 8 ≤ a.val → exec (.arbRankWrite a w 0 v) s
    = .next (((List.range 8).filter (fun i => decide (8 * w.val + i < 43))).foldl (fun x i => x.put ⟨DLV_ARB_RANK (a
    - 8) w, 4 * i, 3⟩ (getBits v.toNat (4 * i) 3)) s)) ∧
  (∀ (s : State) (a : Fin 10) (w : Fin 6) (m : Fin 3) (v : Word), s.reaches m = true → m ≠ 0 → 8 ≤ a.val → exec
    (.arbRankWrite a w m v) s = .next (s.badAccess m (DLV_ARB_RANK (a - 8) w) 3)) ∧
  (∀ (s : State) (a : Fin 10) (w : Fin 6) (m : Fin 3) (v : Word), s.reaches m = false → exec (.arbRankWrite a w m v)
    s = .next (s.unreached m)) ∧
  (∀ (s : State) (u v : Fin 9 × Nat) (res : Fin 5) (a : Fin 10) (circle : List (Fin 9 × Nat)), s.lowestUnit a
    (circle.take 8) = some v → exec (.waitWatchdogExpiry u res a circle) s = .next ((((((((s.wrN GLOBAL_WDOG_UNIT
    (unitCode v)).wrN GLOBAL_WDOG_RESOURCE res).wrTime GLOBAL_WDOG_TIME s.now).publish GLOBAL_WDOG_STATUS).bump
    GLOBAL_CNT_WDOG_ABORT).raise 11 GLOBAL_EVENTS_WDOG_ABORT).logC 0x4051 (arbChan a) (unitCode v)).abortUnit v)) ∧
  (∀ (s : State) (u : Fin 9 × Nat) (res : Fin 5) (a : Fin 10), exec (.waitWatchdogExpiry u res a []) s = .next
    (((s.bump GLOBAL_CNT_WDOG_LONG).raise 11 GLOBAL_EVENTS_WDOG_LONG).logLim 0x4050 0 (arbChan a) (unitCode u * 65536
    + res) false []))

/-- Each clause below holds for every state and all operands that meet its hypotheses, and concludes that exec of the
  command answers exactly the next state written in it. (1) DELIVERY_READY of an active ring that is not being
  withdrawn: its first delivery takes the ring's next descriptor, past every descriptor that breaks R373 (takeDesc).
  (2) DELIVERY_READY of any other ring: nothing. (3) DESC_TAIL_WRITE of four bytes with the tail in range: DESC_TAIL
  is written. (4) DESC_TAIL_WRITE out of range: a bad access of cause 3, with no other effect. (5) DESC_TAIL_WRITE of
  another width: a bad access of cause 1. (6) DESC_TAIL_WRITE by a master whose writes do not reach the registers:
  only the Unsupported Request, where its link is up. (7) DESC_FETCH with the port's grant to DESC, on an active ring
  with no read outstanding, bus mastering enabled and descriptors available: up to sixteen are read, never past the
  ring's end or a 4 KiB boundary. (8) DESC_FETCH without one of these: nothing. (9) DESC_COMPLETION_RECEIVE, a
  success: the ring has the descriptors (index, address, length) and no read outstanding. (10)
  DESC_COMPLETION_RECEIVE, an Unsupported Request or Completer Abort: the read failed; it is issued once more or the
  ring is withdrawn (fetchFailed). (11) DESC_COMPLETION_RECEIVE of a read given up: it is counted as late, and its
  tag is free again. (12) DESC_COMPLETION_RECEIVE of a tag in no use: it is counted and noted as an Unexpected
  Completion. (13) COMPLETION_TIMEOUT of an outstanding read: Completion Timeout is noted and the read failed. (14)
  COMPLETION_TIMEOUT of a read given up: its tag is free again. (15) PAYLOAD_TRANSFER with credit, by the holder of
  the port's arbiter: its wait ends and up to n bursts of its delivery are written (transfer). (16) PAYLOAD_TRANSFER
  without credit: the delivery waits. (17) PAYLOAD_TRANSFER with bus mastering disabled: nothing. (18)
  PAYLOAD_TRANSFER with nobody holding the arbiter: nothing. (19) POSTED_CREDIT_RETURN: every delivery of the port
  that waits with a descriptor waits no longer. (20) CREDIT_WAIT_EXPIRY of a delivery that has waited longer than
  CREDIT_NS: it is marked HOST_LATE, WAITING shows, the wait is counted, raised and logged 0x5102. (21)
  CREDIT_WAIT_EXPIRY before CREDIT_NS has passed: nothing. (22) CREDIT_WAIT_EXPIRY with no such delivery: nothing.
  (23) DEACT_EXPIRY of an active ring with a wait of DEACT_MS: the ring is withdrawn and 0x5104 is logged. (24)
  DEACT_EXPIRY with DEACT_MS of 0, of a ring that is not active, or before that time: nothing. (R369, R373, R374,
  R376, R382, R394, R395, R404, R422) -/
def Obligations.DescriptorsComplete : Prop :=
  (∀ (s : State) (st : Fin 256) (p : Fin 2), s.flag (activeF st p) = true → (s.ring st p).withdraw = false → exec
    (.deliveryReady st p) s = .next (s.takeDesc st p ((s.ring st p).descs.length + 1))) ∧
  (∀ (s : State) (st : Fin 256) (p : Fin 2), (s.flag (activeF st p) = false ∨ (s.ring st p).withdraw = true) → exec
    (.deliveryReady st p) s = .next (s)) ∧
  (∀ (s : State) (st : Fin 256) (p : Fin 2) (m : Fin 3) (v : Word), s.reaches m = true → s.tailOk st p v = true →
    exec (.descTailWrite st p m 4 v) s = .next (s.wr (DLV_DESC_TAIL st p) v)) ∧
  (∀ (s : State) (st : Fin 256) (p : Fin 2) (m : Fin 3) (v : Word), s.reaches m = true → s.tailOk st p v = false →
    exec (.descTailWrite st p m 4 v) s = .next (s.badAccess m (DLV_DESC_TAIL st p) 3)) ∧
  (∀ (s : State) (st : Fin 256) (p : Fin 2) (m : Fin 3) (v : Word) (z : Nat), s.reaches m = true → z ≠ 4 → exec
    (.descTailWrite st p m z v) s = .next (s.badAccess m (DLV_DESC_TAIL st p) 1)) ∧
  (∀ (s : State) (st : Fin 256) (p : Fin 2) (m : Fin 3) (v : Word) (z : Nat), s.reaches m = false → exec
    (.descTailWrite st p m z v) s = .next (s.unreached m)) ∧
  (∀ (s : State) (st : Fin 256) (p : Fin 2) (n : Nat), s.arbHolds (8 + p) 42 = true → s.flag (activeF st p) = true →
    (s.ring st p).withdraw = false → (s.ring st p).fetch = none → s.flag (PCIE_STATUS_BME p) = true → n = min (min
    (16 - (s.ring st p).descs.length) ((s.rd (DLV_DESC_TAIL st p) - s.rd (DLV_DESC_HEAD st p)).toNat - (s.ring st
    p).descs.length)) (min (s.ringSize st p - (s.rdN (DLV_DESC_HEAD st p) + (s.ring st p).descs.length) % s.ringSize
    st p) (256 - (s.rdN (DLV_DESC_HEAD st p) + (s.ring st p).descs.length) % s.ringSize st p % 256)) → 0 < n → exec
    (.descFetch st p) s = .next (s.readDescs st p ((s.rdN (DLV_DESC_HEAD st p) + (s.ring st p).descs.length) %
    s.ringSize st p) n false)) ∧
  (∀ (s : State) (st : Fin 256) (p : Fin 2), (s.arbHolds (8 + p) 42 = false ∨ s.flag (activeF st p) = false ∨ (s.ring
    st p).withdraw = true ∨ (s.ring st p).fetch.isSome = true ∨ s.flag (PCIE_STATUS_BME p) = false) → exec
    (.descFetch st p) s = .next (s)) ∧
  (∀ (s : State) (p : Fin 2) (tag i n st : Nat) (b : Bool) (data : List Byte), s.readerOf p tag = some st → (s.ring
    st p).fetch = some (tag, i, n, b) → exec (.descCompletionReceive p tag true data) s = .next (s.modRing st p (fun
    r => { r with
    fetch := none,
    descs := r.descs ++ (List.range n).map (fun k => (i + k, bytesAt data (16 * k) 8, bytesAt data (16 * k + 8) 4)) }))) ∧
  (∀ (s : State) (p : Fin 2) (tag i n st : Nat) (b : Bool) (data : List Byte), s.readerOf p tag = some st → (s.ring
    st p).fetch = some (tag, i, n, b) → exec (.descCompletionReceive p tag false data) s = .next (s.fetchFailed st
    p)) ∧
  (∀ (s : State) (p : Fin 2) (tag : Nat) (ok : Bool) (data : List Byte), s.readerOf p tag = none → tag ∈ (s.hport
    p).late → exec (.descCompletionReceive p tag ok data) s = .next ((s.bump (PCIE_CNT_LATE_CPL p)).modHport p (fun x
    => { x with late := x.late.erase tag }))) ∧
  (∀ (s : State) (p : Fin 2) (tag : Nat) (ok : Bool) (data : List Byte), s.readerOf p tag = none → tag ∉ (s.hport
    p).late → exec (.descCompletionReceive p tag ok data) s = .next ((s.bump (PCIE_CNT_LATE_CPL p)).aerAdv p 16)) ∧
  (∀ (s : State) (p : Fin 2) (tag st : Nat), s.readerOf p tag = some st → exec (.completionTimeout p tag) s = .next
    ((s.aerUnc p 14).fetchFailed st p)) ∧
  (∀ (s : State) (p : Fin 2) (tag : Nat), s.readerOf p tag = none → exec (.completionTimeout p tag) s = .next
    (s.modHport p (fun x => { x with late := x.late.erase tag }))) ∧
  (∀ (s : State) (p : Fin 2) (n : Nat) (h : ArbReq) (d e : Delivery) (x : State), (s.arbOf (8 + p)).hold = some h →
    s.servedDlv p h.req = some d → s.flag (PCIE_STATUS_BME p) = true → x = s.endWait d.num d.stream → x.dlv.find?
    (fun (y : Delivery) => y.num == d.num) = some e → exec (.payloadTransfer p n true) s = .next (x.transfer e n)) ∧
  (∀ (s : State) (p : Fin 2) (n : Nat) (h : ArbReq) (d : Delivery), (s.arbOf (8 + p)).hold = some h → s.servedDlv p
    h.req = some d → s.flag (PCIE_STATUS_BME p) = true → exec (.payloadTransfer p n false) s = .next (s.startWait
    d.num)) ∧
  (∀ (s : State) (p : Fin 2) (n : Nat) (h : ArbReq) (d : Delivery) (b : Bool), (s.arbOf (8 + p)).hold = some h →
    s.servedDlv p h.req = some d → s.flag (PCIE_STATUS_BME p) = false → exec (.payloadTransfer p n b) s = .next (s)) ∧
  (∀ (s : State) (p : Fin 2) (n : Nat) (b : Bool), (s.arbOf (8 + p)).hold = none → exec (.payloadTransfer p n b) s =
    .next (s)) ∧
  (∀ (s : State) (p : Fin 2), exec (.postedCreditReturn p) s = .next ((s.dlv.filter (fun (d : Delivery) => d.port ==
    p.val && d.desc.isSome && d.waitFrom.isSome)).foldl (fun x d => x.endWait d.num d.stream) s)) ∧
  (∀ (s : State) (st : Fin 256) (p : Fin 2) (d : Delivery), s.waiter st p = some d → s.creditNs st < s.waitedFor d →
    exec (.creditWaitExpiry st p) s = .next (((((s.modDlv d.num (fun x => { x with hostLate := true })).showWaiting
    st).bump (DLV_CNT_WAIT st)).raise 9 (DLV_EVENTS_WAITING st)).logOnce 0x5102 st st 0)) ∧
  (∀ (s : State) (st : Fin 256) (p : Fin 2) (d : Delivery), s.waiter st p = some d → s.waitedFor d ≤ s.creditNs st →
    exec (.creditWaitExpiry st p) s = .next (s)) ∧
  (∀ (s : State) (st : Fin 256) (p : Fin 2), s.waiter st p = none → exec (.creditWaitExpiry st p) s = .next (s)) ∧
  (∀ (s : State) (st : Fin 256) (p : Fin 2), s.deactMs st ≠ 0 → s.flag (activeF st p) = true → s.dlv.any (fun (d :
    Delivery) => d.stream == st.val && d.port == p.val && d.waitFrom.any (fun t => decide (t + 1000000 * s.deactMs st
    ≤ s.tb.ticks))) = true → exec (.deactExpiry st p) s = .next ((s.withdraw st p).logC 0x5104 st p)) ∧
  (∀ (s : State) (st : Fin 256) (p : Fin 2), (s.deactMs st = 0 ∨ s.flag (activeF st p) = false ∨ s.dlv.any (fun (d :
    Delivery) => d.stream == st.val && d.port == p.val && d.waitFrom.any (fun t => decide (t + 1000000 * s.deactMs st
    ≤ s.tb.ticks))) = false) → exec (.deactExpiry st p) s = .next (s))

/-- Each clause below holds for every state and all operands that meet its hypotheses, and concludes that exec of the
  command answers exactly the next state written in it. (1) IRQ_MODERATION_EXPIRY once IRQ_US has passed since the
  first tag not yet signalled: the ring's tags are signalled. (2) IRQ_MODERATION_EXPIRY with none, or before:
  nothing. (3) RATE_WINDOW_END one second after the window began: a stream that delivered more lines than its rate is
  counted and logged, and every stream's window begins anew (rateWindow). (4) RATE_WINDOW_END with the outputs not
  committed, or before that instant: nothing. (5) FLUSH_US_EXPIRY: the partial batch of log entries, if there is one,
  becomes ready for delivery (logBatch). (6) RECALL_GO: the request's fields are written and its walk begins at the
  newest record (recallStart). (7) RECALL_GO while a request is in progress: a bad access of cause 3, with no other
  effect. (8) RECALL_GO by a master whose writes do not reach the registers: only the Unsupported Request, where its
  link is up. (9) RECALL_RECORD_READ of a record of the walk that the request does not want: it is counted as scanned
  and the walk goes on at the record before it (recallOn). x is s with the granted writes of DDR4 landed; h is the
  record's header. (10) RECALL_RECORD_READ of a record that it wants, with a Ledger entry free: it becomes a line of
  the OUT stream, and the walk goes on. (11) RECALL_RECORD_READ of such a record with no Ledger entry free:
  DLV_CNT_NOENTRY counts it and the record waits. (12) RECALL_RECORD_READ of a record older than NOT_BEFORE: the
  request ends for reason 3. (13) RECALL_RECORD_READ of a record that has been overwritten: reason 2. (14)
  RECALL_RECORD_READ of a header or tag that cannot be corrected: 0x5131 is logged and the request ends for reason 5.
  (15) RECALL_RECORD_READ in a retired channel: reason 4. (16) RECALL_RECORD_READ before RECALL's grant: only those
  writes land. (17) RECALL_RECORD_READ with no walk in progress: only those writes land. (R368, R376, R386, R387,
  R396, R397) -/
def Obligations.DeliveryTimesComplete : Prop :=
  (∀ (s : State) (st : Fin 256) (p : Fin 2), (s.ring st p).unsig ≠ 0 → (s.ring st p).unsigAt + 1000 * s.get
    (DLV_IRQ_IRQ_US st) ≤ s.tb.ticks → exec (.irqModerationExpiry st p) s = .next (s.ringIrq st p)) ∧
  (∀ (s : State) (st : Fin 256) (p : Fin 2), (s.ring st p).unsig = 0 ∨ s.tb.ticks < (s.ring st p).unsigAt + 1000 *
    s.get (DLV_IRQ_IRQ_US st) → exec (.irqModerationExpiry st p) s = .next (s)) ∧
  (∀ (s : State), s.outCommit = true → s.rateFrom + 1000000000 ≤ s.tb.ticks → exec (.rateWindowEnd) s = .next
    ((s.setRateFrom (s.rateFrom + 1000000000)).rateWindow)) ∧
  (∀ (s : State), (s.outCommit = false ∨ s.tb.ticks < s.rateFrom + 1000000000) → exec (.rateWindowEnd) s = .next (s)) ∧
  (∀ (s : State) (st : Fin 256), exec (.flushUsExpiry st) s = .next (s.logBatch st)) ∧
  (∀ (s : State) (m : Fin 3) (v : Word), s.reaches m = true → s.flag DLV_RECALL_REQ_BUSY = false → exec (.recallGo m
    v) s = .next ((((s.put DLV_RECALL_REQ_KEY (getBits v.toNat 24 2)).put DLV_RECALL_REQ_OUT (getBits v.toNat 16
    8)).put DLV_RECALL_REQ_STREAM (getBits v.toNat 8 8)).recallStart)) ∧
  (∀ (s : State) (m : Fin 3) (v : Word), s.reaches m = true → s.flag DLV_RECALL_REQ_BUSY = true → exec (.recallGo m
    v) s = .next (s.badAccess m DLV_RECALL_REQ 3)) ∧
  (∀ (s : State) (m : Fin 3) (v : Word), s.reaches m = false → exec (.recallGo m v) s = .next (s.unreached m)) ∧
  (∀ (s : State) (bad : List Nat) (a : Nat) (want : Option Nat) (x : State) (h : List Byte), x = s.ddrLand → h =
    x.ddrRd a 128 → x.recl.walk = some (a, want) → x.arbWaits (chanAt a) reqRecall = false → x.get (DDR_STATUS_STATE
    (a / 2 ^ 36 % 8)) ≠ 3 → (want = none ∨ want = some (bytesAt h 0 8)) → x.recl.notBefore ≤ recordTime h →
    x.recl.wants h = false → exec (.recallRecordRead false bad) s = .next ((x.modRecl (fun r =>
    { r with scanned := r.scanned + 1 })).recallOn (bytesAt h 8 8) (bytesAt h 0 8))) ∧
  (∀ (s : State) (bad : List Nat) (a : Nat) (want : Option Nat) (x : State) (h : List Byte) (pool : Option Nat) (y :
    State), x = s.ddrLand → h = x.ddrRd a 128 → x.recl.walk = some (a, want) → x.arbWaits (chanAt a) reqRecall =
    false → x.get (DDR_STATUS_STATE (a / 2 ^ 36 % 8)) ≠ 3 → (want = none ∨ want = some (bytesAt h 0 8)) →
    x.recl.notBefore ≤ recordTime h → x.recl.wants h = true → x.entryFor [x.recl.out] = some pool → y = x.modRecl
    (fun r => { r with scanned := r.scanned + 1, found := r.found + 1 }) → exec (.recallRecordRead false bad) s =
    .next ((y.recallLine pool (h.drop 64) (y.ddrRd (a + 128) (bytesAt h 16 4)) bad).recallOn (bytesAt h 8 8) (bytesAt
    h 0 8))) ∧
  (∀ (s : State) (bad : List Nat) (a : Nat) (want : Option Nat) (x : State) (h : List Byte), x = s.ddrLand → h =
    x.ddrRd a 128 → x.recl.walk = some (a, want) → x.arbWaits (chanAt a) reqRecall = false → x.get (DDR_STATUS_STATE
    (a / 2 ^ 36 % 8)) ≠ 3 → (want = none ∨ want = some (bytesAt h 0 8)) → x.recl.notBefore ≤ recordTime h →
    x.recl.wants h = true → x.entryFor [x.recl.out] = none → exec (.recallRecordRead false bad) s = .next (x.bump
    DLV_CNT_NOENTRY)) ∧
  (∀ (s : State) (bad : List Nat) (a : Nat) (want : Option Nat) (x : State) (h : List Byte), x = s.ddrLand → h =
    x.ddrRd a 128 → x.recl.walk = some (a, want) → x.arbWaits (chanAt a) reqRecall = false → x.get (DDR_STATUS_STATE
    (a / 2 ^ 36 % 8)) ≠ 3 → (want = none ∨ want = some (bytesAt h 0 8)) → recordTime h < x.recl.notBefore → exec
    (.recallRecordRead false bad) s = .next (x.recallEnd 3)) ∧
  (∀ (s : State) (bad : List Nat) (a : Nat) (want : Option Nat) (x : State) (h : List Byte) (e : Nat), x = s.ddrLand
    → h = x.ddrRd a 128 → x.recl.walk = some (a, want) → x.arbWaits (chanAt a) reqRecall = false → x.get
    (DDR_STATUS_STATE (a / 2 ^ 36 % 8)) ≠ 3 → want = some e → e ≠ bytesAt h 0 8 → exec (.recallRecordRead false bad)
    s = .next (x.recallEnd 2)) ∧
  (∀ (s : State) (bad : List Nat) (a : Nat) (want : Option Nat) (x : State) (h : List Byte), x = s.ddrLand → h =
    x.ddrRd a 128 → x.recl.walk = some (a, want) → x.arbWaits (chanAt a) reqRecall = false → x.get (DDR_STATUS_STATE
    (a / 2 ^ 36 % 8)) ≠ 3 → exec (.recallRecordRead true bad) s = .next ((x.logC 0x5131 x.recl.stream 0).recallEnd
    5)) ∧
  (∀ (s : State) (bad : List Nat) (a : Nat) (want : Option Nat) (x : State) (h : List Byte) (hdr : Bool), x =
    s.ddrLand → h = x.ddrRd a 128 → x.recl.walk = some (a, want) → x.arbWaits (chanAt a) reqRecall = false → x.get
    (DDR_STATUS_STATE (a / 2 ^ 36 % 8)) = 3 → exec (.recallRecordRead hdr bad) s = .next (x.recallEnd 4)) ∧
  (∀ (s : State) (bad : List Nat) (a : Nat) (want : Option Nat) (x : State) (h : List Byte) (hdr : Bool), x =
    s.ddrLand → h = x.ddrRd a 128 → x.recl.walk = some (a, want) → x.arbWaits (chanAt a) reqRecall = true → exec
    (.recallRecordRead hdr bad) s = .next (x)) ∧
  (∀ (s : State) (hdr : Bool) (bad : List Nat) (x : State), x = s.ddrLand → x.recl.walk = none → exec
    (.recallRecordRead hdr bad) s = .next (x))

/-- Each clause below holds for every state and all operands that meet its hypotheses, and concludes that exec of the
  command answers exactly the next state written in it. (1) PERST_ASSERT: a link that is up goes down, the port's
  reads are given up, its streams stop, its registers take their reset values, and PERST shows. (2) PERST_DEASSERT:
  PERST clears. (3) LINK_UP of a port that trains, at a speed and width within its ceilings: PCIE_LINK shows UP, FLIT
  mode, speed and width (the code of its LTSSM is a free value), LINK_CHANGE is raised, 0x5201 logged, and admission
  of the port's streams is looked at again. (4) LINK_UP of a port that does not train, or beyond its ceilings:
  nothing. (5) LINK_DOWN: the port's reads are given up, its streams stop, its registers take their reset values,
  PCIE_LINK is 0; it is counted, raised and logged 0x5202. (6) LINK_DOWN of a link that is down: nothing. (7)
  PARTNER_TOO_NARROW of a port that trains: 0x5203 is logged and the link stays down. (8) PARTNER_TOO_NARROW of any
  other port: nothing. (9) PCIE_CFG_WRITE that no rule refuses: PCIE_CFG is stored and applied. (10) PCIE_CFG_WRITE
  that a rule refuses: a bad access of that cause; what may still change is applied. (11) PCIE_CFG_WRITE by a master
  whose writes do not reach the registers: only the Unsupported Request, where its link is up. (12) BME_CLEAR: Bus
  Master Enable clears in the Command register and in PCIE_STATUS, and the port halts. (13) BME_SET: Bus Master
  Enable sets in both. (14) D3HOT_ENTRY: the power state is 3, D3 shows and the port halts. (15) D0_RETURN: the power
  state is 0 and D3 clears. (16) BME_CLEAR with Bus Master Enable clear, or on a port that takes no configuration
  write: nothing. (17) BME_SET with it set, or on such a port: nothing. (18) D3HOT_ENTRY in D3hot, or on such a port:
  nothing. (19) D0_RETURN in D0, or on such a port: nothing. (20) FLR of a port through which no open stream was
  opened: its mailbox requests are given up, bus mastering clears, the port halts, its registers take their reset
  values and FLR_ACTIVE shows. (21) FLR of a port through which streams g were opened: the same, and those streams
  close and the Descriptor ROM follows. (22) FLR on a port that takes no configuration write: nothing. (23)
  FLR_COMPLETE: FLR_ACTIVE clears, the end is raised and logged 0x5205. (24) FLR_COMPLETE with none under way:
  nothing. (25) PCIE_LINK_ERROR 0: a receiver error is noted as correctable bit 0. (26) PCIE_LINK_ERROR 1: a bad TLP,
  bit 6. (27) PCIE_LINK_ERROR 2: a bad DLLP, bit 7. (28) PCIE_LINK_ERROR 3: a replay timeout, bit 12. (29)
  PCIE_LINK_ERROR 4: a replay rollover, bit 8. (30) PCIE_LINK_ERROR 5 with ECRC checking enabled: uncorrectable bit
  19. (31) PCIE_LINK_ERROR 5 with it disabled: nothing. (32) PCIE_LINK_ERROR 6: a malformed TLP is noted as
  uncorrectable bit 18. (33) PCIE_LINK_ERROR 7: a flow control protocol error, bit 13. (34) PCIE_LINK_ERROR 8: a data
  link protocol error, bit 4, and the link trains again within PCIE_CFG. (35) PCIE_LINK_ERROR of a link that is down:
  nothing. (R7, R68, R402, R403, R419, R420, R421, R423) -/
def Obligations.LinkAndFunctionComplete : Prop :=
  (∀ (s : State) (p : Fin 2), exec (.perstAssert p) s = .next (((((s.linkDown p).holdTags p).portStop p).portFresh
    p).putB (PCIE_STATUS_PERST p) true)) ∧
  (∀ (s : State) (p : Fin 2), exec (.perstDeassert p) s = .next (s.putB (PCIE_STATUS_PERST p) false)) ∧
  (∀ (s : State) (p : Fin 2) (g : Fin 7) (w : Fin 17), s.trains p = true → g.val ≠ 0 → g.val ≤ s.maxGen p → w.val ≤
    s.maxWidth p → (w.val = 4 ∨ w.val = 8 ∨ w.val = 16) → exec (.linkUp p g w) s = .next ((((s.free.2.wrN (PCIE_LINK
    p) (2 ^ 31 + 2 ^ 30 * b2n (g == 6) + s.free.1 % 256 * 65536 + w * 256 + g * 16)).raisePcie p
    (PCIE_EVENTS_LINK_CHANGE p)).logC 0x5201 p (g * 65536 + w)).reboundPort p)) ∧
  (∀ (s : State) (p : Fin 2) (g : Fin 7) (w : Fin 17), (s.trains p = false ∨ g.val = 0 ∨ s.maxGen p < g.val ∨
    s.maxWidth p < w.val ∨ (w.val ≠ 4 ∧ w.val ≠ 8 ∧ w.val ≠ 16)) → exec (.linkUp p g w) s = .next (s)) ∧
  (∀ (s : State) (p : Fin 2), s.flag (PCIE_LINK_UP p) = true → exec (.linkDown p) s = .next (((((((s.holdTags
    p).portStop p).portFresh p).wrN (PCIE_LINK p) 0).bump (PCIE_CNT_LINKDOWN p)).raisePcie p (PCIE_EVENTS_LINK_CHANGE
    p)).logC 0x5202 p 0)) ∧
  (∀ (s : State) (p : Fin 2), s.flag (PCIE_LINK_UP p) = false → exec (.linkDown p) s = .next (s)) ∧
  (∀ (s : State) (p : Fin 2), s.trains p = true → exec (.partnerTooNarrow p) s = .next (s.logC 0x5203 p 0)) ∧
  (∀ (s : State) (p : Fin 2), s.trains p = false → exec (.partnerTooNarrow p) s = .next (s)) ∧
  (∀ (s : State) (p : Fin 2) (m : Fin 3) (v : Word), s.reaches m = true → (s.storeAt (PCIE_CFG p) false 0 v.toNat).2
    = 0 → exec (.pcieCfgWrite p m v) s = .next ((s.storeAt (PCIE_CFG p) false 0 v.toNat).1.pcieCfgApply p)) ∧
  (∀ (s : State) (p : Fin 2) (m : Fin 3) (v : Word), s.reaches m = true → (s.storeAt (PCIE_CFG p) false 0 v.toNat).2
    ≠ 0 → exec (.pcieCfgWrite p m v) s = .next ((((s.storeAt (PCIE_CFG p) false 0 v.toNat).1).pcieCfgApply
    p).badAccess m (PCIE_CFG p) ((s.storeAt (PCIE_CFG p) false 0 v.toNat).2))) ∧
  (∀ (s : State) (p : Fin 2) (m : Fin 3) (v : Word), s.reaches m = false → exec (.pcieCfgWrite p m v) s = .next
    (s.unreached m)) ∧
  (∀ (s : State) (p : Fin 2), s.cfgTakes p = true → s.flag (PCIE_STATUS_BME p) = true → exec (.bmeClear p) s = .next
    (((s.cfgWr p 0x04 (putBits (s.cfgRd p 0x04) 2 1 0)).putB (PCIE_STATUS_BME p) false).portHalt p)) ∧
  (∀ (s : State) (p : Fin 2), s.cfgTakes p = true → s.flag (PCIE_STATUS_BME p) = false → exec (.bmeSet p) s = .next
    ((s.cfgWr p 0x04 (putBits (s.cfgRd p 0x04) 2 1 1)).putB (PCIE_STATUS_BME p) true)) ∧
  (∀ (s : State) (p : Fin 2), s.cfgTakes p = true → s.flag (PCIE_STATUS_D3 p) = false → exec (.d3hotEntry p) s =
    .next (((s.cfgWr p 0x44 (putBits (s.cfgRd p 0x44) 0 2 3)).putB (PCIE_STATUS_D3 p) true).portHalt p)) ∧
  (∀ (s : State) (p : Fin 2), s.cfgTakes p = true → s.flag (PCIE_STATUS_D3 p) = true → exec (.d0Return p) s = .next
    ((s.cfgWr p 0x44 (putBits (s.cfgRd p 0x44) 0 2 0)).putB (PCIE_STATUS_D3 p) false)) ∧
  (∀ (s : State) (p : Fin 2), (s.cfgTakes p = false ∨ s.flag (PCIE_STATUS_BME p) = false) → exec (.bmeClear p) s =
    .next (s)) ∧
  (∀ (s : State) (p : Fin 2), (s.cfgTakes p = false ∨ s.flag (PCIE_STATUS_BME p) = true) → exec (.bmeSet p) s = .next
    (s)) ∧
  (∀ (s : State) (p : Fin 2), (s.cfgTakes p = false ∨ s.flag (PCIE_STATUS_D3 p) = true) → exec (.d3hotEntry p) s =
    .next (s)) ∧
  (∀ (s : State) (p : Fin 2), (s.cfgTakes p = false ∨ s.flag (PCIE_STATUS_D3 p) = false) → exec (.d0Return p) s =
    .next (s)) ∧
  (∀ (s : State) (p : Fin 2) (y : State), s.cfgTakes p = true → y = (((((s.modMc (fun m =>
    { m with mboxLate := m.mboxLate.filter (fun q => q != p.val) })).orphan p).putB (PCIE_STATUS_BME p)
    false).portHalt p).mboxAbandon p) → (∀ st, st < 256 → (y.admitted st && (y.strm st).mbox == some p.val) = false)
    → exec (.flr p) s = .next ((y.portFresh p).putB (PCIE_STATUS_FLR_ACTIVE p) true)) ∧
  (∀ (s : State) (p : Fin 2) (y : State) (g : List Nat), s.cfgTakes p = true → y = (((((s.modMc (fun m =>
    { m with mboxLate := m.mboxLate.filter (fun q => q != p.val) })).orphan p).putB (PCIE_STATUS_BME p)
    false).portHalt p).mboxAbandon p) → g = (List.range 256).filter (fun st => y.admitted st && (y.strm st).mbox ==
    some p.val) → g ≠ [] → exec (.flr p) s = .next (((g.foldl (fun x st => x.closeStream st) y).romUpdate.portFresh
    p).putB (PCIE_STATUS_FLR_ACTIVE p) true)) ∧
  (∀ (s : State) (p : Fin 2), s.cfgTakes p = false → exec (.flr p) s = .next (s)) ∧
  (∀ (s : State) (p : Fin 2), s.flag (PCIE_STATUS_FLR_ACTIVE p) = true → exec (.flrComplete p) s = .next (((s.putB
    (PCIE_STATUS_FLR_ACTIVE p) false).raisePcie p (PCIE_EVENTS_FLR p)).logC 0x5205 p 0)) ∧
  (∀ (s : State) (p : Fin 2), s.flag (PCIE_STATUS_FLR_ACTIVE p) = false → exec (.flrComplete p) s = .next (s)) ∧
  (∀ (s : State) (p : Fin 2), s.flag (PCIE_LINK_UP p) = true → exec (.pcieLinkError p 0) s = .next (s.aerCor p 0)) ∧
  (∀ (s : State) (p : Fin 2), s.flag (PCIE_LINK_UP p) = true → exec (.pcieLinkError p 1) s = .next (s.aerCor p 6)) ∧
  (∀ (s : State) (p : Fin 2), s.flag (PCIE_LINK_UP p) = true → exec (.pcieLinkError p 2) s = .next (s.aerCor p 7)) ∧
  (∀ (s : State) (p : Fin 2), s.flag (PCIE_LINK_UP p) = true → exec (.pcieLinkError p 3) s = .next (s.aerCor p 12)) ∧
  (∀ (s : State) (p : Fin 2), s.flag (PCIE_LINK_UP p) = true → exec (.pcieLinkError p 4) s = .next (s.aerCor p 8)) ∧
  (∀ (s : State) (p : Fin 2), s.flag (PCIE_LINK_UP p) = true → bit (s.cfgRd p 0x118) 8 = true → exec (.pcieLinkError
    p 5) s = .next (s.aerUnc p 19)) ∧
  (∀ (s : State) (p : Fin 2), s.flag (PCIE_LINK_UP p) = true → bit (s.cfgRd p 0x118) 8 = false → exec (.pcieLinkError
    p 5) s = .next (s)) ∧
  (∀ (s : State) (p : Fin 2), s.flag (PCIE_LINK_UP p) = true → exec (.pcieLinkError p 6) s = .next (s.aerUnc p 18)) ∧
  (∀ (s : State) (p : Fin 2), s.flag (PCIE_LINK_UP p) = true → exec (.pcieLinkError p 7) s = .next (s.aerUnc p 13)) ∧
  (∀ (s : State) (p : Fin 2), s.flag (PCIE_LINK_UP p) = true → exec (.pcieLinkError p 8) s = .next ((s.aerUnc p
    4).pcieCfgApply p)) ∧
  (∀ (s : State) (p : Fin 2) (e : Fin 9), s.flag (PCIE_LINK_UP p) = false → exec (.pcieLinkError p e) s = .next (s))

/-- Each clause below holds for every state and all operands that meet its hypotheses, and concludes that exec of the
  command answers exactly the next state written in it. (1) CONFIG_REQUEST, a write: the enabled bytes are written
  with their effects and the write completes. (2) CONFIG_REQUEST, a read: it completes with the word. (3)
  CONFIG_REQUEST on a link that is down or in a function level reset: no answer. (4) PEER_REQUEST, a read or write:
  it is decoded against the windows in force (peerDecode). (5) PEER_REQUEST while a switch of windows is pending: it
  is held. (6) PEER_REQUEST in D3hot: an Unsupported Request (peerUr). (7) PEER_REQUEST, an AtomicOp: an Unsupported
  Request. (8) PEER_REQUEST on a link that is down or in a function level reset: no answer. (9) PEER_READ_COMPLETE
  once PEER has been granted the channel: the granted writes of DDR4 land, the read leaves the list and completes
  with its data. (10) PEER_READ_COMPLETE before that grant: nothing. (11) PEER_READ_COMPLETE with no such read:
  nothing. (12) WINDOW_COMMIT by the MC or the port's own host: the shadow set is checked, and a switch begins or is
  refused with ERR_WINDOW, ERR_CAUSE and 0x5211 (windowCommit). (13) WINDOW_COMMIT while a switch is pending:
  nothing. (14) WINDOW_COMMIT by the other host: a bad access of cause 3. (15) WINDOW_COMMIT by a master whose writes
  do not reach the registers: only the Unsupported Request, where its link is up. (16) WINDOW_SWITCH with no request
  of the old set unfinished: the shadow set becomes the active one and the held requests are decoded in order
  (windowSwitch). x is s with the granted writes of DDR4 landed. (17) WINDOW_SWITCH with none pending, or with a
  request unfinished: only those writes land. (18) MSIX_PENDING_SEND of a pending vector that is open: its message is
  sent and it is pending no more. (19) MSIX_PENDING_SEND of any other vector: nothing. (R401, R403, R410, R411, R412,
  R413, R415, R421) -/
def Obligations.HostRequestsComplete : Prop :=
  (∀ (s : State) (p : Fin 2) (w : Fin 1024) (be : Fin 16) (v : Word), s.cfgTakes p = true → exec (.configRequest p
    true w be v) s = .next ((s.cfgWrite p (4 * w) be v.toNat).emit (.completion p 0 false []))) ∧
  (∀ (s : State) (p : Fin 2) (w : Fin 1024) (be : Fin 16) (v : Word), s.cfgTakes p = true → exec (.configRequest p
    false w be v) s = .next (s.emit (.completion p 0 false (toBytes 4 (s.cfgLive p (4 * w)))))) ∧
  (∀ (s : State) (p : Fin 2) (w : Fin 1024) (be : Fin 16) (v : Word) (b : Bool), s.cfgTakes p = false → exec
    (.configRequest p b w be v) s = .next (s)) ∧
  (∀ (s : State) (p : Fin 2) (k : Fin 3) (addr id tag : Nat) (data : List (Option Byte)) (ep : Bool) (bad : List
    Nat), s.cfgTakes p = true → k ≠ 2 → s.flag (PCIE_STATUS_D3 p) = false → s.flag (PCIE_WIN_STATUS_COMMIT_PENDING p)
    = false → exec (.peerRequest p k addr data id tag ep bad) s = .next (s.peerDecode p ⟨k == 1, addr, data, id, tag,
    ep⟩ bad)) ∧
  (∀ (s : State) (p : Fin 2) (k : Fin 3) (addr id tag : Nat) (data : List (Option Byte)) (ep : Bool) (bad : List
    Nat), s.cfgTakes p = true → k ≠ 2 → s.flag (PCIE_STATUS_D3 p) = false → s.flag (PCIE_WIN_STATUS_COMMIT_PENDING p)
    = true → exec (.peerRequest p k addr data id tag ep bad) s = .next (s.modHport p (fun x =>
    { x with held := x.held ++ [⟨k == 1, addr, data, id, tag, ep⟩] }))) ∧
  (∀ (s : State) (p : Fin 2) (k : Fin 3) (addr id tag : Nat) (data : List (Option Byte)) (ep : Bool) (bad : List
    Nat), s.cfgTakes p = true → k ≠ 2 → s.flag (PCIE_STATUS_D3 p) = true → exec (.peerRequest p k addr data id tag ep
    bad) s = .next (s.peerUr p ⟨k == 1, addr, data, id, tag, ep⟩)) ∧
  (∀ (s : State) (p : Fin 2) (addr id tag : Nat) (data : List (Option Byte)) (ep : Bool) (bad : List Nat), s.cfgTakes
    p = true → exec (.peerRequest p 2 addr data id tag ep bad) s = .next ((s.aerUnc p 20).emit (.completion p 1 false
    []))) ∧
  (∀ (s : State) (p : Fin 2) (k : Fin 3) (addr id tag : Nat) (data : List (Option Byte)) (ep : Bool) (bad : List
    Nat), s.cfgTakes p = false → exec (.peerRequest p k addr data id tag ep bad) s = .next (s)) ∧
  (∀ (s : State) (p : Fin 2) (i : Nat) (r : PeerReq) (bad : List Nat), (s.hport p).reads[i]? = some r → s.arbWaits
    (chanAt r.addr) reqPeer = false → exec (.peerReadComplete p i bad) s = .next ((s.ddrLand.modHport p (fun x =>
    { x with reads := x.reads.eraseIdx i })).peerComplete p r bad)) ∧
  (∀ (s : State) (p : Fin 2) (i : Nat) (r : PeerReq) (bad : List Nat), (s.hport p).reads[i]? = some r → s.arbWaits
    (chanAt r.addr) reqPeer = true → exec (.peerReadComplete p i bad) s = .next (s)) ∧
  (∀ (s : State) (p : Fin 2) (i : Nat) (bad : List Nat), (s.hport p).reads[i]? = none → exec (.peerReadComplete p i
    bad) s = .next (s)) ∧
  (∀ (s : State) (p : Fin 2) (m : Fin 3), s.reaches m = true → ownPort m p = true → s.flag
    (PCIE_WIN_STATUS_COMMIT_PENDING p) = false → exec (.windowCommit p m) s = .next (s.windowCommit p)) ∧
  (∀ (s : State) (p : Fin 2) (m : Fin 3), s.reaches m = true → ownPort m p = true → s.flag
    (PCIE_WIN_STATUS_COMMIT_PENDING p) = true → exec (.windowCommit p m) s = .next (s)) ∧
  (∀ (s : State) (p : Fin 2) (m : Fin 3), s.reaches m = true → ownPort m p = false → exec (.windowCommit p m) s =
    .next (s.badAccess m (PCIE_WIN_CMD p) 3)) ∧
  (∀ (s : State) (p : Fin 2) (m : Fin 3), s.reaches m = false → exec (.windowCommit p m) s = .next (s.unreached m)) ∧
  (∀ (s : State) (p : Fin 2) (bads : List (List Nat)) (x : State), x = s.ddrLand → x.flag
    (PCIE_WIN_STATUS_COMMIT_PENDING p) = true → (x.hport p).reads = [] → x.ddrOut.all (fun (w : DdrWrite) => w.req !=
    reqPeer || w.port != p.val) = true → exec (.windowSwitch p bads) s = .next (x.windowSwitch p bads)) ∧
  (∀ (s : State) (p : Fin 2) (bads : List (List Nat)) (x : State), x = s.ddrLand → (x.flag
    (PCIE_WIN_STATUS_COMMIT_PENDING p) = false ∨ (x.hport p).reads ≠ [] ∨ x.ddrOut.all (fun (w : DdrWrite) => w.req
    != reqPeer || w.port != p.val) = false) → exec (.windowSwitch p bads) s = .next (x)) ∧
  (∀ (s : State) (p : Fin 2) (v : Fin 2048), s.flag ⟨MSIX_PBA p (v / 32), v % 32, 1⟩ = true → s.msixOpen p v = true →
    exec (.msixPendingSend p v) s = .next ((s.putB ⟨MSIX_PBA p (v / 32), v % 32, 1⟩ false).emit (.msix p v))) ∧
  (∀ (s : State) (p : Fin 2) (v : Fin 2048), (s.flag ⟨MSIX_PBA p (v / 32), v % 32, 1⟩ = false ∨ s.msixOpen p v =
    false) → exec (.msixPendingSend p v) s = .next (s))

/-- Each clause below holds for every state and all operands that meet its hypotheses, and concludes that exec of the
  command answers exactly the next state written in it. (1) SENSOR_PUBLISH: the eight temperatures and sixteen
  voltages a are published, and each temperature is judged (therm). (2) SENSOR_PUBLISH in reset: nothing. (3)
  THERMAL_TRIP: TRIPPED is raised and the system reset with its cause. (4) THERMAL_TRIP in power-on reset: nothing.
  (5) VOLT_OUT while no firmware runs: VOLT_OUT is raised. (6) VOLT_OUT while firmware runs: and 0x9210 is logged.
  (7) VOLT_OUT in reset: nothing. (8) PMBUS_POLL while firmware runs: each listed regulator's answer is published, or
  its miss counted. (9) PMBUS_POLL while no firmware runs: nothing. (10) PMB_ALERT while no firmware runs: PMB_ALERT
  is raised. (11) PMB_ALERT while firmware runs: and each regulator that reports a fault is logged and cleared
  (pmbFault). (12) PMB_ALERT in reset: nothing. (13) LOG_WRITE: the oldest entry with its extensions leaves the queue
  for the ring, and goes to the UART, the event-log streams and upward (logSides). (14) LOG_WRITE with an empty
  queue, or in power-on reset: nothing. (15) LOG_LIMIT_INTERVAL_END one second after the interval began, with no
  occurrence withheld: the limiter is idle. (16) LOG_LIMIT_INTERVAL_END with occurrences withheld: one entry stands
  for them, and the next interval begins. (17) LOG_LIMIT_INTERVAL_END before that second has passed: nothing. (18)
  LOG_LIMIT_INTERVAL_END of a limiter that is idle: nothing. (19) LOG_FLASH_COPY: the n entries that the ring still
  holds and flash does not are copied, oldest first. (20) LOG_FLASH_COPY while no firmware runs: nothing. (21)
  MGMT_FRAME_RECEIVE of a good frame that this node acts on and that is addressed to it: it is forwarded (y), and its
  message is delivered to the firmware. (22) MGMT_FRAME_RECEIVE of one addressed elsewhere, or while no firmware
  runs: it is forwarded. (23) MGMT_FRAME_RECEIVE of one that this node does not act on: it is forwarded. (24)
  MGMT_FRAME_RECEIVE with a failed CRC: it is discarded and counted. (25) MGMT_FRAME_RECEIVE of anything else: only a
  frame of an unknown TYPE is counted. (26) TRIAL_CONFIRM of a firmware slot that has run for 60 s: the record is
  marked confirmed, 0x8063 logged, UPDATE_DONE raised, the update's state cleared; and where the image raises the
  floor, the anti-rollback counter advances. (27) TRIAL_CONFIRM of a firmware slot that raises no floor: the same
  without the counter. (28) TRIAL_CONFIRM of a Cut List slot whose record raises the floor: its counter advances.
  (29) TRIAL_CONFIRM of any other Cut List slot: the same without the counter. (30) TRIAL_CONFIRM with no trial,
  before 60 s, or before the boot has reached stage 9: nothing. (31) IDENTITY_KEY_READY: the key is ready and the
  certificate has been checked; a bad one is logged 0x8068 and CERT_FAIL raised. (32) IDENTITY_KEY_READY while no
  firmware runs, with the key ready already, or before stage 3: nothing. (R71, R458, R459, R460, R465, R467, R468,
  R469, R471, R480, R523) -/
def Obligations.ManagementComplete : Prop :=
  (∀ (s : State) (temps volts a : List Nat), s.held = false → a = ((temps ++ List.replicate 8 0).take 8 ++ (volts ++
    List.replicate 16 0).take 16).map (fun v => v % 2 ^ 16) → exec (.sensorPublish temps volts) s = .next
    ((List.range 8).foldl (fun x k => x.therm k (sext 16 (a.getD k 0))) (((List.range 12).foldl (fun x i => x.wrN
    (MC_SENS_DATA i) (a.getD (2 * i) 0 + 2 ^ 16 * a.getD (2 * i + 1) 0)) s).publish MC_SENS_STATUS))) ∧
  (∀ (s : State) (temps volts : List Nat), s.held = true → exec (.sensorPublish temps volts) s = .next (s)) ∧
  (∀ (s : State), s.power.porst = false → exec (.thermalTrip) s = .next ((s.raise 11 MC_EVENTS_TRIPPED).sysReset 2)) ∧
  (∀ (s : State), s.power.porst = true → exec (.thermalTrip) s = .next (s)) ∧
  (∀ (s : State) (m : Fin 16) (mv : Fin 65536), s.held = false → s.fwRuns = false → exec (.voltOut m mv) s = .next
    (s.raise 11 MC_EVENTS_VOLT_OUT)) ∧
  (∀ (s : State) (m : Fin 16) (mv : Fin 65536), s.held = false → s.fwRuns = true → exec (.voltOut m mv) s = .next
    ((s.raise 11 MC_EVENTS_VOLT_OUT).logOnce 0x9210 m noUnit (m * 65536 + mv))) ∧
  (∀ (s : State) (m : Fin 16) (mv : Fin 65536), s.held = true → exec (.voltOut m mv) s = .next (s)) ∧
  (∀ (s : State) (ans : List (Option PmbReading)), s.fwRuns = true → exec (.pmbusPoll ans) s = .next (s.pmbRecs.foldl
    (fun x r => match ans.getD r none with | some y => x.pmbGood r y | none => x.pmbMiss r) s)) ∧
  (∀ (s : State) (ans : List (Option PmbReading)), s.fwRuns = false → exec (.pmbusPoll ans) s = .next (s)) ∧
  (∀ (s : State) (st : List Nat) (x : State), s.held = false → x = s.raise 11 MC_EVENTS_PMB_ALERT → x.fwRuns = false
    → exec (.pmbAlert st) s = .next (x)) ∧
  (∀ (s : State) (st : List Nat) (x : State), s.held = false → x = s.raise 11 MC_EVENTS_PMB_ALERT → x.fwRuns = true →
    exec (.pmbAlert st) s = .next (x.pmbRecs.foldl (fun y r => y.pmbFault r (st.getD r 0 % 65536)) x)) ∧
  (∀ (s : State) (st : List Nat), s.held = true → exec (.pmbAlert st) s = .next (s)) ∧
  (∀ (s : State) (i : LogItem) (r : List LogItem), s.power.porst = false → s.log.queue = i :: r → exec (.logWrite) s
    = .next (((i.main :: i.exts).foldl (fun x e => x.ringPut e) (s.modLog (fun g => { g with queue := r }))).logSides
    i (s.rdN MC_LOG_HEAD))) ∧
  (∀ (s : State), (s.power.porst = true ∨ s.log.queue = []) → exec (.logWrite) s = .next (s)) ∧
  (∀ (s : State) (code item : Nat) (l : Limiter), s.log.limiters.find? (fun (x : Limiter) => x.isFor code item) =
    some l → l.since + 1000000000 ≤ s.tb.ticks → l.count = 0 → exec (.logLimitIntervalEnd code item) s = .next
    (s.modLog (fun g => { g with limiters := g.limiters.filter (fun (x : Limiter) => !x.isFor code item) }))) ∧
  (∀ (s : State) (code item : Nat) (l : Limiter) (x : State), s.log.limiters.find? (fun (x : Limiter) => x.isFor code
    item) = some l → l.since + 1000000000 ≤ s.tb.ticks → l.count ≠ 0 → x = s.logX code l.unit (limArg l.counted
    l.count l.arg) l.exts → exec (.logLimitIntervalEnd code item) s = .next (x.modLog (fun g => { g with
    limiters := g.limiters.map (fun (m : Limiter) => if m.isFor code item then { m with count := 0, since := x.tb.ticks } else m) }))) ∧
  (∀ (s : State) (code item : Nat) (l : Limiter), s.log.limiters.find? (fun (x : Limiter) => x.isFor code item) =
    some l → s.tb.ticks < l.since + 1000000000 → exec (.logLimitIntervalEnd code item) s = .next (s)) ∧
  (∀ (s : State) (code item : Nat), s.log.limiters.find? (fun (x : Limiter) => x.isFor code item) = none → exec
    (.logLimitIntervalEnd code item) s = .next (s)) ∧
  (∀ (s : State) (n : Nat), s.fwRuns = true → n = min s.ringHeld ((s.rdN MC_LOG_HEAD + 2 ^ 32 - s.rdN MC_LOG_FLASHED)
    % 2 ^ 32) → exec (.logFlashCopy) s = .next (((List.range n).foldl (fun (x : Bool × State) j => x.2.copyOne x.1
    ((s.rdN MC_LOG_HEAD + 2 ^ 32 - n + j) % 2 ^ 32)) (false, s)).2)) ∧
  (∀ (s : State), s.fwRuns = false → exec (.logFlashCopy) s = .next (s)) ∧
  (∀ (s : State) (p : Fin 4) (bs : List (Bool × Block)) (y : State), isFrame bs 0x70 (1 + ceilDiv (fByte bs 0 5) 7) =
    true → fByte bs 0 5 ≠ 0 → fByte bs 0 5 ≤ 224 → s.sillState p = 4 → frameOk bs = true → s.sillRelay p ⟨3, false,
    false, bs⟩ = (true, y) → (y.fwRuns && (bit (fNum bs 0 1 2) 15 || fNum bs 0 1 2 % 1024 == y.nodeId)) = true → exec
    (.mgmtFrameReceive p bs) s = .next (y.mgmtDeliver (fNum bs 0 3 2) (((bs.drop 1).flatMap (fun (b : Bool × Block)
    => (blockBytes b.2).take 7)).take (fByte bs 0 5)))) ∧
  (∀ (s : State) (p : Fin 4) (bs : List (Bool × Block)) (y : State), isFrame bs 0x70 (1 + ceilDiv (fByte bs 0 5) 7) =
    true → fByte bs 0 5 ≠ 0 → fByte bs 0 5 ≤ 224 → s.sillState p = 4 → frameOk bs = true → s.sillRelay p ⟨3, false,
    false, bs⟩ = (true, y) → (y.fwRuns && (bit (fNum bs 0 1 2) 15 || fNum bs 0 1 2 % 1024 == y.nodeId)) = false →
    exec (.mgmtFrameReceive p bs) s = .next (y)) ∧
  (∀ (s : State) (p : Fin 4) (bs : List (Bool × Block)) (y : State), isFrame bs 0x70 (1 + ceilDiv (fByte bs 0 5) 7) =
    true → fByte bs 0 5 ≠ 0 → fByte bs 0 5 ≤ 224 → s.sillState p = 4 → frameOk bs = true → s.sillRelay p ⟨3, false,
    false, bs⟩ = (false, y) → exec (.mgmtFrameReceive p bs) s = .next (y)) ∧
  (∀ (s : State) (p : Fin 4) (bs : List (Bool × Block)), isFrame bs 0x70 (1 + ceilDiv (fByte bs 0 5) 7) = true →
    fByte bs 0 5 ≠ 0 → fByte bs 0 5 ≤ 224 → s.sillState p = 4 → frameOk bs = false → exec (.mgmtFrameReceive p bs) s
    = .next ((s.sillDiscard p).bump (SILL_CNT_MGMT_DROP p))) ∧
  (∀ (s : State) (p : Fin 4) (bs : List (Bool × Block)), (isFrame bs 0x70 (1 + ceilDiv (fByte bs 0 5) 7) = false ∨
    fByte bs 0 5 = 0 ∨ 224 < fByte bs 0 5 ∨ s.sillState p ≠ 4) → exec (.mgmtFrameReceive p bs) s = .next (s.strange p
    (fByte bs 0 0))) ∧
  (∀ (s : State) (x : State), s.mayConfirm = true → s.recByte 4 = 0 → x = (((s.recMark 18).logC 0x8063 noUnit
    0).raise 11 MC_EVENTS_UPDATE_DONE).put MC_UPDATE_STATUS_STATE 0 → (x.mc.fwFloor && decide (x.fwCtr < x.mc.fwSec))
    = true → exec (.trialConfirm) s = .next ((x.advance 0x420 x.mc.fwSec).romUpdate)) ∧
  (∀ (s : State) (x : State), s.mayConfirm = true → s.recByte 4 = 0 → x = (((s.recMark 18).logC 0x8063 noUnit
    0).raise 11 MC_EVENTS_UPDATE_DONE).put MC_UPDATE_STATUS_STATE 0 → (x.mc.fwFloor && decide (x.fwCtr < x.mc.fwSec))
    = false → exec (.trialConfirm) s = .next (x)) ∧
  (∀ (s : State) (x : State), s.mayConfirm = true → s.recByte 4 ≠ 0 → x = (((s.recMark 18).logC 0x8063 noUnit
    0).raise 11 MC_EVENTS_UPDATE_DONE).put MC_UPDATE_STATUS_STATE 0 → (x.recDone 23 && decide (x.clCtr < x.mc.clSec))
    = true → exec (.trialConfirm) s = .next ((x.advance 0x460 x.mc.clSec).romUpdate)) ∧
  (∀ (s : State) (x : State), s.mayConfirm = true → s.recByte 4 ≠ 0 → x = (((s.recMark 18).logC 0x8063 noUnit
    0).raise 11 MC_EVENTS_UPDATE_DONE).put MC_UPDATE_STATUS_STATE 0 → (x.recDone 23 && decide (x.clCtr < x.mc.clSec))
    = false → exec (.trialConfirm) s = .next (x)) ∧
  (∀ (s : State), s.mayConfirm = false → exec (.trialConfirm) s = .next (s)) ∧
  (∀ (s : State) (b : Bool), s.fwRuns = true → s.mc.keyReady = false → (3 ≤ s.get GLOBAL_BOOT_STATUS_STAGE ∨
    s.clCommit = true) → b = s.certValid s.certificate → exec (.identityKeyReady) s = .next ((s.modMc (fun m =>
    { m with keyReady := true, certOk := b })).iff (!b) (fun x => (x.logC 0x8068 noUnit 0).raise 11
    MC_EVENTS_CERT_FAIL))) ∧
  (∀ (s : State), (s.fwRuns = false ∨ s.mc.keyReady = true ∨ (s.get GLOBAL_BOOT_STATUS_STAGE < 3 ∧ s.clCommit =
    false)) → exec (.identityKeyReady) s = .next (s))

/-- Each clause below holds for every state and all operands that meet its hypotheses, and concludes that exec of the
  command answers exactly the next state written in it. (1) SILL_BLOCK_LOCK in DOWN: the port goes to HELLO, with no
  HELLO matched yet. (2) SILL_BLOCK_LOCK in any other state: nothing. (3) SILL_LINK_LOSS in ACTIVE: the port leaves
  for DOWN (sillLeave). (4) SILL_LINK_LOSS in any other state: nothing. (5) HELLO_SEND in HELLO, ACTIVE and FAULT: a
  HELLO frame joins the port's queue. (6) HELLO_SEND in any other state: nothing. (7) HELLO_RECEIVE in HELLO, the
  first frame that passes the check: it is noted. x is s with PARTNER_ID and PARTNER_DEPTH of the frame. (8)
  HELLO_RECEIVE, the second: the port goes to MEASURE (helloDone). (9) HELLO_RECEIVE of one that fails the check: the
  port goes to FAULT with its cause, logged 0x6003. (10) HELLO_RECEIVE in ACTIVE: PARTNER_ID and PARTNER_DEPTH are
  renewed. (11) HELLO_RECEIVE with a failed CRC: it is discarded and counted. (12) HELLO_RECEIVE of anything else:
  only a frame of an unknown TYPE is counted. (13) HELLO_TIMEOUT after 10 ms in HELLO: the port leaves for DOWN. (14)
  HELLO_TIMEOUT in another state, or before that: nothing. (15) MEASURE_TIMEOUT after 10 ms in MEASURE: the port
  leaves for DOWN. (16) MEASURE_TIMEOUT in another state, or before that: nothing. (17) FAULT_HOLD_EXPIRY after 1 s
  in FAULT: the port leaves for DOWN. (18) FAULT_HOLD_EXPIRY in another state, or before that: nothing. (19)
  SILL_PROBE_SEND in MEASURE and ACTIVE: a PROBE with the next number leaves, and its egress stamp (whose place
  within the tick is a free value) is kept. (20) SILL_PROBE_SEND in any other state: nothing. (21) PROBE_RECEIVE: the
  PECHO leaves with the PROBE's number and TURN, the time between the two stamps. (22) PROBE_RECEIVE with a bad
  CHECK: it is discarded and counted. (23) PROBE_RECEIVE of anything else: only a block of an unknown TYPE is
  counted. (24) PECHO_RECEIVE of the outstanding PROBE's answer, one of the first fifteen: its result, half of T_in
  less T_out less TURN, joins the results. (25) PECHO_RECEIVE of the sixteenth in MEASURE: the hop's L and SPREAD are
  published, and the port goes to ACTIVE. (26) PECHO_RECEIVE in ACTIVE with sixteen results: they are published. (27)
  PECHO_RECEIVE that answers no outstanding PROBE: nothing. (28) PECHO_RECEIVE with a bad CHECK: it is discarded and
  counted. (29) PECHO_RECEIVE of anything else: only a block of an unknown TYPE is counted. (R249, R250, R427, R428,
  R429, R430, R433) -/
def Obligations.SillLinksComplete : Prop :=
  (∀ (s : State) (p : Fin 4), s.sillState p = 1 → exec (.sillBlockLock p) s = .next ((s.toSill p 2).modSport p (fun x
    => { x with hellos := 0 }))) ∧
  (∀ (s : State) (p : Fin 4), s.sillState p ≠ 1 → exec (.sillBlockLock p) s = .next (s)) ∧
  (∀ (s : State) (p : Fin 4), s.sillState p = 4 → exec (.sillLinkLoss p) s = .next (s.sillLeave p 1)) ∧
  (∀ (s : State) (p : Fin 4), s.sillState p ≠ 4 → exec (.sillLinkLoss p) s = .next (s)) ∧
  (∀ (s : State) (p : Fin 4), (s.sillState p = 2 ∨ s.sillState p = 4 ∨ s.sillState p = 5) → exec (.helloSend p) s =
    .next (s.sillTx p (s.helloFrame p))) ∧
  (∀ (s : State) (p : Fin 4), s.sillState p ≠ 2 → s.sillState p ≠ 4 → s.sillState p ≠ 5 → exec (.helloSend p) s =
    .next (s)) ∧
  (∀ (s : State) (p : Fin 4) (bs : List (Bool × Block)) (x : State), isFrame bs 0x20 2 = true → s.sillState p = 2 →
    frameOk bs = true → x = (s.put (SILL_PORT_STATUS_PARTNER_ID p) (fNum bs 0 1 2)).put
    (SILL_PORT_STATUS_PARTNER_DEPTH p) (fByte bs 0 4) → x.helloCause p (fByte bs 0 3) (fByte bs 0 4) (fNum bs 0 1 2)
    (fByte bs 0 6) = 0 → (x.sport p).hellos = 0 → exec (.helloReceive p bs) s = .next (x.modSport p (fun y =>
    { y with hellos := 1 }))) ∧
  (∀ (s : State) (p : Fin 4) (bs : List (Bool × Block)) (x : State), isFrame bs 0x20 2 = true → s.sillState p = 2 →
    frameOk bs = true → x = (s.put (SILL_PORT_STATUS_PARTNER_ID p) (fNum bs 0 1 2)).put
    (SILL_PORT_STATUS_PARTNER_DEPTH p) (fByte bs 0 4) → x.helloCause p (fByte bs 0 3) (fByte bs 0 4) (fNum bs 0 1 2)
    (fByte bs 0 6) = 0 → (x.sport p).hellos ≠ 0 → exec (.helloReceive p bs) s = .next (x.helloDone p (fByte bs 0 4)
    (bit (fByte bs 0 5) 0))) ∧
  (∀ (s : State) (p : Fin 4) (bs : List (Bool × Block)) (x : State) (k : Nat), isFrame bs 0x20 2 = true → s.sillState
    p = 2 → frameOk bs = true → x = (s.put (SILL_PORT_STATUS_PARTNER_ID p) (fNum bs 0 1 2)).put
    (SILL_PORT_STATUS_PARTNER_DEPTH p) (fByte bs 0 4) → k = x.helloCause p (fByte bs 0 3) (fByte bs 0 4) (fNum bs 0 1
    2) (fByte bs 0 6) → k ≠ 0 → exec (.helloReceive p bs) s = .next (((x.put (SILL_PORT_STATUS_FAULT_CAUSE p)
    k).toSill p 5).logC 0x6003 p k)) ∧
  (∀ (s : State) (p : Fin 4) (bs : List (Bool × Block)), isFrame bs 0x20 2 = true → s.sillState p = 4 → frameOk bs =
    true → exec (.helloReceive p bs) s = .next ((s.put (SILL_PORT_STATUS_PARTNER_ID p) (fNum bs 0 1 2)).put
    (SILL_PORT_STATUS_PARTNER_DEPTH p) (fByte bs 0 4))) ∧
  (∀ (s : State) (p : Fin 4) (bs : List (Bool × Block)), isFrame bs 0x20 2 = true → (s.sillState p = 2 ∨ s.sillState
    p = 4) → frameOk bs = false → exec (.helloReceive p bs) s = .next (s.sillDiscard p)) ∧
  (∀ (s : State) (p : Fin 4) (bs : List (Bool × Block)), (isFrame bs 0x20 2 = false ∨ (s.sillState p ≠ 2 ∧
    s.sillState p ≠ 4)) → exec (.helloReceive p bs) s = .next (s.strange p (fByte bs 0 0))) ∧
  (∀ (s : State) (p : Fin 4), s.sillState p = 2 → s.sillStayed p 10000000 = true → exec (.helloTimeout p) s = .next
    (s.sillLeave p 1)) ∧
  (∀ (s : State) (p : Fin 4), (s.sillState p ≠ 2 ∨ s.sillStayed p 10000000 = false) → exec (.helloTimeout p) s =
    .next (s)) ∧
  (∀ (s : State) (p : Fin 4), s.sillState p = 3 → s.sillStayed p 10000000 = true → exec (.measureTimeout p) s = .next
    (s.sillLeave p 1)) ∧
  (∀ (s : State) (p : Fin 4), (s.sillState p ≠ 3 ∨ s.sillStayed p 10000000 = false) → exec (.measureTimeout p) s =
    .next (s)) ∧
  (∀ (s : State) (p : Fin 4), s.sillState p = 5 → s.sillStayed p 1000000000 = true → exec (.faultHoldExpiry p) s =
    .next (s.sillLeave p 1)) ∧
  (∀ (s : State) (p : Fin 4), (s.sillState p ≠ 5 ∨ s.sillStayed p 1000000000 = false) → exec (.faultHoldExpiry p) s =
    .next (s)) ∧
  (∀ (s : State) (p : Fin 4), (s.sillState p = 3 ∨ s.sillState p = 4) → exec (.sillProbeSend p) s = .next
    (((s.sillEgress p).2.modSport p (fun x =>
    { x with probeNum := ((s.sport p).probeNum + 1) % 256, probeOut := some (s.sillEgress p).1 })).emit (.sill p
    (blockBytes (sillC 0x21 (toBytes 1 (((s.sport p).probeNum + 1) % 256))).2)))) ∧
  (∀ (s : State) (p : Fin 4), s.sillState p ≠ 3 → s.sillState p ≠ 4 → exec (.sillProbeSend p) s = .next (s)) ∧
  (∀ (s : State) (p : Fin 4) (b : Block) (turn : Nat), (s.sillState p = 3 ∨ s.sillState p = 4) → blockByte b 0 = 0x21
    → checkOk b = true → exec (.probeReceive p b turn) s = .next (s.emit (.sill p (blockBytes (sillC 0x22 (toBytes 1
    (blockByte b 1) ++ toBytes 4 (trunc 32 (turn - sext 32 (s.rdN (TB_SILL_EG_ASYM p)) + sext 32 (s.rdN
    (TB_SILL_IN_ASYM p)))))).2)))) ∧
  (∀ (s : State) (p : Fin 4) (b : Block) (turn : Nat), (s.sillState p = 3 ∨ s.sillState p = 4) → blockByte b 0 = 0x21
    → checkOk b = false → exec (.probeReceive p b turn) s = .next (s.sillDiscard p)) ∧
  (∀ (s : State) (p : Fin 4) (b : Block) (turn : Nat), (blockByte b 0 ≠ 0x21 ∨ (s.sillState p ≠ 3 ∧ s.sillState p ≠
    4)) → exec (.probeReceive p b turn) s = .next (s.strange p (blockByte b 0))) ∧
  (∀ (s : State) (p : Fin 4) (b : Block) (ago : Nat) (out : Int) (rs : List Int), (s.sillState p = 3 ∨ s.sillState p
    = 4) → blockByte b 0 = 0x22 → checkOk b = true → (s.sport p).probeOut = some out → (s.sport p).probeNum =
    blockByte b 1 → rs = (s.sport p).results ++ [roundDiv (s.sillIngress p ago - out - getBits b.toNat 16 32 * 256)
    512] → rs.length < 16 → exec (.pechoReceive p b ago) s = .next (s.modSport p (fun x =>
    { x with probeOut := none, results := rs }))) ∧
  (∀ (s : State) (p : Fin 4) (b : Block) (ago : Nat) (out : Int) (rs : List Int), (s.sillState p = 3 ∨ s.sillState p
    = 4) → blockByte b 0 = 0x22 → checkOk b = true → (s.sport p).probeOut = some out → (s.sport p).probeNum =
    blockByte b 1 → rs = ((s.sport p).results ++ [roundDiv (s.sillIngress p ago - out - getBits b.toNat 16 32 * 256)
    512]).drop (((s.sport p).results ++ [roundDiv (s.sillIngress p ago - out - getBits b.toNat 16 32 * 256)
    512]).length - 16) → 16 ≤ rs.length → s.sillState p = 3 → exec (.pechoReceive p b ago) s = .next (((s.modSport p
    (fun x => { x with probeOut := none, results := rs })).publishHop p rs).sillActive p)) ∧
  (∀ (s : State) (p : Fin 4) (b : Block) (ago : Nat) (out : Int) (rs : List Int), (s.sillState p = 3 ∨ s.sillState p
    = 4) → blockByte b 0 = 0x22 → checkOk b = true → (s.sport p).probeOut = some out → (s.sport p).probeNum =
    blockByte b 1 → rs = ((s.sport p).results ++ [roundDiv (s.sillIngress p ago - out - getBits b.toNat 16 32 * 256)
    512]).drop (((s.sport p).results ++ [roundDiv (s.sillIngress p ago - out - getBits b.toNat 16 32 * 256)
    512]).length - 16) → 16 ≤ rs.length → s.sillState p = 4 → exec (.pechoReceive p b ago) s = .next ((s.modSport p
    (fun x => { x with probeOut := none, results := rs })).publishHop p rs)) ∧
  (∀ (s : State) (p : Fin 4) (b : Block) (ago : Nat), (s.sillState p = 3 ∨ s.sillState p = 4) → blockByte b 0 = 0x22
    → checkOk b = true → (s.sport p).probeOut = none ∨ (s.sport p).probeNum ≠ blockByte b 1 → exec (.pechoReceive p b
    ago) s = .next (s)) ∧
  (∀ (s : State) (p : Fin 4) (b : Block) (ago : Nat), (s.sillState p = 3 ∨ s.sillState p = 4) → blockByte b 0 = 0x22
    → checkOk b = false → exec (.pechoReceive p b ago) s = .next (s.sillDiscard p)) ∧
  (∀ (s : State) (p : Fin 4) (b : Block) (ago : Nat), (blockByte b 0 ≠ 0x22 ∨ (s.sillState p ≠ 3 ∧ s.sillState p ≠
    4)) → exec (.pechoReceive p b ago) s = .next (s.strange p (blockByte b 0)))

/-- Each clause below holds for every state and all operands that meet its hypotheses, and concludes that exec of the
  command answers exactly the next state written in it. (1) SYNC_SEND in ACTIVE: a SYNC leaves with its number, the
  class, TIME_LOCKED, the carried claim and its egress time (whose place within the tick is a free value). (2)
  SYNC_SEND in any other state: nothing. (3) SYNC_RECEIVE in ACTIVE: θ is the ingress time less the SYNC's time less
  L; it is published with the mean of the last hundred, PARTNER_LOCKED follows the frame, and the time parent is
  found again. (4) SYNC_RECEIVE with a failed CRC: it is discarded and counted. (5) SYNC_RECEIVE of anything else:
  only a frame of an unknown TYPE is counted. (6) TIME_SERVO before OUTPUT_COMMIT with a mean above 1,000 ns, on a
  locked node: the mean is stepped away, the readings and lock counters begin anew, and the node unlocks. (7)
  TIME_SERVO the same on a node that is not locked: the step alone. (8) TIME_SERVO otherwise: the rate is set (a free
  value: the filter is not given), the mean slewed away, and the lock judged by it. (9) TIME_SERVO without a time
  parent, or while no firmware runs: nothing. (10) SYNC_TIMEOUT 10 ms after the time parent's last SYNC: the lock
  counters clear and the node unlocks. (11) SYNC_TIMEOUT before that: nothing. (12) SYNC_TIMEOUT without a time
  parent, or while no firmware runs: nothing. (13) POS_BURST_RECEIVE on the selected UP port with the claim carried
  at its time: its frames set their slots (slotFrames) and go down, and up on every other UP port. (14)
  POS_BURST_RECEIVE by a standby, on its TWIN port or reflected: its frames set their slots and go no further. (15)
  POS_BURST_RECEIVE on any other port: nothing. (16) POS_BURST_RECEIVE with a failed CRC: it is discarded and
  counted. (17) POS_BURST_RECEIVE of anything else: only a frame of an unknown TYPE is counted. (18)
  EVENT_FRAME_RECEIVE of an event that this node acts on, on a line that is not aligned: it is forwarded (x) and
  delivered at once. (19) EVENT_FRAME_RECEIVE on an aligned line before its instant: it waits until then. (20)
  EVENT_FRAME_RECEIVE on an aligned line after its instant: it is counted as late, raised, logged 0x6040 and
  delivered. (21) EVENT_FRAME_RECEIVE of one that this node does not act on, or its own: it is forwarded alone. (22)
  EVENT_FRAME_RECEIVE with a failed CRC: it is discarded and counted. (23) EVENT_FRAME_RECEIVE of anything else: only
  a frame of an unknown TYPE is counted. (24) ALIGNED_EVENT_DUE: the oldest waiting event whose instant has come is
  delivered. (25) ALIGNED_EVENT_DUE with none: nothing. (26) SCHED_GO: GO shows, the entry travels to the root, and
  the root acts on it (schedGo). (27) SCHED_GO while GO is 1: a bad access of cause 3. (28) SCHED_GO by a master
  whose writes do not reach the registers: only the Unsupported Request, where its link is up. (29)
  SCHED_FRAME_RECEIVE of an entry that this node acts on: it is forwarded (x) and acted on (schedAccept). (30)
  SCHED_FRAME_RECEIVE of any other: it is forwarded. (31) SCHED_FRAME_RECEIVE with a failed CRC: it is discarded and
  counted. (32) SCHED_FRAME_RECEIVE of anything else: only a frame of an unknown TYPE is counted. (R258, R429, R432,
  R434, R435, R436, R440, R442, R443) -/
def Obligations.SillTrafficComplete : Prop :=
  (∀ (s : State) (p : Fin 4), s.sillState p = 4 → exec (.syncSend p) s = .next (((s.sillEgress p).2.modSport p (fun x
    => { x with syncSeq := (x.syncSeq + 1) % 256 })).emit (.sill p ([sillC 0x30 (toBytes 1 ((s.sillEgress p).2.sport
    p).syncSeq ++ toBytes 1 ((s.sillEgress p).2.get TB_QUALITY_CLASS) ++ toBytes 1 (b2n ((s.sillEgress p).2.flag
    SILL_STATUS_TIME_LOCKED)) ++ toBytes 2 ((s.sillEgress p).2.get SILL_STATUS_CARRIED)), sillD (toBytes 4 (timeNs
    (s.sillEgress p).1.toNat) ++ toBytes 2 ((s.sillEgress p).1.toNat % 65536)), sillD (toBytes 6 (timeSec
    (s.sillEgress p).1.toNat))].flatMap (fun (b : Bool × Block) => blockBytes b.2))))) ∧
  (∀ (s : State) (p : Fin 4), s.sillState p ≠ 4 → exec (.syncSend p) s = .next (s)) ∧
  (∀ (s : State) (p : Fin 4) (bs : List (Bool × Block)) (ago : Nat) (ths : List Int) (th : Int), isFrame bs 0x30 3 =
    true → s.sillState p = 4 → frameOk bs = true → th = s.sillIngress p ago - ((fNum bs 2 0 6 * 1000000000 + fNum bs
    1 0 4) * 65536 + fNum bs 1 4 2 : Nat) - sext 32 (s.rdN (SILL_LAT_L p)) * 256 → ths = ((s.sport p).thetas ++
    [th]).drop (((s.sport p).thetas ++ [th]).length - 100) → exec (.syncReceive p bs ago) s = .next (((((((s.modSport
    p (fun x => { x with thetas := ths, syncAt := s.tb.ticks })).putB (SILL_PORT_STATUS_PARTNER_LOCKED p) (bit (fByte
    bs 0 3) 0)).wrS (SILL_OFS_THETA p) th).wrS (SILL_OFS_MEAN p) (roundDiv (ths.foldl (fun (a r : Int) => a + r) 0)
    ths.length)).publishC (SILL_OFS_STATUS p)).showParent))) ∧
  (∀ (s : State) (p : Fin 4) (bs : List (Bool × Block)) (ago : Nat), isFrame bs 0x30 3 = true → s.sillState p = 4 →
    frameOk bs = false → exec (.syncReceive p bs ago) s = .next (s.sillDiscard p)) ∧
  (∀ (s : State) (p : Fin 4) (bs : List (Bool × Block)) (ago : Nat), (isFrame bs 0x30 3 = false ∨ s.sillState p ≠ 4)
    → exec (.syncReceive p bs ago) s = .next (s.strange p (fByte bs 0 0))) ∧
  (∀ (s : State) (p : Nat) (m : Int) (x : State), s.timeParent = some p → s.fwRuns = true → s.sillState p = 4 →
    (s.sport p).thetas ≠ [] → m = s.rdS (SILL_OFS_MEAN p) → s.outCommit = false → nsT 1000 < m.natAbs → x = (((s.wrS
    TB_STEP (-m)).tbStep false true).modSill (fun y => { y with inLock := 0, outLock := 0 })).modSport p (fun y =>
    { y with thetas := [] }) → x.flag SILL_STATUS_TIME_LOCKED = true → exec (.timeServo) s = .next (x.unlockTime)) ∧
  (∀ (s : State) (p : Nat) (m : Int) (x : State), s.timeParent = some p → s.fwRuns = true → s.sillState p = 4 →
    (s.sport p).thetas ≠ [] → m = s.rdS (SILL_OFS_MEAN p) → s.outCommit = false → nsT 1000 < m.natAbs → x = (((s.wrS
    TB_STEP (-m)).tbStep false true).modSill (fun y => { y with inLock := 0, outLock := 0 })).modSport p (fun y =>
    { y with thetas := [] }) → x.flag SILL_STATUS_TIME_LOCKED = false → exec (.timeServo) s = .next (x)) ∧
  (∀ (s : State) (p : Nat) (m : Int), s.timeParent = some p → s.fwRuns = true → s.sillState p = 4 → (s.sport
    p).thetas ≠ [] → m = s.rdS (SILL_OFS_MEAN p) → (s.outCommit = true ∨ m.natAbs ≤ nsT 1000) → exec (.timeServo) s =
    .next (((s.servoSlew m).judgeLock (decide (m.natAbs ≤ (s.servoSlew m).get SILL_TIME_CFG_LOCK *
    4096))).showHealth)) ∧
  (∀ (s : State), (s.timeParent = none ∨ s.fwRuns = false) → exec (.timeServo) s = .next (s)) ∧
  (∀ (s : State) (p : Nat), s.timeParent = some p → max (s.sport p).syncAt (s.sport p).since + 10000000 ≤ s.tb.ticks
    → s.fwRuns = true → exec (.syncTimeout) s = .next (((s.modSill (fun x =>
    { x with inLock := 0, outLock := 0 })).unlockTime).showHealth)) ∧
  (∀ (s : State) (p : Nat), s.timeParent = some p → s.tb.ticks < max (s.sport p).syncAt (s.sport p).since + 10000000
    → exec (.syncTimeout) s = .next (s)) ∧
  (∀ (s : State), (s.timeParent = none ∨ s.fwRuns = false) → exec (.syncTimeout) s = .next (s)) ∧
  (∀ (s : State) (p : Fin 4) (bs : List (Bool × Block)) (t : Nat) (cl : Claim) (x : State) (fs : List (Bool × Block))
    (y : State), fByte bs 0 0 = 0x40 → s.sillState p = 4 → frameOk (bs.take 3) = true → t = s.nearTime (2 ^ 24) (fNum
    bs 1 0 4) 0 (fNum bs 1 4 3) → s.sillRole p = 1 → s.selectedUp = some p.val → s.carriedAt t = some cl → cl.claim =
    fNum bs 0 3 2 → s.slotFrames p t (fByte bs 0 6 % 64) (fNum bs 2 0 4) (bs.drop 3) = (x, fs) → y = x.sillSendRole 2
    ⟨0, false, false, bs.take 3 ++ fs⟩ → exec (.posBurstReceive p bs) s = .next (((List.range 4).filter (fun q => q
    != p.val && y.sillOpen 1 q)).foldl (fun w q => w.sillTx q ⟨0, false, false, bs.take 3 ++ fs⟩) y)) ∧
  (∀ (s : State) (p : Fin 4) (bs : List (Bool × Block)) (t : Nat) (x : State) (fs : List (Bool × Block)), fByte bs 0
    0 = 0x40 → s.sillState p = 4 → frameOk (bs.take 3) = true → t = s.nearTime (2 ^ 24) (fNum bs 1 0 4) 0 (fNum bs 1
    4 3) → s.isStandby = true → (s.sillRole p = 3 ∨ s.sillRole p = 2) → s.slotFrames p t (fByte bs 0 6 % 64) (fNum bs
    2 0 4) (bs.drop 3) = (x, fs) → exec (.posBurstReceive p bs) s = .next (x)) ∧
  (∀ (s : State) (p : Fin 4) (bs : List (Bool × Block)), fByte bs 0 0 = 0x40 → s.sillState p = 4 → frameOk (bs.take
    3) = true → s.isStandby = false → (s.sillRole p ≠ 1 ∨ s.selectedUp ≠ some p.val) → exec (.posBurstReceive p bs) s
    = .next (s)) ∧
  (∀ (s : State) (p : Fin 4) (bs : List (Bool × Block)), fByte bs 0 0 = 0x40 → s.sillState p = 4 → frameOk (bs.take
    3) = false → exec (.posBurstReceive p bs) s = .next (s.sillDiscard p)) ∧
  (∀ (s : State) (p : Fin 4) (bs : List (Bool × Block)), (fByte bs 0 0 ≠ 0x40 ∨ s.sillState p ≠ 4) → exec
    (.posBurstReceive p bs) s = .next (s.strange p (fByte bs 0 0))) ∧
  (∀ (s : State) (p : Fin 4) (bs : List (Bool × Block)) (x : State), isFrame bs 0x50 2 = true → s.sillState p = 4 →
    frameOk bs = true → s.sillRelay p ⟨2, true, false, bs⟩ = (true, x) → fNum bs 0 3 2 ≠ x.nodeId → x.flag
    (SILL_EVT_CFG_ALIGN (fByte bs 0 1 % 32)) = false → exec (.eventFrameReceive p bs) s = .next (x.fabDeliver (fByte
    bs 0 1 % 32) (fByte bs 0 2 % 16 + 1))) ∧
  (∀ (s : State) (p : Fin 4) (bs : List (Bool × Block)) (x : State) (due : Nat), isFrame bs 0x50 2 = true →
    s.sillState p = 4 → frameOk bs = true → s.sillRelay p ⟨2, true, false, bs⟩ = (true, x) → fNum bs 0 3 2 ≠ x.nodeId
    → x.flag (SILL_EVT_CFG_ALIGN (fByte bs 0 1 % 32)) = true → due = x.nearTime 256 (fNum bs 1 0 4) (fNum bs 1 4 2)
    (fByte bs 1 6) + x.get (SILL_EVT_CFG_EVT_HOLD (fByte bs 0 1 % 32)) * 65536 → x.now ≤ due → exec
    (.eventFrameReceive p bs) s = .next (x.modSill (fun y =>
    { y with aligned := y.aligned ++ [⟨fByte bs 0 1 % 32, fByte bs 0 2 % 16 + 1, due⟩] }))) ∧
  (∀ (s : State) (p : Fin 4) (bs : List (Bool × Block)) (x : State) (due : Nat), isFrame bs 0x50 2 = true →
    s.sillState p = 4 → frameOk bs = true → s.sillRelay p ⟨2, true, false, bs⟩ = (true, x) → fNum bs 0 3 2 ≠ x.nodeId
    → x.flag (SILL_EVT_CFG_ALIGN (fByte bs 0 1 % 32)) = true → due = x.nearTime 256 (fNum bs 1 0 4) (fNum bs 1 4 2)
    (fByte bs 1 6) + x.get (SILL_EVT_CFG_EVT_HOLD (fByte bs 0 1 % 32)) * 65536 → due < x.now → exec
    (.eventFrameReceive p bs) s = .next ((((x.bump SILL_CNT_EVT_LATE).raise 10 SILL_EVENTS_EVT_LATE).logOnce 0x6040 0
    noUnit 0).fabDeliver (fByte bs 0 1 % 32) (fByte bs 0 2 % 16 + 1))) ∧
  (∀ (s : State) (p : Fin 4) (bs : List (Bool × Block)) (x : State), isFrame bs 0x50 2 = true → s.sillState p = 4 →
    frameOk bs = true → x = (s.sillRelay p ⟨2, true, false, bs⟩).2 → ((s.sillRelay p ⟨2, true, false, bs⟩).1 = false
    ∨ fNum bs 0 3 2 = x.nodeId) → exec (.eventFrameReceive p bs) s = .next (x)) ∧
  (∀ (s : State) (p : Fin 4) (bs : List (Bool × Block)), isFrame bs 0x50 2 = true → s.sillState p = 4 → frameOk bs =
    false → exec (.eventFrameReceive p bs) s = .next (s.sillDiscard p)) ∧
  (∀ (s : State) (p : Fin 4) (bs : List (Bool × Block)), (isFrame bs 0x50 2 = false ∨ s.sillState p ≠ 4) → exec
    (.eventFrameReceive p bs) s = .next (s.strange p (fByte bs 0 0))) ∧
  (∀ (s : State) (e : AlignedEvt), s.sill.aligned.find? (fun (x : AlignedEvt) => decide (x.due ≤ s.now)) = some e →
    exec (.alignedEventDue) s = .next ((s.modSill (fun x => { x with aligned := x.aligned.erase e })).fabDeliver
    e.line e.hop)) ∧
  (∀ (s : State), s.sill.aligned.find? (fun (x : AlignedEvt) => decide (x.due ≤ s.now)) = none → exec
    (.alignedEventDue) s = .next (s)) ∧
  (∀ (s : State) (m : Fin 3), s.reaches m = true → s.flag SILL_SCHED_CMD_GO = false → exec (.schedGo m) s = .next
    (s.schedGo)) ∧
  (∀ (s : State) (m : Fin 3), s.reaches m = true → s.flag SILL_SCHED_CMD_GO = true → exec (.schedGo m) s = .next
    (s.badAccess m SILL_SCHED_CMD 3)) ∧
  (∀ (s : State) (m : Fin 3), s.reaches m = false → exec (.schedGo m) s = .next (s.unreached m)) ∧
  (∀ (s : State) (p : Fin 4) (bs : List (Bool × Block)) (x : State), isFrame bs 0x58 3 = true → s.sillState p = 4 →
    frameOk bs = true → s.sillRelay p ⟨2, false, false, bs⟩ = (true, x) → exec (.schedFrameReceive p bs) s = .next
    (x.schedAccept bs)) ∧
  (∀ (s : State) (p : Fin 4) (bs : List (Bool × Block)) (x : State), isFrame bs 0x58 3 = true → s.sillState p = 4 →
    frameOk bs = true → s.sillRelay p ⟨2, false, false, bs⟩ = (false, x) → exec (.schedFrameReceive p bs) s = .next
    (x)) ∧
  (∀ (s : State) (p : Fin 4) (bs : List (Bool × Block)), isFrame bs 0x58 3 = true → s.sillState p = 4 → frameOk bs =
    false → exec (.schedFrameReceive p bs) s = .next (s.sillDiscard p)) ∧
  (∀ (s : State) (p : Fin 4) (bs : List (Bool × Block)), (isFrame bs 0x58 3 = false ∨ s.sillState p ≠ 4) → exec
    (.schedFrameReceive p bs) s = .next (s.strange p (fByte bs 0 0)))

/-- Each clause below holds for every state and all operands that meet its hypotheses, and concludes that exec of the
  command answers exactly the next state written in it. (1) CLAIM_SEND by a holder, a root without a twin, or a
  standby that takes: a CLAIM goes to every DOWN port. (2) CLAIM_SEND by any other node: nothing. (3) CLAIM_RECEIVE
  on an UP port: the claim replaces what was heard of its number, the carried claim is evaluated again (x), and a
  frame of the carried claim, or a TAKING one, goes down. (4) CLAIM_RECEIVE of any other claim: it goes no further.
  (5) CLAIM_RECEIVE of a claim heard at the same tick on another port: the lower port is kept. (6) CLAIM_RECEIVE with
  a failed CRC: it is discarded and counted. (7) CLAIM_RECEIVE of anything else: only a frame of an unknown TYPE is
  counted. (8) CLAIM_WINDOW_EXPIRY: claims not heard within CLAIM_WINDOW are forgotten, and the carried claim is
  evaluated again. (9) CECHO_SEND by a repeater: its node ID, carried claim and depth go to every UP port. (10)
  CECHO_SEND by any other node: nothing. (11) CECHO_RECEIVE on a DOWN port: the echo is noted (cechoHeard),
  CLAIM_BLOCKED judged and the time parent found again. (12) CECHO_RECEIVE with a bad CHECK: it is discarded and
  counted. (13) CECHO_RECEIVE of anything else: only a block of an unknown TYPE is counted. (14) BEAT_SEND by a twin
  with its TWIN port ACTIVE: a BEAT leaves with its health (x) and the swap's request and answer, which clear. (15)
  BEAT_SEND otherwise: nothing. (16) BEAT_RECEIVE on the TWIN port: the twin's claim, role and health show, the
  heartbeat is there, and its watch begins anew. (17) BEAT_RECEIVE with SWAP_REQ: and the proposal for t is answered
  (swapRequested). (18) BEAT_RECEIVE with SWAP_ACK or SWAP_ABORT: and this twin's proposal is agreed or abandoned
  (swapAnswered). (19) BEAT_RECEIVE with a request and an answer: both. (20) BEAT_RECEIVE with a failed CRC: it is
  discarded and counted. (21) BEAT_RECEIVE of anything else: only a frame of an unknown TYPE is counted. (22)
  TWIN_WATCH_START of a twin once its TWIN port is ACTIVE, or 100 ms after LINK_RELEASE: the watch for BEATs begins.
  (23) TWIN_WATCH_START otherwise: nothing. (24) HB_LOST of a holder, 50 µs after the last BEAT: the loss shows, is
  raised, counted and logged 0x6030 (x), and it stops RELEASING. (25) HB_LOST of any other node: the same, and a
  standby starts its holdoff (holdoffStart). (26) HB_LOST before that, with no watch, or with the loss shown already:
  nothing. (27) NO_HOLDER_TIMEOUT 50 µs after the last BEAT of a holder: a standby starts its holdoff. (28)
  NO_HOLDER_TIMEOUT before that, or with no watch: nothing. (29) CLAIM_HOLDOFF_EXPIRY of a standby whose holdoff has
  passed: it is counted, raised and logged 0x6031, and becomes HOLDER. (30) CLAIM_HOLDOFF_EXPIRY before that:
  nothing. (31) CLAIM_HOLDOFF_EXPIRY of any other node, or with no holdoff: nothing. (32) SWAP_REQ by the MC on a
  twin: a swap is proposed. (33) SWAP_REQ by the MC on any other node: SWAP_REQ stays 0. (34) SWAP_REQ by a host: a
  bad access of cause 3. (35) SWAP_REQ by a master whose writes do not reach the registers: only the Unsupported
  Request, where its link is up. (36) SWAP_TAKING_START from 100 µs before T_swap: TAKING and RELEASING are sent.
  (37) SWAP_TAKING_START with no swap pending, or before: nothing. (38) SWAP_POINT at T_swap of the twin that takes:
  the swap is pending no more, the echo of its claim is awaited (x), and it becomes HOLDER. (39) SWAP_POINT of a
  holder whose claim was being released: it becomes STANDBY. (40) SWAP_POINT of any other twin: the swap is pending
  no more. (41) SWAP_POINT with no swap pending, or before T_swap: the carried claim is evaluated again. (42)
  REVERT_HOLD_EXPIRY of a preferred standby that has stayed HEALTHY for REVERT_HOLD: it proposes a swap. (43)
  REVERT_HOLD_EXPIRY before that: nothing. (44) REVERT_HOLD_EXPIRY of any other node, or while it is not HEALTHY:
  nothing. (45) SWAP_PERIOD_EXPIRY of a holder for SWAP_PERIOD, with periodic swaps enabled and its twin HEALTHY: it
  proposes a swap. (46) SWAP_PERIOD_EXPIRY otherwise: nothing. (R445, R446, R447, R448, R449, R450, R451, R452, R454)
  -/
def Obligations.TwinsComplete : Prop :=
  (∀ (s : State), (s.sillTurns = true ∨ (s.isStandby = true ∧ s.sill.swapFrames = true ∧ s.sill.swapTaker = true)) →
    exec (.claimSend) s = .next (s.sillSendRole 2 s.claimFrame)) ∧
  (∀ (s : State), s.sillTurns = false → (s.isStandby = false ∨ s.sill.swapFrames = false ∨ s.sill.swapTaker = false)
    → exec (.claimSend) s = .next (s)) ∧
  (∀ (s : State) (p : Fin 4) (bs : List (Bool × Block)) (cl : Claim) (x : State), isFrame bs 0x60 2 = true →
    s.sillOpen 1 p = true → frameOk bs = true → s.sill.claims.find? (fun (d : Claim) => d.claim == fNum bs 0 1 2 &&
    d.heard == s.tb.ticks) = none → cl = ⟨fNum bs 0 1 2, bit (fByte bs 0 5) 0, bit (fByte bs 0 5) 1, s.nearTime 256
    (fNum bs 1 0 4) 0 (fByte bs 1 4), p.val, s.tb.ticks⟩ → x = (s.modSill (fun y =>
    { y with claims := y.claims.filter (fun (d : Claim) => d.claim != fNum bs 0 1 2) ++ [cl] })).carry → (x.get
    SILL_STATUS_CARRIED == fNum bs 0 1 2 || cl.taking) = true → exec (.claimReceive p bs) s = .next (x.sillSendRole 2
    ⟨1, false, false, bs⟩)) ∧
  (∀ (s : State) (p : Fin 4) (bs : List (Bool × Block)) (cl : Claim) (x : State), isFrame bs 0x60 2 = true →
    s.sillOpen 1 p = true → frameOk bs = true → s.sill.claims.find? (fun (d : Claim) => d.claim == fNum bs 0 1 2 &&
    d.heard == s.tb.ticks) = none → cl = ⟨fNum bs 0 1 2, bit (fByte bs 0 5) 0, bit (fByte bs 0 5) 1, s.nearTime 256
    (fNum bs 1 0 4) 0 (fByte bs 1 4), p.val, s.tb.ticks⟩ → x = (s.modSill (fun y =>
    { y with claims := y.claims.filter (fun (d : Claim) => d.claim != fNum bs 0 1 2) ++ [cl] })).carry → (x.get
    SILL_STATUS_CARRIED == fNum bs 0 1 2 || cl.taking) = false → exec (.claimReceive p bs) s = .next (x)) ∧
  (∀ (s : State) (p : Fin 4) (bs : List (Bool × Block)) (d cl : Claim) (x : State), isFrame bs 0x60 2 = true →
    s.sillOpen 1 p = true → frameOk bs = true → s.sill.claims.find? (fun (d : Claim) => d.claim == fNum bs 0 1 2 &&
    d.heard == s.tb.ticks) = some d → cl = ⟨fNum bs 0 1 2, bit (fByte bs 0 5) 0, bit (fByte bs 0 5) 1, s.nearTime 256
    (fNum bs 1 0 4) 0 (fByte bs 1 4), min d.port p.val, s.tb.ticks⟩ → x = (s.modSill (fun y =>
    { y with claims := y.claims.filter (fun (d : Claim) => d.claim != fNum bs 0 1 2) ++ [cl] })).carry → (x.get
    SILL_STATUS_CARRIED == fNum bs 0 1 2 || cl.taking) = true → exec (.claimReceive p bs) s = .next (x.sillSendRole 2
    ⟨1, false, false, bs⟩)) ∧
  (∀ (s : State) (p : Fin 4) (bs : List (Bool × Block)), isFrame bs 0x60 2 = true → s.sillOpen 1 p = true → frameOk
    bs = false → exec (.claimReceive p bs) s = .next (s.sillDiscard p)) ∧
  (∀ (s : State) (p : Fin 4) (bs : List (Bool × Block)), (isFrame bs 0x60 2 = false ∨ s.sillOpen 1 p = false) → exec
    (.claimReceive p bs) s = .next (s.strange p (fByte bs 0 0))) ∧
  (∀ (s : State), exec (.claimWindowExpiry) s = .next ((s.modSill (fun x => { x with
    claims := x.claims.filter (fun (cl : Claim) => decide (s.tb.ticks < cl.heard + s.get SILL_TWIN_CFG_CLAIM_WINDOW * 1000)) })).carry)) ∧
  (∀ (s : State), s.get SILL_STATUS_ROLE = 2 → exec (.cechoSend) s = .next (s.sillSendRole 1 ⟨1, false, false, [sillC
    0x61 (toBytes 2 s.nodeId ++ toBytes 2 (s.get SILL_STATUS_CARRIED) ++ toBytes 1 (s.get SILL_STATUS_DEPTH))]⟩)) ∧
  (∀ (s : State), s.get SILL_STATUS_ROLE ≠ 2 → exec (.cechoSend) s = .next (s)) ∧
  (∀ (s : State) (p : Fin 4) (b : Block), blockByte b 0 = 0x61 → s.sillOpen 2 p = true → checkOk b = true → exec
    (.cechoReceive p b) s = .next ((s.cechoHeard p (getBits b.toNat 24 16)).blockedCheck.showParent)) ∧
  (∀ (s : State) (p : Fin 4) (b : Block), blockByte b 0 = 0x61 → s.sillOpen 2 p = true → checkOk b = false → exec
    (.cechoReceive p b) s = .next (s.sillDiscard p)) ∧
  (∀ (s : State) (p : Fin 4) (b : Block), (blockByte b 0 ≠ 0x61 ∨ s.sillOpen 2 p = false) → exec (.cechoReceive p b)
    s = .next (s.strange p (blockByte b 0))) ∧
  (∀ (s : State) (x : State), s.isTwin = true → (List.range 4).any (fun p => s.sillOpen 3 p) = true → x =
    s.showHealth → exec (.beatSend) s = .next (((x.sillSendRole 3 x.beatFrame).modSill (fun y =>
    { y with swapAnswer := 0 })).putB SILL_CMD_SWAP_REQ false)) ∧
  (∀ (s : State), (s.isTwin = false ∨ (List.range 4).any (fun p => s.sillOpen 3 p) = false) → exec (.beatSend) s =
    .next (s)) ∧
  (∀ (s : State) (p : Fin 4) (bs : List (Bool × Block)) (t : Nat), isFrame bs 0x62 2 = true → s.sillOpen 3 p = true →
    frameOk bs = true → t = s.nearTime 256 (fNum bs 1 0 4) 0 (fByte bs 1 4) → fByte bs 0 4 / 4 % 8 = 0 → exec
    (.beatReceive p bs) s = .next ((s.beatHeard bs).showHealth)) ∧
  (∀ (s : State) (p : Fin 4) (bs : List (Bool × Block)) (t : Nat), isFrame bs 0x62 2 = true → s.sillOpen 3 p = true →
    frameOk bs = true → t = s.nearTime 256 (fNum bs 1 0 4) 0 (fByte bs 1 4) → bit (fByte bs 0 4) 2 = true → bit
    (fByte bs 0 4) 3 = false → bit (fByte bs 0 4) 4 = false → exec (.beatReceive p bs) s = .next (((s.beatHeard
    bs).swapRequested t).showHealth)) ∧
  (∀ (s : State) (p : Fin 4) (bs : List (Bool × Block)) (t : Nat) (ack : Bool), isFrame bs 0x62 2 = true → s.sillOpen
    3 p = true → frameOk bs = true → t = s.nearTime 256 (fNum bs 1 0 4) 0 (fByte bs 1 4) → bit (fByte bs 0 4) 2 =
    false → bit (fByte bs 0 4) 3 = ack → (ack = true ∨ bit (fByte bs 0 4) 4 = true) → exec (.beatReceive p bs) s =
    .next (((s.beatHeard bs).swapAnswered ack t).showHealth)) ∧
  (∀ (s : State) (p : Fin 4) (bs : List (Bool × Block)) (t : Nat) (ack : Bool), isFrame bs 0x62 2 = true → s.sillOpen
    3 p = true → frameOk bs = true → t = s.nearTime 256 (fNum bs 1 0 4) 0 (fByte bs 1 4) → bit (fByte bs 0 4) 2 =
    true → bit (fByte bs 0 4) 3 = ack → (ack = true ∨ bit (fByte bs 0 4) 4 = true) → exec (.beatReceive p bs) s =
    .next ((((s.beatHeard bs).swapRequested t).swapAnswered ack t).showHealth)) ∧
  (∀ (s : State) (p : Fin 4) (bs : List (Bool × Block)), isFrame bs 0x62 2 = true → s.sillOpen 3 p = true → frameOk
    bs = false → exec (.beatReceive p bs) s = .next (s.sillDiscard p)) ∧
  (∀ (s : State) (p : Fin 4) (bs : List (Bool × Block)), (isFrame bs 0x62 2 = false ∨ s.sillOpen 3 p = false) → exec
    (.beatReceive p bs) s = .next (s.strange p (fByte bs 0 0))) ∧
  (∀ (s : State), s.isTwin = true → s.linkRelease = true → s.sill.watch = none → ((List.range 4).any (fun p =>
    s.sillOpen 3 p) = true ∨ s.sill.released + 100000000 ≤ s.tb.ticks) → exec (.twinWatchStart) s = .next (s.modSill
    (fun x => { x with watch := some s.tb.ticks }))) ∧
  (∀ (s : State), (s.isTwin = false ∨ s.linkRelease = false ∨ s.sill.watch.isSome = true ∨ ((List.range 4).any (fun p
    => s.sillOpen 3 p) = false ∧ s.tb.ticks < s.sill.released + 100000000)) → exec (.twinWatchStart) s = .next (s)) ∧
  (∀ (s : State) (x : State), s.watched s.sill.beatTick = true → s.flag SILL_STATUS_HB_LOST = false → x = ((((s.putB
    SILL_STATUS_HB_LOST true).putB SILL_TWIN_STATUS_BEAT_OK false).raise 10 SILL_EVENTS_HB_LOST).bump
    SILL_CNT_HB_LOST).logC 0x6030 noUnit 0 → x.isHolder = true → exec (.hbLost) s = .next ((x.modSill (fun y =>
    { y with swapFrames := false })).holdoffStart)) ∧
  (∀ (s : State) (x : State), s.watched s.sill.beatTick = true → s.flag SILL_STATUS_HB_LOST = false → x = ((((s.putB
    SILL_STATUS_HB_LOST true).putB SILL_TWIN_STATUS_BEAT_OK false).raise 10 SILL_EVENTS_HB_LOST).bump
    SILL_CNT_HB_LOST).logC 0x6030 noUnit 0 → x.isHolder = false → exec (.hbLost) s = .next (x.holdoffStart)) ∧
  (∀ (s : State), (s.watched s.sill.beatTick = false ∨ s.flag SILL_STATUS_HB_LOST = true) → exec (.hbLost) s = .next
    (s)) ∧
  (∀ (s : State), s.watched s.sill.holderTick = true → exec (.noHolderTimeout) s = .next (s.holdoffStart)) ∧
  (∀ (s : State), s.watched s.sill.holderTick = false → exec (.noHolderTimeout) s = .next (s)) ∧
  (∀ (s : State) (t : Nat), s.isStandby = true → s.sill.holdoff = some t → t + s.holdoffNs ≤ s.tb.ticks → exec
    (.claimHoldoffExpiry) s = .next (((((s.bump SILL_CNT_CLAIM).raise 10 SILL_EVENTS_CLAIMED).logC 0x6031 noUnit
    0).becomeHolder))) ∧
  (∀ (s : State) (t : Nat), s.isStandby = true → s.sill.holdoff = some t → s.tb.ticks < t + s.holdoffNs → exec
    (.claimHoldoffExpiry) s = .next (s)) ∧
  (∀ (s : State), (s.isStandby = false ∨ s.sill.holdoff = none) → exec (.claimHoldoffExpiry) s = .next (s)) ∧
  (∀ (s : State), s.reaches 0 = true → s.isTwin = true → exec (.swapReq 0) s = .next (s.propose.putB
    SILL_CMD_SWAP_REQ true)) ∧
  (∀ (s : State), s.reaches 0 = true → s.isTwin = false → exec (.swapReq 0) s = .next (s.putB SILL_CMD_SWAP_REQ
    false)) ∧
  (∀ (s : State) (m : Fin 3), s.reaches m = true → m ≠ 0 → exec (.swapReq m) s = .next (s.badAccess m SILL_CMD 3)) ∧
  (∀ (s : State) (m : Fin 3), s.reaches m = false → exec (.swapReq m) s = .next (s.unreached m)) ∧
  (∀ (s : State), s.flag SILL_STATUS_SWAP_PENDING = true → (s.sill.swapAt : Int) ≤ s.nowI + nsT 100000 → exec
    (.swapTakingStart) s = .next (s.modSill (fun x => { x with swapFrames := true }))) ∧
  (∀ (s : State), (s.flag SILL_STATUS_SWAP_PENDING = false ∨ s.nowI + nsT 100000 < (s.sill.swapAt : Int)) → exec
    (.swapTakingStart) s = .next (s)) ∧
  (∀ (s : State) (x : State), s.flag SILL_STATUS_SWAP_PENDING = true → s.sill.swapAt ≤ s.now → s.sill.swapTaker =
    true → x = ((s.putB SILL_STATUS_SWAP_PENDING false).wrTime SILL_SWAP_AT 0).modSill (fun y =>
    { y with swapFrames := false, swapWait := some s.ownClaim }) → exec (.swapPoint) s = .next (x.becomeHolder)) ∧
  (∀ (s : State) (x : State), s.flag SILL_STATUS_SWAP_PENDING = true → s.sill.swapAt ≤ s.now → s.sill.swapTaker =
    false → x = ((s.putB SILL_STATUS_SWAP_PENDING false).wrTime SILL_SWAP_AT 0).modSill (fun y =>
    { y with swapFrames := false, swapWait := some (s.get SILL_TWIN_CFG_TWIN_CLAIM) }) → s.sill.swapFrames = true →
    x.isHolder = true → exec (.swapPoint) s = .next (x.becomeStandby)) ∧
  (∀ (s : State) (x : State), s.flag SILL_STATUS_SWAP_PENDING = true → s.sill.swapAt ≤ s.now → s.sill.swapTaker =
    false → x = ((s.putB SILL_STATUS_SWAP_PENDING false).wrTime SILL_SWAP_AT 0).modSill (fun y =>
    { y with swapFrames := false, swapWait := some (s.get SILL_TWIN_CFG_TWIN_CLAIM) }) → (s.sill.swapFrames = false ∨
    x.isHolder = false) → exec (.swapPoint) s = .next (x)) ∧
  (∀ (s : State), (s.flag SILL_STATUS_SWAP_PENDING = false ∨ s.now < s.sill.swapAt) → exec (.swapPoint) s = .next
    (s.carry)) ∧
  (∀ (s : State) (t : Nat), s.fwRuns = true → s.flag SILL_SWAP_CFG_REVERT = true → s.isStandby = true → s.get
    SILL_CFG_TWIN_ROLE = 1 → s.flag SILL_STATUS_HEALTHY = true → s.sill.healthySince = some t → t + s.get
    SILL_SWAP_CFG_REVERT_HOLD * 1000000000 ≤ s.tb.ticks → exec (.revertHoldExpiry) s = .next (s.propose.putB
    SILL_CMD_SWAP_REQ true)) ∧
  (∀ (s : State) (t : Nat), s.sill.healthySince = some t → s.tb.ticks < t + s.get SILL_SWAP_CFG_REVERT_HOLD *
    1000000000 → exec (.revertHoldExpiry) s = .next (s)) ∧
  (∀ (s : State), (s.sill.healthySince = none ∨ s.fwRuns = false ∨ s.flag SILL_SWAP_CFG_REVERT = false ∨ s.isStandby
    = false ∨ s.get SILL_CFG_TWIN_ROLE ≠ 1 ∨ s.flag SILL_STATUS_HEALTHY = false) → exec (.revertHoldExpiry) s = .next
    (s)) ∧
  (∀ (s : State), s.sill.holderSince + s.get SILL_SWAP_CFG_SWAP_PERIOD * 60000000000 ≤ s.tb.ticks → s.fwRuns = true →
    s.flag SILL_SWAP_CFG_SWAP_EN = true → s.isHolder = true → s.flag SILL_TWIN_STATUS_TWIN_HEALTHY = true → exec
    (.swapPeriodExpiry) s = .next (s.propose.putB SILL_CMD_SWAP_REQ true)) ∧
  (∀ (s : State), (s.tb.ticks < s.sill.holderSince + s.get SILL_SWAP_CFG_SWAP_PERIOD * 60000000000 ∨ s.fwRuns = false
    ∨ s.flag SILL_SWAP_CFG_SWAP_EN = false ∨ s.isHolder = false ∨ s.flag SILL_TWIN_STATUS_TWIN_HEALTHY = false) →
    exec (.swapPeriodExpiry) s = .next (s))

/-- Each clause below holds for every state and all operands that meet its hypotheses, and concludes that exec of the
  command answers exactly the next state written in it. (1) BOOT_ROM_START with BOOT_MODE 01: the MC leaves reset
  with its interfaces enabled (x) and waits for an image in recovery. (2) BOOT_ROM_START with SFDP tables that cannot
  be read: 0x8022 is logged, then recovery. (3) BOOT_ROM_START without a valid boot header: 0x8021 is logged, then
  recovery. (4) BOOT_ROM_START with a valid boot header: the flash interface is set and firmware selected
  (romSelect). (5) BOOT_ROM_START with BOOT_MODE 10: the same, and with JTAG open the MC stops before the first
  instruction of the selected image. (6) BOOT_ROM_START in reset, or while the MC runs: nothing. (7) FIRMWARE_START
  of the selected image before CL_COMMIT: firmware begins (fwBegin), STAGE is 1, and the bring-up runs (bringUp). (8)
  FIRMWARE_START on a device that is committed: firmware begins and resumes. (9) FIRMWARE_START that comes again at
  stage 1, not held: the bring-up goes on. (10) FIRMWARE_START in reset, stopped for debug, or with no image
  selected: nothing. (11) FIRMWARE_START while firmware runs otherwise: nothing. (12) CL_COMMIT: the RWL fields lock.
  (13) CL_COMMIT at stage 4 without STRICT: the windows are also committed, the streams admitted or refused, and
  STAGE is 6 (clAdmit). (14) CL_COMMIT at stage 4 with STRICT: the same where no stream was refused; else firmware
  holds, or the trial of the slot fails and the device resets (clTrialFail). (15) CL_COMMIT in reset: nothing. (16)
  LINK_RELEASE: lanes, fabric ports and position channels start together (setRelease). (17) LINK_RELEASE at stage 6
  with a Cut List: LINK_PLAN and FABRIC are applied first, and STAGE is 7 (stage7). (18) LINK_RELEASE in reset, or
  while firmware holds: nothing. (19) OUTPUT_COMMIT_SET in reset, or while firmware holds: nothing. (20)
  OUTPUT_COMMIT_SET: pins drive their idle levels, sequencers, cycle timers and PPS_OUT start (setOutputs). (21)
  OUTPUT_COMMIT_SET at stage 7: the banks are checked and idle levels loaded (stage8), and the first commit follows:
  counts begin anew, outputs are set and STAGE is 9 (firstCommit). (22) OUTPUT_COMMIT_SET at stage 7 of a Cut List
  that waits for Sill time, on a node not locked: STAGE is 8. (23) OUTPUT_COMMIT_SET at stage 8, with Sill time or
  with no wait for it: the first commit. (24) OUTPUT_COMMIT_SET at stage 8 without it: it waits. (25)
  COMMIT_TIMEOUT_EXPIRY, COMMIT_TIMEOUT after the wait began: 0x8045 is logged and the first commit made. (26)
  COMMIT_TIMEOUT_EXPIRY before that, or with no wait: nothing. (27) OUTPUT_COMMIT_CLEAR: field outputs are released,
  pulses cut short, committed firings not sent, sequencers, kerf buffers and SSI channels stop (clearOutputs). (28)
  OUTPUT_COMMIT_CLEAR in reset: nothing. (R21, R42, R44, R72, R74, R75, R76, R85, R86, R88, R90) -/
def Obligations.StartComplete : Prop :=
  (∀ (s : State) (sfdp : Option (Nat × Nat)) (x : State), s.held = false → s.power.mcDown = true → x = s.romRuns →
    x.get GLOBAL_STRAPS_BOOT_MODE_EFF = 1 → exec (.bootRomStart sfdp) s = .next (x.toRecovery)) ∧
  (∀ (s : State) (x : State), s.held = false → s.power.mcDown = true → x = s.romRuns → x.get
    GLOBAL_STRAPS_BOOT_MODE_EFF ≠ 1 → exec (.bootRomStart none) s = .next ((x.bootFail 0x8022).toRecovery)) ∧
  (∀ (s : State) (modes mhz : Nat) (x : State), s.held = false → s.power.mcDown = true → x = s.romRuns → x.get
    GLOBAL_STRAPS_BOOT_MODE_EFF ≠ 1 → x.hdrCopy = none → exec (.bootRomStart (some (modes, mhz))) s = .next
    ((x.bootFail 0x8021).toRecovery)) ∧
  (∀ (s : State) (modes mhz : Nat) (x : State), s.held = false → s.power.mcDown = true → x = s.romRuns → x.get
    GLOBAL_STRAPS_BOOT_MODE_EFF ≠ 1 → x.get GLOBAL_STRAPS_BOOT_MODE_EFF ≠ 2 → x.hdrCopy ≠ none → exec (.bootRomStart
    (some (modes, mhz))) s = .next (x.romSelect modes mhz)) ∧
  (∀ (s : State) (modes mhz : Nat) (x : State), s.held = false → s.power.mcDown = true → x = s.romRuns → x.get
    GLOBAL_STRAPS_BOOT_MODE_EFF = 2 → x.hdrCopy ≠ none → exec (.bootRomStart (some (modes, mhz))) s = .next
    ((x.romSelect modes mhz).iff ((x.romSelect modes mhz).jtagOpen && (x.romSelect modes mhz).mc.fwSel) (fun s =>
    s.modPower (fun p => { p with mcDebugHold := true })))) ∧
  (∀ (s : State) (sfdp : Option (Nat × Nat)), (s.held = true ∨ s.power.mcDown = false) → exec (.bootRomStart sfdp) s
    = .next (s)) ∧
  (∀ (s : State) (trained reread : List Nat) (bad : List (Nat × List Nat)), s.held = false → s.power.mcDown = false →
    s.power.mcDebugHold = false → s.mc.fwSel = true → s.mc.fwOn = false → s.fwBegin.clCommit = false → exec
    (.firmwareStart trained reread bad) s = .next (((s.fwBegin.put GLOBAL_BOOT_STATUS_STAGE 1).putB
    GLOBAL_BOOT_STATUS_HELD false).bringUp trained reread bad)) ∧
  (∀ (s : State) (trained reread : List Nat) (bad : List (Nat × List Nat)), s.held = false → s.power.mcDown = false →
    s.power.mcDebugHold = false → s.mc.fwSel = true → s.mc.fwOn = false → s.fwBegin.clCommit = true → exec
    (.firmwareStart trained reread bad) s = .next (s.fwBegin.fwResume)) ∧
  (∀ (s : State) (trained reread : List Nat) (bad : List (Nat × List Nat)), s.held = false → s.power.mcDown = false →
    s.power.mcDebugHold = false → s.mc.fwSel = true → s.mc.fwOn = true → s.clCommit = false → s.get
    GLOBAL_BOOT_STATUS_STAGE = 1 → s.flag GLOBAL_BOOT_STATUS_HELD = false → exec (.firmwareStart trained reread bad)
    s = .next (s.bringUp trained reread bad)) ∧
  (∀ (s : State) (trained reread : List Nat) (bad : List (Nat × List Nat)), (s.held = true ∨ s.power.mcDown = true ∨
    s.power.mcDebugHold = true ∨ s.mc.fwSel = false) → exec (.firmwareStart trained reread bad) s = .next (s)) ∧
  (∀ (s : State) (trained reread : List Nat) (bad : List (Nat × List Nat)), s.mc.fwOn = true → (s.clCommit = true ∨
    s.get GLOBAL_BOOT_STATUS_STAGE ≠ 1 ∨ s.flag GLOBAL_BOOT_STATUS_HELD = true) → exec (.firmwareStart trained reread
    bad) s = .next (s)) ∧
  (∀ (s : State), s.held = false → (s.fwRuns = false ∨ s.get GLOBAL_BOOT_STATUS_STAGE ≠ 4 ∨ s.clCommit = true) → exec
    (.clCommit) s = .next (s.setClCommit)) ∧
  (∀ (s : State) (x : State), s.held = false → s.fwRuns = true → s.get GLOBAL_BOOT_STATUS_STAGE = 4 → s.clCommit =
    false → x = s.setClCommit → bit (bytesAt x.clNow 28 2) 0 = false → exec (.clCommit) s = .next (x.clAdmit.1)) ∧
  (∀ (s : State) (x : State), s.held = false → s.fwRuns = true → s.get GLOBAL_BOOT_STATUS_STAGE = 4 → s.clCommit =
    false → x = s.setClCommit → bit (bytesAt x.clNow 28 2) 0 = true → exec (.clCommit) s = .next (if x.clAdmit.2 = 0
    then x.clAdmit.1 else if x.clAdmit.1.clTrial then x.clAdmit.1.clTrialFail else x.clAdmit.1.hold)) ∧
  (∀ (s : State), s.held = true → exec (.clCommit) s = .next (s)) ∧
  (∀ (s : State), s.held = false → s.flag GLOBAL_BOOT_STATUS_HELD = false → (s.fwRuns = false ∨ s.mc.clOk = false ∨
    s.get GLOBAL_BOOT_STATUS_STAGE ≠ 6) → exec (.linkRelease) s = .next (s.setRelease)) ∧
  (∀ (s : State), s.held = false → s.flag GLOBAL_BOOT_STATUS_HELD = false → s.fwRuns = true → s.mc.clOk = true →
    s.get GLOBAL_BOOT_STATUS_STAGE = 6 → exec (.linkRelease) s = .next (s.stage7.setRelease)) ∧
  (∀ (s : State), (s.held = true ∨ s.flag GLOBAL_BOOT_STATUS_HELD = true) → exec (.linkRelease) s = .next (s)) ∧
  (∀ (s : State), (s.held = true ∨ s.flag GLOBAL_BOOT_STATUS_HELD = true) → exec (.outputCommitSet) s = .next (s)) ∧
  (∀ (s : State), s.held = false → s.flag GLOBAL_BOOT_STATUS_HELD = false → (s.fwRuns = false ∨ s.mc.clOk = false ∨
    (s.get GLOBAL_BOOT_STATUS_STAGE ≠ 7 ∧ s.get GLOBAL_BOOT_STATUS_STAGE ≠ 8)) → exec (.outputCommitSet) s = .next
    (s.setOutputs)) ∧
  (∀ (s : State) (x : State), s.held = false → s.flag GLOBAL_BOOT_STATUS_HELD = false → s.fwRuns = true → s.mc.clOk =
    true → s.get GLOBAL_BOOT_STATUS_STAGE = 7 → x = s.stage8 (clOne s.clNow 8) → (bit (bytesAt s.clNow 28 2) 1 =
    false ∨ x.flag SILL_STATUS_TIME_LOCKED = true) → exec (.outputCommitSet) s = .next (x.firstCommit)) ∧
  (∀ (s : State) (x : State), s.held = false → s.flag GLOBAL_BOOT_STATUS_HELD = false → s.fwRuns = true → s.mc.clOk =
    true → s.get GLOBAL_BOOT_STATUS_STAGE = 7 → x = s.stage8 (clOne s.clNow 8) → bit (bytesAt s.clNow 28 2) 1 = true
    → x.flag SILL_STATUS_TIME_LOCKED = false → exec (.outputCommitSet) s = .next (x)) ∧
  (∀ (s : State), s.held = false → s.flag GLOBAL_BOOT_STATUS_HELD = false → s.fwRuns = true → s.mc.clOk = true →
    s.get GLOBAL_BOOT_STATUS_STAGE = 8 → (bit (bytesAt s.clNow 28 2) 1 = false ∨ s.flag SILL_STATUS_TIME_LOCKED =
    true) → exec (.outputCommitSet) s = .next (s.firstCommit)) ∧
  (∀ (s : State), s.held = false → s.flag GLOBAL_BOOT_STATUS_HELD = false → s.fwRuns = true → s.mc.clOk = true →
    s.get GLOBAL_BOOT_STATUS_STAGE = 8 → bit (bytesAt s.clNow 28 2) 1 = true → s.flag SILL_STATUS_TIME_LOCKED = false
    → exec (.outputCommitSet) s = .next (s)) ∧
  (∀ (s : State), s.fwRuns = true → s.get GLOBAL_BOOT_STATUS_STAGE = 8 → s.outCommit = false → s.mc.waitAt + bytesAt
    s.clNow 30 2 * 1000000 ≤ s.tb.ticks → exec (.commitTimeoutExpiry) s = .next ((s.logC 0x8045 noUnit
    0).firstCommit)) ∧
  (∀ (s : State), (s.fwRuns = false ∨ s.get GLOBAL_BOOT_STATUS_STAGE ≠ 8 ∨ s.outCommit = true ∨ s.tb.ticks <
    s.mc.waitAt + bytesAt s.clNow 30 2 * 1000000) → exec (.commitTimeoutExpiry) s = .next (s)) ∧
  (∀ (s : State), s.held = false → exec (.outputCommitClear) s = .next (s.clearOutputs)) ∧
  (∀ (s : State), s.held = true → exec (.outputCommitClear) s = .next (s))

/-- Each clause below holds for every state and all operands that meet its hypotheses, and concludes that exec of the
  command answers exactly the next state written in it. (1) REGISTER_WRITE of the writes of one cycle: their W1C bits
  clear first, and the rest applies in the order MC, port A, port B (writesInOrder). (2) LANE_ENABLE: ENABLE is set
  and the lane follows its control register (laneUpdate). (3) LANE_ENABLE of a retired lane, or by a host while an
  admitted stream uses the lane: a bad access of cause 3, with no other effect. (4) LANE_ENABLE by a master whose
  writes do not reach the registers: only the Unsupported Request, where its link is up. (5) LANE_DISABLE without
  power-down: ENABLE clears and the lane follows. (6) LANE_DISABLE without power-down by a host while an admitted
  stream uses the lane: a bad access of cause 3, with no other effect. (7) LANE_DISABLE without power-down by a
  master whose writes do not reach the registers: only the Unsupported Request, where its link is up. (8)
  LANE_DISABLE with power-down: POWER_DOWN sets and the lane follows. (9) LANE_DISABLE with power-down by a host
  while an admitted stream uses the lane: a bad access of cause 3, with no other effect. (10) LANE_DISABLE with
  power-down by a master whose writes do not reach the registers: only the Unsupported Request, where its link is up.
  (11) RETRAIN: RETRAIN sets and the lane trains again. (12) RETRAIN by a host while an admitted stream uses the
  lane: a bad access of cause 3, with no other effect. (13) RETRAIN by a master whose writes do not reach the
  registers: only the Unsupported Request, where its link is up. (14) INJECT: the selected error is injected. (15)
  INJECT by a host while an admitted stream uses the lane: a bad access of cause 3, with no other effect. (16) INJECT
  by a master whose writes do not reach the registers: only the Unsupported Request, where its link is up. (17)
  PEAK_CLEAR: PEAK takes the present FILL. (18) PEAK_CLEAR by a host while an admitted stream uses the lane: a bad
  access of cause 3, with no other effect. (19) PEAK_CLEAR by a master whose writes do not reach the registers: only
  the Unsupported Request, where its link is up. (20) TABLE_SWAP: the swap of the table sets is asked for. (21)
  TABLE_SWAP by a host while an admitted stream uses the lane: a bad access of cause 3, with no other effect. (22)
  TABLE_SWAP by a master whose writes do not reach the registers: only the Unsupported Request, where its link is up.
  (23) TRIG_FIRE: the sequencer fires now (fireNow). (24) TRIG_FIRE by a host while the sequencer triggers a lane
  that an admitted stream uses: a bad access of cause 3, with no other effect. (25) TRIG_FIRE by a master whose
  writes do not reach the registers: only the Unsupported Request, where its link is up. (26) RING_CLEAR: the ring is
  emptied. (27) RING_CLEAR by a host while the sequencer triggers a lane that an admitted stream uses: a bad access
  of cause 3, with no other effect. (28) RING_CLEAR by a master whose writes do not reach the registers: only the
  Unsupported Request, where its link is up. (29) RESYNC: the sequencer takes its next target anew. (30) RESYNC by a
  host while the sequencer triggers a lane that an admitted stream uses: a bad access of cause 3, with no other
  effect. (31) RESYNC by a master whose writes do not reach the registers: only the Unsupported Request, where its
  link is up. (32) SEQUENCER_ENABLE: ENABLE is set, and with OUTPUT_COMMIT the sequencer starts. (33)
  SEQUENCER_ENABLE by a host while the sequencer triggers a lane that an admitted stream uses: a bad access of cause
  3, with no other effect. (34) SEQUENCER_ENABLE by a master whose writes do not reach the registers: only the
  Unsupported Request, where its link is up. (35) SEQUENCER_DISABLE: ENABLE clears and the sequencer stops. (36)
  SEQUENCER_DISABLE by a host while the sequencer triggers a lane that an admitted stream uses: a bad access of cause
  3, with no other effect. (37) SEQUENCER_DISABLE by a master whose writes do not reach the registers: only the
  Unsupported Request, where its link is up. (38) TRIG_PUSH of eight bytes in LIST mode with the ring as source: the
  target joins the ring (ringPush). (39) TRIG_PUSH in another mode, or by a host while the sequencer triggers such a
  lane: a bad access of cause 3. (40) TRIG_PUSH of four bytes: a bad access of cause 3. (41) TRIG_PUSH of another
  width: a bad access of cause 1. (42) TRIG_PUSH by a master whose writes do not reach the registers: only the
  Unsupported Request, where its link is up. (43) STITCH_ENABLE: EN is set and CLOSED_HIGH begins anew (stitchOn).
  (44) STITCH_ENABLE by a host while an admitted stream uses the unit: a bad access of cause 3, with no other effect.
  (45) STITCH_ENABLE by a master whose writes do not reach the registers: only the Unsupported Request, where its
  link is up. (46) STITCH_ENABLE of a unit in service: nothing. (47) STITCH_DISABLE: EN clears and the open bents
  close (stitchOff). (48) STITCH_DISABLE by a host while an admitted stream uses the unit: a bad access of cause 3,
  with no other effect. (49) STITCH_DISABLE by a master whose writes do not reach the registers: only the Unsupported
  Request, where its link is up. (R4, R6, R19, R112, R125, R130, R227, R229, R237, R283, R301, R311) -/
def Obligations.RegisterCommandsComplete : Prop :=
  (∀ (s : State) (ws : List BusWrite), exec (.registerWrite ws) s = .next (((inOrder ws).foldl (fun x w => x.clearsOf
    w) s).writesInOrder ((inOrder ws).map s.sansClears))) ∧
  (∀ (s : State) (l : Fin 96) (m : Fin 3), s.reaches m = true → s.laneRetired l = false → (m = 0 ∨ s.laneServing l =
    false) → exec (.laneEnable l m) s = .next ((s.putB (LANE_CTRL_ENABLE l) true).laneUpdate l 7)) ∧
  (∀ (s : State) (l : Fin 96) (m : Fin 3), s.reaches m = true → (s.laneRetired l = true ∨ (m ≠ 0 ∧ s.laneServing l =
    true)) → exec (.laneEnable l m) s = .next (s.badAccess m (LANE_CTRL l) 3)) ∧
  (∀ (s : State) (l : Fin 96) (m : Fin 3), s.reaches m = false → exec (.laneEnable l m) s = .next (s.unreached m)) ∧
  (∀ (s : State) (l : Fin 96) (m : Fin 3), s.reaches m = true → (m = 0 ∨ s.laneServing l = false) → exec
    (.laneDisable l false m) s = .next ((s.putB (LANE_CTRL_ENABLE l) false).laneUpdate l 7)) ∧
  (∀ (s : State) (l : Fin 96) (m : Fin 3), s.reaches m = true → m ≠ 0 → s.laneServing l = true → exec (.laneDisable l
    false m) s = .next (s.badAccess m (LANE_CTRL l) 3)) ∧
  (∀ (s : State) (l : Fin 96) (m : Fin 3), s.reaches m = false → exec (.laneDisable l false m) s = .next (s.unreached
    m)) ∧
  (∀ (s : State) (l : Fin 96) (m : Fin 3), s.reaches m = true → (m = 0 ∨ s.laneServing l = false) → exec
    (.laneDisable l true m) s = .next ((s.putB (LANE_CTRL_POWER_DOWN l) true).laneUpdate l 7)) ∧
  (∀ (s : State) (l : Fin 96) (m : Fin 3), s.reaches m = true → m ≠ 0 → s.laneServing l = true → exec (.laneDisable l
    true m) s = .next (s.badAccess m (LANE_CTRL l) 3)) ∧
  (∀ (s : State) (l : Fin 96) (m : Fin 3), s.reaches m = false → exec (.laneDisable l true m) s = .next (s.unreached
    m)) ∧
  (∀ (s : State) (l : Fin 96) (m : Fin 3), s.reaches m = true → (m = 0 ∨ s.laneServing l = false) → exec (.retrain l
    m) s = .next ((s.putB (LANE_CTRL_RETRAIN l) true).retrain l)) ∧
  (∀ (s : State) (l : Fin 96) (m : Fin 3), s.reaches m = true → m ≠ 0 → s.laneServing l = true → exec (.retrain l m)
    s = .next (s.badAccess m (LANE_CTRL l) 3)) ∧
  (∀ (s : State) (l : Fin 96) (m : Fin 3), s.reaches m = false → exec (.retrain l m) s = .next (s.unreached m)) ∧
  (∀ (s : State) (l : Fin 96) (m : Fin 3), s.reaches m = true → (m = 0 ∨ s.laneServing l = false) → exec (.inject l
    m) s = .next (s.injectErr l)) ∧
  (∀ (s : State) (l : Fin 96) (m : Fin 3), s.reaches m = true → m ≠ 0 → s.laneServing l = true → exec (.inject l m) s
    = .next (s.badAccess m (LANE_TEST l) 3)) ∧
  (∀ (s : State) (l : Fin 96) (m : Fin 3), s.reaches m = false → exec (.inject l m) s = .next (s.unreached m)) ∧
  (∀ (s : State) (l : Fin 96) (m : Fin 3), s.reaches m = true → (m = 0 ∨ s.laneServing l = false) → exec (.peakClear
    l m) s = .next (s.clearPeak l)) ∧
  (∀ (s : State) (l : Fin 96) (m : Fin 3), s.reaches m = true → m ≠ 0 → s.laneServing l = true → exec (.peakClear l
    m) s = .next (s.badAccess m (BAY_COND_CMD l) 3)) ∧
  (∀ (s : State) (l : Fin 96) (m : Fin 3), s.reaches m = false → exec (.peakClear l m) s = .next (s.unreached m)) ∧
  (∀ (s : State) (l : Fin 96) (m : Fin 3), s.reaches m = true → (m = 0 ∨ s.laneServing l = false) → exec (.tableSwap
    l m) s = .next (s.askSwap l)) ∧
  (∀ (s : State) (l : Fin 96) (m : Fin 3), s.reaches m = true → m ≠ 0 → s.laneServing l = true → exec (.tableSwap l
    m) s = .next (s.badAccess m (BAY_COND_CMD l) 3)) ∧
  (∀ (s : State) (l : Fin 96) (m : Fin 3), s.reaches m = false → exec (.tableSwap l m) s = .next (s.unreached m)) ∧
  (∀ (s : State) (q : Fin 128) (m : Fin 3), s.reaches m = true → (m = 0 ∨ s.seqServing q = false) → exec (.trigFire q
    m) s = .next (s.fireNow q)) ∧
  (∀ (s : State) (q : Fin 128) (m : Fin 3), s.reaches m = true → m ≠ 0 → s.seqServing q = true → exec (.trigFire q m)
    s = .next (s.badAccess m (TRIG_CMD q) 3)) ∧
  (∀ (s : State) (q : Fin 128) (m : Fin 3), s.reaches m = false → exec (.trigFire q m) s = .next (s.unreached m)) ∧
  (∀ (s : State) (q : Fin 128) (m : Fin 3), s.reaches m = true → (m = 0 ∨ s.seqServing q = false) → exec (.ringClear
    q m) s = .next (s.ringClear q)) ∧
  (∀ (s : State) (q : Fin 128) (m : Fin 3), s.reaches m = true → m ≠ 0 → s.seqServing q = true → exec (.ringClear q
    m) s = .next (s.badAccess m (TRIG_CMD q) 3)) ∧
  (∀ (s : State) (q : Fin 128) (m : Fin 3), s.reaches m = false → exec (.ringClear q m) s = .next (s.unreached m)) ∧
  (∀ (s : State) (q : Fin 128) (m : Fin 3), s.reaches m = true → (m = 0 ∨ s.seqServing q = false) → exec (.resync q
    m) s = .next (s.resync q)) ∧
  (∀ (s : State) (q : Fin 128) (m : Fin 3), s.reaches m = true → m ≠ 0 → s.seqServing q = true → exec (.resync q m) s
    = .next (s.badAccess m (TRIG_CMD q) 3)) ∧
  (∀ (s : State) (q : Fin 128) (m : Fin 3), s.reaches m = false → exec (.resync q m) s = .next (s.unreached m)) ∧
  (∀ (s : State) (q : Fin 128) (m : Fin 3), s.reaches m = true → (m = 0 ∨ s.seqServing q = false) → exec
    (.sequencerEnable q m) s = .next ((s.putB (TRIG_CTRL_ENABLE q) true).trigStart q)) ∧
  (∀ (s : State) (q : Fin 128) (m : Fin 3), s.reaches m = true → m ≠ 0 → s.seqServing q = true → exec
    (.sequencerEnable q m) s = .next (s.badAccess m (TRIG_CTRL q) 3)) ∧
  (∀ (s : State) (q : Fin 128) (m : Fin 3), s.reaches m = false → exec (.sequencerEnable q m) s = .next (s.unreached
    m)) ∧
  (∀ (s : State) (q : Fin 128) (m : Fin 3), s.reaches m = true → (m = 0 ∨ s.seqServing q = false) → exec
    (.sequencerDisable q m) s = .next ((s.putB (TRIG_CTRL_ENABLE q) false).trigStop q)) ∧
  (∀ (s : State) (q : Fin 128) (m : Fin 3), s.reaches m = true → m ≠ 0 → s.seqServing q = true → exec
    (.sequencerDisable q m) s = .next (s.badAccess m (TRIG_CTRL q) 3)) ∧
  (∀ (s : State) (q : Fin 128) (m : Fin 3), s.reaches m = false → exec (.sequencerDisable q m) s = .next (s.unreached
    m)) ∧
  (∀ (s : State) (q : Fin 128) (m : Fin 3) (v : Nat), s.reaches m = true → s.trRing q = true → (m = 0 ∨ s.seqServing
    q = false) → exec (.trigPush q m 8 v) s = .next (s.ringPush q v)) ∧
  (∀ (s : State) (q : Fin 128) (m : Fin 3) (v : Nat), s.reaches m = true → (s.trRing q = false ∨ (m ≠ 0 ∧
    s.seqServing q = true)) → exec (.trigPush q m 8 v) s = .next (s.badAccess m (TRIG_PUSH q) 3)) ∧
  (∀ (s : State) (q : Fin 128) (m : Fin 3) (v : Nat), s.reaches m = true → exec (.trigPush q m 4 v) s = .next
    (s.badAccess m (TRIG_PUSH q) 3)) ∧
  (∀ (s : State) (q : Fin 128) (m : Fin 3) (v : Nat) (n : Nat), s.reaches m = true → n ≠ 4 → n ≠ 8 → exec (.trigPush
    q m n v) s = .next (s.badAccess m (TRIG_PUSH q) 1)) ∧
  (∀ (s : State) (q : Fin 128) (m : Fin 3) (v : Nat) (n : Nat), s.reaches m = false → exec (.trigPush q m n v) s =
    .next (s.unreached m)) ∧
  (∀ (s : State) (u : Fin 16) (m : Fin 3), s.reaches m = true → s.flag (STITCH_CTRL_EN u) = false → (m = 0 ∨
    s.scarfServing u = false) → exec (.stitchEnable u m) s = .next (s.stitchOn u)) ∧
  (∀ (s : State) (u : Fin 16) (m : Fin 3), s.reaches m = true → m ≠ 0 → s.scarfServing u = true → exec (.stitchEnable
    u m) s = .next (s.badAccess m (STITCH_CTRL u) 3)) ∧
  (∀ (s : State) (u : Fin 16) (m : Fin 3), s.reaches m = false → exec (.stitchEnable u m) s = .next (s.unreached m)) ∧
  (∀ (s : State) (u : Fin 16) (m : Fin 3), s.reaches m = true → s.flag (STITCH_CTRL_EN u) = true → (m = 0 ∨
    s.scarfServing u = false) → exec (.stitchEnable u m) s = .next (s)) ∧
  (∀ (s : State) (u : Fin 16) (m : Fin 3), s.reaches m = true → (m = 0 ∨ s.scarfServing u = false) → exec
    (.stitchDisable u m) s = .next (s.stitchOff u)) ∧
  (∀ (s : State) (u : Fin 16) (m : Fin 3), s.reaches m = true → m ≠ 0 → s.scarfServing u = true → exec
    (.stitchDisable u m) s = .next (s.badAccess m (STITCH_CTRL u) 3)) ∧
  (∀ (s : State) (u : Fin 16) (m : Fin 3), s.reaches m = false → exec (.stitchDisable u m) s = .next (s.unreached m))

/-- Each clause below holds for every state and all operands that meet its hypotheses, and concludes that exec of the
  command answers exactly the next state written in it. (1) RETIRE_LANE by the MC: the command shows (x), the unit
  goes out of service, the retirement is counted, shown as pending and logged 0x8070, and every stream is admitted
  anew. (2) RETIRE_LANE of a unit that is out of service: the command shows. (3) RETIRE_LANE by a host: a bad access
  of cause 3. (4) RETIRE_LANE by a master whose writes do not reach the registers: only the Unsupported Request,
  where its link is up. (5) RETIRE_BAY by the MC: the command shows (x), the unit goes out of service, the retirement
  is counted, shown as pending and logged 0x8070, and every stream is admitted anew. (6) RETIRE_BAY of a unit that is
  out of service: the command shows. (7) RETIRE_BAY by a host: a bad access of cause 3. (8) RETIRE_BAY by a master
  whose writes do not reach the registers: only the Unsupported Request, where its link is up. (9) RETIRE_ENGINE by
  the MC: the command shows (x), the unit goes out of service, the retirement is counted, shown as pending and logged
  0x8070, and every stream is admitted anew. (10) RETIRE_ENGINE of a unit that is out of service: the command shows.
  (11) RETIRE_ENGINE by a host: a bad access of cause 3. (12) RETIRE_ENGINE by a master whose writes do not reach the
  registers: only the Unsupported Request, where its link is up. (13) RETIRE_POSITION_CHANNEL by the MC: the command
  shows (x), the unit goes out of service, the retirement is counted, shown as pending and logged 0x8070, and every
  stream is admitted anew. (14) RETIRE_POSITION_CHANNEL of a unit that is out of service: the command shows. (15)
  RETIRE_POSITION_CHANNEL by a host: a bad access of cause 3. (16) RETIRE_POSITION_CHANNEL by a master whose writes
  do not reach the registers: only the Unsupported Request, where its link is up. (17) RETIRE_SILL_PORT by the MC:
  the command shows (x), the unit goes out of service, the retirement is counted, shown as pending and logged 0x8070,
  and every stream is admitted anew. (18) RETIRE_SILL_PORT of a unit that is out of service: the command shows. (19)
  RETIRE_SILL_PORT by a host: a bad access of cause 3. (20) RETIRE_SILL_PORT by a master whose writes do not reach
  the registers: only the Unsupported Request, where its link is up. (R495, R496, R498) -/
def Obligations.RetirementComplete : Prop :=
  (∀ (s : State) (l : Fin 96) (x : State), s.reaches 0 = true → x = ((s.put GLOBAL_RETIRE_CMD_KIND 0).put
    GLOBAL_RETIRE_CMD_INDEX l).putB GLOBAL_RETIRE_CMD_GO false → x.unitGone 0 l = false → exec (.retireLane 0 l) s =
    .next (((((x.laneGone l).bump GLOBAL_CNT_RETIRE).putB GLOBAL_READMIT_PENDING true).logC 0x8070 noUnit (0 * 2 ^ 28
    + l)).readmit)) ∧
  (∀ (s : State) (l : Fin 96) (x : State), s.reaches 0 = true → x = ((s.put GLOBAL_RETIRE_CMD_KIND 0).put
    GLOBAL_RETIRE_CMD_INDEX l).putB GLOBAL_RETIRE_CMD_GO false → x.unitGone 0 l = true → exec (.retireLane 0 l) s =
    .next (x)) ∧
  (∀ (s : State) (l : Fin 96) (m : Fin 3), s.reaches m = true → m ≠ 0 → exec (.retireLane m l) s = .next (s.badAccess
    m GLOBAL_RETIRE_CMD 3)) ∧
  (∀ (s : State) (l : Fin 96) (m : Fin 3), s.reaches m = false → exec (.retireLane m l) s = .next (s.unreached m)) ∧
  (∀ (s : State) (b : Fin 24) (x : State), s.reaches 0 = true → x = ((s.put GLOBAL_RETIRE_CMD_KIND 1).put
    GLOBAL_RETIRE_CMD_INDEX b).putB GLOBAL_RETIRE_CMD_GO false → x.unitGone 1 b = false → exec (.retireBay 0 b) s =
    .next (((((x.bayGone b).bump GLOBAL_CNT_RETIRE).putB GLOBAL_READMIT_PENDING true).logC 0x8070 noUnit (1 * 2 ^ 28
    + b)).readmit)) ∧
  (∀ (s : State) (b : Fin 24) (x : State), s.reaches 0 = true → x = ((s.put GLOBAL_RETIRE_CMD_KIND 1).put
    GLOBAL_RETIRE_CMD_INDEX b).putB GLOBAL_RETIRE_CMD_GO false → x.unitGone 1 b = true → exec (.retireBay 0 b) s =
    .next (x)) ∧
  (∀ (s : State) (b : Fin 24) (m : Fin 3), s.reaches m = true → m ≠ 0 → exec (.retireBay m b) s = .next (s.badAccess
    m GLOBAL_RETIRE_CMD 3)) ∧
  (∀ (s : State) (b : Fin 24) (m : Fin 3), s.reaches m = false → exec (.retireBay m b) s = .next (s.unreached m)) ∧
  (∀ (s : State) (e : Fin 192) (x : State), s.reaches 0 = true → x = ((s.put GLOBAL_RETIRE_CMD_KIND 2).put
    GLOBAL_RETIRE_CMD_INDEX e).putB GLOBAL_RETIRE_CMD_GO false → x.unitGone 2 e = false → exec (.retireEngine 0 e) s
    = .next (((((x.engGone e).bump GLOBAL_CNT_RETIRE).putB GLOBAL_READMIT_PENDING true).logC 0x8070 noUnit (2 * 2 ^
    28 + e)).readmit)) ∧
  (∀ (s : State) (e : Fin 192) (x : State), s.reaches 0 = true → x = ((s.put GLOBAL_RETIRE_CMD_KIND 2).put
    GLOBAL_RETIRE_CMD_INDEX e).putB GLOBAL_RETIRE_CMD_GO false → x.unitGone 2 e = true → exec (.retireEngine 0 e) s =
    .next (x)) ∧
  (∀ (s : State) (e : Fin 192) (m : Fin 3), s.reaches m = true → m ≠ 0 → exec (.retireEngine m e) s = .next
    (s.badAccess m GLOBAL_RETIRE_CMD 3)) ∧
  (∀ (s : State) (e : Fin 192) (m : Fin 3), s.reaches m = false → exec (.retireEngine m e) s = .next (s.unreached m)) ∧
  (∀ (s : State) (c : Fin 16) (x : State), s.reaches 0 = true → x = ((s.put GLOBAL_RETIRE_CMD_KIND 4).put
    GLOBAL_RETIRE_CMD_INDEX c).putB GLOBAL_RETIRE_CMD_GO false → x.unitGone 4 c = false → exec
    (.retirePositionChannel 0 c) s = .next (((((x.posGone c).bump GLOBAL_CNT_RETIRE).putB GLOBAL_READMIT_PENDING
    true).logC 0x8070 noUnit (4 * 2 ^ 28 + c)).readmit)) ∧
  (∀ (s : State) (c : Fin 16) (x : State), s.reaches 0 = true → x = ((s.put GLOBAL_RETIRE_CMD_KIND 4).put
    GLOBAL_RETIRE_CMD_INDEX c).putB GLOBAL_RETIRE_CMD_GO false → x.unitGone 4 c = true → exec (.retirePositionChannel
    0 c) s = .next (x)) ∧
  (∀ (s : State) (c : Fin 16) (m : Fin 3), s.reaches m = true → m ≠ 0 → exec (.retirePositionChannel m c) s = .next
    (s.badAccess m GLOBAL_RETIRE_CMD 3)) ∧
  (∀ (s : State) (c : Fin 16) (m : Fin 3), s.reaches m = false → exec (.retirePositionChannel m c) s = .next
    (s.unreached m)) ∧
  (∀ (s : State) (p : Fin 4) (x : State), s.reaches 0 = true → x = ((s.put GLOBAL_RETIRE_CMD_KIND 5).put
    GLOBAL_RETIRE_CMD_INDEX p).putB GLOBAL_RETIRE_CMD_GO false → x.unitGone 5 p = false → exec (.retireSillPort 0 p)
    s = .next (((((x.sillGone p).bump GLOBAL_CNT_RETIRE).putB GLOBAL_READMIT_PENDING true).logC 0x8070 noUnit (5 * 2
    ^ 28 + p)).readmit)) ∧
  (∀ (s : State) (p : Fin 4) (x : State), s.reaches 0 = true → x = ((s.put GLOBAL_RETIRE_CMD_KIND 5).put
    GLOBAL_RETIRE_CMD_INDEX p).putB GLOBAL_RETIRE_CMD_GO false → x.unitGone 5 p = true → exec (.retireSillPort 0 p) s
    = .next (x)) ∧
  (∀ (s : State) (p : Fin 4) (m : Fin 3), s.reaches m = true → m ≠ 0 → exec (.retireSillPort m p) s = .next
    (s.badAccess m GLOBAL_RETIRE_CMD 3)) ∧
  (∀ (s : State) (p : Fin 4) (m : Fin 3), s.reaches m = false → exec (.retireSillPort m p) s = .next (s.unreached m))

/-- Each clause below holds for every state and all operands that meet its hypotheses, and concludes that exec of the
  command answers exactly the next state written in it. (1) MAILBOX_BAD_OPCODE: a request at the head whose opcode
  firmware does not know is answered BAD_OPCODE. (2) MAILBOX_BAD_OPCODE: the same in recovery, for the opcodes of the
  boot ROM. (3) MAILBOX_BAD_OPCODE of any other request: nothing. (4) GET_INFO: OK with the state of the firmware (a
  free value: its coding is not given), STAGE and the format. (5) GET_INFO with no such request at the head of the
  mailboxes: nothing. (6) STREAM_OPEN of a stream that is admitted: the Descriptor ROM follows, and the answer is OK
  with the promise. (7) STREAM_OPEN of a stream that is not: REFUSED with the term or check that failed. (8)
  STREAM_OPEN before CL_COMMIT: REFUSED. (9) STREAM_OPEN of a stream that is open or closing: IN_USE. (10)
  STREAM_OPEN of a short or ill-formed definition, or of a stream that the Cut List defines: BAD_ARGS. (11)
  STREAM_OPEN while the streams are being readmitted: BUSY. (12) STREAM_OPEN with no such request at the head of the
  mailboxes: nothing. (13) STREAM_CLOSE of a stream that came through a mailbox: it closes, the Descriptor ROM
  follows, and the answer is OK. (14) STREAM_CLOSE of any other stream: BAD_ARGS. (15) STREAM_CLOSE with no such
  request at the head of the mailboxes: nothing. (16) RING_POST of a valid ring that is not active: it is posted
  (postRing); OK. (17) RING_POST of one that is active or being withdrawn: IN_USE. (18) RING_POST that breaks a
  check: 0x5111 is logged; BAD_ARGS. (19) RING_POST with no such request at the head of the mailboxes: nothing. (20)
  RING_WITHDRAW of an active ring: it takes no descriptor more (x), the request waits for its answer (y), what waits
  is dropped, and a ring with nothing left is withdrawn at once (settleWithdraw). (21) RING_WITHDRAW of a ring that
  is not active: BAD_ARGS. (22) RING_WITHDRAW with no such request at the head of the mailboxes: nothing. (23)
  CAMERA_ACCESS, the request, with the camera's setup complete: it joins the lane's accesses, its answer waits (x),
  and it goes out unless another is on the way (accessGo). (24) CAMERA_ACCESS, the request, before that: it waits.
  (25) CAMERA_ACCESS, the request, of a lane that is not an Ethernet lane, or with no operation: BAD_ARGS. (26)
  CAMERA_ACCESS, the camera's acknowledgement with an error, while it is waited for: REFUSED. (27) CAMERA_ACCESS, the
  acknowledgement of a read: OK with the value. (28) CAMERA_ACCESS, the acknowledgement of a write or an action: OK.
  (29) CAMERA_ACCESS with no such request and none waited for: nothing. (30) OUTPUT_HOLD of a device that runs: the
  outputs are released, 0x8074 is logged; OK. (31) OUTPUT_HOLD with nothing to change: OK. (32) OUTPUT_HOLD before
  stage 9: REFUSED. (33) OUTPUT_HOLD with no such request at the head of the mailboxes: nothing. (34) OUTPUT_RESUME
  of a device that runs: the outputs are set, 0x8075 is logged; OK. (35) OUTPUT_RESUME with nothing to change: OK.
  (36) OUTPUT_RESUME before stage 9: REFUSED. (37) OUTPUT_RESUME with no such request at the head of the mailboxes:
  nothing. (R90, R176, R372, R393, R416, R417, R418, R498) -/
def Obligations.MailboxStreamsComplete : Prop :=
  (∀ (s : State) (p : Fin 2), s.atHead p = true → s.fwRuns = true → s.reqOpcode p ∉ opcodes → exec (.mailboxBadOpcode
    p) s = .next (s.answerFree p rBadOpcode [])) ∧
  (∀ (s : State) (p : Fin 2), s.atHead p = true → s.recovering = true → s.reqOpcode p ∉ bootOpcodes → exec
    (.mailboxBadOpcode p) s = .next (s.answerFree p rBadOpcode [])) ∧
  (∀ (s : State) (p : Fin 2), (s.atHead p = false ∨ ((s.fwRuns = false ∨ s.reqOpcode p ∈ opcodes) ∧ (s.recovering =
    false ∨ s.reqOpcode p ∈ bootOpcodes))) → exec (.mailboxBadOpcode p) s = .next (s)) ∧
  (∀ (s : State) (p : Fin 2), s.serves p 0x01 = true → exec (.getInfo p) s = .next (s.free.2.answerFree p rOk
    (toBytes 4 s.free.1 ++ toBytes 4 (s.get GLOBAL_BOOT_STATUS_STAGE) ++ toBytes 4 0x0100))) ∧
  (∀ (s : State) (p : Fin 2), s.serves p 0x01 = false → exec (.getInfo p) s = .next (s)) ∧
  (∀ (s : State) (p : Fin 2) (d : List Byte) (st : Nat) (b : Nat), s.serves p 0x10 = true → d = s.payBytes p 0 64 →
    st = bytesAt d 0 1 → s.flag GLOBAL_READMIT_PENDING = false → 64 ≤ s.reqLen p → streamOk d = true → s.clDefines st
    = false → s.admitted st = false → (s.strm st).closing = false → s.clCommit = true → (s.admitStream d (some p)).2
    = .inr b → exec (.streamOpen p) s = .next ((s.admitStream d (some p)).1.romUpdate.answer p rOk b [])) ∧
  (∀ (s : State) (p : Fin 2) (d : List Byte) (st : Nat) (n : Nat), s.serves p 0x10 = true → d = s.payBytes p 0 64 →
    st = bytesAt d 0 1 → s.flag GLOBAL_READMIT_PENDING = false → 64 ≤ s.reqLen p → streamOk d = true → s.clDefines st
    = false → s.admitted st = false → (s.strm st).closing = false → s.clCommit = true → (s.admitStream d (some p)).2
    = .inl n → exec (.streamOpen p) s = .next ((s.admitStream d (some p)).1.answer p rRefused n [])) ∧
  (∀ (s : State) (p : Fin 2) (d : List Byte) (st : Nat), s.serves p 0x10 = true → d = s.payBytes p 0 64 → st =
    bytesAt d 0 1 → s.flag GLOBAL_READMIT_PENDING = false → 64 ≤ s.reqLen p → streamOk d = true → s.clDefines st =
    false → s.admitted st = false → (s.strm st).closing = false → s.clCommit = false → exec (.streamOpen p) s = .next
    (s.answerFree p rRefused [])) ∧
  (∀ (s : State) (p : Fin 2) (d : List Byte) (st : Nat), s.serves p 0x10 = true → d = s.payBytes p 0 64 → st =
    bytesAt d 0 1 → s.flag GLOBAL_READMIT_PENDING = false → 64 ≤ s.reqLen p → streamOk d = true → s.clDefines st =
    false → (s.admitted st = true ∨ (s.strm st).closing = true) → exec (.streamOpen p) s = .next (s.answerFree p
    rInUse [])) ∧
  (∀ (s : State) (p : Fin 2) (d : List Byte) (st : Nat), s.serves p 0x10 = true → d = s.payBytes p 0 64 → st =
    bytesAt d 0 1 → s.flag GLOBAL_READMIT_PENDING = false → (s.reqLen p < 64 ∨ streamOk d = false ∨ s.clDefines st =
    true) → exec (.streamOpen p) s = .next (s.answerFree p rBadArgs [])) ∧
  (∀ (s : State) (p : Fin 2), s.serves p 0x10 = true → s.flag GLOBAL_READMIT_PENDING = true → exec (.streamOpen p) s
    = .next (s.answerFree p rBusy [])) ∧
  (∀ (s : State) (p : Fin 2), s.serves p 0x10 = false → exec (.streamOpen p) s = .next (s)) ∧
  (∀ (s : State) (p : Fin 2) (st : Fin 256), s.serves p 0x11 = true → s.admitted st = true → (s.strm st).mbox ≠ none
    → exec (.streamClose p st) s = .next ((s.closeStream st).romUpdate.answerFree p rOk [])) ∧
  (∀ (s : State) (p : Fin 2) (st : Fin 256), s.serves p 0x11 = true → (s.admitted st = false ∨ (s.strm st).mbox =
    none) → exec (.streamClose p st) s = .next (s.answerFree p rBadArgs [])) ∧
  (∀ (s : State) (p : Fin 2) (st : Fin 256), s.serves p 0x11 = false → exec (.streamClose p st) s = .next (s)) ∧
  (∀ (s : State) (p : Fin 2), s.serves p 0x12 = true → s.postOk p = true → s.flag (activeF (s.payN p 0 1) p) = false
    → (s.ring (s.payN p 0 1) p).withdraw = false → exec (.ringPost p) s = .next ((s.postRing p).answerFree p rOk [])) ∧
  (∀ (s : State) (p : Fin 2), s.serves p 0x12 = true → s.postOk p = true → (s.flag (activeF (s.payN p 0 1) p) = true
    ∨ (s.ring (s.payN p 0 1) p).withdraw = true) → exec (.ringPost p) s = .next (s.answerFree p rInUse [])) ∧
  (∀ (s : State) (p : Fin 2), s.serves p 0x12 = true → s.postOk p = false → exec (.ringPost p) s = .next ((s.logC
    0x5111 (s.payN p 0 1) 0).answerFree p rBadArgs [])) ∧
  (∀ (s : State) (p : Fin 2), s.serves p 0x12 = false → exec (.ringPost p) s = .next (s)) ∧
  (∀ (s : State) (p : Fin 2) (st : Nat) (x y : State), s.serves p 0x13 = true → st = s.payN p 0 1 → s.flag (activeF
    st p) = true → x = (s.putB (activeF st p) false).modRing st p (fun r => { r with withdraw := true }) → y =
    x.modMc (fun m =>
    { m with mboxOrder := m.mboxOrder.filter (fun q => q != p), mboxLate := m.mboxLate ++ [p.val] }) → exec
    (.ringWithdraw p) s = .next (((y.dropWaiting st p).showWaiting st).settleWithdraw st p)) ∧
  (∀ (s : State) (p : Fin 2), s.serves p 0x13 = true → s.flag (activeF (s.payN p 0 1) p) = false → exec
    (.ringWithdraw p) s = .next (s.answerFree p rBadArgs [])) ∧
  (∀ (s : State) (p : Fin 2), s.serves p 0x13 = false → exec (.ringWithdraw p) s = .next (s)) ∧
  (∀ (s : State) (p : Fin 2) (l : Fin 96) (op : Fin 4) (a v : Word) (x : State), (s.ethUp l && s.gvcpIs l (10 +
    p.val) && decide (p.val ∈ s.mc.mboxLate)) = false → s.serves p 0x20 = true → 2 ≤ s.persReg l → op ≠ 0 → x =
    (s.modMc (fun m => { m with
    mboxOrder := m.mboxOrder.filter (fun q => q != p), mboxLate := m.mboxLate ++ [p.val] })).modEth l (fun x =>
    { x with access := x.access ++ [⟨10 + p.val, op.val, a.toNat, v.toNat⟩] }) → x.flag (ETH_STATUS_READY l) = true →
    exec (.cameraAccess p l op a v) s = .next (x.accessGo l)) ∧
  (∀ (s : State) (p : Fin 2) (l : Fin 96) (op : Fin 4) (a v : Word) (x : State), (s.ethUp l && s.gvcpIs l (10 +
    p.val) && decide (p.val ∈ s.mc.mboxLate)) = false → s.serves p 0x20 = true → 2 ≤ s.persReg l → op ≠ 0 → x =
    (s.modMc (fun m => { m with
    mboxOrder := m.mboxOrder.filter (fun q => q != p), mboxLate := m.mboxLate ++ [p.val] })).modEth l (fun x =>
    { x with access := x.access ++ [⟨10 + p.val, op.val, a.toNat, v.toNat⟩] }) → x.flag (ETH_STATUS_READY l) = false
    → exec (.cameraAccess p l op a v) s = .next (x)) ∧
  (∀ (s : State) (p : Fin 2) (l : Fin 96) (op : Fin 4) (a v : Word), (s.ethUp l && s.gvcpIs l (10 + p.val) && decide
    (p.val ∈ s.mc.mboxLate)) = false → s.serves p 0x20 = true → (s.persReg l ≤ 1 ∨ op = 0) → exec (.cameraAccess p l
    op a v) s = .next (s.answerFree p rBadArgs [])) ∧
  (∀ (s : State) (p : Fin 2) (l : Fin 96) (op : Fin 4) (a v : Word) (k : GvcpCmd) (r : List GvcpCmd), (s.ethUp l &&
    s.gvcpIs l (10 + p.val) && decide (p.val ∈ s.mc.mboxLate)) = true → (s.leth l).gvcp = k :: r → op = 0 → exec
    (.cameraAccess p l op a v) s = .next ((s.gvcpNext l).accessDone p rRefused [])) ∧
  (∀ (s : State) (p : Fin 2) (l : Fin 96) (op : Fin 4) (a v : Word) (k : GvcpCmd) (r : List GvcpCmd), (s.ethUp l &&
    s.gvcpIs l (10 + p.val) && decide (p.val ∈ s.mc.mboxLate)) = true → (s.leth l).gvcp = k :: r → op ≠ 0 → k.op = 1
    → exec (.cameraAccess p l op a v) s = .next ((s.gvcpNext l).accessDone p rOk (toBytes 4 v.toNat))) ∧
  (∀ (s : State) (p : Fin 2) (l : Fin 96) (op : Fin 4) (a v : Word) (k : GvcpCmd) (r : List GvcpCmd), (s.ethUp l &&
    s.gvcpIs l (10 + p.val) && decide (p.val ∈ s.mc.mboxLate)) = true → (s.leth l).gvcp = k :: r → op ≠ 0 → k.op ≠ 1
    → exec (.cameraAccess p l op a v) s = .next ((s.gvcpNext l).accessDone p rOk [])) ∧
  (∀ (s : State) (p : Fin 2) (l : Fin 96) (op : Fin 4) (a v : Word), (s.ethUp l && s.gvcpIs l (10 + p.val) && decide
    (p.val ∈ s.mc.mboxLate)) = false → s.serves p 0x20 = false → exec (.cameraAccess p l op a v) s = .next (s)) ∧
  (∀ (s : State) (p : Fin 2), s.serves p 0x61 = true → s.notRunning = false → s.outCommit = true → exec (.outputHold
    p) s = .next ((s.clearOutputs.logC 0x8074 noUnit 0).answerFree p rOk [])) ∧
  (∀ (s : State) (p : Fin 2), s.serves p 0x61 = true → s.notRunning = false → s.outCommit = false → exec (.outputHold
    p) s = .next (s.answerFree p rOk [])) ∧
  (∀ (s : State) (p : Fin 2), s.serves p 0x61 = true → s.notRunning = true → exec (.outputHold p) s = .next
    (s.answerFree p rRefused [])) ∧
  (∀ (s : State) (p : Fin 2), s.serves p 0x61 = false → exec (.outputHold p) s = .next (s)) ∧
  (∀ (s : State) (p : Fin 2), s.serves p 0x62 = true → s.notRunning = false → s.outCommit = false → exec
    (.outputResume p) s = .next ((s.setOutputs.logC 0x8075 noUnit 0).answerFree p rOk [])) ∧
  (∀ (s : State) (p : Fin 2), s.serves p 0x62 = true → s.notRunning = false → s.outCommit = true → exec
    (.outputResume p) s = .next (s.answerFree p rOk [])) ∧
  (∀ (s : State) (p : Fin 2), s.serves p 0x62 = true → s.notRunning = true → exec (.outputResume p) s = .next
    (s.answerFree p rRefused [])) ∧
  (∀ (s : State) (p : Fin 2), s.serves p 0x62 = false → exec (.outputResume p) s = .next (s))

/-- Each clause below holds for every state and all operands that meet its hypotheses, and concludes that exec of the
  command answers exactly the next state written in it. (1) TABLE_LOAD of an inactive set from within the reference
  area: its parts are copied (loadAll); OK. (2) TABLE_LOAD where a unit cannot be read: REFUSED with the kind. (3)
  TABLE_LOAD from elsewhere, or from an address that is no multiple of 64: BAD_ARGS. (4) TABLE_LOAD while a swap
  waits: IN_USE. (5) TABLE_LOAD of the active set, or with a field out of range: BAD_ARGS. (6) TABLE_LOAD with no
  such request at the head of the mailboxes: nothing. (7) ENGINE_RESTART of an engine in service: it restarts
  (restartEng); OK. (8) ENGINE_RESTART of a retired one: REFUSED. (9) ENGINE_RESTART with no such request at the head
  of the mailboxes: nothing. (10) UNIT_RETIRE of a unit in service: it retires (retireUnit); OK with DETAIL 0. (11)
  UNIT_RETIRE of one that is retired: OK with DETAIL 1. (12) UNIT_RETIRE before stage 9: 0x8073 is logged; REFUSED.
  (13) UNIT_RETIRE of a unit that is not: 0x8073 is logged; BAD_ARGS. (14) UNIT_RETIRE with no such request at the
  head of the mailboxes: nothing. (15) MAILBOX_RESET of the system: OK is answered, then the system resets. (16)
  MAILBOX_RESET of the controller: OK is answered, then it resets. (17) MAILBOX_RESET with no such request at the
  head of the mailboxes: nothing. (18) ATTEST_REPORT with the identity key ready: 0x806A is logged; OK with the
  report over the nonce, and its signature. (19) ATTEST_REPORT with another SUB or a reserved byte set: BAD_ARGS.
  (20) ATTEST_REPORT before the key is ready: BUSY. (21) ATTEST_REPORT with no such request: nothing. (22)
  ATTEST_CERTIFICATE with the key ready: OK with the certificate from the offset asked for. (23) ATTEST_CERTIFICATE
  with a reserved byte set: BAD_ARGS. (24) ATTEST_CERTIFICATE before the key is ready: BUSY. (25) ATTEST_CERTIFICATE
  with no such request: nothing. (26) LOG_READ of the ring: OK with up to n entries from the index asked for
  (readRing). (27) LOG_READ of flash: the same from the flash copy (readFlash). (28) LOG_READ with a field out of
  range: BAD_ARGS. (29) LOG_READ with no such request at the head of the mailboxes: nothing. (R339, R417, R469, R475,
  R476, R488, R495, R496) -/
def Obligations.MailboxServiceComplete : Prop :=
  (∀ (s : State) (p : Fin 2) (bad : List Nat) (l bank kinds a : Nat) (n : Nat) (x : State), s.serves p 0x30 = true →
    l = s.payN p 0 1 → bank = s.payN p 1 1 → kinds = s.payN p 2 1 → a = s.payN p 8 8 → l < 96 → bank ≤ 1 → kinds ≤ 7
    → s.payN p 3 1 = 0 → s.get (BAY_COND_STATUS_ACTIVE_SET l) ≠ bank → s.flag (BAY_COND_STATUS_SWAP_WAIT l) = false →
    n = (s.loadParts l bank kinds a).getLast?.elim 0 (fun x => x.2.1 + x.2.2.2 - a) → a % 64 = 0 → s.inRef a n = true
    → s.loadAll l (fun b => s.ddrRetired (a / 2 ^ 36 % 8) || decide (b ∈ bad)) (s.loadParts l bank kinds a) = (x,
    none) → exec (.tableLoad p bad) s = .next (x.answerFree p rOk [])) ∧
  (∀ (s : State) (p : Fin 2) (bad : List Nat) (l bank kinds a : Nat) (n : Nat) (x : State) (k : Nat), s.serves p 0x30
    = true → l = s.payN p 0 1 → bank = s.payN p 1 1 → kinds = s.payN p 2 1 → a = s.payN p 8 8 → l < 96 → bank ≤ 1 →
    kinds ≤ 7 → s.payN p 3 1 = 0 → s.get (BAY_COND_STATUS_ACTIVE_SET l) ≠ bank → s.flag (BAY_COND_STATUS_SWAP_WAIT l)
    = false → n = (s.loadParts l bank kinds a).getLast?.elim 0 (fun x => x.2.1 + x.2.2.2 - a) → a % 64 = 0 → s.inRef
    a n = true → s.loadAll l (fun b => s.ddrRetired (a / 2 ^ 36 % 8) || decide (b ∈ bad)) (s.loadParts l bank kinds
    a) = (x, some k) → exec (.tableLoad p bad) s = .next (x.answer p rRefused k [])) ∧
  (∀ (s : State) (p : Fin 2) (bad : List Nat) (l bank kinds a : Nat) (n : Nat), s.serves p 0x30 = true → l = s.payN p
    0 1 → bank = s.payN p 1 1 → kinds = s.payN p 2 1 → a = s.payN p 8 8 → l < 96 → bank ≤ 1 → kinds ≤ 7 → s.payN p 3
    1 = 0 → s.get (BAY_COND_STATUS_ACTIVE_SET l) ≠ bank → s.flag (BAY_COND_STATUS_SWAP_WAIT l) = false → n =
    (s.loadParts l bank kinds a).getLast?.elim 0 (fun x => x.2.1 + x.2.2.2 - a) → (a % 64 ≠ 0 ∨ s.inRef a n = false)
    → exec (.tableLoad p bad) s = .next (s.answerFree p rBadArgs [])) ∧
  (∀ (s : State) (p : Fin 2) (bad : List Nat) (l bank kinds a : Nat), s.serves p 0x30 = true → l = s.payN p 0 1 →
    bank = s.payN p 1 1 → kinds = s.payN p 2 1 → a = s.payN p 8 8 → l < 96 → bank ≤ 1 → kinds ≤ 7 → s.payN p 3 1 = 0
    → s.get (BAY_COND_STATUS_ACTIVE_SET l) ≠ bank → s.flag (BAY_COND_STATUS_SWAP_WAIT l) = true → exec (.tableLoad p
    bad) s = .next (s.answerFree p rInUse [])) ∧
  (∀ (s : State) (p : Fin 2) (bad : List Nat) (l bank kinds a : Nat), s.serves p 0x30 = true → l = s.payN p 0 1 →
    bank = s.payN p 1 1 → kinds = s.payN p 2 1 → a = s.payN p 8 8 → (96 ≤ l ∨ 1 < bank ∨ 7 < kinds ∨ s.payN p 3 1 ≠ 0
    ∨ s.get (BAY_COND_STATUS_ACTIVE_SET l) = bank) → exec (.tableLoad p bad) s = .next (s.answerFree p rBadArgs [])) ∧
  (∀ (s : State) (p : Fin 2) (bad : List Nat), s.serves p 0x30 = false → exec (.tableLoad p bad) s = .next (s)) ∧
  (∀ (s : State) (p : Fin 2) (e : Fin 192), s.serves p 0x31 = true → s.engRetired e = false → exec (.engineRestart p
    e) s = .next ((s.restartEng e).answerFree p rOk [])) ∧
  (∀ (s : State) (p : Fin 2) (e : Fin 192), s.serves p 0x31 = true → s.engRetired e = true → exec (.engineRestart p
    e) s = .next (s.answerFree p rRefused [])) ∧
  (∀ (s : State) (p : Fin 2) (e : Fin 192), s.serves p 0x31 = false → exec (.engineRestart p e) s = .next (s)) ∧
  (∀ (s : State) (p : Fin 2) (k i : Nat), s.serves p 0x32 = true → k = s.payN p 0 1 → i = s.payN p 1 1 → i <
    unitCount k → s.payN p 2 2 = 0 → s.get GLOBAL_BOOT_STATUS_STAGE = 9 → s.unitGone k i = false → exec (.unitRetire
    p) s = .next ((s.retireUnit k i).answer p rOk 0 [])) ∧
  (∀ (s : State) (p : Fin 2) (k i : Nat), s.serves p 0x32 = true → k = s.payN p 0 1 → i = s.payN p 1 1 → i <
    unitCount k → s.payN p 2 2 = 0 → s.get GLOBAL_BOOT_STATUS_STAGE = 9 → s.unitGone k i = true → exec (.unitRetire
    p) s = .next (s.answer p rOk 1 [])) ∧
  (∀ (s : State) (p : Fin 2) (k i : Nat), s.serves p 0x32 = true → k = s.payN p 0 1 → i = s.payN p 1 1 → i <
    unitCount k → s.payN p 2 2 = 0 → s.get GLOBAL_BOOT_STATUS_STAGE ≠ 9 → exec (.unitRetire p) s = .next ((s.logC
    0x8073 noUnit (k * 2 ^ 28 + rRefused * 2 ^ 24 + i)).answerFree p rRefused [])) ∧
  (∀ (s : State) (p : Fin 2) (k i : Nat), s.serves p 0x32 = true → k = s.payN p 0 1 → i = s.payN p 1 1 → (unitCount k
    ≤ i ∨ s.payN p 2 2 ≠ 0) → exec (.unitRetire p) s = .next ((s.logC 0x8073 noUnit (k * 2 ^ 28 + rBadArgs * 2 ^ 24 +
    i)).answerFree p rBadArgs [])) ∧
  (∀ (s : State) (p : Fin 2), s.serves p 0x32 = false → exec (.unitRetire p) s = .next (s)) ∧
  (∀ (s : State) (p : Fin 2), s.serves p 0x60 = true → exec (.mailboxReset p true) s = .next ((s.answerFree p rOk
    []).sysReset 2)) ∧
  (∀ (s : State) (p : Fin 2), s.serves p 0x60 = true → exec (.mailboxReset p false) s = .next ((s.answerFree p rOk
    []).mcReset 5)) ∧
  (∀ (s : State) (p : Fin 2) (b : Bool), s.serves p 0x60 = false → exec (.mailboxReset p b) s = .next (s)) ∧
  (∀ (s : State) (p : Fin 2), s.serves p 0x50 = true → s.payN p 0 1 ≠ 1 → s.mc.keyReady = true → s.payN p 0 4 = 0 →
    exec (.attestReport p) s = .next ((s.logC 0x806A noUnit 0).answerFree p rOk ((s.reportBody (s.payBytes p 4 32))
    ++ toBytes 2 ((Config.falconSign (signedMsg ctxAt (s.reportBody (s.payBytes p 4 32)))).take 1462).length ++
    ((Config.falconSign (signedMsg ctxAt (s.reportBody (s.payBytes p 4 32)))).take 1462)))) ∧
  (∀ (s : State) (p : Fin 2), s.serves p 0x50 = true → s.payN p 0 1 ≠ 1 → s.mc.keyReady = true → s.payN p 0 4 ≠ 0 →
    exec (.attestReport p) s = .next (s.answerFree p rBadArgs [])) ∧
  (∀ (s : State) (p : Fin 2), s.serves p 0x50 = true → s.payN p 0 1 ≠ 1 → s.mc.keyReady = false → exec (.attestReport
    p) s = .next (s.answerFree p rBusy [])) ∧
  (∀ (s : State) (p : Fin 2), (s.serves p 0x50 = false ∨ s.payN p 0 1 = 1) → exec (.attestReport p) s = .next (s)) ∧
  (∀ (s : State) (p : Fin 2), s.serves p 0x50 = true → s.payN p 0 1 = 1 → s.mc.keyReady = true → s.payN p 1 3 = 0 →
    exec (.attestCertificate p) s = .next (s.answerFree p rOk ((s.certificate.drop (s.payN p 4 4)).take 4064))) ∧
  (∀ (s : State) (p : Fin 2), s.serves p 0x50 = true → s.payN p 0 1 = 1 → s.mc.keyReady = true → s.payN p 1 3 ≠ 0 →
    exec (.attestCertificate p) s = .next (s.answerFree p rBadArgs [])) ∧
  (∀ (s : State) (p : Fin 2), s.serves p 0x50 = true → s.payN p 0 1 = 1 → s.mc.keyReady = false → exec
    (.attestCertificate p) s = .next (s.answerFree p rBusy [])) ∧
  (∀ (s : State) (p : Fin 2), (s.serves p 0x50 = false ∨ s.payN p 0 1 ≠ 1) → exec (.attestCertificate p) s = .next
    (s)) ∧
  (∀ (s : State) (p : Fin 2) (n : Nat), s.serves p 0x70 = true → s.payN p 0 1 = 0 → s.payN p 1 3 = 0 → n = s.payN p 8
    2 → n ≠ 0 → n ≤ 254 → exec (.logRead p) s = .next (s.answer p rOk (s.readRing (s.payN p 4 4) n).1 (s.readRing
    (s.payN p 4 4) n).2)) ∧
  (∀ (s : State) (p : Fin 2) (n : Nat), s.serves p 0x70 = true → s.payN p 0 1 = 1 → s.payN p 1 3 = 0 → n = s.payN p 8
    2 → n ≠ 0 → n ≤ 254 → exec (.logRead p) s = .next (s.answer p rOk (s.readFlash (s.payN p 4 4) n).1 (s.readFlash
    (s.payN p 4 4) n).2)) ∧
  (∀ (s : State) (p : Fin 2), s.serves p 0x70 = true → (1 < s.payN p 0 1 ∨ s.payN p 1 3 ≠ 0 ∨ s.payN p 8 2 = 0 ∨ 254
    < s.payN p 8 2) → exec (.logRead p) s = .next (s.answerFree p rBadArgs [])) ∧
  (∀ (s : State) (p : Fin 2), s.serves p 0x70 = false → exec (.logRead p) s = .next (s))

/-- Each clause below holds for every state and all operands that meet its hypotheses, and concludes that exec of the
  command answers exactly the next state written in it. (1) IMAGE_BEGIN of firmware (0) or a Cut List (1), with no
  other update or trial in the way: a record is made, the update begins in the other slot, 0x8060 is logged; OK with
  the slot. (2) IMAGE_BEGIN of the certificate (2): the same in its one place. (3) IMAGE_BEGIN of another target, or
  with a reserved byte set: BAD_ARGS. (4) IMAGE_BEGIN of more bytes than its slot holds: BAD_ARGS. (5) IMAGE_BEGIN
  while an update, a trial, or the other port's image is in the way: IN_USE. (6) IMAGE_BEGIN in recovery, of firmware
  that fits SRAM: the update begins; OK. (7) IMAGE_BEGIN in recovery of anything else: BAD_ARGS. (8) IMAGE_BEGIN in
  recovery while one has begun: IN_USE. (9) IMAGE_BEGIN with no such request at the head of the mailboxes: nothing.
  (10) IMAGE_CHUNK in order: its bytes are written to flash and counted; OK. (11) IMAGE_CHUNK in recovery: its bytes
  join the image in SRAM; OK. (12) IMAGE_CHUNK out of order, empty or too long: BAD_ARGS. (13) IMAGE_CHUNK through
  the other port: IN_USE. (14) IMAGE_CHUNK with no update begun: REFUSED. (15) IMAGE_CHUNK with no such request:
  nothing. (16) IMAGE_END of a complete image: it is verified; a good one is taken (imageGood) and answered OK, a bad
  one leaves the update FAILED and is answered AUTH. (17) IMAGE_END in recovery: a good image is answered OK and
  runs, a bad one is dropped and answered AUTH. (18) IMAGE_END of an incomplete image: BAD_ARGS. (19) IMAGE_END
  through the other port: IN_USE. (20) IMAGE_END with no update begun: REFUSED. (21) IMAGE_END with no such request:
  nothing. (22) CUTLIST_TRIAL of a complete Cut List that has not been tried: its slot becomes active, OK is
  answered, and the system resets. (23) CUTLIST_TRIAL otherwise: REFUSED. (24) CUTLIST_TRIAL with no such request at
  the head of the mailboxes: nothing. (25) OTP_PROGRAM_SLOT of the JTAG policy: programmed where the request is
  authentic (otpDone), else refused AUTH. (26) OTP_PROGRAM_SLOT of the next blank slot of a kind: content, CRC and
  state are programmed where the request is authentic, else refused AUTH. (27) OTP_PROGRAM_SLOT of another slot:
  refused BAD_ARGS, or AUTH. (28) OTP_PROGRAM_SLOT of a kind with no blank slot: 0x8053 is logged and it is REFUSED,
  or refused AUTH. (29) OTP_PROGRAM_SLOT that is ill-formed: refused BAD_ARGS. (30) OTP_PROGRAM_SLOT with no such
  request: nothing. (31) OTP_REVOKE_SLOT of a programmed trust anchor or owner key, not the last candidate anchor:
  its state is programmed revoked where the request is authentic, else refused AUTH. (32) OTP_REVOKE_SLOT of the last
  candidate anchor: 0x8052 is logged and it is REFUSED, or refused AUTH. (33) OTP_REVOKE_SLOT of a slot that is
  blank, revoked or not there: refused BAD_ARGS, or AUTH. (34) OTP_REVOKE_SLOT that is ill-formed, or of another
  kind: refused BAD_ARGS. (35) OTP_REVOKE_SLOT with no such request: nothing. (R91, R417, R478, R480, R482, R484,
  R485, R486) -/
def Obligations.MailboxUpdatesComplete : Prop :=
  (∀ (s : State) (p : Fin 2) (tg prev slot : Nat), s.servesImage p 0x40 = true → s.recovering = false → s.get
    MC_UPDATE_STATUS_STATE ≠ 1 → s.inTrial = false → ((s.get MC_UPDATE_STATUS_STATE ≠ 2 ∧ s.get
    MC_UPDATE_STATUS_STATE ≠ 3) ∨ s.get MC_UPDATE_STATUS_PORT = p.val) → tg = s.payN p 0 1 → tg ≤ 1 → prev = (if tg =
    0 then s.get GLOBAL_BOOT_STATUS_FW_SLOT else s.get GLOBAL_BOOT_STATUS_CL_SLOT) → slot = 1 - prev → s.payN p 1 3 =
    0 → s.payN p 4 4 ≤ (s.imageAt tg slot).2 → exec (.imageBegin p) s = .next ((((s.recNew (recBytes tg slot prev
    (List.replicate 8 0xFF))).updBegin tg slot p (s.payN p 4 4)).logC 0x8060 noUnit (tg * 65536 + slot)).answer p rOk
    slot [])) ∧
  (∀ (s : State) (p : Fin 2) (tg prev slot : Nat), s.servesImage p 0x40 = true → s.recovering = false → s.get
    MC_UPDATE_STATUS_STATE ≠ 1 → s.inTrial = false → ((s.get MC_UPDATE_STATUS_STATE ≠ 2 ∧ s.get
    MC_UPDATE_STATUS_STATE ≠ 3) ∨ s.get MC_UPDATE_STATUS_PORT = p.val) → tg = s.payN p 0 1 → tg = 2 → prev = 0 → slot
    = 0 → s.payN p 1 3 = 0 → s.payN p 4 4 ≤ (s.imageAt tg slot).2 → exec (.imageBegin p) s = .next ((((s.recNew
    (recBytes tg slot prev (List.replicate 8 0xFF))).updBegin tg slot p (s.payN p 4 4)).logC 0x8060 noUnit (tg *
    65536 + slot)).answer p rOk slot [])) ∧
  (∀ (s : State) (p : Fin 2) (tg : Nat), s.servesImage p 0x40 = true → s.recovering = false → s.get
    MC_UPDATE_STATUS_STATE ≠ 1 → s.inTrial = false → ((s.get MC_UPDATE_STATUS_STATE ≠ 2 ∧ s.get
    MC_UPDATE_STATUS_STATE ≠ 3) ∨ s.get MC_UPDATE_STATUS_PORT = p.val) → tg = s.payN p 0 1 → (2 < tg ∨ s.payN p 1 3 ≠
    0) → exec (.imageBegin p) s = .next (s.answerFree p rBadArgs [])) ∧
  (∀ (s : State) (p : Fin 2) (tg prev slot : Nat), s.servesImage p 0x40 = true → s.recovering = false → s.get
    MC_UPDATE_STATUS_STATE ≠ 1 → s.inTrial = false → ((s.get MC_UPDATE_STATUS_STATE ≠ 2 ∧ s.get
    MC_UPDATE_STATUS_STATE ≠ 3) ∨ s.get MC_UPDATE_STATUS_PORT = p.val) → tg = s.payN p 0 1 → tg ≤ 1 → prev = (if tg =
    0 then s.get GLOBAL_BOOT_STATUS_FW_SLOT else s.get GLOBAL_BOOT_STATUS_CL_SLOT) → slot = 1 - prev → (s.imageAt tg
    slot).2 < s.payN p 4 4 → exec (.imageBegin p) s = .next (s.answerFree p rBadArgs [])) ∧
  (∀ (s : State) (p : Fin 2), s.servesImage p 0x40 = true → s.recovering = false → (s.get MC_UPDATE_STATUS_STATE = 1
    ∨ s.inTrial = true ∨ ((s.get MC_UPDATE_STATUS_STATE = 2 ∨ s.get MC_UPDATE_STATUS_STATE = 3) ∧ s.get
    MC_UPDATE_STATUS_PORT ≠ p.val)) → exec (.imageBegin p) s = .next (s.answerFree p rInUse [])) ∧
  (∀ (s : State) (p : Fin 2), s.servesImage p 0x40 = true → s.recovering = true → s.get MC_UPDATE_STATUS_STATE ≠ 1 →
    s.payN p 0 1 = 0 → s.payN p 1 3 = 0 → s.payN p 4 4 ≤ 462912 → exec (.imageBegin p) s = .next ((s.updBegin 0 0 p
    (s.payN p 4 4)).answerFree p rOk [])) ∧
  (∀ (s : State) (p : Fin 2), s.servesImage p 0x40 = true → s.recovering = true → s.get MC_UPDATE_STATUS_STATE ≠ 1 →
    (s.payN p 0 1 ≠ 0 ∨ s.payN p 1 3 ≠ 0 ∨ 462912 < s.payN p 4 4) → exec (.imageBegin p) s = .next (s.answerFree p
    rBadArgs [])) ∧
  (∀ (s : State) (p : Fin 2), s.servesImage p 0x40 = true → s.recovering = true → s.get MC_UPDATE_STATUS_STATE = 1 →
    exec (.imageBegin p) s = .next (s.answerFree p rInUse [])) ∧
  (∀ (s : State) (p : Fin 2), s.servesImage p 0x40 = false → exec (.imageBegin p) s = .next (s)) ∧
  (∀ (s : State) (p : Fin 2) (n : Nat), s.servesImage p 0x41 = true → s.recovering = false → s.get
    MC_UPDATE_STATUS_STATE = 1 → s.get MC_UPDATE_STATUS_PORT = p → n = s.reqLen p - 4 → s.payN p 0 4 = s.rdN
    MC_UPDATE_BYTES → 1 ≤ n → n ≤ 4076 → s.payN p 0 4 + n ≤ s.mc.updTotal → exec (.imageChunk p) s = .next
    (((s.flashWrite ((s.imageAt (s.get MC_UPDATE_STATUS_TARGET) (s.get MC_UPDATE_STATUS_SLOT)).1 + s.payN p 0 4)
    (s.payBytes p 4 n)).wrN MC_UPDATE_BYTES (s.rdN MC_UPDATE_BYTES + n)).answerFree p rOk [])) ∧
  (∀ (s : State) (p : Fin 2) (n : Nat), s.servesImage p 0x41 = true → s.recovering = true → s.get
    MC_UPDATE_STATUS_STATE = 1 → s.get MC_UPDATE_STATUS_PORT = p → n = s.reqLen p - 4 → s.payN p 0 4 = s.rdN
    MC_UPDATE_BYTES → 1 ≤ n → n ≤ 4076 → s.payN p 0 4 + n ≤ s.mc.updTotal → exec (.imageChunk p) s = .next (((s.modMc
    (fun m => { m with recImg := m.recImg ++ s.payBytes p 4 n })).wrN MC_UPDATE_BYTES (s.rdN MC_UPDATE_BYTES +
    n)).answerFree p rOk [])) ∧
  (∀ (s : State) (p : Fin 2) (n : Nat), s.servesImage p 0x41 = true → s.get MC_UPDATE_STATUS_STATE = 1 → s.get
    MC_UPDATE_STATUS_PORT = p → n = s.reqLen p - 4 → (s.payN p 0 4 ≠ s.rdN MC_UPDATE_BYTES ∨ n < 1 ∨ 4076 < n ∨
    s.mc.updTotal < s.payN p 0 4 + n) → exec (.imageChunk p) s = .next (s.answerFree p rBadArgs [])) ∧
  (∀ (s : State) (p : Fin 2), s.servesImage p 0x41 = true → s.get MC_UPDATE_STATUS_STATE = 1 → s.get
    MC_UPDATE_STATUS_PORT ≠ p → exec (.imageChunk p) s = .next (s.answerFree p rInUse [])) ∧
  (∀ (s : State) (p : Fin 2), s.servesImage p 0x41 = true → s.get MC_UPDATE_STATUS_STATE ≠ 1 → exec (.imageChunk p) s
    = .next (s.answerFree p rRefused [])) ∧
  (∀ (s : State) (p : Fin 2), s.servesImage p 0x41 = false → exec (.imageChunk p) s = .next (s)) ∧
  (∀ (s : State) (p : Fin 2) (tg slot : Nat), s.servesImage p 0x42 = true → s.recovering = false → s.get
    MC_UPDATE_STATUS_STATE = 1 → s.get MC_UPDATE_STATUS_PORT = p → s.rdN MC_UPDATE_BYTES = s.mc.updTotal → tg = s.get
    MC_UPDATE_STATUS_TARGET → slot = s.get MC_UPDATE_STATUS_SLOT → exec (.imageEnd p) s = .next (if s.imageOk tg slot
    = true then (s.imageGood tg slot (bit (s.payN p 0 1) 0) (bit (s.payN p 0 1) 1)).answerFree p rOk [] else (s.put
    MC_UPDATE_STATUS_STATE 5).answerFree p rAuth [])) ∧
  (∀ (s : State) (p : Fin 2), s.servesImage p 0x42 = true → s.recovering = true → s.get MC_UPDATE_STATUS_STATE = 1 →
    s.get MC_UPDATE_STATUS_PORT = p → s.rdN MC_UPDATE_BYTES = s.mc.updTotal → exec (.imageEnd p) s = .next (if s.fwOk
    s.mc.recImg 462912 = true then ((s.put MC_UPDATE_STATUS_STATE 0).answerFree p rOk []).runImage s.mc.recImg else
    ((s.put MC_UPDATE_STATUS_STATE 5).modMc (fun m => { m with recImg := [] })).answerFree p rAuth [])) ∧
  (∀ (s : State) (p : Fin 2), s.servesImage p 0x42 = true → s.get MC_UPDATE_STATUS_STATE = 1 → s.get
    MC_UPDATE_STATUS_PORT = p → s.rdN MC_UPDATE_BYTES ≠ s.mc.updTotal → exec (.imageEnd p) s = .next (s.answerFree p
    rBadArgs [])) ∧
  (∀ (s : State) (p : Fin 2), s.servesImage p 0x42 = true → s.get MC_UPDATE_STATUS_STATE = 1 → s.get
    MC_UPDATE_STATUS_PORT ≠ p → exec (.imageEnd p) s = .next (s.answerFree p rInUse [])) ∧
  (∀ (s : State) (p : Fin 2), s.servesImage p 0x42 = true → s.get MC_UPDATE_STATUS_STATE ≠ 1 → exec (.imageEnd p) s =
    .next (s.answerFree p rRefused [])) ∧
  (∀ (s : State) (p : Fin 2), s.servesImage p 0x42 = false → exec (.imageEnd p) s = .next (s)) ∧
  (∀ (s : State) (p : Fin 2), s.serves p 0x43 = true → s.curRec ≠ none → s.recByte 4 = 1 → s.recDone 16 = true →
    s.recDone 17 = false → exec (.cutlistTrial p) s = .next (((s.activate 1 (s.recByte 5 % 2)).answerFree p rOk
    []).sysReset 2)) ∧
  (∀ (s : State) (p : Fin 2), s.serves p 0x43 = true → (s.curRec = none ∨ s.recByte 4 ≠ 1 ∨ s.recDone 16 = false ∨
    s.recDone 17 = true) → exec (.cutlistTrial p) s = .next (s.answerFree p rRefused [])) ∧
  (∀ (s : State) (p : Fin 2), s.serves p 0x43 = false → exec (.cutlistTrial p) s = .next (s)) ∧
  (∀ (s : State) (p : Fin 2), s.serves p 0x58 = true → s.payN p 6 1 ≠ 2 → s.otpForm p 1 = true → s.payN p 7 1 = 4 →
    exec (.otpProgramSlot p) s = .next (if s.otpAuth p = true then (s.otpProg 32 (s.payBytes p 56 (otpContent
    4))).otpDone p 4 (s.payN p 8 1) else s.otpRefuse p rAuth)) ∧
  (∀ (s : State) (p : Fin 2) (k i : Nat), s.serves p 0x58 = true → s.payN p 6 1 ≠ 2 → s.otpForm p 1 = true → k =
    s.payN p 7 1 → i = s.payN p 8 1 → k ≠ 4 → s.nextSlot k ≠ otpSlots k → i = s.nextSlot k → exec (.otpProgramSlot p)
    s = .next (if s.otpAuth p = true then (s.otpProg (otpAddr k i) (s.payBytes p 56 (otpContent k) ++ toBytes 4
    (crc32c (s.payBytes p 56 (otpContent k))) ++ toBytes 4 1)).otpDone p k i else s.otpRefuse p rAuth)) ∧
  (∀ (s : State) (p : Fin 2) (k i : Nat), s.serves p 0x58 = true → s.payN p 6 1 ≠ 2 → s.otpForm p 1 = true → k =
    s.payN p 7 1 → i = s.payN p 8 1 → k ≠ 4 → s.nextSlot k ≠ otpSlots k → i ≠ s.nextSlot k → exec (.otpProgramSlot p)
    s = .next (if s.otpAuth p = true then s.otpRefuse p rBadArgs else s.otpRefuse p rAuth)) ∧
  (∀ (s : State) (p : Fin 2) (k i : Nat), s.serves p 0x58 = true → s.payN p 6 1 ≠ 2 → s.otpForm p 1 = true → k =
    s.payN p 7 1 → i = s.payN p 8 1 → k ≠ 4 → s.nextSlot k = otpSlots k → exec (.otpProgramSlot p) s = .next (if
    s.otpAuth p = true then (s.logC 0x8053 noUnit 0).answerFree p rRefused [] else s.otpRefuse p rAuth)) ∧
  (∀ (s : State) (p : Fin 2), s.serves p 0x58 = true → s.payN p 6 1 ≠ 2 → s.otpForm p 1 = false → exec
    (.otpProgramSlot p) s = .next (s.otpRefuse p rBadArgs)) ∧
  (∀ (s : State) (p : Fin 2), (s.serves p 0x58 = false ∨ s.payN p 6 1 = 2) → exec (.otpProgramSlot p) s = .next (s)) ∧
  (∀ (s : State) (p : Fin 2) (k i : Nat), s.serves p 0x58 = true → s.payN p 6 1 = 2 → s.otpForm p 2 = true → k =
    s.payN p 7 1 → i = s.payN p 8 1 → k ≤ 1 → i < otpSlots k → s.slotIs k i ≠ .blank → s.slotIs k i ≠ .revoked → (k ≠
    0 ∨ s.slotIs 0 i ≠ .candidate ∨ (s.candidates 0).length ≠ 1) → exec (.otpRevokeSlot p) s = .next (if s.otpAuth p
    = true then (s.otpProg (otpAddr k i + otpSize k - 4) [2]).otpDone p k i else s.otpRefuse p rAuth)) ∧
  (∀ (s : State) (p : Fin 2) (k i : Nat), s.serves p 0x58 = true → s.payN p 6 1 = 2 → s.otpForm p 2 = true → k =
    s.payN p 7 1 → i = s.payN p 8 1 → k ≤ 1 → i < otpSlots k → s.slotIs k i ≠ .blank → s.slotIs k i ≠ .revoked → k =
    0 → s.slotIs 0 i = .candidate → (s.candidates 0).length = 1 → exec (.otpRevokeSlot p) s = .next (if s.otpAuth p =
    true then (s.logC 0x8052 noUnit 0).answerFree p rRefused [] else s.otpRefuse p rAuth)) ∧
  (∀ (s : State) (p : Fin 2) (k i : Nat), s.serves p 0x58 = true → s.payN p 6 1 = 2 → s.otpForm p 2 = true → k =
    s.payN p 7 1 → i = s.payN p 8 1 → k ≤ 1 → (otpSlots k ≤ i ∨ s.slotIs k i = .blank ∨ s.slotIs k i = .revoked) →
    exec (.otpRevokeSlot p) s = .next (if s.otpAuth p = true then s.otpRefuse p rBadArgs else s.otpRefuse p rAuth)) ∧
  (∀ (s : State) (p : Fin 2), s.serves p 0x58 = true → s.payN p 6 1 = 2 → (s.otpForm p 2 = false ∨ 1 < s.payN p 7 1)
    → exec (.otpRevokeSlot p) s = .next (s.otpRefuse p rBadArgs)) ∧
  (∀ (s : State) (p : Fin 2), (s.serves p 0x58 = false ∨ s.payN p 6 1 ≠ 2) → exec (.otpRevokeSlot p) s = .next (s))

/-- A step of a state whose queue begins with c is exec of c on the state with the rest of the queue: nothing else is
  added around the command. (The queue of waiting commands is the model's frame, not the spec's: log entry 1.) (R19,
  spec/95_what_each_step_holds.md) -/
def Obligations.FrontCommandRuns : Prop :=
  ∀ (c : Instr) (s : State) (rest : List Instr), s.pending = c :: rest → step s = exec c { s with pending := rest }

/-- On an empty queue a step is one tick. While a power-on reset lasts, or neither PLL_TB nor coarse running carries
  the counter, a tick changes nothing; in a system reset the time base ticks and nothing else does. (That an idle
  step is a tick is the model's choice: log entry 2.) (R57, R68, R71, R241) -/
def Obligations.IdleStepTicks : Prop :=
  (∀ s : State, s.pending = [] → step s = .next s.tick) ∧
  (∀ s : State, s.power.porst = true → s.tick = s) ∧
  (∀ s : State, s.clockRuns = false → s.tick = s) ∧
  (∀ s : State, s.power.porst = false → s.clockRuns = true → s.power.sysRst = true → s.tick = s.tbTick ∧
    s.tick.tb.ticks = s.tb.ticks + 1 ∧ s.tick.trigs = s.trigs ∧ s.tick.log.ring = s.log.ring)

/-- After a power-on reset GLOBAL_ID shows part 0x9624, the droop threshold is 44, TB_INCR is 2^32, the hold of every
  position channel is 2.0 µs, every lane is in OFF, nothing is committed, the time base counter, the log and the
  ledger are empty, and no command waits. (R62, R71, R108, R212, R241, R503) -/
def Obligations.ResetValues : Prop :=
  State.reset.rdN GLOBAL_ID % 65536 = 0x9624 ∧ State.reset.get GLOBAL_DROOP_CTRL_THRESH = 44 ∧ State.reset.rd64 TB_INCR = 2 ^ 32 ∧
    (∀ c : Fin 16, State.reset.get (POS_SILL_CFG_HOLD c) = 20) ∧ (∀ l : Fin 96, State.reset.laneState l = 0) ∧
    State.reset.rdN GLOBAL_COMMIT = 0 ∧ State.reset.tb.cnt = 0 ∧ State.reset.log.ring = [] ∧ State.reset.log.queue = [] ∧
    State.reset.ledger.tiles = [] ∧ State.reset.trigs = [] ∧ State.reset.pending = []

/-- Right after a power-on reset every table of registers and every memory is in canonical form, and no command
  waits. (R71, R91) -/
def Obligations.ResetStateIsOk : Prop :=
  State.reset.Ok

/-- From every state that meets the invariant (registers, configuration spaces, bay stores, DDR4, engine memories,
  flash and OTP in canonical form; every waiting command well formed), a step that answers a next state gives a state
  that meets it. (R4, R91, R358) -/
def Obligations.StepKeepsInvariant : Prop :=
  ∀ s t : State, s.Ok → step s = .next t → t.Ok

/-- Whatever command a step runs, and in whatever state, a bit of the OTP that was 1 is 1 afterwards: a bit can be
  programmed from 0 to 1 and never back. (R91, spec/04_boot_and_cut_list.md) -/
def Obligations.OtpBitsStayProgrammed : Prop :=
  ∀ s t : State, step s = .next t → s.otpGrows t

/-- No state makes a step stop: every command, in every state, has an effect (which may be none), and an idle step
  ticks. (spec/95_what_each_step_holds.md) -/
def Obligations.EveryStepAnswers : Prop :=
  ∀ s : State, ∃ t : State, step s = .next t

/-- A command other than OTP_PROGRAM_SLOT, OTP_REVOKE_SLOT and TRIAL_CONFIRM leaves the OTP as it is. (R91, R480,
  R484) -/
def Obligations.OnlyOtpCommandsProgramOtp : Prop :=
  ∀ (c : Instr) (s t : State), (∀ p, c ≠ .otpProgramSlot p) → (∀ p, c ≠ .otpRevokeSlot p) → c ≠ .trialConfirm →
    exec c s = .next t → t.mc.otp = s.mc.otp

/-- A command other than PORST_ASSERT and PORST_RELEASE neither starts nor ends a power-on reset. (R69, R70, R71) -/
def Obligations.OnlyPorstBallMovesPorst : Prop :=
  ∀ (c : Instr) (s t : State), c ≠ .porstAssert → (∀ m f, c ≠ .porstRelease m f) → exec c s = .next t → t.power.porst = s.power.porst

/-- A command's effect leaves the queue of waiting commands as it is: commands come from outside only. (The queue is
  the model's frame, not the spec's: log entry 1.) (spec/95_what_each_step_holds.md) -/
def Obligations.CommandsKeepTheQueue : Prop :=
  ∀ (c : Instr) (s t : State), exec c s = .next t → t.pending = s.pending

/-- On a device out of reset, an MC write of 32 bits to an aligned offset that holds no register changes nothing at
  all. A write of at most 8 bytes whose size is not 4 or 8, or whose offset is not a multiple of its size, touches no
  register but the account of refused accesses, with CAUSE 1. (R4, R8, R504) -/
def Obligations.WritesThatTouchNothing : Prop :=
  (∀ (s : State) (w : BusWrite) (a : Nat), s.held = false → w.master = 0 → w.size = 4 → w.off % 4 = 0 → s.place 0 w.off = some a →
    findRow a = none → exec (.registerWrite [w]) s = .next s) ∧
  (∀ (s : State) (w : BusWrite), s.held = false → w.master = 0 → w.size ≤ 8 → ((w.size ≠ 4 ∧ w.size ≠ 8) ∨ w.off % w.size ≠ 0) →
    exec (.registerWrite [w]) s = .next (s.badAccess 0 w.off 1))

/-- For a bit with one access type: an RW bit takes the value, also an RWL bit while nothing is committed; an RWL bit
  after commit, an RO, WO or reserved bit stays; a W1C bit is cleared by 1 and stays with 0; a W1S bit is set by 1
  and stays with 0. Bits that some rule protects stay, except that a W1C bit still clears. (R5, R7, R8) -/
def Obligations.AccessTypesOfABit : Prop :=
  (∀ (r : RegRow) (locked : Bool) (keep old v i : Nat), r.rw.testBit i = true → keep.testBit i = false → r.w1c.testBit i = false →
    r.w1s.testBit i = false → (r.after locked keep old v).testBit i = v.testBit i) ∧
  (∀ (r : RegRow) (keep old v i : Nat), r.rwl.testBit i = true → keep.testBit i = false → r.w1c.testBit i = false →
    r.w1s.testBit i = false → (r.after false keep old v).testBit i = v.testBit i) ∧
  (∀ (r : RegRow) (keep old v i : Nat), r.rw.testBit i = false → r.w1c.testBit i = false → r.w1s.testBit i = false →
    (r.after true keep old v).testBit i = old.testBit i) ∧
  (∀ (r : RegRow) (locked : Bool) (keep old v i : Nat), r.rw.testBit i = false → r.rwl.testBit i = false → r.w1c.testBit i = true →
    r.w1s.testBit i = false → (r.after locked keep old v).testBit i = (old.testBit i && !v.testBit i)) ∧
  (∀ (r : RegRow) (locked : Bool) (keep old v i : Nat), r.rw.testBit i = false → r.rwl.testBit i = false → r.w1c.testBit i = false →
    r.w1s.testBit i = true → keep.testBit i = false → (r.after locked keep old v).testBit i = (old.testBit i || v.testBit i)) ∧
  (∀ (r : RegRow) (locked : Bool) (keep old v i : Nat), keep.testBit i = true → r.w1c.testBit i = false →
    (r.after locked keep old v).testBit i = old.testBit i)

/-- Publishing a capture group sets SEQ to SEQ + 1 modulo 256, VALID to 1 and bits 31:9 to 0; its capture count,
  where it has one, advances by one. A counter advances by one up to 0xFFFF_FFFF, where it stays. Every other
  register word keeps its value. (R11, R12, R504) -/
def Obligations.CapturesAndCountersAdvance : Prop :=
  (∀ (s : State) (o : Nat), getBits ((s.publish o).rdN o) 0 8 = (getBits (s.rdN o) 0 8 + 1) % 256 ∧
    getBits ((s.publish o).rdN o) 8 24 = 1 ∧ ∀ p, p ≠ o → (s.publish o).rdN p = s.rdN p) ∧
  (∀ (s : State) (o : Nat), (s.publishC o).rdN (o + 4) = (s.rdN (o + 4) + 1) % 2 ^ 32 ∧ (s.publishC o).rdN o = (s.publish o).rdN o ∧
    ∀ p, p ≠ o → p ≠ o + 4 → (s.publishC o).rdN p = s.rdN p) ∧
  (∀ (s : State) (o : Nat), (s.bump o).rdN o = min (s.rdN o + 1) 0xFFFFFFFF ∧ (s.rdN o = 0xFFFFFFFF → s.bump o = s.wrN o (s.rdN o)) ∧
    ∀ p, p ≠ o → (s.bump o).rdN p = s.rdN p)

/-- An event of a class, whose bit fits its register and lies outside the pending-bit arrays of MSI-X, leaves that
  bit 1, the time base and the log as they were, and every register word but its own and those arrays unchanged. (R6,
  R414, R505) -/
def Obligations.EventBitRaised : Prop :=
  ∀ (s : State) (cls : Nat) (f : Fld), f.lo + f.w ≤ 32 → f.w = 1 → (∀ q v, f.off ≠ MSIX_PBA q v) → (s.raise cls f).flag f = true ∧ (s.raise cls f).tb = s.tb ∧
    (s.raise cls f).log = s.log ∧ ∀ p, p ≠ f.off → (∀ q v, p ≠ MSIX_PBA q v) → (s.raise cls f).rdN p = s.rdN p

/-- An entry that finds fewer than 64 in the queue joins it at its end; one that finds 64 is lost and counted in
  MC_CNT_LOG_DROP, and the queue stays. So an entry never takes the queue past 64, and the ring is untouched. (R466)
  -/
def Obligations.LogQueueHolds64 : Prop :=
  (∀ (s : State) (c u a : Nat) (e : List LogEntry), s.log.queue.length < 64 →
    (s.logX c u a e).log.queue = s.log.queue ++ [⟨s.entry c u a (e != []), e⟩] ∧ (s.logX c u a e).log.ring = s.log.ring) ∧
  (∀ (s : State) (c u a : Nat) (e : List LogEntry), 64 ≤ s.log.queue.length → (s.logX c u a e).log = s.log ∧
    (s.logX c u a e).rdN MC_CNT_LOG_DROP = min (s.rdN MC_CNT_LOG_DROP + 1) 0xFFFFFFFF) ∧
  (∀ (s : State) (c u a : Nat) (e : List LogEntry), s.log.queue.length ≤ 64 → (s.logX c u a e).log.queue.length ≤ 64)

/-- Bytes stored in a bay store, in an engine's DMEM or in the DDR4 of a channel that is not retired read back at
  their addresses, and every byte outside them reads as before. A store to a retired channel's DDR4 changes nothing.
  (What a byte that nothing has written reads as is the model's choice: log entry 3.) (R291, R317, R355, R358) -/
def Obligations.MemoriesReadBack : Prop :=
  (∀ (s : State) (b a : Nat) (l : List Byte) (k : Nat), cget (fun _ => (0 : Byte)) (s.bayWr b a l).bay k =
    if b * 2097152 + a ≤ k ∧ k < b * 2097152 + a + l.length then l.getD (k - (b * 2097152 + a)) 0 else cget (fun _ => 0) s.bay k) ∧
  (∀ (s : State) (e a : Nat) (l : List Byte) (k : Nat), cget (fun _ => (0 : Byte)) (s.dmemWr e a l).dmem k =
    if e * 131072 + a ≤ k ∧ k < e * 131072 + a + l.length then l.getD (k - (e * 131072 + a)) 0 else cget (fun _ => 0) s.dmem k) ∧
  (∀ (s : State) (a : Nat) (l : List Byte) (k : Nat), s.get (DDR_STATUS_STATE (a / 2 ^ 36 % 8)) ≠ 3 →
    cget (fun _ => (0 : Byte)) (s.ddrWr a l).ddr k =
    if a ≤ k ∧ k < a + l.length then l.getD (k - a) 0 else cget (fun _ => 0) s.ddr k) ∧
  (∀ (s : State) (a : Nat) (l : List Byte), s.get (DDR_STATUS_STATE (a / 2 ^ 36 % 8)) = 3 → s.ddrWr a l = s)

/-- The tag of every descriptor of every delivery is 64 bytes long, and its bytes 60 to 63 are the CRC-32C over bytes
  0 to 59: the register starts at 0xFFFF_FFFF, each byte is XORed in and shifted out low bit first with the reflected
  polynomial of 0x1EDC_6F41, and the result is XORed with 0xFFFF_FFFF. (R380) -/
def Obligations.TagEndsInItsCrc : Prop :=
  (∀ (d : Delivery) (cont : Bool) (len status : Nat), (d.tagBytes cont len status).length = 64 ∧
    bytesAt (d.tagBytes cont len status) 60 4 = crc32c ((d.tagBytes cont len status).take 60)) ∧
  (∀ l : List Byte, crc32c l = Nat.xor (l.foldl (fun c b => (List.range 8).foldl
    (fun c _ => if c % 2 = 1 then Nat.xor (c / 2) 0x82F63B78 else c / 2) (Nat.xor c b.toNat)) 0xFFFFFFFF) 0xFFFFFFFF) ∧
  (∀ i : Fin 32, (0x82F63B78 : Nat).testBit i = (0x1EDC6F41 : Nat).testBit (31 - i))

/-- A stored width of D bits below 16 stores min(floor((w + 2^(15 − D)) / 2^(16 − D)), 2^D − 1), 8 bits store
  min(floor((w + 128) / 256), 255), 16 bits store w. A value of D bits turned into a working value and stored in D
  bits again is itself, and a working value never stores as more than 2^D − 1. (R277) -/
def Obligations.OutputConversionOfValues : Prop :=
  (∀ D w : Nat, D < 16 → toStored D w = min ((w + 2 ^ (15 - D)) / 2 ^ (16 - D)) (2 ^ D - 1)) ∧
  (∀ w : Nat, toStored 8 w = min ((w + 128) / 256) 255) ∧ (∀ w : Nat, toStored 16 w = w) ∧
  (∀ D v : Nat, D ≤ 16 → v < 2 ^ D → toStored D (fromStored D v) = v) ∧
  (∀ D w : Nat, D ≤ 16 → w < 65536 → toStored D w < 2 ^ D)

/-- Writing s0 or p0 of an engine changes nothing; s0 reads zero and p0 all ones whatever the engine holds. Any other
  scalar, predicate or vector register reads back what was written, in its width, and the other registers of its kind
  keep their values. (R315) -/
def Obligations.ScalarZeroAndPredicateZero : Prop :=
  (∀ (x : Engine) (n : Nat), x.setS 0 n = x ∧ x.setP 0 n = x ∧ x.sreg 0 = 0 ∧ x.preg 0 = 2 ^ 64 - 1) ∧
  (∀ (x : Engine) (r n : Nat), r ≠ 0 → (x.setS r n).sreg r = n % 2 ^ 32 ∧ (x.setP r n).preg r = n % 2 ^ 64) ∧
  (∀ (x : Engine) (r q n : Nat), q ≠ r → (x.setS r n).sreg q = x.sreg q ∧ (x.setP r n).preg q = x.preg q ∧
    (x.setV r n).vreg q = x.vreg q) ∧
  (∀ (x : Engine) (r n : Nat), (x.setV r n).vreg r = n % 2 ^ 512)

/-- Where neither ring has been lost, delivery d of a stream with PORT = 2 goes to port A when floor((d + 1) ×
  SHARE_A / 256) > floor(d × SHARE_A / 256), and otherwise to port B; on a port whose ring is not active it is
  counted as unposted. The account of deliveries dealt advances by one. Of any 256 successive deliveries exactly
  SHARE_A are port A's. (R383, R384) -/
def Obligations.DealOfDeliveries : Prop :=
  (∀ (s : State) (st p : Nat), s.get (DLV_CFG_PORT st) = 2 → (s.ring st 0).lost = false → (s.ring st 1).lost = false →
    p = (if (s.strm st).dealt * s.get (DLV_CFG_SHARE_A st) / 256 < ((s.strm st).dealt + 1) * s.get (DLV_CFG_SHARE_A st) / 256 then 0 else 1) →
    s.dealPort st = (if s.flag (activeF st p) then (some p, s.modStrm st (fun x => { x with dealt := x.dealt + 1, inWin := x.inWin + 1 }))
      else (none, (s.modStrm st (fun x => { x with dealt := x.dealt + 1, inWin := x.inWin + 1 })).bump (DLV_CNT_UNPOSTED st)))) ∧
  (∀ sh d : Nat, sh ≤ 256 → ((List.range 256).filter (fun i => decide ((d + i) * sh / 256 < (d + i + 1) * sh / 256))).length = sh)
end

