-- ==== Sys2Proof/Laws/Sparse.lean ====
section
/-!
SUPPORT. The laws of sparse tables: a read after a write to the same key gives the value written, a write leaves every
other key alone, and every operation keeps the canonical form.
-/

namespace Sys2Proof.Machine

variable {α : Type}

theorem cget_cput_same (d : Nat → α) (t : List (Nat × α)) (a : Nat) (v : α) : cget d (cput t a v) a = v := by
  induction t with
  | nil => simp [cput, cget]
  | cons p t ih =>
    obtain ⟨k, w⟩ := p
    simp only [cput]
    split
    · simp [cget]
    · split
      · simp [cget]
      · rename_i h _; simp [cget, h, ih]

theorem cget_cput_ne (d : Nat → α) (t : List (Nat × α)) {a b : Nat} (v : α) (h : b ≠ a) :
    cget d (cput t a v) b = cget d t b := by
  induction t with
  | nil => simp [cput, cget, h]
  | cons p t ih =>
    obtain ⟨k, w⟩ := p
    simp only [cput]
    split
    · subst_vars; simp [cget, h]
    · split
      · simp [cget, h]
      · simp [cget, ih]

theorem cget_cdel_same (d : Nat → α) (t : List (Nat × α)) (a : Nat) : cget d (cdel t a) a = d a := by
  induction t with
  | nil => simp [cdel, cget]
  | cons p t ih =>
    obtain ⟨k, w⟩ := p
    simp only [cdel, List.filter_cons] at ih ⊢
    split
    · rename_i hk
      have hk' : ¬ a = k := fun e => by simp [e] at hk
      simp [cget, hk', ih]
    · exact ih

theorem cget_cdel_ne (d : Nat → α) (t : List (Nat × α)) {a b : Nat} (h : b ≠ a) :
    cget d (cdel t a) b = cget d t b := by
  induction t with
  | nil => simp [cdel, cget]
  | cons p t ih =>
    obtain ⟨k, w⟩ := p
    simp only [cdel, List.filter_cons] at ih ⊢
    split
    · simp [cget, ih]
    · rename_i hk
      have hk' : k = a := by simpa using hk
      simp [cget, hk', h, ih]

variable [DecidableEq α]

@[simp] theorem cget_cset_same (d : Nat → α) (t : List (Nat × α)) (a : Nat) (v : α) :
    cget d (cset d t a v) a = v := by
  unfold cset; split
  · rename_i h; rw [cget_cdel_same, h]
  · exact cget_cput_same d t a v

theorem cget_cset_ne (d : Nat → α) (t : List (Nat × α)) {a b : Nat} (v : α) (h : b ≠ a) :
    cget d (cset d t a v) b = cget d t b := by
  unfold cset; split
  · exact cget_cdel_ne d t h
  · exact cget_cput_ne d t v h

theorem cget_cset (d : Nat → α) (t : List (Nat × α)) (a b : Nat) (v : α) :
    cget d (cset d t a v) b = if b = a then v else cget d t b := by
  split
  · rename_i h; subst h; simp
  · rename_i h; exact cget_cset_ne d t v h

omit [DecidableEq α] in
theorem mem_cput {t : List (Nat × α)} {a : Nat} {v : α} {p : Nat × α} (h : p ∈ cput t a v) :
    p = (a, v) ∨ (p ∈ t ∧ p.1 ≠ a) ∨ p ∈ t := by
  induction t with
  | nil => simp only [cput, List.mem_singleton] at h; exact .inl h
  | cons q t ih =>
    obtain ⟨k, w⟩ := q
    simp only [cput] at h
    split at h
    · rcases List.mem_cons.1 h with h | h
      · exact .inl h
      · exact .inr (.inr (List.mem_cons_of_mem _ h))
    · split at h
      · rcases List.mem_cons.1 h with h | h
        · exact .inl h
        · exact .inr (.inr h)
      · rcases List.mem_cons.1 h with h | h
        · exact .inr (.inr (h ▸ List.mem_cons_self ..))
        · rcases ih h with h | h | h
          · exact .inl h
          · exact .inr (.inr (List.mem_cons_of_mem _ h.1))
          · exact .inr (.inr (List.mem_cons_of_mem _ h))

omit [DecidableEq α] in
theorem sorted_cput {t : List (Nat × α)} (a : Nat) (v : α) (h : t.Pairwise (fun p q => p.1 < q.1)) :
    (cput t a v).Pairwise (fun p q => p.1 < q.1) := by
  induction t with
  | nil => simp [cput]
  | cons q t ih =>
    obtain ⟨k, w⟩ := q
    obtain ⟨hk, ht⟩ := List.pairwise_cons.1 h
    simp only [cput]
    split
    · rename_i e; subst e; exact List.pairwise_cons.2 ⟨hk, ht⟩
    · split
      · rename_i hlt
        refine List.pairwise_cons.2 ⟨?_, h⟩
        intro p hp
        rcases List.mem_cons.1 hp with hp | hp
        · subst hp; exact hlt
        · exact lt_trans hlt (hk p hp)
      · rename_i hne hlt
        refine List.pairwise_cons.2 ⟨?_, ih ht⟩
        intro p hp
        rcases mem_cput hp with hp | hp | hp
        · subst hp; simp only at *; omega
        · exact hk p hp.1
        · exact hk p hp

theorem cwf_nil (d : Nat → α) : cwf d ([] : List (Nat × α)) := by simp [cwf]

theorem cwf_ckeep (d : Nat → α) {t : List (Nat × α)} (p : Nat → Bool) (h : cwf d t) : cwf d (ckeep p t) :=
  ⟨h.1.filter _, fun q hq => h.2 q (List.mem_of_mem_filter hq)⟩

/-- Every store keeps the canonical form. -/
theorem cwf_cset (d : Nat → α) {t : List (Nat × α)} (a : Nat) (v : α) (h : cwf d t) : cwf d (cset d t a v) := by
  unfold cset; split
  · exact ⟨h.1.filter _, fun q hq => h.2 q (List.mem_of_mem_filter hq)⟩
  · rename_i hv
    refine ⟨sorted_cput a v h.1, fun p hp => ?_⟩
    rcases mem_cput hp with e | e | e
    · subst e; exact hv
    · exact h.2 p e.1
    · exact h.2 p e

theorem cwf_csetN (d : Nat → α) {t : List (Nat × α)} (a : Nat) (vs : List α) (h : cwf d t) :
    cwf d (csetN d t a vs) := by
  induction vs generalizing t a with
  | nil => exact h
  | cons v vs ih => exact ih (a + 1) (cwf_cset d a v h)

end Sys2Proof.Machine
end

