-- ==== Sys2Proof/Laws/State.lean ====
section
/-!
SUPPORT. One lemma per field of State for every named update of one field: what it leaves alone, and what it sets.
-/

namespace Sys2Proof.Machine

section
variable (s : State) (a : Nat) (f : Arb → Arb)
@[simp] theorem State.modArb_pending : (s.modArb a f).pending = s.pending := rfl
@[simp] theorem State.modArb_regs : (s.modArb a f).regs = s.regs := rfl
@[simp] theorem State.modArb_freeIdx : (s.modArb a f).freeIdx = s.freeIdx := rfl
@[simp] theorem State.modArb_out : (s.modArb a f).out = s.out := rfl
@[simp] theorem State.modArb_log : (s.modArb a f).log = s.log := rfl
@[simp] theorem State.modArb_tb : (s.modArb a f).tb = s.tb := rfl
@[simp] theorem State.modArb_droop : (s.modArb a f).droop = s.droop := rfl
@[simp] theorem State.modArb_power : (s.modArb a f).power = s.power := rfl
@[simp] theorem State.modArb_evt : (s.modArb a f).evt = s.evt := rfl
@[simp] theorem State.modArb_sill : (s.modArb a f).sill = s.sill := rfl
@[simp] theorem State.modArb_cfg : (s.modArb a f).cfg = s.cfg := rfl
@[simp] theorem State.modArb_pos : (s.modArb a f).pos = s.pos := rfl
@[simp] theorem State.modArb_seqs : (s.modArb a f).seqs = s.seqs := rfl
@[simp] theorem State.modArb_trigs : (s.modArb a f).trigs = s.trigs := rfl
@[simp] theorem State.modArb_pulses : (s.modArb a f).pulses = s.pulses := rfl
@[simp] theorem State.modArb_ledger : (s.modArb a f).ledger = s.ledger := rfl
@[simp] theorem State.modArb_phy : (s.modArb a f).phy = s.phy := rfl
@[simp] theorem State.modArb_tenon : (s.modArb a f).tenon = s.tenon := rfl
@[simp] theorem State.modArb_bay : (s.modArb a f).bay = s.bay := rfl
@[simp] theorem State.modArb_ddr : (s.modArb a f).ddr = s.ddr := rfl
@[simp] theorem State.modArb_eth : (s.modArb a f).eth = s.eth := rfl
@[simp] theorem State.modArb_cond : (s.modArb a f).cond = s.cond := rfl
@[simp] theorem State.modArb_scarf : (s.modArb a f).scarf = s.scarf := rfl
@[simp] theorem State.modArb_kerf : (s.modArb a f).kerf = s.kerf := rfl
@[simp] theorem State.modArb_eng : (s.modArb a f).eng = s.eng := rfl
@[simp] theorem State.modArb_imem : (s.modArb a f).imem = s.imem := rfl
@[simp] theorem State.modArb_dmem : (s.modArb a f).dmem = s.dmem := rfl
@[simp] theorem State.modArb_pushes : (s.modArb a f).pushes = s.pushes := rfl
@[simp] theorem State.modArb_dma : (s.modArb a f).dma = s.dma := rfl
@[simp] theorem State.modArb_dram : (s.modArb a f).dram = s.dram := rfl
@[simp] theorem State.modArb_arb : (s.modArb a f).arb = cset (fun _ => Arb.reset) s.arb a (f (s.arbOf a)) := rfl
@[simp] theorem State.modArb_dlv : (s.modArb a f).dlv = s.dlv := rfl
@[simp] theorem State.modArb_dlvNext : (s.modArb a f).dlvNext = s.dlvNext := rfl
@[simp] theorem State.modArb_streams : (s.modArb a f).streams = s.streams := rfl
@[simp] theorem State.modArb_rings : (s.modArb a f).rings = s.rings := rfl
@[simp] theorem State.modArb_recl : (s.modArb a f).recl = s.recl := rfl
@[simp] theorem State.modArb_mc : (s.modArb a f).mc = s.mc := rfl
@[simp] theorem State.modArb_ports : (s.modArb a f).ports = s.ports := rfl
@[simp] theorem State.rd_modArb (at_ : Nat) : (s.modArb a f).rd at_ = s.rd at_ := rfl
@[simp] theorem State.rdN_modArb (at_ : Nat) : (s.modArb a f).rdN at_ = s.rdN at_ := rfl
@[simp] theorem State.get_modArb (x : Fld) : (s.modArb a f).get x = s.get x := rfl
@[simp] theorem State.flag_modArb (x : Fld) : (s.modArb a f).flag x = s.flag x := rfl
end

section
variable (s : State) (k : Nat) (f : DdrChan → DdrChan)
@[simp] theorem State.modDrm_pending : (s.modDrm k f).pending = s.pending := rfl
@[simp] theorem State.modDrm_regs : (s.modDrm k f).regs = s.regs := rfl
@[simp] theorem State.modDrm_freeIdx : (s.modDrm k f).freeIdx = s.freeIdx := rfl
@[simp] theorem State.modDrm_out : (s.modDrm k f).out = s.out := rfl
@[simp] theorem State.modDrm_log : (s.modDrm k f).log = s.log := rfl
@[simp] theorem State.modDrm_tb : (s.modDrm k f).tb = s.tb := rfl
@[simp] theorem State.modDrm_droop : (s.modDrm k f).droop = s.droop := rfl
@[simp] theorem State.modDrm_power : (s.modDrm k f).power = s.power := rfl
@[simp] theorem State.modDrm_evt : (s.modDrm k f).evt = s.evt := rfl
@[simp] theorem State.modDrm_sill : (s.modDrm k f).sill = s.sill := rfl
@[simp] theorem State.modDrm_cfg : (s.modDrm k f).cfg = s.cfg := rfl
@[simp] theorem State.modDrm_pos : (s.modDrm k f).pos = s.pos := rfl
@[simp] theorem State.modDrm_seqs : (s.modDrm k f).seqs = s.seqs := rfl
@[simp] theorem State.modDrm_trigs : (s.modDrm k f).trigs = s.trigs := rfl
@[simp] theorem State.modDrm_pulses : (s.modDrm k f).pulses = s.pulses := rfl
@[simp] theorem State.modDrm_ledger : (s.modDrm k f).ledger = s.ledger := rfl
@[simp] theorem State.modDrm_phy : (s.modDrm k f).phy = s.phy := rfl
@[simp] theorem State.modDrm_tenon : (s.modDrm k f).tenon = s.tenon := rfl
@[simp] theorem State.modDrm_bay : (s.modDrm k f).bay = s.bay := rfl
@[simp] theorem State.modDrm_ddr : (s.modDrm k f).ddr = s.ddr := rfl
@[simp] theorem State.modDrm_eth : (s.modDrm k f).eth = s.eth := rfl
@[simp] theorem State.modDrm_cond : (s.modDrm k f).cond = s.cond := rfl
@[simp] theorem State.modDrm_scarf : (s.modDrm k f).scarf = s.scarf := rfl
@[simp] theorem State.modDrm_kerf : (s.modDrm k f).kerf = s.kerf := rfl
@[simp] theorem State.modDrm_eng : (s.modDrm k f).eng = s.eng := rfl
@[simp] theorem State.modDrm_imem : (s.modDrm k f).imem = s.imem := rfl
@[simp] theorem State.modDrm_dmem : (s.modDrm k f).dmem = s.dmem := rfl
@[simp] theorem State.modDrm_pushes : (s.modDrm k f).pushes = s.pushes := rfl
@[simp] theorem State.modDrm_dma : (s.modDrm k f).dma = s.dma := rfl
@[simp] theorem State.modDrm_dram : (s.modDrm k f).dram = cset (fun _ => DdrChan.reset) s.dram k (f (s.drm k)) := rfl
@[simp] theorem State.modDrm_arb : (s.modDrm k f).arb = s.arb := rfl
@[simp] theorem State.modDrm_dlv : (s.modDrm k f).dlv = s.dlv := rfl
@[simp] theorem State.modDrm_dlvNext : (s.modDrm k f).dlvNext = s.dlvNext := rfl
@[simp] theorem State.modDrm_streams : (s.modDrm k f).streams = s.streams := rfl
@[simp] theorem State.modDrm_rings : (s.modDrm k f).rings = s.rings := rfl
@[simp] theorem State.modDrm_recl : (s.modDrm k f).recl = s.recl := rfl
@[simp] theorem State.modDrm_mc : (s.modDrm k f).mc = s.mc := rfl
@[simp] theorem State.modDrm_ports : (s.modDrm k f).ports = s.ports := rfl
@[simp] theorem State.rd_modDrm (at_ : Nat) : (s.modDrm k f).rd at_ = s.rd at_ := rfl
@[simp] theorem State.rdN_modDrm (at_ : Nat) : (s.modDrm k f).rdN at_ = s.rdN at_ := rfl
@[simp] theorem State.get_modDrm (x : Fld) : (s.modDrm k f).get x = s.get x := rfl
@[simp] theorem State.flag_modDrm (x : Fld) : (s.modDrm k f).flag x = s.flag x := rfl
end

section
variable (s : State) (p : Nat) (f : HostPort → HostPort)
@[simp] theorem State.modHport_pending : (s.modHport p f).pending = s.pending := rfl
@[simp] theorem State.modHport_regs : (s.modHport p f).regs = s.regs := rfl
@[simp] theorem State.modHport_freeIdx : (s.modHport p f).freeIdx = s.freeIdx := rfl
@[simp] theorem State.modHport_out : (s.modHport p f).out = s.out := rfl
@[simp] theorem State.modHport_log : (s.modHport p f).log = s.log := rfl
@[simp] theorem State.modHport_tb : (s.modHport p f).tb = s.tb := rfl
@[simp] theorem State.modHport_droop : (s.modHport p f).droop = s.droop := rfl
@[simp] theorem State.modHport_power : (s.modHport p f).power = s.power := rfl
@[simp] theorem State.modHport_evt : (s.modHport p f).evt = s.evt := rfl
@[simp] theorem State.modHport_sill : (s.modHport p f).sill = s.sill := rfl
@[simp] theorem State.modHport_cfg : (s.modHport p f).cfg = s.cfg := rfl
@[simp] theorem State.modHport_pos : (s.modHport p f).pos = s.pos := rfl
@[simp] theorem State.modHport_seqs : (s.modHport p f).seqs = s.seqs := rfl
@[simp] theorem State.modHport_trigs : (s.modHport p f).trigs = s.trigs := rfl
@[simp] theorem State.modHport_pulses : (s.modHport p f).pulses = s.pulses := rfl
@[simp] theorem State.modHport_ledger : (s.modHport p f).ledger = s.ledger := rfl
@[simp] theorem State.modHport_phy : (s.modHport p f).phy = s.phy := rfl
@[simp] theorem State.modHport_tenon : (s.modHport p f).tenon = s.tenon := rfl
@[simp] theorem State.modHport_bay : (s.modHport p f).bay = s.bay := rfl
@[simp] theorem State.modHport_ddr : (s.modHport p f).ddr = s.ddr := rfl
@[simp] theorem State.modHport_eth : (s.modHport p f).eth = s.eth := rfl
@[simp] theorem State.modHport_cond : (s.modHport p f).cond = s.cond := rfl
@[simp] theorem State.modHport_scarf : (s.modHport p f).scarf = s.scarf := rfl
@[simp] theorem State.modHport_kerf : (s.modHport p f).kerf = s.kerf := rfl
@[simp] theorem State.modHport_eng : (s.modHport p f).eng = s.eng := rfl
@[simp] theorem State.modHport_imem : (s.modHport p f).imem = s.imem := rfl
@[simp] theorem State.modHport_dmem : (s.modHport p f).dmem = s.dmem := rfl
@[simp] theorem State.modHport_pushes : (s.modHport p f).pushes = s.pushes := rfl
@[simp] theorem State.modHport_dma : (s.modHport p f).dma = s.dma := rfl
@[simp] theorem State.modHport_dram : (s.modHport p f).dram = s.dram := rfl
@[simp] theorem State.modHport_arb : (s.modHport p f).arb = s.arb := rfl
@[simp] theorem State.modHport_dlv : (s.modHport p f).dlv = s.dlv := rfl
@[simp] theorem State.modHport_dlvNext : (s.modHport p f).dlvNext = s.dlvNext := rfl
@[simp] theorem State.modHport_streams : (s.modHport p f).streams = s.streams := rfl
@[simp] theorem State.modHport_rings : (s.modHport p f).rings = s.rings := rfl
@[simp] theorem State.modHport_recl : (s.modHport p f).recl = s.recl := rfl
@[simp] theorem State.modHport_mc : (s.modHport p f).mc = s.mc := rfl
@[simp] theorem State.modHport_ports : (s.modHport p f).ports = cset (fun _ => HostPort.reset) s.ports p (f (s.hport p)) := rfl
@[simp] theorem State.rd_modHport (at_ : Nat) : (s.modHport p f).rd at_ = s.rd at_ := rfl
@[simp] theorem State.rdN_modHport (at_ : Nat) : (s.modHport p f).rdN at_ = s.rdN at_ := rfl
@[simp] theorem State.get_modHport (x : Fld) : (s.modHport p f).get x = s.get x := rfl
@[simp] theorem State.flag_modHport (x : Fld) : (s.modHport p f).flag x = s.flag x := rfl
end

section
variable (s : State) (st : Nat) (f : Stream → Stream)
@[simp] theorem State.modStrm_pending : (s.modStrm st f).pending = s.pending := rfl
@[simp] theorem State.modStrm_regs : (s.modStrm st f).regs = s.regs := rfl
@[simp] theorem State.modStrm_freeIdx : (s.modStrm st f).freeIdx = s.freeIdx := rfl
@[simp] theorem State.modStrm_out : (s.modStrm st f).out = s.out := rfl
@[simp] theorem State.modStrm_log : (s.modStrm st f).log = s.log := rfl
@[simp] theorem State.modStrm_tb : (s.modStrm st f).tb = s.tb := rfl
@[simp] theorem State.modStrm_droop : (s.modStrm st f).droop = s.droop := rfl
@[simp] theorem State.modStrm_power : (s.modStrm st f).power = s.power := rfl
@[simp] theorem State.modStrm_evt : (s.modStrm st f).evt = s.evt := rfl
@[simp] theorem State.modStrm_sill : (s.modStrm st f).sill = s.sill := rfl
@[simp] theorem State.modStrm_cfg : (s.modStrm st f).cfg = s.cfg := rfl
@[simp] theorem State.modStrm_pos : (s.modStrm st f).pos = s.pos := rfl
@[simp] theorem State.modStrm_seqs : (s.modStrm st f).seqs = s.seqs := rfl
@[simp] theorem State.modStrm_trigs : (s.modStrm st f).trigs = s.trigs := rfl
@[simp] theorem State.modStrm_pulses : (s.modStrm st f).pulses = s.pulses := rfl
@[simp] theorem State.modStrm_ledger : (s.modStrm st f).ledger = s.ledger := rfl
@[simp] theorem State.modStrm_phy : (s.modStrm st f).phy = s.phy := rfl
@[simp] theorem State.modStrm_tenon : (s.modStrm st f).tenon = s.tenon := rfl
@[simp] theorem State.modStrm_bay : (s.modStrm st f).bay = s.bay := rfl
@[simp] theorem State.modStrm_ddr : (s.modStrm st f).ddr = s.ddr := rfl
@[simp] theorem State.modStrm_eth : (s.modStrm st f).eth = s.eth := rfl
@[simp] theorem State.modStrm_cond : (s.modStrm st f).cond = s.cond := rfl
@[simp] theorem State.modStrm_scarf : (s.modStrm st f).scarf = s.scarf := rfl
@[simp] theorem State.modStrm_kerf : (s.modStrm st f).kerf = s.kerf := rfl
@[simp] theorem State.modStrm_eng : (s.modStrm st f).eng = s.eng := rfl
@[simp] theorem State.modStrm_imem : (s.modStrm st f).imem = s.imem := rfl
@[simp] theorem State.modStrm_dmem : (s.modStrm st f).dmem = s.dmem := rfl
@[simp] theorem State.modStrm_pushes : (s.modStrm st f).pushes = s.pushes := rfl
@[simp] theorem State.modStrm_dma : (s.modStrm st f).dma = s.dma := rfl
@[simp] theorem State.modStrm_dram : (s.modStrm st f).dram = s.dram := rfl
@[simp] theorem State.modStrm_arb : (s.modStrm st f).arb = s.arb := rfl
@[simp] theorem State.modStrm_dlv : (s.modStrm st f).dlv = s.dlv := rfl
@[simp] theorem State.modStrm_dlvNext : (s.modStrm st f).dlvNext = s.dlvNext := rfl
@[simp] theorem State.modStrm_streams : (s.modStrm st f).streams = cset (fun _ => Stream.reset) s.streams st (f (s.strm st)) := rfl
@[simp] theorem State.modStrm_rings : (s.modStrm st f).rings = s.rings := rfl
@[simp] theorem State.modStrm_recl : (s.modStrm st f).recl = s.recl := rfl
@[simp] theorem State.modStrm_mc : (s.modStrm st f).mc = s.mc := rfl
@[simp] theorem State.modStrm_ports : (s.modStrm st f).ports = s.ports := rfl
@[simp] theorem State.rd_modStrm (at_ : Nat) : (s.modStrm st f).rd at_ = s.rd at_ := rfl
@[simp] theorem State.rdN_modStrm (at_ : Nat) : (s.modStrm st f).rdN at_ = s.rdN at_ := rfl
@[simp] theorem State.get_modStrm (x : Fld) : (s.modStrm st f).get x = s.get x := rfl
@[simp] theorem State.flag_modStrm (x : Fld) : (s.modStrm st f).flag x = s.flag x := rfl
end

section
variable (s : State) (st p : Nat) (f : Ring → Ring)
@[simp] theorem State.modRing_pending : (s.modRing st p f).pending = s.pending := rfl
@[simp] theorem State.modRing_regs : (s.modRing st p f).regs = s.regs := rfl
@[simp] theorem State.modRing_freeIdx : (s.modRing st p f).freeIdx = s.freeIdx := rfl
@[simp] theorem State.modRing_out : (s.modRing st p f).out = s.out := rfl
@[simp] theorem State.modRing_log : (s.modRing st p f).log = s.log := rfl
@[simp] theorem State.modRing_tb : (s.modRing st p f).tb = s.tb := rfl
@[simp] theorem State.modRing_droop : (s.modRing st p f).droop = s.droop := rfl
@[simp] theorem State.modRing_power : (s.modRing st p f).power = s.power := rfl
@[simp] theorem State.modRing_evt : (s.modRing st p f).evt = s.evt := rfl
@[simp] theorem State.modRing_sill : (s.modRing st p f).sill = s.sill := rfl
@[simp] theorem State.modRing_cfg : (s.modRing st p f).cfg = s.cfg := rfl
@[simp] theorem State.modRing_pos : (s.modRing st p f).pos = s.pos := rfl
@[simp] theorem State.modRing_seqs : (s.modRing st p f).seqs = s.seqs := rfl
@[simp] theorem State.modRing_trigs : (s.modRing st p f).trigs = s.trigs := rfl
@[simp] theorem State.modRing_pulses : (s.modRing st p f).pulses = s.pulses := rfl
@[simp] theorem State.modRing_ledger : (s.modRing st p f).ledger = s.ledger := rfl
@[simp] theorem State.modRing_phy : (s.modRing st p f).phy = s.phy := rfl
@[simp] theorem State.modRing_tenon : (s.modRing st p f).tenon = s.tenon := rfl
@[simp] theorem State.modRing_bay : (s.modRing st p f).bay = s.bay := rfl
@[simp] theorem State.modRing_ddr : (s.modRing st p f).ddr = s.ddr := rfl
@[simp] theorem State.modRing_eth : (s.modRing st p f).eth = s.eth := rfl
@[simp] theorem State.modRing_cond : (s.modRing st p f).cond = s.cond := rfl
@[simp] theorem State.modRing_scarf : (s.modRing st p f).scarf = s.scarf := rfl
@[simp] theorem State.modRing_kerf : (s.modRing st p f).kerf = s.kerf := rfl
@[simp] theorem State.modRing_eng : (s.modRing st p f).eng = s.eng := rfl
@[simp] theorem State.modRing_imem : (s.modRing st p f).imem = s.imem := rfl
@[simp] theorem State.modRing_dmem : (s.modRing st p f).dmem = s.dmem := rfl
@[simp] theorem State.modRing_pushes : (s.modRing st p f).pushes = s.pushes := rfl
@[simp] theorem State.modRing_dma : (s.modRing st p f).dma = s.dma := rfl
@[simp] theorem State.modRing_dram : (s.modRing st p f).dram = s.dram := rfl
@[simp] theorem State.modRing_arb : (s.modRing st p f).arb = s.arb := rfl
@[simp] theorem State.modRing_dlv : (s.modRing st p f).dlv = s.dlv := rfl
@[simp] theorem State.modRing_dlvNext : (s.modRing st p f).dlvNext = s.dlvNext := rfl
@[simp] theorem State.modRing_streams : (s.modRing st p f).streams = s.streams := rfl
@[simp] theorem State.modRing_rings : (s.modRing st p f).rings = cset (fun _ => Ring.reset) s.rings (2 * st + p) (f (s.ring st p)) := rfl
@[simp] theorem State.modRing_recl : (s.modRing st p f).recl = s.recl := rfl
@[simp] theorem State.modRing_mc : (s.modRing st p f).mc = s.mc := rfl
@[simp] theorem State.modRing_ports : (s.modRing st p f).ports = s.ports := rfl
@[simp] theorem State.rd_modRing (at_ : Nat) : (s.modRing st p f).rd at_ = s.rd at_ := rfl
@[simp] theorem State.rdN_modRing (at_ : Nat) : (s.modRing st p f).rdN at_ = s.rdN at_ := rfl
@[simp] theorem State.get_modRing (x : Fld) : (s.modRing st p f).get x = s.get x := rfl
@[simp] theorem State.flag_modRing (x : Fld) : (s.modRing st p f).flag x = s.flag x := rfl
end

section
variable (s : State) (num : Nat) (f : Delivery → Delivery)
@[simp] theorem State.modDlv_pending : (s.modDlv num f).pending = s.pending := rfl
@[simp] theorem State.modDlv_regs : (s.modDlv num f).regs = s.regs := rfl
@[simp] theorem State.modDlv_freeIdx : (s.modDlv num f).freeIdx = s.freeIdx := rfl
@[simp] theorem State.modDlv_out : (s.modDlv num f).out = s.out := rfl
@[simp] theorem State.modDlv_log : (s.modDlv num f).log = s.log := rfl
@[simp] theorem State.modDlv_tb : (s.modDlv num f).tb = s.tb := rfl
@[simp] theorem State.modDlv_droop : (s.modDlv num f).droop = s.droop := rfl
@[simp] theorem State.modDlv_power : (s.modDlv num f).power = s.power := rfl
@[simp] theorem State.modDlv_evt : (s.modDlv num f).evt = s.evt := rfl
@[simp] theorem State.modDlv_sill : (s.modDlv num f).sill = s.sill := rfl
@[simp] theorem State.modDlv_cfg : (s.modDlv num f).cfg = s.cfg := rfl
@[simp] theorem State.modDlv_pos : (s.modDlv num f).pos = s.pos := rfl
@[simp] theorem State.modDlv_seqs : (s.modDlv num f).seqs = s.seqs := rfl
@[simp] theorem State.modDlv_trigs : (s.modDlv num f).trigs = s.trigs := rfl
@[simp] theorem State.modDlv_pulses : (s.modDlv num f).pulses = s.pulses := rfl
@[simp] theorem State.modDlv_ledger : (s.modDlv num f).ledger = s.ledger := rfl
@[simp] theorem State.modDlv_phy : (s.modDlv num f).phy = s.phy := rfl
@[simp] theorem State.modDlv_tenon : (s.modDlv num f).tenon = s.tenon := rfl
@[simp] theorem State.modDlv_bay : (s.modDlv num f).bay = s.bay := rfl
@[simp] theorem State.modDlv_ddr : (s.modDlv num f).ddr = s.ddr := rfl
@[simp] theorem State.modDlv_eth : (s.modDlv num f).eth = s.eth := rfl
@[simp] theorem State.modDlv_cond : (s.modDlv num f).cond = s.cond := rfl
@[simp] theorem State.modDlv_scarf : (s.modDlv num f).scarf = s.scarf := rfl
@[simp] theorem State.modDlv_kerf : (s.modDlv num f).kerf = s.kerf := rfl
@[simp] theorem State.modDlv_eng : (s.modDlv num f).eng = s.eng := rfl
@[simp] theorem State.modDlv_imem : (s.modDlv num f).imem = s.imem := rfl
@[simp] theorem State.modDlv_dmem : (s.modDlv num f).dmem = s.dmem := rfl
@[simp] theorem State.modDlv_pushes : (s.modDlv num f).pushes = s.pushes := rfl
@[simp] theorem State.modDlv_dma : (s.modDlv num f).dma = s.dma := rfl
@[simp] theorem State.modDlv_dram : (s.modDlv num f).dram = s.dram := rfl
@[simp] theorem State.modDlv_arb : (s.modDlv num f).arb = s.arb := rfl
@[simp] theorem State.modDlv_dlv : (s.modDlv num f).dlv = s.dlv.map (fun (d : Delivery) => if d.num == num then f d else d) := rfl
@[simp] theorem State.modDlv_dlvNext : (s.modDlv num f).dlvNext = s.dlvNext := rfl
@[simp] theorem State.modDlv_streams : (s.modDlv num f).streams = s.streams := rfl
@[simp] theorem State.modDlv_rings : (s.modDlv num f).rings = s.rings := rfl
@[simp] theorem State.modDlv_recl : (s.modDlv num f).recl = s.recl := rfl
@[simp] theorem State.modDlv_mc : (s.modDlv num f).mc = s.mc := rfl
@[simp] theorem State.modDlv_ports : (s.modDlv num f).ports = s.ports := rfl
@[simp] theorem State.rd_modDlv (at_ : Nat) : (s.modDlv num f).rd at_ = s.rd at_ := rfl
@[simp] theorem State.rdN_modDlv (at_ : Nat) : (s.modDlv num f).rdN at_ = s.rdN at_ := rfl
@[simp] theorem State.get_modDlv (x : Fld) : (s.modDlv num f).get x = s.get x := rfl
@[simp] theorem State.flag_modDlv (x : Fld) : (s.modDlv num f).flag x = s.flag x := rfl
end

section
variable (s : State) (num : Nat)
@[simp] theorem State.dropDlv_pending : (s.dropDlv num).pending = s.pending := rfl
@[simp] theorem State.dropDlv_regs : (s.dropDlv num).regs = s.regs := rfl
@[simp] theorem State.dropDlv_freeIdx : (s.dropDlv num).freeIdx = s.freeIdx := rfl
@[simp] theorem State.dropDlv_out : (s.dropDlv num).out = s.out := rfl
@[simp] theorem State.dropDlv_log : (s.dropDlv num).log = s.log := rfl
@[simp] theorem State.dropDlv_tb : (s.dropDlv num).tb = s.tb := rfl
@[simp] theorem State.dropDlv_droop : (s.dropDlv num).droop = s.droop := rfl
@[simp] theorem State.dropDlv_power : (s.dropDlv num).power = s.power := rfl
@[simp] theorem State.dropDlv_evt : (s.dropDlv num).evt = s.evt := rfl
@[simp] theorem State.dropDlv_sill : (s.dropDlv num).sill = s.sill := rfl
@[simp] theorem State.dropDlv_cfg : (s.dropDlv num).cfg = s.cfg := rfl
@[simp] theorem State.dropDlv_pos : (s.dropDlv num).pos = s.pos := rfl
@[simp] theorem State.dropDlv_seqs : (s.dropDlv num).seqs = s.seqs := rfl
@[simp] theorem State.dropDlv_trigs : (s.dropDlv num).trigs = s.trigs := rfl
@[simp] theorem State.dropDlv_pulses : (s.dropDlv num).pulses = s.pulses := rfl
@[simp] theorem State.dropDlv_ledger : (s.dropDlv num).ledger = s.ledger := rfl
@[simp] theorem State.dropDlv_phy : (s.dropDlv num).phy = s.phy := rfl
@[simp] theorem State.dropDlv_tenon : (s.dropDlv num).tenon = s.tenon := rfl
@[simp] theorem State.dropDlv_bay : (s.dropDlv num).bay = s.bay := rfl
@[simp] theorem State.dropDlv_ddr : (s.dropDlv num).ddr = s.ddr := rfl
@[simp] theorem State.dropDlv_eth : (s.dropDlv num).eth = s.eth := rfl
@[simp] theorem State.dropDlv_cond : (s.dropDlv num).cond = s.cond := rfl
@[simp] theorem State.dropDlv_scarf : (s.dropDlv num).scarf = s.scarf := rfl
@[simp] theorem State.dropDlv_kerf : (s.dropDlv num).kerf = s.kerf := rfl
@[simp] theorem State.dropDlv_eng : (s.dropDlv num).eng = s.eng := rfl
@[simp] theorem State.dropDlv_imem : (s.dropDlv num).imem = s.imem := rfl
@[simp] theorem State.dropDlv_dmem : (s.dropDlv num).dmem = s.dmem := rfl
@[simp] theorem State.dropDlv_pushes : (s.dropDlv num).pushes = s.pushes := rfl
@[simp] theorem State.dropDlv_dma : (s.dropDlv num).dma = s.dma := rfl
@[simp] theorem State.dropDlv_dram : (s.dropDlv num).dram = s.dram := rfl
@[simp] theorem State.dropDlv_arb : (s.dropDlv num).arb = s.arb := rfl
@[simp] theorem State.dropDlv_dlv : (s.dropDlv num).dlv = s.dlv.filter (fun (d : Delivery) => d.num != num) := rfl
@[simp] theorem State.dropDlv_dlvNext : (s.dropDlv num).dlvNext = s.dlvNext := rfl
@[simp] theorem State.dropDlv_streams : (s.dropDlv num).streams = s.streams := rfl
@[simp] theorem State.dropDlv_rings : (s.dropDlv num).rings = s.rings := rfl
@[simp] theorem State.dropDlv_recl : (s.dropDlv num).recl = s.recl := rfl
@[simp] theorem State.dropDlv_mc : (s.dropDlv num).mc = s.mc := rfl
@[simp] theorem State.dropDlv_ports : (s.dropDlv num).ports = s.ports := rfl
@[simp] theorem State.rd_dropDlv (at_ : Nat) : (s.dropDlv num).rd at_ = s.rd at_ := rfl
@[simp] theorem State.rdN_dropDlv (at_ : Nat) : (s.dropDlv num).rdN at_ = s.rdN at_ := rfl
@[simp] theorem State.get_dropDlv (x : Fld) : (s.dropDlv num).get x = s.get x := rfl
@[simp] theorem State.flag_dropDlv (x : Fld) : (s.dropDlv num).flag x = s.flag x := rfl
end

section
variable (s : State) (t : Nat)
@[simp] theorem State.setRateFrom_pending : (s.setRateFrom t).pending = s.pending := rfl
@[simp] theorem State.setRateFrom_regs : (s.setRateFrom t).regs = s.regs := rfl
@[simp] theorem State.setRateFrom_freeIdx : (s.setRateFrom t).freeIdx = s.freeIdx := rfl
@[simp] theorem State.setRateFrom_out : (s.setRateFrom t).out = s.out := rfl
@[simp] theorem State.setRateFrom_log : (s.setRateFrom t).log = s.log := rfl
@[simp] theorem State.setRateFrom_tb : (s.setRateFrom t).tb = s.tb := rfl
@[simp] theorem State.setRateFrom_droop : (s.setRateFrom t).droop = s.droop := rfl
@[simp] theorem State.setRateFrom_power : (s.setRateFrom t).power = s.power := rfl
@[simp] theorem State.setRateFrom_evt : (s.setRateFrom t).evt = s.evt := rfl
@[simp] theorem State.setRateFrom_sill : (s.setRateFrom t).sill = s.sill := rfl
@[simp] theorem State.setRateFrom_cfg : (s.setRateFrom t).cfg = s.cfg := rfl
@[simp] theorem State.setRateFrom_pos : (s.setRateFrom t).pos = s.pos := rfl
@[simp] theorem State.setRateFrom_seqs : (s.setRateFrom t).seqs = s.seqs := rfl
@[simp] theorem State.setRateFrom_trigs : (s.setRateFrom t).trigs = s.trigs := rfl
@[simp] theorem State.setRateFrom_pulses : (s.setRateFrom t).pulses = s.pulses := rfl
@[simp] theorem State.setRateFrom_ledger : (s.setRateFrom t).ledger = s.ledger := rfl
@[simp] theorem State.setRateFrom_phy : (s.setRateFrom t).phy = s.phy := rfl
@[simp] theorem State.setRateFrom_tenon : (s.setRateFrom t).tenon = s.tenon := rfl
@[simp] theorem State.setRateFrom_bay : (s.setRateFrom t).bay = s.bay := rfl
@[simp] theorem State.setRateFrom_ddr : (s.setRateFrom t).ddr = s.ddr := rfl
@[simp] theorem State.setRateFrom_eth : (s.setRateFrom t).eth = s.eth := rfl
@[simp] theorem State.setRateFrom_cond : (s.setRateFrom t).cond = s.cond := rfl
@[simp] theorem State.setRateFrom_scarf : (s.setRateFrom t).scarf = s.scarf := rfl
@[simp] theorem State.setRateFrom_kerf : (s.setRateFrom t).kerf = s.kerf := rfl
@[simp] theorem State.setRateFrom_eng : (s.setRateFrom t).eng = s.eng := rfl
@[simp] theorem State.setRateFrom_imem : (s.setRateFrom t).imem = s.imem := rfl
@[simp] theorem State.setRateFrom_dmem : (s.setRateFrom t).dmem = s.dmem := rfl
@[simp] theorem State.setRateFrom_pushes : (s.setRateFrom t).pushes = s.pushes := rfl
@[simp] theorem State.setRateFrom_dma : (s.setRateFrom t).dma = s.dma := rfl
@[simp] theorem State.setRateFrom_dram : (s.setRateFrom t).dram = s.dram := rfl
@[simp] theorem State.setRateFrom_arb : (s.setRateFrom t).arb = s.arb := rfl
@[simp] theorem State.setRateFrom_dlv : (s.setRateFrom t).dlv = s.dlv := rfl
@[simp] theorem State.setRateFrom_dlvNext : (s.setRateFrom t).dlvNext = s.dlvNext := rfl
@[simp] theorem State.setRateFrom_streams : (s.setRateFrom t).streams = s.streams := rfl
@[simp] theorem State.setRateFrom_rings : (s.setRateFrom t).rings = s.rings := rfl
@[simp] theorem State.setRateFrom_recl : (s.setRateFrom t).recl = s.recl := rfl
@[simp] theorem State.setRateFrom_mc : (s.setRateFrom t).mc = s.mc := rfl
@[simp] theorem State.setRateFrom_ports : (s.setRateFrom t).ports = s.ports := rfl
@[simp] theorem State.rd_setRateFrom (at_ : Nat) : (s.setRateFrom t).rd at_ = s.rd at_ := rfl
@[simp] theorem State.rdN_setRateFrom (at_ : Nat) : (s.setRateFrom t).rdN at_ = s.rdN at_ := rfl
@[simp] theorem State.get_setRateFrom (x : Fld) : (s.setRateFrom t).get x = s.get x := rfl
@[simp] theorem State.flag_setRateFrom (x : Fld) : (s.setRateFrom t).flag x = s.flag x := rfl
end

section
variable (s : State) (b c : Nat) (f : DmaChan → DmaChan)
@[simp] theorem State.modDch_pending : (s.modDch b c f).pending = s.pending := rfl
@[simp] theorem State.modDch_regs : (s.modDch b c f).regs = s.regs := rfl
@[simp] theorem State.modDch_freeIdx : (s.modDch b c f).freeIdx = s.freeIdx := rfl
@[simp] theorem State.modDch_out : (s.modDch b c f).out = s.out := rfl
@[simp] theorem State.modDch_log : (s.modDch b c f).log = s.log := rfl
@[simp] theorem State.modDch_tb : (s.modDch b c f).tb = s.tb := rfl
@[simp] theorem State.modDch_droop : (s.modDch b c f).droop = s.droop := rfl
@[simp] theorem State.modDch_power : (s.modDch b c f).power = s.power := rfl
@[simp] theorem State.modDch_evt : (s.modDch b c f).evt = s.evt := rfl
@[simp] theorem State.modDch_sill : (s.modDch b c f).sill = s.sill := rfl
@[simp] theorem State.modDch_cfg : (s.modDch b c f).cfg = s.cfg := rfl
@[simp] theorem State.modDch_pos : (s.modDch b c f).pos = s.pos := rfl
@[simp] theorem State.modDch_seqs : (s.modDch b c f).seqs = s.seqs := rfl
@[simp] theorem State.modDch_trigs : (s.modDch b c f).trigs = s.trigs := rfl
@[simp] theorem State.modDch_pulses : (s.modDch b c f).pulses = s.pulses := rfl
@[simp] theorem State.modDch_ledger : (s.modDch b c f).ledger = s.ledger := rfl
@[simp] theorem State.modDch_phy : (s.modDch b c f).phy = s.phy := rfl
@[simp] theorem State.modDch_tenon : (s.modDch b c f).tenon = s.tenon := rfl
@[simp] theorem State.modDch_bay : (s.modDch b c f).bay = s.bay := rfl
@[simp] theorem State.modDch_ddr : (s.modDch b c f).ddr = s.ddr := rfl
@[simp] theorem State.modDch_eth : (s.modDch b c f).eth = s.eth := rfl
@[simp] theorem State.modDch_cond : (s.modDch b c f).cond = s.cond := rfl
@[simp] theorem State.modDch_scarf : (s.modDch b c f).scarf = s.scarf := rfl
@[simp] theorem State.modDch_kerf : (s.modDch b c f).kerf = s.kerf := rfl
@[simp] theorem State.modDch_eng : (s.modDch b c f).eng = s.eng := rfl
@[simp] theorem State.modDch_imem : (s.modDch b c f).imem = s.imem := rfl
@[simp] theorem State.modDch_dmem : (s.modDch b c f).dmem = s.dmem := rfl
@[simp] theorem State.modDch_pushes : (s.modDch b c f).pushes = s.pushes := rfl
@[simp] theorem State.modDch_dma : (s.modDch b c f).dma = cset (fun _ => DmaChan.reset) s.dma (8 * b + c) (f (s.dch b c)) := rfl
@[simp] theorem State.modDch_dram : (s.modDch b c f).dram = s.dram := rfl
@[simp] theorem State.modDch_arb : (s.modDch b c f).arb = s.arb := rfl
@[simp] theorem State.modDch_dlv : (s.modDch b c f).dlv = s.dlv := rfl
@[simp] theorem State.modDch_dlvNext : (s.modDch b c f).dlvNext = s.dlvNext := rfl
@[simp] theorem State.modDch_streams : (s.modDch b c f).streams = s.streams := rfl
@[simp] theorem State.modDch_rings : (s.modDch b c f).rings = s.rings := rfl
@[simp] theorem State.modDch_recl : (s.modDch b c f).recl = s.recl := rfl
@[simp] theorem State.modDch_mc : (s.modDch b c f).mc = s.mc := rfl
@[simp] theorem State.modDch_ports : (s.modDch b c f).ports = s.ports := rfl
@[simp] theorem State.rd_modDch (at_ : Nat) : (s.modDch b c f).rd at_ = s.rd at_ := rfl
@[simp] theorem State.rdN_modDch (at_ : Nat) : (s.modDch b c f).rdN at_ = s.rdN at_ := rfl
@[simp] theorem State.get_modDch (x : Fld) : (s.modDch b c f).get x = s.get x := rfl
@[simp] theorem State.flag_modDch (x : Fld) : (s.modDch b c f).flag x = s.flag x := rfl
end

section
variable (s : State) (e a : Nat) (l : List Byte)
@[simp] theorem State.dmemWr_pending : (s.dmemWr e a l).pending = s.pending := rfl
@[simp] theorem State.dmemWr_regs : (s.dmemWr e a l).regs = s.regs := rfl
@[simp] theorem State.dmemWr_freeIdx : (s.dmemWr e a l).freeIdx = s.freeIdx := rfl
@[simp] theorem State.dmemWr_out : (s.dmemWr e a l).out = s.out := rfl
@[simp] theorem State.dmemWr_log : (s.dmemWr e a l).log = s.log := rfl
@[simp] theorem State.dmemWr_tb : (s.dmemWr e a l).tb = s.tb := rfl
@[simp] theorem State.dmemWr_droop : (s.dmemWr e a l).droop = s.droop := rfl
@[simp] theorem State.dmemWr_power : (s.dmemWr e a l).power = s.power := rfl
@[simp] theorem State.dmemWr_evt : (s.dmemWr e a l).evt = s.evt := rfl
@[simp] theorem State.dmemWr_sill : (s.dmemWr e a l).sill = s.sill := rfl
@[simp] theorem State.dmemWr_cfg : (s.dmemWr e a l).cfg = s.cfg := rfl
@[simp] theorem State.dmemWr_pos : (s.dmemWr e a l).pos = s.pos := rfl
@[simp] theorem State.dmemWr_seqs : (s.dmemWr e a l).seqs = s.seqs := rfl
@[simp] theorem State.dmemWr_trigs : (s.dmemWr e a l).trigs = s.trigs := rfl
@[simp] theorem State.dmemWr_pulses : (s.dmemWr e a l).pulses = s.pulses := rfl
@[simp] theorem State.dmemWr_ledger : (s.dmemWr e a l).ledger = s.ledger := rfl
@[simp] theorem State.dmemWr_phy : (s.dmemWr e a l).phy = s.phy := rfl
@[simp] theorem State.dmemWr_tenon : (s.dmemWr e a l).tenon = s.tenon := rfl
@[simp] theorem State.dmemWr_bay : (s.dmemWr e a l).bay = s.bay := rfl
@[simp] theorem State.dmemWr_ddr : (s.dmemWr e a l).ddr = s.ddr := rfl
@[simp] theorem State.dmemWr_eth : (s.dmemWr e a l).eth = s.eth := rfl
@[simp] theorem State.dmemWr_cond : (s.dmemWr e a l).cond = s.cond := rfl
@[simp] theorem State.dmemWr_scarf : (s.dmemWr e a l).scarf = s.scarf := rfl
@[simp] theorem State.dmemWr_kerf : (s.dmemWr e a l).kerf = s.kerf := rfl
@[simp] theorem State.dmemWr_eng : (s.dmemWr e a l).eng = s.eng := rfl
@[simp] theorem State.dmemWr_imem : (s.dmemWr e a l).imem = s.imem := rfl
@[simp] theorem State.dmemWr_dmem : (s.dmemWr e a l).dmem = csetN (fun _ => 0) s.dmem (e * 131072 + a) l := rfl
@[simp] theorem State.dmemWr_pushes : (s.dmemWr e a l).pushes = s.pushes := rfl
@[simp] theorem State.dmemWr_dma : (s.dmemWr e a l).dma = s.dma := rfl
@[simp] theorem State.dmemWr_dram : (s.dmemWr e a l).dram = s.dram := rfl
@[simp] theorem State.dmemWr_arb : (s.dmemWr e a l).arb = s.arb := rfl
@[simp] theorem State.dmemWr_dlv : (s.dmemWr e a l).dlv = s.dlv := rfl
@[simp] theorem State.dmemWr_dlvNext : (s.dmemWr e a l).dlvNext = s.dlvNext := rfl
@[simp] theorem State.dmemWr_streams : (s.dmemWr e a l).streams = s.streams := rfl
@[simp] theorem State.dmemWr_rings : (s.dmemWr e a l).rings = s.rings := rfl
@[simp] theorem State.dmemWr_recl : (s.dmemWr e a l).recl = s.recl := rfl
@[simp] theorem State.dmemWr_mc : (s.dmemWr e a l).mc = s.mc := rfl
@[simp] theorem State.dmemWr_ports : (s.dmemWr e a l).ports = s.ports := rfl
@[simp] theorem State.rd_dmemWr (at_ : Nat) : (s.dmemWr e a l).rd at_ = s.rd at_ := rfl
@[simp] theorem State.rdN_dmemWr (at_ : Nat) : (s.dmemWr e a l).rdN at_ = s.rdN at_ := rfl
@[simp] theorem State.get_dmemWr (x : Fld) : (s.dmemWr e a l).get x = s.get x := rfl
@[simp] theorem State.flag_dmemWr (x : Fld) : (s.dmemWr e a l).flag x = s.flag x := rfl
end

section
variable (s : State) (l : List (Nat × Nat))
@[simp] theorem State.setSigs_pending : (s.setSigs l).pending = s.pending := rfl
@[simp] theorem State.setSigs_regs : (s.setSigs l).regs = s.regs := rfl
@[simp] theorem State.setSigs_freeIdx : (s.setSigs l).freeIdx = s.freeIdx := rfl
@[simp] theorem State.setSigs_out : (s.setSigs l).out = s.out := rfl
@[simp] theorem State.setSigs_log : (s.setSigs l).log = s.log := rfl
@[simp] theorem State.setSigs_tb : (s.setSigs l).tb = s.tb := rfl
@[simp] theorem State.setSigs_droop : (s.setSigs l).droop = s.droop := rfl
@[simp] theorem State.setSigs_power : (s.setSigs l).power = s.power := rfl
@[simp] theorem State.setSigs_evt : (s.setSigs l).evt = s.evt := rfl
@[simp] theorem State.setSigs_sill : (s.setSigs l).sill = s.sill := rfl
@[simp] theorem State.setSigs_cfg : (s.setSigs l).cfg = s.cfg := rfl
@[simp] theorem State.setSigs_pos : (s.setSigs l).pos = s.pos := rfl
@[simp] theorem State.setSigs_seqs : (s.setSigs l).seqs = s.seqs := rfl
@[simp] theorem State.setSigs_trigs : (s.setSigs l).trigs = s.trigs := rfl
@[simp] theorem State.setSigs_pulses : (s.setSigs l).pulses = s.pulses := rfl
@[simp] theorem State.setSigs_ledger : (s.setSigs l).ledger = s.ledger := rfl
@[simp] theorem State.setSigs_phy : (s.setSigs l).phy = s.phy := rfl
@[simp] theorem State.setSigs_tenon : (s.setSigs l).tenon = s.tenon := rfl
@[simp] theorem State.setSigs_bay : (s.setSigs l).bay = s.bay := rfl
@[simp] theorem State.setSigs_ddr : (s.setSigs l).ddr = s.ddr := rfl
@[simp] theorem State.setSigs_eth : (s.setSigs l).eth = s.eth := rfl
@[simp] theorem State.setSigs_cond : (s.setSigs l).cond = s.cond := rfl
@[simp] theorem State.setSigs_scarf : (s.setSigs l).scarf = s.scarf := rfl
@[simp] theorem State.setSigs_kerf : (s.setSigs l).kerf = s.kerf := rfl
@[simp] theorem State.setSigs_eng : (s.setSigs l).eng = s.eng := rfl
@[simp] theorem State.setSigs_imem : (s.setSigs l).imem = s.imem := rfl
@[simp] theorem State.setSigs_dmem : (s.setSigs l).dmem = s.dmem := rfl
@[simp] theorem State.setSigs_pushes : (s.setSigs l).pushes = s.pushes := rfl
@[simp] theorem State.setSigs_dma : (s.setSigs l).dma = s.dma := rfl
@[simp] theorem State.setSigs_dram : (s.setSigs l).dram = s.dram := rfl
@[simp] theorem State.setSigs_arb : (s.setSigs l).arb = s.arb := rfl
@[simp] theorem State.setSigs_dlv : (s.setSigs l).dlv = s.dlv := rfl
@[simp] theorem State.setSigs_dlvNext : (s.setSigs l).dlvNext = s.dlvNext := rfl
@[simp] theorem State.setSigs_streams : (s.setSigs l).streams = s.streams := rfl
@[simp] theorem State.setSigs_rings : (s.setSigs l).rings = s.rings := rfl
@[simp] theorem State.setSigs_recl : (s.setSigs l).recl = s.recl := rfl
@[simp] theorem State.setSigs_mc : (s.setSigs l).mc = s.mc := rfl
@[simp] theorem State.setSigs_ports : (s.setSigs l).ports = s.ports := rfl
@[simp] theorem State.rd_setSigs (at_ : Nat) : (s.setSigs l).rd at_ = s.rd at_ := rfl
@[simp] theorem State.rdN_setSigs (at_ : Nat) : (s.setSigs l).rdN at_ = s.rdN at_ := rfl
@[simp] theorem State.get_setSigs (x : Fld) : (s.setSigs l).get x = s.get x := rfl
@[simp] theorem State.flag_setSigs (x : Fld) : (s.setSigs l).flag x = s.flag x := rfl
end

section
variable (s : State)
@[simp] theorem State.cycleUp_pending : (s.cycleUp).pending = s.pending := rfl
@[simp] theorem State.cycleUp_regs : (s.cycleUp).regs = s.regs := rfl
@[simp] theorem State.cycleUp_freeIdx : (s.cycleUp).freeIdx = s.freeIdx := rfl
@[simp] theorem State.cycleUp_out : (s.cycleUp).out = s.out := rfl
@[simp] theorem State.cycleUp_log : (s.cycleUp).log = s.log := rfl
@[simp] theorem State.cycleUp_tb : (s.cycleUp).tb = s.tb := rfl
@[simp] theorem State.cycleUp_droop : (s.cycleUp).droop = s.droop := rfl
@[simp] theorem State.cycleUp_power : (s.cycleUp).power = s.power := rfl
@[simp] theorem State.cycleUp_evt : (s.cycleUp).evt = s.evt := rfl
@[simp] theorem State.cycleUp_sill : (s.cycleUp).sill = s.sill := rfl
@[simp] theorem State.cycleUp_cfg : (s.cycleUp).cfg = s.cfg := rfl
@[simp] theorem State.cycleUp_pos : (s.cycleUp).pos = s.pos := rfl
@[simp] theorem State.cycleUp_seqs : (s.cycleUp).seqs = s.seqs := rfl
@[simp] theorem State.cycleUp_trigs : (s.cycleUp).trigs = s.trigs := rfl
@[simp] theorem State.cycleUp_pulses : (s.cycleUp).pulses = s.pulses := rfl
@[simp] theorem State.cycleUp_ledger : (s.cycleUp).ledger = s.ledger := rfl
@[simp] theorem State.cycleUp_phy : (s.cycleUp).phy = s.phy := rfl
@[simp] theorem State.cycleUp_tenon : (s.cycleUp).tenon = s.tenon := rfl
@[simp] theorem State.cycleUp_bay : (s.cycleUp).bay = s.bay := rfl
@[simp] theorem State.cycleUp_ddr : (s.cycleUp).ddr = s.ddr := rfl
@[simp] theorem State.cycleUp_eth : (s.cycleUp).eth = s.eth := rfl
@[simp] theorem State.cycleUp_cond : (s.cycleUp).cond = s.cond := rfl
@[simp] theorem State.cycleUp_scarf : (s.cycleUp).scarf = s.scarf := rfl
@[simp] theorem State.cycleUp_kerf : (s.cycleUp).kerf = s.kerf := rfl
@[simp] theorem State.cycleUp_eng : (s.cycleUp).eng = s.eng := rfl
@[simp] theorem State.cycleUp_imem : (s.cycleUp).imem = s.imem := rfl
@[simp] theorem State.cycleUp_dmem : (s.cycleUp).dmem = s.dmem := rfl
@[simp] theorem State.cycleUp_pushes : (s.cycleUp).pushes = s.pushes := rfl
@[simp] theorem State.cycleUp_dma : (s.cycleUp).dma = s.dma := rfl
@[simp] theorem State.cycleUp_dram : (s.cycleUp).dram = s.dram := rfl
@[simp] theorem State.cycleUp_arb : (s.cycleUp).arb = s.arb := rfl
@[simp] theorem State.cycleUp_dlv : (s.cycleUp).dlv = s.dlv := rfl
@[simp] theorem State.cycleUp_dlvNext : (s.cycleUp).dlvNext = s.dlvNext := rfl
@[simp] theorem State.cycleUp_streams : (s.cycleUp).streams = s.streams := rfl
@[simp] theorem State.cycleUp_rings : (s.cycleUp).rings = s.rings := rfl
@[simp] theorem State.cycleUp_recl : (s.cycleUp).recl = s.recl := rfl
@[simp] theorem State.cycleUp_mc : (s.cycleUp).mc = s.mc := rfl
@[simp] theorem State.cycleUp_ports : (s.cycleUp).ports = s.ports := rfl
@[simp] theorem State.rd_cycleUp (at_ : Nat) : (s.cycleUp).rd at_ = s.rd at_ := rfl
@[simp] theorem State.rdN_cycleUp (at_ : Nat) : (s.cycleUp).rdN at_ = s.rdN at_ := rfl
@[simp] theorem State.get_cycleUp (x : Fld) : (s.cycleUp).get x = s.get x := rfl
@[simp] theorem State.flag_cycleUp (x : Fld) : (s.cycleUp).flag x = s.flag x := rfl
end

section
variable (s : State) (t : Nat)
@[simp] theorem State.setFaultFrom_pending : (s.setFaultFrom t).pending = s.pending := rfl
@[simp] theorem State.setFaultFrom_regs : (s.setFaultFrom t).regs = s.regs := rfl
@[simp] theorem State.setFaultFrom_freeIdx : (s.setFaultFrom t).freeIdx = s.freeIdx := rfl
@[simp] theorem State.setFaultFrom_out : (s.setFaultFrom t).out = s.out := rfl
@[simp] theorem State.setFaultFrom_log : (s.setFaultFrom t).log = s.log := rfl
@[simp] theorem State.setFaultFrom_tb : (s.setFaultFrom t).tb = s.tb := rfl
@[simp] theorem State.setFaultFrom_droop : (s.setFaultFrom t).droop = s.droop := rfl
@[simp] theorem State.setFaultFrom_power : (s.setFaultFrom t).power = s.power := rfl
@[simp] theorem State.setFaultFrom_evt : (s.setFaultFrom t).evt = s.evt := rfl
@[simp] theorem State.setFaultFrom_sill : (s.setFaultFrom t).sill = s.sill := rfl
@[simp] theorem State.setFaultFrom_cfg : (s.setFaultFrom t).cfg = s.cfg := rfl
@[simp] theorem State.setFaultFrom_pos : (s.setFaultFrom t).pos = s.pos := rfl
@[simp] theorem State.setFaultFrom_seqs : (s.setFaultFrom t).seqs = s.seqs := rfl
@[simp] theorem State.setFaultFrom_trigs : (s.setFaultFrom t).trigs = s.trigs := rfl
@[simp] theorem State.setFaultFrom_pulses : (s.setFaultFrom t).pulses = s.pulses := rfl
@[simp] theorem State.setFaultFrom_ledger : (s.setFaultFrom t).ledger = s.ledger := rfl
@[simp] theorem State.setFaultFrom_phy : (s.setFaultFrom t).phy = s.phy := rfl
@[simp] theorem State.setFaultFrom_tenon : (s.setFaultFrom t).tenon = s.tenon := rfl
@[simp] theorem State.setFaultFrom_bay : (s.setFaultFrom t).bay = s.bay := rfl
@[simp] theorem State.setFaultFrom_ddr : (s.setFaultFrom t).ddr = s.ddr := rfl
@[simp] theorem State.setFaultFrom_eth : (s.setFaultFrom t).eth = s.eth := rfl
@[simp] theorem State.setFaultFrom_cond : (s.setFaultFrom t).cond = s.cond := rfl
@[simp] theorem State.setFaultFrom_scarf : (s.setFaultFrom t).scarf = s.scarf := rfl
@[simp] theorem State.setFaultFrom_kerf : (s.setFaultFrom t).kerf = s.kerf := rfl
@[simp] theorem State.setFaultFrom_eng : (s.setFaultFrom t).eng = s.eng := rfl
@[simp] theorem State.setFaultFrom_imem : (s.setFaultFrom t).imem = s.imem := rfl
@[simp] theorem State.setFaultFrom_dmem : (s.setFaultFrom t).dmem = s.dmem := rfl
@[simp] theorem State.setFaultFrom_pushes : (s.setFaultFrom t).pushes = s.pushes := rfl
@[simp] theorem State.setFaultFrom_dma : (s.setFaultFrom t).dma = s.dma := rfl
@[simp] theorem State.setFaultFrom_dram : (s.setFaultFrom t).dram = s.dram := rfl
@[simp] theorem State.setFaultFrom_arb : (s.setFaultFrom t).arb = s.arb := rfl
@[simp] theorem State.setFaultFrom_dlv : (s.setFaultFrom t).dlv = s.dlv := rfl
@[simp] theorem State.setFaultFrom_dlvNext : (s.setFaultFrom t).dlvNext = s.dlvNext := rfl
@[simp] theorem State.setFaultFrom_streams : (s.setFaultFrom t).streams = s.streams := rfl
@[simp] theorem State.setFaultFrom_rings : (s.setFaultFrom t).rings = s.rings := rfl
@[simp] theorem State.setFaultFrom_recl : (s.setFaultFrom t).recl = s.recl := rfl
@[simp] theorem State.setFaultFrom_mc : (s.setFaultFrom t).mc = s.mc := rfl
@[simp] theorem State.setFaultFrom_ports : (s.setFaultFrom t).ports = s.ports := rfl
@[simp] theorem State.rd_setFaultFrom (at_ : Nat) : (s.setFaultFrom t).rd at_ = s.rd at_ := rfl
@[simp] theorem State.rdN_setFaultFrom (at_ : Nat) : (s.setFaultFrom t).rdN at_ = s.rdN at_ := rfl
@[simp] theorem State.get_setFaultFrom (x : Fld) : (s.setFaultFrom t).get x = s.get x := rfl
@[simp] theorem State.flag_setFaultFrom (x : Fld) : (s.setFaultFrom t).flag x = s.flag x := rfl
end

section
variable (s : State) (b : Nat) (l : List EngPush)
@[simp] theorem State.setPushes_pending : (s.setPushes b l).pending = s.pending := rfl
@[simp] theorem State.setPushes_regs : (s.setPushes b l).regs = s.regs := rfl
@[simp] theorem State.setPushes_freeIdx : (s.setPushes b l).freeIdx = s.freeIdx := rfl
@[simp] theorem State.setPushes_out : (s.setPushes b l).out = s.out := rfl
@[simp] theorem State.setPushes_log : (s.setPushes b l).log = s.log := rfl
@[simp] theorem State.setPushes_tb : (s.setPushes b l).tb = s.tb := rfl
@[simp] theorem State.setPushes_droop : (s.setPushes b l).droop = s.droop := rfl
@[simp] theorem State.setPushes_power : (s.setPushes b l).power = s.power := rfl
@[simp] theorem State.setPushes_evt : (s.setPushes b l).evt = s.evt := rfl
@[simp] theorem State.setPushes_sill : (s.setPushes b l).sill = s.sill := rfl
@[simp] theorem State.setPushes_cfg : (s.setPushes b l).cfg = s.cfg := rfl
@[simp] theorem State.setPushes_pos : (s.setPushes b l).pos = s.pos := rfl
@[simp] theorem State.setPushes_seqs : (s.setPushes b l).seqs = s.seqs := rfl
@[simp] theorem State.setPushes_trigs : (s.setPushes b l).trigs = s.trigs := rfl
@[simp] theorem State.setPushes_pulses : (s.setPushes b l).pulses = s.pulses := rfl
@[simp] theorem State.setPushes_ledger : (s.setPushes b l).ledger = s.ledger := rfl
@[simp] theorem State.setPushes_phy : (s.setPushes b l).phy = s.phy := rfl
@[simp] theorem State.setPushes_tenon : (s.setPushes b l).tenon = s.tenon := rfl
@[simp] theorem State.setPushes_bay : (s.setPushes b l).bay = s.bay := rfl
@[simp] theorem State.setPushes_ddr : (s.setPushes b l).ddr = s.ddr := rfl
@[simp] theorem State.setPushes_eth : (s.setPushes b l).eth = s.eth := rfl
@[simp] theorem State.setPushes_cond : (s.setPushes b l).cond = s.cond := rfl
@[simp] theorem State.setPushes_scarf : (s.setPushes b l).scarf = s.scarf := rfl
@[simp] theorem State.setPushes_kerf : (s.setPushes b l).kerf = s.kerf := rfl
@[simp] theorem State.setPushes_eng : (s.setPushes b l).eng = s.eng := rfl
@[simp] theorem State.setPushes_imem : (s.setPushes b l).imem = s.imem := rfl
@[simp] theorem State.setPushes_dmem : (s.setPushes b l).dmem = s.dmem := rfl
@[simp] theorem State.setPushes_pushes : (s.setPushes b l).pushes = cset (fun _ => []) s.pushes b l := rfl
@[simp] theorem State.setPushes_dma : (s.setPushes b l).dma = s.dma := rfl
@[simp] theorem State.setPushes_dram : (s.setPushes b l).dram = s.dram := rfl
@[simp] theorem State.setPushes_arb : (s.setPushes b l).arb = s.arb := rfl
@[simp] theorem State.setPushes_dlv : (s.setPushes b l).dlv = s.dlv := rfl
@[simp] theorem State.setPushes_dlvNext : (s.setPushes b l).dlvNext = s.dlvNext := rfl
@[simp] theorem State.setPushes_streams : (s.setPushes b l).streams = s.streams := rfl
@[simp] theorem State.setPushes_rings : (s.setPushes b l).rings = s.rings := rfl
@[simp] theorem State.setPushes_recl : (s.setPushes b l).recl = s.recl := rfl
@[simp] theorem State.setPushes_mc : (s.setPushes b l).mc = s.mc := rfl
@[simp] theorem State.setPushes_ports : (s.setPushes b l).ports = s.ports := rfl
@[simp] theorem State.rd_setPushes (at_ : Nat) : (s.setPushes b l).rd at_ = s.rd at_ := rfl
@[simp] theorem State.rdN_setPushes (at_ : Nat) : (s.setPushes b l).rdN at_ = s.rdN at_ := rfl
@[simp] theorem State.get_setPushes (x : Fld) : (s.setPushes b l).get x = s.get x := rfl
@[simp] theorem State.flag_setPushes (x : Fld) : (s.setPushes b l).flag x = s.flag x := rfl
end

section
variable (s : State) (l : Nat) (f : EthLane → EthLane)
@[simp] theorem State.modEth_pending : (s.modEth l f).pending = s.pending := rfl
@[simp] theorem State.modEth_regs : (s.modEth l f).regs = s.regs := rfl
@[simp] theorem State.modEth_freeIdx : (s.modEth l f).freeIdx = s.freeIdx := rfl
@[simp] theorem State.modEth_out : (s.modEth l f).out = s.out := rfl
@[simp] theorem State.modEth_log : (s.modEth l f).log = s.log := rfl
@[simp] theorem State.modEth_tb : (s.modEth l f).tb = s.tb := rfl
@[simp] theorem State.modEth_droop : (s.modEth l f).droop = s.droop := rfl
@[simp] theorem State.modEth_power : (s.modEth l f).power = s.power := rfl
@[simp] theorem State.modEth_evt : (s.modEth l f).evt = s.evt := rfl
@[simp] theorem State.modEth_sill : (s.modEth l f).sill = s.sill := rfl
@[simp] theorem State.modEth_cfg : (s.modEth l f).cfg = s.cfg := rfl
@[simp] theorem State.modEth_pos : (s.modEth l f).pos = s.pos := rfl
@[simp] theorem State.modEth_seqs : (s.modEth l f).seqs = s.seqs := rfl
@[simp] theorem State.modEth_trigs : (s.modEth l f).trigs = s.trigs := rfl
@[simp] theorem State.modEth_pulses : (s.modEth l f).pulses = s.pulses := rfl
@[simp] theorem State.modEth_ledger : (s.modEth l f).ledger = s.ledger := rfl
@[simp] theorem State.modEth_phy : (s.modEth l f).phy = s.phy := rfl
@[simp] theorem State.modEth_tenon : (s.modEth l f).tenon = s.tenon := rfl
@[simp] theorem State.modEth_bay : (s.modEth l f).bay = s.bay := rfl
@[simp] theorem State.modEth_ddr : (s.modEth l f).ddr = s.ddr := rfl
@[simp] theorem State.modEth_eth : (s.modEth l f).eth = cset (fun _ => EthLane.reset) s.eth l (f (s.leth l)) := rfl
@[simp] theorem State.modEth_cond : (s.modEth l f).cond = s.cond := rfl
@[simp] theorem State.modEth_scarf : (s.modEth l f).scarf = s.scarf := rfl
@[simp] theorem State.modEth_kerf : (s.modEth l f).kerf = s.kerf := rfl
@[simp] theorem State.modEth_eng : (s.modEth l f).eng = s.eng := rfl
@[simp] theorem State.modEth_imem : (s.modEth l f).imem = s.imem := rfl
@[simp] theorem State.modEth_dmem : (s.modEth l f).dmem = s.dmem := rfl
@[simp] theorem State.modEth_pushes : (s.modEth l f).pushes = s.pushes := rfl
@[simp] theorem State.modEth_dma : (s.modEth l f).dma = s.dma := rfl
@[simp] theorem State.modEth_dram : (s.modEth l f).dram = s.dram := rfl
@[simp] theorem State.modEth_arb : (s.modEth l f).arb = s.arb := rfl
@[simp] theorem State.modEth_dlv : (s.modEth l f).dlv = s.dlv := rfl
@[simp] theorem State.modEth_dlvNext : (s.modEth l f).dlvNext = s.dlvNext := rfl
@[simp] theorem State.modEth_streams : (s.modEth l f).streams = s.streams := rfl
@[simp] theorem State.modEth_rings : (s.modEth l f).rings = s.rings := rfl
@[simp] theorem State.modEth_recl : (s.modEth l f).recl = s.recl := rfl
@[simp] theorem State.modEth_mc : (s.modEth l f).mc = s.mc := rfl
@[simp] theorem State.modEth_ports : (s.modEth l f).ports = s.ports := rfl
@[simp] theorem State.rd_modEth (at_ : Nat) : (s.modEth l f).rd at_ = s.rd at_ := rfl
@[simp] theorem State.rdN_modEth (at_ : Nat) : (s.modEth l f).rdN at_ = s.rdN at_ := rfl
@[simp] theorem State.get_modEth (x : Fld) : (s.modEth l f).get x = s.get x := rfl
@[simp] theorem State.flag_modEth (x : Fld) : (s.modEth l f).flag x = s.flag x := rfl
end

section
variable (s : State) (l : Nat) (f : Kerf → Kerf)
@[simp] theorem State.modKrf_pending : (s.modKrf l f).pending = s.pending := rfl
@[simp] theorem State.modKrf_regs : (s.modKrf l f).regs = s.regs := rfl
@[simp] theorem State.modKrf_freeIdx : (s.modKrf l f).freeIdx = s.freeIdx := rfl
@[simp] theorem State.modKrf_out : (s.modKrf l f).out = s.out := rfl
@[simp] theorem State.modKrf_log : (s.modKrf l f).log = s.log := rfl
@[simp] theorem State.modKrf_tb : (s.modKrf l f).tb = s.tb := rfl
@[simp] theorem State.modKrf_droop : (s.modKrf l f).droop = s.droop := rfl
@[simp] theorem State.modKrf_power : (s.modKrf l f).power = s.power := rfl
@[simp] theorem State.modKrf_evt : (s.modKrf l f).evt = s.evt := rfl
@[simp] theorem State.modKrf_sill : (s.modKrf l f).sill = s.sill := rfl
@[simp] theorem State.modKrf_cfg : (s.modKrf l f).cfg = s.cfg := rfl
@[simp] theorem State.modKrf_pos : (s.modKrf l f).pos = s.pos := rfl
@[simp] theorem State.modKrf_seqs : (s.modKrf l f).seqs = s.seqs := rfl
@[simp] theorem State.modKrf_trigs : (s.modKrf l f).trigs = s.trigs := rfl
@[simp] theorem State.modKrf_pulses : (s.modKrf l f).pulses = s.pulses := rfl
@[simp] theorem State.modKrf_ledger : (s.modKrf l f).ledger = s.ledger := rfl
@[simp] theorem State.modKrf_phy : (s.modKrf l f).phy = s.phy := rfl
@[simp] theorem State.modKrf_tenon : (s.modKrf l f).tenon = s.tenon := rfl
@[simp] theorem State.modKrf_bay : (s.modKrf l f).bay = s.bay := rfl
@[simp] theorem State.modKrf_ddr : (s.modKrf l f).ddr = s.ddr := rfl
@[simp] theorem State.modKrf_eth : (s.modKrf l f).eth = s.eth := rfl
@[simp] theorem State.modKrf_cond : (s.modKrf l f).cond = s.cond := rfl
@[simp] theorem State.modKrf_scarf : (s.modKrf l f).scarf = s.scarf := rfl
@[simp] theorem State.modKrf_kerf : (s.modKrf l f).kerf = cset (fun _ => Kerf.reset) s.kerf l (f (s.krf l)) := rfl
@[simp] theorem State.modKrf_eng : (s.modKrf l f).eng = s.eng := rfl
@[simp] theorem State.modKrf_imem : (s.modKrf l f).imem = s.imem := rfl
@[simp] theorem State.modKrf_dmem : (s.modKrf l f).dmem = s.dmem := rfl
@[simp] theorem State.modKrf_pushes : (s.modKrf l f).pushes = s.pushes := rfl
@[simp] theorem State.modKrf_dma : (s.modKrf l f).dma = s.dma := rfl
@[simp] theorem State.modKrf_dram : (s.modKrf l f).dram = s.dram := rfl
@[simp] theorem State.modKrf_arb : (s.modKrf l f).arb = s.arb := rfl
@[simp] theorem State.modKrf_dlv : (s.modKrf l f).dlv = s.dlv := rfl
@[simp] theorem State.modKrf_dlvNext : (s.modKrf l f).dlvNext = s.dlvNext := rfl
@[simp] theorem State.modKrf_streams : (s.modKrf l f).streams = s.streams := rfl
@[simp] theorem State.modKrf_rings : (s.modKrf l f).rings = s.rings := rfl
@[simp] theorem State.modKrf_recl : (s.modKrf l f).recl = s.recl := rfl
@[simp] theorem State.modKrf_mc : (s.modKrf l f).mc = s.mc := rfl
@[simp] theorem State.modKrf_ports : (s.modKrf l f).ports = s.ports := rfl
@[simp] theorem State.rd_modKrf (at_ : Nat) : (s.modKrf l f).rd at_ = s.rd at_ := rfl
@[simp] theorem State.rdN_modKrf (at_ : Nat) : (s.modKrf l f).rdN at_ = s.rdN at_ := rfl
@[simp] theorem State.get_modKrf (x : Fld) : (s.modKrf l f).get x = s.get x := rfl
@[simp] theorem State.flag_modKrf (x : Fld) : (s.modKrf l f).flag x = s.flag x := rfl
end

section
variable (s : State) (p o n : Nat)
@[simp] theorem State.cfgWr_pending : (s.cfgWr p o n).pending = s.pending := rfl
@[simp] theorem State.cfgWr_regs : (s.cfgWr p o n).regs = s.regs := rfl
@[simp] theorem State.cfgWr_freeIdx : (s.cfgWr p o n).freeIdx = s.freeIdx := rfl
@[simp] theorem State.cfgWr_out : (s.cfgWr p o n).out = s.out := rfl
@[simp] theorem State.cfgWr_log : (s.cfgWr p o n).log = s.log := rfl
@[simp] theorem State.cfgWr_tb : (s.cfgWr p o n).tb = s.tb := rfl
@[simp] theorem State.cfgWr_droop : (s.cfgWr p o n).droop = s.droop := rfl
@[simp] theorem State.cfgWr_power : (s.cfgWr p o n).power = s.power := rfl
@[simp] theorem State.cfgWr_evt : (s.cfgWr p o n).evt = s.evt := rfl
@[simp] theorem State.cfgWr_sill : (s.cfgWr p o n).sill = s.sill := rfl
@[simp] theorem State.cfgWr_cfg : (s.cfgWr p o n).cfg = cset cfgDefault s.cfg (4096 * p + o) (BitVec.ofNat 32 n) := rfl
@[simp] theorem State.cfgWr_pos : (s.cfgWr p o n).pos = s.pos := rfl
@[simp] theorem State.cfgWr_seqs : (s.cfgWr p o n).seqs = s.seqs := rfl
@[simp] theorem State.cfgWr_trigs : (s.cfgWr p o n).trigs = s.trigs := rfl
@[simp] theorem State.cfgWr_pulses : (s.cfgWr p o n).pulses = s.pulses := rfl
@[simp] theorem State.cfgWr_ledger : (s.cfgWr p o n).ledger = s.ledger := rfl
@[simp] theorem State.cfgWr_phy : (s.cfgWr p o n).phy = s.phy := rfl
@[simp] theorem State.cfgWr_tenon : (s.cfgWr p o n).tenon = s.tenon := rfl
@[simp] theorem State.cfgWr_bay : (s.cfgWr p o n).bay = s.bay := rfl
@[simp] theorem State.cfgWr_ddr : (s.cfgWr p o n).ddr = s.ddr := rfl
@[simp] theorem State.cfgWr_eth : (s.cfgWr p o n).eth = s.eth := rfl
@[simp] theorem State.cfgWr_cond : (s.cfgWr p o n).cond = s.cond := rfl
@[simp] theorem State.cfgWr_scarf : (s.cfgWr p o n).scarf = s.scarf := rfl
@[simp] theorem State.cfgWr_kerf : (s.cfgWr p o n).kerf = s.kerf := rfl
@[simp] theorem State.cfgWr_eng : (s.cfgWr p o n).eng = s.eng := rfl
@[simp] theorem State.cfgWr_imem : (s.cfgWr p o n).imem = s.imem := rfl
@[simp] theorem State.cfgWr_dmem : (s.cfgWr p o n).dmem = s.dmem := rfl
@[simp] theorem State.cfgWr_pushes : (s.cfgWr p o n).pushes = s.pushes := rfl
@[simp] theorem State.cfgWr_dma : (s.cfgWr p o n).dma = s.dma := rfl
@[simp] theorem State.cfgWr_dram : (s.cfgWr p o n).dram = s.dram := rfl
@[simp] theorem State.cfgWr_arb : (s.cfgWr p o n).arb = s.arb := rfl
@[simp] theorem State.cfgWr_dlv : (s.cfgWr p o n).dlv = s.dlv := rfl
@[simp] theorem State.cfgWr_dlvNext : (s.cfgWr p o n).dlvNext = s.dlvNext := rfl
@[simp] theorem State.cfgWr_streams : (s.cfgWr p o n).streams = s.streams := rfl
@[simp] theorem State.cfgWr_rings : (s.cfgWr p o n).rings = s.rings := rfl
@[simp] theorem State.cfgWr_recl : (s.cfgWr p o n).recl = s.recl := rfl
@[simp] theorem State.cfgWr_mc : (s.cfgWr p o n).mc = s.mc := rfl
@[simp] theorem State.cfgWr_ports : (s.cfgWr p o n).ports = s.ports := rfl
@[simp] theorem State.rd_cfgWr (at_ : Nat) : (s.cfgWr p o n).rd at_ = s.rd at_ := rfl
@[simp] theorem State.rdN_cfgWr (at_ : Nat) : (s.cfgWr p o n).rdN at_ = s.rdN at_ := rfl
@[simp] theorem State.get_cfgWr (x : Fld) : (s.cfgWr p o n).get x = s.get x := rfl
@[simp] theorem State.flag_cfgWr (x : Fld) : (s.cfgWr p o n).flag x = s.flag x := rfl
end

section
variable (s : State) (b a : Nat) (l : List Byte)
@[simp] theorem State.bayWr_pending : (s.bayWr b a l).pending = s.pending := rfl
@[simp] theorem State.bayWr_regs : (s.bayWr b a l).regs = s.regs := rfl
@[simp] theorem State.bayWr_freeIdx : (s.bayWr b a l).freeIdx = s.freeIdx := rfl
@[simp] theorem State.bayWr_out : (s.bayWr b a l).out = s.out := rfl
@[simp] theorem State.bayWr_log : (s.bayWr b a l).log = s.log := rfl
@[simp] theorem State.bayWr_tb : (s.bayWr b a l).tb = s.tb := rfl
@[simp] theorem State.bayWr_droop : (s.bayWr b a l).droop = s.droop := rfl
@[simp] theorem State.bayWr_power : (s.bayWr b a l).power = s.power := rfl
@[simp] theorem State.bayWr_evt : (s.bayWr b a l).evt = s.evt := rfl
@[simp] theorem State.bayWr_sill : (s.bayWr b a l).sill = s.sill := rfl
@[simp] theorem State.bayWr_cfg : (s.bayWr b a l).cfg = s.cfg := rfl
@[simp] theorem State.bayWr_pos : (s.bayWr b a l).pos = s.pos := rfl
@[simp] theorem State.bayWr_seqs : (s.bayWr b a l).seqs = s.seqs := rfl
@[simp] theorem State.bayWr_trigs : (s.bayWr b a l).trigs = s.trigs := rfl
@[simp] theorem State.bayWr_pulses : (s.bayWr b a l).pulses = s.pulses := rfl
@[simp] theorem State.bayWr_ledger : (s.bayWr b a l).ledger = s.ledger := rfl
@[simp] theorem State.bayWr_phy : (s.bayWr b a l).phy = s.phy := rfl
@[simp] theorem State.bayWr_tenon : (s.bayWr b a l).tenon = s.tenon := rfl
@[simp] theorem State.bayWr_bay : (s.bayWr b a l).bay = csetN (fun _ => 0) s.bay (b * 2097152 + a) l := rfl
@[simp] theorem State.bayWr_ddr : (s.bayWr b a l).ddr = s.ddr := rfl
@[simp] theorem State.bayWr_eth : (s.bayWr b a l).eth = s.eth := rfl
@[simp] theorem State.bayWr_cond : (s.bayWr b a l).cond = s.cond := rfl
@[simp] theorem State.bayWr_scarf : (s.bayWr b a l).scarf = s.scarf := rfl
@[simp] theorem State.bayWr_kerf : (s.bayWr b a l).kerf = s.kerf := rfl
@[simp] theorem State.bayWr_eng : (s.bayWr b a l).eng = s.eng := rfl
@[simp] theorem State.bayWr_imem : (s.bayWr b a l).imem = s.imem := rfl
@[simp] theorem State.bayWr_dmem : (s.bayWr b a l).dmem = s.dmem := rfl
@[simp] theorem State.bayWr_pushes : (s.bayWr b a l).pushes = s.pushes := rfl
@[simp] theorem State.bayWr_dma : (s.bayWr b a l).dma = s.dma := rfl
@[simp] theorem State.bayWr_dram : (s.bayWr b a l).dram = s.dram := rfl
@[simp] theorem State.bayWr_arb : (s.bayWr b a l).arb = s.arb := rfl
@[simp] theorem State.bayWr_dlv : (s.bayWr b a l).dlv = s.dlv := rfl
@[simp] theorem State.bayWr_dlvNext : (s.bayWr b a l).dlvNext = s.dlvNext := rfl
@[simp] theorem State.bayWr_streams : (s.bayWr b a l).streams = s.streams := rfl
@[simp] theorem State.bayWr_rings : (s.bayWr b a l).rings = s.rings := rfl
@[simp] theorem State.bayWr_recl : (s.bayWr b a l).recl = s.recl := rfl
@[simp] theorem State.bayWr_mc : (s.bayWr b a l).mc = s.mc := rfl
@[simp] theorem State.bayWr_ports : (s.bayWr b a l).ports = s.ports := rfl
@[simp] theorem State.rd_bayWr (at_ : Nat) : (s.bayWr b a l).rd at_ = s.rd at_ := rfl
@[simp] theorem State.rdN_bayWr (at_ : Nat) : (s.bayWr b a l).rdN at_ = s.rdN at_ := rfl
@[simp] theorem State.get_bayWr (x : Fld) : (s.bayWr b a l).get x = s.get x := rfl
@[simp] theorem State.flag_bayWr (x : Fld) : (s.bayWr b a l).flag x = s.flag x := rfl
end

section
variable (s : State) (l : List DdrWrite)
@[simp] theorem State.setDdrOut_pending : (s.setDdrOut l).pending = s.pending := rfl
@[simp] theorem State.setDdrOut_regs : (s.setDdrOut l).regs = s.regs := rfl
@[simp] theorem State.setDdrOut_freeIdx : (s.setDdrOut l).freeIdx = s.freeIdx := rfl
@[simp] theorem State.setDdrOut_out : (s.setDdrOut l).out = s.out := rfl
@[simp] theorem State.setDdrOut_log : (s.setDdrOut l).log = s.log := rfl
@[simp] theorem State.setDdrOut_tb : (s.setDdrOut l).tb = s.tb := rfl
@[simp] theorem State.setDdrOut_droop : (s.setDdrOut l).droop = s.droop := rfl
@[simp] theorem State.setDdrOut_power : (s.setDdrOut l).power = s.power := rfl
@[simp] theorem State.setDdrOut_evt : (s.setDdrOut l).evt = s.evt := rfl
@[simp] theorem State.setDdrOut_sill : (s.setDdrOut l).sill = s.sill := rfl
@[simp] theorem State.setDdrOut_cfg : (s.setDdrOut l).cfg = s.cfg := rfl
@[simp] theorem State.setDdrOut_pos : (s.setDdrOut l).pos = s.pos := rfl
@[simp] theorem State.setDdrOut_seqs : (s.setDdrOut l).seqs = s.seqs := rfl
@[simp] theorem State.setDdrOut_trigs : (s.setDdrOut l).trigs = s.trigs := rfl
@[simp] theorem State.setDdrOut_pulses : (s.setDdrOut l).pulses = s.pulses := rfl
@[simp] theorem State.setDdrOut_ledger : (s.setDdrOut l).ledger = s.ledger := rfl
@[simp] theorem State.setDdrOut_phy : (s.setDdrOut l).phy = s.phy := rfl
@[simp] theorem State.setDdrOut_tenon : (s.setDdrOut l).tenon = s.tenon := rfl
@[simp] theorem State.setDdrOut_bay : (s.setDdrOut l).bay = s.bay := rfl
@[simp] theorem State.setDdrOut_ddr : (s.setDdrOut l).ddr = s.ddr := rfl
@[simp] theorem State.setDdrOut_eth : (s.setDdrOut l).eth = s.eth := rfl
@[simp] theorem State.setDdrOut_cond : (s.setDdrOut l).cond = s.cond := rfl
@[simp] theorem State.setDdrOut_scarf : (s.setDdrOut l).scarf = s.scarf := rfl
@[simp] theorem State.setDdrOut_kerf : (s.setDdrOut l).kerf = s.kerf := rfl
@[simp] theorem State.setDdrOut_eng : (s.setDdrOut l).eng = s.eng := rfl
@[simp] theorem State.setDdrOut_imem : (s.setDdrOut l).imem = s.imem := rfl
@[simp] theorem State.setDdrOut_dmem : (s.setDdrOut l).dmem = s.dmem := rfl
@[simp] theorem State.setDdrOut_pushes : (s.setDdrOut l).pushes = s.pushes := rfl
@[simp] theorem State.setDdrOut_dma : (s.setDdrOut l).dma = s.dma := rfl
@[simp] theorem State.setDdrOut_dram : (s.setDdrOut l).dram = s.dram := rfl
@[simp] theorem State.setDdrOut_arb : (s.setDdrOut l).arb = s.arb := rfl
@[simp] theorem State.setDdrOut_dlv : (s.setDdrOut l).dlv = s.dlv := rfl
@[simp] theorem State.setDdrOut_dlvNext : (s.setDdrOut l).dlvNext = s.dlvNext := rfl
@[simp] theorem State.setDdrOut_streams : (s.setDdrOut l).streams = s.streams := rfl
@[simp] theorem State.setDdrOut_rings : (s.setDdrOut l).rings = s.rings := rfl
@[simp] theorem State.setDdrOut_recl : (s.setDdrOut l).recl = s.recl := rfl
@[simp] theorem State.setDdrOut_mc : (s.setDdrOut l).mc = s.mc := rfl
@[simp] theorem State.setDdrOut_ports : (s.setDdrOut l).ports = s.ports := rfl
@[simp] theorem State.rd_setDdrOut (at_ : Nat) : (s.setDdrOut l).rd at_ = s.rd at_ := rfl
@[simp] theorem State.rdN_setDdrOut (at_ : Nat) : (s.setDdrOut l).rdN at_ = s.rdN at_ := rfl
@[simp] theorem State.get_setDdrOut (x : Fld) : (s.setDdrOut l).get x = s.get x := rfl
@[simp] theorem State.flag_setDdrOut (x : Fld) : (s.setDdrOut l).flag x = s.flag x := rfl
end

section
variable (s : State) (l : Nat) (f : LanePhy → LanePhy)
@[simp] theorem State.modPhy_pending : (s.modPhy l f).pending = s.pending := rfl
@[simp] theorem State.modPhy_regs : (s.modPhy l f).regs = s.regs := rfl
@[simp] theorem State.modPhy_freeIdx : (s.modPhy l f).freeIdx = s.freeIdx := rfl
@[simp] theorem State.modPhy_out : (s.modPhy l f).out = s.out := rfl
@[simp] theorem State.modPhy_log : (s.modPhy l f).log = s.log := rfl
@[simp] theorem State.modPhy_tb : (s.modPhy l f).tb = s.tb := rfl
@[simp] theorem State.modPhy_droop : (s.modPhy l f).droop = s.droop := rfl
@[simp] theorem State.modPhy_power : (s.modPhy l f).power = s.power := rfl
@[simp] theorem State.modPhy_evt : (s.modPhy l f).evt = s.evt := rfl
@[simp] theorem State.modPhy_sill : (s.modPhy l f).sill = s.sill := rfl
@[simp] theorem State.modPhy_cfg : (s.modPhy l f).cfg = s.cfg := rfl
@[simp] theorem State.modPhy_pos : (s.modPhy l f).pos = s.pos := rfl
@[simp] theorem State.modPhy_seqs : (s.modPhy l f).seqs = s.seqs := rfl
@[simp] theorem State.modPhy_trigs : (s.modPhy l f).trigs = s.trigs := rfl
@[simp] theorem State.modPhy_pulses : (s.modPhy l f).pulses = s.pulses := rfl
@[simp] theorem State.modPhy_ledger : (s.modPhy l f).ledger = s.ledger := rfl
@[simp] theorem State.modPhy_phy : (s.modPhy l f).phy = cset (fun _ => LanePhy.reset) s.phy l (f (s.lphy l)) := rfl
@[simp] theorem State.modPhy_tenon : (s.modPhy l f).tenon = s.tenon := rfl
@[simp] theorem State.modPhy_bay : (s.modPhy l f).bay = s.bay := rfl
@[simp] theorem State.modPhy_ddr : (s.modPhy l f).ddr = s.ddr := rfl
@[simp] theorem State.modPhy_eth : (s.modPhy l f).eth = s.eth := rfl
@[simp] theorem State.modPhy_cond : (s.modPhy l f).cond = s.cond := rfl
@[simp] theorem State.modPhy_scarf : (s.modPhy l f).scarf = s.scarf := rfl
@[simp] theorem State.modPhy_kerf : (s.modPhy l f).kerf = s.kerf := rfl
@[simp] theorem State.modPhy_eng : (s.modPhy l f).eng = s.eng := rfl
@[simp] theorem State.modPhy_imem : (s.modPhy l f).imem = s.imem := rfl
@[simp] theorem State.modPhy_dmem : (s.modPhy l f).dmem = s.dmem := rfl
@[simp] theorem State.modPhy_pushes : (s.modPhy l f).pushes = s.pushes := rfl
@[simp] theorem State.modPhy_dma : (s.modPhy l f).dma = s.dma := rfl
@[simp] theorem State.modPhy_dram : (s.modPhy l f).dram = s.dram := rfl
@[simp] theorem State.modPhy_arb : (s.modPhy l f).arb = s.arb := rfl
@[simp] theorem State.modPhy_dlv : (s.modPhy l f).dlv = s.dlv := rfl
@[simp] theorem State.modPhy_dlvNext : (s.modPhy l f).dlvNext = s.dlvNext := rfl
@[simp] theorem State.modPhy_streams : (s.modPhy l f).streams = s.streams := rfl
@[simp] theorem State.modPhy_rings : (s.modPhy l f).rings = s.rings := rfl
@[simp] theorem State.modPhy_recl : (s.modPhy l f).recl = s.recl := rfl
@[simp] theorem State.modPhy_mc : (s.modPhy l f).mc = s.mc := rfl
@[simp] theorem State.modPhy_ports : (s.modPhy l f).ports = s.ports := rfl
@[simp] theorem State.rd_modPhy (at_ : Nat) : (s.modPhy l f).rd at_ = s.rd at_ := rfl
@[simp] theorem State.rdN_modPhy (at_ : Nat) : (s.modPhy l f).rdN at_ = s.rdN at_ := rfl
@[simp] theorem State.get_modPhy (x : Fld) : (s.modPhy l f).get x = s.get x := rfl
@[simp] theorem State.flag_modPhy (x : Fld) : (s.modPhy l f).flag x = s.flag x := rfl
end

section
variable (s : State) (l : Nat) (f : LaneTenon → LaneTenon)
@[simp] theorem State.modTen_pending : (s.modTen l f).pending = s.pending := rfl
@[simp] theorem State.modTen_regs : (s.modTen l f).regs = s.regs := rfl
@[simp] theorem State.modTen_freeIdx : (s.modTen l f).freeIdx = s.freeIdx := rfl
@[simp] theorem State.modTen_out : (s.modTen l f).out = s.out := rfl
@[simp] theorem State.modTen_log : (s.modTen l f).log = s.log := rfl
@[simp] theorem State.modTen_tb : (s.modTen l f).tb = s.tb := rfl
@[simp] theorem State.modTen_droop : (s.modTen l f).droop = s.droop := rfl
@[simp] theorem State.modTen_power : (s.modTen l f).power = s.power := rfl
@[simp] theorem State.modTen_evt : (s.modTen l f).evt = s.evt := rfl
@[simp] theorem State.modTen_sill : (s.modTen l f).sill = s.sill := rfl
@[simp] theorem State.modTen_cfg : (s.modTen l f).cfg = s.cfg := rfl
@[simp] theorem State.modTen_pos : (s.modTen l f).pos = s.pos := rfl
@[simp] theorem State.modTen_seqs : (s.modTen l f).seqs = s.seqs := rfl
@[simp] theorem State.modTen_trigs : (s.modTen l f).trigs = s.trigs := rfl
@[simp] theorem State.modTen_pulses : (s.modTen l f).pulses = s.pulses := rfl
@[simp] theorem State.modTen_ledger : (s.modTen l f).ledger = s.ledger := rfl
@[simp] theorem State.modTen_phy : (s.modTen l f).phy = s.phy := rfl
@[simp] theorem State.modTen_tenon : (s.modTen l f).tenon = cset (fun _ => LaneTenon.reset) s.tenon l (f (s.lten l)) := rfl
@[simp] theorem State.modTen_bay : (s.modTen l f).bay = s.bay := rfl
@[simp] theorem State.modTen_ddr : (s.modTen l f).ddr = s.ddr := rfl
@[simp] theorem State.modTen_eth : (s.modTen l f).eth = s.eth := rfl
@[simp] theorem State.modTen_cond : (s.modTen l f).cond = s.cond := rfl
@[simp] theorem State.modTen_scarf : (s.modTen l f).scarf = s.scarf := rfl
@[simp] theorem State.modTen_kerf : (s.modTen l f).kerf = s.kerf := rfl
@[simp] theorem State.modTen_eng : (s.modTen l f).eng = s.eng := rfl
@[simp] theorem State.modTen_imem : (s.modTen l f).imem = s.imem := rfl
@[simp] theorem State.modTen_dmem : (s.modTen l f).dmem = s.dmem := rfl
@[simp] theorem State.modTen_pushes : (s.modTen l f).pushes = s.pushes := rfl
@[simp] theorem State.modTen_dma : (s.modTen l f).dma = s.dma := rfl
@[simp] theorem State.modTen_dram : (s.modTen l f).dram = s.dram := rfl
@[simp] theorem State.modTen_arb : (s.modTen l f).arb = s.arb := rfl
@[simp] theorem State.modTen_dlv : (s.modTen l f).dlv = s.dlv := rfl
@[simp] theorem State.modTen_dlvNext : (s.modTen l f).dlvNext = s.dlvNext := rfl
@[simp] theorem State.modTen_streams : (s.modTen l f).streams = s.streams := rfl
@[simp] theorem State.modTen_rings : (s.modTen l f).rings = s.rings := rfl
@[simp] theorem State.modTen_recl : (s.modTen l f).recl = s.recl := rfl
@[simp] theorem State.modTen_mc : (s.modTen l f).mc = s.mc := rfl
@[simp] theorem State.modTen_ports : (s.modTen l f).ports = s.ports := rfl
@[simp] theorem State.rd_modTen (at_ : Nat) : (s.modTen l f).rd at_ = s.rd at_ := rfl
@[simp] theorem State.rdN_modTen (at_ : Nat) : (s.modTen l f).rdN at_ = s.rdN at_ := rfl
@[simp] theorem State.get_modTen (x : Fld) : (s.modTen l f).get x = s.get x := rfl
@[simp] theorem State.flag_modTen (x : Fld) : (s.modTen l f).flag x = s.flag x := rfl
end

section
variable (s : State) (e : Nat) (f : Engine → Engine)
@[simp] theorem State.modEng_pending : (s.modEng e f).pending = s.pending := rfl
@[simp] theorem State.modEng_regs : (s.modEng e f).regs = s.regs := rfl
@[simp] theorem State.modEng_freeIdx : (s.modEng e f).freeIdx = s.freeIdx := rfl
@[simp] theorem State.modEng_out : (s.modEng e f).out = s.out := rfl
@[simp] theorem State.modEng_log : (s.modEng e f).log = s.log := rfl
@[simp] theorem State.modEng_tb : (s.modEng e f).tb = s.tb := rfl
@[simp] theorem State.modEng_droop : (s.modEng e f).droop = s.droop := rfl
@[simp] theorem State.modEng_power : (s.modEng e f).power = s.power := rfl
@[simp] theorem State.modEng_evt : (s.modEng e f).evt = s.evt := rfl
@[simp] theorem State.modEng_sill : (s.modEng e f).sill = s.sill := rfl
@[simp] theorem State.modEng_cfg : (s.modEng e f).cfg = s.cfg := rfl
@[simp] theorem State.modEng_pos : (s.modEng e f).pos = s.pos := rfl
@[simp] theorem State.modEng_seqs : (s.modEng e f).seqs = s.seqs := rfl
@[simp] theorem State.modEng_trigs : (s.modEng e f).trigs = s.trigs := rfl
@[simp] theorem State.modEng_pulses : (s.modEng e f).pulses = s.pulses := rfl
@[simp] theorem State.modEng_ledger : (s.modEng e f).ledger = s.ledger := rfl
@[simp] theorem State.modEng_phy : (s.modEng e f).phy = s.phy := rfl
@[simp] theorem State.modEng_tenon : (s.modEng e f).tenon = s.tenon := rfl
@[simp] theorem State.modEng_bay : (s.modEng e f).bay = s.bay := rfl
@[simp] theorem State.modEng_ddr : (s.modEng e f).ddr = s.ddr := rfl
@[simp] theorem State.modEng_eth : (s.modEng e f).eth = s.eth := rfl
@[simp] theorem State.modEng_cond : (s.modEng e f).cond = s.cond := rfl
@[simp] theorem State.modEng_scarf : (s.modEng e f).scarf = s.scarf := rfl
@[simp] theorem State.modEng_kerf : (s.modEng e f).kerf = s.kerf := rfl
@[simp] theorem State.modEng_eng : (s.modEng e f).eng = cset (fun _ => Engine.reset) s.eng e (f (s.en e)) := rfl
@[simp] theorem State.modEng_imem : (s.modEng e f).imem = s.imem := rfl
@[simp] theorem State.modEng_dmem : (s.modEng e f).dmem = s.dmem := rfl
@[simp] theorem State.modEng_pushes : (s.modEng e f).pushes = s.pushes := rfl
@[simp] theorem State.modEng_dma : (s.modEng e f).dma = s.dma := rfl
@[simp] theorem State.modEng_dram : (s.modEng e f).dram = s.dram := rfl
@[simp] theorem State.modEng_arb : (s.modEng e f).arb = s.arb := rfl
@[simp] theorem State.modEng_dlv : (s.modEng e f).dlv = s.dlv := rfl
@[simp] theorem State.modEng_dlvNext : (s.modEng e f).dlvNext = s.dlvNext := rfl
@[simp] theorem State.modEng_streams : (s.modEng e f).streams = s.streams := rfl
@[simp] theorem State.modEng_rings : (s.modEng e f).rings = s.rings := rfl
@[simp] theorem State.modEng_recl : (s.modEng e f).recl = s.recl := rfl
@[simp] theorem State.modEng_mc : (s.modEng e f).mc = s.mc := rfl
@[simp] theorem State.modEng_ports : (s.modEng e f).ports = s.ports := rfl
@[simp] theorem State.rd_modEng (at_ : Nat) : (s.modEng e f).rd at_ = s.rd at_ := rfl
@[simp] theorem State.rdN_modEng (at_ : Nat) : (s.modEng e f).rdN at_ = s.rdN at_ := rfl
@[simp] theorem State.get_modEng (x : Fld) : (s.modEng e f).get x = s.get x := rfl
@[simp] theorem State.flag_modEng (x : Fld) : (s.modEng e f).flag x = s.flag x := rfl
end

section
variable (s : State) (l : Nat) (f : CondLane → CondLane)
@[simp] theorem State.modCln_pending : (s.modCln l f).pending = s.pending := rfl
@[simp] theorem State.modCln_regs : (s.modCln l f).regs = s.regs := rfl
@[simp] theorem State.modCln_freeIdx : (s.modCln l f).freeIdx = s.freeIdx := rfl
@[simp] theorem State.modCln_out : (s.modCln l f).out = s.out := rfl
@[simp] theorem State.modCln_log : (s.modCln l f).log = s.log := rfl
@[simp] theorem State.modCln_tb : (s.modCln l f).tb = s.tb := rfl
@[simp] theorem State.modCln_droop : (s.modCln l f).droop = s.droop := rfl
@[simp] theorem State.modCln_power : (s.modCln l f).power = s.power := rfl
@[simp] theorem State.modCln_evt : (s.modCln l f).evt = s.evt := rfl
@[simp] theorem State.modCln_sill : (s.modCln l f).sill = s.sill := rfl
@[simp] theorem State.modCln_cfg : (s.modCln l f).cfg = s.cfg := rfl
@[simp] theorem State.modCln_pos : (s.modCln l f).pos = s.pos := rfl
@[simp] theorem State.modCln_seqs : (s.modCln l f).seqs = s.seqs := rfl
@[simp] theorem State.modCln_trigs : (s.modCln l f).trigs = s.trigs := rfl
@[simp] theorem State.modCln_pulses : (s.modCln l f).pulses = s.pulses := rfl
@[simp] theorem State.modCln_ledger : (s.modCln l f).ledger = s.ledger := rfl
@[simp] theorem State.modCln_phy : (s.modCln l f).phy = s.phy := rfl
@[simp] theorem State.modCln_tenon : (s.modCln l f).tenon = s.tenon := rfl
@[simp] theorem State.modCln_bay : (s.modCln l f).bay = s.bay := rfl
@[simp] theorem State.modCln_ddr : (s.modCln l f).ddr = s.ddr := rfl
@[simp] theorem State.modCln_eth : (s.modCln l f).eth = s.eth := rfl
@[simp] theorem State.modCln_cond : (s.modCln l f).cond = cset (fun _ => CondLane.reset) s.cond l (f (s.cln l)) := rfl
@[simp] theorem State.modCln_scarf : (s.modCln l f).scarf = s.scarf := rfl
@[simp] theorem State.modCln_kerf : (s.modCln l f).kerf = s.kerf := rfl
@[simp] theorem State.modCln_eng : (s.modCln l f).eng = s.eng := rfl
@[simp] theorem State.modCln_imem : (s.modCln l f).imem = s.imem := rfl
@[simp] theorem State.modCln_dmem : (s.modCln l f).dmem = s.dmem := rfl
@[simp] theorem State.modCln_pushes : (s.modCln l f).pushes = s.pushes := rfl
@[simp] theorem State.modCln_dma : (s.modCln l f).dma = s.dma := rfl
@[simp] theorem State.modCln_dram : (s.modCln l f).dram = s.dram := rfl
@[simp] theorem State.modCln_arb : (s.modCln l f).arb = s.arb := rfl
@[simp] theorem State.modCln_dlv : (s.modCln l f).dlv = s.dlv := rfl
@[simp] theorem State.modCln_dlvNext : (s.modCln l f).dlvNext = s.dlvNext := rfl
@[simp] theorem State.modCln_streams : (s.modCln l f).streams = s.streams := rfl
@[simp] theorem State.modCln_rings : (s.modCln l f).rings = s.rings := rfl
@[simp] theorem State.modCln_recl : (s.modCln l f).recl = s.recl := rfl
@[simp] theorem State.modCln_mc : (s.modCln l f).mc = s.mc := rfl
@[simp] theorem State.modCln_ports : (s.modCln l f).ports = s.ports := rfl
@[simp] theorem State.rd_modCln (at_ : Nat) : (s.modCln l f).rd at_ = s.rd at_ := rfl
@[simp] theorem State.rdN_modCln (at_ : Nat) : (s.modCln l f).rdN at_ = s.rdN at_ := rfl
@[simp] theorem State.get_modCln (x : Fld) : (s.modCln l f).get x = s.get x := rfl
@[simp] theorem State.flag_modCln (x : Fld) : (s.modCln l f).flag x = s.flag x := rfl
end

section
variable (s : State) (c : Nat) (f : PosChan → PosChan)
@[simp] theorem State.modPch_pending : (s.modPch c f).pending = s.pending := rfl
@[simp] theorem State.modPch_regs : (s.modPch c f).regs = s.regs := rfl
@[simp] theorem State.modPch_freeIdx : (s.modPch c f).freeIdx = s.freeIdx := rfl
@[simp] theorem State.modPch_out : (s.modPch c f).out = s.out := rfl
@[simp] theorem State.modPch_log : (s.modPch c f).log = s.log := rfl
@[simp] theorem State.modPch_tb : (s.modPch c f).tb = s.tb := rfl
@[simp] theorem State.modPch_droop : (s.modPch c f).droop = s.droop := rfl
@[simp] theorem State.modPch_power : (s.modPch c f).power = s.power := rfl
@[simp] theorem State.modPch_evt : (s.modPch c f).evt = s.evt := rfl
@[simp] theorem State.modPch_sill : (s.modPch c f).sill = s.sill := rfl
@[simp] theorem State.modPch_cfg : (s.modPch c f).cfg = s.cfg := rfl
@[simp] theorem State.modPch_pos : (s.modPch c f).pos = cset (fun _ => PosChan.reset) s.pos c (f (s.pch c)) := rfl
@[simp] theorem State.modPch_seqs : (s.modPch c f).seqs = s.seqs := rfl
@[simp] theorem State.modPch_trigs : (s.modPch c f).trigs = s.trigs := rfl
@[simp] theorem State.modPch_pulses : (s.modPch c f).pulses = s.pulses := rfl
@[simp] theorem State.modPch_ledger : (s.modPch c f).ledger = s.ledger := rfl
@[simp] theorem State.modPch_phy : (s.modPch c f).phy = s.phy := rfl
@[simp] theorem State.modPch_tenon : (s.modPch c f).tenon = s.tenon := rfl
@[simp] theorem State.modPch_bay : (s.modPch c f).bay = s.bay := rfl
@[simp] theorem State.modPch_ddr : (s.modPch c f).ddr = s.ddr := rfl
@[simp] theorem State.modPch_eth : (s.modPch c f).eth = s.eth := rfl
@[simp] theorem State.modPch_cond : (s.modPch c f).cond = s.cond := rfl
@[simp] theorem State.modPch_scarf : (s.modPch c f).scarf = s.scarf := rfl
@[simp] theorem State.modPch_kerf : (s.modPch c f).kerf = s.kerf := rfl
@[simp] theorem State.modPch_eng : (s.modPch c f).eng = s.eng := rfl
@[simp] theorem State.modPch_imem : (s.modPch c f).imem = s.imem := rfl
@[simp] theorem State.modPch_dmem : (s.modPch c f).dmem = s.dmem := rfl
@[simp] theorem State.modPch_pushes : (s.modPch c f).pushes = s.pushes := rfl
@[simp] theorem State.modPch_dma : (s.modPch c f).dma = s.dma := rfl
@[simp] theorem State.modPch_dram : (s.modPch c f).dram = s.dram := rfl
@[simp] theorem State.modPch_arb : (s.modPch c f).arb = s.arb := rfl
@[simp] theorem State.modPch_dlv : (s.modPch c f).dlv = s.dlv := rfl
@[simp] theorem State.modPch_dlvNext : (s.modPch c f).dlvNext = s.dlvNext := rfl
@[simp] theorem State.modPch_streams : (s.modPch c f).streams = s.streams := rfl
@[simp] theorem State.modPch_rings : (s.modPch c f).rings = s.rings := rfl
@[simp] theorem State.modPch_recl : (s.modPch c f).recl = s.recl := rfl
@[simp] theorem State.modPch_mc : (s.modPch c f).mc = s.mc := rfl
@[simp] theorem State.modPch_ports : (s.modPch c f).ports = s.ports := rfl
@[simp] theorem State.rd_modPch (at_ : Nat) : (s.modPch c f).rd at_ = s.rd at_ := rfl
@[simp] theorem State.rdN_modPch (at_ : Nat) : (s.modPch c f).rdN at_ = s.rdN at_ := rfl
@[simp] theorem State.get_modPch (x : Fld) : (s.modPch c f).get x = s.get x := rfl
@[simp] theorem State.flag_modPch (x : Fld) : (s.modPch c f).flag x = s.flag x := rfl
end

section
variable (s : State) (q : Nat) (f : Seq → Seq)
@[simp] theorem State.modSq_pending : (s.modSq q f).pending = s.pending := rfl
@[simp] theorem State.modSq_regs : (s.modSq q f).regs = s.regs := rfl
@[simp] theorem State.modSq_freeIdx : (s.modSq q f).freeIdx = s.freeIdx := rfl
@[simp] theorem State.modSq_out : (s.modSq q f).out = s.out := rfl
@[simp] theorem State.modSq_log : (s.modSq q f).log = s.log := rfl
@[simp] theorem State.modSq_tb : (s.modSq q f).tb = s.tb := rfl
@[simp] theorem State.modSq_droop : (s.modSq q f).droop = s.droop := rfl
@[simp] theorem State.modSq_power : (s.modSq q f).power = s.power := rfl
@[simp] theorem State.modSq_evt : (s.modSq q f).evt = s.evt := rfl
@[simp] theorem State.modSq_sill : (s.modSq q f).sill = s.sill := rfl
@[simp] theorem State.modSq_cfg : (s.modSq q f).cfg = s.cfg := rfl
@[simp] theorem State.modSq_pos : (s.modSq q f).pos = s.pos := rfl
@[simp] theorem State.modSq_seqs : (s.modSq q f).seqs = cset (fun _ => Seq.reset) s.seqs q (f (s.sq q)) := rfl
@[simp] theorem State.modSq_trigs : (s.modSq q f).trigs = s.trigs := rfl
@[simp] theorem State.modSq_pulses : (s.modSq q f).pulses = s.pulses := rfl
@[simp] theorem State.modSq_ledger : (s.modSq q f).ledger = s.ledger := rfl
@[simp] theorem State.modSq_phy : (s.modSq q f).phy = s.phy := rfl
@[simp] theorem State.modSq_tenon : (s.modSq q f).tenon = s.tenon := rfl
@[simp] theorem State.modSq_bay : (s.modSq q f).bay = s.bay := rfl
@[simp] theorem State.modSq_ddr : (s.modSq q f).ddr = s.ddr := rfl
@[simp] theorem State.modSq_eth : (s.modSq q f).eth = s.eth := rfl
@[simp] theorem State.modSq_cond : (s.modSq q f).cond = s.cond := rfl
@[simp] theorem State.modSq_scarf : (s.modSq q f).scarf = s.scarf := rfl
@[simp] theorem State.modSq_kerf : (s.modSq q f).kerf = s.kerf := rfl
@[simp] theorem State.modSq_eng : (s.modSq q f).eng = s.eng := rfl
@[simp] theorem State.modSq_imem : (s.modSq q f).imem = s.imem := rfl
@[simp] theorem State.modSq_dmem : (s.modSq q f).dmem = s.dmem := rfl
@[simp] theorem State.modSq_pushes : (s.modSq q f).pushes = s.pushes := rfl
@[simp] theorem State.modSq_dma : (s.modSq q f).dma = s.dma := rfl
@[simp] theorem State.modSq_dram : (s.modSq q f).dram = s.dram := rfl
@[simp] theorem State.modSq_arb : (s.modSq q f).arb = s.arb := rfl
@[simp] theorem State.modSq_dlv : (s.modSq q f).dlv = s.dlv := rfl
@[simp] theorem State.modSq_dlvNext : (s.modSq q f).dlvNext = s.dlvNext := rfl
@[simp] theorem State.modSq_streams : (s.modSq q f).streams = s.streams := rfl
@[simp] theorem State.modSq_rings : (s.modSq q f).rings = s.rings := rfl
@[simp] theorem State.modSq_recl : (s.modSq q f).recl = s.recl := rfl
@[simp] theorem State.modSq_mc : (s.modSq q f).mc = s.mc := rfl
@[simp] theorem State.modSq_ports : (s.modSq q f).ports = s.ports := rfl
@[simp] theorem State.rd_modSq (at_ : Nat) : (s.modSq q f).rd at_ = s.rd at_ := rfl
@[simp] theorem State.rdN_modSq (at_ : Nat) : (s.modSq q f).rdN at_ = s.rdN at_ := rfl
@[simp] theorem State.get_modSq (x : Fld) : (s.modSq q f).get x = s.get x := rfl
@[simp] theorem State.flag_modSq (x : Fld) : (s.modSq q f).flag x = s.flag x := rfl
end

section
variable (s : State) (g : Nat) (p : PulseEnd)
@[simp] theorem State.setPulseEnd_pending : (s.setPulseEnd g p).pending = s.pending := rfl
@[simp] theorem State.setPulseEnd_regs : (s.setPulseEnd g p).regs = s.regs := rfl
@[simp] theorem State.setPulseEnd_freeIdx : (s.setPulseEnd g p).freeIdx = s.freeIdx := rfl
@[simp] theorem State.setPulseEnd_out : (s.setPulseEnd g p).out = s.out := rfl
@[simp] theorem State.setPulseEnd_log : (s.setPulseEnd g p).log = s.log := rfl
@[simp] theorem State.setPulseEnd_tb : (s.setPulseEnd g p).tb = s.tb := rfl
@[simp] theorem State.setPulseEnd_droop : (s.setPulseEnd g p).droop = s.droop := rfl
@[simp] theorem State.setPulseEnd_power : (s.setPulseEnd g p).power = s.power := rfl
@[simp] theorem State.setPulseEnd_evt : (s.setPulseEnd g p).evt = s.evt := rfl
@[simp] theorem State.setPulseEnd_sill : (s.setPulseEnd g p).sill = s.sill := rfl
@[simp] theorem State.setPulseEnd_cfg : (s.setPulseEnd g p).cfg = s.cfg := rfl
@[simp] theorem State.setPulseEnd_pos : (s.setPulseEnd g p).pos = s.pos := rfl
@[simp] theorem State.setPulseEnd_seqs : (s.setPulseEnd g p).seqs = s.seqs := rfl
@[simp] theorem State.setPulseEnd_trigs : (s.setPulseEnd g p).trigs = s.trigs := rfl
@[simp] theorem State.setPulseEnd_pulses : (s.setPulseEnd g p).pulses = cset (fun _ => none) s.pulses g p := rfl
@[simp] theorem State.setPulseEnd_ledger : (s.setPulseEnd g p).ledger = s.ledger := rfl
@[simp] theorem State.setPulseEnd_phy : (s.setPulseEnd g p).phy = s.phy := rfl
@[simp] theorem State.setPulseEnd_tenon : (s.setPulseEnd g p).tenon = s.tenon := rfl
@[simp] theorem State.setPulseEnd_bay : (s.setPulseEnd g p).bay = s.bay := rfl
@[simp] theorem State.setPulseEnd_ddr : (s.setPulseEnd g p).ddr = s.ddr := rfl
@[simp] theorem State.setPulseEnd_eth : (s.setPulseEnd g p).eth = s.eth := rfl
@[simp] theorem State.setPulseEnd_cond : (s.setPulseEnd g p).cond = s.cond := rfl
@[simp] theorem State.setPulseEnd_scarf : (s.setPulseEnd g p).scarf = s.scarf := rfl
@[simp] theorem State.setPulseEnd_kerf : (s.setPulseEnd g p).kerf = s.kerf := rfl
@[simp] theorem State.setPulseEnd_eng : (s.setPulseEnd g p).eng = s.eng := rfl
@[simp] theorem State.setPulseEnd_imem : (s.setPulseEnd g p).imem = s.imem := rfl
@[simp] theorem State.setPulseEnd_dmem : (s.setPulseEnd g p).dmem = s.dmem := rfl
@[simp] theorem State.setPulseEnd_pushes : (s.setPulseEnd g p).pushes = s.pushes := rfl
@[simp] theorem State.setPulseEnd_dma : (s.setPulseEnd g p).dma = s.dma := rfl
@[simp] theorem State.setPulseEnd_dram : (s.setPulseEnd g p).dram = s.dram := rfl
@[simp] theorem State.setPulseEnd_arb : (s.setPulseEnd g p).arb = s.arb := rfl
@[simp] theorem State.setPulseEnd_dlv : (s.setPulseEnd g p).dlv = s.dlv := rfl
@[simp] theorem State.setPulseEnd_dlvNext : (s.setPulseEnd g p).dlvNext = s.dlvNext := rfl
@[simp] theorem State.setPulseEnd_streams : (s.setPulseEnd g p).streams = s.streams := rfl
@[simp] theorem State.setPulseEnd_rings : (s.setPulseEnd g p).rings = s.rings := rfl
@[simp] theorem State.setPulseEnd_recl : (s.setPulseEnd g p).recl = s.recl := rfl
@[simp] theorem State.setPulseEnd_mc : (s.setPulseEnd g p).mc = s.mc := rfl
@[simp] theorem State.setPulseEnd_ports : (s.setPulseEnd g p).ports = s.ports := rfl
@[simp] theorem State.rd_setPulseEnd (at_ : Nat) : (s.setPulseEnd g p).rd at_ = s.rd at_ := rfl
@[simp] theorem State.rdN_setPulseEnd (at_ : Nat) : (s.setPulseEnd g p).rdN at_ = s.rdN at_ := rfl
@[simp] theorem State.get_setPulseEnd (x : Fld) : (s.setPulseEnd g p).get x = s.get x := rfl
@[simp] theorem State.flag_setPulseEnd (x : Fld) : (s.setPulseEnd g p).flag x = s.flag x := rfl
end

section
variable (s : State) (o : Nat) (v : Word)
@[simp] theorem State.wr_pending : (s.wr o v).pending = s.pending := rfl
@[simp] theorem State.wr_regs : (s.wr o v).regs = cset regDefault s.regs o v := rfl
@[simp] theorem State.wr_freeIdx : (s.wr o v).freeIdx = s.freeIdx := rfl
@[simp] theorem State.wr_out : (s.wr o v).out = s.out := rfl
@[simp] theorem State.wr_log : (s.wr o v).log = s.log := rfl
@[simp] theorem State.wr_tb : (s.wr o v).tb = s.tb := rfl
@[simp] theorem State.wr_droop : (s.wr o v).droop = s.droop := rfl
@[simp] theorem State.wr_power : (s.wr o v).power = s.power := rfl
@[simp] theorem State.wr_evt : (s.wr o v).evt = s.evt := rfl
@[simp] theorem State.wr_sill : (s.wr o v).sill = s.sill := rfl
@[simp] theorem State.wr_cfg : (s.wr o v).cfg = s.cfg := rfl
@[simp] theorem State.wr_pos : (s.wr o v).pos = s.pos := rfl
@[simp] theorem State.wr_seqs : (s.wr o v).seqs = s.seqs := rfl
@[simp] theorem State.wr_trigs : (s.wr o v).trigs = s.trigs := rfl
@[simp] theorem State.wr_pulses : (s.wr o v).pulses = s.pulses := rfl
@[simp] theorem State.wr_ledger : (s.wr o v).ledger = s.ledger := rfl
@[simp] theorem State.wr_phy : (s.wr o v).phy = s.phy := rfl
@[simp] theorem State.wr_tenon : (s.wr o v).tenon = s.tenon := rfl
@[simp] theorem State.wr_bay : (s.wr o v).bay = s.bay := rfl
@[simp] theorem State.wr_ddr : (s.wr o v).ddr = s.ddr := rfl
@[simp] theorem State.wr_eth : (s.wr o v).eth = s.eth := rfl
@[simp] theorem State.wr_cond : (s.wr o v).cond = s.cond := rfl
@[simp] theorem State.wr_scarf : (s.wr o v).scarf = s.scarf := rfl
@[simp] theorem State.wr_kerf : (s.wr o v).kerf = s.kerf := rfl
@[simp] theorem State.wr_eng : (s.wr o v).eng = s.eng := rfl
@[simp] theorem State.wr_imem : (s.wr o v).imem = s.imem := rfl
@[simp] theorem State.wr_dmem : (s.wr o v).dmem = s.dmem := rfl
@[simp] theorem State.wr_pushes : (s.wr o v).pushes = s.pushes := rfl
@[simp] theorem State.wr_dma : (s.wr o v).dma = s.dma := rfl
@[simp] theorem State.wr_dram : (s.wr o v).dram = s.dram := rfl
@[simp] theorem State.wr_arb : (s.wr o v).arb = s.arb := rfl
@[simp] theorem State.wr_dlv : (s.wr o v).dlv = s.dlv := rfl
@[simp] theorem State.wr_dlvNext : (s.wr o v).dlvNext = s.dlvNext := rfl
@[simp] theorem State.wr_streams : (s.wr o v).streams = s.streams := rfl
@[simp] theorem State.wr_rings : (s.wr o v).rings = s.rings := rfl
@[simp] theorem State.wr_recl : (s.wr o v).recl = s.recl := rfl
@[simp] theorem State.wr_mc : (s.wr o v).mc = s.mc := rfl
@[simp] theorem State.wr_ports : (s.wr o v).ports = s.ports := rfl
end

section
variable (s : State) (o : Out)
@[simp] theorem State.emit_pending : (s.emit o).pending = s.pending := rfl
@[simp] theorem State.emit_regs : (s.emit o).regs = s.regs := rfl
@[simp] theorem State.emit_freeIdx : (s.emit o).freeIdx = s.freeIdx := rfl
@[simp] theorem State.emit_out : (s.emit o).out = s.out ++ [o] := rfl
@[simp] theorem State.emit_log : (s.emit o).log = s.log := rfl
@[simp] theorem State.emit_tb : (s.emit o).tb = s.tb := rfl
@[simp] theorem State.emit_droop : (s.emit o).droop = s.droop := rfl
@[simp] theorem State.emit_power : (s.emit o).power = s.power := rfl
@[simp] theorem State.emit_evt : (s.emit o).evt = s.evt := rfl
@[simp] theorem State.emit_sill : (s.emit o).sill = s.sill := rfl
@[simp] theorem State.emit_cfg : (s.emit o).cfg = s.cfg := rfl
@[simp] theorem State.emit_pos : (s.emit o).pos = s.pos := rfl
@[simp] theorem State.emit_seqs : (s.emit o).seqs = s.seqs := rfl
@[simp] theorem State.emit_trigs : (s.emit o).trigs = s.trigs := rfl
@[simp] theorem State.emit_pulses : (s.emit o).pulses = s.pulses := rfl
@[simp] theorem State.emit_ledger : (s.emit o).ledger = s.ledger := rfl
@[simp] theorem State.emit_phy : (s.emit o).phy = s.phy := rfl
@[simp] theorem State.emit_tenon : (s.emit o).tenon = s.tenon := rfl
@[simp] theorem State.emit_bay : (s.emit o).bay = s.bay := rfl
@[simp] theorem State.emit_ddr : (s.emit o).ddr = s.ddr := rfl
@[simp] theorem State.emit_eth : (s.emit o).eth = s.eth := rfl
@[simp] theorem State.emit_cond : (s.emit o).cond = s.cond := rfl
@[simp] theorem State.emit_scarf : (s.emit o).scarf = s.scarf := rfl
@[simp] theorem State.emit_kerf : (s.emit o).kerf = s.kerf := rfl
@[simp] theorem State.emit_eng : (s.emit o).eng = s.eng := rfl
@[simp] theorem State.emit_imem : (s.emit o).imem = s.imem := rfl
@[simp] theorem State.emit_dmem : (s.emit o).dmem = s.dmem := rfl
@[simp] theorem State.emit_pushes : (s.emit o).pushes = s.pushes := rfl
@[simp] theorem State.emit_dma : (s.emit o).dma = s.dma := rfl
@[simp] theorem State.emit_dram : (s.emit o).dram = s.dram := rfl
@[simp] theorem State.emit_arb : (s.emit o).arb = s.arb := rfl
@[simp] theorem State.emit_dlv : (s.emit o).dlv = s.dlv := rfl
@[simp] theorem State.emit_dlvNext : (s.emit o).dlvNext = s.dlvNext := rfl
@[simp] theorem State.emit_streams : (s.emit o).streams = s.streams := rfl
@[simp] theorem State.emit_rings : (s.emit o).rings = s.rings := rfl
@[simp] theorem State.emit_recl : (s.emit o).recl = s.recl := rfl
@[simp] theorem State.emit_mc : (s.emit o).mc = s.mc := rfl
@[simp] theorem State.emit_ports : (s.emit o).ports = s.ports := rfl
@[simp] theorem State.rd_emit (at_ : Nat) : (s.emit o).rd at_ = s.rd at_ := rfl
@[simp] theorem State.rdN_emit (at_ : Nat) : (s.emit o).rdN at_ = s.rdN at_ := rfl
@[simp] theorem State.get_emit (x : Fld) : (s.emit o).get x = s.get x := rfl
@[simp] theorem State.flag_emit (x : Fld) : (s.emit o).flag x = s.flag x := rfl
end

section
variable (s : State) (f : List Trigger → List Trigger)
@[simp] theorem State.modTrigs_pending : (s.modTrigs f).pending = s.pending := rfl
@[simp] theorem State.modTrigs_regs : (s.modTrigs f).regs = s.regs := rfl
@[simp] theorem State.modTrigs_freeIdx : (s.modTrigs f).freeIdx = s.freeIdx := rfl
@[simp] theorem State.modTrigs_out : (s.modTrigs f).out = s.out := rfl
@[simp] theorem State.modTrigs_log : (s.modTrigs f).log = s.log := rfl
@[simp] theorem State.modTrigs_tb : (s.modTrigs f).tb = s.tb := rfl
@[simp] theorem State.modTrigs_droop : (s.modTrigs f).droop = s.droop := rfl
@[simp] theorem State.modTrigs_power : (s.modTrigs f).power = s.power := rfl
@[simp] theorem State.modTrigs_evt : (s.modTrigs f).evt = s.evt := rfl
@[simp] theorem State.modTrigs_sill : (s.modTrigs f).sill = s.sill := rfl
@[simp] theorem State.modTrigs_cfg : (s.modTrigs f).cfg = s.cfg := rfl
@[simp] theorem State.modTrigs_pos : (s.modTrigs f).pos = s.pos := rfl
@[simp] theorem State.modTrigs_seqs : (s.modTrigs f).seqs = s.seqs := rfl
@[simp] theorem State.modTrigs_trigs : (s.modTrigs f).trigs = f s.trigs := rfl
@[simp] theorem State.modTrigs_pulses : (s.modTrigs f).pulses = s.pulses := rfl
@[simp] theorem State.modTrigs_ledger : (s.modTrigs f).ledger = s.ledger := rfl
@[simp] theorem State.modTrigs_phy : (s.modTrigs f).phy = s.phy := rfl
@[simp] theorem State.modTrigs_tenon : (s.modTrigs f).tenon = s.tenon := rfl
@[simp] theorem State.modTrigs_bay : (s.modTrigs f).bay = s.bay := rfl
@[simp] theorem State.modTrigs_ddr : (s.modTrigs f).ddr = s.ddr := rfl
@[simp] theorem State.modTrigs_eth : (s.modTrigs f).eth = s.eth := rfl
@[simp] theorem State.modTrigs_cond : (s.modTrigs f).cond = s.cond := rfl
@[simp] theorem State.modTrigs_scarf : (s.modTrigs f).scarf = s.scarf := rfl
@[simp] theorem State.modTrigs_kerf : (s.modTrigs f).kerf = s.kerf := rfl
@[simp] theorem State.modTrigs_eng : (s.modTrigs f).eng = s.eng := rfl
@[simp] theorem State.modTrigs_imem : (s.modTrigs f).imem = s.imem := rfl
@[simp] theorem State.modTrigs_dmem : (s.modTrigs f).dmem = s.dmem := rfl
@[simp] theorem State.modTrigs_pushes : (s.modTrigs f).pushes = s.pushes := rfl
@[simp] theorem State.modTrigs_dma : (s.modTrigs f).dma = s.dma := rfl
@[simp] theorem State.modTrigs_dram : (s.modTrigs f).dram = s.dram := rfl
@[simp] theorem State.modTrigs_arb : (s.modTrigs f).arb = s.arb := rfl
@[simp] theorem State.modTrigs_dlv : (s.modTrigs f).dlv = s.dlv := rfl
@[simp] theorem State.modTrigs_dlvNext : (s.modTrigs f).dlvNext = s.dlvNext := rfl
@[simp] theorem State.modTrigs_streams : (s.modTrigs f).streams = s.streams := rfl
@[simp] theorem State.modTrigs_rings : (s.modTrigs f).rings = s.rings := rfl
@[simp] theorem State.modTrigs_recl : (s.modTrigs f).recl = s.recl := rfl
@[simp] theorem State.modTrigs_mc : (s.modTrigs f).mc = s.mc := rfl
@[simp] theorem State.modTrigs_ports : (s.modTrigs f).ports = s.ports := rfl
@[simp] theorem State.rd_modTrigs (at_ : Nat) : (s.modTrigs f).rd at_ = s.rd at_ := rfl
@[simp] theorem State.rdN_modTrigs (at_ : Nat) : (s.modTrigs f).rdN at_ = s.rdN at_ := rfl
@[simp] theorem State.get_modTrigs (x : Fld) : (s.modTrigs f).get x = s.get x := rfl
@[simp] theorem State.flag_modTrigs (x : Fld) : (s.modTrigs f).flag x = s.flag x := rfl
end

section
variable (s : State) (f : Power → Power)
@[simp] theorem State.modPower_pending : (s.modPower f).pending = s.pending := rfl
@[simp] theorem State.modPower_regs : (s.modPower f).regs = s.regs := rfl
@[simp] theorem State.modPower_freeIdx : (s.modPower f).freeIdx = s.freeIdx := rfl
@[simp] theorem State.modPower_out : (s.modPower f).out = s.out := rfl
@[simp] theorem State.modPower_log : (s.modPower f).log = s.log := rfl
@[simp] theorem State.modPower_tb : (s.modPower f).tb = s.tb := rfl
@[simp] theorem State.modPower_droop : (s.modPower f).droop = s.droop := rfl
@[simp] theorem State.modPower_power : (s.modPower f).power = f s.power := rfl
@[simp] theorem State.modPower_evt : (s.modPower f).evt = s.evt := rfl
@[simp] theorem State.modPower_sill : (s.modPower f).sill = s.sill := rfl
@[simp] theorem State.modPower_cfg : (s.modPower f).cfg = s.cfg := rfl
@[simp] theorem State.modPower_pos : (s.modPower f).pos = s.pos := rfl
@[simp] theorem State.modPower_seqs : (s.modPower f).seqs = s.seqs := rfl
@[simp] theorem State.modPower_trigs : (s.modPower f).trigs = s.trigs := rfl
@[simp] theorem State.modPower_pulses : (s.modPower f).pulses = s.pulses := rfl
@[simp] theorem State.modPower_ledger : (s.modPower f).ledger = s.ledger := rfl
@[simp] theorem State.modPower_phy : (s.modPower f).phy = s.phy := rfl
@[simp] theorem State.modPower_tenon : (s.modPower f).tenon = s.tenon := rfl
@[simp] theorem State.modPower_bay : (s.modPower f).bay = s.bay := rfl
@[simp] theorem State.modPower_ddr : (s.modPower f).ddr = s.ddr := rfl
@[simp] theorem State.modPower_eth : (s.modPower f).eth = s.eth := rfl
@[simp] theorem State.modPower_cond : (s.modPower f).cond = s.cond := rfl
@[simp] theorem State.modPower_scarf : (s.modPower f).scarf = s.scarf := rfl
@[simp] theorem State.modPower_kerf : (s.modPower f).kerf = s.kerf := rfl
@[simp] theorem State.modPower_eng : (s.modPower f).eng = s.eng := rfl
@[simp] theorem State.modPower_imem : (s.modPower f).imem = s.imem := rfl
@[simp] theorem State.modPower_dmem : (s.modPower f).dmem = s.dmem := rfl
@[simp] theorem State.modPower_pushes : (s.modPower f).pushes = s.pushes := rfl
@[simp] theorem State.modPower_dma : (s.modPower f).dma = s.dma := rfl
@[simp] theorem State.modPower_dram : (s.modPower f).dram = s.dram := rfl
@[simp] theorem State.modPower_arb : (s.modPower f).arb = s.arb := rfl
@[simp] theorem State.modPower_dlv : (s.modPower f).dlv = s.dlv := rfl
@[simp] theorem State.modPower_dlvNext : (s.modPower f).dlvNext = s.dlvNext := rfl
@[simp] theorem State.modPower_streams : (s.modPower f).streams = s.streams := rfl
@[simp] theorem State.modPower_rings : (s.modPower f).rings = s.rings := rfl
@[simp] theorem State.modPower_recl : (s.modPower f).recl = s.recl := rfl
@[simp] theorem State.modPower_mc : (s.modPower f).mc = s.mc := rfl
@[simp] theorem State.modPower_ports : (s.modPower f).ports = s.ports := rfl
@[simp] theorem State.rd_modPower (at_ : Nat) : (s.modPower f).rd at_ = s.rd at_ := rfl
@[simp] theorem State.rdN_modPower (at_ : Nat) : (s.modPower f).rdN at_ = s.rdN at_ := rfl
@[simp] theorem State.get_modPower (x : Fld) : (s.modPower f).get x = s.get x := rfl
@[simp] theorem State.flag_modPower (x : Fld) : (s.modPower f).flag x = s.flag x := rfl
end

section
variable (s : State) (f : Log → Log)
@[simp] theorem State.modLog_pending : (s.modLog f).pending = s.pending := rfl
@[simp] theorem State.modLog_regs : (s.modLog f).regs = s.regs := rfl
@[simp] theorem State.modLog_freeIdx : (s.modLog f).freeIdx = s.freeIdx := rfl
@[simp] theorem State.modLog_out : (s.modLog f).out = s.out := rfl
@[simp] theorem State.modLog_log : (s.modLog f).log = f s.log := rfl
@[simp] theorem State.modLog_tb : (s.modLog f).tb = s.tb := rfl
@[simp] theorem State.modLog_droop : (s.modLog f).droop = s.droop := rfl
@[simp] theorem State.modLog_power : (s.modLog f).power = s.power := rfl
@[simp] theorem State.modLog_evt : (s.modLog f).evt = s.evt := rfl
@[simp] theorem State.modLog_sill : (s.modLog f).sill = s.sill := rfl
@[simp] theorem State.modLog_cfg : (s.modLog f).cfg = s.cfg := rfl
@[simp] theorem State.modLog_pos : (s.modLog f).pos = s.pos := rfl
@[simp] theorem State.modLog_seqs : (s.modLog f).seqs = s.seqs := rfl
@[simp] theorem State.modLog_trigs : (s.modLog f).trigs = s.trigs := rfl
@[simp] theorem State.modLog_pulses : (s.modLog f).pulses = s.pulses := rfl
@[simp] theorem State.modLog_ledger : (s.modLog f).ledger = s.ledger := rfl
@[simp] theorem State.modLog_phy : (s.modLog f).phy = s.phy := rfl
@[simp] theorem State.modLog_tenon : (s.modLog f).tenon = s.tenon := rfl
@[simp] theorem State.modLog_bay : (s.modLog f).bay = s.bay := rfl
@[simp] theorem State.modLog_ddr : (s.modLog f).ddr = s.ddr := rfl
@[simp] theorem State.modLog_eth : (s.modLog f).eth = s.eth := rfl
@[simp] theorem State.modLog_cond : (s.modLog f).cond = s.cond := rfl
@[simp] theorem State.modLog_scarf : (s.modLog f).scarf = s.scarf := rfl
@[simp] theorem State.modLog_kerf : (s.modLog f).kerf = s.kerf := rfl
@[simp] theorem State.modLog_eng : (s.modLog f).eng = s.eng := rfl
@[simp] theorem State.modLog_imem : (s.modLog f).imem = s.imem := rfl
@[simp] theorem State.modLog_dmem : (s.modLog f).dmem = s.dmem := rfl
@[simp] theorem State.modLog_pushes : (s.modLog f).pushes = s.pushes := rfl
@[simp] theorem State.modLog_dma : (s.modLog f).dma = s.dma := rfl
@[simp] theorem State.modLog_dram : (s.modLog f).dram = s.dram := rfl
@[simp] theorem State.modLog_arb : (s.modLog f).arb = s.arb := rfl
@[simp] theorem State.modLog_dlv : (s.modLog f).dlv = s.dlv := rfl
@[simp] theorem State.modLog_dlvNext : (s.modLog f).dlvNext = s.dlvNext := rfl
@[simp] theorem State.modLog_streams : (s.modLog f).streams = s.streams := rfl
@[simp] theorem State.modLog_rings : (s.modLog f).rings = s.rings := rfl
@[simp] theorem State.modLog_recl : (s.modLog f).recl = s.recl := rfl
@[simp] theorem State.modLog_mc : (s.modLog f).mc = s.mc := rfl
@[simp] theorem State.modLog_ports : (s.modLog f).ports = s.ports := rfl
@[simp] theorem State.rd_modLog (at_ : Nat) : (s.modLog f).rd at_ = s.rd at_ := rfl
@[simp] theorem State.rdN_modLog (at_ : Nat) : (s.modLog f).rdN at_ = s.rdN at_ := rfl
@[simp] theorem State.get_modLog (x : Fld) : (s.modLog f).get x = s.get x := rfl
@[simp] theorem State.flag_modLog (x : Fld) : (s.modLog f).flag x = s.flag x := rfl
end

section
variable (s : State) (f : EvtState → EvtState)
@[simp] theorem State.modEvt_pending : (s.modEvt f).pending = s.pending := rfl
@[simp] theorem State.modEvt_regs : (s.modEvt f).regs = s.regs := rfl
@[simp] theorem State.modEvt_freeIdx : (s.modEvt f).freeIdx = s.freeIdx := rfl
@[simp] theorem State.modEvt_out : (s.modEvt f).out = s.out := rfl
@[simp] theorem State.modEvt_log : (s.modEvt f).log = s.log := rfl
@[simp] theorem State.modEvt_tb : (s.modEvt f).tb = s.tb := rfl
@[simp] theorem State.modEvt_droop : (s.modEvt f).droop = s.droop := rfl
@[simp] theorem State.modEvt_power : (s.modEvt f).power = s.power := rfl
@[simp] theorem State.modEvt_evt : (s.modEvt f).evt = f s.evt := rfl
@[simp] theorem State.modEvt_sill : (s.modEvt f).sill = s.sill := rfl
@[simp] theorem State.modEvt_cfg : (s.modEvt f).cfg = s.cfg := rfl
@[simp] theorem State.modEvt_pos : (s.modEvt f).pos = s.pos := rfl
@[simp] theorem State.modEvt_seqs : (s.modEvt f).seqs = s.seqs := rfl
@[simp] theorem State.modEvt_trigs : (s.modEvt f).trigs = s.trigs := rfl
@[simp] theorem State.modEvt_pulses : (s.modEvt f).pulses = s.pulses := rfl
@[simp] theorem State.modEvt_ledger : (s.modEvt f).ledger = s.ledger := rfl
@[simp] theorem State.modEvt_phy : (s.modEvt f).phy = s.phy := rfl
@[simp] theorem State.modEvt_tenon : (s.modEvt f).tenon = s.tenon := rfl
@[simp] theorem State.modEvt_bay : (s.modEvt f).bay = s.bay := rfl
@[simp] theorem State.modEvt_ddr : (s.modEvt f).ddr = s.ddr := rfl
@[simp] theorem State.modEvt_eth : (s.modEvt f).eth = s.eth := rfl
@[simp] theorem State.modEvt_cond : (s.modEvt f).cond = s.cond := rfl
@[simp] theorem State.modEvt_scarf : (s.modEvt f).scarf = s.scarf := rfl
@[simp] theorem State.modEvt_kerf : (s.modEvt f).kerf = s.kerf := rfl
@[simp] theorem State.modEvt_eng : (s.modEvt f).eng = s.eng := rfl
@[simp] theorem State.modEvt_imem : (s.modEvt f).imem = s.imem := rfl
@[simp] theorem State.modEvt_dmem : (s.modEvt f).dmem = s.dmem := rfl
@[simp] theorem State.modEvt_pushes : (s.modEvt f).pushes = s.pushes := rfl
@[simp] theorem State.modEvt_dma : (s.modEvt f).dma = s.dma := rfl
@[simp] theorem State.modEvt_dram : (s.modEvt f).dram = s.dram := rfl
@[simp] theorem State.modEvt_arb : (s.modEvt f).arb = s.arb := rfl
@[simp] theorem State.modEvt_dlv : (s.modEvt f).dlv = s.dlv := rfl
@[simp] theorem State.modEvt_dlvNext : (s.modEvt f).dlvNext = s.dlvNext := rfl
@[simp] theorem State.modEvt_streams : (s.modEvt f).streams = s.streams := rfl
@[simp] theorem State.modEvt_rings : (s.modEvt f).rings = s.rings := rfl
@[simp] theorem State.modEvt_recl : (s.modEvt f).recl = s.recl := rfl
@[simp] theorem State.modEvt_mc : (s.modEvt f).mc = s.mc := rfl
@[simp] theorem State.modEvt_ports : (s.modEvt f).ports = s.ports := rfl
@[simp] theorem State.rd_modEvt (at_ : Nat) : (s.modEvt f).rd at_ = s.rd at_ := rfl
@[simp] theorem State.rdN_modEvt (at_ : Nat) : (s.modEvt f).rdN at_ = s.rdN at_ := rfl
@[simp] theorem State.get_modEvt (x : Fld) : (s.modEvt f).get x = s.get x := rfl
@[simp] theorem State.flag_modEvt (x : Fld) : (s.modEvt f).flag x = s.flag x := rfl
end

section
variable (s : State) (f : Recall → Recall)
@[simp] theorem State.modRecl_pending : (s.modRecl f).pending = s.pending := rfl
@[simp] theorem State.modRecl_regs : (s.modRecl f).regs = s.regs := rfl
@[simp] theorem State.modRecl_freeIdx : (s.modRecl f).freeIdx = s.freeIdx := rfl
@[simp] theorem State.modRecl_out : (s.modRecl f).out = s.out := rfl
@[simp] theorem State.modRecl_log : (s.modRecl f).log = s.log := rfl
@[simp] theorem State.modRecl_tb : (s.modRecl f).tb = s.tb := rfl
@[simp] theorem State.modRecl_droop : (s.modRecl f).droop = s.droop := rfl
@[simp] theorem State.modRecl_power : (s.modRecl f).power = s.power := rfl
@[simp] theorem State.modRecl_evt : (s.modRecl f).evt = s.evt := rfl
@[simp] theorem State.modRecl_sill : (s.modRecl f).sill = s.sill := rfl
@[simp] theorem State.modRecl_cfg : (s.modRecl f).cfg = s.cfg := rfl
@[simp] theorem State.modRecl_pos : (s.modRecl f).pos = s.pos := rfl
@[simp] theorem State.modRecl_seqs : (s.modRecl f).seqs = s.seqs := rfl
@[simp] theorem State.modRecl_trigs : (s.modRecl f).trigs = s.trigs := rfl
@[simp] theorem State.modRecl_pulses : (s.modRecl f).pulses = s.pulses := rfl
@[simp] theorem State.modRecl_ledger : (s.modRecl f).ledger = s.ledger := rfl
@[simp] theorem State.modRecl_phy : (s.modRecl f).phy = s.phy := rfl
@[simp] theorem State.modRecl_tenon : (s.modRecl f).tenon = s.tenon := rfl
@[simp] theorem State.modRecl_bay : (s.modRecl f).bay = s.bay := rfl
@[simp] theorem State.modRecl_ddr : (s.modRecl f).ddr = s.ddr := rfl
@[simp] theorem State.modRecl_eth : (s.modRecl f).eth = s.eth := rfl
@[simp] theorem State.modRecl_cond : (s.modRecl f).cond = s.cond := rfl
@[simp] theorem State.modRecl_scarf : (s.modRecl f).scarf = s.scarf := rfl
@[simp] theorem State.modRecl_kerf : (s.modRecl f).kerf = s.kerf := rfl
@[simp] theorem State.modRecl_eng : (s.modRecl f).eng = s.eng := rfl
@[simp] theorem State.modRecl_imem : (s.modRecl f).imem = s.imem := rfl
@[simp] theorem State.modRecl_dmem : (s.modRecl f).dmem = s.dmem := rfl
@[simp] theorem State.modRecl_pushes : (s.modRecl f).pushes = s.pushes := rfl
@[simp] theorem State.modRecl_dma : (s.modRecl f).dma = s.dma := rfl
@[simp] theorem State.modRecl_dram : (s.modRecl f).dram = s.dram := rfl
@[simp] theorem State.modRecl_arb : (s.modRecl f).arb = s.arb := rfl
@[simp] theorem State.modRecl_dlv : (s.modRecl f).dlv = s.dlv := rfl
@[simp] theorem State.modRecl_dlvNext : (s.modRecl f).dlvNext = s.dlvNext := rfl
@[simp] theorem State.modRecl_streams : (s.modRecl f).streams = s.streams := rfl
@[simp] theorem State.modRecl_rings : (s.modRecl f).rings = s.rings := rfl
@[simp] theorem State.modRecl_recl : (s.modRecl f).recl = f s.recl := rfl
@[simp] theorem State.modRecl_mc : (s.modRecl f).mc = s.mc := rfl
@[simp] theorem State.modRecl_ports : (s.modRecl f).ports = s.ports := rfl
@[simp] theorem State.rd_modRecl (at_ : Nat) : (s.modRecl f).rd at_ = s.rd at_ := rfl
@[simp] theorem State.rdN_modRecl (at_ : Nat) : (s.modRecl f).rdN at_ = s.rdN at_ := rfl
@[simp] theorem State.get_modRecl (x : Fld) : (s.modRecl f).get x = s.get x := rfl
@[simp] theorem State.flag_modRecl (x : Fld) : (s.modRecl f).flag x = s.flag x := rfl
end

section
variable (s : State) (f : List Delivery → List Delivery)
@[simp] theorem State.modDlvs_pending : (s.modDlvs f).pending = s.pending := rfl
@[simp] theorem State.modDlvs_regs : (s.modDlvs f).regs = s.regs := rfl
@[simp] theorem State.modDlvs_freeIdx : (s.modDlvs f).freeIdx = s.freeIdx := rfl
@[simp] theorem State.modDlvs_out : (s.modDlvs f).out = s.out := rfl
@[simp] theorem State.modDlvs_log : (s.modDlvs f).log = s.log := rfl
@[simp] theorem State.modDlvs_tb : (s.modDlvs f).tb = s.tb := rfl
@[simp] theorem State.modDlvs_droop : (s.modDlvs f).droop = s.droop := rfl
@[simp] theorem State.modDlvs_power : (s.modDlvs f).power = s.power := rfl
@[simp] theorem State.modDlvs_evt : (s.modDlvs f).evt = s.evt := rfl
@[simp] theorem State.modDlvs_sill : (s.modDlvs f).sill = s.sill := rfl
@[simp] theorem State.modDlvs_cfg : (s.modDlvs f).cfg = s.cfg := rfl
@[simp] theorem State.modDlvs_pos : (s.modDlvs f).pos = s.pos := rfl
@[simp] theorem State.modDlvs_seqs : (s.modDlvs f).seqs = s.seqs := rfl
@[simp] theorem State.modDlvs_trigs : (s.modDlvs f).trigs = s.trigs := rfl
@[simp] theorem State.modDlvs_pulses : (s.modDlvs f).pulses = s.pulses := rfl
@[simp] theorem State.modDlvs_ledger : (s.modDlvs f).ledger = s.ledger := rfl
@[simp] theorem State.modDlvs_phy : (s.modDlvs f).phy = s.phy := rfl
@[simp] theorem State.modDlvs_tenon : (s.modDlvs f).tenon = s.tenon := rfl
@[simp] theorem State.modDlvs_bay : (s.modDlvs f).bay = s.bay := rfl
@[simp] theorem State.modDlvs_ddr : (s.modDlvs f).ddr = s.ddr := rfl
@[simp] theorem State.modDlvs_eth : (s.modDlvs f).eth = s.eth := rfl
@[simp] theorem State.modDlvs_cond : (s.modDlvs f).cond = s.cond := rfl
@[simp] theorem State.modDlvs_scarf : (s.modDlvs f).scarf = s.scarf := rfl
@[simp] theorem State.modDlvs_kerf : (s.modDlvs f).kerf = s.kerf := rfl
@[simp] theorem State.modDlvs_eng : (s.modDlvs f).eng = s.eng := rfl
@[simp] theorem State.modDlvs_imem : (s.modDlvs f).imem = s.imem := rfl
@[simp] theorem State.modDlvs_dmem : (s.modDlvs f).dmem = s.dmem := rfl
@[simp] theorem State.modDlvs_pushes : (s.modDlvs f).pushes = s.pushes := rfl
@[simp] theorem State.modDlvs_dma : (s.modDlvs f).dma = s.dma := rfl
@[simp] theorem State.modDlvs_dram : (s.modDlvs f).dram = s.dram := rfl
@[simp] theorem State.modDlvs_arb : (s.modDlvs f).arb = s.arb := rfl
@[simp] theorem State.modDlvs_dlv : (s.modDlvs f).dlv = f s.dlv := rfl
@[simp] theorem State.modDlvs_dlvNext : (s.modDlvs f).dlvNext = s.dlvNext := rfl
@[simp] theorem State.modDlvs_streams : (s.modDlvs f).streams = s.streams := rfl
@[simp] theorem State.modDlvs_rings : (s.modDlvs f).rings = s.rings := rfl
@[simp] theorem State.modDlvs_recl : (s.modDlvs f).recl = s.recl := rfl
@[simp] theorem State.modDlvs_mc : (s.modDlvs f).mc = s.mc := rfl
@[simp] theorem State.modDlvs_ports : (s.modDlvs f).ports = s.ports := rfl
@[simp] theorem State.rd_modDlvs (at_ : Nat) : (s.modDlvs f).rd at_ = s.rd at_ := rfl
@[simp] theorem State.rdN_modDlvs (at_ : Nat) : (s.modDlvs f).rdN at_ = s.rdN at_ := rfl
@[simp] theorem State.get_modDlvs (x : Fld) : (s.modDlvs f).get x = s.get x := rfl
@[simp] theorem State.flag_modDlvs (x : Fld) : (s.modDlvs f).flag x = s.flag x := rfl
end

section
variable (s : State)
@[simp] theorem State.countDlv_pending : (s.countDlv).pending = s.pending := rfl
@[simp] theorem State.countDlv_regs : (s.countDlv).regs = s.regs := rfl
@[simp] theorem State.countDlv_freeIdx : (s.countDlv).freeIdx = s.freeIdx := rfl
@[simp] theorem State.countDlv_out : (s.countDlv).out = s.out := rfl
@[simp] theorem State.countDlv_log : (s.countDlv).log = s.log := rfl
@[simp] theorem State.countDlv_tb : (s.countDlv).tb = s.tb := rfl
@[simp] theorem State.countDlv_droop : (s.countDlv).droop = s.droop := rfl
@[simp] theorem State.countDlv_power : (s.countDlv).power = s.power := rfl
@[simp] theorem State.countDlv_evt : (s.countDlv).evt = s.evt := rfl
@[simp] theorem State.countDlv_sill : (s.countDlv).sill = s.sill := rfl
@[simp] theorem State.countDlv_cfg : (s.countDlv).cfg = s.cfg := rfl
@[simp] theorem State.countDlv_pos : (s.countDlv).pos = s.pos := rfl
@[simp] theorem State.countDlv_seqs : (s.countDlv).seqs = s.seqs := rfl
@[simp] theorem State.countDlv_trigs : (s.countDlv).trigs = s.trigs := rfl
@[simp] theorem State.countDlv_pulses : (s.countDlv).pulses = s.pulses := rfl
@[simp] theorem State.countDlv_ledger : (s.countDlv).ledger = s.ledger := rfl
@[simp] theorem State.countDlv_phy : (s.countDlv).phy = s.phy := rfl
@[simp] theorem State.countDlv_tenon : (s.countDlv).tenon = s.tenon := rfl
@[simp] theorem State.countDlv_bay : (s.countDlv).bay = s.bay := rfl
@[simp] theorem State.countDlv_ddr : (s.countDlv).ddr = s.ddr := rfl
@[simp] theorem State.countDlv_eth : (s.countDlv).eth = s.eth := rfl
@[simp] theorem State.countDlv_cond : (s.countDlv).cond = s.cond := rfl
@[simp] theorem State.countDlv_scarf : (s.countDlv).scarf = s.scarf := rfl
@[simp] theorem State.countDlv_kerf : (s.countDlv).kerf = s.kerf := rfl
@[simp] theorem State.countDlv_eng : (s.countDlv).eng = s.eng := rfl
@[simp] theorem State.countDlv_imem : (s.countDlv).imem = s.imem := rfl
@[simp] theorem State.countDlv_dmem : (s.countDlv).dmem = s.dmem := rfl
@[simp] theorem State.countDlv_pushes : (s.countDlv).pushes = s.pushes := rfl
@[simp] theorem State.countDlv_dma : (s.countDlv).dma = s.dma := rfl
@[simp] theorem State.countDlv_dram : (s.countDlv).dram = s.dram := rfl
@[simp] theorem State.countDlv_arb : (s.countDlv).arb = s.arb := rfl
@[simp] theorem State.countDlv_dlv : (s.countDlv).dlv = s.dlv := rfl
@[simp] theorem State.countDlv_dlvNext : (s.countDlv).dlvNext = s.dlvNext + 1 := rfl
@[simp] theorem State.countDlv_streams : (s.countDlv).streams = s.streams := rfl
@[simp] theorem State.countDlv_rings : (s.countDlv).rings = s.rings := rfl
@[simp] theorem State.countDlv_recl : (s.countDlv).recl = s.recl := rfl
@[simp] theorem State.countDlv_mc : (s.countDlv).mc = s.mc := rfl
@[simp] theorem State.countDlv_ports : (s.countDlv).ports = s.ports := rfl
@[simp] theorem State.rd_countDlv (at_ : Nat) : (s.countDlv).rd at_ = s.rd at_ := rfl
@[simp] theorem State.rdN_countDlv (at_ : Nat) : (s.countDlv).rdN at_ = s.rdN at_ := rfl
@[simp] theorem State.get_countDlv (x : Fld) : (s.countDlv).get x = s.get x := rfl
@[simp] theorem State.flag_countDlv (x : Fld) : (s.countDlv).flag x = s.flag x := rfl
end

section
variable (s : State)
@[simp] theorem State.dropPulses_pending : (s.dropPulses).pending = s.pending := rfl
@[simp] theorem State.dropPulses_regs : (s.dropPulses).regs = s.regs := rfl
@[simp] theorem State.dropPulses_freeIdx : (s.dropPulses).freeIdx = s.freeIdx := rfl
@[simp] theorem State.dropPulses_out : (s.dropPulses).out = s.out := rfl
@[simp] theorem State.dropPulses_log : (s.dropPulses).log = s.log := rfl
@[simp] theorem State.dropPulses_tb : (s.dropPulses).tb = s.tb := rfl
@[simp] theorem State.dropPulses_droop : (s.dropPulses).droop = s.droop := rfl
@[simp] theorem State.dropPulses_power : (s.dropPulses).power = s.power := rfl
@[simp] theorem State.dropPulses_evt : (s.dropPulses).evt = s.evt := rfl
@[simp] theorem State.dropPulses_sill : (s.dropPulses).sill = s.sill := rfl
@[simp] theorem State.dropPulses_cfg : (s.dropPulses).cfg = s.cfg := rfl
@[simp] theorem State.dropPulses_pos : (s.dropPulses).pos = s.pos := rfl
@[simp] theorem State.dropPulses_seqs : (s.dropPulses).seqs = s.seqs := rfl
@[simp] theorem State.dropPulses_trigs : (s.dropPulses).trigs = s.trigs := rfl
@[simp] theorem State.dropPulses_pulses : (s.dropPulses).pulses = [] := rfl
@[simp] theorem State.dropPulses_ledger : (s.dropPulses).ledger = s.ledger := rfl
@[simp] theorem State.dropPulses_phy : (s.dropPulses).phy = s.phy := rfl
@[simp] theorem State.dropPulses_tenon : (s.dropPulses).tenon = s.tenon := rfl
@[simp] theorem State.dropPulses_bay : (s.dropPulses).bay = s.bay := rfl
@[simp] theorem State.dropPulses_ddr : (s.dropPulses).ddr = s.ddr := rfl
@[simp] theorem State.dropPulses_eth : (s.dropPulses).eth = s.eth := rfl
@[simp] theorem State.dropPulses_cond : (s.dropPulses).cond = s.cond := rfl
@[simp] theorem State.dropPulses_scarf : (s.dropPulses).scarf = s.scarf := rfl
@[simp] theorem State.dropPulses_kerf : (s.dropPulses).kerf = s.kerf := rfl
@[simp] theorem State.dropPulses_eng : (s.dropPulses).eng = s.eng := rfl
@[simp] theorem State.dropPulses_imem : (s.dropPulses).imem = s.imem := rfl
@[simp] theorem State.dropPulses_dmem : (s.dropPulses).dmem = s.dmem := rfl
@[simp] theorem State.dropPulses_pushes : (s.dropPulses).pushes = s.pushes := rfl
@[simp] theorem State.dropPulses_dma : (s.dropPulses).dma = s.dma := rfl
@[simp] theorem State.dropPulses_dram : (s.dropPulses).dram = s.dram := rfl
@[simp] theorem State.dropPulses_arb : (s.dropPulses).arb = s.arb := rfl
@[simp] theorem State.dropPulses_dlv : (s.dropPulses).dlv = s.dlv := rfl
@[simp] theorem State.dropPulses_dlvNext : (s.dropPulses).dlvNext = s.dlvNext := rfl
@[simp] theorem State.dropPulses_streams : (s.dropPulses).streams = s.streams := rfl
@[simp] theorem State.dropPulses_rings : (s.dropPulses).rings = s.rings := rfl
@[simp] theorem State.dropPulses_recl : (s.dropPulses).recl = s.recl := rfl
@[simp] theorem State.dropPulses_mc : (s.dropPulses).mc = s.mc := rfl
@[simp] theorem State.dropPulses_ports : (s.dropPulses).ports = s.ports := rfl
@[simp] theorem State.rd_dropPulses (at_ : Nat) : (s.dropPulses).rd at_ = s.rd at_ := rfl
@[simp] theorem State.rdN_dropPulses (at_ : Nat) : (s.dropPulses).rdN at_ = s.rdN at_ := rfl
@[simp] theorem State.get_dropPulses (x : Fld) : (s.dropPulses).get x = s.get x := rfl
@[simp] theorem State.flag_dropPulses (x : Fld) : (s.dropPulses).flag x = s.flag x := rfl
end

section
variable (s : State) (n : Nat)
@[simp] theorem State.drawn_pending : (s.drawn n).pending = s.pending := rfl
@[simp] theorem State.drawn_regs : (s.drawn n).regs = s.regs := rfl
@[simp] theorem State.drawn_freeIdx : (s.drawn n).freeIdx = s.freeIdx + n := rfl
@[simp] theorem State.drawn_out : (s.drawn n).out = s.out := rfl
@[simp] theorem State.drawn_log : (s.drawn n).log = s.log := rfl
@[simp] theorem State.drawn_tb : (s.drawn n).tb = s.tb := rfl
@[simp] theorem State.drawn_droop : (s.drawn n).droop = s.droop := rfl
@[simp] theorem State.drawn_power : (s.drawn n).power = s.power := rfl
@[simp] theorem State.drawn_evt : (s.drawn n).evt = s.evt := rfl
@[simp] theorem State.drawn_sill : (s.drawn n).sill = s.sill := rfl
@[simp] theorem State.drawn_cfg : (s.drawn n).cfg = s.cfg := rfl
@[simp] theorem State.drawn_pos : (s.drawn n).pos = s.pos := rfl
@[simp] theorem State.drawn_seqs : (s.drawn n).seqs = s.seqs := rfl
@[simp] theorem State.drawn_trigs : (s.drawn n).trigs = s.trigs := rfl
@[simp] theorem State.drawn_pulses : (s.drawn n).pulses = s.pulses := rfl
@[simp] theorem State.drawn_ledger : (s.drawn n).ledger = s.ledger := rfl
@[simp] theorem State.drawn_phy : (s.drawn n).phy = s.phy := rfl
@[simp] theorem State.drawn_tenon : (s.drawn n).tenon = s.tenon := rfl
@[simp] theorem State.drawn_bay : (s.drawn n).bay = s.bay := rfl
@[simp] theorem State.drawn_ddr : (s.drawn n).ddr = s.ddr := rfl
@[simp] theorem State.drawn_eth : (s.drawn n).eth = s.eth := rfl
@[simp] theorem State.drawn_cond : (s.drawn n).cond = s.cond := rfl
@[simp] theorem State.drawn_scarf : (s.drawn n).scarf = s.scarf := rfl
@[simp] theorem State.drawn_kerf : (s.drawn n).kerf = s.kerf := rfl
@[simp] theorem State.drawn_eng : (s.drawn n).eng = s.eng := rfl
@[simp] theorem State.drawn_imem : (s.drawn n).imem = s.imem := rfl
@[simp] theorem State.drawn_dmem : (s.drawn n).dmem = s.dmem := rfl
@[simp] theorem State.drawn_pushes : (s.drawn n).pushes = s.pushes := rfl
@[simp] theorem State.drawn_dma : (s.drawn n).dma = s.dma := rfl
@[simp] theorem State.drawn_dram : (s.drawn n).dram = s.dram := rfl
@[simp] theorem State.drawn_arb : (s.drawn n).arb = s.arb := rfl
@[simp] theorem State.drawn_dlv : (s.drawn n).dlv = s.dlv := rfl
@[simp] theorem State.drawn_dlvNext : (s.drawn n).dlvNext = s.dlvNext := rfl
@[simp] theorem State.drawn_streams : (s.drawn n).streams = s.streams := rfl
@[simp] theorem State.drawn_rings : (s.drawn n).rings = s.rings := rfl
@[simp] theorem State.drawn_recl : (s.drawn n).recl = s.recl := rfl
@[simp] theorem State.drawn_mc : (s.drawn n).mc = s.mc := rfl
@[simp] theorem State.drawn_ports : (s.drawn n).ports = s.ports := rfl
@[simp] theorem State.rd_drawn (at_ : Nat) : (s.drawn n).rd at_ = s.rd at_ := rfl
@[simp] theorem State.rdN_drawn (at_ : Nat) : (s.drawn n).rdN at_ = s.rdN at_ := rfl
@[simp] theorem State.get_drawn (x : Fld) : (s.drawn n).get x = s.get x := rfl
@[simp] theorem State.flag_drawn (x : Fld) : (s.drawn n).flag x = s.flag x := rfl
end

section
variable (s : State) (f : Mc → Mc)
@[simp] theorem State.modMc_pending : (s.modMc f).pending = s.pending := rfl
@[simp] theorem State.modMc_regs : (s.modMc f).regs = s.regs := rfl
@[simp] theorem State.modMc_freeIdx : (s.modMc f).freeIdx = s.freeIdx := rfl
@[simp] theorem State.modMc_out : (s.modMc f).out = s.out := rfl
@[simp] theorem State.modMc_log : (s.modMc f).log = s.log := rfl
@[simp] theorem State.modMc_tb : (s.modMc f).tb = s.tb := rfl
@[simp] theorem State.modMc_droop : (s.modMc f).droop = s.droop := rfl
@[simp] theorem State.modMc_power : (s.modMc f).power = s.power := rfl
@[simp] theorem State.modMc_evt : (s.modMc f).evt = s.evt := rfl
@[simp] theorem State.modMc_sill : (s.modMc f).sill = s.sill := rfl
@[simp] theorem State.modMc_cfg : (s.modMc f).cfg = s.cfg := rfl
@[simp] theorem State.modMc_pos : (s.modMc f).pos = s.pos := rfl
@[simp] theorem State.modMc_seqs : (s.modMc f).seqs = s.seqs := rfl
@[simp] theorem State.modMc_trigs : (s.modMc f).trigs = s.trigs := rfl
@[simp] theorem State.modMc_pulses : (s.modMc f).pulses = s.pulses := rfl
@[simp] theorem State.modMc_ledger : (s.modMc f).ledger = s.ledger := rfl
@[simp] theorem State.modMc_phy : (s.modMc f).phy = s.phy := rfl
@[simp] theorem State.modMc_tenon : (s.modMc f).tenon = s.tenon := rfl
@[simp] theorem State.modMc_bay : (s.modMc f).bay = s.bay := rfl
@[simp] theorem State.modMc_ddr : (s.modMc f).ddr = s.ddr := rfl
@[simp] theorem State.modMc_eth : (s.modMc f).eth = s.eth := rfl
@[simp] theorem State.modMc_cond : (s.modMc f).cond = s.cond := rfl
@[simp] theorem State.modMc_scarf : (s.modMc f).scarf = s.scarf := rfl
@[simp] theorem State.modMc_kerf : (s.modMc f).kerf = s.kerf := rfl
@[simp] theorem State.modMc_eng : (s.modMc f).eng = s.eng := rfl
@[simp] theorem State.modMc_imem : (s.modMc f).imem = s.imem := rfl
@[simp] theorem State.modMc_dmem : (s.modMc f).dmem = s.dmem := rfl
@[simp] theorem State.modMc_pushes : (s.modMc f).pushes = s.pushes := rfl
@[simp] theorem State.modMc_dma : (s.modMc f).dma = s.dma := rfl
@[simp] theorem State.modMc_dram : (s.modMc f).dram = s.dram := rfl
@[simp] theorem State.modMc_arb : (s.modMc f).arb = s.arb := rfl
@[simp] theorem State.modMc_dlv : (s.modMc f).dlv = s.dlv := rfl
@[simp] theorem State.modMc_dlvNext : (s.modMc f).dlvNext = s.dlvNext := rfl
@[simp] theorem State.modMc_streams : (s.modMc f).streams = s.streams := rfl
@[simp] theorem State.modMc_rings : (s.modMc f).rings = s.rings := rfl
@[simp] theorem State.modMc_recl : (s.modMc f).recl = s.recl := rfl
@[simp] theorem State.modMc_mc : (s.modMc f).mc = f s.mc := rfl
@[simp] theorem State.modMc_ports : (s.modMc f).ports = s.ports := rfl
@[simp] theorem State.rd_modMc (at_ : Nat) : (s.modMc f).rd at_ = s.rd at_ := rfl
@[simp] theorem State.rdN_modMc (at_ : Nat) : (s.modMc f).rdN at_ = s.rdN at_ := rfl
@[simp] theorem State.get_modMc (x : Fld) : (s.modMc f).get x = s.get x := rfl
@[simp] theorem State.flag_modMc (x : Fld) : (s.modMc f).flag x = s.flag x := rfl
end

section
variable (s : State) (f : TimeBase → TimeBase)
@[simp] theorem State.modTb_pending : (s.modTb f).pending = s.pending := rfl
@[simp] theorem State.modTb_regs : (s.modTb f).regs = s.regs := rfl
@[simp] theorem State.modTb_freeIdx : (s.modTb f).freeIdx = s.freeIdx := rfl
@[simp] theorem State.modTb_out : (s.modTb f).out = s.out := rfl
@[simp] theorem State.modTb_log : (s.modTb f).log = s.log := rfl
@[simp] theorem State.modTb_tb : (s.modTb f).tb = f s.tb := rfl
@[simp] theorem State.modTb_droop : (s.modTb f).droop = s.droop := rfl
@[simp] theorem State.modTb_power : (s.modTb f).power = s.power := rfl
@[simp] theorem State.modTb_evt : (s.modTb f).evt = s.evt := rfl
@[simp] theorem State.modTb_sill : (s.modTb f).sill = s.sill := rfl
@[simp] theorem State.modTb_cfg : (s.modTb f).cfg = s.cfg := rfl
@[simp] theorem State.modTb_pos : (s.modTb f).pos = s.pos := rfl
@[simp] theorem State.modTb_seqs : (s.modTb f).seqs = s.seqs := rfl
@[simp] theorem State.modTb_trigs : (s.modTb f).trigs = s.trigs := rfl
@[simp] theorem State.modTb_pulses : (s.modTb f).pulses = s.pulses := rfl
@[simp] theorem State.modTb_ledger : (s.modTb f).ledger = s.ledger := rfl
@[simp] theorem State.modTb_phy : (s.modTb f).phy = s.phy := rfl
@[simp] theorem State.modTb_tenon : (s.modTb f).tenon = s.tenon := rfl
@[simp] theorem State.modTb_bay : (s.modTb f).bay = s.bay := rfl
@[simp] theorem State.modTb_ddr : (s.modTb f).ddr = s.ddr := rfl
@[simp] theorem State.modTb_eth : (s.modTb f).eth = s.eth := rfl
@[simp] theorem State.modTb_cond : (s.modTb f).cond = s.cond := rfl
@[simp] theorem State.modTb_scarf : (s.modTb f).scarf = s.scarf := rfl
@[simp] theorem State.modTb_kerf : (s.modTb f).kerf = s.kerf := rfl
@[simp] theorem State.modTb_eng : (s.modTb f).eng = s.eng := rfl
@[simp] theorem State.modTb_imem : (s.modTb f).imem = s.imem := rfl
@[simp] theorem State.modTb_dmem : (s.modTb f).dmem = s.dmem := rfl
@[simp] theorem State.modTb_pushes : (s.modTb f).pushes = s.pushes := rfl
@[simp] theorem State.modTb_dma : (s.modTb f).dma = s.dma := rfl
@[simp] theorem State.modTb_dram : (s.modTb f).dram = s.dram := rfl
@[simp] theorem State.modTb_arb : (s.modTb f).arb = s.arb := rfl
@[simp] theorem State.modTb_dlv : (s.modTb f).dlv = s.dlv := rfl
@[simp] theorem State.modTb_dlvNext : (s.modTb f).dlvNext = s.dlvNext := rfl
@[simp] theorem State.modTb_streams : (s.modTb f).streams = s.streams := rfl
@[simp] theorem State.modTb_rings : (s.modTb f).rings = s.rings := rfl
@[simp] theorem State.modTb_recl : (s.modTb f).recl = s.recl := rfl
@[simp] theorem State.modTb_mc : (s.modTb f).mc = s.mc := rfl
@[simp] theorem State.modTb_ports : (s.modTb f).ports = s.ports := rfl
@[simp] theorem State.rd_modTb (at_ : Nat) : (s.modTb f).rd at_ = s.rd at_ := rfl
@[simp] theorem State.rdN_modTb (at_ : Nat) : (s.modTb f).rdN at_ = s.rdN at_ := rfl
@[simp] theorem State.get_modTb (x : Fld) : (s.modTb f).get x = s.get x := rfl
@[simp] theorem State.flag_modTb (x : Fld) : (s.modTb f).flag x = s.flag x := rfl
end

section
variable (s : State) (f : Droop → Droop)
@[simp] theorem State.modDroop_pending : (s.modDroop f).pending = s.pending := rfl
@[simp] theorem State.modDroop_regs : (s.modDroop f).regs = s.regs := rfl
@[simp] theorem State.modDroop_freeIdx : (s.modDroop f).freeIdx = s.freeIdx := rfl
@[simp] theorem State.modDroop_out : (s.modDroop f).out = s.out := rfl
@[simp] theorem State.modDroop_log : (s.modDroop f).log = s.log := rfl
@[simp] theorem State.modDroop_tb : (s.modDroop f).tb = s.tb := rfl
@[simp] theorem State.modDroop_droop : (s.modDroop f).droop = f s.droop := rfl
@[simp] theorem State.modDroop_power : (s.modDroop f).power = s.power := rfl
@[simp] theorem State.modDroop_evt : (s.modDroop f).evt = s.evt := rfl
@[simp] theorem State.modDroop_sill : (s.modDroop f).sill = s.sill := rfl
@[simp] theorem State.modDroop_cfg : (s.modDroop f).cfg = s.cfg := rfl
@[simp] theorem State.modDroop_pos : (s.modDroop f).pos = s.pos := rfl
@[simp] theorem State.modDroop_seqs : (s.modDroop f).seqs = s.seqs := rfl
@[simp] theorem State.modDroop_trigs : (s.modDroop f).trigs = s.trigs := rfl
@[simp] theorem State.modDroop_pulses : (s.modDroop f).pulses = s.pulses := rfl
@[simp] theorem State.modDroop_ledger : (s.modDroop f).ledger = s.ledger := rfl
@[simp] theorem State.modDroop_phy : (s.modDroop f).phy = s.phy := rfl
@[simp] theorem State.modDroop_tenon : (s.modDroop f).tenon = s.tenon := rfl
@[simp] theorem State.modDroop_bay : (s.modDroop f).bay = s.bay := rfl
@[simp] theorem State.modDroop_ddr : (s.modDroop f).ddr = s.ddr := rfl
@[simp] theorem State.modDroop_eth : (s.modDroop f).eth = s.eth := rfl
@[simp] theorem State.modDroop_cond : (s.modDroop f).cond = s.cond := rfl
@[simp] theorem State.modDroop_scarf : (s.modDroop f).scarf = s.scarf := rfl
@[simp] theorem State.modDroop_kerf : (s.modDroop f).kerf = s.kerf := rfl
@[simp] theorem State.modDroop_eng : (s.modDroop f).eng = s.eng := rfl
@[simp] theorem State.modDroop_imem : (s.modDroop f).imem = s.imem := rfl
@[simp] theorem State.modDroop_dmem : (s.modDroop f).dmem = s.dmem := rfl
@[simp] theorem State.modDroop_pushes : (s.modDroop f).pushes = s.pushes := rfl
@[simp] theorem State.modDroop_dma : (s.modDroop f).dma = s.dma := rfl
@[simp] theorem State.modDroop_dram : (s.modDroop f).dram = s.dram := rfl
@[simp] theorem State.modDroop_arb : (s.modDroop f).arb = s.arb := rfl
@[simp] theorem State.modDroop_dlv : (s.modDroop f).dlv = s.dlv := rfl
@[simp] theorem State.modDroop_dlvNext : (s.modDroop f).dlvNext = s.dlvNext := rfl
@[simp] theorem State.modDroop_streams : (s.modDroop f).streams = s.streams := rfl
@[simp] theorem State.modDroop_rings : (s.modDroop f).rings = s.rings := rfl
@[simp] theorem State.modDroop_recl : (s.modDroop f).recl = s.recl := rfl
@[simp] theorem State.modDroop_mc : (s.modDroop f).mc = s.mc := rfl
@[simp] theorem State.modDroop_ports : (s.modDroop f).ports = s.ports := rfl
@[simp] theorem State.rd_modDroop (at_ : Nat) : (s.modDroop f).rd at_ = s.rd at_ := rfl
@[simp] theorem State.rdN_modDroop (at_ : Nat) : (s.modDroop f).rdN at_ = s.rdN at_ := rfl
@[simp] theorem State.get_modDroop (x : Fld) : (s.modDroop f).get x = s.get x := rfl
@[simp] theorem State.flag_modDroop (x : Fld) : (s.modDroop f).flag x = s.flag x := rfl
end

section
variable (s : State) (f : Sill → Sill)
@[simp] theorem State.modSill_pending : (s.modSill f).pending = s.pending := rfl
@[simp] theorem State.modSill_regs : (s.modSill f).regs = s.regs := rfl
@[simp] theorem State.modSill_freeIdx : (s.modSill f).freeIdx = s.freeIdx := rfl
@[simp] theorem State.modSill_out : (s.modSill f).out = s.out := rfl
@[simp] theorem State.modSill_log : (s.modSill f).log = s.log := rfl
@[simp] theorem State.modSill_tb : (s.modSill f).tb = s.tb := rfl
@[simp] theorem State.modSill_droop : (s.modSill f).droop = s.droop := rfl
@[simp] theorem State.modSill_power : (s.modSill f).power = s.power := rfl
@[simp] theorem State.modSill_evt : (s.modSill f).evt = s.evt := rfl
@[simp] theorem State.modSill_sill : (s.modSill f).sill = f s.sill := rfl
@[simp] theorem State.modSill_cfg : (s.modSill f).cfg = s.cfg := rfl
@[simp] theorem State.modSill_pos : (s.modSill f).pos = s.pos := rfl
@[simp] theorem State.modSill_seqs : (s.modSill f).seqs = s.seqs := rfl
@[simp] theorem State.modSill_trigs : (s.modSill f).trigs = s.trigs := rfl
@[simp] theorem State.modSill_pulses : (s.modSill f).pulses = s.pulses := rfl
@[simp] theorem State.modSill_ledger : (s.modSill f).ledger = s.ledger := rfl
@[simp] theorem State.modSill_phy : (s.modSill f).phy = s.phy := rfl
@[simp] theorem State.modSill_tenon : (s.modSill f).tenon = s.tenon := rfl
@[simp] theorem State.modSill_bay : (s.modSill f).bay = s.bay := rfl
@[simp] theorem State.modSill_ddr : (s.modSill f).ddr = s.ddr := rfl
@[simp] theorem State.modSill_eth : (s.modSill f).eth = s.eth := rfl
@[simp] theorem State.modSill_cond : (s.modSill f).cond = s.cond := rfl
@[simp] theorem State.modSill_scarf : (s.modSill f).scarf = s.scarf := rfl
@[simp] theorem State.modSill_kerf : (s.modSill f).kerf = s.kerf := rfl
@[simp] theorem State.modSill_eng : (s.modSill f).eng = s.eng := rfl
@[simp] theorem State.modSill_imem : (s.modSill f).imem = s.imem := rfl
@[simp] theorem State.modSill_dmem : (s.modSill f).dmem = s.dmem := rfl
@[simp] theorem State.modSill_pushes : (s.modSill f).pushes = s.pushes := rfl
@[simp] theorem State.modSill_dma : (s.modSill f).dma = s.dma := rfl
@[simp] theorem State.modSill_dram : (s.modSill f).dram = s.dram := rfl
@[simp] theorem State.modSill_arb : (s.modSill f).arb = s.arb := rfl
@[simp] theorem State.modSill_dlv : (s.modSill f).dlv = s.dlv := rfl
@[simp] theorem State.modSill_dlvNext : (s.modSill f).dlvNext = s.dlvNext := rfl
@[simp] theorem State.modSill_streams : (s.modSill f).streams = s.streams := rfl
@[simp] theorem State.modSill_rings : (s.modSill f).rings = s.rings := rfl
@[simp] theorem State.modSill_recl : (s.modSill f).recl = s.recl := rfl
@[simp] theorem State.modSill_mc : (s.modSill f).mc = s.mc := rfl
@[simp] theorem State.modSill_ports : (s.modSill f).ports = s.ports := rfl
@[simp] theorem State.rd_modSill (at_ : Nat) : (s.modSill f).rd at_ = s.rd at_ := rfl
@[simp] theorem State.rdN_modSill (at_ : Nat) : (s.modSill f).rdN at_ = s.rdN at_ := rfl
@[simp] theorem State.get_modSill (x : Fld) : (s.modSill f).get x = s.get x := rfl
@[simp] theorem State.flag_modSill (x : Fld) : (s.modSill f).flag x = s.flag x := rfl
end

section
variable (s : State) (f : Ledger → Ledger)
@[simp] theorem State.modLedger_pending : (s.modLedger f).pending = s.pending := rfl
@[simp] theorem State.modLedger_regs : (s.modLedger f).regs = s.regs := rfl
@[simp] theorem State.modLedger_freeIdx : (s.modLedger f).freeIdx = s.freeIdx := rfl
@[simp] theorem State.modLedger_out : (s.modLedger f).out = s.out := rfl
@[simp] theorem State.modLedger_log : (s.modLedger f).log = s.log := rfl
@[simp] theorem State.modLedger_tb : (s.modLedger f).tb = s.tb := rfl
@[simp] theorem State.modLedger_droop : (s.modLedger f).droop = s.droop := rfl
@[simp] theorem State.modLedger_power : (s.modLedger f).power = s.power := rfl
@[simp] theorem State.modLedger_evt : (s.modLedger f).evt = s.evt := rfl
@[simp] theorem State.modLedger_sill : (s.modLedger f).sill = s.sill := rfl
@[simp] theorem State.modLedger_cfg : (s.modLedger f).cfg = s.cfg := rfl
@[simp] theorem State.modLedger_pos : (s.modLedger f).pos = s.pos := rfl
@[simp] theorem State.modLedger_seqs : (s.modLedger f).seqs = s.seqs := rfl
@[simp] theorem State.modLedger_trigs : (s.modLedger f).trigs = s.trigs := rfl
@[simp] theorem State.modLedger_pulses : (s.modLedger f).pulses = s.pulses := rfl
@[simp] theorem State.modLedger_ledger : (s.modLedger f).ledger = f s.ledger := rfl
@[simp] theorem State.modLedger_phy : (s.modLedger f).phy = s.phy := rfl
@[simp] theorem State.modLedger_tenon : (s.modLedger f).tenon = s.tenon := rfl
@[simp] theorem State.modLedger_bay : (s.modLedger f).bay = s.bay := rfl
@[simp] theorem State.modLedger_ddr : (s.modLedger f).ddr = s.ddr := rfl
@[simp] theorem State.modLedger_eth : (s.modLedger f).eth = s.eth := rfl
@[simp] theorem State.modLedger_cond : (s.modLedger f).cond = s.cond := rfl
@[simp] theorem State.modLedger_scarf : (s.modLedger f).scarf = s.scarf := rfl
@[simp] theorem State.modLedger_kerf : (s.modLedger f).kerf = s.kerf := rfl
@[simp] theorem State.modLedger_eng : (s.modLedger f).eng = s.eng := rfl
@[simp] theorem State.modLedger_imem : (s.modLedger f).imem = s.imem := rfl
@[simp] theorem State.modLedger_dmem : (s.modLedger f).dmem = s.dmem := rfl
@[simp] theorem State.modLedger_pushes : (s.modLedger f).pushes = s.pushes := rfl
@[simp] theorem State.modLedger_dma : (s.modLedger f).dma = s.dma := rfl
@[simp] theorem State.modLedger_dram : (s.modLedger f).dram = s.dram := rfl
@[simp] theorem State.modLedger_arb : (s.modLedger f).arb = s.arb := rfl
@[simp] theorem State.modLedger_dlv : (s.modLedger f).dlv = s.dlv := rfl
@[simp] theorem State.modLedger_dlvNext : (s.modLedger f).dlvNext = s.dlvNext := rfl
@[simp] theorem State.modLedger_streams : (s.modLedger f).streams = s.streams := rfl
@[simp] theorem State.modLedger_rings : (s.modLedger f).rings = s.rings := rfl
@[simp] theorem State.modLedger_recl : (s.modLedger f).recl = s.recl := rfl
@[simp] theorem State.modLedger_mc : (s.modLedger f).mc = s.mc := rfl
@[simp] theorem State.modLedger_ports : (s.modLedger f).ports = s.ports := rfl
@[simp] theorem State.rd_modLedger (at_ : Nat) : (s.modLedger f).rd at_ = s.rd at_ := rfl
@[simp] theorem State.rdN_modLedger (at_ : Nat) : (s.modLedger f).rdN at_ = s.rdN at_ := rfl
@[simp] theorem State.get_modLedger (x : Fld) : (s.modLedger f).get x = s.get x := rfl
@[simp] theorem State.flag_modLedger (x : Fld) : (s.modLedger f).flag x = s.flag x := rfl
end

section
variable (s : State) (u : Nat) (f : Scarf → Scarf)
@[simp] theorem State.modScf_pending : (s.modScf u f).pending = s.pending := rfl
@[simp] theorem State.modScf_regs : (s.modScf u f).regs = s.regs := rfl
@[simp] theorem State.modScf_freeIdx : (s.modScf u f).freeIdx = s.freeIdx := rfl
@[simp] theorem State.modScf_out : (s.modScf u f).out = s.out := rfl
@[simp] theorem State.modScf_log : (s.modScf u f).log = s.log := rfl
@[simp] theorem State.modScf_tb : (s.modScf u f).tb = s.tb := rfl
@[simp] theorem State.modScf_droop : (s.modScf u f).droop = s.droop := rfl
@[simp] theorem State.modScf_power : (s.modScf u f).power = s.power := rfl
@[simp] theorem State.modScf_evt : (s.modScf u f).evt = s.evt := rfl
@[simp] theorem State.modScf_sill : (s.modScf u f).sill = s.sill := rfl
@[simp] theorem State.modScf_cfg : (s.modScf u f).cfg = s.cfg := rfl
@[simp] theorem State.modScf_pos : (s.modScf u f).pos = s.pos := rfl
@[simp] theorem State.modScf_seqs : (s.modScf u f).seqs = s.seqs := rfl
@[simp] theorem State.modScf_trigs : (s.modScf u f).trigs = s.trigs := rfl
@[simp] theorem State.modScf_pulses : (s.modScf u f).pulses = s.pulses := rfl
@[simp] theorem State.modScf_ledger : (s.modScf u f).ledger = s.ledger := rfl
@[simp] theorem State.modScf_phy : (s.modScf u f).phy = s.phy := rfl
@[simp] theorem State.modScf_tenon : (s.modScf u f).tenon = s.tenon := rfl
@[simp] theorem State.modScf_bay : (s.modScf u f).bay = s.bay := rfl
@[simp] theorem State.modScf_ddr : (s.modScf u f).ddr = s.ddr := rfl
@[simp] theorem State.modScf_eth : (s.modScf u f).eth = s.eth := rfl
@[simp] theorem State.modScf_cond : (s.modScf u f).cond = s.cond := rfl
@[simp] theorem State.modScf_scarf : (s.modScf u f).scarf = cset (fun _ => Scarf.reset) s.scarf u (f (s.scf u)) := rfl
@[simp] theorem State.modScf_kerf : (s.modScf u f).kerf = s.kerf := rfl
@[simp] theorem State.modScf_eng : (s.modScf u f).eng = s.eng := rfl
@[simp] theorem State.modScf_imem : (s.modScf u f).imem = s.imem := rfl
@[simp] theorem State.modScf_dmem : (s.modScf u f).dmem = s.dmem := rfl
@[simp] theorem State.modScf_pushes : (s.modScf u f).pushes = s.pushes := rfl
@[simp] theorem State.modScf_dma : (s.modScf u f).dma = s.dma := rfl
@[simp] theorem State.modScf_dram : (s.modScf u f).dram = s.dram := rfl
@[simp] theorem State.modScf_arb : (s.modScf u f).arb = s.arb := rfl
@[simp] theorem State.modScf_dlv : (s.modScf u f).dlv = s.dlv := rfl
@[simp] theorem State.modScf_dlvNext : (s.modScf u f).dlvNext = s.dlvNext := rfl
@[simp] theorem State.modScf_streams : (s.modScf u f).streams = s.streams := rfl
@[simp] theorem State.modScf_rings : (s.modScf u f).rings = s.rings := rfl
@[simp] theorem State.modScf_recl : (s.modScf u f).recl = s.recl := rfl
@[simp] theorem State.modScf_mc : (s.modScf u f).mc = s.mc := rfl
@[simp] theorem State.modScf_ports : (s.modScf u f).ports = s.ports := rfl
@[simp] theorem State.rd_modScf (at_ : Nat) : (s.modScf u f).rd at_ = s.rd at_ := rfl
@[simp] theorem State.rdN_modScf (at_ : Nat) : (s.modScf u f).rdN at_ = s.rdN at_ := rfl
@[simp] theorem State.get_modScf (x : Fld) : (s.modScf u f).get x = s.get x := rfl
@[simp] theorem State.flag_modScf (x : Fld) : (s.modScf u f).flag x = s.flag x := rfl
end

section
variable (s : State) (o n : Nat)
@[simp] theorem State.wrN_pending : (s.wrN o n).pending = s.pending := rfl
@[simp] theorem State.wrN_freeIdx : (s.wrN o n).freeIdx = s.freeIdx := rfl
@[simp] theorem State.wrN_out : (s.wrN o n).out = s.out := rfl
@[simp] theorem State.wrN_log : (s.wrN o n).log = s.log := rfl
@[simp] theorem State.wrN_tb : (s.wrN o n).tb = s.tb := rfl
@[simp] theorem State.wrN_droop : (s.wrN o n).droop = s.droop := rfl
@[simp] theorem State.wrN_power : (s.wrN o n).power = s.power := rfl
@[simp] theorem State.wrN_evt : (s.wrN o n).evt = s.evt := rfl
@[simp] theorem State.wrN_sill : (s.wrN o n).sill = s.sill := rfl
@[simp] theorem State.wrN_cfg : (s.wrN o n).cfg = s.cfg := rfl
@[simp] theorem State.wrN_pos : (s.wrN o n).pos = s.pos := rfl
@[simp] theorem State.wrN_seqs : (s.wrN o n).seqs = s.seqs := rfl
@[simp] theorem State.wrN_trigs : (s.wrN o n).trigs = s.trigs := rfl
@[simp] theorem State.wrN_pulses : (s.wrN o n).pulses = s.pulses := rfl
@[simp] theorem State.wrN_ledger : (s.wrN o n).ledger = s.ledger := rfl
@[simp] theorem State.wrN_phy : (s.wrN o n).phy = s.phy := rfl
@[simp] theorem State.wrN_tenon : (s.wrN o n).tenon = s.tenon := rfl
@[simp] theorem State.wrN_bay : (s.wrN o n).bay = s.bay := rfl
@[simp] theorem State.wrN_ddr : (s.wrN o n).ddr = s.ddr := rfl
@[simp] theorem State.wrN_eth : (s.wrN o n).eth = s.eth := rfl
@[simp] theorem State.wrN_cond : (s.wrN o n).cond = s.cond := rfl
@[simp] theorem State.wrN_scarf : (s.wrN o n).scarf = s.scarf := rfl
@[simp] theorem State.wrN_kerf : (s.wrN o n).kerf = s.kerf := rfl
@[simp] theorem State.wrN_eng : (s.wrN o n).eng = s.eng := rfl
@[simp] theorem State.wrN_imem : (s.wrN o n).imem = s.imem := rfl
@[simp] theorem State.wrN_dmem : (s.wrN o n).dmem = s.dmem := rfl
@[simp] theorem State.wrN_pushes : (s.wrN o n).pushes = s.pushes := rfl
@[simp] theorem State.wrN_dma : (s.wrN o n).dma = s.dma := rfl
@[simp] theorem State.wrN_dram : (s.wrN o n).dram = s.dram := rfl
@[simp] theorem State.wrN_arb : (s.wrN o n).arb = s.arb := rfl
@[simp] theorem State.wrN_dlv : (s.wrN o n).dlv = s.dlv := rfl
@[simp] theorem State.wrN_dlvNext : (s.wrN o n).dlvNext = s.dlvNext := rfl
@[simp] theorem State.wrN_streams : (s.wrN o n).streams = s.streams := rfl
@[simp] theorem State.wrN_rings : (s.wrN o n).rings = s.rings := rfl
@[simp] theorem State.wrN_recl : (s.wrN o n).recl = s.recl := rfl
@[simp] theorem State.wrN_mc : (s.wrN o n).mc = s.mc := rfl
@[simp] theorem State.wrN_ports : (s.wrN o n).ports = s.ports := rfl
end

section
variable (s : State) (f : Fld) (n : Nat)
@[simp] theorem State.put_pending : (s.put f n).pending = s.pending := rfl
@[simp] theorem State.put_freeIdx : (s.put f n).freeIdx = s.freeIdx := rfl
@[simp] theorem State.put_out : (s.put f n).out = s.out := rfl
@[simp] theorem State.put_log : (s.put f n).log = s.log := rfl
@[simp] theorem State.put_tb : (s.put f n).tb = s.tb := rfl
@[simp] theorem State.put_droop : (s.put f n).droop = s.droop := rfl
@[simp] theorem State.put_power : (s.put f n).power = s.power := rfl
@[simp] theorem State.put_evt : (s.put f n).evt = s.evt := rfl
@[simp] theorem State.put_sill : (s.put f n).sill = s.sill := rfl
@[simp] theorem State.put_cfg : (s.put f n).cfg = s.cfg := rfl
@[simp] theorem State.put_pos : (s.put f n).pos = s.pos := rfl
@[simp] theorem State.put_seqs : (s.put f n).seqs = s.seqs := rfl
@[simp] theorem State.put_trigs : (s.put f n).trigs = s.trigs := rfl
@[simp] theorem State.put_pulses : (s.put f n).pulses = s.pulses := rfl
@[simp] theorem State.put_ledger : (s.put f n).ledger = s.ledger := rfl
@[simp] theorem State.put_phy : (s.put f n).phy = s.phy := rfl
@[simp] theorem State.put_tenon : (s.put f n).tenon = s.tenon := rfl
@[simp] theorem State.put_bay : (s.put f n).bay = s.bay := rfl
@[simp] theorem State.put_ddr : (s.put f n).ddr = s.ddr := rfl
@[simp] theorem State.put_eth : (s.put f n).eth = s.eth := rfl
@[simp] theorem State.put_cond : (s.put f n).cond = s.cond := rfl
@[simp] theorem State.put_scarf : (s.put f n).scarf = s.scarf := rfl
@[simp] theorem State.put_kerf : (s.put f n).kerf = s.kerf := rfl
@[simp] theorem State.put_eng : (s.put f n).eng = s.eng := rfl
@[simp] theorem State.put_imem : (s.put f n).imem = s.imem := rfl
@[simp] theorem State.put_dmem : (s.put f n).dmem = s.dmem := rfl
@[simp] theorem State.put_pushes : (s.put f n).pushes = s.pushes := rfl
@[simp] theorem State.put_dma : (s.put f n).dma = s.dma := rfl
@[simp] theorem State.put_dram : (s.put f n).dram = s.dram := rfl
@[simp] theorem State.put_arb : (s.put f n).arb = s.arb := rfl
@[simp] theorem State.put_dlv : (s.put f n).dlv = s.dlv := rfl
@[simp] theorem State.put_dlvNext : (s.put f n).dlvNext = s.dlvNext := rfl
@[simp] theorem State.put_streams : (s.put f n).streams = s.streams := rfl
@[simp] theorem State.put_rings : (s.put f n).rings = s.rings := rfl
@[simp] theorem State.put_recl : (s.put f n).recl = s.recl := rfl
@[simp] theorem State.put_mc : (s.put f n).mc = s.mc := rfl
@[simp] theorem State.put_ports : (s.put f n).ports = s.ports := rfl
end

section
variable (s : State) (f : Fld) (b : Bool)
@[simp] theorem State.putB_pending : (s.putB f b).pending = s.pending := rfl
@[simp] theorem State.putB_freeIdx : (s.putB f b).freeIdx = s.freeIdx := rfl
@[simp] theorem State.putB_out : (s.putB f b).out = s.out := rfl
@[simp] theorem State.putB_log : (s.putB f b).log = s.log := rfl
@[simp] theorem State.putB_tb : (s.putB f b).tb = s.tb := rfl
@[simp] theorem State.putB_droop : (s.putB f b).droop = s.droop := rfl
@[simp] theorem State.putB_power : (s.putB f b).power = s.power := rfl
@[simp] theorem State.putB_evt : (s.putB f b).evt = s.evt := rfl
@[simp] theorem State.putB_sill : (s.putB f b).sill = s.sill := rfl
@[simp] theorem State.putB_cfg : (s.putB f b).cfg = s.cfg := rfl
@[simp] theorem State.putB_pos : (s.putB f b).pos = s.pos := rfl
@[simp] theorem State.putB_seqs : (s.putB f b).seqs = s.seqs := rfl
@[simp] theorem State.putB_trigs : (s.putB f b).trigs = s.trigs := rfl
@[simp] theorem State.putB_pulses : (s.putB f b).pulses = s.pulses := rfl
@[simp] theorem State.putB_ledger : (s.putB f b).ledger = s.ledger := rfl
@[simp] theorem State.putB_phy : (s.putB f b).phy = s.phy := rfl
@[simp] theorem State.putB_tenon : (s.putB f b).tenon = s.tenon := rfl
@[simp] theorem State.putB_bay : (s.putB f b).bay = s.bay := rfl
@[simp] theorem State.putB_ddr : (s.putB f b).ddr = s.ddr := rfl
@[simp] theorem State.putB_eth : (s.putB f b).eth = s.eth := rfl
@[simp] theorem State.putB_cond : (s.putB f b).cond = s.cond := rfl
@[simp] theorem State.putB_scarf : (s.putB f b).scarf = s.scarf := rfl
@[simp] theorem State.putB_kerf : (s.putB f b).kerf = s.kerf := rfl
@[simp] theorem State.putB_eng : (s.putB f b).eng = s.eng := rfl
@[simp] theorem State.putB_imem : (s.putB f b).imem = s.imem := rfl
@[simp] theorem State.putB_dmem : (s.putB f b).dmem = s.dmem := rfl
@[simp] theorem State.putB_pushes : (s.putB f b).pushes = s.pushes := rfl
@[simp] theorem State.putB_dma : (s.putB f b).dma = s.dma := rfl
@[simp] theorem State.putB_dram : (s.putB f b).dram = s.dram := rfl
@[simp] theorem State.putB_arb : (s.putB f b).arb = s.arb := rfl
@[simp] theorem State.putB_dlv : (s.putB f b).dlv = s.dlv := rfl
@[simp] theorem State.putB_dlvNext : (s.putB f b).dlvNext = s.dlvNext := rfl
@[simp] theorem State.putB_streams : (s.putB f b).streams = s.streams := rfl
@[simp] theorem State.putB_rings : (s.putB f b).rings = s.rings := rfl
@[simp] theorem State.putB_recl : (s.putB f b).recl = s.recl := rfl
@[simp] theorem State.putB_mc : (s.putB f b).mc = s.mc := rfl
@[simp] theorem State.putB_ports : (s.putB f b).ports = s.ports := rfl
end

/-! ### The entry that was changed -/

theorem State.lphy_modPhy (s : State) (l : Nat) (f : LanePhy → LanePhy) : (s.modPhy l f).lphy l = f (s.lphy l) :=
  cget_cset_same _ _ _ _
theorem State.lphy_modPhy_ne (s : State) {l w : Nat} (f : LanePhy → LanePhy) (h : w ≠ l) : (s.modPhy l f).lphy w = s.lphy w :=
  cget_cset_ne _ _ _ h
theorem State.lten_modTen (s : State) (l : Nat) (f : LaneTenon → LaneTenon) : (s.modTen l f).lten l = f (s.lten l) :=
  cget_cset_same _ _ _ _
theorem State.lten_modTen_ne (s : State) {l w : Nat} (f : LaneTenon → LaneTenon) (h : w ≠ l) : (s.modTen l f).lten w = s.lten w :=
  cget_cset_ne _ _ _ h
theorem State.en_modEng (s : State) (e : Nat) (f : Engine → Engine) : (s.modEng e f).en e = f (s.en e) :=
  cget_cset_same _ _ _ _
theorem State.en_modEng_ne (s : State) {e w : Nat} (f : Engine → Engine) (h : w ≠ e) : (s.modEng e f).en w = s.en w :=
  cget_cset_ne _ _ _ h
theorem State.cln_modCln (s : State) (l : Nat) (f : CondLane → CondLane) : (s.modCln l f).cln l = f (s.cln l) :=
  cget_cset_same _ _ _ _
theorem State.cln_modCln_ne (s : State) {l w : Nat} (f : CondLane → CondLane) (h : w ≠ l) : (s.modCln l f).cln w = s.cln w :=
  cget_cset_ne _ _ _ h
theorem State.pch_modPch (s : State) (c : Nat) (f : PosChan → PosChan) : (s.modPch c f).pch c = f (s.pch c) :=
  cget_cset_same _ _ _ _
theorem State.pch_modPch_ne (s : State) {c w : Nat} (f : PosChan → PosChan) (h : w ≠ c) : (s.modPch c f).pch w = s.pch w :=
  cget_cset_ne _ _ _ h
theorem State.sq_modSq (s : State) (q : Nat) (f : Seq → Seq) : (s.modSq q f).sq q = f (s.sq q) :=
  cget_cset_same _ _ _ _
theorem State.sq_modSq_ne (s : State) {q w : Nat} (f : Seq → Seq) (h : w ≠ q) : (s.modSq q f).sq w = s.sq w :=
  cget_cset_ne _ _ _ h
theorem State.strm_modStrm (s : State) (st : Nat) (f : Stream → Stream) : (s.modStrm st f).strm st = f (s.strm st) :=
  cget_cset_same _ _ _ _
theorem State.strm_modStrm_ne (s : State) {st w : Nat} (f : Stream → Stream) (h : w ≠ st) : (s.modStrm st f).strm w = s.strm w :=
  cget_cset_ne _ _ _ h
theorem State.drm_modDrm (s : State) (k : Nat) (f : DdrChan → DdrChan) : (s.modDrm k f).drm k = f (s.drm k) :=
  cget_cset_same _ _ _ _
theorem State.drm_modDrm_ne (s : State) {k w : Nat} (f : DdrChan → DdrChan) (h : w ≠ k) : (s.modDrm k f).drm w = s.drm w :=
  cget_cset_ne _ _ _ h
theorem State.arbOf_modArb (s : State) (a : Nat) (f : Arb → Arb) : (s.modArb a f).arbOf a = f (s.arbOf a) :=
  cget_cset_same _ _ _ _
theorem State.arbOf_modArb_ne (s : State) {a w : Nat} (f : Arb → Arb) (h : w ≠ a) : (s.modArb a f).arbOf w = s.arbOf w :=
  cget_cset_ne _ _ _ h
theorem State.hport_modHport (s : State) (p : Nat) (f : HostPort → HostPort) : (s.modHport p f).hport p = f (s.hport p) :=
  cget_cset_same _ _ _ _
theorem State.hport_modHport_ne (s : State) {p w : Nat} (f : HostPort → HostPort) (h : w ≠ p) : (s.modHport p f).hport w = s.hport w :=
  cget_cset_ne _ _ _ h
theorem State.leth_modEth (s : State) (l : Nat) (f : EthLane → EthLane) : (s.modEth l f).leth l = f (s.leth l) :=
  cget_cset_same _ _ _ _
theorem State.leth_modEth_ne (s : State) {l w : Nat} (f : EthLane → EthLane) (h : w ≠ l) : (s.modEth l f).leth w = s.leth w :=
  cget_cset_ne _ _ _ h
theorem State.krf_modKrf (s : State) (l : Nat) (f : Kerf → Kerf) : (s.modKrf l f).krf l = f (s.krf l) :=
  cget_cset_same _ _ _ _
theorem State.krf_modKrf_ne (s : State) {l w : Nat} (f : Kerf → Kerf) (h : w ≠ l) : (s.modKrf l f).krf w = s.krf w :=
  cget_cset_ne _ _ _ h
theorem State.scf_modScf (s : State) (u : Nat) (f : Scarf → Scarf) : (s.modScf u f).scf u = f (s.scf u) :=
  cget_cset_same _ _ _ _
theorem State.scf_modScf_ne (s : State) {u w : Nat} (f : Scarf → Scarf) (h : w ≠ u) : (s.modScf u f).scf w = s.scf w :=
  cget_cset_ne _ _ _ h

end Sys2Proof.Machine
end

