-- ==== Sys2Proof/Laws/Ops.lean ====
section
/-!
SUPPORT. What the shared operations over registers, the event log and interrupts do, said once: a field written reads
back, fields elsewhere stay, and an event, a log entry or an interrupt touches only its own registers.
-/

namespace Sys2Proof.Machine

open Reg

/-! ### Bit fields -/

theorem getBits_lt (x lo w : Nat) : getBits x lo w < 2 ^ w := Nat.mod_lt _ (Nat.two_pow_pos w)

theorem putBits_eq (x lo w n : Nat) :
    putBits x lo w n = 2 ^ lo * (2 ^ w * (x / 2 ^ (lo + w)) + n % 2 ^ w) + x % 2 ^ lo := by
  unfold putBits
  rw [Nat.pow_add]
  ring

theorem getBits_putBits_same (x lo w n : Nat) : getBits (putBits x lo w n) lo w = n % 2 ^ w := by
  have h1 : x % 2 ^ lo < 2 ^ lo := Nat.mod_lt _ (Nat.two_pow_pos lo)
  rw [putBits_eq, getBits, Nat.mul_add_div (Nat.two_pow_pos lo), Nat.div_eq_of_lt h1, Nat.add_zero,
    Nat.mul_add_mod, Nat.mod_mod]

/-- A field below the one written. -/
theorem getBits_putBits_below (x lo w n : Nat) {a v : Nat} (h : a + v ≤ lo) :
    getBits (putBits x lo w n) a v = getBits x a v := by
  obtain ⟨d, rfl⟩ := Nat.exists_eq_add_of_le h
  have e : ∀ y, getBits y a v = getBits (y % 2 ^ (a + v)) a v := fun y => by
    simp only [getBits]
    rw [Nat.pow_add, Nat.mod_mul_right_div_self, Nat.mod_mod]
  rw [e, e x, putBits_eq]
  congr 1
  rw [Nat.pow_add 2 (a + v) d, Nat.mul_assoc, Nat.mul_add_mod, Nat.mod_mul_right_mod]

/-- A field above the one written. -/
theorem getBits_putBits_above (x lo w n : Nat) {a v : Nat} (h : lo + w ≤ a) :
    getBits (putBits x lo w n) a v = getBits x a v := by
  obtain ⟨d, rfl⟩ := Nat.exists_eq_add_of_le h
  have hn : n % 2 ^ w < 2 ^ w := Nat.mod_lt _ (Nat.two_pow_pos w)
  have h1 : x % 2 ^ lo < 2 ^ lo := Nat.mod_lt _ (Nat.two_pow_pos lo)
  have e : putBits x lo w n / 2 ^ (lo + w) = x / 2 ^ (lo + w) := by
    rw [putBits_eq, Nat.pow_add 2 lo w, ← Nat.div_div_eq_div_mul, Nat.mul_add_div (Nat.two_pow_pos lo),
      Nat.div_eq_of_lt h1, Nat.add_zero, Nat.mul_add_div (Nat.two_pow_pos w), Nat.div_eq_of_lt hn, Nat.add_zero]
  simp only [getBits]
  rw [Nat.pow_add 2 (lo + w) d, ← Nat.div_div_eq_div_mul, e, Nat.div_div_eq_div_mul]

theorem putBits_lt {x lo w n m : Nat} (hx : x < 2 ^ m) (h : lo + w ≤ m) : putBits x lo w n < 2 ^ m := by
  obtain ⟨d, rfl⟩ := Nat.exists_eq_add_of_le h
  have hn : n % 2 ^ w < 2 ^ w := Nat.mod_lt _ (Nat.two_pow_pos w)
  have h1 : x % 2 ^ lo < 2 ^ lo := Nat.mod_lt _ (Nat.two_pow_pos lo)
  have hq : x / 2 ^ (lo + w) < 2 ^ d := Nat.div_lt_of_lt_mul (by rwa [← Nat.pow_add])
  have h2 : 2 ^ w * (x / 2 ^ (lo + w)) + n % 2 ^ w + 1 ≤ 2 ^ w * 2 ^ d := by
    have : 2 ^ w * (x / 2 ^ (lo + w)) + 2 ^ w ≤ 2 ^ w * 2 ^ d := by
      rw [← Nat.mul_succ]; exact Nat.mul_le_mul_left _ hq
    omega
  have h3 : 2 ^ lo * (2 ^ w * (x / 2 ^ (lo + w)) + n % 2 ^ w) + 2 ^ lo ≤ 2 ^ lo * (2 ^ w * 2 ^ d) := by
    rw [← Nat.mul_succ]; exact Nat.mul_le_mul_left _ h2
  have h4 : 2 ^ (lo + w + d) = 2 ^ lo * (2 ^ w * 2 ^ d) := by rw [Nat.pow_add, Nat.pow_add, Nat.mul_assoc]
  rw [putBits_eq]
  omega

/-! ### Registers -/

@[simp] theorem State.rd_wr_same (s : State) (o : Nat) (v : Word) : (s.wr o v).rd o = v := cget_cset_same _ _ _ _

theorem State.rd_wr_ne (s : State) {o p : Nat} (v : Word) (h : p ≠ o) : (s.wr o v).rd p = s.rd p := cget_cset_ne _ _ _ h

theorem State.rdN_lt (s : State) (o : Nat) : s.rdN o < 2 ^ 32 := (s.rd o).isLt

@[simp] theorem State.rdN_wrN_same (s : State) (o n : Nat) : (s.wrN o n).rdN o = n % 2 ^ 32 := by
  simp [State.rdN, State.wrN]

theorem State.rdN_wrN_ne (s : State) {o p : Nat} (n : Nat) (h : p ≠ o) : (s.wrN o n).rdN p = s.rdN p := by
  simp [State.rdN, State.wrN, State.rd_wr_ne s _ h]

theorem State.rdN_put_ne (s : State) {f : Fld} {p : Nat} (n : Nat) (h : p ≠ f.off) : (s.put f n).rdN p = s.rdN p :=
  State.rdN_wrN_ne _ _ h

/-- Two fields that share no bit. -/
abbrev Fld.apart (f g : Fld) : Prop := f.off ≠ g.off ∨ f.lo + f.w ≤ g.lo ∨ g.lo + g.w ≤ f.lo

/-- A field lies within its 32-bit word. -/
abbrev Fld.fits (f : Fld) : Prop := f.lo + f.w ≤ 32

theorem State.rdN_put_same (s : State) {f : Fld} (n : Nat) (h : f.fits) :
    (s.put f n).rdN f.off = putBits (s.rdN f.off) f.lo f.w n := by
  rw [State.put, State.rdN_wrN_same, Nat.mod_eq_of_lt (putBits_lt (s.rdN_lt _) h)]

/-- A field written reads back, modulo its width. -/
theorem State.get_put_same (s : State) {f : Fld} (n : Nat) (h : f.fits) : (s.put f n).get f = n % 2 ^ f.w := by
  rw [State.get, State.rdN_put_same s n h, getBits_putBits_same]

/-- A field that shares no bit with the one written stays. -/
theorem State.get_put_apart (s : State) {f g : Fld} (n : Nat) (hf : f.fits) (h : g.apart f) :
    (s.put f n).get g = s.get g := by
  by_cases e : g.off = f.off
  · rw [State.get, State.get, e, State.rdN_put_same s n hf]
    rcases h with h | h | h
    · exact absurd e h
    · exact getBits_putBits_below _ _ _ _ h
    · exact getBits_putBits_above _ _ _ _ h
  · rw [State.get, State.get, State.rdN_put_ne s n e]

theorem State.get_wrN_ne (s : State) {g : Fld} {o : Nat} (n : Nat) (h : g.off ≠ o) : (s.wrN o n).get g = s.get g := by
  rw [State.get, State.get, State.rdN_wrN_ne s n h]

theorem State.flag_putB_same (s : State) {f : Fld} (b : Bool) (h : f.fits) (hw : f.w = 1) : (s.putB f b).flag f = b := by
  rw [State.flag, State.putB, State.get_put_same s _ h, hw]
  cases b <;> rfl

theorem State.flag_putB_apart (s : State) {f g : Fld} (b : Bool) (hf : f.fits) (h : g.apart f) :
    (s.putB f b).flag g = s.flag g := by
  rw [State.flag, State.flag, State.putB, State.get_put_apart s _ hf h]

theorem State.get_putB_apart (s : State) {f g : Fld} (b : Bool) (hf : f.fits) (h : g.apart f) :
    (s.putB f b).get g = s.get g := State.get_put_apart s _ hf h

/-! ### Counters, the log and interrupts -/

theorem State.bump_rdN (s : State) (o : Nat) : (s.bump o).rdN o = min (s.rdN o + 1) 0xFFFFFFFF := by
  have := s.rdN_lt o
  simp only [State.bump, State.bumpBy, State.rdN_wrN_same]
  omega

theorem State.bump_rdN_ne (s : State) {o p : Nat} (h : p ≠ o) : (s.bump o).rdN p = s.rdN p := State.rdN_wrN_ne _ _ h

/-- A log entry touches the queue of the log writer and, when that is full, its loss counter; every register but that
counter stays (R466). -/
theorem State.rdN_logC_ne (s : State) {p : Nat} (c u a : Nat) (h : p ≠ MC_CNT_LOG_DROP) :
    (s.logC c u a).rdN p = s.rdN p := by
  unfold State.logC State.logX State.logItem
  split
  · rfl
  · exact State.bump_rdN_ne s h

theorem State.get_logC_ne (s : State) {g : Fld} (c u a : Nat) (h : g.off ≠ MC_CNT_LOG_DROP) :
    (s.logC c u a).get g = s.get g := by
  rw [State.get, State.get, State.rdN_logC_ne s c u a h]

/-- Whether an offset lies in the pending bits of the MSI-X tables of either port. -/
def inPba (o : Nat) : Prop := ∃ p v, o = MSIX_PBA p (v / 32)

theorem State.rdN_msixSend_ne (s : State) {o : Nat} (p v : Nat) (h : ¬ inPba o) : (s.msixSend p v).rdN o = s.rdN o := by
  unfold State.msixSend
  split
  · rfl
  · exact State.rdN_put_ne s _ (fun e => h ⟨p, v, e⟩)

theorem State.rdN_irqPort_ne (s : State) {o : Nat} (p v : Nat) (h : ¬ inPba o) : (s.irqPort p v).rdN o = s.rdN o := by
  unfold State.irqPort State.iff
  split
  · exact s.rdN_msixSend_ne p v h
  · rfl

theorem State.rdN_irq_ne (s : State) {o : Nat} (v : Nat) (h : ¬ inPba o) : (s.irq v).rdN o = s.rdN o := by
  unfold State.irq
  rw [State.rdN_irqPort_ne _ _ _ h, State.rdN_irqPort_ne _ _ _ h]

/-- An event sets its bit and may send or leave pending a message; no other register changes (R6, R415). -/
theorem State.rdN_raise_ne (s : State) {o : Nat} {f : Fld} (v : Nat) (h : ¬ inPba o) (hf : o ≠ f.off) :
    (s.raise v f).rdN o = s.rdN o := by
  dsimp only [State.raise, State.iff]
  split
  · rw [State.rdN_irq_ne _ _ h]; exact s.rdN_put_ne _ hf
  · exact s.rdN_put_ne _ hf

/-- The event bit itself is set. -/
theorem State.flag_raise (s : State) {f : Fld} (v : Nat) (h : ¬ inPba f.off) (hf : f.fits) (hw : f.w = 1) :
    (s.raise v f).flag f = true := by
  have e : (s.raise v f).flag f = (s.putB f true).flag f := by
    dsimp only [State.raise, State.iff]
    split
    · simp only [State.flag, State.get, State.rdN_irq_ne _ _ h]
    · rfl
  rw [e, s.flag_putB_same true hf hw]

/-- The time base and the log stay on an interrupt. -/
theorem State.msixSend_tb (s : State) (p v : Nat) : (s.msixSend p v).tb = s.tb ∧ (s.msixSend p v).log = s.log := by
  unfold State.msixSend
  split <;> exact ⟨rfl, rfl⟩

theorem State.irqPort_tb (s : State) (p v : Nat) : (s.irqPort p v).tb = s.tb ∧ (s.irqPort p v).log = s.log := by
  dsimp only [State.irqPort, State.iff]
  split
  · exact s.msixSend_tb p v
  · exact ⟨rfl, rfl⟩

theorem State.irq_tb (s : State) (v : Nat) : (s.irq v).tb = s.tb ∧ (s.irq v).log = s.log := by
  have a := s.irqPort_tb 0 v
  have b := (s.irqPort 0 v).irqPort_tb 1 v
  exact ⟨b.1.trans a.1, b.2.trans a.2⟩

theorem State.raise_tb (s : State) (v : Nat) (f : Fld) : (s.raise v f).tb = s.tb ∧ (s.raise v f).log = s.log := by
  dsimp only [State.raise, State.iff]
  split
  · exact (s.putB f true).irq_tb v
  · exact ⟨rfl, rfl⟩

/-- The log queue never passes its 64 items (R466). -/
theorem State.logX_queue (s : State) (c u a : Nat) (e : List LogEntry) (h : s.log.queue.length ≤ 64) :
    (s.logX c u a e).log.queue.length ≤ 64 := by
  unfold State.logX State.logItem
  split
  · simp; omega
  · exact h

end Sys2Proof.Machine
end

