-- ==== Sys2Proof/Laws/Resets.lean ====
section
/-!
SUPPORT. The operations that change registers alone, and what the resets take and keep (R68 to R71).
-/

namespace Sys2Proof.Machine

open Reg

/-- `t` differs from `s` in its registers alone. -/
def State.regsOnly (s t : State) : Prop := t = { s with regs := t.regs }

theorem State.regsOnly.refl (s : State) : s.regsOnly s := rfl

theorem State.regsOnly.trans {s t u : State} (h : s.regsOnly t) (k : t.regsOnly u) : s.regsOnly u := by
  unfold State.regsOnly at *
  rw [k, h]

theorem State.wr_only (s : State) (o : Nat) (v : Word) : s.regsOnly (s.wr o v) := rfl
theorem State.wrN_only (s : State) (o n : Nat) : s.regsOnly (s.wrN o n) := rfl
theorem State.put_only (s : State) (f : Fld) (n : Nat) : s.regsOnly (s.put f n) := rfl
theorem State.putB_only (s : State) (f : Fld) (b : Bool) : s.regsOnly (s.putB f b) := rfl
theorem State.iff_only (s : State) (c : Bool) (f : State → State) (h : s.regsOnly (f s)) : s.regsOnly (s.iff c f) := by
  cases c
  · exact .refl s
  · exact h

theorem foldl_only {α : Type} (f : State → α → State) (h : ∀ (s : State) (x : α), s.regsOnly (f s x)) (l : List α) (s : State) :
    s.regsOnly (l.foldl f s) := by
  induction l generalizing s with
  | nil => exact .refl s
  | cons x l ih => exact (h s x).trans (ih _)

theorem State.setCause_only (s : State) (c : Nat) : s.regsOnly (s.setCause c) := s.put_only _ _

theorem State.showOtp_only (s : State) : s.regsOnly s.showOtp := by
  dsimp only [State.showOtp]
  exact ((((s.put_only _ _).trans (State.put_only _ _ _)).trans (State.put_only _ _ _)).trans (State.put_only _ _ _)).trans
    ((State.put_only _ _ _).trans (State.put_only _ _ _))

theorem State.showCap_only (s : State) : s.regsOnly s.showCap := by
  dsimp only [State.showCap]
  exact ((((s.put_only _ _).trans (State.put_only _ _ _)).trans (State.put_only _ _ _)).trans (State.put_only _ _ _)).trans
    (((State.put_only _ _ _).trans (State.put_only _ _ _)).trans (State.put_only _ _ _))

theorem State.keepPerst_only (s t : State) : s.regsOnly (s.keepPerst t) := (s.putB_only _ _).trans (State.putB_only _ _ _)

theorem State.loadRepair_only (s : State) : s.regsOnly s.loadRepair := by
  dsimp only [State.loadRepair]
  refine .trans ?_ (foldl_only _ (fun s k => s.iff_only _ _ ((s.put_only _ _).trans (State.put_only _ _ _))) _ _)
  refine .trans ?_ (State.put_only _ _ _)
  refine .trans ?_ (State.put_only _ _ _)
  refine .trans ?_ (State.put_only _ _ _)
  refine .trans ?_ (State.wrN_only _ _ _)
  refine .trans ?_ (foldl_only _ (fun s w => s.wrN_only _ _) _ _)
  exact foldl_only _ (fun s w => s.wrN_only _ _) _ _

theorem State.sampleStraps_only (s : State) (m : Nat) (f : Bool) : s.regsOnly (s.sampleStraps m f) := by
  dsimp only [State.sampleStraps]
  exact ((((s.put_only _ _).trans (State.putB_only _ _ _)).trans (State.put_only _ _ _)).trans (State.putB_only _ _ _)).trans
    (State.putB_only _ _ _)

theorem State.regsOnly.power {s t : State} (h : s.regsOnly t) : t.power = s.power := by rw [h]
theorem State.regsOnly.mc {s t : State} (h : s.regsOnly t) : t.mc = s.mc := by rw [h]
theorem State.regsOnly.tb {s t : State} (h : s.regsOnly t) : t.tb = s.tb := by rw [h]
theorem State.regsOnly.log {s t : State} (h : s.regsOnly t) : t.log = s.log := by rw [h]
theorem State.regsOnly.pending {s t : State} (h : s.regsOnly t) : t.pending = s.pending := by rw [h]
theorem State.regsOnly.dlv {s t : State} (h : s.regsOnly t) : t.dlv = s.dlv := by rw [h]
theorem State.regsOnly.trigs {s t : State} (h : s.regsOnly t) : t.trigs = s.trigs := by rw [h]
theorem State.regsOnly.phy {s t : State} (h : s.regsOnly t) : t.phy = s.phy := by rw [h]
theorem State.regsOnly.streams {s t : State} (h : s.regsOnly t) : t.streams = s.streams := by rw [h]

/-! ### A system reset -/

/-- The device held by a system reset, before its registers are settled. -/
def State.sysBare (s : State) : State :=
  { State.reset with
    pending := s.pending, freeIdx := s.freeIdx, out := s.out, regs := ckeep keepSys s.regs
    log := ⟨s.log.queue, s.log.ring, [], 0⟩
    tb := { s.tb with ppsActive := false, ppsIdle := none }, mc := s.mc.kept
    power := ⟨false, true, true, false, s.power.releaseTick⟩
    droop := { Droop.reset with ms := s.droop.ms, msEvents := s.droop.msEvents } }

theorem State.sysHeld_only (s : State) : s.sysBare.regsOnly s.sysHeld := by
  unfold State.sysHeld
  refine .trans ?_ (State.loadRepair_only _)
  refine .trans ?_ (State.putB_only _ _ _)
  refine .trans ?_ (State.keepPerst_only _ _)
  refine .trans ?_ (foldl_only _ (fun s k => s.putB_only _ _) _ _)
  exact .refl _

/-- A system reset that no other reset holds leaves the held device, its cause and its count apart. -/
theorem State.sysReset_only (s : State) (c : Nat) (hp : s.power.porst = false) (hs : s.power.sysRst = false) :
    s.sysBare.regsOnly (s.sysReset c) := by
  unfold State.sysReset
  rw [hp, hs]
  exact (s.sysHeld_only.trans (State.setCause_only _ _)).trans (State.put_only _ _ _)

/-- A system reset that no other reset holds shows its cause alone. -/
theorem State.sysReset_cause (s : State) (c : Nat) (hc : c < 6) (hp : s.power.porst = false) (hs : s.power.sysRst = false)
    (hm : s.power.mcDown = false) : (s.sysReset c).get ⟨GLOBAL_RESET_CAUSE, 0, 6⟩ = 2 ^ c := by
  unfold State.sysReset
  rw [hp, hs, hm]
  simp only [Bool.false_eq_true, ↓reduceIte, Bool.false_and]
  rw [show Nat.lor 0 (2 ^ c) = 2 ^ c from Nat.zero_or _]
  rw [State.get_put_apart _ _ (by simp [Fld.fits, GLOBAL_RESET_CAUSE_SYS_COUNT])
    (by simp [Fld.apart, GLOBAL_RESET_CAUSE_SYS_COUNT])]
  unfold State.setCause
  rw [State.get_put_same _ _ (by simp [Fld.fits])]
  exact Nat.mod_eq_of_lt (Nat.pow_lt_pow_right (by omega) hc)

/-! ### An MC reset -/

/-- What an MC reset leaves alone: the data planes, the time base, the flash and the OTP (R68, R71). -/
def State.plane (s : State) :
    TimeBase × List (Nat × LanePhy) × List Trigger × List Delivery × List (Nat × Stream) × List (Nat × Byte) × List (Nat × Byte) :=
  (s.tb, s.phy, s.trigs, s.dlv, s.streams, s.mc.flash, s.mc.otp)

theorem State.logC_plane (s : State) (c u a : Nat) : (s.logC c u a).plane = s.plane := by
  unfold State.logC State.logX State.logItem
  split <;> simp (config := { implicitDefEqProofs := false }) [State.plane, State.bump, State.bumpBy]

theorem State.irqPort_plane (s : State) (q v : Nat) : (s.irqPort q v).plane = s.plane := by
  dsimp only [State.irqPort, State.iff]
  split
  · unfold State.msixSend
    split <;> simp (config := { implicitDefEqProofs := false }) [State.plane]
  · rfl

theorem State.mboxDone_plane (s : State) (p r : Nat) : (s.mboxDone p r).plane = s.plane := by
  dsimp only [State.mboxDone, State.iff]
  split
  · rw [State.logC_plane, State.irqPort_plane]
    simp (config := { implicitDefEqProofs := false }) [State.plane, State.mboxLeave]
  · rw [State.irqPort_plane]
    simp (config := { implicitDefEqProofs := false }) [State.plane, State.mboxLeave]

theorem State.put_plane (s : State) (f : Fld) (n : Nat) : (s.put f n).plane = s.plane := by
  simp only [State.plane, State.put_tb, State.put_phy, State.put_trigs, State.put_dlv, State.put_streams, State.put_mc]

/-- An MC reset leaves the planes alone, stops firmware and shows its cause. -/
theorem State.mcReset_plane (s : State) (c : Nat) : (s.mcReset c).plane = s.plane := by
  dsimp only [State.mcReset]
  split
  · rfl
  split
  · exact State.put_plane _ _ _
  · have hf : ∀ (l : List Nat) (s : State), (l.foldl (fun (s : State) p => s.iff (s.get (MBOX_STATUS_STATE p) == 1)
        (fun s => s.mboxDone p rBusy)) s).plane = s.plane := by
      intro l
      induction l with
      | nil => exact fun s => rfl
      | cons p l ih =>
        intro s
        rw [List.foldl_cons, ih]
        dsimp only [State.iff]
        split
        · exact s.mboxDone_plane _ _
        · rfl
    have := hf (List.range 2) s
    simp only [State.plane, Prod.mk.injEq] at this
    simp only [State.plane, State.setCause, State.put_tb, State.putB_tb, State.wrN_tb, State.modPower_tb, State.modMc_tb,
      State.put_phy, State.putB_phy, State.wrN_phy, State.modPower_phy, State.modMc_phy, State.put_trigs, State.putB_trigs,
      State.wrN_trigs, State.modPower_trigs, State.modMc_trigs, State.put_dlv, State.putB_dlv, State.wrN_dlv,
      State.modPower_dlv, State.modMc_dlv, State.put_streams, State.putB_streams, State.wrN_streams, State.modPower_streams,
      State.modMc_streams, State.put_mc, State.putB_mc, State.wrN_mc, State.modPower_mc, State.modMc_mc, this]

theorem State.mcReset_mc (s : State) (c : Nat) (hp : s.power.porst = false) (hs : s.power.sysRst = false)
    (hm : s.power.mcDown = false) :
    (s.mcReset c).power.mcDown = true ∧ (s.mcReset c).mc.fwOn = false ∧ (s.mcReset c).mc.keyReady = false := by
  unfold State.mcReset
  rw [hp, hs, hm]
  simp [State.setCause]

theorem State.mcReset_cause (s : State) (c : Nat) (hc : c < 6) (hp : s.power.porst = false) (hs : s.power.sysRst = false)
    (hm : s.power.mcDown = false) : (s.mcReset c).get ⟨GLOBAL_RESET_CAUSE, 0, 6⟩ = 2 ^ c := by
  unfold State.mcReset
  rw [hp, hs, hm]
  simp only [Bool.false_eq_true, ↓reduceIte, Bool.or_self]
  unfold State.setCause
  rw [State.get_put_same _ _ (by simp [Fld.fits])]
  exact Nat.mod_eq_of_lt (Nat.pow_lt_pow_right (by omega) hc)

end Sys2Proof.Machine
end

