-- ==== Sys2Proof/Laws/StableCore.lean ====
section
/-!
SUPPORT. What survives the operations of registers, log, interrupts, events, motion, position channels, sequencers and time:
a property that is `Stable`. One lemma per operation and per command.
-/

set_option linter.unusedTactic false
set_option linter.unreachableTactic false
set_option linter.unusedSimpArgs false
set_option linter.unusedVariables false

namespace Sys2Proof.Machine

open Reg

/-- The command answers a next state of which `P` holds. -/
def Answers (P : State → Prop) (o : Host.Outcome State Fault Refusal) : Prop := ∃ t, o = .next t ∧ P t

/-- `P` survives every elementary change of the state that a command makes, but for the programming of the OTP and the
power-on reset. What `Stable` holds of, every operation built from those changes keeps. -/
structure Stable (P : State → Prop) : Prop where
  wr : ∀ (s : State) (o : Nat) (v : Word), P s → P (s.wr o v)
  free : ∀ s : State, P s → P s.free.2
  emit : ∀ (s : State) (o : Out), P s → P (s.emit o)
  modTrigs : ∀ (s : State) (f : List Trigger → List Trigger), P s → P (s.modTrigs f)
  modPower : ∀ (s : State) (f : Power → Power), (∀ m, (f m).porst = m.porst) → P s → P (s.modPower f)
  modLog : ∀ (s : State) (f : Log → Log), P s → P (s.modLog f)
  modEvt : ∀ (s : State) (f : EvtState → EvtState), P s → P (s.modEvt f)
  modRecl : ∀ (s : State) (f : Recall → Recall), P s → P (s.modRecl f)
  modDlvs : ∀ (s : State) (f : List Delivery → List Delivery), P s → P (s.modDlvs f)
  countDlv : ∀ (s : State) , P s → P (s.countDlv)
  dropPulses : ∀ (s : State) , P s → P (s.dropPulses)
  drawn : ∀ (s : State) (n : Nat), P s → P (s.drawn n)
  modMc : ∀ (s : State) (f : Mc → Mc), (∀ m, (f m).flash = m.flash) → (∀ m, (f m).otp = m.otp) → P s → P (s.modMc f)
  modTb : ∀ (s : State) (f : TimeBase → TimeBase), P s → P (s.modTb f)
  modDroop : ∀ (s : State) (f : Droop → Droop), P s → P (s.modDroop f)
  modSill : ∀ (s : State) (f : Sill → Sill), P s → P (s.modSill f)
  modLedger : ∀ (s : State) (f : Ledger → Ledger), P s → P (s.modLedger f)
  cfgWr : ∀ (s : State) (p : Nat) (o : Nat) (n : Nat), P s → P (s.cfgWr p o n)
  modArb : ∀ (s : State) (a : Nat) (f : Arb → Arb), P s → P (s.modArb a f)
  setSport : ∀ (s : State) (p : Nat) (x : SillPort), P s → P (s.setSport p x)
  modKrf : ∀ (s : State) (l : Nat) (f : Kerf → Kerf), P s → P (s.modKrf l f)
  modPch : ∀ (s : State) (c : Nat) (f : PosChan → PosChan), P s → P (s.modPch c f)
  modSq : ∀ (s : State) (q : Nat) (f : Seq → Seq), P s → P (s.modSq q f)
  setPulseEnd : ∀ (s : State) (g : Nat) (p : PulseEnd), P s → P (s.setPulseEnd g p)
  bayWr : ∀ (s : State) (b : Nat) (a : Nat) (l : List Byte), P s → P (s.bayWr b a l)
  ddrWr : ∀ (s : State) (a : Nat) (l : List Byte), P s → P (s.ddrWr a l)
  setDdrOut : ∀ (s : State) (l : List DdrWrite), P s → P (s.setDdrOut l)
  modPhy : ∀ (s : State) (l : Nat) (f : LanePhy → LanePhy), P s → P (s.modPhy l f)
  modTen : ∀ (s : State) (l : Nat) (f : LaneTenon → LaneTenon), P s → P (s.modTen l f)
  modEng : ∀ (s : State) (e : Nat) (f : Engine → Engine), P s → P (s.modEng e f)
  modCln : ∀ (s : State) (l : Nat) (f : CondLane → CondLane), P s → P (s.modCln l f)
  modEth : ∀ (s : State) (l : Nat) (f : EthLane → EthLane), P s → P (s.modEth l f)
  modStrm : ∀ (s : State) (st : Nat) (f : Stream → Stream), P s → P (s.modStrm st f)
  modRing : ∀ (s : State) (st : Nat) (p : Nat) (f : Ring → Ring), P s → P (s.modRing st p f)
  modDlv : ∀ (s : State) (num : Nat) (f : Delivery → Delivery), P s → P (s.modDlv num f)
  dropDlv : ∀ (s : State) (num : Nat), P s → P (s.dropDlv num)
  setRateFrom : ∀ (s : State) (t : Nat), P s → P (s.setRateFrom t)
  modScf : ∀ (s : State) (u : Nat) (f : Scarf → Scarf), P s → P (s.modScf u f)
  modDch : ∀ (s : State) (b : Nat) (c : Nat) (f : DmaChan → DmaChan), P s → P (s.modDch b c f)
  dmemWr : ∀ (s : State) (e : Nat) (a : Nat) (l : List Byte), P s → P (s.dmemWr e a l)
  setSigs : ∀ (s : State) (l : List (Nat × Nat)), P s → P (s.setSigs l)
  cycleUp : ∀ (s : State) , P s → P (s.cycleUp)
  setFaultFrom : ∀ (s : State) (t : Nat), P s → P (s.setFaultFrom t)
  setPushes : ∀ (s : State) (b : Nat) (l : List EngPush), P s → P (s.setPushes b l)
  modDrm : ∀ (s : State) (k : Nat) (f : DdrChan → DdrChan), P s → P (s.modDrm k f)
  modHport : ∀ (s : State) (p : Nat) (f : HostPort → HostPort), P s → P (s.modHport p f)
  dropConfig : ∀ (s : State) (p : Nat) (lo : Nat), P s → P (s.dropConfig p lo)
  flashProg : ∀ (s : State) (a : Nat) (l : List Byte), P s → P (s.flashProg a l)
  flashErase : ∀ (s : State) (a : Nat), P s → P (s.flashErase a)
  hdrStore : ∀ (s : State) (c : Nat) (l : List Byte), P s → P (s.hdrStore c l)
  sysReset : ∀ (s : State) (c : Nat), P s → P (s.sysReset c)
  loadMems : ∀ (s : State) (p : List Byte) (e : Nat), P s → P (s.loadMems p e)

variable {P : State → Prop} (hP : Stable P)

theorem foldl_stable {α : Type} (f : State → α → State) (l : List α) (s : State) (h0 : P s) (h : ∀ s a, P s → P (f s a)) :
    P (l.foldl f s) := by
  induction l generalizing s with
  | nil => exact h0
  | cons a t ih => rw [List.foldl_cons]; exact ih _ (h s a h0)
theorem foldl_stable_fst {α β : Type} (f : State × β → α → State × β) (l : List α) (r : State × β) (h0 : P r.1)
    (h : ∀ r a, P r.1 → P (f r a).1) : P (l.foldl f r).1 := by
  induction l generalizing r with
  | nil => exact h0
  | cons a t ih => rw [List.foldl_cons]; exact ih _ (h r a h0)
theorem foldl_stable_snd {α β : Type} (f : β × State → α → β × State) (l : List α) (r : β × State) (h0 : P r.2)
    (h : ∀ r a, P r.2 → P (f r a).2) : P (l.foldl f r).2 := by
  induction l generalizing r with
  | nil => exact h0
  | cons a t ih => rw [List.foldl_cons]; exact ih _ (h r a h0)
theorem iff_stable (s : State) (c : Bool) (f : State → State) (h0 : P s) (h : ∀ s, P s → P (f s)) : P (s.iff c f) := by
  unfold State.iff; split
  · exact h s h0
  · exact h0
theorem answers_next {t : State} (h : P t) : Answers P (.next t) := ⟨t, rfl, h⟩
theorem every_nil {Q : (State → State) → Prop} : ∀ g ∈ ([] : List (State → State)), Q g := by simp
theorem every_cons {Q : (State → State) → Prop} {a : State → State} {l : List (State → State)} (h : Q a) (ht : ∀ g ∈ l, Q g) :
    ∀ g ∈ a :: l, Q g := by simpa using ⟨h, ht⟩

include hP

theorem State.wrN_stable (s : State) (o : Nat) (n : Nat) (hm : P s) : P (State.wrN s o n) := by
  unfold State.wrN; repeat' first | with_reducible assumption | with_reducible apply answers_next (P := P) | extract_lets | with_reducible apply hP.wr | with_reducible apply iff_stable (P := P) | with_reducible apply foldl_stable (P := P) | with_reducible apply foldl_stable_fst (P := P) | with_reducible apply foldl_stable_snd (P := P) | split | intro _ | dsimp +zetaDelta only []
theorem State.put_stable (s : State) (f : Fld) (n : Nat) (hm : P s) : P (State.put s f n) := by
  unfold State.put; repeat' first | with_reducible assumption | with_reducible apply answers_next (P := P) | extract_lets | with_reducible apply State.wrN_stable hP | with_reducible apply iff_stable (P := P) | with_reducible apply foldl_stable (P := P) | with_reducible apply foldl_stable_fst (P := P) | with_reducible apply foldl_stable_snd (P := P) | split | intro _ | dsimp +zetaDelta only []
theorem State.putB_stable (s : State) (f : Fld) (b : Bool) (hm : P s) : P (State.putB s f b) := by
  unfold State.putB; repeat' first | with_reducible assumption | with_reducible apply answers_next (P := P) | extract_lets | with_reducible apply State.put_stable hP | with_reducible apply iff_stable (P := P) | with_reducible apply foldl_stable (P := P) | with_reducible apply foldl_stable_fst (P := P) | with_reducible apply foldl_stable_snd (P := P) | split | intro _ | dsimp +zetaDelta only []
theorem State.wr64_stable (s : State) (o : Nat) (n : Nat) (hm : P s) : P (State.wr64 s o n) := by
  unfold State.wr64; repeat' first | with_reducible assumption | with_reducible apply answers_next (P := P) | extract_lets | with_reducible apply State.wrN_stable hP | with_reducible apply iff_stable (P := P) | with_reducible apply foldl_stable (P := P) | with_reducible apply foldl_stable_fst (P := P) | with_reducible apply foldl_stable_snd (P := P) | split | intro _ | dsimp +zetaDelta only []
theorem State.wrS_stable (s : State) (o : Nat) (i : Int) (hm : P s) : P (State.wrS s o i) := by
  unfold State.wrS; repeat' first | with_reducible assumption | with_reducible apply answers_next (P := P) | extract_lets | with_reducible apply State.wr64_stable hP | with_reducible apply iff_stable (P := P) | with_reducible apply foldl_stable (P := P) | with_reducible apply foldl_stable_fst (P := P) | with_reducible apply foldl_stable_snd (P := P) | split | intro _ | dsimp +zetaDelta only []
theorem State.wrTime_stable (s : State) (o : Nat) (t : Nat) (hm : P s) : P (State.wrTime s o t) := by
  unfold State.wrTime; repeat' first | with_reducible assumption | with_reducible apply answers_next (P := P) | extract_lets | with_reducible apply State.wrN_stable hP | with_reducible apply iff_stable (P := P) | with_reducible apply foldl_stable (P := P) | with_reducible apply foldl_stable_fst (P := P) | with_reducible apply foldl_stable_snd (P := P) | split | intro _ | dsimp +zetaDelta only []
theorem State.bumpBy_stable (s : State) (o : Nat) (n : Nat) (hm : P s) : P (State.bumpBy s o n) := by
  unfold State.bumpBy; repeat' first | with_reducible assumption | with_reducible apply answers_next (P := P) | extract_lets | with_reducible apply State.wrN_stable hP | with_reducible apply iff_stable (P := P) | with_reducible apply foldl_stable (P := P) | with_reducible apply foldl_stable_fst (P := P) | with_reducible apply foldl_stable_snd (P := P) | split | intro _ | dsimp +zetaDelta only []
theorem State.bump_stable (s : State) (o : Nat) (hm : P s) : P (State.bump s o) := by
  unfold State.bump; repeat' first | with_reducible assumption | with_reducible apply answers_next (P := P) | extract_lets | with_reducible apply State.bumpBy_stable hP | with_reducible apply iff_stable (P := P) | with_reducible apply foldl_stable (P := P) | with_reducible apply foldl_stable_fst (P := P) | with_reducible apply foldl_stable_snd (P := P) | split | intro _ | dsimp +zetaDelta only []
theorem State.publish_stable (s : State) (o : Nat) (hm : P s) : P (State.publish s o) := by
  unfold State.publish; repeat' first | with_reducible assumption | with_reducible apply answers_next (P := P) | extract_lets | with_reducible apply State.wrN_stable hP | with_reducible apply iff_stable (P := P) | with_reducible apply foldl_stable (P := P) | with_reducible apply foldl_stable_fst (P := P) | with_reducible apply foldl_stable_snd (P := P) | split | intro _ | dsimp +zetaDelta only []
theorem State.publishC_stable (s : State) (o : Nat) (hm : P s) : P (State.publishC s o) := by
  unfold State.publishC; repeat' first | with_reducible assumption | with_reducible apply answers_next (P := P) | extract_lets | with_reducible apply State.publish_stable hP | with_reducible apply State.wrN_stable hP | with_reducible apply iff_stable (P := P) | with_reducible apply foldl_stable (P := P) | with_reducible apply foldl_stable_fst (P := P) | with_reducible apply foldl_stable_snd (P := P) | split | intro _ | dsimp +zetaDelta only []
theorem State.logItem_stable (s : State) (i : LogItem) (hm : P s) : P (State.logItem s i) := by
  unfold State.logItem; repeat' first | with_reducible assumption | with_reducible apply answers_next (P := P) | extract_lets | with_reducible apply hP.modLog | with_reducible apply State.bump_stable hP | with_reducible apply iff_stable (P := P) | with_reducible apply foldl_stable (P := P) | with_reducible apply foldl_stable_fst (P := P) | with_reducible apply foldl_stable_snd (P := P) | split | intro _ | dsimp +zetaDelta only []
theorem State.logX_stable (s : State) (code : Nat) (unit : Nat) (arg : Nat) (exts : List LogEntry) (hm : P s) : P (State.logX s code unit arg exts) := by
  unfold State.logX; repeat' first | with_reducible assumption | with_reducible apply answers_next (P := P) | extract_lets | with_reducible apply State.logItem_stable hP | with_reducible apply iff_stable (P := P) | with_reducible apply foldl_stable (P := P) | with_reducible apply foldl_stable_fst (P := P) | with_reducible apply foldl_stable_snd (P := P) | split | intro _ | dsimp +zetaDelta only []
theorem State.logC_stable (s : State) (code : Nat) (unit : Nat) (arg : Nat) (hm : P s) : P (State.logC s code unit arg) := by
  unfold State.logC; repeat' first | with_reducible assumption | with_reducible apply answers_next (P := P) | extract_lets | with_reducible apply State.logX_stable hP | with_reducible apply iff_stable (P := P) | with_reducible apply foldl_stable (P := P) | with_reducible apply foldl_stable_fst (P := P) | with_reducible apply foldl_stable_snd (P := P) | split | intro _ | dsimp +zetaDelta only []
theorem State.log64_stable (s : State) (code : Nat) (unit : Nat) (v : Int) (b8 : Nat) (hm : P s) : P (State.log64 s code unit v b8) := by
  unfold State.log64; repeat' first | with_reducible assumption | with_reducible apply answers_next (P := P) | extract_lets | with_reducible apply State.logX_stable hP | with_reducible apply iff_stable (P := P) | with_reducible apply foldl_stable (P := P) | with_reducible apply foldl_stable_fst (P := P) | with_reducible apply foldl_stable_snd (P := P) | split | intro _ | dsimp +zetaDelta only []
theorem State.logLim_stable (s : State) (code : Nat) (item : Nat) (unit : Nat) (arg : Nat) (counted : Bool) (exts : List LogEntry) (hm : P s) : P (State.logLim s code item unit arg counted exts) := by
  unfold State.logLim; repeat' first | with_reducible assumption | with_reducible apply answers_next (P := P) | extract_lets | with_reducible apply State.logX_stable hP | with_reducible apply State.counted_stable hP | with_reducible apply hP.modLog | with_reducible apply iff_stable (P := P) | with_reducible apply foldl_stable (P := P) | with_reducible apply foldl_stable_fst (P := P) | with_reducible apply foldl_stable_snd (P := P) | split | intro _ | dsimp +zetaDelta only []
theorem State.logOnce_stable (s : State) (code : Nat) (item : Nat) (unit : Nat) (arg : Nat) (hm : P s) : P (State.logOnce s code item unit arg) := by
  unfold State.logOnce; repeat' first | with_reducible assumption | with_reducible apply answers_next (P := P) | extract_lets | with_reducible apply State.logLim_stable hP | with_reducible apply iff_stable (P := P) | with_reducible apply foldl_stable (P := P) | with_reducible apply foldl_stable_fst (P := P) | with_reducible apply foldl_stable_snd (P := P) | split | intro _ | dsimp +zetaDelta only []
theorem State.logCount_stable (s : State) (code : Nat) (item : Nat) (unit : Nat) (hm : P s) : P (State.logCount s code item unit) := by
  unfold State.logCount; repeat' first | with_reducible assumption | with_reducible apply answers_next (P := P) | extract_lets | with_reducible apply State.logLim_stable hP | with_reducible apply iff_stable (P := P) | with_reducible apply foldl_stable (P := P) | with_reducible apply foldl_stable_fst (P := P) | with_reducible apply foldl_stable_snd (P := P) | split | intro _ | dsimp +zetaDelta only []
theorem State.msixSend_stable (s : State) (p : Nat) (v : Nat) (hm : P s) : P (State.msixSend s p v) := by
  unfold State.msixSend; repeat' first | with_reducible assumption | with_reducible apply answers_next (P := P) | extract_lets | with_reducible apply hP.emit | with_reducible apply State.putB_stable hP | with_reducible apply iff_stable (P := P) | with_reducible apply foldl_stable (P := P) | with_reducible apply foldl_stable_fst (P := P) | with_reducible apply foldl_stable_snd (P := P) | split | intro _ | dsimp +zetaDelta only []
theorem State.irqPort_stable (s : State) (p : Nat) (cls : Nat) (hm : P s) : P (State.irqPort s p cls) := by
  unfold State.irqPort; repeat' first | with_reducible assumption | with_reducible apply answers_next (P := P) | extract_lets | with_reducible apply State.msixSend_stable hP | with_reducible apply iff_stable (P := P) | with_reducible apply foldl_stable (P := P) | with_reducible apply foldl_stable_fst (P := P) | with_reducible apply foldl_stable_snd (P := P) | split | intro _ | dsimp +zetaDelta only []
theorem State.irq_stable (s : State) (cls : Nat) (hm : P s) : P (State.irq s cls) := by
  unfold State.irq; repeat' first | with_reducible assumption | with_reducible apply answers_next (P := P) | extract_lets | with_reducible apply State.irqPort_stable hP | with_reducible apply iff_stable (P := P) | with_reducible apply foldl_stable (P := P) | with_reducible apply foldl_stable_fst (P := P) | with_reducible apply foldl_stable_snd (P := P) | split | intro _ | dsimp +zetaDelta only []
theorem State.raise_stable (s : State) (cls : Nat) (f : Fld) (hm : P s) : P (State.raise s cls f) := by
  unfold State.raise; repeat' first | with_reducible assumption | with_reducible apply answers_next (P := P) | extract_lets | with_reducible apply State.putB_stable hP | with_reducible apply State.irq_stable hP | with_reducible apply iff_stable (P := P) | with_reducible apply foldl_stable (P := P) | with_reducible apply foldl_stable_fst (P := P) | with_reducible apply foldl_stable_snd (P := P) | split | intro _ | dsimp +zetaDelta only []
theorem State.raisePcie_stable (s : State) (p : Nat) (f : Fld) (hm : P s) : P (State.raisePcie s p f) := by
  unfold State.raisePcie; repeat' first | with_reducible assumption | with_reducible apply answers_next (P := P) | extract_lets | with_reducible apply State.putB_stable hP | with_reducible apply State.irqPort_stable hP | with_reducible apply iff_stable (P := P) | with_reducible apply foldl_stable (P := P) | with_reducible apply foldl_stable_fst (P := P) | with_reducible apply foldl_stable_snd (P := P) | split | intro _ | dsimp +zetaDelta only []
theorem State.badAccess_stable (s : State) (master : Nat) (o : Nat) (cause : Nat) (hm : P s) : P (State.badAccess s master o cause) := by
  unfold State.badAccess; repeat' first | with_reducible assumption | with_reducible apply answers_next (P := P) | extract_lets | with_reducible apply State.bump_stable hP | with_reducible apply State.wrN_stable hP | with_reducible apply State.publish_stable hP | with_reducible apply State.raise_stable hP | with_reducible apply iff_stable (P := P) | with_reducible apply foldl_stable (P := P) | with_reducible apply foldl_stable_fst (P := P) | with_reducible apply foldl_stable_snd (P := P) | split | intro _ | dsimp +zetaDelta only []
theorem State.latch_stable (s : State) (os : List Nat) (hm : P s) : P (State.latch s os) := by
  unfold State.latch; repeat' first | with_reducible assumption | with_reducible apply answers_next (P := P) | extract_lets | with_reducible apply hP.wr | with_reducible apply iff_stable (P := P) | with_reducible apply foldl_stable (P := P) | with_reducible apply foldl_stable_fst (P := P) | with_reducible apply foldl_stable_snd (P := P) | split | intro _ | dsimp +zetaDelta only []
theorem State.aerUnc_stable (s : State) (p : Nat) (b : Nat) (hm : P s) : P (State.aerUnc s p b) := by
  unfold State.aerUnc; repeat' first | with_reducible assumption | with_reducible apply answers_next (P := P) | extract_lets | with_reducible apply hP.cfgWr | with_reducible apply hP.drawn | with_reducible apply iff_stable (P := P) | with_reducible apply foldl_stable (P := P) | with_reducible apply foldl_stable_fst (P := P) | with_reducible apply foldl_stable_snd (P := P) | split | intro _ | dsimp +zetaDelta only []
theorem State.aerCor_stable (s : State) (p : Nat) (b : Nat) (hm : P s) : P (State.aerCor s p b) := by
  unfold State.aerCor; repeat' first | with_reducible assumption | with_reducible apply answers_next (P := P) | extract_lets | with_reducible apply hP.cfgWr | with_reducible apply State.bump_stable hP | with_reducible apply iff_stable (P := P) | with_reducible apply foldl_stable (P := P) | with_reducible apply foldl_stable_fst (P := P) | with_reducible apply foldl_stable_snd (P := P) | split | intro _ | dsimp +zetaDelta only []
theorem State.aerAdv_stable (s : State) (p : Nat) (b : Nat) (hm : P s) : P (State.aerAdv s p b) := by
  unfold State.aerAdv; repeat' first | with_reducible assumption | with_reducible apply answers_next (P := P) | extract_lets | with_reducible apply hP.cfgWr | with_reducible apply State.aerUnc_stable hP | with_reducible apply iff_stable (P := P) | with_reducible apply foldl_stable (P := P) | with_reducible apply foldl_stable_fst (P := P) | with_reducible apply foldl_stable_snd (P := P) | split | intro _ | dsimp +zetaDelta only []
theorem State.urNote_stable (s : State) (p : Nat) (posted : Bool) (hm : P s) : P (State.urNote s p posted) := by
  unfold State.urNote; repeat' first | with_reducible assumption | with_reducible apply answers_next (P := P) | extract_lets | with_reducible apply State.bump_stable hP | with_reducible apply State.raisePcie_stable hP | with_reducible apply State.logCount_stable hP | with_reducible apply State.aerAdv_stable hP | with_reducible apply State.aerUnc_stable hP | with_reducible apply iff_stable (P := P) | with_reducible apply foldl_stable (P := P) | with_reducible apply foldl_stable_fst (P := P) | with_reducible apply foldl_stable_snd (P := P) | split | intro _ | dsimp +zetaDelta only []
theorem State.unreached_stable (s : State) (master : Nat) (hm : P s) : P (State.unreached s master) := by
  unfold State.unreached; repeat' first | with_reducible assumption | with_reducible apply answers_next (P := P) | extract_lets | with_reducible apply State.urNote_stable hP | with_reducible apply iff_stable (P := P) | with_reducible apply foldl_stable (P := P) | with_reducible apply foldl_stable_fst (P := P) | with_reducible apply foldl_stable_snd (P := P) | split | intro _ | dsimp +zetaDelta only []
theorem State.showArb_stable (s : State) (a : Nat) (hm : P s) : P (State.showArb s a) := by
  unfold State.showArb; repeat' first | with_reducible assumption | with_reducible apply answers_next (P := P) | extract_lets | with_reducible apply State.put_stable hP | with_reducible apply State.hold_stable hP | with_reducible apply iff_stable (P := P) | with_reducible apply foldl_stable (P := P) | with_reducible apply foldl_stable_fst (P := P) | with_reducible apply foldl_stable_snd (P := P) | split | intro _ | dsimp +zetaDelta only []
theorem State.arbLose_stable (s : State) (a : Nat) (r : Nat) (hm : P s) : P (State.arbLose s a r) := by
  unfold State.arbLose; repeat' first | with_reducible assumption | with_reducible apply answers_next (P := P) | extract_lets | with_reducible apply hP.modArb | with_reducible apply State.bump_stable hP | with_reducible apply iff_stable (P := P) | with_reducible apply foldl_stable (P := P) | with_reducible apply foldl_stable_fst (P := P) | with_reducible apply foldl_stable_snd (P := P) | split | intro _ | dsimp +zetaDelta only []
theorem State.decideArb_stable (s : State) (a : Nat) (hm : P s) : P (State.decideArb s a) := by
  unfold State.decideArb; repeat' first | with_reducible assumption | with_reducible apply answers_next (P := P) | extract_lets | with_reducible apply State.showArb_stable hP | with_reducible apply State.bump_stable hP | with_reducible apply hP.modArb | with_reducible apply State.hold_stable hP | with_reducible apply State.arbLose_stable hP | with_reducible apply iff_stable (P := P) | with_reducible apply foldl_stable (P := P) | with_reducible apply foldl_stable_fst (P := P) | with_reducible apply foldl_stable_snd (P := P) | split | intro _ | dsimp +zetaDelta only []
theorem State.arbRaised_stable (s : State) (a : Nat) (r : Nat) (hm : P s) : P (State.arbRaised s a r) := by
  unfold State.arbRaised; repeat' first | with_reducible assumption | with_reducible apply answers_next (P := P) | extract_lets | with_reducible apply State.hold_stable hP | with_reducible apply State.decideArb_stable hP | with_reducible apply State.arbLose_stable hP | with_reducible apply iff_stable (P := P) | with_reducible apply foldl_stable (P := P) | with_reducible apply foldl_stable_fst (P := P) | with_reducible apply foldl_stable_snd (P := P) | split | intro _ | dsimp +zetaDelta only []
theorem State.arbAsk_stable (s : State) (a : Nat) (r : Nat) (hm : P s) : P (State.arbAsk s a r) := by
  unfold State.arbAsk; repeat' first | with_reducible assumption | with_reducible apply answers_next (P := P) | extract_lets | with_reducible apply State.hold_stable hP | with_reducible apply hP.modArb | with_reducible apply State.arbRaised_stable hP | with_reducible apply iff_stable (P := P) | with_reducible apply foldl_stable (P := P) | with_reducible apply foldl_stable_fst (P := P) | with_reducible apply foldl_stable_snd (P := P) | split | intro _ | dsimp +zetaDelta only []
theorem State.rspWrite_stable (s : State) (p : Nat) (i : Nat) (l : List Byte) (hm : P s) : P (State.rspWrite s p i l) := by
  unfold State.rspWrite; repeat' first | with_reducible assumption | with_reducible apply answers_next (P := P) | extract_lets | with_reducible apply State.wrN_stable hP | with_reducible apply iff_stable (P := P) | with_reducible apply foldl_stable (P := P) | with_reducible apply foldl_stable_fst (P := P) | with_reducible apply foldl_stable_snd (P := P) | split | intro _ | dsimp +zetaDelta only []
theorem State.mboxLeave_stable (s : State) (p : Nat) (hm : P s) : P (State.mboxLeave s p) := by
  unfold State.mboxLeave; repeat' first | with_reducible assumption | with_reducible apply answers_next (P := P) | extract_lets | with_reducible apply hP.modMc | (intro _; rfl) | with_reducible apply iff_stable (P := P) | with_reducible apply foldl_stable (P := P) | with_reducible apply foldl_stable_fst (P := P) | with_reducible apply foldl_stable_snd (P := P) | split | intro _ | dsimp +zetaDelta only []
theorem State.mboxDone_stable (s : State) (p : Nat) (result : Nat) (hm : P s) : P (State.mboxDone s p result) := by
  unfold State.mboxDone; repeat' first | with_reducible assumption | with_reducible apply answers_next (P := P) | extract_lets | with_reducible apply State.put_stable hP | with_reducible apply State.putB_stable hP | with_reducible apply State.mboxLeave_stable hP | with_reducible apply State.irqPort_stable hP | with_reducible apply State.logC_stable hP | with_reducible apply iff_stable (P := P) | with_reducible apply foldl_stable (P := P) | with_reducible apply foldl_stable_fst (P := P) | with_reducible apply foldl_stable_snd (P := P) | split | intro _ | dsimp +zetaDelta only []
theorem State.answer_stable (s : State) (p : Nat) (result : Nat) (detail : Nat) (payload : List Byte) (hm : P s) : P (State.answer s p result detail payload) := by
  unfold State.answer; repeat' first | with_reducible assumption | with_reducible apply answers_next (P := P) | extract_lets | with_reducible apply State.rspWrite_stable hP | with_reducible apply State.mboxDone_stable hP | with_reducible apply iff_stable (P := P) | with_reducible apply foldl_stable (P := P) | with_reducible apply foldl_stable_fst (P := P) | with_reducible apply foldl_stable_snd (P := P) | split | intro _ | dsimp +zetaDelta only []
theorem State.answerFree_stable (s : State) (p : Nat) (result : Nat) (payload : List Byte) (hm : P s) : P (State.answerFree s p result payload) := by
  unfold State.answerFree; repeat' first | with_reducible assumption | with_reducible apply answers_next (P := P) | extract_lets | with_reducible apply hP.free | with_reducible apply State.answer_stable hP | with_reducible apply iff_stable (P := P) | with_reducible apply foldl_stable (P := P) | with_reducible apply foldl_stable_fst (P := P) | with_reducible apply foldl_stable_snd (P := P) | split | intro _ | dsimp +zetaDelta only []
theorem State.modSport_stable (s : State) (p : Nat) (f : SillPort → SillPort) (hm : P s) : P (State.modSport s p f) := by
  unfold State.modSport; repeat' first | with_reducible assumption | with_reducible apply answers_next (P := P) | extract_lets | with_reducible apply hP.setSport | with_reducible apply iff_stable (P := P) | with_reducible apply foldl_stable (P := P) | with_reducible apply foldl_stable_fst (P := P) | with_reducible apply foldl_stable_snd (P := P) | split | intro _ | dsimp +zetaDelta only []
theorem State.sillDiscard_stable (s : State) (p : Nat) (hm : P s) : P (State.sillDiscard s p) := by
  unfold State.sillDiscard; repeat' first | with_reducible assumption | with_reducible apply answers_next (P := P) | extract_lets | with_reducible apply State.bump_stable hP | with_reducible apply State.logCount_stable hP | with_reducible apply iff_stable (P := P) | with_reducible apply foldl_stable (P := P) | with_reducible apply foldl_stable_fst (P := P) | with_reducible apply foldl_stable_snd (P := P) | split | intro _ | dsimp +zetaDelta only []
theorem State.sillTx_stable (s : State) (p : Nat) (t : SillTx) (hm : P s) : P (State.sillTx s p t) := by
  unfold State.sillTx; repeat' first | with_reducible assumption | with_reducible apply answers_next (P := P) | extract_lets | with_reducible apply State.bump_stable hP | with_reducible apply State.raise_stable hP | with_reducible apply State.logOnce_stable hP | with_reducible apply State.modSport_stable hP | with_reducible apply iff_stable (P := P) | with_reducible apply foldl_stable (P := P) | with_reducible apply foldl_stable_fst (P := P) | with_reducible apply foldl_stable_snd (P := P) | split | intro _ | dsimp +zetaDelta only []
theorem State.sillSendRole_stable (s : State) (role : Nat) (t : SillTx) (hm : P s) : P (State.sillSendRole s role t) := by
  unfold State.sillSendRole; repeat' first | with_reducible assumption | with_reducible apply answers_next (P := P) | extract_lets | with_reducible apply State.sillTx_stable hP | with_reducible apply iff_stable (P := P) | with_reducible apply foldl_stable (P := P) | with_reducible apply foldl_stable_fst (P := P) | with_reducible apply foldl_stable_snd (P := P) | split | intro _ | dsimp +zetaDelta only []
theorem State.sillUp_stable (s : State) (t : SillTx) (hm : P s) : P (State.sillUp s t) := by
  unfold State.sillUp; repeat' first | with_reducible assumption | with_reducible apply answers_next (P := P) | extract_lets | with_reducible apply State.sillSendRole_stable hP | with_reducible apply State.sillTx_stable hP | with_reducible apply iff_stable (P := P) | with_reducible apply foldl_stable (P := P) | with_reducible apply foldl_stable_fst (P := P) | with_reducible apply foldl_stable_snd (P := P) | split | intro _ | dsimp +zetaDelta only []
theorem State.sillDrain_stable (s : State) (p : Nat) (hm : P s) : P (State.sillDrain s p) := by
  unfold State.sillDrain; repeat' first | with_reducible assumption | with_reducible apply answers_next (P := P) | extract_lets | with_reducible apply hP.setSport | with_reducible apply hP.emit | with_reducible apply State.putB_stable hP | with_reducible apply iff_stable (P := P) | with_reducible apply foldl_stable (P := P) | with_reducible apply foldl_stable_fst (P := P) | with_reducible apply foldl_stable_snd (P := P) | split | intro _ | dsimp +zetaDelta only []
theorem State.fabricSend_stable (s : State) (line : Nat) (hop : Nat) (hm : P s) : P (State.fabricSend s line hop) := by
  unfold State.fabricSend; repeat' first | with_reducible assumption | with_reducible apply answers_next (P := P) | extract_lets | with_reducible apply hP.modSill | with_reducible apply State.sillUp_stable hP | with_reducible apply iff_stable (P := P) | with_reducible apply foldl_stable (P := P) | with_reducible apply foldl_stable_fst (P := P) | with_reducible apply foldl_stable_snd (P := P) | split | intro _ | dsimp +zetaDelta only []
theorem State.consLost_stable (s : State) (c : Nat) (n : Nat) (hm : P s) : P (State.consLost s c n) := by
  unfold State.consLost; repeat' first | with_reducible assumption | with_reducible apply answers_next (P := P) | extract_lets | with_reducible apply State.bump_stable hP | with_reducible apply State.putB_stable hP | with_reducible apply State.logCount_stable hP | with_reducible apply iff_stable (P := P) | with_reducible apply foldl_stable (P := P) | with_reducible apply foldl_stable_fst (P := P) | with_reducible apply foldl_stable_snd (P := P) | split | intro _ | dsimp +zetaDelta only []
theorem State.evtEnter_stable (s : State) (p : Nat) (hop : Nat) (hm : P s) : P (State.evtEnter s p hop) := by
  unfold State.evtEnter; repeat' first | with_reducible assumption | with_reducible apply answers_next (P := P) | extract_lets | with_reducible apply hP.modEvt | with_reducible apply iff_stable (P := P) | with_reducible apply foldl_stable (P := P) | with_reducible apply foldl_stable_fst (P := P) | with_reducible apply foldl_stable_snd (P := P) | split | intro _ | dsimp +zetaDelta only []
theorem State.produce_stable (s : State) (p : Nat) (hop : Nat) (hm : P s) : P (State.produce s p hop) := by
  unfold State.produce; repeat' first | with_reducible assumption | with_reducible apply answers_next (P := P) | extract_lets | with_reducible apply State.bump_stable hP | with_reducible apply State.put_stable hP | with_reducible apply State.putB_stable hP | with_reducible apply State.logOnce_stable hP | with_reducible apply State.consLost_stable hP | with_reducible apply State.evtEnter_stable hP | with_reducible apply State.fabricSend_stable hP | with_reducible apply iff_stable (P := P) | with_reducible apply foldl_stable (P := P) | with_reducible apply foldl_stable_fst (P := P) | with_reducible apply foldl_stable_snd (P := P) | split | intro _ | dsimp +zetaDelta only []
theorem State.showKerf_stable (s : State) (l : Nat) (hm : P s) : P (State.showKerf s l) := by
  unfold State.showKerf; repeat' first | with_reducible assumption | with_reducible apply answers_next (P := P) | extract_lets | with_reducible apply State.put_stable hP | with_reducible apply iff_stable (P := P) | with_reducible apply foldl_stable (P := P) | with_reducible apply foldl_stable_fst (P := P) | with_reducible apply foldl_stable_snd (P := P) | split | intro _ | dsimp +zetaDelta only []
theorem State.kerfRelease_stable (s : State) (l : Nat) (n : Nat) (hm : P s) : P (State.kerfRelease s l n) := by
  unfold State.kerfRelease; repeat' first | with_reducible assumption | with_reducible apply answers_next (P := P) | extract_lets | with_reducible apply hP.modKrf | with_reducible apply State.showKerf_stable hP | with_reducible apply State.arbAsk_stable hP | with_reducible apply iff_stable (P := P) | with_reducible apply foldl_stable (P := P) | with_reducible apply foldl_stable_fst (P := P) | with_reducible apply foldl_stable_snd (P := P) | split | intro _ | dsimp +zetaDelta only []
theorem State.kerfFlush_stable (s : State) (l : Nat) (hm : P s) : P (State.kerfFlush s l) := by
  unfold State.kerfFlush; repeat' first | with_reducible assumption | with_reducible apply answers_next (P := P) | extract_lets | with_reducible apply State.kerfRelease_stable hP | with_reducible apply State.bump_stable hP | with_reducible apply State.logC_stable hP | with_reducible apply iff_stable (P := P) | with_reducible apply foldl_stable (P := P) | with_reducible apply foldl_stable_fst (P := P) | with_reducible apply foldl_stable_snd (P := P) | split | intro _ | dsimp +zetaDelta only []
theorem State.laneEvent_stable (s : State) (l : Nat) (b : Nat) (hm : P s) : P (State.laneEvent s l b) := by
  unfold State.laneEvent; repeat' first | with_reducible assumption | with_reducible apply answers_next (P := P) | extract_lets | with_reducible apply State.produce_stable hP | with_reducible apply State.raise_stable hP | with_reducible apply iff_stable (P := P) | with_reducible apply foldl_stable (P := P) | with_reducible apply foldl_stable_fst (P := P) | with_reducible apply foldl_stable_snd (P := P) | split | intro _ | dsimp +zetaDelta only []
theorem State.txStamp_stable (s : State) (hm : P s) : P (State.txStamp s).2 := by
  unfold State.txStamp; repeat' first | with_reducible assumption | with_reducible apply answers_next (P := P) | extract_lets | with_reducible apply hP.free | with_reducible apply iff_stable (P := P) | with_reducible apply foldl_stable (P := P) | with_reducible apply foldl_stable_fst (P := P) | with_reducible apply foldl_stable_snd (P := P) | split | intro _ | dsimp +zetaDelta only []
theorem State.compute_stable (s : State) (q : Nat) (hm : P s) : P (State.compute s q) := by
  unfold State.compute; repeat' first | with_reducible assumption | with_reducible apply answers_next (P := P) | extract_lets | with_reducible apply hP.modSq | with_reducible apply State.putB_stable hP | with_reducible apply iff_stable (P := P) | with_reducible apply foldl_stable (P := P) | with_reducible apply foldl_stable_fst (P := P) | with_reducible apply foldl_stable_snd (P := P) | split | intro _ | dsimp +zetaDelta only []
theorem State.loadEntry_stable (s : State) (q : Nat) (i : Nat) (hm : P s) : P (State.loadEntry s q i) := by
  unfold State.loadEntry; repeat' first | with_reducible assumption | with_reducible apply answers_next (P := P) | extract_lets | with_reducible apply State.put_stable hP | with_reducible apply State.putB_stable hP | with_reducible apply hP.modSq | with_reducible apply State.compute_stable hP | with_reducible apply State.raise_stable hP | with_reducible apply State.logC_stable hP | with_reducible apply iff_stable (P := P) | with_reducible apply foldl_stable (P := P) | with_reducible apply foldl_stable_fst (P := P) | with_reducible apply foldl_stable_snd (P := P) | split | intro _ | dsimp +zetaDelta only []
theorem State.loadRing_stable (s : State) (q : Nat) (hm : P s) : P (State.loadRing s q) := by
  unfold State.loadRing; repeat' first | with_reducible assumption | with_reducible apply answers_next (P := P) | extract_lets | with_reducible apply State.putB_stable hP | with_reducible apply hP.modSq | with_reducible apply State.put_stable hP | with_reducible apply State.compute_stable hP | with_reducible apply iff_stable (P := P) | with_reducible apply foldl_stable (P := P) | with_reducible apply foldl_stable_fst (P := P) | with_reducible apply foldl_stable_snd (P := P) | split | intro _ | dsimp +zetaDelta only []
theorem State.trigStop_stable (s : State) (q : Nat) (hm : P s) : P (State.trigStop s q) := by
  unfold State.trigStop; repeat' first | with_reducible assumption | with_reducible apply answers_next (P := P) | extract_lets | with_reducible apply State.putB_stable hP | with_reducible apply hP.modSq | with_reducible apply iff_stable (P := P) | with_reducible apply foldl_stable (P := P) | with_reducible apply foldl_stable_fst (P := P) | with_reducible apply foldl_stable_snd (P := P) | split | intro _ | dsimp +zetaDelta only []
theorem State.nextTarget_stable (s : State) (q : Nat) (hm : P s) : P (State.nextTarget s q) := by
  unfold State.nextTarget; repeat' first | with_reducible assumption | with_reducible apply answers_next (P := P) | extract_lets | with_reducible apply hP.modSq | with_reducible apply State.compute_stable hP | with_reducible apply State.put_stable hP | with_reducible apply State.loadRing_stable hP | with_reducible apply State.trigStop_stable hP | with_reducible apply State.logC_stable hP | with_reducible apply State.loadEntry_stable hP | with_reducible apply iff_stable (P := P) | with_reducible apply foldl_stable (P := P) | with_reducible apply foldl_stable_fst (P := P) | with_reducible apply foldl_stable_snd (P := P) | split | intro _ | dsimp +zetaDelta only []
theorem State.firstTarget_stable (s : State) (q : Nat) (hm : P s) : P (State.firstTarget s q) := by
  unfold State.firstTarget; repeat' first | with_reducible assumption | with_reducible apply answers_next (P := P) | extract_lets | with_reducible apply hP.modSq | with_reducible apply State.putB_stable hP | with_reducible apply State.wrS_stable hP | with_reducible apply State.compute_stable hP | with_reducible apply State.loadRing_stable hP | with_reducible apply State.loadEntry_stable hP | with_reducible apply iff_stable (P := P) | with_reducible apply foldl_stable (P := P) | with_reducible apply foldl_stable_fst (P := P) | with_reducible apply foldl_stable_snd (P := P) | split | intro _ | dsimp +zetaDelta only []
theorem State.trigFlush_stable (s : State) (q : Nat) (hm : P s) : P (State.trigFlush s q) := by
  unfold State.trigFlush; repeat' first | with_reducible assumption | with_reducible apply answers_next (P := P) | extract_lets | with_reducible apply State.kerfFlush_stable hP | with_reducible apply iff_stable (P := P) | with_reducible apply foldl_stable (P := P) | with_reducible apply foldl_stable_fst (P := P) | with_reducible apply foldl_stable_snd (P := P) | split | intro _ | dsimp +zetaDelta only []
theorem State.trigStart_stable (s : State) (q : Nat) (hm : P s) : P (State.trigStart s q) := by
  unfold State.trigStart; repeat' first | with_reducible assumption | with_reducible apply answers_next (P := P) | extract_lets | with_reducible apply State.putB_stable hP | with_reducible apply State.put_stable hP | with_reducible apply State.firstTarget_stable hP | with_reducible apply State.trigFlush_stable hP | with_reducible apply iff_stable (P := P) | with_reducible apply foldl_stable (P := P) | with_reducible apply foldl_stable_fst (P := P) | with_reducible apply foldl_stable_snd (P := P) | split | intro _ | dsimp +zetaDelta only []
theorem State.showCommitted_stable (s : State) (q : Nat) (hm : P s) : P (State.showCommitted s q) := by
  unfold State.showCommitted; repeat' first | with_reducible assumption | with_reducible apply answers_next (P := P) | extract_lets | with_reducible apply State.putB_stable hP | with_reducible apply iff_stable (P := P) | with_reducible apply foldl_stable (P := P) | with_reducible apply foldl_stable_fst (P := P) | with_reducible apply foldl_stable_snd (P := P) | split | intro _ | dsimp +zetaDelta only []
theorem State.fire_stable (s : State) (q : Nat) (tf : Int) (ld : Int × Int × Int) (late : Bool) (catchup : Bool) (compare : Bool) (hop : Nat) (hm : P s) : P (State.fire s q tf ld late catchup compare hop) := by
  unfold State.fire; repeat' first | with_reducible assumption | with_reducible apply answers_next (P := P) | extract_lets | with_reducible apply State.fired_stable hP | with_reducible apply State.wrS_stable hP | with_reducible apply hP.modSq | with_reducible apply hP.modTrigs | with_reducible apply State.bump_stable hP | with_reducible apply State.showCommitted_stable hP | with_reducible apply iff_stable (P := P) | with_reducible apply foldl_stable (P := P) | with_reducible apply foldl_stable_fst (P := P) | with_reducible apply foldl_stable_snd (P := P) | split | intro _ | dsimp +zetaDelta only []
theorem State.countLate_stable (s : State) (q : Nat) (hm : P s) : P (State.countLate s q) := by
  unfold State.countLate; repeat' first | with_reducible assumption | with_reducible apply answers_next (P := P) | extract_lets | with_reducible apply State.bump_stable hP | with_reducible apply State.raise_stable hP | with_reducible apply State.logCount_stable hP | with_reducible apply iff_stable (P := P) | with_reducible apply foldl_stable (P := P) | with_reducible apply foldl_stable_fst (P := P) | with_reducible apply foldl_stable_snd (P := P) | split | intro _ | dsimp +zetaDelta only []
theorem State.reportLate_stable (s : State) (t : Trigger) (hm : P s) : P (State.reportLate s t) := by
  unfold State.reportLate; repeat' first | with_reducible assumption | with_reducible apply answers_next (P := P) | extract_lets | with_reducible apply hP.modTrigs | with_reducible apply State.raise_stable hP | with_reducible apply State.countLate_stable hP | with_reducible apply iff_stable (P := P) | with_reducible apply foldl_stable (P := P) | with_reducible apply foldl_stable_fst (P := P) | with_reducible apply foldl_stable_snd (P := P) | split | intro _ | dsimp +zetaDelta only []
theorem State.reportNotSent_stable (s : State) (t : Trigger) (hm : P s) : P (State.reportNotSent s t) := by
  unfold State.reportNotSent; repeat' first | with_reducible assumption | with_reducible apply answers_next (P := P) | extract_lets | with_reducible apply hP.modTrigs | with_reducible apply State.bump_stable hP | with_reducible apply State.raise_stable hP | with_reducible apply State.logCount_stable hP | with_reducible apply State.showCommitted_stable hP | with_reducible apply iff_stable (P := P) | with_reducible apply foldl_stable (P := P) | with_reducible apply foldl_stable_fst (P := P) | with_reducible apply foldl_stable_snd (P := P) | split | intro _ | dsimp +zetaDelta only []
theorem State.reportUnserved_stable (s : State) (t : Trigger) (hm : P s) : P (State.reportUnserved s t) := by
  unfold State.reportUnserved; repeat' first | with_reducible assumption | with_reducible apply answers_next (P := P) | extract_lets | with_reducible apply hP.modTrigs | with_reducible apply State.bump_stable hP | with_reducible apply State.raise_stable hP | with_reducible apply State.logCount_stable hP | with_reducible apply iff_stable (P := P) | with_reducible apply foldl_stable (P := P) | with_reducible apply foldl_stable_fst (P := P) | with_reducible apply foldl_stable_snd (P := P) | split | intro _ | dsimp +zetaDelta only []
theorem State.skip_stable (s : State) (q : Nat) (hm : P s) : P (State.skip s q) := by
  unfold State.skip; repeat' first | with_reducible assumption | with_reducible apply answers_next (P := P) | extract_lets | with_reducible apply State.bump_stable hP | with_reducible apply State.raise_stable hP | with_reducible apply State.logCount_stable hP | with_reducible apply iff_stable (P := P) | with_reducible apply foldl_stable (P := P) | with_reducible apply foldl_stable_fst (P := P) | with_reducible apply foldl_stable_snd (P := P) | split | intro _ | dsimp +zetaDelta only []
theorem State.judge_stable (s : State) (q : Nat) (tf : Int) (compare : Bool) (keep : Bool) (hop : Nat) (hm : P s) : P (State.judge s q tf compare keep hop) := by
  unfold State.judge; repeat' first | with_reducible assumption | with_reducible apply answers_next (P := P) | extract_lets | with_reducible apply State.nextTarget_stable hP | with_reducible apply State.putB_stable hP | with_reducible apply hP.modSq | with_reducible apply State.fire_stable hP | with_reducible apply State.countLate_stable hP | with_reducible apply State.skip_stable hP | with_reducible apply iff_stable (P := P) | with_reducible apply foldl_stable (P := P) | with_reducible apply foldl_stable_fst (P := P) | with_reducible apply foldl_stable_snd (P := P) | split | intro _ | dsimp +zetaDelta only []
theorem State.coldPass_stable (s : State) (q n : Nat) (hm : P s) : P (State.coldPass s q n) := by
  induction n generalizing s with
  | zero => unfold State.coldPass; (repeat' first | with_reducible assumption | with_reducible apply answers_next (P := P) | extract_lets | with_reducible apply State.bump_stable hP | with_reducible apply State.nextTarget_stable hP | with_reducible apply iff_stable (P := P) | with_reducible apply foldl_stable (P := P) | with_reducible apply foldl_stable_fst (P := P) | with_reducible apply foldl_stable_snd (P := P) | split | intro _ | dsimp +zetaDelta only [])
  | succ _ ih => unfold State.coldPass; repeat' first | with_reducible apply ih | with_reducible assumption | with_reducible apply answers_next (P := P) | extract_lets | with_reducible apply State.bump_stable hP | with_reducible apply State.nextTarget_stable hP | with_reducible apply iff_stable (P := P) | with_reducible apply foldl_stable (P := P) | with_reducible apply foldl_stable_fst (P := P) | with_reducible apply foldl_stable_snd (P := P) | split | intro _ | dsimp +zetaDelta only []
theorem State.coldTest_stable (s : State) (q : Nat) (hm : P s) : P (State.coldTest s q) := by
  unfold State.coldTest; repeat' first | with_reducible assumption | with_reducible apply answers_next (P := P) | extract_lets | with_reducible apply hP.modSq | with_reducible apply State.judge_stable hP | with_reducible apply State.coldPass_stable hP | with_reducible apply iff_stable (P := P) | with_reducible apply foldl_stable (P := P) | with_reducible apply foldl_stable_fst (P := P) | with_reducible apply foldl_stable_snd (P := P) | split | intro _ | dsimp +zetaDelta only []
theorem State.cleanTrigs_stable (s : State) (hm : P s) : P (State.cleanTrigs s) := by
  unfold State.cleanTrigs; repeat' first | with_reducible assumption | with_reducible apply answers_next (P := P) | extract_lets | with_reducible apply hP.modTrigs | with_reducible apply iff_stable (P := P) | with_reducible apply foldl_stable (P := P) | with_reducible apply foldl_stable_fst (P := P) | with_reducible apply foldl_stable_snd (P := P) | split | intro _ | dsimp +zetaDelta only []
theorem State.recompute_stable (s : State) (c : Nat) (hm : P s) : P (State.recompute s c) := by
  unfold State.recompute; repeat' first | with_reducible assumption | with_reducible apply answers_next (P := P) | extract_lets | with_reducible apply State.compute_stable hP | with_reducible apply iff_stable (P := P) | with_reducible apply foldl_stable (P := P) | with_reducible apply foldl_stable_fst (P := P) | with_reducible apply foldl_stable_snd (P := P) | split | intro _ | dsimp +zetaDelta only []
theorem State.counted_stable (s : State) (c : Nat) (hm : P s) : P (State.counted s c) := by
  unfold State.counted; repeat' first | with_reducible assumption | with_reducible apply answers_next (P := P) | extract_lets | with_reducible apply State.coldTest_stable hP | with_reducible apply iff_stable (P := P) | with_reducible apply foldl_stable (P := P) | with_reducible apply foldl_stable_fst (P := P) | with_reducible apply foldl_stable_snd (P := P) | split | intro _ | dsimp +zetaDelta only []
theorem State.trigOffset_stable (s : State) (d : Int) (step : Bool) (q : Nat) (hm : P s) : P (State.trigOffset s d step q) := by
  unfold State.trigOffset; repeat' first | with_reducible assumption | with_reducible apply answers_next (P := P) | extract_lets | with_reducible apply State.wrS_stable hP | with_reducible apply State.raise_stable hP | with_reducible apply State.log64_stable hP | with_reducible apply iff_stable (P := P) | with_reducible apply foldl_stable (P := P) | with_reducible apply foldl_stable_fst (P := P) | with_reducible apply foldl_stable_snd (P := P) | split | intro _ | dsimp +zetaDelta only []
theorem State.trigCold_stable (s : State) (c : Nat) (hm : P s) : P (State.trigCold s c) := by
  unfold State.trigCold; repeat' first | with_reducible assumption | with_reducible apply answers_next (P := P) | extract_lets | with_reducible apply State.putB_stable hP | with_reducible apply State.raise_stable hP | with_reducible apply State.logC_stable hP | with_reducible apply iff_stable (P := P) | with_reducible apply foldl_stable (P := P) | with_reducible apply foldl_stable_fst (P := P) | with_reducible apply foldl_stable_snd (P := P) | split | intro _ | dsimp +zetaDelta only []
theorem State.warmPass_stable (s : State) (q n : Nat) (hm : P s) : P (State.warmPass s q n) := by
  induction n generalizing s with
  | zero => unfold State.warmPass; (repeat' first | with_reducible assumption | with_reducible apply answers_next (P := P) | extract_lets | with_reducible apply State.bump_stable hP | with_reducible apply State.nextTarget_stable hP | with_reducible apply iff_stable (P := P) | with_reducible apply foldl_stable (P := P) | with_reducible apply foldl_stable_fst (P := P) | with_reducible apply foldl_stable_snd (P := P) | split | intro _ | dsimp +zetaDelta only [])
  | succ _ ih => unfold State.warmPass; repeat' first | with_reducible apply ih | with_reducible assumption | with_reducible apply answers_next (P := P) | extract_lets | with_reducible apply State.bump_stable hP | with_reducible apply State.nextTarget_stable hP | with_reducible apply iff_stable (P := P) | with_reducible apply foldl_stable (P := P) | with_reducible apply foldl_stable_fst (P := P) | with_reducible apply foldl_stable_snd (P := P) | split | intro _ | dsimp +zetaDelta only []
theorem State.trigWarm_stable (s : State) (c : Nat) (hm : P s) : P (State.trigWarm s c) := by
  unfold State.trigWarm; repeat' first | with_reducible assumption | with_reducible apply answers_next (P := P) | extract_lets | with_reducible apply State.putB_stable hP | with_reducible apply State.raise_stable hP | with_reducible apply State.logC_stable hP | with_reducible apply State.compute_stable hP | with_reducible apply State.warmPass_stable hP | with_reducible apply iff_stable (P := P) | with_reducible apply foldl_stable (P := P) | with_reducible apply foldl_stable_fst (P := P) | with_reducible apply foldl_stable_snd (P := P) | split | intro _ | dsimp +zetaDelta only []
theorem State.trigReverse_stable (s : State) (c : Nat) (hm : P s) : P (State.trigReverse s c) := by
  unfold State.trigReverse; repeat' first | with_reducible assumption | with_reducible apply answers_next (P := P) | extract_lets | with_reducible apply hP.modSq | with_reducible apply State.compute_stable hP | with_reducible apply State.putB_stable hP | with_reducible apply State.raise_stable hP | with_reducible apply State.bump_stable hP | with_reducible apply State.logC_stable hP | with_reducible apply iff_stable (P := P) | with_reducible apply foldl_stable (P := P) | with_reducible apply foldl_stable_fst (P := P) | with_reducible apply foldl_stable_snd (P := P) | split | intro _ | dsimp +zetaDelta only []
theorem State.pinActive_stable (s : State) (g : Nat) (b : Bool) (hm : P s) : P (State.pinActive s g b) := by
  unfold State.pinActive; repeat' first | with_reducible assumption | with_reducible apply answers_next (P := P) | extract_lets | with_reducible apply State.putB_stable hP | with_reducible apply iff_stable (P := P) | with_reducible apply foldl_stable (P := P) | with_reducible apply foldl_stable_fst (P := P) | with_reducible apply foldl_stable_snd (P := P) | split | intro _ | dsimp +zetaDelta only []
theorem State.endPulses_stable (s : State) (owner : Nat) (index : Nat) (hm : P s) : P (State.endPulses s owner index) := by
  unfold State.endPulses; repeat' first | with_reducible assumption | with_reducible apply answers_next (P := P) | extract_lets | with_reducible apply hP.setPulseEnd | with_reducible apply State.pinActive_stable hP | with_reducible apply iff_stable (P := P) | with_reducible apply foldl_stable (P := P) | with_reducible apply foldl_stable_fst (P := P) | with_reducible apply foldl_stable_snd (P := P) | split | intro _ | dsimp +zetaDelta only []
theorem State.fit_stable (s : State) (w : Nat) (i : Int) (hm : P s) : P (State.fit s w i).2 := by
  unfold State.fit; repeat' first | with_reducible assumption | with_reducible apply answers_next (P := P) | extract_lets | with_reducible apply hP.free | with_reducible apply iff_stable (P := P) | with_reducible apply foldl_stable (P := P) | with_reducible apply foldl_stable_fst (P := P) | with_reducible apply foldl_stable_snd (P := P) | split | intro _ | dsimp +zetaDelta only []
theorem State.setWarm_stable (s : State) (c : Nat) (b : Bool) (hm : P s) : P (State.setWarm s c b) := by
  unfold State.setWarm; repeat' first | with_reducible assumption | with_reducible apply answers_next (P := P) | extract_lets | with_reducible apply State.putB_stable hP | with_reducible apply State.raise_stable hP | with_reducible apply State.logC_stable hP | with_reducible apply State.trigWarm_stable hP | with_reducible apply State.trigCold_stable hP | with_reducible apply iff_stable (P := P) | with_reducible apply foldl_stable (P := P) | with_reducible apply foldl_stable_fst (P := P) | with_reducible apply foldl_stable_snd (P := P) | split | intro _ | dsimp +zetaDelta only []
theorem State.setOwnWarm_stable (s : State) (c : Nat) (b : Bool) (hm : P s) : P (State.setOwnWarm s c b) := by
  unfold State.setOwnWarm; repeat' first | with_reducible assumption | with_reducible apply answers_next (P := P) | extract_lets | with_reducible apply hP.modPch | with_reducible apply State.setWarm_stable hP | with_reducible apply iff_stable (P := P) | with_reducible apply foldl_stable (P := P) | with_reducible apply foldl_stable_fst (P := P) | with_reducible apply foldl_stable_snd (P := P) | split | intro _ | dsimp +zetaDelta only []
theorem State.setDir_stable (s : State) (c : Nat) (b : Bool) (hm : P s) : P (State.setDir s c b) := by
  unfold State.setDir; repeat' first | with_reducible assumption | with_reducible apply answers_next (P := P) | extract_lets | with_reducible apply State.putB_stable hP | with_reducible apply State.trigReverse_stable hP | with_reducible apply iff_stable (P := P) | with_reducible apply foldl_stable (P := P) | with_reducible apply foldl_stable_fst (P := P) | with_reducible apply foldl_stable_snd (P := P) | split | intro _ | dsimp +zetaDelta only []
theorem State.obsStart_stable (s : State) (c : Nat) (t : Int) (hm : P s) : P (State.obsStart s c t) := by
  unfold State.obsStart; repeat' first | with_reducible assumption | with_reducible apply answers_next (P := P) | extract_lets | with_reducible apply State.setOwnWarm_stable hP | with_reducible apply hP.modPch | with_reducible apply State.recompute_stable hP | with_reducible apply iff_stable (P := P) | with_reducible apply foldl_stable (P := P) | with_reducible apply foldl_stable_fst (P := P) | with_reducible apply foldl_stable_snd (P := P) | split | intro _ | dsimp +zetaDelta only []
theorem State.reversal_stable (s : State) (c : Nat) (hm : P s) : P (State.reversal s c) := by
  unfold State.reversal; repeat' first | with_reducible assumption | with_reducible apply answers_next (P := P) | extract_lets | with_reducible apply hP.modPch | with_reducible apply State.bump_stable hP | with_reducible apply State.raise_stable hP | with_reducible apply State.produce_stable hP | with_reducible apply State.setDir_stable hP | with_reducible apply iff_stable (P := P) | with_reducible apply foldl_stable (P := P) | with_reducible apply foldl_stable_fst (P := P) | with_reducible apply foldl_stable_snd (P := P) | split | intro _ | dsimp +zetaDelta only []
theorem State.dirRule_stable (s : State) (c : Nat) (b : Int) (a : Int) (hm : P s) : P (State.dirRule s c b a) := by
  unfold State.dirRule; repeat' first | with_reducible assumption | with_reducible apply answers_next (P := P) | extract_lets | with_reducible apply State.reversal_stable hP | with_reducible apply hP.modPch | with_reducible apply iff_stable (P := P) | with_reducible apply foldl_stable (P := P) | with_reducible apply foldl_stable_fst (P := P) | with_reducible apply foldl_stable_snd (P := P) | split | intro _ | dsimp +zetaDelta only []
theorem State.probeTake_stable (s : State) (c : Nat) (t : Int) (hm : P s) : P (State.probeTake s c t) := by
  unfold State.probeTake; repeat' first | with_reducible assumption | with_reducible apply answers_next (P := P) | extract_lets | with_reducible apply State.wrS_stable hP | with_reducible apply State.wrN_stable hP | with_reducible apply iff_stable (P := P) | with_reducible apply foldl_stable (P := P) | with_reducible apply foldl_stable_fst (P := P) | with_reducible apply foldl_stable_snd (P := P) | split | intro _ | dsimp +zetaDelta only []
theorem State.snapTake_stable (s : State) (c : Nat) (t : Int) (hm : P s) : P (State.snapTake s c t) := by
  unfold State.snapTake; repeat' first | with_reducible assumption | with_reducible apply answers_next (P := P) | extract_lets | with_reducible apply State.wrS_stable hP | with_reducible apply iff_stable (P := P) | with_reducible apply foldl_stable (P := P) | with_reducible apply foldl_stable_fst (P := P) | with_reducible apply foldl_stable_snd (P := P) | split | intro _ | dsimp +zetaDelta only []
theorem State.recapture_stable (s : State) (c : Nat) (hm : P s) : P (State.recapture s c) := by
  unfold State.recapture; repeat' first | with_reducible assumption | with_reducible apply answers_next (P := P) | extract_lets | with_reducible apply State.wrS_stable hP | with_reducible apply State.probeTake_stable hP | with_reducible apply State.snapTake_stable hP | with_reducible apply iff_stable (P := P) | with_reducible apply foldl_stable (P := P) | with_reducible apply foldl_stable_fst (P := P) | with_reducible apply foldl_stable_snd (P := P) | split | intro _ | dsimp +zetaDelta only []
theorem State.countBy_stable (s : State) (c : Nat) (d : Int) (hm : P s) : P (State.countBy s c d) := by
  unfold State.countBy; repeat' first | with_reducible assumption | with_reducible apply answers_next (P := P) | extract_lets | with_reducible apply State.wrS_stable hP | with_reducible apply State.dirRule_stable hP | with_reducible apply State.counted_stable hP | with_reducible apply State.recapture_stable hP | with_reducible apply iff_stable (P := P) | with_reducible apply foldl_stable (P := P) | with_reducible apply foldl_stable_fst (P := P) | with_reducible apply foldl_stable_snd (P := P) | split | intro _ | dsimp +zetaDelta only []
theorem State.offset_stable (s : State) (c : Nat) (d : Int) (step : Option Nat) (fromIndex : Bool) (hm : P s) : P (State.offset s c d step fromIndex) := by
  unfold State.offset; repeat' first | with_reducible assumption | with_reducible apply answers_next (P := P) | extract_lets | with_reducible apply State.wrS_stable hP | with_reducible apply hP.modPch | with_reducible apply hP.modTrigs | with_reducible apply State.put_stable hP | with_reducible apply State.raise_stable hP | with_reducible apply State.log64_stable hP | with_reducible apply State.trigOffset_stable hP | with_reducible apply State.recompute_stable hP | with_reducible apply State.counted_stable hP | with_reducible apply State.recapture_stable hP | with_reducible apply iff_stable (P := P) | with_reducible apply foldl_stable (P := P) | with_reducible apply foldl_stable_fst (P := P) | with_reducible apply foldl_stable_snd (P := P) | split | intro _ | dsimp +zetaDelta only []
theorem State.posStart_stable (s : State) (c : Nat) (hm : P s) : P (State.posStart s c) := by
  unfold State.posStart; repeat' first | with_reducible assumption | with_reducible apply answers_next (P := P) | extract_lets | with_reducible apply State.wr64_stable hP | with_reducible apply State.putB_stable hP | with_reducible apply hP.modPch | with_reducible apply State.obsStart_stable hP | with_reducible apply State.trigStart_stable hP | with_reducible apply iff_stable (P := P) | with_reducible apply foldl_stable (P := P) | with_reducible apply foldl_stable_fst (P := P) | with_reducible apply foldl_stable_snd (P := P) | split | intro _ | dsimp +zetaDelta only []
theorem State.posStop_stable (s : State) (c : Nat) (hm : P s) : P (State.posStop s c) := by
  unfold State.posStop; repeat' first | with_reducible assumption | with_reducible apply answers_next (P := P) | extract_lets | with_reducible apply State.trigStop_stable hP | with_reducible apply hP.modPch | with_reducible apply iff_stable (P := P) | with_reducible apply foldl_stable (P := P) | with_reducible apply foldl_stable_fst (P := P) | with_reducible apply foldl_stable_snd (P := P) | split | intro _ | dsimp +zetaDelta only []
theorem State.illegal_stable (s : State) (c : Nat) (hm : P s) : P (State.illegal s c) := by
  unfold State.illegal; repeat' first | with_reducible assumption | with_reducible apply answers_next (P := P) | extract_lets | with_reducible apply State.bump_stable hP | with_reducible apply State.raise_stable hP | with_reducible apply State.logCount_stable hP | with_reducible apply State.setOwnWarm_stable hP | with_reducible apply iff_stable (P := P) | with_reducible apply foldl_stable (P := P) | with_reducible apply foldl_stable_fst (P := P) | with_reducible apply foldl_stable_snd (P := P) | split | intro _ | dsimp +zetaDelta only []
theorem State.edgeCount_stable (s : State) (c : Nat) (n : Int) (t : Int) (hm : P s) : P (State.edgeCount s c n t) := by
  unfold State.edgeCount; repeat' first | with_reducible assumption | with_reducible apply answers_next (P := P) | extract_lets | with_reducible apply State.countBy_stable hP | with_reducible apply hP.modPch | with_reducible apply State.wrS_stable hP | with_reducible apply State.wrTime_stable hP | with_reducible apply State.publishC_stable hP | with_reducible apply iff_stable (P := P) | with_reducible apply foldl_stable (P := P) | with_reducible apply foldl_stable_fst (P := P) | with_reducible apply foldl_stable_snd (P := P) | split | intro _ | dsimp +zetaDelta only []
theorem execEncoderTransition_stable (c : Fin 16) (a : Bool) (b : Bool) (z : Bool) (ago : Nat) (s : State) (hm : P s) : Answers P (execEncoderTransition c a b z ago s) := by
  unfold execEncoderTransition; repeat' first | with_reducible assumption | with_reducible apply answers_next (P := P) | extract_lets | with_reducible apply hP.modPch | with_reducible apply State.edgeCount_stable hP | with_reducible apply State.illegal_stable hP | with_reducible apply iff_stable (P := P) | with_reducible apply foldl_stable (P := P) | with_reducible apply foldl_stable_fst (P := P) | with_reducible apply foldl_stable_snd (P := P) | split | intro _ | dsimp +zetaDelta only []
theorem State.slipCheck_stable (s : State) (c : Nat) (t : Int) (hm : P s) : P (State.slipCheck s c t) := by
  unfold State.slipCheck; repeat' first | with_reducible assumption | with_reducible apply answers_next (P := P) | extract_lets | with_reducible apply State.wrS_stable hP | with_reducible apply State.wrTime_stable hP | with_reducible apply State.publish_stable hP | with_reducible apply State.bump_stable hP | with_reducible apply State.raise_stable hP | with_reducible apply State.log64_stable hP | with_reducible apply State.offset_stable hP | with_reducible apply iff_stable (P := P) | with_reducible apply foldl_stable (P := P) | with_reducible apply foldl_stable_fst (P := P) | with_reducible apply foldl_stable_snd (P := P) | split | intro _ | dsimp +zetaDelta only []
theorem State.setReference_stable (s : State) (c : Nat) (hm : P s) : P (State.setReference s c) := by
  unfold State.setReference; repeat' first | with_reducible assumption | with_reducible apply answers_next (P := P) | extract_lets | with_reducible apply State.offset_stable hP | with_reducible apply hP.modPch | with_reducible apply State.putB_stable hP | with_reducible apply State.raise_stable hP | with_reducible apply State.logC_stable hP | with_reducible apply iff_stable (P := P) | with_reducible apply foldl_stable (P := P) | with_reducible apply foldl_stable_fst (P := P) | with_reducible apply foldl_stable_snd (P := P) | split | intro _ | dsimp +zetaDelta only []
theorem execIndexEvent_stable (c : Fin 16) (ago : Nat) (s : State) (hm : P s) : Answers P (execIndexEvent c ago s) := by
  unfold execIndexEvent; repeat' first | with_reducible assumption | with_reducible apply answers_next (P := P) | extract_lets | with_reducible apply hP.modPch | with_reducible apply State.bump_stable hP | with_reducible apply State.raise_stable hP | with_reducible apply State.produce_stable hP | with_reducible apply State.setReference_stable hP | with_reducible apply State.slipCheck_stable hP | with_reducible apply iff_stable (P := P) | with_reducible apply foldl_stable (P := P) | with_reducible apply foldl_stable_fst (P := P) | with_reducible apply foldl_stable_snd (P := P) | split | intro _ | dsimp +zetaDelta only []
theorem execEncZFall_stable (c : Fin 16) (s : State) (hm : P s) : Answers P (execEncZFall c s) := by
  unfold execEncZFall; repeat' first | with_reducible assumption | with_reducible apply answers_next (P := P) | extract_lets | with_reducible apply hP.modPch | with_reducible apply iff_stable (P := P) | with_reducible apply foldl_stable (P := P) | with_reducible apply foldl_stable_fst (P := P) | with_reducible apply foldl_stable_snd (P := P) | split | intro _ | dsimp +zetaDelta only []
theorem execProbeEdge_stable (c : Fin 16) (level : Bool) (ago : Nat) (s : State) (hm : P s) : Answers P (execProbeEdge c level ago s) := by
  unfold execProbeEdge; repeat' first | with_reducible assumption | with_reducible apply answers_next (P := P) | extract_lets | with_reducible apply hP.modPch | with_reducible apply State.bump_stable hP | with_reducible apply State.wrN_stable hP | with_reducible apply State.probeTake_stable hP | with_reducible apply State.wrTime_stable hP | with_reducible apply State.publishC_stable hP | with_reducible apply State.raise_stable hP | with_reducible apply State.produce_stable hP | with_reducible apply iff_stable (P := P) | with_reducible apply foldl_stable (P := P) | with_reducible apply foldl_stable_fst (P := P) | with_reducible apply foldl_stable_snd (P := P) | split | intro _ | dsimp +zetaDelta only []
theorem State.posSnap_stable (s : State) (c : Nat) (hm : P s) : P (State.posSnap s c) := by
  unfold State.posSnap; repeat' first | with_reducible assumption | with_reducible apply answers_next (P := P) | extract_lets | with_reducible apply hP.modPch | with_reducible apply State.snapTake_stable hP | with_reducible apply State.wrTime_stable hP | with_reducible apply State.publishC_stable hP | with_reducible apply iff_stable (P := P) | with_reducible apply foldl_stable (P := P) | with_reducible apply foldl_stable_fst (P := P) | with_reducible apply foldl_stable_snd (P := P) | split | intro _ | dsimp +zetaDelta only []
theorem execPosSnap_stable (c : Fin 16) (s : State) (hm : P s) : Answers P (execPosSnap c s) := by
  unfold execPosSnap; repeat' first | with_reducible assumption | with_reducible apply answers_next (P := P) | extract_lets | with_reducible apply State.posSnap_stable hP | with_reducible apply iff_stable (P := P) | with_reducible apply foldl_stable (P := P) | with_reducible apply foldl_stable_fst (P := P) | with_reducible apply foldl_stable_snd (P := P) | split | intro _ | dsimp +zetaDelta only []
theorem State.presetPos_stable (s : State) (c : Nat) (hm : P s) : P (State.presetPos s c) := by
  unfold State.presetPos; repeat' first | with_reducible assumption | with_reducible apply answers_next (P := P) | extract_lets | with_reducible apply State.offset_stable hP | with_reducible apply iff_stable (P := P) | with_reducible apply foldl_stable (P := P) | with_reducible apply foldl_stable_fst (P := P) | with_reducible apply foldl_stable_snd (P := P) | split | intro _ | dsimp +zetaDelta only []
theorem State.armPos_stable (s : State) (c : Nat) (hm : P s) : P (State.armPos s c) := by
  unfold State.armPos; repeat' first | with_reducible assumption | with_reducible apply answers_next (P := P) | extract_lets | with_reducible apply State.putB_stable hP | with_reducible apply iff_stable (P := P) | with_reducible apply foldl_stable (P := P) | with_reducible apply foldl_stable_fst (P := P) | with_reducible apply foldl_stable_snd (P := P) | split | intro _ | dsimp +zetaDelta only []
theorem State.obsReset_stable (s : State) (c : Nat) (hm : P s) : P (State.obsReset s c) := by
  unfold State.obsReset; repeat' first | with_reducible assumption | with_reducible apply answers_next (P := P) | extract_lets | with_reducible apply State.obsStart_stable hP | with_reducible apply iff_stable (P := P) | with_reducible apply foldl_stable (P := P) | with_reducible apply foldl_stable_fst (P := P) | with_reducible apply foldl_stable_snd (P := P) | split | intro _ | dsimp +zetaDelta only []
theorem execPreset_stable (c : Fin 16) (s : State) (hm : P s) : Answers P (execPreset c s) := by
  unfold execPreset; repeat' first | with_reducible assumption | with_reducible apply answers_next (P := P) | extract_lets | with_reducible apply State.presetPos_stable hP | with_reducible apply iff_stable (P := P) | with_reducible apply foldl_stable (P := P) | with_reducible apply foldl_stable_fst (P := P) | with_reducible apply foldl_stable_snd (P := P) | split | intro _ | dsimp +zetaDelta only []
theorem execArm_stable (c : Fin 16) (s : State) (hm : P s) : Answers P (execArm c s) := by
  unfold execArm; repeat' first | with_reducible assumption | with_reducible apply answers_next (P := P) | extract_lets | with_reducible apply State.armPos_stable hP | with_reducible apply iff_stable (P := P) | with_reducible apply foldl_stable (P := P) | with_reducible apply foldl_stable_fst (P := P) | with_reducible apply foldl_stable_snd (P := P) | split | intro _ | dsimp +zetaDelta only []
theorem execObsReset_stable (c : Fin 16) (s : State) (hm : P s) : Answers P (execObsReset c s) := by
  unfold execObsReset; repeat' first | with_reducible assumption | with_reducible apply answers_next (P := P) | extract_lets | with_reducible apply State.obsReset_stable hP | with_reducible apply iff_stable (P := P) | with_reducible apply foldl_stable (P := P) | with_reducible apply foldl_stable_fst (P := P) | with_reducible apply foldl_stable_snd (P := P) | split | intro _ | dsimp +zetaDelta only []
theorem State.publishObs_stable (s : State) (c : Nat) (o : ObsState) (hm : P s) : P (State.publishObs s c o) := by
  unfold State.publishObs; repeat' first | with_reducible assumption | with_reducible apply answers_next (P := P) | extract_lets | with_reducible apply State.wrS_stable hP | with_reducible apply State.wrTime_stable hP | with_reducible apply State.publishC_stable hP | with_reducible apply iff_stable (P := P) | with_reducible apply foldl_stable (P := P) | with_reducible apply foldl_stable_fst (P := P) | with_reducible apply foldl_stable_snd (P := P) | split | intro _ | dsimp +zetaDelta only []
theorem State.obsUpdate_stable (s : State) (c : Nat) (z : Int) (d : Int) (t : Int) (hm : P s) : P (State.obsUpdate s c z d t) := by
  unfold State.obsUpdate; repeat' first | with_reducible assumption | with_reducible apply answers_next (P := P) | extract_lets | with_reducible apply State.fit_stable hP | with_reducible apply hP.modPch | with_reducible apply State.publishObs_stable hP | with_reducible apply State.setOwnWarm_stable hP | with_reducible apply State.recompute_stable hP | with_reducible apply iff_stable (P := P) | with_reducible apply foldl_stable (P := P) | with_reducible apply foldl_stable_fst (P := P) | with_reducible apply foldl_stable_snd (P := P) | split | intro _ | dsimp +zetaDelta only []
theorem execObserverUpdate_stable (c : Fin 16) (s : State) (hm : P s) : Answers P (execObserverUpdate c s) := by
  unfold execObserverUpdate; repeat' first | with_reducible assumption | with_reducible apply answers_next (P := P) | extract_lets | with_reducible apply State.obsUpdate_stable hP | with_reducible apply iff_stable (P := P) | with_reducible apply foldl_stable (P := P) | with_reducible apply foldl_stable_fst (P := P) | with_reducible apply foldl_stable_snd (P := P) | split | intro _ | dsimp +zetaDelta only []
theorem execSsiFrameStart_stable (c : Fin 16) (idle : Bool) (s : State) (hm : P s) : Answers P (execSsiFrameStart c idle s) := by
  unfold execSsiFrameStart; repeat' first | with_reducible assumption | with_reducible apply answers_next (P := P) | extract_lets | with_reducible apply hP.modPch | with_reducible apply iff_stable (P := P) | with_reducible apply foldl_stable (P := P) | with_reducible apply foldl_stable_fst (P := P) | with_reducible apply foldl_stable_snd (P := P) | split | intro _ | dsimp +zetaDelta only []
theorem State.ssiBad_stable (s : State) (c : Nat) (hm : P s) : P (State.ssiBad s c) := by
  unfold State.ssiBad; repeat' first | with_reducible assumption | with_reducible apply answers_next (P := P) | extract_lets | with_reducible apply State.bump_stable hP | with_reducible apply State.raise_stable hP | with_reducible apply State.putB_stable hP | with_reducible apply hP.modPch | with_reducible apply State.setOwnWarm_stable hP | with_reducible apply iff_stable (P := P) | with_reducible apply foldl_stable (P := P) | with_reducible apply foldl_stable_fst (P := P) | with_reducible apply foldl_stable_snd (P := P) | split | intro _ | dsimp +zetaDelta only []
theorem execSsiFrameEnd_stable (c : Fin 16) (raw : Nat) (s : State) (hm : P s) : Answers P (execSsiFrameEnd c raw s) := by
  unfold execSsiFrameEnd; repeat' first | with_reducible assumption | with_reducible apply answers_next (P := P) | extract_lets | with_reducible apply hP.modPch | with_reducible apply State.ssiBad_stable hP | with_reducible apply State.logCount_stable hP | with_reducible apply State.wrS_stable hP | with_reducible apply State.putB_stable hP | with_reducible apply State.raise_stable hP | with_reducible apply State.obsStart_stable hP | with_reducible apply State.countBy_stable hP | with_reducible apply State.obsUpdate_stable hP | with_reducible apply State.logC_stable hP | with_reducible apply State.offset_stable hP | with_reducible apply iff_stable (P := P) | with_reducible apply foldl_stable (P := P) | with_reducible apply foldl_stable_fst (P := P) | with_reducible apply foldl_stable_snd (P := P) | split | intro _ | dsimp +zetaDelta only []
theorem State.noteAnchor_stable (s : State) (hm : P s) : P (State.noteAnchor s) := by
  unfold State.noteAnchor; repeat' first | with_reducible assumption | with_reducible apply answers_next (P := P) | extract_lets | with_reducible apply hP.modSill | with_reducible apply iff_stable (P := P) | with_reducible apply foldl_stable (P := P) | with_reducible apply foldl_stable_fst (P := P) | with_reducible apply foldl_stable_snd (P := P) | split | intro _ | dsimp +zetaDelta only []
theorem State.holdOwn_stable (s : State) (c : Nat) (t : Int) (o : ObsState) (hm : P s) : P (State.holdOwn s c t o) := by
  unfold State.holdOwn; repeat' first | with_reducible assumption | with_reducible apply answers_next (P := P) | extract_lets | with_reducible apply hP.modPch | with_reducible apply iff_stable (P := P) | with_reducible apply foldl_stable (P := P) | with_reducible apply foldl_stable_fst (P := P) | with_reducible apply foldl_stable_snd (P := P) | split | intro _ | dsimp +zetaDelta only []
theorem execPosPublish_stable (s : State) (hm : P s) : Answers P (execPosPublish s) := by
  unfold execPosPublish; repeat' first | with_reducible assumption | with_reducible apply answers_next (P := P) | extract_lets | with_reducible apply State.holdOwn_stable hP | with_reducible apply State.noteAnchor_stable hP | with_reducible apply State.sillSendRole_stable hP | with_reducible apply iff_stable (P := P) | with_reducible apply foldl_stable (P := P) | with_reducible apply foldl_stable_fst (P := P) | with_reducible apply foldl_stable_snd (P := P) | split | intro _ | dsimp +zetaDelta only []
theorem State.showFrame_stable (s : State) (c : Nat) (o : ObsState) (hm : P s) : P (State.showFrame s c o) := by
  unfold State.showFrame; repeat' first | with_reducible assumption | with_reducible apply answers_next (P := P) | extract_lets | with_reducible apply State.put_stable hP | with_reducible apply State.setDir_stable hP | with_reducible apply State.setWarm_stable hP | with_reducible apply State.publishObs_stable hP | with_reducible apply iff_stable (P := P) | with_reducible apply foldl_stable (P := P) | with_reducible apply foldl_stable_fst (P := P) | with_reducible apply foldl_stable_snd (P := P) | split | intro _ | dsimp +zetaDelta only []
theorem State.putInForce_stable (s : State) (c : Nat) (o : ObsState) (hm : P s) : P (State.putInForce s c o) := by
  unfold State.putInForce; repeat' first | with_reducible assumption | with_reducible apply answers_next (P := P) | extract_lets | with_reducible apply hP.modPch | with_reducible apply State.wrS_stable hP | with_reducible apply State.putB_stable hP | with_reducible apply State.dirRule_stable hP | with_reducible apply State.showFrame_stable hP | with_reducible apply State.recompute_stable hP | with_reducible apply State.counted_stable hP | with_reducible apply State.recapture_stable hP | with_reducible apply iff_stable (P := P) | with_reducible apply foldl_stable (P := P) | with_reducible apply foldl_stable_fst (P := P) | with_reducible apply foldl_stable_snd (P := P) | split | intro _ | dsimp +zetaDelta only []
theorem State.warmFrame_stable (s : State) (c : Nat) (warm : Bool) (hm : P s) : P (State.warmFrame s c warm) := by
  unfold State.warmFrame; repeat' first | with_reducible assumption | with_reducible apply answers_next (P := P) | extract_lets | with_reducible apply hP.modPch | with_reducible apply State.putB_stable hP | with_reducible apply iff_stable (P := P) | with_reducible apply foldl_stable (P := P) | with_reducible apply foldl_stable_fst (P := P) | with_reducible apply foldl_stable_snd (P := P) | split | intro _ | dsimp +zetaDelta only []
theorem State.posFrame_stable (s : State) (c : Nat) (o : ObsState) (hm : P s) : P (State.posFrame s c o) := by
  unfold State.posFrame; repeat' first | with_reducible assumption | with_reducible apply answers_next (P := P) | extract_lets | with_reducible apply hP.modPch | with_reducible apply State.warmFrame_stable hP | with_reducible apply State.logC_stable hP | with_reducible apply State.bump_stable hP | with_reducible apply State.logOnce_stable hP | with_reducible apply State.putInForce_stable hP | with_reducible apply iff_stable (P := P) | with_reducible apply foldl_stable (P := P) | with_reducible apply foldl_stable_fst (P := P) | with_reducible apply foldl_stable_snd (P := P) | split | intro _ | dsimp +zetaDelta only []
theorem execPosStateInForce_stable (c : Fin 16) (s : State) (hm : P s) : Answers P (execPosStateInForce c s) := by
  unfold execPosStateInForce; repeat' first | with_reducible assumption | with_reducible apply answers_next (P := P) | extract_lets | with_reducible apply hP.modPch | with_reducible apply State.putInForce_stable hP | with_reducible apply iff_stable (P := P) | with_reducible apply foldl_stable (P := P) | with_reducible apply foldl_stable_fst (P := P) | with_reducible apply foldl_stable_snd (P := P) | split | intro _ | dsimp +zetaDelta only []
theorem execFollowerStale_stable (c : Fin 16) (s : State) (hm : P s) : Answers P (execFollowerStale c s) := by
  unfold execFollowerStale; repeat' first | with_reducible assumption | with_reducible apply answers_next (P := P) | extract_lets | with_reducible apply State.putB_stable hP | with_reducible apply hP.modPch | with_reducible apply State.setWarm_stable hP | with_reducible apply State.bump_stable hP | with_reducible apply State.raise_stable hP | with_reducible apply State.logC_stable hP | with_reducible apply iff_stable (P := P) | with_reducible apply foldl_stable (P := P) | with_reducible apply foldl_stable_fst (P := P) | with_reducible apply foldl_stable_snd (P := P) | split | intro _ | dsimp +zetaDelta only []
theorem execExposureCentreCopy_stable (id : Nat) (s : State) (hm : P s) : Answers P (execExposureCentreCopy id s) := by
  unfold execExposureCentreCopy; repeat' first | with_reducible assumption | with_reducible apply answers_next (P := P) | extract_lets | with_reducible apply hP.modTrigs | with_reducible apply hP.modSq | with_reducible apply State.cleanTrigs_stable hP | with_reducible apply iff_stable (P := P) | with_reducible apply foldl_stable (P := P) | with_reducible apply foldl_stable_fst (P := P) | with_reducible apply foldl_stable_snd (P := P) | split | intro _ | dsimp +zetaDelta only []
theorem execTargetCommit_stable (q : Fin 128) (s : State) (hm : P s) : Answers P (execTargetCommit q s) := by
  unfold execTargetCommit; repeat' first | with_reducible assumption | with_reducible apply answers_next (P := P) | extract_lets | with_reducible apply State.coldTest_stable hP | with_reducible apply State.judge_stable hP | with_reducible apply iff_stable (P := P) | with_reducible apply foldl_stable (P := P) | with_reducible apply foldl_stable_fst (P := P) | with_reducible apply foldl_stable_snd (P := P) | split | intro _ | dsimp +zetaDelta only []
theorem State.fired_stable (s : State) (t : Trigger) (hm : P s) : P (State.fired s t) := by
  unfold State.fired; repeat' first | with_reducible assumption | with_reducible apply answers_next (P := P) | extract_lets | with_reducible apply hP.modTrigs | with_reducible apply State.wrN_stable hP | with_reducible apply State.wrS_stable hP | with_reducible apply State.wrTime_stable hP | with_reducible apply State.publishC_stable hP | with_reducible apply State.produce_stable hP | with_reducible apply State.showCommitted_stable hP | with_reducible apply State.cleanTrigs_stable hP | with_reducible apply iff_stable (P := P) | with_reducible apply foldl_stable (P := P) | with_reducible apply foldl_stable_fst (P := P) | with_reducible apply foldl_stable_snd (P := P) | split | intro _ | dsimp +zetaDelta only []
theorem execFiringInstant_stable (id : Nat) (s : State) (hm : P s) : Answers P (execFiringInstant id s) := by
  unfold execFiringInstant; repeat' first | with_reducible assumption | with_reducible apply answers_next (P := P) | extract_lets | with_reducible apply State.fired_stable hP | with_reducible apply iff_stable (P := P) | with_reducible apply foldl_stable (P := P) | with_reducible apply foldl_stable_fst (P := P) | with_reducible apply foldl_stable_snd (P := P) | split | intro _ | dsimp +zetaDelta only []
theorem execPulseStart_stable (id : Nat) (s : State) (hm : P s) : Answers P (execPulseStart id s) := by
  unfold execPulseStart; repeat' first | with_reducible assumption | with_reducible apply answers_next (P := P) | extract_lets | with_reducible apply hP.modTrigs | with_reducible apply hP.setPulseEnd | with_reducible apply State.bump_stable hP | with_reducible apply State.raise_stable hP | with_reducible apply State.pinActive_stable hP | with_reducible apply State.showCommitted_stable hP | with_reducible apply State.cleanTrigs_stable hP | with_reducible apply iff_stable (P := P) | with_reducible apply foldl_stable (P := P) | with_reducible apply foldl_stable_fst (P := P) | with_reducible apply foldl_stable_snd (P := P) | split | intro _ | dsimp +zetaDelta only []
theorem execPulseEnd_stable (q : Fin 128) (s : State) (hm : P s) : Answers P (execPulseEnd q s) := by
  unfold execPulseEnd; repeat' first | with_reducible assumption | with_reducible apply answers_next (P := P) | extract_lets | with_reducible apply State.endPulses_stable hP | with_reducible apply iff_stable (P := P) | with_reducible apply foldl_stable (P := P) | with_reducible apply foldl_stable_fst (P := P) | with_reducible apply foldl_stable_snd (P := P) | split | intro _ | dsimp +zetaDelta only []
theorem execListEntryRetry_stable (q : Fin 128) (s : State) (hm : P s) : Answers P (execListEntryRetry q s) := by
  unfold execListEntryRetry; repeat' first | with_reducible assumption | with_reducible apply answers_next (P := P) | extract_lets | with_reducible apply State.loadEntry_stable hP | with_reducible apply iff_stable (P := P) | with_reducible apply foldl_stable (P := P) | with_reducible apply foldl_stable_fst (P := P) | with_reducible apply foldl_stable_snd (P := P) | split | intro _ | dsimp +zetaDelta only []
theorem State.ringPush_stable (s : State) (q : Nat) (v : Nat) (hm : P s) : P (State.ringPush s q v) := by
  unfold State.ringPush; repeat' first | with_reducible assumption | with_reducible apply answers_next (P := P) | extract_lets | with_reducible apply hP.wr | with_reducible apply State.bump_stable hP | with_reducible apply State.raise_stable hP | with_reducible apply State.logOnce_stable hP | with_reducible apply State.wrS_stable hP | with_reducible apply State.wrN_stable hP | with_reducible apply State.put_stable hP | with_reducible apply State.loadRing_stable hP | with_reducible apply iff_stable (P := P) | with_reducible apply foldl_stable (P := P) | with_reducible apply foldl_stable_fst (P := P) | with_reducible apply foldl_stable_snd (P := P) | split | intro _ | dsimp +zetaDelta only []
theorem State.fireNow_stable (s : State) (q : Nat) (hm : P s) : P (State.fireNow s q) := by
  unfold State.fireNow; repeat' first | with_reducible assumption | with_reducible apply answers_next (P := P) | extract_lets | with_reducible apply hP.modSq | with_reducible apply State.judge_stable hP | with_reducible apply iff_stable (P := P) | with_reducible apply foldl_stable (P := P) | with_reducible apply foldl_stable_fst (P := P) | with_reducible apply foldl_stable_snd (P := P) | split | intro _ | dsimp +zetaDelta only []
theorem State.ringClear_stable (s : State) (q : Nat) (hm : P s) : P (State.ringClear s q) := by
  unfold State.ringClear; repeat' first | with_reducible assumption | with_reducible apply answers_next (P := P) | extract_lets | with_reducible apply State.put_stable hP | with_reducible apply State.loadRing_stable hP | with_reducible apply iff_stable (P := P) | with_reducible apply foldl_stable (P := P) | with_reducible apply foldl_stable_fst (P := P) | with_reducible apply foldl_stable_snd (P := P) | split | intro _ | dsimp +zetaDelta only []
theorem State.resync_stable (s : State) (q : Nat) (hm : P s) : P (State.resync s q) := by
  unfold State.resync; repeat' first | with_reducible assumption | with_reducible apply answers_next (P := P) | extract_lets | with_reducible apply State.firstTarget_stable hP | with_reducible apply State.trigFlush_stable hP | with_reducible apply iff_stable (P := P) | with_reducible apply foldl_stable (P := P) | with_reducible apply foldl_stable_fst (P := P) | with_reducible apply foldl_stable_snd (P := P) | split | intro _ | dsimp +zetaDelta only []
theorem State.seqAccept_stable (s : State) (q : Nat) (hop : Nat) (hm : P s) : P (State.seqAccept s q hop) := by
  unfold State.seqAccept; repeat' first | with_reducible assumption | with_reducible apply answers_next (P := P) | extract_lets | with_reducible apply hP.modSq | with_reducible apply State.judge_stable hP | with_reducible apply iff_stable (P := P) | with_reducible apply foldl_stable (P := P) | with_reducible apply foldl_stable_fst (P := P) | with_reducible apply foldl_stable_snd (P := P) | split | intro _ | dsimp +zetaDelta only []
theorem State.clamped_stable (s : State) (hm : P s) : P (State.clamped s) := by
  unfold State.clamped; repeat' first | with_reducible assumption | with_reducible apply answers_next (P := P) | extract_lets | with_reducible apply State.bump_stable hP | with_reducible apply State.raise_stable hP | with_reducible apply State.logC_stable hP | with_reducible apply iff_stable (P := P) | with_reducible apply foldl_stable (P := P) | with_reducible apply foldl_stable_fst (P := P) | with_reducible apply foldl_stable_snd (P := P) | split | intro _ | dsimp +zetaDelta only []
theorem State.slewDone_stable (s : State) (hm : P s) : P (State.slewDone s) := by
  unfold State.slewDone; repeat' first | with_reducible assumption | with_reducible apply answers_next (P := P) | extract_lets | with_reducible apply State.putB_stable hP | with_reducible apply iff_stable (P := P) | with_reducible apply foldl_stable (P := P) | with_reducible apply foldl_stable_fst (P := P) | with_reducible apply foldl_stable_snd (P := P) | split | intro _ | dsimp +zetaDelta only []
theorem State.showCount_stable (s : State) (hm : P s) : P (State.showCount s) := by
  unfold State.showCount; repeat' first | with_reducible assumption | with_reducible apply answers_next (P := P) | extract_lets | with_reducible apply hP.modTb | with_reducible apply iff_stable (P := P) | with_reducible apply foldl_stable (P := P) | with_reducible apply foldl_stable_fst (P := P) | with_reducible apply foldl_stable_snd (P := P) | split | intro _ | dsimp +zetaDelta only []
theorem State.tbTick_stable (s : State) (hm : P s) : P (State.tbTick s) := by
  unfold State.tbTick; repeat' first | with_reducible assumption | with_reducible apply answers_next (P := P) | extract_lets | with_reducible apply State.clamped_stable hP | with_reducible apply hP.modTb | with_reducible apply State.showCount_stable hP | with_reducible apply State.slewDone_stable hP | with_reducible apply State.wr64_stable hP | with_reducible apply hP.modDroop | with_reducible apply iff_stable (P := P) | with_reducible apply foldl_stable (P := P) | with_reducible apply foldl_stable_fst (P := P) | with_reducible apply foldl_stable_snd (P := P) | split | intro _ | dsimp +zetaDelta only []
theorem State.incrWrite_stable (s : State) (wide : Bool) (v : Nat) (hm : P s) : P (State.incrWrite s wide v) := by
  unfold State.incrWrite; repeat' first | with_reducible assumption | with_reducible apply answers_next (P := P) | extract_lets | with_reducible apply hP.modTb | with_reducible apply State.wr64_stable hP | with_reducible apply State.clamped_stable hP | with_reducible apply iff_stable (P := P) | with_reducible apply foldl_stable (P := P) | with_reducible apply foldl_stable_fst (P := P) | with_reducible apply foldl_stable_snd (P := P) | split | intro _ | dsimp +zetaDelta only []
theorem execTbIncrWrite_stable (wide : Bool) (v : Nat) (s : State) (hm : P s) : Answers P (execTbIncrWrite wide v s) := by
  unfold execTbIncrWrite; repeat' first | with_reducible assumption | with_reducible apply answers_next (P := P) | extract_lets | with_reducible apply State.incrWrite_stable hP | with_reducible apply iff_stable (P := P) | with_reducible apply foldl_stable (P := P) | with_reducible apply foldl_stable_fst (P := P) | with_reducible apply foldl_stable_snd (P := P) | split | intro _ | dsimp +zetaDelta only []
theorem State.slewStart_stable (s : State) (v : Nat) (hm : P s) : P (State.slewStart s v) := by
  unfold State.slewStart; repeat' first | with_reducible assumption | with_reducible apply answers_next (P := P) | extract_lets | with_reducible apply State.wrN_stable hP | with_reducible apply hP.modTb | with_reducible apply State.putB_stable hP | with_reducible apply iff_stable (P := P) | with_reducible apply foldl_stable (P := P) | with_reducible apply foldl_stable_fst (P := P) | with_reducible apply foldl_stable_snd (P := P) | split | intro _ | dsimp +zetaDelta only []
theorem execSlewStart_stable (v : Word) (s : State) (hm : P s) : Answers P (execSlewStart v s) := by
  unfold execSlewStart; repeat' first | with_reducible assumption | with_reducible apply answers_next (P := P) | extract_lets | with_reducible apply State.slewStart_stable hP | with_reducible apply iff_stable (P := P) | with_reducible apply foldl_stable (P := P) | with_reducible apply foldl_stable_fst (P := P) | with_reducible apply foldl_stable_snd (P := P) | split | intro _ | dsimp +zetaDelta only []
theorem execSlewEnd_stable (s : State) (hm : P s) : Answers P (execSlewEnd s) := by
  unfold execSlewEnd; repeat' first | with_reducible assumption | with_reducible apply answers_next (P := P) | extract_lets | with_reducible apply State.slewDone_stable hP | with_reducible apply iff_stable (P := P) | with_reducible apply foldl_stable (P := P) | with_reducible apply foldl_stable_fst (P := P) | with_reducible apply foldl_stable_snd (P := P) | split | intro _ | dsimp +zetaDelta only []
theorem State.slewAbort_stable (s : State) (hm : P s) : P (State.slewAbort s) := by
  unfold State.slewAbort; repeat' first | with_reducible assumption | with_reducible apply answers_next (P := P) | extract_lets | with_reducible apply hP.modTb | with_reducible apply State.slewDone_stable hP | with_reducible apply iff_stable (P := P) | with_reducible apply foldl_stable (P := P) | with_reducible apply foldl_stable_fst (P := P) | with_reducible apply foldl_stable_snd (P := P) | split | intro _ | dsimp +zetaDelta only []
theorem execSlewAbort_stable (s : State) (hm : P s) : Answers P (execSlewAbort s) := by
  unfold execSlewAbort; repeat' first | with_reducible assumption | with_reducible apply answers_next (P := P) | extract_lets | with_reducible apply State.slewAbort_stable hP | with_reducible apply iff_stable (P := P) | with_reducible apply foldl_stable (P := P) | with_reducible apply foldl_stable_fst (P := P) | with_reducible apply foldl_stable_snd (P := P) | split | intro _ | dsimp +zetaDelta only []
theorem State.alarmFire_stable (s : State) (a : Nat) (late : Bool) (step : Bool) (hm : P s) : P (State.alarmFire s a late step) := by
  unfold State.alarmFire; repeat' first | with_reducible assumption | with_reducible apply answers_next (P := P) | extract_lets | with_reducible apply State.raise_stable hP | with_reducible apply State.logC_stable hP | with_reducible apply State.wrTime_stable hP | with_reducible apply State.putB_stable hP | with_reducible apply State.produce_stable hP | with_reducible apply iff_stable (P := P) | with_reducible apply foldl_stable (P := P) | with_reducible apply foldl_stable_fst (P := P) | with_reducible apply foldl_stable_snd (P := P) | split | intro _ | dsimp +zetaDelta only []
theorem execAlarmFire_stable (a : Fin 8) (s : State) (hm : P s) : Answers P (execAlarmFire a s) := by
  unfold execAlarmFire; repeat' first | with_reducible assumption | with_reducible apply answers_next (P := P) | extract_lets | with_reducible apply State.tick_stable hP | with_reducible apply State.alarmFire_stable hP | with_reducible apply iff_stable (P := P) | with_reducible apply foldl_stable (P := P) | with_reducible apply foldl_stable_fst (P := P) | with_reducible apply foldl_stable_snd (P := P) | split | intro _ | dsimp +zetaDelta only []
theorem State.moveInstants_stable (s : State) (d : Int) (hm : P s) : P (State.moveInstants s d) := by
  unfold State.moveInstants; repeat' first | with_reducible assumption | with_reducible apply answers_next (P := P) | extract_lets | with_reducible apply hP.modPch | with_reducible apply hP.modTrigs | with_reducible apply hP.modSq | with_reducible apply State.recompute_stable hP | with_reducible apply iff_stable (P := P) | with_reducible apply foldl_stable (P := P) | with_reducible apply foldl_stable_fst (P := P) | with_reducible apply foldl_stable_snd (P := P) | split | intro _ | dsimp +zetaDelta only []
theorem State.firingPassed_stable (s : State) (t : Trigger) (hm : P s) : P (State.firingPassed s t) := by
  unfold State.firingPassed; repeat' first | with_reducible assumption | with_reducible apply answers_next (P := P) | extract_lets | with_reducible apply hP.modSq | with_reducible apply hP.modTrigs | with_reducible apply State.countLate_stable hP | with_reducible apply State.bump_stable hP | with_reducible apply State.raise_stable hP | with_reducible apply State.logCount_stable hP | with_reducible apply State.showCommitted_stable hP | with_reducible apply iff_stable (P := P) | with_reducible apply foldl_stable (P := P) | with_reducible apply foldl_stable_fst (P := P) | with_reducible apply foldl_stable_snd (P := P) | split | intro _ | dsimp +zetaDelta only []
theorem State.stepped_stable (s : State) (d : Int) (passed : List Nat) (hm : P s) : P (State.stepped s d passed) := by
  unfold State.stepped; repeat' first | with_reducible assumption | with_reducible apply answers_next (P := P) | extract_lets | with_reducible apply hP.modTb | with_reducible apply State.moveInstants_stable hP | with_reducible apply State.firingPassed_stable hP | with_reducible apply State.put_stable hP | with_reducible apply State.raise_stable hP | with_reducible apply State.bump_stable hP | with_reducible apply State.log64_stable hP | with_reducible apply State.alarmFire_stable hP | with_reducible apply State.produce_stable hP | with_reducible apply iff_stable (P := P) | with_reducible apply foldl_stable (P := P) | with_reducible apply foldl_stable_fst (P := P) | with_reducible apply foldl_stable_snd (P := P) | split | intro _ | dsimp +zetaDelta only []
theorem State.tbStep_stable (s : State) (set : Bool) (step : Bool) (hm : P s) : P (State.tbStep s set step) := by
  unfold State.tbStep; repeat' first | with_reducible assumption | with_reducible apply answers_next (P := P) | extract_lets | with_reducible apply State.bump_stable hP | with_reducible apply State.raise_stable hP | with_reducible apply State.log64_stable hP | with_reducible apply hP.modTb | with_reducible apply State.stepped_stable hP | with_reducible apply iff_stable (P := P) | with_reducible apply foldl_stable (P := P) | with_reducible apply foldl_stable_fst (P := P) | with_reducible apply foldl_stable_snd (P := P) | split | intro _ | dsimp +zetaDelta only []
theorem execSet_stable (s : State) (hm : P s) : Answers P (execSet s) := by
  unfold execSet; repeat' first | with_reducible assumption | with_reducible apply answers_next (P := P) | extract_lets | with_reducible apply State.tbStep_stable hP | with_reducible apply iff_stable (P := P) | with_reducible apply foldl_stable (P := P) | with_reducible apply foldl_stable_fst (P := P) | with_reducible apply foldl_stable_snd (P := P) | split | intro _ | dsimp +zetaDelta only []
theorem execStep_stable (s : State) (hm : P s) : Answers P (execStep s) := by
  unfold execStep; repeat' first | with_reducible assumption | with_reducible apply answers_next (P := P) | extract_lets | with_reducible apply State.tbStep_stable hP | with_reducible apply iff_stable (P := P) | with_reducible apply foldl_stable (P := P) | with_reducible apply foldl_stable_fst (P := P) | with_reducible apply foldl_stable_snd (P := P) | split | intro _ | dsimp +zetaDelta only []
theorem State.tbSnap_stable (s : State) (hm : P s) : P (State.tbSnap s) := by
  unfold State.tbSnap; repeat' first | with_reducible assumption | with_reducible apply answers_next (P := P) | extract_lets | with_reducible apply State.wrTime_stable hP | with_reducible apply State.publishC_stable hP | with_reducible apply iff_stable (P := P) | with_reducible apply foldl_stable (P := P) | with_reducible apply foldl_stable_fst (P := P) | with_reducible apply foldl_stable_snd (P := P) | split | intro _ | dsimp +zetaDelta only []
theorem execTbSnap_stable (s : State) (hm : P s) : Answers P (execTbSnap s) := by
  unfold execTbSnap; repeat' first | with_reducible assumption | with_reducible apply answers_next (P := P) | extract_lets | with_reducible apply State.tbSnap_stable hP | with_reducible apply iff_stable (P := P) | with_reducible apply foldl_stable (P := P) | with_reducible apply foldl_stable_fst (P := P) | with_reducible apply foldl_stable_snd (P := P) | split | intro _ | dsimp +zetaDelta only []
theorem execPpsInEdge_stable (rising : Bool) (ago : Nat) (s : State) (hm : P s) : Answers P (execPpsInEdge rising ago s) := by
  unfold execPpsInEdge; repeat' first | with_reducible assumption | with_reducible apply answers_next (P := P) | extract_lets | with_reducible apply State.wrN_stable hP | with_reducible apply State.wrTime_stable hP | with_reducible apply State.publishC_stable hP | with_reducible apply State.putB_stable hP | with_reducible apply hP.modTb | with_reducible apply State.produce_stable hP | with_reducible apply iff_stable (P := P) | with_reducible apply foldl_stable (P := P) | with_reducible apply foldl_stable_fst (P := P) | with_reducible apply foldl_stable_snd (P := P) | split | intro _ | dsimp +zetaDelta only []
theorem execPpsMiss_stable (s : State) (hm : P s) : Answers P (execPpsMiss s) := by
  unfold execPpsMiss; repeat' first | with_reducible assumption | with_reducible apply answers_next (P := P) | extract_lets | with_reducible apply State.putB_stable hP | with_reducible apply State.raise_stable hP | with_reducible apply State.bump_stable hP | with_reducible apply State.logC_stable hP | with_reducible apply iff_stable (P := P) | with_reducible apply foldl_stable (P := P) | with_reducible apply foldl_stable_fst (P := P) | with_reducible apply foldl_stable_snd (P := P) | split | intro _ | dsimp +zetaDelta only []
theorem execGpioEdgeCapture_stable (g : Fin 64) (rising : Bool) (ago : Nat) (s : State) (hm : P s) : Answers P (execGpioEdgeCapture g rising ago s) := by
  unfold execGpioEdgeCapture; repeat' first | with_reducible assumption | with_reducible apply answers_next (P := P) | extract_lets | with_reducible apply State.putB_stable hP | with_reducible apply State.produce_stable hP | with_reducible apply State.bump_stable hP | with_reducible apply hP.modTb | with_reducible apply State.wrN_stable hP | with_reducible apply State.wrTime_stable hP | with_reducible apply State.publishC_stable hP | with_reducible apply iff_stable (P := P) | with_reducible apply foldl_stable (P := P) | with_reducible apply foldl_stable_fst (P := P) | with_reducible apply foldl_stable_snd (P := P) | split | intro _ | dsimp +zetaDelta only []
theorem execPpsOutStart_stable (s : State) (hm : P s) : Answers P (execPpsOutStart s) := by
  unfold execPpsOutStart; repeat' first | with_reducible assumption | with_reducible apply answers_next (P := P) | extract_lets | with_reducible apply hP.modTb | with_reducible apply iff_stable (P := P) | with_reducible apply foldl_stable (P := P) | with_reducible apply foldl_stable_fst (P := P) | with_reducible apply foldl_stable_snd (P := P) | split | intro _ | dsimp +zetaDelta only []
theorem execPpsOutEnd_stable (s : State) (hm : P s) : Answers P (execPpsOutEnd s) := by
  unfold execPpsOutEnd; repeat' first | with_reducible assumption | with_reducible apply answers_next (P := P) | extract_lets | with_reducible apply hP.modTb | with_reducible apply iff_stable (P := P) | with_reducible apply foldl_stable (P := P) | with_reducible apply foldl_stable_fst (P := P) | with_reducible apply foldl_stable_snd (P := P) | split | intro _ | dsimp +zetaDelta only []
theorem State.pulsePin_stable (s : State) (g : Nat) (w : Int) (owner : Nat) (index : Nat) (hm : P s) : P (State.pulsePin s g w owner index) := by
  unfold State.pulsePin; repeat' first | with_reducible assumption | with_reducible apply answers_next (P := P) | extract_lets | with_reducible apply hP.setPulseEnd | with_reducible apply State.pinActive_stable hP | with_reducible apply iff_stable (P := P) | with_reducible apply foldl_stable (P := P) | with_reducible apply foldl_stable_fst (P := P) | with_reducible apply foldl_stable_snd (P := P) | split | intro _ | dsimp +zetaDelta only []
theorem execCycleTimerPulse_stable (i : Fin 16) (s : State) (hm : P s) : Answers P (execCycleTimerPulse i s) := by
  unfold execCycleTimerPulse; repeat' first | with_reducible assumption | with_reducible apply answers_next (P := P) | extract_lets | with_reducible apply hP.modTb | with_reducible apply State.pulsePin_stable hP | with_reducible apply State.produce_stable hP | with_reducible apply iff_stable (P := P) | with_reducible apply foldl_stable (P := P) | with_reducible apply foldl_stable_fst (P := P) | with_reducible apply foldl_stable_snd (P := P) | split | intro _ | dsimp +zetaDelta only []
theorem execCycleTimerPulseEnd_stable (i : Fin 16) (s : State) (hm : P s) : Answers P (execCycleTimerPulseEnd i s) := by
  unfold execCycleTimerPulseEnd; repeat' first | with_reducible assumption | with_reducible apply answers_next (P := P) | extract_lets | with_reducible apply State.endPulses_stable hP | with_reducible apply iff_stable (P := P) | with_reducible apply foldl_stable (P := P) | with_reducible apply foldl_stable_fst (P := P) | with_reducible apply foldl_stable_snd (P := P) | split | intro _ | dsimp +zetaDelta only []
theorem State.halve_stable (s : State) (hm : P s) : P (State.halve s) := by
  unfold State.halve; repeat' first | with_reducible assumption | with_reducible apply answers_next (P := P) | extract_lets | with_reducible apply State.putB_stable hP | with_reducible apply State.wr64_stable hP | with_reducible apply State.logC_stable hP | with_reducible apply hP.modDroop | with_reducible apply State.raise_stable hP | with_reducible apply State.produce_stable hP | with_reducible apply iff_stable (P := P) | with_reducible apply foldl_stable (P := P) | with_reducible apply foldl_stable_fst (P := P) | with_reducible apply foldl_stable_snd (P := P) | split | intro _ | dsimp +zetaDelta only []
theorem execDroopDetect_stable (s : State) (hm : P s) : Answers P (execDroopDetect s) := by
  unfold execDroopDetect; repeat' first | with_reducible assumption | with_reducible apply answers_next (P := P) | extract_lets | with_reducible apply State.putB_stable hP | with_reducible apply State.halve_stable hP | with_reducible apply iff_stable (P := P) | with_reducible apply foldl_stable (P := P) | with_reducible apply foldl_stable_fst (P := P) | with_reducible apply foldl_stable_snd (P := P) | split | intro _ | dsimp +zetaDelta only []
theorem execDroopRestore_stable (s : State) (hm : P s) : Answers P (execDroopRestore s) := by
  unfold execDroopRestore; repeat' first | with_reducible assumption | with_reducible apply answers_next (P := P) | extract_lets | with_reducible apply State.putB_stable hP | with_reducible apply iff_stable (P := P) | with_reducible apply foldl_stable (P := P) | with_reducible apply foldl_stable_fst (P := P) | with_reducible apply foldl_stable_snd (P := P) | split | intro _ | dsimp +zetaDelta only []
theorem State.forceHalve_stable (s : State) (hm : P s) : P (State.forceHalve s) := by
  unfold State.forceHalve; repeat' first | with_reducible assumption | with_reducible apply answers_next (P := P) | extract_lets | with_reducible apply State.putB_stable hP | with_reducible apply hP.modDroop | with_reducible apply State.halve_stable hP | with_reducible apply iff_stable (P := P) | with_reducible apply foldl_stable (P := P) | with_reducible apply foldl_stable_fst (P := P) | with_reducible apply foldl_stable_snd (P := P) | split | intro _ | dsimp +zetaDelta only []
theorem execForce_stable (s : State) (hm : P s) : Answers P (execForce s) := by
  unfold execForce; repeat' first | with_reducible assumption | with_reducible apply answers_next (P := P) | extract_lets | with_reducible apply State.forceHalve_stable hP | with_reducible apply iff_stable (P := P) | with_reducible apply foldl_stable (P := P) | with_reducible apply foldl_stable_fst (P := P) | with_reducible apply foldl_stable_snd (P := P) | split | intro _ | dsimp +zetaDelta only []
theorem execDroopBudgetExceeded_stable (s : State) (hm : P s) : Answers P (execDroopBudgetExceeded s) := by
  unfold execDroopBudgetExceeded; repeat' first | with_reducible assumption | with_reducible apply answers_next (P := P) | extract_lets | with_reducible apply hP.modDroop | with_reducible apply State.putB_stable hP | with_reducible apply State.bump_stable hP | with_reducible apply State.raise_stable hP | with_reducible apply State.logC_stable hP | with_reducible apply iff_stable (P := P) | with_reducible apply foldl_stable (P := P) | with_reducible apply foldl_stable_fst (P := P) | with_reducible apply foldl_stable_snd (P := P) | split | intro _ | dsimp +zetaDelta only []
theorem execDroopWindowEnd_stable (s : State) (hm : P s) : Answers P (execDroopWindowEnd s) := by
  unfold execDroopWindowEnd; repeat' first | with_reducible assumption | with_reducible apply answers_next (P := P) | extract_lets | with_reducible apply State.putB_stable hP | with_reducible apply hP.modDroop | with_reducible apply iff_stable (P := P) | with_reducible apply foldl_stable (P := P) | with_reducible apply foldl_stable_fst (P := P) | with_reducible apply foldl_stable_snd (P := P) | split | intro _ | dsimp +zetaDelta only []

end Sys2Proof.Machine
end

