-- ==== Sys2Proof/Laws/StableLanes.lean ====
section
/-!
SUPPORT. What survives the operations of lanes, both protocols and the Ledger:
a property that is `Stable`. One lemma per operation and per command.
-/

set_option linter.unusedTactic false
set_option linter.unreachableTactic false
set_option linter.unusedSimpArgs false
set_option linter.unusedVariables false

namespace Sys2Proof.Machine

open Reg

variable {P : State → Prop} (hP : Stable P)
include hP

theorem State.ddrMerge_stable (s : State) (a : Nat) (data : List (Option Byte)) (bad : Nat → Bool) (hm : P s) : P (State.ddrMerge s a data bad) := by
  unfold State.ddrMerge; repeat' first | with_reducible assumption | with_reducible apply answers_next (P := P) | extract_lets | with_reducible apply State.bump_stable hP | with_reducible apply State.logC_stable hP | with_reducible apply hP.ddrWr | with_reducible apply iff_stable (P := P) | with_reducible apply foldl_stable (P := P) | with_reducible apply foldl_stable_fst (P := P) | with_reducible apply foldl_stable_snd (P := P) | split | intro _ | dsimp +zetaDelta only []
theorem State.ddrLand_stable (s : State) (hm : P s) : P (State.ddrLand s) := by
  unfold State.ddrLand; repeat' first | with_reducible assumption | with_reducible apply answers_next (P := P) | extract_lets | with_reducible apply State.ddrMerge_stable hP | with_reducible apply hP.setDdrOut | with_reducible apply iff_stable (P := P) | with_reducible apply foldl_stable (P := P) | with_reducible apply foldl_stable_fst (P := P) | with_reducible apply foldl_stable_snd (P := P) | split | intro _ | dsimp +zetaDelta only []
theorem State.ddrPost_stable (s : State) (w : DdrWrite) (hm : P s) : P (State.ddrPost s w) := by
  unfold State.ddrPost; repeat' first | with_reducible assumption | with_reducible apply answers_next (P := P) | extract_lets | with_reducible apply hP.setDdrOut | with_reducible apply State.arbAsk_stable hP | with_reducible apply State.ddrLand_stable hP | with_reducible apply iff_stable (P := P) | with_reducible apply foldl_stable (P := P) | with_reducible apply foldl_stable_fst (P := P) | with_reducible apply foldl_stable_snd (P := P) | split | intro _ | dsimp +zetaDelta only []
theorem State.judgeFill_stable (s : State) (l : Nat) (was : Nat) (hm : P s) : P (State.judgeFill s l was) := by
  unfold State.judgeFill; repeat' first | with_reducible assumption | with_reducible apply answers_next (P := P) | extract_lets | with_reducible apply State.put_stable hP | with_reducible apply State.putB_stable hP | with_reducible apply State.raise_stable hP | with_reducible apply State.produce_stable hP | with_reducible apply iff_stable (P := P) | with_reducible apply foldl_stable (P := P) | with_reducible apply foldl_stable_fst (P := P) | with_reducible apply foldl_stable_snd (P := P) | split | intro _ | dsimp +zetaDelta only []
theorem State.queueTo_stable (s : State) (l : Nat) (n : Nat) (hm : P s) : P (State.queueTo s l n) := by
  unfold State.queueTo; repeat' first | with_reducible assumption | with_reducible apply answers_next (P := P) | extract_lets | with_reducible apply hP.modTen | with_reducible apply State.put_stable hP | with_reducible apply State.judgeFill_stable hP | with_reducible apply iff_stable (P := P) | with_reducible apply foldl_stable (P := P) | with_reducible apply foldl_stable_fst (P := P) | with_reducible apply foldl_stable_snd (P := P) | split | intro _ | dsimp +zetaDelta only []
theorem State.queuePut_stable (s : State) (l : Nat) (n : Nat) (hm : P s) : P (State.queuePut s l n) := by
  unfold State.queuePut; repeat' first | with_reducible assumption | with_reducible apply answers_next (P := P) | extract_lets | with_reducible apply State.queueTo_stable hP | with_reducible apply iff_stable (P := P) | with_reducible apply foldl_stable (P := P) | with_reducible apply foldl_stable_fst (P := P) | with_reducible apply foldl_stable_snd (P := P) | split | intro _ | dsimp +zetaDelta only []
theorem State.queueDrop_stable (s : State) (l : Nat) (n : Nat) (hm : P s) : P (State.queueDrop s l n) := by
  unfold State.queueDrop; repeat' first | with_reducible assumption | with_reducible apply answers_next (P := P) | extract_lets | with_reducible apply State.queueTo_stable hP | with_reducible apply iff_stable (P := P) | with_reducible apply foldl_stable (P := P) | with_reducible apply foldl_stable_fst (P := P) | with_reducible apply foldl_stable_snd (P := P) | split | intro _ | dsimp +zetaDelta only []
theorem State.putBond_stable (s : State) (c : Nat) (f : Nat → Fld) (n : Nat) (hm : P s) : P (State.putBond s c f n) := by
  unfold State.putBond; repeat' first | with_reducible assumption | with_reducible apply answers_next (P := P) | extract_lets | with_reducible apply State.put_stable hP | with_reducible apply iff_stable (P := P) | with_reducible apply foldl_stable (P := P) | with_reducible apply foldl_stable_fst (P := P) | with_reducible apply foldl_stable_snd (P := P) | split | intro _ | dsimp +zetaDelta only []
theorem State.sendCtl_stable (s : State) (l : Nat) (type : Nat) (content : List Byte) (hm : P s) : P (State.sendCtl s l type content) := by
  unfold State.sendCtl; repeat' first | with_reducible assumption | with_reducible apply answers_next (P := P) | extract_lets | with_reducible apply hP.emit | with_reducible apply iff_stable (P := P) | with_reducible apply foldl_stable (P := P) | with_reducible apply foldl_stable_fst (P := P) | with_reducible apply foldl_stable_snd (P := P) | split | intro _ | dsimp +zetaDelta only []
theorem State.sendCredit_stable (s : State) (l : Nat) (hm : P s) : P (State.sendCredit s l) := by
  unfold State.sendCredit; repeat' first | with_reducible assumption | with_reducible apply answers_next (P := P) | extract_lets | with_reducible apply hP.modTen | with_reducible apply State.putBond_stable hP | with_reducible apply State.sendCtl_stable hP | with_reducible apply iff_stable (P := P) | with_reducible apply foldl_stable (P := P) | with_reducible apply foldl_stable_fst (P := P) | with_reducible apply foldl_stable_snd (P := P) | split | intro _ | dsimp +zetaDelta only []
theorem State.freeBlocks_stable (s : State) (l : Nat) (n : Nat) (hm : P s) : P (State.freeBlocks s l n) := by
  unfold State.freeBlocks; repeat' first | with_reducible assumption | with_reducible apply answers_next (P := P) | extract_lets | with_reducible apply hP.modTen | with_reducible apply State.sendCredit_stable hP | with_reducible apply iff_stable (P := P) | with_reducible apply foldl_stable (P := P) | with_reducible apply foldl_stable_fst (P := P) | with_reducible apply foldl_stable_snd (P := P) | split | intro _ | dsimp +zetaDelta only []
theorem State.dropBlocks_stable (s : State) (l : Nat) (n : Nat) (hm : P s) : P (State.dropBlocks s l n) := by
  unfold State.dropBlocks; repeat' first | with_reducible assumption | with_reducible apply answers_next (P := P) | extract_lets | with_reducible apply State.bumpBy_stable hP | with_reducible apply State.freeBlocks_stable hP | with_reducible apply iff_stable (P := P) | with_reducible apply foldl_stable (P := P) | with_reducible apply foldl_stable_fst (P := P) | with_reducible apply foldl_stable_snd (P := P) | split | intro _ | dsimp +zetaDelta only []
theorem State.queueTake_stable (s : State) (l : Nat) (n : Nat) (hm : P s) : P (State.queueTake s l n) := by
  unfold State.queueTake; repeat' first | with_reducible assumption | with_reducible apply answers_next (P := P) | extract_lets | with_reducible apply State.queueDrop_stable hP | with_reducible apply State.freeBlocks_stable hP | with_reducible apply iff_stable (P := P) | with_reducible apply foldl_stable (P := P) | with_reducible apply foldl_stable_fst (P := P) | with_reducible apply foldl_stable_snd (P := P) | split | intro _ | dsimp +zetaDelta only []
theorem State.modTile_stable (s : State) (n : Nat) (f : Tile → Tile) (hm : P s) : P (State.modTile s n f) := by
  unfold State.modTile; repeat' first | with_reducible assumption | with_reducible apply answers_next (P := P) | extract_lets | with_reducible apply hP.modLedger | with_reducible apply iff_stable (P := P) | with_reducible apply foldl_stable (P := P) | with_reducible apply foldl_stable_fst (P := P) | with_reducible apply foldl_stable_snd (P := P) | split | intro _ | dsimp +zetaDelta only []
theorem State.tileTo_stable (s : State) (n : Nat) (st : Nat) (hm : P s) : P (State.tileTo s n st) := by
  unfold State.tileTo; repeat' first | with_reducible assumption | with_reducible apply answers_next (P := P) | extract_lets | with_reducible apply hP.modEng | with_reducible apply State.modTile_stable hP | with_reducible apply hP.modLedger | with_reducible apply iff_stable (P := P) | with_reducible apply foldl_stable (P := P) | with_reducible apply foldl_stable_fst (P := P) | with_reducible apply foldl_stable_snd (P := P) | split | intro _ | dsimp +zetaDelta only []
theorem State.swapSet_stable (s : State) (l : Nat) (hm : P s) : P (State.swapSet s l) := by
  unfold State.swapSet; repeat' first | with_reducible assumption | with_reducible apply answers_next (P := P) | extract_lets | with_reducible apply State.put_stable hP | with_reducible apply State.putB_stable hP | with_reducible apply State.bump_stable hP | with_reducible apply State.raise_stable hP | with_reducible apply State.logC_stable hP | with_reducible apply iff_stable (P := P) | with_reducible apply foldl_stable (P := P) | with_reducible apply foldl_stable_fst (P := P) | with_reducible apply foldl_stable_snd (P := P) | split | intro _ | dsimp +zetaDelta only []
theorem State.condFor_stable (s : State) (l : Nat) (line : Int) (trigId : Nat) (hm : P s) : P (State.condFor s l line trigId).1 := by
  unfold State.condFor; repeat' first | with_reducible assumption | with_reducible apply answers_next (P := P) | extract_lets | with_reducible apply State.swapSet_stable hP | with_reducible apply hP.modCln | with_reducible apply iff_stable (P := P) | with_reducible apply foldl_stable (P := P) | with_reducible apply foldl_stable_fst (P := P) | with_reducible apply foldl_stable_snd (P := P) | split | intro _ | dsimp +zetaDelta only []
theorem State.newTile_stable (s : State) (t : Tile) (hm : P s) : P (State.newTile s t) := by
  unfold State.newTile; repeat' first | with_reducible assumption | with_reducible apply answers_next (P := P) | extract_lets | with_reducible apply State.condFor_stable hP | with_reducible apply hP.modLedger | with_reducible apply State.wrN_stable hP | with_reducible apply iff_stable (P := P) | with_reducible apply foldl_stable (P := P) | with_reducible apply foldl_stable_fst (P := P) | with_reducible apply foldl_stable_snd (P := P) | split | intro _ | dsimp +zetaDelta only []
theorem State.dropTile_stable (s : State) (n : Nat) (hm : P s) : P (State.dropTile s n) := by
  unfold State.dropTile; repeat' first | with_reducible assumption | with_reducible apply answers_next (P := P) | extract_lets | with_reducible apply hP.modLedger | with_reducible apply iff_stable (P := P) | with_reducible apply foldl_stable (P := P) | with_reducible apply foldl_stable_fst (P := P) | with_reducible apply foldl_stable_snd (P := P) | split | intro _ | dsimp +zetaDelta only []
theorem State.release_stable (s : State) (n : Nat) (h : Nat) (hm : P s) : P (State.release s n h) := by
  unfold State.release; repeat' first | with_reducible assumption | with_reducible apply answers_next (P := P) | extract_lets | with_reducible apply State.modTile_stable hP | with_reducible apply State.tileTo_stable hP | with_reducible apply State.dropTile_stable hP | with_reducible apply iff_stable (P := P) | with_reducible apply foldl_stable (P := P) | with_reducible apply foldl_stable_fst (P := P) | with_reducible apply foldl_stable_snd (P := P) | split | intro _ | dsimp +zetaDelta only []
theorem State.tileAborted_stable (s : State) (n : Nat) (hm : P s) : P (State.tileAborted s n) := by
  unfold State.tileAborted; repeat' first | with_reducible assumption | with_reducible apply answers_next (P := P) | extract_lets | with_reducible apply State.tileTo_stable hP | with_reducible apply State.bump_stable hP | with_reducible apply iff_stable (P := P) | with_reducible apply foldl_stable (P := P) | with_reducible apply foldl_stable_fst (P := P) | with_reducible apply foldl_stable_snd (P := P) | split | intro _ | dsimp +zetaDelta only []
theorem State.abortTile_stable (s : State) (n : Nat) (hm : P s) : P (State.abortTile s n) := by
  unfold State.abortTile; repeat' first | with_reducible assumption | with_reducible apply answers_next (P := P) | extract_lets | with_reducible apply State.tileAborted_stable hP | with_reducible apply State.dropTile_stable hP | with_reducible apply iff_stable (P := P) | with_reducible apply foldl_stable (P := P) | with_reducible apply foldl_stable_fst (P := P) | with_reducible apply foldl_stable_snd (P := P) | split | intro _ | dsimp +zetaDelta only []
theorem State.markPartial_stable (s : State) (l : Nat) (n : Nat) (hm : P s) : P (State.markPartial s l n) := by
  unfold State.markPartial; repeat' first | with_reducible assumption | with_reducible apply answers_next (P := P) | extract_lets | with_reducible apply State.modTile_stable hP | with_reducible apply State.bump_stable hP | with_reducible apply State.raise_stable hP | with_reducible apply iff_stable (P := P) | with_reducible apply foldl_stable (P := P) | with_reducible apply foldl_stable_fst (P := P) | with_reducible apply foldl_stable_snd (P := P) | split | intro _ | dsimp +zetaDelta only []
theorem State.addFill_stable (s : State) (l : Nat) (pool : Option Nat) (f : FillWait) (hm : P s) : P (State.addFill s l pool f) := by
  unfold State.addFill; repeat' first | with_reducible assumption | with_reducible apply answers_next (P := P) | extract_lets | with_reducible apply State.newTile_stable hP | with_reducible apply State.markPartial_stable hP | with_reducible apply iff_stable (P := P) | with_reducible apply foldl_stable (P := P) | with_reducible apply foldl_stable_fst (P := P) | with_reducible apply foldl_stable_snd (P := P) | split | intro _ | dsimp +zetaDelta only []
theorem State.addFills_stable (s : State) (l : Nat) (fs : List FillWait) (hm : P s) : P (State.addFills s l fs) := by
  induction fs generalizing s with
  | nil => unfold State.addFills; (repeat' first | with_reducible assumption | with_reducible apply answers_next (P := P) | extract_lets | with_reducible apply State.addFill_stable hP | with_reducible apply State.bump_stable hP | with_reducible apply hP.modTen | with_reducible apply iff_stable (P := P) | with_reducible apply foldl_stable (P := P) | with_reducible apply foldl_stable_fst (P := P) | with_reducible apply foldl_stable_snd (P := P) | split | intro _ | dsimp +zetaDelta only [])
  | cons _ _ ih => unfold State.addFills; repeat' first | with_reducible apply ih | with_reducible assumption | with_reducible apply answers_next (P := P) | extract_lets | with_reducible apply State.addFill_stable hP | with_reducible apply State.bump_stable hP | with_reducible apply hP.modTen | with_reducible apply iff_stable (P := P) | with_reducible apply foldl_stable (P := P) | with_reducible apply foldl_stable_fst (P := P) | with_reducible apply foldl_stable_snd (P := P) | split | intro _ | dsimp +zetaDelta only []
theorem State.queueFills_stable (s : State) (l : Nat) (fs : List FillWait) (hm : P s) : P (State.queueFills s l fs) := by
  unfold State.queueFills; repeat' first | with_reducible assumption | with_reducible apply answers_next (P := P) | extract_lets | with_reducible apply State.addFills_stable hP | with_reducible apply hP.modTen | with_reducible apply iff_stable (P := P) | with_reducible apply foldl_stable (P := P) | with_reducible apply foldl_stable_fst (P := P) | with_reducible apply foldl_stable_snd (P := P) | split | intro _ | dsimp +zetaDelta only []
theorem State.closeLine_stable (s : State) (l : Nat) (hm : P s) : P (State.closeLine s l) := by
  unfold State.closeLine; repeat' first | with_reducible assumption | with_reducible apply answers_next (P := P) | extract_lets | with_reducible apply hP.modTrigs | with_reducible apply hP.modTen | with_reducible apply State.modTile_stable hP | with_reducible apply State.queueFills_stable hP | with_reducible apply iff_stable (P := P) | with_reducible apply foldl_stable (P := P) | with_reducible apply foldl_stable_fst (P := P) | with_reducible apply foldl_stable_snd (P := P) | split | intro _ | dsimp +zetaDelta only []
theorem State.endTile_stable (s : State) (l : Nat) (part : Bool) (hm : P s) : P (State.endTile s l part) := by
  unfold State.endTile; repeat' first | with_reducible assumption | with_reducible apply answers_next (P := P) | extract_lets | with_reducible apply State.modTile_stable hP | with_reducible apply State.markPartial_stable hP | with_reducible apply hP.modTen | with_reducible apply State.putBond_stable hP | with_reducible apply State.closeLine_stable hP | with_reducible apply iff_stable (P := P) | with_reducible apply foldl_stable (P := P) | with_reducible apply foldl_stable_fst (P := P) | with_reducible apply foldl_stable_snd (P := P) | split | intro _ | dsimp +zetaDelta only []
theorem State.dropHdr_stable (s : State) (l : Nat) (hm : P s) : P (State.dropHdr s l) := by
  unfold State.dropHdr; repeat' first | with_reducible assumption | with_reducible apply answers_next (P := P) | extract_lets | with_reducible apply hP.modTen | with_reducible apply State.queueDrop_stable hP | with_reducible apply State.dropBlocks_stable hP | with_reducible apply iff_stable (P := P) | with_reducible apply foldl_stable (P := P) | with_reducible apply foldl_stable_fst (P := P) | with_reducible apply foldl_stable_snd (P := P) | split | intro _ | dsimp +zetaDelta only []
theorem State.cutTile_stable (s : State) (l : Nat) (hm : P s) : P (State.cutTile s l) := by
  unfold State.cutTile; repeat' first | with_reducible assumption | with_reducible apply answers_next (P := P) | extract_lets | with_reducible apply State.logC_stable hP | with_reducible apply State.endTile_stable hP | with_reducible apply State.dropHdr_stable hP | with_reducible apply hP.modTen | with_reducible apply State.putBond_stable hP | with_reducible apply State.closeLine_stable hP | with_reducible apply iff_stable (P := P) | with_reducible apply foldl_stable (P := P) | with_reducible apply foldl_stable_fst (P := P) | with_reducible apply foldl_stable_snd (P := P) | split | intro _ | dsimp +zetaDelta only []
theorem State.ethLog_stable (s : State) (l : Nat) (code : Nat) (hm : P s) : P (State.ethLog s l code) := by
  unfold State.ethLog; repeat' first | with_reducible assumption | with_reducible apply answers_next (P := P) | extract_lets | with_reducible apply State.logCount_stable hP | with_reducible apply iff_stable (P := P) | with_reducible apply foldl_stable (P := P) | with_reducible apply foldl_stable_fst (P := P) | with_reducible apply foldl_stable_snd (P := P) | split | intro _ | dsimp +zetaDelta only []
theorem State.ethUnserved_stable (s : State) (l : Nat) (t : Trigger) (hm : P s) : P (State.ethUnserved s l t) := by
  unfold State.ethUnserved; repeat' first | with_reducible assumption | with_reducible apply answers_next (P := P) | extract_lets | with_reducible apply State.bump_stable hP | with_reducible apply State.raise_stable hP | with_reducible apply State.ethLog_stable hP | with_reducible apply State.reportUnserved_stable hP | with_reducible apply iff_stable (P := P) | with_reducible apply foldl_stable (P := P) | with_reducible apply foldl_stable_fst (P := P) | with_reducible apply foldl_stable_snd (P := P) | split | intro _ | dsimp +zetaDelta only []
theorem State.modBlk_stable (s : State) (l : Nat) (id : Nat) (f : EthBlock → EthBlock) (hm : P s) : P (State.modBlk s l id f) := by
  unfold State.modBlk; repeat' first | with_reducible assumption | with_reducible apply answers_next (P := P) | extract_lets | with_reducible apply hP.modEth | with_reducible apply iff_stable (P := P) | with_reducible apply foldl_stable (P := P) | with_reducible apply foldl_stable_fst (P := P) | with_reducible apply foldl_stable_snd (P := P) | split | intro _ | dsimp +zetaDelta only []
theorem State.ethEntries_stable (s : State) (l : Nat) (id : Nat) (hm : P s) : P (State.ethEntries s l id) := by
  unfold State.ethEntries; repeat' first | with_reducible assumption | with_reducible apply answers_next (P := P) | extract_lets | with_reducible apply State.bump_stable hP | with_reducible apply State.newTile_stable hP | with_reducible apply State.modBlk_stable hP | with_reducible apply iff_stable (P := P) | with_reducible apply foldl_stable (P := P) | with_reducible apply foldl_stable_fst (P := P) | with_reducible apply foldl_stable_snd (P := P) | split | intro _ | dsimp +zetaDelta only []
theorem State.ethRaws_stable (s : State) (l : Nat) (id : Nat) (hm : P s) : P (State.ethRaws s l id) := by
  unfold State.ethRaws; repeat' first | with_reducible assumption | with_reducible apply answers_next (P := P) | extract_lets | with_reducible apply State.modTile_stable hP | with_reducible apply iff_stable (P := P) | with_reducible apply foldl_stable (P := P) | with_reducible apply foldl_stable_fst (P := P) | with_reducible apply foldl_stable_snd (P := P) | split | intro _ | dsimp +zetaDelta only []
theorem State.ethRefill_stable (s : State) (l : Nat) (hm : P s) : P (State.ethRefill s l) := by
  unfold State.ethRefill; repeat' first | with_reducible assumption | with_reducible apply answers_next (P := P) | extract_lets | with_reducible apply State.queueTo_stable hP | with_reducible apply iff_stable (P := P) | with_reducible apply foldl_stable (P := P) | with_reducible apply foldl_stable_fst (P := P) | with_reducible apply foldl_stable_snd (P := P) | split | intro _ | dsimp +zetaDelta only []
theorem State.ethClose_stable (s : State) (l : Nat) (id : Nat) (code : Nat) (part : Bool) (hm : P s) : P (State.ethClose s l id code part) := by
  unfold State.ethClose; repeat' first | with_reducible assumption | with_reducible apply answers_next (P := P) | extract_lets | with_reducible apply hP.modEth | with_reducible apply State.bump_stable hP | with_reducible apply State.raise_stable hP | with_reducible apply State.logC_stable hP | with_reducible apply State.ethLog_stable hP | with_reducible apply hP.modTrigs | with_reducible apply State.modTile_stable hP | with_reducible apply State.markPartial_stable hP | with_reducible apply State.queueFills_stable hP | with_reducible apply State.ethRefill_stable hP | with_reducible apply iff_stable (P := P) | with_reducible apply foldl_stable (P := P) | with_reducible apply foldl_stable_fst (P := P) | with_reducible apply foldl_stable_snd (P := P) | split | intro _ | dsimp +zetaDelta only []
theorem State.ethNotReady_stable (s : State) (l : Nat) (hm : P s) : P (State.ethNotReady s l) := by
  unfold State.ethNotReady; repeat' first | with_reducible assumption | with_reducible apply answers_next (P := P) | extract_lets | with_reducible apply State.putB_stable hP | with_reducible apply State.raise_stable hP | with_reducible apply iff_stable (P := P) | with_reducible apply foldl_stable (P := P) | with_reducible apply foldl_stable_fst (P := P) | with_reducible apply foldl_stable_snd (P := P) | split | intro _ | dsimp +zetaDelta only []
theorem State.ethDown_stable (s : State) (l : Nat) (hm : P s) : P (State.ethDown s l) := by
  unfold State.ethDown; repeat' first | with_reducible assumption | with_reducible apply answers_next (P := P) | extract_lets | with_reducible apply State.ethClose_stable hP | with_reducible apply State.ethNotReady_stable hP | with_reducible apply State.putB_stable hP | with_reducible apply State.kerfFlush_stable hP | with_reducible apply hP.modEth | with_reducible apply iff_stable (P := P) | with_reducible apply foldl_stable (P := P) | with_reducible apply foldl_stable_fst (P := P) | with_reducible apply foldl_stable_snd (P := P) | split | intro _ | dsimp +zetaDelta only []
theorem State.setFir_stable (s : State) (l : Nat) (preset : Nat) (pre : Nat) (main : Nat) (post : Nat) (hm : P s) : P (State.setFir s l preset pre main post) := by
  unfold State.setFir; repeat' first | with_reducible assumption | with_reducible apply answers_next (P := P) | extract_lets | with_reducible apply State.put_stable hP | with_reducible apply iff_stable (P := P) | with_reducible apply foldl_stable (P := P) | with_reducible apply foldl_stable_fst (P := P) | with_reducible apply foldl_stable_snd (P := P) | split | intro _ | dsimp +zetaDelta only []
theorem State.startFir_stable (s : State) (l : Nat) (hm : P s) : P (State.startFir s l) := by
  unfold State.startFir; repeat' first | with_reducible assumption | with_reducible apply answers_next (P := P) | extract_lets | with_reducible apply State.setFir_stable hP | with_reducible apply State.logC_stable hP | with_reducible apply iff_stable (P := P) | with_reducible apply foldl_stable (P := P) | with_reducible apply foldl_stable_fst (P := P) | with_reducible apply foldl_stable_snd (P := P) | split | intro _ | dsimp +zetaDelta only []
theorem State.sendTrain_stable (s : State) (l : Nat) (sub : Nat) (content : List Byte) (hm : P s) : P (State.sendTrain s l sub content) := by
  unfold State.sendTrain; repeat' first | with_reducible assumption | with_reducible apply answers_next (P := P) | extract_lets | with_reducible apply State.sendCtl_stable hP | with_reducible apply hP.modPhy | with_reducible apply iff_stable (P := P) | with_reducible apply foldl_stable (P := P) | with_reducible apply foldl_stable_fst (P := P) | with_reducible apply foldl_stable_snd (P := P) | split | intro _ | dsimp +zetaDelta only []
theorem State.sendStatus_stable (s : State) (l : Nat) (hm : P s) : P (State.sendStatus s l) := by
  unfold State.sendStatus; repeat' first | with_reducible assumption | with_reducible apply answers_next (P := P) | extract_lets | with_reducible apply State.sendTrain_stable hP | with_reducible apply iff_stable (P := P) | with_reducible apply foldl_stable (P := P) | with_reducible apply foldl_stable_fst (P := P) | with_reducible apply foldl_stable_snd (P := P) | split | intro _ | dsimp +zetaDelta only []
theorem State.sendCoeff_stable (s : State) (l : Nat) (hm : P s) : P (State.sendCoeff s l) := by
  unfold State.sendCoeff; repeat' first | with_reducible assumption | with_reducible apply answers_next (P := P) | extract_lets | with_reducible apply State.sendTrain_stable hP | with_reducible apply iff_stable (P := P) | with_reducible apply foldl_stable (P := P) | with_reducible apply foldl_stable_fst (P := P) | with_reducible apply foldl_stable_snd (P := P) | split | intro _ | dsimp +zetaDelta only []
theorem State.sendCap0_stable (s : State) (l : Nat) (hm : P s) : P (State.sendCap0 s l) := by
  unfold State.sendCap0; repeat' first | with_reducible assumption | with_reducible apply answers_next (P := P) | extract_lets | with_reducible apply State.sendTrain_stable hP | with_reducible apply iff_stable (P := P) | with_reducible apply foldl_stable (P := P) | with_reducible apply foldl_stable_fst (P := P) | with_reducible apply foldl_stable_snd (P := P) | split | intro _ | dsimp +zetaDelta only []
theorem State.sendCap1_stable (s : State) (l : Nat) (hm : P s) : P (State.sendCap1 s l) := by
  unfold State.sendCap1; repeat' first | with_reducible assumption | with_reducible apply answers_next (P := P) | extract_lets | with_reducible apply State.sendTrain_stable hP | with_reducible apply iff_stable (P := P) | with_reducible apply foldl_stable (P := P) | with_reducible apply foldl_stable_fst (P := P) | with_reducible apply foldl_stable_snd (P := P) | split | intro _ | dsimp +zetaDelta only []
theorem State.sendReq_stable (s : State) (l : Nat) (hm : P s) : P (State.sendReq s l) := by
  unfold State.sendReq; repeat' first | with_reducible assumption | with_reducible apply answers_next (P := P) | extract_lets | with_reducible apply State.sendTrain_stable hP | with_reducible apply State.sendStatus_stable hP | with_reducible apply iff_stable (P := P) | with_reducible apply foldl_stable (P := P) | with_reducible apply foldl_stable_fst (P := P) | with_reducible apply foldl_stable_snd (P := P) | split | intro _ | dsimp +zetaDelta only []
theorem State.sendAns_stable (s : State) (l : Nat) (hm : P s) : P (State.sendAns s l) := by
  unfold State.sendAns; repeat' first | with_reducible assumption | with_reducible apply answers_next (P := P) | extract_lets | with_reducible apply State.sendTrain_stable hP | with_reducible apply State.sendStatus_stable hP | with_reducible apply iff_stable (P := P) | with_reducible apply foldl_stable (P := P) | with_reducible apply foldl_stable_fst (P := P) | with_reducible apply foldl_stable_snd (P := P) | split | intro _ | dsimp +zetaDelta only []
theorem State.trainSlot_stable (s : State) (l : Nat) (k : Nat) (hm : P s) : P (State.trainSlot s l k) := by
  unfold State.trainSlot; repeat' first | with_reducible assumption | with_reducible apply answers_next (P := P) | extract_lets | with_reducible apply State.sendReq_stable hP | with_reducible apply State.sendAns_stable hP | with_reducible apply State.sendCoeff_stable hP | with_reducible apply State.sendCap0_stable hP | with_reducible apply State.sendCap1_stable hP | with_reducible apply State.sendStatus_stable hP | with_reducible apply iff_stable (P := P) | with_reducible apply foldl_stable (P := P) | with_reducible apply foldl_stable_fst (P := P) | with_reducible apply foldl_stable_snd (P := P) | split | intro _ | dsimp +zetaDelta only []
theorem State.trainRound_stable (s : State) (l : Nat) (hm : P s) : P (State.trainRound s l) := by
  unfold State.trainRound; repeat' first | with_reducible assumption | with_reducible apply answers_next (P := P) | extract_lets | with_reducible apply State.trainSlot_stable hP | with_reducible apply iff_stable (P := P) | with_reducible apply foldl_stable (P := P) | with_reducible apply foldl_stable_fst (P := P) | with_reducible apply foldl_stable_snd (P := P) | split | intro _ | dsimp +zetaDelta only []
theorem State.request_stable (s : State) (l : Nat) (b2 : Nat) (b3 : Nat) (hm : P s) : P (State.request s l b2 b3) := by
  unfold State.request; repeat' first | with_reducible assumption | with_reducible apply answers_next (P := P) | extract_lets | with_reducible apply hP.modPhy | with_reducible apply State.sendReq_stable hP | with_reducible apply iff_stable (P := P) | with_reducible apply foldl_stable (P := P) | with_reducible apply foldl_stable_fst (P := P) | with_reducible apply foldl_stable_snd (P := P) | split | intro _ | dsimp +zetaDelta only []
theorem State.askTaps_stable (s : State) (l : Nat) (hm : P s) : P (State.askTaps s l) := by
  unfold State.askTaps; repeat' first | with_reducible assumption | with_reducible apply answers_next (P := P) | extract_lets | with_reducible apply hP.free | with_reducible apply State.request_stable hP | with_reducible apply iff_stable (P := P) | with_reducible apply foldl_stable (P := P) | with_reducible apply foldl_stable_fst (P := P) | with_reducible apply foldl_stable_snd (P := P) | split | intro _ | dsimp +zetaDelta only []
theorem State.eqStart_stable (s : State) (l : Nat) (hm : P s) : P (State.eqStart s l) := by
  unfold State.eqStart; repeat' first | with_reducible assumption | with_reducible apply answers_next (P := P) | extract_lets | with_reducible apply hP.modPhy | with_reducible apply iff_stable (P := P) | with_reducible apply foldl_stable (P := P) | with_reducible apply foldl_stable_fst (P := P) | with_reducible apply foldl_stable_snd (P := P) | split | intro _ | dsimp +zetaDelta only []
theorem State.startCredit_stable (s : State) (l : Nat) (hm : P s) : P (State.startCredit s l) := by
  unfold State.startCredit; repeat' first | with_reducible assumption | with_reducible apply answers_next (P := P) | extract_lets | with_reducible apply hP.modTen | with_reducible apply State.sendCredit_stable hP | with_reducible apply iff_stable (P := P) | with_reducible apply foldl_stable (P := P) | with_reducible apply foldl_stable_fst (P := P) | with_reducible apply foldl_stable_snd (P := P) | split | intro _ | dsimp +zetaDelta only []
theorem State.setLane_stable (s : State) (l : Nat) (st : Nat) (hm : P s) : P (State.setLane s l st) := by
  unfold State.setLane; repeat' first | with_reducible assumption | with_reducible apply answers_next (P := P) | extract_lets | with_reducible apply State.put_stable hP | with_reducible apply iff_stable (P := P) | with_reducible apply foldl_stable (P := P) | with_reducible apply foldl_stable_fst (P := P) | with_reducible apply foldl_stable_snd (P := P) | split | intro _ | dsimp +zetaDelta only []
theorem State.clearLocks_stable (s : State) (l : Nat) (hm : P s) : P (State.clearLocks s l) := by
  unfold State.clearLocks; repeat' first | with_reducible assumption | with_reducible apply answers_next (P := P) | extract_lets | with_reducible apply State.putB_stable hP | with_reducible apply iff_stable (P := P) | with_reducible apply foldl_stable (P := P) | with_reducible apply foldl_stable_fst (P := P) | with_reducible apply foldl_stable_snd (P := P) | split | intro _ | dsimp +zetaDelta only []
theorem State.seek_stable (s : State) (l : Nat) (g : Nat) (hm : P s) : P (State.seek s l g) := by
  unfold State.seek; repeat' first | with_reducible assumption | with_reducible apply answers_next (P := P) | extract_lets | with_reducible apply State.setLane_stable hP | with_reducible apply State.put_stable hP | with_reducible apply State.clearLocks_stable hP | with_reducible apply State.putB_stable hP | with_reducible apply State.startFir_stable hP | with_reducible apply hP.modPhy | with_reducible apply State.ready_stable hP | with_reducible apply iff_stable (P := P) | with_reducible apply foldl_stable (P := P) | with_reducible apply foldl_stable_fst (P := P) | with_reducible apply foldl_stable_snd (P := P) | split | intro _ | dsimp +zetaDelta only []
theorem State.laneOff_stable (s : State) (l : Nat) (hm : P s) : P (State.laneOff s l) := by
  unfold State.laneOff; repeat' first | with_reducible assumption | with_reducible apply answers_next (P := P) | extract_lets | with_reducible apply State.setLane_stable hP | with_reducible apply State.put_stable hP | with_reducible apply State.clearLocks_stable hP | with_reducible apply State.putB_stable hP | with_reducible apply hP.modPhy | with_reducible apply iff_stable (P := P) | with_reducible apply foldl_stable (P := P) | with_reducible apply foldl_stable_fst (P := P) | with_reducible apply foldl_stable_snd (P := P) | split | intro _ | dsimp +zetaDelta only []
theorem State.session_stable (s : State) (l : Nat) (ceil : Nat) (hm : P s) : P (State.session s l ceil) := by
  unfold State.session; repeat' first | with_reducible assumption | with_reducible apply answers_next (P := P) | extract_lets | with_reducible apply State.laneOff_stable hP | with_reducible apply State.latch_stable hP | with_reducible apply State.bump_stable hP | with_reducible apply State.putB_stable hP | with_reducible apply hP.modPhy | with_reducible apply State.wrN_stable hP | with_reducible apply State.setLane_stable hP | with_reducible apply State.eqStart_stable hP | with_reducible apply State.put_stable hP | with_reducible apply State.seek_stable hP | with_reducible apply State.logC_stable hP | with_reducible apply iff_stable (P := P) | with_reducible apply foldl_stable (P := P) | with_reducible apply foldl_stable_fst (P := P) | with_reducible apply foldl_stable_snd (P := P) | split | intro _ | dsimp +zetaDelta only []
theorem State.ethSeek_stable (s : State) (l : Nat) (hm : P s) : P (State.ethSeek s l) := by
  unfold State.ethSeek; repeat' first | with_reducible assumption | with_reducible apply answers_next (P := P) | extract_lets | with_reducible apply State.seek_stable hP | with_reducible apply State.logC_stable hP | with_reducible apply iff_stable (P := P) | with_reducible apply foldl_stable (P := P) | with_reducible apply foldl_stable_fst (P := P) | with_reducible apply foldl_stable_snd (P := P) | split | intro _ | dsimp +zetaDelta only []
theorem State.ctrlDone_stable (s : State) (l : Nat) (code : Nat) (value : Nat) (hm : P s) : P (State.ctrlDone s l code value) := by
  unfold State.ctrlDone; repeat' first | with_reducible assumption | with_reducible apply answers_next (P := P) | extract_lets | with_reducible apply State.wrN_stable hP | with_reducible apply State.publish_stable hP | with_reducible apply State.putB_stable hP | with_reducible apply State.putBond_stable hP | with_reducible apply hP.modTen | with_reducible apply State.raise_stable hP | with_reducible apply iff_stable (P := P) | with_reducible apply foldl_stable (P := P) | with_reducible apply foldl_stable_fst (P := P) | with_reducible apply foldl_stable_snd (P := P) | split | intro _ | dsimp +zetaDelta only []
theorem State.depart_stable (s : State) (l : Nat) (code : Nat) (arg : Nat) (hm : P s) : P (State.depart s l code arg) := by
  unfold State.depart; repeat' first | with_reducible assumption | with_reducible apply answers_next (P := P) | extract_lets | with_reducible apply State.laneEvent_stable hP | with_reducible apply State.logC_stable hP | with_reducible apply iff_stable (P := P) | with_reducible apply foldl_stable (P := P) | with_reducible apply foldl_stable_fst (P := P) | with_reducible apply foldl_stable_snd (P := P) | split | intro _ | dsimp +zetaDelta only []
theorem State.rxRestart_stable (s : State) (l : Nat) (hm : P s) : P (State.rxRestart s l) := by
  unfold State.rxRestart; repeat' first | with_reducible assumption | with_reducible apply answers_next (P := P) | extract_lets | with_reducible apply hP.modTen | with_reducible apply iff_stable (P := P) | with_reducible apply foldl_stable (P := P) | with_reducible apply foldl_stable_fst (P := P) | with_reducible apply foldl_stable_snd (P := P) | split | intro _ | dsimp +zetaDelta only []
theorem State.tenonDown_stable (s : State) (l : Nat) (hm : P s) : P (State.tenonDown s l) := by
  unfold State.tenonDown; repeat' first | with_reducible assumption | with_reducible apply answers_next (P := P) | extract_lets | with_reducible apply State.putBond_stable hP | with_reducible apply State.cutTile_stable hP | with_reducible apply State.ctrlDone_stable hP | with_reducible apply State.rxRestart_stable hP | with_reducible apply State.kerfFlush_stable hP | with_reducible apply iff_stable (P := P) | with_reducible apply foldl_stable (P := P) | with_reducible apply foldl_stable_fst (P := P) | with_reducible apply foldl_stable_snd (P := P) | split | intro _ | dsimp +zetaDelta only []
theorem State.laneOut_stable (s : State) (l : Nat) (code : Nat) (arg : Nat) (hm : P s) : P (State.laneOut s l code arg) := by
  unfold State.laneOut; repeat' first | with_reducible assumption | with_reducible apply answers_next (P := P) | extract_lets | with_reducible apply State.depart_stable hP | with_reducible apply hP.modPhy | with_reducible apply State.ethDown_stable hP | with_reducible apply State.tenonDown_stable hP | with_reducible apply State.raise_stable hP | with_reducible apply State.logC_stable hP | with_reducible apply State.session_stable hP | with_reducible apply iff_stable (P := P) | with_reducible apply foldl_stable (P := P) | with_reducible apply foldl_stable_fst (P := P) | with_reducible apply foldl_stable_snd (P := P) | split | intro _ | dsimp +zetaDelta only []
theorem State.restart_stable (s : State) (l : Nat) (code : Nat) (arg : Nat) (hm : P s) : P (State.restart s l code arg) := by
  unfold State.restart; repeat' first | with_reducible assumption | with_reducible apply answers_next (P := P) | extract_lets | with_reducible apply State.laneOut_stable hP | with_reducible apply State.ethSeek_stable hP | with_reducible apply State.session_stable hP | with_reducible apply iff_stable (P := P) | with_reducible apply foldl_stable (P := P) | with_reducible apply foldl_stable_fst (P := P) | with_reducible apply foldl_stable_snd (P := P) | split | intro _ | dsimp +zetaDelta only []
theorem State.sendViol_stable (s : State) (l : Nat) (reason : Nat) (detail : Nat) (count : Nat) (hm : P s) : P (State.sendViol s l reason detail count) := by
  unfold State.sendViol; repeat' first | with_reducible assumption | with_reducible apply answers_next (P := P) | extract_lets | with_reducible apply State.sendCtl_stable hP | with_reducible apply iff_stable (P := P) | with_reducible apply foldl_stable (P := P) | with_reducible apply foldl_stable_fst (P := P) | with_reducible apply foldl_stable_snd (P := P) | split | intro _ | dsimp +zetaDelta only []
theorem State.violRun_stable (s : State) (l : Nat) (reason : Nat) (detail : Nat) (hm : P s) : P (State.violRun s l reason detail) := by
  unfold State.violRun; repeat' first | with_reducible assumption | with_reducible apply answers_next (P := P) | extract_lets | with_reducible apply hP.free | with_reducible apply hP.modTen | with_reducible apply State.sendViol_stable hP | with_reducible apply iff_stable (P := P) | with_reducible apply foldl_stable (P := P) | with_reducible apply foldl_stable_fst (P := P) | with_reducible apply foldl_stable_snd (P := P) | split | intro _ | dsimp +zetaDelta only []
theorem State.violate_stable (s : State) (l : Nat) (reason : Nat) (detail : Nat) (hm : P s) : P (State.violate s l reason detail) := by
  unfold State.violate; repeat' first | with_reducible assumption | with_reducible apply answers_next (P := P) | extract_lets | with_reducible apply State.bump_stable hP | with_reducible apply State.wrN_stable hP | with_reducible apply State.publish_stable hP | with_reducible apply State.raise_stable hP | with_reducible apply State.violRun_stable hP | with_reducible apply State.logCount_stable hP | with_reducible apply hP.modTen | with_reducible apply State.logC_stable hP | with_reducible apply State.depart_stable hP | with_reducible apply State.session_stable hP | with_reducible apply State.tenonDown_stable hP | with_reducible apply iff_stable (P := P) | with_reducible apply foldl_stable (P := P) | with_reducible apply foldl_stable_fst (P := P) | with_reducible apply foldl_stable_snd (P := P) | split | intro _ | dsimp +zetaDelta only []
theorem State.tileViol_stable (s : State) (l : Nat) (reason : Nat) (detail : Nat) (bad : Bool) (hm : P s) : P (State.tileViol s l reason detail bad) := by
  unfold State.tileViol; repeat' first | with_reducible assumption | with_reducible apply answers_next (P := P) | extract_lets | with_reducible apply State.logCount_stable hP | with_reducible apply State.violate_stable hP | with_reducible apply iff_stable (P := P) | with_reducible apply foldl_stable (P := P) | with_reducible apply foldl_stable_fst (P := P) | with_reducible apply foldl_stable_snd (P := P) | split | intro _ | dsimp +zetaDelta only []
theorem State.violStart_stable (s : State) (l : Nat) (hm : P s) : P (State.violStart s l) := by
  unfold State.violStart; repeat' first | with_reducible assumption | with_reducible apply answers_next (P := P) | extract_lets | with_reducible apply hP.modTen | with_reducible apply iff_stable (P := P) | with_reducible apply foldl_stable (P := P) | with_reducible apply foldl_stable_fst (P := P) | with_reducible apply foldl_stable_snd (P := P) | split | intro _ | dsimp +zetaDelta only []
theorem State.tenonUp_stable (s : State) (l : Nat) (hm : P s) : P (State.tenonUp s l) := by
  unfold State.tenonUp; repeat' first | with_reducible assumption | with_reducible apply answers_next (P := P) | extract_lets | with_reducible apply State.violStart_stable hP | with_reducible apply hP.modTen | with_reducible apply State.rxRestart_stable hP | with_reducible apply State.putBond_stable hP | with_reducible apply State.startCredit_stable hP | with_reducible apply iff_stable (P := P) | with_reducible apply foldl_stable (P := P) | with_reducible apply foldl_stable_fst (P := P) | with_reducible apply foldl_stable_snd (P := P) | split | intro _ | dsimp +zetaDelta only []
theorem State.bondGrades_stable (s : State) (l : Nat) (hm : P s) : P (State.bondGrades s l) := by
  unfold State.bondGrades; repeat' first | with_reducible assumption | with_reducible apply answers_next (P := P) | extract_lets | with_reducible apply State.depart_stable hP | with_reducible apply State.session_stable hP | with_reducible apply iff_stable (P := P) | with_reducible apply foldl_stable (P := P) | with_reducible apply foldl_stable_fst (P := P) | with_reducible apply foldl_stable_snd (P := P) | split | intro _ | dsimp +zetaDelta only []
theorem State.laneActive_stable (s : State) (l : Nat) (hm : P s) : P (State.laneActive s l) := by
  unfold State.laneActive; repeat' first | with_reducible assumption | with_reducible apply answers_next (P := P) | extract_lets | with_reducible apply State.setLane_stable hP | with_reducible apply State.laneEvent_stable hP | with_reducible apply State.logC_stable hP | with_reducible apply State.put_stable hP | with_reducible apply State.putB_stable hP | with_reducible apply hP.modPhy | with_reducible apply State.latch_stable hP | with_reducible apply State.tenonUp_stable hP | with_reducible apply State.violStart_stable hP | with_reducible apply State.bondGrades_stable hP | with_reducible apply iff_stable (P := P) | with_reducible apply foldl_stable (P := P) | with_reducible apply foldl_stable_fst (P := P) | with_reducible apply foldl_stable_snd (P := P) | split | intro _ | dsimp +zetaDelta only []
theorem State.absent_stable (s : State) (l : Nat) (hm : P s) : P (State.absent s l) := by
  unfold State.absent; repeat' first | with_reducible assumption | with_reducible apply answers_next (P := P) | extract_lets | with_reducible apply State.setLane_stable hP | with_reducible apply State.put_stable hP | with_reducible apply State.clearLocks_stable hP | with_reducible apply hP.modPhy | with_reducible apply State.laneEvent_stable hP | with_reducible apply State.logC_stable hP | with_reducible apply iff_stable (P := P) | with_reducible apply foldl_stable (P := P) | with_reducible apply foldl_stable_fst (P := P) | with_reducible apply foldl_stable_snd (P := P) | split | intro _ | dsimp +zetaDelta only []
theorem State.seekFail_stable (s : State) (l : Nat) (hm : P s) : P (State.seekFail s l) := by
  unfold State.seekFail; repeat' first | with_reducible assumption | with_reducible apply answers_next (P := P) | extract_lets | with_reducible apply hP.modPhy | with_reducible apply State.seek_stable hP | with_reducible apply State.absent_stable hP | with_reducible apply State.session_stable hP | with_reducible apply iff_stable (P := P) | with_reducible apply foldl_stable (P := P) | with_reducible apply foldl_stable_fst (P := P) | with_reducible apply foldl_stable_snd (P := P) | split | intro _ | dsimp +zetaDelta only []
theorem State.stepFail_stable (s : State) (l : Nat) (g : Nat) (hm : P s) : P (State.stepFail s l g) := by
  unfold State.stepFail; repeat' first | with_reducible assumption | with_reducible apply answers_next (P := P) | extract_lets | with_reducible apply State.bump_stable hP | with_reducible apply hP.modPhy | with_reducible apply State.seek_stable hP | with_reducible apply iff_stable (P := P) | with_reducible apply foldl_stable (P := P) | with_reducible apply foldl_stable_fst (P := P) | with_reducible apply foldl_stable_snd (P := P) | split | intro _ | dsimp +zetaDelta only []
theorem State.waitFail_stable (s : State) (l : Nat) (hm : P s) : P (State.waitFail s l) := by
  unfold State.waitFail; repeat' first | with_reducible assumption | with_reducible apply answers_next (P := P) | extract_lets | with_reducible apply State.stepFail_stable hP | with_reducible apply State.seekFail_stable hP | with_reducible apply iff_stable (P := P) | with_reducible apply foldl_stable (P := P) | with_reducible apply foldl_stable_fst (P := P) | with_reducible apply foldl_stable_snd (P := P) | split | intro _ | dsimp +zetaDelta only []
theorem State.askStep_stable (s : State) (l : Nat) (hm : P s) : P (State.askStep s l) := by
  unfold State.askStep; repeat' first | with_reducible assumption | with_reducible apply answers_next (P := P) | extract_lets | with_reducible apply State.setLane_stable hP | with_reducible apply hP.modPhy | with_reducible apply State.sendStatus_stable hP | with_reducible apply iff_stable (P := P) | with_reducible apply foldl_stable (P := P) | with_reducible apply foldl_stable_fst (P := P) | with_reducible apply foldl_stable_snd (P := P) | split | intro _ | dsimp +zetaDelta only []
theorem State.stepDown_stable (s : State) (l : Nat) (target : Nat) (hm : P s) : P (State.stepDown s l target) := by
  unfold State.stepDown; repeat' first | with_reducible assumption | with_reducible apply answers_next (P := P) | extract_lets | with_reducible apply State.setLane_stable hP | with_reducible apply hP.modPhy | with_reducible apply State.sendStatus_stable hP | with_reducible apply iff_stable (P := P) | with_reducible apply foldl_stable (P := P) | with_reducible apply foldl_stable_fst (P := P) | with_reducible apply foldl_stable_snd (P := P) | split | intro _ | dsimp +zetaDelta only []
theorem State.equalise_stable (s : State) (l : Nat) (hm : P s) : P (State.equalise s l) := by
  unfold State.equalise; repeat' first | with_reducible assumption | with_reducible apply answers_next (P := P) | extract_lets | with_reducible apply State.setLane_stable hP | with_reducible apply hP.modPhy | with_reducible apply State.ready_stable hP | with_reducible apply State.askTaps_stable hP | with_reducible apply State.request_stable hP | with_reducible apply iff_stable (P := P) | with_reducible apply foldl_stable (P := P) | with_reducible apply foldl_stable_fst (P := P) | with_reducible apply foldl_stable_snd (P := P) | split | intro _ | dsimp +zetaDelta only []
theorem State.seekDone_stable (s : State) (l : Nat) (hm : P s) : P (State.seekDone s l) := by
  unfold State.seekDone; repeat' first | with_reducible assumption | with_reducible apply answers_next (P := P) | extract_lets | with_reducible apply State.equalise_stable hP | with_reducible apply State.setLane_stable hP | with_reducible apply State.sendCap0_stable hP | with_reducible apply State.sendCap1_stable hP | with_reducible apply State.askStep_stable hP | with_reducible apply hP.modPhy | with_reducible apply State.putB_stable hP | with_reducible apply State.laneEvent_stable hP | with_reducible apply State.logC_stable hP | with_reducible apply iff_stable (P := P) | with_reducible apply foldl_stable (P := P) | with_reducible apply foldl_stable_fst (P := P) | with_reducible apply foldl_stable_snd (P := P) | split | intro _ | dsimp +zetaDelta only []
theorem State.sendProbe_stable (s : State) (l : Nat) (hm : P s) : P (State.sendProbe s l) := by
  unfold State.sendProbe; repeat' first | with_reducible assumption | with_reducible apply answers_next (P := P) | extract_lets | with_reducible apply State.txStamp_stable hP | with_reducible apply hP.modTen | with_reducible apply State.sendCtl_stable hP | with_reducible apply iff_stable (P := P) | with_reducible apply foldl_stable (P := P) | with_reducible apply foldl_stable_fst (P := P) | with_reducible apply foldl_stable_snd (P := P) | split | intro _ | dsimp +zetaDelta only []
theorem State.equaliseDone_stable (s : State) (l : Nat) (hm : P s) : P (State.equaliseDone s l) := by
  unfold State.equaliseDone; repeat' first | with_reducible assumption | with_reducible apply answers_next (P := P) | extract_lets | with_reducible apply hP.modPhy | with_reducible apply State.askStep_stable hP | with_reducible apply State.laneActive_stable hP | with_reducible apply hP.modTen | with_reducible apply State.sendProbe_stable hP | with_reducible apply iff_stable (P := P) | with_reducible apply foldl_stable (P := P) | with_reducible apply foldl_stable_fst (P := P) | with_reducible apply foldl_stable_snd (P := P) | split | intro _ | dsimp +zetaDelta only []
theorem State.progress_stable (s : State) (l : Nat) (hm : P s) : P (State.progress s l) := by
  unfold State.progress; repeat' first | with_reducible assumption | with_reducible apply answers_next (P := P) | extract_lets | with_reducible apply State.seekDone_stable hP | with_reducible apply hP.modPhy | with_reducible apply State.equalise_stable hP | with_reducible apply State.ready_stable hP | with_reducible apply State.equaliseDone_stable hP | with_reducible apply iff_stable (P := P) | with_reducible apply foldl_stable (P := P) | with_reducible apply foldl_stable_fst (P := P) | with_reducible apply foldl_stable_snd (P := P) | split | intro _ | dsimp +zetaDelta only []
theorem State.switched_stable (s : State) (l : Nat) (g : Nat) (hm : P s) : P (State.switched s l g) := by
  unfold State.switched; repeat' first | with_reducible assumption | with_reducible apply answers_next (P := P) | extract_lets | with_reducible apply hP.modPhy | with_reducible apply State.seek_stable hP | with_reducible apply State.stepFail_stable hP | with_reducible apply State.seekFail_stable hP | with_reducible apply iff_stable (P := P) | with_reducible apply foldl_stable (P := P) | with_reducible apply foldl_stable_fst (P := P) | with_reducible apply foldl_stable_snd (P := P) | split | intro _ | dsimp +zetaDelta only []
theorem State.switchTx_stable (s : State) (l : Nat) (hm : P s) : P (State.switchTx s l) := by
  unfold State.switchTx; repeat' first | with_reducible assumption | with_reducible apply answers_next (P := P) | extract_lets | with_reducible apply hP.modPhy | with_reducible apply State.switched_stable hP | with_reducible apply iff_stable (P := P) | with_reducible apply foldl_stable (P := P) | with_reducible apply foldl_stable_fst (P := P) | with_reducible apply foldl_stable_snd (P := P) | split | intro _ | dsimp +zetaDelta only []
theorem State.switchRx_stable (s : State) (l : Nat) (hm : P s) : P (State.switchRx s l) := by
  unfold State.switchRx; repeat' first | with_reducible assumption | with_reducible apply answers_next (P := P) | extract_lets | with_reducible apply hP.modPhy | with_reducible apply State.switched_stable hP | with_reducible apply iff_stable (P := P) | with_reducible apply foldl_stable (P := P) | with_reducible apply foldl_stable_fst (P := P) | with_reducible apply foldl_stable_snd (P := P) | split | intro _ | dsimp +zetaDelta only []
theorem State.equaliseLow_stable (s : State) (l : Nat) (hm : P s) : P (State.equaliseLow s l) := by
  unfold State.equaliseLow; repeat' first | with_reducible assumption | with_reducible apply answers_next (P := P) | extract_lets | with_reducible apply State.stepDown_stable hP | with_reducible apply State.eqStart_stable hP | with_reducible apply iff_stable (P := P) | with_reducible apply foldl_stable (P := P) | with_reducible apply foldl_stable_fst (P := P) | with_reducible apply foldl_stable_snd (P := P) | split | intro _ | dsimp +zetaDelta only []
theorem State.laneUpdate_stable (s : State) (l : Nat) (cause : Nat) (hm : P s) : P (State.laneUpdate s l cause) := by
  unfold State.laneUpdate; repeat' first | with_reducible assumption | with_reducible apply answers_next (P := P) | extract_lets | with_reducible apply State.setLane_stable hP | with_reducible apply State.laneOut_stable hP | with_reducible apply State.laneOff_stable hP | with_reducible apply iff_stable (P := P) | with_reducible apply foldl_stable (P := P) | with_reducible apply foldl_stable_fst (P := P) | with_reducible apply foldl_stable_snd (P := P) | split | intro _ | dsimp +zetaDelta only []
theorem State.retrain_stable (s : State) (l : Nat) (hm : P s) : P (State.retrain s l) := by
  unfold State.retrain; repeat' first | with_reducible assumption | with_reducible apply answers_next (P := P) | extract_lets | with_reducible apply State.laneOut_stable hP | with_reducible apply State.logC_stable hP | with_reducible apply State.session_stable hP | with_reducible apply State.restart_stable hP | with_reducible apply iff_stable (P := P) | with_reducible apply foldl_stable (P := P) | with_reducible apply foldl_stable_fst (P := P) | with_reducible apply foldl_stable_snd (P := P) | split | intro _ | dsimp +zetaDelta only []
theorem execLanePllLock_stable (l : Fin 96) (s : State) (hm : P s) : Answers P (execLanePllLock l s) := by
  unfold execLanePllLock; repeat' first | with_reducible assumption | with_reducible apply answers_next (P := P) | extract_lets | with_reducible apply State.putB_stable hP | with_reducible apply State.setLane_stable hP | with_reducible apply State.latch_stable hP | with_reducible apply State.put_stable hP | with_reducible apply State.startFir_stable hP | with_reducible apply State.session_stable hP | with_reducible apply iff_stable (P := P) | with_reducible apply foldl_stable (P := P) | with_reducible apply foldl_stable_fst (P := P) | with_reducible apply foldl_stable_snd (P := P) | split | intro _ | dsimp +zetaDelta only []
theorem State.lanePllLost_stable (s : State) (l : Nat) (hm : P s) : P (State.lanePllLost s l) := by
  unfold State.lanePllLost; repeat' first | with_reducible assumption | with_reducible apply answers_next (P := P) | extract_lets | with_reducible apply State.laneOut_stable hP | with_reducible apply State.laneEvent_stable hP | with_reducible apply State.logC_stable hP | with_reducible apply State.setLane_stable hP | with_reducible apply State.put_stable hP | with_reducible apply State.clearLocks_stable hP | with_reducible apply State.putB_stable hP | with_reducible apply hP.modPhy | with_reducible apply iff_stable (P := P) | with_reducible apply foldl_stable (P := P) | with_reducible apply foldl_stable_fst (P := P) | with_reducible apply foldl_stable_snd (P := P) | split | intro _ | dsimp +zetaDelta only []
theorem execLanePllLoss_stable (l : Fin 96) (s : State) (hm : P s) : Answers P (execLanePllLoss l s) := by
  unfold execLanePllLoss; repeat' first | with_reducible assumption | with_reducible apply answers_next (P := P) | extract_lets | with_reducible apply State.lanePllLost_stable hP | with_reducible apply iff_stable (P := P) | with_reducible apply foldl_stable (P := P) | with_reducible apply foldl_stable_fst (P := P) | with_reducible apply foldl_stable_snd (P := P) | split | intro _ | dsimp +zetaDelta only []
theorem State.rxBlock_stable (s : State) (l : Nat) (idle : Bool) (hm : P s) : P (State.rxBlock s l idle) := by
  unfold State.rxBlock; repeat' first | with_reducible assumption | with_reducible apply answers_next (P := P) | extract_lets | with_reducible apply State.putB_stable hP | with_reducible apply hP.modPhy | with_reducible apply State.setLane_stable hP | with_reducible apply State.violate_stable hP | with_reducible apply iff_stable (P := P) | with_reducible apply foldl_stable (P := P) | with_reducible apply foldl_stable_fst (P := P) | with_reducible apply foldl_stable_snd (P := P) | split | intro _ | dsimp +zetaDelta only []
theorem execBlockLockGain_stable (l : Fin 96) (s : State) (hm : P s) : Answers P (execBlockLockGain l s) := by
  unfold execBlockLockGain; repeat' first | with_reducible assumption | with_reducible apply answers_next (P := P) | extract_lets | with_reducible apply State.putB_stable hP | with_reducible apply hP.modPhy | with_reducible apply State.laneActive_stable hP | with_reducible apply iff_stable (P := P) | with_reducible apply foldl_stable (P := P) | with_reducible apply foldl_stable_fst (P := P) | with_reducible apply foldl_stable_snd (P := P) | split | intro _ | dsimp +zetaDelta only []
theorem State.lockLost_stable (s : State) (l : Nat) (hm : P s) : P (State.lockLost s l) := by
  unfold State.lockLost; repeat' first | with_reducible assumption | with_reducible apply answers_next (P := P) | extract_lets | with_reducible apply State.restart_stable hP | with_reducible apply State.cutTile_stable hP | with_reducible apply hP.modPhy | with_reducible apply State.waitFail_stable hP | with_reducible apply iff_stable (P := P) | with_reducible apply foldl_stable (P := P) | with_reducible apply foldl_stable_fst (P := P) | with_reducible apply foldl_stable_snd (P := P) | split | intro _ | dsimp +zetaDelta only []
theorem execBlockLockLoss_stable (l : Fin 96) (invalid : Nat) (s : State) (hm : P s) : Answers P (execBlockLockLoss l invalid s) := by
  unfold execBlockLockLoss; repeat' first | with_reducible assumption | with_reducible apply answers_next (P := P) | extract_lets | with_reducible apply State.bumpBy_stable hP | with_reducible apply State.bump_stable hP | with_reducible apply State.clearLocks_stable hP | with_reducible apply State.lockLost_stable hP | with_reducible apply iff_stable (P := P) | with_reducible apply foldl_stable (P := P) | with_reducible apply foldl_stable_fst (P := P) | with_reducible apply foldl_stable_snd (P := P) | split | intro _ | dsimp +zetaDelta only []
theorem State.alignMissed_stable (s : State) (l : Nat) (hm : P s) : P (State.alignMissed s l) := by
  unfold State.alignMissed; repeat' first | with_reducible assumption | with_reducible apply answers_next (P := P) | extract_lets | with_reducible apply State.laneEvent_stable hP | with_reducible apply hP.modPhy | with_reducible apply State.clearLocks_stable hP | with_reducible apply State.bump_stable hP | with_reducible apply State.logC_stable hP | with_reducible apply State.lockLost_stable hP | with_reducible apply iff_stable (P := P) | with_reducible apply foldl_stable (P := P) | with_reducible apply foldl_stable_fst (P := P) | with_reducible apply foldl_stable_snd (P := P) | split | intro _ | dsimp +zetaDelta only []
theorem State.alignSlot_stable (s : State) (l : Nat) (seq : Nat) (hm : P s) : P (State.alignSlot s l seq) := by
  unfold State.alignSlot; repeat' first | with_reducible assumption | with_reducible apply answers_next (P := P) | extract_lets | with_reducible apply hP.modTen | with_reducible apply iff_stable (P := P) | with_reducible apply foldl_stable (P := P) | with_reducible apply foldl_stable_fst (P := P) | with_reducible apply foldl_stable_snd (P := P) | split | intro _ | dsimp +zetaDelta only []
theorem execAlignMiss_stable (l : Fin 96) (s : State) (hm : P s) : Answers P (execAlignMiss l s) := by
  unfold execAlignMiss; repeat' first | with_reducible assumption | with_reducible apply answers_next (P := P) | extract_lets | with_reducible apply State.alignSlot_stable hP | with_reducible apply State.alignMissed_stable hP | with_reducible apply iff_stable (P := P) | with_reducible apply foldl_stable (P := P) | with_reducible apply foldl_stable_fst (P := P) | with_reducible apply foldl_stable_snd (P := P) | split | intro _ | dsimp +zetaDelta only []
theorem execAlignSend_stable (l : Fin 96) (s : State) (hm : P s) : Answers P (execAlignSend l s) := by
  unfold execAlignSend; repeat' first | with_reducible assumption | with_reducible apply answers_next (P := P) | extract_lets | with_reducible apply hP.emit | with_reducible apply hP.modPhy | with_reducible apply State.putB_stable hP | with_reducible apply State.switchTx_stable hP | with_reducible apply State.trainRound_stable hP | with_reducible apply iff_stable (P := P) | with_reducible apply foldl_stable (P := P) | with_reducible apply foldl_stable_fst (P := P) | with_reducible apply foldl_stable_snd (P := P) | split | intro _ | dsimp +zetaDelta only []
theorem State.wakeDone_stable (s : State) (l : Nat) (hm : P s) : P (State.wakeDone s l) := by
  unfold State.wakeDone; repeat' first | with_reducible assumption | with_reducible apply answers_next (P := P) | extract_lets | with_reducible apply State.setLane_stable hP | with_reducible apply State.putB_stable hP | with_reducible apply hP.modPhy | with_reducible apply iff_stable (P := P) | with_reducible apply foldl_stable (P := P) | with_reducible apply foldl_stable_fst (P := P) | with_reducible apply foldl_stable_snd (P := P) | split | intro _ | dsimp +zetaDelta only []
theorem State.alignLock_stable (s : State) (l : Nat) (spaced : Bool) (hm : P s) : P (State.alignLock s l spaced) := by
  unfold State.alignLock; repeat' first | with_reducible assumption | with_reducible apply answers_next (P := P) | extract_lets | with_reducible apply State.wakeDone_stable hP | with_reducible apply hP.modPhy | with_reducible apply State.putB_stable hP | with_reducible apply iff_stable (P := P) | with_reducible apply foldl_stable (P := P) | with_reducible apply foldl_stable_fst (P := P) | with_reducible apply foldl_stable_snd (P := P) | split | intro _ | dsimp +zetaDelta only []
theorem execAlignReceive_stable (l : Fin 96) (info : Fin 256) (spaced : Bool) (s : State) (hm : P s) : Answers P (execAlignReceive l info spaced s) := by
  unfold execAlignReceive; repeat' first | with_reducible assumption | with_reducible apply answers_next (P := P) | extract_lets | with_reducible apply State.rxBlock_stable hP | with_reducible apply State.alignMissed_stable hP | with_reducible apply hP.modPhy | with_reducible apply State.alignLock_stable hP | with_reducible apply State.alignSlot_stable hP | with_reducible apply State.restart_stable hP | with_reducible apply State.violate_stable hP | with_reducible apply State.switchRx_stable hP | with_reducible apply State.progress_stable hP | with_reducible apply iff_stable (P := P) | with_reducible apply foldl_stable (P := P) | with_reducible apply foldl_stable_fst (P := P) | with_reducible apply foldl_stable_snd (P := P) | split | intro _ | dsimp +zetaDelta only []
theorem execRelockTimeout_stable (l : Fin 96) (s : State) (hm : P s) : Answers P (execRelockTimeout l s) := by
  unfold execRelockTimeout; repeat' first | with_reducible assumption | with_reducible apply answers_next (P := P) | extract_lets | with_reducible apply State.restart_stable hP | with_reducible apply iff_stable (P := P) | with_reducible apply foldl_stable (P := P) | with_reducible apply foldl_stable_fst (P := P) | with_reducible apply foldl_stable_snd (P := P) | split | intro _ | dsimp +zetaDelta only []
theorem execLosSet_stable (l : Fin 96) (s : State) (hm : P s) : Answers P (execLosSet l s) := by
  unfold execLosSet; repeat' first | with_reducible assumption | with_reducible apply answers_next (P := P) | extract_lets | with_reducible apply State.putB_stable hP | with_reducible apply State.bump_stable hP | with_reducible apply State.restart_stable hP | with_reducible apply iff_stable (P := P) | with_reducible apply foldl_stable (P := P) | with_reducible apply foldl_stable_fst (P := P) | with_reducible apply foldl_stable_snd (P := P) | split | intro _ | dsimp +zetaDelta only []
theorem execLosClear_stable (l : Fin 96) (s : State) (hm : P s) : Answers P (execLosClear l s) := by
  unfold execLosClear; repeat' first | with_reducible assumption | with_reducible apply answers_next (P := P) | extract_lets | with_reducible apply State.putB_stable hP | with_reducible apply State.setLane_stable hP | with_reducible apply State.clearLocks_stable hP | with_reducible apply State.session_stable hP | with_reducible apply iff_stable (P := P) | with_reducible apply foldl_stable (P := P) | with_reducible apply foldl_stable_fst (P := P) | with_reducible apply foldl_stable_snd (P := P) | split | intro _ | dsimp +zetaDelta only []
theorem execLolSet_stable (l : Fin 96) (s : State) (hm : P s) : Answers P (execLolSet l s) := by
  unfold execLolSet; repeat' first | with_reducible assumption | with_reducible apply answers_next (P := P) | extract_lets | with_reducible apply State.putB_stable hP | with_reducible apply State.restart_stable hP | with_reducible apply iff_stable (P := P) | with_reducible apply foldl_stable (P := P) | with_reducible apply foldl_stable_fst (P := P) | with_reducible apply foldl_stable_snd (P := P) | split | intro _ | dsimp +zetaDelta only []
theorem execLolClear_stable (l : Fin 96) (s : State) (hm : P s) : Answers P (execLolClear l s) := by
  unfold execLolClear; repeat' first | with_reducible assumption | with_reducible apply answers_next (P := P) | extract_lets | with_reducible apply State.putB_stable hP | with_reducible apply iff_stable (P := P) | with_reducible apply foldl_stable (P := P) | with_reducible apply foldl_stable_fst (P := P) | with_reducible apply foldl_stable_snd (P := P) | split | intro _ | dsimp +zetaDelta only []
theorem State.tapRequest_stable (s : State) (l : Nat) (b2 : Nat) (b3 : Nat) (id : Nat) (hm : P s) : P (State.tapRequest s l b2 b3 id) := by
  unfold State.tapRequest; repeat' first | with_reducible assumption | with_reducible apply answers_next (P := P) | extract_lets | with_reducible apply State.setFir_stable hP | with_reducible apply hP.modPhy | with_reducible apply State.sendAns_stable hP | with_reducible apply iff_stable (P := P) | with_reducible apply foldl_stable (P := P) | with_reducible apply foldl_stable_fst (P := P) | with_reducible apply foldl_stable_snd (P := P) | split | intro _ | dsimp +zetaDelta only []
theorem State.reqAnswered_stable (s : State) (l : Nat) (id : Nat) (hm : P s) : P (State.reqAnswered s l id) := by
  unfold State.reqAnswered; repeat' first | with_reducible assumption | with_reducible apply answers_next (P := P) | extract_lets | with_reducible apply hP.modPhy | with_reducible apply State.ready_stable hP | with_reducible apply State.askTaps_stable hP | with_reducible apply iff_stable (P := P) | with_reducible apply foldl_stable (P := P) | with_reducible apply foldl_stable_fst (P := P) | with_reducible apply foldl_stable_snd (P := P) | split | intro _ | dsimp +zetaDelta only []
theorem State.capSeen_stable (s : State) (l : Nat) (was : Bool) (hm : P s) : P (State.capSeen s l was) := by
  unfold State.capSeen; repeat' first | with_reducible assumption | with_reducible apply answers_next (P := P) | extract_lets | with_reducible apply State.sendStatus_stable hP | with_reducible apply iff_stable (P := P) | with_reducible apply foldl_stable (P := P) | with_reducible apply foldl_stable_fst (P := P) | with_reducible apply foldl_stable_snd (P := P) | split | intro _ | dsimp +zetaDelta only []
theorem State.partnerFir_stable (s : State) (l : Nat) (c : Nat) (hm : P s) : P (State.partnerFir s l c) := by
  unfold State.partnerFir; repeat' first | with_reducible assumption | with_reducible apply answers_next (P := P) | extract_lets | with_reducible apply State.put_stable hP | with_reducible apply iff_stable (P := P) | with_reducible apply foldl_stable (P := P) | with_reducible apply foldl_stable_fst (P := P) | with_reducible apply foldl_stable_snd (P := P) | split | intro _ | dsimp +zetaDelta only []
theorem State.partnerStatus_stable (s : State) (l : Nat) (b2 : Nat) (b3 : Nat) (hm : P s) : P (State.partnerStatus s l b2 b3) := by
  unfold State.partnerStatus; repeat' first | with_reducible assumption | with_reducible apply answers_next (P := P) | extract_lets | with_reducible apply hP.modPhy | with_reducible apply State.setLane_stable hP | with_reducible apply iff_stable (P := P) | with_reducible apply foldl_stable (P := P) | with_reducible apply foldl_stable_fst (P := P) | with_reducible apply foldl_stable_snd (P := P) | split | intro _ | dsimp +zetaDelta only []
theorem State.trainContent_stable (s : State) (l : Nat) (b : Block) (hm : P s) : P (State.trainContent s l b) := by
  unfold State.trainContent; repeat' first | with_reducible assumption | with_reducible apply answers_next (P := P) | extract_lets | with_reducible apply hP.modPhy | with_reducible apply State.partnerStatus_stable hP | with_reducible apply State.partnerFir_stable hP | with_reducible apply State.put_stable hP | with_reducible apply State.tapRequest_stable hP | with_reducible apply State.reqAnswered_stable hP | with_reducible apply State.putB_stable hP | with_reducible apply State.capSeen_stable hP | with_reducible apply iff_stable (P := P) | with_reducible apply foldl_stable (P := P) | with_reducible apply foldl_stable_fst (P := P) | with_reducible apply foldl_stable_snd (P := P) | split | intro _ | dsimp +zetaDelta only []
theorem execStepTimeout_stable (l : Fin 96) (s : State) (hm : P s) : Answers P (execStepTimeout l s) := by
  unfold execStepTimeout; repeat' first | with_reducible assumption | with_reducible apply answers_next (P := P) | extract_lets | with_reducible apply State.waitFail_stable hP | with_reducible apply iff_stable (P := P) | with_reducible apply foldl_stable (P := P) | with_reducible apply foldl_stable_fst (P := P) | with_reducible apply foldl_stable_snd (P := P) | split | intro _ | dsimp +zetaDelta only []
theorem execEqualiseLimit_stable (l : Fin 96) (s : State) (hm : P s) : Answers P (execEqualiseLimit l s) := by
  unfold execEqualiseLimit; repeat' first | with_reducible assumption | with_reducible apply answers_next (P := P) | extract_lets | with_reducible apply State.ready_stable hP | with_reducible apply State.waitFail_stable hP | with_reducible apply State.equaliseLow_stable hP | with_reducible apply iff_stable (P := P) | with_reducible apply foldl_stable (P := P) | with_reducible apply foldl_stable_fst (P := P) | with_reducible apply foldl_stable_snd (P := P) | split | intro _ | dsimp +zetaDelta only []
theorem execEqualiseLowMarginEnd_stable (l : Fin 96) (s : State) (hm : P s) : Answers P (execEqualiseLowMarginEnd l s) := by
  unfold execEqualiseLowMarginEnd; repeat' first | with_reducible assumption | with_reducible apply answers_next (P := P) | extract_lets | with_reducible apply State.ready_stable hP | with_reducible apply State.equaliseLow_stable hP | with_reducible apply iff_stable (P := P) | with_reducible apply foldl_stable (P := P) | with_reducible apply foldl_stable_fst (P := P) | with_reducible apply foldl_stable_snd (P := P) | split | intro _ | dsimp +zetaDelta only []
theorem execEqualiseReady_stable (l : Fin 96) (v : Nat) (h : Nat) (s : State) (hm : P s) : Answers P (execEqualiseReady l v h s) := by
  unfold execEqualiseReady; repeat' first | with_reducible assumption | with_reducible apply answers_next (P := P) | extract_lets | with_reducible apply hP.modPhy | with_reducible apply State.ready_stable hP | with_reducible apply State.sendStatus_stable hP | with_reducible apply State.progress_stable hP | with_reducible apply iff_stable (P := P) | with_reducible apply foldl_stable (P := P) | with_reducible apply foldl_stable_fst (P := P) | with_reducible apply foldl_stable_snd (P := P) | split | intro _ | dsimp +zetaDelta only []
theorem execAbsentWaitExpiry_stable (l : Fin 96) (s : State) (hm : P s) : Answers P (execAbsentWaitExpiry l s) := by
  unfold execAbsentWaitExpiry; repeat' first | with_reducible assumption | with_reducible apply answers_next (P := P) | extract_lets | with_reducible apply State.session_stable hP | with_reducible apply iff_stable (P := P) | with_reducible apply foldl_stable (P := P) | with_reducible apply foldl_stable_fst (P := P) | with_reducible apply foldl_stable_snd (P := P) | split | intro _ | dsimp +zetaDelta only []
theorem State.eyeTake_stable (s : State) (l : Nat) (v : Nat) (h : Nat) (ctle : Nat) (dfe : Word) (hm : P s) : P (State.eyeTake s l v h ctle dfe) := by
  unfold State.eyeTake; repeat' first | with_reducible assumption | with_reducible apply answers_next (P := P) | extract_lets | with_reducible apply State.eqStart_stable hP | with_reducible apply hP.modPhy | with_reducible apply State.put_stable hP | with_reducible apply State.wrN_stable hP | with_reducible apply State.publish_stable hP | with_reducible apply iff_stable (P := P) | with_reducible apply foldl_stable (P := P) | with_reducible apply foldl_stable_fst (P := P) | with_reducible apply foldl_stable_snd (P := P) | split | intro _ | dsimp +zetaDelta only []
theorem execEyeMonitorCheck_stable (l : Fin 96) (v : Nat) (h : Nat) (ctle : Nat) (dfe : Word) (s : State) (hm : P s) : Answers P (execEyeMonitorCheck l v h ctle dfe s) := by
  unfold execEyeMonitorCheck; repeat' first | with_reducible assumption | with_reducible apply answers_next (P := P) | extract_lets | with_reducible apply State.eyeTake_stable hP | with_reducible apply hP.modPhy | with_reducible apply State.laneOut_stable hP | with_reducible apply State.logC_stable hP | with_reducible apply State.session_stable hP | with_reducible apply State.restart_stable hP | with_reducible apply State.bump_stable hP | with_reducible apply State.laneEvent_stable hP | with_reducible apply State.logOnce_stable hP | with_reducible apply iff_stable (P := P) | with_reducible apply foldl_stable (P := P) | with_reducible apply foldl_stable_fst (P := P) | with_reducible apply foldl_stable_snd (P := P) | split | intro _ | dsimp +zetaDelta only []
theorem execMarginBurstEnd_stable (l : Fin 96) (s : State) (hm : P s) : Answers P (execMarginBurstEnd l s) := by
  unfold execMarginBurstEnd; repeat' first | with_reducible assumption | with_reducible apply answers_next (P := P) | extract_lets | with_reducible apply hP.modPhy | with_reducible apply iff_stable (P := P) | with_reducible apply foldl_stable (P := P) | with_reducible apply foldl_stable_fst (P := P) | with_reducible apply foldl_stable_snd (P := P) | split | intro _ | dsimp +zetaDelta only []
theorem execEqualiserFreeze_stable (l : Fin 96) (s : State) (hm : P s) : Answers P (execEqualiserFreeze l s) := by
  unfold execEqualiserFreeze; repeat' first | with_reducible assumption | with_reducible apply answers_next (P := P) | extract_lets | with_reducible apply State.putB_stable hP | with_reducible apply iff_stable (P := P) | with_reducible apply foldl_stable (P := P) | with_reducible apply foldl_stable_fst (P := P) | with_reducible apply foldl_stable_snd (P := P) | split | intro _ | dsimp +zetaDelta only []
theorem execExitTimeout_stable (l : Fin 96) (s : State) (hm : P s) : Answers P (execExitTimeout l s) := by
  unfold execExitTimeout; repeat' first | with_reducible assumption | with_reducible apply answers_next (P := P) | extract_lets | with_reducible apply State.laneEvent_stable hP | with_reducible apply State.bump_stable hP | with_reducible apply State.logC_stable hP | with_reducible apply State.restart_stable hP | with_reducible apply iff_stable (P := P) | with_reducible apply foldl_stable (P := P) | with_reducible apply foldl_stable_fst (P := P) | with_reducible apply foldl_stable_snd (P := P) | split | intro _ | dsimp +zetaDelta only []
theorem State.noteBad_stable (s : State) (c : Nat) (hm : P s) : P (State.noteBad s c) := by
  unfold State.noteBad; repeat' first | with_reducible assumption | with_reducible apply answers_next (P := P) | extract_lets | with_reducible apply hP.modTen | with_reducible apply iff_stable (P := P) | with_reducible apply foldl_stable (P := P) | with_reducible apply foldl_stable_fst (P := P) | with_reducible apply foldl_stable_snd (P := P) | split | intro _ | dsimp +zetaDelta only []
theorem State.badCheck_stable (s : State) (l : Nat) (hm : P s) : P (State.badCheck s l) := by
  unfold State.badCheck; repeat' first | with_reducible assumption | with_reducible apply answers_next (P := P) | extract_lets | with_reducible apply State.bump_stable hP | with_reducible apply hP.modTen | with_reducible apply State.noteBad_stable hP | with_reducible apply iff_stable (P := P) | with_reducible apply foldl_stable (P := P) | with_reducible apply foldl_stable_fst (P := P) | with_reducible apply foldl_stable_snd (P := P) | split | intro _ | dsimp +zetaDelta only []
theorem execTrainBlockReceive_stable (l : Fin 96) (b : Block) (s : State) (hm : P s) : Answers P (execTrainBlockReceive l b s) := by
  unfold execTrainBlockReceive; repeat' first | with_reducible assumption | with_reducible apply answers_next (P := P) | extract_lets | with_reducible apply State.rxBlock_stable hP | with_reducible apply State.badCheck_stable hP | with_reducible apply State.raise_stable hP | with_reducible apply State.logC_stable hP | with_reducible apply State.restart_stable hP | with_reducible apply State.trainContent_stable hP | with_reducible apply State.progress_stable hP | with_reducible apply iff_stable (P := P) | with_reducible apply foldl_stable (P := P) | with_reducible apply foldl_stable_fst (P := P) | with_reducible apply foldl_stable_snd (P := P) | split | intro _ | dsimp +zetaDelta only []
theorem State.injectErr_stable (s : State) (l : Nat) (hm : P s) : P (State.injectErr s l) := by
  unfold State.injectErr; repeat' first | with_reducible assumption | with_reducible apply answers_next (P := P) | extract_lets | with_reducible apply hP.emit | with_reducible apply hP.modPhy | with_reducible apply State.putB_stable hP | with_reducible apply iff_stable (P := P) | with_reducible apply foldl_stable (P := P) | with_reducible apply foldl_stable_fst (P := P) | with_reducible apply foldl_stable_snd (P := P) | split | intro _ | dsimp +zetaDelta only []
theorem State.generate_stable (s : State) (l : Nat) (hm : P s) : P (State.generate s l) := by
  unfold State.generate; repeat' first | with_reducible assumption | with_reducible apply answers_next (P := P) | extract_lets | with_reducible apply hP.modPhy | with_reducible apply hP.emit | with_reducible apply iff_stable (P := P) | with_reducible apply foldl_stable (P := P) | with_reducible apply foldl_stable_fst (P := P) | with_reducible apply foldl_stable_snd (P := P) | split | intro _ | dsimp +zetaDelta only []
theorem execPrbsPublish_stable (l : Fin 96) (bits : Nat) (errs : Nat) (s : State) (hm : P s) : Answers P (execPrbsPublish l bits errs s) := by
  unfold execPrbsPublish; repeat' first | with_reducible assumption | with_reducible apply answers_next (P := P) | extract_lets | with_reducible apply State.generate_stable hP | with_reducible apply hP.modPhy | with_reducible apply State.wr64_stable hP | with_reducible apply State.wrN_stable hP | with_reducible apply State.publish_stable hP | with_reducible apply iff_stable (P := P) | with_reducible apply foldl_stable (P := P) | with_reducible apply foldl_stable_fst (P := P) | with_reducible apply foldl_stable_snd (P := P) | split | intro _ | dsimp +zetaDelta only []
theorem execCheckerLock_stable (l : Fin 96) (s : State) (hm : P s) : Answers P (execCheckerLock l s) := by
  unfold execCheckerLock; repeat' first | with_reducible assumption | with_reducible apply answers_next (P := P) | extract_lets | with_reducible apply State.putB_stable hP | with_reducible apply hP.modPhy | with_reducible apply iff_stable (P := P) | with_reducible apply foldl_stable (P := P) | with_reducible apply foldl_stable_fst (P := P) | with_reducible apply foldl_stable_snd (P := P) | split | intro _ | dsimp +zetaDelta only []
theorem execCheckerReseed_stable (l : Fin 96) (s : State) (hm : P s) : Answers P (execCheckerReseed l s) := by
  unfold execCheckerReseed; repeat' first | with_reducible assumption | with_reducible apply answers_next (P := P) | extract_lets | with_reducible apply State.bump_stable hP | with_reducible apply State.putB_stable hP | with_reducible apply iff_stable (P := P) | with_reducible apply foldl_stable (P := P) | with_reducible apply foldl_stable_fst (P := P) | with_reducible apply foldl_stable_snd (P := P) | split | intro _ | dsimp +zetaDelta only []
theorem State.retire_stable (s : State) (c : Nat) (t : Trigger) (hm : P s) : P (State.retire s c t) := by
  unfold State.retire; repeat' first | with_reducible assumption | with_reducible apply answers_next (P := P) | extract_lets | with_reducible apply State.bump_stable hP | with_reducible apply State.raise_stable hP | with_reducible apply State.logC_stable hP | with_reducible apply State.reportUnserved_stable hP | with_reducible apply iff_stable (P := P) | with_reducible apply foldl_stable (P := P) | with_reducible apply foldl_stable_fst (P := P) | with_reducible apply foldl_stable_snd (P := P) | split | intro _ | dsimp +zetaDelta only []
theorem State.agedClose_stable (s : State) (c : Nat) (hm : P s) : P (State.agedClose s c) := by
  unfold State.agedClose; repeat' first | with_reducible assumption | with_reducible apply answers_next (P := P) | extract_lets | with_reducible apply State.closeLine_stable hP | with_reducible apply iff_stable (P := P) | with_reducible apply foldl_stable (P := P) | with_reducible apply foldl_stable_fst (P := P) | with_reducible apply foldl_stable_snd (P := P) | split | intro _ | dsimp +zetaDelta only []
theorem State.tryAccept_stable (s : State) (c : Nat) (hm : P s) : P (State.tryAccept s c) := by
  unfold State.tryAccept; repeat' first | with_reducible assumption | with_reducible apply answers_next (P := P) | extract_lets | with_reducible apply State.newTile_stable hP | with_reducible apply State.bump_stable hP | with_reducible apply hP.modTen | with_reducible apply iff_stable (P := P) | with_reducible apply foldl_stable (P := P) | with_reducible apply foldl_stable_fst (P := P) | with_reducible apply foldl_stable_snd (P := P) | split | intro _ | dsimp +zetaDelta only []
theorem State.rejectTile_stable (s : State) (c : Nat) (hm : P s) : P (State.rejectTile s c) := by
  unfold State.rejectTile; repeat' first | with_reducible assumption | with_reducible apply answers_next (P := P) | extract_lets | with_reducible apply State.dropHdr_stable hP | with_reducible apply hP.modTen | with_reducible apply State.putBond_stable hP | with_reducible apply State.agedClose_stable hP | with_reducible apply iff_stable (P := P) | with_reducible apply foldl_stable (P := P) | with_reducible apply foldl_stable_fst (P := P) | with_reducible apply foldl_stable_snd (P := P) | split | intro _ | dsimp +zetaDelta only []
theorem State.checkHeader_stable (s : State) (c : Nat) (hm : P s) : P (State.checkHeader s c) := by
  unfold State.checkHeader; repeat' first | with_reducible assumption | with_reducible apply answers_next (P := P) | extract_lets | with_reducible apply State.bump_stable hP | with_reducible apply State.logC_stable hP | with_reducible apply State.rejectTile_stable hP | with_reducible apply State.violate_stable hP | with_reducible apply State.bumpBy_stable hP | with_reducible apply State.closeLine_stable hP | with_reducible apply State.retire_stable hP | with_reducible apply hP.modTen | with_reducible apply State.queuePut_stable hP | with_reducible apply State.tryAccept_stable hP | with_reducible apply iff_stable (P := P) | with_reducible apply foldl_stable (P := P) | with_reducible apply foldl_stable_fst (P := P) | with_reducible apply foldl_stable_snd (P := P) | split | intro _ | dsimp +zetaDelta only []
theorem State.rxSot_stable (s : State) (c : Nat) (hm : P s) : P (State.rxSot s c) := by
  unfold State.rxSot; repeat' first | with_reducible assumption | with_reducible apply answers_next (P := P) | extract_lets | with_reducible apply State.endTile_stable hP | with_reducible apply State.dropHdr_stable hP | with_reducible apply hP.modTen | with_reducible apply State.agedClose_stable hP | with_reducible apply State.putBond_stable hP | with_reducible apply State.tileViol_stable hP | with_reducible apply iff_stable (P := P) | with_reducible apply foldl_stable (P := P) | with_reducible apply foldl_stable_fst (P := P) | with_reducible apply foldl_stable_snd (P := P) | split | intro _ | dsimp +zetaDelta only []
theorem State.rxData_stable (s : State) (c : Nat) (b : Block) (excess : Bool) (held : Bool) (hm : P s) : P (State.rxData s c b excess held) := by
  unfold State.rxData; repeat' first | with_reducible assumption | with_reducible apply answers_next (P := P) | extract_lets | with_reducible apply State.queueDrop_stable hP | with_reducible apply State.dropBlocks_stable hP | with_reducible apply State.endTile_stable hP | with_reducible apply hP.modTen | with_reducible apply State.tileViol_stable hP | with_reducible apply State.modTile_stable hP | with_reducible apply State.queuePut_stable hP | with_reducible apply State.queueTake_stable hP | with_reducible apply State.dropHdr_stable hP | with_reducible apply State.putBond_stable hP | with_reducible apply State.agedClose_stable hP | with_reducible apply State.bump_stable hP | with_reducible apply State.violate_stable hP | with_reducible apply iff_stable (P := P) | with_reducible apply foldl_stable (P := P) | with_reducible apply foldl_stable_fst (P := P) | with_reducible apply foldl_stable_snd (P := P) | split | intro _ | dsimp +zetaDelta only []
theorem State.rxEot_stable (s : State) (c : Nat) (abort : Bool) (crc : Nat) (hm : P s) : P (State.rxEot s c abort crc) := by
  unfold State.rxEot; repeat' first | with_reducible assumption | with_reducible apply answers_next (P := P) | extract_lets | with_reducible apply hP.modTen | with_reducible apply State.endTile_stable hP | with_reducible apply State.logC_stable hP | with_reducible apply State.tileViol_stable hP | with_reducible apply State.bump_stable hP | with_reducible apply State.dropHdr_stable hP | with_reducible apply State.putBond_stable hP | with_reducible apply State.agedClose_stable hP | with_reducible apply State.violate_stable hP | with_reducible apply iff_stable (P := P) | with_reducible apply foldl_stable (P := P) | with_reducible apply foldl_stable_fst (P := P) | with_reducible apply foldl_stable_snd (P := P) | split | intro _ | dsimp +zetaDelta only []
theorem State.rxItem_stable (s : State) (c : Nat) (i : RxItem) (hm : P s) : P (State.rxItem s c i) := by
  unfold State.rxItem; repeat' first | with_reducible assumption | with_reducible apply answers_next (P := P) | extract_lets | with_reducible apply State.checkHeader_stable hP | with_reducible apply State.queuePut_stable hP | with_reducible apply hP.modTen | with_reducible apply State.rxSot_stable hP | with_reducible apply State.rxData_stable hP | with_reducible apply State.rxEot_stable hP | with_reducible apply State.noteBad_stable hP | with_reducible apply iff_stable (P := P) | with_reducible apply foldl_stable (P := P) | with_reducible apply foldl_stable_fst (P := P) | with_reducible apply foldl_stable_snd (P := P) | split | intro _ | dsimp +zetaDelta only []
theorem State.rxPayload_stable (s : State) (c : Nat) (b : Block) (hm : P s) : P (State.rxPayload s c b) := by
  unfold State.rxPayload; repeat' first | with_reducible assumption | with_reducible apply answers_next (P := P) | extract_lets | with_reducible apply hP.modTen | with_reducible apply State.rxItem_stable hP | with_reducible apply iff_stable (P := P) | with_reducible apply foldl_stable (P := P) | with_reducible apply foldl_stable_fst (P := P) | with_reducible apply foldl_stable_snd (P := P) | split | intro _ | dsimp +zetaDelta only []
theorem State.goodCtl_stable (s : State) (c : Nat) (hm : P s) : P (State.goodCtl s c) := by
  unfold State.goodCtl; repeat' first | with_reducible assumption | with_reducible apply answers_next (P := P) | extract_lets | with_reducible apply State.checkHeader_stable hP | with_reducible apply hP.modTen | with_reducible apply iff_stable (P := P) | with_reducible apply foldl_stable (P := P) | with_reducible apply foldl_stable_fst (P := P) | with_reducible apply foldl_stable_snd (P := P) | split | intro _ | dsimp +zetaDelta only []
theorem execLedgerEntryGrant_stable (l : Fin 96) (s : State) (hm : P s) : Answers P (execLedgerEntryGrant l s) := by
  unfold execLedgerEntryGrant; repeat' first | with_reducible assumption | with_reducible apply answers_next (P := P) | extract_lets | with_reducible apply hP.modTen | with_reducible apply State.addFills_stable hP | with_reducible apply State.ethEntries_stable hP | with_reducible apply State.ethRaws_stable hP | with_reducible apply State.tryAccept_stable hP | with_reducible apply State.rxItem_stable hP | with_reducible apply iff_stable (P := P) | with_reducible apply foldl_stable (P := P) | with_reducible apply foldl_stable_fst (P := P) | with_reducible apply foldl_stable_snd (P := P) | split | intro _ | dsimp +zetaDelta only []
theorem execCreditRefresh_stable (l : Fin 96) (s : State) (hm : P s) : Answers P (execCreditRefresh l s) := by
  unfold execCreditRefresh; repeat' first | with_reducible assumption | with_reducible apply answers_next (P := P) | extract_lets | with_reducible apply State.sendCredit_stable hP | with_reducible apply iff_stable (P := P) | with_reducible apply foldl_stable (P := P) | with_reducible apply foldl_stable_fst (P := P) | with_reducible apply foldl_stable_snd (P := P) | split | intro _ | dsimp +zetaDelta only []
theorem State.publishLat_stable (s : State) (c : Nat) (rs : List Int) (hm : P s) : P (State.publishLat s c rs) := by
  unfold State.publishLat; repeat' first | with_reducible assumption | with_reducible apply answers_next (P := P) | extract_lets | with_reducible apply State.wrN_stable hP | with_reducible apply State.publish_stable hP | with_reducible apply iff_stable (P := P) | with_reducible apply foldl_stable (P := P) | with_reducible apply foldl_stable_fst (P := P) | with_reducible apply foldl_stable_snd (P := P) | split | intro _ | dsimp +zetaDelta only []
theorem State.latResult_stable (s : State) (c : Nat) (r : Int) (hm : P s) : P (State.latResult s c r) := by
  unfold State.latResult; repeat' first | with_reducible assumption | with_reducible apply answers_next (P := P) | extract_lets | with_reducible apply hP.modTen | with_reducible apply State.sendProbe_stable hP | with_reducible apply State.raise_stable hP | with_reducible apply State.logC_stable hP | with_reducible apply State.publishLat_stable hP | with_reducible apply State.laneActive_stable hP | with_reducible apply iff_stable (P := P) | with_reducible apply foldl_stable (P := P) | with_reducible apply foldl_stable_fst (P := P) | with_reducible apply foldl_stable_snd (P := P) | split | intro _ | dsimp +zetaDelta only []
theorem State.probeAnswer_stable (s : State) (c : Nat) (b : Block) (tin : Int) (hm : P s) : P (State.probeAnswer s c b tin) := by
  unfold State.probeAnswer; repeat' first | with_reducible assumption | with_reducible apply answers_next (P := P) | extract_lets | with_reducible apply State.latResult_stable hP | with_reducible apply iff_stable (P := P) | with_reducible apply foldl_stable (P := P) | with_reducible apply foldl_stable_fst (P := P) | with_reducible apply foldl_stable_snd (P := P) | split | intro _ | dsimp +zetaDelta only []
theorem execProbeTimeout_stable (l : Fin 96) (s : State) (hm : P s) : Answers P (execProbeTimeout l s) := by
  unfold execProbeTimeout; repeat' first | with_reducible assumption | with_reducible apply answers_next (P := P) | extract_lets | with_reducible apply State.sendProbe_stable hP | with_reducible apply iff_stable (P := P) | with_reducible apply foldl_stable (P := P) | with_reducible apply foldl_stable_fst (P := P) | with_reducible apply foldl_stable_snd (P := P) | split | intro _ | dsimp +zetaDelta only []
theorem execLatencyMeasureTimeout_stable (l : Fin 96) (s : State) (hm : P s) : Answers P (execLatencyMeasureTimeout l s) := by
  unfold execLatencyMeasureTimeout; repeat' first | with_reducible assumption | with_reducible apply answers_next (P := P) | extract_lets | with_reducible apply hP.modTen | with_reducible apply State.waitFail_stable hP | with_reducible apply iff_stable (P := P) | with_reducible apply foldl_stable (P := P) | with_reducible apply foldl_stable_fst (P := P) | with_reducible apply foldl_stable_snd (P := P) | split | intro _ | dsimp +zetaDelta only []
theorem execLatTrackProbe_stable (l : Fin 96) (s : State) (hm : P s) : Answers P (execLatTrackProbe l s) := by
  unfold execLatTrackProbe; repeat' first | with_reducible assumption | with_reducible apply answers_next (P := P) | extract_lets | with_reducible apply State.sendProbe_stable hP | with_reducible apply iff_stable (P := P) | with_reducible apply foldl_stable (P := P) | with_reducible apply foldl_stable_fst (P := P) | with_reducible apply foldl_stable_snd (P := P) | split | intro _ | dsimp +zetaDelta only []
theorem State.bondFail_stable (s : State) (c : Nat) (hm : P s) : P (State.bondFail s c) := by
  unfold State.bondFail; repeat' first | with_reducible assumption | with_reducible apply answers_next (P := P) | extract_lets | with_reducible apply State.depart_stable hP | with_reducible apply State.session_stable hP | with_reducible apply State.logC_stable hP | with_reducible apply iff_stable (P := P) | with_reducible apply foldl_stable (P := P) | with_reducible apply foldl_stable_fst (P := P) | with_reducible apply foldl_stable_snd (P := P) | split | intro _ | dsimp +zetaDelta only []
theorem execBondForm_stable (l : Fin 96) (skew : Nat) (s : State) (hm : P s) : Answers P (execBondForm l skew s) := by
  unfold execBondForm; repeat' first | with_reducible assumption | with_reducible apply answers_next (P := P) | extract_lets | with_reducible apply State.bondFail_stable hP | with_reducible apply State.putBond_stable hP | with_reducible apply State.tenonUp_stable hP | with_reducible apply State.raise_stable hP | with_reducible apply iff_stable (P := P) | with_reducible apply foldl_stable (P := P) | with_reducible apply foldl_stable_fst (P := P) | with_reducible apply foldl_stable_snd (P := P) | split | intro _ | dsimp +zetaDelta only []
theorem execBondDeskewTimeout_stable (l : Fin 96) (s : State) (hm : P s) : Answers P (execBondDeskewTimeout l s) := by
  unfold execBondDeskewTimeout; repeat' first | with_reducible assumption | with_reducible apply answers_next (P := P) | extract_lets | with_reducible apply State.bondFail_stable hP | with_reducible apply iff_stable (P := P) | with_reducible apply foldl_stable (P := P) | with_reducible apply foldl_stable_fst (P := P) | with_reducible apply foldl_stable_snd (P := P) | split | intro _ | dsimp +zetaDelta only []
theorem execTrigAgeExpiry_stable (l : Fin 96) (id : Nat) (s : State) (hm : P s) : Answers P (execTrigAgeExpiry l id s) := by
  unfold execTrigAgeExpiry; repeat' first | with_reducible assumption | with_reducible apply answers_next (P := P) | extract_lets | with_reducible apply State.ethClose_stable hP | with_reducible apply State.ethUnserved_stable hP | with_reducible apply State.retire_stable hP | with_reducible apply hP.modTen | with_reducible apply State.closeLine_stable hP | with_reducible apply iff_stable (P := P) | with_reducible apply foldl_stable (P := P) | with_reducible apply foldl_stable_fst (P := P) | with_reducible apply foldl_stable_snd (P := P) | split | intro _ | dsimp +zetaDelta only []
theorem execTrigLaunch_stable (l : Fin 96) (ago : Nat) (s : State) (hm : P s) : Answers P (execTrigLaunch l ago s) := by
  unfold execTrigLaunch; repeat' first | with_reducible assumption | with_reducible apply answers_next (P := P) | extract_lets | with_reducible apply State.reportNotSent_stable hP | with_reducible apply State.sendCtl_stable hP | with_reducible apply State.bump_stable hP | with_reducible apply State.reportLate_stable hP | with_reducible apply State.retire_stable hP | with_reducible apply hP.modTrigs | with_reducible apply State.showCommitted_stable hP | with_reducible apply iff_stable (P := P) | with_reducible apply foldl_stable (P := P) | with_reducible apply foldl_stable_fst (P := P) | with_reducible apply foldl_stable_snd (P := P) | split | intro _ | dsimp +zetaDelta only []
theorem State.ctrlGo_stable (s : State) (l : Nat) (hm : P s) : P (State.ctrlGo s l) := by
  unfold State.ctrlGo; repeat' first | with_reducible assumption | with_reducible apply answers_next (P := P) | extract_lets | with_reducible apply State.bump_stable hP | with_reducible apply hP.modTen | with_reducible apply State.putB_stable hP | with_reducible apply State.putBond_stable hP | with_reducible apply State.ctrlDone_stable hP | with_reducible apply hP.emit | with_reducible apply iff_stable (P := P) | with_reducible apply foldl_stable (P := P) | with_reducible apply foldl_stable_fst (P := P) | with_reducible apply foldl_stable_snd (P := P) | split | intro _ | dsimp +zetaDelta only []
theorem execCtrlGo_stable (l : Fin 96) (s : State) (hm : P s) : Answers P (execCtrlGo l s) := by
  unfold execCtrlGo; repeat' first | with_reducible assumption | with_reducible apply answers_next (P := P) | extract_lets | with_reducible apply State.ctrlGo_stable hP | with_reducible apply iff_stable (P := P) | with_reducible apply foldl_stable (P := P) | with_reducible apply foldl_stable_fst (P := P) | with_reducible apply foldl_stable_snd (P := P) | split | intro _ | dsimp +zetaDelta only []
theorem State.ctrlAnswer_stable (s : State) (c : Nat) (b : Block) (value : Option Block) (hm : P s) : P (State.ctrlAnswer s c b value) := by
  unfold State.ctrlAnswer; repeat' first | with_reducible assumption | with_reducible apply answers_next (P := P) | extract_lets | with_reducible apply State.violate_stable hP | with_reducible apply State.ctrlDone_stable hP | with_reducible apply iff_stable (P := P) | with_reducible apply foldl_stable (P := P) | with_reducible apply foldl_stable_fst (P := P) | with_reducible apply foldl_stable_snd (P := P) | split | intro _ | dsimp +zetaDelta only []
theorem execCtrlTimeout_stable (l : Fin 96) (s : State) (hm : P s) : Answers P (execCtrlTimeout l s) := by
  unfold execCtrlTimeout; repeat' first | with_reducible assumption | with_reducible apply answers_next (P := P) | extract_lets | with_reducible apply State.logC_stable hP | with_reducible apply State.ctrlDone_stable hP | with_reducible apply iff_stable (P := P) | with_reducible apply foldl_stable (P := P) | with_reducible apply foldl_stable_fst (P := P) | with_reducible apply foldl_stable_snd (P := P) | split | intro _ | dsimp +zetaDelta only []
theorem execViolDeferredSend_stable (l : Fin 96) (reason : Nat) (s : State) (hm : P s) : Answers P (execViolDeferredSend l reason s) := by
  unfold execViolDeferredSend; repeat' first | with_reducible assumption | with_reducible apply answers_next (P := P) | extract_lets | with_reducible apply hP.modTen | with_reducible apply State.sendViol_stable hP | with_reducible apply iff_stable (P := P) | with_reducible apply foldl_stable (P := P) | with_reducible apply foldl_stable_fst (P := P) | with_reducible apply foldl_stable_snd (P := P) | split | intro _ | dsimp +zetaDelta only []
theorem execViolWindowEnd_stable (l : Fin 96) (s : State) (hm : P s) : Answers P (execViolWindowEnd l s) := by
  unfold execViolWindowEnd; repeat' first | with_reducible assumption | with_reducible apply answers_next (P := P) | extract_lets | with_reducible apply hP.modTen | with_reducible apply iff_stable (P := P) | with_reducible apply foldl_stable (P := P) | with_reducible apply foldl_stable_fst (P := P) | with_reducible apply foldl_stable_snd (P := P) | split | intro _ | dsimp +zetaDelta only []
theorem State.rxEidle_stable (s : State) (c : Nat) (hm : P s) : P (State.rxEidle s c) := by
  unfold State.rxEidle; repeat' first | with_reducible assumption | with_reducible apply answers_next (P := P) | extract_lets | with_reducible apply State.violate_stable hP | with_reducible apply State.setLane_stable hP | with_reducible apply State.putB_stable hP | with_reducible apply hP.modPhy | with_reducible apply State.bump_stable hP | with_reducible apply iff_stable (P := P) | with_reducible apply foldl_stable (P := P) | with_reducible apply foldl_stable_fst (P := P) | with_reducible apply foldl_stable_snd (P := P) | split | intro _ | dsimp +zetaDelta only []
theorem State.rxLogic_stable (s : State) (c : Nat) (r : RxRaw) (hm : P s) : P (State.rxLogic s c r) := by
  unfold State.rxLogic; repeat' first | with_reducible assumption | with_reducible apply answers_next (P := P) | extract_lets | with_reducible apply State.rxItem_stable hP | with_reducible apply State.rxPayload_stable hP | with_reducible apply State.badCheck_stable hP | with_reducible apply State.goodCtl_stable hP | with_reducible apply State.violate_stable hP | with_reducible apply State.ctrlAnswer_stable hP | with_reducible apply State.bump_stable hP | with_reducible apply State.raise_stable hP | with_reducible apply State.logOnce_stable hP | with_reducible apply State.probeAnswer_stable hP | with_reducible apply State.rxEidle_stable hP | with_reducible apply iff_stable (P := P) | with_reducible apply foldl_stable (P := P) | with_reducible apply foldl_stable_fst (P := P) | with_reducible apply foldl_stable_snd (P := P) | split | intro _ | dsimp +zetaDelta only []
theorem State.alignPass_stable (s : State) (c : Nat) (r : RxRaw) (hm : P s) : P (State.alignPass s c r) := by
  unfold State.alignPass; repeat' first | with_reducible assumption | with_reducible apply answers_next (P := P) | extract_lets | with_reducible apply hP.modTen | with_reducible apply iff_stable (P := P) | with_reducible apply foldl_stable (P := P) | with_reducible apply foldl_stable_fst (P := P) | with_reducible apply foldl_stable_snd (P := P) | split | intro _ | dsimp +zetaDelta only []
theorem State.rxDrain_stable (s : State) (c n : Nat) (hm : P s) : P (State.rxDrain s c n) := by
  induction n generalizing s with
  | zero => unfold State.rxDrain; (repeat' first | with_reducible assumption | with_reducible apply answers_next (P := P) | extract_lets | with_reducible apply State.alignPass_stable hP | with_reducible apply hP.modTen | with_reducible apply State.rxLogic_stable hP | with_reducible apply iff_stable (P := P) | with_reducible apply foldl_stable (P := P) | with_reducible apply foldl_stable_fst (P := P) | with_reducible apply foldl_stable_snd (P := P) | split | intro _ | dsimp +zetaDelta only [])
  | succ _ ih => unfold State.rxDrain; repeat' first | with_reducible apply ih | with_reducible assumption | with_reducible apply answers_next (P := P) | extract_lets | with_reducible apply State.alignPass_stable hP | with_reducible apply hP.modTen | with_reducible apply State.rxLogic_stable hP | with_reducible apply iff_stable (P := P) | with_reducible apply foldl_stable (P := P) | with_reducible apply foldl_stable_fst (P := P) | with_reducible apply foldl_stable_snd (P := P) | split | intro _ | dsimp +zetaDelta only []
theorem State.rxJoin_stable (s : State) (l : Nat) (r : RxRaw) (hm : P s) : P (State.rxJoin s l r) := by
  unfold State.rxJoin; repeat' first | with_reducible assumption | with_reducible apply answers_next (P := P) | extract_lets | with_reducible apply hP.modTen | with_reducible apply State.rxDrain_stable hP | with_reducible apply iff_stable (P := P) | with_reducible apply foldl_stable (P := P) | with_reducible apply foldl_stable_fst (P := P) | with_reducible apply foldl_stable_snd (P := P) | split | intro _ | dsimp +zetaDelta only []
theorem State.rxArrive_stable (s : State) (l : Nat) (r : RxRaw) (hm : P s) : P (State.rxArrive s l r) := by
  unfold State.rxArrive; repeat' first | with_reducible assumption | with_reducible apply answers_next (P := P) | extract_lets | with_reducible apply State.rxJoin_stable hP | with_reducible apply State.rxBlock_stable hP | with_reducible apply State.rxLogic_stable hP | with_reducible apply iff_stable (P := P) | with_reducible apply foldl_stable (P := P) | with_reducible apply foldl_stable_fst (P := P) | with_reducible apply foldl_stable_snd (P := P) | split | intro _ | dsimp +zetaDelta only []
theorem State.rxCtl_stable (s : State) (l : Nat) (b : Block) (type : Nat) (r : RxRaw) (hm : P s) : P (State.rxCtl s l b type r) := by
  unfold State.rxCtl; repeat' first | with_reducible assumption | with_reducible apply answers_next (P := P) | extract_lets | with_reducible apply State.rxArrive_stable hP | with_reducible apply iff_stable (P := P) | with_reducible apply foldl_stable (P := P) | with_reducible apply foldl_stable_fst (P := P) | with_reducible apply foldl_stable_snd (P := P) | split | intro _ | dsimp +zetaDelta only []
theorem execSotReceive_stable (l : Fin 96) (b : Block) (s : State) (hm : P s) : Answers P (execSotReceive l b s) := by
  unfold execSotReceive; repeat' first | with_reducible assumption | with_reducible apply answers_next (P := P) | extract_lets | with_reducible apply State.rxCtl_stable hP | with_reducible apply iff_stable (P := P) | with_reducible apply foldl_stable (P := P) | with_reducible apply foldl_stable_fst (P := P) | with_reducible apply foldl_stable_snd (P := P) | split | intro _ | dsimp +zetaDelta only []
theorem execTileHeaderReceive_stable (l : Fin 96) (s : State) (hm : P s) : Answers P (execTileHeaderReceive l s) := by
  unfold execTileHeaderReceive; repeat' first | with_reducible assumption | with_reducible apply answers_next (P := P) | extract_lets | with_reducible apply State.checkHeader_stable hP | with_reducible apply iff_stable (P := P) | with_reducible apply foldl_stable (P := P) | with_reducible apply foldl_stable_fst (P := P) | with_reducible apply foldl_stable_snd (P := P) | split | intro _ | dsimp +zetaDelta only []
theorem execPayloadBlockReceive_stable (l : Fin 96) (b : Block) (s : State) (hm : P s) : Answers P (execPayloadBlockReceive l b s) := by
  unfold execPayloadBlockReceive; repeat' first | with_reducible assumption | with_reducible apply answers_next (P := P) | extract_lets | with_reducible apply State.rxArrive_stable hP | with_reducible apply iff_stable (P := P) | with_reducible apply foldl_stable (P := P) | with_reducible apply foldl_stable_fst (P := P) | with_reducible apply foldl_stable_snd (P := P) | split | intro _ | dsimp +zetaDelta only []
theorem execEotReceive_stable (l : Fin 96) (b : Block) (s : State) (hm : P s) : Answers P (execEotReceive l b s) := by
  unfold execEotReceive; repeat' first | with_reducible assumption | with_reducible apply answers_next (P := P) | extract_lets | with_reducible apply State.rxCtl_stable hP | with_reducible apply iff_stable (P := P) | with_reducible apply foldl_stable (P := P) | with_reducible apply foldl_stable_fst (P := P) | with_reducible apply foldl_stable_snd (P := P) | split | intro _ | dsimp +zetaDelta only []
theorem execControlBlockBadCheck_stable (l : Fin 96) (b : Block) (s : State) (hm : P s) : Answers P (execControlBlockBadCheck l b s) := by
  unfold execControlBlockBadCheck; repeat' first | with_reducible assumption | with_reducible apply answers_next (P := P) | extract_lets | with_reducible apply State.rxArrive_stable hP | with_reducible apply State.rxBlock_stable hP | with_reducible apply State.badCheck_stable hP | with_reducible apply iff_stable (P := P) | with_reducible apply foldl_stable (P := P) | with_reducible apply foldl_stable_fst (P := P) | with_reducible apply foldl_stable_snd (P := P) | split | intro _ | dsimp +zetaDelta only []
theorem execUnknownTypeReceive_stable (l : Fin 96) (b : Block) (s : State) (hm : P s) : Answers P (execUnknownTypeReceive l b s) := by
  unfold execUnknownTypeReceive; repeat' first | with_reducible assumption | with_reducible apply answers_next (P := P) | extract_lets | with_reducible apply State.rxCtl_stable hP | with_reducible apply iff_stable (P := P) | with_reducible apply foldl_stable (P := P) | with_reducible apply foldl_stable_fst (P := P) | with_reducible apply foldl_stable_snd (P := P) | split | intro _ | dsimp +zetaDelta only []
theorem execViolReceive_stable (l : Fin 96) (b : Block) (s : State) (hm : P s) : Answers P (execViolReceive l b s) := by
  unfold execViolReceive; repeat' first | with_reducible assumption | with_reducible apply answers_next (P := P) | extract_lets | with_reducible apply State.rxCtl_stable hP | with_reducible apply iff_stable (P := P) | with_reducible apply foldl_stable (P := P) | with_reducible apply foldl_stable_fst (P := P) | with_reducible apply foldl_stable_snd (P := P) | split | intro _ | dsimp +zetaDelta only []
theorem execCtrlRspReceive_stable (l : Fin 96) (b : Block) (value : Option Block) (s : State) (hm : P s) : Answers P (execCtrlRspReceive l b value s) := by
  unfold execCtrlRspReceive; repeat' first | with_reducible assumption | with_reducible apply answers_next (P := P) | extract_lets | with_reducible apply State.rxCtl_stable hP | with_reducible apply iff_stable (P := P) | with_reducible apply foldl_stable (P := P) | with_reducible apply foldl_stable_fst (P := P) | with_reducible apply foldl_stable_snd (P := P) | split | intro _ | dsimp +zetaDelta only []
theorem execLechoReceive_stable (l : Fin 96) (b : Block) (ago : Nat) (s : State) (hm : P s) : Answers P (execLechoReceive l b ago s) := by
  unfold execLechoReceive; repeat' first | with_reducible assumption | with_reducible apply answers_next (P := P) | extract_lets | with_reducible apply State.probeAnswer_stable hP | with_reducible apply State.badCheck_stable hP | with_reducible apply State.rxCtl_stable hP | with_reducible apply iff_stable (P := P) | with_reducible apply foldl_stable (P := P) | with_reducible apply foldl_stable_fst (P := P) | with_reducible apply foldl_stable_snd (P := P) | split | intro _ | dsimp +zetaDelta only []
theorem execEidleReceive_stable (l : Fin 96) (b : Block) (s : State) (hm : P s) : Answers P (execEidleReceive l b s) := by
  unfold execEidleReceive; repeat' first | with_reducible assumption | with_reducible apply answers_next (P := P) | extract_lets | with_reducible apply State.rxCtl_stable hP | with_reducible apply iff_stable (P := P) | with_reducible apply foldl_stable (P := P) | with_reducible apply foldl_stable_fst (P := P) | with_reducible apply foldl_stable_snd (P := P) | split | intro _ | dsimp +zetaDelta only []
theorem execIdleBlockReceive_stable (l : Fin 96) (n : Nat) (s : State) (hm : P s) : Answers P (execIdleBlockReceive l n s) := by
  unfold execIdleBlockReceive; repeat' first | with_reducible assumption | with_reducible apply answers_next (P := P) | extract_lets | with_reducible apply State.rxArrive_stable hP | with_reducible apply hP.modPhy | with_reducible apply iff_stable (P := P) | with_reducible apply foldl_stable (P := P) | with_reducible apply foldl_stable_fst (P := P) | with_reducible apply foldl_stable_snd (P := P) | split | intro _ | dsimp +zetaDelta only []
theorem State.ethSend_stable (s : State) (l : Nat) (m : EthMsg) (hm : P s) : P (State.ethSend s l m) := by
  unfold State.ethSend; repeat' first | with_reducible assumption | with_reducible apply answers_next (P := P) | extract_lets | with_reducible apply hP.modEth | with_reducible apply iff_stable (P := P) | with_reducible apply foldl_stable (P := P) | with_reducible apply foldl_stable_fst (P := P) | with_reducible apply foldl_stable_snd (P := P) | split | intro _ | dsimp +zetaDelta only []
theorem State.egress_stable (s : State) (l : Nat) (hm : P s) : P (State.egress s l).2 := by
  unfold State.egress; repeat' first | with_reducible assumption | with_reducible apply answers_next (P := P) | extract_lets | with_reducible apply State.txStamp_stable hP | with_reducible apply iff_stable (P := P) | with_reducible apply foldl_stable (P := P) | with_reducible apply foldl_stable_fst (P := P) | with_reducible apply foldl_stable_snd (P := P) | split | intro _ | dsimp +zetaDelta only []
theorem State.ethSlot_stable (s : State) (l : Nat) (hm : P s) : P (State.ethSlot s l) := by
  unfold State.ethSlot; repeat' first | with_reducible assumption | with_reducible apply answers_next (P := P) | extract_lets | with_reducible apply hP.modEth | with_reducible apply hP.emit | with_reducible apply State.egress_stable hP | with_reducible apply State.ethSend_stable hP | with_reducible apply iff_stable (P := P) | with_reducible apply foldl_stable (P := P) | with_reducible apply foldl_stable_fst (P := P) | with_reducible apply foldl_stable_snd (P := P) | split | intro _ | dsimp +zetaDelta only []
theorem State.ethSlots_stable (s : State) (hm : P s) : P (State.ethSlots s) := by
  unfold State.ethSlots; repeat' first | with_reducible assumption | with_reducible apply answers_next (P := P) | extract_lets | with_reducible apply State.ethSlot_stable hP | with_reducible apply iff_stable (P := P) | with_reducible apply foldl_stable (P := P) | with_reducible apply foldl_stable_fst (P := P) | with_reducible apply foldl_stable_snd (P := P) | split | intro _ | dsimp +zetaDelta only []
theorem execEthFrameReceive_stable (l : Fin 96) (f : List Byte) (fcs : Bool) (corr : Nat) (uncorr : Nat) (s : State) (hm : P s) : Answers P (execEthFrameReceive l f fcs corr uncorr s) := by
  unfold execEthFrameReceive; repeat' first | with_reducible assumption | with_reducible apply answers_next (P := P) | extract_lets | with_reducible apply State.bumpBy_stable hP | with_reducible apply State.ethLog_stable hP | with_reducible apply State.putB_stable hP | with_reducible apply State.bump_stable hP | with_reducible apply State.raise_stable hP | with_reducible apply iff_stable (P := P) | with_reducible apply foldl_stable (P := P) | with_reducible apply foldl_stable_fst (P := P) | with_reducible apply foldl_stable_snd (P := P) | split | intro _ | dsimp +zetaDelta only []
theorem execGvspLeaderReceive_stable (l : Fin 96) (ei : Bool) (id : Nat) (h : Sys2Proof.Leader) (ts : Nat) (s : State) (hm : P s) : Answers P (execGvspLeaderReceive l ei id h ts s) := by
  unfold execGvspLeaderReceive; repeat' first | with_reducible assumption | with_reducible apply answers_next (P := P) | extract_lets | with_reducible apply State.bump_stable hP | with_reducible apply State.skip_stable hP | with_reducible apply hP.modEth | with_reducible apply State.bumpBy_stable hP | with_reducible apply State.raise_stable hP | with_reducible apply State.ethLog_stable hP | with_reducible apply State.ethUnserved_stable hP | with_reducible apply iff_stable (P := P) | with_reducible apply foldl_stable (P := P) | with_reducible apply foldl_stable_fst (P := P) | with_reducible apply foldl_stable_snd (P := P) | split | intro _ | dsimp +zetaDelta only []
theorem State.ethDetect_stable (s : State) (l : Nat) (id : Nat) (range : Option (Nat × Nat)) (hm : P s) : P (State.ethDetect s l id range) := by
  unfold State.ethDetect; repeat' first | with_reducible assumption | with_reducible apply answers_next (P := P) | extract_lets | with_reducible apply State.ethClose_stable hP | with_reducible apply State.ethSend_stable hP | with_reducible apply State.bump_stable hP | with_reducible apply State.modBlk_stable hP | with_reducible apply iff_stable (P := P) | with_reducible apply foldl_stable (P := P) | with_reducible apply foldl_stable_fst (P := P) | with_reducible apply foldl_stable_snd (P := P) | split | intro _ | dsimp +zetaDelta only []
theorem State.ethUnwait_stable (s : State) (l : Nat) (id : Nat) (hm : P s) : P (State.ethUnwait s l id) := by
  unfold State.ethUnwait; repeat' first | with_reducible assumption | with_reducible apply answers_next (P := P) | extract_lets | with_reducible apply State.modBlk_stable hP | with_reducible apply State.ethDetect_stable hP | with_reducible apply iff_stable (P := P) | with_reducible apply foldl_stable (P := P) | with_reducible apply foldl_stable_fst (P := P) | with_reducible apply foldl_stable_snd (P := P) | split | intro _ | dsimp +zetaDelta only []
theorem execGvspPayloadReceive_stable (l : Fin 96) (ei : Bool) (id : Nat) (pid : Nat) (data : List Byte) (unavail : Bool) (s : State) (hm : P s) : Answers P (execGvspPayloadReceive l ei id pid data unavail s) := by
  unfold execGvspPayloadReceive; repeat' first | with_reducible assumption | with_reducible apply answers_next (P := P) | extract_lets | with_reducible apply State.bump_stable hP | with_reducible apply State.modBlk_stable hP | with_reducible apply State.ethUnwait_stable hP | with_reducible apply State.ethEntries_stable hP | with_reducible apply State.ethRaws_stable hP | with_reducible apply State.ethRefill_stable hP | with_reducible apply State.ethClose_stable hP | with_reducible apply State.ethDetect_stable hP | with_reducible apply iff_stable (P := P) | with_reducible apply foldl_stable (P := P) | with_reducible apply foldl_stable_fst (P := P) | with_reducible apply foldl_stable_snd (P := P) | split | intro _ | dsimp +zetaDelta only []
theorem execGvspTrailerReceive_stable (l : Fin 96) (ei : Bool) (id : Nat) (s : State) (hm : P s) : Answers P (execGvspTrailerReceive l ei id s) := by
  unfold execGvspTrailerReceive; repeat' first | with_reducible assumption | with_reducible apply answers_next (P := P) | extract_lets | with_reducible apply State.bump_stable hP | with_reducible apply State.modBlk_stable hP | with_reducible apply State.ethDetect_stable hP | with_reducible apply iff_stable (P := P) | with_reducible apply foldl_stable (P := P) | with_reducible apply foldl_stable_fst (P := P) | with_reducible apply foldl_stable_snd (P := P) | split | intro _ | dsimp +zetaDelta only []
theorem execResendWaitExpiry_stable (l : Fin 96) (id : Nat) (s : State) (hm : P s) : Answers P (execResendWaitExpiry l id s) := by
  unfold execResendWaitExpiry; repeat' first | with_reducible assumption | with_reducible apply answers_next (P := P) | extract_lets | with_reducible apply State.modBlk_stable hP | with_reducible apply State.ethDetect_stable hP | with_reducible apply iff_stable (P := P) | with_reducible apply foldl_stable (P := P) | with_reducible apply foldl_stable_fst (P := P) | with_reducible apply foldl_stable_snd (P := P) | split | intro _ | dsimp +zetaDelta only []
theorem State.gvcpSend_stable (s : State) (l : Nat) (hm : P s) : P (State.gvcpSend s l) := by
  unfold State.gvcpSend; repeat' first | with_reducible assumption | with_reducible apply answers_next (P := P) | extract_lets | with_reducible apply State.ethSend_stable hP | with_reducible apply iff_stable (P := P) | with_reducible apply foldl_stable (P := P) | with_reducible apply foldl_stable_fst (P := P) | with_reducible apply foldl_stable_snd (P := P) | split | intro _ | dsimp +zetaDelta only []
theorem State.gvcpPush_stable (s : State) (l : Nat) (why : Nat) (op : Nat) (addr : Nat) (value : Nat) (hm : P s) : P (State.gvcpPush s l why op addr value) := by
  unfold State.gvcpPush; repeat' first | with_reducible assumption | with_reducible apply answers_next (P := P) | extract_lets | with_reducible apply hP.modEth | with_reducible apply State.gvcpSend_stable hP | with_reducible apply iff_stable (P := P) | with_reducible apply foldl_stable (P := P) | with_reducible apply foldl_stable_fst (P := P) | with_reducible apply foldl_stable_snd (P := P) | split | intro _ | dsimp +zetaDelta only []
theorem State.gvcpNext_stable (s : State) (l : Nat) (hm : P s) : P (State.gvcpNext s l) := by
  unfold State.gvcpNext; repeat' first | with_reducible assumption | with_reducible apply answers_next (P := P) | extract_lets | with_reducible apply hP.modEth | with_reducible apply State.gvcpSend_stable hP | with_reducible apply iff_stable (P := P) | with_reducible apply foldl_stable (P := P) | with_reducible apply foldl_stable_fst (P := P) | with_reducible apply foldl_stable_snd (P := P) | split | intro _ | dsimp +zetaDelta only []
theorem State.accessDone_stable (s : State) (p : Nat) (result : Nat) (payload : List Byte) (hm : P s) : P (State.accessDone s p result payload) := by
  unfold State.accessDone; repeat' first | with_reducible assumption | with_reducible apply answers_next (P := P) | extract_lets | with_reducible apply State.answerFree_stable hP | with_reducible apply iff_stable (P := P) | with_reducible apply foldl_stable (P := P) | with_reducible apply foldl_stable_fst (P := P) | with_reducible apply foldl_stable_snd (P := P) | split | intro _ | dsimp +zetaDelta only []
theorem State.setupBegin_stable (s : State) (l : Nat) (hm : P s) : P (State.setupBegin s l) := by
  unfold State.setupBegin; repeat' first | with_reducible assumption | with_reducible apply answers_next (P := P) | extract_lets | with_reducible apply hP.modEth | with_reducible apply State.put_stable hP | with_reducible apply State.ethSend_stable hP | with_reducible apply iff_stable (P := P) | with_reducible apply foldl_stable (P := P) | with_reducible apply foldl_stable_fst (P := P) | with_reducible apply foldl_stable_snd (P := P) | split | intro _ | dsimp +zetaDelta only []
theorem State.setupFail_stable (s : State) (l : Nat) (hm : P s) : P (State.setupFail s l) := by
  unfold State.setupFail; repeat' first | with_reducible assumption | with_reducible apply answers_next (P := P) | extract_lets | with_reducible apply State.logLim_stable hP | with_reducible apply State.ethNotReady_stable hP | with_reducible apply hP.modEth | with_reducible apply iff_stable (P := P) | with_reducible apply foldl_stable (P := P) | with_reducible apply foldl_stable_fst (P := P) | with_reducible apply foldl_stable_snd (P := P) | split | intro _ | dsimp +zetaDelta only []
theorem State.controlLost_stable (s : State) (l : Nat) (hm : P s) : P (State.controlLost s l) := by
  unfold State.controlLost; repeat' first | with_reducible assumption | with_reducible apply answers_next (P := P) | extract_lets | with_reducible apply State.putB_stable hP | with_reducible apply State.ethLog_stable hP | with_reducible apply iff_stable (P := P) | with_reducible apply foldl_stable (P := P) | with_reducible apply foldl_stable_fst (P := P) | with_reducible apply foldl_stable_snd (P := P) | split | intro _ | dsimp +zetaDelta only []
theorem State.accessGo_stable (s : State) (l : Nat) (hm : P s) : P (State.accessGo s l) := by
  unfold State.accessGo; repeat' first | with_reducible assumption | with_reducible apply answers_next (P := P) | extract_lets | with_reducible apply State.gvcpPush_stable hP | with_reducible apply hP.modEth | with_reducible apply iff_stable (P := P) | with_reducible apply foldl_stable (P := P) | with_reducible apply foldl_stable_fst (P := P) | with_reducible apply foldl_stable_snd (P := P) | split | intro _ | dsimp +zetaDelta only []
theorem State.setupReady_stable (s : State) (l : Nat) (hm : P s) : P (State.setupReady s l) := by
  unfold State.setupReady; repeat' first | with_reducible assumption | with_reducible apply answers_next (P := P) | extract_lets | with_reducible apply State.put_stable hP | with_reducible apply State.putB_stable hP | with_reducible apply State.raise_stable hP | with_reducible apply State.ethLog_stable hP | with_reducible apply hP.modEth | with_reducible apply State.accessGo_stable hP | with_reducible apply iff_stable (P := P) | with_reducible apply foldl_stable (P := P) | with_reducible apply foldl_stable_fst (P := P) | with_reducible apply foldl_stable_snd (P := P) | split | intro _ | dsimp +zetaDelta only []
theorem State.setupSync_stable (s : State) (l : Nat) (hm : P s) : P (State.setupSync s l) := by
  unfold State.setupSync; repeat' first | with_reducible assumption | with_reducible apply answers_next (P := P) | extract_lets | with_reducible apply State.setupReady_stable hP | with_reducible apply State.put_stable hP | with_reducible apply hP.modEth | with_reducible apply iff_stable (P := P) | with_reducible apply foldl_stable (P := P) | with_reducible apply foldl_stable_fst (P := P) | with_reducible apply foldl_stable_snd (P := P) | split | intro _ | dsimp +zetaDelta only []
theorem State.setupScript_stable (s : State) (l n : Nat) (hm : P s) : P (State.setupScript s l n) := by
  induction n generalizing s with
  | zero => unfold State.setupScript; (repeat' first | with_reducible assumption | with_reducible apply answers_next (P := P) | extract_lets | with_reducible apply State.setupSync_stable hP | with_reducible apply hP.modEth | with_reducible apply State.gvcpPush_stable hP | with_reducible apply iff_stable (P := P) | with_reducible apply foldl_stable (P := P) | with_reducible apply foldl_stable_fst (P := P) | with_reducible apply foldl_stable_snd (P := P) | split | intro _ | dsimp +zetaDelta only [])
  | succ _ ih => unfold State.setupScript; repeat' first | with_reducible apply ih | with_reducible assumption | with_reducible apply answers_next (P := P) | extract_lets | with_reducible apply State.setupSync_stable hP | with_reducible apply hP.modEth | with_reducible apply State.gvcpPush_stable hP | with_reducible apply iff_stable (P := P) | with_reducible apply foldl_stable (P := P) | with_reducible apply foldl_stable_fst (P := P) | with_reducible apply foldl_stable_snd (P := P) | split | intro _ | dsimp +zetaDelta only []
theorem State.setupSend_stable (s : State) (l : Nat) (hm : P s) : P (State.setupSend s l) := by
  unfold State.setupSend; repeat' first | with_reducible assumption | with_reducible apply answers_next (P := P) | extract_lets | with_reducible apply State.gvcpPush_stable hP | with_reducible apply State.setupScript_stable hP | with_reducible apply iff_stable (P := P) | with_reducible apply foldl_stable (P := P) | with_reducible apply foldl_stable_fst (P := P) | with_reducible apply foldl_stable_snd (P := P) | split | intro _ | dsimp +zetaDelta only []
theorem State.setupGoto_stable (s : State) (l : Nat) (k : Nat) (hm : P s) : P (State.setupGoto s l k) := by
  unfold State.setupGoto; repeat' first | with_reducible assumption | with_reducible apply answers_next (P := P) | extract_lets | with_reducible apply hP.modEth | with_reducible apply State.put_stable hP | with_reducible apply State.setupSend_stable hP | with_reducible apply iff_stable (P := P) | with_reducible apply foldl_stable (P := P) | with_reducible apply foldl_stable_fst (P := P) | with_reducible apply foldl_stable_snd (P := P) | split | intro _ | dsimp +zetaDelta only []
theorem State.setupAck_stable (s : State) (l : Nat) (ok : Bool) (value : Nat) (hm : P s) : P (State.setupAck s l ok value) := by
  unfold State.setupAck; repeat' first | with_reducible assumption | with_reducible apply answers_next (P := P) | extract_lets | with_reducible apply State.setupGoto_stable hP | with_reducible apply State.setupFail_stable hP | with_reducible apply State.putB_stable hP | with_reducible apply State.controlLost_stable hP | with_reducible apply hP.modEth | with_reducible apply State.setupSend_stable hP | with_reducible apply State.setupScript_stable hP | with_reducible apply iff_stable (P := P) | with_reducible apply foldl_stable (P := P) | with_reducible apply foldl_stable_fst (P := P) | with_reducible apply foldl_stable_snd (P := P) | split | intro _ | dsimp +zetaDelta only []
theorem execCameraSetup_stable (l : Fin 96) (ok : Bool) (value : Word) (s : State) (hm : P s) : Answers P (execCameraSetup l ok value s) := by
  unfold execCameraSetup; repeat' first | with_reducible assumption | with_reducible apply answers_next (P := P) | extract_lets | with_reducible apply State.setupBegin_stable hP | with_reducible apply State.setupGoto_stable hP | with_reducible apply State.gvcpNext_stable hP | with_reducible apply State.setupAck_stable hP | with_reducible apply iff_stable (P := P) | with_reducible apply foldl_stable (P := P) | with_reducible apply foldl_stable_fst (P := P) | with_reducible apply foldl_stable_snd (P := P) | split | intro _ | dsimp +zetaDelta only []
theorem execSetupRetryExpiry_stable (l : Fin 96) (s : State) (hm : P s) : Answers P (execSetupRetryExpiry l s) := by
  unfold execSetupRetryExpiry; repeat' first | with_reducible assumption | with_reducible apply answers_next (P := P) | extract_lets | with_reducible apply State.setupBegin_stable hP | with_reducible apply iff_stable (P := P) | with_reducible apply foldl_stable (P := P) | with_reducible apply foldl_stable_fst (P := P) | with_reducible apply foldl_stable_snd (P := P) | split | intro _ | dsimp +zetaDelta only []
theorem State.gvcpFailed_stable (s : State) (l : Nat) (hm : P s) : P (State.gvcpFailed s l) := by
  unfold State.gvcpFailed; repeat' first | with_reducible assumption | with_reducible apply answers_next (P := P) | extract_lets | with_reducible apply hP.modEth | with_reducible apply State.setupFail_stable hP | with_reducible apply State.controlLost_stable hP | with_reducible apply State.ethNotReady_stable hP | with_reducible apply State.setupBegin_stable hP | with_reducible apply State.putB_stable hP | with_reducible apply State.gvcpSend_stable hP | with_reducible apply State.accessDone_stable hP | with_reducible apply iff_stable (P := P) | with_reducible apply foldl_stable (P := P) | with_reducible apply foldl_stable_fst (P := P) | with_reducible apply foldl_stable_snd (P := P) | split | intro _ | dsimp +zetaDelta only []
theorem execGvcpAckTimeout_stable (l : Fin 96) (s : State) (hm : P s) : Answers P (execGvcpAckTimeout l s) := by
  unfold execGvcpAckTimeout; repeat' first | with_reducible assumption | with_reducible apply answers_next (P := P) | extract_lets | with_reducible apply hP.modEth | with_reducible apply State.gvcpSend_stable hP | with_reducible apply State.gvcpFailed_stable hP | with_reducible apply iff_stable (P := P) | with_reducible apply foldl_stable (P := P) | with_reducible apply foldl_stable_fst (P := P) | with_reducible apply foldl_stable_snd (P := P) | split | intro _ | dsimp +zetaDelta only []
theorem execCameraScriptWaitExpiry_stable (l : Fin 96) (s : State) (hm : P s) : Answers P (execCameraScriptWaitExpiry l s) := by
  unfold execCameraScriptWaitExpiry; repeat' first | with_reducible assumption | with_reducible apply answers_next (P := P) | extract_lets | with_reducible apply hP.modEth | with_reducible apply State.setupScript_stable hP | with_reducible apply iff_stable (P := P) | with_reducible apply foldl_stable (P := P) | with_reducible apply foldl_stable_fst (P := P) | with_reducible apply foldl_stable_snd (P := P) | split | intro _ | dsimp +zetaDelta only []
theorem execArpRetry_stable (l : Fin 96) (s : State) (hm : P s) : Answers P (execArpRetry l s) := by
  unfold execArpRetry; repeat' first | with_reducible assumption | with_reducible apply answers_next (P := P) | extract_lets | with_reducible apply hP.modEth | with_reducible apply State.ethSend_stable hP | with_reducible apply State.ethLog_stable hP | with_reducible apply iff_stable (P := P) | with_reducible apply foldl_stable (P := P) | with_reducible apply foldl_stable_fst (P := P) | with_reducible apply foldl_stable_snd (P := P) | split | intro _ | dsimp +zetaDelta only []
theorem execArpReplyReceive_stable (l : Fin 96) (mac : Nat) (s : State) (hm : P s) : Answers P (execArpReplyReceive l mac s) := by
  unfold execArpReplyReceive; repeat' first | with_reducible assumption | with_reducible apply answers_next (P := P) | extract_lets | with_reducible apply State.wr64_stable hP | with_reducible apply State.putB_stable hP | with_reducible apply iff_stable (P := P) | with_reducible apply foldl_stable (P := P) | with_reducible apply foldl_stable_fst (P := P) | with_reducible apply foldl_stable_snd (P := P) | split | intro _ | dsimp +zetaDelta only []
theorem execArpRequestReceive_stable (l : Fin 96) (ip : Word) (s : State) (hm : P s) : Answers P (execArpRequestReceive l ip s) := by
  unfold execArpRequestReceive; repeat' first | with_reducible assumption | with_reducible apply answers_next (P := P) | extract_lets | with_reducible apply State.ethSend_stable hP | with_reducible apply iff_stable (P := P) | with_reducible apply foldl_stable (P := P) | with_reducible apply foldl_stable_fst (P := P) | with_reducible apply foldl_stable_snd (P := P) | split | intro _ | dsimp +zetaDelta only []
theorem execHeartbeatRead_stable (l : Fin 96) (ok : Bool) (s : State) (hm : P s) : Answers P (execHeartbeatRead l ok s) := by
  unfold execHeartbeatRead; repeat' first | with_reducible assumption | with_reducible apply answers_next (P := P) | extract_lets | with_reducible apply State.gvcpNext_stable hP | with_reducible apply State.controlLost_stable hP | with_reducible apply State.ethNotReady_stable hP | with_reducible apply State.setupBegin_stable hP | with_reducible apply State.gvcpPush_stable hP | with_reducible apply iff_stable (P := P) | with_reducible apply foldl_stable (P := P) | with_reducible apply foldl_stable_fst (P := P) | with_reducible apply foldl_stable_snd (P := P) | split | intro _ | dsimp +zetaDelta only []
theorem execCamSyncPoll_stable (l : Fin 96) (value : Word) (s : State) (hm : P s) : Answers P (execCamSyncPoll l value s) := by
  unfold execCamSyncPoll; repeat' first | with_reducible assumption | with_reducible apply answers_next (P := P) | extract_lets | with_reducible apply State.gvcpNext_stable hP | with_reducible apply State.putB_stable hP | with_reducible apply State.setupReady_stable hP | with_reducible apply State.gvcpPush_stable hP | with_reducible apply iff_stable (P := P) | with_reducible apply foldl_stable (P := P) | with_reducible apply foldl_stable_fst (P := P) | with_reducible apply foldl_stable_snd (P := P) | split | intro _ | dsimp +zetaDelta only []
theorem execCamSyncDelayExpiry_stable (l : Fin 96) (s : State) (hm : P s) : Answers P (execCamSyncDelayExpiry l s) := by
  unfold execCamSyncDelayExpiry; repeat' first | with_reducible assumption | with_reducible apply answers_next (P := P) | extract_lets | with_reducible apply State.putB_stable hP | with_reducible apply State.setupReady_stable hP | with_reducible apply iff_stable (P := P) | with_reducible apply foldl_stable (P := P) | with_reducible apply foldl_stable_fst (P := P) | with_reducible apply foldl_stable_snd (P := P) | split | intro _ | dsimp +zetaDelta only []
theorem execPtpSyncSend_stable (l : Fin 96) (s : State) (hm : P s) : Answers P (execPtpSyncSend l s) := by
  unfold execPtpSyncSend; repeat' first | with_reducible assumption | with_reducible apply answers_next (P := P) | extract_lets | with_reducible apply State.ethSend_stable hP | with_reducible apply hP.modEth | with_reducible apply iff_stable (P := P) | with_reducible apply foldl_stable (P := P) | with_reducible apply foldl_stable_fst (P := P) | with_reducible apply foldl_stable_snd (P := P) | split | intro _ | dsimp +zetaDelta only []
theorem execPtpAnnounceSend_stable (l : Fin 96) (s : State) (hm : P s) : Answers P (execPtpAnnounceSend l s) := by
  unfold execPtpAnnounceSend; repeat' first | with_reducible assumption | with_reducible apply answers_next (P := P) | extract_lets | with_reducible apply hP.free | with_reducible apply State.ethSend_stable hP | with_reducible apply hP.modEth | with_reducible apply iff_stable (P := P) | with_reducible apply foldl_stable (P := P) | with_reducible apply foldl_stable_fst (P := P) | with_reducible apply foldl_stable_snd (P := P) | split | intro _ | dsimp +zetaDelta only []
theorem execDelayReqReceive_stable (l : Fin 96) (req : PtpReq) (ago : Nat) (s : State) (hm : P s) : Answers P (execDelayReqReceive l req ago s) := by
  unfold execDelayReqReceive; repeat' first | with_reducible assumption | with_reducible apply answers_next (P := P) | extract_lets | with_reducible apply State.ethSend_stable hP | with_reducible apply hP.modEth | with_reducible apply iff_stable (P := P) | with_reducible apply foldl_stable (P := P) | with_reducible apply foldl_stable_fst (P := P) | with_reducible apply foldl_stable_snd (P := P) | split | intro _ | dsimp +zetaDelta only []
theorem execActionCmdSend_stable (l : Fin 96) (s : State) (hm : P s) : Answers P (execActionCmdSend l s) := by
  unfold execActionCmdSend; repeat' first | with_reducible assumption | with_reducible apply answers_next (P := P) | extract_lets | with_reducible apply State.ethLog_stable hP | with_reducible apply State.reportNotSent_stable hP | with_reducible apply State.bump_stable hP | with_reducible apply State.raise_stable hP | with_reducible apply State.reportLate_stable hP | with_reducible apply State.ethSend_stable hP | with_reducible apply State.ethUnserved_stable hP | with_reducible apply hP.modTrigs | with_reducible apply hP.modEth | with_reducible apply State.put_stable hP | with_reducible apply State.showCommitted_stable hP | with_reducible apply iff_stable (P := P) | with_reducible apply foldl_stable (P := P) | with_reducible apply foldl_stable_fst (P := P) | with_reducible apply foldl_stable_snd (P := P) | split | intro _ | dsimp +zetaDelta only []
theorem execActionTimePass_stable (l : Fin 96) (s : State) (hm : P s) : Answers P (execActionTimePass l s) := by
  unfold execActionTimePass; repeat' first | with_reducible assumption | with_reducible apply answers_next (P := P) | extract_lets | with_reducible apply hP.modEth | with_reducible apply State.put_stable hP | with_reducible apply iff_stable (P := P) | with_reducible apply foldl_stable (P := P) | with_reducible apply foldl_stable_fst (P := P) | with_reducible apply foldl_stable_snd (P := P) | split | intro _ | dsimp +zetaDelta only []
theorem State.breach_stable (s : State) (st : Nat) (n : Nat) (hm : P s) : P (State.breach s st n) := by
  unfold State.breach; repeat' first | with_reducible assumption | with_reducible apply answers_next (P := P) | extract_lets | with_reducible apply State.bump_stable hP | with_reducible apply State.raise_stable hP | with_reducible apply State.logCount_stable hP | with_reducible apply iff_stable (P := P) | with_reducible apply foldl_stable (P := P) | with_reducible apply foldl_stable_fst (P := P) | with_reducible apply foldl_stable_snd (P := P) | split | intro _ | dsimp +zetaDelta only []
theorem State.unserve_stable (s : State) (st : Nat) (ts : List Nat) (hm : P s) : P (State.unserve s st ts) := by
  unfold State.unserve; repeat' first | with_reducible assumption | with_reducible apply answers_next (P := P) | extract_lets | with_reducible apply State.breach_stable hP | with_reducible apply State.release_stable hP | with_reducible apply iff_stable (P := P) | with_reducible apply foldl_stable (P := P) | with_reducible apply foldl_stable_fst (P := P) | with_reducible apply foldl_stable_snd (P := P) | split | intro _ | dsimp +zetaDelta only []
theorem State.ringIrq_stable (s : State) (st : Nat) (p : Nat) (hm : P s) : P (State.ringIrq s st p) := by
  unfold State.ringIrq; repeat' first | with_reducible assumption | with_reducible apply answers_next (P := P) | extract_lets | with_reducible apply hP.modRing | with_reducible apply State.msixSend_stable hP | with_reducible apply iff_stable (P := P) | with_reducible apply foldl_stable (P := P) | with_reducible apply foldl_stable_fst (P := P) | with_reducible apply foldl_stable_snd (P := P) | split | intro _ | dsimp +zetaDelta only []
theorem State.tagIrq_stable (s : State) (st : Nat) (p : Nat) (hm : P s) : P (State.tagIrq s st p) := by
  unfold State.tagIrq; repeat' first | with_reducible assumption | with_reducible apply answers_next (P := P) | extract_lets | with_reducible apply hP.modRing | with_reducible apply State.ringIrq_stable hP | with_reducible apply iff_stable (P := P) | with_reducible apply foldl_stable (P := P) | with_reducible apply foldl_stable_fst (P := P) | with_reducible apply foldl_stable_snd (P := P) | split | intro _ | dsimp +zetaDelta only []
theorem State.indexWord_stable (s : State) (st : Nat) (p : Nat) (hm : P s) : P (State.indexWord s st p) := by
  unfold State.indexWord; repeat' first | with_reducible assumption | with_reducible apply answers_next (P := P) | extract_lets | with_reducible apply hP.emit | with_reducible apply iff_stable (P := P) | with_reducible apply foldl_stable (P := P) | with_reducible apply foldl_stable_fst (P := P) | with_reducible apply foldl_stable_snd (P := P) | split | intro _ | dsimp +zetaDelta only []
theorem State.showWaiting_stable (s : State) (st : Nat) (hm : P s) : P (State.showWaiting s st) := by
  unfold State.showWaiting; repeat' first | with_reducible assumption | with_reducible apply answers_next (P := P) | extract_lets | with_reducible apply State.putB_stable hP | with_reducible apply iff_stable (P := P) | with_reducible apply foldl_stable (P := P) | with_reducible apply foldl_stable_fst (P := P) | with_reducible apply foldl_stable_snd (P := P) | split | intro _ | dsimp +zetaDelta only []
theorem State.startWait_stable (s : State) (num : Nat) (hm : P s) : P (State.startWait s num) := by
  unfold State.startWait; repeat' first | with_reducible assumption | with_reducible apply answers_next (P := P) | extract_lets | with_reducible apply hP.modDlv | with_reducible apply iff_stable (P := P) | with_reducible apply foldl_stable (P := P) | with_reducible apply foldl_stable_fst (P := P) | with_reducible apply foldl_stable_snd (P := P) | split | intro _ | dsimp +zetaDelta only []
theorem State.endWait_stable (s : State) (num : Nat) (st : Nat) (hm : P s) : P (State.endWait s num st) := by
  unfold State.endWait; repeat' first | with_reducible assumption | with_reducible apply answers_next (P := P) | extract_lets | with_reducible apply hP.modDlv | with_reducible apply State.showWaiting_stable hP | with_reducible apply iff_stable (P := P) | with_reducible apply foldl_stable (P := P) | with_reducible apply foldl_stable_fst (P := P) | with_reducible apply foldl_stable_snd (P := P) | split | intro _ | dsimp +zetaDelta only []
theorem State.dealPort_stable (s : State) (st : Nat) (hm : P s) : P (State.dealPort s st).2 := by
  unfold State.dealPort; repeat' first | with_reducible assumption | with_reducible apply answers_next (P := P) | extract_lets | with_reducible apply hP.modStrm | with_reducible apply State.bump_stable hP | with_reducible apply iff_stable (P := P) | with_reducible apply foldl_stable (P := P) | with_reducible apply foldl_stable_fst (P := P) | with_reducible apply foldl_stable_snd (P := P) | split | intro _ | dsimp +zetaDelta only []
theorem State.ready_stable (s : State) (d : Delivery) (hm : P s) : P (State.ready s d) := by
  unfold State.ready; repeat' first | with_reducible assumption | with_reducible apply answers_next (P := P) | extract_lets | with_reducible apply State.dealPort_stable hP | with_reducible apply hP.countDlv | with_reducible apply hP.modDlvs | with_reducible apply State.unserve_stable hP | with_reducible apply iff_stable (P := P) | with_reducible apply foldl_stable (P := P) | with_reducible apply foldl_stable_fst (P := P) | with_reducible apply foldl_stable_snd (P := P) | split | intro _ | dsimp +zetaDelta only []
theorem State.overrate_stable (s : State) (st : Nat) (hm : P s) : P (State.overrate s st) := by
  unfold State.overrate; repeat' first | with_reducible assumption | with_reducible apply answers_next (P := P) | extract_lets | with_reducible apply State.bump_stable hP | with_reducible apply State.raise_stable hP | with_reducible apply State.logOnce_stable hP | with_reducible apply iff_stable (P := P) | with_reducible apply foldl_stable (P := P) | with_reducible apply foldl_stable_fst (P := P) | with_reducible apply foldl_stable_snd (P := P) | split | intro _ | dsimp +zetaDelta only []
theorem State.checkLen_stable (s : State) (st : Nat) (n : Nat) (hm : P s) : P (State.checkLen s st n) := by
  unfold State.checkLen; repeat' first | with_reducible assumption | with_reducible apply answers_next (P := P) | extract_lets | with_reducible apply State.overrate_stable hP | with_reducible apply iff_stable (P := P) | with_reducible apply foldl_stable (P := P) | with_reducible apply foldl_stable_fst (P := P) | with_reducible apply foldl_stable_snd (P := P) | split | intro _ | dsimp +zetaDelta only []
theorem State.settleClose_stable (s : State) (st : Nat) (hm : P s) : P (State.settleClose s st) := by
  unfold State.settleClose; repeat' first | with_reducible assumption | with_reducible apply answers_next (P := P) | extract_lets | with_reducible apply State.putB_stable hP | with_reducible apply hP.modRing | with_reducible apply hP.modStrm | with_reducible apply iff_stable (P := P) | with_reducible apply foldl_stable (P := P) | with_reducible apply foldl_stable_fst (P := P) | with_reducible apply foldl_stable_snd (P := P) | split | intro _ | dsimp +zetaDelta only []
theorem State.lateAnswer_stable (s : State) (p : Nat) (hm : P s) : P (State.lateAnswer s p) := by
  unfold State.lateAnswer; repeat' first | with_reducible assumption | with_reducible apply answers_next (P := P) | extract_lets | with_reducible apply State.answerFree_stable hP | with_reducible apply iff_stable (P := P) | with_reducible apply foldl_stable (P := P) | with_reducible apply foldl_stable_fst (P := P) | with_reducible apply foldl_stable_snd (P := P) | split | intro _ | dsimp +zetaDelta only []
theorem State.settleWithdraw_stable (s : State) (st : Nat) (p : Nat) (hm : P s) : P (State.settleWithdraw s st p) := by
  unfold State.settleWithdraw; repeat' first | with_reducible assumption | with_reducible apply answers_next (P := P) | extract_lets | with_reducible apply State.withdraw_stable hP | with_reducible apply hP.modRing | with_reducible apply State.lateAnswer_stable hP | with_reducible apply iff_stable (P := P) | with_reducible apply foldl_stable (P := P) | with_reducible apply foldl_stable_fst (P := P) | with_reducible apply foldl_stable_snd (P := P) | split | intro _ | dsimp +zetaDelta only []
theorem State.finish_stable (s : State) (d : Delivery) (hm : P s) : P (State.finish s d) := by
  unfold State.finish; repeat' first | with_reducible assumption | with_reducible apply answers_next (P := P) | extract_lets | with_reducible apply State.tileTo_stable hP | with_reducible apply hP.emit | with_reducible apply State.wrN_stable hP | with_reducible apply State.bump_stable hP | with_reducible apply State.indexWord_stable hP | with_reducible apply State.ringIrq_stable hP | with_reducible apply State.tagIrq_stable hP | with_reducible apply State.breach_stable hP | with_reducible apply State.release_stable hP | with_reducible apply hP.dropDlv | with_reducible apply State.showWaiting_stable hP | with_reducible apply State.settleClose_stable hP | with_reducible apply State.settleWithdraw_stable hP | with_reducible apply iff_stable (P := P) | with_reducible apply foldl_stable (P := P) | with_reducible apply foldl_stable_fst (P := P) | with_reducible apply foldl_stable_snd (P := P) | split | intro _ | dsimp +zetaDelta only []
theorem State.closeDesc_stable (s : State) (num : Nat) (hm : P s) : P (State.closeDesc s num) := by
  unfold State.closeDesc; repeat' first | with_reducible assumption | with_reducible apply answers_next (P := P) | extract_lets | with_reducible apply hP.modDlv | with_reducible apply State.finish_stable hP | with_reducible apply State.withdraw_stable hP | with_reducible apply State.startWait_stable hP | with_reducible apply iff_stable (P := P) | with_reducible apply foldl_stable (P := P) | with_reducible apply foldl_stable_fst (P := P) | with_reducible apply foldl_stable_snd (P := P) | split | intro _ | dsimp +zetaDelta only []
theorem State.takeDesc_stable (s : State) (st p n : Nat) (hm : P s) : P (State.takeDesc s st p n) := by
  induction n generalizing s with
  | zero => unfold State.takeDesc; (repeat' first | with_reducible assumption | with_reducible apply answers_next (P := P) | extract_lets | with_reducible apply hP.modRing | with_reducible apply State.wrN_stable hP | with_reducible apply State.bump_stable hP | with_reducible apply State.raise_stable hP | with_reducible apply State.logC_stable hP | with_reducible apply hP.modDlv | with_reducible apply State.endWait_stable hP | with_reducible apply State.closeDesc_stable hP | with_reducible apply iff_stable (P := P) | with_reducible apply foldl_stable (P := P) | with_reducible apply foldl_stable_fst (P := P) | with_reducible apply foldl_stable_snd (P := P) | split | intro _ | dsimp +zetaDelta only [])
  | succ _ ih => unfold State.takeDesc; repeat' first | with_reducible apply ih | with_reducible assumption | with_reducible apply answers_next (P := P) | extract_lets | with_reducible apply hP.modRing | with_reducible apply State.wrN_stable hP | with_reducible apply State.bump_stable hP | with_reducible apply State.raise_stable hP | with_reducible apply State.logC_stable hP | with_reducible apply hP.modDlv | with_reducible apply State.endWait_stable hP | with_reducible apply State.closeDesc_stable hP | with_reducible apply iff_stable (P := P) | with_reducible apply foldl_stable (P := P) | with_reducible apply foldl_stable_fst (P := P) | with_reducible apply foldl_stable_snd (P := P) | split | intro _ | dsimp +zetaDelta only []
theorem State.hostPut_stable (s : State) (p : Nat) (a : Nat) (l : List Byte) (hm : P s) : P (State.hostPut s p a l) := by
  unfold State.hostPut; repeat' first | with_reducible assumption | with_reducible apply answers_next (P := P) | extract_lets | with_reducible apply hP.emit | with_reducible apply iff_stable (P := P) | with_reducible apply foldl_stable (P := P) | with_reducible apply foldl_stable_fst (P := P) | with_reducible apply foldl_stable_snd (P := P) | split | intro _ | dsimp +zetaDelta only []
theorem State.transfer_stable (s : State) (d : Delivery) (n : Nat) (hm : P s) : P (State.transfer s d n) := by
  unfold State.transfer; repeat' first | with_reducible assumption | with_reducible apply answers_next (P := P) | extract_lets | with_reducible apply State.hostPut_stable hP | with_reducible apply hP.modDlv | with_reducible apply State.closeDesc_stable hP | with_reducible apply iff_stable (P := P) | with_reducible apply foldl_stable (P := P) | with_reducible apply foldl_stable_fst (P := P) | with_reducible apply foldl_stable_snd (P := P) | split | intro _ | dsimp +zetaDelta only []
theorem State.ringGone_stable (s : State) (st : Nat) (p : Nat) (hm : P s) : P (State.ringGone s st p) := by
  unfold State.ringGone; repeat' first | with_reducible assumption | with_reducible apply answers_next (P := P) | extract_lets | with_reducible apply State.withdraw_stable hP | with_reducible apply State.bump_stable hP | with_reducible apply State.unserve_stable hP | with_reducible apply hP.dropDlv | with_reducible apply hP.modDlv | with_reducible apply State.putB_stable hP | with_reducible apply hP.modRing | with_reducible apply State.showWaiting_stable hP | with_reducible apply State.lateAnswer_stable hP | with_reducible apply iff_stable (P := P) | with_reducible apply foldl_stable (P := P) | with_reducible apply foldl_stable_fst (P := P) | with_reducible apply foldl_stable_snd (P := P) | split | intro _ | dsimp +zetaDelta only []
theorem State.withdraw_stable (s : State) (st : Nat) (p : Nat) (hm : P s) : P (State.withdraw s st p) := by
  unfold State.withdraw; repeat' first | with_reducible assumption | with_reducible apply answers_next (P := P) | extract_lets | with_reducible apply State.putB_stable hP | with_reducible apply State.raise_stable hP | with_reducible apply State.ringGone_stable hP | with_reducible apply State.indexWord_stable hP | with_reducible apply State.ringIrq_stable hP | with_reducible apply iff_stable (P := P) | with_reducible apply foldl_stable (P := P) | with_reducible apply foldl_stable_fst (P := P) | with_reducible apply foldl_stable_snd (P := P) | split | intro _ | dsimp +zetaDelta only []
theorem State.abandon_stable (s : State) (st : Nat) (n : Nat) (hm : P s) : P (State.abandon s st n) := by
  unfold State.abandon; repeat' first | with_reducible assumption | with_reducible apply answers_next (P := P) | extract_lets | with_reducible apply State.release_stable hP | with_reducible apply State.modTile_stable hP | with_reducible apply State.tileAborted_stable hP | with_reducible apply State.dropTile_stable hP | with_reducible apply iff_stable (P := P) | with_reducible apply foldl_stable (P := P) | with_reducible apply foldl_stable_fst (P := P) | with_reducible apply foldl_stable_snd (P := P) | split | intro _ | dsimp +zetaDelta only []
theorem State.lose_stable (s : State) (p : Nat) (d : Delivery) (hm : P s) : P (State.lose s p d) := by
  unfold State.lose; repeat' first | with_reducible assumption | with_reducible apply answers_next (P := P) | extract_lets | with_reducible apply State.abandon_stable hP | with_reducible apply hP.dropDlv | with_reducible apply State.bump_stable hP | with_reducible apply State.raise_stable hP | with_reducible apply State.logCount_stable hP | with_reducible apply hP.modDlvs | with_reducible apply hP.countDlv | with_reducible apply hP.modDlv | with_reducible apply iff_stable (P := P) | with_reducible apply foldl_stable (P := P) | with_reducible apply foldl_stable_fst (P := P) | with_reducible apply foldl_stable_snd (P := P) | split | intro _ | dsimp +zetaDelta only []
theorem State.portStop_stable (s : State) (p : Nat) (hm : P s) : P (State.portStop s p) := by
  unfold State.portStop; repeat' first | with_reducible assumption | with_reducible apply answers_next (P := P) | extract_lets | with_reducible apply State.putB_stable hP | with_reducible apply hP.modRing | with_reducible apply State.withdraw_stable hP | with_reducible apply State.lose_stable hP | with_reducible apply State.showWaiting_stable hP | with_reducible apply State.lateAnswer_stable hP | with_reducible apply iff_stable (P := P) | with_reducible apply foldl_stable (P := P) | with_reducible apply foldl_stable_fst (P := P) | with_reducible apply foldl_stable_snd (P := P) | split | intro _ | dsimp +zetaDelta only []
theorem State.cameraTile_stable (s : State) (st : Nat) (n : Nat) (hm : P s) : P (State.cameraTile s st n) := by
  unfold State.cameraTile; repeat' first | with_reducible assumption | with_reducible apply answers_next (P := P) | extract_lets | with_reducible apply State.unserve_stable hP | with_reducible apply hP.dropDlv | with_reducible apply State.abandon_stable hP | with_reducible apply hP.modDlv | with_reducible apply State.closeDesc_stable hP | with_reducible apply State.checkLen_stable hP | with_reducible apply State.ready_stable hP | with_reducible apply iff_stable (P := P) | with_reducible apply foldl_stable (P := P) | with_reducible apply foldl_stable_fst (P := P) | with_reducible apply foldl_stable_snd (P := P) | split | intro _ | dsimp +zetaDelta only []
theorem State.record_stable (s : State) (tag : List Byte) (payload : List Byte) (hm : P s) : P (State.record s tag payload) := by
  unfold State.record; repeat' first | with_reducible assumption | with_reducible apply answers_next (P := P) | extract_lets | with_reducible apply State.ddrPost_stable hP | with_reducible apply hP.modRecl | with_reducible apply iff_stable (P := P) | with_reducible apply foldl_stable (P := P) | with_reducible apply foldl_stable_fst (P := P) | with_reducible apply foldl_stable_snd (P := P) | split | intro _ | dsimp +zetaDelta only []
theorem State.recordLine_stable (s : State) (n : Nat) (hm : P s) : P (State.recordLine s n) := by
  unfold State.recordLine; repeat' first | with_reducible assumption | with_reducible apply answers_next (P := P) | extract_lets | with_reducible apply State.record_stable hP | with_reducible apply State.release_stable hP | with_reducible apply iff_stable (P := P) | with_reducible apply foldl_stable (P := P) | with_reducible apply foldl_stable_fst (P := P) | with_reducible apply foldl_stable_snd (P := P) | split | intro _ | dsimp +zetaDelta only []

end Sys2Proof.Machine
end

