-- ==== Sys2Proof/Laws/StableData.lean ====
section
/-!
SUPPORT. What survives the operations of the data path: conditioning, stitching, engines, DDR4 and delivery:
a property that is `Stable`. One lemma per operation and per command.
-/

set_option linter.unusedTactic false
set_option linter.unreachableTactic false
set_option linter.unusedSimpArgs false
set_option linter.unusedVariables false

namespace Sys2Proof.Machine

open Reg

variable {P : State → Prop} (hP : Stable P)
include hP

theorem State.condStart_stable (s : State) (l : Nat) (hm : P s) : P (State.condStart s l) := by
  unfold State.condStart; repeat' first | with_reducible assumption | with_reducible apply answers_next (P := P) | extract_lets | with_reducible apply State.putB_stable hP | with_reducible apply State.bump_stable hP | with_reducible apply State.raise_stable hP | with_reducible apply hP.modCln | with_reducible apply State.modTile_stable hP | with_reducible apply State.ethRefill_stable hP | with_reducible apply State.queueTake_stable hP | with_reducible apply iff_stable (P := P) | with_reducible apply foldl_stable (P := P) | with_reducible apply foldl_stable_fst (P := P) | with_reducible apply foldl_stable_snd (P := P) | split | intro _ | dsimp +zetaDelta only []
theorem execConditioningStart_stable (l : Fin 96) (s : State) (hm : P s) : Answers P (execConditioningStart l s) := by
  unfold execConditioningStart; repeat' first | with_reducible assumption | with_reducible apply answers_next (P := P) | extract_lets | with_reducible apply State.condStart_stable hP | with_reducible apply iff_stable (P := P) | with_reducible apply foldl_stable (P := P) | with_reducible apply foldl_stable_fst (P := P) | with_reducible apply foldl_stable_snd (P := P) | split | intro _ | dsimp +zetaDelta only []
theorem execRingSpaceFree_stable (l : Fin 96) (s : State) (hm : P s) : Answers P (execRingSpaceFree l s) := by
  unfold execRingSpaceFree; repeat' first | with_reducible assumption | with_reducible apply answers_next (P := P) | extract_lets | with_reducible apply State.condStart_stable hP | with_reducible apply iff_stable (P := P) | with_reducible apply foldl_stable (P := P) | with_reducible apply foldl_stable_fst (P := P) | with_reducible apply foldl_stable_snd (P := P) | split | intro _ | dsimp +zetaDelta only []
theorem State.conditioned_stable (s : State) (n : Nat) (hm : P s) : P (State.conditioned s n) := by
  unfold State.conditioned; repeat' first | with_reducible assumption | with_reducible apply answers_next (P := P) | extract_lets | with_reducible apply State.modTile_stable hP | with_reducible apply State.bump_stable hP | with_reducible apply State.tileTo_stable hP | with_reducible apply State.cameraTile_stable hP | with_reducible apply State.recordLine_stable hP | with_reducible apply hP.modCln | with_reducible apply State.release_stable hP | with_reducible apply iff_stable (P := P) | with_reducible apply foldl_stable (P := P) | with_reducible apply foldl_stable_fst (P := P) | with_reducible apply foldl_stable_snd (P := P) | split | intro _ | dsimp +zetaDelta only []
theorem State.rsPassed_stable (s : State) (l : Nat) (me : HistLine) (hm : P s) : P (State.rsPassed s l me) := by
  unfold State.rsPassed; repeat' first | with_reducible assumption | with_reducible apply answers_next (P := P) | extract_lets | with_reducible apply hP.modCln | with_reducible apply State.bump_stable hP | with_reducible apply State.raise_stable hP | with_reducible apply State.logCount_stable hP | with_reducible apply iff_stable (P := P) | with_reducible apply foldl_stable (P := P) | with_reducible apply foldl_stable_fst (P := P) | with_reducible apply foldl_stable_snd (P := P) | split | intro _ | dsimp +zetaDelta only []
theorem State.rsMarks_stable (s : State) (t : Tile) (from_ : List HistLine) (corr : List Nat) (bad : List Nat) (hm : P s) : P (State.rsMarks s t from_ corr bad) := by
  unfold State.rsMarks; repeat' first | with_reducible assumption | with_reducible apply answers_next (P := P) | extract_lets | with_reducible apply State.modTile_stable hP | with_reducible apply iff_stable (P := P) | with_reducible apply foldl_stable (P := P) | with_reducible apply foldl_stable_fst (P := P) | with_reducible apply foldl_stable_snd (P := P) | split | intro _ | dsimp +zetaDelta only []
theorem State.rsTry_stable (s : State) (n : Nat) (corr : List Nat) (bad : List Nat) (force : Bool) (hm : P s) : P (State.rsTry s n corr bad force) := by
  unfold State.rsTry; repeat' first | with_reducible assumption | with_reducible apply answers_next (P := P) | extract_lets | with_reducible apply State.store_stable hP | with_reducible apply State.modTile_stable hP | with_reducible apply hP.bayWr | with_reducible apply hP.modCln | with_reducible apply State.conditioned_stable hP | with_reducible apply State.rsPassed_stable hP | with_reducible apply State.rsMarks_stable hP | with_reducible apply iff_stable (P := P) | with_reducible apply foldl_stable (P := P) | with_reducible apply foldl_stable_fst (P := P) | with_reducible apply foldl_stable_snd (P := P) | split | intro _ | dsimp +zetaDelta only []
theorem State.rsAll_stable (s : State) (l : Nat) (corr : List Nat) (bad : List Nat) (hm : P s) : P (State.rsAll s l corr bad) := by
  unfold State.rsAll; repeat' first | with_reducible assumption | with_reducible apply answers_next (P := P) | extract_lets | with_reducible apply State.rsTry_stable hP | with_reducible apply iff_stable (P := P) | with_reducible apply foldl_stable (P := P) | with_reducible apply foldl_stable_fst (P := P) | with_reducible apply foldl_stable_snd (P := P) | split | intro _ | dsimp +zetaDelta only []
theorem State.histAdd_stable (s : State) (t : Tile) (px : List (Option (List Nat))) (corr : List Nat) (bad : List Nat) (hm : P s) : P (State.histAdd s t px corr bad) := by
  unfold State.histAdd; repeat' first | with_reducible assumption | with_reducible apply answers_next (P := P) | extract_lets | with_reducible apply State.rsTry_stable hP | with_reducible apply hP.modCln | with_reducible apply hP.bayWr | with_reducible apply State.store_stable hP | with_reducible apply iff_stable (P := P) | with_reducible apply foldl_stable (P := P) | with_reducible apply foldl_stable_fst (P := P) | with_reducible apply foldl_stable_snd (P := P) | split | intro _ | dsimp +zetaDelta only []
theorem State.storeErrors_stable (s : State) (l : Nat) (corr : List Nat) (bad : List Nat) (hm : P s) : P (State.storeErrors s l corr bad) := by
  unfold State.storeErrors; repeat' first | with_reducible assumption | with_reducible apply answers_next (P := P) | extract_lets | with_reducible apply State.bumpBy_stable hP | with_reducible apply State.raise_stable hP | with_reducible apply State.logOnce_stable hP | with_reducible apply State.bump_stable hP | with_reducible apply State.logC_stable hP | with_reducible apply iff_stable (P := P) | with_reducible apply foldl_stable (P := P) | with_reducible apply foldl_stable_fst (P := P) | with_reducible apply foldl_stable_snd (P := P) | split | intro _ | dsimp +zetaDelta only []
theorem State.pipeMarks_stable (s : State) (t : Tile) (corr : List Nat) (bad : List Nat) (hm : P s) : P (State.pipeMarks s t corr bad) := by
  unfold State.pipeMarks; repeat' first | with_reducible assumption | with_reducible apply answers_next (P := P) | extract_lets | with_reducible apply State.modTile_stable hP | with_reducible apply iff_stable (P := P) | with_reducible apply foldl_stable (P := P) | with_reducible apply foldl_stable_fst (P := P) | with_reducible apply foldl_stable_snd (P := P) | split | intro _ | dsimp +zetaDelta only []
theorem execTileConditioned_stable (l : Fin 96) (corr : List Nat) (bad : List Nat) (s : State) (hm : P s) : Answers P (execTileConditioned l corr bad s) := by
  unfold execTileConditioned; repeat' first | with_reducible assumption | with_reducible apply answers_next (P := P) | extract_lets | with_reducible apply State.storeErrors_stable hP | with_reducible apply State.pipeMarks_stable hP | with_reducible apply State.bumpBy_stable hP | with_reducible apply State.raise_stable hP | with_reducible apply State.logOnce_stable hP | with_reducible apply hP.modCln | with_reducible apply hP.bayWr | with_reducible apply State.store_stable hP | with_reducible apply State.conditioned_stable hP | with_reducible apply State.histAdd_stable hP | with_reducible apply State.rsAll_stable hP | with_reducible apply iff_stable (P := P) | with_reducible apply foldl_stable (P := P) | with_reducible apply foldl_stable_fst (P := P) | with_reducible apply foldl_stable_snd (P := P) | split | intro _ | dsimp +zetaDelta only []
theorem execRsWaitExpiry_stable (w : RsWait) (s : State) (hm : P s) : Answers P (execRsWaitExpiry w s) := by
  unfold execRsWaitExpiry; repeat' first | with_reducible assumption | with_reducible apply answers_next (P := P) | extract_lets | with_reducible apply State.bump_stable hP | with_reducible apply State.raise_stable hP | with_reducible apply State.logOnce_stable hP | with_reducible apply State.storeErrors_stable hP | with_reducible apply State.rsTry_stable hP | with_reducible apply iff_stable (P := P) | with_reducible apply foldl_stable (P := P) | with_reducible apply foldl_stable_fst (P := P) | with_reducible apply foldl_stable_snd (P := P) | split | intro _ | dsimp +zetaDelta only []
theorem State.clearPeak_stable (s : State) (l : Nat) (hm : P s) : P (State.clearPeak s l) := by
  unfold State.clearPeak; repeat' first | with_reducible assumption | with_reducible apply answers_next (P := P) | extract_lets | with_reducible apply State.put_stable hP | with_reducible apply State.putB_stable hP | with_reducible apply iff_stable (P := P) | with_reducible apply foldl_stable (P := P) | with_reducible apply foldl_stable_fst (P := P) | with_reducible apply foldl_stable_snd (P := P) | split | intro _ | dsimp +zetaDelta only []
theorem State.askSwap_stable (s : State) (l : Nat) (hm : P s) : P (State.askSwap s l) := by
  unfold State.askSwap; repeat' first | with_reducible assumption | with_reducible apply answers_next (P := P) | extract_lets | with_reducible apply State.putB_stable hP | with_reducible apply iff_stable (P := P) | with_reducible apply foldl_stable (P := P) | with_reducible apply foldl_stable_fst (P := P) | with_reducible apply foldl_stable_snd (P := P) | split | intro _ | dsimp +zetaDelta only []
theorem State.showScarf_stable (s : State) (u : Nat) (hm : P s) : P (State.showScarf s u) := by
  unfold State.showScarf; repeat' first | with_reducible assumption | with_reducible apply answers_next (P := P) | extract_lets | with_reducible apply State.put_stable hP | with_reducible apply State.putB_stable hP | with_reducible apply iff_stable (P := P) | with_reducible apply foldl_stable (P := P) | with_reducible apply foldl_stable_fst (P := P) | with_reducible apply foldl_stable_snd (P := P) | split | intro _ | dsimp +zetaDelta only []
theorem State.handOver_stable (s : State) (u : Nat) (ts : List Nat) (hm : P s) : P (State.handOver s u ts) := by
  unfold State.handOver; repeat' first | with_reducible assumption | with_reducible apply answers_next (P := P) | extract_lets | with_reducible apply State.modTile_stable hP | with_reducible apply State.release_stable hP | with_reducible apply iff_stable (P := P) | with_reducible apply foldl_stable (P := P) | with_reducible apply foldl_stable_fst (P := P) | with_reducible apply foldl_stable_snd (P := P) | split | intro _ | dsimp +zetaDelta only []
theorem State.bentCount_stable (s : State) (u : Nat) (b : Bent) (gone : Nat) (map : Nat) (part : Bool) (hm : P s) : P (State.bentCount s u b gone map part) := by
  unfold State.bentCount; repeat' first | with_reducible assumption | with_reducible apply answers_next (P := P) | extract_lets | with_reducible apply State.bump_stable hP | with_reducible apply State.bumpBy_stable hP | with_reducible apply State.raise_stable hP | with_reducible apply State.logCount_stable hP | with_reducible apply State.logC_stable hP | with_reducible apply State.wrS_stable hP | with_reducible apply State.wrN_stable hP | with_reducible apply State.publishC_stable hP | with_reducible apply hP.modScf | with_reducible apply iff_stable (P := P) | with_reducible apply foldl_stable (P := P) | with_reducible apply foldl_stable_fst (P := P) | with_reducible apply foldl_stable_snd (P := P) | split | intro _ | dsimp +zetaDelta only []
theorem State.bentReady_stable (s : State) (u : Nat) (st : Nat) (tag : TagInfo) (map : Nat) (acc : Nat) (tiles : List Nat) (data : List Byte) (hm : P s) : P (State.bentReady s u st tag map acc tiles data) := by
  unfold State.bentReady; repeat' first | with_reducible assumption | with_reducible apply answers_next (P := P) | extract_lets | with_reducible apply State.record_stable hP | with_reducible apply State.checkLen_stable hP | with_reducible apply State.ready_stable hP | with_reducible apply iff_stable (P := P) | with_reducible apply foldl_stable (P := P) | with_reducible apply foldl_stable_fst (P := P) | with_reducible apply foldl_stable_snd (P := P) | split | intro _ | dsimp +zetaDelta only []
theorem State.emitBent_stable (s : State) (u : Nat) (b : Bent) (hm : P s) : P (State.emitBent s u b) := by
  unfold State.emitBent; repeat' first | with_reducible assumption | with_reducible apply answers_next (P := P) | extract_lets | with_reducible apply State.tileTo_stable hP | with_reducible apply State.bentCount_stable hP | with_reducible apply State.handOver_stable hP | with_reducible apply State.showScarf_stable hP | with_reducible apply State.bentReady_stable hP | with_reducible apply iff_stable (P := P) | with_reducible apply foldl_stable (P := P) | with_reducible apply foldl_stable_fst (P := P) | with_reducible apply foldl_stable_snd (P := P) | split | intro _ | dsimp +zetaDelta only []
theorem State.closeBent_stable (s : State) (u : Nat) (num : Nat) (cause : Nat) (hm : P s) : P (State.closeBent s u num cause) := by
  unfold State.closeBent; repeat' first | with_reducible assumption | with_reducible apply answers_next (P := P) | extract_lets | with_reducible apply State.wrS_stable hP | with_reducible apply hP.modScf | with_reducible apply State.showScarf_stable hP | with_reducible apply State.emitBent_stable hP | with_reducible apply iff_stable (P := P) | with_reducible apply foldl_stable (P := P) | with_reducible apply foldl_stable_fst (P := P) | with_reducible apply foldl_stable_snd (P := P) | split | intro _ | dsimp +zetaDelta only []
theorem State.settleBents_stable (s : State) (u : Nat) (hm : P s) : P (State.settleBents s u) := by
  unfold State.settleBents; repeat' first | with_reducible assumption | with_reducible apply answers_next (P := P) | extract_lets | with_reducible apply State.emitBent_stable hP | with_reducible apply State.closeBent_stable hP | with_reducible apply iff_stable (P := P) | with_reducible apply foldl_stable (P := P) | with_reducible apply foldl_stable_fst (P := P) | with_reducible apply foldl_stable_snd (P := P) | split | intro _ | dsimp +zetaDelta only []
theorem State.straggler_stable (s : State) (u : Nat) (k : Nat) (n : Nat) (hm : P s) : P (State.straggler s u k n) := by
  unfold State.straggler; repeat' first | with_reducible assumption | with_reducible apply answers_next (P := P) | extract_lets | with_reducible apply State.tileTo_stable hP | with_reducible apply State.bump_stable hP | with_reducible apply State.raise_stable hP | with_reducible apply State.logCount_stable hP | with_reducible apply State.handOver_stable hP | with_reducible apply State.checkLen_stable hP | with_reducible apply State.ready_stable hP | with_reducible apply iff_stable (P := P) | with_reducible apply foldl_stable (P := P) | with_reducible apply foldl_stable_fst (P := P) | with_reducible apply foldl_stable_snd (P := P) | split | intro _ | dsimp +zetaDelta only []
theorem State.forceOut_stable (s : State) (u : Nat) (b : Bent) (hm : P s) : P (State.forceOut s u b) := by
  unfold State.forceOut; repeat' first | with_reducible assumption | with_reducible apply answers_next (P := P) | extract_lets | with_reducible apply State.bump_stable hP | with_reducible apply State.raise_stable hP | with_reducible apply State.logC_stable hP | with_reducible apply State.closeBent_stable hP | with_reducible apply iff_stable (P := P) | with_reducible apply foldl_stable (P := P) | with_reducible apply foldl_stable_fst (P := P) | with_reducible apply foldl_stable_snd (P := P) | split | intro _ | dsimp +zetaDelta only []
theorem State.openIn_stable (s : State) (u : Nat) (line : Int) (i : Nat) (hm : P s) : P (State.openIn s u line i) := by
  unfold State.openIn; repeat' first | with_reducible assumption | with_reducible apply answers_next (P := P) | extract_lets | with_reducible apply hP.modScf | with_reducible apply State.showScarf_stable hP | with_reducible apply iff_stable (P := P) | with_reducible apply foldl_stable (P := P) | with_reducible apply foldl_stable_fst (P := P) | with_reducible apply foldl_stable_snd (P := P) | split | intro _ | dsimp +zetaDelta only []
theorem State.openBent_stable (s : State) (u : Nat) (line : Int) (hm : P s) : P (State.openBent s u line) := by
  unfold State.openBent; repeat' first | with_reducible assumption | with_reducible apply answers_next (P := P) | extract_lets | with_reducible apply State.openIn_stable hP | with_reducible apply State.forceOut_stable hP | with_reducible apply iff_stable (P := P) | with_reducible apply foldl_stable (P := P) | with_reducible apply foldl_stable_fst (P := P) | with_reducible apply foldl_stable_snd (P := P) | split | intro _ | dsimp +zetaDelta only []
theorem State.delivered_stable (s : State) (u : Nat) (l : Nat) (line : Int) (hm : P s) : P (State.delivered s u l line) := by
  unfold State.delivered; repeat' first | with_reducible assumption | with_reducible apply answers_next (P := P) | extract_lets | with_reducible apply hP.modScf | with_reducible apply iff_stable (P := P) | with_reducible apply foldl_stable (P := P) | with_reducible apply foldl_stable_fst (P := P) | with_reducible apply foldl_stable_snd (P := P) | split | intro _ | dsimp +zetaDelta only []
theorem State.burstJoin_stable (s : State) (u : Nat) (k : Nat) (t : Tile) (hm : P s) : P (State.burstJoin s u k t) := by
  unfold State.burstJoin; repeat' first | with_reducible assumption | with_reducible apply answers_next (P := P) | extract_lets | with_reducible apply State.openBent_stable hP | with_reducible apply hP.modScf | with_reducible apply iff_stable (P := P) | with_reducible apply foldl_stable (P := P) | with_reducible apply foldl_stable_fst (P := P) | with_reducible apply foldl_stable_snd (P := P) | split | intro _ | dsimp +zetaDelta only []
theorem State.burstErrors_stable (s : State) (u : Nat) (n : Nat) (corr : Bool) (bad : List Nat) (hm : P s) : P (State.burstErrors s u n corr bad) := by
  unfold State.burstErrors; repeat' first | with_reducible assumption | with_reducible apply answers_next (P := P) | extract_lets | with_reducible apply State.bump_stable hP | with_reducible apply hP.modScf | with_reducible apply iff_stable (P := P) | with_reducible apply foldl_stable (P := P) | with_reducible apply foldl_stable_fst (P := P) | with_reducible apply foldl_stable_snd (P := P) | split | intro _ | dsimp +zetaDelta only []
theorem State.burstDone_stable (s : State) (u : Nat) (n : Nat) (vs : List Nat) (hm : P s) : P (State.burstDone s u n vs) := by
  unfold State.burstDone; repeat' first | with_reducible assumption | with_reducible apply answers_next (P := P) | extract_lets | with_reducible apply hP.modScf | with_reducible apply State.done_stable (P := P) | with_reducible apply iff_stable (P := P) | with_reducible apply foldl_stable (P := P) | with_reducible apply foldl_stable_fst (P := P) | with_reducible apply foldl_stable_snd (P := P) | split | intro _ | dsimp +zetaDelta only []
theorem State.burstLast_stable (s : State) (u : Nat) (k : Nat) (n : Nat) (t : Tile) (hm : P s) : P (State.burstLast s u k n t) := by
  unfold State.burstLast; repeat' first | with_reducible assumption | with_reducible apply answers_next (P := P) | extract_lets | with_reducible apply State.delivered_stable hP | with_reducible apply hP.modScf | with_reducible apply State.straggler_stable hP | with_reducible apply State.burstDone_stable hP | with_reducible apply iff_stable (P := P) | with_reducible apply foldl_stable (P := P) | with_reducible apply foldl_stable_fst (P := P) | with_reducible apply foldl_stable_snd (P := P) | split | intro _ | dsimp +zetaDelta only []
theorem execSegmentBurstArrive_stable (u : Fin 16) (n : Nat) (last : Bool) (corr : Bool) (bad : List Nat) (s : State) (hm : P s) : Answers P (execSegmentBurstArrive u n last corr bad s) := by
  unfold execSegmentBurstArrive; repeat' first | with_reducible assumption | with_reducible apply answers_next (P := P) | extract_lets | with_reducible apply State.release_stable hP | with_reducible apply State.burstJoin_stable hP | with_reducible apply State.burstErrors_stable hP | with_reducible apply State.burstLast_stable hP | with_reducible apply State.settleBents_stable hP | with_reducible apply iff_stable (P := P) | with_reducible apply foldl_stable (P := P) | with_reducible apply foldl_stable_fst (P := P) | with_reducible apply foldl_stable_snd (P := P) | split | intro _ | dsimp +zetaDelta only []
theorem execBentDeadline_stable (u : Fin 16) (line : Int) (s : State) (hm : P s) : Answers P (execBentDeadline u line s) := by
  unfold execBentDeadline; repeat' first | with_reducible assumption | with_reducible apply answers_next (P := P) | extract_lets | with_reducible apply State.closeBent_stable hP | with_reducible apply iff_stable (P := P) | with_reducible apply foldl_stable (P := P) | with_reducible apply foldl_stable_fst (P := P) | with_reducible apply foldl_stable_snd (P := P) | split | intro _ | dsimp +zetaDelta only []
theorem State.stitchOn_stable (s : State) (u : Nat) (hm : P s) : P (State.stitchOn s u) := by
  unfold State.stitchOn; repeat' first | with_reducible assumption | with_reducible apply answers_next (P := P) | extract_lets | with_reducible apply State.putB_stable hP | with_reducible apply State.wrS_stable hP | with_reducible apply hP.modScf | with_reducible apply State.showScarf_stable hP | with_reducible apply iff_stable (P := P) | with_reducible apply foldl_stable (P := P) | with_reducible apply foldl_stable_fst (P := P) | with_reducible apply foldl_stable_snd (P := P) | split | intro _ | dsimp +zetaDelta only []
theorem State.stitchOff_stable (s : State) (u : Nat) (hm : P s) : P (State.stitchOff s u) := by
  unfold State.stitchOff; repeat' first | with_reducible assumption | with_reducible apply answers_next (P := P) | extract_lets | with_reducible apply State.putB_stable hP | with_reducible apply State.closeBent_stable hP | with_reducible apply State.showScarf_stable hP | with_reducible apply iff_stable (P := P) | with_reducible apply foldl_stable (P := P) | with_reducible apply foldl_stable_fst (P := P) | with_reducible apply foldl_stable_snd (P := P) | split | intro _ | dsimp +zetaDelta only []
theorem State.kerfPass_stable (s : State) (l : Nat) (ts : List Tile) (hm : P s) : P (State.kerfPass s l ts) := by
  unfold State.kerfPass; repeat' first | with_reducible assumption | with_reducible apply answers_next (P := P) | extract_lets | with_reducible apply State.modTile_stable hP | with_reducible apply State.release_stable hP | with_reducible apply iff_stable (P := P) | with_reducible apply foldl_stable (P := P) | with_reducible apply foldl_stable_fst (P := P) | with_reducible apply foldl_stable_snd (P := P) | split | intro _ | dsimp +zetaDelta only []
theorem State.kerfHold_stable (s : State) (l : Nat) (t : Tile) (ts : List Tile) (hm : P s) : P (State.kerfHold s l t ts) := by
  unfold State.kerfHold; repeat' first | with_reducible assumption | with_reducible apply answers_next (P := P) | extract_lets | with_reducible apply State.arbAsk_stable hP | with_reducible apply hP.ddrWr | with_reducible apply hP.modKrf | with_reducible apply State.modTile_stable hP | with_reducible apply iff_stable (P := P) | with_reducible apply foldl_stable (P := P) | with_reducible apply foldl_stable_fst (P := P) | with_reducible apply foldl_stable_snd (P := P) | split | intro _ | dsimp +zetaDelta only []
theorem State.kerfFull_stable (s : State) (l : Nat) (hm : P s) : P (State.kerfFull s l) := by
  unfold State.kerfFull; repeat' first | with_reducible assumption | with_reducible apply answers_next (P := P) | extract_lets | with_reducible apply State.kerfRelease_stable hP | with_reducible apply State.bump_stable hP | with_reducible apply State.logOnce_stable hP | with_reducible apply iff_stable (P := P) | with_reducible apply foldl_stable (P := P) | with_reducible apply foldl_stable_fst (P := P) | with_reducible apply foldl_stable_snd (P := P) | split | intro _ | dsimp +zetaDelta only []
theorem execKerfLineWrite_stable (l : Fin 96) (s : State) (hm : P s) : Answers P (execKerfLineWrite l s) := by
  unfold execKerfLineWrite; repeat' first | with_reducible assumption | with_reducible apply answers_next (P := P) | extract_lets | with_reducible apply State.kerfPass_stable hP | with_reducible apply State.kerfFull_stable hP | with_reducible apply State.kerfHold_stable hP | with_reducible apply State.kerfRelease_stable hP | with_reducible apply iff_stable (P := P) | with_reducible apply foldl_stable (P := P) | with_reducible apply foldl_stable_fst (P := P) | with_reducible apply foldl_stable_snd (P := P) | split | intro _ | dsimp +zetaDelta only []
theorem execKerfMaxExpiry_stable (l : Fin 96) (s : State) (hm : P s) : Answers P (execKerfMaxExpiry l s) := by
  unfold execKerfMaxExpiry; repeat' first | with_reducible assumption | with_reducible apply answers_next (P := P) | extract_lets | with_reducible apply State.kerfRelease_stable hP | with_reducible apply State.bump_stable hP | with_reducible apply State.logOnce_stable hP | with_reducible apply iff_stable (P := P) | with_reducible apply foldl_stable (P := P) | with_reducible apply foldl_stable_fst (P := P) | with_reducible apply foldl_stable_snd (P := P) | split | intro _ | dsimp +zetaDelta only []
theorem State.kerfTile_stable (s : State) (l : Nat) (at_ : Nat) (o : Nat) (dead : Bool) (corr : Bool) (bad : List Nat) (n : Nat) (hm : P s) : P (State.kerfTile s l at_ o dead corr bad n).1 := by
  unfold State.kerfTile; repeat' first | with_reducible assumption | with_reducible apply answers_next (P := P) | extract_lets | with_reducible apply State.modTile_stable hP | with_reducible apply State.release_stable hP | with_reducible apply iff_stable (P := P) | with_reducible apply foldl_stable (P := P) | with_reducible apply foldl_stable_fst (P := P) | with_reducible apply foldl_stable_snd (P := P) | split | intro _ | dsimp +zetaDelta only []
theorem execKerfReadbackDone_stable (l : Fin 96) (corr : Bool) (bad : List Nat) (s : State) (hm : P s) : Answers P (execKerfReadbackDone l corr bad s) := by
  unfold execKerfReadbackDone; repeat' first | with_reducible assumption | with_reducible apply answers_next (P := P) | extract_lets | with_reducible apply hP.modKrf | with_reducible apply State.kerfTile_stable hP | with_reducible apply iff_stable (P := P) | with_reducible apply foldl_stable (P := P) | with_reducible apply foldl_stable_fst (P := P) | with_reducible apply foldl_stable_snd (P := P) | split | intro _ | dsimp +zetaDelta only []
theorem State.romBuild_stable (s : State) (hm : P s) : P (State.romBuild s) := by
  unfold State.romBuild; repeat' first | with_reducible assumption | with_reducible apply answers_next (P := P) | extract_lets | with_reducible apply hP.modMc | (intro _; rfl) | with_reducible apply iff_stable (P := P) | with_reducible apply foldl_stable (P := P) | with_reducible apply foldl_stable_fst (P := P) | with_reducible apply foldl_stable_snd (P := P) | split | intro _ | dsimp +zetaDelta only []
theorem State.showCap_stable (s : State) (hm : P s) : P (State.showCap s) := by
  unfold State.showCap; repeat' first | with_reducible assumption | with_reducible apply answers_next (P := P) | extract_lets | with_reducible apply State.put_stable hP | with_reducible apply iff_stable (P := P) | with_reducible apply foldl_stable (P := P) | with_reducible apply foldl_stable_fst (P := P) | with_reducible apply foldl_stable_snd (P := P) | split | intro _ | dsimp +zetaDelta only []
theorem State.romUpdate_stable (s : State) (hm : P s) : P (State.romUpdate s) := by
  unfold State.romUpdate; repeat' first | with_reducible assumption | with_reducible apply answers_next (P := P) | extract_lets | with_reducible apply State.showCap_stable hP | with_reducible apply State.romBuild_stable hP | with_reducible apply iff_stable (P := P) | with_reducible apply foldl_stable (P := P) | with_reducible apply foldl_stable_fst (P := P) | with_reducible apply foldl_stable_snd (P := P) | split | intro _ | dsimp +zetaDelta only []
theorem State.showEng_stable (s : State) (e : Nat) (hm : P s) : P (State.showEng s e) := by
  unfold State.showEng; repeat' first | with_reducible assumption | with_reducible apply answers_next (P := P) | extract_lets | with_reducible apply State.put_stable hP | with_reducible apply iff_stable (P := P) | with_reducible apply foldl_stable (P := P) | with_reducible apply foldl_stable_fst (P := P) | with_reducible apply foldl_stable_snd (P := P) | split | intro _ | dsimp +zetaDelta only []
theorem State.engLost_stable (s : State) (e : Nat) (hm : P s) : P (State.engLost s e) := by
  unfold State.engLost; repeat' first | with_reducible assumption | with_reducible apply answers_next (P := P) | extract_lets | with_reducible apply State.bump_stable hP | with_reducible apply State.raise_stable hP | with_reducible apply State.logCount_stable hP | with_reducible apply iff_stable (P := P) | with_reducible apply foldl_stable (P := P) | with_reducible apply foldl_stable_fst (P := P) | with_reducible apply foldl_stable_snd (P := P) | split | intro _ | dsimp +zetaDelta only []
theorem State.engEvent_stable (s : State) (e : Nat) (i : Nat) (hop : Nat) (sources : Nat) (value : Nat) (from_ : Nat) (hm : P s) : P (State.engEvent s e i hop sources value from_) := by
  unfold State.engEvent; repeat' first | with_reducible assumption | with_reducible apply answers_next (P := P) | extract_lets | with_reducible apply State.bump_stable hP | with_reducible apply hP.modEng | with_reducible apply State.engLost_stable hP | with_reducible apply State.showEng_stable hP | with_reducible apply iff_stable (P := P) | with_reducible apply foldl_stable (P := P) | with_reducible apply foldl_stable_fst (P := P) | with_reducible apply foldl_stable_snd (P := P) | split | intro _ | dsimp +zetaDelta only []
theorem State.raiseSig_stable (s : State) (k : Nat) (hop : Nat) (hm : P s) : P (State.raiseSig s k hop) := by
  unfold State.raiseSig; repeat' first | with_reducible assumption | with_reducible apply answers_next (P := P) | extract_lets | with_reducible apply hP.setSigs | with_reducible apply iff_stable (P := P) | with_reducible apply foldl_stable (P := P) | with_reducible apply foldl_stable_fst (P := P) | with_reducible apply foldl_stable_snd (P := P) | split | intro _ | dsimp +zetaDelta only []
theorem State.fireSigs_stable (s : State) (hm : P s) : P (State.fireSigs s) := by
  unfold State.fireSigs; repeat' first | with_reducible assumption | with_reducible apply answers_next (P := P) | extract_lets | with_reducible apply State.produce_stable hP | with_reducible apply hP.setSigs | with_reducible apply iff_stable (P := P) | with_reducible apply foldl_stable (P := P) | with_reducible apply foldl_stable_fst (P := P) | with_reducible apply foldl_stable_snd (P := P) | split | intro _ | dsimp +zetaDelta only []
theorem State.nextCycle_stable (s : State) (hm : P s) : P (State.nextCycle s) := by
  unfold State.nextCycle; repeat' first | with_reducible assumption | with_reducible apply answers_next (P := P) | extract_lets | with_reducible apply State.fireSigs_stable hP | with_reducible apply hP.cycleUp | with_reducible apply iff_stable (P := P) | with_reducible apply foldl_stable (P := P) | with_reducible apply foldl_stable_fst (P := P) | with_reducible apply foldl_stable_snd (P := P) | split | intro _ | dsimp +zetaDelta only []
theorem State.engCycle_stable (s : State) (same : Bool) (hm : P s) : P (State.engCycle s same) := by
  unfold State.engCycle; repeat' first | with_reducible assumption | with_reducible apply answers_next (P := P) | extract_lets | with_reducible apply State.nextCycle_stable hP | with_reducible apply iff_stable (P := P) | with_reducible apply foldl_stable (P := P) | with_reducible apply foldl_stable_fst (P := P) | with_reducible apply foldl_stable_snd (P := P) | split | intro _ | dsimp +zetaDelta only []
theorem State.taskLine_stable (s : State) (j : Nat) (hop : Nat) (same : Bool) (hm : P s) : P (State.taskLine s j hop same) := by
  unfold State.taskLine; repeat' first | with_reducible assumption | with_reducible apply answers_next (P := P) | extract_lets | with_reducible apply State.engEvent_stable hP | with_reducible apply State.engCycle_stable hP | with_reducible apply iff_stable (P := P) | with_reducible apply foldl_stable (P := P) | with_reducible apply foldl_stable_fst (P := P) | with_reducible apply foldl_stable_snd (P := P) | split | intro _ | dsimp +zetaDelta only []
theorem State.engRelease_stable (s : State) (e : Nat) (n : Nat) (hm : P s) : P (State.engRelease s e n) := by
  unfold State.engRelease; repeat' first | with_reducible assumption | with_reducible apply answers_next (P := P) | extract_lets | with_reducible apply State.release_stable hP | with_reducible apply iff_stable (P := P) | with_reducible apply foldl_stable (P := P) | with_reducible apply foldl_stable_fst (P := P) | with_reducible apply foldl_stable_snd (P := P) | split | intro _ | dsimp +zetaDelta only []
theorem State.taskEnd_stable (s : State) (e : Nat) (hm : P s) : P (State.taskEnd s e) := by
  unfold State.taskEnd; repeat' first | with_reducible assumption | with_reducible apply answers_next (P := P) | extract_lets | with_reducible apply hP.modEng | with_reducible apply State.put_stable hP | with_reducible apply State.engRelease_stable hP | with_reducible apply State.showEng_stable hP | with_reducible apply iff_stable (P := P) | with_reducible apply foldl_stable (P := P) | with_reducible apply foldl_stable_fst (P := P) | with_reducible apply foldl_stable_snd (P := P) | split | intro _ | dsimp +zetaDelta only []
theorem State.flushQueues_stable (s : State) (e : Nat) (hm : P s) : P (State.flushQueues s e) := by
  unfold State.flushQueues; repeat' first | with_reducible assumption | with_reducible apply answers_next (P := P) | extract_lets | with_reducible apply State.bumpBy_stable hP | with_reducible apply hP.modEng | with_reducible apply State.engRelease_stable hP | with_reducible apply State.showEng_stable hP | with_reducible apply iff_stable (P := P) | with_reducible apply foldl_stable (P := P) | with_reducible apply foldl_stable_fst (P := P) | with_reducible apply foldl_stable_snd (P := P) | split | intro _ | dsimp +zetaDelta only []
theorem State.quarantine_stable (s : State) (e : Nat) (cause : Nat) (hm : P s) : P (State.quarantine s e cause) := by
  unfold State.quarantine; repeat' first | with_reducible assumption | with_reducible apply answers_next (P := P) | extract_lets | with_reducible apply State.put_stable hP | with_reducible apply State.raise_stable hP | with_reducible apply State.logC_stable hP | with_reducible apply State.flushQueues_stable hP | with_reducible apply State.romUpdate_stable hP | with_reducible apply iff_stable (P := P) | with_reducible apply foldl_stable (P := P) | with_reducible apply foldl_stable_fst (P := P) | with_reducible apply foldl_stable_snd (P := P) | split | intro _ | dsimp +zetaDelta only []
theorem State.emitOut_stable (s : State) (e : Nat) (o : EngOut) (len : Nat) (ref_ : Option Tile) (status : Nat) (hm : P s) : P (State.emitOut s e o len ref_ status) := by
  unfold State.emitOut; repeat' first | with_reducible assumption | with_reducible apply answers_next (P := P) | extract_lets | with_reducible apply State.modTile_stable hP | with_reducible apply hP.modEng | with_reducible apply State.bump_stable hP | with_reducible apply State.showEng_stable hP | with_reducible apply State.ready_stable hP | with_reducible apply iff_stable (P := P) | with_reducible apply foldl_stable (P := P) | with_reducible apply foldl_stable_fst (P := P) | with_reducible apply foldl_stable_snd (P := P) | split | intro _ | dsimp +zetaDelta only []
theorem State.engFault_stable (s : State) (e : Nat) (code : Nat) (addr : Nat) (imem : Bool) (hm : P s) : P (State.engFault s e code addr imem) := by
  unfold State.engFault; repeat' first | with_reducible assumption | with_reducible apply answers_next (P := P) | extract_lets | with_reducible apply State.wrN_stable hP | with_reducible apply State.publishC_stable hP | with_reducible apply State.bump_stable hP | with_reducible apply State.raise_stable hP | with_reducible apply State.logLim_stable hP | with_reducible apply State.abortTile_stable hP | with_reducible apply State.emitOut_stable hP | with_reducible apply hP.modEng | with_reducible apply State.taskEnd_stable hP | with_reducible apply State.engRelease_stable hP | with_reducible apply State.showEng_stable hP | with_reducible apply State.quarantine_stable hP | with_reducible apply iff_stable (P := P) | with_reducible apply foldl_stable (P := P) | with_reducible apply foldl_stable_fst (P := P) | with_reducible apply foldl_stable_snd (P := P) | split | intro _ | dsimp +zetaDelta only []
theorem execTileDeal_stable (l : Fin 96) (s : State) (hm : P s) : Answers P (execTileDeal l s) := by
  unfold execTileDeal; repeat' first | with_reducible assumption | with_reducible apply answers_next (P := P) | extract_lets | with_reducible apply hP.modCln | with_reducible apply State.release_stable hP | with_reducible apply State.bump_stable hP | with_reducible apply State.modTile_stable hP | with_reducible apply hP.modEng | with_reducible apply State.showEng_stable hP | with_reducible apply iff_stable (P := P) | with_reducible apply foldl_stable (P := P) | with_reducible apply foldl_stable_fst (P := P) | with_reducible apply foldl_stable_snd (P := P) | split | intro _ | dsimp +zetaDelta only []
theorem execTaskStart_stable (e : Fin 192) (s : State) (hm : P s) : Answers P (execTaskStart e s) := by
  unfold execTaskStart; repeat' first | with_reducible assumption | with_reducible apply answers_next (P := P) | extract_lets | with_reducible apply hP.modEng | with_reducible apply State.put_stable hP | with_reducible apply State.bump_stable hP | with_reducible apply State.showEng_stable hP | with_reducible apply iff_stable (P := P) | with_reducible apply foldl_stable (P := P) | with_reducible apply foldl_stable_fst (P := P) | with_reducible apply foldl_stable_snd (P := P) | split | intro _ | dsimp +zetaDelta only []
theorem execTaskBudgetExpiry_stable (e : Fin 192) (s : State) (hm : P s) : Answers P (execTaskBudgetExpiry e s) := by
  unfold execTaskBudgetExpiry; repeat' first | with_reducible assumption | with_reducible apply answers_next (P := P) | extract_lets | with_reducible apply hP.modEng | with_reducible apply State.wr64_stable hP | with_reducible apply State.engFault_stable hP | with_reducible apply iff_stable (P := P) | with_reducible apply foldl_stable (P := P) | with_reducible apply foldl_stable_fst (P := P) | with_reducible apply foldl_stable_snd (P := P) | split | intro _ | dsimp +zetaDelta only []
theorem State.faultWindow_stable (s : State) (t : Nat) (hm : P s) : P (State.faultWindow s t) := by
  unfold State.faultWindow; repeat' first | with_reducible assumption | with_reducible apply answers_next (P := P) | extract_lets | with_reducible apply hP.modEng | with_reducible apply hP.setFaultFrom | with_reducible apply iff_stable (P := P) | with_reducible apply foldl_stable (P := P) | with_reducible apply foldl_stable_fst (P := P) | with_reducible apply foldl_stable_snd (P := P) | split | intro _ | dsimp +zetaDelta only []
theorem execFaultWindowEnd_stable (s : State) (hm : P s) : Answers P (execFaultWindowEnd s) := by
  unfold execFaultWindowEnd; repeat' first | with_reducible assumption | with_reducible apply answers_next (P := P) | extract_lets | with_reducible apply State.faultWindow_stable hP | with_reducible apply iff_stable (P := P) | with_reducible apply foldl_stable (P := P) | with_reducible apply foldl_stable_fst (P := P) | with_reducible apply foldl_stable_snd (P := P) | split | intro _ | dsimp +zetaDelta only []
theorem State.dmaLook_stable (s : State) (b : Nat) (c : Nat) (hm : P s) : P (State.dmaLook s b c) := by
  unfold State.dmaLook; repeat' first | with_reducible assumption | with_reducible apply answers_next (P := P) | extract_lets | with_reducible apply State.put_stable hP | with_reducible apply hP.modDch | with_reducible apply iff_stable (P := P) | with_reducible apply foldl_stable (P := P) | with_reducible apply foldl_stable_fst (P := P) | with_reducible apply foldl_stable_snd (P := P) | split | intro _ | dsimp +zetaDelta only []
theorem State.dmaKick_stable (s : State) (b : Nat) (c : Nat) (hop : Nat) (hm : P s) : P (State.dmaKick s b c hop) := by
  unfold State.dmaKick; repeat' first | with_reducible assumption | with_reducible apply answers_next (P := P) | extract_lets | with_reducible apply hP.modDch | with_reducible apply State.dmaLook_stable hP | with_reducible apply iff_stable (P := P) | with_reducible apply foldl_stable (P := P) | with_reducible apply foldl_stable_fst (P := P) | with_reducible apply foldl_stable_snd (P := P) | split | intro _ | dsimp +zetaDelta only []
theorem State.dmaStep_stable (s : State) (b : Nat) (c : Nat) (hm : P s) : P (State.dmaStep s b c) := by
  unfold State.dmaStep; repeat' first | with_reducible assumption | with_reducible apply answers_next (P := P) | extract_lets | with_reducible apply State.put_stable hP | with_reducible apply iff_stable (P := P) | with_reducible apply foldl_stable (P := P) | with_reducible apply foldl_stable_fst (P := P) | with_reducible apply foldl_stable_snd (P := P) | split | intro _ | dsimp +zetaDelta only []
theorem State.dmaGo_stable (s : State) (b : Nat) (c : Nat) (hm : P s) : P (State.dmaGo s b c) := by
  unfold State.dmaGo; repeat' first | with_reducible assumption | with_reducible apply answers_next (P := P) | extract_lets | with_reducible apply State.dmaLook_stable hP | with_reducible apply State.dmaStep_stable hP | with_reducible apply iff_stable (P := P) | with_reducible apply foldl_stable (P := P) | with_reducible apply foldl_stable_fst (P := P) | with_reducible apply foldl_stable_snd (P := P) | split | intro _ | dsimp +zetaDelta only []
theorem State.dmaStatus_stable (s : State) (b : Nat) (c : Nat) (st : Nat) (hm : P s) : P (State.dmaStatus s b c st) := by
  unfold State.dmaStatus; repeat' first | with_reducible assumption | with_reducible apply answers_next (P := P) | extract_lets | with_reducible apply hP.bayWr | with_reducible apply iff_stable (P := P) | with_reducible apply foldl_stable (P := P) | with_reducible apply foldl_stable_fst (P := P) | with_reducible apply foldl_stable_snd (P := P) | split | intro _ | dsimp +zetaDelta only []
theorem execDmaDescriptorStart_stable (b : Fin 24) (c : Fin 8) (s : State) (hm : P s) : Answers P (execDmaDescriptorStart b c s) := by
  unfold execDmaDescriptorStart; repeat' first | with_reducible assumption | with_reducible apply answers_next (P := P) | extract_lets | with_reducible apply State.arbAsk_stable hP | with_reducible apply hP.modDch | with_reducible apply State.dmaStatus_stable hP | with_reducible apply State.put_stable hP | with_reducible apply State.bump_stable hP | with_reducible apply State.logC_stable hP | with_reducible apply iff_stable (P := P) | with_reducible apply foldl_stable (P := P) | with_reducible apply foldl_stable_fst (P := P) | with_reducible apply foldl_stable_snd (P := P) | split | intro _ | dsimp +zetaDelta only []
theorem State.dmaWrite_stable (s : State) (b : Nat) (a : Nat) (l : List Byte) (bad : List Nat) (hm : P s) : P (State.dmaWrite s b a l bad) := by
  unfold State.dmaWrite; repeat' first | with_reducible assumption | with_reducible apply answers_next (P := P) | extract_lets | with_reducible apply hP.ddrWr | with_reducible apply State.ddrMerge_stable hP | with_reducible apply hP.bayWr | with_reducible apply hP.dmemWr | with_reducible apply iff_stable (P := P) | with_reducible apply foldl_stable (P := P) | with_reducible apply foldl_stable_fst (P := P) | with_reducible apply foldl_stable_snd (P := P) | split | intro _ | dsimp +zetaDelta only []
theorem State.dmaNotify_stable (s : State) (b : Nat) (c : Nat) (eng : Nat) (same : Bool) (hm : P s) : P (State.dmaNotify s b c eng same) := by
  unfold State.dmaNotify; repeat' first | with_reducible assumption | with_reducible apply answers_next (P := P) | extract_lets | with_reducible apply State.engEvent_stable hP | with_reducible apply State.engCycle_stable hP | with_reducible apply iff_stable (P := P) | with_reducible apply foldl_stable (P := P) | with_reducible apply foldl_stable_fst (P := P) | with_reducible apply foldl_stable_snd (P := P) | split | intro _ | dsimp +zetaDelta only []
theorem State.dmaDone_stable (s : State) (b : Nat) (c : Nat) (st : Nat) (same : Bool) (hm : P s) : P (State.dmaDone s b c st same) := by
  unfold State.dmaDone; repeat' first | with_reducible assumption | with_reducible apply answers_next (P := P) | extract_lets | with_reducible apply State.dmaStatus_stable hP | with_reducible apply State.bump_stable hP | with_reducible apply State.dmaStep_stable hP | with_reducible apply hP.modDch | with_reducible apply State.dmaNotify_stable hP | with_reducible apply State.dmaLook_stable hP | with_reducible apply iff_stable (P := P) | with_reducible apply foldl_stable (P := P) | with_reducible apply foldl_stable_fst (P := P) | with_reducible apply foldl_stable_snd (P := P) | split | intro _ | dsimp +zetaDelta only []
theorem execDmaTransferDone_stable (b : Fin 24) (c : Fin 8) (corr : Bool) (bad : List Nat) (same : Bool) (s : State) (hm : P s) : Answers P (execDmaTransferDone b c corr bad same s) := by
  unfold execDmaTransferDone; repeat' first | with_reducible assumption | with_reducible apply answers_next (P := P) | extract_lets | with_reducible apply State.dmaWrite_stable hP | with_reducible apply State.logC_stable hP | with_reducible apply State.dmaDone_stable hP | with_reducible apply iff_stable (P := P) | with_reducible apply foldl_stable (P := P) | with_reducible apply foldl_stable_fst (P := P) | with_reducible apply foldl_stable_snd (P := P) | split | intro _ | dsimp +zetaDelta only []
theorem State.engStore_stable (s : State) (e : Nat) (a : Nat) (l : List Byte) (hm : P s) : P (State.engStore s e a l) := by
  unfold State.engStore; repeat' first | with_reducible assumption | with_reducible apply answers_next (P := P) | extract_lets | with_reducible apply hP.dmemWr | with_reducible apply hP.bayWr | with_reducible apply iff_stable (P := P) | with_reducible apply foldl_stable (P := P) | with_reducible apply foldl_stable_fst (P := P) | with_reducible apply foldl_stable_snd (P := P) | split | intro _ | dsimp +zetaDelta only []
theorem State.storeOf_stable (s : State) (e : Nat) (x : Engine) (w : Nat) (hm : P s) : P (State.storeOf s e x w) := by
  unfold State.storeOf; repeat' first | with_reducible assumption | with_reducible apply answers_next (P := P) | extract_lets | with_reducible apply State.engStore_stable hP | with_reducible apply iff_stable (P := P) | with_reducible apply foldl_stable (P := P) | with_reducible apply foldl_stable_fst (P := P) | with_reducible apply foldl_stable_snd (P := P) | split | intro _ | dsimp +zetaDelta only []
theorem State.sysPost_stable (s : State) (e : Nat) (x : Engine) (w : Nat) (hm : P s) : P (State.sysPost s e x w) := by
  unfold State.sysPost; repeat' first | with_reducible assumption | with_reducible apply answers_next (P := P) | extract_lets | with_reducible apply State.bump_stable hP | with_reducible apply State.logOnce_stable hP | with_reducible apply State.engEvent_stable hP | with_reducible apply State.raise_stable hP | with_reducible apply iff_stable (P := P) | with_reducible apply foldl_stable (P := P) | with_reducible apply foldl_stable_fst (P := P) | with_reducible apply foldl_stable_snd (P := P) | split | intro _ | dsimp +zetaDelta only []
theorem State.sysSig_stable (s : State) (x : Engine) (w : Nat) (hm : P s) : P (State.sysSig s x w) := by
  unfold State.sysSig; repeat' first | with_reducible assumption | with_reducible apply answers_next (P := P) | extract_lets | with_reducible apply State.raiseSig_stable hP | with_reducible apply iff_stable (P := P) | with_reducible apply foldl_stable (P := P) | with_reducible apply foldl_stable_fst (P := P) | with_reducible apply foldl_stable_snd (P := P) | split | intro _ | dsimp +zetaDelta only []
theorem State.sysPush_stable (s : State) (e : Nat) (x : Engine) (w : Nat) (hm : P s) : P (State.sysPush s e x w) := by
  unfold State.sysPush; repeat' first | with_reducible assumption | with_reducible apply answers_next (P := P) | extract_lets | with_reducible apply hP.setPushes | with_reducible apply iff_stable (P := P) | with_reducible apply foldl_stable (P := P) | with_reducible apply foldl_stable_fst (P := P) | with_reducible apply foldl_stable_snd (P := P) | split | intro _ | dsimp +zetaDelta only []
theorem State.sysOpen_stable (s : State) (e : Nat) (n : Nat) (a : Nat) (x : Engine) (w : Nat) (hm : P s) : P (State.sysOpen s e n a x w) := by
  unfold State.sysOpen; repeat' first | with_reducible assumption | with_reducible apply answers_next (P := P) | extract_lets | with_reducible apply hP.modEng | with_reducible apply State.showEng_stable hP | with_reducible apply iff_stable (P := P) | with_reducible apply foldl_stable (P := P) | with_reducible apply foldl_stable_fst (P := P) | with_reducible apply foldl_stable_snd (P := P) | split | intro _ | dsimp +zetaDelta only []
theorem State.sysEmit_stable (s : State) (e : Nat) (x : Engine) (w : Nat) (hm : P s) : P (State.sysEmit s e x w) := by
  unfold State.sysEmit; repeat' first | with_reducible assumption | with_reducible apply answers_next (P := P) | extract_lets | with_reducible apply State.emitOut_stable hP | with_reducible apply iff_stable (P := P) | with_reducible apply foldl_stable (P := P) | with_reducible apply foldl_stable_fst (P := P) | with_reducible apply foldl_stable_snd (P := P) | split | intro _ | dsimp +zetaDelta only []
theorem State.sysKeep_stable (s : State) (e : Nat) (x : Engine) (w : Nat) (hm : P s) : P (State.sysKeep s e x w) := by
  unfold State.sysKeep; repeat' first | with_reducible assumption | with_reducible apply answers_next (P := P) | extract_lets | with_reducible apply hP.modEng | with_reducible apply State.showEng_stable hP | with_reducible apply iff_stable (P := P) | with_reducible apply foldl_stable (P := P) | with_reducible apply foldl_stable_fst (P := P) | with_reducible apply foldl_stable_snd (P := P) | split | intro _ | dsimp +zetaDelta only []
theorem State.sysRelease_stable (s : State) (e : Nat) (x : Engine) (w : Nat) (hm : P s) : P (State.sysRelease s e x w) := by
  unfold State.sysRelease; repeat' first | with_reducible assumption | with_reducible apply answers_next (P := P) | extract_lets | with_reducible apply hP.modEng | with_reducible apply State.engRelease_stable hP | with_reducible apply State.showEng_stable hP | with_reducible apply iff_stable (P := P) | with_reducible apply foldl_stable (P := P) | with_reducible apply foldl_stable_fst (P := P) | with_reducible apply foldl_stable_snd (P := P) | split | intro _ | dsimp +zetaDelta only []
theorem State.commitBundle_stable (s : State) (e : Nat) (out : Option (Nat × Nat)) (hm : P s) : P (State.commitBundle s e out) := by
  unfold State.commitBundle; repeat' first | with_reducible assumption | with_reducible apply answers_next (P := P) | extract_lets | with_reducible apply hP.drawn | with_reducible apply State.storeOf_stable hP | with_reducible apply hP.modEng | with_reducible apply State.put_stable hP | with_reducible apply State.sysSig_stable hP | with_reducible apply State.sysPost_stable hP | with_reducible apply State.sysPush_stable hP | with_reducible apply State.dmaGo_stable hP | with_reducible apply State.sysOpen_stable hP | with_reducible apply State.sysEmit_stable hP | with_reducible apply State.sysKeep_stable hP | with_reducible apply State.sysRelease_stable hP | with_reducible apply State.taskEnd_stable hP | with_reducible apply iff_stable (P := P) | with_reducible apply foldl_stable (P := P) | with_reducible apply foldl_stable_fst (P := P) | with_reducible apply foldl_stable_snd (P := P) | split | intro _ | dsimp +zetaDelta only []
theorem State.stallOn_stable (s : State) (e : Nat) (w : Stall) (hm : P s) : P (State.stallOn s e w) := by
  unfold State.stallOn; repeat' first | with_reducible assumption | with_reducible apply answers_next (P := P) | extract_lets | with_reducible apply hP.modEng | with_reducible apply State.put_stable hP | with_reducible apply iff_stable (P := P) | with_reducible apply foldl_stable (P := P) | with_reducible apply foldl_stable_fst (P := P) | with_reducible apply foldl_stable_snd (P := P) | split | intro _ | dsimp +zetaDelta only []
theorem State.openOrStall_stable (s : State) (e : Nat) (w : Nat) (have_ : Option Nat) (hm : P s) : P (State.openOrStall s e w have_) := by
  unfold State.openOrStall; repeat' first | with_reducible assumption | with_reducible apply answers_next (P := P) | extract_lets | with_reducible apply State.newTile_stable hP | with_reducible apply State.bump_stable hP | with_reducible apply State.commitBundle_stable hP | with_reducible apply State.stallOn_stable hP | with_reducible apply iff_stable (P := P) | with_reducible apply foldl_stable (P := P) | with_reducible apply foldl_stable_fst (P := P) | with_reducible apply foldl_stable_snd (P := P) | split | intro _ | dsimp +zetaDelta only []
theorem State.commitOrStall_stable (s : State) (e : Nat) (hm : P s) : P (State.commitOrStall s e) := by
  unfold State.commitOrStall; repeat' first | with_reducible assumption | with_reducible apply answers_next (P := P) | extract_lets | with_reducible apply State.commitBundle_stable hP | with_reducible apply State.stallOn_stable hP | with_reducible apply State.openOrStall_stable hP | with_reducible apply iff_stable (P := P) | with_reducible apply foldl_stable (P := P) | with_reducible apply foldl_stable_fst (P := P) | with_reducible apply foldl_stable_snd (P := P) | split | intro _ | dsimp +zetaDelta only []
theorem State.charge_stable (s : State) (e : Nat) (cycles : Nat) (err : Nat) (hm : P s) : P (State.charge s e cycles err) := by
  unfold State.charge; repeat' first | with_reducible assumption | with_reducible apply answers_next (P := P) | extract_lets | with_reducible apply hP.modEng | with_reducible apply State.wr64_stable hP | with_reducible apply State.bump_stable hP | with_reducible apply State.raise_stable hP | with_reducible apply State.logOnce_stable hP | with_reducible apply iff_stable (P := P) | with_reducible apply foldl_stable (P := P) | with_reducible apply foldl_stable_fst (P := P) | with_reducible apply foldl_stable_snd (P := P) | split | intro _ | dsimp +zetaDelta only []
theorem State.issue_stable (s : State) (e : Nat) (cycles : Nat) (err : Nat) (same : Bool) (hm : P s) : P (State.issue s e cycles err same) := by
  unfold State.issue; repeat' first | with_reducible assumption | with_reducible apply answers_next (P := P) | extract_lets | with_reducible apply State.engCycle_stable hP | with_reducible apply State.charge_stable hP | with_reducible apply State.engFault_stable hP | with_reducible apply State.commitOrStall_stable hP | with_reducible apply iff_stable (P := P) | with_reducible apply foldl_stable (P := P) | with_reducible apply foldl_stable_fst (P := P) | with_reducible apply foldl_stable_snd (P := P) | split | intro _ | dsimp +zetaDelta only []
theorem State.issueOp_stable (s : State) (e : Nat) (cycles : Nat) (same : Bool) (cls : Nat) (op : Nat) (hm : P s) : P (State.issueOp s e cycles same cls op) := by
  unfold State.issueOp; repeat' first | with_reducible assumption | with_reducible apply answers_next (P := P) | extract_lets | with_reducible apply State.issue_stable hP | with_reducible apply iff_stable (P := P) | with_reducible apply foldl_stable (P := P) | with_reducible apply foldl_stable_fst (P := P) | with_reducible apply foldl_stable_snd (P := P) | split | intro _ | dsimp +zetaDelta only []
theorem execBundleIssue_stable (e : Fin 192) (i : Issue) (err : Fin 5) (s : State) (hm : P s) : Answers P (execBundleIssue e i err s) := by
  unfold execBundleIssue; repeat' first | with_reducible assumption | with_reducible apply answers_next (P := P) | extract_lets | with_reducible apply State.issue_stable hP | with_reducible apply iff_stable (P := P) | with_reducible apply foldl_stable (P := P) | with_reducible apply foldl_stable_fst (P := P) | with_reducible apply foldl_stable_snd (P := P) | split | intro _ | dsimp +zetaDelta only []
theorem execSig_stable (e : Fin 192) (i : Issue) (s : State) (hm : P s) : Answers P (execSig e i s) := by
  unfold execSig; repeat' first | with_reducible assumption | with_reducible apply answers_next (P := P) | extract_lets | with_reducible apply State.issueOp_stable hP | with_reducible apply iff_stable (P := P) | with_reducible apply foldl_stable (P := P) | with_reducible apply foldl_stable_fst (P := P) | with_reducible apply foldl_stable_snd (P := P) | split | intro _ | dsimp +zetaDelta only []
theorem execPost_stable (e : Fin 192) (i : Issue) (s : State) (hm : P s) : Answers P (execPost e i s) := by
  unfold execPost; repeat' first | with_reducible assumption | with_reducible apply answers_next (P := P) | extract_lets | with_reducible apply State.issueOp_stable hP | with_reducible apply iff_stable (P := P) | with_reducible apply foldl_stable (P := P) | with_reducible apply foldl_stable_fst (P := P) | with_reducible apply foldl_stable_snd (P := P) | split | intro _ | dsimp +zetaDelta only []
theorem execPush_stable (e : Fin 192) (i : Issue) (s : State) (hm : P s) : Answers P (execPush e i s) := by
  unfold execPush; repeat' first | with_reducible assumption | with_reducible apply answers_next (P := P) | extract_lets | with_reducible apply State.issueOp_stable hP | with_reducible apply iff_stable (P := P) | with_reducible apply foldl_stable (P := P) | with_reducible apply foldl_stable_fst (P := P) | with_reducible apply foldl_stable_snd (P := P) | split | intro _ | dsimp +zetaDelta only []
theorem execDmaGo_stable (e : Fin 192) (cycles : Nat) (s : State) (hm : P s) : Answers P (execDmaGo e cycles s) := by
  unfold execDmaGo; repeat' first | with_reducible assumption | with_reducible apply answers_next (P := P) | extract_lets | with_reducible apply State.issueOp_stable hP | with_reducible apply iff_stable (P := P) | with_reducible apply foldl_stable (P := P) | with_reducible apply foldl_stable_fst (P := P) | with_reducible apply foldl_stable_snd (P := P) | split | intro _ | dsimp +zetaDelta only []
theorem execDmaWait_stable (e : Fin 192) (cycles : Nat) (s : State) (hm : P s) : Answers P (execDmaWait e cycles s) := by
  unfold execDmaWait; repeat' first | with_reducible assumption | with_reducible apply answers_next (P := P) | extract_lets | with_reducible apply State.issueOp_stable hP | with_reducible apply iff_stable (P := P) | with_reducible apply foldl_stable (P := P) | with_reducible apply foldl_stable_fst (P := P) | with_reducible apply foldl_stable_snd (P := P) | split | intro _ | dsimp +zetaDelta only []
theorem execOutOpen_stable (e : Fin 192) (cycles : Nat) (s : State) (hm : P s) : Answers P (execOutOpen e cycles s) := by
  unfold execOutOpen; repeat' first | with_reducible assumption | with_reducible apply answers_next (P := P) | extract_lets | with_reducible apply State.issueOp_stable hP | with_reducible apply iff_stable (P := P) | with_reducible apply foldl_stable (P := P) | with_reducible apply foldl_stable_fst (P := P) | with_reducible apply foldl_stable_snd (P := P) | split | intro _ | dsimp +zetaDelta only []
theorem execOutEmit_stable (e : Fin 192) (cycles : Nat) (s : State) (hm : P s) : Answers P (execOutEmit e cycles s) := by
  unfold execOutEmit; repeat' first | with_reducible assumption | with_reducible apply answers_next (P := P) | extract_lets | with_reducible apply State.issueOp_stable hP | with_reducible apply iff_stable (P := P) | with_reducible apply foldl_stable (P := P) | with_reducible apply foldl_stable_fst (P := P) | with_reducible apply foldl_stable_snd (P := P) | split | intro _ | dsimp +zetaDelta only []
theorem execTkeep_stable (e : Fin 192) (cycles : Nat) (s : State) (hm : P s) : Answers P (execTkeep e cycles s) := by
  unfold execTkeep; repeat' first | with_reducible assumption | with_reducible apply answers_next (P := P) | extract_lets | with_reducible apply State.issueOp_stable hP | with_reducible apply iff_stable (P := P) | with_reducible apply foldl_stable (P := P) | with_reducible apply foldl_stable_fst (P := P) | with_reducible apply foldl_stable_snd (P := P) | split | intro _ | dsimp +zetaDelta only []
theorem execTrel_stable (e : Fin 192) (cycles : Nat) (s : State) (hm : P s) : Answers P (execTrel e cycles s) := by
  unfold execTrel; repeat' first | with_reducible assumption | with_reducible apply answers_next (P := P) | extract_lets | with_reducible apply State.issueOp_stable hP | with_reducible apply iff_stable (P := P) | with_reducible apply foldl_stable (P := P) | with_reducible apply foldl_stable_fst (P := P) | with_reducible apply foldl_stable_snd (P := P) | split | intro _ | dsimp +zetaDelta only []
theorem execFence_stable (e : Fin 192) (cycles : Nat) (s : State) (hm : P s) : Answers P (execFence e cycles s) := by
  unfold execFence; repeat' first | with_reducible assumption | with_reducible apply answers_next (P := P) | extract_lets | with_reducible apply State.issueOp_stable hP | with_reducible apply iff_stable (P := P) | with_reducible apply foldl_stable (P := P) | with_reducible apply foldl_stable_fst (P := P) | with_reducible apply foldl_stable_snd (P := P) | split | intro _ | dsimp +zetaDelta only []
theorem execTend_stable (e : Fin 192) (cycles : Nat) (s : State) (hm : P s) : Answers P (execTend e cycles s) := by
  unfold execTend; repeat' first | with_reducible assumption | with_reducible apply answers_next (P := P) | extract_lets | with_reducible apply State.issueOp_stable hP | with_reducible apply iff_stable (P := P) | with_reducible apply foldl_stable (P := P) | with_reducible apply foldl_stable_fst (P := P) | with_reducible apply foldl_stable_snd (P := P) | split | intro _ | dsimp +zetaDelta only []
theorem execDmaWaitResume_stable (e : Fin 192) (s : State) (hm : P s) : Answers P (execDmaWaitResume e s) := by
  unfold execDmaWaitResume; repeat' first | with_reducible assumption | with_reducible apply answers_next (P := P) | extract_lets | with_reducible apply State.commitBundle_stable hP | with_reducible apply iff_stable (P := P) | with_reducible apply foldl_stable (P := P) | with_reducible apply foldl_stable_fst (P := P) | with_reducible apply foldl_stable_snd (P := P) | split | intro _ | dsimp +zetaDelta only []
theorem execFenceComplete_stable (e : Fin 192) (s : State) (hm : P s) : Answers P (execFenceComplete e s) := by
  unfold execFenceComplete; repeat' first | with_reducible assumption | with_reducible apply answers_next (P := P) | extract_lets | with_reducible apply State.commitBundle_stable hP | with_reducible apply iff_stable (P := P) | with_reducible apply foldl_stable (P := P) | with_reducible apply foldl_stable_fst (P := P) | with_reducible apply foldl_stable_snd (P := P) | split | intro _ | dsimp +zetaDelta only []
theorem execOutOpenResume_stable (e : Fin 192) (s : State) (hm : P s) : Answers P (execOutOpenResume e s) := by
  unfold execOutOpenResume; repeat' first | with_reducible assumption | with_reducible apply answers_next (P := P) | extract_lets | with_reducible apply State.openOrStall_stable hP | with_reducible apply iff_stable (P := P) | with_reducible apply foldl_stable (P := P) | with_reducible apply foldl_stable_fst (P := P) | with_reducible apply foldl_stable_snd (P := P) | split | intro _ | dsimp +zetaDelta only []
theorem execEnginePushArrive_stable (b : Fin 24) (s : State) (hm : P s) : Answers P (execEnginePushArrive b s) := by
  unfold execEnginePushArrive; repeat' first | with_reducible assumption | with_reducible apply answers_next (P := P) | extract_lets | with_reducible apply hP.setPushes | with_reducible apply State.ringPush_stable hP | with_reducible apply State.commitBundle_stable hP | with_reducible apply iff_stable (P := P) | with_reducible apply foldl_stable (P := P) | with_reducible apply foldl_stable_fst (P := P) | with_reducible apply foldl_stable_snd (P := P) | split | intro _ | dsimp +zetaDelta only []
theorem State.setPriv_stable (s : State) (p : Nat) (hm : P s) : P (State.setPriv s p) := by
  unfold State.setPriv; repeat' first | with_reducible assumption | with_reducible apply answers_next (P := P) | extract_lets | with_reducible apply State.wr64_stable hP | with_reducible apply iff_stable (P := P) | with_reducible apply foldl_stable (P := P) | with_reducible apply foldl_stable_fst (P := P) | with_reducible apply foldl_stable_snd (P := P) | split | intro _ | dsimp +zetaDelta only []
theorem State.reserve_stable (s : State) (st : Nat) (n : Nat) (hm : P s) : P (State.reserve s st n) := by
  unfold State.reserve; repeat' first | with_reducible assumption | with_reducible apply answers_next (P := P) | extract_lets | with_reducible apply State.put_stable hP | with_reducible apply iff_stable (P := P) | with_reducible apply foldl_stable (P := P) | with_reducible apply foldl_stable_fst (P := P) | with_reducible apply foldl_stable_snd (P := P) | split | intro _ | dsimp +zetaDelta only []
theorem State.defineStream_stable (s : State) (defn : List Byte) (mbox : Option Nat) (hm : P s) : P (State.defineStream s defn mbox) := by
  unfold State.defineStream; repeat' first | with_reducible assumption | with_reducible apply answers_next (P := P) | extract_lets | with_reducible apply hP.modStrm | with_reducible apply State.wrN_stable hP | with_reducible apply iff_stable (P := P) | with_reducible apply foldl_stable (P := P) | with_reducible apply foldl_stable_fst (P := P) | with_reducible apply foldl_stable_snd (P := P) | split | intro _ | dsimp +zetaDelta only []
theorem State.admitStream_stable (s : State) (defn : List Byte) (mbox : Option Nat) (hm : P s) : P (State.admitStream s defn mbox).1 := by
  unfold State.admitStream; repeat' first | with_reducible assumption | with_reducible apply answers_next (P := P) | extract_lets | with_reducible apply State.defineStream_stable hP | with_reducible apply State.putB_stable hP | with_reducible apply State.setPriv_stable hP | with_reducible apply State.logC_stable hP | with_reducible apply State.wrN_stable hP | with_reducible apply State.reserve_stable hP | with_reducible apply iff_stable (P := P) | with_reducible apply foldl_stable (P := P) | with_reducible apply foldl_stable_fst (P := P) | with_reducible apply foldl_stable_snd (P := P) | split | intro _ | dsimp +zetaDelta only []
theorem State.closeStream_stable (s : State) (st : Nat) (hm : P s) : P (State.closeStream s st) := by
  unfold State.closeStream; repeat' first | with_reducible assumption | with_reducible apply answers_next (P := P) | extract_lets | with_reducible apply State.putB_stable hP | with_reducible apply State.wrN_stable hP | with_reducible apply State.reserve_stable hP | with_reducible apply hP.modStrm | with_reducible apply State.setPriv_stable hP | with_reducible apply State.settleClose_stable hP | with_reducible apply iff_stable (P := P) | with_reducible apply foldl_stable (P := P) | with_reducible apply foldl_stable_fst (P := P) | with_reducible apply foldl_stable_snd (P := P) | split | intro _ | dsimp +zetaDelta only []
theorem State.rebound_stable (s : State) (st : Nat) (hm : P s) : P (State.rebound s st) := by
  unfold State.rebound; repeat' first | with_reducible assumption | with_reducible apply answers_next (P := P) | extract_lets | with_reducible apply State.wrN_stable hP | with_reducible apply State.putB_stable hP | with_reducible apply State.logC_stable hP | with_reducible apply iff_stable (P := P) | with_reducible apply foldl_stable (P := P) | with_reducible apply foldl_stable_fst (P := P) | with_reducible apply foldl_stable_snd (P := P) | split | intro _ | dsimp +zetaDelta only []
theorem State.readmit_stable (s : State) (hm : P s) : P (State.readmit s) := by
  unfold State.readmit; repeat' first | with_reducible assumption | with_reducible apply answers_next (P := P) | extract_lets | with_reducible apply State.closeStream_stable hP | with_reducible apply State.logC_stable hP | with_reducible apply State.rebound_stable hP | with_reducible apply State.reserve_stable hP | with_reducible apply State.putB_stable hP | with_reducible apply State.put_stable hP | with_reducible apply State.showCap_stable hP | with_reducible apply State.romBuild_stable hP | with_reducible apply State.raise_stable hP | with_reducible apply iff_stable (P := P) | with_reducible apply foldl_stable (P := P) | with_reducible apply foldl_stable_fst (P := P) | with_reducible apply foldl_stable_snd (P := P) | split | intro _ | dsimp +zetaDelta only []
theorem State.showErase_stable (s : State) (k : Nat) (was0 : Bool) (was1 : Bool) (hm : P s) : P (State.showErase s k was0 was1) := by
  unfold State.showErase; repeat' first | with_reducible assumption | with_reducible apply answers_next (P := P) | extract_lets | with_reducible apply State.putB_stable hP | with_reducible apply State.raise_stable hP | with_reducible apply iff_stable (P := P) | with_reducible apply foldl_stable (P := P) | with_reducible apply foldl_stable_fst (P := P) | with_reducible apply foldl_stable_snd (P := P) | split | intro _ | dsimp +zetaDelta only []
theorem State.ddrErr_stable (s : State) (k : Nat) (addr : Nat) (req : Nat) (pos : Nat) (rank : Nat) (kind : Nat) (hm : P s) : P (State.ddrErr s k addr req pos rank kind) := by
  unfold State.ddrErr; repeat' first | with_reducible assumption | with_reducible apply answers_next (P := P) | extract_lets | with_reducible apply State.wr64_stable hP | with_reducible apply State.wrN_stable hP | with_reducible apply State.wrTime_stable hP | with_reducible apply State.publishC_stable hP | with_reducible apply iff_stable (P := P) | with_reducible apply foldl_stable (P := P) | with_reducible apply foldl_stable_fst (P := P) | with_reducible apply foldl_stable_snd (P := P) | split | intro _ | dsimp +zetaDelta only []
theorem State.showDdrLock_stable (s : State) (hm : P s) : P (State.showDdrLock s) := by
  unfold State.showDdrLock; repeat' first | with_reducible assumption | with_reducible apply answers_next (P := P) | extract_lets | with_reducible apply State.putB_stable hP | with_reducible apply iff_stable (P := P) | with_reducible apply foldl_stable (P := P) | with_reducible apply foldl_stable_fst (P := P) | with_reducible apply foldl_stable_snd (P := P) | split | intro _ | dsimp +zetaDelta only []
theorem State.ddrRetire_stable (s : State) (k : Nat) (cause : Nat) (runTime : Bool) (hm : P s) : P (State.ddrRetire s k cause runTime) := by
  unfold State.ddrRetire; repeat' first | with_reducible assumption | with_reducible apply answers_next (P := P) | extract_lets | with_reducible apply State.put_stable hP | with_reducible apply State.showDdrLock_stable hP | with_reducible apply State.raise_stable hP | with_reducible apply State.logC_stable hP | with_reducible apply hP.modArb | with_reducible apply State.hold_stable hP | with_reducible apply State.dmaDone_stable hP | with_reducible apply State.kerfRelease_stable hP | with_reducible apply State.bump_stable hP | with_reducible apply State.putB_stable hP | with_reducible apply State.readmit_stable hP | with_reducible apply iff_stable (P := P) | with_reducible apply foldl_stable (P := P) | with_reducible apply foldl_stable_fst (P := P) | with_reducible apply foldl_stable_snd (P := P) | split | intro _ | dsimp +zetaDelta only []
theorem execDdrRetire_stable (k : Fin 8) (cause : Fin 8) (s : State) (hm : P s) : Answers P (execDdrRetire k cause s) := by
  unfold execDdrRetire; repeat' first | with_reducible assumption | with_reducible apply answers_next (P := P) | extract_lets | with_reducible apply State.logC_stable hP | with_reducible apply State.ddrRetire_stable hP | with_reducible apply iff_stable (P := P) | with_reducible apply foldl_stable (P := P) | with_reducible apply foldl_stable_fst (P := P) | with_reducible apply foldl_stable_snd (P := P) | split | intro _ | dsimp +zetaDelta only []
theorem State.autoErase_stable (s : State) (k : Nat) (r : Nat) (pos : Nat) (hm : P s) : P (State.autoErase s k r pos) := by
  unfold State.autoErase; repeat' first | with_reducible assumption | with_reducible apply answers_next (P := P) | extract_lets | with_reducible apply State.putB_stable hP | with_reducible apply State.put_stable hP | with_reducible apply State.showErase_stable hP | with_reducible apply State.logC_stable hP | with_reducible apply State.ddrRetire_stable hP | with_reducible apply iff_stable (P := P) | with_reducible apply foldl_stable (P := P) | with_reducible apply foldl_stable_fst (P := P) | with_reducible apply foldl_stable_snd (P := P) | split | intro _ | dsimp +zetaDelta only []
theorem State.ddrCorrected_stable (s : State) (k : Nat) (addr : Nat) (req : Nat) (pos : Nat) (erased : Bool) (hm : P s) : P (State.ddrCorrected s k addr req pos erased) := by
  unfold State.ddrCorrected; repeat' first | with_reducible assumption | with_reducible apply answers_next (P := P) | extract_lets | with_reducible apply State.bump_stable hP | with_reducible apply State.raise_stable hP | with_reducible apply State.ddrErr_stable hP | with_reducible apply hP.modDrm | with_reducible apply State.autoErase_stable hP | with_reducible apply iff_stable (P := P) | with_reducible apply foldl_stable (P := P) | with_reducible apply foldl_stable_fst (P := P) | with_reducible apply foldl_stable_snd (P := P) | split | intro _ | dsimp +zetaDelta only []
theorem State.ddrUncorrectable_stable (s : State) (k : Nat) (addr : Nat) (req : Nat) (hm : P s) : P (State.ddrUncorrectable s k addr req) := by
  unfold State.ddrUncorrectable; repeat' first | with_reducible assumption | with_reducible apply answers_next (P := P) | extract_lets | with_reducible apply State.bump_stable hP | with_reducible apply State.raise_stable hP | with_reducible apply State.ddrErr_stable hP | with_reducible apply State.logX_stable hP | with_reducible apply hP.modDrm | with_reducible apply State.ddrRetire_stable hP | with_reducible apply iff_stable (P := P) | with_reducible apply foldl_stable (P := P) | with_reducible apply foldl_stable_fst (P := P) | with_reducible apply foldl_stable_snd (P := P) | split | intro _ | dsimp +zetaDelta only []
theorem State.ddrDecode_stable (s : State) (k : Nat) (addr : Nat) (req : Nat) (errs : List (Nat × Nat)) (hm : P s) : P (State.ddrDecode s k addr req errs) := by
  unfold State.ddrDecode; repeat' first | with_reducible assumption | with_reducible apply answers_next (P := P) | extract_lets | with_reducible apply State.ddrCorrected_stable hP | with_reducible apply State.ddrUncorrectable_stable hP | with_reducible apply iff_stable (P := P) | with_reducible apply foldl_stable (P := P) | with_reducible apply foldl_stable_fst (P := P) | with_reducible apply foldl_stable_snd (P := P) | split | intro _ | dsimp +zetaDelta only []
theorem execDdrReadDecode_stable (k : Fin 8) (addr : Nat) (req : Fin 28) (errs : List (Nat × Nat)) (s : State) (hm : P s) : Answers P (execDdrReadDecode k addr req errs s) := by
  unfold execDdrReadDecode; repeat' first | with_reducible assumption | with_reducible apply answers_next (P := P) | extract_lets | with_reducible apply State.ddrDecode_stable hP | with_reducible apply hP.modDrm | with_reducible apply State.bump_stable hP | with_reducible apply iff_stable (P := P) | with_reducible apply foldl_stable (P := P) | with_reducible apply foldl_stable_fst (P := P) | with_reducible apply foldl_stable_snd (P := P) | split | intro _ | dsimp +zetaDelta only []
theorem State.eraseWrite_stable (s : State) (k : Nat) (n : Nat) (hm : P s) : P (State.eraseWrite s k n) := by
  unfold State.eraseWrite; repeat' first | with_reducible assumption | with_reducible apply answers_next (P := P) | extract_lets | with_reducible apply State.put_stable hP | with_reducible apply State.showErase_stable hP | with_reducible apply iff_stable (P := P) | with_reducible apply foldl_stable (P := P) | with_reducible apply foldl_stable_fst (P := P) | with_reducible apply foldl_stable_snd (P := P) | split | intro _ | dsimp +zetaDelta only []
theorem execDdrEraseWrite_stable (k : Fin 8) (master : Fin 3) (v : Word) (s : State) (hm : P s) : Answers P (execDdrEraseWrite k master v s) := by
  unfold execDdrEraseWrite; repeat' first | with_reducible assumption | with_reducible apply answers_next (P := P) | extract_lets | with_reducible apply State.unreached_stable hP | with_reducible apply State.badAccess_stable hP | with_reducible apply State.eraseWrite_stable hP | with_reducible apply iff_stable (P := P) | with_reducible apply foldl_stable (P := P) | with_reducible apply foldl_stable_fst (P := P) | with_reducible apply foldl_stable_snd (P := P) | split | intro _ | dsimp +zetaDelta only []
theorem execScrubRead_stable (k : Fin 8) (words : List (List (Nat × Nat))) (s : State) (hm : P s) : Answers P (execScrubRead k words s) := by
  unfold execScrubRead; repeat' first | with_reducible assumption | with_reducible apply answers_next (P := P) | extract_lets | with_reducible apply hP.modDrm | with_reducible apply State.wr64_stable hP | with_reducible apply State.bump_stable hP | with_reducible apply State.ddrDecode_stable hP | with_reducible apply iff_stable (P := P) | with_reducible apply foldl_stable (P := P) | with_reducible apply foldl_stable_fst (P := P) | with_reducible apply foldl_stable_snd (P := P) | split | intro _ | dsimp +zetaDelta only []
theorem execDdrRefresh_stable (_k : Fin 8) (s : State) (hm : P s) : Answers P (execDdrRefresh _k s) := by
  unfold execDdrRefresh; repeat' first | with_reducible assumption | with_reducible apply answers_next (P := P) | extract_lets | with_reducible apply iff_stable (P := P) | with_reducible apply foldl_stable (P := P) | with_reducible apply foldl_stable_fst (P := P) | with_reducible apply foldl_stable_snd (P := P) | split | intro _ | dsimp +zetaDelta only []
theorem execZqShortCalibration_stable (_k : Fin 8) (s : State) (hm : P s) : Answers P (execZqShortCalibration _k s) := by
  unfold execZqShortCalibration; repeat' first | with_reducible assumption | with_reducible apply answers_next (P := P) | extract_lets | with_reducible apply iff_stable (P := P) | with_reducible apply foldl_stable (P := P) | with_reducible apply foldl_stable_fst (P := P) | with_reducible apply foldl_stable_snd (P := P) | split | intro _ | dsimp +zetaDelta only []
theorem execDdrAlert_stable (k : Fin 8) (n : Nat) (s : State) (hm : P s) : Answers P (execDdrAlert k n s) := by
  unfold execDdrAlert; repeat' first | with_reducible assumption | with_reducible apply answers_next (P := P) | extract_lets | with_reducible apply hP.modDrm | with_reducible apply State.bumpBy_stable hP | with_reducible apply State.raise_stable hP | with_reducible apply State.ddrRetire_stable hP | with_reducible apply iff_stable (P := P) | with_reducible apply foldl_stable (P := P) | with_reducible apply foldl_stable_fst (P := P) | with_reducible apply foldl_stable_snd (P := P) | split | intro _ | dsimp +zetaDelta only []
theorem execArbRequestRaise_stable (a : Fin 10) (r : Fin 43) (s : State) (hm : P s) : Answers P (execArbRequestRaise a r s) := by
  unfold execArbRequestRaise; repeat' first | with_reducible assumption | with_reducible apply answers_next (P := P) | extract_lets | with_reducible apply State.arbAsk_stable hP | with_reducible apply iff_stable (P := P) | with_reducible apply foldl_stable (P := P) | with_reducible apply foldl_stable_fst (P := P) | with_reducible apply foldl_stable_snd (P := P) | split | intro _ | dsimp +zetaDelta only []
theorem execArbRequestDrop_stable (a : Fin 10) (s : State) (hm : P s) : Answers P (execArbRequestDrop a s) := by
  unfold execArbRequestDrop; repeat' first | with_reducible assumption | with_reducible apply answers_next (P := P) | extract_lets | with_reducible apply State.hold_stable hP | with_reducible apply hP.modArb | with_reducible apply State.decideArb_stable hP | with_reducible apply iff_stable (P := P) | with_reducible apply foldl_stable (P := P) | with_reducible apply foldl_stable_fst (P := P) | with_reducible apply foldl_stable_snd (P := P) | split | intro _ | dsimp +zetaDelta only []
theorem execArbBreakPoint_stable (a : Fin 10) (s : State) (hm : P s) : Answers P (execArbBreakPoint a s) := by
  unfold execArbBreakPoint; repeat' first | with_reducible assumption | with_reducible apply answers_next (P := P) | extract_lets | with_reducible apply State.hold_stable hP | with_reducible apply hP.modArb | with_reducible apply State.bump_stable hP | with_reducible apply State.decideArb_stable hP | with_reducible apply iff_stable (P := P) | with_reducible apply foldl_stable (P := P) | with_reducible apply foldl_stable_fst (P := P) | with_reducible apply foldl_stable_snd (P := P) | split | intro _ | dsimp +zetaDelta only []
theorem execArbBackoffEnd_stable (a : Fin 10) (r : Fin 43) (s : State) (hm : P s) : Answers P (execArbBackoffEnd a r s) := by
  unfold execArbBackoffEnd; repeat' first | with_reducible assumption | with_reducible apply answers_next (P := P) | extract_lets | with_reducible apply hP.modArb | with_reducible apply State.arbRaised_stable hP | with_reducible apply iff_stable (P := P) | with_reducible apply foldl_stable (P := P) | with_reducible apply foldl_stable_fst (P := P) | with_reducible apply foldl_stable_snd (P := P) | split | intro _ | dsimp +zetaDelta only []
theorem execArbRankWrite_stable (a : Fin 10) (w : Fin 6) (master : Fin 3) (v : Word) (s : State) (hm : P s) : Answers P (execArbRankWrite a w master v s) := by
  unfold execArbRankWrite; repeat' first | with_reducible assumption | with_reducible apply answers_next (P := P) | extract_lets | with_reducible apply State.unreached_stable hP | with_reducible apply State.put_stable hP | with_reducible apply State.badAccess_stable hP | with_reducible apply iff_stable (P := P) | with_reducible apply foldl_stable (P := P) | with_reducible apply foldl_stable_fst (P := P) | with_reducible apply foldl_stable_snd (P := P) | split | intro _ | dsimp +zetaDelta only []
theorem State.abortUnit_stable (s : State) (u : WaitUnit) (hm : P s) : P (State.abortUnit s u) := by
  unfold State.abortUnit; repeat' first | with_reducible assumption | with_reducible apply answers_next (P := P) | extract_lets | with_reducible apply State.hold_stable hP | with_reducible apply hP.modArb | with_reducible apply State.decideArb_stable hP | with_reducible apply State.abortTile_stable hP | with_reducible apply State.dmaDone_stable hP | with_reducible apply State.engFault_stable hP | with_reducible apply hP.modScf | with_reducible apply State.showScarf_stable hP | with_reducible apply hP.dropDlv | with_reducible apply State.abandon_stable hP | with_reducible apply iff_stable (P := P) | with_reducible apply foldl_stable (P := P) | with_reducible apply foldl_stable_fst (P := P) | with_reducible apply foldl_stable_snd (P := P) | split | intro _ | dsimp +zetaDelta only []
theorem execWaitWatchdogExpiry_stable (u : WaitUnit) (res : Fin 5) (a : Fin 10) (circle : List WaitUnit) (s : State) (hm : P s) : Answers P (execWaitWatchdogExpiry u res a circle s) := by
  unfold execWaitWatchdogExpiry; repeat' first | with_reducible assumption | with_reducible apply answers_next (P := P) | extract_lets | with_reducible apply State.wrN_stable hP | with_reducible apply State.wrTime_stable hP | with_reducible apply State.publish_stable hP | with_reducible apply State.bump_stable hP | with_reducible apply State.raise_stable hP | with_reducible apply State.logC_stable hP | with_reducible apply State.abortUnit_stable hP | with_reducible apply State.logLim_stable hP | with_reducible apply iff_stable (P := P) | with_reducible apply foldl_stable (P := P) | with_reducible apply foldl_stable_fst (P := P) | with_reducible apply foldl_stable_snd (P := P) | split | intro _ | dsimp +zetaDelta only []
theorem execDeliveryReady_stable (st : Fin 256) (p : Fin 2) (s : State) (hm : P s) : Answers P (execDeliveryReady st p s) := by
  unfold execDeliveryReady; repeat' first | with_reducible assumption | with_reducible apply answers_next (P := P) | extract_lets | with_reducible apply State.withdraw_stable hP | with_reducible apply State.takeDesc_stable hP | with_reducible apply iff_stable (P := P) | with_reducible apply foldl_stable (P := P) | with_reducible apply foldl_stable_fst (P := P) | with_reducible apply foldl_stable_snd (P := P) | split | intro _ | dsimp +zetaDelta only []
theorem execDescTailWrite_stable (st : Fin 256) (p : Fin 2) (master : Fin 3) (size : Nat) (v : Word) (s : State) (hm : P s) : Answers P (execDescTailWrite st p master size v s) := by
  unfold execDescTailWrite; repeat' first | with_reducible assumption | with_reducible apply answers_next (P := P) | extract_lets | with_reducible apply State.unreached_stable hP | with_reducible apply State.badAccess_stable hP | with_reducible apply hP.wr | with_reducible apply iff_stable (P := P) | with_reducible apply foldl_stable (P := P) | with_reducible apply foldl_stable_fst (P := P) | with_reducible apply foldl_stable_snd (P := P) | split | intro _ | dsimp +zetaDelta only []
theorem State.readDescs_stable (s : State) (st : Nat) (p : Nat) (i : Nat) (n : Nat) (second : Bool) (hm : P s) : P (State.readDescs s st p i n second) := by
  unfold State.readDescs; repeat' first | with_reducible assumption | with_reducible apply answers_next (P := P) | extract_lets | with_reducible apply hP.emit | with_reducible apply hP.modRing | with_reducible apply iff_stable (P := P) | with_reducible apply foldl_stable (P := P) | with_reducible apply foldl_stable_fst (P := P) | with_reducible apply foldl_stable_snd (P := P) | split | intro _ | dsimp +zetaDelta only []
theorem execDescFetch_stable (st : Fin 256) (p : Fin 2) (s : State) (hm : P s) : Answers P (execDescFetch st p s) := by
  unfold execDescFetch; repeat' first | with_reducible assumption | with_reducible apply answers_next (P := P) | extract_lets | with_reducible apply State.withdraw_stable hP | with_reducible apply State.readDescs_stable hP | with_reducible apply iff_stable (P := P) | with_reducible apply foldl_stable (P := P) | with_reducible apply foldl_stable_fst (P := P) | with_reducible apply foldl_stable_snd (P := P) | split | intro _ | dsimp +zetaDelta only []
theorem State.fetchFailed_stable (s : State) (st : Nat) (p : Nat) (hm : P s) : P (State.fetchFailed s st p) := by
  unfold State.fetchFailed; repeat' first | with_reducible assumption | with_reducible apply answers_next (P := P) | extract_lets | with_reducible apply hP.modRing | with_reducible apply State.readDescs_stable hP | with_reducible apply State.withdraw_stable hP | with_reducible apply State.raisePcie_stable hP | with_reducible apply State.logC_stable hP | with_reducible apply iff_stable (P := P) | with_reducible apply foldl_stable (P := P) | with_reducible apply foldl_stable_fst (P := P) | with_reducible apply foldl_stable_snd (P := P) | split | intro _ | dsimp +zetaDelta only []
theorem execDescCompletionReceive_stable (p : Fin 2) (t : Nat) (ok : Bool) (data : List Byte) (s : State) (hm : P s) : Answers P (execDescCompletionReceive p t ok data s) := by
  unfold execDescCompletionReceive; repeat' first | with_reducible assumption | with_reducible apply answers_next (P := P) | extract_lets | with_reducible apply State.bump_stable hP | with_reducible apply hP.modHport | with_reducible apply State.aerAdv_stable hP | with_reducible apply State.fetchFailed_stable hP | with_reducible apply hP.modRing | with_reducible apply iff_stable (P := P) | with_reducible apply foldl_stable (P := P) | with_reducible apply foldl_stable_fst (P := P) | with_reducible apply foldl_stable_snd (P := P) | split | intro _ | dsimp +zetaDelta only []
theorem execCompletionTimeout_stable (p : Fin 2) (t : Nat) (s : State) (hm : P s) : Answers P (execCompletionTimeout p t s) := by
  unfold execCompletionTimeout; repeat' first | with_reducible assumption | with_reducible apply answers_next (P := P) | extract_lets | with_reducible apply hP.modHport | with_reducible apply State.aerUnc_stable hP | with_reducible apply State.fetchFailed_stable hP | with_reducible apply iff_stable (P := P) | with_reducible apply foldl_stable (P := P) | with_reducible apply foldl_stable_fst (P := P) | with_reducible apply foldl_stable_snd (P := P) | split | intro _ | dsimp +zetaDelta only []
theorem execPayloadTransfer_stable (p : Fin 2) (n : Nat) (credit : Bool) (s : State) (hm : P s) : Answers P (execPayloadTransfer p n credit s) := by
  unfold execPayloadTransfer; repeat' first | with_reducible assumption | with_reducible apply answers_next (P := P) | extract_lets | with_reducible apply State.hold_stable hP | with_reducible apply State.startWait_stable hP | with_reducible apply State.endWait_stable hP | with_reducible apply State.transfer_stable hP | with_reducible apply iff_stable (P := P) | with_reducible apply foldl_stable (P := P) | with_reducible apply foldl_stable_fst (P := P) | with_reducible apply foldl_stable_snd (P := P) | split | intro _ | dsimp +zetaDelta only []
theorem execPostedCreditReturn_stable (p : Fin 2) (s : State) (hm : P s) : Answers P (execPostedCreditReturn p s) := by
  unfold execPostedCreditReturn; repeat' first | with_reducible assumption | with_reducible apply answers_next (P := P) | extract_lets | with_reducible apply State.endWait_stable hP | with_reducible apply iff_stable (P := P) | with_reducible apply foldl_stable (P := P) | with_reducible apply foldl_stable_fst (P := P) | with_reducible apply foldl_stable_snd (P := P) | split | intro _ | dsimp +zetaDelta only []
theorem execCreditWaitExpiry_stable (st : Fin 256) (p : Fin 2) (s : State) (hm : P s) : Answers P (execCreditWaitExpiry st p s) := by
  unfold execCreditWaitExpiry; repeat' first | with_reducible assumption | with_reducible apply answers_next (P := P) | extract_lets | with_reducible apply hP.modDlv | with_reducible apply State.showWaiting_stable hP | with_reducible apply State.bump_stable hP | with_reducible apply State.raise_stable hP | with_reducible apply State.logOnce_stable hP | with_reducible apply iff_stable (P := P) | with_reducible apply foldl_stable (P := P) | with_reducible apply foldl_stable_fst (P := P) | with_reducible apply foldl_stable_snd (P := P) | split | intro _ | dsimp +zetaDelta only []
theorem execDeactExpiry_stable (st : Fin 256) (p : Fin 2) (s : State) (hm : P s) : Answers P (execDeactExpiry st p s) := by
  unfold execDeactExpiry; repeat' first | with_reducible assumption | with_reducible apply answers_next (P := P) | extract_lets | with_reducible apply State.withdraw_stable hP | with_reducible apply State.logC_stable hP | with_reducible apply iff_stable (P := P) | with_reducible apply foldl_stable (P := P) | with_reducible apply foldl_stable_fst (P := P) | with_reducible apply foldl_stable_snd (P := P) | split | intro _ | dsimp +zetaDelta only []
theorem execIrqModerationExpiry_stable (st : Fin 256) (p : Fin 2) (s : State) (hm : P s) : Answers P (execIrqModerationExpiry st p s) := by
  unfold execIrqModerationExpiry; repeat' first | with_reducible assumption | with_reducible apply answers_next (P := P) | extract_lets | with_reducible apply State.ringIrq_stable hP | with_reducible apply iff_stable (P := P) | with_reducible apply foldl_stable (P := P) | with_reducible apply foldl_stable_fst (P := P) | with_reducible apply foldl_stable_snd (P := P) | split | intro _ | dsimp +zetaDelta only []
theorem State.rateWindow_stable (s : State) (hm : P s) : P (State.rateWindow s) := by
  unfold State.rateWindow; repeat' first | with_reducible assumption | with_reducible apply answers_next (P := P) | extract_lets | with_reducible apply State.overrate_stable hP | with_reducible apply hP.modStrm | with_reducible apply iff_stable (P := P) | with_reducible apply foldl_stable (P := P) | with_reducible apply foldl_stable_fst (P := P) | with_reducible apply foldl_stable_snd (P := P) | split | intro _ | dsimp +zetaDelta only []
theorem execRateWindowEnd_stable (s : State) (hm : P s) : Answers P (execRateWindowEnd s) := by
  unfold execRateWindowEnd; repeat' first | with_reducible assumption | with_reducible apply answers_next (P := P) | extract_lets | with_reducible apply hP.setRateFrom | with_reducible apply State.rateWindow_stable hP | with_reducible apply iff_stable (P := P) | with_reducible apply foldl_stable (P := P) | with_reducible apply foldl_stable_fst (P := P) | with_reducible apply foldl_stable_snd (P := P) | split | intro _ | dsimp +zetaDelta only []
theorem State.logBatch_stable (s : State) (st : Nat) (hm : P s) : P (State.logBatch s st) := by
  unfold State.logBatch; repeat' first | with_reducible assumption | with_reducible apply answers_next (P := P) | extract_lets | with_reducible apply hP.modStrm | with_reducible apply hP.drawn | with_reducible apply State.checkLen_stable hP | with_reducible apply State.ready_stable hP | with_reducible apply iff_stable (P := P) | with_reducible apply foldl_stable (P := P) | with_reducible apply foldl_stable_fst (P := P) | with_reducible apply foldl_stable_snd (P := P) | split | intro _ | dsimp +zetaDelta only []
theorem State.logToStreams_stable (s : State) (e : LogEntry) (hm : P s) : P (State.logToStreams s e) := by
  unfold State.logToStreams; repeat' first | with_reducible assumption | with_reducible apply answers_next (P := P) | extract_lets | with_reducible apply hP.modStrm | with_reducible apply State.logBatch_stable hP | with_reducible apply iff_stable (P := P) | with_reducible apply foldl_stable (P := P) | with_reducible apply foldl_stable_fst (P := P) | with_reducible apply foldl_stable_snd (P := P) | split | intro _ | dsimp +zetaDelta only []
theorem execFlushUsExpiry_stable (st : Fin 256) (s : State) (hm : P s) : Answers P (execFlushUsExpiry st s) := by
  unfold execFlushUsExpiry; repeat' first | with_reducible assumption | with_reducible apply answers_next (P := P) | extract_lets | with_reducible apply State.logBatch_stable hP | with_reducible apply iff_stable (P := P) | with_reducible apply foldl_stable (P := P) | with_reducible apply foldl_stable_fst (P := P) | with_reducible apply foldl_stable_snd (P := P) | split | intro _ | dsimp +zetaDelta only []
theorem State.recallEnd_stable (s : State) (reason : Nat) (hm : P s) : P (State.recallEnd s reason) := by
  unfold State.recallEnd; repeat' first | with_reducible assumption | with_reducible apply answers_next (P := P) | extract_lets | with_reducible apply hP.modRecl | with_reducible apply State.wrN_stable hP | with_reducible apply State.publish_stable hP | with_reducible apply State.putB_stable hP | with_reducible apply State.ringIrq_stable hP | with_reducible apply iff_stable (P := P) | with_reducible apply foldl_stable (P := P) | with_reducible apply foldl_stable_fst (P := P) | with_reducible apply foldl_stable_snd (P := P) | split | intro _ | dsimp +zetaDelta only []
theorem State.recallAsk_stable (s : State) (hm : P s) : P (State.recallAsk s) := by
  unfold State.recallAsk; repeat' first | with_reducible assumption | with_reducible apply answers_next (P := P) | extract_lets | with_reducible apply State.arbAsk_stable hP | with_reducible apply iff_stable (P := P) | with_reducible apply foldl_stable (P := P) | with_reducible apply foldl_stable_fst (P := P) | with_reducible apply foldl_stable_snd (P := P) | split | intro _ | dsimp +zetaDelta only []
theorem State.recallStart_stable (s : State) (hm : P s) : P (State.recallStart s) := by
  unfold State.recallStart; repeat' first | with_reducible assumption | with_reducible apply answers_next (P := P) | extract_lets | with_reducible apply State.putB_stable hP | with_reducible apply hP.modRecl | with_reducible apply State.recallEnd_stable hP | with_reducible apply State.recallAsk_stable hP | with_reducible apply iff_stable (P := P) | with_reducible apply foldl_stable (P := P) | with_reducible apply foldl_stable_fst (P := P) | with_reducible apply foldl_stable_snd (P := P) | split | intro _ | dsimp +zetaDelta only []
theorem execRecallGo_stable (master : Fin 3) (v : Word) (s : State) (hm : P s) : Answers P (execRecallGo master v s) := by
  unfold execRecallGo; repeat' first | with_reducible assumption | with_reducible apply answers_next (P := P) | extract_lets | with_reducible apply State.unreached_stable hP | with_reducible apply State.badAccess_stable hP | with_reducible apply State.put_stable hP | with_reducible apply State.recallStart_stable hP | with_reducible apply iff_stable (P := P) | with_reducible apply foldl_stable (P := P) | with_reducible apply foldl_stable_fst (P := P) | with_reducible apply foldl_stable_snd (P := P) | split | intro _ | dsimp +zetaDelta only []
theorem State.recallLine_stable (s : State) (pool : Option Nat) (tag : List Byte) (data : List Byte) (bad : List Nat) (hm : P s) : P (State.recallLine s pool tag data bad) := by
  unfold State.recallLine; repeat' first | with_reducible assumption | with_reducible apply answers_next (P := P) | extract_lets | with_reducible apply State.newTile_stable hP | with_reducible apply State.checkLen_stable hP | with_reducible apply State.ready_stable hP | with_reducible apply iff_stable (P := P) | with_reducible apply foldl_stable (P := P) | with_reducible apply foldl_stable_fst (P := P) | with_reducible apply foldl_stable_snd (P := P) | split | intro _ | dsimp +zetaDelta only []
theorem State.recallOn_stable (s : State) (prev : Nat) (seq : Nat) (hm : P s) : P (State.recallOn s prev seq) := by
  unfold State.recallOn; repeat' first | with_reducible assumption | with_reducible apply answers_next (P := P) | extract_lets | with_reducible apply State.recallEnd_stable hP | with_reducible apply hP.modRecl | with_reducible apply State.recallAsk_stable hP | with_reducible apply iff_stable (P := P) | with_reducible apply foldl_stable (P := P) | with_reducible apply foldl_stable_fst (P := P) | with_reducible apply foldl_stable_snd (P := P) | split | intro _ | dsimp +zetaDelta only []
theorem execRecallRecordRead_stable (hdr : Bool) (bad : List Nat) (s : State) (hm : P s) : Answers P (execRecallRecordRead hdr bad s) := by
  unfold execRecallRecordRead; repeat' first | with_reducible assumption | with_reducible apply answers_next (P := P) | extract_lets | with_reducible apply State.ddrLand_stable hP | with_reducible apply State.recallEnd_stable hP | with_reducible apply State.logC_stable hP | with_reducible apply hP.modRecl | with_reducible apply State.recallOn_stable hP | with_reducible apply State.bump_stable hP | with_reducible apply State.recallLine_stable hP | with_reducible apply iff_stable (P := P) | with_reducible apply foldl_stable (P := P) | with_reducible apply foldl_stable_fst (P := P) | with_reducible apply foldl_stable_snd (P := P) | split | intro _ | dsimp +zetaDelta only []

end Sys2Proof.Machine
end

