-- ==== Sys2Proof/Laws/StableHost.lean ====
section
/-!
SUPPORT. What survives the operations of host ports, flash, the Sill, resets and management:
a property that is `Stable`. One lemma per operation and per command.
-/

set_option linter.unusedTactic false
set_option linter.unreachableTactic false
set_option linter.unusedSimpArgs false
set_option linter.unusedVariables false

namespace Sys2Proof.Machine

open Reg

variable {P : State → Prop} (hP : Stable P)
include hP

theorem State.lockLog_stable (s : State) (o : Nat) (hm : P s) : P (State.lockLog s o) := by
  unfold State.lockLog; repeat' first | with_reducible assumption | with_reducible apply answers_next (P := P) | extract_lets | with_reducible apply State.logOnce_stable hP | with_reducible apply iff_stable (P := P) | with_reducible apply foldl_stable (P := P) | with_reducible apply foldl_stable_fst (P := P) | with_reducible apply foldl_stable_snd (P := P) | split | intro _ | dsimp +zetaDelta only []
theorem State.store_stable (s : State) (o : Nat) (r : RegRow) (whole : Bool) (prot : Nat) (v : Nat) (hm : P s) : P (State.store s o r whole prot v).1 := by
  unfold State.store; repeat' first | with_reducible assumption | with_reducible apply answers_next (P := P) | extract_lets | with_reducible apply State.lockLog_stable hP | with_reducible apply State.wrN_stable hP | with_reducible apply iff_stable (P := P) | with_reducible apply foldl_stable (P := P) | with_reducible apply foldl_stable_fst (P := P) | with_reducible apply foldl_stable_snd (P := P) | split | intro _ | dsimp +zetaDelta only []
theorem State.storeAt_stable (s : State) (o : Nat) (whole : Bool) (prot : Nat) (v : Nat) (hm : P s) : P (State.storeAt s o whole prot v).1 := by
  unfold State.storeAt; repeat' first | with_reducible assumption | with_reducible apply answers_next (P := P) | extract_lets | with_reducible apply State.store_stable hP | with_reducible apply iff_stable (P := P) | with_reducible apply foldl_stable (P := P) | with_reducible apply foldl_stable_fst (P := P) | with_reducible apply foldl_stable_snd (P := P) | split | intro _ | dsimp +zetaDelta only []
theorem State.holdTags_stable (s : State) (p : Nat) (hm : P s) : P (State.holdTags s p) := by
  unfold State.holdTags; repeat' first | with_reducible assumption | with_reducible apply answers_next (P := P) | extract_lets | with_reducible apply hP.modHport | with_reducible apply iff_stable (P := P) | with_reducible apply foldl_stable (P := P) | with_reducible apply foldl_stable_fst (P := P) | with_reducible apply foldl_stable_snd (P := P) | split | intro _ | dsimp +zetaDelta only []
theorem State.portHalt_stable (s : State) (p : Nat) (hm : P s) : P (State.portHalt s p) := by
  unfold State.portHalt; repeat' first | with_reducible assumption | with_reducible apply answers_next (P := P) | extract_lets | with_reducible apply State.holdTags_stable hP | with_reducible apply State.portStop_stable hP | with_reducible apply State.raisePcie_stable hP | with_reducible apply State.logC_stable hP | with_reducible apply iff_stable (P := P) | with_reducible apply foldl_stable (P := P) | with_reducible apply foldl_stable_fst (P := P) | with_reducible apply foldl_stable_snd (P := P) | split | intro _ | dsimp +zetaDelta only []
theorem State.setActive_stable (s : State) (p : Nat) (l : List (Nat × Word)) (hm : P s) : P (State.setActive s p l) := by
  unfold State.setActive; repeat' first | with_reducible assumption | with_reducible apply answers_next (P := P) | extract_lets | with_reducible apply hP.wr | with_reducible apply iff_stable (P := P) | with_reducible apply foldl_stable (P := P) | with_reducible apply foldl_stable_fst (P := P) | with_reducible apply foldl_stable_snd (P := P) | split | intro _ | dsimp +zetaDelta only []
theorem State.setShadow_stable (s : State) (p : Nat) (l : List (Nat × Word)) (hm : P s) : P (State.setShadow s p l) := by
  unfold State.setShadow; repeat' first | with_reducible assumption | with_reducible apply answers_next (P := P) | extract_lets | with_reducible apply hP.wr | with_reducible apply iff_stable (P := P) | with_reducible apply foldl_stable (P := P) | with_reducible apply foldl_stable_fst (P := P) | with_reducible apply foldl_stable_snd (P := P) | split | intro _ | dsimp +zetaDelta only []
theorem State.portFresh_stable (s : State) (p : Nat) (hm : P s) : P (State.portFresh s p) := by
  unfold State.portFresh; repeat' first | with_reducible assumption | with_reducible apply answers_next (P := P) | extract_lets | with_reducible apply hP.dropConfig | with_reducible apply State.wrN_stable hP | with_reducible apply State.putB_stable hP | with_reducible apply hP.modHport | with_reducible apply State.setActive_stable hP | with_reducible apply State.setShadow_stable hP | with_reducible apply iff_stable (P := P) | with_reducible apply foldl_stable (P := P) | with_reducible apply foldl_stable_fst (P := P) | with_reducible apply foldl_stable_snd (P := P) | split | intro _ | dsimp +zetaDelta only []
theorem State.reboundPort_stable (s : State) (p : Nat) (hm : P s) : P (State.reboundPort s p) := by
  unfold State.reboundPort; repeat' first | with_reducible assumption | with_reducible apply answers_next (P := P) | extract_lets | with_reducible apply State.rebound_stable hP | with_reducible apply iff_stable (P := P) | with_reducible apply foldl_stable (P := P) | with_reducible apply foldl_stable_fst (P := P) | with_reducible apply foldl_stable_snd (P := P) | split | intro _ | dsimp +zetaDelta only []
theorem State.linkDown_stable (s : State) (p : Nat) (hm : P s) : P (State.linkDown s p) := by
  unfold State.linkDown; repeat' first | with_reducible assumption | with_reducible apply answers_next (P := P) | extract_lets | with_reducible apply State.holdTags_stable hP | with_reducible apply State.portStop_stable hP | with_reducible apply State.portFresh_stable hP | with_reducible apply State.wrN_stable hP | with_reducible apply State.bump_stable hP | with_reducible apply State.raisePcie_stable hP | with_reducible apply State.logC_stable hP | with_reducible apply iff_stable (P := P) | with_reducible apply foldl_stable (P := P) | with_reducible apply foldl_stable_fst (P := P) | with_reducible apply foldl_stable_snd (P := P) | split | intro _ | dsimp +zetaDelta only []
theorem execPerstAssert_stable (p : Fin 2) (s : State) (hm : P s) : Answers P (execPerstAssert p s) := by
  unfold execPerstAssert; repeat' first | with_reducible assumption | with_reducible apply answers_next (P := P) | extract_lets | with_reducible apply State.linkDown_stable hP | with_reducible apply State.holdTags_stable hP | with_reducible apply State.portStop_stable hP | with_reducible apply State.portFresh_stable hP | with_reducible apply State.putB_stable hP | with_reducible apply iff_stable (P := P) | with_reducible apply foldl_stable (P := P) | with_reducible apply foldl_stable_fst (P := P) | with_reducible apply foldl_stable_snd (P := P) | split | intro _ | dsimp +zetaDelta only []
theorem execPerstDeassert_stable (p : Fin 2) (s : State) (hm : P s) : Answers P (execPerstDeassert p s) := by
  unfold execPerstDeassert; repeat' first | with_reducible assumption | with_reducible apply answers_next (P := P) | extract_lets | with_reducible apply State.putB_stable hP | with_reducible apply iff_stable (P := P) | with_reducible apply foldl_stable (P := P) | with_reducible apply foldl_stable_fst (P := P) | with_reducible apply foldl_stable_snd (P := P) | split | intro _ | dsimp +zetaDelta only []
theorem execLinkUp_stable (p : Fin 2) (gen : Fin 7) (w : Fin 17) (s : State) (hm : P s) : Answers P (execLinkUp p gen w s) := by
  unfold execLinkUp; repeat' first | with_reducible assumption | with_reducible apply answers_next (P := P) | extract_lets | with_reducible apply hP.free | with_reducible apply State.wrN_stable hP | with_reducible apply State.raisePcie_stable hP | with_reducible apply State.logC_stable hP | with_reducible apply State.reboundPort_stable hP | with_reducible apply iff_stable (P := P) | with_reducible apply foldl_stable (P := P) | with_reducible apply foldl_stable_fst (P := P) | with_reducible apply foldl_stable_snd (P := P) | split | intro _ | dsimp +zetaDelta only []
theorem execLinkDown_stable (p : Fin 2) (s : State) (hm : P s) : Answers P (execLinkDown p s) := by
  unfold execLinkDown; repeat' first | with_reducible assumption | with_reducible apply answers_next (P := P) | extract_lets | with_reducible apply State.linkDown_stable hP | with_reducible apply iff_stable (P := P) | with_reducible apply foldl_stable (P := P) | with_reducible apply foldl_stable_fst (P := P) | with_reducible apply foldl_stable_snd (P := P) | split | intro _ | dsimp +zetaDelta only []
theorem execPartnerTooNarrow_stable (p : Fin 2) (s : State) (hm : P s) : Answers P (execPartnerTooNarrow p s) := by
  unfold execPartnerTooNarrow; repeat' first | with_reducible assumption | with_reducible apply answers_next (P := P) | extract_lets | with_reducible apply State.logC_stable hP | with_reducible apply iff_stable (P := P) | with_reducible apply foldl_stable (P := P) | with_reducible apply foldl_stable_fst (P := P) | with_reducible apply foldl_stable_snd (P := P) | split | intro _ | dsimp +zetaDelta only []
theorem State.pcieCfgApply_stable (s : State) (p : Nat) (hm : P s) : P (State.pcieCfgApply s p) := by
  unfold State.pcieCfgApply; repeat' first | with_reducible assumption | with_reducible apply answers_next (P := P) | extract_lets | with_reducible apply State.linkDown_stable hP | with_reducible apply State.put_stable hP | with_reducible apply State.putB_stable hP | with_reducible apply iff_stable (P := P) | with_reducible apply foldl_stable (P := P) | with_reducible apply foldl_stable_fst (P := P) | with_reducible apply foldl_stable_snd (P := P) | split | intro _ | dsimp +zetaDelta only []
theorem execPcieCfgWrite_stable (p : Fin 2) (master : Fin 3) (v : Word) (s : State) (hm : P s) : Answers P (execPcieCfgWrite p master v s) := by
  unfold execPcieCfgWrite; repeat' first | with_reducible assumption | with_reducible apply answers_next (P := P) | extract_lets | with_reducible apply State.unreached_stable hP | with_reducible apply State.storeAt_stable hP | with_reducible apply State.pcieCfgApply_stable hP | with_reducible apply State.badAccess_stable hP | with_reducible apply iff_stable (P := P) | with_reducible apply foldl_stable (P := P) | with_reducible apply foldl_stable_fst (P := P) | with_reducible apply foldl_stable_snd (P := P) | split | intro _ | dsimp +zetaDelta only []
theorem execPcieLinkError_stable (p : Fin 2) (kind : Fin 9) (s : State) (hm : P s) : Answers P (execPcieLinkError p kind s) := by
  unfold execPcieLinkError; repeat' first | with_reducible assumption | with_reducible apply answers_next (P := P) | extract_lets | with_reducible apply State.aerCor_stable hP | with_reducible apply State.aerUnc_stable hP | with_reducible apply State.pcieCfgApply_stable hP | with_reducible apply iff_stable (P := P) | with_reducible apply foldl_stable (P := P) | with_reducible apply foldl_stable_fst (P := P) | with_reducible apply foldl_stable_snd (P := P) | split | intro _ | dsimp +zetaDelta only []
theorem State.bmeTo_stable (s : State) (p : Nat) (b : Bool) (hm : P s) : P (State.bmeTo s p b) := by
  unfold State.bmeTo; repeat' first | with_reducible assumption | with_reducible apply answers_next (P := P) | extract_lets | with_reducible apply hP.cfgWr | with_reducible apply State.putB_stable hP | with_reducible apply State.portHalt_stable hP | with_reducible apply iff_stable (P := P) | with_reducible apply foldl_stable (P := P) | with_reducible apply foldl_stable_fst (P := P) | with_reducible apply foldl_stable_snd (P := P) | split | intro _ | dsimp +zetaDelta only []
theorem execBmeClear_stable (p : Fin 2) (s : State) (hm : P s) : Answers P (execBmeClear p s) := by
  unfold execBmeClear; repeat' first | with_reducible assumption | with_reducible apply answers_next (P := P) | extract_lets | with_reducible apply State.bmeTo_stable hP | with_reducible apply iff_stable (P := P) | with_reducible apply foldl_stable (P := P) | with_reducible apply foldl_stable_fst (P := P) | with_reducible apply foldl_stable_snd (P := P) | split | intro _ | dsimp +zetaDelta only []
theorem execBmeSet_stable (p : Fin 2) (s : State) (hm : P s) : Answers P (execBmeSet p s) := by
  unfold execBmeSet; repeat' first | with_reducible assumption | with_reducible apply answers_next (P := P) | extract_lets | with_reducible apply State.bmeTo_stable hP | with_reducible apply iff_stable (P := P) | with_reducible apply foldl_stable (P := P) | with_reducible apply foldl_stable_fst (P := P) | with_reducible apply foldl_stable_snd (P := P) | split | intro _ | dsimp +zetaDelta only []
theorem State.powerTo_stable (s : State) (p : Nat) (d3 : Bool) (hm : P s) : P (State.powerTo s p d3) := by
  unfold State.powerTo; repeat' first | with_reducible assumption | with_reducible apply answers_next (P := P) | extract_lets | with_reducible apply hP.cfgWr | with_reducible apply State.putB_stable hP | with_reducible apply State.portHalt_stable hP | with_reducible apply iff_stable (P := P) | with_reducible apply foldl_stable (P := P) | with_reducible apply foldl_stable_fst (P := P) | with_reducible apply foldl_stable_snd (P := P) | split | intro _ | dsimp +zetaDelta only []
theorem execD3hotEntry_stable (p : Fin 2) (s : State) (hm : P s) : Answers P (execD3hotEntry p s) := by
  unfold execD3hotEntry; repeat' first | with_reducible assumption | with_reducible apply answers_next (P := P) | extract_lets | with_reducible apply State.powerTo_stable hP | with_reducible apply iff_stable (P := P) | with_reducible apply foldl_stable (P := P) | with_reducible apply foldl_stable_fst (P := P) | with_reducible apply foldl_stable_snd (P := P) | split | intro _ | dsimp +zetaDelta only []
theorem execD0Return_stable (p : Fin 2) (s : State) (hm : P s) : Answers P (execD0Return p s) := by
  unfold execD0Return; repeat' first | with_reducible assumption | with_reducible apply answers_next (P := P) | extract_lets | with_reducible apply State.powerTo_stable hP | with_reducible apply iff_stable (P := P) | with_reducible apply foldl_stable (P := P) | with_reducible apply foldl_stable_fst (P := P) | with_reducible apply foldl_stable_snd (P := P) | split | intro _ | dsimp +zetaDelta only []
theorem State.mboxAbandon_stable (s : State) (p : Nat) (hm : P s) : P (State.mboxAbandon s p) := by
  unfold State.mboxAbandon; repeat' first | with_reducible assumption | with_reducible apply answers_next (P := P) | extract_lets | with_reducible apply State.mboxDone_stable hP | with_reducible apply State.logC_stable hP | with_reducible apply State.put_stable hP | with_reducible apply iff_stable (P := P) | with_reducible apply foldl_stable (P := P) | with_reducible apply foldl_stable_fst (P := P) | with_reducible apply foldl_stable_snd (P := P) | split | intro _ | dsimp +zetaDelta only []
theorem State.orphan_stable (s : State) (p : Nat) (hm : P s) : P (State.orphan s p) := by
  unfold State.orphan; repeat' first | with_reducible assumption | with_reducible apply answers_next (P := P) | extract_lets | with_reducible apply hP.modEth | with_reducible apply iff_stable (P := P) | with_reducible apply foldl_stable (P := P) | with_reducible apply foldl_stable_fst (P := P) | with_reducible apply foldl_stable_snd (P := P) | split | intro _ | dsimp +zetaDelta only []
theorem State.flr_stable (s : State) (p : Nat) (hm : P s) : P (State.flr s p) := by
  unfold State.flr; repeat' first | with_reducible assumption | with_reducible apply answers_next (P := P) | extract_lets | with_reducible apply hP.modMc | (intro _; rfl) | with_reducible apply State.orphan_stable hP | with_reducible apply State.putB_stable hP | with_reducible apply State.portHalt_stable hP | with_reducible apply State.mboxAbandon_stable hP | with_reducible apply State.closeStream_stable hP | with_reducible apply State.romUpdate_stable hP | with_reducible apply State.portFresh_stable hP | with_reducible apply iff_stable (P := P) | with_reducible apply foldl_stable (P := P) | with_reducible apply foldl_stable_fst (P := P) | with_reducible apply foldl_stable_snd (P := P) | split | intro _ | dsimp +zetaDelta only []
theorem execFlr_stable (p : Fin 2) (s : State) (hm : P s) : Answers P (execFlr p s) := by
  unfold execFlr; repeat' first | with_reducible assumption | with_reducible apply answers_next (P := P) | extract_lets | with_reducible apply State.flr_stable hP | with_reducible apply iff_stable (P := P) | with_reducible apply foldl_stable (P := P) | with_reducible apply foldl_stable_fst (P := P) | with_reducible apply foldl_stable_snd (P := P) | split | intro _ | dsimp +zetaDelta only []
theorem execFlrComplete_stable (p : Fin 2) (s : State) (hm : P s) : Answers P (execFlrComplete p s) := by
  unfold execFlrComplete; repeat' first | with_reducible assumption | with_reducible apply answers_next (P := P) | extract_lets | with_reducible apply State.putB_stable hP | with_reducible apply State.raisePcie_stable hP | with_reducible apply State.logC_stable hP | with_reducible apply iff_stable (P := P) | with_reducible apply foldl_stable (P := P) | with_reducible apply foldl_stable_fst (P := P) | with_reducible apply foldl_stable_snd (P := P) | split | intro _ | dsimp +zetaDelta only []
theorem State.cfgWrite_stable (s : State) (p : Nat) (o : Nat) (be : Nat) (v : Nat) (hm : P s) : P (State.cfgWrite s p o be v) := by
  unfold State.cfgWrite; repeat' first | with_reducible assumption | with_reducible apply answers_next (P := P) | extract_lets | with_reducible apply hP.cfgWr | with_reducible apply State.bmeTo_stable hP | with_reducible apply State.powerTo_stable hP | with_reducible apply State.flr_stable hP | with_reducible apply iff_stable (P := P) | with_reducible apply foldl_stable (P := P) | with_reducible apply foldl_stable_fst (P := P) | with_reducible apply foldl_stable_snd (P := P) | split | intro _ | dsimp +zetaDelta only []
theorem execConfigRequest_stable (p : Fin 2) (write : Bool) (word : Fin 1024) (be : Fin 16) (v : Word) (s : State) (hm : P s) : Answers P (execConfigRequest p write word be v s) := by
  unfold execConfigRequest; repeat' first | with_reducible assumption | with_reducible apply answers_next (P := P) | extract_lets | with_reducible apply State.cfgWrite_stable hP | with_reducible apply hP.emit | with_reducible apply iff_stable (P := P) | with_reducible apply foldl_stable (P := P) | with_reducible apply foldl_stable_fst (P := P) | with_reducible apply foldl_stable_snd (P := P) | split | intro _ | dsimp +zetaDelta only []
theorem State.peerUr_stable (s : State) (p : Nat) (r : PeerReq) (hm : P s) : P (State.peerUr s p r) := by
  unfold State.peerUr; repeat' first | with_reducible assumption | with_reducible apply answers_next (P := P) | extract_lets | with_reducible apply State.wr64_stable hP | with_reducible apply State.wrN_stable hP | with_reducible apply State.publishC_stable hP | with_reducible apply State.urNote_stable hP | with_reducible apply hP.emit | with_reducible apply iff_stable (P := P) | with_reducible apply foldl_stable (P := P) | with_reducible apply foldl_stable_fst (P := P) | with_reducible apply foldl_stable_snd (P := P) | split | intro _ | dsimp +zetaDelta only []
theorem State.peerDecode_stable (s : State) (p : Nat) (r : PeerReq) (bad : List Nat) (hm : P s) : P (State.peerDecode s p r bad) := by
  unfold State.peerDecode; repeat' first | with_reducible assumption | with_reducible apply answers_next (P := P) | extract_lets | with_reducible apply State.raisePcie_stable hP | with_reducible apply State.logC_stable hP | with_reducible apply State.aerUnc_stable hP | with_reducible apply State.peerUr_stable hP | with_reducible apply State.ddrPost_stable hP | with_reducible apply State.arbAsk_stable hP | with_reducible apply hP.modHport | with_reducible apply iff_stable (P := P) | with_reducible apply foldl_stable (P := P) | with_reducible apply foldl_stable_fst (P := P) | with_reducible apply foldl_stable_snd (P := P) | split | intro _ | dsimp +zetaDelta only []
theorem execPeerRequest_stable (p : Fin 2) (kind : Fin 3) (addr : Nat) (data : List (Option Byte)) (reqId : Nat) (tag : Nat) (ep : Bool) (bad : List Nat) (s : State) (hm : P s) : Answers P (execPeerRequest p kind addr data reqId tag ep bad s) := by
  unfold execPeerRequest; repeat' first | with_reducible assumption | with_reducible apply answers_next (P := P) | extract_lets | with_reducible apply State.aerUnc_stable hP | with_reducible apply hP.emit | with_reducible apply State.peerUr_stable hP | with_reducible apply hP.modHport | with_reducible apply State.peerDecode_stable hP | with_reducible apply iff_stable (P := P) | with_reducible apply foldl_stable (P := P) | with_reducible apply foldl_stable_fst (P := P) | with_reducible apply foldl_stable_snd (P := P) | split | intro _ | dsimp +zetaDelta only []
theorem State.peerComplete_stable (s : State) (p : Nat) (r : PeerReq) (bad : List Nat) (hm : P s) : P (State.peerComplete s p r bad) := by
  unfold State.peerComplete; repeat' first | with_reducible assumption | with_reducible apply answers_next (P := P) | extract_lets | with_reducible apply hP.emit | with_reducible apply iff_stable (P := P) | with_reducible apply foldl_stable (P := P) | with_reducible apply foldl_stable_fst (P := P) | with_reducible apply foldl_stable_snd (P := P) | split | intro _ | dsimp +zetaDelta only []
theorem execPeerReadComplete_stable (p : Fin 2) (i : Nat) (bad : List Nat) (s : State) (hm : P s) : Answers P (execPeerReadComplete p i bad s) := by
  unfold execPeerReadComplete; repeat' first | with_reducible assumption | with_reducible apply answers_next (P := P) | extract_lets | with_reducible apply State.ddrLand_stable hP | with_reducible apply hP.modHport | with_reducible apply State.peerComplete_stable hP | with_reducible apply iff_stable (P := P) | with_reducible apply foldl_stable (P := P) | with_reducible apply foldl_stable_fst (P := P) | with_reducible apply foldl_stable_snd (P := P) | split | intro _ | dsimp +zetaDelta only []
theorem State.windowCommit_stable (s : State) (p : Nat) (hm : P s) : P (State.windowCommit s p) := by
  unfold State.windowCommit; repeat' first | with_reducible assumption | with_reducible apply answers_next (P := P) | extract_lets | with_reducible apply State.put_stable hP | with_reducible apply State.putB_stable hP | with_reducible apply State.raisePcie_stable hP | with_reducible apply State.logC_stable hP | with_reducible apply iff_stable (P := P) | with_reducible apply foldl_stable (P := P) | with_reducible apply foldl_stable_fst (P := P) | with_reducible apply foldl_stable_snd (P := P) | split | intro _ | dsimp +zetaDelta only []
theorem execWindowCommit_stable (p : Fin 2) (master : Fin 3) (s : State) (hm : P s) : Answers P (execWindowCommit p master s) := by
  unfold execWindowCommit; repeat' first | with_reducible assumption | with_reducible apply answers_next (P := P) | extract_lets | with_reducible apply State.unreached_stable hP | with_reducible apply State.badAccess_stable hP | with_reducible apply State.windowCommit_stable hP | with_reducible apply iff_stable (P := P) | with_reducible apply foldl_stable (P := P) | with_reducible apply foldl_stable_fst (P := P) | with_reducible apply foldl_stable_snd (P := P) | split | intro _ | dsimp +zetaDelta only []
theorem State.windowSwitch_stable (s : State) (p : Nat) (bads : List (List Nat)) (hm : P s) : P (State.windowSwitch s p bads) := by
  unfold State.windowSwitch; repeat' first | with_reducible assumption | with_reducible apply answers_next (P := P) | extract_lets | with_reducible apply State.setActive_stable hP | with_reducible apply State.putB_stable hP | with_reducible apply hP.modHport | with_reducible apply State.peerDecode_stable hP | with_reducible apply iff_stable (P := P) | with_reducible apply foldl_stable (P := P) | with_reducible apply foldl_stable_fst (P := P) | with_reducible apply foldl_stable_snd (P := P) | split | intro _ | dsimp +zetaDelta only []
theorem execWindowSwitch_stable (p : Fin 2) (bads : List (List Nat)) (s : State) (hm : P s) : Answers P (execWindowSwitch p bads s) := by
  unfold execWindowSwitch; repeat' first | with_reducible assumption | with_reducible apply answers_next (P := P) | extract_lets | with_reducible apply State.ddrLand_stable hP | with_reducible apply State.windowSwitch_stable hP | with_reducible apply iff_stable (P := P) | with_reducible apply foldl_stable (P := P) | with_reducible apply foldl_stable_fst (P := P) | with_reducible apply foldl_stable_snd (P := P) | split | intro _ | dsimp +zetaDelta only []
theorem execMsixPendingSend_stable (p : Fin 2) (v : Fin 2048) (s : State) (hm : P s) : Answers P (execMsixPendingSend p v s) := by
  unfold execMsixPendingSend; repeat' first | with_reducible assumption | with_reducible apply answers_next (P := P) | extract_lets | with_reducible apply State.putB_stable hP | with_reducible apply hP.emit | with_reducible apply iff_stable (P := P) | with_reducible apply foldl_stable (P := P) | with_reducible apply foldl_stable_fst (P := P) | with_reducible apply foldl_stable_snd (P := P) | split | intro _ | dsimp +zetaDelta only []
theorem State.hdrRewrite_stable (s : State) (fw : Nat) (cl : Nat) (hm : P s) : P (State.hdrRewrite s fw cl) := by
  unfold State.hdrRewrite; repeat' first | with_reducible assumption | with_reducible apply answers_next (P := P) | extract_lets | with_reducible apply hP.hdrStore | with_reducible apply iff_stable (P := P) | with_reducible apply foldl_stable (P := P) | with_reducible apply foldl_stable_fst (P := P) | with_reducible apply foldl_stable_snd (P := P) | split | intro _ | dsimp +zetaDelta only []
theorem State.showOtp_stable (s : State) (hm : P s) : P (State.showOtp s) := by
  unfold State.showOtp; repeat' first | with_reducible assumption | with_reducible apply answers_next (P := P) | extract_lets | with_reducible apply State.put_stable hP | with_reducible apply iff_stable (P := P) | with_reducible apply foldl_stable (P := P) | with_reducible apply foldl_stable_fst (P := P) | with_reducible apply foldl_stable_snd (P := P) | split | intro _ | dsimp +zetaDelta only []
theorem State.advance_stable (ho : ∀ s a l, P s → P (s.otpProg a l)) (s : State) (a v : Nat) (hm : P s) : P (s.advance a v) :=
  State.logC_stable hP _ _ _ _ (State.showOtp_stable hP _ (ho _ _ _ hm))
theorem State.loadRepair_stable (s : State) (hm : P s) : P (State.loadRepair s) := by
  unfold State.loadRepair; repeat' first | with_reducible assumption | with_reducible apply answers_next (P := P) | extract_lets | with_reducible apply State.wrN_stable hP | with_reducible apply State.put_stable hP | with_reducible apply iff_stable (P := P) | with_reducible apply foldl_stable (P := P) | with_reducible apply foldl_stable_fst (P := P) | with_reducible apply foldl_stable_snd (P := P) | split | intro _ | dsimp +zetaDelta only []
theorem State.recMark_stable (s : State) (b : Nat) (hm : P s) : P (State.recMark s b) := by
  unfold State.recMark; repeat' first | with_reducible assumption | with_reducible apply answers_next (P := P) | extract_lets | with_reducible apply hP.flashProg | with_reducible apply iff_stable (P := P) | with_reducible apply foldl_stable (P := P) | with_reducible apply foldl_stable_fst (P := P) | with_reducible apply foldl_stable_snd (P := P) | split | intro _ | dsimp +zetaDelta only []
theorem State.recNew_stable (s : State) (l : List Byte) (hm : P s) : P (State.recNew s l) := by
  unfold State.recNew; repeat' first | with_reducible assumption | with_reducible apply answers_next (P := P) | extract_lets | with_reducible apply hP.flashProg | with_reducible apply hP.flashErase | with_reducible apply iff_stable (P := P) | with_reducible apply foldl_stable (P := P) | with_reducible apply foldl_stable_fst (P := P) | with_reducible apply foldl_stable_snd (P := P) | split | intro _ | dsimp +zetaDelta only []
theorem State.consAct_stable (s : State) (c : Nat) (p : Nat) (hop : Nat) (same : Bool) (hm : P s) : P (State.consAct s c p hop same) := by
  unfold State.consAct; repeat' first | with_reducible assumption | with_reducible apply answers_next (P := P) | extract_lets | with_reducible apply State.seqAccept_stable hP | with_reducible apply State.posSnap_stable hP | with_reducible apply State.tbSnap_stable hP | with_reducible apply State.taskLine_stable hP | with_reducible apply State.pulsePin_stable hP | with_reducible apply State.dmaKick_stable hP | with_reducible apply State.raise_stable hP | with_reducible apply hP.modEvt | with_reducible apply State.logC_stable hP | with_reducible apply iff_stable (P := P) | with_reducible apply foldl_stable (P := P) | with_reducible apply foldl_stable_fst (P := P) | with_reducible apply foldl_stable_snd (P := P) | split | intro _ | dsimp +zetaDelta only []
theorem State.consAccept_stable (s : State) (c : Nat) (p : Nat) (hop : Nat) (same : Bool) (hm : P s) : P (State.consAccept s c p hop same) := by
  unfold State.consAccept; repeat' first | with_reducible assumption | with_reducible apply answers_next (P := P) | extract_lets | with_reducible apply hP.modEvt | with_reducible apply State.consAct_stable hP | with_reducible apply iff_stable (P := P) | with_reducible apply foldl_stable (P := P) | with_reducible apply foldl_stable_fst (P := P) | with_reducible apply foldl_stable_snd (P := P) | split | intro _ | dsimp +zetaDelta only []
theorem State.pendAccept_stable (s : State) (c : Nat) (hm : P s) : P (State.pendAccept s c) := by
  unfold State.pendAccept; repeat' first | with_reducible assumption | with_reducible apply answers_next (P := P) | extract_lets | with_reducible apply State.putB_stable hP | with_reducible apply State.put_stable hP | with_reducible apply State.consAccept_stable hP | with_reducible apply iff_stable (P := P) | with_reducible apply foldl_stable (P := P) | with_reducible apply foldl_stable_fst (P := P) | with_reducible apply foldl_stable_snd (P := P) | split | intro _ | dsimp +zetaDelta only []
theorem State.consMeet_stable (s : State) (c : Nat) (p : Nat) (hop : Nat) (same : Bool) (hm : P s) : P (State.consMeet s c p hop same) := by
  unfold State.consMeet; repeat' first | with_reducible assumption | with_reducible apply answers_next (P := P) | extract_lets | with_reducible apply State.pendAccept_stable hP | with_reducible apply State.consLost_stable hP | with_reducible apply State.putB_stable hP | with_reducible apply State.put_stable hP | with_reducible apply State.consAccept_stable hP | with_reducible apply iff_stable (P := P) | with_reducible apply foldl_stable (P := P) | with_reducible apply foldl_stable_fst (P := P) | with_reducible apply foldl_stable_snd (P := P) | split | intro _ | dsimp +zetaDelta only []
theorem execEventArrive_stable (c : Fin 64) (ps : List Nat) (same : Bool) (s : State) (hm : P s) : Answers P (execEventArrive c ps same s) := by
  unfold execEventArrive; repeat' first | with_reducible assumption | with_reducible apply answers_next (P := P) | extract_lets | with_reducible apply hP.modEvt | with_reducible apply State.putB_stable hP | with_reducible apply State.bump_stable hP | with_reducible apply State.consMeet_stable hP | with_reducible apply iff_stable (P := P) | with_reducible apply foldl_stable (P := P) | with_reducible apply foldl_stable_fst (P := P) | with_reducible apply foldl_stable_snd (P := P) | split | intro _ | dsimp +zetaDelta only []
theorem execPendingAccept_stable (c : Fin 64) (s : State) (hm : P s) : Answers P (execPendingAccept c s) := by
  unfold execPendingAccept; repeat' first | with_reducible assumption | with_reducible apply answers_next (P := P) | extract_lets | with_reducible apply State.pendAccept_stable hP | with_reducible apply iff_stable (P := P) | with_reducible apply foldl_stable (P := P) | with_reducible apply foldl_stable_fst (P := P) | with_reducible apply foldl_stable_snd (P := P) | split | intro _ | dsimp +zetaDelta only []
theorem execSoft_stable (s : State) (hm : P s) : Answers P (execSoft s) := by
  unfold execSoft; repeat' first | with_reducible assumption | with_reducible apply answers_next (P := P) | extract_lets | with_reducible apply State.produce_stable hP | with_reducible apply iff_stable (P := P) | with_reducible apply foldl_stable (P := P) | with_reducible apply foldl_stable_fst (P := P) | with_reducible apply foldl_stable_snd (P := P) | split | intro _ | dsimp +zetaDelta only []
theorem execEvtPulseEnd_stable (k : Fin 8) (s : State) (hm : P s) : Answers P (execEvtPulseEnd k s) := by
  unfold execEvtPulseEnd; repeat' first | with_reducible assumption | with_reducible apply answers_next (P := P) | extract_lets | with_reducible apply State.endPulses_stable hP | with_reducible apply iff_stable (P := P) | with_reducible apply foldl_stable (P := P) | with_reducible apply foldl_stable_fst (P := P) | with_reducible apply foldl_stable_snd (P := P) | split | intro _ | dsimp +zetaDelta only []
theorem execPwmPeriodStart_stable (k : Fin 8) (s : State) (hm : P s) : Answers P (execPwmPeriodStart k s) := by
  unfold execPwmPeriodStart; repeat' first | with_reducible assumption | with_reducible apply answers_next (P := P) | extract_lets | with_reducible apply hP.setPulseEnd | with_reducible apply State.pinActive_stable hP | with_reducible apply State.pulsePin_stable hP | with_reducible apply iff_stable (P := P) | with_reducible apply foldl_stable (P := P) | with_reducible apply foldl_stable_fst (P := P) | with_reducible apply foldl_stable_snd (P := P) | split | intro _ | dsimp +zetaDelta only []
theorem execPwmHighEnd_stable (k : Fin 8) (s : State) (hm : P s) : Answers P (execPwmHighEnd k s) := by
  unfold execPwmHighEnd; repeat' first | with_reducible assumption | with_reducible apply answers_next (P := P) | extract_lets | with_reducible apply State.endPulses_stable hP | with_reducible apply iff_stable (P := P) | with_reducible apply foldl_stable (P := P) | with_reducible apply foldl_stable_fst (P := P) | with_reducible apply foldl_stable_snd (P := P) | split | intro _ | dsimp +zetaDelta only []
theorem State.toSill_stable (s : State) (p : Nat) (st : Nat) (hm : P s) : P (State.toSill s p st) := by
  unfold State.toSill; repeat' first | with_reducible assumption | with_reducible apply answers_next (P := P) | extract_lets | with_reducible apply State.put_stable hP | with_reducible apply State.modSport_stable hP | with_reducible apply iff_stable (P := P) | with_reducible apply foldl_stable (P := P) | with_reducible apply foldl_stable_fst (P := P) | with_reducible apply foldl_stable_snd (P := P) | split | intro _ | dsimp +zetaDelta only []
theorem State.showParent_stable (s : State) (hm : P s) : P (State.showParent s) := by
  unfold State.showParent; repeat' first | with_reducible assumption | with_reducible apply answers_next (P := P) | extract_lets | with_reducible apply State.putB_stable hP | with_reducible apply State.put_stable hP | with_reducible apply hP.modSill | with_reducible apply State.logC_stable hP | with_reducible apply iff_stable (P := P) | with_reducible apply foldl_stable (P := P) | with_reducible apply foldl_stable_fst (P := P) | with_reducible apply foldl_stable_snd (P := P) | split | intro _ | dsimp +zetaDelta only []
theorem State.setLocked_stable (s : State) (b : Bool) (hm : P s) : P (State.setLocked s b) := by
  unfold State.setLocked; repeat' first | with_reducible assumption | with_reducible apply answers_next (P := P) | extract_lets | with_reducible apply State.putB_stable hP | with_reducible apply State.raise_stable hP | with_reducible apply iff_stable (P := P) | with_reducible apply foldl_stable (P := P) | with_reducible apply foldl_stable_fst (P := P) | with_reducible apply foldl_stable_snd (P := P) | split | intro _ | dsimp +zetaDelta only []
theorem State.showHealth_stable (s : State) (hm : P s) : P (State.showHealth s) := by
  unfold State.showHealth; repeat' first | with_reducible assumption | with_reducible apply answers_next (P := P) | extract_lets | with_reducible apply State.putB_stable hP | with_reducible apply hP.modSill | with_reducible apply iff_stable (P := P) | with_reducible apply foldl_stable (P := P) | with_reducible apply foldl_stable_fst (P := P) | with_reducible apply foldl_stable_snd (P := P) | split | intro _ | dsimp +zetaDelta only []
theorem State.sillLeave_stable (s : State) (p : Nat) (st : Nat) (hm : P s) : P (State.sillLeave s p st) := by
  unfold State.sillLeave; repeat' first | with_reducible assumption | with_reducible apply answers_next (P := P) | extract_lets | with_reducible apply State.toSill_stable hP | with_reducible apply State.modSport_stable hP | with_reducible apply hP.free | with_reducible apply State.bump_stable hP | with_reducible apply State.raise_stable hP | with_reducible apply State.logC_stable hP | with_reducible apply State.showParent_stable hP | with_reducible apply iff_stable (P := P) | with_reducible apply foldl_stable (P := P) | with_reducible apply foldl_stable_fst (P := P) | with_reducible apply foldl_stable_snd (P := P) | split | intro _ | dsimp +zetaDelta only []
theorem State.sillStart_stable (s : State) (hm : P s) : P (State.sillStart s) := by
  unfold State.sillStart; repeat' first | with_reducible assumption | with_reducible apply answers_next (P := P) | extract_lets | with_reducible apply State.put_stable hP | with_reducible apply State.toSill_stable hP | with_reducible apply hP.modSill | with_reducible apply State.setLocked_stable hP | with_reducible apply State.showParent_stable hP | with_reducible apply iff_stable (P := P) | with_reducible apply foldl_stable (P := P) | with_reducible apply foldl_stable_fst (P := P) | with_reducible apply foldl_stable_snd (P := P) | split | intro _ | dsimp +zetaDelta only []
theorem execSillBlockLock_stable (p : Fin 4) (s : State) (hm : P s) : Answers P (execSillBlockLock p s) := by
  unfold execSillBlockLock; repeat' first | with_reducible assumption | with_reducible apply answers_next (P := P) | extract_lets | with_reducible apply State.toSill_stable hP | with_reducible apply State.modSport_stable hP | with_reducible apply iff_stable (P := P) | with_reducible apply foldl_stable (P := P) | with_reducible apply foldl_stable_fst (P := P) | with_reducible apply foldl_stable_snd (P := P) | split | intro _ | dsimp +zetaDelta only []
theorem execSillLinkLoss_stable (p : Fin 4) (s : State) (hm : P s) : Answers P (execSillLinkLoss p s) := by
  unfold execSillLinkLoss; repeat' first | with_reducible assumption | with_reducible apply answers_next (P := P) | extract_lets | with_reducible apply State.sillLeave_stable hP | with_reducible apply iff_stable (P := P) | with_reducible apply foldl_stable (P := P) | with_reducible apply foldl_stable_fst (P := P) | with_reducible apply foldl_stable_snd (P := P) | split | intro _ | dsimp +zetaDelta only []
theorem execHelloSend_stable (p : Fin 4) (s : State) (hm : P s) : Answers P (execHelloSend p s) := by
  unfold execHelloSend; repeat' first | with_reducible assumption | with_reducible apply answers_next (P := P) | extract_lets | with_reducible apply State.sillTx_stable hP | with_reducible apply iff_stable (P := P) | with_reducible apply foldl_stable (P := P) | with_reducible apply foldl_stable_fst (P := P) | with_reducible apply foldl_stable_snd (P := P) | split | intro _ | dsimp +zetaDelta only []
theorem State.strange_stable (s : State) (p : Nat) (type : Nat) (hm : P s) : P (State.strange s p type) := by
  unfold State.strange; repeat' first | with_reducible assumption | with_reducible apply answers_next (P := P) | extract_lets | with_reducible apply State.sillDiscard_stable hP | with_reducible apply iff_stable (P := P) | with_reducible apply foldl_stable (P := P) | with_reducible apply foldl_stable_fst (P := P) | with_reducible apply foldl_stable_snd (P := P) | split | intro _ | dsimp +zetaDelta only []
theorem State.helloDone_stable (s : State) (p : Nat) (depth : Nat) (alone : Bool) (hm : P s) : P (State.helloDone s p depth alone) := by
  unfold State.helloDone; repeat' first | with_reducible assumption | with_reducible apply answers_next (P := P) | extract_lets | with_reducible apply State.toSill_stable hP | with_reducible apply State.modSport_stable hP | with_reducible apply State.put_stable hP | with_reducible apply State.putB_stable hP | with_reducible apply hP.modSill | with_reducible apply State.logC_stable hP | with_reducible apply iff_stable (P := P) | with_reducible apply foldl_stable (P := P) | with_reducible apply foldl_stable_fst (P := P) | with_reducible apply foldl_stable_snd (P := P) | split | intro _ | dsimp +zetaDelta only []
theorem execHelloReceive_stable (p : Fin 4) (bs : List (Bool × Block)) (s : State) (hm : P s) : Answers P (execHelloReceive p bs s) := by
  unfold execHelloReceive; repeat' first | with_reducible assumption | with_reducible apply answers_next (P := P) | extract_lets | with_reducible apply State.strange_stable hP | with_reducible apply State.sillDiscard_stable hP | with_reducible apply State.put_stable hP | with_reducible apply State.toSill_stable hP | with_reducible apply State.logC_stable hP | with_reducible apply State.modSport_stable hP | with_reducible apply State.helloDone_stable hP | with_reducible apply iff_stable (P := P) | with_reducible apply foldl_stable (P := P) | with_reducible apply foldl_stable_fst (P := P) | with_reducible apply foldl_stable_snd (P := P) | split | intro _ | dsimp +zetaDelta only []
theorem execHelloTimeout_stable (p : Fin 4) (s : State) (hm : P s) : Answers P (execHelloTimeout p s) := by
  unfold execHelloTimeout; repeat' first | with_reducible assumption | with_reducible apply answers_next (P := P) | extract_lets | with_reducible apply State.sillLeave_stable hP | with_reducible apply iff_stable (P := P) | with_reducible apply foldl_stable (P := P) | with_reducible apply foldl_stable_fst (P := P) | with_reducible apply foldl_stable_snd (P := P) | split | intro _ | dsimp +zetaDelta only []
theorem execMeasureTimeout_stable (p : Fin 4) (s : State) (hm : P s) : Answers P (execMeasureTimeout p s) := by
  unfold execMeasureTimeout; repeat' first | with_reducible assumption | with_reducible apply answers_next (P := P) | extract_lets | with_reducible apply State.sillLeave_stable hP | with_reducible apply iff_stable (P := P) | with_reducible apply foldl_stable (P := P) | with_reducible apply foldl_stable_fst (P := P) | with_reducible apply foldl_stable_snd (P := P) | split | intro _ | dsimp +zetaDelta only []
theorem execFaultHoldExpiry_stable (p : Fin 4) (s : State) (hm : P s) : Answers P (execFaultHoldExpiry p s) := by
  unfold execFaultHoldExpiry; repeat' first | with_reducible assumption | with_reducible apply answers_next (P := P) | extract_lets | with_reducible apply State.sillLeave_stable hP | with_reducible apply iff_stable (P := P) | with_reducible apply foldl_stable (P := P) | with_reducible apply foldl_stable_fst (P := P) | with_reducible apply foldl_stable_snd (P := P) | split | intro _ | dsimp +zetaDelta only []
theorem State.sillEgress_stable (s : State) (p : Nat) (hm : P s) : P (State.sillEgress s p).2 := by
  unfold State.sillEgress; repeat' first | with_reducible assumption | with_reducible apply answers_next (P := P) | extract_lets | with_reducible apply State.txStamp_stable hP | with_reducible apply iff_stable (P := P) | with_reducible apply foldl_stable (P := P) | with_reducible apply foldl_stable_fst (P := P) | with_reducible apply foldl_stable_snd (P := P) | split | intro _ | dsimp +zetaDelta only []
theorem execSillProbeSend_stable (p : Fin 4) (s : State) (hm : P s) : Answers P (execSillProbeSend p s) := by
  unfold execSillProbeSend; repeat' first | with_reducible assumption | with_reducible apply answers_next (P := P) | extract_lets | with_reducible apply State.sillEgress_stable hP | with_reducible apply State.modSport_stable hP | with_reducible apply hP.emit | with_reducible apply iff_stable (P := P) | with_reducible apply foldl_stable (P := P) | with_reducible apply foldl_stable_fst (P := P) | with_reducible apply foldl_stable_snd (P := P) | split | intro _ | dsimp +zetaDelta only []
theorem execProbeReceive_stable (p : Fin 4) (b : Block) (turn : Nat) (s : State) (hm : P s) : Answers P (execProbeReceive p b turn s) := by
  unfold execProbeReceive; repeat' first | with_reducible assumption | with_reducible apply answers_next (P := P) | extract_lets | with_reducible apply State.strange_stable hP | with_reducible apply State.sillDiscard_stable hP | with_reducible apply hP.emit | with_reducible apply iff_stable (P := P) | with_reducible apply foldl_stable (P := P) | with_reducible apply foldl_stable_fst (P := P) | with_reducible apply foldl_stable_snd (P := P) | split | intro _ | dsimp +zetaDelta only []
theorem State.publishHop_stable (s : State) (p : Nat) (rs : List Int) (hm : P s) : P (State.publishHop s p rs) := by
  unfold State.publishHop; repeat' first | with_reducible assumption | with_reducible apply answers_next (P := P) | extract_lets | with_reducible apply State.wrN_stable hP | with_reducible apply State.put_stable hP | with_reducible apply State.publish_stable hP | with_reducible apply State.putB_stable hP | with_reducible apply State.logC_stable hP | with_reducible apply iff_stable (P := P) | with_reducible apply foldl_stable (P := P) | with_reducible apply foldl_stable_fst (P := P) | with_reducible apply foldl_stable_snd (P := P) | split | intro _ | dsimp +zetaDelta only []
theorem State.sillActive_stable (s : State) (p : Nat) (hm : P s) : P (State.sillActive s p) := by
  unfold State.sillActive; repeat' first | with_reducible assumption | with_reducible apply answers_next (P := P) | extract_lets | with_reducible apply State.toSill_stable hP | with_reducible apply State.raise_stable hP | with_reducible apply State.logC_stable hP | with_reducible apply State.showParent_stable hP | with_reducible apply iff_stable (P := P) | with_reducible apply foldl_stable (P := P) | with_reducible apply foldl_stable_fst (P := P) | with_reducible apply foldl_stable_snd (P := P) | split | intro _ | dsimp +zetaDelta only []
theorem execPechoReceive_stable (p : Fin 4) (b : Block) (ago : Nat) (s : State) (hm : P s) : Answers P (execPechoReceive p b ago s) := by
  unfold execPechoReceive; repeat' first | with_reducible assumption | with_reducible apply answers_next (P := P) | extract_lets | with_reducible apply State.strange_stable hP | with_reducible apply State.sillDiscard_stable hP | with_reducible apply State.modSport_stable hP | with_reducible apply State.publishHop_stable hP | with_reducible apply State.sillActive_stable hP | with_reducible apply iff_stable (P := P) | with_reducible apply foldl_stable (P := P) | with_reducible apply foldl_stable_fst (P := P) | with_reducible apply foldl_stable_snd (P := P) | split | intro _ | dsimp +zetaDelta only []
theorem execSyncSend_stable (p : Fin 4) (s : State) (hm : P s) : Answers P (execSyncSend p s) := by
  unfold execSyncSend; repeat' first | with_reducible assumption | with_reducible apply answers_next (P := P) | extract_lets | with_reducible apply State.sillEgress_stable hP | with_reducible apply State.modSport_stable hP | with_reducible apply hP.emit | with_reducible apply iff_stable (P := P) | with_reducible apply foldl_stable (P := P) | with_reducible apply foldl_stable_fst (P := P) | with_reducible apply foldl_stable_snd (P := P) | split | intro _ | dsimp +zetaDelta only []
theorem execSyncReceive_stable (p : Fin 4) (bs : List (Bool × Block)) (ago : Nat) (s : State) (hm : P s) : Answers P (execSyncReceive p bs ago s) := by
  unfold execSyncReceive; repeat' first | with_reducible assumption | with_reducible apply answers_next (P := P) | extract_lets | with_reducible apply State.strange_stable hP | with_reducible apply State.sillDiscard_stable hP | with_reducible apply State.modSport_stable hP | with_reducible apply State.putB_stable hP | with_reducible apply State.wrS_stable hP | with_reducible apply State.publishC_stable hP | with_reducible apply State.showParent_stable hP | with_reducible apply iff_stable (P := P) | with_reducible apply foldl_stable (P := P) | with_reducible apply foldl_stable_fst (P := P) | with_reducible apply foldl_stable_snd (P := P) | split | intro _ | dsimp +zetaDelta only []
theorem State.lockTime_stable (s : State) (hm : P s) : P (State.lockTime s) := by
  unfold State.lockTime; repeat' first | with_reducible assumption | with_reducible apply answers_next (P := P) | extract_lets | with_reducible apply State.setLocked_stable hP | with_reducible apply State.put_stable hP | with_reducible apply State.logC_stable hP | with_reducible apply iff_stable (P := P) | with_reducible apply foldl_stable (P := P) | with_reducible apply foldl_stable_fst (P := P) | with_reducible apply foldl_stable_snd (P := P) | split | intro _ | dsimp +zetaDelta only []
theorem State.unlockTime_stable (s : State) (hm : P s) : P (State.unlockTime s) := by
  unfold State.unlockTime; repeat' first | with_reducible assumption | with_reducible apply answers_next (P := P) | extract_lets | with_reducible apply State.setLocked_stable hP | with_reducible apply State.put_stable hP | with_reducible apply State.logC_stable hP | with_reducible apply iff_stable (P := P) | with_reducible apply foldl_stable (P := P) | with_reducible apply foldl_stable_fst (P := P) | with_reducible apply foldl_stable_snd (P := P) | split | intro _ | dsimp +zetaDelta only []
theorem State.judgeLock_stable (s : State) (within_ : Bool) (hm : P s) : P (State.judgeLock s within_) := by
  unfold State.judgeLock; repeat' first | with_reducible assumption | with_reducible apply answers_next (P := P) | extract_lets | with_reducible apply hP.modSill | with_reducible apply State.lockTime_stable hP | with_reducible apply State.unlockTime_stable hP | with_reducible apply iff_stable (P := P) | with_reducible apply foldl_stable (P := P) | with_reducible apply foldl_stable_fst (P := P) | with_reducible apply foldl_stable_snd (P := P) | split | intro _ | dsimp +zetaDelta only []
omit hP in
theorem State.done_stable (s : State) (o : Host.Outcome State Fault Refusal) (h : Answers P o) : P (s.done o) := by
  obtain ⟨t, rfl, h⟩ := h; exact h
theorem State.servoSlew_stable (s : State) (m : Int) (hm : P s) : P (State.servoSlew s m) := by
  unfold State.servoSlew; repeat' first | with_reducible assumption | with_reducible apply answers_next (P := P) | extract_lets | with_reducible apply hP.free | with_reducible apply execTbIncrWrite_stable hP | with_reducible apply execSlewStart_stable hP | with_reducible apply State.done_stable (P := P) | with_reducible apply iff_stable (P := P) | with_reducible apply foldl_stable (P := P) | with_reducible apply foldl_stable_fst (P := P) | with_reducible apply foldl_stable_snd (P := P) | split | intro _ | dsimp +zetaDelta only []
theorem execTimeServo_stable (s : State) (hm : P s) : Answers P (execTimeServo s) := by
  unfold execTimeServo; repeat' first | with_reducible assumption | with_reducible apply answers_next (P := P) | extract_lets | with_reducible apply State.wrS_stable hP | with_reducible apply State.tbStep_stable hP | with_reducible apply hP.modSill | with_reducible apply State.modSport_stable hP | with_reducible apply State.unlockTime_stable hP | with_reducible apply State.servoSlew_stable hP | with_reducible apply State.judgeLock_stable hP | with_reducible apply State.showHealth_stable hP | with_reducible apply iff_stable (P := P) | with_reducible apply foldl_stable (P := P) | with_reducible apply foldl_stable_fst (P := P) | with_reducible apply foldl_stable_snd (P := P) | split | intro _ | dsimp +zetaDelta only []
theorem execSyncTimeout_stable (s : State) (hm : P s) : Answers P (execSyncTimeout s) := by
  unfold execSyncTimeout; repeat' first | with_reducible assumption | with_reducible apply answers_next (P := P) | extract_lets | with_reducible apply hP.modSill | with_reducible apply State.unlockTime_stable hP | with_reducible apply State.showHealth_stable hP | with_reducible apply iff_stable (P := P) | with_reducible apply foldl_stable (P := P) | with_reducible apply foldl_stable_fst (P := P) | with_reducible apply foldl_stable_snd (P := P) | split | intro _ | dsimp +zetaDelta only []
theorem State.carry_stable (s : State) (hm : P s) : P (State.carry s) := by
  unfold State.carry; repeat' first | with_reducible assumption | with_reducible apply answers_next (P := P) | extract_lets | with_reducible apply State.putB_stable hP | with_reducible apply State.put_stable hP | with_reducible apply State.bump_stable hP | with_reducible apply State.raise_stable hP | with_reducible apply State.logC_stable hP | with_reducible apply State.showParent_stable hP | with_reducible apply iff_stable (P := P) | with_reducible apply foldl_stable (P := P) | with_reducible apply foldl_stable_fst (P := P) | with_reducible apply foldl_stable_snd (P := P) | split | intro _ | dsimp +zetaDelta only []
theorem execClaimSend_stable (s : State) (hm : P s) : Answers P (execClaimSend s) := by
  unfold execClaimSend; repeat' first | with_reducible assumption | with_reducible apply answers_next (P := P) | extract_lets | with_reducible apply State.sillSendRole_stable hP | with_reducible apply iff_stable (P := P) | with_reducible apply foldl_stable (P := P) | with_reducible apply foldl_stable_fst (P := P) | with_reducible apply foldl_stable_snd (P := P) | split | intro _ | dsimp +zetaDelta only []
theorem execClaimReceive_stable (p : Fin 4) (bs : List (Bool × Block)) (s : State) (hm : P s) : Answers P (execClaimReceive p bs s) := by
  unfold execClaimReceive; repeat' first | with_reducible assumption | with_reducible apply answers_next (P := P) | extract_lets | with_reducible apply State.strange_stable hP | with_reducible apply State.sillDiscard_stable hP | with_reducible apply hP.modSill | with_reducible apply State.carry_stable hP | with_reducible apply State.sillSendRole_stable hP | with_reducible apply iff_stable (P := P) | with_reducible apply foldl_stable (P := P) | with_reducible apply foldl_stable_fst (P := P) | with_reducible apply foldl_stable_snd (P := P) | split | intro _ | dsimp +zetaDelta only []
theorem execClaimWindowExpiry_stable (s : State) (hm : P s) : Answers P (execClaimWindowExpiry s) := by
  unfold execClaimWindowExpiry; repeat' first | with_reducible assumption | with_reducible apply answers_next (P := P) | extract_lets | with_reducible apply hP.modSill | with_reducible apply State.carry_stable hP | with_reducible apply iff_stable (P := P) | with_reducible apply foldl_stable (P := P) | with_reducible apply foldl_stable_fst (P := P) | with_reducible apply foldl_stable_snd (P := P) | split | intro _ | dsimp +zetaDelta only []
theorem execCechoSend_stable (s : State) (hm : P s) : Answers P (execCechoSend s) := by
  unfold execCechoSend; repeat' first | with_reducible assumption | with_reducible apply answers_next (P := P) | extract_lets | with_reducible apply State.sillSendRole_stable hP | with_reducible apply iff_stable (P := P) | with_reducible apply foldl_stable (P := P) | with_reducible apply foldl_stable_fst (P := P) | with_reducible apply foldl_stable_snd (P := P) | split | intro _ | dsimp +zetaDelta only []
theorem State.takeCarried_stable (s : State) (hm : P s) : P (State.takeCarried s) := by
  unfold State.takeCarried; repeat' first | with_reducible assumption | with_reducible apply answers_next (P := P) | extract_lets | with_reducible apply hP.modPch | with_reducible apply State.offset_stable hP | with_reducible apply State.putB_stable hP | with_reducible apply State.put_stable hP | with_reducible apply State.setDir_stable hP | with_reducible apply State.setWarm_stable hP | with_reducible apply iff_stable (P := P) | with_reducible apply foldl_stable (P := P) | with_reducible apply foldl_stable_fst (P := P) | with_reducible apply foldl_stable_snd (P := P) | split | intro _ | dsimp +zetaDelta only []
theorem State.becomeHolder_stable (s : State) (hm : P s) : P (State.becomeHolder s) := by
  unfold State.becomeHolder; repeat' first | with_reducible assumption | with_reducible apply answers_next (P := P) | extract_lets | with_reducible apply State.put_stable hP | with_reducible apply State.takeCarried_stable hP | with_reducible apply State.setLocked_stable hP | with_reducible apply hP.modSill | with_reducible apply State.showParent_stable hP | with_reducible apply State.showHealth_stable hP | with_reducible apply iff_stable (P := P) | with_reducible apply foldl_stable (P := P) | with_reducible apply foldl_stable_fst (P := P) | with_reducible apply foldl_stable_snd (P := P) | split | intro _ | dsimp +zetaDelta only []
theorem State.becomeStandby_stable (s : State) (hm : P s) : P (State.becomeStandby s) := by
  unfold State.becomeStandby; repeat' first | with_reducible assumption | with_reducible apply answers_next (P := P) | extract_lets | with_reducible apply State.put_stable hP | with_reducible apply hP.modSill | with_reducible apply State.putB_stable hP | with_reducible apply State.showParent_stable hP | with_reducible apply State.showHealth_stable hP | with_reducible apply iff_stable (P := P) | with_reducible apply foldl_stable (P := P) | with_reducible apply foldl_stable_fst (P := P) | with_reducible apply foldl_stable_snd (P := P) | split | intro _ | dsimp +zetaDelta only []
theorem State.holdoffStart_stable (s : State) (hm : P s) : P (State.holdoffStart s) := by
  unfold State.holdoffStart; repeat' first | with_reducible assumption | with_reducible apply answers_next (P := P) | extract_lets | with_reducible apply hP.modSill | with_reducible apply iff_stable (P := P) | with_reducible apply foldl_stable (P := P) | with_reducible apply foldl_stable_fst (P := P) | with_reducible apply foldl_stable_snd (P := P) | split | intro _ | dsimp +zetaDelta only []
theorem State.unblock_stable (s : State) (hm : P s) : P (State.unblock s) := by
  unfold State.unblock; repeat' first | with_reducible assumption | with_reducible apply answers_next (P := P) | extract_lets | with_reducible apply State.putB_stable hP | with_reducible apply State.holdoffStart_stable hP | with_reducible apply iff_stable (P := P) | with_reducible apply foldl_stable (P := P) | with_reducible apply foldl_stable_fst (P := P) | with_reducible apply foldl_stable_snd (P := P) | split | intro _ | dsimp +zetaDelta only []
theorem State.blockedCheck_stable (s : State) (hm : P s) : P (State.blockedCheck s) := by
  unfold State.blockedCheck; repeat' first | with_reducible assumption | with_reducible apply answers_next (P := P) | extract_lets | with_reducible apply State.unblock_stable hP | with_reducible apply iff_stable (P := P) | with_reducible apply foldl_stable (P := P) | with_reducible apply foldl_stable_fst (P := P) | with_reducible apply foldl_stable_snd (P := P) | split | intro _ | dsimp +zetaDelta only []
theorem State.echoClose_stable (s : State) (hm : P s) : P (State.echoClose s) := by
  unfold State.echoClose; repeat' first | with_reducible assumption | with_reducible apply answers_next (P := P) | extract_lets | with_reducible apply hP.modSill | with_reducible apply State.putB_stable hP | with_reducible apply State.raise_stable hP | with_reducible apply State.bump_stable hP | with_reducible apply State.logC_stable hP | with_reducible apply State.becomeStandby_stable hP | with_reducible apply iff_stable (P := P) | with_reducible apply foldl_stable (P := P) | with_reducible apply foldl_stable_fst (P := P) | with_reducible apply foldl_stable_snd (P := P) | split | intro _ | dsimp +zetaDelta only []
theorem State.echoTime_stable (s : State) (hm : P s) : P (State.echoTime s) := by
  unfold State.echoTime; repeat' first | with_reducible assumption | with_reducible apply answers_next (P := P) | extract_lets | with_reducible apply State.echoClose_stable hP | with_reducible apply iff_stable (P := P) | with_reducible apply foldl_stable (P := P) | with_reducible apply foldl_stable_fst (P := P) | with_reducible apply foldl_stable_snd (P := P) | split | intro _ | dsimp +zetaDelta only []
theorem State.cechoHeard_stable (s : State) (p : Nat) (n : Nat) (hm : P s) : P (State.cechoHeard s p n) := by
  unfold State.cechoHeard; repeat' first | with_reducible assumption | with_reducible apply answers_next (P := P) | extract_lets | with_reducible apply State.echoTime_stable hP | with_reducible apply State.modSport_stable hP | with_reducible apply hP.modSill | with_reducible apply State.raise_stable hP | with_reducible apply State.bump_stable hP | with_reducible apply State.logC_stable hP | with_reducible apply State.echoClose_stable hP | with_reducible apply iff_stable (P := P) | with_reducible apply foldl_stable (P := P) | with_reducible apply foldl_stable_fst (P := P) | with_reducible apply foldl_stable_snd (P := P) | split | intro _ | dsimp +zetaDelta only []
theorem execCechoReceive_stable (p : Fin 4) (b : Block) (s : State) (hm : P s) : Answers P (execCechoReceive p b s) := by
  unfold execCechoReceive; repeat' first | with_reducible assumption | with_reducible apply answers_next (P := P) | extract_lets | with_reducible apply State.strange_stable hP | with_reducible apply State.sillDiscard_stable hP | with_reducible apply State.cechoHeard_stable hP | with_reducible apply State.blockedCheck_stable hP | with_reducible apply State.showParent_stable hP | with_reducible apply iff_stable (P := P) | with_reducible apply foldl_stable (P := P) | with_reducible apply foldl_stable_fst (P := P) | with_reducible apply foldl_stable_snd (P := P) | split | intro _ | dsimp +zetaDelta only []
theorem State.swapRefused_stable (s : State) (hm : P s) : P (State.swapRefused s) := by
  unfold State.swapRefused; repeat' first | with_reducible assumption | with_reducible apply answers_next (P := P) | extract_lets | with_reducible apply hP.free | with_reducible apply State.raise_stable hP | with_reducible apply State.bump_stable hP | with_reducible apply State.logC_stable hP | with_reducible apply iff_stable (P := P) | with_reducible apply foldl_stable (P := P) | with_reducible apply foldl_stable_fst (P := P) | with_reducible apply foldl_stable_snd (P := P) | split | intro _ | dsimp +zetaDelta only []
theorem State.swapAgreed_stable (s : State) (t : Nat) (hm : P s) : P (State.swapAgreed s t) := by
  unfold State.swapAgreed; repeat' first | with_reducible assumption | with_reducible apply answers_next (P := P) | extract_lets | with_reducible apply hP.modSill | with_reducible apply State.wrTime_stable hP | with_reducible apply State.putB_stable hP | with_reducible apply iff_stable (P := P) | with_reducible apply foldl_stable (P := P) | with_reducible apply foldl_stable_fst (P := P) | with_reducible apply foldl_stable_snd (P := P) | split | intro _ | dsimp +zetaDelta only []
theorem State.propose_stable (s : State) (hm : P s) : P (State.propose s) := by
  unfold State.propose; repeat' first | with_reducible assumption | with_reducible apply answers_next (P := P) | extract_lets | with_reducible apply State.swapRefused_stable hP | with_reducible apply hP.modSill | with_reducible apply iff_stable (P := P) | with_reducible apply foldl_stable (P := P) | with_reducible apply foldl_stable_fst (P := P) | with_reducible apply foldl_stable_snd (P := P) | split | intro _ | dsimp +zetaDelta only []
theorem execBeatSend_stable (s : State) (hm : P s) : Answers P (execBeatSend s) := by
  unfold execBeatSend; repeat' first | with_reducible assumption | with_reducible apply answers_next (P := P) | extract_lets | with_reducible apply State.showHealth_stable hP | with_reducible apply State.sillSendRole_stable hP | with_reducible apply hP.modSill | with_reducible apply State.putB_stable hP | with_reducible apply iff_stable (P := P) | with_reducible apply foldl_stable (P := P) | with_reducible apply foldl_stable_fst (P := P) | with_reducible apply foldl_stable_snd (P := P) | split | intro _ | dsimp +zetaDelta only []
theorem State.swapRequested_stable (s : State) (t : Nat) (hm : P s) : P (State.swapRequested s t) := by
  unfold State.swapRequested; repeat' first | with_reducible assumption | with_reducible apply answers_next (P := P) | extract_lets | with_reducible apply hP.modSill | with_reducible apply State.swapRefused_stable hP | with_reducible apply State.swapAgreed_stable hP | with_reducible apply iff_stable (P := P) | with_reducible apply foldl_stable (P := P) | with_reducible apply foldl_stable_fst (P := P) | with_reducible apply foldl_stable_snd (P := P) | split | intro _ | dsimp +zetaDelta only []
theorem State.swapAnswered_stable (s : State) (ack : Bool) (t : Nat) (hm : P s) : P (State.swapAnswered s ack t) := by
  unfold State.swapAnswered; repeat' first | with_reducible assumption | with_reducible apply answers_next (P := P) | extract_lets | with_reducible apply State.putB_stable hP | with_reducible apply State.wrTime_stable hP | with_reducible apply hP.modSill | with_reducible apply State.swapRefused_stable hP | with_reducible apply State.swapAgreed_stable hP | with_reducible apply iff_stable (P := P) | with_reducible apply foldl_stable (P := P) | with_reducible apply foldl_stable_fst (P := P) | with_reducible apply foldl_stable_snd (P := P) | split | intro _ | dsimp +zetaDelta only []
theorem State.beatHeard_stable (s : State) (bs : List (Bool × Block)) (hm : P s) : P (State.beatHeard s bs) := by
  unfold State.beatHeard; repeat' first | with_reducible assumption | with_reducible apply answers_next (P := P) | extract_lets | with_reducible apply hP.modSill | with_reducible apply State.put_stable hP | with_reducible apply State.putB_stable hP | with_reducible apply iff_stable (P := P) | with_reducible apply foldl_stable (P := P) | with_reducible apply foldl_stable_fst (P := P) | with_reducible apply foldl_stable_snd (P := P) | split | intro _ | dsimp +zetaDelta only []
theorem execBeatReceive_stable (p : Fin 4) (bs : List (Bool × Block)) (s : State) (hm : P s) : Answers P (execBeatReceive p bs s) := by
  unfold execBeatReceive; repeat' first | with_reducible assumption | with_reducible apply answers_next (P := P) | extract_lets | with_reducible apply State.strange_stable hP | with_reducible apply State.sillDiscard_stable hP | with_reducible apply State.beatHeard_stable hP | with_reducible apply State.swapRequested_stable hP | with_reducible apply State.swapAnswered_stable hP | with_reducible apply State.showHealth_stable hP | with_reducible apply iff_stable (P := P) | with_reducible apply foldl_stable (P := P) | with_reducible apply foldl_stable_fst (P := P) | with_reducible apply foldl_stable_snd (P := P) | split | intro _ | dsimp +zetaDelta only []
theorem execTwinWatchStart_stable (s : State) (hm : P s) : Answers P (execTwinWatchStart s) := by
  unfold execTwinWatchStart; repeat' first | with_reducible assumption | with_reducible apply answers_next (P := P) | extract_lets | with_reducible apply hP.modSill | with_reducible apply iff_stable (P := P) | with_reducible apply foldl_stable (P := P) | with_reducible apply foldl_stable_fst (P := P) | with_reducible apply foldl_stable_snd (P := P) | split | intro _ | dsimp +zetaDelta only []
theorem execHbLost_stable (s : State) (hm : P s) : Answers P (execHbLost s) := by
  unfold execHbLost; repeat' first | with_reducible assumption | with_reducible apply answers_next (P := P) | extract_lets | with_reducible apply State.putB_stable hP | with_reducible apply State.raise_stable hP | with_reducible apply State.bump_stable hP | with_reducible apply State.logC_stable hP | with_reducible apply hP.modSill | with_reducible apply State.holdoffStart_stable hP | with_reducible apply iff_stable (P := P) | with_reducible apply foldl_stable (P := P) | with_reducible apply foldl_stable_fst (P := P) | with_reducible apply foldl_stable_snd (P := P) | split | intro _ | dsimp +zetaDelta only []
theorem execNoHolderTimeout_stable (s : State) (hm : P s) : Answers P (execNoHolderTimeout s) := by
  unfold execNoHolderTimeout; repeat' first | with_reducible assumption | with_reducible apply answers_next (P := P) | extract_lets | with_reducible apply State.holdoffStart_stable hP | with_reducible apply iff_stable (P := P) | with_reducible apply foldl_stable (P := P) | with_reducible apply foldl_stable_fst (P := P) | with_reducible apply foldl_stable_snd (P := P) | split | intro _ | dsimp +zetaDelta only []
theorem execClaimHoldoffExpiry_stable (s : State) (hm : P s) : Answers P (execClaimHoldoffExpiry s) := by
  unfold execClaimHoldoffExpiry; repeat' first | with_reducible assumption | with_reducible apply answers_next (P := P) | extract_lets | with_reducible apply State.bump_stable hP | with_reducible apply State.raise_stable hP | with_reducible apply State.logC_stable hP | with_reducible apply State.becomeHolder_stable hP | with_reducible apply iff_stable (P := P) | with_reducible apply foldl_stable (P := P) | with_reducible apply foldl_stable_fst (P := P) | with_reducible apply foldl_stable_snd (P := P) | split | intro _ | dsimp +zetaDelta only []
theorem State.swapReq_stable (s : State) (hm : P s) : P (State.swapReq s) := by
  unfold State.swapReq; repeat' first | with_reducible assumption | with_reducible apply answers_next (P := P) | extract_lets | with_reducible apply State.propose_stable hP | with_reducible apply State.putB_stable hP | with_reducible apply iff_stable (P := P) | with_reducible apply foldl_stable (P := P) | with_reducible apply foldl_stable_fst (P := P) | with_reducible apply foldl_stable_snd (P := P) | split | intro _ | dsimp +zetaDelta only []
theorem execSwapReq_stable (master : Fin 3) (s : State) (hm : P s) : Answers P (execSwapReq master s) := by
  unfold execSwapReq; repeat' first | with_reducible assumption | with_reducible apply answers_next (P := P) | extract_lets | with_reducible apply State.unreached_stable hP | with_reducible apply State.badAccess_stable hP | with_reducible apply State.swapReq_stable hP | with_reducible apply iff_stable (P := P) | with_reducible apply foldl_stable (P := P) | with_reducible apply foldl_stable_fst (P := P) | with_reducible apply foldl_stable_snd (P := P) | split | intro _ | dsimp +zetaDelta only []
theorem execSwapTakingStart_stable (s : State) (hm : P s) : Answers P (execSwapTakingStart s) := by
  unfold execSwapTakingStart; repeat' first | with_reducible assumption | with_reducible apply answers_next (P := P) | extract_lets | with_reducible apply hP.modSill | with_reducible apply iff_stable (P := P) | with_reducible apply foldl_stable (P := P) | with_reducible apply foldl_stable_fst (P := P) | with_reducible apply foldl_stable_snd (P := P) | split | intro _ | dsimp +zetaDelta only []
theorem execSwapPoint_stable (s : State) (hm : P s) : Answers P (execSwapPoint s) := by
  unfold execSwapPoint; repeat' first | with_reducible assumption | with_reducible apply answers_next (P := P) | extract_lets | with_reducible apply State.putB_stable hP | with_reducible apply State.wrTime_stable hP | with_reducible apply hP.modSill | with_reducible apply State.becomeHolder_stable hP | with_reducible apply State.becomeStandby_stable hP | with_reducible apply State.carry_stable hP | with_reducible apply iff_stable (P := P) | with_reducible apply foldl_stable (P := P) | with_reducible apply foldl_stable_fst (P := P) | with_reducible apply foldl_stable_snd (P := P) | split | intro _ | dsimp +zetaDelta only []
theorem execRevertHoldExpiry_stable (s : State) (hm : P s) : Answers P (execRevertHoldExpiry s) := by
  unfold execRevertHoldExpiry; repeat' first | with_reducible assumption | with_reducible apply answers_next (P := P) | extract_lets | with_reducible apply State.propose_stable hP | with_reducible apply State.putB_stable hP | with_reducible apply iff_stable (P := P) | with_reducible apply foldl_stable (P := P) | with_reducible apply foldl_stable_fst (P := P) | with_reducible apply foldl_stable_snd (P := P) | split | intro _ | dsimp +zetaDelta only []
theorem execSwapPeriodExpiry_stable (s : State) (hm : P s) : Answers P (execSwapPeriodExpiry s) := by
  unfold execSwapPeriodExpiry; repeat' first | with_reducible assumption | with_reducible apply answers_next (P := P) | extract_lets | with_reducible apply State.propose_stable hP | with_reducible apply State.putB_stable hP | with_reducible apply iff_stable (P := P) | with_reducible apply foldl_stable (P := P) | with_reducible apply foldl_stable_fst (P := P) | with_reducible apply foldl_stable_snd (P := P) | split | intro _ | dsimp +zetaDelta only []
theorem State.setSlot_stable (s : State) (k : Nat) (x : Slot) (hm : P s) : P (State.setSlot s k x) := by
  unfold State.setSlot; repeat' first | with_reducible assumption | with_reducible apply answers_next (P := P) | extract_lets | with_reducible apply hP.modSill | with_reducible apply iff_stable (P := P) | with_reducible apply foldl_stable (P := P) | with_reducible apply foldl_stable_fst (P := P) | with_reducible apply foldl_stable_snd (P := P) | split | intro _ | dsimp +zetaDelta only []
theorem State.slotFrame_stable (s : State) (ts : Nat) (anchor : Nat) (xhi : Nat) (c : Block) (d : Block) (hm : P s) : P (State.slotFrame s ts anchor xhi c d) := by
  unfold State.slotFrame; repeat' first | with_reducible assumption | with_reducible apply answers_next (P := P) | extract_lets | with_reducible apply State.setSlot_stable hP | with_reducible apply State.posFrame_stable hP | with_reducible apply iff_stable (P := P) | with_reducible apply foldl_stable (P := P) | with_reducible apply foldl_stable_fst (P := P) | with_reducible apply foldl_stable_snd (P := P) | split | intro _ | dsimp +zetaDelta only []
theorem State.slotFrames_stable (s : State) (p ts anchor xhi : Nat) (l : List (Bool × Block)) (hm : P s) :
    P (State.slotFrames s p ts anchor xhi l).1 := by
  fun_induction State.slotFrames s p ts anchor xhi l with
  | case1 s c d rest h r ih => exact ih (State.slotFrame_stable hP _ _ _ _ _ _ hm)
  | case2 s c d rest h ih => exact ih (State.sillDiscard_stable hP _ _ hm)
  | case3 => exact hm
theorem execPosBurstReceive_stable (p : Fin 4) (bs : List (Bool × Block)) (s : State) (hm : P s) : Answers P (execPosBurstReceive p bs s) := by
  unfold execPosBurstReceive; repeat' first | with_reducible assumption | with_reducible apply answers_next (P := P) | extract_lets | with_reducible apply State.strange_stable hP | with_reducible apply State.sillDiscard_stable hP | with_reducible apply State.slotFrames_stable hP | with_reducible apply State.sillSendRole_stable hP | with_reducible apply State.sillTx_stable hP | with_reducible apply iff_stable (P := P) | with_reducible apply foldl_stable (P := P) | with_reducible apply foldl_stable_fst (P := P) | with_reducible apply foldl_stable_snd (P := P) | split | intro _ | dsimp +zetaDelta only []
theorem State.sillRelay_stable (s : State) (p : Nat) (t : SillTx) (hm : P s) : P (State.sillRelay s p t).2 := by
  unfold State.sillRelay; repeat' first | with_reducible assumption | with_reducible apply answers_next (P := P) | extract_lets | with_reducible apply State.sillSendRole_stable hP | with_reducible apply State.sillUp_stable hP | with_reducible apply iff_stable (P := P) | with_reducible apply foldl_stable (P := P) | with_reducible apply foldl_stable_fst (P := P) | with_reducible apply foldl_stable_snd (P := P) | split | intro _ | dsimp +zetaDelta only []
theorem State.fabDeliver_stable (s : State) (line : Nat) (hop : Nat) (hm : P s) : P (State.fabDeliver s line hop) := by
  unfold State.fabDeliver; repeat' first | with_reducible assumption | with_reducible apply answers_next (P := P) | extract_lets | with_reducible apply State.produce_stable hP | with_reducible apply iff_stable (P := P) | with_reducible apply foldl_stable (P := P) | with_reducible apply foldl_stable_fst (P := P) | with_reducible apply foldl_stable_snd (P := P) | split | intro _ | dsimp +zetaDelta only []
theorem execEventFrameReceive_stable (p : Fin 4) (bs : List (Bool × Block)) (s : State) (hm : P s) : Answers P (execEventFrameReceive p bs s) := by
  unfold execEventFrameReceive; repeat' first | with_reducible assumption | with_reducible apply answers_next (P := P) | extract_lets | with_reducible apply State.strange_stable hP | with_reducible apply State.sillDiscard_stable hP | with_reducible apply State.sillRelay_stable hP | with_reducible apply State.fabDeliver_stable hP | with_reducible apply State.bump_stable hP | with_reducible apply State.raise_stable hP | with_reducible apply State.logOnce_stable hP | with_reducible apply hP.modSill | with_reducible apply iff_stable (P := P) | with_reducible apply foldl_stable (P := P) | with_reducible apply foldl_stable_fst (P := P) | with_reducible apply foldl_stable_snd (P := P) | split | intro _ | dsimp +zetaDelta only []
theorem execAlignedEventDue_stable (s : State) (hm : P s) : Answers P (execAlignedEventDue s) := by
  unfold execAlignedEventDue; repeat' first | with_reducible assumption | with_reducible apply answers_next (P := P) | extract_lets | with_reducible apply hP.modSill | with_reducible apply State.fabDeliver_stable hP | with_reducible apply iff_stable (P := P) | with_reducible apply foldl_stable (P := P) | with_reducible apply foldl_stable_fst (P := P) | with_reducible apply foldl_stable_snd (P := P) | split | intro _ | dsimp +zetaDelta only []
theorem State.schedAccept_stable (s : State) (bs : List (Bool × Block)) (hm : P s) : P (State.schedAccept s bs) := by
  unfold State.schedAccept; repeat' first | with_reducible assumption | with_reducible apply answers_next (P := P) | extract_lets | with_reducible apply State.bump_stable hP | with_reducible apply State.raise_stable hP | with_reducible apply State.logOnce_stable hP | with_reducible apply State.wr64_stable hP | with_reducible apply State.wrN_stable hP | with_reducible apply iff_stable (P := P) | with_reducible apply foldl_stable (P := P) | with_reducible apply foldl_stable_fst (P := P) | with_reducible apply foldl_stable_snd (P := P) | split | intro _ | dsimp +zetaDelta only []
theorem State.schedGo_stable (s : State) (hm : P s) : P (State.schedGo s) := by
  unfold State.schedGo; repeat' first | with_reducible assumption | with_reducible apply answers_next (P := P) | extract_lets | with_reducible apply State.putB_stable hP | with_reducible apply State.sillUp_stable hP | with_reducible apply State.schedAccept_stable hP | with_reducible apply iff_stable (P := P) | with_reducible apply foldl_stable (P := P) | with_reducible apply foldl_stable_fst (P := P) | with_reducible apply foldl_stable_snd (P := P) | split | intro _ | dsimp +zetaDelta only []
theorem execSchedGo_stable (master : Fin 3) (s : State) (hm : P s) : Answers P (execSchedGo master s) := by
  unfold execSchedGo; repeat' first | with_reducible assumption | with_reducible apply answers_next (P := P) | extract_lets | with_reducible apply State.unreached_stable hP | with_reducible apply State.badAccess_stable hP | with_reducible apply State.schedGo_stable hP | with_reducible apply iff_stable (P := P) | with_reducible apply foldl_stable (P := P) | with_reducible apply foldl_stable_fst (P := P) | with_reducible apply foldl_stable_snd (P := P) | split | intro _ | dsimp +zetaDelta only []
theorem execSchedFrameReceive_stable (p : Fin 4) (bs : List (Bool × Block)) (s : State) (hm : P s) : Answers P (execSchedFrameReceive p bs s) := by
  unfold execSchedFrameReceive; repeat' first | with_reducible assumption | with_reducible apply answers_next (P := P) | extract_lets | with_reducible apply State.strange_stable hP | with_reducible apply State.sillDiscard_stable hP | with_reducible apply State.sillRelay_stable hP | with_reducible apply State.schedAccept_stable hP | with_reducible apply iff_stable (P := P) | with_reducible apply foldl_stable (P := P) | with_reducible apply foldl_stable_fst (P := P) | with_reducible apply foldl_stable_snd (P := P) | split | intro _ | dsimp +zetaDelta only []
theorem State.mgmtSend_stable (s : State) (dest : Nat) (msg : List Byte) (hm : P s) : P (State.mgmtSend s dest msg) := by
  unfold State.mgmtSend; repeat' first | with_reducible assumption | with_reducible apply answers_next (P := P) | extract_lets | with_reducible apply hP.modSill | with_reducible apply State.sillUp_stable hP | with_reducible apply iff_stable (P := P) | with_reducible apply foldl_stable (P := P) | with_reducible apply foldl_stable_fst (P := P) | with_reducible apply foldl_stable_snd (P := P) | split | intro _ | dsimp +zetaDelta only []
theorem State.sillTick_stable (s : State) (hm : P s) : P (State.sillTick s) := by
  unfold State.sillTick; repeat' first | with_reducible assumption | with_reducible apply answers_next (P := P) | extract_lets | with_reducible apply State.carry_stable hP | with_reducible apply State.echoTime_stable hP | with_reducible apply State.blockedCheck_stable hP | with_reducible apply State.showHealth_stable hP | with_reducible apply State.sillDrain_stable hP | with_reducible apply iff_stable (P := P) | with_reducible apply foldl_stable (P := P) | with_reducible apply foldl_stable_fst (P := P) | with_reducible apply foldl_stable_snd (P := P) | split | intro _ | dsimp +zetaDelta only []
theorem State.keepPerst_stable (s : State) (t : State) (hm : P s) : P (State.keepPerst s t) := by
  unfold State.keepPerst; repeat' first | with_reducible assumption | with_reducible apply answers_next (P := P) | extract_lets | with_reducible apply State.putB_stable hP | with_reducible apply iff_stable (P := P) | with_reducible apply foldl_stable (P := P) | with_reducible apply foldl_stable_fst (P := P) | with_reducible apply foldl_stable_snd (P := P) | split | intro _ | dsimp +zetaDelta only []
theorem State.setCause_stable (s : State) (c : Nat) (hm : P s) : P (State.setCause s c) := by
  unfold State.setCause; repeat' first | with_reducible assumption | with_reducible apply answers_next (P := P) | extract_lets | with_reducible apply State.put_stable hP | with_reducible apply iff_stable (P := P) | with_reducible apply foldl_stable (P := P) | with_reducible apply foldl_stable_fst (P := P) | with_reducible apply foldl_stable_snd (P := P) | split | intro _ | dsimp +zetaDelta only []
theorem State.mcReset_stable (s : State) (c : Nat) (hm : P s) : P (State.mcReset s c) := by
  unfold State.mcReset; repeat' first | with_reducible assumption | with_reducible apply answers_next (P := P) | extract_lets | with_reducible apply State.setCause_stable hP | with_reducible apply State.mboxDone_stable hP | with_reducible apply hP.modMc | (intro _; rfl) | with_reducible apply hP.modPower | (intro _; rfl) | with_reducible apply State.wrN_stable hP | with_reducible apply State.putB_stable hP | with_reducible apply iff_stable (P := P) | with_reducible apply foldl_stable (P := P) | with_reducible apply foldl_stable_fst (P := P) | with_reducible apply foldl_stable_snd (P := P) | split | intro _ | dsimp +zetaDelta only []
theorem State.sampleStraps_stable (s : State) (mode : Nat) (flashIf : Bool) (hm : P s) : P (State.sampleStraps s mode flashIf) := by
  unfold State.sampleStraps; repeat' first | with_reducible assumption | with_reducible apply answers_next (P := P) | extract_lets | with_reducible apply State.put_stable hP | with_reducible apply State.putB_stable hP | with_reducible apply iff_stable (P := P) | with_reducible apply foldl_stable (P := P) | with_reducible apply foldl_stable_fst (P := P) | with_reducible apply foldl_stable_snd (P := P) | split | intro _ | dsimp +zetaDelta only []
theorem execSysRstAssert_stable (s : State) (hm : P s) : Answers P (execSysRstAssert s) := by
  unfold execSysRstAssert; repeat' first | with_reducible assumption | with_reducible apply answers_next (P := P) | extract_lets | with_reducible apply hP.sysReset | with_reducible apply iff_stable (P := P) | with_reducible apply foldl_stable (P := P) | with_reducible apply foldl_stable_fst (P := P) | with_reducible apply foldl_stable_snd (P := P) | split | intro _ | dsimp +zetaDelta only []
theorem execSystemResetRelease_stable (s : State) (hm : P s) : Answers P (execSystemResetRelease s) := by
  unfold execSystemResetRelease; repeat' first | with_reducible assumption | with_reducible apply answers_next (P := P) | extract_lets | with_reducible apply hP.modPower | (intro _; rfl) | with_reducible apply State.showCap_stable hP | with_reducible apply iff_stable (P := P) | with_reducible apply foldl_stable (P := P) | with_reducible apply foldl_stable_fst (P := P) | with_reducible apply foldl_stable_snd (P := P) | split | intro _ | dsimp +zetaDelta only []
theorem execSysResetRequest_stable (master : Fin 3) (s : State) (hm : P s) : Answers P (execSysResetRequest master s) := by
  unfold execSysResetRequest; repeat' first | with_reducible assumption | with_reducible apply answers_next (P := P) | extract_lets | with_reducible apply State.unreached_stable hP | with_reducible apply hP.sysReset | with_reducible apply State.badAccess_stable hP | with_reducible apply iff_stable (P := P) | with_reducible apply foldl_stable (P := P) | with_reducible apply foldl_stable_fst (P := P) | with_reducible apply foldl_stable_snd (P := P) | split | intro _ | dsimp +zetaDelta only []
theorem execMcResetRequest_stable (master : Fin 3) (s : State) (hm : P s) : Answers P (execMcResetRequest master s) := by
  unfold execMcResetRequest; repeat' first | with_reducible assumption | with_reducible apply answers_next (P := P) | extract_lets | with_reducible apply State.unreached_stable hP | with_reducible apply State.mcReset_stable hP | with_reducible apply State.badAccess_stable hP | with_reducible apply iff_stable (P := P) | with_reducible apply foldl_stable (P := P) | with_reducible apply foldl_stable_fst (P := P) | with_reducible apply foldl_stable_snd (P := P) | split | intro _ | dsimp +zetaDelta only []
theorem execMcWatchdogExpiry_stable (s : State) (hm : P s) : Answers P (execMcWatchdogExpiry s) := by
  unfold execMcWatchdogExpiry; repeat' first | with_reducible assumption | with_reducible apply answers_next (P := P) | extract_lets | with_reducible apply State.mcReset_stable hP | with_reducible apply State.bump_stable hP | with_reducible apply State.raise_stable hP | with_reducible apply iff_stable (P := P) | with_reducible apply foldl_stable (P := P) | with_reducible apply foldl_stable_fst (P := P) | with_reducible apply foldl_stable_snd (P := P) | split | intro _ | dsimp +zetaDelta only []
theorem State.setLock_stable (s : State) (i : Nat) (b : Bool) (hm : P s) : P (State.setLock s i b) := by
  unfold State.setLock; repeat' first | with_reducible assumption | with_reducible apply answers_next (P := P) | extract_lets | with_reducible apply State.putB_stable hP | with_reducible apply State.showDdrLock_stable hP | with_reducible apply iff_stable (P := P) | with_reducible apply foldl_stable (P := P) | with_reducible apply foldl_stable_fst (P := P) | with_reducible apply foldl_stable_snd (P := P) | split | intro _ | dsimp +zetaDelta only []
theorem execPllLossOfLock_stable (i : Fin 16) (s : State) (hm : P s) : Answers P (execPllLossOfLock i s) := by
  unfold execPllLossOfLock; repeat' first | with_reducible assumption | with_reducible apply answers_next (P := P) | extract_lets | with_reducible apply State.setLock_stable hP | with_reducible apply State.putB_stable hP | with_reducible apply State.raise_stable hP | with_reducible apply State.logC_stable hP | with_reducible apply State.mcReset_stable hP | with_reducible apply hP.sysReset | with_reducible apply State.sillLeave_stable hP | with_reducible apply State.linkDown_stable hP | with_reducible apply State.ddrRetire_stable hP | with_reducible apply iff_stable (P := P) | with_reducible apply foldl_stable (P := P) | with_reducible apply foldl_stable_fst (P := P) | with_reducible apply foldl_stable_snd (P := P) | split | intro _ | dsimp +zetaDelta only []
theorem execPllLocked_stable (i : Fin 16) (s : State) (hm : P s) : Answers P (execPllLocked i s) := by
  unfold execPllLocked; repeat' first | with_reducible assumption | with_reducible apply answers_next (P := P) | extract_lets | with_reducible apply State.setLock_stable hP | with_reducible apply iff_stable (P := P) | with_reducible apply foldl_stable (P := P) | with_reducible apply foldl_stable_fst (P := P) | with_reducible apply foldl_stable_snd (P := P) | split | intro _ | dsimp +zetaDelta only []
theorem execTbHoldoverEntry_stable (s : State) (hm : P s) : Answers P (execTbHoldoverEntry s) := by
  unfold execTbHoldoverEntry; repeat' first | with_reducible assumption | with_reducible apply answers_next (P := P) | extract_lets | with_reducible apply State.putB_stable hP | with_reducible apply State.raise_stable hP | with_reducible apply State.logC_stable hP | with_reducible apply iff_stable (P := P) | with_reducible apply foldl_stable (P := P) | with_reducible apply foldl_stable_fst (P := P) | with_reducible apply foldl_stable_snd (P := P) | split | intro _ | dsimp +zetaDelta only []
theorem execTbRelock_stable (s : State) (hm : P s) : Answers P (execTbRelock s) := by
  unfold execTbRelock; repeat' first | with_reducible assumption | with_reducible apply answers_next (P := P) | extract_lets | with_reducible apply State.putB_stable hP | with_reducible apply iff_stable (P := P) | with_reducible apply foldl_stable (P := P) | with_reducible apply foldl_stable_fst (P := P) | with_reducible apply foldl_stable_snd (P := P) | split | intro _ | dsimp +zetaDelta only []
theorem execTbRelockComplete_stable (s : State) (hm : P s) : Answers P (execTbRelockComplete s) := by
  unfold execTbRelockComplete; repeat' first | with_reducible assumption | with_reducible apply answers_next (P := P) | extract_lets | with_reducible apply State.putB_stable hP | with_reducible apply iff_stable (P := P) | with_reducible apply foldl_stable (P := P) | with_reducible apply foldl_stable_fst (P := P) | with_reducible apply foldl_stable_snd (P := P) | split | intro _ | dsimp +zetaDelta only []
theorem execTbCoarseExit_stable (s : State) (hm : P s) : Answers P (execTbCoarseExit s) := by
  unfold execTbCoarseExit; repeat' first | with_reducible assumption | with_reducible apply answers_next (P := P) | extract_lets | with_reducible apply State.putB_stable hP | with_reducible apply hP.modTb | with_reducible apply iff_stable (P := P) | with_reducible apply foldl_stable (P := P) | with_reducible apply foldl_stable_fst (P := P) | with_reducible apply foldl_stable_snd (P := P) | split | intro _ | dsimp +zetaDelta only []
theorem State.therm_stable (s : State) (k : Nat) (t : Int) (hm : P s) : P (State.therm s k t) := by
  unfold State.therm; repeat' first | with_reducible assumption | with_reducible apply answers_next (P := P) | extract_lets | with_reducible apply hP.modMc | (intro _; rfl) | with_reducible apply State.raise_stable hP | with_reducible apply State.logC_stable hP | with_reducible apply iff_stable (P := P) | with_reducible apply foldl_stable (P := P) | with_reducible apply foldl_stable_fst (P := P) | with_reducible apply foldl_stable_snd (P := P) | split | intro _ | dsimp +zetaDelta only []
theorem execSensorPublish_stable (temps : List Nat) (volts : List Nat) (s : State) (hm : P s) : Answers P (execSensorPublish temps volts s) := by
  unfold execSensorPublish; repeat' first | with_reducible assumption | with_reducible apply answers_next (P := P) | extract_lets | with_reducible apply State.wrN_stable hP | with_reducible apply State.publish_stable hP | with_reducible apply State.therm_stable hP | with_reducible apply iff_stable (P := P) | with_reducible apply foldl_stable (P := P) | with_reducible apply foldl_stable_fst (P := P) | with_reducible apply foldl_stable_snd (P := P) | split | intro _ | dsimp +zetaDelta only []
theorem execThermalTrip_stable (s : State) (hm : P s) : Answers P (execThermalTrip s) := by
  unfold execThermalTrip; repeat' first | with_reducible assumption | with_reducible apply answers_next (P := P) | extract_lets | with_reducible apply State.raise_stable hP | with_reducible apply hP.sysReset | with_reducible apply iff_stable (P := P) | with_reducible apply foldl_stable (P := P) | with_reducible apply foldl_stable_fst (P := P) | with_reducible apply foldl_stable_snd (P := P) | split | intro _ | dsimp +zetaDelta only []
theorem execVoltOut_stable (m : Fin 16) (mv : Fin 65536) (s : State) (hm : P s) : Answers P (execVoltOut m mv s) := by
  unfold execVoltOut; repeat' first | with_reducible assumption | with_reducible apply answers_next (P := P) | extract_lets | with_reducible apply State.raise_stable hP | with_reducible apply State.logOnce_stable hP | with_reducible apply iff_stable (P := P) | with_reducible apply foldl_stable (P := P) | with_reducible apply foldl_stable_fst (P := P) | with_reducible apply foldl_stable_snd (P := P) | split | intro _ | dsimp +zetaDelta only []
theorem State.put16_stable (s : State) (f : Fld) (lo : Int) (hi : Int) (v : Int) (hm : P s) : P (State.put16 s f lo hi v) := by
  unfold State.put16; repeat' first | with_reducible assumption | with_reducible apply answers_next (P := P) | extract_lets | with_reducible apply State.put_stable hP | with_reducible apply hP.free | with_reducible apply iff_stable (P := P) | with_reducible apply foldl_stable (P := P) | with_reducible apply foldl_stable_fst (P := P) | with_reducible apply foldl_stable_snd (P := P) | split | intro _ | dsimp +zetaDelta only []
theorem State.pmbGood_stable (s : State) (r : Nat) (x : PmbReading) (hm : P s) : P (State.pmbGood s r x) := by
  unfold State.pmbGood; repeat' first | with_reducible assumption | with_reducible apply answers_next (P := P) | extract_lets | with_reducible apply hP.modMc | (intro _; rfl) | with_reducible apply State.put16_stable hP | with_reducible apply State.put_stable hP | with_reducible apply State.publish_stable hP | with_reducible apply iff_stable (P := P) | with_reducible apply foldl_stable (P := P) | with_reducible apply foldl_stable_fst (P := P) | with_reducible apply foldl_stable_snd (P := P) | split | intro _ | dsimp +zetaDelta only []
theorem State.pmbMiss_stable (s : State) (r : Nat) (hm : P s) : P (State.pmbMiss s r) := by
  unfold State.pmbMiss; repeat' first | with_reducible assumption | with_reducible apply answers_next (P := P) | extract_lets | with_reducible apply hP.modMc | (intro _; rfl) | with_reducible apply State.logC_stable hP | with_reducible apply State.bump_stable hP | with_reducible apply iff_stable (P := P) | with_reducible apply foldl_stable (P := P) | with_reducible apply foldl_stable_fst (P := P) | with_reducible apply foldl_stable_snd (P := P) | split | intro _ | dsimp +zetaDelta only []
theorem execPmbusPoll_stable (answers : List (Option PmbReading)) (s : State) (hm : P s) : Answers P (execPmbusPoll answers s) := by
  unfold execPmbusPoll; repeat' first | with_reducible assumption | with_reducible apply answers_next (P := P) | extract_lets | with_reducible apply State.pmbGood_stable hP | with_reducible apply State.pmbMiss_stable hP | with_reducible apply iff_stable (P := P) | with_reducible apply foldl_stable (P := P) | with_reducible apply foldl_stable_fst (P := P) | with_reducible apply foldl_stable_snd (P := P) | split | intro _ | dsimp +zetaDelta only []
theorem State.pmbFault_stable (s : State) (r : Nat) (w : Nat) (hm : P s) : P (State.pmbFault s r w) := by
  unfold State.pmbFault; repeat' first | with_reducible assumption | with_reducible apply answers_next (P := P) | extract_lets | with_reducible apply State.logC_stable hP | with_reducible apply hP.emit | with_reducible apply iff_stable (P := P) | with_reducible apply foldl_stable (P := P) | with_reducible apply foldl_stable_fst (P := P) | with_reducible apply foldl_stable_snd (P := P) | split | intro _ | dsimp +zetaDelta only []
theorem execPmbAlert_stable (status : List Nat) (s : State) (hm : P s) : Answers P (execPmbAlert status s) := by
  unfold execPmbAlert; repeat' first | with_reducible assumption | with_reducible apply answers_next (P := P) | extract_lets | with_reducible apply State.raise_stable hP | with_reducible apply State.pmbFault_stable hP | with_reducible apply iff_stable (P := P) | with_reducible apply foldl_stable (P := P) | with_reducible apply foldl_stable_fst (P := P) | with_reducible apply foldl_stable_snd (P := P) | split | intro _ | dsimp +zetaDelta only []
theorem State.ringPut_stable (s : State) (e : LogEntry) (hm : P s) : P (State.ringPut s e) := by
  unfold State.ringPut; repeat' first | with_reducible assumption | with_reducible apply answers_next (P := P) | extract_lets | with_reducible apply State.bump_stable hP | with_reducible apply hP.modLog | with_reducible apply State.wrN_stable hP | with_reducible apply State.logToStreams_stable hP | with_reducible apply iff_stable (P := P) | with_reducible apply foldl_stable (P := P) | with_reducible apply foldl_stable_fst (P := P) | with_reducible apply foldl_stable_snd (P := P) | split | intro _ | dsimp +zetaDelta only []
theorem State.logSides_stable (s : State) (i : LogItem) (at_ : Nat) (hm : P s) : P (State.logSides s i at_) := by
  unfold State.logSides; repeat' first | with_reducible assumption | with_reducible apply answers_next (P := P) | extract_lets | with_reducible apply State.irq_stable hP | with_reducible apply hP.emit | with_reducible apply State.mgmtSend_stable hP | with_reducible apply iff_stable (P := P) | with_reducible apply foldl_stable (P := P) | with_reducible apply foldl_stable_fst (P := P) | with_reducible apply foldl_stable_snd (P := P) | split | intro _ | dsimp +zetaDelta only []
theorem execLogWrite_stable (s : State) (hm : P s) : Answers P (execLogWrite s) := by
  unfold execLogWrite; repeat' first | with_reducible assumption | with_reducible apply answers_next (P := P) | extract_lets | with_reducible apply hP.modLog | with_reducible apply State.ringPut_stable hP | with_reducible apply State.logSides_stable hP | with_reducible apply iff_stable (P := P) | with_reducible apply foldl_stable (P := P) | with_reducible apply foldl_stable_fst (P := P) | with_reducible apply foldl_stable_snd (P := P) | split | intro _ | dsimp +zetaDelta only []
theorem execLogLimitIntervalEnd_stable (code : Nat) (item : Nat) (s : State) (hm : P s) : Answers P (execLogLimitIntervalEnd code item s) := by
  unfold execLogLimitIntervalEnd; repeat' first | with_reducible assumption | with_reducible apply answers_next (P := P) | extract_lets | with_reducible apply hP.modLog | with_reducible apply State.logX_stable hP | with_reducible apply State.counted_stable hP | with_reducible apply iff_stable (P := P) | with_reducible apply foldl_stable (P := P) | with_reducible apply foldl_stable_fst (P := P) | with_reducible apply foldl_stable_snd (P := P) | split | intro _ | dsimp +zetaDelta only []
theorem State.flashLog_stable (s : State) (idx : Nat) (e : LogEntry) (hm : P s) : P (State.flashLog s idx e) := by
  unfold State.flashLog; repeat' first | with_reducible assumption | with_reducible apply answers_next (P := P) | extract_lets | with_reducible apply hP.flashErase | with_reducible apply hP.flashProg | with_reducible apply hP.modMc | (intro _; rfl) | with_reducible apply iff_stable (P := P) | with_reducible apply foldl_stable (P := P) | with_reducible apply foldl_stable_fst (P := P) | with_reducible apply foldl_stable_snd (P := P) | split | intro _ | dsimp +zetaDelta only []
theorem State.copyOne_stable (s : State) (on : Bool) (i : Nat) (hm : P s) : P (State.copyOne s on i).2 := by
  unfold State.copyOne; repeat' first | with_reducible assumption | with_reducible apply answers_next (P := P) | extract_lets | with_reducible apply State.flashLog_stable hP | with_reducible apply hP.modLog | with_reducible apply State.wrN_stable hP | with_reducible apply iff_stable (P := P) | with_reducible apply foldl_stable (P := P) | with_reducible apply foldl_stable_fst (P := P) | with_reducible apply foldl_stable_snd (P := P) | split | intro _ | dsimp +zetaDelta only []
theorem execLogFlashCopy_stable (s : State) (hm : P s) : Answers P (execLogFlashCopy s) := by
  unfold execLogFlashCopy; repeat' first | with_reducible assumption | with_reducible apply answers_next (P := P) | extract_lets | with_reducible apply State.copyOne_stable hP | with_reducible apply iff_stable (P := P) | with_reducible apply foldl_stable (P := P) | with_reducible apply foldl_stable_fst (P := P) | with_reducible apply foldl_stable_snd (P := P) | split | intro _ | dsimp +zetaDelta only []
theorem State.sinkLog_stable (s : State) (origin : Nat) (e : LogEntry) (own : List LogEntry) (hm : P s) : P (State.sinkLog s origin e own) := by
  unfold State.sinkLog; repeat' first | with_reducible assumption | with_reducible apply answers_next (P := P) | extract_lets | with_reducible apply State.logItem_stable hP | with_reducible apply iff_stable (P := P) | with_reducible apply foldl_stable (P := P) | with_reducible apply foldl_stable_fst (P := P) | with_reducible apply foldl_stable_snd (P := P) | split | intro _ | dsimp +zetaDelta only []
theorem State.mgmtDeliver_stable (s : State) (origin : Nat) (msg : List Byte) (hm : P s) : P (State.mgmtDeliver s origin msg) := by
  unfold State.mgmtDeliver; repeat' first | with_reducible assumption | with_reducible apply answers_next (P := P) | extract_lets | with_reducible apply State.sinkLog_stable hP | with_reducible apply iff_stable (P := P) | with_reducible apply foldl_stable (P := P) | with_reducible apply foldl_stable_fst (P := P) | with_reducible apply foldl_stable_snd (P := P) | split | intro _ | dsimp +zetaDelta only []
theorem execMgmtFrameReceive_stable (p : Fin 4) (bs : List (Bool × Block)) (s : State) (hm : P s) : Answers P (execMgmtFrameReceive p bs s) := by
  unfold execMgmtFrameReceive; repeat' first | with_reducible assumption | with_reducible apply answers_next (P := P) | extract_lets | with_reducible apply State.strange_stable hP | with_reducible apply State.sillDiscard_stable hP | with_reducible apply State.bump_stable hP | with_reducible apply State.sillRelay_stable hP | with_reducible apply State.mgmtDeliver_stable hP | with_reducible apply iff_stable (P := P) | with_reducible apply foldl_stable (P := P) | with_reducible apply foldl_stable_fst (P := P) | with_reducible apply foldl_stable_snd (P := P) | split | intro _ | dsimp +zetaDelta only []
theorem execTrialConfirm_stable (ho : ∀ s a l, P s → P (s.otpProg a l)) (s : State) (hm : P s) : Answers P (execTrialConfirm s) := by
  unfold execTrialConfirm; repeat' first | with_reducible apply ho | (with_reducible apply State.advance_stable hP ho) | with_reducible assumption | with_reducible apply answers_next (P := P) | extract_lets | with_reducible apply State.recMark_stable hP | with_reducible apply State.logC_stable hP | with_reducible apply State.raise_stable hP | with_reducible apply State.put_stable hP | with_reducible apply State.romUpdate_stable hP | with_reducible apply iff_stable (P := P) | with_reducible apply foldl_stable (P := P) | with_reducible apply foldl_stable_fst (P := P) | with_reducible apply foldl_stable_snd (P := P) | split | intro _ | dsimp +zetaDelta only []
theorem execIdentityKeyReady_stable (s : State) (hm : P s) : Answers P (execIdentityKeyReady s) := by
  unfold execIdentityKeyReady; repeat' first | with_reducible assumption | with_reducible apply answers_next (P := P) | extract_lets | with_reducible apply hP.modMc | (intro _; rfl) | with_reducible apply State.logC_stable hP | with_reducible apply State.raise_stable hP | with_reducible apply iff_stable (P := P) | with_reducible apply foldl_stable (P := P) | with_reducible apply foldl_stable_fst (P := P) | with_reducible apply foldl_stable_snd (P := P) | split | intro _ | dsimp +zetaDelta only []
theorem State.setMapBit_stable (s : State) (o : Nat → Nat) (i : Nat) (hm : P s) : P (State.setMapBit s o i) := by
  unfold State.setMapBit; repeat' first | with_reducible assumption | with_reducible apply answers_next (P := P) | extract_lets | with_reducible apply State.putB_stable hP | with_reducible apply iff_stable (P := P) | with_reducible apply foldl_stable (P := P) | with_reducible apply foldl_stable_fst (P := P) | with_reducible apply foldl_stable_snd (P := P) | split | intro _ | dsimp +zetaDelta only []
theorem State.dropEntry_stable (s : State) (n : Nat) (hm : P s) : P (State.dropEntry s n) := by
  unfold State.dropEntry; repeat' first | with_reducible assumption | with_reducible apply answers_next (P := P) | extract_lets | with_reducible apply hP.modScf | with_reducible apply State.abortTile_stable hP | with_reducible apply iff_stable (P := P) | with_reducible apply foldl_stable (P := P) | with_reducible apply foldl_stable_fst (P := P) | with_reducible apply foldl_stable_snd (P := P) | split | intro _ | dsimp +zetaDelta only []
theorem State.loseHere_stable (s : State) (d : Delivery) (hm : P s) : P (State.loseHere s d) := by
  unfold State.loseHere; repeat' first | with_reducible assumption | with_reducible apply answers_next (P := P) | extract_lets | with_reducible apply hP.modDlv | with_reducible apply State.bump_stable hP | with_reducible apply State.raise_stable hP | with_reducible apply State.logCount_stable hP | with_reducible apply hP.dropDlv | with_reducible apply iff_stable (P := P) | with_reducible apply foldl_stable (P := P) | with_reducible apply foldl_stable_fst (P := P) | with_reducible apply foldl_stable_snd (P := P) | split | intro _ | dsimp +zetaDelta only []
theorem State.endHere_stable (s : State) (d : Delivery) (hm : P s) : P (State.endHere s d) := by
  unfold State.endHere; repeat' first | with_reducible assumption | with_reducible apply answers_next (P := P) | extract_lets | with_reducible apply hP.modDlv | with_reducible apply hP.dropDlv | with_reducible apply iff_stable (P := P) | with_reducible apply foldl_stable (P := P) | with_reducible apply foldl_stable_fst (P := P) | with_reducible apply foldl_stable_snd (P := P) | split | intro _ | dsimp +zetaDelta only []
theorem State.afterAbort_stable (s : State) (was : List Delivery) (l : Option Nat) (hm : P s) : P (State.afterAbort s was l) := by
  unfold State.afterAbort; repeat' first | with_reducible assumption | with_reducible apply answers_next (P := P) | extract_lets | with_reducible apply State.loseHere_stable hP | with_reducible apply State.endHere_stable hP | with_reducible apply iff_stable (P := P) | with_reducible apply foldl_stable (P := P) | with_reducible apply foldl_stable_fst (P := P) | with_reducible apply foldl_stable_snd (P := P) | split | intro _ | dsimp +zetaDelta only []
theorem State.laneGone_stable (s : State) (l : Nat) (hm : P s) : P (State.laneGone s l) := by
  unfold State.laneGone; repeat' first | with_reducible assumption | with_reducible apply answers_next (P := P) | extract_lets | with_reducible apply State.setMapBit_stable hP | with_reducible apply State.dropEntry_stable hP | with_reducible apply hP.modTen | with_reducible apply hP.modEth | with_reducible apply hP.modCln | with_reducible apply State.laneOut_stable hP | with_reducible apply State.kerfFlush_stable hP | with_reducible apply State.laneOff_stable hP | with_reducible apply State.queueTo_stable hP | with_reducible apply State.afterAbort_stable hP | with_reducible apply State.reportNotSent_stable hP | with_reducible apply State.settleBents_stable hP | with_reducible apply iff_stable (P := P) | with_reducible apply foldl_stable (P := P) | with_reducible apply foldl_stable_fst (P := P) | with_reducible apply foldl_stable_snd (P := P) | split | intro _ | dsimp +zetaDelta only []
theorem State.dmaKill_stable (s : State) (b c n : Nat) (hm : P s) : P (State.dmaKill s b c n) := by
  induction n generalizing s with
  | zero => unfold State.dmaKill; (repeat' first | with_reducible assumption | with_reducible apply answers_next (P := P) | extract_lets | with_reducible apply State.dmaDone_stable hP | with_reducible apply iff_stable (P := P) | with_reducible apply foldl_stable (P := P) | with_reducible apply foldl_stable_fst (P := P) | with_reducible apply foldl_stable_snd (P := P) | split | intro _ | dsimp +zetaDelta only [])
  | succ _ ih => unfold State.dmaKill; repeat' first | with_reducible apply ih | with_reducible assumption | with_reducible apply answers_next (P := P) | extract_lets | with_reducible apply State.dmaDone_stable hP | with_reducible apply iff_stable (P := P) | with_reducible apply foldl_stable (P := P) | with_reducible apply foldl_stable_fst (P := P) | with_reducible apply foldl_stable_snd (P := P) | split | intro _ | dsimp +zetaDelta only []
theorem State.dmaAbort_stable (s : State) (b : Nat) (c : Nat) (hm : P s) : P (State.dmaAbort s b c) := by
  unfold State.dmaAbort; repeat' first | with_reducible assumption | with_reducible apply answers_next (P := P) | extract_lets | with_reducible apply State.dmaKill_stable hP | with_reducible apply iff_stable (P := P) | with_reducible apply foldl_stable (P := P) | with_reducible apply foldl_stable_fst (P := P) | with_reducible apply foldl_stable_snd (P := P) | split | intro _ | dsimp +zetaDelta only []
theorem State.dealGone_stable (s : State) (l : Nat) (hm : P s) : P (State.dealGone s l) := by
  unfold State.dealGone; repeat' first | with_reducible assumption | with_reducible apply answers_next (P := P) | extract_lets | with_reducible apply State.release_stable hP | with_reducible apply hP.modCln | with_reducible apply iff_stable (P := P) | with_reducible apply foldl_stable (P := P) | with_reducible apply foldl_stable_fst (P := P) | with_reducible apply foldl_stable_snd (P := P) | split | intro _ | dsimp +zetaDelta only []
theorem State.engGone_stable (s : State) (e : Nat) (hm : P s) : P (State.engGone s e) := by
  unfold State.engGone; repeat' first | with_reducible assumption | with_reducible apply answers_next (P := P) | extract_lets | with_reducible apply State.setMapBit_stable hP | with_reducible apply State.engFault_stable hP | with_reducible apply State.emitOut_stable hP | with_reducible apply State.engRelease_stable hP | with_reducible apply hP.modEng | with_reducible apply State.flushQueues_stable hP | with_reducible apply State.dmaAbort_stable hP | with_reducible apply State.dealGone_stable hP | with_reducible apply State.put_stable hP | with_reducible apply iff_stable (P := P) | with_reducible apply foldl_stable (P := P) | with_reducible apply foldl_stable_fst (P := P) | with_reducible apply foldl_stable_snd (P := P) | split | intro _ | dsimp +zetaDelta only []
theorem State.arbForget_stable (s : State) (r : Nat) (hm : P s) : P (State.arbForget s r) := by
  unfold State.arbForget; repeat' first | with_reducible assumption | with_reducible apply answers_next (P := P) | extract_lets | with_reducible apply State.hold_stable hP | with_reducible apply hP.modArb | with_reducible apply State.decideArb_stable hP | with_reducible apply iff_stable (P := P) | with_reducible apply foldl_stable (P := P) | with_reducible apply foldl_stable_fst (P := P) | with_reducible apply foldl_stable_snd (P := P) | split | intro _ | dsimp +zetaDelta only []
theorem State.bayGone_stable (s : State) (b : Nat) (hm : P s) : P (State.bayGone s b) := by
  unfold State.bayGone; repeat' first | with_reducible assumption | with_reducible apply answers_next (P := P) | extract_lets | with_reducible apply State.wrN_stable hP | with_reducible apply State.dropEntry_stable hP | with_reducible apply hP.modKrf | with_reducible apply State.showKerf_stable hP | with_reducible apply State.afterAbort_stable hP | with_reducible apply State.laneGone_stable hP | with_reducible apply State.engGone_stable hP | with_reducible apply State.dmaAbort_stable hP | with_reducible apply hP.setPushes | with_reducible apply State.arbForget_stable hP | with_reducible apply iff_stable (P := P) | with_reducible apply foldl_stable (P := P) | with_reducible apply foldl_stable_fst (P := P) | with_reducible apply foldl_stable_snd (P := P) | split | intro _ | dsimp +zetaDelta only []
theorem State.posGone_stable (s : State) (c : Nat) (hm : P s) : P (State.posGone s c) := by
  unfold State.posGone; repeat' first | with_reducible assumption | with_reducible apply answers_next (P := P) | extract_lets | with_reducible apply State.put_stable hP | with_reducible apply State.posStop_stable hP | with_reducible apply iff_stable (P := P) | with_reducible apply foldl_stable (P := P) | with_reducible apply foldl_stable_fst (P := P) | with_reducible apply foldl_stable_snd (P := P) | split | intro _ | dsimp +zetaDelta only []
theorem State.sillGone_stable (s : State) (p : Nat) (hm : P s) : P (State.sillGone s p) := by
  unfold State.sillGone; repeat' first | with_reducible assumption | with_reducible apply answers_next (P := P) | extract_lets | with_reducible apply State.put_stable hP | with_reducible apply State.sillLeave_stable hP | with_reducible apply State.carry_stable hP | with_reducible apply iff_stable (P := P) | with_reducible apply foldl_stable (P := P) | with_reducible apply foldl_stable_fst (P := P) | with_reducible apply foldl_stable_snd (P := P) | split | intro _ | dsimp +zetaDelta only []
theorem State.retireUnit_stable (s : State) (kind : Nat) (i : Nat) (hm : P s) : P (State.retireUnit s kind i) := by
  unfold State.retireUnit; repeat' first | with_reducible assumption | with_reducible apply answers_next (P := P) | extract_lets | with_reducible apply State.ddrRetire_stable hP | with_reducible apply State.put_stable hP | with_reducible apply State.putB_stable hP | with_reducible apply State.laneGone_stable hP | with_reducible apply State.bayGone_stable hP | with_reducible apply State.engGone_stable hP | with_reducible apply State.posGone_stable hP | with_reducible apply State.sillGone_stable hP | with_reducible apply State.bump_stable hP | with_reducible apply State.logC_stable hP | with_reducible apply State.readmit_stable hP | with_reducible apply iff_stable (P := P) | with_reducible apply foldl_stable (P := P) | with_reducible apply foldl_stable_fst (P := P) | with_reducible apply foldl_stable_snd (P := P) | split | intro _ | dsimp +zetaDelta only []
theorem State.retireGo_stable (s : State) (kind : Nat) (i : Nat) (hm : P s) : P (State.retireGo s kind i) := by
  unfold State.retireGo; repeat' first | with_reducible assumption | with_reducible apply answers_next (P := P) | extract_lets | with_reducible apply State.putB_stable hP | with_reducible apply State.retireUnit_stable hP | with_reducible apply iff_stable (P := P) | with_reducible apply foldl_stable (P := P) | with_reducible apply foldl_stable_fst (P := P) | with_reducible apply foldl_stable_snd (P := P) | split | intro _ | dsimp +zetaDelta only []
theorem State.retireCmd_stable (s : State) (master : Nat) (kind : Nat) (i : Nat) (hm : P s) : P (State.retireCmd s master kind i) := by
  unfold State.retireCmd; repeat' first | with_reducible assumption | with_reducible apply answers_next (P := P) | extract_lets | with_reducible apply State.unreached_stable hP | with_reducible apply State.badAccess_stable hP | with_reducible apply State.retireUnit_stable hP | with_reducible apply iff_stable (P := P) | with_reducible apply foldl_stable (P := P) | with_reducible apply foldl_stable_fst (P := P) | with_reducible apply foldl_stable_snd (P := P) | split | intro _ | dsimp +zetaDelta only []
theorem execRetireLane_stable (master : Fin 3) (l : Fin 96) (s : State) (hm : P s) : Answers P (execRetireLane master l s) := by
  unfold execRetireLane; repeat' first | with_reducible assumption | with_reducible apply answers_next (P := P) | extract_lets | with_reducible apply State.retireCmd_stable hP | with_reducible apply iff_stable (P := P) | with_reducible apply foldl_stable (P := P) | with_reducible apply foldl_stable_fst (P := P) | with_reducible apply foldl_stable_snd (P := P) | split | intro _ | dsimp +zetaDelta only []
theorem execRetireBay_stable (master : Fin 3) (b : Fin 24) (s : State) (hm : P s) : Answers P (execRetireBay master b s) := by
  unfold execRetireBay; repeat' first | with_reducible assumption | with_reducible apply answers_next (P := P) | extract_lets | with_reducible apply State.retireCmd_stable hP | with_reducible apply iff_stable (P := P) | with_reducible apply foldl_stable (P := P) | with_reducible apply foldl_stable_fst (P := P) | with_reducible apply foldl_stable_snd (P := P) | split | intro _ | dsimp +zetaDelta only []
theorem execRetireEngine_stable (master : Fin 3) (e : Fin 192) (s : State) (hm : P s) : Answers P (execRetireEngine master e s) := by
  unfold execRetireEngine; repeat' first | with_reducible assumption | with_reducible apply answers_next (P := P) | extract_lets | with_reducible apply State.retireCmd_stable hP | with_reducible apply iff_stable (P := P) | with_reducible apply foldl_stable (P := P) | with_reducible apply foldl_stable_fst (P := P) | with_reducible apply foldl_stable_snd (P := P) | split | intro _ | dsimp +zetaDelta only []
theorem execRetirePositionChannel_stable (master : Fin 3) (c : Fin 16) (s : State) (hm : P s) : Answers P (execRetirePositionChannel master c s) := by
  unfold execRetirePositionChannel; repeat' first | with_reducible assumption | with_reducible apply answers_next (P := P) | extract_lets | with_reducible apply State.retireCmd_stable hP | with_reducible apply iff_stable (P := P) | with_reducible apply foldl_stable (P := P) | with_reducible apply foldl_stable_fst (P := P) | with_reducible apply foldl_stable_snd (P := P) | split | intro _ | dsimp +zetaDelta only []
theorem execRetireSillPort_stable (master : Fin 3) (p : Fin 4) (s : State) (hm : P s) : Answers P (execRetireSillPort master p s) := by
  unfold execRetireSillPort; repeat' first | with_reducible assumption | with_reducible apply answers_next (P := P) | extract_lets | with_reducible apply State.retireCmd_stable hP | with_reducible apply iff_stable (P := P) | with_reducible apply foldl_stable (P := P) | with_reducible apply foldl_stable_fst (P := P) | with_reducible apply foldl_stable_snd (P := P) | split | intro _ | dsimp +zetaDelta only []
theorem State.loadKernel_stable (s : State) (p : List Byte) (e : Nat) (hm : P s) : P (State.loadKernel s p e) := by
  unfold State.loadKernel; repeat' first | with_reducible assumption | with_reducible apply answers_next (P := P) | extract_lets | with_reducible apply State.put_stable hP | with_reducible apply hP.loadMems | with_reducible apply State.wrN_stable hP | with_reducible apply State.putB_stable hP | with_reducible apply iff_stable (P := P) | with_reducible apply foldl_stable (P := P) | with_reducible apply foldl_stable_fst (P := P) | with_reducible apply foldl_stable_snd (P := P) | split | intro _ | dsimp +zetaDelta only []
theorem State.logKernel_stable (s : State) (e : Nat) (hm : P s) : P (State.logKernel s e) := by
  unfold State.logKernel; repeat' first | with_reducible assumption | with_reducible apply answers_next (P := P) | extract_lets | with_reducible apply hP.free | with_reducible apply State.logC_stable hP | with_reducible apply iff_stable (P := P) | with_reducible apply foldl_stable (P := P) | with_reducible apply foldl_stable_fst (P := P) | with_reducible apply foldl_stable_snd (P := P) | split | intro _ | dsimp +zetaDelta only []
theorem State.applyKernel_stable (s : State) (sec : List Byte) (hm : P s) : P (State.applyKernel s sec) := by
  unfold State.applyKernel; repeat' first | with_reducible assumption | with_reducible apply answers_next (P := P) | extract_lets | with_reducible apply State.loadKernel_stable hP | with_reducible apply State.raise_stable hP | with_reducible apply State.quarantine_stable hP | with_reducible apply State.logKernel_stable hP | with_reducible apply iff_stable (P := P) | with_reducible apply foldl_stable (P := P) | with_reducible apply foldl_stable_fst (P := P) | with_reducible apply foldl_stable_snd (P := P) | split | intro _ | dsimp +zetaDelta only []
theorem State.restartEng_stable (s : State) (e : Nat) (hm : P s) : P (State.restartEng s e) := by
  unfold State.restartEng; repeat' first | with_reducible assumption | with_reducible apply answers_next (P := P) | extract_lets | with_reducible apply State.logKernel_stable hP | with_reducible apply hP.loadMems | with_reducible apply State.loadKernel_stable hP | with_reducible apply State.flushQueues_stable hP | with_reducible apply State.engRelease_stable hP | with_reducible apply hP.modEng | with_reducible apply State.showEng_stable hP | with_reducible apply State.put_stable hP | with_reducible apply State.romUpdate_stable hP | with_reducible apply iff_stable (P := P) | with_reducible apply foldl_stable (P := P) | with_reducible apply foldl_stable_fst (P := P) | with_reducible apply foldl_stable_snd (P := P) | split | intro _ | dsimp +zetaDelta only []
theorem execRestart_stable (e : Fin 192) (master : Fin 3) (s : State) (hm : P s) : Answers P (execRestart e master s) := by
  unfold execRestart; repeat' first | with_reducible assumption | with_reducible apply answers_next (P := P) | extract_lets | with_reducible apply State.unreached_stable hP | with_reducible apply State.badAccess_stable hP | with_reducible apply State.restartEng_stable hP | with_reducible apply iff_stable (P := P) | with_reducible apply foldl_stable (P := P) | with_reducible apply foldl_stable_fst (P := P) | with_reducible apply foldl_stable_snd (P := P) | split | intro _ | dsimp +zetaDelta only []
theorem State.setClCommit_stable (s : State) (hm : P s) : P (State.setClCommit s) := by
  unfold State.setClCommit; repeat' first | with_reducible assumption | with_reducible apply answers_next (P := P) | extract_lets | with_reducible apply State.putB_stable hP | with_reducible apply iff_stable (P := P) | with_reducible apply foldl_stable (P := P) | with_reducible apply foldl_stable_fst (P := P) | with_reducible apply foldl_stable_snd (P := P) | split | intro _ | dsimp +zetaDelta only []
theorem State.setRelease_stable (s : State) (hm : P s) : P (State.setRelease s) := by
  unfold State.setRelease; repeat' first | with_reducible assumption | with_reducible apply answers_next (P := P) | extract_lets | with_reducible apply State.putB_stable hP | with_reducible apply State.laneUpdate_stable hP | with_reducible apply State.posStart_stable hP | with_reducible apply State.sillStart_stable hP | with_reducible apply iff_stable (P := P) | with_reducible apply foldl_stable (P := P) | with_reducible apply foldl_stable_fst (P := P) | with_reducible apply foldl_stable_snd (P := P) | split | intro _ | dsimp +zetaDelta only []
theorem State.clearRelease_stable (s : State) (hm : P s) : P (State.clearRelease s) := by
  unfold State.clearRelease; repeat' first | with_reducible assumption | with_reducible apply answers_next (P := P) | extract_lets | with_reducible apply State.putB_stable hP | with_reducible apply State.laneUpdate_stable hP | with_reducible apply State.posStop_stable hP | with_reducible apply State.sillLeave_stable hP | with_reducible apply State.carry_stable hP | with_reducible apply iff_stable (P := P) | with_reducible apply foldl_stable (P := P) | with_reducible apply foldl_stable_fst (P := P) | with_reducible apply foldl_stable_snd (P := P) | split | intro _ | dsimp +zetaDelta only []
theorem State.cycStart_stable (s : State) (i : Nat) (hm : P s) : P (State.cycStart s i) := by
  unfold State.cycStart; repeat' first | with_reducible assumption | with_reducible apply answers_next (P := P) | extract_lets | with_reducible apply hP.modTb | with_reducible apply iff_stable (P := P) | with_reducible apply foldl_stable (P := P) | with_reducible apply foldl_stable_fst (P := P) | with_reducible apply foldl_stable_snd (P := P) | split | intro _ | dsimp +zetaDelta only []
theorem State.ppsStart_stable (s : State) (hm : P s) : P (State.ppsStart s) := by
  unfold State.ppsStart; repeat' first | with_reducible assumption | with_reducible apply answers_next (P := P) | extract_lets | with_reducible apply hP.modTb | with_reducible apply iff_stable (P := P) | with_reducible apply foldl_stable (P := P) | with_reducible apply foldl_stable_fst (P := P) | with_reducible apply foldl_stable_snd (P := P) | split | intro _ | dsimp +zetaDelta only []
theorem State.setOutputs_stable (s : State) (hm : P s) : P (State.setOutputs s) := by
  unfold State.setOutputs; repeat' first | with_reducible assumption | with_reducible apply answers_next (P := P) | extract_lets | with_reducible apply State.putB_stable hP | with_reducible apply State.wrN_stable hP | with_reducible apply hP.modDroop | with_reducible apply State.cycStart_stable hP | with_reducible apply State.ppsStart_stable hP | with_reducible apply hP.modSq | with_reducible apply State.fired_stable hP | with_reducible apply State.trigStart_stable hP | with_reducible apply iff_stable (P := P) | with_reducible apply foldl_stable (P := P) | with_reducible apply foldl_stable_fst (P := P) | with_reducible apply foldl_stable_snd (P := P) | split | intro _ | dsimp +zetaDelta only []
theorem State.clearOutputs_stable (s : State) (hm : P s) : P (State.clearOutputs s) := by
  unfold State.clearOutputs; repeat' first | with_reducible assumption | with_reducible apply answers_next (P := P) | extract_lets | with_reducible apply State.putB_stable hP | with_reducible apply State.wrN_stable hP | with_reducible apply hP.dropPulses | with_reducible apply hP.modTb | with_reducible apply State.reportNotSent_stable hP | with_reducible apply State.trigStop_stable hP | with_reducible apply State.kerfFlush_stable hP | with_reducible apply hP.modPch | with_reducible apply iff_stable (P := P) | with_reducible apply foldl_stable (P := P) | with_reducible apply foldl_stable_fst (P := P) | with_reducible apply foldl_stable_snd (P := P) | split | intro _ | dsimp +zetaDelta only []

end Sys2Proof.Machine
end

