-- ==== Sys2Proof/Laws/StableWrites.lean ====
section
/-!
SUPPORT. What survives the operations of register writes, start-up, the mailbox and the tick:
a property that is `Stable`. One lemma per operation and per command.
-/

set_option linter.unusedTactic false
set_option linter.unreachableTactic false
set_option linter.unusedSimpArgs false
set_option linter.unusedVariables false

namespace Sys2Proof.Machine

open Reg

variable {P : State → Prop} (hP : Stable P)
include hP

theorem State.mboxGo_stable (s : State) (p : Nat) (hm : P s) : P (State.mboxGo s p) := by
  unfold State.mboxGo; repeat' first | with_reducible assumption | with_reducible apply answers_next (P := P) | extract_lets | with_reducible apply State.put_stable hP | with_reducible apply hP.modMc | (intro _; rfl) | with_reducible apply State.mboxDone_stable hP | with_reducible apply iff_stable (P := P) | with_reducible apply foldl_stable (P := P) | with_reducible apply foldl_stable_fst (P := P) | with_reducible apply foldl_stable_snd (P := P) | split | intro _ | dsimp +zetaDelta only []
theorem State.commitWrite_stable (s : State) (old : Nat) (v : Nat) (hm : P s) : P (State.commitWrite s old v) := by
  unfold State.commitWrite; repeat' first | with_reducible assumption | with_reducible apply answers_next (P := P) | extract_lets | with_reducible apply State.wrN_stable hP | with_reducible apply State.setClCommit_stable hP | with_reducible apply State.setRelease_stable hP | with_reducible apply State.clearRelease_stable hP | with_reducible apply State.setOutputs_stable hP | with_reducible apply State.clearOutputs_stable hP | with_reducible apply iff_stable (P := P) | with_reducible apply foldl_stable (P := P) | with_reducible apply foldl_stable_fst (P := P) | with_reducible apply foldl_stable_snd (P := P) | split | intro _ | dsimp +zetaDelta only []
theorem State.acts_stable (s : State) (o act : Nat) (fs : List (State → State)) (hm : P s) (hf : ∀ g ∈ fs, ∀ s, P s → P (g s)) :
    P (State.acts s o act fs) := by
  unfold State.acts
  refine foldl_stable _ _ _ (State.wrN_stable hP _ _ _ hm) fun s i hs => ?_
  refine iff_stable _ _ _ hs fun s hs => ?_
  rw [List.getD_eq_getElem?_getD]
  cases hi : fs[i]? with
  | none => exact hs
  | some g => exact hf g (List.mem_of_getElem? hi) s hs
omit hP in
theorem ite_stable {c : Prop} [Decidable c] {a b : State} (ha : P a) (hb : P b) : P (if c then a else b) := by split <;> assumption
theorem State.wroteMisc_stable (s : State) (o old act : Nat) (hm : P s) : P (s.wroteMisc o old act) := by
  unfold State.wroteMisc; extract_lets new; repeat' first | with_reducible assumption | with_reducible apply answers_next (P := P) | extract_lets | with_reducible apply State.commitWrite_stable hP | with_reducible apply State.forceHalve_stable hP | with_reducible apply State.wrN_stable hP | with_reducible apply hP.sysReset | with_reducible apply State.mcReset_stable hP | with_reducible apply State.retireGo_stable hP | with_reducible apply State.ppsStart_stable hP | with_reducible apply State.slewStart_stable hP | with_reducible apply State.acts_stable hP | with_reducible apply State.tbStep_stable hP | with_reducible apply State.tbSnap_stable hP | with_reducible apply State.slewAbort_stable hP | with_reducible apply State.produce_stable hP | with_reducible apply State.putB_stable hP | with_reducible apply State.recallStart_stable hP | with_reducible apply State.swapReq_stable hP | with_reducible apply State.schedGo_stable hP | with_reducible apply State.cycStart_stable hP | with_reducible apply hP.setPulseEnd | with_reducible apply State.pinActive_stable hP | with_reducible apply every_nil | with_reducible apply every_cons | with_reducible apply iff_stable (P := P) | with_reducible apply foldl_stable (P := P) | with_reducible apply foldl_stable_fst (P := P) | with_reducible apply foldl_stable_snd (P := P) | with_reducible apply ite_stable (P := P) | split | intro _ | dsimp +zetaDelta only []
theorem State.wroteLane_stable (s : State) (l : Nat) (r : Nat) (old : Nat) (act : Nat) (hm : P s) : P (State.wroteLane s l r old act) := by
  unfold State.wroteLane; repeat' first | with_reducible assumption | with_reducible apply answers_next (P := P) | extract_lets | with_reducible apply State.laneUpdate_stable hP | with_reducible apply State.retrain_stable hP | with_reducible apply hP.modPhy | with_reducible apply State.injectErr_stable hP | with_reducible apply State.ctrlGo_stable hP | with_reducible apply iff_stable (P := P) | with_reducible apply foldl_stable (P := P) | with_reducible apply foldl_stable_fst (P := P) | with_reducible apply foldl_stable_snd (P := P) | split | intro _ | dsimp +zetaDelta only []
theorem State.wroteBay_stable (s : State) (b : Nat) (r : Nat) (old : Nat) (act : Nat) (hm : P s) : P (State.wroteBay s b r old act) := by
  unfold State.wroteBay; repeat' first | with_reducible assumption | with_reducible apply answers_next (P := P) | extract_lets | with_reducible apply State.judgeFill_stable hP | with_reducible apply State.clearPeak_stable hP | with_reducible apply State.askSwap_stable hP | with_reducible apply State.acts_stable hP | with_reducible apply State.engFault_stable hP | with_reducible apply State.restartEng_stable hP | with_reducible apply State.dmaLook_stable hP | with_reducible apply every_nil | with_reducible apply every_cons | with_reducible apply iff_stable (P := P) | with_reducible apply foldl_stable (P := P) | with_reducible apply foldl_stable_fst (P := P) | with_reducible apply foldl_stable_snd (P := P) | split | intro _ | dsimp +zetaDelta only []
theorem State.wroteTrig_stable (s : State) (q : Nat) (r : Nat) (old : Nat) (act : Nat) (hm : P s) : P (State.wroteTrig s q r old act) := by
  unfold State.wroteTrig; repeat' first | with_reducible assumption | with_reducible apply answers_next (P := P) | extract_lets | with_reducible apply State.trigStart_stable hP | with_reducible apply State.trigStop_stable hP | with_reducible apply State.acts_stable hP | with_reducible apply State.resync_stable hP | with_reducible apply State.ringClear_stable hP | with_reducible apply State.fireNow_stable hP | with_reducible apply every_nil | with_reducible apply every_cons | with_reducible apply iff_stable (P := P) | with_reducible apply foldl_stable (P := P) | with_reducible apply foldl_stable_fst (P := P) | with_reducible apply foldl_stable_snd (P := P) | split | intro _ | dsimp +zetaDelta only []
theorem State.wrotePos_stable (s : State) (c : Nat) (r : Nat) (old : Nat) (act : Nat) (hm : P s) : P (State.wrotePos s c r old act) := by
  unfold State.wrotePos; repeat' first | with_reducible assumption | with_reducible apply answers_next (P := P) | extract_lets | with_reducible apply State.posStop_stable hP | with_reducible apply State.posStart_stable hP | with_reducible apply State.acts_stable hP | with_reducible apply State.presetPos_stable hP | with_reducible apply State.armPos_stable hP | with_reducible apply State.posSnap_stable hP | with_reducible apply State.obsReset_stable hP | with_reducible apply every_nil | with_reducible apply every_cons | with_reducible apply iff_stable (P := P) | with_reducible apply foldl_stable (P := P) | with_reducible apply foldl_stable_fst (P := P) | with_reducible apply foldl_stable_snd (P := P) | split | intro _ | dsimp +zetaDelta only []
omit hP in
theorem alt_stable {a b : Option State} (ha : ∀ t ∈ a, P t) (hb : ∀ t ∈ b, P t) : ∀ t ∈ (a <|> b), P t := by
  cases a with
  | none => simpa using hb
  | some u => simpa using ha
omit hP in
theorem unit_stable (o : Option (Nat × Nat)) (f : Nat × Nat → State) (h : ∀ x, P (f x)) : ∀ t ∈ o.map f, P t := by
  cases o with
  | none => simp
  | some x => simpa using h x
theorem State.wrote_stable (s : State) (o old act : Nat) (hm : P s) : P (s.wrote o old act) := by
  unfold State.wrote
  extract_lets found
  have hx : ∀ t ∈ found, P t := by
    refine alt_stable (unit_stable _ _ fun x => ?_) (alt_stable (unit_stable _ _ fun x => ?_) (alt_stable (unit_stable _ _ fun x => ?_)
      (alt_stable (unit_stable _ _ fun x => ?_) (alt_stable (unit_stable _ _ fun x => ?_) (alt_stable (unit_stable _ _ fun x => ?_)
      (alt_stable (unit_stable _ _ fun x => ?_) (unit_stable _ _ fun x => ?_))))))) <;> (repeat' first | with_reducible assumption | with_reducible apply answers_next (P := P) | extract_lets | with_reducible apply State.mboxGo_stable hP | with_reducible apply State.wrotePos_stable hP | with_reducible apply State.wroteTrig_stable hP | with_reducible apply State.wroteLane_stable hP | with_reducible apply State.wroteBay_stable hP | with_reducible apply State.stitchOn_stable hP | with_reducible apply State.stitchOff_stable hP | with_reducible apply State.showDdrLock_stable hP | with_reducible apply State.acts_stable hP | with_reducible apply State.ddrRetire_stable hP | with_reducible apply State.pcieCfgApply_stable hP | with_reducible apply State.windowCommit_stable hP | with_reducible apply State.wroteMisc_stable hP | with_reducible apply every_nil | with_reducible apply every_cons | with_reducible apply iff_stable (P := P) | with_reducible apply foldl_stable (P := P) | with_reducible apply foldl_stable_fst (P := P) | with_reducible apply foldl_stable_snd (P := P) | split | intro _ | dsimp +zetaDelta only [])
  cases hf : found with
  | none => simp only [Option.getD_none]; exact State.wroteMisc_stable hP _ _ _ _ hm
  | some t => simpa using hx t hf
theorem State.write32_stable (s : State) (master : Nat) (o : Nat) (v : Nat) (hm : P s) : P (State.write32 s master o v).1 := by
  unfold State.write32; repeat' first | with_reducible assumption | with_reducible apply answers_next (P := P) | extract_lets | with_reducible apply hP.modTb | with_reducible apply State.incrWrite_stable hP | with_reducible apply State.eraseWrite_stable hP | with_reducible apply State.store_stable hP | with_reducible apply State.wrote_stable hP | with_reducible apply iff_stable (P := P) | with_reducible apply foldl_stable (P := P) | with_reducible apply foldl_stable_fst (P := P) | with_reducible apply foldl_stable_snd (P := P) | split | intro _ | dsimp +zetaDelta only []
theorem State.write64_stable (s : State) (master : Nat) (o : Nat) (v : Nat) (hm : P s) : P (State.write64 s master o v).1 := by
  unfold State.write64; repeat' first | with_reducible assumption | with_reducible apply answers_next (P := P) | extract_lets | with_reducible apply State.ringPush_stable hP | with_reducible apply State.incrWrite_stable hP | with_reducible apply State.write32_stable hP | with_reducible apply iff_stable (P := P) | with_reducible apply foldl_stable (P := P) | with_reducible apply foldl_stable_fst (P := P) | with_reducible apply foldl_stable_snd (P := P) | split | intro _ | dsimp +zetaDelta only []
theorem State.writePiece_stable (s : State) (master : Nat) (o : Nat) (size : Nat) (v : Nat) (hm : P s) : P (State.writePiece s master o size v) := by
  unfold State.writePiece; repeat' first | with_reducible assumption | with_reducible apply answers_next (P := P) | extract_lets | with_reducible apply State.badAccess_stable hP | with_reducible apply State.write32_stable hP | with_reducible apply State.write64_stable hP | with_reducible apply iff_stable (P := P) | with_reducible apply foldl_stable (P := P) | with_reducible apply foldl_stable_fst (P := P) | with_reducible apply foldl_stable_snd (P := P) | split | intro _ | dsimp +zetaDelta only []
theorem State.busWrite_stable (s : State) (w : BusWrite) (hm : P s) : P (State.busWrite s w) := by
  unfold State.busWrite; repeat' first | with_reducible assumption | with_reducible apply answers_next (P := P) | extract_lets | with_reducible apply State.unreached_stable hP | with_reducible apply State.writePiece_stable hP | with_reducible apply iff_stable (P := P) | with_reducible apply foldl_stable (P := P) | with_reducible apply foldl_stable_fst (P := P) | with_reducible apply foldl_stable_snd (P := P) | split | intro _ | dsimp +zetaDelta only []
theorem State.clearsOf_stable (s : State) (w : BusWrite) (hm : P s) : P (State.clearsOf s w) := by
  unfold State.clearsOf; repeat' first | with_reducible assumption | with_reducible apply answers_next (P := P) | extract_lets | with_reducible apply State.wrN_stable hP | with_reducible apply iff_stable (P := P) | with_reducible apply foldl_stable (P := P) | with_reducible apply foldl_stable_fst (P := P) | with_reducible apply foldl_stable_snd (P := P) | split | intro _ | dsimp +zetaDelta only []
theorem State.writesInOrder_stable (ws : List BusWrite) (s : State) (hm : P s) : P (State.writesInOrder ws s) := by
  induction ws generalizing s with
  | nil => exact hm
  | cons _ _ ih => unfold State.writesInOrder; repeat' first | with_reducible apply ih | with_reducible assumption | with_reducible apply answers_next (P := P) | extract_lets | with_reducible apply State.bump_stable hP | with_reducible apply State.busWrite_stable hP | with_reducible apply iff_stable (P := P) | with_reducible apply foldl_stable (P := P) | with_reducible apply foldl_stable_fst (P := P) | with_reducible apply foldl_stable_snd (P := P) | split | intro _ | dsimp +zetaDelta only []
theorem execRegisterWrite_stable (ws : List BusWrite) (s : State) (hm : P s) : Answers P (execRegisterWrite ws s) := by
  unfold execRegisterWrite; repeat' first | with_reducible assumption | with_reducible apply answers_next (P := P) | extract_lets | with_reducible apply State.clearsOf_stable hP | with_reducible apply State.writesInOrder_stable hP | with_reducible apply iff_stable (P := P) | with_reducible apply foldl_stable (P := P) | with_reducible apply foldl_stable_fst (P := P) | with_reducible apply foldl_stable_snd (P := P) | split | intro _ | dsimp +zetaDelta only []
theorem State.fieldWrite_stable (s : State) (master : Nat) (o : Nat) (refused : Bool) (f : State → State) (hm : P s) (h_f : ∀ s, P s → P (f s)) : Answers P (State.fieldWrite s master o refused f) := by
  unfold State.fieldWrite; repeat' first | with_reducible assumption | with_reducible apply answers_next (P := P) | extract_lets | with_reducible apply State.unreached_stable hP | with_reducible apply State.badAccess_stable hP | with_reducible apply h_f | with_reducible apply iff_stable (P := P) | with_reducible apply foldl_stable (P := P) | with_reducible apply foldl_stable_fst (P := P) | with_reducible apply foldl_stable_snd (P := P) | split | intro _ | dsimp +zetaDelta only []
theorem execLaneEnable_stable (l : Fin 96) (master : Fin 3) (s : State) (hm : P s) : Answers P (execLaneEnable l master s) := by
  unfold execLaneEnable; repeat' first | with_reducible assumption | with_reducible apply answers_next (P := P) | extract_lets | with_reducible apply State.putB_stable hP | with_reducible apply State.laneUpdate_stable hP | with_reducible apply State.fieldWrite_stable | with_reducible apply iff_stable (P := P) | with_reducible apply foldl_stable (P := P) | with_reducible apply foldl_stable_fst (P := P) | with_reducible apply foldl_stable_snd (P := P) | split | intro _ | dsimp +zetaDelta only []
theorem execLaneDisable_stable (l : Fin 96) (powerDown : Bool) (master : Fin 3) (s : State) (hm : P s) : Answers P (execLaneDisable l powerDown master s) := by
  unfold execLaneDisable; repeat' first | with_reducible assumption | with_reducible apply answers_next (P := P) | extract_lets | with_reducible apply State.putB_stable hP | with_reducible apply State.laneUpdate_stable hP | with_reducible apply State.fieldWrite_stable | with_reducible apply iff_stable (P := P) | with_reducible apply foldl_stable (P := P) | with_reducible apply foldl_stable_fst (P := P) | with_reducible apply foldl_stable_snd (P := P) | split | intro _ | dsimp +zetaDelta only []
theorem execRetrain_stable (l : Fin 96) (master : Fin 3) (s : State) (hm : P s) : Answers P (execRetrain l master s) := by
  unfold execRetrain; repeat' first | with_reducible assumption | with_reducible apply answers_next (P := P) | extract_lets | with_reducible apply State.putB_stable hP | with_reducible apply State.retrain_stable hP | with_reducible apply State.fieldWrite_stable | with_reducible apply iff_stable (P := P) | with_reducible apply foldl_stable (P := P) | with_reducible apply foldl_stable_fst (P := P) | with_reducible apply foldl_stable_snd (P := P) | split | intro _ | dsimp +zetaDelta only []
theorem execInject_stable (l : Fin 96) (master : Fin 3) (s : State) (hm : P s) : Answers P (execInject l master s) := by
  unfold execInject; repeat' first | with_reducible assumption | with_reducible apply answers_next (P := P) | extract_lets | with_reducible apply State.injectErr_stable hP | with_reducible apply State.fieldWrite_stable | with_reducible apply iff_stable (P := P) | with_reducible apply foldl_stable (P := P) | with_reducible apply foldl_stable_fst (P := P) | with_reducible apply foldl_stable_snd (P := P) | split | intro _ | dsimp +zetaDelta only []
theorem execTrigPush_stable (q : Fin 128) (master : Fin 3) (size : Nat) (v : Nat) (s : State) (hm : P s) : Answers P (execTrigPush q master size v s) := by
  unfold execTrigPush; repeat' first | with_reducible assumption | with_reducible apply answers_next (P := P) | extract_lets | with_reducible apply State.unreached_stable hP | with_reducible apply State.badAccess_stable hP | with_reducible apply State.ringPush_stable hP | with_reducible apply State.fieldWrite_stable | with_reducible apply iff_stable (P := P) | with_reducible apply foldl_stable (P := P) | with_reducible apply foldl_stable_fst (P := P) | with_reducible apply foldl_stable_snd (P := P) | split | intro _ | dsimp +zetaDelta only []
theorem execFire_stable (q : Fin 128) (master : Fin 3) (s : State) (hm : P s) : Answers P (execFire q master s) := by
  unfold execFire; repeat' first | with_reducible assumption | with_reducible apply answers_next (P := P) | extract_lets | with_reducible apply State.fireNow_stable hP | with_reducible apply State.fieldWrite_stable | with_reducible apply iff_stable (P := P) | with_reducible apply foldl_stable (P := P) | with_reducible apply foldl_stable_fst (P := P) | with_reducible apply foldl_stable_snd (P := P) | split | intro _ | dsimp +zetaDelta only []
theorem execRingClear_stable (q : Fin 128) (master : Fin 3) (s : State) (hm : P s) : Answers P (execRingClear q master s) := by
  unfold execRingClear; repeat' first | with_reducible assumption | with_reducible apply answers_next (P := P) | extract_lets | with_reducible apply State.ringClear_stable hP | with_reducible apply State.fieldWrite_stable | with_reducible apply iff_stable (P := P) | with_reducible apply foldl_stable (P := P) | with_reducible apply foldl_stable_fst (P := P) | with_reducible apply foldl_stable_snd (P := P) | split | intro _ | dsimp +zetaDelta only []
theorem execResync_stable (q : Fin 128) (master : Fin 3) (s : State) (hm : P s) : Answers P (execResync q master s) := by
  unfold execResync; repeat' first | with_reducible assumption | with_reducible apply answers_next (P := P) | extract_lets | with_reducible apply State.resync_stable hP | with_reducible apply State.fieldWrite_stable | with_reducible apply iff_stable (P := P) | with_reducible apply foldl_stable (P := P) | with_reducible apply foldl_stable_fst (P := P) | with_reducible apply foldl_stable_snd (P := P) | split | intro _ | dsimp +zetaDelta only []
theorem execSequencerEnable_stable (q : Fin 128) (master : Fin 3) (s : State) (hm : P s) : Answers P (execSequencerEnable q master s) := by
  unfold execSequencerEnable; repeat' first | with_reducible assumption | with_reducible apply answers_next (P := P) | extract_lets | with_reducible apply State.putB_stable hP | with_reducible apply State.trigStart_stable hP | with_reducible apply State.fieldWrite_stable | with_reducible apply iff_stable (P := P) | with_reducible apply foldl_stable (P := P) | with_reducible apply foldl_stable_fst (P := P) | with_reducible apply foldl_stable_snd (P := P) | split | intro _ | dsimp +zetaDelta only []
theorem execSequencerDisable_stable (q : Fin 128) (master : Fin 3) (s : State) (hm : P s) : Answers P (execSequencerDisable q master s) := by
  unfold execSequencerDisable; repeat' first | with_reducible assumption | with_reducible apply answers_next (P := P) | extract_lets | with_reducible apply State.putB_stable hP | with_reducible apply State.trigStop_stable hP | with_reducible apply State.fieldWrite_stable | with_reducible apply iff_stable (P := P) | with_reducible apply foldl_stable (P := P) | with_reducible apply foldl_stable_fst (P := P) | with_reducible apply foldl_stable_snd (P := P) | split | intro _ | dsimp +zetaDelta only []
theorem execPeakClear_stable (l : Fin 96) (master : Fin 3) (s : State) (hm : P s) : Answers P (execPeakClear l master s) := by
  unfold execPeakClear; repeat' first | with_reducible assumption | with_reducible apply answers_next (P := P) | extract_lets | with_reducible apply State.clearPeak_stable hP | with_reducible apply State.fieldWrite_stable | with_reducible apply iff_stable (P := P) | with_reducible apply foldl_stable (P := P) | with_reducible apply foldl_stable_fst (P := P) | with_reducible apply foldl_stable_snd (P := P) | split | intro _ | dsimp +zetaDelta only []
theorem execSwap_stable (l : Fin 96) (master : Fin 3) (s : State) (hm : P s) : Answers P (execSwap l master s) := by
  unfold execSwap; repeat' first | with_reducible assumption | with_reducible apply answers_next (P := P) | extract_lets | with_reducible apply State.askSwap_stable hP | with_reducible apply State.fieldWrite_stable | with_reducible apply iff_stable (P := P) | with_reducible apply foldl_stable (P := P) | with_reducible apply foldl_stable_fst (P := P) | with_reducible apply foldl_stable_snd (P := P) | split | intro _ | dsimp +zetaDelta only []
theorem execStitchEnable_stable (u : Fin 16) (master : Fin 3) (s : State) (hm : P s) : Answers P (execStitchEnable u master s) := by
  unfold execStitchEnable; repeat' first | with_reducible assumption | with_reducible apply answers_next (P := P) | extract_lets | with_reducible apply State.stitchOn_stable hP | with_reducible apply State.fieldWrite_stable | with_reducible apply iff_stable (P := P) | with_reducible apply foldl_stable (P := P) | with_reducible apply foldl_stable_fst (P := P) | with_reducible apply foldl_stable_snd (P := P) | split | intro _ | dsimp +zetaDelta only []
theorem execStitchDisable_stable (u : Fin 16) (master : Fin 3) (s : State) (hm : P s) : Answers P (execStitchDisable u master s) := by
  unfold execStitchDisable; repeat' first | with_reducible assumption | with_reducible apply answers_next (P := P) | extract_lets | with_reducible apply State.stitchOff_stable hP | with_reducible apply State.fieldWrite_stable | with_reducible apply iff_stable (P := P) | with_reducible apply foldl_stable (P := P) | with_reducible apply foldl_stable_fst (P := P) | with_reducible apply foldl_stable_snd (P := P) | split | intro _ | dsimp +zetaDelta only []
theorem execAbort_stable (e : Fin 192) (master : Fin 3) (s : State) (hm : P s) : Answers P (execAbort e master s) := by
  unfold execAbort; repeat' first | with_reducible assumption | with_reducible apply answers_next (P := P) | extract_lets | with_reducible apply State.engFault_stable hP | with_reducible apply State.fieldWrite_stable | with_reducible apply iff_stable (P := P) | with_reducible apply foldl_stable (P := P) | with_reducible apply foldl_stable_fst (P := P) | with_reducible apply foldl_stable_snd (P := P) | split | intro _ | dsimp +zetaDelta only []
theorem State.applyRec_stable (s : State) (r : RegRec) (hm : P s) : P (State.applyRec s r) := by
  unfold State.applyRec; repeat' first | with_reducible assumption | with_reducible apply answers_next (P := P) | extract_lets | with_reducible apply State.write32_stable hP | with_reducible apply State.badAccess_stable hP | with_reducible apply iff_stable (P := P) | with_reducible apply foldl_stable (P := P) | with_reducible apply foldl_stable_fst (P := P) | with_reducible apply foldl_stable_snd (P := P) | split | intro _ | dsimp +zetaDelta only []
theorem State.applyImage_stable (s : State) (l : List Byte) (hm : P s) : P (State.applyImage s l) := by
  unfold State.applyImage; repeat' first | with_reducible assumption | with_reducible apply answers_next (P := P) | extract_lets | with_reducible apply State.applyRec_stable hP | with_reducible apply State.logC_stable hP | with_reducible apply iff_stable (P := P) | with_reducible apply foldl_stable (P := P) | with_reducible apply foldl_stable_fst (P := P) | with_reducible apply foldl_stable_snd (P := P) | split | intro _ | dsimp +zetaDelta only []
theorem State.applyPlan_stable (s : State) (p : List Byte) (l : Nat) (hm : P s) : P (State.applyPlan s p l) := by
  unfold State.applyPlan; repeat' first | with_reducible assumption | with_reducible apply answers_next (P := P) | extract_lets | with_reducible apply State.put_stable hP | with_reducible apply State.putB_stable hP | with_reducible apply State.wrN_stable hP | with_reducible apply iff_stable (P := P) | with_reducible apply foldl_stable (P := P) | with_reducible apply foldl_stable_fst (P := P) | with_reducible apply foldl_stable_snd (P := P) | split | intro _ | dsimp +zetaDelta only []
theorem State.applyPlans_stable (s : State) (p : List Byte) (hm : P s) : P (State.applyPlans s p) := by
  unfold State.applyPlans; repeat' first | with_reducible assumption | with_reducible apply answers_next (P := P) | extract_lets | with_reducible apply State.applyPlan_stable hP | with_reducible apply iff_stable (P := P) | with_reducible apply foldl_stable (P := P) | with_reducible apply foldl_stable_fst (P := P) | with_reducible apply foldl_stable_snd (P := P) | split | intro _ | dsimp +zetaDelta only []
theorem State.applyFabric_stable (s : State) (sec : Option (List Byte)) (hm : P s) : P (State.applyFabric s sec) := by
  unfold State.applyFabric; repeat' first | with_reducible assumption | with_reducible apply answers_next (P := P) | extract_lets | with_reducible apply State.put_stable hP | with_reducible apply State.putB_stable hP | with_reducible apply iff_stable (P := P) | with_reducible apply foldl_stable (P := P) | with_reducible apply foldl_stable_fst (P := P) | with_reducible apply foldl_stable_snd (P := P) | split | intro _ | dsimp +zetaDelta only []
theorem State.loadRef_stable (s : State) (x : List Byte) (hm : P s) : P (State.loadRef s x) := by
  unfold State.loadRef; repeat' first | with_reducible assumption | with_reducible apply answers_next (P := P) | extract_lets | with_reducible apply hP.bayWr | with_reducible apply State.arbAsk_stable hP | with_reducible apply hP.ddrWr | with_reducible apply iff_stable (P := P) | with_reducible apply foldl_stable (P := P) | with_reducible apply foldl_stable_fst (P := P) | with_reducible apply foldl_stable_snd (P := P) | split | intro _ | dsimp +zetaDelta only []
theorem State.loadRefs_stable (s : State) (cl : List Byte) (hm : P s) : P (State.loadRefs s cl) := by
  unfold State.loadRefs; repeat' first | with_reducible assumption | with_reducible apply answers_next (P := P) | extract_lets | with_reducible apply State.loadRef_stable hP | with_reducible apply iff_stable (P := P) | with_reducible apply foldl_stable (P := P) | with_reducible apply foldl_stable_fst (P := P) | with_reducible apply foldl_stable_snd (P := P) | split | intro _ | dsimp +zetaDelta only []
theorem State.prospect_stable (s : State) (cl : List Byte) (hm : P s) : P (State.prospect s cl) := by
  unfold State.prospect; repeat' first | with_reducible assumption | with_reducible apply answers_next (P := P) | extract_lets | with_reducible apply State.applyImage_stable hP | with_reducible apply State.applyPlans_stable hP | with_reducible apply State.applyFabric_stable hP | with_reducible apply State.loadRefs_stable hP | with_reducible apply iff_stable (P := P) | with_reducible apply foldl_stable (P := P) | with_reducible apply foldl_stable_fst (P := P) | with_reducible apply foldl_stable_snd (P := P) | split | intro _ | dsimp +zetaDelta only []
theorem State.unitFail_stable (s : State) (code : Nat) (unit : Nat) (hm : P s) : P (State.unitFail s code unit) := by
  unfold State.unitFail; repeat' first | with_reducible assumption | with_reducible apply answers_next (P := P) | extract_lets | with_reducible apply State.logC_stable hP | with_reducible apply State.put_stable hP | with_reducible apply iff_stable (P := P) | with_reducible apply foldl_stable (P := P) | with_reducible apply foldl_stable_fst (P := P) | with_reducible apply foldl_stable_snd (P := P) | split | intro _ | dsimp +zetaDelta only []
theorem State.bootFail_stable (s : State) (code : Nat) (hm : P s) : P (State.bootFail s code) := by
  unfold State.bootFail; repeat' first | with_reducible assumption | with_reducible apply answers_next (P := P) | extract_lets | with_reducible apply State.unitFail_stable hP | with_reducible apply iff_stable (P := P) | with_reducible apply foldl_stable (P := P) | with_reducible apply foldl_stable_fst (P := P) | with_reducible apply foldl_stable_snd (P := P) | split | intro _ | dsimp +zetaDelta only []
theorem State.toRecovery_stable (s : State) (hm : P s) : P (State.toRecovery s) := by
  unfold State.toRecovery; repeat' first | with_reducible assumption | with_reducible apply answers_next (P := P) | extract_lets | with_reducible apply State.putB_stable hP | with_reducible apply hP.modMc | (intro _; rfl) | with_reducible apply iff_stable (P := P) | with_reducible apply foldl_stable (P := P) | with_reducible apply foldl_stable_fst (P := P) | with_reducible apply foldl_stable_snd (P := P) | split | intro _ | dsimp +zetaDelta only []
theorem State.runImage_stable (s : State) (img : List Byte) (hm : P s) : P (State.runImage s img) := by
  unfold State.runImage; repeat' first | with_reducible assumption | with_reducible apply answers_next (P := P) | extract_lets | with_reducible apply State.wrN_stable hP | with_reducible apply State.putB_stable hP | with_reducible apply hP.modMc | (intro _; rfl) | with_reducible apply iff_stable (P := P) | with_reducible apply foldl_stable (P := P) | with_reducible apply foldl_stable_fst (P := P) | with_reducible apply foldl_stable_snd (P := P) | split | intro _ | dsimp +zetaDelta only []
theorem State.runSlot_stable (s : State) (i : Nat) (hm : P s) : P (State.runSlot s i) := by
  unfold State.runSlot; repeat' first | with_reducible assumption | with_reducible apply answers_next (P := P) | extract_lets | with_reducible apply State.recMark_stable hP | with_reducible apply State.runImage_stable hP | with_reducible apply State.put_stable hP | with_reducible apply iff_stable (P := P) | with_reducible apply foldl_stable (P := P) | with_reducible apply foldl_stable_fst (P := P) | with_reducible apply foldl_stable_snd (P := P) | split | intro _ | dsimp +zetaDelta only []
theorem State.selectFw_stable (s : State) (hm : P s) : P (State.selectFw s) := by
  unfold State.selectFw; repeat' first | with_reducible assumption | with_reducible apply answers_next (P := P) | extract_lets | with_reducible apply State.recMark_stable hP | with_reducible apply State.runSlot_stable hP | with_reducible apply State.bootFail_stable hP | with_reducible apply State.logC_stable hP | with_reducible apply State.toRecovery_stable hP | with_reducible apply iff_stable (P := P) | with_reducible apply foldl_stable (P := P) | with_reducible apply foldl_stable_fst (P := P) | with_reducible apply foldl_stable_snd (P := P) | split | intro _ | dsimp +zetaDelta only []
theorem State.setFlash_stable (s : State) (mode : Nat) (clk : Nat) (op : Nat) (dummy : Nat) (hm : P s) : P (State.setFlash s mode clk op dummy) := by
  unfold State.setFlash; repeat' first | with_reducible assumption | with_reducible apply answers_next (P := P) | extract_lets | with_reducible apply hP.modMc | (intro _; rfl) | with_reducible apply iff_stable (P := P) | with_reducible apply foldl_stable (P := P) | with_reducible apply foldl_stable_fst (P := P) | with_reducible apply foldl_stable_snd (P := P) | split | intro _ | dsimp +zetaDelta only []
theorem State.flashFit_stable (s : State) (modes : Nat) (mhz : Nat) (hm : P s) : P (State.flashFit s modes mhz) := by
  unfold State.flashFit; repeat' first | with_reducible assumption | with_reducible apply answers_next (P := P) | extract_lets | with_reducible apply State.setFlash_stable hP | with_reducible apply iff_stable (P := P) | with_reducible apply foldl_stable (P := P) | with_reducible apply foldl_stable_fst (P := P) | with_reducible apply foldl_stable_snd (P := P) | split | intro _ | dsimp +zetaDelta only []
theorem State.romRuns_stable (s : State) (hm : P s) : P (State.romRuns s) := by
  unfold State.romRuns; repeat' first | with_reducible assumption | with_reducible apply answers_next (P := P) | extract_lets | with_reducible apply hP.modPower | (intro _; rfl) | with_reducible apply hP.modMc | (intro _; rfl) | with_reducible apply State.setFlash_stable hP | with_reducible apply State.logC_stable hP | with_reducible apply iff_stable (P := P) | with_reducible apply foldl_stable (P := P) | with_reducible apply foldl_stable_fst (P := P) | with_reducible apply foldl_stable_snd (P := P) | split | intro _ | dsimp +zetaDelta only []
theorem State.romSelect_stable (s : State) (modes : Nat) (mhz : Nat) (hm : P s) : P (State.romSelect s modes mhz) := by
  unfold State.romSelect; repeat' first | with_reducible assumption | with_reducible apply answers_next (P := P) | extract_lets | with_reducible apply State.flashFit_stable hP | with_reducible apply State.logC_stable hP | with_reducible apply State.selectFw_stable hP | with_reducible apply iff_stable (P := P) | with_reducible apply foldl_stable (P := P) | with_reducible apply foldl_stable_fst (P := P) | with_reducible apply foldl_stable_snd (P := P) | split | intro _ | dsimp +zetaDelta only []
theorem execBootRomStart_stable (sfdp : Option (Nat × Nat)) (s : State) (hm : P s) : Answers P (execBootRomStart sfdp s) := by
  unfold execBootRomStart; repeat' first | with_reducible assumption | with_reducible apply answers_next (P := P) | extract_lets | with_reducible apply State.romRuns_stable hP | with_reducible apply State.toRecovery_stable hP | with_reducible apply State.bootFail_stable hP | with_reducible apply State.romSelect_stable hP | with_reducible apply hP.modPower | (intro _; rfl) | with_reducible apply iff_stable (P := P) | with_reducible apply foldl_stable (P := P) | with_reducible apply foldl_stable_fst (P := P) | with_reducible apply foldl_stable_snd (P := P) | split | intro _ | dsimp +zetaDelta only []
theorem State.logBadSlots_stable (s : State) (hm : P s) : P (State.logBadSlots s) := by
  unfold State.logBadSlots; repeat' first | with_reducible assumption | with_reducible apply answers_next (P := P) | extract_lets | with_reducible apply State.logC_stable hP | with_reducible apply iff_stable (P := P) | with_reducible apply foldl_stable (P := P) | with_reducible apply foldl_stable_fst (P := P) | with_reducible apply foldl_stable_snd (P := P) | split | intro _ | dsimp +zetaDelta only []
theorem State.demoteTime_stable (s : State) (hm : P s) : P (State.demoteTime s) := by
  unfold State.demoteTime; repeat' first | with_reducible assumption | with_reducible apply answers_next (P := P) | extract_lets | with_reducible apply State.put_stable hP | with_reducible apply iff_stable (P := P) | with_reducible apply foldl_stable (P := P) | with_reducible apply foldl_stable_fst (P := P) | with_reducible apply foldl_stable_snd (P := P) | split | intro _ | dsimp +zetaDelta only []
theorem State.trialFailed_stable (s : State) (fw : Nat) (cl : Nat) (hm : P s) : P (State.trialFailed s fw cl) := by
  unfold State.trialFailed; repeat' first | with_reducible assumption | with_reducible apply answers_next (P := P) | extract_lets | with_reducible apply State.hdrRewrite_stable hP | with_reducible apply State.logC_stable hP | with_reducible apply State.raise_stable hP | with_reducible apply State.put_stable hP | with_reducible apply iff_stable (P := P) | with_reducible apply foldl_stable (P := P) | with_reducible apply foldl_stable_fst (P := P) | with_reducible apply foldl_stable_snd (P := P) | split | intro _ | dsimp +zetaDelta only []
theorem State.flashWrite_stable (s : State) (a : Nat) (l : List Byte) (hm : P s) : P (State.flashWrite s a l) := by
  unfold State.flashWrite; repeat' first | with_reducible assumption | with_reducible apply answers_next (P := P) | extract_lets | with_reducible apply hP.flashErase | with_reducible apply hP.flashProg | with_reducible apply iff_stable (P := P) | with_reducible apply foldl_stable (P := P) | with_reducible apply foldl_stable_fst (P := P) | with_reducible apply foldl_stable_snd (P := P) | split | intro _ | dsimp +zetaDelta only []
theorem State.activate_stable (s : State) (target : Nat) (slot : Nat) (hm : P s) : P (State.activate s target slot) := by
  unfold State.activate; repeat' first | with_reducible assumption | with_reducible apply answers_next (P := P) | extract_lets | with_reducible apply State.hdrRewrite_stable hP | with_reducible apply State.recMark_stable hP | with_reducible apply State.put_stable hP | with_reducible apply iff_stable (P := P) | with_reducible apply foldl_stable (P := P) | with_reducible apply foldl_stable_fst (P := P) | with_reducible apply foldl_stable_snd (P := P) | split | intro _ | dsimp +zetaDelta only []
theorem State.recoveryWrite_stable (s : State) (hm : P s) : P (State.recoveryWrite s) := by
  unfold State.recoveryWrite; repeat' first | with_reducible assumption | with_reducible apply answers_next (P := P) | extract_lets | with_reducible apply hP.modMc | (intro _; rfl) | with_reducible apply State.recNew_stable hP | with_reducible apply State.flashWrite_stable hP | with_reducible apply State.recMark_stable hP | with_reducible apply State.activate_stable hP | with_reducible apply iff_stable (P := P) | with_reducible apply foldl_stable (P := P) | with_reducible apply foldl_stable_fst (P := P) | with_reducible apply foldl_stable_snd (P := P) | split | intro _ | dsimp +zetaDelta only []
theorem State.fwBegin_stable (s : State) (hm : P s) : P (State.fwBegin s) := by
  unfold State.fwBegin; repeat' first | with_reducible assumption | with_reducible apply answers_next (P := P) | extract_lets | with_reducible apply State.logC_stable hP | with_reducible apply State.logBadSlots_stable hP | with_reducible apply hP.modMc | (intro _; rfl) | with_reducible apply State.demoteTime_stable hP | with_reducible apply State.trialFailed_stable hP | with_reducible apply State.put_stable hP | with_reducible apply State.recoveryWrite_stable hP | with_reducible apply State.romUpdate_stable hP | with_reducible apply iff_stable (P := P) | with_reducible apply foldl_stable (P := P) | with_reducible apply foldl_stable_fst (P := P) | with_reducible apply foldl_stable_snd (P := P) | split | intro _ | dsimp +zetaDelta only []
theorem State.fwResume_stable (s : State) (hm : P s) : P (State.fwResume s) := by
  unfold State.fwResume; repeat' first | with_reducible assumption | with_reducible apply answers_next (P := P) | extract_lets | with_reducible apply State.logC_stable hP | with_reducible apply hP.modMc | (intro _; rfl) | with_reducible apply iff_stable (P := P) | with_reducible apply foldl_stable (P := P) | with_reducible apply foldl_stable_fst (P := P) | with_reducible apply foldl_stable_snd (P := P) | split | intro _ | dsimp +zetaDelta only []
theorem State.logRepair_stable (s : State) (hm : P s) : P (State.logRepair s) := by
  unfold State.logRepair; repeat' first | with_reducible assumption | with_reducible apply answers_next (P := P) | extract_lets | with_reducible apply State.logC_stable hP | with_reducible apply iff_stable (P := P) | with_reducible apply foldl_stable (P := P) | with_reducible apply foldl_stable_fst (P := P) | with_reducible apply foldl_stable_snd (P := P) | split | intro _ | dsimp +zetaDelta only []
theorem State.clFail_stable (s : State) (c : Nat × Nat) (hm : P s) : P (State.clFail s c) := by
  unfold State.clFail; repeat' first | with_reducible assumption | with_reducible apply answers_next (P := P) | extract_lets | with_reducible apply State.bootFail_stable hP | with_reducible apply State.unitFail_stable hP | with_reducible apply iff_stable (P := P) | with_reducible apply foldl_stable (P := P) | with_reducible apply foldl_stable_fst (P := P) | with_reducible apply foldl_stable_snd (P := P) | split | intro _ | dsimp +zetaDelta only []
theorem State.hold_stable (s : State) (hm : P s) : P (State.hold s) := by
  unfold State.hold; repeat' first | with_reducible assumption | with_reducible apply answers_next (P := P) | extract_lets | with_reducible apply State.putB_stable hP | with_reducible apply iff_stable (P := P) | with_reducible apply foldl_stable (P := P) | with_reducible apply foldl_stable_fst (P := P) | with_reducible apply foldl_stable_snd (P := P) | split | intro _ | dsimp +zetaDelta only []
theorem State.clTrialFail_stable (s : State) (hm : P s) : P (State.clTrialFail s) := by
  unfold State.clTrialFail; repeat' first | with_reducible assumption | with_reducible apply answers_next (P := P) | extract_lets | with_reducible apply State.recMark_stable hP | with_reducible apply State.trialFailed_stable hP | with_reducible apply hP.sysReset | with_reducible apply iff_stable (P := P) | with_reducible apply foldl_stable (P := P) | with_reducible apply foldl_stable_fst (P := P) | with_reducible apply foldl_stable_snd (P := P) | split | intro _ | dsimp +zetaDelta only []
theorem State.clSelect_stable (s : State) (hm : P s) : P (State.clSelect s).1 := by
  unfold State.clSelect; repeat' first | with_reducible assumption | with_reducible apply answers_next (P := P) | extract_lets | with_reducible apply State.clFail_stable hP | with_reducible apply State.clTrialFail_stable hP | with_reducible apply State.recMark_stable hP | with_reducible apply State.logC_stable hP | with_reducible apply State.hold_stable hP | with_reducible apply iff_stable (P := P) | with_reducible apply foldl_stable (P := P) | with_reducible apply foldl_stable_fst (P := P) | with_reducible apply foldl_stable_snd (P := P) | split | intro _ | dsimp +zetaDelta only []
theorem State.train_stable (s : State) (k : Nat) (t : Nat) (hm : P s) : P (State.train s k t) := by
  unfold State.train; repeat' first | with_reducible assumption | with_reducible apply answers_next (P := P) | extract_lets | with_reducible apply State.put_stable hP | with_reducible apply State.setLock_stable hP | with_reducible apply State.raise_stable hP | with_reducible apply State.logC_stable hP | with_reducible apply State.ddrRetire_stable hP | with_reducible apply iff_stable (P := P) | with_reducible apply foldl_stable (P := P) | with_reducible apply foldl_stable_fst (P := P) | with_reducible apply foldl_stable_snd (P := P) | split | intro _ | dsimp +zetaDelta only []
theorem State.loadTable_stable (s : State) (x : List Byte) (hm : P s) : P (State.loadTable s x) := by
  unfold State.loadTable; repeat' first | with_reducible assumption | with_reducible apply answers_next (P := P) | extract_lets | with_reducible apply State.arbAsk_stable hP | with_reducible apply hP.ddrWr | with_reducible apply State.write32_stable hP | with_reducible apply State.badAccess_stable hP | with_reducible apply iff_stable (P := P) | with_reducible apply foldl_stable (P := P) | with_reducible apply foldl_stable_fst (P := P) | with_reducible apply foldl_stable_snd (P := P) | split | intro _ | dsimp +zetaDelta only []
theorem State.badRef_stable (s : State) (x : List Byte) (units : List Nat) (hm : P s) : P (State.badRef s x units) := by
  unfold State.badRef; repeat' first | with_reducible assumption | with_reducible apply answers_next (P := P) | extract_lets | with_reducible apply hP.bayWr | with_reducible apply State.logC_stable hP | with_reducible apply iff_stable (P := P) | with_reducible apply foldl_stable (P := P) | with_reducible apply foldl_stable_fst (P := P) | with_reducible apply foldl_stable_snd (P := P) | split | intro _ | dsimp +zetaDelta only []
theorem State.loadSect_stable (s : State) (type : Nat) (x : List Byte) (units : List Nat) (hm : P s) : P (State.loadSect s type x units) := by
  unfold State.loadSect; repeat' first | with_reducible assumption | with_reducible apply answers_next (P := P) | extract_lets | with_reducible apply State.loadTable_stable hP | with_reducible apply State.loadRef_stable hP | with_reducible apply State.badRef_stable hP | with_reducible apply State.applyKernel_stable hP | with_reducible apply iff_stable (P := P) | with_reducible apply foldl_stable (P := P) | with_reducible apply foldl_stable_fst (P := P) | with_reducible apply foldl_stable_snd (P := P) | split | intro _ | dsimp +zetaDelta only []
theorem State.pass2_stable (s : State) (cl : List Byte) (slot : Nat) (reread : List Nat) (bad : List (Nat × List Nat)) (xs : List (Nat × ClSect)) (hm : P s) : P (State.pass2 s cl slot reread bad xs) := by
  induction xs generalizing s with
  | nil => unfold State.pass2; (repeat' first | with_reducible assumption | with_reducible apply answers_next (P := P) | extract_lets | with_reducible apply State.put_stable hP | with_reducible apply hP.modMc | (intro _; rfl) | with_reducible apply State.loadSect_stable hP | with_reducible apply State.logC_stable hP | with_reducible apply hP.sysReset | with_reducible apply iff_stable (P := P) | with_reducible apply foldl_stable (P := P) | with_reducible apply foldl_stable_fst (P := P) | with_reducible apply foldl_stable_snd (P := P) | split | intro _ | dsimp +zetaDelta only [])
  | cons _ _ ih => unfold State.pass2; repeat' first | with_reducible apply ih | with_reducible assumption | with_reducible apply answers_next (P := P) | extract_lets | with_reducible apply State.put_stable hP | with_reducible apply hP.modMc | (intro _; rfl) | with_reducible apply State.loadSect_stable hP | with_reducible apply State.logC_stable hP | with_reducible apply hP.sysReset | with_reducible apply iff_stable (P := P) | with_reducible apply foldl_stable (P := P) | with_reducible apply foldl_stable_fst (P := P) | with_reducible apply foldl_stable_snd (P := P) | split | intro _ | dsimp +zetaDelta only []
theorem State.applyCl_stable (s : State) (slot : Nat) (trained : List Nat) (reread : List Nat) (bad : List (Nat × List Nat)) (hm : P s) : P (State.applyCl s slot trained reread bad) := by
  unfold State.applyCl; repeat' first | with_reducible assumption | with_reducible apply answers_next (P := P) | extract_lets | with_reducible apply State.put_stable hP | with_reducible apply State.logC_stable hP | with_reducible apply State.applyImage_stable hP | with_reducible apply State.train_stable hP | with_reducible apply State.romUpdate_stable hP | with_reducible apply State.pass2_stable hP | with_reducible apply iff_stable (P := P) | with_reducible apply foldl_stable (P := P) | with_reducible apply foldl_stable_fst (P := P) | with_reducible apply foldl_stable_snd (P := P) | split | intro _ | dsimp +zetaDelta only []
theorem State.bringUp_stable (s : State) (trained : List Nat) (reread : List Nat) (bad : List (Nat × List Nat)) (hm : P s) : P (State.bringUp s trained reread bad) := by
  unfold State.bringUp; repeat' first | with_reducible assumption | with_reducible apply answers_next (P := P) | extract_lets | with_reducible apply State.logRepair_stable hP | with_reducible apply State.clSelect_stable hP | with_reducible apply State.applyCl_stable hP | with_reducible apply iff_stable (P := P) | with_reducible apply foldl_stable (P := P) | with_reducible apply foldl_stable_fst (P := P) | with_reducible apply foldl_stable_snd (P := P) | split | intro _ | dsimp +zetaDelta only []
theorem execFirmwareStart_stable (trained : List Nat) (reread : List Nat) (bad : List (Nat × List Nat)) (s : State) (hm : P s) : Answers P (execFirmwareStart trained reread bad s) := by
  unfold execFirmwareStart; repeat' first | with_reducible assumption | with_reducible apply answers_next (P := P) | extract_lets | with_reducible apply State.fwBegin_stable hP | with_reducible apply State.fwResume_stable hP | with_reducible apply State.put_stable hP | with_reducible apply State.putB_stable hP | with_reducible apply State.bringUp_stable hP | with_reducible apply iff_stable (P := P) | with_reducible apply foldl_stable (P := P) | with_reducible apply foldl_stable_fst (P := P) | with_reducible apply foldl_stable_snd (P := P) | split | intro _ | dsimp +zetaDelta only []
theorem State.fixWindows_stable (s : State) (p : Nat) (hm : P s) : P (State.fixWindows s p) := by
  unfold State.fixWindows; repeat' first | with_reducible assumption | with_reducible apply answers_next (P := P) | extract_lets | with_reducible apply State.windowCommit_stable hP | with_reducible apply State.windowSwitch_stable hP | with_reducible apply hP.modHport | with_reducible apply iff_stable (P := P) | with_reducible apply foldl_stable (P := P) | with_reducible apply foldl_stable_fst (P := P) | with_reducible apply foldl_stable_snd (P := P) | split | intro _ | dsimp +zetaDelta only []
theorem State.admitAll_stable (s : State) (cl : List Byte) (hm : P s) : P (State.admitAll s cl).1 := by
  unfold State.admitAll; repeat' first | with_reducible assumption | with_reducible apply answers_next (P := P) | extract_lets | with_reducible apply State.logC_stable hP | with_reducible apply State.admitStream_stable hP | with_reducible apply iff_stable (P := P) | with_reducible apply foldl_stable (P := P) | with_reducible apply foldl_stable_fst (P := P) | with_reducible apply foldl_stable_snd (P := P) | split | intro _ | dsimp +zetaDelta only []
theorem State.showCl_stable (s : State) (cl : List Byte) (hm : P s) : P (State.showCl s cl) := by
  unfold State.showCl; repeat' first | with_reducible assumption | with_reducible apply answers_next (P := P) | extract_lets | with_reducible apply hP.modMc | (intro _; rfl) | with_reducible apply State.wr64_stable hP | with_reducible apply State.showCap_stable hP | with_reducible apply State.romBuild_stable hP | with_reducible apply iff_stable (P := P) | with_reducible apply foldl_stable (P := P) | with_reducible apply foldl_stable_fst (P := P) | with_reducible apply foldl_stable_snd (P := P) | split | intro _ | dsimp +zetaDelta only []
theorem State.clAdmit_stable (s : State) (hm : P s) : P (State.clAdmit s).1 := by
  unfold State.clAdmit; repeat' first | with_reducible assumption | with_reducible apply answers_next (P := P) | extract_lets | with_reducible apply State.fixWindows_stable hP | with_reducible apply State.admitAll_stable hP | with_reducible apply State.showCl_stable hP | with_reducible apply State.put_stable hP | with_reducible apply iff_stable (P := P) | with_reducible apply foldl_stable (P := P) | with_reducible apply foldl_stable_fst (P := P) | with_reducible apply foldl_stable_snd (P := P) | split | intro _ | dsimp +zetaDelta only []
theorem execClCommit_stable (s : State) (hm : P s) : Answers P (execClCommit s) := by
  unfold execClCommit; repeat' first | with_reducible assumption | with_reducible apply answers_next (P := P) | extract_lets | with_reducible apply State.setClCommit_stable hP | with_reducible apply State.clAdmit_stable hP | with_reducible apply State.clTrialFail_stable hP | with_reducible apply State.hold_stable hP | with_reducible apply iff_stable (P := P) | with_reducible apply foldl_stable (P := P) | with_reducible apply foldl_stable_fst (P := P) | with_reducible apply foldl_stable_snd (P := P) | split | intro _ | dsimp +zetaDelta only []
theorem State.stage7_stable (s : State) (hm : P s) : P (State.stage7 s) := by
  unfold State.stage7; repeat' first | with_reducible assumption | with_reducible apply answers_next (P := P) | extract_lets | with_reducible apply State.applyPlans_stable hP | with_reducible apply State.applyFabric_stable hP | with_reducible apply State.put_stable hP | with_reducible apply State.romUpdate_stable hP | with_reducible apply iff_stable (P := P) | with_reducible apply foldl_stable (P := P) | with_reducible apply foldl_stable_fst (P := P) | with_reducible apply foldl_stable_snd (P := P) | split | intro _ | dsimp +zetaDelta only []
theorem execLinkRelease_stable (s : State) (hm : P s) : Answers P (execLinkRelease s) := by
  unfold execLinkRelease; repeat' first | with_reducible assumption | with_reducible apply answers_next (P := P) | extract_lets | with_reducible apply State.stage7_stable hP | with_reducible apply State.setRelease_stable hP | with_reducible apply iff_stable (P := P) | with_reducible apply foldl_stable (P := P) | with_reducible apply foldl_stable_fst (P := P) | with_reducible apply foldl_stable_snd (P := P) | split | intro _ | dsimp +zetaDelta only []
theorem State.setOwner_stable (s : State) (outs : List Byte) (ok : Nat → Bool) (g : Nat) (hm : P s) : P (State.setOwner s outs ok g) := by
  unfold State.setOwner; repeat' first | with_reducible assumption | with_reducible apply answers_next (P := P) | extract_lets | with_reducible apply State.wrN_stable hP | with_reducible apply State.putB_stable hP | with_reducible apply iff_stable (P := P) | with_reducible apply foldl_stable (P := P) | with_reducible apply foldl_stable_fst (P := P) | with_reducible apply foldl_stable_snd (P := P) | split | intro _ | dsimp +zetaDelta only []
theorem State.stage8_stable (s : State) (outs : List Byte) (hm : P s) : P (State.stage8 s outs) := by
  unfold State.stage8; repeat' first | with_reducible assumption | with_reducible apply answers_next (P := P) | extract_lets | with_reducible apply State.logC_stable hP | with_reducible apply State.setOwner_stable hP | with_reducible apply hP.modMc | (intro _; rfl) | with_reducible apply hP.modTb | with_reducible apply State.put_stable hP | with_reducible apply iff_stable (P := P) | with_reducible apply foldl_stable (P := P) | with_reducible apply foldl_stable_fst (P := P) | with_reducible apply foldl_stable_snd (P := P) | split | intro _ | dsimp +zetaDelta only []
theorem State.firstCommit_stable (s : State) (hm : P s) : P (State.firstCommit s) := by
  unfold State.firstCommit; repeat' first | with_reducible assumption | with_reducible apply answers_next (P := P) | extract_lets | with_reducible apply hP.modStrm | with_reducible apply hP.setRateFrom | with_reducible apply hP.modEng | with_reducible apply State.faultWindow_stable hP | with_reducible apply State.setOutputs_stable hP | with_reducible apply State.put_stable hP | with_reducible apply iff_stable (P := P) | with_reducible apply foldl_stable (P := P) | with_reducible apply foldl_stable_fst (P := P) | with_reducible apply foldl_stable_snd (P := P) | split | intro _ | dsimp +zetaDelta only []
theorem execOutputCommitSet_stable (s : State) (hm : P s) : Answers P (execOutputCommitSet s) := by
  unfold execOutputCommitSet; repeat' first | with_reducible assumption | with_reducible apply answers_next (P := P) | extract_lets | with_reducible apply State.stage8_stable hP | with_reducible apply State.firstCommit_stable hP | with_reducible apply State.setOutputs_stable hP | with_reducible apply iff_stable (P := P) | with_reducible apply foldl_stable (P := P) | with_reducible apply foldl_stable_fst (P := P) | with_reducible apply foldl_stable_snd (P := P) | split | intro _ | dsimp +zetaDelta only []
theorem execCommitTimeoutExpiry_stable (s : State) (hm : P s) : Answers P (execCommitTimeoutExpiry s) := by
  unfold execCommitTimeoutExpiry; repeat' first | with_reducible assumption | with_reducible apply answers_next (P := P) | extract_lets | with_reducible apply State.logC_stable hP | with_reducible apply State.firstCommit_stable hP | with_reducible apply iff_stable (P := P) | with_reducible apply foldl_stable (P := P) | with_reducible apply foldl_stable_fst (P := P) | with_reducible apply foldl_stable_snd (P := P) | split | intro _ | dsimp +zetaDelta only []
theorem execOutputCommitClear_stable (s : State) (hm : P s) : Answers P (execOutputCommitClear s) := by
  unfold execOutputCommitClear; repeat' first | with_reducible assumption | with_reducible apply answers_next (P := P) | extract_lets | with_reducible apply State.clearOutputs_stable hP | with_reducible apply iff_stable (P := P) | with_reducible apply foldl_stable (P := P) | with_reducible apply foldl_stable_fst (P := P) | with_reducible apply foldl_stable_snd (P := P) | split | intro _ | dsimp +zetaDelta only []
theorem execMailboxBadOpcode_stable (p : Fin 2) (s : State) (hm : P s) : Answers P (execMailboxBadOpcode p s) := by
  unfold execMailboxBadOpcode; repeat' first | with_reducible assumption | with_reducible apply answers_next (P := P) | extract_lets | with_reducible apply State.answerFree_stable hP | with_reducible apply iff_stable (P := P) | with_reducible apply foldl_stable (P := P) | with_reducible apply foldl_stable_fst (P := P) | with_reducible apply foldl_stable_snd (P := P) | split | intro _ | dsimp +zetaDelta only []
theorem execGetInfo_stable (p : Fin 2) (s : State) (hm : P s) : Answers P (execGetInfo p s) := by
  unfold execGetInfo; repeat' first | with_reducible assumption | with_reducible apply answers_next (P := P) | extract_lets | with_reducible apply hP.free | with_reducible apply State.answerFree_stable hP | with_reducible apply iff_stable (P := P) | with_reducible apply foldl_stable (P := P) | with_reducible apply foldl_stable_fst (P := P) | with_reducible apply foldl_stable_snd (P := P) | split | intro _ | dsimp +zetaDelta only []
theorem execStreamOpen_stable (p : Fin 2) (s : State) (hm : P s) : Answers P (execStreamOpen p s) := by
  unfold execStreamOpen; repeat' first | with_reducible assumption | with_reducible apply answers_next (P := P) | extract_lets | with_reducible apply State.answerFree_stable hP | with_reducible apply State.admitStream_stable hP | with_reducible apply State.answer_stable hP | with_reducible apply State.romUpdate_stable hP | with_reducible apply iff_stable (P := P) | with_reducible apply foldl_stable (P := P) | with_reducible apply foldl_stable_fst (P := P) | with_reducible apply foldl_stable_snd (P := P) | split | intro _ | dsimp +zetaDelta only []
theorem execStreamClose_stable (p : Fin 2) (st : Fin 256) (s : State) (hm : P s) : Answers P (execStreamClose p st s) := by
  unfold execStreamClose; repeat' first | with_reducible assumption | with_reducible apply answers_next (P := P) | extract_lets | with_reducible apply State.answerFree_stable hP | with_reducible apply State.closeStream_stable hP | with_reducible apply State.romUpdate_stable hP | with_reducible apply iff_stable (P := P) | with_reducible apply foldl_stable (P := P) | with_reducible apply foldl_stable_fst (P := P) | with_reducible apply foldl_stable_snd (P := P) | split | intro _ | dsimp +zetaDelta only []
theorem State.postRing_stable (s : State) (p : Nat) (hm : P s) : P (State.postRing s p) := by
  unfold State.postRing; repeat' first | with_reducible assumption | with_reducible apply answers_next (P := P) | extract_lets | with_reducible apply State.wr64_stable hP | with_reducible apply State.wrN_stable hP | with_reducible apply State.putB_stable hP | with_reducible apply hP.modRing | with_reducible apply iff_stable (P := P) | with_reducible apply foldl_stable (P := P) | with_reducible apply foldl_stable_fst (P := P) | with_reducible apply foldl_stable_snd (P := P) | split | intro _ | dsimp +zetaDelta only []
theorem execRingPost_stable (p : Fin 2) (s : State) (hm : P s) : Answers P (execRingPost p s) := by
  unfold execRingPost; repeat' first | with_reducible assumption | with_reducible apply answers_next (P := P) | extract_lets | with_reducible apply State.logC_stable hP | with_reducible apply State.answerFree_stable hP | with_reducible apply State.withdraw_stable hP | with_reducible apply State.postRing_stable hP | with_reducible apply iff_stable (P := P) | with_reducible apply foldl_stable (P := P) | with_reducible apply foldl_stable_fst (P := P) | with_reducible apply foldl_stable_snd (P := P) | split | intro _ | dsimp +zetaDelta only []
theorem State.dropWaiting_stable (s : State) (st : Nat) (p : Nat) (hm : P s) : P (State.dropWaiting s st p) := by
  unfold State.dropWaiting; repeat' first | with_reducible assumption | with_reducible apply answers_next (P := P) | extract_lets | with_reducible apply State.bump_stable hP | with_reducible apply State.unserve_stable hP | with_reducible apply hP.dropDlv | with_reducible apply hP.modDlv | with_reducible apply iff_stable (P := P) | with_reducible apply foldl_stable (P := P) | with_reducible apply foldl_stable_fst (P := P) | with_reducible apply foldl_stable_snd (P := P) | split | intro _ | dsimp +zetaDelta only []
theorem execRingWithdraw_stable (p : Fin 2) (s : State) (hm : P s) : Answers P (execRingWithdraw p s) := by
  unfold execRingWithdraw; repeat' first | with_reducible assumption | with_reducible apply answers_next (P := P) | extract_lets | with_reducible apply State.answerFree_stable hP | with_reducible apply State.putB_stable hP | with_reducible apply hP.modRing | with_reducible apply State.withdraw_stable hP | with_reducible apply hP.modMc | (intro _; rfl) | with_reducible apply State.dropWaiting_stable hP | with_reducible apply State.showWaiting_stable hP | with_reducible apply State.settleWithdraw_stable hP | with_reducible apply iff_stable (P := P) | with_reducible apply foldl_stable (P := P) | with_reducible apply foldl_stable_fst (P := P) | with_reducible apply foldl_stable_snd (P := P) | split | intro _ | dsimp +zetaDelta only []
theorem execCameraAccess_stable (p : Fin 2) (l : Fin 96) (op : Fin 4) (addr : Word) (value : Word) (s : State) (hm : P s) : Answers P (execCameraAccess p l op addr value s) := by
  unfold execCameraAccess; repeat' first | with_reducible assumption | with_reducible apply answers_next (P := P) | extract_lets | with_reducible apply State.gvcpNext_stable hP | with_reducible apply State.accessDone_stable hP | with_reducible apply State.answerFree_stable hP | with_reducible apply hP.modMc | (intro _; rfl) | with_reducible apply hP.modEth | with_reducible apply State.accessGo_stable hP | with_reducible apply iff_stable (P := P) | with_reducible apply foldl_stable (P := P) | with_reducible apply foldl_stable_fst (P := P) | with_reducible apply foldl_stable_snd (P := P) | split | intro _ | dsimp +zetaDelta only []
theorem State.loadPart_stable (s : State) (l : Nat) (bad : Nat → Bool) (x : Nat × Nat × Nat × Nat) (hm : P s) : P (State.loadPart s l bad x).1 := by
  unfold State.loadPart; repeat' first | with_reducible assumption | with_reducible apply answers_next (P := P) | extract_lets | with_reducible apply State.ddrUncorrectable_stable hP | with_reducible apply State.arbAsk_stable hP | with_reducible apply hP.bayWr | with_reducible apply iff_stable (P := P) | with_reducible apply foldl_stable (P := P) | with_reducible apply foldl_stable_fst (P := P) | with_reducible apply foldl_stable_snd (P := P) | split | intro _ | dsimp +zetaDelta only []
theorem State.loadAll_stable (s : State) (l : Nat) (bad : Nat → Bool) (xs : List (Nat × Nat × Nat × Nat)) (hm : P s) : P (State.loadAll s l bad xs).1 := by
  unfold State.loadAll; repeat' first | with_reducible assumption | with_reducible apply answers_next (P := P) | extract_lets | with_reducible apply State.loadPart_stable hP | with_reducible apply iff_stable (P := P) | with_reducible apply foldl_stable (P := P) | with_reducible apply foldl_stable_fst (P := P) | with_reducible apply foldl_stable_snd (P := P) | split | intro _ | dsimp +zetaDelta only []
theorem execTableLoad_stable (p : Fin 2) (bad : List Nat) (s : State) (hm : P s) : Answers P (execTableLoad p bad s) := by
  unfold execTableLoad; repeat' first | with_reducible assumption | with_reducible apply answers_next (P := P) | extract_lets | with_reducible apply State.answerFree_stable hP | with_reducible apply State.loadAll_stable hP | with_reducible apply State.answer_stable hP | with_reducible apply iff_stable (P := P) | with_reducible apply foldl_stable (P := P) | with_reducible apply foldl_stable_fst (P := P) | with_reducible apply foldl_stable_snd (P := P) | split | intro _ | dsimp +zetaDelta only []
theorem execEngineRestart_stable (p : Fin 2) (e : Fin 192) (s : State) (hm : P s) : Answers P (execEngineRestart p e s) := by
  unfold execEngineRestart; repeat' first | with_reducible assumption | with_reducible apply answers_next (P := P) | extract_lets | with_reducible apply State.answerFree_stable hP | with_reducible apply State.restartEng_stable hP | with_reducible apply iff_stable (P := P) | with_reducible apply foldl_stable (P := P) | with_reducible apply foldl_stable_fst (P := P) | with_reducible apply foldl_stable_snd (P := P) | split | intro _ | dsimp +zetaDelta only []
theorem execUnitRetire_stable (p : Fin 2) (s : State) (hm : P s) : Answers P (execUnitRetire p s) := by
  unfold execUnitRetire; repeat' first | with_reducible assumption | with_reducible apply answers_next (P := P) | extract_lets | with_reducible apply State.logC_stable hP | with_reducible apply State.answerFree_stable hP | with_reducible apply State.answer_stable hP | with_reducible apply State.retireUnit_stable hP | with_reducible apply iff_stable (P := P) | with_reducible apply foldl_stable (P := P) | with_reducible apply foldl_stable_fst (P := P) | with_reducible apply foldl_stable_snd (P := P) | split | intro _ | dsimp +zetaDelta only []
theorem State.updBegin_stable (s : State) (target : Nat) (slot : Nat) (p : Nat) (total : Nat) (hm : P s) : P (State.updBegin s target slot p total) := by
  unfold State.updBegin; repeat' first | with_reducible assumption | with_reducible apply answers_next (P := P) | extract_lets | with_reducible apply State.put_stable hP | with_reducible apply State.wrN_stable hP | with_reducible apply hP.modMc | (intro _; rfl) | with_reducible apply iff_stable (P := P) | with_reducible apply foldl_stable (P := P) | with_reducible apply foldl_stable_fst (P := P) | with_reducible apply foldl_stable_snd (P := P) | split | intro _ | dsimp +zetaDelta only []
theorem execImageBegin_stable (p : Fin 2) (s : State) (hm : P s) : Answers P (execImageBegin p s) := by
  unfold execImageBegin; repeat' first | with_reducible assumption | with_reducible apply answers_next (P := P) | extract_lets | with_reducible apply State.answerFree_stable hP | with_reducible apply State.updBegin_stable hP | with_reducible apply State.recNew_stable hP | with_reducible apply State.logC_stable hP | with_reducible apply State.answer_stable hP | with_reducible apply iff_stable (P := P) | with_reducible apply foldl_stable (P := P) | with_reducible apply foldl_stable_fst (P := P) | with_reducible apply foldl_stable_snd (P := P) | split | intro _ | dsimp +zetaDelta only []
theorem execImageChunk_stable (p : Fin 2) (s : State) (hm : P s) : Answers P (execImageChunk p s) := by
  unfold execImageChunk; repeat' first | with_reducible assumption | with_reducible apply answers_next (P := P) | extract_lets | with_reducible apply State.answerFree_stable hP | with_reducible apply hP.modMc | (intro _; rfl) | with_reducible apply State.flashWrite_stable hP | with_reducible apply State.wrN_stable hP | with_reducible apply iff_stable (P := P) | with_reducible apply foldl_stable (P := P) | with_reducible apply foldl_stable_fst (P := P) | with_reducible apply foldl_stable_snd (P := P) | split | intro _ | dsimp +zetaDelta only []
theorem State.certStore_stable (s : State) (hm : P s) : P (State.certStore s) := by
  unfold State.certStore; repeat' first | with_reducible assumption | with_reducible apply answers_next (P := P) | extract_lets | with_reducible apply hP.flashErase | with_reducible apply hP.flashProg | with_reducible apply hP.modMc | (intro _; rfl) | with_reducible apply State.put_stable hP | with_reducible apply State.logC_stable hP | with_reducible apply iff_stable (P := P) | with_reducible apply foldl_stable (P := P) | with_reducible apply foldl_stable_fst (P := P) | with_reducible apply foldl_stable_snd (P := P) | split | intro _ | dsimp +zetaDelta only []
theorem State.recDigest_stable (s : State) (dig : List Byte) (hm : P s) : P (State.recDigest s dig) := by
  unfold State.recDigest; repeat' first | with_reducible assumption | with_reducible apply answers_next (P := P) | extract_lets | with_reducible apply hP.flashProg | with_reducible apply iff_stable (P := P) | with_reducible apply foldl_stable (P := P) | with_reducible apply foldl_stable_fst (P := P) | with_reducible apply foldl_stable_snd (P := P) | split | intro _ | dsimp +zetaDelta only []
theorem State.imageGood_stable (s : State) (target : Nat) (slot : Nat) (activate : Bool) (adv : Bool) (hm : P s) : P (State.imageGood s target slot activate adv) := by
  unfold State.imageGood; repeat' first | with_reducible assumption | with_reducible apply answers_next (P := P) | extract_lets | with_reducible apply State.recDigest_stable hP | with_reducible apply State.recMark_stable hP | with_reducible apply State.certStore_stable hP | with_reducible apply State.activate_stable hP | with_reducible apply State.logC_stable hP | with_reducible apply State.put_stable hP | with_reducible apply iff_stable (P := P) | with_reducible apply foldl_stable (P := P) | with_reducible apply foldl_stable_fst (P := P) | with_reducible apply foldl_stable_snd (P := P) | split | intro _ | dsimp +zetaDelta only []
theorem execImageEnd_stable (p : Fin 2) (s : State) (hm : P s) : Answers P (execImageEnd p s) := by
  unfold execImageEnd; repeat' first | with_reducible assumption | with_reducible apply answers_next (P := P) | extract_lets | with_reducible apply State.answerFree_stable hP | with_reducible apply State.put_stable hP | with_reducible apply State.runImage_stable hP | with_reducible apply hP.modMc | (intro _; rfl) | with_reducible apply State.imageGood_stable hP | with_reducible apply iff_stable (P := P) | with_reducible apply foldl_stable (P := P) | with_reducible apply foldl_stable_fst (P := P) | with_reducible apply foldl_stable_snd (P := P) | split | intro _ | dsimp +zetaDelta only []
theorem execCutlistTrial_stable (p : Fin 2) (s : State) (hm : P s) : Answers P (execCutlistTrial p s) := by
  unfold execCutlistTrial; repeat' first | with_reducible assumption | with_reducible apply answers_next (P := P) | extract_lets | with_reducible apply State.answerFree_stable hP | with_reducible apply State.activate_stable hP | with_reducible apply hP.sysReset | with_reducible apply iff_stable (P := P) | with_reducible apply foldl_stable (P := P) | with_reducible apply foldl_stable_fst (P := P) | with_reducible apply foldl_stable_snd (P := P) | split | intro _ | dsimp +zetaDelta only []
theorem execAttestReport_stable (p : Fin 2) (s : State) (hm : P s) : Answers P (execAttestReport p s) := by
  unfold execAttestReport; repeat' first | with_reducible assumption | with_reducible apply answers_next (P := P) | extract_lets | with_reducible apply State.answerFree_stable hP | with_reducible apply State.logC_stable hP | with_reducible apply iff_stable (P := P) | with_reducible apply foldl_stable (P := P) | with_reducible apply foldl_stable_fst (P := P) | with_reducible apply foldl_stable_snd (P := P) | split | intro _ | dsimp +zetaDelta only []
theorem execAttestCertificate_stable (p : Fin 2) (s : State) (hm : P s) : Answers P (execAttestCertificate p s) := by
  unfold execAttestCertificate; repeat' first | with_reducible assumption | with_reducible apply answers_next (P := P) | extract_lets | with_reducible apply State.answerFree_stable hP | with_reducible apply iff_stable (P := P) | with_reducible apply foldl_stable (P := P) | with_reducible apply foldl_stable_fst (P := P) | with_reducible apply foldl_stable_snd (P := P) | split | intro _ | dsimp +zetaDelta only []
theorem State.otpRefuse_stable (s : State) (p : Nat) (result : Nat) (hm : P s) : P (State.otpRefuse s p result) := by
  unfold State.otpRefuse; repeat' first | with_reducible assumption | with_reducible apply answers_next (P := P) | extract_lets | with_reducible apply hP.free | with_reducible apply State.logC_stable hP | with_reducible apply State.answerFree_stable hP | with_reducible apply iff_stable (P := P) | with_reducible apply foldl_stable (P := P) | with_reducible apply foldl_stable_fst (P := P) | with_reducible apply foldl_stable_snd (P := P) | split | intro _ | dsimp +zetaDelta only []
theorem State.otpDone_stable (s : State) (p : Nat) (kind : Nat) (slot : Nat) (hm : P s) : P (State.otpDone s p kind slot) := by
  unfold State.otpDone; repeat' first | with_reducible assumption | with_reducible apply answers_next (P := P) | extract_lets | with_reducible apply State.showOtp_stable hP | with_reducible apply State.romUpdate_stable hP | with_reducible apply State.logC_stable hP | with_reducible apply State.answerFree_stable hP | with_reducible apply iff_stable (P := P) | with_reducible apply foldl_stable (P := P) | with_reducible apply foldl_stable_fst (P := P) | with_reducible apply foldl_stable_snd (P := P) | split | intro _ | dsimp +zetaDelta only []
theorem execOtpProgramSlot_stable (ho : ∀ s a l, P s → P (s.otpProg a l)) (p : Fin 2) (s : State) (hm : P s) : Answers P (execOtpProgramSlot p s) := by
  unfold execOtpProgramSlot; repeat' first | with_reducible apply ho | (with_reducible apply State.advance_stable hP ho) | with_reducible assumption | with_reducible apply answers_next (P := P) | extract_lets | with_reducible apply State.otpRefuse_stable hP | with_reducible apply State.otpDone_stable hP | with_reducible apply State.logC_stable hP | with_reducible apply State.answerFree_stable hP | with_reducible apply iff_stable (P := P) | with_reducible apply foldl_stable (P := P) | with_reducible apply foldl_stable_fst (P := P) | with_reducible apply foldl_stable_snd (P := P) | split | intro _ | dsimp +zetaDelta only []
theorem execOtpRevokeSlot_stable (ho : ∀ s a l, P s → P (s.otpProg a l)) (p : Fin 2) (s : State) (hm : P s) : Answers P (execOtpRevokeSlot p s) := by
  unfold execOtpRevokeSlot; repeat' first | with_reducible apply ho | (with_reducible apply State.advance_stable hP ho) | with_reducible assumption | with_reducible apply answers_next (P := P) | extract_lets | with_reducible apply State.otpRefuse_stable hP | with_reducible apply State.logC_stable hP | with_reducible apply State.answerFree_stable hP | with_reducible apply State.otpDone_stable hP | with_reducible apply iff_stable (P := P) | with_reducible apply foldl_stable (P := P) | with_reducible apply foldl_stable_fst (P := P) | with_reducible apply foldl_stable_snd (P := P) | split | intro _ | dsimp +zetaDelta only []
theorem execMailboxReset_stable (p : Fin 2) (sys : Bool) (s : State) (hm : P s) : Answers P (execMailboxReset p sys s) := by
  unfold execMailboxReset; repeat' first | with_reducible assumption | with_reducible apply answers_next (P := P) | extract_lets | with_reducible apply State.answerFree_stable hP | with_reducible apply hP.sysReset | with_reducible apply State.mcReset_stable hP | with_reducible apply iff_stable (P := P) | with_reducible apply foldl_stable (P := P) | with_reducible apply foldl_stable_fst (P := P) | with_reducible apply foldl_stable_snd (P := P) | split | intro _ | dsimp +zetaDelta only []
theorem execOutputHold_stable (p : Fin 2) (s : State) (hm : P s) : Answers P (execOutputHold p s) := by
  unfold execOutputHold; repeat' first | with_reducible assumption | with_reducible apply answers_next (P := P) | extract_lets | with_reducible apply State.answerFree_stable hP | with_reducible apply State.clearOutputs_stable hP | with_reducible apply State.logC_stable hP | with_reducible apply iff_stable (P := P) | with_reducible apply foldl_stable (P := P) | with_reducible apply foldl_stable_fst (P := P) | with_reducible apply foldl_stable_snd (P := P) | split | intro _ | dsimp +zetaDelta only []
theorem execOutputResume_stable (p : Fin 2) (s : State) (hm : P s) : Answers P (execOutputResume p s) := by
  unfold execOutputResume; repeat' first | with_reducible assumption | with_reducible apply answers_next (P := P) | extract_lets | with_reducible apply State.answerFree_stable hP | with_reducible apply State.setOutputs_stable hP | with_reducible apply State.logC_stable hP | with_reducible apply iff_stable (P := P) | with_reducible apply foldl_stable (P := P) | with_reducible apply foldl_stable_fst (P := P) | with_reducible apply foldl_stable_snd (P := P) | split | intro _ | dsimp +zetaDelta only []
theorem execLogRead_stable (p : Fin 2) (s : State) (hm : P s) : Answers P (execLogRead p s) := by
  unfold execLogRead; repeat' first | with_reducible assumption | with_reducible apply answers_next (P := P) | extract_lets | with_reducible apply State.answerFree_stable hP | with_reducible apply State.answer_stable hP | with_reducible apply iff_stable (P := P) | with_reducible apply foldl_stable (P := P) | with_reducible apply foldl_stable_fst (P := P) | with_reducible apply foldl_stable_snd (P := P) | split | intro _ | dsimp +zetaDelta only []
theorem State.tick_stable (s : State) (hm : P s) : P (State.tick s) := by
  unfold State.tick; repeat' first | with_reducible assumption | with_reducible apply answers_next (P := P) | extract_lets | with_reducible apply State.tbTick_stable hP | with_reducible apply State.settleBents_stable hP | with_reducible apply State.ddrLand_stable hP | with_reducible apply State.fireSigs_stable hP | with_reducible apply State.sillTick_stable hP | with_reducible apply State.ethSlots_stable hP | with_reducible apply iff_stable (P := P) | with_reducible apply foldl_stable (P := P) | with_reducible apply foldl_stable_fst (P := P) | with_reducible apply foldl_stable_snd (P := P) | split | intro _ | dsimp +zetaDelta only []

end Sys2Proof.Machine
end

