-- ==== Sys2Proof/Laws/Whole.lean ====
section
/-!
SUPPORT. The commands as a whole: a property that survives the elementary changes of the state survives every command;
the canonical form of the tables, the queue and the bits of the OTP are such properties.
-/

set_option linter.unusedVariables false

namespace Sys2Proof.Machine

/-- What every command keeps: a stable property that also survives the programming of the OTP and the two commands of
the power-on reset. -/
theorem exec_stable {P : State → Prop} (hP : Stable P) (ho : ∀ s a l, P s → P (s.otpProg a l))
    (ha : ∀ s, P s → Answers P (execPorstAssert s)) (hr : ∀ m f s, P s → Answers P (execPorstRelease m f s))
    (i : Instr) (s : State) (h : P s) : Answers P (exec i s) := by
  cases i with
  | registerWrite a0 => exact execRegisterWrite_stable hP a0 s h
  | porstAssert => exact ha s h
  | porstRelease a0 a1 => exact hr a0 a1 s h
  | sysRstAssert => exact execSysRstAssert_stable hP s h
  | systemResetRelease => exact execSystemResetRelease_stable hP s h
  | sysResetRequest a0 => exact execSysResetRequest_stable hP a0 s h
  | mcResetRequest a0 => exact execMcResetRequest_stable hP a0 s h
  | mcWatchdogExpiry => exact execMcWatchdogExpiry_stable hP s h
  | pllLossOfLock a0 => exact execPllLossOfLock_stable hP a0 s h
  | pllLocked a0 => exact execPllLocked_stable hP a0 s h
  | tbHoldoverEntry => exact execTbHoldoverEntry_stable hP s h
  | tbRelock => exact execTbRelock_stable hP s h
  | tbRelockComplete => exact execTbRelockComplete_stable hP s h
  | tbCoarseExit => exact execTbCoarseExit_stable hP s h
  | droopDetect => exact execDroopDetect_stable hP s h
  | droopRestore => exact execDroopRestore_stable hP s h
  | droopForce => exact execForce_stable hP s h
  | droopWindowEnd => exact execDroopWindowEnd_stable hP s h
  | droopBudgetExceeded => exact execDroopBudgetExceeded_stable hP s h
  | bootRomStart a0 => exact execBootRomStart_stable hP a0 s h
  | firmwareStart a0 a1 a2 => exact execFirmwareStart_stable hP a0 a1 a2 s h
  | commitTimeoutExpiry => exact execCommitTimeoutExpiry_stable hP s h
  | clCommit => exact execClCommit_stable hP s h
  | linkRelease => exact execLinkRelease_stable hP s h
  | outputCommitSet => exact execOutputCommitSet_stable hP s h
  | outputCommitClear => exact execOutputCommitClear_stable hP s h
  | laneEnable a0 a1 => exact execLaneEnable_stable hP a0 a1 s h
  | laneDisable a0 a1 a2 => exact execLaneDisable_stable hP a0 a1 a2 s h
  | retrain a0 a1 => exact execRetrain_stable hP a0 a1 s h
  | lanePllLock a0 => exact execLanePllLock_stable hP a0 s h
  | lanePllLoss a0 => exact execLanePllLoss_stable hP a0 s h
  | blockLockGain a0 => exact execBlockLockGain_stable hP a0 s h
  | blockLockLoss a0 a1 => exact execBlockLockLoss_stable hP a0 a1 s h
  | alignSend a0 => exact execAlignSend_stable hP a0 s h
  | alignReceive a0 a1 a2 => exact execAlignReceive_stable hP a0 a1 a2 s h
  | alignMiss a0 => exact execAlignMiss_stable hP a0 s h
  | relockTimeout a0 => exact execRelockTimeout_stable hP a0 s h
  | losSet a0 => exact execLosSet_stable hP a0 s h
  | losClear a0 => exact execLosClear_stable hP a0 s h
  | lolSet a0 => exact execLolSet_stable hP a0 s h
  | lolClear a0 => exact execLolClear_stable hP a0 s h
  | trainBlockReceive a0 a1 => exact execTrainBlockReceive_stable hP a0 a1 s h
  | stepTimeout a0 => exact execStepTimeout_stable hP a0 s h
  | equaliseLimit a0 => exact execEqualiseLimit_stable hP a0 s h
  | equaliseLowMarginEnd a0 => exact execEqualiseLowMarginEnd_stable hP a0 s h
  | absentWaitExpiry a0 => exact execAbsentWaitExpiry_stable hP a0 s h
  | eyeMonitorCheck a0 a1 a2 a3 a4 => exact execEyeMonitorCheck_stable hP a0 a1 a2 a3 a4 s h
  | marginBurstEnd a0 => exact execMarginBurstEnd_stable hP a0 s h
  | equaliserFreeze a0 => exact execEqualiserFreeze_stable hP a0 s h
  | eidleReceive a0 a1 => exact execEidleReceive_stable hP a0 a1 s h
  | exitTimeout a0 => exact execExitTimeout_stable hP a0 s h
  | inject a0 a1 => exact execInject_stable hP a0 a1 s h
  | prbsPublish a0 a1 a2 => exact execPrbsPublish_stable hP a0 a1 a2 s h
  | lechoReceive a0 a1 a2 => exact execLechoReceive_stable hP a0 a1 a2 s h
  | probeTimeout a0 => exact execProbeTimeout_stable hP a0 s h
  | latencyMeasureTimeout a0 => exact execLatencyMeasureTimeout_stable hP a0 s h
  | latTrackProbe a0 => exact execLatTrackProbe_stable hP a0 s h
  | creditRefresh a0 => exact execCreditRefresh_stable hP a0 s h
  | sotReceive a0 a1 => exact execSotReceive_stable hP a0 a1 s h
  | tileHeaderReceive a0 => exact execTileHeaderReceive_stable hP a0 s h
  | ledgerEntryGrant a0 => exact execLedgerEntryGrant_stable hP a0 s h
  | payloadBlockReceive a0 a1 => exact execPayloadBlockReceive_stable hP a0 a1 s h
  | eotReceive a0 a1 => exact execEotReceive_stable hP a0 a1 s h
  | controlBlockBadCheck a0 a1 => exact execControlBlockBadCheck_stable hP a0 a1 s h
  | unknownTypeReceive a0 a1 => exact execUnknownTypeReceive_stable hP a0 a1 s h
  | ctrlRspReceive a0 a1 a2 => exact execCtrlRspReceive_stable hP a0 a1 a2 s h
  | violReceive a0 a1 => exact execViolReceive_stable hP a0 a1 s h
  | trigAgeExpiry a0 a1 => exact execTrigAgeExpiry_stable hP a0 a1 s h
  | ctrlGo a0 => exact execCtrlGo_stable hP a0 s h
  | ctrlTimeout a0 => exact execCtrlTimeout_stable hP a0 s h
  | trigLaunch a0 a1 => exact execTrigLaunch_stable hP a0 a1 s h
  | bondForm a0 a1 => exact execBondForm_stable hP a0 a1 s h
  | bondDeskewTimeout a0 => exact execBondDeskewTimeout_stable hP a0 s h
  | violDeferredSend a0 a1 => exact execViolDeferredSend_stable hP a0 a1 s h
  | violWindowEnd a0 => exact execViolWindowEnd_stable hP a0 s h
  | ethFrameReceive a0 a1 a2 a3 a4 => exact execEthFrameReceive_stable hP a0 a1 a2 a3 a4 s h
  | gvspLeaderReceive a0 a1 a2 a3 a4 => exact execGvspLeaderReceive_stable hP a0 a1 a2 a3 a4 s h
  | gvspPayloadReceive a0 a1 a2 a3 a4 a5 => exact execGvspPayloadReceive_stable hP a0 a1 a2 a3 a4 a5 s h
  | gvspTrailerReceive a0 a1 a2 => exact execGvspTrailerReceive_stable hP a0 a1 a2 s h
  | resendWaitExpiry a0 a1 => exact execResendWaitExpiry_stable hP a0 a1 s h
  | arpRetry a0 => exact execArpRetry_stable hP a0 s h
  | arpReplyReceive a0 a1 => exact execArpReplyReceive_stable hP a0 a1 s h
  | arpRequestReceive a0 a1 => exact execArpRequestReceive_stable hP a0 a1 s h
  | cameraSetup a0 a1 a2 => exact execCameraSetup_stable hP a0 a1 a2 s h
  | setupRetryExpiry a0 => exact execSetupRetryExpiry_stable hP a0 s h
  | gvcpAckTimeout a0 => exact execGvcpAckTimeout_stable hP a0 s h
  | heartbeatRead a0 a1 => exact execHeartbeatRead_stable hP a0 a1 s h
  | camSyncPoll a0 a1 => exact execCamSyncPoll_stable hP a0 a1 s h
  | ptpSyncSend a0 => exact execPtpSyncSend_stable hP a0 s h
  | ptpAnnounceSend a0 => exact execPtpAnnounceSend_stable hP a0 s h
  | delayReqReceive a0 a1 a2 => exact execDelayReqReceive_stable hP a0 a1 a2 s h
  | actionCmdSend a0 => exact execActionCmdSend_stable hP a0 s h
  | actionTimePass a0 => exact execActionTimePass_stable hP a0 s h
  | encoderTransition a0 a1 a2 a3 a4 => exact execEncoderTransition_stable hP a0 a1 a2 a3 a4 s h
  | indexEvent a0 a1 => exact execIndexEvent_stable hP a0 a1 s h
  | probeEdge a0 a1 a2 => exact execProbeEdge_stable hP a0 a1 a2 s h
  | ssiFrameStart a0 a1 => exact execSsiFrameStart_stable hP a0 a1 s h
  | ssiFrameEnd a0 a1 => exact execSsiFrameEnd_stable hP a0 a1 s h
  | posPreset a0 => exact execPreset_stable hP a0 s h
  | posSnap a0 => exact execPosSnap_stable hP a0 s h
  | posArm a0 => exact execArm_stable hP a0 s h
  | obsReset a0 => exact execObsReset_stable hP a0 s h
  | observerUpdate a0 => exact execObserverUpdate_stable hP a0 s h
  | posPublish => exact execPosPublish_stable hP s h
  | posStateInForce a0 => exact execPosStateInForce_stable hP a0 s h
  | followerStale a0 => exact execFollowerStale_stable hP a0 s h
  | exposureCentreCopy a0 => exact execExposureCentreCopy_stable hP a0 s h
  | targetCommit a0 => exact execTargetCommit_stable hP a0 s h
  | firingInstant a0 => exact execFiringInstant_stable hP a0 s h
  | pulseStart a0 => exact execPulseStart_stable hP a0 s h
  | pulseEnd a0 => exact execPulseEnd_stable hP a0 s h
  | listEntryRetry a0 => exact execListEntryRetry_stable hP a0 s h
  | trigPush a0 a1 a2 a3 => exact execTrigPush_stable hP a0 a1 a2 a3 s h
  | trigFire a0 a1 => exact execFire_stable hP a0 a1 s h
  | ringClear a0 a1 => exact execRingClear_stable hP a0 a1 s h
  | resync a0 a1 => exact execResync_stable hP a0 a1 s h
  | sequencerEnable a0 a1 => exact execSequencerEnable_stable hP a0 a1 s h
  | sequencerDisable a0 a1 => exact execSequencerDisable_stable hP a0 a1 s h
  | tbIncrWrite a0 a1 => exact execTbIncrWrite_stable hP a0 a1 s h
  | tbSet => exact execSet_stable hP s h
  | tbStep => exact execStep_stable hP s h
  | tbSnap => exact execTbSnap_stable hP s h
  | slewStart a0 => exact execSlewStart_stable hP a0 s h
  | slewEnd => exact execSlewEnd_stable hP s h
  | slewAbort => exact execSlewAbort_stable hP s h
  | ppsInEdge a0 a1 => exact execPpsInEdge_stable hP a0 a1 s h
  | ppsMiss => exact execPpsMiss_stable hP s h
  | ppsOutStart => exact execPpsOutStart_stable hP s h
  | ppsOutEnd => exact execPpsOutEnd_stable hP s h
  | alarmFire a0 => exact execAlarmFire_stable hP a0 s h
  | cycleTimerPulse a0 => exact execCycleTimerPulse_stable hP a0 s h
  | cycleTimerPulseEnd a0 => exact execCycleTimerPulseEnd_stable hP a0 s h
  | gpioEdgeCapture a0 a1 a2 => exact execGpioEdgeCapture_stable hP a0 a1 a2 s h
  | eventArrive a0 a1 a2 => exact execEventArrive_stable hP a0 a1 a2 s h
  | pendingAccept a0 => exact execPendingAccept_stable hP a0 s h
  | evtSoft => exact execSoft_stable hP s h
  | evtPulseEnd a0 => exact execEvtPulseEnd_stable hP a0 s h
  | conditioningStart a0 => exact execConditioningStart_stable hP a0 s h
  | tileConditioned a0 a1 a2 => exact execTileConditioned_stable hP a0 a1 a2 s h
  | ringSpaceFree a0 => exact execRingSpaceFree_stable hP a0 s h
  | rsWaitExpiry a0 => exact execRsWaitExpiry_stable hP a0 s h
  | peakClear a0 a1 => exact execPeakClear_stable hP a0 a1 s h
  | tableSwap a0 a1 => exact execSwap_stable hP a0 a1 s h
  | segmentBurstArrive a0 a1 a2 a3 a4 => exact execSegmentBurstArrive_stable hP a0 a1 a2 a3 a4 s h
  | bentDeadline a0 a1 => exact execBentDeadline_stable hP a0 a1 s h
  | stitchEnable a0 a1 => exact execStitchEnable_stable hP a0 a1 s h
  | stitchDisable a0 a1 => exact execStitchDisable_stable hP a0 a1 s h
  | kerfLineWrite a0 => exact execKerfLineWrite_stable hP a0 s h
  | kerfMaxExpiry a0 => exact execKerfMaxExpiry_stable hP a0 s h
  | kerfReadbackDone a0 a1 a2 => exact execKerfReadbackDone_stable hP a0 a1 a2 s h
  | tileDeal a0 => exact execTileDeal_stable hP a0 s h
  | taskStart a0 => exact execTaskStart_stable hP a0 s h
  | bundleIssue a0 a1 a2 => exact execBundleIssue_stable hP a0 a1 a2 s h
  | engSig a0 a1 => exact execSig_stable hP a0 a1 s h
  | engPost a0 a1 => exact execPost_stable hP a0 a1 s h
  | engPush a0 a1 => exact execPush_stable hP a0 a1 s h
  | dmaGo a0 a1 => exact execDmaGo_stable hP a0 a1 s h
  | dmaWait a0 a1 => exact execDmaWait_stable hP a0 a1 s h
  | dmaWaitResume a0 => exact execDmaWaitResume_stable hP a0 s h
  | outOpen a0 a1 => exact execOutOpen_stable hP a0 a1 s h
  | outOpenResume a0 => exact execOutOpenResume_stable hP a0 s h
  | outEmit a0 a1 => exact execOutEmit_stable hP a0 a1 s h
  | tkeep a0 a1 => exact execTkeep_stable hP a0 a1 s h
  | trel a0 a1 => exact execTrel_stable hP a0 a1 s h
  | engFence a0 a1 => exact execFence_stable hP a0 a1 s h
  | tend a0 a1 => exact execTend_stable hP a0 a1 s h
  | taskBudgetExpiry a0 => exact execTaskBudgetExpiry_stable hP a0 s h
  | engAbort a0 a1 => exact execAbort_stable hP a0 a1 s h
  | engRestart a0 a1 => exact execRestart_stable hP a0 a1 s h
  | dmaDescriptorStart a0 a1 => exact execDmaDescriptorStart_stable hP a0 a1 s h
  | dmaTransferDone a0 a1 a2 a3 a4 => exact execDmaTransferDone_stable hP a0 a1 a2 a3 a4 s h
  | ddrRefresh a0 => exact execDdrRefresh_stable hP a0 s h
  | zqShortCalibration a0 => exact execZqShortCalibration_stable hP a0 s h
  | ddrAlert a0 a1 => exact execDdrAlert_stable hP a0 a1 s h
  | ddrReadDecode a0 a1 a2 a3 => exact execDdrReadDecode_stable hP a0 a1 a2 a3 s h
  | scrubRead a0 a1 => exact execScrubRead_stable hP a0 a1 s h
  | ddrEraseWrite a0 a1 a2 => exact execDdrEraseWrite_stable hP a0 a1 a2 s h
  | ddrRetire a0 a1 => exact execDdrRetire_stable hP a0 a1 s h
  | arbRequestRaise a0 a1 => exact execArbRequestRaise_stable hP a0 a1 s h
  | arbRequestDrop a0 => exact execArbRequestDrop_stable hP a0 s h
  | arbBreakPoint a0 => exact execArbBreakPoint_stable hP a0 s h
  | arbBackoffEnd a0 a1 => exact execArbBackoffEnd_stable hP a0 a1 s h
  | arbRankWrite a0 a1 a2 a3 => exact execArbRankWrite_stable hP a0 a1 a2 a3 s h
  | waitWatchdogExpiry a0 a1 a2 a3 => exact execWaitWatchdogExpiry_stable hP a0 a1 a2 a3 s h
  | deliveryReady a0 a1 => exact execDeliveryReady_stable hP a0 a1 s h
  | payloadTransfer a0 a1 a2 => exact execPayloadTransfer_stable hP a0 a1 a2 s h
  | descTailWrite a0 a1 a2 a3 a4 => exact execDescTailWrite_stable hP a0 a1 a2 a3 a4 s h
  | descFetch a0 a1 => exact execDescFetch_stable hP a0 a1 s h
  | descCompletionReceive a0 a1 a2 a3 => exact execDescCompletionReceive_stable hP a0 a1 a2 a3 s h
  | completionTimeout a0 a1 => exact execCompletionTimeout_stable hP a0 a1 s h
  | creditWaitExpiry a0 a1 => exact execCreditWaitExpiry_stable hP a0 a1 s h
  | deactExpiry a0 a1 => exact execDeactExpiry_stable hP a0 a1 s h
  | irqModerationExpiry a0 a1 => exact execIrqModerationExpiry_stable hP a0 a1 s h
  | rateWindowEnd => exact execRateWindowEnd_stable hP s h
  | flushUsExpiry a0 => exact execFlushUsExpiry_stable hP a0 s h
  | recallGo a0 a1 => exact execRecallGo_stable hP a0 a1 s h
  | recallRecordRead a0 a1 => exact execRecallRecordRead_stable hP a0 a1 s h
  | perstAssert a0 => exact execPerstAssert_stable hP a0 s h
  | perstDeassert a0 => exact execPerstDeassert_stable hP a0 s h
  | linkUp a0 a1 a2 => exact execLinkUp_stable hP a0 a1 a2 s h
  | linkDown a0 => exact execLinkDown_stable hP a0 s h
  | pcieCfgWrite a0 a1 a2 => exact execPcieCfgWrite_stable hP a0 a1 a2 s h
  | flr a0 => exact execFlr_stable hP a0 s h
  | bmeClear a0 => exact execBmeClear_stable hP a0 s h
  | bmeSet a0 => exact execBmeSet_stable hP a0 s h
  | d3hotEntry a0 => exact execD3hotEntry_stable hP a0 s h
  | d0Return a0 => exact execD0Return_stable hP a0 s h
  | configRequest a0 a1 a2 a3 a4 => exact execConfigRequest_stable hP a0 a1 a2 a3 a4 s h
  | peerRequest a0 a1 a2 a3 a4 a5 a6 a7 => exact execPeerRequest_stable hP a0 a1 a2 a3 a4 a5 a6 a7 s h
  | windowCommit a0 a1 => exact execWindowCommit_stable hP a0 a1 s h
  | windowSwitch a0 a1 => exact execWindowSwitch_stable hP a0 a1 s h
  | msixPendingSend a0 a1 => exact execMsixPendingSend_stable hP a0 a1 s h
  | getInfo a0 => exact execGetInfo_stable hP a0 s h
  | streamOpen a0 => exact execStreamOpen_stable hP a0 s h
  | streamClose a0 a1 => exact execStreamClose_stable hP a0 a1 s h
  | ringPost a0 => exact execRingPost_stable hP a0 s h
  | ringWithdraw a0 => exact execRingWithdraw_stable hP a0 s h
  | cameraAccess a0 a1 a2 a3 a4 => exact execCameraAccess_stable hP a0 a1 a2 a3 a4 s h
  | tableLoad a0 a1 => exact execTableLoad_stable hP a0 a1 s h
  | engineRestart a0 a1 => exact execEngineRestart_stable hP a0 a1 s h
  | unitRetire a0 => exact execUnitRetire_stable hP a0 s h
  | imageBegin a0 => exact execImageBegin_stable hP a0 s h
  | imageChunk a0 => exact execImageChunk_stable hP a0 s h
  | imageEnd a0 => exact execImageEnd_stable hP a0 s h
  | cutlistTrial a0 => exact execCutlistTrial_stable hP a0 s h
  | attestReport a0 => exact execAttestReport_stable hP a0 s h
  | attestCertificate a0 => exact execAttestCertificate_stable hP a0 s h
  | otpProgramSlot a0 => exact execOtpProgramSlot_stable hP ho a0 s h
  | otpRevokeSlot a0 => exact execOtpRevokeSlot_stable hP ho a0 s h
  | mailboxReset a0 a1 => exact execMailboxReset_stable hP a0 a1 s h
  | outputHold a0 => exact execOutputHold_stable hP a0 s h
  | outputResume a0 => exact execOutputResume_stable hP a0 s h
  | logRead a0 => exact execLogRead_stable hP a0 s h
  | sillBlockLock a0 => exact execSillBlockLock_stable hP a0 s h
  | sillLinkLoss a0 => exact execSillLinkLoss_stable hP a0 s h
  | helloSend a0 => exact execHelloSend_stable hP a0 s h
  | helloReceive a0 a1 => exact execHelloReceive_stable hP a0 a1 s h
  | helloTimeout a0 => exact execHelloTimeout_stable hP a0 s h
  | measureTimeout a0 => exact execMeasureTimeout_stable hP a0 s h
  | faultHoldExpiry a0 => exact execFaultHoldExpiry_stable hP a0 s h
  | sillProbeSend a0 => exact execSillProbeSend_stable hP a0 s h
  | probeReceive a0 a1 a2 => exact execProbeReceive_stable hP a0 a1 a2 s h
  | pechoReceive a0 a1 a2 => exact execPechoReceive_stable hP a0 a1 a2 s h
  | syncSend a0 => exact execSyncSend_stable hP a0 s h
  | syncReceive a0 a1 a2 => exact execSyncReceive_stable hP a0 a1 a2 s h
  | timeServo => exact execTimeServo_stable hP s h
  | syncTimeout => exact execSyncTimeout_stable hP s h
  | posBurstReceive a0 a1 => exact execPosBurstReceive_stable hP a0 a1 s h
  | eventFrameReceive a0 a1 => exact execEventFrameReceive_stable hP a0 a1 s h
  | alignedEventDue => exact execAlignedEventDue_stable hP s h
  | schedGo a0 => exact execSchedGo_stable hP a0 s h
  | schedFrameReceive a0 a1 => exact execSchedFrameReceive_stable hP a0 a1 s h
  | mgmtFrameReceive a0 a1 => exact execMgmtFrameReceive_stable hP a0 a1 s h
  | claimSend => exact execClaimSend_stable hP s h
  | claimReceive a0 a1 => exact execClaimReceive_stable hP a0 a1 s h
  | claimWindowExpiry => exact execClaimWindowExpiry_stable hP s h
  | cechoSend => exact execCechoSend_stable hP s h
  | cechoReceive a0 a1 => exact execCechoReceive_stable hP a0 a1 s h
  | beatSend => exact execBeatSend_stable hP s h
  | beatReceive a0 a1 => exact execBeatReceive_stable hP a0 a1 s h
  | twinWatchStart => exact execTwinWatchStart_stable hP s h
  | hbLost => exact execHbLost_stable hP s h
  | claimHoldoffExpiry => exact execClaimHoldoffExpiry_stable hP s h
  | swapReq a0 => exact execSwapReq_stable hP a0 s h
  | swapTakingStart => exact execSwapTakingStart_stable hP s h
  | swapPoint => exact execSwapPoint_stable hP s h
  | revertHoldExpiry => exact execRevertHoldExpiry_stable hP s h
  | swapPeriodExpiry => exact execSwapPeriodExpiry_stable hP s h
  | sensorPublish a0 a1 => exact execSensorPublish_stable hP a0 a1 s h
  | thermalTrip => exact execThermalTrip_stable hP s h
  | voltOut a0 a1 => exact execVoltOut_stable hP a0 a1 s h
  | pmbusPoll a0 => exact execPmbusPoll_stable hP a0 s h
  | pmbAlert a0 => exact execPmbAlert_stable hP a0 s h
  | logWrite => exact execLogWrite_stable hP s h
  | logLimitIntervalEnd a0 a1 => exact execLogLimitIntervalEnd_stable hP a0 a1 s h
  | logFlashCopy => exact execLogFlashCopy_stable hP s h
  | trialConfirm => exact execTrialConfirm_stable hP ho s h
  | identityKeyReady => exact execIdentityKeyReady_stable hP s h
  | retireLane a0 a1 => exact execRetireLane_stable hP a0 a1 s h
  | retireBay a0 a1 => exact execRetireBay_stable hP a0 a1 s h
  | retireEngine a0 a1 => exact execRetireEngine_stable hP a0 a1 s h
  | retirePositionChannel a0 a1 => exact execRetirePositionChannel_stable hP a0 a1 s h
  | retireSillPort a0 a1 => exact execRetireSillPort_stable hP a0 a1 s h
  | pwmPeriodStart a0 => exact execPwmPeriodStart_stable hP a0 s h
  | pwmHighEnd a0 => exact execPwmHighEnd_stable hP a0 s h
  | equaliseReady a0 a1 a2 => exact execEqualiseReady_stable hP a0 a1 a2 s h
  | checkerLock a0 => exact execCheckerLock_stable hP a0 s h
  | checkerReseed a0 => exact execCheckerReseed_stable hP a0 s h
  | idleBlockReceive a0 a1 => exact execIdleBlockReceive_stable hP a0 a1 s h
  | cameraScriptWaitExpiry a0 => exact execCameraScriptWaitExpiry_stable hP a0 s h
  | camSyncDelayExpiry a0 => exact execCamSyncDelayExpiry_stable hP a0 s h
  | encZFall a0 => exact execEncZFall_stable hP a0 s h
  | enginePushArrive a0 => exact execEnginePushArrive_stable hP a0 s h
  | fenceComplete a0 => exact execFenceComplete_stable hP a0 s h
  | faultWindowEnd => exact execFaultWindowEnd_stable hP s h
  | postedCreditReturn a0 => exact execPostedCreditReturn_stable hP a0 s h
  | peerReadComplete a0 a1 a2 => exact execPeerReadComplete_stable hP a0 a1 a2 s h
  | flrComplete a0 => exact execFlrComplete_stable hP a0 s h
  | pcieLinkError a0 a1 => exact execPcieLinkError_stable hP a0 a1 s h
  | mailboxBadOpcode a0 => exact execMailboxBadOpcode_stable hP a0 s h
  | noHolderTimeout => exact execNoHolderTimeout_stable hP s h
  | partnerTooNarrow a0 => exact execPartnerTooNarrow_stable hP a0 s h

/-! ### The canonical form -/

theorem State.memOk.flash {s : State} (h : s.memOk) : cwf erased s.mc.flash := h.2.2.2.2.2.2.1
theorem State.memOk.otp {s : State} (h : s.memOk) : cwf noBits s.mc.otp := h.2.2.2.2.2.2.2

theorem State.modMc_memOk (s : State) (f : Mc → Mc) (h : s.memOk) (hf : cwf erased (f s.mc).flash) (ho : cwf noBits (f s.mc).otp) :
    (s.modMc f).memOk := ⟨h.1, h.2.1, h.2.2.1, h.2.2.2.1, h.2.2.2.2.1, h.2.2.2.2.2.1, hf, ho⟩

/-- Programming the OTP keeps the canonical form. -/
theorem State.otpProg_memOk (s : State) (a : Nat) (l : List Byte) (h : s.memOk) : (s.otpProg a l).memOk :=
  State.modMc_memOk _ _ h h.flash (cwf_csetN _ _ _ h.otp)

/-- A loop that writes registers keeps the canonical form. -/
theorem foldl_memOk {α : Type} (f : State → α → State) (l : List α) (s : State) (h0 : s.memOk) (h : ∀ s a, s.memOk → (f s a).memOk) :
    (l.foldl f s).memOk := foldl_stable (P := State.memOk) f l s h0 h

theorem State.wr_memOk (s : State) (o : Nat) (v : Word) (h : s.memOk) : (s.wr o v).memOk := ⟨cwf_cset _ _ _ h.1, h.2⟩

theorem State.loadRepair_memOk (s : State) (h : s.memOk) : s.loadRepair.memOk := by
  have hw : ∀ (s : State) (o n : Nat), s.memOk → (s.wrN o n).memOk := fun s o n h => State.wr_memOk s o _ h
  have hp : ∀ (s : State) (f : Fld) (n : Nat), s.memOk → (s.put f n).memOk := fun s f n h => hw _ _ _ h
  unfold State.loadRepair
  extract_lets r bays lane eng word s1 s2 s3 s4
  have h1 : s1.memOk := foldl_memOk _ _ _ h fun s a h => hw _ _ _ h
  have h2 : s2.memOk := foldl_memOk _ _ _ h1 fun s a h => hw _ _ _ h
  have h4 : s4.memOk := hp _ _ _ (hp _ _ _ (hp _ _ _ (hw _ _ _ h2)))
  exact foldl_memOk _ _ _ h4 fun s a h => iff_stable (P := State.memOk) _ _ _ h fun s h => hp _ _ _ (hp _ _ _ h)

theorem State.sysHeld_memOk (s : State) (h : s.memOk) : s.sysHeld.memOk := by
  have hp : ∀ (s : State) (f : Fld) (b : Bool), s.memOk → (s.putB f b).memOk := fun s f b h => State.wr_memOk _ _ _ h
  unfold State.sysHeld
  refine State.loadRepair_memOk _ (hp _ _ _ (hp _ _ _ (hp _ _ _ ?_)))
  refine foldl_memOk _ _ _ ?_ fun s i hs => hp _ _ _ hs
  exact ⟨cwf_ckeep _ _ h.1, cwf_nil _, cwf_nil _, cwf_nil _, cwf_nil _, cwf_nil _, h.flash, h.otp⟩

theorem State.sysReset_memOk (s : State) (c : Nat) (h : s.memOk) : (s.sysReset c).memOk := by
  unfold State.sysReset
  split
  · exact h
  · split
    · exact State.wr_memOk _ _ _ h
    · exact State.wr_memOk _ _ _ (State.wr_memOk _ _ _ (State.sysHeld_memOk s h))

theorem memOk_cfgWr : ∀ (s : State) (p : Nat) (o : Nat) (n : Nat), s.memOk → State.memOk (s.cfgWr p o n) :=
  fun s p o n h => ⟨h.1, cwf_cset _ _ _ h.2.1, h.2.2⟩
theorem memOk_bayWr : ∀ (s : State) (b : Nat) (a : Nat) (l : List Byte), s.memOk → State.memOk (s.bayWr b a l) :=
  fun s b a l h => ⟨h.1, h.2.1, cwf_csetN _ _ _ h.2.2.1, h.2.2.2⟩
theorem memOk_ddrWr : ∀ (s : State) (a : Nat) (l : List Byte), s.memOk → State.memOk (s.ddrWr a l) :=
  fun s a l h => by
    unfold State.ddrWr; split
    · exact h
    · exact ⟨h.1, h.2.1, h.2.2.1, cwf_csetN _ _ _ h.2.2.2.1, h.2.2.2.2⟩
theorem memOk_dmemWr : ∀ (s : State) (e : Nat) (a : Nat) (l : List Byte), s.memOk → State.memOk (s.dmemWr e a l) :=
  fun s e a l h => ⟨h.1, h.2.1, h.2.2.1, h.2.2.2.1, h.2.2.2.2.1, cwf_csetN _ _ _ h.2.2.2.2.2.1, h.2.2.2.2.2.2⟩
theorem memOk_loadMems : ∀ (s : State) (p : List Byte) (e : Nat), s.memOk → State.memOk (s.loadMems p e) :=
  fun s p e h => by
    unfold State.loadMems
    exact ⟨h.1, h.2.1, h.2.2.1, h.2.2.2.1, cwf_csetN _ _ _ (cwf_ckeep _ (fun k => k / 32768 != e) h.2.2.2.2.1),
      cwf_csetN _ _ _ (cwf_ckeep _ (fun k => k / 131072 != e) h.2.2.2.2.2.1), h.2.2.2.2.2.2⟩
theorem memOk_dropConfig : ∀ (s : State) (p : Nat) (lo : Nat), s.memOk → State.memOk (s.dropConfig p lo) :=
  fun s p lo h => ⟨cwf_ckeep _ (fun k => !(decide (lo ≤ k) && decide (k < lo + 0x10000))) h.1,
    cwf_ckeep _ (fun k => k / 4096 != p) h.2.1, h.2.2⟩
theorem memOk_flashProg : ∀ (s : State) (a : Nat) (l : List Byte), s.memOk → State.memOk (s.flashProg a l) :=
  fun s a l h => State.modMc_memOk _ _ h (cwf_csetN _ _ _ h.flash) h.otp
theorem memOk_flashErase : ∀ (s : State) (a : Nat), s.memOk → State.memOk (s.flashErase a) :=
  fun s a h => State.modMc_memOk _ _ h
    (cwf_ckeep _ (fun k => !(decide (a / 65536 * 65536 ≤ k) && decide (k < a / 65536 * 65536 + 65536))) h.flash) h.otp
theorem memOk_hdrStore : ∀ (s : State) (c : Nat) (l : List Byte), s.memOk → State.memOk (s.hdrStore c l) :=
  fun s c l h => State.modMc_memOk _ _ h (cwf_csetN _ _ _ h.flash) h.otp
theorem memOk_modMc : ∀ (s : State) (f : Mc → Mc), (∀ m, (f m).flash = m.flash) → (∀ m, (f m).otp = m.otp) → s.memOk → State.memOk (s.modMc f) :=
  fun s f hf ho h => State.modMc_memOk s f h ((hf _).symm ▸ h.flash) ((ho _).symm ▸ h.otp)
theorem memOk_free : ∀ s : State, s.memOk → s.free.2.memOk :=
  fun _ h => h
theorem memOk_emit : ∀ (s : State) (o : Out), s.memOk → State.memOk (s.emit o) :=
  fun _ _ h => h
theorem memOk_modTrigs : ∀ (s : State) (f : List Trigger → List Trigger), s.memOk → State.memOk (s.modTrigs f) :=
  fun _ _ h => h
theorem memOk_modPower : ∀ (s : State) (f : Power → Power), (∀ m, (f m).porst = m.porst) → s.memOk → State.memOk (s.modPower f) :=
  fun _ _ _ h => h
theorem memOk_modLog : ∀ (s : State) (f : Log → Log), s.memOk → State.memOk (s.modLog f) :=
  fun _ _ h => h
theorem memOk_modEvt : ∀ (s : State) (f : EvtState → EvtState), s.memOk → State.memOk (s.modEvt f) :=
  fun _ _ h => h
theorem memOk_modRecl : ∀ (s : State) (f : Recall → Recall), s.memOk → State.memOk (s.modRecl f) :=
  fun _ _ h => h
theorem memOk_modDlvs : ∀ (s : State) (f : List Delivery → List Delivery), s.memOk → State.memOk (s.modDlvs f) :=
  fun _ _ h => h
theorem memOk_countDlv : ∀ (s : State) , s.memOk → State.memOk (s.countDlv) :=
  fun _ h => h
theorem memOk_dropPulses : ∀ (s : State) , s.memOk → State.memOk (s.dropPulses) :=
  fun _ h => h
theorem memOk_drawn : ∀ (s : State) (n : Nat), s.memOk → State.memOk (s.drawn n) :=
  fun _ _ h => h
theorem memOk_modTb : ∀ (s : State) (f : TimeBase → TimeBase), s.memOk → State.memOk (s.modTb f) :=
  fun _ _ h => h
theorem memOk_modDroop : ∀ (s : State) (f : Droop → Droop), s.memOk → State.memOk (s.modDroop f) :=
  fun _ _ h => h
theorem memOk_modSill : ∀ (s : State) (f : Sill → Sill), s.memOk → State.memOk (s.modSill f) :=
  fun _ _ h => h
theorem memOk_modLedger : ∀ (s : State) (f : Ledger → Ledger), s.memOk → State.memOk (s.modLedger f) :=
  fun _ _ h => h
theorem memOk_setSport : ∀ (s : State) (p : Nat) (x : SillPort), s.memOk → State.memOk (s.setSport p x) :=
  fun _ _ _ h => h
theorem memOk_modKrf : ∀ (s : State) (l : Nat) (f : Kerf → Kerf), s.memOk → State.memOk (s.modKrf l f) :=
  fun _ _ _ h => h
theorem memOk_modPch : ∀ (s : State) (c : Nat) (f : PosChan → PosChan), s.memOk → State.memOk (s.modPch c f) :=
  fun _ _ _ h => h
theorem memOk_modSq : ∀ (s : State) (q : Nat) (f : Seq → Seq), s.memOk → State.memOk (s.modSq q f) :=
  fun _ _ _ h => h
theorem memOk_setPulseEnd : ∀ (s : State) (g : Nat) (p : PulseEnd), s.memOk → State.memOk (s.setPulseEnd g p) :=
  fun _ _ _ h => h
theorem memOk_modPhy : ∀ (s : State) (l : Nat) (f : LanePhy → LanePhy), s.memOk → State.memOk (s.modPhy l f) :=
  fun _ _ _ h => h
theorem memOk_modTen : ∀ (s : State) (l : Nat) (f : LaneTenon → LaneTenon), s.memOk → State.memOk (s.modTen l f) :=
  fun _ _ _ h => h
theorem memOk_modEng : ∀ (s : State) (e : Nat) (f : Engine → Engine), s.memOk → State.memOk (s.modEng e f) :=
  fun _ _ _ h => h
theorem memOk_modCln : ∀ (s : State) (l : Nat) (f : CondLane → CondLane), s.memOk → State.memOk (s.modCln l f) :=
  fun _ _ _ h => h
theorem memOk_modEth : ∀ (s : State) (l : Nat) (f : EthLane → EthLane), s.memOk → State.memOk (s.modEth l f) :=
  fun _ _ _ h => h
theorem memOk_modStrm : ∀ (s : State) (st : Nat) (f : Stream → Stream), s.memOk → State.memOk (s.modStrm st f) :=
  fun _ _ _ h => h
theorem memOk_modRing : ∀ (s : State) (st : Nat) (p : Nat) (f : Ring → Ring), s.memOk → State.memOk (s.modRing st p f) :=
  fun _ _ _ _ h => h
theorem memOk_modDlv : ∀ (s : State) (num : Nat) (f : Delivery → Delivery), s.memOk → State.memOk (s.modDlv num f) :=
  fun _ _ _ h => h
theorem memOk_dropDlv : ∀ (s : State) (num : Nat), s.memOk → State.memOk (s.dropDlv num) :=
  fun _ _ h => h
theorem memOk_modScf : ∀ (s : State) (u : Nat) (f : Scarf → Scarf), s.memOk → State.memOk (s.modScf u f) :=
  fun _ _ _ h => h
theorem memOk_modDch : ∀ (s : State) (b : Nat) (c : Nat) (f : DmaChan → DmaChan), s.memOk → State.memOk (s.modDch b c f) :=
  fun _ _ _ _ h => h
theorem memOk_setPushes : ∀ (s : State) (b : Nat) (l : List EngPush), s.memOk → State.memOk (s.setPushes b l) :=
  fun _ _ _ h => h
theorem memOk_cycleUp : ∀ (s : State) , s.memOk → State.memOk (s.cycleUp) :=
  fun _ h => h
theorem memOk_setSigs : ∀ (s : State) (l : List (Nat × Nat)), s.memOk → State.memOk (s.setSigs l) :=
  fun _ _ h => h
theorem memOk_setFaultFrom : ∀ (s : State) (t : Nat), s.memOk → State.memOk (s.setFaultFrom t) :=
  fun _ _ h => h
theorem memOk_setRateFrom : ∀ (s : State) (t : Nat), s.memOk → State.memOk (s.setRateFrom t) :=
  fun _ _ h => h
theorem memOk_setDdrOut : ∀ (s : State) (l : List DdrWrite), s.memOk → State.memOk (s.setDdrOut l) :=
  fun _ _ h => h
theorem memOk_modDrm : ∀ (s : State) (k : Nat) (f : DdrChan → DdrChan), s.memOk → State.memOk (s.modDrm k f) :=
  fun _ _ _ h => h
theorem memOk_modArb : ∀ (s : State) (a : Nat) (f : Arb → Arb), s.memOk → State.memOk (s.modArb a f) :=
  fun _ _ _ h => h
theorem memOk_modHport : ∀ (s : State) (p : Nat) (f : HostPort → HostPort), s.memOk → State.memOk (s.modHport p f) :=
  fun _ _ _ h => h

/-- The canonical form of the tables survives every elementary change. -/
theorem memOk_stable : Stable State.memOk where
  wr := State.wr_memOk
  cfgWr := memOk_cfgWr
  bayWr := memOk_bayWr
  ddrWr := memOk_ddrWr
  dmemWr := memOk_dmemWr
  loadMems := memOk_loadMems
  dropConfig := memOk_dropConfig
  flashProg := memOk_flashProg
  flashErase := memOk_flashErase
  hdrStore := memOk_hdrStore
  modMc := memOk_modMc
  sysReset := State.sysReset_memOk
  free := memOk_free
  emit := memOk_emit
  modTrigs := memOk_modTrigs
  modPower := memOk_modPower
  modLog := memOk_modLog
  modEvt := memOk_modEvt
  modRecl := memOk_modRecl
  modDlvs := memOk_modDlvs
  countDlv := memOk_countDlv
  dropPulses := memOk_dropPulses
  drawn := memOk_drawn
  modTb := memOk_modTb
  modDroop := memOk_modDroop
  modSill := memOk_modSill
  modLedger := memOk_modLedger
  setSport := memOk_setSport
  modKrf := memOk_modKrf
  modPch := memOk_modPch
  modSq := memOk_modSq
  setPulseEnd := memOk_setPulseEnd
  modPhy := memOk_modPhy
  modTen := memOk_modTen
  modEng := memOk_modEng
  modCln := memOk_modCln
  modEth := memOk_modEth
  modStrm := memOk_modStrm
  modRing := memOk_modRing
  modDlv := memOk_modDlv
  dropDlv := memOk_dropDlv
  modScf := memOk_modScf
  modDch := memOk_modDch
  setPushes := memOk_setPushes
  cycleUp := memOk_cycleUp
  setSigs := memOk_setSigs
  setFaultFrom := memOk_setFaultFrom
  setRateFrom := memOk_setRateFrom
  setDdrOut := memOk_setDdrOut
  modDrm := memOk_modDrm
  modArb := memOk_modArb
  modHport := memOk_modHport

/-! ### The queue, the OTP and the power-on reset -/

/-- The queue, the OTP and the power-on reset: what nearly every elementary change leaves alone. -/
def State.kept (s : State) : List Instr × List (Nat × Byte) × Bool := (s.pending, s.mc.otp, s.power.porst)

theorem State.putB_kept (s : State) (f : Fld) (b : Bool) : (s.putB f b).kept = s.kept := by
  simp only [State.kept, State.putB, State.put, State.wrN, State.wr]

theorem State.loadRepair_kept (s : State) : s.loadRepair.kept = s.kept := by
  have hw : ∀ (s : State) (o n : Nat), (s.wrN o n).kept = s.kept := fun _ _ _ => rfl
  have hp : ∀ (s : State) (f : Fld) (n : Nat), (s.put f n).kept = s.kept := fun _ _ _ => rfl
  unfold State.loadRepair
  extract_lets r bays lane eng word s1 s2 s3 s4
  have h1 : s1.kept = s.kept := foldl_stable (P := fun t => t.kept = s.kept) _ _ _ rfl fun t a h => (hw _ _ _).trans h
  have h2 : s2.kept = s.kept := foldl_stable (P := fun t => t.kept = s.kept) _ _ _ h1 fun t a h => (hw _ _ _).trans h
  have h4 : s4.kept = s.kept := ((hp _ _ _).trans ((hp _ _ _).trans ((hp _ _ _).trans (hw _ _ _)))).trans h2
  exact foldl_stable (P := fun t => t.kept = s.kept) _ _ _ h4 fun t a h =>
    iff_stable (P := fun t => t.kept = s.kept) _ _ _ h fun t h => (hp _ _ _).trans ((hp _ _ _).trans h)

/-- A system reset keeps the queue and the OTP; it is no power-on reset. -/
theorem State.sysHeld_kept (s : State) : s.sysHeld.kept = (s.pending, s.mc.otp, false) := by
  unfold State.sysHeld
  simp only [State.loadRepair_kept, State.keepPerst, State.putB_kept]
  refine (foldl_stable (P := fun t => t.kept = (s.pending, s.mc.otp, false)) _ _ _ ?_ fun t a h => ?_)
  · simp only [State.kept, State.modTb, Mc.kept]
  · rw [State.putB_kept]; exact h

theorem State.put_kept (s : State) (f : Fld) (n : Nat) : (s.put f n).kept = s.kept := by
  simp only [State.kept, State.put, State.wrN, State.wr]

theorem State.sysReset_kept (s : State) (c : Nat) : (s.sysReset c).kept = s.kept := by
  unfold State.sysReset State.setCause
  split
  · rfl
  · rename_i h
    split
    · exact State.put_kept _ _ _
    · rw [State.put_kept, State.put_kept, State.sysHeld_kept, State.kept, Bool.eq_false_iff.2 h]

theorem kept_wr (s : State) (o : Nat) (v : Word) : (s.wr o v).kept = s.kept := by simp only [State.kept, State.wr]
theorem kept_free (s : State) : (s.free).2.kept = s.kept := by simp only [State.kept, State.free]
theorem kept_emit (s : State) (o : Out) : (s.emit o).kept = s.kept := by simp only [State.kept, State.emit]
theorem kept_modTrigs (s : State) (f : List Trigger → List Trigger) : (s.modTrigs f).kept = s.kept := by simp only [State.kept, State.modTrigs]
theorem kept_modPower (s : State) (f : Power → Power) (hf : ∀ m, (f m).porst = m.porst) : (s.modPower f).kept = s.kept := by simp only [State.kept, State.modPower, hf]
theorem kept_modLog (s : State) (f : Log → Log) : (s.modLog f).kept = s.kept := by simp only [State.kept, State.modLog]
theorem kept_modEvt (s : State) (f : EvtState → EvtState) : (s.modEvt f).kept = s.kept := by simp only [State.kept, State.modEvt]
theorem kept_modRecl (s : State) (f : Recall → Recall) : (s.modRecl f).kept = s.kept := by simp only [State.kept, State.modRecl]
theorem kept_modDlvs (s : State) (f : List Delivery → List Delivery) : (s.modDlvs f).kept = s.kept := by simp only [State.kept, State.modDlvs]
theorem kept_countDlv (s : State) : (s.countDlv).kept = s.kept := by simp only [State.kept, State.countDlv]
theorem kept_dropPulses (s : State) : (s.dropPulses).kept = s.kept := by simp only [State.kept, State.dropPulses]
theorem kept_drawn (s : State) (n : Nat) : (s.drawn n).kept = s.kept := by simp only [State.kept, State.drawn]
theorem kept_modMc (s : State) (f : Mc → Mc) (hf : ∀ m, (f m).otp = m.otp) : (s.modMc f).kept = s.kept := by simp only [State.kept, State.modMc, hf]
theorem kept_modTb (s : State) (f : TimeBase → TimeBase) : (s.modTb f).kept = s.kept := by simp only [State.kept, State.modTb]
theorem kept_modDroop (s : State) (f : Droop → Droop) : (s.modDroop f).kept = s.kept := by simp only [State.kept, State.modDroop]
theorem kept_modSill (s : State) (f : Sill → Sill) : (s.modSill f).kept = s.kept := by simp only [State.kept, State.modSill]
theorem kept_modLedger (s : State) (f : Ledger → Ledger) : (s.modLedger f).kept = s.kept := by simp only [State.kept, State.modLedger]
theorem kept_cfgWr (s : State) (p : Nat) (o : Nat) (n : Nat) : (s.cfgWr p o n).kept = s.kept := by simp only [State.kept, State.cfgWr]
theorem kept_modArb (s : State) (a : Nat) (f : Arb → Arb) : (s.modArb a f).kept = s.kept := by simp only [State.kept, State.modArb]
theorem kept_setSport (s : State) (p : Nat) (x : SillPort) : (s.setSport p x).kept = s.kept := by simp only [State.kept, State.setSport]
theorem kept_modKrf (s : State) (l : Nat) (f : Kerf → Kerf) : (s.modKrf l f).kept = s.kept := by simp only [State.kept, State.modKrf]
theorem kept_modPch (s : State) (c : Nat) (f : PosChan → PosChan) : (s.modPch c f).kept = s.kept := by simp only [State.kept, State.modPch]
theorem kept_modSq (s : State) (q : Nat) (f : Seq → Seq) : (s.modSq q f).kept = s.kept := by simp only [State.kept, State.modSq]
theorem kept_setPulseEnd (s : State) (g : Nat) (p : PulseEnd) : (s.setPulseEnd g p).kept = s.kept := by simp only [State.kept, State.setPulseEnd]
theorem kept_bayWr (s : State) (b : Nat) (a : Nat) (l : List Byte) : (s.bayWr b a l).kept = s.kept := by simp only [State.kept, State.bayWr]
theorem kept_ddrWr (s : State) (a : Nat) (l : List Byte) : (s.ddrWr a l).kept = s.kept := by unfold State.ddrWr; split <;> rfl
theorem kept_setDdrOut (s : State) (l : List DdrWrite) : (s.setDdrOut l).kept = s.kept := by simp only [State.kept, State.setDdrOut]
theorem kept_modPhy (s : State) (l : Nat) (f : LanePhy → LanePhy) : (s.modPhy l f).kept = s.kept := by simp only [State.kept, State.modPhy]
theorem kept_modTen (s : State) (l : Nat) (f : LaneTenon → LaneTenon) : (s.modTen l f).kept = s.kept := by simp only [State.kept, State.modTen]
theorem kept_modEng (s : State) (e : Nat) (f : Engine → Engine) : (s.modEng e f).kept = s.kept := by simp only [State.kept, State.modEng]
theorem kept_modCln (s : State) (l : Nat) (f : CondLane → CondLane) : (s.modCln l f).kept = s.kept := by simp only [State.kept, State.modCln]
theorem kept_modEth (s : State) (l : Nat) (f : EthLane → EthLane) : (s.modEth l f).kept = s.kept := by simp only [State.kept, State.modEth]
theorem kept_modStrm (s : State) (st : Nat) (f : Stream → Stream) : (s.modStrm st f).kept = s.kept := by simp only [State.kept, State.modStrm]
theorem kept_modRing (s : State) (st : Nat) (p : Nat) (f : Ring → Ring) : (s.modRing st p f).kept = s.kept := by simp only [State.kept, State.modRing]
theorem kept_modDlv (s : State) (num : Nat) (f : Delivery → Delivery) : (s.modDlv num f).kept = s.kept := by simp only [State.kept, State.modDlv]
theorem kept_dropDlv (s : State) (num : Nat) : (s.dropDlv num).kept = s.kept := by simp only [State.kept, State.dropDlv]
theorem kept_setRateFrom (s : State) (t : Nat) : (s.setRateFrom t).kept = s.kept := by simp only [State.kept, State.setRateFrom]
theorem kept_modScf (s : State) (u : Nat) (f : Scarf → Scarf) : (s.modScf u f).kept = s.kept := by simp only [State.kept, State.modScf]
theorem kept_modDch (s : State) (b : Nat) (c : Nat) (f : DmaChan → DmaChan) : (s.modDch b c f).kept = s.kept := by simp only [State.kept, State.modDch]
theorem kept_dmemWr (s : State) (e : Nat) (a : Nat) (l : List Byte) : (s.dmemWr e a l).kept = s.kept := by simp only [State.kept, State.dmemWr]
theorem kept_setSigs (s : State) (l : List (Nat × Nat)) : (s.setSigs l).kept = s.kept := by simp only [State.kept, State.setSigs]
theorem kept_cycleUp (s : State) : (s.cycleUp).kept = s.kept := by simp only [State.kept, State.cycleUp]
theorem kept_setFaultFrom (s : State) (t : Nat) : (s.setFaultFrom t).kept = s.kept := by simp only [State.kept, State.setFaultFrom]
theorem kept_setPushes (s : State) (b : Nat) (l : List EngPush) : (s.setPushes b l).kept = s.kept := by simp only [State.kept, State.setPushes]
theorem kept_modDrm (s : State) (k : Nat) (f : DdrChan → DdrChan) : (s.modDrm k f).kept = s.kept := by simp only [State.kept, State.modDrm]
theorem kept_modHport (s : State) (p : Nat) (f : HostPort → HostPort) : (s.modHport p f).kept = s.kept := by simp only [State.kept, State.modHport]
theorem kept_dropConfig (s : State) (p : Nat) (lo : Nat) : (s.dropConfig p lo).kept = s.kept := by simp only [State.kept, State.dropConfig]
theorem kept_flashProg (s : State) (a : Nat) (l : List Byte) : (s.flashProg a l).kept = s.kept := by simp only [State.kept, State.flashProg, State.modMc]
theorem kept_flashErase (s : State) (a : Nat) : (s.flashErase a).kept = s.kept := by simp only [State.kept, State.flashErase, State.modMc]
theorem kept_hdrStore (s : State) (c : Nat) (l : List Byte) : (s.hdrStore c l).kept = s.kept := by simp only [State.kept, State.hdrStore, State.modMc]
theorem kept_loadMems (s : State) (p : List Byte) (e : Nat) : (s.loadMems p e).kept = s.kept := by simp only [State.kept, State.loadMems, State.modEng]

/-- A property of the queue, the OTP and the power-on reset survives every elementary change. -/
theorem kept_stable (Q : List Instr × List (Nat × Byte) × Bool → Prop) : Stable (fun s => Q s.kept) where
  wr s o v h := (kept_wr s o v).symm ▸ h
  free s h := (kept_free s).symm ▸ h
  emit s o h := (kept_emit s o).symm ▸ h
  modTrigs s f h := (kept_modTrigs s f).symm ▸ h
  modPower s f hf h := (kept_modPower s f hf).symm ▸ h
  modLog s f h := (kept_modLog s f).symm ▸ h
  modEvt s f h := (kept_modEvt s f).symm ▸ h
  modRecl s f h := (kept_modRecl s f).symm ▸ h
  modDlvs s f h := (kept_modDlvs s f).symm ▸ h
  countDlv s h := (kept_countDlv s).symm ▸ h
  dropPulses s h := (kept_dropPulses s).symm ▸ h
  drawn s n h := (kept_drawn s n).symm ▸ h
  modMc s f _ ho h := (kept_modMc s f ho).symm ▸ h
  modTb s f h := (kept_modTb s f).symm ▸ h
  modDroop s f h := (kept_modDroop s f).symm ▸ h
  modSill s f h := (kept_modSill s f).symm ▸ h
  modLedger s f h := (kept_modLedger s f).symm ▸ h
  cfgWr s p o n h := (kept_cfgWr s p o n).symm ▸ h
  modArb s a f h := (kept_modArb s a f).symm ▸ h
  setSport s p x h := (kept_setSport s p x).symm ▸ h
  modKrf s l f h := (kept_modKrf s l f).symm ▸ h
  modPch s c f h := (kept_modPch s c f).symm ▸ h
  modSq s q f h := (kept_modSq s q f).symm ▸ h
  setPulseEnd s g p h := (kept_setPulseEnd s g p).symm ▸ h
  bayWr s b a l h := (kept_bayWr s b a l).symm ▸ h
  ddrWr s a l h := (kept_ddrWr s a l).symm ▸ h
  setDdrOut s l h := (kept_setDdrOut s l).symm ▸ h
  modPhy s l f h := (kept_modPhy s l f).symm ▸ h
  modTen s l f h := (kept_modTen s l f).symm ▸ h
  modEng s e f h := (kept_modEng s e f).symm ▸ h
  modCln s l f h := (kept_modCln s l f).symm ▸ h
  modEth s l f h := (kept_modEth s l f).symm ▸ h
  modStrm s st f h := (kept_modStrm s st f).symm ▸ h
  modRing s st p f h := (kept_modRing s st p f).symm ▸ h
  modDlv s num f h := (kept_modDlv s num f).symm ▸ h
  dropDlv s num h := (kept_dropDlv s num).symm ▸ h
  setRateFrom s t h := (kept_setRateFrom s t).symm ▸ h
  modScf s u f h := (kept_modScf s u f).symm ▸ h
  modDch s b c f h := (kept_modDch s b c f).symm ▸ h
  dmemWr s e a l h := (kept_dmemWr s e a l).symm ▸ h
  setSigs s l h := (kept_setSigs s l).symm ▸ h
  cycleUp s h := (kept_cycleUp s).symm ▸ h
  setFaultFrom s t h := (kept_setFaultFrom s t).symm ▸ h
  setPushes s b l h := (kept_setPushes s b l).symm ▸ h
  modDrm s k f h := (kept_modDrm s k f).symm ▸ h
  modHport s p f h := (kept_modHport s p f).symm ▸ h
  dropConfig s p lo h := (kept_dropConfig s p lo).symm ▸ h
  flashProg s a l h := (kept_flashProg s a l).symm ▸ h
  flashErase s a h := (kept_flashErase s a).symm ▸ h
  hdrStore s c l h := (kept_hdrStore s c l).symm ▸ h
  sysReset s c h := (State.sysReset_kept s c).symm ▸ h
  loadMems s p e h := (kept_loadMems s p e).symm ▸ h

end Sys2Proof.Machine
end

