-- ==== Sys2Proof/Tests/Slice0.lean ====
section
/-!
SUPPORT. Tests of the model's author: what WellFormed refuses, single steps on small states, and for every statement
with hypotheses a state and operands that meet them.
-/

open Sys2Proof Sys2Proof.Machine Sys2Proof.Machine.Reg

namespace Sys2Proof.Tests

set_option Elab.async false

/-! ### Small states for the witnesses -/

/-- A trigger with an ID and a path, and zeros. -/
def sampleTrigger (id path : Nat) : Trigger :=
  ⟨0, id, 0, 0, 0, 0, 0, 0, 0, false, false, false, false, false, 0, path, 0, 0, 8, 0, false, false, false, none, false, 0⟩

/-- Lane 3 in ACTIVE on Tenon, with both locks and its protocol up, and lines of 8 pixels. -/
def tenonUpState : State :=
  (((((((State.reset.setLane 3 6).putB (LANE_STATUS_BLOCK_LOCK 3) true).putB (LANE_STATUS_ALIGN_LOCK 3) true).putB
    (TENON_STATUS_BOND_UP 3) true).put (TENON_CFG_LINE_PIXELS 3) 8).latch [TENON_CFG 3]).modPhy 3
      (fun x => { x with pers := 1 }))

/-- Lanes 0 and 1 in ACTIVE, members of a bond of two that has not formed. -/
def bondState : State :=
  ((((((State.reset.put (TENON_CFG_BOND 0) 1).put (TENON_CFG_BOND 1) 1).latch [TENON_CFG 0, TENON_CFG 1]).setLane 0 6).setLane
    1 6).modPhy 0 (fun x => { x with pers := 1, rxAlignInfo := 256 })).modPhy 1 (fun x => { x with pers := 1, rxAlignInfo := 257 })

/-- A header of R149 for the only tile of a line of 8 pixels of the format 0, as its eight blocks. -/
def goodHeader : List Block :=
  let h := toBytes 1 1 ++ toBytes 1 0 ++ toBytes 2 0 ++ toBytes 4 0 ++ toBytes 4 0 ++ toBytes 2 0 ++ toBytes 2 1 ++ toBytes 4 0 ++
    toBytes 4 8 ++ toBytes 4 (packedBytes 0 8) ++ toBytes 4 8 ++ toBytes 28 0
  let h := h ++ toBytes 4 (crc32c h)
  (List.range 8).map (fun i => blockOf (h.drop (8 * i)))

/-- Lane 3 in ACTIVE on Ethernet. -/
def ethUpState : State := (State.reset.setLane 3 6).modPhy 3 (fun x => { x with pers := 2 })

/-- An open block that nothing has arrived of. -/
def ethBlock0 : EthBlock := ⟨1, 7, ethUpState.tagOf (sampleTrigger 7 2) 0 true, [], [], [], 0, false, [], false, false, [none]⟩

/-- Lane 3 with that block open, lines of 8 pixels and packets of 2 bytes. -/
def ethBlockState : State :=
  ((((ethUpState.put (ETH_CFG_LINE_PIXELS 3) 8).put (ETH_SIZES_PKT_SIZE 3) 50).latch [ETH_CFG 3, ETH_SIZES 3])).modEth 3
    (fun x => { x with blocks := [ethBlock0], lastId := some 1 })


/-- A tile of 4 pixels of lane 3 that has ended, and a ledger with it alone. -/
def sampleTile : Tile := { Tile.blank with num := 1, lane := 3, pixels := 4, ended := true }
def tileState (u : Tile) : State := State.reset.modLedger (fun _ => ⟨[u], 2, []⟩)

/-- Scarf unit 0 in service with lane 3 as its only segment. -/
def scarfOn (s : State) : State :=
  ((s.put (STITCH_CTRL_SEGMENTS 0) 1).put (STITCH_SEG_W0_LANE 0 0) 3).putB (STITCH_CTRL_EN 0) true

/-- A bent of line 0 that waits for tile 1, or has it. -/
def sampleBent (done : Bool) : Bent := ⟨0, 0, 0, 0, [⟨0, 1, 0, 4, [], done⟩], none, false, []⟩

/-- Engine 3 with the word `w` as its whole code, running. -/
def engWith (w : Nat) (f : Engine → Engine) : State :=
  ({ (State.reset.put (ENG_STATUS_STATE 3) 2) with imem := csetN (fun _ => (0 : Byte)) [] (3 * 32768) (toBytes 4 w) }).modEng 3
    (fun y => f { y with codeLen := 4 })

/-- A bundle of one system instruction (R319, R335). -/
def sysWord (op d a low : Nat) : Nat := 2 ^ 31 + 7 * 2 ^ 28 + op * 2 ^ 22 + d * 2 ^ 17 + a * 2 ^ 12 + low

/-- A delivery of stream 3 on port A, with 64 bytes of data and a descriptor. -/
def sampleDlv : Delivery :=
  { num := 1, stream := 3, port := 0, kind := 0, tiles := [], acc := 0, tag := TagInfo.reset, tagStream := 3, unit := 0, segMap := 0,
    data := List.replicate 64 0, final := true, sent := 0, desc := some (0, 4096, 64), inDesc := 0, filled := [], waitFrom := none,
    waited := 0, hostLate := false, loss := false, refAcc := none, slot := none, nodeId := 0 }

/-- The link of port A is up. -/
def hostState : State := State.reset.putB (PCIE_LINK_UP 0) true

/-- The management firmware runs. -/
def fwState : State := (State.reset.modPower (fun x => { x with mcDown := false })).modMc (fun m => { m with fwOn := true })

/-- It runs a slot in trial, of the firmware (0) or the Cut List (1). -/
def trialState (target : Nat) : State :=
  (((fwState.recNew (recBytes target 0 1 (List.replicate 8 0xFF))).recMark 16).recMark 17).put GLOBAL_BOOT_STATUS_STAGE 9

/-- A limiter with one entry withheld. -/
def sampleLimiter : Limiter := ⟨0x1001, 0, 0, true, 1, 0, 0, []⟩

/-- Port 3 of the fabric ACTIVE in role `r` (1 UP, 2 DOWN, 3 TWIN). -/
def sillUpState (r : Nat) : State := (State.reset.put (SILL_PORT_STATUS_STATE 3) 4).put (SILL_PORT_STATUS_ROLE 3) r

/-- A twin whose TWIN port is port 3. -/
def twinState : State := ((sillUpState 3).putB (SILL_PORT_CFG_ENABLE 3) true).put (SILL_PORT_CFG_ROLE 3) 3

/-- A repeater below port 3, which carries claim 7. -/
def claimState : State :=
  (((sillUpState 1).putB (SILL_PORT_STATUS_SELECTED 3) true).put SILL_STATUS_ROLE 2).modSill (fun x => { x with
    claims := [⟨7, false, false, 0, 3, 0⟩] })

/-- It has one reading of its time parent, the mean `m`, and its firmware runs. -/
def servoState (m : Int) : State :=
  ((((claimState.modPower (fun x => { x with mcDown := false })).modMc (fun x => { x with fwOn := true })).modSport 3 (fun x => { x with
    thetas := [m] })).wrS (SILL_OFS_MEAN 3) m)

/-- Flash with a valid boot header in its first copy, before the boot ROM starts. -/
def headerState : State :=
  let h := toBytes 4 0x48425747 ++ toBytes 2 0x0100 ++ List.replicate 14 0 ++
    (List.range 8).flatMap (fun i => toBytes 4 (flashDefault i).1 ++ toBytes 4 (flashDefault i).2) ++ List.replicate 168 0
  State.reset.flashProg 0 (h ++ toBytes 4 (crc32c h))

/-- The firmware serves a request of port 1: its opcode and its payload. -/
def reqState (s : State) (op : Nat) (payload : List Byte) : State :=
  let l := toBytes 2 op ++ toBytes 2 0 ++ toBytes 4 payload.length ++ toBytes 8 0 ++ payload
  (List.range (ceilDiv l.length 4)).foldl (fun s k => s.wrN (MBOX_REQ 1 k) (bytesAt l (4 * k) 4))
    (s.modMc (fun m => { m with mboxOrder := [1] }))

/-- The firmware serves a STREAM_OPEN of stream 3, of log entries. -/
def openState : State :=
  reqState (fwState.putB GLOBAL_COMMIT_CL_COMMIT true) 0x10 ([3, 5] ++ List.replicate 30 0 ++ [1, 0, 1, 0] ++ List.replicate 28 0)

/-- The boot ROM serves a request of port A in recovery, with an empty payload. -/
def recoverState (op : Nat) : State :=
  (((State.reset.modPower (fun x => { x with mcDown := false })).putB GLOBAL_BOOT_STATUS_RECOVERY true).modMc (fun m => { m with
    mboxOrder := [0] })).wrN (MBOX_REQ 0 0) op

/-- A request for the one-time memory: an operation on slot 0 of a kind. -/
def otpRequest (op kind : Nat) : List Byte :=
  toBytes 4 0x544F5747 ++ toBytes 2 0x0100 ++ toBytes 1 op ++ toBytes 1 kind ++ List.replicate 120 0

/-- Flash with a Cut List in force that has one REFERENCE section, for 4,096 bytes from address 0. -/
def referenceState : State :=
  let cl := toBytes 4 0x4C435747 ++ [0, 0] ++ toBytes 2 1 ++ toBytes 4 144 ++ List.replicate 52 0 ++ toBytes 2 3 ++ [0, 0] ++
    toBytes 4 112 ++ toBytes 4 32 ++ List.replicate 36 0 ++ List.replicate 20 0 ++ toBytes 4 4096 ++ List.replicate 8 0
  (fwState.flashProg (fwState.region 2).1 cl).modMc (fun m => { m with clOk := true })

/-- A Cut List with one section of a type, and the flags of R77; flash with it in the slot in force. -/
def cutList (flags type : Nat) (sect : List Byte) : List Byte :=
  toBytes 4 0x4C435747 ++ [0, 0] ++ toBytes 2 1 ++ toBytes 4 (112 + sect.length) ++ List.replicate 16 0 ++ toBytes 2 flags ++
    List.replicate 34 0 ++ toBytes 2 type ++ [0, 0] ++ toBytes 4 112 ++ toBytes 4 sect.length ++ List.replicate 36 0 ++ sect

def slotState (flags type : Nat) (sect : List Byte) : State :=
  (fwState.flashProg (fwState.region 2).1 (cutList flags type sect)).modMc (fun m => { m with clOk := true })

/-! ### What WellFormed refuses: an ill-formed term for each check -/

/-- Register writes: no byte, too many bytes, an offset outside BAR0, a value wider than its size (R4, R406). -/
theorem test_wf_writes : [Instr.registerWrite [⟨0, 0, 0, 0⟩], .registerWrite [⟨1, 0, 4097, 0⟩], .registerWrite [⟨0, 0x400000, 4, 0⟩],
    .registerWrite [⟨2, 0, 4, 2 ^ 32⟩], .trigPush 0 0 0 0, .trigPush 0 0 9 0, .trigPush 0 0 4 (2 ^ 32), .tbIncrWrite false (2 ^ 32),
    .tbIncrWrite true (2 ^ 64)].all (fun c => !c.wf) = true := by decide

/-- Lanes and cameras: more errors than bits, reasons, frame sizes, block, packet and sequence numbers, addresses. -/
theorem test_wf_lanes : [Instr.prbsPublish 0 1 2, .violDeferredSend 0 256, .ethFrameReceive 0 [] true 0 0,
    .gvspLeaderReceive 0 true (2 ^ 64) ⟨1, 0, 0, 0, 0, 0, 0, 0⟩ 0, .gvspLeaderReceive 0 true 0 ⟨1, 0, 0, 0, 0, 0, 0, 0⟩ (2 ^ 64),
    .gvspPayloadReceive 0 true (2 ^ 64) 0 [] false, .gvspPayloadReceive 0 true 0 (2 ^ 32) [] false,
    .gvspTrailerReceive 0 true (2 ^ 64), .arpReplyReceive 0 (2 ^ 48), .delayReqReceive 0 ⟨0, 2 ^ 16⟩ 0,
    .ssiFrameEnd 0 (2 ^ 42)].all (fun c => !c.wf) = true := by decide

/-- The event matrix, memories and arbiters: producers, addresses, symbols of a codeword, units. -/
theorem test_wf_memories : [Instr.eventArrive 0 [] false, .eventArrive 0 [160] false, .ddrReadDecode 0 (2 ^ 36) 0 [],
    .ddrReadDecode 0 0 0 [(36, 1)], .ddrReadDecode 0 0 0 [(0, 0)], .ddrReadDecode 0 0 0 [(0, 16)], .scrubRead 0 [[(36, 1)]],
    .waitWatchdogExpiry (0, 4096) 0 0 [], .waitWatchdogExpiry (0, 0) 0 0 [(0, 4096)]].all (fun c => !c.wf) = true := by decide

/-- Host ports and the fabric: sizes, tags, request numbers, frames without their control block first (R429). -/
theorem test_wf_links : [Instr.descTailWrite 0 0 0 0 0, .descTailWrite 0 0 0 9 0, .descCompletionReceive 0 1024 true [],
    .completionTimeout 0 1024, .peerRequest 0 1 0 [] 0 0 false [], .peerRequest 0 1 0 [some 0] (2 ^ 16) 0 false [],
    .peerRequest 0 1 0 [some 0] 0 (2 ^ 14) false [], .helloReceive 0 [], .syncReceive 0 [(false, 0)] 0,
    .posBurstReceive 0 [(true, 0), (true, 0)], .eventFrameReceive 0 [], .schedFrameReceive 0 [], .mgmtFrameReceive 0 [],
    .claimReceive 0 [(false, 0)], .beatReceive 0 []].all (fun c => !c.wf) = true := by decide

/-- The management controller: channels trained, bad sectors, sensors, regulators, log codes. -/
theorem test_wf_management : [Instr.firmwareStart [] [] [], .firmwareStart (List.replicate 8 0) [] [(4096, [])],
    .sensorPublish [] [], .sensorPublish (List.replicate 8 (2 ^ 16)) (List.replicate 16 0),
    .pmbusPoll [some ⟨2 ^ 16, 0, 0, 0, 0⟩], .pmbAlert [2 ^ 16], .logLimitIntervalEnd (2 ^ 16) 0].all (fun c => !c.wf) = true := by
  decide

/-! ### Single steps, with results worked out from the rules named -/

/-- The state in which a list of commands waits. -/
def queued (s : State) (cs : List Instr) : State := { s with pending := cs }
/-- What holds after one step. -/
def after (s : State) (c : Instr) (p : State → Bool) : Bool :=
  match step (queued s [c]) with
  | .next t => p t && t.pending.isEmpty
  | _ => false

/-- R4, R504: a 32-bit write at offset 2 touches nothing but the account of refused accesses, MASTER 1 and CAUSE 1. -/
theorem test_misaligned_write : after (State.reset.putB (PCIE_LINK_UP 0) true) (.registerWrite [⟨1, 2, 4, 5⟩]) (fun t =>
    t.rdN GLOBAL_BAD_ACCESS == 1 && t.rdN GLOBAL_BAD_LAST_INFO == 0x111) = true := by decide +kernel
/-- R69: a host's request for a system reset is ignored and counted. -/
theorem test_host_reset_refused : after (State.reset.putB (PCIE_LINK_UP 0) true) (.sysResetRequest 1) (fun t =>
    !t.power.sysRst && t.rdN GLOBAL_BAD_ACCESS == 1) = true := by decide +kernel
/-- R241: at the reset increment a tick of CLK_TB adds 1 ns. -/
theorem test_tick_adds_one_ns : (State.reset.putB TB_STATUS_COARSE false).tbTick.tb.cnt = 2 ^ 32 := by decide +kernel
/-- R111, R122: LOS in ACTIVE counts and starts a session, which seeks at S0. -/
theorem test_los_in_active : after (((State.reset.putB (LANE_STATUS_LOS 3) false).put (LANE_CTRL_PERSONALITY 3) 1).setLane 3 6) (.losSet 3) (fun t =>
    t.rdN (LANE_CNT_LOS 3) == 1 && t.laneState 3 == 2 && t.laneState 4 == 0) = true := by decide +kernel
/-- R195: a rising A with B low counts one up at every edge, and A falling back counts it down again. -/
theorem test_quadrature : quadCount 0 (quadPlace false false) (quadPlace true false) = some 1 ∧
    quadCount 0 (quadPlace true false) (quadPlace false false) = some (-1) ∧
    quadCount 0 (quadPlace false false) (quadPlace true true) = none := by decide
/-- R383: with SHARE_A 128 of 256 the deliveries 0 to 3 go to the ports B, A, B, A. -/
theorem test_deal : (List.range 4).map (fun d => decide (d * 128 / 256 < (d + 1) * 128 / 256)) = [false, true, false, true] := by
  decide
/-- R277: 10 bits round to nearest and are limited to 1,023; 8 bits of a full-scale working value store 255. -/
theorem test_conversion : toStored 10 31 = 0 ∧ toStored 10 32 = 1 ∧ toStored 10 65535 = 1023 ∧ toStored 8 65535 = 255 := by decide
/-- R466: an entry takes INDEX 0 and the head moves to 1. -/
theorem test_log_write : after (State.reset.logC 0x1109 3 0) .logWrite (fun t =>
    t.rdN MC_LOG_HEAD == 1 && t.log.queue.isEmpty && t.log.ring.length == 1) = true := by decide +kernel
/-- R495, R499: a lane retired by the MC shows in its bitmap. -/
theorem test_retire_lane : after State.reset (.retireLane 0 33) (fun t => t.laneRetired 33 && !t.laneRetired 32) = true := by
  decide +kernel
/-- R91: a bit programmed in the OTP stays when the byte is programmed with zeros. -/
theorem test_otp_keeps_bits : ((State.reset.otpProg 32 [2]).otpProg 32 [1, 0]).otpRd 32 2 = [3, 0] := by decide +kernel
/-- R315: s0 discards what is written. -/
theorem test_s0 : (Engine.reset.setS 0 7).sreg 0 = 0 ∧ (Engine.reset.setS 1 7).sreg 1 = 7 := by decide
/-- R244: TB_SNAP captures and publishes once. -/
theorem test_tb_snap : after State.reset .tbSnap (fun t => t.rdN TB_SNAP_STATUS == 0x101) = true := by decide +kernel
/-- A state read back from canonical memory: writing zero removes the entry. -/
theorem test_memory_canonical : ((State.reset.bayWr 3 5 [7, 8]).bayWr 3 5 [0, 0]).bay = [] := by decide +kernel
/-- An empty queue ticks (log entry 2). -/
theorem test_idle_ticks : (match step (State.reset.putB TB_STATUS_COARSE true) with | .next t => t.tb.ticks == 1 | _ => false) = true := by
  decide +kernel

/-! ### The invariant holds after reset -/

theorem reset_ok : State.reset.Ok := by
  refine ⟨⟨?_, ?_, cwf_nil _, cwf_nil _, cwf_nil _, cwf_nil _, cwf_nil _, cwf_nil _⟩, rfl⟩
  · decide +kernel
  · decide +kernel

/-! ### States that meet the hypotheses of the statements -/

theorem witness_ResetsComplete :
  (∃ (s : State), s.power.porst = true) ∧
  (∃ (s : State), s.power.porst = false ∧ s.power.sysRst = false) ∧
  (∃ (s : State), s.power.porst = false ∧ s.power.sysRst = true) ∧
  (∃ (s : State), s.power.sysRst = true) ∧
  (∃ (s : State), s.held = false) ∧
  (∃ (s : State) (m : Fin 3), s.reaches m = true ∧ m ≠ 0) ∧
  (∃ (s : State), s.held = false) ∧
  (∃ (s : State) (m : Fin 3), s.reaches m = true ∧ m ≠ 0) ∧
  (∃ (s : State), s.held = false ∧ s.mc.fwOn = true ∧ s.power.mcDown = false ∧ s.power.mcDebugHold = false ∧
    s.mc.fwAt + max 10 (s.get MC_WDOG_CFG_TIMEOUT) * 1000000 ≤ s.tb.ticks) :=
  ⟨
    ⟨(State.reset.modPower (fun _ => ⟨true, false, true, false, 0⟩)), by decide +kernel⟩,
    ⟨(State.reset), by decide +kernel⟩,
    ⟨(State.reset.modPower (fun _ => ⟨false, true, true, false, 0⟩)), by decide +kernel⟩,
    ⟨(State.reset.modPower (fun _ => ⟨false, true, true, false, 0⟩)), by decide +kernel⟩,
    ⟨(State.reset), by decide +kernel⟩,
    ⟨(State.reset.putB (PCIE_LINK_UP 0) true), 1, by decide +kernel⟩,
    ⟨(State.reset), by decide +kernel⟩,
    ⟨(State.reset.putB (PCIE_LINK_UP 1) true), 2, by decide +kernel⟩,
    ⟨(((State.reset.modPower (fun p => { p with mcDown := false })).modMc (fun m => { m with fwOn := true })).modTb
      (fun t => { t with ticks := 10000000000 })), by decide +kernel⟩⟩

theorem witness_ResetsComplete_raw : ∃ (s : State) (c : Nat), c < 6 ∧ s.power.porst = false ∧ s.power.sysRst = false ∧
    s.power.mcDown = false := ⟨State.reset.modPower (fun p => { p with mcDown := false }), 5, by decide +kernel⟩
theorem witness_PllsComplete :
  (∃ (s : State) (i : Fin 16), s.power.porst = false ∧ s.pllLocked i = true ∧ i.val = 0) ∧
  (∃ (s : State) (i : Fin 16), s.power.porst = false ∧ s.pllLocked i = true ∧ (i.val = 1 ∨ i.val = 2 ∨ i.val = 3)) ∧
  (∃ (s : State) (i : Fin 16), s.power.porst = false ∧ s.pllLocked i = true ∧ i.val = 4) ∧
  (∃ (s : State) (i : Fin 16), s.power.porst = false ∧ s.pllLocked i = true ∧ i.val = 5) ∧
  (∃ (s : State) (i : Fin 16), s.power.porst = false ∧ s.pllLocked i = true ∧ (i.val = 6 ∨ i.val = 7)) ∧
  (∃ (s : State) (i : Fin 16), s.power.porst = false ∧ s.pllLocked i = true ∧ 8 ≤ i.val) ∧
  (∃ (s : State) (i : Fin 16), s.power.porst = false ∧ i.val < 8) ∧
  (∃ (s : State) (i : Fin 16), s.power.porst = false ∧ 8 ≤ i.val) ∧
  (∃ (s : State), s.flag TB_CTRL_REF_SEL = true ∧ s.flag GLOBAL_PLL_STATUS_TB_HOLDOVER = false) ∧
  (∃ (s : State), s.held = false) ∧
  (∃ (s : State), s.flag GLOBAL_PLL_STATUS_TB_RELOCK = true) ∧
  (∃ (s : State), s.flag TB_STATUS_COARSE = true ∧ s.pllLocked 4 = true) :=
  ⟨
    ⟨(State.reset.setLock 0 true), 0, by decide +kernel⟩,
    ⟨(State.reset.setLock 3 true), 3, by decide +kernel⟩,
    ⟨(State.reset.setLock 4 true), 4, by decide +kernel⟩,
    ⟨(State.reset.setLock 5 true), 5, by decide +kernel⟩,
    ⟨(State.reset.setLock 7 true), 7, by decide +kernel⟩,
    ⟨(State.reset.setLock 8 true), 8, by decide +kernel⟩,
    ⟨(State.reset), 7, by decide +kernel⟩,
    ⟨(State.reset), 8, by decide +kernel⟩,
    ⟨(State.reset.putB TB_CTRL_REF_SEL true), by decide +kernel⟩,
    ⟨(State.reset), by decide +kernel⟩,
    ⟨(State.reset.putB GLOBAL_PLL_STATUS_TB_RELOCK true), by decide +kernel⟩,
    ⟨((State.reset.putB TB_STATUS_COARSE true).setLock 4 true), by decide +kernel⟩⟩

theorem witness_DroopComplete :
  (∃ (s : State), s.held = false ∧ s.flag GLOBAL_DROOP_CTRL_ENABLE = true ∧ s.flag GLOBAL_DROOP_STATUS_HALVED =
    false) ∧
  (∃ (s : State), s.flag GLOBAL_DROOP_STATUS_HALVED = true ∧ s.droop.minEnd ≤ s.tb.ticks) ∧
  (∃ (s : State), s.droop.winOn = true ∧ s.droop.winOver = false ∧ s.get GLOBAL_DROOP_BUDGET_BUDGET <
    s.droop.winHalved) ∧
  (∃ (s : State), s.droop.winOn = true ∧ s.droop.winFrom + s.droopW ≤ s.tb.ticks ∧ s.droop.winOver = false ∧
    s.droop.winHalved ≤ s.get GLOBAL_DROOP_BUDGET_BUDGET ∧ s.flag GLOBAL_DROOP_STATUS_DROOP_OVER = true) ∧
  (∃ (s : State), s.droop.winOn = true ∧ s.droop.winFrom + s.droopW ≤ s.tb.ticks ∧ (s.droop.winOver = true ∨ s.get
    GLOBAL_DROOP_BUDGET_BUDGET < s.droop.winHalved ∨ s.flag GLOBAL_DROOP_STATUS_DROOP_OVER = false)) ∧
  (∃ (s : State), s.held = false ∧ s.flag GLOBAL_DROOP_STATUS_HALVED = false) ∧
  (∃ (s : State), s.held = false ∧ s.flag GLOBAL_DROOP_STATUS_HALVED = true) :=
  ⟨
    ⟨(State.reset.putB GLOBAL_DROOP_CTRL_ENABLE true), by decide +kernel⟩,
    ⟨(State.reset.putB GLOBAL_DROOP_STATUS_HALVED true), by decide +kernel⟩,
    ⟨(State.reset.modDroop (fun d => { d with winOn := true, winHalved := 2 ^ 32 })), by decide +kernel⟩,
    ⟨(((State.reset.putB GLOBAL_DROOP_STATUS_DROOP_OVER true).modDroop (fun d => { d with winOn := true })).modTb
      (fun t => { t with ticks := 10000000 })), by decide +kernel⟩,
    ⟨((State.reset.modDroop (fun d => { d with winOn := true, winOver := true })).modTb (fun t =>
      { t with ticks := 10000000 })), by decide +kernel⟩,
    ⟨(State.reset), by decide +kernel⟩,
    ⟨(State.reset.putB GLOBAL_DROOP_STATUS_HALVED true), by decide +kernel⟩⟩

theorem witness_TimeBaseSteeringComplete :
  (∃ (s : State) (v : Nat), s.held = false ∧ 0x00FFBE76C9 ≤ v ∧ v ≤ 0x0100418937) ∧
  (∃ (s : State) (v : Nat), s.held = false ∧ v < 0x00FFBE76C9) ∧
  (∃ (s : State) (v : Nat), s.held = false ∧ 0x0100418937 < v ∧ v < 2 ^ 40) ∧
  (∃ (s : State) (v : Nat), s.held = false ∧ 0x00FFBE76C9 ≤ v % 2 ^ 8 * 2 ^ 32 + s.tb.incrLow.toNat ∧ v % 2 ^ 8 * 2 ^
    32 + s.tb.incrLow.toNat ≤ 0x0100418937) ∧
  (∃ (s : State) (v : Word), s.held = false ∧ sext 32 v.toNat = 0) ∧
  (∃ (s : State) (v : Word), s.held = false ∧ sext 32 v.toNat ≠ 0) ∧
  (∃ (s : State), s.tb.slewLeft = 0) ∧
  (∃ (s : State), s.held = false) ∧
  (∃ (s : State) (n : Int), s.held = false ∧ n = ((s.rdTime TB_SET_TIME * 65536 : Nat) : Int) % (tbMod : Int) ∧
    s.outCommit = true ∧ s.rdN TB_STEP_MAX * 65536 < (n / 65536 - s.nowI).natAbs) ∧
  (∃ (s : State) (n : Int), s.held = false ∧ n = ((s.rdTime TB_SET_TIME * 65536 : Nat) : Int) % (tbMod : Int) ∧
    (s.outCommit = false ∨ (n / 65536 - s.nowI).natAbs ≤ s.rdN TB_STEP_MAX * 65536)) ∧
  (∃ (s : State) (n : Int), s.held = false ∧ n = ((s.tb.cnt : Int) + s.rdS TB_STEP * 65536) % (tbMod : Int) ∧
    (s.outCommit = false ∨ (n / 65536 - s.nowI).natAbs ≤ s.rdN TB_STEP_MAX * 65536)) ∧
  (∃ (s : State), s.held = false) :=
  ⟨
    ⟨(State.reset), 0x0100418937, by decide +kernel⟩,
    ⟨(State.reset), 0, by decide +kernel⟩,
    ⟨(State.reset), (2 ^ 40 - 1), by decide +kernel⟩,
    ⟨(State.reset), 1, by decide +kernel⟩,
    ⟨(State.reset), 0, by decide +kernel⟩,
    ⟨(State.reset), 5, by decide +kernel⟩,
    ⟨(State.reset), by decide +kernel⟩,
    ⟨(State.reset), by decide +kernel⟩,
    ⟨(((State.reset.putB GLOBAL_COMMIT_OUTPUT_COMMIT true).wrTime TB_SET_TIME (2 ^ 60)).wrN TB_STEP_MAX 0), (2 ^ 60 *
      65536), by decide +kernel⟩,
    ⟨(State.reset), 0, by decide +kernel⟩,
    ⟨(State.reset), 0, by decide +kernel⟩,
    ⟨(State.reset), by decide +kernel⟩⟩

theorem witness_TimeBaseEventsComplete :
  (∃ (s : State) (a : Fin 8), s.held = false ∧ s.flag (TB_ALARM_CFG_EN a) = true ∧ s.flag (TB_ALARM_CFG_PERIODIC a) =
    false ∧ s.rdTime (TB_ALARM_TIME a) ≤ s.now ∧ s.tb.cnt - (if s.flag TB_STATUS_COARSE then 40 * s.effIncr else
    s.effIncr) < (s.rdTime (TB_ALARM_TIME a) : Int) * 65536) ∧
  (∃ (s : State) (a : Fin 8), s.held = false ∧ s.flag (TB_ALARM_CFG_EN a) = true ∧ s.flag (TB_ALARM_CFG_PERIODIC a) =
    false ∧ s.rdTime (TB_ALARM_TIME a) ≤ s.now ∧ (s.rdTime (TB_ALARM_TIME a) : Int) * 65536 ≤ s.tb.cnt - (if s.flag
    TB_STATUS_COARSE then 40 * s.effIncr else s.effIncr)) ∧
  (∃ (s : State) (a : Fin 8), s.held = false ∧ s.flag (TB_ALARM_CFG_EN a) = true ∧ s.flag (TB_ALARM_CFG_PERIODIC a) =
    true ∧ s.rdTime (TB_ALARM_TIME a) ≤ s.now ∧ s.tb.cnt - (if s.flag TB_STATUS_COARSE then 40 * s.effIncr else
    s.effIncr) < (s.rdTime (TB_ALARM_TIME a) : Int) * 65536) ∧
  (∃ (s : State) (r : Bool), s.held = false ∧ bit (s.get TB_CTRL_PPS_EDGE) (if r then 0 else 1) = true ∧ s.flag
    TB_STATUS_COARSE = false) ∧
  (∃ (s : State) (r : Bool), s.held = false ∧ bit (s.get TB_CTRL_PPS_EDGE) (if r then 0 else 1) = true ∧ s.flag
    TB_STATUS_COARSE = true) ∧
  (∃ (s : State) (k : Nat), s.tb.ppsInTick = some k ∧ s.flag TB_STATUS_PPS_MISS = false ∧ k + 1100000000 ≤
    s.tb.ticks) ∧
  (∃ (s : State), s.flag TB_CTRL_PPS_OUT_EN = true ∧ s.outCommit = true ∧ s.tb.ppsIdle.isSome = true ∧ s.tb.ppsSec <
    s.ppsSecond s.nowI ∧ s.tb.ppsSkip < s.ppsSecond s.nowI ∧ s.tb.ppsActive = false) ∧
  (∃ (s : State), s.tb.ppsActive = true ∧ s.tb.ppsEnd ≤ s.elapsed) ∧
  (∃ (s : State) (i : Fin 16), s.held = false ∧ s.flag (TB_CYC_CFG_EN i) = true ∧ s.flag (TB_CYC_CFG_OUT_EN i) =
    false ∧ (s.rdTime (TB_CYC_START i) : Int) / 65536 + cget (fun _ => 0) s.tb.cycNext i * s.rdN (TB_CYC_PERIOD i) ≤
    s.nowI / 65536) ∧
  (∃ (s : State) (i : Fin 16), s.held = false ∧ s.flag (TB_CYC_CFG_EN i) = true ∧ s.flag (TB_CYC_CFG_OUT_EN i) = true
    ∧ (s.rdTime (TB_CYC_START i) : Int) / 65536 + cget (fun _ => 0) s.tb.cycNext i * s.rdN (TB_CYC_PERIOD i) ≤ s.nowI
    / 65536) ∧
  (∃ (s : State) (i : Fin 16) (g : Nat) (p : Pulse), s.pulses = [(g, some p)] ∧ p.owner = 2 ∧ p.index = i.val ∧
    p.stop ≤ s.elapsed) ∧
  (∃ (s : State) (g : Fin 64), s.held = false ∧ s.flag TB_STATUS_COARSE = false ∧ s.flag (GPIO_OWNER_BANK_OK g) =
    true ∧ s.pinDrives g = false ∧ (∀ k < 8, s.flag (EVT_GPIO_SEL_EN k) = false) ∧ bit (getBits (s.rdN
    (TB_GPIO_TS_EDGE (g / 16))) (2 * (g % 16)) 2) 0 = true ∧ cget (fun _ => none) s.tb.gpioLast g = none) :=
  ⟨
    ⟨(State.reset.putB (TB_ALARM_CFG_EN 3) true), 3, by decide +kernel⟩,
    ⟨(((State.reset.putB (TB_ALARM_CFG_EN 3) true).putB TB_STATUS_COARSE true).modTb (fun t =>
      { t with cnt := 2 ^ 60 })), 3, by decide +kernel⟩,
    ⟨((State.reset.putB (TB_ALARM_CFG_EN 3) true).putB (TB_ALARM_CFG_PERIODIC 3) true), 3, by decide +kernel⟩,
    ⟨(State.reset.put TB_CTRL_PPS_EDGE 3), true, by decide +kernel⟩,
    ⟨((State.reset.put TB_CTRL_PPS_EDGE 3).putB TB_STATUS_COARSE true), true, by decide +kernel⟩,
    ⟨(State.reset.modTb (fun t => { t with ppsInTick := some 1, ticks := 1100000001 })), 1, by decide +kernel⟩,
    ⟨(((State.reset.putB TB_CTRL_PPS_OUT_EN true).putB GLOBAL_COMMIT_OUTPUT_COMMIT true).modTb (fun t =>
      { t with ppsIdle := some 0, ppsSec := -5, ppsSkip := -5 })), by decide +kernel⟩,
    ⟨(State.reset.modTb (fun t => { t with ppsActive := true, ppsEnd := 0 })), by decide +kernel⟩,
    ⟨(State.reset.putB (TB_CYC_CFG_EN 3) true), 3, by decide +kernel⟩,
    ⟨((State.reset.putB (TB_CYC_CFG_EN 3) true).putB (TB_CYC_CFG_OUT_EN 3) true), 3, by decide +kernel⟩,
    ⟨(State.reset.setPulseEnd 5 (some ⟨0, 2, 3⟩)), 3, 5, (⟨0, 2, 3⟩), by decide +kernel⟩,
    ⟨((State.reset.putB (GPIO_OWNER_BANK_OK 3) true).wrN (TB_GPIO_TS_EDGE 0) 0xFFFFFFFF), 3, by decide +kernel⟩⟩

theorem witness_EventMatrixComplete :
  (∃ (s : State) (c : Fin 64) (f : EvtFlight), s.evt.inflight = [f] ∧ bit f.left c = true ∧ s.evtEnabled c f.prod =
    true ∧ s.consRuns c = true ∧ s.flag (EVT_CONS_STATUS_PENDING c) = true ∧ s.consBusy c = true) ∧
  (∃ (s : State) (c : Fin 64) (f : EvtFlight), s.evt.inflight = [f] ∧ bit f.left c = true ∧ s.evtEnabled c f.prod =
    true ∧ s.consRuns c = true ∧ s.flag (EVT_CONS_STATUS_PENDING c) = false ∧ s.consBusy c = true) ∧
  (∃ (s : State) (c : Fin 64) (f : EvtFlight), s.evt.inflight = [f] ∧ bit f.left c = true ∧ s.evtEnabled c f.prod =
    true ∧ s.consRuns c = true ∧ s.flag (EVT_CONS_STATUS_PENDING c) = false ∧ s.consBusy c = false) ∧
  (∃ (s : State) (c : Fin 64) (f : EvtFlight) (g : EvtFlight), s.evt.inflight = [f, g] ∧ f.prod ≠ g.prod ∧ bit f.left
    c = true ∧ bit g.left c = true ∧ s.evtEnabled c f.prod = true ∧ s.evtEnabled c g.prod = true ∧ s.consRuns c =
    true) ∧
  (∃ (s : State) (c : Fin 64) (x : State), s.flag (EVT_CONS_STATUS_PENDING c) = true ∧ s.consBusy c = false ∧ x =
    ((s.putB (EVT_CONS_STATUS_PENDING c) false).put (EVT_CONS_STATUS_PEND_SRC c) 0).put (EVT_CONS_STATUS_PEND_HOP c)
    0 ∧ x.consRuns c = true) ∧
  (∃ (s : State) (c : Fin 64) (x : State), s.flag (EVT_CONS_STATUS_PENDING c) = true ∧ s.consBusy c = false ∧ x =
    ((s.putB (EVT_CONS_STATUS_PENDING c) false).put (EVT_CONS_STATUS_PEND_SRC c) 0).put (EVT_CONS_STATUS_PEND_HOP c)
    0 ∧ x.consRuns c = false) ∧
  (∃ (s : State), s.held = false) ∧
  (∃ (s : State) (k : Fin 8) (g : Nat) (p : Pulse), s.pulses = [(g, some p)] ∧ p.owner = 3 ∧ p.index = k.val ∧ p.stop
    ≤ s.elapsed) ∧
  (∃ (s : State) (k : Fin 8), s.flag (GPIO_PWM_CFG_EN k) = true ∧ s.outCommit = true ∧ 0 < s.get (GPIO_PWM_HIGH_NS k)
    ∧ s.get (GPIO_PWM_HIGH_NS k) < max 16 (s.get (GPIO_PWM_PERIOD_NS k)) ∧ s.pinDrives (s.get (GPIO_PWM_CFG_PIN k)) =
    true) ∧
  (∃ (s : State) (k : Fin 8), s.flag (GPIO_PWM_CFG_EN k) = true ∧ s.outCommit = true ∧ s.get (GPIO_PWM_HIGH_NS k) ≠ 0
    ∧ max 16 (s.get (GPIO_PWM_PERIOD_NS k)) ≤ s.get (GPIO_PWM_HIGH_NS k)) ∧
  (∃ (s : State) (k : Fin 8), s.flag (GPIO_PWM_CFG_EN k) = true ∧ s.outCommit = true ∧ s.get (GPIO_PWM_HIGH_NS k) =
    0) ∧
  (∃ (s : State) (k : Fin 8) (g : Nat) (p : Pulse), s.pulses = [(g, some p)] ∧ p.owner = 4 ∧ p.index = k.val ∧ p.stop
    ≤ s.elapsed) :=
  ⟨
    ⟨((((State.reset.putB (EVT_OUT_CFG_EN 0) true).putB GLOBAL_COMMIT_OUTPUT_COMMIT true |>.setPulseEnd 0 (some ⟨2 ^
      60, 3, 0⟩) |>.wrN (EVT_EN (4 * 49)) 32).putB (EVT_CONS_STATUS_PENDING 49) true).modEvt (fun e =>
      { e with inflight := [⟨5, 0, 2 ^ 49, 0⟩] })), 49, (⟨5, 0, 2 ^ 49, 0⟩), by decide +kernel⟩,
    ⟨(((State.reset.putB (EVT_OUT_CFG_EN 0) true).putB GLOBAL_COMMIT_OUTPUT_COMMIT true |>.setPulseEnd 0 (some ⟨2 ^
      60, 3, 0⟩) |>.wrN (EVT_EN (4 * 49)) 32).modEvt (fun e => { e with inflight := [⟨5, 0, 2 ^ 49, 0⟩] })), 49, (⟨5,
      0, 2 ^ 49, 0⟩), by decide +kernel⟩,
    ⟨((State.reset.wrN (EVT_EN (4 * 33)) 32).modEvt (fun e => { e with inflight := [⟨5, 0, 2 ^ 33, 0⟩] })), 33, (⟨5,
      0, 2 ^ 33, 0⟩), by decide +kernel⟩,
    ⟨((State.reset.wrN (EVT_EN (4 * 33)) 96).modEvt (fun e =>
      { e with inflight := [⟨5, 0, 2 ^ 33, 0⟩, ⟨6, 1, 2 ^ 33, 0⟩] })), 33, (⟨5, 0, 2 ^ 33, 0⟩), (⟨6, 1, 2 ^ 33, 0⟩),
      by decide +kernel⟩,
    ⟨(State.reset.putB (EVT_CONS_STATUS_PENDING 48) true), 48, (((((State.reset.putB (EVT_CONS_STATUS_PENDING 48)
      true).putB (EVT_CONS_STATUS_PENDING 48) false).put (EVT_CONS_STATUS_PEND_SRC 48) 0).put
      (EVT_CONS_STATUS_PEND_HOP 48) 0)), by decide +kernel⟩,
    ⟨(State.reset.putB (EVT_CONS_STATUS_PENDING 49) true), 49, (((((State.reset.putB (EVT_CONS_STATUS_PENDING 49)
      true).putB (EVT_CONS_STATUS_PENDING 49) false).put (EVT_CONS_STATUS_PEND_SRC 49) 0).put
      (EVT_CONS_STATUS_PEND_HOP 49) 0)), by decide +kernel⟩,
    ⟨(State.reset), by decide +kernel⟩,
    ⟨(State.reset.setPulseEnd 5 (some ⟨0, 3, 3⟩)), 3, 5, (⟨0, 3, 3⟩), by decide +kernel⟩,
    ⟨((((State.reset.putB (GPIO_PWM_CFG_EN 3) true).putB GLOBAL_COMMIT_OUTPUT_COMMIT true).put (GPIO_PWM_HIGH_NS 3)
      15).wrN GPIO_DRIVE_LO 0xFFFFFFFF), 3, by decide +kernel⟩,
    ⟨(((State.reset.putB (GPIO_PWM_CFG_EN 3) true).putB GLOBAL_COMMIT_OUTPUT_COMMIT true).put (GPIO_PWM_HIGH_NS 3)
      16), 3, by decide +kernel⟩,
    ⟨((State.reset.putB (GPIO_PWM_CFG_EN 3) true).putB GLOBAL_COMMIT_OUTPUT_COMMIT true), 3, by decide +kernel⟩,
    ⟨(State.reset.setPulseEnd 5 (some ⟨0, 4, 3⟩)), 3, 5, (⟨0, 4, 3⟩), by decide +kernel⟩⟩

theorem witness_TriggersComplete :
  (∃ (s : State) (q : Fin 128) (tf : Int), s.trRunning q = true ∧ (s.sq q).has = true ∧ s.trMode q < 2 ∧ s.flag
    (POS_STATUS_WARM (s.trChan q)) = true ∧ (s.flag (POS_STATUS_DIR (s.trChan q)) = false ∨ s.trBidir q = true) ∧
    (s.sq q).tf = some tf ∧ tf - s.commitLead q ≤ s.nowI) ∧
  (∃ (s : State) (q : Fin 128), s.trRunning q = true ∧ (s.sq q).has = true ∧ s.trMode q < 2 ∧ s.flag (POS_STATUS_WARM
    (s.trChan q)) = false) ∧
  (∃ (s : State) (q : Fin 128) (tf : Int), s.trRunning q = true ∧ (s.sq q).has = true ∧ s.trMode q = 2 ∧ (s.sq q).tf
    = some tf ∧ tf - s.commitLead q ≤ s.nowI) ∧
  (∃ (s : State) (i : Nat) (tr : Trigger), s.trigs.find? (fun t => t.id == i && !t.firedNow) = some tr ∧ tr.tf ≤
    s.nowI ∧ ((tr.path ≠ 1 ∧ tr.path ≠ 2) ∨ tr.sent = true)) ∧
  (∃ (s : State) (i : Nat) (tr : Trigger), s.trigs.find? (fun t => t.id == i && t.path == 3 && !t.sent) = some tr ∧
    tr.tf ≤ s.nowI ∧ s.pulseEnd (tr.out % 64) = none ∧ s.pinDrives (tr.out % 64) = true) ∧
  (∃ (s : State) (i : Nat) (tr : Trigger) (p : Pulse), s.trigs.find? (fun t => t.id == i && t.path == 3 && !t.sent) =
    some tr ∧ tr.tf ≤ s.nowI ∧ s.pulseEnd (tr.out % 64) = some p) ∧
  (∃ (s : State) (q : Fin 128) (g : Nat) (p : Pulse), s.pulses = [(g, some p)] ∧ p.owner = 1 ∧ p.index = q.val ∧
    p.stop ≤ s.elapsed) ∧
  (∃ (s : State) (q : Fin 128), s.trRunning q = true ∧ s.flag (TRIG_STATUS_STALLED q) = true) ∧
  (∃ (s : State) (i : Nat) (tr : Trigger), s.trigs.find? (fun t => t.id == i) = some tr ∧ tr.copied = none ∧ tr.tc ≤
    s.nowI) :=
  ⟨
    ⟨(((State.reset.putB (TRIG_STATUS_RUNNING 3) true).putB (POS_STATUS_WARM 0) true).modSq 3 (fun x =>
      { x with has := true, tf := some 0 })), 3, 0, by decide +kernel⟩,
    ⟨((State.reset.putB (TRIG_STATUS_RUNNING 3) true).modSq 3 (fun x => { x with has := true })), 3,
      by decide +kernel⟩,
    ⟨(((State.reset.putB (TRIG_STATUS_RUNNING 3) true).put (TRIG_CTRL_MODE 3) 2).modSq 3 (fun x =>
      { x with has := true, tf := some 0 })), 3, 0, by decide +kernel⟩,
    ⟨(State.reset.modTrigs (fun _ => [sampleTrigger 7 0])), 7, (sampleTrigger 7 0), by decide +kernel⟩,
    ⟨((State.reset.wrN GPIO_DRIVE_LO 1).modTrigs (fun _ => [sampleTrigger 7 3])), 7, (sampleTrigger 7 3),
      by decide +kernel⟩,
    ⟨((State.reset.setPulseEnd 0 (some ⟨5, 1, 0⟩)).modTrigs (fun _ => [sampleTrigger 7 3])), 7, (sampleTrigger 7 3),
      (⟨5, 1, 0⟩), by decide +kernel⟩,
    ⟨(State.reset.setPulseEnd 5 (some ⟨0, 1, 3⟩)), 3, 5, (⟨0, 1, 3⟩), by decide +kernel⟩,
    ⟨((State.reset.putB (TRIG_STATUS_RUNNING 3) true).putB (TRIG_STATUS_STALLED 3) true), 3, by decide +kernel⟩,
    ⟨(State.reset.modTrigs (fun _ => [sampleTrigger 7 0])), 7, (sampleTrigger 7 0), by decide +kernel⟩⟩

theorem witness_PositionInputsComplete :
  (∃ (s : State) (c : Fin 16) (a : Bool) (b : Bool) (ago : Nat) (n : Int), (s.pch c).runs = true ∧ s.mc.encOff =
    false ∧ s.filtered c ago = true ∧ s.posMode c = 1 ∧ s.flag (POS_CTRL_SWAP_AB c) = false ∧ ((s.pch c).lvA, (s.pch
    c).lvB) ≠ (a, b) ∧ quadCount (s.get (POS_CTRL_DECODE c)) (quadPlace (s.pch c).lvA (s.pch c).lvB) (quadPlace a b)
    = some n) ∧
  (∃ (s : State) (c : Fin 16) (a : Bool) (b : Bool) (ago : Nat), (s.pch c).runs = true ∧ s.mc.encOff = false ∧
    s.filtered c ago = true ∧ s.posMode c = 1 ∧ s.flag (POS_CTRL_SWAP_AB c) = false ∧ ((s.pch c).lvA, (s.pch c).lvB)
    ≠ (a, b) ∧ quadCount (s.get (POS_CTRL_DECODE c)) (quadPlace (s.pch c).lvA (s.pch c).lvB) (quadPlace a b) = none) ∧
  (∃ (s : State) (c : Fin 16) (a : Bool) (b : Bool) (ago : Nat) (n : Int), (s.pch c).runs = true ∧ s.mc.encOff =
    false ∧ s.filtered c ago = true ∧ s.posMode c = 1 ∧ s.flag (POS_CTRL_SWAP_AB c) = true ∧ ((s.pch c).lvA, (s.pch
    c).lvB) ≠ (a, b) ∧ quadCount (s.get (POS_CTRL_DECODE c)) (quadPlace (s.pch c).lvB (s.pch c).lvA) (quadPlace b a)
    = some n) ∧
  (∃ (s : State) (c : Fin 16) (a : Bool) (b : Bool) (ago : Nat), (s.pch c).runs = true ∧ s.mc.encOff = false ∧
    s.filtered c ago = true ∧ s.posMode c = 1 ∧ s.flag (POS_CTRL_SWAP_AB c) = true ∧ ((s.pch c).lvA, (s.pch c).lvB) ≠
    (a, b) ∧ quadCount (s.get (POS_CTRL_DECODE c)) (quadPlace (s.pch c).lvB (s.pch c).lvA) (quadPlace b a) = none) ∧
  (∃ (s : State) (c : Fin 16) (a : Bool) (b : Bool) (z : Bool) (ago : Nat) (n : Int), (s.pch c).runs = true ∧
    s.mc.encOff = false ∧ s.filtered c ago = true ∧ s.posMode c = 2 ∧ ((s.pch c).lvA, (s.pch c).lvB, (s.pch c).lvZ) ≠
    (a, b, z) ∧ hallCount (hallPlace (s.pch c).lvA (s.pch c).lvB (s.pch c).lvZ) (hallPlace a b z) = some n) ∧
  (∃ (s : State) (c : Fin 16) (a : Bool) (b : Bool) (z : Bool) (ago : Nat), (s.pch c).runs = true ∧ s.mc.encOff =
    false ∧ s.filtered c ago = true ∧ s.posMode c = 2 ∧ ((s.pch c).lvA, (s.pch c).lvB, (s.pch c).lvZ) ≠ (a, b, z) ∧
    hallCount (hallPlace (s.pch c).lvA (s.pch c).lvB (s.pch c).lvZ) (hallPlace a b z) = none) ∧
  (∃ (s : State) (c : Fin 16) (ago : Nat) (x : State), (s.pch c).runs = true ∧ s.mc.encOff = false ∧ s.filtered c ago
    = true ∧ s.posMode c = 1 ∧ (s.pch c).zDone = false ∧ s.flag (POS_INDEX_CFG_GATED c) = false ∧ x = (((s.modPch c
    (fun p => { p with zDone := true, lvZ := true })).bump (POS_CNT_INDEX c)).raise 5 (POS_EVENTS_INDEX c)).produce
    (16 + 3 * c) 0 ∧ x.get (POS_INDEX_CFG_INDEX_MODE c) = 0) ∧
  (∃ (s : State), s.mc.encOff = false) ∧
  (∃ (s : State) (c : Fin 16) (lv : Bool) (ago : Nat) (x : State), (s.pch c).runs = true ∧ s.mc.encOff = false ∧
    s.filtered c ago = true ∧ (s.pch c).lvProbe ≠ lv ∧ bit (s.get (POS_PROBE_CFG_PROBE_EDGE c)) (if lv then 0 else 1)
    = true ∧ (s.pch c).lastProbe = none ∧ s.flag TB_STATUS_COARSE = false ∧ x = (((s.modPch c (fun p =>
    { p with lvProbe := lv })).modPch c (fun p => { p with lastProbe := some s.tb.ticks })).modPch c (fun p =>
    { p with probeCyc := some s.encCyc })).wrN (POS_PROBE_FLAGS c) (if lv then 1 else 2)) ∧
  (∃ (s : State) (c : Fin 16), (s.pch c).runs = true) ∧
  (∃ (s : State) (c : Fin 16), (s.pch c).runs = true) ∧
  (∃ (s : State) (c : Fin 16), (s.pch c).runs = true) ∧
  (∃ (s : State) (c : Fin 16), (s.pch c).runs = true) :=
  ⟨
    ⟨((State.reset.put (POS_CTRL_MODE 3) 1).modPch 3 (fun p => { p with runs := true })), 3, true, false, (2 ^ 40),
      1, by decide +kernel⟩,
    ⟨((State.reset.put (POS_CTRL_MODE 3) 1).modPch 3 (fun p => { p with runs := true })), 3, true, true, (2 ^ 40),
      by decide +kernel⟩,
    ⟨(((State.reset.put (POS_CTRL_MODE 3) 1).putB (POS_CTRL_SWAP_AB 3) true).modPch 3 (fun p =>
      { p with runs := true })), 3, true, false, (2 ^ 40), -1, by decide +kernel⟩,
    ⟨(((State.reset.put (POS_CTRL_MODE 3) 1).putB (POS_CTRL_SWAP_AB 3) true).modPch 3 (fun p =>
      { p with runs := true })), 3, true, true, (2 ^ 40), by decide +kernel⟩,
    ⟨((State.reset.put (POS_CTRL_MODE 3) 2).modPch 3 (fun p => { p with runs := true, lvZ := true, lvA := true })),
      3, true, false, false, (2 ^ 40), 1, by decide +kernel⟩,
    ⟨((State.reset.put (POS_CTRL_MODE 3) 2).modPch 3 (fun p => { p with runs := true })), 3, true, true, false, (2 ^
      40), by decide +kernel⟩,
    ⟨((State.reset.put (POS_CTRL_MODE 3) 1).modPch 3 (fun p => { p with runs := true })), 3, (2 ^ 40),
      ((((((State.reset.put (POS_CTRL_MODE 3) 1).modPch 3 (fun p => { p with runs := true })).modPch 3 (fun p =>
      { p with zDone := true, lvZ := true })).bump (POS_CNT_INDEX 3)).raise 5 (POS_EVENTS_INDEX 3)).produce (16 + 3 *
      3) 0), by decide +kernel⟩,
    ⟨(State.reset), by decide +kernel⟩,
    ⟨((State.reset.put (POS_PROBE_CFG_PROBE_EDGE 3) 3).modPch 3 (fun p => { p with runs := true })), 3, true, (2 ^
      40), ((((((State.reset.put (POS_PROBE_CFG_PROBE_EDGE 3) 3).modPch 3 (fun p => { p with runs := true })).modPch
      3 (fun p => { p with lvProbe := true })).modPch 3 (fun p => { p with lastProbe := some 0 })).modPch 3 (fun p =>
      { p with probeCyc := some 0 })).wrN (POS_PROBE_FLAGS 3) 1), by decide +kernel⟩,
    ⟨(State.reset.modPch 3 (fun p => { p with runs := true })), 3, by decide +kernel⟩,
    ⟨(State.reset.modPch 3 (fun p => { p with runs := true })), 3, by decide +kernel⟩,
    ⟨(State.reset.modPch 3 (fun p => { p with runs := true })), 3, by decide +kernel⟩,
    ⟨(State.reset.modPch 3 (fun p => { p with runs := true })), 3, by decide +kernel⟩⟩

theorem witness_PositionStatesComplete :
  (∃ (s : State) (c : Fin 16) (b : Bool), (s.pch c).runs = true ∧ s.posMode c = 3 ∧ s.encB c = some b ∧ (s.pch
    c).ssiFrame = none ∧ (s.pch c).ssiEnd = none ∧ (s.pch c).ssiStart = none) ∧
  (∃ (s : State) (c : Fin 16) (b : Bool) (e : Nat) (t : Nat), (s.pch c).runs = true ∧ s.posMode c = 3 ∧ s.encB c =
    some b ∧ (s.pch c).ssiFrame = none ∧ (s.pch c).ssiEnd = some e ∧ (s.pch c).ssiStart = some t ∧ e + 1000 * s.get
    (POS_SSI_TIMING_MONO c) ≤ s.tb.ticks ∧ t + 1000 * s.get (POS_SSI_TIMING_PERIOD c) ≤ s.tb.ticks) ∧
  (∃ (s : State) (c : Fin 16), s.encB c = none) ∧
  (∃ (s : State) (c : Fin 16) (t : Nat) (tf : Int), (s.pch c).ssiFrame = some tf ∧ (s.pch c).ssiStart = some t ∧
    s.ssiDone c t ≤ s.tb.ticks ∧ (s.pch c).lvA = false) ∧
  (∃ (s : State) (c : Fin 16) (raw : Nat) (t : Nat) (tf : Int) (x : State), (s.pch c).ssiFrame = some tf ∧ (s.pch
    c).ssiStart = some t ∧ s.ssiDone c t ≤ s.tb.ticks ∧ (s.pch c).lvA = true ∧ s.get (POS_SSI_CFG_PARITY c) = 0 ∧
    s.get (POS_SSI_CFG_ERR_BIT c) = 0 ∧ s.flag (POS_SSI_CFG_GRAY c) = false ∧ (s.pch c).ssiPrev = none ∧ x =
    (((s.modPch c (fun p =>
    { p with ssiFrame := none, ssiEnd := some (t + s.ssiBits c * s.ssiClk c + s.ssiClk c / 2) })).wrS (POS_COUNT c)
    ((raw % 2 ^ s.get (POS_SSI_CFG_BITS c) : Nat) * 2 ^ (16 - min 16 (s.get (POS_SSI_CFG_FRAC_BITS c))))).modPch c
    (fun p => { p with
    ssiPrev := some (raw % 2 ^ s.get (POS_SSI_CFG_BITS c)), ssiFails := 0, ssiJumps := 0, ssiLast := some t }))) ∧
  (∃ (s : State) (c : Fin 16), (s.pch c).runs = true ∧ (s.posMode c = 1 ∨ s.posMode c = 2) ∧ 4 * (s.pch c).interval ≤
    (s.tb.ticks : Int) - (s.pch c).lastUpd) ∧
  (∃ (s : State), s.publishers = []) ∧
  (∃ (s : State), s.publishers ≠ []) ∧
  (∃ (s : State) (c : Fin 16) (d : ObsDue), (s.pch c).runs = true ∧ (s.pch c).due.find? (fun d => decide (d.due ≤
    s.nowI)) = some d) ∧
  (∃ (s : State) (c : Fin 16) (k : Nat), (s.pch c).runs = true ∧ s.posMode c = 4 ∧ (s.pch c).lastFrame = some k ∧
    s.flag (POS_STATUS_STALE c) = false ∧ k + 4000 ≤ s.tb.ticks) ∧
  (∃ (s : State) (c : Fin 16) (k : Nat), (s.pch c).runs = true ∧ s.flag (POS_SILL_CFG_PUBLISH c) = true ∧ s.flag
    (POS_STATUS_CARRIED c) = false ∧ (s.pch c).lastFrame = some k ∧ s.flag (POS_STATUS_STALE c) = false ∧ k + 4000 ≤
    s.tb.ticks) :=
  ⟨
    ⟨((((State.reset.put (POS_CTRL_MODE 3) 3).putB GLOBAL_COMMIT_OUTPUT_COMMIT true).modMc (fun m =>
      { m with encIdle := [(3, true)] })).modPch 3 (fun p => { p with runs := true })), 3, true, by decide +kernel⟩,
    ⟨(((((State.reset.put (POS_CTRL_MODE 3) 3).putB GLOBAL_COMMIT_OUTPUT_COMMIT true).modMc (fun m =>
      { m with encIdle := [(3, true)] })).modPch 3 (fun p =>
      { p with runs := true, ssiEnd := some 1, ssiStart := some 0 })).modTb (fun t => { t with ticks := 2 ^ 40 })),
      3, true, 1, 0, by decide +kernel⟩,
    ⟨(State.reset), 3, by decide +kernel⟩,
    ⟨((State.reset.modPch 3 (fun p => { p with ssiFrame := some 0, ssiStart := some 0, lvA := false })).modTb (fun t
      => { t with ticks := 2 ^ 40 })), 3, 0, 0, by decide +kernel⟩,
    ⟨((State.reset.modPch 3 (fun p => { p with ssiFrame := some 0, ssiStart := some 0, lvA := true })).modTb (fun t
      => { t with ticks := 2 ^ 40 })), 3, 5, 0, 0, (((((State.reset.modPch 3 (fun p =>
      { p with ssiFrame := some 0, ssiStart := some 0, lvA := true })).modTb (fun t =>
      { t with ticks := 2 ^ 40 })).modPch 3 (fun p => { p with
      ssiFrame := none,
      ssiEnd := some (0 + State.reset.ssiBits 3 * State.reset.ssiClk 3 + State.reset.ssiClk 3 / 2) })).wrS (POS_COUNT
      3) ((5 % 2 ^ State.reset.get (POS_SSI_CFG_BITS 3) : Nat) * 2 ^ (16 - min 16 (State.reset.get
      (POS_SSI_CFG_FRAC_BITS 3))))).modPch 3 (fun p => { p with
      ssiPrev := some (5 % 2 ^ State.reset.get (POS_SSI_CFG_BITS 3)), ssiFails := 0, ssiJumps := 0,
      ssiLast := some 0 })), by decide +kernel⟩,
    ⟨((State.reset.put (POS_CTRL_MODE 3) 2).modPch 3 (fun p => { p with runs := true, interval := 0 })), 3,
      by decide +kernel⟩,
    ⟨(State.reset), by decide +kernel⟩,
    ⟨(((State.reset.putB (POS_SILL_CFG_PUBLISH 3) true).put (POS_CTRL_MODE 3) 1).modPch 3 (fun p =>
      { p with runs := true })), by decide +kernel⟩,
    ⟨(State.reset.modPch 3 (fun p => { p with runs := true, due := [⟨0, p.own⟩] })), 3, (⟨0, (State.reset.pch
      3).own⟩), by decide +kernel⟩,
    ⟨(((State.reset.put (POS_CTRL_MODE 3) 4).modPch 3 (fun p => { p with runs := true, lastFrame := some 0 })).modTb
      (fun t => { t with ticks := 4000 })), 3, 0, by decide +kernel⟩,
    ⟨(((State.reset.putB (POS_SILL_CFG_PUBLISH 3) true).modPch 3 (fun p =>
      { p with runs := true, lastFrame := some 0 })).modTb (fun t => { t with ticks := 4000 })), 3, 0,
      by decide +kernel⟩⟩

theorem witness_LaneDetectorsComplete :
  (∃ (s : State) (l : Fin 96), s.flag (LANE_STATUS_LOS l) = false ∧ s.hearsSelf l = false ∧ s.laneState l ≠ 0 ∧
    s.laneState l ≠ 6 ∧ s.laneState l ≠ 7) ∧
  (∃ (s : State) (l : Fin 96), s.flag (LANE_STATUS_LOS l) = false ∧ s.laneState l = 6) ∧
  (∃ (s : State) (l : Fin 96), s.flag (LANE_STATUS_LOS l) = false ∧ (s.laneState l = 0 ∨ s.laneState l = 7)) ∧
  (∃ (s : State) (l : Fin 96), (s.flag (LANE_STATUS_LOS l) = true ∨ s.hearsSelf l = true)) ∧
  (∃ (s : State) (l : Fin 96), s.flag (LANE_STATUS_LOS l) = true ∧ s.laneState l = 7) ∧
  (∃ (s : State) (l : Fin 96), s.flag (LANE_STATUS_LOS l) = true ∧ s.laneState l = 9) ∧
  (∃ (s : State) (l : Fin 96), s.flag (LANE_STATUS_LOS l) = true ∧ s.hearsSelf l = false ∧ s.laneState l ≠ 7 ∧
    s.laneState l ≠ 9) ∧
  (∃ (s : State) (l : Fin 96), (s.flag (LANE_STATUS_LOS l) = false ∨ s.hearsSelf l = true)) ∧
  (∃ (s : State) (l : Fin 96), s.flag (LANE_STATUS_LOL l) = false ∧ s.laneState l ≠ 6) ∧
  (∃ (s : State) (l : Fin 96), s.flag (LANE_STATUS_LOL l) = false ∧ s.laneState l = 6) ∧
  (∃ (s : State) (l : Fin 96), s.laneState l = 6 ∧ (s.lphy l).relock.isSome = true) ∧
  (∃ (s : State) (l : Fin 96), s.laneState l = 8) ∧
  (∃ (s : State) (l : Fin 96), s.laneState l = 9) :=
  ⟨
    ⟨((State.reset.putB (LANE_STATUS_LOS 3) false).setLane 3 1), 3, by decide +kernel⟩,
    ⟨((State.reset.putB (LANE_STATUS_LOS 3) false).setLane 3 6), 3, by decide +kernel⟩,
    ⟨(State.reset.putB (LANE_STATUS_LOS 3) false), 3, by decide +kernel⟩,
    ⟨(State.reset), 3, by decide +kernel⟩,
    ⟨(State.reset.setLane 3 7), 3, by decide +kernel⟩,
    ⟨(State.reset.setLane 3 9), 3, by decide +kernel⟩,
    ⟨(State.reset), 3, by decide +kernel⟩,
    ⟨(State.reset.putB (LANE_STATUS_LOS 3) false), 3, by decide +kernel⟩,
    ⟨(State.reset.putB (LANE_STATUS_LOL 3) false), 3, by decide +kernel⟩,
    ⟨((State.reset.putB (LANE_STATUS_LOL 3) false).setLane 3 6), 3, by decide +kernel⟩,
    ⟨((State.reset.setLane 3 6).modPhy 3 (fun x => { x with relock := some 0 })), 3, by decide +kernel⟩,
    ⟨(State.reset.setLane 3 8), 3, by decide +kernel⟩,
    ⟨(State.reset.setLane 3 9), 3, by decide +kernel⟩⟩

theorem witness_LaneLocksComplete :
  (∃ (s : State) (l : Fin 96), s.laneState l = 1 ∧ s.flag (LANE_TEST_EN l) = false) ∧
  (∃ (s : State) (l : Fin 96) (x : State), s.laneState l = 1 ∧ s.flag (LANE_TEST_EN l) = true ∧ x = ((s.putB
    (LANE_STATUS_PLL_LOCK l) true).setLane l 10).latch [LANE_TRAIN_CFG l]) ∧
  (∃ (s : State) (l : Fin 96), s.laneState l ≠ 0) ∧
  (∃ (s : State) (l : Fin 96), s.laneState l = 0) ∧
  (∃ (s : State) (l : Fin 96) (x : State), 2 ≤ s.laneState l ∧ s.laneState l < 9 ∧ s.flag (LANE_STATUS_BLOCK_LOCK l)
    = false ∧ x = (s.putB (LANE_STATUS_BLOCK_LOCK l) true).modPhy l (fun x =>
    { x with alignSeen := false, alignMiss := 0 }) ∧ x.laneEth l = false) ∧
  (∃ (s : State) (l : Fin 96) (x : State), s.laneState l = 2 ∧ s.flag (LANE_STATUS_BLOCK_LOCK l) = false ∧ x =
    (s.putB (LANE_STATUS_BLOCK_LOCK l) true).modPhy l (fun x => { x with alignSeen := false, alignMiss := 0 }) ∧
    x.laneEth l = true ∧ x.laneState l = 2 ∧ x.get (ETH_CFG_FEC l) = 0) ∧
  (∃ (s : State) (l : Fin 96) (n : Nat), s.flag (LANE_STATUS_BLOCK_LOCK l) = true ∧ 16 ≤ n) ∧
  (∃ (s : State) (l : Fin 96) (n : Nat), s.flag (LANE_STATUS_BLOCK_LOCK l) = true ∧ n < 16) ∧
  (∃ (s : State) (l : Fin 96) (x : State), s.flag (LANE_STATUS_ALIGN_LOCK l) = true ∧ s.laneState l = 6 ∧ s.bondW l =
    1 ∧ s.laneEth l = false ∧ x = (s.laneEvent l 7).modPhy l (fun x => { x with alignMiss := x.alignMiss + 1 }) ∧
    (x.lphy l).alignMiss < 3) ∧
  (∃ (s : State) (l : Fin 96), s.flag (LANE_STATUS_ALIGN_LOCK l) = true ∧ s.laneEth l = false ∧ s.laneState l ≠ 7 ∧
    s.laneState l ≠ 8) ∧
  (∃ (s : State) (l : Fin 96), 6 ≤ s.laneState l ∧ s.laneState l < 9 ∧ s.lanePers l = 1 ∧ s.flag (LANE_TEST_INJECT l)
    = false ∧ (s.lphy l).txSwitch = none) ∧
  (∃ (s : State) (l : Fin 96), s.laneState l = 6 ∧ s.lanePers l = 1 ∧ s.flag (LANE_TEST_INJECT l) = true ∧ s.get
    (LANE_TEST_INJ_MODE l) = 4 ∧ (s.lphy l).txSwitch = none) ∧
  (∃ (s : State) (l : Fin 96), 2 ≤ s.laneState l ∧ s.laneState l ≤ 5 ∧ s.lanePers l = 1 ∧ s.flag (LANE_TEST_INJECT l)
    = false ∧ (s.lphy l).txSwitch = none) ∧
  (∃ (s : State) (l : Fin 96) (g : Nat), 2 ≤ s.laneState l ∧ s.laneState l ≤ 5 ∧ s.lanePers l = 1 ∧ s.flag
    (LANE_TEST_INJECT l) = false ∧ (s.lphy l).txSwitch = some g) ∧
  (∃ (s : State) (l : Fin 96), s.laneState l = 6 ∧ s.flag (LANE_STATUS_FROZEN l) = false ∧ (s.lphy l).idleRun = 0 ∧
    s.flag (LANE_STATUS_BLOCK_LOCK l) = true ∧ s.flag (LANE_STATUS_ALIGN_LOCK l) = true ∧ (s.lphy l).pers = 1 ∧
    s.bondW l = 1 ∧ (s.lphy l).rxSwitch = none) ∧
  (∃ (s : State) (l : Fin 96), s.laneState l = 6 ∧ s.flag (LANE_STATUS_FROZEN l) = false ∧ (s.lphy l).idleRun = 0 ∧
    s.flag (LANE_STATUS_BLOCK_LOCK l) = true ∧ s.flag (LANE_STATUS_ALIGN_LOCK l) = true ∧ (s.lphy l).pers = 1) ∧
  (∃ (s : State) (l : Fin 96), s.hearsAlign l = false) :=
  ⟨
    ⟨(State.reset.setLane 3 1), 3, by decide +kernel⟩,
    ⟨((State.reset.setLane 3 1).putB (LANE_TEST_EN 3) true), 3, (((((State.reset.setLane 3 1).putB (LANE_TEST_EN 3)
      true).putB (LANE_STATUS_PLL_LOCK 3) true).setLane 3 10).latch [LANE_TRAIN_CFG 3]), by decide +kernel⟩,
    ⟨(State.reset.setLane 3 6), 3, by decide +kernel⟩,
    ⟨(State.reset), 3, by decide +kernel⟩,
    ⟨((State.reset.setLane 3 2).modPhy 3 (fun x => { x with pers := 1 })), 3, ((((State.reset.setLane 3 2).modPhy 3
      (fun x => { x with pers := 1 })).putB (LANE_STATUS_BLOCK_LOCK 3) true).modPhy 3 (fun x =>
      { x with alignSeen := false, alignMiss := 0 })), by decide +kernel⟩,
    ⟨((State.reset.setLane 3 2).modPhy 3 (fun x => { x with pers := 2 })), 3, ((((State.reset.setLane 3 2).modPhy 3
      (fun x => { x with pers := 2 })).putB (LANE_STATUS_BLOCK_LOCK 3) true).modPhy 3 (fun x =>
      { x with alignSeen := false, alignMiss := 0 })), by decide +kernel⟩,
    ⟨(State.reset.putB (LANE_STATUS_BLOCK_LOCK 3) true), 3, 16, by decide +kernel⟩,
    ⟨(State.reset.putB (LANE_STATUS_BLOCK_LOCK 3) true), 3, 15, by decide +kernel⟩,
    ⟨(((State.reset.setLane 3 6).putB (LANE_STATUS_ALIGN_LOCK 3) true).modPhy 3 (fun x => { x with pers := 1 })), 3,
      (((((State.reset.setLane 3 6).putB (LANE_STATUS_ALIGN_LOCK 3) true).modPhy 3 (fun x =>
      { x with pers := 1 })).laneEvent 3 7).modPhy 3 (fun x => { x with alignMiss := x.alignMiss + 1 })),
      by decide +kernel⟩,
    ⟨(((State.reset.setLane 3 6).putB (LANE_STATUS_ALIGN_LOCK 3) true).modPhy 3 (fun x =>
      { x with pers := 1, alignMiss := 2 })), 3, by decide +kernel⟩,
    ⟨((State.reset.setLane 3 6).modPhy 3 (fun x => { x with pers := 1 })), 3, by decide +kernel⟩,
    ⟨(((((State.reset.setLane 3 6).putB (LANE_TEST_INJECT 3) true).put (LANE_TEST_INJ_MODE 3) 4).modPhy 3 (fun x =>
      { x with pers := 1 }))), 3, by decide +kernel⟩,
    ⟨((State.reset.setLane 3 2).modPhy 3 (fun x => { x with pers := 1 })), 3, by decide +kernel⟩,
    ⟨((State.reset.setLane 3 4).modPhy 3 (fun x => { x with pers := 1, txSwitch := some 1 })), 3, 1,
      by decide +kernel⟩,
    ⟨((((State.reset.setLane 3 6).putB (LANE_STATUS_BLOCK_LOCK 3) true).putB (LANE_STATUS_ALIGN_LOCK 3) true).modPhy
      3 (fun x => { x with pers := 1 })), 3, by decide +kernel⟩,
    ⟨((((State.reset.setLane 3 6).putB (LANE_STATUS_BLOCK_LOCK 3) true).putB (LANE_STATUS_ALIGN_LOCK 3) true).modPhy
      3 (fun x => { x with pers := 1 })), 3, by decide +kernel⟩,
    ⟨(State.reset), 3, by decide +kernel⟩⟩

theorem witness_LaneTrainingComplete :
  (∃ (s : State) (l : Fin 96), s.laneEth l = false ∧ 2 ≤ s.laneState l ∧ s.laneState l ≤ 5 ∧ (s.laneState l ≠ 4 ∨
    (s.lphy l).lat = true ∨ (s.lphy l).txSwitch.isSome = true ∨ (s.lphy l).rxSwitch.isSome = true)) ∧
  (∃ (s : State) (l : Fin 96), s.laneState l = 4 ∧ s.laneEth l = false ∧ (s.lphy l).lat = false ∧ (s.lphy l).txSwitch
    = none ∧ (s.lphy l).byStep = true ∧ (s.lphy l).ready = true) ∧
  (∃ (s : State) (l : Fin 96), s.laneState l = 4 ∧ s.laneEth l = false ∧ (s.lphy l).lat = false ∧ (s.lphy l).txSwitch
    = none ∧ (s.lphy l).byStep = true ∧ (s.lphy l).ready = false) ∧
  (∃ (s : State) (l : Fin 96), s.laneState l = 4 ∧ s.laneEth l = false ∧ (s.lphy l).lat = false ∧ (s.lphy l).txSwitch
    = none ∧ (s.lphy l).byStep = false) ∧
  (∃ (s : State) (l : Fin 96), s.laneState l = 4 ∧ s.laneEth l = false ∧ (s.lphy l).partnerReady = true ∧ (s.lphy
    l).ready = false ∧ (s.lphy l).txSwitch = none ∧ (s.lphy l).byStep = true) ∧
  (∃ (s : State) (l : Fin 96), s.laneState l = 4 ∧ s.laneEth l = false ∧ (s.lphy l).partnerReady = true ∧ (s.lphy
    l).ready = false ∧ (s.lphy l).txSwitch = none ∧ (s.lphy l).byStep = false) ∧
  (∃ (s : State) (l : Fin 96) (v : Nat) (h : Nat), s.laneState l = 4 ∧ s.laneEth l = false ∧ s.get
    (LANE_TRAIN_CFG_MARGIN_V l) ≤ v ∧ s.get (LANE_TRAIN_CFG_MARGIN_H l) ≤ h) ∧
  (∃ (s : State) (l : Fin 96) (b : Block), s.laneState l = 6 ∧ s.rxOpen l = true ∧ s.lanePers l = 1 ∧ s.flag
    (LANE_STATUS_BLOCK_LOCK l) = true ∧ s.flag (LANE_STATUS_FROZEN l) = false ∧ (s.lphy l).idleRun = 0 ∧ blockByte b
    0 = 0x20 ∧ checkOk b = true) ∧
  (∃ (s : State) (l : Fin 96) (b : Block), 2 ≤ s.laneState l ∧ s.laneState l ≤ 5 ∧ s.lanePers l = 1 ∧ s.flag
    (LANE_STATUS_BLOCK_LOCK l) = true ∧ s.flag (LANE_STATUS_FROZEN l) = false ∧ (s.lphy l).idleRun = 0 ∧ blockByte b
    0 = 0x20 ∧ checkOk b = true) ∧
  (∃ (s : State) (l : Fin 96) (b : Block), 2 ≤ s.laneState l ∧ s.laneState l ≤ 5 ∧ s.lanePers l = 1 ∧ s.flag
    (LANE_STATUS_BLOCK_LOCK l) = true ∧ s.flag (LANE_STATUS_FROZEN l) = false ∧ (s.lphy l).idleRun = 0 ∧ blockByte b
    0 = 0x20 ∧ checkOk b = false) ∧
  (∃ (s : State) (l : Fin 96) (v : Nat) (h : Nat) (ctle : Nat) (dfe : Word) (x : State), s.laneState l = 6 ∧ x =
    s.eyeTake l v h ctle dfe ∧ x.get (LANE_TRAIN_CFG_MARGIN_V l) ≤ v ∧ x.get (LANE_TRAIN_CFG_MARGIN_H l) ≤ h) ∧
  (∃ (s : State) (l : Fin 96) (v : Nat) (h : Nat) (ctle : Nat) (dfe : Word) (x : State), s.laneState l = 6 ∧ x =
    s.eyeTake l v h ctle dfe ∧ (v < x.get (LANE_TRAIN_CFG_MARGIN_V l) ∨ h < x.get (LANE_TRAIN_CFG_MARGIN_H l)) ∧
    (x.lphy l).lowChecks < 2) ∧
  (∃ (s : State) (l : Fin 96) (v : Nat) (h : Nat) (ctle : Nat) (dfe : Word) (x : State), s.laneState l = 6 ∧ x =
    s.eyeTake l v h ctle dfe ∧ (v < x.get (LANE_TRAIN_CFG_MARGIN_V l) ∨ h < x.get (LANE_TRAIN_CFG_MARGIN_H l)) ∧ 2 ≤
    (x.lphy l).lowChecks ∧ x.laneEth l = false) ∧
  (∃ (s : State) (l : Fin 96) (v : Nat) (h : Nat) (ctle : Nat) (dfe : Word) (x : State), s.laneState l = 6 ∧ x =
    s.eyeTake l v h ctle dfe ∧ (v < x.get (LANE_TRAIN_CFG_MARGIN_V l) ∨ h < x.get (LANE_TRAIN_CFG_MARGIN_H l)) ∧ 2 ≤
    (x.lphy l).lowChecks ∧ x.laneEth l = true) ∧
  (∃ (s : State) (l : Fin 96), s.laneState l = 6 ∧ s.flag (LANE_CTRL_FREEZE_DIS l) = false ∧ (s.laneEth l = true ∨
    4096 ≤ (s.lphy l).idleRun)) :=
  ⟨
    ⟨((State.reset.setLane 3 2).modPhy 3 (fun x => { x with pers := 1 })), 3, by decide +kernel⟩,
    ⟨((State.reset.setLane 3 4).modPhy 3 (fun x => { x with pers := 1, byStep := true, ready := true })), 3,
      by decide +kernel⟩,
    ⟨((State.reset.setLane 3 4).modPhy 3 (fun x => { x with pers := 1, byStep := true })), 3, by decide +kernel⟩,
    ⟨((State.reset.setLane 3 4).modPhy 3 (fun x => { x with pers := 1 })), 3, by decide +kernel⟩,
    ⟨((State.reset.setLane 3 4).modPhy 3 (fun x => { x with pers := 1, partnerReady := true, byStep := true })), 3,
      by decide +kernel⟩,
    ⟨((State.reset.setLane 3 4).modPhy 3 (fun x => { x with pers := 1, partnerReady := true })), 3,
      by decide +kernel⟩,
    ⟨((State.reset.setLane 3 4).modPhy 3 (fun x => { x with pers := 1 })), 3, 1000, 1000, by decide +kernel⟩,
    ⟨((((State.reset.setLane 3 6).putB (LANE_STATUS_BLOCK_LOCK 3) true).putB (LANE_STATUS_ALIGN_LOCK 3) true).modPhy
      3 (fun x => { x with pers := 1 })), 3, (ctlBlock 0x20 []), by decide +kernel⟩,
    ⟨(((State.reset.setLane 3 2).putB (LANE_STATUS_BLOCK_LOCK 3) true).modPhy 3 (fun x => { x with pers := 1 })), 3,
      (ctlBlock 0x20 []), by decide +kernel⟩,
    ⟨(((State.reset.setLane 3 2).putB (LANE_STATUS_BLOCK_LOCK 3) true).modPhy 3 (fun x => { x with pers := 1 })), 3,
      0x20, by decide +kernel⟩,
    ⟨(State.reset.setLane 3 6), 3, 1000, 1000, 1, 0, ((State.reset.setLane 3 6).eyeTake 3 1000 1000 1 0),
      by decide +kernel⟩,
    ⟨(State.reset.setLane 3 6), 3, 0, 1000, 1, 0, ((State.reset.setLane 3 6).eyeTake 3 0 1000 1 0),
      by decide +kernel⟩,
    ⟨((State.reset.setLane 3 6).modPhy 3 (fun x => { x with pers := 1, lowChecks := 2 })), 3, 1000, 0, 1, 0,
      (((State.reset.setLane 3 6).modPhy 3 (fun x => { x with pers := 1, lowChecks := 2 })).eyeTake 3 1000 0 1 0),
      by decide +kernel⟩,
    ⟨((State.reset.setLane 3 6).modPhy 3 (fun x => { x with pers := 2, lowChecks := 2 })), 3, 1000, 0, 1, 0,
      (((State.reset.setLane 3 6).modPhy 3 (fun x => { x with pers := 2, lowChecks := 2 })).eyeTake 3 1000 0 1 0),
      by decide +kernel⟩,
    ⟨((State.reset.setLane 3 6).modPhy 3 (fun x => { x with pers := 1, idleRun := 4096 })), 3, by decide +kernel⟩⟩

theorem witness_LaneIdleAndTestComplete :
  (∃ (s : State) (b : Block), blockByte b 0 = 0x58 ∧ checkOk b = true) ∧
  (∃ (s : State) (b : Block), blockByte b 0 = 0x58 ∧ checkOk b = false) ∧
  (∃ (s : State) (l : Fin 96) (b : Block), s.laneState l = 6 ∧ s.tenUp l = true ∧ s.rxOpen l = true ∧ s.flag
    (LANE_STATUS_FROZEN l) = false ∧ (s.lphy l).idleRun = 0 ∧ s.bondW l = 1 ∧ blockByte b 0 = 0x58 ∧ checkOk b =
    true) ∧
  (∃ (s : State) (l : Fin 96) (n : Nat) (x : State), n ≠ 0 ∧ s.rxOpen l = true ∧ s.laneState l = 6 ∧ x = s.rxArrive l
    (.idle n)) ∧
  (∃ (s : State) (l : Fin 96) (n : Nat), s.receivesAlone l ∧ n ≠ 0) ∧
  (∃ (s : State) (l : Fin 96) (n : Nat) (e : Nat) (x : State) (y : State), x = (s.generate l).modPhy l (fun p =>
    { p with inverted := 0 }) ∧ x.checks l = true ∧ (s.generate l).hearsSelf l = false ∧ (x.lphy l).chkOn = true ∧ y
    = x.modPhy l (fun p => { p with chkBits := p.chkBits + n, chkErrs := p.chkErrs + e })) ∧
  (∃ (s : State) (l : Fin 96) (x : State), x = (s.generate l).modPhy l (fun p => { p with inverted := 0 }) ∧ x.checks
    l = false) ∧
  (∃ (s : State) (l : Fin 96), s.canLock l = true ∧ (s.lphy l).chkOn = false) ∧
  (∃ (s : State) (l : Fin 96), s.canLock l = true ∧ (s.lphy l).chkOn = true) ∧
  (∃ (s : State) (l : Fin 96), s.canLock l = true) :=
  ⟨
    ⟨(State.reset), (ctlBlock 0x58 []), by decide +kernel⟩,
    ⟨(State.reset), 0x58, by decide +kernel⟩,
    ⟨tenonUpState, 3, (ctlBlock 0x58 []), by decide +kernel⟩,
    ⟨tenonUpState, 3, 5, (tenonUpState.rxArrive 3 (.idle 5)), by decide +kernel⟩,
    ⟨tenonUpState, 3, 1, by decide +kernel⟩,
    ⟨(((State.reset.setLane 3 10).put (LANE_TEST_CHK_PATTERN 3) 1).modPhy 3 (fun x => { x with chkOn := true })), 3,
      1, 1, (((((State.reset.setLane 3 10).put (LANE_TEST_CHK_PATTERN 3) 1).modPhy 3 (fun x =>
      { x with chkOn := true })).generate 3).modPhy 3 (fun p => { p with inverted := 0 })), ((((((State.reset.setLane
      3 10).put (LANE_TEST_CHK_PATTERN 3) 1).modPhy 3 (fun x => { x with chkOn := true })).generate 3).modPhy 3 (fun
      p => { p with inverted := 0 })).modPhy 3 (fun p =>
      { p with chkBits := p.chkBits + 1, chkErrs := p.chkErrs + 1 })), by decide +kernel⟩,
    ⟨(State.reset), 3, ((State.reset.generate 3).modPhy 3 (fun p => { p with inverted := 0 })), by decide +kernel⟩,
    ⟨((State.reset.setLane 3 10).put (LANE_TEST_CHK_PATTERN 3) 1), 3, by decide +kernel⟩,
    ⟨(((State.reset.setLane 3 10).put (LANE_TEST_CHK_PATTERN 3) 6).modPhy 3 (fun x => { x with chkOn := true })), 3,
      by decide +kernel⟩,
    ⟨((State.reset.setLane 3 10).put (LANE_TEST_CHK_PATTERN 3) 1), 3, by decide +kernel⟩⟩

theorem witness_TenonTilesComplete :
  (∃ (s : State) (b : Block), blockByte b 0 = 0x30 ∧ checkOk b = true) ∧
  (∃ (s : State) (b : Block), blockByte b 0 = 0x30 ∧ checkOk b = false) ∧
  (∃ (s : State) (l : Fin 96) (b : Block), s.receivesAlone l ∧ s.betweenTiles l ∧ (s.lten l).hdrIn = 0 ∧ (s.lten
    l).items = [] ∧ (s.lten l).asm_ = none ∧ blockByte b 0 = 0x30 ∧ checkOk b = true) ∧
  (∃ (s : State) (l : Fin 96) (bl : List Block), (s.lten (s.boss l)).hdr = some bl ∧ bl.length = 8 ∧ crc32c
    ((bl.flatMap blockBytes).take 60) ≠ bytesAt (bl.flatMap blockBytes) 60 4) ∧
  (∃ (s : State) (l : Fin 96) (bl : List Block) (o : Nat), (s.lten (s.boss l)).hdr = some bl ∧ bl.length = 8 ∧ crc32c
    ((bl.flatMap blockBytes).take 60) = bytesAt (bl.flatMap blockBytes) 60 4 ∧ (s.lten (s.boss l)).asm_ = none ∧
    headerFault (bl.flatMap blockBytes) (s.laneFmt (s.boss l)) (s.linePixels (s.boss l)) none = some o) ∧
  (∃ (s : State) (l : Fin 96) (bl : List Block), (s.lten (s.boss l)).hdr = some bl ∧ bl.length = 8 ∧ crc32c
    ((bl.flatMap blockBytes).take 60) = bytesAt (bl.flatMap blockBytes) 60 4 ∧ (s.lten (s.boss l)).asm_ = none ∧
    headerFault (bl.flatMap blockBytes) (s.laneFmt (s.boss l)) (s.linePixels (s.boss l)) none = none ∧ (s.outstanding
    (s.boss l)).find? (fun (u : Trigger) => u.id == (headerOf (bl.flatMap blockBytes)).trigId) = none) ∧
  (∃ (s : State) (l : Fin 96) (bl : List Block) (u : Trigger) (x : State), (s.lten (s.boss l)).hdr = some bl ∧
    bl.length = 8 ∧ crc32c ((bl.flatMap blockBytes).take 60) = bytesAt (bl.flatMap blockBytes) 60 4 ∧ (s.lten (s.boss
    l)).asm_ = none ∧ headerFault (bl.flatMap blockBytes) (s.laneFmt (s.boss l)) (s.linePixels (s.boss l)) none =
    none ∧ (headerOf (bl.flatMap blockBytes)).dropped = 0 ∧ (s.outstanding (s.boss l)).head? = some u ∧ u.id =
    (headerOf (bl.flatMap blockBytes)).trigId ∧ x = (((s.modTen (s.boss l) (fun y => { y with
    asm_ := some ⟨u.id, (headerOf (bl.flatMap blockBytes)).count, 0, 0, s.tagOf u u.tc true, [], false⟩ })).modTen
    (s.boss l) (fun y =>
    { y with hdr := none, hdrIn := 0, wait := some (headerOf (bl.flatMap blockBytes)) })).queuePut (s.boss l) (8 -
    (s.lten (s.boss l)).hdrIn)).tryAccept (s.boss l) ∧ (x.lten (s.boss l)).wait = none) ∧
  (∃ (s : State) (l : Fin 96) (bl : List Block), (s.lten (s.boss l)).hdr = some bl ∧ bl.length < 8) ∧
  (∃ (s : State) (l : Fin 96) (h : TileHdr) (x : State), s.laneEth l = false ∧ (s.lten (s.boss l)).fills = [] ∧
    (s.lten (s.boss l)).wait = some h ∧ x = s.tryAccept (s.boss l) ∧ (x.lten (s.boss l)).wait = none ∧ (x.lten
    (s.boss l)).items = []) ∧
  (∃ (s : State) (l : Fin 96) (h : TileHdr) (a : LineAsm), s.laneEth l = false ∧ (s.lten (s.boss l)).fills = [] ∧
    (s.lten (s.boss l)).wait = some h ∧ (s.lten (s.boss l)).asm_ = some a ∧ s.entryFor (s.laneStreams (s.boss l)) =
    none) ∧
  (∃ (s : State) (l : Fin 96), s.laneEth l = true ∧ (s.lten l).fills = []) ∧
  (∃ (s : State) (l : Fin 96) (h : List Block), s.receivesAlone l ∧ (s.lten l).cur = none ∧ (s.lten l).wait = none ∧
    (s.lten l).hdr = some h ∧ h.length < 8 ∧ (decide (sext 16 (trunc 16 (((s.lten l).limitSent : Int) - ceilDiv
    ((s.lten l).received + 1) 32)) < 0)) = false) ∧
  (∃ (s : State) (l : Fin 96), s.receivesAlone l ∧ s.betweenTiles l) ∧
  (∃ (s : State) (b : Block), blockByte b 0 = 0x31 ∧ checkOk b = true) ∧
  (∃ (s : State) (b : Block), blockByte b 0 = 0x31 ∧ checkOk b = false) ∧
  (∃ (s : State) (l : Fin 96) (b : Block), s.receivesAlone l ∧ s.betweenTiles l ∧ blockByte b 0 = 0x31 ∧ checkOk b =
    true) ∧
  (∃ (s : State) (l : Fin 96) (b : Block) (n : Nat) (u : Tile), s.receivesAlone l ∧ (s.lten l).hdr = none ∧ (s.lten
    l).wait = none ∧ (s.lten l).cur = some n ∧ (s.lten l).excess = false ∧ s.tile n = some u ∧ ceilDiv u.bytes 8 ≤
    (s.lten l).payload ∧ crc32c u.raw = getBits b.toNat 16 32 ∧ bit (blockByte b 1) 0 = false ∧ blockByte b 0 = 0x31
    ∧ checkOk b = true) ∧
  (∃ (s : State) (l : Fin 96) (b : Block), checkOk b = false ∧ s.lanePers l = 1 ∧ s.flag (LANE_STATUS_BLOCK_LOCK l) =
    true ∧ s.receivesAlone l) ∧
  (∃ (s : State) (l : Fin 96) (b : Block), checkOk b = false ∧ s.lanePers l = 1 ∧ 2 ≤ s.laneState l ∧ s.laneState l ≤
    5 ∧ s.flag (LANE_STATUS_BLOCK_LOCK l) = true) ∧
  (∃ (s : State) (b : Block), checkOk b = true) :=
  ⟨
    ⟨(State.reset), (ctlBlock 0x30 []), by decide +kernel⟩,
    ⟨(State.reset), 0x30, by decide +kernel⟩,
    ⟨tenonUpState, 3, (ctlBlock 0x30 []), by decide +kernel⟩,
    ⟨(tenonUpState.modTen 3 (fun x => { x with hdr := some (List.replicate 8 0) })), 3, (List.replicate 8 0),
      by decide +kernel⟩,
    ⟨((tenonUpState.put (TENON_CFG_LINE_PIXELS 3) 9 |>.latch [TENON_CFG 3]).modTen 3 (fun x =>
      { x with hdr := some goodHeader })), 3, goodHeader, 20, by decide +kernel⟩,
    ⟨(tenonUpState.modTen 3 (fun x => { x with hdr := some goodHeader })), 3, goodHeader, by decide +kernel⟩,
    ⟨((tenonUpState.modTen 3 (fun x => { x with hdr := some goodHeader })).modTrigs (fun _ =>
      [{ sampleTrigger 0 1 with out := 3, sent := true }])), 3, goodHeader,
      ({ sampleTrigger 0 1 with out := 3, sent := true }), ((((((tenonUpState.modTen 3 (fun x =>
      { x with hdr := some goodHeader })).modTrigs (fun _ =>
      [{ sampleTrigger 0 1 with out := 3, sent := true }])).modTen 3 (fun y => { y with
      asm_ := some ⟨0, (headerOf (goodHeader.flatMap blockBytes)).count, 0, 0, ((tenonUpState.modTen 3 (fun x => { x with hdr := some goodHeader })).modTrigs (fun _ => [{ sampleTrigger 0 1 with out := 3, sent := true }])).tagOf { sampleTrigger 0 1 with out := 3, sent := true } 0 true, [], false⟩ })).modTen
      3 (fun y => { y with
      hdr := none, hdrIn := 0, wait := some (headerOf (goodHeader.flatMap blockBytes)) })).queuePut 3 8).tryAccept
      3), by decide +kernel⟩,
    ⟨(tenonUpState.modTen 3 (fun x => { x with hdr := some [0] })), 3, [0], by decide +kernel⟩,
    ⟨(tenonUpState.modTen 3 (fun x => { x with
      wait := some ⟨false, 0, 0, 1, 0, 8, 8, 0, 0, 0⟩,
      asm_ := some ⟨0, 1, 0, 0, tenonUpState.tagOf (sampleTrigger 0 1) 0 true, [], false⟩ })), 3, (⟨false, 0, 0, 1,
      0, 8, 8, 0, 0, 0⟩), ((tenonUpState.modTen 3 (fun x => { x with
      wait := some ⟨false, 0, 0, 1, 0, 8, 8, 0, 0, 0⟩,
      asm_ := some ⟨0, 1, 0, 0, tenonUpState.tagOf (sampleTrigger 0 1) 0 true, [], false⟩ })).tryAccept 3),
      by decide +kernel⟩,
    ⟨((tenonUpState.modTen 3 (fun x => { x with
      wait := some ⟨false, 0, 0, 1, 0, 8, 8, 0, 0, 0⟩,
      asm_ := some ⟨0, 1, 0, 0, tenonUpState.tagOf (sampleTrigger 0 1) 0 true, [], false⟩ })).put DLV_LEDGER_RES_N
      131072), 3, (⟨false, 0, 0, 1, 0, 8, 8, 0, 0, 0⟩), (⟨0, 1, 0, 0, tenonUpState.tagOf (sampleTrigger 0 1) 0 true,
      [], false⟩), by decide +kernel⟩,
    ⟨ethBlockState, 3, by decide +kernel⟩,
    ⟨(tenonUpState.modTen 3 (fun x => { x with hdr := some [0], limitSent := 16 })), 3, [0], by decide +kernel⟩,
    ⟨tenonUpState, 3, by decide +kernel⟩,
    ⟨(State.reset), (ctlBlock 0x31 []), by decide +kernel⟩,
    ⟨(State.reset), 0x31, by decide +kernel⟩,
    ⟨tenonUpState, 3, (ctlBlock 0x31 []), by decide +kernel⟩,
    ⟨((tenonUpState.modTen 3 (fun x => { x with cur := some 1 })).modLedger (fun _ =>
      ⟨[{ Tile.blank with num := 1, lane := 3 }], 2, []⟩)), 3, (ctlBlock 0x31 (toBytes 1 0 ++ toBytes 4 (crc32c
      []))), 1, ({ Tile.blank with num := 1, lane := 3 }), by decide +kernel⟩,
    ⟨tenonUpState, 3, 0x30, by decide +kernel⟩,
    ⟨(((State.reset.setLane 3 2).putB (LANE_STATUS_BLOCK_LOCK 3) true).modPhy 3 (fun x => { x with pers := 1 })), 3,
      0x30, by decide +kernel⟩,
    ⟨(State.reset), (ctlBlock 0x30 []), by decide +kernel⟩⟩

theorem witness_TenonTilesComplete_2 :
  (∃ (s : State) (b : Block), blockByte b 0 ∉ cameraTypes ∧ checkOk b = true) ∧
  (∃ (s : State) (b : Block), blockByte b 0 ∉ cameraTypes ∧ checkOk b = false) ∧
  (∃ (s : State) (l : Fin 96) (b : Block), s.receivesAlone l ∧ s.betweenTiles l ∧ blockByte b 0 ∉ cameraTypes ∧
    checkOk b = true) :=
  ⟨
    ⟨(State.reset), (ctlBlock 0x11 []), by decide +kernel⟩,
    ⟨(State.reset), 0x11, by decide +kernel⟩,
    ⟨tenonUpState, 3, (ctlBlock 0x11 []), by decide +kernel⟩⟩

theorem witness_TenonControlComplete :
  (∃ (s : State) (b : Block), blockByte b 0 = 0x7F ∧ checkOk b = true) ∧
  (∃ (s : State) (b : Block), blockByte b 0 = 0x7F ∧ checkOk b = false) ∧
  (∃ (s : State) (l : Fin 96) (b : Block), s.receivesAlone l ∧ s.betweenTiles l ∧ blockByte b 0 = 0x7F ∧ checkOk b =
    true) ∧
  (∃ (s : State) (l : Fin 96), s.tenUp l = true ∧ s.boss l = l.val) ∧
  (∃ (s : State) (l : Fin 96) (b : Block) (o : Int), s.lanePers l = 1 ∧ s.flag (LANE_STATUS_BLOCK_LOCK l) = true ∧
    (s.lphy l).lat = true ∧ blockByte b 0 = 0x61 ∧ checkOk b = true ∧ (s.lten l).probeOut = some o ∧ (s.lten
    l).probeNum = blockByte b 1) ∧
  (∃ (s : State) (l : Fin 96) (b : Block), s.lanePers l = 1 ∧ s.flag (LANE_STATUS_BLOCK_LOCK l) = true ∧ (s.lphy
    l).lat = true ∧ blockByte b 0 = 0x61 ∧ checkOk b = false) ∧
  (∃ (s : State) (l : Fin 96) (b : Block) (o : Int), s.receivesAlone l ∧ s.betweenTiles l ∧ s.lanePers l = 1 ∧ s.flag
    (LANE_STATUS_BLOCK_LOCK l) = true ∧ (s.lphy l).lat = false ∧ blockByte b 0 = 0x61 ∧ checkOk b = true ∧ (s.lten
    l).probeOut = some o ∧ (s.lten l).probeNum = blockByte b 1) ∧
  (∃ (s : State) (l : Fin 96), (s.lten l).probeOut.isSome = true ∧ (s.tenUp l = true ∨ (s.lphy l).lat = true)) ∧
  (∃ (s : State) (l : Fin 96), (s.lphy l).lat = true) ∧
  (∃ (s : State) (l : Fin 96), s.tenUp l = true ∧ s.boss l = l.val ∧ s.flagT l (TENON_CFG_LAT_TRACK l) = true) ∧
  (∃ (s : State) (l : Fin 96) (skew : Nat), s.bondReady (s.boss l) = true ∧ (∀ m ∈ s.members (s.boss l), 256 ≤
    (s.lphy m).rxAlignInfo ∧ (s.lphy m).rxAlignInfo / 16 = (s.lphy (s.boss l)).rxAlignInfo / 16) ∧ skew ≤ 32) ∧
  (∃ (s : State) (l : Fin 96) (skew : Nat), s.bondReady (s.boss l) = true ∧ (∀ m ∈ s.members (s.boss l), 256 ≤
    (s.lphy m).rxAlignInfo ∧ (s.lphy m).rxAlignInfo / 16 = (s.lphy (s.boss l)).rxAlignInfo / 16) ∧ 32 < skew) ∧
  (∃ (s : State) (l : Fin 96), s.bondReady (s.boss l) = true) ∧
  (∃ (s : State) (l : Fin 96) (x : State), s.held = false ∧ s.boss l = l.val ∧ (s.lten l).ctrl = none ∧ s.flag
    (TENON_CTRL_CMD_WRITE l) = false ∧ x = ((s.modTen l (fun x => { x with
    ctrl := some ((s.lten l).nextTag, s.get (TENON_CTRL_ADDR_ADDR l), false),
    nextTag := ((s.lten l).nextTag + 1) % 256 })).putB (TENON_CTRL_CMD_GO l) true).putBond l TENON_STATUS_CTRL_BUSY 1
    ∧ x.tenUp l = true) ∧
  (∃ (s : State) (l : Fin 96) (x : State), s.held = false ∧ s.boss l = l.val ∧ (s.lten l).ctrl = none ∧ x =
    ((s.modTen l (fun x => { x with
    ctrl := some ((s.lten l).nextTag, s.get (TENON_CTRL_ADDR_ADDR l), s.flag (TENON_CTRL_CMD_WRITE l)),
    nextTag := ((s.lten l).nextTag + 1) % 256 })).putB (TENON_CTRL_CMD_GO l) true).putBond l TENON_STATUS_CTRL_BUSY 1
    ∧ x.tenUp l = false) ∧
  (∃ (s : State) (l : Fin 96), s.held = false ∧ s.boss l = l.val ∧ (s.lten l).ctrl.isSome = true) ∧
  (∃ (s : State) (b : Block), blockByte b 0 = 0x72 ∧ checkOk b = true) ∧
  (∃ (s : State) (b : Block), blockByte b 0 = 0x72 ∧ checkOk b = false) ∧
  (∃ (s : State) (l : Fin 96) (b : Block) (tg : Nat) (a : Nat), s.receivesAlone l ∧ s.betweenTiles l ∧ blockByte b 0
    = 0x72 ∧ checkOk b = true ∧ (s.lten l).ctrl = some (tg, a, true) ∧ tg = blockByte b 1 ∧ a = blockByte b 3 + 256 *
    blockByte b 4) ∧
  (∃ (s : State) (l : Fin 96) (b : Block) (v : Block) (tg : Nat) (a : Nat), s.receivesAlone l ∧ s.betweenTiles l ∧
    blockByte b 0 = 0x72 ∧ checkOk b = true ∧ (s.lten l).ctrl = some (tg, a, false) ∧ tg = blockByte b 1 ∧ a =
    blockByte b 3 + 256 * blockByte b 4 ∧ blockByte b 2 = 0 ∧ valueBlock b (getBits v.toNat 0 32) = v) :=
  ⟨
    ⟨(State.reset), (ctlBlock 0x7F []), by decide +kernel⟩,
    ⟨(State.reset), 0x7F, by decide +kernel⟩,
    ⟨tenonUpState, 3, (ctlBlock 0x7F []), by decide +kernel⟩,
    ⟨tenonUpState, 3, by decide +kernel⟩,
    ⟨(tenonUpState.modTen 3 (fun x => { x with probeOut := some 0, probeNum := 0 }) |>.modPhy 3 (fun x =>
      { x with lat := true })), 3, (ctlBlock 0x61 []), 0, by decide +kernel⟩,
    ⟨(tenonUpState.modPhy 3 (fun x => { x with lat := true })), 3, 0x61, by decide +kernel⟩,
    ⟨(tenonUpState.modTen 3 (fun x => { x with probeOut := some 0, probeNum := 0 })), 3, (ctlBlock 0x61 []), 0,
      by decide +kernel⟩,
    ⟨(tenonUpState.modTen 3 (fun x => { x with probeOut := some 0 })), 3, by decide +kernel⟩,
    ⟨(tenonUpState.modPhy 3 (fun x => { x with lat := true })), 3, by decide +kernel⟩,
    ⟨((tenonUpState.putB (TENON_CFG_LAT_TRACK 3) true).latch [TENON_CFG 3]), 3, by decide +kernel⟩,
    ⟨bondState, 0, 32, by decide +kernel⟩,
    ⟨bondState, 0, 33, by decide +kernel⟩,
    ⟨bondState, 0, by decide +kernel⟩,
    ⟨(tenonUpState.modPower (fun x => { x with mcDown := false })), 3, ((((tenonUpState.modPower (fun x =>
      { x with mcDown := false })).modTen 3 (fun x => { x with
      ctrl := some (((tenonUpState.modPower (fun x => { x with mcDown := false })).lten 3).nextTag, 0, false),
      nextTag := (((tenonUpState.modPower (fun x => { x with mcDown := false })).lten 3).nextTag + 1) % 256 })).putB
      (TENON_CTRL_CMD_GO 3) true).putBond 3 TENON_STATUS_CTRL_BUSY 1), by decide +kernel⟩,
    ⟨(State.reset.modPower (fun x => { x with mcDown := false })), 3, ((((State.reset.modPower (fun x =>
      { x with mcDown := false })).modTen 3 (fun x => { x with
      ctrl := some (((State.reset.modPower (fun x => { x with mcDown := false })).lten 3).nextTag, 0, false),
      nextTag := (((State.reset.modPower (fun x => { x with mcDown := false })).lten 3).nextTag + 1) % 256 })).putB
      (TENON_CTRL_CMD_GO 3) true).putBond 3 TENON_STATUS_CTRL_BUSY 1), by decide +kernel⟩,
    ⟨(tenonUpState.modTen 3 (fun x => { x with ctrl := some (0, 0, true) })), 3, by decide +kernel⟩,
    ⟨(State.reset), (ctlBlock 0x72 []), by decide +kernel⟩,
    ⟨(State.reset), 0x72, by decide +kernel⟩,
    ⟨(tenonUpState.modTen 3 (fun x => { x with ctrl := some (0, 0, true) })), 3, (ctlBlock 0x72 []), 0, 0,
      by decide +kernel⟩,
    ⟨(tenonUpState.modTen 3 (fun x => { x with ctrl := some (0, 0, false) })), 3, (ctlBlock 0x72 []), (valueBlock
      (ctlBlock 0x72 []) 77), 0, 0, by decide +kernel⟩⟩

theorem witness_TenonControlComplete_2 :
  (∃ (s : State) (l : Fin 96), (s.lten l).ctrl.isSome = true) ∧
  (∃ (s : State) (l : Fin 96) (r : Nat) (n : Nat) (d : Nat) (ls : Option Nat), (s.lten l).viols.find? (fun (v :
    ViolRun) => v.reason == r) = some ⟨r, n, ls, some d⟩) ∧
  (∃ (s : State) (l : Fin 96), (s.members l).any s.laneUp = true ∧ s.lanePers l = 1) :=
  ⟨
    ⟨(tenonUpState.modTen 3 (fun x => { x with ctrl := some (0, 0, true) })), 3, by decide +kernel⟩,
    ⟨(tenonUpState.modTen 3 (fun x => { x with viols := [⟨1, 2, some 0, some 4⟩] })), 3, 1, 2, 4, (some 0),
      by decide +kernel⟩,
    ⟨tenonUpState, 3, by decide +kernel⟩⟩

theorem witness_TenonTriggersComplete :
  (∃ (s : State) (l : Fin 96), s.nextLaunch l = none) ∧
  (∃ (s : State) (l : Fin 96) (tr : Trigger), s.nextLaunch l = some tr ∧ (s.tenUp l = false ∨ s.outCommit = false)) ∧
  (∃ (s : State) (l : Fin 96) (ago : Nat) (tr : Trigger) (tl : Int) (n : Nat), s.nextLaunch l = some tr ∧ s.tenUp l =
    true ∧ s.boss l = l.val ∧ s.outCommit = true ∧ tl = s.nowI - ago - sext 32 (s.rdN (TB_LANE_EG_ASYM l)) * 256 ∧ 0
    ≤ tr.tf - tl ∧ tr.tf - tl ≤ 16383 * 8192 ∧ n = min 16383 ((2 * (tr.tf - tl) + 8192) / 16384).toNat ∧
    (s.outstanding l).length < 64) ∧
  (∃ (s : State) (l : Fin 96) (ago : Nat) (tr : Trigger) (tl : Int), s.nextLaunch l = some tr ∧ s.tenUp l = true ∧
    s.boss l = l.val ∧ s.outCommit = true ∧ tl = s.nowI - ago - sext 32 (s.rdN (TB_LANE_EG_ASYM l)) * 256 ∧ 16383 *
    8192 < tr.tf - tl) ∧
  (∃ (s : State) (l : Fin 96) (ago : Nat) (tr : Trigger) (tl : Int) (x : State), s.nextLaunch l = some tr ∧ s.tenUp l
    = true ∧ s.boss l = l.val ∧ s.outCommit = true ∧ tl = s.nowI - ago - sext 32 (s.rdN (TB_LANE_EG_ASYM l)) * 256 ∧
    tr.tf - tl < 0 ∧ x = ((((s.sendCtl l 0x50 (toBytes 2 (tr.kind % 4 * 16384 + 0) ++ toBytes 4 tr.id)).bump
    (TENON_CNT_TRIG l)).bump (TENON_CNT_TRIG_LATE l)).reportLate tr) ∧ (x.outstanding l).length < 64) ∧
  (∃ (s : State) (l : Fin 96) (i : Nat) (tr : Trigger), s.laneEth l = false ∧ (s.outstanding l).find? (fun (t :
    Trigger) => t.id == i) = some tr ∧ (s.lten l).asm_ = none) ∧
  (∃ (s : State) (l : Fin 96) (i : Nat) (tr : Trigger) (a : LineAsm), s.laneEth l = false ∧ (s.outstanding l).find?
    (fun (t : Trigger) => t.id == i) = some tr ∧ (s.lten l).asm_ = some a ∧ a.trigId = i ∧ (s.lten l).cur = none ∧
    (s.lten l).hdr = none ∧ (s.lten l).wait = none) ∧
  (∃ (s : State) (l : Fin 96) (i : Nat) (tr : Trigger) (a : LineAsm), s.laneEth l = false ∧ (s.outstanding l).find?
    (fun (t : Trigger) => t.id == i) = some tr ∧ (s.lten l).asm_ = some a ∧ a.trigId = i ∧ (s.lten l).cur.isSome =
    true) ∧
  (∃ (s : State) (l : Fin 96) (i : Nat) (tr : Trigger), s.laneEth l = true ∧ (s.ethOut l).find? (fun (t : Trigger) =>
    t.id == i) = some tr ∧ (s.leth l).blocks.find? (fun (b : EthBlock) => b.trigId == i) = none) ∧
  (∃ (s : State) (l : Fin 96) (i : Nat) (tr : Trigger) (b : EthBlock), s.laneEth l = true ∧ (s.ethOut l).find? (fun
    (t : Trigger) => t.id == i) = some tr ∧ (s.leth l).blocks.find? (fun (b : EthBlock) => b.trigId == i) = some b) :=
  ⟨
    ⟨(State.reset), 3, by decide +kernel⟩,
    ⟨((State.reset.modTrigs (fun _ => [{ sampleTrigger 7 1 with out := 3 }]))), 3,
      ({ sampleTrigger 7 1 with out := 3 }), by decide +kernel⟩,
    ⟨((tenonUpState.modTrigs (fun _ => [{ sampleTrigger 7 1 with out := 3 }])).putB GLOBAL_COMMIT_OUTPUT_COMMIT
      true), 3, 0, ({ sampleTrigger 7 1 with out := 3 }), 0, 0, by decide +kernel⟩,
    ⟨((tenonUpState.modTrigs (fun _ => [{ sampleTrigger 7 1 with out := 3, tf := 2 ^ 40 }])).putB
      GLOBAL_COMMIT_OUTPUT_COMMIT true), 3, 0, ({ sampleTrigger 7 1 with out := 3, tf := 2 ^ 40 }), 0,
      by decide +kernel⟩,
    ⟨((tenonUpState.modTrigs (fun _ => [{ sampleTrigger 7 1 with out := 3, tf := -1 }])).putB
      GLOBAL_COMMIT_OUTPUT_COMMIT true), 3, 0, ({ sampleTrigger 7 1 with out := 3, tf := -1 }), 0,
      ((((((tenonUpState.modTrigs (fun _ => [{ sampleTrigger 7 1 with out := 3, tf := -1 }])).putB
      GLOBAL_COMMIT_OUTPUT_COMMIT true).sendCtl 3 0x50 (toBytes 2 0 ++ toBytes 4 7)).bump (TENON_CNT_TRIG 3)).bump
      (TENON_CNT_TRIG_LATE 3)).reportLate { sampleTrigger 7 1 with out := 3, tf := -1 }), by decide +kernel⟩,
    ⟨(tenonUpState.modTrigs (fun _ => [{ sampleTrigger 7 1 with out := 3, sent := true }])), 3, 7,
      ({ sampleTrigger 7 1 with out := 3, sent := true }), by decide +kernel⟩,
    ⟨((tenonUpState.modTrigs (fun _ => [{ sampleTrigger 7 1 with out := 3, sent := true }])).modTen 3 (fun x =>
      { x with asm_ := some ⟨7, 1, 0, 0, tenonUpState.tagOf (sampleTrigger 7 1) 0 true, [], false⟩ })), 3, 7,
      ({ sampleTrigger 7 1 with out := 3, sent := true }), (⟨7, 1, 0, 0, tenonUpState.tagOf (sampleTrigger 7 1) 0
      true, [], false⟩), by decide +kernel⟩,
    ⟨((tenonUpState.modTrigs (fun _ => [{ sampleTrigger 7 1 with out := 3, sent := true }])).modTen 3 (fun x =>
      { x with
      cur := some 1, asm_ := some ⟨7, 1, 0, 0, tenonUpState.tagOf (sampleTrigger 7 1) 0 true, [], false⟩ })), 3, 7,
      ({ sampleTrigger 7 1 with out := 3, sent := true }), (⟨7, 1, 0, 0, tenonUpState.tagOf (sampleTrigger 7 1) 0
      true, [], false⟩), by decide +kernel⟩,
    ⟨(ethUpState.modTrigs (fun _ => [{ sampleTrigger 7 2 with out := 3, sent := true }])), 3, 7,
      ({ sampleTrigger 7 2 with out := 3, sent := true }), by decide +kernel⟩,
    ⟨(ethBlockState.modTrigs (fun _ => [{ sampleTrigger 7 2 with out := 3, sent := true }])), 3, 7,
      ({ sampleTrigger 7 2 with out := 3, sent := true }), ethBlock0, by decide +kernel⟩⟩

theorem witness_EthernetBlocksComplete :
  (∃ (s : State) (l : Fin 96), s.ethUp l = true) ∧
  (∃ (s : State) (l : Fin 96) (f : List Byte) (corr : Nat) (x : State), s.ethUp l = true ∧ 60 ≤ f.length ∧ f.length ≤
    9212 ∧ x = ((s.bumpBy (ETH_CNT_FEC_CORR l) corr).putB (LANE_STATUS_FROZEN l) false).bump (ETH_CNT_FRAMES l) ∧
    x.frameOkFor l f = true ∧ (x.lten l).queue * 8 + f.length ≤ 65536) ∧
  (∃ (s : State) (l : Fin 96) (f : List Byte) (corr : Nat) (x : State), s.ethUp l = true ∧ 60 ≤ f.length ∧ f.length ≤
    9212 ∧ x = ((s.bumpBy (ETH_CNT_FEC_CORR l) corr).putB (LANE_STATUS_FROZEN l) false).bump (ETH_CNT_FRAMES l) ∧
    x.frameOkFor l f = false) ∧
  (∃ (s : State) (l : Fin 96) (f : List Byte) (corr : Nat) (x : State), s.ethUp l = true ∧ 60 ≤ f.length ∧ f.length ≤
    9212 ∧ x = ((s.bumpBy (ETH_CNT_FEC_CORR l) corr).putB (LANE_STATUS_FROZEN l) false).bump (ETH_CNT_FRAMES l) ∧
    x.frameOkFor l f = true ∧ 65536 < (x.lten l).queue * 8 + f.length) ∧
  (∃ (s : State) (l : Fin 96) (f : List Byte), s.ethUp l = true ∧ (f.length < 60 ∨ 9212 < f.length)) ∧
  (∃ (s : State) (l : Fin 96) (i : Nat) (h : Sys2Proof.Leader) (tr : Trigger) (x : State), s.ethUp l = true ∧
    s.ethBlk l i = none ∧ (s.leth l).dropId = none ∧ (s.leth l).lastId = none ∧ x = s.modEth l (fun y =>
    { y with lastId := some i }) ∧ x.ethFree l = [tr] ∧ x.flagE l (ETH_CFG_TS_MATCH l) = false ∧ x.flagE l
    (ETH_CFG_TS_USE l) = false ∧ x.leaderOk l h = true) ∧
  (∃ (s : State) (l : Fin 96) (i : Nat) (h : Sys2Proof.Leader) (x : State), s.ethUp l = true ∧ s.ethBlk l i = none ∧
    (s.leth l).dropId = none ∧ (s.leth l).lastId = none ∧ x = s.modEth l (fun y => { y with lastId := some i }) ∧
    x.ethFree l = [] ∧ x.leaderOk l h = true) ∧
  (∃ (s : State) (l : Fin 96), s.ethUp l = true) ∧
  (∃ (s : State) (l : Fin 96) (i : Nat) (k : Nat), s.ethUp l = true ∧ s.ethBlk l i = none ∧ (s.leth l).dropId = none
    ∧ (s.leth l).lastId = some k ∧ i ≤ k) ∧
  (∃ (s : State) (l : Fin 96) (i : Nat) (pid : Nat) (data : List Byte) (b : EthBlock) (b' : EthBlock) (x : State),
    s.ethUp l = true ∧ s.ethBlk l i = some b ∧ b.pkts = [] ∧ b.asked = [] ∧ pid = 1 ∧ 1 < s.ethPkts l ∧ data.length =
    s.ethS l ∧ x = (((s.modBlk l i (fun b => { b with pkts := b.pkts ++ [(pid, data)] })).ethEntries l i).ethRaws l
    i).ethRefill l ∧ x.ethBlk l i = some b' ∧ x.ethWhole l b' = false ∧ b'.waiting = false) ∧
  (∃ (s : State) (l : Fin 96) (i : Nat), s.ethUp l = true ∧ (s.ethBlk l i).isSome = true) ∧
  (∃ (s : State) (l : Fin 96), s.ethUp l = true) ∧
  (∃ (s : State) (l : Fin 96) (i : Nat) (k : Nat), s.ethUp l = true ∧ s.ethBlk l i = none ∧ (s.leth l).dropId = none
    ∧ (s.leth l).lastId = some k ∧ i ≤ k) ∧
  (∃ (s : State) (l : Fin 96) (i : Nat) (b : EthBlock), s.ethUp l = true ∧ s.ethBlk l i = some b) ∧
  (∃ (s : State) (l : Fin 96), s.ethUp l = true) ∧
  (∃ (s : State) (l : Fin 96) (i : Nat) (b : EthBlock) (b' : EthBlock), s.ethBlk l i = some b ∧ b' =
    { b with waiting := false, ended := b.ended || !b.waiting }) :=
  ⟨
    ⟨ethUpState, 3, by decide +kernel⟩,
    ⟨ethUpState, 3, (List.replicate 6 0xFF ++ List.replicate 6 0 ++ [8, 6] ++ List.replicate 46 0), 1,
      (((ethUpState.bumpBy (ETH_CNT_FEC_CORR 3) 1).putB (LANE_STATUS_FROZEN 3) false).bump (ETH_CNT_FRAMES 3)),
      by decide +kernel⟩,
    ⟨ethUpState, 3, (List.replicate 60 1), 1, (((ethUpState.bumpBy (ETH_CNT_FEC_CORR 3) 1).putB (LANE_STATUS_FROZEN
      3) false).bump (ETH_CNT_FRAMES 3)), by decide +kernel⟩,
    ⟨(ethUpState.modTen 3 (fun x => { x with queue := 8192 })), 3, (List.replicate 6 0xFF ++ List.replicate 6 0 ++
      [8, 6] ++ List.replicate 46 0), 1, ((((ethUpState.modTen 3 (fun x => { x with queue := 8192 })).bumpBy
      (ETH_CNT_FEC_CORR 3) 1).putB (LANE_STATUS_FROZEN 3) false).bump (ETH_CNT_FRAMES 3)), by decide +kernel⟩,
    ⟨ethUpState, 3, [], by decide +kernel⟩,
    ⟨(((ethUpState.put (ETH_CFG_LINE_PIXELS 3) 8).latch [ETH_CFG 3]).modTrigs (fun _ =>
      [{ sampleTrigger 7 2 with out := 3, sent := true }])), 3, 1, (⟨1, pfnc 0, 8, 1, 0, 0, 0, 0⟩),
      ({ sampleTrigger 7 2 with out := 3, sent := true }), ((((ethUpState.put (ETH_CFG_LINE_PIXELS 3) 8).latch
      [ETH_CFG 3]).modTrigs (fun _ => [{ sampleTrigger 7 2 with out := 3, sent := true }])).modEth 3 (fun y =>
      { y with lastId := some 1 })), by decide +kernel⟩,
    ⟨((ethUpState.put (ETH_CFG_LINE_PIXELS 3) 8).latch [ETH_CFG 3]), 3, 1, (⟨1, pfnc 0, 8, 1, 0, 0, 0, 0⟩),
      (((ethUpState.put (ETH_CFG_LINE_PIXELS 3) 8).latch [ETH_CFG 3]).modEth 3 (fun y =>
      { y with lastId := some 1 })), by decide +kernel⟩,
    ⟨ethUpState, 3, by decide +kernel⟩,
    ⟨(ethUpState.modEth 3 (fun y => { y with lastId := some 5 })), 3, 1, 5, by decide +kernel⟩,
    ⟨ethBlockState, 3, 1, 1, ([7, 8]), ethBlock0, ({ ethBlock0 with pkts := [(1, [7, 8])], tiles := [some 0] }),
      ((((ethBlockState.modBlk 3 1 (fun b => { b with pkts := b.pkts ++ [(1, [7, 8])] })).ethEntries 3 1).ethRaws 3
      1).ethRefill 3), by decide +kernel⟩,
    ⟨ethBlockState, 3, 1, by decide +kernel⟩,
    ⟨ethUpState, 3, by decide +kernel⟩,
    ⟨(ethUpState.modEth 3 (fun y => { y with lastId := some 5 })), 3, 1, 5, by decide +kernel⟩,
    ⟨ethBlockState, 3, 1, ethBlock0, by decide +kernel⟩,
    ⟨ethUpState, 3, by decide +kernel⟩,
    ⟨ethBlockState, 3, 1, ethBlock0, ({ ethBlock0 with waiting := false, ended := true }), by decide +kernel⟩⟩

theorem witness_EthernetSetupComplete :
  (∃ (s : State) (l : Fin 96), s.ethUp l = true ∧ (s.leth l).retryWait = false ∧ s.flag (ETH_STATUS_READY l) = false
    ∧ (s.leth l).setup = false) ∧
  (∃ (s : State) (l : Fin 96), s.ethUp l = true ∧ (s.leth l).retryWait = false ∧ s.flag (ETH_STATUS_READY l) = false
    ∧ (s.leth l).setup = true ∧ s.get (ETH_STATUS_SETUP_STEP l) = 1 ∧ s.flag (ETH_STATUS_ARP_OK l) = true) ∧
  (∃ (s : State) (l : Fin 96), s.ethUp l = true ∧ (s.leth l).retryWait = false ∧ s.flag (ETH_STATUS_READY l) = false
    ∧ (s.leth l).setup = true ∧ s.get (ETH_STATUS_SETUP_STEP l) ≠ 1 ∧ s.gvcpIs l 0 = true) ∧
  (∃ (s : State) (l : Fin 96), s.flag (ETH_STATUS_READY l) = true) ∧
  (∃ (s : State) (l : Fin 96), s.ethUp l = true ∧ (s.leth l).retryWait = true) ∧
  (∃ (s : State) (l : Fin 96), s.ethUp l = true ∧ (s.leth l).gvcp ≠ [] ∧ (s.leth l).tries < 2) ∧
  (∃ (s : State) (l : Fin 96), s.ethUp l = true ∧ (s.leth l).gvcp ≠ [] ∧ 2 ≤ (s.leth l).tries) ∧
  (∃ (s : State) (l : Fin 96), (s.leth l).gvcp = []) ∧
  (∃ (s : State) (l : Fin 96), (s.leth l).scriptWait = true) ∧
  (∃ (s : State) (l : Fin 96), s.ethUp l = true ∧ (s.leth l).setup = true ∧ s.get (ETH_STATUS_SETUP_STEP l) = 1 ∧
    s.flag (ETH_STATUS_ARP_OK l) = false ∧ ((s.leth l).arps + 1) % 10 ≠ 0) ∧
  (∃ (s : State) (l : Fin 96), s.ethUp l = true ∧ (s.leth l).setup = true ∧ s.get (ETH_STATUS_SETUP_STEP l) = 1 ∧
    s.flag (ETH_STATUS_ARP_OK l) = false ∧ ((s.leth l).arps + 1) % 10 = 0) ∧
  (∃ (s : State) (l : Fin 96), s.ethUp l = true) ∧
  (∃ (s : State) (l : Fin 96) (ip : Word), s.ethUp l = true ∧ ip = s.rd (ETH_LANE_IP l)) ∧
  (∃ (s : State) (l : Fin 96) (ip : Word), s.ethUp l = true ∧ ip ≠ s.rd (ETH_LANE_IP l)) ∧
  (∃ (s : State) (l : Fin 96), s.ethUp l = true ∧ s.flag (ETH_STATUS_CTRL_HELD l) = true ∧ (s.leth l).gvcp.any (fun
    (c : GvcpCmd) => c.why == 1) = false ∧ s.gvcpIs l 1 = false) ∧
  (∃ (s : State) (l : Fin 96), s.ethUp l = true ∧ s.flag (ETH_STATUS_CTRL_HELD l) = true ∧ s.gvcpIs l 1 = true) ∧
  (∃ (s : State) (l : Fin 96), s.ethUp l = true ∧ s.flag (ETH_STATUS_CTRL_HELD l) = true ∧ s.gvcpIs l 1 = true) ∧
  (∃ (s : State) (l : Fin 96) (a : Nat) (m : Nat) (w : Nat), s.ethUp l = true ∧ (s.leth l).syncReg = some (a, m, w) ∧
    s.gvcpIs l 2 = false ∧ (s.leth l).gvcp.any (fun (c : GvcpCmd) => c.why == 2) = false) ∧
  (∃ (s : State) (l : Fin 96) (v : Word) (a : Nat) (m : Nat) (w : Nat) (x : State), s.ethUp l = true ∧ (s.leth
    l).syncReg = some (a, m, w) ∧ s.gvcpIs l 2 = true ∧ x = (s.gvcpNext l).putB (ETH_STATUS_CAM_SYNCED l) (Nat.land
    v.toNat m == w) ∧ (x.leth l).setup = false) ∧
  (∃ (s : State) (l : Fin 96) (v : Word) (a : Nat) (m : Nat) (w : Nat) (x : State), s.ethUp l = true ∧ (s.leth
    l).syncReg = some (a, m, w) ∧ s.gvcpIs l 2 = true ∧ x = (s.gvcpNext l).putB (ETH_STATUS_CAM_SYNCED l) (Nat.land
    v.toNat m == w) ∧ (x.leth l).setup = true ∧ x.get (ETH_STATUS_SETUP_STEP l) = 6 ∧ x.flag (ETH_STATUS_CAM_SYNCED
    l) = true) :=
  ⟨
    ⟨ethUpState, 3, by decide +kernel⟩,
    ⟨(((ethUpState.put (ETH_STATUS_SETUP_STEP 3) 1).putB (ETH_STATUS_ARP_OK 3) true).modEth 3 (fun x =>
      { x with setup := true })), 3, by decide +kernel⟩,
    ⟨((ethUpState.put (ETH_STATUS_SETUP_STEP 3) 2).modEth 3 (fun x =>
      { x with setup := true, gvcp := [⟨0, 0, 0, 0⟩] })), 3, by decide +kernel⟩,
    ⟨(ethUpState.putB (ETH_STATUS_READY 3) true), 3, by decide +kernel⟩,
    ⟨(ethUpState.modEth 3 (fun x => { x with retryWait := true })), 3, by decide +kernel⟩,
    ⟨(ethUpState.modEth 3 (fun x => { x with gvcp := [⟨0, 0, 0, 0⟩] })), 3, by decide +kernel⟩,
    ⟨(ethUpState.modEth 3 (fun x => { x with gvcp := [⟨0, 0, 0, 0⟩], tries := 2 })), 3, by decide +kernel⟩,
    ⟨ethUpState, 3, by decide +kernel⟩,
    ⟨(ethUpState.modEth 3 (fun x => { x with scriptWait := true })), 3, by decide +kernel⟩,
    ⟨((ethUpState.put (ETH_STATUS_SETUP_STEP 3) 1).modEth 3 (fun x => { x with setup := true })), 3,
      by decide +kernel⟩,
    ⟨((ethUpState.put (ETH_STATUS_SETUP_STEP 3) 1).modEth 3 (fun x => { x with setup := true, arps := 9 })), 3,
      by decide +kernel⟩,
    ⟨ethUpState, 3, by decide +kernel⟩,
    ⟨ethUpState, 3, 0, by decide +kernel⟩,
    ⟨ethUpState, 3, 77, by decide +kernel⟩,
    ⟨(ethUpState.putB (ETH_STATUS_CTRL_HELD 3) true), 3, by decide +kernel⟩,
    ⟨((ethUpState.putB (ETH_STATUS_CTRL_HELD 3) true).modEth 3 (fun x => { x with gvcp := [⟨1, 1, 0x0938, 0⟩] })), 3,
      by decide +kernel⟩,
    ⟨((ethUpState.putB (ETH_STATUS_CTRL_HELD 3) true).modEth 3 (fun x => { x with gvcp := [⟨1, 1, 0x0938, 0⟩] })), 3,
      by decide +kernel⟩,
    ⟨(ethUpState.modEth 3 (fun x => { x with syncReg := some (1, 1, 1) })), 3, 1, 1, 1, by decide +kernel⟩,
    ⟨(ethUpState.modEth 3 (fun x => { x with syncReg := some (1, 1, 1), gvcp := [⟨2, 1, 1, 0⟩] })), 3, 1, 1, 1, 1,
      (((ethUpState.modEth 3 (fun x => { x with syncReg := some (1, 1, 1), gvcp := [⟨2, 1, 1, 0⟩] })).gvcpNext
      3).putB (ETH_STATUS_CAM_SYNCED 3) true), by decide +kernel⟩,
    ⟨((ethUpState.put (ETH_STATUS_SETUP_STEP 3) 6).modEth 3 (fun x =>
      { x with setup := true, syncReg := some (1, 1, 1), gvcp := [⟨2, 1, 1, 0⟩] })), 3, 1, 1, 1, 1,
      ((((ethUpState.put (ETH_STATUS_SETUP_STEP 3) 6).modEth 3 (fun x =>
      { x with setup := true, syncReg := some (1, 1, 1), gvcp := [⟨2, 1, 1, 0⟩] })).gvcpNext 3).putB
      (ETH_STATUS_CAM_SYNCED 3) true), by decide +kernel⟩⟩

theorem witness_EthernetSetupComplete_2 :
  (∃ (s : State) (l : Fin 96) (x : State), s.ethUp l = true ∧ s.flagE l (ETH_CFG_PTP_EN l) = true ∧ s.hasPoll l 4096
    0 = false ∧ (s.leth l).dreq = true ∧ x = s.putB (ETH_STATUS_CAM_SYNCED l) true ∧ (x.leth l).setup = false) ∧
  (∃ (s : State) (l : Fin 96) (x : State), s.ethUp l = true ∧ s.flagE l (ETH_CFG_PTP_EN l) = true ∧ s.hasPoll l 4096
    0 = false ∧ (s.leth l).dreq = true ∧ x = s.putB (ETH_STATUS_CAM_SYNCED l) true ∧ (x.leth l).setup = true ∧ x.get
    (ETH_STATUS_SETUP_STEP l) = 6) :=
  ⟨
    ⟨(((ethUpState.putB (ETH_CFG_PTP_EN 3) true).latch [ETH_CFG 3]).modEth 3 (fun x => { x with dreq := true })), 3,
      ((((ethUpState.putB (ETH_CFG_PTP_EN 3) true).latch [ETH_CFG 3]).modEth 3 (fun x =>
      { x with dreq := true })).putB (ETH_STATUS_CAM_SYNCED 3) true), by decide +kernel⟩,
    ⟨((((ethUpState.putB (ETH_CFG_PTP_EN 3) true).latch [ETH_CFG 3]).put (ETH_STATUS_SETUP_STEP 3) 6).modEth 3 (fun x
      => { x with setup := true, dreq := true })), 3, (((((ethUpState.putB (ETH_CFG_PTP_EN 3) true).latch [ETH_CFG
      3]).put (ETH_STATUS_SETUP_STEP 3) 6).modEth 3 (fun x => { x with setup := true, dreq := true })).putB
      (ETH_STATUS_CAM_SYNCED 3) true), by decide +kernel⟩⟩

theorem witness_EthernetTimeComplete :
  (∃ (s : State) (l : Fin 96), s.ethUp l = true ∧ (s.leth l).ptp = true) ∧
  (∃ (s : State) (l : Fin 96), s.ethUp l = true ∧ (s.leth l).ptp = true ∧ s.get TB_QUALITY_CLASS = 0) ∧
  (∃ (s : State) (l : Fin 96), s.ethUp l = true ∧ (s.leth l).ptp = true ∧ s.get TB_QUALITY_CLASS = 1) ∧
  (∃ (s : State) (l : Fin 96), s.ethUp l = true ∧ (s.leth l).ptp = true ∧ s.get TB_QUALITY_CLASS = 2) ∧
  (∃ (s : State) (l : Fin 96), s.ethUp l = true ∧ (s.leth l).ptp = true ∧ s.get TB_QUALITY_CLASS = 3) ∧
  (∃ (s : State) (l : Fin 96) (d : Fin 256), s.ethUp l = true ∧ (s.leth l).ptp = true ∧ d.val = s.get
    (ETH_PTP_PTP_DOMAIN l)) ∧
  (∃ (s : State) (l : Fin 96) (d : Fin 256), d.val ≠ s.get (ETH_PTP_PTP_DOMAIN l)) ∧
  (∃ (s : State) (l : Fin 96) (tr : Trigger), s.nextAction l = some tr ∧ (s.ethUp l = false ∨ s.flagE l
    (ETH_CFG_ACT_EN l) = false ∨ s.outCommit = false ∨ s.flag (ETH_STATUS_READY l) = false)) ∧
  (∃ (s : State) (l : Fin 96) (tr : Trigger) (a : Int) (x : State) (y : State), s.nextAction l = some tr ∧ s.ethUp l
    = true ∧ s.flagE l (ETH_CFG_ACT_EN l) = true ∧ s.outCommit = true ∧ s.flag (ETH_STATUS_READY l) = true ∧ s.flagE
    l (ETH_CFG_PTP_EN l) = false ∧ (s.leth l).actOut.length < s.actQueue l ∧ a = roundDiv tr.tf 65536 * 65536 ∧
    s.nowI + nsT (s.getE l (ETH_ACT_CFG_MIN_LEAD_US l) * 1000) ≤ a ∧ x = (s.ethSend l (.action (tr.id % 65535 + 1)
    (s.rdE l (ETH_ACT_DEVKEY l)) (s.rdE l (ETH_ACT_GROUPKEY l)) (s.rdE l (ETH_ACT_GROUPMASK l)) (a /
    65536).toNat)).bump (ETH_CNT_ACT l) ∧ (x.ethFree l).length < 64 ∧ y = (x.modTrigs (fun ts => ts.map (fun (u :
    Trigger) => if u.id == tr.id then { u with sent := true, tf := a, actTime := a, tc := a + u.lead } else
    u))).modEth l (fun z => { z with actOut := z.actOut ++ [tr.id] })) ∧
  (∃ (s : State) (l : Fin 96) (tr : Trigger), s.nextAction l = some tr ∧ s.ethUp l = true ∧ s.flagE l (ETH_CFG_ACT_EN
    l) = true ∧ s.outCommit = true ∧ s.flag (ETH_STATUS_READY l) = true ∧ s.flagE l (ETH_CFG_PTP_EN l) = false ∧
    s.actQueue l ≤ (s.leth l).actOut.length) ∧
  (∃ (s : State) (l : Fin 96) (i : Nat) (r : List Nat), (s.leth l).actOut = i :: r ∧ s.trigs.find? (fun (t : Trigger)
    => t.id == i) = none) ∧
  (∃ (s : State) (l : Fin 96) (i : Nat) (r : List Nat) (tr : Trigger), (s.leth l).actOut = i :: r ∧ s.trigs.find?
    (fun (t : Trigger) => t.id == i) = some tr ∧ tr.actTime ≤ s.nowI) ∧
  (∃ (s : State) (l : Fin 96) (i : Nat) (r : List Nat) (tr : Trigger), (s.leth l).actOut = i :: r ∧ s.trigs.find?
    (fun (t : Trigger) => t.id == i) = some tr ∧ s.nowI < tr.actTime) :=
  ⟨
    ⟨(ethUpState.modEth 3 (fun x => { x with ptp := true })), 3, by decide +kernel⟩,
    ⟨(ethUpState.modEth 3 (fun x => { x with ptp := true })), 3, by decide +kernel⟩,
    ⟨((ethUpState.modEth 3 (fun x => { x with ptp := true })).put TB_QUALITY_CLASS 1), 3, by decide +kernel⟩,
    ⟨((ethUpState.modEth 3 (fun x => { x with ptp := true })).put TB_QUALITY_CLASS 2), 3, by decide +kernel⟩,
    ⟨((ethUpState.modEth 3 (fun x => { x with ptp := true })).put TB_QUALITY_CLASS 3), 3, by decide +kernel⟩,
    ⟨(ethUpState.modEth 3 (fun x => { x with ptp := true })), 3, 0, by decide +kernel⟩,
    ⟨(State.reset), 3, 1, by decide +kernel⟩,
    ⟨(ethUpState.modTrigs (fun _ => [{ sampleTrigger 7 2 with out := 3 }])), 3,
      ({ sampleTrigger 7 2 with out := 3 }), by decide +kernel⟩,
    ⟨((((((ethUpState.putB (ETH_CFG_ACT_EN 3) true).put (ETH_ACT_CFG_QUEUE 3) 1).latch [ETH_CFG 3, ETH_ACT_CFG
      3]).putB (ETH_STATUS_READY 3) true).putB GLOBAL_COMMIT_OUTPUT_COMMIT true).modTrigs (fun _ =>
      [{ sampleTrigger 7 2 with out := 3, tf := 10 ^ 12 }])), 3,
      ({ sampleTrigger 7 2 with out := 3, tf := 10 ^ 12 }), (roundDiv (10 ^ 12) 65536 * 65536),
      (((((((((ethUpState.putB (ETH_CFG_ACT_EN 3) true).put (ETH_ACT_CFG_QUEUE 3) 1).latch [ETH_CFG 3, ETH_ACT_CFG
      3]).putB (ETH_STATUS_READY 3) true).putB GLOBAL_COMMIT_OUTPUT_COMMIT true).modTrigs (fun _ =>
      [{ sampleTrigger 7 2 with out := 3, tf := 10 ^ 12 }])).ethSend 3 (.action 8 0 0 0 ((roundDiv (10 ^ 12) 65536 *
      65536 / 65536 : Int).toNat))).bump (ETH_CNT_ACT 3))), ((((((((((ethUpState.putB (ETH_CFG_ACT_EN 3) true).put
      (ETH_ACT_CFG_QUEUE 3) 1).latch [ETH_CFG 3, ETH_ACT_CFG 3]).putB (ETH_STATUS_READY 3) true).putB
      GLOBAL_COMMIT_OUTPUT_COMMIT true).modTrigs (fun _ =>
      [{ sampleTrigger 7 2 with out := 3, tf := 10 ^ 12 }])).ethSend 3 (.action 8 0 0 0 ((roundDiv (10 ^ 12) 65536 *
      65536 / 65536 : Int).toNat))).bump (ETH_CNT_ACT 3)).modTrigs (fun ts => ts.map (fun (u : Trigger) => if u.id ==
      7 then { u with
      sent := true, tf := roundDiv (10 ^ 12) 65536 * 65536, actTime := roundDiv (10 ^ 12) 65536 * 65536,
      tc := roundDiv (10 ^ 12) 65536 * 65536 + u.lead } else u))).modEth 3 (fun z =>
      { z with actOut := z.actOut ++ [7] })), by decide +kernel⟩,
    ⟨((((((ethUpState.putB (ETH_CFG_ACT_EN 3) true).put (ETH_ACT_CFG_QUEUE 3) 1).latch [ETH_CFG 3, ETH_ACT_CFG
      3]).putB (ETH_STATUS_READY 3) true).putB GLOBAL_COMMIT_OUTPUT_COMMIT true).modTrigs (fun _ =>
      [{ sampleTrigger 7 2 with out := 3, tf := 10 ^ 12 }]) |>.modEth 3 (fun x => { x with actOut := [1, 2] })), 3,
      ({ sampleTrigger 7 2 with out := 3, tf := 10 ^ 12 }), by decide +kernel⟩,
    ⟨(ethUpState.modEth 3 (fun x => { x with actOut := [5] })), 3, 5, [], by decide +kernel⟩,
    ⟨((ethUpState.modEth 3 (fun x => { x with actOut := [7] })).modTrigs (fun _ =>
      [{ sampleTrigger 7 2 with out := 3, sent := true }])), 3, 7, [],
      ({ sampleTrigger 7 2 with out := 3, sent := true }), by decide +kernel⟩,
    ⟨((ethUpState.modEth 3 (fun x => { x with actOut := [7] })).modTrigs (fun _ =>
      [{ sampleTrigger 7 2 with out := 3, sent := true, actTime := 2 ^ 60 }])), 3, 7, [],
      ({ sampleTrigger 7 2 with out := 3, sent := true, actTime := 2 ^ 60 }), by decide +kernel⟩⟩

theorem witness_ConditioningComplete :
  (∃ (s : State) (l : Fin 96) (u : Tile) (a : Nat) (x : State) (y : State), s.inPipe l = none ∧ s.nextTile l = some u
    ∧ s.mayStart l u = true ∧ s.ringPlace l (roundUp (u.pixels * u.cond.pxBytes) 64) = some a ∧ u.src = 0 ∧ x =
    (s.putB (BAY_COND_STATUS_STALLED l) false).modCln l (fun x =>
    { x with wptr := a + roundUp (u.pixels * u.cond.pxBytes) 64 }) ∧ y = x.modTile u.num (fun t => { t with
    started := true, off := x.get (BAY_RING_BASE_BASE l) * 64 + a, stored := u.pixels * u.cond.pxBytes }) ∧ y.laneEth
    l = false) ∧
  (∃ (s : State) (l : Fin 96) (u : Tile) (a : Nat) (x : State) (y : State), s.inPipe l = none ∧ s.nextTile l = some u
    ∧ s.mayStart l u = true ∧ s.ringPlace l (roundUp (u.pixels * u.cond.pxBytes) 64) = some a ∧ u.src = 0 ∧ x =
    (s.putB (BAY_COND_STATUS_STALLED l) false).modCln l (fun x =>
    { x with wptr := a + roundUp (u.pixels * u.cond.pxBytes) 64 }) ∧ y = x.modTile u.num (fun t => { t with
    started := true, off := x.get (BAY_RING_BASE_BASE l) * 64 + a, stored := u.pixels * u.cond.pxBytes }) ∧ y.laneEth
    l = true) ∧
  (∃ (s : State) (l : Fin 96) (u : Tile) (a : Nat) (x : State), s.inPipe l = none ∧ s.nextTile l = some u ∧
    s.mayStart l u = true ∧ s.ringPlace l (roundUp (u.pixels * u.cond.pxBytes) 64) = some a ∧ u.src ≠ 0 ∧ x = (s.putB
    (BAY_COND_STATUS_STALLED l) false).modCln l (fun x =>
    { x with wptr := a + roundUp (u.pixels * u.cond.pxBytes) 64 })) ∧
  (∃ (s : State) (l : Fin 96) (u : Tile), s.inPipe l = none ∧ s.nextTile l = some u ∧ s.mayStart l u = true ∧
    s.ringPlace l (roundUp (u.pixels * u.cond.pxBytes) 64) = none ∧ s.flag (BAY_COND_STATUS_STALLED l) = false) ∧
  (∃ (s : State) (l : Fin 96), (s.inPipe l).isSome = true ∨ s.nextTile l = none) ∧
  (∃ (s : State) (l : Fin 96), s.flag (BAY_COND_STATUS_STALLED l) = true) ∧
  (∃ (s : State) (l : Fin 96), s.flag (BAY_COND_STATUS_STALLED l) = false) ∧
  (∃ (s : State) (l : Fin 96) (u : Tile) (v : Tile) (corr : List Nat) (bad : List Nat) (x : State), s.inPipe l = some
    u ∧ u.ended = true ∧ x = (s.storeErrors l corr bad).pipeMarks u corr bad ∧ bit u.cond.ctrl 1 = false ∧ v =
    (x.tile u.num).getD u ∧ v.cond.rsMode = 0) ∧
  (∃ (s : State) (l : Fin 96) (u : Tile) (v : Tile) (corr : List Nat) (bad : List Nat) (x : State), s.inPipe l = some
    u ∧ u.ended = true ∧ x = (s.storeErrors l corr bad).pipeMarks u corr bad ∧ bit u.cond.ctrl 1 = false ∧ v =
    (x.tile u.num).getD u ∧ v.cond.rsMode ≠ 0) ∧
  (∃ (s : State) (l : Fin 96) (u : Tile) (v : Tile) (corr : List Nat) (bad : List Nat) (x : State) (y : State) (k :
    Nat), s.inPipe l = some u ∧ u.ended = true ∧ x = (s.storeErrors l corr bad).pipeMarks u corr bad ∧ bit
    u.cond.ctrl 1 = true ∧ u.xOff = 0 ∧ k = (x.defects (l / 4) (x.defBase l u.cond.set_) 2049 0 none).2.1 ∧ y = x.iff
    (decide (0 < k)) (fun s => ((s.bumpBy (BAY_CNT_DEF_ORDER l) k).raise 2 ((BAY_COND_EVENTS_DEF_ORDER (l / 4)).sub
    (l % 4))).logOnce 0x7101 l l 0) ∧ v = (y.tile u.num).getD u ∧ v.cond.rsMode = 0) ∧
  (∃ (s : State) (l : Fin 96), s.inPipe l = none) ∧
  (∃ (s : State) (l : Fin 96) (n : Nat) (r : List Nat), (s.cln l).wait = n :: r) ∧
  (∃ (s : State) (l : Fin 96), (s.cln l).wait = []) :=
  ⟨
    ⟨((tileState sampleTile).put (BAY_RING_SIZE_SIZE 3) 4096), 3, sampleTile, 0, ((((tileState sampleTile).put
      (BAY_RING_SIZE_SIZE 3) 4096).putB (BAY_COND_STATUS_STALLED 3) false).modCln 3 (fun x =>
      { x with wptr := 0 + roundUp (sampleTile.pixels * sampleTile.cond.pxBytes) 64 })), (((((tileState
      sampleTile).put (BAY_RING_SIZE_SIZE 3) 4096).putB (BAY_COND_STATUS_STALLED 3) false).modCln 3 (fun x =>
      { x with wptr := 0 + roundUp (sampleTile.pixels * sampleTile.cond.pxBytes) 64 })).modTile 1 (fun t =>
      { t with started := true, off := 0, stored := sampleTile.pixels * sampleTile.cond.pxBytes })),
      by decide +kernel⟩,
    ⟨(((tileState sampleTile).put (BAY_RING_SIZE_SIZE 3) 4096).put (LANE_CTRL_PERSONALITY 3) 2), 3, sampleTile, 0,
      (((((tileState sampleTile).put (BAY_RING_SIZE_SIZE 3) 4096).put (LANE_CTRL_PERSONALITY 3) 2).putB
      (BAY_COND_STATUS_STALLED 3) false).modCln 3 (fun x =>
      { x with wptr := 0 + roundUp (sampleTile.pixels * sampleTile.cond.pxBytes) 64 })), ((((((tileState
      sampleTile).put (BAY_RING_SIZE_SIZE 3) 4096).put (LANE_CTRL_PERSONALITY 3) 2).putB (BAY_COND_STATUS_STALLED 3)
      false).modCln 3 (fun x =>
      { x with wptr := 0 + roundUp (sampleTile.pixels * sampleTile.cond.pxBytes) 64 })).modTile 1 (fun t =>
      { t with started := true, off := 0, stored := sampleTile.pixels * sampleTile.cond.pxBytes })),
      by decide +kernel⟩,
    ⟨((tileState { sampleTile with src := 1 }).put (BAY_RING_SIZE_SIZE 3) 4096), 3, ({ sampleTile with src := 1 }),
      0, ((((tileState { sampleTile with src := 1 }).put (BAY_RING_SIZE_SIZE 3) 4096).putB (BAY_COND_STATUS_STALLED
      3) false).modCln 3 (fun x => { x with wptr := 0 + roundUp (sampleTile.pixels * sampleTile.cond.pxBytes) 64 })),
      by decide +kernel⟩,
    ⟨(tileState sampleTile), 3, sampleTile, by decide +kernel⟩,
    ⟨(State.reset), 3, by decide +kernel⟩,
    ⟨(State.reset.putB (BAY_COND_STATUS_STALLED 3) true), 3, by decide +kernel⟩,
    ⟨(State.reset), 3, by decide +kernel⟩,
    ⟨(tileState { sampleTile with started := true }), 3, ({ sampleTile with started := true }),
      ({ sampleTile with started := true }), [], [], (((tileState { sampleTile with started := true }).storeErrors 3
      [] []).pipeMarks { sampleTile with started := true } [] []), by decide +kernel⟩,
    ⟨(tileState { sampleTile with started := true, cond := { CondSet.reset with ctrl := 2 ^ 9 - 8 } }), 3,
      ({ sampleTile with started := true, cond := { CondSet.reset with ctrl := 2 ^ 9 - 8 } }),
      ({ sampleTile with started := true, cond := { CondSet.reset with ctrl := 2 ^ 9 - 8 } }), [], [], (((tileState
      { sampleTile with started := true, cond := { CondSet.reset with ctrl := 2 ^ 9 - 8 } }).storeErrors 3 []
      []).pipeMarks { sampleTile with started := true, cond := { CondSet.reset with ctrl := 2 ^ 9 - 8 } } [] []),
      by decide +kernel⟩,
    ⟨(tileState { sampleTile with started := true, cond := { CondSet.reset with ctrl := 2 } }), 3,
      ({ sampleTile with started := true, cond := { CondSet.reset with ctrl := 2 } }),
      ({ sampleTile with started := true, cond := { CondSet.reset with ctrl := 2 } }), [], [], (((tileState
      { sampleTile with started := true, cond := { CondSet.reset with ctrl := 2 } }).storeErrors 3 [] []).pipeMarks
      { sampleTile with started := true, cond := { CondSet.reset with ctrl := 2 } } [] []), (((((((tileState
      { sampleTile with started := true, cond := { CondSet.reset with ctrl := 2 } }).storeErrors 3 [] []).pipeMarks
      { sampleTile with started := true, cond := { CondSet.reset with ctrl := 2 } } [] []).bumpBy (BAY_CNT_DEF_ORDER
      3) 2047).raise 2 ((BAY_COND_EVENTS_DEF_ORDER 0).sub 3)).logOnce 0x7101 3 3 0)), 2047, by decide +kernel⟩,
    ⟨(State.reset), 3, by decide +kernel⟩,
    ⟨(State.reset.modCln 3 (fun x => { x with wait := [1] })), 3, 1, [], by decide +kernel⟩,
    ⟨(State.reset), 3, by decide +kernel⟩⟩

theorem witness_ScarfComplete :
  (∃ (s : State) (u : Fin 16) (n : Nat) (k : Nat) (v : Tile), s.tile n = some v ∧ s.segOf u v.lane = some k ∧ hScarf
    u ∈ v.holders ∧ v.started = true ∧ s.knownTile u n = false) ∧
  (∃ (s : State) (u : Fin 16) (n : Nat) (k : Nat) (v : Tile), s.tile n = some v ∧ s.segOf u v.lane = some k ∧ hScarf
    u ∈ v.holders ∧ v.started = true ∧ s.knownTile u n = true) ∧
  (∃ (s : State) (u : Fin 16) (n : Nat) (k : Nat) (v : Tile) (corr : Bool) (bad : List Nat) (y : State), s.tile n =
    some v ∧ s.segOf u v.lane = some k ∧ hScarf u ∈ v.holders ∧ v.started = true ∧ v.state ≠ 0 ∧ s.knownTile u n =
    true ∧ y = (s.burstErrors u n corr bad).delivered u v.lane v.tag.line ∧ y.strayTile u n = false) ∧
  (∃ (s : State) (u : Fin 16) (n : Nat) (k : Nat) (v : Tile) (corr : Bool) (bad : List Nat) (y : State), s.tile n =
    some v ∧ s.segOf u v.lane = some k ∧ hScarf u ∈ v.holders ∧ v.started = true ∧ v.state ≠ 0 ∧ s.knownTile u n =
    true ∧ y = (s.burstErrors u n corr bad).delivered u v.lane v.tag.line ∧ y.strayTile u n = true) ∧
  (∃ (s : State) (u : Fin 16) (n : Nat) (k : Nat) (v : Tile), s.tile n = some v ∧ s.segOf u v.lane = some k ∧ hScarf
    u ∈ v.holders ∧ v.started = true ∧ v.state ≠ 0 ∧ s.knownTile u n = false) ∧
  (∃ (s : State) (u : Fin 16) (n : Nat) (v : Tile), s.tile n = some v ∧ s.segOf u v.lane = none ∧ hScarf u ∈
    v.holders) ∧
  (∃ (s : State) (n : Nat), s.tile n = none) ∧
  (∃ (s : State) (u : Fin 16) (line : Int) (b : Bent), (s.scf u).bents.find? (fun (b : Bent) => b.line == line &&
    b.closing.isNone) = some b ∧ b.due ≤ s.tb.ticks) ∧
  (∃ (s : State) (u : Fin 16) (line : Int) (b : Bent), (s.scf u).bents.find? (fun (b : Bent) => b.line == line &&
    b.closing.isNone) = some b ∧ s.tb.ticks < b.due) :=
  ⟨
    ⟨(scarfOn (tileState { sampleTile with started := true, holders := [hScarf 0] })), 0, 1, 0,
      ({ sampleTile with started := true, holders := [hScarf 0] }), by decide +kernel⟩,
    ⟨((scarfOn (tileState { sampleTile with started := true, holders := [hScarf 0] })).modScf 0 (fun x =>
      { x with bents := [sampleBent false] })), 0, 1, 0,
      ({ sampleTile with started := true, holders := [hScarf 0] }), by decide +kernel⟩,
    ⟨((scarfOn (tileState { sampleTile with started := true, state := 1, holders := [hScarf 0] })).modScf 0 (fun x =>
      { x with bents := [sampleBent false] })), 0, 1, 0,
      ({ sampleTile with started := true, state := 1, holders := [hScarf 0] }), false, [], ((((scarfOn (tileState
      { sampleTile with started := true, state := 1, holders := [hScarf 0] })).modScf 0 (fun x =>
      { x with bents := [sampleBent false] })).burstErrors 0 1 false []).delivered 0 3 0), by decide +kernel⟩,
    ⟨((scarfOn (tileState { sampleTile with started := true, state := 1, holders := [hScarf 0] })).modScf 0 (fun x =>
      { x with stray := [(0, 1)] })), 0, 1, 0,
      ({ sampleTile with started := true, state := 1, holders := [hScarf 0] }), false, [], ((((scarfOn (tileState
      { sampleTile with started := true, state := 1, holders := [hScarf 0] })).modScf 0 (fun x =>
      { x with stray := [(0, 1)] })).burstErrors 0 1 false []).delivered 0 3 0), by decide +kernel⟩,
    ⟨(scarfOn (tileState { sampleTile with started := true, state := 1, holders := [hScarf 0] })), 0, 1, 0,
      ({ sampleTile with started := true, state := 1, holders := [hScarf 0] }), by decide +kernel⟩,
    ⟨(tileState { sampleTile with holders := [hScarf 0] }), 0, 1, ({ sampleTile with holders := [hScarf 0] }),
      by decide +kernel⟩,
    ⟨(State.reset), 1, by decide +kernel⟩,
    ⟨(State.reset.modScf 3 (fun x => { x with bents := [sampleBent false] })), 3, 0, (sampleBent false),
      by decide +kernel⟩,
    ⟨(State.reset.modScf 3 (fun x => { x with bents := [{ sampleBent false with due := 5 }] })), 3, 0,
      ({ sampleBent false with due := 5 }), by decide +kernel⟩⟩

theorem witness_KerfComplete :
  (∃ (s : State) (l : Fin 96) (v : Tile) (x : State) (y : State), s.ledger.tiles.find? (fun (w : Tile) => w.lane ==
    l.val && decide (hKerf ∈ w.holders)) = some v ∧ (s.kerfLine l v).any (fun w => w.state == 0) = false ∧
    (s.kerfLine l v).any (fun w => w.endsLine) = true ∧ s.get (DDR_STATUS_STATE (s.kerfChan l)) ≠ 3 ∧ x = s.kerfFull
    l ∧ x.kerfBusy l = false ∧ y = x.kerfHold l v (s.kerfLine l v)) ∧
  (∃ (s : State) (l : Fin 96) (v : Tile) (x : State), s.ledger.tiles.find? (fun (w : Tile) => w.lane == l.val &&
    decide (hKerf ∈ w.holders)) = some v ∧ (s.kerfLine l v).any (fun w => w.state == 0) = false ∧ (s.kerfLine l
    v).any (fun w => w.endsLine) = true ∧ s.get (DDR_STATUS_STATE (s.kerfChan l)) ≠ 3 ∧ x = s.kerfFull l ∧ x.kerfBusy
    l = true) ∧
  (∃ (s : State) (l : Fin 96) (v : Tile), s.ledger.tiles.find? (fun (w : Tile) => w.lane == l.val && decide (hKerf ∈
    w.holders)) = some v ∧ (s.kerfLine l v).any (fun w => w.state == 0) = false ∧ (s.kerfLine l v).any (fun w =>
    w.endsLine) = true ∧ s.get (DDR_STATUS_STATE (s.kerfChan l)) = 3) ∧
  (∃ (s : State) (l : Fin 96), s.ledger.tiles.find? (fun (w : Tile) => w.lane == l.val && decide (hKerf ∈ w.holders))
    = none) ∧
  (∃ (s : State) (l : Fin 96) (k : KerfLine) (r : List KerfLine), (s.krf l).held = k :: r ∧ s.get (KERF_MAX_US_US l)
    ≠ 0 ∧ k.at_ + 1000 * s.get (KERF_MAX_US_US l) ≤ s.tb.ticks) ∧
  (∃ (s : State) (l : Fin 96) (k : KerfLine) (r : List KerfLine), (s.krf l).held = k :: r ∧ (s.get (KERF_MAX_US_US l)
    = 0 ∨ s.tb.ticks < k.at_ + 1000 * s.get (KERF_MAX_US_US l))) ∧
  (∃ (s : State) (l : Fin 96) (k : KerfLine) (r : List KerfLine) (x : State), (s.krf l).out = k :: r ∧ s.arbWaits
    (s.kerfChan l) (l / 4) = false ∧ x = s.modKrf l (fun y => { y with out := r })) ∧
  (∃ (s : State) (l : Fin 96) (k : KerfLine) (r : List KerfLine), (s.krf l).out = k :: r ∧ s.arbWaits (s.kerfChan l)
    (l / 4) = true) :=
  ⟨
    ⟨(tileState { sampleTile with state := 1, count := 1, holders := [hKerf] }), 3,
      ({ sampleTile with state := 1, count := 1, holders := [hKerf] }), ((tileState
      { sampleTile with state := 1, count := 1, holders := [hKerf] }).kerfFull 3), (((tileState
      { sampleTile with state := 1, count := 1, holders := [hKerf] }).kerfFull 3).kerfHold 3
      { sampleTile with state := 1, count := 1, holders := [hKerf] } ((tileState
      { sampleTile with state := 1, count := 1, holders := [hKerf] }).kerfLine 3
      { sampleTile with state := 1, count := 1, holders := [hKerf] })), by decide +kernel⟩,
    ⟨((tileState { sampleTile with state := 1, count := 1, holders := [hKerf] }).modKrf 3 (fun k =>
      { k with out := [⟨0, 0, [], 0, 0⟩], next := 0 })), 3,
      ({ sampleTile with state := 1, count := 1, holders := [hKerf] }), (((tileState
      { sampleTile with state := 1, count := 1, holders := [hKerf] }).modKrf 3 (fun k =>
      { k with out := [⟨0, 0, [], 0, 0⟩], next := 0 })).kerfFull 3), by decide +kernel⟩,
    ⟨((tileState { sampleTile with state := 1, count := 1, holders := [hKerf] }).put (DDR_STATUS_STATE 0) 3), 3,
      ({ sampleTile with state := 1, count := 1, holders := [hKerf] }), by decide +kernel⟩,
    ⟨(State.reset), 3, by decide +kernel⟩,
    ⟨(((State.reset.put (KERF_MAX_US_US 3) 5).modKrf 3 (fun x => { x with held := [⟨0, 0, [1], 0, 0⟩] })).modTb (fun
      t => { t with ticks := 5000 })), 3, (⟨0, 0, [1], 0, 0⟩), [], by decide +kernel⟩,
    ⟨(State.reset.modKrf 3 (fun x => { x with held := [⟨0, 0, [1], 0, 0⟩] })), 3, (⟨0, 0, [1], 0, 0⟩), [],
      by decide +kernel⟩,
    ⟨(State.reset.modKrf 3 (fun x => { x with out := [⟨0, 0, [1], 0, 0⟩] })), 3, (⟨0, 0, [1], 0, 0⟩), [],
      ((State.reset.modKrf 3 (fun x => { x with out := [⟨0, 0, [1], 0, 0⟩] })).modKrf 3 (fun y =>
      { y with out := [] })), by decide +kernel⟩,
    ⟨(((State.reset.put (DDR_STATUS_STATE 0) 2).modKrf 3 (fun x => { x with out := [⟨0, 0, [1], 0, 0⟩] })).arbAsk 0 5
      |>.arbAsk 0 0), 3, (⟨0, 0, [1], 0, 0⟩), [], by decide +kernel⟩⟩

theorem witness_EngineTasksComplete :
  (∃ (s : State) (l : Fin 96) (n : Nat) (j : Nat) (r : List Nat) (v : Tile), (s.cln l).deal = n :: r ∧ s.tile n =
    some v ∧ s.gang l ≠ [] ∧ s.flag (BAY_ENG_GANG_MODE (l / 4) (l % 4)) = true ∧ j = nextIn (s.gang l) (if (s.cln
    l).rot = 0 then 8 else (s.cln l).rot - 1) ∧ s.quarantined (8 * (l / 4) + j) = false ∧ ((s.en (8 * (l / 4) +
    j)).queue (s.get (BAY_ENG_GANG_INPUT (l / 4) (l % 4)))).length < 16) ∧
  (∃ (s : State) (l : Fin 96) (n : Nat) (j : Nat) (r : List Nat) (v : Tile), (s.cln l).deal = n :: r ∧ s.tile n =
    some v ∧ s.gang l ≠ [] ∧ s.flag (BAY_ENG_GANG_MODE (l / 4) (l % 4)) = true ∧ j = nextIn (s.gang l) (if (s.cln
    l).rot = 0 then 8 else (s.cln l).rot - 1) ∧ s.quarantined (8 * (l / 4) + j) = true) ∧
  (∃ (s : State) (l : Fin 96) (n : Nat) (j : Nat) (r : List Nat) (v : Tile), (s.cln l).deal = n :: r ∧ s.tile n =
    some v ∧ s.gang l ≠ [] ∧ s.flag (BAY_ENG_GANG_MODE (l / 4) (l % 4)) = true ∧ j = nextIn (s.gang l) (if (s.cln
    l).rot = 0 then 8 else (s.cln l).rot - 1) ∧ s.quarantined (8 * (l / 4) + j) = false ∧ 16 ≤ ((s.en (8 * (l / 4) +
    j)).queue (s.get (BAY_ENG_GANG_INPUT (l / 4) (l % 4)))).length) ∧
  (∃ (s : State) (l : Fin 96) (n : Nat) (r : List Nat) (v : Tile), (s.cln l).deal = n :: r ∧ s.tile n = some v ∧
    s.gang l = []) ∧
  (∃ (s : State) (e : Fin 192) (i : Nat) (a : EngRec) (r : List EngRec), s.engState e = 1 ∧ s.flag (ENG_CTRL_ENABLE
    e) = true ∧ s.flag (ENG_STATUS_KERNEL_OK e) = true ∧ (List.range 8).find? (fun k => !((s.en e).queue k).isEmpty)
    = some i ∧ (s.en e).queue i = a :: r) ∧
  (∃ (s : State) (e : Fin 192), (s.engState e ≠ 1 ∨ s.flag (ENG_CTRL_ENABLE e) = false ∨ s.flag (ENG_STATUS_KERNEL_OK
    e) = false)) ∧
  (∃ (s : State) (e : Fin 192) (b : Nat) (x : State), s.engBusy e = true ∧ b = s.get (ENG_IN_BUDGET_BUDGET e (s.get
    (ENG_STATUS_INPUT e))) ∧ b ≠ 0 ∧ x = s.modEng e (fun x => { x with cycles := b + 1 })) ∧
  (∃ (s : State), s.outCommit = true ∧ s.faultFrom + 1000000000 ≤ s.tb.ticks) ∧
  (∃ (s : State), (s.outCommit = false ∨ s.tb.ticks < s.faultFrom + 1000000000)) ∧
  (∃ (s : State) (b : Fin 24) (c : Fin 8), s.dmaState b c = 1 ∧ (s.dch b c).busy = false ∧ s.dmaOk b c (s.dmaDesc b
    c) = true) ∧
  (∃ (s : State) (b : Fin 24) (c : Fin 8), s.dmaState b c = 1 ∧ (s.dch b c).busy = false ∧ s.dmaOk b c (s.dmaDesc b
    c) = false) ∧
  (∃ (s : State) (b : Fin 24) (c : Fin 8) (d : DmaDesc), d = s.dmaDesc b c ∧ (s.dch b c).busy = true ∧ s.dmaWaits b d
    = false ∧ getBits d.src 62 2 ≠ 0) ∧
  (∃ (s : State) (b : Fin 24) (c : Fin 8) (d : DmaDesc), d = s.dmaDesc b c ∧ (s.dch b c).busy = true ∧ s.dmaWaits b d
    = false ∧ getBits d.src 62 2 = 0 ∧ s.get (DDR_STATUS_STATE (getBits d.src 36 3)) ≠ 3) ∧
  (∃ (s : State) (b : Fin 24) (c : Fin 8), (s.dch b c).busy = false ∨ s.dmaWaits b (s.dmaDesc b c) = true) ∧
  (∃ (s : State), s.reaches 0 = true) ∧
  (∃ (s : State) (m : Fin 3), s.reaches m = true ∧ m.val ≠ 0) ∧
  (∃ (s : State) (m : Fin 3), s.reaches m = false) ∧
  (∃ (s : State), s.reaches 0 = true) ∧
  (∃ (s : State) (m : Fin 3), s.reaches m = true ∧ m.val ≠ 0) ∧
  (∃ (s : State) (m : Fin 3), s.reaches m = false) :=
  ⟨
    ⟨((((tileState { sampleTile with state := 1, holders := [hDeal] }).putB (BAY_ENG_GANG_MODE 0 3) true).put
      (BAY_ENG_GANG_ENGINES 0 3) 1).modCln 3 (fun x => { x with deal := [1] })), 3, 1, 0, [],
      ({ sampleTile with state := 1, holders := [hDeal] }), by decide +kernel⟩,
    ⟨(((((tileState { sampleTile with state := 1, holders := [hDeal] }).putB (BAY_ENG_GANG_MODE 0 3) true).put
      (BAY_ENG_GANG_ENGINES 0 3) 1).modCln 3 (fun x => { x with deal := [1] })).put (ENG_STATUS_STATE 0) 4), 3, 1, 0,
      [], ({ sampleTile with state := 1, holders := [hDeal] }), by decide +kernel⟩,
    ⟨(((((tileState { sampleTile with state := 1, holders := [hDeal] }).putB (BAY_ENG_GANG_MODE 0 3) true).put
      (BAY_ENG_GANG_ENGINES 0 3) 1).modCln 3 (fun x => { x with deal := [1] })).modEng 0 (fun x => x.setQueue 0
      (List.replicate 16 ⟨[], 0, none, 0, 0⟩))), 3, 1, 0, [], ({ sampleTile with state := 1, holders := [hDeal] }),
      by decide +kernel⟩,
    ⟨((tileState { sampleTile with state := 1, holders := [hDeal] }).modCln 3 (fun x => { x with deal := [1] })), 3,
      1, [], ({ sampleTile with state := 1, holders := [hDeal] }), by decide +kernel⟩,
    ⟨((((State.reset.put (ENG_STATUS_STATE 3) 1).putB (ENG_CTRL_ENABLE 3) true).putB (ENG_STATUS_KERNEL_OK 3)
      true).modEng 3 (fun x => x.setQueue 2 [⟨[], 0, none, 0, 0⟩])), 3, 2, (⟨[], 0, none, 0, 0⟩), [],
      by decide +kernel⟩,
    ⟨(State.reset), 3, by decide +kernel⟩,
    ⟨((engWith 0 id).put (ENG_IN_BUDGET_BUDGET 3 0) 9), 3, 9, (((engWith 0 id).put (ENG_IN_BUDGET_BUDGET 3 0)
      9).modEng 3 (fun x => { x with cycles := 9 + 1 })), by decide +kernel⟩,
    ⟨((State.reset.putB GLOBAL_COMMIT_OUTPUT_COMMIT true).modTb (fun t => { t with ticks := 1000000000 })),
      by decide +kernel⟩,
    ⟨(State.reset), by decide +kernel⟩,
    ⟨((State.reset.put (BAY_DMA_STATUS_STATE 3 3) 1).bayWr 3 0 (toBytes 8 (2 * 2 ^ 62) ++ toBytes 8 (2 * 2 ^ 62 + 64)
      ++ toBytes 4 8 ++ toBytes 4 0 ++ toBytes 4 0 ++ toBytes 2 1 ++ toBytes 2 1)), 3, 3, by decide +kernel⟩,
    ⟨(State.reset.put (BAY_DMA_STATUS_STATE 3 3) 1), 3, 3, by decide +kernel⟩,
    ⟨((State.reset.modDch 3 3 (fun x => { x with busy := true })).bayWr 3 0 (toBytes 8 (2 * 2 ^ 62))), 3, 3,
      (((State.reset.modDch 3 3 (fun x => { x with busy := true })).bayWr 3 0 (toBytes 8 (2 * 2 ^ 62))).dmaDesc 3 3),
      by decide +kernel⟩,
    ⟨(State.reset.modDch 3 3 (fun x => { x with busy := true })), 3, 3, ((State.reset.modDch 3 3 (fun x =>
      { x with busy := true })).dmaDesc 3 3), by decide +kernel⟩,
    ⟨(State.reset), 3, 3, by decide +kernel⟩,
    ⟨(State.reset), by decide +kernel⟩,
    ⟨hostState, 1, by decide +kernel⟩,
    ⟨(State.reset), 1, by decide +kernel⟩,
    ⟨(State.reset), by decide +kernel⟩,
    ⟨hostState, 1, by decide +kernel⟩,
    ⟨(State.reset), 1, by decide +kernel⟩⟩

theorem witness_EngineInstructionsComplete :
  (∃ (s : State) (e : Fin 192) (cycles : Nat) (w : Nat) (same : Bool) (x : State), s.engState e = 2 ∧ (s.get
    (ENG_IN_BUDGET_BUDGET e (s.get (ENG_STATUS_INPUT e))) = 0 ∨ (s.en e).cycles + cycles ≤ s.get
    (ENG_IN_BUDGET_BUDGET e (s.get (ENG_STATUS_INPUT e)))) ∧ sysOf (s.nextBundle e).1 = some w ∧ iOp w = 0 ∧ x =
    (s.engCycle same).charge e cycles 0 ∧ sysOf (x.nextBundle e).1 = some w ∧ x.bundleFault e = none) ∧
  (∃ (s : State) (e : Fin 192) (cycles : Nat) (w : Nat) (same : Bool) (x : State), s.engState e = 2 ∧ (s.get
    (ENG_IN_BUDGET_BUDGET e (s.get (ENG_STATUS_INPUT e))) = 0 ∨ (s.en e).cycles + cycles ≤ s.get
    (ENG_IN_BUDGET_BUDGET e (s.get (ENG_STATUS_INPUT e)))) ∧ sysOf (s.nextBundle e).1 = some w ∧ iOp w = 1 ∧ x =
    (s.engCycle same).charge e cycles 0 ∧ sysOf (x.nextBundle e).1 = some w ∧ x.bundleFault e = none) ∧
  (∃ (s : State) (e : Fin 192) (cycles : Nat) (w : Nat) (same : Bool) (x : State), s.engState e = 2 ∧ (s.get
    (ENG_IN_BUDGET_BUDGET e (s.get (ENG_STATUS_INPUT e))) = 0 ∨ (s.en e).cycles + cycles ≤ s.get
    (ENG_IN_BUDGET_BUDGET e (s.get (ENG_STATUS_INPUT e)))) ∧ sysOf (s.nextBundle e).1 = some w ∧ iOp w = 2 ∧ x =
    (s.engCycle same).charge e cycles 0 ∧ sysOf (x.nextBundle e).1 = some w ∧ x.bundleFault e = none ∧ (x.bayPushes
    (e / 8)).length < 16) ∧
  (∃ (s : State) (e : Fin 192) (cycles : Nat) (w : Nat) (same : Bool) (x : State), s.engState e = 2 ∧ (s.get
    (ENG_IN_BUDGET_BUDGET e (s.get (ENG_STATUS_INPUT e))) = 0 ∨ (s.en e).cycles + cycles ≤ s.get
    (ENG_IN_BUDGET_BUDGET e (s.get (ENG_STATUS_INPUT e)))) ∧ sysOf (s.nextBundle e).1 = some w ∧ iOp w = 2 ∧ x =
    (s.engCycle same).charge e cycles 0 ∧ sysOf (x.nextBundle e).1 = some w ∧ x.bundleFault e = none ∧ 16 ≤
    (x.bayPushes (e / 8)).length) ∧
  (∃ (s : State) (e : Fin 192) (cycles : Nat) (w : Nat) (x : State), s.engState e = 2 ∧ (s.get (ENG_IN_BUDGET_BUDGET
    e (s.get (ENG_STATUS_INPUT e))) = 0 ∨ (s.en e).cycles + cycles ≤ s.get (ENG_IN_BUDGET_BUDGET e (s.get
    (ENG_STATUS_INPUT e)))) ∧ sysOf (s.nextBundle e).1 = some w ∧ iOp w = 3 ∧ x = s.charge e cycles 0 ∧ sysOf
    (x.nextBundle e).1 = some w ∧ x.bundleFault e = none) ∧
  (∃ (s : State) (e : Fin 192) (cycles : Nat) (w : Nat) (x : State), s.engState e = 2 ∧ (s.get (ENG_IN_BUDGET_BUDGET
    e (s.get (ENG_STATUS_INPUT e))) = 0 ∨ (s.en e).cycles + cycles ≤ s.get (ENG_IN_BUDGET_BUDGET e (s.get
    (ENG_STATUS_INPUT e)))) ∧ sysOf (s.nextBundle e).1 = some w ∧ iOp w = 4 ∧ x = s.charge e cycles 0 ∧ sysOf
    (x.nextBundle e).1 = some w ∧ x.bundleFault e = none ∧ (x.dmaState (e / 8) (getBits w 0 3) = 0 ∨ x.dmaState (e /
    8) (getBits w 0 3) = 3)) ∧
  (∃ (s : State) (e : Fin 192) (cycles : Nat) (w : Nat) (x : State), s.engState e = 2 ∧ (s.get (ENG_IN_BUDGET_BUDGET
    e (s.get (ENG_STATUS_INPUT e))) = 0 ∨ (s.en e).cycles + cycles ≤ s.get (ENG_IN_BUDGET_BUDGET e (s.get
    (ENG_STATUS_INPUT e)))) ∧ sysOf (s.nextBundle e).1 = some w ∧ iOp w = 4 ∧ x = s.charge e cycles 0 ∧ sysOf
    (x.nextBundle e).1 = some w ∧ x.bundleFault e = none ∧ x.dmaState (e / 8) (getBits w 0 3) ≠ 0 ∧ x.dmaState (e /
    8) (getBits w 0 3) ≠ 3) ∧
  (∃ (s : State) (e : Fin 192) (cycles : Nat) (w : Nat) (x : State) (pool : Option Nat) (a : Nat), s.engState e = 2 ∧
    (s.get (ENG_IN_BUDGET_BUDGET e (s.get (ENG_STATUS_INPUT e))) = 0 ∨ (s.en e).cycles + cycles ≤ s.get
    (ENG_IN_BUDGET_BUDGET e (s.get (ENG_STATUS_INPUT e)))) ∧ sysOf (s.nextBundle e).1 = some w ∧ iOp w = 5 ∧ x =
    s.charge e cycles 0 ∧ sysOf (x.nextBundle e).1 = some w ∧ x.bundleFault e = none ∧ x.entryFor [(x.en e).sreg (iA
    w)] = some pool ∧ (x.newTile { Tile.blank with src := 2, lane := e, pool := pool }).outSlot e = some a) ∧
  (∃ (s : State) (e : Fin 192) (cycles : Nat) (w : Nat) (x : State) (y : State), s.engState e = 2 ∧ (s.get
    (ENG_IN_BUDGET_BUDGET e (s.get (ENG_STATUS_INPUT e))) = 0 ∨ (s.en e).cycles + cycles ≤ s.get
    (ENG_IN_BUDGET_BUDGET e (s.get (ENG_STATUS_INPUT e)))) ∧ sysOf (s.nextBundle e).1 = some w ∧ iOp w = 5 ∧ x =
    s.charge e cycles 0 ∧ sysOf (x.nextBundle e).1 = some w ∧ x.bundleFault e = none ∧ x.entryFor [(x.en e).sreg (iA
    w)] = none ∧ (x.en e).stall = .none ∧ y = x.bump DLV_CNT_NOENTRY) ∧
  (∃ (s : State) (e : Fin 192) (cycles : Nat) (w : Nat) (x : State), s.engState e = 2 ∧ (s.get (ENG_IN_BUDGET_BUDGET
    e (s.get (ENG_STATUS_INPUT e))) = 0 ∨ (s.en e).cycles + cycles ≤ s.get (ENG_IN_BUDGET_BUDGET e (s.get
    (ENG_STATUS_INPUT e)))) ∧ sysOf (s.nextBundle e).1 = some w ∧ iOp w = 6 ∧ x = s.charge e cycles 0 ∧ sysOf
    (x.nextBundle e).1 = some w ∧ x.bundleFault e = none) ∧
  (∃ (s : State) (e : Fin 192) (cycles : Nat) (w : Nat) (x : State), s.engState e = 2 ∧ (s.get (ENG_IN_BUDGET_BUDGET
    e (s.get (ENG_STATUS_INPUT e))) = 0 ∨ (s.en e).cycles + cycles ≤ s.get (ENG_IN_BUDGET_BUDGET e (s.get
    (ENG_STATUS_INPUT e)))) ∧ sysOf (s.nextBundle e).1 = some w ∧ iOp w = 7 ∧ x = s.charge e cycles 0 ∧ sysOf
    (x.nextBundle e).1 = some w ∧ x.bundleFault e = none) ∧
  (∃ (s : State) (e : Fin 192) (cycles : Nat) (w : Nat) (x : State), s.engState e = 2 ∧ (s.get (ENG_IN_BUDGET_BUDGET
    e (s.get (ENG_STATUS_INPUT e))) = 0 ∨ (s.en e).cycles + cycles ≤ s.get (ENG_IN_BUDGET_BUDGET e (s.get
    (ENG_STATUS_INPUT e)))) ∧ sysOf (s.nextBundle e).1 = some w ∧ iOp w = 8 ∧ x = s.charge e cycles 0 ∧ sysOf
    (x.nextBundle e).1 = some w ∧ x.bundleFault e = none) ∧
  (∃ (s : State) (e : Fin 192) (cycles : Nat) (w : Nat) (x : State), s.engState e = 2 ∧ (s.get (ENG_IN_BUDGET_BUDGET
    e (s.get (ENG_STATUS_INPUT e))) = 0 ∨ (s.en e).cycles + cycles ≤ s.get (ENG_IN_BUDGET_BUDGET e (s.get
    (ENG_STATUS_INPUT e)))) ∧ sysOf (s.nextBundle e).1 = some w ∧ iOp w = 9 ∧ x = s.charge e cycles 0 ∧ sysOf
    (x.nextBundle e).1 = some w ∧ x.bundleFault e = none) ∧
  (∃ (s : State) (e : Fin 192) (cycles : Nat) (x : State), s.engState e = 2 ∧ (s.get (ENG_IN_BUDGET_BUDGET e (s.get
    (ENG_STATUS_INPUT e))) = 0 ∨ (s.en e).cycles + cycles ≤ s.get (ENG_IN_BUDGET_BUDGET e (s.get (ENG_STATUS_INPUT
    e)))) ∧ (s.nextBundle e).1.any (fun i => iCls i.2 == 2 && iOp i.2 == 0x3F) = true ∧ x = s.charge e cycles 0 ∧
    sysOf (x.nextBundle e).1 = none ∧ x.bundleFault e = none) ∧
  (∃ (s : State) (e : Fin 192) (cycles : Nat) (err : Fin 5) (same : Bool) (x : State), s.engState e = 2 ∧ (s.get
    (ENG_IN_BUDGET_BUDGET e (s.get (ENG_STATUS_INPUT e))) = 0 ∨ (s.en e).cycles + cycles ≤ s.get
    (ENG_IN_BUDGET_BUDGET e (s.get (ENG_STATUS_INPUT e)))) ∧ err.val ≠ 3 ∧ err.val ≠ 4 ∧ x = (s.engCycle same).charge
    e cycles err ∧ x.bundleFault e = none ∧ sysOf (x.nextBundle e).1 = none) ∧
  (∃ (s : State) (e : Fin 192) (cycles : Nat) (same : Bool) (x : State) (code : Nat) (addr : Nat), s.engState e = 2 ∧
    (s.get (ENG_IN_BUDGET_BUDGET e (s.get (ENG_STATUS_INPUT e))) = 0 ∨ (s.en e).cycles + cycles ≤ s.get
    (ENG_IN_BUDGET_BUDGET e (s.get (ENG_STATUS_INPUT e)))) ∧ x = (s.engCycle same).charge e cycles 0 ∧ x.bundleFault
    e = some (code, addr)) ∧
  (∃ (s : State) (e : Fin 192) (cycles : Nat) (same : Bool) (x : State), s.engState e = 2 ∧ (s.get
    (ENG_IN_BUDGET_BUDGET e (s.get (ENG_STATUS_INPUT e))) = 0 ∨ (s.en e).cycles + cycles ≤ s.get
    (ENG_IN_BUDGET_BUDGET e (s.get (ENG_STATUS_INPUT e)))) ∧ x = (s.engCycle same).charge e cycles 3 ∧ (x.nextBundle
    e).2 = false) ∧
  (∃ (s : State) (e : Fin 192) (c : Nat), (s.en e).stall = .dma c ∧ (s.dmaState (e / 8) c = 0 ∨ s.dmaState (e / 8) c
    = 3)) ∧
  (∃ (s : State) (e : Fin 192), (s.en e).stall = .fence) ∧
  (∃ (s : State) (e : Fin 192), (s.en e).stall ≠ .fence) :=
  ⟨
    ⟨((engWith (sysWord 0 0 0 0) id)), 3, 1, (sysWord 0 0 0 0), false, (((engWith (sysWord 0 0 0 0) id).engCycle
      false).charge 3 1 0), by decide +kernel⟩,
    ⟨((engWith (sysWord 1 0 0 0) id)), 3, 1, (sysWord 1 0 0 0), false, (((engWith (sysWord 1 0 0 0) id).engCycle
      false).charge 3 1 0), by decide +kernel⟩,
    ⟨((((engWith (sysWord 2 0 0 0) id).put ⟨BAY_PUSH_ALLOW 0 0, 0, 32⟩ 1).put (TRIG_CTRL_MODE 0) 1 |>.putB
      (TRIG_OPT_LIST_SRC 0) true)), 3, 1, (sysWord 2 0 0 0), false, (((((engWith (sysWord 2 0 0 0) id).put
      ⟨BAY_PUSH_ALLOW 0 0, 0, 32⟩ 1).put (TRIG_CTRL_MODE 0) 1 |>.putB (TRIG_OPT_LIST_SRC 0) true).engCycle
      false).charge 3 1 0), by decide +kernel⟩,
    ⟨((((engWith (sysWord 2 0 0 0) id).put ⟨BAY_PUSH_ALLOW 0 0, 0, 32⟩ 1).put (TRIG_CTRL_MODE 0) 1 |>.putB
      (TRIG_OPT_LIST_SRC 0) true |>.setPushes 0 (List.replicate 16 ⟨0, 24, 0, 0⟩))), 3, 1, (sysWord 2 0 0 0), false,
      (((((engWith (sysWord 2 0 0 0) id).put ⟨BAY_PUSH_ALLOW 0 0, 0, 32⟩ 1).put (TRIG_CTRL_MODE 0) 1 |>.putB
      (TRIG_OPT_LIST_SRC 0) true |>.setPushes 0 (List.replicate 16 ⟨0, 24, 0, 0⟩)).engCycle false).charge 3 1 0),
      by decide +kernel⟩,
    ⟨(((engWith (sysWord 3 0 0 0) id).put (BAY_DMA_CFG_OWNER 0 0) 3)), 3, 1, (sysWord 3 0 0 0), (((engWith (sysWord 3
      0 0 0) id).put (BAY_DMA_CFG_OWNER 0 0) 3).charge 3 1 0), by decide +kernel⟩,
    ⟨(((engWith (sysWord 4 0 0 0) id).put (BAY_DMA_CFG_OWNER 0 0) 3)), 3, 1, (sysWord 4 0 0 0), (((engWith (sysWord 4
      0 0 0) id).put (BAY_DMA_CFG_OWNER 0 0) 3).charge 3 1 0), by decide +kernel⟩,
    ⟨((((engWith (sysWord 4 0 0 0) id).put (BAY_DMA_CFG_OWNER 0 0) 3).put (BAY_DMA_STATUS_STATE 0 0) 1)), 3, 1,
      (sysWord 4 0 0 0), ((((engWith (sysWord 4 0 0 0) id).put (BAY_DMA_CFG_OWNER 0 0) 3).put (BAY_DMA_STATUS_STATE 0
      0) 1).charge 3 1 0), by decide +kernel⟩,
    ⟨((((engWith (sysWord 5 0 0 0) id).put (DLV_CFG_KIND 0) 2).put (DLV_CFG_SOURCE 0) 3)), 3, 1, (sysWord 5 0 0 0),
      ((((engWith (sysWord 5 0 0 0) id).put (DLV_CFG_KIND 0) 2).put (DLV_CFG_SOURCE 0) 3).charge 3 1 0), none, 0,
      by decide +kernel⟩,
    ⟨(((((engWith (sysWord 5 0 0 0) id).put (DLV_CFG_KIND 0) 2).put (DLV_CFG_SOURCE 0) 3).put DLV_LEDGER_RES_N
      131072)), 3, 1, (sysWord 5 0 0 0), (((((engWith (sysWord 5 0 0 0) id).put (DLV_CFG_KIND 0) 2).put
      (DLV_CFG_SOURCE 0) 3).put DLV_LEDGER_RES_N 131072).charge 3 1 0), (((((((engWith (sysWord 5 0 0 0) id).put
      (DLV_CFG_KIND 0) 2).put (DLV_CFG_SOURCE 0) 3).put DLV_LEDGER_RES_N 131072).charge 3 1 0).bump
      DLV_CNT_NOENTRY)), by decide +kernel⟩,
    ⟨((engWith (sysWord 6 0 1 0) (fun x => { x.setS 1 0x100000 with outs := [⟨0, 0, 0⟩] }))), 3, 1, (sysWord 6 0 1
      0), ((engWith (sysWord 6 0 1 0) (fun x => { x.setS 1 0x100000 with outs := [⟨0, 0, 0⟩] })).charge 3 1 0),
      by decide +kernel⟩,
    ⟨((engWith (sysWord 7 1 0 0) (fun x => { x with run := some ⟨[], 0, some 1, 0, 0⟩ }))), 3, 1, (sysWord 7 1 0 0),
      ((engWith (sysWord 7 1 0 0) (fun x => { x with run := some ⟨[], 0, some 1, 0, 0⟩ })).charge 3 1 0),
      by decide +kernel⟩,
    ⟨((engWith (sysWord 8 0 0 0) (fun x => { x with kept := [(0, 1)] }))), 3, 1, (sysWord 8 0 0 0), ((engWith
      (sysWord 8 0 0 0) (fun x => { x with kept := [(0, 1)] })).charge 3 1 0), by decide +kernel⟩,
    ⟨((engWith (sysWord 9 0 0 0) id)), 3, 1, (sysWord 9 0 0 0), ((engWith (sysWord 9 0 0 0) id).charge 3 1 0),
      by decide +kernel⟩,
    ⟨((engWith (2 ^ 31 + 2 * 2 ^ 28 + 0x3F * 2 ^ 22) id)), 3, 1, ((engWith (2 ^ 31 + 2 * 2 ^ 28 + 0x3F * 2 ^ 22)
      id).charge 3 1 0), by decide +kernel⟩,
    ⟨((engWith (2 ^ 31) id)), 3, 1, 1, false, (((engWith (2 ^ 31) id).engCycle false).charge 3 1 1),
      by decide +kernel⟩,
    ⟨((engWith (2 ^ 31 + 7 * 2 ^ 28 + 0x3F * 2 ^ 22) id)), 3, 1, false, (((engWith (2 ^ 31 + 7 * 2 ^ 28 + 0x3F * 2 ^
      22) id).engCycle false).charge 3 1 0), 1, 0, by decide +kernel⟩,
    ⟨((engWith (2 ^ 31) id)), 3, 1, false, (((engWith (2 ^ 31) id).engCycle false).charge 3 1 3), by decide +kernel⟩,
    ⟨(State.reset.modEng 3 (fun x => { x with stall := .dma 1 })), 3, 1, by decide +kernel⟩,
    ⟨(State.reset.modEng 3 (fun x => { x with stall := .fence })), 3, by decide +kernel⟩,
    ⟨(State.reset), 3, by decide +kernel⟩⟩

theorem witness_EngineInstructionsComplete_2 :
  (∃ (s : State) (e : Fin 192) (st : Nat) (d : Nat) (n : Nat) (w : Nat) (a : Nat), (s.en e).stall = .out st d (some
    n) ∧ sysOf (s.nextBundle e).1 = some w ∧ s.outSlot e = some a) ∧
  (∃ (s : State) (b : Fin 24) (p : EngPush) (r : List EngPush) (x : State), s.bayPushes b = p :: r ∧ s.pushAhead b p
    = false ∧ s.trRing p.seq = true ∧ x = (s.setPushes b r).ringPush p.seq p.x ∧ (List.range 8).find? (fun j => (x.en
    (8 * b + j)).stall.isPush) = none) ∧
  (∃ (s : State) (b : Fin 24) (p : EngPush) (r : List EngPush) (j : Nat) (x : State), s.bayPushes b = p :: r ∧
    s.pushAhead b p = false ∧ s.trRing p.seq = true ∧ x = (s.setPushes b r).ringPush p.seq p.x ∧ (List.range 8).find?
    (fun j => (x.en (8 * b + j)).stall.isPush) = some j) ∧
  (∃ (s : State) (b : Fin 24) (p : EngPush) (r : List EngPush), s.bayPushes b = p :: r ∧ s.pushAhead b p = true) :=
  ⟨
    ⟨(engWith (sysWord 5 0 0 0) (fun x => { x with stall := .out 0 0 (some 1) })), 3, 0, 0, 1, (sysWord 5 0 0 0), 0,
      by decide +kernel⟩,
    ⟨((((State.reset.put (TRIG_CTRL_MODE 0) 1).putB (TRIG_OPT_LIST_SRC 0) true).setPushes 3 [⟨24, 0, 5, 0⟩])), 3,
      (⟨24, 0, 5, 0⟩), [], (((((State.reset.put (TRIG_CTRL_MODE 0) 1).putB (TRIG_OPT_LIST_SRC 0) true).setPushes 3
      [⟨24, 0, 5, 0⟩]).setPushes 3 []).ringPush 0 5), by decide +kernel⟩,
    ⟨((((State.reset.put (TRIG_CTRL_MODE 0) 1).putB (TRIG_OPT_LIST_SRC 0) true).setPushes 3 [⟨24, 0, 5, 0⟩]).modEng
      25 (fun x => { x with stall := .push 0 0 })), 3, (⟨24, 0, 5, 0⟩), [], 1, ((((((State.reset.put (TRIG_CTRL_MODE
      0) 1).putB (TRIG_OPT_LIST_SRC 0) true).setPushes 3 [⟨24, 0, 5, 0⟩]).modEng 25 (fun x =>
      { x with stall := .push 0 0 })).setPushes 3 []).ringPush 0 5), by decide +kernel⟩,
    ⟨((State.reset.setPushes 3 [⟨24, 0, 5, 0⟩]).setPushes 2 [⟨16, 0, 5, 0⟩]), 3, (⟨24, 0, 5, 0⟩), [],
      by decide +kernel⟩⟩

theorem witness_DramComplete :
  (∃ (s : State) (k : Fin 8) (t : List Nat), s.get (DDR_STATUS_STATE k) = 2 ∧ t = s.tb.ticks :: (s.drm
    k).alerts.filter (fun x => decide (s.tb.ticks < x + 1000000)) ∧ t.length < 3) ∧
  (∃ (s : State) (k : Fin 8) (t : List Nat), s.get (DDR_STATUS_STATE k) = 2 ∧ t = s.tb.ticks :: (s.drm
    k).alerts.filter (fun x => decide (s.tb.ticks < x + 1000000)) ∧ 3 ≤ t.length) ∧
  (∃ (s : State) (k : Fin 8), s.get (DDR_STATUS_STATE k) ≠ 2) ∧
  (∃ (s : State) (k : Fin 8) (addr : Nat) (req : Fin 28) (errs : List (Nat × Nat)) (x : State), s.get
    (DDR_STATUS_STATE k) = 2 ∧ x = s.ddrDecode k (addr % 2 ^ 36) req errs ∧ (s.ddrFixes k (addr % 2 ^ 36) errs =
    false ∨ addr % 2 ^ 36 / 64 * 64 ∈ (x.drm k).pend)) ∧
  (∃ (s : State) (k : Fin 8) (addr : Nat) (req : Fin 28) (errs : List (Nat × Nat)) (x : State), s.get
    (DDR_STATUS_STATE k) = 2 ∧ x = s.ddrDecode k (addr % 2 ^ 36) req errs ∧ s.ddrFixes k (addr % 2 ^ 36) errs = true
    ∧ addr % 2 ^ 36 / 64 * 64 ∉ (x.drm k).pend ∧ (x.drm k).pend.length < 16) ∧
  (∃ (s : State) (k : Fin 8) (addr : Nat) (req : Fin 28) (errs : List (Nat × Nat)) (x : State), s.get
    (DDR_STATUS_STATE k) = 2 ∧ x = s.ddrDecode k (addr % 2 ^ 36) req errs ∧ s.ddrFixes k (addr % 2 ^ 36) errs = true
    ∧ addr % 2 ^ 36 / 64 * 64 ∉ (x.drm k).pend ∧ 16 ≤ (x.drm k).pend.length) ∧
  (∃ (s : State) (k : Fin 8), s.get (DDR_STATUS_STATE k) ≠ 2) ∧
  (∃ (s : State) (k : Fin 8) (x : State) (a : Nat) (r : List Nat), s.get (DDR_STATUS_STATE k) = 2 ∧ s.flag
    (DDR_SCRUB_EN k) = true ∧ s.scrubDue k = true ∧ x = s.modDrm k (fun y => { y with scrubAt := some s.tb.ticks }) ∧
    (x.drm k).pend = a :: r) ∧
  (∃ (s : State) (k : Fin 8) (x : State) (a : Nat), s.get (DDR_STATUS_STATE k) = 2 ∧ s.flag (DDR_SCRUB_EN k) = true ∧
    s.scrubDue k = true ∧ x = s.modDrm k (fun y => { y with scrubAt := some s.tb.ticks }) ∧ (x.drm k).pend = [] ∧ a =
    x.rd64 (DDR_SCRUB_NEXT k) ∧ a + 64 < x.ddrGib k * 2 ^ 30) ∧
  (∃ (s : State) (k : Fin 8) (x : State) (a : Nat), s.get (DDR_STATUS_STATE k) = 2 ∧ s.flag (DDR_SCRUB_EN k) = true ∧
    s.scrubDue k = true ∧ x = s.modDrm k (fun y => { y with scrubAt := some s.tb.ticks }) ∧ (x.drm k).pend = [] ∧ a =
    x.rd64 (DDR_SCRUB_NEXT k) ∧ x.ddrGib k * 2 ^ 30 ≤ a + 64) ∧
  (∃ (s : State) (k : Fin 8), (s.get (DDR_STATUS_STATE k) ≠ 2 ∨ s.flag (DDR_SCRUB_EN k) = false ∨ s.scrubDue k =
    false)) ∧
  (∃ (s : State), s.reaches 0 = true) ∧
  (∃ (s : State) (m : Fin 3), s.reaches m = true ∧ m ≠ 0) ∧
  (∃ (s : State) (m : Fin 3), s.reaches m = false) ∧
  (∃ (s : State) (k : Fin 8) (cause : Fin 8), (cause ≠ 3 ∨ s.get (DDR_STATUS_STATE k) = 3)) ∧
  (∃ (s : State) (k : Fin 8) (cause : Fin 8), cause = 3 ∧ s.get (DDR_STATUS_STATE k) ≠ 3) :=
  ⟨
    ⟨(State.reset.put (DDR_STATUS_STATE 3) 2), 3, [0], by decide +kernel⟩,
    ⟨((State.reset.put (DDR_STATUS_STATE 3) 2).modDrm 3 (fun x => { x with alerts := [0, 0] })), 3, ([0, 0, 0]),
      by decide +kernel⟩,
    ⟨(State.reset), 3, by decide +kernel⟩,
    ⟨(State.reset.put (DDR_STATUS_STATE 3) 2), 3, 1, 3, [], ((State.reset.put (DDR_STATUS_STATE 3) 2).ddrDecode 3 (1
      % 2 ^ 36) 3 []), by decide +kernel⟩,
    ⟨(State.reset.put (DDR_STATUS_STATE 3) 2), 3, 1, 3, ([(0, 1)]), ((State.reset.put (DDR_STATUS_STATE 3)
      2).ddrDecode 3 (1 % 2 ^ 36) 3 [(0, 1)]), by decide +kernel⟩,
    ⟨((State.reset.put (DDR_STATUS_STATE 3) 2).modDrm 3 (fun x => { x with pend := List.replicate 16 64 })), 3, 1, 3,
      ([(0, 1)]), (((State.reset.put (DDR_STATUS_STATE 3) 2).modDrm 3 (fun x =>
      { x with pend := List.replicate 16 64 })).ddrDecode 3 (1 % 2 ^ 36) 3 [(0, 1)]), by decide +kernel⟩,
    ⟨(State.reset), 3, by decide +kernel⟩,
    ⟨(((State.reset.put (DDR_STATUS_STATE 3) 2).putB (DDR_SCRUB_EN 3) true).modDrm 3 (fun y =>
      { y with pend := [64] })), 3, ((((State.reset.put (DDR_STATUS_STATE 3) 2).putB (DDR_SCRUB_EN 3) true).modDrm 3
      (fun y => { y with pend := [64] })).modDrm 3 (fun y => { y with scrubAt := some 0 })), 64, [],
      by decide +kernel⟩,
    ⟨(((State.reset.put (DDR_STATUS_STATE 3) 2).putB (DDR_SCRUB_EN 3) true)), 3, (((State.reset.put (DDR_STATUS_STATE
      3) 2).putB (DDR_SCRUB_EN 3) true).modDrm 3 (fun y => { y with scrubAt := some 0 })), 0, by decide +kernel⟩,
    ⟨(((State.reset.put (DDR_STATUS_STATE 3) 2).putB (DDR_SCRUB_EN 3) true).wr64 (DDR_SCRUB_NEXT 3) (2 ^ 36)), 3,
      ((((State.reset.put (DDR_STATUS_STATE 3) 2).putB (DDR_SCRUB_EN 3) true).wr64 (DDR_SCRUB_NEXT 3) (2 ^
      36)).modDrm 3 (fun y => { y with scrubAt := some 0 })), (2 ^ 36), by decide +kernel⟩,
    ⟨(State.reset), 3, by decide +kernel⟩,
    ⟨fwState, by decide +kernel⟩,
    ⟨hostState, 1, by decide +kernel⟩,
    ⟨(State.reset), 1, by decide +kernel⟩,
    ⟨(State.reset), 3, 5, by decide +kernel⟩,
    ⟨(State.reset), 3, 3, by decide +kernel⟩⟩

theorem witness_ArbitersComplete :
  (∃ (s : State) (a : Fin 10) (r : Fin 43), a.val < 8 ∧ r.val < 28 ∧ s.arbServes a = true ∧ (s.arbOf a).hold = none ∧
    (s.arbOf a).reqs.any (fun (q : ArbReq) => q.req == r.val) = false) ∧
  (∃ (s : State) (a : Fin 10) (r : Fin 43) (h : ArbReq), a.val < 8 ∧ r.val < 28 ∧ s.arbServes a = true ∧ (s.arbOf
    a).hold = some h ∧ h.req ≠ r.val ∧ (s.arbOf a).reqs.any (fun (q : ArbReq) => q.req == r.val) = false) ∧
  (∃ (s : State) (a : Fin 10) (r : Fin 43), 8 ≤ a.val ∧ (r.val = 42 ∨ (s.servedDlv (a - 8) r).isSome = true) ∧
    (s.arbOf a).hold = none ∧ (s.arbOf a).reqs.any (fun (q : ArbReq) => q.req == r.val) = false) ∧
  (∃ (s : State) (a : Fin 10) (r : Fin 43), (s.arbServes a = false ∨ (s.arbOf a).reqs.any (fun (q : ArbReq) => q.req
    == r.val) = true ∨ (∃ h, (s.arbOf a).hold = some h ∧ h.req = r.val) ∨ (a.val < 8 ∧ 28 ≤ r.val) ∨ (8 ≤ a.val ∧
    r.val ≠ 42 ∧ (s.servedDlv (a - 8) r).isSome = false))) ∧
  (∃ (s : State) (a : Fin 10) (h : ArbReq), (s.arbOf a).hold = some h) ∧
  (∃ (s : State) (a : Fin 10), (s.arbOf a).hold = none) ∧
  (∃ (s : State) (a : Fin 10) (h : ArbReq), a.val < 8 ∧ (s.arbOf a).hold = some h ∧ (s.arbOf a).reqs.any (fun (q :
    ArbReq) => !q.backoff && s.aheadOf a q.req h.req) = true) ∧
  (∃ (s : State) (a : Fin 10) (h : ArbReq), 8 ≤ a.val ∧ (s.arbOf a).hold = some h ∧ (s.arbOf a).reqs.any (fun (q :
    ArbReq) => !q.backoff && s.aheadOf a q.req h.req) = true) ∧
  (∃ (s : State) (a : Fin 10) (h : ArbReq), (s.arbOf a).hold = some h ∧ (s.arbOf a).reqs.any (fun (q : ArbReq) =>
    !q.backoff && s.aheadOf a q.req h.req) = false) ∧
  (∃ (s : State) (a : Fin 10), (s.arbOf a).hold = none) ∧
  (∃ (s : State) (a : Fin 10) (r : Fin 43), (s.arbOf a).reqs.any (fun (q : ArbReq) => q.req == r.val && q.backoff) =
    true) ∧
  (∃ (s : State) (a : Fin 10) (r : Fin 43), (s.arbOf a).reqs.any (fun (q : ArbReq) => q.req == r.val && q.backoff) =
    false) ∧
  (∃ (s : State) (a : Fin 10) (w : Fin 6), s.reaches 0 = true ∧ a.val < 8 ∧ w.val < 4) ∧
  (∃ (s : State) (a : Fin 10) (w : Fin 6) (m : Fin 3) (v : Word) (y : State), s.reaches m = true ∧ m ≠ 0 ∧ a.val < 8
    ∧ w.val < 4 ∧ y = ((List.range 8).filter (fun i => decide (8 * w.val + i < 28))).foldl (fun x i => if s.arbPriv a
    (8 * w.val + i) then x else x.put ⟨DDR_ARB_RANK a w, 4 * i, 3⟩ (getBits v.toNat (4 * i) 3)) s ∧ ((List.range
    8).filter (fun i => decide (8 * w.val + i < 28))).any (fun i => s.arbPriv a (8 * w.val + i) && getBits (s.rdN
    (DDR_ARB_RANK a w)) (4 * i) 3 != getBits v.toNat (4 * i) 3) = false) ∧
  (∃ (s : State) (a : Fin 10) (w : Fin 6) (m : Fin 3) (v : Word) (y : State), s.reaches m = true ∧ m ≠ 0 ∧ a.val < 8
    ∧ w.val < 4 ∧ y = ((List.range 8).filter (fun i => decide (8 * w.val + i < 28))).foldl (fun x i => if s.arbPriv a
    (8 * w.val + i) then x else x.put ⟨DDR_ARB_RANK a w, 4 * i, 3⟩ (getBits v.toNat (4 * i) 3)) s ∧ ((List.range
    8).filter (fun i => decide (8 * w.val + i < 28))).any (fun i => s.arbPriv a (8 * w.val + i) && getBits (s.rdN
    (DDR_ARB_RANK a w)) (4 * i) 3 != getBits v.toNat (4 * i) 3) = true) ∧
  (∃ (s : State) (a : Fin 10) (w : Fin 6) (m : Fin 3), s.reaches m = true ∧ a.val < 8 ∧ 4 ≤ w.val) ∧
  (∃ (s : State) (a : Fin 10), s.reaches 0 = true ∧ 8 ≤ a.val) ∧
  (∃ (s : State) (a : Fin 10) (m : Fin 3), s.reaches m = true ∧ m ≠ 0 ∧ 8 ≤ a.val) ∧
  (∃ (s : State) (m : Fin 3), s.reaches m = false) ∧
  (∃ (s : State) (v : Fin 9 × Nat) (a : Fin 10) (circle : List (Fin 9 × Nat)), s.lowestUnit a (circle.take 8) = some
    v) :=
  ⟨
    ⟨(State.reset.put (DDR_STATUS_STATE 3) 2), 3, 3, by decide +kernel⟩,
    ⟨((State.reset.put (DDR_STATUS_STATE 3) 2).modArb 3 (fun x => { x with hold := some ⟨1, 0, false, 16⟩ })), 3, 3,
      (⟨1, 0, false, 16⟩), by decide +kernel⟩,
    ⟨(State.reset), 9, 42, by decide +kernel⟩,
    ⟨(State.reset), 3, 3, by decide +kernel⟩,
    ⟨(State.reset.modArb 3 (fun x => { x with hold := some ⟨1, 0, false, 16⟩ })), 3, (⟨1, 0, false, 16⟩),
      by decide +kernel⟩,
    ⟨(State.reset), 3, by decide +kernel⟩,
    ⟨((State.reset.put ⟨DDR_ARB_RANK 3 0, 8, 3⟩ 7).modArb 3 (fun x =>
      { x with hold := some ⟨1, 0, false, 16⟩, reqs := [⟨2, 0, false, 8⟩] })), 3, (⟨1, 0, false, 16⟩),
      by decide +kernel⟩,
    ⟨((State.reset.put ⟨DLV_ARB_RANK 0 0, 8, 3⟩ 7).modArb 8 (fun x =>
      { x with hold := some ⟨1, 0, false, 16⟩, reqs := [⟨2, 0, false, 8⟩] })), 8, (⟨1, 0, false, 16⟩),
      by decide +kernel⟩,
    ⟨(State.reset.modArb 3 (fun x => { x with hold := some ⟨1, 0, false, 16⟩ })), 3, (⟨1, 0, false, 16⟩),
      by decide +kernel⟩,
    ⟨(State.reset), 3, by decide +kernel⟩,
    ⟨(State.reset.modArb 3 (fun x => { x with reqs := [⟨3, 0, true, 8⟩] })), 3, 3, by decide +kernel⟩,
    ⟨(State.reset), 3, 3, by decide +kernel⟩,
    ⟨fwState, 3, 3, by decide +kernel⟩,
    ⟨hostState, 3, 3, 1, 0, ((([0, 1, 2, 3, 4, 5, 6, 7].filter (fun i => decide (8 * 3 + i < 28))).foldl (fun x i =>
      if hostState.arbPriv 3 (8 * 3 + i) then x else x.put ⟨DDR_ARB_RANK 3 3, 4 * i, 3⟩ (getBits (0 : Word).toNat (4
      * i) 3)) hostState)), by decide +kernel⟩,
    ⟨(hostState.wrN (DDR_ARB_PRIV 3) (2 ^ 28 - 1)), 3, 3, 1, 0xFFFFFFFF, ((([0, 1, 2, 3, 4, 5, 6, 7].filter (fun i =>
      decide (8 * 3 + i < 28))).foldl (fun x i => if (hostState.wrN (DDR_ARB_PRIV 3) (2 ^ 28 - 1)).arbPriv 3 (8 * 3 +
      i) then x else x.put ⟨DDR_ARB_RANK 3 3, 4 * i, 3⟩ (getBits (0xFFFFFFFF : Word).toNat (4 * i) 3)) (hostState.wrN
      (DDR_ARB_PRIV 3) (2 ^ 28 - 1)))), by decide +kernel⟩,
    ⟨hostState, 3, 4, 1, by decide +kernel⟩,
    ⟨fwState, 9, by decide +kernel⟩,
    ⟨hostState, 9, 1, by decide +kernel⟩,
    ⟨(State.reset), 1, by decide +kernel⟩,
    ⟨(State.reset), ((1, 0)), 3, ([(1, 0)]), by decide +kernel⟩⟩

theorem witness_DescriptorsComplete :
  (∃ (s : State) (st : Fin 256) (p : Fin 2), s.flag (activeF st p) = true ∧ (s.ring st p).withdraw = false) ∧
  (∃ (s : State) (st : Fin 256) (p : Fin 2), (s.flag (activeF st p) = false ∨ (s.ring st p).withdraw = true)) ∧
  (∃ (s : State) (st : Fin 256) (p : Fin 2) (m : Fin 3) (v : Word), s.reaches m = true ∧ s.tailOk st p v = true) ∧
  (∃ (s : State) (st : Fin 256) (p : Fin 2) (m : Fin 3) (v : Word), s.reaches m = true ∧ s.tailOk st p v = false) ∧
  (∃ (s : State) (m : Fin 3) (z : Nat), s.reaches m = true ∧ z ≠ 4) ∧
  (∃ (s : State) (m : Fin 3), s.reaches m = false) ∧
  (∃ (s : State) (st : Fin 256) (p : Fin 2) (n : Nat), s.arbHolds (8 + p) 42 = true ∧ s.flag (activeF st p) = true ∧
    (s.ring st p).withdraw = false ∧ (s.ring st p).fetch = none ∧ s.flag (PCIE_STATUS_BME p) = true ∧ n = min (min
    (16 - (s.ring st p).descs.length) ((s.rd (DLV_DESC_TAIL st p) - s.rd (DLV_DESC_HEAD st p)).toNat - (s.ring st
    p).descs.length)) (min (s.ringSize st p - (s.rdN (DLV_DESC_HEAD st p) + (s.ring st p).descs.length) % s.ringSize
    st p) (256 - (s.rdN (DLV_DESC_HEAD st p) + (s.ring st p).descs.length) % s.ringSize st p % 256)) ∧ 0 < n) ∧
  (∃ (s : State) (st : Fin 256) (p : Fin 2), (s.arbHolds (8 + p) 42 = false ∨ s.flag (activeF st p) = false ∨ (s.ring
    st p).withdraw = true ∨ (s.ring st p).fetch.isSome = true ∨ s.flag (PCIE_STATUS_BME p) = false)) ∧
  (∃ (s : State) (p : Fin 2) (tag : Nat) (i : Nat) (n : Nat) (st : Nat) (b : Bool), s.readerOf p tag = some st ∧
    (s.ring st p).fetch = some (tag, i, n, b)) ∧
  (∃ (s : State) (p : Fin 2) (tag : Nat) (i : Nat) (n : Nat) (st : Nat) (b : Bool), s.readerOf p tag = some st ∧
    (s.ring st p).fetch = some (tag, i, n, b)) ∧
  (∃ (s : State) (p : Fin 2) (tag : Nat), s.readerOf p tag = none ∧ tag ∈ (s.hport p).late) ∧
  (∃ (s : State) (p : Fin 2) (tag : Nat), s.readerOf p tag = none ∧ tag ∉ (s.hport p).late) ∧
  (∃ (s : State) (p : Fin 2) (tag : Nat) (st : Nat), s.readerOf p tag = some st) ∧
  (∃ (s : State) (p : Fin 2) (tag : Nat), s.readerOf p tag = none) ∧
  (∃ (s : State) (p : Fin 2) (h : ArbReq) (d : Delivery) (e : Delivery) (x : State), (s.arbOf (8 + p)).hold = some h
    ∧ s.servedDlv p h.req = some d ∧ s.flag (PCIE_STATUS_BME p) = true ∧ x = s.endWait d.num d.stream ∧ x.dlv.find?
    (fun (y : Delivery) => y.num == d.num) = some e) ∧
  (∃ (s : State) (p : Fin 2) (h : ArbReq) (d : Delivery), (s.arbOf (8 + p)).hold = some h ∧ s.servedDlv p h.req =
    some d ∧ s.flag (PCIE_STATUS_BME p) = true) ∧
  (∃ (s : State) (p : Fin 2) (h : ArbReq) (d : Delivery), (s.arbOf (8 + p)).hold = some h ∧ s.servedDlv p h.req =
    some d ∧ s.flag (PCIE_STATUS_BME p) = false) ∧
  (∃ (s : State) (p : Fin 2), (s.arbOf (8 + p)).hold = none) ∧
  (∃ (s : State) (st : Fin 256) (p : Fin 2) (d : Delivery), s.waiter st p = some d ∧ s.creditNs st < s.waitedFor d) ∧
  (∃ (s : State) (st : Fin 256) (p : Fin 2) (d : Delivery), s.waiter st p = some d ∧ s.waitedFor d ≤ s.creditNs st) :=
  ⟨
    ⟨(State.reset.putB (activeF 3 0) true), 3, 0, by decide +kernel⟩,
    ⟨(State.reset), 3, 0, by decide +kernel⟩,
    ⟨hostState, 3, 0, 1, 0, by decide +kernel⟩,
    ⟨hostState, 3, 0, 1, 9, by decide +kernel⟩,
    ⟨hostState, 1, 8, by decide +kernel⟩,
    ⟨(State.reset), 1, by decide +kernel⟩,
    ⟨((((State.reset.putB (activeF 3 0) true).putB (PCIE_STATUS_BME 0) true).wrN (DLV_DESC_TAIL 3 0) 1).modArb 8 (fun
      x => { x with hold := some ⟨42, 0, false, 16⟩ })), 3, 0, 1, by decide +kernel⟩,
    ⟨(State.reset), 3, 0, by decide +kernel⟩,
    ⟨(State.reset.modRing 3 0 (fun r => { r with fetch := some (1, 0, 1, false) })), 0, 1, 0, 1, 3, false,
      by decide +kernel⟩,
    ⟨(State.reset.modRing 3 0 (fun r => { r with fetch := some (1, 0, 1, false) })), 0, 1, 0, 1, 3, false,
      by decide +kernel⟩,
    ⟨(State.reset.modHport 0 (fun x => { x with late := [1] })), 0, 1, by decide +kernel⟩,
    ⟨(State.reset), 0, 1, by decide +kernel⟩,
    ⟨(State.reset.modRing 3 0 (fun r => { r with fetch := some (1, 0, 1, false) })), 0, 1, 3, by decide +kernel⟩,
    ⟨(State.reset), 0, 1, by decide +kernel⟩,
    ⟨(((State.reset.modDlvs (fun _ => [sampleDlv])).putB (PCIE_STATUS_BME 0) true).modArb 8 (fun x =>
      { x with hold := some ⟨State.reset.dlvReq sampleDlv, 0, false, 16⟩ })), 0, (⟨State.reset.dlvReq sampleDlv, 0,
      false, 16⟩), sampleDlv, sampleDlv, ((((State.reset.modDlvs (fun _ => [sampleDlv])).putB (PCIE_STATUS_BME 0)
      true).modArb 8 (fun x => { x with hold := some ⟨State.reset.dlvReq sampleDlv, 0, false, 16⟩ })).endWait 1 3),
      by decide +kernel⟩,
    ⟨(((State.reset.modDlvs (fun _ => [sampleDlv])).putB (PCIE_STATUS_BME 0) true).modArb 8 (fun x =>
      { x with hold := some ⟨State.reset.dlvReq sampleDlv, 0, false, 16⟩ })), 0, (⟨State.reset.dlvReq sampleDlv, 0,
      false, 16⟩), sampleDlv, by decide +kernel⟩,
    ⟨((((State.reset.modDlvs (fun _ => [sampleDlv])).putB (PCIE_STATUS_BME 0) true).modArb 8 (fun x =>
      { x with hold := some ⟨State.reset.dlvReq sampleDlv, 0, false, 16⟩ })).putB (PCIE_STATUS_BME 0) false), 0,
      (⟨State.reset.dlvReq sampleDlv, 0, false, 16⟩), sampleDlv, by decide +kernel⟩,
    ⟨(State.reset), 0, by decide +kernel⟩,
    ⟨((State.reset.modDlvs (fun _ => [{ sampleDlv with waitFrom := some 0 }])).modTb (fun t =>
      { t with ticks := 5 })), 3, 0, ({ sampleDlv with waitFrom := some 0 }), by decide +kernel⟩,
    ⟨(State.reset.modDlvs (fun _ => [{ sampleDlv with waitFrom := some 0 }])), 3, 0,
      ({ sampleDlv with waitFrom := some 0 }), by decide +kernel⟩⟩

theorem witness_DescriptorsComplete_2 :
  (∃ (s : State) (st : Fin 256) (p : Fin 2), s.waiter st p = none) ∧
  (∃ (s : State) (st : Fin 256) (p : Fin 2), s.deactMs st ≠ 0 ∧ s.flag (activeF st p) = true ∧ s.dlv.any (fun (d :
    Delivery) => d.stream == st.val && d.port == p.val && d.waitFrom.any (fun t => decide (t + 1000000 * s.deactMs st
    ≤ s.tb.ticks))) = true) ∧
  (∃ (s : State) (st : Fin 256) (p : Fin 2), (s.deactMs st = 0 ∨ s.flag (activeF st p) = false ∨ s.dlv.any (fun (d :
    Delivery) => d.stream == st.val && d.port == p.val && d.waitFrom.any (fun t => decide (t + 1000000 * s.deactMs st
    ≤ s.tb.ticks))) = false)) :=
  ⟨
    ⟨(State.reset), 3, 0, by decide +kernel⟩,
    ⟨((((State.reset.modDlvs (fun _ => [{ sampleDlv with waitFrom := some 0 }])).putB (activeF 3 0) true).modStrm 3
      (fun x => { x with defn := List.replicate 64 1 })).modTb (fun t => { t with ticks := 10 ^ 12 })), 3, 0,
      by decide +kernel⟩,
    ⟨(State.reset), 3, 0, by decide +kernel⟩⟩

theorem witness_DeliveryTimesComplete :
  (∃ (s : State) (st : Fin 256) (p : Fin 2), (s.ring st p).unsig ≠ 0 ∧ (s.ring st p).unsigAt + 1000 * s.get
    (DLV_IRQ_IRQ_US st) ≤ s.tb.ticks) ∧
  (∃ (s : State) (st : Fin 256) (p : Fin 2), (s.ring st p).unsig = 0 ∨ s.tb.ticks < (s.ring st p).unsigAt + 1000 *
    s.get (DLV_IRQ_IRQ_US st)) ∧
  (∃ (s : State), s.outCommit = true ∧ s.rateFrom + 1000000000 ≤ s.tb.ticks) ∧
  (∃ (s : State), (s.outCommit = false ∨ s.tb.ticks < s.rateFrom + 1000000000)) ∧
  (∃ (s : State) (m : Fin 3), s.reaches m = true ∧ s.flag DLV_RECALL_REQ_BUSY = false) ∧
  (∃ (s : State) (m : Fin 3), s.reaches m = true ∧ s.flag DLV_RECALL_REQ_BUSY = true) ∧
  (∃ (s : State) (m : Fin 3), s.reaches m = false) ∧
  (∃ (s : State) (a : Nat) (want : Option Nat) (x : State) (h : List Byte), x = s.ddrLand ∧ h = x.ddrRd a 128 ∧
    x.recl.walk = some (a, want) ∧ x.arbWaits (chanAt a) reqRecall = false ∧ x.get (DDR_STATUS_STATE (a / 2 ^ 36 %
    8)) ≠ 3 ∧ (want = none ∨ want = some (bytesAt h 0 8)) ∧ x.recl.notBefore ≤ recordTime h ∧ x.recl.wants h = false) ∧
  (∃ (s : State) (a : Nat) (want : Option Nat) (x : State) (h : List Byte) (pool : Option Nat) (y : State), x =
    s.ddrLand ∧ h = x.ddrRd a 128 ∧ x.recl.walk = some (a, want) ∧ x.arbWaits (chanAt a) reqRecall = false ∧ x.get
    (DDR_STATUS_STATE (a / 2 ^ 36 % 8)) ≠ 3 ∧ (want = none ∨ want = some (bytesAt h 0 8)) ∧ x.recl.notBefore ≤
    recordTime h ∧ x.recl.wants h = true ∧ x.entryFor [x.recl.out] = some pool ∧ y = x.modRecl (fun r =>
    { r with scanned := r.scanned + 1, found := r.found + 1 })) ∧
  (∃ (s : State) (a : Nat) (want : Option Nat) (x : State) (h : List Byte), x = s.ddrLand ∧ h = x.ddrRd a 128 ∧
    x.recl.walk = some (a, want) ∧ x.arbWaits (chanAt a) reqRecall = false ∧ x.get (DDR_STATUS_STATE (a / 2 ^ 36 %
    8)) ≠ 3 ∧ (want = none ∨ want = some (bytesAt h 0 8)) ∧ x.recl.notBefore ≤ recordTime h ∧ x.recl.wants h = true ∧
    x.entryFor [x.recl.out] = none) ∧
  (∃ (s : State) (a : Nat) (want : Option Nat) (x : State) (h : List Byte), x = s.ddrLand ∧ h = x.ddrRd a 128 ∧
    x.recl.walk = some (a, want) ∧ x.arbWaits (chanAt a) reqRecall = false ∧ x.get (DDR_STATUS_STATE (a / 2 ^ 36 %
    8)) ≠ 3 ∧ (want = none ∨ want = some (bytesAt h 0 8)) ∧ recordTime h < x.recl.notBefore) ∧
  (∃ (s : State) (a : Nat) (want : Option Nat) (x : State) (h : List Byte) (e : Nat), x = s.ddrLand ∧ h = x.ddrRd a
    128 ∧ x.recl.walk = some (a, want) ∧ x.arbWaits (chanAt a) reqRecall = false ∧ x.get (DDR_STATUS_STATE (a / 2 ^
    36 % 8)) ≠ 3 ∧ want = some e ∧ e ≠ bytesAt h 0 8) ∧
  (∃ (s : State) (a : Nat) (want : Option Nat) (x : State) (h : List Byte), x = s.ddrLand ∧ h = x.ddrRd a 128 ∧
    x.recl.walk = some (a, want) ∧ x.arbWaits (chanAt a) reqRecall = false ∧ x.get (DDR_STATUS_STATE (a / 2 ^ 36 %
    8)) ≠ 3) ∧
  (∃ (s : State) (a : Nat) (want : Option Nat) (x : State) (h : List Byte), x = s.ddrLand ∧ h = x.ddrRd a 128 ∧
    x.recl.walk = some (a, want) ∧ x.arbWaits (chanAt a) reqRecall = false ∧ x.get (DDR_STATUS_STATE (a / 2 ^ 36 %
    8)) = 3) ∧
  (∃ (s : State) (a : Nat) (want : Option Nat) (x : State) (h : List Byte), x = s.ddrLand ∧ h = x.ddrRd a 128 ∧
    x.recl.walk = some (a, want) ∧ x.arbWaits (chanAt a) reqRecall = true) ∧
  (∃ (s : State) (x : State), x = s.ddrLand ∧ x.recl.walk = none) :=
  ⟨
    ⟨((State.reset.modRing 3 0 (fun r => { r with unsig := 1 })).modTb (fun t => { t with ticks := 10 ^ 12 })), 3, 0,
      by decide +kernel⟩,
    ⟨(State.reset), 3, 0, by decide +kernel⟩,
    ⟨((State.reset.putB GLOBAL_COMMIT_OUTPUT_COMMIT true).modTb (fun t => { t with ticks := 10 ^ 9 })),
      by decide +kernel⟩,
    ⟨(State.reset), by decide +kernel⟩,
    ⟨hostState, 1, by decide +kernel⟩,
    ⟨(hostState.putB DLV_RECALL_REQ_BUSY true), 1, by decide +kernel⟩,
    ⟨(State.reset), 1, by decide +kernel⟩,
    ⟨(State.reset.modRecl (fun r => { r with walk := some (0, none), stream := 9 })), 0, none, ((State.reset.modRecl
      (fun r => { r with walk := some (0, none), stream := 9 })).ddrLand), ((State.reset.modRecl (fun r =>
      { r with walk := some (0, none), stream := 9 })).ddrRd 0 128), by decide +kernel⟩,
    ⟨(State.reset.modRecl (fun r => { r with walk := some (0, none) })), 0, none, ((State.reset.modRecl (fun r =>
      { r with walk := some (0, none) })).ddrLand), ((State.reset.modRecl (fun r =>
      { r with walk := some (0, none) })).ddrRd 0 128), none, (((State.reset.modRecl (fun r =>
      { r with walk := some (0, none) })).ddrLand).modRecl (fun r =>
      { r with scanned := r.scanned + 1, found := r.found + 1 })), by decide +kernel⟩,
    ⟨((State.reset.modRecl (fun r => { r with walk := some (0, none) })).put DLV_LEDGER_RES_N 131072), 0, none,
      (((State.reset.modRecl (fun r => { r with walk := some (0, none) })).put DLV_LEDGER_RES_N 131072).ddrLand),
      (((State.reset.modRecl (fun r => { r with walk := some (0, none) })).put DLV_LEDGER_RES_N 131072).ddrRd 0 128),
      by decide +kernel⟩,
    ⟨(State.reset.modRecl (fun r => { r with walk := some (0, none), notBefore := 1 })), 0, none,
      ((State.reset.modRecl (fun r => { r with walk := some (0, none), notBefore := 1 })).ddrLand),
      ((State.reset.modRecl (fun r => { r with walk := some (0, none), notBefore := 1 })).ddrRd 0 128),
      by decide +kernel⟩,
    ⟨(State.reset.modRecl (fun r => { r with walk := some (0, some 1) })), 0, (some 1), ((State.reset.modRecl (fun r
      => { r with walk := some (0, some 1) })).ddrLand), ((State.reset.modRecl (fun r =>
      { r with walk := some (0, some 1) })).ddrRd 0 128), 1, by decide +kernel⟩,
    ⟨(State.reset.modRecl (fun r => { r with walk := some (0, none) })), 0, none, ((State.reset.modRecl (fun r =>
      { r with walk := some (0, none) })).ddrLand), ((State.reset.modRecl (fun r =>
      { r with walk := some (0, none) })).ddrRd 0 128), by decide +kernel⟩,
    ⟨((State.reset.modRecl (fun r => { r with walk := some (0, none) })).put (DDR_STATUS_STATE 0) 3), 0, none,
      (((State.reset.modRecl (fun r => { r with walk := some (0, none) })).put (DDR_STATUS_STATE 0) 3).ddrLand),
      (((State.reset.modRecl (fun r => { r with walk := some (0, none) })).put (DDR_STATUS_STATE 0) 3).ddrRd 0 128),
      by decide +kernel⟩,
    ⟨(((State.reset.put (DDR_STATUS_STATE 0) 2).modRecl (fun r => { r with walk := some (0, none) })).modArb 0 (fun x
      => { x with reqs := [⟨reqRecall, 0, false, 8⟩] })), 0, none, ((((State.reset.put (DDR_STATUS_STATE 0)
      2).modRecl (fun r => { r with walk := some (0, none) })).modArb 0 (fun x =>
      { x with reqs := [⟨reqRecall, 0, false, 8⟩] })).ddrLand), ((((State.reset.put (DDR_STATUS_STATE 0) 2).modRecl
      (fun r => { r with walk := some (0, none) })).modArb 0 (fun x =>
      { x with reqs := [⟨reqRecall, 0, false, 8⟩] })).ddrRd 0 128), by decide +kernel⟩,
    ⟨(State.reset), (State.reset.ddrLand), by decide +kernel⟩⟩

theorem witness_LinkAndFunctionComplete :
  (∃ (s : State) (p : Fin 2) (g : Fin 7) (w : Fin 17), s.trains p = true ∧ g.val ≠ 0 ∧ g.val ≤ s.maxGen p ∧ w.val ≤
    s.maxWidth p ∧ (w.val = 4 ∨ w.val = 8 ∨ w.val = 16)) ∧
  (∃ (s : State) (p : Fin 2) (g : Fin 7) (w : Fin 17), (s.trains p = false ∨ g.val = 0 ∨ s.maxGen p < g.val ∨
    s.maxWidth p < w.val ∨ (w.val ≠ 4 ∧ w.val ≠ 8 ∧ w.val ≠ 16))) ∧
  (∃ (s : State) (p : Fin 2), s.flag (PCIE_LINK_UP p) = true) ∧
  (∃ (s : State) (p : Fin 2), s.flag (PCIE_LINK_UP p) = false) ∧
  (∃ (s : State) (p : Fin 2), s.trains p = true) ∧
  (∃ (s : State) (p : Fin 2), s.trains p = false) ∧
  (∃ (s : State) (p : Fin 2) (m : Fin 3) (v : Word), s.reaches m = true ∧ (s.storeAt (PCIE_CFG p) false 0 v.toNat).2
    = 0) ∧
  (∃ (s : State) (p : Fin 2) (m : Fin 3) (v : Word), s.reaches m = true ∧ (s.storeAt (PCIE_CFG p) false 0 v.toNat).2
    ≠ 0) ∧
  (∃ (s : State) (m : Fin 3), s.reaches m = false) ∧
  (∃ (s : State) (p : Fin 2), s.cfgTakes p = true ∧ s.flag (PCIE_STATUS_BME p) = true) ∧
  (∃ (s : State) (p : Fin 2), s.cfgTakes p = true ∧ s.flag (PCIE_STATUS_BME p) = false) ∧
  (∃ (s : State) (p : Fin 2), s.cfgTakes p = true ∧ s.flag (PCIE_STATUS_D3 p) = false) ∧
  (∃ (s : State) (p : Fin 2), s.cfgTakes p = true ∧ s.flag (PCIE_STATUS_D3 p) = true) ∧
  (∃ (s : State) (p : Fin 2), (s.cfgTakes p = false ∨ s.flag (PCIE_STATUS_BME p) = false)) ∧
  (∃ (s : State) (p : Fin 2), (s.cfgTakes p = false ∨ s.flag (PCIE_STATUS_BME p) = true)) ∧
  (∃ (s : State) (p : Fin 2), (s.cfgTakes p = false ∨ s.flag (PCIE_STATUS_D3 p) = true)) ∧
  (∃ (s : State) (p : Fin 2), (s.cfgTakes p = false ∨ s.flag (PCIE_STATUS_D3 p) = false)) ∧
  (∃ (s : State) (p : Fin 2) (y : State), s.cfgTakes p = true ∧ y = (((((s.modMc (fun m =>
    { m with mboxLate := m.mboxLate.filter (fun q => q != p.val) })).orphan p).putB (PCIE_STATUS_BME p)
    false).portHalt p).mboxAbandon p) ∧ (∀ st, st < 256 → (y.admitted st && (y.strm st).mbox == some p.val) = false)) ∧
  (∃ (s : State) (p : Fin 2) (y : State) (g : List Nat), s.cfgTakes p = true ∧ y = (((((s.modMc (fun m =>
    { m with mboxLate := m.mboxLate.filter (fun q => q != p.val) })).orphan p).putB (PCIE_STATUS_BME p)
    false).portHalt p).mboxAbandon p) ∧ g = (List.range 256).filter (fun st => y.admitted st && (y.strm st).mbox ==
    some p.val) ∧ g ≠ []) ∧
  (∃ (s : State) (p : Fin 2), s.cfgTakes p = false) :=
  ⟨
    ⟨((((State.reset.modPower (fun x => { x with mcDown := false })).putB (PCIE_CFG_ENABLE 1) true).putB
      (PCIE_STATUS_PERST 1) false).put GLOBAL_PLL_STATUS_LOCKED 256), 3, 1, 4, by decide +kernel⟩,
    ⟨(State.reset), 3, 1, 4, by decide +kernel⟩,
    ⟨(State.reset.putB (PCIE_LINK_UP 1) true), 3, by decide +kernel⟩,
    ⟨(State.reset), 3, by decide +kernel⟩,
    ⟨(((State.reset.putB (PCIE_CFG_ENABLE 1) true).putB (PCIE_STATUS_PERST 1) false).put GLOBAL_PLL_STATUS_LOCKED
      256), 3, by decide +kernel⟩,
    ⟨(State.reset), 3, by decide +kernel⟩,
    ⟨hostState, 3, 1, 0, by decide +kernel⟩,
    ⟨(hostState.putB GLOBAL_COMMIT_CL_COMMIT true), 3, 1, 1, by decide +kernel⟩,
    ⟨(State.reset), 1, by decide +kernel⟩,
    ⟨((State.reset.putB (PCIE_LINK_UP 1) true).putB (PCIE_STATUS_BME 1) true), 3, by decide +kernel⟩,
    ⟨(State.reset.putB (PCIE_LINK_UP 1) true), 3, by decide +kernel⟩,
    ⟨(State.reset.putB (PCIE_LINK_UP 1) true), 3, by decide +kernel⟩,
    ⟨((State.reset.putB (PCIE_LINK_UP 1) true).putB (PCIE_STATUS_D3 1) true), 3, by decide +kernel⟩,
    ⟨(State.reset), 3, by decide +kernel⟩,
    ⟨(State.reset), 3, by decide +kernel⟩,
    ⟨(State.reset), 3, by decide +kernel⟩,
    ⟨(State.reset), 3, by decide +kernel⟩,
    ⟨(State.reset.putB (PCIE_LINK_UP 1) true), 3, (((((((State.reset.putB (PCIE_LINK_UP 1) true).modMc (fun m =>
      { m with mboxLate := m.mboxLate.filter (fun q => q != 1) })).orphan 1).putB (PCIE_STATUS_BME 1) false).portHalt
      1).mboxAbandon 1)), ⟨by decide +kernel, rfl, by decide +kernel⟩⟩,
    ⟨(((((State.reset.putB (PCIE_LINK_UP 1) true).putB (DLV_STATUS_ADMITTED 3) true)).modStrm 3 (fun x =>
      { x with mbox := some 1 }))), 3, ((((((((((State.reset.putB (PCIE_LINK_UP 1) true).putB (DLV_STATUS_ADMITTED 3)
      true)).modStrm 3 (fun x => { x with mbox := some 1 })).modMc (fun m =>
      { m with mboxLate := m.mboxLate.filter (fun q => q != 1) })).orphan 1).putB (PCIE_STATUS_BME 1) false).portHalt
      1).mboxAbandon 1)), [3], ⟨by decide +kernel, rfl, by decide +kernel, by decide +kernel⟩⟩,
    ⟨(State.reset), 3, by decide +kernel⟩⟩

theorem witness_LinkAndFunctionComplete_2 :
  (∃ (s : State) (p : Fin 2), s.flag (PCIE_STATUS_FLR_ACTIVE p) = true) ∧
  (∃ (s : State) (p : Fin 2), s.flag (PCIE_STATUS_FLR_ACTIVE p) = false) ∧
  (∃ (s : State) (p : Fin 2), s.flag (PCIE_LINK_UP p) = true) ∧
  (∃ (s : State) (p : Fin 2), s.flag (PCIE_LINK_UP p) = true) ∧
  (∃ (s : State) (p : Fin 2), s.flag (PCIE_LINK_UP p) = true) ∧
  (∃ (s : State) (p : Fin 2), s.flag (PCIE_LINK_UP p) = true) ∧
  (∃ (s : State) (p : Fin 2), s.flag (PCIE_LINK_UP p) = true) ∧
  (∃ (s : State) (p : Fin 2), s.flag (PCIE_LINK_UP p) = true ∧ bit (s.cfgRd p 0x118) 8 = true) ∧
  (∃ (s : State) (p : Fin 2), s.flag (PCIE_LINK_UP p) = true ∧ bit (s.cfgRd p 0x118) 8 = false) ∧
  (∃ (s : State) (p : Fin 2), s.flag (PCIE_LINK_UP p) = true) ∧
  (∃ (s : State) (p : Fin 2), s.flag (PCIE_LINK_UP p) = true) ∧
  (∃ (s : State) (p : Fin 2), s.flag (PCIE_LINK_UP p) = true) ∧
  (∃ (s : State) (p : Fin 2), s.flag (PCIE_LINK_UP p) = false) :=
  ⟨
    ⟨(State.reset.putB (PCIE_STATUS_FLR_ACTIVE 1) true), 3, by decide +kernel⟩,
    ⟨(State.reset), 3, by decide +kernel⟩,
    ⟨(State.reset.putB (PCIE_LINK_UP 1) true), 3, by decide +kernel⟩,
    ⟨(State.reset.putB (PCIE_LINK_UP 1) true), 3, by decide +kernel⟩,
    ⟨(State.reset.putB (PCIE_LINK_UP 1) true), 3, by decide +kernel⟩,
    ⟨(State.reset.putB (PCIE_LINK_UP 1) true), 3, by decide +kernel⟩,
    ⟨(State.reset.putB (PCIE_LINK_UP 1) true), 3, by decide +kernel⟩,
    ⟨((State.reset.putB (PCIE_LINK_UP 1) true).cfgWr 1 0x118 256), 3, by decide +kernel⟩,
    ⟨(State.reset.putB (PCIE_LINK_UP 1) true), 3, by decide +kernel⟩,
    ⟨(State.reset.putB (PCIE_LINK_UP 1) true), 3, by decide +kernel⟩,
    ⟨(State.reset.putB (PCIE_LINK_UP 1) true), 3, by decide +kernel⟩,
    ⟨(State.reset.putB (PCIE_LINK_UP 1) true), 3, by decide +kernel⟩,
    ⟨(State.reset), 3, by decide +kernel⟩⟩

theorem witness_HostRequestsComplete :
  (∃ (s : State) (p : Fin 2), s.cfgTakes p = true) ∧
  (∃ (s : State) (p : Fin 2), s.cfgTakes p = true) ∧
  (∃ (s : State) (p : Fin 2), s.cfgTakes p = false) ∧
  (∃ (s : State) (p : Fin 2) (k : Fin 3), s.cfgTakes p = true ∧ k ≠ 2 ∧ s.flag (PCIE_STATUS_D3 p) = false ∧ s.flag
    (PCIE_WIN_STATUS_COMMIT_PENDING p) = false) ∧
  (∃ (s : State) (p : Fin 2) (k : Fin 3), s.cfgTakes p = true ∧ k ≠ 2 ∧ s.flag (PCIE_STATUS_D3 p) = false ∧ s.flag
    (PCIE_WIN_STATUS_COMMIT_PENDING p) = true) ∧
  (∃ (s : State) (p : Fin 2) (k : Fin 3), s.cfgTakes p = true ∧ k ≠ 2 ∧ s.flag (PCIE_STATUS_D3 p) = true) ∧
  (∃ (s : State) (p : Fin 2), s.cfgTakes p = true) ∧
  (∃ (s : State) (p : Fin 2), s.cfgTakes p = false) ∧
  (∃ (s : State) (p : Fin 2) (i : Nat) (r : PeerReq), (s.hport p).reads[i]? = some r ∧ s.arbWaits (chanAt r.addr)
    reqPeer = false) ∧
  (∃ (s : State) (p : Fin 2) (i : Nat) (r : PeerReq), (s.hport p).reads[i]? = some r ∧ s.arbWaits (chanAt r.addr)
    reqPeer = true) ∧
  (∃ (s : State) (p : Fin 2) (i : Nat), (s.hport p).reads[i]? = none) ∧
  (∃ (s : State) (p : Fin 2) (m : Fin 3), s.reaches m = true ∧ ownPort m p = true ∧ s.flag
    (PCIE_WIN_STATUS_COMMIT_PENDING p) = false) ∧
  (∃ (s : State) (p : Fin 2) (m : Fin 3), s.reaches m = true ∧ ownPort m p = true ∧ s.flag
    (PCIE_WIN_STATUS_COMMIT_PENDING p) = true) ∧
  (∃ (s : State) (p : Fin 2) (m : Fin 3), s.reaches m = true ∧ ownPort m p = false) ∧
  (∃ (s : State) (m : Fin 3), s.reaches m = false) ∧
  (∃ (s : State) (p : Fin 2) (x : State), x = s.ddrLand ∧ x.flag (PCIE_WIN_STATUS_COMMIT_PENDING p) = true ∧ (x.hport
    p).reads = [] ∧ x.ddrOut.all (fun (w : DdrWrite) => w.req != reqPeer || w.port != p.val) = true) ∧
  (∃ (s : State) (p : Fin 2) (x : State), x = s.ddrLand ∧ (x.flag (PCIE_WIN_STATUS_COMMIT_PENDING p) = false ∨
    (x.hport p).reads ≠ [] ∨ x.ddrOut.all (fun (w : DdrWrite) => w.req != reqPeer || w.port != p.val) = false)) ∧
  (∃ (s : State) (p : Fin 2) (v : Fin 2048), s.flag ⟨MSIX_PBA p (v / 32), v % 32, 1⟩ = true ∧ s.msixOpen p v = true) ∧
  (∃ (s : State) (p : Fin 2) (v : Fin 2048), (s.flag ⟨MSIX_PBA p (v / 32), v % 32, 1⟩ = false ∨ s.msixOpen p v =
    false)) :=
  ⟨
    ⟨(State.reset.putB (PCIE_LINK_UP 1) true), 3, by decide +kernel⟩,
    ⟨(State.reset.putB (PCIE_LINK_UP 1) true), 3, by decide +kernel⟩,
    ⟨(State.reset), 3, by decide +kernel⟩,
    ⟨(State.reset.putB (PCIE_LINK_UP 1) true), 3, 1, by decide +kernel⟩,
    ⟨((State.reset.putB (PCIE_LINK_UP 1) true).putB (PCIE_WIN_STATUS_COMMIT_PENDING 1) true), 3, 1,
      by decide +kernel⟩,
    ⟨((State.reset.putB (PCIE_LINK_UP 1) true).putB (PCIE_STATUS_D3 1) true), 3, 1, by decide +kernel⟩,
    ⟨(State.reset.putB (PCIE_LINK_UP 1) true), 3, by decide +kernel⟩,
    ⟨(State.reset), 3, by decide +kernel⟩,
    ⟨(State.reset.modHport 1 (fun x => { x with reads := [⟨false, 0, [], 0, 0, false⟩] })), 1, 0, (⟨false, 0, [], 0,
      0, false⟩), by decide +kernel⟩,
    ⟨(((State.reset.put (DDR_STATUS_STATE 0) 2).modHport 1 (fun x =>
      { x with reads := [⟨false, 0, [], 0, 0, false⟩] })).modArb 0 (fun x =>
      { x with reqs := [⟨reqPeer, 0, false, 8⟩] })), 1, 0, (⟨false, 0, [], 0, 0, false⟩), by decide +kernel⟩,
    ⟨(State.reset), 3, 1, by decide +kernel⟩,
    ⟨hostState, 0, 1, by decide +kernel⟩,
    ⟨(hostState.putB (PCIE_WIN_STATUS_COMMIT_PENDING 0) true), 0, 1, by decide +kernel⟩,
    ⟨hostState, 1, 1, by decide +kernel⟩,
    ⟨(State.reset), 1, by decide +kernel⟩,
    ⟨(State.reset.putB (PCIE_WIN_STATUS_COMMIT_PENDING 1) true), 1, ((State.reset.putB
      (PCIE_WIN_STATUS_COMMIT_PENDING 1) true).ddrLand), by decide +kernel⟩,
    ⟨(State.reset), 3, (State.reset.ddrLand), by decide +kernel⟩,
    ⟨((((State.reset.cfgWr 1 0x50 (2 ^ 31)).putB ⟨MSIX_PBA 1 0, 3, 1⟩ true).putB (PCIE_STATUS_BME 1) true).putB
      (MSIX_CTRL_MASK 1 3) false), 3, 3, by decide +kernel⟩,
    ⟨(State.reset), 3, 3, by decide +kernel⟩⟩

theorem witness_ManagementComplete :
  (∃ (s : State) (temps : List Nat) (volts : List Nat) (a : List Nat), s.held = false ∧ a = ((temps ++ List.replicate
    8 0).take 8 ++ (volts ++ List.replicate 16 0).take 16).map (fun v => v % 2 ^ 16)) ∧
  (∃ (s : State), s.held = true) ∧
  (∃ (s : State), s.power.porst = false) ∧
  (∃ (s : State), s.power.porst = true) ∧
  (∃ (s : State), s.held = false ∧ s.fwRuns = false) ∧
  (∃ (s : State), s.held = false ∧ s.fwRuns = true) ∧
  (∃ (s : State), s.held = true) ∧
  (∃ (s : State), s.fwRuns = true) ∧
  (∃ (s : State), s.fwRuns = false) ∧
  (∃ (s : State) (x : State), s.held = false ∧ x = s.raise 11 MC_EVENTS_PMB_ALERT ∧ x.fwRuns = false) ∧
  (∃ (s : State) (x : State), s.held = false ∧ x = s.raise 11 MC_EVENTS_PMB_ALERT ∧ x.fwRuns = true) ∧
  (∃ (s : State), s.held = true) ∧
  (∃ (s : State) (i : LogItem) (r : List LogItem), s.power.porst = false ∧ s.log.queue = i :: r) ∧
  (∃ (s : State), (s.power.porst = true ∨ s.log.queue = [])) ∧
  (∃ (s : State) (code : Nat) (item : Nat) (l : Limiter), s.log.limiters.find? (fun (x : Limiter) => x.isFor code
    item) = some l ∧ l.since + 1000000000 ≤ s.tb.ticks ∧ l.count = 0) ∧
  (∃ (s : State) (code : Nat) (item : Nat) (l : Limiter) (x : State), s.log.limiters.find? (fun (x : Limiter) =>
    x.isFor code item) = some l ∧ l.since + 1000000000 ≤ s.tb.ticks ∧ l.count ≠ 0 ∧ x = s.logX code l.unit (limArg
    l.counted l.count l.arg) l.exts) ∧
  (∃ (s : State) (code : Nat) (item : Nat) (l : Limiter), s.log.limiters.find? (fun (x : Limiter) => x.isFor code
    item) = some l ∧ s.tb.ticks < l.since + 1000000000) ∧
  (∃ (s : State) (code : Nat) (item : Nat), s.log.limiters.find? (fun (x : Limiter) => x.isFor code item) = none) ∧
  (∃ (s : State) (n : Nat), s.fwRuns = true ∧ n = min s.ringHeld ((s.rdN MC_LOG_HEAD + 2 ^ 32 - s.rdN MC_LOG_FLASHED)
    % 2 ^ 32)) ∧
  (∃ (s : State), s.fwRuns = false) :=
  ⟨
    ⟨(State.reset), [], [], (List.replicate 24 0), by decide +kernel⟩,
    ⟨(State.reset.modPower (fun x => { x with porst := true })), by decide +kernel⟩,
    ⟨(State.reset), by decide +kernel⟩,
    ⟨(State.reset.modPower (fun x => { x with porst := true })), by decide +kernel⟩,
    ⟨(State.reset), by decide +kernel⟩,
    ⟨fwState, by decide +kernel⟩,
    ⟨(State.reset.modPower (fun x => { x with porst := true })), by decide +kernel⟩,
    ⟨fwState, by decide +kernel⟩,
    ⟨(State.reset), by decide +kernel⟩,
    ⟨(State.reset), (State.reset.raise 11 MC_EVENTS_PMB_ALERT), by decide +kernel⟩,
    ⟨fwState, (fwState.raise 11 MC_EVENTS_PMB_ALERT), by decide +kernel⟩,
    ⟨(State.reset.modPower (fun x => { x with porst := true })), by decide +kernel⟩,
    ⟨(State.reset.modLog (fun g => { g with queue := [⟨⟨0, 0, 0, 0⟩, []⟩] })), (⟨⟨0, 0, 0, 0⟩, []⟩), [],
      by decide +kernel⟩,
    ⟨(State.reset), by decide +kernel⟩,
    ⟨((State.reset.modLog (fun g => { g with limiters := [{ sampleLimiter with count := 0 }] })).modTb (fun t =>
      { t with ticks := 10 ^ 9 })), 0x1001, 0, ({ sampleLimiter with count := 0 }), by decide +kernel⟩,
    ⟨((State.reset.modLog (fun g => { g with limiters := [sampleLimiter] })).modTb (fun t =>
      { t with ticks := 10 ^ 9 })), 0x1001, 0, sampleLimiter, (((State.reset.modLog (fun g =>
      { g with limiters := [sampleLimiter] })).modTb (fun t => { t with ticks := 10 ^ 9 })).logX 0x1001
      sampleLimiter.unit (limArg sampleLimiter.counted sampleLimiter.count sampleLimiter.arg) sampleLimiter.exts),
      by decide +kernel⟩,
    ⟨(State.reset.modLog (fun g => { g with limiters := [sampleLimiter] })), 0x1001, 0, sampleLimiter,
      by decide +kernel⟩,
    ⟨(State.reset), 1, 1, by decide +kernel⟩,
    ⟨fwState, 0, by decide +kernel⟩,
    ⟨(State.reset), by decide +kernel⟩⟩

theorem witness_ManagementComplete_2 :
  (∃ (s : State) (p : Fin 4) (bs : List (Bool × Block)) (y : State), isFrame bs 0x70 (1 + ceilDiv (fByte bs 0 5) 7) =
    true ∧ fByte bs 0 5 ≠ 0 ∧ fByte bs 0 5 ≤ 224 ∧ s.sillState p = 4 ∧ frameOk bs = true ∧ s.sillRelay p ⟨3, false,
    false, bs⟩ = (true, y) ∧ (y.fwRuns && (bit (fNum bs 0 1 2) 15 || fNum bs 0 1 2 % 1024 == y.nodeId)) = true) ∧
  (∃ (s : State) (p : Fin 4) (bs : List (Bool × Block)) (y : State), isFrame bs 0x70 (1 + ceilDiv (fByte bs 0 5) 7) =
    true ∧ fByte bs 0 5 ≠ 0 ∧ fByte bs 0 5 ≤ 224 ∧ s.sillState p = 4 ∧ frameOk bs = true ∧ s.sillRelay p ⟨3, false,
    false, bs⟩ = (true, y) ∧ (y.fwRuns && (bit (fNum bs 0 1 2) 15 || fNum bs 0 1 2 % 1024 == y.nodeId)) = false) ∧
  (∃ (s : State) (p : Fin 4) (bs : List (Bool × Block)) (y : State), isFrame bs 0x70 (1 + ceilDiv (fByte bs 0 5) 7) =
    true ∧ fByte bs 0 5 ≠ 0 ∧ fByte bs 0 5 ≤ 224 ∧ s.sillState p = 4 ∧ frameOk bs = true ∧ s.sillRelay p ⟨3, false,
    false, bs⟩ = (false, y)) ∧
  (∃ (s : State) (p : Fin 4) (bs : List (Bool × Block)), isFrame bs 0x70 (1 + ceilDiv (fByte bs 0 5) 7) = true ∧
    fByte bs 0 5 ≠ 0 ∧ fByte bs 0 5 ≤ 224 ∧ s.sillState p = 4 ∧ frameOk bs = false) ∧
  (∃ (s : State) (p : Fin 4) (bs : List (Bool × Block)), (isFrame bs 0x70 (1 + ceilDiv (fByte bs 0 5) 7) = false ∨
    fByte bs 0 5 = 0 ∨ 224 < fByte bs 0 5 ∨ s.sillState p ≠ 4)) ∧
  (∃ (s : State) (x : State), s.mayConfirm = true ∧ s.recByte 4 = 0 ∧ x = (((s.recMark 18).logC 0x8063 noUnit
    0).raise 11 MC_EVENTS_UPDATE_DONE).put MC_UPDATE_STATUS_STATE 0 ∧ (x.mc.fwFloor && decide (x.fwCtr < x.mc.fwSec))
    = true) ∧
  (∃ (s : State) (x : State), s.mayConfirm = true ∧ s.recByte 4 = 0 ∧ x = (((s.recMark 18).logC 0x8063 noUnit
    0).raise 11 MC_EVENTS_UPDATE_DONE).put MC_UPDATE_STATUS_STATE 0 ∧ (x.mc.fwFloor && decide (x.fwCtr < x.mc.fwSec))
    = false) ∧
  (∃ (s : State) (x : State), s.mayConfirm = true ∧ s.recByte 4 ≠ 0 ∧ x = (((s.recMark 18).logC 0x8063 noUnit
    0).raise 11 MC_EVENTS_UPDATE_DONE).put MC_UPDATE_STATUS_STATE 0 ∧ (x.recDone 23 && decide (x.clCtr < x.mc.clSec))
    = true) ∧
  (∃ (s : State) (x : State), s.mayConfirm = true ∧ s.recByte 4 ≠ 0 ∧ x = (((s.recMark 18).logC 0x8063 noUnit
    0).raise 11 MC_EVENTS_UPDATE_DONE).put MC_UPDATE_STATUS_STATE 0 ∧ (x.recDone 23 && decide (x.clCtr < x.mc.clSec))
    = false) ∧
  (∃ (s : State), s.mayConfirm = false) ∧
  (∃ (s : State) (b : Bool), s.fwRuns = true ∧ s.mc.keyReady = false ∧ (3 ≤ s.get GLOBAL_BOOT_STATUS_STAGE ∨
    s.clCommit = true) ∧ b = s.certValid s.certificate) ∧
  (∃ (s : State), (s.fwRuns = false ∨ s.mc.keyReady = true ∨ (s.get GLOBAL_BOOT_STATUS_STAGE < 3 ∧ s.clCommit =
    false))) :=
  ⟨
    ⟨(((((sillUpState 1).modPower (fun x => { x with mcDown := false })).modMc (fun m =>
      { m with fwOn := true })).putB (SILL_PORT_STATUS_SELECTED 3) true)), 3, ([sillC 0x70 [0, 0, 0, 0, 1], sillD
      [5]]), (((((((sillUpState 1).modPower (fun x => { x with mcDown := false })).modMc (fun m =>
      { m with fwOn := true })).putB (SILL_PORT_STATUS_SELECTED 3) true)).sillRelay 3 ⟨3, false, false, [sillC 0x70
      [0, 0, 0, 0, 1], sillD [5]]⟩).2), by decide +kernel⟩,
    ⟨((sillUpState 1).putB (SILL_PORT_STATUS_SELECTED 3) true), 3, ([sillC 0x70 [0, 0, 0, 0, 1], sillD [5]]),
      ((((sillUpState 1).putB (SILL_PORT_STATUS_SELECTED 3) true).sillRelay 3 ⟨3, false, false, [sillC 0x70 [0, 0, 0,
      0, 1], sillD [5]]⟩).2), by decide +kernel⟩,
    ⟨(sillUpState 1), 3, ([sillC 0x70 [0, 0, 0, 0, 1], sillD [5]]), (((sillUpState 1).sillRelay 3 ⟨3, false, false,
      [sillC 0x70 [0, 0, 0, 0, 1], sillD [5]]⟩).2), by decide +kernel⟩,
    ⟨(State.reset.toSill 3 4), 3, ([(true, 0x010000000070), sillD [5]]), by decide +kernel⟩,
    ⟨(State.reset), 3, [], by decide +kernel⟩,
    ⟨((((trialState 0).modTb (fun t => { t with ticks := 10 ^ 11 })).modMc (fun m =>
      { m with fwFloor := true, fwSec := 9 }))), ((((((((trialState 0).modTb (fun t =>
      { t with ticks := 10 ^ 11 })).modMc (fun m => { m with fwFloor := true, fwSec := 9 })).recMark 18).logC 0x8063
      noUnit 0).raise 11 MC_EVENTS_UPDATE_DONE).put MC_UPDATE_STATUS_STATE 0)), by decide +kernel⟩,
    ⟨(((trialState 0).modTb (fun t => { t with ticks := 10 ^ 11 }))), ((((((((trialState 0).modTb (fun t =>
      { t with ticks := 10 ^ 11 }))).recMark 18).logC 0x8063 noUnit 0).raise 11 MC_EVENTS_UPDATE_DONE).put
      MC_UPDATE_STATUS_STATE 0)), by decide +kernel⟩,
    ⟨((((trialState 1).modTb (fun t => { t with ticks := 10 ^ 11 })).recMark 23).modMc (fun m =>
      { m with clSec := 9 })), (((((((((trialState 1).modTb (fun t => { t with ticks := 10 ^ 11 })).recMark 23).modMc
      (fun m => { m with clSec := 9 })).recMark 18).logC 0x8063 noUnit 0).raise 11 MC_EVENTS_UPDATE_DONE).put
      MC_UPDATE_STATUS_STATE 0)), by decide +kernel⟩,
    ⟨(((trialState 1).modTb (fun t => { t with ticks := 10 ^ 11 }))), ((((((((trialState 1).modTb (fun t =>
      { t with ticks := 10 ^ 11 }))).recMark 18).logC 0x8063 noUnit 0).raise 11 MC_EVENTS_UPDATE_DONE).put
      MC_UPDATE_STATUS_STATE 0)), by decide +kernel⟩,
    ⟨(State.reset), by decide +kernel⟩,
    ⟨(fwState.put GLOBAL_BOOT_STATUS_STAGE 3), false, by decide +kernel⟩,
    ⟨(State.reset), by decide +kernel⟩⟩

theorem witness_SillLinksComplete :
  (∃ (s : State) (p : Fin 4), s.sillState p = 1) ∧
  (∃ (s : State) (p : Fin 4), s.sillState p ≠ 1) ∧
  (∃ (s : State) (p : Fin 4), s.sillState p = 4) ∧
  (∃ (s : State) (p : Fin 4), s.sillState p ≠ 4) ∧
  (∃ (s : State) (p : Fin 4), (s.sillState p = 2 ∨ s.sillState p = 4 ∨ s.sillState p = 5)) ∧
  (∃ (s : State) (p : Fin 4), s.sillState p ≠ 2 ∧ s.sillState p ≠ 4 ∧ s.sillState p ≠ 5) ∧
  (∃ (s : State) (p : Fin 4) (bs : List (Bool × Block)) (x : State), isFrame bs 0x20 2 = true ∧ s.sillState p = 2 ∧
    frameOk bs = true ∧ x = (s.put (SILL_PORT_STATUS_PARTNER_ID p) (fNum bs 0 1 2)).put
    (SILL_PORT_STATUS_PARTNER_DEPTH p) (fByte bs 0 4) ∧ x.helloCause p (fByte bs 0 3) (fByte bs 0 4) (fNum bs 0 1 2)
    (fByte bs 0 6) = 0 ∧ (x.sport p).hellos = 0) ∧
  (∃ (s : State) (p : Fin 4) (bs : List (Bool × Block)) (x : State), isFrame bs 0x20 2 = true ∧ s.sillState p = 2 ∧
    frameOk bs = true ∧ x = (s.put (SILL_PORT_STATUS_PARTNER_ID p) (fNum bs 0 1 2)).put
    (SILL_PORT_STATUS_PARTNER_DEPTH p) (fByte bs 0 4) ∧ x.helloCause p (fByte bs 0 3) (fByte bs 0 4) (fNum bs 0 1 2)
    (fByte bs 0 6) = 0 ∧ (x.sport p).hellos ≠ 0) ∧
  (∃ (s : State) (p : Fin 4) (bs : List (Bool × Block)) (x : State) (k : Nat), isFrame bs 0x20 2 = true ∧ s.sillState
    p = 2 ∧ frameOk bs = true ∧ x = (s.put (SILL_PORT_STATUS_PARTNER_ID p) (fNum bs 0 1 2)).put
    (SILL_PORT_STATUS_PARTNER_DEPTH p) (fByte bs 0 4) ∧ k = x.helloCause p (fByte bs 0 3) (fByte bs 0 4) (fNum bs 0 1
    2) (fByte bs 0 6) ∧ k ≠ 0) ∧
  (∃ (s : State) (p : Fin 4) (bs : List (Bool × Block)), isFrame bs 0x20 2 = true ∧ s.sillState p = 4 ∧ frameOk bs =
    true) ∧
  (∃ (s : State) (p : Fin 4) (bs : List (Bool × Block)), isFrame bs 0x20 2 = true ∧ (s.sillState p = 2 ∨ s.sillState
    p = 4) ∧ frameOk bs = false) ∧
  (∃ (s : State) (p : Fin 4) (bs : List (Bool × Block)), (isFrame bs 0x20 2 = false ∨ (s.sillState p ≠ 2 ∧
    s.sillState p ≠ 4))) ∧
  (∃ (s : State) (p : Fin 4), s.sillState p = 2 ∧ s.sillStayed p 10000000 = true) ∧
  (∃ (s : State) (p : Fin 4), (s.sillState p ≠ 2 ∨ s.sillStayed p 10000000 = false)) ∧
  (∃ (s : State) (p : Fin 4), s.sillState p = 3 ∧ s.sillStayed p 10000000 = true) ∧
  (∃ (s : State) (p : Fin 4), (s.sillState p ≠ 3 ∨ s.sillStayed p 10000000 = false)) ∧
  (∃ (s : State) (p : Fin 4), s.sillState p = 5 ∧ s.sillStayed p 1000000000 = true) ∧
  (∃ (s : State) (p : Fin 4), (s.sillState p ≠ 5 ∨ s.sillStayed p 1000000000 = false)) ∧
  (∃ (s : State) (p : Fin 4), (s.sillState p = 3 ∨ s.sillState p = 4)) ∧
  (∃ (s : State) (p : Fin 4), s.sillState p ≠ 3 ∧ s.sillState p ≠ 4) :=
  ⟨
    ⟨(State.reset.toSill 3 1), 3, by decide +kernel⟩,
    ⟨(State.reset), 3, by decide +kernel⟩,
    ⟨(State.reset.toSill 3 4), 3, by decide +kernel⟩,
    ⟨(State.reset), 3, by decide +kernel⟩,
    ⟨(State.reset.toSill 3 2), 3, by decide +kernel⟩,
    ⟨(State.reset), 3, by decide +kernel⟩,
    ⟨((State.reset.toSill 3 2).put (SILL_PORT_STATUS_ROLE 3) 1), 3, ([sillC 0x20 [1, 0, 2, 0, 0, 16], sillD []]),
      ((((State.reset.toSill 3 2).put (SILL_PORT_STATUS_ROLE 3) 1).put (SILL_PORT_STATUS_PARTNER_ID 3) 1).put
      (SILL_PORT_STATUS_PARTNER_DEPTH 3) 0), by decide +kernel⟩,
    ⟨(((State.reset.toSill 3 2).put (SILL_PORT_STATUS_ROLE 3) 1).modSport 3 (fun y => { y with hellos := 1 })), 3,
      ([sillC 0x20 [1, 0, 2, 0, 0, 16], sillD []]), (((((State.reset.toSill 3 2).put (SILL_PORT_STATUS_ROLE 3)
      1).modSport 3 (fun y => { y with hellos := 1 })).put (SILL_PORT_STATUS_PARTNER_ID 3) 1).put
      (SILL_PORT_STATUS_PARTNER_DEPTH 3) 0), by decide +kernel⟩,
    ⟨(State.reset.toSill 3 2), 3, ([sillC 0x20 [], sillD []]), (((State.reset.toSill 3 2).put
      (SILL_PORT_STATUS_PARTNER_ID 3) 0).put (SILL_PORT_STATUS_PARTNER_DEPTH 3) 0), 1, by decide +kernel⟩,
    ⟨(State.reset.toSill 3 4), 3, ([sillC 0x20 [], sillD []]), by decide +kernel⟩,
    ⟨(State.reset.toSill 3 2), 3, ([(true, 0x010000000020), sillD [5]]), by decide +kernel⟩,
    ⟨(State.reset), 3, [], by decide +kernel⟩,
    ⟨((State.reset.toSill 3 2).modTb (fun t => { t with ticks := 10000000 })), 3, by decide +kernel⟩,
    ⟨(State.reset), 3, by decide +kernel⟩,
    ⟨((State.reset.toSill 3 3).modTb (fun t => { t with ticks := 10000000 })), 3, by decide +kernel⟩,
    ⟨(State.reset), 3, by decide +kernel⟩,
    ⟨((State.reset.toSill 3 5).modTb (fun t => { t with ticks := 1000000000 })), 3, by decide +kernel⟩,
    ⟨(State.reset), 3, by decide +kernel⟩,
    ⟨(State.reset.toSill 3 3), 3, by decide +kernel⟩,
    ⟨(State.reset), 3, by decide +kernel⟩⟩

theorem witness_SillLinksComplete_2 :
  (∃ (s : State) (p : Fin 4) (b : Block), (s.sillState p = 3 ∨ s.sillState p = 4) ∧ blockByte b 0 = 0x21 ∧ checkOk b
    = true) ∧
  (∃ (s : State) (p : Fin 4) (b : Block), (s.sillState p = 3 ∨ s.sillState p = 4) ∧ blockByte b 0 = 0x21 ∧ checkOk b
    = false) ∧
  (∃ (s : State) (p : Fin 4) (b : Block), (blockByte b 0 ≠ 0x21 ∨ (s.sillState p ≠ 3 ∧ s.sillState p ≠ 4))) ∧
  (∃ (s : State) (p : Fin 4) (b : Block) (ago : Nat) (out : Int) (rs : List Int), (s.sillState p = 3 ∨ s.sillState p
    = 4) ∧ blockByte b 0 = 0x22 ∧ checkOk b = true ∧ (s.sport p).probeOut = some out ∧ (s.sport p).probeNum =
    blockByte b 1 ∧ rs = (s.sport p).results ++ [roundDiv (s.sillIngress p ago - out - getBits b.toNat 16 32 * 256)
    512] ∧ rs.length < 16) ∧
  (∃ (s : State) (p : Fin 4) (b : Block) (ago : Nat) (out : Int) (rs : List Int), (s.sillState p = 3 ∨ s.sillState p
    = 4) ∧ blockByte b 0 = 0x22 ∧ checkOk b = true ∧ (s.sport p).probeOut = some out ∧ (s.sport p).probeNum =
    blockByte b 1 ∧ rs = ((s.sport p).results ++ [roundDiv (s.sillIngress p ago - out - getBits b.toNat 16 32 * 256)
    512]).drop (((s.sport p).results ++ [roundDiv (s.sillIngress p ago - out - getBits b.toNat 16 32 * 256)
    512]).length - 16) ∧ 16 ≤ rs.length ∧ s.sillState p = 3) ∧
  (∃ (s : State) (p : Fin 4) (b : Block) (ago : Nat) (out : Int) (rs : List Int), (s.sillState p = 3 ∨ s.sillState p
    = 4) ∧ blockByte b 0 = 0x22 ∧ checkOk b = true ∧ (s.sport p).probeOut = some out ∧ (s.sport p).probeNum =
    blockByte b 1 ∧ rs = ((s.sport p).results ++ [roundDiv (s.sillIngress p ago - out - getBits b.toNat 16 32 * 256)
    512]).drop (((s.sport p).results ++ [roundDiv (s.sillIngress p ago - out - getBits b.toNat 16 32 * 256)
    512]).length - 16) ∧ 16 ≤ rs.length ∧ s.sillState p = 4) ∧
  (∃ (s : State) (p : Fin 4) (b : Block), (s.sillState p = 3 ∨ s.sillState p = 4) ∧ blockByte b 0 = 0x22 ∧ checkOk b
    = true ∧ (s.sport p).probeOut = none ∨ (s.sport p).probeNum ≠ blockByte b 1) ∧
  (∃ (s : State) (p : Fin 4) (b : Block), (s.sillState p = 3 ∨ s.sillState p = 4) ∧ blockByte b 0 = 0x22 ∧ checkOk b
    = false) ∧
  (∃ (s : State) (p : Fin 4) (b : Block), (blockByte b 0 ≠ 0x22 ∨ (s.sillState p ≠ 3 ∧ s.sillState p ≠ 4))) :=
  ⟨
    ⟨(State.reset.toSill 3 3), 3, (ctlBlock 0x21 []), by decide +kernel⟩,
    ⟨(State.reset.toSill 3 3), 3, 0x21, by decide +kernel⟩,
    ⟨(State.reset), 3, 0, by decide +kernel⟩,
    ⟨((State.reset.toSill 3 3).modSport 3 (fun x => { x with probeOut := some 0, results := List.replicate 0 0 })),
      3, (ctlBlock 0x22 []), 0, 0, (List.replicate 1 0), by decide +kernel⟩,
    ⟨((State.reset.toSill 3 3).modSport 3 (fun x => { x with probeOut := some 0, results := List.replicate 15 0 })),
      3, (ctlBlock 0x22 []), 0, 0, (List.replicate 16 0), by decide +kernel⟩,
    ⟨((State.reset.toSill 3 4).modSport 3 (fun x => { x with probeOut := some 0, results := List.replicate 16 0 })),
      3, (ctlBlock 0x22 []), 0, 0, (List.replicate 16 0), by decide +kernel⟩,
    ⟨(State.reset.toSill 3 3), 3, (ctlBlock 0x22 []), by decide +kernel⟩,
    ⟨(State.reset.toSill 3 3), 3, 0x22, by decide +kernel⟩,
    ⟨(State.reset), 3, 0, by decide +kernel⟩⟩

theorem witness_SillTrafficComplete :
  (∃ (s : State) (p : Fin 4), s.sillState p = 4) ∧
  (∃ (s : State) (p : Fin 4), s.sillState p ≠ 4) ∧
  (∃ (s : State) (p : Fin 4) (bs : List (Bool × Block)) (ago : Nat) (ths : List Int) (th : Int), isFrame bs 0x30 3 =
    true ∧ s.sillState p = 4 ∧ frameOk bs = true ∧ th = s.sillIngress p ago - ((fNum bs 2 0 6 * 1000000000 + fNum bs
    1 0 4) * 65536 + fNum bs 1 4 2 : Nat) - sext 32 (s.rdN (SILL_LAT_L p)) * 256 ∧ ths = ((s.sport p).thetas ++
    [th]).drop (((s.sport p).thetas ++ [th]).length - 100)) ∧
  (∃ (s : State) (p : Fin 4) (bs : List (Bool × Block)), isFrame bs 0x30 3 = true ∧ s.sillState p = 4 ∧ frameOk bs =
    false) ∧
  (∃ (s : State) (p : Fin 4) (bs : List (Bool × Block)), (isFrame bs 0x30 3 = false ∨ s.sillState p ≠ 4)) ∧
  (∃ (s : State) (p : Nat) (m : Int) (x : State), s.timeParent = some p ∧ s.fwRuns = true ∧ s.sillState p = 4 ∧
    (s.sport p).thetas ≠ [] ∧ m = s.rdS (SILL_OFS_MEAN p) ∧ s.outCommit = false ∧ nsT 1000 < m.natAbs ∧ x = (((s.wrS
    TB_STEP (-m)).tbStep false true).modSill (fun y => { y with inLock := 0, outLock := 0 })).modSport p (fun y =>
    { y with thetas := [] }) ∧ x.flag SILL_STATUS_TIME_LOCKED = true) ∧
  (∃ (s : State) (p : Nat) (m : Int) (x : State), s.timeParent = some p ∧ s.fwRuns = true ∧ s.sillState p = 4 ∧
    (s.sport p).thetas ≠ [] ∧ m = s.rdS (SILL_OFS_MEAN p) ∧ s.outCommit = false ∧ nsT 1000 < m.natAbs ∧ x = (((s.wrS
    TB_STEP (-m)).tbStep false true).modSill (fun y => { y with inLock := 0, outLock := 0 })).modSport p (fun y =>
    { y with thetas := [] }) ∧ x.flag SILL_STATUS_TIME_LOCKED = false) ∧
  (∃ (s : State) (p : Nat) (m : Int), s.timeParent = some p ∧ s.fwRuns = true ∧ s.sillState p = 4 ∧ (s.sport
    p).thetas ≠ [] ∧ m = s.rdS (SILL_OFS_MEAN p) ∧ (s.outCommit = true ∨ m.natAbs ≤ nsT 1000)) ∧
  (∃ (s : State), (s.timeParent = none ∨ s.fwRuns = false)) ∧
  (∃ (s : State) (p : Nat), s.timeParent = some p ∧ max (s.sport p).syncAt (s.sport p).since + 10000000 ≤ s.tb.ticks
    ∧ s.fwRuns = true) ∧
  (∃ (s : State) (p : Nat), s.timeParent = some p ∧ s.tb.ticks < max (s.sport p).syncAt (s.sport p).since + 10000000) ∧
  (∃ (s : State), (s.timeParent = none ∨ s.fwRuns = false)) ∧
  (∃ (s : State) (p : Fin 4) (bs : List (Bool × Block)) (t : Nat) (cl : Claim) (x : State) (fs : List (Bool × Block))
    (y : State), fByte bs 0 0 = 0x40 ∧ s.sillState p = 4 ∧ frameOk (bs.take 3) = true ∧ t = s.nearTime (2 ^ 24) (fNum
    bs 1 0 4) 0 (fNum bs 1 4 3) ∧ s.sillRole p = 1 ∧ s.selectedUp = some p.val ∧ s.carriedAt t = some cl ∧ cl.claim =
    fNum bs 0 3 2 ∧ s.slotFrames p t (fByte bs 0 6 % 64) (fNum bs 2 0 4) (bs.drop 3) = (x, fs) ∧ y = x.sillSendRole 2
    ⟨0, false, false, bs.take 3 ++ fs⟩) ∧
  (∃ (s : State) (p : Fin 4) (bs : List (Bool × Block)) (t : Nat) (x : State) (fs : List (Bool × Block)), fByte bs 0
    0 = 0x40 ∧ s.sillState p = 4 ∧ frameOk (bs.take 3) = true ∧ t = s.nearTime (2 ^ 24) (fNum bs 1 0 4) 0 (fNum bs 1
    4 3) ∧ s.isStandby = true ∧ (s.sillRole p = 3 ∨ s.sillRole p = 2) ∧ s.slotFrames p t (fByte bs 0 6 % 64) (fNum bs
    2 0 4) (bs.drop 3) = (x, fs)) ∧
  (∃ (s : State) (p : Fin 4) (bs : List (Bool × Block)), fByte bs 0 0 = 0x40 ∧ s.sillState p = 4 ∧ frameOk (bs.take
    3) = true ∧ s.isStandby = false ∧ (s.sillRole p ≠ 1 ∨ s.selectedUp ≠ some p.val)) ∧
  (∃ (s : State) (p : Fin 4) (bs : List (Bool × Block)), fByte bs 0 0 = 0x40 ∧ s.sillState p = 4 ∧ frameOk (bs.take
    3) = false) ∧
  (∃ (s : State) (p : Fin 4) (bs : List (Bool × Block)), (fByte bs 0 0 ≠ 0x40 ∨ s.sillState p ≠ 4)) ∧
  (∃ (s : State) (p : Fin 4) (bs : List (Bool × Block)) (x : State), isFrame bs 0x50 2 = true ∧ s.sillState p = 4 ∧
    frameOk bs = true ∧ s.sillRelay p ⟨2, true, false, bs⟩ = (true, x) ∧ fNum bs 0 3 2 ≠ x.nodeId ∧ x.flag
    (SILL_EVT_CFG_ALIGN (fByte bs 0 1 % 32)) = false) ∧
  (∃ (s : State) (p : Fin 4) (bs : List (Bool × Block)) (x : State) (due : Nat), isFrame bs 0x50 2 = true ∧
    s.sillState p = 4 ∧ frameOk bs = true ∧ s.sillRelay p ⟨2, true, false, bs⟩ = (true, x) ∧ fNum bs 0 3 2 ≠ x.nodeId
    ∧ x.flag (SILL_EVT_CFG_ALIGN (fByte bs 0 1 % 32)) = true ∧ due = x.nearTime 256 (fNum bs 1 0 4) (fNum bs 1 4 2)
    (fByte bs 1 6) + x.get (SILL_EVT_CFG_EVT_HOLD (fByte bs 0 1 % 32)) * 65536 ∧ x.now ≤ due) ∧
  (∃ (s : State) (p : Fin 4) (bs : List (Bool × Block)) (x : State) (due : Nat), isFrame bs 0x50 2 = true ∧
    s.sillState p = 4 ∧ frameOk bs = true ∧ s.sillRelay p ⟨2, true, false, bs⟩ = (true, x) ∧ fNum bs 0 3 2 ≠ x.nodeId
    ∧ x.flag (SILL_EVT_CFG_ALIGN (fByte bs 0 1 % 32)) = true ∧ due = x.nearTime 256 (fNum bs 1 0 4) (fNum bs 1 4 2)
    (fByte bs 1 6) + x.get (SILL_EVT_CFG_EVT_HOLD (fByte bs 0 1 % 32)) * 65536 ∧ due < x.now) :=
  ⟨
    ⟨(State.reset.toSill 3 4), 3, by decide +kernel⟩,
    ⟨(State.reset), 3, by decide +kernel⟩,
    ⟨(State.reset.toSill 3 4), 3, ([sillC 0x30 [], sillD [], sillD []]), 0, [0], 0, by decide +kernel⟩,
    ⟨(State.reset.toSill 3 4), 3, ([(true, 0x010000000030), sillD [5], sillD [5]]), by decide +kernel⟩,
    ⟨(State.reset), 3, [], by decide +kernel⟩,
    ⟨(((servoState (10 ^ 9)).putB SILL_STATUS_TIME_LOCKED true)), 3, (10 ^ 9), ((((((servoState (10 ^ 9)).putB
      SILL_STATUS_TIME_LOCKED true).wrS TB_STEP (-(10 ^ 9))).tbStep false true).modSill (fun y =>
      { y with inLock := 0, outLock := 0 })).modSport 3 (fun y => { y with thetas := [] })), by decide +kernel⟩,
    ⟨((servoState (10 ^ 9))), 3, (10 ^ 9), (((((servoState (10 ^ 9)).wrS TB_STEP (-(10 ^ 9))).tbStep false
      true).modSill (fun y => { y with inLock := 0, outLock := 0 })).modSport 3 (fun y => { y with thetas := [] })),
      by decide +kernel⟩,
    ⟨(servoState 5), 3, 5, by decide +kernel⟩,
    ⟨(State.reset), by decide +kernel⟩,
    ⟨((servoState 5).modTb (fun t => { t with ticks := 10 ^ 8 })), 3, by decide +kernel⟩,
    ⟨(servoState 5), 3, by decide +kernel⟩,
    ⟨(State.reset), by decide +kernel⟩,
    ⟨claimState, 3, ([sillC 0x40 [0, 0, 7, 0], sillD [], sillD []]), 0, (⟨7, false, false, 0, 3, 0⟩),
      (((claimState).slotFrames 3 0 0 0 []).1), [], ((claimState.slotFrames 3 0 0 0 []).1.sillSendRole 2 ⟨0, false,
      false, [sillC 0x40 [0, 0, 7, 0], sillD [], sillD []]⟩), by decide +kernel⟩,
    ⟨(((sillUpState 3).put SILL_STATUS_ROLE 4)), 3, ([sillC 0x40 [0, 0, 7, 0], sillD [], sillD []]), 0,
      (((((sillUpState 3).put SILL_STATUS_ROLE 4)).slotFrames 3 0 0 0 []).1), [], by decide +kernel⟩,
    ⟨(sillUpState 1), 3, ([sillC 0x40 [0, 0, 7, 0], sillD [], sillD []]), by decide +kernel⟩,
    ⟨(State.reset.toSill 3 4), 3, ([(true, 0x010000000040)]), by decide +kernel⟩,
    ⟨(State.reset), 3, [], by decide +kernel⟩,
    ⟨claimState, 3, ([sillC 0x50 [0, 0, 9, 0], sillD []]), (((claimState).sillRelay 3 ⟨2, true, false, [sillC 0x50
      [0, 0, 9, 0], sillD []]⟩).2), by decide +kernel⟩,
    ⟨((claimState.putB (SILL_EVT_CFG_ALIGN 0) true)), 3, ([sillC 0x50 [0, 0, 9, 0], sillD []]), ((((claimState.putB
      (SILL_EVT_CFG_ALIGN 0) true)).sillRelay 3 ⟨2, true, false, [sillC 0x50 [0, 0, 9, 0], sillD []]⟩).2), 0,
      by decide +kernel⟩,
    ⟨((((claimState.putB (SILL_EVT_CFG_ALIGN 0) true)).modTb (fun t => { t with cnt := 2 ^ 40 }))), 3, ([sillC 0x50
      [0, 0, 9, 0], sillD []]), ((((((claimState.putB (SILL_EVT_CFG_ALIGN 0) true)).modTb (fun t =>
      { t with cnt := 2 ^ 40 }))).sillRelay 3 ⟨2, true, false, [sillC 0x50 [0, 0, 9, 0], sillD []]⟩).2), 0,
      by decide +kernel⟩⟩

theorem witness_SillTrafficComplete_2 :
  (∃ (s : State) (p : Fin 4) (bs : List (Bool × Block)) (x : State), isFrame bs 0x50 2 = true ∧ s.sillState p = 4 ∧
    frameOk bs = true ∧ x = (s.sillRelay p ⟨2, true, false, bs⟩).2 ∧ ((s.sillRelay p ⟨2, true, false, bs⟩).1 = false
    ∨ fNum bs 0 3 2 = x.nodeId)) ∧
  (∃ (s : State) (p : Fin 4) (bs : List (Bool × Block)), isFrame bs 0x50 2 = true ∧ s.sillState p = 4 ∧ frameOk bs =
    false) ∧
  (∃ (s : State) (p : Fin 4) (bs : List (Bool × Block)), (isFrame bs 0x50 2 = false ∨ s.sillState p ≠ 4)) ∧
  (∃ (s : State) (e : AlignedEvt), s.sill.aligned.find? (fun (x : AlignedEvt) => decide (x.due ≤ s.now)) = some e) ∧
  (∃ (s : State), s.sill.aligned.find? (fun (x : AlignedEvt) => decide (x.due ≤ s.now)) = none) ∧
  (∃ (s : State) (m : Fin 3), s.reaches m = true ∧ s.flag SILL_SCHED_CMD_GO = false) ∧
  (∃ (s : State) (m : Fin 3), s.reaches m = true ∧ s.flag SILL_SCHED_CMD_GO = true) ∧
  (∃ (s : State) (m : Fin 3), s.reaches m = false) ∧
  (∃ (s : State) (p : Fin 4) (bs : List (Bool × Block)) (x : State), isFrame bs 0x58 3 = true ∧ s.sillState p = 4 ∧
    frameOk bs = true ∧ s.sillRelay p ⟨2, false, false, bs⟩ = (true, x)) ∧
  (∃ (s : State) (p : Fin 4) (bs : List (Bool × Block)) (x : State), isFrame bs 0x58 3 = true ∧ s.sillState p = 4 ∧
    frameOk bs = true ∧ s.sillRelay p ⟨2, false, false, bs⟩ = (false, x)) ∧
  (∃ (s : State) (p : Fin 4) (bs : List (Bool × Block)), isFrame bs 0x58 3 = true ∧ s.sillState p = 4 ∧ frameOk bs =
    false) ∧
  (∃ (s : State) (p : Fin 4) (bs : List (Bool × Block)), (isFrame bs 0x58 3 = false ∨ s.sillState p ≠ 4)) :=
  ⟨
    ⟨((State.reset.toSill 3 4)), 3, ([sillC 0x50 [0, 0, 9, 0], sillD []]), ((((State.reset.toSill 3 4)).sillRelay 3
      ⟨2, true, false, [sillC 0x50 [0, 0, 9, 0], sillD []]⟩).2), by decide +kernel⟩,
    ⟨(State.reset.toSill 3 4), 3, ([(true, 0x010000000050), sillD [5]]), by decide +kernel⟩,
    ⟨(State.reset), 3, [], by decide +kernel⟩,
    ⟨(State.reset.modSill (fun x => { x with aligned := [⟨0, 1, 0⟩] })), (⟨0, 1, 0⟩), by decide +kernel⟩,
    ⟨(State.reset), by decide +kernel⟩,
    ⟨hostState, 1, by decide +kernel⟩,
    ⟨(hostState.putB SILL_SCHED_CMD_GO true), 1, by decide +kernel⟩,
    ⟨(State.reset), 1, by decide +kernel⟩,
    ⟨claimState, 3, ([sillC 0x58 [], sillD [], sillD []]), (((claimState).sillRelay 3 ⟨2, false, false, [sillC 0x58
      [], sillD [], sillD []]⟩).2), by decide +kernel⟩,
    ⟨((State.reset.toSill 3 4)), 3, ([sillC 0x58 [], sillD [], sillD []]), ((((State.reset.toSill 3 4)).sillRelay 3
      ⟨2, false, false, [sillC 0x58 [], sillD [], sillD []]⟩).2), by decide +kernel⟩,
    ⟨(State.reset.toSill 3 4), 3, ([(true, 0x010000000058), sillD [5], sillD [5]]), by decide +kernel⟩,
    ⟨(State.reset), 3, [], by decide +kernel⟩⟩

theorem witness_TwinsComplete :
  (∃ (s : State), (s.sillTurns = true ∨ (s.isStandby = true ∧ s.sill.swapFrames = true ∧ s.sill.swapTaker = true))) ∧
  (∃ (s : State), s.sillTurns = false ∧ (s.isStandby = false ∨ s.sill.swapFrames = false ∨ s.sill.swapTaker = false)) ∧
  (∃ (s : State) (p : Fin 4) (bs : List (Bool × Block)) (cl : Claim) (x : State), isFrame bs 0x60 2 = true ∧
    s.sillOpen 1 p = true ∧ frameOk bs = true ∧ s.sill.claims.find? (fun (d : Claim) => d.claim == fNum bs 0 1 2 &&
    d.heard == s.tb.ticks) = none ∧ cl = ⟨fNum bs 0 1 2, bit (fByte bs 0 5) 0, bit (fByte bs 0 5) 1, s.nearTime 256
    (fNum bs 1 0 4) 0 (fByte bs 1 4), p.val, s.tb.ticks⟩ ∧ x = (s.modSill (fun y =>
    { y with claims := y.claims.filter (fun (d : Claim) => d.claim != fNum bs 0 1 2) ++ [cl] })).carry ∧ (x.get
    SILL_STATUS_CARRIED == fNum bs 0 1 2 || cl.taking) = true) ∧
  (∃ (s : State) (p : Fin 4) (bs : List (Bool × Block)) (cl : Claim) (x : State), isFrame bs 0x60 2 = true ∧
    s.sillOpen 1 p = true ∧ frameOk bs = true ∧ s.sill.claims.find? (fun (d : Claim) => d.claim == fNum bs 0 1 2 &&
    d.heard == s.tb.ticks) = none ∧ cl = ⟨fNum bs 0 1 2, bit (fByte bs 0 5) 0, bit (fByte bs 0 5) 1, s.nearTime 256
    (fNum bs 1 0 4) 0 (fByte bs 1 4), p.val, s.tb.ticks⟩ ∧ x = (s.modSill (fun y =>
    { y with claims := y.claims.filter (fun (d : Claim) => d.claim != fNum bs 0 1 2) ++ [cl] })).carry ∧ (x.get
    SILL_STATUS_CARRIED == fNum bs 0 1 2 || cl.taking) = false) ∧
  (∃ (s : State) (p : Fin 4) (bs : List (Bool × Block)) (d : Claim) (cl : Claim) (x : State), isFrame bs 0x60 2 =
    true ∧ s.sillOpen 1 p = true ∧ frameOk bs = true ∧ s.sill.claims.find? (fun (d : Claim) => d.claim == fNum bs 0 1
    2 && d.heard == s.tb.ticks) = some d ∧ cl = ⟨fNum bs 0 1 2, bit (fByte bs 0 5) 0, bit (fByte bs 0 5) 1,
    s.nearTime 256 (fNum bs 1 0 4) 0 (fByte bs 1 4), min d.port p.val, s.tb.ticks⟩ ∧ x = (s.modSill (fun y =>
    { y with claims := y.claims.filter (fun (d : Claim) => d.claim != fNum bs 0 1 2) ++ [cl] })).carry ∧ (x.get
    SILL_STATUS_CARRIED == fNum bs 0 1 2 || cl.taking) = true) ∧
  (∃ (s : State) (p : Fin 4) (bs : List (Bool × Block)), isFrame bs 0x60 2 = true ∧ s.sillOpen 1 p = true ∧ frameOk
    bs = false) ∧
  (∃ (s : State) (p : Fin 4) (bs : List (Bool × Block)), (isFrame bs 0x60 2 = false ∨ s.sillOpen 1 p = false)) ∧
  (∃ (s : State), s.get SILL_STATUS_ROLE = 2) ∧
  (∃ (s : State), s.get SILL_STATUS_ROLE ≠ 2) ∧
  (∃ (s : State) (p : Fin 4) (b : Block), blockByte b 0 = 0x61 ∧ s.sillOpen 2 p = true ∧ checkOk b = true) ∧
  (∃ (s : State) (p : Fin 4) (b : Block), blockByte b 0 = 0x61 ∧ s.sillOpen 2 p = true ∧ checkOk b = false) ∧
  (∃ (s : State) (p : Fin 4) (b : Block), (blockByte b 0 ≠ 0x61 ∨ s.sillOpen 2 p = false)) ∧
  (∃ (s : State) (x : State), s.isTwin = true ∧ (List.range 4).any (fun p => s.sillOpen 3 p) = true ∧ x =
    s.showHealth) ∧
  (∃ (s : State), (s.isTwin = false ∨ (List.range 4).any (fun p => s.sillOpen 3 p) = false)) ∧
  (∃ (s : State) (p : Fin 4) (bs : List (Bool × Block)) (t : Nat), isFrame bs 0x62 2 = true ∧ s.sillOpen 3 p = true ∧
    frameOk bs = true ∧ t = s.nearTime 256 (fNum bs 1 0 4) 0 (fByte bs 1 4) ∧ fByte bs 0 4 / 4 % 8 = 0) ∧
  (∃ (s : State) (p : Fin 4) (bs : List (Bool × Block)) (t : Nat), isFrame bs 0x62 2 = true ∧ s.sillOpen 3 p = true ∧
    frameOk bs = true ∧ t = s.nearTime 256 (fNum bs 1 0 4) 0 (fByte bs 1 4) ∧ bit (fByte bs 0 4) 2 = true ∧ bit
    (fByte bs 0 4) 3 = false ∧ bit (fByte bs 0 4) 4 = false) ∧
  (∃ (s : State) (p : Fin 4) (bs : List (Bool × Block)) (t : Nat) (ack : Bool), isFrame bs 0x62 2 = true ∧ s.sillOpen
    3 p = true ∧ frameOk bs = true ∧ t = s.nearTime 256 (fNum bs 1 0 4) 0 (fByte bs 1 4) ∧ bit (fByte bs 0 4) 2 =
    false ∧ bit (fByte bs 0 4) 3 = ack ∧ (ack = true ∨ bit (fByte bs 0 4) 4 = true)) ∧
  (∃ (s : State) (p : Fin 4) (bs : List (Bool × Block)) (t : Nat) (ack : Bool), isFrame bs 0x62 2 = true ∧ s.sillOpen
    3 p = true ∧ frameOk bs = true ∧ t = s.nearTime 256 (fNum bs 1 0 4) 0 (fByte bs 1 4) ∧ bit (fByte bs 0 4) 2 =
    true ∧ bit (fByte bs 0 4) 3 = ack ∧ (ack = true ∨ bit (fByte bs 0 4) 4 = true)) ∧
  (∃ (s : State) (p : Fin 4) (bs : List (Bool × Block)), isFrame bs 0x62 2 = true ∧ s.sillOpen 3 p = true ∧ frameOk
    bs = false) ∧
  (∃ (s : State) (p : Fin 4) (bs : List (Bool × Block)), (isFrame bs 0x62 2 = false ∨ s.sillOpen 3 p = false)) :=
  ⟨
    ⟨(State.reset.put SILL_STATUS_ROLE 3), by decide +kernel⟩,
    ⟨(State.reset.put SILL_STATUS_ROLE 2), by decide +kernel⟩,
    ⟨(sillUpState 1), 3, ([sillC 0x60 [7], sillD []]), (⟨7, false, false, 0, 3, 0⟩), (((sillUpState 1).modSill (fun y
      => { y with
      claims := y.claims.filter (fun (d : Claim) => d.claim != 7) ++ [⟨7, false, false, 0, 3, 0⟩] })).carry),
      by decide +kernel⟩,
    ⟨((sillUpState 1).modSill (fun y => { y with claims := [⟨9, false, false, 0, 3, 0⟩] })), 3, ([sillC 0x60 [7],
      sillD []]), (⟨7, false, false, 0, 3, 0⟩), ((((sillUpState 1).modSill (fun y =>
      { y with claims := [⟨9, false, false, 0, 3, 0⟩] })).modSill (fun y => { y with
      claims := y.claims.filter (fun (d : Claim) => d.claim != 7) ++ [⟨7, false, false, 0, 3, 0⟩] })).carry),
      by decide +kernel⟩,
    ⟨((sillUpState 1).modSill (fun y => { y with claims := [⟨7, false, false, 0, 2, 0⟩] })), 3, ([sillC 0x60 [7],
      sillD []]), (⟨7, false, false, 0, 2, 0⟩), (⟨7, false, false, 0, 2, 0⟩), ((((sillUpState 1).modSill (fun y =>
      { y with claims := [⟨7, false, false, 0, 2, 0⟩] })).modSill (fun y => { y with
      claims := y.claims.filter (fun (d : Claim) => d.claim != 7) ++ [⟨7, false, false, 0, 2, 0⟩] })).carry),
      by decide +kernel⟩,
    ⟨(sillUpState 1), 3, ([(true, 0x010000000060), sillD [5]]), by decide +kernel⟩,
    ⟨(State.reset), 3, [], by decide +kernel⟩,
    ⟨(State.reset.put SILL_STATUS_ROLE 2), by decide +kernel⟩,
    ⟨(State.reset.put SILL_STATUS_ROLE 3), by decide +kernel⟩,
    ⟨(sillUpState 2), 3, (ctlBlock 0x61 []), by decide +kernel⟩,
    ⟨(sillUpState 2), 3, 0x61, by decide +kernel⟩,
    ⟨(State.reset), 3, 0, by decide +kernel⟩,
    ⟨twinState, (twinState.showHealth), by decide +kernel⟩,
    ⟨(State.reset), by decide +kernel⟩,
    ⟨twinState, 3, ([sillC 0x62 [0, 0, 0, 0], sillD []]), 0, by decide +kernel⟩,
    ⟨twinState, 3, ([sillC 0x62 [0, 0, 0, 4], sillD []]), 0, by decide +kernel⟩,
    ⟨twinState, 3, ([sillC 0x62 [0, 0, 0, 8], sillD []]), 0, true, by decide +kernel⟩,
    ⟨twinState, 3, ([sillC 0x62 [0, 0, 0, 12], sillD []]), 0, true, by decide +kernel⟩,
    ⟨(sillUpState 3), 3, ([(true, 0x010000000062), sillD [5]]), by decide +kernel⟩,
    ⟨(State.reset), 3, [], by decide +kernel⟩⟩

theorem witness_TwinsComplete_2 :
  (∃ (s : State), s.isTwin = true ∧ s.linkRelease = true ∧ s.sill.watch = none ∧ ((List.range 4).any (fun p =>
    s.sillOpen 3 p) = true ∨ s.sill.released + 100000000 ≤ s.tb.ticks)) ∧
  (∃ (s : State), (s.isTwin = false ∨ s.linkRelease = false ∨ s.sill.watch.isSome = true ∨ ((List.range 4).any (fun p
    => s.sillOpen 3 p) = false ∧ s.tb.ticks < s.sill.released + 100000000))) ∧
  (∃ (s : State) (x : State), s.watched s.sill.beatTick = true ∧ s.flag SILL_STATUS_HB_LOST = false ∧ x = ((((s.putB
    SILL_STATUS_HB_LOST true).putB SILL_TWIN_STATUS_BEAT_OK false).raise 10 SILL_EVENTS_HB_LOST).bump
    SILL_CNT_HB_LOST).logC 0x6030 noUnit 0 ∧ x.isHolder = true) ∧
  (∃ (s : State) (x : State), s.watched s.sill.beatTick = true ∧ s.flag SILL_STATUS_HB_LOST = false ∧ x = ((((s.putB
    SILL_STATUS_HB_LOST true).putB SILL_TWIN_STATUS_BEAT_OK false).raise 10 SILL_EVENTS_HB_LOST).bump
    SILL_CNT_HB_LOST).logC 0x6030 noUnit 0 ∧ x.isHolder = false) ∧
  (∃ (s : State), (s.watched s.sill.beatTick = false ∨ s.flag SILL_STATUS_HB_LOST = true)) ∧
  (∃ (s : State), s.watched s.sill.holderTick = true) ∧
  (∃ (s : State), s.watched s.sill.holderTick = false) ∧
  (∃ (s : State) (t : Nat), s.isStandby = true ∧ s.sill.holdoff = some t ∧ t + s.holdoffNs ≤ s.tb.ticks) ∧
  (∃ (s : State) (t : Nat), s.isStandby = true ∧ s.sill.holdoff = some t ∧ s.tb.ticks < t + s.holdoffNs) ∧
  (∃ (s : State), (s.isStandby = false ∨ s.sill.holdoff = none)) ∧
  (∃ (s : State), s.reaches 0 = true ∧ s.isTwin = true) ∧
  (∃ (s : State), s.reaches 0 = true ∧ s.isTwin = false) ∧
  (∃ (s : State) (m : Fin 3), s.reaches m = true ∧ m ≠ 0) ∧
  (∃ (s : State) (m : Fin 3), s.reaches m = false) ∧
  (∃ (s : State), s.flag SILL_STATUS_SWAP_PENDING = true ∧ (s.sill.swapAt : Int) ≤ s.nowI + nsT 100000) ∧
  (∃ (s : State), (s.flag SILL_STATUS_SWAP_PENDING = false ∨ s.nowI + nsT 100000 < (s.sill.swapAt : Int))) ∧
  (∃ (s : State) (x : State), s.flag SILL_STATUS_SWAP_PENDING = true ∧ s.sill.swapAt ≤ s.now ∧ s.sill.swapTaker =
    true ∧ x = ((s.putB SILL_STATUS_SWAP_PENDING false).wrTime SILL_SWAP_AT 0).modSill (fun y =>
    { y with swapFrames := false, swapWait := some s.ownClaim })) ∧
  (∃ (s : State) (x : State), s.flag SILL_STATUS_SWAP_PENDING = true ∧ s.sill.swapAt ≤ s.now ∧ s.sill.swapTaker =
    false ∧ x = ((s.putB SILL_STATUS_SWAP_PENDING false).wrTime SILL_SWAP_AT 0).modSill (fun y =>
    { y with swapFrames := false, swapWait := some (s.get SILL_TWIN_CFG_TWIN_CLAIM) }) ∧ s.sill.swapFrames = true ∧
    x.isHolder = true) ∧
  (∃ (s : State) (x : State), s.flag SILL_STATUS_SWAP_PENDING = true ∧ s.sill.swapAt ≤ s.now ∧ s.sill.swapTaker =
    false ∧ x = ((s.putB SILL_STATUS_SWAP_PENDING false).wrTime SILL_SWAP_AT 0).modSill (fun y =>
    { y with swapFrames := false, swapWait := some (s.get SILL_TWIN_CFG_TWIN_CLAIM) }) ∧ (s.sill.swapFrames = false ∨
    x.isHolder = false)) ∧
  (∃ (s : State), (s.flag SILL_STATUS_SWAP_PENDING = false ∨ s.now < s.sill.swapAt)) :=
  ⟨
    ⟨(twinState.putB GLOBAL_COMMIT_LINK_RELEASE true), by decide +kernel⟩,
    ⟨(State.reset), by decide +kernel⟩,
    ⟨(((State.reset.put SILL_STATUS_ROLE 3).modSill (fun x => { x with watch := some 0 })).modTb (fun t =>
      { t with ticks := 50000 })), (((((((((State.reset.put SILL_STATUS_ROLE 3).modSill (fun x =>
      { x with watch := some 0 })).modTb (fun t => { t with ticks := 50000 })).putB SILL_STATUS_HB_LOST true).putB
      SILL_TWIN_STATUS_BEAT_OK false).raise 10 SILL_EVENTS_HB_LOST).bump SILL_CNT_HB_LOST).logC 0x6030 noUnit 0)),
      by decide +kernel⟩,
    ⟨(((State.reset.put SILL_STATUS_ROLE 4).modSill (fun x => { x with watch := some 0 })).modTb (fun t =>
      { t with ticks := 50000 })), (((((((((State.reset.put SILL_STATUS_ROLE 4).modSill (fun x =>
      { x with watch := some 0 })).modTb (fun t => { t with ticks := 50000 })).putB SILL_STATUS_HB_LOST true).putB
      SILL_TWIN_STATUS_BEAT_OK false).raise 10 SILL_EVENTS_HB_LOST).bump SILL_CNT_HB_LOST).logC 0x6030 noUnit 0)),
      by decide +kernel⟩,
    ⟨(State.reset), by decide +kernel⟩,
    ⟨(((State.reset).modSill (fun x => { x with watch := some 0 })).modTb (fun t => { t with ticks := 50000 })),
      by decide +kernel⟩,
    ⟨(State.reset), by decide +kernel⟩,
    ⟨(((State.reset.put SILL_STATUS_ROLE 4).modSill (fun x => { x with holdoff := some 0 })).modTb (fun t =>
      { t with ticks := 10 ^ 9 })), 0, by decide +kernel⟩,
    ⟨((State.reset.put SILL_STATUS_ROLE 4).modSill (fun x => { x with holdoff := some 0 })), 0, by decide +kernel⟩,
    ⟨(State.reset), by decide +kernel⟩,
    ⟨((twinState.modPower (fun x => { x with mcDown := false }))), by decide +kernel⟩,
    ⟨fwState, by decide +kernel⟩,
    ⟨hostState, 1, by decide +kernel⟩,
    ⟨(State.reset), 1, by decide +kernel⟩,
    ⟨((State.reset.putB SILL_STATUS_SWAP_PENDING true)), by decide +kernel⟩,
    ⟨(State.reset), by decide +kernel⟩,
    ⟨(((State.reset.putB SILL_STATUS_SWAP_PENDING true).modSill (fun x => { x with swapTaker := true }))),
      ((((((State.reset.putB SILL_STATUS_SWAP_PENDING true).modSill (fun x => { x with swapTaker := true }))).putB
      SILL_STATUS_SWAP_PENDING false).wrTime SILL_SWAP_AT 0).modSill (fun y => { y with
      swapFrames := false,
      swapWait := some (((State.reset.putB SILL_STATUS_SWAP_PENDING true).modSill (fun x => { x with swapTaker := true })).ownClaim) })),
      by decide +kernel⟩,
    ⟨((((State.reset.putB SILL_STATUS_SWAP_PENDING true).put SILL_STATUS_ROLE 3).modSill (fun x =>
      { x with swapFrames := true }))), (((((((State.reset.putB SILL_STATUS_SWAP_PENDING true).put SILL_STATUS_ROLE
      3).modSill (fun x => { x with swapFrames := true }))).putB SILL_STATUS_SWAP_PENDING false).wrTime SILL_SWAP_AT
      0).modSill (fun y => { y with
      swapFrames := false,
      swapWait := some ((((State.reset.putB SILL_STATUS_SWAP_PENDING true).put SILL_STATUS_ROLE 3).modSill (fun x => { x with swapFrames := true })).get SILL_TWIN_CFG_TWIN_CLAIM) })),
      by decide +kernel⟩,
    ⟨((State.reset.putB SILL_STATUS_SWAP_PENDING true)), (((((State.reset.putB SILL_STATUS_SWAP_PENDING true)).putB
      SILL_STATUS_SWAP_PENDING false).wrTime SILL_SWAP_AT 0).modSill (fun y => { y with
      swapFrames := false,
      swapWait := some ((State.reset.putB SILL_STATUS_SWAP_PENDING true).get SILL_TWIN_CFG_TWIN_CLAIM) })),
      by decide +kernel⟩,
    ⟨(State.reset), by decide +kernel⟩⟩

theorem witness_TwinsComplete_3 :
  (∃ (s : State) (t : Nat), s.fwRuns = true ∧ s.flag SILL_SWAP_CFG_REVERT = true ∧ s.isStandby = true ∧ s.get
    SILL_CFG_TWIN_ROLE = 1 ∧ s.flag SILL_STATUS_HEALTHY = true ∧ s.sill.healthySince = some t ∧ t + s.get
    SILL_SWAP_CFG_REVERT_HOLD * 1000000000 ≤ s.tb.ticks) ∧
  (∃ (s : State) (t : Nat), s.sill.healthySince = some t ∧ s.tb.ticks < t + s.get SILL_SWAP_CFG_REVERT_HOLD *
    1000000000) ∧
  (∃ (s : State), (s.sill.healthySince = none ∨ s.fwRuns = false ∨ s.flag SILL_SWAP_CFG_REVERT = false ∨ s.isStandby
    = false ∨ s.get SILL_CFG_TWIN_ROLE ≠ 1 ∨ s.flag SILL_STATUS_HEALTHY = false)) ∧
  (∃ (s : State), s.sill.holderSince + s.get SILL_SWAP_CFG_SWAP_PERIOD * 60000000000 ≤ s.tb.ticks ∧ s.fwRuns = true ∧
    s.flag SILL_SWAP_CFG_SWAP_EN = true ∧ s.isHolder = true ∧ s.flag SILL_TWIN_STATUS_TWIN_HEALTHY = true) ∧
  (∃ (s : State), (s.tb.ticks < s.sill.holderSince + s.get SILL_SWAP_CFG_SWAP_PERIOD * 60000000000 ∨ s.fwRuns = false
    ∨ s.flag SILL_SWAP_CFG_SWAP_EN = false ∨ s.isHolder = false ∨ s.flag SILL_TWIN_STATUS_TWIN_HEALTHY = false)) :=
  ⟨
    ⟨((((((fwState.putB SILL_SWAP_CFG_REVERT true).put SILL_STATUS_ROLE 4).put SILL_CFG_TWIN_ROLE 1).putB
      SILL_STATUS_HEALTHY true).modSill (fun x => { x with healthySince := some 0 })).modTb (fun t =>
      { t with ticks := 10 ^ 15 })), 0, by decide +kernel⟩,
    ⟨((((((fwState.putB SILL_SWAP_CFG_REVERT true).put SILL_STATUS_ROLE 4).put SILL_CFG_TWIN_ROLE 1).putB
      SILL_STATUS_HEALTHY true).modSill (fun x => { x with healthySince := some 0 })).put SILL_SWAP_CFG_REVERT_HOLD
      1), 0, by decide +kernel⟩,
    ⟨(State.reset), by decide +kernel⟩,
    ⟨((((fwState.putB SILL_SWAP_CFG_SWAP_EN true).put SILL_STATUS_ROLE 3).putB SILL_TWIN_STATUS_TWIN_HEALTHY
      true).modTb (fun t => { t with ticks := 10 ^ 18 })), by decide +kernel⟩,
    ⟨(State.reset), by decide +kernel⟩⟩

theorem witness_StartComplete :
  (∃ (s : State) (x : State), s.held = false ∧ s.power.mcDown = true ∧ x = s.romRuns ∧ x.get
    GLOBAL_STRAPS_BOOT_MODE_EFF = 1) ∧
  (∃ (s : State) (x : State), s.held = false ∧ s.power.mcDown = true ∧ x = s.romRuns ∧ x.get
    GLOBAL_STRAPS_BOOT_MODE_EFF ≠ 1) ∧
  (∃ (s : State) (x : State), s.held = false ∧ s.power.mcDown = true ∧ x = s.romRuns ∧ x.get
    GLOBAL_STRAPS_BOOT_MODE_EFF ≠ 1 ∧ x.hdrCopy = none) ∧
  (∃ (s : State) (x : State), s.held = false ∧ s.power.mcDown = true ∧ x = s.romRuns ∧ x.get
    GLOBAL_STRAPS_BOOT_MODE_EFF ≠ 1 ∧ x.get GLOBAL_STRAPS_BOOT_MODE_EFF ≠ 2 ∧ x.hdrCopy ≠ none) ∧
  (∃ (s : State) (x : State), s.held = false ∧ s.power.mcDown = true ∧ x = s.romRuns ∧ x.get
    GLOBAL_STRAPS_BOOT_MODE_EFF = 2 ∧ x.hdrCopy ≠ none) ∧
  (∃ (s : State), (s.held = true ∨ s.power.mcDown = false)) ∧
  (∃ (s : State), s.held = false ∧ s.power.mcDown = false ∧ s.power.mcDebugHold = false ∧ s.mc.fwSel = true ∧
    s.mc.fwOn = false ∧ s.fwBegin.clCommit = false) ∧
  (∃ (s : State), s.held = false ∧ s.power.mcDown = false ∧ s.power.mcDebugHold = false ∧ s.mc.fwSel = true ∧
    s.mc.fwOn = false ∧ s.fwBegin.clCommit = true) ∧
  (∃ (s : State), s.held = false ∧ s.power.mcDown = false ∧ s.power.mcDebugHold = false ∧ s.mc.fwSel = true ∧
    s.mc.fwOn = true ∧ s.clCommit = false ∧ s.get GLOBAL_BOOT_STATUS_STAGE = 1 ∧ s.flag GLOBAL_BOOT_STATUS_HELD =
    false) ∧
  (∃ (s : State), (s.held = true ∨ s.power.mcDown = true ∨ s.power.mcDebugHold = true ∨ s.mc.fwSel = false)) ∧
  (∃ (s : State), s.mc.fwOn = true ∧ (s.clCommit = true ∨ s.get GLOBAL_BOOT_STATUS_STAGE ≠ 1 ∨ s.flag
    GLOBAL_BOOT_STATUS_HELD = true)) ∧
  (∃ (s : State), s.held = false ∧ (s.fwRuns = false ∨ s.get GLOBAL_BOOT_STATUS_STAGE ≠ 4 ∨ s.clCommit = true)) ∧
  (∃ (s : State) (x : State), s.held = false ∧ s.fwRuns = true ∧ s.get GLOBAL_BOOT_STATUS_STAGE = 4 ∧ s.clCommit =
    false ∧ x = s.setClCommit ∧ bit (bytesAt x.clNow 28 2) 0 = false) ∧
  (∃ (s : State) (x : State), s.held = false ∧ s.fwRuns = true ∧ s.get GLOBAL_BOOT_STATUS_STAGE = 4 ∧ s.clCommit =
    false ∧ x = s.setClCommit ∧ bit (bytesAt x.clNow 28 2) 0 = true) ∧
  (∃ (s : State), s.held = true) ∧
  (∃ (s : State), s.held = false ∧ s.flag GLOBAL_BOOT_STATUS_HELD = false ∧ (s.fwRuns = false ∨ s.mc.clOk = false ∨
    s.get GLOBAL_BOOT_STATUS_STAGE ≠ 6)) ∧
  (∃ (s : State), s.held = false ∧ s.flag GLOBAL_BOOT_STATUS_HELD = false ∧ s.fwRuns = true ∧ s.mc.clOk = true ∧
    s.get GLOBAL_BOOT_STATUS_STAGE = 6) ∧
  (∃ (s : State), (s.held = true ∨ s.flag GLOBAL_BOOT_STATUS_HELD = true)) ∧
  (∃ (s : State), (s.held = true ∨ s.flag GLOBAL_BOOT_STATUS_HELD = true)) ∧
  (∃ (s : State), s.held = false ∧ s.flag GLOBAL_BOOT_STATUS_HELD = false ∧ (s.fwRuns = false ∨ s.mc.clOk = false ∨
    (s.get GLOBAL_BOOT_STATUS_STAGE ≠ 7 ∧ s.get GLOBAL_BOOT_STATUS_STAGE ≠ 8))) :=
  ⟨
    ⟨((State.reset.put GLOBAL_STRAPS_BOOT_MODE_EFF 1)), ((State.reset.put GLOBAL_STRAPS_BOOT_MODE_EFF 1).romRuns),
      by decide +kernel⟩,
    ⟨(State.reset), (State.reset.romRuns), by decide +kernel⟩,
    ⟨(State.reset), (State.reset.romRuns), by decide +kernel⟩,
    ⟨headerState, (headerState.romRuns), by decide +kernel⟩,
    ⟨((headerState.put GLOBAL_STRAPS_BOOT_MODE_EFF 2)), ((headerState.put GLOBAL_STRAPS_BOOT_MODE_EFF 2).romRuns),
      by decide +kernel⟩,
    ⟨fwState, by decide +kernel⟩,
    ⟨(((State.reset.modPower (fun x => { x with mcDown := false })).modMc (fun m => { m with fwSel := true }))),
      by decide +kernel⟩,
    ⟨((((State.reset.modPower (fun x => { x with mcDown := false })).modMc (fun m => { m with fwSel := true })).putB
      GLOBAL_COMMIT_CL_COMMIT true)), by decide +kernel⟩,
    ⟨((((State.reset.modPower (fun x => { x with mcDown := false })).modMc (fun m => { m with fwSel := true })).modMc
      (fun m => { m with fwOn := true })).put GLOBAL_BOOT_STATUS_STAGE 1), by decide +kernel⟩,
    ⟨(State.reset), by decide +kernel⟩,
    ⟨fwState, by decide +kernel⟩,
    ⟨(State.reset), by decide +kernel⟩,
    ⟨(((slotState 0 3 []).put GLOBAL_BOOT_STATUS_STAGE 4)), (((slotState 0 3 []).put GLOBAL_BOOT_STATUS_STAGE
      4).setClCommit), by decide +kernel⟩,
    ⟨(((slotState 1 5 (List.replicate 64 0)).put GLOBAL_BOOT_STATUS_STAGE 4)), (((slotState 1 5 (List.replicate 64
      0)).put GLOBAL_BOOT_STATUS_STAGE 4).setClCommit), by decide +kernel⟩,
    ⟨(State.reset.modPower (fun x => { x with porst := true })), by decide +kernel⟩,
    ⟨(State.reset), by decide +kernel⟩,
    ⟨((slotState 0 3 []).put GLOBAL_BOOT_STATUS_STAGE 6), by decide +kernel⟩,
    ⟨(State.reset.putB GLOBAL_BOOT_STATUS_HELD true), by decide +kernel⟩,
    ⟨(State.reset.putB GLOBAL_BOOT_STATUS_HELD true), by decide +kernel⟩,
    ⟨(State.reset), by decide +kernel⟩⟩

theorem witness_StartComplete_2 :
  (∃ (s : State) (x : State), s.held = false ∧ s.flag GLOBAL_BOOT_STATUS_HELD = false ∧ s.fwRuns = true ∧ s.mc.clOk =
    true ∧ s.get GLOBAL_BOOT_STATUS_STAGE = 7 ∧ x = s.stage8 (clOne s.clNow 8) ∧ (bit (bytesAt s.clNow 28 2) 1 =
    false ∨ x.flag SILL_STATUS_TIME_LOCKED = true)) ∧
  (∃ (s : State) (x : State), s.held = false ∧ s.flag GLOBAL_BOOT_STATUS_HELD = false ∧ s.fwRuns = true ∧ s.mc.clOk =
    true ∧ s.get GLOBAL_BOOT_STATUS_STAGE = 7 ∧ x = s.stage8 (clOne s.clNow 8) ∧ bit (bytesAt s.clNow 28 2) 1 = true
    ∧ x.flag SILL_STATUS_TIME_LOCKED = false) ∧
  (∃ (s : State), s.held = false ∧ s.flag GLOBAL_BOOT_STATUS_HELD = false ∧ s.fwRuns = true ∧ s.mc.clOk = true ∧
    s.get GLOBAL_BOOT_STATUS_STAGE = 8 ∧ (bit (bytesAt s.clNow 28 2) 1 = false ∨ s.flag SILL_STATUS_TIME_LOCKED =
    true)) ∧
  (∃ (s : State), s.held = false ∧ s.flag GLOBAL_BOOT_STATUS_HELD = false ∧ s.fwRuns = true ∧ s.mc.clOk = true ∧
    s.get GLOBAL_BOOT_STATUS_STAGE = 8 ∧ bit (bytesAt s.clNow 28 2) 1 = true ∧ s.flag SILL_STATUS_TIME_LOCKED =
    false) ∧
  (∃ (s : State), s.fwRuns = true ∧ s.get GLOBAL_BOOT_STATUS_STAGE = 8 ∧ s.outCommit = false ∧ s.mc.waitAt + bytesAt
    s.clNow 30 2 * 1000000 ≤ s.tb.ticks) ∧
  (∃ (s : State), (s.fwRuns = false ∨ s.get GLOBAL_BOOT_STATUS_STAGE ≠ 8 ∨ s.outCommit = true ∨ s.tb.ticks <
    s.mc.waitAt + bytesAt s.clNow 30 2 * 1000000)) ∧
  (∃ (s : State), s.held = false) ∧
  (∃ (s : State), s.held = true) :=
  ⟨
    ⟨(((slotState 0 3 []).put GLOBAL_BOOT_STATUS_STAGE 7)), (((slotState 0 3 []).put GLOBAL_BOOT_STATUS_STAGE
      7).stage8 (clOne ((slotState 0 3 []).put GLOBAL_BOOT_STATUS_STAGE 7).clNow 8)), by decide +kernel⟩,
    ⟨(((slotState 2 3 []).put GLOBAL_BOOT_STATUS_STAGE 7)), (((slotState 2 3 []).put GLOBAL_BOOT_STATUS_STAGE
      7).stage8 (clOne ((slotState 2 3 []).put GLOBAL_BOOT_STATUS_STAGE 7).clNow 8)), by decide +kernel⟩,
    ⟨(((slotState 2 3 []).put GLOBAL_BOOT_STATUS_STAGE 8).putB SILL_STATUS_TIME_LOCKED true), by decide +kernel⟩,
    ⟨(((slotState 2 3 []).put GLOBAL_BOOT_STATUS_STAGE 8)), by decide +kernel⟩,
    ⟨(((slotState 2 3 []).put GLOBAL_BOOT_STATUS_STAGE 8)), by decide +kernel⟩,
    ⟨(State.reset), by decide +kernel⟩,
    ⟨(State.reset), by decide +kernel⟩,
    ⟨(State.reset.modPower (fun x => { x with porst := true })), by decide +kernel⟩⟩

theorem witness_RegisterCommandsComplete :
  (∃ (s : State) (l : Fin 96) (m : Fin 3), s.reaches m = true ∧ s.laneRetired l = false ∧ (m = 0 ∨ s.laneServing l =
    false)) ∧
  (∃ (s : State) (l : Fin 96) (m : Fin 3), s.reaches m = true ∧ (s.laneRetired l = true ∨ (m ≠ 0 ∧ s.laneServing l =
    true))) ∧
  (∃ (s : State) (m : Fin 3), s.reaches m = false) ∧
  (∃ (s : State) (l : Fin 96) (m : Fin 3), s.reaches m = true ∧ (m = 0 ∨ s.laneServing l = false)) ∧
  (∃ (s : State) (l : Fin 96) (m : Fin 3), s.reaches m = true ∧ m ≠ 0 ∧ s.laneServing l = true) ∧
  (∃ (s : State) (m : Fin 3), s.reaches m = false) ∧
  (∃ (s : State) (l : Fin 96) (m : Fin 3), s.reaches m = true ∧ (m = 0 ∨ s.laneServing l = false)) ∧
  (∃ (s : State) (l : Fin 96) (m : Fin 3), s.reaches m = true ∧ m ≠ 0 ∧ s.laneServing l = true) ∧
  (∃ (s : State) (m : Fin 3), s.reaches m = false) ∧
  (∃ (s : State) (l : Fin 96) (m : Fin 3), s.reaches m = true ∧ (m = 0 ∨ s.laneServing l = false)) ∧
  (∃ (s : State) (l : Fin 96) (m : Fin 3), s.reaches m = true ∧ m ≠ 0 ∧ s.laneServing l = true) ∧
  (∃ (s : State) (m : Fin 3), s.reaches m = false) ∧
  (∃ (s : State) (l : Fin 96) (m : Fin 3), s.reaches m = true ∧ (m = 0 ∨ s.laneServing l = false)) ∧
  (∃ (s : State) (l : Fin 96) (m : Fin 3), s.reaches m = true ∧ m ≠ 0 ∧ s.laneServing l = true) ∧
  (∃ (s : State) (m : Fin 3), s.reaches m = false) ∧
  (∃ (s : State) (l : Fin 96) (m : Fin 3), s.reaches m = true ∧ (m = 0 ∨ s.laneServing l = false)) ∧
  (∃ (s : State) (l : Fin 96) (m : Fin 3), s.reaches m = true ∧ m ≠ 0 ∧ s.laneServing l = true) ∧
  (∃ (s : State) (m : Fin 3), s.reaches m = false) ∧
  (∃ (s : State) (l : Fin 96) (m : Fin 3), s.reaches m = true ∧ (m = 0 ∨ s.laneServing l = false)) ∧
  (∃ (s : State) (l : Fin 96) (m : Fin 3), s.reaches m = true ∧ m ≠ 0 ∧ s.laneServing l = true) :=
  ⟨
    ⟨hostState, 3, 1, by decide +kernel⟩,
    ⟨((((hostState.putB (DLV_STATUS_ADMITTED 5) true).put (DLV_CFG_KIND 5) 0).put (DLV_CFG_SOURCE 5) 3)), 3, 1,
      by decide +kernel⟩,
    ⟨(State.reset), 1, by decide +kernel⟩,
    ⟨hostState, 3, 1, by decide +kernel⟩,
    ⟨((((hostState.putB (DLV_STATUS_ADMITTED 5) true).put (DLV_CFG_KIND 5) 0).put (DLV_CFG_SOURCE 5) 3)), 3, 1,
      by decide +kernel⟩,
    ⟨(State.reset), 1, by decide +kernel⟩,
    ⟨hostState, 3, 1, by decide +kernel⟩,
    ⟨((((hostState.putB (DLV_STATUS_ADMITTED 5) true).put (DLV_CFG_KIND 5) 0).put (DLV_CFG_SOURCE 5) 3)), 3, 1,
      by decide +kernel⟩,
    ⟨(State.reset), 1, by decide +kernel⟩,
    ⟨hostState, 3, 1, by decide +kernel⟩,
    ⟨((((hostState.putB (DLV_STATUS_ADMITTED 5) true).put (DLV_CFG_KIND 5) 0).put (DLV_CFG_SOURCE 5) 3)), 3, 1,
      by decide +kernel⟩,
    ⟨(State.reset), 1, by decide +kernel⟩,
    ⟨hostState, 3, 1, by decide +kernel⟩,
    ⟨((((hostState.putB (DLV_STATUS_ADMITTED 5) true).put (DLV_CFG_KIND 5) 0).put (DLV_CFG_SOURCE 5) 3)), 3, 1,
      by decide +kernel⟩,
    ⟨(State.reset), 1, by decide +kernel⟩,
    ⟨hostState, 3, 1, by decide +kernel⟩,
    ⟨((((hostState.putB (DLV_STATUS_ADMITTED 5) true).put (DLV_CFG_KIND 5) 0).put (DLV_CFG_SOURCE 5) 3)), 3, 1,
      by decide +kernel⟩,
    ⟨(State.reset), 1, by decide +kernel⟩,
    ⟨hostState, 3, 1, by decide +kernel⟩,
    ⟨((((hostState.putB (DLV_STATUS_ADMITTED 5) true).put (DLV_CFG_KIND 5) 0).put (DLV_CFG_SOURCE 5) 3)), 3, 1,
      by decide +kernel⟩⟩

theorem witness_RegisterCommandsComplete_2 :
  (∃ (s : State) (m : Fin 3), s.reaches m = false) ∧
  (∃ (s : State) (q : Fin 128) (m : Fin 3), s.reaches m = true ∧ (m = 0 ∨ s.seqServing q = false)) ∧
  (∃ (s : State) (q : Fin 128) (m : Fin 3), s.reaches m = true ∧ m ≠ 0 ∧ s.seqServing q = true) ∧
  (∃ (s : State) (m : Fin 3), s.reaches m = false) ∧
  (∃ (s : State) (q : Fin 128) (m : Fin 3), s.reaches m = true ∧ (m = 0 ∨ s.seqServing q = false)) ∧
  (∃ (s : State) (q : Fin 128) (m : Fin 3), s.reaches m = true ∧ m ≠ 0 ∧ s.seqServing q = true) ∧
  (∃ (s : State) (m : Fin 3), s.reaches m = false) ∧
  (∃ (s : State) (q : Fin 128) (m : Fin 3), s.reaches m = true ∧ (m = 0 ∨ s.seqServing q = false)) ∧
  (∃ (s : State) (q : Fin 128) (m : Fin 3), s.reaches m = true ∧ m ≠ 0 ∧ s.seqServing q = true) ∧
  (∃ (s : State) (m : Fin 3), s.reaches m = false) ∧
  (∃ (s : State) (q : Fin 128) (m : Fin 3), s.reaches m = true ∧ (m = 0 ∨ s.seqServing q = false)) ∧
  (∃ (s : State) (q : Fin 128) (m : Fin 3), s.reaches m = true ∧ m ≠ 0 ∧ s.seqServing q = true) ∧
  (∃ (s : State) (m : Fin 3), s.reaches m = false) ∧
  (∃ (s : State) (q : Fin 128) (m : Fin 3), s.reaches m = true ∧ (m = 0 ∨ s.seqServing q = false)) ∧
  (∃ (s : State) (q : Fin 128) (m : Fin 3), s.reaches m = true ∧ m ≠ 0 ∧ s.seqServing q = true) ∧
  (∃ (s : State) (m : Fin 3), s.reaches m = false) ∧
  (∃ (s : State) (q : Fin 128) (m : Fin 3), s.reaches m = true ∧ s.trRing q = true ∧ (m = 0 ∨ s.seqServing q =
    false)) ∧
  (∃ (s : State) (q : Fin 128) (m : Fin 3), s.reaches m = true ∧ (s.trRing q = false ∨ (m ≠ 0 ∧ s.seqServing q =
    true))) ∧
  (∃ (s : State) (m : Fin 3), s.reaches m = true) ∧
  (∃ (s : State) (m : Fin 3) (n : Nat), s.reaches m = true ∧ n ≠ 4 ∧ n ≠ 8) :=
  ⟨
    ⟨(State.reset), 1, by decide +kernel⟩,
    ⟨hostState, 3, 1, by decide +kernel⟩,
    ⟨((((((hostState.putB (DLV_STATUS_ADMITTED 5) true).put (DLV_CFG_KIND 5) 0).put (DLV_CFG_SOURCE 5) 3).put
      (TRIG_CTRL_PATH 3) 1).put (TRIG_CTRL_OUT_INDEX 3) 3)), 3, 1, by decide +kernel⟩,
    ⟨(State.reset), 1, by decide +kernel⟩,
    ⟨hostState, 3, 1, by decide +kernel⟩,
    ⟨((((((hostState.putB (DLV_STATUS_ADMITTED 5) true).put (DLV_CFG_KIND 5) 0).put (DLV_CFG_SOURCE 5) 3).put
      (TRIG_CTRL_PATH 3) 1).put (TRIG_CTRL_OUT_INDEX 3) 3)), 3, 1, by decide +kernel⟩,
    ⟨(State.reset), 1, by decide +kernel⟩,
    ⟨hostState, 3, 1, by decide +kernel⟩,
    ⟨((((((hostState.putB (DLV_STATUS_ADMITTED 5) true).put (DLV_CFG_KIND 5) 0).put (DLV_CFG_SOURCE 5) 3).put
      (TRIG_CTRL_PATH 3) 1).put (TRIG_CTRL_OUT_INDEX 3) 3)), 3, 1, by decide +kernel⟩,
    ⟨(State.reset), 1, by decide +kernel⟩,
    ⟨hostState, 3, 1, by decide +kernel⟩,
    ⟨((((((hostState.putB (DLV_STATUS_ADMITTED 5) true).put (DLV_CFG_KIND 5) 0).put (DLV_CFG_SOURCE 5) 3).put
      (TRIG_CTRL_PATH 3) 1).put (TRIG_CTRL_OUT_INDEX 3) 3)), 3, 1, by decide +kernel⟩,
    ⟨(State.reset), 1, by decide +kernel⟩,
    ⟨hostState, 3, 1, by decide +kernel⟩,
    ⟨((((((hostState.putB (DLV_STATUS_ADMITTED 5) true).put (DLV_CFG_KIND 5) 0).put (DLV_CFG_SOURCE 5) 3).put
      (TRIG_CTRL_PATH 3) 1).put (TRIG_CTRL_OUT_INDEX 3) 3)), 3, 1, by decide +kernel⟩,
    ⟨(State.reset), 1, by decide +kernel⟩,
    ⟨((hostState.put (TRIG_CTRL_MODE 3) 1).putB (TRIG_OPT_LIST_SRC 3) true), 3, 1, by decide +kernel⟩,
    ⟨hostState, 3, 1, by decide +kernel⟩,
    ⟨hostState, 1, by decide +kernel⟩,
    ⟨hostState, 1, 1, by decide +kernel⟩⟩

theorem witness_RegisterCommandsComplete_3 :
  (∃ (s : State) (m : Fin 3), s.reaches m = false) ∧
  (∃ (s : State) (u : Fin 16) (m : Fin 3), s.reaches m = true ∧ s.flag (STITCH_CTRL_EN u) = false ∧ (m = 0 ∨
    s.scarfServing u = false)) ∧
  (∃ (s : State) (u : Fin 16) (m : Fin 3), s.reaches m = true ∧ m ≠ 0 ∧ s.scarfServing u = true) ∧
  (∃ (s : State) (m : Fin 3), s.reaches m = false) ∧
  (∃ (s : State) (u : Fin 16) (m : Fin 3), s.reaches m = true ∧ s.flag (STITCH_CTRL_EN u) = true ∧ (m = 0 ∨
    s.scarfServing u = false)) ∧
  (∃ (s : State) (u : Fin 16) (m : Fin 3), s.reaches m = true ∧ (m = 0 ∨ s.scarfServing u = false)) ∧
  (∃ (s : State) (u : Fin 16) (m : Fin 3), s.reaches m = true ∧ m ≠ 0 ∧ s.scarfServing u = true) ∧
  (∃ (s : State) (m : Fin 3), s.reaches m = false) :=
  ⟨
    ⟨(State.reset), 1, by decide +kernel⟩,
    ⟨hostState, 3, 1, by decide +kernel⟩,
    ⟨((((hostState.putB (DLV_STATUS_ADMITTED 5) true).put (DLV_CFG_KIND 5) 1).put (DLV_CFG_SOURCE 5) 3)), 3, 1,
      by decide +kernel⟩,
    ⟨(State.reset), 1, by decide +kernel⟩,
    ⟨(hostState.putB (STITCH_CTRL_EN 3) true), 3, 1, by decide +kernel⟩,
    ⟨hostState, 3, 1, by decide +kernel⟩,
    ⟨((((hostState.putB (DLV_STATUS_ADMITTED 5) true).put (DLV_CFG_KIND 5) 1).put (DLV_CFG_SOURCE 5) 3)), 3, 1,
      by decide +kernel⟩,
    ⟨(State.reset), 1, by decide +kernel⟩⟩

theorem witness_RetirementComplete :
  (∃ (s : State) (l : Fin 96) (x : State), s.reaches 0 = true ∧ x = ((s.put GLOBAL_RETIRE_CMD_KIND 0).put
    GLOBAL_RETIRE_CMD_INDEX l).putB GLOBAL_RETIRE_CMD_GO false ∧ x.unitGone 0 l = false) ∧
  (∃ (s : State) (l : Fin 96) (x : State), s.reaches 0 = true ∧ x = ((s.put GLOBAL_RETIRE_CMD_KIND 0).put
    GLOBAL_RETIRE_CMD_INDEX l).putB GLOBAL_RETIRE_CMD_GO false ∧ x.unitGone 0 l = true) ∧
  (∃ (s : State) (m : Fin 3), s.reaches m = true ∧ m ≠ 0) ∧
  (∃ (s : State) (m : Fin 3), s.reaches m = false) ∧
  (∃ (s : State) (b : Fin 24) (x : State), s.reaches 0 = true ∧ x = ((s.put GLOBAL_RETIRE_CMD_KIND 1).put
    GLOBAL_RETIRE_CMD_INDEX b).putB GLOBAL_RETIRE_CMD_GO false ∧ x.unitGone 1 b = false) ∧
  (∃ (s : State) (b : Fin 24) (x : State), s.reaches 0 = true ∧ x = ((s.put GLOBAL_RETIRE_CMD_KIND 1).put
    GLOBAL_RETIRE_CMD_INDEX b).putB GLOBAL_RETIRE_CMD_GO false ∧ x.unitGone 1 b = true) ∧
  (∃ (s : State) (m : Fin 3), s.reaches m = true ∧ m ≠ 0) ∧
  (∃ (s : State) (m : Fin 3), s.reaches m = false) ∧
  (∃ (s : State) (e : Fin 192) (x : State), s.reaches 0 = true ∧ x = ((s.put GLOBAL_RETIRE_CMD_KIND 2).put
    GLOBAL_RETIRE_CMD_INDEX e).putB GLOBAL_RETIRE_CMD_GO false ∧ x.unitGone 2 e = false) ∧
  (∃ (s : State) (e : Fin 192) (x : State), s.reaches 0 = true ∧ x = ((s.put GLOBAL_RETIRE_CMD_KIND 2).put
    GLOBAL_RETIRE_CMD_INDEX e).putB GLOBAL_RETIRE_CMD_GO false ∧ x.unitGone 2 e = true) ∧
  (∃ (s : State) (m : Fin 3), s.reaches m = true ∧ m ≠ 0) ∧
  (∃ (s : State) (m : Fin 3), s.reaches m = false) ∧
  (∃ (s : State) (c : Fin 16) (x : State), s.reaches 0 = true ∧ x = ((s.put GLOBAL_RETIRE_CMD_KIND 4).put
    GLOBAL_RETIRE_CMD_INDEX c).putB GLOBAL_RETIRE_CMD_GO false ∧ x.unitGone 4 c = false) ∧
  (∃ (s : State) (c : Fin 16) (x : State), s.reaches 0 = true ∧ x = ((s.put GLOBAL_RETIRE_CMD_KIND 4).put
    GLOBAL_RETIRE_CMD_INDEX c).putB GLOBAL_RETIRE_CMD_GO false ∧ x.unitGone 4 c = true) ∧
  (∃ (s : State) (m : Fin 3), s.reaches m = true ∧ m ≠ 0) ∧
  (∃ (s : State) (m : Fin 3), s.reaches m = false) ∧
  (∃ (s : State) (p : Fin 4) (x : State), s.reaches 0 = true ∧ x = ((s.put GLOBAL_RETIRE_CMD_KIND 5).put
    GLOBAL_RETIRE_CMD_INDEX p).putB GLOBAL_RETIRE_CMD_GO false ∧ x.unitGone 5 p = false) ∧
  (∃ (s : State) (p : Fin 4) (x : State), s.reaches 0 = true ∧ x = ((s.put GLOBAL_RETIRE_CMD_KIND 5).put
    GLOBAL_RETIRE_CMD_INDEX p).putB GLOBAL_RETIRE_CMD_GO false ∧ x.unitGone 5 p = true) ∧
  (∃ (s : State) (m : Fin 3), s.reaches m = true ∧ m ≠ 0) ∧
  (∃ (s : State) (m : Fin 3), s.reaches m = false) :=
  ⟨
    ⟨fwState, 3, (((fwState.put GLOBAL_RETIRE_CMD_KIND 0).put GLOBAL_RETIRE_CMD_INDEX 3).putB GLOBAL_RETIRE_CMD_GO
      false), by decide +kernel⟩,
    ⟨((fwState.wrN (GLOBAL_RETIRED_LANE 0) 8)), 3, ((((fwState.wrN (GLOBAL_RETIRED_LANE 0) 8).put
      GLOBAL_RETIRE_CMD_KIND 0).put GLOBAL_RETIRE_CMD_INDEX 3).putB GLOBAL_RETIRE_CMD_GO false), by decide +kernel⟩,
    ⟨hostState, 1, by decide +kernel⟩,
    ⟨(State.reset), 1, by decide +kernel⟩,
    ⟨fwState, 3, (((fwState.put GLOBAL_RETIRE_CMD_KIND 1).put GLOBAL_RETIRE_CMD_INDEX 3).putB GLOBAL_RETIRE_CMD_GO
      false), by decide +kernel⟩,
    ⟨((fwState.wrN GLOBAL_RETIRED_BAY 8)), 3, ((((fwState.wrN GLOBAL_RETIRED_BAY 8).put GLOBAL_RETIRE_CMD_KIND 1).put
      GLOBAL_RETIRE_CMD_INDEX 3).putB GLOBAL_RETIRE_CMD_GO false), by decide +kernel⟩,
    ⟨hostState, 1, by decide +kernel⟩,
    ⟨(State.reset), 1, by decide +kernel⟩,
    ⟨fwState, 3, (((fwState.put GLOBAL_RETIRE_CMD_KIND 2).put GLOBAL_RETIRE_CMD_INDEX 3).putB GLOBAL_RETIRE_CMD_GO
      false), by decide +kernel⟩,
    ⟨((fwState.wrN (GLOBAL_RETIRED_ENG 0) 8)), 3, ((((fwState.wrN (GLOBAL_RETIRED_ENG 0) 8).put
      GLOBAL_RETIRE_CMD_KIND 2).put GLOBAL_RETIRE_CMD_INDEX 3).putB GLOBAL_RETIRE_CMD_GO false), by decide +kernel⟩,
    ⟨hostState, 1, by decide +kernel⟩,
    ⟨(State.reset), 1, by decide +kernel⟩,
    ⟨fwState, 3, (((fwState.put GLOBAL_RETIRE_CMD_KIND 4).put GLOBAL_RETIRE_CMD_INDEX 3).putB GLOBAL_RETIRE_CMD_GO
      false), by decide +kernel⟩,
    ⟨((fwState.put GLOBAL_RETIRED_MISC_POS 8)), 3, ((((fwState.put GLOBAL_RETIRED_MISC_POS 8).put
      GLOBAL_RETIRE_CMD_KIND 4).put GLOBAL_RETIRE_CMD_INDEX 3).putB GLOBAL_RETIRE_CMD_GO false), by decide +kernel⟩,
    ⟨hostState, 1, by decide +kernel⟩,
    ⟨(State.reset), 1, by decide +kernel⟩,
    ⟨fwState, 3, (((fwState.put GLOBAL_RETIRE_CMD_KIND 5).put GLOBAL_RETIRE_CMD_INDEX 3).putB GLOBAL_RETIRE_CMD_GO
      false), by decide +kernel⟩,
    ⟨((fwState.put GLOBAL_RETIRED_MISC_SILL 8)), 3, ((((fwState.put GLOBAL_RETIRED_MISC_SILL 8).put
      GLOBAL_RETIRE_CMD_KIND 5).put GLOBAL_RETIRE_CMD_INDEX 3).putB GLOBAL_RETIRE_CMD_GO false), by decide +kernel⟩,
    ⟨hostState, 1, by decide +kernel⟩,
    ⟨(State.reset), 1, by decide +kernel⟩⟩

theorem witness_MailboxStreamsComplete :
  (∃ (s : State) (p : Fin 2), s.atHead p = true ∧ s.fwRuns = true ∧ s.reqOpcode p ∉ opcodes) ∧
  (∃ (s : State) (p : Fin 2), s.atHead p = true ∧ s.recovering = true ∧ s.reqOpcode p ∉ bootOpcodes) ∧
  (∃ (s : State) (p : Fin 2), (s.atHead p = false ∨ ((s.fwRuns = false ∨ s.reqOpcode p ∈ opcodes) ∧ (s.recovering =
    false ∨ s.reqOpcode p ∈ bootOpcodes)))) ∧
  (∃ (s : State) (p : Fin 2), s.serves p 0x01 = true) ∧
  (∃ (s : State) (p : Fin 2), s.serves p 0x01 = false) ∧
  (∃ (s : State) (p : Fin 2) (d : List Byte) (st : Nat) (b : Nat), s.serves p 0x10 = true ∧ d = s.payBytes p 0 64 ∧
    st = bytesAt d 0 1 ∧ s.flag GLOBAL_READMIT_PENDING = false ∧ 64 ≤ s.reqLen p ∧ streamOk d = true ∧ s.clDefines st
    = false ∧ s.admitted st = false ∧ (s.strm st).closing = false ∧ s.clCommit = true ∧ (s.admitStream d (some p)).2
    = .inr b) ∧
  (∃ (s : State) (p : Fin 2) (d : List Byte) (st : Nat) (n : Nat), s.serves p 0x10 = true ∧ d = s.payBytes p 0 64 ∧
    st = bytesAt d 0 1 ∧ s.flag GLOBAL_READMIT_PENDING = false ∧ 64 ≤ s.reqLen p ∧ streamOk d = true ∧ s.clDefines st
    = false ∧ s.admitted st = false ∧ (s.strm st).closing = false ∧ s.clCommit = true ∧ (s.admitStream d (some p)).2
    = .inl n) ∧
  (∃ (s : State) (p : Fin 2) (d : List Byte) (st : Nat), s.serves p 0x10 = true ∧ d = s.payBytes p 0 64 ∧ st =
    bytesAt d 0 1 ∧ s.flag GLOBAL_READMIT_PENDING = false ∧ 64 ≤ s.reqLen p ∧ streamOk d = true ∧ s.clDefines st =
    false ∧ s.admitted st = false ∧ (s.strm st).closing = false ∧ s.clCommit = false) ∧
  (∃ (s : State) (p : Fin 2) (d : List Byte) (st : Nat), s.serves p 0x10 = true ∧ d = s.payBytes p 0 64 ∧ st =
    bytesAt d 0 1 ∧ s.flag GLOBAL_READMIT_PENDING = false ∧ 64 ≤ s.reqLen p ∧ streamOk d = true ∧ s.clDefines st =
    false ∧ (s.admitted st = true ∨ (s.strm st).closing = true)) ∧
  (∃ (s : State) (p : Fin 2) (d : List Byte) (st : Nat), s.serves p 0x10 = true ∧ d = s.payBytes p 0 64 ∧ st =
    bytesAt d 0 1 ∧ s.flag GLOBAL_READMIT_PENDING = false ∧ (s.reqLen p < 64 ∨ streamOk d = false ∨ s.clDefines st =
    true)) ∧
  (∃ (s : State) (p : Fin 2), s.serves p 0x10 = true ∧ s.flag GLOBAL_READMIT_PENDING = true) ∧
  (∃ (s : State) (p : Fin 2), s.serves p 0x10 = false) ∧
  (∃ (s : State) (p : Fin 2) (st : Fin 256), s.serves p 0x11 = true ∧ s.admitted st = true ∧ (s.strm st).mbox ≠ none) ∧
  (∃ (s : State) (p : Fin 2) (st : Fin 256), s.serves p 0x11 = true ∧ (s.admitted st = false ∨ (s.strm st).mbox =
    none)) ∧
  (∃ (s : State) (p : Fin 2), s.serves p 0x11 = false) ∧
  (∃ (s : State) (p : Fin 2), s.serves p 0x12 = true ∧ s.postOk p = true ∧ s.flag (activeF (s.payN p 0 1) p) = false
    ∧ (s.ring (s.payN p 0 1) p).withdraw = false) ∧
  (∃ (s : State) (p : Fin 2), s.serves p 0x12 = true ∧ s.postOk p = true ∧ (s.flag (activeF (s.payN p 0 1) p) = true
    ∨ (s.ring (s.payN p 0 1) p).withdraw = true)) ∧
  (∃ (s : State) (p : Fin 2), s.serves p 0x12 = true ∧ s.postOk p = false) ∧
  (∃ (s : State) (p : Fin 2), s.serves p 0x12 = false) ∧
  (∃ (s : State) (p : Fin 2) (st : Nat) (x : State) (y : State), s.serves p 0x13 = true ∧ st = s.payN p 0 1 ∧ s.flag
    (activeF st p) = true ∧ x = (s.putB (activeF st p) false).modRing st p (fun r => { r with withdraw := true }) ∧ y
    = x.modMc (fun m =>
    { m with mboxOrder := m.mboxOrder.filter (fun q => q != p), mboxLate := m.mboxLate ++ [p.val] })) :=
  ⟨
    ⟨(reqState fwState 0x99 []), 3, by decide +kernel⟩,
    ⟨(reqState ((State.reset.modPower (fun x => { x with mcDown := false })).putB GLOBAL_BOOT_STATUS_RECOVERY true)
      0x99 []), 3, by decide +kernel⟩,
    ⟨(State.reset), 3, by decide +kernel⟩,
    ⟨(reqState fwState 0x01 []), 3, by decide +kernel⟩,
    ⟨(State.reset), 3, by decide +kernel⟩,
    ⟨openState, 3, (openState.payBytes 1 0 64), 3, 0, by decide +kernel⟩,
    ⟨((reqState ((fwState.putB GLOBAL_COMMIT_CL_COMMIT true).wrN (GLOBAL_RETIRED_LANE 0) 8) 0x10 ([3, 0, 3, 0] ++
      List.replicate 60 0))), 3, (((reqState ((fwState.putB GLOBAL_COMMIT_CL_COMMIT true).wrN (GLOBAL_RETIRED_LANE 0)
      8) 0x10 ([3, 0, 3, 0] ++ List.replicate 60 0))).payBytes 1 0 64), 3, nUnit, by decide +kernel⟩,
    ⟨(openState.putB GLOBAL_COMMIT_CL_COMMIT false), 3, ((openState.putB GLOBAL_COMMIT_CL_COMMIT false).payBytes 1 0
      64), 3, by decide +kernel⟩,
    ⟨(openState.putB (DLV_STATUS_ADMITTED 3) true), 3, ((openState.putB (DLV_STATUS_ADMITTED 3) true).payBytes 1 0
      64), 3, by decide +kernel⟩,
    ⟨(reqState fwState 0x10 []), 3, ((reqState fwState 0x10 []).payBytes 1 0 64), 0, by decide +kernel⟩,
    ⟨(openState.putB GLOBAL_READMIT_PENDING true), 3, by decide +kernel⟩,
    ⟨(State.reset), 3, by decide +kernel⟩,
    ⟨(((reqState fwState 0x11 []).putB (DLV_STATUS_ADMITTED 3) true).modStrm 3 (fun x => { x with mbox := some 1 })),
      3, 3, by decide +kernel⟩,
    ⟨(reqState fwState 0x11 []), 3, 3, by decide +kernel⟩,
    ⟨(State.reset), 3, by decide +kernel⟩,
    ⟨((((reqState fwState 0x12 ([3, 4] ++ toBytes 2 16 ++ List.replicate 28 0)).putB (DLV_STATUS_ADMITTED 3)
      true).modStrm 3 (fun x => { x with defn := [3, 0, 0, 3] ++ List.replicate 60 0 })).put (DLV_CFG_PORT 3) 1), 3,
      by decide +kernel⟩,
    ⟨(((((reqState fwState 0x12 ([3, 4] ++ toBytes 2 16 ++ List.replicate 28 0)).putB (DLV_STATUS_ADMITTED 3)
      true).modStrm 3 (fun x => { x with defn := [3, 0, 0, 3] ++ List.replicate 60 0 })).put (DLV_CFG_PORT 3) 1).putB
      (activeF 3 1) true), 3, by decide +kernel⟩,
    ⟨(reqState fwState 0x12 []), 3, by decide +kernel⟩,
    ⟨(State.reset), 3, by decide +kernel⟩,
    ⟨((reqState fwState 0x13 [3, 0, 0, 0]).putB (activeF 3 1) true), 1, 3, ((((reqState fwState 0x13 [3, 0, 0,
      0]).putB (activeF 3 1) true).putB (activeF 3 1) false).modRing 3 1 (fun r => { r with withdraw := true })),
      (((((reqState fwState 0x13 [3, 0, 0, 0]).putB (activeF 3 1) true).putB (activeF 3 1) false).modRing 3 1 (fun r
      => { r with withdraw := true })).modMc (fun m =>
      { m with mboxOrder := m.mboxOrder.filter (fun q => q != 1), mboxLate := m.mboxLate ++ [1] })),
      by decide +kernel⟩⟩

theorem witness_MailboxStreamsComplete_2 :
  (∃ (s : State) (p : Fin 2), s.serves p 0x13 = true ∧ s.flag (activeF (s.payN p 0 1) p) = false) ∧
  (∃ (s : State) (p : Fin 2), s.serves p 0x13 = false) ∧
  (∃ (s : State) (p : Fin 2) (l : Fin 96) (op : Fin 4) (a : Word) (v : Word) (x : State), (s.ethUp l && s.gvcpIs l
    (10 + p.val) && decide (p.val ∈ s.mc.mboxLate)) = false ∧ s.serves p 0x20 = true ∧ 2 ≤ s.persReg l ∧ op ≠ 0 ∧ x =
    (s.modMc (fun m => { m with
    mboxOrder := m.mboxOrder.filter (fun q => q != p), mboxLate := m.mboxLate ++ [p.val] })).modEth l (fun x =>
    { x with access := x.access ++ [⟨10 + p.val, op.val, a.toNat, v.toNat⟩] }) ∧ x.flag (ETH_STATUS_READY l) = true) ∧
  (∃ (s : State) (p : Fin 2) (l : Fin 96) (op : Fin 4) (a : Word) (v : Word) (x : State), (s.ethUp l && s.gvcpIs l
    (10 + p.val) && decide (p.val ∈ s.mc.mboxLate)) = false ∧ s.serves p 0x20 = true ∧ 2 ≤ s.persReg l ∧ op ≠ 0 ∧ x =
    (s.modMc (fun m => { m with
    mboxOrder := m.mboxOrder.filter (fun q => q != p), mboxLate := m.mboxLate ++ [p.val] })).modEth l (fun x =>
    { x with access := x.access ++ [⟨10 + p.val, op.val, a.toNat, v.toNat⟩] }) ∧ x.flag (ETH_STATUS_READY l) = false) ∧
  (∃ (s : State) (p : Fin 2) (l : Fin 96) (op : Fin 4), (s.ethUp l && s.gvcpIs l (10 + p.val) && decide (p.val ∈
    s.mc.mboxLate)) = false ∧ s.serves p 0x20 = true ∧ (s.persReg l ≤ 1 ∨ op = 0)) ∧
  (∃ (s : State) (p : Fin 2) (l : Fin 96) (op : Fin 4) (k : GvcpCmd) (r : List GvcpCmd), (s.ethUp l && s.gvcpIs l (10
    + p.val) && decide (p.val ∈ s.mc.mboxLate)) = true ∧ (s.leth l).gvcp = k :: r ∧ op = 0) ∧
  (∃ (s : State) (p : Fin 2) (l : Fin 96) (op : Fin 4) (k : GvcpCmd) (r : List GvcpCmd), (s.ethUp l && s.gvcpIs l (10
    + p.val) && decide (p.val ∈ s.mc.mboxLate)) = true ∧ (s.leth l).gvcp = k :: r ∧ op ≠ 0 ∧ k.op = 1) ∧
  (∃ (s : State) (p : Fin 2) (l : Fin 96) (op : Fin 4) (k : GvcpCmd) (r : List GvcpCmd), (s.ethUp l && s.gvcpIs l (10
    + p.val) && decide (p.val ∈ s.mc.mboxLate)) = true ∧ (s.leth l).gvcp = k :: r ∧ op ≠ 0 ∧ k.op ≠ 1) ∧
  (∃ (s : State) (p : Fin 2) (l : Fin 96), (s.ethUp l && s.gvcpIs l (10 + p.val) && decide (p.val ∈ s.mc.mboxLate)) =
    false ∧ s.serves p 0x20 = false) ∧
  (∃ (s : State) (p : Fin 2), s.serves p 0x61 = true ∧ s.notRunning = false ∧ s.outCommit = true) ∧
  (∃ (s : State) (p : Fin 2), s.serves p 0x61 = true ∧ s.notRunning = false ∧ s.outCommit = false) ∧
  (∃ (s : State) (p : Fin 2), s.serves p 0x61 = true ∧ s.notRunning = true) ∧
  (∃ (s : State) (p : Fin 2), s.serves p 0x61 = false) ∧
  (∃ (s : State) (p : Fin 2), s.serves p 0x62 = true ∧ s.notRunning = false ∧ s.outCommit = false) ∧
  (∃ (s : State) (p : Fin 2), s.serves p 0x62 = true ∧ s.notRunning = false ∧ s.outCommit = true) ∧
  (∃ (s : State) (p : Fin 2), s.serves p 0x62 = true ∧ s.notRunning = true) ∧
  (∃ (s : State) (p : Fin 2), s.serves p 0x62 = false) :=
  ⟨
    ⟨(reqState fwState 0x13 []), 3, by decide +kernel⟩,
    ⟨(State.reset), 3, by decide +kernel⟩,
    ⟨(((reqState fwState 0x20 []).put (LANE_CTRL_PERSONALITY 3) 2).putB (ETH_STATUS_READY 3) true), 1, 3, 1, 0, 0,
      (((((reqState fwState 0x20 []).put (LANE_CTRL_PERSONALITY 3) 2).putB (ETH_STATUS_READY 3) true).modMc (fun m =>
      { m with mboxOrder := m.mboxOrder.filter (fun q => q != 1), mboxLate := m.mboxLate ++ [1] })).modEth 3 (fun x
      => { x with access := x.access ++ [⟨11, 1, 0, 0⟩] })), by decide +kernel⟩,
    ⟨(((reqState fwState 0x20 []).put (LANE_CTRL_PERSONALITY 3) 2)), 1, 3, 1, 0, 0, (((((reqState fwState 0x20
      []).put (LANE_CTRL_PERSONALITY 3) 2)).modMc (fun m =>
      { m with mboxOrder := m.mboxOrder.filter (fun q => q != 1), mboxLate := m.mboxLate ++ [1] })).modEth 3 (fun x
      => { x with access := x.access ++ [⟨11, 1, 0, 0⟩] })), by decide +kernel⟩,
    ⟨(reqState fwState 0x20 []), 3, 3, 3, by decide +kernel⟩,
    ⟨((((ethUpState.modPower (fun x => { x with mcDown := false })).modMc (fun m =>
      { m with fwOn := true, mboxLate := [1] })).modEth 3 (fun x => { x with gvcp := [⟨11, 1, 0, 0⟩] }))), 1, 3, 0,
      (⟨11, 1, 0, 0⟩), [], by decide +kernel⟩,
    ⟨((((ethUpState.modPower (fun x => { x with mcDown := false })).modMc (fun m =>
      { m with fwOn := true, mboxLate := [1] })).modEth 3 (fun x => { x with gvcp := [⟨11, 1, 0, 0⟩] }))), 1, 3, 1,
      (⟨11, 1, 0, 0⟩), [], by decide +kernel⟩,
    ⟨((((ethUpState.modPower (fun x => { x with mcDown := false })).modMc (fun m =>
      { m with fwOn := true, mboxLate := [1] })).modEth 3 (fun x => { x with gvcp := [⟨11, 2, 0, 0⟩] }))), 1, 3, 1,
      (⟨11, 2, 0, 0⟩), [], by decide +kernel⟩,
    ⟨(State.reset), 3, 3, by decide +kernel⟩,
    ⟨(((reqState fwState 0x61 []).put GLOBAL_BOOT_STATUS_STAGE 9).putB GLOBAL_COMMIT_OUTPUT_COMMIT true), 3,
      by decide +kernel⟩,
    ⟨(((reqState fwState 0x61 []).put GLOBAL_BOOT_STATUS_STAGE 9).putB GLOBAL_COMMIT_OUTPUT_COMMIT false), 3,
      by decide +kernel⟩,
    ⟨(reqState fwState 0x61 []), 3, by decide +kernel⟩,
    ⟨(State.reset), 3, by decide +kernel⟩,
    ⟨(((reqState fwState 0x62 []).put GLOBAL_BOOT_STATUS_STAGE 9).putB GLOBAL_COMMIT_OUTPUT_COMMIT false), 3,
      by decide +kernel⟩,
    ⟨(((reqState fwState 0x62 []).put GLOBAL_BOOT_STATUS_STAGE 9).putB GLOBAL_COMMIT_OUTPUT_COMMIT true), 3,
      by decide +kernel⟩,
    ⟨(reqState fwState 0x62 []), 3, by decide +kernel⟩,
    ⟨(State.reset), 3, by decide +kernel⟩⟩

theorem witness_MailboxServiceComplete :
  (∃ (s : State) (p : Fin 2) (bad : List Nat) (l : Nat) (bank : Nat) (kinds : Nat) (a : Nat) (n : Nat) (x : State),
    s.serves p 0x30 = true ∧ l = s.payN p 0 1 ∧ bank = s.payN p 1 1 ∧ kinds = s.payN p 2 1 ∧ a = s.payN p 8 8 ∧ l <
    96 ∧ bank ≤ 1 ∧ kinds ≤ 7 ∧ s.payN p 3 1 = 0 ∧ s.get (BAY_COND_STATUS_ACTIVE_SET l) ≠ bank ∧ s.flag
    (BAY_COND_STATUS_SWAP_WAIT l) = false ∧ n = (s.loadParts l bank kinds a).getLast?.elim 0 (fun x => x.2.1 +
    x.2.2.2 - a) ∧ a % 64 = 0 ∧ s.inRef a n = true ∧ s.loadAll l (fun b => s.ddrRetired (a / 2 ^ 36 % 8) || decide (b
    ∈ bad)) (s.loadParts l bank kinds a) = (x, none)) ∧
  (∃ (s : State) (p : Fin 2) (bad : List Nat) (l : Nat) (bank : Nat) (kinds : Nat) (a : Nat) (n : Nat) (x : State) (k
    : Nat), s.serves p 0x30 = true ∧ l = s.payN p 0 1 ∧ bank = s.payN p 1 1 ∧ kinds = s.payN p 2 1 ∧ a = s.payN p 8 8
    ∧ l < 96 ∧ bank ≤ 1 ∧ kinds ≤ 7 ∧ s.payN p 3 1 = 0 ∧ s.get (BAY_COND_STATUS_ACTIVE_SET l) ≠ bank ∧ s.flag
    (BAY_COND_STATUS_SWAP_WAIT l) = false ∧ n = (s.loadParts l bank kinds a).getLast?.elim 0 (fun x => x.2.1 +
    x.2.2.2 - a) ∧ a % 64 = 0 ∧ s.inRef a n = true ∧ s.loadAll l (fun b => s.ddrRetired (a / 2 ^ 36 % 8) || decide (b
    ∈ bad)) (s.loadParts l bank kinds a) = (x, some k)) ∧
  (∃ (s : State) (p : Fin 2) (l : Nat) (bank : Nat) (kinds : Nat) (a : Nat) (n : Nat), s.serves p 0x30 = true ∧ l =
    s.payN p 0 1 ∧ bank = s.payN p 1 1 ∧ kinds = s.payN p 2 1 ∧ a = s.payN p 8 8 ∧ l < 96 ∧ bank ≤ 1 ∧ kinds ≤ 7 ∧
    s.payN p 3 1 = 0 ∧ s.get (BAY_COND_STATUS_ACTIVE_SET l) ≠ bank ∧ s.flag (BAY_COND_STATUS_SWAP_WAIT l) = false ∧ n
    = (s.loadParts l bank kinds a).getLast?.elim 0 (fun x => x.2.1 + x.2.2.2 - a) ∧ (a % 64 ≠ 0 ∨ s.inRef a n =
    false)) ∧
  (∃ (s : State) (p : Fin 2) (l : Nat) (bank : Nat) (kinds : Nat) (a : Nat), s.serves p 0x30 = true ∧ l = s.payN p 0
    1 ∧ bank = s.payN p 1 1 ∧ kinds = s.payN p 2 1 ∧ a = s.payN p 8 8 ∧ l < 96 ∧ bank ≤ 1 ∧ kinds ≤ 7 ∧ s.payN p 3 1
    = 0 ∧ s.get (BAY_COND_STATUS_ACTIVE_SET l) ≠ bank ∧ s.flag (BAY_COND_STATUS_SWAP_WAIT l) = true) ∧
  (∃ (s : State) (p : Fin 2) (l : Nat) (bank : Nat) (kinds : Nat) (a : Nat), s.serves p 0x30 = true ∧ l = s.payN p 0
    1 ∧ bank = s.payN p 1 1 ∧ kinds = s.payN p 2 1 ∧ a = s.payN p 8 8 ∧ (96 ≤ l ∨ 1 < bank ∨ 7 < kinds ∨ s.payN p 3 1
    ≠ 0 ∨ s.get (BAY_COND_STATUS_ACTIVE_SET l) = bank)) ∧
  (∃ (s : State) (p : Fin 2), s.serves p 0x30 = false) ∧
  (∃ (s : State) (p : Fin 2) (e : Fin 192), s.serves p 0x31 = true ∧ s.engRetired e = false) ∧
  (∃ (s : State) (p : Fin 2) (e : Fin 192), s.serves p 0x31 = true ∧ s.engRetired e = true) ∧
  (∃ (s : State) (p : Fin 2), s.serves p 0x31 = false) ∧
  (∃ (s : State) (p : Fin 2) (k : Nat) (i : Nat), s.serves p 0x32 = true ∧ k = s.payN p 0 1 ∧ i = s.payN p 1 1 ∧ i <
    unitCount k ∧ s.payN p 2 2 = 0 ∧ s.get GLOBAL_BOOT_STATUS_STAGE = 9 ∧ s.unitGone k i = false) ∧
  (∃ (s : State) (p : Fin 2) (k : Nat) (i : Nat), s.serves p 0x32 = true ∧ k = s.payN p 0 1 ∧ i = s.payN p 1 1 ∧ i <
    unitCount k ∧ s.payN p 2 2 = 0 ∧ s.get GLOBAL_BOOT_STATUS_STAGE = 9 ∧ s.unitGone k i = true) ∧
  (∃ (s : State) (p : Fin 2) (k : Nat) (i : Nat), s.serves p 0x32 = true ∧ k = s.payN p 0 1 ∧ i = s.payN p 1 1 ∧ i <
    unitCount k ∧ s.payN p 2 2 = 0 ∧ s.get GLOBAL_BOOT_STATUS_STAGE ≠ 9) ∧
  (∃ (s : State) (p : Fin 2) (k : Nat) (i : Nat), s.serves p 0x32 = true ∧ k = s.payN p 0 1 ∧ i = s.payN p 1 1 ∧
    (unitCount k ≤ i ∨ s.payN p 2 2 ≠ 0)) ∧
  (∃ (s : State) (p : Fin 2), s.serves p 0x32 = false) ∧
  (∃ (s : State) (p : Fin 2), s.serves p 0x60 = true) ∧
  (∃ (s : State) (p : Fin 2), s.serves p 0x60 = true) ∧
  (∃ (s : State) (p : Fin 2), s.serves p 0x60 = false) ∧
  (∃ (s : State) (p : Fin 2), s.serves p 0x50 = true ∧ s.payN p 0 1 ≠ 1 ∧ s.mc.keyReady = true ∧ s.payN p 0 4 = 0) ∧
  (∃ (s : State) (p : Fin 2), s.serves p 0x50 = true ∧ s.payN p 0 1 ≠ 1 ∧ s.mc.keyReady = true ∧ s.payN p 0 4 ≠ 0) ∧
  (∃ (s : State) (p : Fin 2), s.serves p 0x50 = true ∧ s.payN p 0 1 ≠ 1 ∧ s.mc.keyReady = false) :=
  ⟨
    ⟨(reqState referenceState 0x30 [3, 1]), 3, [], 3, 1, 0, 0, 0, (reqState referenceState 0x30 [3, 1]),
      by decide +kernel⟩,
    ⟨(((((reqState referenceState 0x30 [3, 1, 1]).put (TENON_CFG_LINE_PIXELS 3) 8).latch [TENON_CFG 3]).put
      GLOBAL_RETIRED_MISC_DDR 1)), 3, [], 3, 1, 1, 0, ((((((reqState referenceState 0x30 [3, 1, 1]).put
      (TENON_CFG_LINE_PIXELS 3) 8).latch [TENON_CFG 3]).put GLOBAL_RETIRED_MISC_DDR 1).loadParts 3 1 1
      0).getLast?.elim 0 (fun x => x.2.1 + x.2.2.2 - 0)), ((((((reqState referenceState 0x30 [3, 1, 1]).put
      (TENON_CFG_LINE_PIXELS 3) 8).latch [TENON_CFG 3]).put GLOBAL_RETIRED_MISC_DDR 1).loadAll 3 (fun b =>
      ((((reqState referenceState 0x30 [3, 1, 1]).put (TENON_CFG_LINE_PIXELS 3) 8).latch [TENON_CFG 3]).put
      GLOBAL_RETIRED_MISC_DDR 1).ddrRetired (0 / 2 ^ 36 % 8) || decide (b ∈ [])) (((((reqState referenceState 0x30
      [3, 1, 1]).put (TENON_CFG_LINE_PIXELS 3) 8).latch [TENON_CFG 3]).put GLOBAL_RETIRED_MISC_DDR 1).loadParts 3 1 1
      0)).1), 0, by decide +kernel⟩,
    ⟨(reqState fwState 0x30 [3, 1, 0, 0, 0, 0, 0, 0, 1]), 3, 3, 1, 0, 1, 0, by decide +kernel⟩,
    ⟨((reqState referenceState 0x30 [3, 1]).putB (BAY_COND_STATUS_SWAP_WAIT 3) true), 3, 3, 1, 0, 0,
      by decide +kernel⟩,
    ⟨(reqState fwState 0x30 []), 3, 0, 0, 0, 0, by decide +kernel⟩,
    ⟨(State.reset), 3, by decide +kernel⟩,
    ⟨(reqState fwState 0x31 []), 3, 3, by decide +kernel⟩,
    ⟨((reqState fwState 0x31 []).wrN (GLOBAL_RETIRED_ENG 0) 8), 3, 3, by decide +kernel⟩,
    ⟨(State.reset), 3, by decide +kernel⟩,
    ⟨(((reqState fwState 0x32 [4, 3, 0, 0]).put GLOBAL_BOOT_STATUS_STAGE 9)), 3, 4, 3, by decide +kernel⟩,
    ⟨(((reqState fwState 0x32 [4, 3, 0, 0]).put GLOBAL_BOOT_STATUS_STAGE 9).put GLOBAL_RETIRED_MISC_POS 8), 3, 4, 3,
      by decide +kernel⟩,
    ⟨(reqState fwState 0x32 [4, 3, 0, 0]), 3, 4, 3, by decide +kernel⟩,
    ⟨(reqState fwState 0x32 [9, 3, 0, 0]), 3, 9, 3, by decide +kernel⟩,
    ⟨(State.reset), 3, by decide +kernel⟩,
    ⟨(reqState fwState 0x60 []), 3, by decide +kernel⟩,
    ⟨(reqState fwState 0x60 []), 3, by decide +kernel⟩,
    ⟨(State.reset), 3, by decide +kernel⟩,
    ⟨((reqState fwState 0x50 []).modMc (fun m => { m with keyReady := true })), 3, by decide +kernel⟩,
    ⟨((reqState fwState 0x50 [2]).modMc (fun m => { m with keyReady := true })), 3, by decide +kernel⟩,
    ⟨(reqState fwState 0x50 []), 3, by decide +kernel⟩⟩

theorem witness_MailboxServiceComplete_2 :
  (∃ (s : State) (p : Fin 2), (s.serves p 0x50 = false ∨ s.payN p 0 1 = 1)) ∧
  (∃ (s : State) (p : Fin 2), s.serves p 0x50 = true ∧ s.payN p 0 1 = 1 ∧ s.mc.keyReady = true ∧ s.payN p 1 3 = 0) ∧
  (∃ (s : State) (p : Fin 2), s.serves p 0x50 = true ∧ s.payN p 0 1 = 1 ∧ s.mc.keyReady = true ∧ s.payN p 1 3 ≠ 0) ∧
  (∃ (s : State) (p : Fin 2), s.serves p 0x50 = true ∧ s.payN p 0 1 = 1 ∧ s.mc.keyReady = false) ∧
  (∃ (s : State) (p : Fin 2), (s.serves p 0x50 = false ∨ s.payN p 0 1 ≠ 1)) ∧
  (∃ (s : State) (p : Fin 2) (n : Nat), s.serves p 0x70 = true ∧ s.payN p 0 1 = 0 ∧ s.payN p 1 3 = 0 ∧ n = s.payN p 8
    2 ∧ n ≠ 0 ∧ n ≤ 254) ∧
  (∃ (s : State) (p : Fin 2) (n : Nat), s.serves p 0x70 = true ∧ s.payN p 0 1 = 1 ∧ s.payN p 1 3 = 0 ∧ n = s.payN p 8
    2 ∧ n ≠ 0 ∧ n ≤ 254) ∧
  (∃ (s : State) (p : Fin 2), s.serves p 0x70 = true ∧ (1 < s.payN p 0 1 ∨ s.payN p 1 3 ≠ 0 ∨ s.payN p 8 2 = 0 ∨ 254
    < s.payN p 8 2)) ∧
  (∃ (s : State) (p : Fin 2), s.serves p 0x70 = false) :=
  ⟨
    ⟨(State.reset), 3, by decide +kernel⟩,
    ⟨((reqState fwState 0x50 [1, 0, 0, 0]).modMc (fun m => { m with keyReady := true })), 3, by decide +kernel⟩,
    ⟨((reqState fwState 0x50 [1, 1, 0, 0]).modMc (fun m => { m with keyReady := true })), 3, by decide +kernel⟩,
    ⟨(reqState fwState 0x50 [1, 0, 0, 0]), 3, by decide +kernel⟩,
    ⟨(State.reset), 3, by decide +kernel⟩,
    ⟨(reqState fwState 0x70 [0, 0, 0, 0, 0, 0, 0, 0, 1, 0, 0, 0]), 3, 1, by decide +kernel⟩,
    ⟨(reqState fwState 0x70 [1, 0, 0, 0, 0, 0, 0, 0, 1, 0, 0, 0]), 3, 1, by decide +kernel⟩,
    ⟨(reqState fwState 0x70 []), 3, by decide +kernel⟩,
    ⟨(State.reset), 3, by decide +kernel⟩⟩

theorem witness_MailboxUpdatesComplete :
  (∃ (s : State) (p : Fin 2) (tg : Nat) (prev : Nat) (slot : Nat), s.servesImage p 0x40 = true ∧ s.recovering = false
    ∧ s.get MC_UPDATE_STATUS_STATE ≠ 1 ∧ s.inTrial = false ∧ ((s.get MC_UPDATE_STATUS_STATE ≠ 2 ∧ s.get
    MC_UPDATE_STATUS_STATE ≠ 3) ∨ s.get MC_UPDATE_STATUS_PORT = p.val) ∧ tg = s.payN p 0 1 ∧ tg ≤ 1 ∧ prev = (if tg =
    0 then s.get GLOBAL_BOOT_STATUS_FW_SLOT else s.get GLOBAL_BOOT_STATUS_CL_SLOT) ∧ slot = 1 - prev ∧ s.payN p 1 3 =
    0 ∧ s.payN p 4 4 ≤ (s.imageAt tg slot).2) ∧
  (∃ (s : State) (p : Fin 2) (tg : Nat) (prev : Nat) (slot : Nat), s.servesImage p 0x40 = true ∧ s.recovering = false
    ∧ s.get MC_UPDATE_STATUS_STATE ≠ 1 ∧ s.inTrial = false ∧ ((s.get MC_UPDATE_STATUS_STATE ≠ 2 ∧ s.get
    MC_UPDATE_STATUS_STATE ≠ 3) ∨ s.get MC_UPDATE_STATUS_PORT = p.val) ∧ tg = s.payN p 0 1 ∧ tg = 2 ∧ prev = 0 ∧ slot
    = 0 ∧ s.payN p 1 3 = 0 ∧ s.payN p 4 4 ≤ (s.imageAt tg slot).2) ∧
  (∃ (s : State) (p : Fin 2) (tg : Nat), s.servesImage p 0x40 = true ∧ s.recovering = false ∧ s.get
    MC_UPDATE_STATUS_STATE ≠ 1 ∧ s.inTrial = false ∧ ((s.get MC_UPDATE_STATUS_STATE ≠ 2 ∧ s.get
    MC_UPDATE_STATUS_STATE ≠ 3) ∨ s.get MC_UPDATE_STATUS_PORT = p.val) ∧ tg = s.payN p 0 1 ∧ (2 < tg ∨ s.payN p 1 3 ≠
    0)) ∧
  (∃ (s : State) (p : Fin 2) (tg : Nat) (prev : Nat) (slot : Nat), s.servesImage p 0x40 = true ∧ s.recovering = false
    ∧ s.get MC_UPDATE_STATUS_STATE ≠ 1 ∧ s.inTrial = false ∧ ((s.get MC_UPDATE_STATUS_STATE ≠ 2 ∧ s.get
    MC_UPDATE_STATUS_STATE ≠ 3) ∨ s.get MC_UPDATE_STATUS_PORT = p.val) ∧ tg = s.payN p 0 1 ∧ tg ≤ 1 ∧ prev = (if tg =
    0 then s.get GLOBAL_BOOT_STATUS_FW_SLOT else s.get GLOBAL_BOOT_STATUS_CL_SLOT) ∧ slot = 1 - prev ∧ (s.imageAt tg
    slot).2 < s.payN p 4 4) ∧
  (∃ (s : State) (p : Fin 2), s.servesImage p 0x40 = true ∧ s.recovering = false ∧ (s.get MC_UPDATE_STATUS_STATE = 1
    ∨ s.inTrial = true ∨ ((s.get MC_UPDATE_STATUS_STATE = 2 ∨ s.get MC_UPDATE_STATUS_STATE = 3) ∧ s.get
    MC_UPDATE_STATUS_PORT ≠ p.val))) ∧
  (∃ (s : State) (p : Fin 2), s.servesImage p 0x40 = true ∧ s.recovering = true ∧ s.get MC_UPDATE_STATUS_STATE ≠ 1 ∧
    s.payN p 0 1 = 0 ∧ s.payN p 1 3 = 0 ∧ s.payN p 4 4 ≤ 462912) ∧
  (∃ (s : State) (p : Fin 2), s.servesImage p 0x40 = true ∧ s.recovering = true ∧ s.get MC_UPDATE_STATUS_STATE ≠ 1 ∧
    (s.payN p 0 1 ≠ 0 ∨ s.payN p 1 3 ≠ 0 ∨ 462912 < s.payN p 4 4)) ∧
  (∃ (s : State) (p : Fin 2), s.servesImage p 0x40 = true ∧ s.recovering = true ∧ s.get MC_UPDATE_STATUS_STATE = 1) ∧
  (∃ (s : State) (p : Fin 2), s.servesImage p 0x40 = false) ∧
  (∃ (s : State) (p : Fin 2) (n : Nat), s.servesImage p 0x41 = true ∧ s.recovering = false ∧ s.get
    MC_UPDATE_STATUS_STATE = 1 ∧ s.get MC_UPDATE_STATUS_PORT = p ∧ n = s.reqLen p - 4 ∧ s.payN p 0 4 = s.rdN
    MC_UPDATE_BYTES ∧ 1 ≤ n ∧ n ≤ 4076 ∧ s.payN p 0 4 + n ≤ s.mc.updTotal) ∧
  (∃ (s : State) (p : Fin 2) (n : Nat), s.servesImage p 0x41 = true ∧ s.recovering = true ∧ s.get
    MC_UPDATE_STATUS_STATE = 1 ∧ s.get MC_UPDATE_STATUS_PORT = p ∧ n = s.reqLen p - 4 ∧ s.payN p 0 4 = s.rdN
    MC_UPDATE_BYTES ∧ 1 ≤ n ∧ n ≤ 4076 ∧ s.payN p 0 4 + n ≤ s.mc.updTotal) ∧
  (∃ (s : State) (p : Fin 2) (n : Nat), s.servesImage p 0x41 = true ∧ s.get MC_UPDATE_STATUS_STATE = 1 ∧ s.get
    MC_UPDATE_STATUS_PORT = p ∧ n = s.reqLen p - 4 ∧ (s.payN p 0 4 ≠ s.rdN MC_UPDATE_BYTES ∨ n < 1 ∨ 4076 < n ∨
    s.mc.updTotal < s.payN p 0 4 + n)) ∧
  (∃ (s : State) (p : Fin 2), s.servesImage p 0x41 = true ∧ s.get MC_UPDATE_STATUS_STATE = 1 ∧ s.get
    MC_UPDATE_STATUS_PORT ≠ p) ∧
  (∃ (s : State) (p : Fin 2), s.servesImage p 0x41 = true ∧ s.get MC_UPDATE_STATUS_STATE ≠ 1) ∧
  (∃ (s : State) (p : Fin 2), s.servesImage p 0x41 = false) ∧
  (∃ (s : State) (p : Fin 2) (tg : Nat) (slot : Nat), s.servesImage p 0x42 = true ∧ s.recovering = false ∧ s.get
    MC_UPDATE_STATUS_STATE = 1 ∧ s.get MC_UPDATE_STATUS_PORT = p ∧ s.rdN MC_UPDATE_BYTES = s.mc.updTotal ∧ tg = s.get
    MC_UPDATE_STATUS_TARGET ∧ slot = s.get MC_UPDATE_STATUS_SLOT) ∧
  (∃ (s : State) (p : Fin 2), s.servesImage p 0x42 = true ∧ s.recovering = true ∧ s.get MC_UPDATE_STATUS_STATE = 1 ∧
    s.get MC_UPDATE_STATUS_PORT = p ∧ s.rdN MC_UPDATE_BYTES = s.mc.updTotal) ∧
  (∃ (s : State) (p : Fin 2), s.servesImage p 0x42 = true ∧ s.get MC_UPDATE_STATUS_STATE = 1 ∧ s.get
    MC_UPDATE_STATUS_PORT = p ∧ s.rdN MC_UPDATE_BYTES ≠ s.mc.updTotal) ∧
  (∃ (s : State) (p : Fin 2), s.servesImage p 0x42 = true ∧ s.get MC_UPDATE_STATUS_STATE = 1 ∧ s.get
    MC_UPDATE_STATUS_PORT ≠ p) ∧
  (∃ (s : State) (p : Fin 2), s.servesImage p 0x42 = true ∧ s.get MC_UPDATE_STATUS_STATE ≠ 1) :=
  ⟨
    ⟨(reqState fwState 0x40 [0, 0, 0, 0, 0, 0, 0, 0]), 3, 0, 0, 1, by decide +kernel⟩,
    ⟨(reqState fwState 0x40 [2, 0, 0, 0, 0, 0, 0, 0]), 3, 2, 0, 0, by decide +kernel⟩,
    ⟨(reqState fwState 0x40 [3, 0, 0, 0, 0, 0, 0, 0]), 3, 3, by decide +kernel⟩,
    ⟨(reqState fwState 0x40 [0, 0, 0, 0, 0, 0, 0, 255]), 3, 0, 0, 1, by decide +kernel⟩,
    ⟨((reqState fwState 0x40 []).put MC_UPDATE_STATUS_STATE 1), 3, by decide +kernel⟩,
    ⟨(recoverState 0x40), 0, by decide +kernel⟩,
    ⟨((recoverState 0x40).wrN (MBOX_REQ 0 4) 1), 0, by decide +kernel⟩,
    ⟨((recoverState 0x40).put MC_UPDATE_STATUS_STATE 1), 0, by decide +kernel⟩,
    ⟨(State.reset), 3, by decide +kernel⟩,
    ⟨((((reqState fwState 0x41 [0, 0, 0, 0, 7]).put MC_UPDATE_STATUS_STATE 1).put MC_UPDATE_STATUS_PORT 1).modMc (fun
      m => { m with updTotal := 4 })), 3, 1, by decide +kernel⟩,
    ⟨((((recoverState 0x41).wrN (MBOX_REQ 0 1) 5).put MC_UPDATE_STATUS_STATE 1).modMc (fun m =>
      { m with updTotal := 4 })), 0, 1, by decide +kernel⟩,
    ⟨((((reqState fwState 0x41 [0, 0, 0, 0, 7]).put MC_UPDATE_STATUS_STATE 1).put MC_UPDATE_STATUS_PORT 1)), 3, 1,
      by decide +kernel⟩,
    ⟨((reqState fwState 0x41 []).put MC_UPDATE_STATUS_STATE 1), 1, by decide +kernel⟩,
    ⟨(reqState fwState 0x41 []), 3, by decide +kernel⟩,
    ⟨(State.reset), 3, by decide +kernel⟩,
    ⟨(((reqState fwState 0x42 []).put MC_UPDATE_STATUS_STATE 1).put MC_UPDATE_STATUS_PORT 1), 3, 0, 0,
      by decide +kernel⟩,
    ⟨((recoverState 0x42).put MC_UPDATE_STATUS_STATE 1), 0, by decide +kernel⟩,
    ⟨((((reqState fwState 0x42 []).put MC_UPDATE_STATUS_STATE 1).put MC_UPDATE_STATUS_PORT 1).modMc (fun m =>
      { m with updTotal := 4 })), 3, by decide +kernel⟩,
    ⟨((reqState fwState 0x42 []).put MC_UPDATE_STATUS_STATE 1), 1, by decide +kernel⟩,
    ⟨(reqState fwState 0x42 []), 3, by decide +kernel⟩⟩

theorem witness_MailboxUpdatesComplete_2 :
  (∃ (s : State) (p : Fin 2), s.servesImage p 0x42 = false) ∧
  (∃ (s : State) (p : Fin 2), s.serves p 0x43 = true ∧ s.curRec ≠ none ∧ s.recByte 4 = 1 ∧ s.recDone 16 = true ∧
    s.recDone 17 = false) ∧
  (∃ (s : State) (p : Fin 2), s.serves p 0x43 = true ∧ (s.curRec = none ∨ s.recByte 4 ≠ 1 ∨ s.recDone 16 = false ∨
    s.recDone 17 = true)) ∧
  (∃ (s : State) (p : Fin 2), s.serves p 0x43 = false) ∧
  (∃ (s : State) (p : Fin 2), s.serves p 0x58 = true ∧ s.payN p 6 1 ≠ 2 ∧ s.otpForm p 1 = true ∧ s.payN p 7 1 = 4) ∧
  (∃ (s : State) (p : Fin 2) (k : Nat) (i : Nat), s.serves p 0x58 = true ∧ s.payN p 6 1 ≠ 2 ∧ s.otpForm p 1 = true ∧
    k = s.payN p 7 1 ∧ i = s.payN p 8 1 ∧ k ≠ 4 ∧ s.nextSlot k ≠ otpSlots k ∧ i = s.nextSlot k) ∧
  (∃ (s : State) (p : Fin 2) (k : Nat) (i : Nat), s.serves p 0x58 = true ∧ s.payN p 6 1 ≠ 2 ∧ s.otpForm p 1 = true ∧
    k = s.payN p 7 1 ∧ i = s.payN p 8 1 ∧ k ≠ 4 ∧ s.nextSlot k ≠ otpSlots k ∧ i ≠ s.nextSlot k) ∧
  (∃ (s : State) (p : Fin 2) (k : Nat) (i : Nat), s.serves p 0x58 = true ∧ s.payN p 6 1 ≠ 2 ∧ s.otpForm p 1 = true ∧
    k = s.payN p 7 1 ∧ i = s.payN p 8 1 ∧ k ≠ 4 ∧ s.nextSlot k = otpSlots k) ∧
  (∃ (s : State) (p : Fin 2), s.serves p 0x58 = true ∧ s.payN p 6 1 ≠ 2 ∧ s.otpForm p 1 = false) ∧
  (∃ (s : State) (p : Fin 2), (s.serves p 0x58 = false ∨ s.payN p 6 1 = 2)) ∧
  (∃ (s : State) (p : Fin 2) (k : Nat) (i : Nat), s.serves p 0x58 = true ∧ s.payN p 6 1 = 2 ∧ s.otpForm p 2 = true ∧
    k = s.payN p 7 1 ∧ i = s.payN p 8 1 ∧ k ≤ 1 ∧ i < otpSlots k ∧ s.slotIs k i ≠ .blank ∧ s.slotIs k i ≠ .revoked ∧
    (k ≠ 0 ∨ s.slotIs 0 i ≠ .candidate ∨ (s.candidates 0).length ≠ 1)) ∧
  (∃ (s : State) (p : Fin 2) (k : Nat) (i : Nat), s.serves p 0x58 = true ∧ s.payN p 6 1 = 2 ∧ s.otpForm p 2 = true ∧
    k = s.payN p 7 1 ∧ i = s.payN p 8 1 ∧ k ≤ 1 ∧ i < otpSlots k ∧ s.slotIs k i ≠ .blank ∧ s.slotIs k i ≠ .revoked ∧
    k = 0 ∧ s.slotIs 0 i = .candidate ∧ (s.candidates 0).length = 1) ∧
  (∃ (s : State) (p : Fin 2) (k : Nat) (i : Nat), s.serves p 0x58 = true ∧ s.payN p 6 1 = 2 ∧ s.otpForm p 2 = true ∧
    k = s.payN p 7 1 ∧ i = s.payN p 8 1 ∧ k ≤ 1 ∧ (otpSlots k ≤ i ∨ s.slotIs k i = .blank ∨ s.slotIs k i = .revoked)) ∧
  (∃ (s : State) (p : Fin 2), s.serves p 0x58 = true ∧ s.payN p 6 1 = 2 ∧ (s.otpForm p 2 = false ∨ 1 < s.payN p 7 1)) ∧
  (∃ (s : State) (p : Fin 2), (s.serves p 0x58 = false ∨ s.payN p 6 1 ≠ 2)) :=
  ⟨
    ⟨(State.reset), 3, by decide +kernel⟩,
    ⟨(reqState ((fwState.recNew (recBytes 1 0 1 (List.replicate 8 0xFF))).recMark 16) 0x43 []), 3, by decide +kernel⟩,
    ⟨(reqState fwState 0x43 []), 3, by decide +kernel⟩,
    ⟨(State.reset), 3, by decide +kernel⟩,
    ⟨(reqState fwState 0x58 (otpRequest 1 4)), 3, by decide +kernel⟩,
    ⟨(reqState fwState 0x58 (otpRequest 1 0)), 3, 0, 0, by decide +kernel⟩,
    ⟨((reqState (fwState.otpProg (otpAddr 0 0 + otpSize 0 - 4) [1]) 0x58 (otpRequest 1 0))), 3, 0, 0,
      by decide +kernel⟩,
    ⟨(reqState ((List.range (otpSlots 0)).foldl (fun x j => x.otpProg (otpAddr 0 j + otpSize 0 - 4) [1]) fwState)
      0x58 (otpRequest 1 0)), 3, 0, 0, by decide +kernel⟩,
    ⟨(reqState fwState 0x58 []), 3, by decide +kernel⟩,
    ⟨(State.reset), 3, by decide +kernel⟩,
    ⟨(reqState (fwState.otpProg (otpAddr 1 0) [1]) 0x58 (otpRequest 2 1)), 3, 1, 0, by decide +kernel⟩,
    ⟨(reqState (fwState.otpProg (otpAddr 0 0) (List.replicate 32 7 ++ toBytes 4 (crc32c (List.replicate 32 7)) ++
      toBytes 4 1)) 0x58 (otpRequest 2 0)), 3, 0, 0, by decide +kernel⟩,
    ⟨(reqState fwState 0x58 (otpRequest 2 1)), 3, 1, 0, by decide +kernel⟩,
    ⟨(reqState fwState 0x58 (otpRequest 2 3)), 3, by decide +kernel⟩,
    ⟨(State.reset), 3, by decide +kernel⟩⟩

theorem witness_FrontCommandRuns : ∃ (c : Instr) (s : State) (rest : List Instr), s.pending = c :: rest :=
  ⟨.tbSnap, { State.reset with pending := [.tbSnap] }, [], rfl⟩
theorem witness_IdleStepTicks_0 : ∃ s : State, s.pending = [] := ⟨State.reset, rfl⟩
theorem witness_IdleStepTicks_1 : ∃ s : State, s.power.porst = true := ⟨State.reset.modPower (fun p => { p with porst := true }), rfl⟩
theorem witness_IdleStepTicks_2 : ∃ s : State, s.clockRuns = false := ⟨State.reset, by decide +kernel⟩
theorem witness_IdleStepTicks_3 : ∃ s : State, s.power.porst = false ∧ s.clockRuns = true ∧ s.power.sysRst = true :=
  ⟨(State.reset.modPower (fun p => { p with sysRst := true })).putB TB_STATUS_COARSE true, by decide +kernel⟩
theorem witness_StepKeepsInvariant : ∃ s t : State, s.Ok ∧ step s = .next t :=
  ⟨State.reset, State.reset.tick, reset_ok, rfl⟩
theorem witness_OtpBitsStayProgrammed : ∃ s t : State, step s = .next t := ⟨State.reset, State.reset.tick, rfl⟩
theorem witness_OnlyOtpCommandsProgramOtp : ∃ (c : Instr) (s t : State), (∀ p, c ≠ .otpProgramSlot p) ∧ (∀ p, c ≠ .otpRevokeSlot p) ∧
    c ≠ .trialConfirm ∧ exec c s = .next t :=
  ⟨.slewEnd, State.reset, _, by simp, by simp, by simp, rfl⟩
theorem witness_OnlyPorstBallMovesPorst : ∃ (c : Instr) (s t : State), c ≠ .porstAssert ∧ (∀ m f, c ≠ .porstRelease m f) ∧
    exec c s = .next t :=
  ⟨.slewEnd, State.reset, _, by simp, by simp, rfl⟩
theorem witness_CommandsKeepTheQueue : ∃ (c : Instr) (s t : State), exec c s = .next t := ⟨.slewEnd, State.reset, _, rfl⟩
theorem witness_WritesThatTouchNothing_0 : ∃ (s : State) (w : BusWrite) (a : Nat), s.held = false ∧ w.master = 0 ∧ w.size = 4 ∧
    w.off % 4 = 0 ∧ s.place 0 w.off = some a ∧ findRow a = none := ⟨State.reset, ⟨0, 0x3FFFFC, 4, 1⟩, 0x3FFFFC, by decide +kernel⟩
theorem witness_WritesThatTouchNothing_1 : ∃ (s : State) (w : BusWrite), s.held = false ∧ w.master = 0 ∧ w.size ≤ 8 ∧
    ((w.size ≠ 4 ∧ w.size ≠ 8) ∨ w.off % w.size ≠ 0) := ⟨State.reset, ⟨0, 2, 4, 1⟩, by decide +kernel⟩
theorem witness_AccessTypesOfABit_0 : ∃ (r : RegRow) (keep i : Nat), r.rw.testBit i = true ∧ keep.testBit i = false ∧
    r.w1c.testBit i = false ∧ r.w1s.testBit i = false := ⟨⟨0, [], 0, 2 ^ 31, 0, 0, 0, 0, false⟩, 1, 31, by decide +kernel⟩
theorem witness_AccessTypesOfABit_1 : ∃ (r : RegRow) (keep i : Nat), r.rwl.testBit i = true ∧ keep.testBit i = false ∧
    r.w1c.testBit i = false ∧ r.w1s.testBit i = false := ⟨⟨0, [], 0, 0, 1, 0, 0, 0, false⟩, 2, 0, by decide +kernel⟩
theorem witness_AccessTypesOfABit_2 : ∃ (r : RegRow) (i : Nat), r.rw.testBit i = false ∧ r.w1c.testBit i = false ∧
    r.w1s.testBit i = false := ⟨⟨0, [], 0, 0, 1, 0, 0, 0, false⟩, 0, by decide +kernel⟩
theorem witness_AccessTypesOfABit_3 : ∃ (r : RegRow) (i : Nat), r.rw.testBit i = false ∧ r.rwl.testBit i = false ∧
    r.w1c.testBit i = true ∧ r.w1s.testBit i = false := ⟨⟨0, [], 0, 0, 0, 2 ^ 31, 0, 0, false⟩, 31, by decide +kernel⟩
theorem witness_AccessTypesOfABit_4 : ∃ (r : RegRow) (keep i : Nat), r.rw.testBit i = false ∧ r.rwl.testBit i = false ∧
    r.w1c.testBit i = false ∧ r.w1s.testBit i = true ∧ keep.testBit i = false :=
  ⟨⟨0, [], 0, 0, 0, 0, 1, 0, false⟩, 2, 0, by decide +kernel⟩
theorem witness_AccessTypesOfABit_5 : ∃ (r : RegRow) (keep i : Nat), keep.testBit i = true ∧ r.w1c.testBit i = false :=
  ⟨⟨0, [], 0, 1, 0, 0, 0, 0, false⟩, 1, 0, by decide +kernel⟩
theorem witness_CapturesAndCountersAdvance : ∃ (s : State) (o : Nat), s.rdN o = 0xFFFFFFFF :=
  ⟨State.reset.wrN GLOBAL_BAD_ACCESS 0xFFFFFFFF, GLOBAL_BAD_ACCESS, by decide +kernel⟩
theorem witness_EventBitRaised : ∃ f : Fld, f.lo + f.w ≤ 32 ∧ f.w = 1 ∧ ∀ q v, f.off ≠ MSIX_PBA q v :=
  ⟨GLOBAL_EVENTS_PLL_LOST, by decide, rfl, fun q v h => by
    have h' : GLOBAL_EVENTS_PLL_LOST.off < 0x2000000 := by decide
    rw [h] at h'; unfold MSIX_PBA at h'; omega⟩
theorem witness_LogQueueHolds64_0 : ∃ s : State, s.log.queue.length < 64 := ⟨State.reset, by decide +kernel⟩
theorem witness_LogQueueHolds64_1 : ∃ s : State, 64 ≤ s.log.queue.length :=
  ⟨State.reset.modLog (fun g => { g with queue := List.replicate 64 ⟨State.reset.entry 1 1 1 false, []⟩ }), by decide +kernel⟩
theorem witness_LogQueueHolds64_2 : ∃ s : State, s.log.queue.length ≤ 64 :=
  ⟨State.reset.modLog (fun g => { g with queue := List.replicate 64 ⟨State.reset.entry 1 1 1 false, []⟩ }), by decide +kernel⟩
theorem witness_MemoriesReadBack_2 : ∃ (s : State) (a : Nat), s.get (DDR_STATUS_STATE (a / 2 ^ 36 % 8)) ≠ 3 :=
  ⟨State.reset, 0, by decide +kernel⟩
theorem witness_MemoriesReadBack_3 : ∃ (s : State) (a : Nat), s.get (DDR_STATUS_STATE (a / 2 ^ 36 % 8)) = 3 :=
  ⟨State.reset.put (DDR_STATUS_STATE 7) 3, 7 * 2 ^ 36, by decide +kernel⟩
theorem witness_OutputConversionOfValues_0 : ∃ D : Nat, D < 16 := ⟨15, by decide⟩
theorem witness_OutputConversionOfValues_3 : ∃ D v : Nat, D ≤ 16 ∧ v < 2 ^ D := ⟨16, 65535, by decide⟩
theorem witness_OutputConversionOfValues_4 : ∃ D w : Nat, D ≤ 16 ∧ w < 65536 := ⟨16, 65535, by decide⟩
theorem witness_ScalarZeroAndPredicateZero_1 : ∃ r : Nat, r ≠ 0 := ⟨31, by decide⟩
theorem witness_ScalarZeroAndPredicateZero_2 : ∃ r q : Nat, q ≠ r := ⟨0, 31, by decide⟩
theorem witness_DealOfDeliveries_0 : ∃ (s : State) (st p : Nat), s.get (DLV_CFG_PORT st) = 2 ∧ (s.ring st 0).lost = false ∧
    (s.ring st 1).lost = false ∧ p = (if (s.strm st).dealt * s.get (DLV_CFG_SHARE_A st) / 256 <
      ((s.strm st).dealt + 1) * s.get (DLV_CFG_SHARE_A st) / 256 then 0 else 1) :=
  ⟨State.reset.put (DLV_CFG_PORT 255) 2, 255, 1, by decide +kernel⟩
theorem witness_DealOfDeliveries_1 : ∃ sh : Nat, sh ≤ 256 := ⟨256, by decide⟩

end Sys2Proof.Tests
end

section
/-!
PROOF. The invariant of the machine: every command and the idle step keep the canonical form of the tables, and a command
leaves the queue of waiting commands as it is.
-/

namespace Sys2Proof.Machine

open Reg

theorem State.reset_memOk : State.reset.memOk :=
  ⟨by decide +kernel, by decide +kernel, cwf_nil _, cwf_nil _, cwf_nil _, cwf_nil _, cwf_nil _, cwf_nil _⟩

/-- A stable property survives the start of a power-on reset once it holds of the emptied state, whose registers the
levels at the balls are then written into (R68). -/
theorem execPorstAssert_answers {P : State → Prop} (hP : Stable P) (s : State)
    (h : P { State.reset with
      pending := s.pending, freeIdx := s.freeIdx, out := s.out,
      mc := { s.mc.kept with shadow := [], badSections := [] }, power := ⟨true, false, true, false, 0⟩ }) :
    Answers P (execPorstAssert s) :=
  answers_next (hP.wr _ _ _ (hP.wr _ _ _ (State.keepPerst_stable hP _ _ h)))

/-- A stable property survives the end of a power-on reset once it survives the release itself, before the straps, the
repair map, the OTP and the capacities show in the registers (R39, R68). -/
theorem execPorstRelease_answers {P : State → Prop} (hP : Stable P) (m : Fin 4) (f : Bool) (s : State) (h : P s)
    (hr : P ((s.modPower fun _ => ⟨false, false, true, false, s.tb.ticks⟩).modMc fun x => { x with shadow := x.otp })) :
    Answers P (execPorstRelease m f s) := by
  unfold execPorstRelease
  split
  · exact answers_next h
  · exact answers_next (State.showCap_stable hP _ (State.showOtp_stable hP _ (State.loadRepair_stable hP _
      (State.sampleStraps_stable hP _ _ _ hr))))

/-- Every command keeps the canonical form. -/
theorem exec_memOk (c : Instr) (s : State) (h : s.memOk) : Answers State.memOk (exec c s) := by
  refine exec_stable memOk_stable State.otpProg_memOk (fun s h => ?_) (fun m f s h => ?_) c s h
  · obtain ⟨regs, cfg, bay, ddr, imem, dmem, -, -⟩ := State.reset_memOk
    exact execPorstAssert_answers memOk_stable s ⟨regs, cfg, bay, ddr, imem, dmem, h.flash, h.otp⟩
  · exact execPorstRelease_answers memOk_stable m f s h h

/-- A command answers a state with the same commands waiting. -/
theorem exec_pending (c : Instr) (s : State) : Answers (fun t => t.pending = s.pending) (exec c s) := by
  have hP : Stable (fun t => t.pending = s.pending) := kept_stable (fun k => k.1 = s.pending)
  exact exec_stable hP (fun _ _ _ h => h) (fun t h => execPorstAssert_answers hP t h)
    (fun m f t h => execPorstRelease_answers hP m f t h h) c s rfl

theorem Answers.of_next {P : State → Prop} {o : Host.Outcome State Fault Refusal} {t : State} (h : Answers P o)
    (ht : o = .next t) : P t := by
  obtain ⟨u, hu, hp⟩ := h
  cases hu.symm.trans ht
  exact hp

/-- Settles O45: an idle step ticks, which touches no table but by stable changes; a command leaves the queue that is
left of the waiting commands, and the tables canonical. -/
theorem stepKeepsInvariant : Obligations.StepKeepsInvariant := by
  intro s t ⟨hmem, hq⟩ hstep
  unfold step at hstep
  split at hstep
  next =>
    cases hstep
    exact ⟨State.tick_stable memOk_stable s hmem,
      State.tick_stable (kept_stable fun k => k.1.all Instr.wf = true) s hq⟩
  next c rest hpend =>
    have hwf : rest.all Instr.wf = true := by
      simp only [State.queueOk, hpend, List.all_cons, Bool.and_eq_true] at hq
      exact hq.2
    refine ⟨(exec_memOk c { s with pending := rest } hmem).of_next hstep, ?_⟩
    show t.pending.all Instr.wf = true
    rw [(exec_pending c { s with pending := rest }).of_next hstep]
    exact hwf

end Sys2Proof.Machine
end

section
/-!
PROOF. Bits, captures and counters: what a write leaves in a bit of a register, by its access type, and what publishing a
capture or counting an event leaves in the register words.
-/

namespace Sys2Proof.Machine

open Reg

/-! ### Captures and counters -/

theorem State.rdN_publish (s : State) (o : Nat) : (s.publish o).rdN o = (s.rdN o + 1) % 256 + 256 := by
  rw [State.publish, State.rdN_wrN_same]
  exact Nat.mod_eq_of_lt (by omega)

theorem State.rdN_publish_ne (s : State) {o p : Nat} (h : p ≠ o) : (s.publish o).rdN p = s.rdN p :=
  s.rdN_wrN_ne _ h

theorem State.rdN_publishC_ne (s : State) {o p : Nat} (h : p ≠ o + 4) : (s.publishC o).rdN p = (s.publish o).rdN p :=
  State.rdN_wrN_ne _ _ h

theorem State.bump_of_saturated (s : State) {o : Nat} (h : s.rdN o = 0xFFFFFFFF) : s.bump o = s.wrN o (s.rdN o) := by
  rw [State.bump, State.bumpBy, h]
  rfl

/-- Settles O53: a capture writes SEQ and VALID over the whole word, its count is the word behind it, and a counter's one
word is written with a bounded sum. -/
theorem capturesAndCountersAdvance : Obligations.CapturesAndCountersAdvance := by
  refine ⟨fun s o => ⟨?_, ?_, fun p hp => s.rdN_publish_ne hp⟩,
    fun s o => ⟨State.rdN_wrN_same _ _ _, s.rdN_publishC_ne (by omega), fun p hp hc =>
      (s.rdN_publishC_ne hc).trans (s.rdN_publish_ne hp)⟩,
    fun s o => ⟨s.bump_rdN o, s.bump_of_saturated, fun p hp => s.bump_rdN_ne hp⟩⟩
  · rw [State.rdN_publish]
    simp only [getBits]
    omega
  · rw [State.rdN_publish]
    simp only [getBits]
    omega

/-! ### Access types -/

/-- The bits of `a` outside `b`, and those inside it, make up `a`. -/
theorem ldiff_add_and (a b : Nat) : Nat.ldiff a b + (a &&& b) = a := by
  induction a using Nat.binaryRec generalizing b with
  | zero => simp [Nat.ldiff]
  | bit x a ih =>
    cases b using Nat.bitCasesOn with
    | bit y b =>
      have hab := ih b
      rw [Nat.ldiff_bit, Nat.land_bit]
      cases x <;> cases y <;> simp [Nat.bit_val] <;> omega

/-- Subtracting the common bits clears the bits of `b` in `a`. -/
theorem testBit_sub_and (a b i : Nat) : (a - (a &&& b)).testBit i = (a.testBit i && !b.testBit i) := by
  have h : a - (a &&& b) = Nat.ldiff a b := by
    have := ldiff_add_and a b
    omega
  rw [h, Nat.testBit_ldiff]

/-- Whether a write's value reaches bit `i`: an RW bit, or an RWL bit before commit, that no rule protects (R5, R7). -/
def RegRow.takes (r : RegRow) (locked : Bool) (keep i : Nat) : Bool :=
  (r.rw.testBit i || (!locked && r.rwl.testBit i)) && !keep.testBit i

/-- The bit that a write leaves: the value's where it is taken, else the old one; W1C clears it and W1S sets it (R5). -/
theorem RegRow.testBit_after (r : RegRow) (locked : Bool) (keep old v i : Nat) :
    (r.after locked keep old v).testBit i =
      ((bif r.takes locked keep i then v.testBit i else old.testBit i) && !(v.testBit i && r.w1c.testBit i) ||
        v.testBit i && (r.w1s.testBit i && !keep.testBit i)) := by
  have hopen : (if locked then 0 else r.rwl).testBit i = (!locked && r.rwl.testBit i) := by cases locked <;> simp
  simp only [RegRow.after, Nat.land_eq, Nat.lor_eq, Nat.testBit_or, testBit_sub_and, Nat.testBit_and, hopen]
  rw [← RegRow.takes]
  cases r.takes locked keep i <;> simp

/-- Settles O52: each access type is one case of the bit that a write leaves. -/
theorem accessTypesOfABit : Obligations.AccessTypesOfABit := by
  refine ⟨?rw, ?rwl, ?unopened, ?w1c, ?w1s, ?kept⟩
  case rw =>
    intro r locked keep old v i hrw hkeep hw1c hw1s
    simp [RegRow.testBit_after, RegRow.takes, hrw, hkeep, hw1c, hw1s]
  case rwl =>
    intro r keep old v i hrwl hkeep hw1c hw1s
    simp [RegRow.testBit_after, RegRow.takes, hrwl, hkeep, hw1c, hw1s]
  case unopened =>
    intro r keep old v i hrw hw1c hw1s
    simp [RegRow.testBit_after, RegRow.takes, hrw, hw1c, hw1s]
  case w1c =>
    intro r locked keep old v i hrw hrwl hw1c hw1s
    simp [RegRow.testBit_after, RegRow.takes, hrw, hrwl, hw1c, hw1s]
  case w1s =>
    intro r locked keep old v i hrw hrwl hw1c hw1s hkeep
    simp [RegRow.testBit_after, RegRow.takes, hrw, hrwl, hw1c, hw1s, hkeep]
  case kept =>
    intro r locked keep old v i hkeep hw1c
    simp [RegRow.testBit_after, RegRow.takes, hkeep, hw1c]

end Sys2Proof.Machine
end

section
/-!
PROOF. Writes of the register space: those that reach no register, and the commands that are one write of a field.
-/

namespace Sys2Proof.Machine

open Reg

/-! ### Writes that reach no register -/

theorem findRow_trig {o : Nat} (h : 0x80000 ≤ o) (h' : o < 0x88000) : findRow o = rowsTrig.find? (fun r => r.hits o) := by
  have hlt : ∀ n, n ≤ 0x80000 → ¬ o < n := fun n hn => by omega
  simp [findRow, regBlocks, List.find?, h, h', hlt]

/-- An offset of a TRIG_PUSH lies in the sequencers' block, in the low or the high word. -/
theorem pushAt_range {a : Nat} (h : (pushAt a).isSome = true) :
    0x80000 ≤ a ∧ a < 0x88000 ∧ ((a - 0x80000) % 0x100 = 0x60 ∨ (a - 0x80000) % 0x100 = 0x64) := by
  unfold pushAt unitAt at h
  by_cases hr : 0x80000 ≤ a ∧ a < 0x80000 + 128 * 0x100
  · rw [if_pos hr] at h
    by_cases hw : (a - 0x80000) % 0x100 = 0x60 ∨ (a - 0x80000) % 0x100 = 0x64
    · exact ⟨hr.1, by omega, hw⟩
    · simp [hw] at h
  · rw [if_neg hr] at h
    simp at h

/-- A word that a row of the sequencers' block holds is a register. -/
theorem findRow_ne_none_of_trig_hits {o : Nat} (h : 0x80000 ≤ o) (h' : o < 0x88000) {r : RegRow} (hr : r ∈ rowsTrig)
    (hit : r.hits o = true) : findRow o ≠ none := by
  rw [findRow_trig h h']
  exact fun hn => List.find?_eq_none.1 hn r hr hit

/-- The words of TRIG_PUSH are registers. -/
theorem findRow_ne_none_of_pushAt {a : Nat} (h : (pushAt a).isSome = true) : findRow a ≠ none := by
  obtain ⟨hlo, hhi, hw | hw⟩ := pushAt_range h
  · refine findRow_ne_none_of_trig_hits hlo hhi (r := ⟨0x80060, [(128, 0x100)], 0, 0, 0, 0, 0, 0xffffffff, false⟩) (by decide) ?_
    simp only [RegRow.hits, inDims, Bool.and_eq_true, decide_eq_true_eq, beq_iff_eq]
    omega
  · refine findRow_ne_none_of_trig_hits hlo hhi (r := ⟨0x80064, [(128, 0x100)], 0, 0, 0, 0, 0, 0xffffffff, false⟩) (by decide) ?_
    simp only [RegRow.hits, inDims, Bool.and_eq_true, decide_eq_true_eq, beq_iff_eq]
    omega

theorem State.reaches_mc {s : State} (h : s.held = false) : s.reaches 0 = true := by
  simp [State.reaches, h]

/-- A 32-bit write of the MC to an offset without a register is lost (R8). -/
theorem State.write32_reserved {s : State} {o a : Nat} (v : Nat) (hp : s.place 0 o = some a) (hr : findRow a = none) :
    s.write32 0 o v = (s, 0) := by
  have hlow : a ≠ TB_INCR := by rintro rfl; exact absurd hr (by decide)
  have hhigh : a ≠ TB_INCR + 4 := by rintro rfl; exact absurd hr (by decide)
  have hpush : ¬ (pushAt a).isSome = true := fun h => findRow_ne_none_of_pushAt h hr
  simp only [State.write32, hp, hlow, hhigh, hpush, hr, if_false]
  rfl

theorem inOrder_mc {w : BusWrite} (h : w.master = 0) : inOrder [w] = [w] := by
  simp [inOrder, h]

theorem execRegisterWrite_single {s : State} {w : BusWrite} (hm : w.master = 0) (h : s.piecesOf w = []) :
    exec (.registerWrite [w]) s = .next (s.busWrite w) := by
  show execRegisterWrite [w] s = _
  simp [execRegisterWrite, inOrder_mc hm, State.clearsOf, State.sansClears, h, State.writesInOrder, State.iff]

/-- An aligned 32-bit write of the MC to an offset without a register reaches no register word. -/
theorem State.piecesOf_reserved {s : State} {w : BusWrite} {a : Nat} (hm : w.master = 0) (hs : w.size = 4)
    (ho : w.off % 4 = 0) (hp : s.place 0 w.off = some a) (hr : findRow a = none) : s.piecesOf w = [] := by
  have hfirst : (w.off + 3) / 4 = w.off / 4 := by omega
  have hback : 4 * (w.off / 4) = w.off := by omega
  unfold State.piecesOf
  split
  · rfl
  · simp [hs, hm, hfirst, hback, hp, hr, List.range_succ]

/-- A write of the wrong size or alignment reaches no register word (R4). -/
theorem State.piecesOf_malformed (s : State) {w : BusWrite} (h8 : w.size ≤ 8)
    (hbad : (w.size ≠ 4 ∧ w.size ≠ 8) ∨ w.off % w.size ≠ 0) : s.piecesOf w = [] := by
  unfold State.piecesOf
  rw [if_pos]
  simpa [h8] using .inr hbad

theorem State.busWrite_piece {s : State} {w : BusWrite} (hm : w.master = 0) (hh : s.held = false) (h8 : w.size ≤ 8) :
    s.busWrite w = s.writePiece 0 w.off w.size w.value := by
  simp [State.busWrite, hm, State.reaches_mc hh, h8]

/-- Settles O51: neither kind of write reaches a register word, so nothing clears and the write is one access: one to a
reserved offset is lost, one of another size or alignment is refused with CAUSE 1. -/
theorem writesThatTouchNothing : Obligations.WritesThatTouchNothing := by
  refine ⟨fun s w a hh hm hs ho hp hr => ?_, fun s w hh hm h8 hbad => ?_⟩
  · rw [execRegisterWrite_single hm (State.piecesOf_reserved hm hs ho hp hr), State.busWrite_piece hm hh (by omega)]
    simp [State.writePiece, hs, ho, State.write32_reserved _ hp hr, State.iff]
  · rw [execRegisterWrite_single hm (s.piecesOf_malformed h8 hbad), State.busWrite_piece hm hh h8, State.writePiece,
      if_pos hbad]

/-! ### Commands that are one write of a field -/

section FieldWrite

variable {s : State} {i : Instr} {m o : Nat} {refused : Bool} {f : State → State}

theorem fieldWrite_unreached (hi : exec i s = s.fieldWrite m o refused f) (h : s.reaches m = false) :
    exec i s = .next (s.unreached m) := by
  simp [hi, State.fieldWrite, h]

theorem fieldWrite_refused (hi : exec i s = s.fieldWrite m o refused f) (h : s.reaches m = true) (hr : refused = true) :
    exec i s = .next (s.badAccess m o 3) := by
  simp [hi, State.fieldWrite, h, hr]

theorem fieldWrite_done (hi : exec i s = s.fieldWrite m o refused f) (h : s.reaches m = true) (hr : refused = false) :
    exec i s = .next (f s) := by
  simp [hi, State.fieldWrite, h, hr]

end FieldWrite

section HostGuard

variable {m : Fin 3} {b : Bool}

/-- The MC writes what serves an admitted stream, and every master what does not (R130). -/
theorem hostGuard_open (h : m = 0 ∨ b = false) : (m.val != 0 && b) = false := by
  rcases h with rfl | rfl <;> simp

/-- A host's write to what serves an admitted stream is refused (R130). -/
theorem hostGuard_shut (h : m ≠ 0) (hb : b = true) : (m.val != 0 && b) = true := by
  have hv : m.val ≠ 0 := fun e => h (Fin.ext e)
  simp [hv, hb]

/-- A rule beside that of the admitted streams refuses every master. -/
theorem hostGuard_or_shut {c : Bool} (h : c = true ∨ (m ≠ 0 ∧ b = true)) : (c || (m.val != 0 && b)) = true := by
  rcases h with h | ⟨hm, hb⟩
  · rw [h, Bool.true_or]
  · rw [hostGuard_shut hm hb, Bool.or_true]

/-! What a host write is, where nothing but an admitted stream guards the field -/

variable {s : State} {i : Instr} {o : Nat} {f : State → State} (hi : exec i s = s.fieldWrite m o (m.val != 0 && b) f)
include hi

theorem hostWrite_done (h : s.reaches m = true) (hs : m = 0 ∨ b = false) : exec i s = .next (f s) :=
  fieldWrite_done hi h (hostGuard_open hs)

theorem hostWrite_refused (h : s.reaches m = true) (hm : m ≠ 0) (hb : b = true) :
    exec i s = .next (s.badAccess m o 3) :=
  fieldWrite_refused hi h (hostGuard_shut hm hb)

end HostGuard

section

variable (s : State) (m : Fin 3) (l : Fin 96) (q : Fin 128) (u : Fin 16)

theorem exec_laneEnable : exec (.laneEnable l m) s = s.fieldWrite m (LANE_CTRL l)
    (s.laneRetired l || (m.val != 0 && s.laneServing l)) (fun s => (s.putB (LANE_CTRL_ENABLE l) true).laneUpdate l 7) := rfl
theorem exec_laneDisable (powerDown : Bool) : exec (.laneDisable l powerDown m) s =
    s.fieldWrite m (LANE_CTRL l) (m.val != 0 && s.laneServing l) (fun s =>
      (if powerDown then s.putB (LANE_CTRL_POWER_DOWN l) true else s.putB (LANE_CTRL_ENABLE l) false).laneUpdate l 7) := rfl
theorem exec_retrain : exec (.retrain l m) s = s.fieldWrite m (LANE_CTRL l) (m.val != 0 && s.laneServing l)
    (fun s => (s.putB (LANE_CTRL_RETRAIN l) true).retrain l) := rfl
theorem exec_inject : exec (.inject l m) s = s.fieldWrite m (LANE_TEST l) (m.val != 0 && s.laneServing l)
    (fun s => s.injectErr l) := rfl
theorem exec_peakClear : exec (.peakClear l m) s = s.fieldWrite m (BAY_COND_CMD l) (m.val != 0 && s.laneServing l)
    (fun s => s.clearPeak l) := rfl
theorem exec_tableSwap : exec (.tableSwap l m) s = s.fieldWrite m (BAY_COND_CMD l) (m.val != 0 && s.laneServing l)
    (fun s => s.askSwap l) := rfl
theorem exec_trigFire : exec (.trigFire q m) s = s.fieldWrite m (TRIG_CMD q) (m.val != 0 && s.seqServing q)
    (fun s => s.fireNow q) := rfl
theorem exec_ringClear : exec (.ringClear q m) s = s.fieldWrite m (TRIG_CMD q) (m.val != 0 && s.seqServing q)
    (fun s => s.ringClear q) := rfl
theorem exec_resync : exec (.resync q m) s = s.fieldWrite m (TRIG_CMD q) (m.val != 0 && s.seqServing q)
    (fun s => s.resync q) := rfl
theorem exec_sequencerEnable : exec (.sequencerEnable q m) s = s.fieldWrite m (TRIG_CTRL q) (m.val != 0 && s.seqServing q)
    (fun s => (s.putB (TRIG_CTRL_ENABLE q) true).trigStart q) := rfl
theorem exec_sequencerDisable : exec (.sequencerDisable q m) s =
    s.fieldWrite m (TRIG_CTRL q) (m.val != 0 && s.seqServing q)
    (fun s => (s.putB (TRIG_CTRL_ENABLE q) false).trigStop q) := rfl
theorem exec_stitchEnable : exec (.stitchEnable u m) s = s.fieldWrite m (STITCH_CTRL u) (m.val != 0 && s.scarfServing u)
    (fun s => if s.flag (STITCH_CTRL_EN u) then s else s.stitchOn u) := rfl
theorem exec_stitchDisable : exec (.stitchDisable u m) s = s.fieldWrite m (STITCH_CTRL u) (m.val != 0 && s.scarfServing u)
    (fun s => s.stitchOff u) := rfl

theorem exec_trigPush (n v : Nat) : exec (.trigPush q m n v) s =
    if !s.reaches m then .next (s.unreached m)
    else if n ≠ 4 ∧ n ≠ 8 then .next (s.badAccess m (TRIG_PUSH q) 1)
    else s.fieldWrite m (TRIG_PUSH q) (n != 8 || !s.trRing q || (m.val != 0 && s.seqServing q)) (fun s => s.ringPush q v) := rfl

end

/-! TRIG_PUSH, whose width is judged before its rules (R227) -/

section TrigPush

variable {s : State} {q : Fin 128} {m : Fin 3}

theorem exec_trigPush_unreached (n v : Nat) (h : s.reaches m = false) :
    exec (.trigPush q m n v) s = .next (s.unreached m) := by
  simp [exec_trigPush, h]

theorem exec_trigPush_width {n : Nat} (v : Nat) (h : s.reaches m = true) (h4 : n ≠ 4) (h8 : n ≠ 8) :
    exec (.trigPush q m n v) s = .next (s.badAccess m (TRIG_PUSH q) 1) := by
  simp [exec_trigPush, h, h4, h8]

/-- A TRIG_PUSH of a whole word or double word is a field write. -/
theorem exec_trigPush_fieldWrite {n : Nat} (v : Nat) (h : s.reaches m = true) (hn : n = 4 ∨ n = 8) :
    exec (.trigPush q m n v) s = s.fieldWrite m (TRIG_PUSH q) ((n != 8 || !s.trRing q) || (m.val != 0 && s.seqServing q))
      (fun s => s.ringPush q v) := by
  rw [exec_trigPush, h, if_neg (by simp), if_neg (by omega)]

end TrigPush

/-- Settles O36: REGISTER_WRITE by definition; every other command is a field write that is carried out, refused to a host
by what it would disturb, or does not reach the registers. -/
theorem registerCommandsComplete : Obligations.RegisterCommandsComplete :=
  ⟨fun _ _ => rfl,
    -- LANE_ENABLE
    fun s l m h hl hs => fieldWrite_done (exec_laneEnable s m l) h (by rw [hl, hostGuard_open hs]; rfl),
    fun s l m h hr => fieldWrite_refused (exec_laneEnable s m l) h (hostGuard_or_shut hr),
    fun s l m h => fieldWrite_unreached (exec_laneEnable s m l) h,
    -- LANE_DISABLE
    fun s l m h hs => hostWrite_done (exec_laneDisable s m l false) h hs,
    fun s l m h hm hb => hostWrite_refused (exec_laneDisable s m l false) h hm hb,
    fun s l m h => fieldWrite_unreached (exec_laneDisable s m l false) h,
    -- LANE_DISABLE with power-down
    fun s l m h hs => hostWrite_done (exec_laneDisable s m l true) h hs,
    fun s l m h hm hb => hostWrite_refused (exec_laneDisable s m l true) h hm hb,
    fun s l m h => fieldWrite_unreached (exec_laneDisable s m l true) h,
    -- RETRAIN
    fun s l m h hs => hostWrite_done (exec_retrain s m l) h hs,
    fun s l m h hm hb => hostWrite_refused (exec_retrain s m l) h hm hb,
    fun s l m h => fieldWrite_unreached (exec_retrain s m l) h,
    -- INJECT
    fun s l m h hs => hostWrite_done (exec_inject s m l) h hs,
    fun s l m h hm hb => hostWrite_refused (exec_inject s m l) h hm hb,
    fun s l m h => fieldWrite_unreached (exec_inject s m l) h,
    -- PEAK_CLEAR
    fun s l m h hs => hostWrite_done (exec_peakClear s m l) h hs,
    fun s l m h hm hb => hostWrite_refused (exec_peakClear s m l) h hm hb,
    fun s l m h => fieldWrite_unreached (exec_peakClear s m l) h,
    -- TABLE_SWAP
    fun s l m h hs => hostWrite_done (exec_tableSwap s m l) h hs,
    fun s l m h hm hb => hostWrite_refused (exec_tableSwap s m l) h hm hb,
    fun s l m h => fieldWrite_unreached (exec_tableSwap s m l) h,
    -- TRIG_FIRE
    fun s q m h hs => hostWrite_done (exec_trigFire s m q) h hs,
    fun s q m h hm hb => hostWrite_refused (exec_trigFire s m q) h hm hb,
    fun s q m h => fieldWrite_unreached (exec_trigFire s m q) h,
    -- RING_CLEAR
    fun s q m h hs => hostWrite_done (exec_ringClear s m q) h hs,
    fun s q m h hm hb => hostWrite_refused (exec_ringClear s m q) h hm hb,
    fun s q m h => fieldWrite_unreached (exec_ringClear s m q) h,
    -- RESYNC
    fun s q m h hs => hostWrite_done (exec_resync s m q) h hs,
    fun s q m h hm hb => hostWrite_refused (exec_resync s m q) h hm hb,
    fun s q m h => fieldWrite_unreached (exec_resync s m q) h,
    -- SEQUENCER_ENABLE
    fun s q m h hs => hostWrite_done (exec_sequencerEnable s m q) h hs,
    fun s q m h hm hb => hostWrite_refused (exec_sequencerEnable s m q) h hm hb,
    fun s q m h => fieldWrite_unreached (exec_sequencerEnable s m q) h,
    -- SEQUENCER_DISABLE
    fun s q m h hs => hostWrite_done (exec_sequencerDisable s m q) h hs,
    fun s q m h hm hb => hostWrite_refused (exec_sequencerDisable s m q) h hm hb,
    fun s q m h => fieldWrite_unreached (exec_sequencerDisable s m q) h,
    -- TRIG_PUSH
    fun s q m v h ht hs => fieldWrite_done (exec_trigPush_fieldWrite v h (.inr rfl)) h
      (by rw [ht, hostGuard_open hs]; rfl),
    fun s q m v h hr => fieldWrite_refused (exec_trigPush_fieldWrite v h (.inr rfl)) h
      (hostGuard_or_shut (by simpa using hr)),
    fun s q m v h => fieldWrite_refused (exec_trigPush_fieldWrite v h (.inl rfl)) h rfl,
    fun s q m v n h h4 h8 => exec_trigPush_width v h h4 h8,
    fun s q m v n h => exec_trigPush_unreached n v h,
    -- STITCH_ENABLE
    fun s u m h hoff hs => (hostWrite_done (exec_stitchEnable s m u) h hs).trans (by simp [hoff]),
    fun s u m h hm hb => hostWrite_refused (exec_stitchEnable s m u) h hm hb,
    fun s u m h => fieldWrite_unreached (exec_stitchEnable s m u) h,
    fun s u m h hon hs => (hostWrite_done (exec_stitchEnable s m u) h hs).trans (by simp [hon]),
    -- STITCH_DISABLE
    fun s u m h hs => hostWrite_done (exec_stitchDisable s m u) h hs,
    fun s u m h hm hb => hostWrite_refused (exec_stitchDisable s m u) h hm hb,
    fun s u m h => fieldWrite_unreached (exec_stitchDisable s m u) h⟩

end Sys2Proof.Machine
end

section
/-!
PROOF. Blocks that arrive on a lane by itself, and the pattern checker.
-/

namespace Sys2Proof.Machine

open Reg

/-! ### Blocks that arrive -/

section Arrival

variable {s : State} {l : Nat}

theorem State.rxCtl_good {b : Block} {type : Nat} (r : RxRaw) (ht : blockByte b 0 = type) (hc : checkOk b = true) :
    s.rxCtl l b type r = s.rxArrive l r := by
  simp [State.rxCtl, ht, hc]

theorem State.rxCtl_bad {b : Block} {type : Nat} (r : RxRaw) (ht : blockByte b 0 = type) (hc : checkOk b = false) :
    s.rxCtl l b type r = s.rxArrive l .bad := by
  simp [State.rxCtl, ht, hc]

/-- A block that finds no run of idle blocks behind it, on a lane in ACTIVE with its equaliser free, changes nothing by
arriving (R119). -/
theorem State.rxBlock_of_active (idle : Bool) (hst : s.laneState l = 6) (hfrozen : s.flag (LANE_STATUS_FROZEN l) = false)
    (hrun : (s.lphy l).idleRun = 0) : s.rxBlock l idle = s := by
  simp [State.rxBlock, State.iff, hst, hfrozen, hrun]

/-- A block that arrives on a lane by itself takes effect at once. -/
theorem State.rxArrive_of_receivesAlone (r : RxRaw) (h : s.receivesAlone l) : s.rxArrive l r = s.rxLogic l r := by
  obtain ⟨hst, hup, hopen, hfrozen, hrun, hbond⟩ := h
  simp [State.rxArrive, hup, hopen, hst, State.rxBlock_of_active _ hst hfrozen hrun, hbond]

end Arrival

/-! ### The pattern checker -/

theorem State.modPhy_congr (s : State) (l : Nat) {f g : LanePhy → LanePhy} (h : f (s.lphy l) = g (s.lphy l)) :
    s.modPhy l f = s.modPhy l g := by
  rw [State.modPhy, State.modPhy, h]

theorem State.lphy_putB (s : State) (f : Fld) (b : Bool) (l : Nat) : (s.putB f b).lphy l = s.lphy l := rfl

/-- The state in which 1 ms of the generator's bits has passed, those it inverted taken. -/
def State.generated (s : State) (l : Nat) : State := (s.generate l).modPhy l (fun p => { p with inverted := 0 })

/-- The totals of a checker, to which compared bits and errors are added from its first lock on. -/
def State.tallied (s : State) (l bits errs : Nat) : State := s.modPhy l (fun x => { x with
  chkBits := if x.chkOn then x.chkBits + bits else 0, chkErrs := if x.chkOn then x.chkErrs + errs else 0 })

/-- The totals of a checker published. -/
def State.showTally (s : State) (l : Nat) : State :=
  ((s.wr64 (LANE_PRBS_BITS l) (s.lphy l).chkBits).wrN (LANE_PRBS_ERR l) (min (s.lphy l).chkErrs 0xFFFFFFFF)).publish
    (LANE_PRBS_STATUS l)

theorem State.tallied_of_locked (s : State) (l bits errs : Nat) (hon : (s.lphy l).chkOn = true) :
    s.tallied l bits errs = s.modPhy l (fun p => { p with chkBits := p.chkBits + bits, chkErrs := p.chkErrs + errs }) :=
  s.modPhy_congr l (by simp only [hon, if_true])

section Exec
variable (s : State) (l : Fin 96)

theorem exec_eidleReceive (b : Block) : exec (.eidleReceive l b) s = .next (s.rxCtl l b 0x58 .eidle) := rfl
theorem exec_idleBlockReceive (n : Nat) : exec (.idleBlockReceive l n) s =
    if n = 0 ∨ !s.rxOpen l then .next s
    else .next ((s.rxArrive l (.idle n)).iff (s.laneState l == 6)
      (fun s => s.modPhy l (fun x => { x with idleRun := x.idleRun + n }))) := rfl
theorem exec_checkerLock : exec (.checkerLock l) s =
    if !s.canLock l then .next s
    else .next ((s.putB (LANE_STATUS_CHK_LOCK l) true).iff (!((s.putB (LANE_STATUS_CHK_LOCK l) true).lphy l).chkOn)
      (fun s => s.modPhy l (fun x => { x with chkOn := true, chkBits := 0, chkErrs := 0 }))) := rfl
theorem exec_checkerReseed : exec (.checkerReseed l) s =
    if !s.canLock l then .next s
    else .next ((s.bump (LANE_CNT_CHKRESYNC l)).putB (LANE_STATUS_CHK_LOCK l) false) := rfl

/-- Where the checker runs, PRBS_PUBLISH adds to the totals and publishes them; a lane that hears itself finds what its own
generator inverted. -/
theorem exec_prbsPublish (n e : Nat) : exec (.prbsPublish l n e) s =
    if !(s.generated l).checks l then .next (s.generated l)
    else .next (((s.generated l).tallied l n
      (if (s.generate l).hearsSelf l then ((s.generate l).lphy l).inverted else e)).showTally l) := rfl

end Exec

/-- Settles O13: a block alone on its lane takes effect at once; the checker's totals count from its first lock. -/
theorem laneIdleAndTestComplete : Obligations.LaneIdleAndTestComplete := by
  refine ⟨?eidle, ?eidleBad, ?eidleAlone, ?idle, ?idleAlone, ?publish, ?publishUnchecked, ?firstLock, ?lock, ?reseed⟩
  case eidle =>
    intro s l b ht hc
    rw [exec_eidleReceive, State.rxCtl_good _ ht hc]
  case eidleBad =>
    intro s l b ht hc
    rw [exec_eidleReceive, State.rxCtl_bad _ ht hc]
  case eidleAlone =>
    intro s l b hst hup hopen hfrozen hrun hbond ht hc
    rw [exec_eidleReceive, State.rxCtl_good _ ht hc,
      State.rxArrive_of_receivesAlone _ ⟨hst, hup, hopen, hfrozen, hrun, hbond⟩]
    rfl
  case idle =>
    intro s l n x hn hopen hst hx
    simp [exec_idleBlockReceive, hn, hopen, hst, State.iff, hx]
  case idleAlone =>
    intro s l n h hn
    have hlogic : s.rxArrive l (.idle n) = s.goodCtl l := State.rxArrive_of_receivesAlone _ h
    obtain ⟨hst, -, hopen, -⟩ := h
    simp [exec_idleBlockReceive, hn, hopen, hst, State.iff, hlogic]
  case publish =>
    intro s l n e x y hx hc hself hon hy
    subst hx hy
    rw [← State.tallied_of_locked _ _ _ _ hon]
    change (s.generated l).checks l = true at hc
    rw [exec_prbsPublish, hc, hself, if_neg (by simp)]
    rfl
  case publishUnchecked =>
    intro s l n e x hx hc
    subst hx
    change (s.generated l).checks l = false at hc
    rw [exec_prbsPublish, hc]
    rfl
  case firstLock =>
    intro s l hl hon
    rw [exec_checkerLock, hl, State.lphy_putB, hon]
    rfl
  case lock =>
    intro s l hl hon
    rw [exec_checkerLock, hl, State.lphy_putB, hon]
    rfl
  case reseed =>
    intro s l hl
    simp [exec_checkerReseed, hl]

end Sys2Proof.Machine
end

section
/-!
PROOF. The commands of a PCIe link and its function: the link, Bus Master Enable, the power states and function level
reset.
-/

namespace Sys2Proof.Machine

open Reg

/-! ### Steps under a condition -/

theorem State.iff_true (s : State) {c : Bool} (f : State → State) (h : c = true) : s.iff c f = f s := by
  rw [State.iff, h, if_pos rfl]

theorem State.iff_false (s : State) {c : Bool} (f : State → State) (h : c = false) : s.iff c f = s := by
  rw [h]; rfl

/-- A step whose condition fails, or that finds nothing to change, changes nothing. -/
theorem State.iff_none {s : State} {c : Bool} {f : State → State} {q : Prop} (h : c = false ∨ q) (hf : q → f s = s) :
    s.iff c f = s := by
  rcases h with h | h
  · exact s.iff_false f h
  · cases c
    · rfl
    · exact hf h

/-! ### The commands of a port, as their meanings -/

section Exec
variable (s : State) (p : Fin 2)

theorem exec_linkUp (g : Fin 7) (w : Fin 17) : exec (.linkUp p g w) s =
    if !s.trains p || decide (g.val = 0) || decide (s.maxGen p < g.val) || decide (s.maxWidth p < w.val) ||
        !decide (w.val ∈ [4, 8, 16]) then .next s
    else .next ((((s.free.2.wrN (PCIE_LINK p) (2 ^ 31 + 2 ^ 30 * b2n (g == 6) + s.free.1 % 256 * 65536 + w * 256 + g * 16)).raisePcie p
      (PCIE_EVENTS_LINK_CHANGE p)).logC 0x5201 p (g * 65536 + w)).reboundPort p) := rfl
theorem exec_linkDown : exec (.linkDown p) s = .next (s.linkDown p) := rfl
theorem exec_partnerTooNarrow : exec (.partnerTooNarrow p) s = .next (s.iff (s.trains p) (fun s => s.logC 0x5203 p 0)) := rfl
theorem exec_pcieCfgWrite (m : Fin 3) (v : Word) : exec (.pcieCfgWrite p m v) s =
    if !s.reaches m then .next (s.unreached m)
    else .next (((s.storeAt (PCIE_CFG p) false 0 v.toNat).1.pcieCfgApply p).iff ((s.storeAt (PCIE_CFG p) false 0 v.toNat).2 != 0)
      (fun x => x.badAccess m (PCIE_CFG p) (s.storeAt (PCIE_CFG p) false 0 v.toNat).2)) := rfl
theorem exec_bmeClear : exec (.bmeClear p) s = .next (s.iff (s.cfgTakes p) (fun s => s.bmeTo p false)) := rfl
theorem exec_bmeSet : exec (.bmeSet p) s = .next (s.iff (s.cfgTakes p) (fun s => s.bmeTo p true)) := rfl
theorem exec_d3hotEntry : exec (.d3hotEntry p) s = .next (s.iff (s.cfgTakes p) (fun s => s.powerTo p true)) := rfl
theorem exec_d0Return : exec (.d0Return p) s = .next (s.iff (s.cfgTakes p) (fun s => s.powerTo p false)) := rfl
theorem exec_flr : exec (.flr p) s = .next (s.iff (s.cfgTakes p) (fun s => s.flr p)) := rfl
theorem exec_flrComplete : exec (.flrComplete p) s =
    if !s.flag (PCIE_STATUS_FLR_ACTIVE p) then .next s
    else .next (((s.putB (PCIE_STATUS_FLR_ACTIVE p) false).raisePcie p (PCIE_EVENTS_FLR p)).logC 0x5205 p 0) := rfl
theorem exec_pcieLinkError (kind : Fin 9) : exec (.pcieLinkError p kind) s = execPcieLinkError p kind s := rfl

end Exec

/-! ### The link -/

section Link
variable {s : State} {p : Fin 2} {g : Fin 7} {w : Fin 17}

theorem linkUp_refused_iff : (!s.trains p || decide (g.val = 0) || decide (s.maxGen p < g.val) || decide (s.maxWidth p < w.val) ||
      !decide (w.val ∈ [4, 8, 16])) = true ↔
    s.trains p = false ∨ g.val = 0 ∨ s.maxGen p < g.val ∨ s.maxWidth p < w.val ∨ (w.val ≠ 4 ∧ w.val ≠ 8 ∧ w.val ≠ 16) := by
  simp [or_assoc]

/-- A port that trains takes a speed and a width within its ceilings (R402). -/
theorem exec_linkUp_taken (ht : s.trains p = true) (hg : g.val ≠ 0) (hmax : g.val ≤ s.maxGen p) (hw : w.val ≤ s.maxWidth p)
    (hwidth : w.val = 4 ∨ w.val = 8 ∨ w.val = 16) : exec (.linkUp p g w) s = .next ((((s.free.2.wrN (PCIE_LINK p)
      (2 ^ 31 + 2 ^ 30 * b2n (g == 6) + s.free.1 % 256 * 65536 + w * 256 + g * 16)).raisePcie p
      (PCIE_EVENTS_LINK_CHANGE p)).logC 0x5201 p (g * 65536 + w)).reboundPort p) := by
  rw [exec_linkUp, if_neg]
  rw [linkUp_refused_iff]
  simp only [ht, Bool.true_eq_false, false_or]
  omega

theorem exec_linkUp_none (h : s.trains p = false ∨ g.val = 0 ∨ s.maxGen p < g.val ∨ s.maxWidth p < w.val ∨
    (w.val ≠ 4 ∧ w.val ≠ 8 ∧ w.val ≠ 16)) : exec (.linkUp p g w) s = .next s := by
  rw [exec_linkUp, if_pos (linkUp_refused_iff.2 h)]

theorem State.linkDown_of_up (s : State) (p : Nat) (h : s.flag (PCIE_LINK_UP p) = true) : s.linkDown p =
    ((((((s.holdTags p).portStop p).portFresh p).wrN (PCIE_LINK p) 0).bump (PCIE_CNT_LINKDOWN p)).raisePcie p
      (PCIE_EVENTS_LINK_CHANGE p)).logC 0x5202 p 0 := by
  rw [State.linkDown, h]
  rfl

theorem State.linkDown_of_down (s : State) (p : Nat) (h : s.flag (PCIE_LINK_UP p) = false) : s.linkDown p = s := by
  rw [State.linkDown, h]
  rfl

end Link

/-! ### Bus Master Enable and power states -/

section Modes
variable {s : State} {p : Nat}

theorem State.bmeTo_same {b : Bool} (h : s.flag (PCIE_STATUS_BME p) = b) : s.bmeTo p b = s := by
  rw [State.bmeTo, if_pos h]

theorem State.bmeTo_false (h : s.flag (PCIE_STATUS_BME p) = true) : s.bmeTo p false =
    ((s.cfgWr p 0x04 (putBits (s.cfgRd p 0x04) 2 1 0)).putB (PCIE_STATUS_BME p) false).portHalt p := by
  simp only [State.bmeTo, h, Bool.true_eq_false, Bool.false_eq_true, if_false, b2n]

theorem State.bmeTo_true (h : s.flag (PCIE_STATUS_BME p) = false) : s.bmeTo p true =
    (s.cfgWr p 0x04 (putBits (s.cfgRd p 0x04) 2 1 1)).putB (PCIE_STATUS_BME p) true := by
  rw [State.bmeTo, h]
  rfl

theorem State.powerTo_same {b : Bool} (h : s.flag (PCIE_STATUS_D3 p) = b) : s.powerTo p b = s := by
  rw [State.powerTo, if_pos h]

theorem State.powerTo_d3hot (h : s.flag (PCIE_STATUS_D3 p) = false) : s.powerTo p true =
    ((s.cfgWr p 0x44 (putBits (s.cfgRd p 0x44) 0 2 3)).putB (PCIE_STATUS_D3 p) true).portHalt p := by
  simp only [State.powerTo, h, Bool.false_eq_true, if_false, if_true, State.iff]

theorem State.powerTo_d0 (h : s.flag (PCIE_STATUS_D3 p) = true) : s.powerTo p false =
    (s.cfgWr p 0x44 (putBits (s.cfgRd p 0x44) 0 2 0)).putB (PCIE_STATUS_D3 p) false := by
  simp only [State.powerTo, h, Bool.true_eq_false, Bool.false_eq_true, if_false, State.iff]

end Modes

/-! ### Function level reset -/

section Flr
variable {s : State} {p : Nat}

theorem State.flr_inactive_of_cfgTakes (h : s.cfgTakes p = true) : s.flag (PCIE_STATUS_FLR_ACTIVE p) = false := by
  simp only [State.cfgTakes, Bool.and_eq_true, Bool.not_eq_true'] at h
  exact h.2

/-- The state of a function level reset in which the port has stopped and its mailbox request is abandoned (R420). -/
def State.flrStopped (s : State) (p : Nat) : State :=
  ((((s.modMc (fun m => { m with mboxLate := m.mboxLate.filter (fun q => q != p) })).orphan p).putB (PCIE_STATUS_BME p)
    false).portHalt p).mboxAbandon p

/-- The streams that the port's mailbox opened. -/
def State.flrGone (s : State) (p : Nat) : List Nat :=
  (List.range 256).filter (fun st => s.admitted st && (s.strm st).mbox == some p)

theorem State.flr_eq (h : s.cfgTakes p = true) : s.flr p =
    ((((s.flrStopped p).flrGone p).foldl (fun x st => x.closeStream st) (s.flrStopped p)).iff
      (!((s.flrStopped p).flrGone p).isEmpty) State.romUpdate |>.portFresh p).putB (PCIE_STATUS_FLR_ACTIVE p) true := by
  rw [State.flr, State.flr_inactive_of_cfgTakes h]
  rfl

theorem State.flr_without_streams (h : s.cfgTakes p = true) (hg : (s.flrStopped p).flrGone p = []) :
    s.flr p = ((s.flrStopped p).portFresh p).putB (PCIE_STATUS_FLR_ACTIVE p) true := by
  rw [State.flr_eq h, hg]
  rfl

theorem State.flr_with_streams (h : s.cfgTakes p = true) (hg : (s.flrStopped p).flrGone p ≠ []) :
    s.flr p = ((((s.flrStopped p).flrGone p).foldl (fun x st => x.closeStream st) (s.flrStopped p)).romUpdate.portFresh p).putB
      (PCIE_STATUS_FLR_ACTIVE p) true := by
  rw [State.flr_eq h, State.iff_true _ _ (by simpa using hg)]

end Flr

/-- Settles O29: each command of a port changes the state or, where its condition fails, leaves it. -/
theorem linkAndFunctionComplete : Obligations.LinkAndFunctionComplete := by
  refine ⟨fun _ _ => rfl, fun _ _ => rfl, ?linkUp, ?linkUpNone, ?linkDown, ?linkDownNone, ?narrow, ?narrowNone, ?cfgWrite,
    ?cfgWriteBad, ?cfgWriteUnreached, ?bmeClear, ?bmeSet, ?d3hot, ?d0, ?bmeClearNone, ?bmeSetNone, ?d3hotNone, ?d0None,
    ?flr, ?flrStreams, ?flrNone, ?flrComplete, ?flrCompleteNone, ?e0, ?e1, ?e2, ?e3, ?e4, ?e5, ?e5None, ?e6, ?e7, ?e8, ?errNone⟩
  case linkUp => exact fun s p g w ht hg hmax hw hwidth => exec_linkUp_taken ht hg hmax hw hwidth
  case linkUpNone => exact fun s p g w h => exec_linkUp_none h
  case linkDown => exact fun s p h => by rw [exec_linkDown, s.linkDown_of_up p h]
  case linkDownNone => exact fun s p h => by rw [exec_linkDown, s.linkDown_of_down p h]
  case narrow => exact fun s p h => by rw [exec_partnerTooNarrow, s.iff_true _ h]
  case narrowNone => exact fun s p h => by rw [exec_partnerTooNarrow, s.iff_false _ h]
  case cfgWrite => exact fun s p m v h hc => by rw [exec_pcieCfgWrite, h, State.iff_false _ _ (by simpa using hc)]; rfl
  case cfgWriteBad => exact fun s p m v h hc => by rw [exec_pcieCfgWrite, h, State.iff_true _ _ (by simpa using hc)]; rfl
  case cfgWriteUnreached => exact fun s p m v h => by rw [exec_pcieCfgWrite, h]; rfl
  case bmeClear => exact fun s p h hb => by rw [exec_bmeClear, s.iff_true _ h, State.bmeTo_false hb]
  case bmeSet => exact fun s p h hb => by rw [exec_bmeSet, s.iff_true _ h, State.bmeTo_true hb]
  case d3hot => exact fun s p h hd => by rw [exec_d3hotEntry, s.iff_true _ h, State.powerTo_d3hot hd]
  case d0 => exact fun s p h hd => by rw [exec_d0Return, s.iff_true _ h, State.powerTo_d0 hd]
  case bmeClearNone => exact fun s p h => by rw [exec_bmeClear, State.iff_none h State.bmeTo_same]
  case bmeSetNone => exact fun s p h => by rw [exec_bmeSet, State.iff_none h State.bmeTo_same]
  case d3hotNone => exact fun s p h => by rw [exec_d3hotEntry, State.iff_none h State.powerTo_same]
  case d0None => exact fun s p h => by rw [exec_d0Return, State.iff_none h State.powerTo_same]
  case flr =>
    intro s p y h hy hnone
    subst hy
    have hg : (s.flrStopped p).flrGone p = [] :=
      List.filter_eq_nil_iff.2 fun st hst => Bool.eq_false_iff.1 (hnone st (List.mem_range.1 hst))
    rw [exec_flr, s.iff_true _ h, State.flr_without_streams h hg]
    rfl
  case flrStreams =>
    intro s p y g h hy hg hne
    subst hy hg
    rw [exec_flr, s.iff_true _ h, State.flr_with_streams h hne]
    rfl
  case flrNone => exact fun s p h => by rw [exec_flr, s.iff_false _ h]
  case flrComplete => exact fun s p h => by rw [exec_flrComplete, h]; rfl
  case flrCompleteNone => exact fun s p h => by rw [exec_flrComplete, h]; rfl
  case e0 | e1 | e2 | e3 | e4 | e6 | e7 | e8 => exact fun s p h => by rw [exec_pcieLinkError, execPcieLinkError, h]; rfl
  case e5 =>
    intro s p h hc
    rw [exec_pcieLinkError, execPcieLinkError, h]
    exact congrArg Host.Outcome.next (s.iff_true _ hc)
  case e5None =>
    intro s p h hc
    rw [exec_pcieLinkError, execPcieLinkError, h]
    exact congrArg Host.Outcome.next (s.iff_false _ hc)
  case errNone => exact fun s p kind h => by rw [exec_pcieLinkError, execPcieLinkError, h]; rfl

end Sys2Proof.Machine
end

section
/-!
PROOF. The frame of a step, and the commands of a kerf buffer.
-/

namespace Sys2Proof.Machine

open Reg

/-- Settles O41: a step takes the command at the front off the queue and runs it. -/
theorem frontCommandRuns : Obligations.FrontCommandRuns := by
  intro c s rest hpend
  rw [step, hpend]

/-! ### Kerf buffers -/

section Exec
variable (s : State) (l : Fin 96)

theorem exec_kerfLineWrite : exec (.kerfLineWrite l) s = execKerfLineWrite l s := rfl
theorem exec_kerfMaxExpiry : exec (.kerfMaxExpiry l) s = execKerfMaxExpiry l s := rfl
theorem exec_kerfReadbackDone (corr : Bool) (bad : List Nat) :
    exec (.kerfReadbackDone l corr bad) s = execKerfReadbackDone l corr bad s := rfl

end Exec

/-- Once the oldest line that waits is whole and conditioned, KERF_LINE_WRITE depends on the channel's state and on its
slot alone (R307, R358). -/
theorem exec_kerfLineWrite_of_whole {s : State} {l : Fin 96} {v : Tile}
    (hv : s.ledger.tiles.find? (fun (w : Tile) => w.lane == l.val && decide (hKerf ∈ w.holders)) = some v)
    (hcond : (s.kerfLine l v).any (fun w => w.state == 0) = false)
    (hends : (s.kerfLine l v).any (fun w => w.endsLine) = true) : exec (.kerfLineWrite l) s =
      if s.get (DDR_STATUS_STATE (s.kerfChan l)) = 3 then .next (s.kerfPass l (s.kerfLine l v))
      else if (s.kerfFull l).kerfBusy l then .next (s.kerfFull l)
      else .next (((s.kerfFull l).kerfHold l v (s.kerfLine l v)).kerfRelease l
        (((s.kerfFull l).kerfHold l v (s.kerfLine l v)).kerfDue l v.tag.line)) := by
  rw [exec_kerfLineWrite, execKerfLineWrite, hv]
  simp only [hcond, hends]
  rfl

/-- Settles O22: a whole line that waits is written, passes or waits, by the channel's state and its slot; the oldest
line is released or read back once its time or its grant has come. -/
theorem kerfComplete : Obligations.KerfComplete := by
  refine ⟨?write, ?slotBusy, ?retired, ?noLine, ?expiry, ?early, ?readback, ?ungranted⟩
  case write =>
    intro s l v x y hv hcond hends hserves hx hfree hy
    subst hx hy
    rw [exec_kerfLineWrite_of_whole hv hcond hends, if_neg hserves, hfree]
    rfl
  case slotBusy =>
    intro s l v x hv hcond hends hserves hx hbusy
    subst hx
    rw [exec_kerfLineWrite_of_whole hv hcond hends, if_neg hserves, if_pos hbusy]
  case retired =>
    intro s l v hv hcond hends hretired
    rw [exec_kerfLineWrite_of_whole hv hcond hends, if_pos hretired]
  case noLine =>
    intro s l hnone
    rw [exec_kerfLineWrite, execKerfLineWrite, hnone]
  case expiry =>
    intro s l k r hheld hus hdue
    rw [exec_kerfMaxExpiry, execKerfMaxExpiry, hheld]
    exact if_neg (by simp [hus, hdue])
  case early =>
    intro s l k r hheld hearly
    rw [exec_kerfMaxExpiry, execKerfMaxExpiry, hheld]
    exact if_pos hearly
  case readback =>
    intro s l k r corr bad x hout hgranted hx
    subst hx
    rw [exec_kerfReadbackDone, execKerfReadbackDone, hout, hgranted]
    rfl
  case ungranted =>
    intro s l k r corr bad hout hwaits
    rw [exec_kerfReadbackDone, execKerfReadbackDone, hout, hwaits]
    rfl

end Sys2Proof.Machine
end

section
/-!
PROOF. The commands of the start: the boot ROM, the firmware and the three commits.
-/

namespace Sys2Proof.Machine

open Reg

section Exec
variable (s : State)

theorem exec_bootRomStart (sfdp : Option (Nat × Nat)) : exec (.bootRomStart sfdp) s = execBootRomStart sfdp s := rfl
theorem exec_firmwareStart (trained reread : List Nat) (bad : List (Nat × List Nat)) :
    exec (.firmwareStart trained reread bad) s = execFirmwareStart trained reread bad s := rfl
theorem exec_clCommit : exec .clCommit s = execClCommit s := rfl
theorem exec_linkRelease : exec .linkRelease s =
    if s.held || s.flag GLOBAL_BOOT_STATUS_HELD then .next s
    else .next (s.iff (s.fwRuns && s.mc.clOk && s.get GLOBAL_BOOT_STATUS_STAGE == 6) State.stage7).setRelease := rfl
theorem exec_outputCommitSet : exec .outputCommitSet s = execOutputCommitSet s := rfl
theorem exec_commitTimeoutExpiry : exec .commitTimeoutExpiry s =
    if !s.fwRuns || s.get GLOBAL_BOOT_STATUS_STAGE != 8 || s.outCommit ||
        decide (s.tb.ticks < s.mc.waitAt + bytesAt s.clNow 30 2 * 1000000) then .next s
    else .next (s.logC 0x8045 noUnit 0).firstCommit := rfl
theorem exec_outputCommitClear : exec .outputCommitClear s = if s.held then .next s else .next s.clearOutputs := rfl

end Exec

section Start
variable {s : State}

/-! ### The boot ROM -/

/-- Out of a device reset, BOOT_ROM_START releases the MC; BOOT_MODE 01 asks for an image at once (R39, R76). -/
theorem exec_bootRomStart_recovery (sfdp : Option (Nat × Nat)) (hheld : s.held = false) (hdown : s.power.mcDown = true)
    (hmode : s.romRuns.get GLOBAL_STRAPS_BOOT_MODE_EFF = 1) : exec (.bootRomStart sfdp) s = .next s.romRuns.toRecovery := by
  rw [exec_bootRomStart, execBootRomStart, hheld, hdown]
  exact if_pos hmode

/-- In another mode the flash's tables have to be readable (R72, R76). -/
theorem exec_bootRomStart_unreadable (hheld : s.held = false) (hdown : s.power.mcDown = true)
    (hmode : s.romRuns.get GLOBAL_STRAPS_BOOT_MODE_EFF ≠ 1) :
    exec (.bootRomStart none) s = .next (s.romRuns.bootFail 0x8022).toRecovery := by
  rw [exec_bootRomStart, execBootRomStart, hheld, hdown]
  exact if_neg hmode

/-- With the tables read, the boot header decides, and BOOT_MODE 10 may stop the selected image for debug (R39,
R73, R76). -/
theorem exec_bootRomStart_readable (modes mhz : Nat) (hheld : s.held = false) (hdown : s.power.mcDown = true)
    (hmode : s.romRuns.get GLOBAL_STRAPS_BOOT_MODE_EFF ≠ 1) : exec (.bootRomStart (some (modes, mhz))) s =
      if s.romRuns.hdrCopy.isNone then .next (s.romRuns.bootFail 0x8021).toRecovery
      else .next ((s.romRuns.romSelect modes mhz).iff (s.romRuns.get GLOBAL_STRAPS_BOOT_MODE_EFF == 2 &&
        (s.romRuns.romSelect modes mhz).jtagOpen && (s.romRuns.romSelect modes mhz).mc.fwSel)
        (fun s => s.modPower (fun p => { p with mcDebugHold := true }))) := by
  rw [exec_bootRomStart, execBootRomStart, hheld, hdown]
  exact if_neg hmode

/-! ### CL_COMMIT and OUTPUT_COMMIT -/

/-- At stage 4 the first CL_COMMIT admits the streams, and STRICT judges what was refused (R85). -/
theorem exec_clCommit_admits (hheld : s.held = false) (hfw : s.fwRuns = true) (hstage : s.get GLOBAL_BOOT_STATUS_STAGE = 4)
    (hcommit : s.clCommit = false) : exec .clCommit s =
      if bit (bytesAt s.setClCommit.clNow 28 2) 0 && s.setClCommit.clAdmit.2 != 0 then
        .next (if s.setClCommit.clAdmit.1.clTrial then s.setClCommit.clAdmit.1.clTrialFail else s.setClCommit.clAdmit.1.hold)
      else .next s.setClCommit.clAdmit.1 := by
  simp only [exec_clCommit, execClCommit, hheld, hfw, hstage, hcommit]
  rfl

/-- Without a Cut List at stage 7 or 8, OUTPUT_COMMIT only sets the outputs (R42). -/
theorem exec_outputCommitSet_plain (hheld : s.held = false) (hhold : s.flag GLOBAL_BOOT_STATUS_HELD = false)
    (h : (s.fwRuns && s.mc.clOk && (s.get GLOBAL_BOOT_STATUS_STAGE == 7 || s.get GLOBAL_BOOT_STATUS_STAGE == 8)) = false) :
    exec .outputCommitSet s = .next s.setOutputs := by
  simp only [exec_outputCommitSet, execOutputCommitSet, hheld, hhold, h, Bool.or_self, Bool.false_eq_true, if_false]

/-- With a Cut List at stage 7, OUTPUT_COMMIT checks the banks, and makes the first commit unless it waits for Sill time
(R85). -/
theorem exec_outputCommitSet_stage7 (hheld : s.held = false) (hhold : s.flag GLOBAL_BOOT_STATUS_HELD = false)
    (hfw : s.fwRuns = true) (hcl : s.mc.clOk = true) (hstage : s.get GLOBAL_BOOT_STATUS_STAGE = 7) :
    exec .outputCommitSet s =
      if bit (bytesAt s.clNow 28 2) 1 && !(s.stage8 (clOne s.clNow 8)).flag SILL_STATUS_TIME_LOCKED then
        .next (s.stage8 (clOne s.clNow 8))
      else .next (s.stage8 (clOne s.clNow 8)).firstCommit := by
  simp [exec_outputCommitSet, execOutputCommitSet, State.iff_true, hheld, hhold, hfw, hcl, hstage]

/-- At stage 8 it judges the wait again (R85). -/
theorem exec_outputCommitSet_stage8 (hheld : s.held = false) (hhold : s.flag GLOBAL_BOOT_STATUS_HELD = false)
    (hfw : s.fwRuns = true) (hcl : s.mc.clOk = true) (hstage : s.get GLOBAL_BOOT_STATUS_STAGE = 8) :
    exec .outputCommitSet s =
      if bit (bytesAt s.clNow 28 2) 1 && !s.flag SILL_STATUS_TIME_LOCKED then .next s else .next s.firstCommit := by
  simp [exec_outputCommitSet, execOutputCommitSet, State.iff_false, hheld, hhold, hfw, hcl, hstage]

end Start

/-- Settles O35: a command of the start has its effect in the stage that it belongs to, and nothing else in a reset. -/
theorem startComplete : Obligations.StartComplete := by
  refine ⟨?rom01, ?romSfdp, ?romNoHeader, ?romSelects, ?rom10, ?romNone, ?fwBegins, ?fwResumes, ?fwAgain, ?fwNone,
    ?fwRunning, ?clLocks, ?clAdmits, ?clStrict, ?clNone, ?release, ?release6, ?releaseNone, ?outNone, ?outSets, ?out7,
    ?out7Waits, ?out8, ?out8Waits, ?timeout, ?timeoutNone, ?clear, ?clearNone⟩
  case rom01 =>
    intro s sfdp x hheld hdown hx hmode
    subst hx
    exact exec_bootRomStart_recovery sfdp hheld hdown hmode
  case romSfdp =>
    intro s x hheld hdown hx hmode
    subst hx
    exact exec_bootRomStart_unreadable hheld hdown hmode
  case romNoHeader =>
    intro s modes mhz x hheld hdown hx hmode hhdr
    subst hx
    rw [exec_bootRomStart_readable modes mhz hheld hdown hmode, hhdr]
    rfl
  case romSelects =>
    intro s modes mhz x hheld hdown hx hmode hmode2 hhdr
    subst hx
    rw [exec_bootRomStart_readable modes mhz hheld hdown hmode, if_neg (by simpa using hhdr),
      State.iff_false _ _ (by simp [hmode2])]
  case rom10 =>
    intro s modes mhz x hheld hdown hx hmode hhdr
    subst hx
    rw [exec_bootRomStart_readable modes mhz hheld hdown (by omega), if_neg (by simpa using hhdr), hmode]
    rfl
  case romNone =>
    intro s sfdp h
    rw [exec_bootRomStart, execBootRomStart, if_pos (by simpa using h)]
  case fwBegins =>
    intro s trained reread bad hheld hdown hdebug hsel hon hcommit
    simp [exec_firmwareStart, execFirmwareStart, hheld, hdown, hdebug, hsel, hon, hcommit]
  case fwResumes =>
    intro s trained reread bad hheld hdown hdebug hsel hon hcommit
    simp [exec_firmwareStart, execFirmwareStart, hheld, hdown, hdebug, hsel, hon, hcommit]
  case fwAgain =>
    intro s trained reread bad hheld hdown hdebug hsel hon hcommit hstage hhold
    simp [exec_firmwareStart, execFirmwareStart, hheld, hdown, hdebug, hsel, hon, hcommit, hstage, hhold]
  case fwNone =>
    intro s trained reread bad h
    rw [exec_firmwareStart, execFirmwareStart, if_pos (by simpa [or_assoc] using h)]
  case fwRunning =>
    intro s trained reread bad hon h
    have hstays : (!s.clCommit && s.get GLOBAL_BOOT_STATUS_STAGE == 1 && !s.flag GLOBAL_BOOT_STATUS_HELD) = false := by
      rcases h with h | h | h <;> simp [h]
    rw [exec_firmwareStart, execFirmwareStart, hon, hstays]
    exact ite_self _
  case clLocks =>
    intro s hheld h
    have hgo : (s.fwRuns && s.get GLOBAL_BOOT_STATUS_STAGE == 4 && !s.clCommit) = false := by
      rcases h with h | h | h <;> simp [h]
    rw [exec_clCommit, execClCommit, hheld, hgo]
    rfl
  case clAdmits =>
    intro s x hheld hfw hstage hcommit hx hstrict
    subst hx
    rw [exec_clCommit_admits hheld hfw hstage hcommit, hstrict]
    rfl
  case clStrict =>
    intro s x hheld hfw hstage hcommit hx hstrict
    subst hx
    rw [exec_clCommit_admits hheld hfw hstage hcommit, hstrict]
    by_cases hnone : s.setClCommit.clAdmit.2 = 0 <;> simp [hnone]
  case clNone =>
    intro s hheld
    rw [exec_clCommit, execClCommit, if_pos hheld]
  case release =>
    intro s hheld hhold h
    rw [exec_linkRelease, hheld, hhold, State.iff_false _ _ (by rcases h with h | h | h <;> simp [h])]
    rfl
  case release6 =>
    intro s hheld hhold hfw hcl hstage
    rw [exec_linkRelease, hheld, hhold, State.iff_true _ _ (by simp [hfw, hcl, hstage])]
    rfl
  case releaseNone =>
    intro s h
    rw [exec_linkRelease, if_pos (by simpa using h)]
  case outNone =>
    intro s h
    rw [exec_outputCommitSet, execOutputCommitSet, if_pos (by simpa using h)]
  case outSets =>
    intro s hheld hhold h
    refine exec_outputCommitSet_plain hheld hhold ?_
    rcases h with h | h | ⟨h7, h8⟩
    · simp [h]
    · simp [h]
    · simp [h7, h8]
  case out7 =>
    intro s x hheld hhold hfw hcl hstage hx h
    subst hx
    rw [exec_outputCommitSet_stage7 hheld hhold hfw hcl hstage, if_neg (by rcases h with h | h <;> simp [h])]
  case out7Waits =>
    intro s x hheld hhold hfw hcl hstage hx hwait hlocked
    subst hx
    rw [exec_outputCommitSet_stage7 hheld hhold hfw hcl hstage, if_pos (by simp [hwait, hlocked])]
  case out8 =>
    intro s hheld hhold hfw hcl hstage h
    rw [exec_outputCommitSet_stage8 hheld hhold hfw hcl hstage, if_neg (by rcases h with h | h <;> simp [h])]
  case out8Waits =>
    intro s hheld hhold hfw hcl hstage hwait hlocked
    rw [exec_outputCommitSet_stage8 hheld hhold hfw hcl hstage, if_pos (by simp [hwait, hlocked])]
  case timeout =>
    intro s hfw hstage hout hdue
    rw [exec_commitTimeoutExpiry, if_neg (by simp [hfw, hstage, hout, hdue])]
  case timeoutNone =>
    intro s h
    rw [exec_commitTimeoutExpiry, if_pos (by simpa [or_assoc] using h)]
  case clear => exact fun s hheld => by rw [exec_outputCommitClear, hheld]; rfl
  case clearNone => exact fun s hheld => by rw [exec_outputCommitClear, hheld]; rfl

end Sys2Proof.Machine
end

section
/-!
PROOF. The commands of the conditioning pipe: a tile enters it, leaves it, waits for ring space or for taps.
-/

namespace Sys2Proof.Machine

open Reg

section Exec
variable (s : State) (l : Fin 96)

theorem exec_conditioningStart : exec (.conditioningStart l) s = .next (s.condStart l) := rfl
theorem exec_ringSpaceFree : exec (.ringSpaceFree l) s =
    .next (s.iff (s.flag (BAY_COND_STATUS_STALLED l)) (fun s => s.condStart l)) := rfl
theorem exec_tileConditioned (corr bad : List Nat) :
    exec (.tileConditioned l corr bad) s = execTileConditioned l corr bad s := rfl
theorem exec_rsWaitExpiry (w : RsWait) : exec (.rsWaitExpiry w) s = execRsWaitExpiry w s := rfl

end Exec

/-! ### A tile enters the pipe -/

section Start
variable {s : State} {l : Nat} {u : Tile}

/-- The ring has taken a tile of `size` bytes at offset `a`: the lane does not stall, and the next tile goes behind it. -/
def State.ringTake (s : State) (l a size : Nat) : State :=
  (s.putB (BAY_COND_STATUS_STALLED l) false).modCln l (fun x => { x with wptr := a + roundUp size 64 })

/-- The tile has started at its place in the ring. -/
def State.startTile (s : State) (l : Nat) (u : Tile) (a size : Nat) : State :=
  s.modTile u.num (fun t => { t with started := true, off := s.get (BAY_RING_BASE_BASE l) * 64 + a, stored := size })

theorem State.condStart_of_busy_or_none (h : (s.inPipe l).isSome = true ∨ s.nextTile l = none) : s.condStart l = s := by
  rw [State.condStart]
  split
  · rfl
  next hpipe => rw [h.resolve_left hpipe]

/-- With the pipe free and a tile that may start, the place in the ring decides (R273, R274). -/
theorem State.condStart_of_room {a : Nat} (hpipe : s.inPipe l = none) (hnext : s.nextTile l = some u)
    (hmay : s.mayStart l u = true) (hplace : s.ringPlace l (roundUp (u.pixels * u.cond.pxBytes) 64) = some a) {y : State}
    (hy : y = (s.ringTake l a (u.pixels * u.cond.pxBytes)).startTile l u a (u.pixels * u.cond.pxBytes)) :
    s.condStart l = if u.src ≠ 0 then y else if y.laneEth l then y.ethRefill l
      else y.queueTake l (8 + ceilDiv u.raw.length 8) := by
  subst hy
  simp only [State.condStart, hpipe, hnext, hmay, hplace, Option.isSome_none, Bool.not_true, Bool.false_eq_true,
    if_false]
  rfl

theorem State.condStart_of_no_room (hpipe : s.inPipe l = none) (hnext : s.nextTile l = some u)
    (hmay : s.mayStart l u = true) (hplace : s.ringPlace l (roundUp (u.pixels * u.cond.pxBytes) 64) = none)
    (hstall : s.flag (BAY_COND_STATUS_STALLED l) = false) : s.condStart l =
      ((s.putB (BAY_COND_STATUS_STALLED l) true).bump (BAY_CNT_STALL l)).raise 2
        ((BAY_COND_EVENTS_STALL (l / 4)).sub (l % 4)) := by
  simp only [State.condStart, hpipe, hnext, hmay, hplace, hstall, Option.isSome_none, Bool.not_true,
    Bool.false_eq_true, if_false]

end Start

/-! ### A tile leaves the pipe -/

section Done
variable {s x y : State} {l : Fin 96} {u v : Tile} {corr bad : List Nat}

/-- The count of a defect list's entries out of order, noted at a line's first tile (R279). -/
def State.noteOrder (s : State) (l : Nat) (u : Tile) : State :=
  s.iff (decide (0 < (s.defects (l / 4) (s.defBase l u.cond.set_) 2049 0 none).2.1)) (fun x =>
    ((x.bumpBy (BAY_CNT_DEF_ORDER l) (s.defects (l / 4) (s.defBase l u.cond.set_) 2049 0 none).2.1).raise 2
      ((BAY_COND_EVENTS_DEF_ORDER (l / 4)).sub (l % 4))).logOnce 0x7101 l l 0)

/-- The line of a tile keeps the last values of the stages and the defect list's cut. -/
def State.keepLine (s : State) (l : Nat) (v : Tile) (bad : List Nat) : State :=
  s.modCln l (fun z => { z with lines := z.lines.map (fun (w : CondLine) =>
    if w.isFor v.tag.line v.tag.trigId then { w with prev := (s.stages v bad).2, cut := s.defCut v bad } else w) })

/-- Once the tile in the pipe has ended and its errors are marked (`x`) and its defect list judged (`y`), its values go to
the ring, or with resampling to the history (R275, R288). -/
theorem exec_tileConditioned_of_ended (hpipe : s.inPipe l = some u) (hended : u.ended = true)
    (hx : x = (s.storeErrors l corr bad).pipeMarks u corr bad)
    (hy : y = x.iff (bit u.cond.ctrl 1 && u.xOff == 0) (fun x => x.noteOrder l u)) (hv : v = (y.tile u.num).getD u) :
    exec (.tileConditioned l corr bad) s =
      if v.cond.rsMode = 0 then .next (((y.keepLine l v bad).bayWr (l / 4) v.off
        (v.cond.spoil v.off bad (v.cond.store (y.stages v bad).1))).conditioned u.num)
      else .next (((y.keepLine l v bad).histAdd v (y.stages v bad).1 corr bad).rsAll l corr bad) := by
  subst hv hy hx
  simp only [exec_tileConditioned, execTileConditioned, hpipe, hended, Bool.not_true,
    Bool.false_eq_true, if_false]
  rfl

/-- Without DEF_EN no defect list is judged. -/
theorem State.noteOrder_skipped (hdef : bit u.cond.ctrl 1 = false) :
    x.iff (bit u.cond.ctrl 1 && u.xOff == 0) (fun x => x.noteOrder l u) = x :=
  x.iff_false _ (by simp [hdef])

end Done

/-- Settles O20: the pipe takes the next tile where the ring has room, and passes on the one that has ended. -/
theorem conditioningComplete : Obligations.ConditioningComplete := by
  refine ⟨?start, ?startEth, ?startFill, ?stall, ?startNone, ?free, ?freeNone, ?stored, ?history, ?judged, ?pipeEmpty,
    ?expiry, ?expiryNone⟩
  case start =>
    intro s l u a x y hpipe hnext hmay hplace hsrc hx hy heth
    subst hx
    rw [exec_conditioningStart, State.condStart_of_room hpipe hnext hmay hplace hy, if_neg (not_not.2 hsrc), heth]
    rfl
  case startEth =>
    intro s l u a x y hpipe hnext hmay hplace hsrc hx hy heth
    subst hx
    rw [exec_conditioningStart, State.condStart_of_room hpipe hnext hmay hplace hy, if_neg (not_not.2 hsrc), if_pos heth]
  case startFill =>
    intro s l u a x hpipe hnext hmay hplace hsrc hx
    subst hx
    rw [exec_conditioningStart, State.condStart_of_room hpipe hnext hmay hplace rfl, if_pos hsrc]
    rfl
  case stall =>
    intro s l u hpipe hnext hmay hplace hstall
    rw [exec_conditioningStart, State.condStart_of_no_room hpipe hnext hmay hplace hstall]
  case startNone =>
    intro s l h
    rw [exec_conditioningStart, State.condStart_of_busy_or_none h]
  case free => exact fun s l h => by rw [exec_ringSpaceFree, s.iff_true _ h]
  case freeNone => exact fun s l h => by rw [exec_ringSpaceFree, s.iff_false _ h]
  case stored =>
    intro s l u v corr bad x hpipe hended hx hdef hv hrs
    rw [exec_tileConditioned_of_ended hpipe hended hx (State.noteOrder_skipped hdef).symm hv, if_pos hrs]
    rfl
  case history =>
    intro s l u v corr bad x hpipe hended hx hdef hv hrs
    rw [exec_tileConditioned_of_ended hpipe hended hx (State.noteOrder_skipped hdef).symm hv, if_neg hrs]
    rfl
  case judged =>
    intro s l u v corr bad x y k hpipe hended hx hdef hfirst hk hy hv hrs
    subst hk
    have hy' : y = x.iff (bit u.cond.ctrl 1 && u.xOff == 0) (fun x => x.noteOrder l u) := by
      rw [hy, State.iff_true x (fun x => x.noteOrder l u) (by simp [hdef, hfirst]), State.noteOrder]
    rw [exec_tileConditioned_of_ended hpipe hended hx hy' hv, if_pos hrs]
    rfl
  case pipeEmpty => exact fun s l corr bad hpipe => by rw [exec_tileConditioned, execTileConditioned, hpipe]
  case expiry => exact fun s l n r corr bad hwait => by rw [exec_rsWaitExpiry, execRsWaitExpiry, hwait]
  case expiryNone => exact fun s l corr bad hwait => by rw [exec_rsWaitExpiry, execRsWaitExpiry, hwait]

end Sys2Proof.Machine
end

section
/-!
PROOF. The tasks of an engine: the deal of tiles, the start of a task, its budget, the fault windows, the bay DMA, and what
the MC does to an engine.
-/

namespace Sys2Proof.Machine

open Reg

section Exec
variable (s : State) (l : Fin 96) (e : Fin 192) (b : Fin 24) (c : Fin 8) (m : Fin 3)

theorem exec_tileDeal : exec (.tileDeal l) s = execTileDeal l s := rfl
theorem exec_taskStart : exec (.taskStart e) s = execTaskStart e s := rfl
theorem exec_taskBudgetExpiry : exec (.taskBudgetExpiry e) s = execTaskBudgetExpiry e s := rfl
theorem exec_faultWindowEnd : exec .faultWindowEnd s =
    if !s.outCommit || decide (s.tb.ticks < s.faultFrom + 1000000000) then .next s
    else .next (s.faultWindow (s.faultFrom + 1000000000)) := rfl
theorem exec_dmaDescriptorStart : exec (.dmaDescriptorStart b c) s = execDmaDescriptorStart b c s := rfl
theorem exec_dmaTransferDone (corr : Bool) (bad : List Nat) (same : Bool) :
    exec (.dmaTransferDone b c corr bad same) s = execDmaTransferDone b c corr bad same s := rfl
theorem exec_engRestart : exec (.engRestart e m) s =
    if !s.reaches m then .next (s.unreached m)
    else if m.val ≠ 0 then .next (s.badAccess m (ENG_CMD e) 3)
    else .next (s.restartEng e) := rfl
theorem exec_engAbort : exec (.engAbort e m) s =
    s.fieldWrite m (ENG_CMD e) (m.val != 0) (fun s => s.engFault e 0x0E 0 false) := rfl

end Exec

/-! ### The deal of tiles -/

section Deal
variable {s : State} {l : Fin 96} {n j : Nat} {r : List Nat} {v : Tile}

/-- The rotation of a lane moves on: tile `v` was dealt to engine `j` of the gang, and `r` are the tiles left to deal. -/
def State.dealOn (s : State) (l j : Nat) (r : List Nat) (v : Tile) : State :=
  s.modCln l (fun x => { x with deal := r, rot := j + 1, dealt := some (v.tag.line, v.tag.trigId, j) })

/-- A deal by tiles goes to the gang's next engine, which takes the tile, is skipped, or lets it wait (R326, R339). -/
theorem exec_tileDeal_of_gang (hdeal : (s.cln l).deal = n :: r) (htile : s.tile n = some v) (hgang : s.gang l ≠ [])
    (hmode : s.flag (BAY_ENG_GANG_MODE (l / 4) (l % 4)) = true)
    (hj : j = nextIn (s.gang l) (if (s.cln l).rot = 0 then 8 else (s.cln l).rot - 1)) {e i : Nat}
    (he : e = 8 * (l / 4) + j) (hi : i = s.get (BAY_ENG_GANG_INPUT (l / 4) (l % 4))) :
    exec (.tileDeal l) s =
      if !s.quarantined e && decide (16 ≤ ((s.en e).queue i).length) then .next s
      else if s.quarantined e then .next (((s.dealOn l j r v).bump (ENG_CNT_SKIPPED e)).release n hDeal)
      else .next ((((s.dealOn l j r v).modTile n
        (fun y => { y with holders := y.holders.map (fun h => if h = hDeal then hEng e else h) })).modEng e
        (fun x => x.setQueue i (x.queue i ++ [⟨v.activation i, 0, some n, 0, 0⟩]))).showEng e) := by
  subst he hi hj
  simp only [exec_tileDeal, execTileDeal, hdeal, htile, hmode, List.isEmpty_iff, hgang, if_false, if_true]
  rfl

end Deal

/-! ### The bay DMA -/

section Dma
variable {s : State} {b : Fin 24} {c : Fin 8} {d : DmaDesc} {bad : List Nat}

/-- Every row of a transfer is read and written. -/
def State.dmaMove (s : State) (b : Nat) (d : DmaDesc) (bad : List Nat) : State :=
  (List.range d.rows).foldl
    (fun x r => x.dmaWrite b (d.dst + r * d.dStride) (x.dmaRead b (d.src + r * d.sStride) d.len bad) bad) s

/-- The source is a DDR4 channel that is retired. -/
def State.dmaDead (s : State) (d : DmaDesc) : Bool :=
  getBits d.src 62 2 == 0 && s.get (DDR_STATUS_STATE (getBits d.src 36 3)) == 3

/-- A granted transfer from a source that is not retired and meets no uncorrectable word completes with STATUS 1 (R330). -/
theorem exec_dmaTransferDone_of_clean (corr same : Bool) (hd : d = s.dmaDesc b c) (hbusy : (s.dch b c).busy = true)
    (hgranted : s.dmaWaits b d = false) (hdead : s.dmaDead d = false) (hclean : getBits d.src 62 2 ≠ 0 ∨ bad = []) :
    exec (.dmaTransferDone b c corr bad same) s =
      .next ((s.dmaMove b d bad).dmaDone b c (1 + 8 * b2n (corr && getBits d.src 62 2 == 0)) same) := by
  subst hd
  have hhit : ∀ p : Nat → Nat → Bool, (getBits (s.dmaDesc b c).src 62 2 == 0 &&
      (List.range (s.dmaDesc b c).rows).any (fun r => bad.any (p r))) = false := by
    intro p
    rcases hclean with h | h <;> simp [h]
  rw [State.dmaDead] at hdead
  simp only [exec_dmaTransferDone, execDmaTransferDone, hbusy, hgranted, hdead, hhit, Bool.not_true, Bool.or_self,
    Bool.false_eq_true, if_false, State.iff, State.dmaMove]

end Dma

/-- Settles O23: a tile, a task or a transfer goes on where its engine or channel lets it, and only the MC restarts or
aborts an engine. -/
theorem engineTasksComplete : Obligations.EngineTasksComplete := by
  refine ⟨?dealt, ?skipped, ?full, ?noGang, ?start, ?startNone, ?budget, ?window, ?windowNone, ?dmaStart, ?dmaBad, ?dmaBay,
    ?dmaDdr, ?dmaNone, ?restart, ?restartRefused, ?restartUnreached, ?abort, ?abortRefused, ?abortUnreached⟩
  case dealt =>
    intro s l n j r v hdeal htile hgang hmode hj hserves hroom
    rw [exec_tileDeal_of_gang hdeal htile hgang hmode hj rfl rfl, hserves, if_neg (by simpa using hroom)]
    rfl
  case skipped =>
    intro s l n j r v hdeal htile hgang hmode hj hquar
    rw [exec_tileDeal_of_gang hdeal htile hgang hmode hj rfl rfl, hquar]
    rfl
  case full =>
    intro s l n j r v hdeal htile hgang hmode hj hserves hfull
    rw [exec_tileDeal_of_gang hdeal htile hgang hmode hj rfl rfl, if_pos (by simp [hserves, hfull])]
  case noGang =>
    intro s l n r v hdeal htile hgang
    simp only [exec_tileDeal, execTileDeal, hdeal, htile, hgang, List.isEmpty_nil, if_true]
  case start =>
    intro s e i a r hidle hen hok hi hq
    rw [exec_taskStart, execTaskStart, if_neg (by simp [hidle, hen, hok])]
    simp only [hi, hq]
  case startNone =>
    intro s e h
    rw [exec_taskStart, execTaskStart, if_pos (by simpa using h)]
  case budget =>
    intro s e b x hbusy hb hb0 hx
    subst hb hx
    rw [exec_taskBudgetExpiry, execTaskBudgetExpiry, if_neg (by simp [hbusy, hb0])]
  case window =>
    intro s hout hdue
    rw [exec_faultWindowEnd, if_neg (by simp [hout, hdue]), State.faultWindow]
  case windowNone =>
    intro s h
    rw [exec_faultWindowEnd, if_pos (by simpa using h)]
  case dmaStart =>
    intro s b c hlooks hidle hok
    rw [exec_dmaDescriptorStart, execDmaDescriptorStart, if_neg (by simp [hlooks, hidle]), if_pos hok]
  case dmaBad =>
    intro s b c hlooks hidle hbad
    rw [exec_dmaDescriptorStart, execDmaDescriptorStart, if_neg (by simp [hlooks, hidle]), if_neg (by simp [hbad])]
  case dmaBay =>
    intro s b c corr bad same d hd hbusy hgranted hsrc
    rw [exec_dmaTransferDone_of_clean corr same hd hbusy hgranted (by simp [State.dmaDead, hsrc]) (.inl hsrc),
      beq_eq_false_iff_ne.2 hsrc, Bool.and_false]
    rfl
  case dmaDdr =>
    intro s b c corr same d hd hbusy hgranted hsrc hserves
    rw [exec_dmaTransferDone_of_clean corr same hd hbusy hgranted (by simp [State.dmaDead, hserves]) (.inr rfl),
      beq_iff_eq.2 hsrc, Bool.and_true]
    rfl
  case dmaNone =>
    intro s b c corr bad same h
    rw [exec_dmaTransferDone, execDmaTransferDone, if_pos (by simpa using h)]
  case restart =>
    intro s e h
    rw [exec_engRestart, if_neg (by simp [h]), if_neg (by simp)]
  case restartRefused =>
    intro s e m h hm
    rw [exec_engRestart, if_neg (by simp [h]), if_pos hm]
  case restartUnreached =>
    intro s e m h
    rw [exec_engRestart, if_pos (by simp [h])]
  case abort => exact fun s e h => fieldWrite_done (exec_engAbort s e 0) h rfl
  case abortRefused => exact fun s e m h hm => fieldWrite_refused (exec_engAbort s e m) h (bne_iff_ne.2 hm)
  case abortUnreached => exact fun s e m h => fieldWrite_unreached (exec_engAbort s e m) h

end Sys2Proof.Machine
end

section
/-!
PROOF. What arrives from an Ethernet camera: frames, and the leader, packets and trailer of a block.
-/

namespace Sys2Proof.Machine

open Reg

section Exec
variable (s : State) (l : Fin 96)

theorem exec_ethFrameReceive (f : List Byte) (fcs : Bool) (corr uncorr : Nat) :
    exec (.ethFrameReceive l f fcs corr uncorr) s = execEthFrameReceive l f fcs corr uncorr s := rfl
theorem exec_gvspLeaderReceive (ei : Bool) (i : Nat) (h : Sys2Proof.Leader) (ts : Nat) :
    exec (.gvspLeaderReceive l ei i h ts) s = execGvspLeaderReceive l ei i h ts s := rfl
theorem exec_gvspPayloadReceive (ei : Bool) (i pid : Nat) (data : List Byte) (unavail : Bool) :
    exec (.gvspPayloadReceive l ei i pid data unavail) s = execGvspPayloadReceive l ei i pid data unavail s := rfl
theorem exec_gvspTrailerReceive (ei : Bool) (i : Nat) :
    exec (.gvspTrailerReceive l ei i) s = execGvspTrailerReceive l ei i s := rfl
theorem exec_resendWaitExpiry (i : Nat) : exec (.resendWaitExpiry l i) s = execResendWaitExpiry l i s := rfl

end Exec

/-! ### Frames -/

section Frame
variable {s x : State} {l : Fin 96} {f : List Byte} {corr : Nat}

/-- A frame without an uncorrectable block has come: its corrections are counted, and the equaliser adapts again (R119,
R171). -/
def State.frameCame (s : State) (l corr : Nat) : State :=
  (s.bumpBy (ETH_CNT_FEC_CORR l) corr).putB (LANE_STATUS_FROZEN l) false

theorem exec_ethFrameReceive_badFcs (hup : s.ethUp l = true) : exec (.ethFrameReceive l f false corr 0) s =
    .next (((s.frameCame l corr).bump (ETH_CNT_FCS l)).ethLog l 0x1302) := by
  rw [exec_ethFrameReceive, execEthFrameReceive, hup]
  rfl

theorem exec_ethFrameReceive_badLength (hup : s.ethUp l = true) (hlen : f.length < 60 ∨ 9212 < f.length) :
    exec (.ethFrameReceive l f true corr 0) s =
      .next (((s.frameCame l corr).bump (ETH_CNT_FRAMES l)).bump (ETH_CNT_FCS l)) := by
  have hbad : f.length + 4 < 64 ∨ 9216 < f.length + 4 := by omega
  simp [exec_ethFrameReceive, execEthFrameReceive, hup, hbad, State.iff, State.frameCame]

/-- A frame of 64 to 9,216 bytes with the FCS is counted, and goes where the filter and the queue let it (R170, R171). -/
theorem exec_ethFrameReceive_good (hup : s.ethUp l = true) (hmin : 60 ≤ f.length) (hmax : f.length ≤ 9212)
    (hx : x = (s.frameCame l corr).bump (ETH_CNT_FRAMES l)) : exec (.ethFrameReceive l f true corr 0) s =
      if !x.frameOkFor l f then .next (x.bump (ETH_CNT_FILTERED l))
      else if 65536 < (x.lten l).queue * 8 + f.length then
        .next (((x.bump (ETH_CNT_OVERFLOW l)).raise 1 (ETH_EVENTS_OVERFLOW l)).ethLog l 0x1320)
      else .next x := by
  rw [State.frameCame] at hx
  have hlow : ¬ f.length + 4 < 64 := by omega
  have hhigh : ¬ 9216 < f.length + 4 := by omega
  simp only [exec_ethFrameReceive, execEthFrameReceive, hup, hlow, hhigh, State.iff, ← hx, Nat.lt_irrefl,
    decide_false, Bool.not_true, Bool.or_self, Bool.false_eq_true, if_false, if_true]

end Frame

/-! ### Leaders -/

section Leader
variable {s x : State} {l : Fin 96} {i : Nat} {h : Sys2Proof.Leader} {ts : Nat}

theorem exec_gvspLeaderReceive_standard (hup : s.ethUp l = true) : exec (.gvspLeaderReceive l false i h ts) s =
    .next (s.bump (ETH_CNT_FILTERED l)) := by
  rw [exec_gvspLeaderReceive, execGvspLeaderReceive, hup]
  rfl

theorem exec_gvspLeaderReceive_stale {k : Nat} (hup : s.ethUp l = true) (hnew : s.ethBlk l i = none)
    (hdrop : (s.leth l).dropId = none) (hlast : (s.leth l).lastId = some k) (hstale : i ≤ k) :
    exec (.gvspLeaderReceive l true i h ts) s = .next (s.bump (ETH_CNT_STALE l)) := by
  simp [exec_gvspLeaderReceive, execGvspLeaderReceive, hup, hnew, hdrop, hlast, hstale]

/-- Without TS_MATCH a leader's block belongs to the oldest trigger that has none (R179). -/
theorem matchTrig_oldest (ts lat win : Int) (e : Trigger) (es : List Trigger) :
    matchTrig false ts lat win (e :: es) = ([], some e) := by
  simp [matchTrig]

/-- A good leader of the first block opens it for the trigger that waits, with the trigger's own time (R178, R179). -/
theorem exec_gvspLeaderReceive_opens {tr : Trigger} (hup : s.ethUp l = true) (hnew : s.ethBlk l i = none)
    (hdrop : (s.leth l).dropId = none) (hlast : (s.leth l).lastId = none)
    (hx : x = s.modEth l (fun y => { y with lastId := some i })) (hfree : x.ethFree l = [tr])
    (hmatch : x.flagE l (ETH_CFG_TS_MATCH l) = false) (huse : x.flagE l (ETH_CFG_TS_USE l) = false)
    (hok : x.leaderOk l h = true) : exec (.gvspLeaderReceive l true i h ts) s = .next (x.modEth l (fun y => { y with
      blocks := y.blocks ++ [⟨i, tr.id, x.tagOf tr tr.tc true, [], [], [], 0, false, [], false, false,
        List.replicate (x.ethTiles l) none⟩] })) := by
  simp only [exec_gvspLeaderReceive, execGvspLeaderReceive, hup, hnew, hdrop, hlast, ← hx, State.iff, Nat.lt_irrefl,
    decide_false, Bool.not_true, Option.isSome_none, reduceCtorEq, Bool.not_false, Bool.false_eq_true, or_self, if_false,
    List.foldl_nil, hfree, hmatch, huse, hok, matchTrig_oldest]

/-- A good leader of the first block with no trigger outstanding is dropped (R179). -/
theorem exec_gvspLeaderReceive_unmatched (hup : s.ethUp l = true) (hnew : s.ethBlk l i = none)
    (hdrop : (s.leth l).dropId = none) (hlast : (s.leth l).lastId = none)
    (hx : x = s.modEth l (fun y => { y with lastId := some i })) (hfree : x.ethFree l = [])
    (hok : x.leaderOk l h = true) : exec (.gvspLeaderReceive l true i h ts) s =
      .next ((((x.modEth l (fun y => { y with dropId := some i })).bump (ETH_CNT_UNMATCHED l)).raise 1
        (ETH_EVENTS_UNMATCHED l)).ethLog l 0x1313) := by
  simp only [exec_gvspLeaderReceive, execGvspLeaderReceive, hup, hnew, hdrop, hlast, ← hx, State.iff, Nat.lt_irrefl,
    decide_false, Bool.not_true, Option.isSome_none, reduceCtorEq, Bool.false_eq_true, or_self, if_false, List.foldl_nil,
    hfree, hok, matchTrig]

end Leader

/-! ### Packets -/

section Packet
variable {s : State} {l : Fin 96} {i pid : Nat} {data : List Byte}

theorem EthBlock.packet_of_empty {b : EthBlock} (h : b.pkts = []) (p : Nat) : b.packet p = none := by
  simp [EthBlock.packet, h]

theorem State.ethUnwait_of_running {b : EthBlock} (hblk : s.ethBlk l i = some b) (hwait : b.waiting = false) :
    s.ethUnwait l i = s := by
  simp [State.ethUnwait, hblk, hwait]

/-- The first packet of a block joins it and reaches its tiles; no gap precedes it (R180, R181). -/
theorem exec_gvspPayloadReceive_first {b b' : EthBlock} {x : State} (hup : s.ethUp l = true)
    (hblk : s.ethBlk l i = some b) (hpkts : b.pkts = []) (hasked : b.asked = []) (hmore : 1 < s.ethPkts l)
    (hlen : data.length = s.ethS l)
    (hx : x = (((s.modBlk l i (fun b => { b with pkts := b.pkts ++ [(1, data)] })).ethEntries l i).ethRaws l i).ethRefill l)
    (hblk' : x.ethBlk l i = some b') (hwhole : x.ethWhole l b' = false) :
    exec (.gvspPayloadReceive l true i 1 data false) s = .next (x.ethUnwait l i) := by
  subst hx
  have hn : ¬ s.ethPkts l < 1 := by omega
  simp only [exec_gvspPayloadReceive, execGvspPayloadReceive, hup, hblk, EthBlock.packet_of_empty hpkts, hn, hlen, hasked,
    hpkts, State.iff]
  simp [hblk', hwhole]

end Packet

/-- Settles O17: a frame is counted by its length, FCS, filter and room; a leader, a packet and a trailer act on the block
of their ID, or are counted. -/
theorem ethernetBlocksComplete : Obligations.EthernetBlocksComplete := by
  refine ⟨?badFcs, ?frame, ?filtered, ?overflow, ?badLength, ?opens, ?unmatched, ?leaderStandard, ?leaderStale, ?packet,
    ?unavailable, ?packetStandard, ?packetStale, ?trailer, ?trailerStandard, ?resend⟩
  case badFcs => exact fun s l f corr hup => exec_ethFrameReceive_badFcs hup
  case frame =>
    intro s l f corr x hup hmin hmax hx hpass hroom
    rw [exec_ethFrameReceive_good hup hmin hmax hx, hpass, if_neg (by simp), if_neg (by omega)]
  case filtered =>
    intro s l f corr x hup hmin hmax hx hfilter
    rw [exec_ethFrameReceive_good hup hmin hmax hx, if_pos (by simp [hfilter])]
  case overflow =>
    intro s l f corr x hup hmin hmax hx hpass hfull
    rw [exec_ethFrameReceive_good hup hmin hmax hx, hpass, if_neg (by simp), if_pos hfull]
  case badLength => exact fun s l f corr hup hlen => exec_ethFrameReceive_badLength hup hlen
  case opens =>
    intro s l i h ts tr x hup hnew hdrop hlast hx hfree hmatch huse hok
    exact exec_gvspLeaderReceive_opens hup hnew hdrop hlast hx hfree hmatch huse hok
  case unmatched =>
    intro s l i h ts x hup hnew hdrop hlast hx hfree hok
    exact exec_gvspLeaderReceive_unmatched hup hnew hdrop hlast hx hfree hok
  case leaderStandard => exact fun s l i h ts hup => exec_gvspLeaderReceive_standard hup
  case leaderStale =>
    exact fun s l i k h ts hup hnew hdrop hlast hstale => exec_gvspLeaderReceive_stale hup hnew hdrop hlast hstale
  case packet =>
    intro s l i pid data b b' x hup hblk hpkts hasked hpid hmore hlen hx hblk' hwhole hwait
    subst hpid
    rw [exec_gvspPayloadReceive_first hup hblk hpkts hasked hmore hlen hx hblk' hwhole,
      State.ethUnwait_of_running hblk' hwait]
  case unavailable =>
    intro s l i pid data hup hblk
    obtain ⟨b, hb⟩ := Option.isSome_iff_exists.1 hblk
    rw [exec_gvspPayloadReceive, execGvspPayloadReceive, hup, hb]
    rfl
  case packetStandard =>
    intro s l i pid data u hup
    rw [exec_gvspPayloadReceive, execGvspPayloadReceive, hup]
    rfl
  case packetStale =>
    intro s l i pid k data u hup hnew hdrop hlast hstale
    simp [exec_gvspPayloadReceive, execGvspPayloadReceive, State.iff, hup, hnew, hdrop, hlast, hstale]
  case trailer =>
    intro s l i b hup hblk
    rw [exec_gvspTrailerReceive, execGvspTrailerReceive, hup, hblk]
    rfl
  case trailerStandard =>
    intro s l i hup
    rw [exec_gvspTrailerReceive, execGvspTrailerReceive, hup]
    rfl
  case resend =>
    intro s l i b b' hblk hb'
    subst hb'
    rw [exec_resendWaitExpiry, execResendWaitExpiry, hblk]

end Sys2Proof.Machine
end

section
/-!
PROOF. The blocks of a tile on a Tenon lane: SOT, header, Ledger entry, payload, EOT, and blocks that are no such thing.
-/

namespace Sys2Proof.Machine

open Reg

section Exec
variable (s : State) (l : Fin 96) (b : Block)

theorem exec_sotReceive : exec (.sotReceive l b) s = .next (s.rxCtl l b 0x30 .sot) := rfl
theorem exec_tileHeaderReceive : exec (.tileHeaderReceive l) s = .next (s.checkHeader (s.boss l)) := rfl
theorem exec_ledgerEntryGrant : exec (.ledgerEntryGrant l) s = execLedgerEntryGrant l s := rfl
theorem exec_payloadBlockReceive : exec (.payloadBlockReceive l b) s = .next (s.rxArrive l (.data b)) := rfl
theorem exec_eotReceive : exec (.eotReceive l b) s = .next (s.rxCtl l b 0x31 (.eot b)) := rfl
theorem exec_controlBlockBadCheck : exec (.controlBlockBadCheck l b) s =
    if checkOk b || s.lanePers l != 1 || decide (s.laneState l < 2) || decide (9 ≤ s.laneState l) ||
        !s.flag (LANE_STATUS_BLOCK_LOCK l) then .next s
    else if s.tenUp l then .next (s.rxArrive l .bad)
    else if s.laneUp l && !s.rxOpen l then .next s
    else .next ((s.rxBlock l false).badCheck l) := rfl
theorem exec_unknownTypeReceive : exec (.unknownTypeReceive l b) s =
    if blockByte b 0 ∈ cameraTypes then .next s else .next (s.rxCtl l b (blockByte b 0) .unknown) := rfl

end Exec

/-! ### The check of a header -/

section Header
variable {s : State} {c : Nat} {bl : List Block}

theorem State.checkHeader_of_none (h : (s.lten c).hdr = none) : s.checkHeader c = s := by
  rw [State.checkHeader, h]

theorem State.checkHeader_of_short (h : (s.lten c).hdr = some bl) (hlen : bl.length < 8) : s.checkHeader c = s := by
  rw [State.checkHeader, h]
  exact if_pos hlen

theorem State.checkHeader_badCrc (h : (s.lten c).hdr = some bl) (hlen : bl.length = 8)
    (hcrc : crc32c ((bl.flatMap blockBytes).take 60) ≠ bytesAt (bl.flatMap blockBytes) 60 4) :
    s.checkHeader c = ((s.bump (TENON_CNT_HDRCRC c)).logC 0x1230 c 0).rejectTile c := by
  simp only [State.checkHeader, h, hlen, Nat.lt_irrefl, if_false]
  exact if_pos hcrc

theorem State.closeLine_of_none (h : (s.lten c).asm_ = none) : s.closeLine c = s := by
  rw [State.closeLine, h]

section NewLine
variable (h : (s.lten c).hdr = some bl) (hlen : bl.length = 8)
  (hcrc : crc32c ((bl.flatMap blockBytes).take 60) = bytesAt (bl.flatMap blockBytes) 60 4) (hasm : (s.lten c).asm_ = none)
include h hlen hcrc hasm

theorem State.checkHeader_badField {o : Nat}
    (hfault : headerFault (bl.flatMap blockBytes) (s.laneFmt c) (s.linePixels c) none = some o) :
    s.checkHeader c = (s.rejectTile c).violate c 0x05 o := by
  simp only [State.checkHeader, h, hlen, hcrc, hasm, hfault, Nat.lt_irrefl, if_false, ne_eq, not_true_eq_false]

theorem State.checkHeader_noTrigger
    (hfault : headerFault (bl.flatMap blockBytes) (s.laneFmt c) (s.linePixels c) none = none)
    (htrig : (s.outstanding c).find? (fun (u : Trigger) => u.id == (headerOf (bl.flatMap blockBytes)).trigId) = none) :
    s.checkHeader c = (s.rejectTile c).violate c 0x08 ((headerOf (bl.flatMap blockBytes)).trigId % 65536) := by
  simp only [State.checkHeader, h, hlen, hcrc, hasm, hfault, htrig, Nat.lt_irrefl, if_false, ne_eq, not_true_eq_false]

/-- A good header for the oldest outstanding trigger begins the line: no line closes and no older trigger is retired, the
header's blocks enter the queue, and it takes a Ledger entry or waits for one (R149, R150, R153). -/
theorem State.checkHeader_oldest {u : Trigger}
    (hfault : headerFault (bl.flatMap blockBytes) (s.laneFmt c) (s.linePixels c) none = none)
    (hdropped : (headerOf (bl.flatMap blockBytes)).dropped = 0) (hhead : (s.outstanding c).head? = some u)
    (hid : u.id = (headerOf (bl.flatMap blockBytes)).trigId) {x : State}
    (hx : x = (((s.modTen c (fun y => { y with
        asm_ := some ⟨u.id, (headerOf (bl.flatMap blockBytes)).count, 0, 0, s.tagOf u u.tc true, [], false⟩ })).modTen c
        (fun y => { y with hdr := none, hdrIn := 0, wait := some (headerOf (bl.flatMap blockBytes)) })).queuePut c
        (8 - (s.lten c).hdrIn)).tryAccept c) :
    s.checkHeader c = x.iff (x.lten c).wait.isSome (fun s => s.bump DLV_CNT_NOENTRY) := by
  obtain ⟨us, hus⟩ : ∃ us, s.outstanding c = u :: us := List.head?_eq_some_iff.1 hhead
  have hfind : (s.outstanding c).find? (fun (v : Trigger) => v.id == (headerOf (bl.flatMap blockBytes)).trigId) = some u := by
    simp [hus, hid]
  have holder : (s.outstanding c).takeWhile (fun (v : Trigger) => v.id != u.id) = [] := by simp [hus]
  have hcount : ((headerOf (bl.flatMap blockBytes)).dropped != 0) = false := by simp [hdropped]
  subst hx
  simp only [State.checkHeader, h, hlen, hcrc, hasm, hfault, hfind, holder, s.iff_false _ hcount,
    State.closeLine_of_none hasm, List.foldl_nil, State.lten_modTen, Option.isSome_none, Nat.lt_irrefl, if_false, ne_eq,
    not_true_eq_false, Bool.false_eq_true]

end NewLine

end Header

/-! ### One item of the stream -/

section Item
variable {s : State} {l : Nat} {b : Block}

/-! An item takes effect where no header is to be checked and none waits for its entry. -/

theorem State.rxItem_sot (hcheck : s.checkHeader l = s) (hwait : (s.lten l).wait = none) : s.rxItem l .sot = s.rxSot l := by
  simp only [State.rxItem, hcheck, hwait]
  rfl

theorem State.rxItem_data (excess held : Bool) (hcheck : s.checkHeader l = s) (hwait : (s.lten l).wait = none) :
    s.rxItem l (.data b excess held) = s.rxData l b excess held := by
  simp only [State.rxItem, hcheck, hwait]
  rfl

theorem State.rxItem_eot (abort : Bool) (crc : Nat) (hcheck : s.checkHeader l = s) (hwait : (s.lten l).wait = none) :
    s.rxItem l (.eot abort crc) = s.rxEot l abort crc := by
  simp only [State.rxItem, hcheck, hwait]
  rfl

theorem State.goodCtl_of_betweenTiles (h : s.betweenTiles l) :
    s.goodCtl l = s.modTen l (fun x => { x with lastBad := 0 }) := by
  obtain ⟨-, hhdr, hwait, -, -⟩ := h
  simp only [State.goodCtl, State.checkHeader_of_none hhdr, hwait]
  rfl

theorem State.agedClose_of_none (h : (s.lten l).asm_ = none) : s.agedClose l = s := by
  rw [State.agedClose, h]

end Item

/-! ### What the credit and a dropped header leave of the line -/

section Line
variable {s : State} {l : Nat}

theorem State.lten_of_regsOnly {t : State} (h : s.regsOnly t) : t.lten l = s.lten l := by
  rw [h]
  rfl

theorem State.bumpBy_only (s : State) (o n : Nat) : s.regsOnly (s.bumpBy o n) := s.wrN_only _ _

theorem State.putBond_only (f : Nat → Fld) (n : Nat) : s.regsOnly (s.putBond l f n) :=
  foldl_only _ (fun s m => s.put_only (f m) n) _ s

theorem State.sendCredit_asm : ((s.sendCredit l).lten l).asm_ = (s.lten l).asm_ := by
  show (((s.modTen l _).putBond l _ _).lten l).asm_ = _
  rw [State.lten_of_regsOnly (State.putBond_only _ _), State.lten_modTen]

theorem State.freeBlocks_asm (n : Nat) : ((s.freeBlocks l n).lten l).asm_ = (s.lten l).asm_ := by
  rw [State.freeBlocks, State.iff]
  split
  · rw [State.sendCredit_asm, State.lten_modTen]
  · rw [State.lten_modTen]

/-- Dropping a header of which nothing is there keeps the line. -/
theorem State.dropHdr_asm (hhdr : (s.lten l).hdr = none) (hwait : (s.lten l).wait = none) (hin : (s.lten l).hdrIn = 0) :
    ((s.dropHdr l).lten l).asm_ = (s.lten l).asm_ := by
  simp only [State.dropHdr, hhdr, hwait, hin, State.queueDrop, State.iff, State.dropBlocks, State.freeBlocks_asm,
    Option.isSome_none, Bool.false_eq_true, if_false, Nat.add_zero, bne_self_eq_false,
    State.lten_of_regsOnly (State.bumpBy_only _ _ _), State.lten_modTen]

end Line

/-! ### Blocks between tiles -/

section Between
variable {s : State} {l : Nat} {b : Block}

/-- An SOT between tiles and between lines ends and closes nothing: it begins a header (R146, R152). -/
theorem State.rxSot_of_betweenTiles (h : s.betweenTiles l) (hin : (s.lten l).hdrIn = 0) (hasm : (s.lten l).asm_ = none) :
    s.rxSot l = (((s.dropHdr l).modTen l (fun x => { x with discard := 0, lastBad := 0 })).modTen l
      (fun x => { x with hdr := some [], badInTile := false })).putBond l TENON_STATUS_TILE_OPEN 1 := by
  obtain ⟨hcur, hhdr, hwait, -, -⟩ := h
  have hline : (((s.dropHdr l).modTen l (fun x => { x with discard := 0, lastBad := 0 })).lten l).asm_ = none := by
    rw [State.lten_modTen]
    exact (State.dropHdr_asm hhdr hwait hin).trans hasm
  simp only [State.rxSot, hcur, hhdr, Option.isSome_none, Bool.or_self, State.iff, Bool.false_eq_true, if_false,
    State.agedClose_of_none hline]

theorem LaneTenon.inTile_of_betweenTiles (h : s.betweenTiles l) : (s.lten l).inTile = false := by
  obtain ⟨hcur, hhdr, hwait, hdisc, hbad⟩ := h
  simp [LaneTenon.inTile, hcur, hhdr, hwait, hdisc, hbad]

/-- A data block between tiles is discarded, with a violation (R152). -/
theorem State.rxPayload_of_betweenTiles (h : s.betweenTiles l) :
    s.rxPayload l b = (s.bump (TENON_CNT_DISCARD l)).violate l 0x02 0 := by
  have hout := LaneTenon.inTile_of_betweenTiles h
  obtain ⟨hcur, hhdr, hwait, hdisc, hbad⟩ := h
  simp only [State.rxPayload, hout, State.iff_false, State.rxItem_data _ _ (State.checkHeader_of_none hhdr) hwait,
    State.rxData, hcur, hhdr, hdisc, hbad]
  rfl

/-- A data block within the credit, inside a header that is not complete, joins the header (R144, R146). -/
theorem State.rxPayload_of_header {h : List Block} (hcur : (s.lten l).cur = none) (hwait : (s.lten l).wait = none)
    (hhdr : (s.lten l).hdr = some h) (hlen : h.length < 8)
    (hcredit : decide (sext 16 (trunc 16 (((s.lten l).limitSent : Int) - ceilDiv ((s.lten l).received + 1) 32)) < 0) = false) :
    s.rxPayload l b = (s.modTen l (fun x => { x with received := x.received + 1 })).modTen l
      (fun x => { x with hdr := some (h ++ [b]), hdrIn := x.hdrIn + 0 }) := by
  have hin : (s.lten l).inTile = true := by simp [LaneTenon.inTile, hwait, hhdr]
  have hten : ∀ f : LaneTenon → LaneTenon, (s.modTen l f).lten l = f (s.lten l) := s.lten_modTen l
  have hcheck := State.checkHeader_of_short (s := s.modTen l (fun x => { x with received := x.received + 1 }))
    (by rw [hten]; exact hhdr) hlen
  simp only [State.rxPayload, hin, hcredit, State.iff_true, Bool.and_false,
    State.rxItem_data _ _ hcheck (by rw [hten]; exact hwait), State.rxData, hten, hcur, hhdr]
  rfl

/-- An EOT between tiles is a violation (R152). -/
theorem State.rxEot_of_betweenTiles (abort : Bool) (crc : Nat) (h : s.betweenTiles l) :
    s.rxEot l abort crc = (s.modTen l (fun x => { x with lastBad := 0 })).violate l 0x04 0 := by
  obtain ⟨hcur, hhdr, -, hdisc, -⟩ := h
  simp only [State.rxEot, hcur, hhdr, hdisc]
  rfl

/-- The EOT of a tile whose payload is there and matches ends it whole (R152). -/
theorem State.rxEot_of_whole {n : Nat} {u : Tile} {crc : Nat} (hcur : (s.lten l).cur = some n)
    (hexcess : (s.lten l).excess = false) (htile : s.tile n = some u) (hpay : ceilDiv u.bytes 8 ≤ (s.lten l).payload)
    (hcrc : crc32c u.raw = crc) : s.rxEot l false crc = (s.modTen l (fun x => { x with lastBad := 0 })).endTile l false := by
  have htile' : (s.modTen l (fun x => { x with lastBad := 0 })).tile n = some u := htile
  simp only [State.rxEot, hcur, hexcess, htile', Nat.not_lt.2 hpay, hcrc, Bool.false_eq_true, if_false,
    ne_eq, not_true_eq_false]

end Between

/-! ### Ledger entries -/

section Grant
variable {s : State} {l : Fin 96}

/-- Without FILL tiles that wait, LEDGER_ENTRY_GRANT on a Tenon lane tries the header that waits (R24). -/
theorem exec_ledgerEntryGrant_tenon {h : TileHdr} (heth : s.laneEth l = false) (hfills : (s.lten (s.boss l)).fills = [])
    (hwait : (s.lten (s.boss l)).wait = some h) {x : State} (hx : x = s.tryAccept (s.boss l)) :
    exec (.ledgerEntryGrant l) s =
      if (x.lten (s.boss l)).wait.isSome then .next x
      else .next ((x.lten (s.boss l)).items.foldl (fun y i => y.rxItem (s.boss l) i)
        (x.modTen (s.boss l) (fun y => { y with items := [] }))) := by
  subst hx
  simp only [exec_ledgerEntryGrant, execLedgerEntryGrant, heth, hfills, hwait, State.iff, List.isEmpty_nil, Bool.not_true,
    Bool.false_and, Bool.false_eq_true, if_false, Option.isNone_some]

theorem State.tryAccept_of_no_entry {c : Nat} {h : TileHdr} {a : LineAsm} (hfills : (s.lten c).fills = [])
    (hwait : (s.lten c).wait = some h) (hasm : (s.lten c).asm_ = some a) (hnone : s.entryFor (s.laneStreams c) = none) :
    s.tryAccept c = s := by
  simp only [State.tryAccept, hwait, hasm, hfills, hnone]
  rfl

end Grant

/-- Settles O14: a block alone on its lane acts on the tile that is open, on the header, or on neither. -/
theorem tenonTilesComplete : Obligations.TenonTilesComplete := by
  refine ⟨?sot, ?sotBad, ?sotAlone, ?badCrc, ?badField, ?noTrigger, ?begins, ?short, ?granted, ?noEntry, ?grantEth, ?data,
    ?dataHeader, ?dataBetween, ?eot, ?eotBad, ?eotBetween, ?eotWhole, ?badCheck, ?badTraining, ?goodCheck, ?unknown,
    ?unknownBad, ?unknownBetween⟩
  case sot => exact fun s l b ht hc => by rw [exec_sotReceive, State.rxCtl_good _ ht hc]
  case sotBad => exact fun s l b ht hc => by rw [exec_sotReceive, State.rxCtl_bad _ ht hc]
  case sotAlone =>
    intro s l b halone hbetween hin _ hasm ht hc
    have ⟨_, hhdr, hwait, _⟩ := hbetween
    rw [exec_sotReceive, State.rxCtl_good _ ht hc, State.rxArrive_of_receivesAlone _ halone, State.rxLogic,
      State.rxItem_sot (State.checkHeader_of_none hhdr) hwait, State.rxSot_of_betweenTiles hbetween hin hasm]
  case badCrc =>
    intro s l bl hhdr hlen hcrc
    rw [exec_tileHeaderReceive, State.checkHeader_badCrc hhdr hlen hcrc]
  case badField =>
    intro s l bl o hhdr hlen hcrc hasm hfault
    rw [exec_tileHeaderReceive, State.checkHeader_badField hhdr hlen hcrc hasm hfault]
  case noTrigger =>
    intro s l bl hhdr hlen hcrc hasm hfault htrig
    rw [exec_tileHeaderReceive, State.checkHeader_noTrigger hhdr hlen hcrc hasm hfault htrig]
  case begins =>
    intro s l bl u x hhdr hlen hcrc hasm hfault hdropped hhead hid hx hgot
    rw [exec_tileHeaderReceive, State.checkHeader_oldest hhdr hlen hcrc hasm hfault hdropped hhead hid hx,
      State.iff_false _ _ (by simp [hgot])]
  case short =>
    intro s l bl hhdr hlen
    rw [exec_tileHeaderReceive, State.checkHeader_of_short hhdr hlen]
  case granted =>
    intro s l h x heth hfills hwait hx hgot hitems
    rw [exec_ledgerEntryGrant_tenon heth hfills hwait hx, hgot, hitems]
    rfl
  case noEntry =>
    intro s l h a heth hfills hwait hasm hnone
    rw [exec_ledgerEntryGrant_tenon heth hfills hwait (State.tryAccept_of_no_entry hfills hwait hasm hnone).symm, hwait]
    rfl
  case grantEth =>
    intro s l heth hfills
    simp only [exec_ledgerEntryGrant, execLedgerEntryGrant, heth, if_true, hfills, State.iff, List.isEmpty_nil,
      Bool.not_true, Bool.false_and, Bool.false_eq_true, if_false]
  case data => exact exec_payloadBlockReceive
  case dataHeader =>
    intro s l b h halone hcur hwait hhdr hlen hcredit
    rw [exec_payloadBlockReceive, State.rxArrive_of_receivesAlone _ halone, State.rxLogic,
      State.rxPayload_of_header hcur hwait hhdr hlen hcredit]
  case dataBetween =>
    intro s l b halone hbetween
    rw [exec_payloadBlockReceive, State.rxArrive_of_receivesAlone _ halone, State.rxLogic,
      State.rxPayload_of_betweenTiles hbetween]
  case eot => exact fun s l b ht hc => by rw [exec_eotReceive, State.rxCtl_good _ ht hc]
  case eotBad => exact fun s l b ht hc => by rw [exec_eotReceive, State.rxCtl_bad _ ht hc]
  case eotBetween =>
    intro s l b halone hbetween ht hc
    have ⟨_, hhdr, hwait, _⟩ := hbetween
    rw [exec_eotReceive, State.rxCtl_good _ ht hc, State.rxArrive_of_receivesAlone _ halone, State.rxLogic,
      State.rxItem_eot _ _ (State.checkHeader_of_none hhdr) hwait, State.rxEot_of_betweenTiles _ _ hbetween]
  case eotWhole =>
    intro s l b n u halone hhdr hwait hcur hexcess htile hpay hcrc habort ht hc
    rw [exec_eotReceive, State.rxCtl_good _ ht hc, State.rxArrive_of_receivesAlone _ halone, State.rxLogic,
      State.rxItem_eot _ _ (State.checkHeader_of_none hhdr) hwait, habort, State.rxEot_of_whole hcur hexcess htile hpay hcrc]
  case badCheck =>
    intro s l b hc hpers hlock halone
    have ⟨hst, hup, _⟩ := halone
    rw [exec_controlBlockBadCheck, if_neg (by simp [hc, hpers, hlock, hst]), if_pos hup,
      State.rxArrive_of_receivesAlone _ halone]
    rfl
  case badTraining =>
    intro s l b hc hpers hlow hhigh hlock
    have hdown : s.laneUp l = false := by simp only [State.laneUp, Bool.and_eq_false_iff, decide_eq_false_iff_not]; omega
    have hten : s.tenUp l = false := by simp [State.tenUp, hdown]
    rw [exec_controlBlockBadCheck, if_neg (by simp [hc, hpers, hlock]; omega), hten, hdown]
    rfl
  case goodCheck =>
    intro s l b hc
    rw [exec_controlBlockBadCheck, if_pos (by simp [hc])]
  case unknown =>
    intro s l b ht hc
    rw [exec_unknownTypeReceive, if_neg ht, State.rxCtl_good _ rfl hc]
  case unknownBad =>
    intro s l b ht hc
    rw [exec_unknownTypeReceive, if_neg ht, State.rxCtl_bad _ rfl hc]
  case unknownBetween =>
    intro s l b halone hbetween ht hc
    rw [exec_unknownTypeReceive, if_neg ht, State.rxCtl_good _ rfl hc, State.rxArrive_of_receivesAlone _ halone,
      State.rxLogic, State.goodCtl_of_betweenTiles hbetween]

end Sys2Proof.Machine
end

section
/-!
PROOF. The commands that are made of stable changes alone, and the power-on reset, which only its ball moves (R68, R69).
-/

namespace Sys2Proof.Machine

/-- A command of the power-on reset or one that may program the OTP: the two kinds of change that a stable property need
not survive. -/
def Instr.special : Instr → Bool
  | .porstAssert | .porstRelease _ _ | .otpProgramSlot _ | .otpRevokeSlot _ | .trialConfirm => true
  | _ => false

/-- Every other command is made of elementary changes alone, so it keeps any stable property. -/
theorem exec_stable_of_not_special {P : State → Prop} (hP : Stable P) {c : Instr} (hc : Instr.special c = false)
    {s : State} (h : P s) : Answers P (exec c s) := by
  cases c with
  | porstAssert | porstRelease | otpProgramSlot | otpRevokeSlot | trialConfirm => cases hc
  | registerWrite a0 => exact execRegisterWrite_stable hP a0 s h
  | sysRstAssert => exact execSysRstAssert_stable hP s h
  | systemResetRelease => exact execSystemResetRelease_stable hP s h
  | sysResetRequest a0 => exact execSysResetRequest_stable hP a0 s h
  | mcResetRequest a0 => exact execMcResetRequest_stable hP a0 s h
  | mcWatchdogExpiry => exact execMcWatchdogExpiry_stable hP s h
  | pllLossOfLock a0 => exact execPllLossOfLock_stable hP a0 s h
  | pllLocked a0 => exact execPllLocked_stable hP a0 s h
  | tbHoldoverEntry => exact execTbHoldoverEntry_stable hP s h
  | tbRelock => exact execTbRelock_stable hP s h
  | tbRelockComplete => exact execTbRelockComplete_stable hP s h
  | tbCoarseExit => exact execTbCoarseExit_stable hP s h
  | droopDetect => exact execDroopDetect_stable hP s h
  | droopRestore => exact execDroopRestore_stable hP s h
  | droopForce => exact execForce_stable hP s h
  | droopWindowEnd => exact execDroopWindowEnd_stable hP s h
  | droopBudgetExceeded => exact execDroopBudgetExceeded_stable hP s h
  | bootRomStart a0 => exact execBootRomStart_stable hP a0 s h
  | firmwareStart a0 a1 a2 => exact execFirmwareStart_stable hP a0 a1 a2 s h
  | commitTimeoutExpiry => exact execCommitTimeoutExpiry_stable hP s h
  | clCommit => exact execClCommit_stable hP s h
  | linkRelease => exact execLinkRelease_stable hP s h
  | outputCommitSet => exact execOutputCommitSet_stable hP s h
  | outputCommitClear => exact execOutputCommitClear_stable hP s h
  | laneEnable a0 a1 => exact execLaneEnable_stable hP a0 a1 s h
  | laneDisable a0 a1 a2 => exact execLaneDisable_stable hP a0 a1 a2 s h
  | retrain a0 a1 => exact execRetrain_stable hP a0 a1 s h
  | lanePllLock a0 => exact execLanePllLock_stable hP a0 s h
  | lanePllLoss a0 => exact execLanePllLoss_stable hP a0 s h
  | blockLockGain a0 => exact execBlockLockGain_stable hP a0 s h
  | blockLockLoss a0 a1 => exact execBlockLockLoss_stable hP a0 a1 s h
  | alignSend a0 => exact execAlignSend_stable hP a0 s h
  | alignReceive a0 a1 a2 => exact execAlignReceive_stable hP a0 a1 a2 s h
  | alignMiss a0 => exact execAlignMiss_stable hP a0 s h
  | relockTimeout a0 => exact execRelockTimeout_stable hP a0 s h
  | losSet a0 => exact execLosSet_stable hP a0 s h
  | losClear a0 => exact execLosClear_stable hP a0 s h
  | lolSet a0 => exact execLolSet_stable hP a0 s h
  | lolClear a0 => exact execLolClear_stable hP a0 s h
  | trainBlockReceive a0 a1 => exact execTrainBlockReceive_stable hP a0 a1 s h
  | stepTimeout a0 => exact execStepTimeout_stable hP a0 s h
  | equaliseLimit a0 => exact execEqualiseLimit_stable hP a0 s h
  | equaliseLowMarginEnd a0 => exact execEqualiseLowMarginEnd_stable hP a0 s h
  | absentWaitExpiry a0 => exact execAbsentWaitExpiry_stable hP a0 s h
  | eyeMonitorCheck a0 a1 a2 a3 a4 => exact execEyeMonitorCheck_stable hP a0 a1 a2 a3 a4 s h
  | marginBurstEnd a0 => exact execMarginBurstEnd_stable hP a0 s h
  | equaliserFreeze a0 => exact execEqualiserFreeze_stable hP a0 s h
  | eidleReceive a0 a1 => exact execEidleReceive_stable hP a0 a1 s h
  | exitTimeout a0 => exact execExitTimeout_stable hP a0 s h
  | inject a0 a1 => exact execInject_stable hP a0 a1 s h
  | prbsPublish a0 a1 a2 => exact execPrbsPublish_stable hP a0 a1 a2 s h
  | lechoReceive a0 a1 a2 => exact execLechoReceive_stable hP a0 a1 a2 s h
  | probeTimeout a0 => exact execProbeTimeout_stable hP a0 s h
  | latencyMeasureTimeout a0 => exact execLatencyMeasureTimeout_stable hP a0 s h
  | latTrackProbe a0 => exact execLatTrackProbe_stable hP a0 s h
  | creditRefresh a0 => exact execCreditRefresh_stable hP a0 s h
  | sotReceive a0 a1 => exact execSotReceive_stable hP a0 a1 s h
  | tileHeaderReceive a0 => exact execTileHeaderReceive_stable hP a0 s h
  | ledgerEntryGrant a0 => exact execLedgerEntryGrant_stable hP a0 s h
  | payloadBlockReceive a0 a1 => exact execPayloadBlockReceive_stable hP a0 a1 s h
  | eotReceive a0 a1 => exact execEotReceive_stable hP a0 a1 s h
  | controlBlockBadCheck a0 a1 => exact execControlBlockBadCheck_stable hP a0 a1 s h
  | unknownTypeReceive a0 a1 => exact execUnknownTypeReceive_stable hP a0 a1 s h
  | ctrlRspReceive a0 a1 a2 => exact execCtrlRspReceive_stable hP a0 a1 a2 s h
  | violReceive a0 a1 => exact execViolReceive_stable hP a0 a1 s h
  | trigAgeExpiry a0 a1 => exact execTrigAgeExpiry_stable hP a0 a1 s h
  | ctrlGo a0 => exact execCtrlGo_stable hP a0 s h
  | ctrlTimeout a0 => exact execCtrlTimeout_stable hP a0 s h
  | trigLaunch a0 a1 => exact execTrigLaunch_stable hP a0 a1 s h
  | bondForm a0 a1 => exact execBondForm_stable hP a0 a1 s h
  | bondDeskewTimeout a0 => exact execBondDeskewTimeout_stable hP a0 s h
  | violDeferredSend a0 a1 => exact execViolDeferredSend_stable hP a0 a1 s h
  | violWindowEnd a0 => exact execViolWindowEnd_stable hP a0 s h
  | ethFrameReceive a0 a1 a2 a3 a4 => exact execEthFrameReceive_stable hP a0 a1 a2 a3 a4 s h
  | gvspLeaderReceive a0 a1 a2 a3 a4 => exact execGvspLeaderReceive_stable hP a0 a1 a2 a3 a4 s h
  | gvspPayloadReceive a0 a1 a2 a3 a4 a5 => exact execGvspPayloadReceive_stable hP a0 a1 a2 a3 a4 a5 s h
  | gvspTrailerReceive a0 a1 a2 => exact execGvspTrailerReceive_stable hP a0 a1 a2 s h
  | resendWaitExpiry a0 a1 => exact execResendWaitExpiry_stable hP a0 a1 s h
  | arpRetry a0 => exact execArpRetry_stable hP a0 s h
  | arpReplyReceive a0 a1 => exact execArpReplyReceive_stable hP a0 a1 s h
  | arpRequestReceive a0 a1 => exact execArpRequestReceive_stable hP a0 a1 s h
  | cameraSetup a0 a1 a2 => exact execCameraSetup_stable hP a0 a1 a2 s h
  | setupRetryExpiry a0 => exact execSetupRetryExpiry_stable hP a0 s h
  | gvcpAckTimeout a0 => exact execGvcpAckTimeout_stable hP a0 s h
  | heartbeatRead a0 a1 => exact execHeartbeatRead_stable hP a0 a1 s h
  | camSyncPoll a0 a1 => exact execCamSyncPoll_stable hP a0 a1 s h
  | ptpSyncSend a0 => exact execPtpSyncSend_stable hP a0 s h
  | ptpAnnounceSend a0 => exact execPtpAnnounceSend_stable hP a0 s h
  | delayReqReceive a0 a1 a2 => exact execDelayReqReceive_stable hP a0 a1 a2 s h
  | actionCmdSend a0 => exact execActionCmdSend_stable hP a0 s h
  | actionTimePass a0 => exact execActionTimePass_stable hP a0 s h
  | encoderTransition a0 a1 a2 a3 a4 => exact execEncoderTransition_stable hP a0 a1 a2 a3 a4 s h
  | indexEvent a0 a1 => exact execIndexEvent_stable hP a0 a1 s h
  | probeEdge a0 a1 a2 => exact execProbeEdge_stable hP a0 a1 a2 s h
  | ssiFrameStart a0 a1 => exact execSsiFrameStart_stable hP a0 a1 s h
  | ssiFrameEnd a0 a1 => exact execSsiFrameEnd_stable hP a0 a1 s h
  | posPreset a0 => exact execPreset_stable hP a0 s h
  | posSnap a0 => exact execPosSnap_stable hP a0 s h
  | posArm a0 => exact execArm_stable hP a0 s h
  | obsReset a0 => exact execObsReset_stable hP a0 s h
  | observerUpdate a0 => exact execObserverUpdate_stable hP a0 s h
  | posPublish => exact execPosPublish_stable hP s h
  | posStateInForce a0 => exact execPosStateInForce_stable hP a0 s h
  | followerStale a0 => exact execFollowerStale_stable hP a0 s h
  | exposureCentreCopy a0 => exact execExposureCentreCopy_stable hP a0 s h
  | targetCommit a0 => exact execTargetCommit_stable hP a0 s h
  | firingInstant a0 => exact execFiringInstant_stable hP a0 s h
  | pulseStart a0 => exact execPulseStart_stable hP a0 s h
  | pulseEnd a0 => exact execPulseEnd_stable hP a0 s h
  | listEntryRetry a0 => exact execListEntryRetry_stable hP a0 s h
  | trigPush a0 a1 a2 a3 => exact execTrigPush_stable hP a0 a1 a2 a3 s h
  | trigFire a0 a1 => exact execFire_stable hP a0 a1 s h
  | ringClear a0 a1 => exact execRingClear_stable hP a0 a1 s h
  | resync a0 a1 => exact execResync_stable hP a0 a1 s h
  | sequencerEnable a0 a1 => exact execSequencerEnable_stable hP a0 a1 s h
  | sequencerDisable a0 a1 => exact execSequencerDisable_stable hP a0 a1 s h
  | tbIncrWrite a0 a1 => exact execTbIncrWrite_stable hP a0 a1 s h
  | tbSet => exact execSet_stable hP s h
  | tbStep => exact execStep_stable hP s h
  | tbSnap => exact execTbSnap_stable hP s h
  | slewStart a0 => exact execSlewStart_stable hP a0 s h
  | slewEnd => exact execSlewEnd_stable hP s h
  | slewAbort => exact execSlewAbort_stable hP s h
  | ppsInEdge a0 a1 => exact execPpsInEdge_stable hP a0 a1 s h
  | ppsMiss => exact execPpsMiss_stable hP s h
  | ppsOutStart => exact execPpsOutStart_stable hP s h
  | ppsOutEnd => exact execPpsOutEnd_stable hP s h
  | alarmFire a0 => exact execAlarmFire_stable hP a0 s h
  | cycleTimerPulse a0 => exact execCycleTimerPulse_stable hP a0 s h
  | cycleTimerPulseEnd a0 => exact execCycleTimerPulseEnd_stable hP a0 s h
  | gpioEdgeCapture a0 a1 a2 => exact execGpioEdgeCapture_stable hP a0 a1 a2 s h
  | eventArrive a0 a1 a2 => exact execEventArrive_stable hP a0 a1 a2 s h
  | pendingAccept a0 => exact execPendingAccept_stable hP a0 s h
  | evtSoft => exact execSoft_stable hP s h
  | evtPulseEnd a0 => exact execEvtPulseEnd_stable hP a0 s h
  | conditioningStart a0 => exact execConditioningStart_stable hP a0 s h
  | tileConditioned a0 a1 a2 => exact execTileConditioned_stable hP a0 a1 a2 s h
  | ringSpaceFree a0 => exact execRingSpaceFree_stable hP a0 s h
  | rsWaitExpiry a0 => exact execRsWaitExpiry_stable hP a0 s h
  | peakClear a0 a1 => exact execPeakClear_stable hP a0 a1 s h
  | tableSwap a0 a1 => exact execSwap_stable hP a0 a1 s h
  | segmentBurstArrive a0 a1 a2 a3 a4 => exact execSegmentBurstArrive_stable hP a0 a1 a2 a3 a4 s h
  | bentDeadline a0 a1 => exact execBentDeadline_stable hP a0 a1 s h
  | stitchEnable a0 a1 => exact execStitchEnable_stable hP a0 a1 s h
  | stitchDisable a0 a1 => exact execStitchDisable_stable hP a0 a1 s h
  | kerfLineWrite a0 => exact execKerfLineWrite_stable hP a0 s h
  | kerfMaxExpiry a0 => exact execKerfMaxExpiry_stable hP a0 s h
  | kerfReadbackDone a0 a1 a2 => exact execKerfReadbackDone_stable hP a0 a1 a2 s h
  | tileDeal a0 => exact execTileDeal_stable hP a0 s h
  | taskStart a0 => exact execTaskStart_stable hP a0 s h
  | bundleIssue a0 a1 a2 => exact execBundleIssue_stable hP a0 a1 a2 s h
  | engSig a0 a1 => exact execSig_stable hP a0 a1 s h
  | engPost a0 a1 => exact execPost_stable hP a0 a1 s h
  | engPush a0 a1 => exact execPush_stable hP a0 a1 s h
  | dmaGo a0 a1 => exact execDmaGo_stable hP a0 a1 s h
  | dmaWait a0 a1 => exact execDmaWait_stable hP a0 a1 s h
  | dmaWaitResume a0 => exact execDmaWaitResume_stable hP a0 s h
  | outOpen a0 a1 => exact execOutOpen_stable hP a0 a1 s h
  | outOpenResume a0 => exact execOutOpenResume_stable hP a0 s h
  | outEmit a0 a1 => exact execOutEmit_stable hP a0 a1 s h
  | tkeep a0 a1 => exact execTkeep_stable hP a0 a1 s h
  | trel a0 a1 => exact execTrel_stable hP a0 a1 s h
  | engFence a0 a1 => exact execFence_stable hP a0 a1 s h
  | tend a0 a1 => exact execTend_stable hP a0 a1 s h
  | taskBudgetExpiry a0 => exact execTaskBudgetExpiry_stable hP a0 s h
  | engAbort a0 a1 => exact execAbort_stable hP a0 a1 s h
  | engRestart a0 a1 => exact execRestart_stable hP a0 a1 s h
  | dmaDescriptorStart a0 a1 => exact execDmaDescriptorStart_stable hP a0 a1 s h
  | dmaTransferDone a0 a1 a2 a3 a4 => exact execDmaTransferDone_stable hP a0 a1 a2 a3 a4 s h
  | ddrRefresh a0 => exact execDdrRefresh_stable hP a0 s h
  | zqShortCalibration a0 => exact execZqShortCalibration_stable hP a0 s h
  | ddrAlert a0 a1 => exact execDdrAlert_stable hP a0 a1 s h
  | ddrReadDecode a0 a1 a2 a3 => exact execDdrReadDecode_stable hP a0 a1 a2 a3 s h
  | scrubRead a0 a1 => exact execScrubRead_stable hP a0 a1 s h
  | ddrEraseWrite a0 a1 a2 => exact execDdrEraseWrite_stable hP a0 a1 a2 s h
  | ddrRetire a0 a1 => exact execDdrRetire_stable hP a0 a1 s h
  | arbRequestRaise a0 a1 => exact execArbRequestRaise_stable hP a0 a1 s h
  | arbRequestDrop a0 => exact execArbRequestDrop_stable hP a0 s h
  | arbBreakPoint a0 => exact execArbBreakPoint_stable hP a0 s h
  | arbBackoffEnd a0 a1 => exact execArbBackoffEnd_stable hP a0 a1 s h
  | arbRankWrite a0 a1 a2 a3 => exact execArbRankWrite_stable hP a0 a1 a2 a3 s h
  | waitWatchdogExpiry a0 a1 a2 a3 => exact execWaitWatchdogExpiry_stable hP a0 a1 a2 a3 s h
  | deliveryReady a0 a1 => exact execDeliveryReady_stable hP a0 a1 s h
  | payloadTransfer a0 a1 a2 => exact execPayloadTransfer_stable hP a0 a1 a2 s h
  | descTailWrite a0 a1 a2 a3 a4 => exact execDescTailWrite_stable hP a0 a1 a2 a3 a4 s h
  | descFetch a0 a1 => exact execDescFetch_stable hP a0 a1 s h
  | descCompletionReceive a0 a1 a2 a3 => exact execDescCompletionReceive_stable hP a0 a1 a2 a3 s h
  | completionTimeout a0 a1 => exact execCompletionTimeout_stable hP a0 a1 s h
  | creditWaitExpiry a0 a1 => exact execCreditWaitExpiry_stable hP a0 a1 s h
  | deactExpiry a0 a1 => exact execDeactExpiry_stable hP a0 a1 s h
  | irqModerationExpiry a0 a1 => exact execIrqModerationExpiry_stable hP a0 a1 s h
  | rateWindowEnd => exact execRateWindowEnd_stable hP s h
  | flushUsExpiry a0 => exact execFlushUsExpiry_stable hP a0 s h
  | recallGo a0 a1 => exact execRecallGo_stable hP a0 a1 s h
  | recallRecordRead a0 a1 => exact execRecallRecordRead_stable hP a0 a1 s h
  | perstAssert a0 => exact execPerstAssert_stable hP a0 s h
  | perstDeassert a0 => exact execPerstDeassert_stable hP a0 s h
  | linkUp a0 a1 a2 => exact execLinkUp_stable hP a0 a1 a2 s h
  | linkDown a0 => exact execLinkDown_stable hP a0 s h
  | pcieCfgWrite a0 a1 a2 => exact execPcieCfgWrite_stable hP a0 a1 a2 s h
  | flr a0 => exact execFlr_stable hP a0 s h
  | bmeClear a0 => exact execBmeClear_stable hP a0 s h
  | bmeSet a0 => exact execBmeSet_stable hP a0 s h
  | d3hotEntry a0 => exact execD3hotEntry_stable hP a0 s h
  | d0Return a0 => exact execD0Return_stable hP a0 s h
  | configRequest a0 a1 a2 a3 a4 => exact execConfigRequest_stable hP a0 a1 a2 a3 a4 s h
  | peerRequest a0 a1 a2 a3 a4 a5 a6 a7 => exact execPeerRequest_stable hP a0 a1 a2 a3 a4 a5 a6 a7 s h
  | windowCommit a0 a1 => exact execWindowCommit_stable hP a0 a1 s h
  | windowSwitch a0 a1 => exact execWindowSwitch_stable hP a0 a1 s h
  | msixPendingSend a0 a1 => exact execMsixPendingSend_stable hP a0 a1 s h
  | getInfo a0 => exact execGetInfo_stable hP a0 s h
  | streamOpen a0 => exact execStreamOpen_stable hP a0 s h
  | streamClose a0 a1 => exact execStreamClose_stable hP a0 a1 s h
  | ringPost a0 => exact execRingPost_stable hP a0 s h
  | ringWithdraw a0 => exact execRingWithdraw_stable hP a0 s h
  | cameraAccess a0 a1 a2 a3 a4 => exact execCameraAccess_stable hP a0 a1 a2 a3 a4 s h
  | tableLoad a0 a1 => exact execTableLoad_stable hP a0 a1 s h
  | engineRestart a0 a1 => exact execEngineRestart_stable hP a0 a1 s h
  | unitRetire a0 => exact execUnitRetire_stable hP a0 s h
  | imageBegin a0 => exact execImageBegin_stable hP a0 s h
  | imageChunk a0 => exact execImageChunk_stable hP a0 s h
  | imageEnd a0 => exact execImageEnd_stable hP a0 s h
  | cutlistTrial a0 => exact execCutlistTrial_stable hP a0 s h
  | attestReport a0 => exact execAttestReport_stable hP a0 s h
  | attestCertificate a0 => exact execAttestCertificate_stable hP a0 s h
  | mailboxReset a0 a1 => exact execMailboxReset_stable hP a0 a1 s h
  | outputHold a0 => exact execOutputHold_stable hP a0 s h
  | outputResume a0 => exact execOutputResume_stable hP a0 s h
  | logRead a0 => exact execLogRead_stable hP a0 s h
  | sillBlockLock a0 => exact execSillBlockLock_stable hP a0 s h
  | sillLinkLoss a0 => exact execSillLinkLoss_stable hP a0 s h
  | helloSend a0 => exact execHelloSend_stable hP a0 s h
  | helloReceive a0 a1 => exact execHelloReceive_stable hP a0 a1 s h
  | helloTimeout a0 => exact execHelloTimeout_stable hP a0 s h
  | measureTimeout a0 => exact execMeasureTimeout_stable hP a0 s h
  | faultHoldExpiry a0 => exact execFaultHoldExpiry_stable hP a0 s h
  | sillProbeSend a0 => exact execSillProbeSend_stable hP a0 s h
  | probeReceive a0 a1 a2 => exact execProbeReceive_stable hP a0 a1 a2 s h
  | pechoReceive a0 a1 a2 => exact execPechoReceive_stable hP a0 a1 a2 s h
  | syncSend a0 => exact execSyncSend_stable hP a0 s h
  | syncReceive a0 a1 a2 => exact execSyncReceive_stable hP a0 a1 a2 s h
  | timeServo => exact execTimeServo_stable hP s h
  | syncTimeout => exact execSyncTimeout_stable hP s h
  | posBurstReceive a0 a1 => exact execPosBurstReceive_stable hP a0 a1 s h
  | eventFrameReceive a0 a1 => exact execEventFrameReceive_stable hP a0 a1 s h
  | alignedEventDue => exact execAlignedEventDue_stable hP s h
  | schedGo a0 => exact execSchedGo_stable hP a0 s h
  | schedFrameReceive a0 a1 => exact execSchedFrameReceive_stable hP a0 a1 s h
  | mgmtFrameReceive a0 a1 => exact execMgmtFrameReceive_stable hP a0 a1 s h
  | claimSend => exact execClaimSend_stable hP s h
  | claimReceive a0 a1 => exact execClaimReceive_stable hP a0 a1 s h
  | claimWindowExpiry => exact execClaimWindowExpiry_stable hP s h
  | cechoSend => exact execCechoSend_stable hP s h
  | cechoReceive a0 a1 => exact execCechoReceive_stable hP a0 a1 s h
  | beatSend => exact execBeatSend_stable hP s h
  | beatReceive a0 a1 => exact execBeatReceive_stable hP a0 a1 s h
  | twinWatchStart => exact execTwinWatchStart_stable hP s h
  | hbLost => exact execHbLost_stable hP s h
  | claimHoldoffExpiry => exact execClaimHoldoffExpiry_stable hP s h
  | swapReq a0 => exact execSwapReq_stable hP a0 s h
  | swapTakingStart => exact execSwapTakingStart_stable hP s h
  | swapPoint => exact execSwapPoint_stable hP s h
  | revertHoldExpiry => exact execRevertHoldExpiry_stable hP s h
  | swapPeriodExpiry => exact execSwapPeriodExpiry_stable hP s h
  | sensorPublish a0 a1 => exact execSensorPublish_stable hP a0 a1 s h
  | thermalTrip => exact execThermalTrip_stable hP s h
  | voltOut a0 a1 => exact execVoltOut_stable hP a0 a1 s h
  | pmbusPoll a0 => exact execPmbusPoll_stable hP a0 s h
  | pmbAlert a0 => exact execPmbAlert_stable hP a0 s h
  | logWrite => exact execLogWrite_stable hP s h
  | logLimitIntervalEnd a0 a1 => exact execLogLimitIntervalEnd_stable hP a0 a1 s h
  | logFlashCopy => exact execLogFlashCopy_stable hP s h
  | identityKeyReady => exact execIdentityKeyReady_stable hP s h
  | retireLane a0 a1 => exact execRetireLane_stable hP a0 a1 s h
  | retireBay a0 a1 => exact execRetireBay_stable hP a0 a1 s h
  | retireEngine a0 a1 => exact execRetireEngine_stable hP a0 a1 s h
  | retirePositionChannel a0 a1 => exact execRetirePositionChannel_stable hP a0 a1 s h
  | retireSillPort a0 a1 => exact execRetireSillPort_stable hP a0 a1 s h
  | pwmPeriodStart a0 => exact execPwmPeriodStart_stable hP a0 s h
  | pwmHighEnd a0 => exact execPwmHighEnd_stable hP a0 s h
  | equaliseReady a0 a1 a2 => exact execEqualiseReady_stable hP a0 a1 a2 s h
  | checkerLock a0 => exact execCheckerLock_stable hP a0 s h
  | checkerReseed a0 => exact execCheckerReseed_stable hP a0 s h
  | idleBlockReceive a0 a1 => exact execIdleBlockReceive_stable hP a0 a1 s h
  | cameraScriptWaitExpiry a0 => exact execCameraScriptWaitExpiry_stable hP a0 s h
  | camSyncDelayExpiry a0 => exact execCamSyncDelayExpiry_stable hP a0 s h
  | encZFall a0 => exact execEncZFall_stable hP a0 s h
  | enginePushArrive a0 => exact execEnginePushArrive_stable hP a0 s h
  | fenceComplete a0 => exact execFenceComplete_stable hP a0 s h
  | faultWindowEnd => exact execFaultWindowEnd_stable hP s h
  | postedCreditReturn a0 => exact execPostedCreditReturn_stable hP a0 s h
  | peerReadComplete a0 a1 a2 => exact execPeerReadComplete_stable hP a0 a1 a2 s h
  | flrComplete a0 => exact execFlrComplete_stable hP a0 s h
  | pcieLinkError a0 a1 => exact execPcieLinkError_stable hP a0 a1 s h
  | mailboxBadOpcode a0 => exact execMailboxBadOpcode_stable hP a0 s h
  | noHolderTimeout => exact execNoHolderTimeout_stable hP s h
  | partnerTooNarrow a0 => exact execPartnerTooNarrow_stable hP a0 s h

/-- Settles O49: the power-on reset is no elementary change, and programming the OTP leaves it too. -/
theorem onlyPorstBallMovesPorst : Obligations.OnlyPorstBallMovesPorst := by
  intro c s t hassert hrelease hexec
  have hP : Stable (fun u => u.power.porst = s.power.porst) := kept_stable (fun k => k.2.2 = s.power.porst)
  have hotp : ∀ (u : State) (a : Nat) (l : List Byte), u.power.porst = s.power.porst →
      (u.otpProg a l).power.porst = s.power.porst := fun _ _ _ h => h
  suffices h : Answers (fun u => u.power.porst = s.power.porst) (exec c s) from h.of_next hexec
  cases hc : Instr.special c with
  | false => exact exec_stable_of_not_special hP hc rfl
  | true =>
    cases c with
    | porstAssert => exact absurd rfl hassert
    | porstRelease m f => exact absurd rfl (hrelease m f)
    | otpProgramSlot p => exact execOtpProgramSlot_stable hP hotp p s rfl
    | otpRevokeSlot p => exact execOtpRevokeSlot_stable hP hotp p s rfl
    | trialConfirm => exact execTrialConfirm_stable hP hotp s rfl
    | _ => cases hc

end Sys2Proof.Machine
end

section
/-!
PROOF. The idle step, and the state that a power-on reset leaves (R68, R71, R241).
-/

namespace Sys2Proof.Machine

open Reg

theorem State.rd_reset (o : Nat) : State.reset.rd o = regDefault o := rfl

/-- GLOBAL_ID shows the part in its low half, below the revision and the grade (R503). -/
theorem State.reset_part : State.reset.rdN GLOBAL_ID % 65536 = 0x9624 := by
  rw [State.rdN, State.rd_reset, regDefault, if_pos rfl, BitVec.toNat_ofNat]
  omega

/-- Settles O43: each value is that of one register, or of one part of the hidden state, after reset. -/
theorem resetValues : Obligations.ResetValues := by
  refine ⟨State.reset_part, ?droop, ?incr, ?holds, ?lanes, ?commit, rfl, rfl, rfl, rfl, rfl, rfl⟩ <;> decide +kernel

/-- Settles O44: every table of the reset state is canonical, and its queue is empty. -/
theorem resetStateIsOk : Obligations.ResetStateIsOk := ⟨State.reset_memOk, rfl⟩

/-! ### One tick of the time base -/

/-- What the time base leaves alone as it ticks in a system reset, and its count of ticks. -/
def State.ticking (s : State) : Nat × List Trigger × List (Nat × LogEntry) := (s.tb.ticks, s.trigs, s.log.ring)

theorem State.regsOnly.ticking {s t : State} (h : s.regsOnly t) : t.ticking = s.ticking := by rw [h]; rfl

theorem State.irqPort_ticking (s : State) (p v : Nat) : (s.irqPort p v).ticking = s.ticking := by
  dsimp only [State.irqPort, State.iff, State.msixSend]
  split
  · split <;> rfl
  · rfl

theorem State.raise_ticking (s : State) (v : Nat) (f : Fld) : (s.raise v f).ticking = s.ticking := by
  dsimp only [State.raise, State.iff]
  split
  · exact ((State.irqPort_ticking _ 1 v).trans (State.irqPort_ticking _ 0 v)).trans (s.putB_only f true).ticking
  · exact (s.putB_only f true).ticking

/-- A log entry waits in the queue: the ring is the log writer's (R466). -/
theorem State.logC_ticking (s : State) (c u a : Nat) : (s.logC c u a).ticking = s.ticking := by
  unfold State.logC State.logX State.logItem
  split <;> rfl

theorem State.clamped_ticking (s : State) : s.clamped.ticking = s.ticking :=
  (State.logC_ticking _ _ _ _).trans ((State.raise_ticking _ _ _).trans rfl)

theorem State.slewDone_ticking (s : State) : s.slewDone.ticking = s.ticking := by
  unfold State.slewDone
  split
  · exact (s.putB_only _ _).ticking
  · rfl

/-- A tick of the time base is counted; no trigger moves and nothing reaches the ring. -/
theorem State.tbTick_ticking (s : State) : s.tbTick.ticking = (s.tb.ticks + 1, s.trigs, s.log.ring) := by
  unfold State.tbTick
  extract_lets raw eff cl s1 coarse add left s2 s3 s4
  have h1 : s1.ticking = s.ticking :=
    iff_stable (P := fun t => t.ticking = s.ticking) _ _ _ rfl fun t h => t.clamped_ticking.trans h
  have h2 : s2.ticking = (s.tb.ticks + 1, s.trigs, s.log.ring) := by
    simp only [State.ticking, Prod.mk.injEq] at h1
    simp only [s2, State.ticking, State.modTb, h1]
  have h3 : s3.ticking = s2.ticking := State.slewDone_ticking _
  split
  · exact h3.trans h2
  · exact h3.trans h2

/-- Settles O42: an idle step is a tick by definition, and which part of the device ticks is a case of the tick. -/
theorem idleStepTicks : Obligations.IdleStepTicks := by
  refine ⟨?idle, ?porst, ?stopped, ?sysRst⟩
  case idle =>
    intro s hpend
    rw [step, hpend]
  case porst =>
    intro s hporst
    rw [State.tick, if_pos (by simp [hporst])]
  case stopped =>
    intro s hclock
    rw [State.tick, if_pos (by simp [hclock])]
  case sysRst =>
    intro s hporst hclock hsys
    have htick : s.tick = s.tbTick := by rw [State.tick, if_neg (by simp [hporst, hclock]), if_pos hsys]
    have hticking := s.tbTick_ticking
    simp only [State.ticking, Prod.mk.injEq] at hticking
    rw [htick]
    exact ⟨rfl, hticking⟩

end Sys2Proof.Machine
end

section
/-!
PROOF. The resets from the balls, by request and by the watchdog (R68 to R71, R460).
-/

namespace Sys2Proof.Machine

open Reg

section Exec
variable (s : State)

theorem exec_sysRstAssert : exec .sysRstAssert s = .next (s.sysReset 1) := rfl
theorem exec_systemResetRelease : exec .systemResetRelease s =
    if !s.power.sysRst then .next s
    else .next ((s.modPower (fun p => ⟨p.porst, false, true, false, s.tb.ticks⟩)).showCap) := rfl
theorem exec_porstRelease (mode : Fin 4) (f : Bool) : exec (.porstRelease mode f) s =
    if !s.power.porst then .next s
    else .next ((((((s.modPower (fun _ => ⟨false, false, true, false, s.tb.ticks⟩)).modMc (fun m =>
      { m with shadow := m.otp })).sampleStraps mode f).loadRepair).showOtp).showCap) := rfl
theorem exec_sysResetRequest (m : Fin 3) : exec (.sysResetRequest m) s =
    if !s.reaches m then .next (s.unreached m)
    else if m.val = 0 then .next (s.sysReset 2) else .next (s.badAccess m GLOBAL_RESET_CTRL 3) := rfl
theorem exec_mcResetRequest (m : Fin 3) : exec (.mcResetRequest m) s =
    if !s.reaches m then .next (s.unreached m)
    else if m.val = 0 then .next (s.mcReset 5) else .next (s.badAccess m GLOBAL_RESET_CTRL 3) := rfl
theorem exec_mcWatchdogExpiry : exec .mcWatchdogExpiry s = execMcWatchdogExpiry s := rfl

end Exec

section Resets
variable {s : State} {c : Nat}

/-- The causes that a new system reset joins: those of an MC reset that it takes over (R70, R71). -/
def State.causesBefore (s : State) : Nat :=
  if s.power.mcDown && decide (s.get ⟨GLOBAL_RESET_CAUSE, 0, 6⟩ % 8 = 0) then s.get ⟨GLOBAL_RESET_CAUSE, 0, 6⟩ else 0

theorem State.sysReset_begins (hp : s.power.porst = false) (hs : s.power.sysRst = false) : s.sysReset c =
    (s.sysHeld.setCause (Nat.lor s.causesBefore (2 ^ c))).put GLOBAL_RESET_CAUSE_SYS_COUNT
      (min 0xFFFF ((s.sysHeld.setCause (Nat.lor s.causesBefore (2 ^ c))).get GLOBAL_RESET_CAUSE_SYS_COUNT + 1)) := by
  rw [State.sysReset, if_neg (by simp [hp]), if_neg (by simp [hs])]
  rfl

theorem State.sysReset_joins (hp : s.power.porst = false) (hs : s.power.sysRst = true) :
    s.sysReset c = s.setCause (Nat.lor (s.get ⟨GLOBAL_RESET_CAUSE, 0, 6⟩) (2 ^ c)) := by
  rw [State.sysReset, if_neg (by simp [hp]), if_pos hs]

/-- What a system reset that no other reset holds keeps and takes: the parts of the held device. -/
theorem State.sysReset_parts (hp : s.power.porst = false) (hs : s.power.sysRst = false) :
    (s.sysReset c).power = ⟨false, true, true, false, s.power.releaseTick⟩ ∧
    (s.sysReset c).tb = { s.tb with ppsActive := false, ppsIdle := none } ∧
    (s.sysReset c).log = ⟨s.log.queue, s.log.ring, [], 0⟩ ∧ (s.sysReset c).mc = s.mc.kept ∧
    (s.sysReset c).dlv = [] ∧ (s.sysReset c).trigs = [] ∧ (s.sysReset c).phy = [] ∧
    (s.sysReset c).pending = s.pending :=
  have h := s.sysReset_only c hp hs
  ⟨h.power, h.tb, h.log, h.mc, h.dlv, h.trigs, h.phy, h.pending⟩

end Resets

/-- Settles O1: a command starts, joins, refuses or ends a reset by the resets in progress and by its master. -/
theorem resetsComplete : Obligations.ResetsComplete := by
  refine ⟨fun _ => rfl, ?porstRelease, ?sysBegins, ?sysJoins, ?release, ?sysRequest, ?sysRefused, ?mcRequest, ?mcRefused,
    ?watchdog, ?sysParts, ?mcParts⟩
  case porstRelease =>
    intro s mode f hporst
    rw [exec_porstRelease, if_neg (by simp [hporst])]
  case sysBegins =>
    intro s hporst hsys
    rw [exec_sysRstAssert, State.sysReset_begins hporst hsys]
    rfl
  case sysJoins =>
    intro s hporst hsys
    rw [exec_sysRstAssert, State.sysReset_joins hporst hsys]
    rfl
  case release =>
    intro s hsys
    rw [exec_systemResetRelease, if_neg (by simp [hsys])]
  case sysRequest =>
    intro s hheld
    rw [exec_sysResetRequest, if_neg (by simp [State.reaches_mc hheld])]
    rfl
  case sysRefused =>
    intro s m hreaches hm
    rw [exec_sysResetRequest, if_neg (by simp [hreaches])]
    exact if_neg (Fin.val_ne_of_ne hm)
  case mcRequest =>
    intro s hheld
    rw [exec_mcResetRequest, if_neg (by simp [State.reaches_mc hheld])]
    rfl
  case mcRefused =>
    intro s m hreaches hm
    rw [exec_mcResetRequest, if_neg (by simp [hreaches])]
    exact if_neg (Fin.val_ne_of_ne hm)
  case watchdog =>
    intro s hheld hfw hdown hdebug htime
    rw [exec_mcWatchdogExpiry, execMcWatchdogExpiry, if_neg (by simp [hheld, hfw, hdown, hdebug]; omega)]
  case sysParts =>
    intro s c hc hporst hsys hdown
    obtain ⟨hpower, htb, hlog, hmc, hkept⟩ := State.sysReset_parts (c := c) hporst hsys
    rw [hpower, htb, hlog, hmc, s.sysReset_cause c hc hporst hsys hdown]
    exact ⟨rfl, rfl, rfl, rfl, rfl, rfl, rfl, rfl, rfl, hkept⟩
  case mcParts =>
    intro s c hc hporst hsys hdown
    obtain ⟨hoff, hfw, hkey⟩ := s.mcReset_mc c hporst hsys hdown
    have hplane := s.mcReset_plane c
    simp only [State.plane, Prod.mk.injEq] at hplane
    obtain ⟨htb, hphy, htrigs, hdlv, hstreams, hflash, hotp⟩ := hplane
    exact ⟨hoff, hfw, hkey, s.mcReset_cause c hc hporst hsys hdown, htb, hphy, htrigs, hdlv, hstreams, hflash, hotp⟩

end Sys2Proof.Machine
end

section
/-!
PROOF. The PLLs, holdover and the droop response (R53 to R67).
-/

namespace Sys2Proof.Machine

open Reg

section Exec
variable (s : State)

theorem exec_pllLossOfLock (i : Fin 16) : exec (.pllLossOfLock i) s = execPllLossOfLock i s := rfl
theorem exec_pllLocked (i : Fin 16) : exec (.pllLocked i) s =
    if s.power.porst then .next s else .next (s.setLock i true) := rfl
theorem exec_tbHoldoverEntry : exec .tbHoldoverEntry s =
    if !s.flag TB_CTRL_REF_SEL || s.flag GLOBAL_PLL_STATUS_TB_HOLDOVER then .next s
    else .next (((s.putB GLOBAL_PLL_STATUS_TB_HOLDOVER true).raise 11 GLOBAL_EVENTS_TB_HOLDOVER).logC 0x9120 noUnit 0) := rfl
theorem exec_tbRelock : exec .tbRelock s =
    if s.held then .next s else .next (s.putB GLOBAL_PLL_STATUS_TB_RELOCK true) := rfl
theorem exec_tbRelockComplete : exec .tbRelockComplete s =
    if !s.flag GLOBAL_PLL_STATUS_TB_RELOCK then .next s
    else .next ((s.putB GLOBAL_PLL_STATUS_TB_RELOCK false).putB GLOBAL_PLL_STATUS_TB_HOLDOVER false) := rfl
theorem exec_tbCoarseExit : exec .tbCoarseExit s =
    if !s.flag TB_STATUS_COARSE || !s.pllLocked 4 then .next s
    else .next ((s.putB TB_STATUS_COARSE false).modTb (fun t => { t with coarseTick := 0 })) := rfl
theorem exec_droopDetect : exec .droopDetect s =
    if s.held || !s.flag GLOBAL_DROOP_CTRL_ENABLE || s.flag GLOBAL_DROOP_STATUS_HALVED then .next s
    else .next ((s.iff (!s.flag GLOBAL_DROOP_CTRL_FORCE) (fun x => x.putB GLOBAL_DROOP_STATUS_FORCED false)).halve) := rfl
theorem exec_droopRestore : exec .droopRestore s =
    if !s.flag GLOBAL_DROOP_STATUS_HALVED || decide (s.tb.ticks < s.droop.minEnd) then .next s
    else .next ((s.putB GLOBAL_DROOP_STATUS_HALVED false).putB GLOBAL_DROOP_CTRL_FORCE false) := rfl
theorem exec_droopForce : exec .droopForce s = if s.held then .next s else .next s.forceHalve := rfl
theorem exec_droopBudgetExceeded : exec .droopBudgetExceeded s = execDroopBudgetExceeded s := rfl
theorem exec_droopWindowEnd : exec .droopWindowEnd s = execDroopWindowEnd s := rfl

end Exec

/-! ### PLLs -/

/-- Settles O2: what a loss does is a case of the PLL; the other commands act where their condition holds. -/
theorem pllsComplete : Obligations.PllsComplete := by
  refine ⟨?mgmt, ?clocks, ?tb, ?sill, ?pcie, ?ddr, ?locked, ?lockedDdr, ?holdover, ?relock, ?relocked, ?coarse⟩
  case mgmt =>
    intro s i hporst hlock hi
    rw [exec_pllLossOfLock, execPllLossOfLock, if_neg (by simp [hporst, hlock]), hi]
    rfl
  case clocks =>
    intro s i hporst hlock hi
    rw [exec_pllLossOfLock, execPllLossOfLock, if_neg (by simp [hporst, hlock])]
    rcases hi with hi | hi | hi <;> rw [hi] <;> rfl
  case tb =>
    intro s i hporst hlock hi
    rw [exec_pllLossOfLock, execPllLossOfLock, if_neg (by simp [hporst, hlock]), hi]
    rfl
  case sill =>
    intro s i hporst hlock hi
    rw [exec_pllLossOfLock, execPllLossOfLock, if_neg (by simp [hporst, hlock]), hi]
    rfl
  case pcie =>
    intro s i hporst hlock hi
    rw [exec_pllLossOfLock, execPllLossOfLock, if_neg (by simp [hporst, hlock])]
    rcases hi with hi | hi <;> rw [hi] <;> rfl
  case ddr =>
    intro s i hporst hlock hi
    obtain ⟨k, hk⟩ := Nat.exists_eq_add_of_le' hi
    rw [exec_pllLossOfLock, execPllLossOfLock, if_neg (by simp [hporst, hlock]), hk]
    rfl
  case locked =>
    intro s i hporst hi
    rw [exec_pllLocked, if_neg (by simp [hporst]), State.setLock, if_pos hi]
  case lockedDdr =>
    intro s i hporst hi
    rw [exec_pllLocked, if_neg (by simp [hporst]), State.setLock, if_neg (by omega)]
  case holdover =>
    intro s hsel hclear
    rw [exec_tbHoldoverEntry, if_neg (by simp [hsel, hclear])]
  case relock =>
    intro s hheld
    rw [exec_tbRelock, if_neg (by simp [hheld])]
  case relocked =>
    intro s hrelock
    rw [exec_tbRelockComplete, if_neg (by simp [hrelock])]
  case coarse =>
    intro s hcoarse hlock
    rw [exec_tbCoarseExit, if_neg (by simp [hcoarse, hlock])]

/-! ### Droop -/

section Droop
variable {s : State}

/-- A force shows in FORCE and FORCED (R67). -/
def State.forceShown (s : State) : State := (s.putB GLOBAL_DROOP_CTRL_FORCE true).putB GLOBAL_DROOP_STATUS_FORCED true

theorem State.flag_halved_forceShown (s : State) :
    s.forceShown.flag GLOBAL_DROOP_STATUS_HALVED = s.flag GLOBAL_DROOP_STATUS_HALVED := by
  rw [State.forceShown, State.flag_putB_apart _ _ (by decide) (by decide), State.flag_putB_apart _ _ (by decide) (by decide)]

theorem State.droopHold_forceShown (s : State) : s.forceShown.droopHold = s.droopHold := by
  rw [State.droopHold, State.forceShown, State.get_putB_apart _ _ (by decide) (by decide),
    State.get_putB_apart _ _ (by decide) (by decide), State.droopHold]

/-- A force halves, unless a halving is in progress, which it extends (R67). -/
theorem State.forceHalve_eq (s : State) : s.forceHalve =
    if s.flag GLOBAL_DROOP_STATUS_HALVED then
      s.forceShown.modDroop (fun d => { d with minEnd := max d.minEnd (s.tb.ticks + s.droopHold) })
    else s.forceShown.halve := by
  rw [← s.flag_halved_forceShown, ← s.droopHold_forceShown]
  rfl

/-- A window of the budget that has run its length ends: DROOP_OVER clears where the window stayed within the budget, and
the next window begins (R65). -/
theorem exec_droopWindowEnd_due (hon : s.droop.winOn = true) (hdue : s.droop.winFrom + s.droopW ≤ s.tb.ticks) :
    exec .droopWindowEnd s = .next ((s.iff (!s.droop.winOver &&
        decide (s.droop.winHalved ≤ s.get GLOBAL_DROOP_BUDGET_BUDGET) && s.flag GLOBAL_DROOP_STATUS_DROOP_OVER)
      (fun x => (x.putB GLOBAL_DROOP_STATUS_DROOP_OVER false).modDroop
        (fun d => { d with lastOver := some s.tb.ticks }))).modDroop
      (fun d => { d with winHalved := 0, winOver := false, winFrom := d.winFrom + s.droopW })) := by
  rw [exec_droopWindowEnd, execDroopWindowEnd, if_neg (by simp [hon]; omega)]
  rfl

end Droop

/-- Settles O3: each command acts where its condition holds; a force halves, or extends the halving in progress. -/
theorem droopComplete : Obligations.DroopComplete := by
  refine ⟨?detect, ?restore, ?exceeded, ?within, ?stays, ?force, ?extend⟩
  case detect =>
    intro s hheld henable hhalved
    rw [exec_droopDetect, if_neg (by simp [hheld, henable, hhalved])]
  case restore =>
    intro s hhalved hend
    rw [exec_droopRestore, if_neg (by simp [hhalved]; omega)]
  case exceeded =>
    intro s hon hfirst hbudget
    rw [exec_droopBudgetExceeded, execDroopBudgetExceeded, if_neg (by simp [hon, hfirst]; omega)]
  case within =>
    intro s hon hdue hfirst hbudget hover
    rw [exec_droopWindowEnd_due hon hdue, State.iff_true _ _ (by simp [hfirst, hbudget, hover])]
  case stays =>
    intro s hon hdue hover
    rw [exec_droopWindowEnd_due hon hdue, State.iff_false]
    simp only [Bool.and_eq_false_iff, Bool.not_eq_false', decide_eq_false_iff_not, Nat.not_le]
    tauto
  case force =>
    intro s hheld hhalved
    rw [exec_droopForce, if_neg (by simp [hheld]), State.forceHalve_eq, hhalved]
    rfl
  case extend =>
    intro s hheld hhalved
    rw [exec_droopForce, if_neg (by simp [hheld]), State.forceHalve_eq, if_pos hhalved]
    rfl

end Sys2Proof.Machine
end

section
/-!
PROOF. The commands of the management controller: sensors and regulators, the event log, messages on the Sill, trials and
the identity key (R444, R458 to R480, R523).
-/

namespace Sys2Proof.Machine

open Reg

section Exec
variable (s : State)

theorem exec_sensorPublish (temps volts : List Nat) :
    exec (.sensorPublish temps volts) s = execSensorPublish temps volts s := rfl
theorem exec_thermalTrip : exec .thermalTrip s =
    if s.power.porst then .next s else .next ((s.raise 11 MC_EVENTS_TRIPPED).sysReset 2) := rfl
theorem exec_voltOut (m : Fin 16) (mv : Fin 65536) : exec (.voltOut m mv) s =
    if s.held then .next s
    else .next ((s.raise 11 MC_EVENTS_VOLT_OUT).iff s.fwRuns (fun x => x.logOnce 0x9210 m noUnit (m * 65536 + mv))) := rfl
theorem exec_pmbusPoll (ans : List (Option PmbReading)) : exec (.pmbusPoll ans) s = execPmbusPoll ans s := rfl
theorem exec_pmbAlert (st : List Nat) : exec (.pmbAlert st) s = execPmbAlert st s := rfl
theorem exec_logWrite : exec .logWrite s = execLogWrite s := rfl
theorem exec_logLimitIntervalEnd (code item : Nat) :
    exec (.logLimitIntervalEnd code item) s = execLogLimitIntervalEnd code item s := rfl
theorem exec_logFlashCopy : exec .logFlashCopy s = execLogFlashCopy s := rfl
theorem exec_mgmtFrameReceive (p : Fin 4) (bs : List (Bool × Block)) :
    exec (.mgmtFrameReceive p bs) s = execMgmtFrameReceive p bs s := rfl
theorem exec_trialConfirm : exec .trialConfirm s = execTrialConfirm s := rfl
theorem exec_identityKeyReady : exec .identityKeyReady s = execIdentityKeyReady s := rfl

end Exec

/-! ### The log -/

section Log
variable {s : State} {code item : Nat} {l : Limiter}

/-- A limiter that is found does nothing before its second has passed (R523). -/
theorem exec_logLimitIntervalEnd_early (hl : s.log.limiters.find? (fun (x : Limiter) => x.isFor code item) = some l)
    (hearly : s.tb.ticks < l.since + 1000000000) : exec (.logLimitIntervalEnd code item) s = .next s := by
  rw [exec_logLimitIntervalEnd, execLogLimitIntervalEnd, hl]
  exact if_pos hearly

/-- Once the second has passed, what happens depends on whether the limiter withheld anything (R523). -/
theorem exec_logLimitIntervalEnd_due (hl : s.log.limiters.find? (fun (x : Limiter) => x.isFor code item) = some l)
    (hdue : l.since + 1000000000 ≤ s.tb.ticks) : exec (.logLimitIntervalEnd code item) s =
      if l.count = 0 then
        .next (s.modLog (fun g => { g with limiters := g.limiters.filter (fun (x : Limiter) => !x.isFor code item) }))
      else .next ((s.logX code l.unit (limArg l.counted l.count l.arg) l.exts).modLog (fun g => { g with
        limiters := g.limiters.map (fun (m : Limiter) => if m.isFor code item then { m with
          count := 0, since := (s.logX code l.unit (limArg l.counted l.count l.arg) l.exts).tb.ticks } else m) })) := by
  rw [exec_logLimitIntervalEnd, execLogLimitIntervalEnd, hl]
  exact if_neg (Nat.not_lt.2 hdue)

end Log

/-! ### Messages on the Sill -/

section Mgmt
variable {s : State} {p : Fin 4} {bs : List (Bool × Block)}

/-- The bytes of a message in its data blocks, seven in each (R444). -/
def mgmtMsg (bs : List (Bool × Block)) : List Byte :=
  ((bs.drop 1).flatMap (fun (b : Bool × Block) => (blockBytes b.2).take 7)).take (fByte bs 0 5)

/-- A relay may count a dropped message; the node keeps its number. -/
theorem State.nodeId_sillTx (s : State) (p : Nat) {f : SillTx} (hf : f.isEvent = false) : (s.sillTx p f).nodeId = s.nodeId := by
  simp only [State.sillTx, hf, Bool.false_and, Bool.false_eq_true, if_false]
  split
  · have hoff : SILL_CFG_NODE_ID.off ≠ SILL_CNT_MGMT_DROP p := by
      simp only [SILL_CFG_NODE_ID, SILL_CFG, SILL_CNT_MGMT_DROP]
      omega
    rw [State.nodeId, State.get, s.bump_rdN_ne hoff]
    rfl
  · rfl

theorem State.nodeId_sillSendRole (s : State) (role : Nat) {f : SillTx} (hf : f.isEvent = false) :
    (s.sillSendRole role f).nodeId = s.nodeId :=
  foldl_stable (P := fun x => x.nodeId = s.nodeId) _ _ s rfl fun x p h => (x.nodeId_sillTx p hf).trans h

theorem State.nodeId_sillUp (s : State) {f : SillTx} (hf : f.isEvent = false) : (s.sillUp f).nodeId = s.nodeId := by
  unfold State.sillUp
  split
  · exact s.nodeId_sillSendRole 2 hf
  · split
    · exact s.nodeId_sillSendRole 3 hf
    · split
      · exact s.nodeId_sillTx _ hf
      · rfl

theorem State.nodeId_sillRelay (s : State) (p : Nat) {f : SillTx} (hf : f.isEvent = false) :
    (s.sillRelay p f).2.nodeId = s.nodeId := by
  unfold State.sillRelay
  split
  · split
    · exact s.nodeId_sillSendRole 2 hf
    · rfl
  · split
    · exact s.nodeId_sillSendRole 2 hf
    · split
      · exact s.nodeId_sillUp hf
      · rfl

/-- A whole MGMT frame on an active port is discarded on a failed CRC; else it is relayed, and delivered where this node
acts on it, runs firmware and is addressed (R444). -/
theorem exec_mgmtFrameReceive_of_frame (hframe : isFrame bs 0x70 (1 + ceilDiv (fByte bs 0 5) 7) = true)
    (hlen : fByte bs 0 5 ≠ 0) (hmax : fByte bs 0 5 ≤ 224) (hport : s.sillState p = 4) :
    exec (.mgmtFrameReceive p bs) s =
      if !frameOk bs then .next ((s.sillDiscard p).bump (SILL_CNT_MGMT_DROP p))
      else .next ((s.sillRelay p ⟨3, false, false, bs⟩).2.iff ((s.sillRelay p ⟨3, false, false, bs⟩).1 &&
          (s.sillRelay p ⟨3, false, false, bs⟩).2.fwRuns && (bit (fNum bs 0 1 2) 15 || fNum bs 0 1 2 % 1024 == s.nodeId))
        (fun x => x.mgmtDeliver (fNum bs 0 3 2) (mgmtMsg bs))) := by
  rw [exec_mgmtFrameReceive, execMgmtFrameReceive, if_neg (by simp [hframe, hlen, hport, hmax])]
  rfl

/-- A good frame that is relayed to the state `y`. -/
theorem exec_mgmtFrameReceive_of_relay {acts : Bool} {y : State}
    (hframe : isFrame bs 0x70 (1 + ceilDiv (fByte bs 0 5) 7) = true) (hlen : fByte bs 0 5 ≠ 0)
    (hmax : fByte bs 0 5 ≤ 224) (hport : s.sillState p = 4) (hok : frameOk bs = true)
    (hrelay : s.sillRelay p ⟨3, false, false, bs⟩ = (acts, y)) :
    exec (.mgmtFrameReceive p bs) s = .next (y.iff (acts && (y.fwRuns && (bit (fNum bs 0 1 2) 15 ||
      fNum bs 0 1 2 % 1024 == y.nodeId))) (fun x => x.mgmtDeliver (fNum bs 0 3 2) (mgmtMsg bs))) := by
  have hid : (s.sillRelay p ⟨3, false, false, bs⟩).2.nodeId = s.nodeId := s.nodeId_sillRelay p rfl
  rw [exec_mgmtFrameReceive_of_frame hframe hlen hmax hport, if_neg (by simp [hok]), ← hid, hrelay, Bool.and_assoc]

end Mgmt

/-! ### Trials -/

section Trial
variable {s x : State}

/-- A trial that is confirmed: the record is marked, the update is over, and the counter of the slot's kind advances where
the slot raises its floor (R480). -/
theorem exec_trialConfirm_confirms (hmay : s.mayConfirm = true) (hx : x = (((s.recMark 18).logC 0x8063 noUnit
    0).raise 11 MC_EVENTS_UPDATE_DONE).put MC_UPDATE_STATUS_STATE 0) : exec .trialConfirm s =
      if s.recByte 4 = 0 then
        .next (x.iff (x.mc.fwFloor && decide (x.fwCtr < x.mc.fwSec)) (fun y => (y.advance 0x420 y.mc.fwSec).romUpdate))
      else .next (x.iff (x.recDone 23 && decide (x.clCtr < x.mc.clSec)) (fun y => (y.advance 0x460 y.mc.clSec).romUpdate)) := by
  subst hx
  rw [exec_trialConfirm, execTrialConfirm, if_neg (by simp [hmay])]

end Trial

/-- Settles O31: each command acts where its condition holds, on what it finds in the log, the frame or the record. -/
theorem managementComplete : Obligations.ManagementComplete := by
  refine ⟨?sensor, ?sensorNone, ?trip, ?tripNone, ?volt, ?voltLogs, ?voltNone, ?poll, ?pollNone, ?alert, ?alertFaults,
    ?alertNone, ?write, ?writeNone, ?limIdle, ?limCounts, ?limEarly, ?limNone, ?copy, ?copyNone, ?mgmt, ?mgmtElse,
    ?mgmtPasses, ?mgmtBad, ?mgmtNone, ?trialFw, ?trialFwPlain, ?trialCl, ?trialClPlain, ?trialNone, ?key, ?keyNone⟩
  case sensor =>
    intro s temps volts a hheld ha
    subst ha
    rw [exec_sensorPublish, execSensorPublish, if_neg (by simp [hheld])]
  case sensorNone =>
    intro s temps volts hheld
    rw [exec_sensorPublish, execSensorPublish, if_pos hheld]
  case trip =>
    intro s hporst
    rw [exec_thermalTrip, if_neg (by simp [hporst])]
  case tripNone =>
    intro s hporst
    rw [exec_thermalTrip, if_pos hporst]
  case volt =>
    intro s m mv hheld hfw
    rw [exec_voltOut, if_neg (by simp [hheld]), State.iff_false _ _ hfw]
  case voltLogs =>
    intro s m mv hheld hfw
    rw [exec_voltOut, if_neg (by simp [hheld]), State.iff_true _ _ hfw]
  case voltNone =>
    intro s m mv hheld
    rw [exec_voltOut, if_pos hheld]
  case poll =>
    intro s ans hfw
    rw [exec_pmbusPoll, execPmbusPoll]
    exact if_neg (by simp [hfw])
  case pollNone =>
    intro s ans hfw
    rw [exec_pmbusPoll, execPmbusPoll, if_pos (by simp [hfw])]
  case alert =>
    intro s st x hheld hx hfw
    subst hx
    rw [exec_pmbAlert, execPmbAlert, if_neg (by simp [hheld])]
    exact if_pos (by simp [hfw])
  case alertFaults =>
    intro s st x hheld hx hfw
    subst hx
    rw [exec_pmbAlert, execPmbAlert, if_neg (by simp [hheld])]
    exact if_neg (by simp [hfw])
  case alertNone =>
    intro s st hheld
    rw [exec_pmbAlert, execPmbAlert, if_pos hheld]
  case write =>
    intro s i r hporst hq
    rw [exec_logWrite, execLogWrite, if_neg (by simp [hporst]), hq]
    rfl
  case writeNone =>
    intro s h
    rw [exec_logWrite, execLogWrite]
    rcases h with hporst | hq
    · rw [if_pos hporst]
    · rw [hq, ite_self]
  case limIdle =>
    intro s code item l hl hdue hcount
    rw [exec_logLimitIntervalEnd_due hl hdue, if_pos hcount]
  case limCounts =>
    intro s code item l x hl hdue hcount hx
    subst hx
    rw [exec_logLimitIntervalEnd_due hl hdue, if_neg hcount]
  case limEarly =>
    intro s code item l hl hearly
    exact exec_logLimitIntervalEnd_early hl hearly
  case limNone =>
    intro s code item hnone
    rw [exec_logLimitIntervalEnd, execLogLimitIntervalEnd, hnone]
  case copy =>
    intro s n hfw hn
    subst hn
    rw [exec_logFlashCopy, execLogFlashCopy, if_neg (by simp [hfw])]
  case copyNone =>
    intro s hfw
    rw [exec_logFlashCopy, execLogFlashCopy, if_pos (by simp [hfw])]
  case mgmt =>
    intro s p bs y hframe hlen hmax hport hok hrelay hacts
    rw [exec_mgmtFrameReceive_of_relay hframe hlen hmax hport hok hrelay, State.iff_true _ _ (by rw [hacts]; rfl), mgmtMsg]
  case mgmtElse =>
    intro s p bs y hframe hlen hmax hport hok hrelay hacts
    rw [exec_mgmtFrameReceive_of_relay hframe hlen hmax hport hok hrelay, State.iff_false _ _ (by rw [hacts]; rfl)]
  case mgmtPasses =>
    intro s p bs y hframe hlen hmax hport hok hrelay
    rw [exec_mgmtFrameReceive_of_relay hframe hlen hmax hport hok hrelay, State.iff_false _ _ (Bool.false_and _)]
  case mgmtBad =>
    intro s p bs hframe hlen hmax hport hbad
    rw [exec_mgmtFrameReceive_of_frame hframe hlen hmax hport, if_pos (by simp [hbad])]
  case mgmtNone =>
    intro s p bs h
    rw [exec_mgmtFrameReceive, execMgmtFrameReceive]
    exact if_pos (by simpa [or_assoc] using h)
  case trialFw =>
    intro s x hmay hkind hx hraises
    rw [exec_trialConfirm_confirms hmay hx, if_pos hkind, State.iff_true _ _ hraises]
  case trialFwPlain =>
    intro s x hmay hkind hx hplain
    rw [exec_trialConfirm_confirms hmay hx, if_pos hkind, State.iff_false _ _ hplain]
  case trialCl =>
    intro s x hmay hkind hx hraises
    rw [exec_trialConfirm_confirms hmay hx, if_neg hkind, State.iff_true _ _ hraises]
  case trialClPlain =>
    intro s x hmay hkind hx hplain
    rw [exec_trialConfirm_confirms hmay hx, if_neg hkind, State.iff_false _ _ hplain]
  case trialNone =>
    intro s hmay
    rw [exec_trialConfirm, execTrialConfirm, if_pos (by simp [hmay])]
  case key =>
    intro s b hfw hready hstage hb
    have hopen : (decide (s.get GLOBAL_BOOT_STATUS_STAGE < 3) && !s.clCommit) = false := by
      rcases hstage with h | h
      · simp [Nat.not_lt.2 h]
      · simp [h]
    rw [exec_identityKeyReady, execIdentityKeyReady, if_neg (by simp [hfw, hready, hopen]), hb]
  case keyNone =>
    intro s h
    rw [exec_identityKeyReady, execIdentityKeyReady, if_pos (by simpa [or_assoc] using h)]

end Sys2Proof.Machine
end

section
/-!
PROOF. The one-time memory: programming sets bits and clears none, and only the commands that program it touch it (R91).
-/

namespace Sys2Proof.Machine

/-! ### Tables read and written over a range -/

theorem cgetN_cset_of_lt {α : Type} [DecidableEq α] (d : Nat → α) (t : List (Nat × α)) {a b : Nat} (v : α) (n : Nat)
    (h : b < a) : cgetN d (cset d t b v) a n = cgetN d t a n := by
  induction n generalizing a with
  | zero => rfl
  | succ n ih => rw [cgetN, cgetN, cget_cset_ne d t v h.ne', ih (Nat.lt_succ_of_lt h)]

/-- A bitwise OR into the bytes from `a` on keeps every bit of the table that is 1. -/
theorem cget_and_csetN_or (d : Nat → Byte) (t : List (Nat × Byte)) (a : Nat) (l : List Byte) (b : Nat) :
    cget d t b &&& cget d (csetN d t a (((cgetN d t a l.length).zip l).map fun x : Byte × Byte => x.1 ||| x.2)) b =
      cget d t b := by
  induction l generalizing t a with
  | nil => exact BitVec.and_self
  | cons v l ih =>
    have hrest := ih (cset d t a (cget d t a ||| v)) (a + 1)
    rw [cgetN_cset_of_lt d t _ _ (Nat.lt_succ_self a)] at hrest
    have hfirst : cget d t b &&& cget d (cset d t a (cget d t a ||| v)) b = cget d t b := by
      rw [cget_cset]
      split
      next hab => rw [hab]; ext i; simp +contextual
      next => exact BitVec.and_self
    rw [← hfirst, BitVec.and_assoc]
    exact congrArg _ hrest

/-! ### Bits of the OTP -/

theorem State.otpGrows_refl (s : State) : s.otpGrows s := fun _ => BitVec.and_self

theorem State.otpGrows.trans {s t u : State} (hst : s.otpGrows t) (htu : t.otpGrows u) : s.otpGrows u := by
  intro a
  rw [← hst a, BitVec.and_assoc, htu a]

theorem State.otpGrows_otpProg (s : State) (a : Nat) (l : List Byte) : s.otpGrows (s.otpProg a l) :=
  cget_and_csetN_or noBits s.mc.otp a l

theorem State.otpGrows_stable (s : State) : Stable s.otpGrows :=
  kept_stable fun k => ∀ a, s.otpByte a &&& cget noBits k.2.1 a = s.otpByte a

/-- A command clears no bit: programming the OTP sets bits, and both ends of a power-on reset keep them (R68, R91). -/
theorem exec_otpGrows (c : Instr) (s : State) : Answers s.otpGrows (exec c s) :=
  have hP := s.otpGrows_stable
  exec_stable hP (fun t a l h => h.trans (t.otpGrows_otpProg a l)) (fun t h => execPorstAssert_answers hP t h)
    (fun m f t h => execPorstRelease_answers hP m f t h h) c s s.otpGrows_refl

/-- Settles O46: an idle step ticks, which is made of elementary changes; a command clears no bit. -/
theorem otpBitsStayProgrammed : Obligations.OtpBitsStayProgrammed := by
  intro s t hstep
  unfold step at hstep
  split at hstep
  next =>
    cases hstep
    exact State.tick_stable s.otpGrows_stable s s.otpGrows_refl
  next c rest _ => exact (exec_otpGrows c { s with pending := rest }).of_next hstep

/-- Settles O48: no elementary change reaches the OTP, and a power-on reset keeps it. -/
theorem onlyOtpCommandsProgramOtp : Obligations.OnlyOtpCommandsProgramOtp := by
  intro c s t hprog hrevoke hconfirm hexec
  have hP : Stable (fun u => u.mc.otp = s.mc.otp) := kept_stable (fun k => k.2.1 = s.mc.otp)
  suffices h : Answers (fun u => u.mc.otp = s.mc.otp) (exec c s) from h.of_next hexec
  cases hc : Instr.special c with
  | false => exact exec_stable_of_not_special hP hc rfl
  | true =>
    cases c with
    | porstAssert => exact execPorstAssert_answers hP s rfl
    | porstRelease m f => exact execPorstRelease_answers hP m f s rfl rfl
    | otpProgramSlot p => exact absurd rfl (hprog p)
    | otpRevokeSlot p => exact absurd rfl (hrevoke p)
    | trialConfirm => exact absurd rfl hconfirm
    | _ => cases hc

end Sys2Proof.Machine
end

section
/-!
PROOF. The mailbox requests about streams, rings, cameras and outputs: what answers a request that is served, and that
nothing happens without one (R90, R176, R372, R393, R416 to R418, R498).
-/

namespace Sys2Proof.Machine

open Reg

section Exec
variable (s : State) (p : Fin 2)

theorem exec_mailboxBadOpcode : exec (.mailboxBadOpcode p) s =
    if s.atHead p && ((s.fwRuns && decide (s.reqOpcode p ∉ opcodes)) ||
        (s.recovering && decide (s.reqOpcode p ∉ bootOpcodes))) then .next (s.answerFree p rBadOpcode []) else .next s := rfl
theorem exec_getInfo : exec (.getInfo p) s =
    if !s.serves p 0x01 then .next s
    else .next (s.free.2.answerFree p rOk
      (toBytes 4 s.free.1 ++ toBytes 4 (s.get GLOBAL_BOOT_STATUS_STAGE) ++ toBytes 4 0x0100)) := rfl
theorem exec_streamOpen : exec (.streamOpen p) s = execStreamOpen p s := rfl
theorem exec_streamClose (st : Fin 256) : exec (.streamClose p st) s =
    if !s.serves p 0x11 then .next s
    else if !s.admitted st || (s.strm st).mbox.isNone then .next (s.answerFree p rBadArgs [])
    else .next ((s.closeStream st).romUpdate.answerFree p rOk []) := rfl
theorem exec_ringPost : exec (.ringPost p) s = execRingPost p s := rfl
theorem exec_ringWithdraw : exec (.ringWithdraw p) s = execRingWithdraw p s := rfl
theorem exec_cameraAccess (l : Fin 96) (op : Fin 4) (a v : Word) :
    exec (.cameraAccess p l op a v) s = execCameraAccess p l op a v s := rfl
theorem exec_outputHold : exec (.outputHold p) s = execOutputHold p s := rfl
theorem exec_outputResume : exec (.outputResume p) s = execOutputResume p s := rfl

end Exec

/-! ### A request at the head of the mailboxes -/

section Served
variable {s : State} {p : Fin 2}

/-- STREAM_OPEN judges the definition that its payload carries: its form, then the stream, then the device (R393, R498). -/
theorem exec_streamOpen_served (hserved : s.serves p 0x10 = true) (hready : s.flag GLOBAL_READMIT_PENDING = false) :
    exec (.streamOpen p) s =
      if s.reqLen p < 64 || !streamOk (s.payBytes p 0 64) || s.clDefines (bytesAt (s.payBytes p 0 64) 0 1) then
        .next (s.answerFree p rBadArgs [])
      else if s.admitted (bytesAt (s.payBytes p 0 64) 0 1) || (s.strm (bytesAt (s.payBytes p 0 64) 0 1)).closing then
        .next (s.answerFree p rInUse [])
      else if !s.clCommit then .next (s.answerFree p rRefused [])
      else match (s.admitStream (s.payBytes p 0 64) (some p.val)).2 with
        | .inl n => .next ((s.admitStream (s.payBytes p 0 64) (some p.val)).1.answer p rRefused n [])
        | .inr b => .next ((s.admitStream (s.payBytes p 0 64) (some p.val)).1.romUpdate.answer p rOk b []) := by
  rw [exec_streamOpen, execStreamOpen, if_neg (by simp [hserved])]
  exact if_neg (by simp [hready])

/-- A well-formed definition of a closed stream that is the mailbox's to open (R393). -/
structure State.mayOpen (s : State) (p : Fin 2) (d : List Byte) : Prop where
  served : s.serves p 0x10 = true
  payload : d = s.payBytes p 0 64
  ready : s.flag GLOBAL_READMIT_PENDING = false
  whole : 64 ≤ s.reqLen p
  formed : streamOk d = true
  own : s.clDefines (bytesAt d 0 1) = false

/-- Once CL_COMMIT is set, such a request is answered as the admission goes (R393). -/
theorem exec_streamOpen_admits {d : List Byte} (h : s.mayOpen p d) :
    exec (.streamOpen p) s =
      if s.admitted (bytesAt d 0 1) || (s.strm (bytesAt d 0 1)).closing then .next (s.answerFree p rInUse [])
      else if !s.clCommit then .next (s.answerFree p rRefused [])
      else match (s.admitStream d (some p.val)).2 with
        | .inl n => .next ((s.admitStream d (some p.val)).1.answer p rRefused n [])
        | .inr b => .next ((s.admitStream d (some p.val)).1.romUpdate.answer p rOk b []) := by
  obtain ⟨hserved, rfl, hready, hlen, hform, hown⟩ := h
  rw [exec_streamOpen_served hserved hready, if_neg (by simp [hlen, hform, hown])]

theorem exec_ringPost_served (hserved : s.serves p 0x12 = true) : exec (.ringPost p) s =
    if !s.postOk p then .next ((s.logC 0x5111 (s.payN p 0 1) 0).answerFree p rBadArgs [])
    else if s.flag (activeF (s.payN p 0 1) p) || (s.ring (s.payN p 0 1) p).withdraw then .next (s.answerFree p rInUse [])
    else .next ((s.postRing p).answerFree p rOk []) := by
  rw [exec_ringPost, execRingPost, if_neg (by simp [hserved])]

section Camera
variable {l : Fin 96} {op : Fin 4} {a v : Word}

/-- The camera's acknowledgement of the access that lane `l` waits for answers the request (R176). -/
theorem exec_cameraAccess_acked {k : GvcpCmd} {r : List GvcpCmd}
    (hacked : (s.ethUp l && s.gvcpIs l (10 + p.val) && decide (p.val ∈ s.mc.mboxLate)) = true)
    (hgvcp : (s.leth l).gvcp = k :: r) : exec (.cameraAccess p l op a v) s =
      if op.val = 0 then .next ((s.gvcpNext l).accessDone p rRefused [])
      else .next ((s.gvcpNext l).accessDone p rOk (if k.op == 1 then toBytes 4 v.toNat else [])) := by
  rw [exec_cameraAccess, execCameraAccess, if_pos hacked, hgvcp]

/-- Where none is waited for, the command is the request, which joins the lane's accesses (R176). -/
theorem exec_cameraAccess_request {x : State}
    (hnone : (s.ethUp l && s.gvcpIs l (10 + p.val) && decide (p.val ∈ s.mc.mboxLate)) = false)
    (hserved : s.serves p 0x20 = true)
    (hx : x = (s.modMc fun m => { m with
        mboxOrder := m.mboxOrder.filter (fun q => q != p), mboxLate := m.mboxLate ++ [p.val] }).modEth l fun x =>
      { x with access := x.access ++ [⟨10 + p.val, op.val, a.toNat, v.toNat⟩] }) :
    exec (.cameraAccess p l op a v) s =
      if s.persReg l ≤ 1 || op.val == 0 then .next (s.answerFree p rBadArgs [])
      else .next (x.iff (x.flag (ETH_STATUS_READY l)) fun x => x.accessGo l) := by
  rw [exec_cameraAccess, execCameraAccess, if_neg (by simp [hnone]), if_neg (by simp [hserved]), hx]

end Camera

theorem exec_outputHold_served (hserved : s.serves p 0x61 = true) : exec (.outputHold p) s =
    if s.notRunning then .next (s.answerFree p rRefused [])
    else if !s.outCommit then .next (s.answerFree p rOk [])
    else .next ((s.clearOutputs.logC 0x8074 noUnit 0).answerFree p rOk []) := by
  rw [exec_outputHold, execOutputHold, if_neg (by simp [hserved])]

theorem exec_outputResume_served (hserved : s.serves p 0x62 = true) : exec (.outputResume p) s =
    if s.notRunning then .next (s.answerFree p rRefused [])
    else if s.outCommit then .next (s.answerFree p rOk [])
    else .next ((s.setOutputs.logC 0x8075 noUnit 0).answerFree p rOk []) := by
  rw [exec_outputResume, execOutputResume, if_neg (by simp [hserved])]

end Served

/-- Settles O38: a request that is served is judged in order, and the first check that decides gives its answer. -/
theorem mailboxStreamsComplete : Obligations.MailboxStreamsComplete := by
  refine ⟨?badFw, ?badRom, ?badNone, ?info, ?infoNone, ?openOk, ?openRefused, ?openEarly, ?openInUse, ?openBadArgs,
    ?openBusy, ?openNone, ?close, ?closeBadArgs, ?closeNone, ?post, ?postInUse, ?postBadArgs, ?postNone, ?withdraw, ?withdrawBadArgs,
    ?withdrawNone, ?access, ?accessWaits, ?accessBadArgs, ?ackError, ?ackRead, ?ackWrite, ?accessNone, ?hold, ?holdIdle,
    ?holdRefused, ?holdNone, ?resume, ?resumeIdle, ?resumeRefused, ?resumeNone⟩
  case badFw =>
    intro s p hhead hfw hop
    rw [exec_mailboxBadOpcode, if_pos (by simp [hhead, hfw, hop])]
  case badRom =>
    intro s p hhead hrec hop
    rw [exec_mailboxBadOpcode, if_pos (by simp [hhead, hrec, hop])]
  case badNone =>
    intro s p h
    rw [exec_mailboxBadOpcode, if_neg]
    rcases h with hhead | ⟨hfw, hrec⟩
    · simp [hhead]
    · rcases hfw with hfw | hfw <;> rcases hrec with hrec | hrec <;> simp [hfw, hrec]
  case info =>
    intro s p hserved
    rw [exec_getInfo, if_neg (by simp [hserved])]
  case infoNone =>
    intro s p hunserved
    rw [exec_getInfo, if_pos (by simp [hunserved])]
  case openOk =>
    intro s p d st b hserved hd hst hready hlen hform hown hclosed hstill hcommit hadmit
    subst hst
    rw [exec_streamOpen_admits ⟨hserved, hd, hready, hlen, hform, hown⟩, if_neg (by simp [hclosed, hstill]),
      if_neg (by simp [hcommit]), hadmit]
  case openRefused =>
    intro s p d st n hserved hd hst hready hlen hform hown hclosed hstill hcommit hadmit
    subst hst
    rw [exec_streamOpen_admits ⟨hserved, hd, hready, hlen, hform, hown⟩, if_neg (by simp [hclosed, hstill]),
      if_neg (by simp [hcommit]), hadmit]
  case openEarly =>
    intro s p d st hserved hd hst hready hlen hform hown hclosed hstill hcommit
    subst hst
    rw [exec_streamOpen_admits ⟨hserved, hd, hready, hlen, hform, hown⟩, if_neg (by simp [hclosed, hstill]),
      if_pos (by simp [hcommit])]
  case openInUse =>
    intro s p d st hserved hd hst hready hlen hform hown hopen
    subst hst
    rw [exec_streamOpen_admits ⟨hserved, hd, hready, hlen, hform, hown⟩, if_pos (by simpa using hopen)]
  case openBadArgs =>
    intro s p d st hserved hd hst hready hbad
    subst hst hd
    rw [exec_streamOpen_served hserved hready, if_pos (by simpa [or_assoc] using hbad)]
  case openBusy =>
    intro s p hserved hpending
    rw [exec_streamOpen, execStreamOpen, if_neg (by simp [hserved])]
    exact if_pos hpending
  case openNone =>
    intro s p hunserved
    rw [exec_streamOpen, execStreamOpen, if_pos (by simp [hunserved])]
  case close =>
    intro s p st hserved hopen hmbox
    rw [exec_streamClose, if_neg (by simp [hserved]), if_neg (by simp [hopen, hmbox])]
  case closeBadArgs =>
    intro s p st hserved hbad
    rw [exec_streamClose, if_neg (by simp [hserved]), if_pos (by simpa using hbad)]
  case closeNone =>
    intro s p st hunserved
    rw [exec_streamClose, if_pos (by simp [hunserved])]
  case post =>
    intro s p hserved hok hidle hstays
    rw [exec_ringPost_served hserved, if_neg (by simp [hok]), if_neg (by simp [hidle, hstays])]
  case postInUse =>
    intro s p hserved hok huse
    rw [exec_ringPost_served hserved, if_neg (by simp [hok]), if_pos (by simpa using huse)]
  case postBadArgs =>
    intro s p hserved hbad
    rw [exec_ringPost_served hserved, if_pos (by simp [hbad])]
  case postNone =>
    intro s p hunserved
    rw [exec_ringPost, execRingPost, if_pos (by simp [hunserved])]
  case withdraw =>
    intro s p st x y hserved hst hactive hx hy
    subst hy hx hst
    rw [exec_ringWithdraw, execRingWithdraw, if_neg (by simp [hserved])]
    exact if_neg (by simp [hactive])
  case withdrawBadArgs =>
    intro s p hserved hidle
    rw [exec_ringWithdraw, execRingWithdraw, if_neg (by simp [hserved])]
    exact if_pos (by simp [hidle])
  case withdrawNone =>
    intro s p hunserved
    rw [exec_ringWithdraw, execRingWithdraw, if_pos (by simp [hunserved])]
  case access =>
    intro s p l op a v x hnone hserved hpers hop hx hready
    rw [exec_cameraAccess_request hnone hserved hx, if_neg (by simp [hop, Nat.lt_of_succ_le hpers]),
      State.iff_true _ _ hready]
  case accessWaits =>
    intro s p l op a v x hnone hserved hpers hop hx hready
    rw [exec_cameraAccess_request hnone hserved hx, if_neg (by simp [hop, Nat.lt_of_succ_le hpers]),
      State.iff_false _ _ hready]
  case accessBadArgs =>
    intro s p l op a v hnone hserved hbad
    rw [exec_cameraAccess_request hnone hserved rfl, if_pos (by simpa using hbad)]
  case ackError =>
    intro s p l op a v k r hacked hgvcp hop
    rw [exec_cameraAccess_acked hacked hgvcp, if_pos (by simp [hop])]
  case ackRead =>
    intro s p l op a v k r hacked hgvcp hop hread
    rw [exec_cameraAccess_acked hacked hgvcp, if_neg (by simpa using hop), if_pos (by simp [hread])]
  case ackWrite =>
    intro s p l op a v k r hacked hgvcp hop hwrite
    rw [exec_cameraAccess_acked hacked hgvcp, if_neg (by simpa using hop), if_neg (by simpa using hwrite)]
  case accessNone =>
    intro s p l op a v hnone hunserved
    rw [exec_cameraAccess, execCameraAccess, if_neg (by simp [hnone]), if_pos (by simp [hunserved])]
  case hold =>
    intro s p hserved hruns hset
    rw [exec_outputHold_served hserved, if_neg (by simp [hruns]), if_neg (by simp [hset])]
  case holdIdle =>
    intro s p hserved hruns hclear
    rw [exec_outputHold_served hserved, if_neg (by simp [hruns]), if_pos (by simp [hclear])]
  case holdRefused =>
    intro s p hserved hstopped
    rw [exec_outputHold_served hserved, if_pos hstopped]
  case holdNone =>
    intro s p hunserved
    rw [exec_outputHold, execOutputHold, if_pos (by simp [hunserved])]
  case resume =>
    intro s p hserved hruns hclear
    rw [exec_outputResume_served hserved, if_neg (by simp [hruns]), if_neg (by simp [hclear])]
  case resumeIdle =>
    intro s p hserved hruns hset
    rw [exec_outputResume_served hserved, if_neg (by simp [hruns]), if_pos hset]
  case resumeRefused =>
    intro s p hserved hstopped
    rw [exec_outputResume_served hserved, if_pos hstopped]
  case resumeNone =>
    intro s p hunserved
    rw [exec_outputResume, execOutputResume, if_pos (by simp [hunserved])]

end Sys2Proof.Machine
end

section
/-!
PROOF. The mailbox requests about updates, trials and the one-time memory: what answers a request that is served, and that
nothing happens without one (R91, R478 to R486).
-/

namespace Sys2Proof.Machine

open Reg

section Exec
variable (s : State) (p : Fin 2)

theorem exec_imageBegin : exec (.imageBegin p) s = execImageBegin p s := rfl
theorem exec_imageChunk : exec (.imageChunk p) s = execImageChunk p s := rfl
theorem exec_imageEnd : exec (.imageEnd p) s = execImageEnd p s := rfl
theorem exec_cutlistTrial : exec (.cutlistTrial p) s =
    if !s.serves p 0x43 then .next s
    else if s.curRec.isNone || s.recByte 4 != 1 || !s.recDone 16 || s.recDone 17 then .next (s.answerFree p rRefused [])
    else .next (((s.activate 1 (s.recByte 5 % 2)).answerFree p rOk []).sysReset 2) := rfl
theorem exec_otpProgramSlot : exec (.otpProgramSlot p) s = execOtpProgramSlot p s := rfl
theorem exec_otpRevokeSlot : exec (.otpRevokeSlot p) s = execOtpRevokeSlot p s := rfl

end Exec

/-! ### Images -/

section Image
variable {s : State} {p : Fin 2}

/-- An IMAGE_BEGIN that firmware serves while no update, trial or image of the other port is in the way (R478). -/
structure State.mayBegin (s : State) (p : Fin 2) : Prop where
  served : s.servesImage p 0x40 = true
  running : s.recovering = false
  idle : s.get MC_UPDATE_STATUS_STATE ≠ 1
  untried : s.inTrial = false
  own : (s.get MC_UPDATE_STATUS_STATE ≠ 2 ∧ s.get MC_UPDATE_STATUS_STATE ≠ 3) ∨ s.get MC_UPDATE_STATUS_PORT = p.val

/-- The slot of a target that is in force: firmware's, the Cut List's, or a certificate's one place (R478). -/
def State.slotInForce (s : State) (tg : Nat) : Nat := match tg with
  | 0 => s.get GLOBAL_BOOT_STATUS_FW_SLOT
  | 1 => s.get GLOBAL_BOOT_STATUS_CL_SLOT
  | _ => 0

theorem State.slotInForce_of_le_one (s : State) {tg : Nat} (h : tg ≤ 1) : s.slotInForce tg =
    if tg = 0 then s.get GLOBAL_BOOT_STATUS_FW_SLOT else s.get GLOBAL_BOOT_STATUS_CL_SLOT := by
  rcases Nat.le_one_iff_eq_zero_or_eq_one.1 h with rfl | rfl <;> rfl

/-- Such a request begins an update in the slot that is not in force, unless an argument is out of range (R478). -/
theorem exec_imageBegin_of_mayBegin (h : s.mayBegin p) {tg prev slot : Nat} (htg : tg = s.payN p 0 1)
    (hprev : prev = s.slotInForce tg) (hslot : slot = if tg < 2 then 1 - prev else 0) : exec (.imageBegin p) s =
      if 2 < tg ∨ s.payN p 1 3 ≠ 0 ∨ (s.imageAt tg slot).2 < s.payN p 4 4 then .next (s.answerFree p rBadArgs [])
      else .next ((((s.recNew (recBytes tg slot prev (List.replicate 8 0xFF))).updBegin tg slot p (s.payN p 4 4)).logC
        0x8060 noUnit (tg * 65536 + slot)).answer p rOk slot []) := by
  obtain ⟨hserved, hrunning, hidle, huntried, hown⟩ := h
  have hfree : (s.get MC_UPDATE_STATUS_STATE == 1 || s.inTrial || ((s.get MC_UPDATE_STATUS_STATE == 2 ||
      s.get MC_UPDATE_STATUS_STATE == 3) && s.get MC_UPDATE_STATUS_PORT != p)) = false := by
    rcases hown with ⟨h2, h3⟩ | hport
    · simp [hidle, huntried, h2, h3]
    · simp [hidle, huntried, hport]
  subst hslot hprev htg
  rw [exec_imageBegin, execImageBegin, if_neg (by simp [hserved])]
  simp only [hrunning, hfree, Bool.false_eq_true, if_false]
  rfl

/-- The boot ROM in recovery takes firmware that fits SRAM, one image at a time (R484). -/
theorem exec_imageBegin_recovering (hserved : s.servesImage p 0x40 = true) (hrec : s.recovering = true) :
    exec (.imageBegin p) s =
      if s.get MC_UPDATE_STATUS_STATE = 1 then .next (s.answerFree p rInUse [])
      else if s.payN p 0 1 ≠ 0 ∨ s.payN p 1 3 ≠ 0 ∨ 462912 < s.payN p 4 4 then .next (s.answerFree p rBadArgs [])
      else .next ((s.updBegin 0 0 p (s.payN p 4 4)).answerFree p rOk []) := by
  rw [exec_imageBegin, execImageBegin, if_neg (by simp [hserved])]
  exact if_pos hrec

theorem exec_imageChunk_served (hserved : s.servesImage p 0x41 = true) : exec (.imageChunk p) s =
    if s.get MC_UPDATE_STATUS_STATE != 1 then .next (s.answerFree p rRefused [])
    else if s.get MC_UPDATE_STATUS_PORT != p then .next (s.answerFree p rInUse [])
    else if s.payN p 0 4 ≠ s.rdN MC_UPDATE_BYTES ∨ s.reqLen p - 4 < 1 ∨ 4076 < s.reqLen p - 4 ∨
        s.mc.updTotal < s.payN p 0 4 + (s.reqLen p - 4) then .next (s.answerFree p rBadArgs [])
    else .next (((if s.recovering then s.modMc (fun m => { m with recImg := m.recImg ++ s.payBytes p 4 (s.reqLen p - 4) })
        else s.flashWrite ((s.imageAt (s.get MC_UPDATE_STATUS_TARGET) (s.get MC_UPDATE_STATUS_SLOT)).1 + s.payN p 0 4)
          (s.payBytes p 4 (s.reqLen p - 4))).wrN MC_UPDATE_BYTES (s.rdN MC_UPDATE_BYTES + (s.reqLen p - 4))).answerFree p
            rOk []) := by
  rw [exec_imageChunk, execImageChunk, if_neg (by simp [hserved])]

/-- The port that began the update sends the chunks in order (R478). -/
theorem exec_imageChunk_inOrder {n : Nat} (hserved : s.servesImage p 0x41 = true) (hbegun : s.get MC_UPDATE_STATUS_STATE = 1)
    (hport : s.get MC_UPDATE_STATUS_PORT = p) (hn : n = s.reqLen p - 4) (hoff : s.payN p 0 4 = s.rdN MC_UPDATE_BYTES)
    (hsome : 1 ≤ n) (hmax : n ≤ 4076) (hfits : s.payN p 0 4 + n ≤ s.mc.updTotal) : exec (.imageChunk p) s =
      .next (((if s.recovering then s.modMc (fun m => { m with recImg := m.recImg ++ s.payBytes p 4 n })
        else s.flashWrite ((s.imageAt (s.get MC_UPDATE_STATUS_TARGET) (s.get MC_UPDATE_STATUS_SLOT)).1 + s.payN p 0 4)
          (s.payBytes p 4 n)).wrN MC_UPDATE_BYTES (s.rdN MC_UPDATE_BYTES + n)).answerFree p rOk []) := by
  subst hn
  rw [exec_imageChunk_served hserved, if_neg (by simp [hbegun]), if_neg (by simp [hport]), if_neg (by omega)]

theorem exec_imageEnd_served (hserved : s.servesImage p 0x42 = true) : exec (.imageEnd p) s =
    if s.get MC_UPDATE_STATUS_STATE != 1 then .next (s.answerFree p rRefused [])
    else if s.get MC_UPDATE_STATUS_PORT != p then .next (s.answerFree p rInUse [])
    else if s.rdN MC_UPDATE_BYTES ≠ s.mc.updTotal then .next (s.answerFree p rBadArgs [])
    else if s.recovering then
      if s.fwOk s.mc.recImg 462912 then .next (((s.put MC_UPDATE_STATUS_STATE 0).answerFree p rOk []).runImage s.mc.recImg)
      else .next (((s.put MC_UPDATE_STATUS_STATE 5).modMc (fun m => { m with recImg := [] })).answerFree p rAuth [])
    else if s.imageOk (s.get MC_UPDATE_STATUS_TARGET) (s.get MC_UPDATE_STATUS_SLOT) then
      .next ((s.imageGood (s.get MC_UPDATE_STATUS_TARGET) (s.get MC_UPDATE_STATUS_SLOT) (bit (s.payN p 0 1) 0)
        (bit (s.payN p 0 1) 1)).answerFree p rOk [])
    else .next ((s.put MC_UPDATE_STATUS_STATE 5).answerFree p rAuth []) := by
  rw [exec_imageEnd, execImageEnd, if_neg (by simp [hserved])]

end Image

/-! ### The one-time memory -/

section Otp
variable {s : State} {p : Fin 2} {k i : Nat}

/-- A well-formed request to program slot `i` of kind `k` is judged once it is authentic (R485, R486). -/
theorem exec_otpProgramSlot_formed (hserved : s.serves p 0x58 = true) (hop : s.payN p 6 1 ≠ 2)
    (hform : s.otpForm p 1 = true) (hk : k = s.payN p 7 1) (hi : i = s.payN p 8 1) : exec (.otpProgramSlot p) s = .next (
      if s.otpAuth p = true then
        if k = 4 then (s.otpProg 32 (s.payBytes p 56 (otpContent k))).otpDone p k i
        else if s.nextSlot k = otpSlots k then (s.logC 0x8053 noUnit 0).answerFree p rRefused []
        else if i ≠ s.nextSlot k then s.otpRefuse p rBadArgs
        else (s.otpProg (otpAddr k i) (s.payBytes p 56 (otpContent k) ++
          toBytes 4 (crc32c (s.payBytes p 56 (otpContent k))) ++ toBytes 4 1)).otpDone p k i
      else s.otpRefuse p rAuth) := by
  subst hk hi
  rw [exec_otpProgramSlot, execOtpProgramSlot, if_neg (by simp [hserved, hop]), if_neg (by simp [hform])]
  cases s.otpAuth p with
  | false => simp only [Bool.not_false, Bool.false_eq_true, if_false, if_true]
  | true => simp only [apply_ite Host.Outcome.next, Bool.not_true, Bool.false_eq_true, if_false, if_true]

/-- A well-formed request to revoke slot `i` of kind `k` is judged once it is authentic (R486). -/
theorem exec_otpRevokeSlot_formed (hserved : s.serves p 0x58 = true) (hop : s.payN p 6 1 = 2)
    (hform : s.otpForm p 2 = true) (hk : k = s.payN p 7 1) (hi : i = s.payN p 8 1) (hkind : k ≤ 1) : exec (.otpRevokeSlot p) s = .next (
      if s.otpAuth p = true then
        if otpSlots k ≤ i ∨ s.slotIs k i = .blank ∨ s.slotIs k i = .revoked then s.otpRefuse p rBadArgs
        else if k = 0 ∧ s.slotIs 0 i = .candidate ∧ (s.candidates 0).length = 1 then
          (s.logC 0x8052 noUnit 0).answerFree p rRefused []
        else (s.otpProg (otpAddr k i + otpSize k - 4) [2]).otpDone p k i
      else s.otpRefuse p rAuth) := by
  subst hk hi
  rw [exec_otpRevokeSlot, execOtpRevokeSlot, if_neg (by simp [hserved, hop]), if_neg (by simp [hform, hkind])]
  cases s.otpAuth p with
  | false => simp only [Bool.not_false, Bool.false_eq_true, if_false, if_true]
  | true => simp only [apply_ite Host.Outcome.next, Bool.not_true, Bool.false_eq_true, if_false, if_true]

end Otp

/-- Settles O40: a request that is served is judged in order, and the first check that decides gives its answer. -/
theorem mailboxUpdatesComplete : Obligations.MailboxUpdatesComplete := by
  refine ⟨?begin, ?beginCert, ?beginBadArgs, ?beginTooLong, ?beginInUse, ?beginRec, ?beginRecBadArgs, ?beginRecInUse,
    ?beginNone, ?chunk, ?chunkRec, ?chunkBadArgs, ?chunkInUse, ?chunkRefused, ?chunkNone, ?finish, ?finishRec,
    ?finishBadArgs, ?finishInUse, ?finishRefused, ?finishNone, ?trial, ?trialRefused, ?trialNone, ?progPolicy, ?prog,
    ?progBadSlot, ?progFull, ?progBadForm, ?progNone, ?revoke, ?revokeLast, ?revokeBadSlot, ?revokeBadForm, ?revokeNone⟩
  case begin =>
    intro s p tg prev slot hserved hrunning hidle huntried hown htg hkind hprev hslot hreserved hfits
    rw [exec_imageBegin_of_mayBegin ⟨hserved, hrunning, hidle, huntried, hown⟩ htg
      (hprev.trans (s.slotInForce_of_le_one hkind).symm)
      (hslot.trans (if_pos (Nat.lt_succ_of_le hkind)).symm), if_neg (by omega)]
  case beginCert =>
    intro s p tg prev slot hserved hrunning hidle huntried hown htg hkind hprev hslot hreserved hfits
    rw [exec_imageBegin_of_mayBegin ⟨hserved, hrunning, hidle, huntried, hown⟩ htg
      (hprev.trans (by rw [hkind]; rfl)) (hslot.trans (by rw [hkind]; rfl)), if_neg (by omega)]
  case beginBadArgs =>
    intro s p tg hserved hrunning hidle huntried hown htg hbad
    rw [exec_imageBegin_of_mayBegin ⟨hserved, hrunning, hidle, huntried, hown⟩ htg rfl rfl, if_pos (hbad.imp_right .inl)]
  case beginTooLong =>
    intro s p tg prev slot hserved hrunning hidle huntried hown htg hkind hprev hslot hlong
    rw [exec_imageBegin_of_mayBegin ⟨hserved, hrunning, hidle, huntried, hown⟩ htg
      (hprev.trans (s.slotInForce_of_le_one hkind).symm)
      (hslot.trans (if_pos (Nat.lt_succ_of_le hkind)).symm), if_pos (.inr (.inr hlong))]
  case beginInUse =>
    intro s p hserved hrunning hbusy
    rw [exec_imageBegin, execImageBegin, if_neg (by simp [hserved])]
    simp only [hrunning, Bool.false_eq_true, if_false]
    exact if_pos (by simpa [or_assoc] using hbusy)
  case beginRec =>
    intro s p hserved hrec hidle htg hreserved hfits
    rw [exec_imageBegin_recovering hserved hrec, if_neg hidle, if_neg (by simp [htg, hreserved, hfits])]
  case beginRecBadArgs =>
    intro s p hserved hrec hidle hbad
    rw [exec_imageBegin_recovering hserved hrec, if_neg hidle, if_pos hbad]
  case beginRecInUse =>
    intro s p hserved hrec hbusy
    rw [exec_imageBegin_recovering hserved hrec, if_pos hbusy]
  case beginNone =>
    intro s p hunserved
    rw [exec_imageBegin, execImageBegin, if_pos (by simp [hunserved])]
  case chunk =>
    intro s p n hserved hrunning hbegun hport hn hoff hsome hmax hfits
    rw [exec_imageChunk_inOrder hserved hbegun hport hn hoff hsome hmax hfits, if_neg (by simp [hrunning])]
  case chunkRec =>
    intro s p n hserved hrec hbegun hport hn hoff hsome hmax hfits
    rw [exec_imageChunk_inOrder hserved hbegun hport hn hoff hsome hmax hfits, if_pos hrec]
  case chunkBadArgs =>
    intro s p n hserved hbegun hport hn hbad
    subst hn
    rw [exec_imageChunk_served hserved, if_neg (by simp [hbegun]), if_neg (by simp [hport]), if_pos hbad]
  case chunkInUse =>
    intro s p hserved hbegun hport
    rw [exec_imageChunk_served hserved, if_neg (by simp [hbegun]), if_pos (by simpa using hport)]
  case chunkRefused =>
    intro s p hserved hidle
    rw [exec_imageChunk_served hserved, if_pos (by simpa using hidle)]
  case chunkNone =>
    intro s p hunserved
    rw [exec_imageChunk, execImageChunk, if_pos (by simp [hunserved])]
  case finish =>
    intro s p tg slot hserved hrunning hbegun hport hwhole htg hslot
    subst htg hslot
    rw [exec_imageEnd_served hserved, if_neg (by simp [hbegun]), if_neg (by simp [hport]), if_neg (not_not.2 hwhole),
      if_neg (by simp [hrunning]), apply_ite Host.Outcome.next]
  case finishRec =>
    intro s p hserved hrec hbegun hport hwhole
    rw [exec_imageEnd_served hserved, if_neg (by simp [hbegun]), if_neg (by simp [hport]), if_neg (not_not.2 hwhole),
      if_pos hrec, apply_ite Host.Outcome.next]
  case finishBadArgs =>
    intro s p hserved hbegun hport hpart
    rw [exec_imageEnd_served hserved, if_neg (by simp [hbegun]), if_neg (by simp [hport]), if_pos hpart]
  case finishInUse =>
    intro s p hserved hbegun hport
    rw [exec_imageEnd_served hserved, if_neg (by simp [hbegun]), if_pos (by simpa using hport)]
  case finishRefused =>
    intro s p hserved hidle
    rw [exec_imageEnd_served hserved, if_pos (by simpa using hidle)]
  case finishNone =>
    intro s p hunserved
    rw [exec_imageEnd, execImageEnd, if_pos (by simp [hunserved])]
  case trial =>
    intro s p hserved hrec hkind hwhole huntried
    rw [exec_cutlistTrial, if_neg (by simp [hserved]), if_neg (by simp [hrec, hkind, hwhole, huntried])]
  case trialRefused =>
    intro s p hserved hbad
    rw [exec_cutlistTrial, if_neg (by simp [hserved]), if_pos (by simpa [or_assoc] using hbad)]
  case trialNone =>
    intro s p hunserved
    rw [exec_cutlistTrial, if_pos (by simp [hunserved])]
  case progPolicy =>
    intro s p hserved hop hform hkind
    rw [exec_otpProgramSlot_formed hserved hop hform hkind.symm rfl, if_pos rfl]
  case prog =>
    intro s p k i hserved hop hform hk hi hkind hroom hnext
    rw [exec_otpProgramSlot_formed hserved hop hform hk hi, if_neg hkind, if_neg hroom, if_neg (not_not.2 hnext)]
  case progBadSlot =>
    intro s p k i hserved hop hform hk hi hkind hroom hother
    rw [exec_otpProgramSlot_formed hserved hop hform hk hi, if_neg hkind, if_neg hroom, if_pos hother]
  case progFull =>
    intro s p k i hserved hop hform hk hi hkind hfull
    rw [exec_otpProgramSlot_formed hserved hop hform hk hi, if_neg hkind, if_pos hfull]
  case progBadForm =>
    intro s p hserved hop hbad
    rw [exec_otpProgramSlot, execOtpProgramSlot, if_neg (by simp [hserved, hop]), if_pos (by simp [hbad])]
  case progNone =>
    intro s p h
    rw [exec_otpProgramSlot, execOtpProgramSlot, if_pos (by simpa using h)]
  case revoke =>
    intro s p k i hserved hop hform hk hi hkind hslot hblank hrevoked hspare
    have hkeeps : ¬(k = 0 ∧ s.slotIs 0 i = .candidate ∧ (s.candidates 0).length = 1) :=
      not_and_or.2 (hspare.imp_right not_and_or.2)
    rw [exec_otpRevokeSlot_formed hserved hop hform hk hi hkind,
      if_neg (not_or.2 ⟨Nat.not_le.2 hslot, not_or.2 ⟨hblank, hrevoked⟩⟩), if_neg hkeeps]
  case revokeLast =>
    intro s p k i hserved hop hform hk hi hkind hslot hblank hrevoked hanchor hcand hlast
    rw [exec_otpRevokeSlot_formed hserved hop hform hk hi hkind,
      if_neg (not_or.2 ⟨Nat.not_le.2 hslot, not_or.2 ⟨hblank, hrevoked⟩⟩),
      if_pos (And.intro hanchor (And.intro hcand hlast))]
  case revokeBadSlot =>
    intro s p k i hserved hop hform hk hi hkind hbad
    rw [exec_otpRevokeSlot_formed hserved hop hform hk hi hkind, if_pos hbad]
  case revokeBadForm =>
    intro s p hserved hop hbad
    rw [exec_otpRevokeSlot, execOtpRevokeSlot, if_neg (by simp [hserved, hop]), if_pos (by simpa using hbad)]
  case revokeNone =>
    intro s p h
    rw [exec_otpRevokeSlot, execOtpRevokeSlot, if_pos (by simpa using h)]

end Sys2Proof.Machine
end

section
/-!
PROOF. What the signal detectors of a lane find, and the expiries of a lane's waits (R104 to R107, R111, R119, R122).
-/

namespace Sys2Proof.Machine

open Reg

/-! ### The state of a lane, as its other status bits change -/

section LaneStatus
variable (s : State) (l : Nat)

/-- A status bit at or above bit 4 leaves STATE as it is. -/
theorem State.laneState_putB_status {f : Fld} (b : Bool) (hfits : f.fits) (hlo : 4 ≤ f.lo) :
    (s.putB f b).laneState l = s.laneState l :=
  s.get_putB_apart b hfits (.inr (.inl hlo))

theorem State.laneState_putB_los (b : Bool) : (s.putB (LANE_STATUS_LOS l) b).laneState l = s.laneState l :=
  s.laneState_putB_status l b (by simp [LANE_STATUS_LOS]) (by simp [LANE_STATUS_LOS])

theorem State.laneState_putB_lol (b : Bool) : (s.putB (LANE_STATUS_LOL l) b).laneState l = s.laneState l :=
  s.laneState_putB_status l b (by simp [LANE_STATUS_LOL]) (by simp [LANE_STATUS_LOL])

end LaneStatus

/-- Only a lane in TEST hears itself (R126). -/
theorem State.hearsSelf_of_laneState {s : State} {l n : Nat} (hst : s.laneState l = n) (hn : n ≠ 10) :
    s.hearsSelf l = false := by
  simp [State.hearsSelf, hst, hn]

section Exec
variable (s : State) (l : Fin 96)

theorem exec_losSet : exec (.losSet l) s =
    if s.flag (LANE_STATUS_LOS l) || s.hearsSelf l then .next s
    else .next (((s.putB (LANE_STATUS_LOS l) true).iff (s.laneState l != 7 && s.laneState l != 0)
      (fun x => x.bump (LANE_CNT_LOS l))).iff (s.laneState l == 6) (fun x => x.restart l 0x1103 0)) := rfl
theorem exec_losClear : exec (.losClear l) s = execLosClear l s := rfl
theorem exec_lolSet : exec (.lolSet l) s =
    if s.flag (LANE_STATUS_LOL l) then .next s
    else .next ((s.putB (LANE_STATUS_LOL l) true).iff ((s.putB (LANE_STATUS_LOL l) true).laneState l == 6)
      (fun x => x.restart l 0x1104 0)) := rfl
theorem exec_lolClear : exec (.lolClear l) s = .next (s.putB (LANE_STATUS_LOL l) false) := rfl
theorem exec_relockTimeout : exec (.relockTimeout l) s =
    if s.laneState l = 6 ∧ (s.lphy l).relock.isSome then .next (s.restart l 0x1104 0) else .next s := rfl
theorem exec_exitTimeout : exec (.exitTimeout l) s =
    if s.laneState l ≠ 8 then .next s
    else .next ((((s.laneEvent l 5).bump (LANE_CNT_EXITFAIL l)).logC 0x1108 l 0).restart l 0x110C 0) := rfl
theorem exec_absentWaitExpiry : exec (.absentWaitExpiry l) s =
    if s.laneState l ≠ 9 then .next s else .next (s.session l 5) := rfl
theorem exec_marginBurstEnd : exec (.marginBurstEnd l) s = .next (s.modPhy l (fun x => { x with burst := false })) := rfl

end Exec

section Los
variable {s : State} {l : Fin 96}

/-- LOS that begins shows, and is counted but in OFF and IDLE; in ACTIVE the lane starts anew (R105, R107). -/
theorem exec_losSet_begins (hlos : s.flag (LANE_STATUS_LOS l) = false) (hself : s.hearsSelf l = false) :
    exec (.losSet l) s = .next (((s.putB (LANE_STATUS_LOS l) true).iff (s.laneState l != 7 && s.laneState l != 0)
      (fun x => x.bump (LANE_CNT_LOS l))).iff (s.laneState l == 6) (fun x => x.restart l 0x1103 0)) := by
  rw [exec_losSet, hlos, hself, if_neg (by simp)]

/-- LOS that ends no longer shows; IDLE goes to WAKE and ABSENT starts a session (R105, R111, R122). -/
theorem exec_losClear_ends (hlos : s.flag (LANE_STATUS_LOS l) = true) (hself : s.hearsSelf l = false) :
    exec (.losClear l) s =
      if s.laneState l = 7 then .next (((s.putB (LANE_STATUS_LOS l) false).setLane l 8).clearLocks l)
      else if s.laneState l = 9 then .next ((s.putB (LANE_STATUS_LOS l) false).session l 5)
      else .next (s.putB (LANE_STATUS_LOS l) false) := by
  simp only [exec_losClear, execLosClear, hlos, hself, State.laneState_putB_los, Bool.not_true, Bool.or_self,
    Bool.false_eq_true, if_false]
  split
  · next h => rw [if_pos h]
  · next h => rw [if_neg (by omega), if_pos h]
  · next h7 h9 => rw [if_neg h7, if_neg h9]

end Los

/-- Settles O10: each detector and each expiry acts by the lane's state, and a lane that hears itself ignores LOS. -/
theorem laneDetectorsComplete : Obligations.LaneDetectorsComplete := by
  refine ⟨?los, ?losActive, ?losQuiet, ?losNone, ?clearIdle, ?clearAbsent, ?clear, ?clearNone, ?lol, ?lolActive,
    exec_lolClear, ?relock, ?exitTimeout, ?absent, exec_marginBurstEnd⟩
  case los =>
    intro s l hlos hself h0 h6 h7
    rw [exec_losSet_begins hlos hself, State.iff_false _ _ (by simp [h6]), State.iff_true _ _ (by simp [h0, h7])]
  case losActive =>
    intro s l hlos h6
    rw [exec_losSet_begins hlos (State.hearsSelf_of_laneState h6 (by decide)), h6]
    rfl
  case losQuiet =>
    intro s l hlos hst
    rcases hst with h | h
    all_goals
      rw [exec_losSet_begins hlos (State.hearsSelf_of_laneState h (by decide)), h]
      rfl
  case losNone =>
    intro s l h
    rw [exec_losSet, if_pos (by simpa using h)]
  case clearIdle =>
    intro s l hlos h7
    rw [exec_losClear_ends hlos (State.hearsSelf_of_laneState h7 (by decide)), if_pos h7]
  case clearAbsent =>
    intro s l hlos h9
    rw [exec_losClear_ends hlos (State.hearsSelf_of_laneState h9 (by decide)), if_neg (by omega), if_pos h9]
  case clear =>
    intro s l hlos hself h7 h9
    rw [exec_losClear_ends hlos hself, if_neg h7, if_neg h9]
  case clearNone =>
    intro s l h
    rw [exec_losClear, execLosClear, if_pos (by simpa using h)]
  case lol =>
    intro s l hlol h6
    rw [exec_lolSet, hlol, State.laneState_putB_lol, State.iff_false _ _ (by simp [h6])]
    rfl
  case lolActive =>
    intro s l hlol h6
    rw [exec_lolSet, hlol, State.laneState_putB_lol, State.iff_true _ _ (by simp [h6])]
    rfl
  case relock => exact fun s l h6 hrelock => by rw [exec_relockTimeout, if_pos ⟨h6, hrelock⟩]
  case exitTimeout => exact fun s l h8 => by rw [exec_exitTimeout, if_neg (by simp [h8])]
  case absent => exact fun s l h9 => by rw [exec_absentWaitExpiry, if_neg (by simp [h9])]

end Sys2Proof.Machine
end

section
/-!
PROOF. The PLL, the block lock and the ALIGN blocks of a lane (R101 to R104, R108, R113, R125, R143).
-/

namespace Sys2Proof.Machine

open Reg

section Exec
variable (s : State) (l : Fin 96)

theorem exec_lanePllLock : exec (.lanePllLock l) s = execLanePllLock l s := rfl
theorem exec_lanePllLoss : exec (.lanePllLoss l) s = .next (s.lanePllLost l) := rfl
theorem exec_blockLockGain : exec (.blockLockGain l) s = execBlockLockGain l s := rfl
theorem exec_blockLockLoss (n : Nat) : exec (.blockLockLoss l n) s =
    if !s.flag (LANE_STATUS_BLOCK_LOCK l) then .next s
    else if n < 16 then .next (s.bumpBy (LANE_CNT_SYNCERR l) n)
    else .next ((((s.bumpBy (LANE_CNT_SYNCERR l) n).bump (LANE_CNT_LOCKLOSS l)).clearLocks l).lockLost l) := rfl
theorem exec_alignMiss : exec (.alignMiss l) s =
    if !s.flag (LANE_STATUS_ALIGN_LOCK l) || s.laneEth l || s.laneState l == 7 || s.laneState l == 8 then .next s
    else .next ((s.alignSlot l (((s.lphy l).rxAlignInfo / 16 + 1) % 16)).alignMissed l) := rfl
theorem exec_alignSend : exec (.alignSend l) s = execAlignSend l s := rfl
theorem exec_alignReceive (info : Fin 256) (spaced : Bool) :
    exec (.alignReceive l info spaced) s = execAlignReceive l info spaced s := rfl

end Exec

/-! ### The PLL -/

section Pll
variable {s : State} {l : Fin 96}

theorem State.flag_testEn_putB_pllLock (s : State) (l : Nat) (b : Bool) :
    (s.putB (LANE_STATUS_PLL_LOCK l) b).flag (LANE_TEST_EN l) = s.flag (LANE_TEST_EN l) :=
  s.flag_putB_apart b (by simp [LANE_STATUS_PLL_LOCK]) (.inl (by
    simp only [LANE_TEST_EN, LANE_TEST, LANE_STATUS_PLL_LOCK, LANE_STATUS]
    omega))

/-- The PLL's lock ends RESET: test mode where TEST_EN asks for it, else a session (R108, R127). -/
theorem exec_lanePllLock_reset (h1 : s.laneState l = 1) {x : State}
    (hx : x = ((s.putB (LANE_STATUS_PLL_LOCK l) true).setLane l 10).latch [LANE_TRAIN_CFG l]) :
    exec (.lanePllLock l) s =
      if s.flag (LANE_TEST_EN l) then
        .next ((x.put (LANE_STATUS_GRADE l) (min 5 (x.get (LANE_CTRL_MAX_GRADE l)))).startFir l)
      else .next ((s.putB (LANE_STATUS_PLL_LOCK l) true).session l 5) := by
  subst hx
  simp only [exec_lanePllLock, execLanePllLock, h1, State.flag_testEn_putB_pllLock, ne_eq, not_true_eq_false, if_false]

end Pll

/-! ### The block lock -/

/-- FEC_LOCK shows where the lane uses a FEC (R170). -/
def State.fecShown (s : State) (l : Nat) : State :=
  s.iff (s.get (ETH_CFG_FEC l) == 1 || s.get (ETH_CFG_FEC l) == 2) (fun x => x.putB (ETH_STATUS_FEC_LOCK l) true)

theorem State.fecShown_of_none {s : State} {l : Nat} (h : s.get (ETH_CFG_FEC l) = 0) : s.fecShown l = s :=
  s.iff_false _ (by simp [h])

/-- The block lock is gained in a session: BLOCK_LOCK shows, and an Ethernet lane in SEEK goes on to ACTIVE (R102, R114). -/
theorem exec_blockLockGain_inSession {s x : State} {l : Fin 96} (hmin : 2 ≤ s.laneState l) (hmax : s.laneState l < 9)
    (hlock : s.flag (LANE_STATUS_BLOCK_LOCK l) = false) (hx : x = (s.putB (LANE_STATUS_BLOCK_LOCK l) true).modPhy l
      (fun x => { x with alignSeen := false, alignMiss := 0 })) :
    exec (.blockLockGain l) s =
      if x.laneEth l then .next ((x.fecShown l).iff ((x.fecShown l).laneState l == 2) (fun y => y.laneActive l))
      else .next x := by
  subst hx
  rw [exec_blockLockGain, execBlockLockGain, hlock, if_neg (by simp; omega)]
  rfl

/-! ### ALIGN blocks sent -/

section Send
variable {s : State} {l : Fin 96}

/-- The ALIGN block of a lane has left, byte 7 the complement of INFO by `mask`, and the sequence number has risen (R101). -/
def State.alignLeft (s : State) (l mask : Nat) : State :=
  (s.emit (.block l true (s.alignBlock l mask))).modPhy l (fun x => { x with alignSeq := (x.alignSeq + 1) % 16 })

theorem State.txSwitch_alignLeft (s : State) (l mask : Nat) :
    ((s.alignLeft l mask).lphy l).txSwitch = (s.lphy l).txSwitch := by
  rw [State.alignLeft, State.lphy_modPhy]
  rfl

/-- Without an injection the ALIGN block leaves whole; a pending switch follows it, or a lane in training's TRAIN blocks
(R101, R108, R109). -/
theorem exec_alignSend_whole (hmin : 2 ≤ s.laneState l) (hmax : s.laneState l < 9) (hpers : s.lanePers l = 1)
    (hinj : s.flag (LANE_TEST_INJECT l) = false) :
    exec (.alignSend l) s =
      if (s.lphy l).txSwitch.isSome then .next ((s.alignLeft l 0xFF).switchTx l)
      else .next ((s.alignLeft l 0xFF).iff (decide (s.laneState l ≤ 5)) (fun x => x.trainRound l)) := by
  have h9 : (s.laneState l == 9) = false := beq_false_of_ne (by omega)
  rw [← s.txSwitch_alignLeft l 0xFF, exec_alignSend, execAlignSend, if_neg (by omega)]
  simp only [hinj, h9, Bool.false_and, Bool.or_false]
  rfl

/-- In ACTIVE an injection makes the last byte wrong, and clears (R125). -/
theorem exec_alignSend_injected (h6 : s.laneState l = 6) (hpers : s.lanePers l = 1)
    (hinj : s.flag (LANE_TEST_INJECT l) = true) (hmode : s.get (LANE_TEST_INJ_MODE l) = 4)
    (hswitch : (s.lphy l).txSwitch = none) :
    exec (.alignSend l) s = .next ((s.alignLeft l 0xFE).putB (LANE_TEST_INJECT l) false) := by
  have hleft : (((s.alignLeft l 0xFE).putB (LANE_TEST_INJECT l) false).lphy l).txSwitch = none := by
    rw [State.lphy_putB, State.txSwitch_alignLeft, hswitch]
  rw [exec_alignSend, execAlignSend, if_neg (by omega)]
  simp only [hinj, hmode, h6]
  change (if (((s.alignLeft l 0xFE).putB (LANE_TEST_INJECT l) false).lphy l).txSwitch.isSome = true then _ else _) = _
  rw [hleft]
  rfl

end Send

/-! ### ALIGN blocks missed and received -/

section Receive
variable {s : State} {l : Nat}

theorem State.lanePers_of_session (hmin : 2 ≤ s.laneState l) (hmax : s.laneState l ≠ 10) :
    s.lanePers l = (s.lphy l).pers := by
  rw [State.lanePers, if_neg (by omega)]

/-- A lane that is no member of a bond keeps no round of ALIGN blocks (R142). -/
theorem State.alignSlot_of_single (n : Nat) (hbond : s.bondW l = 1) : s.alignSlot l n = s :=
  s.iff_false _ (by simp [hbond])

theorem State.alignMissed_of_few {x : State}
    (hx : x = (s.laneEvent l 7).modPhy l (fun x => { x with alignMiss := x.alignMiss + 1 }))
    (hfew : (x.lphy l).alignMiss < 3) : s.alignMissed l = x := by
  subst hx
  exact if_pos hfew

/-- A Tenon lane in ACTIVE that holds BLOCK_LOCK hears an ALIGN block. -/
theorem State.hearsAlign_of_active (h6 : s.laneState l = 6) (hlock : s.flag (LANE_STATUS_BLOCK_LOCK l) = true)
    (hpers : (s.lphy l).pers = 1) : s.hearsAlign l = true := by
  have hin : s.lanePers l = 1 := (State.lanePers_of_session (by omega) (by omega)).trans hpers
  simp [State.hearsAlign, h6, hlock, hin]

theorem State.switchRx_of_none (h : (s.lphy l).rxSwitch = none) : s.switchRx l = s := by
  rw [State.switchRx, h]

theorem State.progress_of_active (h6 : s.laneState l = 6) : s.progress l = s := by
  rw [State.progress, h6]
  rfl

/-- An ALIGN at its place on a locked lane in ACTIVE ends the misses and the relock (R103, R104). -/
theorem State.alignLock_of_locked (spaced : Bool) (h6 : s.laneState l = 6)
    (hlock : s.flag (LANE_STATUS_ALIGN_LOCK l) = true) :
    s.alignLock l spaced = s.modPhy l (fun x => { x with alignMiss := 0, relock := none }) := by
  rw [State.alignLock, if_neg (by omega), if_pos hlock]

/-- INFO of an ALIGN at its place is held, and no miss stands. -/
def State.alignTaken (s : State) (l info : Nat) : State :=
  (s.modPhy l (fun x => { x with rxAlignInfo := info + 256 })).modPhy l (fun x => { x with alignMiss := 0, relock := none })

/-- A locked single lane in ACTIVE without a pending switch only takes an ALIGN at its place (R103). -/
theorem exec_alignReceive_atPlace {l : Fin 96} (info : Fin 256) (hhears : s.hearsAlign l = true)
    (hquiet : s.rxBlock l true = s) (h6 : s.laneState l = 6) (halign : s.flag (LANE_STATUS_ALIGN_LOCK l) = true)
    (hbond : s.bondW l = 1) (hswitch : (s.lphy l).rxSwitch = none) :
    exec (.alignReceive l info true) s = .next (s.alignTaken l info) := by
  have hlock : (s.modPhy l (fun x => { x with rxAlignInfo := info + 256 })).alignLock l true = s.alignTaken l info :=
    State.alignLock_of_locked true h6 halign
  have htaken : (s.alignTaken l info).bondW l = 1 := hbond
  have hnone : ((s.alignTaken l info).lphy l).rxSwitch = none := by
    rw [State.alignTaken, State.lphy_modPhy, State.lphy_modPhy]
    exact hswitch
  have hactive : (s.alignTaken l info).laneState l = 6 := h6
  simp only [exec_alignReceive, execAlignReceive, hhears, hquiet, halign, hlock, State.alignSlot_of_single _ htaken,
    htaken, State.switchRx_of_none hnone, State.progress_of_active hactive, Nat.lt_irrefl, decide_false, Bool.not_true,
    Bool.and_false, Bool.false_and, Bool.false_eq_true, if_false]

end Receive

/-- Settles O11: the locks of a lane come and go by its state, its personality and the place of an ALIGN. -/
theorem laneLocksComplete : Obligations.LaneLocksComplete := by
  refine ⟨?pll, ?pllTest, ?pllLoss, ?pllLossOff, ?gain, ?gainEth, ?loss, ?lossFew, ?miss, ?missSlot, ?send, ?sendInjected,
    ?sendTrain, ?sendSwitch, ?place, ?unexpected, ?unheard⟩
  case pll =>
    intro s l h1 htest
    rw [exec_lanePllLock_reset h1 rfl, htest]
    rfl
  case pllTest =>
    intro s l x h1 htest hx
    rw [exec_lanePllLock_reset h1 hx, if_pos htest]
  case pllLoss =>
    intro s l h0
    rw [exec_lanePllLoss, State.lanePllLost, if_neg h0]
  case pllLossOff =>
    intro s l h0
    rw [exec_lanePllLoss, State.lanePllLost, if_pos h0]
  case gain =>
    intro s l x hmin hmax hlock hx htenon
    rw [exec_blockLockGain_inSession hmin hmax hlock hx, htenon]
    rfl
  case gainEth =>
    intro s l x h2 hlock hx heth hx2 hfec
    rw [exec_blockLockGain_inSession (by omega) (by omega) hlock hx, if_pos heth, State.fecShown_of_none hfec,
      State.iff_true _ _ (by simp [hx2])]
  case loss =>
    intro s l n hlock hn
    rw [exec_blockLockLoss, hlock, if_neg (by simp), if_neg (by omega)]
  case lossFew =>
    intro s l n hlock hn
    rw [exec_blockLockLoss, hlock, if_neg (by simp), if_pos hn]
  case miss =>
    intro s l x hlock h6 hbond htenon hx hfew
    rw [exec_alignMiss, if_neg (by simp [hlock, htenon, h6]), State.alignSlot_of_single _ hbond,
      State.alignMissed_of_few hx hfew]
  case missSlot =>
    intro s l hlock htenon h7 h8
    rw [exec_alignMiss, if_neg (by simp [hlock, htenon, h7, h8])]
  case send =>
    intro s l hmin hmax hpers hinj hswitch
    rw [exec_alignSend_whole (by omega) hmax hpers hinj, hswitch, State.iff_false _ _ (by simp; omega)]
    rfl
  case sendInjected =>
    intro s l h6 hpers hinj hmode hswitch
    exact exec_alignSend_injected h6 hpers hinj hmode hswitch
  case sendTrain =>
    intro s l hmin hmax hpers hinj hswitch
    rw [exec_alignSend_whole hmin (by omega) hpers hinj, hswitch, State.iff_true _ _ (by simp [hmax])]
    rfl
  case sendSwitch =>
    intro s l g hmin hmax hpers hinj hswitch
    rw [exec_alignSend_whole hmin (by omega) hpers hinj, hswitch]
    rfl
  case place =>
    intro s l info h6 hfrozen hrun hlock halign hpers hbond hswitch
    exact exec_alignReceive_atPlace info (State.hearsAlign_of_active h6 hlock hpers)
      (State.rxBlock_of_active true h6 hfrozen hrun) h6 halign hbond hswitch
  case unexpected =>
    intro s l info h6 hfrozen hrun hlock halign hpers
    simp [exec_alignReceive, execAlignReceive, State.hearsAlign_of_active h6 hlock hpers,
      State.rxBlock_of_active true h6 hfrozen hrun, halign, h6]
  case unheard =>
    intro s l info spaced hdeaf
    rw [exec_alignReceive, execAlignReceive, hdeaf]
    rfl

end Sys2Proof.Machine
end

section
/-!
PROOF. The training of a lane: time limits, the end of EQUALISE, TRAIN blocks, the eye monitor and the freeze (R109, R110,
R118, R119, R134).
-/

namespace Sys2Proof.Machine

open Reg

section Exec
variable (s : State) (l : Fin 96)

theorem exec_stepTimeout : exec (.stepTimeout l) s =
    if s.laneEth l || s.laneState l < 2 || 5 < s.laneState l then .next s
    else if s.laneState l = 4 ∧ !(s.lphy l).lat ∧ (s.lphy l).txSwitch.isNone ∧ (s.lphy l).rxSwitch.isNone then .next s
    else .next (s.waitFail l) := rfl
theorem exec_equaliseLimit : exec (.equaliseLimit l) s =
    if s.laneState l ≠ 4 ∨ s.laneEth l ∨ (s.lphy l).lat ∨ (s.lphy l).txSwitch.isSome then .next s
    else if (s.lphy l).byStep ∧ (s.lphy l).ready then .next (s.waitFail l)
    else .next (s.equaliseLow l) := rfl
theorem exec_equaliseLowMarginEnd : exec (.equaliseLowMarginEnd l) s =
    if s.laneState l ≠ 4 ∨ s.laneEth l ∨ !(s.lphy l).partnerReady ∨ (s.lphy l).ready ∨ (s.lphy l).txSwitch.isSome
    then .next s
    else .next (s.equaliseLow l) := rfl
theorem exec_equaliseReady (v h : Nat) : exec (.equaliseReady l v h) s =
    if s.laneState l ≠ 4 ∨ s.laneEth l ∨ v < s.get (LANE_TRAIN_CFG_MARGIN_V l) ∨ h < s.get (LANE_TRAIN_CFG_MARGIN_H l)
    then .next s
    else .next (((s.modPhy l (fun x => { x with ready := true })).sendStatus l).progress l) := rfl
theorem exec_trainBlockReceive (b : Block) : exec (.trainBlockReceive l b) s = execTrainBlockReceive l b s := rfl
theorem exec_eyeMonitorCheck (v h ctle : Nat) (dfe : Word) :
    exec (.eyeMonitorCheck l v h ctle dfe) s = execEyeMonitorCheck l v h ctle dfe s := rfl
theorem exec_equaliserFreeze : exec (.equaliserFreeze l) s =
    if s.laneState l ≠ 6 ∨ s.flag (LANE_CTRL_FREEZE_DIS l) ∨ (!s.laneEth l ∧ (s.lphy l).idleRun < 4096) then .next s
    else .next (s.putB (LANE_STATUS_FROZEN l) true) := rfl

end Exec

/-! ### The end of EQUALISE with a low margin -/

section Low
variable {s : State} {l : Nat}

theorem State.equaliseLow_of_step (h : (s.lphy l).byStep = true) :
    s.equaliseLow l = s.stepDown l (s.get (LANE_STATUS_GRADE l) - 1) := if_pos h

theorem State.equaliseLow_of_first (h : (s.lphy l).byStep = false) :
    s.equaliseLow l = (s.stepDown l (s.get (LANE_STATUS_GRADE l))).eqStart l := by
  simp only [State.equaliseLow, h, Bool.false_eq_true, if_false]

/-- The limit of EQUALISE at a grade: it fails where a step reached the grade and the device is ready itself, else the
margin is low (R110). -/
theorem exec_equaliseLimit_reached {l : Fin 96} (h4 : s.laneState l = 4) (htenon : s.laneEth l = false)
    (hlat : (s.lphy l).lat = false) (hswitch : (s.lphy l).txSwitch = none) :
    exec (.equaliseLimit l) s =
      if (s.lphy l).byStep ∧ (s.lphy l).ready then .next (s.waitFail l) else .next (s.equaliseLow l) := by
  rw [exec_equaliseLimit, if_neg (by simp [h4, htenon, hlat, hswitch])]

/-- A partner that is ready, and a margin that stays low (R109). -/
theorem exec_equaliseLowMarginEnd_reached {l : Fin 96} (h4 : s.laneState l = 4) (htenon : s.laneEth l = false)
    (hpartner : (s.lphy l).partnerReady = true) (hready : (s.lphy l).ready = false)
    (hswitch : (s.lphy l).txSwitch = none) : exec (.equaliseLowMarginEnd l) s = .next (s.equaliseLow l) := by
  rw [exec_equaliseLowMarginEnd, if_neg (by simp [h4, htenon, hpartner, hready, hswitch])]

end Low

/-! ### TRAIN blocks -/

section Train
variable {s : State} {l : Fin 96} {b : Block}

/-- A block that ends no run of idle blocks, on a lane outside IDLE, changes nothing by arriving (R119, R161). -/
theorem State.rxBlock_of_notIdle {l : Nat} (idle : Bool) (h7 : s.laneState l ≠ 7)
    (hfrozen : s.flag (LANE_STATUS_FROZEN l) = false) (hrun : (s.lphy l).idleRun = 0) : s.rxBlock l idle = s := by
  simp [State.rxBlock, State.iff, h7, hfrozen, hrun]

theorem State.laneUp_of_training {l : Nat} (hmax : s.laneState l ≤ 5) : s.laneUp l = false := by
  simp only [State.laneUp, Bool.and_eq_false_iff, decide_eq_false_iff_not]
  omega

theorem State.laneUp_of_active {l : Nat} (h6 : s.laneState l = 6) : s.laneUp l = true := by
  simp [State.laneUp, h6]

/-- A TRAIN block that a Tenon lane takes in, outside IDLE, is judged by its CHECK and by the lane's state (R134, R137). -/
theorem exec_trainBlockReceive_taken (hmin : 2 ≤ s.laneState l) (hmax : s.laneState l ≤ 6)
    (hopen : s.laneState l = 6 → s.rxOpen l = true) (hpers : s.lanePers l = 1)
    (hlock : s.flag (LANE_STATUS_BLOCK_LOCK l) = true) (hfrozen : s.flag (LANE_STATUS_FROZEN l) = false)
    (hrun : (s.lphy l).idleRun = 0) (htype : blockByte b 0 = 0x20) :
    exec (.trainBlockReceive l b) s =
      if !checkOk b then .next (s.badCheck l)
      else if s.laneUp l then
        .next (((s.raise 1 (TENON_EVENTS_PARTNER_RESTART (s.boss l))).logC 0x1221 l 0).restart l 0x110C 2)
      else .next (s.iff (decide (s.laneState l < 6)) (fun x => (x.trainContent l b).progress l)) := by
  have htaken : ¬(s.lanePers l ≠ 1 ∨ s.laneState l < 2 ∨ 9 ≤ s.laneState l ∨
      (!s.flag (LANE_STATUS_BLOCK_LOCK l)) = true ∨ (s.laneState l = 6 ∧ (!s.rxOpen l) = true) ∨ blockByte b 0 ≠ 0x20) := by
    rintro (h | h | h | h | ⟨h, hshut⟩ | h)
    · exact h hpers
    · omega
    · omega
    · simp [hlock] at h
    · simp [hopen h] at hshut
    · exact h htype
  rw [exec_trainBlockReceive, execTrainBlockReceive, if_neg htaken, State.rxBlock_of_notIdle _ (by omega) hfrozen hrun]

/-- In training a TRAIN block with a good CHECK is taken in; one with a wrong CHECK is discarded (R132, R134). -/
theorem exec_trainBlockReceive_training (hmin : 2 ≤ s.laneState l) (hmax : s.laneState l ≤ 5) (hpers : s.lanePers l = 1)
    (hlock : s.flag (LANE_STATUS_BLOCK_LOCK l) = true) (hfrozen : s.flag (LANE_STATUS_FROZEN l) = false)
    (hrun : (s.lphy l).idleRun = 0) (htype : blockByte b 0 = 0x20) :
    exec (.trainBlockReceive l b) s =
      if !checkOk b then .next (s.badCheck l) else .next ((s.trainContent l b).progress l) := by
  rw [exec_trainBlockReceive_taken hmin (by omega) (by omega) hpers hlock hfrozen hrun htype,
    State.laneUp_of_training hmax, State.iff_true _ _ (by simp; omega)]
  rfl

end Train

/-! ### The eye monitor -/

section Eye
variable {s x : State} {l : Fin 96} {v h ctle : Nat} {dfe : Word}

/-- A check in ACTIVE that finds both margins at their thresholds (R118). -/
theorem exec_eyeMonitorCheck_open (h6 : s.laneState l = 6) (hx : x = s.eyeTake l v h ctle dfe)
    (hv : x.get (LANE_TRAIN_CFG_MARGIN_V l) ≤ v) (hh : x.get (LANE_TRAIN_CFG_MARGIN_H l) ≤ h) :
    exec (.eyeMonitorCheck l v h ctle dfe) s = .next (x.modPhy l (fun x => { x with lowChecks := 0 })) := by
  subst hx
  rw [exec_eyeMonitorCheck, execEyeMonitorCheck, if_neg (by simp [h6])]
  exact if_pos ⟨hv, hh⟩

/-- A check in ACTIVE that finds a margin too low: the third in a row starts the lane anew, one before it starts a burst of
adaptation (R119). -/
theorem exec_eyeMonitorCheck_low (h6 : s.laneState l = 6) (hx : x = s.eyeTake l v h ctle dfe)
    (hlow : v < x.get (LANE_TRAIN_CFG_MARGIN_V l) ∨ h < x.get (LANE_TRAIN_CFG_MARGIN_H l)) :
    exec (.eyeMonitorCheck l v h ctle dfe) s =
      if 2 ≤ (x.lphy l).lowChecks then
        if x.laneEth l then .next (((x.laneOut l 0x110C 4).logC 0x1107 l 0).session l 5)
        else .next ((x.logC 0x1107 l 0).restart l 0x110C 4)
      else .next ((((x.modPhy l (fun x => { x with lowChecks := x.lowChecks + 1, burst := true })).bump
        (LANE_CNT_BURST l)).laneEvent l 4).logOnce 0x1106 l l 0) := by
  subst hx
  rw [exec_eyeMonitorCheck, execEyeMonitorCheck, if_neg (by simp [h6])]
  exact if_neg (by omega)

end Eye

/-- Settles O12: each step of training goes on, down or anew by the lane's state and by how its grade was reached. -/
theorem laneTrainingComplete : Obligations.LaneTrainingComplete := by
  refine ⟨?timeout, ?limitReady, ?limitStep, ?limitFirst, ?lowStep, ?lowFirst, ?ready, ?restarted, ?content, ?badCheck,
    ?eyeOpen, ?eyeLow, ?eyeThird, ?eyeThirdEth, ?freeze⟩
  case timeout =>
    intro s l htenon hmin hmax hwait
    have hwaits : ¬(s.laneState l = 4 ∧ (!(s.lphy l).lat) = true ∧ (s.lphy l).txSwitch.isNone = true ∧
        (s.lphy l).rxSwitch.isNone = true) := by
      rintro ⟨h4, hlat, htx, hrx⟩
      rcases hwait with h | h | h | h
      · exact h h4
      · simp [h] at hlat
      · simp [Option.isNone_iff_eq_none.1 htx] at h
      · simp [Option.isNone_iff_eq_none.1 hrx] at h
    rw [exec_stepTimeout, if_neg (by simp [htenon]; omega), if_neg hwaits]
  case limitReady =>
    intro s l h4 htenon hlat hswitch hstep hready
    rw [exec_equaliseLimit_reached h4 htenon hlat hswitch, if_pos ⟨hstep, hready⟩]
  case limitStep =>
    intro s l h4 htenon hlat hswitch hstep hready
    rw [exec_equaliseLimit_reached h4 htenon hlat hswitch, if_neg (by simp [hready]), State.equaliseLow_of_step hstep]
  case limitFirst =>
    intro s l h4 htenon hlat hswitch hfirst
    rw [exec_equaliseLimit_reached h4 htenon hlat hswitch, if_neg (by simp [hfirst]), State.equaliseLow_of_first hfirst]
  case lowStep =>
    intro s l h4 htenon hpartner hready hswitch hstep
    rw [exec_equaliseLowMarginEnd_reached h4 htenon hpartner hready hswitch, State.equaliseLow_of_step hstep]
  case lowFirst =>
    intro s l h4 htenon hpartner hready hswitch hfirst
    rw [exec_equaliseLowMarginEnd_reached h4 htenon hpartner hready hswitch, State.equaliseLow_of_first hfirst]
  case ready =>
    intro s l v h h4 htenon hv hh
    rw [exec_equaliseReady, if_neg (by simp [h4, htenon, hv, hh])]
  case restarted =>
    intro s l b h6 hopen hpers hlock hfrozen hrun htype hcheck
    rw [exec_trainBlockReceive_taken (by omega) (by omega) (fun _ => hopen) hpers hlock hfrozen hrun htype, hcheck,
      if_neg (by simp), if_pos (State.laneUp_of_active h6)]
  case content =>
    intro s l b hmin hmax hpers hlock hfrozen hrun htype hcheck
    rw [exec_trainBlockReceive_training hmin hmax hpers hlock hfrozen hrun htype, hcheck]
    rfl
  case badCheck =>
    intro s l b hmin hmax hpers hlock hfrozen hrun htype hcheck
    rw [exec_trainBlockReceive_training hmin hmax hpers hlock hfrozen hrun htype, hcheck]
    rfl
  case eyeOpen => exact fun s l v h ctle dfe x h6 hx hv hh => exec_eyeMonitorCheck_open h6 hx hv hh
  case eyeLow =>
    intro s l v h ctle dfe x h6 hx hlow hfew
    rw [exec_eyeMonitorCheck_low h6 hx hlow, if_neg (by omega)]
  case eyeThird =>
    intro s l v h ctle dfe x h6 hx hlow hthird htenon
    rw [exec_eyeMonitorCheck_low h6 hx hlow, if_pos hthird, htenon]
    rfl
  case eyeThirdEth =>
    intro s l v h ctle dfe x h6 hx hlow hthird heth
    rw [exec_eyeMonitorCheck_low h6 hx hlow, if_pos hthird, if_pos heth]
  case freeze =>
    intro s l h6 hmay hrun
    have hquiet : ¬((!s.laneEth l) = true ∧ (s.lphy l).idleRun < 4096) := by
      rintro ⟨htenon, hshort⟩
      rcases hrun with heth | hlong
      · simp [heth] at htenon
      · omega
    rw [exec_equaliserFreeze, if_neg (by simp only [h6, hmay, hquiet]; simp)]

end Sys2Proof.Machine
end

section
/-!
PROOF. The launch and the ageing of triggers on a lane (R107, R150, R153, R157, R179, R181).
-/

namespace Sys2Proof.Machine

open Reg

section Exec
variable (s : State) (l : Fin 96)

theorem exec_trigLaunch (ago : Nat) : exec (.trigLaunch l ago) s = execTrigLaunch l ago s := rfl
theorem exec_trigAgeExpiry (i : Nat) : exec (.trigAgeExpiry l i) s = execTrigAgeExpiry l i s := rfl

end Exec

/-! ### Launch -/

section Launch
variable {s : State} {l : Fin 96} {ago : Nat} {tr : Trigger} {tl : Int}

/-- The TRIG block of a trigger, with its fine delay in steps of 125 ps, has left and is counted (R157). -/
def State.trigLeft (s : State) (l : Nat) (t : Trigger) (fine : Nat) : State :=
  (s.sendCtl l 0x50 (toBytes 2 (t.kind % 4 * 16384 + fine) ++ toBytes 4 t.id)).bump (TENON_CNT_TRIG l)

/-- The trigger is sent with `eff` as its instant (R157). -/
def State.trigSent (s : State) (t : Trigger) (eff : Int) : State :=
  (s.modTrigs (fun ts => ts.map (fun (u : Trigger) =>
    if u.id == t.id then { u with sent := true, tf := eff, tc := eff + u.lead } else u))).showCommitted t.seq

theorem State.outstanding_trigLeft (s : State) (l : Nat) (t : Trigger) (fine : Nat) (c : Nat) :
    (s.trigLeft l t fine).outstanding c = s.outstanding c := rfl

/-- The steps of 125 ps that lie nearest to a delay, 0 for a late trigger and 16,383 at most (R157). -/
def fineSteps (d : Int) : Nat := if d < 0 then 0 else min 16383 ((2 * d + 8192) / 16384).toNat

theorem fineSteps_of_late {d : Int} (h : d < 0) : fineSteps d = 0 := if_pos h

theorem fineSteps_of_nonneg {d : Int} (h : 0 ≤ d) : fineSteps d = min 16383 ((2 * d + 8192) / 16384).toNat :=
  if_neg (by omega)

section Up
variable (hnext : s.nextLaunch l = some tr) (hup : s.tenUp l = true) (hboss : s.boss l = l.val)
  (hcommit : s.outCommit = true) (htl : tl = s.nowI - ago - sext 32 (s.rdN (TB_LANE_EG_ASYM l)) * 256)
include hnext hup hboss hcommit htl

/-- A trigger too far ahead for the fine delay of this slot waits for a later one (R157). -/
theorem exec_trigLaunch_waits (hfar : 16383 * 8192 < tr.tf - tl) : exec (.trigLaunch l ago) s = .next s := by
  subst htl
  rw [exec_trigLaunch, execTrigLaunch, hnext]
  simp only [hup, hboss, hcommit, bne_self_eq_false, Bool.not_true, Bool.or_self, Bool.false_eq_true, if_false]
  exact if_pos hfar

/-- A trigger within reach leaves with its fine delay, one before the slot's instant late; with room among those outstanding
none is retired for it (R150, R157). -/
theorem exec_trigLaunch_leaves {x : State} (hnear : tr.tf - tl ≤ 16383 * 8192)
    (hx : x = (s.trigLeft l tr (fineSteps (tr.tf - tl))).iff (decide (tr.tf - tl < 0))
      (fun y => (y.bump (TENON_CNT_TRIG_LATE l)).reportLate tr))
    (hroom : (x.outstanding l).length < 64) :
    exec (.trigLaunch l ago) s = .next (x.trigSent tr (tl + fineSteps (tr.tf - tl) * 8192)) := by
  have hfew : decide (64 ≤ (x.outstanding l).length) = false := decide_eq_false (by omega)
  rw [State.trigLeft, fineSteps] at hx
  subst htl
  rw [exec_trigLaunch, execTrigLaunch, hnext]
  simp only [hup, hboss, hcommit, bne_self_eq_false, Bool.not_true, Bool.or_self, Bool.false_eq_true, if_false,
    Int.not_lt.2 hnear, decide_eq_true_eq, ← hx, hfew, Bool.false_and, State.iff_false]
  rfl

end Up

end Launch

/-! ### Ageing -/

section Age
variable {s : State} {l : Fin 96} {i : Nat} {tr : Trigger}

/-- The age of an outstanding trigger passes on a Tenon lane that assembles its line: the line closes, where a tile is open
once that ends (R153). -/
theorem exec_trigAgeExpiry_line {a : LineAsm} (htenon : s.laneEth l = false)
    (hout : (s.outstanding l).find? (fun (t : Trigger) => t.id == i) = some tr) (hasm : (s.lten l).asm_ = some a)
    (hline : a.trigId = i) : exec (.trigAgeExpiry l i) s =
      if (s.lten l).cur.isSome ∨ (s.lten l).hdr.isSome ∨ (s.lten l).wait.isSome then
        .next (s.modTen l (fun x => { x with asm_ := some { a with aged := true } }))
      else .next (s.closeLine l) := by
  simp only [exec_trigAgeExpiry, execTrigAgeExpiry, htenon, hout, hasm, hline, Bool.false_eq_true, if_false, ne_eq,
    not_true_eq_false]

end Age

/-- Settles O16: a trigger handed over leaves, waits or is reported; one outstanding ages by what its lane assembles. -/
theorem tenonTriggersComplete : Obligations.TenonTriggersComplete := by
  refine ⟨?none, ?notSent, ?leaves, ?waits, ?late, ?unserved, ?close, ?mark, ?ethUnserved, ?ethClose⟩
  case none =>
    intro s l ago hnone
    rw [exec_trigLaunch, execTrigLaunch, hnone]
  case notSent =>
    intro s l ago tr hnext hdown
    simp only [exec_trigLaunch, execTrigLaunch, hnext]
    rw [if_pos (by rcases hdown with h | h <;> simp [h])]
  case leaves =>
    intro s l ago tr tl n hnext hup hboss hcommit htl hahead hnear hn hroom
    rw [← fineSteps_of_nonneg hahead] at hn
    subst hn
    exact exec_trigLaunch_leaves hnext hup hboss hcommit htl hnear
      (State.iff_false _ _ (decide_eq_false (by omega))).symm hroom
  case waits =>
    exact fun s l ago tr tl hnext hup hboss hcommit htl hfar => exec_trigLaunch_waits hnext hup hboss hcommit htl hfar
  case late =>
    intro s l ago tr tl x hnext hup hboss hcommit htl hlate hx hroom
    have hfine := fineSteps_of_late hlate
    have hleaves := exec_trigLaunch_leaves (x := x) hnext hup hboss hcommit htl (by omega)
      (by rw [State.iff_true _ _ (decide_eq_true hlate), hfine, hx]; rfl) hroom
    rw [hleaves, hfine]
    rfl
  case unserved =>
    intro s l i tr htenon hout hasm
    simp only [exec_trigAgeExpiry, execTrigAgeExpiry, htenon, hout, hasm, Bool.false_eq_true, if_false]
    rfl
  case close =>
    intro s l i tr a htenon hout hasm hline hcur hhdr hwait
    rw [exec_trigAgeExpiry_line htenon hout hasm hline, if_neg (by simp [hcur, hhdr, hwait])]
  case mark =>
    intro s l i tr a htenon hout hasm hline hcur
    rw [exec_trigAgeExpiry_line htenon hout hasm hline, if_pos (.inl hcur)]
  case ethUnserved =>
    intro s l i tr heth hout hblock
    simp only [exec_trigAgeExpiry, execTrigAgeExpiry, heth, hout, hblock, if_true]
  case ethClose =>
    intro s l i tr b heth hout hblock
    simp only [exec_trigAgeExpiry, execTrigAgeExpiry, heth, hout, hblock, if_true]

end Sys2Proof.Machine
end

section
/-!
PROOF. The arbiters of the DDR4 channels and of the delivery ports, and the wait watchdog (R362 to R366, R382).
-/

namespace Sys2Proof.Machine

open Reg

/-- Whether a requester may ask an arbiter: the channel has it, or it has a delivery of the port to transfer (R382). -/
def State.mayAsk (s : State) (a : Fin 10) (r : Fin 43) : Bool :=
  if a.val < 8 then decide (r.val < 28) else r.val == 42 || (s.servedDlv (a - 8) r).isSome

section Exec
variable (s : State) (a : Fin 10)

theorem exec_arbRequestRaise (r : Fin 43) :
    exec (.arbRequestRaise a r) s = .next (if s.mayAsk a r then s.arbAsk a r else s) := rfl
theorem exec_arbRequestDrop : exec (.arbRequestDrop a) s = execArbRequestDrop a s := rfl
theorem exec_arbBreakPoint : exec (.arbBreakPoint a) s = execArbBreakPoint a s := rfl
theorem exec_arbBackoffEnd (r : Fin 43) : exec (.arbBackoffEnd a r) s =
    if (s.arbOf a).reqs.any (fun (q : ArbReq) => q.req == r.val && q.backoff) then
      .next ((s.modArb a (fun x => { x with
        reqs := x.reqs.map (fun (q : ArbReq) => if q.req == r.val then { q with backoff := false } else q) })).arbRaised a r)
    else .next s := rfl
theorem exec_arbRankWrite (w : Fin 6) (m : Fin 3) (v : Word) :
    exec (.arbRankWrite a w m v) s = execArbRankWrite a w m v s := rfl
theorem exec_waitWatchdogExpiry (u : WaitUnit) (res : Fin 5) (circle : List WaitUnit) :
    exec (.waitWatchdogExpiry u res a circle) s = execWaitWatchdogExpiry u res a circle s := rfl

end Exec

/-! ### Requests -/

section Ask
variable {s : State} {a r : Nat}

/-- A new request at an arbiter that serves joins the others, with its age from now, and is decided on (R362). -/
theorem State.arbAsk_new (hserves : s.arbServes a = true)
    (hreqs : (s.arbOf a).reqs.any (fun (q : ArbReq) => q.req == r) = false)
    (hhold : ∀ h, (s.arbOf a).hold = some h → h.req ≠ r) : s.arbAsk a r =
      (s.modArb a (fun x => { x with reqs := x.reqs ++ [⟨r, s.tb.ticks, false, 8⟩] })).arbRaised a r := by
  cases hcase : (s.arbOf a).hold with
  | none => simp only [State.arbAsk, hreqs, hcase, hserves, Bool.not_true, Bool.or_self, Bool.false_eq_true, if_false]
  | some h =>
    simp only [State.arbAsk, hreqs, hcase, hserves, beq_false_of_ne (hhold h hcase), Bool.not_true, Bool.or_self,
      Bool.false_eq_true, if_false]

theorem State.arbAsk_of_unserved (h : s.arbServes a = false) : s.arbAsk a r = s :=
  if_pos (by simp [h])

theorem State.arbAsk_of_raised (h : (s.arbOf a).reqs.any (fun (q : ArbReq) => q.req == r) = true) : s.arbAsk a r = s :=
  if_pos (by simp [h])

theorem State.arbAsk_of_holder {h : ArbReq} (hhold : (s.arbOf a).hold = some h) (hreq : h.req = r) : s.arbAsk a r = s :=
  if_pos (by simp [hhold, hreq])

theorem State.arbServes_of_port (h : 8 ≤ a) : s.arbServes a = true := by
  simp [State.arbServes, h]

theorem State.mayAsk_of_channel {a : Fin 10} {r : Fin 43} (ha : a.val < 8) : s.mayAsk a r = decide (r.val < 28) :=
  if_pos ha

theorem State.mayAsk_of_port {a : Fin 10} {r : Fin 43} (ha : 8 ≤ a.val) :
    s.mayAsk a r = (r.val == 42 || (s.servedDlv (a - 8) r).isSome) := if_neg (by omega)

/-- A requester that may ask, and a request that is new (R362, R382). -/
theorem exec_arbRequestRaise_joins {a : Fin 10} {r : Fin 43} (hmay : s.mayAsk a r = true) (hserves : s.arbServes a = true)
    (hreqs : (s.arbOf a).reqs.any (fun (q : ArbReq) => q.req == r.val) = false)
    (hhold : ∀ h, (s.arbOf a).hold = some h → h.req ≠ r.val) : exec (.arbRequestRaise a r) s =
      .next ((s.modArb a (fun x => { x with reqs := x.reqs ++ [⟨r, s.tb.ticks, false, 8⟩] })).arbRaised a r) := by
  rw [exec_arbRequestRaise, if_pos hmay, State.arbAsk_new hserves hreqs hhold]

theorem exec_arbRequestRaise_of_mayNot {a : Fin 10} {r : Fin 43} (h : s.mayAsk a r = false) :
    exec (.arbRequestRaise a r) s = .next s := by
  rw [exec_arbRequestRaise, if_neg (by simp [h])]

theorem exec_arbRequestRaise_of_arbAsk {a : Fin 10} {r : Fin 43} (h : s.arbAsk a r = s) :
    exec (.arbRequestRaise a r) s = .next s := by
  rw [exec_arbRequestRaise, h, ite_self]

end Ask

/-! ### Preemption -/

/-- A raised requester ahead of the holder takes its grant, and the holder's request joins the others with its age (R362). -/
theorem exec_arbBreakPoint_preempts {s : State} {a : Fin 10} {h : ArbReq} (hhold : (s.arbOf a).hold = some h)
    (hahead : (s.arbOf a).reqs.any (fun (q : ArbReq) => !q.backoff && s.aheadOf a q.req h.req) = true) :
    exec (.arbBreakPoint a) s = .next ((((s.modArb a (fun x => { x with hold := none })).iff (decide (a.val < 8))
      (fun x => x.bump (DDR_CNT_PREEMPT a))).decideArb a).modArb a
        (fun x => { x with reqs := x.reqs ++ [{ h with count := 8 }] })) := by
  rw [exec_arbBreakPoint, execArbBreakPoint, hhold]
  exact if_pos hahead

/-! ### Ranks -/

section Rank
variable {s : State} {a : Fin 10} {w : Fin 6} {m : Fin 3} {v : Word}

/-- The places of a rank word that hold the rank of a requester, of `n` requesters. -/
def rankPlaces (w n : Nat) : List Nat := (List.range 8).filter (fun i => decide (8 * w + i < n))

/-- A write of a channel's rank word, by a master whose writes reach the registers (R364). -/
theorem exec_arbRankWrite_channel (hreach : s.reaches m = true) (ha : a.val < 8) (hw : w.val < 4) :
    exec (.arbRankWrite a w m v) s =
      .next (((rankPlaces w 28).foldl (fun x i => if m != 0 && s.arbPriv a (8 * w.val + i) then x
          else x.put ⟨DDR_ARB_RANK a w, 4 * i, 3⟩ (getBits v.toNat (4 * i) 3)) s).iff
        ((rankPlaces w 28).any (fun i => m != 0 && s.arbPriv a (8 * w.val + i) &&
          getBits (s.rdN (DDR_ARB_RANK a w)) (4 * i) 3 != getBits v.toNat (4 * i) 3))
        (fun x => x.badAccess m (DDR_ARB_RANK a w) 3)) := by
  rw [exec_arbRankWrite, execArbRankWrite, if_neg (by simp [hreach]), if_neg (by omega), if_pos ha]
  rfl

/-- A host's write of a channel's rank word leaves the privileged ranks (R364). -/
def State.hostRanks (s : State) (a w : Nat) (v : Word) : State :=
  (rankPlaces w 28).foldl (fun x i => if s.arbPriv a (8 * w + i) then x
    else x.put ⟨DDR_ARB_RANK a w, 4 * i, 3⟩ (getBits v.toNat (4 * i) 3)) s

/-- Whether a write of a channel's rank word would change the rank of a privileged requester. -/
def State.changesPriv (s : State) (a w : Nat) (v : Word) : Bool :=
  (rankPlaces w 28).any (fun i => s.arbPriv a (8 * w + i) &&
    getBits (s.rdN (DDR_ARB_RANK a w)) (4 * i) 3 != getBits v.toNat (4 * i) 3)

/-- A host's write that would change a privileged rank is a bad access, whatever else it writes (R364, R398). -/
theorem exec_arbRankWrite_host (hreach : s.reaches m = true) (hm : m ≠ 0) (ha : a.val < 8) (hw : w.val < 4) :
    exec (.arbRankWrite a w m v) s =
      .next ((s.hostRanks a w v).iff (s.changesPriv a w v) (fun x => x.badAccess m (DDR_ARB_RANK a w) 3)) := by
  simp only [exec_arbRankWrite_channel hreach ha hw, bne_iff_ne.2 hm, Bool.true_and]
  rfl

theorem exec_arbRankWrite_port (hreach : s.reaches m = true) (ha : 8 ≤ a.val) :
    exec (.arbRankWrite a w m v) s =
      if m ≠ 0 then .next (s.badAccess m (DLV_ARB_RANK (a - 8) w) 3)
      else .next ((rankPlaces w 43).foldl
        (fun x i => x.put ⟨DLV_ARB_RANK (a - 8) w, 4 * i, 3⟩ (getBits v.toNat (4 * i) 3)) s) := by
  rw [exec_arbRankWrite, execArbRankWrite, if_neg (by simp [hreach]), if_neg (by omega), if_neg (by omega)]
  rfl

end Rank

/-- Settles O26: an arbiter's commands act by who has asked and who holds; its ranks are written by who may. -/
theorem arbitersComplete : Obligations.ArbitersComplete := by
  refine ⟨?raise, ?raiseHeld, ?raisePort, ?raiseNone, ?drop, ?dropNone, ?preempt, ?preemptPort, ?goesOn, ?breakNone,
    ?backoff, ?backoffNone, ?rankMc, ?rankHost, ?rankHostBad, ?rankNone, ?rankPortMc, ?rankPortHost, ?rankUnreached,
    ?circle, fun _ _ _ _ => rfl⟩
  case raise =>
    intro s a r ha hr hserves hhold hreqs
    exact exec_arbRequestRaise_joins ((State.mayAsk_of_channel ha).trans (decide_eq_true hr)) hserves hreqs (by simp [hhold])
  case raiseHeld =>
    intro s a r h ha hr hserves hhold hother hreqs
    exact exec_arbRequestRaise_joins ((State.mayAsk_of_channel ha).trans (decide_eq_true hr)) hserves hreqs
      (by simpa [hhold] using hother)
  case raisePort =>
    intro s a r ha hmay hhold hreqs
    exact exec_arbRequestRaise_joins ((State.mayAsk_of_port ha).trans (by simpa using hmay)) (State.arbServes_of_port ha)
      hreqs (by simp [hhold])
  case raiseNone =>
    rintro s a r (hserves | hreqs | ⟨h, hhold, hreq⟩ | ⟨ha, hr⟩ | ⟨ha, hring, hdlv⟩)
    · exact exec_arbRequestRaise_of_arbAsk (State.arbAsk_of_unserved hserves)
    · exact exec_arbRequestRaise_of_arbAsk (State.arbAsk_of_raised hreqs)
    · exact exec_arbRequestRaise_of_arbAsk (State.arbAsk_of_holder hhold hreq)
    · exact exec_arbRequestRaise_of_mayNot ((State.mayAsk_of_channel ha).trans (decide_eq_false (by omega)))
    · exact exec_arbRequestRaise_of_mayNot ((State.mayAsk_of_port ha).trans (by simp [hdlv, hring]))
  case drop =>
    intro s a h hhold
    rw [exec_arbRequestDrop, execArbRequestDrop, hhold]
  case dropNone =>
    intro s a hhold
    rw [exec_arbRequestDrop, execArbRequestDrop, hhold]
  case preempt =>
    intro s a h ha hhold hahead
    rw [exec_arbBreakPoint_preempts hhold hahead, State.iff_true _ _ (decide_eq_true ha)]
  case preemptPort =>
    intro s a h ha hhold hahead
    rw [exec_arbBreakPoint_preempts hhold hahead, State.iff_false _ _ (decide_eq_false (by omega))]
  case goesOn =>
    intro s a h hhold hahead
    rw [exec_arbBreakPoint, execArbBreakPoint, hhold]
    exact if_neg (by simp [hahead])
  case breakNone =>
    intro s a hhold
    rw [exec_arbBreakPoint, execArbBreakPoint, hhold]
  case backoff => exact fun s a r hback => by rw [exec_arbBackoffEnd, if_pos hback]
  case backoffNone => exact fun s a r hnot => by rw [exec_arbBackoffEnd, if_neg (by simp [hnot])]
  case rankMc =>
    intro s a w v hreach ha hw
    rw [exec_arbRankWrite_channel hreach ha hw, State.iff_false _ _ (by simp)]
    rfl
  case rankHost =>
    intro s a w m v y hreach hm ha hw hy hkeeps
    rw [exec_arbRankWrite_host hreach hm ha hw, State.iff_false _ _ (show s.changesPriv a w v = false from hkeeps), hy]
    rfl
  case rankHostBad =>
    intro s a w m v y hreach hm ha hw hy hchanges
    rw [exec_arbRankWrite_host hreach hm ha hw, State.iff_true _ _ (show s.changesPriv a w v = true from hchanges), hy]
    rfl
  case rankNone =>
    intro s a w m v hreach ha hw
    rw [exec_arbRankWrite, execArbRankWrite, if_neg (by simp [hreach]), if_pos ⟨ha, hw⟩]
  case rankPortMc =>
    intro s a w v hreach ha
    rw [exec_arbRankWrite_port hreach ha, if_neg (by simp)]
    rfl
  case rankPortHost =>
    intro s a w m v hreach hm ha
    rw [exec_arbRankWrite_port hreach ha, if_pos hm]
  case rankUnreached =>
    intro s a w m v hreach
    rw [exec_arbRankWrite, execArbRankWrite, if_pos (by simp [hreach])]
  case circle =>
    intro s u v res a circle hlow
    rw [exec_waitWatchdogExpiry, execWaitWatchdogExpiry, hlow]

end Sys2Proof.Machine
end

section
/-!
PROOF. Tenon's control blocks: violations, credit, latency probes, register access to the camera, and bonds that form.
-/

namespace Sys2Proof.Machine

open Reg

section Exec
variable (s : State) (l : Fin 96)

theorem exec_violReceive (b : Block) : exec (.violReceive l b) s = .next (s.rxCtl l b 0x7F (.viol b)) := rfl
theorem exec_ctrlRspReceive (b : Block) (v : Option Block) :
    exec (.ctrlRspReceive l b v) s = .next (s.rxCtl l b 0x72 (.rsp b v)) := rfl
theorem exec_lechoReceive (b : Block) (ago : Nat) : exec (.lechoReceive l b ago) s = execLechoReceive l b ago s := rfl
theorem exec_creditRefresh : exec (.creditRefresh l) s =
    if s.tenUp l ∧ l.val = s.boss l then .next (s.sendCredit l) else .next s := rfl
theorem exec_probeTimeout : exec (.probeTimeout l) s =
    if (s.lten l).probeOut.isSome ∧ ((s.lphy l).lat ∨ s.tenUp l) then .next (s.sendProbe l) else .next s := rfl
theorem exec_latencyMeasureTimeout : exec (.latencyMeasureTimeout l) s =
    if (s.lphy l).lat then .next ((s.modTen l (fun x => { x with probeOut := none })).waitFail l) else .next s := rfl
theorem exec_latTrackProbe : exec (.latTrackProbe l) s =
    if s.tenUp l ∧ l.val = s.boss l ∧ s.flagT l (TENON_CFG_LAT_TRACK l) then .next (s.sendProbe l) else .next s := rfl
theorem exec_bondForm (skew : Nat) : exec (.bondForm l skew) s = execBondForm l skew s := rfl
theorem exec_bondDeskewTimeout : exec (.bondDeskewTimeout l) s =
    if s.bondReady (s.boss l) then .next (s.bondFail (s.boss l)) else .next s := rfl
theorem exec_ctrlGo : exec (.ctrlGo l) s = if s.held || l.val != s.boss l then .next s else .next (s.ctrlGo l) := rfl
theorem exec_ctrlTimeout : exec (.ctrlTimeout l) s =
    if (s.lten l).ctrl.isSome then .next ((s.logC 0x1240 l 0).ctrlDone l 8 0) else .next s := rfl
theorem exec_violDeferredSend (r : Nat) : exec (.violDeferredSend l r) s = execViolDeferredSend l r s := rfl
theorem exec_violWindowEnd : exec (.violWindowEnd l) s =
    if !(s.members l).any s.laneUp || s.lanePers l != 1 then .next s
    else .next (s.modTen l (fun x => { x with
      viols := x.viols.map (fun (v : ViolRun) => { v with count := 0 }), violTotal := 0, limitHit := false })) := rfl

end Exec

/-- On a lane by itself a good control block of its type acts on the stream at once (R131 to R133). -/
theorem State.rxCtl_of_receivesAlone {s : State} {l type : Nat} {b : Block} (r : RxRaw) (halone : s.receivesAlone l)
    (ht : blockByte b 0 = type) (hc : checkOk b = true) : s.rxCtl l b type r = s.rxLogic l r :=
  (State.rxCtl_good r ht hc).trans (State.rxArrive_of_receivesAlone r halone)

/-! ### The answer to a latency probe -/

/-- An LECHO that names the probe outstanding yields one result (R138, R139). -/
theorem State.probeAnswer_of_out {s : State} {l : Nat} {b : Block} {o : Int} (tin : Int)
    (hout : (s.lten l).probeOut = some o) (hnum : (s.lten l).probeNum = blockByte b 1) : s.probeAnswer l b tin =
      s.latResult l (tin - o - (blockByte b 2 + 256 * blockByte b 3 + 65536 * blockByte b 4 : Nat) * 8192) := by
  simp only [State.probeAnswer, hout, hnum, ne_eq, not_true_eq_false, if_false]

section Lecho
variable {s : State} {l : Fin 96} {b : Block} (ago : Nat) (hpers : s.lanePers l = 1)
  (hlock : s.flag (LANE_STATUS_BLOCK_LOCK l) = true) (ht : blockByte b 0 = 0x61)
include hpers hlock ht

/-- During the measurement an LECHO counts by itself, outside the stream (R139). -/
theorem exec_lechoReceive_measuring (hlat : (s.lphy l).lat = true) : exec (.lechoReceive l b ago) s =
    if checkOk b then .next (s.probeAnswer l b (s.nowI - ago - sext 32 (s.rdN (TB_LANE_IN_ASYM l)) * 256))
    else .next (s.badCheck l) := by
  rw [exec_lechoReceive, execLechoReceive, if_neg (by simp [hpers, hlock, ht]), if_pos hlat]

/-- Outside the measurement an LECHO is a block of the stream (R140). -/
theorem exec_lechoReceive_tracking (hlat : (s.lphy l).lat = false) : exec (.lechoReceive l b ago) s =
    .next (s.rxCtl l b 0x61 (.lecho b (s.nowI - ago - sext 32 (s.rdN (TB_LANE_IN_ASYM l)) * 256))) := by
  rw [exec_lechoReceive, execLechoReceive, if_neg (by simp [hpers, hlock, ht]), if_neg (by simp [hlat])]

end Lecho

/-! ### Bonds that form -/

/-- A bond whose members have matched equal sequence numbers forms, or fails where they lie too far apart (R143). -/
theorem exec_bondForm_of_matched {s : State} {l : Fin 96} (skew : Nat) (hready : s.bondReady (s.boss l) = true)
    (hmatch : ∀ m ∈ s.members (s.boss l), 256 ≤ (s.lphy m).rxAlignInfo ∧
      (s.lphy m).rxAlignInfo / 16 = (s.lphy (s.boss l)).rxAlignInfo / 16) :
    exec (.bondForm l skew) s =
      if 32 < skew then .next (s.bondFail (s.boss l))
      else .next (((s.putBond (s.boss l) TENON_STATUS_SKEW skew).tenonUp (s.boss l)).raise 1
        (TENON_EVENTS_BOND_UP (s.boss l))) := by
  have hall : (s.members (s.boss l)).all (fun m => decide (256 ≤ (s.lphy m).rxAlignInfo) &&
      (s.lphy m).rxAlignInfo / 16 == (s.lphy (s.boss l)).rxAlignInfo / 16) = true := by simpa using hmatch
  rw [exec_bondForm, execBondForm]
  exact if_neg (by simp [hready, hall])

/-! ### Register access to the camera -/

/-- The state in which a request for the camera's register has its tag: outstanding, with GO and CTRL_BUSY shown (R155). -/
def State.ctrlAsked (s : State) (l : Nat) (w : Bool) : State :=
  ((s.modTen l (fun x => { x with
    ctrl := some ((s.lten l).nextTag, s.get (TENON_CTRL_ADDR_ADDR l), w), nextTag := ((s.lten l).nextTag + 1) % 256 })).putB
    (TENON_CTRL_CMD_GO l) true).putBond l TENON_STATUS_CTRL_BUSY 1

section Ctrl
variable {s : State} {l : Nat}

theorem State.ctrlGo_of_outstanding (h : (s.lten l).ctrl.isSome = true) :
    s.ctrlGo l = s.bump (TENON_CNT_CTRL_REFUSED l) := if_pos h

/-- GO with no request outstanding asks: it ends at once on a lane that is down, and else the request leaves, with a value
block when it is a write (R154, R155). -/
theorem State.ctrlGo_of_none {w : Bool} (hnone : (s.lten l).ctrl = none) (hw : s.flag (TENON_CTRL_CMD_WRITE l) = w) :
    s.ctrlGo l =
      if !(s.ctrlAsked l w).tenUp l then (s.ctrlAsked l w).ctrlDone l 9 0
      else
        let b := ctlBlock (if w then 0x71 else 0x70) (toBytes 1 (s.lten l).nextTag ++ toBytes 2 (s.get (TENON_CTRL_ADDR_ADDR l)))
        ((s.ctrlAsked l w).emit (.block l true b)).iff w
          (fun s => s.emit (.block l false (valueBlock b (s.rdN (TENON_CTRL_WDATA l))))) := by
  rw [State.ctrlGo, hnone, hw]
  rfl

theorem exec_ctrlGo_of_boss {s : State} {l : Fin 96} (hheld : s.held = false) (hboss : s.boss l = l.val) :
    exec (.ctrlGo l) s = .next (s.ctrlGo l) := by
  rw [exec_ctrlGo, if_neg (by simp [hheld, hboss])]

section Answer
variable {b : Block} {tg a : Nat} (htag : tg = blockByte b 1) (haddr : a = blockByte b 3 + 256 * blockByte b 4)
include htag haddr

/-- The response to a write ends it with its result (R155). -/
theorem State.ctrlAnswer_of_write (v : Option Block) (hout : (s.lten l).ctrl = some (tg, a, true)) :
    s.ctrlAnswer l b v = s.ctrlDone l (blockByte b 2 % 16) 0 := by
  simp only [State.ctrlAnswer, hout, ← htag, ← haddr, ne_eq, not_true_eq_false, or_self, or_true, if_true, if_false]

/-- The response OK to a read ends it with the value of its value block, where that block has the right form (R154, R155). -/
theorem State.ctrlAnswer_of_read {v : Block} (hout : (s.lten l).ctrl = some (tg, a, false)) (hok : blockByte b 2 = 0)
    (hvalue : valueBlock b (getBits v.toNat 0 32) = v) :
    s.ctrlAnswer l b (some v) = s.ctrlDone l 0 (getBits v.toNat 0 32) := by
  simp only [State.ctrlAnswer, hout, ← htag, ← haddr, hok, hvalue, ne_eq, not_true_eq_false, or_self, Bool.false_eq_true,
    if_true, if_false]

end Answer

end Ctrl

/-- Settles O15: a control block alone on its lane is answered at once; a probe, a bond or a request that waits completes with
what it waits for or with its timeout. -/
theorem tenonControlComplete : Obligations.TenonControlComplete := by
  refine ⟨?viol, ?violBad, ?violBetween, ?credit, ?lecho, ?lechoBad, ?lechoBetween, ?probe, ?measure, ?track, ?bond,
    ?bondSkewed, ?bondLate, ?goRead, ?goDown, ?goRefused, ?rsp, ?rspBad, ?rspWrite, ?rspRead, ?ctrlLate, ?deferred, ?window⟩
  case viol => exact fun s l b ht hc => by rw [exec_violReceive, State.rxCtl_good _ ht hc]
  case violBad => exact fun s l b ht hc => by rw [exec_violReceive, State.rxCtl_bad _ ht hc]
  case violBetween =>
    intro s l b halone hbetween ht hc
    rw [exec_violReceive, State.rxCtl_of_receivesAlone _ halone ht hc, State.rxLogic, State.goodCtl_of_betweenTiles hbetween]
  case credit =>
    intro s l hup hboss
    rw [exec_creditRefresh, if_pos ⟨hup, hboss.symm⟩]
  case lecho =>
    intro s l b ago o hpers hlock hlat ht hc hout hnum
    rw [exec_lechoReceive_measuring ago hpers hlock ht hlat, if_pos hc, State.probeAnswer_of_out _ hout hnum]
  case lechoBad =>
    intro s l b ago hpers hlock hlat ht hc
    rw [exec_lechoReceive_measuring ago hpers hlock ht hlat, if_neg (by simp [hc])]
  case lechoBetween =>
    intro s l b ago o halone hbetween hpers hlock hlat ht hc hout hnum
    rw [exec_lechoReceive_tracking ago hpers hlock ht hlat, State.rxCtl_of_receivesAlone _ halone ht hc,
      State.rxLogic, State.goodCtl_of_betweenTiles hbetween,
      State.probeAnswer_of_out _ (by rw [State.lten_modTen]; exact hout) (by rw [State.lten_modTen]; exact hnum)]
  case probe =>
    intro s l hout hup
    rw [exec_probeTimeout, if_pos ⟨hout, hup.symm⟩]
  case measure =>
    intro s l hlat
    rw [exec_latencyMeasureTimeout, if_pos hlat]
  case track =>
    intro s l hup hboss htrack
    rw [exec_latTrackProbe, if_pos ⟨hup, hboss.symm, htrack⟩]
  case bond =>
    intro s l skew hready hmatch hskew
    rw [exec_bondForm_of_matched skew hready hmatch, if_neg (by omega)]
  case bondSkewed =>
    intro s l skew hready hmatch hskew
    rw [exec_bondForm_of_matched skew hready hmatch, if_pos hskew, State.bondFail]
  case bondLate =>
    intro s l hready
    rw [exec_bondDeskewTimeout, if_pos hready, State.bondFail]
  case goRead =>
    intro s l x hheld hboss hnone hread hx hup
    obtain rfl : x = s.ctrlAsked l false := hx
    rw [exec_ctrlGo_of_boss hheld hboss, State.ctrlGo_of_none hnone hread, if_neg (by simp [hup])]
    rfl
  case goDown =>
    intro s l x hheld hboss hnone hx hdown
    obtain rfl : x = s.ctrlAsked l (s.flag (TENON_CTRL_CMD_WRITE l)) := hx
    rw [exec_ctrlGo_of_boss hheld hboss, State.ctrlGo_of_none hnone rfl, if_pos (by simp [hdown])]
  case goRefused =>
    intro s l hheld hboss hout
    rw [exec_ctrlGo_of_boss hheld hboss, State.ctrlGo_of_outstanding hout]
  case rsp => exact fun s l b v ht hc => by rw [exec_ctrlRspReceive, State.rxCtl_good _ ht hc]
  case rspBad => exact fun s l b v ht hc => by rw [exec_ctrlRspReceive, State.rxCtl_bad _ ht hc]
  case rspWrite =>
    intro s l b v tg a halone hbetween ht hc hout htag haddr
    rw [exec_ctrlRspReceive, State.rxCtl_of_receivesAlone _ halone ht hc, State.rxLogic,
      State.goodCtl_of_betweenTiles hbetween,
      State.ctrlAnswer_of_write htag haddr v (by rw [State.lten_modTen]; exact hout)]
  case rspRead =>
    intro s l b v tg a halone hbetween ht hc hout htag haddr hok hvalue
    rw [exec_ctrlRspReceive, State.rxCtl_of_receivesAlone _ halone ht hc, State.rxLogic,
      State.goodCtl_of_betweenTiles hbetween,
      State.ctrlAnswer_of_read htag haddr (by rw [State.lten_modTen]; exact hout) hok hvalue]
  case ctrlLate =>
    intro s l hout
    rw [exec_ctrlTimeout, if_pos hout]
  case deferred =>
    intro s l r n d ls hfind
    rw [exec_violDeferredSend, execViolDeferredSend, hfind]
  case window =>
    intro s l hany hpers
    rw [exec_violWindowEnd, if_neg (by simp [hany, hpers])]

end Sys2Proof.Machine
end

section
/-!
PROOF. The setup of an Ethernet camera: ARP, the GVCP commands with their acknowledgements and timeouts, the heartbeat, and
the polls of the camera's clock.
-/

namespace Sys2Proof.Machine

open Reg

section Exec
variable (s : State) (l : Fin 96)

theorem exec_cameraSetup (ok : Bool) (v : Word) : exec (.cameraSetup l ok v) s = execCameraSetup l ok v s := rfl
theorem exec_setupRetryExpiry : exec (.setupRetryExpiry l) s =
    if s.ethUp l ∧ (s.leth l).retryWait then .next (s.setupBegin l) else .next s := rfl
theorem exec_gvcpAckTimeout : exec (.gvcpAckTimeout l) s =
    if !s.ethUp l || (s.leth l).gvcp.isEmpty then .next s
    else if (s.leth l).tries < 2 then .next ((s.modEth l (fun x => { x with tries := x.tries + 1 })).gvcpSend l)
    else .next (s.gvcpFailed l) := rfl
theorem exec_cameraScriptWaitExpiry : exec (.cameraScriptWaitExpiry l) s =
    if !(s.leth l).scriptWait then .next s
    else .next ((s.modEth l (fun x => { x with scriptWait := false, script := x.script + 1 })).setupScript l 4096) := rfl
theorem exec_arpRetry : exec (.arpRetry l) s = execArpRetry l s := rfl
theorem exec_arpReplyReceive (mac : Nat) : exec (.arpReplyReceive l mac) s =
    if !s.ethUp l then .next s
    else .next ((s.wr64 (ETH_CAM_MAC l) (mac % 2 ^ 48)).putB (ETH_STATUS_ARP_OK l) true) := rfl
theorem exec_arpRequestReceive (ip : Word) : exec (.arpRequestReceive l ip) s =
    if s.ethUp l ∧ ip = s.rd (ETH_LANE_IP l) then .next (s.ethSend l (.arp true ip.toNat)) else .next s := rfl
theorem exec_heartbeatRead (ok : Bool) : exec (.heartbeatRead l ok) s = execHeartbeatRead l ok s := rfl
theorem exec_camSyncPoll (v : Word) : exec (.camSyncPoll l v) s = execCamSyncPoll l v s := rfl
theorem exec_camSyncDelayExpiry : exec (.camSyncDelayExpiry l) s = execCamSyncDelayExpiry l s := rfl

end Exec

/-- A frame made ready to be sent changes nothing of its lane but the frames that wait. -/
theorem State.leth_ethSend (s : State) (l : Nat) (m : EthMsg) :
    (s.ethSend l m).leth l = { s.leth l with txq := (s.leth l).txq ++ [m] } :=
  s.leth_modEth l _

/-! ### Steps of the setup -/

section Setup
variable {s : State} {l : Fin 96} (ok : Bool) (v : Word)

theorem exec_cameraSetup_of_ready (hready : s.flag (ETH_STATUS_READY l) = true) :
    exec (.cameraSetup l ok v) s = .next s := by
  rw [exec_cameraSetup, execCameraSetup]
  exact if_pos (by simp [hready])

/-- A camera that is not ready and waits for no retry begins its setup, or takes the next step of it (R175, R177). -/
theorem exec_cameraSetup_of_notReady (hup : s.ethUp l = true) (hretry : (s.leth l).retryWait = false)
    (hready : s.flag (ETH_STATUS_READY l) = false) : exec (.cameraSetup l ok v) s =
      if !(s.leth l).setup then .next (s.setupBegin l)
      else if s.get (ETH_STATUS_SETUP_STEP l) = 1 then
        .next (s.iff (s.flag (ETH_STATUS_ARP_OK l)) (fun s => s.setupGoto l 2))
      else .next (s.iff (s.gvcpIs l 0) (fun s => (s.gvcpNext l).setupAck l ok v.toNat)) := by
  rw [exec_cameraSetup, execCameraSetup]
  exact if_neg (by simp [hup, hretry, hready])

/-- Without an answer ARP asks again, and every tenth request is logged (R174). -/
theorem exec_arpRetry_of_unresolved (hup : s.ethUp l = true) (hsetup : (s.leth l).setup = true)
    (hstep : s.get (ETH_STATUS_SETUP_STEP l) = 1) (harp : s.flag (ETH_STATUS_ARP_OK l) = false) :
    exec (.arpRetry l) s = .next (((s.modEth l (fun x => { x with arps := x.arps + 1 })).ethSend l
      (.arp false (s.rdN (ETH_CAMERA_IP l)))).iff (((s.leth l).arps + 1) % 10 == 0) (fun s => s.ethLog l 0x1340)) := by
  rw [exec_arpRetry, execArpRetry, if_neg (by simp [hup, hsetup, hstep, harp])]
  simp only [State.leth_ethSend, State.leth_modEth]

end Setup

/-! ### GVCP commands waited for -/

section Gvcp
variable {s : State} {l : Fin 96}

/-- A GVCP command without an acknowledgement goes out again twice, and then has failed (R176). -/
theorem exec_gvcpAckTimeout_of_waiting (hup : s.ethUp l = true) (hcmd : (s.leth l).gvcp ≠ []) :
    exec (.gvcpAckTimeout l) s =
      if (s.leth l).tries < 2 then .next ((s.modEth l (fun x => { x with tries := x.tries + 1 })).gvcpSend l)
      else .next (s.gvcpFailed l) := by
  rw [exec_gvcpAckTimeout, if_neg (by simp [hup, hcmd])]

/-- With control held the heartbeat is read, or the read waited for is acknowledged (R176). -/
theorem exec_heartbeatRead_of_held (ok : Bool) (hup : s.ethUp l = true)
    (hheld : s.flag (ETH_STATUS_CTRL_HELD l) = true) : exec (.heartbeatRead l ok) s =
      if s.gvcpIs l 1 then .next (if ok then s.gvcpNext l else ((s.controlLost l).ethNotReady l).setupBegin l)
      else .next (s.iff (!(s.leth l).gvcp.any (fun (c : GvcpCmd) => c.why == 1))
        (fun s => s.gvcpPush l 1 1 0x0938 0)) := by
  rw [exec_heartbeatRead, execHeartbeatRead, if_neg (by simp [hup, hheld])]

end Gvcp

/-! ### The camera's clock -/

section Sync
variable {s x : State} {l : Fin 96}

/-- The camera becomes ready where its setup waits in step 6 for its clock (R177). -/
def State.readyIfSynced (s : State) (l : Nat) : State :=
  s.iff ((s.leth l).setup && s.get (ETH_STATUS_SETUP_STEP l) == 6) (fun s => s.setupReady l)

theorem State.readyIfSynced_of_outside {l : Nat} (hsetup : (s.leth l).setup = false) : s.readyIfSynced l = s :=
  s.iff_false _ (by simp [hsetup])

theorem State.readyIfSynced_of_waiting {l : Nat} (hsetup : (s.leth l).setup = true)
    (hstep : s.get (ETH_STATUS_SETUP_STEP l) = 6) : s.readyIfSynced l = s.setupReady l :=
  s.iff_true _ (by simp [hsetup, hstep])

/-- Two seconds after the first delay response, a camera whose script polls nothing counts as synchronised (R177). -/
theorem exec_camSyncDelayExpiry_of_due (hup : s.ethUp l = true) (hptp : s.flagE l (ETH_CFG_PTP_EN l) = true)
    (hpoll : s.hasPoll l 4096 0 = false) (hdreq : (s.leth l).dreq = true)
    (hx : x = s.putB (ETH_STATUS_CAM_SYNCED l) true) : exec (.camSyncDelayExpiry l) s = .next (x.readyIfSynced l) := by
  rw [exec_camSyncDelayExpiry, execCamSyncDelayExpiry, if_neg (by simp [hup, hptp, hpoll, hdreq]), ← hx,
    State.readyIfSynced]

variable {a m w : Nat} (v : Word) (hup : s.ethUp l = true) (hreg : (s.leth l).syncReg = some (a, m, w))
include hup hreg

theorem exec_camSyncPoll_asks (hnot : s.gvcpIs l 2 = false)
    (hnone : (s.leth l).gvcp.any (fun (c : GvcpCmd) => c.why == 2) = false) :
    exec (.camSyncPoll l v) s = .next (s.gvcpPush l 2 1 a 0) := by
  simp only [exec_camSyncPoll, execCamSyncPoll, hreg, hup, hnot, hnone, Bool.not_true, Bool.not_false,
    Bool.false_eq_true, if_false, State.iff_true]

/-- The value polled is compared under its mask, and a camera whose setup waits for it in step 6 becomes ready (R177). -/
theorem exec_camSyncPoll_answered (hask : s.gvcpIs l 2 = true)
    (hx : x = (s.gvcpNext l).putB (ETH_STATUS_CAM_SYNCED l) (Nat.land v.toNat m == w)) :
    exec (.camSyncPoll l v) s = .next (x.iff ((x.leth l).setup && x.get (ETH_STATUS_SETUP_STEP l) == 6 &&
      x.flag (ETH_STATUS_CAM_SYNCED l)) (fun s => s.setupReady l)) := by
  simp only [exec_camSyncPoll, execCamSyncPoll, hreg, hup, hask, ← hx, Bool.not_true, Bool.false_eq_true, if_false,
    if_true]

end Sync

/-- Settles O18: the setup goes on, retries or begins again by its step, and a GVCP command by what answers it. -/
theorem ethernetSetupComplete : Obligations.EthernetSetupComplete := by
  refine ⟨?begins, ?arpDone, ?acked, ?ready, ?retry, ?again, ?failed, ?noCommand, ?script, ?arp, ?arpLogged, ?reply,
    ?request, ?requestOther, ?beat, ?beatHeld, ?beatLost, ?poll, ?polled, ?polledReady, ?delay, ?delayReady⟩
  case begins =>
    intro s l ok v hup hretry hready hsetup
    rw [exec_cameraSetup_of_notReady ok v hup hretry hready, if_pos (by simp [hsetup])]
  case arpDone =>
    intro s l ok v hup hretry hready hsetup hstep harp
    rw [exec_cameraSetup_of_notReady ok v hup hretry hready, if_neg (by simp [hsetup]), if_pos hstep,
      State.iff_true _ _ harp]
  case acked =>
    intro s l ok v hup hretry hready hsetup hstep hcmd
    rw [exec_cameraSetup_of_notReady ok v hup hretry hready, if_neg (by simp [hsetup]), if_neg hstep,
      State.iff_true _ _ hcmd]
  case ready => exact fun s l ok v hready => exec_cameraSetup_of_ready ok v hready
  case retry =>
    intro s l hup hretry
    rw [exec_setupRetryExpiry, if_pos ⟨hup, hretry⟩]
  case again =>
    intro s l hup hcmd htries
    rw [exec_gvcpAckTimeout_of_waiting hup hcmd, if_pos htries]
  case failed =>
    intro s l hup hcmd htries
    rw [exec_gvcpAckTimeout_of_waiting hup hcmd, if_neg (by omega)]
  case noCommand =>
    intro s l hnone
    rw [exec_gvcpAckTimeout, if_pos (by simp [hnone])]
  case script =>
    intro s l hwait
    rw [exec_cameraScriptWaitExpiry, if_neg (by simp [hwait])]
  case arp =>
    intro s l hup hsetup hstep harp hcount
    rw [exec_arpRetry_of_unresolved hup hsetup hstep harp, State.iff_false _ _ (by simpa using hcount)]
  case arpLogged =>
    intro s l hup hsetup hstep harp hcount
    rw [exec_arpRetry_of_unresolved hup hsetup hstep harp, State.iff_true _ _ (by simpa using hcount)]
  case reply =>
    intro s l mac hup
    rw [exec_arpReplyReceive, if_neg (by simp [hup])]
  case request =>
    intro s l ip hup hip
    rw [exec_arpRequestReceive, if_pos ⟨hup, hip⟩]
  case requestOther =>
    intro s l ip hup hip
    rw [exec_arpRequestReceive, if_neg (by simp [hip])]
  case beat =>
    intro s l ok hup hheld hnone hnot
    rw [exec_heartbeatRead_of_held ok hup hheld, if_neg (by simp [hnot]), State.iff_true _ _ (by simp [hnone])]
  case beatHeld =>
    intro s l hup hheld hcmd
    rw [exec_heartbeatRead_of_held true hup hheld, if_pos hcmd, if_pos rfl]
  case beatLost =>
    intro s l hup hheld hcmd
    rw [exec_heartbeatRead_of_held false hup hheld, if_pos hcmd, if_neg Bool.false_ne_true]
  case poll => exact fun s l v a m w hup hreg hnot hnone => exec_camSyncPoll_asks v hup hreg hnot hnone
  case polled =>
    intro s l v a m w x hup hreg hask hx hsetup
    rw [exec_camSyncPoll_answered v hup hreg hask hx, State.iff_false _ _ (by simp [hsetup])]
  case polledReady =>
    intro s l v a m w x hup hreg hask hx hsetup hstep hsynced
    rw [exec_camSyncPoll_answered v hup hreg hask hx, State.iff_true _ _ (by simp [hsetup, hstep, hsynced])]
  case delay =>
    intro s l x hup hptp hpoll hdreq hx hsetup
    rw [exec_camSyncDelayExpiry_of_due hup hptp hpoll hdreq hx, State.readyIfSynced_of_outside hsetup]
  case delayReady =>
    intro s l x hup hptp hpoll hdreq hx hsetup hstep
    rw [exec_camSyncDelayExpiry_of_due hup hptp hpoll hdreq hx, State.readyIfSynced_of_waiting hsetup hstep]

end Sys2Proof.Machine
end

section
/-!
PROOF. The time of an Ethernet lane: the messages of its PTP port, and the action commands that fire its camera.
-/

namespace Sys2Proof.Machine

open Reg

section Exec
variable (s : State) (l : Fin 96)

theorem exec_ptpSyncSend : exec (.ptpSyncSend l) s = execPtpSyncSend l s := rfl
theorem exec_ptpAnnounceSend : exec (.ptpAnnounceSend l) s = execPtpAnnounceSend l s := rfl
theorem exec_delayReqReceive (req : PtpReq) (ago : Nat) :
    exec (.delayReqReceive l req ago) s = execDelayReqReceive l req ago s := rfl
theorem exec_actionCmdSend : exec (.actionCmdSend l) s = execActionCmdSend l s := rfl
theorem exec_actionTimePass : exec (.actionTimePass l) s = execActionTimePass l s := rfl

end Exec

/-! ### PTP -/

section Ptp
variable {s : State} {l : Fin 96}

/-- An Announce with the given clockClass, clockAccuracy and timeSource is ready to be sent (R182). -/
def State.announce (s : State) (l clockClass accuracy source : Nat) : State :=
  (s.ethSend l (.announce (s.get (ETH_PTP_PTP_DOMAIN l)) (s.leth l).annSeq clockClass accuracy source
    (s.rdN TB_UTC_OFFSET) true)).modEth l (fun x => { x with annSeq := ((s.leth l).annSeq + 1) % 65536 })

/-- The Announce of each CLASS (R243). -/
def State.announceIn (s : State) (l : Nat) : Nat → State
  | 0 => s.announce l 248 0xFE 0xA0
  | 1 => s.announce l 14 0xFE 0xA0
  | 2 => s.free.2.announce l 13 0x22 (if s.free.1 % 2 = 0 then 0x20 else 0x90)
  | _ => s.announce l 13 0x21 0x90

theorem exec_ptpAnnounceSend_of_running (hup : s.ethUp l = true) (hptp : (s.leth l).ptp = true) :
    exec (.ptpAnnounceSend l) s = .next (s.announceIn l (s.get TB_QUALITY_CLASS)) := by
  rw [exec_ptpAnnounceSend, execPtpAnnounceSend, if_neg (by simp [hup, hptp])]
  generalize s.get TB_QUALITY_CLASS = c
  match c with
  | 0 => rfl
  | 1 => rfl
  | 2 => rfl
  | c + 3 =>
    have hother : c + 3 ≠ 2 := by omega
    simp only [hother, if_false]
    rfl

end Ptp

/-! ### Action commands sent -/

section Send
variable {s : State} {l : Fin 96} {tr : Trigger} (hnext : s.nextAction l = some tr)
include hnext

theorem exec_actionCmdSend_of_unable (hunable : s.ethUp l = false ∨ s.flagE l (ETH_CFG_ACT_EN l) = false ∨
    s.outCommit = false ∨ s.flag (ETH_STATUS_READY l) = false) :
    exec (.actionCmdSend l) s = .next ((s.ethLog l 0x1331).reportNotSent tr) := by
  rw [exec_actionCmdSend, execActionCmdSend, hnext]
  exact if_pos (by rcases hunable with h | h | h | h <;> simp [h])

variable (hup : s.ethUp l = true) (hen : s.flagE l (ETH_CFG_ACT_EN l) = true) (hout : s.outCommit = true)
  (hready : s.flag (ETH_STATUS_READY l) = true) (hptp : s.flagE l (ETH_CFG_PTP_EN l) = false)
include hup hen hout hready hptp

theorem exec_actionCmdSend_of_full (hfull : s.actQueue l ≤ (s.leth l).actOut.length) :
    exec (.actionCmdSend l) s = .next s := by
  rw [exec_actionCmdSend, execActionCmdSend, hnext]
  exact (if_neg (by simp [hup, hen, hout, hready, hptp])).trans (if_pos hfull)

/-- A command in time leaves for its own instant, and is outstanding until that has passed (R183 to R185). -/
theorem exec_actionCmdSend_of_inTime {a : Int} {x y : State} (hroom : (s.leth l).actOut.length < s.actQueue l)
    (ha : a = roundDiv tr.tf 65536 * 65536) (hlead : s.nowI + nsT (s.getE l (ETH_ACT_CFG_MIN_LEAD_US l) * 1000) ≤ a)
    (hx : x = (s.ethSend l (.action (tr.id % 65535 + 1) (s.rdE l (ETH_ACT_DEVKEY l)) (s.rdE l (ETH_ACT_GROUPKEY l))
      (s.rdE l (ETH_ACT_GROUPMASK l)) (a / 65536).toNat)).bump (ETH_CNT_ACT l))
    (hfree : (x.ethFree l).length < 64)
    (hy : y = (x.modTrigs (fun ts => ts.map (fun (u : Trigger) =>
      if u.id == tr.id then { u with sent := true, tf := a, actTime := a, tc := a + u.lead } else u))).modEth l
        (fun z => { z with actOut := z.actOut ++ [tr.id] })) :
    exec (.actionCmdSend l) s =
      .next ((y.put (ETH_STATUS_ACT_OUT l) (y.leth l).actOut.length).showCommitted tr.seq) := by
  have hnotFull : ¬ s.actQueue l ≤ (s.leth l).actOut.length := by omega
  have hinTime : ¬ a < s.nowI + nsT (s.getE l (ETH_ACT_CFG_MIN_LEAD_US l) * 1000) := by omega
  have hserved : ¬ 64 ≤ (x.ethFree l).length := by omega
  simp only [exec_actionCmdSend, execActionCmdSend, hnext, hup, hen, hout, hready, hptp, hnotFull, ← ha, hinTime,
    decide_false, Bool.not_true, Bool.false_and, Bool.or_self, Bool.false_eq_true, if_false, State.iff, ← hx, hserved,
    ← hy]

end Send

/-! ### Action times that pass -/

/-- The oldest command stays outstanding only while its trigger's action time lies ahead (R184). -/
theorem exec_actionTimePass_of_first {s : State} {l : Fin 96} {i : Nat} {r : List Nat}
    (hfirst : (s.leth l).actOut = i :: r) : exec (.actionTimePass l) s =
    if (s.trigs.find? (fun (t : Trigger) => t.id == i)).any (fun t => decide (s.nowI < t.actTime)) then .next s
    else .next ((s.modEth l (fun x => { x with actOut := r })).put (ETH_STATUS_ACT_OUT l) r.length) := by
  rw [exec_actionTimePass, execActionTimePass, hfirst]
  dsimp only
  cases s.trigs.find? (fun (t : Trigger) => t.id == i) <;> rfl

/-- Settles O19: a message of the running port leaves with what the registers give; an action command leaves, waits or is
reported, and is outstanding until its time. -/
theorem ethernetTimeComplete : Obligations.EthernetTimeComplete := by
  refine ⟨?sync, ?announce0, ?announce1, ?announce2, ?announce3, ?delayReq, ?delayReqOther, ?unable, ?inTime, ?full,
    ?passGone, ?passDue, ?passAhead⟩
  case sync =>
    intro s l hup hptp
    rw [exec_ptpSyncSend, execPtpSyncSend, if_neg (by simp [hup, hptp])]
  case announce0 =>
    intro s l hup hptp hclass
    rw [exec_ptpAnnounceSend_of_running hup hptp, hclass]
    rfl
  case announce1 =>
    intro s l hup hptp hclass
    rw [exec_ptpAnnounceSend_of_running hup hptp, hclass]
    rfl
  case announce2 =>
    intro s l hup hptp hclass
    rw [exec_ptpAnnounceSend_of_running hup hptp, hclass]
    rfl
  case announce3 =>
    intro s l hup hptp hclass
    rw [exec_ptpAnnounceSend_of_running hup hptp, hclass]
    rfl
  case delayReq =>
    intro s l d n ago hup hptp hdomain
    rw [exec_delayReqReceive, execDelayReqReceive, if_neg (by simp [hup, hptp, hdomain])]
  case delayReqOther =>
    intro s l d n ago hdomain
    rw [exec_delayReqReceive, execDelayReqReceive, if_pos (by simp [hdomain])]
  case unable => exact fun s l tr hnext hunable => exec_actionCmdSend_of_unable hnext hunable
  case inTime =>
    intro s l tr a x y hnext hup hen hout hready hptp hroom ha hlead hx hfree hy
    exact exec_actionCmdSend_of_inTime hnext hup hen hout hready hptp hroom ha hlead hx hfree hy
  case full =>
    exact fun s l tr hnext hup hen hout hready hptp hfull =>
      exec_actionCmdSend_of_full hnext hup hen hout hready hptp hfull
  case passGone =>
    intro s l i r hfirst hgone
    rw [exec_actionTimePass_of_first hfirst, hgone]
    rfl
  case passDue =>
    intro s l i r tr hfirst htr hdue
    rw [exec_actionTimePass_of_first hfirst, htr, if_neg (by simp [hdue])]
  case passAhead =>
    intro s l i r tr hfirst htr hahead
    rw [exec_actionTimePass_of_first hfirst, htr, if_pos (by simp [hahead])]

end Sys2Proof.Machine
end

section
/-!
PROOF. The commands of the trigger sequencers: commit, firing, pulses, the list and the copy of a state (R207, R217 to R236).
-/

namespace Sys2Proof.Machine

open Reg

section Exec
variable (s : State)

theorem exec_targetCommit (q : Fin 128) : exec (.targetCommit q) s = execTargetCommit q s := rfl
theorem exec_firingInstant (i : Nat) : exec (.firingInstant i) s = execFiringInstant i s := rfl
theorem exec_pulseStart (i : Nat) : exec (.pulseStart i) s = execPulseStart i s := rfl
theorem exec_pulseEnd (q : Fin 128) : exec (.pulseEnd q) s = .next (s.endPulses 1 q) := rfl
theorem exec_listEntryRetry (q : Fin 128) : exec (.listEntryRetry q) s =
    .next (s.iff (s.trRunning q && s.flag (TRIG_STATUS_STALLED q))
      (fun x => x.loadEntry q (x.get (TRIG_STATUS_LIST_IDX q)))) := rfl
theorem exec_exposureCentreCopy (i : Nat) : exec (.exposureCentreCopy i) s = execExposureCentreCopy i s := rfl

end Exec

/-! ### Commit -/

section Commit
variable {s : State} {q : Fin 128} (hrun : s.trRunning q = true) (hhas : (s.sq q).has = true)
include hrun hhas

/-- A target is judged once its lead is reached, unless its channel's coldness or direction withholds it (R223, R233,
R234). -/
theorem exec_targetCommit_judges {tf : Int} (hmode : s.trMode q ≠ 3)
    (hwarm : s.trMode q < 2 → s.flag (POS_STATUS_WARM (s.trChan q)) = true)
    (hdir : s.trMode q < 2 → s.flag (POS_STATUS_DIR (s.trChan q)) = true → s.trBidir q = true)
    (htf : (s.sq q).tf = some tf) (hlead : tf - s.commitLead q ≤ s.nowI) :
    exec (.targetCommit q) s = .next (s.judge q tf false false 0) := by
  rw [exec_targetCommit, execTargetCommit]
  rw [if_neg (by simp [hrun, hhas, hmode]), if_neg (by simpa using hwarm), if_neg (by simpa using hdir), htf]
  exact if_neg (by omega)

/-- A PITCH or LIST sequencer of a channel that is not warm is put to the cold test (R233). -/
theorem exec_targetCommit_of_cold (hmode : s.trMode q < 2) (hcold : s.flag (POS_STATUS_WARM (s.trChan q)) = false) :
    exec (.targetCommit q) s = .next (s.coldTest q) := by
  have hnotEvent : s.trMode q ≠ 3 := by omega
  rw [exec_targetCommit, execTargetCommit]
  rw [if_neg (by simp [hrun, hhas, hnotEvent]), if_pos (by simp [hmode, hcold])]

end Commit

/-! ### Pulses -/

theorem State.pulseEnd_modTrigs (s : State) (f : List Trigger → List Trigger) (g : Nat) :
    (s.modTrigs f).pulseEnd g = s.pulseEnd g := rfl
theorem State.pinDrives_modTrigs (s : State) (f : List Trigger → List Trigger) (g : Nat) :
    (s.modTrigs f).pinDrives g = s.pinDrives g := rfl

section Pulse
variable {s : State} {i : Nat} {tr : Trigger}
  (htr : s.trigs.find? (fun t => t.id == i && t.path == 3 && !t.sent) = some tr) (hdue : tr.tf ≤ s.nowI)
include htr hdue

/-- A pulse whose pin is free drives it from the firing's instant on (R236). -/
theorem exec_pulseStart_of_free (hfree : s.pulseEnd (tr.out % 64) = none) (hdrives : s.pinDrives (tr.out % 64) = true) :
    exec (.pulseStart i) s =
      .next (((((s.modTrigs (fun ts => ts.map (fun (u : Trigger) => if u.id == i then { u with sent := true } else
        u))).setPulseEnd (tr.out % 64) (some ⟨s.elapsed + (tr.tf - s.nowI) + nsT tr.width, 1, tr.seq⟩)).pinActive
        (tr.out % 64) true).showCommitted tr.seq).cleanTrigs) := by
  rw [exec_pulseStart, execPulseStart, htr]
  dsimp only
  rw [if_neg (by omega), State.pulseEnd_modTrigs, hfree]
  dsimp only
  rw [State.iff_true _ _ ((s.pinDrives_modTrigs _ _).trans hdrives)]

/-- A pulse that runs on the pin is extended to the later end, and the firings have merged (R236). -/
theorem exec_pulseStart_of_running {p : Pulse} (hpulse : s.pulseEnd (tr.out % 64) = some p) :
    exec (.pulseStart i) s =
      .next ((((((s.modTrigs (fun ts => ts.map (fun (u : Trigger) => if u.id == i then { u with sent := true } else
        u))).setPulseEnd (tr.out % 64) (some ⟨max (s.elapsed + (tr.tf - s.nowI) + nsT tr.width) p.stop, 1,
        tr.seq⟩)).bump (TRIG_CNT_MERGED tr.seq)).raise 6 (TRIG_EVENTS_MERGED tr.seq)).showCommitted tr.seq).cleanTrigs) := by
  rw [exec_pulseStart, execPulseStart, htr]
  dsimp only
  rw [if_neg (by omega), State.pulseEnd_modTrigs, hpulse]

end Pulse

/-- The only pulse ends with its width, at its owner's command (R236). -/
theorem State.endPulses_single {s : State} {owner index g : Nat} {p : Pulse} (hpulses : s.pulses = [(g, some p)])
    (howner : p.owner = owner) (hindex : p.index = index) (hstop : p.stop ≤ s.elapsed) :
    s.endPulses owner index = (s.setPulseEnd g none).pinActive g false := by
  have hends : (p.owner == owner && p.index == index && decide (p.stop ≤ s.elapsed)) = true := by
    simp [howner, hindex, hstop]
  rw [State.endPulses, hpulses, List.foldl_cons, List.foldl_nil]
  exact s.iff_true _ hends

/-- Settles O7: a target is judged or tested cold, and a trigger's firing, pulse and copy act at or after its instant. -/
theorem triggersComplete : Obligations.TriggersComplete := by
  refine ⟨?warm, ?cold, ?time, ?fires, ?pulse, ?merged, ?pulseEnds, ?retry, ?copy⟩
  case warm =>
    intro s q tf hrun hhas hmode hwarm hdir htf hlead
    exact exec_targetCommit_judges hrun hhas (by omega) (fun _ => hwarm)
      (fun _ hrev => hdir.resolve_left (by simp [hrev])) htf hlead
  case cold => exact fun s q hrun hhas hmode hcold => exec_targetCommit_of_cold hrun hhas hmode hcold
  case time =>
    intro s q tf hrun hhas hmode htf hlead
    exact exec_targetCommit_judges hrun hhas (by omega) (by omega) (by omega) htf hlead
  case fires =>
    intro s i tr htr hdue hpath
    have hfixed : ((tr.path == 1 || tr.path == 2) && !tr.sent) = false := by
      rcases hpath with ⟨h1, h2⟩ | hsent
      · simp [h1, h2]
      · simp [hsent]
    rw [exec_firingInstant, execFiringInstant, htr]
    exact if_neg (by simp [hfixed, hdue])
  case pulse => exact fun s i tr htr hdue hfree hdrives => exec_pulseStart_of_free htr hdue hfree hdrives
  case merged => exact fun s i tr p htr hdue hpulse => exec_pulseStart_of_running htr hdue hpulse
  case pulseEnds =>
    intro s q g p hpulses howner hindex hstop
    rw [exec_pulseEnd, State.endPulses_single hpulses howner hindex hstop]
  case retry =>
    intro s q hrun hstalled
    rw [exec_listEntryRetry, State.iff_true _ _ (by simp [hrun, hstalled])]
  case copy =>
    intro s i tr htr hcopied hdue
    rw [exec_exposureCentreCopy, execExposureCentreCopy, htr]
    exact if_neg (by simp [hcopied, hdue])

end Sys2Proof.Machine
end

section
/-!
PROOF. What enters a position channel: encoder transitions, the index, the probe, and the commands of POS_CMD (R191 to R194,
R198 to R201, R206, R208 to R210).
-/

namespace Sys2Proof.Machine

open Reg

section Exec
variable (s : State) (c : Fin 16)

theorem exec_encoderTransition (a b z : Bool) (ago : Nat) :
    exec (.encoderTransition c a b z ago) s = execEncoderTransition c a b z ago s := rfl
theorem exec_indexEvent (ago : Nat) : exec (.indexEvent c ago) s = execIndexEvent c ago s := rfl
theorem exec_encZFall : exec (.encZFall c) s =
    .next (s.iff (!s.mc.encOff) (fun x => x.modPch c (fun p => { p with lvZ := false, zDone := false }))) := rfl
theorem exec_probeEdge (level : Bool) (ago : Nat) : exec (.probeEdge c level ago) s = execProbeEdge c level ago s := rfl
theorem exec_posSnap : exec (.posSnap c) s = .next (s.posSnap c) := rfl
theorem exec_posPreset : exec (.posPreset c) s =
    .next (s.iff (s.pch c).runs (fun x => x.offset c (x.rdS (POS_PRESET c) - x.count c) (some 0) false)) := rfl
theorem exec_posArm : exec (.posArm c) s =
    .next (s.iff (s.pch c).runs (fun x => x.putB (POS_STATUS_ARMED c) true)) := rfl
theorem exec_obsReset : exec (.obsReset c) s = .next (s.iff (s.pch c).runs (fun x => x.obsStart c x.nowI)) := rfl

end Exec

/-- A change of a channel is determined by what it makes of the channel as it is. -/
theorem State.modPch_congr {s : State} {c : Nat} {f g : PosChan → PosChan} (h : f (s.pch c) = g (s.pch c)) :
    s.modPch c f = s.modPch c g := by
  rw [State.modPch, h, State.modPch]

/-! ### Encoder transitions -/

/-- A transition decoded to a count, captured with the edge's stamp, or found illegal (R192 to R194). -/
def State.decoded (s : State) (c : Nat) (t : Int) : Option Int → State
  | some n => s.edgeCount c n t
  | none => s.illegal c

/-- The place of the levels at the balls A and B in the quadrature order, exchanged under SWAP_AB (R193). -/
def State.quadPlaceAt (s : State) (c : Nat) (a b : Bool) : Nat :=
  if s.flag (POS_CTRL_SWAP_AB c) then quadPlace b a else quadPlace a b

theorem State.quadPlaceAt_straight {s : State} {c : Nat} (h : s.flag (POS_CTRL_SWAP_AB c) = false) :
    s.quadPlaceAt c = quadPlace := funext₂ fun _ _ => if_neg (by simp [h])
theorem State.quadPlaceAt_swapped {s : State} {c : Nat} (h : s.flag (POS_CTRL_SWAP_AB c) = true) :
    s.quadPlaceAt c = fun a b => quadPlace b a := funext₂ fun _ _ => if_pos h

section Transition
variable {s : State} {c : Fin 16} {a b : Bool} {ago : Nat} (z : Bool) (hrun : (s.pch c).runs = true)
  (hon : s.mc.encOff = false) (hfilter : s.filtered c ago = true)
include hrun hon hfilter

/-- In quadrature mode the accepted levels of A and B decode by the table under DECODE (R193). -/
theorem exec_encoderTransition_quad (hmode : s.posMode c = 1) (hmoved : ((s.pch c).lvA, (s.pch c).lvB) ≠ (a, b)) :
    exec (.encoderTransition c a b z ago) s = .next ((s.modPch c (fun p => { p with lvA := a, lvB := b })).decoded c
      (s.nowI - edgeAgo ago) (quadCount (s.get (POS_CTRL_DECODE c)) (s.quadPlaceAt c (s.pch c).lvA (s.pch c).lvB)
        (s.quadPlaceAt c a b))) := by
  have hlevels : s.modPch c (fun p =>
      { p with lvA := a, lvB := b, lvZ := if s.posMode c = 2 ∨ !p.runs then z else p.lvZ }) =
      s.modPch c (fun p => { p with lvA := a, lvB := b }) := State.modPch_congr (by simp [hmode, hrun])
  have hstill : ¬ ((s.pch c).lvA = a ∧ (s.pch c).lvB = b) := by simpa using hmoved
  rw [exec_encoderTransition, execEncoderTransition]
  rw [if_neg (by simp [hon, hfilter]), if_neg (by simp [hrun]), hlevels, hmode]
  dsimp only
  rw [if_neg hstill, ← State.quadPlaceAt, ← State.quadPlaceAt]
  cases quadCount (s.get (POS_CTRL_DECODE c)) (s.quadPlaceAt c (s.pch c).lvA (s.pch c).lvB) (s.quadPlaceAt c a b) <;> rfl

/-- In Hall mode the accepted levels of all three balls decode by the Hall table (R194). -/
theorem exec_encoderTransition_hall (hmode : s.posMode c = 2)
    (hmoved : ((s.pch c).lvA, (s.pch c).lvB, (s.pch c).lvZ) ≠ (a, b, z)) :
    exec (.encoderTransition c a b z ago) s =
      .next ((s.modPch c (fun p => { p with lvA := a, lvB := b, lvZ := z })).decoded c (s.nowI - edgeAgo ago)
        (hallCount (hallPlace (s.pch c).lvA (s.pch c).lvB (s.pch c).lvZ) (hallPlace a b z))) := by
  have hlevels : s.modPch c (fun p =>
      { p with lvA := a, lvB := b, lvZ := if s.posMode c = 2 ∨ !p.runs then z else p.lvZ }) =
      s.modPch c (fun p => { p with lvA := a, lvB := b, lvZ := z }) := State.modPch_congr (by simp [hmode])
  have hstill : ¬ ((s.pch c).lvA = a ∧ (s.pch c).lvB = b ∧ (s.pch c).lvZ = z) := by simpa using hmoved
  rw [exec_encoderTransition, execEncoderTransition]
  rw [if_neg (by simp [hon, hfilter]), if_neg (by simp [hrun]), hlevels, hmode]
  dsimp only
  rw [if_neg hstill]
  cases hallCount (hallPlace (s.pch c).lvA (s.pch c).lvB (s.pch c).lvZ) (hallPlace a b z) <;> rfl

end Transition

/-! ### Index, probe and snapshots -/

/-- An index event outside the modes that set a reference is counted, raised and produced, and no more (R200). -/
theorem exec_indexEvent_plain {s x : State} {c : Fin 16} {ago : Nat} (hrun : (s.pch c).runs = true)
    (hon : s.mc.encOff = false) (hfilter : s.filtered c ago = true) (hmode : s.posMode c = 1)
    (hfirst : (s.pch c).zDone = false) (hopen : s.flag (POS_INDEX_CFG_GATED c) = false)
    (hx : x = (((s.modPch c (fun p => { p with zDone := true, lvZ := true })).bump (POS_CNT_INDEX c)).raise 5
      (POS_EVENTS_INDEX c)).produce (16 + 3 * c) 0) (hplain : x.get (POS_INDEX_CFG_INDEX_MODE c) = 0) :
    exec (.indexEvent c ago) s = .next x := by
  rw [exec_indexEvent, execIndexEvent]
  dsimp only
  rw [if_neg (by simp [hrun, hon, hfilter, hmode, hfirst, hopen]), ← hx, hplain]
  rfl

/-- A selected edge, the first of its channel, is captured with its stamp, published, raised and produced (R208, R209). -/
theorem exec_probeEdge_first {s x : State} {c : Fin 16} {level : Bool} {ago : Nat} (hrun : (s.pch c).runs = true)
    (hon : s.mc.encOff = false) (hfilter : s.filtered c ago = true) (hmoved : (s.pch c).lvProbe ≠ level)
    (hsel : bit (s.get (POS_PROBE_CFG_PROBE_EDGE c)) (if level then 0 else 1) = true)
    (hfirst : (s.pch c).lastProbe = none) (hfine : s.flag TB_STATUS_COARSE = false)
    (hx : x = (((s.modPch c (fun p => { p with lvProbe := level })).modPch c (fun p =>
      { p with lastProbe := some s.tb.ticks })).modPch c (fun p => { p with probeCyc := some s.encCyc })).wrN
        (POS_PROBE_FLAGS c) (if level then 1 else 2)) :
    exec (.probeEdge c level ago) s = .next (((((x.probeTake c (s.nowI - edgeAgo ago)).wrTime (POS_PROBE_TIME c)
      (s.nowI - edgeAgo ago).toNat).publishC (POS_PROBE_STATUS c)).raise 5 (POS_EVENTS_PROBE c)).produce (17 + 3 * c) 0) := by
  subst hx
  rw [exec_probeEdge, execProbeEdge]
  dsimp only
  rw [if_neg (by simp [hon, hfilter, hmoved]), if_neg (by simp [hrun, hsel]), hfirst]
  dsimp only
  rw [if_neg Bool.false_ne_true, State.iff_true _ _ (by simp [hfine])]
  rfl

/-- Settles O8: accepted levels decode by the mode's table, the index and the probe act once an edge, and a command acts on
a channel that runs. -/
theorem positionInputsComplete : Obligations.PositionInputsComplete := by
  refine ⟨?quad, ?quadIllegal, ?swapped, ?swappedIllegal, ?hall, ?hallIllegal, ?index, ?zFall, ?probe, ?snap, ?preset,
    ?arm, ?restart⟩
  case quad =>
    intro s c a b z ago n hrun hon hfilter hmode hswap hmoved hcount
    rw [exec_encoderTransition_quad z hrun hon hfilter hmode hmoved, State.quadPlaceAt_straight hswap, hcount]
    rfl
  case quadIllegal =>
    intro s c a b z ago hrun hon hfilter hmode hswap hmoved hcount
    rw [exec_encoderTransition_quad z hrun hon hfilter hmode hmoved, State.quadPlaceAt_straight hswap, hcount]
    rfl
  case swapped =>
    intro s c a b z ago n hrun hon hfilter hmode hswap hmoved hcount
    rw [exec_encoderTransition_quad z hrun hon hfilter hmode hmoved, State.quadPlaceAt_swapped hswap, hcount]
    rfl
  case swappedIllegal =>
    intro s c a b z ago hrun hon hfilter hmode hswap hmoved hcount
    rw [exec_encoderTransition_quad z hrun hon hfilter hmode hmoved, State.quadPlaceAt_swapped hswap, hcount]
    rfl
  case hall =>
    intro s c a b z ago n hrun hon hfilter hmode hmoved hcount
    rw [exec_encoderTransition_hall z hrun hon hfilter hmode hmoved, hcount]
    rfl
  case hallIllegal =>
    intro s c a b z ago hrun hon hfilter hmode hmoved hcount
    rw [exec_encoderTransition_hall z hrun hon hfilter hmode hmoved, hcount]
    rfl
  case index =>
    exact fun s c ago x hrun hon hfilter hmode hfirst hopen hx hplain =>
      exec_indexEvent_plain hrun hon hfilter hmode hfirst hopen hx hplain
  case zFall =>
    intro s c hon
    rw [exec_encZFall, State.iff_true _ _ (by simp [hon])]
  case probe =>
    exact fun s c level ago x hrun hon hfilter hmoved hsel hfirst hfine hx =>
      exec_probeEdge_first hrun hon hfilter hmoved hsel hfirst hfine hx
  case snap =>
    intro s c hrun
    rw [exec_posSnap, State.posSnap, if_neg (by simp [hrun])]
    rfl
  case preset => exact fun s c hrun => by rw [exec_posPreset, State.iff_true _ _ hrun]
  case arm => exact fun s c hrun => by rw [exec_posArm, State.iff_true _ _ hrun]
  case restart => exact fun s c hrun => by rw [exec_obsReset, State.iff_true _ _ hrun]

end Sys2Proof.Machine
end

section
/-!
PROOF. The observer, the SSI frames and the states that travel on the fabric (R195, R196, R204, R211, R212, R438, R439).
-/

namespace Sys2Proof.Machine

open Reg

section Exec
variable (s : State) (c : Fin 16)

theorem exec_ssiFrameStart (idle : Bool) : exec (.ssiFrameStart c idle) s = execSsiFrameStart c idle s := rfl
theorem exec_ssiFrameEnd (raw : Nat) : exec (.ssiFrameEnd c raw) s = execSsiFrameEnd c raw s := rfl
theorem exec_observerUpdate : exec (.observerUpdate c) s = execObserverUpdate c s := rfl
theorem exec_posPublish : exec .posPublish s =
    if s.publishers.isEmpty then .next s
    else .next (s.pubStates.foldl (fun x p => x.holdOwn p.2.1 s.pubTime p.2.2)
      ((s.noteAnchor.sillSendRole 2 s.posBurst).sillSendRole 3 s.posBurst)) := rfl
theorem exec_posStateInForce : exec (.posStateInForce c) s = execPosStateInForce c s := rfl
theorem exec_followerStale : exec (.followerStale c) s = execFollowerStale c s := rfl

end Exec

/-! ### SSI frames -/

section Ssi
variable {s : State} {c : Fin 16}

/-- What keeps a frame from starting: the channel, its line, a frame in progress, the monoflop time, the period (R195). -/
theorem execSsiFrameStart_eq (idle : Bool) : execSsiFrameStart c idle s =
    if !(s.pch c).runs || s.posMode c != 3 || (s.encB c).isNone || (s.pch c).ssiFrame.isSome ||
        (s.pch c).ssiEnd.any (fun e => decide (s.tb.ticks < e + 1000 * s.get (POS_SSI_TIMING_MONO c))) ||
        (s.pch c).ssiStart.any (fun t => decide (s.tb.ticks < t + 1000 * s.get (POS_SSI_TIMING_PERIOD c))) then .next s
    else .next (s.modPch c (fun p =>
      { p with ssiFrame := some s.nowI, ssiStart := some s.tb.ticks, lvA := idle })) := by
  rw [execSsiFrameStart]
  cases (s.pch c).ssiEnd <;> cases (s.pch c).ssiStart <;> rfl

/-- A frame starts where ENC_B drives and none is in progress, past the monoflop time and the period (R195). -/
theorem exec_ssiFrameStart_begins {b : Bool} (idle : Bool) (hrun : (s.pch c).runs = true) (hmode : s.posMode c = 3)
    (hdrives : s.encB c = some b) (hnone : (s.pch c).ssiFrame = none)
    (hmono : (s.pch c).ssiEnd.any (fun e => decide (s.tb.ticks < e + 1000 * s.get (POS_SSI_TIMING_MONO c))) = false)
    (hperiod : (s.pch c).ssiStart.any (fun t =>
      decide (s.tb.ticks < t + 1000 * s.get (POS_SSI_TIMING_PERIOD c))) = false) :
    exec (.ssiFrameStart c idle) s = .next (s.modPch c (fun p =>
      { p with ssiFrame := some s.nowI, ssiStart := some s.tb.ticks, lvA := idle })) := by
  rw [exec_ssiFrameStart, execSsiFrameStart_eq, hmono, hperiod, if_neg (by simp [hrun, hmode, hdrives, hnone])]

theorem exec_ssiFrameStart_of_undriven (idle : Bool) (hundriven : s.encB c = none) :
    exec (.ssiFrameStart c idle) s = .next s := by
  rw [exec_ssiFrameStart, execSsiFrameStart_eq, if_pos (by simp [hundriven])]

variable (raw : Nat) {t : Nat} {tf : Int} (hframe : (s.pch c).ssiFrame = some tf) (hstart : (s.pch c).ssiStart = some t)
  (hdone : s.ssiDone c t ≤ s.tb.ticks)
include hframe hstart hdone

/-- A frame before which the data line was not at its idle level is bad, whatever its bits (R196). -/
theorem exec_ssiFrameEnd_of_wrongIdle (hidle : (s.pch c).lvA = false) :
    exec (.ssiFrameEnd c raw) s = .next ((((s.modPch c (fun p => { p with
      ssiFrame := none, ssiEnd := some (t + s.ssiBits c * s.ssiClk c + s.ssiClk c / 2) })).modPch c (fun p =>
        { p with ssiJumps := 0 })).ssiBad c).logCount 0x2020 c c) := by
  rw [exec_ssiFrameEnd, execSsiFrameEnd, hframe, hstart]
  exact (if_neg (by omega)).trans (if_pos (by simp [hidle]))

/-- The first good frame sets the counter and the reference, and the observer starts cold at its instant (R196). -/
theorem exec_ssiFrameEnd_first {x : State} (hidle : (s.pch c).lvA = true) (hpar : s.get (POS_SSI_CFG_PARITY c) = 0)
    (herr : s.get (POS_SSI_CFG_ERR_BIT c) = 0) (hbinary : s.flag (POS_SSI_CFG_GRAY c) = false)
    (hfirst : (s.pch c).ssiPrev = none)
    (hx : x = (((s.modPch c (fun p => { p with
      ssiFrame := none, ssiEnd := some (t + s.ssiBits c * s.ssiClk c + s.ssiClk c / 2) })).wrS (POS_COUNT c)
        ((raw % 2 ^ s.get (POS_SSI_CFG_BITS c) : Nat) * 2 ^ (16 - min 16 (s.get (POS_SSI_CFG_FRAC_BITS c))))).modPch c
      (fun p => { p with
        ssiPrev := some (raw % 2 ^ s.get (POS_SSI_CFG_BITS c)), ssiFails := 0, ssiJumps := 0, ssiLast := some t }))) :
    exec (.ssiFrameEnd c raw) s = .next ((((x.putB (POS_STATUS_REFERENCED c) true).putB (POS_STATUS_SSI_OK c)
      true).raise 5 (POS_EVENTS_REFERENCE c)).obsStart c tf) := by
  subst hx
  rw [exec_ssiFrameEnd, execSsiFrameEnd, hframe, hstart]
  dsimp only
  rw [if_neg (by omega), if_neg (by simp [hidle, hpar, herr]), hfirst]
  simp [hpar, herr, hbinary]

end Ssi

/-! ### Followers -/

/-- Whether a channel that runs expects frames: in follow mode, or as a publisher that the fabric does not carry (R212). -/
def State.expectsFrames (s : State) (c : Nat) : Bool :=
  s.posMode c == 4 || (s.flag (POS_SILL_CFG_PUBLISH c) && !s.flag (POS_STATUS_CARRIED c))

/-- 4 µs without a frame make a channel that expects frames stale and not warm (R212). -/
theorem exec_followerStale_of_late {s : State} {c : Fin 16} {k : Nat} (hrun : (s.pch c).runs = true)
    (hexpects : s.expectsFrames c = true) (hlast : (s.pch c).lastFrame = some k)
    (hfresh : s.flag (POS_STATUS_STALE c) = false) (hlate : k + 4000 ≤ s.tb.ticks) :
    exec (.followerStale c) s = .next ((((((s.putB (POS_STATUS_STALE c) true).modPch c (fun p =>
      { p with warmFrames := 0 })).setWarm c false).bump (POS_CNT_STALE c)).raise 5 (POS_EVENTS_STALE c)).logC 0x2041 c 0) := by
  rw [exec_followerStale, execFollowerStale, hlast]
  dsimp only
  rw [← State.expectsFrames]
  exact if_neg (by simp [hrun, hexpects, hfresh, hlate])

/-- Settles O9: a frame starts and ends by its time and its levels, the observer updates by its interval, and a state is
published, put in force or missed by its instant. -/
theorem positionStatesComplete : Obligations.PositionStatesComplete := by
  refine ⟨?firstFrame, ?nextFrame, ?undriven, ?wrongIdle, ?firstGood, ?update, ?publishNone, ?publish, ?inForce,
    ?staleFollower, ?stalePublisher⟩
  case firstFrame =>
    intro s c idle b hrun hmode hdrives hnone hend hstart
    exact exec_ssiFrameStart_begins idle hrun hmode hdrives hnone (by simp [hend]) (by simp [hstart])
  case nextFrame =>
    intro s c idle b e t hrun hmode hdrives hnone hend hstart hmono hperiod
    exact exec_ssiFrameStart_begins idle hrun hmode hdrives hnone (by simpa [hend] using hmono)
      (by simpa [hstart] using hperiod)
  case undriven => exact fun s c idle hundriven => exec_ssiFrameStart_of_undriven idle hundriven
  case wrongIdle =>
    exact fun s c raw t tf hframe hstart hdone hidle => exec_ssiFrameEnd_of_wrongIdle raw hframe hstart hdone hidle
  case firstGood =>
    exact fun s c raw t tf x hframe hstart hdone hidle hpar herr hbinary hfirst hx =>
      exec_ssiFrameEnd_first raw hframe hstart hdone hidle hpar herr hbinary hfirst hx
  case update =>
    intro s c hrun hmode hdue
    rw [exec_observerUpdate, execObserverUpdate]
    exact if_neg (by rcases hmode with hmode | hmode <;> simp [hrun, hmode, hdue])
  case publishNone =>
    intro s hnone
    rw [exec_posPublish, if_pos (by simp [hnone])]
  case publish =>
    intro s hsome
    rw [exec_posPublish, if_neg (by simp [hsome])]
  case inForce =>
    intro s c d hrun hdue
    rw [exec_posStateInForce, execPosStateInForce, hdue]
    exact if_neg (by simp [hrun])
  case staleFollower =>
    intro s c k hrun hmode hlast hfresh hlate
    exact exec_followerStale_of_late hrun (by simp [State.expectsFrames, hmode]) hlast hfresh hlate
  case stalePublisher =>
    intro s c k hrun hpublish hcarried hlast hfresh hlate
    exact exec_followerStale_of_late hrun (by simp [State.expectsFrames, hpublish, hcarried]) hlast hfresh hlate

end Sys2Proof.Machine
end

section
/-!
PROOF. The commands that steer the time base: the increment, slews, steps and the snapshot (R241, R242, R244, R246, R248).
-/

namespace Sys2Proof.Machine

open Reg

section Exec
variable (s : State)

theorem exec_tbIncrWrite (wide : Bool) (v : Nat) : exec (.tbIncrWrite wide v) s =
    if s.held then .next s else .next (s.incrWrite wide v) := rfl
theorem exec_slewStart (v : Word) : exec (.slewStart v) s = if s.held then .next s else .next (s.slewStart v.toNat) := rfl
theorem exec_slewEnd : exec .slewEnd s = .next s.slewDone := rfl
theorem exec_slewAbort : exec .slewAbort s = if s.held then .next s else .next s.slewAbort := rfl
theorem exec_tbSet : exec .tbSet s = if s.held then .next s else .next (s.tbStep true false) := rfl
theorem exec_tbStep : exec .tbStep s = if s.held then .next s else .next (s.tbStep false true) := rfl
theorem exec_tbSnap : exec .tbSnap s = if s.held then .next s else .next s.tbSnap := rfl

end Exec

/-! ### The increment -/

/-- The increment clamped to its range (R242). -/
theorem incr_clamped (n : Nat) : (clampInt incrMin incrMax n).toNat = max 0x00FFBE76C9 (min 0x0100418937 n) := by
  simp only [clampInt, incrMin, incrMax]
  omega

section Increment
variable {s : State} {wide : Bool} {v n : Nat}
  (hn : n = if wide then v % 2 ^ 40 else v % 2 ^ 8 * 2 ^ 32 + s.tb.incrLow.toNat)
include hn

/-- A write to TB_INCR leaves the clamped value, and a clamp is reported (R242). -/
theorem State.incrWrite_eq : s.incrWrite wide v =
    ((s.modTb (fun t => { t with incrLow := BitVec.ofNat 32 n })).wr64 TB_INCR
      (max 0x00FFBE76C9 (min 0x0100418937 n))).iff (max 0x00FFBE76C9 (min 0x0100418937 n) != n) State.clamped := by
  rw [← incr_clamped, hn]
  rfl

theorem State.incrWrite_inRange (hmin : 0x00FFBE76C9 ≤ n) (hmax : n ≤ 0x0100418937) : s.incrWrite wide v =
    (s.modTb (fun t => { t with incrLow := BitVec.ofNat 32 n })).wr64 TB_INCR n := by
  rw [State.incrWrite_eq hn, min_eq_right hmax, max_eq_right hmin, State.iff_false _ _ (by simp)]

theorem State.incrWrite_below (hbelow : n < 0x00FFBE76C9) : s.incrWrite wide v =
    ((s.modTb (fun t => { t with incrLow := BitVec.ofNat 32 n })).wr64 TB_INCR 0x00FFBE76C9).clamped := by
  have hclamp : max 0x00FFBE76C9 (min 0x0100418937 n) = 0x00FFBE76C9 := by omega
  rw [State.incrWrite_eq hn, hclamp, State.iff_true _ _ (by simpa using (Nat.ne_of_lt hbelow).symm)]

theorem State.incrWrite_above (habove : 0x0100418937 < n) : s.incrWrite wide v =
    ((s.modTb (fun t => { t with incrLow := BitVec.ofNat 32 n })).wr64 TB_INCR 0x0100418937).clamped := by
  have hclamp : max 0x00FFBE76C9 (min 0x0100418937 n) = 0x0100418937 := by omega
  rw [State.incrWrite_eq hn, hclamp, State.iff_true _ _ (by simpa using Nat.ne_of_lt habove)]

end Increment

/-- A 64-bit write within TB_INCR's 40 bits writes its value (R242). -/
theorem wideIncr_eq {v : Nat} (s : State) (hv : v < 2 ^ 40) :
    v = if true then v % 2 ^ 40 else v % 2 ^ 8 * 2 ^ 32 + s.tb.incrLow.toNat := by
  rw [if_pos rfl, Nat.mod_eq_of_lt hv]

/-! ### Slews -/

theorem State.slewDone_of_finished {s : State} (h : s.tb.slewLeft = 0) : s.slewDone = s.putB TB_STATUS_SLEWING false :=
  if_pos h

/-! ### Steps -/

/-- The count to which SET, STEP or both move the counter (R244). -/
def State.steppedTo (s : State) (set step : Bool) : Int :=
  (((if set then s.rdTime TB_SET_TIME * 65536 else s.tb.cnt : Nat) : Int) + (if step then s.rdS TB_STEP * 65536 else 0)) %
    (tbMod : Int)

section Step
variable {s : State} {set step : Bool} {n : Int} (hn : n = s.steppedTo set step)
include hn

/-- Under OUTPUT_COMMIT a step further than STEP_MAX is refused (R244). -/
theorem State.tbStep_refused (hout : s.outCommit = true) (hfar : s.rdN TB_STEP_MAX * 65536 < (n / 65536 - s.nowI).natAbs) :
    s.tbStep set step =
      ((s.bump TB_CNT_REFUSED).raise 7 TB_EVENTS_REFUSED).log64 0x9151 noUnit (n / 65536 - s.nowI) 0 := by
  subst hn
  exact if_pos (by
    rw [hout, Bool.true_and, decide_eq_true_iff]
    exact_mod_cast hfar)

/-- Any other step moves the counter (R244). -/
theorem State.tbStep_taken (hnear : s.outCommit = false ∨ (n / 65536 - s.nowI).natAbs ≤ s.rdN TB_STEP_MAX * 65536) :
    s.tbStep set step =
      (s.modTb (fun t => { t with cnt := n.toNat })).stepped (n / 65536 - s.nowI) (s.alarmsPassed n) := by
  subst hn
  refine if_neg ?_
  rw [Bool.and_eq_true, decide_eq_true_iff, not_and_or, Bool.not_eq_true, not_lt]
  exact_mod_cast hnear

end Step

theorem State.steppedTo_set (s : State) :
    s.steppedTo true false = ((s.rdTime TB_SET_TIME * 65536 : Nat) : Int) % (tbMod : Int) := by
  rw [State.steppedTo, if_pos rfl, if_neg Bool.false_ne_true, add_zero]

theorem State.steppedTo_step (s : State) :
    s.steppedTo false true = ((s.tb.cnt : Int) + s.rdS TB_STEP * 65536) % (tbMod : Int) := rfl

/-- Settles O4: an increment is clamped or taken, a slew starts or ends, and a step is refused or taken, by its bounds. -/
theorem timeBaseSteeringComplete : Obligations.TimeBaseSteeringComplete := by
  refine ⟨?incr, ?below, ?above, ?high, ?noSlew, ?slew, ?slewEnd, ?abort, ?refused, ?set, ?step, ?snap⟩
  case incr =>
    intro s v hheld hmin hmax
    rw [exec_tbIncrWrite, if_neg (by simp [hheld]), State.incrWrite_inRange (wideIncr_eq s (by omega)) hmin hmax]
  case below =>
    intro s v hheld hbelow
    rw [exec_tbIncrWrite, if_neg (by simp [hheld]), State.incrWrite_below (wideIncr_eq s (by omega)) hbelow]
    rfl
  case above =>
    intro s v hheld habove hv
    rw [exec_tbIncrWrite, if_neg (by simp [hheld]), State.incrWrite_above (wideIncr_eq s hv) habove]
    rfl
  case high =>
    intro s v hheld hmin hmax
    rw [exec_tbIncrWrite, if_neg (by simp [hheld]), State.incrWrite_inRange (if_neg Bool.false_ne_true).symm hmin hmax]
  case noSlew =>
    intro s v hheld hzero
    rw [exec_slewStart, if_neg (by simp [hheld]), State.slewStart, if_pos hzero]
  case slew =>
    intro s v hheld hsome
    rw [exec_slewStart, if_neg (by simp [hheld]), State.slewStart, if_neg hsome]
  case slewEnd => exact fun s hleft => by rw [exec_slewEnd, State.slewDone_of_finished hleft]
  case abort =>
    intro s hheld
    rw [exec_slewAbort, if_neg (by simp [hheld]), State.slewAbort, State.slewDone_of_finished rfl]
  case refused =>
    intro s n hheld hn hout hfar
    rw [exec_tbSet, if_neg (by simp [hheld]), State.tbStep_refused (hn.trans s.steppedTo_set.symm) hout hfar]
  case set =>
    intro s n hheld hn hnear
    rw [exec_tbSet, if_neg (by simp [hheld]), State.tbStep_taken (hn.trans s.steppedTo_set.symm) hnear]
  case step =>
    intro s n hheld hn hnear
    rw [exec_tbStep, if_neg (by simp [hheld]), State.tbStep_taken (hn.trans s.steppedTo_step.symm) hnear]
  case snap =>
    intro s hheld
    rw [exec_tbSnap, if_neg (by simp [hheld]), State.tbSnap]

end Sys2Proof.Machine
end

section
/-!
PROOF. The events of the time base: alarms, PPS, cycle timers and captured edges (R247, R251 to R255, R257).
-/

namespace Sys2Proof.Machine

open Reg

section Exec
variable (s : State)

theorem exec_alarmFire (a : Fin 8) : exec (.alarmFire a) s = execAlarmFire a s := rfl
theorem exec_ppsInEdge (rising : Bool) (ago : Nat) : exec (.ppsInEdge rising ago) s = execPpsInEdge rising ago s := rfl
theorem exec_ppsMiss : exec .ppsMiss s = execPpsMiss s := rfl
theorem exec_ppsOutStart : exec .ppsOutStart s = execPpsOutStart s := rfl
theorem exec_ppsOutEnd : exec .ppsOutEnd s =
    if !s.tb.ppsActive || decide (s.elapsed < s.tb.ppsEnd) then .next s
    else .next (s.modTb (fun t => { t with ppsActive := false })) := rfl
theorem exec_cycleTimerPulse (i : Fin 16) : exec (.cycleTimerPulse i) s = execCycleTimerPulse i s := rfl
theorem exec_cycleTimerPulseEnd (i : Fin 16) : exec (.cycleTimerPulseEnd i) s = .next (s.endPulses 2 i) := rfl
theorem exec_gpioEdgeCapture (g : Fin 64) (rising : Bool) (ago : Nat) :
    exec (.gpioEdgeCapture g rising ago) s = execGpioEdgeCapture g rising ago s := rfl

end Exec

/-! ### Alarms -/

/-- Whether the TIME of alarm `a` had already passed before the present tick, which is 40 increments long in coarse running
(R57, R253). -/
def State.alarmLate (s : State) (a : Nat) : Bool :=
  decide ((s.rdTime (TB_ALARM_TIME a) : Int) * 65536 ≤
    s.tb.cnt - (if s.flag TB_STATUS_COARSE then 40 * s.effIncr else s.effIncr))

section Alarm
variable {s : State} {a : Fin 8}

/-- An enabled alarm fires once TIME is reached, and fires late where TIME lay before the present tick (R253). -/
theorem exec_alarmFire_of_due (hheld : s.held = false) (hen : s.flag (TB_ALARM_CFG_EN a) = true)
    (hdue : s.rdTime (TB_ALARM_TIME a) ≤ s.now) :
    exec (.alarmFire a) s = .next (s.alarmFire a (s.alarmLate a) false) := by
  rw [exec_alarmFire, execAlarmFire]
  exact if_neg (by simp [hheld, hen, hdue])

/-- A one-time alarm is disabled as it fires (R253). -/
theorem State.alarmFire_once (late : Bool) (honce : s.flag (TB_ALARM_CFG_PERIODIC a) = false) :
    s.alarmFire a late false = ((((s.raise 7 (TB_EVENTS_ALARM.sub a)).iff late (fun x =>
      x.raise 7 TB_EVENTS_ALARM_LATE)).putB (TB_ALARM_CFG_EN a) false).produce (64 + a) 0) := by
  rw [State.alarmFire, honce]
  rfl

/-- A periodic alarm that fires in its tick takes the next TIME of its period (R253). -/
theorem State.alarmFire_periodic_inTick (hperiodic : s.flag (TB_ALARM_CFG_PERIODIC a) = true) :
    s.alarmFire a false false = ((s.raise 7 (TB_EVENTS_ALARM.sub a)).wrTime (TB_ALARM_TIME a)
      ((s.rdTime (TB_ALARM_TIME a) : Int) + max (nsT 64) (s.rd64 (TB_ALARM_PERIOD a) : Int)).toNat).produce (64 + a) 0 := by
  rw [State.alarmFire, hperiodic]
  rfl

end Alarm

/-! ### PPS -/

/-- A selected edge is captured unless running is coarse, clears PPS_MISS, is noted and produced (R57, R251). -/
theorem exec_ppsInEdge_of_selected {s : State} {r : Bool} (ago : Nat) (hheld : s.held = false)
    (hsel : bit (s.get TB_CTRL_PPS_EDGE) (if r then 0 else 1) = true) : exec (.ppsInEdge r ago) s =
      .next ((((s.iff (!s.flag TB_STATUS_COARSE) (fun x => ((x.wrN TB_PPS_IN_FLAGS (if r then 1 else 2)).wrTime
        TB_PPS_IN_TIME (x.now - edgeAgo ago)).publishC TB_PPS_IN_STATUS)).putB TB_STATUS_PPS_MISS false).modTb
          (fun t => { t with ppsInTick := some t.ticks })).produce 88 0) := by
  rw [exec_ppsInEdge, execPpsInEdge]
  exact if_neg (by simp [hheld, hsel])

/-! ### Cycle timers -/

/-- An enabled timer that reaches its next instant counts it, pulses its pin if it has one, and is produced (R254). -/
theorem exec_cycleTimerPulse_of_due {s : State} {i : Fin 16} (hheld : s.held = false)
    (hen : s.flag (TB_CYC_CFG_EN i) = true)
    (hdue : (s.rdTime (TB_CYC_START i) : Int) / 65536 + cget (fun _ => 0) s.tb.cycNext i * s.rdN (TB_CYC_PERIOD i) ≤
      s.nowI / 65536) : exec (.cycleTimerPulse i) s =
      .next (((s.modTb (fun t =>
        { t with cycNext := cset (fun _ => 0) t.cycNext i (cget (fun _ => 0) s.tb.cycNext i + 1) })).iff
          (s.flag (TB_CYC_CFG_OUT_EN i)) (fun x =>
            x.pulsePin (s.get (TB_CYC_CFG_OUT_PIN i)) (nsT (s.rdN (TB_CYC_WIDTH i))) 2 i)).produce (72 + i) 0) := by
  rw [exec_cycleTimerPulse, execCycleTimerPulse]
  exact if_neg (by simp [hheld, hen, hdue])

/-! ### GPIO edges -/

/-- A fold each of whose steps leaves the state it starts from ends where it began. -/
theorem foldl_unchanged {α : Type} {f : State → α → State} {s : State} {l : List α} (h : ∀ a ∈ l, f s a = s) :
    l.foldl f s = s := by
  induction l with
  | nil => rfl
  | cons a l ih =>
    rw [List.foldl_cons, h a List.mem_cons_self]
    exact ih fun b hb => h b (List.mem_cons_of_mem _ hb)

/-- Every GPIO edge selector that watches this kind of edge at pin `g` produces its event (R257). -/
def State.edgeProduced (s : State) (g : Fin 64) (kind : Nat) : State :=
  (List.range 8).foldl (fun s k => s.iff (s.flag (EVT_GPIO_SEL_EN k) && s.get (EVT_GPIO_SEL_PIN k) == g.val
    && bit (s.get (EVT_GPIO_SEL_EDGE k)) kind) (fun s => s.produce (89 + k) 0)) s

theorem State.edgeProduced_of_disabled {s : State} (g : Fin 64) (kind : Nat)
    (h : ∀ k < 8, s.flag (EVT_GPIO_SEL_EN k) = false) : s.edgeProduced g kind = s :=
  foldl_unchanged fun k hk => s.iff_false _ (by simp [h k (List.mem_range.mp hk)])

/-- The bit that shows the level at a GPIO (R508). -/
def gpioLevel (g : Nat) : Fld := ⟨GPIO_IN_LO + 4 * (g / 32), g % 32, 1⟩

/-- A register outside the two words of pin levels stays when a level is shown. -/
theorem State.rdN_showLevel (s : State) (g : Fin 64) (b : Bool) {o : Nat} (h : o < GPIO_IN_LO ∨ GPIO_IN_LO + 8 ≤ o) :
    (s.putB (gpioLevel g) b).rdN o = s.rdN o :=
  s.rdN_put_ne _ (by
    simp only [gpioLevel]
    omega)

theorem State.flag_showLevel (s : State) (g : Fin 64) (b : Bool) {f : Fld}
    (h : f.off < GPIO_IN_LO ∨ GPIO_IN_LO + 8 ≤ f.off) : (s.putB (gpioLevel g) b).flag f = s.flag f := by
  rw [State.flag, State.flag, State.get, State.get, State.rdN_showLevel s g b h]

theorem State.pinDrives_showLevel (s : State) (g : Fin 64) (b : Bool) :
    (s.putB (gpioLevel g) b).pinDrives g = s.pinDrives g := by
  rw [State.pinDrives, State.pinDrives, State.rdN_showLevel s g b (.inr (by
    simp only [GPIO_IN_LO, GPIO_DRIVE_LO]
    omega))]

/-- A level that moves on a pin that no selector watches only shows, and is captured where its edge is selected, the first of
its pin (R255, R257). -/
theorem exec_gpioEdgeCapture_first {s x : State} {g : Fin 64} (ago : Nat) (hheld : s.held = false)
    (hfine : s.flag TB_STATUS_COARSE = false) (hbank : s.flag (GPIO_OWNER_BANK_OK g) = true)
    (hinput : s.pinDrives g = false) (hunwatched : ∀ k < 8, s.flag (EVT_GPIO_SEL_EN k) = false)
    (hsel : bit (getBits (s.rdN (TB_GPIO_TS_EDGE (g / 16))) (2 * (g % 16)) 2) 0 = true)
    (hfirst : cget (fun _ => none) s.tb.gpioLast g = none) (hx : x = s.putB (gpioLevel g) true) :
    exec (.gpioEdgeCapture g true ago) s = .next ((((x.modTb (fun t => { t with
      gpioLast := cset (fun _ => none) t.gpioLast g (some (65536 * t.ticks - edgeAgo ago)) })).wrN (TB_GPIO_EDGE_FLAGS
      g) 1).wrTime (TB_GPIO_EDGE_TIME g) (s.now - edgeAgo ago)).publishC (TB_GPIO_EDGE_STATUS g)) := by
  have hheldX : x.held = false := by rw [hx]; exact hheld
  have htb : x.tb = s.tb := by rw [hx]; rfl
  have hinputX : x.pinDrives g = false := by rw [hx, State.pinDrives_showLevel, hinput]
  have hunwatchedX : ∀ k < 8, x.flag (EVT_GPIO_SEL_EN k) = false := fun k hk => by
    rw [hx, State.flag_showLevel s g true (.inl (by
      simp only [EVT_GPIO_SEL_EN, EVT_GPIO_SEL, GPIO_IN_LO]
      omega)), hunwatched k hk]
  have hfineX : x.flag TB_STATUS_COARSE = false := by
    rw [hx, State.flag_showLevel s g true (.inl (by decide)), hfine]
  have hselX : bit (getBits (x.rdN (TB_GPIO_TS_EDGE (g / 16))) (2 * (g % 16)) 2) 0 = true := by
    rw [hx, State.rdN_showLevel s g true (.inl (by
      simp only [TB_GPIO_TS_EDGE, GPIO_IN_LO]
      omega)), hsel]
  rw [exec_gpioEdgeCapture, execGpioEdgeCapture]
  simp only [hbank, Bool.true_or, Bool.and_self, if_true]
  rw [← gpioLevel, ← hx, if_neg (by simp [hheldX, hinputX]), ← State.edgeProduced,
    State.edgeProduced_of_disabled g 0 hunwatchedX, if_neg (by simp [hfineX, hselX]), htb, hfirst]
  dsimp only
  rw [if_neg Bool.false_ne_true]
  subst hx
  rfl

/-- Settles O5: an alarm, a PPS edge, a cycle timer and a GPIO edge each act at their instant, by their settings. -/
theorem timeBaseEventsComplete : Obligations.TimeBaseEventsComplete := by
  refine ⟨?once, ?onceLate, ?periodic, ?ppsIn, ?ppsInCoarse, ?ppsMiss, ?ppsOut, ?ppsOutEnd, ?timer, ?timerPin,
    ?timerEnd, ?gpio⟩
  case once =>
    intro s a hheld hen honce hdue hinTick
    have hearly : s.alarmLate a = false := decide_eq_false (not_le.mpr hinTick)
    rw [exec_alarmFire_of_due hheld hen hdue, hearly, State.alarmFire_once _ honce]
    rfl
  case onceLate =>
    intro s a hheld hen honce hdue hpassed
    have hlate : s.alarmLate a = true := decide_eq_true hpassed
    rw [exec_alarmFire_of_due hheld hen hdue, hlate, State.alarmFire_once _ honce]
    rfl
  case periodic =>
    intro s a hheld hen hperiodic hdue hinTick
    have hearly : s.alarmLate a = false := decide_eq_false (not_le.mpr hinTick)
    rw [exec_alarmFire_of_due hheld hen hdue, hearly, State.alarmFire_periodic_inTick hperiodic]
  case ppsIn =>
    intro s r ago hheld hsel hfine
    rw [exec_ppsInEdge_of_selected ago hheld hsel, State.iff_true _ _ (by simp [hfine])]
  case ppsInCoarse =>
    intro s r ago hheld hsel hcoarse
    rw [exec_ppsInEdge_of_selected ago hheld hsel, State.iff_false _ _ (by simp [hcoarse])]
  case ppsMiss =>
    intro s k hlast hnew hlong
    rw [exec_ppsMiss, execPpsMiss, hlast]
    exact if_neg (by simp [hnew, hlong])
  case ppsOut =>
    intro s hen hout hidle hsec hskip hquiet
    rw [exec_ppsOutStart, execPpsOutStart]
    exact if_neg (by simp [hen, hout, Option.isSome_iff_ne_none.mp hidle, hsec, hskip, hquiet])
  case ppsOutEnd =>
    intro s hactive hend
    rw [exec_ppsOutEnd, if_neg (by simp [hactive, hend])]
  case timer =>
    intro s i hheld hen hpin hdue
    rw [exec_cycleTimerPulse_of_due hheld hen hdue, State.iff_false _ _ hpin]
  case timerPin =>
    intro s i hheld hen hpin hdue
    rw [exec_cycleTimerPulse_of_due hheld hen hdue, State.iff_true _ _ hpin]
  case timerEnd =>
    intro s i g p hpulses howner hindex hstop
    rw [exec_cycleTimerPulseEnd, State.endPulses_single hpulses howner hindex hstop]
  case gpio =>
    exact fun s g ago hheld hfine hbank hinput hunwatched hsel hfirst =>
      exec_gpioEdgeCapture_first ago hheld hfine hbank hinput hunwatched hsel hfirst rfl

end Sys2Proof.Machine
end

section
/-!
PROOF. The commands of a fabric link: block lock and loss, HELLO, the timeouts, and the hop's measurement (R249, R250,
R427 to R430, R433).
-/

namespace Sys2Proof.Machine

open Reg

section Exec
variable (s : State) (p : Fin 4)

theorem exec_sillBlockLock : exec (.sillBlockLock p) s =
    if s.sillState p = 1 then .next ((s.toSill p 2).modSport p (fun x => { x with hellos := 0 })) else .next s := rfl
theorem exec_sillLinkLoss : exec (.sillLinkLoss p) s =
    if s.sillState p = 4 then .next (s.sillLeave p 1) else .next s := rfl
theorem exec_helloSend : exec (.helloSend p) s =
    if s.sillState p = 2 ∨ s.sillState p = 4 ∨ s.sillState p = 5 then .next (s.sillTx p (s.helloFrame p))
    else .next s := rfl
theorem exec_helloReceive (bs : List (Bool × Block)) : exec (.helloReceive p bs) s = execHelloReceive p bs s := rfl
theorem exec_helloTimeout : exec (.helloTimeout p) s =
    if s.sillState p = 2 ∧ s.sillStayed p 10000000 then .next (s.sillLeave p 1) else .next s := rfl
theorem exec_measureTimeout : exec (.measureTimeout p) s =
    if s.sillState p = 3 ∧ s.sillStayed p 10000000 then .next (s.sillLeave p 1) else .next s := rfl
theorem exec_faultHoldExpiry : exec (.faultHoldExpiry p) s =
    if s.sillState p = 5 ∧ s.sillStayed p 1000000000 then .next (s.sillLeave p 1) else .next s := rfl
theorem exec_sillProbeSend : exec (.sillProbeSend p) s =
    if s.sillState p = 3 ∨ s.sillState p = 4 then .next (((s.sillEgress p).2.modSport p (fun x =>
      { x with probeNum := ((s.sport p).probeNum + 1) % 256, probeOut := some (s.sillEgress p).1 })).emit (.sill p
        (blockBytes (sillC 0x21 (toBytes 1 (((s.sport p).probeNum + 1) % 256))).2)))
    else .next s := rfl
theorem exec_probeReceive (b : Block) (turn : Nat) : exec (.probeReceive p b turn) s = execProbeReceive p b turn s := rfl
theorem exec_pechoReceive (b : Block) (ago : Nat) : exec (.pechoReceive p b ago) s = execPechoReceive p b ago s := rfl

end Exec

/-- A timeout whose state is not the port's, or whose time has not passed, does nothing. -/
theorem not_expired {q : Prop} {b : Bool} (h : ¬ q ∨ b = false) : ¬ (q ∧ b = true) := by
  rintro ⟨hq, hb⟩
  exact h.elim (fun hn => hn hq) (fun hn => by simp [hn] at hb)

/-! ### HELLO -/

section Hello
variable {s : State} {p : Fin 4} {bs : List (Bool × Block)}

/-- What a HELLO frame tells of the partner is shown (R428). -/
def State.partnerShown (s : State) (p : Nat) (bs : List (Bool × Block)) : State :=
  (s.put (SILL_PORT_STATUS_PARTNER_ID p) (fNum bs 0 1 2)).put (SILL_PORT_STATUS_PARTNER_DEPTH p) (fByte bs 0 4)

theorem exec_helloReceive_strange (h : isFrame bs 0x20 2 = false ∨ (s.sillState p ≠ 2 ∧ s.sillState p ≠ 4)) :
    exec (.helloReceive p bs) s = .next (s.strange p (fByte bs 0 0)) := by
  rw [exec_helloReceive, execHelloReceive]
  exact if_pos (by rcases h with h | ⟨h2, h4⟩ <;> simp [*])

variable (hframe : isFrame bs 0x20 2 = true)
include hframe

theorem exec_helloReceive_badCrc (hst : s.sillState p = 2 ∨ s.sillState p = 4) (hbad : frameOk bs = false) :
    exec (.helloReceive p bs) s = .next (s.sillDiscard p) := by
  rw [exec_helloReceive, execHelloReceive]
  exact (if_neg (by rcases hst with h | h <;> simp [hframe, h])).trans (if_pos (by simp [hbad]))

variable (hok : frameOk bs = true)
include hok

theorem exec_helloReceive_active (h4 : s.sillState p = 4) :
    exec (.helloReceive p bs) s = .next (s.partnerShown p bs) := by
  rw [exec_helloReceive, execHelloReceive]
  exact (if_neg (by simp [hframe, h4])).trans ((if_neg (by simp [hok])).trans (if_pos h4))

variable {x : State} (h2 : s.sillState p = 2) (hx : x = s.partnerShown p bs)
include h2 hx

/-- A frame in HELLO is checked; the second that passes ends the state, and one that fails ends it in FAULT (R427, R428). -/
theorem exec_helloReceive_hello : exec (.helloReceive p bs) s =
    if x.helloCause p (fByte bs 0 3) (fByte bs 0 4) (fNum bs 0 1 2) (fByte bs 0 6) ≠ 0 then
      .next (((x.put (SILL_PORT_STATUS_FAULT_CAUSE p) (x.helloCause p (fByte bs 0 3) (fByte bs 0 4) (fNum bs 0 1 2)
        (fByte bs 0 6))).toSill p 5).logC 0x6003 p (x.helloCause p (fByte bs 0 3) (fByte bs 0 4) (fNum bs 0 1 2)
        (fByte bs 0 6)))
    else if (x.sport p).hellos = 0 then .next (x.modSport p (fun y => { y with hellos := 1 }))
    else .next (x.helloDone p (fByte bs 0 4) (bit (fByte bs 0 5) 0)) := by
  subst hx
  rw [exec_helloReceive, execHelloReceive]
  exact (if_neg (by simp [hframe, h2])).trans ((if_neg (by simp [hok])).trans (if_neg (by omega)))

end Hello

/-! ### PROBE and PECHO -/

section Measure
variable {s : State} {p : Fin 4} {b : Block}

theorem exec_probeReceive_strange (turn : Nat)
    (h : blockByte b 0 ≠ 0x21 ∨ (s.sillState p ≠ 3 ∧ s.sillState p ≠ 4)) :
    exec (.probeReceive p b turn) s = .next (s.strange p (blockByte b 0)) := by
  rw [exec_probeReceive, execProbeReceive]
  exact if_pos (h.imp_right not_or.mpr)

theorem exec_pechoReceive_strange (ago : Nat)
    (h : blockByte b 0 ≠ 0x22 ∨ (s.sillState p ≠ 3 ∧ s.sillState p ≠ 4)) :
    exec (.pechoReceive p b ago) s = .next (s.strange p (blockByte b 0)) := by
  rw [exec_pechoReceive, execPechoReceive]
  exact if_pos (h.imp_right not_or.mpr)

/-- The result of a PECHO for a PROBE that left at `out`: half of T_in less T_out less TURN, in 1/256 ns (R433). -/
def State.hopResult (s : State) (p : Nat) (b : Block) (ago : Nat) (out : Int) : Int :=
  roundDiv (s.sillIngress p ago - out - getBits b.toNat 16 32 * 256) 512

variable (hst : s.sillState p = 3 ∨ s.sillState p = 4)
include hst

theorem exec_probeReceive_of_type (turn : Nat) (ht : blockByte b 0 = 0x21) : exec (.probeReceive p b turn) s =
    if checkOk b then .next (s.emit (.sill p (blockBytes (sillC 0x22 (toBytes 1 (blockByte b 1) ++ toBytes 4
      (trunc 32 (turn - sext 32 (s.rdN (TB_SILL_EG_ASYM p)) + sext 32 (s.rdN (TB_SILL_IN_ASYM p)))))).2)))
    else .next (s.sillDiscard p) := by
  rw [exec_probeReceive, execProbeReceive]
  refine (if_neg (by simp [ht, hst])).trans ?_
  cases checkOk b <;> rfl

variable (ago : Nat) (ht : blockByte b 0 = 0x22)
include ht

theorem exec_pechoReceive_badCheck (hbad : checkOk b = false) :
    exec (.pechoReceive p b ago) s = .next (s.sillDiscard p) := by
  rw [exec_pechoReceive, execPechoReceive]
  exact (if_neg (by simp [ht, hst])).trans (if_pos (by simp [hbad]))

variable (hok : checkOk b = true)
include hok

theorem exec_pechoReceive_unasked (h : (s.sport p).probeOut = none ∨ (s.sport p).probeNum ≠ blockByte b 1) :
    exec (.pechoReceive p b ago) s = .next s := by
  rw [exec_pechoReceive, execPechoReceive]
  refine (if_neg (by simp [ht, hst])).trans ((if_neg (by simp [hok])).trans ?_)
  cases hout : (s.sport p).probeOut with
  | none => rfl
  | some out => exact if_pos (h.resolve_left (by simp [hout]))

variable {out : Int} {rs : List Int} (hout : (s.sport p).probeOut = some out)
  (hnum : (s.sport p).probeNum = blockByte b 1)
  (hrs : rs = ((s.sport p).results ++ [s.hopResult p b ago out]).drop
    (((s.sport p).results ++ [s.hopResult p b ago out]).length - 16))
include hout hnum hrs

/-- The answer to the PROBE joins the last results, which are published once there are sixteen (R433). -/
theorem exec_pechoReceive_answer : exec (.pechoReceive p b ago) s =
    if rs.length < 16 then .next (s.modSport p (fun x => { x with probeOut := none, results := rs }))
    else .next (((s.modSport p (fun x => { x with probeOut := none, results := rs })).publishHop p rs).iff
      (s.sillState p == 3) (fun x => x.sillActive p)) := by
  subst hrs
  rw [exec_pechoReceive, execPechoReceive]
  refine (if_neg (by simp [ht, hst])).trans ((if_neg (by simp [hok])).trans ?_)
  rw [hout]
  exact if_neg (not_not.mpr hnum)

end Measure

/-- Fewer than sixteen results are all kept. -/
theorem drop_sub_of_short {rs : List Int} (h : rs.length < 16) : rs = rs.drop (rs.length - 16) := by
  rw [Nat.sub_eq_zero_of_le (by omega), List.drop_zero]

/-- Settles O32: each command acts in the states of a port that it belongs to, on a frame or a block that is its own and
whole. -/
theorem sillLinksComplete : Obligations.SillLinksComplete := by
  refine ⟨?lock, ?lockNot, ?loss, ?lossNot, ?send, ?sendNot, ?first, ?second, ?fault, ?renew, ?badCrc, ?strange,
    ?helloOut, ?helloStay, ?measureOut, ?measureStay, ?faultOut, ?faultStay, ?probe, ?probeNot, ?pecho, ?probeBad,
    ?probeStrange, ?result, ?sixteenth, ?later, ?unasked, ?pechoBad, ?pechoStrange⟩
  case lock => exact fun s p h1 => by rw [exec_sillBlockLock, if_pos h1]
  case lockNot => exact fun s p h1 => by rw [exec_sillBlockLock, if_neg h1]
  case loss => exact fun s p h4 => by rw [exec_sillLinkLoss, if_pos h4]
  case lossNot => exact fun s p h4 => by rw [exec_sillLinkLoss, if_neg h4]
  case send => exact fun s p hst => by rw [exec_helloSend, if_pos hst]
  case sendNot => exact fun s p h2 h4 h5 => by rw [exec_helloSend, if_neg (by simp [h2, h4, h5])]
  case first =>
    intro s p bs x hframe h2 hok hx hpass hnone
    rw [exec_helloReceive_hello hframe hok h2 hx, if_neg (not_not.mpr hpass), if_pos hnone]
  case second =>
    intro s p bs x hframe h2 hok hx hpass hsome
    rw [exec_helloReceive_hello hframe hok h2 hx, if_neg (not_not.mpr hpass), if_neg hsome]
  case fault =>
    intro s p bs x k hframe h2 hok hx hk hfail
    rw [exec_helloReceive_hello hframe hok h2 hx, ← hk, if_pos hfail]
  case renew => exact fun s p bs hframe h4 hok => exec_helloReceive_active hframe hok h4
  case badCrc => exact fun s p bs hframe hst hbad => exec_helloReceive_badCrc hframe hst hbad
  case strange => exact fun s p bs h => exec_helloReceive_strange h
  case helloOut => exact fun s p h2 hlong => by rw [exec_helloTimeout, if_pos ⟨h2, hlong⟩]
  case helloStay => exact fun s p h => by rw [exec_helloTimeout, if_neg (not_expired h)]
  case measureOut => exact fun s p h3 hlong => by rw [exec_measureTimeout, if_pos ⟨h3, hlong⟩]
  case measureStay => exact fun s p h => by rw [exec_measureTimeout, if_neg (not_expired h)]
  case faultOut => exact fun s p h5 hlong => by rw [exec_faultHoldExpiry, if_pos ⟨h5, hlong⟩]
  case faultStay => exact fun s p h => by rw [exec_faultHoldExpiry, if_neg (not_expired h)]
  case probe => exact fun s p hst => by rw [exec_sillProbeSend, if_pos hst]
  case probeNot => exact fun s p h3 h4 => by rw [exec_sillProbeSend, if_neg (not_or.mpr ⟨h3, h4⟩)]
  case pecho => exact fun s p b turn hst ht hok => by rw [exec_probeReceive_of_type hst turn ht, if_pos hok]
  case probeBad => exact fun s p b turn hst ht hbad => by rw [exec_probeReceive_of_type hst turn ht, if_neg (by simp [hbad])]
  case probeStrange => exact fun s p b turn h => exec_probeReceive_strange turn h
  case result =>
    intro s p b ago out rs hst ht hok hout hnum hrs hshort
    have hall := hrs.trans (drop_sub_of_short (by rwa [← hrs]))
    rw [exec_pechoReceive_answer hst ago ht hok hout hnum hall, if_pos hshort]
  case sixteenth =>
    intro s p b ago out rs hst ht hok hout hnum hrs hfull h3
    rw [exec_pechoReceive_answer hst ago ht hok hout hnum hrs, if_neg (by omega), State.iff_true _ _ (by simp [h3])]
  case later =>
    intro s p b ago out rs hst ht hok hout hnum hrs hfull h4
    rw [exec_pechoReceive_answer hst ago ht hok hout hnum hrs, if_neg (by omega), State.iff_false _ _ (by simp [h4])]
  case unasked => exact fun s p b ago hst ht hok h => exec_pechoReceive_unasked hst ago ht hok h
  case pechoBad => exact fun s p b ago hst ht hbad => exec_pechoReceive_badCheck hst ago ht hbad
  case pechoStrange => exact fun s p b ago h => exec_pechoReceive_strange ago h

end Sys2Proof.Machine
end

section
/-!
PROOF. The commands of the event matrix: arrival, coincidence, pending events, SOFT, pulse outputs and PWM (R257 to R265,
R509).
-/

namespace Sys2Proof.Machine

open Reg

section Exec
variable (s : State)

theorem exec_eventArrive (c : Fin 64) (ps : List Nat) (same : Bool) :
    exec (.eventArrive c ps same) s = execEventArrive c ps same s := rfl
theorem exec_pendingAccept (c : Fin 64) : exec (.pendingAccept c) s = .next (s.pendAccept c) := rfl
theorem exec_evtSoft : exec .evtSoft s = if s.held then .next s else .next (s.produce 111 0) := rfl
theorem exec_evtPulseEnd (k : Fin 8) : exec (.evtPulseEnd k) s = .next (s.endPulses 3 k) := rfl
theorem exec_pwmPeriodStart (k : Fin 8) : exec (.pwmPeriodStart k) s = execPwmPeriodStart k s := rfl
theorem exec_pwmHighEnd (k : Fin 8) : exec (.pwmHighEnd k) s = .next (s.endPulses 4 k) := rfl

end Exec

/-! ### Events that meet a consumer -/

/-- The event `f` once it has met consumer `c`: its mark for `c` is taken off (R263). -/
def EvtFlight.met (f : EvtFlight) (c : Nat) : EvtFlight := { f with left := f.left - 2 ^ c }

/-- The events under way are those of `fl` that may still reach a consumer. -/
def State.underWay (s : State) (fl : List EvtFlight) : State :=
  s.modEvt (fun e => { e with inflight := fl.filter s.evtAlive })

theorem State.flag_underWay (s : State) (fl : List EvtFlight) (f : Fld) : (s.underWay fl).flag f = s.flag f := rfl
theorem State.consRuns_underWay (s : State) (fl : List EvtFlight) (c : Nat) :
    (s.underWay fl).consRuns c = s.consRuns c := rfl
theorem State.consBusy_underWay (s : State) (fl : List EvtFlight) (c : Nat) :
    (s.underWay fl).consBusy c = s.consBusy c := rfl
theorem State.evtEnabled_underWay (s : State) (fl : List EvtFlight) (c p : Nat) :
    (s.underWay fl).evtEnabled c p = s.evtEnabled c p := rfl

/-- The oldest event of a producer that has not met the consumer meets it, and the other producers' events follow. -/
theorem takeFlights_cons {c p : Nat} {ps : List Nat} {fl : List EvtFlight} {f : EvtFlight}
    (h : fl.find? (fun (g : EvtFlight) => g.prod == p && bit g.left c) = some f) :
    takeFlights c (p :: ps) fl =
      (f :: (takeFlights c ps (fl.replace f (f.met c))).1, (takeFlights c ps (fl.replace f (f.met c))).2) := by
  rw [takeFlights, h]
  rfl

theorem takeFlights_single {c : Nat} {f : EvtFlight} (h : bit f.left c = true) :
    takeFlights c [f.prod] [f] = ([f], [f.met c]) := by
  rw [takeFlights_cons (f := f) (by simp [h])]
  simp [takeFlights]

/-- The events of two producers both meet the consumer. -/
theorem takeFlights_pair {c : Nat} {f g : EvtFlight} (hne : f.prod ≠ g.prod) (hf : bit f.left c = true)
    (hg : bit g.left c = true) : takeFlights c [f.prod, g.prod] [f, g] = ([f, g], [f.met c, g.met c]) := by
  have hother : (f.met c).prod ≠ g.prod := hne
  have hdiff : (g == f.met c) = false := beq_false_of_ne fun h => hother (congrArg EvtFlight.prod h.symm)
  rw [takeFlights_cons (f := f) (by simp [hf]), List.replace_cons_self,
    takeFlights_cons (f := g) (by simp [hother, hg])]
  simp [takeFlights, List.replace_cons, hdiff]

/-- Events of several producers in one cycle are marked and counted as coincident (R265). -/
def State.coincide (s : State) (c : Nat) : State :=
  (s.putB (EVT_CONS_STATUS_COINCIDENT c) true).bump (EVT_CNT_COINC c)

section Arrive
variable {s : State} {c : Fin 64} (same : Bool) (hruns : s.consRuns c = true)
include hruns

/-- Of the events that meet a running consumer, those enabled for it count as one, with the lowest producer and the highest
hop count (R261, R265). -/
theorem exec_eventArrive_of_met {ps : List Nat} {met left fs : List EvtFlight} {f : EvtFlight}
    (htake : takeFlights c ps.eraseDups s.evt.inflight = (met, left))
    (hreach : met.filter (fun (g : EvtFlight) => s.evtEnabled c g.prod) = f :: fs) :
    exec (.eventArrive c ps same) s = .next (((s.underWay left).iff (!fs.isEmpty) (fun x => x.coincide c)).consMeet c
      (fs.foldl (fun m (g : EvtFlight) => min m g.prod) f.prod) (fs.foldl (fun m (g : EvtFlight) => max m g.hop) f.hop)
      same) := by
  have hreach' : met.filter (fun (g : EvtFlight) => (s.underWay left).evtEnabled c g.prod) = f :: fs := by
    simpa only [State.evtEnabled_underWay] using hreach
  rw [exec_eventArrive, execEventArrive, htake]
  dsimp only
  rw [← State.underWay, hreach']
  exact if_neg (by simp [State.consRuns_underWay, hruns])

variable {f : EvtFlight} (hf : bit f.left c = true) (hfen : s.evtEnabled c f.prod = true)
include hf hfen

/-- The only event under way meets its consumer alone. -/
theorem exec_eventArrive_one (hfl : s.evt.inflight = [f]) : exec (.eventArrive c [f.prod] same) s =
    .next ((s.underWay [f.met c]).consMeet c f.prod f.hop same) := by
  have htake : takeFlights c [f.prod].eraseDups s.evt.inflight = ([f], [f.met c]) := by
    rw [hfl, show [f.prod].eraseDups = [f.prod] from rfl, takeFlights_single hf]
  have hreach : [f].filter (fun (g : EvtFlight) => s.evtEnabled c g.prod) = [f] := by
    simp [hfen]
  rw [exec_eventArrive_of_met same hruns htake hreach]
  rfl

/-- The only two events under way, of two producers, meet their consumer as one. -/
theorem exec_eventArrive_two {g : EvtFlight} (hne : f.prod ≠ g.prod) (hg : bit g.left c = true)
    (hgen : s.evtEnabled c g.prod = true) (hfl : s.evt.inflight = [f, g]) :
    exec (.eventArrive c [f.prod, g.prod] same) s = .next (((s.underWay [f.met c, g.met c]).coincide c).consMeet c
      (min f.prod g.prod) (max f.hop g.hop) same) := by
  have hdups : [f.prod, g.prod].eraseDups = [f.prod, g.prod] := by
    simp [List.eraseDups_cons, hne.symm]
  have htake : takeFlights c [f.prod, g.prod].eraseDups s.evt.inflight = ([f, g], [f.met c, g.met c]) := by
    rw [hfl, hdups, takeFlights_pair hne hf hg]
  have hreach : [f, g].filter (fun (h : EvtFlight) => s.evtEnabled c h.prod) = [f, g] := by
    simp [hfen, hgen]
  rw [exec_eventArrive_of_met same hruns htake hreach]
  rfl

end Arrive

/-! ### A consumer that is busy, or has an event pending (R264) -/

section Meet
variable {s : State} {c : Nat}

theorem State.pendAccept_of_none (h : s.flag (EVT_CONS_STATUS_PENDING c) = false) : s.pendAccept c = s :=
  if_pos (by simp [h])

theorem State.pendAccept_of_busy (h : s.consBusy c = true) : s.pendAccept c = s :=
  if_pos (by simp [h])

/-- The pending event of a free consumer is taken out, and accepted where the consumer runs. -/
theorem State.pendAccept_of_free {x : State} (hpend : s.flag (EVT_CONS_STATUS_PENDING c) = true)
    (hfree : s.consBusy c = false) (hx : x = ((s.putB (EVT_CONS_STATUS_PENDING c) false).put
      (EVT_CONS_STATUS_PEND_SRC c) 0).put (EVT_CONS_STATUS_PEND_HOP c) 0) :
    s.pendAccept c = if x.consRuns c then x.consAccept c (s.get (EVT_CONS_STATUS_PEND_SRC c))
      (s.get (EVT_CONS_STATUS_PEND_HOP c)) false else x := by
  rw [State.pendAccept, if_neg (by simp [hpend, hfree]), hx]

variable (p hop : Nat) (same : Bool)

theorem State.consMeet_lost (hpend : s.flag (EVT_CONS_STATUS_PENDING c) = true) (hbusy : s.consBusy c = true) :
    s.consMeet c p hop same = s.consLost c 1 := by
  rw [State.consMeet, State.pendAccept_of_busy hbusy]
  exact if_pos hpend

theorem State.consMeet_held (hnone : s.flag (EVT_CONS_STATUS_PENDING c) = false) (hbusy : s.consBusy c = true) :
    s.consMeet c p hop same = ((s.putB (EVT_CONS_STATUS_PENDING c) true).put (EVT_CONS_STATUS_PEND_SRC c) p).put
      (EVT_CONS_STATUS_PEND_HOP c) hop := by
  rw [State.consMeet, State.pendAccept_of_none hnone]
  exact (if_neg (by simp [hnone])).trans (if_pos hbusy)

theorem State.consMeet_accepted (hnone : s.flag (EVT_CONS_STATUS_PENDING c) = false) (hfree : s.consBusy c = false) :
    s.consMeet c p hop same = s.consAccept c p hop same := by
  rw [State.consMeet, State.pendAccept_of_none hnone]
  exact (if_neg (by simp [hnone])).trans (if_neg (by simp [hfree]))

end Meet

/-! ### PWM (R509) -/

/-- An enabled output under OUTPUT_COMMIT begins its period idle, active throughout, or with a pulse, by HIGH. -/
theorem exec_pwmPeriodStart_enabled {s : State} {k : Fin 8} (hen : s.flag (GPIO_PWM_CFG_EN k) = true)
    (hout : s.outCommit = true) : exec (.pwmPeriodStart k) s =
      if s.get (GPIO_PWM_HIGH_NS k) = 0 then
        .next ((s.setPulseEnd (s.get (GPIO_PWM_CFG_PIN k)) none).pinActive (s.get (GPIO_PWM_CFG_PIN k)) false)
      else if max 16 (s.get (GPIO_PWM_PERIOD_NS k)) ≤ s.get (GPIO_PWM_HIGH_NS k) then
        .next ((s.setPulseEnd (s.get (GPIO_PWM_CFG_PIN k)) none).iff (s.pinDrives (s.get (GPIO_PWM_CFG_PIN k)))
          (fun x => x.pinActive (s.get (GPIO_PWM_CFG_PIN k)) true))
      else .next (s.pulsePin (s.get (GPIO_PWM_CFG_PIN k)) (nsT (s.get (GPIO_PWM_HIGH_NS k))) 4 k) := by
  rw [exec_pwmPeriodStart, execPwmPeriodStart]
  exact if_neg (by simp [hen, hout])

theorem State.pulsePin_of_drives {s : State} {g : Nat} (w : Int) (owner index : Nat) (h : s.pinDrives g = true) :
    s.pulsePin g w owner index = (s.setPulseEnd g (some ⟨s.elapsed + w, owner, index⟩)).pinActive g true :=
  s.iff_true _ h

/-- Settles O6: an event meets its consumer by what that is doing, and the commands of the pulse and PWM outputs act by
their settings. -/
theorem eventMatrixComplete : Obligations.EventMatrixComplete := by
  refine ⟨?lost, ?held, ?accepted, ?coincident, ?pendingRuns, ?pendingStopped, ?soft, ?pulseEnd, ?pwmPulse, ?pwmFull,
    ?pwmIdle, ?pwmEnd⟩
  case lost =>
    intro s c f same hfl hf hfen hruns hpend hbusy
    rw [exec_eventArrive_one same hruns hf hfen hfl, State.consMeet_lost _ _ _ ((s.flag_underWay _ _).trans hpend)
      ((s.consBusy_underWay _ _).trans hbusy)]
    rfl
  case held =>
    intro s c f same hfl hf hfen hruns hnone hbusy
    rw [exec_eventArrive_one same hruns hf hfen hfl, State.consMeet_held _ _ _ ((s.flag_underWay _ _).trans hnone)
      ((s.consBusy_underWay _ _).trans hbusy)]
    rfl
  case accepted =>
    intro s c f same hfl hf hfen hruns hnone hfree
    rw [exec_eventArrive_one same hruns hf hfen hfl, State.consMeet_accepted _ _ _ ((s.flag_underWay _ _).trans hnone)
      ((s.consBusy_underWay _ _).trans hfree)]
    rfl
  case coincident =>
    intro s c f g same hfl hne hf hg hfen hgen hruns
    rw [exec_eventArrive_two same hruns hf hfen hne hg hgen hfl]
    rfl
  case pendingRuns =>
    intro s c x hpend hfree hx hruns
    rw [exec_pendingAccept, State.pendAccept_of_free hpend hfree hx, if_pos hruns]
  case pendingStopped =>
    intro s c x hpend hfree hx hstopped
    rw [exec_pendingAccept, State.pendAccept_of_free hpend hfree hx, if_neg (by simp [hstopped])]
  case soft =>
    intro s hheld
    rw [exec_evtSoft, if_neg (by simp [hheld])]
  case pulseEnd =>
    intro s k g p hpulses howner hindex hstop
    rw [exec_evtPulseEnd, State.endPulses_single hpulses howner hindex hstop]
  case pwmPulse =>
    intro s k hen hout hpos hbelow hdrives
    rw [exec_pwmPeriodStart_enabled hen hout, if_neg (by omega), if_neg (by omega), State.pulsePin_of_drives _ _ _ hdrives]
  case pwmFull =>
    intro s k hen hout hpos hfull
    rw [exec_pwmPeriodStart_enabled hen hout, if_neg hpos, if_pos hfull]
  case pwmIdle =>
    intro s k hen hout hzero
    rw [exec_pwmPeriodStart_enabled hen hout, if_pos hzero]
  case pwmEnd =>
    intro s k g p hpulses howner hindex hstop
    rw [exec_pwmHighEnd, State.endPulses_single hpulses howner hindex hstop]

end Sys2Proof.Machine
end

section
/-!
PROOF. The commands of fabric traffic: SYNC and the time servo, position bursts, events, and the schedule (R258, R429, R432,
R434 to R436, R440, R442, R443).
-/

namespace Sys2Proof.Machine

open Reg

section Exec
variable (s : State) (p : Fin 4) (bs : List (Bool × Block))

theorem exec_syncSend : exec (.syncSend p) s = execSyncSend p s := rfl
theorem exec_syncReceive (ago : Nat) : exec (.syncReceive p bs ago) s = execSyncReceive p bs ago s := rfl
theorem exec_timeServo : exec .timeServo s = execTimeServo s := rfl
theorem exec_syncTimeout : exec .syncTimeout s = execSyncTimeout s := rfl
theorem exec_posBurstReceive : exec (.posBurstReceive p bs) s = execPosBurstReceive p bs s := rfl
theorem exec_eventFrameReceive : exec (.eventFrameReceive p bs) s = execEventFrameReceive p bs s := rfl
theorem exec_alignedEventDue : exec .alignedEventDue s = execAlignedEventDue s := rfl
theorem exec_schedGo (m : Fin 3) : exec (.schedGo m) s =
    if !s.reaches m then .next (s.unreached m)
    else if s.flag SILL_SCHED_CMD_GO then .next (s.badAccess m SILL_SCHED_CMD 3)
    else .next s.schedGo := rfl
theorem exec_schedFrameReceive : exec (.schedFrameReceive p bs) s = execSchedFrameReceive p bs s := rfl

end Exec

/-! ### A frame that arrives (R429, R430)

Every command of a frame first asks whether the frame is its own and the port ACTIVE, then whether its CRCs are correct. -/

section Receive
variable {s : State} {p : Nat} {foreign whole : Bool} {strange bad done : Host.Outcome State Fault Refusal}

theorem receive_strange (h : foreign = true ∨ s.sillState p ≠ 4) :
    (if foreign || s.sillState p != 4 then strange else done) = strange :=
  if_pos (by simpa using h)

variable (hown : foreign = false) (h4 : s.sillState p = 4)
include hown h4

theorem receive_bad (hbad : whole = false) :
    (if foreign || s.sillState p != 4 then strange else if !whole then bad else done) = bad :=
  (if_neg (by simp [hown, h4])).trans (if_pos (by simp [hbad]))

theorem receive_whole (hok : whole = true) :
    (if foreign || s.sillState p != 4 then strange else if !whole then bad else done) = done :=
  (if_neg (by simp [hown, h4])).trans (if_neg (by simp [hok]))

end Receive

/-- A frame of its command's TYPE and length is not foreign to it. -/
theorem not_isFrame_eq_false {bs : List (Bool × Block)} {t n : Nat} (h : isFrame bs t n = true) :
    (!isFrame bs t n) = false := by
  rw [h]; rfl

theorem not_isFrame_eq_true {bs : List (Bool × Block)} {t n : Nat} (h : isFrame bs t n = false) :
    (!isFrame bs t n) = true := by
  rw [h]; rfl

/-! ### SYNC and the servo (R434, R435) -/

/-- A SYNC's θ joins the last hundred, and is published with their mean (R434). -/
theorem exec_syncReceive_reading {s : State} {p : Fin 4} {bs : List (Bool × Block)} {ago : Nat} {ths : List Int} {th : Int}
    (hframe : isFrame bs 0x30 3 = true) (h4 : s.sillState p = 4) (hok : frameOk bs = true)
    (hth : th = s.sillIngress p ago - ((fNum bs 2 0 6 * 1000000000 + fNum bs 1 0 4) * 65536 + fNum bs 1 4 2 : Nat) -
      sext 32 (s.rdN (SILL_LAT_L p)) * 256)
    (hths : ths = ((s.sport p).thetas ++ [th]).drop (((s.sport p).thetas ++ [th]).length - 100)) :
    exec (.syncReceive p bs ago) s = .next (((((((s.modSport p (fun x =>
      { x with thetas := ths, syncAt := s.tb.ticks })).putB (SILL_PORT_STATUS_PARTNER_LOCKED p)
      (bit (fByte bs 0 3) 0)).wrS (SILL_OFS_THETA p) th).wrS (SILL_OFS_MEAN p) (roundDiv
      (ths.foldl (fun (a r : Int) => a + r) 0) ths.length)).publishC (SILL_OFS_STATUS p)).showParent)) := by
  push_cast at hth
  subst hth hths
  rw [exec_syncReceive, execSyncReceive]
  exact receive_whole (not_isFrame_eq_false hframe) h4 hok

/-- The servo steps a mean `m` away: the readings and the lock counters begin anew (R435). -/
def State.servoStepped (s : State) (p : Nat) (m : Int) : State :=
  (((s.wrS TB_STEP (-m)).tbStep false true).modSill (fun y => { y with inLock := 0, outLock := 0 })).modSport p
    (fun y => { y with thetas := [] })

section Servo
variable {s : State} {p : Nat} (hparent : s.timeParent = some p)
include hparent

/-- The servo acts on the mean of an ACTIVE time parent that has readings: before OUTPUT_COMMIT it steps away more than
1,000 ns, and slews what is left (R435). -/
theorem exec_timeServo_of_parent {m : Int} (hfw : s.fwRuns = true) (h4 : s.sillState p = 4)
    (hread : (s.sport p).thetas ≠ []) (hm : m = s.rdS (SILL_OFS_MEAN p)) : exec .timeServo s =
      if !s.outCommit && decide (nsT 1000 < m.natAbs) then
        .next ((s.servoStepped p m).iff ((s.servoStepped p m).flag SILL_STATUS_TIME_LOCKED) State.unlockTime)
      else .next (((s.servoSlew m).judgeLock (decide (m.natAbs ≤ (s.servoSlew m).get SILL_TIME_CFG_LOCK *
        4096))).showHealth) := by
  subst hm
  rw [exec_timeServo, execTimeServo, hparent]
  exact if_neg (by simp [hfw, h4, hread])

/-- Before OUTPUT_COMMIT a mean above 1,000 ns is stepped away. -/
theorem exec_timeServo_steps {m : Int} (hfw : s.fwRuns = true) (h4 : s.sillState p = 4)
    (hread : (s.sport p).thetas ≠ []) (hm : m = s.rdS (SILL_OFS_MEAN p)) (hout : s.outCommit = false)
    (hfar : nsT 1000 < m.natAbs) : exec .timeServo s =
      .next ((s.servoStepped p m).iff ((s.servoStepped p m).flag SILL_STATUS_TIME_LOCKED) State.unlockTime) := by
  rw [exec_timeServo_of_parent hparent hfw h4 hread hm, if_pos (by
    rw [hout, decide_eq_true hfar]
    rfl)]

/-- The time parent is silent 10 ms after its last SYNC, or after it entered its state (R435). -/
theorem exec_syncTimeout_of_parent : exec .syncTimeout s =
    if !decide (max (s.sport p).syncAt (s.sport p).since + 10000000 ≤ s.tb.ticks) || !s.fwRuns then .next s
    else .next (((s.modSill (fun x => { x with inLock := 0, outLock := 0 })).unlockTime).showHealth) := by
  rw [exec_syncTimeout, execSyncTimeout, hparent]

end Servo

theorem exec_timeServo_idle {s : State} (h : s.timeParent = none ∨ s.fwRuns = false) :
    exec .timeServo s = .next s := by
  rw [exec_timeServo, execTimeServo]
  cases hparent : s.timeParent with
  | none => rfl
  | some p => exact if_pos (by simp [h.resolve_left (by simp [hparent])])

theorem exec_syncTimeout_idle {s : State} (h : s.timeParent = none ∨ s.fwRuns = false) :
    exec .syncTimeout s = .next s := by
  cases hparent : s.timeParent with
  | none => rw [exec_syncTimeout, execSyncTimeout, hparent]; rfl
  | some p => rw [exec_syncTimeout_of_parent hparent, if_pos (by simp [h.resolve_left (by simp [hparent])])]

/-! ### Position bursts (R440) -/

section Burst
variable {s : State} {p : Fin 4} {bs : List (Bool × Block)}

theorem exec_posBurstReceive_strange (h : fByte bs 0 0 ≠ 0x40 ∨ s.sillState p ≠ 4) :
    exec (.posBurstReceive p bs) s = .next (s.strange p (fByte bs 0 0)) := by
  rw [exec_posBurstReceive, execPosBurstReceive]
  exact receive_strange (h.imp_left decide_eq_true)

variable (htype : fByte bs 0 0 = 0x40) (h4 : s.sillState p = 4)
include htype h4

theorem exec_posBurstReceive_bad (hbad : frameOk (bs.take 3) = false) :
    exec (.posBurstReceive p bs) s = .next (s.sillDiscard p) := by
  rw [exec_posBurstReceive, execPosBurstReceive]
  exact receive_bad (decide_eq_false (not_not.mpr htype)) h4 hbad

/-- The claim of a burst is the one that this node carries at its time (R440). -/
def State.burstCarried (s : State) (bs : List (Bool × Block)) : Bool :=
  match s.carriedAt (s.nearTime (2 ^ 24) (fNum bs 1 0 4) 0 (fNum bs 1 4 3)) with
  | some c => c.claim == fNum bs 0 3 2
  | none => false

/-- A burst comes from above: on the selected UP port, with the claim carried (R440). -/
def State.burstFromUp (s : State) (p : Fin 4) (bs : List (Bool × Block)) : Bool :=
  s.sillRole p == 1 && s.selectedUp == some p.val && s.burstCarried bs

/-- A standby hears a burst of its twin, on its TWIN port or reflected (R440). -/
def State.burstFromTwin (s : State) (p : Fin 4) : Bool :=
  s.isStandby && (s.sillRole p == 3 || s.sillRole p == 2)

variable (hok : frameOk (bs.take 3) = true)
include hok

/-- A burst from above sets its slots and goes down, and up on every other UP port, with the units that passed their CRC; a
twin's burst sets its slots and goes no further (R440). -/
theorem exec_posBurstReceive_whole {t : Nat} {x y : State} {fs : List (Bool × Block)}
    (ht : t = s.nearTime (2 ^ 24) (fNum bs 1 0 4) 0 (fNum bs 1 4 3))
    (hslots : s.slotFrames p t (fByte bs 0 6 % 64) (fNum bs 2 0 4) (bs.drop 3) = (x, fs))
    (hy : y = x.sillSendRole 2 ⟨0, false, false, bs.take 3 ++ fs⟩) : exec (.posBurstReceive p bs) s =
      if !s.burstFromUp p bs && !s.burstFromTwin p then .next s
      else if !s.burstFromUp p bs then .next x
      else .next (((List.range 4).filter (fun q => q != p.val && y.sillOpen 1 q)).foldl
        (fun w q => w.sillTx q ⟨0, false, false, bs.take 3 ++ fs⟩) y) := by
  subst ht hy
  rw [exec_posBurstReceive, execPosBurstReceive]
  refine (receive_whole (decide_eq_false (not_not.mpr htype)) h4 hok).trans ?_
  dsimp only
  rw [hslots]
  rfl

end Burst

theorem State.burstCarried_of_some {s : State} {bs : List (Bool × Block)} {t : Nat} {cl : Claim}
    (ht : t = s.nearTime (2 ^ 24) (fNum bs 1 0 4) 0 (fNum bs 1 4 3)) (hcl : s.carriedAt t = some cl)
    (hclaim : cl.claim = fNum bs 0 3 2) : s.burstCarried bs = true := by
  rw [State.burstCarried, ← ht, hcl]
  exact beq_iff_eq.mpr hclaim

/-- Only the selected UP port hears a burst from above. -/
theorem State.burstFromUp_of_other {s : State} {p : Fin 4} (bs : List (Bool × Block))
    (h : s.sillRole p ≠ 1 ∨ s.selectedUp ≠ some p.val) : s.burstFromUp p bs = false := by
  rcases h with h | h <;> simp [State.burstFromUp, h]

/-! ### Events and schedule entries (R442, R443) -/

section Relay
variable {s x : State} {p : Fin 4} {bs : List (Bool × Block)} {acts : Bool}

/-- An event of another node that this node acts on is delivered at once on a line that is not aligned, and on an aligned
one at its instant, or late (R442). -/
theorem exec_eventFrameReceive_relayed (hframe : isFrame bs 0x50 2 = true) (h4 : s.sillState p = 4)
    (hok : frameOk bs = true) (hrelay : s.sillRelay p ⟨2, true, false, bs⟩ = (acts, x)) {due : Nat}
    (hdue : due = x.nearTime 256 (fNum bs 1 0 4) (fNum bs 1 4 2) (fByte bs 1 6) +
      x.get (SILL_EVT_CFG_EVT_HOLD (fByte bs 0 1 % 32)) * 65536) : exec (.eventFrameReceive p bs) s =
    if !acts || fNum bs 0 3 2 == x.nodeId then .next x
    else if !x.flag (SILL_EVT_CFG_ALIGN (fByte bs 0 1 % 32)) then
      .next (x.fabDeliver (fByte bs 0 1 % 32) (fByte bs 0 2 % 16 + 1))
    else if due < x.now then
      .next ((((x.bump SILL_CNT_EVT_LATE).raise 10 SILL_EVENTS_EVT_LATE).logOnce 0x6040 0 noUnit 0).fabDeliver
        (fByte bs 0 1 % 32) (fByte bs 0 2 % 16 + 1))
    else .next (x.modSill (fun y =>
      { y with aligned := y.aligned ++ [⟨fByte bs 0 1 % 32, fByte bs 0 2 % 16 + 1, due⟩] })) := by
  subst hdue
  rw [exec_eventFrameReceive, execEventFrameReceive, hrelay]
  exact receive_whole (not_isFrame_eq_false hframe) h4 hok

/-- A schedule entry is forwarded, and acted on where the relay says so (R443). -/
theorem exec_schedFrameReceive_relayed (hframe : isFrame bs 0x58 3 = true) (h4 : s.sillState p = 4)
    (hok : frameOk bs = true) (hrelay : s.sillRelay p ⟨2, false, false, bs⟩ = (acts, x)) :
    exec (.schedFrameReceive p bs) s = .next (x.iff acts (fun y => y.schedAccept bs)) := by
  rw [exec_schedFrameReceive, execSchedFrameReceive, hrelay]
  exact receive_whole (not_isFrame_eq_false hframe) h4 hok

end Relay

/-- Settles O33: a frame is discarded, counted as strange, or taken by its rule; the servo and its timeout act for a time
parent while firmware runs. -/
theorem sillTrafficComplete : Obligations.SillTrafficComplete := by
  refine ⟨?send, ?sendNot, ?reading, ?syncBad, ?syncStrange, ?stepLocked, ?step, ?slew, ?servoIdle, ?silent, ?heard,
    ?timeoutIdle, ?burstUp, ?burstTwin, ?burstRefused, ?burstBad, ?burstStrange, ?event, ?eventWaits, ?eventLate,
    ?eventOnly, ?eventBad, ?eventStrange, ?due, ?dueNone, ?go, ?goBusy, ?goUnreached, ?entry, ?entryOnly, ?entryBad,
    ?entryStrange⟩
  case send =>
    intro s p h4
    rw [exec_syncSend, execSyncSend]
    exact if_pos h4
  case sendNot =>
    intro s p h4
    rw [exec_syncSend, execSyncSend]
    exact if_neg h4
  case reading => exact fun s p bs ago ths th hframe h4 hok hth hths => exec_syncReceive_reading hframe h4 hok hth hths
  case syncBad =>
    intro s p bs ago hframe h4 hbad
    rw [exec_syncReceive, execSyncReceive]
    exact receive_bad (not_isFrame_eq_false hframe) h4 hbad
  case syncStrange =>
    intro s p bs ago h
    rw [exec_syncReceive, execSyncReceive]
    exact receive_strange (h.imp_left not_isFrame_eq_true)
  case stepLocked =>
    intro s p m x hparent hfw h4 hread hm hout hfar hx hlocked
    rw [exec_timeServo_steps hparent hfw h4 hread hm hout hfar, State.servoStepped, ← hx, State.iff_true _ _ hlocked]
  case step =>
    intro s p m x hparent hfw h4 hread hm hout hfar hx hunlocked
    rw [exec_timeServo_steps hparent hfw h4 hread hm hout hfar, State.servoStepped, ← hx, State.iff_false _ _ hunlocked]
  case slew =>
    intro s p m hparent hfw h4 hread hm hnear
    rw [exec_timeServo_of_parent hparent hfw h4 hread hm, if_neg (by
      rcases hnear with hout | hnear
      · simp [hout]
      · rw [decide_eq_false (not_lt.mpr hnear), Bool.and_false]
        exact Bool.false_ne_true)]
  case servoIdle => exact fun s h => exec_timeServo_idle h
  case silent =>
    intro s p hparent hlong hfw
    rw [exec_syncTimeout_of_parent hparent, if_neg (by simp [hlong, hfw])]
  case heard =>
    intro s p hparent hshort
    rw [exec_syncTimeout_of_parent hparent, if_pos (by simp [hshort])]
  case timeoutIdle => exact fun s h => exec_syncTimeout_idle h
  case burstUp =>
    intro s p bs t cl x fs y htype h4 hok ht hrole hsel hcl hclaim hslots hy
    have hup : s.burstFromUp p bs = true := by
      simp [State.burstFromUp, hrole, hsel, State.burstCarried_of_some ht hcl hclaim]
    rw [exec_posBurstReceive_whole htype h4 hok ht hslots hy, if_neg (by simp [hup]), if_neg (by simp [hup])]
  case burstTwin =>
    intro s p bs t x fs htype h4 hok ht hstandby hrole hslots
    have hup : s.burstFromUp p bs = false := State.burstFromUp_of_other bs (.inl (by omega))
    have htwin : s.burstFromTwin p = true := by simp [State.burstFromTwin, hstandby, hrole]
    rw [exec_posBurstReceive_whole htype h4 hok ht hslots rfl, if_neg (by simp [htwin]), if_pos (by simp [hup])]
  case burstRefused =>
    intro s p bs htype h4 hok hstandby hother
    have htwin : s.burstFromTwin p = false := by simp [State.burstFromTwin, hstandby]
    have hup : s.burstFromUp p bs = false := State.burstFromUp_of_other bs hother
    rw [exec_posBurstReceive_whole htype h4 hok rfl Prod.mk.eta.symm rfl, if_pos (by simp [hup, htwin])]
  case burstBad => exact fun s p bs htype h4 hbad => exec_posBurstReceive_bad htype h4 hbad
  case burstStrange => exact fun s p bs h => exec_posBurstReceive_strange h
  case event =>
    intro s p bs x hframe h4 hok hrelay hother hplain
    rw [exec_eventFrameReceive_relayed hframe h4 hok hrelay rfl, if_neg (by simp [hother]), if_pos (by simp [hplain])]
  case eventWaits =>
    intro s p bs x due hframe h4 hok hrelay hother halign hdue hearly
    rw [exec_eventFrameReceive_relayed hframe h4 hok hrelay hdue, if_neg (by simp [hother]), if_neg (by simp [halign]),
      if_neg (not_lt.mpr hearly)]
  case eventLate =>
    intro s p bs x due hframe h4 hok hrelay hother halign hdue hlate
    rw [exec_eventFrameReceive_relayed hframe h4 hok hrelay hdue, if_neg (by simp [hother]), if_neg (by simp [halign]),
      if_pos hlate]
  case eventOnly =>
    intro s p bs x hframe h4 hok hx hown
    subst hx
    rw [exec_eventFrameReceive_relayed hframe h4 hok Prod.mk.eta.symm rfl, if_pos (by simpa using hown)]
  case eventBad =>
    intro s p bs hframe h4 hbad
    rw [exec_eventFrameReceive, execEventFrameReceive]
    exact receive_bad (not_isFrame_eq_false hframe) h4 hbad
  case eventStrange =>
    intro s p bs h
    rw [exec_eventFrameReceive, execEventFrameReceive]
    exact receive_strange (h.imp_left not_isFrame_eq_true)
  case due =>
    intro s e hdue
    rw [exec_alignedEventDue, execAlignedEventDue, hdue]
  case dueNone =>
    intro s hnone
    rw [exec_alignedEventDue, execAlignedEventDue, hnone]
  case go =>
    intro s m hreach hidle
    rw [exec_schedGo, if_neg (by simp [hreach]), if_neg (by simp [hidle])]
  case goBusy =>
    intro s m hreach hgo
    rw [exec_schedGo, if_neg (by simp [hreach]), if_pos hgo]
  case goUnreached =>
    intro s m hreach
    rw [exec_schedGo, if_pos (by simp [hreach])]
  case entry =>
    intro s p bs x hframe h4 hok hrelay
    rw [exec_schedFrameReceive_relayed hframe h4 hok hrelay, State.iff_true _ _ rfl]
  case entryOnly =>
    intro s p bs x hframe h4 hok hrelay
    rw [exec_schedFrameReceive_relayed hframe h4 hok hrelay, State.iff_false _ _ rfl]
  case entryBad =>
    intro s p bs hframe h4 hbad
    rw [exec_schedFrameReceive, execSchedFrameReceive]
    exact receive_bad (not_isFrame_eq_false hframe) h4 hbad
  case entryStrange =>
    intro s p bs h
    rw [exec_schedFrameReceive, execSchedFrameReceive]
    exact receive_strange (h.imp_left not_isFrame_eq_true)

end Sys2Proof.Machine
end

section
/-!
PROOF. Memories and stored values: bytes stored in a memory read back, and values of a stored width survive the output
conversion (R276, R277, R291, R317, R355, R358).
-/

namespace Sys2Proof.Machine

open Reg

/-! ### Bytes stored in a memory (R291, R317, R355, R358) -/

/-- Values stored from `a` on read back at their keys, and every other key reads as before. -/
theorem cget_csetN {α : Type} [DecidableEq α] (d : Nat → α) (t : List (Nat × α)) (a : Nat) (l : List α) (k : Nat) (z : α) :
    cget d (csetN d t a l) k = if a ≤ k ∧ k < a + l.length then l.getD (k - a) z else cget d t k := by
  induction l generalizing t a with
  | nil =>
    rw [csetN, List.length_nil, if_neg (by omega)]
  | cons v l ih =>
    rw [csetN, ih, cget_cset, List.length_cons]
    obtain hlt | rfl | hgt := lt_trichotomy k a
    · rw [if_neg (by omega), if_neg hlt.ne, if_neg (by omega)]
    · rw [if_neg (by omega), if_pos rfl, if_pos (by omega), Nat.sub_self, List.getD_cons_zero]
    · rw [if_neg hgt.ne', show k - a = k - (a + 1) + 1 by omega, List.getD_cons_succ]
      exact if_congr (by omega) rfl rfl

theorem State.ddrWr_of_retired {s : State} {a : Nat} (l : List Byte)
    (h : s.get (DDR_STATUS_STATE (a / 2 ^ 36 % 8)) = 3) : s.ddrWr a l = s := if_pos h

theorem State.ddrWr_ddr_of_not_retired {s : State} {a : Nat} (l : List Byte)
    (h : s.get (DDR_STATUS_STATE (a / 2 ^ 36 % 8)) ≠ 3) : (s.ddrWr a l).ddr = csetN (fun _ => 0) s.ddr a l := by
  rw [State.ddrWr, if_neg h]

/-- Settles O56: each memory is one sparse table of bytes, and a store writes its bytes at successive keys; only the store
to a retired channel is discarded. -/
theorem memoriesReadBack : Obligations.MemoriesReadBack := by
  refine ⟨?bay, ?dmem, ?ddr, ?retired⟩
  case bay =>
    intro s b a l k
    rw [State.bayWr_bay, cget_csetN _ _ _ _ _ 0]
  case dmem =>
    intro s e a l k
    rw [State.dmemWr_dmem, cget_csetN _ _ _ _ _ 0]
  case ddr =>
    intro s a l k hlive
    rw [State.ddrWr_ddr_of_not_retired l hlive, cget_csetN _ _ _ _ _ 0]
  case retired => exact fun s a l hretired => State.ddrWr_of_retired l hretired

/-! ### Output conversion (R276, R277) -/

theorem toStored_of_lt {b : Nat} (w : Nat) (h : b < 16) :
    toStored b w = min ((w + 2 ^ (15 - b)) / 2 ^ (16 - b)) (2 ^ b - 1) := if_neg h.ne

@[simp] theorem toStored_sixteen (w : Nat) : toStored 16 w = w := if_pos rfl

@[simp] theorem fromStored_sixteen (v : Nat) : fromStored 16 v = v := Nat.mul_one v

/-- Half a unit of `b` bits is less than the unit, so rounding leaves a whole number of units alone. -/
theorem add_half_div_unit {b : Nat} (v : Nat) (h : b < 16) : (v * 2 ^ (16 - b) + 2 ^ (15 - b)) / 2 ^ (16 - b) = v := by
  have hhalf : 2 ^ (15 - b) < 2 ^ (16 - b) := Nat.pow_lt_pow_right Nat.one_lt_two (by omega)
  rw [Nat.add_comm, Nat.add_mul_div_right _ _ (Nat.two_pow_pos _), Nat.div_eq_of_lt hhalf, Nat.zero_add]

theorem toStored_fromStored {b v : Nat} (hb : b ≤ 16) (hv : v < 2 ^ b) : toStored b (fromStored b v) = v := by
  obtain hlt | rfl := hb.lt_or_eq
  · rw [toStored_of_lt _ hlt, fromStored, add_half_div_unit v hlt]
    exact min_eq_left (Nat.le_sub_one_of_lt hv)
  · rw [fromStored_sixteen, toStored_sixteen]

theorem toStored_lt {b w : Nat} (hb : b ≤ 16) (hw : w < 65536) : toStored b w < 2 ^ b := by
  obtain hlt | rfl := hb.lt_or_eq
  · rw [toStored_of_lt w hlt]
    exact (min_le_right _ _).trans_lt (Nat.sub_one_lt (Nat.two_pow_pos b).ne')
  · rwa [toStored_sixteen]

/-- Settles O58: below 16 bits the conversion rounds to whole units and saturates, which a whole number of units of the
width survives; 16 bits are kept as they are. -/
theorem outputConversionOfValues : Obligations.OutputConversionOfValues :=
  ⟨fun _ w h => toStored_of_lt w h, fun w => toStored_of_lt w (by decide), toStored_sixteen,
    fun _ _ => toStored_fromStored, fun _ _ => toStored_lt⟩

end Sys2Proof.Machine
end

section
/-!
PROOF. Steps and the log: every step answers, no command touches the queue behind it, and the queue to the log writer stays
within its 64 entries (R466).
-/

namespace Sys2Proof.Machine

open Reg

/-- Settles O47: an idle step ticks by definition, and every command answers a state. -/
theorem everyStepAnswers : Obligations.EveryStepAnswers := by
  intro s
  unfold step
  split
  next => exact ⟨s.tick, rfl⟩
  next c rest _ =>
    obtain ⟨t, ht, -⟩ := exec_pending c { s with pending := rest }
    exact ⟨t, ht⟩

/-- Settles O50: the queue is one of the things that every command keeps. -/
theorem commandsKeepTheQueue : Obligations.CommandsKeepTheQueue :=
  fun c s _ h => (exec_pending c s).of_next h

section

variable {s : State} {i : LogItem}

theorem State.logItem_of_room (h : s.log.queue.length < 64) :
    s.logItem i = s.modLog (fun g => { g with queue := g.queue ++ [i] }) := if_pos h

theorem State.logItem_of_full (h : 64 ≤ s.log.queue.length) : s.logItem i = s.bump MC_CNT_LOG_DROP := if_neg h.not_gt

end

/-- Settles O55: an entry is appended where there is room, and otherwise only its loss counter moves. -/
theorem logQueueHolds64 : Obligations.LogQueueHolds64 := by
  refine ⟨?room, ?full, fun s => s.logX_queue⟩
  case room =>
    intro s c u a e h
    rw [State.logX, State.logItem_of_room h]
    exact ⟨rfl, rfl⟩
  case full =>
    intro s c u a e h
    rw [State.logX, State.logItem_of_full h]
    exact ⟨rfl, s.bump_rdN _⟩

end Sys2Proof.Machine
end

section
/-!
PROOF. The registers of an engine (R315): s0 and p0 are constants, and every other register is a value of its own.
-/

namespace Sys2Proof.Machine

namespace Engine

variable (x : Engine) (n : Nat) {r q : Nat}

@[simp] theorem setS_zero : x.setS 0 n = x := if_pos rfl

@[simp] theorem setP_zero : x.setP 0 n = x := if_pos rfl

@[simp] theorem sreg_zero : x.sreg 0 = 0 := if_pos rfl

@[simp] theorem preg_zero : x.preg 0 = 2 ^ 64 - 1 := if_pos rfl

theorem sreg_setS_same (hr : r ≠ 0) : (x.setS r n).sreg r = n % 2 ^ 32 := by
  simp [sreg, setS, hr]

theorem preg_setP_same (hr : r ≠ 0) : (x.setP r n).preg r = n % 2 ^ 64 := by
  simp [preg, setP, hr]

theorem vreg_setV_same : (x.setV r n).vreg r = n % 2 ^ 512 :=
  (congrArg BitVec.toNat (cget_cset_same ..)).trans (BitVec.toNat_ofNat ..)

theorem sreg_setS_ne (h : q ≠ r) : (x.setS r n).sreg q = x.sreg q := by
  by_cases hr : r = 0
  · rw [hr, setS_zero]
  · simp [sreg, setS, hr, cget_cset_ne _ _ _ h]

theorem preg_setP_ne (h : q ≠ r) : (x.setP r n).preg q = x.preg q := by
  by_cases hr : r = 0
  · rw [hr, setP_zero]
  · simp [preg, setP, hr, cget_cset_ne _ _ _ h]

theorem vreg_setV_ne (h : q ≠ r) : (x.setV r n).vreg q = x.vreg q := by
  rw [vreg, setV, cget_cset_ne _ _ _ h, vreg]

end Engine

/-- Settles O59: register 0 is a case of each reading and writing, and the others are entries of three sparse tables. -/
theorem scalarZeroAndPredicateZero : Obligations.ScalarZeroAndPredicateZero :=
  ⟨fun x n => ⟨x.setS_zero n, x.setP_zero n, x.sreg_zero, x.preg_zero⟩,
    fun x _ n h => ⟨x.sreg_setS_same n h, x.preg_setP_same n h⟩,
    fun x _ _ n h => ⟨x.sreg_setS_ne n h, x.preg_setP_ne n h, x.vreg_setV_ne n h⟩,
    fun x _ n => x.vreg_setV_same n⟩

end Sys2Proof.Machine
end

section
/-!
PROOF. Tags and the deal of deliveries: a tag ends in the CRC of its body (R380), and SHARE_A divides deliveries between the
ports (R383, R384).
-/

namespace Sys2Proof.Machine

open Reg

/-! ### Bytes and the CRC of a tag (R380) -/

@[simp] theorem length_toBytes (k x : Nat) : (toBytes k x).length = k := by simp [toBytes]

theorem toBytes_succ (k x : Nat) : toBytes (k + 1) x = BitVec.ofNat 8 x :: toBytes k (x / 256) := by
  simp only [toBytes, List.range_succ_eq_map, List.map_cons, List.map_map, pow_zero, Nat.div_one]
  congr 1
  refine List.map_congr_left fun i _ => ?_
  rw [Function.comp_apply, Nat.succ_eq_add_one, pow_succ', Nat.div_div_eq_div_mul]

/-- A number spread over `k` bytes reads back modulo 2^(8k). -/
theorem ofBytes_toBytes (k x : Nat) : ofBytes (toBytes k x) = x % 256 ^ k := by
  induction k generalizing x with
  | zero => simp [toBytes, ofBytes, Nat.mod_one]
  | succ k ih =>
    rw [toBytes_succ, ofBytes, ih, BitVec.toNat_ofNat, pow_succ' 256]
    exact Nat.mod_mul.symm

theorem crcBit_lt {n poly c : Nat} (hpoly : poly < 2 ^ n) (hc : c < 2 ^ n) : crcBit poly c < 2 ^ n := by
  have hhalf : c / 2 < 2 ^ n := lt_of_le_of_lt (Nat.div_le_self c 2) hc
  unfold crcBit
  split
  · exact Nat.xor_lt_two_pow hhalf hpoly
  · exact hhalf

theorem crcByte_lt {n poly c : Nat} (b : Byte) (hn : 8 ≤ n) (hpoly : poly < 2 ^ n) (hc : c < 2 ^ n) :
    crcByte poly c b < 2 ^ n := by
  have hb : b.toNat < 2 ^ n := lt_of_lt_of_le b.isLt (Nat.pow_le_pow_right Nat.two_pos hn)
  exact List.foldlRecOn (List.range 8) _ (motive := fun c => c < 2 ^ n) (Nat.xor_lt_two_pow hc hb)
    fun c hc _ _ => crcBit_lt hpoly hc

theorem crcBytes_lt {n poly c : Nat} (l : List Byte) (hn : 8 ≤ n) (hpoly : poly < 2 ^ n) (hc : c < 2 ^ n) :
    crcBytes poly c l < 2 ^ n :=
  List.foldlRecOn l _ (motive := fun c => c < 2 ^ n) hc fun _ hc b _ => crcByte_lt b hn hpoly hc

theorem crc32c_lt (l : List Byte) : crc32c l < 2 ^ 32 :=
  Nat.xor_lt_two_pow (crcBytes_lt l (by decide) (by decide) (by decide)) (by decide)

theorem length_tagBody (fmt stream flags node unit : Nat) (t : TagInfo) (map len status : Nat) :
    (tagBody fmt stream flags node unit t map len status).length = 60 := by
  simp [tagBody]

@[simp] theorem length_tagOf {body : List Byte} (h : body.length = 60) : (tagOf body).length = 64 := by
  simp [tagOf, h]

theorem take_tagOf {body : List Byte} (h : body.length = 60) : (tagOf body).take 60 = body :=
  List.take_left' h

theorem bytesAt_tagOf {body : List Byte} (h : body.length = 60) : bytesAt (tagOf body) 60 4 = crc32c body := by
  rw [bytesAt, tagOf, List.drop_left' h, List.take_of_length_le (by simp), ofBytes_toBytes]
  exact Nat.mod_eq_of_lt (crc32c_lt body)

/-- Settles O57: a tag is its body of 60 bytes and the four bytes of the body's CRC, which fits in them. -/
theorem tagEndsInItsCrc : Obligations.TagEndsInItsCrc := by
  refine ⟨?tag, fun _ => rfl, by decide⟩
  case tag =>
    intro d cont len status
    have hbody := length_tagBody (if d.kind = 0 ∨ d.kind = 1 ∨ d.kind = 4 then d.tag.fmt else 0) d.tagStream
      (d.kind + 8 * d.port + 16 * b2n cont + 32 * b2n d.loss) d.nodeId d.unit d.tag d.segMap len status
    rw [Delivery.tagBytes, take_tagOf hbody]
    exact ⟨length_tagOf hbody, bytesAt_tagOf hbody⟩

/-! ### The deal (R383, R384) -/

/-- A delivery of a stream with PORT = 2 whose ring `p` has not been lost goes to `p`, or is unposted there. -/
theorem State.dealPort_of_split {s : State} {st p : Nat} (hport : s.get (DLV_CFG_PORT st) = 2)
    (hp : p = if (s.strm st).dealt * s.get (DLV_CFG_SHARE_A st) / 256 <
      ((s.strm st).dealt + 1) * s.get (DLV_CFG_SHARE_A st) / 256 then 0 else 1) (hlost : (s.ring st p).lost = false) :
    s.dealPort st = if s.flag (activeF st p)
      then (some p, s.modStrm st (fun x => { x with dealt := x.dealt + 1, inWin := x.inWin + 1 }))
      else (none, (s.modStrm st (fun x => { x with dealt := x.dealt + 1, inWin := x.inWin + 1 })).bump (DLV_CNT_UNPOSTED st)) := by
  simp only [State.dealPort, hport, ← hp, hlost, beq_self_eq_true, Bool.false_and, Bool.and_false,
    Bool.false_eq_true, if_false]
  rfl

/-- Of `n` successive deliveries, port A has as many as the share's whole part grows by. -/
theorem length_filter_dealt {sh : Nat} (hsh : sh ≤ 256) (d n : Nat) :
    ((List.range n).filter (fun i => decide ((d + i) * sh / 256 < (d + i + 1) * sh / 256))).length + d * sh / 256 =
      (d + n) * sh / 256 := by
  induction n with
  | zero => simp
  | succ n ih =>
    have hnext : (d + n + 1) * sh = (d + n) * sh + sh := Nat.succ_mul (d + n) sh
    rw [List.range_succ, List.filter_append, List.length_append, ← Nat.add_assoc d n 1]
    by_cases hup : (d + n) * sh / 256 < (d + n + 1) * sh / 256
    · rw [List.filter_singleton, decide_eq_true hup, cond_true, List.length_singleton]
      omega
    · rw [List.filter_singleton, decide_eq_false hup, cond_false, List.length_nil]
      omega

/-- Settles O60: a delivery follows the share's whole part, which grows by SHARE_A in 256 deliveries. -/
theorem dealOfDeliveries : Obligations.DealOfDeliveries := by
  refine ⟨?deal, ?share⟩
  case deal =>
    intro s st p hport hlostA hlostB hp
    have hlost : (s.ring st p).lost = false := by
      rw [hp]
      split
      · exact hlostA
      · exact hlostB
    exact State.dealPort_of_split hport hp hlost
  case share =>
    intro sh d hsh
    have hcount := length_filter_dealt hsh d 256
    have hwhole : (d + 256) * sh = d * sh + 256 * sh := Nat.add_mul d 256 sh
    omega

end Sys2Proof.Machine
end

section
/-!
PROOF. What reaches a scarf unit: the bursts of a tile and the deadlines of its bents (R300 to R305).
-/

namespace Sys2Proof.Machine

open Reg

section Burst
variable {s : State} {u : Fin 16} {n k : Nat} {v : Tile} {last corr : Bool} {bad : List Nat}

theorem exec_segmentBurstArrive (s : State) (u : Fin 16) (n : Nat) (last corr : Bool) (bad : List Nat) :
    exec (.segmentBurstArrive u n last corr bad) s = execSegmentBurstArrive u n last corr bad s := rfl

/-- A burst of a started tile that the unit holds is taken: a tile not known yet joins, the errors are noted, and the last
burst of a conditioned tile acts (R300, R304). -/
theorem exec_segmentBurstArrive_taken (htile : s.tile n = some v) (hseg : s.segOf u v.lane = some k)
    (hheld : hScarf u ∈ v.holders) (hstarted : v.started = true) (hlast : last = false ∨ v.state ≠ 0) :
    exec (.segmentBurstArrive u n last corr bad) s =
      .next ((((s.iff (!s.knownTile u n) (fun s => s.burstJoin u k v)).burstErrors u n corr bad).iff last
        (fun s => s.burstLast u k n v)).settleBents u) := by
  have htakes : (!decide (hScarf u ∈ v.holders) || !v.started || (last && v.state == 0)) = false := by
    rcases hlast with h | h <;> simp [hheld, hstarted, h]
  simp only [exec_segmentBurstArrive, execSegmentBurstArrive, htile, hseg, htakes, Bool.false_eq_true, if_false]

theorem State.burstLast_of_bent (hstray : (s.delivered u v.lane v.tag.line).strayTile u n = false) :
    s.burstLast u k n v = (s.delivered u v.lane v.tag.line).burstDone u n
      (valsOf ((s.delivered u v.lane v.tag.line).bentY u) ((s.delivered u v.lane v.tag.line).tileData v)) :=
  if_neg (by simp [hstray])

theorem State.burstLast_of_stray (hstray : (s.delivered u v.lane v.tag.line).strayTile u n = true) :
    s.burstLast u k n v = ((s.delivered u v.lane v.tag.line).modScf u (fun x =>
      { x with stray := x.stray.filter (fun (e : Nat × Nat) => e.2 != n) })).straggler u k n :=
  if_pos hstray

end Burst

/-- BENT_DEADLINE acts on the open bent of its line, by that bent's deadline (R301). -/
theorem exec_bentDeadline_of_open {s : State} {u : Fin 16} {line : Int} {b : Bent}
    (hopen : (s.scf u).bents.find? (fun (b : Bent) => b.line == line && b.closing.isNone) = some b) :
    exec (.bentDeadline u line) s = .next (s.iff (decide (b.due ≤ s.tb.ticks)) (fun s => s.closeBent u b.num 4)) := by
  show execBentDeadline u line s = _
  rw [execBentDeadline, hopen]

/-- Settles O21: a burst is taken, by whether its tile is known and this is its last, or is let go; a deadline closes its
bent once it has passed. -/
theorem scarfComplete : Obligations.ScarfComplete := by
  refine ⟨?join, ?more, ?lastInBent, ?lastStray, ?whole, ?unnamed, ?gone, ?due, ?early⟩
  case join =>
    intro s u n k v corr bad htile hseg hheld hstarted hnew
    simp only [exec_segmentBurstArrive_taken htile hseg hheld hstarted (.inl rfl), hnew, Bool.not_false, State.iff_true,
      State.iff_false]
  case more =>
    intro s u n k v corr bad htile hseg hheld hstarted hknown
    simp only [exec_segmentBurstArrive_taken htile hseg hheld hstarted (.inl rfl), hknown, Bool.not_true, State.iff_false]
  case lastInBent =>
    intro s u n k v corr bad y htile hseg hheld hstarted hcond hknown hy hbent
    subst hy
    simp only [exec_segmentBurstArrive_taken htile hseg hheld hstarted (.inr hcond), hknown, Bool.not_true, State.iff_false,
      State.iff_true, State.burstLast_of_bent hbent]
  case lastStray =>
    intro s u n k v corr bad y htile hseg hheld hstarted hcond hknown hy hstray
    subst hy
    simp only [exec_segmentBurstArrive_taken htile hseg hheld hstarted (.inr hcond), hknown, Bool.not_true, State.iff_false,
      State.iff_true, State.burstLast_of_stray hstray]
  case whole =>
    intro s u n k v corr bad htile hseg hheld hstarted hcond hnew
    simp only [exec_segmentBurstArrive_taken htile hseg hheld hstarted (.inr hcond), hnew, Bool.not_false, State.iff_true]
  case unnamed =>
    intro s u n v corr bad htile hseg hheld
    simp only [exec_segmentBurstArrive, execSegmentBurstArrive, htile, hseg]
    rw [State.iff_true _ _ (by simpa using hheld)]
  case gone =>
    intro s u n last corr bad hgone
    rw [exec_segmentBurstArrive, execSegmentBurstArrive, hgone]
  case due =>
    intro s u line b hopen hdue
    rw [exec_bentDeadline_of_open hopen, State.iff_true _ _ (decide_eq_true hdue)]
  case early =>
    intro s u line b hopen hearly
    rw [exec_bentDeadline_of_open hopen, State.iff_false _ _ (decide_eq_false (not_le.mpr hearly))]

end Sys2Proof.Machine
end

section
/-!
PROOF. The commands of a DDR4 channel: errors of its codewords, the scrubber, erasure mode and retirement (R349 to R358).
-/

namespace Sys2Proof.Machine

open Reg

section Exec
variable (s : State) (k : Fin 8)

theorem exec_ddrAlert (n : Nat) : exec (.ddrAlert k n) s = execDdrAlert k n s := rfl
theorem exec_ddrReadDecode (a : Nat) (req : Fin 28) (errs : List (Nat × Nat)) :
    exec (.ddrReadDecode k a req errs) s = execDdrReadDecode k a req errs s := rfl
theorem exec_scrubRead (words : List (List (Nat × Nat))) : exec (.scrubRead k words) s = execScrubRead k words s := rfl
theorem exec_ddrEraseWrite (m : Fin 3) (v : Word) : exec (.ddrEraseWrite k m v) s =
    if !s.reaches m then .next (s.unreached m)
    else if m.val ≠ 0 then .next (s.badAccess m (DDR_ERASE k) 3)
    else .next (s.eraseWrite k v.toNat) := rfl
theorem exec_ddrRetire (cause : Fin 8) : exec (.ddrRetire k cause) s =
    .next ((s.iff (cause.val == 3 && s.get (DDR_STATUS_STATE k) != 3) (fun s => s.logC 0x4021 k 0)).ddrRetire k cause true) := rfl

end Exec

section Channel
variable {s : State} {k : Fin 8}

/-! ### Alerts -/

/-- A report of ALERT_N on a channel that runs is counted, and the third within 1 ms retires the channel (R350); `t` are the
times of the reports within 1 ms. -/
theorem exec_ddrAlert_of_running {n : Nat} {t : List Nat} (hruns : s.get (DDR_STATUS_STATE k) = 2)
    (ht : t = s.tb.ticks :: (s.drm k).alerts.filter (fun x => decide (s.tb.ticks < x + 1000000))) :
    exec (.ddrAlert k n) s = .next ((((s.modDrm k (fun x => { x with alerts := t })).bumpBy (DDR_CNT_ALERT k) n).raise 4
      (DDR_EVENTS_ALERT k)).iff (decide (3 ≤ t.length)) (fun s => s.ddrRetire k 2 true)) := by
  subst ht
  rw [exec_ddrAlert, execDdrAlert, if_neg (not_not.mpr hruns)]

/-! ### Codewords -/

/-- A corrected burst at `a` is left for the scrubber, where there is room (R357). -/
def State.leaveToScrub (s : State) (k a : Nat) : State :=
  if (s.drm k).pend.length < 16 then s.modDrm k (fun y => { y with pend := y.pend ++ [a] }) else s.bump (DDR_CNT_SCRUB_DROP k)

/-- A codeword read on a channel that runs decodes, and a correction is left for the scrubber once (R354, R357). -/
theorem exec_ddrReadDecode_of_running {a : Nat} {req : Fin 28} {errs : List (Nat × Nat)} {x : State}
    (hruns : s.get (DDR_STATUS_STATE k) = 2) (hx : x = s.ddrDecode k (a % 2 ^ 36) req errs) :
    exec (.ddrReadDecode k a req errs) s = .next (x.iff
      (s.ddrFixes k (a % 2 ^ 36) errs && !decide (a % 2 ^ 36 / 64 * 64 ∈ (x.drm k).pend))
      (fun x => x.leaveToScrub k (a % 2 ^ 36 / 64 * 64))) := by
  subst hx
  rw [exec_ddrReadDecode, execDdrReadDecode, if_neg (not_not.mpr hruns)]
  rfl

/-! ### The scrubber -/

/-- The burst that the scrubber reads next, a corrected one first, and the state with that burst taken (R357). -/
def State.scrubTake (s : State) (k : Nat) : Nat × State :=
  match (s.drm k).pend with
  | a :: rest => (a, s.modDrm k (fun x => { x with pend := rest }))
  | [] =>
    (s.rd64 (DDR_SCRUB_NEXT k),
      if s.ddrGib k * 2 ^ 30 ≤ s.rd64 (DDR_SCRUB_NEXT k) + 64 then (s.wr64 (DDR_SCRUB_NEXT k) 0).bump (DDR_CNT_SCRUB_PASS k)
      else s.wr64 (DDR_SCRUB_NEXT k) (s.rd64 (DDR_SCRUB_NEXT k) + 64))

/-- A scrubber that is due reads its next burst and decodes its codewords (R357). -/
theorem exec_scrubRead_of_due {words : List (List (Nat × Nat))} {x : State} (hruns : s.get (DDR_STATUS_STATE k) = 2)
    (hen : s.flag (DDR_SCRUB_EN k) = true) (hdue : s.scrubDue k = true)
    (hx : x = s.modDrm k (fun y => { y with scrubAt := some s.tb.ticks })) : exec (.scrubRead k words) s =
      .next ((words.take 4).foldl (fun y errs => y.ddrDecode k (x.scrubTake k).1 28 errs) (x.scrubTake k).2) := by
  rw [exec_scrubRead, execScrubRead, if_neg (by simp [hruns, hen, hdue])]
  simp only [← hx]
  cases hpend : (x.drm k).pend with
  | cons a r => simp only [State.scrubTake, hpend]
  | nil =>
    simp only [State.scrubTake, hpend]
    split
    · rfl
    · rfl

theorem State.scrubTake_pending {a : Nat} {r : List Nat} (h : (s.drm k).pend = a :: r) :
    s.scrubTake k = (a, s.modDrm k (fun y => { y with pend := r })) := by
  rw [State.scrubTake, h]

theorem State.scrubTake_walk (h : (s.drm k).pend = []) (hmore : s.rd64 (DDR_SCRUB_NEXT k) + 64 < s.ddrGib k * 2 ^ 30) :
    s.scrubTake k = (s.rd64 (DDR_SCRUB_NEXT k), s.wr64 (DDR_SCRUB_NEXT k) (s.rd64 (DDR_SCRUB_NEXT k) + 64)) := by
  rw [State.scrubTake, h, if_neg (not_le.mpr hmore)]

theorem State.scrubTake_wraps (h : (s.drm k).pend = []) (hend : s.ddrGib k * 2 ^ 30 ≤ s.rd64 (DDR_SCRUB_NEXT k) + 64) :
    s.scrubTake k = (s.rd64 (DDR_SCRUB_NEXT k), (s.wr64 (DDR_SCRUB_NEXT k) 0).bump (DDR_CNT_SCRUB_PASS k)) := by
  rw [State.scrubTake, h, if_pos hend]

end Channel

/-- Settles O25: a channel that runs takes what it reads, and only the MC writes its erasure mode. -/
theorem dramComplete : Obligations.DramComplete := by
  refine ⟨fun _ _ => rfl, fun _ _ => rfl, ?alert, ?alertThird, ?alertIdle, ?decode, ?fixed, ?dropped, ?decodeIdle, ?pending,
    ?walk, ?wrap, ?scrubIdle, ?erase, ?eraseRefused, ?eraseUnreached, ?retire, ?retireSecond⟩
  case alert =>
    intro s k m t hruns ht hfew
    rw [exec_ddrAlert_of_running hruns ht, State.iff_false _ _ (decide_eq_false (not_le.mpr hfew))]
  case alertThird =>
    intro s k m t hruns ht hmany
    rw [exec_ddrAlert_of_running hruns ht, State.iff_true _ _ (decide_eq_true hmany)]
  case alertIdle =>
    intro s k m hidle
    rw [exec_ddrAlert, execDdrAlert, if_pos hidle]
  case decode =>
    intro s k a req errs x hruns hx h
    rw [exec_ddrReadDecode_of_running hruns hx, State.iff_false]
    rcases h with h | h <;> simp only [h, Bool.false_and, decide_true, Bool.not_true, Bool.and_false]
  case fixed =>
    intro s k a req errs x hruns hx hfixed hnew hroom
    rw [exec_ddrReadDecode_of_running hruns hx, State.iff_true _ _ (by rw [hfixed, decide_eq_false hnew]; rfl),
      State.leaveToScrub, if_pos hroom]
  case dropped =>
    intro s k a req errs x hruns hx hfixed hnew hfull
    rw [exec_ddrReadDecode_of_running hruns hx, State.iff_true _ _ (by rw [hfixed, decide_eq_false hnew]; rfl), State.leaveToScrub,
      if_neg (not_lt.mpr hfull)]
  case decodeIdle =>
    intro s k a req errs hidle
    rw [exec_ddrReadDecode, execDdrReadDecode, if_pos hidle]
  case pending =>
    intro s k words x a r hruns hen hdue hx hpend
    rw [exec_scrubRead_of_due hruns hen hdue hx, State.scrubTake_pending hpend]
  case walk =>
    intro s k words x a hruns hen hdue hx hnone ha hmore
    subst ha
    rw [exec_scrubRead_of_due hruns hen hdue hx, State.scrubTake_walk hnone hmore]
  case wrap =>
    intro s k words x a hruns hen hdue hx hnone ha hend
    subst ha
    rw [exec_scrubRead_of_due hruns hen hdue hx, State.scrubTake_wraps hnone hend]
  case scrubIdle =>
    intro s k words h
    rw [exec_scrubRead, execScrubRead, if_pos (by simpa using h)]
  case erase =>
    intro s k v h
    rw [exec_ddrEraseWrite, if_neg (by simp [h]), if_neg (by simp)]
  case eraseRefused =>
    intro s k m v h hm
    have hhost : m.val ≠ 0 := fun e => hm (Fin.ext e)
    rw [exec_ddrEraseWrite, if_neg (by simp [h]), if_pos hhost]
  case eraseUnreached =>
    intro s k m v h
    rw [exec_ddrEraseWrite, if_pos (by simp [h])]
  case retire =>
    intro s k cause h
    rw [exec_ddrRetire, State.iff_false]
    rcases h with h | h
    · have hv : cause.val ≠ 3 := fun e => h (Fin.ext e)
      simp [hv]
    · simp [h]
  case retireSecond =>
    intro s k cause hcause hserves
    rw [exec_ddrRetire, State.iff_true _ _ (by simp [hcause, hserves])]

end Sys2Proof.Machine
end

section
/-!
PROOF. The bundles of an engine: what one that issues without a fault does, by its system instruction, and how a stalled one
goes on (R319 to R338).
-/

namespace Sys2Proof.Machine

open Reg

section Exec
variable (s : State) (e : Fin 192) (i : Issue) (cycles : Nat)

theorem exec_bundleIssue (err : Fin 5) : exec (.bundleIssue e i err) s = .next (s.issue e i.cycles err i.same) := rfl
theorem exec_engSig : exec (.engSig e i) s = .next (s.issueOp e i.cycles i.same 7 0) := rfl
theorem exec_engPost : exec (.engPost e i) s = .next (s.issueOp e i.cycles i.same 7 1) := rfl
theorem exec_engPush : exec (.engPush e i) s = .next (s.issueOp e i.cycles i.same 7 2) := rfl
theorem exec_dmaGo : exec (.dmaGo e cycles) s = .next (s.issueOp e cycles true 7 3) := rfl
theorem exec_dmaWait : exec (.dmaWait e cycles) s = .next (s.issueOp e cycles true 7 4) := rfl
theorem exec_outOpen : exec (.outOpen e cycles) s = .next (s.issueOp e cycles true 7 5) := rfl
theorem exec_outEmit : exec (.outEmit e cycles) s = .next (s.issueOp e cycles true 7 6) := rfl
theorem exec_tkeep : exec (.tkeep e cycles) s = .next (s.issueOp e cycles true 7 7) := rfl
theorem exec_trel : exec (.trel e cycles) s = .next (s.issueOp e cycles true 7 8) := rfl
theorem exec_engFence : exec (.engFence e cycles) s = .next (s.issueOp e cycles true 7 9) := rfl
theorem exec_tend : exec (.tend e cycles) s = .next (s.issueOp e cycles true 2 0x3F) := rfl
theorem exec_dmaWaitResume : exec (.dmaWaitResume e) s = execDmaWaitResume e s := rfl
theorem exec_fenceComplete : exec (.fenceComplete e) s =
    if (s.en e).stall = .fence then .next (s.commitBundle e none) else .next s := rfl
theorem exec_outOpenResume : exec (.outOpenResume e) s = execOutOpenResume e s := rfl
theorem exec_enginePushArrive (b : Fin 24) : exec (.enginePushArrive b) s = execEnginePushArrive b s := rfl

end Exec

/-! ### Issuing -/

section Issue
variable {s x y : State} {e cycles err w op : Nat} {same : Bool}

/-- The input's budget is 0, or not below the cycles after an issue (R338). -/
abbrev State.inBudget (s : State) (e cycles : Nat) : Prop :=
  s.get (ENG_IN_BUDGET_BUDGET e (s.get (ENG_STATUS_INPUT e))) = 0 ∨
    (s.en e).cycles + cycles ≤ s.get (ENG_IN_BUDGET_BUDGET e (s.get (ENG_STATUS_INPUT e)))

theorem State.inBudget.runs (hrun : s.engState e = 2) (hbudget : s.inBudget e cycles) :
    ¬ (s.engState e ≠ 2 ∨ (s.get (ENG_IN_BUDGET_BUDGET e (s.get (ENG_STATUS_INPUT e))) ≠ 0 ∧
      s.get (ENG_IN_BUDGET_BUDGET e (s.get (ENG_STATUS_INPUT e))) < (s.en e).cycles + cycles)) := by
  unfold State.inBudget at hbudget
  omega

theorem State.engCycle_true (s : State) : s.engCycle true = s := rfl

/-- A bundle without a fault, which meets no uncorrectable error, takes effect or stalls. -/
theorem State.issue_sound (hrun : s.engState e = 2) (hbudget : s.inBudget e cycles) (h3 : err ≠ 3) (h4 : err ≠ 4)
    (hy : s.engCycle same = y) (hx : x = y.charge e cycles err) (hsound : x.bundleFault e = none) :
    s.issue e cycles err same = x.commitOrStall e := by
  subst hy hx
  simp only [State.issue, if_neg (hbudget.runs hrun), h3, h4, false_and, if_false, hsound]

/-- A bundle with a fault, which meets no memory error, ends the task with that fault. -/
theorem State.issue_faulty {code addr : Nat} (hrun : s.engState e = 2) (hbudget : s.inBudget e cycles) (h3 : err ≠ 3)
    (hy : s.engCycle same = y) (hx : x = y.charge e cycles err) (hfault : x.bundleFault e = some (code, addr)) :
    s.issue e cycles err same = x.engFault e code addr false := by
  subst hy hx
  simp only [State.issue, if_neg (hbudget.runs hrun), h3, false_and, if_false, hfault]

/-- An uncorrectable error on the fetch of a bundle within the code ends the task with fault 0x0B (R338). -/
theorem State.issue_badFetch (hrun : s.engState e = 2) (hbudget : s.inBudget e cycles)
    (hy : s.engCycle same = y) (hx : x = y.charge e cycles 3) (hfetch : (x.nextBundle e).2 = false) :
    s.issue e cycles 3 same = x.engFault e 0x0B 0 true := by
  subst hy hx
  simp only [State.issue, if_neg (hbudget.runs hrun), hfetch, and_self, if_true]

theorem any_of_sysOf {b : List (Nat × Nat)} (hw : sysOf b = some w) (hop : iOp w = op) :
    b.any (fun i => iCls i.2 == 7 && iOp i.2 == op) = true := by
  obtain ⟨i, hfind, rfl⟩ := Option.map_eq_some_iff.1 hw
  have hcls : (iCls i.2 == 7) = true := List.find?_some (p := fun i : Nat × Nat => iCls i.2 == 7) hfind
  exact List.any_eq_true.2 ⟨i, List.mem_of_find?_eq_some hfind, by simp [hcls, hop]⟩

/-- The command of a system instruction issues the bundle that holds it. -/
theorem State.issueOp_system (hrun : s.engState e = 2) (hbudget : s.inBudget e cycles)
    (hw : sysOf (s.nextBundle e).1 = some w) (hop : iOp w = op) (hy : s.engCycle same = y) (hx : x = y.charge e cycles 0)
    (hsound : x.bundleFault e = none) : s.issueOp e cycles same 7 op = x.commitOrStall e := by
  rw [State.issueOp, State.iff_true _ _ (any_of_sysOf hw hop)]
  exact State.issue_sound hrun hbudget (by decide) (by decide) hy hx hsound

end Issue

/-! ### Taking effect or stalling -/

section Commit
variable {s : State} {e w a : Nat}

theorem State.commitOrStall_of_none (hnone : sysOf (s.nextBundle e).1 = none) : s.commitOrStall e = s.commitBundle e none := by
  rw [State.commitOrStall, hnone]

/-- Only PUSH, DMA_WAIT, OUT_OPEN and FENCE can stall (R322, R329, R331, R335). -/
theorem State.commitOrStall_of_plain (hw : sysOf (s.nextBundle e).1 = some w) (hplain : iOp w ∉ [2, 4, 5, 9]) :
    s.commitOrStall e = s.commitBundle e none := by
  simp only [List.mem_cons, List.not_mem_nil, or_false, not_or] at hplain
  obtain ⟨hpush, hwait, hopen, hfence⟩ := hplain
  simp only [State.commitOrStall, hw]

theorem State.commitOrStall_push (hw : sysOf (s.nextBundle e).1 = some w) (hop : iOp w = 2) : s.commitOrStall e =
    if 16 ≤ (s.bayPushes (e / 8)).length then
      s.stallOn e (.push ((s.en e).sreg (iA w)) ((s.en e).sreg (iD w) + 2 ^ 32 * (s.en e).sreg ((iD w + 1) % 32)))
    else s.commitBundle e none := by
  simp only [State.commitOrStall, hw, hop]

theorem State.commitOrStall_dmaWait (hw : sysOf (s.nextBundle e).1 = some w) (hop : iOp w = 4) : s.commitOrStall e =
    if s.dmaState (e / 8) (getBits w 0 3) = 0 ∨ s.dmaState (e / 8) (getBits w 0 3) = 3 then s.commitBundle e none
    else s.stallOn e (.dma (getBits w 0 3)) := by
  simp only [State.commitOrStall, hw, hop]

theorem State.commitOrStall_outOpen (hw : sysOf (s.nextBundle e).1 = some w) (hop : iOp w = 5) :
    s.commitOrStall e = s.openOrStall e w none := by
  simp only [State.commitOrStall, hw, hop]

theorem State.commitOrStall_fence (hw : sysOf (s.nextBundle e).1 = some w) (hop : iOp w = 9) :
    s.commitOrStall e = s.stallOn e .fence := by
  simp only [State.commitOrStall, hw, hop]

/-- OUT_OPEN with an entry and then a slot to be had takes both (R331). -/
theorem State.openOrStall_opens {pool : Option Nat} (hentry : s.entryFor [(s.en e).sreg (iA w)] = some pool)
    (hslot : (s.newTile { Tile.blank with src := 2, lane := e, pool := pool }).outSlot e = some a) :
    s.openOrStall e w none =
      (s.newTile { Tile.blank with src := 2, lane := e, pool := pool }).commitBundle e (some (s.ledger.next, a)) := by
  simp only [State.openOrStall, hentry, hslot]

theorem State.openOrStall_noEntry (hentry : s.entryFor [(s.en e).sreg (iA w)] = none) (hfirst : (s.en e).stall = .none) :
    s.openOrStall e w none = (s.bump DLV_CNT_NOENTRY).stallOn e (.out ((s.en e).sreg (iA w)) (iD w) none) := by
  simp only [State.openOrStall, hentry]
  rw [State.iff_true _ _ (by rw [hfirst]; rfl)]

/-- OUT_OPEN that holds its entry goes on once it finds a slot (R331). -/
theorem State.openOrStall_resumes (n : Nat) (hslot : s.outSlot e = some a) :
    s.openOrStall e w (some n) = s.commitBundle e (some (n, a)) := by
  simp only [State.openOrStall, hslot]

end Commit

/-- The commands of the system instructions that cannot stall. -/
theorem State.issueOp_commits {s x y : State} {e cycles w op : Nat} {same : Bool} (hrun : s.engState e = 2)
    (hbudget : s.inBudget e cycles) (hw : sysOf (s.nextBundle e).1 = some w) (hop : iOp w = op)
    (hy : s.engCycle same = y) (hx : x = y.charge e cycles 0) (hw' : sysOf (x.nextBundle e).1 = some w)
    (hsound : x.bundleFault e = none) (hplain : op ∉ [2, 4, 5, 9]) :
    s.issueOp e cycles same 7 op = x.commitBundle e none := by
  rw [State.issueOp_system hrun hbudget hw hop hy hx hsound, State.commitOrStall_of_plain hw' (hop ▸ hplain)]

/-- The oldest push of a bay that waits for none of a lower bay leaves the queue for its sequencer's ring, and the
lowest-numbered engine that stalls on the queue goes on (R335). -/
theorem exec_enginePushArrive_of_front {s x : State} {b : Fin 24} {p : EngPush} {r : List EngPush}
    (hfront : s.bayPushes b = p :: r) (hahead : s.pushAhead b p = false) (hring : s.trRing p.seq = true)
    (hx : x = (s.setPushes b r).ringPush p.seq p.x) : exec (.enginePushArrive b) s =
      match (List.range 8).find? (fun j => (x.en (8 * b + j)).stall.isPush) with
      | none => .next x
      | some j => .next (x.commitBundle (8 * b + j) none) := by
  subst hx
  simp only [exec_enginePushArrive, execEnginePushArrive, hfront, hahead, Bool.false_eq_true, if_false,
    State.iff_true _ _ hring] <;> rfl

/-- Settles O24: a bundle in its budget and without a fault takes effect, or stalls by its system instruction; a stalled one
takes effect on resumption. -/
theorem engineInstructionsComplete : Obligations.EngineInstructionsComplete := by
  refine ⟨?sig, ?post, ?push, ?pushFull, ?dmaGo, ?dmaWait, ?dmaWaitBusy, ?outOpen, ?outOpenNone, ?outEmit, ?tkeep, ?trel, ?fence,
    ?tend, ?issue, ?issueFaulty, ?issueBadFetch, ?dmaResume, ?fenceEnd, ?fenceNone, ?outOpenResume, ?arrive, ?arriveStalled,
    ?arriveWaits⟩
  case sig =>
    intro s e cycles w same x hrun hbudget hw hop hx hw' hsound
    rw [exec_engSig, State.issueOp_commits hrun hbudget hw hop rfl hx hw' hsound (by decide)]
  case post =>
    intro s e cycles w same x hrun hbudget hw hop hx hw' hsound
    rw [exec_engPost, State.issueOp_commits hrun hbudget hw hop rfl hx hw' hsound (by decide)]
  case push =>
    intro s e cycles w same x hrun hbudget hw hop hx hw' hsound hroom
    rw [exec_engPush, State.issueOp_system hrun hbudget hw hop rfl hx hsound, State.commitOrStall_push hw' hop,
      if_neg (not_le.mpr hroom)]
  case pushFull =>
    intro s e cycles w same x hrun hbudget hw hop hx hw' hsound hfull
    rw [exec_engPush, State.issueOp_system hrun hbudget hw hop rfl hx hsound, State.commitOrStall_push hw' hop, if_pos hfull]
  case dmaGo =>
    intro s e cycles w x hrun hbudget hw hop hx hw' hsound
    rw [exec_dmaGo, State.issueOp_commits hrun hbudget hw hop s.engCycle_true hx hw' hsound (by decide)]
  case dmaWait =>
    intro s e cycles w x hrun hbudget hw hop hx hw' hsound hdone
    rw [exec_dmaWait, State.issueOp_system hrun hbudget hw hop s.engCycle_true hx hsound, State.commitOrStall_dmaWait hw' hop, if_pos hdone]
  case dmaWaitBusy =>
    intro s e cycles w x hrun hbudget hw hop hx hw' hsound hidle herror
    rw [exec_dmaWait, State.issueOp_system hrun hbudget hw hop s.engCycle_true hx hsound, State.commitOrStall_dmaWait hw' hop,
      if_neg (not_or.mpr ⟨hidle, herror⟩)]
  case outOpen =>
    intro s e cycles w x pool a hrun hbudget hw hop hx hw' hsound hentry hslot
    rw [exec_outOpen, State.issueOp_system hrun hbudget hw hop s.engCycle_true hx hsound, State.commitOrStall_outOpen hw' hop,
      State.openOrStall_opens hentry hslot]
  case outOpenNone =>
    intro s e cycles w x y hrun hbudget hw hop hx hw' hsound hentry hfirst hy
    rw [exec_outOpen, State.issueOp_system hrun hbudget hw hop s.engCycle_true hx hsound, State.commitOrStall_outOpen hw' hop,
      State.openOrStall_noEntry hentry hfirst, hy]
  case outEmit =>
    intro s e cycles w x hrun hbudget hw hop hx hw' hsound
    rw [exec_outEmit, State.issueOp_commits hrun hbudget hw hop s.engCycle_true hx hw' hsound (by decide)]
  case tkeep =>
    intro s e cycles w x hrun hbudget hw hop hx hw' hsound
    rw [exec_tkeep, State.issueOp_commits hrun hbudget hw hop s.engCycle_true hx hw' hsound (by decide)]
  case trel =>
    intro s e cycles w x hrun hbudget hw hop hx hw' hsound
    rw [exec_trel, State.issueOp_commits hrun hbudget hw hop s.engCycle_true hx hw' hsound (by decide)]
  case fence =>
    intro s e cycles w x hrun hbudget hw hop hx hw' hsound
    rw [exec_engFence, State.issueOp_system hrun hbudget hw hop s.engCycle_true hx hsound, State.commitOrStall_fence hw' hop]
  case tend =>
    intro s e cycles x hrun hbudget hend hx hnone hsound
    rw [exec_tend, State.issueOp, State.iff_true _ _ hend, State.issue_sound hrun hbudget (by decide) (by decide) s.engCycle_true hx hsound,
      State.commitOrStall_of_none hnone]
  case issue =>
    intro s e cycles err same x hrun hbudget h3 h4 hx hsound hnone
    rw [exec_bundleIssue, State.issue_sound hrun hbudget h3 h4 rfl hx hsound, State.commitOrStall_of_none hnone]
  case issueFaulty =>
    intro s e cycles same x code addr hrun hbudget hx hfault
    rw [exec_bundleIssue]
    exact congrArg _ (State.issue_faulty hrun hbudget (by decide) rfl hx hfault)
  case issueBadFetch =>
    intro s e cycles same x hrun hbudget hx hfetch
    rw [exec_bundleIssue]
    exact congrArg _ (State.issue_badFetch hrun hbudget rfl hx hfetch)
  case dmaResume =>
    intro s e c hstall hdone
    simp only [exec_dmaWaitResume, execDmaWaitResume, hstall, if_pos hdone]
  case fenceEnd =>
    intro s e hstall
    rw [exec_fenceComplete, if_pos hstall]
  case fenceNone =>
    intro s e hother
    rw [exec_fenceComplete, if_neg hother]
  case outOpenResume =>
    intro s e st d n w a hstall hw hslot
    simp only [exec_outOpenResume, execOutOpenResume, hstall, hw, State.openOrStall_resumes n hslot]
  case arrive =>
    intro s b p r x hfront hahead hring hx hnone
    rw [exec_enginePushArrive_of_front hfront hahead hring hx, hnone]
  case arriveStalled =>
    intro s b p r j x hfront hahead hring hx hsome
    rw [exec_enginePushArrive_of_front hfront hahead hring hx, hsome]
  case arriveWaits =>
    intro s b p r hfront hahead
    simp only [exec_enginePushArrive, execEnginePushArrive, hfront, hahead, if_true]

end Sys2Proof.Machine
end

section
/-!
PROOF. The times of delivery and recall: moderated interrupts, rate windows, log batches, and the walk of a recall request
over its records (R376, R386, R387, R396, R397).
-/

namespace Sys2Proof.Machine

open Reg

section Exec
variable (s : State) (st : Fin 256) (p : Fin 2)

theorem exec_irqModerationExpiry : exec (.irqModerationExpiry st p) s =
    if (s.ring st p).unsig = 0 ∨ s.tb.ticks < (s.ring st p).unsigAt + 1000 * s.get (DLV_IRQ_IRQ_US st) then .next s
    else .next (s.ringIrq st p) := rfl
theorem exec_rateWindowEnd : exec .rateWindowEnd s =
    if !s.outCommit || decide (s.tb.ticks < s.rateFrom + 1000000000) then .next s
    else .next ((s.setRateFrom (s.rateFrom + 1000000000)).rateWindow) := rfl
theorem exec_flushUsExpiry : exec (.flushUsExpiry st) s = .next (s.logBatch st) := rfl
theorem exec_recallGo (m : Fin 3) (v : Word) : exec (.recallGo m v) s =
    if !s.reaches m then .next (s.unreached m)
    else if s.flag DLV_RECALL_REQ_BUSY then .next (s.badAccess m DLV_RECALL_REQ 3)
    else .next (((s.put DLV_RECALL_REQ_KEY (getBits v.toNat 24 2)).put DLV_RECALL_REQ_OUT (getBits v.toNat 16 8)).put
      DLV_RECALL_REQ_STREAM (getBits v.toNat 8 8)).recallStart := rfl
theorem exec_recallRecordRead (hdr : Bool) (bad : List Nat) :
    exec (.recallRecordRead hdr bad) s = execRecallRecordRead hdr bad s := rfl

end Exec

/-! ### The walk of a recall request -/

section Recall
variable {s x : State} {a : Nat} {want : Option Nat} {h : List Byte} {hdr : Bool} {bad : List Nat}

/-- What RECALL does with the record at `a`, which its walk expects and whose first 128 bytes are `h`, once it has read it in
the state `x` (R386, R387). -/
def State.recallJudge (x : State) (a : Nat) (h : List Byte) (bad : List Nat) : Host.Outcome State Fault Refusal :=
  if recordTime h < x.recl.notBefore then .next (x.recallEnd 3)
  else if !x.recl.wants h then
    .next ((x.modRecl (fun r => { r with scanned := r.scanned + 1 })).recallOn (bytesAt h 8 8) (bytesAt h 0 8))
  else match x.entryFor [x.recl.out] with
    | none => .next (x.bump DLV_CNT_NOENTRY)
    | some pool =>
      let y := x.modRecl (fun r => { r with scanned := r.scanned + 1, found := r.found + 1 })
      .next ((y.recallLine pool (h.drop 64) (y.ddrRd (a + 128) (bytesAt h 16 4)) bad).recallOn (bytesAt h 8 8) (bytesAt h 0 8))

/-- With RECALL's grant in a channel in service, a record that can be read is judged where it is the one expected, and ends the
request where it has been overwritten or its header cannot be corrected. -/
theorem exec_recallRecordRead_granted (hx : x = s.ddrLand) (hh : h = x.ddrRd a 128) (hwalk : x.recl.walk = some (a, want))
    (hgranted : x.arbWaits (chanAt a) reqRecall = false) (hserves : x.get (DDR_STATUS_STATE (a / 2 ^ 36 % 8)) ≠ 3) :
    exec (.recallRecordRead hdr bad) s =
      if hdr then .next ((x.logC 0x5131 x.recl.stream 0).recallEnd 5)
      else if want.any (fun q => q != bytesAt h 0 8) then .next (x.recallEnd 2)
      else x.recallJudge a h bad := by
  rw [exec_recallRecordRead, execRecallRecordRead]
  simp only [← hx, hwalk, hgranted, ← hh, if_neg hserves, Bool.false_eq_true, if_false]
  cases want <;> rfl

/-- A record whose header and tag can be read and that the walk expects is judged. -/
theorem exec_recallRecordRead_expected (hx : x = s.ddrLand) (hh : h = x.ddrRd a 128) (hwalk : x.recl.walk = some (a, want))
    (hgranted : x.arbWaits (chanAt a) reqRecall = false) (hserves : x.get (DDR_STATUS_STATE (a / 2 ^ 36 % 8)) ≠ 3)
    (hwant : want = none ∨ want = some (bytesAt h 0 8)) :
    exec (.recallRecordRead false bad) s = x.recallJudge a h bad := by
  have hexpected : want.any (fun q => q != bytesAt h 0 8) = false := by
    rcases hwant with rfl | rfl <;> simp
  simp only [exec_recallRecordRead_granted hx hh hwalk hgranted hserves, hexpected, Bool.false_eq_true, if_false]

end Recall

/-- Settles O28: each expiry acts from its instant on, and the record that a recall reads is judged by its grant, its channel,
its header and its place in the walk. -/
theorem deliveryTimesComplete : Obligations.DeliveryTimesComplete := by
  refine ⟨?irq, ?irqEarly, ?rate, ?rateNone, ?flush, ?go, ?goBusy, ?goUnreached, ?scanned, ?found, ?noEntry, ?older, ?overwritten,
    ?badHeader, ?retired, ?ungranted, ?noWalk⟩
  case irq =>
    intro s st p hsome hdue
    rw [exec_irqModerationExpiry, if_neg (not_or.mpr ⟨hsome, not_lt.mpr hdue⟩)]
  case irqEarly =>
    intro s st p h
    rw [exec_irqModerationExpiry, if_pos h]
  case rate =>
    intro s hout hdue
    rw [exec_rateWindowEnd, if_neg (by simp [hout, hdue])]
  case rateNone =>
    intro s h
    rw [exec_rateWindowEnd, if_pos (by simpa using h)]
  case flush => exact fun s st => exec_flushUsExpiry s st
  case go =>
    intro s m v hreach hidle
    rw [exec_recallGo, if_neg (by simp [hreach]), if_neg (by simp [hidle])]
  case goBusy =>
    intro s m v hreach hbusy
    rw [exec_recallGo, if_neg (by simp [hreach]), if_pos hbusy]
  case goUnreached =>
    intro s m v hreach
    rw [exec_recallGo, if_pos (by simp [hreach])]
  case scanned =>
    intro s bad a want x h hx hh hwalk hgranted hserves hwant hrecent hother
    rw [exec_recallRecordRead_expected hx hh hwalk hgranted hserves hwant, State.recallJudge, if_neg (not_lt.mpr hrecent),
      if_pos (by simp [hother])]
  case found =>
    intro s bad a want x h pool y hx hh hwalk hgranted hserves hwant hrecent hwanted hentry hy
    subst hy
    rw [exec_recallRecordRead_expected hx hh hwalk hgranted hserves hwant, State.recallJudge, if_neg (not_lt.mpr hrecent),
      if_neg (by simp [hwanted]), hentry]
  case noEntry =>
    intro s bad a want x h hx hh hwalk hgranted hserves hwant hrecent hwanted hentry
    rw [exec_recallRecordRead_expected hx hh hwalk hgranted hserves hwant, State.recallJudge, if_neg (not_lt.mpr hrecent),
      if_neg (by simp [hwanted]), hentry]
  case older =>
    intro s bad a want x h hx hh hwalk hgranted hserves hwant holder
    rw [exec_recallRecordRead_expected hx hh hwalk hgranted hserves hwant, State.recallJudge, if_pos holder]
  case overwritten =>
    intro s bad a want x h e hx hh hwalk hgranted hserves hwant hother
    rw [exec_recallRecordRead_granted hx hh hwalk hgranted hserves, if_neg Bool.false_ne_true, if_pos (by simp [hwant, hother])]
  case badHeader =>
    intro s bad a want x h hx hh hwalk hgranted hserves
    rw [exec_recallRecordRead_granted hx hh hwalk hgranted hserves, if_pos rfl]
  case retired =>
    intro s bad a want x h hdr hx hh hwalk hgranted hretired
    rw [exec_recallRecordRead, execRecallRecordRead]
    simp only [← hx, hwalk, hgranted, if_pos hretired, Bool.false_eq_true, if_false]
  case ungranted =>
    intro s bad a want x h hdr hx hh hwalk hwaits
    rw [exec_recallRecordRead, execRecallRecordRead]
    simp only [← hx, hwalk, hwaits, if_true]
  case noWalk =>
    intro s hdr bad x hx hnone
    rw [exec_recallRecordRead, execRecallRecordRead]
    simp only [← hx, hnone]

end Sys2Proof.Machine
end

section
/-!
PROOF. The commands of a delivery ring: its descriptors, the reads that fetch them, and the waits of its deliveries (R373 to
R376, R382, R394, R395, R404, R422).
-/

namespace Sys2Proof.Machine

open Reg

section Exec
variable (s : State) (st : Fin 256) (p : Fin 2)

theorem exec_deliveryReady : exec (.deliveryReady st p) s =
    if s.flag (activeF st p) && !(s.ring st p).withdraw then .next (s.takeDesc st p ((s.ring st p).descs.length + 1))
    else .next s := rfl
theorem exec_descTailWrite (m : Fin 3) (size : Nat) (v : Word) : exec (.descTailWrite st p m size v) s =
    if !s.reaches m then .next (s.unreached m)
    else if size ≠ 4 then .next (s.badAccess m (DLV_DESC_TAIL st p) 1)
    else if s.tailOk st p v then .next (s.wr (DLV_DESC_TAIL st p) v)
    else .next (s.badAccess m (DLV_DESC_TAIL st p) 3) := rfl
theorem exec_descFetch : exec (.descFetch st p) s = execDescFetch st p s := rfl
theorem exec_descCompletionReceive (t : Nat) (ok : Bool) (data : List Byte) :
    exec (.descCompletionReceive p t ok data) s = execDescCompletionReceive p t ok data s := rfl
theorem exec_completionTimeout (t : Nat) : exec (.completionTimeout p t) s = execCompletionTimeout p t s := rfl
theorem exec_payloadTransfer (n : Nat) (credit : Bool) :
    exec (.payloadTransfer p n credit) s = execPayloadTransfer p n credit s := rfl
theorem exec_postedCreditReturn : exec (.postedCreditReturn p) s =
    .next ((s.dlv.filter (fun (d : Delivery) => d.port == p.val && d.desc.isSome && d.waitFrom.isSome)).foldl
      (fun x d => x.endWait d.num d.stream) s) := rfl
theorem exec_creditWaitExpiry : exec (.creditWaitExpiry st p) s = execCreditWaitExpiry st p s := rfl
theorem exec_deactExpiry : exec (.deactExpiry st p) s =
    if s.deactMs st ≠ 0 ∧ s.flag (activeF st p) = true ∧ s.dlv.any (fun (d : Delivery) => d.stream == st.val &&
      d.port == p.val && d.waitFrom.any (fun t => decide (t + 1000000 * s.deactMs st ≤ s.tb.ticks))) = true then
      .next ((s.withdraw st p).logC 0x5104 st p)
    else .next s := by
  refine if_congr (and_congr_right fun _ => and_congr_right fun _ => ?_) rfl rfl
  refine iff_of_eq (congrArg (· = true) (congrArg s.dlv.any (funext fun d => ?_)))
  cases d.waitFrom <;> rfl

end Exec

section Ring
variable {s : State} {st : Fin 256} {p : Fin 2}

/-- A completion that no outstanding read asked for is counted, and noted unless its read was given up (R404, R419). -/
theorem exec_descCompletionReceive_unasked {t : Nat} (ok : Bool) (data : List Byte) (hnone : s.readerOf p t = none) :
    exec (.descCompletionReceive p t ok data) s =
      if t ∈ (s.hport p).late then
        .next ((s.bump (PCIE_CNT_LATE_CPL p)).modHport p (fun x => { x with late := x.late.erase t }))
      else .next ((s.bump (PCIE_CNT_LATE_CPL p)).aerAdv p 16) := by
  rw [exec_descCompletionReceive, execDescCompletionReceive, hnone]

/-- The holder of a port's arbiter transfers where bus mastering is enabled and credit is there (R382). -/
theorem exec_payloadTransfer_of_holder {n : Nat} {credit : Bool} {h : ArbReq} {d : Delivery}
    (hhold : (s.arbOf (8 + p)).hold = some h) (hserved : s.servedDlv p h.req = some d) :
    exec (.payloadTransfer p n credit) s =
      if !s.flag (PCIE_STATUS_BME p) then .next s
      else if !credit then .next (s.startWait d.num)
      else .next (((s.endWait d.num d.stream).dlv.find? (fun (e : Delivery) => e.num == d.num)).elim
        (s.endWait d.num d.stream) (fun e => (s.endWait d.num d.stream).transfer e n)) := by
  simp only [exec_payloadTransfer, execPayloadTransfer, hhold, hserved]
  cases (s.endWait d.num d.stream).dlv.find? (fun (e : Delivery) => e.num == d.num) <;> rfl

end Ring

/-- Settles O27: a ring acts where it is active and its grant, credit and reads allow it, and a wait is judged by how long it
has lasted. -/
theorem descriptorsComplete : Obligations.DescriptorsComplete := by
  refine ⟨?ready, ?readyNone, ?tail, ?tailRange, ?tailWidth, ?tailUnreached, ?fetch, ?fetchNone, ?completion, ?failed, ?late,
    ?unexpected, ?timeout, ?timeoutLate, ?transfer, ?noCredit, ?noMaster, ?noHolder, ?credit, ?wait, ?waitEarly, ?waitNone,
    ?deact, ?deactNone⟩
  case ready =>
    intro s st p hactive hstays
    rw [exec_deliveryReady, if_pos (by simp [hactive, hstays])]
  case readyNone =>
    intro s st p h
    rw [exec_deliveryReady, if_neg (by rcases h with h | h <;> simp [h])]
  case tail =>
    intro s st p m v hreach hok
    rw [exec_descTailWrite, if_neg (by simp [hreach]), if_neg (by simp), if_pos hok]
  case tailRange =>
    intro s st p m v hreach hbad
    rw [exec_descTailWrite, if_neg (by simp [hreach]), if_neg (by simp), if_neg (by simp [hbad])]
  case tailWidth =>
    intro s st p m v z hreach hz
    rw [exec_descTailWrite, if_neg (by simp [hreach]), if_pos hz]
  case tailUnreached =>
    intro s st p m v z hreach
    rw [exec_descTailWrite, if_pos (by simp [hreach])]
  case fetch =>
    intro s st p n hgrant hactive hstays hidle hbme hn hsome
    subst hn
    rw [exec_descFetch, execDescFetch]
    exact if_pos (by simp only [hgrant, hactive, hstays, hidle, hbme, decide_eq_true hsome]; rfl)
  case fetchNone =>
    intro s st p h
    rw [exec_descFetch, execDescFetch]
    refine if_neg ?_
    rcases h with h | h | h | h | h
    · simp [h]
    · simp [h]
    · simp [h]
    · simp [Option.isNone_eq_false_iff.2 h]
    · simp [h]
  case completion =>
    intro s p tag i n st b data hreader hfetch
    simp only [exec_descCompletionReceive, execDescCompletionReceive, hreader, hfetch, Bool.not_true, Bool.false_eq_true,
      if_false]
  case failed =>
    intro s p tag i n st b data hreader hfetch
    simp only [exec_descCompletionReceive, execDescCompletionReceive, hreader, hfetch, Bool.not_false, if_true]
  case late =>
    intro s p tag ok data hnone hlate
    rw [exec_descCompletionReceive_unasked ok data hnone, if_pos hlate]
  case unexpected =>
    intro s p tag ok data hnone hunknown
    rw [exec_descCompletionReceive_unasked ok data hnone, if_neg hunknown]
  case timeout =>
    intro s p tag st hreader
    rw [exec_completionTimeout, execCompletionTimeout, hreader]
  case timeoutLate =>
    intro s p tag hnone
    rw [exec_completionTimeout, execCompletionTimeout, hnone]
  case transfer =>
    intro s p n h d e x hhold hserved hbme hx hfound
    subst hx
    rw [exec_payloadTransfer_of_holder hhold hserved, if_neg (by simp [hbme]), if_neg (by simp), hfound, Option.elim_some]
  case noCredit =>
    intro s p n h d hhold hserved hbme
    rw [exec_payloadTransfer_of_holder hhold hserved, if_neg (by simp [hbme]), if_pos (by simp)]
  case noMaster =>
    intro s p n h d b hhold hserved hbme
    rw [exec_payloadTransfer_of_holder hhold hserved, if_pos (by simp [hbme])]
  case noHolder =>
    intro s p n b hnone
    rw [exec_payloadTransfer, execPayloadTransfer, hnone]
  case credit => exact fun s p => exec_postedCreditReturn s p
  case wait =>
    intro s st p d hwaiter hlong
    rw [exec_creditWaitExpiry, execCreditWaitExpiry, hwaiter]
    exact if_neg (not_le.mpr hlong)
  case waitEarly =>
    intro s st p d hwaiter hshort
    rw [exec_creditWaitExpiry, execCreditWaitExpiry, hwaiter]
    exact if_pos hshort
  case waitNone =>
    intro s st p hnone
    rw [exec_creditWaitExpiry, execCreditWaitExpiry, hnone]
  case deact =>
    intro s st p hms hactive hlong
    rw [exec_deactExpiry, if_pos ⟨hms, hactive, hlong⟩]
  case deactNone =>
    intro s st p h
    rw [exec_deactExpiry, if_neg]
    rintro ⟨hms, hactive, hlong⟩
    rcases h with h | h | h
    · exact hms h
    · exact Bool.false_ne_true (h.symm.trans hactive)
    · exact Bool.false_ne_true (h.symm.trans hlong)

end Sys2Proof.Machine
end

section
/-!
PROOF. The requests of a host: configuration, BAR2 and its windows, and messages held back (R401 to R415).
-/

namespace Sys2Proof.Machine

open Reg

section Exec
variable (s : State) (p : Fin 2)

theorem exec_configRequest (write : Bool) (w : Fin 1024) (be : Fin 16) (v : Word) : exec (.configRequest p write w be v) s =
    if !s.cfgTakes p then .next s
    else if write then .next ((s.cfgWrite p (4 * w) be v.toNat).emit (.completion p 0 false []))
    else .next (s.emit (.completion p 0 false (toBytes 4 (s.cfgLive p (4 * w))))) := rfl
theorem exec_peerRequest (k : Fin 3) (addr id tag : Nat) (data : List (Option Byte)) (ep : Bool) (bad : List Nat) :
    exec (.peerRequest p k addr data id tag ep bad) s =
      if !s.cfgTakes p then .next s
      else if k = 2 then .next ((s.aerUnc p 20).emit (.completion p 1 false []))
      else if s.flag (PCIE_STATUS_D3 p) then .next (s.peerUr p ⟨k == 1, addr, data, id, tag, ep⟩)
      else if s.flag (PCIE_WIN_STATUS_COMMIT_PENDING p) then
        .next (s.modHport p (fun x => { x with held := x.held ++ [⟨k == 1, addr, data, id, tag, ep⟩] }))
      else .next (s.peerDecode p ⟨k == 1, addr, data, id, tag, ep⟩ bad) := rfl
theorem exec_peerReadComplete (i : Nat) (bad : List Nat) :
    exec (.peerReadComplete p i bad) s = execPeerReadComplete p i bad s := rfl
theorem exec_windowCommit (m : Fin 3) : exec (.windowCommit p m) s =
    if !s.reaches m then .next (s.unreached m)
    else if !ownPort m p then .next (s.badAccess m (PCIE_WIN_CMD p) 3)
    else if s.flag (PCIE_WIN_STATUS_COMMIT_PENDING p) then .next s
    else .next (s.windowCommit p) := rfl
theorem exec_windowSwitch (bads : List (List Nat)) : exec (.windowSwitch p bads) s =
    if s.ddrLand.flag (PCIE_WIN_STATUS_COMMIT_PENDING p) && (s.ddrLand.hport p).reads.isEmpty &&
      s.ddrLand.ddrOut.all (fun (w : DdrWrite) => w.req != reqPeer || w.port != p.val) then
      .next (s.ddrLand.windowSwitch p bads)
    else .next s.ddrLand := rfl
theorem exec_msixPendingSend (v : Fin 2048) : exec (.msixPendingSend p v) s =
    if s.flag ⟨MSIX_PBA p (v / 32), v % 32, 1⟩ && s.msixOpen p v then
      .next ((s.putB ⟨MSIX_PBA p (v / 32), v % 32, 1⟩ false).emit (.msix p v))
    else .next s := rfl

end Exec

/-- Settles O30: a request is answered where the link and the function stand to take it, and windows switch once no request of
the old set is unfinished. -/
theorem hostRequestsComplete : Obligations.HostRequestsComplete := by
  refine ⟨?cfgWrite, ?cfgRead, ?cfgNone, ?peer, ?peerHeld, ?peerD3, ?atomic, ?peerNone, ?read, ?readUngranted, ?readNone,
    ?commit, ?commitPending, ?commitOther, ?commitUnreached, ?switch, ?switchNone, ?send, ?sendNone⟩
  case cfgWrite =>
    intro s p w be v htakes
    rw [exec_configRequest, if_neg (by simp [htakes]), if_pos rfl]
  case cfgRead =>
    intro s p w be v htakes
    rw [exec_configRequest, if_neg (by simp [htakes]), if_neg Bool.false_ne_true]
  case cfgNone =>
    intro s p w be v b hsilent
    rw [exec_configRequest, if_pos (by simp [hsilent])]
  case peer =>
    intro s p k addr id tag data ep bad htakes hk hd0 hsettled
    rw [exec_peerRequest, if_neg (by simp [htakes]), if_neg hk, if_neg (by simp [hd0]), if_neg (by simp [hsettled])]
  case peerHeld =>
    intro s p k addr id tag data ep bad htakes hk hd0 hpending
    rw [exec_peerRequest, if_neg (by simp [htakes]), if_neg hk, if_neg (by simp [hd0]), if_pos hpending]
  case peerD3 =>
    intro s p k addr id tag data ep bad htakes hk hd3
    rw [exec_peerRequest, if_neg (by simp [htakes]), if_neg hk, if_pos hd3]
  case atomic =>
    intro s p addr id tag data ep bad htakes
    rw [exec_peerRequest, if_neg (by simp [htakes]), if_pos rfl]
  case peerNone =>
    intro s p k addr id tag data ep bad hsilent
    rw [exec_peerRequest, if_pos (by simp [hsilent])]
  case read =>
    intro s p i r bad hread hgranted
    rw [exec_peerReadComplete, execPeerReadComplete, hread]
    exact if_neg (by simp [hgranted])
  case readUngranted =>
    intro s p i r bad hread hwaits
    rw [exec_peerReadComplete, execPeerReadComplete, hread]
    exact if_pos hwaits
  case readNone =>
    intro s p i bad hnone
    rw [exec_peerReadComplete, execPeerReadComplete, hnone]
  case commit =>
    intro s p m hreach hown hsettled
    rw [exec_windowCommit, if_neg (by simp [hreach]), if_neg (by simp [hown]), if_neg (by simp [hsettled])]
  case commitPending =>
    intro s p m hreach hown hpending
    rw [exec_windowCommit, if_neg (by simp [hreach]), if_neg (by simp [hown]), if_pos hpending]
  case commitOther =>
    intro s p m hreach hother
    rw [exec_windowCommit, if_neg (by simp [hreach]), if_pos (by simp [hother])]
  case commitUnreached =>
    intro s p m hreach
    rw [exec_windowCommit, if_pos (by simp [hreach])]
  case switch =>
    intro s p bads x hx hpending hreads hwrites
    subst hx
    rw [exec_windowSwitch, if_pos (by simp only [hpending, hreads, hwrites]; rfl)]
  case switchNone =>
    intro s p bads x hx h
    subst hx
    rw [exec_windowSwitch, if_neg]
    rcases h with h | h | h
    · simp only [h, Bool.false_and, Bool.false_eq_true, not_false_eq_true]
    · simp [h]
    · simp only [h, Bool.and_false, Bool.false_eq_true, not_false_eq_true]
  case send =>
    intro s p v hpending hopen
    rw [exec_msixPendingSend, if_pos (by rw [hpending, hopen]; rfl)]
  case sendNone =>
    intro s p v h
    rw [exec_msixPendingSend, if_neg (by rcases h with h | h <;> simp [h])]

end Sys2Proof.Machine
end

section
/-!
PROOF. The twin masters: claims and their echoes, heartbeats, and swaps (R445 to R454).
-/

namespace Sys2Proof.Machine

open Reg

section Exec
variable (s : State) (p : Fin 4) (bs : List (Bool × Block))

theorem exec_claimSend : exec .claimSend s =
    if s.sillTurns || (s.isStandby && s.sill.swapFrames && s.sill.swapTaker) then .next (s.sillSendRole 2 s.claimFrame)
    else .next s := rfl
theorem exec_claimReceive : exec (.claimReceive p bs) s = execClaimReceive p bs s := rfl
theorem exec_claimWindowExpiry : exec .claimWindowExpiry s = .next (s.modSill (fun x => { x with
    claims := x.claims.filter (fun (c : Claim) =>
      decide (s.tb.ticks < c.heard + s.get SILL_TWIN_CFG_CLAIM_WINDOW * 1000)) })).carry := rfl
theorem exec_cechoSend : exec .cechoSend s =
    if s.get SILL_STATUS_ROLE ≠ 2 then .next s
    else .next (s.sillSendRole 1 ⟨1, false, false, [sillC 0x61 (toBytes 2 s.nodeId ++
      toBytes 2 (s.get SILL_STATUS_CARRIED) ++ toBytes 1 (s.get SILL_STATUS_DEPTH))]⟩) := rfl
theorem exec_cechoReceive (b : Block) : exec (.cechoReceive p b) s = execCechoReceive p b s := rfl
theorem exec_beatSend : exec .beatSend s =
    if !s.isTwin || !(List.range 4).any (fun p => s.sillOpen 3 p) then .next s
    else .next (((s.showHealth.sillSendRole 3 s.showHealth.beatFrame).modSill (fun x => { x with swapAnswer := 0 })).putB
      SILL_CMD_SWAP_REQ false) := rfl
theorem exec_beatReceive : exec (.beatReceive p bs) s = execBeatReceive p bs s := rfl
theorem exec_twinWatchStart : exec .twinWatchStart s =
    if s.isTwin && s.linkRelease && s.sill.watch.isNone &&
        ((List.range 4).any (fun p => s.sillOpen 3 p) || decide (s.sill.released + 100000000 ≤ s.tb.ticks)) then
      .next (s.modSill (fun x => { x with watch := some s.tb.ticks }))
    else .next s := rfl
theorem exec_noHolderTimeout : exec .noHolderTimeout s =
    if s.watched s.sill.holderTick then .next s.holdoffStart else .next s := rfl
theorem exec_claimHoldoffExpiry : exec .claimHoldoffExpiry s = execClaimHoldoffExpiry s := rfl
theorem exec_swapReq (m : Fin 3) : exec (.swapReq m) s =
    if !s.reaches m then .next (s.unreached m)
    else if m.val ≠ 0 then .next (s.badAccess m SILL_CMD 3)
    else .next s.swapReq := rfl
theorem exec_swapTakingStart : exec .swapTakingStart s =
    if s.flag SILL_STATUS_SWAP_PENDING && decide ((s.sill.swapAt : Int) ≤ s.nowI + nsT 100000) then
      .next (s.modSill (fun x => { x with swapFrames := true }))
    else .next s := rfl
theorem exec_revertHoldExpiry : exec .revertHoldExpiry s = execRevertHoldExpiry s := rfl
theorem exec_swapPeriodExpiry : exec .swapPeriodExpiry s =
    if decide (s.sill.holderSince + s.get SILL_SWAP_CFG_SWAP_PERIOD * 60000000000 ≤ s.tb.ticks) && s.fwRuns &&
        s.flag SILL_SWAP_CFG_SWAP_EN && s.isHolder && s.flag SILL_TWIN_STATUS_TWIN_HEALTHY then
      .next (s.propose.putB SILL_CMD_SWAP_REQ true)
    else .next s := rfl

end Exec

/-! ### A frame or a block on a port of one role (R429, R430)

Each of these commands asks whether what arrives is its own and the port is open in the role that brings it, then whether its
CRC is correct. -/

section Receive
variable {foreign opened whole : Bool} {strange bad done : Host.Outcome State Fault Refusal}

theorem openReceive_strange (h : foreign = true ∨ opened = false) :
    (if foreign || !opened then strange else done) = strange :=
  if_pos (by simpa using h)

variable (hown : foreign = false) (hopen : opened = true)
include hown hopen

theorem openReceive_bad (hbad : whole = false) :
    (if foreign || !opened then strange else if !whole then bad else done) = bad :=
  (if_neg (by simp [hown, hopen])).trans (if_pos (by simp [hbad]))

theorem openReceive_whole (hok : whole = true) :
    (if foreign || !opened then strange else if !whole then bad else done) = done :=
  (if_neg (by simp [hown, hopen])).trans (if_neg (by simp [hok]))

end Receive

/-! ### Claims (R446, R447) -/

section Claims
variable {s : State} {p : Fin 4} {bs : List (Bool × Block)} {n port : Nat} {cl : Claim} {x : State}

/-- The claim that a CLAIM frame brings, on the port that it counts as heard on (R446). -/
def State.claimOf (s : State) (bs : List (Bool × Block)) (port : Nat) : Claim :=
  ⟨fNum bs 0 1 2, bit (fByte bs 0 5) 0, bit (fByte bs 0 5) 1, s.nearTime 256 (fNum bs 1 0 4) 0 (fByte bs 1 4), port, s.tb.ticks⟩

/-- The port that a claim heard now counts as heard on: of two ports in one tick, the lower. -/
def State.claimPort (s : State) (n p : Nat) : Nat :=
  (s.sill.claims.find? (fun (d : Claim) => d.claim == n && d.heard == s.tb.ticks)).elim p (fun d => min d.port p)

/-- The state once the claim `cl` of number `n` replaces what was heard of it. -/
def State.claimHeard (s : State) (n : Nat) (cl : Claim) : State :=
  (s.modSill (fun y => { y with claims := y.claims.filter (fun (d : Claim) => d.claim != n) ++ [cl] })).carry

/-- A whole claim from above is heard, and goes down where it is carried or taking (R446, R447). -/
theorem exec_claimReceive_whole (hframe : isFrame bs 0x60 2 = true) (hopen : s.sillOpen 1 p = true) (hok : frameOk bs = true)
    (hport : s.claimPort (fNum bs 0 1 2) p = port) (hcl : cl = s.claimOf bs port)
    (hx : x = s.claimHeard (fNum bs 0 1 2) cl) : exec (.claimReceive p bs) s =
      .next (x.iff (x.get SILL_STATUS_CARRIED == fNum bs 0 1 2 || cl.taking)
        (fun s => s.sillSendRole 2 ⟨1, false, false, bs⟩)) := by
  subst hx hcl hport
  rw [exec_claimReceive, execClaimReceive]
  refine (openReceive_whole (not_isFrame_eq_false hframe) hopen hok).trans ?_
  simp only [State.claimHeard, State.claimOf, State.claimPort]
  cases s.sill.claims.find? (fun (d : Claim) => d.claim == fNum bs 0 1 2 && d.heard == s.tb.ticks) <;> rfl

theorem State.claimPort_of_first
    (h : s.sill.claims.find? (fun (d : Claim) => d.claim == n && d.heard == s.tb.ticks) = none) : s.claimPort n p = p := by
  rw [State.claimPort, h, Option.elim_none]

theorem State.claimPort_of_again {d : Claim}
    (h : s.sill.claims.find? (fun (d : Claim) => d.claim == n && d.heard == s.tb.ticks) = some d) :
    s.claimPort n p = min d.port p := by
  rw [State.claimPort, h, Option.elim_some]

end Claims

/-! ### Heartbeats (R448, R450) -/

section Beats
variable {s x : State} {p : Fin 4} {bs : List (Bool × Block)} {t : Nat}

/-- A whole BEAT is heard, and its request and its answer are acted on in turn (R450, R451). -/
theorem exec_beatReceive_whole {req ack abort : Bool} (hframe : isFrame bs 0x62 2 = true) (hopen : s.sillOpen 3 p = true)
    (hok : frameOk bs = true) (ht : t = s.nearTime 256 (fNum bs 1 0 4) 0 (fByte bs 1 4)) (hreq : bit (fByte bs 0 4) 2 = req)
    (hack : bit (fByte bs 0 4) 3 = ack) (habort : bit (fByte bs 0 4) 4 = abort) : exec (.beatReceive p bs) s =
      .next ((((s.beatHeard bs).iff req (fun s => s.swapRequested t)).iff (ack || abort)
        (fun s => s.swapAnswered ack t)).showHealth) := by
  subst ht hreq hack habort
  rw [exec_beatReceive, execBeatReceive]
  exact openReceive_whole (not_isFrame_eq_false hframe) hopen hok

/-- The flags of a BEAT that neither asks for a swap nor answers one. -/
theorem bits_of_quiet {n : Nat} (h : n / 4 % 8 = 0) : bit n 2 = false ∧ bit n 3 = false ∧ bit n 4 = false := by
  simp only [bit, beq_eq_false_iff_ne, Nat.reducePow]
  omega

/-- The heartbeat shows as lost, with its event, count and log entry (R448). -/
def State.beatLost (s : State) : State :=
  ((((s.putB SILL_STATUS_HB_LOST true).putB SILL_TWIN_STATUS_BEAT_OK false).raise 10 SILL_EVENTS_HB_LOST).bump
    SILL_CNT_HB_LOST).logC 0x6030 noUnit 0

theorem exec_hbLost (s : State) : exec .hbLost s =
    if !s.watched s.sill.beatTick || s.flag SILL_STATUS_HB_LOST then .next s
    else .next (s.beatLost.iff s.beatLost.isHolder (fun s => s.modSill (fun x => { x with swapFrames := false }))).holdoffStart :=
  rfl

theorem exec_hbLost_of_silent (hsilent : s.watched s.sill.beatTick = true) (hnew : s.flag SILL_STATUS_HB_LOST = false)
    (hx : x = s.beatLost) : exec .hbLost s =
      .next (x.iff x.isHolder (fun s => s.modSill (fun y => { y with swapFrames := false }))).holdoffStart := by
  rw [exec_hbLost, if_neg (by simp [hsilent, hnew]), hx]

/-- CLAIM_HOLDOFF_EXPIRY acts on a standby with a holdoff, by when that began (R448). -/
theorem exec_claimHoldoffExpiry_of_holdoff (hstandby : s.isStandby = true) (hholdoff : s.sill.holdoff = some t) :
    exec .claimHoldoffExpiry s =
      if s.tb.ticks < t + s.holdoffNs then .next s
      else .next (((s.bump SILL_CNT_CLAIM).raise 10 SILL_EVENTS_CLAIMED).logC 0x6031 noUnit 0).becomeHolder := by
  rw [exec_claimHoldoffExpiry, execClaimHoldoffExpiry]
  simp only [hstandby, hholdoff, Bool.not_true, Bool.false_or, decide_eq_true_eq]

end Beats

/-! ### Swaps (R451, R452) -/

section Swaps
variable {s x : State} {taker : Bool}

/-- The twin at T_swap: the swap is pending no more, and the echo of the claim that takes over is awaited (R451). -/
def State.swapDue (s : State) (claim : Nat) : State :=
  ((s.putB SILL_STATUS_SWAP_PENDING false).wrTime SILL_SWAP_AT 0).modSill (fun y =>
    { y with swapFrames := false, swapWait := some claim })

theorem exec_swapPoint (s : State) : exec .swapPoint s =
    if s.flag SILL_STATUS_SWAP_PENDING && decide (s.sill.swapAt ≤ s.now) then
      (if s.sill.swapTaker then
        .next (s.swapDue (if s.sill.swapTaker then s.ownClaim else s.get SILL_TWIN_CFG_TWIN_CLAIM)).becomeHolder
      else .next ((s.swapDue (if s.sill.swapTaker then s.ownClaim else s.get SILL_TWIN_CFG_TWIN_CLAIM)).iff
        (s.sill.swapFrames && (s.swapDue (if s.sill.swapTaker then s.ownClaim else s.get SILL_TWIN_CFG_TWIN_CLAIM)).isHolder)
        State.becomeStandby))
    else .next s.carry := rfl

theorem exec_swapPoint_of_taker (hpending : s.flag SILL_STATUS_SWAP_PENDING = true) (hdue : s.sill.swapAt ≤ s.now)
    (htakes : s.sill.swapTaker = true) (hx : x = s.swapDue s.ownClaim) : exec .swapPoint s = .next x.becomeHolder := by
  simp only [exec_swapPoint, hpending, hdue, htakes, decide_true, Bool.and_self, if_true, hx]

theorem exec_swapPoint_of_giver (hpending : s.flag SILL_STATUS_SWAP_PENDING = true) (hdue : s.sill.swapAt ≤ s.now)
    (hgives : s.sill.swapTaker = false) (hx : x = s.swapDue (s.get SILL_TWIN_CFG_TWIN_CLAIM)) :
    exec .swapPoint s = .next (x.iff (s.sill.swapFrames && x.isHolder) State.becomeStandby) := by
  simp only [exec_swapPoint, hpending, hdue, hgives, decide_true, Bool.and_self, if_true, Bool.false_eq_true, if_false, hx]

theorem State.swapReq_of_twin (h : s.isTwin = true) : s.swapReq = s.propose.putB SILL_CMD_SWAP_REQ true := if_pos h

theorem State.swapReq_of_single (h : s.isTwin = false) : s.swapReq = s.putB SILL_CMD_SWAP_REQ false := if_neg (by simp [h])

/-- Whether a preferred standby that is HEALTHY wants its role back, apart from how long it has been so (R452). -/
def State.reverts (s : State) : Bool :=
  s.fwRuns && s.flag SILL_SWAP_CFG_REVERT && s.isStandby && s.get SILL_CFG_TWIN_ROLE == 1 && s.flag SILL_STATUS_HEALTHY

theorem exec_revertHoldExpiry_of_healthy {t : Nat} (hsince : s.sill.healthySince = some t) : exec .revertHoldExpiry s =
    if decide (t + s.get SILL_SWAP_CFG_REVERT_HOLD * 1000000000 ≤ s.tb.ticks) && s.reverts then
      .next (s.propose.putB SILL_CMD_SWAP_REQ true)
    else .next s := by
  rw [exec_revertHoldExpiry, execRevertHoldExpiry]
  simp only [hsince, State.reverts, Bool.and_assoc]

end Swaps

/-- Settles O34: a claim, an echo or a BEAT is discarded, counted as strange, or heard on the ports of its role; a twin acts by
its role, its health and the instants of its watch and its swap. -/
theorem twinsComplete : Obligations.TwinsComplete := by
  refine ⟨?claim, ?claimNone, ?heard, ?heardOnly, ?again, ?claimBad, ?claimStrange, fun _ => rfl, ?echo, ?echoNone, ?echoed,
    ?echoBad, ?echoStrange, ?beat, ?beatNone, ?beaten, ?request, ?answer, ?both, ?beatBad, ?beatStrange, ?watch, ?watchNone,
    ?lostHolder, ?lost, ?lostNone, ?noHolder, ?noHolderNone, ?holdoff, ?holdoffEarly, ?holdoffNone, ?swap, ?swapSingle,
    ?swapRefused, ?swapUnreached, ?taking, ?takingNone, ?point, ?pointStandby, ?pointOther, ?pointNone, ?revert, ?revertEarly,
    ?revertNone, ?period, ?periodNone⟩
  case claim =>
    intro s h
    rw [exec_claimSend, if_pos (by simpa [and_assoc] using h)]
  case claimNone =>
    intro s hturns h
    rw [exec_claimSend, if_neg]
    rcases h with h | h | h <;> simp [hturns, h]
  case heard =>
    intro s p bs cl x hframe hopen hok hfirst hcl hx hdown
    rw [exec_claimReceive_whole hframe hopen hok (State.claimPort_of_first hfirst) hcl hx, State.iff_true _ _ hdown]
  case heardOnly =>
    intro s p bs cl x hframe hopen hok hfirst hcl hx hstays
    rw [exec_claimReceive_whole hframe hopen hok (State.claimPort_of_first hfirst) hcl hx, State.iff_false _ _ hstays]
  case again =>
    intro s p bs d cl x hframe hopen hok hagain hcl hx hdown
    rw [exec_claimReceive_whole hframe hopen hok (State.claimPort_of_again hagain) hcl hx, State.iff_true _ _ hdown]
  case claimBad =>
    intro s p bs hframe hopen hbad
    rw [exec_claimReceive, execClaimReceive]
    exact openReceive_bad (not_isFrame_eq_false hframe) hopen hbad
  case claimStrange =>
    intro s p bs h
    rw [exec_claimReceive, execClaimReceive]
    exact openReceive_strange (h.imp_left not_isFrame_eq_true)
  case echo =>
    intro s hrepeater
    rw [exec_cechoSend, if_neg (not_not.mpr hrepeater)]
  case echoNone =>
    intro s hother
    rw [exec_cechoSend, if_pos hother]
  case echoed =>
    intro s p b htype hopen hok
    rw [exec_cechoReceive, execCechoReceive]
    exact openReceive_whole (by simp [htype]) hopen hok
  case echoBad =>
    intro s p b htype hopen hbad
    rw [exec_cechoReceive, execCechoReceive]
    exact openReceive_bad (by simp [htype]) hopen hbad
  case echoStrange =>
    intro s p b h
    rw [exec_cechoReceive, execCechoReceive]
    exact openReceive_strange (h.imp_left decide_eq_true)
  case beat =>
    intro s x htwin hopen hx
    rw [exec_beatSend, if_neg (by simp only [htwin, hopen]; decide), hx]
  case beatNone =>
    intro s h
    rw [exec_beatSend, if_pos]
    rcases h with h | h
    · simp only [h, Bool.not_false, Bool.true_or]
    · simp only [h, Bool.not_false, Bool.or_true]
  case beaten =>
    intro s p bs t hframe hopen hok ht hquiet
    obtain ⟨hreq, hack, habort⟩ := bits_of_quiet hquiet
    rw [exec_beatReceive_whole hframe hopen hok ht hreq hack habort, State.iff_false _ _ rfl, Bool.or_false,
      State.iff_false _ _ rfl]
  case request =>
    intro s p bs t hframe hopen hok ht hreq hack habort
    rw [exec_beatReceive_whole hframe hopen hok ht hreq hack habort, State.iff_true _ _ rfl, Bool.or_false,
      State.iff_false _ _ rfl]
  case answer =>
    intro s p bs t ack hframe hopen hok ht hreq hack hanswer
    rw [exec_beatReceive_whole hframe hopen hok ht hreq hack rfl, State.iff_false _ _ rfl, State.iff_true _ _ (by simpa using hanswer)]
  case both =>
    intro s p bs t ack hframe hopen hok ht hreq hack hanswer
    rw [exec_beatReceive_whole hframe hopen hok ht hreq hack rfl, State.iff_true (s.beatHeard bs) _ rfl,
      State.iff_true _ _ (by simpa using hanswer)]
  case beatBad =>
    intro s p bs hframe hopen hbad
    rw [exec_beatReceive, execBeatReceive]
    exact openReceive_bad (not_isFrame_eq_false hframe) hopen hbad
  case beatStrange =>
    intro s p bs h
    rw [exec_beatReceive, execBeatReceive]
    exact openReceive_strange (h.imp_left not_isFrame_eq_true)
  case watch =>
    intro s htwin hrelease hnone h
    rw [exec_twinWatchStart, if_pos]
    rw [htwin, hrelease, hnone]
    simpa only [Option.isNone_none, Bool.and_self, Bool.true_and, Bool.or_eq_true, decide_eq_true_eq] using h
  case watchNone =>
    intro s h
    rw [exec_twinWatchStart, if_neg]
    rcases h with h | h | h | ⟨hshut, hearly⟩
    · simp [h]
    · simp [h]
    · simp [Option.isNone_eq_false_iff.2 h]
    · rw [hshut, decide_eq_false (not_le.mpr hearly)]
      simp
  case lostHolder =>
    intro s x hsilent hnew hx hholder
    rw [exec_hbLost_of_silent hsilent hnew hx, State.iff_true _ _ hholder]
  case lost =>
    intro s x hsilent hnew hx hother
    rw [exec_hbLost_of_silent hsilent hnew hx, State.iff_false _ _ hother]
  case lostNone =>
    intro s h
    rw [exec_hbLost, if_pos (by simpa using h)]
  case noHolder =>
    intro s hsilent
    rw [exec_noHolderTimeout, if_pos hsilent]
  case noHolderNone =>
    intro s hheard
    rw [exec_noHolderTimeout, if_neg (by simp [hheard])]
  case holdoff =>
    intro s t hstandby hholdoff hdue
    rw [exec_claimHoldoffExpiry_of_holdoff hstandby hholdoff, if_neg (not_lt.mpr hdue)]
  case holdoffEarly =>
    intro s t hstandby hholdoff hearly
    rw [exec_claimHoldoffExpiry_of_holdoff hstandby hholdoff, if_pos hearly]
  case holdoffNone =>
    intro s h
    rw [exec_claimHoldoffExpiry, execClaimHoldoffExpiry]
    refine if_pos ?_
    rcases h with h | h <;> simp [h]
  case swap =>
    intro s hreach htwin
    rw [exec_swapReq, if_neg (by simp [hreach]), if_neg (by simp), State.swapReq_of_twin htwin]
  case swapSingle =>
    intro s hreach hsingle
    rw [exec_swapReq, if_neg (by simp [hreach]), if_neg (by simp), State.swapReq_of_single hsingle]
  case swapRefused =>
    intro s m hreach hm
    have hhost : m.val ≠ 0 := fun e => hm (Fin.ext e)
    rw [exec_swapReq, if_neg (by simp [hreach]), if_pos hhost]
  case swapUnreached =>
    intro s m hreach
    rw [exec_swapReq, if_pos (by simp [hreach])]
  case taking =>
    intro s hpending hdue
    rw [exec_swapTakingStart, if_pos (by rw [hpending, decide_eq_true hdue]; rfl)]
  case takingNone =>
    intro s h
    rw [exec_swapTakingStart, if_neg]
    rcases h with h | h
    · simp [h]
    · simp [not_le.mpr h]
  case point => exact fun s x hpending hdue htakes hx => exec_swapPoint_of_taker hpending hdue htakes hx
  case pointStandby =>
    intro s x hpending hdue hgives hx hreleased hholder
    rw [exec_swapPoint_of_giver hpending hdue hgives hx, State.iff_true _ _ (by rw [hreleased, hholder]; rfl)]
  case pointOther =>
    intro s x hpending hdue hgives hx h
    rw [exec_swapPoint_of_giver hpending hdue hgives hx, State.iff_false]
    rcases h with h | h <;> simp [h]
  case pointNone =>
    intro s h
    rw [exec_swapPoint, if_neg]
    rcases h with h | h
    · simp [h]
    · simp [not_le.mpr h]
  case revert =>
    intro s t hfw hrevert hstandby hrole hhealthy hsince hdue
    rw [exec_revertHoldExpiry_of_healthy hsince, if_pos]
    simp [State.reverts, hdue, hfw, hrevert, hstandby, hrole, hhealthy]
  case revertEarly =>
    intro s t hsince hearly
    rw [exec_revertHoldExpiry_of_healthy hsince, if_neg (by simp [not_le.mpr hearly])]
  case revertNone =>
    intro s h
    rw [exec_revertHoldExpiry, execRevertHoldExpiry]
    refine if_neg ?_
    rcases h with h | h | h | h | h | h <;> simp [h]
  case period =>
    intro s hdue hfw hen hholder hhealthy
    rw [exec_swapPeriodExpiry, if_pos (by simp [hdue, hfw, hen, hholder, hhealthy])]
  case periodNone =>
    intro s h
    rw [exec_swapPeriodExpiry, if_neg]
    rcases h with h | h | h | h | h
    · simp [not_le.mpr h]
    · simp [h]
    · simp [h]
    · simp [h]
    · simp [h]

end Sys2Proof.Machine
end

section
/-!
PROOF. The retirement of a unit on the MC's command (R495, R496, R498).
-/

namespace Sys2Proof.Machine

open Reg

section Exec
variable (s : State) (m : Fin 3)

theorem exec_retireLane (l : Fin 96) : exec (.retireLane m l) s = .next (s.retireCmd m 0 l) := rfl
theorem exec_retireBay (b : Fin 24) : exec (.retireBay m b) s = .next (s.retireCmd m 1 b) := rfl
theorem exec_retireEngine (e : Fin 192) : exec (.retireEngine m e) s = .next (s.retireCmd m 2 e) := rfl
theorem exec_retirePositionChannel (c : Fin 16) : exec (.retirePositionChannel m c) s = .next (s.retireCmd m 4 c) := rfl
theorem exec_retireSillPort (p : Fin 4) : exec (.retireSillPort m p) s = .next (s.retireCmd m 5 p) := rfl

end Exec

/-- A unit goes out of service, as its kind does (R495). -/
def State.takeOut (s : State) (kind i : Nat) : State :=
  match kind with
  | 0 => s.laneGone i
  | 1 => s.bayGone i
  | 2 => s.engGone i
  | 4 => s.posGone i
  | _ => s.sillGone i

section TakeOut
variable (s : State) (i : Nat)

theorem State.takeOut_lane : s.takeOut 0 i = s.laneGone i := by simp only [State.takeOut]
theorem State.takeOut_bay : s.takeOut 1 i = s.bayGone i := by simp only [State.takeOut]
theorem State.takeOut_engine : s.takeOut 2 i = s.engGone i := by simp only [State.takeOut]
theorem State.takeOut_position : s.takeOut 4 i = s.posGone i := by simp only [State.takeOut]
theorem State.takeOut_sill : s.takeOut 5 i = s.sillGone i := by simp only [State.takeOut]

end TakeOut

/-! A command that asks for the retirement of unit `i` of a kind other than DDR4, whatever the kind -/

section Retire
variable {s x : State} {c : Instr} {kind i : Nat}

/-- The command shows in GLOBAL_RETIRE_CMD, with GO clear. -/
def State.retireShown (s : State) (kind i : Nat) : State :=
  ((s.put GLOBAL_RETIRE_CMD_KIND kind).put GLOBAL_RETIRE_CMD_INDEX i).putB GLOBAL_RETIRE_CMD_GO false

theorem State.retireUnit_eq (hkind : kind ≠ 3) (hx : x = s.retireShown kind i) : s.retireUnit kind i =
    if x.unitGone kind i then x
    else ((((x.takeOut kind i).bump GLOBAL_CNT_RETIRE).putB GLOBAL_READMIT_PENDING true).logC 0x8070 noUnit
      (kind * 2 ^ 28 + i)).readmit := by
  subst hx
  rw [State.retireUnit, if_neg hkind]
  rfl

theorem exec_retire_of_mc (hc : exec c s = .next (s.retireCmd 0 kind i)) (hreach : s.reaches 0 = true) :
    exec c s = .next (s.retireUnit kind i) := by
  rw [hc, State.retireCmd, if_neg (by simp [hreach]), if_neg (by simp)]

theorem exec_retire_serving (hc : exec c s = .next (s.retireCmd 0 kind i)) (hkind : kind ≠ 3) (hreach : s.reaches 0 = true)
    (hx : x = s.retireShown kind i) (hserves : x.unitGone kind i = false) : exec c s =
      .next ((((x.takeOut kind i).bump GLOBAL_CNT_RETIRE).putB GLOBAL_READMIT_PENDING true).logC 0x8070 noUnit
        (kind * 2 ^ 28 + i)).readmit := by
  rw [exec_retire_of_mc hc hreach, State.retireUnit_eq hkind hx, if_neg (by simp [hserves])]

theorem exec_retire_gone (hc : exec c s = .next (s.retireCmd 0 kind i)) (hkind : kind ≠ 3) (hreach : s.reaches 0 = true)
    (hx : x = s.retireShown kind i) (hgone : x.unitGone kind i = true) : exec c s = .next x := by
  rw [exec_retire_of_mc hc hreach, State.retireUnit_eq hkind hx, if_pos hgone]

variable {m : Fin 3} (hc : exec c s = .next (s.retireCmd m kind i))
include hc

theorem exec_retire_refused (hreach : s.reaches m = true) (hm : m ≠ 0) :
    exec c s = .next (s.badAccess m GLOBAL_RETIRE_CMD 3) := by
  have hhost : m.val ≠ 0 := fun e => hm (Fin.ext e)
  rw [hc, State.retireCmd, if_neg (by simp [hreach]), if_pos (bne_iff_ne.2 hhost)]

theorem exec_retire_unreached (hreach : s.reaches m = false) : exec c s = .next (s.unreached m) := by
  rw [hc, State.retireCmd, if_pos (by simp [hreach])]

end Retire

/-- Settles O37: the five commands are one request for units of five kinds, which the MC's command retires where the unit is
in service. -/
theorem retirementComplete : Obligations.RetirementComplete := by
  refine ⟨?lane, ?laneGone, ?laneRefused, ?laneUnreached,
    ?bay, ?bayGone, ?bayRefused, ?bayUnreached,
    ?engine, ?engineGone, ?engineRefused, ?engineUnreached,
    ?position, ?positionGone, ?positionRefused, ?positionUnreached,
    ?sill, ?sillGone, ?sillRefused, ?sillUnreached⟩
  case lane =>
    intro s l x hreach hx hserves
    rw [exec_retire_serving (kind := 0) (i := l) (exec_retireLane s 0 l) (by decide) hreach hx hserves,
      State.takeOut_lane]
  case laneGone =>
    intro s l x hreach hx hgone
    exact exec_retire_gone (exec_retireLane s 0 l) (by decide) hreach hx hgone
  case laneRefused =>
    intro s l m hreach hm
    exact exec_retire_refused (exec_retireLane s m l) hreach hm
  case laneUnreached =>
    intro s l m hreach
    exact exec_retire_unreached (exec_retireLane s m l) hreach
  case bay =>
    intro s b x hreach hx hserves
    rw [exec_retire_serving (kind := 1) (i := b) (exec_retireBay s 0 b) (by decide) hreach hx hserves,
      State.takeOut_bay]
  case bayGone =>
    intro s b x hreach hx hgone
    exact exec_retire_gone (exec_retireBay s 0 b) (by decide) hreach hx hgone
  case bayRefused =>
    intro s b m hreach hm
    exact exec_retire_refused (exec_retireBay s m b) hreach hm
  case bayUnreached =>
    intro s b m hreach
    exact exec_retire_unreached (exec_retireBay s m b) hreach
  case engine =>
    intro s e x hreach hx hserves
    rw [exec_retire_serving (kind := 2) (i := e) (exec_retireEngine s 0 e) (by decide) hreach hx hserves,
      State.takeOut_engine]
  case engineGone =>
    intro s e x hreach hx hgone
    exact exec_retire_gone (exec_retireEngine s 0 e) (by decide) hreach hx hgone
  case engineRefused =>
    intro s e m hreach hm
    exact exec_retire_refused (exec_retireEngine s m e) hreach hm
  case engineUnreached =>
    intro s e m hreach
    exact exec_retire_unreached (exec_retireEngine s m e) hreach
  case position =>
    intro s c x hreach hx hserves
    rw [exec_retire_serving (kind := 4) (i := c) (exec_retirePositionChannel s 0 c) (by decide) hreach hx hserves,
      State.takeOut_position]
  case positionGone =>
    intro s c x hreach hx hgone
    exact exec_retire_gone (exec_retirePositionChannel s 0 c) (by decide) hreach hx hgone
  case positionRefused =>
    intro s c m hreach hm
    exact exec_retire_refused (exec_retirePositionChannel s m c) hreach hm
  case positionUnreached =>
    intro s c m hreach
    exact exec_retire_unreached (exec_retirePositionChannel s m c) hreach
  case sill =>
    intro s p x hreach hx hserves
    rw [exec_retire_serving (kind := 5) (i := p) (exec_retireSillPort s 0 p) (by decide) hreach hx hserves,
      State.takeOut_sill]
  case sillGone =>
    intro s p x hreach hx hgone
    exact exec_retire_gone (exec_retireSillPort s 0 p) (by decide) hreach hx hgone
  case sillRefused =>
    intro s p m hreach hm
    exact exec_retire_refused (exec_retireSillPort s m p) hreach hm
  case sillUnreached =>
    intro s p m hreach
    exact exec_retire_unreached (exec_retireSillPort s m p) hreach

end Sys2Proof.Machine
end

section
/-!
PROOF. The mailbox requests about tables, engines, units, resets, attestation and the log: what answers a request that is
served, and that nothing happens without one (R339, R417, R469, R475, R476, R488, R495, R496).
-/

namespace Sys2Proof.Machine

open Reg

section Exec
variable (s : State) (p : Fin 2)

theorem exec_tableLoad (bad : List Nat) : exec (.tableLoad p bad) s = execTableLoad p bad s := rfl
theorem exec_engineRestart (e : Fin 192) : exec (.engineRestart p e) s =
    if !s.serves p 0x31 then .next s
    else if s.engRetired e then .next (s.answerFree p rRefused [])
    else .next ((s.restartEng e).answerFree p rOk []) := rfl
theorem exec_unitRetire : exec (.unitRetire p) s = execUnitRetire p s := rfl
theorem exec_mailboxReset (sys : Bool) : exec (.mailboxReset p sys) s =
    if !s.serves p 0x60 then .next s
    else .next (if sys then (s.answerFree p rOk []).sysReset 2 else (s.answerFree p rOk []).mcReset 5) := rfl
theorem exec_attestReport : exec (.attestReport p) s = execAttestReport p s := rfl
theorem exec_attestCertificate : exec (.attestCertificate p) s =
    if !s.serves p 0x50 || s.payN p 0 1 != 1 then .next s
    else if !s.mc.keyReady then .next (s.answerFree p rBusy [])
    else if s.payN p 1 3 ≠ 0 then .next (s.answerFree p rBadArgs [])
    else .next (s.answerFree p rOk ((s.certificate.drop (s.payN p 4 4)).take 4064)) := rfl
theorem exec_logRead : exec (.logRead p) s = execLogRead p s := rfl

end Exec

/-! ### TABLE_LOAD (R488) -/

/-- What a TABLE_LOAD at the head of port `p` names: lane, bank, kinds and DDR4 address. -/
structure State.asksTables (s : State) (p : Fin 2) (l bank kinds a : Nat) : Prop where
  served : s.serves p 0x30 = true
  lane_eq : l = s.payN p 0 1
  bank_eq : bank = s.payN p 1 1
  kinds_eq : kinds = s.payN p 2 1
  addr_eq : a = s.payN p 8 8

/-- Its fields are in range, and the set is not the active one. -/
structure State.tablesFit (s : State) (p : Fin 2) (l bank kinds : Nat) : Prop where
  lane_lt : l < 96
  bank_le : bank ≤ 1
  kinds_le : kinds ≤ 7
  reserved : s.payN p 3 1 = 0
  inactive : s.get (BAY_COND_STATUS_ACTIVE_SET l) ≠ bank

/-- The bytes that the tables of a load take. -/
def State.loadBytes (s : State) (l bank kinds a : Nat) : Nat :=
  match (s.loadParts l bank kinds a).getLast? with | some x => x.2.1 + x.2.2.2 - a | none => 0

theorem State.loadBytes_eq (s : State) (l bank kinds a : Nat) : s.loadBytes l bank kinds a =
    (s.loadParts l bank kinds a).getLast?.elim 0 fun x => x.2.1 + x.2.2.2 - a := by
  rw [State.loadBytes]
  cases (s.loadParts l bank kinds a).getLast? <;> rfl

/-- The units of a load that are uncorrectable: those that are reported, and every unit of a retired channel (R355). -/
def State.unitBad (s : State) (bad : List Nat) (a b : Nat) : Bool :=
  s.ddrRetired (a / 2 ^ 36 % 8) || decide (b ∈ bad)

section TableLoad
variable {s : State} {p : Fin 2} {bad : List Nat} {l bank kinds a : Nat}

/-- The fields are judged, then the lane's swap. -/
theorem exec_tableLoad_served (h : s.asksTables p l bank kinds a) : exec (.tableLoad p bad) s =
    if 96 ≤ l || 1 < bank || 7 < kinds || s.payN p 3 1 != 0 || s.get (BAY_COND_STATUS_ACTIVE_SET l) == bank then
      .next (s.answerFree p rBadArgs [])
    else if s.flag (BAY_COND_STATUS_SWAP_WAIT l) then .next (s.answerFree p rInUse [])
    else if a % 64 != 0 || !s.inRef a (s.loadBytes l bank kinds a) then .next (s.answerFree p rBadArgs [])
    else match (s.loadAll l (s.unitBad bad a) (s.loadParts l bank kinds a)).2 with
      | some k => .next ((s.loadAll l (s.unitBad bad a) (s.loadParts l bank kinds a)).1.answer p rRefused k [])
      | none => .next ((s.loadAll l (s.unitBad bad a) (s.loadParts l bank kinds a)).1.answerFree p rOk []) := by
  obtain ⟨hserved, hlane, hbank, hkinds, haddr⟩ := h
  rw [exec_tableLoad, execTableLoad, if_neg (by simp [hserved]), ← hlane, ← hbank, ← hkinds, ← haddr]
  rfl

theorem State.tablesFit.accepts (h : s.tablesFit p l bank kinds) :
    ¬ (96 ≤ l || 1 < bank || 7 < kinds || s.payN p 3 1 != 0 || s.get (BAY_COND_STATUS_ACTIVE_SET l) == bank) = true := by
  obtain ⟨hlane, hbank, hkinds, hres, hinactive⟩ := h
  simp [hlane, hbank, hkinds, hres, hinactive]

/-- A load that fits, with no swap waiting, is judged by where its bytes lie. -/
theorem exec_tableLoad_fits (h : s.asksTables p l bank kinds a) (hfit : s.tablesFit p l bank kinds)
    (hidle : s.flag (BAY_COND_STATUS_SWAP_WAIT l) = false) : exec (.tableLoad p bad) s =
    if a % 64 != 0 || !s.inRef a (s.loadBytes l bank kinds a) then .next (s.answerFree p rBadArgs [])
    else match (s.loadAll l (s.unitBad bad a) (s.loadParts l bank kinds a)).2 with
      | some k => .next ((s.loadAll l (s.unitBad bad a) (s.loadParts l bank kinds a)).1.answer p rRefused k [])
      | none => .next ((s.loadAll l (s.unitBad bad a) (s.loadParts l bank kinds a)).1.answerFree p rOk []) := by
  rw [exec_tableLoad_served h, if_neg hfit.accepts, if_neg (by simp [hidle])]

end TableLoad

section Served
variable {s : State} {p : Fin 2}

/-- A request to retire that is refused is logged, 0x8073, with its result (R496). -/
def State.retireRefused (s : State) (p : Fin 2) (kind i result : Nat) : State :=
  (s.logC 0x8073 noUnit (kind * 2 ^ 28 + result * 2 ^ 24 + i)).answerFree p result []

theorem exec_unitRetire_served {kind i : Nat} (hserved : s.serves p 0x32 = true) (hkind : kind = s.payN p 0 1)
    (hi : i = s.payN p 1 1) : exec (.unitRetire p) s =
      if unitCount kind ≤ i || s.payN p 2 2 != 0 then .next (s.retireRefused p kind i rBadArgs)
      else if s.get GLOBAL_BOOT_STATUS_STAGE != 9 then .next (s.retireRefused p kind i rRefused)
      else if s.unitGone kind i then .next (s.answer p rOk 1 [])
      else .next ((s.retireUnit kind i).answer p rOk 0 []) := by
  subst hkind hi
  rw [exec_unitRetire, execUnitRetire, if_neg (by simp [hserved])]
  rfl

/-- The signature that a report carries: at most 1462 bytes over its covered bytes (R476). -/
def reportSignature (body : List Byte) : List Byte := (Config.falconSign (signedMsg ctxAt body)).take 1462

theorem exec_attestReport_served (hserved : s.serves p 0x50 = true) (hsub : s.payN p 0 1 ≠ 1) :
    exec (.attestReport p) s =
      if !s.mc.keyReady then .next (s.answerFree p rBusy [])
      else if s.payN p 0 4 ≠ 0 then .next (s.answerFree p rBadArgs [])
      else .next ((s.logC 0x806A noUnit 0).answerFree p rOk (s.reportBody (s.payBytes p 4 32) ++
        toBytes 2 (reportSignature (s.reportBody (s.payBytes p 4 32))).length ++
        reportSignature (s.reportBody (s.payBytes p 4 32)))) := by
  rw [exec_attestReport, execAttestReport, if_neg (by simp [hserved, hsub])]
  rfl

theorem exec_attestCertificate_served (hserved : s.serves p 0x50 = true) (hsub : s.payN p 0 1 = 1) :
    exec (.attestCertificate p) s =
      if !s.mc.keyReady then .next (s.answerFree p rBusy [])
      else if s.payN p 1 3 ≠ 0 then .next (s.answerFree p rBadArgs [])
      else .next (s.answerFree p rOk ((s.certificate.drop (s.payN p 4 4)).take 4064)) := by
  rw [exec_attestCertificate, if_neg (by simp [hserved, hsub])]

theorem exec_logRead_served (hserved : s.serves p 0x70 = true) : exec (.logRead p) s =
    if 1 < s.payN p 0 1 ∨ s.payN p 1 3 ≠ 0 ∨ s.payN p 8 2 = 0 ∨ 254 < s.payN p 8 2 then .next (s.answerFree p rBadArgs [])
    else if s.payN p 0 1 = 0 then
      .next (s.answer p rOk (s.readRing (s.payN p 4 4) (s.payN p 8 2)).1 (s.readRing (s.payN p 4 4) (s.payN p 8 2)).2)
    else
      .next (s.answer p rOk (s.readFlash (s.payN p 4 4) (s.payN p 8 2)).1 (s.readFlash (s.payN p 4 4) (s.payN p 8 2)).2) := by
  rw [exec_logRead, execLogRead, if_neg (by simp [hserved])]
  by_cases hring : s.payN p 0 1 = 0 <;> simp only [hring, if_true, if_false]

/-- A read that is in range reads the ring or the flash copy, as its first byte says (R469). -/
theorem exec_logRead_inRange {n : Nat} (hserved : s.serves p 0x70 = true) (hwhere : s.payN p 0 1 ≤ 1) (hres : s.payN p 1 3 = 0)
    (hn : n = s.payN p 8 2) (hsome : n ≠ 0) (hmost : n ≤ 254) : exec (.logRead p) s =
      if s.payN p 0 1 = 0 then .next (s.answer p rOk (s.readRing (s.payN p 4 4) n).1 (s.readRing (s.payN p 4 4) n).2)
      else .next (s.answer p rOk (s.readFlash (s.payN p 4 4) n).1 (s.readFlash (s.payN p 4 4) n).2) := by
  subst hn
  rw [exec_logRead_served hserved, if_neg (by omega)]

end Served

/-- Settles O39: a request that is served is judged in order, and the first check that decides gives its answer. -/
theorem mailboxServiceComplete : Obligations.MailboxServiceComplete := by
  refine ⟨?load, ?loadRefused, ?loadElsewhere, ?loadInUse, ?loadBadArgs, ?loadNone, ?restart, ?restartRefused, ?restartNone,
    ?retire, ?retireGone, ?retireEarly, ?retireBadArgs, ?retireNone, ?resetSystem, ?resetMc, ?resetNone,
    ?report, ?reportBadArgs, ?reportBusy, ?reportNone, ?certificate, ?certificateBadArgs, ?certificateBusy, ?certificateNone,
    ?logRing, ?logFlash, ?logBadArgs, ?logNone⟩
  case load =>
    intro s p bad l bank kinds a n x hserved hl hbank hkinds ha hlane hset hkind hres hinactive hidle hn halign href hload
    subst hn
    change s.loadAll l (s.unitBad bad a) _ = _ at hload
    rw [exec_tableLoad_fits ⟨hserved, hl, hbank, hkinds, ha⟩ ⟨hlane, hset, hkind, hres, hinactive⟩ hidle,
      if_neg (by simp [halign, State.loadBytes_eq, href]), hload]
  case loadRefused =>
    intro s p bad l bank kinds a n x k hserved hl hbank hkinds ha hlane hset hkind hres hinactive hidle hn halign href hload
    subst hn
    change s.loadAll l (s.unitBad bad a) _ = _ at hload
    rw [exec_tableLoad_fits ⟨hserved, hl, hbank, hkinds, ha⟩ ⟨hlane, hset, hkind, hres, hinactive⟩ hidle,
      if_neg (by simp [halign, State.loadBytes_eq, href]), hload]
  case loadElsewhere =>
    intro s p bad l bank kinds a n hserved hl hbank hkinds ha hlane hset hkind hres hinactive hidle hn hbad
    subst hn
    rw [exec_tableLoad_fits ⟨hserved, hl, hbank, hkinds, ha⟩ ⟨hlane, hset, hkind, hres, hinactive⟩ hidle,
      if_pos (by simpa [State.loadBytes_eq] using hbad)]
  case loadInUse =>
    intro s p bad l bank kinds a hserved hl hbank hkinds ha hlane hset hkind hres hinactive hwaits
    have hfit : s.tablesFit p l bank kinds := ⟨hlane, hset, hkind, hres, hinactive⟩
    rw [exec_tableLoad_served ⟨hserved, hl, hbank, hkinds, ha⟩, if_neg hfit.accepts, if_pos hwaits]
  case loadBadArgs =>
    intro s p bad l bank kinds a hserved hl hbank hkinds ha hbad
    rw [exec_tableLoad_served ⟨hserved, hl, hbank, hkinds, ha⟩, if_pos (by simpa [or_assoc] using hbad)]
  case loadNone =>
    intro s p bad hunserved
    rw [exec_tableLoad, execTableLoad, if_pos (by simp [hunserved])]
  case restart =>
    intro s p e hserved hserves
    rw [exec_engineRestart, if_neg (by simp [hserved]), if_neg (by simp [hserves])]
  case restartRefused =>
    intro s p e hserved hretired
    rw [exec_engineRestart, if_neg (by simp [hserved]), if_pos hretired]
  case restartNone =>
    intro s p e hunserved
    rw [exec_engineRestart, if_pos (by simp [hunserved])]
  case retire =>
    intro s p k i hserved hk hi hcount hres hstage hserves
    rw [exec_unitRetire_served hserved hk hi, if_neg (by simp [hcount, hres]), if_neg (by simp [hstage]),
      if_neg (by simp [hserves])]
  case retireGone =>
    intro s p k i hserved hk hi hcount hres hstage hgone
    rw [exec_unitRetire_served hserved hk hi, if_neg (by simp [hcount, hres]), if_neg (by simp [hstage]), if_pos hgone]
  case retireEarly =>
    intro s p k i hserved hk hi hcount hres hstage
    rw [exec_unitRetire_served hserved hk hi, if_neg (by simp [hcount, hres]), if_pos (bne_iff_ne.2 hstage),
      State.retireRefused]
  case retireBadArgs =>
    intro s p k i hserved hk hi hbad
    rw [exec_unitRetire_served hserved hk hi, if_pos (by simpa using hbad), State.retireRefused]
  case retireNone =>
    intro s p hunserved
    rw [exec_unitRetire, execUnitRetire, if_pos (by simp [hunserved])]
  case resetSystem =>
    intro s p hserved
    rw [exec_mailboxReset, if_neg (by simp [hserved]), if_pos rfl]
  case resetMc =>
    intro s p hserved
    rw [exec_mailboxReset, if_neg (by simp [hserved]), if_neg Bool.false_ne_true]
  case resetNone =>
    intro s p sys hunserved
    rw [exec_mailboxReset, if_pos (by simp [hunserved])]
  case report =>
    intro s p hserved hsub hkey hres
    rw [exec_attestReport_served hserved hsub, if_neg (by simp [hkey]), if_neg (not_not.2 hres), reportSignature]
  case reportBadArgs =>
    intro s p hserved hsub hkey hres
    rw [exec_attestReport_served hserved hsub, if_neg (by simp [hkey]), if_pos hres]
  case reportBusy =>
    intro s p hserved hsub hkey
    rw [exec_attestReport_served hserved hsub, if_pos (by simp [hkey])]
  case reportNone =>
    intro s p hother
    rw [exec_attestReport, execAttestReport, if_pos (by simpa using hother)]
  case certificate =>
    intro s p hserved hsub hkey hres
    rw [exec_attestCertificate_served hserved hsub, if_neg (by simp [hkey]), if_neg (not_not.2 hres)]
  case certificateBadArgs =>
    intro s p hserved hsub hkey hres
    rw [exec_attestCertificate_served hserved hsub, if_neg (by simp [hkey]), if_pos hres]
  case certificateBusy =>
    intro s p hserved hsub hkey
    rw [exec_attestCertificate_served hserved hsub, if_pos (by simp [hkey])]
  case certificateNone =>
    intro s p hother
    rw [exec_attestCertificate, if_pos (by simpa using hother)]
  case logRing =>
    intro s p n hserved hring hres hn hsome hmost
    rw [exec_logRead_inRange hserved (by omega) hres hn hsome hmost, if_pos hring]
  case logFlash =>
    intro s p n hserved hflash hres hn hsome hmost
    rw [exec_logRead_inRange hserved (by omega) hres hn hsome hmost, if_neg (by omega)]
  case logBadArgs =>
    intro s p hserved hbad
    rw [exec_logRead_served hserved, if_pos hbad]
  case logNone =>
    intro s p hunserved
    rw [exec_logRead, execLogRead, if_pos (by simp [hunserved])]

end Sys2Proof.Machine
end
